-- ==== Sys2Proof/Word.lean ====
section
/-! DEFINITION. The words the manual names: object types (R457), tags and identifiers of chapter 00, port and core numbers. -/
namespace Sys2Proof

/-- One byte of memory, of a message or of a table. -/
abbrev Byte := BitVec 8
abbrev U8 := BitVec 8
abbrev U16 := BitVec 16
abbrev U32 := BitVec 32
abbrev U64 := BitVec 64
abbrev U128 := BitVec 128
/-- Chip number, 17 bits (chapter 00, Addresses and tags). -/
abbrev CN := BitVec 17
/-- Port number p: 0 to 7 are TL0 to TL7, 8 to 23 are FL0 to FL15 (R231). -/
abbrev Port := Fin 24
/-- Vector core VC0 to VC15. -/
abbrev Core := Fin 16
/-- Update pipeline UP0 to UP7. -/
abbrev Pipe := Fin 8
/-- Mover channel MV0 to MV63. -/
abbrev Chan := Fin 64
/-- A circuit port FL8 to FL15, in port order (R276). -/
abbrev Circ := Fin 8

/-- The tiers a global address can reach (R203). -/
inductive Tier where
  | h | l
deriving DecidableEq, Repr

/-- The four tier numbers of event arguments (R429). -/
def Tier.code : Tier → Byte
  | .h => 0
  | .l => 1

/-- The access paths of the object server (R470). -/
inductive Path where
  | window | ring | ma | mb
  | tunnel (p : Port)
deriving DecidableEq, Repr

/-- The supply rails of R538. -/
inductive Rail where
  | vddKeep | vio18 | vio33 | vioMod | vinCore | vddSd | vddaSd | vddqL | vddOe | vppH | vddcH | vddqH
deriving DecidableEq, Repr

end Sys2Proof
end

