-- ==== Sys2Proof/Syntax.lean ====
section
/-! DEFINITION. The commands of the KV-740: one constructor of Instr for each row of spec/opcode_table.json, with the operands
its rule names, and the packets, blocks and instruction fields those operands are made of. -/
namespace Sys2Proof

/-- The fields of a tensor block header (R37), in header order; the reserved bytes 58 to 63 are ignored (R16). -/
structure Header where
  typ : U8
  fmt : U8
  flags : U16
  jt : U16
  epoch : U32
  step : U32
  ts : U32
  blk : U32
  contrib : U32
  anchor : U16
  count : U16
  src : U32
  dst : U32
  offset : U64
  payCrc : U64
  hdrCrc : U32
deriving DecidableEq, Repr

/-- A tensor block (R36). The list gives the first payload bytes; the rest of the 4,096 are zero. -/
structure Block where
  hdr : Header
  payload : List Byte
deriving DecidableEq, Repr

/-- A transaction packet (R247): operand A as 128 bits and B, C as 64 bits, byte 0 lowest; body bytes as carried. -/
structure Trans where
  op : U8
  flags : U16
  jt : U16
  epoch : U32
  step : U32
  a : U128
  src : U32
  dst : U32
  b : U64
  c : U64
  hdrCrc : U32
  body : List Byte
deriving DecidableEq, Repr

/-- A packet of either form (R246). -/
inductive Packet where
  | block (b : Block)
  | trans (t : Trans)
deriving DecidableEq, Repr

/-- What the start-up sequence meets that is not in the device's state (R487, R492, R228, R490): whether the ROM check and the
identity reconstruction succeed, which stack or package, if any, fails training, and whether the firmware reaches step 8. -/
structure BootWorld where
  romOk : Bool
  identityOk : Bool
  trainFail : Option (Tier × U8)
  confirms : Bool
deriving DecidableEq, Repr

/-- VE layout (R169); for VE_CVT vb holds the target format code (R170). -/
structure VeArgs where
  vd : BitVec 5
  va : BitVec 5
  vb : BitVec 5
  s : Bool
  negb : Bool
  absa : Bool
  pg : BitVec 3
deriving DecidableEq, Repr
/-- VC layout (R169). -/
structure VcArgs where
  pd : BitVec 3
  combine : BitVec 2
  va : BitVec 5
  vb : BitVec 5
  s : Bool
  negb : Bool
  absa : Bool
  pg : BitVec 3
deriving DecidableEq, Repr
/-- VI layout (R169). -/
structure ViArgs where
  vd : BitVec 5
  va : BitVec 5
  vb : BitVec 5
  s : Bool
  pg : BitVec 3
deriving DecidableEq, Repr
/-- VRED layout (R169). -/
structure VredArgs where
  fd : BitVec 5
  va : BitVec 5
  pg : BitVec 3
deriving DecidableEq, Repr
/-- VMOV layout (R169). -/
structure VmovArgs where
  d : BitVec 5
  a : BitVec 5
  b : BitVec 5
  pg : BitVec 3
deriving DecidableEq, Repr
/-- PR layout (R169). -/
structure PrArgs where
  pd : BitVec 3
  pa : BitVec 3
  pb : BitVec 3
  x : BitVec 5
deriving DecidableEq, Repr
/-- XR layout (R169). -/
structure XrArgs where
  xd : BitVec 5
  xa : BitVec 5
  xb : BitVec 5
deriving DecidableEq, Repr
/-- XI layout (R169). -/
structure XiArgs where
  xd : BitVec 5
  xa : BitVec 5
  imm : BitVec 12
deriving DecidableEq, Repr
/-- FOP layout (R169); w is the width bit; for FOP_CVT fb holds the target format code. -/
structure FopArgs where
  fd : BitVec 5
  fa : BitVec 5
  fb : BitVec 5
  w : Bool
  negb : Bool
  absa : Bool
deriving DecidableEq, Repr
/-- LDX, STX layout (R169). -/
structure LsxArgs where
  x : BitVec 5
  xa : BitVec 5
  size : BitVec 3
  g : Bool
  off : BitVec 12
deriving DecidableEq, Repr
/-- LDF, STF layout (R169). -/
structure LsfArgs where
  f : BitVec 5
  xa : BitVec 5
  w : Bool
  g : Bool
  off : BitVec 12
deriving DecidableEq, Repr
/-- VLD, VST, VGATH, VSCAT layout (R169): xb is the stride register, or the index vector. -/
structure VmemArgs where
  v : BitVec 5
  xa : BitVec 5
  xb : BitVec 5
  fmt : BitVec 4
  g : Bool
  pg : BitVec 3
deriving DecidableEq, Repr

/-- What a mover read brings back (R345, R354): the data of its own tiers, or the READ_RESP of a remote end. -/
inductive MoverRead where
  | own
  | remote (status : U8) (data : List Byte)
deriving DecidableEq, Repr

/-- Where a key of a session or duplicate entry comes from (R465, R467). -/
structure SessionKey where
  client : U32
  index : U16
  sub : U8
deriving DecidableEq, Repr

/-- The cases of R422 in which a gambit is aborted. -/
inductive AbortCause where
  | temperature | state | units | deadline
deriving DecidableEq, Repr

/-- What takes a reservoir out of service (R510). -/
inductive ResCause where
  | removed | overVoltage | overTemperature | telemetry | ledger
deriving DecidableEq, Repr

/-- The commands of the device (spec/opcode_table.json), one constructor per row; each docstring names the rule. -/
inductive Instr where
  /-- R487. -/
  | powerOn (w : BootWorld)
  /-- R487. -/
  | bootLate (step : U8)
  /-- R490. -/
  | bootWatchdogExpiry
  /-- R542. -/
  | sysRstNFall
  /-- R542. -/
  | wrstNFall (late : Bool)
  /-- R485. -/
  | resetActionWarm (late : Bool)
  /-- R485. -/
  | resetActionCold
  /-- R514. -/
  | powerLoss
  /-- R540. -/
  | railFault (rail : Rail) (mv : U16)
  /-- R544. -/
  | sysclkLost
  /-- R477. -/
  | hostLinkReset
  /-- R127. -/
  | stepSizeWrite (v : U64)
  /-- R128. -/
  | stepSizeLate (step : U32)
  /-- R23. -/
  | stepFenceWrite (v : U32)
  /-- R24. -/
  | fenceTimeout
  /-- R29. -/
  | sealStep
  /-- R18. -/
  | stepSealedReceive (port : Port) (pk : Trans)
  /-- R251. -/
  | stepFailedReceive (port : Port) (pk : Trans)
  /-- R30. -/
  | jobCommitReceive (port : Port) (pk : Trans)
  /-- R75. -/
  | stepOpenSend
  /-- R76. -/
  | anchorLate (step : U32)
  /-- R84. -/
  | pieceArrival (port : Port) (blk : Block)
  /-- R85. -/
  | windowUnpark (ts : U32) (step : U32) (w : U32)
  /-- R91. -/
  | anchorResendReqReceive (port : Port) (pk : Trans)
  /-- R87. -/
  | treeBlockAckReceive (port : Port) (pk : Trans)
  /-- R100. -/
  | scalarFenceWrite (v : U64)
  /-- R100. -/
  | scalarSendUp (slot : U8)
  /-- R100. -/
  | scalarReduceReceive (port : Port) (pk : Trans)
  /-- R97. -/
  | slotConfigWrite (bytes : List Byte)
  /-- R80. -/
  | treeTableWrite (bytes : List Byte)
  /-- R136. -/
  | heldSecondPass (ts : U32) (w : U32)
  /-- R112. -/
  | windowDispatch (ts : U32) (w : U32) (replica : Bool)
  /-- R141. -/
  | windowWriteback (pipe : Pipe)
  /-- R145. -/
  | pipeParity (pipe : Pipe) (stage : U8)
  /-- R133. -/
  | haltReleaseWrite (v : U32)
  /-- R134. -/
  | maskStageWrite (bytes : List Byte)
  /-- R147. -/
  | programSlotWrite (slot : Fin 16) (bytes : List Byte)
  /-- R149. -/
  | tensorTableWrite (bytes : List Byte)
  /-- R159. -/
  | invocationDispatch (ts : U32) (w : U32)
  /-- R162. -/
  | invocationCommit (c : Core)
  /-- R165. -/
  | vcBudget (c : Core)
  /-- R166. -/
  | vcParity (c : Core) (unit : U8)
  /-- R168. -/
  | vcCheck (c : Core)
  /-- R175. -/
  | vcLoadComplete (c : Core)
  /-- R176. -/
  | codeSlotWrite (slot : Fin 16) (bytes : List Byte)
  /-- R177. -/
  | vectorEntryWrite (bytes : List Byte)
  /-- R171. -/
  | sysNop (c : Core)
  /-- R160. -/
  | endOp (c : Core) (xa : BitVec 5)
  /-- R171. -/
  | faultOp (c : Core) (xa : BitVec 5)
  /-- R170. -/
  | veNop (c : Core) (a : VeArgs)
  /-- R170. -/
  | veMov (c : Core) (a : VeArgs)
  /-- R170. -/
  | veAdd (c : Core) (a : VeArgs)
  /-- R170. -/
  | veSub (c : Core) (a : VeArgs)
  /-- R170. -/
  | veMul (c : Core) (a : VeArgs)
  /-- R170. -/
  | veFma (c : Core) (a : VeArgs)
  /-- R170. -/
  | veFms (c : Core) (a : VeArgs)
  /-- R170. -/
  | veDiv (c : Core) (a : VeArgs)
  /-- R170. -/
  | veSqrt (c : Core) (a : VeArgs)
  /-- R170. -/
  | veRsqrt (c : Core) (a : VeArgs)
  /-- R170. -/
  | veRcp (c : Core) (a : VeArgs)
  /-- R170. -/
  | veMax (c : Core) (a : VeArgs)
  /-- R170. -/
  | veMin (c : Core) (a : VeArgs)
  /-- R170. -/
  | veAbs (c : Core) (a : VeArgs)
  /-- R170. -/
  | veNeg (c : Core) (a : VeArgs)
  /-- R170. -/
  | veSign (c : Core) (a : VeArgs)
  /-- R170. -/
  | veSel (c : Core) (a : VeArgs)
  /-- R170. -/
  | veCmplt (c : Core) (a : VeArgs)
  /-- R170. -/
  | veCmple (c : Core) (a : VeArgs)
  /-- R170. -/
  | veCmpeq (c : Core) (a : VeArgs)
  /-- R170. -/
  | veClamp (c : Core) (a : VeArgs)
  /-- R170. -/
  | veCvt (c : Core) (a : VeArgs)
  /-- R171. -/
  | test (c : Core) (a : VcArgs)
  /-- R171. -/
  | vcCmplt (c : Core) (a : VcArgs)
  /-- R171. -/
  | vcCmple (c : Core) (a : VcArgs)
  /-- R171. -/
  | vcCmpeq (c : Core) (a : VcArgs)
  /-- R171. -/
  | iadd (c : Core) (a : ViArgs)
  /-- R171. -/
  | isub (c : Core) (a : ViArgs)
  /-- R171. -/
  | imul (c : Core) (a : ViArgs)
  /-- R171. -/
  | iand (c : Core) (a : ViArgs)
  /-- R171. -/
  | ior (c : Core) (a : ViArgs)
  /-- R171. -/
  | ixor (c : Core) (a : ViArgs)
  /-- R171. -/
  | ishl (c : Core) (a : ViArgs)
  /-- R171. -/
  | ishr (c : Core) (a : ViArgs)
  /-- R171. -/
  | isra (c : Core) (a : ViArgs)
  /-- R171. -/
  | iminu (c : Core) (a : ViArgs)
  /-- R171. -/
  | imaxu (c : Core) (a : ViArgs)
  /-- R171. -/
  | f2i (c : Core) (a : ViArgs)
  /-- R171. -/
  | i2f (c : Core) (a : ViArgs)
  /-- R171. -/
  | iidx (c : Core) (a : ViArgs)
  /-- R171. -/
  | vredAdd (c : Core) (a : VredArgs)
  /-- R171. -/
  | vredMax (c : Core) (a : VredArgs)
  /-- R171. -/
  | vredMin (c : Core) (a : VredArgs)
  /-- R171. -/
  | vbcast (c : Core) (a : VmovArgs)
  /-- R171. -/
  | vbcastx (c : Core) (a : VmovArgs)
  /-- R171. -/
  | vext (c : Core) (a : VmovArgs)
  /-- R171. -/
  | vins (c : Core) (a : VmovArgs)
  /-- R171. -/
  | vmovr (c : Core) (a : VmovArgs)
  /-- R171. -/
  | vperm (c : Core) (a : VmovArgs)
  /-- R171. -/
  | pand (c : Core) (a : PrArgs)
  /-- R171. -/
  | por (c : Core) (a : PrArgs)
  /-- R171. -/
  | pxor (c : Core) (a : PrArgs)
  /-- R171. -/
  | pandn (c : Core) (a : PrArgs)
  /-- R171. -/
  | pnot (c : Core) (a : PrArgs)
  /-- R171. -/
  | pset (c : Core) (a : PrArgs)
  /-- R171. -/
  | pclr (c : Core) (a : PrArgs)
  /-- R171. -/
  | pcount (c : Core) (a : PrArgs)
  /-- R171. -/
  | ptox (c : Core) (a : PrArgs)
  /-- R171. -/
  | pfromx (c : Core) (a : PrArgs)
  /-- R171. -/
  | pfirst (c : Core) (a : PrArgs)
  /-- R171. -/
  | plt (c : Core) (a : PrArgs)
  /-- R171. -/
  | xrAdd (c : Core) (a : XrArgs)
  /-- R171. -/
  | xrSub (c : Core) (a : XrArgs)
  /-- R171. -/
  | xrMul (c : Core) (a : XrArgs)
  /-- R171. -/
  | mulhu (c : Core) (a : XrArgs)
  /-- R171. -/
  | divu (c : Core) (a : XrArgs)
  /-- R171. -/
  | remu (c : Core) (a : XrArgs)
  /-- R171. -/
  | xrAnd (c : Core) (a : XrArgs)
  /-- R171. -/
  | xrOr (c : Core) (a : XrArgs)
  /-- R171. -/
  | xrXor (c : Core) (a : XrArgs)
  /-- R171. -/
  | sll (c : Core) (a : XrArgs)
  /-- R171. -/
  | srl (c : Core) (a : XrArgs)
  /-- R171. -/
  | sra (c : Core) (a : XrArgs)
  /-- R171. -/
  | slt (c : Core) (a : XrArgs)
  /-- R171. -/
  | sltu (c : Core) (a : XrArgs)
  /-- R171. -/
  | minu (c : Core) (a : XrArgs)
  /-- R171. -/
  | maxu (c : Core) (a : XrArgs)
  /-- R171. -/
  | addi (c : Core) (a : XiArgs)
  /-- R171. -/
  | andi (c : Core) (a : XiArgs)
  /-- R171. -/
  | ori (c : Core) (a : XiArgs)
  /-- R171. -/
  | xori (c : Core) (a : XiArgs)
  /-- R171. -/
  | slti (c : Core) (a : XiArgs)
  /-- R171. -/
  | sltiu (c : Core) (a : XiArgs)
  /-- R171. -/
  | slli (c : Core) (a : XiArgs)
  /-- R171. -/
  | srli (c : Core) (a : XiArgs)
  /-- R171. -/
  | srai (c : Core) (a : XiArgs)
  /-- R169. -/
  | lui (c : Core) (xd : BitVec 5) (imm : BitVec 21)
  /-- R171. -/
  | br (c : Core) (xa : BitVec 5) (xb : BitVec 5) (cond : BitVec 3) (off : BitVec 13)
  /-- R169. -/
  | jal (c : Core) (xd : BitVec 5) (off : BitVec 21)
  /-- R169. -/
  | jalr (c : Core) (xd : BitVec 5) (xa : BitVec 5)
  /-- R171. -/
  | bp (c : Core) (pn : BitVec 3) (cond : BitVec 2) (off : BitVec 21)
  /-- R171. -/
  | fopNop (c : Core) (a : FopArgs)
  /-- R171. -/
  | fopMov (c : Core) (a : FopArgs)
  /-- R171. -/
  | fopAdd (c : Core) (a : FopArgs)
  /-- R171. -/
  | fopSub (c : Core) (a : FopArgs)
  /-- R171. -/
  | fopMul (c : Core) (a : FopArgs)
  /-- R171. -/
  | fopFma (c : Core) (a : FopArgs)
  /-- R171. -/
  | fopFms (c : Core) (a : FopArgs)
  /-- R171. -/
  | fopDiv (c : Core) (a : FopArgs)
  /-- R171. -/
  | fopSqrt (c : Core) (a : FopArgs)
  /-- R171. -/
  | fopRsqrt (c : Core) (a : FopArgs)
  /-- R171. -/
  | fopRcp (c : Core) (a : FopArgs)
  /-- R171. -/
  | fopMax (c : Core) (a : FopArgs)
  /-- R171. -/
  | fopMin (c : Core) (a : FopArgs)
  /-- R171. -/
  | fopAbs (c : Core) (a : FopArgs)
  /-- R171. -/
  | fopNeg (c : Core) (a : FopArgs)
  /-- R171. -/
  | fopSign (c : Core) (a : FopArgs)
  /-- R171. -/
  | fopSel (c : Core) (a : FopArgs)
  /-- R171. -/
  | fopCmplt (c : Core) (a : FopArgs)
  /-- R171. -/
  | fopCmple (c : Core) (a : FopArgs)
  /-- R171. -/
  | fopCmpeq (c : Core) (a : FopArgs)
  /-- R171. -/
  | fopClamp (c : Core) (a : FopArgs)
  /-- R171. -/
  | fopCvt (c : Core) (a : FopArgs)
  /-- R171. -/
  | fmvxf (c : Core) (d : BitVec 5) (a : BitVec 5)
  /-- R171. -/
  | fmvfx (c : Core) (d : BitVec 5) (a : BitVec 5)
  /-- R171. -/
  | fcvtxf (c : Core) (d : BitVec 5) (a : BitVec 5)
  /-- R171. -/
  | fcvtfx (c : Core) (d : BitVec 5) (a : BitVec 5)
  /-- R172. -/
  | ldx (c : Core) (a : LsxArgs)
  /-- R172. -/
  | stx (c : Core) (a : LsxArgs)
  /-- R172. -/
  | ldf (c : Core) (a : LsfArgs)
  /-- R172. -/
  | stf (c : Core) (a : LsfArgs)
  /-- R173. -/
  | vld (c : Core) (a : VmemArgs)
  /-- R173. -/
  | vst (c : Core) (a : VmemArgs)
  /-- R173. -/
  | vgath (c : Core) (a : VmemArgs)
  /-- R173. -/
  | vscat (c : Core) (a : VmemArgs)
  /-- R161. -/
  | bldb (c : Core) (xd : BitVec 5) (xa : BitVec 5) (xs : BitVec 5) (sel : BitVec 4)
  /-- R161. -/
  | bstb (c : Core) (xa : BitVec 5) (xs : BitVec 5) (sel : BitVec 4)
  /-- R184. -/
  | streamProgramTableWrite (bytes : List Byte)
  /-- R184. -/
  | segmentTableWrite (bytes : List Byte)
  /-- R185. -/
  | streamStartAction (v : U64)
  /-- R186. -/
  | passEnd (prog : U8) (step : U32)
  /-- R192. -/
  | weightBlockSend (prog : U8) (step : U32)
  /-- R192. -/
  | streamStall (prog : U8) (step : U32) (port : Port)
  /-- R193. -/
  | weightAckTimeout (prog : U8) (step : U32) (seg : U16) (blk : U32) (dest : U32)
  /-- R193. -/
  | weightBlockAckReceive (port : Port) (pk : Trans)
  /-- R193. -/
  | weightResendReqReceive (port : Port) (pk : Trans)
  /-- R194. -/
  | weightRelay (port : Port) (blk : Block)
  /-- R205. -/
  | remoteWrite (port : Port) (pk : Trans)
  /-- R205. -/
  | remoteRead (port : Port) (pk : Trans)
  /-- R208. -/
  | regionTableWrite (bytes : List Byte)
  /-- R218. -/
  | patrolScrub (tier : Tier) (errs : List (U64 × U8))
  /-- R232. -/
  | frameSend (p : Port)
  /-- R233. -/
  | frameReceive (p : Port) (bytes : List Byte)
  /-- R236. -/
  | nakReceive (p : Port) (ack : BitVec 12)
  /-- R235. -/
  | nakRepeat (p : Port)
  /-- R237. -/
  | nakEscalation (p : Port)
  /-- R237. -/
  | linkFailed (p : Port)
  /-- R250. -/
  | packetReceive (p : Port) (vc : BitVec 3) (bytes : List Byte)
  /-- R272. -/
  | forwardAfterWait (p : Port)
  /-- R273. -/
  | transitExpired
  /-- R243. -/
  | heartbeatSend (p : Port)
  /-- R244. -/
  | heartbeatReceive (p : Port) (pk : Trans)
  /-- R255. -/
  | identReceive (p : Port) (pk : Trans)
  /-- R252. -/
  | trainingDeadlineMiss (p : Port)
  /-- R256. -/
  | portResumeRetrain (p : Port)
  /-- R256. -/
  | portFreshTraining (p : Port)
  /-- R252. -/
  | portDisable (p : Port)
  /-- R252. -/
  | portEnable (p : Port)
  /-- R258. -/
  | agentReportReceive (port : Port) (pk : Trans)
  /-- R258. -/
  | agentNoResend (p : Port) (ts : U32) (blk : U32)
  /-- R258. -/
  | agentQuarantine (p : Port)
  /-- R447. -/
  | markReceive (port : Port) (pk : Trans)
  /-- R447. -/
  | internalMark
  /-- R478. -/
  | objTunnelReceive (port : Port) (pk : Trans)
  /-- R264. -/
  | wiringMapWrite (bytes : List Byte)
  /-- R269. -/
  | shadowBankWrite (bytes : List Byte)
  /-- R270. -/
  | bankSwitchNow
  /-- R270. -/
  | bankSwitchPending (v : U32)
  /-- R281. -/
  | substitutionTableWrite (bytes : List Byte)
  /-- R277. -/
  | circuitPrepare (n : Circ) (bytes : List Byte)
  /-- R277. -/
  | circuitSwitched (n : Circ) (bytes : List Byte)
  /-- R277. -/
  | circuitRelease (n : Circ) (bytes : List Byte)
  /-- R277. -/
  | circuitDrained (n : Circ)
  /-- R277. -/
  | circuitDrainTimeout (n : Circ)
  /-- R288. -/
  | partnerConfigWrite (sub : U8) (bytes : List Byte)
  /-- R288. -/
  | pairReqReceive (port : Port) (pk : Trans)
  /-- R288. -/
  | pairAckReceive (port : Port) (pk : Trans)
  /-- R288. -/
  | pairRefuseReceive (port : Port) (pk : Trans)
  /-- R288. -/
  | pairTimeout
  /-- R288. -/
  | pairRetry
  /-- R295. -/
  | classChangeAction (bytes : List Byte)
  /-- R301. -/
  | replayGReceive (port : Port) (blk : Block)
  /-- R302. -/
  | windowRecordReceive (port : Port) (pk : Trans)
  /-- R298. -/
  | skipRecordReceive (port : Port) (pk : Trans)
  /-- R296. -/
  | syncRecordReceive (port : Port) (pk : Trans)
  /-- R296. -/
  | dropRecordReceive (port : Port) (pk : Trans)
  /-- R303. -/
  | verdictReceive (port : Port) (pk : Trans)
  /-- R305. -/
  | mirrorPReceive (port : Port) (blk : Block)
  /-- R300. -/
  | partnerBlockAckReceive (port : Port) (pk : Trans)
  /-- R300. -/
  | partnerResend (n : Nat)
  /-- R303. -/
  | replicaWindowSettle (ts : U32) (w : U32)
  /-- R308. -/
  | ownerDigestReceive (port : Port) (pk : Trans)
  /-- R308. -/
  | digestTimeout (ts : U32)
  /-- R309. -/
  | replicaDigestReceive (port : Port) (pk : Trans)
  /-- R315. -/
  | adjournmentConfigWrite (sub : U8) (v : U32)
  /-- R319. -/
  | copyStart
  /-- R321. -/
  | pageCopyAhead (addr : U64)
  /-- R320. -/
  | copyEnd
  /-- R328. -/
  | chunkStart
  /-- R329. -/
  | chunkProgrammed (ok : Bool)
  /-- R334. -/
  | storePartSend
  /-- R334. -/
  | storePartAckReceive (port : Port) (pk : Trans)
  /-- R335. -/
  | storePartRefusalReceive (port : Port) (pk : Trans)
  /-- R335. -/
  | storePartTimeout (part : U32)
  /-- R336. -/
  | storeCommitResponse (port : Port) (pk : Trans)
  /-- R336. -/
  | storeAttemptRetry
  /-- R378. -/
  | storeGetResponse (port : Port) (pk : Trans)
  /-- R338. -/
  | drainFenceAction (v : U64)
  /-- R339. -/
  | drainFenceReceive (port : Port) (pk : Trans)
  /-- R339. -/
  | drainFenceTimeout
  /-- R348. -/
  | moverStart (c : Chan)
  /-- R348. -/
  | moverAbort (c : Chan)
  /-- R352. -/
  | moverPause (c : Chan)
  /-- R352. -/
  | moverResume (c : Chan)
  /-- R351. -/
  | moverTimerTick (c : Chan)
  /-- R345. -/
  | moverReadComplete (c : Chan) (r : MoverRead)
  /-- R351. -/
  | moverPassEnd (c : Chan)
  /-- R354. -/
  | moverRemoteTimeout (c : Chan)
  /-- R356. -/
  | groupStart (g : U8)
  /-- R356. -/
  | groupRetry (g : U8)
  /-- R356. -/
  | groupAbort (g : U8)
  /-- R357. -/
  | moverReconcile
  /-- R362. -/
  | jobClaim (bytes : List Byte)
  /-- R364. -/
  | openingTreeWrite (bytes : List Byte)
  /-- R373. -/
  | openingFresh (seq : U32)
  /-- R375. -/
  | openingRestore (seq : U32)
  /-- R373. -/
  | openingResend (seq : U32)
  /-- R373. -/
  | openingInstallCmd (seq : U32) (target : U32)
  /-- R373. -/
  | openingAbandonCmd (seq : U32)
  /-- R365. -/
  | anchorsReceive (port : Port) (pk : Trans)
  /-- R368. -/
  | prepareReceive (port : Port) (pk : Trans)
  /-- R375. -/
  | surveyReceive (port : Port) (pk : Trans)
  /-- R378. -/
  | installReceive (port : Port) (pk : Trans)
  /-- R379. -/
  | installComplete
  /-- R372. -/
  | commitReceive (port : Port) (pk : Trans)
  /-- R373. -/
  | abandonReceive (port : Port) (pk : Trans)
  /-- R371. -/
  | openingAckReceive (port : Port) (pk : Trans)
  /-- R369. -/
  | openingChildMissing (cn : U32)
  /-- R374. -/
  | streamCheckReceive (port : Port) (pk : Trans)
  /-- R376. -/
  | reachReceive (port : Port) (pk : Trans)
  /-- R376. -/
  | reachTimeout
  /-- R381. -/
  | pullReqReceive (port : Port) (pk : Trans)
  /-- R381. -/
  | pullDoneReceive (port : Port) (pk : Trans)
  /-- R381. -/
  | pullTimeout (ts : U32) (stream : U8)
  /-- R387. -/
  | resignationAction (jt : U16)
  /-- R387. -/
  | resignScrubComplete (ok : Bool)
  /-- R394. -/
  | watchdogFeed (answers : Bool)
  /-- R395. -/
  | suspicionTimeout (p : Port)
  /-- R397. -/
  | suspectReceive (port : Port) (pk : Trans)
  /-- R398. -/
  | probeAnswer (pos : U32) (word : U64)
  /-- R398. -/
  | probeTimeout (pos : U32)
  /-- R401. -/
  | declareReceive (port : Port) (pk : Trans)
  /-- R403. -/
  | isolationTimeout
  /-- R404. -/
  | agentSilenceTimeout (tl : Fin 8)
  /-- R405. -/
  | evictionAction (pos : U32) (reason : U32) (key : U16)
  /-- R406. -/
  | epochFenceAction (v : U32)
  /-- R406. -/
  | epochInstallReceive (port : Port) (pk : Trans)
  /-- R406. -/
  | installedReceive (port : Port) (pk : Trans)
  /-- R415. -/
  | retireAction (unit : U16)
  /-- R417. -/
  | clearHistory (key : U16)
  /-- R418. -/
  | gambitAction (bytes : List Byte)
  /-- R420. -/
  | gambitTempStable (temp : U16)
  /-- R420. -/
  | gambitRampDone
  /-- R421. -/
  | gambitDurationEnd (errors : U32)
  /-- R422. -/
  | gambitAbort (cause : AbortCause)
  /-- R423. -/
  | gambitReplyTimeout
  /-- R413. -/
  | retestStart (unit : U16)
  /-- R433. -/
  | recorderFreeze
  /-- R433. -/
  | recorderUnfreeze
  /-- R433. -/
  | freezeTimeout
  /-- R435. -/
  | recorderClear (key : U16) (holds : Bool)
  /-- R440. -/
  | snapshot
  /-- R440. -/
  | snapshotInterval
  /-- R443. -/
  | pcSample (unit : U16) (loc : U32) (st : U8) (ctx : U8)
  /-- R446. -/
  | traceStart
  /-- R446. -/
  | traceStop
  /-- R446. -/
  | traceClear
  /-- R545. -/
  | ppsEdge (sec : U64)
  /-- R451. -/
  | alarmCoalesceExpiry (seq : U32)
  /-- R452. -/
  | alarmSend (plane : Bool)
  /-- R453. -/
  | alarmHoldResend
  /-- R453. -/
  | alarmAcknowledge (seq : U32)
  /-- R462. -/
  | objectRead (path : Path) (bytes : List Byte)
  /-- R467. -/
  | objectWrite (path : Path) (bytes : List Byte)
  /-- R469. -/
  | objectSwrite (path : Path) (bytes : List Byte)
  /-- R467. -/
  | sessionTimeout (key : SessionKey)
  /-- R474. -/
  | registerWrite (path : Path) (idx : U16) (sub : U8) (bytes : List Byte)
  /-- R472. -/
  | bar2Write
  /-- R475. -/
  | ringProduceWrite (v : U16)
  /-- R475. -/
  | ringConsumeWrite (v : U16)
  /-- R476. -/
  | interruptAck (v : U32)
  /-- R480. -/
  | configSave (v : U8)
  /-- R480. -/
  | configSaveComplete
  /-- R491. -/
  | imageStage (bytes : List Byte)
  /-- R491. -/
  | imageActivate (bytes : List Byte)
  /-- R495. -/
  | keyListWrite (bytes : List Byte) (key : U16)
  /-- R493. -/
  | attestationRequest (bytes : List Byte)
  /-- R496. -/
  | policyStage (bytes : List Byte)
  /-- R497. -/
  | policyRemoval (bytes : List Byte)
  /-- R504. -/
  | powerAverageTick (watts : U16)
  /-- R506. -/
  | thermalSample (temps : List U16)
  /-- R510. -/
  | reservoirFault (hu : Fin 2) (cause : ResCause)
  /-- R513. -/
  | ledgerReconcile (measured : List U32)
  /-- R509. -/
  | ceilingWrite (hu : Fin 2) (v : U32)
  /-- R515. -/
  | outputOvercurrent (pin : U8)
  /-- R515. -/
  | outputRelease (v : U8)
  /-- R546. -/
  | accResetReleaseWrite (v : U8)
  /-- R546. -/
  | accPwrgdFall (tl : Fin 8)
  /-- R547. -/
  | accAlert (tl : Fin 8)
  /-- R547. -/
  | accAlertNoReport (tl : Fin 8)
  /-- R547. -/
  | accTherm (tl : Fin 8)
  /-- R518. -/
  | exerciserEnter
  /-- R520. -/
  | exerciserLeave
  /-- R522. -/
  | exerciserRunStart
  /-- R522. -/
  | exerciserRunStop
  /-- R522. -/
  | runLengthExpiry
  /-- R526. -/
  | injectionAction (bytes : List Byte)
  /-- R528. -/
  | reactionDeadline (p : Port) (code : U8)
  /-- R529. -/
  | scriptEpoch
  /-- R529. -/
  | scriptStepOpen
  /-- R529. -/
  | scriptStream
  /-- R529. -/
  | scriptExpect
  /-- R530. -/
  | expectTimeout
  /-- R529. -/
  | scriptAckPolicy
  /-- R529. -/
  | scriptResend
  /-- R529. -/
  | scriptFail
  /-- R529. -/
  | scriptGambit
  /-- R529. -/
  | scriptEnd
  /-- R542. -/
  | resetRelease (w : BootWorld)
  /-- R252. -/
  | fecLock (p : Port)
  /-- R447. -/
  | markSend (p : Port)
  /-- R86. -/
  | pieceResendReqReceive (port : Port) (pk : Trans)
  /-- R62. -/
  | retentionResend (ts : U32) (w : U32)
  /-- R194. -/
  | relayRetry (prog : U8) (step : U32) (seg : U16) (blk : U32) (dest : U32)
  /-- R161. -/
  | bstbCopyComplete (c : Core)
  /-- R441. -/
  | snapshotWritten
  /-- R491. -/
  | imageSlotWritten
  /-- R465. -/
  | duplicateRetentionExpiry (client : U32) (req : U32)
  /-- R509. -/
  | reservoirCharged (hu : Fin 2)
  /-- R546. -/
  | accPwrgdRise (tl : Fin 8)
  /-- R525. -/
  | heartbeatLate (p : Port)
  /-- R525. -/
  | markLate (p : Port)
  /-- R525. -/
  | replayLate (p : Port)
deriving DecidableEq, Repr

end Sys2Proof
end

