-- ==== Sys2Proof/Decode.lean ====
section
/-! DEFINITION. The command a word spells by the bits of spec/opcode_table.json. No row of the table has bits: every row's field
list is empty, so no word spells a command (notes/assumptions/5.md). -/
namespace Sys2Proof

/-- The command read from a word of nbits bits: none, since no row gives bits. -/
def decodeTableWord (_nbits _w : Nat) : Option Instr := none

end Sys2Proof
end

