-- ==== Sys2Proof/Config.lean ====
section
/-! DEFINITION. What the manual leaves open: free values, constants with no body, so that no proof can see a value of them
(notes/assumptions/3.md). -/
namespace Sys2Proof

/-- The clock of an island in ns at a millisecond of the model's time (R444: never adjusted, each island its own). -/
opaque Config.islandNs : Nat → Nat → U64

/-- Byte i of the ECDSA signature the security engine makes on its n-th use (R387, R493): the nonce is not given. -/
opaque Config.signByte : Nat → Nat → Byte

/-- A value the manual does not state, one for each use. -/
opaque Config.freeWord : Nat → U64

/-- The byte by which an event names a cause whose codes the manual leaves open (R318, R339), by the code of the event that is
the cause. -/
opaque Config.causeCode : Nat → Byte

/-- The stream selector of a mirrored block at an offset of a REPLICA region, which the partner of a MIR shard needs to answer a
PULL_REQ: neither the block nor the packet that brought it names its stream (R305, R381). -/
opaque Config.mirrorStream : Nat → Nat

/-- Core cycles that a unit's stall or idle counter gains in a millisecond (R152, R180, R439), by unit, counter and time. -/
opaque Config.stallCycles : Nat → Nat → Nat → U64

/-- FEC codewords that a port's receiver corrected (0) or could not correct (1) in a millisecond (R259), by port, kind and time. -/
opaque Config.fecCodewords : Nat → Nat → Nat → U64

/-- The level outside drives on an input pin at a millisecond (R547, R548): GPIO 0 to 31, then 32 to 39 ACC_ALERT_N and 40 to 47
ACC_THERM_N of TL0 to TL7, and 48 PFAIL_N. -/
opaque Config.pinLevel : Nat → Nat → Bool

/-- What a read of the module NAND finds uncorrectable, one answer for each read: a place and a length in bytes, or nothing
(R330). -/
opaque Config.nandDamage : Nat → Option (Nat × Nat)

end Sys2Proof
end

