-- ==== Sys2Proof/Machine/Operands.lean ====
section
/-! DEFINITION. Number formats (R43 to R46), exact values, the one rounding of every conversion and element operation
(R49 to R53, R117, R118), and the little-endian fields of messages and tables (R12). -/
namespace Sys2Proof.Machine

/-! ## Bytes -/

/-- Byte i of a list that stands for a longer field: missing bytes are zero. -/
def byteAt (l : List Byte) (i : Nat) : Byte := l.getD i 0

/-- The little-endian number of the bytes of a list (R12). -/
def leNat : List Byte → Nat
  | [] => 0
  | b :: l => b.toNat + 256 * leNat l

/-- Bytes i to i + n − 1 of a list, zero where it is too short. -/
def sliceZ (l : List Byte) (i n : Nat) : List Byte :=
  (l.drop i).take n ++ List.replicate (n - ((l.drop i).take n).length) 0

/-- The little-endian number in n bytes at offset i (R12). -/
def fieldNat (l : List Byte) (i n : Nat) : Nat := leNat (sliceZ l i n)

def field8 (l : List Byte) (i : Nat) : U8 := byteAt l i
def field16 (l : List Byte) (i : Nat) : U16 := BitVec.ofNat 16 (fieldNat l i 2)
def field32 (l : List Byte) (i : Nat) : U32 := BitVec.ofNat 32 (fieldNat l i 4)
def field64 (l : List Byte) (i : Nat) : U64 := BitVec.ofNat 64 (fieldNat l i 8)

/-- n bytes of a number, little-endian (R12). -/
def leBytes : Nat → Nat → List Byte
  | 0, _ => []
  | n + 1, v => BitVec.ofNat 8 v :: leBytes n (v / 256)

def le8 (v : U8) : List Byte := [v]
def le16 (v : U16) : List Byte := leBytes 2 v.toNat
def le32 (v : U32) : List Byte := leBytes 4 v.toNat
def le64 (v : U64) : List Byte := leBytes 8 v.toNat
def le128 (v : U128) : List Byte := leBytes 16 v.toNat

/-- A list cut or zero-padded to n bytes. -/
def padTo (n : Nat) (l : List Byte) : List Byte := sliceZ l 0 n

/-- A list cut into pieces of n bytes; fuel is the number of pieces at most. -/
def chunksOf : Nat → Nat → List Byte → List (List Byte)
  | 0, _, _ => []
  | fuel + 1, n, l => if l.isEmpty then [] else l.take n :: chunksOf fuel n (l.drop n)

/-- The whole entries of n bytes of a table. -/
def entriesOf (n : Nat) (l : List Byte) : List (List Byte) := chunksOf (l.length / n) n l

/-- Every counter wraps at its width (R69, R151). -/
def bump (c : U64) : U64 := c + 1
def bumpBy (c : U64) (n : Nat) : U64 := c + BitVec.ofNat 64 n

/-- A signed 16-bit field as a number. -/
def signed16 (v : U16) : Int := v.toInt
/-- A number as a signed 16-bit field. -/
def ofSigned16 (v : Int) : U16 := BitVec.ofInt 16 v

/-! ## Exact values -/

/-- An exact value: NaN, an infinity, or (−1)^neg × m × 2^e, m = 0 being a signed zero. -/
inductive Fv where
  | nan
  | inf (neg : Bool)
  | fin (neg : Bool) (m : Nat) (e : Int)
deriving DecidableEq, Repr

/-- A binary floating-point format (R44). infs: it encodes infinities and NaN by the all-ones exponent; nanTop: the code with
exponent and fraction all ones is NaN; satur: overflow gives the largest finite value (R50); qnan: its canonical NaN (R51). -/
structure FpFmt where
  ebits : Nat
  mbits : Nat
  bias : Nat
  infs : Bool
  nanTop : Bool
  satur : Bool
  qnan : Nat
deriving DecidableEq, Repr

def fp64 : FpFmt := ⟨11, 52, 1023, true, false, false, 0x7FF8000000000000⟩
def fp32 : FpFmt := ⟨8, 23, 127, true, false, false, 0x7FC00000⟩
def fp16 : FpFmt := ⟨5, 10, 15, true, false, false, 0x7E00⟩
def bf16 : FpFmt := ⟨8, 7, 127, true, false, false, 0x7FC0⟩
def fpE4M3 : FpFmt := ⟨4, 3, 7, false, true, true, 0x7F⟩
def fpE5M2 : FpFmt := ⟨5, 2, 15, true, false, true, 0x7E⟩
def fpE3M2 : FpFmt := ⟨3, 2, 3, false, false, true, 0⟩
def fpE2M3 : FpFmt := ⟨2, 3, 1, false, false, true, 0⟩
def fpE2M1 : FpFmt := ⟨2, 1, 1, false, false, true, 0⟩

def FpFmt.width (f : FpFmt) : Nat := 1 + f.ebits + f.mbits
def FpFmt.topExp (f : FpFmt) : Nat := 2 ^ f.ebits - 1
/-- The code of the largest finite magnitude (R44). -/
def FpFmt.maxCode (f : FpFmt) : Nat :=
  if f.infs then f.topExp * 2 ^ f.mbits - 1
  else if f.nanTop then 2 ^ (f.ebits + f.mbits) - 2 else 2 ^ (f.ebits + f.mbits) - 1

/-- The value of a code (R44). -/
def FpFmt.decode (f : FpFmt) (bits : Nat) : Fv :=
  let neg := bits / 2 ^ (f.ebits + f.mbits) % 2 == 1
  let ef := bits / 2 ^ f.mbits % 2 ^ f.ebits
  let fr := bits % 2 ^ f.mbits
  if f.infs && ef == f.topExp then (if fr == 0 then .inf neg else .nan)
  else if f.nanTop && ef == f.topExp && fr == 2 ^ f.mbits - 1 then .nan
  else if ef == 0 then .fin neg fr (1 - (f.bias : Int) - f.mbits)
  else .fin neg (2 ^ f.mbits + fr) ((ef : Int) - f.bias - f.mbits)

/-- m × 2^(−d) rounded to the nearest integer, ties to even (R49). -/
def rneShift (m : Nat) (d : Int) : Nat :=
  if d ≤ 0 then m * 2 ^ (-d).toNat
  else
    let k := 2 ^ d.toNat
    let q := m / k
    let r := m % k
    if 2 * r > k || (2 * r == k && q % 2 == 1) then q + 1 else q

/-- A rounded value: its code, whether it overflowed or saturated, whether a non-finite value became finite (R53), and
whether the value read or written is NaN or infinite (R40 bit 7). -/
structure Rounded where
  bits : Nat
  sat : Bool := false
  nonfin : Bool := false
  flag : Bool := false
deriving DecidableEq, Repr

def FpFmt.signBit (f : FpFmt) (neg : Bool) : Nat := if neg then 2 ^ (f.ebits + f.mbits) else 0

/-- The one rounding of R49 and R50 into a floating-point format. -/
def FpFmt.round (f : FpFmt) : Fv → Rounded
  | .nan => { bits := f.qnan, flag := true }
  | .inf neg =>
    if f.infs then { bits := f.signBit neg + f.topExp * 2 ^ f.mbits, flag := true }
    else { bits := f.qnan, flag := true }
  | .fin neg m e =>
    if m == 0 then { bits := f.signBit neg }
    else
      let top : Int := (Nat.log2 m : Int) + e
      let qmin : Int := 1 - (f.bias : Int) - f.mbits
      let q : Int := max (top - f.mbits) qmin
      let n := rneShift m (q - e)
      let code := (q - qmin).toNat * 2 ^ f.mbits + n
      if code ≤ f.maxCode then { bits := f.signBit neg + code }
      else if f.satur then { bits := f.signBit neg + f.maxCode, sat := true }
      else { bits := f.signBit neg + f.topExp * 2 ^ f.mbits, sat := true, flag := true }

/-- Clamp to a range, saying whether it clamped. -/
def clampInt (lo hi v : Int) : Int × Bool := if v < lo then (lo, true) else if v > hi then (hi, true) else (v, false)

/-- The nearest integer of an exact value, ties to even. -/
def rneInt (neg : Bool) (m : Nat) (e : Int) : Int :=
  let n := rneShift m (-e)
  if neg then -(n : Int) else n

/-- The rounding of R50 into a two's complement format of w bits with range lo to hi. -/
def roundInt (w : Nat) (lo hi : Int) : Fv → Rounded
  | .nan => { bits := 0, nonfin := true, flag := true }
  | .inf neg => { bits := (BitVec.ofInt w (if neg then lo else hi)).toNat, nonfin := true, flag := true }
  | .fin neg m e =>
    let (v, s) := clampInt lo hi (rneInt neg m e)
    { bits := (BitVec.ofInt w v).toNat, sat := s }

/-- The rounding of R50 into E8M0. -/
def roundE8M0 : Fv → Rounded
  | .nan => { bits := 0xFF, flag := true }
  | .inf false => { bits := 254, nonfin := true, flag := true }
  | .inf true => { bits := 0xFF, flag := true }
  | .fin neg m e =>
    if m == 0 || neg then { bits := 0xFF, flag := true }
    else
      let l := Nat.log2 m
      let k : Int := (l : Int) + e
      -- v against 1.5 × 2^k: 2m against 3 × 2^l
      let up := decide (2 * m > 3 * 2 ^ l) || (2 * m == 3 * 2 ^ l && (k + 127) % 2 == 1)
      let ex := if up then k + 128 else k + 127
      let (v, s) := clampInt 0 254 ex
      { bits := v.toNat, sat := s }

/-- The value of a signed integer. -/
def ofIntV (v : Int) : Fv := .fin (decide (v < 0)) v.natAbs 0

/-! ## Exact element operations (R117, R118) -/

def Fv.isNan : Fv → Bool
  | .nan => true
  | _ => false
def Fv.isFinite : Fv → Bool
  | .fin _ _ _ => true
  | _ => false
def Fv.isZero : Fv → Bool
  | .fin _ m _ => m == 0
  | _ => false
def Fv.isNeg : Fv → Bool
  | .nan => false
  | .inf n => n
  | .fin n _ _ => n
def Fv.negate : Fv → Fv
  | .nan => .nan
  | .inf n => .inf (!n)
  | .fin n m e => .fin (!n) m e
def Fv.absV : Fv → Fv
  | .nan => .nan
  | .inf _ => .inf false
  | .fin _ m e => .fin false m e

/-- m × 2^e as a signed integer in units of 2^u, exact when u ≤ e. -/
def scaledInt (neg : Bool) (m : Nat) (e u : Int) : Int :=
  let n : Int := (m * 2 ^ (e - u).toNat : Nat)
  if neg then -n else n

def addV : Fv → Fv → Fv
  | .nan, _ => .nan
  | _, .nan => .nan
  | .inf a, .inf b => if a == b then .inf a else .nan
  | .inf a, _ => .inf a
  | _, .inf b => .inf b
  | .fin s1 m1 e1, .fin s2 m2 e2 =>
    let u := min e1 e2
    let t := scaledInt s1 m1 e1 u + scaledInt s2 m2 e2 u
    if t == 0 then .fin (s1 && s2 && (m1 == 0 && m2 == 0)) 0 0
    else .fin (decide (t < 0)) t.natAbs u

def subV (a b : Fv) : Fv := addV a b.negate

def mulV : Fv → Fv → Fv
  | .nan, _ => .nan
  | _, .nan => .nan
  | .inf a, .inf b => .inf (a != b)
  | .inf a, .fin s m _ => if m == 0 then .nan else .inf (a != s)
  | .fin s m _, .inf b => if m == 0 then .nan else .inf (s != b)
  | .fin s1 m1 e1, .fin s2 m2 e2 => .fin (s1 != s2) (m1 * m2) (e1 + e2)

/-- a × b + c, exact. -/
def fmaV (a b c : Fv) : Fv := addV (mulV a b) c

/-- Extra low bits kept by the inexact operations; the last bit is one when more bits follow. -/
def guardBits : Nat := 72

def sticky (q : Nat) (exact : Bool) : Nat := 2 * q + (if exact then 0 else 1)

def divV : Fv → Fv → Fv
  | .nan, _ => .nan
  | _, .nan => .nan
  | .inf _, .inf _ => .nan
  | .inf a, .fin s _ _ => .inf (a != s)
  | .fin s _ _, .inf b => .fin (s != b) 0 0
  | .fin s1 m1 e1, .fin s2 m2 e2 =>
    if m2 == 0 then (if m1 == 0 then .nan else .inf (s1 != s2))
    else
      let k := guardBits + Nat.log2 m2
      let n := m1 * 2 ^ k
      .fin (s1 != s2) (sticky (n / m2) (n % m2 == 0)) (e1 - e2 - k - 1)

/-- The integer square root, one bit of the root for each unit of fuel. -/
def isqrtAux : Nat → Nat → Nat → Nat
  | 0, _, r => r
  | k + 1, n, r =>
    let c := r + 2 ^ k
    isqrtAux k n (if c * c ≤ n then c else r)
def isqrt (n : Nat) : Nat := isqrtAux (Nat.log2 n / 2 + 1) n 0

def sqrtV : Fv → Fv
  | .nan => .nan
  | .inf false => .inf false
  | .inf true => .nan
  | .fin s m e =>
    if m == 0 then .fin s 0 0
    else if s then .nan
    else
      let (m', e') := if e % 2 == 0 then (m, e) else (2 * m, e - 1)
      let n := m' * 2 ^ (2 * guardBits)
      let r := isqrt n
      .fin false (sticky r (r * r == n)) (e' / 2 - guardBits - 1)

def rsqrtV : Fv → Fv
  | .nan => .nan
  | .inf false => .fin false 0 0
  | .inf true => .nan
  | .fin s m e =>
    if m == 0 then .inf s
    else if s then .nan
    else
      -- 1 / √(m × 2^e), e even: √(2^(2k) / m) × 2^(−k − e/2)
      let (m', e') := if e % 2 == 0 then (m, e) else (2 * m, e - 1)
      let k := guardBits + Nat.log2 m'
      let r := isqrt (2 ^ (2 * k) / m')
      .fin false (sticky r (r * r * m' == 2 ^ (2 * k))) (-(e' / 2) - k - 1)

def rcpV : Fv → Fv
  | .nan => .nan
  | .inf s => .fin s 0 0
  | .fin s m e => if m == 0 then .inf s else divV (.fin s 1 0) (.fin false m e)

/-- a < b on values that are not NaN, zeros being equal. -/
def ltV : Fv → Fv → Bool
  | .nan, _ => false
  | _, .nan => false
  | .inf a, .inf b => a && !b
  | .inf a, _ => a
  | _, .inf b => !b
  | .fin s1 m1 e1, .fin s2 m2 e2 =>
    let u := min e1 e2
    decide (scaledInt s1 m1 e1 u < scaledInt s2 m2 e2 u)

def eqV : Fv → Fv → Bool
  | .nan, _ => false
  | _, .nan => false
  | .inf a, .inf b => a == b
  | .inf _, _ => false
  | _, .inf _ => false
  | .fin s1 m1 e1, .fin s2 m2 e2 =>
    let u := min e1 e2
    scaledInt s1 m1 e1 u == scaledInt s2 m2 e2 u

def maxV (a b : Fv) : Fv :=
  if a.isNan || b.isNan then .nan
  else if ltV a b then b else if ltV b a then a
  else if a.isNeg then b else a

def minV (a b : Fv) : Fv :=
  if a.isNan || b.isNan then .nan
  else if ltV a b then a else if ltV b a then b
  else if a.isNeg then a else b

def signV : Fv → Fv
  | .nan => .nan
  | .inf n => .fin n 1 0
  | .fin n m e => if m == 0 then .fin n 0 e else .fin n 1 0

/-- True as SEL and TEST see it: neither ±0 nor NaN (R114). -/
def Fv.truth (a : Fv) : Bool := !a.isZero && !a.isNan

def boolV (b : Bool) : Fv := .fin false (if b then 1 else 0) 0

/-! ## Element formats by code (R43) -/

/-- The floating-point format of a code, if it is one. -/
def fpOfCode : Nat → Option FpFmt
  | 1 => some fp64
  | 2 => some fp32
  | 3 => some fp16
  | 4 => some bf16
  | 5 => some fpE4M3
  | 6 => some fpE5M2
  | 7 => some fpE3M2
  | 8 => some fpE2M3
  | 9 => some fpE2M1
  | _ => none

/-- The width in bits of an element of a format code (R43). -/
def fmtBits : Nat → Nat
  | 0 => 1
  | 1 => 64
  | 2 => 32
  | 3 => 16
  | 4 => 16
  | 5 => 8
  | 6 => 8
  | 7 => 6
  | 8 => 6
  | 9 => 4
  | 10 => 32
  | 11 => 8
  | 12 => 4
  | 13 => 8
  | 14 => 128
  | 15 => 64
  | _ => 0

/-- The unscaled element maximum of a block (R46); zero where an unscaled payload is not permitted. -/
def fmtMax : Nat → Nat
  | 0 => 32768
  | 1 => 512
  | 2 => 1024
  | 3 => 2048
  | 4 => 2048
  | 5 => 4096
  | 6 => 4096
  | 10 => 1024
  | 11 => 4096
  | 12 => 8192
  | 13 => 4096
  | 14 => 256
  | 15 => 512
  | _ => 0

/-- Scaled groups, element maximum and scale offset of a scaled format (R46). -/
def fmtScaled : Nat → Option (Nat × Nat × Nat)
  | 5 => some (124, 3968, 3968)
  | 6 => some (124, 3968, 3968)
  | 11 => some (124, 3968, 3968)
  | 7 => some (163, 5216, 3912)
  | 8 => some (163, 5216, 3912)
  | 9 => some (240, 7680, 3840)
  | _ => none

/-- The value of an element code of an unscaled format (R44, R45). -/
def valueOf (code : Nat) (bits : Nat) : Fv :=
  match fpOfCode code with
  | some f => f.decode bits
  | none =>
    if code == 10 then ofIntV (BitVec.ofNat 32 bits).toInt
    else if code == 11 then ofIntV (BitVec.ofNat 8 bits).toInt
    else if code == 12 then ofIntV (BitVec.ofNat 4 bits).toInt
    else if code == 13 then (if bits == 255 then .nan else .fin false 1 ((bits : Int) - 127))
    else ofIntV bits

/-- The conversion of a value into an unscaled format (R49, R50). -/
def convertTo (code : Nat) (v : Fv) : Rounded :=
  match fpOfCode code with
  | some f => f.round v
  | none =>
    if code == 10 then roundInt 32 (-2147483648) 2147483647 v
    else if code == 11 then roundInt 8 (-128) 127 v
    else if code == 12 then roundInt 4 (-8) 7 v
    else roundE8M0 v

/-- The code of element i of an unscaled or scaled payload (R46). -/
def elemBits (code : Nat) (pay : List Byte) (i : Nat) : Nat :=
  let w := fmtBits code
  if w == 6 then (fieldNat pay (3 * (i / 4)) 3) / 2 ^ (6 * (i % 4)) % 64
  else if w == 4 then (byteAt pay (i / 2)).toNat / 2 ^ (4 * (i % 2)) % 16
  else if w == 1 then (byteAt pay (i / 8)).toNat / 2 ^ (i % 8) % 2
  else fieldNat pay (i * (w / 8)) (w / 8)

/-- The codes of elements packed from payload byte 0 upward (R46). -/
def packElems (code : Nat) (es : List Nat) : List Byte :=
  let w := fmtBits code
  if w % 8 == 0 then es.flatMap (leBytes (w / 8))
  else
    let total := es.foldr (fun e acc => acc * 2 ^ w + e % 2 ^ w) 0
    leBytes ((es.length * w + 7) / 8) total

/-! ## FP32 and FP64 -/

def v32 (x : U32) : Fv := fp32.decode x.toNat
def v64 (x : U64) : Fv := fp64.decode x.toNat
def r32 (v : Fv) : U32 := BitVec.ofNat 32 (fp32.round v).bits
def r64 (v : Fv) : U64 := BitVec.ofNat 64 (fp64.round v).bits

def one32 : U32 := 0x3F800000
def canon32 (x : U32) : U32 := r32 (v32 x)
def nonfinite32 (x : U32) : Bool := !(v32 x).isFinite

/-- The exponent floor(log2 |v|) of a finite non-zero value. -/
def Fv.expOf : Fv → Option Int
  | .fin _ m e => if m == 0 then none else some ((Nat.log2 m : Int) + e)
  | _ => none

/-! ## AS128 (R54 to R56) -/

/-- The accumulator integer of a finite value under an anchor (R55). -/
def toAS128 (a : Int) : Fv → Int
  | .fin neg m e => rneInt neg m (e + (100 - a))
  | _ => 0

/-- |v| ≥ 2^(a + 1): an anchor breach of a CONTRIB element (R55). -/
def breaches (a : Int) (v : Fv) : Bool :=
  match v.expOf with
  | some k => decide (k ≥ a + 1)
  | none => false

/-- The exact value of an accumulator (R54). -/
def ofAS128 (a : Int) (n : Int) : Fv := .fin (decide (n < 0)) n.natAbs (a - 100)

/-! ## Block scaling (R47, R48) -/

/-- EMAX of R48. -/
def emaxOf : Nat → Int
  | 5 => 8
  | 6 => 15
  | 7 => 4
  | 8 => 2
  | 9 => 2
  | _ => 0

/-- The element code of a scaled group (R50, R52): INT8 takes its integer in units of 2^−6, never −128. -/
def convertScaled (code : Nat) : Fv → Rounded
  | v =>
    if code == 11 then
      match v with
      | .fin n m e => roundInt 8 (-127) 127 (.fin n m (e + 6))
      | w => roundInt 8 (-127) 127 w
    else convertTo code v

/-- A converted group (R48): scale, element codes, saturations, non-finite conversions. -/
structure GroupRes where
  scale : Nat
  elems : List Nat
  sat : Nat
  nonfin : Nat
  flag : Bool

/-- The largest magnitude of a list of finite values. -/
def amaxV (vs : List Fv) : Fv := vs.foldl (fun acc v => if ltV acc v.absV then v.absV else acc) (.fin false 0 0)

def scaleGroup (code : Nat) (vs : List Fv) : GroupRes :=
  if vs.any (fun v => !v.isFinite) then
    { scale := 255, elems := List.replicate 32 0, sat := 0, nonfin := 0, flag := true }
  else
    match (amaxV vs).expOf with
    | none => { scale := 0, elems := List.replicate 32 0, sat := 0, nonfin := 0, flag := false }
    | some k =>
      let ex : Int := min (max (k - emaxOf code) (-127)) 127
      let rs := vs.map fun v =>
        match v with
        | .fin n m e => convertScaled code (.fin n m (e - ex))
        | w => convertScaled code w
      { scale := (ex + 127).toNat
        elems := rs.map (·.bits) ++ List.replicate (32 - rs.length) 0
        sat := (rs.filter (·.sat)).length, nonfin := 0, flag := false }

/-- Groups of 32 values; fuel is the number of groups at most. -/
def groups32 : Nat → List Fv → List (List Fv)
  | 0, _ => []
  | k + 1, vs => if vs.isEmpty then [] else vs.take 32 :: groups32 k (vs.drop 32)

/-- A converted payload: its bytes, the conversions counted, and its non-finite flag (R40, R53). -/
structure Payload where
  bytes : List Byte
  sat : Nat := 0
  nonfin : Nat := 0
  flag : Bool := false

/-- A payload in an unscaled format (R46, R49). The non-finite flag is set when an element is NaN or infinite (R40). -/
def packPlain (code : Nat) (vs : List Fv) : Payload :=
  let rs := vs.map (convertTo code)
  { bytes := packElems code (rs.map (·.bits))
    sat := (rs.filter (·.sat)).length
    nonfin := (rs.filter (·.nonfin)).length
    flag := rs.any (·.flag) }

/-- A block-scaled payload (R47, R48). -/
def packScaled (code : Nat) (vs : List Fv) : Payload :=
  match fmtScaled code with
  | none => { bytes := [] }
  | some (n, _, off) =>
    let gs := (groups32 n vs).map (scaleGroup code)
    let el := packElems code (gs.flatMap (·.elems))
    { bytes := padTo off el ++ (gs.map fun g => BitVec.ofNat 8 g.scale)
      sat := (gs.map (·.sat)).sum
      nonfin := (gs.map (·.nonfin)).sum
      flag := gs.any (·.flag) }

/-- The values of the first n elements of an unscaled payload. -/
def unpackPlain (code : Nat) (pay : List Byte) (n : Nat) : List Fv :=
  (List.range n).map fun i => valueOf code (elemBits code pay i)

/-! ## Formats a block type may carry (R556) -/

/-- Whether a type permits a format code unscaled and scaled. -/
def typePermits (typ : Nat) (code : Nat) (scaled : Bool) : Bool :=
  match typ with
  | 1 => !scaled && [2, 4, 3, 5, 6, 11].contains code
  | 2 => !scaled && code == 0
  | 3 => !scaled && [2, 3, 4, 5, 6].contains code
  | 4 => !scaled && [2, 4, 15, 14].contains code
  | 5 => if scaled then [5, 6, 7, 8, 9, 11].contains code else [2, 3, 4, 5, 6].contains code
  | 6 => !scaled && [2, 4, 3, 5, 6, 11, 0].contains code
  | 7 => !scaled && code == 11
  | _ => false

end Sys2Proof.Machine
end

