-- ==== Sys2Proof/Machine/Checks.lean ====
section
/-! DEFINITION. Check words (R57 to R59, R212) and the bytes of block headers, packets, cells and frames (R37, R230, R247). -/
namespace Sys2Proof
open Sys2Proof.Machine

/-! ## CRC-64 and CRC-32C -/

/-- One bit of the reflected CRC-64 (R58). -/
def crc64Bit (c : U64) : U64 := if c.getLsbD 0 then (c >>> 1) ^^^ 0xC96C5795D7870F42#64 else c >>> 1
def crc64Byte (c : U64) (b : Byte) : U64 :=
  let x := c ^^^ b.setWidth 64
  crc64Bit (crc64Bit (crc64Bit (crc64Bit (crc64Bit (crc64Bit (crc64Bit (crc64Bit x)))))))
/-- The seeded CRC-64 of R58. -/
def crc64Seed (seed : U64) (l : List Byte) : U64 := ~~~ (l.foldl crc64Byte (~~~ seed))
/-- The CRC-64 of R57. -/
def crc64 (l : List Byte) : U64 := crc64Seed 0 l

def crc32Bit (c : U32) : U32 := if c.getLsbD 0 then (c >>> 1) ^^^ 0x82F63B78#32 else c >>> 1
def crc32Byte (c : U32) (b : Byte) : U32 :=
  let x := c ^^^ b.setWidth 32
  crc32Bit (crc32Bit (crc32Bit (crc32Bit (crc32Bit (crc32Bit (crc32Bit (crc32Bit x)))))))
/-- The CRC-32C of R59. -/
def crc32c (l : List Byte) : U32 := ~~~ (l.foldl crc32Byte 0xFFFFFFFF#32)

/-! ## The sector code (R212) -/

/-- Multiplication by α = 2 in GF(2^8) with polynomial 0x11D. -/
def gfDouble (a : Byte) : Byte := if a.getLsbD 7 then (a <<< 1) ^^^ 0x1D#8 else a <<< 1
def gfMulAux : Nat → Byte → Byte → Byte → Byte
  | 0, _, _, acc => acc
  | n + 1, a, b, acc => gfMulAux n (gfDouble a) (b >>> 1) (if b.getLsbD 0 then acc ^^^ a else acc)
def gfMul (a b : Byte) : Byte := gfMulAux 8 a b 0

/-- One step of the division by g(x) = x^4 + 15 x^3 + 54 x^2 + 120 x + 64, the product (x + 1)(x + 2)(x + 4)(x + 8). -/
def rsStep (r : List Byte) (d : Byte) : List Byte :=
  let f := d ^^^ byteAt r 0
  [byteAt r 1 ^^^ gfMul f 15, byteAt r 2 ^^^ gfMul f 54, byteAt r 3 ^^^ gfMul f 120, gfMul f 64]
/-- The four check symbols of a data sector, symbol 0 first (R212). -/
def rsCheck (sector : List Byte) : List Byte := (padTo 64 sector).foldl rsStep [0, 0, 0, 0]

/-! ## Block headers -/

/-- Header bytes 0 to 53 (R37). -/
def Header.body (h : Header) : List Byte :=
  le8 h.typ ++ le8 h.fmt ++ le16 h.flags ++ le16 h.jt ++ le32 h.epoch ++ le32 h.step ++ le32 h.ts ++ le32 h.blk ++
  le32 h.contrib ++ le16 h.anchor ++ le16 h.count ++ le32 h.src ++ le32 h.dst ++ le64 h.offset ++ le64 h.payCrc
/-- The 64 bytes of a header as carried (R37, R16). -/
def Header.bytes (h : Header) : List Byte := h.body ++ le32 h.hdrCrc ++ List.replicate 6 0
/-- The header check word of the fields (R59). -/
def Header.crc (h : Header) : U32 := crc32c h.body
/-- The header with a fresh header check word (R60). -/
def Header.seal (h : Header) : Header := { h with hdrCrc := h.crc }
def Header.crcOk (h : Header) : Bool := h.hdrCrc == h.crc

/-- The header in 64 bytes; reserved bytes are ignored (R16). -/
def Header.ofBytes (l : List Byte) : Header :=
  { typ := field8 l 0, fmt := field8 l 1, flags := field16 l 2, jt := field16 l 4, epoch := field32 l 6, step := field32 l 10,
    ts := field32 l 14, blk := field32 l 18, contrib := field32 l 22, anchor := field16 l 26, count := field16 l 28,
    src := field32 l 30, dst := field32 l 34, offset := field64 l 38, payCrc := field64 l 46, hdrCrc := field32 l 54 }

def Header.zero : Header :=
  { typ := 0, fmt := 0, flags := 0, jt := 0, epoch := 0, step := 0, ts := 0, blk := 0, contrib := 0, anchor := 0, count := 0,
    src := 0, dst := 0, offset := 0, payCrc := 0, hdrCrc := 0 }

/-! The flag bits of R40. -/
def Header.flag (h : Header) (n : Nat) : Bool := h.flags.getLsbD n
def setFlag (f : U16) (n : Nat) (b : Bool) : U16 :=
  if b then f ||| (1#16 <<< n) else f &&& ~~~ (1#16 <<< n)
def Header.poison (h : Header) : Bool := h.flag 0
def Header.maskPresent (h : Header) : Bool := h.flag 1
def Header.last (h : Header) : Bool := h.flag 3
def Header.breach (h : Header) : Bool := h.flag 4
def Header.replay (h : Header) : Bool := h.flag 5
def Header.mirror (h : Header) : Bool := h.flag 6
def Header.nonfinite (h : Header) : Bool := h.flag 7
def Header.resend (h : Header) : Bool := h.flag 8
def Header.setPoison (h : Header) : Header := { h with flags := setFlag h.flags 0 true }

/-- Format code and scaled bit (R39). -/
def Header.code (h : Header) : Nat := (h.fmt &&& 0x1F#8).toNat
def Header.scaled (h : Header) : Bool := h.fmt.getLsbD 5

/-- The tensor id and the shard of a combined field (R37). -/
def tensorOf (ts : U32) : U32 := ts &&& 0xFFFFFF#32
def shardOf (ts : U32) : U8 := (ts >>> 24).setWidth 8

/-- The CN in bits [16:0] of a 32-bit field (R37). -/
def cnOf (v : U32) : U32 := v &&& 0x1FFFF#32

/-- The element maximum of a header's format (R46); zero where the format or the scaled bit is not permitted. -/
def Header.maxCount (h : Header) : Nat :=
  if h.scaled then (match fmtScaled h.code with | some (_, n, _) => n | none => 0) else fmtMax h.code

/-- Whether a type or format carries an anchor (R37 offset 26). -/
def Header.anchored (h : Header) : Bool :=
  h.typ == 3 || h.typ == 4 || h.code == 14 || h.code == 15

/-- Header validity (R42, R556). -/
def Header.valid (h : Header) : Bool :=
  decide (1 ≤ h.typ.toNat) && decide (h.typ.toNat ≤ 7) &&
  typePermits h.typ.toNat h.code h.scaled &&
  decide (1 ≤ h.count.toNat) && decide (h.count.toNat ≤ h.maxCount) &&
  (!h.anchored || (decide (-256 ≤ signed16 h.anchor) && decide (signed16 h.anchor ≤ 255)))

/-- The whole payload of a block. -/
def Block.pay (b : Block) : List Byte := padTo 4096 b.payload
/-- A block with fresh check words (R60). -/
def Block.seal (b : Block) : Block := { b with hdr := { b.hdr with payCrc := crc64 b.pay }.seal }
def Block.payOk (b : Block) : Bool := b.hdr.payCrc == crc64 b.pay
/-- A block in its 4,160 bytes (R36). -/
def Block.bytes (b : Block) : List Byte := b.hdr.bytes ++ b.pay
def Block.ofBytes (l : List Byte) : Block := { hdr := Header.ofBytes (l.take 64), payload := (l.drop 64).take 4096 }

/-! ## Transactions -/

/-- Body cells of a transaction. -/
def Trans.cells (t : Trans) : Nat := (t.body.length + 63) / 64
def Trans.paddedBody (t : Trans) : List Byte := padTo (64 * t.cells) t.body
/-- Header bytes 0 to 53 (R247); with a body, the last eight are its CRC-64. -/
def Trans.headBody (t : Trans) : List Byte :=
  le8 (0x40#8 + t.op) ++ [BitVec.ofNat 8 t.cells] ++ le16 t.flags ++ le16 t.jt ++ le32 t.epoch ++ le32 t.step ++
  le128 t.a ++ le32 t.src ++ le32 t.dst ++ le64 t.b ++ le64 t.c
def Trans.crc (t : Trans) : U32 := crc32c t.headBody
/-- A transaction with fresh check words (R247). -/
def Trans.seal (t : Trans) : Trans :=
  let t := if t.body.isEmpty then t else { t with c := crc64 t.paddedBody }
  { t with hdrCrc := t.crc }
def Trans.crcOk (t : Trans) : Bool := t.hdrCrc == t.crc
def Trans.bodyOk (t : Trans) : Bool := t.body.isEmpty || t.c == crc64 t.paddedBody
def Trans.bytes (t : Trans) : List Byte := t.headBody ++ le32 t.hdrCrc ++ List.replicate 6 0 ++ t.paddedBody
def Trans.ofBytes (l : List Byte) : Trans :=
  { op := field8 l 0 &&& 0x3F#8, flags := field16 l 2, jt := field16 l 4, epoch := field32 l 6, step := field32 l 10,
    a := BitVec.ofNat 128 (fieldNat l 14 16), src := field32 l 30, dst := field32 l 34, b := field64 l 38, c := field64 l 46,
    hdrCrc := field32 l 54, body := l.drop 64 }
def Trans.zero : Trans :=
  { op := 0, flags := 0, jt := 0, epoch := 0, step := 0, a := 0, src := 0, dst := 0, b := 0, c := 0, hdrCrc := 0, body := [] }

/-- Bytes of operand A (R248): A[i:i+n−1] as a number. -/
def Trans.aNat (t : Trans) (i n : Nat) : Nat := t.a.toNat / 256 ^ i % 256 ^ n
def Trans.a8 (t : Trans) (i : Nat) : U8 := BitVec.ofNat 8 (t.aNat i 1)
def Trans.a16 (t : Trans) (i : Nat) : U16 := BitVec.ofNat 16 (t.aNat i 2)
def Trans.a32 (t : Trans) (i : Nat) : U32 := BitVec.ofNat 32 (t.aNat i 4)
def Trans.a64 (t : Trans) (i : Nat) : U64 := BitVec.ofNat 64 (t.aNat i 8)
def Trans.bNat (t : Trans) (i n : Nat) : Nat := t.b.toNat / 256 ^ i % 256 ^ n
def Trans.cNat (t : Trans) (i n : Nat) : Nat := t.c.toNat / 256 ^ i % 256 ^ n
/-- A 16-byte operand from its bytes. -/
def opA (l : List Byte) : U128 := BitVec.ofNat 128 (leNat (l.take 16))
def opB (l : List Byte) : U64 := BitVec.ofNat 64 (leNat (l.take 8))

/-! The opcodes of R248. -/
def opWRITE : U8 := 0x01
def opREAD : U8 := 0x02
def opREAD_RESP : U8 := 0x03
def opCONTRIB : U8 := 0x04
def opBLOCK_ACK : U8 := 0x05
def opRESEND_REQ : U8 := 0x06
def opSTREAM : U8 := 0x07
def opFENCE : U8 := 0x08
def opHEARTBEAT : U8 := 0x09
def opSCALAR_REDUCE : U8 := 0x0A
def opREPLAY_G : U8 := 0x0B
def opMIRROR_P : U8 := 0x0C
def opDIGEST : U8 := 0x0D
def opMARK : U8 := 0x0E
def opSTORE_PUT : U8 := 0x0F
def opSTORE_GET : U8 := 0x10
def opSTORE_COMMIT : U8 := 0x11
def opOBJ_TUNNEL : U8 := 0x12
def opIDENT : U8 := 0x13

/-- The virtual channel of a transaction opcode (R248). -/
def vcOfOp (op : Nat) : BitVec 3 :=
  match op with
  | 1 => 6 | 2 => 6 | 3 => 6 | 4 => 2 | 7 => 3 | 8 => 1 | 10 => 1 | 11 => 4 | 12 => 4 | 13 => 4
  | 15 => 5 | 16 => 5 | 17 => 5
  | _ => 0

/-- Body cells an opcode may carry on its VC (R248, R238). -/
def bodyCellsOk (op : Nat) (response : Bool) (cells : Nat) : Bool :=
  match op with
  | 1 => decide (1 ≤ cells) && decide (cells ≤ 64)
  | 2 => cells == 0
  | 3 => decide (cells ≤ 64)
  | 5 => cells == 0
  | 6 => cells == 0
  | 8 => decide (cells ≤ 64)
  | 9 => cells == 0
  | 10 => cells == 2 || cells == 64
  | 11 => cells == 0
  | 13 => cells == 0
  | 14 => cells == 0
  | 15 => cells == 65
  | 16 => cells == (if response then 65 else 0)
  | 17 => cells == 0
  | 18 => decide (1 ≤ cells) && decide (cells ≤ 64)
  | 19 => cells == 2
  | _ => false

/-- The opcode of a block on a VC (R249); none for an invalid combination. -/
def blockOp (vc : BitVec 3) (h : Header) : Option U8 :=
  if vc == 2 && (h.typ == 3 || h.typ == 4) then some opCONTRIB
  else if vc == 3 && h.typ == 5 then some opSTREAM
  else if vc == 4 && h.typ == 4 && h.replay then some opREPLAY_G
  else if vc == 4 && h.typ == 1 && h.mirror then some opMIRROR_P
  else if vc == 7 && h.typ == 7 then some 0x00
  else none

/-- The four opcodes that carry JT 0 (R247). -/
def untagged (op : U8) : Bool := op == opIDENT || op == opHEARTBEAT || op == opMARK || op == opOBJ_TUNNEL

def Packet.bytes : Packet → List Byte
  | .block b => b.bytes
  | .trans t => t.bytes
def Packet.dst : Packet → U32
  | .block b => cnOf b.hdr.dst
  | .trans t => cnOf t.dst
def Packet.src : Packet → U32
  | .block b => cnOf b.hdr.src
  | .trans t => cnOf t.src
def Packet.jt : Packet → U16
  | .block b => b.hdr.jt
  | .trans t => t.jt
def Packet.epoch : Packet → U32
  | .block b => b.hdr.epoch
  | .trans t => t.epoch
def Packet.step : Packet → U32
  | .block b => b.hdr.step
  | .trans t => t.step
def Packet.opOn (vc : BitVec 3) : Packet → U8
  | .block b => (blockOp vc b.hdr).getD 0
  | .trans t => t.op
def Packet.cellCount : Packet → Nat
  | .block _ => 65
  | .trans t => 1 + t.cells

/-! ## The link control word (R230) -/

/-- The fields of a link control word. -/
structure Lcw where
  seq : BitVec 12
  ack : BitVec 12
  kind : BitVec 2
  count : BitVec 4
  runA : BitVec 3
  runB : BitVec 3
  runBStart : BitVec 3
  creditVc : BitVec 3
  creditTotal : BitVec 14
  starts : U8
deriving DecidableEq, Repr

/-- The 64-bit word of a link control word. -/
def Lcw.word (l : Lcw) : U64 :=
  (l.starts ++ l.creditTotal ++ l.creditVc ++ l.runBStart ++ l.runB ++ l.runA ++ l.count ++ l.kind ++ l.ack ++ l.seq).setWidth 64

def Lcw.ofWord (w : U64) : Lcw :=
  { seq := w.extractLsb' 0 12, ack := w.extractLsb' 12 12, kind := w.extractLsb' 24 2, count := w.extractLsb' 26 4,
    runA := w.extractLsb' 30 3, runB := w.extractLsb' 33 3, runBStart := w.extractLsb' 36 3, creditVc := w.extractLsb' 39 3,
    creditTotal := w.extractLsb' 42 14, starts := w.extractLsb' 56 8 }

/-- A frame as sent: cells padded to 512 bytes, the word, the check word over both with its own bytes zero (R230, R233). -/
def frameBytes (cells : List (List Byte)) (l : Lcw) : List Byte :=
  let front := padTo 512 (cells.flatMap (padTo 64)) ++ le64 l.word
  front ++ le64 (crc64 (front ++ List.replicate 8 0))

/-- The frame check (R233). -/
def frameCheckOk (f : List Byte) : Bool :=
  f.length == 528 && field64 f 520 == crc64 (f.take 520 ++ List.replicate 8 0)

def frameCells (f : List Byte) : List (List Byte) := chunksOf 8 64 (f.take 512)

/-- Well-formedness of a frame (R231). -/
def frameWellFormed (f : List Byte) : Bool :=
  let l := Lcw.ofWord (field64 f 512)
  let n := l.count.toNat
  let tailZero := (frameCells f).drop n |>.all (fun c => c.all (· == 0))
  if l.kind == 0 then
    decide (1 ≤ n) && decide (n ≤ 8) &&
    (l.runBStart == 0 || (decide (l.runBStart.toNat ≤ n - 1) && l.runA != l.runB)) &&
    decide (l.starts.toNat < 2 ^ n) && tailZero
  else if l.kind == 1 || l.kind == 2 then
    n == 0 && l.runA == 0 && l.runB == 0 && l.runBStart == 0 && l.starts == 0 && tailZero
  else false

end Sys2Proof
end

