-- ==== Sys2Proof/Machine/State.lean ====
section
/-! DEFINITION. The state of the KV-740 as plain data: every register, table, queue, buffer and pin the manual gives it, each
field with its reset value as default (chapter object tables; where a table gives none, the log entries 1 and 2). -/
namespace Sys2Proof.Machine

/-- Device states (R9). -/
inductive DevState where
  | off | boot | standby | opening | run | fenced | resigning | exerciser | safe
deriving DecidableEq, Repr

/-- What the part carries from manufacture and installation: its CN, its serials, its ordering code (R472, R253, R506). -/
structure Ident where
  cn : CN := 0
  traySerial : List Byte := []
  devSerial : List Byte := []
  lx : Bool := false
  identityPub : List Byte := []
  vendorCert : List Byte := []
  rootKey : List Byte := []
  revoked : U64 := 0
deriving DecidableEq, Repr

/-- Time (R427, R437, R444): ms since the last reset, ms of powered operation and power cycles since manufacture. -/
structure TimeState where
  now : Nat := 0
  opMs : U64 := 0
  cycles : U32 := 0
deriving DecidableEq, Repr

/-- The check-word and format counters OD 6100.01 to 6100.09 (R69). -/
structure CheckState where
  hdrFail : U64 := 0
  payRecv : U64 := 0
  payStored : U64 := 0
  invalid : U64 := 0
  poisonedHere : U64 := 0
  poisonedRecv : U64 := 0
  nonfinConv : U64 := 0
  satConv : U64 := 0
  payChecks : U64 := 0
deriving DecidableEq, Repr

/-- The fields of a sealed move record (R28); the CRC-32C is computed from them. -/
structure SealedMove where
  flags : U8
  jt : U16
  epoch : U32
  step : U32
  cn : CN
  reported : U16
  unchanged : U16
  digest : U64
  accepted : U64
  discarded : U32
  stalls : U32
  opMs : U64
deriving DecidableEq, Repr

/-- A shard that reports a step as failed (R25): the step, the code of the event of its cause, and the block index. -/
structure ShardReport where
  ts : U32
  step : U32
  code : U16
  blk : U32
deriving DecidableEq, Repr

/-- The step fence, OD 2100 (R22) and what R26, R28 and R29 need beside it. -/
structure FenceState where
  cur : U32 := 0
  sealedStep : U32 := 0
  status : U8 := 0
  committed : U32 := 0
  timeoutMs : U32 := 10000
  stepsSealed : U32 := 0
  stepsFailed : U32 := 0
  lastMove : Option SealedMove := none
  refusals : U64 := 0
  pending : Bool := false
  failedStep : Option U32 := none
  reports : List ShardReport := []
  accepted : List (U32 × U64) := []
  discarded : List (U32 × U32) := []
  heldMode : Bool := false
  mramMoves : List SealedMove := []
  kidMoves : List (U32 × U32 × U32) := []   -- child CN, step, members: STEP_SEALED records folded (R18)
  rootSealed : List U32 := []               -- steps the root has committed (JOB_COMMIT_SEND)
deriving DecidableEq, Repr

/-- One record of the reduction tree table (R80). -/
structure TreeRec where
  ts : U32
  role : U8
  wire : U8
  span : U8
  parent : U32
  leaves : U32
  count : U64
  children : List U32
deriving DecidableEq, Repr

/-- A window's phase: open, breached at an interior node (R90), complete with its outputs retained (R87), or complete at its owner
and waiting in its record for the step size (R128). -/
inductive WinPhase where
  | opened | breached | retained | waiting
deriving DecidableEq, Repr

/-- A reduction window (R83, R85): identity, accumulators, coverage masks by child slot, block anchor, marks. -/
structure Window where
  ts : U32
  w : U32
  step : U32
  acc : List U128
  masks : List U32
  anchor : Int
  phase : WinPhase := .opened
  poison : Bool := false
  nonfinite : Bool := false
  capped : Bool := false
  lastFrom : List U32 := []
  pieces : List (U32 × U32 × U8 × U8) := []  -- contributor, block, format, opcode: for the acknowledgements of R87
  outs : List Block := []
  outsAt : List Nat := []           -- places of the retained outputs in the PARK region
  taken : Nat := 0                  -- contributions of the pieces taken in (R28)
  arrived : Nat := 0
deriving DecidableEq, Repr

/-- A parked window with its stored pieces (R85). -/
structure Parked where
  win : Window
  stored : List Block
  place : Nat := 0                  -- of the record, in the PARK region
  storedAt : List Nat := []         -- of the stored pieces
deriving DecidableEq, Repr

/-- A completed owned window: its anchor and the exponent of its largest element (R72). -/
structure DoneWin where
  ts : U32
  w : U32
  step : U32
  anchor : Int
  maxExp : Int
deriving DecidableEq, Repr

/-- A scalar value in flight (R98, R99). -/
structure ScalarVal where
  wide : Int := 0
  bits : U64 := 0
  vec : List U16 := []
  nonfin : Bool := false
  poison : Bool := false
  members : U32 := 1
deriving DecidableEq, Repr

/-- A scalar reduction of one slot and step (R100); slot 0xFF with a segment is MAXV (R73). -/
structure ScalarRed where
  slot : U8
  step : U32
  seg : U32 := 0
  own : Option ScalarVal := none
  kids : List (U32 × ScalarVal) := []
  sent : Bool := false
  armed : Bool := false          -- the scalar fence of the slot is written (R100)
deriving DecidableEq, Repr

/-- A slot of OD 2310.03 (R97). -/
structure SlotCfg where
  op : U8 := 0
  enabled : Bool := false
deriving DecidableEq, Repr

/-- SUMSQ and the vote of one step (R98, R102). -/
structure StepSums where
  step : U32
  x : Int := 0
  nonfin : Bool := false
  poison : Bool := false
  vote : Bool := false
deriving DecidableEq, Repr

/-- The reduction engine (R103). -/
structure RedState where
  parkMiB : U32 := 8192
  parkForce : U32 := 8192
  retryUs : U16 := 20
  anchorWait : U32 := 1000
  piecesAcc : U64 := 0
  contribAcc : U64 := 0
  duplicates : U64 := 0
  stepRefusals : U64 := 0
  resRefusals : U64 := 0
  anchorMism : U64 := 0
  unknown : U64 := 0
  malformed : U64 := 0
  breaches : U64 := 0
  fallbacks : U64 := 0
  nonfinWins : U64 := 0
  poisonWins : U64 := 0
  parks : U64 := 0
  unparks : U64 := 0
  parkBytes : U64 := 0
  completed : U64 := 0
  treeRefusals : U64 := 0
  stopPieces : U64 := 0
  scalarStatus : U8 := 0
  slots : Vector SlotCfg 16 := (Vector.replicate 16 {}).set 0 { op := 5, enabled := true }
  results : Vector U64 16 := Vector.replicate 16 0
  resultsAt : List (U8 × U32 × U64 × Bool) := []   -- slot, step, bits, float: results delivered (R136)
  inputs : Vector U64 16 := Vector.replicate 16 0
  trees : List TreeRec := []
  held : Option (List TreeRec) := none
  treeErr : U32 := 0
  treeTableRefusals : U64 := 0
  windows : List Window := []
  parked : List Parked := []
  done : List DoneWin := []
  raised : List ((U32 × U32 × U32) × Int) := []  -- tensor/shard, window, step: block anchor of a window not held (R91)
  acked : List (U32 × U32 × U32) := []   -- windows complete and acknowledged: tensor/shard, window, step (R84)
  scalars : List ScalarRed := []
  sums : List StepSums := []
  anchorStep : U32 := 0          -- the step whose anchors are installed (R73)
  segments : U16 := 0            -- Q (R73)
  anchorIn : List (U32 × U32 × List U16) := []  -- MAXV results received: step, segment, entries (R73)
  opened : Option U32 := none    -- the step last opened to the agents (R75)
  anchorLate : Option U32 := none  -- the step whose 0x2204 is recorded (R76)
  arrivals : Nat := 0
  badFirst : List (U32 × U32 × U32) := []  -- tensor/shard, window, step: 0x2202 recorded
  parkFullStep : Option U32 := none
  agentAnchor : List (U32 × U32) := []     -- contributor, step: 0x2205 recorded
  mism : List ((U32 × U32 × U32 × U32) × Nat) := []  -- tensor/shard, window, step, contributor: anchor mismatches (R84)
  openLimitLoss : Nat := 0       -- windows lost to retired banks (R415)
deriving DecidableEq, Repr

/-- An update program slot (R146). -/
structure ProgSlot where
  words : List U32 := []
  status : U8 := 0
  errWord : U8 := 0
deriving DecidableEq, Repr

/-- The status of a tensor-table entry (R148, offset 160). -/
inductive EntryStatus where
  | idle | running | scalarWait | quarantined | halted | haltPending
deriving DecidableEq, Repr

/-- A tensor-table entry (R148). Stream bases are global addresses; zero means absent. -/
structure TensorEntry where
  ts : U32
  role : U8
  cls : U8
  slot : U8
  mode : U8
  count : U64
  fmtM : U8
  fmtV : U8
  fmtA : U8
  fmtC : U8
  heldSlot : U8
  heldReg : U8
  pclass : U8
  owner : U8
  anchor : Int
  initAnchor : Int
  baseW : U64
  baseM : U64
  baseV : U64
  baseA : U64
  baseC : U64
  baseK : U64
  baseH : U64
  beta1 : U64
  beta2 : U64
  consts : List U32
  initT : U32
  t : U32
  l : U32
  status : EntryStatus := .idle
  p : Option U32 := none
  attempts : U64 := 0
  applied : U64 := 0
  prevT : U32 := 0
  prevL : U32 := 0
deriving DecidableEq, Repr

/-- A window at the dispatcher or in a pipeline (R109, R124, R302). -/
structure DispWin where
  ts : U32
  w : U32
  step : U32
  replica : Bool := false
  second : Bool := false
  g : List U32 := []
  poison : Bool := false
  nonfinite : Bool := false
  tPrime : U32 := 0
  s0 : U32 := 0
  s4 : U32 := 0
  heldVal : Option U32 := none
  ownerPipe : U8 := 0
  ownerDigest : U64 := 0
  ready : Bool := false      -- passed R124; otherwise held for step order
  roll : Bool := false       -- roll-forward window (R382)
  anchor : Int := 0          -- the block anchor at completion (R297)
  handed : Bool := true      -- the continuity engine has taken its replay hand-off (R297, R300)
deriving DecidableEq, Repr

/-- A stream of R115. -/
inductive Stream where
  | w | m | v | g | a | k | c
deriving DecidableEq, Repr

/-- What a pipeline run gives for its write-back (R114, R130, R131): for each stored stream the storage code of every element
of the window, in order, and the counts that the write-back makes. -/
structure RunResult where
  stores : List (Stream × List Nat) := []
  poisonOut : Bool := false
  maskOn : Bool := false
  convFlags : List Bool := []       -- elements with a conversion that sets the non-finite flag (R50, R53)
  masked : Nat := 0
  attempts : Nat := 0
  trapAt : Option Nat := none
  nonfin : Bool := false
  sat : Nat := 0
  conv : Nat := 0
deriving DecidableEq, Repr

/-- A window assigned to a pipeline, with its result once it has passed the stages. -/
structure PipeWin where
  win : DispWin
  res : RunResult
deriving DecidableEq, Repr

/-- A pipeline: its write-back queue (R111), stall counters OD 2510 + p (R152). -/
structure PipeState where
  queue : List PipeWin := []
  stalls : Vector U64 9 := Vector.replicate 9 0
deriving DecidableEq, Repr

/-- A staged MASK block (R134). -/
structure StagedMask where
  ts : U32
  step : U32
  replica : Bool
  blk : Block
deriving DecidableEq, Repr

/-- A window of the held area (R136). -/
structure HeldWin where
  ts : U32
  w : U32
  step : U32
  poison : Bool
  nonfinite : Bool
  anchor : Int := 0
  handed : Bool := true
deriving DecidableEq, Repr

/-- The update pipelines, step sizes, programs and the tensor table (R129, R146, R150, R151). -/
structure UpdState where
  semVersion : U16 := 2
  pipesOn : U8 := 0xFF
  winsUpdated : U64 := 0
  elemsUpdated : U64 := 0
  elemsMasked : U64 := 0
  frozenAttempts : U64 := 0
  skewRefusals : U64 := 0
  nonfinRefused : U64 := 0
  heldSkips : U64 := 0
  poisonWins : U64 := 0
  touchPages : U64 := 0
  stepTouches : U32 := 0                -- copies of a page on first touch since the last sealed move (R28)
  touchWait : List U64 := []            -- pages a held write-back already counted (R143)
  noSize : List DispWin := []           -- completed owner windows whose records wait for a step size (R128)
  reexec : U64 := 0
  sizeRefusals : U64 := 0
  nonfinWrites : U64 := 0
  heldDiscards : U64 := 0
  haltedWins : U64 := 0
  maskRefusals : U64 := 0
  loadRefusals : U64 := 0
  sizeLast : U64 := 0
  sizeWait : U32 := 2000
  latches : List (U32 × U32) := []
  sizeRefused : Bool := false
  progs : Vector ProgSlot 16 := Vector.replicate 16 {}
  table : List TensorEntry := []
  tableErr : U32 := 0
  staged : List StagedMask := []
  pipes : Vector PipeState 8 := Vector.replicate 8 {}
  disp : List DispWin := []
  heldArea : List HeldWin := []
  written : List (U32 × U32 × U32) := []      -- tensor/shard, window, step written back (R125)
  sizeLateAt : List U32 := []                 -- steps whose 0x2401 is recorded (R128)
  noPipeSeen : Bool := false
  nonfinSeen : List (U32 × U32) := []
  skipSeen : List U32 := []
  trapSeen : List (U32 × U32) := []
  releasing : List U32 := []                  -- halted shards released at the next sealed step (R133)
deriving DecidableEq, Repr

/-- A vector code slot (R176). -/
structure CodeSlot where
  words : List U32 := []
  status : U8 := 0
  errWord : U16 := 0
deriving DecidableEq, Repr

/-- A work region of a vector-code entry (R177). -/
structure WorkRegion where
  base : U64
  len : U64
  wr : Bool
  rd : Bool
deriving DecidableEq, Repr

/-- A vector-code entry (R177). -/
structure VecEntry where
  slot : U8
  off : U32
  budget : U32
  args : List U64
  regions : List WorkRegion
deriving DecidableEq, Repr

/-- An invocation (R157): its window, its entry and whether it runs as a check (R168). -/
structure Invoc where
  win : DispWin
  entry : U8
  check : Bool := false
  runNo : Nat := 0           -- 0 first run, 1 second, 2 third (R168)
deriving DecidableEq, Repr

/-- A staged block (R161): stream, block index, payload as copied from scratch. -/
structure StagedBlk where
  stream : Stream
  idx : U32
  data : List Byte
  place : Nat := 0           -- which of the core's 128 blocks of VSTAGE holds it (R162)
  conv : Bool := false       -- staged after a conversion that sets the non-finite flag (R50, R53)
deriving DecidableEq, Repr

/-- Where a load of a core delivers its data (R175). -/
inductive LoadDest where
  | x (r : BitVec 5) (size : BitVec 3)
  | f (r : BitVec 5) (w : Bool)
  | v (r : BitVec 5) (fmt : BitVec 4) (lanes : U32)
  | blk (r : BitVec 5) (stream : Stream) (idx : U32) (scratch : U32)
deriving DecidableEq, Repr

/-- An outstanding global load, gather or BLDB of a core (R175): its byte offset in the slot, destination, lane addresses. -/
structure PendLoad where
  pc : U32
  dest : LoadDest
  addrs : List U64
deriving DecidableEq, Repr

/-- How a finished run ended (R160). -/
inductive EndKind where
  | status (v : U8)
  | fault (code : U8) (addr : U64)
  | budget
deriving DecidableEq, Repr

/-- The result of a run kept for comparison (R168). -/
structure RunOut where
  core : Core
  pc : U32
  inv : Invoc
  staged : List StagedBlk
  latch : Bool
  ending : EndKind
deriving DecidableEq, Repr

/-- One vector core (R159, R161, R180). -/
structure CoreState where
  x : Vector U64 32 := Vector.replicate 32 0
  f : Vector U64 32 := Vector.replicate 32 0
  v : Vector (Vector U32 32) 32 := Vector.replicate 32 (Vector.replicate 32 0)
  p : Vector U32 8 := Vector.replicate 8 0
  scratch : List Host.Cell := []
  pc : U32 := 0
  running : Option Invoc := none
  queue : Option Invoc := none
  staged : List StagedBlk := []
  latch : Bool := false
  conv : Bool := false                   -- a conversion of the invocation sets the non-finite flag (R50, R53)
  loads : List PendLoad := []
  copies : List (U32) := []              -- scratch addresses of BSTB copies outstanding (R161)
  endWait : Option U8 := none            -- an END waiting for its copies
  finished : List RunOut := []           -- ended runs waiting for commit or comparison
  counters : Vector U64 8 := Vector.replicate 8 0
deriving DecidableEq, Repr

/-- The vector cores (R179). -/
structure VecState where
  isaVersion : U16 := 1
  coresOn : U16 := 0xFFFF
  checkEvery : U32 := 0
  dispatched : U64 := 0
  committed : U64 := 0
  faults : U64 := 0
  budgetAborts : U64 := 0
  statusFails : U64 := 0
  reexec : U64 := 0
  agreed : U64 := 0
  decided : U64 := 0
  undecided : U64 := 0
  loaded : U64 := 0
  blkCommitted : U64 := 0
  stopDiscards : U64 := 0
  loadRefusals : U64 := 0
  slots : Vector CodeSlot 16 := Vector.replicate 16 {}
  entries : List VecEntry := []
  entryErr : U32 := 0
  cores : Vector CoreState 16 := Vector.replicate 16 {}
  again : List (Core × Invoc) := []      -- invocations that wait for another core than the one named (R158, R166)
  noCoreSeen : Bool := false
deriving DecidableEq, Repr

/-- A stream program (R182). -/
structure StreamProg where
  num : U8
  trigger : U8
  chained : U8
  tlMask : U8
  firstSeg : U16
  segCount : U16
  dests : List U32
deriving DecidableEq, Repr

/-- A segment record (R183). -/
structure Segment where
  ts : U32
  kind : U8
  fmt : U8
  first : U32
  count : U32
  src : U32
  dstOff : U64
deriving DecidableEq, Repr

/-- A sent WEIGHT block that a fabric destination has not acknowledged (R193): segment index, block, destination. -/
structure Unacked where
  seg : U16
  blk : U32
  dest : U32
deriving DecidableEq, Repr

/-- A converted WEIGHT block held ahead of its destinations (R192). -/
structure AheadBlk where
  seg : U16
  blk : Block
deriving DecidableEq, Repr

/-- An open pass (R185): next local block to send as (segment, block), unacknowledged copies, relayed blocks. -/
structure Pass where
  prog : U8
  step : U32
  nextSeg : U16
  nextBlk : U32
  unacked : List Unacked := []
  relayed : List (U16 × U32) := []
  stallSeen : Bool := false
  cSeen : List (U32 × Nat) := []               -- C blocks read in the pass (R189)
  ahead : List AheadBlk := []                  -- converted blocks not yet sent, in order
deriving DecidableEq, Repr

/-- The weight streamer (R199). -/
structure StrState where
  stallMs : U32 := 100
  relayRetryUs : U16 := 50
  ackMs : U32 := 20
  passStatus : Vector (U32 × U8) 16 := Vector.replicate 16 (0, 0)
  started : U64 := 0
  ended : U64 := 0
  cRead : U64 := 0
  sent : U64 := 0
  cBytes : U64 := 0
  relayed : U64 := 0
  resends : U64 := 0
  noC : U64 := 0
  abandoned : U64 := 0
  relayRefusals : U64 := 0
  relayDiscards : U64 := 0
  agentWrites : U64 := 0
  refusals : U64 := 0
  progs : List StreamProg := []
  progErr : U32 := 0
  segs : List Segment := []
  segErr : U32 := 0
  passes : List Pass := []
  startedFor : List (U8 × U32) := []      -- program, step already started (R185)
  retries : List (U8 × U32 × Unacked) := []  -- refused with NOPASS, waiting OD 2800.03 (R194)
  agentWriteStep : Option U32 := none     -- step whose 0x2605 is recorded (R197)
deriving DecidableEq, Repr

/-- A region (R206, R207). -/
structure Region where
  id : U16
  kind : U8
  flags : U8
  jt : U16
  base : U64
  size : U64
  hbase : U64
  poisoned : Bool := false
deriving DecidableEq, Repr

/-- The retained marker of a warm reset (R225). -/
structure Marker where
  regions : List Region
  poisonL : List U64
  cycles : U32
  crc : U32
deriving DecidableEq, Repr

/-- The two device regions created at boot (R207). -/
def deviceRegions (cn : CN) : List Region :=
  let g (off : U64) : U64 := (cn.setWidth 64 <<< 47) ||| off
  [{ id := 0xFFFE, kind := 4, flags := 0x12, jt := 0, base := g 0, size := 0x800000, hbase := g 0x800000 },
   { id := 0xFFFF, kind := 9, flags := 0x11, jt := 0, base := g 0x010000000000, size := 0x10000000, hbase := 0 }]

/-- A marking of the stored block at a payload offset that waits for the copy of its page (R220, R321, R557): its own failure, or
the other block of its C pair (R221). -/
structure PendMark where
  off : Nat
  pair : Bool := false
deriving DecidableEq, Repr

/-- Memory tiers (R201, R227). Unlisted bytes of either tier read as zero (R217). -/
structure MemState where
  h : List Host.Cell := []
  l : List Host.Cell := []
  scrubH : U16 := 24
  scrubL : U16 := 24
  spareLimit : U16 := 4
  posH : U64 := 0
  posL : U64 := 0
  corrH : U64 := 0
  corrL : U64 := 0
  corr2 : U64 := 0
  uncH : U64 := 0
  uncL : U64 := 0
  spared : U64 := 0
  spareRefused : U64 := 0
  listFull : U64 := 0
  accessRefused : U64 := 0
  retainedLost : U64 := 0
  rebuilt : U64 := 0
  partialDropped : U64 := 0
  tableRefusals : U64 := 0
  spares : List U32 := [5139, 5139, 5140, 5140, 5140, 5140, 123361, 123361, 123361, 123361, 123361, 123361, 123361, 123361]
  regions : List Region := deviceRegions 0
  regionErr : U32 := 0
  poisonH : List U64 := []           -- poison lists: sector addresses (R222)
  poisonL : List U64 := []
  mirrorH : List U64 := []           -- the poison lists as module MRAM holds them (R222)
  mirrorL : List U64 := []
  marks : List PendMark := []        -- markings of stored blocks that wait for a copy of their page (R220, R321)
  bad : List (Tier × U64 × Nat) := []   -- stored codewords in error: tier, sector offset, wrong symbols (R215)
  corrected : List (Tier × U64 × Nat) := []  -- corrected sectors of each page this scrub pass (R219)
  redirect : List (Tier × U64 × Nat) := []   -- pages redirected, with their spare frame (R204)
  sparesOut : List Nat := []            -- devices whose 0x5012 is recorded
  refusedSrc : List (U32 × U32) := []   -- source CN, epoch whose 0x5014 is recorded
  marker : Option Marker := none
deriving DecidableEq, Repr

/-- A link identity (R253). -/
structure IdentBody where
  highest : U16
  lowest : U16
  kind : U8
  port : U8
  flags : U16
  serial : List Byte
  cn : U32
  usv : U16
  visa : U16
  grants : List U16
  firmware : U32
  nextSeq : U16
deriving DecidableEq, Repr

/-- The state of a port (R259, OD 50pp.01). -/
inductive PortState where
  | down | training | active | quarantine | failed | disabled
deriving DecidableEq, Repr

/-- A DATA frame kept for replay (R234): sequence, cells (8 lists of bytes), runs and start mask. -/
structure SentFrame where
  seq : BitVec 12
  cells : List (List Byte)
  runA : BitVec 3
  runB : BitVec 3
  runBStart : BitVec 3
  starts : U8
deriving DecidableEq, Repr

/-- A packet waiting for a port, with its VC (R239). -/
structure Queued where
  vc : BitVec 3
  pk : Packet
  from_ : Option Port := none     -- arrival port
  seq : Option Nat := none        -- order of entry into the switch pool; none for link-level packets
deriving DecidableEq, Repr

/-- A RESEND_REQ sent to an agent that has not been answered (R258). -/
structure AgentReq where
  ts : U32
  blk : U32
  req : Trans
  again : Bool
deriving DecidableEq, Repr

/-- A packet assembled from the cells of a port: its VC, whether its cells are still in the port buffer (R241), its bytes. -/
structure InPk where
  vc : BitVec 3
  held : Bool
  bytes : List Byte
deriving DecidableEq, Repr

/-- One port (R230 to R259). -/
structure PortSt where
  st : PortState := .down
  version : U16 := 0
  peer : Option IdentBody := none
  peerRaw : List Byte := []                    -- the IDENT body last received, as it came (R259)
  grantsSet : List U16
  grants : List U16
  hbUs : U32 := 1000
  replayUs : U16 := 10
  cellsSent : Vector U64 8 := Vector.replicate 8 0
  cellsRecv : Vector U64 8 := Vector.replicate 8 0
  replayed : U64 := 0
  naksSent : U64 := 0
  jtDiscards : U64 := 0
  hdrFails : U64 := 0
  overruns : U64 := 0
  auditMism : U64 := 0
  retrains : U64 := 0
  formViol : U64 := 0
  quarDiscards : U64 := 0
  fecCorr : U64 := 0
  fecUncorr : U64 := 0
  afterNak : U64 := 0
  lostFrames : U64 := 0
  agentViol : U64 := 0
  agentReports : U64 := 0
  frameFails : U64 := 0
  -- sender (R234, R236, R239, R241)
  nextSeq : BitVec 12 := 0
  acked : BitVec 12 := 0xFFF
  sentFrames : List SentFrame := []
  replayFrom : Option (BitVec 12) := none      -- replay in progress from this sequence
  credit : Vector Nat 8 := Vector.replicate 8 0
  creditSeen : Vector (BitVec 14) 8 := Vector.replicate 8 0
  sentFresh : Vector U32 8 := Vector.replicate 8 0
  peerGrants : Vector Nat 8 := Vector.replicate 8 0      -- grants the credit is counted from (R244)
  creditRecv : Vector U32 8 := Vector.replicate 8 0      -- credits received since the last fresh training
  initCredit : Nat := 0                        -- initial VC0 credit of a training not yet returned (R252)
  nakRow : Nat := 0
  queue : List Queued := []
  rrNext : Nat := 2                            -- round-robin pointer over VC2 to VC7
  outCells : List (BitVec 3 × Bool × List Byte) := []  -- cells of started packets: VC, start, bytes
  pausedCells : List (BitVec 3 × Bool × List Byte) := []  -- such cells while the port trains (R252, R256)
  -- receiver (R235, R241, R244)
  expect : BitVec 12 := 0
  ackSend : BitVec 12 := 0xFFF
  nakPending : Bool := false                   -- a NAK is to be sent in the next slot
  nakWait : Bool := false                      -- waiting for the expected frame after a NAK
  recvFresh : Vector U32 8 := Vector.replicate 8 0
  freed : Vector U32 8 := Vector.replicate 8 0
  reported : Vector U32 8 := Vector.replicate 8 0
  heldCells : Vector Nat 8 := Vector.replicate 8 0
  partialPk : Vector (List (List Byte)) 8 := Vector.replicate 8 []
  rrReport : Nat := 0
  skipping : Vector Bool 8 := Vector.replicate 8 false   -- cells skipped up to the next start bit (R242, R250)
  arrivedPk : List InPk := []
  hbCounts : List (Trans × Vector U32 8) := []  -- HEARTBEATs received, with the cells received before each (R243)
  lastOp : Vector Byte 8 := Vector.replicate 8 0  -- byte 0 of the packet last started on each VC (R250)
  wire : List Byte := []                       -- the model's output: the frame last sent, empty when none was
  -- training (R252, R255, R256)
  trainStep : Nat := 0                         -- 0 none; 1 electrical; 2 NULL frames; 3 IDENT
  goodFrames : Nat := 0
  offerResume : Bool := false
  firstTrain : Bool := true
  prevPeer : Option IdentBody := none
  identIn : Option IdentBody := none           -- the IDENT received in this training before step 3
  violQuar : Bool := false
  wasQuar : Bool := false
  retrainAt : List Nat := []                   -- times of the retrains of the last 1 s (R237)
  violAt : List Nat := []                      -- times of the violations of the last 1 s (R258)
  agentReqs : List AgentReq := []
  fencedOff : Bool := false                    -- disabled by a DECLARE (R401)
  -- watching (R395, R404)
  lastHb : Option Nat := none
  suspected : Bool := false
  agentLost : Bool := false
  -- marks (R447)
  markNo : U32 := 0
  peerMark : U32 := 0
  peerMarkAt : U64 := 0
  frameBytes : Vector U64 4 := Vector.replicate 4 0  -- OD 6020.01 (R438)
deriving DecidableEq, Repr

/-- The grants of R240. -/
def tlGrants : List U16 := [128, 128, 2560, 1792, 1024, 1024, 1024, 512]
def flGrants : List U16 := [256, 512, 12288, 8192, 4096, 4096, 2048, 1280]

/-- A port after reset. -/
def PortSt.reset (p : Port) : PortSt :=
  if p.val < 8 then { grantsSet := tlGrants, grants := tlGrants } else { grantsSet := flGrants, grants := flGrants }

/-- The link objects OD 5020 and the 24 ports (R259). -/
structure LinkState where
  ports : Vector PortSt 24 := Vector.ofFn PortSt.reset
  nakLimit : U8 := 16
  violLimit : U16 := 64
  resendUs : U32 := 1000
  retrainLimit : U8 := 3
deriving DecidableEq, Repr

/-- A wiring map entry (R263). -/
structure WireEntry where
  serial : List Byte := []
  cn : U32 := 0
  port : U8 := 0
  kind : U8 := 0
  pos : U8 := 0
deriving DecidableEq, Repr

/-- A routing entry (R268); an entry of a bank not listed is primary none, alternate none. -/
structure RouteEntry where
  cn : U32
  prim : BitVec 5
  alt : BitVec 5
deriving DecidableEq, Repr

/-- A circuit entry (R276), its state in OD 5300.09 and its last accepted sequence (R278). -/
structure CircuitSt where
  grant : U32 := 0
  jt : U16 := 0
  action : U8 := 0
  serial : List Byte := []
  peerPort : U8 := 0
  kind : U8 := 0
  cn : U32 := 0
  pod : U8 := 0
  state : U8 := 0
  lastGrant : U32 := 0
  raw : List Byte := []
  accepted : List (List Byte) := []     -- the accepted writes of the current sequence (R278)
  draining : Bool := false
  releasing : Bool := false
deriving DecidableEq, Repr

/-- A packet in the switch pool (R265, R272): arrival port, destination after substitution, packet. -/
structure PoolPk where
  from_ : Option Port
  vc : BitVec 3
  pk : Packet
  seq : Nat := 0                  -- order of entry into the pool
  out : Option Port := none       -- the port it waits for, or is bound to
deriving DecidableEq, Repr

/-- A packet delivered to an internal port (R265). -/
structure Delivered where
  unit : Fin 8
  port : Option Port
  pk : Packet
deriving DecidableEq, Repr

/-- Pods, routing, circuits, substitution (R283). -/
structure RouteState where
  wires : Vector WireEntry 16 := Vector.replicate 16 {}
  pod : U8 := 0xFF
  position : U8 := 0
  wireErr : U32 := 0
  active : List RouteEntry := [{ cn := 0, prim := 0x1E, alt := 0x1F }]
  shadow : List RouteEntry := [{ cn := 0, prim := 0x1E, alt := 0x1F }]
  pendingSwitch : Option U32 := none
  routeErr : U32 := 0
  residencyUs : U32 := 50000
  forwarded : U64 := 0
  unreachable : U64 := 0
  routeDiscards : U64 := 0
  expiries : U64 := 0
  altUses : U64 := 0
  refusals : U64 := 0
  swaps : U64 := 0
  jtDiscards : U64 := 0
  staleDiscards : U64 := 0
  futureDiscards : U64 := 0
  substShadow : List (U32 × U32) := []
  substActive : List (U32 × U32) := []
  substRefusals : U64 := 0
  substErr : U32 := 0
  circuits : Vector CircuitSt 8 := Vector.replicate 8 {}
  drainMs : U32 := 20
  changes : U64 := 0
  drainTimeouts : U64 := 0
  circRefusals : U64 := 0
  pool : List PoolPk := []
  poolFree : Nat := 262144            -- free cells of the pool (R244, R265)
  poolSeq : Nat := 0
  inWait : List PoolPk := []          -- packets of the device's units for which the pool has no room
  delivered : List Delivered := []
  seenUnreach : List U32 := []        -- destinations of this epoch whose 0x1050 is recorded
  seenUturn : Bool := false
  seenExpired : List Nat := []
  seenJt : List U32 := []
  seenAhead : List U32 := []
deriving DecidableEq, Repr

/-- A replica owner entry of OD 3000.04 (R313). -/
structure OwnerEntry where
  cn : U32 := 0
  valid : Bool := false
  region : U16 := 0
  delta : U64 := 0
deriving DecidableEq, Repr

/-- Pairing status values of OD 3000.05. -/
inductive PairStatus where
  | none_ | requesting | paired | correlated | refused
deriving DecidableEq, Repr

/-- An item retained until the partner acknowledges it (R300). -/
structure RetItem where
  pk : Packet
deriving DecidableEq, Repr

/-- A pending class change (R295). -/
structure ClassChange where
  ts : U32
  cls : U8
  step : U32
deriving DecidableEq, Repr

/-- A replica window under way at the partner (R302, R303): the record and whether it has been dispatched. -/
structure ReplicaWin where
  ts : U32
  w : U32
  step : U32
  s0 : U32
  s4 : U32
  held : Option U32
  ownerPipe : U8
  ownerDigest : U64
  src : U32
  dispatched : Bool := false
  firstPipe : Option U8 := none
  firstDigest : U64 := 0
  firstRes : Option RunResult := none
  repairing : Bool := false        -- REPLICA_POISONED or OWNER_FAULT repair in progress (R304)
  verdict : U8 := 0
  settled : Bool := false
  repairLeft : List U64 := []      -- offsets of repair blocks not yet acknowledged
deriving DecidableEq, Repr

/-- The step record of a log slot (R311). -/
structure LogRec where
  ts : U32
  step : U32
  s0 : U32 := 0
  s4 : U32 := 0
  held : Option U32 := none
  skipped : Bool := false
deriving DecidableEq, Repr

/-- A log slot's status (OD 3000.0A, R311). -/
structure LogSlot where
  owner : Nat
  slot : Nat
  step : U32
  complete : Bool
  poisoned : Bool
deriving DecidableEq, Repr

/-- A term of a shard digest (R307): stream selector, block index and the CRC-64 of the payload as finally written. -/
structure DigTerm where
  ts : U32
  step : U32
  replica : Bool
  w : U32
  stream : Stream
  idx : U32
  crc : U64
deriving DecidableEq, Repr

/-- Partners, replay and mirroring (R313). -/
structure PartState where
  tags : U64 := 0
  partner : U32 := 0
  named : Bool := false
  delta : U64 := 0
  owners : Vector OwnerEntry 4 := Vector.replicate 4 {}
  pair : PairStatus := .none_
  partnerTags : U64 := 0
  logDepth : U8 := 8
  digestMs : U32 := 1000
  resendUs : U32 := 2000
  depthNow : U8 := 8                           -- D in force since the last opening (R311, R313)
  logSlots : List LogSlot := []
  logRecs : List LogRec := []
  drops : List (U32 × U32 × U32) := []
  confirmed : U64 := 0
  decided : U64 := 0
  undecided : U64 := 0
  repReplica : U64 := 0
  repOwner : U64 := 0
  resends : U64 := 0
  agreed : U64 := 0
  mismatches : U64 := 0
  forced : U64 := 0
  replayBytes : U64 := 0
  refusals : U64 := 0
  duplicates : U64 := 0
  logRefusals : U64 := 0
  mirrorBytes : U64 := 0
  syncs : U64 := 0
  rplMin : U32 := 64
  frzLimit : U16 := 100
  clsStatus : U8 := 0
  clsRefusals : U64 := 0
  clsApplied : U64 := 0
  changes : List ClassChange := []
  heldPartner : Option (U32 × Bool) := none    -- writes held in RUN (R288)
  heldDelta : Option U64 := none
  heldOwners : Option (List OwnerEntry) := none
  retained : List RetItem := []
  replicas : List ReplicaWin := []
  terms : List DigTerm := []
  asked : Bool := false                        -- a PAIR_REQ is unanswered (R288)
  ownerStep : List (U32 × U32 × U32) := []     -- the last step whose OWNER digest came: source, shard, step (R301)
  ownerDig : List (U32 × U32 × U32 × U64) := []  -- OWNER digests waiting (R308): source, shard, step, digest
  ackedSteps : List (U32 × U32) := []          -- shard, step acknowledged by the partner (R20)
  toSync : List U32 := []                      -- shards to synchronise at their next step (R291, R309)
  syncing : List (U32 × U32) := []             -- shard, effective step under synchronisation (R296)
  repairFor : List (U32 × U32 × U32) := []     -- OWNER_FAULT verdicts pending at the owner (R304)
  dirty : List (U32 × U32 × U32) := []         -- shard, step, blocks written (R294)
  wrote : List (U32 × U32 × Stream × U32) := []   -- shard, step, stream, block written: FORCED cuts (R310, R340)
  seenSrc : List U32 := []
  seenShard : List U32 := []
  noPartnerEpoch : Option U32 := none          -- epoch whose 0x3003 is recorded
  loggedBlks : List (U32 × U32 × U32) := []    -- replica shard, step, G block in the log
deriving DecidableEq, Repr

/-- Kinds of point (R316). -/
inductive PointKind where
  | full | chain | kdelta | forced
deriving DecidableEq, Repr

/-- A page of a cut (R317, R321): global payload address and its place in the cut region. -/
structure CutPage where
  addr : U64
  slotIx : Nat
  step : U32
  copied : Bool
deriving DecidableEq, Repr

/-- Phases of OD 3200.04 (R322). -/
inductive CutPhase where
  | armed | copy | code
deriving DecidableEq, Repr

/-- A queued cut or the point in progress (R319). -/
structure Cut where
  step : U32
  forced : Bool
  sealedMove : Bool := false
  kind : PointKind := .kdelta
  phase : CutPhase := .armed
  pages : List CutPage := []
  busySeen : Bool := false
  seq : U32 := 0
  chunks : Nat := 0
  coded : Nat := 0              -- anchors, pages and MASK blocks already coded into chunks
  busyCoded : Nat := 0          -- the same once the chunk being programmed is committed
  length : Nat := 0             -- bytes of the chunks committed
  addr : U64 := 0               -- NAND address of the first chunk
  counters : List (U32 × U32 × U32) := []   -- shard, t, L at the sealed move (R380)
  masks : List (Nat × Block) := []          -- MASK blocks with a bit set, by offset, as CODE began (R323)
deriving DecidableEq, Repr

/-- A point record of the directory (R329). -/
structure Point where
  kind : PointKind
  jt : U16
  seq : U32
  step : U32
  addr : U64
  len : U64
  fullSeq : U32
  inTierS : Bool
  anchors : List (U32 × Int) := []
  counters : List (U32 × U32 × U32) := []   -- shard, t, L (R380)
  readOnly : Bool := false
deriving DecidableEq, Repr

/-- A chunk in Tier N (R327): address and chunk bytes. -/
structure Chunk where
  addr : U64
  seq : U32
  num : U32
  bytes : List Byte
deriving DecidableEq, Repr

/-- A part of a Tier S push (R334). After a reset it is sent again, its success counted once (R335, R337). -/
structure PushPart where
  num : U32
  resends : U8 := 0
  acked : Bool := false
  failed : Bool := false
  unsent : Bool := false
  counted : Bool := false
deriving DecidableEq, Repr

/-- A Tier S push (R333 to R336). -/
structure Push where
  seq : U32
  jt : U16
  step : U32
  attempt : U8 := 0
  next : U32 := 0
  total : U32
  issued : U32 := 0             -- parts of this attempt issued, succeeded, failed (R335)
  ok : U32 := 0
  bad : U32 := 0
  parts : List PushPart := []
  committing : Bool := false
  answers : List (U32 × U8) := []      -- gateway, status (R336)
  tries : List (U32 × Nat) := []
  waiting : Bool := false              -- 60 s pause before the next attempt
deriving DecidableEq, Repr

/-- What the coding of a cut that a warm reset found in CODE still needs of the job it belongs to (R342). -/
structure KeptCode where
  jt : U16
  epoch : U32
  segments : U16
  table : List TensorEntry
deriving DecidableEq, Repr

/-- A drain fence (R338, R339). -/
structure Drain where
  step : U32
  rung : U8
  own : Option Bool := none            -- true: complete
  kids : List (U32 × Bool × U32) := []
  sent : Bool := false
deriving DecidableEq, Repr

/-- Adjournment and the checkpoint tiers (R343). -/
structure AdjState where
  k : U32 := 50
  m : U32 := 500
  chainLen : U8 := 16
  drainStatus : U8 := 0
  drainMs : U32 := 900000
  drainedN : U32 := 0
  drainedS : U32 := 0
  baseRole : U8 := 0
  armed : U64 := 0
  abandoned : U64 := 0
  copied : U64 := 0
  busyWaits : U64 := 0
  busyPages : List U64 := []            -- pages waited for that OD 3200.13 has counted (R321)
  bytesCopied : U64 := 0
  unchanged : U64 := 0
  rawEntries : U64 := 0
  entryBytes : U64 := 0
  refusals : U64 := 0
  free : U64 := 1200000000000
  ptrSeq : U32 := 0
  ptrChunks : U32 := 0
  ptrAddr : U64 := 0
  points : List Point := []
  pointsCommitted : U64 := 0
  pointsDiscarded : U64 := 0
  reprogrammed : U64 := 0
  blocksRetired : U64 := 0
  uncReads : U64 := 0
  noSpace : U64 := 0
  ledgerWaits : U64 := 0
  gateways : List U32 := [0, 0, 0, 0]
  pushRate : U32 := 250
  partMs : U32 := 500
  partResends : U8 := 8
  attempts : U8 := 3
  sPtrObj : U64 := 0
  sPtrParts : U32 := 0
  sPtrLow : U32 := 0
  issued : U64 := 0
  succeeded : U64 := 0
  failed : U64 := 0
  resent : U64 := 0
  sCommitted : U64 := 0
  sFailed : U64 := 0
  broken : U64 := 0
  pushAbandoned : U64 := 0
  queue : List Cut := []
  chunkBusy : Option (List Byte) := none   -- the chunk being programmed
  chunkCost : U32 := 0                     -- its reservation in µJ (R511)
  chunks : List Chunk := []
  nextSeq : U32 := 1
  fullSeen : Bool := false                 -- a FULL point committed since the opening (R316)
  chainSince : Nat := 0                    -- CHAIN points since the last FULL (R316)
  chainBroken : Bool := false
  pushes : List Push := []
  drain : Option Drain := none             -- the pending drain fence (R338)
  drainIn : List (U32 × U8 × U32 × Bool × U32) := []  -- results of children for fences not written here: step, rung, child (R339)
  damage : List (U32 × Nat × Nat) := []    -- what reads of Tier N found uncorrectable: point, place in its image, bytes (R330)
  wasCode : Bool := false                  -- a point in CODE was cut off by a cold reset (R342)
  kept : Option KeptCode := none           -- the job of a cut that a warm reset found in CODE (R342)
deriving DecidableEq, Repr

/-- One mover channel (R346). -/
structure ChanState where
  src : U64 := 0
  dst : U64 := 0
  len : U64 := 0
  control : U32 := 0
  period : U32 := 1000
  repeats : U32 := 1
  srcStride : U64 := 0
  dstStride : U64 := 0
  status : U8 := 0
  resume : U64 := 0
  pass : U32 := 0
  fail : U8 := 0
  bytesRead : U64 := 0
  bytesWritten : U64 := 0
  overruns : U64 := 0
  heldStart : Bool := false        -- one pending tick or trigger (R351)
  passActive : Bool := false
  issued : Nat := 0                -- bytes of the pass whose reads are issued
  buffered : List Byte := []       -- data read and not yet written
  discarded : U64 := 0
  hostStarted : Bool := true       -- started by host or firmware, not by the continuity engine
  lastOk : Option Bool := none     -- result of the latest part
  partOn : Bool := false           -- a part has started and has not ended
  cells : Nat := 0                 -- buffer cells held: reads issued and data not yet written (R345)
  sending : Nat := 0               -- bytes at the front of the buffer that an outstanding WRITE carries
  wantRead : Bool := false         -- its next read waits for buffer cells
  ending : Option (U8 × U8 × Nat) := none  -- status, failure code and engine with which the part ends once the buffer is written
deriving DecidableEq, Repr

/-- A group report entry (R355). -/
structure GroupSt where
  issued : U32 := 0
  succeeded : U32 := 0
  failed : U32 := 0
  state : U8 := 0
deriving DecidableEq, Repr

/-- The movers (R359). -/
structure MovState where
  chans : Vector ChanState 64 := Vector.replicate 64 {}
  groups : List (U8 × GroupSt) := []
  remoteMs : U32 := 10
  reconcileMs : U32 := 10
  cellsFree : U32 := 32768
  refusals : U64 := 0
  issued : U64 := 0
  succeeded : U64 := 0
  failed : U64 := 0
  discarded : U64 := 0
  pauses : U64 := 0
  rrRead : Nat := 0                -- the channel the read engine looks at next (R345)
  saved : Option (List ChanState) := none   -- saved with the retained marker (R358)
deriving DecidableEq, Repr

/-- Phases of the opening packets (R365). -/
inductive OpPhase where
  | prepare | survey | install | commit | abandon | anchors
deriving DecidableEq, Repr

/-- The descriptor of an opening (R366). -/
structure Descr where
  mode : U8
  usv : U16
  visa : U16
  segments : U16
  start : U32
  members : U32
  digest : U64
  anchorCrc : U64
  skips : U32
deriving DecidableEq, Repr

/-- A phase in progress on a member (R369): its sender, whether its own part is done, what its children answered. -/
structure PhaseSt where
  phase : OpPhase
  seq : U32
  sender : Option U32
  own : Option (Bool × U8) := none       -- ready?, reason
  expect : List U32 := []
  ready : List U32 := []
  missing : List U32 := []
  readyCount : U32 := 0
  missCount : U32 := 0
  refused : Option (U8 × U32) := none    -- first refusal: reason, CN
  mask : U64 := BitVec.allOnes 64
  pk : Option Trans := none              -- the phase packet, for adoption and resend
  acked : Bool := false
deriving DecidableEq, Repr

/-- A pull under way at the owner (R381). -/
structure Pull where
  ts : U32
  stream : Stream
  first : U32
  count : U32
  tries : Nat
  digest : U64
deriving DecidableEq, Repr

/-- A shard under installation that is rolled forward from the partner's log (R382): G blocks received. -/
structure Roll where
  ts : U32
  target : U32
  blks : List Block := []
  failed : Bool := false
deriving DecidableEq, Repr

/-- A Tier S object being read with STORE_GET (R376 to R378): its bytes so far and the parts that came damaged. -/
structure StoreGet where
  obj : U64
  chain : Nat := 0              -- the chain of OD 2020.07 it belongs to
  survey : Bool := false        -- read for its head only (R376, R377)
  data : List Byte := []
  bad : List Nat := []
  done : Bool := false
  failed : Bool := false
deriving DecidableEq, Repr

/-- A mirror counter record (R380). -/
structure MirrorCtr where
  owner : U32
  ts : U32
  t : U32
  l : U32
deriving DecidableEq, Repr

/-- What a resignation has left to do and has done (R387). -/
structure ResignSt where
  circuitsReleased : Bool := false
  pointsFreed : Bool := false
  pushesAbandoned : Bool := false
  nBytes : Nat := 0             -- Tier N bytes of the points freed
deriving DecidableEq, Repr

/-- The job layer: OD 2000, 2010, 2020, 2030 (R361, R390). -/
structure JobState where
  jt : U16 := 0
  epoch : U32 := 0
  dev : DevState := .boot
  members : U32 := 0
  position : U32 := 0
  baseStep : U32 := 0
  tree : List (U32 × U32) := []
  levelMs : U32 := 250
  openStatus : U8 := 0
  refusal : Option (U8 × U8 × U32) := none
  missing : List U32 := []
  treeErr : U32 := 0
  seq : U32 := 0
  refusals : U64 := 0
  duplicates : U64 := 0
  adoptions : U64 := 0
  opened : U64 := 0
  restStatus : U8 := 0
  base : U32 := 0
  target : U32 := 0
  reach : U64 := 0
  pullMs : U32 := 5000
  sources : List (U8 × U16 × U32) := []
  tierS : List (List U64) := []
  rerun : U32 := 0
  mirrors : List MirrorCtr := []
  restored : U64 := 0
  rolled : U64 := 0
  pulled : U64 := 0
  aheadWins : U64 := 0
  aheadSent : U64 := 0
  pullRefusals : U64 := 0
  torn : U64 := 0
  resignStatus : U8 := 0
  attest : Option (List Byte) := none
  attestSeq : U32 := 0
  scrubbed : U64 := 0
  resigns : U64 := 0
  scrubFails : U64 := 0
  phase : Option PhaseSt := none
  lastAck : Option Trans := none            -- the stored acknowledgement (R370)
  lastPhase : Option OpPhase := none
  segs : List (U16 × List U16) := []        -- ANCHORS segments received (R365)
  segSeq : U32 := 0                         -- their sequence
  gets : List StoreGet := []                -- Tier S objects being read
  heads : List (U64 × U32) := []            -- Tier S object, step of its point
  descr : Option Descr := none
  reachIn : List (U32 × U64) := []          -- REACH masks of the partner by shard (R376)
  pulls : List Pull := []
  rolls : List Roll := []                   -- shards rolled forward under INSTALL (R382)
  ahead : List (U32 × U32) := []            -- shard, window: ahead windows (R383)
  farVectors : List (U32 × List (U32 × Int)) := []  -- anchor vectors read from Tier S images (R377)
  waitInstall : Option (U32 × U32) := none  -- sequence and T of an INSTALL command that awaits image heads (R377)
  vectors : List (U32 × List (U32 × Int)) := []  -- anchor vectors of the last 64 committed steps (R377)
  streamChecks : List (U32 × U64) := []     -- sender CN, CRC received (R374)
  adopted : List U32 := []                  -- children already declared missing in this sequence
  resign : ResignSt := {}
  fencedAs : Option (U16 × U32 × U32) := none  -- JT, epoch and position in which the device was last fenced (R11)
  stepStopped : Bool := false               -- SURVEY ended step activity until COMMIT (R375)
deriving DecidableEq, Repr

/-- A suspicion record of an arbiter (R397, R398). -/
structure Suspicion where
  pos : U32
  watchers : List U32
  probes : Nat
  firstAt : Nat
deriving DecidableEq, Repr

/-- An INSTALL being acknowledged up the tree (R406). -/
structure InstallSt where
  epoch : U32
  list : List U32                        -- the fence list it carries
  expect : List U32
  ready : List U32 := []
  folded : U32 := 1
  missing : List U32 := []
  missCount : U32 := 0
  sender : Option U32 := none
deriving DecidableEq, Repr

/-- The detector, OD 4000 and 4010 (R424). -/
structure DetState where
  suspUs : U32 := 3000
  deputy : U32 := 0
  quorum : U8 := 2
  windowMs : U32 := 10
  probeMs : U32 := 2
  isolMs : U32 := 50
  agentAction : U8 := 0
  agentUs : U32 := 3000
  fenceStatus : U8 := 0
  fenced : List U32 := []
  suspSent : U64 := 0
  suspRecv : U64 := 0
  dismissed : U64 := 0
  flagFalls : U64 := 0
  fencedCount : U64 := 0
  srcDiscards : U64 := 0
  dupDeclares : U64 := 0
  refusals : U64 := 0
  probes : U64 := 0
  installs : U64 := 0
  agentLosses : U64 := 0
  addrs : List (U32 × List Byte) := []
  records : List Suspicion := []
  sentFor : List U32 := []               -- peers suspected this epoch (R395)
  watchdogFed : Bool := true
  install : Option InstallSt := none
  lastInstalled : Option Trans := none
  planeOut : List (U32 × U16 × U8) := []  -- probes sent on both planes: position, index, sub (R398)
deriving DecidableEq, Repr

/-- A health record (R410) by its fields; the CRC-32C is computed. -/
structure HealthRec where
  seq : U32
  opMs : U64
  unit : U16
  code : U16
  path : U8
  flags : U8
  tbin : U8
  volt : U8
  freq : U8
  pattern : U16
  jt : U16
  step : U32
deriving DecidableEq, Repr

/-- A bin (R412). -/
structure Bin where
  tbin : U8
  volt : U8
  freq : U8
  pattern : U16
deriving DecidableEq, Repr

/-- Unit states (R411). -/
inductive UnitState where
  | clean | transient | conditional | permanent | retired
deriving DecidableEq, Repr

/-- A unit summary (R411). -/
structure UnitSum where
  unit : U16
  st : UnitState := .clean
  faults : U16 := 0
  lastMs : U64 := 0
  keepOut : List Bin := []
deriving DecidableEq, Repr

/-- The running or last gambit (R418 to R423). -/
structure Gambit where
  unit : U16 := 0
  pattern : U16 := 0
  volt : U8 := 0
  freq : U8 := 0
  inlet : U8 := 0
  flags : U8 := 0
  duration : U32 := 0
  seq : U32 := 0
  state : U8 := 0
  cause : U8 := 0
  tbin : U8 := 0
  errors : U32 := 0
  wasOn : Bool := false
  phase : U8 := 0                        -- 0 not running, 1 preparing, 2 ramping, 3 running
  fired : Bool := false                  -- started by RETEST_START (R413)
deriving DecidableEq, Repr

/-- The health history and gambits, OD 4100 and 4200 (R425). -/
structure HealthState where
  ring : List HealthRec := []
  readSeq : U32 := 0
  newest : U32 := 0
  sums : List UnitSum := []
  service : U8 := 0
  condLimit : U8 := 2
  permLimit : U8 := 3
  windowDays : U16 := 30
  spread : U8 := 4
  charged : U64 := 0
  overwritten : U64 := 0
  lap : Nat := 0                  -- records overwritten since the ring last wrapped (R411)
  retests : List (U16 × Bin) := []
  deferred : List U16 := []             -- units retired at the next epoch install or STANDBY (R415)
  gambit : Gambit := {}
  gLast : U32 := 0
  ceiling : U8 := 90
  minPipes : U8 := 6
  minCores : U8 := 12
  graceMs : U32 := 1000
  gRun : U64 := 0
  gErrors : U64 := 0
  gClamps : U64 := 0
  gRefused : U64 := 0
  gAborted : U64 := 0
deriving DecidableEq, Repr

/-- An event record (R427) by its fields; the CRC-32C is computed. -/
structure EventRec where
  seq : U32
  cycles : U32
  first : U64
  code : U16
  unit : U16
  repeats : U16
  last : U64
  cls : U8
  cut : Bool
  args : List Byte
deriving DecidableEq, Repr

/-- An event on its way to the recorder: code, source unit, class, arguments. -/
structure Event where
  code : U16
  unit : U16
  cls : U8
  args : List Byte
deriving DecidableEq, Repr

/-- The full record of R432: refusals of each class since it was written, and the time of the last. -/
structure FullRec where
  rec_ : EventRec
  counts : List U32
  lastMs : U64
deriving DecidableEq, Repr

/-- A trace record (R444). -/
structure TraceRec where
  time : U64
  island : U8
  kind : U8
  unit : U16
  port : U8
  vc : U8
  op : U8
  data : List Byte
deriving DecidableEq, Repr

/-- An alarm message (R449). -/
structure Alarm where
  seq : U32
  cls : U8
  resent : Bool
  coalesced : Bool
  represented : U32
  first : U64
  last : U64
  ev : Event
  waiting : Bool                 -- class 2 alarm still in its coalescing wait (R451)
  recs : List TraceRec := []     -- class 4: the trace records carried (R449)
  repOther : U32 := 0            -- of the represented, those of the other of classes 0 and 1 (R453)
deriving DecidableEq, Repr

/-- A plane's alarm queue and bucket (R450, R452). -/
structure PlaneQ where
  queue : List Alarm := []
  tokensMilli : Nat := 200000          -- tokens of R452 in thousandths
  generated : Vector U64 5 := Vector.replicate 5 0
  delivered : Vector U64 5 := Vector.replicate 5 0
  dropped : Vector U64 5 := Vector.replicate 5 0
  dropSec : Option Nat := none   -- second in which 0x8010 was recorded
  droppedSec : Vector U32 5 := Vector.replicate 5 0
  outbox : List (Bool × Alarm) := []   -- alarms sent on the plane
deriving DecidableEq, Repr

/-- A program-counter sample (R443). -/
structure Sample where
  time : U64
  unit : U16
  loc : U32
  st : U8
  ctx : U8
deriving DecidableEq, Repr

/-- One counter value of a snapshot (R441). -/
structure SnapEntry where
  index : U16
  sub : U8
  boundary : Bool
  elem : U16
  value : U64
deriving DecidableEq, Repr

/-- A snapshot (R441). -/
structure Snap where
  num : U32
  action : U8
  opMs : U64
  latches : List U64
  entries : List SnapEntry
deriving DecidableEq, Repr

/-- Recorder, counters, traces and alarms (R436, R437, R439, R455). -/
structure TeleState where
  frozen : Bool := false
  readPtr : U32 := 0
  freezeMs : U32 := 10000
  repeatMs : U32 := 1000
  slots : List EventRec := []
  full : Option FullRec := none
  nextSeq : U32 := 0
  holding : List EventRec := []
  refused : Vector U64 4 := Vector.replicate 4 0
  holdRefused : U64 := 0
  holdRefusedAt : U64 := 0             -- OD 7000.14 when the freeze began
  clearRefused : U64 := 0
  damaged : U64 := 0
  always : Vector U64 14 := Vector.replicate 14 0     -- 6000.03 to 6000.10 (R437)
  twins : Vector U64 14 := Vector.replicate 14 0      -- 6040.03 to 6040.10
  stallRed : Vector U64 5 := Vector.replicate 5 0
  stallStr : Vector U64 5 := Vector.replicate 5 0
  stallCod : Vector U64 5 := Vector.replicate 5 0
  stallMvR : Vector U64 4 := Vector.replicate 4 0
  stallMvW : Vector U64 4 := Vector.replicate 4 0
  snapStatus : U8 := 0
  snapOff : U32 := 0
  snapRefused : U64 := 0
  snapNum : U32 := 0
  snaps : List Snap := []
  snapBusy : Option Snap := none
  kinds : U16 := 0
  mode : U8 := 0
  tracePorts : U32 := 0xFFFFFF
  traceOps : U64 := BitVec.allOnes 64
  traceStatus : U8 := 0
  traceRefused : Bool := false         -- the last trace action was refused (OD 6400.06)
  traceNewest : U32 := 0
  traceWritten : U64 := 0
  traceDropped : U64 := 0
  traceLost : U64 := 0
  traceOver : U64 := 0
  trace : List TraceRec := []
  sampEvery : U32 := 0
  sampUnits : U32 := 0
  sampRead : U32 := 0
  sampWritten : U64 := 0
  sampOver : U64 := 0
  samples : List Sample := []
  lfsr : List (U16 × U16) := []        -- jitter register of each sampled unit (R443)
  collectors : List Byte := List.replicate 160 0
  forward : List (U16 × U8) := []
  tokenRate : U16 := 200
  bucket : U16 := 200
  resendMs : U32 := 1000
  waitMs : U32 := 100
  streaming : U8 := 0
  alarmSeq : U32 := 0
  hold : List Alarm := []
  holdFull : Bool := false
  holdGenerated : Vector U64 2 := Vector.replicate 2 0
  holdDelivered : Vector U64 2 := Vector.replicate 2 0
  planes : Vector PlaneQ 2 := Vector.replicate 2 {}
  markInt : U32 := 0
  lossSeen : List U64 := []            -- RECSTAGE sectors whose 0x8007 is recorded
deriving DecidableEq, Repr

/-- A duplicate-table entry (R465). -/
structure DupEntry where
  client : U32
  req : U32
  crc : U32
  resp : Option (List Byte)
  owner : Path
deriving DecidableEq, Repr

/-- An open write session (R467). -/
structure Session where
  key : SessionKey
  host : Bool
  data : List Byte
deriving DecidableEq, Repr

/-- A configuration store copy (R479): valid, generation, entries as (index, sub, value bytes). -/
structure CfgCopy where
  valid : Bool := false
  gen : U32 := 0
  entries : List (U16 × U8 × List Byte) := []
deriving DecidableEq, Repr

/-- The object server and its paths (R482). -/
structure AccState where
  maAddr : List Byte := List.replicate 16 0
  mbAddr : List Byte := List.replicate 16 0
  dupMs : U32 := 10000
  port : U16 := 47400
  prefixes : List Byte := []
  sessMs : U32 := 5000
  tunnelWrites : U8 := 0
  planeUp : List U8 := [0, 0]
  taken : Vector U64 4 := Vector.replicate 4 0
  dupAnswered : U64 := 0
  mismatches : U64 := 0
  discarded : U64 := 0
  busy : U64 := 0
  sessExpired : U64 := 0
  signRefused : U64 := 0
  todPlane : U8 := 0
  ringReqP : U16 := 0
  ringReqC : U16 := 0
  ringRspP : U16 := 0
  ringRspC : U16 := 0
  linkWidth : U8 := 0
  winRefused : U64 := 0
  winLast : List Byte := [0, 0, 0, 0]
  irqMap : List U8 := [0, 1, 2, 3, 4, 5, 6, 7]
  irqPend : U32 := 0
  msix : List U8 := []                       -- MSI-X messages sent, newest first (R476)
  cfgWord : U8 := 0
  cfgFallback : U8 := 0
  cfgGen : U32 := 0
  cfgSkipped : U32 := 0
  cfgA : CfgCopy := {}
  cfgB : CfgCopy := {}
  saving : Option (Bool × CfgCopy) := none   -- which copy (true: B) and its content
  dups : List DupEntry := []
  mismAt : List (U32 × Nat) := []            -- client, second of its last 0x8031
  sessions : List Session := []
  gens : List (U16 × U8 × U32) := []         -- write generations (R468)
  reqRing : List (U16 × List Byte) := []     -- messages the host placed in request slots
  rspRing : List (U16 × List Byte) := []
  responses : List (Path × List Byte) := []  -- responses sent on planes and tunnels
deriving DecidableEq, Repr

/-- An image slot (R488, R498). -/
structure ImageSlot where
  state : U8 := 0
  version : U32 := 0
  rollback : U32 := 0
  usv : U16 := 0
  visa : U16 := 0
  header : List Byte := []
deriving DecidableEq, Repr

/-- A key of OD 9000.01 (R494). -/
structure KeyEntry where
  rights : U8 := 0
  pub : List Byte := []
deriving DecidableEq, Repr

/-- Start-up and trust (R498). -/
structure BootState where
  lastReset : U8 := 1
  ignored : U64 := 0
  keys : List KeyEntry := []
  identFailed : U8 := 0
  counters : Vector U64 16 := Vector.replicate 16 0
  keyRefusals : U64 := 0
  imageA : ImageSlot := { state := 2, version := 0, rollback := 0, usv := 2, visa := 1 }
  imageB : ImageSlot := {}
  activeB : Bool := false
  trial : Option Bool := none           -- the trial slot, true for B
  attempts : U8 := 0
  running : Bool := false               -- the slot running, true for B
  floor : U32 := 0
  imgRefusals : U64 := 0
  report : Option (List Byte) := none
  reports : U64 := 0
  package : Option (List Byte × List (U16 × U8 × List Byte)) := none
  pkgVersion : U32 := 0
  pkgRefusals : U64 := 0
  step : U8 := 0                        -- step of R487 in progress, 0 when none
  watchdog : Bool := false              -- the 10 s boot watchdog is running (R490)
  resetHeld : Bool := false             -- internal reset asserted
  nextKind : U8 := 0                    -- kind of the reset being released
  staging : Option (Bool × ImageSlot) := none
deriving DecidableEq, Repr

/-- One reservoir (R509 to R513), energies in µJ. -/
structure Reservoir where
  ceiling : U32 := 8000000
  usable : U32 := 0
  status : U8 := 1
  lastUsable : U32 := 0
  charged : U32 := 0
  spent : U32 := 0
deriving DecidableEq, Repr

/-- Power, clocks, the ledger and the pins (R516, R554, R538 to R549). -/
structure PwrState where
  reservations : List U32 := []          -- outstanding beyond the standing one, µJ
  margin : U32 := 500000
  reconcileMs : U32 := 100
  granted : U64 := 0
  released : U64 := 0
  refused : U64 := 0
  hu : Vector Reservoir 2 := Vector.replicate 2 {}
  chargeW : U16 := 10
  capW : U16 := 560
  powerW : U16 := 0
  throttledMs : U64 := 0
  islandPct : Vector Nat 44 := Vector.replicate 44 200     -- half per cent of nominal
  temps : Vector U16 44 := Vector.replicate 44 0
  throttleC : U8 := 95
  coolReq : U8 := 0
  coolApplied : U8 := 0
  latched : List U8 := []
  overcurrents : U64 := 0
  accRelease : U8 := 0
  gpioDir : U32 := 0
  gpioOut : U32 := 0
  accPwrgd : U8 := 0
  thermtrip : Bool := false
  alerts : U64 := 0
  therms : U64 := 0
  pwrLosses : U64 := 0
  ppsRejected : U64 := 0
  railFaults : U64 := 0
  standingSeen : Bool := false
  bothCharged : Bool := false             -- both reservoirs have charged since power-on (R512)
  granting : Bool := true                 -- cleared by the power-loss sequence (R514)
  belowMs : Nat := 0                      -- ms the average has stayed 5 % below the cap
  throttleMin : Option Nat := none        -- minute whose 0x6030 is recorded
  capUnmet : Bool := false
  closing : Option (U32 × U32) := none    -- the ledger closing record in MRAM
  sysRstLow : Bool := false
  wrstLow : Bool := false
  badRails : List Rail := []
  sysclk : Bool := true
  ppsLast : Option Nat := none            -- ms of the last accepted edge; none: the next edge is a new start
  alertWait : List Port := []             -- tray links whose alert awaits an AGENT_REPORT (R547)
  gated : List Nat := []                  -- islands power-gated (R502)
deriving DecidableEq, Repr

/-- An exerciser port's objects OD A1pp and results OD A2pp (R521, R531). -/
structure ExPort where
  mode : U8 := 0
  pattern : U8 := 1
  rate : U16 := 1000
  check : U8 := 1
  expect : List Byte := List.replicate 32 0
  strict : U8 := 0
  dest : U32 := 0
  deadlineUs : U32 := 10
  seed : U32 := 1
  versions : U32 := 0x00020003
  counts : Vector U64 32 := Vector.replicate 32 0
  sent : U64 := 0
  checked : U64 := 0
  bits : U64 := 0
  capture : List (U8 × U64 × List Byte) := []
  nextBlk : U32 := 0
  lastBlk : Option (U32 × U32) := none       -- seed, last block index (R525 code 0x0F)
  injections : List (U8 × U8 × U8 × U32) := []  -- code, VC, count left, spacing
  sinceInj : Nat := 0
  waitReact : List U8 := []                  -- injections whose reaction is awaited
  deferSeen : Bool := false                  -- the waiting injection is counted in OD A000.11 (R527)
  slots : Nat := 0                           -- frame slots not yet used by the generator, in thousandths (R524)
deriving DecidableEq, Repr

/-- A script entry (R529). -/
structure ScriptEntry where
  act : U8
  waitMs : U16
  ops : List Byte
deriving DecidableEq, Repr

/-- Exerciser mode (R531). -/
structure ExState where
  status : U8 := 0
  lengthMs : U32 := 10000
  runNo : U32 := 0
  user : List Byte := []
  applied : U64 := 0
  deferred : U64 := 0
  passed : U64 := 0
  failed : U64 := 0
  refusals : U64 := 0
  ports : Vector ExPort 24 := Vector.replicate 24 {}
  script : List ScriptEntry := []
  pos : U16 := 0
  jt : U16 := 0
  epoch : U32 := 0
  withhold : Bool := false
  held : List (U32 × U32 × U32 × U8) := []   -- withheld pieces: contributor, tensor/shard, block, format code
  opened : List U32 := []                    -- steps opened to the agent
  failedSteps : List U32 := []
  seenPieces : List (U32 × U32 × U32 × U32) := []
  expecting : Option (U32 × Nat) := none     -- step, CONTRIBs still expected
  gambitSeq : Option U32 := none
deriving DecidableEq, Repr

/-- Why the machine stops with a fault. The model stops on no command of the manual: nothing raises this. -/
inductive Fault where
  /-- Raised by no definition of the model; safe, since no run can reach it. -/
  | none_
deriving DecidableEq, Repr

/-- Why a command is refused by the model. -/
inductive Refusal where
  /-- Raised by an arm of exec for a command that has no meaning yet; safe, since no next state is claimed. -/
  | notModelled (mnemonic : String)
deriving DecidableEq, Repr

/-- The whole device (R9), one field per chapter of the manual, the queue of waiting commands, and the model's own counter
of free values (log entry 3). -/
structure State where
  pending : List Instr := []
  time : TimeState := {}
  ident : Ident := {}
  chk : CheckState := {}
  fence : FenceState := {}
  red : RedState := {}
  upd : UpdState := {}
  vec : VecState := {}
  str : StrState := {}
  mem : MemState := {}
  links : LinkState := {}
  route : RouteState := {}
  part : PartState := {}
  adj : AdjState := {}
  mov : MovState := {}
  job : JobState := {}
  det : DetState := {}
  health : HealthState := {}
  tele : TeleState := {}
  acc : AccState := {}
  boot : BootState := {}
  pwr : PwrState := {}
  exer : ExState := {}
  freeCtr : Nat := 0
deriving DecidableEq, Repr

/-- The device right after reset: BOOT, every object at its default (R361 and the object tables of each chapter). -/
def State.reset : State := {}

end Sys2Proof.Machine
end

