-- ==== Sys2Proof/Machine/Flags.lean ====
section
/-! DEFINITION. The signals every unit shares: the event recorder (R427 to R433), alarms (R449 to R453), the trace (R444 to
R446), interrupts (R476), and the device state with its SAFE entry (R9, R10). -/
namespace Sys2Proof.Machine

/-! ## Arguments -/

def arg1 (v : Nat) : List Byte := leBytes 1 v
def arg2 (v : Nat) : List Byte := leBytes 2 v
def arg4 (v : U32) : List Byte := le32 v
def arg8 (v : U64) : List Byte := le64 v

/-- An event: its code, source unit and class (R429) and its arguments in order. -/
def ev3 (code unit : Nat) (args : List Byte) : Event := ⟨BitVec.ofNat 16 code, BitVec.ofNat 16 unit, 3, args⟩
def ev2 (code unit : Nat) (args : List Byte) : Event := ⟨BitVec.ofNat 16 code, BitVec.ofNat 16 unit, 2, args⟩
def ev1 (code unit : Nat) (args : List Byte) : Event := ⟨BitVec.ofNat 16 code, BitVec.ofNat 16 unit, 1, args⟩
def ev0 (code unit : Nat) (args : List Byte) : Event := ⟨BitVec.ofNat 16 code, BitVec.ofNat 16 unit, 0, args⟩

/-! Source units (R408, R428). -/
def unitPort (p : Port) : Nat := 0x0700 + p.val
def unitRed : Nat := 0x1000
def unitCont : Nat := 0x1100
def unitCC : Nat := 0x1200
def unitMem : Tier → Nat
  | .h => 0x1300
  | .l => 0x1301
def unitSec : Nat := 0x1400
def unitPwr : Nat := 0x1500
def unitSwitch : Nat := 0x1600
def unitFault : Nat := 0x1700
def unitRec : Nat := 0x1800
def unitPipe (p : Pipe) : Nat := 0x0100 + p.val
def unitCore (c : Core) : Nat := 0x0200 + c.val
def unitStr : Nat := 0x0C00

/-! ## Counters -/

/-- The always-on byte counters OD 6000.03 to 6000.10 and their interval twins, by subindex less 3 (R437). -/
def TeleState.countBytes (k : Fin 14) (n : Nat) (t : TeleState) : TeleState :=
  { t with always := t.always.set k (bumpBy t.always[k] n), twins := t.twins.set k (bumpBy t.twins[k] n) }

def State.countBytes (k : Fin 14) (n : Nat) (s : State) : State := { s with tele := s.tele.countBytes k n }

def addAt {n : Nat} (v : Vector U64 n) (i : Nat) (k : Nat) : Vector U64 n :=
  if h : i < n then v.set i (bumpBy v[i] k) else v

/-! ## The recorder -/

/-- Slots before the full record (R432). -/
def recorderSlots : Nat := 1048575

def sat3 (c : U32) : U32 := if c.toNat > 0xFFFFFF then 0xFFFFFF else c

/-- A new record of an event (R427). -/
def newRec (seq cyc : U32) (op : U64) (e : Event) : EventRec :=
  { seq := seq, cycles := sat3 cyc, first := op, code := e.code, unit := e.unit, repeats := 1, last := op,
    cls := e.cls, cut := decide (e.args.length > 34), args := padTo 34 (e.args.take 34) }

/-- The record of a repeat (R431). -/
def repeatRec (op : U64) (r : EventRec) : EventRec :=
  { r with repeats := if r.repeats == 0xFFFF then r.repeats else r.repeats + 1, last := op }

/-- Whether a record takes an event as a repeat (R431). -/
def repeats (window : U32) (op : U64) (e : Event) (r : EventRec) : Bool :=
  window != 0 && r.code == e.code && r.unit == e.unit && r.args == padTo 34 (e.args.take 34) &&
  decide ((op - r.first).toNat ≤ window.toNat)

/-- The index of the record among the last n that takes the event. -/
def findRepeat (window : U32) (op : U64) (e : Event) (n : Nat) (l : List EventRec) : Option Nat :=
  let off := l.length - n
  ((l.drop off).findIdx? (repeats window op e)).map (· + off)

/-- The full record with its refusal counts (R432). -/
def FullRec.refresh (op : U64) (f : FullRec) : FullRec :=
  let total := (f.counts.map (·.toNat)).sum
  { f with rec_ := { f.rec_ with
      args := padTo 34 (f.counts.flatMap le32 ++ le64 f.lastMs)
      repeats := BitVec.ofNat 16 (min 0xFFFF (1 + total)), last := op } }

/-- A refused event of the full recorder: the counts rise; the record is rewritten at most once a second (R432). -/
def FullRec.refuse (op : U64) (cls : U8) (f : FullRec) : FullRec :=
  let cs := f.counts.modify cls.toNat (fun c => if c == 0xFFFFFFFF then c else c + 1)
  let f := { f with counts := cs, lastMs := op }
  if (op - f.rec_.last).toNat ≥ 1000 then f.refresh op else f
/-- The bytes of module MRAM that a refusal writes: a record, when it is rewritten. -/
def FullRec.refuseBytes (op : U64) (f : FullRec) : Nat := if (op - f.rec_.last).toNat ≥ 1000 then 64 else 0

/-- The full record as it is first written (R432). -/
def fullRec (seq cyc : U32) (op : U64) : FullRec :=
  { rec_ := newRec seq cyc op (ev3 0x8001 unitRec []), counts := [0, 0, 0, 0], lastMs := 0 }

/-- A record appended with the next sequence, or refused when the recorder is full (R430, R432). -/
def TeleState.append (cyc : U32) (op : U64) (r : EventRec) (t : TeleState) : TeleState × Option U32 :=
  match t.full with
  | some f =>
    ({ t.countBytes 6 (f.refuseBytes op) with
        full := some (f.refuse op r.cls), refused := addAt t.refused r.cls.toNat 1 }, none)
  | none =>
    let t1 := { t with slots := t.slots ++ [{ r with seq := t.nextSeq }], nextSeq := t.nextSeq + 1 }
    let t2 := if t1.slots.length ≥ recorderSlots then
        { t1.countBytes 6 64 with full := some (fullRec t1.nextSeq cyc op), nextSeq := t1.nextSeq + 1 } else t1
    (t2.countBytes 6 64, some t.nextSeq)

/-- An event reaches the recorder (R430, R431, R433): the state after it, and the sequence of the record that holds it. -/
def TeleState.recordPlain (cyc : U32) (op : U64) (e : Event) (t : TeleState) : TeleState × Option U32 :=
  if t.frozen then
    match findRepeat t.repeatMs op e t.holding.length t.holding with
    | some i => ({ t with holding := t.holding.modify i (repeatRec op) }, none)
    | none =>
      if t.holding.length < 4096 then ({ t with holding := t.holding ++ [newRec 0 cyc op e] }, none)
      else ({ t with holdRefused := bump t.holdRefused }, none)
  else
    match findRepeat t.repeatMs op e 256 t.slots with
    | some i =>
      (({ t with slots := t.slots.modify i (repeatRec op) }).countBytes 6 64, (t.slots[i]?).map (·.seq))
    | none => t.append cyc op (newRec 0 cyc op e)

/-! ## Alarms -/

def alarmOf (seq : U32) (op : U64) (e : Event) : Alarm :=
  { seq := seq, cls := e.cls, resent := false, coalesced := false, represented := 1, first := op, last := op, ev := e,
    waiting := e.cls == 2 }

/-- Another alarm of the message's code and source joins it (R451). -/
def Alarm.merge (op : U64) (a : Alarm) : Alarm :=
  { a with represented := a.represented + 1, last := op, coalesced := true }

/-- The last index of a list that satisfies p. -/
def lastIdx {α : Type} (p : α → Bool) (l : List α) : Option Nat :=
  (l.reverse.findIdx? p).map (fun i => l.length - 1 - i)

def PlaneQ.drop (sec : Nat) (cls : U8) (n : Nat) (q : PlaneQ) : PlaneQ :=
  { q with
    dropped := addAt q.dropped cls.toNat n
    droppedSec := if h : cls.toNat < 5 then q.droppedSec.set cls.toNat (q.droppedSec[cls.toNat] + BitVec.ofNat 32 n)
      else q.droppedSec
    dropSec := some (q.dropSec.getD sec) }

/-- A queued message removed to make room (R452). -/
def PlaneQ.evict (sec : Nat) (i : Nat) (q : PlaneQ) : PlaneQ :=
  match q.queue[i]? with
  | some a => ({ q with queue := q.queue.eraseIdx i }).drop sec a.cls a.represented.toNat
  | none => q

/-- An alarm of class 2 to 4 arrives at a plane's queue (R450 to R452). -/
def PlaneQ.arrive (sec : Nat) (op : U64) (a : Alarm) (q : PlaneQ) : PlaneQ :=
  let q := { q with generated := addAt q.generated a.cls.toNat 1 }
  let push (q : PlaneQ) : PlaneQ := { q with queue := q.queue ++ [a] }
  let mergeIx := if a.cls == 2 then
      q.queue.findIdx? (fun b => b.waiting && b.ev.code == a.ev.code && b.ev.unit == a.ev.unit) else none
  match mergeIx with
  | some i => { q with queue := q.queue.modify i (Alarm.merge op) }
  | none =>
    if q.queue.length < 1024 then push q
    else match lastIdx (fun b => b.cls == 4) q.queue with
      | some i => push (q.evict sec i)
      | none =>
        match (if a.cls == 2 then lastIdx (fun b => b.cls == 3) q.queue else none) with
        | some i => push (q.evict sec i)
        | none => q.drop sec a.cls 1

/-- The alarm hold takes an alarm of class 0 or 1 (R453); true when this filled hold must record event 0x8006. -/
def TeleState.holdAlarm (op : U64) (a : Alarm) (t : TeleState) : TeleState × Bool :=
  let t := { t with holdGenerated := addAt t.holdGenerated a.cls.toNat 1 }
  if t.hold.length < 4096 then
    ({ t with hold := t.hold ++ [a] }, false)
  else
    let i := (t.hold.findIdx? (fun b => b.ev.code == a.ev.code)).getD 4095
    let join (b : Alarm) : Alarm := { b with
      represented := b.represented + 1, last := op, repOther := if b.cls == a.cls then b.repOther else b.repOther + 1 }
    ({ t with hold := t.hold.modify i join, holdFull := true }, !t.holdFull)

/-- The collectors that a plane's list names (R449, R455). -/
def TeleState.collectorCount (t : TeleState) (i : Nat) : Nat :=
  ((List.range 4).filter (fun k => (sliceZ t.collectors (80 * i + 20 * k) 20).any (· != 0))).length

/-- A NOTIFY leaves on a plane for each collector: 48 bytes of header and 96 of alarm (R449, R461). -/
def TeleState.planeSend (i : Fin 2) (resent : Bool) (a : Alarm) (t : TeleState) : TeleState :=
  let q := t.planes[i]
  ({ t with planes := t.planes.set i { q with outbox := q.outbox ++ [(resent, a)] } }).countBytes
    ⟨12 + i.val, by omega⟩ (144 * t.collectorCount i.val)

/-- An alarm is raised (R449, R450): it takes the next alarm sequence and goes to both planes; classes 0 and 1 enter the hold
and leave at once, needing no token. -/
def TeleState.alarm (now : Nat) (cyc : U32) (op : U64) (e : Event) (t : TeleState) : TeleState :=
  let a := alarmOf t.alarmSeq op e
  let t := { t with alarmSeq := t.alarmSeq + 1 }
  if e.cls.toNat ≤ 1 then
    let (t, fill) := t.holdAlarm op a
    let t := (t.planeSend 0 false a).planeSend 1 false a
    if fill then (t.recordPlain cyc op (ev3 0x8006 unitRec [])).1 else t
  else
    { t with planes := t.planes.map (PlaneQ.arrive (now / 1000) op a) }

/-- The class the forwarding map gives a code (R451). -/
def TeleState.forwarded (t : TeleState) (code : U16) : Option U8 := (t.forward.find? (·.1 == code)).map (·.2)

/-! ## The trace -/

def traceCapacity : Nat := 6291456

/-- A trace record arrives (R445, R446); with trace streaming it also leaves as a class 4 alarm (R450). -/
def TeleState.traceAdd (now : Nat) (op : U64) (r : TraceRec) (t : TeleState) : TeleState :=
  if !(t.kinds.getLsbD (r.kind.toNat - 1)) || r.kind == 0 then t
  else if t.traceStatus == 2 then { t with traceDropped := bump t.traceDropped }
  else if t.traceStatus != 1 then t
  else
    let newest := BitVec.ofNat 32 (t.traceWritten.toNat % traceCapacity)
    let put (t : TeleState) : TeleState := t.countBytes 3 32     -- a Tier L write of 32 bytes
    let t := if t.trace.length < traceCapacity then
        { (put t) with trace := t.trace ++ [r], traceWritten := bump t.traceWritten, traceNewest := newest }
      else if t.mode == 0 then { t with traceStatus := 2, traceDropped := bump t.traceDropped }
      else { (put t) with
        trace := t.trace.drop 1 ++ [r], traceWritten := bump t.traceWritten, traceNewest := newest, traceOver := bump t.traceOver }
    if t.streaming == 1 then
      let a : Alarm := { alarmOf t.alarmSeq op ⟨0, r.unit, 4, []⟩ with recs := [r], waiting := false }
      { t with alarmSeq := t.alarmSeq + 1, planes := t.planes.map (PlaneQ.arrive (now / 1000) op a) }
    else t

def traceRec (time : U64) (island kind unit : Nat) (port vc op : Nat) (data : List Byte) : TraceRec :=
  { time := time &&& 0xFFFFFFFFFFFF#64, island := BitVec.ofNat 8 island, kind := BitVec.ofNat 8 kind,
    unit := BitVec.ofNat 16 unit, port := BitVec.ofNat 8 port, vc := BitVec.ofNat 8 vc, op := BitVec.ofNat 8 op,
    data := padTo 16 data }

/-- The clock of an island now (R444). -/
def State.ns (s : State) (island : Nat) : U64 := Config.islandNs island s.time.now

def State.trace (island kind unit port vc op : Nat) (data : List Byte) (s : State) : State :=
  { s with tele := s.tele.traceAdd s.time.now s.time.opMs (traceRec (s.ns island) island kind unit port vc op data) }

/-! ## Interrupts -/

/-- A source is raised (R476). A source whose bit is set adds nothing. -/
def State.raiseIrq (n : Nat) (s : State) : State :=
  if s.acc.irqPend.getLsbD n then s
  else
    let v := (s.acc.irqMap[n]?).getD 0xFF
    { s with acc := { s.acc with
        irqPend := s.acc.irqPend ||| (1#32 <<< n)
        msix := if v == 0xFF then s.acc.msix else v :: s.acc.msix } }

/-! ## Events -/

/-- The recorder, the EVENT trace and the alarm of an event (R429, R430, R445, R449, R451). -/
def State.recordTele (e : Event) (s : State) : TeleState :=
  let cls := if e.cls == 3 then (s.tele.forwarded e.code).getD 3 else e.cls
  let e' := { e with cls := cls }
  let (t, seq) := s.tele.recordPlain s.time.cycles s.time.opMs e'
  let data := le16 e.code ++ [0, 0] ++ le32 (seq.getD 0xFFFFFFFF)
  let t := t.traceAdd s.time.now s.time.opMs (traceRec (s.ns 40) 40 9 e.unit.toNat 0xFF 0xFF 0 data)
  if cls != 3 || (s.tele.forwarded e.code).isSome then t.alarm s.time.now s.time.cycles s.time.opMs e' else t

/-- An event is recorded, with its alarm when its class has one; an alarm of class 0 or 1 raises interrupt source 3. -/
def State.record (e : Event) (s : State) : State :=
  let s := { s with tele := s.recordTele e }
  if e.cls.toNat ≤ 1 then s.raiseIrq 3 else s

/-! ## Device state -/

/-- A change of OD 2000.03 raises interrupt source 4 (R476). -/
def State.setDev (d : DevState) (s : State) : State :=
  if s.job.dev = d ∨ s.job.dev = .safe then s else ({ s with job := { s.job with dev := d } }).raiseIrq 4

/-- A SAFE-entering condition: the event is recorded before the state changes (R10). -/
def State.enterSafe (e : Event) (s : State) : State := (s.record e).setDev .safe

/-- A change of the opening or restore status raises interrupt source 7 (R476). -/
def State.setOpenStatus (v : U8) (s : State) : State :=
  if s.job.openStatus == v then s else ({ s with job := { s.job with openStatus := v } }).raiseIrq 7
def State.setRestStatus (v : U8) (s : State) : State :=
  if s.job.restStatus == v then s else ({ s with job := { s.job with restStatus := v } }).raiseIrq 7

/-- The own CN as a packet field. -/
def State.own (s : State) : U32 := s.ident.cn.setWidth 32

/-- The position the device has adopted by substitution, else its own CN (R282). -/
def State.adopted (s : State) : U32 :=
  match s.route.substActive.find? (fun e => e.2 == s.own) with
  | some e => e.1
  | none => s.own

end Sys2Proof.Machine
end

