-- ==== Sys2Proof/Machine/Ops.lean ====
section
/-! DEFINITION. The named operations every unit uses: tier memory and its sector code (R201 to R223, R557), fault charges (R409
to R414), and the sending and delivery of packets (R247, R265, R272, R282). -/
namespace Sys2Proof.Machine
open Sys2Proof

/-! ## Cells

A tier is a list of (offset, byte) with rising offsets and no zero byte: an unlisted byte reads as zero (R217). -/

/-- n bytes from offset a of a list of cells whose offsets are all at least a. -/
def cellsFill : Nat → Nat → List Host.Cell → List Byte
  | 0, _, _ => []
  | n + 1, a, [] => 0 :: cellsFill n (a + 1) []
  | n + 1, a, c :: m => if c.1 = a then c.2 :: cellsFill n (a + 1) m else 0 :: cellsFill n (a + 1) (c :: m)

/-- n bytes from offset a. -/
def cellsRead (m : List Host.Cell) (a n : Nat) : List Byte := cellsFill n a (m.dropWhile (fun c => decide (c.1 < a)))

/-- The non-zero bytes of a list as cells from offset a. -/
def cellsOf : Nat → List Byte → List Host.Cell
  | _, [] => []
  | a, b :: l => if b = 0 then cellsOf (a + 1) l else (a, b) :: cellsOf (a + 1) l

/-- The memory with the bytes written from offset a. -/
def cellsWrite (m : List Host.Cell) (a : Nat) (l : List Byte) : List Host.Cell :=
  m.filter (fun c => decide (c.1 < a)) ++ cellsOf a l ++ m.filter (fun c => decide (a + l.length ≤ c.1))

/-- The canonical form: offsets strictly rising, no byte zero. -/
def Memory.wf (m : List Host.Cell) : Bool :=
  decide (m.Pairwise (fun c d => c.1 < d.1)) && m.all (fun c => c.2 != 0)

/-! ## Tiers and addresses -/

/-- The offset of a global address (chapter 00). -/
def offOf (a : U64) : Nat := (a &&& 0x7FFFFFFFFFFF#64).toNat
def cnOfAddr (a : U64) : U32 := (a >>> 47).setWidth 32

def baseL : Nat := 0x010000000000
def sizeH : Nat := 0x008780000000
def sizeL : Nat := 0x00F000000000

/-- The tier of an offset (R203). -/
def tierOf (off : Nat) : Option Tier :=
  if off < sizeH then some .h else if baseL ≤ off ∧ off < baseL + sizeL then some .l else none

def MemState.cells (m : MemState) : Tier → List Host.Cell
  | .h => m.h
  | .l => m.l
def MemState.setCells (m : MemState) (t : Tier) (c : List Host.Cell) : MemState :=
  match t with
  | .h => { m with h := c }
  | .l => { m with l := c }
def MemState.poisons (m : MemState) : Tier → List U64
  | .h => m.poisonH
  | .l => m.poisonL
/-- A poison list changes, and its mirror in module MRAM with it (R222). -/
def MemState.setPoisons (m : MemState) (t : Tier) (l : List U64) : MemState :=
  match t with
  | .h => { m with poisonH := l, mirrorH := l }
  | .l => { m with poisonL := l, mirrorL := l }

/-- The page of an offset (R203). -/
def pageOf (t : Tier) (off : Nat) : Nat :=
  match t with
  | .h => off / 4096
  | .l => (off - baseL) / 4096
/-- The device holding a page (R201). -/
def deviceOf (t : Tier) (page : Nat) : Nat :=
  match t with
  | .h => page % 6
  | .l => page % 8
def pageOff (t : Tier) (page : Nat) : Nat :=
  match t with
  | .h => page * 4096
  | .l => baseL + page * 4096
/-- The place of a device in OD 3500.20. -/
def spareIx (t : Tier) (dev : Nat) : Nat :=
  match t with
  | .h => dev
  | .l => 6 + dev

/-! ## Regions (R206 to R210) -/

def Region.blockStructured (r : Region) : Bool := r.flags.getLsbD 1
def Region.payOff (r : Region) : Nat := offOf r.base
def Region.hdrOff (r : Region) : Nat := offOf r.hbase
def Region.covers (r : Region) (off : Nat) : Bool := decide (r.payOff ≤ off) && decide (off < r.payOff + r.size.toNat)
def Region.coversHdr (r : Region) (off : Nat) : Bool :=
  r.blockStructured && decide (r.hdrOff ≤ off) && decide (off < r.hdrOff + r.size.toNat / 64)

/-- The region whose payload area holds an offset. -/
def State.regionAt (s : State) (off : Nat) : Option Region := s.mem.regions.find? (·.covers off)
/-- The region whose header area holds an offset. -/
def State.regionHdrAt (s : State) (off : Nat) : Option Region := s.mem.regions.find? (·.coversHdr off)
/-- The offset of the header of the block whose payload lies at off (R210). -/
def Region.headerOf (r : Region) (off : Nat) : Nat := r.hdrOff + 64 * ((off - r.payOff) / 4096)
/-- The payload offset of the block whose header lies at h. -/
def Region.payloadOf (r : Region) (h : Nat) : Nat := r.payOff + 4096 * ((h - r.hdrOff) / 64)

/-- A region entry (R206). -/
def Region.bytes (r : Region) : List Byte :=
  padTo 48 (le16 r.id ++ [r.kind, r.flags] ++ le16 r.jt ++ [0, 0] ++ le64 r.base ++ le64 r.size ++ le64 r.hbase ++
    [if r.poisoned then 1 else 0])
/-- The bytes of the retained marker that its CRC-32C covers, and whether the word holds (R225). -/
def Marker.bytes (m : Marker) : List Byte := m.regions.flatMap Region.bytes ++ m.poisonL.flatMap le64 ++ le32 m.cycles
def Marker.crcOk (m : Marker) : Bool := m.crc == crc32c m.bytes

/-! ## Streams of the tensor table (R115, R148, R210) -/

def Stream.sel : Stream → Nat
  | .w => 0 | .m => 1 | .v => 2 | .g => 3 | .a => 4 | .k => 5 | .c => 6
def Stream.ofSel : Nat → Option Stream
  | 0 => some .w | 1 => some .m | 2 => some .v | 3 => some .g | 4 => some .a | 5 => some .k | 6 => some .c
  | _ => none

def TensorEntry.base (e : TensorEntry) : Stream → U64
  | .w => e.baseW | .m => e.baseM | .v => e.baseV | .g => e.baseH | .a => e.baseA | .k => e.baseK | .c => e.baseC
def TensorEntry.fmt (e : TensorEntry) : Stream → Nat
  | .w => 2 | .m => e.fmtM.toNat | .v => e.fmtV.toNat | .g => 2 | .a => e.fmtA.toNat | .k => 0 | .c => e.fmtC.toNat
def TensorEntry.has (e : TensorEntry) (st : Stream) : Bool := e.base st != 0

/-- Blocks of a stream: one per block index; the C stream counts pairs. -/
def blocksFor (count epb : Nat) : Nat := if epb = 0 then 0 else (count + epb - 1) / epb
def TensorEntry.blocks (e : TensorEntry) (st : Stream) : Nat := blocksFor e.count.toNat (fmtMax (e.fmt st))
/-- The payload offset of block b of a stream; k chooses the block of a C pair (R210). -/
def TensorEntry.blockOff (e : TensorEntry) (st : Stream) (b k : Nat) : Nat :=
  match st with
  | .c => offOf e.baseC + 4096 * (2 * b + k)
  | st => offOf (e.base st) + 4096 * b
/-- Valid elements of block b of a stream. -/
def TensorEntry.elemsIn (e : TensorEntry) (st : Stream) (b : Nat) : Nat :=
  min (fmtMax (e.fmt st)) (e.count.toNat - b * fmtMax (e.fmt st))

/-- The extent of a stream in bytes. -/
def TensorEntry.extent (e : TensorEntry) (st : Stream) : Nat :=
  match st with
  | .c => 8192 * e.blocks .c
  | st => 4096 * e.blocks st

/-- The entry, stream, block index and pair place whose payload covers an offset. -/
structure Cover where
  entry : TensorEntry
  stream : Stream
  idx : Nat
  k : Nat

def TensorEntry.coverAt (e : TensorEntry) (off : Nat) : Option Cover :=
  [Stream.w, .m, .v, .a, .c, .k, .g].findSome? fun st =>
    let b := offOf (e.base st)
    if e.has st && decide (b ≤ off) && decide (off < b + e.extent st) then
      let n := (off - b) / 4096
      match st with
      | .c => some ⟨e, .c, n / 2, n % 2⟩
      | st => some ⟨e, st, n, 0⟩
    else none
def State.coverAt (s : State) (off : Nat) : Option Cover := s.upd.table.findSome? (·.coverAt off)

/-! ## Fault charges (R409 to R414) -/

/-- The clock island of a unit (R500). -/
def islandOfUnit (unit : Nat) : Nat :=
  let n := unit % 256
  match unit / 256 with
  | 0x01 => 25 + n
  | 0x02 => 9 + n
  | 0x03 => 5 + n / 8
  | 0x04 => 5 + n / 16
  | 0x05 => 38
  | 0x06 => 39
  | 0x07 => if n < 8 then 36 else 37
  | 0x08 => 33
  | 0x09 => n
  | 0x0A => 39
  | 0x0B => 36
  | 0x0C => 34
  | 0x0D => 35
  | _ => 40

/-- The temperature bin of an island (R412); temperatures are signed tenths of a degree. -/
def State.tempBin (s : State) (island : Nat) : U8 :=
  let t := ((s.pwr.temps[island]?).getD 0).toInt
  BitVec.ofInt 8 ((t + 400).fdiv 50)

def HealthRec.bin (r : HealthRec) : Bin := ⟨r.tbin, r.volt, r.freq, r.pattern⟩

/-- The bytes of a health record before its CRC-32C (R410). -/
def HealthRec.body (r : HealthRec) : List Byte :=
  le32 r.seq ++ leBytes 6 r.opMs.toNat ++ le16 r.unit ++ le16 r.code ++ [r.path, r.flags, r.tbin, r.volt, r.freq, 0] ++
  le16 r.pattern ++ le16 r.jt ++ le32 r.step

def dayMs : Nat := 86400000
def historySlots : Nat := 491520

/-- The records of a unit within the window of OD 4100.08 (R413). -/
def HealthState.within (h : HealthState) (op : U64) (unit : U16) : List HealthRec :=
  h.ring.filter fun r => r.unit == unit && r.path != 0 && decide ((op - r.opMs).toNat ≤ h.windowDays.toNat * dayMs)

def binCount (rs : List HealthRec) (b : Bin) : Nat := (rs.filter (·.bin == b)).length

/-- The keep-out bins of a unit: those whose count has reached OD 4100.06, old entries first, at most 8 (R411, R413). New ones are
entered when the unit is conditional. -/
def HealthState.keepOuts (h : HealthState) (rs : List HealthRec) (st : UnitState) (old : List Bin) : List Bin :=
  let now := (rs.map HealthRec.bin).eraseDups.filter (fun b => decide (binCount rs b ≥ h.condLimit.toNat))
  (old.filter now.contains ++ (if st = .conditional then now.filter (fun b => !old.contains b) else [])).take 8

/-- The state a charge gives a unit (R413). -/
def HealthState.classify (h : HealthState) (rs : List HealthRec) (repro : Bool) : UnitState :=
  let bins := (rs.map HealthRec.bin).eraseDups
  if repro || bins.any (fun b => decide (binCount rs b ≥ h.permLimit.toNat)) || decide (bins.length ≥ h.spread.toNat) then
    .permanent
  else if bins.any (fun b => decide (binCount rs b ≥ h.condLimit.toNat)) then .conditional
  else .transient

def UnitState.rank : UnitState → Nat
  | .clean => 0 | .transient => 1 | .conditional => 2 | .permanent => 3 | .retired => 4

def HealthState.sumOf (h : HealthState) (unit : U16) : UnitSum := (h.sums.find? (·.unit == unit)).getD { unit := unit }
def HealthState.setSum (h : HealthState) (u : UnitSum) : HealthState :=
  if h.sums.any (·.unit == u.unit) then { h with sums := h.sums.map (fun v => if v.unit == u.unit then u else v) }
  else { h with sums := h.sums ++ [u] }

/-- A fault to be charged. -/
structure Charge where
  unit : Nat
  code : Nat
  path : Nat
  flags : Nat := 0
  volt : U8 := 0
  freq : U8 := 0
  pattern : Nat := 0
  tbin : Option U8 := none

/-- The health record of a charge made now (R410). -/
def State.chargeRec (s : State) (c : Charge) : HealthRec :=
  { seq := s.health.newest + 1, opMs := s.time.opMs, unit := BitVec.ofNat 16 c.unit, code := BitVec.ofNat 16 c.code,
    path := BitVec.ofNat 8 c.path, flags := BitVec.ofNat 8 c.flags, tbin := c.tbin.getD (s.tempBin (islandOfUnit c.unit)),
    volt := c.volt, freq := c.freq, pattern := BitVec.ofNat 16 c.pattern, jt := s.job.jt,
    step := if s.job.jt == 0 then 0 else s.fence.cur }

/-- A record enters the ring (R411); true when the ring wraps at it. -/
def HealthState.push (h : HealthState) (r : HealthRec) : HealthState × Bool :=
  if h.ring.length < historySlots then ({ h with ring := h.ring ++ [r], newest := r.seq }, false)
  else ({ h with ring := h.ring.drop 1 ++ [r], newest := r.seq, overwritten := bump h.overwritten, lap := (h.lap + 1) % historySlots },
        h.lap == 0)

/-! ### The cooling request (R414, R507) -/

/-- A conditional pipeline or core in one of its keep-out bins (R414). -/
def State.heldOff (s : State) : Bool :=
  s.health.sums.any fun u =>
    (u.unit.toNat / 256 == 1 || u.unit.toNat / 256 == 2) && u.st == .conditional &&
    u.keepOut.any (fun b => b.volt == 0 && b.freq == 0 && b.tbin == s.tempBin (islandOfUnit u.unit.toNat))

/-- An island at its throttle point (R506). -/
def State.islandHot (s : State) (i : Nat) : Bool :=
  match s.pwr.temps[i]? with | some t => decide (t.toInt ≥ 10 * (s.pwr.throttleC.toNat : Int)) | none => false
def State.anyHot (s : State) : Bool := (List.range 44).any s.islandHot

/-- The value of OD 8310.01 (R507). -/
def State.coolingNeed (s : State) : U8 :=
  if s.anyHot || s.heldOff then BitVec.ofInt 8 (-5)
  else if s.health.gambit.phase != 0 then s.health.gambit.inlet
  else 0

/-- OD 8310.01 takes its value; a change is recorded with a class 3 alarm (R507). -/
def State.updateCooling (s : State) : State :=
  let v := s.coolingNeed
  if v == s.pwr.coolReq then s
  else
    let e := ev3 0x6033 unitPwr []
    let s := ({ s with pwr := { s.pwr with coolReq := v } }).record e
    if (s.tele.forwarded e.code).isSome then s
    else { s with tele := s.tele.alarm s.time.now s.time.cycles s.time.opMs e }

/-- A fault is charged to a unit (R409): record, counter, summary, classification, retest (R413), and event 0x4100. -/
def State.charge (c : Charge) (s : State) : State :=
  let r := s.chargeRec c
  let (h, wrapped) := s.health.push r
  let old := h.sumOf r.unit
  let rs := h.within s.time.opMs r.unit
  let st := if old.st = .retired then .retired else h.classify rs (r.flags.getLsbD 0)
  let u : UnitSum := { unit := r.unit, st := st, faults := BitVec.ofNat 16 rs.length, lastMs := s.time.opMs,
                       keepOut := h.keepOuts rs st old.keepOut }
  let h := { h.setSum u with charged := bump h.charged
                             retests := if st = .transient ∨ st = .conditional then h.retests ++ [(r.unit, r.bin)] else h.retests }
  let s := ({ s with health := h }).countBytes 6 32
  let s := s.record (ev3 0x4100 unitFault ((r.body.drop 10).take 18))
  let s := (if wrapped then s.record (ev3 0x4104 unitFault []) else s).updateCooling
  if st.rank > old.st.rank then
    match st with
    | .conditional => s.record (ev2 0x4101 unitFault [])
    | .permanent => s.record (ev2 0x4102 unitFault [])
    | _ => s
  else s

/-! ## Sectors (R214 to R222) -/

def sectorOf (off : Nat) : Nat := off / 64 * 64

/-- Wrong symbols of the stored codeword at a sector. -/
def MemState.wrong (m : MemState) (t : Tier) (sec : Nat) : Nat :=
  match m.bad.find? (fun b => b.1 == t && b.2.1.toNat == sec) with
  | some b => b.2.2
  | none => 0
def MemState.listed (m : MemState) (t : Tier) (sec : Nat) : Bool := (m.poisons t).any (fun a => offOf a == sec)
/-- Whether a read of a sector returns uncorrectable (R215, R222). -/
def State.uncorrectable (s : State) (t : Tier) (sec : Nat) : Bool :=
  decide (s.mem.wrong t sec ≥ 3) || s.mem.listed t sec ||
  (match s.regionAt sec with | some r => r.poisoned | none => false)

def MemState.heal (m : MemState) (t : Tier) (sec n : Nat) : MemState :=
  let inside (a : Nat) : Bool := decide (sec ≤ a) && decide (a < sec + n)
  { m.setPoisons t ((m.poisons t).filter (fun a => !inside (offOf a))) with
    bad := m.bad.filter (fun b => !(b.1 == t && inside b.2.1.toNat)) }

/-- The first sector wholly inside a range, and the end of the last one. -/
def wholeLo (off : Nat) : Nat := (off + 63) / 64 * 64
def wholeHi (off n : Nat) : Nat := (off + n) / 64 * 64

def tierRead : Tier → Fin 14
  | .h => 0
  | .l => 2
def tierWrite : Tier → Fin 14
  | .h => 1
  | .l => 3

/-- Bytes as stored, with no check. -/
def State.raw (s : State) (t : Tier) (off n : Nat) : List Byte := cellsRead (s.mem.cells t) off n

def State.setRaw (t : Tier) (off : Nat) (l : List Byte) (s : State) : State :=
  { s with mem := s.mem.setCells t (cellsWrite (s.mem.cells t) off l) }

/-! ### Frames (R201, R202, R204) -/

/-- Frames of a device that hold the usable pages; the spare frames of R201 follow them. -/
def framesPer : Tier → Nat → Nat
  | .h, dev => if dev < 2 then 23680342 else 23680341
  | .l, _ => 31457280
def firstSpares : List U32 :=
  [5139, 5139, 5140, 5140, 5140, 5140, 123361, 123361, 123361, 123361, 123361, 123361, 123361, 123361]

/-- The frame of its device in which a page lies: floor(p / 6) or floor(p / 8), or the spare frame it is redirected to (R201,
R204). -/
def MemState.frameOf (m : MemState) (t : Tier) (page : Nat) : Nat :=
  match m.redirect.find? (fun r => r.1 == t && r.2.1.toNat == page) with
  | some r => r.2.2
  | none => match t with
    | .h => page / 6
    | .l => page / 8

/-- Check sector k of a frame: bytes 4j to 4j + 3 are the check symbols of data sector 16k + j (R202). -/
def checkSector (data : List Byte) (k : Nat) : List Byte :=
  (List.range 16).flatMap (fun j => rsCheck ((data.drop (64 * (16 * k + j))).take 64))

/-- The 4,352 bytes of a frame with the data of a page: 64 data sectors, then 4 check sectors (R201, R202). -/
def frameBytes (data : List Byte) : List Byte := data ++ (List.range 4).flatMap (checkSector data)
/-- The frame that holds a page, its wrong symbols corrected. -/
def State.frame (s : State) (t : Tier) (page : Nat) : List Byte := frameBytes (s.raw t (pageOff t page) 4096)

/-! ### Copies of protected pages (R320, R321) -/

/-- Whether a block payload is protected for a queued cut and not yet copied. -/
def State.protectedAt (s : State) (off : Nat) : Bool :=
  s.adj.queue.any (fun c => c.pages.any (fun p => offOf p.addr == off && !p.copied))

/-- The region of a kind, the cut region being the one that is not the base (OD 3200.0A). -/
def State.regionOfKind (s : State) (k : U8) : Option Region := s.mem.regions.find? (·.kind == k)
def State.cutRegion (s : State) : Option Region := s.regionOfKind (if s.adj.baseRole == 0 then 6 else 7)
def State.baseRegion (s : State) : Option Region := s.regionOfKind (if s.adj.baseRole == 0 then 7 else 6)

def Cut.copiedPage (off : Nat) (c : Cut) : Cut :=
  { c with pages := c.pages.map (fun p => if offOf p.addr == off then { p with copied := true } else p) }

/-- A sealed cut whose COPY has not begun protects the page still. -/
def Cut.holds (off : Nat) (c : Cut) : Bool :=
  c.phase == .armed && c.sealedMove && c.pages.any (fun p => offOf p.addr == off && !p.copied)

/-- Pages waited for while the cut region is busy with an earlier point are counted in OD 3200.13, with event 0x3202 once a cut
(R321). -/
def State.noteBusy (s : State) : State :=
  if !(s.adj.queue.any (fun c => c.phase != .armed)) then s
  else
    let held (off : U64) : Bool := s.adj.queue.any (Cut.holds off.toNat)
    let new := s.upd.touchWait.filter (fun off => held off && !s.adj.busyPages.contains off)
    let late (c : Cut) : Bool := !c.busySeen && s.upd.touchWait.any (fun off => c.holds off.toNat)
    let n := (s.adj.queue.filter late).length
    let s := { s with adj := { s.adj with
      busyWaits := bumpBy s.adj.busyWaits new.length, busyPages := s.adj.busyPages ++ new
      queue := s.adj.queue.map (fun c => if late c then { c with busySeen := true } else c) } }
    (List.range n).foldl (fun s _ => s.record (ev3 0x3202 unitCont [])) s

/-- A writer waits for the copy of a page: counted once (R143), and in OD 3200.13 while the cut region is busy (R321). -/
def State.touchPage (off : Nat) (s : State) : State :=
  let pg := BitVec.ofNat 64 off
  let s := if s.upd.touchWait.contains pg then s
    else { s with
      upd := { s.upd with
        touchPages := bump s.upd.touchPages, stepTouches := s.upd.stepTouches + 1, touchWait := pg :: s.upd.touchWait } }
  s.noteBusy

/-- Whether a write of pages must wait, with the waits counted. -/
def State.mustWait (offs : List Nat) (s : State) : Bool × State :=
  let ps := offs.filter s.protectedAt
  (!ps.isEmpty, ps.foldl (fun s off => s.touchPage off) s)

def State.touchDone (offs : List Nat) (s : State) : State :=
  { s with upd := { s.upd with touchWait := s.upd.touchWait.filter (fun p => !offs.contains p.toNat) }
           adj := { s.adj with busyPages := s.adj.busyPages.filter (fun p => !offs.contains p.toNat) } }

/-! ### Stored blocks -/

/-- The regenerated header written back beside a payload as it stands. -/
def State.putHeader (t : Tier) (r : Region) (off : Nat) (h : Header) (s : State) : State :=
  let s := { s with mem := s.mem.heal t (r.headerOf off) 64 }
  s.setRaw t (r.headerOf off) h.seal.bytes

def State.storedHeader (s : State) (t : Tier) (r : Region) (off : Nat) : Header :=
  Header.ofBytes (s.raw t (r.headerOf off) 64)

def CheckState.addPoisoned (c : CheckState) : CheckState := { c with poisonedHere := bump c.poisonedHere }

/-- Whether a marking of the block at an offset waits for its page's copy. -/
def MemState.pending (m : MemState) (off : Nat) : Bool := m.marks.any (·.off == off)

/-- A marking waits for the copy of its protected page, as any other write does (R220, R321, R557). -/
def State.deferMark (off : Nat) (pair : Bool) (s : State) : State :=
  if s.mem.marks.contains (⟨off, pair⟩ : PendMark) then s
  else ({ s with mem := { s.mem with marks := s.mem.marks ++ [({ off := off, pair := pair } : PendMark)] } }).touchPage off

/-- The header R221 rebuilds for the block at an offset with a payload. -/
def State.rebuiltHeader (s : State) (r : Region) (off : Nat) (pay : List Byte) : Header :=
  let c := s.coverAt off
  let typ : U8 := if r.kind == 6 || r.kind == 7 then 6 else if r.kind == 8 then 4 else 1
  let flags : U16 := if r.kind == 8 then 0x21 else 1
  let step : U32 := if r.kind == 1 || r.kind == 2 then (match c with | some c => c.entry.l | none => s.fence.sealedStep)
    else s.fence.sealedStep
  { Header.zero with
    typ := typ
    fmt := match c with | some c => BitVec.ofNat 8 (c.entry.fmt c.stream) | none => 2
    flags := flags, jt := r.jt, epoch := s.job.epoch, step := step
    ts := match c with | some c => c.entry.ts | none => 0
    blk := match c with | some c => BitVec.ofNat 32 c.idx | none => 0
    count := match c with | some c => BitVec.ofNat 16 (c.entry.elemsIn c.stream c.idx) | none => 1024
    src := s.own, dst := s.own, offset := BitVec.ofNat 64 off, payCrc := crc64 pay }

/-- The sectors of a stored payload that read uncorrectable, and the payload with 0xFF in each of them (R63). -/
def State.lostSectors (s : State) (t : Tier) (off : Nat) : List Nat :=
  ((List.range 64).map (off + 64 * ·)).filter (fun a => s.uncorrectable t a)
def fillLost (off : Nat) (lost : List Nat) (pay : List Byte) : List Byte :=
  if lost.isEmpty then pay
  else (List.range 64).flatMap (fun i =>
    if lost.contains (off + 64 * i) then List.replicate 64 0xFF else (pay.drop (64 * i)).take 64)

/-- A block as its marking leaves it (R220, R221, R557): lost sectors read 0xFF; the header is rebuilt where it fails, else it
takes the poison flag (R60); the payload check word is regenerated where a sector was filled. -/
def State.markedBlock (s : State) (t : Tier) (r : Region) (off : Nat) : Block :=
  let lost := s.lostSectors t off
  let pay := fillLost off lost (s.raw t off 4096)
  let h := s.storedHeader t r off
  let h := if s.uncorrectable t (r.headerOf off) || !h.crcOk then s.rebuiltHeader r off pay else h.setPoison
  ⟨(if lost.isEmpty then h else { h with payCrc := crc64 pay }).seal, pay⟩

/-- No marking of a block waits any more: it is marked, or was written whole (R66). -/
def State.dropMarks (off : Nat) (s : State) : State :=
  { s with mem := { s.mem with marks := s.mem.marks.filter (fun m => m.off != off) } }

/-- The marking of one stored block; a rebuilt header counts in OD 3500.1B. -/
def State.markBlock (t : Tier) (r : Region) (off : Nat) (s : State) : State :=
  let b := s.markedBlock t r off
  let bad := s.uncorrectable t (r.headerOf off)
  let rebuilt := bad || !(s.storedHeader t r off).crcOk
  let s := (s.lostSectors t off).foldl (fun s a =>
    ({ s with mem := s.mem.heal t a 64 } : State).setRaw t a (List.replicate 64 0xFF)) s
  let s := (s.putHeader t r off b.hdr).dropMarks off
  let s := { s with chk := s.chk.addPoisoned
                    mem := { s.mem with rebuilt := if rebuilt then bump s.mem.rebuilt else s.mem.rebuilt } }
  if bad then s.record (ev3 0x5017 (unitMem t) []) else s

/-- The other block of a C pair whose header was rebuilt is marked too (R221), its page's copy first. -/
def State.markOther (t : Tier) (r : Region) (off : Nat) (s : State) : State :=
  match s.coverAt off with
  | some c =>
    if c.stream = .c then
      let other := c.entry.blockOff .c c.idx (1 - c.k)
      if (s.storedHeader t r other).poison && (s.storedHeader t r other).crcOk then s
      else if s.protectedAt other then s.deferMark other true
      else s.markBlock t r other
    else s
  | none => s

/-- A stored block found wrong is marked, at once or after the copy of its page (R220, R221, R557). -/
def State.markStored (t : Tier) (r : Region) (off : Nat) (s : State) : State :=
  if s.protectedAt off then s.deferMark off false
  else
    let rebuilt := s.uncorrectable t (r.headerOf off) || !(s.storedHeader t r off).crcOk
    let s := s.markBlock t r off
    if rebuilt then s.markOther t r off else s

/-- Markings that waited take place once no cut protects their page (R321). A block written whole since is not marked. -/
def State.settleMarks (off : Nat) (s : State) : State :=
  if !(s.mem.pending off) || s.protectedAt off then s
  else
    let s := (s.dropMarks off).touchDone [off]
    match tierOf off, s.regionAt off with
    | some t, some r => s.markStored t r off
    | _, _ => s

/-- Every marking that may take place does. -/
def State.settleAll (s : State) : State := (s.mem.marks.map (·.off)).foldl (fun s off => s.settleMarks off) s

/-! ### Sparing and poison lists -/

def bumpPair (l : List (Tier × U64 × Nat)) (t : Tier) (page : U64) : List (Tier × U64 × Nat) :=
  if l.any (fun e => e.1 == t && e.2.1 == page) then
    l.map (fun e => if e.1 == t && e.2.1 == page then (e.1, e.2.1, e.2.2 + 1) else e)
  else l ++ [(t, page, 1)]

def correctedOf (l : List (Tier × U64 × Nat)) (t : Tier) (page : U64) : Nat :=
  match l.find? (fun e => e.1 == t && e.2.1 == page) with
  | some e => e.2.2
  | none => 0

/-- Records of RECSTAGE are lost with an uncorrectable sector (R446): the trace records that it holds are counted, once. -/
def State.loseRecords (sec base : Nat) (s : State) : State :=
  let k := BitVec.ofNat 64 sec
  if s.tele.lossSeen.contains k then s
  else
    let slot := (sec - base) / 32
    let held (i : Nat) : Bool :=
      decide (i < traceCapacity) && decide ((s.tele.traceNewest.toNat + traceCapacity - i) % traceCapacity < s.tele.trace.length)
    let n := ([slot, slot + 1].filter held).length
    ({ s with tele := { s.tele with lossSeen := k :: s.tele.lossSeen, traceLost := bumpBy s.tele.traceLost n } }).record
      (ev3 0x8007 unitRec [])

/-- An uncorrectable sector of a region that is not block-structured enters the poison list of its tier, or, the list full,
poisons its region (R222). -/
def State.listPoison (t : Tier) (sec : Nat) (s : State) : State :=
  let clean (m : MemState) : MemState := { m with bad := m.bad.filter (fun b => !(b.1 == t && b.2.1.toNat == sec)) }
  if s.mem.listed t sec then s
  else if (s.mem.poisons t).length < 4096 then
    ({ s with mem := clean (s.mem.setPoisons t (s.mem.poisons t ++ [BitVec.ofNat 64 sec])) } : State).countBytes 6 8
  else
    let m := { clean s.mem with
      listFull := bump s.mem.listFull
      regions := s.mem.regions.map (fun r => if r.covers sec then { r with poisoned := true } else r) }
    ({ s with mem := m }).record (ev3 0x5013 (unitMem t) [])

/-- The offset of the block to which a sector belongs, with its region: a payload sector or a header sector. -/
def State.blockOfSector (s : State) (sec : Nat) : Option (Region × Nat) :=
  match s.regionAt sec, s.regionHdrAt sec with
  | some r, _ => if r.blockStructured then some (r, sec / 4096 * 4096) else none
  | none, some r => some (r, r.payloadOf sec)
  | none, none => none

/-! ### Slots of the replay log (R311, R312) -/

def TensorEntry.replicaOwner (ix : Fin 4) (e : TensorEntry) : Bool := e.role == 2 && e.pclass == 1 && e.owner.toNat == ix.val
/-- The RPL replica entries of an owner, in table order. -/
def State.logEntries (s : State) (ix : Fin 4) : List TensorEntry := s.upd.table.filter (TensorEntry.replicaOwner ix)
def TensorEntry.gBlocks (e : TensorEntry) : Nat := (e.count.toNat + 1023) / 1024
def State.logGs (s : State) (ix : Fin 4) : Nat := ((s.logEntries ix).map TensorEntry.gBlocks).sum
/-- N of R311. -/
def State.slotBlocks (s : State) (ix : Fin 4) : Nat := s.logGs ix + ((s.logEntries ix).length + 63) / 64

/-- A slot status changes; it is copied to module MRAM (R311). -/
def State.setSlot (l : LogSlot) (s : State) : State :=
  ({ s with part := { s.part with
      logSlots := s.part.logSlots.filter (fun (m : LogSlot) => !(m.owner == l.owner && m.slot == l.slot)) ++ [l] } }).countBytes 6 8

/-- An uncorrectable sector in a block of a REPLAYLOG region sets the flag of the slot that holds it (R312). -/
def State.poisonSlot (r : Region) (off : Nat) (s : State) : State :=
  match (List.finRange 4).find? (fun i => (s.part.owners[i]).valid && (s.part.owners[i]).region == r.id) with
  | none => s
  | some ix =>
    let k := (off - r.payOff) / 4096 / max 1 (s.slotBlocks ix)
    match s.part.logSlots.find? (fun l => l.owner == ix.val && l.slot == k) with
    | some l => if l.poisoned then s else s.setSlot { l with poisoned := true }
    | none => s

/-- A sector is found uncorrectable: counted and recorded (R215), and what holds it is marked (R220 to R222, R446). -/
def State.foundBad (t : Tier) (sec : Nat) (s : State) : State :=
  let w := s.mem.wrong t sec
  let m := match t with
    | .h => { s.mem with uncH := bump s.mem.uncH }
    | .l => { s.mem with uncL := bump s.mem.uncL }
  let page := pageOf t sec
  let rg := match s.regionAt sec with | some r => some r | none => s.regionHdrAt sec
  let args := arg1 t.code.toNat ++ arg1 (deviceOf t page) ++ arg8 (BitVec.ofNat 64 page) ++ arg1 (sec % 4096 / 64) ++
    arg2 (match rg with | some r => r.id.toNat | none => 0) ++ arg2 (match rg with | some r => r.jt.toNat | none => 0)
  let s := ({ s with mem := m }).record (ev3 0x5010 (unitMem t) args)
  let s := match s.regionAt sec with
    | some r => if r.id == 0xFFFF then s.loseRecords sec r.payOff else s
    | none => s
  if w < 3 then s      -- a sector of the poison list, or of a poisoned region
  else
    match s.blockOfSector sec with
    | some (r, off) => if r.kind == 8 then (s.markStored t r off).poisonSlot r off else s.markStored t r off
    | none => s.listPoison t sec

/-- Sectors of a page that the code cannot correct, no marking of theirs pending. -/
def State.badOnPage (s : State) (t : Tier) (page : Nat) : List Nat :=
  ((s.mem.bad.filter (fun b => b.1 == t && pageOf t b.2.1.toNat == page && decide (b.2.2 ≥ 3))).map (·.2.1.toNat)).filter
    (fun a => match s.blockOfSector a with
      | some (_, off) => !(s.mem.pending off)
      | none => true)

/-- A frame is spared, or sparing is refused (R219): cause 1 uncorrectable sector, 2 corrected-sector threshold. The copy reads
every sector: what it corrects is right in the spare frame, and what it cannot correct is copied as its poison marking. -/
def State.spare (t : Tier) (page cause : Nat) (s : State) : State :=
  let dev := deviceOf t page
  let pg := BitVec.ofNat 64 page
  match s.mem.spares[spareIx t dev]? with
  | none => s
  | some left =>
    if left == 0 then
      let m := { s.mem with spareRefused := bump s.mem.spareRefused }
      if m.sparesOut.contains (spareIx t dev) then { s with mem := m }
      else ({ s with mem := { m with sparesOut := spareIx t dev :: m.sparesOut } }).record (ev2 0x5012 (unitMem t) [])
    else
      let s := (s.badOnPage t page).foldl (fun s a => s.foundBad t a) s
      let lo := pageOff t page
      let frame := framesPer t dev + ((firstSpares[spareIx t dev]?.getD 0) - left).toNat
      let m := { s.mem with
        spares := s.mem.spares.set (spareIx t dev) (left - 1)
        spared := bump s.mem.spared
        redirect := s.mem.redirect.filter (fun e => !(e.1 == t && e.2.1 == pg)) ++ [(t, pg, frame)]
        corrected := s.mem.corrected.filter (fun e => !(e.1 == t && e.2.1 == pg))
        bad := s.mem.bad.filter (fun b => !(b.1 == t && decide (lo ≤ b.2.1.toNat) && decide (b.2.1.toNat < lo + 4096) &&
          decide (b.2.2 ≤ 2))) }
      let s := ({ s with mem := m }).record
        (ev3 0x5011 (unitMem t) (arg1 t.code.toNat ++ arg1 dev ++ arg8 pg ++ arg1 cause))
      s.charge { unit := (match t with | .h => 0x0500 | .l => 0x0600) + dev, code := 0x5011, path := 4 }

/-- A corrected sector (R215): counted, rewritten, and counted toward sparing (R219). -/
def State.corrected (t : Tier) (sec symbols : Nat) (s : State) : State :=
  let page := pageOf t sec
  let pg := BitVec.ofNat 64 page
  let m := s.mem
  let m := match t with
    | .h => { m with corrH := bump m.corrH }
    | .l => { m with corrL := bump m.corrL }
  let m := if symbols == 2 then { m with corr2 := bump m.corr2 } else m
  let m := { m with bad := m.bad.filter (fun b => !(b.1 == t && b.2.1.toNat == sec)), corrected := bumpPair m.corrected t pg }
  let s := { s with mem := m }
  if correctedOf m.corrected t pg ≥ m.spareLimit.toNat then s.spare t page 2 else s

/-! ### Reads of sectors and blocks -/

/-- One sector is read (R215): the state after it. A read in a region whose status bit is set (R222) finds nothing new in the
frame, and neither does one of a block whose marking waits: the frame is not spared again. -/
def State.readSector (t : Tier) (sec : Nat) (s : State) : State :=
  let w := s.mem.wrong t sec
  if s.uncorrectable t sec then
    let waits := match s.blockOfSector sec with
      | some (_, off) => s.mem.pending off
      | none => false
    let found := (decide (w ≥ 3) && !waits) || s.mem.listed t sec
    let s := s.foundBad t sec
    if found then s.spare t (pageOf t sec) 1 else s
  else if w == 0 then s
  else s.corrected t sec w

/-- The sectors of a range that have wrong symbols, are listed, or lie in a region whose status bit is set, in order. -/
def State.suspects (s : State) (t : Tier) (off n : Nat) : List Nat :=
  let all := (s.mem.bad.filter (·.1 == t)).map (·.2.1.toNat) ++ (s.mem.poisons t).map offOf
  let rg := match s.regionAt off with
    | some r => if r.poisoned then (List.range ((off % 64 + n + 63) / 64)).map (fun i => sectorOf off + 64 * i) else []
    | none => []
  ((all ++ rg).filter (fun a => decide (sectorOf off ≤ a) && decide (a < off + n))).eraseDups

/-- Every sector of a range is read. -/
def State.readRange (t : Tier) (off n : Nat) (s : State) : State :=
  (s.suspects t off n).foldl (fun s a => s.readSector t a) s

/-- Bytes of a region without blocks are read (R215, R222): the bytes, whether some sector is uncorrectable, the state. -/
def State.readMem (t : Tier) (off n : Nat) (s : State) : List Byte × Bool × State :=
  let unc := (s.suspects t off n).any (fun a => s.uncorrectable t a)
  let s := s.readRange t off n
  (s.raw t off n, unc, s.countBytes (tierRead t) n)

/-- A write of bytes (R214): whole sectors are written and healed. A sector written in part is read first; found uncorrectable,
the write to it is dropped and counted in OD 3500.1C. -/
def State.writeMem (t : Tier) (off : Nat) (l : List Byte) (s : State) : State :=
  let n := l.length
  let lo := sectorOf off
  let hi := sectorOf (off + n - 1)
  let head := decide (off % 64 ≠ 0 ∨ n < 64 ∧ (off + n) % 64 ≠ 0)
  let tail := decide ((off + n) % 64 ≠ 0) && decide (hi ≠ lo)
  let headBad := head && s.uncorrectable t lo
  let tailBad := tail && s.uncorrectable t hi
  let s := if head then s.readRange t lo 64 else s
  let s := if tail then s.readRange t hi 64 else s
  let start := if headBad then min (lo + 64) (off + n) else off
  let stop := if tailBad then hi else off + n
  let kept := (l.drop (start - off)).take (stop - start)
  let m := s.mem.heal t (wholeLo off) (wholeHi off n - wholeLo off)
  let m := { m with partialDropped := bumpBy m.partialDropped ((if headBad then 1 else 0) + if tailBad then 1 else 0) }
  let gone := (s.mem.poisons t).length - (m.poisons t).length
  let s := { s with mem := m.setCells t (cellsWrite (m.cells t) start kept) }
  (s.countBytes 6 (8 * gone)).countBytes (tierWrite t) n

/-- What a unit reads of a stored block. -/
structure BlkRead where
  hdr : Header
  pay : List Byte
  poison : Bool

/-- The header with which a block that was read goes on: poisoned when the read was (R64). -/
def BlkRead.header (x : BlkRead) : Header := if x.poison then x.hdr.setPoison else x.hdr

/-- A block whose stored header fails its check, or whose payload fails (R61, R557): event 0x5020. -/
def State.storedCheckEvent (unit : Nat) (t : Tier) (r : Region) (h : Header) (s : State) : State :=
  s.record (ev3 0x5020 unit (arg2 unit ++ arg1 t.code.toNat ++ arg2 r.id.toNat ++ arg4 h.ts ++ arg4 h.blk ++ arg2 h.jt.toNat))

/-- The checks a unit makes of a stored block whose sectors are all read: header check word, poison, type and format, payload
check word (R61, R65, R556, R557). A failure whose marking already waits does not count again. -/
def State.checkStored (unit : Nat) (t : Tier) (r : Region) (off : Nat) (s : State) : BlkRead × State :=
  let b := s.markedBlock t r off
  let h := s.storedHeader t r off
  let pay := s.raw t off 4096
  if s.mem.pending off && !(h.crcOk && h.poison) then (⟨b.hdr, pay, true⟩, s)
  else if !h.crcOk then
    let s := { s with chk := { s.chk with hdrFail := bump s.chk.hdrFail } }
    (⟨b.hdr, pay, true⟩, (s.markStored t r off).storedCheckEvent unit t r b.hdr)
  else if h.poison then
    (⟨h, pay, true⟩, { s with chk := { s.chk with poisonedRecv := bump s.chk.poisonedRecv } })
  else if !h.valid then
    (⟨h.setPoison, pay, true⟩, ({ s with chk := { s.chk with invalid := bump s.chk.invalid } } : State).record
      (ev3 0x2011 unit (arg2 unit ++ h.bytes.take 16)))
  else if h.payCrc == crc64 pay then
    (⟨h, pay, false⟩, { s with chk := { s.chk with payChecks := bump s.chk.payChecks } })
  else
    let s := { s with chk := { s.chk with payChecks := bump s.chk.payChecks, payStored := bump s.chk.payStored } }
    (⟨b.hdr, pay, true⟩, (s.markStored t r off).storedCheckEvent unit t r h)

/-- A stored block is read and verified by a unit (R61, R63, R65, R215, R220, R221, R556, R557). -/
def State.readBlock (unit : Nat) (t : Tier) (off : Nat) (s : State) : BlkRead × State :=
  match s.regionAt off with
  | none => (⟨Header.zero, s.raw t off 4096, true⟩, s)
  | some r =>
    let s := s.settleMarks off
    let lost := (s.suspects t off 4096 ++ s.suspects t (r.headerOf off) 64).any (fun a => s.uncorrectable t a)
    let b := s.markedBlock t r off
    let s := ((s.readRange t off 4096).readRange t (r.headerOf off) 64).countBytes (tierRead t) 4160
    if lost then (⟨b.hdr, b.payload, true⟩, s) else s.checkStored unit t r off

/-- A mover's read of a whole block (R349): the header bytes and payload that it carries on. Its header is not verified (R61),
the payload is, and a failing or lost one goes on poisoned. -/
def State.readCarried (t : Tier) (off : Nat) (s : State) : List Byte × List Byte × State :=
  match s.regionAt off with
  | none => (Header.zero.setPoison.seal.bytes, s.raw t off 4096, s)
  | some r =>
    let s := s.settleMarks off
    let lost := (s.suspects t off 4096 ++ s.suspects t (r.headerOf off) 64).any (fun a => s.uncorrectable t a)
    let b := s.markedBlock t r off
    let s := ((s.readRange t off 4096).readRange t (r.headerOf off) 64).countBytes (tierRead t) 4160
    let h := s.storedHeader t r off
    let pay := s.raw t off 4096
    if lost then (b.hdr.setPoison.seal.bytes, b.payload, s)
    else if s.mem.pending off then (b.hdr.setPoison.seal.bytes, pay, s)
    else if h.poison then
      (s.raw t (r.headerOf off) 64, pay, { s with chk := { s.chk with poisonedRecv := bump s.chk.poisonedRecv } })
    else if h.payCrc == crc64 pay then
      (s.raw t (r.headerOf off) 64, pay, { s with chk := { s.chk with payChecks := bump s.chk.payChecks } })
    else
      let s := { s with chk := { s.chk with payChecks := bump s.chk.payChecks, payStored := bump s.chk.payStored } }
      (h.setPoison.seal.bytes, pay, (s.markStored t r off).storedCheckEvent 0x0800 t r h)

/-- A whole block is written as its bytes come: payload and header sectors are healed. -/
def State.writeBytes (t : Tier) (off : Nat) (hdr pay : List Byte) (s : State) : State :=
  match s.regionAt off with
  | none => s
  | some r => ((s.dropMarks off).writeMem t off pay).writeMem t (r.headerOf off) hdr

/-- A whole block is written with the payload check word it carries (R60). -/
def State.writeCarried (t : Tier) (off : Nat) (b : Block) (s : State) : State := s.writeBytes t off b.hdr.seal.bytes b.pay

/-- A whole block is written with fresh check words (R141, R210). -/
def State.writeBlock (t : Tier) (off : Nat) (b : Block) (s : State) : State := s.writeCarried t off b.seal

/-- A page is copied into the cut region for the cuts in COPY that protect it (R320, R321). The copy of a poisoned or failing
block is poisoned; its source is marked after the copy. -/
def State.copyPage (off : Nat) (s : State) : State :=
  match tierOf off, s.cutRegion with
  | some t, some cr =>
    let ixs := (s.adj.queue.filter (·.phase == .copy)).flatMap
      (fun c => (c.pages.filter (fun p => offOf p.addr == off && !p.copied)).map (·.slotIx))
    if ixs.isEmpty then s
    else
      let (hdr, pay, s) := s.readCarried t off
      let s := ixs.foldl (fun s ix => s.writeBytes .l (cr.payOff + 4096 * ix) hdr pay) s
      let mark (c : Cut) : Cut := if c.phase = .copy then c.copiedPage off else c
      let s := { s with adj := { s.adj with
        queue := s.adj.queue.map mark, copied := bumpBy s.adj.copied ixs.length
        bytesCopied := bumpBy s.adj.bytesCopied (4160 * ixs.length) } }
      s.settleMarks off
  | _, _ => s

/-! ## Packets -/

/-- The VC on which the device sends a packet (R248, R249). -/
def vcOfPacket : Packet → BitVec 3
  | .block b =>
    if b.hdr.typ == 5 then 3 else if b.hdr.typ == 7 then 7
    else if b.hdr.typ == 1 then 4 else if b.hdr.typ == 4 && b.hdr.replay then 4 else 2
  | .trans t => vcOfOp t.op.toNat

def State.port (s : State) (p : Port) : PortSt := s.links.ports[p]
def State.setPort (p : Port) (f : PortSt → PortSt) (s : State) : State :=
  { s with links := { s.links with ports := s.links.ports.set p (f s.links.ports[p]) } }

/-- The circuit of a port, for FL8 to FL15. -/
def circOf (p : Port) : Option Circ := if h : 16 ≤ p.val then some ⟨p.val - 16, by omega⟩ else none
def portOfCirc (n : Circ) : Port := ⟨16 + n.val, by omega⟩

/-- How R272 sees a port. -/
inductive PortUse where
  | active | training | unusable
deriving DecidableEq, Repr

/-- A circuit port that drains, or whose prepared circuit waits to be switched (R272, R277). -/
def State.circuitPrep (s : State) (p : Port) : Bool :=
  match circOf p with
  | some n =>
    let c := s.route.circuits[n]
    c.draining || c.state == 3 || c.state == 1
  | none => false

def State.portUse (s : State) (p : Port) : PortUse :=
  if s.circuitPrep p then .training
  else if (s.port p).st = .failed ∨ (s.port p).st = .disabled ∨ (s.port p).st = .quarantine then .unusable
  else if (s.port p).st = .active then .active else .training

def portOfField (f : BitVec 5) : Option Port := if h : f.toNat < 24 then some ⟨f.toNat, h⟩ else none
def State.fieldUse (s : State) (f : BitVec 5) : PortUse :=
  match portOfField f with
  | some p => s.portUse p
  | none => .unusable

def State.routeOf (s : State) (cn : U32) : RouteEntry :=
  (s.route.active.find? (·.cn == cn)).getD { cn := cn, prim := 0x1F, alt := 0x1F }

/-- What the switch does with a packet (R272, R273). -/
inductive Choice where
  | send (p : Port) (alt : Bool)
  | wait (p : Option Port)
  | discard
deriving DecidableEq, Repr

def State.choose (s : State) (cn : U32) : Choice :=
  let e := s.routeOf cn
  match s.fieldUse e.prim, s.fieldUse e.alt with
  | .active, _ => match portOfField e.prim with | some p => .send p false | none => .discard
  | .training, .active => match portOfField e.alt with | some p => .send p true | none => .discard
  | .training, _ => .wait (portOfField e.prim)
  | .unusable, .active => match portOfField e.alt with | some p => .send p true | none => .discard
  | .unusable, .training => .wait (portOfField e.alt)
  | .unusable, .unusable => .discard

/-- Destination substitution (R272, R281). -/
def State.substitute (s : State) (cn : U32) : U32 :=
  match s.route.substActive.find? (·.1 == cn) with
  | some e => e.2
  | none => cn

/-- Whether a CN is local: the own CN or the adopted position (R275, R282). -/
def State.isLocal (s : State) (cn : U32) : Bool := cn == s.own || cn == s.adopted

/-- The internal port of a packet addressed to the device (R265). -/
def unitOfPacket (vc : BitVec 3) : Packet → Fin 8
  | .block b => if vc == 7 then 7 else if b.hdr.typ == 5 then 1 else if vc == 4 then 2 else 0
  | .trans t =>
    match t.op.toNat with
    | 1 => 6 | 2 => 6 | 3 => 3
    | 8 => if t.a8 0 == 5 then 5 else 4
    | 10 => 4 | 18 => 4
    | 5 => if t.a8 10 == opCONTRIB then 0 else if t.a8 10 == opSTREAM then 1 else 2
    | 6 => if t.a8 10 == opCONTRIB then 0 else if t.a8 10 == opSTREAM then 1 else 2
    | _ => 2

def State.deliver (port : Option Port) (vc : BitVec 3) (pk : Packet) (s : State) : State :=
  { s with route := { s.route with delivered := s.route.delivered ++ [⟨unitOfPacket vc pk, port, pk⟩] } }

/-- The packet is taken from the internal port where it waits. -/
def State.takePk (pk : Packet) (s : State) : State :=
  match s.route.delivered.findIdx? (fun d => d.pk == pk) with
  | some i => { s with route := { s.route with delivered := s.route.delivered.eraseIdx i } }
  | none => s

/-- The trace of a packet sent or received (R445). -/
def State.tracePk (kind : Nat) (p : Port) (vc : BitVec 3) (pk : Packet) (s : State) : State :=
  let op := pk.opOn vc
  if !(s.tele.tracePorts.getLsbD p.val) || !(s.tele.traceOps.getLsbD op.toNat) then s
  else
    let other := if kind == 1 then pk.dst else pk.src
    let (ts, blk) := match pk with
      | .block b => (b.hdr.ts, b.hdr.blk)
      | .trans t => (t.a32 0, t.a32 4)
    s.trace (if p.val < 8 then 36 else 37) kind (unitPort p) p.val vc.toNat op.toNat
      (le32 other ++ le32 pk.step ++ le32 ts ++ le32 blk)

/-- Link-level traffic of a port, which does not pass the switch: IDENT, HEARTBEAT and MARK. -/
def isLinkLevel : Packet → Bool
  | .trans t => t.op == opIDENT || t.op == opHEARTBEAT || t.op == opMARK
  | .block _ => false

/-- A packet is queued on a port. -/
def State.queueOn (p : Port) (x : Queued) (s : State) : State :=
  (s.setPort p (fun q => { q with queue := q.queue ++ [x] })).tracePk 1 p x.vc x.pk

/-- Cells of the switch pool come free (R265). -/
def State.freePool (n : Nat) (s : State) : State := { s with route := { s.route with poolFree := s.route.poolFree + n } }

/-- The switch places a packet of the pool (R272, R273). -/
def State.switchPk (x : PoolPk) (s : State) : State :=
  let d := x.pk.dst
  match s.choose (s.substitute d) with
  | .send p alt =>
    if x.from_ = some p then
      let s := s.freePool x.pk.cellCount
      let rt := { s.route with routeDiscards := bump s.route.routeDiscards }
      if rt.seenUturn then { s with route := rt }
      else ({ s with route := { rt with seenUturn := true } }).record (ev3 0x1051 unitSwitch (arg1 p.val ++ arg4 d))
    else
      let rt := { s.route with forwarded := bump s.route.forwarded
                               altUses := if alt then bump s.route.altUses else s.route.altUses }
      ({ s with route := rt }).queueOn p ⟨x.vc, x.pk, x.from_, some x.seq⟩
  | .wait p => { s with route := { s.route with pool := s.route.pool ++ [{ x with out := p }] } }
  | .discard =>
    let s := s.freePool x.pk.cellCount
    let rt := { s.route with unreachable := bump s.route.unreachable }
    if rt.seenUnreach.contains d then { s with route := rt }
    else ({ s with route := { rt with seenUnreach := d :: rt.seenUnreach } }).record (ev3 0x1050 unitSwitch [])

/-- A packet enters the pool whole; one of the device's own units for which it has no room waits there
(notes/assumptions/82.md). -/
def State.enterPool (x : PoolPk) (go : PoolPk → State → State) (s : State) : State :=
  let n := x.pk.cellCount
  if s.route.poolFree < n then { s with route := { s.route with inWait := s.route.inWait ++ [x] } }
  else
    let rt := s.route
    go { x with seq := rt.poolSeq } { s with route := { rt with poolFree := rt.poolFree - n, poolSeq := rt.poolSeq + 1 } }

/-- A packet is sent on a given port: link-level traffic at once, any other through the pool. -/
def State.enqueue (p : Port) (vc : BitVec 3) (pk : Packet) (s : State) : State :=
  if isLinkLevel pk then s.queueOn p ⟨vc, pk, none, none⟩
  else s.enterPool ⟨none, vc, pk, 0, some p⟩ (fun x s => s.queueOn p ⟨x.vc, x.pk, none, some x.seq⟩)

/-- The switch takes a packet for another end point (R265, R272): from is its arrival port. -/
def State.forward (arr : Option Port) (vc : BitVec 3) (pk : Packet) (s : State) : State :=
  s.enterPool ⟨arr, vc, pk, 0, none⟩ State.switchPk

/-- Packets that waited for room in the pool are taken in order. -/
def State.admitWaiting (s : State) : State :=
  s.route.inWait.foldl (fun s x => match x.out with
    | some p => s.enqueue p x.vc x.pk
    | none => s.forward x.from_ x.vc x.pk) { s with route := { s.route with inWait := [] } }

/-- A unit of the device sends a packet with a non-zero destination (R265). -/
def State.sendVc (vc : BitVec 3) (pk : Packet) (s : State) : State :=
  if s.isLocal pk.dst then s.deliver none vc pk else s.forward none vc pk
def State.send (pk : Packet) (s : State) : State := s.sendVc (vcOfPacket pk) pk

/-- A packet on a given port, for link-level traffic. -/
def State.sendOn (p : Port) (pk : Packet) (s : State) : State := s.enqueue p (vcOfPacket pk) pk

/-- A transaction of the device: job tag, epoch and source as R247 and R282 give them, check words fresh. -/
def State.mkTrans (s : State) (op : U8) (dst step : U32) (a b c : List Byte) (body : List Byte) : Trans :=
  ({ op := op, flags := 0, jt := if untagged op then 0 else s.job.jt, epoch := if untagged op then 0 else s.job.epoch,
     step := step, a := opA a, src := if untagged op || s.job.jt == 0 then s.own else s.adopted, dst := dst, b := opB b,
     c := opB c, hdrCrc := 0, body := body } : Trans).seal

def State.sendTrans (op : U8) (dst step : U32) (a b c body : List Byte) (s : State) : State :=
  s.send (.trans (s.mkTrans op dst step a b c body))

/-- A block sent by the device to an end point: tags current, check words regenerated in the header; the payload check word is
carried (R60). -/
def State.sendBlock (b : Block) (s : State) : State :=
  let h := { b.hdr with jt := s.job.jt, epoch := s.job.epoch, src := s.adopted }
  s.send (.block { b with hdr := h.seal })

/-- A FENCE packet (R251), traced as kind 0x08. -/
def State.sendFence (dst step : U32) (kind : U8) (a : List Byte) (b c body : List Byte) (s : State) : State :=
  (s.sendTrans opFENCE dst step ([kind] ++ a) b c body).trace 0 8 unitCC 0xFF 1 8
    ([kind, byteAt a 0, 0, 0] ++ le32 step ++ le32 s.job.epoch)

/-- BLOCK_ACK and RESEND_REQ operands A (R248). -/
def ackA (ts blk : U32) (count : Nat) (op code : U8) (contrib : U32) : List Byte :=
  le32 ts ++ le32 blk ++ leBytes 2 count ++ [op, code] ++ le32 contrib
def State.sendAck (dst step ts blk : U32) (count : Nat) (op code : U8) (contrib : U32) (s : State) : State :=
  s.sendTrans opBLOCK_ACK dst step (ackA ts blk count op code contrib) [] [] []
def State.sendResend (dst step ts blk : U32) (count : Nat) (op reason : U8) (contrib : U32) (b : List Byte) (s : State) : State :=
  s.sendTrans opRESEND_REQ dst step (ackA ts blk count op reason contrib) b [] []

/-- A fresh free value: the counter of free values advances (notes/assumptions/3.md). -/
def State.free (s : State) : U64 × State := (Config.freeWord s.freeCtr, { s with freeCtr := s.freeCtr + 1 })

end Sys2Proof.Machine
end

