-- ==== Sys2Proof/Machine/Clock.lean ====
section
/-! DEFINITION. What a millisecond does by itself: the operating time, the token buckets (R452), the drop events of a second that
has ended (R452) and the stall and idle counters, whose cycles are free values (R152, R180, R439; notes/assumptions/3.md). -/
namespace Sys2Proof.Machine

/-- Tokens of a millisecond, in thousandths, up to the bucket's depth (R452). -/
def PlaneQ.refill (rate depth : U16) (q : PlaneQ) : PlaneQ :=
  { q with tokensMilli := min (depth.toNat * 1000) (q.tokensMilli + rate.toNat) }

/-- Event 0x8010 for a second in which a plane dropped alarms (R452). -/
def State.flushDrops (i : Fin 2) (s : State) : State :=
  let q := s.tele.planes[i]
  match q.dropSec with
  | some sec =>
    if s.time.now / 1000 = sec then s
    else
      let q' := { q with dropSec := none, droppedSec := Vector.replicate 5 0 }
      ({ s with tele := { s.tele with planes := s.tele.planes.set i q' } }).record
        (ev3 0x8010 unitRec (arg1 i.val ++ q.droppedSec.toList.flatMap le32))
  | none => s

/-- An island has power: not one whose units are all retired, nor in SAFE one of 5 to 35 (R502). -/
def State.powered (s : State) (i : Nat) : Bool :=
  !(s.pwr.gated.contains i) && !(s.job.dev == .safe && decide (5 ≤ i) && decide (i ≤ 35))

/-- Counters of a unit after a millisecond: each row that may apply in the unit's state gains a free number of cycles, the others
none (notes/assumptions/80.md); none does in an island without power. -/
def stalled {n : Nat} (on : Bool) (unit now : Nat) (may : Nat → Bool) (v : Vector U64 n) : Vector U64 n :=
  if !on then v
  else Vector.ofFn (fun k => if may k.val then v[k] + Config.stallCycles unit k.val now else v[k])

/-- The row of a window that a dispatcher holds (R152 rows 06 to 08), the window furthest on taken as the oldest, by how many wait
under R136, R124 and R128. -/
def heldRow (scalar order size : Bool) : Option Nat :=
  if scalar then some 7 else if order then some 6 else if size then some 5 else none

/-- The rows of R152 that may apply to a pipeline. -/
def UpdState.pipeRows (u : UpdState) (p : Pipe) (k : Nat) : Bool :=
  if !(u.pipes[p].queue.isEmpty) then
    if !u.touchWait.isEmpty then k == 1
    else k == 0 || k == 2 || k == 3 || (k == 4 && u.disp.any (fun d => d.ready && !d.handed))
  else
    match heldRow (!u.heldArea.isEmpty) (u.disp.any (fun d => !d.ready)) (!u.noSize.isEmpty) with
    | some r => k == r
    | none => k == 8

def UpdState.stallTick (now : Nat) (s : State) (u : UpdState) : UpdState :=
  { u with pipes := Vector.ofFn (fun p =>
      { u.pipes[p] with stalls := stalled (s.powered (25 + p.val)) (0x0100 + p.val) now (u.pipeRows p) u.pipes[p].stalls }) }

/-- A vector-class window that the dispatcher holds (R180 row 06). -/
def UpdState.holdsVector (u : UpdState) : Bool :=
  let vec (ts : U32) : Bool := u.table.any (fun e => e.ts == ts && e.role == 1 && e.cls == 2)
  u.heldArea.any (fun h => vec h.ts) || u.disp.any (fun d => !d.ready && vec d.ts) || u.noSize.any (fun d => vec d.ts)

/-- The rows of R180 that may apply to a core besides 01, which each issued instruction counts itself; row 08 counts events. -/
def CoreState.rows (holds : Bool) (c : CoreState) (k : Nat) : Bool :=
  if k = 7 then true
  else if c.running.isNone then k == (if holds then 5 else 6)
  else (k == 1 && c.endWait.isNone) || (k == 2 && !c.loads.isEmpty) || (k == 3 && !(c.copies.isEmpty && c.endWait.isNone)) ||
    (k == 4 && c.endWait.isNone)

def VecState.stallTick (now : Nat) (s : State) (v : VecState) : VecState :=
  { v with cores := Vector.ofFn (fun c =>
      { v.cores[c] with
        counters := stalled (s.powered (9 + c.val)) (0x0200 + c.val) now (v.cores[c].rows s.upd.holdsVector) v.cores[c].counters }) }

/-- The rows of R439: a unit with nothing to do counts its last row alone. -/
def busyRows (busy : Bool) (last k : Nat) : Bool := busy || k == last

def TeleState.stallTick (now : Nat) (s : State) (t : TeleState) : TeleState :=
  let red := !s.red.windows.isEmpty || s.route.delivered.any (·.unit == 0)
  let str := !s.str.passes.isEmpty || s.route.delivered.any (·.unit == 1)
  let cod := s.adj.queue.any (·.phase == .code)
  let mov := s.mov.chans.toList.any (·.passActive)
  let count {n : Nat} (islands : List Nat) (unit : Nat) (busy : Bool) (v : Vector U64 n) : Vector U64 n :=
    stalled (islands.any s.powered) unit now (busyRows busy (n - 1)) v
  { t with
    stallRed := count [5, 6, 7, 8] unitRed red t.stallRed, stallStr := count [34] unitStr str t.stallStr
    stallCod := count [35] 0x0D00 cod t.stallCod, stallMvR := count [33] 0x0800 mov t.stallMvR
    stallMvW := count [33] 0x0801 mov t.stallMvW }

/-- The FEC counters of the ports whose receivers are on (R259; notes/assumptions/80.md). -/
def LinkState.fecTick (now : Nat) (l : LinkState) : LinkState :=
  { l with ports := Vector.ofFn (fun p =>
      let q := l.ports[p]
      if q.st = .training ∨ q.st = .active ∨ q.st = .quarantine then
        { q with fecCorr := q.fecCorr + Config.fecCodewords p.val 0 now, fecUncorr := q.fecUncorr + Config.fecCodewords p.val 1 now }
      else q) }

/-- One millisecond (notes/assumptions/4.md). With the supplies absent nothing counts. -/
def State.tick (s : State) : State :=
  let now := s.time.now + 1
  if s.job.dev = .off then { s with time := { s.time with now := now } }
  else
    let tele := s.tele.stallTick now s
    let s := { s with
      time := { s.time with now := now, opMs := s.time.opMs + 1 }, upd := s.upd.stallTick now s
      vec := s.vec.stallTick now s, links := s.links.fecTick now
      tele := { tele with planes := tele.planes.map (PlaneQ.refill tele.tokenRate tele.bucket) } }
    (s.flushDrops 0).flushDrops 1

end Sys2Proof.Machine
end

