-- ==== Sys2Proof/Machine/PwrOps.lean ====
section
/-! DEFINITION. The energy ledger (R511, R512): costs in µJ, and the grant and release of reservations. -/
namespace Sys2Proof.Machine
open Sys2Proof

/-- The standing reservation: 0.06 J and 40 W for 524,288 bytes at 400 MB/s, in µJ (R511). -/
def standingCost : Nat := 112429
/-- A NAND chunk of n bytes: 40 W at 18 GB/s. -/
def chunkCost (n : Nat) : Nat := (n + 449) / 450
/-- A configuration save. -/
def saveCost : Nat := 209716

def Reservoir.inService (r : Reservoir) : Bool := r.status == 1 || r.status == 2

def State.setHu (i : Fin 2) (f : Reservoir → Reservoir) (s : State) : State :=
  { s with pwr := { s.pwr with hu := s.pwr.hu.set i (f s.pwr.hu[i]) } }

/-- What a value leaves of a reservoir's energy when it bounds the remainder. -/
def Reservoir.down (rest : Nat) (r : Reservoir) : Reservoir :=
  let left : U32 := BitVec.ofNat 32 (min r.usable.toNat rest)
  { r with spent := r.spent + (r.usable - left), usable := left }

/-- A reservoir is bled (R509, R510): 0.1 J of it is left at most, how much the manual does not say (notes/assumptions/84.md). -/
def State.bleed (i : Fin 2) (s : State) : State :=
  let (f, s) := s.free
  s.setHu i (Reservoir.down (f.toNat % 100001))

/-- The usable energy of the smaller reservoir in service (R512). -/
def PwrState.usable (p : PwrState) : Nat :=
  match (p.hu.toList.filter Reservoir.inService).map (·.usable.toNat) with
  | [] => 0
  | a :: l => l.foldl min a

def PwrState.outstanding (p : PwrState) : Nat := (p.reservations.map (·.toNat)).sum
def PwrState.covers (p : PwrState) (cost : Nat) : Bool :=
  decide (standingCost + p.outstanding + cost + p.margin.toNat ≤ p.usable)
/-- The standing reservation alone is covered. -/
def PwrState.standingOk (p : PwrState) : Bool := decide (standingCost + p.margin.toNat ≤ p.usable)

/-- The standing reservation is checked: event 0x6002 once while it is not covered (R512). -/
def State.checkStanding (s : State) : State :=
  if s.pwr.standingOk then { s with pwr := { s.pwr with standingSeen := false } }
  else if s.pwr.standingSeen then s
  else ({ s with pwr := { s.pwr with standingSeen := true } }).record (ev2 0x6002 unitPwr [])

/-- A reservation is granted or refused (R512). -/
def State.reserve (cost : Nat) (s : State) : Bool × State :=
  let s := s.checkStanding
  if s.pwr.granting && s.pwr.standingOk && s.pwr.covers cost && decide (s.pwr.reservations.length < 16) then
    (true, { s with pwr := { s.pwr with
      reservations := s.pwr.reservations ++ [BitVec.ofNat 32 cost], granted := bump s.pwr.granted } })
  else (false, { s with pwr := { s.pwr with refused := bump s.pwr.refused } })

/-- A reservation is released when its commit ends (R511). -/
def State.release (cost : U32) (s : State) : State :=
  if s.pwr.reservations.contains cost then
    { s with pwr := { s.pwr with reservations := s.pwr.reservations.erase cost, released := bump s.pwr.released } }
  else s

end Sys2Proof.Machine
end

