-- ==== Sys2Proof/Machine/StepOps.lean ====
section
/-! DEFINITION. What ends or stops a step (R20 to R27, R96, R126, R187, R318): the fence tree, pass closing, cut protection, the
failure of a step, and how each owned shard stands for it. -/
namespace Sys2Proof.Machine
open Sys2Proof

/-! ## The fence tree (R29, R364) and the tray's agents -/

/-- The parent of the device's position in the job's tree; none at the root. -/
def State.parent (s : State) : Option U32 :=
  match s.job.tree.find? (fun e => e.1 == s.adopted) with
  | some e => if e.2 == e.1 then none else some e.2
  | none => none

/-- The children of a position. -/
def State.childrenOf (s : State) (p : U32) : List U32 :=
  (s.job.tree.filter (fun e => e.2 == p && e.1 != p)).map (·.1)
def State.children (s : State) : List U32 := s.childrenOf s.adopted

/-- The CNs of the tray's agents, in tray-link order (R263). -/
def State.agents (s : State) : List (Port × U32) :=
  (List.finRange 8).filterMap fun k =>
    let w := s.route.wires[k.val]'(by omega)
    if w.kind == 2 then some (⟨k.val, by omega⟩, cnOf w.cn) else none

/-- A FENCE to the parent, when there is one. -/
def State.fenceUp (step : U32) (kind : U8) (a body : List Byte) (s : State) : State :=
  match s.parent with
  | some p => s.sendFence p step kind a [] [] body
  | none => s
def State.fenceDown (step : U32) (kind : U8) (a body : List Byte) (s : State) : State :=
  s.children.foldl (fun s c => s.sendFence c step kind a [] [] body) s

/-- The STEP_FAILED of an event code, up the tree and to the agents (R251). -/
def State.stepFailedUp (step : U32) (code : Nat) (s : State) : State :=
  let a := [0, 0, 0] ++ leBytes 2 code
  s.agents.foldl (fun s e => s.sendFence e.2 step 3 a [] [] []) (s.fenceUp step 3 a [])

/-! ## Passes (R186, R187) -/

def State.segsOf (s : State) (p : StreamProg) : List Segment := (s.str.segs.drop p.firstSeg.toNat).take p.segCount.toNat
def State.progOf (s : State) (n : U8) : Option StreamProg := s.str.progs.find? (·.num == n)

/-- Local blocks of a pass not yet sent, relay blocks not yet relayed, and blocks a destination has not acknowledged. -/
def State.passLeft (s : State) (p : Pass) : Nat :=
  match s.progOf p.prog with
  | none => 0
  | some g =>
    let segs := (s.segsOf g).zipIdx
    let left (e : Segment × Nat) : Nat :=
      if e.1.kind == 2 then e.1.count.toNat - (p.relayed.filter (fun r => r.1.toNat == e.2)).length
      else if e.2 < p.nextSeg.toNat then 0
      else if e.2 = p.nextSeg.toNat then e.1.count.toNat - p.nextBlk.toNat else e.1.count.toNat
    (segs.map left).sum + p.ahead.length + ((p.unacked.map (fun u => (u.seg, u.blk))).eraseDups).length

def setPass {n : Nat} (v : Vector (U32 × U8) n) (i : Nat) (x : U32 × U8) : Vector (U32 × U8) n :=
  if h : i < n then v.set i x else v

def StrState.dropPass (p : Pass) (t : StrState) : StrState :=
  { t with passes := t.passes.filter (fun q => !(q.prog == p.prog && q.step == p.step))
           retries := t.retries.filter (fun r => !(r.1 == p.prog && r.2.1 == p.step)) }

/-- A pass that has sent everything ends (R186). -/
def State.endPass (p : Pass) (s : State) : State :=
  ({ s with str := { s.str.dropPass p with
      passStatus := setPass s.str.passStatus p.prog.toNat (p.step, 2), ended := bump s.str.ended } }).raiseIrq 2

/-- A pass closes (R187). -/
def State.closePass (p : Pass) (s : State) : State :=
  let n := s.passLeft p
  if n = 0 then s.endPass p
  else
    ({ s with str := { s.str.dropPass p with
        passStatus := setPass s.str.passStatus p.prog.toNat (p.step, 3), abandoned := bumpBy s.str.abandoned n } }).record
      (ev3 0x2604 unitStr (arg4 p.step ++ arg1 p.prog.toNat ++ arg8 (BitVec.ofNat 64 n)))

def State.closePasses (f : Pass → Bool) (s : State) : State :=
  (s.str.passes.filter f).foldl (fun s p => s.closePass p) s

/-! ## Cuts (R317, R318) -/

def CutPhase.num : CutPhase → Nat
  | .armed => 1 | .copy => 2 | .code => 3

/-- The owner entries of the tensor table, in table order. -/
def State.owned (s : State) : List TensorEntry := s.upd.table.filter (·.role == 1)

/-- The streams of the cut layout, in order (R317). -/
def cutStreams : List Stream := [.w, .m, .v, .a, .c]
def TensorEntry.cutBlocks (e : TensorEntry) : Nat := ((cutStreams.filter e.has).map e.blocks).sum

/-- Blocks of the streams of an entry before a stream, in layout order. -/
def TensorEntry.cutBefore (e : TensorEntry) (st : Stream) : Nat :=
  (((cutStreams.takeWhile (· != st)).filter e.has).map e.blocks).sum

/-- The place of block b of a stream of an entry in the cut region (R317). -/
def State.slotIx (s : State) (e : TensorEntry) (st : Stream) (b : Nat) : Nat :=
  ((s.owned.takeWhile (fun f => f.ts != e.ts)).map TensorEntry.cutBlocks).sum + e.cutBefore st + b

/-- The block of a C pair with the greater step field not above a step; on a tie the second; none when neither qualifies (R142,
R189, R317). -/
def pickC (limit s0 s1 : U32) : Option Nat :=
  let a := decide (s0.toNat ≤ limit.toNat)
  let b := decide (s1.toNat ≤ limit.toNat)
  if a && b then (if s0.toNat > s1.toNat then some 0 else some 1) else if a then some 0 else if b then some 1 else none

/-- The stored header of the block at an offset. -/
def State.headerAt (s : State) (off : Nat) : Header :=
  match tierOf off, s.regionAt off with
  | some t, some r => s.storedHeader t r off
  | _, _ => Header.zero

/-- The step field of a stored block. -/
def State.storedStep (s : State) (off : Nat) : U32 := (s.headerAt off).step

/-- The block of a C pair that an access up to a step uses. -/
def State.pairPick (s : State) (e : TensorEntry) (limit : U32) (b : Nat) : Option Nat :=
  pickC limit (s.storedStep (e.blockOff .c b 0)) (s.storedStep (e.blockOff .c b 1))

/-- The offset of the block of a stream that a cut of a step holds. -/
def State.cutOff (s : State) (e : TensorEntry) (step : U32) (st : Stream) (b : Nat) : Nat :=
  match st with
  | .c => e.blockOff .c b ((s.pairPick e step b).getD 1)
  | st => e.blockOff st b 0

def globalOf (s : State) (off : Nat) : U64 := (s.ident.cn.setWidth 64 <<< 47) ||| BitVec.ofNat 64 off

def State.cutPage (s : State) (e : TensorEntry) (step : U32) (st : Stream) (b : Nat) : CutPage :=
  ⟨globalOf s (s.cutOff e step st b), s.slotIx e st b, step, false⟩

/-- All blocks of an entry as pages of a cut (R317). -/
def State.cutPages (s : State) (e : TensorEntry) (step : U32) : List CutPage :=
  (cutStreams.filter e.has).flatMap (fun st => (List.range (e.blocks st)).map (s.cutPage e step st))

/-- Pages join the cut of a step, which is armed when it is not yet queued. -/
def State.protect (forced : Bool) (step : U32) (ps : List CutPage) (s : State) : State :=
  let q := s.adj.queue
  if q.any (fun c => c.step == step && c.forced == forced && !c.sealedMove) then
    { s with adj := { s.adj with queue := q.map (fun c =>
        if c.step == step && c.forced == forced && !c.sealedMove then { c with pages := c.pages ++ ps } else c) } }
  else
    { s with adj := { s.adj with
        armed := bump s.adj.armed
        queue := q ++ [{ step := step, forced := forced, kind := if forced then .forced else .kdelta, pages := ps }] } }

/-- An adjournment step (R315). -/
def State.isAdjStep (s : State) (step : U32) : Bool := s.adj.k != 0 && step.toNat % s.adj.k.toNat == 0

/-- Whether the pair gives no partner, so that RPL and MIR shards are treated as FRZ (R290). -/
def State.noPartner (s : State) : Bool :=
  s.part.pair == .none_ || s.part.pair == .requesting || s.part.pair == .refused
/-- Class as R20 and R310 see it. -/
def State.actsFrz (s : State) (e : TensorEntry) : Bool := e.pclass == 3 || s.noPartner
/-- Whether a forced delta of the shard is due for a step it writes (R310). -/
def State.forcedDue (s : State) (e : TensorEntry) : Bool := s.actsFrz e || s.part.pair == .correlated
/-- Whether the sealed move of a step requests a forced delta of the shard (R310): a FRZ shard's when the step wrote it, and that of
every RPL and MIR shard of a correlated pair or of a device without a partner. -/
def State.forcedAt (s : State) (e : TensorEntry) (step : U32) : Bool :=
  if e.pclass == 3 then s.part.wrote.any (fun x => x.1 == e.ts && x.2.1 == step) else s.forcedDue e

/-- The protection set as a shard completes a step (R318, R340). -/
def State.protectShard (e : TensorEntry) (step : U32) (s : State) : State :=
  let s := if s.isAdjStep step then s.protect false step (s.cutPages e step) else s
  let wrote := s.part.wrote.filter (fun x => x.1 == e.ts && x.2.1 == step)
  if s.forcedDue e && !wrote.isEmpty then
    s.protect true step (wrote.map (fun x => s.cutPage e step x.2.2.1 x.2.2.2.toNat))
  else s

/-- A cut abandoned before its sealed move (R318): its event names the step, the phase and the cause, whose code
the manual leaves open. -/
def State.abandonCut (code : Nat) (c : Cut) (s : State) : State :=
  ({ s with adj := { s.adj with queue := s.adj.queue.filter (fun d => !(d == c)), abandoned := bump s.adj.abandoned } }).record
    (ev3 0x3201 unitCont (arg4 c.step ++ arg1 c.phase.num ++ [Config.causeCode code]))
def State.abandonCuts (f : Cut → Bool) (code : Nat) (s : State) : State :=
  ((s.adj.queue.filter f).foldl (fun s c => s.abandonCut code c) s).settleAll

/-! ## Points of Tier N (R331) -/

/-- Points are freed with their chunks and their space. -/
def State.freePoints (f : Point → Bool) (s : State) : State :=
  let gone := s.adj.points.filter f
  let dead (c : Chunk) : Bool := gone.any (·.seq == c.seq)
  { s with adj := { s.adj with
      points := s.adj.points.filter (fun p => !f p)
      chunks := s.adj.chunks.filter (fun c => !dead c), damage := s.adj.damage.filter (fun d => !(gone.any (·.seq == d.1)))
      free := s.adj.free + BitVec.ofNat 64 ((s.adj.chunks.filter dead).map (·.bytes.length)).sum } }

/-! ## Windows of a step -/

/-- Windows of a step for an owned shard that are open, parked, held, waiting, assigned or in write-back (R125). -/
def State.shardBusy (s : State) (ts step : U32) : Bool :=
  s.red.windows.any (fun w => w.ts == ts && w.step == step && (w.phase == .opened || w.phase == .waiting)) ||
  s.red.parked.any (fun p => p.win.ts == ts && p.win.step == step) ||
  s.upd.disp.any (fun d => d.ts == ts && d.step == step && !d.replica) ||
  s.upd.heldArea.any (fun h => h.ts == ts && h.step == step) ||
  s.upd.pipes.any (fun p => p.queue.any (fun x => x.win.ts == ts && x.win.step == step && !x.win.replica)) ||
  s.vec.cores.any (fun c =>
    let mine (i : Invoc) : Bool := i.win.ts == ts && i.win.step == step
    c.running.any mine || c.queue.any mine || c.finished.any (fun r => mine r.inv)) ||
  s.vec.again.any (fun x => x.2.win.ts == ts && x.2.win.step == step)

/-- Whether a window of a step of a shard has begun: written back, or assigned to a pipeline or a core. -/
def State.stepBegun (s : State) (e : TensorEntry) (step : U32) : Bool :=
  let mine (d : DispWin) : Bool := d.ts == e.ts && d.step == step && d.replica == (e.role == 2)
  s.upd.written.any (fun x => x.1 == e.ts && x.2.2 == step) || s.upd.pipes.any (fun p => p.queue.any (fun x => mine x.win)) ||
  s.vec.cores.any (fun c => c.running.any (fun i => mine i.win) || c.queue.any (fun i => mine i.win) ||
    c.finished.any (fun r => mine r.inv.win)) || s.vec.again.any (fun x => mine x.2.win)

/-- Windows of a shard: span from the tree table (R80). -/
def State.treeOf (s : State) (ts : U32) : Option TreeRec := s.red.trees.find? (·.ts == ts)
def TreeRec.winSpan (r : TreeRec) : Nat := 2 ^ r.span.toNat
def State.windowsOf (s : State) (e : TensorEntry) : Nat :=
  match s.treeOf e.ts with
  | some r => (e.count.toNat + r.winSpan - 1) / r.winSpan
  | none => 0

def TensorEntry.held (e : TensorEntry) : Bool := e.mode.getLsbD 0
def TensorEntry.sparse (e : TensorEntry) : Bool := e.mode.getLsbD 1
def TensorEntry.trap (e : TensorEntry) : Bool := e.mode.getLsbD 2

def State.setEntry (ts : U32) (role : U8) (f : TensorEntry → TensorEntry) (s : State) : State :=
  { s with upd := { s.upd with table := s.upd.table.map (fun e => if e.ts == ts && e.role == role then f e else e) } }
def State.ownerOf (s : State) (ts : U32) : Option TensorEntry := s.upd.table.find? (fun e => e.ts == ts && e.role == 1)
def State.replicaOf (s : State) (ts : U32) : Option TensorEntry := s.upd.table.find? (fun e => e.ts == ts && e.role == 2)

/-! ## How a shard stands for a step (R20) -/

/-- Not yet reported; reported, saying whether the step touched it; or failed with the event code and block index. -/
inductive Standing where
  | pending | reported (touched : Bool) | failed (code : U16) (blk : U32)
deriving DecidableEq, Repr

/-- The partner has acknowledged the step and the digests agree (R20, R308). -/
def State.partnerDone (s : State) (e : TensorEntry) (step : U32) : Bool :=
  s.actsFrz e || s.part.ackedSteps.contains (e.ts, step)

def State.standing (s : State) (e : TensorEntry) (step : U32) : Standing :=
  match s.fence.reports.find? (fun r => r.ts == e.ts && r.step == step) with
  | some r => .failed r.code r.blk
  | none =>
    if e.status == .quarantined then .failed 0x2403 0
    else if e.status == .halted then .reported false
    else if e.l == step then (if s.partnerDone e step then .reported true else .pending)
    else if e.p == none && !(s.shardBusy e.ts step) && (e.sparse || s.actsFrz e) && decide (e.l.toNat < step.toNat) then
      .reported false
    else .pending

def State.standings (s : State) : List (TensorEntry × Standing) := s.owned.map (fun e => (e, s.standing e s.fence.cur))
/-- OD 2100.07. -/
def State.shardsPending (s : State) : List U32 :=
  if s.fence.pending then (s.standings.filter (fun x => x.2 == .pending)).map (·.1.ts) else []

/-! ## Failing a step -/

/-- A pending step fails (R24, R25): status 3, count, the event, its passes and cuts, and the report upward. -/
def State.failStep (code : Nat) (evs : List Event) (s : State) : State :=
  let step := s.fence.cur
  let s := { s with fence := { s.fence with
    status := 3, stepsFailed := s.fence.stepsFailed + 1, pending := false, failedStep := some step } }
  let s := evs.foldl (fun s e => s.record e) s
  let s := s.closePasses (fun p => decide (p.step.toNat ≥ step.toNat))
  let s := s.abandonCuts (fun c => !c.sealedMove && decide (c.step.toNat ≥ step.toNat)) code
  s.stepFailedUp step code

/-- The first shard that reports the pending step as failed fails the step at once (R25). -/
def State.failIfReported (s : State) : State :=
  if !s.fence.pending then s
  else
    match s.standings.findSome? (fun x => match x.2 with | .failed c b => some (x.1.ts, c, b) | _ => none) with
    | some (ts, c, b) => s.failStep c.toNat (if c == 0x2102 then [ev3 0x2102 unitCC (arg4 ts ++ arg4 b)] else [])
    | none => s

/-- A shard reports a step as failed, as in R25. -/
def State.failShard (ts step : U32) (code : Nat) (blk : U32) (s : State) : State :=
  if s.fence.reports.any (fun r => r.ts == ts && r.step == step) then s
  else
    ({ s with fence := { s.fence with reports := s.fence.reports ++ [(⟨ts, step, BitVec.ofNat 16 code, blk⟩ : ShardReport)] } } : State).failIfReported

/-- An owned shard is quarantined (R126). -/
def State.quarantine (e : TensorEntry) (step : U32) (s : State) : State :=
  let s := s.setEntry e.ts 1 (fun e => { e with status := .quarantined })
  let s := s.record (ev1 0x2403 unitCC (arg4 e.ts ++ arg4 step ++ arg4 e.l ++ arg4 e.t))
  s.failIfReported

/-! ## Counting a step's contributions (R28) -/

def addStep32 (l : List (U32 × U32)) (step : U32) (n : Nat) : List (U32 × U32) :=
  if l.any (·.1 == step) then l.map (fun e => if e.1 == step then (e.1, e.2 + BitVec.ofNat 32 n) else e)
  else l ++ [(step, BitVec.ofNat 32 n)]
def addStep64 (l : List (U32 × U64)) (step : U32) (n : Nat) : List (U32 × U64) :=
  if l.any (·.1 == step) then l.map (fun e => if e.1 == step then (e.1, bumpBy e.2 n) else e)
  else l ++ [(step, BitVec.ofNat 64 n)]
def State.noteAccepted (step : U32) (n : Nat) (s : State) : State :=
  { s with fence := { s.fence with accepted := addStep64 s.fence.accepted step n } }
def State.noteDiscarded (step : U32) (n : Nat) (s : State) : State :=
  { s with fence := { s.fence with discarded := addStep32 s.fence.discarded step n } }

/-- A step at or above a failed step (R26), or any step between SURVEY and COMMIT (R375). -/
def State.afterFailed (s : State) (step : U32) : Bool :=
  s.job.stepStopped ||
  match s.fence.failedStep with
  | some f => decide (step.toNat ≥ f.toNat)
  | none => false
/-- A step above a failed step, or any step between SURVEY and COMMIT (R375). -/
def State.aboveFailed (s : State) (step : U32) : Bool :=
  s.job.stepStopped ||
  match s.fence.failedStep with
  | some f => decide (step.toNat > f.toNat)
  | none => false

/-- A step-event interrupt (R29, R100, R339, R387). -/
def State.stepIrq (s : State) : State := s.raiseIrq 1

/-! ## A global stop (R27, R96, R140, R167) -/

def Invoc.sameWin (i j : Invoc) : Bool := i.win.ts == j.win.ts && i.win.w == j.win.w && i.win.step == j.win.step

/-- A run of a check is lost: the first of the other runs stands alone, and a second that has ended goes (R168). -/
def State.uncheck (i : Invoc) (s : State) : State :=
  let f (j : Invoc) : Invoc := if j.sameWin i then { j with check := false } else j
  let first := s.vec.cores.any (fun k => k.finished.any (fun r => r.inv.check && r.inv.sameWin i && r.inv.runNo == 0))
  let extra (r : RunOut) : Bool := first && r.inv.check && r.inv.sameWin i && r.inv.runNo != 0
  { s with vec := { s.vec with cores := s.vec.cores.map (fun k =>
      { k with running := k.running.map f, queue := k.queue.map f
               finished := (k.finished.filter (fun r => !extra r)).map (fun r => { r with inv := f r.inv }) }) } }

/-- The windows, held windows and undispatched work of the uncommitted steps are freed and counted; work in a pipeline or
running on a core finishes. A window is named by its epoch too (R83), so what the old ones left behind goes with them. -/
def State.discardWindows (s : State) : State :=
  let un (step : U32) : Bool := decide (step.toNat > s.fence.sealedStep.toNat)
  let wins := s.red.windows.filter (fun w => un w.step)
  let parked := s.red.parked.filter (fun p => un p.win.step)
  let held (w : Window) : Nat := if w.phase = .opened ∨ w.phase = .waiting then w.pieces.length else w.outs.length
  let pieces := (wins.map held).sum + (parked.map (fun p => p.win.pieces.length)).sum
  let heldN := (s.upd.heldArea.filter (fun h => un h.step)).length
  let vecOwner (d : DispWin) : Bool := (s.ownerOf d.ts).any (·.cls == 2)
  let queued := (s.vec.cores.toList.filterMap (·.queue) ++ s.vec.again.map (·.2)).filter (fun i => un i.win.step)
  let waiting := (s.upd.disp.filter (fun d => un d.step && !d.replica && vecOwner d)).length
  let s := { s with
    red := { s.red with
      windows := s.red.windows.filter (fun w => !un w.step)
      parked := s.red.parked.filter (fun p => !un p.win.step)
      scalars := s.red.scalars.filter (fun x => !un x.step)
      done := s.red.done.filter (fun x => !un x.step)
      acked := s.red.acked.filter (fun x => !un x.2.2)
      raised := s.red.raised.filter (fun x => !un x.1.2.2)
      sums := s.red.sums.filter (fun x => !un x.step)
      anchorIn := s.red.anchorIn.filter (fun x => !un x.1)
      resultsAt := s.red.resultsAt.filter (fun x => !un x.2.1)
      badFirst := s.red.badFirst.filter (fun x => !un x.2.2)
      mism := s.red.mism.filter (fun x => !un x.1.2.2.1)
      stopPieces := bumpBy s.red.stopPieces pieces }
    upd := { s.upd with
      heldArea := s.upd.heldArea.filter (fun h => !un h.step)
      disp := s.upd.disp.filter (fun d => !un d.step || d.replica)
      noSize := s.upd.noSize.filter (fun d => !un d.step)
      heldDiscards := bumpBy s.upd.heldDiscards heldN }
    vec := { s.vec with
      cores := s.vec.cores.map (fun c => if c.queue.any (fun i => un i.win.step) then { c with queue := none } else c)
      again := s.vec.again.filter (fun x => !un x.2.win.step)
      stopDiscards := bumpBy s.vec.stopDiscards (queued.length + waiting) } }
  -- a discarded run of a check leaves the others to stand alone
  (queued.filter (·.check)).foldl (fun s i => s.uncheck i) s

end Sys2Proof.Machine
end

