-- ==== Sys2Proof/Machine/PartnerOps.lean ====
section
/-! DEFINITION. What the continuity engine sends the partner and keeps for it: replay, mirroring, records, digests and
synchronisation (R296 to R308). -/
namespace Sys2Proof.Machine
open Sys2Proof

/-- Paired with a named partner (R288). -/
def State.paired (s : State) : Bool :=
  s.part.named && (s.part.pair == .paired || s.part.pair == .correlated)

/-- The shards a partner protects (R286). -/
def State.ownedPaired (s : State) : List TensorEntry := s.owned.filter (fun e => e.pclass == 1 || e.pclass == 2)

/-- R290: the step runs with RPL and MIR shards treated as FRZ, recorded once per epoch. -/
def State.noteNoPartner (s : State) : State :=
  if s.noPartner && s.owned.any (fun e => e.pclass == 1 || e.pclass == 2) && s.part.noPartnerEpoch != some s.job.epoch then
    ({ s with part := { s.part with noPartnerEpoch := some s.job.epoch } }).record (ev2 0x3003 unitCont [])
  else s

/-! ## The park area (R85 to R87, R300) -/

def TreeRec.parkBytes (r : TreeRec) : Nat := r.winSpan * 16 + 4096
def State.winParkBytes (s : State) (w : Window) : Nat :=
  match s.treeOf w.ts with
  | some r => r.parkBytes
  | none => 4096
/-- Bytes of the park area in use: park records, stored pieces, retained outputs and the partner's retained items. -/
def State.parkUsed (s : State) : Nat :=
  (s.red.parked.map (fun p => s.winParkBytes p.win + 4160 * p.stored.length)).sum +
  4160 * (s.red.windows.map (·.outs.length)).sum + (s.part.retained.map (fun i => 64 * i.pk.cellCount)).sum
def State.parkRoom (s : State) (n : Nat) : Bool := decide (s.parkUsed + n ≤ s.red.parkForce.toNat * 1048576)

/-! ## Sending to the partner -/

/-- An item is sent to the partner and retained until it is acknowledged (R300). -/
def State.sendRetained (pk : Packet) (s : State) : State :=
  ({ s with part := { s.part with retained := s.part.retained ++ [RetItem.mk pk] } }).send pk

/-- Frame bytes of a packet: 66 for each cell. -/
def frameBytesOf (pk : Packet) : Nat := 66 * pk.cellCount

/-- The tags every packet of the device carries now (R282). -/
def State.tagged (s : State) (h : Header) : Header := { h with jt := s.job.jt, epoch := s.job.epoch, src := s.adopted }

/-- The REPLAY_G blocks of a window's G values, first G block index first (R297). -/
def State.replayBlocks (s : State) (d : DispWin) (first : Nat) : List Block :=
  ((chunksOf ((d.g.length + 1023) / 1024) 4096 (d.g.flatMap le32)).zipIdx).map fun (pay, j) =>
    let h : Header := { Header.zero with
      typ := 4, fmt := 2
      flags := setFlag (setFlag 0x20 0 d.poison) 7 d.nonfinite
      step := d.step, ts := d.ts, blk := BitVec.ofNat 32 (first + j), contrib := cnOf s.adopted
      anchor := ofSigned16 d.anchor, count := BitVec.ofNat 16 (pay.length / 4), dst := s.part.partner }
    (⟨s.tagged h, pay⟩ : Block).seal

/-- The replay hand-off of a completed RPL window (R297). -/
def State.sendReplayG (d : DispWin) (first : Nat) (s : State) : State :=
  (s.replayBlocks d first).foldl (fun s b =>
    let pk := Packet.block b
    { s.sendRetained pk with part := { (s.sendRetained pk).part with
        replayBytes := bumpBy (s.sendRetained pk).part.replayBytes (frameBytesOf pk) } }) s

/-- A window record (R298). -/
structure RecArgs where
  ts : U32
  a1 : U32
  a2 : U32 := 0
  a3 : U32 := 0
  held : Option U32 := none
  kind : U8
  verdict : U8 := 0
  pipe : U8 := 0
  digest : U64 := 0

def State.recordTrans (s : State) (dst step : U32) (r : RecArgs) : Trans :=
  let flag : U8 := if r.kind == 3 then r.verdict else if r.held.isSome then 1 else 0
  s.mkTrans opREPLAY_G dst step (le32 r.ts ++ le32 r.a1 ++ le32 r.a2 ++ le32 r.a3)
    (le32 (r.held.getD 0) ++ [r.kind, flag, r.pipe, 0]) (le64 r.digest) []

/-- A record of the owner to its partner, retained (R299, R300). -/
def State.sendRecord (step : U32) (r : RecArgs) (s : State) : State :=
  s.sendRetained (.trans (s.recordTrans s.part.partner step r))

/-! ## Digests (R307, R308) -/

/-- The term of a block for its stream index (R307). -/
def blockTerm (idx : Nat) (pay : List Byte) : U64 := crc64Seed (BitVec.ofNat 64 idx) pay

/-- A term replaces an earlier one of the same block. -/
def State.foldTerm (d : DigTerm) (s : State) : State :=
  let same (e : DigTerm) : Bool :=
    e.ts == d.ts && e.step == d.step && e.replica == d.replica && e.stream == d.stream && e.idx == d.idx
  { s with part := { s.part with terms := s.part.terms.filter (fun e => !same e) ++ [d] } }

def xorTerms (l : List DigTerm) : U64 := l.foldl (fun a d => a ^^^ d.crc) 0
def State.shardDigest (s : State) (ts step : U32) (replica : Bool) : U64 :=
  xorTerms (s.part.terms.filter (fun d => d.ts == ts && d.step == step && d.replica == replica))
def State.windowDigest (s : State) (ts w step : U32) (replica : Bool) : U64 :=
  xorTerms (s.part.terms.filter (fun d => d.ts == ts && d.step == step && d.replica == replica && d.w == w))

def State.sendDigest (dst step ts : U32) (role : U8) (v : U64) (s : State) : State :=
  s.sendTrans opDIGEST dst step (le32 ts ++ [role]) (le64 v) [] []

/-- The OWNER digest of a completed step (R308). -/
def State.sendOwnerDigest (e : TensorEntry) (step : U32) (s : State) : State :=
  if s.paired && (e.pclass == 1 || e.pclass == 2) then
    s.sendDigest s.part.partner step e.ts 1 (s.shardDigest e.ts step false)
  else s

/-! ## Mirroring (R305, R306) -/

/-- The stored block at an offset as a MIRROR_P to a CN, its offset moved by a delta (R304, R305). -/
def State.mirrorOf (s : State) (h : Header) (pay : List Byte) (off : Nat) (dst : U32) (delta : U64) : Packet :=
  let h := { h with flags := setFlag h.flags 6 true, dst := dst, offset := BitVec.ofNat 64 off + delta }
  .block ⟨(s.tagged h).seal, pay⟩

def State.countMirror (s : State) (pk : Packet) : State :=
  { s with part := { s.part with mirrorBytes := bumpBy s.part.mirrorBytes (frameBytesOf pk) } }

/-- A stored block is read and sent to the partner as MIRROR_P. -/
def State.sendMirror (off : Nat) (s : State) : State :=
  match tierOf off with
  | none => s
  | some t =>
    let (b, s) := s.readBlock unitCont t off
    let pk := s.mirrorOf b.header b.pay off s.part.partner s.part.delta
    (s.sendRetained pk).countMirror pk

/-- A MASK block as R306 sends it: INT8 of 4,096 elements, the step field the effective step, the payload check word carried
(R61). -/
def State.maskMirror (s : State) (b : Block) (off : Nat) (step : U32) (dst : U32) : Packet :=
  let h : Header := { b.hdr with
    typ := 1, fmt := 11, count := 4096, flags := setFlag (setFlag b.hdr.flags 1 true) 6 true, step := step, dst := dst
    offset := BitVec.ofNat 64 off + s.part.delta }
  .block ⟨(s.tagged h).seal, b.pay⟩

def State.sendMask (b : Block) (off : Nat) (step : U32) (s : State) : State :=
  let pk := s.maskMirror b off step s.part.partner
  (s.sendRetained pk).countMirror pk

/-! ## Synchronisation (R296) -/

/-- The offsets of every block of the streams a synchronisation sends. -/
def TensorEntry.syncOffs (e : TensorEntry) : List Nat :=
  (cutStreams.filter e.has).flatMap fun st =>
    match st with
    | .c => (List.range (e.blocks .c)).flatMap (fun b => [e.blockOff .c b 0, e.blockOff .c b 1])
    | st => (List.range (e.blocks st)).map (fun b => e.blockOff st b 0)

/-- The owner sends every block of the shard, and every MASK block, to the partner (R296). -/
def State.startSync (e : TensorEntry) (step : U32) (s : State) : State :=
  let s := { s with part := { s.part with
    syncing := s.part.syncing ++ [(e.ts, step)], toSync := s.part.toSync.filter (· != e.ts) } }
  let s := e.syncOffs.foldl (fun s off => s.sendMirror off) s
  if e.has .k then
    (List.range (e.blocks .k)).foldl (fun s b =>
      let off := e.blockOff .k b 0
      match tierOf off with
      | none => s
      | some t =>
        let (r, s) := s.readBlock unitCont t off
        s.sendMask ⟨r.header, r.pay⟩ off step) s
  else s

end Sys2Proof.Machine
end

