-- ==== Sys2Proof/Machine/UpdateOps.lean ====
section
/-! DEFINITION. The dispatcher and the step counters (R123 to R128, R135, R136): how a completed window becomes ready, waits, is
refused or held, and how a shard completes a step. -/
namespace Sys2Proof.Machine
open Sys2Proof

/-! ## Step sizes (R127, R128) -/

def State.latchOf (s : State) (step : U32) : Option U32 := (s.upd.latches.find? (·.1 == step)).map (·.2)

/-- A latch is freed when its step completes on every shard (R127). -/
def State.freeLatches (s : State) : State :=
  { s with upd := { s.upd with
      latches := s.upd.latches.filter (fun l => s.owned.any (fun e => decide (e.l.toNat < l.1.toNat)) ||
        decide (l.1.toNat > s.fence.sealedStep.toNat) && s.owned.isEmpty) } }

/-! ## Admission (R124) -/

/-- The row of R124 that applies. -/
inductive Admit where
  | quarantined | halted | ready (start : Bool) | hold | refuse
deriving DecidableEq, Repr

/-- R124 for a window of a step; sealedStep tells the last row but one whether step L + 1 is sealed. -/
def admitOf (e : TensorEntry) (sealedStep step : U32) : Admit :=
  if e.status = .quarantined then .quarantined
  else if e.status = .halted then .halted
  else
    let st := step.toNat
    match e.p with
    | some p => if p = step then .ready false else if p.toNat + 1 = st then .hold else .refuse
    | none =>
      if st = e.l.toNat + 1 then .ready true
      else if e.sparse && decide (st > e.l.toNat + 1) then .ready true
      else if st = e.l.toNat + 2 ∧ sealedStep.toNat < e.l.toNat + 1 then .hold
      else .refuse

/-- Step S is in progress for the shard (R124). -/
def TensorEntry.start (step : U32) (e : TensorEntry) : TensorEntry :=
  { e with p := some step, status := if e.status = .haltPending then .haltPending else .running }

/-- The trace of a window (R445); the unit-specific word is not stated: a free value (notes/assumptions/3.md). -/
def State.traceWindow (unit : Nat) (ts w step : U32) (s : State) : State :=
  let (v, s) := s.free
  s.trace (islandOfUnit unit) 7 unit 0xFF 0xFF 0 (le32 ts ++ le32 w ++ le32 step ++ le32 (v.setWidth 32))

/-! ## The held area (R136) -/

def State.winSpan (s : State) (ts : U32) : Nat :=
  match s.treeOf ts with
  | some r => r.winSpan
  | none => 1024

/-- Valid elements of window w of a shard of n elements. -/
def winElems (span n w : Nat) : Nat := min span (n - w * span)

/-- Valid elements of G block b. -/
def TensorEntry.gElems (e : TensorEntry) (b : Nat) : Nat := min 1024 (e.count.toNat - b * 1024)

/-- The header of a held block: the window's flags are kept (R136), a value that is not finite sets the non-finite flag (R40), and
the poison of a block written in part stays (R66). -/
def State.heldHeader (s : State) (e : TensorEntry) (d : DispWin) (b : Nat) (pay : List Byte) (stays : Bool) : Header :=
  let bad := (List.range (e.gElems b)).any (fun i => nonfinite32 (field32 pay (4 * i)))
  s.tagged { Header.zero with
    typ := 1, fmt := 2, flags := setFlag (setFlag 0 0 (d.poison || stays)) 7 (d.nonfinite || bad), step := d.step, ts := e.ts
    blk := BitVec.ofNat 32 b, count := BitVec.ofNat 16 (e.gElems b), dst := s.own
    offset := BitVec.ofNat 64 (e.blockOff .g b 0) }

/-- The G values of a window are written to its place in the held area; bytes past the last valid element are zero (R41). -/
def State.writeHeld (e : TensorEntry) (d : DispWin) (s : State) : State :=
  let first := d.w.toNat * s.winSpan e.ts
  let bytes := d.g.flatMap le32
  let last := first + d.g.length
  (List.range (last / 1024 + 1)).foldl (fun s b =>
    let lo := max first (1024 * b)
    let hi := min last (1024 * (b + 1))
    if hi ≤ lo then s
    else
      let off := e.blockOff .g b 0
      match tierOf off with
      | none => s
      | some t =>
        let part := (bytes.drop (4 * (lo - first))).take (4 * (hi - lo))
        let at_ := 4 * (lo - 1024 * b)
        if hi - lo < e.gElems b && (s.headerAt off).step == d.step then
          -- the second half of a block of two windows joins the first
          let (x, s) := s.readBlock unitCC t off
          let pay := (x.pay.take at_ ++ part ++ x.pay.drop (at_ + part.length)).take (4 * e.gElems b)
          s.writeBlock t off ⟨{ s.heldHeader e d b pay x.poison with src := s.own }, pay⟩
        else
          let pay := List.replicate at_ 0 ++ part
          s.writeBlock t off ⟨{ s.heldHeader e d b pay false with src := s.own }, pay⟩) s

/-- The G values of a window read back from the held area, and whether a block read poisoned. -/
def State.readHeld (e : TensorEntry) (w n : Nat) (s : State) : List U32 × Bool × State :=
  let first := w * s.winSpan e.ts
  let last := first + n
  let r := (List.range (last / 1024 + 1)).foldl (fun (acc : List Byte × Bool × State) b =>
    let lo := max first (1024 * b)
    let hi := min last (1024 * (b + 1))
    if hi ≤ lo then acc
    else
      let off := e.blockOff .g b 0
      match tierOf off with
      | none => acc
      | some t =>
        let (x, s) := acc.2.2.readBlock unitCC t off
        (acc.1 ++ (x.pay.drop (4 * (lo - 1024 * b))).take (4 * (hi - lo)), acc.2.1 || x.poison, s)) ([], false, s)
  ((List.range n).map (field32 r.1 <| 4 * ·), r.2.1, r.2.2)

/-! ## Ready windows -/

/-- A poisoned gradient is consumed: nothing is written and the shard fails the step (R25, R64). -/
def State.consumePoison (d : DispWin) (s : State) : State :=
  let s := { s with upd := { s.upd with poisonWins := bump s.upd.poisonWins } }
  s.failShard d.ts d.step 0x2102 (BitVec.ofNat 32 (d.w.toNat * s.winSpan d.ts / 1024))

/-- A non-finite window in streaming mode is not applied (R135). -/
def State.refuseNonfinite (d : DispWin) (s : State) : State :=
  let s := { s with upd := { s.upd with nonfinRefused := bump s.upd.nonfinRefused } }
  (s.record (ev3 0x2404 unitCC (arg4 d.ts ++ arg4 d.step))).failShard d.ts d.step 0x2404 0

/-- A window that has passed R124, by the mode of its entry (R135, R136). -/
def State.accept (e : TensorEntry) (d : DispWin) (s : State) : State :=
  if e.held then
    let s := s.writeHeld e d
    let s := s.setEntry e.ts 1 (fun e => { e with status := if e.status = .haltPending then .haltPending else .scalarWait })
    { s with upd := { s.upd with heldArea := s.upd.heldArea ++ [⟨d.ts, d.w, d.step, d.poison, d.nonfinite, d.anchor, d.handed⟩] } }
  else if d.poison then s.consumePoison d
  else if d.nonfinite then s.refuseNonfinite d
  else { s with upd := { s.upd with disp := s.upd.disp ++ [{ d with ready := true, tPrime := e.t + 1 }] } }

/-- R124 for an owned window that is not an ahead window. -/
def State.admitWin (d : DispWin) (s : State) : State :=
  match s.ownerOf d.ts with
  | none => s
  | some e =>
    match admitOf e s.fence.sealedStep d.step with
    | .quarantined => { s with upd := { s.upd with skewRefusals := bump s.upd.skewRefusals } }
    | .halted => { s with upd := { s.upd with haltedWins := bump s.upd.haltedWins } }
    | .hold => { s with upd := { s.upd with disp := s.upd.disp ++ [{ d with ready := false }] } }
    | .refuse => ({ s with upd := { s.upd with skewRefusals := bump s.upd.skewRefusals } }).quarantine e d.step
    | .ready start =>
      let s := if start then s.setEntry d.ts 1 (TensorEntry.start d.step) else s
      s.accept e d

/-- The waiting windows of a shard come before R124 again, in the order in which they came. -/
def State.readmit (ts : U32) (s : State) : State :=
  let mine (d : DispWin) : Bool := d.ts == ts && !d.replica && !d.ready
  (s.upd.disp.filter mine).foldl (fun s d => s.admitWin d)
    { s with upd := { s.upd with disp := s.upd.disp.filter (fun d => !mine d) } }

/-! ## Completing a step (R125) -/

/-- Step S completes for an owned shard (R125, R318, R308). -/
def State.completeShard (e : TensorEntry) (step : U32) (skipped : Bool) (s : State) : State :=
  let s := s.protectShard e step
  let s := s.setEntry e.ts 1 (fun e => { e with
    l := step, prevL := e.l, prevT := e.t, t := if skipped then e.t else e.t + 1, p := none
    status := if e.status = .running ∨ e.status = .scalarWait then .idle else e.status })
  let s := s.sendOwnerDigest e step
  (s.freeLatches).readmit e.ts

/-- Whether the step in progress of an owned shard has completed. -/
def State.stepDone (s : State) (e : TensorEntry) (step : U32) : Bool :=
  if e.sparse then s.fence.pending && s.fence.cur == step && !(s.shardBusy e.ts step)
  else
    decide ((s.upd.written.filter (fun x => x.1 == e.ts && x.2.2 == step)).length ≥ s.windowsOf e) &&
      !(s.shardBusy e.ts step)

/-- Completion has no further condition: a step that the shard reports as failed completes too once its windows are written back
(R64, R125, R303). -/
def State.completeIfDone (ts : U32) (s : State) : State :=
  match s.ownerOf ts with
  | none => s
  | some e =>
    match e.p with
    | none => s
    | some step =>
      if e.status != .quarantined && s.stepDone e step then
        s.completeShard e step false
      else s

/-- Every owned shard whose step has completed (R125: sparse-step shards once the fence is pending). -/
def State.completeAll (s : State) : State := s.owned.foldl (fun s e => s.completeIfDone e.ts) s

/-- A window counts as written back (R125). -/
def State.countWritten (ts w step : U32) (s : State) : State :=
  if s.upd.written.contains (ts, w, step) then s
  else ({ s with upd := { s.upd with written := s.upd.written ++ [(ts, w, step)] } }).completeIfDone ts

/-! ## Hand-over of a completed owner window (R88, R124, R297, R384) -/

/-- The first G block of a window. -/
def State.firstG (s : State) (d : DispWin) : Nat := d.w.toNat * s.winSpan d.ts / 1024

/-- The class of a shard for a step: a change held for that step or an earlier one counts (R295, R296). -/
def State.classFor (s : State) (e : TensorEntry) (step : U32) : U8 :=
  match s.part.changes.find? (fun c => c.ts == e.ts && decide (c.step.toNat ≤ step.toNat)) with
  | some c => if s.stepBegun e step then e.pclass else c.cls
  | none => e.pclass

def State.wantsReplay (s : State) (e : TensorEntry) (d : DispWin) : Bool :=
  s.paired && s.classFor e d.step == 1 && !d.poison && !(d.nonfinite && !e.held)

/-- The hand-off to the continuity engine, when it has room (R297, R300). -/
def State.handOff (e : TensorEntry) (d : DispWin) (s : State) : DispWin × State :=
  if !(s.wantsReplay e d) then ({ d with handed := true }, s)
  else if s.parkRoom (4160 * ((d.g.length + 1023) / 1024)) then ({ d with handed := true }, s.sendReplayG d (s.firstG d))
  else ({ d with handed := false }, s)

def State.isAhead (s : State) (d : DispWin) : Bool := s.job.ahead.contains (d.ts, d.w) && s.job.rerun == d.step

/-- A completed owner window reaches the dispatcher. -/
def State.handOverNow (d : DispWin) (s : State) : State :=
  match s.ownerOf d.ts with
  | none => s
  | some e =>
    match admitOf e s.fence.sealedStep d.step with
    | .ready start =>
      if s.isAhead d then
        let s := if start then s.setEntry d.ts 1 (TensorEntry.start d.step) else s
        ({ s with job := { s.job with aheadWins := bump s.job.aheadWins } }).countWritten d.ts d.w d.step
      else let (d, s) := s.handOff e d; s.admitWin d
    | .hold => let (d, s) := s.handOff e d; s.admitWin d
    | _ => s.admitWin d

/-- A completed owner window whose step has no step size latched waits in its record (R128). -/
def State.handOver (d : DispWin) (s : State) : State :=
  if (s.latchOf d.step).isSome then s.handOverNow d
  else { s with upd := { s.upd with noSize := s.upd.noSize ++ [d] } }

/-! ## Bias correction (R121) -/

def biasPow (beta : U64) (t : Nat) : Nat → U64
  | 0 => 0x3FF0000000000000
  | k + 1 =>
    let r := biasPow beta (t / 2) k
    if t = 0 then 0x3FF0000000000000
    else
      let r := r64 (mulV (v64 r) (v64 r))
      if t % 2 = 1 then r64 (mulV (v64 r) (v64 beta)) else r

/-- 1 − β^t′ (R121). -/
def biasTerm (beta : U64) (t : U32) : U32 :=
  r32 (subV (v32 one32) (v32 (r32 (v64 (biasPow beta t.toNat 32)))))

end Sys2Proof.Machine
end

