-- ==== Sys2Proof/Machine/ScalarOps.lean ====
section
/-! DEFINITION. The scalar service (R97 to R102) and the anchor reduction that runs on it (R71 to R76). -/
namespace Sys2Proof.Machine
open Sys2Proof

/-! ## Operations (R97, R98) -/

def slotMaxv : U8 := 0xFF

/-- An FP64 input in the wide format: units of 2^−320, none when it sets the non-finite flag (R98). -/
def wideOf (x : U64) : Option Int :=
  match v64 x with
  | .fin neg m e =>
    match (Fv.fin neg m e).expOf with
    | none => some 0
    | some k => if k ≥ 300 then none else some (rneInt neg m (e + 320))
  | _ => none

/-- The wide value rounded once to FP64 (R97). -/
def wideResult (x : Int) : U64 := r64 (.fin (decide (x < 0)) x.natAbs (-320))

/-- The exact square of a finite FP32 value in units of 2^−320 (R98). -/
def wideSquare (g : U32) : Option Int :=
  match v32 g with
  | .fin _ m e => some ((m * m * 2 ^ (2 * e + 320).toNat : Nat) : Int)
  | _ => none

def maxI64 (a b : U64) : U64 := if a.toInt < b.toInt then b else a
def minI64 (a b : U64) : U64 := if b.toInt < a.toInt then b else a
def maxI16 (a b : U16) : U16 := if a.toInt < b.toInt then b else a

/-- Two inputs combined under an operation code (R97); flags are ORed and members added. -/
def ScalarVal.combine (op : U8) (a b : ScalarVal) : ScalarVal :=
  { wide := a.wide + b.wide
    bits := if op == 3 then maxI64 a.bits b.bits else if op == 4 then minI64 a.bits b.bits else a.bits ||| b.bits
    vec := List.zipWith maxI16 a.vec b.vec
    nonfin := a.nonfin || b.nonfin, poison := a.poison || b.poison, members := a.members + b.members }

/-- The bits a result delivers (R97, R98). -/
def ScalarVal.result (op : U8) (v : ScalarVal) : U64 :=
  if v.nonfin then 0x7FF8000000000000
  else if op == 1 || op == 2 then wideResult v.wide else v.bits

/-! ## Packets (R99) -/

def ScalarVal.body (op : U8) (v : ScalarVal) : List Byte :=
  if op == 6 then v.vec.flatMap le16
  else if op == 1 || op == 2 then padTo 128 (leBytes 80 (BitVec.ofInt 640 v.wide).toNat)
  else padTo 128 (le64 v.bits)

def scalarA (slot op : U8) (step seg : U32) (v : ScalarVal) (down : Bool) : List Byte :=
  let f := (if v.nonfin then 1 else 0) + (if v.poison then 2 else 0) + if down then 4 else 0
  [slot, op] ++ leBytes 2 f ++ le32 step ++ le32 v.members ++ le32 seg

def scalarOf (t : Trans) : ScalarVal :=
  let op := t.a8 1
  { wide := (BitVec.ofNat 640 (leNat (t.body.take 80))).toInt
    bits := field64 t.body 0
    vec := if op == 6 then (List.range 2048).map (fun j => field16 t.body (2 * j)) else []
    nonfin := (t.a16 2).getLsbD 0, poison := (t.a16 2).getLsbD 1, members := t.a32 8 }

def State.sendScalar (dst : U32) (slot op : U8) (step seg : U32) (v : ScalarVal) (down : Bool) (s : State) : State :=
  s.sendTrans opSCALAR_REDUCE dst step (scalarA slot op step seg v down) [] [] (v.body op)

/-! ## Reductions in progress (R100) -/

def ScalarRed.sameAs (slot : U8) (step seg : U32) (r : ScalarRed) : Bool := r.slot == slot && r.step == step && r.seg == seg

def State.redOf (s : State) (slot : U8) (step seg : U32) : ScalarRed :=
  (s.red.scalars.find? (ScalarRed.sameAs slot step seg)).getD { slot := slot, step := step, seg := seg }

def State.setRed (r : ScalarRed) (s : State) : State :=
  { s with red := { s.red with
      scalars := s.red.scalars.filter (fun q => !q.sameAs r.slot r.step r.seg) ++ [r] } }

/-- The folded value of a node that holds its own and one from each child. -/
def State.foldedRed (s : State) (op : U8) (r : ScalarRed) : Option ScalarVal :=
  match r.own with
  | none => none
  | some v =>
    if s.children.all (fun c => r.kids.any (·.1 == c)) then
      some ((s.children.filterMap (fun c => (r.kids.find? (·.1 == c)).map (·.2))).foldl (ScalarVal.combine op) v)
    else none

/-! ## Held skips (R139) -/

/-- The held updates of a step are skipped on a held shard. -/
def State.skipShard (e : TensorEntry) (step : U32) (s : State) : State :=
  let s := { s with upd := { s.upd with
    heldArea := s.upd.heldArea.filter (fun h => !(h.ts == e.ts && h.step == step))
    heldSkips := bump s.upd.heldSkips } }
  let s := if s.paired && e.pclass == 1 then
      s.sendRecord step { ts := e.ts, a1 := 0xFFFFFFFF, kind := 2 } else s
  s.completeShard e step true

def State.heldSkip (step : U32) (s : State) : State :=
  let s := if s.upd.skipSeen.contains step then s
    else ({ s with upd := { s.upd with skipSeen := step :: s.upd.skipSeen } }).record (ev3 0x2406 unitCC [])
  (s.owned.filter (fun e => e.held && e.p == some step)).foldl (fun s e => s.skipShard e step) s

/-! ## Delivery of a result (R100, R138, R139) -/

def State.deliverScalar (slot op : U8) (step : U32) (v : ScalarVal) (s : State) : State :=
  if s.red.resultsAt.any (fun x => x.1 == slot && x.2.1 == step) then s
  else
    let bits := v.result op
    let s := { s with red := { s.red with
      results := if h : slot.toNat < 16 then s.red.results.set slot.toNat bits else s.red.results
      resultsAt := s.red.resultsAt ++ [(slot, step, bits, op == 1 || op == 2)]
      scalarStatus := 2 } }
    let s := s.stepIrq
    if slot == 0 && bits.getLsbD 0 then s.heldSkip step else s

/-- The result goes down the tree and is delivered (R100). -/
def State.sendDown (slot op : U8) (step seg : U32) (v : ScalarVal) (s : State) : State :=
  s.children.foldl (fun s c => s.sendScalar c slot op step seg v true) s

/-! ## Anchors (R71 to R76) -/

/-- The anchor vector recorded with the last commit (R73). -/
def State.lastVector (s : State) : List (U32 × Int) :=
  match s.job.vectors.getLast? with
  | some v => v.2
  | none => []

/-- a(T, S) as installed: the table's anchor in force, else the vector's. -/
def State.anchorOf (s : State) (tensor : U32) : Int :=
  match s.upd.table.find? (fun e => tensorOf e.ts == tensor) with
  | some e => e.anchor
  | none => ((s.lastVector.find? (·.1 == tensor)).map (·.2)).getD 0

/-- The local maximum of a tensor over the owned windows completed in a step (R72). -/
def State.localMax (s : State) (step tensor : U32) : Int :=
  (s.red.done.filter (fun d => d.step == step && tensorOf d.ts == tensor)).foldl
    (fun m d => max m (max d.maxExp (d.anchor - 4))) (-32768)

def State.maxvOwn (s : State) (step : U32) (q : Nat) : ScalarVal :=
  { vec := (List.range 2048).map fun j => ofSigned16 (s.localMax step (BitVec.ofNat 32 (2048 * q + j))) }

/-- a(T, S + 1) from the job-wide maximum (R72). -/
def nextAnchor (a m : Int) : Int := if m = -32768 then a else max (-256) (min 255 (m + 4))

/-- The new anchor vector of a step's results, segment by segment (R72, R73). -/
def State.newVector (s : State) (step : U32) : List (U32 × Int) :=
  (List.range s.red.segments.toNat).flatMap fun q =>
    match s.red.anchorIn.find? (fun x => x.1 == step && x.2.1.toNat == q) with
    | some (_, _, vec) => vec.zipIdx.map fun (m, j) =>
        let t := BitVec.ofNat 32 (2048 * q + j)
        (t, nextAnchor (s.anchorOf t) (signed16 m))
    | none => []

def setAnchor (v : List (U32 × Int)) (e : TensorEntry) : TensorEntry :=
  match v.find? (·.1 == tensorOf e.ts) with
  | some x => { e with anchor := x.2 }
  | none => e

/-- The anchors of step S + 1 are installed once the commit of S and every segment are there (R73). -/
def State.installAnchors (step : U32) (s : State) : State :=
  let have_ (q : Nat) : Bool := s.red.anchorIn.any (fun x => x.1 == step && x.2.1.toNat == q)
  if decide (s.fence.committed.toNat ≥ step.toNat) && (List.range s.red.segments.toNat).all have_ &&
      decide (s.red.anchorStep.toNat ≤ step.toNat) then
    let v := s.newVector step
    let s := { s with
      upd := { s.upd with table := s.upd.table.map (setAnchor v) }
      red := { s.red with
        anchorStep := step + 1
        anchorIn := s.red.anchorIn.filter (fun x => decide (x.1.toNat > step.toNat))
        done := s.red.done.filter (fun d => decide (d.step.toNat > step.toNat)) }
      job := { s.job with vectors := (s.job.vectors ++ [(step, v)]).drop ((s.job.vectors.length + 1) - 64) } }
    s.countBytes 6 (4096 * s.red.segments.toNat)
  else s

/-- A segment result is kept and installed when complete. -/
def State.takeSegment (step seg : U32) (v : ScalarVal) (s : State) : State :=
  if s.red.anchorIn.any (fun x => x.1 == step && x.2.1 == seg) then s
  else ({ s with red := { s.red with anchorIn := s.red.anchorIn ++ [(step, seg, v.vec)] } }).installAnchors step

/-! ## The commit of the root (R18 step 10, R73) -/

/-- The commit of a step takes effect on the device (R30, R187). -/
def State.commitStep (step : U32) (s : State) : State :=
  let s := { s with fence := { s.fence with committed := step } }
  let s := s.closePasses (fun p => p.step == step)
  s.installAnchors step

/-- Whether the root holds every sealed move of a step and every anchor segment. -/
def State.rootReady (s : State) (step : U32) : Bool :=
  s.parent.isNone && !s.job.tree.isEmpty && decide (s.fence.sealedStep.toNat ≥ step.toNat) && !(s.fence.rootSealed.contains step) &&
  decide (((s.fence.kidMoves.filter (fun k => k.2.1 == step)).map (·.1)).eraseDups.length + 1 ≥ s.job.members.toNat) &&
  (List.range s.red.segments.toNat).all fun q =>
    (s.foldedRed 6 (s.redOf slotMaxv step (BitVec.ofNat 32 q))).isSome

/-- The root commits the step: the job commit and the segment results go down, and take effect here (R18, R73). -/
def State.rootCommit (step : U32) (s : State) : State :=
  if s.rootReady step then
    let vals := (List.range s.red.segments.toNat).filterMap fun q =>
      let g := BitVec.ofNat 32 q
      (s.foldedRed 6 (s.redOf slotMaxv step g)).map (fun v => (g, v))
    let s := { s with
      fence := { s.fence with
        rootSealed := s.fence.rootSealed ++ [step], kidMoves := s.fence.kidMoves.filter (fun k => k.2.1 != step) }
      red := { s.red with scalars := s.red.scalars.filter (fun r => !(r.slot == slotMaxv && r.step == step)) } }
    let s := s.fenceDown step 4 [] []
    let s := vals.foldl (fun s x => s.sendDown slotMaxv 6 step x.1 x.2) s
    let s := s.commitStep step
    vals.foldl (fun s x => s.takeSegment step x.1 x.2) s
  else s

/-- A MAXV segment moves up when it is complete; at the root it waits for the commit (R73). -/
def State.maxvUp (step : U32) (q : Nat) (s : State) : State :=
  let g := BitVec.ofNat 32 q
  let r := s.redOf slotMaxv step g
  match s.parent, s.foldedRed 6 r with
  | some p, some v => if r.sent then s else (s.setRed { r with sent := true }).sendScalar p slotMaxv 6 step g v false
  | _, _ => s

/-- The device's own maxima of a sealed step (R73). -/
def State.sendMaxv (step : U32) (s : State) : State :=
  (List.range s.red.segments.toNat).foldl (fun s q =>
    let g := BitVec.ofNat 32 q
    (s.setRed { s.redOf slotMaxv step g with own := some (s.maxvOwn step q) }).maxvUp step q) s

end Sys2Proof.Machine
end

