-- ==== Sys2Proof/Machine/ElemOps.lean ====
section
/-! DEFINITION. Update programs (R113 to R122): the instruction word, its validity, and what a program computes for an element. -/
namespace Sys2Proof.Machine
open Sys2Proof

/-! ## Element operations (R114, R117, R118, R170) -/

/-- The operation of a code on three values; none for the codes that are no element operation. -/
def elemOp (code : Nat) (a b c : Fv) : Option Fv :=
  match code with
  | 0x03 => some a
  | 0x04 => some (addV a b)
  | 0x05 => some (subV a b)
  | 0x06 => some (mulV a b)
  | 0x07 => some (fmaV a b c)
  | 0x08 => some (fmaV a b c.negate)
  | 0x09 => some (divV a b)
  | 0x0A => some (sqrtV a)
  | 0x0B => some (rsqrtV a)
  | 0x0C => some (rcpV a)
  | 0x0D => some (maxV a b)
  | 0x0E => some (minV a b)
  | 0x0F => some a.absV
  | 0x10 => some a.negate
  | 0x11 => some (signV a)
  | 0x12 => some (if a.truth then b else c)
  | 0x13 => some (boolV (ltV a b))
  | 0x14 => some (boolV (ltV a b || eqV a b))
  | 0x15 => some (boolV (eqV a b))
  | 0x16 => some (minV (maxV a b) c)
  | _ => none

/-- An FP32 operation: sources with ABSA and NEGB, one rounding (R115, R117). -/
def elem32 (code : Nat) (absa negb : Bool) (a b c : U32) : Option U32 :=
  let av := if absa then (v32 a).absV else v32 a
  let bv := if negb then (v32 b).negate else v32 b
  (elemOp code av bv (v32 c)).map r32

/-- CVT: the rounding into a format and its value as FP32 (R114, R118). -/
def cvt32 (target : Nat) (a : U32) : U32 × Rounded :=
  let r := convertTo target (v32 a)
  (r32 (valueOf target r.bits), r)

/-! ## Instruction words (R113) -/

structure PInstr where
  op : Nat
  d : Nat
  a : Nat
  b : Nat
  c : Nat
  sel : Nat
  absa : Bool
  negb : Bool
  rsv : Bool

def PInstr.ofWord (w : U32) : PInstr :=
  { op := (w.extractLsb' 26 6).toNat, d := (w.extractLsb' 22 4).toNat, a := (w.extractLsb' 17 5).toNat
    b := (w.extractLsb' 12 5).toNat, c := (w.extractLsb' 7 5).toNat, sel := (w.extractLsb' 3 4).toNat
    absa := w.getLsbD 0, negb := w.getLsbD 1, rsv := w.getLsbD 2 }

/-- How many sources an operation reads (R114). -/
def sourcesOf (op : Nat) : Nat :=
  if op = 0 || op = 1 then 0
  else if [2, 3, 0x0A, 0x0B, 0x0C, 0x0F, 0x10, 0x11, 0x17].contains op then 1
  else if [7, 8, 0x12, 0x16].contains op then 3 else 2

/-- The CVT targets of R115. -/
def cvtTargets : List Nat := [3, 4, 5, 6, 0xB, 0xC]

/-- R116 on one word; the streams stored so far tell a second STS of one stream. -/
def PInstr.ok (i : PInstr) (stored : List Nat) : Bool :=
  let n := sourcesOf i.op
  decide (i.op ≤ 0x17) && !i.rsv &&
  (n ≥ 1 || i.a == 0) && (n ≥ 2 || i.b == 0) && (n ≥ 3 || i.c == 0) &&
  (!(i.op == 0 || i.op == 2) || i.d == 0) &&
  (i.op == 1 || i.op == 2 || i.op == 0x17 || i.sel == 0) &&
  !(i.absa && (i.op == 0 || i.op == 1)) && !(i.negb && n < 2) &&
  (!(i.op == 1 || i.op == 2) || decide (i.sel ≤ 6)) &&
  (i.op != 2 || (i.sel != 3 && i.sel != 5 && !(stored.contains i.sel))) &&
  (i.op != 0x17 || cvtTargets.contains i.sel)

/-- The index of the first invalid word of a program (R116). -/
def firstBad : Nat → List Nat → List U32 → Option Nat
  | _, _, [] => none
  | n, stored, w :: ws =>
    let i := PInstr.ofWord w
    if i.ok stored then firstBad (n + 1) (if i.op = 2 then i.sel :: stored else stored) ws else some n

/-- The error word of a program, none when it is valid (R116, R146). -/
def progError (ws : List U32) : Option Nat :=
  if ws.isEmpty then some 0xFF else if ws.length > 32 then some 0x20 else firstBad 0 [] ws

/-- The streams a program loads and those it stores, in order. -/
def progLoads (ws : List U32) : List Stream :=
  (ws.filterMap fun w => let i := PInstr.ofWord w; if i.op = 1 then Stream.ofSel i.sel else none).eraseDups
def progStores (ws : List U32) : List Stream :=
  ws.filterMap fun w => let i := PInstr.ofWord w; if i.op = 2 then Stream.ofSel i.sel else none

/-! ## Running a program for one element (R110, R114, R115) -/

/-- The registers of an element and what it has stored; conversions counted by CVT, and whether one sets the non-finite flag of
the output block (R50, R53). -/
structure ElemRun where
  e : List U32
  stores : List (Stream × U32) := []
  sat : Nat := 0
  nonfin : Nat := 0
  flag : Bool := false

def srcOf (e s : List U32) (n : Nat) : U32 := if n < 16 then e.getD n 0 else s.getD (n - 16) 0

def runInstr (s : List U32) (loads : Stream → U32) (r : ElemRun) (w : U32) : ElemRun :=
  let i := PInstr.ofWord w
  let a := srcOf r.e s i.a
  let b := srcOf r.e s i.b
  let c := srcOf r.e s i.c
  if i.op = 0 then r
  else if i.op = 1 then
    match Stream.ofSel i.sel with
    | some st => { r with e := r.e.set i.d (canon32 (loads st)) }
    | none => r
  else if i.op = 2 then
    match Stream.ofSel i.sel with
    | some st => { r with stores := r.stores ++ [(st, canon32 (if i.absa then r32 (v32 a).absV else a))] }
    | none => r
  else if i.op = 0x17 then
    let x := cvt32 i.sel (if i.absa then r32 (v32 a).absV else a)
    { r with e := r.e.set i.d x.1, sat := r.sat + (if x.2.sat then 1 else 0), nonfin := r.nonfin + (if x.2.nonfin then 1 else 0)
             flag := r.flag || x.2.flag || x.2.nonfin }
  else
    match elem32 i.op i.absa i.negb a b c with
    | some v => { r with e := r.e.set i.d v }
    | none => r

def runElem (ws s : List U32) (loads : Stream → U32) : ElemRun :=
  ws.foldl (runInstr s loads) { e := List.replicate 16 0 }

/-- S0 to S15 of a window (R120, R137). -/
def scalarRegs (e : TensorEntry) (tPrime s0 s4 : U32) (held : Option U32) : List U32 :=
  let base := [s0, r32 (ofIntV tPrime.toNat), biasTerm e.beta1 tPrime, biasTerm e.beta2 tPrime, s4] ++ e.consts
  match held with
  | some v => base.set e.heldReg.toNat v
  | none => base

/-- 1 divided by the leaf count (R81, R120). -/
def leafScale (leaves : U32) : U32 := r32 (divV (v32 one32) (ofIntV leaves.toNat))

end Sys2Proof.Machine
end

