-- ==== Sys2Proof/Machine/WriteOps.lean ====
section
/-! DEFINITION. Reading and writing owned state (R111, R119, R130 to R132, R141 to R144): the reader, the run of a window, the
blocks it writes, and what every write of owned state does besides. -/
namespace Sys2Proof.Machine
open Sys2Proof

/-! ## The reader (R111) -/

/-- The block of a stream that a read uses: of a C pair the one with the greater step field, the second on a tie (R119). -/
def State.readOff (s : State) (e : TensorEntry) (st : Stream) (b : Nat) : Nat :=
  match st with
  | .c => e.blockOff .c b ((s.pairPick e 0xFFFFFFFF b).getD 1)
  | st => e.blockOff st b 0

/-- The storage codes of elements lo to hi − 1 of a stream, and whether a block read poisoned. -/
def State.readStream (unit : Nat) (e : TensorEntry) (st : Stream) (lo hi : Nat) (s : State) : List Nat × Bool × State :=
  let n := fmtMax (e.fmt st)
  if n = 0 ∨ hi ≤ lo then ([], false, s)
  else
    let r := (List.range ((hi - 1) / n - lo / n + 1)).foldl (fun (acc : List Nat × Bool × State) j =>
      let b := lo / n + j
      let off := acc.2.2.readOff e st b
      match tierOf off with
      | none => acc
      | some t =>
        let (x, s) := acc.2.2.readBlock unit t off
        let codes := (List.range (min n (e.count.toNat - b * n))).map (elemBits (e.fmt st) x.pay)
        (acc.1 ++ codes, acc.2.1 || x.poison, s)) ([], false, s)
    ((r.1.drop (lo - lo / n * n)).take (hi - lo), r.2.1, r.2.2)

/-- The covering mask of elements (R40, R45, R111): whether a state block carries the mask-present flag, so that the mask is
enforced; whether the MASK block has a bit set, where it is fetched; the bits of the elements; whether it is poisoned. -/
structure MaskRead where
  on : Bool := false
  any : Bool := false
  bits : List Bool
  poison : Bool := false

/-- The stored blocks of a stream that cover elements lo to hi − 1; of the C stream both blocks of a pair. -/
def TensorEntry.blocksOver (e : TensorEntry) (st : Stream) (lo hi : Nat) : List Nat :=
  let n := fmtMax (e.fmt st)
  if n = 0 ∨ hi ≤ lo ∨ !e.has st then []
  else ((List.range ((hi - 1) / n - lo / n + 1)).map (lo / n + ·)).flatMap fun b =>
    if st = .c then [e.blockOff .c b 0, e.blockOff .c b 1] else [e.blockOff st b 0]

/-- Whether a state block that a window's stores write carries the mask-present flag (R40, R111). -/
def State.maskFlag (s : State) (e : TensorEntry) (stores : List Stream) (lo hi : Nat) : Bool :=
  e.has .k && (stores.filter (fun st => st != .g && st != .k)).any (fun st =>
    (e.blocksOver st lo hi).any (fun off => (s.headerAt off).maskPresent))

/-- A fetch of the K block over elements, where it is due. -/
def State.fetchMask (unit : Nat) (e : TensorEntry) (on due : Bool) (lo hi : Nat) (s : State) : MaskRead × State :=
  let off := e.blockOff .k (lo / 32768) 0
  match e.has .k && due, tierOf off with
  | true, some t =>
    let (x, s) := s.readBlock unit t off
    ({ on := on, any := x.pay.any (· != 0), poison := x.poison
       bits := (List.range (hi - lo)).map (fun i => elemBits 0 x.pay (lo % 32768 + i) == 1) }, s)
  | _, _ => ({ bits := List.replicate (hi - lo) false }, s)

/-- The reader's fetch of K: where the flag is set, or the program loads K (R111). -/
def State.readMask (unit : Nat) (e : TensorEntry) (ws : List U32) (lo hi : Nat) (s : State) : MaskRead × State :=
  let on := s.maskFlag e (progStores ws) lo hi
  s.fetchMask unit e on (on || (progLoads ws).contains .k) lo hi

/-! ## The run of a window (R109 to R122, R130) -/

/-- The FP32 value a storage code stands for. -/
def codeValue (fmt code : Nat) : U32 := r32 (valueOf fmt code)

/-- The streams whose non-finite writes R144 counts and whose masked elements R130 keeps. -/
def Stream.isState : Stream → Bool
  | .w | .m | .v | .a => true
  | _ => false

/-- The storage code of a stored value, and what a masked element keeps (R130). -/
def storeCode (fmt : Nat) (st : Stream) (frozen : Bool) (old oldW : Nat) (v : U32) : Rounded :=
  if frozen then (if st = .c then convertTo fmt (v32 (codeValue 2 oldW)) else { bits := old })
  else convertTo fmt (v32 v)

/-- What the reader has read for a window. -/
structure WinRead where
  vals : List (Stream × List Nat)
  mask : MaskRead
  poison : Bool

def WinRead.code (r : WinRead) (st : Stream) (i : Nat) : Nat :=
  match r.vals.find? (·.1 == st) with
  | some v => v.2.getD i 0
  | none => 0

/-- The streams the reader fetches (R111, R130). -/
def readerStreams (ws : List U32) (on : Bool) : List Stream :=
  let base := (progLoads ws).filter (fun st => st != .g && st != .k)
  let stores := progStores ws
  if on then (base ++ stores ++ (if stores.contains .c then [Stream.w] else [])).eraseDups else base

/-- The header sectors of the C pairs over a range are read, to choose between the blocks of each (R119, R142, R215). -/
def State.readPairs (e : TensorEntry) (lo hi : Nat) (s : State) : State :=
  (e.blocksOver .c lo hi).foldl (fun s off =>
    match tierOf off, s.regionAt off with
    | some t, some r => s.readRange t (r.headerOf off) 64
    | _, _ => s) s

def State.readWindow (unit : Nat) (e : TensorEntry) (ws : List U32) (lo hi : Nat) (s : State) : WinRead × State :=
  let s := if (progLoads ws ++ progStores ws).contains .c then s.readPairs e lo hi else s
  let (mr, s) := s.readMask unit e ws lo hi
  let loadsC := (progLoads ws).contains .c
  (readerStreams ws mr.on).foldl (fun (acc : WinRead × State) st =>
    let (codes, p, s) := acc.2.readStream unit e st lo hi
    ({ acc.1 with vals := acc.1.vals ++ [(st, codes)], poison := acc.1.poison || (p && (st != .c || loadsC)) }, s))
    ({ vals := [], mask := mr, poison := false }, s)

/-- What one element stores (R114, R130, R131). -/
structure ElemOut where
  codes : List (Stream × Rounded)
  frozen : Bool
  flag : Bool
  attempt : Bool
  sat : Nat
  conv : Nat

def elemOut (e : TensorEntry) (ws sregs : List U32) (r : WinRead) (g : U32) (i : Nat) : ElemOut :=
  let bit := r.mask.bits.getD i false
  let frozen := r.mask.on && bit
  let run := runElem ws sregs (fun st => match st with
    | .g => g
    | .k => if bit then one32 else 0
    | st => codeValue (e.fmt st) (r.code st i))
  let attempt := frozen && run.stores.any (fun x =>
    x.1.isState && (convertTo (e.fmt x.1) (v32 x.2)).bits != r.code x.1 i)
  { codes := run.stores.map (fun x => (x.1, storeCode (e.fmt x.1) x.1 frozen (r.code x.1 i) (r.code .w i) x.2))
    frozen := frozen, flag := run.flag, attempt := attempt, sat := run.sat, conv := run.nonfin }

/-- The result of a window's run. -/
def runWindow (e : TensorEntry) (ws sregs : List U32) (r : WinRead) (g : List U32) (lo : Nat) : RunResult :=
  let outs := (g.zipIdx).map (fun x => elemOut e ws sregs r x.1 x.2)
  let sts := progStores ws
  let rounded (o : ElemOut) (st : Stream) : Rounded := ((o.codes.find? (·.1 == st)).map (·.2)).getD { bits := 0 }
  { stores := sts.map (fun st => (st, outs.map (fun o => (rounded o st).bits)))
    poisonOut := r.poison, maskOn := r.mask.on && (r.mask.any || r.mask.poison)
    convFlags := outs.map (·.flag)
    masked := (outs.filter (·.frozen)).length
    attempts := (outs.filter (·.attempt)).length
    trapAt := (outs.findIdx? (·.attempt)).map (· + lo)
    nonfin := outs.any (fun o => !o.frozen && o.codes.any (fun x => x.1.isState && x.2.flag))
    sat := (outs.map (fun o => o.sat + (o.codes.filter (fun x => x.2.sat)).length)).sum
    conv := (outs.map (fun o => o.conv + (o.codes.filter (fun x => x.2.nonfin)).length)).sum }

/-! ## Blocks to write (R141, R142) -/

/-- A block to be written: stream, block index, payload offset, block. -/
structure BlkWrite where
  stream : Stream
  idx : Nat
  off : Nat
  blk : Block

/-- The block of a C pair that an update writes: the smaller step field, the first on a tie (R142). -/
def State.writeOff (s : State) (e : TensorEntry) (st : Stream) (b : Nat) : Nat :=
  match st with
  | .c =>
    let s0 := s.storedStep (e.blockOff .c b 0)
    let s1 := s.storedStep (e.blockOff .c b 1)
    e.blockOff .c b (if s1.toNat < s0.toNat then 1 else 0)
  | st => e.blockOff st b 0

/-- The header of a written STATE block (R141); conv tells that a conversion of one of its elements sets the non-finite flag (R50,
R53). -/
def State.stateHeader (s : State) (e : TensorEntry) (step : U32) (st : Stream) (b off : Nat) (codes : List Nat)
    (poison mask conv : Bool) : Header :=
  let fmt := e.fmt st
  { Header.zero with
    typ := 1, fmt := BitVec.ofNat 8 fmt
    flags := setFlag (setFlag (setFlag 0 0 poison) 1 mask) 7
      (conv || codes.any (fun c => !(valueOf fmt c).isFinite))
    jt := s.job.jt, epoch := s.job.epoch, step := step, ts := e.ts, blk := BitVec.ofNat 32 b
    count := BitVec.ofNat 16 codes.length, src := s.own, dst := s.own, offset := BitVec.ofNat 64 off }

/-- The codes of a block of a window: the span condition of R141, checked at the opening (R149), puts every element of the block
inside the window, so that a whole block is written without a read of it. -/
def blockCodes (e : TensorEntry) (st : Stream) (b lo : Nat) (codes : List Nat) : List Nat :=
  let n := fmtMax (e.fmt st)
  (List.range (e.elemsIn st b)).map fun i => if lo ≤ b * n + i then codes.getD (b * n + i - lo) 0 else 0

def State.streamWrites (s : State) (e : TensorEntry) (step : U32) (lo : Nat) (r : RunResult) (x : Stream × List Nat) :
    List BlkWrite :=
  let n := fmtMax (e.fmt x.1)
  if n = 0 ∨ x.2.isEmpty then []
  else
    (List.range ((lo + x.2.length - 1) / n - lo / n + 1)).map fun j =>
      let b := lo / n + j
      let off := s.writeOff e x.1 b
      let codes := blockCodes e x.1 b lo x.2
      let conv := ((r.convFlags.drop (b * n - lo)).take (b * n + n - max lo (b * n))).any id
      ⟨x.1, b, off, (⟨s.stateHeader e step x.1 b off codes r.poisonOut r.maskOn conv, packElems (e.fmt x.1) codes⟩ : Block).seal⟩

/-- The blocks a window's result writes. -/
def State.resultWrites (s : State) (e : TensorEntry) (step : U32) (lo : Nat) (r : RunResult) : List BlkWrite :=
  r.stores.flatMap (s.streamWrites e step lo r)

/-- The window digest over blocks to be written (R307). -/
def writesDigest (l : List BlkWrite) : U64 := l.foldl (fun a x => a ^^^ blockTerm x.idx x.blk.pay) 0

/-! ## Writing owned blocks -/

/-- A block of a step is written, its digest term folded and its write noted (R141, R294, R307). -/
def State.commitWrite (e : TensorEntry) (step w : U32) (x : BlkWrite) (s : State) : State :=
  match tierOf x.off with
  | none => s
  | some t =>
    let s := s.writeBlock t x.off x.blk
    let k := (e.ts, step, x.stream, BitVec.ofNat 32 x.idx)
    let s := if e.role == 1 && !(s.part.wrote.contains k) then
        { s with part := { s.part with wrote := s.part.wrote ++ [k] } } else s
    s.foldTerm ⟨e.ts, step, e.role == 2, w, x.stream, BitVec.ofNat 32 x.idx, blockTerm x.idx x.blk.pay⟩

/-- The counts of a window's frozen elements and the trap (R131, R132). -/
def State.countFrozen (unit : Nat) (e : TensorEntry) (step : U32) (masked attempts : Nat) (trapAt : Option Nat) (s : State) : State :=
  let s := { s with upd := { s.upd with
    elemsMasked := bumpBy s.upd.elemsMasked masked, frozenAttempts := bumpBy s.upd.frozenAttempts attempts } }
  let s := s.setEntry e.ts e.role (fun e => { e with attempts := bumpBy e.attempts attempts })
  match trapAt with
  | some k =>
    if e.trap && !(s.upd.trapSeen.contains (e.ts, step)) then
      let s := { s with upd := { s.upd with trapSeen := (e.ts, step) :: s.upd.trapSeen } }
      let s := s.setEntry e.ts e.role (fun e => { e with status := .haltPending })
      s.record (ev3 0x2405 unit (arg4 e.ts ++ arg4 step ++ leBytes 8 k))
    else s
  | none => s

/-- A window writes a non-finite element to W, M, V or A (R144). -/
def State.countNonfinite (unit : Nat) (e : TensorEntry) (step : U32) (s : State) : State :=
  let s := { s with upd := { s.upd with nonfinWrites := bump s.upd.nonfinWrites } }
  let k := (tensorOf e.ts, step)
  if s.upd.nonfinSeen.contains k then s
  else ({ s with upd := { s.upd with nonfinSeen := k :: s.upd.nonfinSeen } }).record (ev3 0x240B unit (arg4 e.ts ++ arg4 step))

/-- The conversions of a write-back (R53). -/
def State.countConv (sat conv : Nat) (s : State) : State :=
  { s with chk := { s.chk with satConv := bumpBy s.chk.satConv sat, nonfinConv := bumpBy s.chk.nonfinConv conv } }

/-! ## The start of a step for a shard (R134, R295, R296) -/

/-- A class change takes effect (R295, R296). -/
def State.applyChange (e : TensorEntry) (c : ClassChange) (s : State) : State :=
  let s := { s with part := { s.part with
    changes := s.part.changes.filter (fun d => d.ts != c.ts), clsStatus := 2, clsApplied := bump s.part.clsApplied } }
  let s := (s.setEntry e.ts 1 (fun e => { e with pclass := c.cls })).record (ev3 0x3021 unitCont [])
  if c.cls == 3 && e.pclass != 3 then
    if s.paired then s.sendRecord c.step { ts := e.ts, a1 := 0xFFFFFFFF, kind := 5 } else s
  else if e.pclass == 3 && c.cls != 3 && s.paired then s.startSync { e with pclass := c.cls } c.step
  else s

/-- The stored state blocks that a MASK block covers and whose mask-present flag is not what its bits say (R40). -/
def State.staleFlags (s : State) (e : TensorEntry) (m : Block) : List Nat :=
  let kb := m.hdr.blk.toNat
  let on := m.pay.any (· != 0)
  (cutStreams.flatMap (fun st => e.blocksOver st (32768 * kb) (min e.count.toNat (32768 * (kb + 1))))).filter (fun off =>
    (s.headerAt off).crcOk && (s.headerAt off).maskPresent != on)

/-- The flags follow the mask (R40): the header alone changes, its check word verified before and regenerated after (R60). -/
def State.flagCovered (e : TensorEntry) (m : Block) (s : State) : State :=
  (s.staleFlags e m).foldl (fun s off =>
    match tierOf off, s.regionAt off with
    | some t, some r =>
      let h := s.storedHeader t r off
      s.putHeader t r off { h with flags := setFlag h.flags 1 (!h.maskPresent) }
    | _, _ => s) s

/-- A staged MASK block is installed in the K stream with the payload check word it carries (R60, R134), and the mask-present flags
of the blocks it covers follow it; a MIR partner gets it now (R306). -/
def State.installMask (e : TensorEntry) (m : StagedMask) (s : State) : State :=
  let off := e.blockOff .k m.blk.hdr.blk.toNat 0
  match tierOf off with
  | none => s
  | some t =>
    let h := { m.blk.hdr with jt := s.job.jt, epoch := s.job.epoch, src := s.own, dst := s.own, offset := BitVec.ofNat 64 off }
    let s := (s.writeCarried t off { m.blk with hdr := h }).flagCovered e m.blk
    let s := { s with upd := { s.upd with staged := s.upd.staged.filter (fun x => !(x == m)) } }
    if e.role == 1 && e.pclass == 2 && s.paired then s.sendMask { m.blk with hdr := h } off m.step else s

/-- Whether a point codes the MASK blocks of a shard: every shard, or those a FORCED point covers (R323). -/
def State.codesMasks (s : State) (c : Cut) (e : TensorEntry) : Bool :=
  !c.forced || c.pages.any (fun p => (s.coverAt (offOf p.addr)).any (·.entry.ts == e.ts))

/-- What comes before the first window of a step; false when the shard must still wait. -/
def State.beginStep (e : TensorEntry) (step : U32) (s : State) : Bool × State :=
  let first := e.role == 1 && !(s.stepBegun e step)
  let s := match s.part.changes.find? (fun c => c.ts == e.ts && decide (c.step.toNat ≤ step.toNat)) with
    | some c => if first then s.applyChange e c else s
    | none => s
  let e := ((s.upd.table.find? (fun f => f.ts == e.ts && f.role == e.role))).getD e
  let s := if first && s.paired && s.part.toSync.contains e.ts && (e.pclass == 1 || e.pclass == 2) then
      s.startSync e step else s
  if e.role == 1 && s.part.syncing.any (·.1 == e.ts) then (false, s)
  else
    let due := s.upd.staged.filter (fun m => m.ts == e.ts && m.replica == (e.role == 2) && decide (m.step.toNat ≤ step.toNat))
    if due.isEmpty then (true, s)
    else if e.role == 1 && s.adj.queue.any (fun c => c.phase == .code && s.codesMasks c e) then (false, s)
    else
      -- a mask-present flag of a protected page waits for the copy, as any other write (R321)
      let offs := due.flatMap (fun m => s.staleFlags e m.blk)
      let (wait, s) := s.mustWait offs
      if wait then (false, s) else (true, (due.foldl (fun s m => s.installMask e m) s).touchDone offs)

/-! ## Which pipeline (R112, R414) -/

/-- A conditional unit is kept out while its temperature bin equals a keep-out bin of the pattern (R414). -/
def State.keptOut (s : State) (unit pattern : Nat) : Bool :=
  let u := s.health.sumOf (BitVec.ofNat 16 unit)
  u.st == .conditional && u.keepOut.any (fun b =>
    b.volt == 0 && b.freq == 0 && b.tbin == s.tempBin (islandOfUnit unit) && (b.pattern == 0 || b.pattern.toNat == pattern))

/-- The enabled pipeline with the fewest assigned windows, the lowest number on a tie; some are excluded. -/
def State.pickPipe (s : State) (pattern : Nat) (without : List Pipe) : Option Pipe :=
  ((List.finRange 8).filter (fun p => s.upd.pipesOn.getLsbD p.val && !(without.contains p) &&
      !(s.keptOut (unitPipe p) pattern))).foldl
    (fun best p => match best with
      | none => some p
      | some q => if (s.upd.pipes[p]).queue.length < (s.upd.pipes[q]).queue.length then some p else some q) none

def State.setPipe (p : Pipe) (f : PipeState → PipeState) (s : State) : State :=
  { s with upd := { s.upd with pipes := s.upd.pipes.set p (f s.upd.pipes[p]) } }

/-- The windows of a pipeline taken out of service go back to the dispatcher (R112). -/
def State.drainPipe (p : Pipe) (s : State) : State :=
  let ws := (s.upd.pipes[p]).queue.map (·.win)
  let s := s.setPipe p (fun q => { q with queue := [] })
  { s with upd := { s.upd with disp := s.upd.disp ++ ws } }

def progOfEntry (s : State) (e : TensorEntry) : List U32 :=
  if h : e.slot.toNat < 16 then (s.upd.progs[e.slot.toNat]).words else []
def patternOf (e : TensorEntry) : Nat := (if e.cls == 1 then 0x8000 else 0x8100) + e.slot.toNat

end Sys2Proof.Machine
end

