-- ==== Sys2Proof/Machine/AdjOps.lean ====
section
/-! DEFINITION. The delta coder (R323 to R326), the chunks of a point (R327) and Tier S objects (R333 to R336). -/
namespace Sys2Proof.Machine
open Sys2Proof

/-! ## The bit stream (R325, R326) -/

/-- The low n bits of a number, least significant first. -/
def bitsLsb : Nat → Nat → List Bool
  | 0, _ => []
  | n + 1, v => (v % 2 == 1) :: bitsLsb n (v / 2)
def natOfBits : List Bool → Nat
  | [] => 0
  | b :: l => (if b then 1 else 0) + 2 * natOfBits l

/-- The leading zeros of a 32-bit word. -/
def clz32 (w : Nat) : Nat := 32 - (if w = 0 then 0 else Nat.log2 w + 1)

def literalBits (w : Nat) : List Bool :=
  let z := clz32 w
  true :: (bitsLsb 5 z ++ bitsLsb (31 - z) w)
def zeroRunBits (n : Nat) : List Bool := false :: bitsLsb 10 (n - 1)

/-- The tokens of a list of words; n counts the zero words of the run in hand. -/
def coderBits : Nat → List Nat → List Bool
  | 0, [] => []
  | n + 1, [] => zeroRunBits (n + 1)
  | n, w :: ws =>
    if w = 0 then coderBits (n + 1) ws
    else (if n = 0 then [] else zeroRunBits n) ++ literalBits w ++ coderBits 0 ws

/-- Bits packed from bit 0 of byte 0 upward. -/
def packBits : Nat → List Bool → List Byte
  | 0, _ => []
  | n + 1, l => BitVec.ofNat 8 (natOfBits (l.take 8)) :: packBits n (l.drop 8)
def bitsOfBytes (l : List Byte) : List Bool := l.flatMap (fun b => bitsLsb 8 b.toNat)

def wordsLe (l : List Byte) : List Nat := (List.range (l.length / 4)).map (fun i => fieldNat l (4 * i) 4)

/-- The coded bytes of x and whether the raw bit is set (R325). -/
def codeBlock (x : List Byte) : List Byte × Bool :=
  let bits := coderBits 0 (wordsLe x)
  let n := (bits.length + 7) / 8
  if n > 4095 then (x, true) else (packBits n bits, false)

/-- The words of a bit stream, at most k of them, and what is left of it; none when the stream is not a token sequence. -/
def decodeBits : Nat → Nat → List Bool → Option (List Nat × List Bool)
  | 0, k, l => if k = 0 then some ([], l) else none
  | fuel + 1, k, l =>
    if k = 0 then some ([], l)
    else
      match l with
      | [] => none
      | false :: r =>
        let n := natOfBits (r.take 10) + 1
        if r.length < 10 || n > k then none
        else (decodeBits fuel (k - n) (r.drop 10)).map (fun x => (List.replicate n 0 ++ x.1, x.2))
      | true :: r =>
        let z := natOfBits (r.take 5)
        if r.length < 5 + (31 - z) then none
        else
          let w := natOfBits ((r.drop 5).take (31 - z)) + 2 ^ (31 - z)
          (decodeBits fuel (k - 1) (r.drop (5 + (31 - z)))).map (fun x => (w :: x.1, x.2))

/-- The 4,096 bytes of x from coded bytes (R326): none when they decode to more or fewer than 1,024 words. -/
def decodeBlock (raw : Bool) (l : List Byte) : Option (List Byte) :=
  if raw then (if l.length = 4096 then some l else none)
  else
    match decodeBits 1024 1024 (bitsOfBytes l) with
    | some (ws, rest) => if rest.length < 8 then some (ws.flatMap (fun w => le32 (BitVec.ofNat 32 w))) else none
    | none => none

def xorBytes (a b : List Byte) : List Byte := List.zipWith (· ^^^ ·) a b

/-! ## Entries (R323, R324) -/

/-- An entry: header, descriptor, coded bytes, padded to 64. -/
def entryBytes (h : Header) (raw zeroRef : Bool) (code : List Byte) : List Byte :=
  let d := code.length + (if raw then 2 ^ 13 else 0) + (if zeroRef then 2 ^ 14 else 0)
  let n := 4 + code.length
  h.seal.bytes ++ padTo ((n + 63) / 64 * 64) (leBytes 4 d ++ code)

/-- What the coder makes of one item: its entry, or none, and whether it is raw. -/
structure Coded where
  entry : Option (List Byte)
  raw : Bool := false
  size : Nat := 0          -- header, descriptor and coded bytes

def State.entryHeader (s : State) (src : Header) (step : U32) (off : Nat) (poison : Bool) : Header :=
  let f := setFlag (setFlag (setFlag (setFlag 0 0 poison) 1 src.maskPresent) 7 src.nonfinite) 2 true
  { Header.zero with
    typ := 6, fmt := src.fmt, flags := f, jt := s.job.jt, epoch := s.job.epoch, step := step, ts := src.ts, blk := src.blk
    count := src.count, src := s.adopted, dst := s.adopted, offset := BitVec.ofNat 64 off, payCrc := src.payCrc }

/-- The entry of 4,096 bytes x. -/
def codedAs (h : Header) (zeroRef : Bool) (x : List Byte) : Coded :=
  let (c, raw) := codeBlock x
  { entry := some (entryBytes h raw zeroRef c), raw := raw, size := 68 + c.length }

/-- The offset an entry names: that of the source block, or of the first block of its pair. -/
def State.entryOff (s : State) (off : Nat) : Nat :=
  match s.coverAt off with
  | some c => if c.stream = .c then c.entry.blockOff .c c.idx 0 else off
  | none => off

/-- A page of the cut, against the base unless the point is FULL (R323). -/
def State.codePage (kind : PointKind) (p : CutPage) (s : State) : Coded × State :=
  match s.cutRegion, s.baseRegion with
  | some cr, some br =>
    let (x, s) := s.readBlock 0x0D00 .l (cr.payOff + 4096 * p.slotIx)
    let (ref, bad, s) :=
      if kind = .full then (List.replicate 4096 0, false, s)
      else
        let (y, s) := s.readBlock 0x0D00 .l (br.payOff + 4096 * p.slotIx)
        (y.pay, y.poison, s)
    let off := s.entryOff (offOf p.addr)
    if x.poison || bad then (codedAs (s.entryHeader x.hdr p.step off true) true x.pay, s)
    else
      let d := xorBytes x.pay ref
      if kind ≠ .full ∧ d.all (· == 0) then ({ entry := none }, s)
      else (codedAs (s.entryHeader x.hdr p.step off false) (kind == .full) d, s)
  | _, _ => ({ entry := none }, s)

/-- The MASK blocks of the shards a cut covers that have a bit set, read as CODE begins (R323). -/
def State.masksOf (c : Cut) (s : State) : List (Nat × Block) × State :=
  let offs := (s.owned.filter (fun e => e.has .k && s.codesMasks c e)).flatMap
    (fun e => (List.range (e.blocks .k)).map (fun b => e.blockOff .k b 0))
  offs.foldl (fun acc off =>
    match tierOf off with
    | none => acc
    | some t =>
      let (x, s) := acc.2.readBlock 0x0D00 t off
      (if x.pay.all (· == 0) then acc.1 else acc.1 ++ [(off, ⟨x.header, x.pay⟩)], s)) ([], s)

/-- A MASK block, coded against zero (R323). -/
def State.codeMask (s : State) (step : U32) (m : Nat × Block) : Coded :=
  codedAs (s.entryHeader m.2.hdr step m.1 m.2.hdr.poison) true m.2.payload

/-- The 2,048 anchors of a segment (R323). -/
def anchorBytes (v : List (U32 × Int)) (q : Nat) : List Byte :=
  (List.range 2048).flatMap fun j =>
    let t := BitVec.ofNat 32 (2048 * q + j)
    le16 (ofSigned16 (((v.find? (·.1 == t)).map (·.2)).getD (-32768)))

def State.vectorOf (s : State) (step : U32) : List (U32 × Int) :=
  match s.job.vectors.find? (·.1 == step) with
  | some v => v.2
  | none => match s.job.vectors.getLast? with | some v => v.2 | none => []

def State.codeAnchor (step : U32) (q : Nat) (s : State) : Coded :=
  let pay := anchorBytes (s.vectorOf step) q
  let h : Header := { Header.zero with
    fmt := 11, ts := 0x00FFFFFF, blk := BitVec.ofNat 32 q, count := 4096, payCrc := crc64 pay }
  { entry := some (entryBytes (s.entryHeader h step 0 false) true true pay), raw := true, size := 68 + pay.length }

/-! ## Chunks (R327) -/

/-- The items of a point in coding order: anchors of a FULL or CHAIN point, pages in layout order, MASK blocks. -/
inductive CodeItem where
  | anchor (q : Nat)
  | page (p : CutPage)
  | mask (m : Nat × Block)

def State.codeItems (s : State) (c : Cut) : List CodeItem :=
  (if c.kind = .full ∨ c.kind = .chain then (List.range s.red.segments.toNat).map .anchor else []) ++
  (c.pages.mergeSort (fun a b => decide (a.slotIx ≤ b.slotIx))).map .page ++
  c.masks.map .mask

def chunkMax : Nat := 67108864

/-- The entries of a chunk so far. -/
structure ChunkAcc where
  bytes : List Byte := []
  done : Nat := 0
  full : Bool := false

def State.codeItem (c : Cut) (i : CodeItem) (s : State) : Option Coded × Bool × State :=
  match i with
  | .anchor q => (some (s.codeAnchor c.step q), false, s)
  | .page p => let (x, s) := s.codePage c.kind p; (some x, x.entry.isNone, s)
  | .mask m => (some (s.codeMask c.step m), false, s)

/-- One item joins the chunk while it fits; the counts of R323 and R325. -/
def State.addItem (c : Cut) (acc : ChunkAcc × State) (i : CodeItem) : ChunkAcc × State :=
  if acc.1.full then acc
  else
    let (x, same, s) := acc.2.codeItem c i
    match x.bind (·.entry) with
    | none =>
      let a := if same then { s.adj with unchanged := bump s.adj.unchanged } else s.adj
      ({ acc.1 with done := acc.1.done + 1 }, { s with adj := a })
    | some e =>
      if 64 + acc.1.bytes.length + e.length > chunkMax then ({ acc.1 with full := true }, acc.2)
      else
        let raw := x.any (·.raw)
        ({ acc.1 with bytes := acc.1.bytes ++ e, done := acc.1.done + 1 },
         { s with adj := { s.adj with
            rawEntries := if raw then bump s.adj.rawEntries else s.adj.rawEntries
            entryBytes := bumpBy s.adj.entryBytes ((x.map (·.size)).getD 0) } })

def State.nextChunk (c : Cut) (s : State) : ChunkAcc × State :=
  ((s.codeItems c).drop c.coded).foldl (State.addItem c) ({}, s)

def PointKind.code : PointKind → U8
  | .full => 1 | .chain => 2 | .kdelta => 3 | .forced => 4

/-- The chunk header before its entries (R327). -/
def chunkBytes (jt : U16) (c : Cut) (entries : List Byte) : List Byte :=
  let h := [0x43, c.kind.code] ++ le16 jt ++ le32 c.seq ++ le32 c.step ++ leBytes 4 c.chunks ++ leBytes 4 (64 + entries.length) ++
    List.replicate 32 0 ++ le64 (crc64 entries)
  h ++ le32 (crc32c h) ++ entries

/-- Coding runs with the job that the cut belongs to: after a warm reset, with what the reset kept of it (R342), until no cut is
in CODE. -/
def State.withKept (f : State → State) (s : State) : State :=
  match s.adj.kept with
  | none => f s
  | some k =>
    let s' := f { s with
      job := { s.job with jt := k.jt, epoch := k.epoch }, red := { s.red with segments := k.segments }
      upd := { s.upd with table := k.table } }
    { s' with
      job := { s'.job with jt := s.job.jt, epoch := s.job.epoch }, red := { s'.red with segments := s.red.segments }
      upd := { s'.upd with table := s.upd.table }
      adj := { s'.adj with kept := if s'.adj.queue.any (fun c => c.phase == .code) then some k else none } }

/-! ## Tier S objects (R333 to R336) -/

def State.gateways (s : State) : List U32 := (s.adj.gateways.filter (· != 0)).map cnOf

def State.objectId (s : State) (p : Push) : U64 :=
  (p.jt.setWidth 64) ||| ((s.adopted.setWidth 64 &&& 0x1FFFF#64) <<< 16) ||| ((p.seq.setWidth 64 &&& 0x7FFFFFF#64) <<< 33) |||
  (((p.attempt &&& 7#8).setWidth 64) <<< 60)

/-- The image of a point: its chunks in order (R333). -/
def State.imageOf (s : State) (seq : U32) : List Byte :=
  ((s.adj.chunks.filter (·.seq == seq)).mergeSort (fun a b => decide (a.num.toNat ≤ b.num.toNat))).flatMap (·.bytes)
/-- Bytes of an image that reads of Tier N have found uncorrectable. -/
def State.imageBad (s : State) (seq : U32) (lo n : Nat) : Bool :=
  s.adj.damage.any (fun d => d.1 == seq && decide (d.2.1 < lo + n) && decide (lo < d.2.1 + d.2.2))
/-- Bytes of an image are read from Tier N (R330). What a read finds uncorrectable is a free value (notes/assumptions/3.md). -/
def State.readImage (seq : U32) (lo n : Nat) (s : State) : State :=
  let new := (Config.nandDamage s.freeCtr).toList.map (fun d => (seq, lo + d.1 % max 1 n, d.2))
  let s := { s with freeCtr := s.freeCtr + 1, adj := { s.adj with damage := s.adj.damage ++ new } }
  if s.imageBad seq lo n then
    ({ s with adj := { s.adj with uncReads := bump s.adj.uncReads } }).record (ev3 0x3211 unitCont [])
  else s

/-- A part as STORE_PUT (R334). -/
def State.partPacket (s : State) (p : Push) (n : Nat) (resend : Bool) : Trans :=
  let bytes := ((s.imageOf p.seq).drop (4096 * n)).take 4096
  let gs := s.gateways
  let g := (gs[n % max 1 gs.length]?).getD 0
  let h : Header := { Header.zero with
    typ := 6, fmt := 11, flags := setFlag (setFlag 0 0 (s.imageBad p.seq (4096 * n) bytes.length)) 8 resend, jt := p.jt
    epoch := s.job.epoch, step := p.step, count := BitVec.ofNat 16 bytes.length, src := s.adopted, dst := g }
  s.mkTrans opSTORE_PUT g p.step (le64 (s.objectId p) ++ leBytes 4 n) (leBytes 8 (4096 * n)) [] ((⟨h, bytes⟩ : Block).seal.bytes)

/-- The bytes of a part. -/
def State.partLen (s : State) (p : Push) (n : Nat) : Nat := min 4096 ((s.imageOf p.seq).length - 4096 * n)

def State.sendPart (p : Push) (n : Nat) (resend : Bool) (s : State) : State :=
  let len := s.partLen p n
  let s := ((s.countBytes 5 len).countBytes 7 len).readImage p.seq (4096 * n) len
  s.send (.trans (s.partPacket p n resend))

def State.setPush (p : Push) (s : State) : State :=
  { s with adj := { s.adj with pushes := s.adj.pushes.map (fun q => if q.seq == p.seq then p else q) } }
def State.dropPush (p : Push) (s : State) : State :=
  { s with adj := { s.adj with pushes := s.adj.pushes.filter (fun q => q.seq != p.seq) } }

/-- The Tier S pointer (R334). -/
def State.setPointer (p : Push) (s : State) : State :=
  let low := (p.parts.filter (fun x => !x.acked)).foldl (fun m x => min m x.num.toNat) p.next.toNat
  ({ s with adj := { s.adj with sPtrObj := s.objectId p, sPtrParts := p.total, sPtrLow := BitVec.ofNat 32 low } }).countBytes 6 16

/-! ## Drain fences (R338, R339) -/

/-- A point of a step exists, queued or committed, of a kind the rung names. -/
def State.drainable (s : State) (step : U32) (rung : Nat) : Bool :=
  let kindOk (k : PointKind) : Bool := k == .full || k == .chain || (rung == 1 && k == .kdelta)
  s.adj.queue.any (fun c => c.step == step && c.sealedMove && kindOk c.kind) ||
  s.adj.points.any (fun p => p.step == step && kindOk p.kind && p.jt == s.job.jt)

/-- The point has committed at the rung. -/
def State.drained (s : State) (d : Drain) : Bool :=
  s.adj.points.any (fun p => p.step == d.step && p.kind != .forced && p.jt == s.job.jt && (d.rung == 1 || p.inTierS))

def drainA (d : Drain) (bad down : Bool) (n : Nat) : List Byte :=
  [d.rung, if bad then 1 else 0, if down then 1 else 0] ++ le32 d.step ++ leBytes 4 n

/-- The result reaches the device from the root (R339). -/
def State.drainResult (d : Drain) (bad : Bool) (s : State) : State :=
  let a := s.adj
  let mine (x : Drain) : Bool := x.step == d.step && x.rung == d.rung
  let a := { a with
    drain := if a.drain.any mine then none else a.drain
    drainIn := a.drainIn.filter (fun k => !(k.1 == d.step && k.2.1 == d.rung)), drainStatus := if bad then 3 else 2 }
  let a := if bad then a else if d.rung == 1 then { a with drainedN := d.step } else { a with drainedS := d.step }
  let s := { s with adj := a }
  (s.children.foldl (fun s c => s.sendFence c d.step 6 (drainA d bad true 0) [] [] []) s).stepIrq

/-- Once the device has its own result and one from each child, the result goes up, or down from the root (R339). -/
def State.drainFold (s : State) : State :=
  match s.adj.drain with
  | none => s
  | some d =>
    let kids := s.children
    let have_ := kids.all (fun c => d.kids.any (·.1 == c))
    match d.own with
    | none => s
    | some ok =>
      if d.sent || !have_ then s
      else
        let bad := !ok || d.kids.any (fun k => !k.2.1)
        let n := 1 + (d.kids.map (fun k => k.2.2.toNat)).sum
        match s.parent with
        | some p =>
          let s := { s with adj := { s.adj with drain := some { d with sent := true } } }
          s.sendFence p d.step 6 (drainA d bad false n) [] [] []
        | none => s.drainResult d bad

/-- The device's own result: event 0x3231 when it is failed, naming the cause by the event code behind it. -/
def State.drainOwn (ok : Bool) (code : Nat) (s : State) : State :=
  match s.adj.drain with
  | none => s
  | some d =>
    if d.own.isSome then s
    else
      let s := { s with adj := { s.adj with drain := some { d with own := some ok } } }
      let s := if ok then s else s.record (ev3 0x3231 unitCont (arg4 d.step ++ [d.rung, Config.causeCode code]))
      s.drainFold

/-- A point has committed or gone: the drain fence of its step is settled. -/
def State.drainCheck (s : State) : State :=
  match s.adj.drain with
  | some d => if s.drained d then s.drainOwn true 0 else s
  | none => s
def State.drainFail (step : U32) (code : Nat) (s : State) : State :=
  match s.adj.drain with
  | some d => if d.step == step then s.drainOwn false code else s
  | none => s

end Sys2Proof.Machine
end

