-- ==== Sys2Proof/Machine/MoverOps.lean ====
section
/-! DEFINITION. The movers' channels (R345 to R357): starts, passes, the reads and writes of a pass, failures and groups. -/
namespace Sys2Proof.Machine
open Sys2Proof

def State.chan (s : State) (c : Chan) : ChanState := s.mov.chans[c]
def State.setChan (c : Chan) (f : ChanState → ChanState) (s : State) : State :=
  { s with mov := { s.mov with chans := s.mov.chans.set c (f s.mov.chans[c]) } }

/-! ## The control word (R347) -/

def ChanState.trigger (c : ChanState) : Nat := (c.control.extractLsb' 0 2).toNat
def ChanState.trigChan (c : ChanState) : Nat := (c.control.extractLsb' 2 6).toNat
def ChanState.blockMode (c : ChanState) : Bool := c.control.getLsbD 8
def ChanState.swap (c : ChanState) : Nat := (c.control.extractLsb' 9 3).toNat
def ChanState.group (c : ChanState) : U8 := c.control.extractLsb' 14 8
/-- The pause bit, or paused by the device (R352, R353). -/
def ChanState.paused (c : ChanState) : Bool := c.control.getLsbD 12 || c.control.getLsbD 13
def ChanState.pauseBit : U32 := 0x1000
def ChanState.deviceBit : U32 := 0x2000
/-- A part of the channel has started and has not ended. -/
def ChanState.started (c : ChanState) : Bool := c.partOn

/-- The addresses of pass k (R351). -/
def ChanState.srcAt (c : ChanState) (k : Nat) : U64 := c.src + BitVec.ofNat 64 k * c.srcStride
def ChanState.dstAt (c : ChanState) (k : Nat) : U64 := c.dst + BitVec.ofNat 64 k * c.dstStride
def State.ownAddr (s : State) (a : U64) : Bool := cnOfAddr a == s.own

/-! ## Refusals of a start (R348, R349) -/

/-- Whether the continuity engine owns MV56 to MV63 (R320). -/
def State.copying (s : State) : Bool := s.adj.queue.any (fun c => c.phase == .copy)
def State.ownedChan (s : State) (c : Chan) : Bool := decide (c.val ≥ 56) && s.copying

def ChanState.fieldsOk (c : ChanState) : Bool :=
  decide (c.trigger ≤ 2) && decide (c.swap ≤ 4) &&
  c.src.toNat % 64 == 0 && c.dst.toNat % 64 == 0 && c.srcStride.toNat % 64 == 0 && c.dstStride.toNat % 64 == 0 &&
  decide (64 ≤ c.len.toNat) && decide (c.len.toNat ≤ 2 ^ 40) && c.len.toNat % (if c.blockMode then 4096 else 64) == 0 &&
  decide (1 ≤ c.period.toNat) && decide (c.period.toNat ≤ 10000000)

/-- An own address: its bytes lie in one region of JT 0 or of the job. -/
def State.regionFor (s : State) (a : U64) (n : Nat) : Option Region :=
  match s.regionAt (offOf a) with
  | some r => if offOf a + n ≤ r.payOff + r.size.toNat ∧ (r.jt = 0 ∨ r.jt = s.job.jt) then some r else none
  | none => none

def State.endOk (s : State) (c : ChanState) (a : U64) (dst : Bool) : Bool :=
  if s.ownAddr a then
    match s.regionFor a c.len.toNat with
    | none => false
    | some r =>
      (!c.blockMode || (r.blockStructured && offOf a % 4096 == 0)) &&
      (!dst || ((!r.blockStructured || c.blockMode) && !(s.job.dev == .run && (r.kind == 1 || r.kind == 2))))
  else !c.blockMode

def State.passOk (s : State) (c : ChanState) (k : Nat) : Bool := s.endOk c (c.srcAt k) false && s.endOk c (c.dstAt k) true

def swapUnit (swap : Nat) : Nat := if swap = 1 then 2 else if swap = 2 ∨ swap = 4 then 4 else if swap = 3 then 8 else 1

/-- The condition of R348 that refuses a start: 1 busy, 2 field, 3 block mode with swap, 4 swap unit, 5 an address or region,
6 unbounded repeats, 7 owned by the continuity engine. -/
def State.startRefused (s : State) (c : Chan) : Option Nat :=
  let h := s.chan c
  if h.started then some 1
  else if !h.fieldsOk then some 2
  else if h.blockMode && h.swap != 0 then some 3
  else if h.len.toNat % swapUnit h.swap != 0 then some 4
  else if !((List.range (max 1 h.repeats.toNat)).all (s.passOk h)) then some 5
  else if h.repeats == 0 && h.trigger != 1 then some 6
  else if s.ownedChan c && s.job.dev == .run then some 7
  else none

/-- A refused write or start: status 7, count and event; the cause codes are not stated (notes/assumptions/3.md). A part that
runs goes on (notes/assumptions/82.md). -/
def State.refuseChan (c : Chan) (sub cause : Nat) (s : State) : State :=
  let s := s.setChan c (fun h => { h with status := 7 })
  ({ s with mov := { s.mov with refusals := bump s.mov.refusals } }).record
    (ev3 0x3400 unitCC (arg1 c.val ++ arg1 sub ++ [Config.causeCode (0x340000 + cause)]))

/-! ## Groups (R355) -/

def MovState.group (m : MovState) (g : U8) : GroupSt := ((m.groups.find? (·.1 == g)).map (·.2)).getD {}
def MovState.setGroup (g : U8) (x : GroupSt) (m : MovState) : MovState :=
  { m with groups := m.groups.filter (fun e => e.1 != g) ++ [(g, x)] }
def State.groupChans (s : State) (g : U8) : List Chan := (List.finRange 64).filter (fun c => (s.chan c).group == g)

/-- A write of the control word (R347): reserved bits read as zero, and the paused-by-device bit is read only. A channel whose
latest part failed keeps its group out of state 2 (R355). -/
def ChanState.controlOf (h : ChanState) (v : U32) : U32 := (v &&& 0x3FDFFF#32) ||| (h.control &&& ChanState.deviceBit)
def State.setControl (c : Chan) (v : U32) (s : State) : State :=
  let s := s.setChan c (fun h => { h with control := h.controlOf v })
  let h := s.chan c
  let x := s.mov.group h.group
  if h.group != 0 && x.state == 2 && h.lastOk == some false then
    ({ s with mov := s.mov.setGroup h.group { x with state := 3 } } : State).record
      (ev3 0x3402 unitCC ([h.group] ++ le32 x.issued ++ le32 x.succeeded ++ le32 x.failed))
  else s

/-- A part is issued. -/
def State.issuePart (c : Chan) (s : State) : State :=
  let g := (s.chan c).group
  let m := { s.mov with issued := bump s.mov.issued }
  let x := m.group g
  { s with mov := if g == 0 then m else m.setGroup g { x with issued := x.issued + 1, state := 1 } }

/-- The group's state once no part of it runs. -/
def State.groupEnd (g : U8) (s : State) : State :=
  let cs := s.groupChans g
  if g == 0 || cs.any (fun c => (s.chan c).started) then s
  else
    let bad := cs.any (fun c => (s.chan c).lastOk == some false)
    let x := s.mov.group g
    let s := { s with mov := s.mov.setGroup g { x with state := if bad then 3 else 2 } }
    if bad then s.record (ev3 0x3402 unitCC ([g] ++ le32 x.issued ++ le32 x.succeeded ++ le32 x.failed)) else s

/-- A part ends (R351, R354, R355). -/
def State.endPart (c : Chan) (status : U8) (s : State) : State :=
  let ok := status == 4
  let g := (s.chan c).group
  let s := s.setChan c (fun h => { h with
    status := status, partOn := false, passActive := false, heldStart := false, wantRead := false, ending := none, lastOk := some ok })
  let m := if ok then { s.mov with succeeded := bump s.mov.succeeded } else { s.mov with failed := bump s.mov.failed }
  let x := m.group g
  let x := if ok then { x with succeeded := x.succeeded + 1 } else { x with failed := x.failed + 1 }
  ({ s with mov := if g == 0 then m else m.setGroup g x } : State).groupEnd g

/-! ## The buffer (R345) -/

def bufCells : Nat := 32768
def chanReserve : Nat := 64
def chanMost : Nat := 4096

/-- A channel of MV56 to MV63 waits for cells while a point is in COPY: it goes before every other channel. -/
def State.copyFirst (s : State) (c : Chan) : Bool :=
  s.copying && decide (c.val < 56) && (List.finRange 64).any (fun d => decide (d.val ≥ 56) && (s.chan d).wantRead)

/-- Free cells that a channel may take: the rest of its reserve, and of the cells that no channel's reserve needs. -/
def State.cellRoom (s : State) (c : Chan) : Nat :=
  let h := s.chan c
  let used := (s.mov.chans.toList.map (fun k => k.cells - chanReserve)).sum
  let shared := if s.copyFirst c then 0 else bufCells - 64 * chanReserve - used
  min (chanMost - h.cells) (chanReserve - h.cells + shared)

def State.takeCellsOf (c : Chan) (n : Nat) (s : State) : State :=
  let s := s.setChan c (fun h => { h with cells := h.cells + n })
  { s with mov := { s.mov with cellsFree := s.mov.cellsFree - BitVec.ofNat 32 n } }
def State.freeCellsOf (c : Chan) (n : Nat) (s : State) : State :=
  let s := s.setChan c (fun h => { h with cells := h.cells - n })
  { s with mov := { s.mov with cellsFree := s.mov.cellsFree + BitVec.ofNat 32 n } }

/-! ## Reads and writes of a pass (R345, R349, R350) -/

/-- The tag of a channel's READ, its number, and of its WRITE, 64 above (notes/assumptions/24.md). -/
def readTag (c : Chan) : U32 := BitVec.ofNat 32 c.val
def writeTag (c : Chan) : U32 := BitVec.ofNat 32 (64 + c.val)
/-- Bytes of the pass whose reads are issued and have not come. -/
def ChanState.outstanding (h : ChanState) : Nat := h.issued - h.resume.toNat - h.buffered.length

/-- The next read of a pass is issued: up to 4 KiB, when buffer cells are free for all of it, none while the channel is paused or
its part is ending. -/
def State.issueRead (c : Chan) (s : State) : State :=
  let h := s.chan c
  let n := min 4096 (h.len.toNat - h.issued)
  if !h.passActive || h.ending.isSome then s
  else if h.paused then
    if h.outstanding = 0 ∧ h.buffered.isEmpty then s.setChan c (fun h => { h with status := 3 }) else s
  else if n = 0 then s
  else if s.cellRoom c < n / 64 then s.setChan c (fun h => { h with wantRead := true })
  else
    let a := h.srcAt h.pass.toNat + BitVec.ofNat 64 h.issued
    let s := (s.takeCellsOf c (n / 64)).setChan c (fun h => { h with issued := h.issued + n, status := 2, wantRead := false })
    if s.ownAddr a then s
    else s.sendTrans opREAD (cnOfAddr a) 0 (le32 (readTag c) ++ [BitVec.ofNat 8 (n / 64)]) (leBytes 8 (offOf a)) [] []

/-- The order in which the read engine looks at the channels: round robin, MV56 to MV63 first while a point is in COPY. -/
def State.readOrder (s : State) : List Chan :=
  let l := (List.finRange 64).map (fun i => (⟨(s.mov.rrRead + i.val) % 64, Nat.mod_lt _ (by decide)⟩ : Chan))
  if s.copying then l.filter (fun c => decide (c.val ≥ 56)) ++ l.filter (fun c => decide (c.val < 56)) else l

/-- Channels that waited for cells are served. -/
def State.serveWaiting (s : State) : State :=
  s.readOrder.foldl (fun s c =>
    if (s.chan c).wantRead then
      let s := s.issueRead c
      { s with mov := { s.mov with rrRead := (c.val + 1) % 64 } }
    else s) s

/-- The pass with number OD 34cc.0C begins, or goes on at its resume point. -/
def State.beginPass (c : Chan) (s : State) : State :=
  let h := s.chan c
  if s.passOk h h.pass.toNat then
    (s.setChan c (fun h => { h with passActive := true, status := 2, issued := h.resume.toNat, heldStart := false })).issueRead c
  else (s.refuseChan c 5 5).endPart c 7

/-- A start of a pass by action, tick or trigger: held while a pass runs, while the channel is paused, or while its engine
copies a point (R351 to R353). -/
def State.startPassOf (c : Chan) (s : State) : State :=
  let h := s.chan c
  if h.passActive || h.paused || s.ownedChan c then
    s.setChan c (fun h =>
      let h := if h.passActive || h.status != 2 then h else { h with status := if h.paused then 3 else 1 }
      if h.heldStart then { h with overruns := bump h.overruns } else { h with heldStart := true })
  else s.beginPass c

/-- The bytes of a unit rearranged by a swap code (R350). -/
def swapUnitBytes (swap : Nat) (l : List Byte) : List Byte :=
  if swap = 4 then l.drop 2 ++ l.take 2 else l.reverse
def swapBytes (swap : Nat) (l : List Byte) : List Byte :=
  if swap = 0 then l
  else
    let n := swapUnit swap
    (chunksOf (l.length / n) n l).flatMap (swapUnitBytes swap)

/-- Reads and data of a channel that go no further: the data is discarded, the cells come free. -/
def State.dropData (c : Chan) (s : State) : State :=
  let h := s.chan c
  let n := h.buffered.length
  let s := (s.freeCellsOf c h.cells).setChan c (fun h => { h with
    buffered := [], sending := 0, discarded := bumpBy h.discarded n, issued := h.resume.toNat })
  { s with mov := { s.mov with discarded := bumpBy s.mov.discarded n } }

/-- A channel fails (R354). -/
def State.failChan (c : Chan) (code : U8) (engine : Nat) (s : State) : State :=
  let s := (s.dropData c).setChan c (fun h => { h with fail := code })
  let h := s.chan c
  let s := s.record (ev3 0x3401 (0x0800 + engine) (arg1 c.val ++ [code] ++ arg4 h.pass ++ arg8 h.resume))
  (s.endPart c 5).serveWaiting

/-- The part ends as soon as the data already read is written: reads that have not come are dropped. -/
def State.endWhenWritten (c : Chan) (status code : U8) (engine : Nat) (s : State) : State :=
  let h := s.chan c
  let n := (h.buffered.length + 63) / 64
  let s := (s.freeCellsOf c (h.cells - n)).setChan c (fun h => { h with issued := h.resume.toNat + h.buffered.length })
  if h.buffered.isEmpty then (if status == 5 then s.failChan c code engine else (s.endPart c status).serveWaiting)
  else s.setChan c (fun h => { h with ending := some (status, code, engine) })

/-- The front of the buffer goes to a remote destination, 4,096 bytes at a time (R349). -/
def State.sendWrite (c : Chan) (s : State) : State :=
  let h := s.chan c
  let n := min 4096 h.buffered.length
  let a := h.dstAt h.pass.toNat + h.resume
  if n = 0 || h.sending != 0 || s.ownAddr a then s
  else
    (s.setChan c (fun h => { h with sending := n })).sendTrans opWRITE (cnOfAddr a) 0 (le32 (writeTag c)) (leBytes 8 (offOf a)) []
      (swapBytes h.swap (h.buffered.take n))

/-- Bytes at the front of the buffer have reached the destination. -/
def State.wroteChan (c : Chan) (n : Nat) (s : State) : State :=
  let s := (s.freeCellsOf c ((n + 63) / 64)).setChan c (fun h => { h with
    bytesWritten := bumpBy h.bytesWritten n, resume := h.resume + BitVec.ofNat 64 n, buffered := h.buffered.drop n, sending := 0 })
  match (s.chan c).ending with
  | some (status, code, engine) => if (s.chan c).buffered.isEmpty then s.endWhenWritten c status code engine else s.sendWrite c
  | none => (s.sendWrite c).serveWaiting

/-- Raw data read joins the buffer and is written: at once to an own tier, as WRITEs to another end (R349). -/
def State.writeChan (c : Chan) (data : List Byte) (s : State) : State :=
  let h := s.chan c
  let n := data.length
  let a := h.dstAt h.pass.toNat + h.resume
  let s := s.setChan c (fun h => { h with bytesRead := bumpBy h.bytesRead n, buffered := h.buffered ++ data })
  if s.ownAddr a then
    match tierOf (offOf a) with
    | some t => (s.writeMem t (offOf a) (swapBytes h.swap data)).wroteChan c n
    | none => s
  else s.sendWrite c

/-- Bytes of the oldest read that has not come. -/
def ChanState.nextRead (h : ChanState) : Nat := min 4096 h.outstanding
/-- Where they are read. -/
def ChanState.readAddr (h : ChanState) : U64 := h.srcAt h.pass.toNat + h.resume + BitVec.ofNat 64 h.buffered.length

/-- A raw read of an own tier completes: up to a bad sector, before which the part ends (R354). -/
def State.readRaw (c : Chan) (s : State) : State :=
  let h := s.chan c
  let n := h.nextRead
  let off := offOf h.readAddr
  match tierOf off with
  | none => s
  | some t =>
    let bad := (s.suspects t off n).filter (fun a => s.uncorrectable t a)
    let (data, unc, s) := s.readMem t off n
    if unc then
      let k := bad.foldl (fun m a => min m (sectorOf a - off)) n
      let s := if k = 0 then s else s.writeChan c (data.take k)
      s.endWhenWritten c 5 1 0
    else (s.writeChan c data).issueRead c

/-- A block read of an own tier completes (R349): a failing payload is written poisoned, a protected page is waited for. -/
def State.readBlk (c : Chan) (s : State) : State :=
  let h := s.chan c
  let off := offOf h.readAddr
  let dst := offOf (h.dstAt h.pass.toNat + h.resume)
  let (wait, w) := s.mustWait [dst]
  if wait then w
  else
    match tierOf off, tierOf dst with
    | some t, some u =>
      let (hdr, pay, s) := s.readCarried t off
      let s := (s.touchDone [dst]).writeBytes u dst hdr pay
      let s := s.setChan c (fun h => { h with bytesRead := bumpBy h.bytesRead 4096 })
      (s.wroteChan c 4096).issueRead c
    | _, _ => s

/-- The READ_RESP of a tag is taken from the internal port. -/
def State.takeResp (tag : U32) (s : State) : State :=
  match s.route.delivered.find? (fun d => match d.pk with
      | .trans t => t.op == opREAD_RESP && t.a32 0 == tag
      | .block _ => false) with
  | some d => s.takePk d.pk
  | none => s

/-- A READ_RESP arrives for a channel: the answer to its WRITE, which carries no data, or the data of its read. -/
def State.respChan (c : Chan) (status : U8) (data : List Byte) (s : State) : State :=
  let h := s.chan c
  let reads := h.outstanding != 0 && !(s.ownAddr (h.srcAt h.pass.toNat))
  if h.sending != 0 && (data.isEmpty || !reads) then
    let s := s.takeResp (writeTag c)
    if status == 0 then (s.wroteChan c h.sending).issueRead c else s.failChan c 2 1
  else if reads then
    let s := s.takeResp (readTag c)
    if status == 0 then (s.writeChan c (padTo h.nextRead (data.take h.nextRead))).issueRead c else s.failChan c 2 0
  else s.takeResp (readTag c)

/-! ## Pause by the device (R353) -/

def devChans : List Chan := (List.finRange 64).filter (fun c => decide (c.val ≥ 56))

def State.pauseDevice (s : State) : State :=
  devChans.foldl (fun s c =>
    let h := s.chan c
    if h.started && h.hostStarted then
      let s := s.setChan c (fun h => { h with
        control := h.control ||| ChanState.pauseBit ||| ChanState.deviceBit
        status := if h.passActive && h.outstanding == 0 && h.buffered.isEmpty then 3 else h.status })
      { s with mov := { s.mov with pauses := bump s.mov.pauses } }
    else s) s

/-- A channel goes on after a pause (R352). -/
def State.unpause (c : Chan) (s : State) : State :=
  let h := s.chan c
  if h.passActive then s.issueRead c
  else if h.started && h.heldStart && !(s.ownedChan c) then s.beginPass c
  else s

def State.resumeDevice (s : State) : State :=
  devChans.foldl (fun s c =>
    let h := s.chan c
    if h.control.getLsbD 13 then
      (s.setChan c (fun h => { h with control := h.control &&& ~~~ (ChanState.pauseBit ||| ChanState.deviceBit) })).unpause c
    else if h.heldStart && !h.paused then s.unpause c else s) s

end Sys2Proof.Machine
end

