-- ==== Sys2Proof/Machine/Update.lean ====
section
/-! DEFINITION. The commands of the update pipelines (R109 to R156): dispatch, write-back, parity, halts, masks, program slots and
the tensor table. -/
namespace Sys2Proof.Machine
open Sys2Proof

/-! ## Dispatch (R112, R120) -/

/-- The oldest ready window of a shard and number, with its entry of an update class. -/
def State.readyWindow (s : State) (ts w : U32) (replica : Bool) (cls : U8) : Option (DispWin × TensorEntry) :=
  match s.upd.disp.find? (fun d => d.ts == ts && d.w == w && d.replica == replica && d.ready),
      (if replica then s.replicaOf ts else s.ownerOf ts) with
  | some d, some e => if e.cls == cls then some (d, e) else none
  | _, _ => none

/-- S0 and S4 of a window: the latch and the leaf count, or what its record gave (R120, R128); none while the latch is absent. -/
def State.sizeFor (s : State) (d : DispWin) : Option (U32 × U32) :=
  if d.replica || d.roll then some (d.s0, d.s4)
  else (s.latchOf d.step).map (fun x => (x, leafScale (((s.treeOf d.ts).map (·.leaves)).getD 1)))

def State.dropDisp (d : DispWin) (s : State) : State := { s with upd := { s.upd with disp := s.upd.disp.erase d } }

def firstElem (s : State) (d : DispWin) : Nat := d.w.toNat * s.winSpan d.ts

/-- The run of a window through a pipeline: result, and whether the covering mask is poisoned (R64, R109 to R122). -/
def State.runFor (unit : Nat) (e : TensorEntry) (d : DispWin) (s : State) : RunResult × Bool × State :=
  let lo := firstElem s d
  let ws := progOfEntry s e
  let (r, s) := s.readWindow unit e ws lo (lo + d.g.length)
  (runWindow e ws (scalarRegs e d.tPrime d.s0 d.s4 d.heldVal) r d.g lo, r.mask.poison, s)

def ReplicaWin.isOf (d : DispWin) (r : ReplicaWin) : Bool := r.ts == d.ts && r.w == d.w && r.step == d.step

/-- A window goes to a pipeline and through its stages; with a poisoned mask an owner's window writes nothing (R64). -/
def State.assign (p : Pipe) (e : TensorEntry) (d : DispWin) (s : State) : State :=
  let (res, bad, s) := s.runFor (unitPipe p) e d
  if bad && !d.replica then s.consumePoison d
  else
    let res := if bad then { res with poisonOut := true } else res
    let s := s.setPipe p (fun q => { q with queue := q.queue ++ [⟨d, res⟩] })
    if d.replica then
      { s with part := { s.part with replicas := s.part.replicas.map (fun r =>
          if r.isOf d then { r with dispatched := true, firstPipe := some (BitVec.ofNat 8 p.val), firstRes := some res } else r) } }
    else s

/-- No pipeline is enabled: recorded once (R112). -/
def State.noPipe (s : State) : State :=
  if s.upd.noPipeSeen || s.upd.pipesOn != 0 then s
  else ({ s with upd := { s.upd with noPipeSeen := true } }).record (ev3 0x2409 unitCC [])

/-- A window that may start is assigned to the pipeline R112 picks; a full queue holds it. -/
def State.dispatchTo (e : TensorEntry) (d : DispWin) (s0 s4 : U32) (s : State) : State :=
  match s.pickPipe (patternOf e) [] with
  | none => s.noPipe
  | some p =>
    if (s.upd.pipes[p]).queue.length ≥ 4 then s
    else (s.dropDisp d).assign p e { d with s0 := s0, s4 := s4, tPrime := e.t + 1 }

/-- A hand-off that had no room is tried again (R300). -/
def State.retryHandOff (e : TensorEntry) (d : DispWin) (s : State) : DispWin × State :=
  if d.handed then (d, s)
  else
    let (d', s) := s.handOff e d
    (d', { s with upd := { s.upd with disp := s.upd.disp.map (fun x => if x == d then d' else x) } })

def windowDispatch (ts w : U32) (replica : Bool) (s : State) : State :=
  match s.readyWindow ts w replica 1 with
  | none => s
  | some (d, e) =>
    if e.status = .quarantined then
      { s.dropDisp d with upd := { (s.dropDisp d).upd with skewRefusals := bump s.upd.skewRefusals } }
    else if e.status = .halted then
      { s.dropDisp d with upd := { (s.dropDisp d).upd with haltedWins := bump s.upd.haltedWins } }
    else
      let (d, s) := s.retryHandOff e d
      if !d.handed then s
      else
        match s.sizeFor d with
        | none => s
        | some (s0, s4) =>
          let (ok, s) := if d.roll then (d.step == e.l + 1, s) else s.beginStep e d.step
          if ok then s.dispatchTo (((if replica then s.replicaOf ts else s.ownerOf ts)).getD e) d s0 s4 else s

/-- WINDOW_DISPATCH (R112): no effect while the window's step size, hand-off, synchronisation or pipeline is missing. -/
def execWindowDispatch (ts w : U32) (replica : Bool) (s : State) : Host.Outcome State Fault Refusal :=
  .next (windowDispatch ts w replica s)

/-! ## Write-back (R130 to R132, R141 to R144) -/

/-- What follows the written blocks of an owner's window: counts (R131, R144, R151), traces, poison (R64). -/
def State.countWindow (unit : Nat) (e : TensorEntry) (d : DispWin) (r : RunResult) (s : State) : State :=
  let s := { s with upd := { s.upd with
    winsUpdated := bump s.upd.winsUpdated, elemsUpdated := bumpBy s.upd.elemsUpdated d.g.length } }
  let s := s.setEntry e.ts e.role (fun e => { e with applied := bump e.applied })
  let s := s.countFrozen unit e d.step r.masked r.attempts r.trapAt
  let s := if r.nonfin then s.countNonfinite unit e d.step else s
  (s.countConv r.sat r.conv).traceWindow unit d.ts d.w d.step

/-- The partner's part of a write-back (R299, R305). -/
def State.tellPartner (p : Pipe) (e : TensorEntry) (d : DispWin) (ws : List BlkWrite) (s : State) : State :=
  if !s.paired || d.roll then s
  else if e.pclass == 1 then
    s.sendRecord d.step { ts := d.ts, a1 := d.w, a2 := d.s0, a3 := d.s4, held := d.heldVal, kind := 1
                          pipe := BitVec.ofNat 8 p.val, digest := writesDigest ws }
  else if e.pclass == 2 then ws.foldl (fun s x => s.sendMirror x.off) s
  else s

/-- A window rolled forward (R382): counted; with the last window of its step, L and t rise. -/
def State.rolledWindow (e : TensorEntry) (d : DispWin) (s : State) : State :=
  let s := { s with
    job := { s.job with rolled := bump s.job.rolled }
    upd := { s.upd with written := s.upd.written ++ [(d.ts, d.w, d.step)] } }
  if (s.upd.written.filter (fun x => x.1 == d.ts && x.2.2 == d.step)).length ≥ s.windowsOf e then
    s.setEntry d.ts 1 (fun e => { e with l := d.step, prevL := e.l, prevT := e.t, t := e.t + 1, p := none, status := .idle })
  else s

/-- The window counts as written back, an RPL window of a pair once its record is acknowledged (R125, R303). -/
def State.finishWindow (e : TensorEntry) (d : DispWin) (s : State) : State :=
  if d.roll then s.rolledWindow e d
  else if e.pclass == 1 && s.paired then s
  else s.countWritten d.ts d.w d.step

/-- An owner's window is written (R141). -/
def State.writeOwner (p : Pipe) (e : TensorEntry) (x : PipeWin) (s : State) : State :=
  let d := x.win
  let ws := s.resultWrites e d.step (firstElem s d) x.res
  let (wait, s) := s.mustWait (ws.map (·.off))
  if wait then s
  else
    let s := s.setPipe p (fun q => { q with queue := q.queue.erase x })
    let s := (ws.foldl (fun s b => s.commitWrite e d.step d.w b) s).touchDone (ws.map (·.off))
    let s := s.countWindow (unitPipe p) e d x.res
    let s := s.tellPartner p e d ws
    let s := if x.res.poisonOut then s.failShard d.ts d.step 0x2102 (BitVec.ofNat 32 (s.firstG d)) else s
    s.finishWindow e d

def windowWriteback (p : Pipe) (s : State) : State :=
  match (s.upd.pipes[p]).queue.find? (fun x => !x.win.replica) with
  | none => s
  | some x =>
    let gone := s.setPipe p (fun q => { q with queue := q.queue.erase x })
    match s.ownerOf x.win.ts with
    | none => gone
    | some e =>
      if e.status = .quarantined then
        { gone with upd := { gone.upd with skewRefusals := bump gone.upd.skewRefusals } }
      else if e.status = .halted then { gone with upd := { gone.upd with haltedWins := bump gone.upd.haltedWins } }
      else s.writeOwner p e x

/-- WINDOW_WRITEBACK (R141): an owner's oldest window of the pipeline; a page not yet copied holds it (R143). -/
def execWindowWriteback (pipe : Pipe) (s : State) : Host.Outcome State Fault Refusal := .next (windowWriteback pipe s)

/-! ## Parity (R145) -/

/-- Of several windows assigned to the pipeline the youngest is the one in its stages (DESIGN CHOICE: R145 names none,
notes/assumptions/71.md). -/
def pipeParity (p : Pipe) (stage : U8) (s : State) : State :=
  match (s.upd.pipes[p]).queue.getLast? with
  | none => s
  | some x =>
    let d := x.win
    match (if d.replica then s.replicaOf d.ts else s.ownerOf d.ts) with
    | none => s
    | some e =>
      let s := s.setPipe p (fun q => { q with queue := q.queue.dropLast })
      let s := { s with upd := { s.upd with reexec := bump s.upd.reexec } }
      let s := s.record (ev3 0x240A (unitPipe p) (arg1 p.val ++ [stage] ++ arg4 d.w))
      let s := s.charge { unit := unitPipe p, code := 0x240A, path := 1, pattern := patternOf e }
      s.assign ((s.pickPipe (patternOf e) [p]).getD p) e d

/-- PIPE_PARITY (R145). -/
def execPipeParity (pipe : Pipe) (stage : U8) (s : State) : Host.Outcome State Fault Refusal := .next (pipeParity pipe stage s)

/-! ## Halts (R133) -/

def State.loadRefused (s : State) : State := { s with upd := { s.upd with loadRefusals := bump s.upd.loadRefusals } }

def haltReleaseWrite (v : U32) (s : State) : State :=
  match s.ownerOf v with
  | none => s.loadRefused
  | some e =>
    match e.status with
    | .haltPending => s.setEntry v 1 (fun e => { e with status := if e.p.isSome then .running else .idle })
    | .halted => { s with upd := { s.upd with releasing := v :: s.upd.releasing } }
    | _ => s

/-- HALT_RELEASE_WRITE (R133). -/
def execHaltReleaseWrite (v : U32) (s : State) : Host.Outcome State Fault Refusal := .next (haltReleaseWrite v s)

/-! ## Mask staging (R134, R306) -/

def State.refuseMask (s : State) : State :=
  ({ s with upd := { s.upd with maskRefusals := bump s.upd.maskRefusals } }).record (ev3 0x2408 unitCC [])

/-- The conditions of R134. The header must also be a valid MASK header of the shard's K stream, its check word right (R60), else
the write is refused in the same way (DESIGN CHOICE: R134 names only the first conditions, notes/assumptions/71.md). -/
def State.maskStageOk (s : State) (e : TensorEntry) (b : Block) : Bool :=
  decide (e.l.toNat < b.hdr.step.toNat) &&
  (match e.p with | some p => decide (p.toNat < b.hdr.step.toNat) | none => true) &&
  decide (s.upd.staged.length < 256) && e.has .k && b.hdr.typ == 2 && b.hdr.valid && b.hdr.crcOk &&
  decide (b.hdr.blk.toNat < e.blocks .k)

def maskStageWrite (bytes : List Byte) (s : State) : State :=
  let b := Block.ofBytes bytes
  match s.ownerOf b.hdr.ts with
  | none => s.refuseMask
  | some e =>
    if bytes.length = 4160 ∧ s.maskStageOk e b then
      let s := { s with upd := { s.upd with staged := s.upd.staged ++ [⟨e.ts, b.hdr.step, false, b⟩] } }
      if e.pclass == 1 && s.paired then s.sendMask b (e.blockOff .k b.hdr.blk.toNat 0) b.hdr.step else s
    else s.refuseMask

/-- MASK_STAGE_WRITE (R134). -/
def execMaskStageWrite (bytes : List Byte) (s : State) : Host.Outcome State Fault Refusal := .next (maskStageWrite bytes s)

/-! ## Program slots (R146, R147) -/

def wordsOf (bytes : List Byte) : List U32 := (chunksOf (bytes.length / 4) 4 bytes).map (field32 · 0)

def State.refuseProg (slot : Fin 16) (err : Nat) (s : State) : State :=
  let p := { s.upd.progs[slot] with status := 4, errWord := BitVec.ofNat 8 err }
  ({ s with upd := { s.upd with progs := s.upd.progs.set slot p, loadRefusals := bump s.upd.loadRefusals } }).record
    (ev3 0x2400 unitCC (arg1 slot.val ++ arg1 err))

/-- STANDBY or OPENING (R147, R149, R176, R177). -/
def State.loadable (s : State) : Bool := s.job.dev == .standby || s.job.dev == .opening

/-- The error word of the bytes written to a slot; a last word cut short is an invalid word. -/
def slotError (bytes : List Byte) : Option Nat :=
  let ws := wordsOf bytes
  if bytes.length % 4 = 0 then progError ws
  else if ws.length ≥ 32 then some 0x20
  else some ((firstBad 0 [] ws).getD ws.length)

def programSlotWrite (slot : Fin 16) (bytes : List Byte) (s : State) : State :=
  if !s.loadable then s.refuseProg slot 0xFF
  else
    match slotError bytes with
    | some err => s.refuseProg slot err
    | none =>
      let p := { s.upd.progs[slot] with words := wordsOf bytes, status := 1 }
      { s with upd := { s.upd with progs := s.upd.progs.set slot p } }

/-- PROGRAM_SLOT_WRITE (R147). -/
def execProgramSlotWrite (slot : Fin 16) (bytes : List Byte) (s : State) : Host.Outcome State Fault Refusal :=
  .next (programSlotWrite slot bytes s)

/-! ## The tensor table (R148, R149, R156, R293) -/

/-- An entry of the table from its 256 bytes. Its read-only fields start at 0, P at none and the anchor at the initial one until the
opening sets them (DESIGN CHOICE: R148 does not say what they read until then, notes/assumptions/71.md). -/
def entryOf (l : List Byte) : TensorEntry :=
  let a := signed16 (field16 l 26)
  { ts := field32 l 0, role := byteAt l 4, cls := byteAt l 5, slot := byteAt l 6, mode := byteAt l 7, count := field64 l 8
    fmtM := byteAt l 16, fmtV := byteAt l 17, fmtA := byteAt l 18, fmtC := byteAt l 19
    heldSlot := byteAt l 20, heldReg := byteAt l 21, pclass := byteAt l 22, owner := byteAt l 23
    anchor := a, initAnchor := a
    baseW := field64 l 32, baseM := field64 l 40, baseV := field64 l 48, baseA := field64 l 56, baseC := field64 l 64
    baseK := field64 l 72, baseH := field64 l 80, beta1 := field64 l 88, beta2 := field64 l 96
    consts := (List.range 11).map (fun i => field32 l (104 + 4 * i)), initT := field32 l 148, t := 0, l := 0 }

def TensorEntry.streamsOk (e : TensorEntry) : Bool :=
  [Stream.m, .v, .a, .c].all (fun st => (e.base st == 0) == (e.fmt st == 0))

/-- The formats in which C may be stored (R149). -/
def TensorEntry.cOk (e : TensorEntry) : Bool := !e.has .c || [2, 3, 4, 5, 6].contains e.fmtC.toNat

/-- The conditions of R149 on a program-class entry. -/
def programOk (ws : List U32) (e : TensorEntry) : Bool :=
  !ws.isEmpty &&
  ((progLoads ws ++ progStores ws).all (fun st => st == .g || e.has st)) &&
  ((progStores ws).all (fun st => match st with
    | .m => e.fmtM == 2 || e.fmtM == 4
    | .v => e.fmtV == 2 || e.fmtV == 4
    | .a => e.fmtA == 2 || e.fmtA == 4
    | _ => true))

/-- The held fields of R149 against the slots of OD 2310.03. -/
def heldOk (slots : Vector SlotCfg 16) (e : TensorEntry) : Bool :=
  !e.held ||
  (decide (5 ≤ e.heldReg.toNat) && decide (e.heldReg.toNat ≤ 15) &&
   (e.heldSlot == 0 ||
    (match slots[e.heldSlot.toNat]? with
     | some c => c.enabled && decide (1 ≤ c.op.toNat) && decide (c.op.toNat ≤ 4)
     | none => false)))

def TensorEntry.shapeOk (e : TensorEntry) : Bool :=
  (e.role == 1 || e.role == 2) && (e.cls == 1 || e.cls == 2) && decide (e.mode.toNat < 8) &&
  decide (1 ≤ e.count.toNat) && decide (e.count.toNat ≤ 2 ^ 40) && e.streamsOk &&
  (if e.role == 2 then decide (e.owner.toNat ≤ 3) else e.owner == 0)

/-- The protection classes of R293 and R156: 1 RPL, 2 MIR, 3 FRZ. -/
def TensorEntry.classOk (e : TensorEntry) : Bool :=
  (e.pclass == 1 || e.pclass == 2 || e.pclass == 3) &&
  !(e.role == 1 && e.pclass == 1 && e.sparse) && !(e.role == 2 && e.pclass != 1) && !(e.cls == 2 && e.pclass == 1)

def State.entryOk (s : State) (before : List TensorEntry) (e : TensorEntry) : Bool :=
  e.shapeOk && e.classOk && e.cOk && heldOk s.red.slots e &&
  !(before.any (fun f => f.ts == e.ts && f.role == e.role)) &&
  (if e.cls == 1 then decide (e.slot.toNat < 16) && programOk (progOfEntry s e) e
   else decide (e.slot.toNat < s.vec.entries.length))

/-- The entries of a table, or the offset of the first bad one: a last entry of fewer than 256 bytes is bad (DESIGN CHOICE: R149
does not name it, notes/assumptions/71.md). -/
def State.parseTable (s : State) : Nat → List TensorEntry → List (List Byte) → Except Nat (List TensorEntry)
  | _, acc, [] => .ok acc
  | off, acc, l :: rest =>
    let e := entryOf l
    if l.length = 256 ∧ s.entryOk acc e then s.parseTable (off + 256) (acc ++ [e]) rest else .error off

def State.refuseTable (off : Nat) (s : State) : State :=
  let v := BitVec.ofNat 32 off
  (({ s with upd := { s.upd with tableErr := v } } : State).loadRefused).record (ev3 0x2407 unitCC (arg4 v))

def tensorTableWrite (bytes : List Byte) (s : State) : State :=
  if !s.loadable then s.refuseTable 0xFFFFFFFF
  else
    match s.parseTable 0 [] (chunksOf (bytes.length / 256 + 1) 256 bytes) with
    | .error off => s.refuseTable off
    | .ok es =>
      -- a shard that the pair does not protect yet is synchronised at its first step (R291)
      let new := es.filter (fun e => e.role == 1 && (e.pclass == 1 || e.pclass == 2) &&
        !(s.ownedPaired.any (fun f => f.ts == e.ts)) && !(s.part.toSync.contains e.ts))
      { s with upd := { s.upd with table := es }
               part := { s.part with toSync := if s.paired then s.part.toSync ++ new.map TensorEntry.ts else s.part.toSync } }

/-- TENSOR_TABLE_WRITE (R149, R156, R293). -/
def execTensorTableWrite (bytes : List Byte) (s : State) : Host.Outcome State Fault Refusal := .next (tensorTableWrite bytes s)

end Sys2Proof.Machine
end

