-- ==== Sys2Proof/Machine/Adjourn.lean ====
section
/-! DEFINITION. The commands of adjournment and the checkpoint tiers (R315 to R344). -/
namespace Sys2Proof.Machine
open Sys2Proof

/-! ## Periods (R315) -/

def State.refuseAdj (sub : U8) (v : U32) (s : State) : State :=
  ({ s with adj := { s.adj with refusals := bump s.adj.refusals } }).record (ev3 0x3240 unitCont ([sub] ++ arg4 v))

/-- M is a non-zero multiple of K when K is non-zero. -/
def periodsOk (k m : U32) : Bool := k == 0 || (m != 0 && m.toNat % k.toNat == 0)

def adjournmentConfigWrite (sub : U8) (v : U32) (s : State) : State :=
  if sub == 1 then
    if v.toNat > 10000 then s
    else if !s.loadable || !(periodsOk v s.adj.m) then s.refuseAdj sub v
    else { s with adj := { s.adj with k := v } }
  else if sub == 2 then
    if v.toNat > 1000000 then s
    else if !s.loadable || !(periodsOk s.adj.k v) then s.refuseAdj sub v
    else { s with adj := { s.adj with m := v } }
  else s

/-- ADJOURNMENT_CONFIG_WRITE (R315): a value outside the object's range changes nothing (R463). -/
def execAdjournmentConfigWrite (sub : U8) (v : U32) (s : State) : Host.Outcome State Fault Refusal :=
  .next (adjournmentConfigWrite sub v s)

/-! ## COPY (R319 to R322) -/

/-- Forced cuts next to one another become one FORCED point (R319). -/
def mergeCuts (c : Cut) (l : List Cut) : Cut :=
  l.foldl (fun c d => { c with
    pages := c.pages ++ d.pages, step := if c.step.toNat < d.step.toNat then d.step else c.step
    counters := c.counters ++ d.counters.filter (fun x => !(c.counters.any (·.1 == x.1))) }) c

def copyStart (s : State) : State :=
  if s.adj.queue.any (fun c => c.phase != .armed) then s
  else
    match s.adj.queue with
    | [] => s
    | c :: rest =>
      if !c.sealedMove then s
      else
        let more := if c.forced then rest.takeWhile (fun d => d.forced && d.sealedMove) else []
        let c := { mergeCuts c more with phase := .copy, seq := s.adj.nextSeq }
        ({ s with adj := { s.adj with queue := c :: rest.drop more.length, nextSeq := s.adj.nextSeq + 1 } }).noteBusy.pauseDevice

/-- COPY_START (R319, R353). -/
def execCopyStart (s : State) : Host.Outcome State Fault Refusal := .next (copyStart s)

def pageCopyAhead (addr : U64) (s : State) : State :=
  let off := offOf addr
  if s.upd.touchWait.contains (BitVec.ofNat 64 off) then s.copyPage off else s

/-- PAGE_COPY_AHEAD (R321): the page a writer waits for is copied for the cut in COPY. -/
def execPageCopyAhead (addr : U64) (s : State) : Host.Outcome State Fault Refusal := .next (pageCopyAhead addr s)

def copyEnd (s : State) : State :=
  match s.adj.queue.find? (fun c => c.phase == .copy) with
  | none => s
  | some c =>
    let ps := (c.pages.filter (fun p => !p.copied)).mergeSort (fun a b => decide (a.slotIx ≤ b.slotIx))
    let s := ps.foldl (fun s p => s.copyPage (offOf p.addr)) s
    let (ms, s) := s.masksOf c
    let code (d : Cut) : Cut := if d.phase = .copy then { d with phase := CutPhase.code, masks := ms } else d
    ({ s with adj := { s.adj with queue := s.adj.queue.map code } } : State).resumeDevice

/-- COPY_END (R320, R322, R323, R353): the walk copies what is left, and CODE begins. -/
def execCopyEnd (s : State) : Host.Outcome State Fault Refusal := .next (copyEnd s)

/-! ## CODE (R323 to R332) -/

/-- A point that does not fit is abandoned (R332). -/
def State.abandonPoint (c : Cut) (s : State) : State :=
  let s := { s with adj := { s.adj with
    queue := s.adj.queue.filter (fun d => d.phase != CutPhase.code), noSpace := bump s.adj.noSpace
    chunks := s.adj.chunks.filter (fun k => k.seq != c.seq)
    free := s.adj.free + BitVec.ofNat 64 c.length } }
  (s.record (ev2 0x3212 unitCont [])).drainFail c.step 0x3212

def State.startChunk (s : State) : State :=
  match s.adj.queue.find? (fun c => c.phase == .code) with
  | none => s
  | some c =>
    if s.adj.chunkBusy.isSome || !s.pwr.bothCharged then s
    else
      let (acc, s') := s.nextChunk c
      let bytes := chunkBytes s.job.jt c acc.bytes
      if bytes.length > s.adj.free.toNat then s'.abandonPoint c
      else
        let (ok, sr) := s.reserve (chunkCost bytes.length)
        if !ok then { sr with adj := { sr.adj with ledgerWaits := bump sr.adj.ledgerWaits } }
        else
          let mark (d : Cut) : Cut := if d.phase = .code then { d with busyCoded := c.coded + acc.done } else d
          { s' with
            pwr := sr.pwr
            adj := { s'.adj with
              queue := s'.adj.queue.map mark, chunkBusy := some bytes, chunkCost := BitVec.ofNat 32 (chunkCost bytes.length) } }

def chunkStart (s : State) : State := s.withKept State.startChunk

/-- CHUNK_START (R323 to R328, R332, R511, R512): waits while the ledger refuses its reservation. -/
def execChunkStart (s : State) : Host.Outcome State Fault Refusal := .next (chunkStart s)

/-- A program failure (R330): the chunk is programmed again at the next free address. The command names no channel, so the one
charged is a free value (notes/assumptions/3.md). -/
def State.programFail (bytes : List Byte) (s : State) : State :=
  let (v, s) := s.free
  let s := { s with adj := { s.adj with
    blocksRetired := bump s.adj.blocksRetired, reprogrammed := bump s.adj.reprogrammed
    ptrAddr := s.adj.ptrAddr + BitVec.ofNat 64 bytes.length } }
  (s.record (ev3 0x3210 unitCont [])).charge { unit := 0x0A00 + v.toNat % 8, code := 0x3210, path := 9 }

/-- The FULL point a point depends on: its own, or the last one. -/
def State.fullOf (s : State) (c : Cut) : U32 :=
  if c.kind = .full then c.seq
  else match (s.adj.points.filter (fun p => p.kind == .full && p.jt == s.job.jt)).getLast? with
    | some p => p.seq
    | none => 0

/-- Earlier points freed by a commit in Tier N or Tier S (R331). -/
def State.freeEarlier (kind : PointKind) (seq : U32) (jt : U16) (inS : Bool) (s : State) : State :=
  let older (p : Point) : Bool := p.jt == jt && decide (p.seq.toNat < seq.toNat)
  let s := if kind = .forced then s else s.freePoints (fun p => older p && (p.kind == .kdelta || p.kind == .forced))
  if kind = .full ∧ (inS ∨ s.gateways.isEmpty) then s.freePoints (fun p => older p && (p.kind == .full || p.kind == .chain))
  else s

/-- The point commits (R329): its record, the roles, the chain, and its push. -/
def State.commitPoint (c : Cut) (s : State) : State :=
  let p : Point := { kind := c.kind, jt := s.job.jt, seq := c.seq, step := c.step, addr := c.addr, len := BitVec.ofNat 64 c.length
                     fullSeq := s.fullOf c, inTierS := false, anchors := s.vectorOf c.step, counters := c.counters }
  let a := s.adj
  let a := { a with points := (a.points ++ [p]).drop ((a.points.length + 1) - 4096), pointsCommitted := bump a.pointsCommitted
                    queue := a.queue.filter (fun d => d.phase != .code) }
  let a := match c.kind with
    | .full => { a with fullSeen := true, chainSince := 0, chainBroken := false, baseRole := 1 - a.baseRole }
    | .chain => { a with chainSince := a.chainSince + 1, baseRole := 1 - a.baseRole }
    | _ => a
  let push := (c.kind == .full || c.kind == .chain) && !s.gateways.isEmpty
  let a := if push then { a with pushes := a.pushes ++ [({ seq := c.seq, jt := s.job.jt, step := c.step
                                                           total := BitVec.ofNat 32 ((c.length + 4095) / 4096) } : Push)] } else a
  let s := ({ s with adj := a } : State).countBytes 6 64
  let s := s.record (ev3 0x3203 unitCont (arg4 c.seq ++ [c.kind.code] ++ arg4 c.step))
  (s.freeEarlier c.kind c.seq s.job.jt false).drainCheck

def State.endChunk (ok : Bool) (s : State) : State :=
  match s.adj.chunkBusy, s.adj.queue.find? (fun c => c.phase == .code) with
  | some bytes, some c =>
    if !ok then s.programFail bytes
    else
      let n := bytes.length
      let total := (s.codeItems c).length
      let c' := { c with chunks := c.chunks + 1, coded := c.busyCoded, length := c.length + n
                         addr := if c.chunks = 0 then s.adj.ptrAddr else c.addr }
      let put (d : Cut) : Cut := if d.phase = .code then c' else d
      let s := s.release s.adj.chunkCost
      let s := ({ s with adj := { s.adj with
        chunkBusy := none, chunkCost := 0, queue := s.adj.queue.map put
        chunks := s.adj.chunks ++ [({ addr := s.adj.ptrAddr, seq := c.seq, num := BitVec.ofNat 32 c.chunks, bytes := bytes } : Chunk)]
        ptrSeq := c.seq, ptrChunks := BitVec.ofNat 32 (c.chunks + 1), ptrAddr := s.adj.ptrAddr + BitVec.ofNat 64 n
        free := s.adj.free - BitVec.ofNat 64 n } }).countBytes 4 n
      let s := s.countBytes 6 16
      if c'.coded ≥ total then s.commitPoint c' else s
  | _, _ => s

def chunkProgrammed (ok : Bool) (s : State) : State := s.withKept (State.endChunk ok)

/-- CHUNK_PROGRAMMED (R329 to R331, R333). -/
def execChunkProgrammed (ok : Bool) (s : State) : Host.Outcome State Fault Refusal := .next (chunkProgrammed ok s)

/-! ## Tier S (R333 to R337) -/

/-- The push in front, when it may run (R333, R337). -/
def State.frontPush (s : State) : Option Push :=
  match s.adj.pushes with
  | p :: _ => if s.job.dev = .run ∧ p.jt = s.job.jt ∧ ¬ p.waiting ∧ ¬ s.gateways.isEmpty then some p else none
  | [] => none

/-- Parts outstanding at the gateway of part n. -/
def State.outstandingAt (s : State) (p : Push) (n : Nat) : Nat :=
  let g := max 1 s.gateways.length
  (p.parts.filter (fun x => !x.acked && !x.failed && !x.unsent && x.num.toNat % g == n % g)).length

/-- The parts of an object that went to gateway g. -/
def partsAt (total g i : Nat) : Nat := (total + g - 1 - i) / g

def State.commitTrans (s : State) (p : Push) (g : U32) (i : Nat) : Trans :=
  s.mkTrans opSTORE_COMMIT g p.step (le64 (s.objectId p) ++ leBytes 4 (partsAt p.total.toNat s.gateways.length i)) [] [] []

/-- STORE_COMMIT goes to each gateway (R336). -/
def State.sendCommits (p : Push) (s : State) : State :=
  let p := { p with committing := true, answers := [], tries := [] }
  (s.gateways.zipIdx).foldl (fun s x => s.send (.trans (s.commitTrans p x.1 x.2))) (s.setPush p)

def Push.setPart (x : PushPart) (p : Push) : Push := { p with parts := p.parts.map (fun y => if y.num == x.num then x else y) }

def storePartSend (s : State) : State :=
  match s.frontPush with
  | none => s
  | some p =>
    let n := p.next.toNat
    if p.committing then s
    else
    match p.parts.find? (·.unsent) with
    | some x =>
      if s.outstandingAt p x.num.toNat ≥ 256 then s
      else
        let s := s.setPush (p.setPart { x with unsent := false })
        ({ s with adj := { s.adj with resent := bump s.adj.resent } }).sendPart p x.num.toNat true
    | none =>
    if decide (p.next.toNat ≥ p.total.toNat) then (if p.parts.isEmpty then s.sendCommits p else s)
    else if s.outstandingAt p n ≥ 256 then s
    else
      let p' := { p with next := p.next + 1, issued := p.issued + 1, parts := p.parts ++ [{ num := p.next }] }
      let s := (s.setPush p').setPointer p'
      ({ s with adj := { s.adj with issued := bump s.adj.issued } }).sendPart p n false

/-- STORE_PART_SEND (R334): the parts that a reset has the push send again come first (R337). -/
def execStorePartSend (s : State) : Host.Outcome State Fault Refusal := .next (storePartSend s)

/-- An attempt fails (R336): parts without an answer count as failed, so that the count of R335 holds. -/
def State.failAttempt (p : Push) (s : State) : State :=
  let lost := p.issued - p.ok - p.bad
  let a := { s.adj with failed := bumpBy s.adj.failed lost.toNat, sFailed := bump s.adj.sFailed }
  let s := ({ s with adj := a } : State).record
    (ev3 0x3221 unitCont (arg8 (s.objectId p) ++ arg4 p.issued ++ arg4 p.ok ++ arg4 (p.bad + lost)))
  if p.attempt.toNat + 1 ≥ s.adj.attempts.toNat then
    let s := s.dropPush p
    let s := ({ s with adj := { s.adj with broken := bump s.adj.broken, chainBroken := true } }).record (ev2 0x3222 unitCont [])
    s.drainFail p.step 0x3222
  else s.setPush { p with waiting := true, committing := false, parts := [], answers := [], tries := [] }

def oidOf (lo hi : U32) : U64 := (hi.setWidth 64 <<< 32) ||| lo.setWidth 64

/-- The push and part that a gateway's answer names. -/
def State.pushPart (s : State) (pk : Trans) : Option (Push × PushPart) :=
  let id := oidOf (pk.a32 0) (pk.a32 12)
  match s.adj.pushes.find? (fun p => s.objectId p == id && !p.waiting) with
  | some p => (p.parts.find? (fun x => x.num == pk.a32 4 && !x.acked && !x.failed && !x.unsent)).map (fun x => (p, x))
  | none => none

/-- Acknowledged parts below the lowest unacknowledged one need no entry. -/
def Push.prune (p : Push) : Push := { p with parts := p.parts.dropWhile (·.acked) }

def storePartAckReceive (pk : Trans) (s : State) : State :=
  let s := s.takePk (.trans pk)
  match s.pushPart pk with
  | none => s
  | some (p, x) =>
    let p' := ({ p.setPart { x with acked := true } with ok := if x.counted then p.ok else p.ok + 1 }).prune
    let s := if x.counted then s else { s with adj := { s.adj with succeeded := bump s.adj.succeeded } }
    let s := (s.setPush p').setPointer p'
    if p'.next == p'.total && p'.parts.isEmpty then s.sendCommits p' else s

/-- STORE_PART_ACK_RECEIVE (R334, R336). -/
def execStorePartAckReceive (_port : Port) (pk : Trans) (s : State) : Host.Outcome State Fault Refusal :=
  .next (storePartAckReceive pk s)

/-- A part fails (R335), and with it the attempt (R336). -/
def State.failPart (p : Push) (s : State) : State :=
  ({ s with adj := { s.adj with failed := bump s.adj.failed } }).failAttempt { p with bad := p.bad + 1 }

/-- A part is sent again, or fails after OD 3310.04 resends (R335). -/
def State.resendPart (p : Push) (x : PushPart) (s : State) : State :=
  if x.resends.toNat ≥ s.adj.partResends.toNat then s.failPart p
  else
    let s := s.setPush (p.setPart { x with resends := x.resends + 1 })
    ({ s with adj := { s.adj with resent := bump s.adj.resent } }).sendPart p x.num.toNat true

def storePartRefusalReceive (pk : Trans) (s : State) : State :=
  let s := s.takePk (.trans pk)
  match s.pushPart pk with
  | none => s
  | some (p, x) => if pk.a8 11 == 7 then s.failPart p else if pk.a8 11 == 6 then s.resendPart p x else s

/-- STORE_PART_REFUSAL_RECEIVE (R335). -/
def execStorePartRefusalReceive (_port : Port) (pk : Trans) (s : State) : Host.Outcome State Fault Refusal :=
  .next (storePartRefusalReceive pk s)

def storePartTimeout (part : U32) (s : State) : State :=
  match s.frontPush with
  | none => s
  | some p =>
    match p.parts.find? (fun x => x.num == part && !x.acked && !x.failed && !x.unsent) with
    | some x => s.resendPart p x
    | none => s

/-- STORE_PART_TIMEOUT (R335): no answer within OD 3310.03. -/
def execStorePartTimeout (part : U32) (s : State) : Host.Outcome State Fault Refusal := .next (storePartTimeout part s)

/-- The attempt commits (R336, R331). -/
def State.storeCommitted (p : Push) (s : State) : State :=
  let s := s.dropPush p
  let hold (q : Point) : Point := if q.seq == p.seq then { q with inTierS := true } else q
  let kind := ((s.adj.points.find? (·.seq == p.seq)).map (·.kind)).getD .chain
  let s := ({ s with adj := { s.adj with points := s.adj.points.map hold, sCommitted := bump s.adj.sCommitted } }).countBytes 6 64
  let s := s.record (ev3 0x3223 unitCont [])
  (if kind = .full then s.freeEarlier .full p.seq p.jt true else s).drainCheck

def storeCommitResponse (pk : Trans) (s : State) : State :=
  let s := s.takePk (.trans pk)
  let g := cnOf pk.src
  match s.adj.pushes.find? (fun p => s.objectId p == pk.a64 0 && p.committing), s.gateways.findIdx? (· == g) with
  | some p, some i =>
    let status := pk.a8 12
    if status == 0 then
      let p' := { p with answers := p.answers.filter (fun a => a.1 != g) ++ [(g, 0)] }
      if s.gateways.all (fun h => p'.answers.any (·.1 == h)) then s.storeCommitted p' else s.setPush p'
    else
      let n := ((p.tries.find? (·.1 == g)).map (·.2)).getD 0 + 1
      if n ≥ 3 then s.failAttempt p
      else
        let p' := { p with tries := p.tries.filter (fun t => t.1 != g) ++ [(g, n)] }
        (s.setPush p').send (.trans (s.commitTrans p' g i))
  | _, _ => s

/-- STORE_COMMIT_RESPONSE (R336, R331, R339). -/
def execStoreCommitResponse (_port : Port) (pk : Trans) (s : State) : Host.Outcome State Fault Refusal :=
  .next (storeCommitResponse pk s)

def storeAttemptRetry (s : State) : State :=
  match s.adj.pushes with
  | p :: _ =>
    if p.waiting && s.job.dev == .run && p.jt == s.job.jt then
      s.setPush { p with waiting := false, attempt := p.attempt + 1, next := 0, parts := [], issued := 0, ok := 0, bad := 0 }
    else s
  | [] => s

/-- STORE_ATTEMPT_RETRY (R336): 60 s after a failed attempt. -/
def execStoreAttemptRetry (s : State) : Host.Outcome State Fault Refusal := .next (storeAttemptRetry s)

/-! ## Drain fences (R338, R339) -/

def drainFenceAction (v : U64) (s : State) : State :=
  let step : U32 := v.setWidth 32
  let rung := (v.extractLsb' 32 2).toNat
  let bad := !(rung == 1 || rung == 2) || decide (step.toNat > s.fence.sealedStep.toNat) || !(s.drainable step rung) ||
    s.adj.drain.isSome
  if bad then
    ({ s with adj := { s.adj with drainStatus := 4, refusals := bump s.adj.refusals } }).record (ev3 0x3230 unitCont [])
  else
    let mine (k : U32 × U8 × U32 × Bool × U32) : Bool := k.1 == step && k.2.1.toNat == rung
    let d : Drain := { step := step, rung := BitVec.ofNat 8 rung, kids := (s.adj.drainIn.filter mine).map (fun k => k.2.2) }
    ({ s with adj := { s.adj with
        drain := some d, drainIn := s.adj.drainIn.filter (fun k => !mine k), drainStatus := 1 } } : State).drainCheck

/-- DRAIN_FENCE_ACTION (R338, R339). -/
def execDrainFenceAction (v : U64) (s : State) : Host.Outcome State Fault Refusal := .next (drainFenceAction v s)

def State.earlyDrain (step : U32) (rung : U8) (src : U32) (bad : Bool) (n : U32) (s : State) : State :=
  let other (k : U32 × U8 × U32 × Bool × U32) : Bool := !(k.1 == step && k.2.1 == rung && k.2.2.1 == src)
  { s with adj := { s.adj with drainIn := s.adj.drainIn.filter other ++ [(step, rung, src, !bad, n)] } }

/-- A child's result for the fence pending here joins it; one for another fence waits for that fence's write (R339). -/
def drainFenceReceive (pk : Trans) (s : State) : State :=
  let s := s.takePk (.trans pk)
  let rung := pk.a8 1
  let bad := pk.a8 2 == 1
  let step := pk.a32 4
  if pk.a8 3 == 1 then s.drainResult { step := step, rung := rung } bad
  else
    let src := cnOf pk.src
    match s.adj.drain with
    | some d =>
      if d.step == step && d.rung == rung then
        let d := { d with kids := d.kids.filter (fun k => k.1 != src) ++ [(src, !bad, pk.a32 8)] }
        ({ s with adj := { s.adj with drain := some d } } : State).drainFold
      else s.earlyDrain step rung src bad (pk.a32 8)
    | none => s.earlyDrain step rung src bad (pk.a32 8)

/-- DRAIN_FENCE_RECEIVE (R339). -/
def execDrainFenceReceive (_port : Port) (pk : Trans) (s : State) : Host.Outcome State Fault Refusal :=
  .next (drainFenceReceive pk s)

/-- DRAIN_FENCE_TIMEOUT (R339): OD 3200.07 has passed since the write. -/
def execDrainFenceTimeout (s : State) : Host.Outcome State Fault Refusal := .next (s.drainOwn false 0x3231)

end Sys2Proof.Machine
end

