-- ==== Sys2Proof/Machine/DetOps.lean ====
section
/-! DEFINITION. What the detector does when a port fails or falls silent: suspicions (R393 to R396) and lost agents (R404). -/
namespace Sys2Proof.Machine
open Sys2Proof

def WireEntry.wired (w : WireEntry) : Bool := !(w == {})
/-- The wiring map entry of a port, for TL0 to TL7 and FL0 to FL7. -/
def State.wireOf (s : State) (p : Port) : Option WireEntry := if h : p.val < 16 then some (s.route.wires[p.val]'h) else none

/-- A circuit entry names a peer (R276). -/
def CircuitSt.named (c : CircuitSt) : Bool := c.action == 1 || c.action == 2

/-- The expected peer of a port: serial, port and CN (R255). -/
def State.expectedPeer (s : State) (p : Port) : Option (List Byte × U8 × U32) :=
  match s.wireOf p, circOf p with
  | some w, _ => if w.wired then some (padTo 16 w.serial, w.port, cnOf w.cn) else none
  | none, some n =>
    let c := s.route.circuits[n]
    if c.named then some (padTo 16 c.serial, c.peerPort, cnOf c.cn) else none
  | none, none => none

/-- The position a CN stands for under the active substitution table (R282). -/
def State.positionOf (s : State) (cn : U32) : U32 :=
  match s.route.substActive.find? (·.2 == cn) with
  | some e => e.1
  | none => cn

/-- The position at the far end of a port. -/
def State.peerPosition (s : State) (p : Port) : Option U32 := (s.expectedPeer p).map (fun e => s.positionOf e.2.2)

/-- A job port (R393). -/
def State.jobPort (s : State) (p : Port) : Bool :=
  (s.job.dev == .opening || s.job.dev == .run) &&
  (if p.val < 8 then (s.expectedPeer p).isSome
   else match s.peerPosition p with
     | some pos => s.job.tree.any (·.1 == pos)
     | none => false)

/-- The root of the opening tree. -/
def State.root (s : State) : Option U32 := (s.job.tree.find? (fun e => e.1 == e.2)).map (·.1)
/-- The arbiters: the root and the deputy (R397). -/
def State.arbiters (s : State) : List U32 :=
  s.root.toList ++ (if s.det.deputy.getLsbD 31 then [cnOf s.det.deputy] else [])

/-- SUSPECT to both arbiters (R395, R396). -/
def State.sendSuspect (pos : U32) (p : Port) (s : State) : State :=
  s.arbiters.foldl (fun s a => s.sendFence a 0 5 ([1, 0, 0] ++ le32 pos ++ arg1 p.val) [] [] []) s

/-- No suspicion is raised while a circuit is drained or changing, or while the port is disabled by a DECLARE (R395). -/
def State.exempt (s : State) (p : Port) : Bool :=
  (s.port p).fencedOff ||
  (match circOf p with
   | some n => let st := s.route.circuits[n].state
               st == 1 || st == 3 || st == 4
   | none => false)

/-- A fabric job port suspects its peer (R395): once per peer per epoch. -/
def State.suspectPort (p : Port) (s : State) : State :=
  if p.val < 8 || !s.jobPort p || s.exempt p then s
  else
    match s.peerPosition p with
    | none => s
    | some pos =>
      if s.det.sentFor.contains pos then s
      else
        let s := { s with det := { s.det with sentFor := pos :: s.det.sentFor, suspSent := bump s.det.suspSent } }
        (s.record (ev3 0x4000 unitFault (arg1 p.val ++ arg4 pos))).sendSuspect pos p

/-- The agent of a tray link is lost (R404). -/
def State.loseAgent (p : Port) (s : State) : State :=
  if !(decide (p.val < 8)) || !s.jobPort p || (s.port p).agentLost then s
  else
    let s := s.setPort p (fun q => { q with agentLost := true })
    let s := { s with det := { s.det with agentLosses := bump s.det.agentLosses } }
    if s.det.agentAction == 0 then (s.record (ev3 0x4009 unitFault (arg1 p.val))).sendSuspect s.adopted p
    else s.record (ev1 0x4009 unitFault (arg1 p.val))

/-- A port has failed or been quarantined: its peer is suspected, or its agent lost (R395, R404). -/
def State.portGone (p : Port) (s : State) : State := if p.val < 8 then s.loseAgent p else s.suspectPort p

end Sys2Proof.Machine
end

