-- ==== Sys2Proof/Machine/HealthOps.lean ====
section
/-! DEFINITION. What retirement leaves for later (R415), and entry to STANDBY with the islands it gates (R502). -/
namespace Sys2Proof.Machine
open Sys2Proof

def State.isRetired (s : State) (unit : Nat) : Bool := decide ((s.health.sumOf (BitVec.ofNat 16 unit)).st = .retired)

/-- The units of an island that R502 can gate: a pipeline, a core, or the adder groups and banks of a reduction island. -/
def islandUnits (i : Nat) : List Nat :=
  if 25 ≤ i ∧ i ≤ 32 then [0x0100 + (i - 25)]
  else if 9 ≤ i ∧ i ≤ 24 then [0x0200 + (i - 9)]
  else if 5 ≤ i ∧ i ≤ 8 then
    (List.range 8).map (fun k => 0x0300 + 8 * (i - 5) + k) ++ (List.range 16).map (fun k => 0x0400 + 16 * (i - 5) + k)
  else []

/-- The islands whose every unit is retired. -/
def State.deadIslands (s : State) : List Nat :=
  (List.range 44).filter (fun i => !(islandUnits i).isEmpty && (islandUnits i).all s.isRetired)

/-- Classes that stay in service, with an alarm, until the next STANDBY (R415). -/
def waitsStandby (unit : U16) : Bool := [0x05, 0x06, 0x08, 0x09, 0x0A, 0x0C, 0x0D].contains (unit.toNat / 256)
/-- Classes out of service at the next epoch install. -/
def waitsEpoch (unit : U16) : Bool := [0x03, 0x04].contains (unit.toNat / 256)

/-- The service flag at an entry to STANDBY, and its event (R415). -/
def State.serviceAtStandby (s : State) : State :=
  let due := s.health.deferred.any waitsStandby
  let s := { s with health := { s.health with
    service := if due then 1 else s.health.service
    deferred := s.health.deferred.filter (fun u => !waitsStandby u) } }
  if s.health.service != 0 then s.record (ev2 0x4106 unitFault []) else s

/-- STANDBY is entered (R9, R415, R502). -/
def State.enterStandby (s : State) : State :=
  let s := (s.setDev .standby).serviceAtStandby
  { s with pwr := { s.pwr with gated := s.deadIslands } }

/-- Retired adder groups and banks go out of service at an epoch install: 16 open windows for each bank (R415). -/
def State.retireAtEpoch (s : State) : State :=
  let banks := (s.health.deferred.filter (fun u => u.toNat / 256 == 0x04)).length
  { s with
    red := { s.red with openLimitLoss := s.red.openLimitLoss + 16 * banks }
    health := { s.health with deferred := s.health.deferred.filter (fun u => !waitsEpoch u) } }

end Sys2Proof.Machine
end

