-- ==== Sys2Proof/Machine/ReplicaOps.lean ====
section
/-! DEFINITION. The partner's side of replay and mirroring (R301 to R312): the log, replica windows, verdicts, digests, and what a
change of the pair does. -/
namespace Sys2Proof.Machine
open Sys2Proof

/-! ## Pairing (R286 to R290) -/

/-- The place of a CN in OD 3000.04, when its valid bit is set. -/
def State.ownerIx (s : State) (cn : U32) : Option (Fin 4) :=
  (List.finRange 4).find? (fun i => (s.part.owners[i]).valid && cnOf (s.part.owners[i]).cn == cn)

def ownerEntryOf (l : List Byte) : OwnerEntry :=
  { cn := cnOf (field32 l 0), valid := (field32 l 0).getLsbD 31, region := field16 l 4, delta := field64 l 8 }
def ownersOf (l : List OwnerEntry) : Vector OwnerEntry 4 := Vector.ofFn (fun i => (l[i.val]?).getD {})

/-- A PAIR_REQ leaves (R288). -/
def State.sendPairReq (s : State) : State :=
  ({ s with part := { s.part with asked := true } } : State).sendTrans opDIGEST s.part.partner 0 [0, 0, 0, 0, 3] (le64 s.part.tags) [] []

/-- What the pair leaves behind when the partner changes: nothing of the old pair is owed any more. -/
def PartState.unpair (p : PartState) : PartState :=
  { p with retained := [], syncing := [], repairFor := [], ackedSteps := [], asked := false }

/-- A partner CN takes effect (R288). -/
def State.applyPartner (v : U32) (s : State) : State :=
  let p := cnOf v
  let named := v.getLsbD 31
  let new := p != s.part.partner || named != s.part.named
  let s := { s with part := { (if new then s.part.unpair else s.part) with partner := p, named := named } }
  if !named then { s with part := { s.part with pair := .none_ } }
  else if new || !s.paired then ({ s with part := { s.part with pair := .requesting } } : State).sendPairReq
  else s
def State.applyDelta (v : U64) (s : State) : State := { s with part := { s.part with delta := v } }
def State.applyOwners (l : List OwnerEntry) (s : State) : State := { s with part := { s.part with owners := ownersOf l } }

/-- The writes held in RUN take effect at a bank swap (R288). -/
def State.applyHeldPartner (s : State) : State :=
  let s := match s.part.heldDelta with | some v => s.applyDelta v | none => s
  let s := match s.part.heldOwners with | some l => s.applyOwners l | none => s
  let s := match s.part.heldPartner with
    | some (c, n) => s.applyPartner (if n then c ||| 0x80000000#32 else c)
    | none => s
  { s with part := { s.part with heldPartner := none, heldDelta := none, heldOwners := none } }

/-- Pairing is refused or unanswered (R288): cause 1 PAIR_REFUSE, 2 no answer. -/
def State.pairFailed (cause : Nat) (s : State) : State :=
  let s := { s with part := { s.part with pair := .refused, asked := false } }
  (s.record (ev3 0x3002 unitCont (arg4 s.part.partner ++ arg1 cause))).noteNoPartner

/-- Two tag words are correlated (R289). -/
def correlatedTags (a b : U64) : Bool :=
  (List.range 4).any fun i =>
    let x := field16 (le64 a) (2 * i)
    let y := field16 (le64 b) (2 * i)
    x == 0 || y == 0 || x == y

/-- Pairing succeeds (R288, R289, R291). -/
def State.pairOk (tags : U64) (s : State) : State :=
  let corr := correlatedTags s.part.tags tags
  let s := { s with part := { s.part with
    partnerTags := tags, pair := if corr then .correlated else .paired, asked := false, toSync := s.ownedPaired.map TensorEntry.ts } }
  let s := s.record (ev3 0x3000 unitCont (arg4 s.part.partner ++ arg8 s.part.tags ++ arg8 tags))
  if corr then s.record (ev2 0x3001 unitCont (arg8 s.part.tags ++ arg8 tags)) else s

/-! ## The replay log (R311) -/

def State.slotNo (s : State) (step : U32) : Nat := step.toNat % max 1 s.part.depthNow.toNat

/-- The payload offset of block i of the slot of a step. -/
def State.logOff (s : State) (ix : Fin 4) (step : U32) (i : Nat) : Option Nat :=
  (s.mem.regions.find? (fun r => r.id == (s.part.owners[ix]).region && r.kind == 8)).map
    (fun r => r.payOff + 4096 * (s.slotNo step * s.slotBlocks ix + i))
/-- The place of a G block within a slot. -/
def State.gPlace (s : State) (ix : Fin 4) (ts : U32) (b : Nat) : Nat :=
  (((s.logEntries ix).takeWhile (fun e => e.ts != ts)).map TensorEntry.gBlocks).sum + b
/-- The number of an entry among those of its owner. -/
def State.recPlace (s : State) (ix : Fin 4) (ts : U32) : Nat := ((s.logEntries ix).takeWhile (fun e => e.ts != ts)).length

def State.logSlot (s : State) (ix : Fin 4) (step : U32) : Option LogSlot :=
  s.part.logSlots.find? (fun l => l.owner == ix.val && l.slot == s.slotNo step)

/-- The slot of a step is opened for it; none when it holds an incomplete other step (R301, R311). -/
def State.openSlot (ix : Fin 4) (step : U32) (s : State) : Option State :=
  let fresh : LogSlot := { owner := ix.val, slot := s.slotNo step, step := step, complete := false, poisoned := false }
  match s.logSlot ix step with
  | none => some (s.setSlot fresh)
  | some l =>
    if l.step = step then some s
    else if l.complete then
      let mine (ts : U32) : Bool := (s.logEntries ix).any (·.ts == ts)
      some (({ s with part := { s.part with
        logRecs := s.part.logRecs.filter (fun r => !(mine r.ts && r.step == l.step))
        loggedBlks := s.part.loggedBlks.filter (fun b => !(mine b.1 && b.2.1 == l.step)) } }).setSlot fresh)
    else none

/-- The 64 bytes of a step record (R311; the places of its values are the model's, notes/assumptions/22.md). -/
def LogRec.bytes (r : LogRec) : List Byte :=
  padTo 64 (le32 r.s0 ++ le32 r.s4 ++ le32 (r.held.getD 0) ++ [(if r.held.isSome then 1 else 0) ||| (if r.skipped then 2 else 0)])

/-- A step record enters the log and its block of the region. -/
def State.putRec (ix : Fin 4) (r : LogRec) (s : State) : State :=
  let s := { s with part := { s.part with logRecs := s.part.logRecs ++ [r] } }
  let n := s.recPlace ix r.ts
  match s.logOff ix r.step (s.logGs ix + n / 64) with
  | none => s
  | some off =>
    match tierOf off with
    | none => s
    | some t =>
      -- a block that holds records of the step already is written in part: its poison stays (R66)
      let (old, bad, s) := if (s.storedStep off) == r.step then
          let (x, s) := s.readBlock unitCont t off
          (x.pay, x.poison, s)
        else (List.replicate 4096 0, false, s)
      let pay := old.take (64 * (n % 64)) ++ r.bytes ++ old.drop (64 * (n % 64) + 64)
      let held := min 64 ((s.logEntries ix).length - n / 64 * 64)
      let h : Header := { Header.zero with
        typ := 4, fmt := 2, flags := setFlag 0x20 0 bad, jt := s.job.jt, epoch := s.job.epoch, step := r.step, ts := 0x00FFFFFF
        blk := BitVec.ofNat 32 (n / 64), count := BitVec.ofNat 16 (16 * held), src := s.own, dst := s.own
        offset := BitVec.ofNat 64 off }
      s.writeBlock t off ⟨h, pay⟩

/-- A G block is written to its place in the log with the check word it carries. -/
def State.putG (ix : Fin 4) (b : Block) (s : State) : State :=
  let k := (b.hdr.ts, b.hdr.step, b.hdr.blk)
  let ks := if s.part.loggedBlks.contains k then s.part.loggedBlks else s.part.loggedBlks ++ [k]
  let s := { s with part := { s.part with loggedBlks := ks } }
  match s.logOff ix b.hdr.step (s.gPlace ix b.hdr.ts b.hdr.blk.toNat) with
  | none => s
  | some off => match tierOf off with | none => s | some t => s.writeCarried t off b

/-! ## Refusals (R301) -/

/-- A refused packet: counted, the event once for each source or each shard of an epoch. -/
def State.refuseSource (cn : U32) (s : State) : State :=
  let s := { s with part := { s.part with refusals := bump s.part.refusals } }
  if s.part.seenSrc.contains cn then s
  else ({ s with part := { s.part with seenSrc := cn :: s.part.seenSrc } }).record (ev3 0x3016 unitCont [])
def State.refuseShard (ts : U32) (s : State) : State :=
  let s := { s with part := { s.part with refusals := bump s.part.refusals } }
  if s.part.seenShard.contains ts then s
  else ({ s with part := { s.part with seenShard := ts :: s.part.seenShard } }).record (ev3 0x3016 unitCont [])
def State.refuseQuiet (s : State) : State := { s with part := { s.part with refusals := bump s.part.refusals } }
/-- A packet of a step above a failed one (R26). -/
def State.refuseStep (s : State) : State := { s with red := { s.red with stepRefusals := bump s.red.stepRefusals } }

def State.dropped (s : State) (cn ts : U32) : Bool := s.part.drops.any (fun d => d.1 == cn && d.2.1 == ts)

/-- Acknowledgements of R300. -/
def State.ackReplay (h : Header) (s : State) : State := s.sendAck (cnOf h.src) h.step h.ts h.blk 1 opREPLAY_G 0 h.contrib
def State.ackRecord (dst step ts w : U32) (s : State) : State := s.sendAck dst step ts w 0 opREPLAY_G 0 0
def mirrorKey (off : U64) : U32 := (off >>> 12).setWidth 32
def State.ackMirror (h : Header) (s : State) : State :=
  s.sendAck (cnOf h.src) h.step h.ts h.blk 1 opMIRROR_P 0 (mirrorKey h.offset)

/-! ## Replica windows (R302, R303) -/

def ReplicaWin.key (r : ReplicaWin) (ts w step : U32) : Bool := r.ts == ts && r.w == w && r.step == step
def State.replicaWin (s : State) (ts w step : U32) : Option ReplicaWin := s.part.replicas.find? (·.key ts w step)
def State.setReplica (r : ReplicaWin) (s : State) : State :=
  { s with part := { s.part with replicas := s.part.replicas.map (fun q => if q.key r.ts r.w r.step then r else q) } }

/-- A VERDICT to the owner (R303). -/
def State.sendVerdict (dst step ts w : U32) (code pipe : U8) (digest : U64) (s : State) : State :=
  s.send (.trans (s.recordTrans dst step { ts := ts, a1 := w, kind := 3, verdict := code, pipe := pipe, digest := digest }))

/-- A window is settled: its record is acknowledged (R300). -/
def State.settleReplica (r : ReplicaWin) (s : State) : State :=
  (s.setReplica { r with settled := true, repairing := false, repairLeft := [] }).ackRecord r.src r.step r.ts r.w

/-- A replica entry is quarantined (R126, R302): its windows that wait are discarded and their records acknowledged. -/
def State.quarantineReplica (ts : U32) (s : State) : State :=
  let s := s.setEntry ts 2 (fun e => { e with status := .quarantined })
  let open_ := s.part.replicas.filter (fun r => r.ts == ts && !r.settled)
  let s := open_.foldl (fun s r => s.settleReplica r) s
  let mine (d : DispWin) : Bool := d.ts == ts && d.replica
  { s with upd := { s.upd with
      disp := s.upd.disp.filter (fun d => !mine d)
      pipes := s.upd.pipes.map (fun p => { p with queue := p.queue.filter (fun x => !mine x.win) }) } }

/-- Inconsistent scalars or skew (R302): status 3, event 0x3015 and VERDICT 0x05. -/
def State.replicaSkew (r : ReplicaWin) (s : State) : State :=
  let s := s.record (ev3 0x3015 unitCont [])
  let s := s.sendVerdict r.src r.step r.ts r.w 5 0xFF r.ownerDigest
  s.quarantineReplica r.ts

/-- The G blocks of a replica window. -/
def State.gRange (s : State) (e : TensorEntry) (w : U32) : List Nat :=
  let lo := w.toNat * s.winSpan e.ts
  let n := winElems (s.winSpan e.ts) e.count.toNat w.toNat
  (List.range ((n + 1023) / 1024)).map (· + lo / 1024)

/-- G of a replica window read from the log, and whether a block of it is poisoned; a poisoned slot is marked (R312). -/
def State.readLog (ix : Fin 4) (e : TensorEntry) (step w : U32) (s : State) : List U32 × Bool × State :=
  let n := winElems (s.winSpan e.ts) e.count.toNat w.toNat
  let r := (s.gRange e w).foldl (fun (acc : List Byte × Bool × State) b =>
    match acc.2.2.logOff ix step (acc.2.2.gPlace ix e.ts b) with
    | none => acc
    | some off =>
      match tierOf off with
      | none => acc
      | some t =>
        let (x, s) := acc.2.2.readBlock unitCont t off
        (acc.1 ++ x.pay, acc.2.1 || x.poison, s)) ([], false, s)
  let s := r.2.2
  let s := if r.2.1 then
      match s.logSlot ix step with
      | some l => s.setSlot { l with poisoned := true }
      | none => s
    else s
  ((List.range n).map (fun i => field32 r.1 (4 * i)), r.2.1, s)

/-- R124 for a replica window (R302). -/
def State.admitReplica (d : DispWin) (s : State) : State :=
  match s.replicaOf d.ts with
  | none => s
  | some e =>
    -- a window of the owner's ends the halt that the replica shares with it (R132, R133, notes/assumptions/74.md)
    let e := if e.status = .halted ∧ e.l.toNat < d.step.toNat then { e with status := .idle } else e
    let s := s.setEntry d.ts 2 (fun f => { f with status := e.status })
    match admitOf e e.l d.step with
    | .quarantined => { s with upd := { s.upd with skewRefusals := bump s.upd.skewRefusals } }
    | .halted => { s with upd := { s.upd with haltedWins := bump s.upd.haltedWins } }
    | .hold => { s with upd := { s.upd with disp := s.upd.disp ++ [{ d with ready := false }] } }
    | .refuse =>
      let s := { s with upd := { s.upd with skewRefusals := bump s.upd.skewRefusals } }
      let s := s.record (ev3 0x2403 unitCC (arg4 e.ts ++ arg4 d.step ++ arg4 e.l ++ arg4 e.t))
      match s.replicaWin d.ts d.w d.step with
      | some r => s.replicaSkew r
      | none => s.quarantineReplica d.ts
    | .ready start =>
      let s := if start then s.setEntry d.ts 2 (TensorEntry.start d.step) else s
      { s with upd := { s.upd with disp := s.upd.disp ++ [{ d with ready := true, tPrime := e.t + 1 }] } }

def State.readmitReplica (ts : U32) (s : State) : State :=
  let mine (d : DispWin) : Bool := d.ts == ts && d.replica && !d.ready
  (s.upd.disp.filter mine).foldl (fun s d => s.admitReplica d)
    { s with upd := { s.upd with disp := s.upd.disp.filter (fun d => !mine d) } }

/-- A replica window whose G blocks are all in the log and whose record has arrived becomes ready (R302). -/
def State.tryReplica (ix : Fin 4) (r : ReplicaWin) (s : State) : State :=
  match s.replicaOf r.ts with
  | none => s
  | some e =>
    let here (b : Nat) : Bool := s.part.loggedBlks.contains (r.ts, r.step, BitVec.ofNat 32 b)
    let queued := s.upd.disp.any (fun d => d.replica && d.ts == r.ts && d.w == r.w && d.step == r.step)
    if r.dispatched || r.settled || r.repairing || queued || !((s.gRange e r.w).all here) then s
    else
      let (g, bad, s) := s.readLog ix e r.step r.w
      s.admitReplica { ts := r.ts, w := r.w, step := r.step, replica := true, g := g, poison := bad, s0 := r.s0, s4 := r.s4
                       heldVal := r.held, ownerPipe := r.ownerPipe, ownerDigest := r.ownerDigest }

def State.tryReplicas (ix : Fin 4) (ts step : U32) (s : State) : State :=
  (s.part.replicas.filter (fun r => r.ts == ts && r.step == step)).foldl (fun s r => s.tryReplica ix r) s

/-! ## Shard digests at the partner (R308, R309) -/

def State.skipLogged (s : State) (ts step : U32) : Bool :=
  s.part.logRecs.any (fun r => r.ts == ts && r.step == step && r.skipped)

/-- Whether the partner's digest of a shard and step stands as the owner's does. -/
def State.digestEqual (s : State) (ts step : U32) (v : U64) : Bool :=
  s.shardDigest ts step true == v &&
  (match s.replicaOf ts with
   | some e => e.status != .quarantined && (s.part.terms.any (fun d => d.ts == ts && d.step == step && d.replica) || s.skipLogged ts step)
   | none => true)

/-- The slot of a step is complete when every RPL replica shard of the owner has completed it (R311). -/
def State.completeSlot (ix : Fin 4) (step : U32) (s : State) : State :=
  match s.logSlot ix step with
  | some l =>
    if l.step == step && !l.complete && (s.logEntries ix).all (fun e => decide (step.toNat ≤ e.l.toNat)) then
      s.setSlot { l with complete := true } else s
  | none => s

/-- Step S completes for a replica entry (R308), or for the mirror counters of a MIR shard (R380). -/
def State.completeReplica (src ts step : U32) (s : State) : State :=
  let wrote := s.part.terms.any (fun d => d.ts == ts && d.step == step && d.replica)
  let skip := s.skipLogged ts step
  let clean (s : State) : State := { s with part := { s.part with
    replicas := s.part.replicas.filter (fun r => !(r.ts == ts && r.step == step))
    terms := s.part.terms.filter (fun d => !(d.ts == ts && d.step == step && d.replica))
    ownerDig := s.part.ownerDig.filter (fun o => !(o.1 == src && o.2.1 == ts && o.2.2.1 == step)) } }
  match s.replicaOf ts with
  | some _ =>
    let s := s.setEntry ts 2 (fun e => { e with
      l := step, prevL := e.l, prevT := e.t, t := if skip then e.t else e.t + 1, p := none
      status := if e.status = .running then .idle else e.status })
    let s := clean s
    let s := match s.ownerIx src with | some ix => s.completeSlot ix step | none => s
    s.readmitReplica ts
  | none =>
    let up (m : MirrorCtr) : MirrorCtr := if m.owner == src && m.ts == ts then { m with l := step, t := m.t + 1 } else m
    let s := if wrote then { s with job := { s.job with mirrors := s.job.mirrors.map up } } else s
    clean s

/-- The OWNER digest of a shard is compared again; when equal the REPLICA digest leaves (R308). -/
def State.recheckDigest (ts step : U32) (s : State) : State :=
  match s.part.ownerDig.find? (fun o => o.2.1 == ts && o.2.2.1 == step) with
  | none => s
  | some (src, _, _, v) =>
    if s.digestEqual ts step v then (s.sendDigest src step ts 2 v).completeReplica src ts step else s

/-- Quarantine or drop list (R296, R309). -/
def State.dropShard (src ts step : U32) (s : State) : State :=
  if s.dropped src ts || decide (s.part.drops.length ≥ 256) then s
  else { s with part := { s.part with drops := s.part.drops ++ [(src, ts, step)] } }
def State.rejectShard (src ts step : U32) (s : State) : State :=
  if (s.replicaOf ts).isSome then s.quarantineReplica ts else s.dropShard src ts step

/-! ## Leaving a step behind (R27, R379) -/

/-- What the partner side and the owner side hold of uncommitted steps goes. -/
def State.dropUncommittedPartner (s : State) : State :=
  let un (k : U32) : Bool := decide (k.toNat > s.fence.sealedStep.toNat)
  let unPk (p : Packet) : Bool := un p.step && p.step != 0
  { s with
    upd := { s.upd with
      disp := s.upd.disp.filter (fun d => !(d.replica && un d.step))
      table := s.upd.table.map (fun e => if e.role == 2 then { e with p := none, status := if e.status = .running then .idle else e.status } else e) }
    part := { s.part with
      retained := s.part.retained.filter (fun i => !unPk i.pk)
      replicas := s.part.replicas.filter (fun r => !un r.step)
      terms := s.part.terms.filter (fun d => !un d.step)
      ownerDig := s.part.ownerDig.filter (fun o => !un o.2.2.1)
      logRecs := s.part.logRecs.filter (fun r => !un r.step)
      loggedBlks := s.part.loggedBlks.filter (fun b => !un b.2.1)
      logSlots := s.part.logSlots.filter (fun l => l.complete || !un l.step)
      repairFor := s.part.repairFor.filter (fun r => !un r.2.2)
      ackedSteps := s.part.ackedSteps.filter (fun a => !un a.2) } }

/-! ## Mirrored blocks (R304 to R306) -/

/-- The header under which an arriving MIRROR_P block is stored: in a STATE region as R141 gives it, in a REPLICA region with
the owner as the source (notes/assumptions/65.md). -/
def State.mirrorHeader (s : State) (h : Header) (off : Nat) : Header :=
  let state := (s.regionAt off).any (fun r => r.kind == 1)
  { h with flags := setFlag (setFlag h.flags 6 false) 8 false, src := if state then s.own else h.src, dst := s.own
           offset := BitVec.ofNat 64 off }

/-- The block is written whole with the payload check word it carries (R61, R305). -/
def State.putMirror (b : Block) (s : State) : State :=
  let off := offOf b.hdr.offset
  match tierOf off with
  | none => s
  | some t => s.writeCarried t off { b with hdr := s.mirrorHeader b.hdr off }

/-- A MASK payload written as a MASK block of format BITS (R306). -/
def State.maskBlock (s : State) (e : TensorEntry) (b : Block) : Block :=
  let n := min 32768 (e.count.toNat - b.hdr.blk.toNat * 32768)
  { b with hdr := { b.hdr with
      typ := 2, fmt := 0, count := BitVec.ofNat 16 n, flags := setFlag (setFlag (setFlag b.hdr.flags 1 false) 6 false) 8 false
      src := s.own, dst := s.own } }
def State.putMaskMirror (e : TensorEntry) (b : Block) (s : State) : State :=
  let off := offOf b.hdr.offset
  match tierOf off with
  | none => s
  | some t => s.writeCarried t off (s.maskBlock e b)

/-- The region of kind k with the packet's JT that holds a 4,096-byte boundary (R301). -/
def State.mirrorRegion (s : State) (k : U8) (h : Header) : Bool :=
  match s.regionAt (offOf h.offset) with
  | some r => r.kind == k && r.jt == h.jt && offOf h.offset % 4096 == 0
  | none => false

def State.isMask (h : Header) : Bool := h.maskPresent && h.code == 11

/-- Popping the first retained item of a kind. -/
def State.popRetained (f : Packet → Bool) (s : State) : Option Packet × State :=
  match s.part.retained.find? (fun i => f i.pk) with
  | some i => (some i.pk, { s with part := { s.part with retained := s.part.retained.erase i } })
  | none => (none, s)

end Sys2Proof.Machine
end

