-- ==== Sys2Proof/Machine/WindowOps.lean ====
section
/-! DEFINITION. Reduction windows (R82 to R95): pieces, coverage, exact accumulation, parking, outputs, breaches. -/
namespace Sys2Proof
open Sys2Proof.Machine

/-! ## A piece (R82) -/

/-- The unscaled maximum of a piece's format. -/
def Header.epb (h : Header) : Nat := fmtMax h.code
/-- The window a piece belongs to. -/
def Header.winOf (h : Header) (r : TreeRec) : Nat := h.blk.toNat * h.epb / r.winSpan
/-- Its first element within the window, and the elements it must carry. -/
def Header.winStart (h : Header) (r : TreeRec) : Nat := h.blk.toNat * h.epb - h.winOf r * r.winSpan
def Header.elems (h : Header) (r : TreeRec) : Nat := min h.epb (r.count.toNat - h.blk.toNat * h.epb)
/-- The coverage bits of its granules (R83). -/
def granuleMask (start n : Nat) : U32 := BitVec.ofNat 32 ((2 ^ ((n + 255) / 256) - 1) * 2 ^ (start / 256))
def Header.granules (h : Header) (r : TreeRec) : U32 := granuleMask (h.winStart r) (h.elems r)

/-- The coverage of a whole window (R83). -/
def Machine.TreeRec.fullMask (r : TreeRec) (w : Nat) : U32 := granuleMask 0 (winElems r.winSpan r.count.toNat w)

/-- Whether a PARTIAL of FP32 or BF16 holds an element at or above 2^(a + 26) (R55, R82). -/
def tooLarge (a : Int) (h : Header) (vs : List Fv) : Bool :=
  h.typ == 4 && (h.code == 2 || h.code == 4) &&
  vs.any (fun v => match v.expOf with | some k => decide (k ≥ a + 26) | none => false)

/-- A malformed piece (R82). -/
def Header.malformed (h : Header) (r : TreeRec) (a : Int) (vs : List Fv) : Bool :=
  decide (h.epb > r.winSpan) || decide (h.blk.toNat * h.epb ≥ r.count.toNat) ||
  (if h.breach then h.count != 1 || h.winStart r != 0 else h.count.toNat != h.elems r) || tooLarge a h vs

/-- The accumulator integers of a piece's elements under an anchor (R77, R89). -/
def pieceInts (a : Int) (h : Header) (pay : List Byte) : List Int :=
  let n := h.count.toNat
  if h.code == 15 then
    (List.range n).map fun i => (field64 pay (8 * i)).toInt * 2 ^ (signed16 h.anchor - a).toNat
  else if h.code == 14 then (List.range n).map fun i => (BitVec.ofNat 128 (fieldNat pay (16 * i) 16)).toInt
  else (unpackPlain h.code pay n).map (toAS128 a)

/-- Elements from a place in the window on are added (R77). -/
def addInts (acc : List U128) (start : Nat) (ns : List Int) : List U128 :=
  acc.take start ++ List.zipWith (fun x n => x + BitVec.ofInt 128 n) (acc.drop start) ns ++ acc.drop (start + ns.length)

end Sys2Proof

namespace Sys2Proof.Machine
open Sys2Proof

/-! ## Windows -/

def Window.isKey (ts w step : U32) (x : Window) : Bool := x.ts == ts && x.w == w && x.step == step
def State.windowAt (s : State) (ts w step : U32) : Option Window := s.red.windows.find? (Window.isKey ts w step)
def State.parkedAt (s : State) (ts w step : U32) : Option Parked := s.red.parked.find? (fun p => p.win.isKey ts w step)
/-- The window wherever it is held. -/
def State.anyWindow (s : State) (ts w step : U32) : Option Window :=
  match s.windowAt ts w step with
  | some x => some x
  | none => (s.parkedAt ts w step).map (·.win)

def State.setWindow (x : Window) (s : State) : State :=
  { s with red := { s.red with windows := s.red.windows.map (fun y => if y.isKey x.ts x.w x.step then x else y) } }
def State.dropWindow (x : Window) (s : State) : State :=
  { s with red := { s.red with windows := s.red.windows.filter (fun y => !y.isKey x.ts x.w x.step) } }

/-- The block anchor of a window that is not held: raised under R91, else the tensor's (R83). -/
def State.anchorFor (s : State) (ts w step : U32) : Int :=
  match s.red.raised.find? (fun x => x.1 == (ts, w, step)) with
  | some x => x.2
  | none => s.anchorOf (tensorOf ts)
def State.setRaised (ts w step : U32) (a : Int) (s : State) : State :=
  { s with red := { s.red with raised := s.red.raised.filter (fun x => x.1 != (ts, w, step)) ++ [((ts, w, step), a)] } }

/-- A new window under an anchor. -/
def TreeRec.newWindow (r : TreeRec) (w step : U32) (a : Int) : Window :=
  { ts := r.ts, w := w, step := step, anchor := a, acc := List.replicate (winElems r.winSpan r.count.toNat w.toNat) 0
    masks := List.replicate r.children.length 0 }

/-- The contents, masks and stored pieces go; identity and anchor stay (R90, R91). -/
def Window.clear (a : Int) (ph : WinPhase) (x : Window) : Window :=
  { x with acc := x.acc.map (fun _ => 0), masks := x.masks.map (fun _ => 0), anchor := a, phase := ph, poison := false
           nonfinite := false, lastFrom := [], outs := [], outsAt := [], pieces := [], taken := 0 }

def Window.whole (r : TreeRec) (x : Window) : Bool :=
  x.phase == .opened && x.masks.all (fun m => m == r.fullMask x.w.toNat)

/-! ## Free windows and parking (R85) -/

/-- A window that takes one of the 1,024 places: open, or complete and waiting for its step size (R128). -/
def Window.takesPlace (x : Window) : Bool := x.phase == .opened || x.phase == .waiting

/-- Open windows. Breached and retained windows of an interior node are not counted (DESIGN CHOICE: R85 does not say whether they
are, notes/assumptions/77.md). -/
def State.openCount (s : State) (f : Window → Bool) : Nat := (s.red.windows.filter (fun x => x.takesPlace && f x)).length
/-- Whether a window of a step may be opened under the limits of R85. -/
def State.nextLimit (s : State) (step : U32) : Bool :=
  step == s.fence.cur + 1 && decide (s.openCount (fun x => x.step == s.fence.cur) > 0) &&
  decide (s.openCount (fun x => x.step == step) ≥ 768)
def State.freeWindow (s : State) (step : U32) : Bool :=
  decide (s.openCount (fun _ => true) < 1024 - s.red.openLimitLoss) && !(s.nextLimit step)

/-- The open window whose last arrival is oldest, of the step that the binding limit concerns. -/
def State.victim (s : State) (step : U32) : Option Window :=
  let ok (x : Window) : Bool := x.takesPlace && (!(s.nextLimit step) || x.step == step)
  (s.red.windows.filter ok).foldl
    (fun best x => match best with
      | none => some x
      | some b => if x.arrived < b.arrived then some x else some b) none

def State.countPark (n : Nat) (write : Bool) (s : State) : State :=
  ({ s with red := { s.red with parkBytes := bumpBy s.red.parkBytes n } }).countBytes (if write then 1 else 0) n

/-- The places in use in the PARK region, as (place, bytes). -/
def State.parkRanges (s : State) : List (Nat × Nat) :=
  s.red.parked.flatMap (fun p => (p.place, s.winParkBytes p.win) :: p.storedAt.map (·, 4160)) ++
  s.red.windows.flatMap (fun x => x.outsAt.map (·, 4160))

/-- The lowest free place of n bytes (the spec gives records no place: notes/assumptions/77.md). -/
def State.parkPlace (s : State) (n : Nat) : Nat :=
  let rs := s.parkRanges
  let free (a : Nat) : Bool := rs.all (fun r => decide (a + n ≤ r.1) || decide (r.1 + r.2 ≤ a))
  ((0 :: rs.map (fun r => r.1 + r.2)).filter free).foldl (fun m a => match m with
    | some b => if a < b then some a else some b
    | none => some a) none |>.getD 0

/-- Bytes of the park area are written: whole sectors, healed (R214, R222). -/
def State.parkWrite (place n : Nat) (s : State) : State :=
  match s.regionOfKind 3 with
  | some r => { s with mem := s.mem.heal .h (r.payOff + place) n }
  | none => s

/-- Bytes of the park area are read; true when a sector of them is uncorrectable (R223). -/
def State.parkRead (place n : Nat) (s : State) : Bool × State :=
  match s.regionOfKind 3 with
  | some r =>
    let off := r.payOff + place
    ((s.suspects .h off n).any (fun a => s.uncorrectable .h a), s.readRange .h off n)
  | none => (false, s)

/-- A window is parked (R85). -/
def State.park (x : Window) (s : State) : State :=
  let n := s.winParkBytes x
  let s := s.dropWindow x
  let at_ := s.parkPlace n
  (({ s with red := { s.red with
      parked := s.red.parked ++ [{ win := x, stored := [], place := at_ }], parks := bump s.red.parks } } : State).parkWrite at_ n).countPark
    n true

/-- A window of a step is made free, parking another where none is; none when the park area cannot hold it. -/
def State.makeRoom (step : U32) (s : State) : Option State :=
  if s.freeWindow step then some s
  else
    match s.victim step with
    | none => none
    | some v => if s.parkRoom (s.winParkBytes v) then some (s.park v) else none

/-- A parked record is read back with its stored pieces: the window, poisoned where a sector is lost (R95, R223). -/
def State.readParked (p : Parked) (s : State) : Window × State :=
  let (bad, s) := s.parkRead p.place (s.winParkBytes p.win)
  let (bad, s) := p.storedAt.foldl (fun (acc : Bool × State) a =>
    let (b, s) := acc.2.parkRead a 4160
    (acc.1 || b, s)) (bad, s)
  let s := { s with red := { s.red with
    parked := s.red.parked.filter (fun q => !q.win.isKey p.win.ts p.win.w p.win.step), unparks := bump s.red.unparks } }
  ({ p.win with poison := p.win.poison || bad }, s.countPark (s.winParkBytes p.win + 4160 * p.stored.length) false)

/-- A parked window comes back into a free window with its stored pieces (R85); none when it must wait. -/
def State.unpark (p : Parked) (s : State) : Option (Window × State) :=
  match s.makeRoom p.win.step with
  | none => none
  | some s =>
    let (x, s) := s.readParked p
    some (x, { s with red := { s.red with windows := s.red.windows ++ [x] } })

/-- The latch of a step arrives: its waiting windows leave their records and reach the dispatcher (R127, R128). -/
def State.sizeArrived (step : U32) (s : State) : State :=
  let parked := s.red.parked.filter (fun p => p.win.phase == .waiting && p.win.step == step)
  let (bad, s) := parked.foldl (fun (acc : List (U32 × U32) × State) p =>
    let (x, s) := acc.2.readParked p
    (if x.poison then (x.ts, x.w) :: acc.1 else acc.1, s)) (([] : List (U32 × U32)), s)
  let due := s.upd.noSize.filter (fun d => d.step == step)
  due.foldl (fun s d => s.handOverNow { d with poison := d.poison || bad.contains (d.ts, d.w) }) { s with
    red := { s.red with windows := s.red.windows.filter (fun w => !(w.phase == .waiting && w.step == step)) }
    upd := { s.upd with noSize := s.upd.noSize.filter (fun d => d.step != step) } }

/-! ## Acknowledgements (R87) and requests (R104) -/

/-- BLOCK_ACK for a piece of a contributor. -/
def State.ackPiece (step ts : U32) (x : U32 × U32 × U8 × U8) (s : State) : State :=
  s.sendAck (cnOf x.1) step ts x.2.1 1 opCONTRIB x.2.2.1 x.1
def State.ackPieces (x : Window) (s : State) : State := x.pieces.foldl (fun s p => s.ackPiece x.step x.ts p) s

/-- An agent has to answer a RESEND_REQ of reason 0x01 or 0x02 within OD 5020.04 (R258). -/
def State.expectResend (dst ts blk : U32) (req : Trans) (s : State) : State :=
  match s.agents.find? (·.2 == dst) with
  | some (p, _) => s.setPort p (fun q => { q with agentReqs := q.agentReqs ++ [⟨ts, blk, req, false⟩] })
  | none => s

/-- RESEND_REQ for named pieces, or with count 0 for window blk. -/
def State.askResend (dst step ts blk : U32) (count : Nat) (reason : U8) (contrib : U32) (anchor : Int) (fmt : Nat)
    (s : State) : State :=
  let retry : U16 := if reason == 3 || reason == 4 then s.red.retryUs else 0
  let b := le16 (if reason == 2 then ofSigned16 anchor else 0) ++ le16 retry ++ leBytes 1 fmt
  let t := s.mkTrans opRESEND_REQ dst step (ackA ts blk count opCONTRIB reason contrib) b [] []
  let s := s.send (.trans t)
  if reason == 1 || reason == 2 then s.expectResend dst ts blk t else s

def State.askPiece (h : Header) (reason : U8) (anchor : Int) (s : State) : State :=
  s.askResend (cnOf h.src) h.step h.ts h.blk 1 reason h.contrib anchor h.code

/-- The whole-window request to children (R91): to all, or to those whose coverage is not complete. -/
def State.askWindow (r : TreeRec) (x : Window) (onlyOpen : Bool) (s : State) : State :=
  (r.children.zip x.masks).foldl (fun s c =>
    if onlyOpen && c.2 == r.fullMask x.w.toNat then s
    else s.askResend (cnOf c.1) x.step x.ts x.w 0 2 c.1 x.anchor 0) s

/-! ## Outputs (R88, R89, R94) -/

/-- The exact sum of an element. -/
def accValue (a : Int) (x : U128) : Fv := ofAS128 a x.toInt

/-- The largest element's exponent of the exact sums (R72). -/
def maxExpOf (a : Int) (acc : List U128) : Int :=
  acc.foldl (fun m x => match (accValue a x).expOf with | some k => max m k | none => m) (-32768)

/-- The header of a PARTIAL output. -/
def State.partialHeader (s : State) (r : TreeRec) (x : Window) (fmt : Nat) (blk count : Nat) (h : Int) : Header :=
  s.tagged { Header.zero with
    typ := 4, fmt := BitVec.ofNat 8 fmt, flags := setFlag (setFlag 0 0 x.poison) 7 (x.nonfinite && !x.poison)
    step := x.step, ts := x.ts, blk := BitVec.ofNat 32 blk, contrib := cnOf s.adopted, anchor := ofSigned16 h
    count := BitVec.ofNat 16 count, dst := cnOf r.parent }

/-- The k of R89 for a block of sums, none for the AS128 fallback. -/
def as64Shift (a : Int) (ns : List Int) : Option Nat :=
  (List.range 65).find? fun k =>
    decide (a + k ≤ 255) &&
    ns.all (fun n => n % 2 ^ k == 0 && decide (-(2 ^ 63) ≤ n / 2 ^ k) && decide (n / 2 ^ k < 2 ^ 63))

/-- An output: its blocks, AS128 fallbacks, saturations and conversions counted (R53). -/
structure WinOut where
  blocks : List Block := []
  fallbacks : Nat := 0
  sat : Nat := 0
  nonfin : Nat := 0

def WinOut.add (a b : WinOut) : WinOut := ⟨a.blocks ++ b.blocks, a.fallbacks + b.fallbacks, a.sat + b.sat, a.nonfin + b.nonfin⟩

def State.outFp (s : State) (r : TreeRec) (x : Window) (fmt : Nat) (blk : Nat) (es : List U128) : WinOut :=
  let vs := if x.nonfinite && !x.poison then es.map (fun _ => Fv.nan) else es.map (accValue x.anchor)
  let p := packPlain fmt vs
  let h := s.partialHeader r x fmt blk es.length x.anchor
  let h := if p.flag && !x.poison then { h with flags := setFlag h.flags 7 true } else h
  { blocks := [(⟨h, p.bytes⟩ : Block).seal], sat := p.sat, nonfin := p.nonfin }

def State.outAs64 (s : State) (r : TreeRec) (x : Window) (blk : Nat) (es : List U128) : WinOut :=
  let ns := if x.nonfinite && !x.poison then es.map (fun _ => (0 : Int)) else es.map (·.toInt)
  match as64Shift x.anchor ns with
  | some k =>
    let pay := ns.flatMap (fun n => le64 (BitVec.ofInt 64 (n / 2 ^ k)))
    { blocks := [(⟨s.partialHeader r x 15 blk es.length (x.anchor + k), pay⟩ : Block).seal] }
  | none =>
    let half (i : Nat) : List Block :=
      let part := (ns.drop (256 * i)).take 256
      if part.isEmpty then []
      else [(⟨s.partialHeader r x 14 (2 * blk + i) part.length x.anchor,
              part.flatMap (fun n => le128 (BitVec.ofInt 128 n))⟩ : Block).seal]
    { blocks := half 0 ++ half 1, fallbacks := 1 }

/-- The PARTIAL blocks of an interior window, in block-index order (R88). -/
def State.winOutput (s : State) (r : TreeRec) (x : Window) : WinOut :=
  let fmt := r.wire.toNat
  let n := fmtMax fmt
  let first := x.w.toNat * r.winSpan / n
  (List.range ((x.acc.length + n - 1) / n)).foldl (fun o j =>
    let es := (x.acc.drop (n * j)).take n
    o.add (if fmt = 15 then s.outAs64 r x (first + j) es else s.outFp r x fmt (first + j) es)) {}

/-- The breach report of an interior node (R90). -/
def State.breachReport (s : State) (r : TreeRec) (x : Window) : Block :=
  let fmt := r.wire.toNat
  let h := s.partialHeader r { x with poison := false, nonfinite := false } fmt (x.w.toNat * r.winSpan / fmtMax fmt) 1 x.anchor
  (⟨{ h with flags := setFlag h.flags 4 true }, []⟩ : Block).seal

/-! ## Completion (R83, R87, R88, R98) -/

def State.countComplete (x : Window) (s : State) : State :=
  let s := s.traceWindow 0x0800 x.ts x.w x.step
  { s with red := { s.red with
      completed := bump s.red.completed
      poisonWins := if x.poison then bump s.red.poisonWins else s.red.poisonWins
      nonfinWins := if x.nonfinite && !x.poison then bump s.red.nonfinWins else s.red.nonfinWins } }

/-- SUMSQ and the vote of a completed owned window of a held tensor (R98, R102). -/
def State.addSums (x : Window) (g : List U32) (s : State) : State :=
  let old := (s.red.sums.find? (·.step == x.step)).getD { step := x.step }
  let sq := g.map wideSquare
  let new : StepSums :=
    if x.poison then { old with poison := true }
    else { old with
      x := old.x + (sq.filterMap id).sum, nonfin := old.nonfin || sq.any (·.isNone), vote := old.vote || x.nonfinite }
  { s with red := { s.red with sums := s.red.sums.filter (fun q => q.step != x.step) ++ [new] } }

/-- G of an owned window: rounded to FP32, or the canonical NaN when it is non-finite (R88, R94). -/
def Window.gradient (x : Window) : List Rounded :=
  if x.nonfinite && !x.poison then x.acc.map (fun _ => { bits := 0x7FC00000, flag := true })
  else x.acc.map (fun n => fp32.round (accValue x.anchor n))

def State.completeOwner (x : Window) (s : State) : State :=
  let rs : List Rounded := x.gradient
  let g := rs.map (fun (r : Rounded) => BitVec.ofNat 32 r.bits)
  let s := { s with chk := { s.chk with satConv := bumpBy s.chk.satConv (rs.filter Rounded.sat).length } }
  let e : Int := if x.nonfinite && !x.poison then -32768 else maxExpOf x.anchor x.acc
  -- without a step size the window stays in its record (R128)
  let s := (if (s.latchOf x.step).isSome then s.dropWindow x else s.setWindow { x with phase := .waiting }).countComplete x
  let s := { s with red := { s.red with
    done := s.red.done ++ [DoneWin.mk x.ts x.w x.step x.anchor e], acked := s.red.acked ++ [(x.ts, x.w, x.step)] } }
  let s := s.ackPieces x
  let s := if (s.ownerOf x.ts).any TensorEntry.held then s.addSums x g else s
  s.handOver { ts := x.ts, w := x.w, step := x.step, g := g, poison := x.poison, nonfinite := x.nonfinite && !x.poison
               anchor := x.anchor }

def State.sendOuts (bs : List Block) (s : State) : State := bs.foldl (fun s b => s.send (.block b)) s

def State.completeInterior (r : TreeRec) (x : Window) (s : State) : State :=
  let o := s.winOutput r x
  let s := { s with
    red := { s.red with fallbacks := bumpBy s.red.fallbacks o.fallbacks }
    chk := { s.chk with satConv := bumpBy s.chk.satConv o.sat, nonfinConv := bumpBy s.chk.nonfinConv o.nonfin } }
  let s := (s.setWindow { x with phase := .retained, acc := [], masks := [] }).countComplete x
  let (at_, s) := o.blocks.foldl (fun (acc : List Nat × State) _ =>
    let a := acc.2.parkPlace 4160
    let s := acc.2.setWindow { x with phase := .retained, acc := [], masks := [], outsAt := acc.1 ++ [a] }
    (acc.1 ++ [a], s.parkWrite a 4160)) ([], s)
  let s := s.setWindow { x with phase := .retained, outs := o.blocks, outsAt := at_, acc := [], masks := [] }
  (s.countPark (4160 * o.blocks.length) true).sendOuts o.blocks

def State.completeWindow (r : TreeRec) (x : Window) (s : State) : State :=
  if r.role == 1 then s.completeOwner x else s.completeInterior r x

/-! ## Breaches (R90 to R92) -/

def State.breachOwner (r : TreeRec) (x : Window) (s : State) : State :=
  let a := x.anchor
  if a + 8 > 255 then
    (s.record (ev3 0x2201 unitRed [])).completeOwner { x with nonfinite := true, capped := true }
  else
    let y := x.clear (a + 8) .opened
    let s := (s.setWindow y).record (ev3 0x2200 unitRed
      (arg2 s.job.jt.toNat ++ arg4 x.ts ++ arg4 x.w ++ le16 (ofSigned16 a) ++ le16 (ofSigned16 (a + 8))))
    s.askWindow r y false

def State.breachInterior (r : TreeRec) (x : Window) (s : State) : State :=
  let b := s.breachReport r x
  (s.setWindow { x.clear x.anchor .breached with outs := [b] , pieces := x.pieces }).sendOuts [b]

/-- What the window held is discarded (R28). Event 0x2200 is the owner's: an interior node, which raises no anchor, records none
(DESIGN CHOICE: R84's row names the event and R105 calls it the owner's, notes/assumptions/77.md). -/
def State.breach (r : TreeRec) (x : Window) (s : State) : State :=
  let s := s.noteDiscarded x.step x.taken
  let s := { s with red := { s.red with breaches := bump s.red.breaches } }
  if r.role == 1 then s.breachOwner r x else s.breachInterior r x

end Sys2Proof.Machine
end

