-- ==== Sys2Proof/Machine/Fence.lean ====
section
/-! DEFINITION. The commands of a step: step sizes (R127, R128), the step fence and the sealed move (R18 to R30), the opening of a
step to the agents (R75, R76). -/
namespace Sys2Proof.Machine
open Sys2Proof

/-! ## Starting passes on the latch (R185) -/

/-- The start conditions of a pass (R185). -/
def State.passMayStart (s : State) (p : U8) (step : U32) : Bool :=
  s.job.dev == .run && s.fence.cur == step && !(s.afterFailed step) && !(s.str.startedFor.contains (p, step))

/-- A pass starts (R185). -/
def State.startPass (p : U8) (step : U32) (s : State) : State :=
  { s with str := { s.str with
      startedFor := s.str.startedFor ++ [(p, step)]
      started := bump s.str.started
      passes := s.str.passes ++ [{ prog := p, step := step, nextSeg := 0, nextBlk := 0 }]
      passStatus := setPass s.str.passStatus p.toNat (step, 1) } }

/-- Passes with trigger 0x01 start when the step size of the current step is latched (R185). -/
def State.startLatched (s : State) : State :=
  let step := s.fence.cur
  if (s.latchOf step).isNone then s
  else (s.str.progs.filter (·.trigger == 1)).foldl
    (fun s p => if s.passMayStart p.num step then s.startPass p.num step else s) s

/-! ## Step sizes -/

/-- The outcome of a write of OD 2200.01 (R127): latch, nothing, or refusal. -/
inductive SizeWrite where
  | latch | same | refuse
deriving DecidableEq, Repr

def sizeDecision (cur : U32) (latches : List (U32 × U32)) (v : U64) : SizeWrite :=
  let step : U32 := v.setWidth 32
  let x : U32 := (v >>> 32).setWidth 32
  match latches.find? (·.1 == step) with
  | some l => if l.2 = x then .same else .refuse
  | none => if (step = cur ∨ step = cur + 1) ∧ ¬ nonfinite32 x then .latch else .refuse

def stepSizeWrite (v : U64) (s : State) : State :=
  match sizeDecision s.fence.cur s.upd.latches v with
  | .same => s
  | .refuse =>
    ({ s with upd := { s.upd with sizeRefusals := bump s.upd.sizeRefusals, sizeRefused := true } }).record
      (ev3 0x2402 unitCC (arg8 v ++ arg4 s.fence.cur))
  | .latch =>
    let s := { s with upd := { s.upd with
      latches := s.upd.latches ++ [(v.setWidth 32, (v >>> 32).setWidth 32)], sizeLast := v, sizeRefused := false } }
    (s.sizeArrived (v.setWidth 32)).startLatched

/-- STEP_SIZE_WRITE (R127). -/
def execStepSizeWrite (v : U64) (s : State) : Host.Outcome State Fault Refusal := .next (stepSizeWrite v s)

/-- A window of a step is complete and waits for its step size (R128). -/
def State.sizeAwaited (s : State) (step : U32) : Bool :=
  s.upd.noSize.any (fun d => d.step == step) && (s.latchOf step).isNone

def stepSizeLate (step : U32) (s : State) : State :=
  if s.sizeAwaited step && !(s.upd.sizeLateAt.contains step) && !(s.afterFailed step) then
    ({ s with upd := { s.upd with sizeLateAt := step :: s.upd.sizeLateAt } }).record (ev2 0x2401 unitCC (arg4 step))
  else s

/-- STEP_SIZE_LATE (R128): the wait for OD 2200.02 has run out. -/
def execStepSizeLate (step : U32) (s : State) : Host.Outcome State Fault Refusal := .next (stepSizeLate step s)

/-! ## The step fence (R23 to R25) -/

/-- The shards a pending step does not touch are protected for its adjournment (R318). -/
def State.protectUntouched (s : State) : State :=
  let step := s.fence.cur
  if !(s.isAdjStep step) then s
  else (s.standings.filter (fun x => x.2 == .reported false)).foldl
    (fun s x => s.protect false step (s.cutPages x.1 step)) s

/-- The fence of the current step becomes pending. -/
def State.makePending (s : State) : State :=
  let s := { s with fence := { s.fence with pending := true, status := 1 } }
  (s.completeAll).protectUntouched.failIfReported

def stepFenceWrite (v : U32) (s : State) : State :=
  if v = s.fence.cur then
    if s.fence.pending then s else s.makePending
  else if v = s.fence.sealedStep then { s with fence := { s.fence with status := 2 } }
  else
    ({ s with fence := { s.fence with status := 4, refusals := bump s.fence.refusals } }).record
      (ev3 0x2100 unitCC (arg4 v ++ arg4 s.fence.cur))

/-- STEP_FENCE_WRITE (R23). -/
def execStepFenceWrite (v : U32) (s : State) : Host.Outcome State Fault Refusal := .next (stepFenceWrite v s)

/-- The arguments of 0x2101 (R24): eight pending shards, zero where there are fewer, and OD 2100.07. -/
def timeoutArgs (ps : List U32) : List Byte := padTo 32 ((ps.take 8).flatMap le32) ++ leBytes 2 ps.length

def fenceTimeout (s : State) : State :=
  if s.fence.pending then s.failStep 0x2101 [ev3 0x2101 unitCC (timeoutArgs s.shardsPending)] else s

/-- FENCE_TIMEOUT (R24): OD 2100.06 has passed since the fence became pending. -/
def execFenceTimeout (s : State) : Host.Outcome State Fault Refusal := .next (fenceTimeout s)

/-! ## The sealed move (R20, R21, R28, R29) -/

def SealedMove.body (m : SealedMove) : List Byte :=
  [0x53, m.flags] ++ le16 m.jt ++ le32 m.epoch ++ le32 m.step ++ le32 (m.cn.setWidth 32) ++ le16 m.reported ++ le16 m.unchanged ++
  [0, 0, 0, 0] ++ le64 m.digest ++ le64 m.accepted ++ le32 m.discarded ++ le32 m.stalls ++ leBytes 6 m.opMs.toNat ++
  List.replicate 6 0
/-- The 64 bytes of the record (R28). -/
def SealedMove.bytes (m : SealedMove) : List Byte := m.body ++ le32 (crc32c m.body)

/-- The kind of the point of an adjournment step (R316). -/
def AdjState.kindOf (a : AdjState) (step : U32) : PointKind :=
  if !a.fullSeen || a.chainBroken then .full
  else if a.m != 0 && step.toNat % a.m.toNat == 0 then (if a.chainSince = a.chainLen.toNat then .full else .chain)
  else .kdelta

/-- Whether every owned shard has reported the pending step (R20, R21); no sealed move is written for a failed step (R24). -/
def State.mayseal (s : State) : Bool :=
  s.fence.pending && s.fence.cur == s.fence.sealedStep + 1 && s.fence.failedStep != some s.fence.cur &&
  s.standings.all (fun x => match x.2 with | .reported _ => true | _ => false)

/-- The record of the step that seals (R28). -/
def State.sealRecord (s : State) : SealedMove :=
  let step := s.fence.cur
  let bit (n : Nat) (b : Bool) : U8 := if b then 1#8 <<< n else 0
  let halt := s.owned.any (fun e => e.status == .haltPending)
  { flags := bit 0 (s.isAdjStep step) |||
      bit 1 (s.part.pair == .correlated && s.owned.any (fun e => e.pclass == 1 || e.pclass == 2)) |||
      bit 2 (s.owned.any TensorEntry.held) ||| bit 3 halt
    jt := s.job.jt, epoch := s.job.epoch, step := step, cn := s.ident.cn
    reported := BitVec.ofNat 16 s.owned.length
    unchanged := BitVec.ofNat 16 (s.standings.filter (fun x => x.2 == .reported false && (x.1.sparse || s.actsFrz x.1))).length
    digest := s.owned.foldl (fun a e => a ^^^ s.shardDigest e.ts step false) 0
    accepted := ((s.fence.accepted.find? (·.1 == step)).map (·.2)).getD 0
    discarded := ((s.fence.discarded.find? (·.1 == step)).map (·.2)).getD 0
    stalls := s.upd.stepTouches, opMs := s.time.opMs }

/-- An entry at the sealed move of a step: halts take effect or end (R132, R133), and L moves for an untouched shard (R125). -/
def TensorEntry.seal (step : U32) (releasing : List U32) (e : TensorEntry) : TensorEntry :=
  if e.role != 1 then
    -- the replica of a halting shard halts with it, and is untouched then as its owner is (R132, R133)
    let e := if e.status = .haltPending then { e with status := .halted } else e
    if e.status = .halted ∧ e.l.toNat < step.toNat then { e with l := step, prevL := e.l, prevT := e.t } else e
  else
    let st := if e.status = .haltPending then .halted
      else if e.status = .halted ∧ releasing.contains e.ts then .idle else e.status
    if e.l == step then { e with status := st } else { e with status := st, l := step, prevL := e.l, prevT := e.t }

/-- The adjournment and the forced deltas requested at the sealed move (R310, R316, R319). -/
def State.sealCuts (step : U32) (s : State) : State :=
  let s := if s.isAdjStep step && !(s.adj.queue.any (fun c => c.step == step && !c.forced)) then s.protect false step [] else s
  let kind := s.adj.kindOf step
  let forced := s.owned.filter (fun e => s.forcedAt e step)
  { s with
    adj := { s.adj with queue := s.adj.queue.map (fun c =>
      if c.step == step && !c.sealedMove then
        { c with sealedMove := true, kind := if c.forced then .forced else kind
                 counters := (if c.forced then forced else s.owned).map (fun e => (e.ts, e.t, e.l)) }
      else c) }
    part := { s.part with forced := bumpBy s.part.forced forced.length } }

/-- The dirty counts of the step, the last 16 kept for each shard (R294), and what is no longer needed. -/
def State.sealPrune (step : U32) (s : State) : State :=
  let n (e : TensorEntry) : U32 :=
    BitVec.ofNat 32 (s.part.wrote.filter (fun x => x.1 == e.ts && x.2.1 == step)).length
  let dirty := s.part.dirty ++ s.owned.map (fun e => (e.ts, step, n e))
  let keep (x : U32 × U32 × U32) : Bool :=
    decide ((dirty.filter (fun y => y.1 == x.1 && decide (y.2.1.toNat > x.2.1.toNat))).length < 16)
  let later (k : U32) : Bool := decide (k.toNat > step.toNat)
  { s with
    part := { s.part with
      dirty := dirty.filter keep
      wrote := s.part.wrote.filter (fun x => later x.2.1)
      terms := s.part.terms.filter (fun d => d.replica || later d.step)
      ackedSteps := s.part.ackedSteps.filter (fun x => later x.2) }
    upd := { s.upd with written := s.upd.written.filter (fun x => later x.2.2), releasing := [], stepTouches := 0 }
    fence := { s.fence with
      accepted := s.fence.accepted.filter (fun x => later x.1), discarded := s.fence.discarded.filter (fun x => later x.1)
      reports := s.fence.reports.filter (fun r => later r.step) } }

/-- The sealed move of the current step, in the order of R29. -/
def State.seal (s : State) : State :=
  let step := s.fence.cur
  let m := s.sealRecord
  let s := (s.sealCuts step).noteBusy
  let s := { s with
    fence := { s.fence with
      -- read-only records of a restore are freed at the job's next sealed move (R379)
      mramMoves := s.fence.mramMoves.filter (fun (r : SealedMove) => decide (r.step.toNat < step.toNat)) ++ [m]
      lastMove := some m, sealedStep := step, cur := step + 1, status := 2, pending := false
      stepsSealed := s.fence.stepsSealed + 1 } }
  let s := (s.freePoints (fun p => p.readOnly)).countBytes 6 64
  let s := s.fenceUp step 2 [] m.bytes
  let s := s.stepIrq
  let s := { s with upd := { s.upd with table := s.upd.table.map (TensorEntry.seal step s.upd.releasing) } }
  let s := (s.sealPrune step).noteNoPartner
  let s := s.freeLatches
  let s := s.sendMaxv step
  let s := s.owned.foldl (fun (s : State) e => s.readmit e.ts) s
  (s.startLatched).rootCommit step

def sealStep (s : State) : State :=
  let s := if s.fence.pending then s.completeAll else s
  if s.mayseal then s.seal else s

/-- SEAL_STEP (R29): no effect while a shard has not reported. -/
def execSealStep (s : State) : Host.Outcome State Fault Refusal := .next (sealStep s)

/-! ## The fence tree -/

/-- A child's sealed move is passed toward the root, which counts it (R18). -/
def stepSealedReceive (pk : Trans) (s : State) : State :=
  let s := s.takePk (.trans pk)
  match s.parent with
  | some _ => s.fenceUp pk.step 2 [] pk.body
  | none =>
    let cn := cnOf (field32 pk.body 12)
    let step := field32 pk.body 8
    ({ s with fence := { s.fence with kidMoves := s.fence.kidMoves ++ [(cn, step, 1)] } }).rootCommit step

/-- STEP_SEALED_RECEIVE (R18). -/
def execStepSealedReceive (_port : Port) (pk : Trans) (s : State) : Host.Outcome State Fault Refusal :=
  .next (stepSealedReceive pk s)

def stepFailedReceive (pk : Trans) (s : State) : State :=
  (s.takePk (.trans pk)).fenceUp pk.step 3 ([0, 0, 0] ++ leBytes 2 (pk.aNat 4 2)) []

/-- STEP_FAILED_RECEIVE (R251): passed up the tree; the root only withholds its commit. -/
def execStepFailedReceive (_port : Port) (pk : Trans) (s : State) : Host.Outcome State Fault Refusal :=
  .next (stepFailedReceive pk s)

def jobCommitReceive (pk : Trans) (s : State) : State :=
  let s := s.takePk (.trans pk)
  if pk.step.toNat > s.fence.sealedStep.toNat ∨ pk.epoch ≠ s.job.epoch then
    ({ s with red := { s.red with treeRefusals := bump s.red.treeRefusals } }).record
      (ev3 0x2104 unitCC (arg4 pk.step ++ arg4 pk.epoch ++ arg4 s.fence.sealedStep))
  else (s.fenceDown pk.step 4 [] []).commitStep pk.step

/-- JOB_COMMIT_RECEIVE (R30). -/
def execJobCommitReceive (_port : Port) (pk : Trans) (s : State) : Host.Outcome State Fault Refusal :=
  .next (jobCommitReceive pk s)

/-! ## Opening a step to the agents (R75, R76) -/

/-- The segments that hold a tensor an agent contributes to. -/
def State.agentTensors (s : State) (cn : U32) : List U32 :=
  ((s.red.trees.filter (fun r => r.children.any (fun c => cnOf c == cn))).map (fun r => tensorOf r.ts)).eraseDups

def State.openBody (s : State) (ts : List U32) (q : Nat) : List Byte :=
  (List.range 2048).flatMap fun j =>
    let t := BitVec.ofNat 32 (2048 * q + j)
    le16 (ofSigned16 (if ts.contains t then s.anchorOf t else -32768))

def State.sendOpen (step size : U32) (cn : U32) (s : State) : State :=
  let ts := s.agentTensors cn
  let qs := ((ts.map (fun t => t.toNat / 2048)).eraseDups).mergeSort
  qs.foldl (fun s q => s.sendFence cn step 1 ([0, 0, 0] ++ le32 size ++ leBytes 4 q) [] [] (s.openBody ts q)) s

/-- Whether a step may be opened: its step size is held and its anchors are installed (R75). -/
def State.openable (s : State) : Option (U32 × U32) :=
  let step := s.red.anchorStep
  match s.latchOf step with
  | some x => if s.job.dev = .run ∧ s.red.opened ≠ some step then some (step, x) else none
  | none => none

def stepOpenSend (s : State) : State :=
  match s.openable with
  | some (step, x) =>
    s.agents.foldl (fun s e => s.sendOpen step x e.2) { s with red := { s.red with opened := some step } }
  | none => s

/-- STEP_OPEN_SEND (R75). -/
def execStepOpenSend (s : State) : Host.Outcome State Fault Refusal := .next (stepOpenSend s)

def anchorLate (step : U32) (s : State) : State :=
  if (s.latchOf step).isSome ∧ s.red.anchorStep.toNat < step.toNat ∧ s.red.anchorLate ≠ some step then
    ({ s with red := { s.red with anchorLate := some step } }).record (ev3 0x2204 unitRed (arg4 step))
  else s

/-- ANCHOR_LATE (R76): OD 2300.04 has passed since the write of the step to OD 2200.01. -/
def execAnchorLate (step : U32) (s : State) : Host.Outcome State Fault Refusal := .next (anchorLate step s)

end Sys2Proof.Machine
end

