-- ==== Sys2Proof/Machine/VecOps.lean ====
section
/-! DEFINITION. A vector core (R157 to R168): its registers, how an instruction issues, how an invocation starts, faults, ends and
commits. -/
namespace Sys2Proof.Machine
open Sys2Proof

/-! ## Registers -/

/-- A register an instruction reads or writes. -/
inductive RegRef where
  | x (n : Nat) | f (n : Nat) | v (n : Nat)
deriving DecidableEq, Repr

def lanes : Nat := 32

/-- X0 reads zero. -/
def CoreState.xr (k : CoreState) (r : BitVec 5) : U64 := if r == 0 then 0 else k.x[r.toFin]
def CoreState.setX (r : BitVec 5) (v : U64) (k : CoreState) : CoreState := if r == 0 then k else { k with x := k.x.set r.toFin v }
def CoreState.fr (k : CoreState) (r : BitVec 5) : U64 := k.f[r.toFin]
def CoreState.setF (r : BitVec 5) (v : U64) (k : CoreState) : CoreState := { k with f := k.f.set r.toFin v }
/-- An FP32 read ignores bits [63:32]; an FP32 write clears them. -/
def CoreState.fr32 (k : CoreState) (r : BitVec 5) : U32 := (k.fr r).setWidth 32
def CoreState.setF32 (r : BitVec 5) (v : U32) (k : CoreState) : CoreState := k.setF r (v.setWidth 64)
def CoreState.vr (k : CoreState) (r : BitVec 5) : Vector U32 32 := k.v[r.toFin]
def CoreState.setV (r : BitVec 5) (v : Vector U32 32) (k : CoreState) : CoreState := { k with v := k.v.set r.toFin v }
/-- P0 reads all ones; writes are discarded. -/
def CoreState.pr (k : CoreState) (r : BitVec 3) : U32 := if r == 0 then 0xFFFFFFFF else k.p[r.toFin]
def CoreState.setP (r : BitVec 3) (v : U32) (k : CoreState) : CoreState := if r == 0 then k else { k with p := k.p.set r.toFin v }

/-- The guarded lanes of a register take new values; the others keep theirs. -/
def CoreState.mapV (vd : BitVec 5) (pg : BitVec 3) (f : Fin 32 → U32) (k : CoreState) : CoreState :=
  k.setV vd (Vector.ofFn fun i => if (k.pr pg).getLsbD i.val then f i else (k.vr vd)[i])

/-- The guarded lanes, lowest first. -/
def CoreState.guarded (k : CoreState) (pg : BitVec 3) : List (Fin 32) :=
  (List.finRange 32).filter (fun i => (k.pr pg).getLsbD i.val)

/-- An instruction issues: the cycle counts in subindex 01 (R180). -/
def CoreState.issued (k : CoreState) : CoreState := { k with counters := k.counters.set 0 (bump k.counters[0]) }
def CoreState.next (k : CoreState) : CoreState := { k.issued with pc := k.pc + 4 }

/-! ## Issue (R174, R175) -/

def PendLoad.writes (l : PendLoad) : List RegRef :=
  match l.dest with
  | .x r _ => [.x r.toNat]
  | .f r _ => [.f r.toNat]
  | .v r _ _ => [.v r.toNat]
  | .blk r _ _ _ => [.x r.toNat]

/-- Whether a register waits for an outstanding load. -/
def CoreState.waits (k : CoreState) (rs : List RegRef) : Bool := k.loads.any (fun l => l.writes.any rs.contains)

/-- A scratch range with a BLDB outstanding into it, or a BSTB copy outstanding from it (R161). -/
def CoreState.bldbInto (k : CoreState) (a n : Nat) : Bool :=
  k.loads.any (fun l => match l.dest with
    | .blk _ _ _ s => decide (s.toNat < a + n) && decide (a < s.toNat + 4096)
    | _ => false)
def CoreState.bstbFrom (k : CoreState) (a n : Nat) : Bool :=
  k.copies.any (fun s => decide (s.toNat < a + n) && decide (a < s.toNat + 4096))

/-- Copies of whole blocks that are outstanding (R161). -/
def CoreState.copying (k : CoreState) : Bool :=
  !k.copies.isEmpty || k.loads.any (fun l => match l.dest with | .blk _ _ _ _ => true | _ => false)

def State.core (s : State) (c : Core) : CoreState := s.vec.cores[c]
def State.setCore (c : Core) (k : CoreState) (s : State) : State := { s with vec := { s.vec with cores := s.vec.cores.set c k } }

/-- Whether the core issues an instruction that names these registers: an invocation runs, no END waits, none of the registers
waits for a load. -/
def CoreState.issues (k : CoreState) (rs : List RegRef) : Bool := k.running.isSome && k.endWait.isNone && !k.waits rs

/-- An instruction that changes registers only. -/
def State.regOp (c : Core) (rs : List RegRef) (f : CoreState → CoreState) (s : State) : State :=
  let k := s.core c
  if k.issues rs then s.setCore c (f k).next else s

/-- An instruction that sets the program counter itself. -/
def State.jumpOp (c : Core) (rs : List RegRef) (f : CoreState → CoreState) (s : State) : State :=
  let k := s.core c
  if k.issues rs then s.setCore c (f k.issued) else s

/-- Whether a conversion sets the non-finite flag of an output block (R50, R53). -/
def Rounded.marks (r : Rounded) : Bool := r.flag || r.nonfin

/-- A register instruction whose conversions count under R53. The blocks that the invocation stages after one that sets the
non-finite flag carry it (DESIGN CHOICE: no rule follows a value through a core's registers, notes/assumptions/79.md). -/
def State.convOp (c : Core) (rs : List RegRef) (f : CoreState → CoreState × List Rounded) (s : State) : State :=
  let k := s.core c
  if k.issues rs then
    let (k, r) := f k
    (s.setCore c { k.next with conv := k.conv || r.any Rounded.marks }).countConv (r.filter Rounded.sat).length (r.filter Rounded.nonfin).length
  else s

/-! ## Starting an invocation (R159) -/

def State.entryAt (s : State) (n : U8) : Option VecEntry := s.vec.entries[n.toNat]?

/-- The registers at entry. -/
def startX (d : DispWin) (first : Nat) (v : VecEntry) : Vector U64 32 :=
  let arg (i : Nat) : U64 := v.args.getD i 0
  let reg (i : Nat) : U64 := ((v.regions[i]?).map (·.base)).getD 0
  Vector.ofFn fun (i : Fin 32) =>
    match i.val with
    | 1 => BitVec.ofNat 64 first
    | 2 => BitVec.ofNat 64 d.g.length
    | 3 => d.step.setWidth 64
    | 4 => d.ts.setWidth 64
    | 5 => d.tPrime.setWidth 64
    | 6 => d.w.setWidth 64
    | 7 => if d.second then 1 else 0
    | 20 => arg 0 | 21 => arg 1 | 22 => arg 2 | 23 => arg 3
    | 24 => reg 0 | 25 => reg 1 | 26 => reg 2 | 27 => reg 3
    | _ => 0

def State.startInvoc (c : Core) (i : Invoc) (s : State) : State :=
  match s.ownerOf i.win.ts, s.entryAt i.entry with
  | some e, some v =>
    let k := s.core c
    let d := i.win
    let sr := scalarRegs e d.tPrime d.s0 d.s4 d.heldVal
    let g := padTo (4 * s.winSpan d.ts) (d.g.flatMap le32)
    s.setCore c { k with
      x := startX d (firstElem s d) v
      f := Vector.ofFn fun (j : Fin 32) => if j.val < 16 then (sr.getD j.val 0).setWidth 64 else 0
      v := Vector.replicate 32 (Vector.replicate 32 0), p := Vector.replicate 8 0
      scratch := cellsWrite k.scratch 0 g, pc := v.off
      running := some i, staged := [], latch := false, conv := false, loads := [], copies := [], endWait := none }
  | _, _ => s

def CoreState.load (k : CoreState) : Nat := (if k.running.isSome then 1 else 0) + if k.queue.isSome then 1 else 0

/-- An invocation is placed on a core that has room (R158). -/
def State.place (c : Core) (i : Invoc) (s : State) : State :=
  let k := s.core c
  if k.running.isNone then s.startInvoc c i else s.setCore c { k with queue := some i }

/-- The enabled core with the fewest invocations, the lowest number on a tie; some excluded (R158, R414). -/
def State.pickCore (s : State) (pattern : Nat) (without : List Core) : Option Core :=
  ((List.finRange 16).filter (fun c => s.vec.coresOn.getLsbD c.val && !(without.contains c) &&
      !(s.keptOut (unitCore c) pattern))).foldl
    (fun best c => match best with
      | none => some c
      | some b => if (s.core c).load < (s.core b).load then some c else some b) none

/-- An invocation that waits for another core than one takes its place there, or on that core when no other is enabled (R166). -/
def State.placeAgain (s : State) : State :=
  s.vec.again.foldl (fun s x =>
    let here := match s.pickCore (0x8100 + x.2.entry.toNat) [x.1] with
      | some b => some b
      | none => if s.vec.coresOn.getLsbD x.1.val then some x.1 else none
    match here with
    | some b =>
      if (s.core b).load < 2 then ({ s with vec := { s.vec with again := s.vec.again.erase x } } : State).place b x.2 else s
    | none => s) s

/-- A core without a running invocation takes the one in its queue; room is left for one that waits. -/
def State.startNext (c : Core) (s : State) : State :=
  let k := s.core c
  let s := match k.running, k.queue with
    | none, some i => (s.setCore c { k with queue := none }).startInvoc c i
    | _, _ => s
  s.placeAgain

/-! ## Endings (R160, R164) -/

def CoreState.stop (k : CoreState) : CoreState :=
  { k with running := none, staged := [], latch := false, conv := false, loads := [], copies := [], endWait := none }

/-- A run that ends badly: counted, recorded, and the shard fails the step (R160). -/
def State.endBad (c : Core) (i : Invoc) (pc : U32) (e : EndKind) (s : State) : State :=
  let d := i.win
  let win := arg4 d.ts ++ arg4 d.w ++ arg4 d.step
  match e with
  | .status v =>
    (({ s with vec := { s.vec with statusFails := bump s.vec.statusFails } } : State).record
      (ev3 0x2504 (unitCore c) ([v] ++ win))).failShard d.ts d.step 0x2504 0
  | .fault code addr =>
    (({ s with vec := { s.vec with faults := bump s.vec.faults } } : State).record
      (ev3 0x2502 (unitCore c) (arg1 c.val ++ [code] ++ arg4 pc ++ arg8 addr ++ win))).failShard d.ts d.step 0x2502 0
  | .budget =>
    (({ s with vec := { s.vec with budgetAborts := bump s.vec.budgetAborts } } : State).record
      (ev3 0x2503 (unitCore c) [])).failShard d.ts d.step 0x2503 0

def EndKind.good : EndKind → Bool
  | .status v => v == 0
  | _ => false

/-- A run ends: a good run and every run of a check wait for their commit or comparison (R160, R168). -/
def State.endRun (c : Core) (pc : U32) (e : EndKind) (s : State) : State :=
  let k := s.core c
  match k.running with
  | none => s
  | some i =>
    let r : RunOut := { core := c, pc := pc, inv := i, staged := k.staged, latch := k.latch, ending := e }
    let keep := e.good || i.check
    let s := (s.setCore c { k.stop with finished := if keep then k.finished ++ [r] else k.finished }).startNext c
    if keep then s else s.endBad c i pc e

/-- A core fault stops the invocation at the faulting instruction (R164). -/
def State.vcFault (c : Core) (code : U8) (addr : U64) (s : State) : State := s.endRun c (s.core c).pc (.fault code addr)

/-! ## Commit (R130 to R132, R162, R163) -/

/-- One staged block as it will be written. -/
structure CommitBlk where
  write : BlkWrite
  attempts : List Nat
  nonfin : Bool
  bad : Bool
  sat : Nat
  conv : Nat

/-- What a masked element of a staged block keeps: the stored block's codes, or the stored W of a C block (R130), and whether they
read poisoned (R64). -/
def State.keptCodes (unit : Nat) (e : TensorEntry) (st : Stream) (idx : Nat) (s : State) : List Nat × Bool × State :=
  let n := fmtMax (e.fmt st)
  if st = .c then s.readStream unit e .w (idx * n) (idx * n + e.elemsIn st idx)
  else
    match tierOf (e.blockOff st idx 0) with
    | none => ([], false, s)
    | some t =>
      let (x, s) := s.readBlock unit t (e.blockOff st idx 0)
      ((List.range (e.elemsIn st idx)).map (elemBits (e.fmt st) x.pay), x.poison, s)

/-- The element codes a staged block writes, under the mask from element lo on (R130). -/
def State.commitBlock (unit : Nat) (e : TensorEntry) (step : U32) (latch : Bool) (m : MaskRead) (lo : Nat) (b : StagedBlk) (s : State) :
    CommitBlk × State :=
  let fmt := e.fmt b.stream
  let idx := b.idx.toNat
  let at_ (i : Nat) : Nat := idx * fmtMax fmt + i
  let off := s.writeOff e b.stream idx
  let frozen (i : Nat) : Bool := m.on && decide (lo ≤ at_ i) && m.bits.getD (at_ i - lo) false
  let n := e.elemsIn b.stream idx
  let (old, bad, s) := if (List.range n).any frozen then s.keptCodes unit e b.stream idx else ([], false, s)
  let one (i : Nat) : Rounded × Bool × Bool :=
    let new := elemBits fmt b.data i
    let was := old.getD i 0
    if frozen i then
      if b.stream = .c then (convertTo fmt (v32 (codeValue 2 was)), true, false) else ({ bits := was }, true, new != was)
    else ({ bits := new, flag := !(valueOf fmt new).isFinite }, false, false)
  let es := (List.range n).map one
  let codes := es.map (·.1.bits)
  let h := s.stateHeader e step b.stream idx off codes (latch || bad) (m.on && m.any) b.conv
  ({ write := ⟨b.stream, idx, off, (⟨h, packElems fmt codes⟩ : Block).seal⟩
     attempts := (es.zipIdx.filter (fun x => x.1.2.2)).map (fun x => at_ x.2)
     nonfin := b.stream.isState && es.any (fun x => !x.2.1 && x.1.flag), bad := bad
     sat := (es.filter (fun x => x.1.sat)).length, conv := (es.filter (fun x => x.1.nonfin)).length }, s)

def State.commitBlocks (unit : Nat) (e : TensorEntry) (step : U32) (latch : Bool) (m : MaskRead) (lo : Nat) (bs : List StagedBlk)
    (s : State) : List CommitBlk × State :=
  bs.foldl (fun (acc : List CommitBlk × State) b =>
    let (x, s) := acc.2.commitBlock unit e step latch m lo b
    (acc.1 ++ [x], s)) ([], s)

/-- Masked elements that the staged blocks cover. -/
def maskedIn (e : TensorEntry) (bs : List StagedBlk) (m : MaskRead) (lo : Nat) : Nat :=
  let covered (j : Nat) : Bool := bs.any (fun b =>
    let n := fmtMax (e.fmt b.stream)
    decide (b.idx.toNat * n ≤ j) && decide (j < b.idx.toNat * n + e.elemsIn b.stream b.idx.toNat))
  if m.on then ((List.range m.bits.length).filter (fun i => m.bits.getD i false && covered (lo + i))).length else 0

/-- The MASK block covering an invocation's window, where a block that it stages carries the flag (R40, R162, R163). -/
def State.commitMask (unit : Nat) (e : TensorEntry) (d : DispWin) (bs : List StagedBlk) (s : State) : MaskRead × State :=
  let lo := firstElem s d
  let on := s.maskFlag e (bs.map (·.stream)) lo (lo + d.g.length)
  s.fetchMask unit e on on lo (lo + d.g.length)

/-! ## The staging area (R162, R207) -/

/-- The VSTAGE offset of a place of a core: 128 blocks for each core, core 0 first (notes/assumptions/79.md). -/
def State.stageOff (s : State) (c : Core) (place : Nat) : Option Nat :=
  (s.regionOfKind 4).map (fun r => r.payOff + 4096 * (128 * c.val + place))

/-- The lowest place of a core that no staged block holds. -/
def CoreState.freePlace (k : CoreState) : Nat :=
  let used := (k.staged ++ k.finished.flatMap (·.staged)).map (·.place)
  ((List.range 128).find? (fun i => !used.contains i)).getD 0

/-- A block is copied into the staging area: its sectors are written whole (R214). -/
def State.stageWrite (c : Core) (place : Nat) (s : State) : State :=
  match s.stageOff c place with
  | some off => { s with mem := s.mem.heal .h off 4096 }
  | none => s

/-- The staged blocks of a run are read at its commit; true when a sector of them is uncorrectable (R223). -/
def State.stageRead (c : Core) (bs : List StagedBlk) (s : State) : Bool × State :=
  bs.foldl (fun (acc : Bool × State) b =>
    match acc.2.stageOff c b.place with
    | some off =>
      (acc.1 || (acc.2.suspects .h off 4096).any (fun a => acc.2.uncorrectable .h a), acc.2.readRange .h off 4096)
    | none => acc) (false, s)

def State.dropFinished (r : RunOut) (s : State) : State :=
  let k := s.core r.core
  s.setCore r.core { k with finished := k.finished.erase r }

/-- The staged blocks of a run are written (R162); the state before any write is kept while a page waits (R143). The second
part tells whether the commit is done. -/
def State.commitRun (e : TensorEntry) (r : RunOut) (s : State) : State × Bool :=
  let unit := unitCore r.core
  let d := r.inv.win
  let blk0 : U32 := BitVec.ofNat 32 (s.firstG d)
  let (m, s) := s.commitMask unit e d r.staged
  if m.poison then
    let s := { s with upd := { s.upd with poisonWins := bump s.upd.poisonWins } }
    ((s.dropFinished r).failShard d.ts d.step 0x2102 blk0, true)
  else
    let offs := r.staged.map (fun b => s.writeOff e b.stream b.idx.toNat)
    let (wait, s) := s.mustWait offs
    if wait then (s, false)
    else
      let (lost, s) := s.stageRead r.core r.staged
      let latch := r.latch || lost
      let (cs, s) := s.commitBlocks unit e d.step latch m (firstElem s d) r.staged
      let masked := maskedIn e r.staged m (firstElem s d)
      let atts := (cs.flatMap (·.attempts)).eraseDups
      let s := s.dropFinished r
      let s := (cs.foldl (fun s c => s.commitWrite e d.step d.w c.write) s).touchDone offs
      let s := s.countFrozen unit e d.step masked atts.length atts.min?
      let s := if cs.any (·.nonfin) then s.countNonfinite unit e d.step else s
      let s := s.countConv ((cs.map (·.sat)).sum) ((cs.map (·.conv)).sum)
      let s := s.setEntry e.ts 1 (fun e => { e with applied := bump e.applied })
      let s := { s with vec := { s.vec with
        committed := bump s.vec.committed, blkCommitted := bumpBy s.vec.blkCommitted cs.length } }
      let s := s.traceWindow unit d.ts d.w d.step
      let s := if e.pclass == 2 && s.paired then offs.foldl (fun s off => s.sendMirror off) s else s
      let s := if latch || cs.any (·.bad) then s.failShard d.ts d.step 0x2102 blk0 else s
      (s.countWritten d.ts d.w d.step, true)

/-- A run that stands is committed, or ends badly; quarantined and halted shards are left unchanged (R126, R133). -/
def State.settleRun (r : RunOut) (s : State) : State × Bool :=
  match s.ownerOf r.inv.win.ts with
  | none => (s.dropFinished r, true)
  | some e =>
    if !r.ending.good then ((s.dropFinished r).endBad r.core r.inv r.pc r.ending, true)
    else if e.status = .quarantined then
      ({ s.dropFinished r with upd := { s.upd with skewRefusals := bump s.upd.skewRefusals } }, true)
    else if e.status = .halted then
      ({ s.dropFinished r with upd := { s.upd with haltedWins := bump s.upd.haltedWins } }, true)
    else s.commitRun e r

/-! ## Re-execution (R158, R166) -/

/-- An invocation runs again on another enabled core, on which it waits for room; on its own core when no other is enabled and its
own is; else its window goes back to the dispatcher. -/
def State.redispatch (c : Core) (i : Invoc) (s : State) : State :=
  match s.pickCore (0x8100 + i.entry.toNat) [c] with
  | some b =>
    if (s.core b).load < 2 then s.place b i else { s with vec := { s.vec with again := s.vec.again ++ [(c, i)] } }
  | none =>
    if s.vec.coresOn.getLsbD c.val then s.place c i
    else if i.check then s.uncheck i
    else { s with upd := { s.upd with disp := s.upd.disp ++ [i.win] } }

/-- The invocations of a core taken out of service are dispatched again (R158). -/
def State.drainCore (c : Core) (s : State) : State :=
  let k := s.core c
  let s := s.setCore c { k.stop with queue := none }
  (k.running.toList ++ k.queue.toList).foldl (fun s i => s.redispatch c i) s

end Sys2Proof.Machine
end

