-- ==== Sys2Proof/Machine/Instrs.lean ====
section
/-! DEFINITION. The instructions of the vector cores (R169 to R175). -/
namespace Sys2Proof.Machine
open Sys2Proof

/-! ## System instructions (R160, R171) -/

/-- SYS NOP (R171). -/
def execSysNop (c : Core) (s : State) : Host.Outcome State Fault Refusal := .next (s.regOp c [] id)

/-- END waits for the BSTB copies and the BLDBs that are outstanding (R161). -/
def endOp (c : Core) (xa : BitVec 5) (s : State) : State :=
  let k := s.core c
  if !k.issues [.x xa.toNat] then s
  else
    let v : U8 := (k.xr xa).setWidth 8
    if k.copying then s.setCore c { k.issued with endWait := some v } else (s.setCore c k.issued).endRun c k.pc (.status v)

/-- END (R160). -/
def execEndOp (c : Core) (xa : BitVec 5) (s : State) : Host.Outcome State Fault Refusal := .next (endOp c xa s)

def faultOp (c : Core) (xa : BitVec 5) (s : State) : State :=
  let k := s.core c
  if k.issues [.x xa.toNat] then (s.setCore c k.issued).vcFault c 8 (k.xr xa &&& 0xFFFF#64) else s

/-- FAULT (R171). -/
def execFaultOp (c : Core) (xa : BitVec 5) (s : State) : Host.Outcome State Fault Refusal := .next (faultOp c xa s)

/-! ## VE (R170) -/

def refsVe (a : VeArgs) : List RegRef := [.v a.vd.toNat, .v a.va.toNat, if a.s then .f a.vb.toNat else .v a.vb.toNat]

/-- An element operation in every guarded lane; source c is the destination's prior value. -/
def CoreState.ve (code : Nat) (a : VeArgs) (k : CoreState) : CoreState :=
  k.mapV a.vd a.pg fun i =>
    let old := (k.vr a.vd)[i]
    (elem32 code a.absa a.negb (k.vr a.va)[i] (if a.s then k.fr32 a.vb else (k.vr a.vb)[i]) old).getD old

def State.veOp (code : Nat) (c : Core) (a : VeArgs) (s : State) : State := s.regOp c (refsVe a) (CoreState.ve code a)

/-- CVT in every guarded lane (R170). -/
def CoreState.veCvt (a : VeArgs) (k : CoreState) : CoreState × List Rounded :=
  let one (i : Fin 32) : U32 × Rounded :=
    let x := (k.vr a.va)[i]
    cvt32 (a.vb.toNat % 16) (if a.absa then r32 (v32 x).absV else x)
  (k.mapV a.vd a.pg (fun i => (one i).1), (k.guarded a.pg).map (fun i => (one i).2))

/-- VE NOP (R170). -/
def execVeNop (c : Core) (a : VeArgs) (s : State) : Host.Outcome State Fault Refusal := .next (s.regOp c (refsVe a) id)

/-- VE MOV (R170). -/
def execVeMov (c : Core) (a : VeArgs) (s : State) : Host.Outcome State Fault Refusal := .next (s.veOp 0x03 c a)

/-- VE ADD (R170). -/
def execVeAdd (c : Core) (a : VeArgs) (s : State) : Host.Outcome State Fault Refusal := .next (s.veOp 0x04 c a)

/-- VE SUB (R170). -/
def execVeSub (c : Core) (a : VeArgs) (s : State) : Host.Outcome State Fault Refusal := .next (s.veOp 0x05 c a)

/-- VE MUL (R170). -/
def execVeMul (c : Core) (a : VeArgs) (s : State) : Host.Outcome State Fault Refusal := .next (s.veOp 0x06 c a)

/-- VE FMA (R170). -/
def execVeFma (c : Core) (a : VeArgs) (s : State) : Host.Outcome State Fault Refusal := .next (s.veOp 0x07 c a)

/-- VE FMS (R170). -/
def execVeFms (c : Core) (a : VeArgs) (s : State) : Host.Outcome State Fault Refusal := .next (s.veOp 0x08 c a)

/-- VE DIV (R170). -/
def execVeDiv (c : Core) (a : VeArgs) (s : State) : Host.Outcome State Fault Refusal := .next (s.veOp 0x09 c a)

/-- VE SQRT (R170). -/
def execVeSqrt (c : Core) (a : VeArgs) (s : State) : Host.Outcome State Fault Refusal := .next (s.veOp 0x0A c a)

/-- VE RSQRT (R170). -/
def execVeRsqrt (c : Core) (a : VeArgs) (s : State) : Host.Outcome State Fault Refusal := .next (s.veOp 0x0B c a)

/-- VE RCP (R170). -/
def execVeRcp (c : Core) (a : VeArgs) (s : State) : Host.Outcome State Fault Refusal := .next (s.veOp 0x0C c a)

/-- VE MAX (R170). -/
def execVeMax (c : Core) (a : VeArgs) (s : State) : Host.Outcome State Fault Refusal := .next (s.veOp 0x0D c a)

/-- VE MIN (R170). -/
def execVeMin (c : Core) (a : VeArgs) (s : State) : Host.Outcome State Fault Refusal := .next (s.veOp 0x0E c a)

/-- VE ABS (R170). -/
def execVeAbs (c : Core) (a : VeArgs) (s : State) : Host.Outcome State Fault Refusal := .next (s.veOp 0x0F c a)

/-- VE NEG (R170). -/
def execVeNeg (c : Core) (a : VeArgs) (s : State) : Host.Outcome State Fault Refusal := .next (s.veOp 0x10 c a)

/-- VE SIGN (R170). -/
def execVeSign (c : Core) (a : VeArgs) (s : State) : Host.Outcome State Fault Refusal := .next (s.veOp 0x11 c a)

/-- VE SEL (R170). -/
def execVeSel (c : Core) (a : VeArgs) (s : State) : Host.Outcome State Fault Refusal := .next (s.veOp 0x12 c a)

/-- VE CMPLT (R170). -/
def execVeCmplt (c : Core) (a : VeArgs) (s : State) : Host.Outcome State Fault Refusal := .next (s.veOp 0x13 c a)

/-- VE CMPLE (R170). -/
def execVeCmple (c : Core) (a : VeArgs) (s : State) : Host.Outcome State Fault Refusal := .next (s.veOp 0x14 c a)

/-- VE CMPEQ (R170). -/
def execVeCmpeq (c : Core) (a : VeArgs) (s : State) : Host.Outcome State Fault Refusal := .next (s.veOp 0x15 c a)

/-- VE CLAMP (R170). -/
def execVeClamp (c : Core) (a : VeArgs) (s : State) : Host.Outcome State Fault Refusal := .next (s.veOp 0x16 c a)

/-- VE CVT (R170). -/
def execVeCvt (c : Core) (a : VeArgs) (s : State) : Host.Outcome State Fault Refusal := .next (s.convOp c (refsVe a) (CoreState.veCvt a))

/-! ## VC (R171) -/

def refsVc (a : VcArgs) : List RegRef := [.v a.va.toNat, if a.s then .f a.vb.toNat else .v a.vb.toNat]

/-- The compare of a lane. -/
def vcLane (code : Nat) (absa negb : Bool) (a b : U32) : Bool :=
  let av := if absa then (v32 a).absV else v32 a
  let bv := if negb then (v32 b).negate else v32 b
  if code = 0x12 then av.truth else ((elemOp code av bv bv).getD (boolV false)).truth

def combineP (combine : BitVec 2) (old r : U32) : U32 :=
  match combine.toNat with
  | 0 => r
  | 1 => old &&& r
  | 2 => old ||| r
  | _ => old &&& ~~~ r

/-- The word whose bit i is f i. -/
def maskOf (f : Fin 32 → Bool) : U32 := (List.finRange 32).foldl (fun m i => if f i then m ||| (1#32 <<< i.val) else m) 0

def CoreState.vc (code : Nat) (a : VcArgs) (k : CoreState) : CoreState :=
  let r := maskOf fun i => (k.pr a.pg).getLsbD i.val &&
    vcLane code a.absa a.negb (k.vr a.va)[i] (if a.s then k.fr32 a.vb else (k.vr a.vb)[i])
  k.setP a.pd (combineP a.combine (k.pr a.pd) r)

/-- TEST (R171). -/
def execTest (c : Core) (a : VcArgs) (s : State) : Host.Outcome State Fault Refusal := .next (s.regOp c (refsVc a) (CoreState.vc 0x12 a))

/-- VC CMPLT (R171). -/
def execVcCmplt (c : Core) (a : VcArgs) (s : State) : Host.Outcome State Fault Refusal := .next (s.regOp c (refsVc a) (CoreState.vc 0x13 a))

/-- VC CMPLE (R171). -/
def execVcCmple (c : Core) (a : VcArgs) (s : State) : Host.Outcome State Fault Refusal := .next (s.regOp c (refsVc a) (CoreState.vc 0x14 a))

/-- VC CMPEQ (R171). -/
def execVcCmpeq (c : Core) (a : VcArgs) (s : State) : Host.Outcome State Fault Refusal := .next (s.regOp c (refsVc a) (CoreState.vc 0x15 a))

/-! ## VI (R171) -/

def refsVi (a : ViArgs) : List RegRef := [.v a.vd.toNat, .v a.va.toNat, if a.s then .x a.vb.toNat else .v a.vb.toNat]

/-- A 32-bit integer operation in every guarded lane. -/
def CoreState.vi (f : U32 → U32 → U32) (a : ViArgs) (k : CoreState) : CoreState :=
  k.mapV a.vd a.pg fun i => f (k.vr a.va)[i] (if a.s then (k.xr a.vb).setWidth 32 else (k.vr a.vb)[i])

/-- IADD (R171). -/
def execIadd (c : Core) (a : ViArgs) (s : State) : Host.Outcome State Fault Refusal := .next (s.regOp c (refsVi a) (CoreState.vi (fun x y => x + y) a))

/-- ISUB (R171). -/
def execIsub (c : Core) (a : ViArgs) (s : State) : Host.Outcome State Fault Refusal := .next (s.regOp c (refsVi a) (CoreState.vi (fun x y => x - y) a))

/-- IMUL (R171). -/
def execImul (c : Core) (a : ViArgs) (s : State) : Host.Outcome State Fault Refusal := .next (s.regOp c (refsVi a) (CoreState.vi (fun x y => x * y) a))

/-- IAND (R171). -/
def execIand (c : Core) (a : ViArgs) (s : State) : Host.Outcome State Fault Refusal := .next (s.regOp c (refsVi a) (CoreState.vi (fun x y => x &&& y) a))

/-- IOR (R171). -/
def execIor (c : Core) (a : ViArgs) (s : State) : Host.Outcome State Fault Refusal := .next (s.regOp c (refsVi a) (CoreState.vi (fun x y => x ||| y) a))

/-- IXOR (R171). -/
def execIxor (c : Core) (a : ViArgs) (s : State) : Host.Outcome State Fault Refusal := .next (s.regOp c (refsVi a) (CoreState.vi (fun x y => x ^^^ y) a))

/-- ISHL (R171). -/
def execIshl (c : Core) (a : ViArgs) (s : State) : Host.Outcome State Fault Refusal := .next (s.regOp c (refsVi a) (CoreState.vi (fun x y => x <<< (y.toNat % 32)) a))

/-- ISHR (R171). -/
def execIshr (c : Core) (a : ViArgs) (s : State) : Host.Outcome State Fault Refusal := .next (s.regOp c (refsVi a) (CoreState.vi (fun x y => x >>> (y.toNat % 32)) a))

/-- ISRA (R171). -/
def execIsra (c : Core) (a : ViArgs) (s : State) : Host.Outcome State Fault Refusal := .next (s.regOp c (refsVi a) (CoreState.vi (fun x y => x.sshiftRight (y.toNat % 32)) a))

/-- IMINU (R171). -/
def execIminu (c : Core) (a : ViArgs) (s : State) : Host.Outcome State Fault Refusal := .next (s.regOp c (refsVi a) (CoreState.vi (fun x y => if y < x then y else x) a))

/-- IMAXU (R171). -/
def execImaxu (c : Core) (a : ViArgs) (s : State) : Host.Outcome State Fault Refusal := .next (s.regOp c (refsVi a) (CoreState.vi (fun x y => if x < y then y else x) a))

/-- FP32 to INT32, saturating (R171). -/
def f2i (x : U32) : Rounded := roundInt 32 (-2147483648) 2147483647 (v32 x)

def CoreState.vF2i (a : ViArgs) (k : CoreState) : CoreState × List Rounded :=
  (k.mapV a.vd a.pg (fun i => BitVec.ofNat 32 (f2i (k.vr a.va)[i]).bits), (k.guarded a.pg).map (fun i => f2i (k.vr a.va)[i]))

/-- F2I (R171). -/
def execF2i (c : Core) (a : ViArgs) (s : State) : Host.Outcome State Fault Refusal := .next (s.convOp c (refsVi a) (CoreState.vF2i a))

/-- I2F (R171). -/
def execI2f (c : Core) (a : ViArgs) (s : State) : Host.Outcome State Fault Refusal := .next (s.regOp c (refsVi a) (CoreState.vi (fun x _ => r32 (ofIntV x.toInt)) a))

/-- IIDX (R171). -/
def execIidx (c : Core) (a : ViArgs) (s : State) : Host.Outcome State Fault Refusal := .next (s.regOp c [.v a.vd.toNat] (fun k => k.mapV a.vd a.pg (fun i => BitVec.ofNat 32 i.val)))

/-! ## VRED (R171) -/

/-- The values of the guarded lanes. -/
def CoreState.lanesOf (a : VredArgs) (k : CoreState) : List Fv := (k.guarded a.pg).map (fun i => v32 (k.vr a.va)[i])

/-- A reduction: the exact fold of the lanes, rounded once; none is the value without a guarded lane. -/
def CoreState.vred (f : Fv → Fv → Fv) (none_ : Fv) (a : VredArgs) (k : CoreState) : CoreState :=
  k.setF32 a.fd (r32 (match k.lanesOf a with
    | [] => none_
    | v :: vs => vs.foldl f v))

def refsVred (a : VredArgs) : List RegRef := [.f a.fd.toNat, .v a.va.toNat]

/-- VRED ADD (R171). -/
def execVredAdd (c : Core) (a : VredArgs) (s : State) : Host.Outcome State Fault Refusal := .next (s.regOp c (refsVred a) (CoreState.vred addV (.fin false 0 0) a))

/-- VRED MAX (R171). -/
def execVredMax (c : Core) (a : VredArgs) (s : State) : Host.Outcome State Fault Refusal := .next (s.regOp c (refsVred a) (CoreState.vred maxV (.inf true) a))

/-- VRED MIN (R171). -/
def execVredMin (c : Core) (a : VredArgs) (s : State) : Host.Outcome State Fault Refusal := .next (s.regOp c (refsVred a) (CoreState.vred minV (.inf false) a))

/-! ## VMOV (R171) -/

/-- A lane number in bits [4:0]. -/
def laneIx (n : Nat) : Fin 32 := ⟨n % 32, Nat.mod_lt _ (by decide)⟩

/-- VBCAST (R171). -/
def execVbcast (c : Core) (a : VmovArgs) (s : State) : Host.Outcome State Fault Refusal := .next (s.regOp c [.v a.d.toNat, .f a.a.toNat] (fun k => k.mapV a.d a.pg (fun _ => k.fr32 a.a)))

/-- VBCASTX (R171). -/
def execVbcastx (c : Core) (a : VmovArgs) (s : State) : Host.Outcome State Fault Refusal := .next (s.regOp c [.v a.d.toNat, .x a.a.toNat] (fun k => k.mapV a.d a.pg (fun _ => (k.xr a.a).setWidth 32)))

/-- VEXT (R171). -/
def execVext (c : Core) (a : VmovArgs) (s : State) : Host.Outcome State Fault Refusal := .next (s.regOp c [.f a.d.toNat, .v a.a.toNat, .x a.b.toNat]
    (fun k => k.setF32 a.d (k.vr a.a)[laneIx (k.xr a.b).toNat]))

/-- VINS (R171). -/
def execVins (c : Core) (a : VmovArgs) (s : State) : Host.Outcome State Fault Refusal := .next (s.regOp c [.v a.d.toNat, .f a.a.toNat, .x a.b.toNat]
    (fun k => k.setV a.d ((k.vr a.d).set (laneIx (k.xr a.b).toNat) (k.fr32 a.a))))

/-- VMOVR (R171). -/
def execVmovr (c : Core) (a : VmovArgs) (s : State) : Host.Outcome State Fault Refusal := .next (s.regOp c [.v a.d.toNat, .v a.a.toNat] (fun k => k.mapV a.d a.pg (fun i => (k.vr a.a)[i])))

/-- VPERM (R171). -/
def execVperm (c : Core) (a : VmovArgs) (s : State) : Host.Outcome State Fault Refusal := .next (s.regOp c [.v a.d.toNat, .v a.a.toNat, .v a.b.toNat]
    (fun k => k.mapV a.d a.pg (fun i => (k.vr a.a)[laneIx ((k.vr a.b)[i]).toNat])))

/-! ## PR (R171) -/

/-- A predicate operation. -/
def CoreState.prOp (f : U32 → U32 → U32) (a : PrArgs) (k : CoreState) : CoreState := k.setP a.pd (f (k.pr a.pa) (k.pr a.pb))

/-- PAND (R171). -/
def execPand (c : Core) (a : PrArgs) (s : State) : Host.Outcome State Fault Refusal := .next (s.regOp c [] (CoreState.prOp (fun x y => x &&& y) a))

/-- POR (R171). -/
def execPor (c : Core) (a : PrArgs) (s : State) : Host.Outcome State Fault Refusal := .next (s.regOp c [] (CoreState.prOp (fun x y => x ||| y) a))

/-- PXOR (R171). -/
def execPxor (c : Core) (a : PrArgs) (s : State) : Host.Outcome State Fault Refusal := .next (s.regOp c [] (CoreState.prOp (fun x y => x ^^^ y) a))

/-- PANDN (R171). -/
def execPandn (c : Core) (a : PrArgs) (s : State) : Host.Outcome State Fault Refusal := .next (s.regOp c [] (CoreState.prOp (fun x y => x &&& ~~~ y) a))

/-- PNOT (R171). -/
def execPnot (c : Core) (a : PrArgs) (s : State) : Host.Outcome State Fault Refusal := .next (s.regOp c [] (CoreState.prOp (fun x _ => ~~~ x) a))

/-- PSET (R171). -/
def execPset (c : Core) (a : PrArgs) (s : State) : Host.Outcome State Fault Refusal := .next (s.regOp c [] (CoreState.prOp (fun _ _ => 0xFFFFFFFF) a))

/-- PCLR (R171). -/
def execPclr (c : Core) (a : PrArgs) (s : State) : Host.Outcome State Fault Refusal := .next (s.regOp c [] (CoreState.prOp (fun _ _ => 0) a))

/-- PCOUNT (R171). -/
def execPcount (c : Core) (a : PrArgs) (s : State) : Host.Outcome State Fault Refusal := .next (s.regOp c [.x a.x.toNat]
    (fun k => k.setX a.x (BitVec.ofNat 64 ((List.range 32).filter (k.pr a.pa).getLsbD).length)))

/-- PTOX (R171). -/
def execPtox (c : Core) (a : PrArgs) (s : State) : Host.Outcome State Fault Refusal := .next (s.regOp c [.x a.x.toNat] (fun k => k.setX a.x ((k.pr a.pa).setWidth 64)))

/-- PFROMX (R171). -/
def execPfromx (c : Core) (a : PrArgs) (s : State) : Host.Outcome State Fault Refusal := .next (s.regOp c [.x a.x.toNat] (fun k => k.setP a.pd ((k.xr a.x).setWidth 32)))

/-- PFIRST (R171). -/
def execPfirst (c : Core) (a : PrArgs) (s : State) : Host.Outcome State Fault Refusal := .next (s.regOp c [.x a.x.toNat]
    (fun k => k.setX a.x (BitVec.ofNat 64 (((List.range 32).find? (k.pr a.pa).getLsbD).getD 32))))

/-- PLT (R171). -/
def execPlt (c : Core) (a : PrArgs) (s : State) : Host.Outcome State Fault Refusal := .next (s.regOp c [.x a.x.toNat]
    (fun k => k.setP a.pd (maskOf (fun i => decide (i.val < (k.xr a.x).toNat)))))

/-! ## XR and XI (R171) -/

/-- A 64-bit operation on two X registers. -/
def CoreState.xr2 (f : U64 → U64 → U64) (a : XrArgs) (k : CoreState) : CoreState := k.setX a.xd (f (k.xr a.xa) (k.xr a.xb))
def refsXr (a : XrArgs) : List RegRef := [.x a.xd.toNat, .x a.xa.toNat, .x a.xb.toNat]

/-- XR ADD (R171). -/
def execXrAdd (c : Core) (a : XrArgs) (s : State) : Host.Outcome State Fault Refusal := .next (s.regOp c (refsXr a) (CoreState.xr2 (fun x y => x + y) a))

/-- XR SUB (R171). -/
def execXrSub (c : Core) (a : XrArgs) (s : State) : Host.Outcome State Fault Refusal := .next (s.regOp c (refsXr a) (CoreState.xr2 (fun x y => x - y) a))

/-- XR MUL (R171). -/
def execXrMul (c : Core) (a : XrArgs) (s : State) : Host.Outcome State Fault Refusal := .next (s.regOp c (refsXr a) (CoreState.xr2 (fun x y => x * y) a))

/-- MULHU (R171). -/
def execMulhu (c : Core) (a : XrArgs) (s : State) : Host.Outcome State Fault Refusal := .next (s.regOp c (refsXr a) (CoreState.xr2 (fun x y => BitVec.ofNat 64 (x.toNat * y.toNat / 2 ^ 64)) a))

/-- DIVU (R171). -/
def execDivu (c : Core) (a : XrArgs) (s : State) : Host.Outcome State Fault Refusal := .next (s.regOp c (refsXr a) (CoreState.xr2 (fun x y => if y = 0 then BitVec.allOnes 64 else x / y) a))

/-- REMU (R171). -/
def execRemu (c : Core) (a : XrArgs) (s : State) : Host.Outcome State Fault Refusal := .next (s.regOp c (refsXr a) (CoreState.xr2 (fun x y => if y = 0 then x else x % y) a))

/-- XR AND (R171). -/
def execXrAnd (c : Core) (a : XrArgs) (s : State) : Host.Outcome State Fault Refusal := .next (s.regOp c (refsXr a) (CoreState.xr2 (fun x y => x &&& y) a))

/-- XR OR (R171). -/
def execXrOr (c : Core) (a : XrArgs) (s : State) : Host.Outcome State Fault Refusal := .next (s.regOp c (refsXr a) (CoreState.xr2 (fun x y => x ||| y) a))

/-- XR XOR (R171). -/
def execXrXor (c : Core) (a : XrArgs) (s : State) : Host.Outcome State Fault Refusal := .next (s.regOp c (refsXr a) (CoreState.xr2 (fun x y => x ^^^ y) a))

/-- SLL (R171). -/
def execSll (c : Core) (a : XrArgs) (s : State) : Host.Outcome State Fault Refusal := .next (s.regOp c (refsXr a) (CoreState.xr2 (fun x y => x <<< (y.toNat % 64)) a))

/-- SRL (R171). -/
def execSrl (c : Core) (a : XrArgs) (s : State) : Host.Outcome State Fault Refusal := .next (s.regOp c (refsXr a) (CoreState.xr2 (fun x y => x >>> (y.toNat % 64)) a))

/-- SRA (R171). -/
def execSra (c : Core) (a : XrArgs) (s : State) : Host.Outcome State Fault Refusal := .next (s.regOp c (refsXr a) (CoreState.xr2 (fun x y => x.sshiftRight (y.toNat % 64)) a))

/-- SLT (R171). -/
def execSlt (c : Core) (a : XrArgs) (s : State) : Host.Outcome State Fault Refusal := .next (s.regOp c (refsXr a) (CoreState.xr2 (fun x y => if x.slt y then 1 else 0) a))

/-- SLTU (R171). -/
def execSltu (c : Core) (a : XrArgs) (s : State) : Host.Outcome State Fault Refusal := .next (s.regOp c (refsXr a) (CoreState.xr2 (fun x y => if x < y then 1 else 0) a))

/-- MINU (R171). -/
def execMinu (c : Core) (a : XrArgs) (s : State) : Host.Outcome State Fault Refusal := .next (s.regOp c (refsXr a) (CoreState.xr2 (fun x y => if y < x then y else x) a))

/-- MAXU (R171). -/
def execMaxu (c : Core) (a : XrArgs) (s : State) : Host.Outcome State Fault Refusal := .next (s.regOp c (refsXr a) (CoreState.xr2 (fun x y => if x < y then y else x) a))

/-- A 64-bit operation on an X register and the sign-extended immediate. -/
def CoreState.xi2 (f : U64 → U64 → U64) (a : XiArgs) (k : CoreState) : CoreState :=
  k.setX a.xd (f (k.xr a.xa) (a.imm.signExtend 64))
def refsXi (a : XiArgs) : List RegRef := [.x a.xd.toNat, .x a.xa.toNat]

/-- ADDI (R171). -/
def execAddi (c : Core) (a : XiArgs) (s : State) : Host.Outcome State Fault Refusal := .next (s.regOp c (refsXi a) (CoreState.xi2 (fun x y => x + y) a))

/-- ANDI (R171). -/
def execAndi (c : Core) (a : XiArgs) (s : State) : Host.Outcome State Fault Refusal := .next (s.regOp c (refsXi a) (CoreState.xi2 (fun x y => x &&& y) a))

/-- ORI (R171). -/
def execOri (c : Core) (a : XiArgs) (s : State) : Host.Outcome State Fault Refusal := .next (s.regOp c (refsXi a) (CoreState.xi2 (fun x y => x ||| y) a))

/-- XORI (R171). -/
def execXori (c : Core) (a : XiArgs) (s : State) : Host.Outcome State Fault Refusal := .next (s.regOp c (refsXi a) (CoreState.xi2 (fun x y => x ^^^ y) a))

/-- SLTI (R171). -/
def execSlti (c : Core) (a : XiArgs) (s : State) : Host.Outcome State Fault Refusal := .next (s.regOp c (refsXi a) (CoreState.xi2 (fun x y => if x.slt y then 1 else 0) a))

/-- SLTIU (R171). -/
def execSltiu (c : Core) (a : XiArgs) (s : State) : Host.Outcome State Fault Refusal := .next (s.regOp c (refsXi a) (CoreState.xi2 (fun x y => if x < y then 1 else 0) a))

/-- SLLI (R171). -/
def execSlli (c : Core) (a : XiArgs) (s : State) : Host.Outcome State Fault Refusal := .next (s.regOp c (refsXi a) (CoreState.xi2 (fun x y => x <<< (y.toNat % 64)) a))

/-- SRLI (R171). -/
def execSrli (c : Core) (a : XiArgs) (s : State) : Host.Outcome State Fault Refusal := .next (s.regOp c (refsXi a) (CoreState.xi2 (fun x y => x >>> (y.toNat % 64)) a))

/-- SRAI (R171). -/
def execSrai (c : Core) (a : XiArgs) (s : State) : Host.Outcome State Fault Refusal := .next (s.regOp c (refsXi a) (CoreState.xi2 (fun x y => x.sshiftRight (y.toNat % 64)) a))

/-- LUI (R169). -/
def execLui (c : Core) (xd : BitVec 5) (imm : BitVec 21) (s : State) : Host.Outcome State Fault Refusal := .next (s.regOp c [.x xd.toNat] (fun k => k.setX xd (imm.signExtend 64 <<< 11)))

/-! ## Branches and jumps (R169, R171) -/

/-- The byte offset reached by a signed word offset from an instruction. -/
def CoreState.target {n : Nat} (k : CoreState) (off : BitVec n) : U32 := k.pc + (off.signExtend 32 <<< 2)

def brTaken (cond : BitVec 3) (x y : U64) : Bool :=
  match cond.toNat with
  | 0 => x == y
  | 1 => x != y
  | 2 => x.slt y
  | 3 => !x.slt y
  | 4 => decide (x < y)
  | 5 => decide (y ≤ x)
  | _ => false

def bpTaken (cond : BitVec 2) (p : U32) : Bool :=
  match cond.toNat with
  | 0 => p != 0
  | 1 => p == 0
  | 2 => p == 0xFFFFFFFF
  | _ => p != 0xFFFFFFFF

/-- BR (R171). -/
def execBr (c : Core) (xa xb : BitVec 5) (cond : BitVec 3) (off : BitVec 13) (s : State) : Host.Outcome State Fault Refusal := .next (s.jumpOp c [.x xa.toNat, .x xb.toNat]
    (fun k => if brTaken cond (k.xr xa) (k.xr xb) then { k with pc := k.target off } else { k with pc := k.pc + 4 }))

/-- JAL (R169). -/
def execJal (c : Core) (xd : BitVec 5) (off : BitVec 21) (s : State) : Host.Outcome State Fault Refusal := .next (s.jumpOp c [.x xd.toNat]
    (fun k => { k.setX xd ((k.pc + 4).setWidth 64) with pc := k.target off }))

/-- The length in bytes of the slot an invocation runs in. -/
def State.slotBytes (s : State) (k : CoreState) : Nat :=
  match k.running with
  | none => 0
  | some i => match s.entryAt i.entry with
    | none => 0
    | some v => if h : v.slot.toNat < 16 then 4 * (s.vec.slots[v.slot.toNat]).words.length else 0

def jalr (c : Core) (xd xa : BitVec 5) (s : State) : State :=
  let k := s.core c
  if !k.issues [.x xd.toNat, .x xa.toNat] then s
  else
    let t := k.xr xa
    if t.toNat % 4 ≠ 0 then s.vcFault c 1 t
    else if t.toNat ≥ s.slotBytes k then s.vcFault c 5 t
    else s.setCore c { k.issued.setX xd ((k.pc + 4).setWidth 64) with pc := t.setWidth 32 }

/-- JALR (R164, R169). -/
def execJalr (c : Core) (xd xa : BitVec 5) (s : State) : Host.Outcome State Fault Refusal := .next (jalr c xd xa s)

/-- BP (R171). -/
def execBp (c : Core) (pn : BitVec 3) (cond : BitVec 2) (off : BitVec 21) (s : State) : Host.Outcome State Fault Refusal := .next (s.jumpOp c []
    (fun k => if bpTaken cond (k.pr pn) then { k with pc := k.target off } else { k with pc := k.pc + 4 }))

/-! ## FOP and FMV (R171) -/

def refsFop (a : FopArgs) : List RegRef := [.f a.fd.toNat, .f a.fa.toNat, .f a.fb.toNat]

/-- A binary64 operation (R171). -/
def elem64 (code : Nat) (absa negb : Bool) (a b c : U64) : Option U64 :=
  let av := if absa then (v64 a).absV else v64 a
  let bv := if negb then (v64 b).negate else v64 b
  (elemOp code av bv (v64 c)).map r64

/-- A scalar element operation; source c is the destination's prior value. RSQRT and RCP are reserved at width 1. -/
def CoreState.fop (code : Nat) (a : FopArgs) (k : CoreState) : CoreState :=
  if a.w then
    if code = 0x0B ∨ code = 0x0C then k
    else match elem64 code a.absa a.negb (k.fr a.fa) (k.fr a.fb) (k.fr a.fd) with
      | some v => k.setF a.fd v
      | none => k
  else match elem32 code a.absa a.negb (k.fr32 a.fa) (k.fr32 a.fb) (k.fr32 a.fd) with
    | some v => k.setF32 a.fd v
    | none => k

def State.fopOp (code : Nat) (c : Core) (a : FopArgs) (s : State) : State := s.regOp c (refsFop a) (CoreState.fop code a)

def CoreState.fopCvt (a : FopArgs) (k : CoreState) : CoreState × List Rounded :=
  let target := a.fb.toNat % 16
  let av : Fv := let v := if a.w then v64 (k.fr a.fa) else v32 (k.fr32 a.fa)
                 if a.absa then v.absV else v
  if !a.w && target == 1 then (k.setF a.fd (r64 av), [])
  else
    let r := convertTo target av
    (k.setF32 a.fd (r32 (valueOf target r.bits)), [r])

/-- FOP NOP (R171). -/
def execFopNop (c : Core) (a : FopArgs) (s : State) : Host.Outcome State Fault Refusal := .next (s.regOp c (refsFop a) id)

/-- FOP MOV (R171). -/
def execFopMov (c : Core) (a : FopArgs) (s : State) : Host.Outcome State Fault Refusal := .next (s.fopOp 0x03 c a)

/-- FOP ADD (R171). -/
def execFopAdd (c : Core) (a : FopArgs) (s : State) : Host.Outcome State Fault Refusal := .next (s.fopOp 0x04 c a)

/-- FOP SUB (R171). -/
def execFopSub (c : Core) (a : FopArgs) (s : State) : Host.Outcome State Fault Refusal := .next (s.fopOp 0x05 c a)

/-- FOP MUL (R171). -/
def execFopMul (c : Core) (a : FopArgs) (s : State) : Host.Outcome State Fault Refusal := .next (s.fopOp 0x06 c a)

/-- FOP FMA (R171). -/
def execFopFma (c : Core) (a : FopArgs) (s : State) : Host.Outcome State Fault Refusal := .next (s.fopOp 0x07 c a)

/-- FOP FMS (R171). -/
def execFopFms (c : Core) (a : FopArgs) (s : State) : Host.Outcome State Fault Refusal := .next (s.fopOp 0x08 c a)

/-- FOP DIV (R171). -/
def execFopDiv (c : Core) (a : FopArgs) (s : State) : Host.Outcome State Fault Refusal := .next (s.fopOp 0x09 c a)

/-- FOP SQRT (R171). -/
def execFopSqrt (c : Core) (a : FopArgs) (s : State) : Host.Outcome State Fault Refusal := .next (s.fopOp 0x0A c a)

/-- FOP RSQRT (R171). -/
def execFopRsqrt (c : Core) (a : FopArgs) (s : State) : Host.Outcome State Fault Refusal := .next (s.fopOp 0x0B c a)

/-- FOP RCP (R171). -/
def execFopRcp (c : Core) (a : FopArgs) (s : State) : Host.Outcome State Fault Refusal := .next (s.fopOp 0x0C c a)

/-- FOP MAX (R171). -/
def execFopMax (c : Core) (a : FopArgs) (s : State) : Host.Outcome State Fault Refusal := .next (s.fopOp 0x0D c a)

/-- FOP MIN (R171). -/
def execFopMin (c : Core) (a : FopArgs) (s : State) : Host.Outcome State Fault Refusal := .next (s.fopOp 0x0E c a)

/-- FOP ABS (R171). -/
def execFopAbs (c : Core) (a : FopArgs) (s : State) : Host.Outcome State Fault Refusal := .next (s.fopOp 0x0F c a)

/-- FOP NEG (R171). -/
def execFopNeg (c : Core) (a : FopArgs) (s : State) : Host.Outcome State Fault Refusal := .next (s.fopOp 0x10 c a)

/-- FOP SIGN (R171). -/
def execFopSign (c : Core) (a : FopArgs) (s : State) : Host.Outcome State Fault Refusal := .next (s.fopOp 0x11 c a)

/-- FOP SEL (R171). -/
def execFopSel (c : Core) (a : FopArgs) (s : State) : Host.Outcome State Fault Refusal := .next (s.fopOp 0x12 c a)

/-- FOP CMPLT (R171). -/
def execFopCmplt (c : Core) (a : FopArgs) (s : State) : Host.Outcome State Fault Refusal := .next (s.fopOp 0x13 c a)

/-- FOP CMPLE (R171). -/
def execFopCmple (c : Core) (a : FopArgs) (s : State) : Host.Outcome State Fault Refusal := .next (s.fopOp 0x14 c a)

/-- FOP CMPEQ (R171). -/
def execFopCmpeq (c : Core) (a : FopArgs) (s : State) : Host.Outcome State Fault Refusal := .next (s.fopOp 0x15 c a)

/-- FOP CLAMP (R171). -/
def execFopClamp (c : Core) (a : FopArgs) (s : State) : Host.Outcome State Fault Refusal := .next (s.fopOp 0x16 c a)

/-- FOP CVT (R171). -/
def execFopCvt (c : Core) (a : FopArgs) (s : State) : Host.Outcome State Fault Refusal := .next (s.convOp c (refsFop a) (CoreState.fopCvt a))

/-- FMVXF (R171): a raw move from F to X. -/
def execFmvxf (c : Core) (d a : BitVec 5) (s : State) : Host.Outcome State Fault Refusal := .next (s.regOp c [.x d.toNat, .f a.toNat] (fun k => k.setX d (k.fr a)))

/-- FMVFX (R171): a raw move from X to F. -/
def execFmvfx (c : Core) (d a : BitVec 5) (s : State) : Host.Outcome State Fault Refusal := .next (s.regOp c [.f d.toNat, .x a.toNat] (fun k => k.setF d (k.xr a)))

/-- FCVTXF (R171). -/
def execFcvtxf (c : Core) (d a : BitVec 5) (s : State) : Host.Outcome State Fault Refusal := .next (s.convOp c [.x d.toNat, .f a.toNat]
    (fun k => let r := roundInt 64 (-(2 ^ 63)) (2 ^ 63 - 1) (v64 (k.fr a)); (k.setX d (BitVec.ofNat 64 r.bits), [r])))

/-- FCVTFX (R171). -/
def execFcvtfx (c : Core) (d a : BitVec 5) (s : State) : Host.Outcome State Fault Refusal := .next (s.regOp c [.f d.toNat, .x a.toNat] (fun k => k.setF d (r64 (ofIntV (k.xr a).toInt))))

/-! ## Memory access (R172 to R174) -/

/-- A global range lies in the device's own tiers and wholly in a work region that grants the access (R172). -/
def State.globalOk (s : State) (k : CoreState) (wr : Bool) (n : Nat) (a : U64) : Bool :=
  cnOfAddr a == s.own && (tierOf (offOf a)).isSome &&
  (match k.running with
   | none => false
   | some i => match s.entryAt i.entry with
     | none => false
     | some v => v.regions.any (fun r => (if wr then r.wr else r.rd) && decide (r.base.toNat ≤ a.toNat) &&
         decide (a.toNat + n ≤ r.base.toNat + r.len.toNat)))

/-- The fault of an access of n bytes, none when it is granted (R164, R172). -/
def State.accessFault (s : State) (k : CoreState) (g wr : Bool) (n : Nat) (a : U64) : Option U8 :=
  if a.toNat % n ≠ 0 then some 2
  else if g then (if s.globalOk k wr n a then none else some 4)
  else if a.toNat < 0x40000 then none else some 3

/-- The first failing lane, with its address. -/
def State.firstFault (s : State) (k : CoreState) (g wr : Bool) (n : Nat) (as : List U64) : Option (U8 × U64) :=
  as.findSome? (fun a => (s.accessFault k g wr n a).map (fun f => (f, a)))

/-- A store of a core waits for its own outstanding load of the same bytes (R174). -/
def PendLoad.bytes (l : PendLoad) : Nat :=
  match l.dest with
  | .x _ size => 2 ^ (size.toNat % 4)
  | .f _ w => if w then 8 else 4
  | .v _ fmt _ => fmtBits fmt.toNat / 8
  | .blk _ _ _ _ => 0
def CoreState.loadsFrom (k : CoreState) (a : U64) (n : Nat) : Bool :=
  k.loads.any (fun l => l.addrs.any (fun b => decide (b.toNat < a.toNat + n) && decide (a.toNat < b.toNat + l.bytes)))

/-- Bytes stored to global memory. -/
def State.storeGlobal (a : U64) (l : List Byte) (s : State) : State :=
  match tierOf (offOf a) with
  | some t => s.writeMem t (offOf a) l
  | none => s

/-- Stores of (address, bytes) in order: the core after them, or none while they wait. -/
def State.storeAll (c : Core) (g : Bool) (ws : List (U64 × List Byte)) (s : State) : Option State :=
  let k := s.core c
  if g then
    if ws.any (fun w => k.loadsFrom w.1 w.2.length) then none
    else some ((ws.foldl (fun s w => s.storeGlobal w.1 w.2) s).setCore c k.next)
  -- a BLDB outstanding into the range comes first in program order (R174)
  else if ws.any (fun w => k.bstbFrom w.1.toNat w.2.length || k.bldbInto w.1.toNat w.2.length) then none
  else some (s.setCore c { k.next with scratch := ws.foldl (fun m w => cellsWrite m w.1.toNat w.2) k.scratch })

/-- The value an X load delivers (R171). -/
def loadX (size : BitVec 3) (l : List Byte) : U64 :=
  match size.toNat with
  | 0 => (field8 l 0).signExtend 64
  | 1 => (field16 l 0).signExtend 64
  | 2 => (field32 l 0).signExtend 64
  | 3 => field64 l 0
  | 4 => (field8 l 0).setWidth 64
  | 5 => (field16 l 0).setWidth 64
  | _ => (field32 l 0).setWidth 64

/-- The value a lane load delivers (R173). -/
def loadLane (fmt : Nat) (l : List Byte) : U32 :=
  let bits := leNat l
  if fmt = 2 ∨ fmt = 10 then BitVec.ofNat 32 bits else r32 (valueOf fmt bits)

/-- The bytes a lane store writes, with its conversion (R173). -/
def storeLane (fmt : Nat) (v : U32) : List Byte × Option Rounded :=
  if fmt = 2 ∨ fmt = 10 then (le32 v, none)
  else let r := convertTo fmt (v32 v); (leBytes (fmtBits fmt / 8) r.bits, some r)

/-- Data delivered to a register. -/
def CoreState.deliver (d : LoadDest) (ls : List (List Byte)) (k : CoreState) : CoreState :=
  match d with
  | .x r size => k.setX r (loadX size (ls.headD []))
  | .f r w => if w then k.setF r (field64 (ls.headD []) 0) else k.setF32 r (field32 (ls.headD []) 0)
  | .v r fmt m =>
    let on := (List.finRange 32).filter (fun i => m.getLsbD i.val)
    k.setV r (Vector.ofFn fun i => match on.findIdx? (· == i) with
      | some n => loadLane fmt.toNat (ls.getD n [])
      | none => (k.vr r)[i])
  | .blk _ _ _ _ => k

/-- A load: a fault, a wait, a delivery from scratch, or an outstanding global load. -/
def State.loadOp (c : Core) (rs : List RegRef) (g : Bool) (n : Nat) (d : LoadDest) (addrs : CoreState → List U64) (s : State) : State :=
  let k := s.core c
  if !k.issues rs then s
  else
    let as := addrs k
    match s.firstFault k g false n as with
    | some (f, a) => s.vcFault c f a
    | none =>
      if g then s.setCore c { k.next with loads := k.loads ++ [⟨k.pc, d, as⟩] }
      else if as.any (fun a => k.bldbInto a.toNat n) then s
      else s.setCore c (k.next.deliver d (as.map (fun a => cellsRead k.scratch a.toNat n)))

/-- A store: a fault, a wait, or the bytes written; the conversions count under R53. -/
def State.storeOp (c : Core) (rs : List RegRef) (g : Bool) (n : Nat) (ws : CoreState → List (U64 × List Byte × Option Rounded))
    (s : State) : State :=
  let k := s.core c
  if !k.issues rs then s
  else
    let xs := ws k
    match s.firstFault k g true n (xs.map (·.1)) with
    | some (f, a) => s.vcFault c f a
    | none =>
      match s.storeAll c g (xs.map (fun x => (x.1, x.2.1))) with
      | some s =>
        let r := xs.filterMap (·.2.2)
        let k := s.core c
        (s.setCore c { k with conv := k.conv || r.any Rounded.marks }).countConv (r.filter Rounded.sat).length (r.filter Rounded.nonfin).length
      | none => s

def CoreState.addrX (k : CoreState) (xa : BitVec 5) (off : BitVec 12) : U64 := k.xr xa + off.signExtend 64

def ldxBytes (size : BitVec 3) : Nat := 2 ^ (size.toNat % 4)

/-- The element size of a vector access. -/
def vmemBytes (a : VmemArgs) : Nat := fmtBits a.fmt.toNat / 8

/-- The lane addresses of a strided access; X0 as stride means the element size. -/
def CoreState.strided (a : VmemArgs) (k : CoreState) : List (Fin 32 × U64) :=
  let st : U64 := if a.xb == 0 then BitVec.ofNat 64 (vmemBytes a) else k.xr a.xb
  (k.guarded a.pg).map (fun i => (i, k.xr a.xa + st * BitVec.ofNat 64 i.val))

/-- The lane addresses of a gather or scatter (R173). -/
def CoreState.indexed (a : VmemArgs) (k : CoreState) : List (Fin 32 × U64) :=
  (k.guarded a.pg).map (fun i => (i, k.xr a.xa + ((k.vr a.xb)[i]).setWidth 64 * BitVec.ofNat 64 (vmemBytes a)))

/-- The formats of R173. -/
def vmemOk (a : VmemArgs) : Bool := [2, 3, 4, 5, 6, 10, 11].contains a.fmt.toNat

def State.vloadOp (c : Core) (a : VmemArgs) (rs : List RegRef) (f : CoreState → List (Fin 32 × U64)) (s : State) : State :=
  if vmemOk a then
    s.loadOp c rs a.g (vmemBytes a) (.v a.v a.fmt ((s.core c).pr a.pg)) (fun k => (f k).map (·.2))
  else s

def State.vstoreOp (c : Core) (a : VmemArgs) (rs : List RegRef) (f : CoreState → List (Fin 32 × U64)) (s : State) : State :=
  if vmemOk a then
    s.storeOp c rs a.g (vmemBytes a) (fun k => (f k).map (fun x => (x.2, storeLane a.fmt.toNat (k.vr a.v)[x.1])))
  else s

def ldx (c : Core) (a : LsxArgs) (s : State) : State :=
  if a.size.toNat ≤ 6 then
    s.loadOp c [.x a.x.toNat, .x a.xa.toNat] a.g (ldxBytes a.size) (.x a.x a.size) (fun k => [k.addrX a.xa a.off])
  else s

def stx (c : Core) (a : LsxArgs) (s : State) : State :=
  if a.size.toNat ≤ 3 then
    s.storeOp c [.x a.x.toNat, .x a.xa.toNat] a.g (ldxBytes a.size)
      (fun k => [(k.addrX a.xa a.off, leBytes (ldxBytes a.size) (k.xr a.x).toNat, none)])
  else s

def ldf (c : Core) (a : LsfArgs) (s : State) : State :=
  s.loadOp c [.f a.f.toNat, .x a.xa.toNat] a.g (if a.w then 8 else 4) (.f a.f a.w) (fun k => [k.addrX a.xa a.off])

def stf (c : Core) (a : LsfArgs) (s : State) : State :=
  s.storeOp c [.f a.f.toNat, .x a.xa.toNat] a.g (if a.w then 8 else 4)
    (fun k => [(k.addrX a.xa a.off, if a.w then le64 (k.fr a.f) else le32 (k.fr32 a.f), none)])

/-- LDX (R171, R172). -/
def execLdx (c : Core) (a : LsxArgs) (s : State) : Host.Outcome State Fault Refusal := .next (ldx c a s)

/-- STX (R171, R172). -/
def execStx (c : Core) (a : LsxArgs) (s : State) : Host.Outcome State Fault Refusal := .next (stx c a s)

/-- LDF (R172). -/
def execLdf (c : Core) (a : LsfArgs) (s : State) : Host.Outcome State Fault Refusal := .next (ldf c a s)

/-- STF (R172). -/
def execStf (c : Core) (a : LsfArgs) (s : State) : Host.Outcome State Fault Refusal := .next (stf c a s)

/-- VLD (R173). -/
def execVld (c : Core) (a : VmemArgs) (s : State) : Host.Outcome State Fault Refusal := .next (s.vloadOp c a [.v a.v.toNat, .x a.xa.toNat, .x a.xb.toNat] (CoreState.strided a))

/-- VST (R173). -/
def execVst (c : Core) (a : VmemArgs) (s : State) : Host.Outcome State Fault Refusal := .next (s.vstoreOp c a [.v a.v.toNat, .x a.xa.toNat, .x a.xb.toNat] (CoreState.strided a))

/-- VGATH (R173). -/
def execVgath (c : Core) (a : VmemArgs) (s : State) : Host.Outcome State Fault Refusal := .next (s.vloadOp c a [.v a.v.toNat, .x a.xa.toNat, .v a.xb.toNat] (CoreState.indexed a))

/-- VSCAT (R173): lanes are written in order, so the highest stays. -/
def execVscat (c : Core) (a : VmemArgs) (s : State) : Host.Outcome State Fault Refusal := .next (s.vstoreOp c a [.v a.v.toNat, .x a.xa.toNat, .v a.xb.toNat] (CoreState.indexed a))

/-! ## Whole blocks (R161) -/

/-- The stream and block of a BLDB or BSTB when it is in range and permitted (R161). -/
def State.blockArg (s : State) (k : CoreState) (sel : BitVec 4) (store : Bool) (idx : U64) : Option (TensorEntry × Stream) :=
  match k.running, Stream.ofSel sel.toNat with
  | some i, some st =>
    match s.ownerOf i.win.ts with
    | none => none
    | some e =>
      let first := firstElem s i.win
      let n := fmtMax (e.fmt st)
      let b := idx.toNat
      let inRange := if st = .k then b == first / 32768
        else decide (b * n < first + s.winSpan i.win.ts) && decide (first < (b + 1) * n)
      if st != .g && !(store && st == .k) && e.has st && decide (b < e.blocks st) && inRange then some (e, st) else none
  | _, _ => none

/-- The fault of a whole-block instruction, none when it may go on (R164). -/
def State.blockFault (s : State) (k : CoreState) (sel : BitVec 4) (store : Bool) (idx a : U64) : Option U8 :=
  if (s.blockArg k sel store idx).isNone then some 6
  else if a.toNat % 64 ≠ 0 then some 6
  else if a.toNat + 4096 > 0x40000 then some 3 else none

def bldb (c : Core) (xd xa xs : BitVec 5) (sel : BitVec 4) (s : State) : State :=
  let k := s.core c
  if !k.issues [.x xd.toNat, .x xa.toNat, .x xs.toNat] then s
  else
    let a := k.xr xs
    match s.blockFault k sel false (k.xr xa) a, s.blockArg k sel false (k.xr xa) with
    | some f, _ => s.vcFault c f a
    | none, some (_, st) =>
      if k.bstbFrom a.toNat 4096 then s
      else s.setCore c { k.next with loads := k.loads ++ [⟨k.pc, .blk xd st ((k.xr xa).setWidth 32) (a.setWidth 32), []⟩] }
    | none, none => s

/-- BLDB (R161). -/
def execBldb (c : Core) (xd xa xs : BitVec 5) (sel : BitVec 4) (s : State) : Host.Outcome State Fault Refusal := .next (bldb c xd xa xs sel s)

/-- Staged blocks of a core, those of ended runs included (R162). -/
def CoreState.stagedCount (k : CoreState) : Nat := k.staged.length + (k.finished.map (·.staged.length)).sum

def bstb (c : Core) (xa xs : BitVec 5) (sel : BitVec 4) (s : State) : State :=
  let k := s.core c
  if !k.issues [.x xa.toNat, .x xs.toNat] then s
  else
    let a := k.xr xs
    let idx : U32 := (k.xr xa).setWidth 32
    match s.blockFault k sel true (k.xr xa) a, s.blockArg k sel true (k.xr xa) with
    | some f, _ => s.vcFault c f a
    | none, some (_, st) =>
      if k.staged.any (fun b => b.stream == st && b.idx == idx) || decide (k.staged.length ≥ 64) then s.vcFault c 7 a
      else if k.bldbInto a.toNat 4096 || decide (k.stagedCount ≥ 128) then s
      else (s.stageWrite c k.freePlace).setCore c { k.next with
        staged := k.staged ++ [⟨st, idx, cellsRead k.scratch a.toNat 4096, k.freePlace, k.conv⟩]
        copies := k.copies ++ [a.setWidth 32] }
    | none, none => s

/-- BSTB (R161). -/
def execBstb (c : Core) (xa xs : BitVec 5) (sel : BitVec 4) (s : State) : Host.Outcome State Fault Refusal := .next (bstb c xa xs sel s)

end Sys2Proof.Machine
end

