-- ==== Sys2Proof/Machine/Vector.lean ====
section
/-! DEFINITION. The commands of the vector cores other than instructions (R157 to R168, R175 to R177): dispatch, commit, budget,
parity, checks, load completions, code slots and the entry table. -/
namespace Sys2Proof.Machine
open Sys2Proof

/-! ## Dispatch (R157 to R159, R168) -/

def State.noCore (s : State) : State :=
  if s.vec.noCoreSeen || s.vec.coresOn != 0 then s
  else ({ s with vec := { s.vec with noCoreSeen := true } }).record (ev3 0x2508 unitCC [])

/-- The second core of a check execution that is due, none when no check is due or no second core is enabled (R168). -/
def State.checkCore (s : State) (pattern : Nat) (c : Core) : Option Core :=
  if s.vec.checkEvery != 0 && (s.vec.dispatched.toNat + 1) % s.vec.checkEvery.toNat == 0 then s.pickCore pattern [c] else none

/-- A ready window becomes an invocation on the core R158 picks; a full queue holds it. -/
def State.invoke (e : TensorEntry) (d : DispWin) (s0 s4 : U32) (s : State) : State :=
  let pat := patternOf e
  match s.pickCore pat [] with
  | none => s.noCore
  | some c =>
    if (s.core c).load ≥ 2 then s
    else
      let d' := { d with s0 := s0, s4 := s4, tPrime := e.t + 1 }
      let s1 (s : State) : State := { s.dropDisp d with vec := { s.vec with dispatched := bump s.vec.dispatched } }
      match s.checkCore pat c with
      | none => (s1 s).place c { win := d', entry := e.slot }
      | some b =>
        if (s.core b).load ≥ 2 then s
        else ((s1 s).place c { win := d', entry := e.slot, check := true }).place b
          { win := d', entry := e.slot, check := true, runNo := 1 }

def invocationDispatch (ts w : U32) (s : State) : State :=
  match s.readyWindow ts w false 2 with
  | none => s
  | some (d, e) =>
    if e.status = .quarantined then
      { s.dropDisp d with upd := { (s.dropDisp d).upd with skewRefusals := bump s.upd.skewRefusals } }
    else if e.status = .halted then
      { s.dropDisp d with upd := { (s.dropDisp d).upd with haltedWins := bump s.upd.haltedWins } }
    else
      match s.sizeFor d with
      | none => s
      | some (s0, s4) =>
        let (ok, s) := s.beginStep e d.step
        if ok then s.invoke ((s.ownerOf ts).getD e) d s0 s4 else s

/-- INVOCATION_DISPATCH (R159): no effect while the step size or a core is missing. -/
def execInvocationDispatch (ts w : U32) (s : State) : Host.Outcome State Fault Refusal := .next (invocationDispatch ts w s)

/-! ## Commit, budget, parity -/

def invocationCommit (c : Core) (s : State) : State :=
  match (s.core c).finished.find? (fun r => !r.inv.check) with
  | some r => (s.settleRun r).1
  | none => s

/-- INVOCATION_COMMIT (R162): the core's oldest ended run; a page not yet copied holds it. -/
def execInvocationCommit (c : Core) (s : State) : Host.Outcome State Fault Refusal := .next (invocationCommit c s)

/-- VC_BUDGET (R165): the running invocation has reached its budget. -/
def execVcBudget (c : Core) (s : State) : Host.Outcome State Fault Refusal := .next (s.endRun c (s.core c).pc .budget)

def vcParity (c : Core) (unit : U8) (s : State) : State :=
  let k := s.core c
  match k.running with
  | none => s
  | some i =>
    let s := s.setCore c k.stop
    let s := { s with vec := { s.vec with reexec := bump s.vec.reexec } }
    let s := s.record (ev3 0x2505 (unitCore c) (arg1 c.val ++ [unit]))
    let s := s.charge { unit := unitCore c, code := 0x2505, path := 1, pattern := 0x8100 + i.entry.toNat }
    (s.redispatch c i).startNext c

/-- VC_PARITY (R166). -/
def execVcParity (c : Core) (unit : U8) (s : State) : Host.Outcome State Fault Refusal := .next (vcParity c unit s)

/-! ## Check executions (R168) -/

/-- What the device compares of two runs. -/
def RunOut.agrees (a b : RunOut) : Bool :=
  a.ending == b.ending && a.latch == b.latch &&
  a.staged.map (fun x => (x.stream, x.idx, crc64 x.data)) == b.staged.map (fun x => (x.stream, x.idx, crc64 x.data))

/-- The ended runs of one check, first run first. -/
def State.checkRuns (s : State) (i : Invoc) : List RunOut :=
  (List.range 3).filterMap fun n =>
    (s.vec.cores.toList.flatMap (·.finished)).find? (fun r => r.inv.check && r.inv.sameWin i && r.inv.runNo == n)

/-- A third run is under way. -/
def State.thirdRuns (s : State) (i : Invoc) : Bool :=
  s.vec.cores.toList.any (fun k =>
    let third (j : Invoc) : Bool := j.check && j.sameWin i && j.runNo == 2
    k.running.any third || k.queue.any third)

def State.dropRuns (rs : List RunOut) (s : State) : State := rs.foldl (fun s r => s.dropFinished r) s

def countAgreed (v : VecState) : VecState := { v with agreed := bump v.agreed }

/-- A result that two runs share stands; when it commits, the check is counted and the other runs go. -/
def State.standsWith (r : RunOut) (others : List RunOut) (after : State → State) (s : State) : State :=
  let (s', done) := s.settleRun r
  if done then after (s'.dropRuns others) else s'

/-- The third run has ended. -/
def State.decide3 (a b x : RunOut) (s : State) : State :=
  let d := a.inv.win
  let win := arg4 d.ts ++ arg4 d.w ++ arg4 d.step
  let three := arg1 a.core.val ++ arg1 b.core.val ++ arg1 x.core.val
  let decided (odd : RunOut) (s : State) : State :=
    (({ s with vec := { s.vec with decided := bump s.vec.decided } } : State).record (ev3 0x2506 (unitCore odd.core) (three ++ win))).charge
      { unit := unitCore odd.core, code := 0x2506, path := 3, pattern := 0x8100 + a.inv.entry.toNat }
  if x.agrees a then s.standsWith a [b, x] (decided b)
  else if x.agrees b then s.standsWith b [a, x] (decided a)
  else
    let s := s.dropRuns [a, b, x]
    (({ s with vec := { s.vec with undecided := bump s.vec.undecided } } : State).record (ev3 0x2507 (unitCore a.core) [])).failShard
      d.ts d.step 0x2507 0

/-- Two runs differ: a third run on a third core; without one the check is skipped. -/
def State.startThird (a b : RunOut) (s : State) : State :=
  match s.pickCore (0x8100 + a.inv.entry.toNat) [a.core, b.core] with
  | some c => if (s.core c).load < 2 then s.place c { a.inv with runNo := 2 } else s
  | none => s.standsWith a [b] id

def vcCheck (c : Core) (s : State) : State :=
  match (s.core c).finished.find? (fun r => r.inv.check) with
  | none => s
  | some r =>
    match s.checkRuns r.inv with
    | [a, b] =>
      if a.inv.runNo != 0 || b.inv.runNo != 1 then s
      else if a.agrees b then s.standsWith a [b] (fun s => { s with vec := countAgreed s.vec })
      else if s.thirdRuns r.inv then s else s.startThird a b
    | [a, b, x] => s.decide3 a b x
    | _ => s

/-- VC_CHECK (R168): no effect until the runs have ended. -/
def execVcCheck (c : Core) (s : State) : Host.Outcome State Fault Refusal := .next (vcCheck c s)

/-! ## Completions (R161, R175) -/

/-- A BLDB completes: the block is verified, its payload goes to scratch, its flags and step to xd (R161, R163). -/
def State.bldbDone (c : Core) (r : BitVec 5) (st : Stream) (idx scratch : U32) (s : State) : State :=
  match (s.core c).running with
  | none => s
  | some i =>
    match s.ownerOf i.win.ts with
    | none => s
    | some e =>
      let off := s.readOff e st idx.toNat
      match tierOf off with
      | none => s
      | some t =>
        let (b, s) := s.readBlock (unitCore c) t off
        let k := s.core c
        let v : U64 := (b.hdr.step.setWidth 64 <<< 32) ||| b.hdr.flags.setWidth 64
        let s := { s with vec := { s.vec with loaded := bump s.vec.loaded } }
        s.setCore c { k.setX r v with
          scratch := cellsWrite k.scratch scratch.toNat b.pay, latch := k.latch || b.poison }

/-- The last copy lets a waiting END go (R161). -/
def State.endIfDone (c : Core) (s : State) : State :=
  match (s.core c).endWait with
  | some v => if (s.core c).copying then s else s.endRun c (s.core c).pc (.status v)
  | none => s

/-- The bytes of a work-region load, lane by lane, and the first lane that reads uncorrectable (R164, R222). -/
def State.readLanes (n : Nat) (as : List U64) (s : State) : List (List Byte) × Option U64 × State :=
  as.foldl (fun acc a =>
    match tierOf (offOf a) with
    | none => acc
    | some t =>
      let (l, bad, s) := acc.2.2.readMem t (offOf a) n
      (acc.1 ++ [l], if bad && acc.2.1.isNone then some a else acc.2.1, s)) ([], none, s)

def vcLoadComplete (c : Core) (s : State) : State :=
  let k := s.core c
  match k.loads with
  | [] => s
  | l :: rest =>
    let s := s.setCore c { k with loads := rest }
    match l.dest with
    | .blk r st idx scratch => (s.bldbDone c r st idx scratch).endIfDone c
    | d =>
      let (ls, bad, s) := s.readLanes l.bytes l.addrs
      match bad with
      | some a => s.endRun c l.pc (.fault 9 a)
      | none => s.setCore c ((s.core c).deliver d ls)

/-- VC_LOAD_COMPLETE (R175): the oldest outstanding load of the core. -/
def execVcLoadComplete (c : Core) (s : State) : Host.Outcome State Fault Refusal := .next (vcLoadComplete c s)

def bstbCopyComplete (c : Core) (s : State) : State :=
  let k := s.core c
  (s.setCore c { k with copies := k.copies.drop 1 }).endIfDone c

/-- BSTB_COPY_COMPLETE (R161): the oldest copy of the core; the last one lets a waiting END go. -/
def execBstbCopyComplete (c : Core) (s : State) : Host.Outcome State Fault Refusal := .next (bstbCopyComplete c s)

/-! ## Instruction words (R169 to R173, R176) -/

/-- Bits lo to lo + n − 1 of a word. -/
def bitsOf (w : U32) (lo n : Nat) : Nat := (w.extractLsb' lo n).toNat

/-- The CVT targets of a width (R115, R171). -/
def cvtOk (wide : Bool) (scalar : Bool) (field : Nat) : Bool :=
  if wide then [2, 3, 4, 5, 6, 0xB, 0xC].contains field
  else cvtTargets.contains field || (scalar && field == 1)

/-- The fields of an element operation: a, b, S or nothing, NEGB, ABSA (R169, R170). -/
def elemFieldsOk (op va vb : Nat) (sBit negb absa : Bool) (cvt : Bool) : Bool :=
  if op = 0 then va == 0 && vb == 0 && !sBit && !negb && !absa
  else if op = 0x17 then cvt && !sBit && !negb
  else if sourcesOf op = 1 then vb == 0 && !sBit && !negb
  else true

/-- R176 on one word: major code, op, function, and the fields R169 requires to be zero. -/
def wordOk (w : U32) : Bool :=
  let b := bitsOf w
  let bit (n : Nat) : Bool := w.getLsbD n
  match b 26 6 with
  | 0x00 => b 6 15 == 0 && decide (b 0 6 ≤ 2) && (b 0 6 != 0 || b 21 5 == 0)
  | 0x01 =>
    let op := b 6 5
    decide (op ≤ 0x17) && op != 1 && op != 2 &&
    elemFieldsOk op (b 16 5) (b 11 5) (bit 5) (bit 4) (bit 3) (cvtOk false false (b 11 5)) &&
    (op != 0 || (b 21 5 == 0 && b 0 3 == 0))
  | 0x02 =>
    let op := b 6 5
    decide (0x12 ≤ op) && decide (op ≤ 0x15) && (op != 0x12 || (b 11 5 == 0 && !bit 5 && !bit 4))
  | 0x03 =>
    let fn := b 6 5
    decide (fn ≤ 0xD) && b 3 2 == 0 && (!(fn == 0xB || fn == 0xC || fn == 0xD) || (b 11 5 == 0 && !bit 5)) &&
    (fn != 0xD || b 16 5 == 0)
  | 0x04 => [4, 0xD, 0xE].contains (b 6 5) && b 11 5 == 0 && b 3 3 == 0
  | 0x05 =>
    let fn := b 6 5
    decide (fn ≤ 5) && b 3 3 == 0 && (!(fn == 0 || fn == 1 || fn == 4) || b 11 5 == 0) && (!(fn == 2 || fn == 3) || b 0 3 == 0)
  | 0x06 =>
    let fn := b 0 6
    decide (fn ≤ 0xB) && b 6 6 == 0 && (decide (7 ≤ fn) && fn != 0 || b 12 5 == 0) &&
    (!(fn == 7 || fn == 8 || fn == 0xA) || b 23 3 == 0) && (!(fn == 5 || fn == 6 || fn == 9 || fn == 0xB) || b 20 3 == 0) &&
    (decide (fn ≤ 3) || b 17 3 == 0)
  | 0x08 => decide (b 5 6 ≤ 0xF) && b 0 5 == 0
  | 0x09 => decide (b 12 4 ≤ 8) && (decide (b 12 4 ≤ 5) || b 6 6 == 0)
  | 0x0A => true
  | 0x0C => decide (b 13 3 ≤ 5)
  | 0x0D => true
  | 0x0E => b 0 16 == 0
  | 0x0F => true
  | 0x10 =>
    let op := b 6 5
    decide (op ≤ 0x17) && op != 1 && op != 2 && b 0 3 == 0 &&
    elemFieldsOk op (b 16 5) (b 11 5) false (bit 4) (bit 3) (cvtOk (bit 5) true (b 11 5)) &&
    (op != 0 || (b 21 5 == 0 && !bit 5)) && !(bit 5 && (op == 0x0B || op == 0x0C))
  | 0x11 => decide (b 6 5 ≤ 3) && b 11 5 == 0 && b 0 6 == 0
  | 0x18 => decide (b 13 3 ≤ 6)
  | 0x19 => decide (b 13 3 ≤ 3)
  | 0x1A => b 13 2 == 0
  | 0x1B => b 13 2 == 0
  | 0x1C => [2, 3, 4, 5, 6, 10, 11].contains (b 7 4) && b 3 3 == 0
  | 0x1D => [2, 3, 4, 5, 6, 10, 11].contains (b 7 4) && b 3 3 == 0
  | 0x1E => [2, 3, 4, 5, 6, 10, 11].contains (b 7 4) && b 3 3 == 0
  | 0x1F => [2, 3, 4, 5, 6, 10, 11].contains (b 7 4) && b 3 3 == 0
  | 0x20 => b 0 7 == 0
  | 0x21 => b 0 7 == 0 && b 21 5 == 0
  | _ => false

/-- A BR, JAL or BP target lies inside the slot (R176). -/
def targetOk (len ix : Nat) (w : U32) : Bool :=
  let at_ (off : Int) : Bool := decide (0 ≤ (ix : Int) + off) && decide ((ix : Int) + off < len)
  match bitsOf w 26 6 with
  | 0x0C => at_ (w.extractLsb' 0 13).toInt
  | 0x0D => at_ (w.extractLsb' 0 21).toInt
  | 0x0F => at_ (w.extractLsb' 0 21).toInt
  | _ => true

def slotWords : Nat := 16384
def totalWords : Nat := 32768

/-- The first word of a code that is invalid, or beyond the slot or the total; room is what the other slots leave. -/
def codeError (room : Nat) (ws : List U32) : Option Nat :=
  let lim := min slotWords room
  let bad := ws.zipIdx.findIdx? (fun x => !wordOk x.1 || !targetOk ws.length x.2 x.1)
  if ws.length > lim then some (match bad with | some b => min b lim | none => lim) else bad

def State.otherWords (s : State) (slot : Fin 16) : Nat :=
  (((List.finRange 16).filter (· != slot)).map (fun n => (s.vec.slots[n]).words.length)).sum

def State.refuseCode (slot : Fin 16) (err : Nat) (s : State) : State :=
  let p := { s.vec.slots[slot] with status := 4, errWord := BitVec.ofNat 16 err }
  ({ s with vec := { s.vec with slots := s.vec.slots.set slot p, loadRefusals := bump s.vec.loadRefusals } }).record
    (ev3 0x2500 unitCC (arg1 slot.val ++ arg2 err))

/-- The error word of the bytes written to a slot; a last word cut short is an invalid word. -/
def codeSlotError (room : Nat) (bytes : List Byte) : Option Nat :=
  let ws := wordsOf bytes
  if bytes.length % 4 = 0 then codeError room ws else some ((codeError room ws).getD ws.length)

def codeSlotWrite (slot : Fin 16) (bytes : List Byte) (s : State) : State :=
  if !s.loadable || bytes.isEmpty then s.refuseCode slot 0xFFFF
  else
    match codeSlotError (totalWords - s.otherWords slot) bytes with
    | some err => s.refuseCode slot err
    | none =>
      let p := { s.vec.slots[slot] with words := wordsOf bytes, status := 1 }
      { s with vec := { s.vec with slots := s.vec.slots.set slot p } }

/-- CODE_SLOT_WRITE (R176). -/
def execCodeSlotWrite (slot : Fin 16) (bytes : List Byte) (s : State) : Host.Outcome State Fault Refusal :=
  .next (codeSlotWrite slot bytes s)

/-! ## The entry table (R177) -/

def vecRegion (l : List Byte) : WorkRegion :=
  let z := field64 l 8
  { base := field64 l 0, len := z &&& 0xFFFFFFFFFF#64, wr := z.getLsbD 62, rd := z.getLsbD 63 }

def vecEntryOf (l : List Byte) : VecEntry :=
  { slot := byteAt l 0, off := field32 l 4, budget := field32 l 8, args := (List.range 4).map (fun i => field64 l (16 + 8 * i))
    regions := (List.range 4).map (fun i => vecRegion (l.drop (48 + 16 * i))) }

/-- A range lies wholly in the device's own Tier H or Tier L. -/
def State.ownRange (s : State) (a : U64) (n : Nat) : Bool :=
  let off := offOf a
  cnOfAddr a == s.own &&
  (match tierOf off with
   | some .h => decide (off + n ≤ sizeH)
   | some .l => decide (off + n ≤ baseL + sizeL)
   | none => false)

/-- A range overlaps a stream region of the tensor table. -/
def State.overStream (s : State) (a : U64) (n : Nat) : Bool :=
  let off := offOf a
  s.upd.table.any fun e =>
    [Stream.w, .m, .v, .a, .c, .k, .g].any fun st =>
      e.has st && decide (off < offOf (e.base st) + e.extent st) && decide (offOf (e.base st) < off + n)

def WorkRegion.ok (s : State) (r : WorkRegion) : Bool :=
  (!(r.wr || r.rd) || (r.len != 0 && s.ownRange r.base r.len.toNat)) &&
  !(r.len != 0 && cnOfAddr r.base == s.own && s.overStream r.base r.len.toNat)

def State.vecEntryOk (s : State) (v : VecEntry) : Bool :=
  (if h : v.slot.toNat < 16 then
     let n := (s.vec.slots[v.slot.toNat]).words.length
     n != 0 && v.off.toNat % 4 == 0 && decide (v.off.toNat < 4 * n)
   else false) &&
  decide (1000 ≤ v.budget.toNat) && decide (v.budget.toNat ≤ 100000000) && v.regions.all (WorkRegion.ok s)

/-- The entries of a table, or the offset of the first bad one. -/
def State.parseVec (s : State) : Nat → List VecEntry → List (List Byte) → Except Nat (List VecEntry)
  | _, acc, [] => .ok acc
  | off, acc, l :: rest =>
    let v := vecEntryOf l
    if l.length = 128 ∧ acc.length < 64 ∧ s.vecEntryOk v then s.parseVec (off + 128) (acc ++ [v]) rest else .error off

def State.refuseVec (off : Nat) (s : State) : State :=
  ({ s with vec := { s.vec with entryErr := BitVec.ofNat 32 off, loadRefusals := bump s.vec.loadRefusals } }).record
    (ev3 0x2501 unitCC [])

/-- Outside STANDBY and OPENING the write is refused as one with a bad entry is, the offset reading 0xFFFFFFFF (DESIGN CHOICE: R177
says only that it may not be written then, notes/assumptions/71.md). -/
def vectorEntryWrite (bytes : List Byte) (s : State) : State :=
  if !s.loadable then s.refuseVec 0xFFFFFFFF
  else
    match s.parseVec 0 [] (chunksOf (bytes.length / 128 + 1) 128 bytes) with
    | .error off => s.refuseVec off
    | .ok vs => { s with vec := { s.vec with entries := vs } }

/-- VECTOR_ENTRY_WRITE (R177). -/
def execVectorEntryWrite (bytes : List Byte) (s : State) : Host.Outcome State Fault Refusal := .next (vectorEntryWrite bytes s)

end Sys2Proof.Machine
end

