-- ==== Sys2Proof/Machine/Stream.lean ====
section
/-! DEFINITION. The commands of the weight streamer (R182 to R199): its tables, passes, sends, relays and acknowledgements. -/
namespace Sys2Proof.Machine
open Sys2Proof

/-! ## Wire granularity (R188) -/

def Segment.code (g : Segment) : Nat := (g.fmt &&& 0x1F#8).toNat
def Segment.scaled (g : Segment) : Bool := g.fmt.getLsbD 5
/-- Elements of a WEIGHT block of a format byte. -/
def wireMax (fmt : U8) : Nat :=
  let code := (fmt &&& 0x1F#8).toNat
  if fmt.getLsbD 5 then (match fmtScaled code with | some (_, n, _) => n | none => 0) else fmtMax code
def wireOk (fmt : U8) : Bool := decide (fmt.toNat < 64) && typePermits 5 (fmt &&& 0x1F#8).toNat (fmt.getLsbD 5)

/-! ## Credit (R192) -/

/-- A port is active and has VC3 credit for n more WEIGHT blocks than it has queued. -/
def PortSt.weightRoom (n : Nat) (q : PortSt) : Bool :=
  q.st == .active && decide (65 * n + ((q.queue.filter (·.vc == 3)).map (·.pk.cellCount)).sum ≤ q.credit[3])

/-- The port that a packet for a CN leaves on, or waits for; none while the CN is unreachable. -/
def State.exitPort (s : State) (cn : U32) : Option Port :=
  match s.choose (s.substitute cn) with
  | .send p _ => some p
  | .wait p => p
  | .discard => none

def StreamProg.links (g : StreamProg) : List Port :=
  (List.finRange 24).filter (fun p => decide (p.val < 8) && g.tlMask.getLsbD p.val)

/-- The port of each destination of a block of a local segment. -/
def State.passPorts (s : State) (g : StreamProg) : List (Option Port) :=
  g.links.map some ++ g.dests.map (fun d => s.exitPort (cnOf d))

/-- Every destination has a VC3 credit: a port that several of them leave on has one for each. -/
def State.passRoom (s : State) (g : StreamProg) : Bool :=
  let ps := s.passPorts g
  ps.all (fun x => match x with
    | some p => (s.port p).weightRoom (ps.count (some p))
    | none => false)

/-! ## Reading and converting C (R189, R191) -/

/-- What the streamer reads of the C blocks under a WEIGHT block; word is the payload check word that the last one carries. -/
structure CRead where
  vals : List Fv := []
  poison : Bool := false
  missing : Bool := false
  pay : List Byte := []
  word : U64 := 0

/-- A C block that a pass has read before, as it stands in the streamer. -/
def State.standingC (s : State) (t : Tier) (off : Nat) : List Byte × U64 × Bool :=
  let h := match s.regionAt off with | some rg => s.storedHeader t rg off | none => Header.zero
  let pay := s.raw t off 4096
  (pay, h.payCrc, h.poison || !h.crcOk || !(h.payCrc == crc64 pay))

/-- One C block of a pass: read and verified when the pass has not read it, or reads it again for a resend; taken as it was read
otherwise. A pair without a block to read is counted and recorded once per pass (R189). -/
def State.readC (e : TensorEntry) (step : U32) (seen again : Bool) (b : Nat) (r : CRead) (s : State) : CRead × State :=
  match s.pairPick e (step - 1) b with
  | none =>
    let s := if seen then s
      else ({ s with str := { s.str with noC := bump s.str.noC } } : State).record (ev3 0x2602 unitStr (arg4 e.ts ++
        arg4 (BitVec.ofNat 32 b) ++ arg4 (s.storedStep (e.blockOff .c b 0)) ++ arg4 (s.storedStep (e.blockOff .c b 1)) ++ arg4 step))
    ({ r with vals := r.vals ++ List.replicate (e.elemsIn .c b) .nan, poison := true, missing := true }, s)
  | some k =>
    let off := e.blockOff .c b k
    match tierOf off with
    | none => (r, s)
    | some t =>
      let (pay, word, bad, s) := if !seen || again then
          let (x, s) := s.readBlock unitStr t off
          (x.pay, x.hdr.payCrc, x.poison, { s with str := { s.str with
            cBytes := bumpBy s.str.cBytes 4160, cRead := if seen then s.str.cRead else bump s.str.cRead } })
        else
          let (pay, word, bad) := s.standingC t off
          (pay, word, bad, s)
      ({ r with
          vals := r.vals ++ unpackPlain e.fmtC.toNat pay (e.elemsIn .c b), poison := r.poison || bad, pay := pay, word := word }, s)

/-- The WEIGHT block b of a segment of a pass, before its destination is filled in (R191): with equal formats it carries the
payload and check word of its C block. The C blocks that it covers are read once per pass (R189), again for a resend (R193). -/
def State.weightBlock (e : TensorEntry) (g : Segment) (p : Pass) (b : Nat) (resend : Bool) (s : State) : Block × Pass × State :=
  let n := wireMax g.fmt
  let nc := fmtMax e.fmtC.toNat
  let lo := b * n
  let c := min n (e.count.toNat - lo)
  let cb := lo / nc
  let ids := (List.range ((lo + c - 1) / nc - cb + 1)).map (cb + ·)
  let isSeen (i : Nat) : Bool := p.cSeen.contains (e.ts, i)
  let (r, s) := ids.foldl (fun (acc : CRead × State) i => acc.2.readC e p.step (isSeen i) resend i acc.1) ({}, s)
  let p := { p with cSeen := p.cSeen ++ (ids.filter (fun i => !isSeen i)).map (fun i => (e.ts, i)) }
  let vs := (r.vals.drop (lo - cb * nc)).take c
  let copy := !g.scaled && g.code == e.fmtC.toNat
  let q := if g.scaled then packScaled g.code vs else packPlain g.code vs
  let s := if copy || r.missing then s
    else { s with chk := { s.chk with satConv := bumpBy s.chk.satConv q.sat, nonfinConv := bumpBy s.chk.nonfinConv q.nonfin } }
  let nonfin := if copy then vs.any (fun v => !v.isFinite) else q.flag
  let h : Header := s.tagged { Header.zero with
    typ := 5, fmt := g.fmt
    flags := setFlag (setFlag (setFlag 0 0 r.poison) 7 nonfin) 8 resend
    step := p.step, ts := g.ts, blk := BitVec.ofNat 32 b, count := BitVec.ofNat 16 c, src := s.adopted }
  let blk : Block :=
    if r.missing then (⟨h, List.replicate 4096 0xFF⟩ : Block).seal
    else if copy then ⟨({ h with payCrc := r.word }).seal, r.pay⟩
    else (⟨h, q.bytes⟩ : Block).seal
  (blk, p, s)

/-! ## Sending -/

def State.agentCn (s : State) (p : Port) : U32 := if h : p.val < 8 then cnOf (s.route.wires[p.val]'(by omega)).cn else 0

def countSent (s : State) : State := { s with str := { s.str with sent := bump s.str.sent } }

/-- A WEIGHT block to the agent of a tray link (R191). -/
def State.sendToLink (g : Segment) (b : Block) (p : Port) (s : State) : State :=
  let off := g.dstOff + BitVec.ofNat 64 (4096 * (b.hdr.blk.toNat - g.first.toNat))
  let h := { b.hdr with dst := s.agentCn p, offset := off }
  countSent (s.sendOn p (.block { b with hdr := h.seal }))

/-- A WEIGHT block to a gathering device. -/
def State.sendToDevice (b : Block) (d : U32) (s : State) : State :=
  countSent (s.send (.block { b with hdr := ({ b.hdr with dst := cnOf d, offset := 0 }).seal }))

def State.passAt (s : State) (prog : U8) (step : U32) : Option Pass := s.str.passes.find? (fun p => p.prog == prog && p.step == step)
def State.setPassState (p : Pass) (s : State) : State :=
  { s with str := { s.str with passes := s.str.passes.map (fun q => if q.prog == p.prog && q.step == p.step then p else q) } }

/-- The next local segment with blocks left from a place in the pass on: its index, and the count already converted. -/
def nextLocal (segs : List Segment) (seg blk : Nat) : Option (Nat × Segment × Nat) :=
  ((segs.zipIdx.drop seg).find? (fun x => x.1.kind == 1)).map (fun x => (x.2, x.1, if x.2 = seg then blk else 0))

def Pass.advance (i : Nat) (g : Segment) (sent : Nat) (p : Pass) : Pass :=
  if sent + 1 < g.count.toNat then { p with nextSeg := BitVec.ofNat 16 i, nextBlk := BitVec.ofNat 32 (sent + 1) }
  else { p with nextSeg := BitVec.ofNat 16 (i + 1), nextBlk := 0 }

/-- Bytes of converted blocks held ahead of their destinations. -/
def StrState.aheadBytes (t : StrState) : Nat := ((t.passes.map (fun p => p.ahead.length)).sum) * 4160
def aheadMost : Nat := 12582912

/-- The next block of a pass is converted and joins those held ahead, while they take no more than 12 MiB. -/
def State.convertNext (p : Pass) (g : StreamProg) (s : State) : Pass × State :=
  match nextLocal (s.segsOf g) p.nextSeg.toNat p.nextBlk.toNat with
  | none => (p, s)
  | some (i, sg, sent) =>
    match s.ownerOf sg.ts with
    | none => (p, s)
    | some e =>
      if s.str.aheadBytes + 4160 > aheadMost then (p, s)
      else
        let (blk, p, s) := s.weightBlock e sg p (sg.first.toNat + sent) false
        ({ p.advance i sg sent with ahead := p.ahead ++ [⟨BitVec.ofNat 16 i, blk⟩] }, s)

/-- The oldest block held ahead goes to every tray link and every fabric destination. -/
def State.sendNext (p : Pass) (g : StreamProg) (s : State) : State :=
  match p.ahead with
  | [] => s.setPassState p
  | x :: rest =>
    let s := match (s.segsOf g)[x.seg.toNat]? with
      | some sg => g.links.foldl (fun (s : State) l => s.sendToLink sg x.blk l) s
      | none => s
    let s := g.dests.foldl (fun s d => s.sendToDevice x.blk d) s
    let un := g.dests.map (fun d => (⟨x.seg, x.blk.hdr.blk, cnOf d⟩ : Unacked))
    s.setPassState { p with ahead := rest, unacked := p.unacked ++ un }

def weightBlockSend (prog : U8) (step : U32) (s : State) : State :=
  match s.passAt prog step, s.progOf prog with
  | some p, some g =>
    let (p, s) := s.convertNext p g
    if s.passRoom g then s.sendNext p g else s.setPassState p
  | _, _ => s

/-- WEIGHT_BLOCK_SEND (R192): the next block is converted, and the oldest converted one is sent when every destination has a VC3
credit. -/
def execWeightBlockSend (prog : U8) (step : U32) (s : State) : Host.Outcome State Fault Refusal :=
  .next (weightBlockSend prog step s)

def streamStall (prog : U8) (step : U32) (port : Port) (s : State) : State :=
  match s.passAt prog step, s.progOf prog with
  | some p, some g =>
    let ps := s.passPorts g
    if !p.stallSeen && ps.contains (some port) && !(s.port port).weightRoom (ps.count (some port)) then
      (s.setPassState { p with stallSeen := true }).record (ev3 0x2603 unitStr (arg1 port.val ++ arg4 step))
    else s
  | _, _ => s

/-- STREAM_STALL (R192): a destination's port has had no credit for OD 2800.02; recorded once per pass. -/
def execStreamStall (prog : U8) (step : U32) (port : Port) (s : State) : Host.Outcome State Fault Refusal :=
  .next (streamStall prog step port s)

/-! ## The end of a pass (R185, R186) -/

def passEnd (prog : U8) (step : U32) (s : State) : State :=
  match s.passAt prog step with
  | none => s
  | some p =>
    if s.passLeft p ≠ 0 then s
    else
      let s := s.endPass p
      (s.str.progs.filter (fun g => g.trigger == 2 && g.chained == prog)).foldl
        (fun s g => if s.passMayStart g.num step then s.startPass g.num step else s) s

/-- PASS_END (R186): no effect while a block is unsent or unacknowledged. -/
def execPassEnd (prog : U8) (step : U32) (s : State) : Host.Outcome State Fault Refusal := .next (passEnd prog step s)

def State.refuseStart (p : U8) (step : U32) (s : State) : State :=
  ({ s with str := { s.str with
      passStatus := setPass s.str.passStatus p.toNat (step, 4), refusals := bump s.str.refusals } }).record
    (ev3 0x2601 unitStr (arg4 step ++ [p] ++ arg4 s.fence.cur))

def streamStartAction (v : U64) (s : State) : State :=
  let step : U32 := v.setWidth 32
  let p : U8 := ((v >>> 32) &&& 0xF#64).setWidth 8
  -- above a failed step R26 counts the discard, and R185 refuses the write all the same
  let s := if s.aboveFailed step then { s with red := { s.red with stepRefusals := bump s.red.stepRefusals } } else s
  match s.progOf p with
  | some g => if g.trigger == 0 && s.passMayStart p step then s.startPass p step else s.refuseStart p step
  | none => s.refuseStart p step

/-- STREAM_START_ACTION (R185, R26). -/
def execStreamStartAction (v : U64) (s : State) : Host.Outcome State Fault Refusal := .next (streamStartAction v s)

/-! ## Acknowledgements and resends (R193, R194) -/

/-- A local block of a pass is read again and sent to one fabric destination with the resend flag. -/
def State.resendWeight (p : Pass) (u : Unacked) (s : State) : State :=
  match s.progOf p.prog with
  | none => s
  | some g =>
    match (s.segsOf g)[u.seg.toNat]? with
    | none => s
    | some sg =>
      match s.ownerOf sg.ts with
      | none => s
      | some e =>
        let (blk, p, s) := s.weightBlock e sg p u.blk.toNat true
        (s.setPassState p).sendToDevice blk u.dest

def countResend (s : State) : State := { s with str := { s.str with resends := bump s.str.resends } }

def weightAckTimeout (prog : U8) (step : U32) (u : Unacked) (s : State) : State :=
  match s.passAt prog step with
  | some p => if p.unacked.contains u then countResend (s.resendWeight p u) else s
  | none => s

/-- WEIGHT_ACK_TIMEOUT (R193). -/
def execWeightAckTimeout (prog : U8) (step : U32) (seg : U16) (blk : U32) (dest : U32) (s : State) :
    Host.Outcome State Fault Refusal := .next (weightAckTimeout prog step ⟨seg, blk, dest⟩ s)

/-- Whether a BLOCK_ACK or RESEND_REQ names a block of a segment. -/
def inRange (pk : Trans) (blk : U32) : Bool :=
  decide (pk.aNat 4 4 ≤ blk.toNat) && decide (blk.toNat < pk.aNat 4 4 + max 1 (pk.aNat 8 2))

def State.acksUnit (s : State) (g : StreamProg) (pk : Trans) (u : Unacked) : Bool :=
  u.dest == cnOf pk.src && inRange pk u.blk &&
  (match (s.segsOf g)[u.seg.toNat]? with | some sg => sg.ts == pk.a32 0 | none => false)

def weightBlockAckReceive (pk : Trans) (s : State) : State :=
  let s := s.takePk (.trans pk)
  let gone (p : Pass) (u : Unacked) : Bool :=
    p.step == pk.step && (match s.progOf p.prog with | some g => s.acksUnit g pk u | none => false)
  { s with str := { s.str with
      passes := s.str.passes.map (fun p => { p with unacked := p.unacked.filter (fun u => !gone p u) })
      retries := s.str.retries.filter (fun r => !(s.str.passes.any (fun p =>
        p.prog == r.1 && p.step == r.2.1 && gone p r.2.2))) } }

/-- WEIGHT_BLOCK_ACK_RECEIVE (R193). -/
def execWeightBlockAckReceive (_port : Port) (pk : Trans) (s : State) : Host.Outcome State Fault Refusal :=
  .next (weightBlockAckReceive pk s)

/-- The open pass, program and segment that hold a block a request names. -/
def State.passOfReq (s : State) (pk : Trans) (b : Nat) : Option (Pass × StreamProg × Nat × Segment) :=
  s.str.passes.findSome? fun p =>
    if p.step != pk.step then none
    else match s.progOf p.prog with
      | none => none
      | some g => ((s.segsOf g).zipIdx.find? (fun x => x.1.kind == 1 && x.1.ts == pk.a32 0 &&
          decide (x.1.first.toNat ≤ b) && decide (b < x.1.first.toNat + x.1.count.toNat))).map
          (fun x => (p, g, x.2, x.1))

/-- The tray link whose agent has a CN. -/
def State.linkOf (s : State) (g : StreamProg) (cn : U32) : Option Port := g.links.find? (fun p => s.agentCn p == cn)

/-- One block that a request of reason 0x01 names is read again and sent to the requester alone; one of reason 0x05 waits for its
retry (R193, R194). -/
def State.resendOne (pk : Trans) (s : State) (b : Nat) : State :=
  let src := cnOf pk.src
  match s.passOfReq pk b with
  | none => s
  | some (p, g, i, sg) =>
    let u : Unacked := ⟨BitVec.ofNat 16 i, BitVec.ofNat 32 b, src⟩
    if pk.a8 11 == 5 then
      if s.str.retries.contains (p.prog, p.step, u) then s
      else { s with str := { s.str with retries := s.str.retries ++ [(p.prog, p.step, u)] } }
    else
      match s.linkOf g src, s.ownerOf sg.ts with
      | some l, some e =>
        let (blk, p, s) := s.weightBlock e sg p b true
        countResend ((s.setPassState p).sendToLink sg blk l)
      | _, _ => if g.dests.any (fun d => cnOf d == src) then countResend (s.resendWeight p u) else s

/-- The blocks of a RESEND_REQ (R248). -/
def namedBlocks (pk : Trans) : List Nat := (List.range (max 1 (pk.aNat 8 2))).map (pk.aNat 4 4 + ·)

def weightResendReqReceive (pk : Trans) (s : State) : State :=
  let s := s.takePk (.trans pk)
  if pk.a8 11 != 1 && pk.a8 11 != 5 then s       -- the streamer gives no other reason a meaning (notes/assumptions/82.md)
  else if (namedBlocks pk).all (fun b => (s.passOfReq pk b).isNone) then countResend s
  else (namedBlocks pk).foldl (State.resendOne pk) s

/-- WEIGHT_RESEND_REQ_RECEIVE (R193): reason 0x05 arms the retry of R194. -/
def execWeightResendReqReceive (_port : Port) (pk : Trans) (s : State) : Host.Outcome State Fault Refusal :=
  .next (weightResendReqReceive pk s)

def relayRetry (prog : U8) (step : U32) (u : Unacked) (s : State) : State :=
  if s.str.retries.contains (prog, step, u) then
    let s := { s with str := { s.str with retries := s.str.retries.filter (fun r => !(r == (prog, step, u))) } }
    match s.passAt prog step with
    | some p => s.resendWeight p u
    | none => s
  else s

/-- RELAY_RETRY (R194): OD 2800.03 has passed since a RESEND_REQ of reason 0x05. -/
def execRelayRetry (prog : U8) (step : U32) (seg : U16) (blk : U32) (dest : U32) (s : State) : Host.Outcome State Fault Refusal :=
  .next (relayRetry prog step ⟨seg, blk, dest⟩ s)

/-! ## Relay (R194) -/

/-- The relay segment of a pass that takes a block. -/
def State.relaySeg (s : State) (p : Pass) (h : Header) : Option (StreamProg × Nat × Segment) :=
  if p.step != h.step then none
  else match s.progOf p.prog with
    | none => none
    | some g => ((s.segsOf g).zipIdx.find? (fun x => x.1.kind == 2 && cnOf x.1.src == cnOf h.src && x.1.ts == h.ts &&
        x.1.fmt == h.fmt && decide (x.1.first.toNat ≤ h.blk.toNat) &&
        decide (h.blk.toNat < x.1.first.toNat + x.1.count.toNat))).map (fun x => (g, x.2, x.1))

/-- Relay blocks staged until every tray link has sent them: those queued by the streamer for another owner (R194). -/
def State.relayStaged (s : State) : Nat :=
  (((List.finRange 24).filter (fun p => decide (p.val < 8))).flatMap (fun p => (s.port p).queue.filterMap (fun x =>
    match x.pk with
    | .block b => if x.vc == 3 && x.from_.isNone && cnOf b.hdr.src != s.adopted && cnOf b.hdr.src != s.own then
        some (b.hdr.src, b.hdr.step, b.hdr.ts, b.hdr.fmt, b.hdr.blk) else none
    | .trans _ => none))).eraseDups.length

/-- The relay buffer of 4 MiB has no room for one more block. -/
def State.relayFull (s : State) : Bool := decide ((s.relayStaged + 1) * 4160 > 4194304)

def State.ackWeight (h : Header) (s : State) : State := s.sendAck (cnOf h.src) h.step h.ts h.blk 1 opSTREAM 0 0

def State.refuseRelay (h : Header) (s : State) : State :=
  let s := { s with str := { s.str with relayRefusals := bump s.str.relayRefusals } }
  s.sendResend (cnOf h.src) h.step h.ts h.blk 1 opSTREAM 5 0 (le16 0 ++ le16 s.str.relayRetryUs)

def countDiscard (s : State) : State := { s with str := { s.str with relayDiscards := bump s.str.relayDiscards } }

def State.relay (p : Pass) (g : StreamProg) (i : Nat) (sg : Segment) (b : Block) (s : State) : State :=
  let s := g.links.foldl (fun s l => s.sendToLink sg b l) s
  let s := { s with str := { s.str with relayed := bump s.str.relayed } }
  (s.setPassState { p with relayed := p.relayed ++ [(BitVec.ofNat 16 i, b.hdr.blk)] }).ackWeight b.hdr

def weightRelay (b : Block) (s : State) : State :=
  let s := s.takePk (.block b)
  let h := b.hdr
  let found := s.str.passes.filterMap (fun p => (s.relaySeg p h).map (fun x => (p, x)))
  match found.find? (fun x => !(x.1.relayed.contains (BitVec.ofNat 16 x.2.2.1, h.blk))), found with
  | some (p, g, i, sg), _ => if s.relayFull then s.refuseRelay h else s.relay p g i sg b
  | none, _ :: _ => (countDiscard s).ackWeight h
  | none, [] => if h.step == s.fence.cur || h.step == s.fence.cur + 1 then s.refuseRelay h else countDiscard s

/-- WEIGHT_RELAY (R194). -/
def execWeightRelay (_port : Port) (blk : Block) (s : State) : Host.Outcome State Fault Refusal := .next (weightRelay blk s)

/-! ## The tables (R182 to R184) -/

def streamProgOf (l : List Byte) : StreamProg :=
  { num := byteAt l 0, trigger := byteAt l 1, chained := byteAt l 2, tlMask := byteAt l 3, firstSeg := field16 l 4
    segCount := field16 l 6, dests := (List.range (byteAt l 8).toNat).map (fun i => field32 l (16 + 4 * i)) }

def segmentOf (l : List Byte) : Segment :=
  { ts := field32 l 0, kind := byteAt l 4, fmt := byteAt l 5, first := field32 l 8, count := field32 l 12, src := field32 l 16
    dstOff := field64 l 24 }

/-- Following the chain from a program reaches one with another trigger; fuel is the number of programs. -/
def chainEnds (ps : List StreamProg) : Nat → StreamProg → Bool
  | 0, _ => false
  | k + 1, p => if p.trigger != 2 then true
    else match ps.find? (·.num == p.chained) with
      | some q => chainEnds ps k q
      | none => false

def segSlice (segs : List Segment) (p : StreamProg) : List Segment := (segs.drop p.firstSeg.toNat).take p.segCount.toNat

/-- No relay segment in a program with fabric destinations. -/
def relayOk (segs : List Segment) (p : StreamProg) : Bool := p.dests.isEmpty || (segSlice segs p).all (fun g => g.kind != 2)

def progFits (segs : List Segment) (p : StreamProg) : Bool := decide (p.firstSeg.toNat + p.segCount.toNat ≤ segs.length)

def StreamProg.fieldsOk (l : List Byte) (p : StreamProg) : Bool :=
  decide (p.num.toNat ≤ 15) && decide (p.trigger.toNat ≤ 2) && (p.trigger == 2 || p.chained == 0) &&
  decide (1 ≤ p.segCount.toNat) && decide (p.segCount.toNat ≤ 4096) && decide (p.dests.length ≤ 12) &&
  p.dests.all (fun d => d == cnOf d) && (l.drop (16 + 4 * p.dests.length)).all (· == 0)

def progRowOk (segs : List Segment) (ps : List StreamProg) (n : Nat) (l : List Byte) : Bool :=
  let p := streamProgOf l
  l.length == 64 && decide (n < 16) && p.fieldsOk l && !((ps.take n).any (·.num == p.num)) && chainEnds ps (ps.length + 1) p &&
  progFits segs p && relayOk segs p

def State.refuseStream (f : StrState → StrState) (s : State) : State :=
  ({ s with str := { f s.str with refusals := bump s.str.refusals } }).record (ev3 0x2600 unitStr [])

def streamProgramTableWrite (bytes : List Byte) (s : State) : State :=
  let rows := chunksOf (bytes.length / 64 + 1) 64 bytes
  let ps := rows.map streamProgOf
  if !s.loadable then s.refuseStream (fun t => { t with progErr := 0xFFFFFFFF })
  else
    match rows.zipIdx.findIdx? (fun x => !progRowOk s.str.segs ps x.2 x.1) with
    | some n => s.refuseStream (fun t => { t with progErr := BitVec.ofNat 32 (64 * n) })
    | none => { s with str := { s.str with progs := ps } }

/-- STREAM_PROGRAM_TABLE_WRITE (R184). -/
def execStreamProgramTableWrite (bytes : List Byte) (s : State) : Host.Outcome State Fault Refusal :=
  .next (streamProgramTableWrite bytes s)

/-- The last block of a segment covers an element of its shard, as far as the device holds an entry of the shard. -/
def State.segCovers (s : State) (g : Segment) : Bool :=
  match s.upd.table.find? (fun e => e.ts == g.ts) with
  | some e => decide ((g.first.toNat + g.count.toNat - 1) * wireMax g.fmt < e.count.toNat)
  | none => g.kind == 2

def State.segOk (s : State) (g : Segment) : Bool :=
  (g.kind == 1 || g.kind == 2) && wireOk g.fmt && decide (1 ≤ g.count.toNat) && g.src == cnOf g.src &&
  decide (g.dstOff.toNat < 2 ^ 47) && g.dstOff.toNat % 64 == 0 && s.segCovers g &&
  (g.kind == 2 || (g.src == s.own && (s.ownerOf g.ts).any (fun e => e.has .c)))

/-- Record n is a relay segment of a program with fabric destinations. -/
def State.relayClash (s : State) (n : Nat) (g : Segment) : Bool :=
  g.kind == 2 && s.str.progs.any (fun p => !p.dests.isEmpty && decide (p.firstSeg.toNat ≤ n) &&
    decide (n < p.firstSeg.toNat + p.segCount.toNat))

def segRowOk (s : State) (n : Nat) (l : List Byte) : Bool :=
  l.length == 32 && decide (n < 4096) && s.segOk (segmentOf l) && !(s.relayClash n (segmentOf l))

def segmentTableWrite (bytes : List Byte) (s : State) : State :=
  let rows := chunksOf (bytes.length / 32 + 1) 32 bytes
  let gs := rows.map segmentOf
  let bad := rows.zipIdx.findIdx? (fun x => !segRowOk s x.2 x.1)
  -- the programs already loaded keep their segments: the record missing is the one after the last
  let late := if s.str.progs.all (progFits gs) then none else some gs.length
  if !s.loadable then s.refuseStream (fun t => { t with segErr := 0xFFFFFFFF })
  else
    match bad.or late with
    | some n => s.refuseStream (fun t => { t with segErr := BitVec.ofNat 32 (32 * n) })
    | none => { s with str := { s.str with segs := gs } }

/-- SEGMENT_TABLE_WRITE (R184). -/
def execSegmentTableWrite (bytes : List Byte) (s : State) : Host.Outcome State Fault Refusal := .next (segmentTableWrite bytes s)

end Sys2Proof.Machine
end

