-- ==== Sys2Proof/Machine/JobOps.lean ====
section
/-! DEFINITION. What the opening and the restore share (R365 to R374): phase packets, descriptors, the checks of PREPARE, and the
folding of acknowledgements. -/
namespace Sys2Proof.Machine
open Sys2Proof

/-! ## Phase packets (R365) -/

def OpPhase.code : OpPhase → U8
  | .prepare => 1 | .survey => 2 | .install => 3 | .commit => 4 | .abandon => 5 | .anchors => 6
/-- The order of the phases of one sequence (R370). -/
def OpPhase.rank : OpPhase → Nat
  | .anchors => 0 | .prepare => 1 | .survey => 1 | .install => 2 | .commit => 3 | .abandon => 4

def phaseA (ph : OpPhase) (flag reason : U8) (seq x y : U32) : List Byte := [ph.code, flag, reason] ++ le32 seq ++ le32 x ++ le32 y

/-- A phase packet as the root makes it. -/
def State.phaseTrans (s : State) (ph : OpPhase) (x y : U32) (body : List Byte) : Trans :=
  s.mkTrans opFENCE 0 0 ([7] ++ phaseA ph 0 0 s.job.seq x y) [] [] body
/-- A phase packet sent on to a position. -/
def State.sendPhase (dst : U32) (t : Trans) (s : State) : State := s.sendFence dst 0 7 (leBytes 15 (t.a.toNat / 256)) [] [] t.body

/-! ## The descriptor (R366) -/

def Descr.bytes (d : Descr) : List Byte :=
  padTo 64 ([d.mode, 0] ++ le16 d.usv ++ le16 d.visa ++ le16 d.segments ++ le32 d.start ++ le32 d.members ++ le64 d.digest ++
    le64 d.anchorCrc ++ le32 d.skips)
def Descr.ofBytes (l : List Byte) : Descr :=
  { mode := byteAt l 0, usv := field16 l 2, visa := field16 l 4, segments := field16 l 6, start := field32 l 8
    members := field32 l 12, digest := field64 l 16, anchorCrc := field64 l 24, skips := field32 l 32 }

/-- OD 240n.03 (R146). -/
def ProgSlot.crc (p : ProgSlot) : U64 := if p.words.isEmpty then 0 else crc64 (padTo 128 (p.words.flatMap le32))
/-- OD 271n.03 (R176). -/
def CodeSlot.crc (c : CodeSlot) : U64 := if c.words.isEmpty then 0 else crc64 (c.words.flatMap le32)
/-- The 128 bytes of a vector-code entry (R177). -/
def VecEntry.bytes (v : VecEntry) : List Byte :=
  let reg (r : WorkRegion) : List Byte :=
    le64 r.base ++ le64 (r.len ||| (if r.wr then 1#64 <<< 62 else 0) ||| (if r.rd then 1#64 <<< 63 else 0))
  padTo 128 ([v.slot, 0, 0, 0] ++ le32 v.off ++ le32 v.budget ++ le32 0 ++ v.args.flatMap le64 ++ v.regions.flatMap reg)

/-- OD 2010.08: the configuration digest of the device's own objects (R366). -/
def State.configDigest (s : State) : U64 :=
  crc64 (le16 s.upd.semVersion ++ le16 s.vec.isaVersion ++ le32 s.adj.k ++ le32 s.adj.m ++ [s.adj.chainLen, s.part.logDepth] ++
    s.upd.progs.toList.flatMap (fun p => le64 p.crc) ++ s.vec.slots.toList.flatMap (fun c => le64 c.crc) ++
    le64 (crc64 (s.vec.entries.flatMap VecEntry.bytes)))

/-! ## Anchor segments (R365) -/

def segBytes (v : List U16) : List Byte := v.flatMap le16
def State.segOf (s : State) (q : Nat) : Option (List U16) := (s.job.segs.find? (fun x => x.1.toNat == q)).map (·.2)
/-- The anchors of the segments held: −32,768 names no anchor (R251). -/
def State.segVector (s : State) (n : Nat) : List (U32 × Int) :=
  (List.range n).flatMap fun q =>
    (((s.segOf q).getD []).zipIdx.filter (fun x => x.1 != 0x8000)).map
      (fun x => (BitVec.ofNat 32 (2048 * q + x.2), signed16 x.1))

/-- The anchor segments a position needs before PREPARE or INSTALL. -/
def State.sendSegs (dst : U32) (s : State) : State :=
  s.job.segs.foldl (fun s x => s.sendPhase dst (s.phaseTrans .anchors (x.1.setWidth 32) 0 (segBytes x.2))) s

/-! ## Checks of PREPARE (R368) -/

/-- The tensors that the device's tables name. -/
def State.namedTensors (s : State) : List U32 := s.upd.table.map (fun e => tensorOf e.ts) ++ s.red.trees.map (fun r => tensorOf r.ts)

/-- Check 0x05. -/
def State.anchorsOk (s : State) (d : Descr) : Bool :=
  let n := d.segments.toNat
  let segs := (List.range n).map s.segOf
  s.job.segSeq == s.job.seq && segs.all Option.isSome &&
  crc64 ((segs.filterMap id).flatMap segBytes) == d.anchorCrc &&
  s.namedTensors.all (fun t => decide (t.toNat < 2048 * n)) &&
  (d.mode != 1 || s.upd.table.all (fun e => (s.segVector n).any (fun x => x.1 == tensorOf e.ts && x.2 == e.initAnchor)))

/-- log2 of the unscaled element maximum that a stream needs as its span code (R141). -/
def spanNeed (e : TensorEntry) (st : Stream) : Nat := Nat.log2 (fmtMax (e.fmt st))

/-- The span condition of R141, for owner entries of both classes (R156). -/
def State.spanOk (s : State) (e : TensorEntry) (r : TreeRec) : Bool :=
  let stored := if e.cls == 1 then progStores (progOfEntry s e) else [Stream.w, .m, .v, .a, .c].filter e.has
  e.role != 1 || stored.all (fun st => decide (spanNeed e st ≤ r.span.toNat))

/-- Check 0x06. The CNs of the tray's agents are contributors and may stand among the children. -/
def State.treesOk (s : State) : Bool :=
  let member (c : U32) : Bool := s.job.tree.any (·.1 == cnOf c)
  let agent (c : U32) : Bool := s.agents.any (·.2 == cnOf c)
  s.upd.table.all (fun e => match s.treeOf e.ts with
    | some r => (e.role != 1 || r.count == e.count) && s.spanOk e r
    | none => false) &&
  s.red.trees.all (fun r => member r.parent && r.children.all (fun c => member c || agent c))

/-- An area lies in one region of a kind. -/
def State.inRegion (s : State) (kind : U8) (base : U64) (n : Nat) : Bool :=
  s.mem.regions.any (fun r => r.kind == kind && cnOfAddr base == s.own && r.covers (offOf base) &&
    decide (offOf base + n ≤ r.payOff + r.size.toNat))

/-- The region checks of R211. -/
def State.refsOk (s : State) : Bool :=
  s.upd.table.all (fun e => [Stream.w, .m, .v, .a, .c, .k, .g].all (fun st =>
    !e.has st || s.inRegion (if e.role == 1 then 1 else 2) (e.base st) (e.extent st))) &&
  s.vec.entries.all (fun v => v.regions.all (fun r => !(r.wr || r.rd) || s.inRegion 5 r.base r.len.toNat))

/-- The REPLAYLOG regions meet R311. -/
def State.logsOk (s : State) : Bool :=
  (List.finRange 4).all (fun ix => (s.logEntries ix).isEmpty ||
    ((s.part.owners[ix]).valid && s.mem.regions.any (fun r => r.id == (s.part.owners[ix]).region && r.kind == 8 &&
      decide (s.part.logDepth.toNat * s.slotBlocks ix * 4096 ≤ r.size.toNat)))) &&
  s.upd.table.all (fun e => e.role != 2 || (if h : e.owner.toNat < 4 then (s.part.owners[e.owner.toNat]).valid else false))

/-- The cut and base regions hold the layout of R317. With adjournments off they may be absent (R3; notes/assumptions/64.md). -/
def State.cutsOk (s : State) : Bool :=
  let n := 4096 * (s.owned.map TensorEntry.cutBlocks).sum
  n == 0 || [6, 7].all (fun k =>
    let rs := s.mem.regions.filter (fun r => r.kind == k)
    (s.adj.k == 0 && rs.isEmpty) || rs.any (fun r => decide (n ≤ r.size.toNat)))

/-- Check 0x07. -/
def State.regionsOk (s : State) : Bool :=
  s.refsOk && s.mem.regions.any (fun r => r.kind == 3 && decide (s.red.parkMiB.toNat * 1048576 ≤ r.size.toNat)) &&
  s.logsOk && s.cutsOk

/-! ### Stream tables (R374) -/

def tupleBytes (g : Segment) (src : U32) : List Byte :=
  le32 g.ts ++ [g.fmt, 0, 0, 0] ++ le32 g.first ++ le32 g.count ++ le32 (cnOf src)
def tupleLe (a b : List Byte) : Bool :=
  decide ((field32 a 0).toNat < (field32 b 0).toNat) ||
  (field32 a 0 == field32 b 0 && decide ((field32 a 8).toNat ≤ (field32 b 8).toNat))
def tuplesCrc (l : List (List Byte)) : U64 := crc64 ((l.eraseDups.mergeSort tupleLe).flatMap id)

/-- The CRC a member sends to a destination: the local segments of every program that names it. -/
def State.streamCrcTo (s : State) (dst : U32) : U64 :=
  tuplesCrc (((s.str.progs.filter (fun p => p.dests.any (fun d => cnOf d == dst))).flatMap s.segsOf |>.filter (·.kind == 1)).map
    (fun g => tupleBytes g s.adopted))
/-- The CRC over the relay segments from a sender. -/
def State.streamCrcFrom (s : State) (src : U32) : U64 :=
  tuplesCrc ((s.str.segs.filter (fun g => g.kind == 2 && cnOf g.src == src)).map (fun g => tupleBytes g g.src))

def State.relaySources (s : State) : List U32 := ((s.str.segs.filter (·.kind == 2)).map (fun g => cnOf g.src)).eraseDups
/-- Every sender of a relay segment has sent its STREAM_CHECK. -/
def State.streamsHeard (s : State) : Bool := s.relaySources.all (fun c => s.job.streamChecks.any (·.1 == c))
/-- Check 0x08 over what has arrived. -/
def State.streamsOk (s : State) : Bool := s.job.streamChecks.all (fun x => s.streamCrcFrom x.1 == x.2)

def State.sendStreamChecks (s : State) : State :=
  let ds := (s.str.progs.flatMap (fun p => p.dests.map cnOf)).eraseDups
  ds.foldl (fun s d => s.sendTrans opDIGEST d 0 [0, 0, 0, 0, 9] (le64 (s.streamCrcTo d)) [] []) s

/-- Checks 0x02 to 0x05, which PREPARE and INSTALL share. -/
def State.descrCheck (s : State) (d : Descr) : Option U8 :=
  if d.digest != s.configDigest then some 2
  else if d.usv != s.upd.semVersion then some 3
  else if d.visa != s.vec.isaVersion then some 4
  else if !(s.anchorsOk d) then some 5
  else none
/-- Checks 0x02 to 0x07 of PREPARE. -/
def State.prepareCheck (s : State) (d : Descr) : Option U8 :=
  match s.descrCheck d with
  | some r => some r
  | none => if !s.treesOk then some 6 else if !s.regionsOk then some 7 else none

/-! ## A phase on a member (R369) -/

/-- A refusal is recorded (R368, R373, R392). -/
def State.openRefused (reason phase : U8) (cn : U32) (s : State) : State :=
  s.record (ev3 0x2901 unitCC ([reason, phase] ++ arg4 cn))

def State.setPhase (p : PhaseSt) (s : State) : State := { s with job := { s.job with phase := some p } }

/-- A phase begins: its packet goes to each child at once. -/
def State.beginPhase (ph : OpPhase) (sender : Option U32) (t : Trans) (s : State) : State :=
  let kids := s.children
  let s := s.setPhase { phase := ph, seq := s.job.seq, sender := sender, expect := kids, pk := some t }
  kids.foldl (fun s c => s.sendPhase c t) s

/-- The own part of the phase is done: ready, or refused with a reason. -/
def State.setOwn (reason : Option U8) (s : State) : State :=
  match s.job.phase with
  | none => s
  | some p =>
    if p.own.isSome then s
    else
      match reason with
      | none => s.setPhase { p with own := some (true, 0), readyCount := p.readyCount + 1 }
      | some r =>
        let ref := match p.refused with | some x => some x | none => some (r, s.adopted)
        (s.setPhase { p with own := some (false, r), refused := ref }).openRefused r p.phase.code s.adopted

/-- The phase is settled here and not yet answered. -/
def PhaseSt.settled (p : PhaseSt) : Bool := p.own.isSome && p.expect.isEmpty && !p.acked

/-- OPENING_ACK (R367). -/
def State.ackTrans (s : State) (p : PhaseSt) (dst : U32) : Trans :=
  let (flag, reason, b) : U8 × U8 × U64 := match p.refused with
    | some (r, cn) => (1, r, cn.setWidth 64)
    | none => (0, 0, if p.phase = .survey then p.mask else 0)
  s.mkTrans opFENCE dst 0 ([8] ++ phaseA p.phase flag reason p.seq p.readyCount p.missCount) (le64 b) []
    ((p.missing.take 1024).flatMap le32)

/-- A stored acknowledgement is sent with the tags of the moment. -/
def State.sendAckTo (dst : U32) (t : Trans) (s : State) : State :=
  s.sendFence dst 0 8 (leBytes 15 (t.a.toNat / 256)) (le64 t.b) [] t.body

/-- The answer goes to the member that sent the phase, and is kept (R369, R370). -/
def State.ackUp (p : PhaseSt) (dst : U32) (s : State) : State :=
  let t := s.ackTrans p dst
  let s := (s.setPhase { p with acked := true }).sendAckTo dst t
  { s with job := { s.job with lastAck := some t, lastPhase := some p.phase } }

def ackRefused (t : Trans) : Bool := t.a8 2 == 1

end Sys2Proof.Machine
end

