-- ==== Sys2Proof/Machine/Partner.lean ====
section
/-! DEFINITION. The commands of partners, replay and mirroring (R285 to R314). -/
namespace Sys2Proof.Machine
open Sys2Proof

/-! ## Configuration and pairing -/

/-- The value of OD 3000.02: no bit set but the CN and bit 31. -/
def partnerValueOk (v : U32) : Bool := v &&& 0x7FFE0000#32 == 0

def partnerConfigWrite (sub : U8) (bytes : List Byte) (s : State) : State :=
  let v := field32 bytes 0
  if sub == 2 && bytes.length == 4 && partnerValueOk v then
    if s.loadable then s.applyPartner v
    else if s.job.dev == .run then { s with part := { s.part with heldPartner := some (cnOf v, v.getLsbD 31) } } else s
  else if sub == 3 && bytes.length == 8 then
    if s.loadable then s.applyDelta (field64 bytes 0)
    else if s.job.dev == .run then { s with part := { s.part with heldDelta := some (field64 bytes 0) } } else s
  else if sub == 4 && bytes.length == 64 then
    let es := (chunksOf 4 16 bytes).map ownerEntryOf
    if s.loadable then s.applyOwners es
    else if s.job.dev == .run then { s with part := { s.part with heldOwners := some es } } else s
  else s

/-- PARTNER_CONFIG_WRITE (R288): at once in STANDBY and OPENING, held in RUN until an epoch is installed. -/
def execPartnerConfigWrite (sub : U8) (bytes : List Byte) (s : State) : Host.Outcome State Fault Refusal :=
  .next (partnerConfigWrite sub bytes s)

/-- Pairing gives the REPLICA regions the tag of the job (R209). -/
def State.tagReplicas (s : State) : State :=
  { s with mem := { s.mem with regions := s.mem.regions.map (fun r => if r.kind == 2 then { r with jt := s.job.jt } else r) } }

def pairReqReceive (pk : Trans) (s : State) : State :=
  let s := s.takePk (.trans pk)
  let src := cnOf pk.src
  match s.ownerIx src with
  | some _ => (s.tagReplicas).sendTrans opDIGEST src 0 [0, 0, 0, 0, 4] (le64 s.part.tags) [] []
  | none => s.sendTrans opDIGEST src 0 [0, 0, 0, 0, 5] [] [] []

/-- PAIR_REQ_RECEIVE (R288, R209). -/
def execPairReqReceive (_port : Port) (pk : Trans) (s : State) : Host.Outcome State Fault Refusal := .next (pairReqReceive pk s)

/-- An answer of the named partner is awaited. -/
def State.pairing (s : State) (src : U32) : Bool :=
  s.part.named && src == s.part.partner && (s.part.pair == .requesting || s.part.pair == .refused)

def pairAckReceive (pk : Trans) (s : State) : State :=
  let s := s.takePk (.trans pk)
  if s.pairing (cnOf pk.src) then s.pairOk pk.b else s

/-- PAIR_ACK_RECEIVE (R288, R289, R291). -/
def execPairAckReceive (_port : Port) (pk : Trans) (s : State) : Host.Outcome State Fault Refusal := .next (pairAckReceive pk s)

def pairRefuseReceive (pk : Trans) (s : State) : State :=
  let s := s.takePk (.trans pk)
  if s.pairing (cnOf pk.src) then s.pairFailed 1 else s

/-- PAIR_REFUSE_RECEIVE (R288). -/
def execPairRefuseReceive (_port : Port) (pk : Trans) (s : State) : Host.Outcome State Fault Refusal :=
  .next (pairRefuseReceive pk s)

def pairTimeout (s : State) : State := if s.part.named && s.part.asked then s.pairFailed 2 else s

/-- PAIR_TIMEOUT (R288): 100 ms have passed since the request, the first one or a repeated one. -/
def execPairTimeout (s : State) : Host.Outcome State Fault Refusal := .next (pairTimeout s)

def pairRetry (s : State) : State := if s.part.named && s.part.pair == .refused then s.sendPairReq else s

/-- PAIR_RETRY (R288): 1 s has passed since the request was refused or unanswered. -/
def execPairRetry (s : State) : Host.Outcome State Fault Refusal := .next (pairRetry s)

/-! ## Class changes (R295) -/

/-- The first row of R295: whether the change is refused. -/
def State.changeRefused (s : State) (e : TensorEntry) (cls : U8) (step : U32) : Bool :=
  s.job.dev != .run || !({ e with pclass := cls } : TensorEntry).classOk || decide (step.toNat ≤ e.l.toNat) ||
  (match e.p with | some p => decide (step.toNat ≤ p.toNat) | none => false) || s.part.changes.any (·.ts == e.ts)

def State.refuseChange (s : State) : State :=
  ({ s with part := { s.part with clsStatus := 4, clsRefusals := bump s.part.clsRefusals } }).record (ev3 0x3020 unitCont [])

def classChangeAction (bytes : List Byte) (s : State) : State :=
  let ts := field32 bytes 0
  let cls := byteAt bytes 4
  let step := field32 bytes 8
  if bytes.length != 12 then s
  else
    match s.ownerOf ts with
    | none => s.refuseChange
    | some e =>
      if s.changeRefused e cls step then s.refuseChange
      else { s with part := { s.part with clsStatus := 1, changes := s.part.changes ++ [⟨ts, cls, step⟩] } }

/-- CLASS_CHANGE_ACTION (R295). -/
def execClassChangeAction (bytes : List Byte) (s : State) : Host.Outcome State Fault Refusal := .next (classChangeAction bytes s)

/-! ## Roll-forward at an owner under installation (R382) -/

def State.rolling (s : State) (src ts : U32) : Bool :=
  src == s.part.partner && s.job.rolls.any (fun r => r.ts == ts && !r.failed)
def State.setRoll (ts : U32) (f : Roll → Roll) (s : State) : State :=
  { s with job := { s.job with rolls := s.job.rolls.map (fun r => if r.ts == ts then f r else r) } }

/-- A slot that turns out incomplete or poisoned fails the install. -/
def State.failRoll (ts : U32) (s : State) : State :=
  (s.setRoll ts (fun r => { r with failed := true })).record (ev3 0x2913 unitCC [])

def State.rollBlock (b : Block) (s : State) : State :=
  if b.hdr.poison then s.failRoll b.hdr.ts else s.setRoll b.hdr.ts (fun r => { r with blks := r.blks ++ [b] })

/-- A WINDOW record of a roll-forward: its window is dispatched against the entry being installed. -/
def State.rollRecord (pk : Trans) (s : State) : State :=
  let ts := pk.a32 0
  let w := pk.a32 4
  match s.ownerOf ts, s.job.rolls.find? (·.ts == ts) with
  | some e, some r =>
    let bs := s.gRange e w
    let got := bs.filterMap (fun b => r.blks.find? (fun x => x.hdr.step == pk.step && x.hdr.blk.toNat == b))
    if got.length < bs.length then s.failRoll ts
    else
      let pay := got.flatMap Block.pay
      let n := winElems (s.winSpan ts) e.count.toNat w.toNat
      let d : DispWin := { ts := ts, w := w, step := pk.step, g := (List.range n).map (fun i => field32 pay (4 * i))
                           s0 := pk.a32 8, s4 := pk.a32 12, ready := true, roll := true
                           heldVal := if pk.bNat 5 1 % 2 == 1 then some (BitVec.ofNat 32 (pk.bNat 0 4)) else none }
      let s := s.setRoll ts (fun r => { r with blks := r.blks.filter (fun x => !(got.contains x)) })
      { s with upd := { s.upd with disp := s.upd.disp ++ [d] } }
  | _, _ => s

/-- A SKIP record of a roll-forward: the step passes without an update. -/
def State.rollSkip (pk : Trans) (s : State) : State :=
  s.setEntry (pk.a32 0) 1 (fun e => { e with l := pk.step, prevL := e.l, prevT := e.t, p := none })

/-! ## REPLAY_G (R301, R311) -/

/-- The rows of R301 for a shard of a listed owner: none when the packet has been dealt with. -/
def State.replayGate (src ts step : U32) (ack : State → State) (s : State) : Option (Fin 4 × TensorEntry) × State :=
  if s.aboveFailed step then (none, s.refuseStep)
  else
    match s.ownerIx src with
    | none => (none, s.refuseSource src)
    | some ix =>
      match s.replicaOf ts with
      | none => (none, s.refuseShard ts)
      | some e =>
        if !(e.replicaOwner ix) then (none, s.refuseShard ts)
        else if e.status == .quarantined || s.dropped src ts then (none, ack s.refuseQuiet)
        else if step.toNat ≤ e.l.toNat then
          (none, ack { s with part := { s.part with duplicates := bump s.part.duplicates } })
        else (some (ix, e), s)

def State.refuseLog (s : State) : State := { s with part := { s.part with logRefusals := bump s.part.logRefusals } }

def replayGReceive (b : Block) (s : State) : State :=
  let s := s.takePk (.block b)
  let h := b.hdr
  if s.rolling (cnOf h.src) h.ts then s.rollBlock b
  else
    match s.replayGate (cnOf h.src) h.ts h.step (fun s => s.ackReplay h) with
    | (none, s) => s
    | (some (ix, e), s) =>
      if h.blk.toNat ≥ e.gBlocks then s.refuseQuiet
      else
        match s.openSlot ix h.step with
        | none => s.refuseLog
        | some s => ((s.putG ix b).ackReplay h).tryReplicas ix h.ts h.step

/-- REPLAY_G_RECEIVE (R301, R311, R382). -/
def execReplayGReceive (_port : Port) (blk : Block) (s : State) : Host.Outcome State Fault Refusal := .next (replayGReceive blk s)

/-! ## Records (R298, R302) -/

def replicaOfRecord (pk : Trans) : ReplicaWin :=
  { ts := pk.a32 0, w := pk.a32 4, step := pk.step, s0 := pk.a32 8, s4 := pk.a32 12
    held := if pk.bNat 5 1 % 2 == 1 then some (BitVec.ofNat 32 (pk.bNat 0 4)) else none
    ownerPipe := BitVec.ofNat 8 (pk.bNat 6 1), ownerDigest := pk.c, src := cnOf pk.src }

def LogRec.agrees (l : LogRec) (r : ReplicaWin) : Bool := l.s0 == r.s0 && l.s4 == r.s4 && l.held == r.held && !l.skipped

/-- A new WINDOW record of an accepted shard. -/
def State.newRecord (ix : Fin 4) (r : ReplicaWin) (s : State) : State :=
  match s.openSlot ix r.step with
  | none => s.refuseLog
  | some s =>
    let s := { s with part := { s.part with replicas := s.part.replicas ++ [r] } }
    match s.part.logRecs.find? (fun l => l.ts == r.ts && l.step == r.step) with
    | some l => if l.agrees r then s.tryReplica ix r else s.replicaSkew r
    | none => (s.putRec ix { ts := r.ts, step := r.step, s0 := r.s0, s4 := r.s4, held := r.held }).tryReplica ix r

def windowRecordReceive (pk : Trans) (s : State) : State :=
  let s := s.takePk (.trans pk)
  let r := replicaOfRecord pk
  if s.rolling r.src r.ts then s.rollRecord pk
  else
    match s.replayGate r.src r.ts r.step (fun s => s.ackRecord r.src r.step r.ts r.w) with
    | (none, s) => s
    | (some (ix, _), s) =>
      match s.replicaWin r.ts r.w r.step with
      | some q => if q.settled then s.ackRecord r.src r.step r.ts r.w else s
      | none => s.newRecord ix r

/-- WINDOW_RECORD_RECEIVE (R301, R302, R382). -/
def execWindowRecordReceive (_port : Port) (pk : Trans) (s : State) : Host.Outcome State Fault Refusal :=
  .next (windowRecordReceive pk s)

def allOnes32 : U32 := 0xFFFFFFFF

def skipRecordReceive (pk : Trans) (s : State) : State :=
  let s := s.takePk (.trans pk)
  let src := cnOf pk.src
  let ts := pk.a32 0
  let ack (s : State) : State := s.ackRecord src pk.step ts allOnes32
  if s.rolling src ts then s.rollSkip pk
  else
    match s.replayGate src ts pk.step ack with
    | (none, s) => s
    | (some (ix, _), s) =>
      match s.openSlot ix pk.step with
      | none => s.refuseLog
      | some s =>
        let s := if s.skipLogged ts pk.step then s else s.putRec ix { ts := ts, step := pk.step, skipped := true }
        (ack s).recheckDigest ts pk.step

/-- SKIP_RECORD_RECEIVE (R298, R299). -/
def execSkipRecordReceive (_port : Port) (pk : Trans) (s : State) : Host.Outcome State Fault Refusal :=
  .next (skipRecordReceive pk s)

/-- SYNC sets t and L, ends a quarantine and leaves the drop list; a MIR shard gets its mirror counter record (R296, R380). -/
def State.applySync (src ts step t l : U32) (s : State) : State :=
  let s := { s with part := { s.part with
    drops := s.part.drops.filter (fun d => !(d.1 == src && d.2.1 == ts))
    terms := s.part.terms.filter (fun d => !(d.replica && d.ts == ts && decide (d.step.toNat < step.toNat))) } }
  match s.replicaOf ts with
  | some _ =>
    (s.setEntry ts 2 (fun e => { e with
      t := t, l := l, p := none, status := if e.status = .quarantined then .idle else e.status })).readmitReplica ts
  | none =>
    let rest := s.job.mirrors.filter (fun m => !(m.owner == src && m.ts == ts))
    { s with job := { s.job with mirrors := rest ++ [⟨src, ts, t, l⟩] } }

/-- A replica entry of another owner (R301 row 2). SYNC and DROP records concern shards without a replica entry too (R296), so that
the row does not refuse those. -/
def State.foreignReplica (s : State) (ix : Fin 4) (ts : U32) : Bool := (s.replicaOf ts).any (fun e => !(e.replicaOwner ix))

def syncRecordReceive (pk : Trans) (s : State) : State :=
  let s := s.takePk (.trans pk)
  let src := cnOf pk.src
  let ts := pk.a32 0
  if s.aboveFailed pk.step then s.refuseStep
  else
    match s.ownerIx src with
    | none => s.refuseSource src
    | some ix =>
      if s.foreignReplica ix ts then s.refuseShard ts
      else (s.applySync src ts pk.step (pk.a32 4) (pk.a32 8)).ackRecord src pk.step ts allOnes32

/-- SYNC_RECORD_RECEIVE (R296, R301, R380). -/
def execSyncRecordReceive (_port : Port) (pk : Trans) (s : State) : Host.Outcome State Fault Refusal :=
  .next (syncRecordReceive pk s)

def dropRecordReceive (pk : Trans) (s : State) : State :=
  let s := s.takePk (.trans pk)
  let src := cnOf pk.src
  let ts := pk.a32 0
  if s.aboveFailed pk.step then s.refuseStep
  else
    match s.ownerIx src with
    | none => s.refuseSource src
    | some ix =>
      let ack (s : State) : State := s.ackRecord src pk.step ts allOnes32
      if s.foreignReplica ix ts then s.refuseShard ts
      else if (s.replicaOf ts).any (·.status == .quarantined) || s.dropped src ts then ack s.refuseQuiet
      else if (s.replicaOf ts).any (fun e => decide (pk.step.toNat ≤ e.l.toNat)) then
        ack { s with part := { s.part with duplicates := bump s.part.duplicates } }
      else
        let repairing := s.part.replicas.any (fun r => r.ts == ts && r.repairing && !r.settled)
        ack (if repairing then s.quarantineReplica ts else s.dropShard src ts pk.step)

/-- DROP_RECORD_RECEIVE (R296, R304). -/
def execDropRecordReceive (_port : Port) (pk : Trans) (s : State) : Host.Outcome State Fault Refusal :=
  .next (dropRecordReceive pk s)

/-! ## Settling a replica window (R303, R304) -/

def State.replicaPipe (s : State) (ts w : U32) : Option (Pipe × PipeWin) :=
  (List.finRange 8).findSome? (fun p =>
    ((s.upd.pipes[p]).queue.find? (fun x => x.win.replica && x.win.ts == ts && x.win.w == w)).map (fun x => (p, x)))

/-- Arguments of 0x3010, 0x3011 and 0x3013: partner's pipeline and digest before the owner's (R303). -/
def settleArgs (r : ReplicaWin) (p : Pipe) (mine : U64) : List Byte :=
  arg4 r.ts ++ arg4 r.step ++ arg4 r.w ++ [BitVec.ofNat 8 p.val, r.ownerPipe] ++ arg8 mine ++ arg8 r.ownerDigest

/-- A replica window's blocks are written and counted; its frozen attempts mark the replica for the halt of its owner (R132). -/
def State.writeReplica (p : Pipe) (e : TensorEntry) (d : DispWin) (res : RunResult) (ws : List BlkWrite) (s : State) : State :=
  let s := ws.foldl (fun s b => s.commitWrite e d.step d.w b) s
  s.countWindow (unitPipe p) e d res

/-- The partner's blocks go to the owner as its repair (R304). -/
def State.sendRepair (r : ReplicaWin) (ws : List BlkWrite) (s : State) : State :=
  let delta := match s.ownerIx r.src with | some ix => (s.part.owners[ix]).delta | none => 0
  let s := ws.foldl (fun s b =>
    let pk := s.mirrorOf b.blk.hdr b.blk.pay b.off r.src (0 - delta)
    (s.sendRetained pk).countMirror pk) s
  s.setReplica { r with verdict := 2, repairLeft := ws.map (fun b => BitVec.ofNat 64 b.off - delta) }

def State.countDecided (s : State) : State := { s with part := { s.part with decided := bump s.part.decided } }

/-- The rows of R303 where the first run differs from the owner. -/
def State.thirdRun (p : Pipe) (e : TensorEntry) (x : PipeWin) (r : ReplicaWin) (ws : List BlkWrite) (mine : U64) (s : State) : State :=
  let undecided (third : U8) (s : State) : State :=
    let s := { s with part := { s.part with undecided := bump s.part.undecided } }
    let s := s.record (ev3 0x3011 unitCont (settleArgs r p mine))
    (s.sendVerdict r.src r.step r.ts r.w 3 third mine).quarantineReplica r.ts
  match s.pickPipe (patternOf e) [p] with
  | none => undecided 0xFF s
  | some q =>
    let q8 := BitVec.ofNat 8 q.val
    let (res3, _, s) := s.runFor (unitPipe q) e x.win
    let ws3 := s.resultWrites e r.step (firstElem s x.win) res3
    let third := writesDigest ws3
    if third == r.ownerDigest then
      let s := (s.countDecided.record (ev3 0x3010 unitCont (settleArgs r p mine))).writeReplica q e x.win res3 ws3
      let s := s.charge { unit := unitPipe p, code := 0x3010, path := 2, pattern := patternOf e }
      ((s.sendVerdict r.src r.step r.ts r.w 1 q8 third).settleReplica { r with verdict := 1 }).recheckDigest r.ts r.step
    else if third == mine then
      let s := (s.countDecided.record (ev3 0x3010 unitCont (settleArgs r p mine))).writeReplica p e x.win x.res ws
      (s.sendVerdict r.src r.step r.ts r.w 2 q8 mine).sendRepair r ws
    else undecided q8 s

def replicaWindowSettle (ts w : U32) (s : State) : State :=
  match s.replicaPipe ts w with
  | none => s
  | some (p, x) =>
    match s.replicaOf ts, s.replicaWin ts w x.win.step with
    | some e, some r =>
      let s := s.setPipe p (fun q => { q with queue := q.queue.erase x })
      let ws := s.resultWrites e r.step (firstElem s x.win) x.res
      let mine := if x.win.poison then 0 else writesDigest ws   -- with G poisoned nothing is written (R64)
      let r := { r with firstPipe := some (BitVec.ofNat 8 p.val), firstDigest := mine }
      if x.res.poisonOut || x.win.poison then
        let s := { s with part := { s.part with repReplica := bump s.part.repReplica } }
        let s := s.record (ev3 0x3013 unitCont (settleArgs r p mine))
        (s.sendVerdict r.src r.step r.ts r.w 4 0xFF mine).setReplica
          { r with verdict := 4, repairing := true, repairLeft := ws.map (fun b => BitVec.ofNat 64 b.off) }
      else if mine == r.ownerDigest then
        let s := { s with part := { s.part with confirmed := bump s.part.confirmed } }
        ((s.writeReplica p e x.win x.res ws).settleReplica r).recheckDigest ts r.step
      else s.thirdRun p e x r ws mine
    | _, _ => s.setPipe p (fun q => { q with queue := q.queue.erase x })

/-- REPLICA_WINDOW_SETTLE (R303). -/
def execReplicaWindowSettle (ts : U32) (w : U32) (s : State) : Host.Outcome State Fault Refusal :=
  .next (replicaWindowSettle ts w s)

/-! ## Verdicts at the owner (R303, R304) -/

def isRecord (kind : Nat) (ts step : U32) (p : Packet) : Bool :=
  match p with
  | .trans t => t.op == opREPLAY_G && t.a32 0 == ts && t.step == step && t.bNat 4 1 == kind
  | .block _ => false
def isWindowRecord (ts w step : U32) (p : Packet) : Bool :=
  isRecord 1 ts step p && (match p with | .trans t => t.a32 4 == w | .block _ => false)

/-- The offsets of the blocks that the owner wrote for a window, as its digest terms name them. -/
def State.writtenOffs (s : State) (e : TensorEntry) (w step : U32) : List Nat :=
  (s.part.terms.filter (fun d => d.ts == e.ts && d.step == step && !d.replica && d.w == w)).map
    (fun d => s.readOff e d.stream d.idx.toNat)

def State.storedPoison (s : State) (off : Nat) : Bool :=
  match tierOf off, s.regionAt off with
  | some t, some r => (s.storedHeader t r off).poison
  | _, _ => false

/-- REPLICA_POISONED: the window's blocks as they stand, or a DROP record (R304). -/
def State.repairPartner (e : TensorEntry) (w step : U32) (s : State) : State :=
  let offs := s.writtenOffs e w step
  if offs.any s.storedPoison then s.sendRecord step { ts := e.ts, a1 := 0xFFFFFFFF, kind := 5 }
  else offs.foldl (fun s off => s.sendMirror off) s

def verdictReceive (pk : Trans) (s : State) : State :=
  let s := s.takePk (.trans pk)
  let ts := pk.a32 0
  let w := pk.a32 4
  let step := pk.step
  let code := pk.bNat 5 1
  if s.aboveFailed step then s.refuseStep
  else if !(s.part.named && cnOf pk.src == s.part.partner) then s.refuseSource (cnOf pk.src)
  else
    match s.ownerOf ts, s.part.retained.find? (fun i => isWindowRecord ts w step i.pk) with
    | some e, some i =>
      if code == 2 then
        let pipe := match i.pk with | .trans t => t.bNat 6 1 | .block _ => 0
        let s := s.charge { unit := 0x0100 + pipe, code := 0x3012, path := 2, pattern := patternOf e }
        { s with part := { s.part with repairFor := s.part.repairFor ++ [(ts, w, step)] } }
      else if code == 3 then (s.countWritten ts w step).failShard ts step 0x3011 0
      else if code == 4 then s.repairPartner e w step
      else if code == 5 then (s.countWritten ts w step).failShard ts step 0x3015 0
      else s
    | _, _ => s

/-- VERDICT_RECEIVE (R303, R304). -/
def execVerdictReceive (_port : Port) (pk : Trans) (s : State) : Host.Outcome State Fault Refusal := .next (verdictReceive pk s)

/-! ## MIRROR_P (R301, R304 to R306, R381) -/

def State.installing (s : State) : Bool := s.job.phase.any (·.phase == .install)

/-- The pull that a block answers (R381). -/
def State.pullFor (s : State) (c : Cover) (h : Header) : Option Pull :=
  s.job.pulls.find? (fun p => p.ts == h.ts && c.entry.ts == h.ts && p.stream == c.stream &&
    decide (p.first.toNat ≤ c.idx) && decide (c.idx < p.first.toNat + p.count.toNat))

def State.acceptPull (p : Pull) (c : Cover) (b : Block) (s : State) : State :=
  let s := if c.stream = .k then s.putMaskMirror c.entry b else s.putMirror b
  let up (q : Pull) : Pull := if q == p then { q with digest := q.digest ^^^ blockTerm c.idx b.pay } else q
  { s with job := { s.job with pulls := s.job.pulls.map up, pulled := bump s.job.pulled } }

/-- The pending OWNER_FAULT verdict that a repair answers: its window holds the block (R304). -/
def State.repairOf (s : State) (c : Cover) (h : Header) : Option (U32 × U32 × U32) :=
  s.part.repairFor.find? (fun r =>
    let lo := r.2.1.toNat * s.winSpan r.1
    let n := fmtMax (c.entry.fmt c.stream)
    r.1 == h.ts && r.2.2 == h.step && c.entry.ts == h.ts && decide (c.idx * n < lo + s.winSpan r.1) && decide (lo < (c.idx + 1) * n))

def State.acceptRepair (r : U32 × U32 × U32) (c : Cover) (b : Block) (s : State) : State :=
  let s := (s.putMirror b).foldTerm ⟨r.1, r.2.2, false, r.2.1, c.stream, BitVec.ofNat 32 c.idx, blockTerm c.idx b.pay⟩
  s.ackMirror b.hdr

/-- A MIRROR_P into a STATE region. -/
def State.ownerMirror (b : Block) (s : State) : State :=
  let h := b.hdr
  let off := offOf h.offset
  let gone := s.takePk (.block b)
  if !(s.part.named && cnOf h.src == s.part.partner) then gone.refuseSource (cnOf h.src)
  else
    match s.coverAt off, s.mirrorRegion 1 h with
    | some c, true =>
      match s.pullFor c h with
      | some p => gone.acceptPull p c b
      | none =>
        if s.installing then { gone with job := { gone.job with pullRefusals := bump gone.job.pullRefusals } }
        else
          match s.repairOf c h with
          | none => gone.refuseSource (cnOf h.src)
          | some r =>
            let (wait, s') := s.mustWait [off]
            if wait then s' else (gone.touchDone [off]).acceptRepair r c b
    | _, _ =>
      if s.installing then { gone with job := { gone.job with pullRefusals := bump gone.job.pullRefusals } }
      else gone.refuseSource (cnOf h.src)

/-- A repair of a poisoned replica window (R304): the record is acknowledged once the blocks are written and the window digests
agree (DESIGN CHOICE: R304 does not say what follows when they differ, notes/assumptions/78.md). -/
def State.acceptReplicaRepair (r : ReplicaWin) (b : Block) (s : State) : State :=
  let off := offOf b.hdr.offset
  let s := (s.putMirror b).ackMirror b.hdr
  let s := match s.coverAt off with
    | some c => s.foldTerm ⟨r.ts, r.step, true, r.w, c.stream, BitVec.ofNat 32 c.idx, blockTerm c.idx b.pay⟩
    | none => s
  let left := r.repairLeft.filter (fun a => a.toNat != off)
  let s := s.setReplica { r with repairLeft := left }
  if left.isEmpty && s.windowDigest r.ts r.w r.step true == r.ownerDigest then (s.settleReplica r).recheckDigest r.ts r.step
  else s

/-- A MASK block at the partner (R306). A block for a later step is staged, without a limit, and acknowledged when it is: R296 asks
for the acknowledgement before the step begins (DEDUCED, notes/assumptions/78.md). -/
def State.acceptMask (b : Block) (s : State) : State :=
  let h := b.hdr
  match s.replicaOf h.ts with
  | some e =>
    let later := decide (e.l.toNat < h.step.toNat) &&
      (match e.p with | some p => decide (p.toNat < h.step.toNat) | none => true)
    if later then
      ({ s with upd := { s.upd with staged := s.upd.staged ++ [StagedMask.mk e.ts h.step true (s.maskBlock e b)] } }).ackMirror h
    else (s.putMaskMirror e b).ackMirror h
  | none =>
    let off := offOf h.offset
    match tierOf off with
    | none => s
    | some t =>
      let flags := setFlag (setFlag (setFlag h.flags 1 false) 6 false) 8 false
      let hd : Header := { s.mirrorHeader h off with typ := 2, fmt := 0, count := 32768, flags := flags }
      (s.writeCarried t off { b with hdr := hd }).ackMirror h

/-- A MIRROR_P into a REPLICA region that R301 accepts. -/
def State.acceptMirror (b : Block) (s : State) : State :=
  let h := b.hdr
  let off := offOf h.offset
  if State.isMask h then s.acceptMask b
  else
    match s.part.replicas.find? (fun r => r.ts == h.ts && r.step == h.step && r.repairing && r.repairLeft.any (fun a => a.toNat == off)) with
    | some r => s.acceptReplicaRepair r b
    | none =>
      let s := (s.putMirror b).ackMirror h
      if s.installing then s
      else
        (s.foldTerm ⟨h.ts, h.step, true, 0, .w, BitVec.ofNat 32 (off / 4096), blockTerm h.blk.toNat b.pay⟩).recheckDigest h.ts h.step

def State.maskOutside (s : State) (h : Header) : Bool :=
  State.isMask h && (match s.coverAt (offOf h.offset) with
    | some c => !(c.entry.ts == h.ts && c.stream == .k)
    | none => (s.replicaOf h.ts).isSome)

/-- Whether a MIRROR_P of a quarantined or dropped shard is part of a synchronisation: its block was written in a step that has been
sealed, or that its owner has completed (DESIGN CHOICE: R301 does not say how it is known, notes/assumptions/78.md). -/
def State.partOfSync (s : State) (src : U32) (h : Header) : Bool :=
  State.isMask h || decide (h.step.toNat ≤ s.fence.sealedStep.toNat) ||
  s.part.ownerStep.any (fun x => x.1 == src && x.2.1 == h.ts && decide (h.step.toNat ≤ x.2.2.toNat))

def State.partnerMirror (b : Block) (s : State) : State :=
  let s := s.takePk (.block b)
  let h := b.hdr
  let src := cnOf h.src
  if (s.ownerIx src).isNone then s.refuseSource src
  else if !(s.mirrorRegion 2 h) || s.maskOutside h then s.refuseSource src
  else if ((s.replicaOf h.ts).any (·.status == .quarantined) || s.dropped src h.ts) && !(s.partOfSync src h) then
    s.refuseQuiet.ackMirror h
  else s.acceptMirror b

def mirrorPReceive (b : Block) (s : State) : State :=
  if !s.installing && s.aboveFailed b.hdr.step then (s.takePk (.block b)).refuseStep
  else
    match s.regionAt (offOf b.hdr.offset) with
    | some r => if r.kind == 1 then s.ownerMirror b else s.partnerMirror b
    | none => s.partnerMirror b

/-- MIRROR_P_RECEIVE (R301, R304 to R306, R381). -/
def execMirrorPReceive (_port : Port) (blk : Block) (s : State) : Host.Outcome State Fault Refusal := .next (mirrorPReceive blk s)

/-! ## Acknowledgements and resends (R300) -/

def isMirrorItem (ts step src key : U32) (p : Packet) : Bool :=
  match p with
  | .block b => b.hdr.typ == 1 && b.hdr.mirror && b.hdr.ts == ts && b.hdr.step == step && cnOf b.hdr.dst == src &&
      mirrorKey b.hdr.offset == key
  | .trans _ => false
def isReplayItem (ts step src blk : U32) (p : Packet) : Bool :=
  match p with
  | .block b => b.hdr.typ == 4 && b.hdr.ts == ts && b.hdr.step == step && cnOf b.hdr.dst == src && b.hdr.blk == blk
  | .trans _ => false
def isRecordItem (ts step src w : U32) (p : Packet) : Bool :=
  match p with
  | .trans t => t.op == opREPLAY_G && t.a32 0 == ts && t.step == step && cnOf t.dst == src &&
      (if t.bNat 4 1 == 1 then t.a32 4 == w else w == allOnes32)
  | .block _ => false
def isMirrorOf (ts : U32) (p : Packet) : Bool :=
  match p with
  | .block b => b.hdr.mirror && b.hdr.ts == ts
  | .trans _ => false

/-- Once every block of a synchronisation is acknowledged, the SYNC record leaves (R296). -/
def State.syncReady (ts : U32) (s : State) : State :=
  match s.part.syncing.find? (·.1 == ts), s.ownerOf ts with
  | some (_, step), some e =>
    if s.part.retained.any (fun i => isMirrorOf ts i.pk || isRecord 4 ts step i.pk) then s
    else s.sendRecord step { ts := ts, a1 := e.t, a2 := e.l, kind := 4 }
  | _, _ => s

/-- The owner has acknowledged a repair block (R304). -/
def State.repairAcked (b : Block) (s : State) : State :=
  match s.part.replicas.find? (fun r => r.ts == b.hdr.ts && r.step == b.hdr.step && r.verdict == 2 && !r.settled &&
      r.repairLeft.any (fun a => mirrorKey a == mirrorKey b.hdr.offset)) with
  | none => s
  | some r =>
    let left := r.repairLeft.filter (fun a => mirrorKey a != mirrorKey b.hdr.offset)
    if left.isEmpty then (s.settleReplica r).recheckDigest r.ts r.step else s.setReplica { r with repairLeft := left }

/-- A WINDOW record is acknowledged: the window counts as written back, its repair as done (R303, R304). -/
def State.windowAcked (ts w step : U32) (s : State) : State :=
  let s := if s.part.repairFor.contains (ts, w, step) then
      ({ s with part := { s.part with
          repairFor := s.part.repairFor.erase (ts, w, step), repOwner := bump s.part.repOwner } }).record (ev3 0x3012 unitCont [])
    else s
  s.countWritten ts w step

/-- A SYNC record is acknowledged (R296). -/
def State.syncAcked (t : Trans) (s : State) : State :=
  let ts := t.a32 0
  ({ s with part := { s.part with
      syncing := s.part.syncing.filter (fun x => x.1 != ts), syncs := bump s.part.syncs } }).record
    (ev3 0x3022 unitCont (arg4 ts ++ arg4 t.step ++ arg4 (t.a32 4) ++ arg4 (t.a32 8) ++ arg4 s.part.partner))

/-- The item that place i of an acknowledgement names (R248, R300): a record, or the block i places after the one named. -/
def ackedItem (pk : Trans) (i : Nat) : Packet → Bool :=
  let k := BitVec.ofNat 32 i
  let src := cnOf pk.src
  let ts := pk.a32 0
  if pk.a8 10 == opMIRROR_P then isMirrorItem ts pk.step src (pk.a32 12 + k)
  else if pk.a8 10 == opREPLAY_G then
    if pk.a16 8 == 0 then isRecordItem ts pk.step src (pk.a32 4) else isReplayItem ts pk.step src (pk.a32 4 + k)
  else fun _ => false

def State.itemAcked (pk : Trans) (i : Nat) (s : State) : State :=
  let ts := pk.a32 0
  match s.popRetained (ackedItem pk i) with
  | (some (.block b), s) => if b.hdr.mirror then (s.repairAcked b).syncReady ts else s
  | (some (.trans t), s) =>
    if t.bNat 4 1 == 1 then s.windowAcked ts (pk.a32 4) t.step
    else if t.bNat 4 1 == 4 then s.syncAcked t else s
  | (none, s) => s

def partnerBlockAckReceive (pk : Trans) (s : State) : State :=
  (List.range (max 1 (pk.aNat 8 2))).foldl (fun s i => s.itemAcked pk i) (s.takePk (.trans pk))

/-- PARTNER_BLOCK_ACK_RECEIVE (R296, R300, R303, R304). -/
def execPartnerBlockAckReceive (_port : Port) (pk : Trans) (s : State) : Host.Outcome State Fault Refusal :=
  .next (partnerBlockAckReceive pk s)

/-- A retained item as it is sent again: current tags, and the resend flag on a block (R300). -/
def State.resent (s : State) : Packet → Packet
  | .block b =>
    let h := s.tagged { b.hdr with flags := setFlag b.hdr.flags 8 true }
    .block { b with hdr := h.seal }
  | .trans t => .trans ({ t with jt := s.job.jt, epoch := s.job.epoch, src := s.adopted } : Trans).seal

def Packet.isMirror : Packet → Bool
  | .block b => b.hdr.mirror
  | .trans _ => false

def partnerResend (n : Nat) (s : State) : State :=
  match s.part.retained[n]? with
  | none => s
  | some i =>
    let pk := s.resent i.pk
    let k := frameBytesOf pk
    let p := { s.part with retained := s.part.retained.set n ⟨pk⟩, resends := bump s.part.resends }
    let p := match pk with
      | .block b => if b.hdr.mirror then { p with mirrorBytes := bumpBy p.mirrorBytes k }
                    else { p with replayBytes := bumpBy p.replayBytes k }
      | .trans _ => p
    ({ s with part := p }).send pk

/-- PARTNER_RESEND (R300): OD 3000.09 has passed since the item was last sent. -/
def execPartnerResend (n : Nat) (s : State) : Host.Outcome State Fault Refusal := .next (partnerResend n s)

/-! ## Shard digests (R308, R309) -/

def ownerDigestReceive (pk : Trans) (s : State) : State :=
  let s := s.takePk (.trans pk)
  let src := cnOf pk.src
  let ts := pk.a32 0
  if s.aboveFailed pk.step then s.refuseStep
  else if (s.ownerIx src).isNone then s
  else
    let rest := s.part.ownerDig.filter (fun o => !(o.1 == src && o.2.1 == ts && o.2.2.1 == pk.step))
    let last := s.part.ownerStep.filter (fun x => !(x.1 == src && x.2.1 == ts)) ++ [(src, ts, pk.step)]
    ({ s with part := { s.part with ownerDig := rest ++ [(src, ts, pk.step, pk.b)], ownerStep := last } }).recheckDigest ts pk.step

/-- OWNER_DIGEST_RECEIVE (R308). -/
def execOwnerDigestReceive (_port : Port) (pk : Trans) (s : State) : Host.Outcome State Fault Refusal :=
  .next (ownerDigestReceive pk s)

def digestTimeout (ts : U32) (s : State) : State :=
  match s.part.ownerDig.find? (fun o => o.2.1 == ts) with
  | none => s
  | some (src, _, step, v) =>
    let s := { s with part := { s.part with ownerDig := s.part.ownerDig.erase (src, ts, step, v) } }
    (s.sendDigest src step ts 2 (s.shardDigest ts step true)).rejectShard src ts step

/-- DIGEST_TIMEOUT (R308, R309): OD 3000.08 has passed since the OWNER digest of the shard arrived. -/
def execDigestTimeout (ts : U32) (s : State) : Host.Outcome State Fault Refusal := .next (digestTimeout ts s)

/-- The digests differ at the end of a step (R309). -/
def State.digestMismatch (e : TensorEntry) (step : U32) (theirs : U64) (s : State) : State :=
  let mine := s.shardDigest e.ts step false
  let s := { s with part := { s.part with
    mismatches := bump s.part.mismatches
    toSync := if s.part.toSync.contains e.ts then s.part.toSync else s.part.toSync ++ [e.ts] } }
  let s := s.record (ev3 0x3014 unitCont (arg4 e.ts ++ arg4 step ++ arg8 mine ++ arg8 theirs))
  s.failShard e.ts step 0x3014 0

def replicaDigestReceive (pk : Trans) (s : State) : State :=
  let s := s.takePk (.trans pk)
  let ts := pk.a32 0
  let step := pk.step
  if s.aboveFailed step then s.refuseStep
  else if !(s.paired && cnOf pk.src == s.part.partner) then s
  else
    match s.ownerOf ts with
    | none => s
    | some e =>
      if e.l != step || s.part.ackedSteps.contains (ts, step) || (e.pclass != 1 && e.pclass != 2) then s
      else if s.shardDigest ts step false == pk.b then
        { s with part := { s.part with ackedSteps := s.part.ackedSteps ++ [(ts, step)], agreed := bump s.part.agreed } }
      else s.digestMismatch e step pk.b

/-- REPLICA_DIGEST_RECEIVE (R308, R309). -/
def execReplicaDigestReceive (_port : Port) (pk : Trans) (s : State) : Host.Outcome State Fault Refusal :=
  .next (replicaDigestReceive pk s)

end Sys2Proof.Machine
end

