-- ==== Sys2Proof/Machine/RestoreOps.lean ====
section
/-! DEFINITION. What a restore needs of copies, points and the partner (R375 to R384): reach masks, ahead windows, decoding of
points, pulls and roll-forward. -/
namespace Sys2Proof.Machine
open Sys2Proof

/-! ## Windows of a copy (R383) -/

def TensorEntry.copyStreams (s : State) (e : TensorEntry) : List Stream :=
  if e.cls == 1 then (progStores (progOfEntry s e)).eraseDups.filter e.has else [Stream.w, .m, .v, .a, .c].filter e.has

/-- The blocks of a window in the streams its entry stores. -/
def State.copyBlocks (s : State) (e : TensorEntry) (w : Nat) : List (Stream × Nat) :=
  let lo := w * s.winSpan e.ts
  let n := winElems (s.winSpan e.ts) e.count.toNat w
  (e.copyStreams s).flatMap fun st =>
    let epb := max 1 (fmtMax (e.fmt st))
    (List.range ((lo + n + epb - 1) / epb - lo / epb)).map (fun i => (st, lo / epb + i))

/-- The offset of the block of a stream written last. -/
def State.lastOff (s : State) (e : TensorEntry) (st : Stream) (b : Nat) : Nat :=
  match st with
  | .c => e.blockOff .c b (if (s.storedStep (e.blockOff .c b 0)).toNat > (s.storedStep (e.blockOff .c b 1)).toNat then 0 else 1)
  | st => e.blockOff st b 0

inductive WinClass where
  | ahead | behind | torn
deriving DecidableEq, Repr

def State.winClass (s : State) (e : TensorEntry) (target : U32) (w : Nat) : WinClass :=
  let steps := (s.copyBlocks e w).map (fun x => s.storedStep (s.lastOff e x.1 x.2))
  let up := steps.filter (· == target + 1)
  if up.isEmpty then .behind else if up.length = steps.length then .ahead else .torn

def State.aheadOf (s : State) (e : TensorEntry) (target : U32) : List Nat :=
  (List.range (s.windowsOf e)).filter (fun w => s.winClass e target w = .ahead)
def State.tornAt (s : State) (e : TensorEntry) (target : U32) : Bool :=
  (List.range (s.windowsOf e)).any (fun w => s.winClass e target w = .torn)

def TensorEntry.allOffs (e : TensorEntry) : List Nat :=
  e.syncOffs ++ (if e.has .k then (List.range (e.blocks .k)).map (fun b => e.blockOff .k b 0) else [])
def State.copyPoisoned (s : State) (e : TensorEntry) : Bool := e.allOffs.any s.storedPoison

/-- A torn copy is counted and recorded (R383). -/
def State.noteTorn (s : State) : State :=
  ({ s with job := { s.job with torn := bump s.job.torn } }).record (ev3 0x2914 unitCC [])

/-! ## Reach (R376) -/

/-- The bit of a step in a mask of survey base B. -/
def stepBit (base step : U32) : U64 :=
  if step.toNat ≤ base.toNat ∧ base.toNat - step.toNat < 64 then 1#64 <<< (base.toNat - step.toNat) else 0

/-- The steps that a sound copy at L reaches: L alone when it holds ahead windows of L + 1, or when it is torn at L − 1 (R383). -/
def copyBits (base l : U32) (only : Bool) : U64 := if only then stepBit base l else stepBit base l ||| stepBit base (l - 1)

/-- The reach of a copy of a table entry, and the state after a torn copy is noted. -/
def State.copyMask (base : U32) (e : TensorEntry) (s : State) : U64 × State :=
  if s.copyPoisoned e then (0, s)
  else if s.tornAt e e.l then (0, s.noteTorn)
  else (copyBits base e.l (!(s.aheadOf e e.l).isEmpty || s.tornAt e (e.l - 1)), s)

/-- The blocks of a mirrored shard in the REPLICA regions of the job. -/
def State.mirrorOffs (s : State) (ts : U32) : List Nat :=
  (s.mem.regions.filter (fun r => r.kind == 2 && r.jt == s.job.jt)).flatMap fun r =>
    match tierOf r.payOff with
    | none => []
    | some t =>
      ((List.range (r.size.toNat / 4096)).map (fun i => r.payOff + 4096 * i)).filter (fun off =>
        let h := s.storedHeader t r off
        h.ts == ts && h.crcOk)
def State.mirrorMask (s : State) (base : U32) (m : MirrorCtr) : U64 :=
  let offs := s.mirrorOffs m.ts
  if offs.any s.storedPoison then 0 else copyBits base m.l (offs.any (fun o => s.storedStep o == m.l + 1))

/-- REACH packets to the owners of what the device holds as partner. -/
def State.sendReach (dst ts : U32) (v : U64) (s : State) : State :=
  s.sendTrans opDIGEST dst 0 (le32 ts ++ [8]) (le64 v) [] []
def State.sendReaches (base : U32) (s : State) : State :=
  let reps := s.upd.table.filter (fun e => e.role == 2)
  let s := reps.foldl (fun s e =>
    if h : e.owner.toNat < 4 then
      let (v, s) := s.copyMask base e
      s.sendReach (s.part.owners[e.owner.toNat]).cn e.ts v
    else s) s
  s.job.mirrors.foldl (fun s m => s.sendReach m.owner m.ts (s.mirrorMask base m)) s

/-- A spare holds no state of its own: it takes part from OPENING (R376). -/
def State.isSpare (s : State) : Bool := s.job.dev == .opening

/-- The partner's log may carry a shard of class RPL from P to X. The owner takes it to hold the last OD 3000.07 steps. -/
def State.logSpan (s : State) (e : TensorEntry) (p x : U32) : Bool :=
  e.pclass == 1 && s.part.named && decide (p.toNat < x.toNat) && decide (x.toNat - p.toNat ≤ s.part.logDepth.toNat) &&
  decide (s.job.rerun.toNat ≤ p.toNat)

/-- The bits of a source at P and of what the log adds up to step B − 1. -/
def State.sourceBits (s : State) (base : U32) (e : TensorEntry) (p : U32) : U64 :=
  let top := base.toNat - 1
  (List.range (top - p.toNat)).foldl (fun m i =>
    let x := p + BitVec.ofNat 32 (i + 1)
    if s.logSpan e p x && decide (top - p.toNat ≤ s.part.logDepth.toNat) then m ||| stepBit base x else m) (stepBit base p)

/-- The steps of the device's own points of a shard, its sealed cuts among them. -/
def State.ownPoints (s : State) (e : TensorEntry) : List U32 :=
  if s.isSpare then []
  else
    ((s.adj.points.filter (fun p => p.jt == s.job.jt && p.counters.any (·.1 == e.ts))).map (·.step) ++
     (s.adj.queue.filter (fun c => c.sealedMove && !c.forced)).map (·.step)).eraseDups

/-- The steps of the Tier S objects of OD 2020.07 whose heads have been read. -/
def State.tierPoints (s : State) : List U32 :=
  s.job.tierS.flatMap (fun c => c.filterMap (fun o => (s.job.heads.find? (·.1 == o)).map (·.2)))

def State.shardMask (base : U32) (e : TensorEntry) (s : State) : U64 × State :=
  let (own, s) := if s.isSpare then (0, s) else s.copyMask base e
  let part := ((s.job.reachIn.find? (·.1 == e.ts)).map (·.2)).getD 0
  let pts := (s.ownPoints e ++ s.tierPoints).foldl (fun m p => m ||| s.sourceBits base e p) 0
  (own ||| part ||| pts, s)

/-- The shards whose REACH the owner awaits. -/
def State.reachDue (s : State) : List TensorEntry :=
  if s.paired then s.owned.filter (fun e => (e.pclass == 1 || e.pclass == 2) && !(s.job.reachIn.any (·.1 == e.ts))) else []

/-! ## Tier S images (R377, R378) -/

/-- STORE_GET of the part at an offset; a device without gateways cannot read. -/
def State.sendGet (obj : U64) (off : Nat) (s : State) : State :=
  let gs := s.gateways
  match gs[(off / 4096) % max 1 gs.length]? with
  | none => s
  | some g => s.sendTrans opSTORE_GET g 0 (le64 obj) (leBytes 8 off) [] []

def State.startGet (g : StoreGet) (s : State) : State :=
  let dead := s.gateways.isEmpty
  ({ s with job := { s.job with gets := s.job.gets ++ [{ g with failed := dead, done := dead }] } }).sendGet g.obj 0
def State.setGet (g : StoreGet) (s : State) : State :=
  { s with job := { s.job with gets := s.job.gets.map (fun x => if x.obj == g.obj then g else x) } }

/-- Bytes of an image that its chunk header and the anchor entries take (R323, R327). -/
def headBytes (q : Nat) : Nat := 64 + 4224 * q
/-- The anchors at the head of an image: segments of 2,048, each behind a 64-byte header and a descriptor. -/
def imageVector (q : Nat) (l : List Byte) : List (U32 × Int) :=
  (List.range q).flatMap fun k =>
    let seg := (l.drop (headBytes k + 68)).take 4096
    ((List.range 2048).map (fun j => (BitVec.ofNat 32 (2048 * k + j), signed16 (field16 seg (2 * j))))).filter (fun x => x.2 != -32768)

/-- Whether the device is the root, which needs the anchors of each image (R377). -/
def State.isRoot (s : State) : Bool := s.root == some s.adopted

def State.getHead (g : StoreGet) (s : State) : State :=
  let step := field32 g.data 8
  let s := { s with job := { s.job with heads := s.job.heads.filter (fun (h : U64 × U32) => h.1 != g.obj) ++ [(g.obj, step)] } }
  if s.isRoot then
    { s with job := { s.job with
        farVectors := s.job.farVectors.filter (fun (v : U32 × List (U32 × Int)) => v.1 != step) ++ [(step, imageVector s.red.segments.toNat g.data)] } }
  else s

/-- The anchor vector recorded with a step (R377). -/
def State.vectorAt (s : State) (step : U32) : Option (List (U32 × Int)) :=
  match s.job.vectors.find? (·.1 == step) with
  | some v => some v.2
  | none =>
    match s.adj.points.find? (fun p => p.jt == s.job.jt && p.step == step) with
    | some p => some p.anchors
    | none => (s.job.farVectors.find? (·.1 == step)).map (·.2)

/-! ## Decoding points into STATE (R326, R378) -/

/-- The header of the STATE block that an entry restores. -/
def State.restoredHeader (s : State) (h : Header) (st : Stream) (off : Nat) (poison : Bool) : Header :=
  let f := setFlag (setFlag (setFlag 0 0 poison) 1 h.maskPresent) 7 h.nonfinite
  { h with typ := if st = .k then 2 else 1, flags := f, jt := s.job.jt, epoch := s.job.epoch, contrib := 0, anchor := 0
           src := s.own, dst := s.own, offset := BitVec.ofNat 64 off }

/-- A decoding failure (R326). -/
def State.entryFailed (t : Tier) (r : Region) (h : Header) (s : State) : State :=
  ({ s with chk := { s.chk.addPoisoned with payStored := bump s.chk.payStored } }).storedCheckEvent unitCont t r h

/-- One entry of a chunk. Damage makes it poison with nothing of its data recoverable (R63, R330); a poisoned entry is not verified
(R65, R68); one that does not decode to its check word is poisoned (R61, R326), the bytes that stand staying where nothing decodes
(notes/assumptions/81.md). -/
def State.installEntry (shards : List U32) (damaged : Bool) (l : List Byte) (s : State) : State :=
  let h := Header.ofBytes l
  let off := offOf h.offset
  if !(shards.contains h.ts) then s
  else
    match s.coverAt off, tierOf off, s.regionAt off with
    | some c, some t, some r =>
      let put (poison : Bool) (crc : U64) (p : List Byte) (s : State) : State :=
        s.writeCarried t off ⟨{ s.restoredHeader h c.stream off poison with payCrc := crc }, p⟩
      let lost := List.replicate 4096 (0xFF : Byte)
      if damaged then put true (crc64 lost) lost { s with chk := s.chk.addPoisoned }
      else
        let d := fieldNat l 64 4
        let (x, s) := if d / 16384 % 2 == 1 then ((⟨Header.zero, List.replicate 4096 0, false⟩ : BlkRead), s)
          else s.readBlock unitCont t off
        let pay := (decodeBlock (d / 8192 % 2 == 1) ((l.drop 68).take (d % 8192))).map (xorBytes x.pay)
        if h.poison then
          put true h.payCrc (pay.getD (s.raw t off 4096)) { s with chk := { s.chk with poisonedRecv := bump s.chk.poisonedRecv } }
        else
          let s := { s with chk := { s.chk with payChecks := bump s.chk.payChecks } }
          match pay with
          | some p =>
            if x.poison then put true (crc64 p) p { s with chk := s.chk.addPoisoned }
            else if crc64 p == h.payCrc then put false h.payCrc p s
            else put true h.payCrc p (s.entryFailed t r h)
          | none => put true h.payCrc (s.raw t off 4096) (s.entryFailed t r h)
    | _, _, _ => s

/-- The entries of a chunk from a place in an image up to its end. -/
def State.installEntries (shards : List U32) (bad : Nat → Nat → Bool) : Nat → Nat → List Byte → State → State
  | 0, _, _, s => s
  | n + 1, pos, l, s =>
    if l.length < 68 then s
    else
      let size := 64 + (4 + fieldNat l 64 4 % 8192 + 63) / 64 * 64
      s |> (State.installEntry shards (bad pos size) (l.take size)) |> State.installEntries shards bad n (pos + size) (l.drop size)

/-- The chunks of an image, one after another. -/
def State.installImage (shards : List U32) (bad : Nat → Nat → Bool) : Nat → Nat → List Byte → State → State
  | 0, _, _, s => s
  | n + 1, pos, l, s =>
    let size := fieldNat l 16 4
    if l.length < 64 ∨ size < 64 then s
    else
      let body := (l.take size).drop 64
      s |> State.installEntries shards bad (body.length / 64) (pos + 64) body |> State.installImage shards bad n (pos + size) (l.drop size)

def State.decodeImage (shards : List U32) (bad : Nat → Nat → Bool) (l : List Byte) (s : State) : State :=
  s.installImage shards bad (l.length / 64) 0 l

/-- The points that give step P, in the order of decoding: the chain up to the point, from its FULL point. -/
def State.pointChain (s : State) (p : Point) : List Point :=
  let mine (q : Point) : Bool := q.jt == p.jt && q.fullSeq == p.fullSeq && decide (q.seq.toNat ≤ p.seq.toNat)
  s.adj.points.filter (fun q => mine q && (q.kind == .full || q.kind == .chain || q.seq == p.seq))

/-- The counters of a shard at step P. -/
def setCounters (target t : U32) (e : TensorEntry) : TensorEntry :=
  { e with t := t, l := target, prevT := t, prevL := target, p := none
           status := if e.status = .halted then .halted else .idle }

/-- A whole chunk whose CRC-64 is wrong is damage (R330). -/
def State.checkChunks (seq : U32) (s : State) : State :=
  let cs := (s.adj.chunks.filter (·.seq == seq)).mergeSort (fun a b => decide (a.num.toNat ≤ b.num.toNat))
  (cs.foldl (fun (acc : Nat × State) k =>
    let n := k.bytes.length
    (acc.1 + n,
     if field64 k.bytes 52 == crc64 (k.bytes.drop 64) then acc.2
     else ({ acc.2 with adj := { acc.2.adj with
        uncReads := bump acc.2.adj.uncReads, damage := acc.2.adj.damage ++ [(seq, acc.1, n)] } }).record (ev3 0x3211 unitCont [])))
    (0, s)).2

/-- A shard is decoded from the device's own point. -/
def State.installPoint (e : TensorEntry) (p : Point) (s : State) : State :=
  let s := (s.pointChain p).foldl (fun s q =>
    let img := s.imageOf q.seq
    let s := ((s.countBytes 5 img.length).readImage q.seq 0 img.length).checkChunks q.seq
    s.decodeImage [e.ts] (s.imageBad q.seq) img) s
  let t := ((p.counters.find? (·.1 == e.ts)).map (·.2.1)).getD e.initT
  s.setEntry e.ts 1 (setCounters p.step t)

/-- A shard is taken from a sealed cut: pages already copied come from the cut region, the others still stand. -/
def State.installCut (e : TensorEntry) (c : Cut) (s : State) : State :=
  let s := (c.pages.filter (fun p => p.copied && (s.coverAt (offOf p.addr)).any (·.entry.ts == e.ts))).foldl (fun s p =>
    match s.cutRegion, tierOf (offOf p.addr) with
    | some cr, some t =>
      let (x, s) := s.readBlock unitCont .l (cr.payOff + 4096 * p.slotIx)
      s.writeCarried t (offOf p.addr) ⟨if x.poison then x.hdr.setPoison else x.hdr, x.pay⟩
    | _, _ => s) s
  let t := ((c.counters.find? (·.1 == e.ts)).map (·.2.1)).getD e.t
  s.setEntry e.ts 1 (setCounters c.step t)

/-! ## Pulls and roll-forward (R381, R382) -/

def TensorEntry.pullCount (e : TensorEntry) (st : Stream) : Nat := e.blocks st

/-- A PULL_REQ. Selector 3, G, asks for the log slots of a roll-forward (notes/assumptions/25.md). -/
def State.sendPull (p : Pull) (s : State) : State :=
  s.sendTrans opDIGEST s.part.partner 0
    (le32 p.ts ++ [6, BitVec.ofNat 8 p.stream.sel, 0, 0] ++ le32 p.first ++ le32 p.count)
    (leBytes 8 s.job.target.toNat) [] []
def State.addPull (p : Pull) (s : State) : State := ({ s with job := { s.job with pulls := s.job.pulls ++ [p] } }).sendPull p

def State.startPulls (e : TensorEntry) (s : State) : State :=
  ([Stream.w, .m, .v, .a, .c, .k].filter e.has).foldl (fun s st =>
    s.addPull { ts := e.ts, stream := st, first := 0, count := BitVec.ofNat 32 (e.pullCount st), tries := 0, digest := 0 }) s

def State.startRoll (e : TensorEntry) (p : U32) (s : State) : State :=
  ({ s with job := { s.job with rolls := s.job.rolls ++ [({ ts := e.ts, target := s.job.target } : Roll)] } }).addPull
    { ts := e.ts, stream := .g, first := p + 1, count := s.job.target - p, tries := 0, digest := 0 }

/-! ## Sources (R378) -/

/-- Where a shard is installed from. -/
inductive Source where
  | copy | pull | cut (c : Cut) | point (p : Point) | tier (chain : Nat) (step : Option U32) | none_

/-- The owner's copy in place reaches T. -/
def State.copyReaches (e : TensorEntry) (target : U32) (s : State) : Bool × State :=
  if s.isSpare || s.copyPoisoned e then (false, s)
  else if e.l == target then
    if s.tornAt e target then (false, s.noteTorn) else (true, s)
  else if e.l == target + 1 then
    if !(s.aheadOf e e.l).isEmpty || s.tornAt e e.l then (false, s)
    else if s.tornAt e target then (false, s.noteTorn) else (true, s)
  else (false, s)

/-- Whether the partner's copy reaches T: what its REACH said, or, with no survey, what only the pull can show. -/
def State.pullReaches (s : State) (e : TensorEntry) (target : U32) : Bool :=
  s.paired && (e.pclass == 1 || e.pclass == 2) &&
  (match s.job.reachIn.find? (·.1 == e.ts) with
   | some x => (x.2 &&& stepBit s.job.base target) != 0
   | none => s.job.lastPhase != some .survey)

def State.fits (s : State) (e : TensorEntry) (target p : U32) : Bool := p == target || s.logSpan e p target

/-- The source with the highest step among those that fit. -/
def bestStep {α : Type} (f : α → U32) (l : List α) : Option α :=
  l.foldl (fun m x => match m with | none => some x | some y => if (f y).toNat < (f x).toNat then some x else some y) none

def State.ownSource (s : State) (e : TensorEntry) (target : U32) : Option Source :=
  if s.isSpare then none
  else
    let cut := bestStep Cut.step (s.adj.queue.filter (fun c => c.sealedMove && !c.forced && s.fits e target c.step))
    let pt := bestStep Point.step (s.adj.points.filter (fun p =>
      p.jt == s.job.jt && p.counters.any (·.1 == e.ts) && s.fits e target p.step))
    match cut, pt with
    | some c, some p => if p.step.toNat < c.step.toNat then some (.cut c) else some (.point p)
    | some c, none => some (.cut c)
    | none, some p => some (.point p)
    | none, none => none

/-- A Tier S chain whose head steps fit; heads never read are tried. -/
def State.tierSource (s : State) (e : TensorEntry) (target : U32) : Option Source :=
  s.job.tierS.zipIdx.findSome? fun (c, k) =>
    if c.isEmpty then none
    else
      let known := c.filterMap (fun o => (s.job.heads.find? (·.1 == o)).map (·.2))
      if known.length < c.length then some (Source.tier k none)
      else (bestStep id (known.filter (s.fits e target))).map (fun p => Source.tier k (some p))

def State.pickSource (e : TensorEntry) (target : U32) (s : State) : Source × State :=
  let (ok, s) := s.copyReaches e target
  if ok then (.copy, s)
  else if s.pullReaches e target then (.pull, s)
  else
    match s.ownSource e target with
    | some x => (x, s)
    | none => match s.tierSource e target with | some x => (x, s) | none => (.none_, s)

def State.noteSource (order : Nat) (rolled p : U32) (s : State) : State :=
  { s with job := { s.job with sources := s.job.sources ++ [(BitVec.ofNat 8 order, rolled.setWidth 16, p)] } }

/-- The ahead windows of a copy at T are marked (R383). -/
def State.markAhead (e : TensorEntry) (target : U32) (s : State) : State :=
  let ws := (s.aheadOf e target).map (fun w => (e.ts, BitVec.ofNat 32 w))
  { s with job := { s.job with ahead := s.job.ahead.filter (fun x => x.1 != e.ts) ++ ws } }

/-- A source at P that lies below T is rolled forward. -/
def State.rollIfBelow (e : TensorEntry) (p : U32) (s : State) : State :=
  if p == s.job.target then s else s.startRoll e p

/-- One shard of the position is installed, or its installation begins; false when no source reaches T. -/
def State.installShard (e : TensorEntry) (s : State) : Bool × State :=
  let target := s.job.target
  let (src, s) := s.pickSource e target
  match src with
  | .copy =>
    let t := if e.l == target then e.t else e.prevT
    (true, ((s.setEntry e.ts 1 (setCounters target t)).markAhead e target).noteSource 1 0 target)
  | .pull => (true, (s.startPulls e).noteSource 2 0 target)
  | .cut c => (true, ((s.installCut e c).rollIfBelow e c.step).noteSource 3 (target - c.step) c.step)
  | .point p => (true, ((s.installPoint e p).rollIfBelow e p.step).noteSource 3 (target - p.step) p.step)
  | .tier k p =>
    let s := s.noteSource 4 (match p with | some p => target - p | none => 0) (p.getD 0)
    let wanted := ((s.job.tierS[k]?).getD []).filter (fun o => !(s.job.gets.any (·.obj == o)))
    (true, wanted.foldl (fun s o => s.startGet { obj := o, chain := k }) s)
  | .none_ => (false, s.noteSource 0 0 0)

/-- Every shard of the position (R378). -/
def State.installShards (s : State) : Bool × State :=
  let s := { s with job := { s.job with sources := [], ahead := [], pulls := [], rolls := [], gets := [] } }
  s.owned.foldl (fun (acc : Bool × State) e => let (ok, s) := acc.2.installShard e; (acc.1 && ok, s)) (true, s)

/-- The shards that the Tier S chain installs. -/
def State.tierShards (s : State) : List TensorEntry :=
  ((s.owned.zip s.job.sources).filter (fun x => x.2.1 == 4)).map (·.1)

/-- Steps of a range that slot 0 skipped, as far as the device has seen its results (R380). -/
def State.skipsIn (s : State) (lo hi : U32) : Nat :=
  (s.red.resultsAt.filter (fun x => x.1 == 0 && x.2.2.1.getLsbD 0 && decide (lo.toNat < x.2.1.toNat) &&
    decide (x.2.1.toNat ≤ hi.toNat))).length

/-- t at P of a shard reached through Tier S (R380): initial t + (P − J) − the skips up to P. -/
def State.tierT (s : State) (e : TensorEntry) (p : U32) : U32 :=
  let h := match s.job.descr with | some d => d.skips.toNat | none => 0
  e.initT + (p - s.job.baseStep) - BitVec.ofNat 32 (h - s.skipsIn p s.job.target)

/-- Every image of a chain has come: its shards are decoded up to the last image that T allows (R378, order 4). -/
def State.installTier (k : Nat) (s : State) : State :=
  let gs := (s.job.gets.filter (·.chain == k)).filter (fun g => decide ((field32 g.data 8).toNat ≤ s.job.target.toNat))
  let ts := s.tierShards
  match gs.getLast? with
  | none => { s with job := { s.job with gets := s.job.gets.map (fun g => if g.chain = k then { g with failed := true } else g) } }
  | some last =>
    let p := field32 last.data 8
    let s := gs.foldl (fun s g =>
      s.decodeImage (ts.map TensorEntry.ts) (fun pos n => g.bad.any (fun b => decide (b < pos + n) && decide (pos < b + 4096))) g.data) s
    let src := (s.owned.zip s.job.sources).map (fun x => if x.2.1 == 4 then (x.2.1, (s.job.target - p).setWidth 16, p) else x.2)
    let s := { s with job := { s.job with sources := src } }
    ts.foldl (fun s e => (s.setEntry e.ts 1 (setCounters p (s.tierT e p))).rollIfBelow e p) s

end Sys2Proof.Machine
end

