-- ==== Sys2Proof/Machine/ExerOps.lean ====
section
/-! DEFINITION. What a port of the exerciser checks, generates and injects (R519, R523 to R527). -/
namespace Sys2Proof.Machine
open Sys2Proof

/-! ## Checking (R525) -/

def State.exPort (s : State) (p : Port) : ExPort := s.exer.ports[p]
def State.setExPort (p : Port) (f : ExPort → ExPort) (s : State) : State :=
  { s with exer := { s.exer with ports := s.exer.ports.set p (f s.exer.ports[p]) } }

/-- The exerciser owns the port (R519). -/
def State.exerOn (s : State) (p : Port) : Bool := s.job.dev == .exerciser && (s.exPort p).mode != 0
/-- A run is active on the port. -/
def State.exerRun (s : State) (p : Port) : Bool := s.exerOn p && s.exer.status == 2
/-- The port counts violations without the reactions of the link rules (R525). -/
def State.exerLax (s : State) (p : Port) : Bool := s.exerOn p && (s.exPort p).strict != 1

/-- A violation of a check code: counted, and on its first occurrence in the run captured and recorded as event 0x1093. -/
def State.exerCheck (p : Port) (code : Nat) (hdr : List Byte) (s : State) : State :=
  if !s.exerRun p then s
  else
    let x := s.exPort p
    let first := (x.counts.toList.getD (code - 1) 0) == 0
    let rec_ := (BitVec.ofNat 8 code, s.ns (if p.val < 8 then 36 else 37), padTo 56 (hdr.take 56))
    let s := s.setExPort p (fun x => { x with
      counts := addAt x.counts (code - 1) 1
      capture := if first && decide (x.capture.length < 16) then x.capture ++ [rec_] else x.capture })
    if first then s.record (ev3 0x1093 unitSwitch []) else s

/-! ## Generated traffic (R523) -/

/-- One bit of the PRBS31 sequence: the register after it (notes/assumptions/20.md). -/
def prbsNext (r : BitVec 31) : BitVec 31 := (r <<< 1) ||| (if r.getLsbD 30 != r.getLsbD 27 then 1#31 else 0#31)

/-- Eight bits of the sequence, the first in bit 0. -/
def prbsByte : Nat → BitVec 31 → Nat → Byte → BitVec 31 × Byte
  | 0, r, _, b => (r, b)
  | n + 1, r, i, b =>
    let r := prbsNext r
    prbsByte n r (i + 1) (if r.getLsbD 0 then b ||| (1#8 <<< i) else b)

def prbsBytes : Nat → BitVec 31 → List Byte
  | 0, _ => []
  | n + 1, r => let (r, b) := prbsByte 8 r 0 0; b :: prbsBytes n r

def prbsStart (seed blk : U32) : BitVec 31 :=
  let r := (seed ^^^ blk).setWidth 31
  if r == 0 then 1 else r

/-- The payload of block b of a seed under a pattern. -/
def genPayload (pattern : U8) (seed blk : U32) (user : List Byte) : List Byte :=
  match pattern.toNat with
  | 1 => prbsBytes 4096 (prbsStart seed blk)
  | 2 => (List.range 1024).flatMap (fun i => le32 (BitVec.ofNat 32 (1024 * blk.toNat + i)))
  | 3 => List.replicate 4096 0
  | 4 => List.replicate 4096 0xFF
  | 5 => List.replicate 4096 (if blk.toNat % 2 = 0 then 0x55 else 0xAA)
  | _ => let n := user.length / 4096
         padTo 4096 ((user.drop (4096 * (if n = 0 then 0 else blk.toNat % n))).take 4096)

/-- The next EXERCISE block of a port (R523). -/
def State.genBlock (s : State) (p : Port) : Block :=
  let x := s.exPort p
  let h : Header := { Header.zero with
    typ := 7, fmt := 11, step := s.exer.runNo, ts := BitVec.ofNat 32 p.val, blk := x.nextBlk, contrib := x.seed, count := 4096
    src := s.own, dst := cnOf x.dest }
  (⟨h, genPayload x.pattern x.seed x.nextBlk s.exer.user⟩ : Block).seal

/-- Frame slots that carry one block at rate 1,000, in thousandths: 65 cells, eight a frame (R524). -/
def slotsPerBlock : Nat := 8125

/-- A frame slot of a generating port: when its share of the slots covers a block and none waits, the next block is queued. -/
def State.generate (p : Port) (s : State) : State :=
  let x := s.exPort p
  if !(s.exerRun p && x.mode == 1) then s
  else
    let n := x.slots + x.rate.toNat
    if (s.port p).queue.any (·.vc == 7) then s
    else if x.rate == 1000 || decide (n ≥ slotsPerBlock) then
      let s' := s.enqueue p 7 (.block (s.genBlock p))
      s'.setExPort p (fun x => { x with nextBlk := x.nextBlk + 1, slots := n - slotsPerBlock })
    else s.setExPort p (fun x => { x with slots := n })

/-- An EXERCISE block is checked (R525 codes 0x0D, 0x0E, 0x0F). -/
def State.checkBlock (p : Port) (b : Block) (s : State) : State :=
  let x := s.exPort p
  let h := b.hdr
  if !b.payOk then s.exerCheck p 0x0D h.bytes
  else
    let want := genPayload x.pattern h.contrib h.blk s.exer.user
    let bits := ((b.pay.zip want).map (fun (a, c) => ((List.range 8).filter (fun i => (a ^^^ c).getLsbD i)).length)).sum
    let inOrder := match x.lastBlk with
      | some (seed, n) => seed != h.contrib || h.blk == n + 1
      | none => true
    let s := if bits = 0 then s
      else (s.setExPort p (fun x => { x with bits := bumpBy x.bits bits })).exerCheck p 0x0E h.bytes
    let s := if inOrder then s else s.exerCheck p 0x0F h.bytes
    s.setExPort p (fun x => { x with checked := bump x.checked, lastBlk := some (h.contrib, h.blk) })

/-! ## Injections (R526, R527) -/

/-- The injection that may apply to the next new frame of a port: its code and VC, once the spacing has passed. -/
def State.injReady (s : State) (p : Port) : Option (U8 × U8) :=
  if !s.exerRun p then none
  else
    match (s.exPort p).injections with
    | (code, vc, _, spacing) :: _ => if (s.exPort p).sinceInj ≥ spacing.toNat then some (code, vc) else none
    | [] => none

/-- The injection has been applied: counted, its reaction awaited, the record taken off when its count is used. -/
def State.injApplied (p : Port) (s : State) : State :=
  match (s.exPort p).injections with
  | (code, vc, n, sp) :: rest =>
    let s := s.setExPort p (fun x => { x with
      injections := if n.toNat ≤ 1 then rest else (code, vc, n - 1, sp) :: rest
      sinceInj := 0, deferSeen := false, waitReact := x.waitReact ++ [code] })
    { s with exer := { s.exer with applied := bump s.exer.applied } }
  | [] => s

/-- The injection cannot apply to this frame (R527). -/
def State.injDeferred (p : Port) (s : State) : State :=
  if (s.exPort p).deferSeen then s
  else
    let s := s.setExPort p (fun x => { x with deferSeen := true })
    { s with exer := { s.exer with deferred := bump s.exer.deferred } }

/-- An awaited reaction has come in time (R528). -/
def State.reacted (p : Port) (codes : List Nat) (s : State) : State :=
  match (s.exPort p).waitReact.findIdx? (fun c => codes.contains c.toNat) with
  | some i =>
    let s := s.setExPort p (fun x => { x with waitReact := x.waitReact.eraseIdx i })
    { s with exer := { s.exer with passed := bump s.exer.passed } }
  | none => s

/-! ## The agent peer (R529, R530) -/

/-- A transaction of the exerciser to the agent of a port, with the script's JT and epoch. -/
def State.exerTrans (s : State) (p : Port) (op : U8) (step : U32) (a b body : List Byte) : Trans :=
  let dst := match (s.port p).peer with | some i => cnOf i.cn | none => 0
  ({ s.mkTrans op dst step a b [] body with jt := s.exer.jt, epoch := s.exer.epoch, src := s.own } : Trans).seal
def State.exerSend (p : Port) (op : U8) (step : U32) (a b body : List Byte) (s : State) : State :=
  s.sendOn p (.trans (s.exerTrans p op step a b body))

/-- The anchor of a tensor in the tensor table. -/
def State.tableAnchor (s : State) (tensor : U32) : Int :=
  match s.upd.table.find? (fun e => tensorOf e.ts == tensor) with
  | some e => e.anchor
  | none => -32768

/-- BLOCK_ACK of one CONTRIB piece. -/
def State.exerAck (p : Port) (h : Header) (s : State) : State :=
  s.exerSend p opBLOCK_ACK h.step (ackA h.ts h.blk 1 opCONTRIB (BitVec.ofNat 8 h.code) h.contrib) [] []

/-- A CONTRIB arrives at an agent peer: it breaks R530 when it is early, of a failed step, of another epoch, with a wrong anchor
or a duplicate; each piece is acknowledged under the policy. -/
def State.exerContrib (p : Port) (b : Block) (s : State) : State :=
  let h := b.hdr
  let key := (h.contrib, h.ts, h.blk, h.step)
  let broken := !(s.exer.opened.contains h.step) || s.exer.failedSteps.contains h.step || h.jt != s.exer.jt ||
    h.epoch != s.exer.epoch || signed16 h.anchor != s.tableAnchor (tensorOf h.ts) || s.exer.seenPieces.contains key
  let s := if broken then s.exerCheck p 0x11 h.bytes else s
  let x := s.exer
  let lastOne := x.expecting == some (h.step, 1)
  let s := if lastOne && !h.last then s.exerCheck p 0x11 h.bytes else s
  let s := { s with exer := { s.exer with
    seenPieces := if s.exer.seenPieces.contains key then s.exer.seenPieces else s.exer.seenPieces ++ [key]
    expecting := match x.expecting with
      | some (st, n) => if st == h.step then (if n ≤ 1 then none else some (st, n - 1)) else some (st, n)
      | none => none
    held := if x.withhold then x.held ++ [(h.contrib, h.ts, h.blk, BitVec.ofNat 8 h.code)] else x.held } }
  if x.withhold then s else s.exerAck p h

/-- A packet of a port whose mode is not 0 (R519, R525, R530). -/
def State.exerPacket (p : Port) (vc : BitVec 3) (pk : Packet) (s : State) : State :=
  let mode := (s.exPort p).mode
  match pk with
  | .block b =>
    if b.hdr.typ == 7 then s.checkBlock p b
    else if !b.hdr.poison && !b.payOk then s.exerCheck p 0x0D b.hdr.bytes
    else if mode == 3 && vc == 2 then s.exerContrib p b
    else s
  | .trans t =>
    if !t.bodyOk then s.exerCheck p 0x0D t.bytes
    else
      let s := if t.op == opRESEND_REQ && t.a8 11 == 1 then s.reacted p [7] else s
      if mode != 3 then s
      else if t.op == opWRITE then s.exerCheck p 0x11 t.bytes
      else if t.op == opFENCE && t.a8 0 == 9 && t.a16 4 == 0x0F00 && s.exer.gambitSeq == some (field32 t.body 0) then
        { s with exer := { s.exer with gambitSeq := none } }
      else s

end Sys2Proof.Machine
end

