-- ==== Sys2Proof/Machine/LinkOps.lean ====
section
/-! DEFINITION. The frame layer of a port: cells, credits, replay, the conservation audit and training (R230 to R256). -/
namespace Sys2Proof.Machine
open Sys2Proof

/-! ## Cells and frames being built (R238, R239) -/

/-- The frame a sender is filling. -/
structure FrameAcc where
  cells : List (List Byte) := []
  cur : BitVec 3 := 0
  runA : BitVec 3 := 0
  runB : BitVec 3 := 0
  runBStart : Nat := 0
  starts : Nat := 0
  begun : List (BitVec 3 × Packet) := []   -- packets started in the frame
  noCredit : Bool := false                     -- one of them without credit (R527 code 0x04)

/-- A cell of a VC opens no third run. -/
def FrameAcc.fits (a : FrameAcc) (vc : BitVec 3) : Bool := a.cells.isEmpty || vc == a.cur || a.runBStart == 0

def FrameAcc.add (vc : BitVec 3) (start : Bool) (cell : List Byte) (a : FrameAcc) : FrameAcc :=
  let n := a.cells.length
  let a := if n = 0 then { a with runA := vc } else if vc == a.cur then a else { a with runB := vc, runBStart := n }
  { a with cells := a.cells ++ [cell], cur := vc, starts := if start then a.starts + 2 ^ n else a.starts }

def setAt {α : Type} {n : Nat} (v : Vector α n) (i : Nat) (f : α → α) : Vector α n := if h : i < n then v.set i (f v[i]) else v

def cellsOfPacket (pk : Packet) : List (List Byte) := chunksOf pk.cellCount 64 pk.bytes

/-- The VCs in the order in which a sender looks at them: VC0, VC1, then VC2 to VC7 in round robin (R239). -/
def vcOrder (rr : Nat) : List Nat := [0, 1] ++ (List.range 6).map (fun i => 2 + (rr - 2 + i) % 6)

/-- The first waiting packet of a VC that the port may send. -/
def PortSt.head (ok : Packet → Bool) (v : Nat) (q : PortSt) : Option Nat := q.queue.findIdx? (fun x => x.vc.toNat == v && ok x.pk)

def PortSt.cost (i : Nat) (q : PortSt) : Nat := match q.queue[i]? with | some x => x.pk.cellCount | none => 0

/-- The next packet to start: its index in the queue, its VC, and whether it is sent without credit. -/
def PortSt.pick (ok : Packet → Bool) (unpaid : Option U8) (q : PortSt) : Option (Nat × Nat × Bool) :=
  let lacking := match unpaid with
    | some c => (List.range 8).findSome? (fun v =>
        if c == 0xFF || c.toNat == v then
          match q.head ok v with
          | some i => if q.cost i ≤ q.credit.toList.getD v 0 then none else some (i, v, true)
          | none => none
        else none)
    | none => none
  match lacking with
  | some x => some x
  | none => (vcOrder q.rrNext).findSome? (fun v =>
      match q.head ok v with
      | some i => if q.cost i ≤ q.credit.toList.getD v 0 then some (i, v, false) else none
      | none => none)

/-- A HEARTBEAT as it leaves: the cells sent on each VC before its first cell (R243). skew: one more on VC0 (R527). -/
def PortSt.fillHeartbeat (skew : Bool) (q : PortSt) : Packet → Packet
  | .trans t =>
    if t.op == opHEARTBEAT then
      let n (i : Nat) : List Byte := le32 ((q.sentFresh.toList.getD i 0) + if skew && i == 0 then 1 else 0)
      .trans ({ t with a := opA (n 0 ++ n 1 ++ n 2 ++ n 3), b := opB (n 4 ++ n 5), c := opB (n 6 ++ n 7) } : Trans).seal
    else .trans t
  | p => p

/-- Cells go into the frame until it is full, no packet can start, or a third run would open. Each unit of fuel places one
cell or starts one packet. -/
def PortSt.fill (ok : Packet → Bool) (unpaid : Option U8) (skew : Bool) : Nat → PortSt → FrameAcc → PortSt × FrameAcc
  | 0, q, a => (q, a)
  | k + 1, q, a =>
    if a.cells.length ≥ 8 then (q, a)
    else
      match q.outCells with
      | (vc, start, cell) :: rest =>
        if a.fits vc then
          PortSt.fill ok unpaid skew k
            { q with outCells := rest, cellsSent := setAt q.cellsSent vc.toNat bump } (a.add vc start cell)
        else (q, a)
      | [] =>
        match q.pick ok (if a.noCredit then none else unpaid) with
        | none => (q, a)
        | some (i, v, short) =>
          match q.queue[i]? with
          | none => (q, a)
          | some x =>
            let vc := BitVec.ofNat 3 v
            if !a.fits vc then (q, a)
            else
              let pk := q.fillHeartbeat skew x.pk
              let n := pk.cellCount
              let q := { q with
                queue := q.queue.eraseIdx i
                outCells := (cellsOfPacket pk).zipIdx.map (fun (c, j) => (vc, j == 0, c))
                rrNext := if v ≥ 2 then 2 + (v - 1) % 6 else q.rrNext
                credit := if short then q.credit else setAt q.credit v (· - n)
                sentFresh := if short then q.sentFresh else setAt q.sentFresh v (· + BitVec.ofNat 32 n) }
              PortSt.fill ok unpaid skew k q { a with begun := a.begun ++ [(vc, pk)], noCredit := a.noCredit || short }

/-! ## Frames sent (R230 to R236) -/

/-- The packets a port may send in its state (R252, R255). -/
def PortSt.maySend (q : PortSt) (pk : Packet) : Bool :=
  let op := match pk with | .trans t => t.op | .block _ => 0
  match q.st with
  | .active => true
  | .quarantine => untagged op
  | .training => q.trainStep == 3 && op == opIDENT
  | _ => false

/-- Whether a port sends and receives frames. -/
def PortSt.onWire (q : PortSt) : Bool :=
  match q.st with
  | .active => true
  | .quarantine => true
  | .training => decide (q.trainStep ≥ 2)
  | _ => false

/-- The VC of the next credit report: VCs with freed cells in round robin (R241). -/
def PortSt.reportVc (q : PortSt) : Nat :=
  (((List.range 8).map (fun i => (q.rrReport + i) % 8)).find?
    (fun v => q.freed.toList.getD v 0 != q.reported.toList.getD v 0)).getD (q.rrReport % 8)

/-- The frame of a kind with the current ack and one credit report; the report is made. -/
def PortSt.emit (kind : BitVec 2) (seq : BitVec 12) (f : Option SentFrame) (q : PortSt) : List Byte × PortSt :=
  let v := q.reportVc
  let total := q.freed.toList.getD v 0
  let l : Lcw :=
    { seq := seq, ack := q.ackSend, kind := kind, count := BitVec.ofNat 4 (match f with | some f => f.cells.length | none => 0)
      runA := (f.map (·.runA)).getD 0, runB := (f.map (·.runB)).getD 0, runBStart := (f.map (·.runBStart)).getD 0
      creditVc := BitVec.ofNat 3 v, creditTotal := total.setWidth 14, starts := (f.map (·.starts)).getD 0 }
  let bytes := Sys2Proof.frameBytes (match f with | some f => f.cells | none => []) l
  (bytes, { q with
    wire := bytes, reported := setAt q.reported v (fun _ => total), rrReport := (v + 1) % 8
    frameBytes := setAt q.frameBytes 0 (bumpBy · 528) })

/-- The sequence the next DATA frame will carry. -/
def PortSt.nextData (q : PortSt) : BitVec 12 := q.replayFrom.getD q.nextSeq

def PortSt.sendNull (q : PortSt) : PortSt :=
  let q := (q.emit 1 q.nextData none).2
  { q with frameBytes := setAt q.frameBytes 2 (bumpBy · 528) }

def PortSt.sendNak (q : PortSt) : PortSt :=
  let q := (q.emit 2 q.nextData none).2
  { q with nakPending := false, naksSent := bump q.naksSent }

/-- The next frame of a replay, if one is in progress (R236). -/
def PortSt.replayNext (q : PortSt) : Option SentFrame :=
  match q.replayFrom with
  | some s => q.sentFrames.find? (·.seq == s)
  | none => none

def PortSt.sendReplay (f : SentFrame) (q : PortSt) : PortSt :=
  let q := (q.emit 0 f.seq (some f)).2
  { q with
    replayed := bump q.replayed
    frameBytes := setAt q.frameBytes 3 (bumpBy · 528)
    replayFrom := if q.sentFrames.any (·.seq == f.seq + 1) then some (f.seq + 1) else none }

/-- Flip bit n of a list of bytes. -/
def flipBit (n : Nat) (l : List Byte) : List Byte := l.modify (n / 8) (· ^^^ (1#8 <<< (n % 8)))

/-- The bytes of a frame with its check word over them as they stand. -/
def recheck (f : List Byte) : List Byte := let front := f.take 520; front ++ le64 (crc64 (front ++ List.replicate 8 0))

/-- The cell of the frame where a packet that qualifies for an injection starts (R527). -/
def FrameAcc.startFor (p : BitVec 3 × Packet → Bool) (a : FrameAcc) : Option Nat :=
  match a.begun.findIdx? p with
  | some i => (((List.range 8).filter (fun c => a.starts / 2 ^ c % 2 = 1))[i]?)
  | none => none

/-- The frame as an injection of a code alters it on the wire; none when it does not qualify. The replay copy is not altered. -/
def injectFrame (code vc : U8) (epoch : U32) (free : U64) (a : FrameAcc) (f : List Byte) : Option (List Byte) :=
  let vcOk (v : BitVec 3) : Bool := vc == 0xFF || v.toNat == vc.toNat
  let carries := vcOk a.runA || (a.runBStart != 0 && vcOk a.runB)
  let at_ (p : Packet → Bool) (g : List Byte → List Byte) : Option (List Byte) :=
    match a.startFor (fun x => vcOk x.1 && p x.2) with
    | some c => let pre := f.take (64 * c)
                some (recheck (pre ++ g ((f.drop (64 * c)).take 64) ++ f.drop (64 * c + 64)))
    | none => none
  let isTagged : Packet → Bool
    | .block _ => true
    | .trans t => !untagged t.op
  match code.toNat with
  | 1 => if carries then some (flipBit (free.toNat % 4224) f) else none
  | 2 => if carries then some [] else none
  | 3 => if carries then some f else none
  | 4 => if a.noCredit then some f else none
  | 5 => if a.begun.any (fun x => match x.2 with | .trans t => t.op == opHEARTBEAT | _ => false) then some f else none
  | 6 => at_ (fun _ => true) (fun h => h.take 54 ++ ((h.drop 54).take 4).map (~~~ ·) ++ h.drop 58)
  | 7 =>
    -- a payload bit of the first cell after the header, when the frame holds it
    match a.startFor (fun x => vcOk x.1 && decide (x.2.cellCount > 1)) with
    | some c => if c + 1 < a.cells.length then some (recheck (flipBit (512 * (c + 1)) f)) else none
    | none => none
  | 8 => at_ (fun _ => true) (fun h => 0 :: h.drop 1)
  | 9 => at_ isTagged (fun h =>
      let h := h.take 6 ++ le32 (epoch - 1) ++ h.drop 10
      h.take 54 ++ le32 (crc32c (h.take 54)) ++ h.drop 58)
  | _ => none

/-! ## Training (R252, R256) -/

/-- Retrain times of the last second. -/
def lastSecond (now : Nat) (l : List Nat) : List Nat := l.filter (fun t => decide (now - t < 1000))

def isIdent : Packet → Bool
  | .trans t => t.op == opIDENT
  | .block _ => false

/-- A training begins (R252): it counts as a retrain, except the first after a reset or after the disabled state. VC0 has credit
for the 3 cells of IDENT; cells of packets in progress pause. -/
def PortSt.train (now : Nat) (offer : Bool) (q : PortSt) : PortSt :=
  let add := 3 - q.credit[0]
  { q with
    st := .training, trainStep := 1, goodFrames := 0, offerResume := offer, identIn := none
    retrains := if q.firstTrain then q.retrains else bump q.retrains
    retrainAt := if q.firstTrain then q.retrainAt else lastSecond now q.retrainAt ++ [now]
    firstTrain := false, nakPending := false, nakWait := false, nakRow := 0, replayFrom := none
    queue := q.queue.filter (fun x => !isIdent x.pk)
    pausedCells := if q.st = .training then q.pausedCells else q.outCells, outCells := []
    credit := setAt q.credit 0 (· + add), initCredit := q.initCredit + add }

def State.startTraining (p : Port) (offer : Bool) (s : State) : State :=
  let t := s.time.now
  s.setPort p (fun q => if q.st = .disabled ∨ q.st = .failed then q else q.train t offer)

/-- One violation of an agent (R258). -/
def State.agentViolation (p : Port) (s : State) : State :=
  if p.val < 8 then
    let t := s.time.now
    s.setPort p (fun q => { q with agentViol := bump q.agentViol, violAt := lastSecond t q.violAt ++ [t] })
  else s

/-- The receiver of R256 starts again: counts, credits and sequences as after reset, the replay buffer discarded. -/
def PortSt.fresh (peerGrants : List U16) (q : PortSt) : PortSt :=
  { q with
    lostFrames := bumpBy q.lostFrames q.sentFrames.length
    sentFrames := [], outCells := [], replayFrom := none, nextSeq := 0, acked := 0xFFF, nakRow := 0
    credit := Vector.ofFn (fun i => (peerGrants.getD i.val 0).toNat)
    peerGrants := Vector.ofFn (fun i => (peerGrants.getD i.val 0).toNat)
    creditRecv := Vector.replicate 8 0, initCredit := 0, pausedCells := []
    creditSeen := Vector.replicate 8 0, sentFresh := Vector.replicate 8 0
    expect := 0, ackSend := 0xFFF, nakPending := false, nakWait := false
    recvFresh := Vector.replicate 8 0, freed := Vector.replicate 8 0, reported := Vector.replicate 8 0
    heldCells := Vector.replicate 8 0, partialPk := Vector.replicate 8 [], skipping := Vector.replicate 8 false
    arrivedPk := q.arrivedPk.map (fun a => { a with held := false })
    hbCounts := [], rrNext := 2, rrReport := 0
    grants := q.grantsSet }

/-! ## The own ledger of a port (R244) -/

/-- Cells that the receiver of a VC may hold: its grant, and the 3 of IDENT while the port trains (R252). -/
def PortSt.share (q : PortSt) (v : Nat) : Nat :=
  (q.grants.getD v 0).toNat + if v = 0 ∧ q.st = .training then 3 else 0

/-- The first VC whose ledger fails, with the failing terms: on the receive side cells received, freed and held, or freed,
reported and granted; on the send side the grant, cells sent, credits received and credit available. -/
def PortSt.ledgerFault (q : PortSt) : Option (Nat × List Byte) :=
  (List.range 8).findSome? fun v =>
    let recv := q.recvFresh.toList.getD v 0
    let freed := q.freed.toList.getD v 0
    let held := q.heldCells.toList.getD v 0
    let rep := q.reported.toList.getD v 0
    let grant := (q.grants.getD v 0).toNat
    let given := q.peerGrants.toList.getD v 0 + if v = 0 then q.initCredit else 0
    let sent := q.sentFresh.toList.getD v 0
    let back := q.creditRecv.toList.getD v 0
    let have_ := q.credit.toList.getD v 0
    if recv - freed != BitVec.ofNat 32 held || decide (held > q.share v) then
      some (v, le32 recv ++ le32 freed ++ le32 (BitVec.ofNat 32 held))
    else if (freed - rep).toNat > q.share v then some (v, le32 freed ++ le32 rep ++ leBytes 4 grant)
    else if BitVec.ofNat 32 have_ != BitVec.ofNat 32 given - sent + back then
      some (v, leBytes 4 given ++ le32 sent ++ le32 back ++ leBytes 4 have_)
    else none

def poolCells : Nat := 262144
/-- Cells of the packets in the switch pool: those that wait there and those queued on a port (R265). -/
def State.poolHeld (s : State) : Nat :=
  (s.route.pool.map (·.pk.cellCount)).sum +
    (s.links.ports.toList.map (fun q => ((q.queue.filter (·.seq.isSome)).map (·.pk.cellCount)).sum)).sum

/-- A device whose own ledger fails enters SAFE. -/
def State.auditPort (p : Port) (s : State) : State :=
  match (s.port p).ledgerFault with
  | some (v, terms) => s.enterSafe (ev0 0x1014 (unitPort p) (arg1 p.val ++ arg1 v ++ terms))
  | none =>
    if s.poolHeld + s.route.poolFree = poolCells then s
    else s.enterSafe (ev0 0x1014 (unitPort p) (arg1 p.val ++ arg1 0xFF ++ leBytes 4 s.poolHeld ++ leBytes 4 s.route.poolFree))

/-! ## Cells received (R241, R242, R250) -/

/-- The cells a packet declares by its header cell (R246, R247); none where byte 0 is not defined. -/
def declaredCells (hdr : List Byte) : Option Nat :=
  let b0 := (byteAt hdr 0).toNat
  if 1 ≤ b0 ∧ b0 ≤ 7 then some 65
  else if 0x41 ≤ b0 ∧ b0 ≤ 0x53 then some (1 + (byteAt hdr 1).toNat)
  else none

def headerOk (hdr : List Byte) : Bool := field32 hdr 54 == crc32c (hdr.take 54)

def PortSt.deliverPk (vc : BitVec 3) (cells : List (List Byte)) (q : PortSt) : PortSt :=
  { q with arrivedPk := q.arrivedPk ++ [⟨vc, true, cells.flatten⟩], partialPk := setAt q.partialPk vc.toNat (fun _ => []) }

/-- A packet cut short by the next start bit is delivered as it is, for the form check. -/
def PortSt.cutShort (vc : BitVec 3) (q : PortSt) : PortSt :=
  match q.partialPk.toList.getD vc.toNat [] with
  | [] => q
  | l => q.deliverPk vc l

/-- A cell enters the buffer of its VC and its packet (R250 step 2): a packet is whole at its declared length; the cells of one
whose header fails a check are skipped to the next start bit. -/
def PortSt.takeCell (vc : BitVec 3) (start : Bool) (cell : List Byte) (q : PortSt) : PortSt :=
  let v := vc.toNat
  let isHb := start && vc == 0 && byteAt cell 0 == 0x49 && headerOk cell
  let q := { q with
    hbCounts := if isHb then q.hbCounts ++ [(Trans.ofBytes cell, q.recvFresh)] else q.hbCounts
    lastOp := if start then setAt q.lastOp v (fun _ => byteAt cell 0) else q.lastOp
    cellsRecv := setAt q.cellsRecv v bump, recvFresh := setAt q.recvFresh v (· + 1) }
  let hold (q : PortSt) : PortSt := { q with heldCells := setAt q.heldCells v (· + 1) }
  let free (q : PortSt) : PortSt := { q with freed := setAt q.freed v (· + 1) }
  if start then
    let q := hold ((q.cutShort vc))
    let q := { q with skipping := setAt q.skipping v (fun _ => false) }
    match headerOk cell, declaredCells cell with
    | true, some 1 => q.deliverPk vc [cell]
    | true, some _ => { q with partialPk := setAt q.partialPk v (fun _ => [cell]) }
    | _, _ => { q.deliverPk vc [cell] with skipping := setAt q.skipping v (fun _ => true) }
  else if q.skipping.toList.getD v false then free q
  else
    match q.partialPk.toList.getD v [] with
    | [] =>
      -- cells beyond the declared length join the packet they follow while it waits, and it fails its form check
      match lastIdx (fun a => a.vc == vc && a.held) q.arrivedPk with
      | some i => hold { q with arrivedPk := q.arrivedPk.modify i (fun a => { a with bytes := a.bytes ++ cell }) }
      | none => free q
    | l =>
      let l := l ++ [cell]
      let n := match l.head? with | some h => (declaredCells h).getD 0 | none => 0
      let q := hold q
      if l.length = n then q.deliverPk vc l else { q with partialPk := setAt q.partialPk v (fun _ => l) }

/-- The packet being received on a VC is discarded up to the next start bit, its cells freed. -/
def PortSt.dropPartial (vc : BitVec 3) (q : PortSt) : PortSt :=
  let v := vc.toNat
  let n := (q.partialPk.toList.getD v []).length
  { q with
    partialPk := setAt q.partialPk v (fun _ => []), skipping := setAt q.skipping v (fun _ => true)
    heldCells := setAt q.heldCells v (· - n), freed := setAt q.freed v (· + BitVec.ofNat 32 n) }

/-- Whether a cell of a VC comes without credit (R242). -/
def PortSt.overrun (vc : BitVec 3) (q : PortSt) : Bool :=
  decide (q.heldCells.toList.getD vc.toNat 0 ≥ q.share vc.toNat)

/-- A cell beyond the declared length of a packet that has left its buffer (R250 step 2). -/
def PortSt.beyond (vc : BitVec 3) (start : Bool) (q : PortSt) : Bool :=
  !start && !(q.skipping.toList.getD vc.toNat false) && (q.partialPk.toList.getD vc.toNat []).isEmpty &&
    !(q.arrivedPk.any (fun a => a.vc == vc && a.held))

/-- A packet whose form is not valid (R250, R251, R258). -/
def State.badForm (p : Port) (vc : BitVec 3) (b0 : Byte) (s : State) : State :=
  let s := s.setPort p (fun q => { q with formViol := bump q.formViol })
  (s.record (ev3 0x1022 (unitPort p) (arg1 p.val ++ arg1 vc.toNat ++ [b0]))).agentViolation p

/-- A form violation, which a lax exerciser only counts (R525). -/
def State.formFail (p : Port) (vc : BitVec 3) (b0 : Byte) (bytes : List Byte) (s : State) : State :=
  if s.exerLax p then (s.setPort p (fun q => { q with formViol := bump q.formViol })).exerCheck p 0x0B bytes
  else (s.badForm p vc b0).exerCheck p 0x0B bytes

/-- The cells up to the next start bit are skipped. -/
def PortSt.skip (vc : BitVec 3) (q : PortSt) : PortSt := { q with skipping := setAt q.skipping vc.toNat (fun _ => true) }

/-- The cells of a DATA frame, in order; a cell without credit discards its packet, and outside a lax exerciser starts a fresh
training, which ends the frame. -/
def State.takeCells (p : Port) : List (BitVec 3 × Bool × List Byte) → State → State
  | [], s => s
  | (vc, start, cell) :: rest, s =>
    if (s.port p).overrun vc then
      let s := s.setPort p (fun q => (q.dropPartial vc))
      let s := s.exerCheck p 6 (cell.take 56)
      if s.exerLax p then s.takeCells p rest
      else
        let s := s.setPort p (fun q => { q with overruns := bump q.overruns })
        let s := s.record (ev3 0x1011 (unitPort p) (arg1 p.val ++ arg1 vc.toNat))
        (s.agentViolation p).startTraining p false
    else
      let s := if (s.port p).beyond vc start then
          (s.setPort p (PortSt.skip vc)).formFail p vc ((s.port p).lastOp.toList.getD vc.toNat 0) []
        else s
      (s.setPort p (PortSt.takeCell vc start cell)).takeCells p rest

/-- The VC and start bit of each cell of a DATA frame (R230). -/
def lcwCells (l : Lcw) (cs : List (List Byte)) : List (BitVec 3 × Bool × List Byte) :=
  ((cs.take l.count.toNat).zipIdx).map fun (c, i) =>
    ((if l.runBStart != 0 && decide (i ≥ l.runBStart.toNat) then l.runB else l.runA), l.starts.getLsbD i, c)

/-! ## Acks and credit reports (R234, R241) -/

/-- An ack names an outstanding frame or the last acknowledged one (R236). -/
def PortSt.ackKnown (ack : BitVec 12) (q : PortSt) : Bool := ack == q.acked || q.sentFrames.any (·.seq == ack)

/-- Frames up to an ack are released. -/
def PortSt.takeAck (ack : BitVec 12) (q : PortSt) : PortSt :=
  match q.sentFrames.findIdx? (·.seq == ack) with
  | some i =>
    let left := q.sentFrames.drop (i + 1)
    { q with
      sentFrames := left, acked := ack, nakRow := 0
      replayFrom := match q.replayFrom with
        | some r => if left.any (·.seq == r) then some r else (left.head?.map (·.seq))
        | none => none }
  | none => q

/-- A credit report adds the difference from the last total of its VC; the initial credit of a training is returned first (R252). -/
def PortSt.takeCredit (vc : BitVec 3) (total : BitVec 14) (q : PortSt) : PortSt :=
  let v := vc.toNat
  let d := (total - q.creditSeen.toList.getD v 0).toNat
  let repaid := if v = 0 then min d q.initCredit else 0
  { q with
    credit := setAt q.credit v (· + (d - repaid)), creditRecv := setAt q.creditRecv v (· + BitVec.ofNat 32 d)
    initCredit := q.initCredit - repaid, creditSeen := setAt q.creditSeen v (fun _ => total) }

end Sys2Proof.Machine
end

