-- ==== Sys2Proof/Machine/Links.lean ====
section
/-! DEFINITION. The commands of a port (R229 to R260, R447): frames, replay, packets, HEARTBEAT, training, agents, MARK. -/
namespace Sys2Proof.Machine
open Sys2Proof

/-! ## IDENT (R253) -/

def identBody (i : IdentBody) : List Byte :=
  padTo 128 (le16 i.highest ++ le16 i.lowest ++ [i.kind, i.port] ++ le16 i.flags ++ padTo 16 i.serial ++ le32 i.cn ++
    le16 i.usv ++ le16 i.visa ++ (i.grants.take 8).flatMap le16 ++ le32 i.firmware ++ le16 i.nextSeq)

def identOf (l : List Byte) : IdentBody :=
  { highest := field16 l 0, lowest := field16 l 2, kind := byteAt l 4, port := byteAt l 5, flags := field16 l 6
    serial := sliceZ l 8 16, cn := cnOf (field32 l 24), usv := field16 l 28, visa := field16 l 30
    grants := (List.range 8).map (fun i => field16 l (32 + 2 * i)), firmware := field32 l 48, nextSeq := field16 l 52 }

/-- The link versions a port offers, highest and lowest (R254, R519). -/
def State.offered (s : State) (p : Port) : U16 × U16 :=
  let v : U32 := if s.job.dev == .exerciser then (s.exPort p).versions else 0x00020003
  (v.setWidth 16, (v >>> 16).setWidth 16)

def State.runningVersion (s : State) : U32 := if s.boot.running then s.boot.imageB.version else s.boot.imageA.version

def State.ownIdent (s : State) (p : Port) : IdentBody :=
  let q := s.port p
  let (hi, lo) := s.offered p
  { highest := hi, lowest := lo, kind := if s.job.dev == .exerciser then 4 else 1, port := BitVec.ofNat 8 p.val
    flags := if q.offerResume then 1 else 0, serial := padTo 16 s.ident.traySerial, cn := s.own, usv := s.upd.semVersion
    visa := s.vec.isaVersion, grants := q.grantsSet, firmware := s.runningVersion, nextSeq := q.expect.setWidth 16 }

/-- The CN a link-level packet of a port is addressed to. -/
def State.peerCn (s : State) (p : Port) : U32 :=
  match s.expectedPeer p, (s.port p).peer with
  | some e, _ => e.2.2
  | none, some i => cnOf i.cn
  | none, none => 0

def State.linkTrans (s : State) (p : Port) (op : U8) (a b c body : List Byte) : Trans := s.mkTrans op (s.peerCn p) 0 a b c body

def State.queueIdent (p : Port) (s : State) : State :=
  s.sendOn p (.trans (s.linkTrans p opIDENT [] [] [] (identBody (s.ownIdent p))))

/-! ## FRAME_SEND (R232 to R239) -/

def State.injectStep (p : Port) (a : FrameAcc) (s : State) : State :=
  match s.injReady p with
  | none =>
    if s.exerRun p then s.setExPort p (fun x => { x with sinceInj := x.sinceInj + 1 }) else s
  | some (code, vc) =>
    let (free, s) := s.free
    match injectFrame code vc ((s.port p).peer.map (fun _ => s.job.epoch) |>.getD s.job.epoch) free a (s.port p).wire with
    | some f => (s.setPort p (fun q => { q with wire := f })).injApplied p
    | none => s.injDeferred p

def State.sendData (p : Port) (q : PortSt) (a : FrameAcc) (s : State) : State :=
  let f : SentFrame :=
    { seq := q.nextSeq, cells := a.cells, runA := a.runA, runB := a.runB, runBStart := BitVec.ofNat 3 a.runBStart
      starts := BitVec.ofNat 8 a.starts }
  let q := (q.emit 0 q.nextSeq (some f)).2
  let s := s.setPort p (fun _ => { q with sentFrames := q.sentFrames ++ [f], nextSeq := q.nextSeq + 1 })
  let left := ((a.begun.filter (fun x => !isLinkLevel x.2)).map (fun x => x.2.cellCount)).sum
  let s := if left = 0 then s else (s.freePool left).admitWaiting
  let n := (a.begun.filter (fun x => match x.2 with | .block b => b.hdr.typ == 7 | _ => false)).length
  let s := if n = 0 then s else s.setExPort p (fun x => { x with sent := bumpBy x.sent n })
  s.injectStep p a

def frameSend (p : Port) (s : State) : State :=
  let q := s.port p
  if !q.onWire then s
  else if q.st = .training ∧ q.trainStep = 2 then s.setPort p PortSt.sendNull
  else if q.nakPending then s.setPort p PortSt.sendNak
  else
    match q.replayNext with
    | some f => s.setPort p (PortSt.sendReplay f)
    | none =>
      if q.sentFrames.length ≥ 2048 then s.setPort p PortSt.sendNull
      else
        let s := s.generate p
        let inj := s.injReady p
        let unpaid := match inj with
          | some (code, vc) => if code == 4 then some vc else none
          | none => none
        let skew := inj.any (fun x => x.1 == 5)
        let q := s.port p
        let (q', a) := q.fill (if s.circuitPrep p then fun _ => false else q.maySend) unpaid skew 24 {}
        if a.cells.isEmpty then s.setPort p PortSt.sendNull else s.sendData p q' a

/-- FRAME_SEND (R232): the next NAK, replayed, DATA or NULL frame of a port. -/
def execFrameSend (p : Port) (s : State) : Host.Outcome State Fault Refusal := .next (frameSend p s)

/-! ## The end of a training (R252, R254 to R256, R277) -/

/-- The highest version both ends support (R254). -/
def commonVersion (a b : U16 × U16) : Option U16 :=
  let hi := min a.1.toNat b.1.toNat
  let lo := max a.2.toNat b.2.toNat
  if lo ≤ hi then some (BitVec.ofNat 16 hi) else none

/-- The peer the port should find, none when any identity will do (R255, R519). -/
def State.wanted (s : State) (p : Port) : Option (Option (List Byte × U8 × U32)) :=
  if s.job.dev == .exerciser then
    let x := s.exPort p
    if x.check == 0 then none else some (some (sliceZ x.expect 0 16, byteAt x.expect 20, cnOf (field32 x.expect 16)))
  else some (s.expectedPeer p)

def identMatches (i : IdentBody) (w : Option (Option (List Byte × U8 × U32))) : Bool :=
  match w with
  | none => true
  | some none => false
  | some (some (serial, port, cn)) => i.serial == serial && i.port == port && i.cn == cn

/-- Event 0x1030 with both ends and the expected values (R255). -/
def State.wiringEvent (p : Port) (i : IdentBody) (s : State) : State :=
  let (serial, port, cn) := match s.wanted p with
    | some (some e) => e
    | _ => (List.replicate 16 0, 0, 0)
  s.record (ev2 0x1030 (unitPort p) (padTo 16 s.ident.traySerial ++ arg1 p.val ++ arg4 s.own ++ i.serial ++ [i.port] ++
    arg4 i.cn ++ serial ++ [port] ++ arg4 cn))

/-- A circuit whose trained peer matches its entry is up (R277 step 6). -/
def State.circuitUp (p : Port) (cn : U32) (s : State) : State :=
  match circOf p with
  | none => s
  | some n =>
    let c := s.route.circuits[n]
    if c.state == 4 then
      ({ s with route := { s.route with circuits := s.route.circuits.set n { c with state := 2 } } }).record
        (ev3 0x1071 (unitPort p) (arg1 p.val ++ arg4 c.grant ++ arg4 cn))
    else s

/-- The training ends (R252 steps 4 and 5). -/
def State.endTraining (p : Port) (i : IdentBody) (s : State) : State :=
  let q := s.port p
  let version := commonVersion (s.offered p) (i.highest, i.lowest)
  let idOk := identMatches i (s.wanted p) && i.grants.all (fun g => decide (g.toNat ≥ 66))
  let same := match q.prevPeer with
    | some o => o.serial == i.serial && o.port == i.port && o.cn == i.cn && version == some q.version
    | none => false
  let resume := q.offerResume && i.flags.getLsbD 0 && same && !q.wasQuar
  let quar := version.isNone || !idOk || q.violQuar
  let s := if version.isNone then
      s.record (ev3 0x1031 unitSwitch (le16 (s.offered p).1 ++ le16 (s.offered p).2 ++ le16 i.highest ++ le16 i.lowest))
    else s
  let s := if idOk then s else s.wiringEvent p i
  let s := s.setPort p (fun q =>
    let q := if resume then
        { q.takeAck ((i.nextSeq - 1).setWidth 12) with
          nakWait := false, nakPending := false, outCells := q.outCells ++ q.pausedCells, pausedCells := [] }
      else q.fresh i.grants
    let q := if resume then { q with replayFrom := q.sentFrames.head?.map (·.seq) } else q
    { q with
      st := if quar then .quarantine else .active
      trainStep := 0, offerResume := false, version := version.getD 0, prevPeer := some i, wasQuar := quar
      agentLost := if quar then q.agentLost else false })
  let q := s.port p
  let s := s.record (ev3 0x1001 (unitPort p) (arg1 p.val ++ arg4 i.cn ++ le16 q.version ++ arg1 (if resume then 1 else 0) ++
    le16 (q.nextData.setWidth 16) ++ le16 (q.expect.setWidth 16)))
  let s := if resume then s else s.reacted p [4, 5]
  if quar then s.suspectPort p else s.circuitUp p i.cn

/-! ## FRAME_RECEIVE (R230 to R242) -/

/-- The receiver asks for replay (R235). -/
def PortSt.wantNak (q : PortSt) : PortSt := { q with nakPending := true, nakWait := true }

/-- A frame that fails its check is used in no way (R233). -/
def State.badCheck (p : Port) (s : State) : State :=
  (s.setPort p (fun q =>
    let q := { q with frameFails := bump q.frameFails, goodFrames := 0 }
    if q.st = .training then q else q.wantNak)).exerCheck p 2 []

/-- A frame with a good check that is not well formed (R231). -/
def State.badFrame (p : Port) (w : U64) (s : State) : State :=
  let s := s.setPort p (fun q => { q with formViol := bump q.formViol })
  let s := (s.record (ev3 0x1013 (unitPort p) (arg1 p.val ++ arg8 w))).exerCheck p 3 []
  if s.exerLax p then s else (s.agentViolation p).startTraining p true

/-- Step 2 of training ends at 1,024 consecutive good frames, and IDENT is sent (R252); the peer's may have come before. -/
def State.countGood (p : Port) (s : State) : State :=
  let s := s.setPort p (fun q => { q with goodFrames := q.goodFrames + 1, frameBytes := setAt q.frameBytes 1 (bumpBy · 528) })
  let q := s.port p
  if q.st = .training ∧ q.trainStep = 2 ∧ q.goodFrames ≥ 1024 then
    let s := (s.setPort p (fun q => { q with trainStep := 3 })).queueIdent p
    match q.identIn with
    | some i => s.endTraining p i
    | none => s
  else s

/-- A missing DATA frame is seen: one NAK until the expected frame arrives (R235). -/
def State.missing (p : Port) (s : State) : State :=
  if (s.port p).nakWait ∨ (s.port p).st = .training then s else (s.setPort p PortSt.wantNak).exerCheck p 4 []

def State.takeFrame (p : Port) (l : Lcw) (cells : List (List Byte)) (s : State) : State :=
  let q := s.port p
  let d := (l.creditTotal - q.creditSeen.toList.getD l.creditVc.toNat 0).toNat
  let out := ((q.sentFresh.toList.getD l.creditVc.toNat 0).setWidth 14 - q.creditSeen.toList.getD l.creditVc.toNat 0).toNat
  let s := if d > out then s.exerCheck p 7 [] else s
  let s := s.setPort p (fun q => (q.takeAck l.ack).takeCredit l.creditVc l.creditTotal)
  let e := (s.port p).expect
  if l.kind == 0 then
    if l.seq == e then
      (s.setPort p (fun q => { q with expect := e + 1, ackSend := e, nakWait := false })).takeCells p (lcwCells l cells)
    else
      (s.setPort p (fun q => { q with afterNak := bump q.afterNak })).missing p
  else
    let ahead := (l.seq - e).toNat
    if 1 ≤ ahead ∧ ahead < 2048 then s.missing p else s

def frameReceive (p : Port) (bytes : List Byte) (s : State) : State :=
  if !(s.port p).onWire then s
  else if !frameCheckOk bytes then s.badCheck p
  else
    let w := field64 bytes 512
    let s := s.countGood p
    if !frameWellFormed bytes then s.badFrame p w
    else s.takeFrame p (Lcw.ofWord w) (frameCells bytes)

/-- FRAME_RECEIVE (R233). -/
def execFrameReceive (p : Port) (bytes : List Byte) (s : State) : Host.Outcome State Fault Refusal := .next (frameReceive p bytes s)

/-! ## Replay and retraining (R235 to R237, R252) -/

def nakReceive (p : Port) (ack : BitVec 12) (s : State) : State :=
  if !(s.port p).onWire then s
  else if !(s.port p).ackKnown ack then
    (s.setPort p (fun q => { q with formViol := bump q.formViol })).exerCheck p 4 []
  else
    let s := s.setPort p (fun q =>
      let q := q.takeAck ack
      if q.st = .training then q else { q with nakRow := q.nakRow + 1, replayFrom := q.sentFrames.head?.map (·.seq) })
    s.reacted p [1, 2, 3]

/-- NAK_RECEIVE (R236). -/
def execNakReceive (p : Port) (ack : BitVec 12) (s : State) : Host.Outcome State Fault Refusal := .next (nakReceive p ack s)

def nakRepeat (p : Port) (s : State) : State :=
  s.setPort p (fun q => if q.nakWait && q.onWire then { q with nakPending := true } else q)

/-- NAK_REPEAT (R235): OD 50pp.07 has passed since the NAK and the expected frame has not arrived. -/
def execNakRepeat (p : Port) (s : State) : Host.Outcome State Fault Refusal := .next (nakRepeat p s)

def nakEscalation (p : Port) (s : State) : State :=
  let q := s.port p
  if !q.onWire || decide (q.nakRow < s.links.nakLimit.toNat) then s
  else
    let s := s.record (ev3 0x1010 (unitPort p) (arg1 p.val ++ le16 (q.acked.setWidth 16)))
    if s.exerLax p then s.setPort p (fun q => { q with nakRow := 0 }) else s.startTraining p true

/-- NAK_ESCALATION (R237): no effect below OD 5020.02 NAKs without progress. -/
def execNakEscalation (p : Port) (s : State) : Host.Outcome State Fault Refusal := .next (nakEscalation p s)

/-- Retrains of a port within the last second (R237). -/
def State.retrainsNow (s : State) (p : Port) : Nat := (lastSecond s.time.now (s.port p).retrainAt).length

def linkFailed (p : Port) (s : State) : State :=
  let st := (s.port p).st
  if st = .failed ∨ st = .disabled ∨ s.retrainsNow p < s.links.retrainLimit.toNat || s.exerLax p then s
  else
    let s := s.setPort p (fun q => { q with st := .failed, trainStep := 0 })
    let s := s.record (ev3 0x1002 unitSwitch [])
    let s := s.charge { unit := 0x0700 + p.val, code := 0x1002, path := 5 }
    s.portGone p

/-- LINK_FAILED (R237, R409): no effect below OD 5020.05 retrains within a second. -/
def execLinkFailed (p : Port) (s : State) : Host.Outcome State Fault Refusal := .next (linkFailed p s)

def fecLock (p : Port) (s : State) : State :=
  s.setPort p (fun q => if q.st = .training ∧ q.trainStep = 1 then { q with trainStep := 2, goodFrames := 0 } else q)

/-- FEC_LOCK (R252 step 1). -/
def execFecLock (p : Port) (s : State) : Host.Outcome State Fault Refusal := .next (fecLock p s)

def trainingDeadlineMiss (p : Port) (s : State) : State :=
  let q := s.port p
  if q.st = .training ∧ q.trainStep ≠ 0 then s.startTraining p q.offerResume else s

/-- TRAINING_DEADLINE_MISS (R252). -/
def execTrainingDeadlineMiss (p : Port) (s : State) : Host.Outcome State Fault Refusal := .next (trainingDeadlineMiss p s)

/-- A port action 1, 2 or 4 (R252, R259): a port that leaves the disabled state trains for a first time. -/
def State.portAction (p : Port) (offer : Bool) (s : State) : State :=
  let t := s.time.now
  s.setPort p (fun q =>
    let q := { q with firstTrain := q.firstTrain || decide (q.st = PortState.disabled), violQuar := false, fencedOff := false, agentLost := false }
    q.train t offer)

/-- PORT_RESUME_RETRAIN (R256): port action 1. -/
def execPortResumeRetrain (p : Port) (s : State) : Host.Outcome State Fault Refusal := .next (s.portAction p true)
/-- PORT_FRESH_TRAINING (R256): port action 2. -/
def execPortFreshTraining (p : Port) (s : State) : Host.Outcome State Fault Refusal := .next (s.portAction p false)
/-- PORT_ENABLE (R252): port action 4. -/
def execPortEnable (p : Port) (s : State) : Host.Outcome State Fault Refusal := .next (s.portAction p false)

def portDisable (p : Port) (s : State) : State :=
  s.setPort p (fun q => { q with st := .disabled, trainStep := 0, violQuar := false })

/-- PORT_DISABLE (R252): port action 3. -/
def execPortDisable (p : Port) (s : State) : Host.Outcome State Fault Refusal := .next (portDisable p s)

/-! ## PACKET_RECEIVE (R250, R275) -/

/-- The packet leaves its port buffer (R241, R265). -/
def State.takeArrived (p : Port) (vc : BitVec 3) (bytes : List Byte) (s : State) : State :=
  match (s.port p).arrivedPk.findIdx? (fun a => a.vc == vc && a.bytes == bytes) with
  | none => s
  | some i =>
    s.setPort p (fun q =>
      let n := (bytes.length + 63) / 64
      let q' := { q with arrivedPk := q.arrivedPk.eraseIdx i }
      if (q.arrivedPk[i]?).any (·.held) then
        { q' with heldCells := setAt q.heldCells vc.toNat (· - n), freed := setAt q.freed vc.toNat (· + BitVec.ofNat 32 n) }
      else q')

/-- Fence kinds and EPOCH subkinds that are defined (R251, R396). -/
def fenceForm (t : Trans) : Bool :=
  let k := (t.a8 0).toNat
  decide (1 ≤ k) && decide (k ≤ 10) && (k != 5 || (decide (1 ≤ (t.a8 1).toNat) && decide ((t.a8 1).toNat ≤ 4)))

/-- The packet of a form that is defined and permitted on its VC (R246, R249, R250 step 2). -/
def packetForm (vc : BitVec 3) (bytes : List Byte) : Option Packet :=
  let b0 := (byteAt bytes 0).toNat
  if 1 ≤ b0 ∧ b0 ≤ 7 then
    if bytes.length = 4160 ∧ (blockOp vc (Header.ofBytes bytes)).isSome then some (.block (Block.ofBytes bytes)) else none
  else if 0x41 ≤ b0 ∧ b0 ≤ 0x53 then
    let t := Trans.ofBytes bytes
    let n := (byteAt bytes 1).toNat
    if bytes.length = 64 * (1 + n) ∧ vcOfOp t.op.toNat = vc ∧ bodyCellsOk t.op.toNat (t.flags.getLsbD 1) n ∧
        (t.op ≠ opFENCE ∨ fenceForm t) then some (.trans t) else none
  else none

def fenceKindOf : Packet → Nat
  | .trans t => if t.op == opFENCE then (t.a8 0).toNat else 0
  | .block _ => 0
def isUntagged : Packet → Bool
  | .trans t => untagged t.op
  | .block _ => false

/-- A packet addressed to the device: its own CN, an adopted position, or an INSTALL for the position that the shadow
substitution table maps to it while the switch of that epoch is pending (R275). -/
def State.addressed (s : State) (pk : Packet) : Bool :=
  s.isLocal pk.dst ||
  (match pk with
   | .trans t => t.op == opFENCE && t.a8 0 == 5 && t.a8 1 == 3 && s.route.pendingSwitch == some (t.a32 4) &&
       s.route.substShadow.any (fun e => e.1 == pk.dst && e.2 == s.own)
   | .block _ => false)

def State.jtDiscard (p : Port) (s : State) : State := s.setPort p (fun q => { q with jtDiscards := bump q.jtDiscards })
def State.tagDiscard (p : Port) (s : State) : State :=
  let s := s.jtDiscard p
  { s with route := { s.route with jtDiscards := bump s.route.jtDiscards } }

/-- The job-tag and epoch checks (R275): whether the packet goes on, and the state after them. -/
def State.jobCheck (p : Port) (pk : Packet) (s : State) : Bool × State :=
  let d := s.job.dev
  if isUntagged pk then (true, s)
  else if fenceKindOf pk == 7 && d == .standby then (true, s)
  else if d == .standby || d == .resigning || d == .exerciser || d == .safe then (false, s.tagDiscard p)
  else if pk.jt != s.job.jt then
    let s := s.tagDiscard p
    if s.route.seenJt.contains pk.src then (false, s)
    else (false, ({ s with route := { s.route with seenJt := pk.src :: s.route.seenJt } }).record (ev3 0x1053 unitSwitch []))
  else if fenceKindOf pk == 5 then (true, s)
  else if d == .fenced then (false, s.jtDiscard p)
  else if pk.epoch.toNat < s.job.epoch.toNat then
    let s := s.jtDiscard p
    (false, { s with route := { s.route with staleDiscards := bump s.route.staleDiscards } })
  else if pk.epoch.toNat > s.job.epoch.toNat then
    let s := s.jtDiscard p
    let rt := { s.route with futureDiscards := bump s.route.futureDiscards }
    if rt.seenAhead.contains pk.epoch then (false, { s with route := rt })
    else (false, ({ s with route := { rt with seenAhead := pk.epoch :: rt.seenAhead } }).record (ev3 0x1054 unitSwitch []))
  else (true, s)

/-- A block whose payload fails its check at a link receiver (R61). -/
def State.badPayload (p : Port) (vc : BitVec 3) (h : Header) (s : State) : State :=
  let s := { s with chk := { s.chk with payRecv := bump s.chk.payRecv } }
  if h.typ == 3 || h.typ == 4 then
    let s := s.record (ev3 0x2010 (unitPort p) (arg1 p.val ++ arg4 (cnOf h.src) ++ arg4 h.contrib ++ arg4 h.ts ++ arg4 h.blk ++ arg4 h.step))
    if vc == 2 then s.askPiece h 1 0 else s.sendResend (cnOf h.src) h.step h.ts h.blk 1 ((blockOp vc h).getD 0) 1 h.contrib []
  else
    let s := s.record (ev3 0x1021 (unitPort p) [])
    s.sendResend (cnOf h.src) h.step h.ts h.blk 1 ((blockOp vc h).getD 0) 1 h.contrib []

/-- The payload or body check (R42 step 4, R65, R250 step 4): whether the packet goes on. -/
def State.payCheck (p : Port) (vc : BitVec 3) (pk : Packet) (s : State) : Bool × State :=
  let count (s : State) : State := { s with chk := { s.chk with payChecks := bump s.chk.payChecks } }
  match pk with
  | .block b =>
    if b.hdr.poison then (true, { s with chk := { s.chk with poisonedRecv := bump s.chk.poisonedRecv } })
    else if b.payOk then (true, count s)
    else (false, (count s).badPayload p vc b.hdr)
  | .trans t =>
    if t.body.isEmpty then (true, s)
    else if t.bodyOk then (true, count s)
    else
      let s := count s
      (false, ({ s with chk := { s.chk with payRecv := bump s.chk.payRecv } }).record (ev3 0x1021 (unitPort p) []))

/-- Fences a port takes: AGENT_REPORT on a tray link; on a fabric link all but STEP_OPEN, AGENT_REPORT and GAMBIT (R251). -/
def fenceAllowed (p : Port) (k : Nat) : Bool :=
  if p.val < 8 then k == 9 else k != 1 && k != 9 && k != 10

/-- A packet addressed to the device (R250 step 4). -/
def State.receiveOwn (p : Port) (vc : BitVec 3) (b0 : Byte) (pk : Packet) (s : State) : State :=
  let k := fenceKindOf pk
  if k != 0 && !fenceAllowed p k then s.badForm p vc b0
  else if k == 9 && (s.port p).version != 3 then s     -- version 2 has no AGENT_REPORT (R254)
  else
    let valid := match pk with
      | .block b => b.hdr.valid
      | .trans _ => true
    if !valid then
      match pk with
      | .block b =>
        ({ s with chk := { s.chk with invalid := bump s.chk.invalid } }).record
          (ev3 0x2011 (unitPort p) (arg1 p.val ++ b.hdr.bytes.take 16))
      | .trans _ => s
    else
      let (ok, s) := s.jobCheck p pk
      if !ok then s
      else
        let (ok, s) := s.payCheck p vc pk
        if ok then s.deliver (some p) vc pk else s

def packetReceive (p : Port) (vc : BitVec 3) (bytes : List Byte) (s0 : State) : State :=
  let s := s0.takeArrived p vc bytes
  let q := s.port p
  let b0 := byteAt bytes 0
  if !q.onWire then s
  else if !headerOk bytes then
    let s := { s with chk := { s.chk with hdrFail := bump s.chk.hdrFail } }
    let s := s.setPort p (fun q => { q with hdrFails := bump q.hdrFails })
    (s.record (ev3 0x1020 (unitPort p) (arg1 p.val))).exerCheck p 0x0C bytes
  else
    match packetForm vc bytes with
    | none =>
      s.formFail p vc b0 bytes
    | some pk =>
      let s := s.tracePk 2 p vc pk
      if s.exerOn p && !isLinkLevel pk then s.exerPacket p vc pk
      else if vc == 7 then s.setPort p (fun q => { q with formViol := bump q.formViol })
      else if q.st ≠ .active ∧ !isUntagged pk then s.setPort p (fun q => { q with quarDiscards := bump q.quarDiscards })
      else if s.det.fenced.contains pk.src then { s with det := { s.det with srcDiscards := bump s.det.srcDiscards } }
      else if s.addressed pk || (isLinkLevel pk && q.st == .training) then s.receiveOwn p vc b0 pk
      else if (match pk with | .trans t => t.op == opOBJ_TUNNEL | .block _ => false) then
        { s with route := { s.route with routeDiscards := bump s.route.routeDiscards } }
      else if s.route.poolFree < pk.cellCount then s0     -- it waits in its port buffer
      else s.forward (some p) vc pk

/-- PACKET_RECEIVE (R250). -/
def execPacketReceive (p : Port) (vc : BitVec 3) (bytes : List Byte) (s : State) : Host.Outcome State Fault Refusal :=
  .next (packetReceive p vc bytes s)

/-! ## HEARTBEAT (R243, R244, R394) -/

def State.mayBeat (s : State) (p : Port) : Bool :=
  ((s.port p).st == .active || (s.port p).st == .quarantine) && s.det.watchdogFed && s.job.dev != .safe && s.job.dev != .fenced

def heartbeatSend (p : Port) (s : State) : State :=
  if s.mayBeat p then (s.sendOn p (.trans (s.linkTrans p opHEARTBEAT [] [] [] []))).auditPort p else s

/-- HEARTBEAT_SEND (R243, R394): the counts are filled in as its first cell leaves. -/
def execHeartbeatSend (p : Port) (s : State) : Host.Outcome State Fault Refusal := .next (heartbeatSend p s)

/-- The count a HEARTBEAT carries for a VC. -/
def beatCount (t : Trans) (v : Nat) : U32 :=
  BitVec.ofNat 32 (if v < 4 then t.aNat (4 * v) 4 else if v < 6 then t.bNat (4 * (v - 4)) 4 else t.cNat (4 * (v - 6)) 4)

/-- The first VC on which the peer's count differs from the cells received before the HEARTBEAT. -/
def PortSt.auditDiff (t : Trans) (q : PortSt) : Option (Nat × U32 × U32) :=
  let mine := (((q.hbCounts.find? (·.1 == t)).map (·.2)).getD q.recvFresh).toList
  (List.range 8).findSome? fun v =>
    let a := beatCount t v
    let b := mine.getD v 0
    if a == b then none else some (v, a, b)

def heartbeatReceive (p : Port) (pk : Trans) (s : State) : State :=
  let s := s.takePk (.trans pk)
  let now := s.time.now
  let d := (s.port p).auditDiff pk
  let s := s.setPort p (fun q => { q with hbCounts := (q.hbCounts.dropWhile (fun x => !(x.1 == pk))).drop 1 })
  let s := s.auditPort p
  if s.job.dev = .safe then s
  else
    match d with
    | none =>
      s.setPort p (fun q => { q with lastHb := if q.st == .active then some now else q.lastHb, agentLost := false })
    | some (v, a, b) =>
      let s := s.exerCheck p 8 []
      if s.exerLax p then s
      else
        let s := s.setPort p (fun q => { q with auditMism := bump q.auditMism })
        let s := s.record (ev3 0x1012 (unitPort p) (arg1 p.val ++ arg1 v ++ arg4 a ++ arg4 b))
        (s.agentViolation p).startTraining p false

/-- HEARTBEAT_RECEIVE (R244). -/
def execHeartbeatReceive (p : Port) (pk : Trans) (s : State) : Host.Outcome State Fault Refusal := .next (heartbeatReceive p pk s)

/-- HEARTBEAT_LATE (R525): twice OD 50pp.06 has passed without a HEARTBEAT in an exerciser run. -/
def execHeartbeatLate (p : Port) (s : State) : Host.Outcome State Fault Refusal := .next (s.exerCheck p 9 [])
/-- MARK_LATE (R525). -/
def execMarkLate (p : Port) (s : State) : Host.Outcome State Fault Refusal := .next (s.exerCheck p 0x0A [])

def replayLate (p : Port) (s : State) : State := if (s.port p).nakWait then s.exerCheck p 5 [] else s
/-- REPLAY_LATE (R525): the peer has not begun replay within the reaction deadline of a NAK. -/
def execReplayLate (p : Port) (s : State) : Host.Outcome State Fault Refusal := .next (replayLate p s)

/-! ## IDENT_RECEIVE (R252 to R256, R277) -/

def identReceive (p : Port) (pk : Trans) (s : State) : State :=
  let s := s.takePk (.trans pk)
  let q := s.port p
  if q.st = .disabled ∨ q.st = .failed then s
  else
    let i := identOf pk.body
    let s := s.setPort p (fun q => { q with peer := some i, peerRaw := padTo 128 (pk.body.take 128) })
    if q.st = .training ∧ q.trainStep = 3 then s.endTraining p i
    else s.setPort p (fun q => if q.st = .training then { q with identIn := some i } else q)

/-- IDENT_RECEIVE (R255). -/
def execIdentReceive (p : Port) (pk : Trans) (s : State) : Host.Outcome State Fault Refusal := .next (identReceive p pk s)

/-! ## Agents (R258) -/

def agentNoResend (p : Port) (ts blk : U32) (s : State) : State :=
  match (s.port p).agentReqs.find? (fun a => a.ts == ts && a.blk == blk) with
  | none => s
  | some a =>
    let s := s.setPort p (fun q => { q with agentReqs := q.agentReqs.filter (fun b => !(b == a)) })
    let s := (s.agentViolation p).record (ev3 0x1041 (unitPort p) (arg1 p.val ++ arg4 ts ++ arg4 blk))
    s.send (.trans a.req)

/-- AGENT_NO_RESEND (R258): OD 5020.04 has passed since the request. -/
def execAgentNoResend (p : Port) (ts blk : U32) (s : State) : Host.Outcome State Fault Refusal := .next (agentNoResend p ts blk s)

def State.violationsNow (s : State) (p : Port) : Nat := (lastSecond s.time.now (s.port p).violAt).length

def agentQuarantine (p : Port) (s : State) : State :=
  let q := s.port p
  let on := q.st = .active ∨ q.st = .quarantine ∨ q.st = .training
  if p.val ≥ 8 ∨ !on ∨ q.violQuar ∨ s.violationsNow p < s.links.violLimit.toNat || s.exerLax p then s
  else
    let s := s.setPort p (fun q => { q with
      st := if q.st = .training then .training else .quarantine
      violQuar := true, wasQuar := true, violAt := [], agentViol := bump q.agentViol })
    let s := s.record (ev2 0x1042 (unitPort p) (arg1 p.val ++ (match q.peer with | some i => i.serial | none => List.replicate 16 0)))
    s.loseAgent p

/-- AGENT_QUARANTINE (R258): no effect below OD 5020.03 violations within a second. A port that trains, as most violations make
it, is quarantined from the end of its training on. -/
def execAgentQuarantine (p : Port) (s : State) : Host.Outcome State Fault Refusal := .next (agentQuarantine p s)

/-! ## MARK (R447) -/

def islandOfPort (p : Port) : Nat := if p.val < 8 then 36 else 37

def markSend (p : Port) (s : State) : State :=
  let q := s.port p
  if q.st ≠ .active ∧ q.st ≠ .quarantine then s
  else
    let n := q.markNo + 1
    let s := s.setPort p (fun q => { q with markNo := n })
    let s := s.trace (islandOfPort p) 3 (unitPort p) p.val 0 0x0E (le32 n)
    s.sendOn p (.trans (s.linkTrans p opMARK (le32 n ++ le32 q.peerMark) (le64 (s.ns (islandOfPort p))) (le64 q.peerMarkAt) []))

/-- MARK_SEND (R447). -/
def execMarkSend (p : Port) (s : State) : Host.Outcome State Fault Refusal := .next (markSend p s)

def markReceive (p : Port) (pk : Trans) (s : State) : State :=
  let s := s.takePk (.trans pk)
  let t := s.ns (islandOfPort p)
  let s := s.setPort p (fun q => { q with peerMark := pk.a32 0, peerMarkAt := t })
  s.trace (islandOfPort p) 4 (unitPort p) p.val 0 0x0E
    (le32 (pk.a32 4) ++ leBytes 6 pk.b.toNat ++ leBytes 6 pk.c.toNat)

/-- MARK_RECEIVE (R447). -/
def execMarkReceive (port : Port) (pk : Trans) (s : State) : Host.Outcome State Fault Refusal := .next (markReceive port pk s)

def internalMark (s : State) : State :=
  let n := s.tele.markInt + 1
  let s := { s with tele := { s.tele with markInt := n } }
  let at_ := s.ns 40
  (List.range 44).foldl (fun s i => s.trace i 5 unitCC 0xFF 0xFF 0 (le32 n ++ leBytes 6 at_.toNat)) s

/-- INTERNAL_MARK (R447). -/
def execInternalMark (s : State) : Host.Outcome State Fault Refusal := .next (internalMark s)

end Sys2Proof.Machine
end

