-- ==== Sys2Proof/Machine/Routing.lean ====
section
/-! DEFINITION. The commands of pods, routing and circuits (R261 to R284): the wiring map, the routing banks, substitution, the
switch pool, circuit entries. -/
namespace Sys2Proof.Machine
open Sys2Proof

/-! ## The twisted 8-cube (R262) -/

def flipAt (y n : Nat) : Nat := if y / 2 ^ n % 2 = 1 then y - 2 ^ n else y + 2 ^ n

/-- n_d(x), the neighbour of a position in a dimension. -/
def cubeNeighbour (d x : Nat) : Nat :=
  (List.range 4).foldl (fun y i => if 2 * i + 1 < d && x / 2 ^ (2 * i) % 2 == 1 then flipAt y (2 * i + 1) else y) (flipAt x d)

/-! ## Routing banks (R268, R269) -/

def RouteEntry.word (e : RouteEntry) : U32 := (e.alt ++ e.prim).setWidth 32
/-- The entry of a CN in a bank: none and none when it is not listed. -/
def bankEntry (bank : List RouteEntry) (cn : U32) : RouteEntry :=
  (bank.find? (·.cn == cn)).getD { cn := cn, prim := 0x1F, alt := 0x1F }
def bankCns : Nat := 131072
/-- The 524,288 bytes of a bank. -/
def bankBytes (bank : List RouteEntry) : List Byte :=
  (List.range bankCns).flatMap (fun c => le32 (bankEntry bank (BitVec.ofNat 32 c)).word)

/-- The bank of a wiring map alone. -/
def State.mapBank (s : State) : List RouteEntry :=
  { cn := s.own, prim := 0x1E, alt := 0x1F } ::
    ((List.finRange 16).filterMap (fun p =>
      let w := s.route.wires[p]
      if w.wired then some { cn := cnOf w.cn, prim := BitVec.ofNat 5 p.val, alt := 0x1F } else none))

def State.refillBanks (s : State) : State :=
  { s with route := { s.route with active := s.mapBank, shadow := s.mapBank } }

/-! ## The wiring map (R263, R264) -/

def wireEntry (l : List Byte) : WireEntry :=
  if l.all (· == 0) then {}
  else { serial := sliceZ l 0 16, cn := field32 l 16, port := byteAt l 20, kind := byteAt l 21, pos := byteAt l 22 }

def State.wireOk (s : State) (before : List WireEntry) (i : Nat) (w : WireEntry) : Bool :=
  !w.wired ||
  ((if i < 8 then w.kind == 2 && w.pos == 0
    else s.route.pod != 0xFF && w.kind == 1 && w.port.toNat == i && w.pos.toNat == cubeNeighbour (i - 8) s.route.position.toNat) &&
   !(before.any (fun b => b.wired && cnOf b.cn == cnOf w.cn)) && cnOf w.cn != s.own)

/-- The entries of a map, or the offset of the first bad one. -/
def State.parseWires (s : State) : Nat → List WireEntry → List (List Byte) → Except Nat (List WireEntry)
  | _, acc, [] => .ok acc
  | i, acc, l :: rest =>
    if i < 16 ∧ l.length = 32 ∧ s.wireOk acc i (wireEntry l) then s.parseWires (i + 1) (acc ++ [wireEntry l]) rest else .error (32 * i)

def State.refuseWires (off : Nat) (s : State) : State :=
  let v := BitVec.ofNat 32 off
  ({ s with route := { s.route with wireErr := v, refusals := bump s.route.refusals } }).record (ev3 0x1062 unitSwitch (arg4 v))

def wiringMapWrite (bytes : List Byte) (s : State) : State :=
  if s.job.dev ≠ .standby then s
  else
    match s.parseWires 0 [] (chunksOf 17 32 bytes) with
    | .error off => s.refuseWires off
    | .ok ws =>
      if ws.length < 16 then s.refuseWires (32 * ws.length)
      else ({ s with route := { s.route with wires := Vector.ofFn (fun i => ws.getD i.val {}) } }).refillBanks

/-- WIRING_MAP_WRITE (R264). -/
def execWiringMapWrite (bytes : List Byte) (s : State) : Host.Outcome State Fault Refusal := .next (wiringMapWrite bytes s)

/-! ## The shadow bank (R269) -/

def State.trayCn (s : State) (f : BitVec 5) : Option U32 :=
  if h : f.toNat < 8 then
    let w := s.route.wires[f.toNat]'(by omega)
    if w.wired then some (cnOf w.cn) else none
  else none

def routeEntryAt (c : Nat) (l : List Byte) : RouteEntry :=
  let w := field32 l 0
  { cn := BitVec.ofNat 32 c, prim := w.setWidth 5, alt := (w >>> 5).setWidth 5 }

def State.routeOk (s : State) (e : RouteEntry) : Bool :=
  let port (f : BitVec 5) : Bool := decide (f.toNat < 24)
  let tray (f : BitVec 5) : Bool := !(decide (f.toNat < 8)) || s.trayCn f == some e.cn
  (port e.prim || e.prim == 0x1E || e.prim == 0x1F) && (port e.alt || e.alt == 0x1F) &&
  (if e.cn == s.own then e.prim == 0x1E && e.alt == 0x1F else e.prim != 0x1E) &&
  tray e.prim && tray e.alt &&
  (List.range 8).all (fun p => s.trayCn (BitVec.ofNat 5 p) != some e.cn || e.prim.toNat == p) &&
  (e.prim != e.alt || e.prim == 0x1F)

/-- The listed entries of a bank, or the offset of the first bad one. -/
def State.parseBank (s : State) : Nat → List RouteEntry → List (List Byte) → Except Nat (List RouteEntry)
  | c, acc, [] => if c = bankCns then .ok acc.reverse else .error (4 * c)
  | c, acc, l :: rest =>
    let e := routeEntryAt c l
    if c < bankCns ∧ l.length = 4 ∧ s.routeOk e then
      s.parseBank (c + 1) (if e.prim == 0x1F && e.alt == 0x1F then acc else e :: acc) rest
    else .error (4 * c)

def State.refuseBank (s : State) : State :=
  ({ s with route := { s.route with refusals := bump s.route.refusals } }).record (ev3 0x1060 unitSwitch [])

def shadowBankWrite (bytes : List Byte) (s : State) : State :=
  match s.parseBank 0 [] (chunksOf (bankCns + 1) 4 bytes) with
  | .error off => ({ s with route := { s.route with routeErr := BitVec.ofNat 32 off } }).refuseBank
  | .ok b => { s with route := { s.route with shadow := b } }

/-- SHADOW_BANK_WRITE (R269). -/
def execShadowBankWrite (bytes : List Byte) (s : State) : Host.Outcome State Fault Refusal := .next (shadowBankWrite bytes s)

/-! ## The bank switch (R270, R282, R406) -/

/-- The banks and the substitution tables are swapped; a position that an active entry names leaves the fence list. -/
def State.swapBanks (epoch : U32) (s : State) : State :=
  let r := s.route
  let s := { s with
    route := { r with
      active := r.shadow, shadow := r.active, substActive := r.substShadow, substShadow := r.substActive
      swaps := bump r.swaps, pendingSwitch := none }
    det := { s.det with fenced := s.det.fenced.filter (fun p => !(r.substShadow.any (·.1 == p))) } }
  s.record (ev3 0x1061 unitSwitch (arg4 epoch ++ arg8 (crc64 (bankBytes s.route.active))))

def bankSwitchNow (s : State) : State := if s.job.dev = .standby then s.swapBanks s.job.epoch else s.refuseBank

/-- BANK_SWITCH_NOW (R270): a write of 0 to OD 5200.03. -/
def execBankSwitchNow (s : State) : Host.Outcome State Fault Refusal := .next (bankSwitchNow s)

def bankSwitchPending (v : U32) (s : State) : State :=
  if v == 0 then bankSwitchNow s
  else if (s.job.dev = .opening ∨ s.job.dev = .run) ∧ v.toNat > s.job.epoch.toNat then
    { s with route := { s.route with pendingSwitch := some v } }
  else s.refuseBank

/-- BANK_SWITCH_PENDING (R270). -/
def execBankSwitchPending (v : U32) (s : State) : Host.Outcome State Fault Refusal := .next (bankSwitchPending v s)

/-! ## Substitution (R281) -/

def substOf (l : List Byte) : U32 × U32 := (field32 l 0, field32 l 4)

def State.substOk (s : State) (all before : List (U32 × U32)) (e : U32 × U32) : Bool :=
  !(before.any (·.1 == e.1)) && !(all.any (·.1 == e.2)) && e.1 != s.own &&
  !(e.2 == s.own && before.any (·.2 == s.own)) && decide (e.1.toNat < 131072) && decide (e.2.toNat < 131072)

def State.parseSubst (s : State) (all : List (U32 × U32)) : Nat → List (U32 × U32) → List (List Byte) →
    Except Nat (List (U32 × U32))
  | _, acc, [] => .ok acc
  | i, acc, l :: rest =>
    if i < 64 ∧ l.length = 16 ∧ s.substOk all acc (substOf l) then s.parseSubst all (i + 1) (acc ++ [substOf l]) rest
    else .error (16 * i)

def substitutionTableWrite (bytes : List Byte) (s : State) : State :=
  let ls := chunksOf (bytes.length / 16 + 1) 16 bytes
  match s.parseSubst (ls.map substOf) 0 [] ls with
  | .ok t => { s with route := { s.route with substShadow := t } }
  | .error off =>
    ({ s with route := { s.route with substRefusals := bump s.route.substRefusals, substErr := BitVec.ofNat 32 off } }).record
      (ev3 0x1080 unitSwitch [])

/-- SUBSTITUTION_TABLE_WRITE (R281). -/
def execSubstitutionTableWrite (bytes : List Byte) (s : State) : Host.Outcome State Fault Refusal :=
  .next (substitutionTableWrite bytes s)

/-! ## The pool (R272, R273) -/

/-- A waiting packet whose route names a port. -/
def State.routesBy (s : State) (p : Port) (x : PoolPk) : Bool :=
  let e := s.routeOf (s.substitute x.pk.dst)
  e.prim.toNat == p.val || e.alt.toNat == p.val

/-- A packet of the pool is looked up again when its route names a port. -/
def State.lookAgain (p : Port) (s : State) (x : PoolPk) : State :=
  if s.routesBy p x then s.switchPk x else { s with route := { s.route with pool := s.route.pool ++ [x] } }

def forwardAfterWait (p : Port) (s : State) : State :=
  (s.route.pool.foldl (State.lookAgain p) { s with route := { s.route with pool := [] } }).admitWaiting

/-- FORWARD_AFTER_WAIT (R272): the packets that wait for a port are looked up again. -/
def execForwardAfterWait (p : Port) (s : State) : Host.Outcome State Fault Refusal := .next (forwardAfterWait p s)

/-- The packets of the pool that no port has begun to send: order of entry, output port and cells. -/
def State.poolList (s : State) : List (Nat × Option Port × Nat) :=
  s.route.pool.map (fun x => (x.seq, x.out, x.pk.cellCount)) ++
  (List.finRange 24).flatMap (fun p => (s.port p).queue.filterMap (fun x => x.seq.map (fun n => (n, some p, x.pk.cellCount))))

/-- The packet longest in the pool. -/
def State.oldest (s : State) : Option (Nat × Option Port × Nat) :=
  s.poolList.foldl (fun b x => match b with
    | some y => if x.1 < y.1 then some x else b
    | none => some x) none

/-- A packet leaves the pool by its order of entry: from where it waits, or from the queue of its port. -/
def State.dropPool (n : Nat) (out : Option Port) (s : State) : State :=
  let s := { s with route := { s.route with pool := s.route.pool.filter (fun x => x.seq != n) } }
  match out with
  | some p => s.setPort p (fun q => { q with queue := q.queue.filter (fun x => x.seq != some n) })
  | none => s

def transitExpired (s : State) : State :=
  match s.oldest with
  | none => s
  | some (n, out, cells) =>
    let s := ((s.dropPool n out).freePool cells).admitWaiting
    let rt := { s.route with expiries := bump s.route.expiries }
    let k := (out.map (·.val)).getD 31
    if rt.seenExpired.contains k then { s with route := rt }
    else ({ s with route := { rt with seenExpired := k :: rt.seenExpired } }).record (ev3 0x1052 unitSwitch [])

/-- TRANSIT_EXPIRED (R273): the packet longest in the pool has been there beyond OD 5200.05. -/
def execTransitExpired (s : State) : Host.Outcome State Fault Refusal := .next (transitExpired s)

/-! ## Circuits (R276 to R279) -/

def State.circuit (s : State) (n : Circ) : CircuitSt := s.route.circuits[n]
def State.setCircuit (n : Circ) (c : CircuitSt) (s : State) : State :=
  { s with route := { s.route with circuits := s.route.circuits.set n c } }

def circuitOf (l : List Byte) : CircuitSt :=
  { grant := field32 l 0, jt := field16 l 4, action := byteAt l 6, serial := sliceZ l 8 16, peerPort := byteAt l 24
    kind := byteAt l 25, cn := cnOf (field32 l 28), pod := byteAt l 32 }

/-- Why a circuit entry is refused, in the order of R278: 1 sequence, 2 not the pending prepare, 3 not drained, 4 JT or state,
5 peer kind, 6 reserved field (notes/assumptions/21.md). -/
def State.circuitBad (s : State) (n : Circ) (l : List Byte) : Option Nat :=
  let c := s.circuit n
  let e := circuitOf l
  let d := s.job.dev
  if (e.action == 1 || e.action == 3) && decide (e.grant.toNat ≤ c.lastGrant.toNat) then some 1
  else if e.action == 2 && !(c.action == 1 && c.grant == e.grant) then some 2
  else if e.action == 2 && c.state != 1 then some 3
  else if (e.jt != 0 && e.jt != s.job.jt) || d == .resigning || d == .safe || d == .exerciser then some 4
  else if e.kind != 1 && e.kind != 3 then some 5
  else if l.length != 64 || byteAt l 7 != 0 || field16 l 26 != 0 || (l.drop 33).any (· != 0) ||
      decide (e.action.toNat < 1) || decide (e.action.toNat > 3) then some 6
  else none

def State.refuseCircuit (n : Circ) (g : U32) (why : Nat) (s : State) : State :=
  let p := portOfCirc n
  ({ s with route := { s.route with circRefusals := bump s.route.circRefusals } }).record
    (ev3 0x1070 (unitPort p) (arg1 p.val ++ arg4 g ++ arg1 why))

/-- A port begins to drain: packets not yet started wait in the pool for the port, and a training in progress is abandoned. -/
def State.beginDrain (n : Circ) (s : State) : State :=
  let p := portOfCirc n
  let back := (s.port p).queue.filterMap (fun x => x.seq.map (fun k => (⟨x.from_, x.vc, x.pk, k, some p⟩ : PoolPk)))
  let s := s.setPort p (fun q => { q with queue := q.queue.filter (fun x => x.seq.isNone), trainStep := 0, identIn := none })
  { s with route := { s.route with pool := s.route.pool ++ back } }

/-- A circuit-entry write: refused, repeated as the other plane's copy of one already accepted for the sequence, or carried out
(R277, R278). -/
def State.circuitWrite (n : Circ) (bytes : List Byte) (go : CircuitSt → State → State) (s : State) : State :=
  let c := s.circuit n
  if c.accepted.contains bytes then s
  else
    match s.circuitBad n bytes with
    | some why => s.refuseCircuit n (field32 bytes 0) why
    | none =>
      let e := circuitOf bytes
      let before := if e.grant == c.grant then c.accepted else []
      go { e with raw := bytes, accepted := before ++ [bytes], state := c.state, lastGrant := c.lastGrant } s

def circuitPrepare (n : Circ) (bytes : List Byte) (s : State) : State :=
  if byteAt bytes 6 != 1 then s
  else s.circuitWrite n bytes (fun c s => (s.setCircuit n { c with state := 3, lastGrant := c.grant, draining := true }).beginDrain n)

/-- CIRCUIT_PREPARE (R276, R277 steps 1 and 2): a write of a circuit entry with action 0x01. -/
def execCircuitPrepare (n : Circ) (bytes : List Byte) (s : State) : Host.Outcome State Fault Refusal :=
  .next (circuitPrepare n bytes s)

def circuitSwitched (n : Circ) (bytes : List Byte) (s : State) : State :=
  if byteAt bytes 6 != 2 then s
  else s.circuitWrite n bytes (fun c s =>
    let s := s.setCircuit n { c with state := 4 }
    ({ s with route := { s.route with changes := bump s.route.changes } }).portAction (portOfCirc n) false)

/-- CIRCUIT_SWITCHED (R277 steps 4 and 5): action 0x02. -/
def execCircuitSwitched (n : Circ) (bytes : List Byte) (s : State) : Host.Outcome State Fault Refusal :=
  .next (circuitSwitched n bytes s)

def circuitRelease (n : Circ) (bytes : List Byte) (s : State) : State :=
  if byteAt bytes 6 != 3 then s
  else s.circuitWrite n bytes (fun c s =>
    (s.setCircuit n { c with lastGrant := c.grant, draining := true, releasing := true }).beginDrain n)

/-- CIRCUIT_RELEASE (R277): action 0x03. -/
def execCircuitRelease (n : Circ) (bytes : List Byte) (s : State) : Host.Outcome State Fault Refusal :=
  .next (circuitRelease n bytes s)

/-- The drain of a circuit port is over (R277): drained, or, for a release, disabled with the peer fields cleared. -/
def State.endDrain (n : Circ) (s : State) : State :=
  let c := s.circuit n
  if c.releasing then
    let s := s.setPort (portOfCirc n) (fun q => { q with st := .disabled, trainStep := 0 })
    (s.setCircuit n { grant := c.grant, jt := c.jt, action := c.action, lastGrant := c.lastGrant, accepted := c.accepted
                      raw := padTo 64 (le32 c.grant ++ le16 c.jt ++ [c.action]) }).record
      (ev3 0x1073 unitSwitch [])
  else s.setCircuit n { c with draining := false, state := 1 }

def circuitDrained (n : Circ) (s : State) : State :=
  let q := s.port (portOfCirc n)
  if (s.circuit n).draining && q.sentFrames.isEmpty && q.outCells.isEmpty then s.endDrain n else s

/-- CIRCUIT_DRAINED (R277 step 2): every DATA frame of the port is acknowledged. -/
def execCircuitDrained (n : Circ) (s : State) : Host.Outcome State Fault Refusal := .next (circuitDrained n s)

def circuitDrainTimeout (n : Circ) (s : State) : State :=
  if (s.circuit n).draining then
    let p := portOfCirc n
    let left := BitVec.ofNat 32 (s.port p).sentFrames.length
    let s := { s with route := { s.route with drainTimeouts := bump s.route.drainTimeouts } }
    (s.record (ev3 0x1072 (unitPort p) (arg1 p.val ++ arg4 left))).endDrain n
  else s

/-- CIRCUIT_DRAIN_TIMEOUT (R277): OD 5300.0A has passed since the prepare. -/
def execCircuitDrainTimeout (n : Circ) (s : State) : Host.Outcome State Fault Refusal := .next (circuitDrainTimeout n s)

end Sys2Proof.Machine
end

