-- ==== Sys2Proof/Machine/PhaseOps.lean ====
section
/-! DEFINITION. How a phase of the opening or the restore ends (R369 to R384): its own part, its outcome at the root, and the COMMIT. -/
namespace Sys2Proof.Machine
open Sys2Proof

/-! ## The end of step activity (R27, R96, R140, R167, R187, R341) -/

/-- The windows of the pipelines that no page holds are written back, oldest first. -/
def State.finishRound (s : State) : State :=
  (List.finRange 8).foldl (fun s p => ((s.upd.pipes[p]).queue).foldl (fun s _ => windowWriteback p s) s) s

/-- Blocks in progress finish, their waits for pages under COPY included (R27, R341). A page that a sealed cut holds before its COPY
has begun holds its window still (notes/assumptions/76.md). -/
def State.finishPipes (s : State) : State :=
  let n := (s.upd.pipes.toList.map (fun q => q.queue.length)).sum
  (List.range n).foldl (fun s _ =>
    let s := s.finishRound
    s.upd.touchWait.foldl (fun s a => s.copyPage a.toNat) s) s |>.finishRound

/-- Step activity ends, as at an epoch fence or a global stop, once the blocks in progress have finished; a pending step is
abandoned. Pages of the cuts abandoned with it hold no window back. -/
def State.endActivity (newEpoch : U32) (s : State) : State :=
  let s := s.finishPipes
  let s := if s.fence.pending then
      ({ s with fence := { s.fence with pending := false, status := 3, stepsFailed := s.fence.stepsFailed + 1 } }).record
        (ev3 0x2103 unitCC (arg4 s.job.epoch ++ arg4 newEpoch))
    else s
  let keep (k : U32) : Bool := decide (k.toNat ≤ s.fence.sealedStep.toNat)
  let s := { s with fence := { s.fence with
    accepted := s.fence.accepted.filter (fun x => keep x.1), discarded := s.fence.discarded.filter (fun x => keep x.1)
    reports := s.fence.reports.filter (fun r => keep r.step) } }
  ((s.discardWindows.closePasses (fun _ => true)).abandonCuts (fun c => !c.sealedMove) 0x2103).finishPipes.dropUncommittedPartner

/-- What the device still holds of steps above a step that is to run again (R372, R379). -/
def State.forgetAbove (step : U32) (s : State) : State :=
  let keep (k : U32) : Bool := decide (k.toNat ≤ step.toNat)
  { s with
    red := { s.red with
      windows := s.red.windows.filter (fun w => keep w.step)
      parked := s.red.parked.filter (fun p => keep p.win.step)
      done := s.red.done.filter (fun d => keep d.step)
      acked := s.red.acked.filter (fun a => keep a.2.2)
      raised := s.red.raised.filter (fun x => keep x.1.2.2)
      scalars := s.red.scalars.filter (fun x => keep x.step)
      sums := s.red.sums.filter (fun x => keep x.step)
      anchorIn := s.red.anchorIn.filter (fun x => keep x.1)
      resultsAt := s.red.resultsAt.filter (fun x => keep x.2.1)
      badFirst := s.red.badFirst.filter (fun x => keep x.2.2)
      agentAnchor := s.red.agentAnchor.filter (fun x => keep x.2)
      mism := s.red.mism.filter (fun x => keep x.1.2.2.1)
      parkFullStep := s.red.parkFullStep.filter keep
      opened := none, anchorLate := none }
    upd := { s.upd with
      disp := s.upd.disp.filter (fun d => keep d.step)
      noSize := s.upd.noSize.filter (fun d => keep d.step)
      heldArea := s.upd.heldArea.filter (fun h => keep h.step)
      written := s.upd.written.filter (fun x => keep x.2.2)
      latches := s.upd.latches.filter (fun l => l.1 == step + 1), stepTouches := 0 }
    str := { s.str with startedFor := s.str.startedFor.filter (fun x => keep x.2) }
    fence := { s.fence with
      accepted := s.fence.accepted.filter (fun x => keep x.1), discarded := s.fence.discarded.filter (fun x => keep x.1)
      reports := s.fence.reports.filter (fun r => keep r.step), kidMoves := s.fence.kidMoves.filter (fun k => keep k.2.1)
      rootSealed := s.fence.rootSealed.filter keep, pending := false, failedStep := none }
    part := { s.part with
      wrote := s.part.wrote.filter (fun x => keep x.2.1), terms := s.part.terms.filter (fun d => keep d.step)
      ackedSteps := s.part.ackedSteps.filter (fun x => keep x.2) } }

/-! ## Anchors at the opening and the restore (R73, R74, R379) -/

/-- The anchors of the segments are installed for the step after a step. -/
def State.installSegs (step : U32) (n : U16) (s : State) : State :=
  let v := s.segVector n.toNat
  let old := s.job.vectors.filter (fun x => decide (x.1.toNat < step.toNat))
  { s with
    upd := { s.upd with table := s.upd.table.map (setAnchor v) }
    red := { s.red with anchorStep := step + 1, segments := n }
    job := { s.job with vectors := (old ++ [(step, v)]).drop ((old.length + 1) - 64) } }

/-- Both blocks of every C pair of an owner entry are written from one of them (R190). -/
def State.levelPairs (pick : TensorEntry → Nat → State → Nat) (step : U32) (e : TensorEntry) (s : State) : State :=
  if !e.has .c then s
  else
    (List.range (e.blocks .c)).foldl (fun s b =>
      let src := e.blockOff .c b (pick e b s)
      match tierOf src with
      | none => s
      | some t =>
        let (x, s) := s.readBlock unitCont t src
        let put (k : Nat) (s : State) : State :=
          let off := e.blockOff .c b k
          let h := { x.hdr with step := step, jt := s.job.jt, epoch := s.job.epoch, src := s.own, dst := s.own
                                offset := BitVec.ofNat 64 off }
          s.writeCarried t off ⟨if x.poison then h.setPoison else h, x.pay⟩
        put 1 (put 0 s)) s

/-! ## COMMIT (R372, R384) -/

/-- The points and the chain begin again at an opening or a restore (R316). -/
def AdjState.restart (a : AdjState) : AdjState := { a with fullSeen := false, chainSince := 0, chainBroken := false }

/-- The COMMIT of a fresh opening. -/
def State.commitFresh (d : Descr) (s : State) : State :=
  let before := d.start - 1
  let s := s.owned.foldl (fun s e => s.levelPairs (fun _ _ _ => 0) before e) s
  let s := { s with
    upd := { s.upd with
      table := s.upd.table.map (fun (e : TensorEntry) => { e with
        t := e.initT, l := before, prevT := e.initT, prevL := before, p := none, status := .idle })
      written := [] }
    red := { s.red with inputs := Vector.replicate 16 0, parkForce := s.red.parkMiB, resultsAt := [] }
    str := { s.str with startedFor := [] }
    part := { s.part with depthNow := s.part.logDepth }
    adj := (s.adj.restart)
    fence := { s.fence with
      cur := d.start, sealedStep := before, committed := before, status := 0, stepsSealed := 0, stepsFailed := 0 }
    job := { s.job with opened := bump s.job.opened, ahead := [], stepStopped := false } }
  let s := ((s.forgetAbove before).installSegs before d.segments).setDev .run
  (s.setOpenStatus 5).startLatched

/-- The COMMIT of a restore: T + 1 is the last re-run step, and the spare enters RUN. -/
def State.commitRestore (target : U32) (s : State) : State :=
  let s := { s with
    job := { s.job with rerun := target + 1, restored := bump s.job.restored, stepStopped := false }
    red := { s.red with parkForce := s.red.parkMiB }
    part := { s.part with depthNow := s.part.logDepth }
    adj := s.adj.restart }
  let s := if s.job.dev == .opening then (s.setDev .run).setOpenStatus 5 else s
  (s.setRestStatus 5).startLatched

def State.runCommit (s : State) : State :=
  match s.job.descr with
  | some d => if d.mode == 1 then s.commitFresh d else s.commitRestore d.start
  | none => s

/-- The COMMIT of the root (R371): it goes down the tree and takes effect here. -/
def State.commitPhase (s : State) : State :=
  let code := match s.job.descr with | some d => if d.mode == 1 then 0x2903 else 0x2915 | none => 0x2903
  let s := s.record (ev3 code unitCC [])
  ((s.beginPhase .commit none (s.phaseTrans .commit 0 0 [])).runCommit).setOwn none

/-! ## Outcomes at the root (R371) -/

/-- The device state of a phase that did not end ready. -/
def State.phaseFailed (p : PhaseSt) (s : State) : State := if p.phase = .survey ∨ p.phase = .install then s.setRestStatus 4 else s

/-- A refusal, or missing members: nothing commits. -/
def State.rootRefused (p : PhaseSt) (reason : U8) (cn : U32) (s : State) : State :=
  let s := { s with job := { s.job with refusal := some (reason, p.phase.code, cn) } }
  ((s.setOpenStatus 4).phaseFailed p).openRefused reason p.phase.code cn
def State.rootMissing (p : PhaseSt) (s : State) : State :=
  let s := { s with job := { s.job with missing := p.missing.take 1024 } }
  (s.setOpenStatus 6).record (ev3 0x2906 unitCC (arg4 p.seq ++ [p.phase.code] ++ arg4 p.missCount))

/-- The root's decision on a phase that is settled; go is what follows when every member is ready. -/
def State.rootDecide (p : PhaseSt) (go : State → State) (s : State) : State :=
  let s := s.setPhase { p with acked := true }
  match p.refused with
  | some (r, cn) => s.rootRefused p r cn
  | none => if p.missCount != 0 || decide (p.readyCount.toNat < s.job.members.toNat) then s.rootMissing p else go s

/-- A COMMIT that every member has acknowledged ends the sequence; a member answers it upward. -/
def State.settleCommit (s : State) : State :=
  match s.job.phase with
  | none => s
  | some p =>
    if !p.settled then s
    else match p.sender with
      | some d => s.ackUp p d
      | none => s.rootDecide p (fun s => s)

/-- The statuses of a member as its answer leaves (R390). -/
def State.answered (p : PhaseSt) (s : State) : State :=
  let ok := p.refused.isNone
  match p.phase with
  | .prepare => s.setOpenStatus (if ok then 3 else 4)
  | .install => s.setRestStatus (if ok then 3 else 4)
  | _ => s

/-- PREPARE or INSTALL is settled: the member answers; the root commits. -/
def State.settleReady (s : State) : State :=
  match s.job.phase with
  | none => s
  | some p =>
    if !p.settled then s
    else match p.sender with
      | some d => (s.ackUp p d).answered p
      | none =>
        s.rootDecide p (fun s =>
          let s := if p.phase = .prepare then s.setOpenStatus 3 else s.setRestStatus 3
          s.commitPhase.settleCommit)

/-! ## INSTALL (R377 to R380) -/

/-- H of the descriptor (R380). -/
def State.skipsTo (s : State) (target : U32) : U32 := BitVec.ofNat 32 (s.skipsIn s.job.baseStep target)

def State.restoreDescr (s : State) (target : U32) (v : List (U32 × Int)) : Descr :=
  let n := s.red.segments
  { mode := 2, usv := s.upd.semVersion, visa := s.vec.isaVersion, segments := n, start := target, members := s.job.members
    digest := s.configDigest, anchorCrc := crc64 ((List.range n.toNat).flatMap (anchorBytes v)), skips := s.skipsTo target }

/-- The member's own part of INSTALL: checks 0x02 to 0x05, then every shard. -/
def State.runInstall (s : State) : State :=
  let s := s.setRestStatus 2
  match s.job.descr with
  | none => s.setOwn (some 5)
  | some d =>
    match s.descrCheck d with
    | some r => s.setOwn (some r)
    | none =>
      let (ok, s) := s.installShards
      if ok then s else s.setOwn (some 9)

/-- The vector's segments, as the root holds and sends them. -/
def segsOfVector (n : Nat) (v : List (U32 × Int)) : List (U16 × List U16) :=
  (List.range n).map (fun q => (BitVec.ofNat 16 q, (List.range 2048).map (fun j => field16 (anchorBytes v q) (2 * j))))

/-- The root sends ANCHORS and INSTALL for T (R373, R377). -/
def State.sendInstall (base target : U32) (v : List (U32 × Int)) (s : State) : State :=
  let d := s.restoreDescr target v
  let s := { s with job := { s.job with
    base := base, target := target, descr := some d, segs := segsOfVector d.segments.toNat v, segSeq := s.job.seq } }
  let s := s.children.foldl (fun s c => s.sendSegs c) s
  ((s.beginPhase .install none (s.phaseTrans .install target base d.bytes)).runInstall).settleReady

/-- The root holds no anchor vector for T: commands 2 and 4 are refused (R377). -/
def State.noVector (cmd : U8) (s : State) : State :=
  ({ s with job := { s.job with refusals := bump s.job.refusals } }).openRefused 9 cmd s.adopted

/-- The lowest set bit of a mask. -/
def lowestBit (m : U64) : Option Nat := (List.range 64).find? (fun i => m.getLsbD i)

/-- The root's target from the folded mask (R377). -/
def State.chooseTarget (mask : U64) (s : State) : State :=
  let base := s.job.base
  match lowestBit mask with
  | none => (s.setRestStatus 4).record (ev3 0x2911 unitCC (arg4 base))
  | some i =>
    let target := base - BitVec.ofNat 32 i
    match s.vectorAt target with
    | none => (s.noVector 2).setRestStatus 4
    | some v =>
      let s := { s with job := { s.job with target := target } }
      (s.record (ev3 0x2910 unitCC (arg4 base ++ arg8 mask ++ arg4 target))).sendInstall base target v

/-- SURVEY is settled: the member answers; the root chooses T. -/
def State.settleSurvey (s : State) : State :=
  match s.job.phase with
  | none => s
  | some p =>
    if !p.settled then s
    else match p.sender with
      | some d => s.ackUp p d
      | none => s.rootDecide p (fun s => s.chooseTarget p.mask)

/-- The phase in progress, settled once its own part and every child have answered. -/
def State.settle (s : State) : State :=
  match s.job.phase with
  | none => s
  | some p =>
    match p.phase with
    | .survey => s.settleSurvey
    | .prepare => s.settleReady
    | .install => s.settleReady
    | _ => s.settleCommit

/-! ## SURVEY (R375, R376) -/

/-- The reach mask of the position, once REACH packets and image heads have come or are given up. -/
def State.finishSurvey (s : State) : State :=
  let base := s.job.base
  let (m, s) := s.owned.foldl (fun (acc : U64 × State) e =>
    let (v, s) := acc.2.shardMask base e
    (acc.1 &&& v, s)) (BitVec.allOnes 64, s)
  let s := { s with job := { s.job with reach := m } }
  match s.job.phase with
  | some p => (s.setPhase { p with mask := p.mask &&& m }).setOwn none
  | none => s

def State.surveying (s : State) : Bool := s.job.phase.any (fun p => p.phase == .survey && p.own.isNone)
def State.surveyDue (s : State) : Bool := !s.reachDue.isEmpty || s.job.gets.any (fun g => g.survey && !g.done)
def State.trySurvey (s : State) : State := if s.surveying && !s.surveyDue then s.finishSurvey else s

/-- The member's own part of SURVEY begins. -/
def State.runSurvey (base : U32) (s : State) : State :=
  let s := s.setRestStatus 1
  let s := if s.job.dev == .run then s.endActivity s.job.epoch else s
  let s := { s with job := { s.job with base := base, stepStopped := true, reachIn := [], gets := [] } }
  let s := s.sendReaches base
  let heads := s.job.tierS.zipIdx.flatMap (fun (c, k) => c.map (fun o => (o, k)))
  let s := heads.foldl (fun s x => s.startGet { obj := x.1, chain := x.2, survey := true }) s
  s.trySurvey

/-! ## INSTALL_COMPLETE (R379, R384) -/

/-- The steps of the partner side return to T. -/
def MirrorCtr.back (target : U32) (m : MirrorCtr) : MirrorCtr :=
  if m.l.toNat > target.toNat then { m with l := target, t := m.t - 1 } else m
def TensorEntry.back (target : U32) (e : TensorEntry) : TensorEntry :=
  if e.role == 2 && decide (e.l.toNat > target.toNat) then { e with l := target, t := e.prevT, p := none } else e

/-- The ahead windows of a copy that is kept go to the partner (R384). -/
def State.sendAhead (e : TensorEntry) (s : State) : State :=
  if !(s.paired && (e.pclass == 1 || e.pclass == 2)) || s.part.toSync.contains e.ts then s
  else
    (s.job.ahead.filter (·.1 == e.ts)).foldl (fun s x =>
      (s.copyBlocks e x.2.toNat).foldl (fun s b =>
        let s := s.sendMirror (s.lastOff e b.1 b.2)
        { s with job := { s.job with aheadSent := bump s.job.aheadSent } }) s) s

/-- What follows the installation of a shard, by its source. -/
def State.finishShard (target : U32) (x : TensorEntry × (U8 × U16 × U32)) (s : State) : State :=
  let e := x.1
  let order := x.2.1
  let later (s : State) : State := { s with part := { s.part with
    toSync := if s.part.toSync.contains e.ts || e.pclass == 3 then s.part.toSync else s.part.toSync ++ [e.ts] } }
  if order == 1 then s.sendAhead e
  else if order == 2 then
    if s.isSpare then { s with part := { s.part with toSync := s.part.toSync.filter (· != e.ts) } } else s
  else
    let s := s.levelPairs (fun e b s => (s.pairPick e target b).getD 0) target e
    let s := if order == 4 then s.setEntry e.ts 1 (fun f => { f with t := s.tierT f target }) else s
    later s

def State.completeInstall (s : State) : State :=
  let target := s.job.target
  let s := (s.owned.zip s.job.sources).foldl (fun s x => s.finishShard target x) s
  let n := match s.job.descr with | some d => d.segments | none => s.red.segments
  let s := s.abandonCuts (fun c => decide (c.step.toNat > target.toNat)) 0x2103
  let s := (s.forgetAbove target).installSegs target n
  let keep (k : U32) : Bool := decide (k.toNat ≤ target.toNat)
  { s with
    upd := { s.upd with table := s.upd.table.map (TensorEntry.back target) }
    fence := { s.fence with cur := target + 1, sealedStep := target, committed := target }
    part := { s.part with
      logSlots := s.part.logSlots.filter (fun l => keep l.step), logRecs := s.part.logRecs.filter (fun r => keep r.step)
      loggedBlks := s.part.loggedBlks.filter (fun b => keep b.2.1), replicas := s.part.replicas.filter (fun r => keep r.step) }
    adj := { s.adj with points := s.adj.points.map (fun p => if p.jt == s.job.jt && !keep p.step then { p with readOnly := true } else p) }
    job := { s.job with mirrors := s.job.mirrors.map (MirrorCtr.back target), rolls := [], gets := [] } }

/-- Every shard stands at T. -/
def State.installDone (s : State) : Bool :=
  s.job.pulls.isEmpty && s.job.gets.all (·.done) && s.owned.all (fun e => e.l == s.job.target)
def State.installFailed (s : State) : Bool := s.job.rolls.any (·.failed) || s.job.gets.any (·.failed)

/-! ## Resignation (R387 to R389) -/

/-- Circuit entries with the job's JT begin to drain for release (R387 step 3, R277). -/
def State.releaseCircuits (s : State) : State :=
  (List.finRange 8).foldl (fun s n =>
    let c := s.circuit n
    if c.jt == s.job.jt && c.jt != 0 && !c.releasing then
      (s.setCircuit n { c with draining := true, releasing := true }).beginDrain n
    else s) s

/-- Every cut is abandoned; the chunk being programmed and those of its point go with it (R337, R387). -/
def State.abandonAll (s : State) : State :=
  let coding := s.adj.queue.find? (fun c => c.phase == .code)
  let copying := s.adj.queue.any (fun c => c.phase == .copy)
  let s := s.abandonCuts (fun _ => true) 0x2920
  let s := if copying then s.resumeDevice else s
  let s := match coding with
    | some c => { s with adj := { s.adj with
        chunks := s.adj.chunks.filter (fun k => k.seq != c.seq), free := s.adj.free + BitVec.ofNat 64 c.length } }
    | none => s
  if s.adj.chunkBusy.isSome then
    ({ s with adj := { s.adj with chunkBusy := none } } : State).release s.adj.chunkCost
  else s

/-- Steps 1 to 3 of a resignation. -/
def State.startResign (s : State) : State :=
  let s := s.setDev .resigning
  let s := (s.endActivity s.job.epoch).abandonAll
  let n := (s.adj.pushes.filter (fun p => p.jt == s.job.jt)).length
  let s := if n = 0 then s
    else ({ s with adj := { s.adj with
        pushes := s.adj.pushes.filter (fun p => p.jt != s.job.jt), pushAbandoned := bumpBy s.adj.pushAbandoned n } }).record
      (ev3 0x3224 unitCont [])
  let bytes := ((s.adj.points.filter (fun p => p.jt == s.job.jt)).map (·.len.toNat)).sum
  let s := s.freePoints (fun p => p.jt == s.job.jt)
  let s := { s with job := { s.job with
    resignStatus := 1, phase := none
    resign := { circuitsReleased := true, pointsFreed := true, pushesAbandoned := true, nBytes := bytes } } }
  s.releaseCircuits

end Sys2Proof.Machine
end

