-- ==== Sys2Proof/Machine/EpochOps.lean ====
section
/-! DEFINITION. The fence list (R401, R402), the declaration of a fenced position (R398, R400), and the install of an epoch with its
acknowledgement (R406). -/
namespace Sys2Proof.Machine
open Sys2Proof

/-- OD 2000.03. The manual gives OFF no code; 0 stands for it and is never read. -/
def DevState.code : DevState → U8
  | .off => 0 | .boot => 1 | .standby => 2 | .opening => 3 | .run => 4 | .fenced => 5 | .resigning => 6 | .exerciser => 7 | .safe => 8

def epSUSPECT : U8 := 1
def epDECLARE : U8 := 2
def epINSTALL : U8 := 3
def epINSTALLED : U8 := 4

/-- Members of the job (R364). -/
def State.isMember (s : State) (pos : U32) : Bool := s.job.tree.any (·.1 == pos)
/-- OD 4000.01 (R397). -/
def State.arbiterRole (s : State) : U8 :=
  if s.job.tree.isEmpty then 0
  else if s.root == some s.adopted then 1
  else if s.det.deputy.getLsbD 31 && cnOf s.det.deputy == s.adopted then 2
  else 0

/-- A discard or refusal of the detector, OD 4000.27. -/
def State.detRefuse (s : State) : State := { s with det := { s.det with refusals := bump s.det.refusals } }

/-! ## Fencing a position (R401, R402) -/

/-- Every port whose expected peer is the position is disabled (R401 step 2). -/
def State.disableToward (pos : U32) (s : State) : State :=
  (List.finRange 24).foldl (fun s p =>
    if s.peerPosition p == some pos then
      s.setPort p (fun q => { q with st := .disabled, trainStep := 0, fencedOff := true })
    else s) s

/-- Another position is fenced (R401). -/
def State.fencePosition (pos : U32) (cause : U8) (s : State) : State :=
  let s := { s with det := { s.det with fenced := s.det.fenced ++ [pos], fencedCount := bump s.det.fencedCount } }
  let s := s.disableToward pos
  let s := if s.part.named && s.part.partner == pos then
      ({ s with part := { s.part with pair := .refused } } : State).noteNoPartner else s
  s.record (ev3 0x4003 unitFault (arg4 pos ++ [cause]))

/-- FENCED is entered, and the position and epoch kept in which the device may not join again (R11). -/
def State.enterFenced (s : State) : State :=
  ({ s with job := { s.job with fencedAs := some (s.job.jt, s.job.epoch, s.adopted) } }).setDev .fenced
/-- The own position is declared (R402). -/
def State.selfFence (s : State) : State := (s.record (ev3 0x4004 unitFault [])).enterFenced

/-! ## DECLARE (R400) -/

/-- The nearest live members below a list of positions: fenced ones are passed over and their children adopted (R369, R400). -/
def State.liveBelow (s : State) (gone : List U32) : Nat → List U32 → List U32
  | 0, l => l.filter (fun c => !gone.contains c)
  | n + 1, l => l.flatMap (fun c => if gone.contains c then s.liveBelow gone n (s.childrenOf c) else [c])

def declareA (pos : U32) (cause : U8) (by_ : U32) : List Byte := [2, 0, 0] ++ le32 pos ++ [cause, 0, 0, 0] ++ le32 by_

/-- A DECLARE goes on to the children. -/
def State.passDeclare (pos : U32) (cause : U8) (by_ : U32) (s : State) : State :=
  (s.liveBelow (pos :: s.det.fenced) 64 s.children).foldl
    (fun s c => s.sendFence c 0 5 (declareA pos cause by_) [] [] []) s

/-- Where a declaration enters the tree: at the root, or, when the root is fenced or is the position, at its children. -/
def State.declareTop (s : State) (pos : U32) : List U32 :=
  s.liveBelow (pos :: s.det.fenced) 64 s.root.toList

/-- A flag fall (R398): the count, event 0x4002 with its alarm, and the DECLAREs; the arbiter fences the position itself. -/
def State.flagFall (pos : U32) (cause : U8) (watchers : Nat) (s : State) : State :=
  let s := { s with det := { s.det with
    flagFalls := bump s.det.flagFalls, records := s.det.records.filter (fun r => r.pos != pos) } }
  let s := s.record (ev1 0x4002 unitFault (arg4 pos ++ [cause] ++ arg4 (BitVec.ofNat 32 watchers)))
  let tops := s.declareTop pos
  let s := if tops.contains s.adopted then s.passDeclare pos cause s.adopted
    else tops.foldl (fun s c => s.sendFence c 0 5 (declareA pos cause s.adopted) [] [] []) s
  let s := s.sendFence pos 0 5 (declareA pos cause s.adopted) [] [] []
  if pos == s.adopted then s.selfFence
  else if s.det.fenced.contains pos then s
  else s.fencePosition pos cause

/-! ## INSTALLED (R406, R369) -/

/-- INSTALLED goes up and is kept, or the root's fence is complete. -/
def State.settleInstall (s : State) : State :=
  match s.det.install with
  | none => s
  | some i =>
    if !i.expect.isEmpty then s
    else
      let s := { s with det := { s.det with install := none } }
      match i.sender with
      | none =>
        let s := { s with det := { s.det with fenceStatus := if i.missCount == 0 then 2 else 6 } }
        if i.missCount == 0 then s else { s with job := { s.job with missing := i.missing.take 1024 } }
      | some up =>
        let a := [5, epINSTALLED, 0, 0] ++ le32 i.epoch ++ le32 i.folded ++ le32 i.missCount
        let t := s.mkTrans opFENCE up 0 a [] [] ((i.missing.take 1024).flatMap le32)
        let s := s.sendFence up 0 5 (a.drop 1) [] [] t.body
        { s with det := { s.det with lastInstalled := some t } }

def installA (e : U32) (l : List U32) : List Byte := [epINSTALL, 0, 0] ++ le32 e ++ leBytes 2 (min 256 l.length)
def installBody (l : List U32) : List Byte := (l.take 256).flatMap le32
def State.sendInstallTo (dst : U32) (e : U32) (l : List U32) (s : State) : State :=
  s.sendFence dst 0 5 (installA e l) [] [] (installBody l)

/-- A child's INSTALLED is overdue: its children are adopted (R369, R406). -/
def State.installChildMissing (cn : U32) (s : State) : State :=
  match s.det.install with
  | none => s
  | some i =>
    if !(i.expect.contains cn) then s
    else
      let kids := (s.childrenOf cn).filter (fun c => !(i.expect.contains c || i.ready.contains c))
      let s := { s with
        det := { s.det with install := some { i with
          expect := i.expect.filter (· != cn) ++ kids, missing := i.missing ++ [cn], missCount := i.missCount + 1 } }
        job := { s.job with adoptions := bump s.job.adoptions } }
      let s := s.record (ev3 0x2902 unitCC (arg4 cn ++ arg4 i.epoch))
      (kids.foldl (fun s c => s.sendInstallTo c i.epoch i.list) s).settleInstall

/-! ## The install of an epoch (R406, R270) -/

/-- The fence list of an INSTALL is merged (R406 step 1). The packet gives no cause; the one recorded is free. -/
def State.mergeFences (l : List U32) (s : State) : State :=
  l.foldl (fun s p => if p == s.adopted || s.det.fenced.contains p then s
    else s.fencePosition p (Config.causeCode 0x4003)) s

/-- A spare took the partner's position: the pairing is repeated (R386). -/
def State.rePair (old : List (U32 × U32)) (s : State) : State :=
  if s.part.named && s.route.substActive.any (fun e => e.1 == s.part.partner && !(old.contains e)) then
    ({ s with part := { s.part.unpair with pair := .requesting } } : State).sendPairReq
  else s

/-- What the manual notes once per epoch begins again. -/
def State.clearPerEpoch (s : State) : State :=
  { s with
    route := { s.route with seenUnreach := [], seenUturn := false, seenExpired := [], seenJt := [] }
    part := { s.part with seenSrc := [], seenShard := [] }
    det := { s.det with sentFor := [] }
    fence := { s.fence with failedStep := none } }

/-- The routing banks and the substitution tables swap where a switch is due; held tree records take effect (R270, R80). -/
def State.swapAtEpoch (e : U32) (s : State) : State :=
  let s := match s.route.pendingSwitch with
    | some v => if v.toNat ≤ e.toNat then s.swapBanks e else s
    | none => s
  match s.red.held with
  | some t =>
    let old := s.red.trees
    let moved (ts : U32) : Bool := old.find? (·.ts == ts) != t.find? (·.ts == ts)
    { s with
      red := { s.red with trees := t, held := none }
      -- a quarantine ends where the fence reassigns the shard (R126)
      upd := { s.upd with table := s.upd.table.map (fun e =>
        if e.role == 1 && e.status == .quarantined && moved e.ts then { e with status := .idle } else e) } }
  | none => s

/-- Epoch E is installed: the list merged, the banks swapped, E adopted and step activity ended; INSTALL goes on (R406). -/
def State.installEpoch (e : U32) (l : List U32) (sender : Option U32) (s : State) : State :=
  let s := s.mergeFences l
  let n := s.det.fenced.length
  let old := s.job.epoch
  let subst := s.route.substActive
  let s := (s.swapAtEpoch e).endActivity e
  let s := { s with job := { s.job with epoch := e } }
  let s := ((s.clearPerEpoch.applyHeldPartner).rePair subst).retireAtEpoch
  let kids := s.children
  let s := kids.foldl (fun s c => s.sendInstallTo c e l) s
  let s := s.agents.foldl (fun s a => s.sendInstallTo a.2 e l) s
  let s := { s with det := { s.det with
    installs := bump s.det.installs, install := some { epoch := e, list := l, expect := kids, sender := sender } } }
  let s := (s.record (ev3 0x4007 unitFault (arg4 e ++ arg4 old ++ arg2 n))).raiseIrq 6
  s.settleInstall

end Sys2Proof.Machine
end

