-- ==== Sys2Proof/Machine/Jobs.lean ====
section
/-! DEFINITION. The commands of claims, openings, restores and resignations (R361 to R392). -/
namespace Sys2Proof.Machine
open Sys2Proof

/-! ## Claims (R362, R363) -/

/-- The tags of the job data that the device holds (R363). -/
def State.heldTags (s : State) : List U16 :=
  ((s.mem.regions.map (·.jt)) ++ (s.adj.points.map (·.jt)) ++ (s.fence.mramMoves.map (·.jt))).filter (· != 0)

/-- A claim is refused: reason 1 state, 2 not clean, 3 field value, and the tag of the job data held (R558). -/
def State.refuseClaim (jt : U16) (why : Nat) (held : U16) (s : State) : State :=
  ({ s with job := { s.job with refusals := bump s.job.refusals } }).record (ev3 0x2900 unitCC (le16 jt ++ arg1 why ++ le16 held))

def claimFieldsOk (l : List Byte) : Bool :=
  l.length == 24 && field16 l 0 != 0 && field16 l 2 == 0 && field32 l 4 != 0 && field32 l 20 == 0 &&
  decide (1 ≤ (field32 l 12).toNat) && decide ((field32 l 12).toNat ≤ 12288)

/-- The work of an earlier sequence is dropped (R370). -/
def JobState.fresh (seq : U32) (j : JobState) : JobState :=
  { j with
    seq := seq, phase := none, waitInstall := none, lastAck := none, lastPhase := none, adopted := []
    segs := if j.segSeq == seq then j.segs else [] }

def jobClaim (bytes : List Byte) (s : State) : State :=
  let jt := field16 bytes 0
  let other := (s.heldTags.find? (· != jt)).getD 0
  if s.job.dev != .standby then s.refuseClaim jt 1 other
  else if s.heldTags.any (· != jt) then s.refuseClaim jt 2 other
  else if !claimFieldsOk bytes then s.refuseClaim jt 3 other
  else
    let j := s.job.fresh (field32 bytes 8)
    (({ s with job := { j with
        jt := jt, epoch := field32 bytes 4, members := field32 bytes 12, baseStep := field32 bytes 16
        streamChecks := [], reachIn := [], descr := none, stepStopped := false } }).clearPerEpoch.setDev .opening).setOpenStatus 1

/-- JOB_CLAIM (R362, R363). -/
def execJobClaim (bytes : List Byte) (s : State) : Host.Outcome State Fault Refusal := .next (jobClaim bytes s)

/-! ## The opening tree (R364) -/

/-- Whether the parent links from a position end at a root within n steps. -/
def climbs (l : List (U32 × U32)) : Nat → U32 → Bool
  | 0, _ => false
  | n + 1, c => match l.find? (·.1 == c) with | some e => e.2 == c || climbs l n e.2 | none => false

/-- What is wrong with the record after those before it. -/
def treeRecBad (all before : List (U32 × U32)) (e : U32 × U32) : Bool :=
  before.any (·.1 == e.1) || (e.1 == e.2 && before.any (fun x => x.1 == x.2)) || !(all.any (·.1 == e.2)) ||
  (e.1 != e.2 && decide ((before.filter (fun x => x.2 == e.2 && x.1 != x.2)).length ≥ 16)) || !(climbs all (all.length + 1) e.1)

/-- The offset of the first bad record; the end of the write when no record is bad. -/
def State.treeBad (s : State) (l : List (U32 × U32)) (len : Nat) : Option Nat :=
  let bad := (List.range l.length).find? (fun i => match l[i]? with
    | some e => decide (i ≥ s.job.members.toNat) || treeRecBad l (l.take i) e
    | none => false)
  match bad with
  | some i => some (8 * i)
  | none =>
    if len % 8 ≠ 0 ∨ l.length ≠ s.job.members.toNat ∨ !(l.any (·.1 == s.adopted)) ∨ !(l.any (fun e => e.1 == e.2)) then
      some len
    else none

def openingTreeWrite (bytes : List Byte) (s : State) : State :=
  if !s.loadable then s
  else
    let l := (chunksOf (bytes.length / 8) 8 bytes).map (fun r => (cnOf (field32 r 0), cnOf (field32 r 4)))
    match s.treeBad l bytes.length with
    | none => { s with job := { s.job with tree := l } }
    | some off =>
      let v := BitVec.ofNat 32 off
      ({ s with job := { s.job with treeErr := v, refusals := bump s.job.refusals } }).record (ev3 0x2905 unitCC (arg4 v))

/-- OPENING_TREE_WRITE (R364): in another state the write does nothing. -/
def execOpeningTreeWrite (bytes : List Byte) (s : State) : Host.Outcome State Fault Refusal := .next (openingTreeWrite bytes s)

/-! ## Opening commands (R373) -/

def State.refuseCommand (cmd : U8) (s : State) : State :=
  ({ s with job := { s.job with refusals := bump s.job.refusals } }).openRefused 0 cmd s.adopted

/-- Job regions take the job's tag (R209). -/
def State.tagRegions (s : State) : State :=
  { s with mem := { s.mem with
      regions := s.mem.regions.map (fun r => if [1, 3, 5, 6, 7, 8].contains r.kind.toNat then { r with jt := s.job.jt } else r) } }

/-- The own part of PREPARE: STREAM_CHECKs leave, the checks run, and check 0x08 waits for its senders (R368, R374). -/
def State.runPrepare (s : State) : State :=
  let s := (s.setOpenStatus 2).sendStreamChecks
  match s.job.descr with
  | none => s.setOwn (some 5)
  | some d =>
    match s.prepareCheck d with
    | some r => s.setOwn (some r)
    | none =>
      let s := s.tagRegions
      if !s.streamsOk then s.setOwn (some 8) else if s.streamsHeard then s.setOwn none else s

/-- The segments of a fresh opening: the initial anchors of the root's table (R74). -/
def State.freshVector (s : State) : List (U32 × Int) := s.upd.table.map (fun e => (tensorOf e.ts, e.initAnchor))
def State.freshSegments (s : State) : Nat := s.namedTensors.foldl (fun m t => max m (t.toNat / 2048 + 1)) 1

/-- The position in the epoch is not the one in which the device was fenced (R11). -/
def State.mayJoin (s : State) : Bool := s.job.fencedAs != some (s.job.jt, s.job.epoch, s.adopted)

def openingFresh (seq : U32) (s : State) : State :=
  if seq == s.job.seq && s.isRoot && s.job.dev == .opening && s.mayJoin && s.job.openStatus == 1 then
    let n := s.freshSegments
    let segs := segsOfVector n s.freshVector
    let d : Descr := { mode := 1, usv := s.upd.semVersion, visa := s.vec.isaVersion, segments := BitVec.ofNat 16 n
                       start := s.job.baseStep + 1, members := s.job.members, digest := s.configDigest
                       anchorCrc := crc64 (segs.flatMap (fun x => segBytes x.2)), skips := 0 }
    let s := { s with job := { s.job with segs := segs, segSeq := seq, descr := some d } }
    let s := s.children.foldl (fun s c => s.sendSegs c) s
    ((s.beginPhase .prepare none (s.phaseTrans .prepare 0 0 d.bytes)).runPrepare).settle
  else s.refuseCommand 1

/-- OPENING_FRESH (R373, R366, R74). -/
def execOpeningFresh (seq : U32) (s : State) : Host.Outcome State Fault Refusal := .next (openingFresh seq s)

def openingRestore (seq : U32) (s : State) : State :=
  if s.isRoot && s.job.dev == .run && decide (s.job.seq.toNat < seq.toNat) then
    let base := s.fence.committed + 1
    let s := { s with job := s.job.fresh seq }
    ((s.beginPhase .survey none (s.phaseTrans .survey 0 base [])).runSurvey base).settle
  else s.refuseCommand 2

/-- OPENING_RESTORE (R375): a sequence that the device has used does not fit. -/
def execOpeningRestore (seq : U32) (s : State) : Host.Outcome State Fault Refusal := .next (openingRestore seq s)

/-- The phase is sent again: to the children still awaited, or, once it is settled, to every child and to each missing position. -/
def State.resendPhase (p : PhaseSt) (t : Trans) (s : State) : State :=
  let again := if p.acked then (s.children ++ p.missing).eraseDups else p.expect
  let send (s : State) (c : U32) : State :=
    (if p.phase = .prepare ∨ p.phase = .install then s.sendSegs c else s).sendPhase c t
  if !p.acked then again.foldl send s
  else
    let ok := p.own == some (true, 0)
    let q : PhaseSt := { phase := p.phase, seq := p.seq, sender := none, expect := again, pk := some t
                         own := if ok then p.own else none, readyCount := if ok then 1 else 0
                         mask := if p.phase = .survey then s.job.reach else BitVec.allOnes 64 }
    let s := again.foldl send (s.setPhase q)
    let s := if ok then s
      else match p.phase with
        | .prepare => s.runPrepare
        | .install => s.runInstall
        | _ => s.setOwn none
    s.settle

def openingResend (seq : U32) (s : State) : State :=
  match s.job.phase with
  | some p =>
    match p.pk with
    | some t => if seq == s.job.seq && s.isRoot && p.sender.isNone then s.resendPhase p t else s.refuseCommand 3
    | none => s.refuseCommand 3
  | none => s.refuseCommand 3

/-- OPENING_RESEND (R371, R373). -/
def execOpeningResend (seq : U32) (s : State) : Host.Outcome State Fault Refusal := .next (openingResend seq s)

/-- Step activity ends at an INSTALL that no SURVEY preceded, and the spare's regions take the job's tag. -/
def State.readyInstall (s : State) : State :=
  let s := if s.job.dev == .run && !s.job.stepStopped then
      let s := s.endActivity s.job.epoch
      { s with job := { s.job with stepStopped := true } }
    else s
  s.tagRegions

/-- The Tier S images whose heads the root has not read (R377). -/
def State.headsUnread (s : State) : List (U64 × Nat) :=
  (s.job.tierS.zipIdx.flatMap (fun (c, k) => c.map (fun o => (o, k)))).filter (fun x => !(s.job.heads.any (·.1 == x.1)))
/-- An INSTALL command waits until the root has read the anchors of those images. -/
def State.awaitHeads (seq target : U32) (s : State) : State :=
  let s := { s with job := { s.job with waitInstall := some (seq, target), gets := [] } }
  s.headsUnread.foldl (fun s x => s.startGet { obj := x.1, chain := x.2, survey := true }) s

/-- Whether an INSTALL command fits: at the root in RUN, with a higher sequence or after the survey of the same. -/
def State.installFits (seq : U32) (s : State) : Bool :=
  s.isRoot && s.job.dev == .run &&
    (decide (s.job.seq.toNat < seq.toNat) || (seq == s.job.seq && s.job.phase.any (fun p => p.phase == .survey && p.acked)))

/-- INSTALL for T leaves where the root holds its anchor vector. -/
def State.commandInstall (seq target : U32) (s : State) : State :=
  match s.vectorAt target with
  | none => s.noVector 4
  | some v =>
    let base := if seq == s.job.seq then s.job.base else s.fence.committed + 1
    let s := if seq == s.job.seq then s else { s with job := s.job.fresh seq }
    s.readyInstall.sendInstall base target v

/-- The INSTALL command that waited for image heads, once each has been read or has failed. -/
def State.tryInstall (s : State) : State :=
  match s.job.waitInstall with
  | none => s
  | some (seq, target) =>
    if s.job.gets.any (fun g => g.survey && !g.done) then s
    else
      let s := { s with job := { s.job with waitInstall := none } }
      if s.installFits seq then s.commandInstall seq target else s.refuseCommand 4

def openingInstallCmd (seq target : U32) (s : State) : State :=
  if !s.installFits seq then s.refuseCommand 4
  else if (s.vectorAt target).isNone && !s.headsUnread.isEmpty then (s.awaitHeads seq target).tryInstall
  else s.commandInstall seq target

/-- OPENING_INSTALL_CMD (R373, R377). -/
def execOpeningInstallCmd (seq : U32) (target : U32) (s : State) : Host.Outcome State Fault Refusal :=
  .next (openingInstallCmd seq target s)

/-- A claimed device that abandons its opening resigns (R373, R387). -/
def State.abandonOpening (s : State) : State :=
  let s := (s.setOpenStatus 7).record (ev3 0x2904 unitCC [])
  (s.record (ev3 0x2920 unitCC [])).startResign
/-- In RUN the restore fails, and what it awaited is let go. -/
def State.abandonRestore (s : State) : State :=
  ({ s with job := { s.job with reachIn := [], pulls := [], rolls := [], gets := [], waitInstall := none } }).setRestStatus 4
def State.restoring (s : State) : Bool := s.job.phase.any (fun p => p.phase == .survey || p.phase == .install)

def openingAbandonCmd (seq : U32) (s : State) : State :=
  let t := s.phaseTrans .abandon 0 0 []
  if seq == s.job.seq && s.job.dev == .opening then
    (if s.isRoot then s.children.foldl (fun s c => s.sendPhase c t) s else s).abandonOpening
  else if seq == s.job.seq && s.job.dev == .run && s.restoring then
    if s.isRoot then (((s.beginPhase .abandon none t).abandonRestore).setOwn none).settle
    else { s.abandonRestore with job := { s.abandonRestore.job with phase := none } }
  else s.refuseCommand 5

/-- OPENING_ABANDON_CMD (R373). -/
def execOpeningAbandonCmd (seq : U32) (s : State) : Host.Outcome State Fault Refusal := .next (openingAbandonCmd seq s)

/-! ## Phase packets at a member (R368 to R375) -/

def State.countDup (s : State) : State := { s with job := { s.job with duplicates := bump s.job.duplicates } }

/-- What a member does with a phase packet (R368 check 0x01, R370). -/
inductive Gate where
  | discard | again | rerun | sender | bad | start
deriving DecidableEq, Repr

/-- A COMMIT follows a PREPARE or INSTALL that the member acknowledged ready. -/
def State.commitFits (s : State) : Bool :=
  (s.job.dev == .opening || s.job.dev == .run) &&
  (s.job.lastPhase == some .prepare || s.job.lastPhase == some .install) && !(s.job.lastAck.any ackRefused)

def State.startFits (s : State) (ph : OpPhase) : Bool :=
  match ph with
  | .prepare => s.job.dev == .opening && s.mayJoin
  | .survey => s.job.dev == .opening && s.mayJoin
  | .install => (s.job.dev == .opening && s.mayJoin) || s.job.dev == .run
  | .commit => s.commitFits
  | _ => true

def State.gate (s : State) (ph : OpPhase) (pk : Trans) : Gate :=
  let seq := pk.a32 4
  if seq.toNat < s.job.seq.toNat then .discard
  else if pk.jt != s.job.jt then .bad
  else if s.job.seq.toNat < seq.toNat then
    if (ph = .survey ∨ ph = .install) ∧ s.job.dev = .run then .start else .bad
  else
    match s.job.lastPhase, s.job.phase with
    | some q, p =>
      if q = ph ∧ p.all (fun x => x.phase = ph && x.acked) then (if s.job.lastAck.any ackRefused then .rerun else .again)
      else if q.rank > ph.rank then .discard
      else if p.any (fun x => x.phase = ph && !x.acked) then .sender
      else if s.startFits ph then .start else .bad
    | none, some p =>
      if p.phase = ph then .sender else if p.phase.rank > ph.rank then .discard
      else if s.startFits ph then .start else .bad
    | none, none => if s.startFits ph then .start else .bad

/-- A packet whose tag, sequence or order does not fit is refused to its sender with reason 0x01, in the tags it came with. -/
def State.refusePhase (ph : OpPhase) (pk : Trans) (s : State) : State :=
  let src := cnOf pk.src
  let t := s.mkTrans opFENCE src 0 ([8] ++ phaseA ph 1 1 (pk.a32 4) 0 0) (le64 (s.adopted.setWidth 64)) [] []
  (s.openRefused 1 ph.code s.adopted).send (.trans ({ t with jt := pk.jt, epoch := pk.epoch } : Trans).seal)

/-- A phase packet on a member: go begins its own part. -/
def State.onPhase (ph : OpPhase) (pk : Trans) (go : State → State) (s : State) : State :=
  let src := cnOf pk.src
  let begin_ (s : State) : State := (go (s.beginPhase ph (some src) pk)).settle
  if s.job.dev = .safe then s     -- SAFE serves management traffic only (R9)
  else
  match s.gate ph pk with
  | .discard => s.countDup
  | .again => match s.job.lastAck with | some t => s.countDup.sendAckTo src t | none => s.countDup
  | .rerun => begin_ s.countDup
  | .sender => match s.job.phase with | some p => s.setPhase { p with sender := some src } | none => s
  | .bad => s.refusePhase ph pk
  | .start => begin_ (if (pk.a32 4) == s.job.seq then s else { s with job := s.job.fresh (pk.a32 4) })

def anchorsReceive (pk : Trans) (s : State) : State :=
  let s := s.takePk (.trans pk)
  let seq := pk.a32 4
  if seq.toNat < s.job.seq.toNat then s.countDup
  else if pk.jt != s.job.jt || pk.body.length != 4096 then s
  else
    let old := if s.job.segSeq == seq then s.job.segs else []
    let q := (pk.a32 8).setWidth 16
    let seg := (List.range 2048).map (fun j => field16 pk.body (2 * j))
    let s := { s with job := { s.job with
      segSeq := seq, segs := (old.filter (fun (x : U16 × List U16) => x.1 != q) ++ [(q, seg)]).mergeSort (fun a b => decide (a.1.toNat ≤ b.1.toNat)) } }
    s.children.foldl (fun s c => s.sendPhase c pk) s

/-- ANCHORS_RECEIVE (R365, R369): kept by segment and forwarded; it is not acknowledged, check 0x05 finding what is missing. -/
def execAnchorsReceive (_port : Port) (pk : Trans) (s : State) : Host.Outcome State Fault Refusal := .next (anchorsReceive pk s)

def State.takeDescr (pk : Trans) (s : State) : State :=
  { s with job := { s.job with descr := some (Descr.ofBytes pk.body) } }

def prepareReceive (pk : Trans) (s : State) : State :=
  (s.takePk (.trans pk)).onPhase .prepare pk (fun s => (s.takeDescr pk).runPrepare)

/-- PREPARE_RECEIVE (R366, R368 to R370, R374, R209). -/
def execPrepareReceive (_port : Port) (pk : Trans) (s : State) : Host.Outcome State Fault Refusal := .next (prepareReceive pk s)

def surveyReceive (pk : Trans) (s : State) : State :=
  (s.takePk (.trans pk)).onPhase .survey pk (fun s => s.runSurvey (pk.a32 12))

/-- SURVEY_RECEIVE (R375, R376). -/
def execSurveyReceive (_port : Port) (pk : Trans) (s : State) : Host.Outcome State Fault Refusal := .next (surveyReceive pk s)

def installReceive (pk : Trans) (s : State) : State :=
  (s.takePk (.trans pk)).onPhase .install pk (fun s =>
    let s := { s with job := { s.job with target := pk.a32 8, base := pk.a32 12 } }
    ((s.takeDescr pk).readyInstall).runInstall)

/-- INSTALL_RECEIVE (R378 to R383). -/
def execInstallReceive (_port : Port) (pk : Trans) (s : State) : Host.Outcome State Fault Refusal := .next (installReceive pk s)

def installComplete (s : State) : State :=
  if !(s.job.phase.any (fun p => p.phase == .install && p.own.isNone)) then s
  else if s.installFailed then (s.setOwn (some 9)).settle
  else if s.installDone then (s.completeInstall.setOwn none).settle
  else s

/-- INSTALL_COMPLETE (R379, R384): every shard stands at T, or an installation has failed; no effect before. -/
def execInstallComplete (s : State) : Host.Outcome State Fault Refusal := .next (installComplete s)

def commitReceive (pk : Trans) (s : State) : State :=
  (s.takePk (.trans pk)).onPhase .commit pk (fun s => s.runCommit.setOwn none)

/-- COMMIT_RECEIVE (R372, R384). -/
def execCommitReceive (_port : Port) (pk : Trans) (s : State) : Host.Outcome State Fault Refusal := .next (commitReceive pk s)

def abandonReceive (pk : Trans) (s : State) : State :=
  let s := s.takePk (.trans pk)
  if s.job.dev == .run then
    s.onPhase .abandon pk (fun t => (if s.restoring then t.abandonRestore else t).setOwn none)
  else if (pk.a32 4).toNat < s.job.seq.toNat then s.countDup
  else if pk.a32 4 != s.job.seq || pk.jt != s.job.jt || s.job.dev != .opening then s
  else (s.children.foldl (fun s c => s.sendPhase c pk) s).abandonOpening

/-- ABANDON_RECEIVE (R369, R373, R387): passed on; a claimed device resigns, and answers no more; a restore in RUN fails, which is
acknowledged. -/
def execAbandonReceive (_port : Port) (pk : Trans) (s : State) : Host.Outcome State Fault Refusal := .next (abandonReceive pk s)

/-! ## Acknowledgements (R367, R369 to R371) -/

def ackMissing (t : Trans) : List U32 := (List.range (min (min 1024 (t.a32 12).toNat) (t.body.length / 4))).map (fun i => cnOf (field32 t.body (4 * i)))

/-- An expected acknowledgement is folded. A CN that this member asked itself is not missing on a child's word. -/
def PhaseSt.fold (src : U32) (t : Trans) (p : PhaseSt) : PhaseSt :=
  let own (c : U32) : Bool := p.expect.contains c || p.ready.contains c
  let miss := (ackMissing t).filter (fun c => !own c)
  let gone := (ackMissing t).length - miss.length
  { p with
    expect := p.expect.filter (· != src), ready := p.ready ++ [src], missing := p.missing ++ miss
    readyCount := p.readyCount + t.a32 8, missCount := p.missCount + (t.a32 12 - BitVec.ofNat 32 gone)
    refused := match p.refused with
      | some x => some x
      | none => if ackRefused t then some (t.a8 3, cnOf (t.b.setWidth 32)) else none
    mask := if p.phase = .survey ∧ !(ackRefused t) then p.mask &&& t.b else p.mask }

def openingAckReceive (pk : Trans) (s : State) : State :=
  let s := s.takePk (.trans pk)
  let src := cnOf pk.src
  match s.job.phase with
  | none => s.countDup
  | some p =>
    if p.expect.contains src && pk.a8 1 == p.phase.code && pk.a32 4 == p.seq then (s.setPhase (p.fold src pk)).settle
    else s.countDup

/-- OPENING_ACK_RECEIVE (R367, R369 to R371). -/
def execOpeningAckReceive (_port : Port) (pk : Trans) (s : State) : Host.Outcome State Fault Refusal :=
  .next (openingAckReceive pk s)

/-- A child expected in the phase in progress is missing (R369). -/
def State.phaseChildMissing (cn : U32) (p : PhaseSt) (t : Trans) (s : State) : State :=
  let kids := (s.childrenOf cn).filter (fun c => !(p.expect.contains c || p.ready.contains c))
  let s := s.setPhase { p with
    expect := p.expect.filter (· != cn) ++ kids, missing := p.missing ++ [cn], missCount := p.missCount + 1 }
  let s := if s.job.adopted.contains cn then s
    else ({ s with job := { s.job with adopted := cn :: s.job.adopted, adoptions := bump s.job.adoptions } }).record
      (ev3 0x2902 unitCC (arg4 cn ++ arg4 p.seq))
  (kids.foldl (fun s c => (if p.phase = .prepare ∨ p.phase = .install then s.sendSegs c else s).sendPhase c t) s).settle

/-- The child is awaited by the phase in progress, or else by the install of an epoch (R406). -/
def openingChildMissing (cn : U32) (s : State) : State :=
  match s.job.phase.filter (fun p => p.expect.contains cn) with
  | some p => match p.pk with
    | some t => s.phaseChildMissing cn p t
    | none => s.installChildMissing cn
  | none => s.installChildMissing cn

/-- OPENING_CHILD_MISSING (R369): the child's deadline has passed. -/
def execOpeningChildMissing (cn : U32) (s : State) : Host.Outcome State Fault Refusal := .next (openingChildMissing cn s)

/-! ## STREAM_CHECK and REACH (R374, R376) -/

def streamCheckReceive (pk : Trans) (s : State) : State :=
  let s := s.takePk (.trans pk)
  let src := cnOf pk.src
  let s := { s with job := { s.job with streamChecks := s.job.streamChecks.filter (fun (x : U32 × U64) => x.1 != src) ++ [(src, pk.b)] } }
  if s.job.phase.any (fun p => p.phase == .prepare && p.own.isNone) then
    if !s.streamsOk then (s.setOwn (some 8)).settle
    else if s.streamsHeard then (s.setOwn none).settle else s
  else s

/-- STREAM_CHECK_RECEIVE (R374). -/
def execStreamCheckReceive (_port : Port) (pk : Trans) (s : State) : Host.Outcome State Fault Refusal :=
  .next (streamCheckReceive pk s)

def reachReceive (pk : Trans) (s : State) : State :=
  let s := s.takePk (.trans pk)
  let ts := pk.a32 0
  if !(s.part.named && cnOf pk.src == s.part.partner) then s
  else
    let s := { s with job := { s.job with reachIn := s.job.reachIn.filter (fun (x : U32 × U64) => x.1 != ts) ++ [(ts, pk.b)] } }
    s.trySurvey.settle

/-- REACH_RECEIVE (R376). -/
def execReachReceive (_port : Port) (pk : Trans) (s : State) : Host.Outcome State Fault Refusal := .next (reachReceive pk s)

def reachTimeout (s : State) : State :=
  if s.surveying then
    let s := { s with job := { s.job with gets := s.job.gets.map (fun (g : StoreGet) => if g.survey then { g with done := true } else g) } }
    s.finishSurvey.settle
  else s

/-- REACH_TIMEOUT (R376): OD 2020.05 has passed since SURVEY. -/
def execReachTimeout (s : State) : Host.Outcome State Fault Refusal := .next (reachTimeout s)

/-! ## Pulls at the partner (R381, R382) -/

/-- The offsets of a replica's blocks for a selector and range, with each block's index in its stream. -/
def State.pullOffs (s : State) (ts : U32) (st : Stream) (lo n : Nat) : List (Nat × Nat) :=
  match s.replicaOf ts with
  | some e =>
    (List.range n).flatMap fun i =>
      let b := lo + i
      match st with
      | .c => [(b, e.blockOff .c b 0), (b, e.blockOff .c b 1)]
      | st => [(b, e.blockOff st b 0)]
  | none =>
    ((s.mirrorOffs ts).filter (fun off => Config.mirrorStream off == st.sel)).filterMap fun off =>
      match tierOf off, s.regionAt off with
      | some t, some r =>
        let b := (s.storedHeader t r off).blk.toNat
        if lo ≤ b ∧ b < lo + n then some (b, off) else none
      | _, _ => none

/-- One block of a pull leaves as MIRROR_P; its digest term. -/
def State.pullBlock (dst : U32) (delta : U64) (st : Stream) (x : Nat × Nat) (s : State) : U64 × State :=
  match tierOf x.2 with
  | none => (0, s)
  | some t =>
    let (b, s) := s.readBlock unitCont t x.2
    let h := b.header
    let h := if st = .k then { h with typ := 1, fmt := 11, count := 4096, flags := setFlag h.flags 1 true } else h
    let pk := s.mirrorOf h b.pay x.2 dst (0 - delta)
    (blockTerm x.1 b.pay, (s.send pk).countMirror pk)

def State.pullDone (dst ts : U32) (st : Stream) (t l : U32) (v : U64) (s : State) : State :=
  s.sendTrans opDIGEST dst 0 (le32 ts ++ [7, BitVec.ofNat 8 st.sel, 0, 0] ++ le32 t ++ le32 l) (le64 v) [] []

/-- Whether the log holds a step of an owner whole and unpoisoned (R376, R382). -/
def State.slotSound (s : State) (ix : Fin 4) (step : U32) : Bool :=
  match s.logSlot ix step with
  | some l => l.step == step && l.complete && !l.poisoned
  | none => false

def State.logRecOf (s : State) (ts step : U32) : Option LogRec := s.part.logRecs.find? (fun r => r.ts == ts && r.step == step)

/-- G of every window of a step, from the log, and whether a block of it read poisoned. -/
def State.readSlot (ix : Fin 4) (e : TensorEntry) (step : U32) (s : State) : List (List U32) × Bool × State :=
  (List.range (s.windowsOf e)).foldl (fun (acc : List (List U32) × Bool × State) w =>
    let (g, bad, s) := acc.2.2.readLog ix e step (BitVec.ofNat 32 w)
    (acc.1 ++ [g], acc.2.1 || bad, s)) ([], false, s)

/-- One step of the log runs through the replica's program (R312, R382); a slot found poisoned counts as incomplete, and the replica
stays where it is (R223). -/
def State.rollReplicaStep (ix : Fin 4) (ts step : U32) (s : State) : State :=
  match s.replicaOf ts, s.logRecOf ts step with
  | some e, some r =>
    let up (t : U32) (s : State) : State := s.setEntry ts 2 (fun e => { e with l := step, prevL := e.l, prevT := e.t, t := t, p := none })
    if step != e.l + 1 then s
    else if r.skipped then up e.t s
    else
      let (gs, bad, s) := s.readSlot ix e step
      if bad then s else
      let s := gs.zipIdx.foldl (fun s x =>
        let d : DispWin := { ts := ts, w := BitVec.ofNat 32 x.2, step := step, replica := true, g := x.1, s0 := r.s0, s4 := r.s4
                             heldVal := r.held, tPrime := e.t + 1, ready := true, roll := true }
        let (res, _, s) := s.runFor unitCont e d
        let ws := s.resultWrites e step (firstElem s d) res
        let s := ws.foldl (fun s b => match tierOf b.off with | some t => s.writeBlock t b.off b.blk | none => s) s
        { s with job := { s.job with rolled := bump s.job.rolled } }) s
      up (e.t + 1) s
  | _, _ => s

/-- The replica is rolled forward to T while the slots allow. -/
def State.rollReplica (ix : Fin 4) (ts target : U32) (s : State) : State :=
  match s.replicaOf ts with
  | none => s
  | some e =>
    let steps := (List.range (target.toNat - e.l.toNat)).map (fun i => e.l + BitVec.ofNat 32 (i + 1))
    if decide (target.toNat ≤ e.l.toNat + 16) && steps.all (s.slotSound ix) then
      steps.foldl (fun s k => s.rollReplicaStep ix ts k) s
    else s

/-- t and L of what the partner holds, as they were at T. -/
def State.heldCounters (s : State) (src ts target : U32) : U32 × U32 :=
  match s.replicaOf ts with
  | some e => if e.l.toNat > target.toNat then (e.prevT, target) else (e.t, e.l)
  | none =>
    match s.job.mirrors.find? (fun m => m.owner == src && m.ts == ts) with
    | some m => if m.l.toNat > target.toNat then (m.t - 1, target) else (m.t, m.l)
    | none => (0, 0)

/-- The G blocks and records of one log slot go to the owner (R382). -/
def State.sendSlot (ix : Fin 4) (dst ts step : U32) (s : State) : State :=
  match s.replicaOf ts, s.logRecOf ts step with
  | some e, some r =>
    if r.skipped then s.send (.trans (s.recordTrans dst step { ts := ts, a1 := 0xFFFFFFFF, kind := 2 }))
    else
      let s := (List.range e.gBlocks).foldl (fun s b =>
        match s.logOff ix step (s.gPlace ix ts b) with
        | none => s
        | some off =>
          match tierOf off with
          | none => s
          | some t =>
            let (x, s) := s.readBlock unitCont t off
            let h := s.tagged { x.header with dst := dst, contrib := cnOf s.adopted }
            let pk := Packet.block ⟨h.seal, x.pay⟩
            { s.send pk with part := { (s.send pk).part with
                replayBytes := bumpBy (s.send pk).part.replayBytes (frameBytesOf pk) } }) s
      (List.range (s.windowsOf e)).foldl (fun s w =>
        s.send (.trans (s.recordTrans dst step { ts := ts, a1 := BitVec.ofNat 32 w, a2 := r.s0, a3 := r.s4, held := r.held, kind := 1 }))) s
  | _, _ => s

/-- The slots of a roll-forward, in step order, up to the first that is not sound; the last step sent. -/
def State.sendSlots (ix : Fin 4) (dst ts first : U32) (n : Nat) (s : State) : U32 × State :=
  let steps := (List.range n).map (fun i => first + BitVec.ofNat 32 i)
  let good := steps.takeWhile (s.slotSound ix)
  (first + BitVec.ofNat 32 good.length - 1, good.foldl (fun s k => s.sendSlot ix dst ts k) s)

def pullReqReceive (pk : Trans) (s : State) : State :=
  let s := s.takePk (.trans pk)
  let src := cnOf pk.src
  let ts := pk.a32 0
  let target : U32 := pk.b.setWidth 32
  match s.ownerIx src, Stream.ofSel (pk.a8 5).toNat with
  | some ix, some .g =>
    let (last, s) := s.sendSlots ix src ts (pk.a32 8) (pk.a32 12).toNat
    s.pullDone src ts .g 0 last 0
  | some ix, some st =>
    let s := s.rollReplica ix ts target
    let delta := (s.part.owners[ix]).delta
    let (v, s) := (s.pullOffs ts st (pk.a32 8).toNat (pk.a32 12).toNat).foldl (fun (acc : U64 × State) x =>
      let (d, s) := acc.2.pullBlock src delta st x
      (acc.1 ^^^ d, s)) (0, s)
    let (t, l) := s.heldCounters src ts target
    s.pullDone src ts st t l v
  | _, _ => s.refuseSource src

/-- PULL_REQ_RECEIVE (R381, R382). -/
def execPullReqReceive (_port : Port) (pk : Trans) (s : State) : Host.Outcome State Fault Refusal := .next (pullReqReceive pk s)

/-! ## Pulls at the owner (R381) -/

def State.pullOf (s : State) (ts : U32) (sel : Nat) : Option Pull := s.job.pulls.find? (fun p => p.ts == ts && p.stream.sel == sel)
def State.setPull (p q : Pull) (s : State) : State :=
  { s with job := { s.job with pulls := s.job.pulls.map (fun x => if x == p then q else x) } }
def State.dropPull (p : Pull) (s : State) : State :=
  { s with job := { s.job with pulls := s.job.pulls.filter (fun x => !(x == p)) } }

/-- A pull that does not agree or does not answer is repeated up to 3 times, and then refused. -/
def State.retryPull (p : Pull) (s : State) : State :=
  if p.tries < 3 then
    let q := { p with tries := p.tries + 1, digest := 0 }
    (s.setPull p q).sendPull q
  else (((s.dropPull p).record (ev3 0x2912 unitCC [])).setOwn (some 9)).settle

/-- The last stream of a shard has come: it stands at T, its ahead windows are marked, and a torn copy is refused (R383). -/
def State.pulledShard (e : TensorEntry) (t : U32) (s : State) : State :=
  let target := s.job.target
  let s := s.setEntry e.ts 1 (setCounters target t)
  if s.tornAt e target then (s.noteTorn.setOwn (some 9)).settle else s.markAhead e target

def pullDoneReceive (pk : Trans) (s : State) : State :=
  let s := s.takePk (.trans pk)
  let ts := pk.a32 0
  match s.pullOf ts (pk.a8 5).toNat, s.ownerOf ts with
  | some p, some e =>
    if !(s.part.named && cnOf pk.src == s.part.partner) then s
    else if p.stream = .g then
      let s := s.dropPull p
      if pk.a32 12 == s.job.target then s else s.failRoll ts
    else if p.digest == pk.b then
      let s := s.dropPull p
      if s.job.pulls.any (·.ts == ts) then s else s.pulledShard e (pk.a32 8)
    else s.retryPull p
  | _, _ => s

/-- PULL_DONE_RECEIVE (R378, R381, R383). -/
def execPullDoneReceive (_port : Port) (pk : Trans) (s : State) : Host.Outcome State Fault Refusal :=
  .next (pullDoneReceive pk s)

def pullTimeout (ts : U32) (sel : U8) (s : State) : State :=
  match s.pullOf ts sel.toNat with
  | some p => s.retryPull p
  | none => s

/-- PULL_TIMEOUT (R381): OD 2020.05 has passed since the request. -/
def execPullTimeout (ts : U32) (stream : U8) (s : State) : Host.Outcome State Fault Refusal := .next (pullTimeout ts stream s)

/-! ## STORE_GET (R336, R377, R378) -/

/-- A read of an image ends: its head is taken in a survey; a whole chain is decoded in an INSTALL. -/
def State.getDone (g : StoreGet) (s : State) : State :=
  let s := s.setGet { g with done := true }
  if g.survey then
    let s := if g.failed || g.data.length < 64 then s else s.getHead g
    s.trySurvey.settle.tryInstall
  else if s.job.gets.any (fun x => x.chain == g.chain && !x.done) || s.job.gets.any (fun x => x.chain == g.chain && x.failed) then s
  else s.installTier g.chain

/-- Enough of an image for a survey: its header, and at the root its anchors. -/
def State.headHere (s : State) (g : StoreGet) : Bool :=
  g.survey && decide ((if s.isRoot then headBytes s.red.segments.toNat else 64) ≤ g.data.length)

/-- A part of an image. A part of fewer than 4,096 bytes is the last. -/
def State.takePart (g : StoreGet) (b : Block) (s : State) : State :=
  let n := min 4096 b.hdr.count.toNat
  let off := g.data.length
  let s := s.countBytes 8 n
  let g := { g with data := g.data ++ b.pay.take n, bad := if b.hdr.poison then g.bad ++ [off] else g.bad }
  if n < 4096 || s.headHere g then s.getDone g else (s.setGet g).sendGet g.obj g.data.length

/-- A payload that fails its check is discarded and asked for again (R61). -/
def State.partFailed (g : StoreGet) (src : U32) (s : State) : State :=
  let s := { s with chk := { s.chk with payRecv := bump s.chk.payRecv } }
  (s.record (ev3 0x1021 unitSwitch [])).sendResend src 0 (g.obj.setWidth 32) ((g.obj >>> 32).setWidth 32) 1 opSTORE_GET 1
    (BitVec.ofNat 32 (g.data.length / 4096)) []

/-- The checks of a part in the order of R42: a header that fails its check word or is invalid discards the part; a poisoned part's
payload is not verified (R65). -/
def State.checkPart (g : StoreGet) (src : U32) (b : Block) (s : State) : State :=
  if !b.hdr.crcOk then
    ({ s with chk := { s.chk with hdrFail := bump s.chk.hdrFail } }).record (ev3 0x1020 unitCont (arg2 unitCont))
  else if !b.hdr.valid then
    ({ s with chk := { s.chk with invalid := bump s.chk.invalid } }).record
      (ev3 0x2011 unitCont (arg2 unitCont ++ b.hdr.bytes.take 16))
  else if b.hdr.poison then ({ s with chk := { s.chk with poisonedRecv := bump s.chk.poisonedRecv } }).takePart g b
  else
    let s := { s with chk := { s.chk with payChecks := bump s.chk.payChecks } }
    if b.payOk then s.takePart g b else s.partFailed g src

def storeGetResponse (pk : Trans) (s : State) : State :=
  let s := s.takePk (.trans pk)
  let obj := pk.a64 0
  match s.job.gets.find? (fun g => g.obj == obj && !g.done && pk.b == BitVec.ofNat 64 g.data.length) with
  | none => s
  | some g =>
    let b := Block.ofBytes pk.body
    let code := pk.a8 12
    if code == 0 || code == 5 then s.checkPart g (cnOf pk.src) b
    else if code == 3 then s.sendGet obj g.data.length
    else if code == 2 && !g.data.isEmpty then s.getDone g
    else s.getDone { g with failed := true }

/-- STORE_GET_RESPONSE (R336, R377, R378): a damaged part comes poisoned. -/
def execStoreGetResponse (_port : Port) (pk : Trans) (s : State) : Host.Outcome State Fault Refusal :=
  .next (storeGetResponse pk s)

/-! ## Resignation (R387 to R389) -/

def resignationAction (jt : U16) (s : State) : State :=
  let d := s.job.dev
  if jt != 0 && jt == s.job.jt && (d == .run || d == .fenced || d == .opening) then (s.record (ev3 0x2920 unitCC [])).startResign
  else if jt != 0 && jt == s.job.jt && d == .resigning && s.job.resignStatus == 5 then
    { s with job := { s.job with resignStatus := 1 } }
  else
    ({ s with job := { s.job with
        refusals := bump s.job.refusals, resignStatus := if s.job.dev == DevState.resigning then s.job.resignStatus else 4 } }).record
      (ev3 0x2923 unitCC [])

/-- RESIGNATION_ACTION (R387, R389). -/
def execResignationAction (jt : U16) (s : State) : Host.Outcome State Fault Refusal := .next (resignationAction jt s)

/-- Bytes of the job's regions in a tier, headers included. -/
def State.jobBytes (s : State) (t : Tier) : Nat :=
  ((s.mem.regions.filter (fun r => r.jt == s.job.jt && tierOf r.payOff = some t)).map
    (fun r => r.size.toNat + (if r.blockStructured then r.size.toNat / 64 else 0))).sum

/-- A range is zeroed with valid check symbols, and leaves the poison lists (R387 step 4). -/
def MemState.zero (t : Tier) (off n : Nat) (m : MemState) : MemState :=
  let m := m.heal t off n
  m.setCells t ((m.cells t).filter (fun c => decide (c.1 < off) || decide (off + n ≤ c.1)))

def Region.scrub (r : Region) (m : MemState) : MemState :=
  match tierOf r.payOff with
  | none => m
  | some t =>
    let m := m.zero t r.payOff r.size.toNat
    if r.blockStructured then m.zero t r.hdrOff (r.size.toNat / 64) else m

def State.scrubRegions (s : State) : State :=
  let mine (r : Region) : Bool := r.jt == s.job.jt && !(r.flags.getLsbD 4)
  let m := (s.mem.regions.filter mine).foldl (fun m r => r.scrub m) s.mem
  { s with mem := { m with regions := m.regions.map (fun r => if mine r then { r with jt := 0, poisoned := false } else r) } }

/-- The attestation before its signature (R388). -/
def State.attestBody (s : State) (seq : U32) (hB lB nB : Nat) : List Byte :=
  let f := (if s.job.resign.circuitsReleased then 1 else 0) + (if s.job.resign.pointsFreed then 2 else 0) +
    (if s.job.resign.pushesAbandoned then 4 else 0)
  [0x41, 1] ++ le16 s.job.jt ++ le32 seq ++ padTo 16 s.ident.traySerial ++ le32 s.own ++ le32 s.time.cycles ++ le64 s.time.opMs ++
    le32 s.job.seq ++ le32 s.job.epoch ++ leBytes 8 hB ++ leBytes 8 lB ++ leBytes 8 nB ++ leBytes 2 f ++ List.replicate 50 0

/-- A signature of the security engine: 132 bytes that the manual does not fix (R388, R493; notes/assumptions/3.md). -/
def State.sign (s : State) : List Byte × State :=
  ((List.range 132).map (Config.signByte s.freeCtr), { s with freeCtr := s.freeCtr + 1 })

/-- The job records of module MRAM, the region tags and the job's tables are cleared (R387 step 6). -/
def State.clearJob (s : State) : State :=
  let s := s.scrubRegions
  let s := { s with
    adj := { s.adj with
      points := s.adj.points.filter (fun p => p.jt != s.job.jt), ptrSeq := 0, ptrChunks := 0, ptrAddr := 0
      sPtrObj := 0, sPtrParts := 0, sPtrLow := 0 }
    fence := { s.fence with mramMoves := [], lastMove := none }
    part := { s.part.unpair with
      partner := 0, named := false, delta := 0, owners := Vector.replicate 4 {}, pair := .none_
      heldPartner := none, heldDelta := none, heldOwners := none
      logSlots := [], logRecs := [], loggedBlks := [], replicas := [], terms := [], ownerDig := [], ownerStep := [], drops := []
      toSync := [], syncing := [], asked := false }
    upd := { s.upd with table := [], staged := [], disp := [], noSize := [], written := [], latches := [] }
    red := { s.red with trees := [], held := none, raised := [] }
    str := { s.str with progs := [], segs := [], startedFor := [], retries := [] }
    vec := { s.vec with entries := [] }
    route := { s.route with substActive := [], substShadow := [] }
    det := { s.det with fenced := [], records := [], sentFor := [], install := none, lastInstalled := none }
    job := { s.job with
      vectors := [], farVectors := [], mirrors := [], ahead := [], phase := none, descr := none, segs := [], lastAck := none
      lastPhase := none, reachIn := [], gets := [], waitInstall := none, heads := [], streamChecks := [], jt := 0, epoch := 0, stepStopped := false } }
  s.clearPerEpoch.refillBanks

/-- A class 3 alarm beside an event (R387 step 8). -/
def State.alarm3 (e : Event) (s : State) : State :=
  if (s.tele.forwarded e.code).isSome then s
  else { s with tele := s.tele.alarm s.time.now s.time.cycles s.time.opMs e }

def resignScrubComplete (ok : Bool) (s : State) : State :=
  if s.job.dev != .resigning || s.job.resignStatus != 1 then s
  else if !ok then
    let (t, s) := s.free
    let (a, s) := s.free
    ({ s with job := { s.job with resignStatus := 5, scrubFails := bump s.job.scrubFails } }).record
      (ev2 0x2921 unitCC (arg1 t.toNat ++ arg8 a))
  else
    let s := (List.finRange 8).foldl (fun s n =>
      if (s.circuit n).releasing then circuitDrainTimeout n (circuitDrained n s) else s) s
    let hB := s.jobBytes .h
    let lB := s.jobBytes .l
    let nB := s.job.resign.nBytes
    let seq := s.job.attestSeq + 1
    let body := s.attestBody seq hB lB nB
    let s := s.clearJob
    let (sig, s) := s.sign
    let s := { s with job := { s.job with
      attest := some (body ++ sig), attestSeq := seq, resigns := bump s.job.resigns, resignStatus := 2
      scrubbed := BitVec.ofNat 64 (hB + lB + nB), resign := {} } }
    let e := ev3 0x2922 unitCC []
    ((s.record e).enterStandby.stepIrq).alarm3 e

/-- RESIGN_SCRUB_COMPLETE (R387 to R389, R415): the tier and address of a failure are not in the command: free values. -/
def execResignScrubComplete (ok : Bool) (s : State) : Host.Outcome State Fault Refusal := .next (resignScrubComplete ok s)

end Sys2Proof.Machine
end

