-- ==== Sys2Proof/Machine/Health.lean ====
section
/-! DEFINITION. The health history and gambit stress tests (R408 to R425): retirement, the clear, gambits, retests, and the reports of
agents (R258, R404, R423). -/
namespace Sys2Proof.Machine
open Sys2Proof

/-! ## Units (R408) -/

/-- Instances of a unit class. -/
def unitCount (cls : Nat) : Nat :=
  match cls with
  | 0x01 => 8 | 0x02 => 16 | 0x03 => 32 | 0x04 => 64 | 0x05 => 6 | 0x06 => 8 | 0x07 => 24 | 0x08 => 2 | 0x09 => 4 | 0x0A => 8
  | 0x0B => 8 | 0x0C => 1 | 0x0D => 1 | _ => 0
def unitClass (u : U16) : Nat := u.toNat / 256
def unitInst (u : U16) : Nat := u.toNat % 256
def isUnit (u : U16) : Bool := decide (unitInst u < unitCount (unitClass u))

def pipeOf (u : U16) : Pipe := ⟨u.toNat % 8, by omega⟩
def coreOf (u : U16) : Core := ⟨u.toNat % 16, by omega⟩
def trayOf (u : U16) : Port := ⟨u.toNat % 8, by omega⟩
def portOfUnit (u : U16) : Port := ⟨u.toNat % 24, by omega⟩

/-- A pipeline or core is taken out of service: its bit is cleared and its work goes elsewhere (R112, R158). -/
def State.unitOff (u : U16) (s : State) : State :=
  if unitClass u = 1 then
    let p := pipeOf u
    let s := { s with upd := { s.upd with pipesOn := s.upd.pipesOn &&& ~~~(1#8 <<< p.val) } }
    let s := s.drainPipe p
    if s.upd.pipesOn == 0 && !s.upd.disp.isEmpty then s.noPipe else s
  else if unitClass u = 2 then
    let c := coreOf u
    let s := { s with vec := { s.vec with coresOn := s.vec.coresOn &&& ~~~(1#16 <<< c.val) } }
    s.drainCore c
  else s

/-- A pipeline or core returns to service. -/
def State.unitOn (u : U16) (s : State) : State :=
  if unitClass u = 1 then
    { s with upd := { s.upd with pipesOn := s.upd.pipesOn ||| (1#8 <<< (pipeOf u).val), noPipeSeen := false } }
  else if unitClass u = 2 then
    { s with vec := { s.vec with coresOn := s.vec.coresOn ||| (1#16 <<< (coreOf u).val), noCoreSeen := false } }
  else s

def State.unitEnabled (s : State) (u : U16) : Bool :=
  if unitClass u = 1 then s.upd.pipesOn.getLsbD (pipeOf u).val
  else if unitClass u = 2 then s.vec.coresOn.getLsbD (coreOf u).val
  else !(s.isRetired u.toNat)

/-! ## Retirement (R415) -/

def State.setRetired (u : U16) (s : State) : State :=
  { s with health := s.health.setSum { s.health.sumOf u with st := .retired } }

def State.retireEffect (u : U16) (s : State) : State :=
  let c := unitClass u
  if c = 1 ∨ c = 2 then s.unitOff u
  else if c = 7 then portDisable (portOfUnit u) s
  else if c = 0x0B then s.loseAgent (trayOf u)
  else { s with health := { s.health with
    deferred := if s.health.deferred.contains u then s.health.deferred else s.health.deferred ++ [u] } }

def retireAction (u : U16) (s : State) : State :=
  if !(isUnit u) then s
  else
    let s := (s.setRetired u).retireEffect u
    (if waitsStandby u then s.record (ev2 0x4103 unitFault []) else s.record (ev3 0x4103 unitFault [])).updateCooling

/-- RETIRE_ACTION (R415): a number that names no unit is refused as a value and has no effect. -/
def execRetireAction (unit : U16) (s : State) : Host.Outcome State Fault Refusal := .next (retireAction unit s)

/-- OD 4100.12 and OD 4100.13. -/
def State.unitsIn (s : State) (st : UnitState) : Nat := (s.health.sums.filter (fun u => decide (u.st = st))).length

/-! ## The clear (R417) -/

/-- The first record after a clear: path 0, the key index in bytes 20 and 21, the records discarded in bytes 24 to 27. Its unit,
event code and temperature bin, of which the manual says nothing, are free. -/
def State.clearRec (s : State) (key : U16) (n : Nat) : HealthRec × State :=
  let (f, s) := s.free
  ({ seq := s.health.newest + 1, opMs := s.time.opMs, unit := f.setWidth 16, code := (f >>> 16).setWidth 16, path := 0, flags := 0
     tbin := (f >>> 32).setWidth 8, volt := 0, freq := 0, pattern := key, jt := s.job.jt, step := BitVec.ofNat 32 n }, s)

def clearHistory (key : U16) (s : State) : State :=
  let (r, s) := s.clearRec key s.health.ring.length
  let kept := (s.health.sums.filter (fun u => decide (u.st = .retired))).map (fun u => ({ unit := u.unit, st := .retired } : UnitSum))
  let s := ({ s with health := { s.health with ring := [r], newest := r.seq, sums := kept, lap := 0 } }).countBytes 6 32
  (s.record (ev3 0x4105 unitFault [])).updateCooling

/-- CLEAR_HISTORY (R417). -/
def execClearHistory (key : U16) (s : State) : Host.Outcome State Fault Refusal := .next (clearHistory key s)

/-! ## Gambits (R418 to R423) -/

/-- A gambit request (R418). -/
structure GambitReq where
  unit : U16
  pattern : U16
  volt : U8
  freq : U8
  inlet : U8
  flags : U8
  duration : U32
  seq : U32
deriving DecidableEq, Repr

def gambitReq (l : List Byte) : GambitReq :=
  { unit := field16 l 0, pattern := field16 l 2, volt := byteAt l 4, freq := byteAt l 5, inlet := byteAt l 6, flags := byteAt l 7
    duration := field32 l 8, seq := field32 l 12 }

/-- A field that R418 gives no meaning makes the record no request. -/
def GambitReq.formed (q : GambitReq) : Bool :=
  let p := q.pattern.toNat
  isUnit q.unit && (q.flags &&& 0xFE#8) == 0 && decide (1 ≤ q.duration.toNat) && decide (q.duration.toNat ≤ 600000) &&
  ((decide (1 ≤ p) && decide (p ≤ 0xFF)) || (decide (0x4000 ≤ p) && decide (p ≤ 0x7FFF)) ||
   (decide (0x8000 ≤ p) && decide (p ≤ 0x800F)) || (decide (0x8100 ≤ p) && decide (p ≤ 0x81FF)))

def clampTo (lo hi : Int) (b : U8) : U8 := BitVec.ofInt 8 (max lo (min hi b.toInt))

/-- The clamps of R419. -/
def GambitReq.clamp (q : GambitReq) : GambitReq :=
  let c := unitClass q.unit
  let still := c == 5 || c == 6 || c == 0x0B
  { q with
    volt := if still then 0 else clampTo (-12) 8 q.volt
    freq := if still then 0 else clampTo 0 16 q.freq
    inlet := if q.inlet.toNat > 10 then 10 else q.inlet }

def GambitReq.bin (q : GambitReq) (s : State) : Bin := ⟨s.tempBin (islandOfUnit q.unit.toNat), q.volt, q.freq, q.pattern⟩

/-- Taking the unit out of service would leave too few of its class in RUN (R419). -/
def State.tooFew (s : State) (u : U16) : Bool :=
  let own := if s.unitEnabled u then 1 else 0
  if unitClass u = 1 then
    decide (((List.range 8).filter (fun i => s.upd.pipesOn.getLsbD i)).length < s.health.minPipes.toNat + own)
  else if unitClass u = 2 then
    decide (((List.range 16).filter (fun i => s.vec.coresOn.getLsbD i)).length < s.health.minCores.toNat + own)
  else true

/-- The rows of R419 that hold for every gambit: unit, RUN, inlet and device state. -/
def State.gambitBars (s : State) (q : GambitReq) : List Bool :=
  let c := unitClass q.unit
  [ s.isRetired q.unit.toNat || c == 7 || c == 9 || c == 0x0A,
    s.job.dev == .run && s.tooFew q.unit,
    (q.inlet != 0 || c == 0x0B) && s.job.dev != .standby,
    !(s.job.dev == .standby || s.job.dev == .run) ]

/-- The first row of R419 that refuses a write, numbered from 1; the manual gives the reasons no codes. -/
def State.gambitRefusal (s : State) (q : GambitReq) : Option Nat :=
  let busy := s.health.gambit.phase != 0 || decide (q.seq.toNat ≤ s.health.gLast.toNat)
  let keep := (s.health.sumOf q.unit).keepOut.contains (q.bin s)
  ([busy, keep] ++ s.gambitBars q).findIdx? (fun b => b) |>.map (· + 1)

def State.setGambit (f : Gambit → Gambit) (s : State) : State := { s with health := { s.health with gambit := f s.health.gambit } }

/-- GAMBIT to the agent of a tray link of version 3 (R423, R254). -/
def State.sendGambit (p : Port) (q : GambitReq) (s : State) : State :=
  match s.agents.find? (·.1 == p) with
  | some a =>
    if (s.port p).version == 3 then
      s.sendFence a.2 0 10 ([0, 0, 0] ++ le32 q.seq ++ le16 q.pattern ++ [q.volt, q.freq] ++ le32 q.duration) [] [] []
    else s
  | none => s

/-- An accepted gambit begins: the unit leaves service and the inlet is requested (R420 steps 1 and 2); an agent's kernel is
asked for at once (R423). -/
def State.startGambit (q : GambitReq) (seq : U32) (fired : Bool) (s : State) : State :=
  let agent := unitClass q.unit == 0x0B
  let on := s.unitEnabled q.unit
  let g : Gambit := { unit := q.unit, pattern := q.pattern, volt := q.volt, freq := q.freq, inlet := q.inlet, flags := q.flags
                      duration := q.duration, seq := seq, state := if agent then 3 else 1, cause := 0
                      tbin := s.tempBin (islandOfUnit q.unit.toNat), errors := 0, wasOn := on
                      phase := if agent then 3 else 1, fired := fired }
  let s := { s with health := { s.health with gambit := g, gRun := bump s.health.gRun } }
  let s := (s.unitOff q.unit).updateCooling
  if agent then s.sendGambit (trayOf q.unit) q else s

def gambitAction (bytes : List Byte) (s : State) : State :=
  let r := gambitReq bytes
  if bytes.length ≠ 16 ∨ !r.formed then s
  else
    let q := r.clamp
    match s.gambitRefusal q with
    | some n =>
      let c := Config.causeCode (0x4200 * 256 + n)
      let s := s.setGambit (fun g => { g with state := 7, cause := c })
      ({ s with health := { s.health with gRefused := bump s.health.gRefused } }).record (ev3 0x4200 unitFault [c])
    | none =>
      let s := { s with health := { s.health with gLast := q.seq } }
      let s := if q == r then s
        else ({ s with health := { s.health with gClamps := bump s.health.gClamps } }).record (ev3 0x4204 unitFault [])
      s.startGambit q q.seq false

/-- GAMBIT_ACTION (R418 to R420, R423): a record that R418 does not define is refused as a value and has no effect. -/
def execGambitAction (bytes : List Byte) (s : State) : Host.Outcome State Fault Refusal := .next (gambitAction bytes s)

def State.setTemp (i : Nat) (t : U16) (s : State) : State :=
  if h : i < 44 then { s with pwr := { s.pwr with temps := s.pwr.temps.set i t } } else s
def State.setPct (i : Nat) (v : Nat) (s : State) : State :=
  if h : i < 44 then { s with pwr := { s.pwr with islandPct := s.pwr.islandPct.set i v } } else s

def gambitTempStable (temp : U16) (s : State) : State :=
  let g := s.health.gambit
  if g.phase != 1 then s
  else
    let i := islandOfUnit g.unit.toNat
    let s := (s.setTemp i temp).updateCooling
    if g.inlet != 0 && s.pwr.coolReq != g.inlet then s
    else s.setGambit (fun g => { g with phase := 2, state := 2, tbin := s.tempBin i })

/-- GAMBIT_TEMP_STABLE (R420 step 2, R507): with a cooling request in force the inlet raise has not been made, and the gambit
waits on. -/
def execGambitTempStable (temp : U16) (s : State) : Host.Outcome State Fault Refusal := .next (gambitTempStable temp s)

/-- The end of the ramp (R420 step 3, R500): the island runs at the margin; package rails stay at nominal (R537). -/
def gambitRampDone (s : State) : State :=
  let g := s.health.gambit
  if g.phase != 2 then s
  else (s.setPct (islandOfUnit g.unit.toNat) (200 + g.freq.toNat)).setGambit (fun g => { g with phase := 3, state := 3 })

/-- GAMBIT_RAMP_DONE (R420). -/
def execGambitRampDone (s : State) : Host.Outcome State Fault Refusal := .next (gambitRampDone s)

/-- Back to nominal, the unit in service again unless it is retired, the inlet request withdrawn (R420 steps 5 and 6). -/
def State.endGambit (s : State) : State :=
  let g := s.health.gambit
  let s := if unitClass g.unit == 0x0B then s else s.setPct (islandOfUnit g.unit.toNat) 200
  let s := s.setGambit (fun g => { g with phase := 0 })
  let s := if g.wasOn && !(s.isRetired g.unit.toNat) then s.unitOn g.unit else s
  s.updateCooling

/-- The unit has a fault of the bin in its history (R421). -/
def State.hasFault (s : State) (u : U16) (b : Bin) : Bool := (s.health.within s.time.opMs u).any (fun r => r.bin == b)

/-- A unit whose faults have all aged out is clean again (R413). -/
def HealthState.ageOut (op : U64) (u : U16) (h : HealthState) : HealthState :=
  if (h.within op u).isEmpty && h.sums.any (fun x => x.unit == u && decide (x.st ≠ .retired)) then
    h.setSum { h.sumOf u with st := .clean, faults := 0, keepOut := [] }
  else h

/-- The result of a gambit (R421): errors charge one fault in the bin applied. -/
def State.gambitResult (errors : U32) (s : State) : State :=
  let g := s.health.gambit
  let s := s.setGambit (fun g => { g with errors := errors, state := if errors == 0 then 4 else 5 })
  if errors == 0 then { s with health := s.health.ageOut s.time.opMs g.unit }
  else
    let b : Bin := ⟨g.tbin, g.volt, g.freq, g.pattern⟩
    let retest := g.flags.getLsbD 0
    let s := ({ s with health := { s.health with gErrors := bump s.health.gErrors } }).record (ev3 0x4202 unitFault [])
    s.charge { unit := g.unit.toNat, code := 0x4202, path := if retest then 8 else 7
               flags := 2 + (if retest && s.hasFault g.unit b then 1 else 0), volt := g.volt, freq := g.freq
               pattern := g.pattern.toNat, tbin := some g.tbin }

/-- The gambit ends (R420 step 6, R421). -/
def State.finishGambit (errors : U32) (s : State) : State := ((s.gambitResult errors).endGambit).record (ev3 0x4201 unitFault [])

def gambitDurationEnd (errors : U32) (s : State) : State :=
  if s.health.gambit.phase != 3 || unitClass s.health.gambit.unit == 0x0B then s else s.finishGambit errors

/-- GAMBIT_DURATION_END (R420, R421): an agent's run ends by its reply instead. -/
def execGambitDurationEnd (errors : U32) (s : State) : Host.Outcome State Fault Refusal := .next (gambitDurationEnd errors s)

/-- An abort (R422); the manual gives the causes no codes. -/
def State.abortGambit (n : Nat) (s : State) : State :=
  let c := Config.causeCode (0x4203 * 256 + n)
  let s := s.endGambit.setGambit (fun g => { g with state := 6, cause := c })
  ({ s with health := { s.health with gAborted := bump s.health.gAborted } }).record (ev3 0x4203 unitFault [c])

/-- Whether the condition of an abort holds (R422). -/
def State.abortDue (s : State) (c : AbortCause) : Bool :=
  let g := s.health.gambit
  match c with
  | .temperature =>
    match s.pwr.temps[islandOfUnit g.unit.toNat]? with
    | some t => decide (t.toInt ≥ 10 * (s.health.ceiling.toNat : Int))
    | none => false
  | .state => !(s.job.dev == .standby || s.job.dev == .run)
  | .units => s.job.dev == .run && s.tooFew g.unit
  | .deadline => g.phase == 1

def abortNum : AbortCause → Nat
  | .temperature => 1 | .state => 2 | .units => 3 | .deadline => 4

def gambitAbort (c : AbortCause) (s : State) : State :=
  if s.health.gambit.phase == 0 || !s.abortDue c then s else s.abortGambit (abortNum c)

/-- GAMBIT_ABORT (R422): no effect while its condition does not hold. -/
def execGambitAbort (cause : AbortCause) (s : State) : Host.Outcome State Fault Refusal := .next (gambitAbort cause s)

def gambitReplyTimeout (s : State) : State :=
  if s.exer.gambitSeq.isSome then     -- the request of a script (R530)
    let s := (List.finRange 24).foldl (fun s p => if (s.exPort p).mode == 3 then s.exerCheck p 0x11 [] else s) s
    { s with exer := { s.exer with gambitSeq := none } }
  else if s.health.gambit.phase == 3 && unitClass s.health.gambit.unit == 0x0B then s.abortGambit 5 else s

/-- GAMBIT_REPLY_TIMEOUT (R423). -/
def execGambitReplyTimeout (s : State) : Host.Outcome State Fault Refusal := .next (gambitReplyTimeout s)

/-! ## Retests (R413) -/

/-- The length of a retest, from the worked example. -/
def retestMs : U32 := 60000

def retestReq (u : U16) (b : Bin) : GambitReq :=
  { unit := u, pattern := b.pattern, volt := b.volt, freq := b.freq, inlet := 0, flags := 1, duration := retestMs, seq := 0 }

def retestStart (u : U16) (s : State) : State :=
  match s.health.retests.find? (fun r => r.1 == u && r.2.tbin == s.tempBin (islandOfUnit u.toNat)) with
  | none => s
  | some r =>
    let q := retestReq u r.2
    if s.health.gambit.phase != 0 || (s.gambitBars q).any (fun b => b) then s
    else
      let s := { s with health := { s.health with retests := s.health.retests.erase r } }
      s.startGambit q s.health.gLast true

/-- RETEST_START (R413, R420): an armed retest of a bin whose temperature the unit's island has; none starts where R419 bars it. -/
def execRetestStart (unit : U16) (s : State) : Host.Outcome State Fault Refusal := .next (retestStart unit s)

/-! ## Reports of agents (R258, R404, R423) -/

/-- A reply to the gambit that runs on the agent. -/
def State.gambitReply (s : State) (p : Port) (pk : Trans) : Bool :=
  let g := s.health.gambit
  g.phase == 3 && unitClass g.unit == 0x0B && trayOf g.unit == p && pk.a16 4 == 0x0F00 &&
  field32 pk.body 0 == g.seq && field16 pk.body 4 == g.pattern

def agentReportReceive (p : Port) (pk : Trans) (s : State) : State :=
  let s := s.takePk (.trans pk)
  let sev := pk.a8 6
  let s := s.setPort p (fun q => { q with agentReports := bump q.agentReports })
  let s := { s with pwr := { s.pwr with alertWait := s.pwr.alertWait.filter (· != p) } }
  let args := le16 (pk.a16 4) ++ [sev] ++ padTo 16 (pk.body.take 16)
  let reply := s.gambitReply p pk
  let s := if sev == 1 && !reply then s.record (ev2 0x1040 unitSwitch args) else s.record (ev3 0x1040 unitSwitch args)
  if reply then
    let n := field32 pk.body 8
    let s := s.setGambit (fun g => { g with tbin := byteAt pk.body 6 })
    s.finishGambit (if sev == 1 then (if n == 0 then 1 else n) else 0)
  else if sev == 0 then s
  else
    let s := s.charge { unit := 0x0B00 + p.val, code := 0x1040, path := 6 }
    if sev == 2 then s.loseAgent p else s

/-- AGENT_REPORT_RECEIVE (R258, R404, R409, R423): a report from a fabric port is none of an agent. -/
def execAgentReportReceive (port : Port) (pk : Trans) (s : State) : Host.Outcome State Fault Refusal :=
  .next (if port.val < 8 then agentReportReceive port pk s else s.takePk (.trans pk))

end Sys2Proof.Machine
end

