-- ==== Sys2Proof/Machine/Power.lean ====
section
/-! DEFINITION. The commands of the power and energy unit (R500 to R515): the cap, the thermal limits, the reservoirs and the ledger,
and the output pins. -/
namespace Sys2Proof.Machine
open Sys2Proof

/-! ## Islands (R500) -/

/-- The nominal clock of an island, in MHz. -/
def nominalMhz (i : Nat) : Nat :=
  if i ≤ 3 then 2000 else if i = 4 then 1800 else if i ≤ 8 then 1600 else if i ≤ 24 then 1500 else if i ≤ 35 then 1250
  else if i ≤ 38 then 1600 else if i = 39 then 1200 else if i ≤ 42 then 1000 else 100

def State.pct (s : State) (i : Nat) : Nat := (s.pwr.islandPct[i]?).getD 200

/-- The groups of R504, in the order in which they are lowered. -/
def throttleGroups : List (List Nat) :=
  [(List.range 16).map (· + 9), (List.range 8).map (· + 25), (List.range 4).map (· + 5), (List.range 3).map (· + 33)]

/-- An island under gambit margin is not throttled (R504). -/
def State.inMargin (s : State) (i : Nat) : Bool :=
  s.health.gambit.phase == 3 && unitClass s.health.gambit.unit != 0x0B && islandOfUnit s.health.gambit.unit.toNat == i
def State.throttleable (s : State) (i : Nat) : Bool := decide (5 ≤ i) && decide (i ≤ 35) && !s.inMargin i

def State.lower (i : Nat) (s : State) : State := if s.pct i > 100 && s.throttleable i then s.setPct i (s.pct i - 1) else s
def State.raise (i : Nat) (s : State) : State :=
  if s.pct i < 200 && s.throttleable i && !s.islandHot i then s.setPct i (s.pct i + 1) else s
def State.isThrottled (s : State) : Bool := (List.range 44).any (fun i => s.throttleable i && decide (s.pct i < 200))

/-- A class 3 alarm beside an event that the forwarding map does not name already (R505, R507). -/
def State.recordAlarm3 (e : Event) (s : State) : State :=
  let s := s.record e
  if (s.tele.forwarded e.code).isSome then s else { s with tele := s.tele.alarm s.time.now s.time.cycles s.time.opMs e }

/-- The first throttle of a minute is recorded (R505). -/
def State.noteThrottle (s : State) : State :=
  let m := s.time.opMs.toNat / 60000
  if s.pwr.throttleMin == some m then s
  else ({ s with pwr := { s.pwr with throttleMin := some m } }).recordAlarm3 (ev3 0x6030 unitPwr [])

/-- One step down of the first group that is not at half its nominal clock, or the cap is unmet (R504, R505). -/
def State.stepDown (s : State) : State :=
  match throttleGroups.find? (fun g => g.any (fun i => s.throttleable i && decide (s.pct i > 100))) with
  | some g => (g.foldl (fun s i => s.lower i) s).noteThrottle
  | none =>
    if s.pwr.capUnmet then s
    else ({ s with pwr := { s.pwr with capUnmet := true } }).record (ev2 0x6031 unitPwr [])
/-- One step up, in the reverse order. -/
def State.stepUp (s : State) : State :=
  match throttleGroups.reverse.find? (fun g => g.any (fun i => s.throttleable i && !s.islandHot i && decide (s.pct i < 200))) with
  | some g => g.foldl (fun s i => s.raise i) s
  | none => s

def powerAverageTick (watts : U16) (s : State) : State :=
  let cap := s.pwr.capW.toNat
  let below := decide (watts.toNat * 100 ≤ cap * 95)
  let s := { s with pwr := { s.pwr with
    powerW := watts, belowMs := if below then s.pwr.belowMs + 1 else 0
    capUnmet := s.pwr.capUnmet && decide (watts.toNat > cap) } }
  let s := if watts.toNat > cap then s.stepDown else if s.pwr.belowMs ≥ 100 then s.stepUp else s
  if s.isThrottled then { s with pwr := { s.pwr with throttledMs := bump s.pwr.throttledMs } } else s

/-- POWER_AVERAGE_TICK (R503 to R505): a millisecond's reading of the 10 ms average. -/
def execPowerAverageTick (watts : U16) (s : State) : Host.Outcome State Fault Refusal := .next (powerAverageTick watts s)

/-! ## Temperatures (R506, R507, R549) -/

def State.criticalC (s : State) : Int := if s.ident.lx then 115 else 105

/-- An island crosses its critical temperature: THERMTRIP_N and SAFE. -/
def State.checkCritical (i : Nat) (old : U16) (s : State) : State :=
  let t := (s.pwr.temps[i]?).getD 0
  if t.toInt ≥ 10 * s.criticalC ∧ old.toInt < 10 * s.criticalC then
    ({ s with pwr := { s.pwr with thermtrip := true } } : State).enterSafe (ev0 0x6032 unitPwr (arg1 i ++ le16 t))
  else s

def thermalSample (temps : List U16) (s : State) : State :=
  let old := s.pwr.temps
  let s := (List.range 44).foldl (fun s i => match temps[i]? with | some t => s.setTemp i t | none => s) s
  let s := (List.range 44).foldl (fun s i => s.checkCritical i ((old[i]?).getD 0)) s
  let hot := (List.range 44).filter (fun i => s.throttleable i && s.islandHot i)
  let s := if hot.isEmpty then s else (hot.foldl (fun s i => s.lower i) s).noteThrottle
  s.updateCooling

/-- THERMAL_SAMPLE (R506, R507, R549, R10): one temperature for each island, in tenths of a degree; an island without one keeps its
last. -/
def execThermalSample (temps : List U16) (s : State) : Host.Outcome State Fault Refusal := .next (thermalSample temps s)

/-! ## Reservoirs (R508 to R510) -/

def resNum : ResCause → Nat
  | .removed => 1 | .overVoltage => 2 | .overTemperature => 3 | .telemetry => 4 | .ledger => 5

/-- A reservoir leaves service and is bled (R510); a removed module is absent. The manual gives the causes no codes. -/
def State.reservoirOut (i : Fin 2) (c : ResCause) (s : State) : State :=
  if !(s.pwr.hu[i]).inService then s
  else
    let s := (s.bleed i).setHu i (fun r => { r with status := if c = .removed then 0 else 3 })
    (s.record (ev2 0x6010 unitPwr (arg1 i.val ++ [Config.causeCode (0x6010 * 256 + resNum c)]))).checkStanding

/-- RESERVOIR_FAULT (R510). -/
def execReservoirFault (hu : Fin 2) (cause : ResCause) (s : State) : Host.Outcome State Fault Refusal :=
  .next (s.reservoirOut hu cause)

def State.allCharged (s : State) : Bool := s.pwr.hu.toList.all (fun r => r.status == 2)

def reservoirCharged (i : Fin 2) (s : State) : State :=
  let first := i.val == 1 && (s.pwr.hu[(0 : Fin 2)]).status == 1
  if (s.pwr.hu[i]).status != 1 || first || s.job.dev == .boot || s.job.dev == .off then s
  else
    let s := s.setHu i (fun r => { r with
      status := 2, charged := r.charged + (r.ceiling - r.usable), usable := r.ceiling })
    let s := { s with pwr := { s.pwr with bothCharged := s.pwr.bothCharged || s.allCharged } }
    s.checkStanding

/-- RESERVOIR_CHARGED (R509, R512): one reservoir charges at a time, HU0 first. -/
def execReservoirCharged (hu : Fin 2) (s : State) : Host.Outcome State Fault Refusal := .next (reservoirCharged hu s)

/-- A write of OD 8000.02: the standing reservation is checked against the new margin (R512). -/
def marginWrite (v : U32) (s : State) : State := ({ s with pwr := { s.pwr with margin := v } } : State).checkStanding

/-- A ceiling the manual admits (R509). -/
def ceilingOk (v : U32) : Bool := decide (1000000 ≤ v.toNat) && decide (v.toNat ≤ 8000000)

def ceilingWrite (i : Fin 2) (v : U32) (s : State) : State :=
  if !ceilingOk v then s
  else
    let s := s.setHu i (fun r =>
      if r.usable.toNat > v.toNat then { r with ceiling := v, spent := r.spent + (r.usable - v), usable := v }
      else { r with ceiling := v, status := if r.status == 2 && decide (r.usable.toNat < v.toNat) then 1 else r.status })
    s.checkStanding

/-- CEILING_WRITE (R509): a value out of range is refused and has no effect. -/
def execCeilingWrite (hu : Fin 2) (v : U32) (s : State) : Host.Outcome State Fault Refusal := .next (ceilingWrite hu v s)

/-! ## Reconciliation (R513) -/

/-- Granted = released + outstanding. -/
def State.ledgerBalanced (s : State) : Bool :=
  s.pwr.granted == s.pwr.released + BitVec.ofNat 64 s.pwr.reservations.length

/-- The reservoir is there to be measured: its module has not been removed. -/
def Reservoir.fitted (r : Reservoir) : Bool := r.status != 0

/-- A reservoir's energy balances within 0.25 J and 5 % of its ceiling. -/
def Reservoir.balanced (r : Reservoir) (measured : U32) : Bool :=
  let want : Int := (r.lastUsable.toNat : Int) + r.charged.toNat - r.spent.toNat
  let d := want - (measured.toNat : Int)
  decide (20 * d.natAbs ≤ 20 * 250000 + r.ceiling.toNat)

/-- A ledger fault (R513): the event, both reservoirs bled, SAFE. -/
def State.ledgerFault (args : List Byte) (s : State) : State :=
  let s := s.record (ev0 0x6001 unitPwr args)
  ((s.reservoirOut 0 .ledger).reservoirOut 1 .ledger).setDev .safe

def State.measuredOf (l : List U32) (i : Fin 2) (s : State) : U32 := (l[i.val]?).getD (s.pwr.hu[i]).usable

def ledgerReconcile (measured : List U32) (s : State) : State :=
  if !s.ledgerBalanced then
    s.ledgerFault ([Config.causeCode (0x6001 * 256)] ++ le64 s.pwr.granted ++ le64 s.pwr.released ++
      le32 (BitVec.ofNat 32 s.pwr.reservations.length))
  else
    match ([0, 1] : List (Fin 2)).find? (fun i => (s.pwr.hu[i]).fitted && !((s.pwr.hu[i]).balanced (s.measuredOf measured i))) with
    | some i =>
      let r := s.pwr.hu[i]
      s.ledgerFault (arg1 i.val ++ le32 r.lastUsable ++ le32 r.charged ++ le32 r.spent ++ le32 (s.measuredOf measured i))
    | none =>
      let upd (i : Fin 2) (s : State) : State :=
        let m := s.measuredOf measured i
        s.setHu i (fun r => { r with lastUsable := m, usable := m, charged := 0, spent := 0 })
      (upd 1 (upd 0 s)).checkStanding

/-- LEDGER_RECONCILE (R513, R510, R10): the usable energies that the power unit measures. -/
def execLedgerReconcile (measured : List U32) (s : State) : Host.Outcome State Fault Refusal := .next (ledgerReconcile measured s)

/-! ## Output pins (R515) -/

def outputOvercurrent (pin : U8) (s : State) : State :=
  if pin.toNat ≥ 40 || s.pwr.latched.contains pin then s
  else
    ({ s with pwr := { s.pwr with latched := pin :: s.pwr.latched, overcurrents := bump s.pwr.overcurrents } }).record
      (ev3 0x6040 unitPwr [pin])

/-- OUTPUT_OVERCURRENT (R515). -/
def execOutputOvercurrent (pin : U8) (s : State) : Host.Outcome State Fault Refusal := .next (outputOvercurrent pin s)

def outputRelease (v : U8) (s : State) : State := { s with pwr := { s.pwr with latched := s.pwr.latched.filter (· != v) } }

/-- OUTPUT_RELEASE (R515). -/
def execOutputRelease (v : U8) (s : State) : Host.Outcome State Fault Refusal := .next (outputRelease v s)

end Sys2Proof.Machine
end

