-- ==== Sys2Proof/Machine/Pins.lean ====
section
/-! DEFINITION. The sideband signals of the tray links and the 1PPS input (R545 to R547, R448). -/
namespace Sys2Proof.Machine
open Sys2Proof

def trayPort (n : Fin 8) : Port := ⟨n.val, by omega⟩
def State.pwrgd (s : State) (n : Fin 8) : Bool := s.pwr.accPwrgd.getLsbD n.val

/-- ACC_RST_N of a tray link is latched at high impedance; the board then holds the accelerator in reset (R515). The pins are
numbered as notes/assumptions/51.md says. -/
def State.rstLatched (s : State) (n : Fin 8) : Bool := s.pwr.latched.contains (BitVec.ofNat 8 (32 + n.val))
/-- ACC_RST_N of a tray link is released: its bit is set and the accelerator's power is good (R546). -/
def State.accReleased (s : State) (n : Fin 8) : Bool := s.pwr.accRelease.getLsbD n.val && s.pwrgd n && !s.rstLatched n

def accResetReleaseWrite (v : U8) (s : State) : State := { s with pwr := { s.pwr with accRelease := v } }

/-- ACC_RESET_RELEASE_WRITE (R546). -/
def execAccResetReleaseWrite (v : U8) (s : State) : Host.Outcome State Fault Refusal := .next (accResetReleaseWrite v s)

def accPwrgdFall (n : Fin 8) (s : State) : State :=
  if !s.pwrgd n then s
  else
    let lost := s.pwr.accRelease.getLsbD n.val
    let s := { s with pwr := { s.pwr with accPwrgd := s.pwr.accPwrgd &&& ~~~(1#8 <<< n.val) } }
    if !lost then s
    else
      let s := ({ s with pwr := { s.pwr with pwrLosses := bump s.pwr.pwrLosses } }).record (ev3 0x6043 unitPwr (arg1 n.val))
      s.loseAgent (trayPort n)

/-- ACC_PWRGD_FALL (R546, R404). -/
def execAccPwrgdFall (tl : Fin 8) (s : State) : Host.Outcome State Fault Refusal := .next (accPwrgdFall tl s)

def accPwrgdRise (n : Fin 8) (s : State) : State :=
  { s with pwr := { s.pwr with accPwrgd := s.pwr.accPwrgd ||| (1#8 <<< n.val) } }

/-- ACC_PWRGD_RISE (R546). -/
def execAccPwrgdRise (tl : Fin 8) (s : State) : Host.Outcome State Fault Refusal := .next (accPwrgdRise tl s)

def accAlert (n : Fin 8) (s : State) : State :=
  ({ s with pwr := { s.pwr with
      alerts := bump s.pwr.alerts, alertWait := s.pwr.alertWait ++ [trayPort n] } }).record
    (ev3 0x6041 unitPwr (arg1 n.val))

/-- ACC_ALERT (R547). -/
def execAccAlert (tl : Fin 8) (s : State) : Host.Outcome State Fault Refusal := .next (accAlert tl s)

def accAlertNoReport (n : Fin 8) (s : State) : State :=
  if !(s.pwr.alertWait.contains (trayPort n)) then s
  else
    let s := { s with pwr := { s.pwr with alertWait := s.pwr.alertWait.erase (trayPort n) } }
    { s with tele := s.tele.alarm s.time.now s.time.cycles s.time.opMs (ev2 0x6041 unitPwr (arg1 n.val)) }

/-- ACC_ALERT_NO_REPORT (R547): the class 2 alarm carries the record of the assertion. -/
def execAccAlertNoReport (tl : Fin 8) (s : State) : Host.Outcome State Fault Refusal := .next (accAlertNoReport tl s)

def accTherm (n : Fin 8) (s : State) : State :=
  ({ s with pwr := { s.pwr with therms := bump s.pwr.therms } }).record (ev2 0x6042 unitPwr (arg1 n.val))

/-- ACC_THERM (R547). -/
def execAccTherm (tl : Fin 8) (s : State) : Host.Outcome State Fault Refusal := .next (accTherm tl s)

/-- An edge that does not follow the last accepted one within 0.9 s to 1.1 s (R545). -/
def State.ppsBad (s : State) : Bool :=
  match s.pwr.ppsLast with
  | some t => decide (s.time.now - t < 900) || decide (s.time.now - t > 1100)
  | none => false

def ppsEdge (sec : U64) (s : State) : State :=
  if s.ppsBad then { s with pwr := { s.pwr with ppsRejected := bump s.pwr.ppsRejected, ppsLast := none } }
  else
    let s := { s with pwr := { s.pwr with ppsLast := some s.time.now } }
    if s.acc.todPlane == 0 then s
    else s.trace 0 6 unitCC 0xFF 0xFF 0 (leBytes 6 sec.toNat ++ le32 s.tele.markInt ++ List.replicate 6 0)

/-- PPS_EDGE (R545, R448): the second that the edge marks. -/
def execPpsEdge (sec : U64) (s : State) : Host.Outcome State Fault Refusal := .next (ppsEdge sec s)

end Sys2Proof.Machine
end

