-- ==== Sys2Proof/Machine/Recorder.lean ====
section
/-! DEFINITION. The commands of the recorder, the traces, the program-counter samples and the alarms (R427 to R456). -/
namespace Sys2Proof.Machine
open Sys2Proof

/-! ## Freeze and clear (R433, R435) -/

/-- Queued entries are appended in order, each with the next sequence or refused (R433). -/
def TeleState.appendAll (cyc : U32) (op : U64) (l : List EventRec) (t : TeleState) : TeleState :=
  l.foldl (fun t r => (t.append cyc op r).1) t

def State.setTele (f : TeleState → TeleState) (s : State) : State := { s with tele := f s.tele }

/-- The holding queue enters the recorder; event 0x8002 when entries were refused during the freeze. -/
def State.drainHolding (l : List EventRec) (s : State) : State :=
  let lost := s.tele.holdRefused - s.tele.holdRefusedAt
  let s := s.setTele (fun t => { t.appendAll s.time.cycles s.time.opMs l with holdRefusedAt := s.tele.holdRefused })
  if lost == 0 then s else s.record (ev3 0x8002 unitRec (arg4 (lost.setWidth 32)))

def State.unfreeze (s : State) : State :=
  let l := s.tele.holding
  (s.setTele (fun t => { t with frozen := false, holding := [] })).drainHolding l

def recorderFreeze (s : State) : State :=
  if s.tele.frozen then s else s.setTele (fun t => { t with frozen := true, holdRefusedAt := t.holdRefused })
def recorderUnfreeze (s : State) : State := if s.tele.frozen then s.unfreeze else s
/-- A write of OD 7000.01. -/
def recorderFreezeWrite (v : U8) (s : State) : State := if v == 1 then recorderFreeze s else recorderUnfreeze s
def freezeTimeout (s : State) : State :=
  if s.tele.frozen then s.unfreeze.record (ev3 0x8003 unitRec []) else s

/-- RECORDER_FREEZE (R433). -/
def execRecorderFreeze (s : State) : Host.Outcome State Fault Refusal := .next (recorderFreeze s)
/-- RECORDER_UNFREEZE (R433). -/
def execRecorderUnfreeze (s : State) : Host.Outcome State Fault Refusal := .next (recorderUnfreeze s)
/-- FREEZE_TIMEOUT (R433). -/
def execFreezeTimeout (s : State) : Host.Outcome State Fault Refusal := .next (freezeTimeout s)

/-- Slots in use, the full record included (OD 7000.07). -/
def TeleState.slotsUsed (t : TeleState) : Nat := t.slots.length + (if t.full.isSome then 1 else 0)

/-- A clear whose signature holds (R435). -/
def State.clearRecorder (key : U16) (s : State) : State :=
  let l := s.tele.holding
  let n := s.tele.slotsUsed
  let s := s.setTele (fun t => { t with frozen := false, holding := [], slots := [], full := none })
  (s.record (ev3 0x8004 unitRec (le16 key ++ leBytes 4 n))).drainHolding l
def State.refuseClear (key : U16) (s : State) : State :=
  (s.setTele (fun t => { t with clearRefused := bump t.clearRefused })).record (ev3 0x8005 unitRec (le16 key))
def recorderClear (key : U16) (holds : Bool) (s : State) : State := if holds then s.clearRecorder key else s.refuseClear key

/-- RECORDER_CLEAR (R435): holds says whether the signature holds and the key is a listed operator key. -/
def execRecorderClear (key : U16) (holds : Bool) (s : State) : Host.Outcome State Fault Refusal := .next (recorderClear key holds s)

/-! ## Program-counter samples (R443) -/

/-- The bit of OD 6500.02 that enables a unit. -/
def sampleBit (unit : U16) : Option Nat :=
  let n := unit.toNat % 256
  match unit.toNat / 256 with
  | 9 => if n < 4 then some n else none
  | 2 => if n < 16 then some (4 + n) else none
  | 1 => if n < 8 then some (20 + n) else none
  | _ => none

/-- Samples in the 32 MiB ring. -/
def sampleSlots : Nat := 2097152

/-- The 16-bit register with taps 16, 14, 13 and 11, one step on. -/
def lfsrNext (r : U16) : U16 :=
  let b := (r.getLsbD 0 ^^ r.getLsbD 2) ^^ (r.getLsbD 3 ^^ r.getLsbD 5)
  (r >>> 1) ||| (if b then 0x8000#16 else 0#16)

/-- The jitter register of a unit advances with each of its samples. -/
def stepLfsr (unit : U16) (l : List (U16 × U16)) : List (U16 × U16) :=
  if l.any (·.1 == unit) then l.map (fun e => if e.1 == unit then (e.1, lfsrNext e.2) else e) else l ++ [(unit, lfsrNext unit)]

def pcSample (unit : U16) (loc : U32) (st ctx : U8) (s : State) : State :=
  match sampleBit unit with
  | none => s
  | some b =>
    if s.tele.sampEvery == 0 || !(s.tele.sampUnits.getLsbD b) then s
    else
      let x : Sample := ⟨s.ns (islandOfUnit unit.toNat) &&& 0xFFFFFFFFFFFF#64, unit, loc, st, ctx⟩
      let t := s.tele
      let full := decide (t.samples.length ≥ sampleSlots)
      let oldest := t.sampWritten.toNat - sampleSlots
      s.setTele (fun t => { t.countBytes 3 16 with
        samples := (if full then t.samples.drop 1 else t.samples) ++ [x]
        sampWritten := bump t.sampWritten
        sampOver := if full && decide (t.sampRead.toNat ≤ oldest) then bump t.sampOver else t.sampOver
        lfsr := stepLfsr unit t.lfsr })

/-- PC_SAMPLE (R443). -/
def execPcSample (unit : U16) (loc : U32) (st : U8) (ctx : U8) (s : State) : Host.Outcome State Fault Refusal :=
  .next (pcSample unit loc st ctx s)

/-! ## Trace control (R446) -/

def traceStart (s : State) : State := s.setTele (fun t => { t with traceStatus := 1, traceRefused := false })
def traceStop (s : State) : State := s.setTele (fun t => { t with traceStatus := 0, traceRefused := false })
def traceClear (s : State) : State :=
  s.setTele (fun t => if t.traceStatus == 1 then { t with traceRefused := true }
    else { t with trace := [], traceStatus := 0, traceRefused := false })

/-- TRACE_START (R446). -/
def execTraceStart (s : State) : Host.Outcome State Fault Refusal := .next (traceStart s)
/-- TRACE_STOP (R446). -/
def execTraceStop (s : State) : Host.Outcome State Fault Refusal := .next (traceStop s)
/-- TRACE_CLEAR (R446): refused while running. -/
def execTraceClear (s : State) : Host.Outcome State Fault Refusal := .next (traceClear s)

/-! ## Alarms (R449 to R454) -/

/-- The coalescing wait of a class 2 message is over (R451). -/
def PlaneQ.endWait (seq : U32) (q : PlaneQ) : PlaneQ :=
  { q with queue := q.queue.map (fun a => if a.seq == seq then { a with waiting := false } else a) }
def alarmCoalesceExpiry (seq : U32) (s : State) : State :=
  s.setTele (fun t => { t with planes := t.planes.map (PlaneQ.endWait seq) })

/-- ALARM_COALESCE_EXPIRY (R451). -/
def execAlarmCoalesceExpiry (seq : U32) (s : State) : Host.Outcome State Fault Refusal := .next (alarmCoalesceExpiry seq s)

/-- The message of a plane that leaves next: the lowest class first, the oldest first within a class (R452). -/
def PlaneQ.nextOut (q : PlaneQ) : Option Nat :=
  let of (c : U8) : Option Nat := q.queue.findIdx? (fun a => a.cls == c && !a.waiting)
  (of 2).or ((of 3).or (of 4))

def alarmSend (i : Fin 2) (s : State) : State :=
  let q := s.tele.planes[i]
  if q.tokensMilli < 1000 then s
  else
    match q.nextOut with
    | none => s
    | some k =>
      match q.queue[k]? with
      | none => s
      | some a =>
        let q' := { q with queue := q.queue.eraseIdx k, tokensMilli := q.tokensMilli - 1000
                           delivered := addAt q.delivered a.cls.toNat a.represented.toNat }
        s.setTele (fun t => ({ t with planes := t.planes.set i q' }).planeSend i false a)

/-- ALARM_SEND (R452): a message leaves plane MA, or plane MB where the operand says so, when a token is present. -/
def execAlarmSend (plane : Bool) (s : State) : Host.Outcome State Fault Refusal := .next (alarmSend (if plane then 1 else 0) s)

/-- Every entry of the hold is sent again on both planes, flagged as resent (R453). -/
def alarmHoldResend (s : State) : State :=
  let send (t : TeleState) (a : Alarm) : TeleState :=
    let a := { a with resent := true }
    (t.planeSend 0 true a).planeSend 1 true a
  s.setTele (fun t => t.hold.foldl send t)

/-- ALARM_HOLD_RESEND (R453). -/
def execAlarmHoldResend (s : State) : Host.Outcome State Fault Refusal := .next (alarmHoldResend s)

/-- The alarms of an entry of the hold are delivered, each under its own class (R454). -/
def TeleState.deliverHeld (a : Alarm) (t : TeleState) : TeleState :=
  let other := if a.cls == 0 then 1 else 0
  let own := addAt t.holdDelivered a.cls.toNat (a.represented.toNat - a.repOther.toNat)
  { t with holdDelivered := addAt own other a.repOther.toNat }

def alarmAcknowledge (seq : U32) (s : State) : State :=
  match s.tele.hold.find? (·.seq == seq) with
  | none => s
  | some a => s.setTele (fun t => { (t.deliverHeld a) with hold := t.hold.erase a, holdFull := false })

/-- ALARM_ACKNOWLEDGE (R453): an acknowledgement on one plane delivers the alarm on both. -/
def execAlarmAcknowledge (seq : U32) (s : State) : Host.Outcome State Fault Refusal := .next (alarmAcknowledge seq s)

end Sys2Proof.Machine
end

