-- ==== Sys2Proof/Machine/Exerciser.lean ====
section
/-! DEFINITION. The commands of exerciser mode (R518 to R532). -/
namespace Sys2Proof.Machine
open Sys2Proof

def State.setExer (f : ExState → ExState) (s : State) : State := { s with exer := f s.exer }

/-- A refusal of an entry, a run start or an injection (R518, R522, R526); the first two show it in OD A000.02. -/
def State.refuseExer (show_ : Bool) (s : State) : State :=
  (s.setExer (fun x => { x with
    status := if show_ then 4 else x.status, refusals := bump x.refusals })).record (ev3 0x1092 unitSwitch [])

/-- The results of a port and what a run keeps beside them start again (R518, R522). -/
def ExPort.cleared (x : ExPort) : ExPort :=
  { x with
    counts := Vector.replicate 32 0, sent := 0, checked := 0, bits := 0, capture := [], nextBlk := 0, lastBlk := none
    injections := [], sinceInj := 0, waitReact := [], deferSeen := false, slots := 0 }

def allPorts : List Port := List.finRange 24
/-- A fresh training on every enabled port. -/
def State.trainAll (s : State) : State := allPorts.foldl (fun s p => s.startTraining p false) s

/-! ## Entering and leaving -/

def exerciserEnter (s : State) : State :=
  if s.job.dev != .standby || !s.heldTags.isEmpty then s.refuseExer true
  else
    let s := (s.record (ev3 0x1090 unitSwitch [])).setExer
      (fun x => { x with ports := x.ports.map ExPort.cleared, status := 1 })
    (s.setDev .exerciser).trainAll

/-- EXERCISER_ENTER (R518). -/
def execExerciserEnter (s : State) : Host.Outcome State Fault Refusal := .next (exerciserEnter s)

/-- Pieces asked for again and never resent break R530. -/
def State.neverResent (s : State) : List (U32 × U32 × U32 × U8) :=
  s.exer.held.eraseDups.filter (fun h => !(s.exer.seenPieces.any (fun k => k.1 == h.1 && k.2.1 == h.2.1 && k.2.2.1 == h.2.2.1)))
/-- The tray links in mode 3. -/
def State.peerPorts (s : State) : List Port := allPorts.filter (fun p => decide (p.val < 8) && (s.exPort p).mode == 3)
def State.breakAgent (s : State) : State := s.peerPorts.foldl (fun s p => s.exerCheck p 0x11 []) s

/-- A run ends: status 3 and event 0x1095 (R522). -/
def State.endExRun (s : State) : State :=
  if s.exer.status != 2 then s
  else
    let s := s.neverResent.foldl (fun s _ => s.breakAgent) s
    (s.setExer (fun x => { x with status := 3, expecting := none, gambitSeq := none })).record
      (ev3 0x1095 unitSwitch (arg4 s.exer.runNo))

def exerciserLeave (s : State) : State :=
  if s.job.dev != .exerciser then s
  else
    let s := (s.endExRun.setExer (fun x => { x with status := 0 })).trainAll
    s.enterStandby.record (ev3 0x1091 unitSwitch [])

/-- EXERCISER_LEAVE (R520): what arrives at the exerciser is checked and stored nowhere, so no area of the tiers was used. -/
def execExerciserLeave (s : State) : Host.Outcome State Fault Refusal := .next (exerciserLeave s)

/-! ## Runs (R522) -/

def State.runBad (s : State) : Bool :=
  s.job.dev != .exerciser || s.exer.status == 2 ||
  allPorts.any (fun p => decide (8 ≤ p.val) && (s.exPort p).mode == 3) ||
  (s.exer.script.isEmpty && decide (s.peerPorts.length > 1)) ||
  allPorts.any (fun p => (s.exPort p).mode != 0 && (s.port p).st != .active)

/-- The JT and epoch of a script are those of its first entry, an EPOCH action (R529). -/
def scriptTags (l : List ScriptEntry) : U16 × U32 :=
  match l with
  | e :: _ => if e.act == 1 then (field16 e.ops 0, field32 e.ops 2) else (0, 0)
  | [] => (0, 0)

def exerciserRunStart (s : State) : State :=
  if s.runBad then s.refuseExer true
  else
    let (jt, ep) := scriptTags s.exer.script
    s.setExer (fun x => { x with
      runNo := x.runNo + 1, status := 2, ports := x.ports.map ExPort.cleared, pos := 0, jt := jt, epoch := ep
      withhold := false, held := [], opened := [], failedSteps := [], seenPieces := [], expecting := none, gambitSeq := none })

/-- EXERCISER_RUN_START (R522). -/
def execExerciserRunStart (s : State) : Host.Outcome State Fault Refusal := .next (exerciserRunStart s)
def exerciserRunStop (s : State) : State := s.endExRun
/-- EXERCISER_RUN_STOP (R522). -/
def execExerciserRunStop (s : State) : Host.Outcome State Fault Refusal := .next (exerciserRunStop s)
def runLengthExpiry (s : State) : State := if s.exer.lengthMs == 0 then s else s.endExRun
/-- RUN_LENGTH_EXPIRY (R522). -/
def execRunLengthExpiry (s : State) : Host.Outcome State Fault Refusal := .next (runLengthExpiry s)

/-! ## Injections (R526 to R528) -/

def injectionAction (bytes : List Byte) (s : State) : State :=
  let code := byteAt bytes 1
  match portOfField (BitVec.ofNat 5 (min 31 (byteAt bytes 0).toNat)) with
  | none => s.refuseExer false
  | some p =>
    let x := s.exPort p
    if s.exer.status != 2 || s.job.dev != .exerciser || x.mode == 0 || code == 0 || decide (code.toNat > 9) ||
        byteAt bytes 3 == 0 || decide (x.injections.length ≥ 16) then s.refuseExer false
    else s.setExPort p (fun x => { x with injections := x.injections ++ [(code, byteAt bytes 2, byteAt bytes 3, field32 bytes 4)] })

/-- INJECTION_ACTION (R526). -/
def execInjectionAction (bytes : List Byte) (s : State) : Host.Outcome State Fault Refusal := .next (injectionAction bytes s)

/-- The reaction of a code is silent by definition (R528). -/
def silentCode (code : U8) : Bool := code == 6 || code == 8 || code == 9

def reactionDeadline (p : Port) (code : U8) (s : State) : State :=
  match (s.exPort p).waitReact.findIdx? (· == code) with
  | none => s
  | some i =>
    let s := s.setExPort p (fun x => { x with waitReact := x.waitReact.eraseIdx i })
    if silentCode code then s.setExer (fun x => { x with passed := bump x.passed })
    else
      ((s.setExer (fun x => { x with failed := bump x.failed })).exerCheck p 0x10 []).record
        (ev3 0x1094 unitSwitch (arg1 p.val ++ [code]))

/-- REACTION_DEADLINE (R528): the deadline of the oldest injection of a code that a port awaits has passed. -/
def execReactionDeadline (p : Port) (code : U8) (s : State) : Host.Outcome State Fault Refusal := .next (reactionDeadline p code s)

/-! ## The script (R529, R530) -/

/-- The operands of the entry that is to run next, when it is the action and nothing is expected. -/
def State.scriptOps (s : State) (act : U8) : Option (List Byte) :=
  if s.exer.status != 2 || s.job.dev != .exerciser || s.exer.expecting.isSome then none
  else match s.exer.script[s.exer.pos.toNat]? with
    | some e => if e.act == act then some e.ops else none
    | none => none
/-- Run an action on every agent peer and move on (R529). -/
def State.scriptRun (act : U8) (f : List Byte → State → State) (s : State) : State :=
  match s.scriptOps act with
  | none => s
  | some ops => (f ops s).setExer (fun x => { x with pos := x.pos + 1 })
def State.toPeers (f : Port → State → State) (s : State) : State := s.peerPorts.foldl (fun s p => f p s) s

def scriptEpoch (s : State) : State :=
  s.scriptRun 1 fun ops s =>
    s.toPeers (fun p s => s.exerSend p opFENCE 0 ([5, 3, 0, 0] ++ le32 (field32 ops 2)) [] [])
/-- SCRIPT_EPOCH (R529, R396): an INSTALL with an empty fence list. -/
def execScriptEpoch (s : State) : Host.Outcome State Fault Refusal := .next (scriptEpoch s)

/-- The anchors of segment q of the tensor table (R251). -/
def State.tableSegment (s : State) (q : Nat) : List Byte :=
  (List.range 2048).flatMap (fun i => le16 (ofSigned16 (s.tableAnchor (BitVec.ofNat 32 (2048 * q + i)))))
/-- The segments that hold a tensor of the table. -/
def State.tableSegments (s : State) : List Nat := (s.upd.table.map (fun e => (tensorOf e.ts).toNat / 2048)).eraseDups

def scriptStepOpen (s : State) : State :=
  s.scriptRun 2 fun ops s =>
    let step := field32 ops 0
    let one (p : Port) (s : State) (q : Nat) : State :=
      s.exerSend p opFENCE step ([1, 0, 0, 0] ++ le32 (field32 ops 4) ++ leBytes 4 q) [] (s.tableSegment q)
    (s.toPeers (fun p s => s.tableSegments.foldl (one p) s)).setExer (fun x => { x with opened := x.opened ++ [step] })
/-- SCRIPT_STEP_OPEN (R529, R251). -/
def execScriptStepOpen (s : State) : Host.Outcome State Fault Refusal := .next (scriptStepOpen s)

/-- A WEIGHT block of the script: pattern PRBS31 under the port's seed, as FP32 elements (R529, notes/assumptions/60.md). -/
def State.scriptWeight (s : State) (p : Port) (step : U32) (blk : Nat) : Block :=
  let dst := match (s.port p).peer with | some i => cnOf i.cn | none => 0
  let b := BitVec.ofNat 32 blk
  let pay := genPayload 1 (s.exPort p).seed b []
  let h : Header := { Header.zero with
    typ := 5, fmt := 2, jt := s.exer.jt, epoch := s.exer.epoch, step := step, blk := b, count := 1024, src := s.own, dst := dst
    flags := setFlag 0 7 ((unpackPlain 2 pay 1024).any (fun v => !v.isFinite)) }
  (⟨h, pay⟩ : Block).seal
def scriptStream (s : State) : State :=
  s.scriptRun 3 fun ops s =>
    s.toPeers (fun p s => (List.range (field32 ops 0).toNat).foldl
      (fun s i => s.enqueue p 3 (.block (s.scriptWeight p (field32 ops 4) i))) s)
/-- SCRIPT_STREAM (R529): the operands are n and the step. -/
def execScriptStream (s : State) : Host.Outcome State Fault Refusal := .next (scriptStream s)

def scriptExpect (s : State) : State :=
  s.scriptRun 4 fun ops s =>
    let n := (field32 ops 0).toNat
    s.setExer (fun x => { x with expecting := if n = 0 then none else some (x.opened.getLast?.getD 0, n) })
/-- SCRIPT_EXPECT (R529): n CONTRIBs of the step last opened. -/
def execScriptExpect (s : State) : Host.Outcome State Fault Refusal := .next (scriptExpect s)

def expectTimeout (s : State) : State :=
  if s.exer.expecting.isNone then s else s.breakAgent.setExer (fun x => { x with expecting := none })
/-- EXPECT_TIMEOUT (R530). -/
def execExpectTimeout (s : State) : Host.Outcome State Fault Refusal := .next (expectTimeout s)

def scriptAckPolicy (s : State) : State := s.scriptRun 5 fun ops s => s.setExer (fun x => { x with withhold := byteAt ops 0 == 1 })
/-- SCRIPT_ACK_POLICY (R529). -/
def execScriptAckPolicy (s : State) : Host.Outcome State Fault Refusal := .next (scriptAckPolicy s)

def scriptResend (s : State) : State :=
  s.scriptRun 6 fun ops s =>
    let reason := byteAt ops 0
    let ask (p : Port) (s : State) (h : U32 × U32 × U32 × U8) : State :=
      let b := le16 (if reason == 2 then ofSigned16 (s.tableAnchor (tensorOf h.2.1)) else 0) ++
        le16 (if 3 ≤ reason.toNat ∧ reason.toNat ≤ 5 then s.red.retryUs else 0) ++ [h.2.2.2]
      s.exerSend p opRESEND_REQ (s.exer.opened.getLast?.getD 0) (ackA h.2.1 h.2.2.1 1 opCONTRIB reason h.1) b []
    let s := s.toPeers (fun p s => s.exer.held.eraseDups.foldl (ask p) s)
    s.setExer (fun x => { x with
      seenPieces := x.seenPieces.filter (fun k => !(x.held.any (fun h => k.1 == h.1 && k.2.1 == h.2.1 && k.2.2.1 == h.2.2.1))) })
/-- SCRIPT_RESEND (R529). -/
def execScriptResend (s : State) : Host.Outcome State Fault Refusal := .next (scriptResend s)

def scriptFail (s : State) : State :=
  s.scriptRun 7 fun ops s =>
    (s.toPeers (fun p s => s.exerSend p opFENCE (field32 ops 0) ([3, 0, 0, 0] ++ le16 (field16 ops 4)) [] [])).setExer
      (fun x => { x with failedSteps := x.failedSteps ++ [field32 ops 0] })
/-- SCRIPT_FAIL (R529, R251): the operands are the step and the event code. -/
def execScriptFail (s : State) : Host.Outcome State Fault Refusal := .next (scriptFail s)

def scriptGambit (s : State) : State :=
  s.scriptRun 8 fun ops s =>
    (s.toPeers (fun p s => s.exerSend p opFENCE 0 ([10, 0, 0, 0] ++ padTo 12 ops) [] [])).setExer
      (fun x => { x with gambitSeq := some (field32 ops 0) })
/-- SCRIPT_GAMBIT (R529, R423): the twelve operand bytes are A[4:15] of the request. -/
def execScriptGambit (s : State) : Host.Outcome State Fault Refusal := .next (scriptGambit s)

def scriptEnd (s : State) : State := match s.scriptOps 9 with | none => s | some _ => s.endExRun
/-- SCRIPT_END (R529). -/
def execScriptEnd (s : State) : Host.Outcome State Fault Refusal := .next (scriptEnd s)

end Sys2Proof.Machine
end

