-- ==== Sys2Proof/Machine/Movers.lean ====
section
/-! DEFINITION. The commands of the movers (R345 to R357). -/
namespace Sys2Proof.Machine
open Sys2Proof

/-- A start by action or group (R348, R351): passes from the first, or armed for its trigger channel. -/
def State.startChan (c : Chan) (s : State) : State :=
  let s := (s.setChan c (fun h => { h with status := 1, pass := 0, resume := 0, issued := 0, fail := 0, heldStart := false
                                           partOn := true, passActive := false, hostStarted := true })).issuePart c
  if (s.chan c).trigger = 2 then s else s.startPassOf c

def moverStart (c : Chan) (s : State) : State :=
  match s.startRefused c with
  | some cause => s.refuseChan c 5 cause
  | none => s.startChan c

/-- MOVER_START (R348): an action of 1. -/
def execMoverStart (c : Chan) (s : State) : Host.Outcome State Fault Refusal := .next (moverStart c s)

/-- An abort (R348): data already read is written, and the channel ends with status 6. -/
def State.abortChan (c : Chan) (s : State) : State :=
  let h := s.chan c
  if !h.started then s
  else
    s.endWhenWritten c 6 h.fail 0

/-- MOVER_ABORT (R348). -/
def execMoverAbort (c : Chan) (s : State) : Host.Outcome State Fault Refusal := .next (s.abortChan c)

def moverPause (c : Chan) (s : State) : State :=
  s.setChan c (fun h => { h with
    control := h.control ||| ChanState.pauseBit
    status := if h.passActive && h.outstanding == 0 && h.buffered.isEmpty then 3 else h.status })

/-- MOVER_PAUSE (R352): reads already issued complete. -/
def execMoverPause (c : Chan) (s : State) : Host.Outcome State Fault Refusal := .next (moverPause c s)

def moverResume (c : Chan) (s : State) : State :=
  let s := s.setChan c (fun h => { h with control := h.control &&& ~~~ ChanState.pauseBit })
  if (s.chan c).paused then s else s.unpause c

/-- MOVER_RESUME (R352). -/
def execMoverResume (c : Chan) (s : State) : Host.Outcome State Fault Refusal := .next (moverResume c s)

def moverTimerTick (c : Chan) (s : State) : State :=
  let h := s.chan c
  if h.trigger = 1 && h.started then s.startPassOf c else s

/-- MOVER_TIMER_TICK (R351). -/
def execMoverTimerTick (c : Chan) (s : State) : Host.Outcome State Fault Refusal := .next (moverTimerTick c s)

def moverReadComplete (c : Chan) (r : MoverRead) (s : State) : State :=
  let h := s.chan c
  if !h.passActive then s
  else
    match r with
    | .own =>
      if h.outstanding = 0 || h.ending.isSome || !(s.ownAddr (h.srcAt h.pass.toNat)) then s
      else if h.blockMode then s.readBlk c else s.readRaw c
    | .remote status data => s.respChan c status data

/-- MOVER_READ_COMPLETE (R345, R349, R350, R354). -/
def execMoverReadComplete (c : Chan) (r : MoverRead) (s : State) : Host.Outcome State Fault Refusal :=
  .next (moverReadComplete c r s)

/-- The channels that a completed pass of c starts (R351). -/
def State.chained (s : State) (c : Chan) : List Chan :=
  (List.finRange 64).filter (fun d => (s.chan d).trigger == 2 && (s.chan d).trigChan == c.val && (s.chan d).started)

/-- After a pass: the next pass, or the end of the part (R351). -/
def State.afterPass (c : Chan) (s : State) : State :=
  let h := s.chan c
  if h.repeats != 0 && h.pass == h.repeats then s.endPart c 4
  else
    let s := s.setChan c (fun h => { h with resume := 0, issued := 0 })
    if h.trigger = 0 then s.startPassOf c
    else if h.heldStart && !h.paused && !(s.ownedChan c) then s.beginPass c
    else s.setChan c (fun h => { h with status := 1 })

def moverPassEnd (c : Chan) (s : State) : State :=
  let h := s.chan c
  if h.passActive && h.resume == h.len then
    let s := s.setChan c (fun h => { h with passActive := false, pass := h.pass + 1 })
    let s := s.afterPass c
    (s.chained c).foldl (fun s d => s.startPassOf d) s
  else s

/-- MOVER_PASS_END (R351). -/
def execMoverPassEnd (c : Chan) (s : State) : Host.Outcome State Fault Refusal := .next (moverPassEnd c s)

def moverRemoteTimeout (c : Chan) (s : State) : State :=
  let h := s.chan c
  if !h.passActive then s
  else if h.sending != 0 then s.failChan c 3 1
  else if h.outstanding != 0 && !(s.ownAddr (h.srcAt h.pass.toNat)) then s.failChan c 3 0
  else s

/-- MOVER_REMOTE_TIMEOUT (R354): no READ_RESP within OD 3440.03. -/
def execMoverRemoteTimeout (c : Chan) (s : State) : Host.Outcome State Fault Refusal := .next (moverRemoteTimeout c s)

/-! ## Groups (R356) -/

/-- A refused group action (R356). -/
def State.refuseGroup (s : State) : State :=
  ({ s with mov := { s.mov with refusals := bump s.mov.refusals } }).record (ev3 0x3400 unitCC [])

def groupStart (g : U8) (s : State) : State :=
  let cs := s.groupChans g
  let ready (c : Chan) : Bool := [0, 4, 5, 6].contains (s.chan c).status.toNat
  if g == 0 || !(cs.all ready) then s.refuseGroup else cs.foldl (fun s c => moverStart c s) s

/-- GROUP_START (R356). -/
def execGroupStart (g : U8) (s : State) : Host.Outcome State Fault Refusal := .next (groupStart g s)

/-- A failed part starts again as a new part, from its pass and resume point (R356): one that no pass of its trigger channel had
started is armed again. -/
def State.restartChan (c : Chan) (s : State) : State :=
  let s := (s.setChan c (fun h => { h with
    status := 1, fail := 0, partOn := true, passActive := false, heldStart := false, hostStarted := true })).issuePart c
  let h := s.chan c
  if h.trigger = 2 ∧ h.resume = 0 then s else s.startPassOf c

def groupRetry (g : U8) (s : State) : State :=
  if g == 0 || (s.mov.group g).state != 3 then s.refuseGroup
  else ((s.groupChans g).filter (fun c => (s.chan c).lastOk == some false)).foldl (fun s c => s.restartChan c) s

/-- GROUP_RETRY (R356). -/
def execGroupRetry (g : U8) (s : State) : Host.Outcome State Fault Refusal := .next (groupRetry g s)

def groupAbort (g : U8) (s : State) : State :=
  if g == 0 then s.refuseGroup else (s.groupChans g).foldl (fun s c => s.abortChan c) s

/-- GROUP_ABORT (R356). -/
def execGroupAbort (g : U8) (s : State) : Host.Outcome State Fault Refusal := .next (groupAbort g s)

/-! ## Conservation (R357) -/

/-- The byte equation of a channel. -/
def ChanState.balanced (h : ChanState) : Bool :=
  h.bytesRead == h.bytesWritten + BitVec.ofNat 64 h.buffered.length + h.discarded

/-- Cells held by all channels and free cells. -/
def State.cellsBalanced (s : State) : Bool := s.mov.cellsFree.toNat + (s.mov.chans.toList.map (·.cells)).sum == bufCells

def moverReconcile (s : State) : State :=
  match (List.finRange 64).find? (fun c => !(s.chan c).balanced) with
  | some c =>
    let h := s.chan c
    s.enterSafe (ev0 0x3403 unitCC (arg1 c.val ++ arg8 h.bytesRead ++ arg8 h.bytesWritten ++
      leBytes 8 h.buffered.length ++ arg8 h.discarded))
  | none =>
    if s.cellsBalanced then s else s.enterSafe (ev0 0x3403 unitCC ([0xFF] ++ List.replicate 32 0))

/-- MOVER_RECONCILE (R357). -/
def execMoverReconcile (s : State) : Host.Outcome State Fault Refusal := .next (moverReconcile s)

end Sys2Proof.Machine
end

