-- ==== Sys2Proof/Machine/Detector.lean ====
section
/-! DEFINITION. The commands of the detector (R393 to R407): watching, suspicion, arbitration, fencing, isolation, eviction and
epoch fences. -/
namespace Sys2Proof.Machine
open Sys2Proof

/-! ## Watching (R394, R395, R399, R403) -/

def watchdogFeed (answers : Bool) (s : State) : State :=
  { s with det := { s.det with watchdogFed := answers && s.job.dev != .safe && s.job.dev != .fenced } }

/-- WATCHDOG_FEED (R394). -/
def execWatchdogFeed (answers : Bool) (s : State) : Host.Outcome State Fault Refusal := .next (watchdogFeed answers s)

/-- SUSPICION_TIMEOUT (R395): OD 4000.02 has passed without a HEARTBEAT of the expected peer. -/
def execSuspicionTimeout (p : Port) (s : State) : Host.Outcome State Fault Refusal := .next (s.suspectPort p)

/-- The fabric job ports (R393). -/
def State.fabricJobPorts (s : State) : List Port := (List.finRange 24).filter (fun p => decide (8 ≤ p.val) && s.jobPort p)

/-- A HEARTBEAT arrived within OD 4000.02. -/
def State.portLive (s : State) (p : Port) : Bool :=
  match (s.port p).lastHb with
  | some t => decide ((s.time.now - t) * 1000 ≤ s.det.suspUs.toNat)
  | none => false

/-- OD 4000.11 (R399). -/
def State.livenessWord (s : State) : U64 :=
  let js := s.fabricJobPorts
  field64 (le16 s.job.jt ++ [s.job.dev.code, BitVec.ofNat 8 (js.filter s.portLive).length, BitVec.ofNat 8 js.length] ++
    (le32 s.job.epoch).take 3) 0

def isolationTimeout (s : State) : State :=
  if s.job.dev = .run ∧ s.fabricJobPorts.any (fun p => !s.exempt p) then
    (s.record (ev1 0x4005 unitFault [])).enterFenced
  else s

/-- ISOLATION_TIMEOUT (R403): OD 4000.07 has passed without a HEARTBEAT on any fabric job port that counts. -/
def execIsolationTimeout (s : State) : Host.Outcome State Fault Refusal := .next (isolationTimeout s)

/-- AGENT_SILENCE_TIMEOUT (R404). -/
def execAgentSilenceTimeout (tl : Fin 8) (s : State) : Host.Outcome State Fault Refusal :=
  .next (s.loseAgent ⟨tl.val, by omega⟩)

/-! ## Arbitration (R397, R398) -/

/-- A probe of a position: a read of its liveness word on both planes. -/
def State.probe (pos : U32) (s : State) : State :=
  { s with det := { s.det with probes := bump s.det.probes, planeOut := s.det.planeOut ++ [(pos, 0x4000, 0x11)] } }

def State.suspicion (s : State) (pos : U32) : Option Suspicion := s.det.records.find? (·.pos == pos)
def State.setSuspicion (r : Suspicion) (s : State) : State :=
  { s with det := { s.det with records := s.det.records.map (fun (x : Suspicion) => if x.pos == r.pos then r else x) } }
def State.dropSuspicion (pos : U32) (s : State) : State :=
  { s with det := { s.det with records := s.det.records.filter (fun (x : Suspicion) => x.pos != pos) } }

/-- A SUSPECT at an arbiter: SELF at once, else the record grows and its first probe leaves (R397, R398, R404). -/
def State.arbitrate (src pos : U32) (s : State) : State :=
  if src == pos then s.flagFall pos 3 1
  else
    match s.suspicion pos with
    | some r =>
      if r.watchers.contains src || decide (s.time.now - r.firstAt > s.det.windowMs.toNat) then s
      else s.setSuspicion { r with watchers := r.watchers ++ [src] }
    | none =>
      let r : Suspicion := { pos := pos, watchers := [src], probes := 1, firstAt := s.time.now }
      ({ s with det := { s.det with records := s.det.records ++ [r] } } : State).probe pos

def suspectReceive (pk : Trans) (s : State) : State :=
  let s := s.takePk (.trans pk)
  let src := cnOf pk.src
  let pos := cnOf (pk.a32 4)
  if s.job.dev = .fenced ∨ s.job.dev = .safe then s
  else
    let arb := s.arbiterRole != 0
    let s := if arb then { s with det := { s.det with suspRecv := bump s.det.suspRecv } } else s
    if decide (pk.epoch.toNat < s.job.epoch.toNat) || s.det.fenced.contains src || s.det.fenced.contains pos then s.detRefuse
    else if arb then s.arbitrate src pos
    else s

/-- SUSPECT_RECEIVE (R397, R398, R404, R407). -/
def execSuspectReceive (_port : Port) (pk : Trans) (s : State) : Host.Outcome State Fault Refusal := .next (suspectReceive pk s)

/-- A liveness word that shows the member isolated or elsewhere (R398 row 1). -/
def isolatedWord (jt : U16) (w : U64) : Bool :=
  let l := le64 w
  let st := byteAt l 2
  field16 l 0 != jt || !(st == DevState.opening.code || st == DevState.run.code) ||
  decide (2 * (byteAt l 3).toNat < (byteAt l 4).toNat)

/-- The record of a position that a probe's end meets; SAFE serves no probe (R9). -/
def State.probed (s : State) (pos : U32) : Option Suspicion := if s.job.dev = .safe then none else s.suspicion pos

def probeAnswer (pos : U32) (word : U64) (s : State) : State :=
  match s.probed pos with
  | none => s
  | some r =>
    if isolatedWord s.job.jt word then s.flagFall pos 2 r.watchers.length
    else
      let s := s.dropSuspicion pos
      ({ s with det := { s.det with dismissed := bump s.det.dismissed } }).record (ev3 0x4001 unitFault [])

/-- PROBE_ANSWER (R398): without a record of the position the answer has no effect. -/
def execProbeAnswer (pos : U32) (word : U64) (s : State) : Host.Outcome State Fault Refusal := .next (probeAnswer pos word s)

def probeTimeout (pos : U32) (s : State) : State :=
  match s.probed pos with
  | none => s
  | some r =>
    if r.watchers.length ≥ s.det.quorum.toNat ∨ r.probes ≥ 3 then s.flagFall pos 1 r.watchers.length
    else (s.setSuspicion { r with probes := r.probes + 1 }).probe pos

/-- PROBE_TIMEOUT (R398): neither plane has answered within OD 4000.06. -/
def execProbeTimeout (pos : U32) (s : State) : Host.Outcome State Fault Refusal := .next (probeTimeout pos s)

/-! ## DECLARE (R400 to R402) -/

def declareReceive (pk : Trans) (s : State) : State :=
  let s := s.takePk (.trans pk)
  let pos := cnOf (pk.a32 4)
  let cause := pk.a8 8
  let by_ := cnOf (pk.a32 12)
  if s.job.dev = .fenced ∨ s.job.dev = .safe then s
  else if pk.epoch.toNat < s.job.epoch.toNat then s.detRefuse
  else if pos == s.adopted then s.selfFence
  else if s.det.fenced.contains pos then
    let s := if by_ == s.adopted then s else { s with det := { s.det with dupDeclares := bump s.det.dupDeclares } }
    s.passDeclare pos cause by_
  else ((s.dropSuspicion pos).fencePosition pos cause).passDeclare pos cause by_

/-- DECLARE_RECEIVE (R400 to R402, R407). -/
def execDeclareReceive (_port : Port) (pk : Trans) (s : State) : Host.Outcome State Fault Refusal := .next (declareReceive pk s)

/-! ## Eviction (R405) -/

def evictionAction (pos : U32) (_reason : U32) (key : U16) (s : State) : State :=
  let p := cnOf pos
  if !(s.job.dev == .opening || s.job.dev == .run) || p == s.adopted || !s.isMember p || s.det.fenced.contains p then
    s.detRefuse.record (ev3 0x4008 unitFault [])
  else (s.record (ev3 0x4006 unitFault (le16 key))).flagFall p 4 0

/-- EVICTION_ACTION (R405). -/
def execEvictionAction (pos reason : U32) (key : U16) (s : State) : Host.Outcome State Fault Refusal :=
  .next (evictionAction pos reason key s)

/-! ## Epoch fences (R406, R407) -/

def epochFenceAction (v : U32) (s : State) : State :=
  if s.root == some s.adopted && (s.job.dev == .opening || s.job.dev == .run) && decide (s.job.epoch.toNat < v.toNat) then
    let s := { s with det := { s.det with fenceStatus := 1 } }
    s.installEpoch v s.det.fenced none
  else
    ({ s with det := { s.det with fenceStatus := 4 } }).record (ev3 0x4008 unitFault [])

/-- EPOCH_FENCE_ACTION (R406). -/
def execEpochFenceAction (v : U32) (s : State) : Host.Outcome State Fault Refusal := .next (epochFenceAction v s)

def installList (pk : Trans) : List U32 :=
  (List.range (min (min 256 (pk.a16 8).toNat) (pk.body.length / 4))).map (fun i => cnOf (field32 pk.body (4 * i)))

def epochInstallReceive (pk : Trans) (s : State) : State :=
  let s := s.takePk (.trans pk)
  let e := pk.a32 4
  let src := cnOf pk.src
  if !(s.job.dev == .opening || s.job.dev == .run) then s
  else if e.toNat ≤ s.job.epoch.toNat then
    match s.det.lastInstalled with
    | some t => s.detRefuse.sendFence src 0 5 (leBytes 15 (t.a.toNat / 256)) [] [] t.body
    | none => s.detRefuse
  else if (installList pk).contains s.adopted then s.selfFence
  else s.installEpoch e (installList pk) (some src)

/-- EPOCH_INSTALL_RECEIVE (R406, R407). -/
def execEpochInstallReceive (_port : Port) (pk : Trans) (s : State) : Host.Outcome State Fault Refusal :=
  .next (epochInstallReceive pk s)

def InstallSt.fold (src : U32) (t : Trans) (i : InstallSt) : InstallSt :=
  let own (c : U32) : Bool := i.expect.contains c || i.ready.contains c
  let l := (List.range (min (min 1024 (t.a32 12).toNat) (t.body.length / 4))).map (fun k => cnOf (field32 t.body (4 * k)))
  let miss := l.filter (fun c => !own c)
  { i with
    expect := i.expect.filter (· != src), ready := i.ready ++ [src], missing := i.missing ++ miss
    folded := i.folded + t.a32 8, missCount := i.missCount + (t.a32 12 - BitVec.ofNat 32 (l.length - miss.length)) }

def installedReceive (pk : Trans) (s : State) : State :=
  let s := s.takePk (.trans pk)
  let src := cnOf pk.src
  match s.det.install with
  | none => s
  | some i =>
    if i.expect.contains src && pk.a32 4 == i.epoch then
      ({ s with det := { s.det with install := some (i.fold src pk) } } : State).settleInstall
    else s

/-- INSTALLED_RECEIVE (R406). -/
def execInstalledReceive (_port : Port) (pk : Trans) (s : State) : Host.Outcome State Fault Refusal := .next (installedReceive pk s)

end Sys2Proof.Machine
end

