-- ==== Sys2Proof/Machine/ObjRead.lean ====
section
/-! DEFINITION. The bytes of the DOMAIN objects as a read returns them (chapter object tables, R468). -/
namespace Sys2Proof.Machine
open Sys2Proof

/-! ## Tables -/

def EntryStatus.code : EntryStatus → U8
  | .idle => 0 | .running => 1 | .scalarWait => 2 | .quarantined => 3 | .halted => 4 | .haltPending => 5

/-- A tensor-table entry (R148). -/
def TensorEntry.bytes (e : TensorEntry) : List Byte :=
  padTo 256 (le32 e.ts ++ [e.role, e.cls, e.slot, e.mode] ++ le64 e.count ++ [e.fmtM, e.fmtV, e.fmtA, e.fmtC] ++
    [e.heldSlot, e.heldReg, e.pclass, e.owner] ++ le16 (ofSigned16 e.anchor) ++ le16 (ofSigned16 e.initAnchor) ++ le32 0 ++
    [e.baseW, e.baseM, e.baseV, e.baseA, e.baseC, e.baseK, e.baseH, e.beta1, e.beta2].flatMap le64 ++
    (List.range 11).flatMap (fun i => le32 (e.consts.getD i 0)) ++ le32 e.initT ++ le32 e.t ++ le32 e.l ++
    [e.status.code, 0, 0, 0] ++ le32 (e.p.getD 0xFFFFFFFF) ++ le64 e.attempts ++ le64 e.applied ++ le32 e.prevT ++ le32 e.prevL)

/-- A reduction tree record (R80). -/
def TreeRec.bytes (r : TreeRec) : List Byte :=
  le32 r.ts ++ [r.role, r.wire, r.span, BitVec.ofNat 8 r.children.length] ++ le32 r.parent ++ le32 r.leaves ++ le64 r.count ++
  r.children.flatMap le32

/-- A stream program (R182). -/
def StreamProg.bytes (p : StreamProg) : List Byte :=
  padTo 64 ([p.num, p.trigger, p.chained, p.tlMask] ++ le16 p.firstSeg ++ le16 p.segCount ++
    [BitVec.ofNat 8 p.dests.length, 0, 0, 0, 0, 0, 0, 0] ++ p.dests.flatMap le32)

/-- A segment record (R183). -/
def Segment.bytes (g : Segment) : List Byte :=
  le32 g.ts ++ [g.kind, g.fmt, 0, 0] ++ le32 g.first ++ le32 g.count ++ le32 g.src ++ le32 0 ++ le64 g.dstOff

/-- A wiring map entry (R263). -/
def WireEntry.bytes (w : WireEntry) : List Byte :=
  padTo 32 (padTo 16 w.serial ++ le32 w.cn ++ [w.port, w.kind, w.pos])

/-- An entry of a substitution table (R281). -/
def substBytes (e : U32 × U32) : List Byte := padTo 16 (le32 e.1 ++ le32 e.2)

/-- An entry of OD 3000.04 (R313). -/
def OwnerEntry.bytes (o : OwnerEntry) : List Byte :=
  le32 (if o.valid then o.cn ||| 0x80000000#32 else o.cn) ++ le16 o.region ++ [0, 0] ++ le64 o.delta

/-- A chain of OD 2020.07 ends at a zero object id (notes/assumptions/47.md). -/
def chainBytes (c : List U64) : List Byte := c.flatMap le64 ++ le64 0
def chainsOf (l : List Byte) : List (List U64) :=
  let ids := (entriesOf 8 l).map (fun r => field64 r 0)
  let step (acc : List (List U64) × List U64) (o : U64) : List (List U64) × List U64 :=
    if o == 0 then (acc.1 ++ [acc.2], []) else (acc.1, acc.2 ++ [o])
  let r := ids.foldl step ([], [])
  (if r.2.isEmpty then r.1 else r.1 ++ [r.2]).filter (fun c => !c.isEmpty)

/-! ## Status objects -/

/-- OD 3000.0A (R311): D slots for each owner listed. -/
def State.logStatus (s : State) : List Byte :=
  (List.finRange 4).flatMap fun o =>
    if !(s.part.owners[o]).valid then []
    else (List.range s.part.depthNow.toNat).flatMap fun k =>
      match s.part.logSlots.find? (fun l => l.owner == o.val && l.slot == k) with
      | some l => le32 l.step ++ [(if l.complete then 1 else 0) ||| (if l.poisoned then 2 else 0), 0, 0, 0]
      | none => List.replicate 8 0

/-- The dirty fraction of an entry in 1/10,000, 0xFFFF until 16 steps have run (R294). -/
def State.dirtyFraction (s : State) (e : TensorEntry) : U16 :=
  let ds := s.part.dirty.filter (·.1 == e.ts)
  let total := ([Stream.w, .m, .v, .a, .c].map (fun st => if e.has st then e.extent st / 4096 else 0)).sum
  if ds.length < 16 ∨ total = 0 then 0xFFFF
  else BitVec.ofNat 16 ((ds.map (fun d => d.2.2.toNat)).sum * 10000 / (16 * total))

/-- The point record (R329): the first 16 bytes of its first chunk's header, address, length, FULL sequence, Tier S state and
CRC-32C (notes/assumptions/46.md). -/
def Point.bytes (p : Point) : List Byte :=
  let b := padTo 60 ([0x43, p.kind.code] ++ le16 p.jt ++ le32 p.seq ++ le32 p.step ++ le32 0 ++ le64 p.addr ++ le64 p.len ++
    le32 p.fullSeq ++ [if p.inTierS then 1 else 0])
  b ++ le32 (crc32c b)

/-- The phase of the oldest queued point (R322). -/
def State.pointPhase (s : State) : U8 :=
  match s.adj.queue with
  | [] => 0
  | c :: _ => match c.phase with | .armed => 1 | .copy => 2 | .code => 3

/-- OD 3440.02 (R355). -/
def State.groupReport (s : State) : List Byte :=
  (List.range 255).flatMap fun g =>
    match s.mov.groups.find? (fun e => e.1.toNat == g + 1) with
    | some (_, e) => le32 e.issued ++ le32 e.succeeded ++ le32 e.failed ++ [e.state, 0, 0, 0]
    | none => List.replicate 16 0

/-- A unit summary (R411). -/
def UnitState.code : UnitState → U8
  | .clean => 0 | .transient => 1 | .conditional => 2 | .permanent => 3 | .retired => 4
def UnitSum.bytes (u : UnitSum) : List Byte :=
  padTo 64 (le16 u.unit ++ [u.st.code, BitVec.ofNat 8 u.keepOut.length] ++ le16 u.faults ++ [0, 0] ++
    leBytes 6 u.lastMs.toNat ++ [0, 0] ++ u.keepOut.flatMap (fun b => [b.tbin, b.volt, b.freq, 0] ++ le16 b.pattern))

/-- A health record with its CRC-32C (R410). -/
def HealthRec.bytes (r : HealthRec) : List Byte := let b := r.body; b ++ le32 (crc32c b)

/-- The window of 64 records from a sequence (R417). -/
def State.healthWindow (s : State) : List Byte :=
  ((s.health.ring.filter (fun r => decide (s.health.readSeq ≤ r.seq) && decide (r.seq.toNat < s.health.readSeq.toNat + 64))).take
    64).flatMap HealthRec.bytes

/-- OD 4200.02 (R425). -/
def Gambit.bytes (g : Gambit) : List Byte :=
  le32 g.seq ++ [g.state, g.cause, g.volt, g.freq, g.inlet, g.tbin, 0, 0] ++ le32 g.errors

/-- A link identity as its 128-byte body (R253), empty before one is received. -/
def State.peerIdent (s : State) (p : Port) : List Byte := (s.port p).peerRaw

/-- An event record with its CRC-32C (R427). -/
def EventRec.body (r : EventRec) : List Byte :=
  le32 r.seq ++ leBytes 3 r.cycles.toNat ++ leBytes 6 r.first.toNat ++ le16 r.code ++ le16 r.unit ++ le16 r.repeats ++
  leBytes 6 r.last.toNat ++ [(r.cls &&& 7#8) ||| (if r.cut then 8#8 else 0#8)] ++ padTo 34 r.args
def EventRec.bytes (r : EventRec) : List Byte := let b := r.body; b ++ le32 (crc32c b)

/-- The recorder slots in order: the records, then the full record in slot 1,048,575 (R432). -/
def State.recSlotBytes (s : State) (n : Nat) : List Byte :=
  match s.tele.slots[n]? with
  | some r => r.bytes
  | none => if n = recorderSlots then (match s.tele.full with | some f => f.rec_.bytes | none => List.replicate 64 0)
    else List.replicate 64 0
/-- OD 7000.04: the 64 slots from the read pointer (R434). -/
def State.recordWindow (s : State) : List Byte := (List.range 64).flatMap (fun i => s.recSlotBytes (s.tele.readPtr.toNat + i))

/-- The alarms of a class held on a plane: queued, waiting or in the alarm hold (R454). -/
def State.alarmsHeld (s : State) (cls : Nat) (i : Fin 2) : Nat :=
  let l := if cls ≤ 1 then s.tele.hold else s.tele.planes[i].queue
  if cls ≤ 1 then
    (l.map (fun a => if a.cls.toNat == cls then a.represented.toNat - a.repOther.toNat else a.repOther.toNat)).sum
  else ((l.filter (fun a => a.cls.toNat == cls)).map (fun a => a.represented.toNat)).sum
/-- OD 7100.10: generated, delivered, held and dropped of 5 classes on 2 planes (R454). -/
def State.alarmAccounts (s : State) : List Byte :=
  (List.finRange 5).flatMap fun c => (List.finRange 2).flatMap fun i =>
    let q := s.tele.planes[i]
    let hold : U64 × U64 := if h : c.val < 2 then (s.tele.holdGenerated[c.val], s.tele.holdDelivered[c.val])
      else (q.generated[c], q.delivered[c])
    le64 hold.1 ++ le64 hold.2 ++ leBytes 8 (s.alarmsHeld c.val i) ++ le64 q.dropped[c]

/-- OD 8000.01 (R511, R512). -/
def State.ledgerBytes (s : State) : List Byte := leBytes 4 standingCost ++ s.pwr.reservations.flatMap le32

/-- The sideband inputs OD 8400.03. -/
def State.sideband (s : State) : U32 :=
  let pins := (List.range 17).foldl
    (fun (v : U32) i => if Config.pinLevel s.time.now (32 + i) then v ||| (1#32 <<< (8 + i)) else v) 0
  (pins ||| s.pwr.accPwrgd.setWidth 32) ||| (if s.pwr.thermtrip then (0 : U32) else 0x02000000#32)
/-- OD 8400.06: an output pin reads its own level, an input pin what drives it (R548). -/
def State.gpioIn (s : State) : U32 :=
  (List.range 32).foldl (fun (v : U32) i =>
    let lvl := if s.pwr.gpioDir.getLsbD i && !s.pwr.latched.contains (BitVec.ofNat 8 i) then s.pwr.gpioOut.getLsbD i
      else Config.pinLevel s.time.now i
    if lvl then v ||| (1#32 <<< i) else v) 0

/-- A key of OD 9000.01 (R494). -/
def KeyEntry.bytes (k : KeyEntry) : List Byte := padTo 144 ([k.rights, 0, 0, 0, 0, 0, 0, 0] ++ padTo 133 k.pub)
def KeyEntry.ofBytes (l : List Byte) : KeyEntry :=
  if l.all (· == 0) then {} else { rights := byteAt l 0, pub := sliceZ l 8 133 }

/-- OD 9010.03 (R498). -/
def ImageSlot.status (i : ImageSlot) : List Byte := [i.state, 0, 0, 0] ++ le32 i.version ++ le32 i.rollback
def State.imageStatus (s : State) : List Byte :=
  s.boot.imageA.status ++ s.boot.imageB.status ++
  [if s.boot.activeB then 1 else 0, (match s.boot.trial with | none => 0xFF | some b => if b then 1 else 0), s.boot.attempts]

/-- A capture record (R531). -/
def captureBytes (c : U8 × U64 × List Byte) : List Byte := [c.1, 0] ++ leBytes 6 c.2.1.toNat ++ padTo 56 c.2.2
/-- A script entry (R529). -/
def ScriptEntry.bytes (e : ScriptEntry) : List Byte := [e.act, 0] ++ le16 e.waitMs ++ padTo 12 e.ops
def ScriptEntry.ofBytes (l : List Byte) : ScriptEntry := ⟨byteAt l 0, field16 l 2, sliceZ l 4 12⟩

end Sys2Proof.Machine
end

