-- ==== Sys2Proof/Machine/ObjTable.lean ====
section
/-! DEFINITION. The object dictionary (R457, R458): for each index its subindices with type, access right, value and range, from
the object tables of the chapters. -/
namespace Sys2Proof.Machine
open Sys2Proof

/-- Object types (R457). -/
inductive OTy where
  | u8 | u16 | u32 | u64 | i8 | i64 | str | dom
deriving DecidableEq, Repr
/-- The bytes of a scalar; 0 for STR and DOMAIN. -/
def OTy.size : OTy → Nat
  | .u8 => 1 | .u16 => 2 | .u32 => 4 | .u64 => 8 | .i8 => 1 | .i64 => 8 | .str => 0 | .dom => 0
def OTy.scalar (t : OTy) : Bool := t.size != 0

/-- Access rights (R458). -/
inductive Acc where
  | ro | rw | wo | rws
deriving DecidableEq, Repr

/-- An object: a scalar's value, the bytes of a STR or DOMAIN, whether a snapshot latches it (R440), and, for an RW scalar, the
values in range and what a write does. -/
structure Row where
  sub : Nat
  ty : OTy
  acc : Acc
  get : State → Nat := fun _ => 0
  dom : State → List Byte := fun _ => []
  counts : State → List U64 := fun _ => []
  inRange : Nat → Bool := fun _ => true
  put : Nat → State → State := fun _ s => s

def between (lo hi n : Nat) : Bool := decide (lo ≤ n) && decide (n ≤ hi)
def anyVal (_ : Nat) : Bool := true
/-- Both offered versions lie within 2 to 3 (R521). -/
def versionsOk (n : Nat) : Bool := between 2 3 (n % 65536) && between 2 3 (n / 65536)

def o8 (sub : Nat) (f : State → U8) : Row := { sub := sub, ty := .u8, acc := .ro, get := fun s => (f s).toNat }
def oi8 (sub : Nat) (f : State → U8) : Row := { sub := sub, ty := .i8, acc := .ro, get := fun s => (f s).toNat }
def o16 (sub : Nat) (f : State → U16) : Row := { sub := sub, ty := .u16, acc := .ro, get := fun s => (f s).toNat }
def o32 (sub : Nat) (f : State → U32) : Row := { sub := sub, ty := .u32, acc := .ro, get := fun s => (f s).toNat }
def o64 (sub : Nat) (f : State → U64) : Row := { sub := sub, ty := .u64, acc := .ro, get := fun s => (f s).toNat }
/-- A counter. -/
def c64 (sub : Nat) (f : State → U64) : Row := { o64 sub f with counts := fun s => [f s] }
def c32 (sub : Nat) (f : State → U32) : Row := { o32 sub f with counts := fun s => [(f s).setWidth 64] }
def od (sub : Nat) (f : State → List Byte) : Row := { sub := sub, ty := .dom, acc := .ro, dom := f }
def os (sub : Nat) (f : State → List Byte) : Row := { sub := sub, ty := .str, acc := .ro, dom := f }
/-- A DOMAIN of counters. -/
def cd (sub : Nat) (f : State → List U64) : Row := { od sub (fun s => (f s).flatMap le64) with counts := f }
def w8 (sub : Nat) (r : Nat → Bool) (f : State → U8) (p : U8 → State → State) : Row :=
  { sub := sub, ty := .u8, acc := .rw, get := fun s => (f s).toNat, inRange := r, put := fun n => p (BitVec.ofNat 8 n) }
def wi8 (sub : Nat) (r : Nat → Bool) (f : State → U8) (p : U8 → State → State) : Row := { w8 sub r f p with ty := .i8 }
def w16 (sub : Nat) (r : Nat → Bool) (f : State → U16) (p : U16 → State → State) : Row :=
  { sub := sub, ty := .u16, acc := .rw, get := fun s => (f s).toNat, inRange := r, put := fun n => p (BitVec.ofNat 16 n) }
def w32 (sub : Nat) (r : Nat → Bool) (f : State → U32) (p : U32 → State → State) : Row :=
  { sub := sub, ty := .u32, acc := .rw, get := fun s => (f s).toNat, inRange := r, put := fun n => p (BitVec.ofNat 32 n) }
def w64 (sub : Nat) (r : Nat → Bool) (f : State → U64) (p : U64 → State → State) : Row :=
  { sub := sub, ty := .u64, acc := .rw, get := fun s => (f s).toNat, inRange := r, put := fun n => p (BitVec.ofNat 64 n) }
def wi64 (sub : Nat) (r : Nat → Bool) (f : State → U64) (p : U64 → State → State) : Row :=
  { w64 sub r f p with ty := .i64 }
def wd (sub : Nat) (f : State → List Byte) : Row := { sub := sub, ty := .dom, acc := .rw, dom := f }
def act (sub : Nat) (t : OTy) : Row := { sub := sub, ty := t, acc := .wo }
def sw (sub : Nat) (f : State → List Byte) : Row := { sub := sub, ty := .dom, acc := .rws, dom := f }

/-- OD 2200.04 (R129). -/
def State.sizeStatus (s : State) : U8 :=
  if s.upd.sizeRefused then 4
  else if !(s.upd.latches.any (·.1 == s.fence.cur)) then 0
  else if s.upd.latches.any (·.1 == s.fence.cur + 1) then 2 else 1
/-- OD 3000.05 (R313). -/
def State.pairCode (s : State) : U8 :=
  match s.part.pair with | .none_ => 0 | .requesting => 1 | .paired => 2 | .correlated => 3 | .refused => 4
/-- OD 3000.02 (R313). -/
def State.partnerWord (s : State) : U32 := if s.part.named then s.part.partner ||| 0x80000000#32 else s.part.partner
/-- OD 50pp.01 (R259). -/
def PortState.code : PortState → U8
  | .down => 0 | .training => 1 | .active => 2 | .quarantine => 3 | .failed => 4 | .disabled => 5

/-! ## The objects by index -/

/-- OD 1018 (R482). -/
def rows1018 : List Row :=
  [o32 0x01 fun _ => (0x00001F6B : U32),
   o32 0x02 fun _ => (0x00000740 : U32),
   o16 0x03 fun _ => (0x00B0 : U16),
   os 0x04 fun s => padTo 16 s.ident.devSerial]

/-- OD 1020 (R482). -/
def rows1020 : List Row :=
  [wd 0x01 fun s => s.acc.maAddr,
   wd 0x02 fun s => s.acc.mbAddr,
   w32 0x03 (between 1000 600000) (fun s => s.acc.dupMs) (fun v s => { s with acc := { s.acc with dupMs := v } }),
   w16 0x04 (between 1024 65535) (fun s => s.acc.port) (fun v s => { s with acc := { s.acc with port := v } }),
   wd 0x05 fun s => s.acc.prefixes,
   w32 0x06 (between 100 600000) (fun s => s.acc.sessMs) (fun v s => { s with acc := { s.acc with sessMs := v } }),
   w8 0x07 anyVal (fun s => s.acc.tunnelWrites) (fun v s => { s with acc := { s.acc with tunnelWrites := v } }),
   od 0x08 fun s => s.acc.planeUp,
   c64 0x10 fun s => s.acc.taken[0],
   c64 0x11 fun s => s.acc.taken[1],
   c64 0x12 fun s => s.acc.taken[2],
   c64 0x13 fun s => s.acc.taken[3],
   c64 0x14 fun s => s.acc.dupAnswered,
   c64 0x15 fun s => s.acc.mismatches,
   c64 0x16 fun s => s.acc.discarded,
   c64 0x17 fun s => s.acc.busy,
   c64 0x18 fun s => s.acc.sessExpired,
   c64 0x19 fun s => s.acc.signRefused]

/-- OD 1021 (R482). -/
def rows1021 : List Row :=
  [w8 0x01 (between 0 2) (fun s => s.acc.todPlane) (fun v s => { s with acc := { s.acc with todPlane := v } })]

/-- OD 1030 (R482). -/
def rows1030 : List Row :=
  [act 0x01 .u16,
   o16 0x02 fun s => s.acc.ringReqC,
   o16 0x03 fun s => s.acc.ringRspP,
   act 0x04 .u16,
   o8 0x05 fun s => s.acc.linkWidth,
   c64 0x10 fun s => s.acc.winRefused,
   od 0x11 fun s => s.acc.winLast]

/-- OD 1040 (R482). -/
def rows1040 : List Row :=
  [wd 0x01 fun s => s.acc.irqMap,
   o32 0x02 fun s => s.acc.irqPend,
   act 0x03 .u32]

/-- OD 1F00 (R482). -/
def rows1F00 : List Row :=
  [o8 0x01 fun s => s.acc.cfgWord,
   o8 0x02 fun s => s.acc.cfgFallback,
   act 0x03 .u8,
   o32 0x04 fun s => s.acc.cfgGen,
   o32 0x05 fun s => s.acc.cfgSkipped]

/-- OD 1F10 (R498). -/
def rows1F10 : List Row :=
  [sw 0x01 fun _ => [],
   o8 0x02 fun s => s.boot.lastReset,
   c64 0x04 fun s => s.boot.ignored]

/-- OD 2000 (R361, R390). -/
def rows2000 : List Row :=
  [o16 0x01 fun s => s.job.jt,
   o32 0x02 fun s => s.job.epoch,
   o8 0x03 fun s => s.job.dev.code,
   o32 0x04 fun s => s.job.members,
   o32 0x05 fun s => s.job.position,
   o32 0x06 fun s => s.job.baseStep]

/-- OD 2010 (R390). -/
def rows2010 : List Row :=
  [sw 0x01 fun _ => [],
   wd 0x02 fun s => s.job.tree.flatMap (fun e => le32 e.1 ++ le32 e.2),
   act 0x03 .dom,
   w32 0x04 (between 10 10000) (fun s => s.job.levelMs) (fun v s => { s with job := { s.job with levelMs := v } }),
   o8 0x05 fun s => s.job.openStatus,
   od 0x06 fun s => (match s.job.refusal with | some r => [r.1, r.2.1, 0, 0] ++ le32 r.2.2 | none => List.replicate 8 0),
   od 0x07 fun s => (s.job.missing.take 1024).flatMap le32,
   o64 0x08 fun s => s.configDigest,
   o32 0x09 fun s => s.job.treeErr,
   o32 0x0A fun s => s.job.seq,
   c64 0x10 fun s => s.job.refusals,
   c64 0x11 fun s => s.job.duplicates,
   c64 0x12 fun s => s.job.adoptions,
   c64 0x13 fun s => s.job.opened]

/-- OD 2020 (R390). -/
def rows2020 : List Row :=
  [o8 0x01 fun s => s.job.restStatus,
   o32 0x02 fun s => s.job.base,
   o32 0x03 fun s => s.job.target,
   o64 0x04 fun s => s.job.reach,
   w32 0x05 (between 100 600000) (fun s => s.job.pullMs) (fun v s => { s with job := { s.job with pullMs := v } }),
   od 0x06 fun s => s.job.sources.flatMap (fun e => [e.1, 0] ++ le16 e.2.1 ++ le32 e.2.2),
   wd 0x07 fun s => s.job.tierS.flatMap chainBytes,
   o32 0x08 fun s => s.job.rerun,
   od 0x09 fun s => (s.job.mirrors.take 1024).flatMap (fun m => le32 m.owner ++ le32 m.ts ++ le32 m.t ++ le32 m.l),
   c64 0x10 fun s => s.job.restored,
   c64 0x11 fun s => s.job.rolled,
   c64 0x12 fun s => s.job.pulled,
   c64 0x13 fun s => s.job.aheadWins,
   c64 0x14 fun s => s.job.aheadSent,
   c64 0x15 fun s => s.job.pullRefusals,
   c64 0x16 fun s => s.job.torn]

/-- OD 2030 (R390). -/
def rows2030 : List Row :=
  [act 0x01 .u16,
   o8 0x02 fun s => s.job.resignStatus,
   od 0x03 fun s => s.job.attest.getD [],
   o32 0x04 fun s => s.job.attestSeq,
   o64 0x05 fun s => s.job.scrubbed,
   c64 0x06 fun s => s.job.resigns,
   c64 0x07 fun s => s.job.scrubFails]

/-- OD 2100 (R22). -/
def rows2100 : List Row :=
  [o32 0x01 fun s => s.fence.cur,
   act 0x02 .u32,
   o32 0x03 fun s => s.fence.sealedStep,
   o8 0x04 fun s => s.fence.status,
   o32 0x05 fun s => s.fence.committed,
   w32 0x06 (between 100 600000) (fun s => s.fence.timeoutMs)
     (fun v s => { s with fence := { s.fence with timeoutMs := v } }),
   o16 0x07 fun s => BitVec.ofNat 16 s.shardsPending.length,
   c32 0x08 fun s => s.fence.stepsSealed,
   c32 0x09 fun s => s.fence.stepsFailed,
   od 0x0A fun s => (match s.fence.lastMove with | some m => m.bytes | none => []),
   c64 0x0B fun s => s.fence.refusals]

/-- OD 2200 (R129). OD 2200.03 lists the latches in the order in which they were written (DESIGN CHOICE: R129 gives no order,
notes/assumptions/71.md). -/
def rows2200 : List Row :=
  [w64 0x01 anyVal (fun s => s.upd.sizeLast) (fun v s => stepSizeWrite v s),
   w32 0x02 (between 10 600000) (fun s => s.upd.sizeWait) (fun v s => { s with upd := { s.upd with sizeWait := v } }),
   od 0x03 fun s => padTo 16 (s.upd.latches.flatMap (fun e => le32 e.1 ++ le32 e.2)),
   o8 0x04 fun s => s.sizeStatus]

/-- OD 2300 (R103). -/
def rows2300 : List Row :=
  [w32 0x01 (between 1024 65536) (fun s => s.red.parkMiB) (fun v s => { s with red := { s.red with parkMiB := v } }),
   w16 0x03 (between 5 10000) (fun s => s.red.retryUs) (fun v s => { s with red := { s.red with retryUs := v } }),
   w32 0x04 (between 10 600000) (fun s => s.red.anchorWait) (fun v s => { s with red := { s.red with anchorWait := v } }),
   c64 0x10 fun s => s.red.piecesAcc,
   c64 0x11 fun s => s.red.contribAcc,
   c64 0x12 fun s => s.red.duplicates,
   c64 0x13 fun s => s.red.stepRefusals,
   c64 0x14 fun s => s.red.resRefusals,
   c64 0x15 fun s => s.red.anchorMism,
   c64 0x16 fun s => s.red.unknown,
   c64 0x17 fun s => s.red.malformed,
   c64 0x18 fun s => s.red.breaches,
   c64 0x19 fun s => s.red.fallbacks,
   c64 0x1A fun s => s.red.nonfinWins,
   c64 0x1B fun s => s.red.poisonWins,
   c64 0x1C fun s => s.red.parks,
   c64 0x1D fun s => s.red.unparks,
   c64 0x1E fun s => s.red.parkBytes,
   c64 0x1F fun s => s.red.completed,
   c64 0x20 fun s => s.red.treeRefusals,
   c64 0x21 fun s => s.red.stopPieces,
   o16 0x22 fun s => BitVec.ofNat 16 (s.openCount (fun _ => true)),
   o32 0x23 fun s => BitVec.ofNat 32 s.red.parked.length]

/-- OD 2310 (R103). -/
def rows2310 : List Row :=
  [act 0x01 .u64,
   o8 0x02 fun s => s.red.scalarStatus,
   wd 0x03 fun s => s.red.slots.toList.flatMap (fun c => [c.op, if c.enabled then 1 else 0, 0, 0])]

/-- OD 2320 (R103). -/
def rows2320 : List Row :=
  [wd 0x01 fun s => s.red.trees.flatMap TreeRec.bytes,
   o32 0x02 fun s => s.red.treeErr,
   c64 0x03 fun s => s.red.treeTableRefusals]

/-- OD 240n (R146). -/
def rows240n (i : Fin 16) : List Row :=
  [wd 0x01 fun s => s.upd.progs[i].words.flatMap le32,
   o8 0x02 fun s => BitVec.ofNat 8 s.upd.progs[i].words.length,
   o64 0x03 fun s => s.upd.progs[i].crc,
   o8 0x04 fun s => s.upd.progs[i].status,
   o8 0x05 fun s => s.upd.progs[i].errWord]

/-- OD 2500 (R150). -/
def rows2500 : List Row :=
  [o16 0x01 fun s => s.upd.semVersion,
   o8 0x02 fun s => s.upd.pipesOn,
   c64 0x10 fun s => s.upd.winsUpdated,
   c64 0x11 fun s => s.upd.elemsUpdated,
   c64 0x12 fun s => s.upd.elemsMasked,
   c64 0x13 fun s => s.upd.frozenAttempts,
   c64 0x14 fun s => s.upd.skewRefusals,
   c64 0x15 fun s => s.upd.nonfinRefused,
   c64 0x16 fun s => s.upd.heldSkips,
   c64 0x17 fun s => s.upd.poisonWins,
   c64 0x18 fun s => s.upd.touchPages,
   c64 0x19 fun s => s.upd.reexec,
   c64 0x1A fun s => s.upd.sizeRefusals,
   c64 0x1B fun s => s.upd.nonfinWrites,
   c64 0x1C fun s => s.upd.heldDiscards,
   c64 0x1D fun s => s.upd.haltedWins,
   c64 0x1E fun s => s.upd.maskRefusals,
   c64 0x1F fun s => s.upd.loadRefusals]

/-- OD 2600 (R148, R151). -/
def rows2600 : List Row :=
  [wd 0x01 fun s => s.upd.table.flatMap TensorEntry.bytes,
   o16 0x02 fun s => BitVec.ofNat 16 s.upd.table.length,
   act 0x03 .u32,
   o32 0x04 fun s => s.upd.tableErr]

/-- OD 2610 (R151). -/
def rows2610 : List Row :=
  [act 0x01 .dom,
   o16 0x02 fun s => BitVec.ofNat 16 s.upd.staged.length]

/-- OD 2700 (R179). -/
def rows2700 : List Row :=
  [o16 0x01 fun s => s.vec.isaVersion,
   o16 0x02 fun s => s.vec.coresOn,
   w32 0x04 (between 0 1000000) (fun s => s.vec.checkEvery) (fun v s => { s with vec := { s.vec with checkEvery := v } }),
   c64 0x10 fun s => s.vec.dispatched,
   c64 0x11 fun s => s.vec.committed,
   c64 0x12 fun s => s.vec.faults,
   c64 0x13 fun s => s.vec.budgetAborts,
   c64 0x14 fun s => s.vec.statusFails,
   c64 0x15 fun s => s.vec.reexec,
   c64 0x16 fun s => s.vec.agreed,
   c64 0x17 fun s => s.vec.decided,
   c64 0x18 fun s => s.vec.undecided,
   c64 0x19 fun s => s.vec.loaded,
   c64 0x1A fun s => s.vec.blkCommitted,
   c64 0x1B fun s => s.vec.stopDiscards,
   c64 0x1F fun s => s.vec.loadRefusals]

/-- OD 271n (R176). -/
def rows271n (i : Fin 16) : List Row :=
  [wd 0x01 fun s => s.vec.slots[i].words.flatMap le32,
   o16 0x02 fun s => BitVec.ofNat 16 s.vec.slots[i].words.length,
   o64 0x03 fun s => s.vec.slots[i].crc,
   o8 0x04 fun s => s.vec.slots[i].status,
   o16 0x05 fun s => s.vec.slots[i].errWord]

/-- OD 2720 (R177). -/
def rows2720 : List Row :=
  [wd 0x01 fun s => s.vec.entries.flatMap VecEntry.bytes,
   o8 0x02 fun s => BitVec.ofNat 8 s.vec.entries.length,
   o32 0x03 fun s => s.vec.entryErr]

/-- OD 2800 (R199). -/
def rows2800 : List Row :=
  [act 0x01 .u64,
   w32 0x02 (between 1 60000) (fun s => s.str.stallMs) (fun v s => { s with str := { s.str with stallMs := v } }),
   w16 0x03 (between 5 10000) (fun s => s.str.relayRetryUs)
     (fun v s => { s with str := { s.str with relayRetryUs := v } }),
   w32 0x04 (between 1 10000) (fun s => s.str.ackMs) (fun v s => { s with str := { s.str with ackMs := v } }),
   od 0x05 fun s => s.str.passStatus.toList.flatMap (fun e => le32 e.1 ++ [e.2, 0, 0, 0]),
   c64 0x10 fun s => s.str.started,
   c64 0x11 fun s => s.str.ended,
   c64 0x12 fun s => s.str.cRead,
   c64 0x13 fun s => s.str.sent,
   c64 0x14 fun s => s.str.cBytes,
   c64 0x15 fun s => s.str.relayed,
   c64 0x16 fun s => s.str.resends,
   c64 0x17 fun s => s.str.noC,
   c64 0x18 fun s => s.str.abandoned,
   c64 0x1A fun s => s.str.relayRefusals,
   c64 0x1B fun s => s.str.relayDiscards,
   c64 0x1C fun s => s.str.agentWrites,
   c64 0x1F fun s => s.str.refusals]

/-- OD 2810 (R199). -/
def rows2810 : List Row :=
  [wd 0x01 fun s => s.str.progs.flatMap StreamProg.bytes,
   o32 0x02 fun s => s.str.progErr]

/-- OD 2820 (R199). -/
def rows2820 : List Row :=
  [wd 0x01 fun s => s.str.segs.flatMap Segment.bytes,
   o32 0x02 fun s => s.str.segErr]

/-- OD 3000 (R313). -/
def rows3000 : List Row :=
  [w64 0x01 anyVal (fun s => s.part.tags) (fun v s => { s with part := { s.part with tags := v } }),
   w32 0x02 (fun n => partnerValueOk (BitVec.ofNat 32 n)) (fun s => s.partnerWord)
     (fun v s => partnerConfigWrite 2 (le32 v) s),
   wi64 0x03 anyVal (fun s => s.part.delta) (fun v s => partnerConfigWrite 3 (le64 v) s),
   wd 0x04 fun s => s.part.owners.toList.flatMap OwnerEntry.bytes,
   o8 0x05 fun s => s.pairCode,
   o64 0x06 fun s => s.part.partnerTags,
   w8 0x07 (between 2 16) (fun s => s.part.logDepth) (fun v s => { s with part := { s.part with logDepth := v } }),
   w32 0x08 (between 10 600000) (fun s => s.part.digestMs) (fun v s => { s with part := { s.part with digestMs := v } }),
   w32 0x09 (between 100 1000000) (fun s => s.part.resendUs)
     (fun v s => { s with part := { s.part with resendUs := v } }),
   od 0x0A fun s => s.logStatus,
   od 0x0B fun s => s.part.drops.flatMap (fun d => le32 d.1 ++ le32 d.2.1 ++ le32 d.2.2),
   c64 0x10 fun s => s.part.confirmed,
   c64 0x11 fun s => s.part.decided,
   c64 0x12 fun s => s.part.undecided,
   c64 0x13 fun s => s.part.repReplica,
   c64 0x14 fun s => s.part.repOwner,
   c64 0x15 fun s => s.part.resends,
   c64 0x16 fun s => s.part.agreed,
   c64 0x17 fun s => s.part.mismatches,
   c64 0x18 fun s => s.part.forced,
   c64 0x19 fun s => s.part.replayBytes,
   c64 0x1A fun s => s.part.refusals,
   c64 0x1B fun s => s.part.duplicates,
   c64 0x1C fun s => s.part.logRefusals,
   c64 0x1D fun s => s.part.mirrorBytes,
   c64 0x1E fun s => s.part.syncs]

/-- OD 3100 (R313). -/
def rows3100 : List Row :=
  [w32 0x01 anyVal (fun s => s.part.rplMin) (fun v s => { s with part := { s.part with rplMin := v } }),
   w16 0x02 anyVal (fun s => s.part.frzLimit) (fun v s => { s with part := { s.part with frzLimit := v } }),
   act 0x04 .dom,
   o8 0x05 fun s => s.part.clsStatus,
   od 0x06 fun s => s.upd.table.flatMap (fun e => le16 (s.dirtyFraction e)),
   c64 0x10 fun s => s.part.clsRefusals,
   c64 0x11 fun s => s.part.clsApplied]

/-- OD 3200 (R343). -/
def rows3200 : List Row :=
  [w32 0x01 (between 0 10000) (fun s => s.adj.k) (fun v s => adjournmentConfigWrite 1 v s),
   w32 0x02 (between 0 1000000) (fun s => s.adj.m) (fun v s => adjournmentConfigWrite 2 v s),
   w8 0x03 (between 1 64) (fun s => s.adj.chainLen) (fun v s => { s with adj := { s.adj with chainLen := v } }),
   o8 0x04 fun s => s.pointPhase,
   act 0x05 .u64,
   o8 0x06 fun s => s.adj.drainStatus,
   w32 0x07 (between 1000 86400000) (fun s => s.adj.drainMs) (fun v s => { s with adj := { s.adj with drainMs := v } }),
   o32 0x08 fun s => s.adj.drainedN,
   o32 0x09 fun s => s.adj.drainedS,
   o8 0x0A fun s => s.adj.baseRole,
   o32 0x0B fun s => (match s.adj.queue with | c :: _ => c.step | [] => (0 : U32)),
   c64 0x10 fun s => s.adj.armed,
   c64 0x11 fun s => s.adj.abandoned,
   c64 0x12 fun s => s.adj.copied,
   c64 0x13 fun s => s.adj.busyWaits,
   c64 0x14 fun s => s.adj.bytesCopied,
   c64 0x15 fun s => s.adj.unchanged,
   c64 0x16 fun s => s.adj.rawEntries,
   c64 0x17 fun s => s.adj.entryBytes,
   c64 0x1F fun s => s.adj.refusals]

/-- OD 3300 (R343). -/
def rows3300 : List Row :=
  [o64 0x01 fun _ => (1200000000000 : U64),
   o64 0x02 fun s => s.adj.free,
   od 0x03 fun s => le32 s.adj.ptrSeq ++ le32 s.adj.ptrChunks ++ le64 s.adj.ptrAddr,
   od 0x04 fun s => (s.adj.points.take 4096).flatMap Point.bytes,
   c64 0x10 fun s => s.adj.pointsCommitted,
   c64 0x11 fun s => s.adj.pointsDiscarded,
   c64 0x13 fun s => s.adj.reprogrammed,
   c64 0x14 fun s => s.adj.blocksRetired,
   c64 0x15 fun s => s.adj.uncReads,
   c64 0x16 fun s => s.adj.noSpace,
   c64 0x17 fun s => s.adj.ledgerWaits]

/-- OD 3310 (R343). -/
def rows3310 : List Row :=
  [wd 0x01 fun s => s.adj.gateways.flatMap le32,
   w32 0x02 (between 10 18000) (fun s => s.adj.pushRate) (fun v s => { s with adj := { s.adj with pushRate := v } }),
   w32 0x03 (between 10 60000) (fun s => s.adj.partMs) (fun v s => { s with adj := { s.adj with partMs := v } }),
   w8 0x04 (between 1 64) (fun s => s.adj.partResends) (fun v s => { s with adj := { s.adj with partResends := v } }),
   w8 0x05 (between 1 8) (fun s => s.adj.attempts) (fun v s => { s with adj := { s.adj with attempts := v } }),
   od 0x06 fun s => le64 s.adj.sPtrObj ++ le32 s.adj.sPtrParts ++ le32 s.adj.sPtrLow,
   c64 0x10 fun s => s.adj.issued,
   c64 0x11 fun s => s.adj.succeeded,
   c64 0x12 fun s => s.adj.failed,
   c64 0x13 fun s => s.adj.resent,
   c64 0x14 fun s => s.adj.sCommitted,
   c64 0x15 fun s => s.adj.sFailed,
   c64 0x16 fun s => s.adj.broken,
   c64 0x17 fun s => s.adj.pushAbandoned]

/-- OD 34cc (R346). -/
def rows34cc (c : Chan) : List Row :=
  [w64 0x01 anyVal (fun s => s.mov.chans[c].src) (fun v s => s.setChan c (fun h => { h with src := v })),
   w64 0x02 anyVal (fun s => s.mov.chans[c].dst) (fun v s => s.setChan c (fun h => { h with dst := v })),
   w64 0x03 anyVal (fun s => s.mov.chans[c].len) (fun v s => s.setChan c (fun h => { h with len := v })),
   w32 0x04 anyVal (fun s => s.mov.chans[c].control) (fun v s => s.setControl c v),
   act 0x05 .u8,
   w32 0x06 anyVal (fun s => s.mov.chans[c].period) (fun v s => s.setChan c (fun h => { h with period := v })),
   w32 0x07 anyVal (fun s => s.mov.chans[c].repeats) (fun v s => s.setChan c (fun h => { h with repeats := v })),
   wi64 0x08 anyVal (fun s => s.mov.chans[c].srcStride) (fun v s => s.setChan c (fun h => { h with srcStride := v })),
   wi64 0x09 anyVal (fun s => s.mov.chans[c].dstStride) (fun v s => s.setChan c (fun h => { h with dstStride := v })),
   o8 0x0A fun s => s.mov.chans[c].status,
   c64 0x0B fun s => s.mov.chans[c].resume,
   c32 0x0C fun s => s.mov.chans[c].pass,
   o8 0x0D fun s => s.mov.chans[c].fail,
   c64 0x0E fun s => s.mov.chans[c].bytesRead,
   c64 0x0F fun s => s.mov.chans[c].bytesWritten,
   c64 0x10 fun s => s.mov.chans[c].overruns]

/-- OD 3440 (R359). -/
def rows3440 : List Row :=
  [act 0x01 .u16,
   od 0x02 fun s => s.groupReport,
   w32 0x03 (between 1 10000) (fun s => s.mov.remoteMs) (fun v s => { s with mov := { s.mov with remoteMs := v } }),
   w32 0x04 (between 1 1000) (fun s => s.mov.reconcileMs) (fun v s => { s with mov := { s.mov with reconcileMs := v } }),
   o32 0x05 fun s => s.mov.cellsFree,
   c64 0x10 fun s => s.mov.refusals,
   c64 0x11 fun s => s.mov.issued,
   c64 0x12 fun s => s.mov.succeeded,
   c64 0x13 fun s => s.mov.failed,
   c64 0x14 fun s => s.mov.discarded,
   c64 0x17 fun s => s.mov.pauses]

/-- OD 3500 (R227). -/
def rows3500 : List Row :=
  [o64 0x01 fun _ => (581968068608 : U64),
   o64 0x02 fun _ => (1030792151040 : U64),
   w16 0x03 (between 1 168) (fun s => s.mem.scrubH) (fun v s => { s with mem := { s.mem with scrubH := v } }),
   w16 0x04 (between 1 168) (fun s => s.mem.scrubL) (fun v s => { s with mem := { s.mem with scrubL := v } }),
   w16 0x05 (between 1 64) (fun s => s.mem.spareLimit) (fun v s => { s with mem := { s.mem with spareLimit := v } }),
   o64 0x06 fun s => s.mem.posH,
   o64 0x07 fun s => s.mem.posL,
   c64 0x10 fun s => s.mem.corrH,
   c64 0x11 fun s => s.mem.corrL,
   c64 0x12 fun s => s.mem.corr2,
   c64 0x13 fun s => s.mem.uncH,
   c64 0x14 fun s => s.mem.uncL,
   c64 0x15 fun s => s.mem.spared,
   c64 0x16 fun s => s.mem.spareRefused,
   o16 0x17 fun s => BitVec.ofNat 16 (s.mem.poisonH.length + s.mem.poisonL.length),
   c64 0x18 fun s => s.mem.listFull,
   c64 0x19 fun s => s.mem.accessRefused,
   c64 0x1A fun s => s.mem.retainedLost,
   c64 0x1B fun s => s.mem.rebuilt,
   c64 0x1C fun s => s.mem.partialDropped,
   c64 0x1F fun s => s.mem.tableRefusals,
   od 0x20 fun s => s.mem.spares.flatMap le32]

/-- OD 3510 (R206). -/
def rows3510 : List Row :=
  [wd 0x01 fun s => s.mem.regions.flatMap Region.bytes,
   o32 0x02 fun s => s.mem.regionErr,
   o16 0x03 fun s => BitVec.ofNat 16 s.mem.regions.length]

/-- OD 4000 (R424). -/
def rows4000 : List Row :=
  [o8 0x01 fun s => s.arbiterRole,
   w32 0x02 (between 500 1000000) (fun s => s.det.suspUs) (fun v s => { s with det := { s.det with suspUs := v } }),
   w32 0x03 anyVal (fun s => s.det.deputy) (fun v s => { s with det := { s.det with deputy := v } }),
   w8 0x04 (between 1 16) (fun s => s.det.quorum) (fun v s => { s with det := { s.det with quorum := v } }),
   w32 0x05 (between 1 10000) (fun s => s.det.windowMs) (fun v s => { s with det := { s.det with windowMs := v } }),
   w32 0x06 (between 1 1000) (fun s => s.det.probeMs) (fun v s => { s with det := { s.det with probeMs := v } }),
   w32 0x07 (between 5 10000) (fun s => s.det.isolMs) (fun v s => { s with det := { s.det with isolMs := v } }),
   w8 0x08 (between 0 1) (fun s => s.det.agentAction) (fun v s => { s with det := { s.det with agentAction := v } }),
   w32 0x09 (between 500 1000000) (fun s => s.det.agentUs) (fun v s => { s with det := { s.det with agentUs := v } }),
   sw 0x0A fun _ => [],
   act 0x0B .u32,
   o8 0x0C fun s => s.det.fenceStatus,
   od 0x0D fun s => s.det.fenced.flatMap le32,
   o64 0x11 fun s => s.livenessWord,
   c64 0x20 fun s => s.det.suspSent,
   c64 0x21 fun s => s.det.suspRecv,
   c64 0x22 fun s => s.det.dismissed,
   c64 0x23 fun s => s.det.flagFalls,
   c64 0x24 fun s => s.det.fencedCount,
   c64 0x25 fun s => s.det.srcDiscards,
   c64 0x26 fun s => s.det.dupDeclares,
   c64 0x27 fun s => s.det.refusals,
   c64 0x28 fun s => s.det.probes,
   c64 0x29 fun s => s.det.installs,
   c64 0x2A fun s => s.det.agentLosses]

/-- OD 4010 (R424). -/
def rows4010 : List Row :=
  [wd 0x01 fun s => s.det.addrs.flatMap (fun a => le32 a.1 ++ padTo 16 a.2)]

/-- OD 4100 (R425). -/
def rows4100 : List Row :=
  [od 0x01 fun s => s.healthWindow,
   w32 0x02 anyVal (fun s => s.health.readSeq) (fun v s => { s with health := { s.health with readSeq := v } }),
   o32 0x03 fun s => s.health.newest,
   od 0x04 fun s => s.health.sums.flatMap UnitSum.bytes,
   o8 0x05 fun s => s.health.service,
   w8 0x06 (between 2 16) (fun s => s.health.condLimit)
     (fun v s => { s with health := { s.health with condLimit := v } }),
   w8 0x07 (between 3 32) (fun s => s.health.permLimit)
     (fun v s => { s with health := { s.health with permLimit := v } }),
   w16 0x08 (between 1 365) (fun s => s.health.windowDays)
     (fun v s => { s with health := { s.health with windowDays := v } }),
   w8 0x09 (between 2 32) (fun s => s.health.spread) (fun v s => { s with health := { s.health with spread := v } }),
   act 0x0A .u16,
   sw 0x0C fun _ => [],
   c64 0x10 fun s => s.health.charged,
   c64 0x11 fun s => s.health.overwritten,
   o16 0x12 fun s => BitVec.ofNat 16 (s.unitsIn .conditional),
   o16 0x13 fun s => BitVec.ofNat 16 (s.unitsIn .retired)]

/-- OD 4200 (R425). -/
def rows4200 : List Row :=
  [act 0x01 .dom,
   od 0x02 fun s => s.health.gambit.bytes,
   w8 0x03 (between 60 95) (fun s => s.health.ceiling) (fun v s => { s with health := { s.health with ceiling := v } }),
   w8 0x04 (between 5 7) (fun s => s.health.minPipes) (fun v s => { s with health := { s.health with minPipes := v } }),
   w8 0x05 (between 8 15) (fun s => s.health.minCores) (fun v s => { s with health := { s.health with minCores := v } }),
   w32 0x06 (between 10 60000) (fun s => s.health.graceMs)
     (fun v s => { s with health := { s.health with graceMs := v } }),
   c64 0x10 fun s => s.health.gRun,
   c64 0x11 fun s => s.health.gErrors,
   c64 0x12 fun s => s.health.gClamps,
   c64 0x13 fun s => s.health.gRefused,
   c64 0x14 fun s => s.health.gAborted]

/-- OD 5020 (R259). -/
def rows5020 : List Row :=
  [o32 0x01 fun _ => (0x00020003 : U32),
   w8 0x02 (between 4 64) (fun s => s.links.nakLimit) (fun v s => { s with links := { s.links with nakLimit := v } }),
   w16 0x03 (between 1 65535) (fun s => s.links.violLimit)
     (fun v s => { s with links := { s.links with violLimit := v } }),
   w32 0x04 (between 10 1000000) (fun s => s.links.resendUs)
     (fun v s => { s with links := { s.links with resendUs := v } }),
   w8 0x05 (between 1 16) (fun s => s.links.retrainLimit)
     (fun v s => { s with links := { s.links with retrainLimit := v } })]

/-- OD 50pp (R259). -/
def rows50pp (p : Port) : List Row :=
  [o8 0x01 fun s => (s.port p).st.code,
   act 0x02 .u8,
   o16 0x03 fun s => (s.port p).version,
   od 0x04 fun s => s.peerIdent p,
   wd 0x05 fun s => (s.port p).grantsSet.flatMap le16,
   w32 0x06 (between 100 100000) (fun s => (s.port p).hbUs) (fun v s => s.setPort p (fun q => { q with hbUs := v })),
   w16 0x07 (between 1 1000) (fun s => (s.port p).replayUs) (fun v s => s.setPort p (fun q => { q with replayUs := v })),
   cd 0x08 fun s => (s.port p).cellsSent.toList,
   cd 0x09 fun s => (s.port p).cellsRecv.toList,
   c64 0x0A fun s => (s.port p).replayed,
   c64 0x0B fun s => (s.port p).naksSent,
   c64 0x0C fun s => (s.port p).jtDiscards,
   c64 0x0D fun s => (s.port p).hdrFails,
   c64 0x0E fun s => (s.port p).overruns,
   c64 0x0F fun s => (s.port p).auditMism,
   c64 0x10 fun s => (s.port p).retrains,
   c64 0x11 fun s => (s.port p).formViol,
   c64 0x12 fun s => (s.port p).quarDiscards,
   c64 0x13 fun s => (s.port p).fecCorr,
   c64 0x14 fun s => (s.port p).fecUncorr,
   c64 0x15 fun s => (s.port p).afterNak,
   c64 0x16 fun s => (s.port p).lostFrames,
   c64 0x17 fun s => (s.port p).agentViol,
   c64 0x18 fun s => (s.port p).agentReports,
   c64 0x19 fun s => (s.port p).frameFails]

/-- OD 5100 (R283). -/
def rows5100 : List Row :=
  [wd 0x01 fun s => s.route.wires.toList.flatMap WireEntry.bytes,
   w8 0x02 (fun n => n ≤ 47 || n == 255) (fun s => s.route.pod)
     (fun v s => { s with route := { s.route with pod := v } }),
   w8 0x03 anyVal (fun s => s.route.position) (fun v s => { s with route := { s.route with position := v } }),
   o32 0x04 fun s => s.route.wireErr]

/-- OD 5200 (R283). -/
def rows5200 : List Row :=
  [wd 0x01 fun s => bankBytes s.route.shadow,
   od 0x02 fun s => bankBytes s.route.active,
   act 0x03 .u32,
   o32 0x04 fun s => s.route.routeErr,
   w32 0x05 (between 1000 10000000) (fun s => s.route.residencyUs)
     (fun v s => { s with route := { s.route with residencyUs := v } }),
   o64 0x06 fun s => crc64 (bankBytes s.route.active),
   c64 0x10 fun s => s.route.forwarded,
   c64 0x11 fun s => s.route.unreachable,
   c64 0x12 fun s => s.route.routeDiscards,
   c64 0x13 fun s => s.route.expiries,
   c64 0x14 fun s => s.route.altUses,
   c64 0x15 fun s => s.route.refusals,
   c64 0x16 fun s => s.route.swaps,
   c64 0x17 fun s => s.route.jtDiscards,
   c64 0x18 fun s => s.route.staleDiscards,
   c64 0x19 fun s => s.route.futureDiscards]

/-- OD 5210 (R283). -/
def rows5210 : List Row :=
  [wd 0x01 fun s => s.route.substShadow.flatMap substBytes,
   od 0x02 fun s => s.route.substActive.flatMap substBytes,
   c64 0x03 fun s => s.route.substRefusals,
   o32 0x04 fun s => s.route.substErr]

/-- OD 5300 (R283). -/
def rows5300 : List Row :=
  [od 0x09 fun s => s.route.circuits.toList.map (·.state),
   w32 0x0A (between 1 1000) (fun s => s.route.drainMs) (fun v s => { s with route := { s.route with drainMs := v } }),
   c64 0x10 fun s => s.route.changes,
   c64 0x11 fun s => s.route.drainTimeouts,
   c64 0x12 fun s => s.route.circRefusals]

/-- OD 6010 (R455). -/
def rows6010 : List Row :=
  [act 0x01 .u8,
   o8 0x02 fun s => s.tele.snapStatus,
   o32 0x03 fun s => s.tele.snapOff,
   c64 0x10 fun s => s.tele.snapRefused]

/-- OD 6020 (R438). -/
def rows6020 : List Row :=
  [cd 0x01 fun s => s.links.ports.toList.flatMap (fun q => q.frameBytes.toList)]

/-- OD 6100 (R69). -/
def rows6100 : List Row :=
  [c64 0x01 fun s => s.chk.hdrFail,
   c64 0x02 fun s => s.chk.payRecv,
   c64 0x03 fun s => s.chk.payStored,
   c64 0x04 fun s => s.chk.invalid,
   c64 0x05 fun s => s.chk.poisonedHere,
   c64 0x06 fun s => s.chk.poisonedRecv,
   c64 0x07 fun s => s.chk.nonfinConv,
   c64 0x08 fun s => s.chk.satConv,
   c64 0x09 fun s => s.chk.payChecks]

/-- OD 6400 (R455). -/
def rows6400 : List Row :=
  [w16 0x01 anyVal (fun s => s.tele.kinds) (fun v s => { s with tele := { s.tele with kinds := v } }),
   w8 0x02 (between 0 1) (fun s => s.tele.mode) (fun v s => { s with tele := { s.tele with mode := v } }),
   w32 0x03 anyVal (fun s => s.tele.tracePorts) (fun v s => { s with tele := { s.tele with tracePorts := v } }),
   w64 0x04 anyVal (fun s => s.tele.traceOps) (fun v s => { s with tele := { s.tele with traceOps := v } }),
   act 0x05 .u8,
   o8 0x06 fun s => (if s.tele.traceRefused then (4 : U8) else s.tele.traceStatus),
   o32 0x07 fun s => s.tele.traceNewest,
   c64 0x10 fun s => s.tele.traceWritten,
   c64 0x11 fun s => s.tele.traceDropped,
   c64 0x12 fun s => s.tele.traceLost,
   c64 0x13 fun s => s.tele.traceOver]

/-- OD 6500 (R455). -/
def rows6500 : List Row :=
  [w32 0x01 (fun n => n == 0 || (256 ≤ n && n ≤ 16777216)) (fun s => s.tele.sampEvery)
     (fun v s => { s with tele := { s.tele with sampEvery := v } }),
   w32 0x02 anyVal (fun s => s.tele.sampUnits) (fun v s => { s with tele := { s.tele with sampUnits := v } }),
   w32 0x03 anyVal (fun s => s.tele.sampRead) (fun v s => { s with tele := { s.tele with sampRead := v } }),
   c64 0x10 fun s => s.tele.sampWritten,
   c64 0x11 fun s => s.tele.sampOver]

/-- OD 7000 (R436). -/
def rows7000 : List Row :=
  [w8 0x01 (between 0 1) (fun s => (if s.tele.frozen then (1 : U8) else 0)) (fun v s => recorderFreezeWrite v s),
   w32 0x02 (between 0 1048575) (fun s => s.tele.readPtr) (fun v s => { s with tele := { s.tele with readPtr := v } }),
   w32 0x03 (between 100 600000) (fun s => s.tele.freezeMs) (fun v s => { s with tele := { s.tele with freezeMs := v } }),
   od 0x04 fun s => s.recordWindow,
   sw 0x05 fun _ => [],
   w32 0x06 (between 0 3600000) (fun s => s.tele.repeatMs) (fun v s => { s with tele := { s.tele with repeatMs := v } }),
   o32 0x07 fun s => BitVec.ofNat 32 s.tele.slotsUsed,
   o32 0x08 fun s => s.tele.nextSeq,
   o16 0x09 fun s => BitVec.ofNat 16 s.tele.holding.length,
   c64 0x10 fun s => s.tele.refused[0],
   c64 0x11 fun s => s.tele.refused[1],
   c64 0x12 fun s => s.tele.refused[2],
   c64 0x13 fun s => s.tele.refused[3],
   c64 0x14 fun s => s.tele.holdRefused,
   c64 0x15 fun s => s.tele.clearRefused,
   c64 0x16 fun s => s.tele.damaged]

/-- OD 7100 (R455). -/
def rows7100 : List Row :=
  [wd 0x01 fun s => s.tele.collectors,
   wd 0x02 fun s => s.tele.forward.flatMap (fun e => le16 e.1 ++ [e.2, 0]),
   w16 0x03 (between 1 10000) (fun s => s.tele.tokenRate) (fun v s => { s with tele := { s.tele with tokenRate := v } }),
   w16 0x04 (between 1 10000) (fun s => s.tele.bucket) (fun v s => { s with tele := { s.tele with bucket := v } }),
   w32 0x05 (between 100 60000) (fun s => s.tele.resendMs) (fun v s => { s with tele := { s.tele with resendMs := v } }),
   act 0x06 .u32,
   w32 0x07 (between 10 10000) (fun s => s.tele.waitMs) (fun v s => { s with tele := { s.tele with waitMs := v } }),
   w8 0x08 anyVal (fun s => s.tele.streaming) (fun v s => { s with tele := { s.tele with streaming := v } }),
   o16 0x09 fun s => BitVec.ofNat 16 s.tele.hold.length,
   od 0x10 fun s => s.alarmAccounts]

/-- OD 8000 (R516). -/
def rows8000 : List Row :=
  [od 0x01 fun s => s.ledgerBytes,
   w32 0x02 (between 100000 4000000) (fun s => s.pwr.margin) (fun v s => marginWrite v s),
   w32 0x03 (between 10 1000) (fun s => s.pwr.reconcileMs) (fun v s => { s with pwr := { s.pwr with reconcileMs := v } }),
   c64 0x10 fun s => s.pwr.granted,
   c64 0x11 fun s => s.pwr.released,
   c64 0x12 fun s => s.pwr.refused]

/-- OD 8020 (R516). -/
def rows8020 : List Row :=
  [w32 0x01 (fun n => ceilingOk (BitVec.ofNat 32 n)) (fun s => s.pwr.hu[0].ceiling) (fun v s => ceilingWrite 0 v s),
   w32 0x02 (fun n => ceilingOk (BitVec.ofNat 32 n)) (fun s => s.pwr.hu[1].ceiling) (fun v s => ceilingWrite 1 v s),
   w16 0x03 (between 1 20) (fun s => s.pwr.chargeW) (fun v s => { s with pwr := { s.pwr with chargeW := v } }),
   o32 0x04 fun s => s.pwr.hu[0].usable,
   o32 0x05 fun s => s.pwr.hu[1].usable,
   od 0x06 fun s => [s.pwr.hu[0].status, s.pwr.hu[1].status]]

/-- OD 8100 (R516). -/
def rows8100 : List Row :=
  [w16 0x01 (between 250 560) (fun s => s.pwr.capW) (fun v s => { s with pwr := { s.pwr with capW := v } }),
   o16 0x02 fun s => s.pwr.powerW,
   c64 0x10 fun s => s.pwr.throttledMs]

/-- OD 8200 (R516). -/
def rows8200 : List Row :=
  [od 0x01 fun s => (List.range 44).flatMap (fun i => leBytes 2 (nominalMhz i * s.pct i / 200))]

/-- OD 8300 (R516). -/
def rows8300 : List Row :=
  [od 0x01 fun s => s.pwr.temps.toList.flatMap le16,
   w8 0x02 (between 70 105) (fun s => s.pwr.throttleC) (fun v s => { s with pwr := { s.pwr with throttleC := v } })]

/-- OD 8310 (R516). -/
def rows8310 : List Row :=
  [oi8 0x01 fun s => s.pwr.coolReq,
   wi8 0x02 anyVal (fun s => s.pwr.coolApplied) (fun v s => { s with pwr := { s.pwr with coolApplied := v } })]

/-- OD 8400 (R516, R554). -/
def rows8400 : List Row :=
  [act 0x01 .u8,
   w8 0x02 anyVal (fun s => s.pwr.accRelease) (fun v s => accResetReleaseWrite v s),
   o32 0x03 fun s => s.sideband,
   w32 0x04 anyVal (fun s => s.pwr.gpioDir) (fun v s => { s with pwr := { s.pwr with gpioDir := v } }),
   w32 0x05 anyVal (fun s => s.pwr.gpioOut) (fun v s => { s with pwr := { s.pwr with gpioOut := v } }),
   o32 0x06 fun s => s.gpioIn,
   c64 0x10 fun s => s.pwr.overcurrents,
   c64 0x11 fun s => s.pwr.alerts,
   c64 0x12 fun s => s.pwr.therms,
   c64 0x13 fun s => s.pwr.pwrLosses,
   c64 0x14 fun s => s.pwr.ppsRejected,
   c64 0x15 fun s => s.pwr.railFaults]

/-- OD 9000 (R498). -/
def rows9000 : List Row :=
  [sw 0x01 fun s => s.boot.keys.flatMap KeyEntry.bytes,
   od 0x02 fun s => s.ident.identityPub,
   od 0x03 fun s => s.ident.vendorCert,
   o8 0x04 fun s => s.boot.identFailed,
   od 0x05 fun s => s.boot.counters.toList.flatMap le64,
   c64 0x06 fun s => s.boot.keyRefusals]

/-- OD 9010 (R498). -/
def rows9010 : List Row :=
  [act 0x01 .dom,
   sw 0x02 fun _ => [],
   od 0x03 fun s => s.imageStatus,
   o32 0x04 fun s => s.boot.floor,
   c64 0x05 fun s => s.boot.imgRefusals]

/-- OD 9030 (R498). -/
def rows9030 : List Row :=
  [act 0x01 .dom,
   od 0x02 fun s => s.boot.report.getD [],
   o64 0x03 fun s => s.boot.reports]

/-- OD 9040 (R498). -/
def rows9040 : List Row :=
  [act 0x01 .dom,
   od 0x02 fun s => (match s.boot.package with | some p => p.1 | none => []),
   sw 0x03 fun _ => [],
   c64 0x10 fun s => s.boot.pkgRefusals]

/-- OD A000 (R531). -/
def rowsA000 : List Row :=
  [act 0x01 .u8,
   o8 0x02 fun s => s.exer.status,
   w32 0x03 (between 0 86400000) (fun s => s.exer.lengthMs) (fun v s => { s with exer := { s.exer with lengthMs := v } }),
   o32 0x04 fun s => s.exer.runNo,
   wd 0x05 fun s => s.exer.user,
   c64 0x10 fun s => s.exer.applied,
   c64 0x11 fun s => s.exer.deferred,
   c64 0x12 fun s => s.exer.passed,
   c64 0x13 fun s => s.exer.failed,
   c64 0x14 fun s => s.exer.refusals]

/-- OD A1pp (R521). -/
def rowsA1pp (p : Port) : List Row :=
  [w8 0x01 (fun n => n ≤ 2 || (n == 3 && p.val < 8)) (fun s => (s.exPort p).mode)
     (fun v s => s.setExPort p (fun x => { x with mode := v })),
   w8 0x02 (between 1 6) (fun s => (s.exPort p).pattern) (fun v s => s.setExPort p (fun x => { x with pattern := v })),
   w16 0x03 (between 1 1000) (fun s => (s.exPort p).rate) (fun v s => s.setExPort p (fun x => { x with rate := v })),
   w8 0x04 (between 0 1) (fun s => (s.exPort p).check) (fun v s => s.setExPort p (fun x => { x with check := v })),
   wd 0x05 fun s => padTo 32 (s.exPort p).expect,
   w8 0x06 (between 0 1) (fun s => (s.exPort p).strict) (fun v s => s.setExPort p (fun x => { x with strict := v })),
   w32 0x07 (between 0 131071) (fun s => (s.exPort p).dest) (fun v s => s.setExPort p (fun x => { x with dest := v })),
   w32 0x08 (between 1 1000000) (fun s => (s.exPort p).deadlineUs)
     (fun v s => s.setExPort p (fun x => { x with deadlineUs := v })),
   w32 0x09 anyVal (fun s => (s.exPort p).seed) (fun v s => s.setExPort p (fun x => { x with seed := v })),
   w32 0x0A (fun n => versionsOk n) (fun s => (s.exPort p).versions)
     (fun v s => s.setExPort p (fun x => { x with versions := v }))]

/-- OD A2pp (R531). -/
def rowsA2pp (p : Port) : List Row :=
  [od 0x01 fun s => (s.exPort p).counts.toList.flatMap le64,
   c64 0x02 fun s => (s.exPort p).sent,
   c64 0x03 fun s => (s.exPort p).checked,
   c64 0x04 fun s => (s.exPort p).bits,
   od 0x05 fun s => (s.exPort p).capture.flatMap captureBytes]

/-- OD A300 (R531). -/
def rowsA300 : List Row :=
  [wd 0x01 fun s => s.exer.script.flatMap ScriptEntry.bytes,
   o16 0x02 fun s => (if s.exer.expecting.isSome then s.exer.pos - 1 else s.exer.pos)]

/-- OD A400 (R531). -/
def rowsA400 : List Row :=
  [act 0x01 .dom]

/-! ### Families -/

/-- Subindices first to first + n − 1, one counter each. -/
def counterRun (first n : Nat) (f : State → Nat → U64) : List Row :=
  (List.range n).map (fun k => c64 (first + k) (fun s => f s k))

/-- OD 2310.10 to 2310.1F and 2310.20 to 2310.2F (R103). -/
def rowsSlots : List Row :=
  (List.finRange 16).map (fun k => o64 (0x10 + k.val) (fun s => s.red.results[k])) ++
  (List.range 16).map (fun k => act (0x20 + k) .u64)
/-- OD 6000 (R437). -/
def rows6000 : List Row :=
  [o64 0x01 (fun s => s.time.opMs), o32 0x02 (fun s => s.time.cycles)] ++
  counterRun 3 14 (fun s k => s.tele.always.toList.getD k 0)
/-- OD 6040 (R437). -/
def rows6040 : List Row := counterRun 3 14 (fun s k => s.tele.twins.toList.getD k 0)
/-- OD 2510 + p (R152). -/
def rows251p (p : Pipe) : List Row := counterRun 1 9 (fun s k => s.upd.pipes[p].stalls.toList.getD k 0)
/-- OD 2730 + c (R180). -/
def rows273c (c : Core) : List Row := counterRun 1 8 (fun s k => s.vec.cores[c].counters.toList.getD k 0)
/-- OD 5300.01 to 5300.08 (R276). -/
def rowsCircuits : List Row :=
  (List.finRange 8).map (fun n => wd (1 + n.val) (fun s => padTo 64 s.route.circuits[n].raw))

/-- The objects of the indices that stand alone. -/
def objectList1 : List (Nat × List Row) :=
  [(0x1018, rows1018),
   (0x1020, rows1020),
   (0x1021, rows1021),
   (0x1030, rows1030),
   (0x1040, rows1040),
   (0x1F00, rows1F00),
   (0x1F10, rows1F10),
   (0x2000, rows2000),
   (0x2010, rows2010),
   (0x2020, rows2020),
   (0x2030, rows2030),
   (0x2100, rows2100),
   (0x2200, rows2200),
   (0x2300, rows2300),
   (0x2310, rows2310 ++ rowsSlots),
   (0x2320, rows2320),
   (0x2500, rows2500),
   (0x2600, rows2600),
   (0x2610, rows2610),
   (0x2700, rows2700),
   (0x2720, rows2720),
   (0x2800, rows2800)]
def objectList2 : List (Nat × List Row) :=
  [(0x2810, rows2810),
   (0x2820, rows2820),
   (0x3000, rows3000),
   (0x3100, rows3100),
   (0x3200, rows3200),
   (0x3300, rows3300),
   (0x3310, rows3310),
   (0x3440, rows3440),
   (0x3500, rows3500),
   (0x3510, rows3510),
   (0x4000, rows4000),
   (0x4010, rows4010),
   (0x4100, rows4100),
   (0x4200, rows4200),
   (0x5020, rows5020),
   (0x5100, rows5100),
   (0x5200, rows5200),
   (0x5210, rows5210),
   (0x5300, rowsCircuits ++ rows5300),
   (0x6000, rows6000),
   (0x6010, rows6010),
   (0x6020, rows6020)]
def objectList3 : List (Nat × List Row) :=
  [(0x6040, rows6040),
   (0x6100, rows6100),
   (0x6400, rows6400),
   (0x6500, rows6500),
   (0x7000, rows7000),
   (0x7100, rows7100),
   (0x8000, rows8000),
   (0x8020, rows8020),
   (0x8100, rows8100),
   (0x8200, rows8200),
   (0x8300, rows8300),
   (0x8310, rows8310),
   (0x8400, rows8400),
   (0x9000, rows9000),
   (0x9010, rows9010),
   (0x9030, rows9030),
   (0x9040, rows9040),
   (0xA000, rowsA000),
   (0xA300, rowsA300),
   (0xA400, rowsA400),
   (0x6030, counterRun 1 5 (fun s k => s.tele.stallRed.toList.getD k 0)),
   (0x6031, counterRun 1 5 (fun s k => s.tele.stallStr.toList.getD k 0))]
def objectList4 : List (Nat × List Row) :=
  [(0x6032, counterRun 1 5 (fun s k => s.tele.stallCod.toList.getD k 0)),
   (0x6033, counterRun 1 4 (fun s k => s.tele.stallMvR.toList.getD k 0)),
   (0x6034, counterRun 1 4 (fun s k => s.tele.stallMvW.toList.getD k 0))]
def objectList : List (Nat × List Row) := objectList1 ++ objectList2 ++ objectList3 ++ objectList4

/-- The objects of an index. -/
def rowsOf (idx : Nat) : List Row :=
  if h : 0x2400 ≤ idx ∧ idx < 0x2410 then rows240n ⟨idx - 0x2400, by omega⟩
  else if h : 0x2510 ≤ idx ∧ idx < 0x2518 then rows251p ⟨idx - 0x2510, by omega⟩
  else if h : 0x2710 ≤ idx ∧ idx < 0x2720 then rows271n ⟨idx - 0x2710, by omega⟩
  else if h : 0x2730 ≤ idx ∧ idx < 0x2740 then rows273c ⟨idx - 0x2730, by omega⟩
  else if h : 0x3400 ≤ idx ∧ idx < 0x3440 then rows34cc ⟨idx - 0x3400, by omega⟩
  else if h : 0x5000 ≤ idx ∧ idx < 0x5018 then rows50pp ⟨idx - 0x5000, by omega⟩
  else if h : 0xA100 ≤ idx ∧ idx < 0xA118 then rowsA1pp ⟨idx - 0xA100, by omega⟩
  else if h : 0xA200 ≤ idx ∧ idx < 0xA218 then rowsA2pp ⟨idx - 0xA200, by omega⟩
  else ((objectList.find? (·.1 == idx)).map (·.2)).getD []

/-- The object at an index and subindex. -/
def objectAt (idx : U16) (sub : U8) : Option Row := (rowsOf idx.toNat).find? (fun r => r.sub == sub.toNat)

/-- The value of a scalar as little-endian bytes. -/
def Row.value (r : Row) (s : State) : List Byte := if r.ty.scalar then leBytes r.ty.size (r.get s) else r.dom s

/-- The indices that hold objects, in order. -/
def allIndices : List Nat :=
  [0x1018, 0x1020, 0x1021, 0x1030, 0x1040, 0x1F00, 0x1F10, 0x2000, 0x2010, 0x2020, 0x2030, 0x2100, 0x2200, 0x2300, 0x2310,
   0x2320] ++ (List.range 16).map (0x2400 + ·) ++ [0x2500] ++ (List.range 8).map (0x2510 + ·) ++ [0x2600, 0x2610, 0x2700] ++
  (List.range 16).map (0x2710 + ·) ++ [0x2720] ++ (List.range 16).map (0x2730 + ·) ++
  [0x2800, 0x2810, 0x2820, 0x3000, 0x3100, 0x3200, 0x3300, 0x3310] ++ (List.range 64).map (0x3400 + ·) ++
  [0x3440, 0x3500, 0x3510, 0x4000, 0x4010, 0x4100, 0x4200] ++ (List.range 24).map (0x5000 + ·) ++
  [0x5020, 0x5100, 0x5200, 0x5210, 0x5300, 0x6000, 0x6010, 0x6020, 0x6030, 0x6031, 0x6032, 0x6033, 0x6034, 0x6040, 0x6100, 0x6400,
   0x6500, 0x7000, 0x7100, 0x8000, 0x8020, 0x8100, 0x8200, 0x8300, 0x8310, 0x8400, 0x9000, 0x9010, 0x9030, 0x9040, 0xA000] ++
  (List.range 24).map (0xA100 + ·) ++ (List.range 24).map (0xA200 + ·) ++ [0xA300, 0xA400]

end Sys2Proof.Machine
end

