-- ==== Sys2Proof/Machine/ObjScan.lean ====
section
/-! DEFINITION. Snapshots of the counters (R440 to R442). -/
namespace Sys2Proof.Machine
open Sys2Proof

/-- The entries of one counter object; the flag marks a counter reset in the cycle that latches it (R442). -/
def Row.latch (idx : Nat) (boundary : Bool) (s : State) (r : Row) : List SnapEntry :=
  (r.counts s).zipIdx.map fun (v, k) => ⟨BitVec.ofNat 16 idx, BitVec.ofNat 8 r.sub, boundary, BitVec.ofNat 16 k, v⟩

/-- Every counter object of indices 2000 to 6FFF, in index, subindex and element order (R440, R441). -/
def State.latchAll (s : State) (interval : Bool) : List SnapEntry :=
  (allIndices.filter (fun i => decide (0x2000 ≤ i) && decide (i ≤ 0x6FFF))).flatMap fun i =>
    (rowsOf i).flatMap (Row.latch i (interval && i == 0x6040) s)

/-- A snapshot is taken; action 2 also starts an interval (R440). One taken while another is being written is refused. -/
def State.takeSnapshot (action : U8) (s : State) : State :=
  if s.tele.snapBusy.isSome then
    s.setTele (fun t => { t with snapStatus := 4, snapRefused := bump t.snapRefused })
  else
    let x : Snap := { num := s.tele.snapNum + 1, action := action, opMs := s.time.opMs
                      latches := (List.range 44).map s.ns, entries := s.latchAll (action == 2) }
    s.setTele (fun t => { t with
      snapStatus := 1, snapNum := t.snapNum + 1, snapBusy := some x
      twins := if action == 2 then Vector.replicate 14 0 else t.twins })

/-- SNAPSHOT (R440): snapshot action 1. -/
def execSnapshot (s : State) : Host.Outcome State Fault Refusal := .next (s.takeSnapshot 1)
/-- SNAPSHOT_INTERVAL (R440): snapshot action 2. -/
def execSnapshotInterval (s : State) : Host.Outcome State Fault Refusal := .next (s.takeSnapshot 2)

/-- The bytes of a snapshot in the ring: header, 44 latch times, entries (R441). -/
def Snap.size (x : Snap) : Nat := 64 + 352 + 16 * x.entries.length
/-- The snapshot ring. -/
def snapRing : Nat := 33554432

/-- The newest snapshots that fit the ring together. -/
def fitRing : List Snap → Nat → List Snap
  | [], _ => []
  | x :: l, room => if x.size ≤ room then x :: fitRing l (room - x.size) else []

/-- The ring wraps, the oldest snapshots being overwritten; each snapshot follows the one before. -/
def snapshotWritten (s : State) : State :=
  match s.tele.snapBusy with
  | none => s
  | some x =>
    let off := match s.tele.snaps.getLast? with
      | some p => (s.tele.snapOff.toNat + p.size) % snapRing
      | none => 0
    let l := (fitRing (s.tele.snaps ++ [x]).reverse snapRing).reverse
    (s.setTele (fun t => { t.countBytes 3 x.size with
      snaps := l, snapBusy := none, snapStatus := 0, snapOff := BitVec.ofNat 32 off })).raiseIrq 5

/-- SNAPSHOT_WRITTEN (R441, R476). -/
def execSnapshotWritten (s : State) : Host.Outcome State Fault Refusal := .next (snapshotWritten s)

end Sys2Proof.Machine
end

