-- ==== Sys2Proof/Machine/Reduction.lean ====
section
/-! DEFINITION. The commands of the reduction engine (R71 to R103): pieces, unparking, anchor requests, acknowledgements and
retention, the scalar service, its configuration, the tree table, and the second pass of held mode. -/
namespace Sys2Proof.Machine
open Sys2Proof

/-! ## Pieces (R84) -/

/-- A piece is discarded: the step's discarded contributions rise (R28). -/
def State.dropPiece (h : Header) (s : State) : State := s.noteDiscarded h.step h.count.toNat

/-- A window takes another value wherever it is held. -/
def State.putWindow (x : Window) (s : State) : State :=
  let s := s.setWindow x
  { s with red := { s.red with parked := s.red.parked.map (fun (p : Parked) =>
      if p.win.isKey x.ts x.w x.step then { p with win := x } else p) } }

def State.dropDuplicate (h : Header) (s : State) : State :=
  { s.dropPiece h with red := { s.red with duplicates := bump s.red.duplicates } }

/-- The last flag of a piece counts though the piece is a duplicate (R84). -/
def Window.noteLast (h : Header) (x : Window) : Window :=
  if h.last && !(x.lastFrom.contains h.contrib) then { x with lastFrom := x.lastFrom ++ [h.contrib] } else x

/-- Event 0x2202, the first of each window (R82, R84). -/
def State.badPiece (h : Header) (w : U32) (s : State) : State :=
  let k := (h.ts, w, h.step)
  if s.red.badFirst.contains k then s
  else ({ s with red := { s.red with badFirst := k :: s.red.badFirst } }).record
    (ev3 0x2202 unitRed (arg4 (cnOf h.src) ++ arg4 h.contrib ++ arg4 h.ts ++ arg4 h.blk))

/-- A piece that finds no window or park space (R85, R86). -/
def State.refuseFull (h : Header) (w : U32) (s : State) : State :=
  let s := { s with red := { s.red with resRefusals := bump s.red.resRefusals } }
  let s := s.askPiece h 3 0
  if s.red.parkFullStep = some h.step then s
  else ({ s with red := { s.red with parkFullStep := some h.step } }).record
    (ev3 0x2203 unitRed (arg4 h.step ++ arg4 h.ts ++ arg4 w))

/-- A piece under another anchor than the one in force (R84). -/
def State.anchorMismatch (h : Header) (w : U32) (a : Int) (s : State) : State :=
  let s := s.dropPiece h
  let s := { s with red := { s.red with anchorMism := bump s.red.anchorMism } }
  let s := s.askPiece h 2 a
  let k := (h.ts, w, h.step, h.contrib)
  let n : Nat := ((s.red.mism.find? (fun x => x.1 == k)).map (fun x => x.2)).getD 0 + 1
  let s := { s with red := { s.red with mism := s.red.mism.filter (fun x => x.1 != k) ++ [(k, n)] } }
  if decide (n ≥ 3) && !(s.red.agentAnchor.contains (h.contrib, h.step)) then
    ({ s with red := { s.red with agentAnchor := (h.contrib, h.step) :: s.red.agentAnchor } }).record
      (ev3 0x2205 unitRed (arg4 h.contrib ++ le16 h.anchor ++ le16 (ofSigned16 a)))
    else s

/-- What a piece does to its window. -/
inductive PieceKind where
  | poison | nonfinite | breach | add
deriving DecidableEq, Repr

/-- What a piece does. A breach-flagged PARTIAL counts as a breach also when it carries the non-finite flag or meets a window that is
non-finite (DESIGN CHOICE: R90 and R94 leave their order open, notes/assumptions/77.md). -/
def pieceKind (h : Header) (a : Int) (vs : List Fv) (winNonfinite : Bool) : PieceKind :=
  if h.poison then .poison
  else if h.breach then .breach
  else if h.nonfinite || vs.any (fun v => !v.isFinite) then .nonfinite
  else if h.typ == 3 && !winNonfinite && vs.any (breaches a) then .breach
  else .add

/-- The window with a piece taken in (R77, R83, R94, R95). -/
def Window.take (r : TreeRec) (h : Header) (pay : List Byte) (k : PieceKind) (slot arr : Nat) (x : Window) : Window :=
  { x with
    acc := if k = .add then addInts x.acc (h.winStart r) (pieceInts x.anchor h pay) else x.acc
    masks := x.masks.modify slot (· ||| h.granules r)
    poison := x.poison || k == .poison
    nonfinite := x.nonfinite || k == .nonfinite
    lastFrom := if h.last then x.lastFrom ++ [h.contrib] else x.lastFrom
    taken := x.taken + h.count.toNat
    pieces := x.pieces ++ [(h.contrib, h.blk, BitVec.ofNat 8 h.code, h.typ)]
    arrived := arr }

def State.countPiece (h : Header) (k : PieceKind) (s : State) : State :=
  let s := { s with red := { s.red with
    piecesAcc := bump s.red.piecesAcc
    contribAcc := if k = .add then bumpBy s.red.contribAcc h.count.toNat else s.red.contribAcc
    arrivals := s.red.arrivals + 1 } }
  -- 16 bytes of each accumulator are read and written (OD 6000.0C)
  if k = .add then (s.noteAccepted h.step h.count.toNat).countBytes 9 (32 * h.count.toNat) else s

/-- The window of a piece in a free window: the piece is taken in, a breach acts at once, a whole window completes. -/
def State.takeOpen (r : TreeRec) (b : Block) (k : PieceKind) (slot : Nat) (x : Window) (s : State) : State :=
  if k = .breach then
    let y := { x with pieces := x.pieces ++ [(b.hdr.contrib, b.hdr.blk, BitVec.ofNat 8 b.hdr.code, b.hdr.typ)]
                      taken := x.taken + b.hdr.count.toNat }
    (s.setWindow y).breach r y
  else
    let s := s.countPiece b.hdr k
    let y := x.take r b.hdr b.pay k slot s.red.arrivals
    let s := s.setWindow y
    if y.whole r then s.completeWindow r y else s

/-- The stored pieces change the record at once in this model; the record and its pieces move when it is unparked (R85). A piece is
stored beside its record without a check for room, as a retained output is (DESIGN CHOICE: R86 bounds what needs a window only,
notes/assumptions/77.md). -/
def State.takeParked (r : TreeRec) (b : Block) (k : PieceKind) (slot : Nat) (p : Parked) (s : State) : State :=
  let waiting := p.win.whole r || decide (p.stored.length ≥ 16)
  if k = .breach || waiting then
    match s.unpark p with
    | some (x, s) => if waiting && x.whole r then s.completeWindow r x else s.takeOpen r b k slot x
    | none => s.refuseFull b.hdr p.win.w
  else
    let s := s.countPiece b.hdr k
    let y := p.win.take r b.hdr b.pay k slot s.red.arrivals
    let at_ := s.parkPlace 4160
    let q : Parked := { p with win := y, stored := p.stored ++ [b], storedAt := p.storedAt ++ [at_] }
    let s := { s with red := { s.red with
      parked := s.red.parked.map (fun (z : Parked) => if z.win.isKey y.ts y.w y.step then q else z) } }
    let s := (s.parkWrite at_ 4160).countPark 4160 true
    if y.whole r then
      match s.unpark q with
      | some (x, s) => s.completeWindow r x
      | none => s
    else s

/-- A piece that every discarding row of R84 lets pass. -/
def State.takePiece (r : TreeRec) (b : Block) (k : PieceKind) (slot : Nat) (w : U32) (s : State) : State :=
  let h := b.hdr
  match s.windowAt h.ts w h.step, s.parkedAt h.ts w h.step with
  | some x, _ => s.takeOpen r b k slot x
  | none, some p => s.takeParked r b k slot p
  | none, none =>
    match s.makeRoom h.step with
    | none => s.refuseFull h w
    | some s =>
      let x := r.newWindow w h.step (s.anchorFor h.ts w h.step)
      let s := { s with red := { s.red with windows := s.red.windows ++ [x] } }
      s.takeOpen r b k slot x

/-- The anchor row of R84 and what follows it. -/
def State.pieceAnchor (r : TreeRec) (b : Block) (slot : Nat) (w : U32) (x : Option Window) (a : Int) (vs : List Fv) (s : State) :
    State :=
  let h := b.hdr
  let d := signed16 h.anchor - a
  let bad := if h.code == 15 then decide (d < 0) || decide (d > 64) else d != 0
  if bad then s.anchorMismatch h w a
  else s.takePiece r b (pieceKind h a vs ((x.map (·.nonfinite)).getD false)) slot w

/-- The rows of R84 that look at the window of the piece. -/
def State.pieceAtWindow (r : TreeRec) (b : Block) (slot : Nat) (w : U32) (s : State) : State :=
  let h := b.hdr
  let x := s.anyWindow h.ts w h.step
  let a := (x.map (·.anchor)).getD (s.anchorFor h.ts w h.step)
  let vs := if h.poison || h.code == 14 || h.code == 15 then [] else unpackPlain h.code b.pay h.count.toNat
  if h.malformed r a vs then
    let s := s.dropPiece h
    ({ s with red := { s.red with malformed := bump s.red.malformed } }).badPiece h w
  else if s.red.acked.contains (h.ts, w, h.step) then
    (s.dropDuplicate h).ackPiece h.step h.ts (h.contrib, h.blk, BitVec.ofNat 8 h.code, h.typ)
  else
    match x with
    | some x =>
      if x.phase != .opened then
        let p := (h.contrib, h.blk, BitVec.ofNat 8 h.code, h.typ)
        let y := if x.pieces.contains p then x else { x with pieces := x.pieces ++ [p] }
        (s.dropDuplicate h).putWindow (y.noteLast h)
      else if ((x.masks[slot]?).getD 0 &&& h.granules r) != 0 then (s.dropDuplicate h).putWindow (x.noteLast h)
      else if x.lastFrom.contains h.contrib then s.dropDuplicate h
      else s.pieceAnchor r b slot w (some x) a vs
    | none => s.pieceAnchor r b slot w none a vs

/-- A resend an agent owed has come (R258). -/
def State.answerAgent (port : Port) (h : Header) (w : U32) (s : State) : State :=
  s.setPort port (fun q => { q with agentReqs := q.agentReqs.filter (fun a => !(a.ts == h.ts && (a.blk == h.blk || a.blk == w))) })

def pieceArrival (port : Port) (b : Block) (s : State) : State :=
  let h := b.hdr
  let s := s.takePk (.block b)
  if h.step.toNat > s.fence.cur.toNat + 1 || s.afterFailed h.step then
    { s.dropPiece h with red := { s.red with stepRefusals := bump s.red.stepRefusals } }
  else if h.step.toNat ≤ s.fence.sealedStep.toNat then s.dropDuplicate h
  else if h.step.toNat > s.red.anchorStep.toNat then
    ({ s with red := { s.red with resRefusals := bump s.red.resRefusals } }).askPiece h 4 0
  else
    match s.treeOf h.ts with
    | none =>
      ({ s.dropPiece h with red := { s.red with unknown := bump s.red.unknown } }).badPiece h h.blk
    | some r =>
      let w := BitVec.ofNat 32 (h.winOf r)
      match r.children.findIdx? (· == h.contrib) with
      | none => ({ s.dropPiece h with red := { s.red with unknown := bump s.red.unknown } }).badPiece h w
      | some slot => (s.answerAgent port h w).pieceAtWindow r b slot w

/-- PIECE_ARRIVAL (R84). -/
def execPieceArrival (port : Port) (blk : Block) (s : State) : Host.Outcome State Fault Refusal := .next (pieceArrival port blk s)

/-! ## Unparking (R85) -/

def windowUnpark (ts step w : U32) (s : State) : State :=
  match s.parkedAt ts w step with
  | none => s
  | some p =>
    match s.unpark p, s.treeOf ts with
    | some (x, s), some r => if x.whole r then s.completeWindow r x else s
    | _, _ => s

/-- WINDOW_UNPARK (R85): no effect while no window is free and the park area cannot hold another record. -/
def execWindowUnpark (ts step w : U32) (s : State) : Host.Outcome State Fault Refusal := .next (windowUnpark ts step w s)

/-! ## Anchor requests at an interior node (R91) -/

/-- The window a request concerns: named by its number, or by a piece of it. -/
def reqWindow (r : TreeRec) (pk : Trans) : U32 :=
  if pk.a16 8 == 0 then pk.a32 4
  else BitVec.ofNat 32 (pk.aNat 4 4 * fmtMax (pk.bNat 4 1) / r.winSpan)

/-- A request above the anchor in force (R91): the window's contents, stored pieces and retained output go, and its children are
asked. An open window stays open; another leaves its record, and its raised anchor waits for the first accepted piece (R85). -/
def State.raiseWindow (r : TreeRec) (ts w step : U32) (a : Int) (s : State) : State :=
  let fresh := r.newWindow w step a
  match s.windowAt ts w step, s.parkedAt ts w step with
  | some x, _ =>
    let s := s.noteDiscarded step x.taken
    if x.phase = .opened then (s.setWindow (x.clear a .opened)).askWindow r fresh false
    else ((s.dropWindow x).setRaised ts w step a).askWindow r fresh false
  | none, some p =>
    let s := s.noteDiscarded step p.win.taken
    ((s.readParked p).2.setRaised ts w step a).askWindow r fresh false
  | none, none => (s.setRaised ts w step a).askWindow r fresh false

def anchorResendReqReceive (pk : Trans) (s : State) : State :=
  let s := s.takePk (.trans pk)
  let ts := pk.a32 0
  match s.treeOf ts with
  | none => s
  | some r =>
    if r.role != 2 then s
    else
      let w := reqWindow r pk
      let a := signed16 (BitVec.ofNat 16 (pk.bNat 0 2))
      if s.red.acked.contains (ts, w, pk.step) then s
      else
        let x := s.anyWindow ts w pk.step
        let now := (x.map (·.anchor)).getD (s.anchorFor ts w pk.step)
        if a > now then s.raiseWindow r ts w pk.step a
        else if a = now then
          match x with
          | some x =>
            if x.phase = .opened then s.askWindow r x true
            else if x.phase = .breached then s.askWindow r (r.newWindow w pk.step now) true
            else s
          | none => s.askWindow r (r.newWindow w pk.step now) true
        else s

/-- ANCHOR_RESEND_REQ_RECEIVE (R91). -/
def execAnchorResendReqReceive (_port : Port) (pk : Trans) (s : State) : Host.Outcome State Fault Refusal :=
  .next (anchorResendReqReceive pk s)

/-! ## Retention (R62, R86, R87) -/

/-- Whether an acknowledgement or request names an output block: its format, index and count. -/
def names (pk : Trans) (fmt : Nat) (b : Block) : Bool :=
  b.hdr.ts == pk.a32 0 && b.hdr.code == fmt && decide (pk.aNat 4 4 ≤ b.hdr.blk.toNat) &&
  decide (b.hdr.blk.toNat < pk.aNat 4 4 + pk.aNat 8 2)

/-- The retained outputs of a window with their places. -/
def Window.heldOuts (x : Window) : List (Option Nat × Block) := x.outs.zipIdx.map (fun b => (x.outsAt[b.2]?, b.1))

/-- Retained outputs named by the parent are freed; a window with none left is acknowledged to the children (R87). -/
def ackOutputs (pk : Trans) (x : Window) (s : State) : State :=
  let kept := x.heldOuts.filter (fun b => !names pk (pk.aNat 11 1) b.2)
  let outs := kept.map (·.2)
  if outs.length = x.outs.length then s
  else if outs.isEmpty then
    ({ s.dropWindow x with red := { (s.dropWindow x).red with acked := s.red.acked ++ [(x.ts, x.w, x.step)] } }).ackPieces x
  else s.setWindow { x with outs := outs, outsAt := kept.filterMap (·.1) }

def treeBlockAckReceive (pk : Trans) (s : State) : State :=
  let s := s.takePk (.trans pk)
  (s.red.windows.filter (fun x => x.ts == pk.a32 0 && x.step == pk.step && x.phase != .opened)).foldl
    (fun s x => ackOutputs pk x s) s

/-- TREE_BLOCK_ACK_RECEIVE (R87). -/
def execTreeBlockAckReceive (_port : Port) (pk : Trans) (s : State) : Host.Outcome State Fault Refusal :=
  .next (treeBlockAckReceive pk s)

/-- A retained piece sent again with the resend flag; its stored bytes are read from Tier H (R87), and a lost sector poisons the
window's output (R95, R223). -/
def State.resendOut (b : Option Nat × Block) (s : State) : State :=
  let (bad, s) := match b.1 with
    | some a => s.parkRead a 4160
    | none => (false, s)
  let h := b.2.hdr
  let h := { h with flags := setFlag (setFlag h.flags 8 true) 0 (h.poison || bad) }
  (s.countPark 4160 false).send (.block { b.2 with hdr := h.seal })

def pieceResendReqReceive (pk : Trans) (s : State) : State :=
  let s := s.takePk (.trans pk)
  let bs := (s.red.windows.filter (fun x => x.step == pk.step && x.phase != .opened)).flatMap
    (fun x => x.heldOuts.filter (fun b => names pk (pk.bNat 4 1) b.2))
  bs.foldl (fun s b => s.resendOut b) s

/-- PIECE_RESEND_REQ_RECEIVE (R86): the retry interval where the reason requires it has passed. -/
def execPieceResendReqReceive (_port : Port) (pk : Trans) (s : State) : Host.Outcome State Fault Refusal :=
  .next (pieceResendReqReceive pk s)

def retentionResend (ts w : U32) (s : State) : State :=
  let bs := (s.red.windows.filter (fun x => x.ts == ts && x.w == w && x.phase != .opened)).flatMap Window.heldOuts
  bs.foldl (fun s b => s.resendOut b) s

/-- RETENTION_RESEND (R62, R87): the outputs of a window that no BLOCK_ACK has covered. -/
def execRetentionResend (ts w : U32) (s : State) : Host.Outcome State Fault Refusal := .next (retentionResend ts w s)

/-! ## The scalar service (R97 to R102) -/

def slotMembers (slot : U8) (s : State) : SlotCfg :=
  if h : slot.toNat < 16 then s.red.slots[slot.toNat] else {}

/-- Event 0x2206 (R558): source, slot, step, epoch, source CN. -/
def State.scalarRefused (src : Nat) (slot : U8) (step : U32) (epoch : U32) (cn : U32) (s : State) : State :=
  ({ s with red := { s.red with treeRefusals := bump s.red.treeRefusals } }).record
    (ev3 0x2206 unitRed (arg1 src ++ [slot] ++ arg4 step ++ arg4 epoch ++ arg4 cn))

/-- Every owned window of a step of a held tensor has completed (R100). -/
def State.heldDone (s : State) (step : U32) : Bool :=
  (s.owned.filter TensorEntry.held).all fun e =>
    if e.sparse then
      s.fence.pending && s.fence.cur == step &&
      !(s.red.windows.any (fun x => x.ts == e.ts && x.step == step && x.phase == .opened)) &&
      !(s.red.parked.any (fun p => p.win.ts == e.ts && p.win.step == step))
    else decide ((s.red.acked.filter (fun a => a.1 == e.ts && a.2.2 == step)).length ≥ s.windowsOf e)

def State.sumsOf (s : State) (step : U32) : StepSums := (s.red.sums.find? (·.step == step)).getD { step := step }

/-- The local input of a slot, when it is ready (R98, R100, R102). -/
def State.localInput (s : State) (slot op : U8) (step : U32) : Option ScalarVal :=
  if slot == 0 then
    if s.heldDone step then some { bits := if (s.sumsOf step).vote then 1 else 0 } else none
  else if op == 2 then
    if s.heldDone step then
      some { wide := (s.sumsOf step).x, nonfin := (s.sumsOf step).nonfin, poison := (s.sumsOf step).poison }
    else none
  else
    let v := if h : slot.toNat < 16 then s.red.inputs[slot.toNat] else 0
    if op == 1 then
      match wideOf v with
      | some x => some { wide := x }
      | none => some { nonfin := true }
    else some { bits := v }

/-- A node that holds everything sends up; the root delivers and sends down (R100). -/
def State.scalarUp (slot op : U8) (step : U32) (s : State) : State :=
  let r := s.redOf slot step 0
  match s.foldedRed op r with
  | none => s
  | some v =>
    if r.sent then s
    else
      let s := s.setRed { r with sent := true }
      match s.parent with
      | some p => s.sendScalar p slot op step 0 v false
      | none => (s.sendDown slot op step 0 v).deliverScalar slot op step v

/-- The own value joins an armed reduction once its input is ready. -/
def State.scalarTry (slot op : U8) (step : U32) (s : State) : State :=
  let r := s.redOf slot step 0
  let s := if r.armed && r.own.isNone then
      match s.localInput slot op step with
      | some v => s.setRed { r with own := some v }
      | none => s
    else s
  s.scalarUp slot op step

def scalarFenceWrite (v : U64) (s : State) : State :=
  let step : U32 := v.setWidth 32
  let slot : U8 := ((v >>> 32) &&& 0xF#64).setWidth 8
  let c := slotMembers slot s
  if step != s.fence.cur || !c.enabled then
    ({ s with red := { s.red with scalarStatus := 4 } }).scalarRefused 0 slot step s.job.epoch 0
  else
    let r := s.redOf slot step 0
    -- the input of a firmware slot is taken when the fence is written
    let own := if r.own.isSome then r.own else if slot == 0 || c.op == 2 then none else s.localInput slot c.op step
    let s := { s with red := { s.red with scalarStatus := 1 } }
    (s.setRed { r with armed := true, own := own }).scalarTry slot c.op step

/-- SCALAR_FENCE_WRITE (R100, R101). -/
def execScalarFenceWrite (v : U64) (s : State) : Host.Outcome State Fault Refusal := .next (scalarFenceWrite v s)

def scalarSendUp (slot : U8) (s : State) : State :=
  let c := slotMembers slot s
  if c.enabled then s.scalarTry slot c.op s.fence.cur else s

/-- SCALAR_SEND_UP (R100): no effect while the fence is not written or an input is missing. -/
def execScalarSendUp (slot : U8) (s : State) : Host.Outcome State Fault Refusal := .next (scalarSendUp slot s)

/-- Whether a SCALAR_REDUCE packet is taken (R101). A packet of a disabled slot, of another operation than the slot's, or from a CN
that is no neighbour in the tree is refused in the same way (DESIGN CHOICE: R101 names the step, the epoch and slot 0xFF only,
notes/assumptions/77.md). -/
def State.scalarOk (s : State) (pk : Trans) : Bool :=
  let slot := pk.a8 0
  let op := pk.a8 1
  let step := pk.a32 4
  pk.epoch == s.job.epoch &&
  (if slot == slotMaxv then op == 6 && (step == s.fence.cur || step == s.fence.sealedStep)
   else step == s.fence.cur && (slotMembers slot s).enabled && (slotMembers slot s).op == op)

def scalarReduceReceive (pk : Trans) (s : State) : State :=
  let s := s.takePk (.trans pk)
  let slot := pk.a8 0
  let op := pk.a8 1
  let step := pk.a32 4
  let seg := pk.a32 12
  let v := scalarOf pk
  let src := cnOf pk.src
  let down := (pk.a16 2).getLsbD 2
  if !(s.scalarOk pk) || !(if down then s.parent == some src else s.children.contains src) then
    s.scalarRefused 1 slot step pk.epoch src
  else if down then
    let s := s.sendDown slot op step seg v
    if slot == slotMaxv then s.takeSegment step seg v else s.deliverScalar slot op step v
  else
    let r := s.redOf slot step seg
    let s := s.setRed { r with kids := r.kids.filter (·.1 != src) ++ [(src, v)] }
    if slot == slotMaxv then (s.maxvUp step seg.toNat).rootCommit step else s.scalarTry slot op step

/-- SCALAR_REDUCE_RECEIVE (R100, R101). -/
def execScalarReduceReceive (_port : Port) (pk : Trans) (s : State) : Host.Outcome State Fault Refusal :=
  .next (scalarReduceReceive pk s)

/-! ## Slot configuration (R97) -/

/-- Whether entry n of OD 2310.03 keeps the rules of R97. -/
def slotOk (n : Nat) (e : List Byte) : Bool :=
  let op := byteAt e 0
  let en := byteAt e 1
  byteAt e 2 == 0 && byteAt e 3 == 0 &&
  (if n = 0 then op == 5 && en == 1
   else if n = 1 then (op == 2 && en == 1) || (op == 0 && en == 0)
   else (op == 0 && en == 0) || (decide (1 ≤ op.toNat) && decide (op.toNat ≤ 5) && en == 1))

def slotConfigWrite (bytes : List Byte) (s : State) : State :=
  let es := chunksOf 16 4 bytes
  if bytes.length = 64 ∧ es.zipIdx.all (fun x => slotOk x.2 x.1) then
    { s with red := { s.red with
        slots := Vector.ofFn (fun (i : Fin 16) => { op := byteAt bytes (4 * i.val), enabled := byteAt bytes (4 * i.val + 1) == 1 }) } }
  else s.scalarRefused 2 0xFF s.fence.cur s.job.epoch 0

/-- SLOT_CONFIG_WRITE (R97). -/
def execSlotConfigWrite (bytes : List Byte) (s : State) : Host.Outcome State Fault Refusal := .next (slotConfigWrite bytes s)

/-! ## The tree table (R80, R81) -/

/-- The record at the head of a table's bytes, and its length; the reserved bits of its CNs are ignored and read as zero (R16). -/
def treeRecOf (l : List Byte) : TreeRec × Nat :=
  let n := (byteAt l 7).toNat
  ({ ts := field32 l 0, role := byteAt l 4, wire := byteAt l 5, span := byteAt l 6, parent := cnOf (field32 l 8), leaves := field32 l 12
     count := field64 l 16, children := (List.range n).map (fun i => field32 l (24 + 4 * i) &&& 0xFFFFFF#32) }, 24 + 4 * n)

/-- The conditions of R81 on one record. -/
def TreeRec.ok (r : TreeRec) : Bool :=
  (r.role == 1 || r.role == 2) && (r.wire == 2 || r.wire == 4 || r.wire == 0x0F) &&
  decide (9 ≤ r.span.toNat) && decide (r.span.toNat ≤ 13) &&
  decide (1 ≤ r.children.length) && decide (r.children.length ≤ 64) && decide r.children.Nodup &&
  decide (1 ≤ r.leaves.toNat) && decide (r.leaves.toNat ≤ 2 ^ 24) && decide (1 ≤ r.count.toNat) && decide (r.count.toNat ≤ 2 ^ 40)

/-- The records of a table, or the offset of the first bad one; fuel is the number of records at most. -/
def parseTrees : Nat → Nat → List TreeRec → List Byte → Except Nat (List TreeRec)
  | 0, _, acc, _ => .ok acc.reverse
  | k + 1, off, acc, l =>
    if l.isEmpty then .ok acc.reverse
    else
      let (r, n) := treeRecOf l
      if l.length < n || l.length < 24 || !r.ok || acc.any (·.ts == r.ts) then .error off
      else parseTrees k (off + n) (r :: acc) (l.drop n)

def State.refuseTree (off : Nat) (s : State) : State :=
  let v := BitVec.ofNat 32 off
  ({ s with red := { s.red with treeErr := v, treeTableRefusals := bump s.red.treeTableRefusals } }).record
    (ev3 0x2207 unitRed (arg4 v))

def treeTableWrite (bytes : List Byte) (s : State) : State :=
  if s.job.dev != .standby && s.job.dev != .opening && s.job.dev != .run then s.refuseTree 0xFFFFFFFF
  else
    match parseTrees (bytes.length / 24 + 1) 0 [] bytes with
    | .error off => s.refuseTree off
    | .ok rs =>
      if s.job.dev = .run then { s with red := { s.red with held := some rs } }
      else { s with red := { s.red with trees := rs } }

/-- TREE_TABLE_WRITE (R80, R81). -/
def execTreeTableWrite (bytes : List Byte) (s : State) : Host.Outcome State Fault Refusal := .next (treeTableWrite bytes s)

/-! ## Held mode, second pass (R136 to R138) -/

def State.resultAt (s : State) (slot : U8) (step : U32) : Option (U64 × Bool) :=
  (s.red.resultsAt.find? (fun x => x.1 == slot && x.2.1 == step)).map (·.2.2)

/-- The FP32 value of a held slot's result (R137). -/
def heldValue (bits : U64) (float : Bool) : U32 := if float then r32 (v64 bits) else r32 (ofIntV bits.toInt)

def heldSecondPass (ts w : U32) (s : State) : State :=
  match s.upd.heldArea.find? (fun h => h.ts == ts && h.w == w), s.ownerOf ts with
  | some h, some e =>
    let heldRes := if e.heldSlot == 0 then some none else (s.resultAt e.heldSlot h.step).map some
    match s.resultAt 0 h.step, heldRes with
    | some _, some hv =>
      let (g, bad, s) := s.readHeld e w.toNat (winElems (s.winSpan ts) e.count.toNat w.toNat)
      let s := { s with upd := { s.upd with heldArea := s.upd.heldArea.filter (fun x => !(x.ts == ts && x.w == w && x.step == h.step)) } }
      let s := s.setEntry ts 1 (fun e => { e with status := if e.status = .scalarWait then .running else e.status })
      let d : DispWin := { ts := ts, w := w, step := h.step, second := true, g := g, poison := h.poison || bad
                           nonfinite := h.nonfinite, anchor := h.anchor, handed := h.handed, ready := true, tPrime := e.t + 1
                           heldVal := hv.map (fun x => heldValue x.1 x.2) }
      if d.poison then s.consumePoison d
      else { s with upd := { s.upd with disp := s.upd.disp ++ [d] } }
    | _, _ => s
  | _, _ => s

/-- HELD_SECOND_PASS (R136): no effect while a scalar result is missing. -/
def execHeldSecondPass (ts w : U32) (s : State) : Host.Outcome State Fault Refusal := .next (heldSecondPass ts w s)

end Sys2Proof.Machine
end

