-- ==== Sys2Proof/Machine/Tiers.lean ====
section
/-! DEFINITION. The commands of the memory tiers (R205 to R208, R218): remote access, the region table, the patrol scrub. -/
namespace Sys2Proof.Machine
open Sys2Proof

/-! ## Remote access (R205, R197, R248) -/

/-- READ_RESP to a remote end: status 0x00 done, 0x01 refused, 0x02 uncorrectable with the poison flag. -/
def State.readResp (pk : Trans) (status : U8) (body : List Byte) (s : State) : State :=
  let t := s.mkTrans opREAD_RESP (cnOf pk.src) pk.step (le32 (pk.a32 0) ++ [status]) [] [] body
  s.send (.trans ({ t with flags := if status == 2 then 3 else 2 }).seal)

/-- Row of R205 that applies. -/
inductive Access where
  | region | job | grant (t : Tier)
deriving DecidableEq, Repr

def State.accessRow (s : State) (pk : Trans) (write : Bool) (n : Nat) : Access :=
  let off := offOf pk.b
  match tierOf off, s.regionAt off with
  | some t, some r =>
    if !(r.flags.getLsbD (if write then 3 else 2)) || decide (off + n > r.payOff + r.size.toNat) then .region
    else if r.jt != pk.jt then .job else .grant t
  | _, _ => .region

/-- A refused access is counted, and recorded by the controller of the offset's tier, by Tier H's where R203 gives the offset no
tier (R205, R228, R429; notes/assumptions/70.md). -/
def State.countRefused (event : Bool) (pk : Trans) (s : State) : State :=
  let s := { s with mem := { s.mem with accessRefused := bump s.mem.accessRefused } }
  let k := (cnOf pk.src, s.job.epoch)
  if !event || s.mem.refusedSrc.contains k then s
  else ({ s with mem := { s.mem with refusedSrc := k :: s.mem.refusedSrc } }).record (ev3 0x5014 (unitMem ((tierOf (offOf pk.b)).getD .h)) [])

/-- A WRITE from an agent's CN is discarded (R197). -/
def State.agentWrite (pk : Trans) (s : State) : State :=
  let s := { s with str := { s.str with agentWrites := bump s.str.agentWrites } }
  if s.str.agentWriteStep = some s.fence.cur then s
  else ({ s with str := { s.str with agentWriteStep := some s.fence.cur } }).record
    (ev3 0x2605 unitStr (arg4 (cnOf pk.src) ++ arg8 pk.b))

def remoteWrite (pk : Trans) (s : State) : State :=
  let s := s.takePk (.trans pk)
  if s.agents.any (·.2 == cnOf pk.src) then (s.agentWrite pk).readResp pk 1 []
  else
    match s.accessRow pk true (64 * pk.cells) with
    | .region => (s.countRefused true pk).readResp pk 1 []
    | .job => (s.countRefused false pk).readResp pk 1 []
    | .grant t => (s.writeMem t (offOf pk.b) pk.paddedBody).readResp pk 0 []

/-- REMOTE_WRITE (R205, R197). -/
def execRemoteWrite (_port : Port) (pk : Trans) (s : State) : Host.Outcome State Fault Refusal := .next (remoteWrite pk s)

def remoteRead (pk : Trans) (s : State) : State :=
  let s := s.takePk (.trans pk)
  let n := 64 * (pk.a8 4).toNat
  -- A[4] is 1 to 64 (R248); any other count is refused as an access that no region holds (notes/assumptions/82.md)
  match if 1 ≤ n ∧ n ≤ 4096 then s.accessRow pk false n else .region with
  | .region => (s.countRefused true pk).readResp pk 1 []
  | .job => (s.countRefused false pk).readResp pk 1 []
  | .grant t =>
    let (l, bad, s) := s.readMem t (offOf pk.b) n
    s.readResp pk (if bad then 2 else 0) l

/-- REMOTE_READ (R205). -/
def execRemoteRead (_port : Port) (pk : Trans) (s : State) : Host.Outcome State Fault Refusal := .next (remoteRead pk s)

/-! ## The region table (R206 to R208) -/

def regionOf (old : List Region) (l : List Byte) : Region :=
  let id := field16 l 0
  { id := id, kind := byteAt l 2, flags := byteAt l 3, jt := ((old.find? (·.id == id)).map (·.jt)).getD 0
    base := field64 l 8, size := field64 l 16, hbase := field64 l 24 }

/-- Retained and block-structured as R207 gives them; remote flags where R208 allows them. -/
def Region.flagsOk (r : Region) : Bool :=
  let f (ret blk remote : Bool) : Bool :=
    r.flags.getLsbD 0 == ret && r.flags.getLsbD 1 == blk && (remote || (!r.flags.getLsbD 2 && !r.flags.getLsbD 3)) &&
    decide (r.flags.toNat < 16)
  match r.kind.toNat with
  | 1 => f false true false
  | 2 => f false true false
  | 3 => f false false true
  | 5 => f false false true
  | 6 => f true true false
  | 7 => f true true false
  | 8 => f true true false
  | _ => false

def kindTier (kind : U8) (t : Tier) : Bool :=
  match kind.toNat with
  | 3 => t == .h
  | 6 => t == .l
  | 7 => t == .l
  | 8 => t == .l
  | _ => true

/-- The areas of a region as (offset, length). -/
def Region.areas (r : Region) : List (Nat × Nat) :=
  (r.payOff, r.size.toNat) :: (if r.blockStructured then [(r.hdrOff, r.size.toNat / 64)] else [])

def apart (a b : Nat × Nat) : Bool := decide (a.1 + a.2 ≤ b.1) || decide (b.1 + b.2 ≤ a.1)

/-- The tier that holds a whole area of the device. -/
def State.areaTier (s : State) (base : U64) (n : Nat) : Option Tier := if s.ownRange base n then tierOf (offOf base) else none

/-- A device entry, kept whatever a write holds (R207, R208). -/
def Region.device (r : Region) : Bool := r.flags.getLsbD 4

def State.regionOk (s : State) (before : List Region) (r : Region) : Bool :=
  r.flagsOk && decide (1 ≤ r.id.toNat) && decide (r.id.toNat ≤ 1024) && !(before.any (·.id == r.id)) &&
  r.base.toNat % 4096 == 0 && r.size.toNat % 4096 == 0 && decide (4096 ≤ r.size.toNat) &&
  (match s.areaTier r.base r.size.toNat with
   | none => false
   | some t => kindTier r.kind t &&
     (!r.blockStructured || (r.hbase.toNat % 64 == 0 && s.areaTier r.hbase (r.size.toNat / 64) == some t))) &&
  ((before ++ s.mem.regions.filter Region.device).flatMap Region.areas).all (fun a => r.areas.all (apart a)) &&
  (!r.blockStructured || apart (r.payOff, r.size.toNat) (r.hdrOff, r.size.toNat / 64)) &&
  !(r.kind == 3 && before.any (·.kind == 3))

/-- The regions of a table, or the offset of the first bad entry. -/
def State.parseRegions (s : State) : Nat → List Region → List (List Byte) → Except Nat (List Region)
  | _, acc, [] => .ok acc
  | off, acc, l :: rest =>
    let r := regionOf s.mem.regions l
    if l.length = 48 ∧ s.regionOk acc r then s.parseRegions (off + 48) (acc ++ [r]) rest else .error off

def State.refuseRegions (off : Nat) (s : State) : State :=
  let v := BitVec.ofNat 32 off
  ({ s with mem := { s.mem with regionErr := v, tableRefusals := bump s.mem.tableRefusals } }).record
    (ev3 0x5016 (unitMem .h) (arg4 v))

def regionTableWrite (bytes : List Byte) (s : State) : State :=
  if !s.loadable then s
  else
    match s.parseRegions 0 [] (chunksOf (bytes.length / 48 + 1) 48 bytes) with
    | .error off => s.refuseRegions off
    | .ok rs =>
      if rs.any (·.kind == 3) then { s with mem := { s.mem with regions := s.mem.regions.filter Region.device ++ rs } }
      else s.refuseRegions bytes.length

/-- REGION_TABLE_WRITE (R208): in another state the write is refused with nothing set. -/
def execRegionTableWrite (bytes : List Byte) (s : State) : Host.Outcome State Fault Refusal := .next (regionTableWrite bytes s)

/-! ## The patrol scrub (R218, R219) -/

def tierPages : Tier → Nat
  | .h => 142082048
  | .l => 251658240

/-- Errors of stored codewords that have come about by now, as (sector offset, wrong symbols) (notes/assumptions/6.md). -/
def MemState.addErrors (t : Tier) (errs : List (U64 × U8)) (m : MemState) : MemState :=
  let good := errs.filter (fun e => tierOf e.1.toNat == some t && e.1.toNat % 64 == 0 && e.2 != 0)
  { m with bad := m.bad.filter (fun b => !(b.1 == t && good.any (fun e => e.1 == b.2.1))) ++
      (good.map (·.1)).eraseDups.map (fun a => (t, a, (good.filter (·.1 == a)).foldl (fun n e => max n e.2.toNat) 0)) }

def MemState.scrubPos (m : MemState) : Tier → U64
  | .h => m.posH
  | .l => m.posL
def MemState.setScrubPos (m : MemState) (t : Tier) (p : U64) : MemState :=
  match t with
  | .h => { m with posH := p }
  | .l => { m with posL := p }

def patrolScrub (t : Tier) (errs : List (U64 × U8)) (s : State) : State :=
  let m := s.mem.addErrors t errs
  let page := (m.scrubPos t).toNat
  -- a new pass at page 0 restarts the corrected counts of every frame of the tier
  let m := if page = 0 then { m with corrected := m.corrected.filter (fun e => e.1 != t) } else m
  let s := { s with mem := m }
  let off := pageOff t page
  let s := s.readRange t off 4096
  let s := { s with mem := s.mem.setScrubPos t (BitVec.ofNat 64 ((page + 1) % tierPages t)) }
  s.countBytes (tierRead t) 4096

/-- PATROL_SCRUB (R218): the next frame of the tier is read. -/
def execPatrolScrub (tier : Tier) (errs : List (U64 × U8)) (s : State) : Host.Outcome State Fault Refusal :=
  .next (patrolScrub tier errs s)

end Sys2Proof.Machine
end

