-- ==== Sys2Proof/Machine/ObjWrite.lean ====
section
/-! DEFINITION. Writes of RW objects as their owning rules take them (R457 to R463): the states that permit them, the values they
accept, and the refusals that the owning rules count. -/
namespace Sys2Proof.Machine
open Sys2Proof

/-- Everything that an owning rule raises or sets when it refuses: a write after which it differs was refused (R460). -/
def State.refusalMark (s : State) : List U64 :=
  [s.fence.refusals, s.red.treeTableRefusals, s.upd.sizeRefusals, s.upd.loadRefusals, s.upd.maskRefusals, s.vec.loadRefusals,
   s.str.refusals, s.mem.tableRefusals, s.route.refusals, s.route.substRefusals, s.route.circRefusals, s.part.clsRefusals,
   s.adj.refusals, s.mov.refusals, s.job.refusals, s.det.refusals, s.health.gRefused, s.tele.snapRefused, s.tele.clearRefused,
   s.boot.keyRefusals, s.boot.imgRefusals, s.boot.pkgRefusals, s.exer.refusals, BitVec.ofBool s.tele.traceRefused |>.setWidth 64]

/-- A status object that shows a refusal in place of a counter (R100, R406). -/
def State.refusedStatus (s : State) : Bool × Bool := (s.red.scalarStatus == 4, s.det.fenceStatus == 4)

/-- A write handed to its owning rule: status 0x00, or 0x04 when the rule refused it. -/
def judged (f : State → State) (s : State) : U8 × State :=
  let s' := f s
  (if s'.refusalMark == s.refusalMark then 0 else 4, s')

/-- The states in which the owning chapter permits a write of an RW object. -/
def State.permits (s : State) (idx sub : Nat) : Bool :=
  match idx, sub with
  | 0x2010, 2 | 0x2600, 1 | 0x2720, 1 | 0x2810, 1 | 0x2820, 1 | 0x3200, 1 | 0x3200, 2 | 0x3510, 1 => s.loadable
  | 0x2320, 1 | 0x3000, 2 | 0x3000, 3 | 0x3000, 4 => s.loadable || s.job.dev == .run
  | 0x5100, _ => s.job.dev == .standby
  | idx, _ =>
    if (0x2400 ≤ idx ∧ idx < 0x2410) ∨ (0x2710 ≤ idx ∧ idx < 0x2720) then s.loadable
    else if 0xA100 ≤ idx ∧ idx < 0xA118 then s.exer.status != 2
    else true

/-! ## DOMAINs whose rule is their table -/

def prefixesOk (l : List Byte) : Bool :=
  l.length % 17 == 0 && decide (l.length ≤ 272) && (entriesOf 17 l).all (fun e => decide ((byteAt e 16).toNat ≤ 128))

/-- The codes whose events carry class 0 or class 1 (R429). -/
def codes01 : List U16 :=
  [0x1014, 0x3403, 0x5001, 0x6001, 0x6032, 0x6051, 0x6052, 0x7006, 0x7010, 0x2403, 0x4002, 0x4005, 0x4009]
def mapOk (l : List Byte) : Bool :=
  l.length % 4 == 0 && decide (l.length ≤ 1024) &&
  (entriesOf 4 l).all (fun e => (byteAt e 2 == 2 || byteAt e 2 == 3) && byteAt e 3 == 0 && !(codes01.contains (field16 e 0)))
def mapOf (l : List Byte) : List (U16 × U8) := (entriesOf 4 l).map (fun e => (field16 e 0, byteAt e 2))

/-- Grants (R240). -/
def grantsOk (p : Port) (l : List Byte) : Bool :=
  let g := (List.range 8).map (fun i => (field16 l (2 * i)).toNat)
  l.length == 16 && g.all (fun n => decide (66 ≤ n)) && decide (g.sum ≤ (if p.val < 8 then 8192 else 32768))

def gatewaysOk (l : List Byte) : Bool := l.length == 16 && (entriesOf 4 l).all (fun e => decide ((field32 e 0).toNat < 131072))
def collectorsOk (l : List Byte) : Bool := l.length == 160 && (entriesOf 20 l).all (fun e => field16 e 18 == 0)
def irqMapOk (l : List Byte) : Bool := l.length == 8 && l.all (fun v => decide (v.toNat < 64) || v == 0xFF)
def scriptOk (l : List Byte) : Bool := l.length % 16 == 0 && decide (l.length ≤ 16384) && (entriesOf 16 l).all (fun e => byteAt e 1 == 0)
def userOk (l : List Byte) : Bool := l.length % 4096 == 0 && decide (l.length ≤ 16777216)
def addrsOk (l : List Byte) : Bool := l.length % 20 == 0
def chainsOk (l : List Byte) : Bool := l.length % 8 == 0

/-- A value taken as it is when a check holds. -/
def plain (ok : Bool) (f : State → State) (s : State) : U8 × State := if ok then (0, f s) else (4, s)

def setAcc (f : AccState → AccState) (s : State) : State := { s with acc := f s.acc }

/-- A write of a circuit entry takes the meaning of its action (R277); any other action is refused (R278). -/
def circuitEntryWrite (n : Circ) (l : List Byte) (s : State) : U8 × State :=
  if l.length ≠ 64 then (4, s)
  else match (byteAt l 6).toNat with
    | 1 => judged (circuitPrepare n l) s
    | 2 => judged (circuitSwitched n l) s
    | 3 => judged (circuitRelease n l) s
    | _ => judged (fun s => s.circuitWrite n l (fun _ s => s)) s

/-- A write of a whole RW DOMAIN. -/
def domainWrite (idx sub : Nat) (l : List Byte) (s : State) : U8 × State :=
  match idx, sub with
  | 0x1020, 1 => plain (l.length == 16) (setAcc (fun a => { a with maAddr := l })) s
  | 0x1020, 2 => plain (l.length == 16) (setAcc (fun a => { a with mbAddr := l })) s
  | 0x1020, 5 => plain (prefixesOk l) (setAcc (fun a => { a with prefixes := l })) s
  | 0x1040, 1 => plain (irqMapOk l) (setAcc (fun a => { a with irqMap := l })) s
  | 0x2010, 2 => judged (openingTreeWrite l) s
  | 0x2020, 7 => plain (chainsOk l) (fun s => { s with job := { s.job with tierS := chainsOf l } }) s
  | 0x2310, 3 =>
    let s' := slotConfigWrite l s
    (if s'.red.slots == s.red.slots && !(l == s.red.slots.toList.flatMap (fun c => [c.op, if c.enabled then 1 else 0, 0, 0]))
      then 4 else 0, s')
  | 0x2320, 1 => judged (treeTableWrite l) s
  | 0x2600, 1 => judged (tensorTableWrite l) s
  | 0x2720, 1 => judged (vectorEntryWrite l) s
  | 0x2810, 1 => judged (streamProgramTableWrite l) s
  | 0x2820, 1 => judged (segmentTableWrite l) s
  | 0x3000, 4 => if l.length ≠ 64 then (4, s) else (0, partnerConfigWrite 4 l s)
  | 0x3310, 1 => plain (gatewaysOk l) (fun s => { s with adj := { s.adj with gateways := (entriesOf 4 l).map (fun e => field32 e 0) } }) s
  | 0x3510, 1 => judged (regionTableWrite l) s
  | 0x4010, 1 =>
    plain (addrsOk l) (fun s => { s with det := { s.det with addrs := (entriesOf 20 l).map (fun e => (field32 e 0, sliceZ e 4 16)) } }) s
  | 0x5100, 1 => judged (wiringMapWrite l) s
  | 0x5200, 1 => judged (shadowBankWrite l) s
  | 0x5210, 1 => judged (substitutionTableWrite l) s
  | 0x7100, 1 => plain (collectorsOk l) (fun s => s.setTele (fun t => { t with collectors := l })) s
  | 0x7100, 2 => plain (mapOk l) (fun s => s.setTele (fun t => { t with forward := mapOf l })) s
  | 0xA000, 5 => plain (userOk l) (fun s => s.setExer (fun x => { x with user := l })) s
  | 0xA300, 1 => plain (scriptOk l) (fun s => s.setExer (fun x => { x with script := (entriesOf 16 l).map ScriptEntry.ofBytes })) s
  | idx, sub =>
    if h : 0x2400 ≤ idx ∧ idx < 0x2410 then judged (programSlotWrite ⟨idx - 0x2400, by omega⟩ l) s
    else if h : 0x2710 ≤ idx ∧ idx < 0x2720 then judged (codeSlotWrite ⟨idx - 0x2710, by omega⟩ l) s
    else if h : 0x5000 ≤ idx ∧ idx < 0x5018 then
      let p : Port := ⟨idx - 0x5000, by omega⟩
      plain (grantsOk p l) (fun s => s.setPort p (fun q => { q with grantsSet := (entriesOf 2 l).map (fun e => field16 e 0) })) s
    else if h : idx = 0x5300 ∧ 1 ≤ sub ∧ sub ≤ 8 then circuitEntryWrite ⟨sub - 1, by omega⟩ l s
    else if h : 0xA100 ≤ idx ∧ idx < 0xA118 then
      plain (l.length == 32) (fun s => s.setExPort ⟨idx - 0xA100, by omega⟩ (fun x => { x with expect := l })) s
    else (4, s)

/-! ## Scalars -/

/-- The throttle point's upper end depends on the ordering code (R506). -/
def State.extraRange (s : State) (idx sub n : Nat) : Bool :=
  if idx = 0x8300 ∧ sub = 2 ∧ !s.ident.lx then decide (n ≤ 95) else true

/-- The pause bit alone may be written while a part of the channel runs; any other write is refused (R348). -/
def moverWrite (c : Chan) (sub n : Nat) (put : State → State) (s : State) : U8 × State :=
  let ch := s.chan c
  if ch.started then
    let v := ch.controlOf (BitVec.ofNat 32 n)
    if sub = 4 ∧ (v ^^^ ch.control) &&& ~~~ChanState.pauseBit == 0 then
      (0, if v.getLsbD 12 then moverPause c s else moverResume c s)
    else (4, s.refuseChan c sub 1)
  else (0, put s)

/-- A write of an RW scalar. -/
def scalarWrite (idx : Nat) (r : Row) (n : Nat) (s : State) : U8 × State :=
  if !(r.inRange n && s.extraRange idx r.sub n) then (4, s)
  else if h : 0x3400 ≤ idx ∧ idx < 0x3440 then moverWrite ⟨idx - 0x3400, by omega⟩ r.sub n (r.put n) s
  else judged (r.put n) s

/-- A whole value handed to the rule that owns an RW object. -/
def rwWrite (idx : Nat) (r : Row) (l : List Byte) (s : State) : U8 × State :=
  if r.ty.scalar then scalarWrite idx r (leNat l) s else domainWrite idx r.sub l s

/-! ## The configuration store (R479) -/

/-- RW scalars that resignation clears (R387 step 6). -/
def clearedByResign (idx sub : Nat) : Bool := idx == 0x3000 && (sub == 2 || sub == 3)

/-- Whether the store holds an object (R479). -/
def stored (idx : Nat) (r : Row) : Bool :=
  match r.acc with
  | .rw =>
    if r.ty.scalar then !(clearedByResign idx r.sub)
    else [(0x1020, 1), (0x1020, 2), (0x1020, 5), (0x1040, 1), (0x3310, 1), (0x4010, 1), (0x5100, 1), (0x7100, 1), (0x7100, 2)].contains
      (idx, r.sub) || (decide (0x5000 ≤ idx) && decide (idx < 0x5018) && r.sub == 5)
  | _ => false

/-- The entries of the stored objects of one shape, scalar or DOMAIN, in index order. -/
def State.storeOf (scalar : Bool) (s : State) : List (U16 × U8 × List Byte) :=
  allIndices.flatMap fun i =>
    ((rowsOf i).filter (fun r => r.ty.scalar == scalar && stored i r)).map
      (fun r => (BitVec.ofNat 16 i, BitVec.ofNat 8 r.sub, r.value s))

/-- The entries of the stored objects as they stand: the scalars, then the DOMAINs whose checks read them
(notes/assumptions/62.md, DESIGN CHOICE). -/
def State.storeEntries (s : State) : List (U16 × U8 × List Byte) := s.storeOf true ++ s.storeOf false

end Sys2Proof.Machine
end

