-- ==== Sys2Proof/Machine/TrustOps.lean ====
section
/-! DEFINITION. The arithmetic of trust: SHA-512, ECDSA on P-521 (R469, R489, R495, R496), images and packages (R488, R496). The
constants are those of FIPS 180-4 and FIPS 186 (notes/assumptions/50.md). -/
namespace Sys2Proof.Machine
open Sys2Proof

/-! ## SHA-512 -/

/-- The 80 primes from which FIPS 180-4 takes its constants. -/
def shaPrimes : List Nat :=
  (List.range 410).filter (fun n => decide (2 ≤ n) && (List.range n).all (fun d => d < 2 || n % d != 0))

/-- The integer k-th root, found from its top bit down. -/
def natRoot (k v bits : Nat) : Nat :=
  (List.range bits).foldr (fun b r => if (r + 2 ^ b) ^ k ≤ v then r + 2 ^ b else r) 0

/-- The first 64 bits of the fraction of the k-th root of a prime. -/
def rootBits (k p : Nat) : U64 := BitVec.ofNat 64 (natRoot k (p * 2 ^ (64 * k)) 72)

/-- The round constants, from cube roots, and the initial hash, from square roots. -/
def shaK : List U64 := shaPrimes.map (rootBits 3)
def shaH : List U64 := (shaPrimes.take 8).map (rootBits 2)

/-- Big-endian bytes of a number. -/
def beBytes (n v : Nat) : List Byte := (leBytes n v).reverse
def beNat (l : List Byte) : Nat := leNat l.reverse

/-- The message with its padding: 0x80, zeros, and the length in bits as 128 bits. -/
def shaPad (l : List Byte) : List Byte :=
  let z := (239 - l.length % 128) % 128
  l ++ [0x80] ++ List.replicate z 0 ++ beBytes 16 (8 * l.length)

/-- The exclusive or of a word's rotations to the right. -/
def rots (x : U64) (l : List Nat) : U64 := l.foldl (fun a n => a ^^^ x.rotateRight n) 0

/-- The schedule of a block, newest word first: n words more. -/
def shaMore (n : Nat) (w : List U64) : List U64 :=
  n.rec w (fun _ w =>
    let at_ (k : Nat) : U64 := w.getD (k - 1) 0
    ((rots (at_ 2) [19, 61] ^^^ (at_ 2 >>> 6)) + at_ 7 + (rots (at_ 15) [1, 8] ^^^ (at_ 15 >>> 7)) + at_ 16) :: w)

/-- One round on the working variables, in order, with the sum of a round constant and a schedule word. -/
def shaStep (v : List U64) (kw : U64) : List U64 :=
  match v with
  | [a, b, c, d, e, f, g, h] =>
    let t := h + kw + rots e [14, 18, 41] + ((e &&& (f ^^^ g)) ^^^ g)
    [t + rots a [28, 34, 39] + ((a &&& (b ||| c)) ||| (b &&& c)), a, b, c, d + t, e, f, g]
  | _ => v

/-- One block of 128 bytes. -/
def shaBlock (h : List U64) (blk : List Byte) : List U64 :=
  let first := (chunksOf 16 8 blk).map (fun l => BitVec.ofNat 64 (beNat l))
  let words := (shaMore 64 first.reverse).reverse
  List.zipWith (· + ·) h ((List.zipWith (· + ·) shaK words).foldl shaStep h)

def sha512 (l : List Byte) : List Byte := ((entriesOf 128 (shaPad l)).foldl shaBlock shaH).flatMap (fun v => beBytes 8 v.toNat)

/-! ## P-521 -/

def p521 : Nat := 2 ^ 521 - 1
def p521b : Nat :=
  0x51953eb9618e1c9a1f929a21a0b68540eea2da725b99b315f3b8b489918ef109e156193951ec7e937b1652c0bd3bb1bf073573df883d2c34f1ef451fd46b503f00
def p521n : Nat :=
  0x1fffffffffffffffffffffffffffffffffffffffffffffffffffffffffffffffffa51868783bf2f966b7fcc0148f709a5d03bb5c9b8899c47aebb6fb71e91386409
def p521gx : Nat :=
  0xc6858e06b70404e9cd9e3ecb662395b4429c648139053fb521f828af606b4d3dbaa14b5e77efe75928fe1dc127a2ffa8de3348b3c1856a429bf97e7e31c2e5bd66
def p521gy : Nat :=
  0x11839296a789a3bc0045c8a5fb42c7d1bd998f54449579b446817afbd17273e662c97ee72995ef42640c550b9013fad0761353c7086a272c24088be94769fd16650

/-- b^e mod m, by the bits of e. -/
def powMod (m : Nat) : Nat → Nat → Nat → Nat
  | 0, _, _ => 1 % m
  | k + 1, b, e => let h := powMod m k (b * b % m) (e / 2); if e % 2 = 1 then b * h % m else h
/-- The inverse modulo a prime below 2^521. -/
def invMod (m a : Nat) : Nat := powMod m 522 (a % m) (m - 2)
def subMod (m a b : Nat) : Nat := (a + m - b % m) % m

/-- A point of the curve; none is the point at infinity. -/
abbrev Pt := Option (Nat × Nat)

def onCurve (x y : Nat) : Bool :=
  decide (x < p521) && decide (y < p521) && y * y % p521 == subMod p521 (x * x * x + p521b) (3 * x)

def ptSlope (l : Nat) (a b : Nat × Nat) : Pt :=
  let x := subMod p521 (l * l) (a.1 + b.1)
  some (x, subMod p521 (l * subMod p521 a.1 x) a.2)
def ptAdd : Pt → Pt → Pt
  | none, b => b
  | a, none => a
  | some a, some b =>
    if a.1 = b.1 then
      if (a.2 + b.2) % p521 = 0 then none
      else ptSlope (subMod p521 (3 * a.1 * a.1) 3 * invMod p521 (2 * a.2) % p521) a b
    else ptSlope (subMod p521 b.2 a.2 * invMod p521 (subMod p521 b.1 a.1) % p521) a b
def ptMul : Nat → Nat → Pt → Pt
  | 0, _, _ => none
  | n + 1, k, a => let h := ptMul n (k / 2) (ptAdd a a); if k % 2 = 1 then ptAdd a h else h

/-- An uncompressed public key: 0x04, X, Y (R494). -/
def keyPoint (pub : List Byte) : Option (Nat × Nat) :=
  let x := beNat (sliceZ pub 1 66)
  let y := beNat (sliceZ pub 67 66)
  if pub.length == 133 && byteAt pub 0 == 4 && onCurve x y then some (x, y) else none

/-- ECDSA over the SHA-512 of a message: r, then s, 66 bytes each. -/
def verifies (pub msg sig : List Byte) : Bool :=
  let r := beNat (sliceZ sig 0 66)
  let s := beNat (sliceZ sig 66 66)
  match keyPoint pub with
  | none => false
  | some q =>
    if r = 0 ∨ s = 0 ∨ p521n ≤ r ∨ p521n ≤ s then false
    else
      let w := invMod p521n s
      let u1 := beNat (sha512 msg) * w % p521n
      let u2 := r * w % p521n
      match ptAdd (ptMul 522 u1 (some (p521gx, p521gy))) (ptMul 522 u2 (some q)) with
      | some p => p.1 % p521n == r
      | none => false

/-! ## Images and packages (R488, R489, R496) -/

/-- Rollback index and version of a header. -/
def hdrVersion (h : List Byte) : U32 := field32 h 8
def hdrRollback (h : List Byte) : U32 := field32 h 12

/-- A header of a kind (R488): its magic and version, and ranges of its fields. Fields that are to be zero are ignored (R16). -/
def hdrForm (kind : U8) (h : List Byte) : Bool :=
  field32 h 0 == 0x4946564B && byteAt h 4 == 1 && byteAt h 5 == kind && decide ((hdrRollback h).toNat ≤ 64) &&
  decide (1 ≤ (field32 h 28).toNat) && decide ((field32 h 28).toNat ≤ 25165312)

/-- The signatures of a header hold (R489). -/
def State.hdrSigned (s : State) (h : List Byte) : Bool :=
  let serial := (field32 h 96).toNat
  verifies s.ident.rootKey (sliceZ h 96 137) (sliceZ h 233 132) && decide (serial < 64) && !(s.ident.revoked.getLsbD serial) &&
  verifies (sliceZ h 100 133) (sliceZ h 0 380) (sliceZ h 380 132)

/-- R489, with the kind as the rule of the object has it. -/
def State.imageOk (s : State) (kind : U8) (h body : List Byte) : Bool :=
  hdrForm kind h && s.hdrSigned h && body.length == (field32 h 28).toNat && sha512 body == sliceZ h 32 64 &&
  decide (s.boot.floor.toNat ≤ (hdrRollback h).toNat) && decide ((field16 h 24).toNat ≤ 0x00B0)

/-- The key at an index of OD 9000.01. -/
def State.keyAt (s : State) (k : U16) : KeyEntry := s.boot.keys.getD k.toNat {}

/-- Objects that a package may set (R496). -/
def packageObjects : List (Nat × Nat) :=
  [(0x3000, 7), (0x3000, 8), (0x3000, 9), (0x3100, 1), (0x3100, 2), (0x3200, 1), (0x3200, 2), (0x3200, 3), (0x4000, 2),
   (0x4000, 4), (0x4000, 5), (0x4000, 6), (0x4000, 7), (0x4000, 8), (0x4000, 9), (0x4100, 6), (0x4100, 7), (0x4100, 8),
   (0x4100, 9), (0x4200, 3), (0x4200, 4), (0x4200, 5), (0x4200, 6), (0x7100, 2), (0x7100, 3), (0x7100, 4), (0x7100, 5),
   (0x7100, 7)]

/-- Stored entries: index, subindex, type, length, value, zero padding to 8 bytes (R479). None where the bytes do not parse. -/
def parseEntries : Nat → List Byte → Option (List (U16 × U8 × List Byte))
  | 0, l => if l.isEmpty then some [] else none
  | n + 1, l =>
    if l.isEmpty then some []
    else
      let len := (field32 l 4).toNat
      let size := (8 + len + 7) / 8 * 8
      if l.length < size then none
      else (parseEntries n (l.drop size)).map (fun es => (field16 l 0, byteAt l 2, sliceZ l 8 len) :: es)

/-- An entry is written by its owning rule, as a write in STANDBY (R481); true when the rule accepts it. -/
def State.submitEntry (e : U16 × U8 × List Byte) (s : State) : Bool × State :=
  match objectAt e.1 e.2.1 with
  | none => (false, s)
  | some r =>
    if r.acc ≠ .rw then (false, s)
    else if r.ty.scalar && e.2.2.length != r.ty.size then (false, s)
    else if !(({ s with job := { s.job with dev := .standby } }).permits e.1.toNat e.2.1.toNat) then (false, s)
    else
      let dev := s.job.dev
      let (st, s) := rwWrite e.1.toNat r e.2.2 { s with job := { s.job with dev := .standby } }
      (st == 0, { s with job := { s.job with dev := dev } })

/-- Every entry names an object of the set, with a value that its rule accepts. -/
def State.entriesOk (es : List (U16 × U8 × List Byte)) (s : State) : Bool :=
  (es.foldl (fun (acc : Bool × State) e =>
    let (ok, s) := acc.2.submitEntry e
    (acc.1 && ok && packageObjects.contains (e.1.toNat, e.2.1.toNat), s)) (true, s)).1

/-- An object that the loaded package sets (R496). -/
def State.inPackage (s : State) (idx : U16) (sub : U8) : Bool :=
  match s.boot.package with
  | some p => p.2.any (fun e => e.1 == idx && e.2.1 == sub)
  | none => false

end Sys2Proof.Machine
end

