-- ==== Sys2Proof/Machine/BootOps.lean ====
section
/-! DEFINITION. Resets and the start-up sequence as operations: what a reset keeps (R484, R224, R342), the requests and how they meet
(R485, R486), the image choice (R490), the configuration store (R479 to R481), the retained marker (R225, R226, R358). -/
namespace Sys2Proof.Machine
open Sys2Proof

/-! ## Counters, which count from power-on (notes/assumptions/61.md) -/

/-- Counters of R103. -/
def RedState.counted (o d : RedState) : RedState :=
  { d with
    piecesAcc := o.piecesAcc, contribAcc := o.contribAcc, duplicates := o.duplicates, stepRefusals := o.stepRefusals
    resRefusals := o.resRefusals, anchorMism := o.anchorMism, unknown := o.unknown, malformed := o.malformed
    breaches := o.breaches, fallbacks := o.fallbacks, nonfinWins := o.nonfinWins, poisonWins := o.poisonWins
    parks := o.parks, unparks := o.unparks, parkBytes := o.parkBytes, completed := o.completed
    treeRefusals := o.treeRefusals, stopPieces := o.stopPieces, treeTableRefusals := o.treeTableRefusals }

/-- Counters of R151 and R152. -/
def UpdState.counted (o d : UpdState) : UpdState :=
  { d with
    winsUpdated := o.winsUpdated, elemsUpdated := o.elemsUpdated, elemsMasked := o.elemsMasked
    frozenAttempts := o.frozenAttempts, skewRefusals := o.skewRefusals, nonfinRefused := o.nonfinRefused
    heldSkips := o.heldSkips, poisonWins := o.poisonWins, touchPages := o.touchPages, reexec := o.reexec
    sizeRefusals := o.sizeRefusals, nonfinWrites := o.nonfinWrites, heldDiscards := o.heldDiscards
    haltedWins := o.haltedWins, maskRefusals := o.maskRefusals, loadRefusals := o.loadRefusals, sizeLast := o.sizeLast
    pipes := o.pipes.map (fun p => { stalls := p.stalls }) }

/-- Counters of R179 and R180. -/
def VecState.counted (o d : VecState) : VecState :=
  { d with
    dispatched := o.dispatched, committed := o.committed, faults := o.faults, budgetAborts := o.budgetAborts
    statusFails := o.statusFails, reexec := o.reexec, agreed := o.agreed, decided := o.decided, undecided := o.undecided
    loaded := o.loaded, blkCommitted := o.blkCommitted, stopDiscards := o.stopDiscards, loadRefusals := o.loadRefusals
    cores := o.cores.map (fun k => { counters := k.counters }) }

/-- Counters of R199. -/
def StrState.counted (o d : StrState) : StrState :=
  { d with
    started := o.started, ended := o.ended, cRead := o.cRead, sent := o.sent, cBytes := o.cBytes, relayed := o.relayed
    resends := o.resends, noC := o.noC, abandoned := o.abandoned, relayRefusals := o.relayRefusals
    relayDiscards := o.relayDiscards, agentWrites := o.agentWrites, refusals := o.refusals }

/-- Counters of R227. -/
def MemState.counted (o d : MemState) : MemState :=
  { d with
    corrH := o.corrH, corrL := o.corrL, corr2 := o.corr2, uncH := o.uncH, uncL := o.uncL, spared := o.spared
    spareRefused := o.spareRefused, listFull := o.listFull, accessRefused := o.accessRefused
    retainedLost := o.retainedLost, rebuilt := o.rebuilt, partialDropped := o.partialDropped
    tableRefusals := o.tableRefusals }

/-- Counters of R259 and R438. -/
def PortSt.counted (o d : PortSt) : PortSt :=
  { d with
    cellsSent := o.cellsSent, cellsRecv := o.cellsRecv, replayed := o.replayed, naksSent := o.naksSent
    jtDiscards := o.jtDiscards, hdrFails := o.hdrFails, overruns := o.overruns, auditMism := o.auditMism
    retrains := o.retrains, formViol := o.formViol, quarDiscards := o.quarDiscards, fecCorr := o.fecCorr
    fecUncorr := o.fecUncorr, afterNak := o.afterNak, lostFrames := o.lostFrames, agentViol := o.agentViol
    agentReports := o.agentReports, frameFails := o.frameFails, frameBytes := o.frameBytes }

/-- Counters of R283. -/
def RouteState.counted (o d : RouteState) : RouteState :=
  { d with
    forwarded := o.forwarded, unreachable := o.unreachable, routeDiscards := o.routeDiscards, expiries := o.expiries
    altUses := o.altUses, refusals := o.refusals, swaps := o.swaps, jtDiscards := o.jtDiscards
    staleDiscards := o.staleDiscards, futureDiscards := o.futureDiscards, substRefusals := o.substRefusals
    changes := o.changes, drainTimeouts := o.drainTimeouts, circRefusals := o.circRefusals }

/-- Counters of R313. -/
def PartState.counted (o d : PartState) : PartState :=
  { d with
    confirmed := o.confirmed, decided := o.decided, undecided := o.undecided, repReplica := o.repReplica
    repOwner := o.repOwner, resends := o.resends, agreed := o.agreed, mismatches := o.mismatches, forced := o.forced
    replayBytes := o.replayBytes, refusals := o.refusals, duplicates := o.duplicates, logRefusals := o.logRefusals
    mirrorBytes := o.mirrorBytes, syncs := o.syncs, clsRefusals := o.clsRefusals, clsApplied := o.clsApplied }

/-- Counters of R343. -/
def AdjState.counted (o d : AdjState) : AdjState :=
  { d with
    armed := o.armed, abandoned := o.abandoned, copied := o.copied, busyWaits := o.busyWaits
    bytesCopied := o.bytesCopied, unchanged := o.unchanged, rawEntries := o.rawEntries, entryBytes := o.entryBytes
    refusals := o.refusals, pointsCommitted := o.pointsCommitted, pointsDiscarded := o.pointsDiscarded
    reprogrammed := o.reprogrammed, blocksRetired := o.blocksRetired, uncReads := o.uncReads, noSpace := o.noSpace
    ledgerWaits := o.ledgerWaits, issued := o.issued, succeeded := o.succeeded, failed := o.failed, resent := o.resent
    sCommitted := o.sCommitted, sFailed := o.sFailed, broken := o.broken, pushAbandoned := o.pushAbandoned }

/-- Counters of R346 and R359. -/
def MovState.counted (o d : MovState) : MovState :=
  { d with
    refusals := o.refusals, issued := o.issued, succeeded := o.succeeded, failed := o.failed, discarded := o.discarded
    pauses := o.pauses, groups := o.groups
    chans := o.chans.map (fun h => {
      bytesRead := h.bytesRead, bytesWritten := h.bytesWritten, overruns := h.overruns, discarded := h.discarded }) }

/-- Counters of R390. -/
def JobState.counted (o d : JobState) : JobState :=
  { d with
    refusals := o.refusals, duplicates := o.duplicates, adoptions := o.adoptions, opened := o.opened
    restored := o.restored, rolled := o.rolled, pulled := o.pulled, aheadWins := o.aheadWins, aheadSent := o.aheadSent
    pullRefusals := o.pullRefusals, torn := o.torn, resigns := o.resigns, scrubFails := o.scrubFails }

/-- Counters of R424. -/
def DetState.counted (o d : DetState) : DetState :=
  { d with
    suspSent := o.suspSent, suspRecv := o.suspRecv, dismissed := o.dismissed, flagFalls := o.flagFalls
    fencedCount := o.fencedCount, srcDiscards := o.srcDiscards, dupDeclares := o.dupDeclares, refusals := o.refusals
    probes := o.probes, installs := o.installs, agentLosses := o.agentLosses }

/-- Counters of R425. -/
def HealthState.counted (o d : HealthState) : HealthState :=
  { d with
    charged := o.charged, overwritten := o.overwritten, gRun := o.gRun, gErrors := o.gErrors, gClamps := o.gClamps
    gRefused := o.gRefused, gAborted := o.gAborted }

/-- Counters of R436, R437, R439 and R455. -/
def TeleState.counted (o d : TeleState) : TeleState :=
  { d with
    refused := o.refused, holdRefused := o.holdRefused, clearRefused := o.clearRefused, damaged := o.damaged
    always := o.always, twins := o.twins, stallRed := o.stallRed, stallStr := o.stallStr, stallCod := o.stallCod
    stallMvR := o.stallMvR, stallMvW := o.stallMvW, snapRefused := o.snapRefused, traceWritten := o.traceWritten
    traceDropped := o.traceDropped, traceLost := o.traceLost, traceOver := o.traceOver, sampWritten := o.sampWritten
    sampOver := o.sampOver, holdGenerated := o.holdGenerated, holdDelivered := o.holdDelivered }

/-- Counters of R482. -/
def AccState.counted (o d : AccState) : AccState :=
  { d with
    taken := o.taken, dupAnswered := o.dupAnswered, mismatches := o.mismatches, discarded := o.discarded, busy := o.busy
    sessExpired := o.sessExpired, signRefused := o.signRefused, winRefused := o.winRefused }

/-- Counters of R498. -/
def BootState.counted (o d : BootState) : BootState :=
  { d with
    ignored := o.ignored, keyRefusals := o.keyRefusals, imgRefusals := o.imgRefusals, reports := o.reports
    pkgRefusals := o.pkgRefusals }

/-- Counters of R516. A commit that a reset cuts short has ended, and its reservation with it (R511, R513). -/
def PwrState.counted (o d : PwrState) : PwrState :=
  { d with
    granted := o.granted, released := o.released + BitVec.ofNat 64 o.reservations.length, refused := o.refused, throttledMs := o.throttledMs
    overcurrents := o.overcurrents, alerts := o.alerts, therms := o.therms, pwrLosses := o.pwrLosses
    ppsRejected := o.ppsRejected, railFaults := o.railFaults }

/-- Counters of R531. -/
def ExState.counted (o d : ExState) : ExState :=
  { d with
    applied := o.applied, deferred := o.deferred, passed := o.passed, failed := o.failed, refusals := o.refusals }

/-! ## What a reset keeps (R484; notes/assumptions/61.md) -/

/-- The first two terms of R454 for one of the classes of the hold, of what the hold keeps. -/
def heldOfClass (l : List Alarm) (c : Nat) : U64 :=
  BitVec.ofNat 64 ((l.map (fun a => if a.cls.toNat = c then a.represented.toNat - a.repOther.toNat else a.repOther.toNat)).sum)

/-- A plane's messages are lost with a reset, and count as dropped, so that R454 holds. -/
def PlaneQ.afterReset (q : PlaneQ) : PlaneQ :=
  { generated := q.generated, delivered := q.delivered
    dropped := q.queue.foldl (fun d a => addAt d a.cls.toNat a.represented.toNat) q.dropped }

/-- Module MRAM keeps the records, the full record, the sequences and the alarm hold (R427, R432, R453); a warm reset keeps the
records of RECSTAGE (R207, R444). -/
def TeleState.afterReset (kind : U8) (t : TeleState) : TeleState :=
  let d : TeleState := {}
  let d := if kind == 1 then { d with holdGenerated := Vector.ofFn (fun c => heldOfClass t.hold c.val) }
    else { t.counted d with planes := t.planes.map PlaneQ.afterReset }
  let d := if kind == 3 then { d with
    trace := t.trace, traceNewest := t.traceNewest, samples := t.samples, snaps := t.snaps, snapNum := t.snapNum
    snapOff := t.snapOff } else d
  { d with
    slots := t.slots, full := t.full, nextSeq := t.nextSeq, alarmSeq := t.alarmSeq, hold := t.hold, holdFull := t.holdFull }

/-- The history, its summaries and what they still ask for (R411, R413, R415). -/
def HealthState.afterReset (kind : U8) (h : HealthState) : HealthState :=
  let d : HealthState := if kind == 1 then {} else h.counted {}
  { d with ring := h.ring, newest := h.newest, lap := h.lap, sums := h.sums, service := h.service, retests := h.retests, deferred := h.deferred }

/-- A push goes on from the Tier S pointer (R337, R342): every part from the lowest unacknowledged one is sent again, its success
counted once, and the commits are sent again when none is left. -/
def Push.afterReset (p : Push) : Push :=
  let low := ((p.parts.filter (fun x => !x.acked)).map (·.num.toNat)).foldl min p.next.toNat
  let again (i : Nat) : PushPart := {
    num := BitVec.ofNat 32 (low + i), unsent := true
    counted := match p.parts.find? (fun x => x.num.toNat == low + i) with
      | some x => x.acked || x.counted
      | none => true }
  { p with parts := (List.range (p.next.toNat - low)).map again, committing := false, answers := [], tries := [] }

/-- The point directory, the chunks, the pointers and the pushes (R329, R334, R337); a warm reset keeps the cut in CODE and the
roles of the regions (R342). -/
def AdjState.afterReset (kind : U8) (a : AdjState) : AdjState :=
  let warm := kind == 3
  let d : AdjState := if kind == 1 then {} else a.counted {}
  { d with
    free := a.free, ptrSeq := a.ptrSeq, ptrChunks := a.ptrChunks, ptrAddr := a.ptrAddr, points := a.points, chunks := a.chunks
    sPtrObj := a.sPtrObj, sPtrParts := a.sPtrParts, sPtrLow := a.sPtrLow, nextSeq := a.nextSeq, wasCode := a.wasCode
    damage := a.damage, pushes := a.pushes.map Push.afterReset, baseRole := if warm then a.baseRole else 0
    queue := if warm then a.queue.filter (fun c => c.phase == .code) else [], kept := if warm then a.kept else none }

def ImageSlot.afterReset (x : ImageSlot) : ImageSlot := if x.state == 1 then {} else x

/-- The boot record, the slots, the floor, the keys and the package (R490, R491, R494, R496). -/
def BootState.afterReset (kind : U8) (b : BootState) : BootState :=
  let d : BootState := if kind == 1 then {} else b.counted {}
  { d with
    lastReset := b.lastReset, keys := b.keys, counters := b.counters, imageA := b.imageA.afterReset, imageB := b.imageB.afterReset
    activeB := b.activeB, trial := b.trial, attempts := b.attempts, floor := b.floor, package := b.package
    pkgVersion := b.pkgVersion }

/-- A reservoir out of service returns at a cold reset or a power-on alone (R510). One below the ceiling, which a reset puts back to
its default, charges again (R509). -/
def Reservoir.afterReset (warm : Bool) (r : Reservoir) : Reservoir :=
  let d : Reservoir := { usable := r.usable, lastUsable := r.usable }
  let full := r.status == 2 && decide (d.ceiling.toNat ≤ r.usable.toNat)
  { d with status := if !warm || (r.inService && !full) then 1 else r.status }

/-- What the pins, the supplies and the sensors are does not change by a reset. The throttle point's default goes by the ordering
code (R506, R553). -/
def PwrState.afterReset (kind : U8) (lx : Bool) (p : PwrState) : PwrState :=
  let d : PwrState := if kind == 1 then {} else p.counted {}
  { d with
    throttleC := if lx then 105 else d.throttleC
    hu := p.hu.map (Reservoir.afterReset (kind == 3)), bothCharged := p.bothCharged && kind != 1
    temps := p.temps, accPwrgd := p.accPwrgd, thermtrip := p.thermtrip && kind != 1, closing := p.closing
    latched := if kind == 1 then [] else p.latched, sysRstLow := p.sysRstLow, wrstLow := p.wrstLow, badRails := p.badRails
    sysclk := p.sysclk }

/-- Tier L, the poison list in the marker and the redirected frames (R204, R224, R225). -/
def MemState.afterReset (cn : CN) (kind : U8) (m : MemState) : MemState :=
  let warm := kind == 3
  let d : MemState := if kind == 1 then {} else m.counted {}
  { d with
    l := if warm then m.l else [], bad := if warm then m.bad.filter (fun b => b.1 == .l) else [], spares := m.spares
    redirect := m.redirect, regions := deviceRegions cn, marker := if warm then m.marker else none }

/-- Every unit at its reset values, counters at what they have counted unless the supplies have been off. -/
def State.counted (kind : U8) (s : State) : State :=
  let d : State := {}
  if kind == 1 then d
  else { d with
    chk := s.chk, fence := { d.fence with refusals := s.fence.refusals }, red := s.red.counted {}, upd := s.upd.counted {}
    vec := s.vec.counted {}, str := s.str.counted {}, route := s.route.counted {}, part := s.part.counted {}
    links := { ports := Vector.ofFn (fun p => (s.links.ports[p]).counted (PortSt.reset p)) }
    mov := s.mov.counted {}, job := s.job.counted {}, det := s.det.counted {}, acc := s.acc.counted {}, exer := s.exer.counted {} }

/-- After power-on the saved parts, which still run, count as issued (R355). -/
def MovState.carryIssued (kind : U8) (m : MovState) : MovState :=
  (if kind == 1 then (m.saved.getD []).filter (·.started) else []).foldl (fun m h =>
    let x := m.group h.group
    let m := { m with issued := bump m.issued }
    if h.group == 0 then m else m.setGroup h.group { x with issued := x.issued + 1, state := 1 }) m

/-- Internal reset is asserted for a reset of a kind (R484). -/
def State.wipe (kind : U8) (s : State) : State :=
  let warm := kind == 3
  let d := s.counted kind
  let own : List RouteEntry := [{ cn := s.own, prim := 0x1E, alt := 0x1F }]
  { d with
    pending := s.pending, freeCtr := s.freeCtr, ident := s.ident, time := { s.time with now := 0 }
    fence := { d.fence with mramMoves := s.fence.mramMoves }
    mem := s.mem.afterReset s.ident.cn kind
    route := { d.route with active := own, shadow := own }
    part := { d.part with
      logSlots := if warm then s.part.logSlots else [], logRecs := if warm then s.part.logRecs else []
      loggedBlks := if warm then s.part.loggedBlks else [] }
    adj := s.adj.afterReset kind
    mov := (({ d.mov with saved := s.mov.saved } : MovState).carryIssued kind)
    job := { d.job with
      vectors := s.job.vectors, mirrors := s.job.mirrors, attestSeq := s.job.attestSeq, fencedAs := s.job.fencedAs }
    health := s.health.afterReset kind
    tele := s.tele.afterReset kind
    acc := { d.acc with cfgFallback := s.acc.cfgFallback, cfgA := s.acc.cfgA, cfgB := s.acc.cfgB }
    boot := { s.boot.afterReset kind with resetHeld := true, nextKind := kind }
    pwr := s.pwr.afterReset kind s.ident.lx }

/-! ## Requests (R485, R486, R225, R342) -/

/-- The holding queue is written (R430). -/
def State.flushRecords (s : State) : State := if s.tele.frozen then s.unfreeze else s

/-- Cuts that have not reached CODE are abandoned (R342). -/
def State.dropEarlyCuts (cause : Nat) (s : State) : State := s.abandonCuts (fun c => c.phase != CutPhase.code) cause

def State.inCode (s : State) : Bool := s.adj.queue.any (fun c => c.phase == CutPhase.code)

/-- The work of Tier N at a cold reset or a power loss: the chunk in flight is finished, the rest of its point is lost (R342). -/
def State.cutShort (cause : Nat) (s : State) : State :=
  let s := (chunkProgrammed true s).dropEarlyCuts cause
  { s with adj := { s.adj with wasCode := s.adj.wasCode || s.inCode, queue := [], kept := none } }

/-- Running channels pause, and every started channel is saved (R358); what they have read and cannot write is discarded. -/
def State.saveMovers (s : State) : State :=
  let s := (List.finRange 64).foldl (fun s c => s.dropData c) s
  let save (h : ChanState) : ChanState := if h.started then { h with control := h.control ||| ChanState.pauseBit } else h
  { s with mov := { s.mov with saved := some (s.mov.chans.toList.map save) } }

/-- A cold request (R485): no marker is written, and one that waits for its boot is withdrawn (R486). -/
def State.coldRequest (s : State) : State :=
  if s.boot.resetHeld then
    { s with
      boot := { s.boot with nextKind := if s.boot.nextKind == 1 then 1 else 2 }
      mem := { s.mem with marker := none, l := [], bad := [] }, part := { s.part with logSlots := [], logRecs := [], loggedBlks := [] }
      adj := { s.adj with wasCode := s.adj.wasCode || s.inCode, queue := [], kept := none, baseRole := 0 } }
  else ((s.cutShort 0x7050).saveMovers.flushRecords).wipe 2

/-- The retained marker (R225 step 3). -/
def State.markerNow (s : State) : Marker :=
  let m : Marker := {
    regions := s.mem.regions.filter (fun r => r.flags.getLsbD 0), poisonL := s.mem.poisonL, cycles := s.time.cycles, crc := 0 }
  { m with crc := crc32c m.bytes }

/-- A cut in CODE keeps what its coding needs (R342). -/
def State.keepCode (s : State) : State :=
  let k : KeptCode := { jt := s.job.jt, epoch := s.job.epoch, segments := s.red.segments, table := s.upd.table }
  if s.inCode && s.adj.kept.isNone then { s with adj := { s.adj with kept := some k } } else s

/-- A warm request (R485, R486): ignored in BOOT and during a reset; late when step 2 or 3 of R225 misses its deadline (R226). -/
def State.warmRequest (late : Bool) (s : State) : State :=
  if s.boot.resetHeld || s.job.dev == .boot || s.job.dev == .off then { s with boot := { s.boot with ignored := bump s.boot.ignored } }
  else
    let s := ((s.dropEarlyCuts 0x7050).keepCode.saveMovers).flushRecords
    let s := { s with mem := { s.mem with marker := if late then none else some s.markerNow } }
    s.wipe 3

/-! ## The image (R490) -/

def State.slot (s : State) (b : Bool) : ImageSlot := if b then s.boot.imageB else s.boot.imageA
def State.putImage (b : Bool) (x : ImageSlot) (s : State) : State :=
  { s with boot := if b then { s.boot with imageB := x } else { s.boot with imageA := x } }
/-- A slot holds an image that R489 accepts. -/
def State.slotValid (s : State) (b : Bool) : Bool := (s.slot b).state == 2 && decide (s.boot.floor.toNat ≤ (s.slot b).rollback.toNat)

/-- The slot named by the boot record, an attempt counted or the trial given up. -/
def State.chosenSlot (s : State) : Bool × State :=
  match s.boot.trial with
  | none => (s.boot.activeB, s)
  | some t =>
    if s.boot.attempts.toNat < 2 then (t, { s with boot := { s.boot with attempts := s.boot.attempts + 1 } })
    else
      let s := s.putImage t { s.slot t with state := 3 }
      let s := { s with boot := { s.boot with trial := none, attempts := 0 } }
      (s.boot.activeB, s.record (ev3 0x7002 unitSec []))

/-- The slot booted: the chosen one, or the other. None when neither is valid. -/
def State.chooseImage (s : State) : Option Bool × State :=
  let (b, s) := s.chosenSlot
  if s.slotValid b then (some b, s)
  else if s.slotValid !b then (some (!b), s.record (ev3 0x7001 unitSec []))
  else (none, s)

/-- The rollback floor rises to a confirmed image's index. -/
def State.raiseFloor (x : ImageSlot) (s : State) : State :=
  if x.rollback.toNat > s.boot.floor.toNat then { s with boot := { s.boot with floor := x.rollback } } else s

/-- The image starts, and the boot watchdog with it. The active image has been confirmed. -/
def State.runImage (b : Bool) (s : State) : State :=
  let x := s.slot b
  let s := { s with
    boot := { s.boot with running := b, watchdog := true }, upd := { s.upd with semVersion := x.usv }
    vec := { s.vec with isaVersion := x.visa } }
  if b == s.boot.activeB && s.boot.trial != some b then s.raiseFloor x else s

/-- The firmware confirms the running image at step 8 of R487. -/
def State.confirmImage (s : State) : State :=
  let b := s.boot.running
  let s := { s with boot := { s.boot with watchdog := false } }
  let s := s.raiseFloor (s.slot b)
  if s.boot.trial == some b then
    ({ s with boot := { s.boot with activeB := b, trial := none, attempts := 0 } }).record (ev3 0x7003 unitSec [])
  else s

/-! ## The configuration store (R479 to R481) -/

/-- An entry at boot: taken by its owning rule, or skipped and counted; the first skipped is remembered. -/
def loadEntry (acc : Option (U16 × U8) × State) (e : U16 × U8 × List Byte) : Option (U16 × U8) × State :=
  let (ok, s) := acc.2.submitEntry e
  if ok then (acc.1, s)
  else ((acc.1.or (some (e.1, e.2.1))), { s with acc := { s.acc with cfgSkipped := s.acc.cfgSkipped + 1 } })

def State.loadCopy (c : CfgCopy) (s : State) : State :=
  let (skip, s) := c.entries.foldl loadEntry (none, { s with acc := { s.acc with cfgGen := c.gen } })
  match skip with
  | some k => s.record (ev3 0x8023 unitCC (le16 k.1 ++ [k.2]))
  | none => s

def setCfg (word : U8) (s : State) : State := { s with acc := { s.acc with cfgWord := word } }

def State.loadConfig (s : State) : State :=
  let a := s.acc.cfgA
  let b := s.acc.cfgB
  let newerB := decide (a.gen.toNat < b.gen.toNat)
  if a.valid && b.valid then (setCfg 0 s).loadCopy (if newerB then b else a)
  else if a.valid || b.valid then
    let older := if a.valid then newerB else !newerB
    let s := if older then (setCfg 1 s).record (ev2 0x8020 unitCC []) else setCfg 2 s
    s.loadCopy (if a.valid then a else b)
  else
    let s := setCfg 3 s
    ({ s with acc := { s.acc with cfgFallback := 1 } }).record (ev2 0x8021 unitCC [])

/-- The copy that a save writes, true for B: the one of the lower generation, an invalid copy before a valid one, which stays
intact (R480; notes/assumptions/17.md). -/
def AccState.olderIsB (a : AccState) : Bool :=
  if a.cfgA.valid == a.cfgB.valid then decide (a.cfgB.gen.toNat ≤ a.cfgA.gen.toNat) else a.cfgA.valid
def AccState.setCopy (b : Bool) (c : CfgCopy) (a : AccState) : AccState := if b then { a with cfgB := c } else { a with cfgA := c }

/-- A save ends: its copy is whole (R480). -/
def State.finishSave (s : State) : State :=
  match s.acc.saving with
  | none => s
  | some (b, c) =>
    let s := s.release (BitVec.ofNat 32 saveCost)
    let s := { s with acc := { (s.acc.setCopy b c) with saving := none, cfgFallback := 0, cfgGen := c.gen } }
    s.record (ev3 0x8022 unitCC (arg1 (if b then 1 else 0) ++ arg4 c.gen))

/-! ## Retained regions and movers (R225, R226, R342, R358) -/

/-- The offset lies in a retained region. -/
def retainedOff (rs : List Region) (off : Nat) : Bool :=
  rs.any (fun r => r.flags.getLsbD 0 && (r.covers off || r.coversHdr off))

/-- The regions after an accepted marker: the device's own, and the retained ones with what the marker says of them. -/
def retainedRegions (cn : CN) (rs : List Region) : List Region :=
  (deviceRegions cn).map (fun d => (rs.find? (·.id == d.id)).getD d) ++ rs.filter (fun r => decide (r.id.toNat < 0xFFFE))

/-- A range of the own addresses lies in a retained region. -/
def State.inRetained (s : State) (a : U64) (n : Nat) : Bool :=
  s.ownAddr a && retainedOff s.mem.regions (offOf a) && retainedOff s.mem.regions (offOf a + n - 1)

/-- A saved channel returns paused at its resume point (R358). -/
def State.staysPaused (keep : Bool) (s : State) (h : ChanState) : Bool :=
  keep && s.inRetained (h.srcAt h.pass.toNat) h.len.toNat && s.inRetained (h.dstAt h.pass.toNat) h.len.toNat

/-- The saved channels with a part that runs return paused, or with their part failed (R358). Their counters go on from what they
have counted. -/
def State.returnMovers (keep : Bool) (s : State) : State :=
  match s.mov.saved with
  | none => s
  | some l =>
    let back := ((List.finRange 64).zip l).filter (fun x => x.2.started && x.2.hostStarted)
    let put (s : State) (x : Chan × ChanState) : State :=
      s.setChan x.1 (fun now => { x.2 with
        status := 3, bytesRead := now.bytesRead, bytesWritten := now.bytesWritten, overruns := now.overruns, discarded := now.discarded })
    let fail (s : State) (x : Chan × ChanState) : State :=
      if s.staysPaused keep x.2 then s
      else ((s.setChan x.1 (fun h => { h with fail := 4 })).endPart x.1 5).record (ev3 0x3404 unitCC (arg1 x.1.val))
    let s := back.foldl fail (back.foldl put s)
    { s with mov := { s.mov with saved := none } }

/-- A point cut off in CODE is discarded, and the space of its chunks is free again (R342). -/
def State.discardPoint (s : State) : State :=
  if !s.adj.wasCode then s
  else
    let whole (k : Chunk) : Bool := s.adj.points.any (fun p => p.seq == k.seq)
    let lost := (s.adj.chunks.filter (fun k => !whole k)).map (fun k => k.bytes.length)
    ({ s with adj := { s.adj with
        wasCode := false, pointsDiscarded := bump s.adj.pointsDiscarded, chunks := s.adj.chunks.filter whole
        free := s.adj.free + BitVec.ofNat 64 lost.sum } }).record (ev3 0x3213 unitCont [])

/-- The retained regions are lost (R226): Tier L is zero and Tier N's cut with it. -/
def State.loseRetained (s : State) : State :=
  let s := ({ s with
    mem := { s.mem.setPoisons .l [] with l := [], bad := [], marker := none, retainedLost := bump s.mem.retainedLost }
    part := { s.part with logSlots := [], logRecs := [], loggedBlks := [] }
    adj := { s.adj with wasCode := s.adj.wasCode || s.inCode, queue := [], kept := none, baseRole := 0 } } : State).record
    (ev3 0x5015 (unitMem .l) [])
  s.discardPoint.returnMovers false

/-- Steps 5 to 8 of R225, and R226 when the marker is rejected. -/
def State.retainedStep (s : State) : State :=
  match s.mem.marker with
  | some m =>
    if m.crcOk && m.cycles == s.time.cycles then
      let rs := retainedRegions s.ident.cn m.regions
      -- a listed sector outside the retained regions is zeroed, and leaves the list (R222)
      let listed := m.poisonL.filter (fun a => retainedOff rs (offOf a))
      let s := { s with mem := { s.mem.setPoisons .l listed with
        regions := rs, marker := none, l := s.mem.l.filter (fun c => retainedOff rs c.1)
        bad := s.mem.bad.filter (fun b => retainedOff rs b.2.1.toNat) } }
      s.returnMovers true
    else s.loseRetained
  | none => s.loseRetained

end Sys2Proof.Machine
end

