-- ==== Sys2Proof/Machine/Startup.lean ====
section
/-! DEFINITION. The commands of resets, supplies and the start-up sequence (R484 to R492, R514, R538 to R544). -/
namespace Sys2Proof.Machine
open Sys2Proof

/-! ## The start-up sequence (R487) -/

/-- The event of the closing record, or that none was found (R514). -/
def State.closingEvent (s : State) : State :=
  let s' := { s with pwr := { s.pwr with closing := none } }
  match s.pwr.closing with
  | some (a, b) => s'.record (ev3 0x6020 unitPwr (arg4 a ++ arg4 b))
  | none => s'.record (ev3 0x6021 unitPwr [])

/-- Retired pipelines, cores and ports stay out of service (R415). -/
def State.outOfService (s : State) : State :=
  (s.health.sums.filter (fun u => decide (u.st = .retired))).foldl (fun s u =>
    if unitClass u.unit = 1 then
      { s with upd := { s.upd with pipesOn := s.upd.pipesOn &&& ~~~(1#8 <<< (pipeOf u.unit).val) } }
    else if unitClass u.unit = 2 then
      { s with vec := { s.vec with coresOn := s.vec.coresOn &&& ~~~(1#16 <<< (coreOf u.unit).val) } }
    else if unitClass u.unit = 7 then portDisable (portOfUnit u.unit) s
    else s) s

/-- The loaded package is applied after the configuration store (R496). -/
def State.applyPackage (s : State) : State :=
  match s.boot.package with
  | none => s
  | some p => p.2.foldl (fun s e => (s.submitEntry e).2) s

/-- Steps 6 to 8 of R487, with steps 5 to 8 of R225 after a warm reset. -/
def State.bootLoad (kind : U8) (w : BootWorld) (s : State) : State :=
  let s := s.loadConfig.applyPackage
  match w.trainFail with
  | some (t, n) => s.enterSafe (ev0 0x5001 (unitMem t) [n])
  | none =>
    let s := if kind == 3 then s.retainedStep else s.discardPoint.returnMovers false
    let s := s.outOfService.trainAll
    if w.confirms then s.confirmImage.enterStandby else s

/-- The sequence after a reset of a kind. Its deadlines are commands of their own (BOOT_LATE, BOOT_WATCHDOG_EXPIRY). -/
def State.bootSequence (kind : U8) (w : BootWorld) (s : State) : State :=
  let s := { s with
    boot := { s.boot with lastReset := kind, resetHeld := false, nextKind := 0 }
    time := { s.time with cycles := if kind == 1 then s.time.cycles + 1 else s.time.cycles } }
  let s := if kind == 1 then s.closingEvent else s
  if !w.romOk then s.setDev .safe
  else if !w.identityOk then ({ s with boot := { s.boot with identFailed := 1 } }).enterSafe (ev0 0x7010 unitSec [])
  else
    match s.chooseImage with
    | (none, s) => s.enterSafe (ev0 0x7006 unitSec [])
    | (some b, s) => (s.runImage b).bootLoad kind w

def State.pinHeld (s : State) : Bool := s.pwr.sysRstLow || s.pwr.wrstLow

def powerOn (w : BootWorld) (s : State) : State :=
  let s := { s with adj := { s.adj with wasCode := s.adj.wasCode || s.inCode } }
  let s := s.wipe 1
  if s.pinHeld then s else s.bootSequence 1 w

/-- POWER_ON (R484, R487, R489, R490, R492): the sequence from the boot ROM to STANDBY, or to SAFE. -/
def execPowerOn (w : BootWorld) (s : State) : Host.Outcome State Fault Refusal := .next (powerOn w s)

def bootLate (step : U8) (s : State) : State :=
  if 1 ≤ step.toNat ∧ step.toNat ≤ 8 then s.record (ev3 0x7007 unitSec [step]) else s

/-- BOOT_LATE (R487): the sequence itself goes on. -/
def execBootLate (step : U8) (s : State) : Host.Outcome State Fault Refusal := .next (bootLate step s)

def bootWatchdogExpiry (s : State) : State :=
  if s.boot.watchdog && !s.boot.resetHeld && s.job.dev != .off then s.coldRequest else s

/-- BOOT_WATCHDOG_EXPIRY (R490): a cold reset, unless the image has been confirmed. -/
def execBootWatchdogExpiry (s : State) : Host.Outcome State Fault Refusal := .next (bootWatchdogExpiry s)

/-! ## Requests (R485, R486, R542) -/

def sysRstNFall (s : State) : State :=
  let s := { s with pwr := { s.pwr with sysRstLow := true } }
  if s.job.dev == .off then s else s.coldRequest

/-- SYS_RST_N_FALL (R542). -/
def execSysRstNFall (s : State) : Host.Outcome State Fault Refusal := .next (sysRstNFall s)

def wrstNFall (late : Bool) (s : State) : State := ({ s with pwr := { s.pwr with wrstLow := true } }).warmRequest late

/-- WRST_N_FALL (R542, R225). -/
def execWrstNFall (late : Bool) (s : State) : Host.Outcome State Fault Refusal := .next (wrstNFall late s)

/-- The device takes a reset action: its server runs (R459, R486). -/
def State.takesAction (s : State) : Bool := !s.boot.resetHeld && s.job.dev != .boot && s.job.dev != .off

/-- The event of a requested reset: the kind, and the source by a code that the manual leaves open (R485). -/
def State.resetRequested (kind : Byte) (s : State) : State := s.record (ev3 0x7050 unitCC [kind, Config.causeCode 0x7050])

def resetActionWarm (late : Bool) (s : State) : State :=
  (if s.takesAction then s.resetRequested 3 else s).warmRequest late

/-- RESET_ACTION_WARM (R485): the payload of the signed write is 1. -/
def execResetActionWarm (late : Bool) (s : State) : Host.Outcome State Fault Refusal := .next (resetActionWarm late s)

def resetActionCold (s : State) : State := if s.takesAction then (s.resetRequested 2).coldRequest else s

/-- RESET_ACTION_COLD (R485): the payload is 2. -/
def execResetActionCold (s : State) : Host.Outcome State Fault Refusal := .next (resetActionCold s)

/-! ## Supplies (R514, R538 to R544) -/

/-- The work of R514 takes of a reservoir what the manual does not say (notes/assumptions/84.md). -/
def State.spendHeld (i : Fin 2) (s : State) : State :=
  let (f, s) := s.free
  s.setHu i (Reservoir.down f.toNat)

def powerLoss (s : State) : State :=
  if s.job.dev == .off then s
  else
    let s := ((((s.cutShort 0x6020).finishSave).flushRecords).spendHeld 0).spendHeld 1
    let left := (s.pwr.hu[0].usable, s.pwr.hu[1].usable)
    let s := (s.bleed 0).bleed 1
    { s with
      pwr := { s.pwr with
        closing := some left, granting := false, reservations := []
        released := s.pwr.released + BitVec.ofNat 64 s.pwr.reservations.length }
      job := { s.job with dev := .off }, mem := { s.mem with marker := none } }

/-- POWER_LOSS (R514, R540, R541). -/
def execPowerLoss (s : State) : Host.Outcome State Fault Refusal := .next (powerLoss s)

/-- A rail by its row in R538. -/
def railNum : Rail → Nat
  | .vddKeep => 0 | .vio18 => 1 | .vio33 => 2 | .vioMod => 3 | .vinCore => 4 | .vddSd => 5 | .vddaSd => 6 | .vddqL => 7
  | .vddOe => 8 | .vppH => 9 | .vddcH => 10 | .vddqH => 11
/-- The rails whose loss holds internal reset (R540). -/
def railHolds : Rail → Bool
  | .vddKeep | .vio18 | .vioMod => true
  | .vio33 | .vinCore | .vddSd | .vddaSd | .vddqL | .vddOe | .vppH | .vddcH | .vddqH => false

def railFault (rail : Rail) (mv : U16) (s : State) : State :=
  if s.job.dev == .off then s
  else if railHolds rail then
    ({ s with adj := { s.adj with wasCode := s.adj.wasCode || s.inCode } }).wipe 1
  else if s.boot.resetHeld then
    { s with pwr := { s.pwr with badRails := if s.pwr.badRails.contains rail then s.pwr.badRails else s.pwr.badRails ++ [rail] } }
  else
    ({ s with pwr := { s.pwr with railFaults := bump s.pwr.railFaults } }).enterSafe
      (ev0 0x6051 unitPwr (arg1 (railNum rail) ++ le16 mv))

/-- RAIL_FAULT (R540), by the first row that applies. -/
def execRailFault (rail : Rail) (mv : U16) (s : State) : Host.Outcome State Fault Refusal := .next (railFault rail mv s)

def sysclkLost (s : State) : State :=
  let s := { s with pwr := { s.pwr with sysclk := false } }
  if s.job.dev == .off || s.boot.resetHeld then s else s.enterSafe (ev0 0x6052 unitPwr [])

/-- SYSCLK_LOST (R544). -/
def execSysclkLost (s : State) : Host.Outcome State Fault Refusal := .next (sysclkLost s)

/-- Rails out of range at the release: counted, and named when boot begins (R540). -/
def State.lateRails (s : State) : State :=
  if s.pwr.badRails.isEmpty then s
  else
    ({ s with pwr := { s.pwr with railFaults := bump s.pwr.railFaults, badRails := [] } }).record
      (ev3 0x6050 unitPwr (s.pwr.badRails.map (fun r => BitVec.ofNat 8 (railNum r))))

def resetRelease (w : BootWorld) (s : State) : State :=
  let s := { s with pwr := { s.pwr with sysRstLow := false, wrstLow := false } }
  if !s.boot.resetHeld then s else s.lateRails.bootSequence s.boot.nextKind w

/-- RESET_RELEASE (R542, R487): internal reset ends, every rail being in range, and the start-up sequence runs. -/
def execResetRelease (w : BootWorld) (s : State) : Host.Outcome State Fault Refusal := .next (resetRelease w s)

end Sys2Proof.Machine
end

