-- ==== Sys2Proof/Machine/Trust.lean ====
section
/-! DEFINITION. The commands of images, keys, attestation and policy packages (R488 to R497). Each is the part of the rule that owns
the object; the object server checks access, state, signature and counter before it (R463, R469). -/
namespace Sys2Proof.Machine
open Sys2Proof

/-! ## Images (R491) -/

def State.imageAccepted (s : State) (bytes : List Byte) : Bool :=
  decide (512 ≤ bytes.length) && s.imageOk 1 (bytes.take 512) (bytes.drop 512)

def slotOfImage (h : List Byte) : ImageSlot :=
  { state := 2, version := hdrVersion h, rollback := hdrRollback h, usv := field16 h 16, visa := field16 h 18, header := h }

def imageStage (bytes : List Byte) (s : State) : State :=
  if s.job.dev != .standby then s
  else if !s.imageAccepted bytes then
    let s := { s with boot := { s.boot with imgRefusals := bump s.boot.imgRefusals } }
    let low := decide (512 ≤ bytes.length) && decide ((hdrRollback bytes).toNat < s.boot.floor.toNat)
    s.record (ev3 (if low then 0x7005 else 0x7004) unitSec [])
  else
    let b := !s.boot.activeB
    let x := slotOfImage (bytes.take 512)
    let s := s.putImage b { x with state := 1 }
    { s with boot := { s.boot with staging := some (b, x) } }

/-- IMAGE_STAGE (R489, R491): in STANDBY alone. -/
def execImageStage (bytes : List Byte) (s : State) : Host.Outcome State Fault Refusal := .next (imageStage bytes s)

def imageSlotWritten (s : State) : State :=
  match s.boot.staging with
  | none => s
  | some (b, x) => let s := s.putImage b x; { s with boot := { s.boot with staging := none } }

/-- IMAGE_SLOT_WRITTEN (R491): the slot goes from staging to valid. -/
def execImageSlotWritten (s : State) : Host.Outcome State Fault Refusal := .next (imageSlotWritten s)

/-- An activation the rule accepts; its last bytes are ignored (R16). -/
def State.activateOk (s : State) (l : List Byte) : Bool :=
  let b := byteAt l 0 == 1
  l.length == 4 && decide ((byteAt l 0).toNat ≤ 1) && decide ((byteAt l 1).toNat ≤ 2) &&
  s.slotValid b && s.boot.activeB != b && s.boot.trial.isNone

def imageActivate (bytes : List Byte) (s : State) : State :=
  if !s.activateOk bytes then s
  else
    let s := { s with boot := { s.boot with trial := some (byteAt bytes 0 == 1), attempts := 0 } }
    match (byteAt bytes 1).toNat with
    | 1 => resetActionWarm false s
    | 2 => resetActionCold s
    | _ => s

/-- IMAGE_ACTIVATE (R491): a refused action has no effect. -/
def execImageActivate (bytes : List Byte) (s : State) : Host.Outcome State Fault Refusal := .next (imageActivate bytes s)

/-! ## The key list (R494, R495) -/

def KeyEntry.empty (k : KeyEntry) : Bool := k.rights == 0 && k.pub.all (· == 0)

/-- The first index at which a check holds. -/
def firstAt (l : List α) (p : α → Bool) : Option Nat := l.findIdx? p

/-- Index of the first entry whose key an earlier one already holds. -/
def repeatedAt (ks : List KeyEntry) : Option Nat :=
  (List.range ks.length).find? (fun i =>
    let k := ks.getD i {}
    !k.empty && (ks.take i).any (fun e => !e.empty && e.pub == k.pub))

/-- The reserved bytes and rights bits of an entry. -/
def reservedSet (e : List Byte) : Bool :=
  decide ((byteAt e 0).toNat > 7) || (sliceZ e 1 7).any (· != 0) || (sliceZ e 141 3).any (· != 0)

/-- Why a list is refused (R495, R558): the reason, and the first offending entry. -/
def keyFault (l : List Byte) : Option (Nat × Nat) :=
  let es := entriesOf 144 l
  let ks := es.map KeyEntry.ofBytes
  if !(ks.any (fun k => k.rights.getLsbD 2)) then some (1, 0xFF)
  else match firstAt es (fun e => e.any (· != 0) && (keyPoint (KeyEntry.ofBytes e).pub).isNone) with
    | some i => some (2, i)
    | none =>
      match repeatedAt ks with
      | some i => some (3, i)
      | none => (firstAt es reservedSet).map (fun i => (4, i))

def keyListWrite (bytes : List Byte) (key : U16) (s : State) : State :=
  if bytes.length ≠ 2304 then s
  else match keyFault bytes with
    | some (r, i) =>
      ({ s with boot := { s.boot with keyRefusals := bump s.boot.keyRefusals } }).record
        (ev3 0x7021 unitSec (le16 key ++ arg1 r ++ arg1 i))
    | none =>
      let ks := (entriesOf 144 bytes).map KeyEntry.ofBytes
      let same (i : Fin 16) : Bool := (ks.getD i.val {}).pub == (s.boot.keys.getD i.val {}).pub
      ({ s with boot := { s.boot with
          keys := ks, counters := Vector.ofFn (fun i => if same i then s.boot.counters[i] else 0) } }).record
        (ev3 0x7020 unitSec (le16 key))

/-- KEY_LIST_WRITE (R494, R495): the list and the index of the key that signed it; a value that is not 16 entries has no effect. -/
def execKeyListWrite (bytes : List Byte) (key : U16) (s : State) : Host.Outcome State Fault Refusal :=
  .next (keyListWrite bytes key s)

/-! ## Attestation (R493) -/

/-- Bytes 0 to 231 of a report. -/
def State.reportBody (s : State) (nonce : List Byte) : List Byte :=
  let trial := s.boot.trial == some s.boot.running
  let flags := (if trial then 1 else 0) + (if s.acc.cfgFallback != 0 then 2 else 0) + (if s.boot.package.isSome then 4 else 0)
  let x := s.slot s.boot.running
  [0x52, 1, s.job.dev.code] ++ arg1 flags ++ le16 s.job.jt ++ le16 0x00B0#16 ++ padTo 16 s.ident.traySerial ++ le32 s.own ++
    le32 s.time.cycles ++ le64 s.time.opMs ++ le32 s.job.epoch ++ le32 x.version ++ le32 s.boot.floor ++
    le16 s.upd.semVersion ++ le16 s.vec.isaVersion ++ le64 s.configDigest ++ sha512 (padTo 512 x.header) ++
    (match s.boot.package with | some p => sha512 p.1 | none => List.replicate 64 0) ++ padTo 32 nonce ++
    leBytes 4 (s.boot.reports.toNat + 1) ++ List.replicate 4 0

def attestationRequest (bytes : List Byte) (s : State) : State :=
  if bytes.length ≠ 32 then s
  else
    let body := s.reportBody bytes
    let (sig, s) := s.sign
    { s with boot := { s.boot with report := some (body ++ sig), reports := bump s.boot.reports } }

/-- ATTESTATION_REQUEST (R493): the signature is a free value (notes/assumptions/3.md). -/
def execAttestationRequest (bytes : List Byte) (s : State) : Host.Outcome State Fault Refusal := .next (attestationRequest bytes s)

/-! ## Policy packages (R496, R497) -/

/-- The parts of a package: header, body, co-signature. -/
structure PackageParts where
  header : List Byte
  body : List Byte
  cosig : List Byte

def packageParts (l : List Byte) : PackageParts :=
  let n := (field32 l 28).toNat
  ⟨l.take 512, (l.drop 512).take n, l.drop (512 + n)⟩

/-- A package the rule accepts, with its entries. -/
def State.packageOk (s : State) (l : List Byte) : Option (List (U16 × U8 × List Byte)) :=
  let p := packageParts l
  let k := s.keyAt (field16 p.cosig 0)
  if !(decide (652 ≤ l.length) && p.cosig.length == 140 && s.imageOk 2 p.header p.body &&
      decide ((field16 p.cosig 0).toNat < 16) && k.rights.getLsbD 1 && verifies k.pub p.header (sliceZ p.cosig 8 132) &&
      decide (s.boot.pkgVersion.toNat ≤ (hdrVersion p.header).toNat)) then none
  else match parseEntries p.body.length p.body with
    | some es => if s.entriesOk es then some es else none
    | none => none

def policyStage (bytes : List Byte) (s : State) : State :=
  if s.job.dev != .standby then s
  else match s.packageOk bytes with
    | none => ({ s with boot := { s.boot with pkgRefusals := bump s.boot.pkgRefusals } }).record (ev3 0x7031 unitSec [])
    | some es =>
      let h := bytes.take 512
      ({ s with boot := { s.boot with package := some (h, es), pkgVersion := hdrVersion h } }).record (ev3 0x7030 unitSec [])

/-- POLICY_STAGE (R496): in STANDBY alone; the package is applied at the following boots. -/
def execPolicyStage (bytes : List Byte) (s : State) : Host.Outcome State Fault Refusal := .next (policyStage bytes s)

/-- The payload names the loaded package. -/
def State.removalOk (s : State) (l : List Byte) : Bool :=
  match s.boot.package with
  | some p => l == sha512 p.1
  | none => false

def policyRemoval (bytes : List Byte) (s : State) : State :=
  if s.removalOk bytes then ({ s with boot := { s.boot with package := none } }).record (ev3 0x7032 unitSec []) else s

/-- POLICY_REMOVAL (R497): a payload that is not the SHA-512 of the loaded header has no effect. -/
def execPolicyRemoval (bytes : List Byte) (s : State) : Host.Outcome State Fault Refusal := .next (policyRemoval bytes s)

end Sys2Proof.Machine
end

