-- ==== Sys2Proof/Machine/AccessOps.lean ====
section
/-! DEFINITION. The object server (R457 to R476): messages, the checks of R463 in their order, duplicates, sessions, signed writes,
the rules that own action objects, and the host link's window and rings. -/
namespace Sys2Proof.Machine
open Sys2Proof

/-! ## Messages (R461, R462) -/

/-- A request by its fields. -/
structure Msg where
  kind : U8
  client : U32
  req : U32
  idx : U16
  sub : U8
  flags : U8
  dlen : Nat
  off : Nat
  total : Nat
  crc64 : U64
  crc32 : U32
  data : List Byte
deriving DecidableEq, Repr

def kREAD : U8 := 1
def kWRITE : U8 := 2
def kSWRITE : U8 := 3

/-- The bytes of a message: the header, and the data that a READ does not carry. -/
def msgLength (l : List Byte) : Nat := if byteAt l 3 == kREAD then 48 else 48 + (field16 l 18).toNat

/-- A message without its check word. -/
def unchecked (l : List Byte) : List Byte := l.take 40 ++ List.replicate 4 0 ++ l.drop 44

/-- A message that R464 does not discard, of a request kind. -/
def Msg.ofBytes (bytes : List Byte) : Option Msg :=
  let n := msgLength bytes
  let l := bytes.take n
  let kind := byteAt l 3
  if bytes.length < n || bytes.length < 48 || field16 l 0 != 0x4B56 || byteAt l 2 != 1 ||
      crc32c (unchecked l) != field32 l 40 || !(kind == kREAD || kind == kWRITE || kind == kSWRITE) then none
  else some { kind := kind, client := field32 l 4, req := field32 l 8, idx := field16 l 12, sub := byteAt l 14, flags := byteAt l 15
              dlen := (field16 l 18).toNat, off := (field32 l 20).toNat, total := (field32 l 24).toNat, crc64 := field64 l 32
              crc32 := field32 l 40, data := l.drop 48 }

def Msg.first (m : Msg) : Bool := m.flags.getLsbD 0
def Msg.last (m : Msg) : Bool := m.flags.getLsbD 1

/-- A message with its check word in place. -/
def checked (l : List Byte) : List Byte := l.take 40 ++ le32 (crc32c (unchecked l)) ++ l.drop 44

/-- A response (R461, R462): status, data, current length and write generation. -/
structure Answer where
  status : U8
  data : List Byte := []
  total : Nat := 0
  gen : U32 := 0

def Msg.answer (m : Msg) (a : Answer) : List Byte :=
  checked (le16 0x4B56#16 ++ [1, m.kind ||| 0x80] ++ le32 m.client ++ le32 m.req ++ le16 m.idx ++ [m.sub, 0, a.status, 0] ++
    leBytes 2 a.data.length ++ leBytes 4 m.off ++ leBytes 4 a.total ++ le32 a.gen ++ List.replicate 16 0 ++ a.data)

/-- A stored response sent again: flag bit 3 (R465). -/
def resent (l : List Byte) : List Byte := checked (l.take 15 ++ [byteAt l 15 ||| 8] ++ l.drop 16)

/-- The largest message of a path (R461). -/
def pathLimit : Path → Nat
  | .ma => 1232 | .mb => 1232 | .tunnel _ => 4096 | .ring => 65536 | .window => 65536
/-- The counter of requests taken (R465, OD 1020.10 to 1020.13). -/
def pathTaken : Path → Fin 4
  | .ma => 0 | .mb => 1 | .window => 2 | .ring => 2 | .tunnel _ => 3
/-- The path of event 0x8031 (R558). -/
def pathEvent : Path → List Byte
  | .ma => [0, 0xFF] | .mb => [1, 0xFF] | .ring => [2, 0xFF] | .window => [2, 0xFF] | .tunnel p => [3, BitVec.ofNat 8 p.val]

/-! ## What the device state permits (R459) -/

/-- The server runs: the supplies are up and internal reset is not asserted (R487). -/
def State.serverRuns (s : State) : Bool := !s.boot.resetHeld && s.job.dev != .off

def State.readable (s : State) (idx : Nat) : Bool :=
  match s.job.dev with
  | .boot => idx == 0x1018 || idx == 0x1F00
  | .off => false
  | _ => true

/-- The objects SAFE accepts writes of. -/
def safeWrites : List (Nat × Nat) :=
  [(0x1030, 1), (0x1030, 4), (0x1040, 3), (0x4100, 2), (0x6500, 3), (0x7000, 1), (0x7000, 2), (0x7000, 5), (0x7100, 6), (0x1F10, 1)]

def State.writable (s : State) (idx sub : Nat) : Bool :=
  match s.job.dev with
  | .boot => false
  | .off => false
  | .safe => safeWrites.contains (idx, sub)
  | _ => true

/-- The states in which the owning chapter takes a write, action objects included. -/
def State.taking (s : State) (idx sub : Nat) : Bool :=
  let d := s.job.dev
  match idx, sub with
  | 0x2010, 1 | 0x9010, 1 | 0x9040, 1 => d == .standby
  | 0x2030, 1 => d == .run || d == .fenced || d == .opening || d == .resigning
  | 0x4000, 0x0A | 0x4000, 0x0B => d == .opening || d == .run
  | 0x5200, 3 => d == .standby || d == .opening || d == .run
  | 0x9000, 1 => d == .standby || !(s.boot.keys.all KeyEntry.empty)
  | 0xA000, 1 => d == .standby || d == .exerciser
  | 0xA400, 1 => d == .exerciser
  | _, _ => s.permits idx sub

/-! ## Rules that own action objects -/

/-- An action whose rule has counters for its refusals. -/
def counted (f : State → State) (s : State) : U8 × State :=
  let s' := f s
  (if s'.refusalMark == s.refusalMark && s'.red.stepRefusals == s.red.stepRefusals then 0 else 4, s')

def openingAction (l : List Byte) (s : State) : U8 × State :=
  let seq := field32 l 0
  if l.length ≠ 16 then (4, s)
  else match (byteAt l 4).toNat with
    | 1 => judged (openingFresh seq) s
    | 2 => judged (openingRestore seq) s
    | 3 => judged (openingResend seq) s
    | 4 => judged (openingInstallCmd seq (field32 l 8)) s
    | 5 => judged (openingAbandonCmd seq) s
    | _ => judged (fun s => s.refuseCommand (byteAt l 4).toNat) s

def groupAction (n : Nat) (s : State) : U8 × State :=
  let g : U8 := BitVec.ofNat 8 n
  match n / 256 with
  | 1 => judged (groupStart g) s
  | 2 => judged (groupRetry g) s
  | 3 => judged (groupAbort g) s
  | _ => judged State.refuseGroup s

def portActionWrite (p : Port) (n : Nat) (s : State) : U8 × State :=
  match n with
  | 1 => (0, s.portAction p true)
  | 2 => (0, s.portAction p false)
  | 3 => (0, portDisable p s)
  | 4 => (0, s.portAction p false)
  | _ => (4, s)

/-- The save action (R480). -/
def configSave (v : U8) (s : State) : State :=
  if v != 1 then s
  else
    let refuse (s : State) : State := s.record (ev3 0x8024 unitCC [])
    if s.acc.saving.isSome then refuse s
    else
      let (ok, s') := s.reserve saveCost
      if !ok then refuse s'
      else
        let b := s.acc.olderIsB
        let c : CfgCopy := { valid := true, gen := (max s.acc.cfgA.gen.toNat s.acc.cfgB.gen.toNat + 1 : Nat), entries := s.storeEntries }
        { s' with acc := { (s'.acc.setCopy b { valid := false, gen := c.gen }) with saving := some (b, c) } }

/-- A write of OD 1F00.03: refused, with VALUE, while a save runs or the ledger does not cover it. -/
def saveAction (n : Nat) (s : State) : U8 × State :=
  let s' := configSave (BitVec.ofNat 8 n) s
  (if n == 1 && s.acc.saving.isNone && s'.acc.saving.isSome then 0 else 4, s')

/-- Pending vectors are sent again after an acknowledgement (R476). -/
def interruptAck (v : U32) (s : State) : State :=
  let left := s.acc.irqPend &&& ~~~v
  let again := ((List.range 8).filter (fun n => left.getLsbD n)).map (fun n => (s.acc.irqMap[n]?).getD 0xFF)
  { s with acc := { s.acc with irqPend := left, msix := (again.filter (· != 0xFF)).eraseDups ++ s.acc.msix } }

/-- Rules of WO objects, for the whole value. -/
def woWrite (idx sub : Nat) (l : List Byte) (s : State) : U8 × State :=
  let n := leNat l
  match idx, sub with
  | 0x1030, 1 => (0, setAcc (fun a => { a with ringReqP := BitVec.ofNat 16 n }) s)
  | 0x1030, 4 => (0, setAcc (fun a => { a with ringRspC := BitVec.ofNat 16 n }) s)
  | 0x1040, 3 => (0, interruptAck (BitVec.ofNat 32 n) s)
  | 0x1F00, 3 => saveAction n s
  | 0x2010, 3 => openingAction l s
  | 0x2030, 1 => judged (resignationAction (BitVec.ofNat 16 n)) s
  | 0x2100, 2 => judged (stepFenceWrite (BitVec.ofNat 32 n)) s
  | 0x2310, 1 => let s' := scalarFenceWrite (BitVec.ofNat 64 n) s; (if s'.refusedStatus.1 then 4 else 0, s')
  | 0x2600, 3 => judged (haltReleaseWrite (BitVec.ofNat 32 n)) s
  | 0x2610, 1 => judged (maskStageWrite l) s
  | 0x2800, 1 => counted (streamStartAction (BitVec.ofNat 64 n)) s
  | 0x3100, 4 => if l.length ≠ 12 then (4, s) else judged (classChangeAction l) s
  | 0x3200, 5 => judged (drainFenceAction (BitVec.ofNat 64 n)) s
  | 0x3440, 1 => groupAction n s
  | 0x4000, 0x0B => let s' := epochFenceAction (BitVec.ofNat 32 n) s; (if s'.refusedStatus.2 then 4 else 0, s')
  | 0x4100, 0x0A => if isUnit (BitVec.ofNat 16 n) then (0, retireAction (BitVec.ofNat 16 n) s) else (4, s)
  | 0x4200, 1 => if l.length ≠ 16 || !(gambitReq l).formed then (4, s) else judged (gambitAction l) s
  | 0x5200, 3 => judged (bankSwitchPending (BitVec.ofNat 32 n)) s
  | 0x6010, 1 => if n == 1 || n == 2 then judged (State.takeSnapshot (BitVec.ofNat 8 n)) s else (4, s)
  | 0x6400, 5 =>
    match n with
    | 1 => (0, traceStart s)
    | 2 => (0, traceStop s)
    | 3 => let s' := traceClear s; (if s'.tele.traceRefused then 4 else 0, s')
    | _ => (4, s)
  | 0x7100, 6 => (0, alarmAcknowledge (BitVec.ofNat 32 n) s)
  | 0x8400, 1 => if n < 40 then (0, outputRelease (BitVec.ofNat 8 n) s) else (4, s)
  | 0x9010, 1 => judged (imageStage l) s
  | 0x9030, 1 => if l.length = 32 then (0, attestationRequest l s) else (4, s)
  | 0x9040, 1 => judged (policyStage l) s
  | 0xA000, 1 =>
    match n with
    | 1 => judged exerciserEnter s
    | 2 => judged exerciserLeave s
    | 3 => judged exerciserRunStart s
    | 4 => judged exerciserRunStop s
    | _ => (4, s)
  | 0xA400, 1 => if l.length = 8 then judged (injectionAction l) s else (4, s)
  | idx, sub =>
    if h : 0x3400 ≤ idx ∧ idx < 0x3440 ∧ sub = 5 then
      let c : Chan := ⟨idx - 0x3400, by omega⟩
      match n with
      | 1 => judged (moverStart c) s
      | 2 => judged (State.abortChan c) s
      | _ => judged (State.refuseChan c 5 8) s
    else if h : 0x5000 ≤ idx ∧ idx < 0x5018 ∧ sub = 2 then portActionWrite ⟨idx - 0x5000, by omega⟩ n s
    else if h : idx = 0x2310 ∧ 0x20 ≤ sub ∧ sub < 0x30 then
      (0, { s with red := { s.red with inputs := s.red.inputs.set (sub - 0x20) (BitVec.ofNat 64 n) (by omega) } })
    else (4, s)

/-- A reset action of a signed write (R485); the bytes after the first are ignored (R16). -/
def resetAction (l : List Byte) (s : State) : U8 × State :=
  if l.length ≠ 4 then (4, s)
  else match (byteAt l 0).toNat with
    | 1 => (0, resetActionWarm false s)
    | 2 => (0, resetActionCold s)
    | _ => (4, s)

/-- Rules of RWS objects, for the payload and the index of the signing key. -/
def rwsWrite (idx sub : Nat) (l : List Byte) (key : U16) (s : State) : U8 × State :=
  match idx, sub with
  | 0x1F10, 1 => resetAction l s
  | 0x2010, 1 => judged (jobClaim l) s
  | 0x4000, 0x0A => if l.length = 8 then judged (evictionAction (field32 l 0) (field32 l 4) key) s else (4, s)
  | 0x4100, 0x0C => (0, clearHistory key s)
  | 0x7000, 5 => (0, s.clearRecorder key)
  | 0x9000, 1 => if l.length = 2304 then judged (keyListWrite l key) s else (4, s)
  | 0x9010, 2 => if s.activateOk l then (0, imageActivate l s) else (4, s)
  | 0x9040, 3 => if s.removalOk l then (0, policyRemoval l s) else (4, s)
  | _, _ => (4, s)

/-- The rule that owns an RW or WO object takes a whole value. -/
def ownWrite (idx : U16) (r : Row) (l : List Byte) (s : State) : U8 × State :=
  if r.acc = .rw then rwWrite idx.toNat r l s else woWrite idx.toNat r.sub l s

/-! ## Write generations (R468) -/

def State.generation (s : State) (idx : U16) (sub : U8) : U32 :=
  ((s.acc.gens.find? (fun g => g.1 == idx && g.2.1 == sub)).map (·.2.2)).getD 0
/-- An accepted write raises the generation of its object. -/
def noteWrite (idx : U16) (sub : U8) (a : U8 × State) : U8 × State :=
  if a.1 == 0 then
    let g := a.2.generation idx sub + 1
    (0, setAcc (fun c => { c with gens := c.gens.filter (fun x => !(x.1 == idx && x.2.1 == sub)) ++ [(idx, sub, g)] }) a.2)
  else a

/-! ## Reads (R458, R459, R468) -/

def serveRead (path : Path) (m : Msg) (s : State) : Answer :=
  match objectAt m.idx m.sub with
  | none => { status := 1 }
  | some r =>
    if r.acc = .wo then { status := 2 }
    else if !s.readable m.idx.toNat then { status := 3 }
    else
      let v := r.value s
      let gen := s.generation m.idx m.sub
      if r.ty.scalar then
        if m.off ≠ 0 then { status := 6, total := v.length, gen := gen } else { status := 0, data := v, total := v.length, gen := gen }
      else if m.off > v.length || 48 + m.dlen > pathLimit path then { status := 6, total := v.length, gen := gen }
      else { status := 0, data := (v.drop m.off).take m.dlen, total := v.length, gen := gen }

/-! ## Unsigned writes (R458, R459, R467) -/

/-- Steps 1 to 3 of R463 for an unsigned write: the status of the first that fails. -/
def State.writeGate (s : State) (path : Path) (idx : U16) (sub : U8) : U8 :=
  match objectAt idx sub with
  | none => 1
  | some r =>
    let tunnel : Bool := match path with | .tunnel _ => s.acc.tunnelWrites != 1 | _ => false
    if !(r.acc = .rw || r.acc = .wo) || tunnel || s.inPackage idx sub then 2
    else if !s.writable idx.toNat sub.toNat then 3
    else if !s.taking idx.toNat sub.toNat then 3 else 0

/-- The refusal of an owning chapter for the state is that rule's own, with what it counts and records. -/
def ownRefusal (idx : U16) (r : Row) (l : List Byte) (s : State) : State :=
  if s.writable idx.toNat r.sub then (ownWrite idx r l s).2 else s

def poolBytes : Nat := 33554432
def AccState.pooled (a : AccState) : Nat := (a.sessions.map (·.data.length)).sum
def AccState.dropSession (k : SessionKey) (a : AccState) : AccState := { a with sessions := a.sessions.filter (·.key != k) }

/-- A segment enters its session; none when it does not fit there (R467). -/
def openSegment (path : Path) (m : Msg) (s : State) : Except U8 (List Byte) × State :=
  let k : SessionKey := ⟨m.client, m.idx, m.sub⟩
  let host : Bool := path == .ring
  if m.first then
    if m.off ≠ 0 then (.error 0x0A, s)
    else
      let s := setAcc (AccState.dropSession k) s
      if s.acc.sessions.length ≥ 8 || s.acc.pooled + m.data.length > poolBytes then (.error 7, s)
      else (.ok m.data, setAcc (fun a => { a with sessions := a.sessions ++ [⟨k, host, m.data⟩] }) s)
  else
    match s.acc.sessions.find? (·.key == k) with
    | none => (.error 0x0A, s)
    | some x =>
      if m.off ≠ x.data.length then (.error 0x0A, s)
      else if s.acc.pooled + m.data.length > poolBytes then (.error 7, s)
      else
        let y : Session := { x with data := x.data ++ m.data }
        (.ok y.data, setAcc (fun a => { a with sessions := a.sessions.map (fun z => if z.key == k then y else z) }) s)

/-- A segment, and at the last one the checks of R463 from step 7. -/
def serveSegment (path : Path) (m : Msg) (r : Row) (s : State) : U8 × State :=
  match openSegment path m s with
  | (.error e, s) => (e, s)
  | (.ok v, s) =>
    if !m.last then (0, s)
    else
      let s := setAcc (AccState.dropSession ⟨m.client, m.idx, m.sub⟩) s
      if m.total ≠ m.off + m.data.length then (6, s)
      else if m.crc64 != crc64 v then (9, s)
      else ownWrite m.idx r v s

def serveWrite (path : Path) (m : Msg) (s : State) : U8 × State :=
  match objectAt m.idx m.sub with
  | none => (1, s)
  | some r =>
    let g := s.writeGate path m.idx m.sub
    if g == 3 && (r.ty.scalar || m.last) then (3, ownRefusal m.idx r m.data s)
    else if g != 0 then (g, s)
    else if 48 + m.data.length > pathLimit path then (6, s)
    else if r.ty.scalar then
      if m.off ≠ 0 || m.data.length ≠ r.ty.size then (6, s) else noteWrite m.idx m.sub (ownWrite m.idx r m.data s)
    else
      let a := serveSegment path m r s
      if m.last then noteWrite m.idx m.sub a else a

/-! ## Signed writes (R469, R494, R495) -/

/-- The right a signed write needs: operator, but for the key list and the removal of a package (R494). -/
def neededRight (idx sub : Nat) : Nat := if idx = 0x9000 ∧ sub = 1 then 2 else if idx = 0x9040 ∧ sub = 3 then 1 else 0

/-- The key that signs: a listed one, or, while the list is empty, one of the list written (R495). -/
def State.signer (s : State) (idx sub : Nat) (key : U16) (payload : List Byte) : KeyEntry :=
  if idx = 0x9000 ∧ sub = 1 ∧ s.boot.keys.all KeyEntry.empty then KeyEntry.ofBytes (sliceZ payload (144 * key.toNat) 144)
  else s.keyAt key

/-- Signature and counter hold. -/
def State.signedOk (s : State) (idx : U16) (sub : U8) (payload trailer : List Byte) : Bool :=
  let key := field16 trailer 0
  let k := s.signer idx.toNat sub.toNat key payload
  let text := le32 s.own ++ le16 idx ++ [sub, 0] ++ le64 (field64 trailer 8) ++ payload
  decide (key.toNat < 16) && k.rights.getLsbD (neededRight idx.toNat sub.toNat) &&
  decide (((s.boot.counters.toList[key.toNat]?).getD 0).toNat < (field64 trailer 8).toNat) &&
  verifies k.pub text (sliceZ trailer 16 132)

def signedRefused (idx : U16) (sub : U8) (key : U16) (s : State) : State :=
  let s := setAcc (fun a => { a with signRefused := bump a.signRefused }) s
  if idx == 0x7000 && sub == 5 then s.refuseClear key else s.record (ev3 0x8030 unitCC (le16 key ++ le16 idx ++ [sub]))

/-- The counter of a key is stored before the device acts. -/
def storeCounter (key : U16) (c : U64) (s : State) : State :=
  if h : key.toNat < 16 then { s with boot := { s.boot with counters := s.boot.counters.set key.toNat c } } else s

def serveSwrite (path : Path) (m : Msg) (s : State) : U8 × State :=
  match objectAt m.idx m.sub with
  | none => (1, s)
  | some r =>
    let n := m.data.length - 148
    let payload := m.data.take n
    let trailer := m.data.drop n
    let key := field16 trailer 0
    if r.acc ≠ .rws then (2, s)
    else if !s.writable m.idx.toNat r.sub then (3, s)
    else if !s.taking m.idx.toNat r.sub then (3, (rwsWrite m.idx.toNat r.sub payload key s).2)
    else if m.data.length < 148 || m.off ≠ 0 || 48 + m.data.length > pathLimit path then (6, s)
    else if !s.signedOk m.idx m.sub payload trailer then (5, signedRefused m.idx m.sub key s)
    else noteWrite m.idx m.sub (rwsWrite m.idx.toNat r.sub payload key (storeCounter key (field64 trailer 8) s))

/-! ## One request (R463, R465) -/

/-- A request taken up is settled. -/
def settleMsg (path : Path) (m : Msg) (s : State) : Answer × State :=
  if m.kind == kREAD then (serveRead path m s, s)
  else
    let (st, s) := if m.kind == kWRITE then serveWrite path m s else serveSwrite path m s
    ({ status := st }, s)

def AccState.dupOf (a : AccState) (m : Msg) : Option DupEntry := a.dups.find? (fun d => d.client == m.client && d.req == m.req)

/-- A response is kept, the oldest entry giving way in a full table; a BUSY answer is kept by none, since the request comes again
with the same ids (R463). -/
def keepResponse (path : Path) (m : Msg) (st : U8) (resp : List Byte) (s : State) : State :=
  if st == 7 || s.boot.resetHeld then s
  else
    let e : DupEntry := ⟨m.client, m.req, m.crc32, some resp, path⟩
    setAcc (fun a => { a with dups := (if a.dups.length ≥ 4096 then a.dups.drop 1 else a.dups) ++ [e] }) s

/-- The ids were used by another request. -/
def mismatch (path : Path) (m : Msg) (s : State) : State :=
  let s := setAcc (fun a => { a with mismatches := bump a.mismatches }) s
  let sec := s.time.now / 1000
  if s.acc.mismAt.contains (m.client, sec) then s
  else
    (setAcc (fun a => { a with mismAt := a.mismAt.filter (·.1 != m.client) ++ [(m.client, sec)] }) s).record
      (ev3 0x8031 unitCC (le32 m.client ++ le32 m.req ++ pathEvent path))

/-- The response to a message, and the state after it; no response to a message that R464 discards. -/
def serve (path : Path) (bytes : List Byte) (s : State) : Option (List Byte) × State :=
  match Msg.ofBytes bytes with
  | none => (none, setAcc (fun a => { a with discarded := bump a.discarded }) s)
  | some m =>
    match s.acc.dupOf m with
    | some d =>
      if d.crc == m.crc32 then
        (d.resp.map resent, setAcc (fun a => { a with dupAnswered := bump a.dupAnswered }) s)
      else (some (m.answer { status := 8 }), mismatch path m s)
    | none =>
      let s := setAcc (fun a => { a with taken := addAt a.taken (pathTaken path).val 1 }) s
      let (ans, s) := settleMsg path m s
      let resp := m.answer ans
      (some resp, keepResponse path m ans.status resp s)

/-! ## Planes, tunnels and rings (R471, R475, R478) -/

/-- A source address lies in a prefix of OD 1020.05. -/
def inPrefix (addr e : List Byte) : Bool :=
  let n := (byteAt e 16).toNat
  beNat (padTo 16 addr) / 2 ^ (128 - n) == beNat (e.take 16) / 2 ^ (128 - n)
def AccState.admits (a : AccState) (addr : List Byte) : Bool :=
  a.prefixes.isEmpty || (entriesOf 17 a.prefixes).any (inPrefix addr)

/-- A datagram on a plane: the 16 bytes of its source address, then the message. The answer goes back to that address. -/
def planeServe (i : Fin 2) (bytes : List Byte) (s : State) : State :=
  let path : Path := if i = 0 then .ma else .mb
  let addr := bytes.take 16
  let k : Fin 14 := ⟨12 + i.val, by omega⟩
  let s := s.countBytes k (bytes.length - 16)
  let s := setAcc (fun a => { a with planeUp := a.planeUp.set i.val 1 }) s
  if !s.acc.admits addr then setAcc (fun a => { a with discarded := bump a.discarded }) s
  else
    match serve path (bytes.drop 16) s with
    | (none, s) => s
    | (some r, s) => setAcc (fun a => { a with responses := a.responses ++ [(path, addr ++ r)] }) (s.countBytes k r.length)

/-- The response goes back on the port (R478). -/
def tunnelServe (p : Port) (dst : U32) (bytes : List Byte) (s : State) : State :=
  match serve (.tunnel p) bytes s with
  | (none, s) => s
  | (some r, s) =>
    let s := setAcc (fun a => { a with responses := a.responses ++ [(.tunnel p, r)] }) s
    s.sendOn p (.trans (s.mkTrans opOBJ_TUNNEL dst 0 [] [] [] r))

/-- The response ring is full. -/
def AccState.ringFull (a : AccState) : Bool := decide (256 ≤ (a.ringRspP - a.ringRspC).toNat)

/-- The server takes the message of the next request slot (R475). -/
def ringServe (s : State) : State :=
  let slot := s.acc.ringReqC
  let msg := ((s.acc.reqRing.find? (·.1 == slot)).map (·.2)).getD []
  let s := setAcc (fun a => { a with reqRing := a.reqRing.filter (·.1 != slot), ringReqC := a.ringReqC + 1 }) s
  match serve .ring msg s with
  | (none, s) => s
  | (some r, s) =>
    let put (a : AccState) : AccState :=
      { a with rspRing := a.rspRing.filter (fun x => x.1 != a.ringRspP % 256) ++ [(a.ringRspP % 256, r)], ringRspP := a.ringRspP + 1 }
    ((setAcc put s).countBytes 11 r.length).raiseIrq 0

/-- Requests are consumed in order while the response ring has room. -/
def consumeRing : Nat → State → State
  | 0, s => s
  | n + 1, s => if s.acc.ringReqC == s.acc.ringReqP || s.acc.ringFull || s.boot.resetHeld then s else consumeRing n (ringServe s)
/-- At most a whole turn of the indices is waiting. -/
def drainRing (s : State) : State := consumeRing 65536 s

/-! ## The scalar window (R473, R474) -/

/-- A refused window access is recorded. -/
def windowRefused (idx : U16) (sub st : U8) (s : State) : State :=
  setAcc (fun a => { a with winRefused := bump a.winRefused, winLast := le16 idx ++ [sub, st] }) s

/-- The value of a window write: the object's size, or the whole slot with zero above it. -/
def windowValue (r : Row) (l : List Byte) : Option (List Byte) :=
  if r.ty.scalar && l.length == r.ty.size then some l
  else if r.ty.scalar && l.length == 8 && (l.drop r.ty.size).all (· == 0) then some (l.take r.ty.size)
  else none

def windowStatus (idx : U16) (sub : U8) (l : List Byte) (s : State) : U8 × State :=
  match objectAt idx sub with
  | none => (1, s)
  | some r =>
    let g := s.writeGate .window idx sub
    match windowValue r l with
    | none => (if g != 0 then g else 6, s)
    | some v =>
      if g == 3 then (3, ownRefusal idx r v s)
      else if g != 0 then (g, s)
      else noteWrite idx sub (ownWrite idx r v s)

/-- A write to the scalar window. -/
def windowWrite (idx : U16) (sub : U8) (l : List Byte) (s : State) : State :=
  let (st, s) := windowStatus idx sub l (s.countBytes 10 l.length)
  if st == 0 then s else windowRefused idx sub st s

/-- A read of 8 bytes of BAR0 (R473, R474). -/
def windowRead (s : State) (off : Nat) : List Byte :=
  let ones := List.replicate 8 (0xFF : Byte)
  if off < 0x08000000 then
    let idx : U16 := BitVec.ofNat 16 (off / 2048)
    match objectAt idx (BitVec.ofNat 8 (off % 2048 / 8)) with
    | none => ones
    | some r =>
      if r.acc = .wo then List.replicate 8 0
      else if !s.readable idx.toNat then ones
      else if r.ty.scalar then padTo 8 (leBytes r.ty.size (r.get s))
      else leBytes 8 (r.dom s).length
  else if off < 0x0A000000 then
    -- the request ring, then the response ring: a slot that holds no message reads as zero (notes/assumptions/84.md)
    let slot := off / 65536 % 256
    let ring := if off < 0x09000000 then s.acc.reqRing else s.acc.rspRing
    let l := ((ring.find? (fun x => x.1.toNat % 256 == slot)).map (·.2)).getD []
    padTo 8 ((l.drop (off % 65536)).take 8)
  else List.replicate 8 0

end Sys2Proof.Machine
end

