-- ==== Sys2Proof/Machine/Access.lean ====
section
/-! DEFINITION. The commands of the access paths and the configuration store (R457 to R482). -/
namespace Sys2Proof.Machine
open Sys2Proof

/-! ## Messages (R462, R465 to R471) -/

/-- A message arrives on a path. On a plane the operand is the datagram, its source address first; through the ring it is placed in
the next request slot, where RING_PRODUCE_WRITE makes the server take it; the scalar window carries none (R470, R471, R475). -/
def messageArrives (path : Path) (bytes : List Byte) (s : State) : State :=
  if !s.serverRuns then s
  else match path with
  | .ma => drainRing (planeServe 0 bytes s)
  | .mb => drainRing (planeServe 1 bytes s)
  | .tunnel p => drainRing (tunnelServe p (s.peerCn p) bytes s)
  | .ring =>
    let slot := s.acc.ringReqC + BitVec.ofNat 16 s.acc.reqRing.length
    (setAcc (fun a => { a with reqRing := a.reqRing ++ [(slot, bytes)] }) s).countBytes 10 bytes.length
  | .window => s

/-- The message inside the operand of a message command. -/
def messageOf (path : Path) (bytes : List Byte) : List Byte :=
  match path with
  | .ma => bytes.drop 16
  | .mb => bytes.drop 16
  | .ring => bytes
  | .tunnel _ => bytes
  | .window => bytes

/-- A read of the scalar window: the operand is the offset in BAR0, 4 bytes, and the answer 8 bytes (R474). -/
def windowReads (bytes : List Byte) (s : State) : State :=
  let v := windowRead s (field32 bytes 0).toNat
  (setAcc (fun a => { a with responses := a.responses ++ [(.window, v)] }) s).countBytes 11 8

def objectRead (path : Path) (bytes : List Byte) (s : State) : State :=
  if path == .window && s.serverRuns then windowReads bytes s else messageArrives path bytes s

/-- OBJECT_READ (R458, R462, R468): a READ message, or a read of the scalar window. -/
def execObjectRead (path : Path) (bytes : List Byte) (s : State) : Host.Outcome State Fault Refusal :=
  .next (objectRead path bytes s)

def objectWrite (path : Path) (bytes : List Byte) (s : State) : State := messageArrives path bytes s

/-- OBJECT_WRITE (R462, R463, R467): a WRITE message. -/
def execObjectWrite (path : Path) (bytes : List Byte) (s : State) : Host.Outcome State Fault Refusal :=
  .next (objectWrite path bytes s)

def objectSwrite (path : Path) (bytes : List Byte) (s : State) : State := messageArrives path bytes s

/-- OBJECT_SWRITE (R469): an SWRITE message. -/
def execObjectSwrite (path : Path) (bytes : List Byte) (s : State) : Host.Outcome State Fault Refusal :=
  .next (objectSwrite path bytes s)

def objTunnelReceive (port : Port) (pk : Trans) (s : State) : State :=
  let s := s.takePk (.trans pk)
  if s.serverRuns then drainRing (tunnelServe port pk.src pk.body s) else s

/-- OBJ_TUNNEL_RECEIVE (R478). -/
def execObjTunnelReceive (port : Port) (pk : Trans) (s : State) : Host.Outcome State Fault Refusal :=
  .next (objTunnelReceive port pk s)

def sessionTimeout (key : SessionKey) (s : State) : State :=
  if s.acc.sessions.any (·.key == key) then
    setAcc (fun a => { (a.dropSession key) with sessExpired := bump a.sessExpired }) s
  else s

/-- SESSION_TIMEOUT (R467). -/
def execSessionTimeout (key : SessionKey) (s : State) : Host.Outcome State Fault Refusal := .next (sessionTimeout key s)

/-- A settled entry reaches OD 1020.03. -/
def duplicateRetentionExpiry (client req : U32) (s : State) : State :=
  setAcc (fun a => { a with dups := a.dups.filter (fun d => !(d.client == client && d.req == req && d.resp.isSome)) }) s

/-- DUPLICATE_RETENTION_EXPIRY (R465). -/
def execDuplicateRetentionExpiry (client : U32) (req : U32) (s : State) : Host.Outcome State Fault Refusal :=
  .next (duplicateRetentionExpiry client req s)

/-! ## Writes without a message (R463, R472, R474 to R477) -/

/-- A write of a whole value through a path other than the window: what its last WRITE segment would meet. -/
def pathWrite (path : Path) (idx : U16) (sub : U8) (l : List Byte) (s : State) : State :=
  match objectAt idx sub with
  | none => s
  | some r =>
    let g := s.writeGate path idx sub
    if g == 3 then ownRefusal idx r l s
    else if g != 0 || (r.ty.scalar && l.length != r.ty.size) then s
    else (noteWrite idx sub (ownWrite idx r l s)).2

def registerWrite (path : Path) (idx : U16) (sub : U8) (bytes : List Byte) (s : State) : State :=
  if !s.serverRuns then s
  else drainRing (if path == .window then windowWrite idx sub bytes s else pathWrite path idx sub bytes s)

/-- REGISTER_WRITE (R458, R459, R463, R474). -/
def execRegisterWrite (path : Path) (idx : U16) (sub : U8) (bytes : List Byte) (s : State) : Host.Outcome State Fault Refusal :=
  .next (registerWrite path idx sub bytes s)

def bar2Write (s : State) : State := setAcc (fun a => { a with winRefused := bump a.winRefused }) s

/-- BAR2_WRITE (R472). -/
def execBar2Write (s : State) : Host.Outcome State Fault Refusal := .next (bar2Write s)

def ringProduceWrite (v : U16) (s : State) : State :=
  if s.serverRuns then drainRing (windowWrite 0x1030 1 (le16 v) s) else s

/-- RING_PRODUCE_WRITE (R475). -/
def execRingProduceWrite (v : U16) (s : State) : Host.Outcome State Fault Refusal := .next (ringProduceWrite v s)

def ringConsumeWrite (v : U16) (s : State) : State :=
  if s.serverRuns then drainRing (windowWrite 0x1030 4 (le16 v) s) else s

/-- RING_CONSUME_WRITE (R475): freed slots let the server go on. -/
def execRingConsumeWrite (v : U16) (s : State) : Host.Outcome State Fault Refusal := .next (ringConsumeWrite v s)

/-- INTERRUPT_ACK (R476). -/
def execInterruptAck (v : U32) (s : State) : Host.Outcome State Fault Refusal := .next (interruptAck v s)

def hostLinkReset (s : State) : State :=
  let d : AccState := {}
  let s := setAcc (fun a => { a with
    ringReqP := 0, ringReqC := 0, ringRspP := 0, ringRspC := 0, reqRing := [], rspRing := [], irqPend := 0, msix := d.msix
    sessions := a.sessions.filter (fun x => !x.host) }) s
  ({ s with boot := { s.boot with lastReset := 4 } }).record (ev3 0x8032 unitCC [])

/-- HOST_LINK_RESET (R477, R484). -/
def execHostLinkReset (s : State) : Host.Outcome State Fault Refusal := .next (hostLinkReset s)

/-! ## The configuration store (R480) -/

/-- CONFIG_SAVE (R480). -/
def execConfigSave (v : U8) (s : State) : Host.Outcome State Fault Refusal := .next (configSave v s)

/-- CONFIG_SAVE_COMPLETE (R480). -/
def execConfigSaveComplete (s : State) : Host.Outcome State Fault Refusal := .next s.finishSave

end Sys2Proof.Machine
end

