-- ==== Sys2Proof/Machine/Dispatch.lean ====
section
/-! DEFINITION. The command's meaning by its constructor: one direct call each. -/
namespace Sys2Proof.Machine
open Sys2Proof

/-- The effect of a command on everything but the queue. -/
def exec (i : Instr) (s : State) : Host.Outcome State Fault Refusal :=
  match i with
  | .powerOn w => Sys2Proof.Machine.execPowerOn w s
  | .bootLate step => Sys2Proof.Machine.execBootLate step s
  | .bootWatchdogExpiry => Sys2Proof.Machine.execBootWatchdogExpiry s
  | .sysRstNFall => Sys2Proof.Machine.execSysRstNFall s
  | .wrstNFall late => Sys2Proof.Machine.execWrstNFall late s
  | .resetActionWarm late => Sys2Proof.Machine.execResetActionWarm late s
  | .resetActionCold => Sys2Proof.Machine.execResetActionCold s
  | .powerLoss => Sys2Proof.Machine.execPowerLoss s
  | .railFault rail mv => Sys2Proof.Machine.execRailFault rail mv s
  | .sysclkLost => Sys2Proof.Machine.execSysclkLost s
  | .hostLinkReset => Sys2Proof.Machine.execHostLinkReset s
  | .stepSizeWrite v => Sys2Proof.Machine.execStepSizeWrite v s
  | .stepSizeLate step => Sys2Proof.Machine.execStepSizeLate step s
  | .stepFenceWrite v => Sys2Proof.Machine.execStepFenceWrite v s
  | .fenceTimeout => Sys2Proof.Machine.execFenceTimeout s
  | .sealStep => Sys2Proof.Machine.execSealStep s
  | .stepSealedReceive port pk => Sys2Proof.Machine.execStepSealedReceive port pk s
  | .stepFailedReceive port pk => Sys2Proof.Machine.execStepFailedReceive port pk s
  | .jobCommitReceive port pk => Sys2Proof.Machine.execJobCommitReceive port pk s
  | .stepOpenSend => Sys2Proof.Machine.execStepOpenSend s
  | .anchorLate step => Sys2Proof.Machine.execAnchorLate step s
  | .pieceArrival port blk => Sys2Proof.Machine.execPieceArrival port blk s
  | .windowUnpark ts step w => Sys2Proof.Machine.execWindowUnpark ts step w s
  | .anchorResendReqReceive port pk => Sys2Proof.Machine.execAnchorResendReqReceive port pk s
  | .treeBlockAckReceive port pk => Sys2Proof.Machine.execTreeBlockAckReceive port pk s
  | .scalarFenceWrite v => Sys2Proof.Machine.execScalarFenceWrite v s
  | .scalarSendUp slot => Sys2Proof.Machine.execScalarSendUp slot s
  | .scalarReduceReceive port pk => Sys2Proof.Machine.execScalarReduceReceive port pk s
  | .slotConfigWrite bytes => Sys2Proof.Machine.execSlotConfigWrite bytes s
  | .treeTableWrite bytes => Sys2Proof.Machine.execTreeTableWrite bytes s
  | .heldSecondPass ts w => Sys2Proof.Machine.execHeldSecondPass ts w s
  | .windowDispatch ts w replica => Sys2Proof.Machine.execWindowDispatch ts w replica s
  | .windowWriteback pipe => Sys2Proof.Machine.execWindowWriteback pipe s
  | .pipeParity pipe stage => Sys2Proof.Machine.execPipeParity pipe stage s
  | .haltReleaseWrite v => Sys2Proof.Machine.execHaltReleaseWrite v s
  | .maskStageWrite bytes => Sys2Proof.Machine.execMaskStageWrite bytes s
  | .programSlotWrite slot bytes => Sys2Proof.Machine.execProgramSlotWrite slot bytes s
  | .tensorTableWrite bytes => Sys2Proof.Machine.execTensorTableWrite bytes s
  | .invocationDispatch ts w => Sys2Proof.Machine.execInvocationDispatch ts w s
  | .invocationCommit c => Sys2Proof.Machine.execInvocationCommit c s
  | .vcBudget c => Sys2Proof.Machine.execVcBudget c s
  | .vcParity c unit => Sys2Proof.Machine.execVcParity c unit s
  | .vcCheck c => Sys2Proof.Machine.execVcCheck c s
  | .vcLoadComplete c => Sys2Proof.Machine.execVcLoadComplete c s
  | .codeSlotWrite slot bytes => Sys2Proof.Machine.execCodeSlotWrite slot bytes s
  | .vectorEntryWrite bytes => Sys2Proof.Machine.execVectorEntryWrite bytes s
  | .sysNop c => Sys2Proof.Machine.execSysNop c s
  | .endOp c xa => Sys2Proof.Machine.execEndOp c xa s
  | .faultOp c xa => Sys2Proof.Machine.execFaultOp c xa s
  | .veNop c a => Sys2Proof.Machine.execVeNop c a s
  | .veMov c a => Sys2Proof.Machine.execVeMov c a s
  | .veAdd c a => Sys2Proof.Machine.execVeAdd c a s
  | .veSub c a => Sys2Proof.Machine.execVeSub c a s
  | .veMul c a => Sys2Proof.Machine.execVeMul c a s
  | .veFma c a => Sys2Proof.Machine.execVeFma c a s
  | .veFms c a => Sys2Proof.Machine.execVeFms c a s
  | .veDiv c a => Sys2Proof.Machine.execVeDiv c a s
  | .veSqrt c a => Sys2Proof.Machine.execVeSqrt c a s
  | .veRsqrt c a => Sys2Proof.Machine.execVeRsqrt c a s
  | .veRcp c a => Sys2Proof.Machine.execVeRcp c a s
  | .veMax c a => Sys2Proof.Machine.execVeMax c a s
  | .veMin c a => Sys2Proof.Machine.execVeMin c a s
  | .veAbs c a => Sys2Proof.Machine.execVeAbs c a s
  | .veNeg c a => Sys2Proof.Machine.execVeNeg c a s
  | .veSign c a => Sys2Proof.Machine.execVeSign c a s
  | .veSel c a => Sys2Proof.Machine.execVeSel c a s
  | .veCmplt c a => Sys2Proof.Machine.execVeCmplt c a s
  | .veCmple c a => Sys2Proof.Machine.execVeCmple c a s
  | .veCmpeq c a => Sys2Proof.Machine.execVeCmpeq c a s
  | .veClamp c a => Sys2Proof.Machine.execVeClamp c a s
  | .veCvt c a => Sys2Proof.Machine.execVeCvt c a s
  | .test c a => Sys2Proof.Machine.execTest c a s
  | .vcCmplt c a => Sys2Proof.Machine.execVcCmplt c a s
  | .vcCmple c a => Sys2Proof.Machine.execVcCmple c a s
  | .vcCmpeq c a => Sys2Proof.Machine.execVcCmpeq c a s
  | .iadd c a => Sys2Proof.Machine.execIadd c a s
  | .isub c a => Sys2Proof.Machine.execIsub c a s
  | .imul c a => Sys2Proof.Machine.execImul c a s
  | .iand c a => Sys2Proof.Machine.execIand c a s
  | .ior c a => Sys2Proof.Machine.execIor c a s
  | .ixor c a => Sys2Proof.Machine.execIxor c a s
  | .ishl c a => Sys2Proof.Machine.execIshl c a s
  | .ishr c a => Sys2Proof.Machine.execIshr c a s
  | .isra c a => Sys2Proof.Machine.execIsra c a s
  | .iminu c a => Sys2Proof.Machine.execIminu c a s
  | .imaxu c a => Sys2Proof.Machine.execImaxu c a s
  | .f2i c a => Sys2Proof.Machine.execF2i c a s
  | .i2f c a => Sys2Proof.Machine.execI2f c a s
  | .iidx c a => Sys2Proof.Machine.execIidx c a s
  | .vredAdd c a => Sys2Proof.Machine.execVredAdd c a s
  | .vredMax c a => Sys2Proof.Machine.execVredMax c a s
  | .vredMin c a => Sys2Proof.Machine.execVredMin c a s
  | .vbcast c a => Sys2Proof.Machine.execVbcast c a s
  | .vbcastx c a => Sys2Proof.Machine.execVbcastx c a s
  | .vext c a => Sys2Proof.Machine.execVext c a s
  | .vins c a => Sys2Proof.Machine.execVins c a s
  | .vmovr c a => Sys2Proof.Machine.execVmovr c a s
  | .vperm c a => Sys2Proof.Machine.execVperm c a s
  | .pand c a => Sys2Proof.Machine.execPand c a s
  | .por c a => Sys2Proof.Machine.execPor c a s
  | .pxor c a => Sys2Proof.Machine.execPxor c a s
  | .pandn c a => Sys2Proof.Machine.execPandn c a s
  | .pnot c a => Sys2Proof.Machine.execPnot c a s
  | .pset c a => Sys2Proof.Machine.execPset c a s
  | .pclr c a => Sys2Proof.Machine.execPclr c a s
  | .pcount c a => Sys2Proof.Machine.execPcount c a s
  | .ptox c a => Sys2Proof.Machine.execPtox c a s
  | .pfromx c a => Sys2Proof.Machine.execPfromx c a s
  | .pfirst c a => Sys2Proof.Machine.execPfirst c a s
  | .plt c a => Sys2Proof.Machine.execPlt c a s
  | .xrAdd c a => Sys2Proof.Machine.execXrAdd c a s
  | .xrSub c a => Sys2Proof.Machine.execXrSub c a s
  | .xrMul c a => Sys2Proof.Machine.execXrMul c a s
  | .mulhu c a => Sys2Proof.Machine.execMulhu c a s
  | .divu c a => Sys2Proof.Machine.execDivu c a s
  | .remu c a => Sys2Proof.Machine.execRemu c a s
  | .xrAnd c a => Sys2Proof.Machine.execXrAnd c a s
  | .xrOr c a => Sys2Proof.Machine.execXrOr c a s
  | .xrXor c a => Sys2Proof.Machine.execXrXor c a s
  | .sll c a => Sys2Proof.Machine.execSll c a s
  | .srl c a => Sys2Proof.Machine.execSrl c a s
  | .sra c a => Sys2Proof.Machine.execSra c a s
  | .slt c a => Sys2Proof.Machine.execSlt c a s
  | .sltu c a => Sys2Proof.Machine.execSltu c a s
  | .minu c a => Sys2Proof.Machine.execMinu c a s
  | .maxu c a => Sys2Proof.Machine.execMaxu c a s
  | .addi c a => Sys2Proof.Machine.execAddi c a s
  | .andi c a => Sys2Proof.Machine.execAndi c a s
  | .ori c a => Sys2Proof.Machine.execOri c a s
  | .xori c a => Sys2Proof.Machine.execXori c a s
  | .slti c a => Sys2Proof.Machine.execSlti c a s
  | .sltiu c a => Sys2Proof.Machine.execSltiu c a s
  | .slli c a => Sys2Proof.Machine.execSlli c a s
  | .srli c a => Sys2Proof.Machine.execSrli c a s
  | .srai c a => Sys2Proof.Machine.execSrai c a s
  | .lui c xd imm => Sys2Proof.Machine.execLui c xd imm s
  | .br c xa xb cond off => Sys2Proof.Machine.execBr c xa xb cond off s
  | .jal c xd off => Sys2Proof.Machine.execJal c xd off s
  | .jalr c xd xa => Sys2Proof.Machine.execJalr c xd xa s
  | .bp c pn cond off => Sys2Proof.Machine.execBp c pn cond off s
  | .fopNop c a => Sys2Proof.Machine.execFopNop c a s
  | .fopMov c a => Sys2Proof.Machine.execFopMov c a s
  | .fopAdd c a => Sys2Proof.Machine.execFopAdd c a s
  | .fopSub c a => Sys2Proof.Machine.execFopSub c a s
  | .fopMul c a => Sys2Proof.Machine.execFopMul c a s
  | .fopFma c a => Sys2Proof.Machine.execFopFma c a s
  | .fopFms c a => Sys2Proof.Machine.execFopFms c a s
  | .fopDiv c a => Sys2Proof.Machine.execFopDiv c a s
  | .fopSqrt c a => Sys2Proof.Machine.execFopSqrt c a s
  | .fopRsqrt c a => Sys2Proof.Machine.execFopRsqrt c a s
  | .fopRcp c a => Sys2Proof.Machine.execFopRcp c a s
  | .fopMax c a => Sys2Proof.Machine.execFopMax c a s
  | .fopMin c a => Sys2Proof.Machine.execFopMin c a s
  | .fopAbs c a => Sys2Proof.Machine.execFopAbs c a s
  | .fopNeg c a => Sys2Proof.Machine.execFopNeg c a s
  | .fopSign c a => Sys2Proof.Machine.execFopSign c a s
  | .fopSel c a => Sys2Proof.Machine.execFopSel c a s
  | .fopCmplt c a => Sys2Proof.Machine.execFopCmplt c a s
  | .fopCmple c a => Sys2Proof.Machine.execFopCmple c a s
  | .fopCmpeq c a => Sys2Proof.Machine.execFopCmpeq c a s
  | .fopClamp c a => Sys2Proof.Machine.execFopClamp c a s
  | .fopCvt c a => Sys2Proof.Machine.execFopCvt c a s
  | .fmvxf c d a => Sys2Proof.Machine.execFmvxf c d a s
  | .fmvfx c d a => Sys2Proof.Machine.execFmvfx c d a s
  | .fcvtxf c d a => Sys2Proof.Machine.execFcvtxf c d a s
  | .fcvtfx c d a => Sys2Proof.Machine.execFcvtfx c d a s
  | .ldx c a => Sys2Proof.Machine.execLdx c a s
  | .stx c a => Sys2Proof.Machine.execStx c a s
  | .ldf c a => Sys2Proof.Machine.execLdf c a s
  | .stf c a => Sys2Proof.Machine.execStf c a s
  | .vld c a => Sys2Proof.Machine.execVld c a s
  | .vst c a => Sys2Proof.Machine.execVst c a s
  | .vgath c a => Sys2Proof.Machine.execVgath c a s
  | .vscat c a => Sys2Proof.Machine.execVscat c a s
  | .bldb c xd xa xs sel => Sys2Proof.Machine.execBldb c xd xa xs sel s
  | .bstb c xa xs sel => Sys2Proof.Machine.execBstb c xa xs sel s
  | .streamProgramTableWrite bytes => Sys2Proof.Machine.execStreamProgramTableWrite bytes s
  | .segmentTableWrite bytes => Sys2Proof.Machine.execSegmentTableWrite bytes s
  | .streamStartAction v => Sys2Proof.Machine.execStreamStartAction v s
  | .passEnd prog step => Sys2Proof.Machine.execPassEnd prog step s
  | .weightBlockSend prog step => Sys2Proof.Machine.execWeightBlockSend prog step s
  | .streamStall prog step port => Sys2Proof.Machine.execStreamStall prog step port s
  | .weightAckTimeout prog step seg blk dest => Sys2Proof.Machine.execWeightAckTimeout prog step seg blk dest s
  | .weightBlockAckReceive port pk => Sys2Proof.Machine.execWeightBlockAckReceive port pk s
  | .weightResendReqReceive port pk => Sys2Proof.Machine.execWeightResendReqReceive port pk s
  | .weightRelay port blk => Sys2Proof.Machine.execWeightRelay port blk s
  | .remoteWrite port pk => Sys2Proof.Machine.execRemoteWrite port pk s
  | .remoteRead port pk => Sys2Proof.Machine.execRemoteRead port pk s
  | .regionTableWrite bytes => Sys2Proof.Machine.execRegionTableWrite bytes s
  | .patrolScrub tier errs => Sys2Proof.Machine.execPatrolScrub tier errs s
  | .frameSend p => Sys2Proof.Machine.execFrameSend p s
  | .frameReceive p bytes => Sys2Proof.Machine.execFrameReceive p bytes s
  | .nakReceive p ack => Sys2Proof.Machine.execNakReceive p ack s
  | .nakRepeat p => Sys2Proof.Machine.execNakRepeat p s
  | .nakEscalation p => Sys2Proof.Machine.execNakEscalation p s
  | .linkFailed p => Sys2Proof.Machine.execLinkFailed p s
  | .packetReceive p vc bytes => Sys2Proof.Machine.execPacketReceive p vc bytes s
  | .forwardAfterWait p => Sys2Proof.Machine.execForwardAfterWait p s
  | .transitExpired => Sys2Proof.Machine.execTransitExpired s
  | .heartbeatSend p => Sys2Proof.Machine.execHeartbeatSend p s
  | .heartbeatReceive p pk => Sys2Proof.Machine.execHeartbeatReceive p pk s
  | .identReceive p pk => Sys2Proof.Machine.execIdentReceive p pk s
  | .trainingDeadlineMiss p => Sys2Proof.Machine.execTrainingDeadlineMiss p s
  | .portResumeRetrain p => Sys2Proof.Machine.execPortResumeRetrain p s
  | .portFreshTraining p => Sys2Proof.Machine.execPortFreshTraining p s
  | .portDisable p => Sys2Proof.Machine.execPortDisable p s
  | .portEnable p => Sys2Proof.Machine.execPortEnable p s
  | .agentReportReceive port pk => Sys2Proof.Machine.execAgentReportReceive port pk s
  | .agentNoResend p ts blk => Sys2Proof.Machine.execAgentNoResend p ts blk s
  | .agentQuarantine p => Sys2Proof.Machine.execAgentQuarantine p s
  | .markReceive port pk => Sys2Proof.Machine.execMarkReceive port pk s
  | .internalMark => Sys2Proof.Machine.execInternalMark s
  | .objTunnelReceive port pk => Sys2Proof.Machine.execObjTunnelReceive port pk s
  | .wiringMapWrite bytes => Sys2Proof.Machine.execWiringMapWrite bytes s
  | .shadowBankWrite bytes => Sys2Proof.Machine.execShadowBankWrite bytes s
  | .bankSwitchNow => Sys2Proof.Machine.execBankSwitchNow s
  | .bankSwitchPending v => Sys2Proof.Machine.execBankSwitchPending v s
  | .substitutionTableWrite bytes => Sys2Proof.Machine.execSubstitutionTableWrite bytes s
  | .circuitPrepare n bytes => Sys2Proof.Machine.execCircuitPrepare n bytes s
  | .circuitSwitched n bytes => Sys2Proof.Machine.execCircuitSwitched n bytes s
  | .circuitRelease n bytes => Sys2Proof.Machine.execCircuitRelease n bytes s
  | .circuitDrained n => Sys2Proof.Machine.execCircuitDrained n s
  | .circuitDrainTimeout n => Sys2Proof.Machine.execCircuitDrainTimeout n s
  | .partnerConfigWrite sub bytes => Sys2Proof.Machine.execPartnerConfigWrite sub bytes s
  | .pairReqReceive port pk => Sys2Proof.Machine.execPairReqReceive port pk s
  | .pairAckReceive port pk => Sys2Proof.Machine.execPairAckReceive port pk s
  | .pairRefuseReceive port pk => Sys2Proof.Machine.execPairRefuseReceive port pk s
  | .pairTimeout => Sys2Proof.Machine.execPairTimeout s
  | .pairRetry => Sys2Proof.Machine.execPairRetry s
  | .classChangeAction bytes => Sys2Proof.Machine.execClassChangeAction bytes s
  | .replayGReceive port blk => Sys2Proof.Machine.execReplayGReceive port blk s
  | .windowRecordReceive port pk => Sys2Proof.Machine.execWindowRecordReceive port pk s
  | .skipRecordReceive port pk => Sys2Proof.Machine.execSkipRecordReceive port pk s
  | .syncRecordReceive port pk => Sys2Proof.Machine.execSyncRecordReceive port pk s
  | .dropRecordReceive port pk => Sys2Proof.Machine.execDropRecordReceive port pk s
  | .verdictReceive port pk => Sys2Proof.Machine.execVerdictReceive port pk s
  | .mirrorPReceive port blk => Sys2Proof.Machine.execMirrorPReceive port blk s
  | .partnerBlockAckReceive port pk => Sys2Proof.Machine.execPartnerBlockAckReceive port pk s
  | .partnerResend n => Sys2Proof.Machine.execPartnerResend n s
  | .replicaWindowSettle ts w => Sys2Proof.Machine.execReplicaWindowSettle ts w s
  | .ownerDigestReceive port pk => Sys2Proof.Machine.execOwnerDigestReceive port pk s
  | .digestTimeout ts => Sys2Proof.Machine.execDigestTimeout ts s
  | .replicaDigestReceive port pk => Sys2Proof.Machine.execReplicaDigestReceive port pk s
  | .adjournmentConfigWrite sub v => Sys2Proof.Machine.execAdjournmentConfigWrite sub v s
  | .copyStart => Sys2Proof.Machine.execCopyStart s
  | .pageCopyAhead addr => Sys2Proof.Machine.execPageCopyAhead addr s
  | .copyEnd => Sys2Proof.Machine.execCopyEnd s
  | .chunkStart => Sys2Proof.Machine.execChunkStart s
  | .chunkProgrammed ok => Sys2Proof.Machine.execChunkProgrammed ok s
  | .storePartSend => Sys2Proof.Machine.execStorePartSend s
  | .storePartAckReceive port pk => Sys2Proof.Machine.execStorePartAckReceive port pk s
  | .storePartRefusalReceive port pk => Sys2Proof.Machine.execStorePartRefusalReceive port pk s
  | .storePartTimeout part => Sys2Proof.Machine.execStorePartTimeout part s
  | .storeCommitResponse port pk => Sys2Proof.Machine.execStoreCommitResponse port pk s
  | .storeAttemptRetry => Sys2Proof.Machine.execStoreAttemptRetry s
  | .storeGetResponse port pk => Sys2Proof.Machine.execStoreGetResponse port pk s
  | .drainFenceAction v => Sys2Proof.Machine.execDrainFenceAction v s
  | .drainFenceReceive port pk => Sys2Proof.Machine.execDrainFenceReceive port pk s
  | .drainFenceTimeout => Sys2Proof.Machine.execDrainFenceTimeout s
  | .moverStart c => Sys2Proof.Machine.execMoverStart c s
  | .moverAbort c => Sys2Proof.Machine.execMoverAbort c s
  | .moverPause c => Sys2Proof.Machine.execMoverPause c s
  | .moverResume c => Sys2Proof.Machine.execMoverResume c s
  | .moverTimerTick c => Sys2Proof.Machine.execMoverTimerTick c s
  | .moverReadComplete c r => Sys2Proof.Machine.execMoverReadComplete c r s
  | .moverPassEnd c => Sys2Proof.Machine.execMoverPassEnd c s
  | .moverRemoteTimeout c => Sys2Proof.Machine.execMoverRemoteTimeout c s
  | .groupStart g => Sys2Proof.Machine.execGroupStart g s
  | .groupRetry g => Sys2Proof.Machine.execGroupRetry g s
  | .groupAbort g => Sys2Proof.Machine.execGroupAbort g s
  | .moverReconcile => Sys2Proof.Machine.execMoverReconcile s
  | .jobClaim bytes => Sys2Proof.Machine.execJobClaim bytes s
  | .openingTreeWrite bytes => Sys2Proof.Machine.execOpeningTreeWrite bytes s
  | .openingFresh seq => Sys2Proof.Machine.execOpeningFresh seq s
  | .openingRestore seq => Sys2Proof.Machine.execOpeningRestore seq s
  | .openingResend seq => Sys2Proof.Machine.execOpeningResend seq s
  | .openingInstallCmd seq target => Sys2Proof.Machine.execOpeningInstallCmd seq target s
  | .openingAbandonCmd seq => Sys2Proof.Machine.execOpeningAbandonCmd seq s
  | .anchorsReceive port pk => Sys2Proof.Machine.execAnchorsReceive port pk s
  | .prepareReceive port pk => Sys2Proof.Machine.execPrepareReceive port pk s
  | .surveyReceive port pk => Sys2Proof.Machine.execSurveyReceive port pk s
  | .installReceive port pk => Sys2Proof.Machine.execInstallReceive port pk s
  | .installComplete => Sys2Proof.Machine.execInstallComplete s
  | .commitReceive port pk => Sys2Proof.Machine.execCommitReceive port pk s
  | .abandonReceive port pk => Sys2Proof.Machine.execAbandonReceive port pk s
  | .openingAckReceive port pk => Sys2Proof.Machine.execOpeningAckReceive port pk s
  | .openingChildMissing cn => Sys2Proof.Machine.execOpeningChildMissing cn s
  | .streamCheckReceive port pk => Sys2Proof.Machine.execStreamCheckReceive port pk s
  | .reachReceive port pk => Sys2Proof.Machine.execReachReceive port pk s
  | .reachTimeout => Sys2Proof.Machine.execReachTimeout s
  | .pullReqReceive port pk => Sys2Proof.Machine.execPullReqReceive port pk s
  | .pullDoneReceive port pk => Sys2Proof.Machine.execPullDoneReceive port pk s
  | .pullTimeout ts stream => Sys2Proof.Machine.execPullTimeout ts stream s
  | .resignationAction jt => Sys2Proof.Machine.execResignationAction jt s
  | .resignScrubComplete ok => Sys2Proof.Machine.execResignScrubComplete ok s
  | .watchdogFeed answers => Sys2Proof.Machine.execWatchdogFeed answers s
  | .suspicionTimeout p => Sys2Proof.Machine.execSuspicionTimeout p s
  | .suspectReceive port pk => Sys2Proof.Machine.execSuspectReceive port pk s
  | .probeAnswer pos word => Sys2Proof.Machine.execProbeAnswer pos word s
  | .probeTimeout pos => Sys2Proof.Machine.execProbeTimeout pos s
  | .declareReceive port pk => Sys2Proof.Machine.execDeclareReceive port pk s
  | .isolationTimeout => Sys2Proof.Machine.execIsolationTimeout s
  | .agentSilenceTimeout tl => Sys2Proof.Machine.execAgentSilenceTimeout tl s
  | .evictionAction pos reason key => Sys2Proof.Machine.execEvictionAction pos reason key s
  | .epochFenceAction v => Sys2Proof.Machine.execEpochFenceAction v s
  | .epochInstallReceive port pk => Sys2Proof.Machine.execEpochInstallReceive port pk s
  | .installedReceive port pk => Sys2Proof.Machine.execInstalledReceive port pk s
  | .retireAction unit => Sys2Proof.Machine.execRetireAction unit s
  | .clearHistory key => Sys2Proof.Machine.execClearHistory key s
  | .gambitAction bytes => Sys2Proof.Machine.execGambitAction bytes s
  | .gambitTempStable temp => Sys2Proof.Machine.execGambitTempStable temp s
  | .gambitRampDone => Sys2Proof.Machine.execGambitRampDone s
  | .gambitDurationEnd errors => Sys2Proof.Machine.execGambitDurationEnd errors s
  | .gambitAbort cause => Sys2Proof.Machine.execGambitAbort cause s
  | .gambitReplyTimeout => Sys2Proof.Machine.execGambitReplyTimeout s
  | .retestStart unit => Sys2Proof.Machine.execRetestStart unit s
  | .recorderFreeze => Sys2Proof.Machine.execRecorderFreeze s
  | .recorderUnfreeze => Sys2Proof.Machine.execRecorderUnfreeze s
  | .freezeTimeout => Sys2Proof.Machine.execFreezeTimeout s
  | .recorderClear key holds => Sys2Proof.Machine.execRecorderClear key holds s
  | .snapshot => Sys2Proof.Machine.execSnapshot s
  | .snapshotInterval => Sys2Proof.Machine.execSnapshotInterval s
  | .pcSample unit loc st ctx => Sys2Proof.Machine.execPcSample unit loc st ctx s
  | .traceStart => Sys2Proof.Machine.execTraceStart s
  | .traceStop => Sys2Proof.Machine.execTraceStop s
  | .traceClear => Sys2Proof.Machine.execTraceClear s
  | .ppsEdge sec => Sys2Proof.Machine.execPpsEdge sec s
  | .alarmCoalesceExpiry seq => Sys2Proof.Machine.execAlarmCoalesceExpiry seq s
  | .alarmSend plane => Sys2Proof.Machine.execAlarmSend plane s
  | .alarmHoldResend => Sys2Proof.Machine.execAlarmHoldResend s
  | .alarmAcknowledge seq => Sys2Proof.Machine.execAlarmAcknowledge seq s
  | .objectRead path bytes => Sys2Proof.Machine.execObjectRead path bytes s
  | .objectWrite path bytes => Sys2Proof.Machine.execObjectWrite path bytes s
  | .objectSwrite path bytes => Sys2Proof.Machine.execObjectSwrite path bytes s
  | .sessionTimeout key => Sys2Proof.Machine.execSessionTimeout key s
  | .registerWrite path idx sub bytes => Sys2Proof.Machine.execRegisterWrite path idx sub bytes s
  | .bar2Write => Sys2Proof.Machine.execBar2Write s
  | .ringProduceWrite v => Sys2Proof.Machine.execRingProduceWrite v s
  | .ringConsumeWrite v => Sys2Proof.Machine.execRingConsumeWrite v s
  | .interruptAck v => Sys2Proof.Machine.execInterruptAck v s
  | .configSave v => Sys2Proof.Machine.execConfigSave v s
  | .configSaveComplete => Sys2Proof.Machine.execConfigSaveComplete s
  | .imageStage bytes => Sys2Proof.Machine.execImageStage bytes s
  | .imageActivate bytes => Sys2Proof.Machine.execImageActivate bytes s
  | .keyListWrite bytes key => Sys2Proof.Machine.execKeyListWrite bytes key s
  | .attestationRequest bytes => Sys2Proof.Machine.execAttestationRequest bytes s
  | .policyStage bytes => Sys2Proof.Machine.execPolicyStage bytes s
  | .policyRemoval bytes => Sys2Proof.Machine.execPolicyRemoval bytes s
  | .powerAverageTick watts => Sys2Proof.Machine.execPowerAverageTick watts s
  | .thermalSample temps => Sys2Proof.Machine.execThermalSample temps s
  | .reservoirFault hu cause => Sys2Proof.Machine.execReservoirFault hu cause s
  | .ledgerReconcile measured => Sys2Proof.Machine.execLedgerReconcile measured s
  | .ceilingWrite hu v => Sys2Proof.Machine.execCeilingWrite hu v s
  | .outputOvercurrent pin => Sys2Proof.Machine.execOutputOvercurrent pin s
  | .outputRelease v => Sys2Proof.Machine.execOutputRelease v s
  | .accResetReleaseWrite v => Sys2Proof.Machine.execAccResetReleaseWrite v s
  | .accPwrgdFall tl => Sys2Proof.Machine.execAccPwrgdFall tl s
  | .accAlert tl => Sys2Proof.Machine.execAccAlert tl s
  | .accAlertNoReport tl => Sys2Proof.Machine.execAccAlertNoReport tl s
  | .accTherm tl => Sys2Proof.Machine.execAccTherm tl s
  | .exerciserEnter => Sys2Proof.Machine.execExerciserEnter s
  | .exerciserLeave => Sys2Proof.Machine.execExerciserLeave s
  | .exerciserRunStart => Sys2Proof.Machine.execExerciserRunStart s
  | .exerciserRunStop => Sys2Proof.Machine.execExerciserRunStop s
  | .runLengthExpiry => Sys2Proof.Machine.execRunLengthExpiry s
  | .injectionAction bytes => Sys2Proof.Machine.execInjectionAction bytes s
  | .reactionDeadline p code => Sys2Proof.Machine.execReactionDeadline p code s
  | .scriptEpoch => Sys2Proof.Machine.execScriptEpoch s
  | .scriptStepOpen => Sys2Proof.Machine.execScriptStepOpen s
  | .scriptStream => Sys2Proof.Machine.execScriptStream s
  | .scriptExpect => Sys2Proof.Machine.execScriptExpect s
  | .expectTimeout => Sys2Proof.Machine.execExpectTimeout s
  | .scriptAckPolicy => Sys2Proof.Machine.execScriptAckPolicy s
  | .scriptResend => Sys2Proof.Machine.execScriptResend s
  | .scriptFail => Sys2Proof.Machine.execScriptFail s
  | .scriptGambit => Sys2Proof.Machine.execScriptGambit s
  | .scriptEnd => Sys2Proof.Machine.execScriptEnd s
  | .resetRelease w => Sys2Proof.Machine.execResetRelease w s
  | .fecLock p => Sys2Proof.Machine.execFecLock p s
  | .markSend p => Sys2Proof.Machine.execMarkSend p s
  | .pieceResendReqReceive port pk => Sys2Proof.Machine.execPieceResendReqReceive port pk s
  | .retentionResend ts w => Sys2Proof.Machine.execRetentionResend ts w s
  | .relayRetry prog step seg blk dest => Sys2Proof.Machine.execRelayRetry prog step seg blk dest s
  | .bstbCopyComplete c => Sys2Proof.Machine.execBstbCopyComplete c s
  | .snapshotWritten => Sys2Proof.Machine.execSnapshotWritten s
  | .imageSlotWritten => Sys2Proof.Machine.execImageSlotWritten s
  | .duplicateRetentionExpiry client req => Sys2Proof.Machine.execDuplicateRetentionExpiry client req s
  | .reservoirCharged hu => Sys2Proof.Machine.execReservoirCharged hu s
  | .accPwrgdRise tl => Sys2Proof.Machine.execAccPwrgdRise tl s
  | .heartbeatLate p => Sys2Proof.Machine.execHeartbeatLate p s
  | .markLate p => Sys2Proof.Machine.execMarkLate p s
  | .replayLate p => Sys2Proof.Machine.execReplayLate p s

end Sys2Proof.Machine
end

