-- ==== Sys2Proof/Machine/VecDecode.lean ====
section
/-! DEFINITION. The instruction that a word of vector code spells: major codes and layouts of R169, codes of R170 and R171. The
command table gives its rows no bits, so decodeTableWord names none of these; a word of a code slot (R176) spells its command here. -/
namespace Sys2Proof.Machine

def fld5 (w : U32) (lo : Nat) : BitVec 5 := w.extractLsb' lo 5
def fld3 (w : U32) (lo : Nat) : BitVec 3 := w.extractLsb' lo 3

def veArgs (w : U32) : VeArgs := {
  vd := fld5 w 21, va := fld5 w 16, vb := fld5 w 11, s := w.getLsbD 5, negb := w.getLsbD 4, absa := w.getLsbD 3, pg := fld3 w 0 }
def vcArgs (w : U32) : VcArgs := {
  pd := fld3 w 23, combine := w.extractLsb' 21 2, va := fld5 w 16, vb := fld5 w 11
  s := w.getLsbD 5, negb := w.getLsbD 4, absa := w.getLsbD 3, pg := fld3 w 0 }
def viArgs (w : U32) : ViArgs := { vd := fld5 w 21, va := fld5 w 16, vb := fld5 w 11, s := w.getLsbD 5, pg := fld3 w 0 }
def vredArgs (w : U32) : VredArgs := { fd := fld5 w 21, va := fld5 w 16, pg := fld3 w 0 }
def vmovArgs (w : U32) : VmovArgs := { d := fld5 w 21, a := fld5 w 16, b := fld5 w 11, pg := fld3 w 0 }
def prArgs (w : U32) : PrArgs := { pd := fld3 w 23, pa := fld3 w 20, pb := fld3 w 17, x := fld5 w 12 }
def xrArgs (w : U32) : XrArgs := { xd := fld5 w 21, xa := fld5 w 16, xb := fld5 w 11 }
def xiArgs (w : U32) : XiArgs := { xd := fld5 w 21, xa := fld5 w 16, imm := w.extractLsb' 0 12 }
def fopArgs (w : U32) : FopArgs := {
  fd := fld5 w 21, fa := fld5 w 16, fb := fld5 w 11, w := w.getLsbD 5, negb := w.getLsbD 4, absa := w.getLsbD 3 }
def lsxArgs (w : U32) : LsxArgs := { x := fld5 w 21, xa := fld5 w 16, size := fld3 w 13, g := w.getLsbD 12, off := w.extractLsb' 0 12 }
def lsfArgs (w : U32) : LsfArgs := { f := fld5 w 21, xa := fld5 w 16, w := w.getLsbD 15, g := w.getLsbD 12, off := w.extractLsb' 0 12 }
def vmemArgs (w : U32) : VmemArgs := {
  v := fld5 w 21, xa := fld5 w 16, xb := fld5 w 11, fmt := w.extractLsb' 7 4, g := w.getLsbD 6, pg := fld3 w 0 }

/-- The operations that VE and FOP take from R114, by code from 0x03 (R170). -/
def veOps : List (Core → VeArgs → Instr) :=
  [.veMov, .veAdd, .veSub, .veMul, .veFma, .veFms, .veDiv, .veSqrt, .veRsqrt, .veRcp, .veMax, .veMin, .veAbs, .veNeg, .veSign,
   .veSel, .veCmplt, .veCmple, .veCmpeq, .veClamp, .veCvt]
def fopOps : List (Core → FopArgs → Instr) :=
  [.fopMov, .fopAdd, .fopSub, .fopMul, .fopFma, .fopFms, .fopDiv, .fopSqrt, .fopRsqrt, .fopRcp, .fopMax, .fopMin, .fopAbs, .fopNeg,
   .fopSign, .fopSel, .fopCmplt, .fopCmple, .fopCmpeq, .fopClamp, .fopCvt]
/-- The VC operations by code from 0x12, and the functions of VI, VMOV, PR, XR and XI by code (R171). -/
def vcOps : List (Core → VcArgs → Instr) := [.test, .vcCmplt, .vcCmple, .vcCmpeq]
def viOps : List (Core → ViArgs → Instr) :=
  [.iadd, .isub, .imul, .iand, .ior, .ixor, .ishl, .ishr, .isra, .iminu, .imaxu, .f2i, .i2f, .iidx]
def vmovOps : List (Core → VmovArgs → Instr) := [.vbcast, .vbcastx, .vext, .vins, .vmovr, .vperm]
def prOps : List (Core → PrArgs → Instr) :=
  [.pand, .por, .pxor, .pandn, .pnot, .pset, .pclr, .pcount, .ptox, .pfromx, .pfirst, .plt]
def xrOps : List (Core → XrArgs → Instr) :=
  [.xrAdd, .xrSub, .xrMul, .mulhu, .divu, .remu, .xrAnd, .xrOr, .xrXor, .sll, .srl, .sra, .slt, .sltu, .minu, .maxu]
def xiOps : List (Core → XiArgs → Instr) := [.addi, .andi, .ori, .xori, .slti, .sltiu, .slli, .srli, .srai]
def fmvOps : List (Core → BitVec 5 → BitVec 5 → Instr) := [.fmvxf, .fmvfx, .fcvtxf, .fcvtfx]

/-- The command of a valid word on a core; none for a word that R176 calls invalid. -/
def vectorInstr (c : Core) (w : U32) : Option Instr :=
  let b := bitsOf w
  let pick {α : Type} (ops : List (Core → α → Instr)) (code : Nat) (a : α) : Option Instr := (ops[code]?).map (fun f => f c a)
  if wordOk w then
    match b 26 6 with
    | 0x00 => if b 0 6 = 0 then some (.sysNop c) else if b 0 6 = 1 then some (.endOp c (fld5 w 21)) else some (.faultOp c (fld5 w 21))
    | 0x01 => if b 6 5 = 0 then some (.veNop c (veArgs w)) else pick veOps (b 6 5 - 3) (veArgs w)
    | 0x02 => pick vcOps (b 6 5 - 0x12) (vcArgs w)
    | 0x03 => pick viOps (b 6 5) (viArgs w)
    | 0x04 => some (if b 6 5 = 4 then .vredAdd c (vredArgs w) else if b 6 5 = 0xD then .vredMax c (vredArgs w) else .vredMin c (vredArgs w))
    | 0x05 => pick vmovOps (b 6 5) (vmovArgs w)
    | 0x06 => pick prOps (b 0 6) (prArgs w)
    | 0x08 => pick xrOps (b 5 6) (xrArgs w)
    | 0x09 => pick xiOps (b 12 4) (xiArgs w)
    | 0x0A => some (.lui c (fld5 w 21) (w.extractLsb' 0 21))
    | 0x0C => some (.br c (fld5 w 21) (fld5 w 16) (fld3 w 13) (w.extractLsb' 0 13))
    | 0x0D => some (.jal c (fld5 w 21) (w.extractLsb' 0 21))
    | 0x0E => some (.jalr c (fld5 w 21) (fld5 w 16))
    | 0x0F => some (.bp c (fld3 w 23) (w.extractLsb' 21 2) (w.extractLsb' 0 21))
    | 0x10 => if b 6 5 = 0 then some (.fopNop c (fopArgs w)) else pick fopOps (b 6 5 - 3) (fopArgs w)
    | 0x11 => (fmvOps[b 6 5]?).map (fun f => f c (fld5 w 21) (fld5 w 16))
    | 0x18 => some (.ldx c (lsxArgs w))
    | 0x19 => some (.stx c (lsxArgs w))
    | 0x1A => some (.ldf c (lsfArgs w))
    | 0x1B => some (.stf c (lsfArgs w))
    | 0x1C => some (.vld c (vmemArgs w))
    | 0x1D => some (.vst c (vmemArgs w))
    | 0x1E => some (.vgath c (vmemArgs w))
    | 0x1F => some (.vscat c (vmemArgs w))
    | 0x20 => some (.bldb c (fld5 w 21) (fld5 w 16) (fld5 w 11) (w.extractLsb' 7 4))
    | 0x21 => some (.bstb c (fld5 w 16) (fld5 w 11) (w.extractLsb' 7 4))
    | _ => none
  else none

end Sys2Proof.Machine
end

