-- ==== Sys2Proof/Safety.lean ====
section
/-! DEFINITION. What a safe state of the device is, in the terms the statements use: both tiers in their canonical form, a command
that completes, the parts of the state that a command may write, and what an event leaves. -/
namespace Sys2Proof.Machine
open Sys2Proof

/-- Both tiers hold memory in its canonical form: offsets rising, no zero byte listed. -/
def State.memOk (s : State) : Prop := Memory.wf s.mem.h = true ∧ Memory.wf s.mem.l = true

/-- A step that answers a next state. -/
def State.goesOn (s : State) : Prop := ∃ t, step s = .next t

/-- The command answers a next state, and that state satisfies post. -/
def Completes (c : Instr) (s : State) (post : State → Prop) : Prop := ∃ t, exec c s = .next t ∧ post t

/-- From s to t the recorder, the trace, the alarms and the interrupts take one event and nothing else of them changes (R429). -/
def Records (e : Event) (s t : State) : Prop := t.tele = (s.record e).tele ∧ t.acc = (s.record e).acc

/-- From s to t no event is recorded and no alarm raised. -/
def Quiet (s t : State) : Prop := t.tele = s.tele

/-- One byte of a tier. -/
def State.byteOf (s : State) (t : Tier) (off : Nat) : Byte := (s.raw t off 1).headD 0

/-- The parts of the state, one for each unit of the device (chapters 01 to 17). -/
inductive Part where
  | time | chk | fence | red | upd | vec | str | mem | links | route | part | adj | mov | job | det | health | tele | acc |
  boot | pwr | exer | freeCtr
deriving DecidableEq, Repr

/-- Two states agree on a part. -/
def Part.same (s t : State) : Part → Prop
  | .time => t.time = s.time
  | .chk => t.chk = s.chk
  | .fence => t.fence = s.fence
  | .red => t.red = s.red
  | .upd => t.upd = s.upd
  | .vec => t.vec = s.vec
  | .str => t.str = s.str
  | .mem => t.mem = s.mem
  | .links => t.links = s.links
  | .route => t.route = s.route
  | .part => t.part = s.part
  | .adj => t.adj = s.adj
  | .mov => t.mov = s.mov
  | .job => t.job = s.job
  | .det => t.det = s.det
  | .health => t.health = s.health
  | .tele => t.tele = s.tele
  | .acc => t.acc = s.acc
  | .boot => t.boot = s.boot
  | .pwr => t.pwr = s.pwr
  | .exer => t.exer = s.exer
  | .freeCtr => t.freeCtr = s.freeCtr

/-- The parts that a command may write. Every command may also leave them as they are. -/
def partsOf : Instr → List Part
  | .powerOn .. | .bootWatchdogExpiry | .sysRstNFall | .wrstNFall .. | .resetActionWarm .. | .resetActionCold | .railFault ..
  | .objTunnelReceive .. | .objectRead .. | .objectWrite .. | .objectSwrite .. | .registerWrite .. | .ringProduceWrite ..
  | .ringConsumeWrite .. | .imageActivate .. | .resetRelease .. =>
    [.time, .chk, .fence, .red, .upd, .vec, .str, .mem, .links, .route, .part, .adj, .mov, .job, .det, .health, .tele, .acc,
    .boot, .pwr, .exer, .freeCtr]
  | .bootLate .. | .recorderUnfreeze | .freezeTimeout | .recorderClear .. | .snapshotWritten =>
    [.tele, .acc]
  | .powerLoss =>
    [.chk, .red, .upd, .mem, .links, .route, .adj, .job, .health, .tele, .acc, .pwr, .freeCtr]
  | .sysclkLost | .thermalSample .. =>
    [.job, .tele, .acc, .pwr]
  | .ledgerReconcile .. =>
    [.job, .tele, .acc, .pwr, .freeCtr]
  | .reservoirFault .. =>
    [.tele, .acc, .pwr, .freeCtr]
  | .hostLinkReset | .imageStage .. | .keyListWrite .. | .policyStage .. | .policyRemoval .. =>
    [.tele, .acc, .boot]
  | .stepSizeWrite .. | .scalarReduceReceive .. =>
    [.chk, .fence, .red, .upd, .str, .mem, .links, .route, .part, .adj, .job, .health, .tele, .acc, .pwr]
  | .stepSizeLate .. | .programSlotWrite .. =>
    [.upd, .tele, .acc]
  | .stepFenceWrite .. | .heldSecondPass .. | .windowDispatch .. | .pipeParity .. =>
    [.chk, .fence, .upd, .str, .mem, .links, .route, .part, .adj, .health, .tele, .acc, .pwr]
  | .fenceTimeout | .markSend .. =>
    [.chk, .fence, .upd, .str, .mem, .links, .route, .adj, .tele, .acc]
  | .sealStep | .pieceArrival .. | .windowUnpark .. | .weightBlockSend .. | .weightAckTimeout .. | .weightResendReqReceive ..
  | .weightRelay .. | .remoteWrite .. | .remoteRead .. | .pullReqReceive .. | .pieceResendReqReceive .. | .retentionResend ..
  | .relayRetry .. =>
    [.chk, .fence, .red, .upd, .str, .mem, .links, .route, .part, .adj, .job, .health, .tele, .acc, .pwr, .freeCtr]
  | .stepSealedReceive .. | .jobCommitReceive .. =>
    [.fence, .red, .upd, .str, .links, .route, .job, .tele, .acc]
  | .stepFailedReceive .. | .forwardAfterWait .. | .transitExpired | .agentNoResend .. | .circuitPrepare ..
  | .circuitSwitched .. | .circuitRelease .. | .circuitDrained .. | .circuitDrainTimeout .. | .alarmHoldResend =>
    [.links, .route, .tele, .acc]
  | .stepOpenSend | .treeBlockAckReceive .. =>
    [.red, .links, .route, .tele, .acc]
  | .anchorLate .. | .slotConfigWrite .. | .treeTableWrite .. =>
    [.red, .tele, .acc]
  | .anchorResendReqReceive .. =>
    [.chk, .fence, .red, .upd, .mem, .links, .route, .part, .adj, .health, .tele, .acc, .pwr]
  | .scalarFenceWrite .. | .scalarSendUp .. | .verdictReceive .. =>
    [.chk, .fence, .red, .upd, .str, .mem, .links, .route, .part, .adj, .health, .tele, .acc, .pwr]
  | .windowWriteback .. =>
    [.chk, .fence, .upd, .str, .mem, .links, .route, .part, .adj, .job, .health, .tele, .acc, .pwr, .freeCtr]
  | .haltReleaseWrite .. =>
    [.upd]
  | .maskStageWrite .. | .digestTimeout .. =>
    [.upd, .links, .route, .part, .tele, .acc]
  | .tensorTableWrite .. =>
    [.upd, .part, .adj, .tele, .acc]
  | .invocationDispatch .. =>
    [.chk, .upd, .vec, .mem, .links, .route, .part, .adj, .health, .tele, .acc, .pwr]
  | .invocationCommit .. | .vcCheck .. =>
    [.chk, .fence, .red, .upd, .vec, .str, .mem, .links, .route, .part, .adj, .job, .health, .tele, .acc, .pwr, .freeCtr]
  | .vcBudget .. | .endOp .. | .faultOp .. | .jalr .. | .ldx .. | .ldf .. | .vld .. | .vgath .. | .bldb .. | .bstb ..
  | .bstbCopyComplete .. =>
    [.chk, .fence, .upd, .vec, .str, .mem, .links, .route, .adj, .tele, .acc]
  | .vcParity .. | .gambitDurationEnd .. | .gambitAbort .. =>
    [.upd, .vec, .health, .tele, .acc, .pwr]
  | .vcLoadComplete .. | .stx .. | .stf .. | .vst .. | .vscat .. =>
    [.chk, .fence, .upd, .vec, .str, .mem, .links, .route, .part, .adj, .health, .tele, .acc, .pwr]
  | .codeSlotWrite .. | .vectorEntryWrite .. =>
    [.vec, .tele, .acc]
  | .sysNop .. | .veNop .. | .veMov .. | .veAdd .. | .veSub .. | .veMul .. | .veFma .. | .veFms .. | .veDiv .. | .veSqrt ..
  | .veRsqrt .. | .veRcp .. | .veMax .. | .veMin .. | .veAbs .. | .veNeg .. | .veSign .. | .veSel .. | .veCmplt ..
  | .veCmple .. | .veCmpeq .. | .veClamp .. | .test .. | .vcCmplt .. | .vcCmple .. | .vcCmpeq .. | .iadd .. | .isub ..
  | .imul .. | .iand .. | .ior .. | .ixor .. | .ishl .. | .ishr .. | .isra .. | .iminu .. | .imaxu .. | .i2f .. | .iidx ..
  | .vredAdd .. | .vredMax .. | .vredMin .. | .vbcast .. | .vbcastx .. | .vext .. | .vins .. | .vmovr .. | .vperm .. | .pand ..
  | .por .. | .pxor .. | .pandn .. | .pnot .. | .pset .. | .pclr .. | .pcount .. | .ptox .. | .pfromx .. | .pfirst .. | .plt ..
  | .xrAdd .. | .xrSub .. | .xrMul .. | .mulhu .. | .divu .. | .remu .. | .xrAnd .. | .xrOr .. | .xrXor .. | .sll .. | .srl ..
  | .sra .. | .slt .. | .sltu .. | .minu .. | .maxu .. | .addi .. | .andi .. | .ori .. | .xori .. | .slti .. | .sltiu ..
  | .slli .. | .srli .. | .srai .. | .lui .. | .br .. | .jal .. | .bp .. | .fopNop .. | .fopMov .. | .fopAdd .. | .fopSub ..
  | .fopMul .. | .fopFma .. | .fopFms .. | .fopDiv .. | .fopSqrt .. | .fopRsqrt .. | .fopRcp .. | .fopMax .. | .fopMin ..
  | .fopAbs .. | .fopNeg .. | .fopSign .. | .fopSel .. | .fopCmplt .. | .fopCmple .. | .fopCmpeq .. | .fopClamp .. | .fmvxf ..
  | .fmvfx .. | .fcvtfx .. =>
    [.vec]
  | .veCvt .. | .f2i .. | .fopCvt .. | .fcvtxf .. =>
    [.chk, .vec]
  | .streamProgramTableWrite .. | .segmentTableWrite .. | .streamStall .. =>
    [.str, .tele, .acc]
  | .streamStartAction .. =>
    [.red, .str, .tele, .acc]
  | .passEnd .. =>
    [.str, .acc]
  | .weightBlockAckReceive .. =>
    [.str, .route]
  | .regionTableWrite .. =>
    [.mem, .tele, .acc]
  | .patrolScrub .. | .pageCopyAhead .. =>
    [.chk, .upd, .mem, .part, .adj, .health, .tele, .acc, .pwr]
  | .frameSend .. =>
    [.links, .route, .tele, .acc, .exer, .freeCtr]
  | .frameReceive .. | .identReceive .. =>
    [.chk, .fence, .upd, .str, .mem, .links, .route, .adj, .det, .tele, .acc, .exer]
  | .nakReceive .. =>
    [.links, .tele, .acc, .exer]
  | .nakRepeat .. | .trainingDeadlineMiss .. | .portResumeRetrain .. | .portFreshTraining .. | .portDisable .. | .portEnable ..
  | .fecLock .. =>
    [.links]
  | .nakEscalation .. =>
    [.links, .tele, .acc]
  | .linkFailed .. =>
    [.links, .route, .det, .health, .tele, .acc, .pwr]
  | .packetReceive .. =>
    [.chk, .links, .route, .det, .tele, .acc, .exer]
  | .heartbeatSend .. | .anchorsReceive .. =>
    [.links, .route, .job, .tele, .acc]
  | .heartbeatReceive .. =>
    [.links, .route, .job, .tele, .acc, .exer]
  | .agentReportReceive .. | .retireAction .. =>
    [.upd, .vec, .links, .route, .det, .health, .tele, .acc, .pwr]
  | .agentQuarantine .. =>
    [.chk, .fence, .upd, .str, .mem, .links, .route, .adj, .det, .tele, .acc]
  | .markReceive .. =>
    [.links, .route, .tele]
  | .internalMark | .recorderFreeze | .snapshot | .snapshotInterval | .pcSample .. | .traceStart | .traceStop | .traceClear
  | .alarmCoalesceExpiry .. | .alarmSend .. | .alarmAcknowledge .. =>
    [.tele]
  | .wiringMapWrite .. | .shadowBankWrite .. | .substitutionTableWrite .. =>
    [.route, .tele, .acc]
  | .bankSwitchNow | .bankSwitchPending .. =>
    [.route, .det, .tele, .acc]
  | .partnerConfigWrite .. | .pairRetry | .partnerResend .. =>
    [.links, .route, .part, .tele, .acc]
  | .pairReqReceive .. =>
    [.mem, .links, .route, .tele, .acc]
  | .pairAckReceive .. | .pairRefuseReceive .. =>
    [.route, .part, .tele, .acc]
  | .pairTimeout | .classChangeAction .. =>
    [.part, .tele, .acc]
  | .replayGReceive .. | .windowRecordReceive .. | .skipRecordReceive .. | .mirrorPReceive .. =>
    [.chk, .red, .upd, .mem, .links, .route, .part, .adj, .job, .health, .tele, .acc, .pwr]
  | .syncRecordReceive .. | .ownerDigestReceive .. =>
    [.red, .upd, .links, .route, .part, .job, .tele, .acc]
  | .dropRecordReceive .. =>
    [.red, .upd, .links, .route, .part, .tele, .acc]
  | .partnerBlockAckReceive .. =>
    [.chk, .fence, .upd, .str, .mem, .links, .route, .part, .adj, .job, .health, .tele, .acc, .pwr]
  | .replicaWindowSettle .. =>
    [.chk, .upd, .mem, .links, .route, .part, .adj, .job, .health, .tele, .acc, .pwr, .freeCtr]
  | .replicaDigestReceive .. =>
    [.chk, .fence, .red, .upd, .str, .mem, .links, .route, .part, .adj, .tele, .acc]
  | .adjournmentConfigWrite .. =>
    [.adj, .tele, .acc]
  | .copyStart =>
    [.adj, .mov, .tele, .acc]
  | .copyEnd | .moverReadComplete .. =>
    [.chk, .upd, .mem, .links, .route, .part, .adj, .mov, .health, .tele, .acc, .pwr]
  | .chunkStart =>
    [.chk, .red, .upd, .mem, .links, .route, .part, .adj, .job, .health, .tele, .acc, .pwr, .freeCtr]
  | .chunkProgrammed .. =>
    [.red, .upd, .links, .route, .adj, .job, .health, .tele, .acc, .pwr, .freeCtr]
  | .storePartSend | .storePartRefusalReceive .. | .storePartTimeout .. | .storeCommitResponse .. =>
    [.links, .route, .adj, .tele, .acc, .freeCtr]
  | .storePartAckReceive .. | .drainFenceAction .. | .drainFenceReceive .. | .drainFenceTimeout =>
    [.links, .route, .adj, .tele, .acc]
  | .storeAttemptRetry =>
    [.adj]
  | .storeGetResponse .. | .openingRestore .. | .openingInstallCmd .. | .surveyReceive .. | .installReceive .. =>
    [.chk, .fence, .red, .upd, .vec, .str, .mem, .links, .route, .part, .adj, .job, .health, .tele, .acc, .pwr, .exer, .freeCtr]
  | .moverStart .. | .moverAbort .. | .moverResume .. | .moverTimerTick .. | .moverPassEnd .. | .moverRemoteTimeout ..
  | .groupStart .. | .groupRetry .. | .groupAbort .. =>
    [.links, .route, .mov, .tele, .acc]
  | .moverPause .. =>
    [.mov]
  | .moverReconcile | .openingTreeWrite .. | .isolationTimeout =>
    [.job, .tele, .acc]
  | .jobClaim .. =>
    [.fence, .route, .part, .job, .det, .tele, .acc]
  | .openingFresh .. | .openingResend .. | .prepareReceive .. | .installComplete | .commitReceive .. | .openingAckReceive ..
  | .streamCheckReceive .. | .reachReceive .. | .reachTimeout | .pullDoneReceive .. | .pullTimeout .. =>
    [.chk, .fence, .red, .upd, .str, .mem, .links, .route, .part, .adj, .job, .health, .tele, .acc, .pwr, .exer, .freeCtr]
  | .openingAbandonCmd .. | .abandonReceive .. =>
    [.chk, .fence, .red, .upd, .vec, .str, .mem, .links, .route, .part, .adj, .mov, .job, .health, .tele, .acc, .pwr, .exer,
    .freeCtr]
  | .openingChildMissing .. =>
    [.chk, .fence, .red, .upd, .str, .mem, .links, .route, .part, .adj, .job, .det, .health, .tele, .acc, .pwr, .exer, .freeCtr]
  | .resignationAction .. =>
    [.chk, .fence, .red, .upd, .vec, .str, .mem, .links, .route, .part, .adj, .mov, .job, .health, .tele, .acc, .pwr, .freeCtr]
  | .resignScrubComplete .. =>
    [.fence, .red, .upd, .vec, .str, .mem, .links, .route, .part, .adj, .job, .det, .health, .tele, .acc, .pwr, .freeCtr]
  | .watchdogFeed .. =>
    [.det]
  | .suspicionTimeout .. | .agentSilenceTimeout .. =>
    [.links, .route, .det, .tele, .acc]
  | .suspectReceive .. | .probeAnswer .. | .probeTimeout .. | .declareReceive .. | .evictionAction .. =>
    [.links, .route, .part, .job, .det, .tele, .acc]
  | .epochFenceAction .. | .epochInstallReceive .. =>
    [.chk, .fence, .red, .upd, .vec, .str, .mem, .links, .route, .part, .adj, .job, .det, .health, .tele, .acc, .pwr, .exer,
    .freeCtr]
  | .installedReceive .. =>
    [.links, .route, .job, .det, .tele, .acc, .exer]
  | .clearHistory .. =>
    [.health, .tele, .acc, .pwr, .freeCtr]
  | .gambitAction .. | .retestStart .. =>
    [.upd, .vec, .links, .route, .health, .tele, .acc, .pwr]
  | .gambitTempStable .. =>
    [.health, .tele, .acc, .pwr]
  | .gambitRampDone =>
    [.health, .pwr]
  | .gambitReplyTimeout =>
    [.upd, .vec, .health, .tele, .acc, .pwr, .exer]
  | .ppsEdge .. | .accAlertNoReport .. =>
    [.tele, .pwr]
  | .sessionTimeout .. | .bar2Write | .interruptAck .. | .duplicateRetentionExpiry .. =>
    [.acc]
  | .configSave .. | .configSaveComplete | .powerAverageTick .. | .ceilingWrite .. | .outputOvercurrent ..
  | .accAlert .. | .accTherm .. | .reservoirCharged .. =>
    [.tele, .acc, .pwr]
  | .attestationRequest .. =>
    [.boot, .freeCtr]
  | .outputRelease .. | .accResetReleaseWrite .. | .accPwrgdRise .. =>
    [.pwr]
  | .accPwrgdFall .. =>
    [.links, .route, .det, .tele, .acc, .pwr]
  | .exerciserEnter =>
    [.links, .job, .tele, .acc, .exer]
  | .exerciserLeave =>
    [.links, .job, .health, .tele, .acc, .pwr, .exer]
  | .exerciserRunStart | .exerciserRunStop | .runLengthExpiry | .injectionAction .. | .reactionDeadline .. | .expectTimeout
  | .scriptEnd | .heartbeatLate .. | .markLate .. | .replayLate .. =>
    [.tele, .acc, .exer]
  | .scriptEpoch | .scriptStepOpen | .scriptStream | .scriptResend | .scriptFail | .scriptGambit =>
    [.links, .route, .tele, .exer]
  | .scriptExpect | .scriptAckPolicy =>
    [.exer]
  | .imageSlotWritten =>
    [.boot]

end Sys2Proof.Machine
end

