-- ==== Sys2Proof/WellFormed.lean ====
section
/-! DEFINITION. Which commands are well formed: an instruction word with the fields R169 to R173 allow, a received packet of the
opcode, fence kind, role or phase that its command names (R248, R251, R309, R365, R396), a block with at most 4,096 payload
bytes (R36). The meanings are total; a command that is not well formed is one no sender of the manual makes. -/
namespace Sys2Proof

/-- A transaction of an opcode, with a body of whole cells, at most 65 (R247, R248). -/
def Trans.isOp (t : Trans) (op : U8) : Bool := t.op == op && t.body.length % 64 == 0 && decide (t.body.length ≤ 4160)
/-- A FENCE of a kind (R251). -/
def Trans.isFence (t : Trans) (kind : U8) : Bool := t.isOp 8 && t.a8 0 == kind
/-- A BLOCK_ACK or RESEND_REQ that names an opcode (R248). -/
def Trans.isAck (t : Trans) (op named : U8) : Bool := t.isOp op && t.a8 10 == named
/-- A DIGEST of a role (R309, chapter 13). -/
def Trans.isDigest (t : Trans) (role : U8) : Bool := t.isOp 0x0D && t.a8 4 == role
/-- A block as the links carry it (R36). -/
def Block.wf (b : Block) : Bool := decide (b.payload.length ≤ 4096)

/-- The fields of source b that a one-operand operation leaves zero (R169). -/
def VeArgs.unused (a : VeArgs) : Bool := a.vb == 0 && !a.s && !a.negb
def FopArgs.unused (a : FopArgs) : Bool := a.fb == 0 && !a.negb
/-- The targets of CVT from FP32 (R115, R170). -/
def cvtTarget32 (n : Nat) : Bool := [3, 4, 5, 6, 0xB, 0xC].contains n
/-- The targets of CVT from FP64 (R171). -/
def cvtTarget64 (n : Nat) : Bool := [2, 3, 4, 5, 6, 0xB, 0xC].contains n
/-- The formats of vector accesses (R173). -/
def vmemFormat (n : Nat) : Bool := [2, 3, 4, 5, 6, 0xA, 0xB].contains n

/-- A command is well formed. -/
def Instr.wellFormed (i : Instr) : Bool :=
  match i with
  | .powerOn _ => true
  | .bootLate step => decide (1 ≤ step.toNat) && decide (step.toNat ≤ 8)
  | .bootWatchdogExpiry => true
  | .sysRstNFall => true
  | .wrstNFall _ => true
  | .resetActionWarm _ => true
  | .resetActionCold => true
  | .powerLoss => true
  | .railFault _ _ => true
  | .sysclkLost => true
  | .hostLinkReset => true
  | .stepSizeWrite _ => true
  | .stepSizeLate _ => true
  | .stepFenceWrite _ => true
  | .fenceTimeout => true
  | .sealStep => true
  | .stepSealedReceive _ pk => pk.isFence 2
  | .stepFailedReceive _ pk => pk.isFence 3
  | .jobCommitReceive _ pk => pk.isFence 4
  | .stepOpenSend => true
  | .anchorLate _ => true
  | .pieceArrival _ blk => blk.wf && (blk.hdr.typ == 0 || blk.hdr.typ == 1)
  | .windowUnpark _ _ _ => true
  | .anchorResendReqReceive _ pk => pk.isAck 6 4 && pk.a8 11 == 2
  | .treeBlockAckReceive _ pk => pk.isAck 5 4
  | .scalarFenceWrite _ => true
  | .scalarSendUp slot => decide (slot.toNat < 16)
  | .scalarReduceReceive _ pk => pk.isOp 0x0A
  | .slotConfigWrite _ => true
  | .treeTableWrite _ => true
  | .heldSecondPass _ _ => true
  | .windowDispatch _ _ _ => true
  | .windowWriteback _ => true
  | .pipeParity _ _ => true
  | .haltReleaseWrite _ => true
  | .maskStageWrite _ => true
  | .programSlotWrite _ _ => true
  | .tensorTableWrite _ => true
  | .invocationDispatch _ _ => true
  | .invocationCommit _ => true
  | .vcBudget _ => true
  | .vcParity _ _ => true
  | .vcCheck _ => true
  | .vcLoadComplete _ => true
  | .codeSlotWrite _ _ => true
  | .vectorEntryWrite _ => true
  | .sysNop _ => true
  | .endOp _ _ => true
  | .faultOp _ _ => true
  | .veNop _ a => a.unused && a.vd == 0 && a.va == 0 && a.pg == 0 && !a.absa
  | .veMov _ a => a.unused
  | .veAdd _ _ => true
  | .veSub _ _ => true
  | .veMul _ _ => true
  | .veFma _ _ => true
  | .veFms _ _ => true
  | .veDiv _ _ => true
  | .veSqrt _ a => a.unused
  | .veRsqrt _ a => a.unused
  | .veRcp _ a => a.unused
  | .veMax _ _ => true
  | .veMin _ _ => true
  | .veAbs _ a => a.unused
  | .veNeg _ a => a.unused
  | .veSign _ a => a.unused
  | .veSel _ _ => true
  | .veCmplt _ _ => true
  | .veCmple _ _ => true
  | .veCmpeq _ _ => true
  | .veClamp _ _ => true
  | .veCvt _ a => cvtTarget32 a.vb.toNat && !a.s && !a.negb
  | .test _ a => a.vb == 0 && !a.s && !a.negb
  | .vcCmplt _ _ => true
  | .vcCmple _ _ => true
  | .vcCmpeq _ _ => true
  | .iadd _ _ => true
  | .isub _ _ => true
  | .imul _ _ => true
  | .iand _ _ => true
  | .ior _ _ => true
  | .ixor _ _ => true
  | .ishl _ _ => true
  | .ishr _ _ => true
  | .isra _ _ => true
  | .iminu _ _ => true
  | .imaxu _ _ => true
  | .f2i _ a => a.vb == 0 && !a.s
  | .i2f _ a => a.vb == 0 && !a.s
  | .iidx _ a => a.va == 0 && a.vb == 0 && !a.s
  | .vredAdd _ _ => true
  | .vredMax _ _ => true
  | .vredMin _ _ => true
  | .vbcast _ a => a.b == 0
  | .vbcastx _ a => a.b == 0
  | .vext _ a => a.pg == 0
  | .vins _ a => a.pg == 0
  | .vmovr _ a => a.b == 0
  | .vperm _ _ => true
  | .pand _ a => a.x == 0
  | .por _ a => a.x == 0
  | .pxor _ a => a.x == 0
  | .pandn _ a => a.x == 0
  | .pnot _ a => a.x == 0 && a.pb == 0
  | .pset _ a => a.x == 0 && a.pa == 0 && a.pb == 0
  | .pclr _ a => a.x == 0 && a.pa == 0 && a.pb == 0
  | .pcount _ a => a.pd == 0 && a.pb == 0
  | .ptox _ a => a.pd == 0 && a.pb == 0
  | .pfromx _ a => a.pa == 0 && a.pb == 0
  | .pfirst _ a => a.pd == 0 && a.pb == 0
  | .plt _ a => a.pa == 0 && a.pb == 0
  | .xrAdd _ _ => true
  | .xrSub _ _ => true
  | .xrMul _ _ => true
  | .mulhu _ _ => true
  | .divu _ _ => true
  | .remu _ _ => true
  | .xrAnd _ _ => true
  | .xrOr _ _ => true
  | .xrXor _ _ => true
  | .sll _ _ => true
  | .srl _ _ => true
  | .sra _ _ => true
  | .slt _ _ => true
  | .sltu _ _ => true
  | .minu _ _ => true
  | .maxu _ _ => true
  | .addi _ _ => true
  | .andi _ _ => true
  | .ori _ _ => true
  | .xori _ _ => true
  | .slti _ _ => true
  | .sltiu _ _ => true
  | .slli _ a => decide (a.imm.toNat < 64)
  | .srli _ a => decide (a.imm.toNat < 64)
  | .srai _ a => decide (a.imm.toNat < 64)
  | .lui _ _ _ => true
  | .br _ _ _ cond _ => decide (cond.toNat ≤ 5)
  | .jal _ _ _ => true
  | .jalr _ _ _ => true
  | .bp _ _ _ _ => true
  | .fopNop _ a => a.unused && a.fd == 0 && a.fa == 0 && !a.w && !a.absa
  | .fopMov _ a => a.unused
  | .fopAdd _ _ => true
  | .fopSub _ _ => true
  | .fopMul _ _ => true
  | .fopFma _ _ => true
  | .fopFms _ _ => true
  | .fopDiv _ _ => true
  | .fopSqrt _ a => a.unused
  | .fopRsqrt _ a => a.unused && !a.w
  | .fopRcp _ a => a.unused && !a.w
  | .fopMax _ _ => true
  | .fopMin _ _ => true
  | .fopAbs _ a => a.unused
  | .fopNeg _ a => a.unused
  | .fopSign _ a => a.unused
  | .fopSel _ _ => true
  | .fopCmplt _ _ => true
  | .fopCmple _ _ => true
  | .fopCmpeq _ _ => true
  | .fopClamp _ _ => true
  | .fopCvt _ a => (if a.w then cvtTarget64 a.fb.toNat else cvtTarget32 a.fb.toNat || a.fb.toNat == 1) && !a.negb
  | .fmvxf _ _ _ => true
  | .fmvfx _ _ _ => true
  | .fcvtxf _ _ _ => true
  | .fcvtfx _ _ _ => true
  | .ldx _ a => decide (a.size.toNat ≤ 6)
  | .stx _ a => decide (a.size.toNat ≤ 3)
  | .ldf _ _ => true
  | .stf _ _ => true
  | .vld _ a => vmemFormat a.fmt.toNat
  | .vst _ a => vmemFormat a.fmt.toNat
  | .vgath _ a => vmemFormat a.fmt.toNat
  | .vscat _ a => vmemFormat a.fmt.toNat
  | .bldb _ _ _ _ sel => decide (sel.toNat ≤ 6)
  | .bstb _ _ _ sel => decide (sel.toNat ≤ 6)
  | .streamProgramTableWrite _ => true
  | .segmentTableWrite _ => true
  | .streamStartAction _ => true
  | .passEnd _ _ => true
  | .weightBlockSend _ _ => true
  | .streamStall _ _ _ => true
  | .weightAckTimeout _ _ _ _ _ => true
  | .weightBlockAckReceive _ pk => pk.isAck 5 7
  | .weightResendReqReceive _ pk => pk.isAck 6 7
  | .weightRelay _ blk => blk.wf && blk.hdr.typ == 5
  | .remoteWrite _ pk => pk.isOp 1
  | .remoteRead _ pk => pk.isOp 2
  | .regionTableWrite _ => true
  | .patrolScrub _ _ => true
  | .frameSend _ => true
  | .frameReceive _ _ => true
  | .nakReceive _ _ => true
  | .nakRepeat _ => true
  | .nakEscalation _ => true
  | .linkFailed _ => true
  | .packetReceive _ _ _ => true
  | .forwardAfterWait _ => true
  | .transitExpired => true
  | .heartbeatSend _ => true
  | .heartbeatReceive _ pk => pk.isOp 9
  | .identReceive _ pk => pk.isOp 0x13
  | .trainingDeadlineMiss _ => true
  | .portResumeRetrain _ => true
  | .portFreshTraining _ => true
  | .portDisable _ => true
  | .portEnable _ => true
  | .agentReportReceive _ pk => pk.isFence 9
  | .agentNoResend _ _ _ => true
  | .agentQuarantine _ => true
  | .markReceive _ pk => pk.isOp 0x0E
  | .internalMark => true
  | .objTunnelReceive _ pk => pk.isOp 0x12
  | .wiringMapWrite _ => true
  | .shadowBankWrite _ => true
  | .bankSwitchNow => true
  | .bankSwitchPending _ => true
  | .substitutionTableWrite _ => true
  | .circuitPrepare _ _ => true
  | .circuitSwitched _ _ => true
  | .circuitRelease _ _ => true
  | .circuitDrained _ => true
  | .circuitDrainTimeout _ => true
  | .partnerConfigWrite _ _ => true
  | .pairReqReceive _ pk => pk.isDigest 3
  | .pairAckReceive _ pk => pk.isDigest 4
  | .pairRefuseReceive _ pk => pk.isDigest 5
  | .pairTimeout => true
  | .pairRetry => true
  | .classChangeAction _ => true
  | .replayGReceive _ blk => blk.wf && blk.hdr.typ == 1
  | .windowRecordReceive _ pk => pk.isOp 0x0B
  | .skipRecordReceive _ pk => pk.isOp 0x0B
  | .syncRecordReceive _ pk => pk.isOp 0x0B
  | .dropRecordReceive _ pk => pk.isOp 0x0B
  | .verdictReceive _ pk => pk.isOp 0x0B
  | .mirrorPReceive _ blk => blk.wf && blk.hdr.typ == 4
  | .partnerBlockAckReceive _ pk => (pk.isAck 5 0x0B || pk.isAck 5 0x0C || pk.isAck 5 0x0D)
  | .partnerResend _ => true
  | .replicaWindowSettle _ _ => true
  | .ownerDigestReceive _ pk => pk.isDigest 1
  | .digestTimeout _ => true
  | .replicaDigestReceive _ pk => pk.isDigest 2
  | .adjournmentConfigWrite _ _ => true
  | .copyStart => true
  | .pageCopyAhead _ => true
  | .copyEnd => true
  | .chunkStart => true
  | .chunkProgrammed _ => true
  | .storePartSend => true
  | .storePartAckReceive _ pk => pk.isOp 0x0F
  | .storePartRefusalReceive _ pk => pk.isOp 0x0F
  | .storePartTimeout _ => true
  | .storeCommitResponse _ pk => pk.isOp 0x11
  | .storeAttemptRetry => true
  | .storeGetResponse _ pk => pk.isOp 0x10
  | .drainFenceAction _ => true
  | .drainFenceReceive _ pk => pk.isFence 6
  | .drainFenceTimeout => true
  | .moverStart _ => true
  | .moverAbort _ => true
  | .moverPause _ => true
  | .moverResume _ => true
  | .moverTimerTick _ => true
  | .moverReadComplete _ _ => true
  | .moverPassEnd _ => true
  | .moverRemoteTimeout _ => true
  | .groupStart _ => true
  | .groupRetry _ => true
  | .groupAbort _ => true
  | .moverReconcile => true
  | .jobClaim _ => true
  | .openingTreeWrite _ => true
  | .openingFresh _ => true
  | .openingRestore _ => true
  | .openingResend _ => true
  | .openingInstallCmd _ _ => true
  | .openingAbandonCmd _ => true
  | .anchorsReceive _ pk => pk.isFence 7 && pk.a8 1 == 6
  | .prepareReceive _ pk => pk.isFence 7 && pk.a8 1 == 1
  | .surveyReceive _ pk => pk.isFence 7 && pk.a8 1 == 2
  | .installReceive _ pk => pk.isFence 7 && pk.a8 1 == 3
  | .installComplete => true
  | .commitReceive _ pk => pk.isFence 7 && pk.a8 1 == 4
  | .abandonReceive _ pk => pk.isFence 7 && pk.a8 1 == 5
  | .openingAckReceive _ pk => pk.isFence 8
  | .openingChildMissing _ => true
  | .streamCheckReceive _ pk => pk.isDigest 9
  | .reachReceive _ pk => pk.isDigest 8
  | .reachTimeout => true
  | .pullReqReceive _ pk => pk.isDigest 6
  | .pullDoneReceive _ pk => pk.isDigest 7
  | .pullTimeout _ _ => true
  | .resignationAction _ => true
  | .resignScrubComplete _ => true
  | .watchdogFeed _ => true
  | .suspicionTimeout _ => true
  | .suspectReceive _ pk => pk.isFence 5 && pk.a8 1 == 1
  | .probeAnswer _ _ => true
  | .probeTimeout _ => true
  | .declareReceive _ pk => pk.isFence 5 && pk.a8 1 == 2
  | .isolationTimeout => true
  | .agentSilenceTimeout _ => true
  | .evictionAction _ _ _ => true
  | .epochFenceAction _ => true
  | .epochInstallReceive _ pk => pk.isFence 5 && pk.a8 1 == 3
  | .installedReceive _ pk => pk.isFence 5 && pk.a8 1 == 4
  | .retireAction _ => true
  | .clearHistory _ => true
  | .gambitAction _ => true
  | .gambitTempStable _ => true
  | .gambitRampDone => true
  | .gambitDurationEnd _ => true
  | .gambitAbort _ => true
  | .gambitReplyTimeout => true
  | .retestStart _ => true
  | .recorderFreeze => true
  | .recorderUnfreeze => true
  | .freezeTimeout => true
  | .recorderClear _ _ => true
  | .snapshot => true
  | .snapshotInterval => true
  | .pcSample _ _ _ _ => true
  | .traceStart => true
  | .traceStop => true
  | .traceClear => true
  | .ppsEdge _ => true
  | .alarmCoalesceExpiry _ => true
  | .alarmSend _ => true
  | .alarmHoldResend => true
  | .alarmAcknowledge _ => true
  | .objectRead _ _ => true
  | .objectWrite _ _ => true
  | .objectSwrite _ _ => true
  | .sessionTimeout _ => true
  | .registerWrite _ _ _ _ => true
  | .bar2Write => true
  | .ringProduceWrite _ => true
  | .ringConsumeWrite _ => true
  | .interruptAck _ => true
  | .configSave _ => true
  | .configSaveComplete => true
  | .imageStage _ => true
  | .imageActivate _ => true
  | .keyListWrite _ _ => true
  | .attestationRequest _ => true
  | .policyStage _ => true
  | .policyRemoval _ => true
  | .powerAverageTick _ => true
  | .thermalSample _ => true
  | .reservoirFault _ _ => true
  | .ledgerReconcile _ => true
  | .ceilingWrite _ _ => true
  | .outputOvercurrent _ => true
  | .outputRelease _ => true
  | .accResetReleaseWrite _ => true
  | .accPwrgdFall _ => true
  | .accAlert _ => true
  | .accAlertNoReport _ => true
  | .accTherm _ => true
  | .exerciserEnter => true
  | .exerciserLeave => true
  | .exerciserRunStart => true
  | .exerciserRunStop => true
  | .runLengthExpiry => true
  | .injectionAction _ => true
  | .reactionDeadline _ _ => true
  | .scriptEpoch => true
  | .scriptStepOpen => true
  | .scriptStream => true
  | .scriptExpect => true
  | .expectTimeout => true
  | .scriptAckPolicy => true
  | .scriptResend => true
  | .scriptFail => true
  | .scriptGambit => true
  | .scriptEnd => true
  | .resetRelease _ => true
  | .fecLock _ => true
  | .markSend _ => true
  | .pieceResendReqReceive _ pk => pk.isAck 6 4
  | .retentionResend _ _ => true
  | .relayRetry _ _ _ _ _ => true
  | .bstbCopyComplete _ => true
  | .snapshotWritten => true
  | .imageSlotWritten => true
  | .duplicateRetentionExpiry _ _ => true
  | .reservoirCharged _ => true
  | .accPwrgdRise _ => true
  | .heartbeatLate _ => true
  | .markLate _ => true
  | .replayLate _ => true

end Sys2Proof
end

