-- ==== Sys2Proof/Certificates/Slice0/Obligations.lean ====
section
/-! DEFINITION. The statements about the model, each a proposition over every state and operand; their helpers come first. -/
namespace Sys2Proof.Statements
open Sys2Proof Sys2Proof.Machine

/-- The checks of R84 before the window, all passed: step, anchors installed, shard and child of the tree table. -/
def PieceReaches (s : State) (b : Block) (r : TreeRec) (slot : Nat) : Prop :=
  b.hdr.step.toNat ≤ s.fence.cur.toNat + 1 ∧ s.afterFailed b.hdr.step = false ∧
  b.hdr.step.toNat > s.fence.sealedStep.toNat ∧ b.hdr.step.toNat ≤ s.red.anchorStep.toNat ∧
  s.treeOf b.hdr.ts = some r ∧ r.children.findIdx? (· == b.hdr.contrib) = some slot

/-- The elements of a piece that R84 compares with the anchor. -/
def pieceValues (b : Block) : List Fv :=
  if b.hdr.poison || b.hdr.code == 14 || b.hdr.code == 15 then [] else unpackPlain b.hdr.code b.pay b.hdr.count.toNat

/-- The window after a piece is added (R77, R83): sums, coverage, last flag, and what its acknowledgement names. -/
def withPiece (s : State) (b : Block) (r : TreeRec) (slot : Nat) (x : Window) : Window :=
  { x with
    acc := addInts x.acc (b.hdr.winStart r) (pieceInts x.anchor b.hdr b.pay)
    masks := x.masks.modify slot (fun m => m ||| b.hdr.granules r)
    lastFrom := if b.hdr.last then x.lastFrom ++ [b.hdr.contrib] else x.lastFrom
    taken := x.taken + b.hdr.count.toNat
    pieces := x.pieces ++ [(b.hdr.contrib, b.hdr.blk, BitVec.ofNat 8 b.hdr.code, b.hdr.typ)]
    arrived := s.red.arrivals + 1 }

/-- The state after a window's blocks are written, before its counts (R141). -/
def blocksWritten (s : State) (p : Pipe) (e : TensorEntry) (x : PipeWin) (ws : List BlkWrite) : State :=
  (ws.foldl (fun s b => s.commitWrite e x.win.step x.win.w b)
    (s.setPipe p (fun q => { q with queue := q.queue.erase x }))).touchDone (ws.map (·.off))

/-- A core that issues an instruction which names these registers: an invocation runs, no END waits, none of the registers waits for an
outstanding load (R174, R175). -/
def Issues (s : State) (c : Core) (rs : List RegRef) : Prop := (s.core c).issues rs = true

/-- The counters of a core with one more instruction issued (OD 2730.01 + c, R180). -/
def countsOf (s : State) (c : Core) : Vector U64 8 := (s.core c).counters.set 0 (bump (s.core c).counters[0])

/-- The state in which the core has the registers k and has gone on by one instruction; nothing else of the state changes. -/
def goneOn (s : State) (c : Core) (k : CoreState) : State :=
  s.setCore c { k with pc := (s.core c).pc + 4, counters := countsOf s c }

/-- A vector register with new values in the lanes that the predicate guards and its old values in the others (R170). -/
def guardedLanes (k : CoreState) (vd : BitVec 5) (pg : BitVec 3) (f : Fin 32 → U32) : CoreState :=
  { k with v := k.v.set vd.toFin (Vector.ofFn fun i =>
      if (k.pr pg).getLsbD i.val then f i else (k.v[vd.toFin])[i]) }

/-- A VE instruction: f of the values a, b and of the destination's old value, rounded once to FP32, in every guarded lane (R117, R170). -/
def laneResult (s : State) (c : Core) (a : VeArgs) (f : Fv → Fv → Fv → Fv) : State :=
  let k := s.core c
  goneOn s c (guardedLanes k a.vd a.pg fun i =>
    let x := v32 (k.vr a.va)[i]
    let y := v32 (if a.s then k.fr32 a.vb else (k.vr a.vb)[i])
    r32 (f (if a.absa then x.absV else x) (if a.negb then y.negate else y) (v32 (k.vr a.vd)[i])))

/-- A FOP instruction of width 0 or 1 (R171). -/
def scalarResult (s : State) (c : Core) (a : FopArgs) (f : Fv → Fv → Fv → Fv) : State :=
  let k := s.core c
  let val (r : BitVec 5) : Fv := if a.w then v64 (k.fr r) else v32 (k.fr32 r)
  let x := val a.fa
  let y := val a.fb
  let z := f (if a.absa then x.absV else x) (if a.negb then y.negate else y) (val a.fd)
  goneOn s c { k with f := k.f.set a.fd.toFin (if a.w then r64 z else (r32 z).setWidth 64) }

/-- A VI instruction (R171). -/
def intLanes (s : State) (c : Core) (a : ViArgs) (f : U32 → U32 → U32) : State :=
  let k := s.core c
  goneOn s c (guardedLanes k a.vd a.pg fun i => f (k.vr a.va)[i] (if a.s then (k.xr a.vb).setWidth 32 else (k.vr a.vb)[i]))

/-- A VC instruction: the guarded lanes of a compare, combined into the predicate (R171). -/
def comparePredicate (s : State) (c : Core) (a : VcArgs) (f : Fv → Fv → Bool) : State :=
  let k := s.core c
  let r := maskOf fun i => (k.pr a.pg).getLsbD i.val &&
    (let x := v32 (k.vr a.va)[i]
     let y := v32 (if a.s then k.fr32 a.vb else (k.vr a.vb)[i])
     f (if a.absa then x.absV else x) (if a.negb then y.negate else y))
  goneOn s c (k.setP a.pd (match a.combine.toNat with
    | 0 => r | 1 => k.pr a.pd &&& r | 2 => k.pr a.pd ||| r | _ => k.pr a.pd &&& ~~~ r))

/-- The counters OD 6100.07 and .08 after the roundings of a list (R53). -/
def convCounted (s : State) (rs : List Rounded) : State :=
  s.countConv (rs.filter Rounded.sat).length (rs.filter Rounded.nonfin).length

/-- The state after an instruction that leaves the registers k and has made the roundings of a list: they are counted, and one that
sets the non-finite flag marks what the invocation stages from then on (R50, R53). -/
def converted (s : State) (c : Core) (k : CoreState) (rs : List Rounded) : State :=
  convCounted (goneOn s c { k with conv := (s.core c).conv || rs.any Rounded.marks }) rs

/-- The access of n bytes at each address is granted: aligned, and inside scratch or a permitted work region (R172). -/
def Granted (s : State) (c : Core) (g wr : Bool) (n : Nat) (as : List U64) : Prop :=
  ∀ a ∈ as, s.accessFault (s.core c) g wr n a = none

/-- A request that the server takes up, counted on its path (R465). -/
def obTaken (path : Path) (s : State) : State := setAcc (fun a => { a with taken := addAt a.taken (pathTaken path).val 1 }) s

/-- A datagram on plane MA before the server looks at its message (R471). -/
def obOnMa (bytes : List Byte) (s : State) : State :=
  setAcc (fun a => { a with planeUp := a.planeUp.set 0 1 }) (s.countBytes 12 (bytes.length - 16))

/-- Nothing waits in the request ring. -/
def obRingIdle (s : State) : Prop := s.acc.ringReqC = s.acc.ringReqP

/-- The position after an action of the script. -/
def obMovesOn (s t : State) : Prop := t.exer.pos = s.exer.pos + 1

/-- No sector of either tier is found wrong beyond correction when it is read. -/
def obNoneBad (s : State) : Prop := (∀ b ∈ s.mem.bad, b.2.2 ≤ 2) ∧ ∀ (t : Tier) (sec : Nat), s.uncorrectable t sec = false

end Sys2Proof.Statements
open Sys2Proof Sys2Proof.Machine Sys2Proof.Statements

/-- A step takes the command at the front of the queue and runs it with the queue's rest. -/
def Obligations.StepRunsTheFrontCommand : Prop :=
  ∀ (s : State) (c : Instr) (rest : List Instr), step { s with pending := c :: rest } = exec c { s with pending := rest }

/-- With no command waiting a step is one millisecond (the model's choice, notes/assumptions/4.md): the operating time counts,
except with the supplies absent, the token buckets refill to their depth (R452), and no command's effect happens. -/
def Obligations.EmptyQueueStepIsOneMillisecond : Prop :=
  (∀ (s : State), s.pending = [] → s.job.dev ≠ .off →
    ∃ t, step s = .next t ∧ t.time = { s.time with now := s.time.now + 1, opMs := s.time.opMs + 1 } ∧ t.pending = [] ∧
      t.mem = s.mem ∧ t.job = s.job ∧ t.fence = s.fence ∧ t.boot = s.boot ∧
      -- R259: only the FEC counters of a port move, and only where its receiver is on (notes/assumptions/80.md)
      (∀ p, t.port p = { s.port p with fecCorr := (t.port p).fecCorr, fecUncorr := (t.port p).fecUncorr }) ∧
      (∀ p, (s.port p).st ≠ .training → (s.port p).st ≠ .active → (s.port p).st ≠ .quarantine → t.port p = s.port p)) ∧
  (∀ (s : State), s.pending = [] → s.job.dev = .off → step s = .next { s with time := { s.time with now := s.time.now + 1 } }) ∧
  (∀ (q : PlaneQ) (rate depth : U16), (q.refill rate depth).tokensMilli = min (depth.toNat * 1000) (q.tokensMilli + rate.toNat))

/-- Every command answers a next state in every state, and so does every step: no command of the table stops the device. Where a
clause rests on a choice of the model and not on a rule, log entries 4, 9, 10, 13 of notes/assumptions names it. -/
def Obligations.EveryCommandCompletes : Prop :=
  (∀ (c : Instr) (s : State), ∃ t, exec c s = .next t) ∧ (∀ (s : State), s.goesOn)

/-- R217: both tiers hold memory in canonical form (offsets rising, no zero byte listed) and every step keeps it so. Where a
clause rests on a choice of the model and not on a rule, log entry 6 of notes/assumptions names it. -/
def Obligations.EveryStepKeepsTheMemoryForm : Prop :=
  ∀ (s t : State), s.memOk → step s = .next t → t.memOk

/-- A command writes the parts of the state that the table names for it and no other; the queue's rest and the identity stay. -/
def Obligations.EveryCommandStaysWithinItsParts : Prop :=
  ∀ (c : Instr) (s t : State), exec c s = .next t → t.pending = s.pending ∧ t.ident = s.ident ∧ ∀ p, p ∉ partsOf c → p.same s t

/-- R489, R490: the rollback floor, which is fuses, never falls, and no step changes the root key, the fuses or the identity.
Where a clause rests on a choice of the model and not on a rule, log entries 2, 61 of notes/assumptions names it. -/
def Obligations.RollbackFloorAndIdentityLast : Prop :=
  ∀ (s t : State), step s = .next t → s.boot.floor.toNat ≤ t.boot.floor.toNat ∧ t.ident = s.ident

/-- Reset: BOOT with nothing sealed, nothing pending, both tiers zero, and the objects at the defaults of their tables. Where a
clause rests on a choice of the model and not on a rule, log entries 1, 2 of notes/assumptions names it. -/
def Obligations.ResetShowsTheDefaults : Prop :=
  State.reset.job.dev = .boot ∧ State.reset.pending = [] ∧ State.reset.mem.h = [] ∧ State.reset.mem.l = [] ∧ State.reset.memOk ∧
  State.reset.fence.sealedStep = 0 ∧ State.reset.fence.pending = false ∧ State.reset.job.epoch = 0 ∧ State.reset.job.jt = 0 ∧
  -- OD 1020.03, 1020.04, 1020.06, 1020.07, 1040.01
  State.reset.acc.dupMs = 10000 ∧ State.reset.acc.port = 47400 ∧ State.reset.acc.sessMs = 5000 ∧ State.reset.acc.tunnelWrites = 0 ∧
  State.reset.acc.irqMap = [0, 1, 2, 3, 4, 5, 6, 7] ∧
  -- OD 4000.04 and 4000.08
  State.reset.det.quorum = 2 ∧ State.reset.det.agentAction = 0 ∧
  -- OD 7000.06, 6400.01, 6500.01
  State.reset.tele.repeatMs = 1000 ∧ State.reset.tele.kinds = 0 ∧ State.reset.tele.sampEvery = 0 ∧
  -- OD 8100.01, 8000.02, 8400.02
  State.reset.pwr.capW = 560 ∧ State.reset.pwr.margin = 500000 ∧ State.reset.pwr.accRelease = 0 ∧
  -- R159: the registers of a core
  (∀ c : Core, (State.reset.core c).xr 0 = 0 ∧ (State.reset.core c).pr 0 = 0xFFFFFFFF)

/-- R427, R430 to R433: an event of class 3 that the forwarding map does not name. Where a clause rests on a choice of the model
and not on a rule, log entries 7, 8 of notes/assumptions names it. -/
def Obligations.RecorderTakesAnEventInOrder : Prop :=
  -- R430: the next slot and the next sequence
  (∀ (s : State) (e : Event), e.cls = 3 → s.tele.forwarded e.code = none → s.tele.frozen = false → s.tele.full = none →
    findRepeat s.tele.repeatMs s.time.opMs e 256 s.tele.slots = none → s.tele.slots.length + 1 < recorderSlots →
    (s.record e).tele.slots = s.tele.slots ++ [newRec s.tele.nextSeq s.time.cycles s.time.opMs e] ∧
    (s.record e).tele.nextSeq = s.tele.nextSeq + 1 ∧ (s.record e).acc = s.acc) ∧
  -- R431: a repeat of one of the last 256 records
  (∀ (s : State) (e : Event) (i : Nat), e.cls = 3 → s.tele.forwarded e.code = none → s.tele.frozen = false →
    findRepeat s.tele.repeatMs s.time.opMs e 256 s.tele.slots = some i →
    (s.record e).tele.slots = s.tele.slots.modify i (repeatRec s.time.opMs) ∧ (s.record e).tele.nextSeq = s.tele.nextSeq) ∧
  -- R432: a full recorder refuses and counts by class
  (∀ (s : State) (e : Event) (f : FullRec), e.cls = 3 → s.tele.forwarded e.code = none → s.tele.frozen = false → s.tele.full = some f →
    findRepeat s.tele.repeatMs s.time.opMs e 256 s.tele.slots = none →
    (s.record e).tele.slots = s.tele.slots ∧ (s.record e).tele.refused = addAt s.tele.refused 3 1 ∧
    (s.record e).tele.nextSeq = s.tele.nextSeq) ∧
  -- R433: a frozen recorder holds up to 4,096 entries
  (∀ (s : State) (e : Event), e.cls = 3 → s.tele.forwarded e.code = none → s.tele.frozen = true →
    findRepeat s.tele.repeatMs s.time.opMs e s.tele.holding.length s.tele.holding = none →
    (s.record e).tele.slots = s.tele.slots ∧
    (s.tele.holding.length < 4096 → (s.record e).tele.holding = s.tele.holding ++ [newRec 0 s.time.cycles s.time.opMs e]) ∧
    (4096 ≤ s.tele.holding.length → (s.record e).tele.holding = s.tele.holding ∧
      (s.record e).tele.holdRefused = bump s.tele.holdRefused)) ∧
  -- R476: an event of class 0 or 1 raises source 3
  (∀ (s : State) (e : Event), e.cls.toNat ≤ 1 → (s.record e).acc.irqPend.getLsbD 3 = true)

/-- R214: a write of bytes. A sector written in part is read first; a write of whole sectors reads nothing. -/
def Obligations.MemoryWritesReachTheirBytesOnly : Prop :=
  -- no sector of the range is uncorrectable: each byte reads as it was written
  (∀ (s : State) (t : Tier) (off : Nat) (l : List Byte) (i : Nat), s.memOk → (∀ sec, s.uncorrectable t sec = false) → i < l.length →
    (s.writeMem t off l).byteOf t (off + i) = l[i]?.getD 0) ∧
  -- every other byte of the tier, and the other tier, reads as before
  (∀ (s : State) (t : Tier) (off a : Nat) (l : List Byte), s.memOk → (obNoneBad s ∨ off % 64 = 0 ∧ l.length % 64 = 0) →
    (a < off ∨ off + l.length ≤ a) → (s.writeMem t off l).byteOf t a = s.byteOf t a) ∧
  (∀ (s : State) (t u : Tier) (off a : Nat) (l : List Byte), u ≠ t → (obNoneBad s ∨ off % 64 = 0 ∧ l.length % 64 = 0) →
    (s.writeMem t off l).byteOf u a = s.byteOf u a) ∧
  -- a partial write to an uncorrectable sector is dropped and counted: the tiers are as the read of the sector leaves them
  (∀ (s : State) (t u : Tier) (off a : Nat) (l : List Byte), 0 < l.length → off % 64 + l.length < 64 →
    s.uncorrectable t (off / 64 * 64) = true →
    (s.writeMem t off l).byteOf u a = (s.readRange t (off / 64 * 64) 64).byteOf u a ∧
    (s.writeMem t off l).mem.partialDropped = bumpBy s.mem.partialDropped 1) ∧
  -- and every byte stays where the sector is in no block and the only wrong one
  (∀ (s : State) (t u : Tier) (off a : Nat) (l : List Byte), 0 < l.length → off % 64 + l.length < 64 →
    s.uncorrectable t (off / 64 * 64) = true → s.blockOfSector (off / 64 * 64) = none →
    (∀ b ∈ s.mem.bad, b.2.1.toNat = off / 64 * 64) → (s.writeMem t off l).byteOf u a = s.byteOf u a) ∧
  -- R217: a byte that nothing has written reads zero
  (∀ (t : Tier) (a : Nat), State.reset.byteOf t a = 0)

/-- R464. A message whose magic, version or check word is wrong. -/
def Obligations.MalformedMessagesAreDiscarded : Prop :=
  (∀ (path : Path) (bytes : List Byte) (s : State), (field16 bytes 0 ≠ 0x4B56 ∨ byteAt bytes 2 ≠ 1 ∨
      crc32c (unchecked (bytes.take (msgLength bytes))) ≠ field32 (bytes.take (msgLength bytes)) 40) →
    serve path bytes s = (none, { s with acc := { s.acc with discarded := bump s.acc.discarded } })) ∧
  (∀ (bytes : List Byte) (s : State), obRingIdle s → s.serverRuns = true → s.acc.admits (bytes.take 16) = true →
    (field16 (bytes.drop 16) 0 ≠ 0x4B56 ∨ byteAt (bytes.drop 16) 2 ≠ 1 ∨
      crc32c (unchecked ((bytes.drop 16).take (msgLength (bytes.drop 16)))) ≠ field32 ((bytes.drop 16).take (msgLength (bytes.drop 16))) 40) →
    Completes (.objectWrite .ma bytes) s fun t => t.acc.discarded = bump s.acc.discarded ∧ t.acc.responses = s.acc.responses ∧
      t.acc.dups = s.acc.dups ∧ t.tele.slots = s.tele.slots ∧ t.tele.holding = s.tele.holding)

/-- R545: 1PPS edges, at the millisecond resolution of the model's time. -/
def Obligations.SecondEdgesOutOfRangeAreRejected : Prop :=
  (∀ (s : State) (sec : U64) (last : Nat), s.pwr.ppsLast = some last → (s.time.now - last < 900 ∨ 1100 < s.time.now - last) →
    exec (.ppsEdge sec) s = .next { s with pwr := { s.pwr with ppsRejected := bump s.pwr.ppsRejected, ppsLast := none } }) ∧
  (∀ (s : State) (sec : U64), s.pwr.ppsLast = none →
    Completes (.ppsEdge sec) s fun t => t.pwr = { s.pwr with ppsLast := some s.time.now }) ∧
  (∀ (s : State) (sec : U64) (last : Nat), s.pwr.ppsLast = some last → 900 ≤ s.time.now - last → s.time.now - last ≤ 1100 →
    Completes (.ppsEdge sec) s fun t => t.pwr = { s.pwr with ppsLast := some s.time.now }) ∧
  -- R448: with no time of day configured there is no TIME record; with one, an accepted edge leaves it
  (∀ (s : State) (sec : U64), s.pwr.ppsLast = none → s.acc.todPlane = 0 → Completes (.ppsEdge sec) s fun t => Quiet s t) ∧
  (∀ (s : State) (sec : U64), s.pwr.ppsLast = none → s.acc.todPlane ≠ 0 → s.tele.kinds.getLsbD 5 = true → s.tele.traceStatus = 1 →
    s.tele.trace.length < traceCapacity →
    Completes (.ppsEdge sec) s fun t => ∃ r, t.tele.trace = s.tele.trace ++ [r] ∧ r.kind = 6 ∧ r.data.take 6 = leBytes 6 sec.toNat)

/-- R435: the clear of the recorder. The operand holds says whether the signature holds under a listed operator key. -/
def Obligations.RecorderClearEmptiesEverySlot : Prop :=
  (∀ (s : State) (key : U16), exec (.recorderClear key true) s = .next (State.drainHolding s.tele.holding
    (State.record (ev3 0x8004 unitRec (le16 key ++ leBytes 4 s.tele.slotsUsed))
      { s with tele := { s.tele with frozen := false, holding := [], slots := [], full := none } }))) ∧
  (∀ (s u : State) (key : U16), u = State.record (ev3 0x8004 unitRec (le16 key ++ leBytes 4 s.tele.slotsUsed))
      { s with tele := { s.tele with frozen := false, holding := [], slots := [], full := none } } →
    (u.tele.slots.head?).map (·.code) = some 0x8004 ∧
    (u.tele.slots.head?).map (fun r => r.args.take 6) = some (le16 key ++ leBytes 4 s.tele.slotsUsed) ∧
    u.tele.refused = s.tele.refused ∧ u.tele.clearRefused = s.tele.clearRefused ∧ u.tele.holdRefused = s.tele.holdRefused) ∧
  (∀ (s : State), s.tele.slotsUsed = s.tele.slots.length + (if s.tele.full.isSome then 1 else 0)) ∧
  (∀ (s : State) (key : U16), exec (.recorderClear key false) s = .next (State.record (ev3 0x8005 unitRec (le16 key))
    { s with tele := { s.tele with clearRefused := bump s.tele.clearRefused } }))

/-- R403: a device in RUN that no fabric job port reaches fences itself; ports exempted under R395 are not counted. -/
def Obligations.IsolatedDeviceFencesItself : Prop :=
  (∀ (s : State) (p : Port), s.job.dev = .run → p ∈ s.fabricJobPorts → s.exempt p = false →
    Completes .isolationTimeout s fun t =>
      -- R11: the position and epoch that it may not join again are kept
      t.job = { s.job with dev := .fenced, fencedAs := some (s.job.jt, s.job.epoch, s.adopted) } ∧ t.tele = (s.record (ev1 0x4005 unitFault [])).tele) ∧
  (∀ (s : State) (i : Fin 2), ∃ a, (false, a) ∈ ((s.record (ev1 0x4005 unitFault [])).tele.planes[i]).outbox ∧
    a.cls = 1 ∧ a.ev.code = 0x4005) ∧
  (∀ (s : State), (∀ p ∈ s.fabricJobPorts, s.exempt p = true) → exec .isolationTimeout s = .next s) ∧
  (∀ (s : State), s.job.dev ≠ .run → exec .isolationTimeout s = .next s)

/-- R127, R185: the three outcomes of a write of OD 2200.01, and what the missing-value deadline of R128 does. -/
def Obligations.StepSizeLatchesSameValueOrIsRefused : Prop :=
  (∀ (s : State) (v : U64) (step x : U32), step = v.setWidth 32 → x = (v >>> 32).setWidth 32 →
    (step = s.fence.cur ∨ step = s.fence.cur + 1) → nonfinite32 x = false → (∀ l ∈ s.upd.latches, l.1 ≠ step) →
    (∀ d ∈ s.upd.noSize, d.step ≠ step) → (∀ p ∈ s.red.parked, p.win.phase = .waiting → p.win.step ≠ step) →
    Completes (.stepSizeWrite v) s fun t =>
      t.upd = { s.upd with latches := s.upd.latches ++ [(step, x)], sizeLast := v, sizeRefused := false } ∧
      Quiet s t ∧ t.acc = s.acc) ∧
  -- R128: with windows that wait for the step's size, they are handed over with the latch set
  (∀ (s : State) (v : U64) (step x : U32), step = v.setWidth 32 → x = (v >>> 32).setWidth 32 →
    (step = s.fence.cur ∨ step = s.fence.cur + 1) → nonfinite32 x = false → (∀ l ∈ s.upd.latches, l.1 ≠ step) →
    exec (.stepSizeWrite v) s = .next ((({ s with upd := { s.upd with
      latches := s.upd.latches ++ [(step, x)], sizeLast := v, sizeRefused := false } } : State).sizeArrived step).startLatched)) ∧
  (∀ (s : State) (v : U64), s.upd.latches.find? (·.1 == v.setWidth 32) = some (v.setWidth 32, (v >>> 32).setWidth 32) →
    exec (.stepSizeWrite v) s = .next s) ∧
  (∀ (s : State) (v : U64) (step x : U32), step = v.setWidth 32 → x = (v >>> 32).setWidth 32 →
    ((step ≠ s.fence.cur ∧ step ≠ s.fence.cur + 1) ∧ (∀ l ∈ s.upd.latches, l.1 ≠ step) ∨
      nonfinite32 x = true ∧ (∀ l ∈ s.upd.latches, l.1 ≠ step) ∨
      ∃ y, s.upd.latches.find? (·.1 == step) = some (step, y) ∧ y ≠ x) →
    Completes (.stepSizeWrite v) s fun t =>
      t.upd = { s.upd with sizeRefusals := bump s.upd.sizeRefusals, sizeRefused := true } ∧
      Records (ev3 0x2402 unitCC (arg8 v ++ arg4 s.fence.cur)) s t) ∧
  (∀ (s : State) (step : U32), s.sizeAwaited step = true → step ∉ s.upd.sizeLateAt → s.afterFailed step = false →
    Completes (.stepSizeLate step) s fun t =>
      t.upd = { s.upd with sizeLateAt := step :: s.upd.sizeLateAt } ∧ Records (ev2 0x2401 unitCC (arg4 step)) s t)

/-- R23, R24, R251, R30, R75, R76: the step fence's commands. R18, R29: a child's sealed move goes on to the parent, and is
counted at the root. Where a clause rests on a choice of the model and not on a rule, log entries 10, 11 of notes/assumptions
names it. -/
def Obligations.StepFenceWritesFailuresAndCommitsAct : Prop :=
  -- R23, third row: the last sealed step again
  (∀ (s : State) (v : U32), v = s.fence.sealedStep → v ≠ s.fence.cur →
    exec (.stepFenceWrite v) s = .next { s with fence := { s.fence with status := 2 } }) ∧
  -- R23, second row: a fence that is already pending
  (∀ (s : State) (v : U32), v = s.fence.cur → s.fence.pending = true → exec (.stepFenceWrite v) s = .next s) ∧
  -- R23, last row
  (∀ (s : State) (v : U32), v ≠ s.fence.sealedStep → v ≠ s.fence.cur →
    Completes (.stepFenceWrite v) s fun t =>
      t.fence = { s.fence with status := 4, refusals := bump s.fence.refusals } ∧
      Records (ev3 0x2100 unitCC (arg4 v ++ arg4 s.fence.cur)) s t) ∧
  -- R23, first row: with no owned shard to wait for, the fence is pending and nothing else changes
  (∀ (s : State), s.fence.pending = false → s.owned = [] →
    exec (.stepFenceWrite s.fence.cur) s = .next { s with fence := { s.fence with pending := true, status := 1 } }) ∧
  -- R23, first row, R25: the fence is pending with status 1, or a shard has already reported the step as failed
  (∀ (s : State), s.fence.pending = false →
    Completes (.stepFenceWrite s.fence.cur) s fun t =>
      t.fence.cur = s.fence.cur ∧ t.fence.sealedStep = s.fence.sealedStep ∧
      (t.fence.pending = true ∧ t.fence.status = 1 ∨ t.fence.pending = false ∧ t.fence.status = 3)) ∧
  -- R24: the timeout
  (∀ (s : State), s.fence.pending = true →
    Completes .fenceTimeout s fun t =>
      t.fence = { s.fence with status := 3, stepsFailed := s.fence.stepsFailed + 1, pending := false
                               failedStep := some s.fence.cur }) ∧
  -- R251: a child's failure goes to the parent
  (∀ (s : State) (p : Port) (pk : Trans) (up : U32), s.parent = some up →
    exec (.stepFailedReceive p pk) s =
      .next ((s.takePk (.trans pk)).sendFence up pk.step 3 ([0, 0, 0] ++ leBytes 2 (pk.aNat 4 2)) [] [] [])) ∧
  -- R30: a commit of a later step or of another epoch
  (∀ (s : State) (p : Port) (pk : Trans), (pk.step.toNat > s.fence.sealedStep.toNat ∨ pk.epoch ≠ s.job.epoch) →
    Completes (.jobCommitReceive p pk) s fun t =>
      t.red = { s.red with treeRefusals := bump s.red.treeRefusals } ∧ t.fence = s.fence ∧
      Records (ev3 0x2104 unitCC (arg4 pk.step ++ arg4 pk.epoch ++ arg4 s.fence.sealedStep)) s t) ∧
  -- R30: a commit that is accepted
  (∀ (s : State) (p : Port) (pk : Trans), pk.step.toNat ≤ s.fence.sealedStep.toNat → pk.epoch = s.job.epoch →
    Completes (.jobCommitReceive p pk) s fun t => t.fence.committed = pk.step) ∧
  -- R76
  (∀ (s : State) (step : U32), (s.latchOf step).isSome = true → s.red.anchorStep.toNat < step.toNat →
    s.red.anchorLate ≠ some step →
    Completes (.anchorLate step) s fun t =>
      t.red = { s.red with anchorLate := some step } ∧ Records (ev3 0x2204 unitRed (arg4 step)) s t) ∧
  -- R75: the step counts as opened, once, in RUN, with its size held and its anchors installed
  (∀ (s : State), (s.latchOf s.red.anchorStep).isSome = true → s.job.dev = .run → s.red.opened ≠ some s.red.anchorStep →
    Completes .stepOpenSend s fun t => t.red = { s.red with opened := some s.red.anchorStep }) ∧
  -- R18, R29: a child's sealed move goes on to the parent, and is counted at the root.
  (∀ (s : State) (p : Port) (pk : Trans) (up : U32), s.parent = some up →
    exec (.stepSealedReceive p pk) s =
      .next ((s.takePk (.trans pk)).sendFence up pk.step 2 [] [] [] pk.body)) ∧
  (∀ (s : State) (p : Port) (pk : Trans), s.parent = none →
    Completes (.stepSealedReceive p pk) s fun t =>
      t.fence.sealedStep = s.fence.sealedStep ∧
      ((cnOf (field32 pk.body 12), field32 pk.body 8, (1 : U32)) ∈ t.fence.kidMoves ∨
        field32 pk.body 8 ∈ t.fence.rootSealed ∧ t.fence.committed = field32 pk.body 8))

/-- R21, R29: the sealed move. Status, steps and count advance together; the record goes to MRAM; sealed steps leave no gap; with
a shard that has not reported, nothing seals. Where a clause rests on a choice of the model and not on a rule, log entry 58 of
notes/assumptions names it. -/
def Obligations.SealedMoveAdvancesTheStepByOne : Prop :=
  (∀ (s : State), (if s.fence.pending then s.completeAll else s).mayseal = true →
    Completes .sealStep s fun t =>
      t.fence.sealedStep = s.fence.cur ∧ s.fence.cur = s.fence.sealedStep + 1 ∧ t.fence.cur = s.fence.cur + 1 ∧
      t.fence.stepsSealed = s.fence.stepsSealed + 1 ∧ t.fence.pending = false ∧ t.fence.status = 2 ∧
      ∃ m, t.fence.lastMove = some m ∧ m ∈ t.fence.mramMoves ∧ m.step = s.fence.cur ∧ m.jt = s.job.jt ∧
        m.epoch = s.job.epoch ∧ m.cn = s.ident.cn ∧ m.opMs = s.time.opMs) ∧
  (∀ (s : State), s.fence.pending = false → exec .sealStep s = .next s) ∧
  (∀ (s : State), (if s.fence.pending then s.completeAll else s).mayseal = false →
    Completes .sealStep s fun t => t.fence.sealedStep = s.fence.sealedStep ∧ t.fence.lastMove = s.fence.lastMove)

/-- R26, R84: the pieces that the reduction engine turns away before it looks at a window, and what each is counted as. Where a
clause rests on a choice of the model and not on a rule, log entry 11 of notes/assumptions names it. -/
def Obligations.PiecesOfWrongStepShardOrSenderAreRefused : Prop :=
  (∀ (s : State) (p : Port) (b : Block),
    (b.hdr.step.toNat > s.fence.cur.toNat + 1 ∨ s.afterFailed b.hdr.step = true) →
    Completes (.pieceArrival p b) s fun t =>
      t.red = { s.red with stepRefusals := bump s.red.stepRefusals } ∧
      t.fence.discarded = addStep32 s.fence.discarded b.hdr.step b.hdr.count.toNat ∧ Quiet s t) ∧
  (∀ (s : State) (p : Port) (b : Block), b.hdr.step.toNat ≤ s.fence.cur.toNat + 1 → s.afterFailed b.hdr.step = false →
    b.hdr.step.toNat ≤ s.fence.sealedStep.toNat →
    Completes (.pieceArrival p b) s fun t =>
      t.red = { s.red with duplicates := bump s.red.duplicates } ∧
      t.fence.discarded = addStep32 s.fence.discarded b.hdr.step b.hdr.count.toNat ∧ Quiet s t) ∧
  (∀ (s : State) (p : Port) (b : Block), b.hdr.step.toNat ≤ s.fence.cur.toNat + 1 → s.afterFailed b.hdr.step = false →
    b.hdr.step.toNat > s.fence.sealedStep.toNat → b.hdr.step.toNat ≤ s.red.anchorStep.toNat →
    (s.treeOf b.hdr.ts = none ∨ ∃ r, s.treeOf b.hdr.ts = some r ∧ b.hdr.contrib ∉ r.children) →
    Completes (.pieceArrival p b) s fun t =>
      t.red.unknown = bump s.red.unknown ∧ t.red.windows = s.red.windows ∧ t.red.parked = s.red.parked ∧
      t.fence.discarded = addStep32 s.fence.discarded b.hdr.step b.hdr.count.toNat) ∧
  (∀ (s : State) (p : Port) (b : Block) (r : TreeRec) (slot : Nat), PieceReaches s b r slot →
    b.hdr.malformed r ((s.anyWindow b.hdr.ts (BitVec.ofNat 32 (b.hdr.winOf r)) b.hdr.step).map (·.anchor) |>.getD
      (s.anchorFor b.hdr.ts (BitVec.ofNat 32 (b.hdr.winOf r)) b.hdr.step)) (pieceValues b) = true →
    Completes (.pieceArrival p b) s fun t =>
      t.red.malformed = bump s.red.malformed ∧ t.red.windows = s.red.windows ∧ t.red.parked = s.red.parked)

/-- R77, R83, R84: a piece of an open window that fits it and that no other row of R84 takes: its elements are added, its granules
are covered, the counters advance, and no other window changes. Where a clause rests on a choice of the model and not on a rule,
log entry 11 of notes/assumptions names it. -/
def Obligations.AcceptedPieceIsAddedToItsWindowOnly : Prop :=
  ∀ (s : State) (p : Port) (b : Block) (r : TreeRec) (slot : Nat) (x : Window), PieceReaches s b r slot →
    s.windowAt b.hdr.ts (BitVec.ofNat 32 (b.hdr.winOf r)) b.hdr.step = some x → x.phase = .opened →
    b.hdr.malformed r x.anchor (pieceValues b) = false →
    (b.hdr.ts, BitVec.ofNat 32 (b.hdr.winOf r), b.hdr.step) ∉ s.red.acked →
    ((x.masks[slot]?).getD 0 &&& b.hdr.granules r) = 0 → b.hdr.contrib ∉ x.lastFrom →
    (if b.hdr.code == 15 then 0 ≤ signed16 b.hdr.anchor - x.anchor ∧ signed16 b.hdr.anchor - x.anchor ≤ 64
      else signed16 b.hdr.anchor = x.anchor) →
    pieceKind b.hdr x.anchor (pieceValues b) x.nonfinite = .add →
    (x.take r b.hdr b.pay .add slot (s.red.arrivals + 1)).whole r = false →
    Completes (.pieceArrival p b) s fun t =>
      t.red = { s.red with
        piecesAcc := bump s.red.piecesAcc, contribAcc := bumpBy s.red.contribAcc b.hdr.count.toNat
        arrivals := s.red.arrivals + 1
        windows := s.red.windows.map (fun y =>
          if y.ts = x.ts ∧ y.w = x.w ∧ y.step = x.step then withPiece s b r slot x else y) } ∧
      t.fence.accepted = addStep64 s.fence.accepted b.hdr.step b.hdr.count.toNat

/-- R85, R86, R87, R91, R136: windows come back, outputs are freed and sent again, requests are answered. Where a clause rests on
a choice of the model and not on a rule, log entries 10, 11 of notes/assumptions names it. -/
def Obligations.WindowsUnparkResendAndAreAcknowledged : Prop :=
  (∀ (s : State) (ts step w : U32) (q : Parked) (r : TreeRec), s.parkedAt ts w step = some q → s.treeOf ts = some r →
    (s.readParked q).1.whole r = false → s.freeWindow q.win.step = true →
    Completes (.windowUnpark ts step w) s fun t =>
      t.red = { s.red with
        parked := s.red.parked.filter (fun z => !z.win.isKey q.win.ts q.win.w q.win.step)
        windows := s.red.windows ++ [(s.readParked q).1], unparks := bump s.red.unparks
        parkBytes := bumpBy s.red.parkBytes (s.winParkBytes q.win + 4160 * q.stored.length) } ∧
      -- R223: an uncorrectable sector of the record poisons the window
      ((s.parkRead q.place (s.winParkBytes q.win)).1 = true → (s.readParked q).1 = { q.win with poison := true }) ∧
      -- and a record whose sectors are all readable gives the window as it was parked
      (s.regionOfKind 3 = none → (s.readParked q).1 = q.win)) ∧
  (∀ (s : State) (p : Port) (pk : Trans) (r : TreeRec) (x : Window), s.treeOf (pk.a32 0) = some r → r.role = 2 →
    s.parkedAt (pk.a32 0) (reqWindow r pk) pk.step = none → (pk.a32 0, reqWindow r pk, pk.step) ∉ s.red.acked →
    s.windowAt (pk.a32 0) (reqWindow r pk) pk.step = some x → signed16 (BitVec.ofNat 16 (pk.bNat 0 2)) > x.anchor →
    x.phase = .opened →
    Completes (.anchorResendReqReceive p pk) s fun t =>
      t.red.windows = s.red.windows.map (fun y => if y.isKey x.ts x.w x.step then
        x.clear (signed16 (BitVec.ofNat 16 (pk.bNat 0 2))) .opened else y)) ∧
  -- a window that has completed or met a breach gives its place back; its number is summed again at the higher anchor
  (∀ (s : State) (p : Port) (pk : Trans) (r : TreeRec) (x : Window), s.treeOf (pk.a32 0) = some r → r.role = 2 →
    (pk.a32 0, reqWindow r pk, pk.step) ∉ s.red.acked →
    s.windowAt (pk.a32 0) (reqWindow r pk) pk.step = some x → signed16 (BitVec.ofNat 16 (pk.bNat 0 2)) > x.anchor →
    x.phase ≠ .opened →
    Completes (.anchorResendReqReceive p pk) s fun t =>
      t.red.windows = s.red.windows.filter (fun y => !y.isKey x.ts x.w x.step) ∧
      t.anchorFor (pk.a32 0) (reqWindow r pk) pk.step = signed16 (BitVec.ofNat 16 (pk.bNat 0 2))) ∧
  (∀ (s : State) (p : Port) (pk : Trans) (x : Window),
    s.red.windows.filter (fun x => x.ts == pk.a32 0 && x.step == pk.step && x.phase != .opened) = [x] →
    x.outs ≠ [] → (∀ b ∈ x.outs, names pk (pk.aNat 11 1) b = true) →
    Completes (.treeBlockAckReceive p pk) s fun t =>
      t.red = { s.red with
        windows := s.red.windows.filter (fun y => !y.isKey x.ts x.w x.step)
        acked := s.red.acked ++ [(x.ts, x.w, x.step)] }) ∧
  (∀ (s : State) (p : Port) (pk : Trans),
    Completes (.pieceResendReqReceive p pk) s fun t =>
      t.red = { s.red with
       parkBytes :=
        ((s.red.windows.filter (fun x => x.step == pk.step && x.phase != .opened)).flatMap
          (fun x => x.heldOuts.filter (fun b => names pk (pk.bNat 4 1) b.2))).foldl (fun n _ => bumpBy n 4160) s.red.parkBytes }) ∧
  (∀ (s : State) (ts w : U32),
    Completes (.retentionResend ts w) s fun t =>
      t.red = { s.red with
       parkBytes :=
        ((s.red.windows.filter (fun x => x.ts == ts && x.w == w && x.phase != .opened)).flatMap Window.heldOuts).foldl
          (fun n _ => bumpBy n 4160) s.red.parkBytes })

/-- R97, R100, R101: the scalar fence, the send upward, the packets of the tree and the refusals. Where a clause rests on a choice
of the model and not on a rule, log entries 11, 44 of notes/assumptions names it. -/
def Obligations.ScalarServiceArmsFoldsAndRefuses : Prop :=
  -- R101: a write of the scalar fence for another step or a disabled slot
  (∀ (s : State) (v : U64) (slot : U8) (step : U32), step = v.setWidth 32 → slot = ((v >>> 32) &&& 0xF#64).setWidth 8 →
    (step ≠ s.fence.cur ∨ (slotMembers slot s).enabled = false) →
    Completes (.scalarFenceWrite v) s fun t =>
      t.red = { s.red with scalarStatus := 4, treeRefusals := bump s.red.treeRefusals } ∧
      Records (ev3 0x2206 unitRed (arg1 0 ++ [slot] ++ arg4 step ++ arg4 s.job.epoch ++ arg4 0)) s t) ∧
  -- R100: a write that is taken arms the slot; with an input missing nothing is sent
  (∀ (s : State) (v : U64) (slot : U8), s.fence.cur = v.setWidth 32 → slot = ((v >>> 32) &&& 0xF#64).setWidth 8 →
    (slotMembers slot s).enabled = true → s.red.scalars = [] → s.localInput slot (slotMembers slot s).op s.fence.cur = none →
    Completes (.scalarFenceWrite v) s fun t =>
      t.red = { s.red with scalarStatus := 1, scalars := [{ slot := slot, step := s.fence.cur, armed := true }] } ∧ Quiet s t) ∧
  -- R100: at a device with a parent and no children the own value goes up as soon as it is ready
  (∀ (s : State) (slot : U8) (r : ScalarRed) (v : ScalarVal) (up : U32), (slotMembers slot s).enabled = true →
    s.red.scalars.find? (ScalarRed.sameAs slot s.fence.cur 0) = some r → r.own = some v → r.sent = false →
    s.children = [] → s.parent = some up →
    exec (.scalarSendUp slot) s = .next ((s.setRed { r with sent := true }).sendScalar up slot (slotMembers slot s).op s.fence.cur 0 v false)) ∧
  -- R101: a packet that is not of the epoch, the step, the slot or the tree
  (∀ (s : State) (p : Port) (pk : Trans),
    (s.scalarOk pk = false ∨ ¬ (if (pk.a16 2).getLsbD 2 then s.parent = some (cnOf pk.src) else cnOf pk.src ∈ s.children)) →
    Completes (.scalarReduceReceive p pk) s fun t =>
      t.red = { s.red with treeRefusals := bump s.red.treeRefusals } ∧
      Records (ev3 0x2206 unitRed (arg1 1 ++ [pk.a8 0] ++ arg4 (pk.a32 4) ++ arg4 pk.epoch ++ arg4 (cnOf pk.src))) s t) ∧
  -- R100: a result from the parent reaches the slot's result register once
  (∀ (s : State) (p : Port) (pk : Trans), s.scalarOk pk = true → (pk.a16 2).getLsbD 2 = true →
    s.parent = some (cnOf pk.src) → pk.a8 0 ≠ slotMaxv → pk.a8 0 ≠ 0 →
    (∀ x ∈ s.red.resultsAt, ¬ (x.1 = pk.a8 0 ∧ x.2.1 = pk.a32 4)) → ∀ h : (pk.a8 0).toNat < 16,
    Completes (.scalarReduceReceive p pk) s fun t =>
      t.red.results = s.red.results.set (pk.a8 0).toNat ((scalarOf pk).result (pk.a8 1)) ∧ t.red.scalarStatus = 2) ∧
  -- R97
  (∀ (s : State) (l : List Byte), l.length = 64 → (∀ x ∈ (chunksOf 16 4 l).zipIdx, slotOk x.2 x.1 = true) →
    exec (.slotConfigWrite l) s = .next { s with red := { s.red with
      slots := Vector.ofFn (fun (i : Fin 16) => { op := byteAt l (4 * i.val), enabled := byteAt l (4 * i.val + 1) == 1 }) } }) ∧
  (∀ (s : State) (l : List Byte), (l.length ≠ 64 ∨ ∃ x ∈ (chunksOf 16 4 l).zipIdx, slotOk x.2 x.1 = false) →
    Completes (.slotConfigWrite l) s fun t =>
      t.red = { s.red with treeRefusals := bump s.red.treeRefusals } ∧
      Records (ev3 0x2206 unitRed (arg1 2 ++ [0xFF] ++ arg4 s.fence.cur ++ arg4 s.job.epoch ++ arg4 0)) s t)

/-- R80, R81: a tree table is taken whole or refused whole; in RUN it is held for the next epoch. -/
def Obligations.TreeTableIsTakenWholeOrRefusedWhole : Prop :=
  (∀ (s : State) (l : List Byte) (rs : List TreeRec), parseTrees (l.length / 24 + 1) 0 [] l = .ok rs →
    (s.job.dev = .standby ∨ s.job.dev = .opening) →
    exec (.treeTableWrite l) s = .next { s with red := { s.red with trees := rs } }) ∧
  (∀ (s : State) (l : List Byte) (rs : List TreeRec), parseTrees (l.length / 24 + 1) 0 [] l = .ok rs → s.job.dev = .run →
    exec (.treeTableWrite l) s = .next { s with red := { s.red with held := some rs } }) ∧
  (∀ (s : State) (l : List Byte) (off : Nat),
    ((s.job.dev = .standby ∨ s.job.dev = .opening ∨ s.job.dev = .run) ∧ parseTrees (l.length / 24 + 1) 0 [] l = .error off ∨
      s.job.dev ≠ .standby ∧ s.job.dev ≠ .opening ∧ s.job.dev ≠ .run ∧ off = 0xFFFFFFFF) →
    Completes (.treeTableWrite l) s fun t =>
      t.red = { s.red with treeErr := BitVec.ofNat 32 off, treeTableRefusals := bump s.red.treeTableRefusals } ∧
      Records (ev3 0x2207 unitRed (arg4 (BitVec.ofNat 32 off))) s t)

/-- R109, R112, R120, R121: a ready window goes to the pipeline that R112 picks, with its step size, leaf factor and t + 1, and
the result of the entry's program; a window of a quarantined or halted shard is refused; without its step size it waits. R136,
R137: a held window whose scalar results are there goes to the dispatcher for its second pass, with the value of its slot; while
one is missing it waits. Where a clause rests on a choice of the model and not on a rule, log entries 12, 58 of notes/assumptions
names it. -/
def Obligations.ReadyWindowGoesToThePickedPipeline : Prop :=
  (∀ (s s1 : State) (ts w : U32) (rep : Bool) (d d1 : DispWin) (e e1 : TensorEntry) (s0 s4 : U32) (p : Pipe),
    s.readyWindow ts w rep 1 = some (d, e) → e.status ≠ .quarantined → e.status ≠ .halted → d.handed = true →
    s.sizeFor d = some (s0, s4) → (if d.roll then (d.step == e.l + 1, s) else s.beginStep e d.step) = (true, s1) →
    (if rep then s1.replicaOf ts else s1.ownerOf ts) = some e1 → s1.pickPipe (patternOf e1) [] = some p →
    (s1.upd.pipes[p]).queue.length < 4 → d1 = { d with s0 := s0, s4 := s4, tPrime := e1.t + 1 } →
    ((s1.dropDisp d).runFor (unitPipe p) e1 d1).2.1 = false →
    Completes (.windowDispatch ts w rep) s fun t =>
      -- the reads may meet pages whose copy they wait for (R143)
      ∃ n k l, t.upd = { s1.upd with
        disp := s1.upd.disp.erase d, touchPages := n, stepTouches := k, touchWait := l
        pipes := s1.upd.pipes.set p { s1.upd.pipes[p] with
          queue := (s1.upd.pipes[p]).queue ++ [⟨d1, ((s1.dropDisp d).runFor (unitPipe p) e1 d1).1⟩] } }) ∧
  (∀ (s : State) (ts w : U32) (rep : Bool) (d : DispWin) (e : TensorEntry), s.readyWindow ts w rep 1 = some (d, e) →
    e.status = .quarantined →
    exec (.windowDispatch ts w rep) s = .next { s with upd := { s.upd with
      disp := s.upd.disp.erase d, skewRefusals := bump s.upd.skewRefusals } }) ∧
  (∀ (s : State) (ts w : U32) (rep : Bool) (d : DispWin) (e : TensorEntry), s.readyWindow ts w rep 1 = some (d, e) →
    e.status = .halted →
    exec (.windowDispatch ts w rep) s = .next { s with upd := { s.upd with
      disp := s.upd.disp.erase d, haltedWins := bump s.upd.haltedWins } }) ∧
  (∀ (s : State) (ts w : U32) (rep : Bool) (d : DispWin) (e : TensorEntry), s.readyWindow ts w rep 1 = some (d, e) →
    e.status ≠ .quarantined → e.status ≠ .halted → d.handed = true → s.sizeFor d = none →
    exec (.windowDispatch ts w rep) s = .next s) ∧
  -- R136, R137: a held window whose scalar results are there goes to the dispatcher for its second pass, with the value of its
  -- slot; while one is missing it waits.
  (∀ (s : State) (ts w : U32) (h : HeldWin) (e : TensorEntry) (v0 : U64 × Bool),
    s.upd.heldArea.find? (fun h => h.ts == ts && h.w == w) = some h → s.ownerOf ts = some e →
    s.resultAt 0 h.step = some v0 → (e.heldSlot = 0 ∨ (s.resultAt e.heldSlot h.step).isSome = true) → h.poison = false →
    (s.readHeld e w.toNat (winElems (s.winSpan ts) e.count.toNat w.toNat)).2.1 = false →
    Completes (.heldSecondPass ts w) s fun t =>
      t.upd.heldArea = s.upd.heldArea.filter (fun x => !(x.ts == ts && x.w == w && x.step == h.step)) ∧
      ∃ d, t.upd.disp = s.upd.disp ++ [d] ∧ d.ts = ts ∧ d.w = w ∧ d.step = h.step ∧ d.second = true ∧
        d.g = (s.readHeld e w.toNat (winElems (s.winSpan ts) e.count.toNat w.toNat)).1 ∧ d.tPrime = e.t + 1 ∧
        d.heldVal = if e.heldSlot = 0 then none else (s.resultAt e.heldSlot h.step).map (fun x => heldValue x.1 x.2)) ∧
  (∀ (s : State) (ts w : U32) (h : HeldWin), s.upd.heldArea.find? (fun h => h.ts == ts && h.w == w) = some h →
    s.resultAt 0 h.step = none → exec (.heldSecondPass ts w) s = .next s)

/-- R130 to R132, R141, R143, R145: the write-back of an owner's oldest window, its refusal for a quarantined or halted shard, and
the second execution after a parity error. Where a clause rests on a choice of the model and not on a rule, log entries 13, 58 of
notes/assumptions names it. -/
def Obligations.WriteBackWritesTheBlocksOfTheResult : Prop :=
  (∀ (s s1 : State) (p : Pipe) (x : PipeWin) (e : TensorEntry) (ws : List BlkWrite),
    (s.upd.pipes[p]).queue.find? (fun x => !x.win.replica) = some x → s.ownerOf x.win.ts = some e →
    e.status ≠ .quarantined → e.status ≠ .halted → ws = s.resultWrites e x.win.step (firstElem s x.win) x.res →
    s.mustWait (ws.map (·.off)) = (false, s1) → x.res.poisonOut = false →
    exec (.windowWriteback p) s =
      .next ((((blocksWritten s1 p e x ws).countWindow (unitPipe p) e x.win x.res).tellPartner p e x.win ws).finishWindow e x.win)) ∧
  (∀ (s s1 : State) (p : Pipe) (x : PipeWin) (e : TensorEntry),
    (s.upd.pipes[p]).queue.find? (fun x => !x.win.replica) = some x → s.ownerOf x.win.ts = some e →
    e.status ≠ .quarantined → e.status ≠ .halted →
    s.mustWait ((s.resultWrites e x.win.step (firstElem s x.win) x.res).map (·.off)) = (true, s1) →
    exec (.windowWriteback p) s = .next s1) ∧
  (∀ (s : State) (p : Pipe) (x : PipeWin) (e : TensorEntry),
    (s.upd.pipes[p]).queue.find? (fun x => !x.win.replica) = some x → s.ownerOf x.win.ts = some e → e.status = .quarantined →
    Completes (.windowWriteback p) s fun t =>
      t.upd = { s.upd with
        pipes := s.upd.pipes.set p { s.upd.pipes[p] with queue := (s.upd.pipes[p]).queue.erase x }
        skewRefusals := bump s.upd.skewRefusals } ∧ t.mem = s.mem) ∧
  (∀ (s : State) (p : Pipe) (x : PipeWin) (e : TensorEntry),
    (s.upd.pipes[p]).queue.find? (fun x => !x.win.replica) = some x → s.ownerOf x.win.ts = some e → e.status = .halted →
    Completes (.windowWriteback p) s fun t =>
      t.upd = { s.upd with
        pipes := s.upd.pipes.set p { s.upd.pipes[p] with queue := (s.upd.pipes[p]).queue.erase x }
        haltedWins := bump s.upd.haltedWins } ∧ t.mem = s.mem) ∧
  (∀ (s : State) (p : Pipe) (stage : U8) (x : PipeWin) (e : TensorEntry), (s.upd.pipes[p]).queue.getLast? = some x →
    (if x.win.replica then s.replicaOf x.win.ts else s.ownerOf x.win.ts) = some e →
    ∃ u : State, u.upd = { s.upd with
        pipes := s.upd.pipes.set p { s.upd.pipes[p] with queue := (s.upd.pipes[p]).queue.dropLast }
        reexec := bump s.upd.reexec } ∧ u.mem = s.mem ∧
      exec (.pipeParity p stage) s = .next (u.assign ((u.pickPipe (patternOf e) [p]).getD p) e x.win))

/-- R133, R134, R146 to R149: releases of halts, staged masks, program slots and the tensor table. Where a clause rests on a
choice of the model and not on a rule, log entry 44 of notes/assumptions names it. -/
def Obligations.HaltsMasksProgramsAndTableAreWritten : Prop :=
  (∀ (s : State) (v : U32) (e : TensorEntry), s.ownerOf v = some e → e.status = .halted →
    exec (.haltReleaseWrite v) s = .next { s with upd := { s.upd with releasing := v :: s.upd.releasing } }) ∧
  (∀ (s : State) (v : U32) (e : TensorEntry), s.ownerOf v = some e → e.status = .haltPending →
    exec (.haltReleaseWrite v) s = .next (s.setEntry v 1 (fun e => { e with
      status := if e.p.isSome then .running else .idle }))) ∧
  (∀ (s : State) (v : U32), s.ownerOf v = none →
    exec (.haltReleaseWrite v) s = .next { s with upd := { s.upd with loadRefusals := bump s.upd.loadRefusals } }) ∧
  (∀ (s : State) (l : List Byte) (e : TensorEntry), l.length = 4160 → s.ownerOf (Block.ofBytes l).hdr.ts = some e →
    s.maskStageOk e (Block.ofBytes l) = true →
    Completes (.maskStageWrite l) s fun t =>
      t.upd = { s.upd with staged := s.upd.staged ++ [⟨e.ts, (Block.ofBytes l).hdr.step, false, Block.ofBytes l⟩] }) ∧
  (∀ (s : State) (l : List Byte),
    (s.ownerOf (Block.ofBytes l).hdr.ts = none ∨
      ∃ e, s.ownerOf (Block.ofBytes l).hdr.ts = some e ∧ (l.length ≠ 4160 ∨ s.maskStageOk e (Block.ofBytes l) = false)) →
    Completes (.maskStageWrite l) s fun t =>
      t.upd = { s.upd with maskRefusals := bump s.upd.maskRefusals } ∧ Records (ev3 0x2408 unitCC []) s t) ∧
  (∀ (s : State) (n : Fin 16) (l : List Byte), s.loadable = true → slotError l = none →
    exec (.programSlotWrite n l) s = .next { s with upd := { s.upd with
      progs := s.upd.progs.set n { s.upd.progs[n] with words := wordsOf l, status := 1 } } }) ∧
  (∀ (s : State) (n : Fin 16) (l : List Byte) (err : Nat),
    (s.loadable = true ∧ slotError l = some err ∨ s.loadable = false ∧ err = 0xFF) →
    Completes (.programSlotWrite n l) s fun t =>
      (t.upd.progs[n]).words = (s.upd.progs[n]).words ∧ (t.upd.progs[n]).status = 4 ∧
      (t.upd.progs[n]).errWord = BitVec.ofNat 8 err ∧ t.upd.loadRefusals = bump s.upd.loadRefusals ∧
      Records (ev3 0x2400 unitCC (arg1 n.val ++ arg1 err)) s t) ∧
  (∀ (s : State) (l : List Byte) (es : List TensorEntry), s.loadable = true →
    s.parseTable 0 [] (chunksOf (l.length / 256 + 1) 256 l) = .ok es →
    exec (.tensorTableWrite l) s = .next { s with
      upd := { s.upd with table := es }
      -- R291: an owner shard of a protected class that the pair does not hold yet is synchronised
      part := { s.part with toSync := if s.paired then s.part.toSync ++ (es.filter (fun e => e.role == 1 &&
        (e.pclass == 1 || e.pclass == 2) && !(s.ownedPaired.any (fun f => f.ts == e.ts)) &&
        !(s.part.toSync.contains e.ts))).map TensorEntry.ts else s.part.toSync } }) ∧
  (∀ (s : State) (l : List Byte) (off : Nat), (s.loadable = true ∧
      s.parseTable 0 [] (chunksOf (l.length / 256 + 1) 256 l) = .error off ∨ s.loadable = false ∧ off = 0xFFFFFFFF) →
    Completes (.tensorTableWrite l) s fun t =>
      t.upd = { s.upd with tableErr := BitVec.ofNat 32 off, loadRefusals := bump s.upd.loadRefusals } ∧
      Records (ev3 0x2407 unitCC (arg4 (BitVec.ofNat 32 off))) s t)

/-- R157 to R159: a ready window of the vector class becomes an invocation on the core that R158 picks; on an idle core its
registers are those of R159 and it runs at once. Where a clause rests on a choice of the model and not on a rule, log entries 12,
59 of notes/assumptions names it. -/
def Obligations.VectorWindowBecomesAnInvocation : Prop :=
  (∀ (s s1 : State) (ts w : U32) (d d1 : DispWin) (e e1 : TensorEntry) (v : VecEntry) (s0 s4 : U32) (c : Core),
    s.readyWindow ts w false 2 = some (d, e) → e.status ≠ .quarantined → e.status ≠ .halted → s.sizeFor d = some (s0, s4) →
    s.beginStep e d.step = (true, s1) → s1.ownerOf ts = some e1 → s1.pickCore (patternOf e1) [] = some c →
    (s1.core c).running = none → (s1.core c).queue = none → s1.checkCore (patternOf e1) c = none →
    d1 = { d with s0 := s0, s4 := s4, tPrime := e1.t + 1 } → s1.ownerOf d.ts = some e1 → s1.entryAt e1.slot = some v →
    Completes (.invocationDispatch ts w) s fun t =>
      t.vec.dispatched = bump s1.vec.dispatched ∧ t.upd.disp = s1.upd.disp.erase d ∧
      (t.core c).running = some { win := d1, entry := e1.slot } ∧ (t.core c).pc = v.off ∧
      (t.core c).x[1] = BitVec.ofNat 64 (firstElem s1 d) ∧ (t.core c).x[2] = BitVec.ofNat 64 d.g.length ∧
      (t.core c).x[3] = d.step.setWidth 64 ∧ (t.core c).x[4] = d.ts.setWidth 64 ∧ (t.core c).x[5] = (e1.t + 1).setWidth 64 ∧
      (t.core c).p = Vector.replicate 8 0 ∧ (t.core c).v = Vector.replicate 32 (Vector.replicate 32 0) ∧
      (t.core c).staged = [] ∧ (t.core c).latch = false ∧ (t.core c).loads = [] ∧ (t.core c).copies = []) ∧
  (∀ (s : State) (ts w : U32) (d : DispWin) (e : TensorEntry), s.readyWindow ts w false 2 = some (d, e) →
    e.status = .quarantined →
    exec (.invocationDispatch ts w) s = .next { s with upd := { s.upd with
      disp := s.upd.disp.erase d, skewRefusals := bump s.upd.skewRefusals } }) ∧
  (∀ (s : State) (ts w : U32) (d : DispWin) (e : TensorEntry), s.readyWindow ts w false 2 = some (d, e) →
    e.status = .halted →
    exec (.invocationDispatch ts w) s = .next { s with upd := { s.upd with
      disp := s.upd.disp.erase d, haltedWins := bump s.upd.haltedWins } })

/-- R160, R161, R165, R166, R168, R175: how runs end, are compared, commit, and take their loads and copies. R176, R177: a code
slot and the entry table are loaded whole in STANDBY or OPENING, or refused whole with the event. Where a clause rests on a choice
of the model and not on a rule, log entries 10, 13 of notes/assumptions names it. -/
def Obligations.VectorRunsEndCompareAndCommit : Prop :=
  -- R165: the budget ends the run; nothing of it is kept for a commit
  (∀ (s : State) (c : Core) (i : Invoc), (s.core c).running = some i → i.check = false → (s.core c).queue = none →
    s.vec.again = [] →
    Completes (.vcBudget c) s fun t =>
      t.vec = { s.vec with
        budgetAborts := bump s.vec.budgetAborts
        cores := s.vec.cores.set c { s.vec.cores[c] with
          running := none, staged := [], latch := false, conv := false, loads := [], copies := []
          endWait := none } }) ∧
  (∀ (s : State) (c : Core), (s.core c).running = none → exec (.vcBudget c) s = .next s) ∧
  -- R166: the invocation stops, is counted and goes to another core, or back
  (∀ (s : State) (c : Core) (unit : U8) (i : Invoc), (s.core c).running = some i →
    ∃ u : State, u.vec = { s.vec with
        reexec := bump s.vec.reexec
        cores := s.vec.cores.set c { s.vec.cores[c] with
          running := none, staged := [], latch := false, conv := false, loads := [], copies := []
          endWait := none } } ∧
      exec (.vcParity c unit) s = .next ((u.redispatch c i).startNext c)) ∧
  -- R162: an ended run that is not a check is settled
  (∀ (s : State) (c : Core) (r : RunOut) (e : TensorEntry), (s.core c).finished.find? (fun r => !r.inv.check) = some r →
    s.ownerOf r.inv.win.ts = some e → r.ending.good = true → e.status ≠ .quarantined → e.status ≠ .halted →
    exec (.invocationCommit c) s = .next (s.commitRun e r).1) ∧
  (∀ (s : State) (c : Core) (r : RunOut) (e : TensorEntry), (s.core c).finished.find? (fun r => !r.inv.check) = some r →
    s.ownerOf r.inv.win.ts = some e → r.ending.good = true → e.status = .quarantined →
    Completes (.invocationCommit c) s fun t => t.upd.skewRefusals = bump s.upd.skewRefusals ∧ t.mem = s.mem) ∧
  -- R168: two runs that agree, the first of which ended badly, and the third run when they differ
  (∀ (s : State) (c b : Core) (a r x : RunOut), (s.core c).finished.find? (fun r => r.inv.check) = some x →
    s.checkRuns x.inv = [a, r] → a.inv.runNo = 0 → r.inv.runNo = 1 → a.agrees r = false → s.thirdRuns x.inv = false →
    s.pickCore (0x8100 + a.inv.entry.toNat) [a.core, r.core] = some b → (s.core b).load < 2 →
    exec (.vcCheck c) s = .next (s.place b { a.inv with runNo := 2 })) ∧
  (∀ (s : State) (c : Core) (a r x : RunOut), (s.core c).finished.find? (fun r => r.inv.check) = some x →
    s.checkRuns x.inv = [a, r] → a.inv.runNo = 0 → r.inv.runNo = 1 → a.agrees r = true →
    exec (.vcCheck c) s = .next (s.standsWith a [r] (fun s => { s with vec := { s.vec with agreed := bump s.vec.agreed } }))) ∧
  -- R175: a load of the core's own memory ends in its register
  (∀ (s : State) (c : Core) (l : PendLoad) (rest : List PendLoad) (r : BitVec 5) (size : BitVec 3) (a : U64) (bs : List Byte) (u : State)
      (tier : Tier), (s.core c).loads = l :: rest → l.dest = .x r size → l.addrs = [a] → tierOf (offOf a) = some tier →
    (s.setCore c { s.core c with loads := rest }).readMem tier (offOf a) l.bytes = (bs, false, u) →
    exec (.vcLoadComplete c) s = .next (u.setCore c ((u.core c).deliver (.x r size) [bs]))) ∧
  (∀ (s : State) (c : Core) (l : PendLoad) (rest : List PendLoad) (r : BitVec 5) (size : BitVec 3) (a : U64) (bs : List Byte) (u : State)
      (tier : Tier), (s.core c).loads = l :: rest → l.dest = .x r size → l.addrs = [a] → tierOf (offOf a) = some tier →
    (s.setCore c { s.core c with loads := rest }).readMem tier (offOf a) l.bytes = (bs, true, u) →
    exec (.vcLoadComplete c) s = .next (u.endRun c l.pc (.fault 9 a))) ∧
  -- R161: the copies of a BSTB, the last of which lets a waiting END go
  (∀ (s : State) (c : Core), (s.core c).endWait = none →
    exec (.bstbCopyComplete c) s = .next (s.setCore c { s.core c with copies := (s.core c).copies.drop 1 })) ∧
  (∀ (s : State) (c : Core) (v : U8) (a : U32), (s.core c).endWait = some v → (s.core c).copies = [a] →
    -- and no BLDB is outstanding
    CoreState.copying { s.core c with copies := [] } = false →
    exec (.bstbCopyComplete c) s =
      .next ((s.setCore c { s.core c with copies := [] }).endRun c (s.core c).pc (.status v))) ∧
  -- R176, R177: a code slot and the entry table are loaded whole in STANDBY or OPENING, or refused whole with the event.
  (∀ (s : State) (n : Fin 16) (l : List Byte), s.loadable = true → l ≠ [] →
    codeSlotError (totalWords - s.otherWords n) l = none →
    exec (.codeSlotWrite n l) s = .next { s with vec := { s.vec with
      slots := s.vec.slots.set n { s.vec.slots[n] with words := wordsOf l, status := 1 } } }) ∧
  (∀ (s : State) (n : Fin 16) (l : List Byte) (err : Nat),
    (s.loadable = true ∧ l ≠ [] ∧ codeSlotError (totalWords - s.otherWords n) l = some err ∨
      (s.loadable = false ∨ l = []) ∧ err = 0xFFFF) →
    Completes (.codeSlotWrite n l) s fun t =>
      t.vec = { s.vec with
        slots := s.vec.slots.set n { s.vec.slots[n] with status := 4, errWord := BitVec.ofNat 16 err }
        loadRefusals := bump s.vec.loadRefusals } ∧
      Records (ev3 0x2500 unitCC (arg1 n.val ++ arg2 err)) s t) ∧
  (∀ (s : State) (l : List Byte) (vs : List VecEntry), s.loadable = true →
    s.parseVec 0 [] (chunksOf (l.length / 128 + 1) 128 l) = .ok vs →
    exec (.vectorEntryWrite l) s = .next { s with vec := { s.vec with entries := vs } }) ∧
  (∀ (s : State) (l : List Byte) (off : Nat), (s.loadable = true ∧
      s.parseVec 0 [] (chunksOf (l.length / 128 + 1) 128 l) = .error off ∨ s.loadable = false ∧ off = 0xFFFFFFFF) →
    Completes (.vectorEntryWrite l) s fun t =>
      t.vec = { s.vec with entryErr := BitVec.ofNat 32 off, loadRefusals := bump s.vec.loadRefusals } ∧
      Records (ev3 0x2501 unitCC []) s t)

/-- R114, R117, R118, R170: each VE instruction; SYS NOP and VE NOP only go on. Where a clause rests on a choice of the model and
not on a rule, log entries 3, 55 of notes/assumptions names it. -/
def Obligations.VectorElementInstructionsComputeEveryGuardedLane : Prop :=
  (∀ (s : State) (c : Core), Issues s c [] → exec (.sysNop c) s = .next (goneOn s c (s.core c))) ∧
  (∀ (s : State) (c : Core) (a : VeArgs), Issues s c (refsVe a) → exec (.veNop c a) s = .next (goneOn s c (s.core c))) ∧
  (∀ (s : State) (c : Core) (a : VeArgs), Issues s c (refsVe a) →
    exec (.veMov c a) s = .next (laneResult s c a (fun x _ _ => x))) ∧
  (∀ (s : State) (c : Core) (a : VeArgs), Issues s c (refsVe a) →
    exec (.veAdd c a) s = .next (laneResult s c a (fun x y _ => addV x y))) ∧
  (∀ (s : State) (c : Core) (a : VeArgs), Issues s c (refsVe a) →
    exec (.veSub c a) s = .next (laneResult s c a (fun x y _ => subV x y))) ∧
  (∀ (s : State) (c : Core) (a : VeArgs), Issues s c (refsVe a) →
    exec (.veMul c a) s = .next (laneResult s c a (fun x y _ => mulV x y))) ∧
  (∀ (s : State) (c : Core) (a : VeArgs), Issues s c (refsVe a) →
    exec (.veFma c a) s = .next (laneResult s c a (fun x y z => fmaV x y z))) ∧
  (∀ (s : State) (c : Core) (a : VeArgs), Issues s c (refsVe a) →
    exec (.veFms c a) s = .next (laneResult s c a (fun x y z => fmaV x y z.negate))) ∧
  (∀ (s : State) (c : Core) (a : VeArgs), Issues s c (refsVe a) →
    exec (.veDiv c a) s = .next (laneResult s c a (fun x y _ => divV x y))) ∧
  (∀ (s : State) (c : Core) (a : VeArgs), Issues s c (refsVe a) →
    exec (.veSqrt c a) s = .next (laneResult s c a (fun x _ _ => sqrtV x))) ∧
  (∀ (s : State) (c : Core) (a : VeArgs), Issues s c (refsVe a) →
    exec (.veRsqrt c a) s = .next (laneResult s c a (fun x _ _ => rsqrtV x))) ∧
  (∀ (s : State) (c : Core) (a : VeArgs), Issues s c (refsVe a) →
    exec (.veRcp c a) s = .next (laneResult s c a (fun x _ _ => rcpV x))) ∧
  (∀ (s : State) (c : Core) (a : VeArgs), Issues s c (refsVe a) →
    exec (.veMax c a) s = .next (laneResult s c a (fun x y _ => maxV x y))) ∧
  (∀ (s : State) (c : Core) (a : VeArgs), Issues s c (refsVe a) →
    exec (.veMin c a) s = .next (laneResult s c a (fun x y _ => minV x y))) ∧
  (∀ (s : State) (c : Core) (a : VeArgs), Issues s c (refsVe a) →
    exec (.veAbs c a) s = .next (laneResult s c a (fun x _ _ => x.absV))) ∧
  (∀ (s : State) (c : Core) (a : VeArgs), Issues s c (refsVe a) →
    exec (.veNeg c a) s = .next (laneResult s c a (fun x _ _ => x.negate))) ∧
  (∀ (s : State) (c : Core) (a : VeArgs), Issues s c (refsVe a) →
    exec (.veSign c a) s = .next (laneResult s c a (fun x _ _ => signV x))) ∧
  (∀ (s : State) (c : Core) (a : VeArgs), Issues s c (refsVe a) →
    exec (.veSel c a) s = .next (laneResult s c a (fun x y z => if x.truth then y else z))) ∧
  (∀ (s : State) (c : Core) (a : VeArgs), Issues s c (refsVe a) →
    exec (.veCmplt c a) s = .next (laneResult s c a (fun x y _ => boolV (ltV x y)))) ∧
  (∀ (s : State) (c : Core) (a : VeArgs), Issues s c (refsVe a) →
    exec (.veCmple c a) s = .next (laneResult s c a (fun x y _ => boolV (ltV x y || eqV x y)))) ∧
  (∀ (s : State) (c : Core) (a : VeArgs), Issues s c (refsVe a) →
    exec (.veCmpeq c a) s = .next (laneResult s c a (fun x y _ => boolV (eqV x y)))) ∧
  (∀ (s : State) (c : Core) (a : VeArgs), Issues s c (refsVe a) →
    exec (.veClamp c a) s = .next (laneResult s c a (fun x y z => minV (maxV x y) z)))

/-- R117, R118, R171: each FOP instruction at both widths; RSQRT and RCP at width 0, their only width. Where a clause rests on a
choice of the model and not on a rule, log entries 3, 55 of notes/assumptions names it. -/
def Obligations.ScalarFloatInstructionsRoundOnceAtTheirWidth : Prop :=
  (∀ (s : State) (c : Core) (a : FopArgs), Issues s c (refsFop a) →
    exec (.fopMov c a) s = .next (scalarResult s c a (fun x _ _ => x))) ∧
  (∀ (s : State) (c : Core) (a : FopArgs), Issues s c (refsFop a) →
    exec (.fopAdd c a) s = .next (scalarResult s c a (fun x y _ => addV x y))) ∧
  (∀ (s : State) (c : Core) (a : FopArgs), Issues s c (refsFop a) →
    exec (.fopSub c a) s = .next (scalarResult s c a (fun x y _ => subV x y))) ∧
  (∀ (s : State) (c : Core) (a : FopArgs), Issues s c (refsFop a) →
    exec (.fopMul c a) s = .next (scalarResult s c a (fun x y _ => mulV x y))) ∧
  (∀ (s : State) (c : Core) (a : FopArgs), Issues s c (refsFop a) →
    exec (.fopFma c a) s = .next (scalarResult s c a (fun x y z => fmaV x y z))) ∧
  (∀ (s : State) (c : Core) (a : FopArgs), Issues s c (refsFop a) →
    exec (.fopFms c a) s = .next (scalarResult s c a (fun x y z => fmaV x y z.negate))) ∧
  (∀ (s : State) (c : Core) (a : FopArgs), Issues s c (refsFop a) →
    exec (.fopDiv c a) s = .next (scalarResult s c a (fun x y _ => divV x y))) ∧
  (∀ (s : State) (c : Core) (a : FopArgs), Issues s c (refsFop a) →
    exec (.fopSqrt c a) s = .next (scalarResult s c a (fun x _ _ => sqrtV x))) ∧
  (∀ (s : State) (c : Core) (a : FopArgs), a.w = false → Issues s c (refsFop a) →
    exec (.fopRsqrt c a) s = .next (scalarResult s c a (fun x _ _ => rsqrtV x))) ∧
  (∀ (s : State) (c : Core) (a : FopArgs), a.w = false → Issues s c (refsFop a) →
    exec (.fopRcp c a) s = .next (scalarResult s c a (fun x _ _ => rcpV x))) ∧
  (∀ (s : State) (c : Core) (a : FopArgs), Issues s c (refsFop a) →
    exec (.fopMax c a) s = .next (scalarResult s c a (fun x y _ => maxV x y))) ∧
  (∀ (s : State) (c : Core) (a : FopArgs), Issues s c (refsFop a) →
    exec (.fopMin c a) s = .next (scalarResult s c a (fun x y _ => minV x y))) ∧
  (∀ (s : State) (c : Core) (a : FopArgs), Issues s c (refsFop a) →
    exec (.fopAbs c a) s = .next (scalarResult s c a (fun x _ _ => x.absV))) ∧
  (∀ (s : State) (c : Core) (a : FopArgs), Issues s c (refsFop a) →
    exec (.fopNeg c a) s = .next (scalarResult s c a (fun x _ _ => x.negate))) ∧
  (∀ (s : State) (c : Core) (a : FopArgs), Issues s c (refsFop a) →
    exec (.fopSign c a) s = .next (scalarResult s c a (fun x _ _ => signV x))) ∧
  (∀ (s : State) (c : Core) (a : FopArgs), Issues s c (refsFop a) →
    exec (.fopSel c a) s = .next (scalarResult s c a (fun x y z => if x.truth then y else z))) ∧
  (∀ (s : State) (c : Core) (a : FopArgs), Issues s c (refsFop a) →
    exec (.fopCmplt c a) s = .next (scalarResult s c a (fun x y _ => boolV (ltV x y)))) ∧
  (∀ (s : State) (c : Core) (a : FopArgs), Issues s c (refsFop a) →
    exec (.fopCmple c a) s = .next (scalarResult s c a (fun x y _ => boolV (ltV x y || eqV x y)))) ∧
  (∀ (s : State) (c : Core) (a : FopArgs), Issues s c (refsFop a) →
    exec (.fopCmpeq c a) s = .next (scalarResult s c a (fun x y _ => boolV (eqV x y)))) ∧
  (∀ (s : State) (c : Core) (a : FopArgs), Issues s c (refsFop a) →
    exec (.fopClamp c a) s = .next (scalarResult s c a (fun x y z => minV (maxV x y) z))) ∧
  (∀ (s : State) (c : Core) (a : FopArgs), Issues s c (refsFop a) → exec (.fopNop c a) s = .next (goneOn s c (s.core c)))

/-- R171: the VI instructions but F2I, and the VC instructions. Where a clause rests on a choice of the model and not on a rule,
log entry 55 of notes/assumptions names it. -/
def Obligations.IntegerLanesAndComparesWriteWhatTheTableSays : Prop :=
  (∀ (s : State) (c : Core) (a : ViArgs), Issues s c (refsVi a) →
    exec (.iadd c a) s = .next (intLanes s c a (fun x y => x + y))) ∧
  (∀ (s : State) (c : Core) (a : ViArgs), Issues s c (refsVi a) →
    exec (.isub c a) s = .next (intLanes s c a (fun x y => x - y))) ∧
  (∀ (s : State) (c : Core) (a : ViArgs), Issues s c (refsVi a) →
    exec (.imul c a) s = .next (intLanes s c a (fun x y => x * y))) ∧
  (∀ (s : State) (c : Core) (a : ViArgs), Issues s c (refsVi a) →
    exec (.iand c a) s = .next (intLanes s c a (fun x y => x &&& y))) ∧
  (∀ (s : State) (c : Core) (a : ViArgs), Issues s c (refsVi a) →
    exec (.ior c a) s = .next (intLanes s c a (fun x y => x ||| y))) ∧
  (∀ (s : State) (c : Core) (a : ViArgs), Issues s c (refsVi a) →
    exec (.ixor c a) s = .next (intLanes s c a (fun x y => x ^^^ y))) ∧
  (∀ (s : State) (c : Core) (a : ViArgs), Issues s c (refsVi a) →
    exec (.ishl c a) s = .next (intLanes s c a (fun x y => x <<< (y.toNat % 32)))) ∧
  (∀ (s : State) (c : Core) (a : ViArgs), Issues s c (refsVi a) →
    exec (.ishr c a) s = .next (intLanes s c a (fun x y => x >>> (y.toNat % 32)))) ∧
  (∀ (s : State) (c : Core) (a : ViArgs), Issues s c (refsVi a) →
    exec (.isra c a) s = .next (intLanes s c a (fun x y => x.sshiftRight (y.toNat % 32)))) ∧
  (∀ (s : State) (c : Core) (a : ViArgs), Issues s c (refsVi a) →
    exec (.iminu c a) s = .next (intLanes s c a (fun x y => if y < x then y else x))) ∧
  (∀ (s : State) (c : Core) (a : ViArgs), Issues s c (refsVi a) →
    exec (.imaxu c a) s = .next (intLanes s c a (fun x y => if x < y then y else x))) ∧
  (∀ (s : State) (c : Core) (a : ViArgs), Issues s c (refsVi a) →
    exec (.i2f c a) s = .next (intLanes s c a (fun x _ => r32 (ofIntV x.toInt)))) ∧
  (∀ (s : State) (c : Core) (a : ViArgs), Issues s c [.v a.vd.toNat] →
    exec (.iidx c a) s = .next (goneOn s c (guardedLanes (s.core c) a.vd a.pg fun i => BitVec.ofNat 32 i.val))) ∧
  (∀ (s : State) (c : Core) (a : VcArgs), Issues s c (refsVc a) →
    exec (.test c a) s = .next (comparePredicate s c a (fun x _ => x.truth))) ∧
  (∀ (s : State) (c : Core) (a : VcArgs), Issues s c (refsVc a) →
    exec (.vcCmplt c a) s = .next (comparePredicate s c a (fun x y => ltV x y))) ∧
  (∀ (s : State) (c : Core) (a : VcArgs), Issues s c (refsVc a) →
    exec (.vcCmple c a) s = .next (comparePredicate s c a (fun x y => ltV x y || eqV x y))) ∧
  (∀ (s : State) (c : Core) (a : VcArgs), Issues s c (refsVc a) →
    exec (.vcCmpeq c a) s = .next (comparePredicate s c a (fun x y => eqV x y)))

/-- R171: VRED, VMOV and PR instructions. Where a clause rests on a choice of the model and not on a rule, log entries 3, 55 of
notes/assumptions names it. -/
def Obligations.ReductionsMovesAndPredicatesWriteOneRegister : Prop :=
  (∀ (s : State) (c : Core) (a : VredArgs) (l : List Fv), Issues s c (refsVred a) →
    l = (((List.finRange 32).filter (fun i => ((s.core c).pr a.pg).getLsbD i.val)).map (fun i => v32 ((s.core c).vr a.va)[i])) →
    exec (.vredAdd c a) s = .next (goneOn s c ((s.core c).setF32 a.fd (r32 (match l with
      | [] => .fin false 0 0
      | v :: vs => vs.foldl addV v))))) ∧
  (∀ (s : State) (c : Core) (a : VredArgs) (l : List Fv), Issues s c (refsVred a) →
    l = (((List.finRange 32).filter (fun i => ((s.core c).pr a.pg).getLsbD i.val)).map (fun i => v32 ((s.core c).vr a.va)[i])) →
    exec (.vredMax c a) s = .next (goneOn s c ((s.core c).setF32 a.fd (r32 (match l with
      | [] => .inf true
      | v :: vs => vs.foldl maxV v))))) ∧
  (∀ (s : State) (c : Core) (a : VredArgs) (l : List Fv), Issues s c (refsVred a) →
    l = (((List.finRange 32).filter (fun i => ((s.core c).pr a.pg).getLsbD i.val)).map (fun i => v32 ((s.core c).vr a.va)[i])) →
    exec (.vredMin c a) s = .next (goneOn s c ((s.core c).setF32 a.fd (r32 (match l with
      | [] => .inf false
      | v :: vs => vs.foldl minV v))))) ∧
  (∀ (s : State) (c : Core) (a : VmovArgs), Issues s c [.v a.d.toNat, .f a.a.toNat] →
    exec (.vbcast c a) s = .next (goneOn s c (guardedLanes (s.core c) a.d a.pg fun _ => (s.core c).fr32 a.a))) ∧
  (∀ (s : State) (c : Core) (a : VmovArgs), Issues s c [.v a.d.toNat, .x a.a.toNat] →
    exec (.vbcastx c a) s = .next (goneOn s c (guardedLanes (s.core c) a.d a.pg fun _ => ((s.core c).xr a.a).setWidth 32))) ∧
  (∀ (s : State) (c : Core) (a : VmovArgs), Issues s c [.f a.d.toNat, .v a.a.toNat, .x a.b.toNat] →
    exec (.vext c a) s = .next (goneOn s c ((s.core c).setF32 a.d ((s.core c).vr a.a)[laneIx ((s.core c).xr a.b).toNat]))) ∧
  (∀ (s : State) (c : Core) (a : VmovArgs), Issues s c [.v a.d.toNat, .f a.a.toNat, .x a.b.toNat] →
    exec (.vins c a) s = .next (goneOn s c ((s.core c).setV a.d
      (((s.core c).vr a.d).set (laneIx ((s.core c).xr a.b).toNat) ((s.core c).fr32 a.a))))) ∧
  (∀ (s : State) (c : Core) (a : VmovArgs), Issues s c [.v a.d.toNat, .v a.a.toNat] →
    exec (.vmovr c a) s = .next (goneOn s c (guardedLanes (s.core c) a.d a.pg fun i => ((s.core c).vr a.a)[i]))) ∧
  (∀ (s : State) (c : Core) (a : VmovArgs), Issues s c [.v a.d.toNat, .v a.a.toNat, .v a.b.toNat] →
    exec (.vperm c a) s = .next (goneOn s c (guardedLanes (s.core c) a.d a.pg fun i =>
      ((s.core c).vr a.a)[laneIx (((s.core c).vr a.b)[i]).toNat]))) ∧
  (∀ (s : State) (c : Core) (a : PrArgs), Issues s c [] → exec (.pand c a) s = .next (goneOn s c ((s.core c).setP a.pd ((s.core c).pr a.pa &&& (s.core c).pr a.pb)))) ∧
  (∀ (s : State) (c : Core) (a : PrArgs), Issues s c [] → exec (.por c a) s = .next (goneOn s c ((s.core c).setP a.pd ((s.core c).pr a.pa ||| (s.core c).pr a.pb)))) ∧
  (∀ (s : State) (c : Core) (a : PrArgs), Issues s c [] → exec (.pxor c a) s = .next (goneOn s c ((s.core c).setP a.pd ((s.core c).pr a.pa ^^^ (s.core c).pr a.pb)))) ∧
  (∀ (s : State) (c : Core) (a : PrArgs), Issues s c [] → exec (.pandn c a) s = .next (goneOn s c ((s.core c).setP a.pd ((s.core c).pr a.pa &&& ~~~ (s.core c).pr a.pb)))) ∧
  (∀ (s : State) (c : Core) (a : PrArgs), Issues s c [] → exec (.pnot c a) s = .next (goneOn s c ((s.core c).setP a.pd (~~~ (s.core c).pr a.pa)))) ∧
  (∀ (s : State) (c : Core) (a : PrArgs), Issues s c [] → exec (.pset c a) s = .next (goneOn s c ((s.core c).setP a.pd (0xFFFFFFFF)))) ∧
  (∀ (s : State) (c : Core) (a : PrArgs), Issues s c [] → exec (.pclr c a) s = .next (goneOn s c ((s.core c).setP a.pd (0)))) ∧
  (∀ (s : State) (c : Core) (a : PrArgs), Issues s c [.x a.x.toNat] →
    exec (.pcount c a) s = .next (goneOn s c ((s.core c).setX a.x (BitVec.ofNat 64 ((List.range 32).filter ((s.core c).pr a.pa).getLsbD).length)))) ∧
  (∀ (s : State) (c : Core) (a : PrArgs), Issues s c [.x a.x.toNat] →
    exec (.ptox c a) s = .next (goneOn s c ((s.core c).setX a.x (((s.core c).pr a.pa).setWidth 64)))) ∧
  (∀ (s : State) (c : Core) (a : PrArgs), Issues s c [.x a.x.toNat] →
    exec (.pfromx c a) s = .next (goneOn s c ((s.core c).setP a.pd (((s.core c).xr a.x).setWidth 32)))) ∧
  (∀ (s : State) (c : Core) (a : PrArgs), Issues s c [.x a.x.toNat] →
    exec (.pfirst c a) s = .next (goneOn s c ((s.core c).setX a.x (BitVec.ofNat 64 (((List.range 32).find? ((s.core c).pr a.pa).getLsbD).getD 32))))) ∧
  (∀ (s : State) (c : Core) (a : PrArgs), Issues s c [.x a.x.toNat] →
    exec (.plt c a) s = .next (goneOn s c ((s.core c).setP a.pd (maskOf (fun i => decide (i.val < ((s.core c).xr a.x).toNat))))))

/-- R159, R171: XR, XI and LUI; X0 reads zero and P0 all ones, and neither is written. Where a clause rests on a choice of the
model and not on a rule, log entry 55 of notes/assumptions names it. -/
def Obligations.ScalarIntegerInstructionsWriteOneXRegister : Prop :=
  (∀ (s : State) (c : Core) (a : XrArgs) (x y : U64), Issues s c (refsXr a) → x = (s.core c).xr a.xa → y = (s.core c).xr a.xb →
    exec (.xrAdd c a) s = .next (goneOn s c ((s.core c).setX a.xd (x + y)))) ∧
  (∀ (s : State) (c : Core) (a : XrArgs) (x y : U64), Issues s c (refsXr a) → x = (s.core c).xr a.xa → y = (s.core c).xr a.xb →
    exec (.xrSub c a) s = .next (goneOn s c ((s.core c).setX a.xd (x - y)))) ∧
  (∀ (s : State) (c : Core) (a : XrArgs) (x y : U64), Issues s c (refsXr a) → x = (s.core c).xr a.xa → y = (s.core c).xr a.xb →
    exec (.xrMul c a) s = .next (goneOn s c ((s.core c).setX a.xd (x * y)))) ∧
  (∀ (s : State) (c : Core) (a : XrArgs) (x y : U64), Issues s c (refsXr a) → x = (s.core c).xr a.xa → y = (s.core c).xr a.xb →
    exec (.mulhu c a) s = .next (goneOn s c ((s.core c).setX a.xd (BitVec.ofNat 64 (x.toNat * y.toNat / 2 ^ 64))))) ∧
  (∀ (s : State) (c : Core) (a : XrArgs) (x y : U64), Issues s c (refsXr a) → x = (s.core c).xr a.xa → y = (s.core c).xr a.xb →
    exec (.divu c a) s = .next (goneOn s c ((s.core c).setX a.xd (if y = 0 then BitVec.allOnes 64 else x / y)))) ∧
  (∀ (s : State) (c : Core) (a : XrArgs) (x y : U64), Issues s c (refsXr a) → x = (s.core c).xr a.xa → y = (s.core c).xr a.xb →
    exec (.remu c a) s = .next (goneOn s c ((s.core c).setX a.xd (if y = 0 then x else x % y)))) ∧
  (∀ (s : State) (c : Core) (a : XrArgs) (x y : U64), Issues s c (refsXr a) → x = (s.core c).xr a.xa → y = (s.core c).xr a.xb →
    exec (.xrAnd c a) s = .next (goneOn s c ((s.core c).setX a.xd (x &&& y)))) ∧
  (∀ (s : State) (c : Core) (a : XrArgs) (x y : U64), Issues s c (refsXr a) → x = (s.core c).xr a.xa → y = (s.core c).xr a.xb →
    exec (.xrOr c a) s = .next (goneOn s c ((s.core c).setX a.xd (x ||| y)))) ∧
  (∀ (s : State) (c : Core) (a : XrArgs) (x y : U64), Issues s c (refsXr a) → x = (s.core c).xr a.xa → y = (s.core c).xr a.xb →
    exec (.xrXor c a) s = .next (goneOn s c ((s.core c).setX a.xd (x ^^^ y)))) ∧
  (∀ (s : State) (c : Core) (a : XrArgs) (x y : U64), Issues s c (refsXr a) → x = (s.core c).xr a.xa → y = (s.core c).xr a.xb →
    exec (.sll c a) s = .next (goneOn s c ((s.core c).setX a.xd (x <<< (y.toNat % 64))))) ∧
  (∀ (s : State) (c : Core) (a : XrArgs) (x y : U64), Issues s c (refsXr a) → x = (s.core c).xr a.xa → y = (s.core c).xr a.xb →
    exec (.srl c a) s = .next (goneOn s c ((s.core c).setX a.xd (x >>> (y.toNat % 64))))) ∧
  (∀ (s : State) (c : Core) (a : XrArgs) (x y : U64), Issues s c (refsXr a) → x = (s.core c).xr a.xa → y = (s.core c).xr a.xb →
    exec (.sra c a) s = .next (goneOn s c ((s.core c).setX a.xd (x.sshiftRight (y.toNat % 64))))) ∧
  (∀ (s : State) (c : Core) (a : XrArgs) (x y : U64), Issues s c (refsXr a) → x = (s.core c).xr a.xa → y = (s.core c).xr a.xb →
    exec (.slt c a) s = .next (goneOn s c ((s.core c).setX a.xd (if x.slt y then 1 else 0)))) ∧
  (∀ (s : State) (c : Core) (a : XrArgs) (x y : U64), Issues s c (refsXr a) → x = (s.core c).xr a.xa → y = (s.core c).xr a.xb →
    exec (.sltu c a) s = .next (goneOn s c ((s.core c).setX a.xd (if x < y then 1 else 0)))) ∧
  (∀ (s : State) (c : Core) (a : XrArgs) (x y : U64), Issues s c (refsXr a) → x = (s.core c).xr a.xa → y = (s.core c).xr a.xb →
    exec (.minu c a) s = .next (goneOn s c ((s.core c).setX a.xd (if y < x then y else x)))) ∧
  (∀ (s : State) (c : Core) (a : XrArgs) (x y : U64), Issues s c (refsXr a) → x = (s.core c).xr a.xa → y = (s.core c).xr a.xb →
    exec (.maxu c a) s = .next (goneOn s c ((s.core c).setX a.xd (if x < y then y else x)))) ∧
  (∀ (s : State) (c : Core) (a : XiArgs) (x y : U64), Issues s c (refsXi a) → x = (s.core c).xr a.xa → y = a.imm.signExtend 64 →
    exec (.addi c a) s = .next (goneOn s c ((s.core c).setX a.xd (x + y)))) ∧
  (∀ (s : State) (c : Core) (a : XiArgs) (x y : U64), Issues s c (refsXi a) → x = (s.core c).xr a.xa → y = a.imm.signExtend 64 →
    exec (.andi c a) s = .next (goneOn s c ((s.core c).setX a.xd (x &&& y)))) ∧
  (∀ (s : State) (c : Core) (a : XiArgs) (x y : U64), Issues s c (refsXi a) → x = (s.core c).xr a.xa → y = a.imm.signExtend 64 →
    exec (.ori c a) s = .next (goneOn s c ((s.core c).setX a.xd (x ||| y)))) ∧
  (∀ (s : State) (c : Core) (a : XiArgs) (x y : U64), Issues s c (refsXi a) → x = (s.core c).xr a.xa → y = a.imm.signExtend 64 →
    exec (.xori c a) s = .next (goneOn s c ((s.core c).setX a.xd (x ^^^ y)))) ∧
  (∀ (s : State) (c : Core) (a : XiArgs) (x y : U64), Issues s c (refsXi a) → x = (s.core c).xr a.xa → y = a.imm.signExtend 64 →
    exec (.slti c a) s = .next (goneOn s c ((s.core c).setX a.xd (if x.slt y then 1 else 0)))) ∧
  (∀ (s : State) (c : Core) (a : XiArgs) (x y : U64), Issues s c (refsXi a) → x = (s.core c).xr a.xa → y = a.imm.signExtend 64 →
    exec (.sltiu c a) s = .next (goneOn s c ((s.core c).setX a.xd (if x < y then 1 else 0)))) ∧
  (∀ (s : State) (c : Core) (a : XiArgs) (x y : U64), Issues s c (refsXi a) → x = (s.core c).xr a.xa → y = a.imm.signExtend 64 →
    exec (.slli c a) s = .next (goneOn s c ((s.core c).setX a.xd (x <<< (y.toNat % 64))))) ∧
  (∀ (s : State) (c : Core) (a : XiArgs) (x y : U64), Issues s c (refsXi a) → x = (s.core c).xr a.xa → y = a.imm.signExtend 64 →
    exec (.srli c a) s = .next (goneOn s c ((s.core c).setX a.xd (x >>> (y.toNat % 64))))) ∧
  (∀ (s : State) (c : Core) (a : XiArgs) (x y : U64), Issues s c (refsXi a) → x = (s.core c).xr a.xa → y = a.imm.signExtend 64 →
    exec (.srai c a) s = .next (goneOn s c ((s.core c).setX a.xd (x.sshiftRight (y.toNat % 64))))) ∧
  (∀ (s : State) (c : Core) (xd : BitVec 5) (imm : BitVec 21), Issues s c [.x xd.toNat] →
    exec (.lui c xd imm) s = .next (goneOn s c ((s.core c).setX xd (imm.signExtend 64 <<< 11)))) ∧
  (∀ (k : CoreState) (v : U64), k.xr 0 = 0 ∧ k.setX 0 v = k) ∧
  (∀ (k : CoreState) (r : BitVec 5) (v : U64), r ≠ 0 → (k.setX r v).xr r = v ∧ ∀ q, q ≠ r → (k.setX r v).xr q = k.xr q) ∧
  (∀ (k : CoreState) (v : U32), k.pr 0 = 0xFFFFFFFF ∧ k.setP 0 v = k) ∧
  (∀ (k : CoreState) (r : BitVec 3) (v : U32), r ≠ 0 → (k.setP r v).pr r = v ∧ ∀ q, q ≠ r → (k.setP r v).pr q = k.pr q)

/-- R49 to R53, R170, R171: the conversions deliver their rounded values and count saturations and non-finite inputs; the raw
moves keep all 64 bits. Where a clause rests on a choice of the model and not on a rule, log entries 3, 55 of notes/assumptions
names it. -/
def Obligations.ConversionsRoundCountAndMovesKeepBits : Prop :=
  (∀ (s : State) (c : Core) (a : VeArgs) (one : Fin 32 → Rounded), Issues s c (refsVe a) →
    (∀ i, one i = convertTo (a.vb.toNat % 16) (v32 (if a.absa then r32 (v32 ((s.core c).vr a.va)[i]).absV else ((s.core c).vr a.va)[i]))) →
    exec (.veCvt c a) s = .next (converted s c (guardedLanes (s.core c) a.vd a.pg fun i =>
      r32 (valueOf (a.vb.toNat % 16) (one i).bits)) (((s.core c).guarded a.pg).map one))) ∧
  (∀ (s : State) (c : Core) (a : ViArgs) (one : Fin 32 → Rounded), Issues s c (refsVi a) →
    (∀ i, one i = roundInt 32 (-2147483648) 2147483647 (v32 ((s.core c).vr a.va)[i])) →
    exec (.f2i c a) s = .next (converted s c (guardedLanes (s.core c) a.vd a.pg fun i => BitVec.ofNat 32 (one i).bits)
      (((s.core c).guarded a.pg).map one))) ∧
  (∀ (s : State) (c : Core) (a : FopArgs), Issues s c (refsFop a) → a.w = false → a.fb.toNat % 16 = 1 →
    exec (.fopCvt c a) s = .next (goneOn s c ((s.core c).setF a.fd
      (r64 (if a.absa then (v32 ((s.core c).fr32 a.fa)).absV else v32 ((s.core c).fr32 a.fa)))))) ∧
  (∀ (s : State) (c : Core) (a : FopArgs) (r : Rounded) (x : Fv), Issues s c (refsFop a) → (a.w = true ∨ a.fb.toNat % 16 ≠ 1) →
    x = (if a.w then v64 ((s.core c).fr a.fa) else v32 ((s.core c).fr32 a.fa)) →
    r = convertTo (a.fb.toNat % 16) (if a.absa then x.absV else x) →
    exec (.fopCvt c a) s = .next (converted s c ((s.core c).setF32 a.fd (r32 (valueOf (a.fb.toNat % 16) r.bits))) [r])) ∧
  (∀ (s : State) (c : Core) (d a : BitVec 5) (r : Rounded), Issues s c [.x d.toNat, .f a.toNat] →
    r = roundInt 64 (-(2 ^ 63)) (2 ^ 63 - 1) (v64 ((s.core c).fr a)) →
    exec (.fcvtxf c d a) s = .next (converted s c ((s.core c).setX d (BitVec.ofNat 64 r.bits)) [r])) ∧
  (∀ (s : State) (c : Core) (d a : BitVec 5), Issues s c [.f d.toNat, .x a.toNat] →
    exec (.fcvtfx c d a) s = .next (goneOn s c ((s.core c).setF d (r64 (ofIntV ((s.core c).xr a).toInt))))) ∧
  (∀ (s : State) (c : Core) (d a : BitVec 5), Issues s c [.x d.toNat, .f a.toNat] →
    exec (.fmvxf c d a) s = .next (goneOn s c ((s.core c).setX d ((s.core c).fr a)))) ∧
  (∀ (s : State) (c : Core) (d a : BitVec 5), Issues s c [.f d.toNat, .x a.toNat] →
    exec (.fmvfx c d a) s = .next (goneOn s c ((s.core c).setF d ((s.core c).xr a))))

/-- R160, R161, R164, R169, R171: branches and jumps set the program counter and at most a link register; END ends the run with
its status, or waits for its copies; FAULT and a JALR to a bad target fault. Where a clause rests on a choice of the model and not
on a rule, log entry 55 of notes/assumptions names it. -/
def Obligations.ControlFlowSetsTheProgramCounterOrEndsTheRun : Prop :=
  (∀ (s : State) (c : Core) (xa xb : BitVec 5) (cond : BitVec 3) (off : BitVec 13) (x y : U64), Issues s c [.x xa.toNat, .x xb.toNat] →
    x = (s.core c).xr xa → y = (s.core c).xr xb →
    exec (.br c xa xb cond off) s = .next (s.setCore c { s.core c with counters := countsOf s c, pc :=
      if (cond = 0 ∧ x = y) ∨ (cond = 1 ∧ x ≠ y) ∨ (cond = 2 ∧ x.toInt < y.toInt) ∨ (cond = 3 ∧ y.toInt ≤ x.toInt) ∨
          (cond = 4 ∧ x.toNat < y.toNat) ∨ (cond = 5 ∧ y.toNat ≤ x.toNat)
      then (s.core c).pc + (off.signExtend 32 <<< 2) else (s.core c).pc + 4 })) ∧
  (∀ (s : State) (c : Core) (pn : BitVec 3) (cond : BitVec 2) (off : BitVec 21) (p : U32), Issues s c [] → p = (s.core c).pr pn →
    exec (.bp c pn cond off) s = .next (s.setCore c { s.core c with counters := countsOf s c, pc :=
      if (cond = 0 ∧ p ≠ 0) ∨ (cond = 1 ∧ p = 0) ∨ (cond = 2 ∧ p = 0xFFFFFFFF) ∨ (cond = 3 ∧ p ≠ 0xFFFFFFFF)
      then (s.core c).pc + (off.signExtend 32 <<< 2) else (s.core c).pc + 4 })) ∧
  (∀ (s : State) (c : Core) (xd : BitVec 5) (off : BitVec 21), Issues s c [.x xd.toNat] →
    exec (.jal c xd off) s = .next (s.setCore c { (s.core c).setX xd (((s.core c).pc + 4).setWidth 64) with
      counters := countsOf s c, pc := (s.core c).pc + (off.signExtend 32 <<< 2) })) ∧
  (∀ (s : State) (c : Core) (xd xa : BitVec 5), Issues s c [.x xd.toNat, .x xa.toNat] → ((s.core c).xr xa).toNat % 4 = 0 →
    ((s.core c).xr xa).toNat < s.slotBytes (s.core c) →
    exec (.jalr c xd xa) s = .next (s.setCore c { (s.core c).setX xd (((s.core c).pc + 4).setWidth 64) with
      counters := countsOf s c, pc := ((s.core c).xr xa).setWidth 32 })) ∧
  (∀ (s : State) (c : Core) (xd xa : BitVec 5), Issues s c [.x xd.toNat, .x xa.toNat] → ((s.core c).xr xa).toNat % 4 ≠ 0 →
    exec (.jalr c xd xa) s = .next (s.endRun c (s.core c).pc (.fault 1 ((s.core c).xr xa)))) ∧
  (∀ (s : State) (c : Core) (xd xa : BitVec 5), Issues s c [.x xd.toNat, .x xa.toNat] → ((s.core c).xr xa).toNat % 4 = 0 →
    s.slotBytes (s.core c) ≤ ((s.core c).xr xa).toNat →
    exec (.jalr c xd xa) s = .next (s.endRun c (s.core c).pc (.fault 5 ((s.core c).xr xa)))) ∧
  -- a good END with an empty queue leaves the run to its commit
  (∀ (s : State) (c : Core) (xa : BitVec 5) (i : Invoc), Issues s c [.x xa.toNat] → (s.core c).copying = false → s.vec.again = [] →
    (s.core c).running = some i → (s.core c).queue = none → ((s.core c).xr xa).setWidth 8 = (0 : U8) →
    exec (.endOp c xa) s = .next (s.setCore c { s.core c with
      running := none, staged := [], latch := false, conv := false, loads := [], copies := []
      endWait := none, counters := countsOf s c, finished := (s.core c).finished ++ [⟨c, (s.core c).pc, i, (s.core c).staged, (s.core c).latch, .status 0⟩] })) ∧
  (∀ (s : State) (c : Core) (xa : BitVec 5), Issues s c [.x xa.toNat] → (s.core c).copying = true →
    exec (.endOp c xa) s = .next (s.setCore c { s.core c with counters := countsOf s c, endWait := some (((s.core c).xr xa).setWidth 8) })) ∧
  (∀ (s : State) (c : Core) (xa : BitVec 5), Issues s c [.x xa.toNat] →
    exec (.faultOp c xa) s = .next ((s.setCore c { s.core c with counters := countsOf s c }).endRun c (s.core c).pc (.fault 8 ((s.core c).xr xa &&& 0xFFFF#64)))) ∧
  -- what a fault of a run that is no check leaves: counted, its core stopped, no staged block kept
  (∀ (s : State) (c : Core) (pc : U32) (code : U8) (addr : U64) (i : Invoc), (s.core c).running = some i → i.check = false →
    (s.core c).queue = none → s.vec.again = [] → (s.endRun c pc (.fault code addr)).vec = { s.vec with
      faults := bump s.vec.faults
      cores := s.vec.cores.set c { s.vec.cores[c] with
        running := none, staged := [], latch := false, conv := false, loads := [], copies := []
        endWait := none } })

/-- R172 to R175: a granted load goes out to memory, or delivers from scratch at once; an access that is not granted faults with
its code and address. Where a clause rests on a choice of the model and not on a rule, log entry 55 of notes/assumptions names it.
-/
def Obligations.LoadsAreIssuedOrDeliverFromScratch : Prop :=
  (∀ (s : State) (c : Core) (rs : List RegRef) (n : Nat) (d : LoadDest) (f : CoreState → List U64), Issues s c rs →
    Granted s c true false n (f (s.core c)) →
    s.loadOp c rs true n d f = goneOn s c { s.core c with loads := (s.core c).loads ++ [⟨(s.core c).pc, d, f (s.core c)⟩] }) ∧
  (∀ (s : State) (c : Core) (rs : List RegRef) (n : Nat) (d : LoadDest) (f : CoreState → List U64), Issues s c rs →
    Granted s c false false n (f (s.core c)) → (∀ a ∈ f (s.core c), (s.core c).bldbInto a.toNat n = false) →
    s.loadOp c rs false n d f = s.setCore c ((s.core c).next.deliver d
      ((f (s.core c)).map fun a => cellsRead (s.core c).scratch a.toNat n))) ∧
  (∀ (s : State) (c : Core) (rs : List RegRef) (g : Bool) (n : Nat) (d : LoadDest) (f : CoreState → List U64) (code : U8) (a : U64),
    Issues s c rs → s.firstFault (s.core c) g false n (f (s.core c)) = some (code, a) →
    s.loadOp c rs g n d f = s.endRun c (s.core c).pc (.fault code a)) ∧
  (∀ (s : State) (c : Core) (a : LsxArgs), a.size.toNat ≤ 6 →
    exec (.ldx c a) s = .next (s.loadOp c [.x a.x.toNat, .x a.xa.toNat] a.g (2 ^ (a.size.toNat % 4)) (.x a.x a.size)
      (fun k => [k.xr a.xa + a.off.signExtend 64]))) ∧
  (∀ (s : State) (c : Core) (a : LsfArgs),
    exec (.ldf c a) s = .next (s.loadOp c [.f a.f.toNat, .x a.xa.toNat] a.g (if a.w then 8 else 4) (.f a.f a.w)
      (fun k => [k.xr a.xa + a.off.signExtend 64]))) ∧
  (∀ (s : State) (c : Core) (a : VmemArgs), vmemOk a = true →
    exec (.vld c a) s = .next (s.loadOp c [.v a.v.toNat, .x a.xa.toNat, .x a.xb.toNat] a.g (fmtBits a.fmt.toNat / 8)
      (.v a.v a.fmt ((s.core c).pr a.pg)) (fun k => (k.guarded a.pg).map fun i =>
        k.xr a.xa + (if a.xb = 0 then BitVec.ofNat 64 (fmtBits a.fmt.toNat / 8) else k.xr a.xb) * BitVec.ofNat 64 i.val))) ∧
  (∀ (s : State) (c : Core) (a : VmemArgs), vmemOk a = true →
    exec (.vgath c a) s = .next (s.loadOp c [.v a.v.toNat, .x a.xa.toNat, .v a.xb.toNat] a.g (fmtBits a.fmt.toNat / 8)
      (.v a.v a.fmt ((s.core c).pr a.pg)) (fun k => (k.guarded a.pg).map fun i =>
        k.xr a.xa + ((k.vr a.xb)[i]).setWidth 64 * BitVec.ofNat 64 (fmtBits a.fmt.toNat / 8)))) ∧
  (∀ (s : State) (c : Core) (xd xa xs : BitVec 5) (sel : BitVec 4) (e : TensorEntry) (st : Stream),
    Issues s c [.x xd.toNat, .x xa.toNat, .x xs.toNat] →
    s.blockArg (s.core c) sel false ((s.core c).xr xa) = some (e, st) → ((s.core c).xr xs).toNat % 64 = 0 →
    ((s.core c).xr xs).toNat + 4096 ≤ 0x40000 → (s.core c).bstbFrom ((s.core c).xr xs).toNat 4096 = false →
    exec (.bldb c xd xa xs sel) s = .next (goneOn s c { s.core c with
      loads := (s.core c).loads ++ [⟨(s.core c).pc, .blk xd st (((s.core c).xr xa).setWidth 32) (((s.core c).xr xs).setWidth 32), []⟩] }))

/-- R161, R172 to R174: a granted store writes its bytes and nothing else; scratch and global memory keep every other byte; BSTB
stages a block of scratch. Where a clause rests on a choice of the model and not on a rule, log entry 55 of notes/assumptions
names it. -/
def Obligations.StoresWriteTheirBytesOnly : Prop :=
  -- scratch: the register file, memory and every byte of scratch outside the stored ones stay
  (∀ (s : State) (c : Core) (rs : List RegRef) (n : Nat) (a : U64) (l : List Byte), Issues s c rs → Granted s c false true n [a] →
    (s.core c).bstbFrom a.toNat l.length = false → (s.core c).bldbInto a.toNat l.length = false →
    s.storeOp c rs false n (fun _ => [(a, l, none)]) =
      (goneOn s c { s.core c with scratch := cellsWrite (s.core c).scratch a.toNat l }).countConv 0 0) ∧
  (∀ (m : List Host.Cell) (o b : Nat) (l : List Byte), Memory.wf m = true → (b + 1 ≤ o ∨ o + l.length ≤ b) →
    cellsRead (cellsWrite m o l) b 1 = cellsRead m b 1) ∧
  (∀ (m : List Host.Cell) (o : Nat) (l : List Byte), Memory.wf m = true → cellsRead (cellsWrite m o l) o l.length = l) ∧
  -- global memory
  (∀ (s : State) (c : Core) (rs : List RegRef) (n : Nat) (a : U64) (l : List Byte) (t : Tier), Issues s c rs →
    Granted s c true true n [a] → (s.core c).loadsFrom a l.length = false → tierOf (offOf a) = some t →
    s.storeOp c rs true n (fun _ => [(a, l, none)]) =
      ((s.writeMem t (offOf a) l).setCore c { s.core c with pc := (s.core c).pc + 4, counters := countsOf s c }).countConv 0 0) ∧
  (∀ (s : State) (c : Core) (a : LsxArgs), a.size.toNat ≤ 3 →
    exec (.stx c a) s = .next (s.storeOp c [.x a.x.toNat, .x a.xa.toNat] a.g (2 ^ (a.size.toNat % 4))
      (fun k => [(k.xr a.xa + a.off.signExtend 64, leBytes (2 ^ (a.size.toNat % 4)) (k.xr a.x).toNat, none)]))) ∧
  (∀ (s : State) (c : Core) (a : LsfArgs),
    exec (.stf c a) s = .next (s.storeOp c [.f a.f.toNat, .x a.xa.toNat] a.g (if a.w then 8 else 4)
      (fun k => [(k.xr a.xa + a.off.signExtend 64, if a.w then le64 (k.fr a.f) else le32 (k.fr32 a.f), none)]))) ∧
  (∀ (s : State) (c : Core) (a : VmemArgs), vmemOk a = true →
    exec (.vst c a) s = .next (s.storeOp c [.v a.v.toNat, .x a.xa.toNat, .x a.xb.toNat] a.g (fmtBits a.fmt.toNat / 8)
      (fun k => (k.guarded a.pg).map fun i =>
        (k.xr a.xa + (if a.xb = 0 then BitVec.ofNat 64 (fmtBits a.fmt.toNat / 8) else k.xr a.xb) * BitVec.ofNat 64 i.val,
         storeLane a.fmt.toNat (k.vr a.v)[i])))) ∧
  (∀ (s : State) (c : Core) (a : VmemArgs), vmemOk a = true →
    exec (.vscat c a) s = .next (s.storeOp c [.v a.v.toNat, .x a.xa.toNat, .v a.xb.toNat] a.g (fmtBits a.fmt.toNat / 8)
      (fun k => (k.guarded a.pg).map fun i =>
        (k.xr a.xa + ((k.vr a.xb)[i]).setWidth 64 * BitVec.ofNat 64 (fmtBits a.fmt.toNat / 8),
         storeLane a.fmt.toNat (k.vr a.v)[i])))) ∧
  (∀ (s : State) (c : Core) (rs : List RegRef) (g : Bool) (n : Nat) (f : CoreState → List (U64 × List Byte × Option Rounded))
      (code : U8) (a : U64), Issues s c rs → s.firstFault (s.core c) g true n ((f (s.core c)).map (·.1)) = some (code, a) →
    s.storeOp c rs g n f = s.endRun c (s.core c).pc (.fault code a)) ∧
  (∀ (s : State) (c : Core) (xa xs : BitVec 5) (sel : BitVec 4) (e : TensorEntry) (st : Stream),
    Issues s c [.x xa.toNat, .x xs.toNat] → s.blockArg (s.core c) sel true ((s.core c).xr xa) = some (e, st) →
    ((s.core c).xr xs).toNat % 64 = 0 → ((s.core c).xr xs).toNat + 4096 ≤ 0x40000 →
    (∀ b ∈ (s.core c).staged, ¬ (b.stream = st ∧ b.idx = ((s.core c).xr xa).setWidth 32)) → (s.core c).staged.length < 64 →
    (s.core c).bldbInto ((s.core c).xr xs).toNat 4096 = false → (s.core c).stagedCount < 128 →
    exec (.bstb c xa xs sel) s = .next (goneOn (s.stageWrite c (s.core c).freePlace) c { s.core c with
      staged := (s.core c).staged ++ [⟨st, ((s.core c).xr xa).setWidth 32, cellsRead (s.core c).scratch ((s.core c).xr xs).toNat 4096,
        (s.core c).freePlace, (s.core c).conv⟩]
      copies := (s.core c).copies ++ [((s.core c).xr xs).setWidth 32] })) ∧
  (∀ (s : State) (c : Core) (xa xs : BitVec 5) (sel : BitVec 4) (e : TensorEntry) (st : Stream),
    Issues s c [.x xa.toNat, .x xs.toNat] → s.blockArg (s.core c) sel true ((s.core c).xr xa) = some (e, st) →
    ((s.core c).xr xs).toNat % 64 = 0 → ((s.core c).xr xs).toNat + 4096 ≤ 0x40000 →
    ((∃ b ∈ (s.core c).staged, b.stream = st ∧ b.idx = ((s.core c).xr xa).setWidth 32) ∨ 64 ≤ (s.core c).staged.length) →
    exec (.bstb c xa xs sel) s = .next (s.endRun c (s.core c).pc (.fault 7 ((s.core c).xr xs))))

/-- R169 to R171, R176: the command that a word of vector code spells on a core, with every operand at every value of its field.
-/
def Obligations.VectorWordsSpellTheirCommands : Prop :=
  -- R176: a word that may not stand in a code slot spells none; every other one spells a command
  (∀ (c : Core) (w : U32), wordOk w = false → vectorInstr c w = none) ∧
  (∀ (c : Core) (w : U32), wordOk w = true → ∃ i, vectorInstr c w = some i) ∧
  -- R169: the layouts, major code first
  (∀ (c : Core) (x : BitVec 5), vectorInstr c 0 = some (.sysNop c) ∧
    vectorInstr c (0x00#6 ++ x ++ 0#15 ++ 0x01#6) = some (.endOp c x) ∧
    vectorInstr c (0x00#6 ++ x ++ 0#15 ++ 0x02#6) = some (.faultOp c x)) ∧
  (∀ (c : Core) (vd va vb : BitVec 5) (s n a : Bool) (pg : BitVec 3),
    vectorInstr c (0x01#6 ++ vd ++ va ++ vb ++ 0x04#5 ++ BitVec.ofBool s ++ BitVec.ofBool n ++ BitVec.ofBool a ++ pg) =
      some (.veAdd c { vd := vd, va := va, vb := vb, s := s, negb := n, absa := a, pg := pg })) ∧
  (∀ (c : Core) (pd pg : BitVec 3) (k : BitVec 2) (va vb : BitVec 5) (s n a : Bool),
    vectorInstr c (0x02#6 ++ pd ++ k ++ va ++ vb ++ 0x13#5 ++ BitVec.ofBool s ++ BitVec.ofBool n ++ BitVec.ofBool a ++ pg) =
      some (.vcCmplt c { pd := pd, combine := k, va := va, vb := vb, s := s, negb := n, absa := a, pg := pg })) ∧
  (∀ (c : Core) (vd va vb : BitVec 5) (s : Bool) (pg : BitVec 3),
    vectorInstr c (0x03#6 ++ vd ++ va ++ vb ++ 0x06#5 ++ BitVec.ofBool s ++ 0#2 ++ pg) =
      some (.ishl c { vd := vd, va := va, vb := vb, s := s, pg := pg })) ∧
  (∀ (c : Core) (fd va : BitVec 5) (pg : BitVec 3),
    vectorInstr c (0x04#6 ++ fd ++ va ++ 0#5 ++ 0x0D#5 ++ 0#3 ++ pg) = some (.vredMax c { fd := fd, va := va, pg := pg })) ∧
  (∀ (c : Core) (d a b : BitVec 5) (pg : BitVec 3),
    vectorInstr c (0x05#6 ++ d ++ a ++ b ++ 0x05#5 ++ 0#3 ++ pg) = some (.vperm c { d := d, a := a, b := b, pg := pg })) ∧
  (∀ (c : Core) (pd pa pb : BitVec 3),
    vectorInstr c (0x06#6 ++ pd ++ pa ++ pb ++ 0#5 ++ 0#6 ++ 0x03#6) = some (.pandn c { pd := pd, pa := pa, pb := pb, x := 0 })) ∧
  (∀ (c : Core) (d a b : BitVec 5), vectorInstr c (0x08#6 ++ d ++ a ++ b ++ 0x04#6 ++ 0#5) = some (.divu c { xd := d, xa := a, xb := b })) ∧
  (∀ (c : Core) (d a : BitVec 5) (imm : BitVec 12),
    vectorInstr c (0x09#6 ++ d ++ a ++ 0x4#4 ++ imm) = some (.slti c { xd := d, xa := a, imm := imm })) ∧
  (∀ (c : Core) (d : BitVec 5) (imm : BitVec 21), vectorInstr c (0x0A#6 ++ d ++ imm) = some (.lui c d imm)) ∧
  (∀ (c : Core) (a b : BitVec 5) (k : BitVec 3) (off : BitVec 13), k.toNat ≤ 5 →
    vectorInstr c (0x0C#6 ++ a ++ b ++ k ++ off) = some (.br c a b k off)) ∧
  (∀ (c : Core) (d : BitVec 5) (off : BitVec 21), vectorInstr c (0x0D#6 ++ d ++ off) = some (.jal c d off)) ∧
  (∀ (c : Core) (d a : BitVec 5), vectorInstr c (0x0E#6 ++ d ++ a ++ 0#16) = some (.jalr c d a)) ∧
  (∀ (c : Core) (p : BitVec 3) (k : BitVec 2) (off : BitVec 21), vectorInstr c (0x0F#6 ++ p ++ k ++ off) = some (.bp c p k off)) ∧
  (∀ (c : Core) (d a b : BitVec 5) (w n m : Bool),
    vectorInstr c (0x10#6 ++ d ++ a ++ b ++ 0x06#5 ++ BitVec.ofBool w ++ BitVec.ofBool n ++ BitVec.ofBool m ++ 0#3) =
      some (.fopMul c { fd := d, fa := a, fb := b, w := w, negb := n, absa := m })) ∧
  (∀ (c : Core) (d a : BitVec 5), vectorInstr c (0x11#6 ++ d ++ a ++ 0#5 ++ 0x02#5 ++ 0#6) = some (.fcvtxf c d a)) ∧
  (∀ (c : Core) (x a : BitVec 5) (size : BitVec 3) (g : Bool) (off : BitVec 12), size.toNat ≤ 6 →
    vectorInstr c (0x18#6 ++ x ++ a ++ size ++ BitVec.ofBool g ++ off) =
      some (.ldx c { x := x, xa := a, size := size, g := g, off := off })) ∧
  (∀ (c : Core) (f a : BitVec 5) (w g : Bool) (off : BitVec 12),
    vectorInstr c (0x1B#6 ++ f ++ a ++ BitVec.ofBool w ++ 0#2 ++ BitVec.ofBool g ++ off) =
      some (.stf c { f := f, xa := a, w := w, g := g, off := off })) ∧
  (∀ (c : Core) (v a b : BitVec 5) (fmt : BitVec 4) (g : Bool) (pg : BitVec 3), fmt.toNat ∈ [2, 3, 4, 5, 6, 10, 11] →
    vectorInstr c (0x1C#6 ++ v ++ a ++ b ++ fmt ++ BitVec.ofBool g ++ 0#3 ++ pg) =
      some (.vld c { v := v, xa := a, xb := b, fmt := fmt, g := g, pg := pg })) ∧
  (∀ (c : Core) (d a b : BitVec 5) (sel : BitVec 4), vectorInstr c (0x20#6 ++ d ++ a ++ b ++ sel ++ 0#7) = some (.bldb c d a b sel)) ∧
  (∀ (c : Core) (a b : BitVec 5) (sel : BitVec 4), vectorInstr c (0x21#6 ++ 0#5 ++ a ++ b ++ sel ++ 0#7) = some (.bstb c a b sel))

/-- R182, R184: the program and segment tables are taken whole, or refused whole with the offset of their first bad row. R26, R185
to R187, R192: a pass starts, stalls once, and ends when nothing of it is left. -/
def Obligations.StreamTablesAreTakenWholeOrRefusedWhole : Prop :=
  (∀ (s : State) (l : List Byte) (rows : List (List Byte)), rows = chunksOf (l.length / 64 + 1) 64 l → s.loadable = true →
    (∀ x ∈ rows.zipIdx, progRowOk s.str.segs (rows.map streamProgOf) x.2 x.1 = true) →
    exec (.streamProgramTableWrite l) s = .next { s with str := { s.str with progs := rows.map streamProgOf } }) ∧
  (∀ (s : State) (l : List Byte), s.loadable = false →
    Completes (.streamProgramTableWrite l) s fun t =>
      t.str = { s.str with progErr := 0xFFFFFFFF, refusals := bump s.str.refusals } ∧ Records (ev3 0x2600 unitStr []) s t) ∧
  (∀ (s : State) (l : List Byte) (rows : List (List Byte)) (n : Nat), rows = chunksOf (l.length / 64 + 1) 64 l → s.loadable = true →
    rows.zipIdx.findIdx? (fun x => !progRowOk s.str.segs (rows.map streamProgOf) x.2 x.1) = some n →
    Completes (.streamProgramTableWrite l) s fun t =>
      t.str = { s.str with progErr := BitVec.ofNat 32 (64 * n), refusals := bump s.str.refusals } ∧
      Records (ev3 0x2600 unitStr []) s t) ∧
  (∀ (s : State) (l : List Byte) (rows : List (List Byte)), rows = chunksOf (l.length / 32 + 1) 32 l → s.loadable = true →
    (∀ x ∈ rows.zipIdx, segRowOk s x.2 x.1 = true) →
    (∀ p ∈ s.str.progs, progFits (rows.map segmentOf) p = true) →
    exec (.segmentTableWrite l) s = .next { s with str := { s.str with segs := rows.map segmentOf } }) ∧
  (∀ (s : State) (l : List Byte), s.loadable = false →
    Completes (.segmentTableWrite l) s fun t =>
      t.str = { s.str with segErr := 0xFFFFFFFF, refusals := bump s.str.refusals } ∧ Records (ev3 0x2600 unitStr []) s t) ∧
  (∀ (s : State) (l : List Byte) (rows : List (List Byte)) (n : Nat), rows = chunksOf (l.length / 32 + 1) 32 l → s.loadable = true →
    rows.zipIdx.findIdx? (fun x => !segRowOk s x.2 x.1) = some n →
    Completes (.segmentTableWrite l) s fun t =>
      t.str = { s.str with segErr := BitVec.ofNat 32 (32 * n), refusals := bump s.str.refusals } ∧
      Records (ev3 0x2600 unitStr []) s t) ∧
  -- R26, R185 to R187, R192: a pass starts, stalls once, and ends when nothing of it is left.
  -- R185: the start of a program that host action starts
  (∀ (s : State) (v : U64) (step : U32) (p : U8) (g : StreamProg), step = v.setWidth 32 →
    p = ((v >>> 32) &&& 0xF#64).setWidth 8 → s.aboveFailed step = false → s.progOf p = some g → g.trigger = 0 →
    s.passMayStart p step = true →
    exec (.streamStartAction v) s = .next { s with str := { s.str with
      startedFor := s.str.startedFor ++ [(p, step)], started := bump s.str.started
      passes := s.str.passes ++ [{ prog := p, step := step, nextSeg := 0, nextBlk := 0 }]
      passStatus := setPass s.str.passStatus p.toNat (step, 1) } }) ∧
  -- R185: any other start is refused
  (∀ (s : State) (v : U64) (step : U32) (p : U8), step = v.setWidth 32 → p = ((v >>> 32) &&& 0xF#64).setWidth 8 →
    (∀ g, s.progOf p = some g → g.trigger ≠ 0 ∨ s.passMayStart p step = false) →
    Completes (.streamStartAction v) s fun t =>
      t.str = { s.str with passStatus := setPass s.str.passStatus p.toNat (step, 4), refusals := bump s.str.refusals } ∧
      Records (ev3 0x2601 unitStr (arg4 step ++ [p] ++ arg4 s.fence.cur)) s t) ∧
  -- R26: above a failed step the refused start is counted with the reduction engine's refusals as well
  (∀ (s : State) (v : U64), s.aboveFailed (v.setWidth 32) = true →
    (∀ g, s.progOf (((v >>> 32) &&& 0xF#64).setWidth 8) = some g →
      g.trigger ≠ 0 ∨ s.passMayStart (((v >>> 32) &&& 0xF#64).setWidth 8) (v.setWidth 32) = false) →
    Completes (.streamStartAction v) s fun t => t.red = { s.red with stepRefusals := bump s.red.stepRefusals }) ∧
  -- R186: a pass with nothing left ends; the programs chained to it start
  (∀ (s : State) (prog : U8) (step : U32) (p : Pass), s.passAt prog step = some p → s.passLeft p = 0 →
    (∀ g ∈ s.str.progs, ¬ (g.trigger = 2 ∧ g.chained = prog)) →
    Completes (.passEnd prog step) s fun t =>
      t.str.passes = s.str.passes.filter (fun q => !(q.prog == p.prog && q.step == p.step)) ∧
      t.str.ended = bump s.str.ended ∧ t.str.passStatus = setPass s.str.passStatus p.prog.toNat (p.step, 2) ∧ Quiet s t) ∧
  (∀ (s : State) (prog : U8) (step : U32) (p : Pass), s.passAt prog step = some p → s.passLeft p ≠ 0 →
    exec (.passEnd prog step) s = .next s) ∧
  -- R192: no credit at a destination, recorded once
  (∀ (s : State) (prog : U8) (step : U32) (port : Port) (p : Pass) (g : StreamProg), s.passAt prog step = some p →
    s.progOf prog = some g → p.stallSeen = false → some port ∈ s.passPorts g →
    (s.port port).weightRoom ((s.passPorts g).count (some port)) = false →
    Completes (.streamStall prog step port) s fun t =>
      t.str = { s.str with passes := s.str.passes.map (fun q =>
        if q.prog == p.prog && q.step == p.step then { p with stallSeen := true } else q) } ∧
      Records (ev3 0x2603 unitStr (arg1 port.val ++ arg4 step)) s t)

/-- R188 to R193: a block is sent to every destination when all have credit, and is then unacknowledged at each fabric
destination. Where a clause rests on a choice of the model and not on a rule, log entries 10, 11 of notes/assumptions names it. -/
def Obligations.WeightBlocksGoToEveryDestination : Prop :=
  -- nothing is held ahead and every destination has a credit: the next block of the pass is converted and sent at once
  (∀ (s : State) (prog : U8) (step : U32) (p : Pass) (g : StreamProg) (i : Nat) (sg : Segment) (sent : Nat) (e : TensorEntry),
    s.passAt prog step = some p → s.progOf prog = some g → p.ahead = [] → s.str.aheadBytes + 4160 ≤ aheadMost →
    nextLocal (s.segsOf g) p.nextSeg.toNat p.nextBlk.toNat = some (i, sg, sent) → s.ownerOf sg.ts = some e →
    s.passRoom g = true →
    Completes (.weightBlockSend prog step) s fun t =>
      t.str.sent = bumpBy s.str.sent (g.links.length + g.dests.length) ∧
      t.str.passes = s.str.passes.map (fun q => if q.prog == p.prog && q.step == p.step then
        { p.advance i sg sent with
          cSeen := (s.weightBlock e sg p (sg.first.toNat + sent) false).2.1.cSeen
          unacked := p.unacked ++ g.dests.map (fun d => ⟨BitVec.ofNat 16 i, BitVec.ofNat 32 (sg.first.toNat + sent), cnOf d⟩) }
        else q)) ∧
  -- a destination without a credit holds every block back
  (∀ (s : State) (prog : U8) (step : U32) (p : Pass) (g : StreamProg), s.passAt prog step = some p → s.progOf prog = some g →
    s.passRoom g = false → Completes (.weightBlockSend prog step) s fun t =>
      t.links = s.links ∧ t.route = s.route ∧ t.str.sent = s.str.sent) ∧
  -- R189: a C block that both copies hold for another step is poisoned NaN, and counted once per pass
  (∀ (s : State) (e : TensorEntry) (step : U32) (seen again : Bool) (b : Nat) (r : CRead), s.pairPick e (step - 1) b = none →
    (s.readC e step seen again b r).1 = { r with
      vals := r.vals ++ List.replicate (e.elemsIn .c b) .nan, poison := true, missing := true } ∧
    (s.readC e step seen again b r).2.str.noC = if seen then s.str.noC else bump s.str.noC) ∧
  -- R193: the ack timeout sends the block again while it is unacknowledged
  (∀ (s : State) (prog : U8) (step : U32) (seg : U16) (blk dest : U32) (p : Pass), s.passAt prog step = some p →
    ⟨seg, blk, dest⟩ ∈ p.unacked →
    exec (.weightAckTimeout prog step seg blk dest) s = .next (countResend (s.resendWeight p ⟨seg, blk, dest⟩))) ∧
  (∀ (s : State) (prog : U8) (step : U32) (seg : U16) (blk dest : U32) (p : Pass), s.passAt prog step = some p →
    ⟨seg, blk, dest⟩ ∉ p.unacked → exec (.weightAckTimeout prog step seg blk dest) s = .next s) ∧
  -- R193: an acknowledgement removes exactly the blocks of its step, shard and range that its sender was waited for
  (∀ (s : State) (port : Port) (pk : Trans), Completes (.weightBlockAckReceive port pk) s fun t =>
    t.str.passes = s.str.passes.map (fun p => { p with unacked := p.unacked.filter (fun u =>
      !(p.step == pk.step && match s.progOf p.prog with | some g => s.acksUnit g pk u | none => false)) }) ∧ Quiet s t) ∧
  -- R194: a relay that has no room asks for the block again later
  (∀ (s : State) (port : Port) (pk : Trans) (p : Pass) (g : StreamProg) (i : Nat) (sg : Segment),
    s.passOfReq pk (pk.aNat 4 4) = some (p, g, i, sg) → pk.aNat 8 2 ≤ 1 →
    pk.a8 11 = 5 → (p.prog, p.step, ⟨BitVec.ofNat 16 i, BitVec.ofNat 32 (pk.aNat 4 4), cnOf pk.src⟩) ∉ s.str.retries →
    Completes (.weightResendReqReceive port pk) s fun t =>
      t.str = { s.str with
        retries := s.str.retries ++ [(p.prog, p.step, ⟨BitVec.ofNat 16 i, BitVec.ofNat 32 (pk.aNat 4 4), cnOf pk.src⟩)] } ∧
      Quiet s t) ∧
  -- R193: a request for a pass that is closed is counted alone
  (∀ (s : State) (port : Port) (pk : Trans), (pk.a8 11 = 1 ∨ pk.a8 11 = 5) → (∀ b ∈ namedBlocks pk, s.passOfReq pk b = none) →
    Completes (.weightResendReqReceive port pk) s fun t => t.str = { s.str with resends := bump s.str.resends } ∧ Quiet s t) ∧
  (∀ (s : State) (prog : U8) (step : U32) (seg : U16) (blk dest : U32) (p : Pass), s.passAt prog step = some p →
    (prog, step, ⟨seg, blk, dest⟩) ∈ s.str.retries →
    exec (.relayRetry prog step seg blk dest) s =
      .next (State.resendWeight p ⟨seg, blk, dest⟩ { s with str := { s.str with
        retries := s.str.retries.filter (fun r => !(r == (prog, step, ⟨seg, blk, dest⟩))) } }))

/-- R194, R197, R205: relays forward a block of their segments once, refuse one they cannot place; remote reads and writes reach
only granted regions. R206 to R208, R218: the region table is taken whole or refused whole; the patrol scrub reads one page after
another. Where a clause rests on a choice of the model and not on a rule, log entries 6, 11 of notes/assumptions names it. -/
def Obligations.RelaysAndRemoteAccessesAreGuarded : Prop :=
  (∀ (s : State) (port : Port) (b : Block), (∀ p ∈ s.str.passes, s.relaySeg p b.hdr = none) →
    (b.hdr.step = s.fence.cur ∨ b.hdr.step = s.fence.cur + 1) →
    Completes (.weightRelay port b) s fun t => t.str = { s.str with relayRefusals := bump s.str.relayRefusals }) ∧
  (∀ (s : State) (port : Port) (b : Block), (∀ p ∈ s.str.passes, s.relaySeg p b.hdr = none) →
    b.hdr.step ≠ s.fence.cur → b.hdr.step ≠ s.fence.cur + 1 →
    Completes (.weightRelay port b) s fun t => t.str = { s.str with relayDiscards := bump s.str.relayDiscards } ∧ Quiet s t) ∧
  -- R194: the first copy of a relayed block goes to every link of the program and is acknowledged
  (∀ (s : State) (port : Port) (b : Block) (p : Pass) (g : StreamProg) (i : Nat) (sg : Segment),
    s.str.passes = [p] → s.relaySeg p b.hdr = some (g, i, sg) → (BitVec.ofNat 16 i, b.hdr.blk) ∉ p.relayed →
    s.relayFull = false →
    Completes (.weightRelay port b) s fun t =>
      t.str.relayed = bump s.str.relayed ∧ t.str.sent = bumpBy s.str.sent g.links.length ∧
      t.str.passes = [{ p with relayed := p.relayed ++ [(BitVec.ofNat 16 i, b.hdr.blk)] }]) ∧
  -- it is refused, and asked for again, while 4 MiB of relayed blocks wait for their links
  (∀ (s : State) (port : Port) (b : Block) (p : Pass) (g : StreamProg) (i : Nat) (sg : Segment),
    s.str.passes = [p] → s.relaySeg p b.hdr = some (g, i, sg) → (BitVec.ofNat 16 i, b.hdr.blk) ∉ p.relayed →
    s.relayFull = true →
    Completes (.weightRelay port b) s fun t => t.str = { s.str with relayRefusals := bump s.str.relayRefusals }) ∧
  -- a later copy is only acknowledged
  (∀ (s : State) (port : Port) (b : Block) (p : Pass) (g : StreamProg) (i : Nat) (sg : Segment),
    s.str.passes = [p] → s.relaySeg p b.hdr = some (g, i, sg) → (BitVec.ofNat 16 i, b.hdr.blk) ∈ p.relayed →
    Completes (.weightRelay port b) s fun t => t.str = { s.str with relayDiscards := bump s.str.relayDiscards }) ∧
  -- R205: a granted write, and what a refused one leaves
  (∀ (s : State) (port : Port) (pk : Trans) (t : Tier), (∀ a ∈ s.agents, a.2 ≠ cnOf pk.src) →
    s.accessRow pk true (64 * pk.cells) = .grant t →
    exec (.remoteWrite port pk) s =
      .next (((s.takePk (.trans pk)).writeMem t (offOf pk.b) pk.paddedBody).readResp pk 0 [])) ∧
  (∀ (s : State) (port : Port) (pk : Trans), (∀ a ∈ s.agents, a.2 ≠ cnOf pk.src) → s.accessRow pk true (64 * pk.cells) = .job →
    Completes (.remoteWrite port pk) s fun t => t.mem = { s.mem with accessRefused := bump s.mem.accessRefused }) ∧
  -- R197: an agent may not write
  (∀ (s : State) (port : Port) (pk : Trans) (a : Port × U32), a ∈ s.agents → a.2 = cnOf pk.src →
    Completes (.remoteWrite port pk) s fun t =>
      t.mem = s.mem ∧ t.str.agentWrites = bump s.str.agentWrites ∧ t.str.agentWriteStep = some s.fence.cur) ∧
  (∀ (s : State) (port : Port) (pk : Trans),
    (s.accessRow pk false (64 * (pk.a8 4).toNat) = .region ∨ (pk.a8 4).toNat = 0 ∨ 64 < (pk.a8 4).toNat) →
    Completes (.remoteRead port pk) s fun t => t.mem.accessRefused = bump s.mem.accessRefused ∧
      t.mem.h = s.mem.h ∧ t.mem.l = s.mem.l ∧ (cnOf pk.src, s.job.epoch) ∈ t.mem.refusedSrc) ∧
  (∀ (s : State) (port : Port) (pk : Trans) (t : Tier) (l : List Byte) (bad : Bool) (u : State),
    1 ≤ (pk.a8 4).toNat → (pk.a8 4).toNat ≤ 64 → s.accessRow pk false (64 * (pk.a8 4).toNat) = .grant t →
    State.readMem t (offOf pk.b) (64 * (pk.a8 4).toNat) (s.takePk (.trans pk)) = (l, bad, u) →
    exec (.remoteRead port pk) s = .next (u.readResp pk (if bad then 2 else 0) l)) ∧
  -- R206 to R208, R218: the region table is taken whole or refused whole; the patrol scrub reads one page after another.
  (∀ (s : State) (l : List Byte) (rs : List Region), s.loadable = true →
    s.parseRegions 0 [] (chunksOf (l.length / 48 + 1) 48 l) = .ok rs → (∃ r ∈ rs, r.kind = 3) →
    exec (.regionTableWrite l) s = .next { s with mem := { s.mem with regions := s.mem.regions.filter Region.device ++ rs } }) ∧
  (∀ (s : State) (l : List Byte) (off : Nat),
    s.loadable = true → s.parseRegions 0 [] (chunksOf (l.length / 48 + 1) 48 l) = .error off →
    Completes (.regionTableWrite l) s fun t =>
      t.mem = { s.mem with regionErr := BitVec.ofNat 32 off, tableRefusals := bump s.mem.tableRefusals } ∧
      Records (ev3 0x5016 (unitMem .h) (arg4 (BitVec.ofNat 32 off))) s t) ∧
  (∀ (s : State) (l : List Byte), s.loadable = false → exec (.regionTableWrite l) s = .next s) ∧
  -- the scrub moves on by one page, wraps at the end of the tier, and counts the 4,096 bytes it reads
  (∀ (s : State) (t : Tier) (errs : List (U64 × U8)), (∀ e ∈ errs, e.2 = 0) →
    (s.suspects t (pageOff t (s.mem.scrubPos t).toNat) 4096) = [] →
    Completes (.patrolScrub t errs) s fun u =>
      u.mem.scrubPos t = BitVec.ofNat 64 (((s.mem.scrubPos t).toNat + 1) % tierPages t) ∧
      u.mem.h = s.mem.h ∧ u.mem.l = s.mem.l ∧
      u.tele.always[(tierRead t).val] = bumpBy s.tele.always[(tierRead t).val] 4096)

/-- R231 to R237: what a port sends next, what it does with a frame, a NAK and the repeat and escalation of replay. Where a clause
rests on a choice of the model and not on a rule, log entries 10, 56 of notes/assumptions names it. -/
def Obligations.FramesAreSentCheckedAndReplayed : Prop :=
  -- a port that is not on the wire sends nothing
  (∀ (s : State) (p : Port), (s.port p).onWire = false → exec (.frameSend p) s = .next s) ∧
  -- R252 step 2: nothing but NULL frames
  (∀ (s : State) (p : Port), (s.port p).st = .training → (s.port p).trainStep = 2 →
    Completes (.frameSend p) s fun t =>
      (t.port p).sentFrames = (s.port p).sentFrames ∧ (t.port p).nextSeq = (s.port p).nextSeq ∧
      (t.port p).nakPending = (s.port p).nakPending ∧
      ∃ l : Lcw, (t.port p).wire = frameBytes [] l ∧ l.kind = 1 ∧ l.seq = (s.port p).nextData) ∧
  -- R235: a pending NAK comes first, and carries the ack
  (∀ (s : State) (p : Port), (s.port p).onWire = true → ¬ ((s.port p).st = .training ∧ (s.port p).trainStep = 2) →
    (s.port p).nakPending = true →
    Completes (.frameSend p) s fun t =>
      (t.port p).nakPending = false ∧ (t.port p).naksSent = bump (s.port p).naksSent ∧
      (t.port p).sentFrames = (s.port p).sentFrames ∧ (t.port p).nextSeq = (s.port p).nextSeq ∧
      ∃ l : Lcw, (t.port p).wire = frameBytes [] l ∧ l.kind = 2 ∧ l.ack = (s.port p).ackSend ∧ l.count = 0) ∧
  -- R236: then a frame that is replayed, as it was first sent
  (∀ (s : State) (p : Port) (f : SentFrame), (s.port p).onWire = true →
    ¬ ((s.port p).st = .training ∧ (s.port p).trainStep = 2) → (s.port p).nakPending = false →
    (s.port p).replayNext = some f →
    Completes (.frameSend p) s fun t =>
      (t.port p).replayed = bump (s.port p).replayed ∧ (t.port p).sentFrames = (s.port p).sentFrames ∧
      ∃ l : Lcw, (t.port p).wire = frameBytes f.cells l ∧ l.kind = 0 ∧ l.seq = f.seq ∧ l.ack = (s.port p).ackSend) ∧
  -- R234: with 2,048 frames outstanding a NULL frame
  (∀ (s : State) (p : Port), (s.port p).onWire = true → ¬ ((s.port p).st = .training ∧ (s.port p).trainStep = 2) →
    (s.port p).nakPending = false → (s.port p).replayNext = none →
    2048 ≤ (s.port p).sentFrames.length →
    Completes (.frameSend p) s fun t =>
      (t.port p).sentFrames = (s.port p).sentFrames ∧ (t.port p).nextSeq = (s.port p).nextSeq ∧
      ∃ l : Lcw, (t.port p).wire = frameBytes [] l ∧ l.kind = 1 ∧ l.seq = (s.port p).nextData) ∧
  -- R233, R235: a frame whose check fails is used in no way, and a NAK is due
  (∀ (s : State) (p : Port) (l : List Byte), s.job.dev ≠ .exerciser → (s.port p).onWire = true → (s.port p).st ≠ .training →
    frameCheckOk l = false →
    exec (.frameReceive p l) s = .next (s.setPort p fun q =>
      { q with frameFails := bump q.frameFails, goodFrames := 0, nakPending := true, nakWait := true })) ∧
  -- R234, R241: a NULL frame in sequence brings its ack and its credit report and nothing else
  (∀ (s : State) (p : Port) (l : List Byte) (w : Lcw), s.job.dev ≠ .exerciser → (s.port p).onWire = true →
    (s.port p).st ≠ .training → frameCheckOk l = true → frameWellFormed l = true → w = Lcw.ofWord (field64 l 512) → w.kind ≠ 0 →
    w.seq = (s.port p).expect →
    exec (.frameReceive p l) s = .next (s.setPort p fun q =>
      (PortSt.takeAck w.ack { q with
        goodFrames := q.goodFrames + 1, frameBytes := setAt q.frameBytes 1 (bumpBy · 528) }).takeCredit w.creditVc w.creditTotal)) ∧
  -- R235: a DATA frame out of sequence is discarded, and asked for once
  (∀ (s : State) (p : Port) (l : List Byte) (w : Lcw), s.job.dev ≠ .exerciser → (s.port p).onWire = true →
    (s.port p).st ≠ .training → frameCheckOk l = true → frameWellFormed l = true → w = Lcw.ofWord (field64 l 512) → w.kind = 0 →
    w.seq ≠ (s.port p).expect →
    Completes (.frameReceive p l) s fun t =>
      (t.port p).expect = (s.port p).expect ∧ (t.port p).afterNak = bump (s.port p).afterNak ∧
      (t.port p).recvFresh = (s.port p).recvFresh ∧ (t.port p).arrivedPk = (s.port p).arrivedPk ∧ (t.port p).nakWait = true) ∧
  -- R236: a NAK releases the frames it acknowledges and replays the rest; an unknown ack is a form violation
  (∀ (s : State) (p : Port) (a : BitVec 12), (s.port p).onWire = true → (s.port p).ackKnown a = true → (s.port p).st ≠ .training →
    Completes (.nakReceive p a) s fun t => t.port p =
      { (s.port p).takeAck a with
        nakRow := ((s.port p).takeAck a).nakRow + 1, replayFrom := ((s.port p).takeAck a).sentFrames.head?.map (·.seq) }) ∧
  (∀ (s : State) (p : Port) (a : BitVec 12), s.job.dev ≠ .exerciser → (s.port p).onWire = true → (s.port p).ackKnown a = false →
    exec (.nakReceive p a) s = .next (s.setPort p fun q => { q with formViol := bump q.formViol })) ∧
  -- R235
  (∀ (s : State) (p : Port), (s.port p).nakWait = true → (s.port p).onWire = true →
    Completes (.nakRepeat p) s fun t => t.port p = { s.port p with nakPending := true }) ∧
  -- R237
  (∀ (s : State) (p : Port), s.job.dev ≠ .exerciser → (s.port p).onWire = true → s.links.nakLimit.toNat ≤ (s.port p).nakRow →
    Completes (.nakEscalation p) s fun t => t.port p = (s.port p).train s.time.now true ∧
      Records (ev3 0x1010 (unitPort p) (arg1 p.val ++ le16 ((s.port p).acked.setWidth 16))) s t) ∧
  (∀ (s : State) (p : Port), (s.port p).nakRow < s.links.nakLimit.toNat → exec (.nakEscalation p) s = .next s)

/-- R237, R252, R256, R409: training, disabling and failing of a port. R243, R244, R250, R275, R447, R525: packets, HEARTBEATs and
MARKs at a port. Where a clause rests on a choice of the model and not on a rule, log entries 9, 10, 13 of notes/assumptions names
it. -/
def Obligations.PortsTrainRetrainAndFail : Prop :=
  (∀ (s : State) (p : Port), s.job.dev ≠ .exerciser → (s.port p).st ≠ .failed → (s.port p).st ≠ .disabled →
    s.links.retrainLimit.toNat ≤ s.retrainsNow p →
    Completes (.linkFailed p) s fun t => (t.port p).st = .failed ∧ (t.port p).trainStep = 0) ∧
  (∀ (s : State) (p : Port), s.retrainsNow p < s.links.retrainLimit.toNat → exec (.linkFailed p) s = .next s) ∧
  (∀ (s : State) (p : Port), (s.port p).st = .training → (s.port p).trainStep = 1 →
    exec (.fecLock p) s = .next (s.setPort p fun q => { q with trainStep := 2, goodFrames := 0 })) ∧
  (∀ (s : State) (p : Port), (s.port p).st = .training → (s.port p).trainStep ≠ 0 →
    Completes (.trainingDeadlineMiss p) s fun t =>
      t.port p = (s.port p).train s.time.now (s.port p).offerResume ∧ (∀ q, q ≠ p → t.port q = s.port q)) ∧
  (∀ (s : State) (p : Port), Completes (.portResumeRetrain p) s fun t =>
      (t.port p).st = .training ∧ (t.port p).trainStep = 1 ∧ (t.port p).offerResume = true ∧
      (t.port p).sentFrames = (s.port p).sentFrames ∧ (∀ q, q ≠ p → t.port q = s.port q)) ∧
  (∀ (s : State) (p : Port), Completes (.portFreshTraining p) s fun t =>
      (t.port p).st = .training ∧ (t.port p).trainStep = 1 ∧ (t.port p).offerResume = false ∧ (∀ q, q ≠ p → t.port q = s.port q)) ∧
  (∀ (s : State) (p : Port), (s.port p).st = .disabled → Completes (.portEnable p) s fun t =>
      (t.port p).st = .training ∧ (t.port p).trainStep = 1 ∧ (t.port p).retrains = (s.port p).retrains ∧ (t.port p).fencedOff = false) ∧
  (∀ (s : State) (p : Port), Completes (.portDisable p) s fun t =>
      t.port p = { s.port p with st := .disabled, trainStep := 0, violQuar := false } ∧ (∀ q, q ≠ p → t.port q = s.port q)) ∧
  -- R255: IDENT at a port that is disabled or has failed does nothing
  (∀ (s : State) (p : Port) (pk : Trans), ((s.port p).st = .disabled ∨ (s.port p).st = .failed) →
    exec (.identReceive p pk) s = .next (s.takePk (.trans pk))) ∧
  -- R252: an IDENT that comes before the end of step 2 is kept until then
  (∀ (s : State) (p : Port) (pk : Trans), (s.port p).st = .training → (s.port p).trainStep ≠ 3 →
    Completes (.identReceive p pk) s fun t => (t.port p).st = .training ∧ (t.port p).trainStep = (s.port p).trainStep ∧
      (t.port p).identIn = some (identOf pk.body)) ∧
  -- R252 steps 4 and 5, R254: the training ends active, at the highest common version, when the peer is the expected one
  (∀ (s : State) (p : Port) (pk : Trans) (i : IdentBody) (v : U16), i = identOf pk.body → (s.port p).st = .training →
    (s.port p).trainStep = 3 → (s.port p).violQuar = false → commonVersion (s.offered p) (i.highest, i.lowest) = some v →
    identMatches i (s.wanted p) = true → (∀ g ∈ i.grants, 66 ≤ g.toNat) →
    Completes (.identReceive p pk) s fun t =>
      (t.port p).st = .active ∧ (t.port p).version = v ∧ (t.port p).peer = some i ∧ (t.port p).trainStep = 0) ∧
  -- R255: another peer leaves the port in quarantine
  (∀ (s : State) (p : Port) (pk : Trans) (i : IdentBody), i = identOf pk.body → (s.port p).st = .training →
    (s.port p).trainStep = 3 → identMatches i (s.wanted p) = false →
    Completes (.identReceive p pk) s fun t => (t.port p).st = .quarantine ∧ (t.port p).peer = some i) ∧
  -- R258: four violations within a second, by default, quarantine an agent
  (∀ (s : State) (p : Port), p.val < 8 → s.job.dev ≠ .exerciser → (s.port p).st = .active →
    (s.port p).violQuar = false → s.links.violLimit.toNat ≤ s.violationsNow p →
    Completes (.agentQuarantine p) s fun t => (t.port p).st = .quarantine ∧ (t.port p).violAt = [] ∧
      (t.port p).violQuar = true ∧ (t.port p).agentViol = bump (s.port p).agentViol) ∧
  -- one whose port trains is quarantined when the training ends
  (∀ (s : State) (p : Port), p.val < 8 → s.job.dev ≠ .exerciser → (s.port p).st = .training →
    (s.port p).violQuar = false → s.links.violLimit.toNat ≤ s.violationsNow p →
    Completes (.agentQuarantine p) s fun t => (t.port p).st = .training ∧ (t.port p).violQuar = true ∧
      (t.port p).agentViol = bump (s.port p).agentViol) ∧
  (∀ (s : State) (p : Port) (ts blk : U32) (a : AgentReq), p.val < 8 →
    (s.port p).agentReqs.find? (fun a => a.ts == ts && a.blk == blk) = some a →
    Completes (.agentNoResend p ts blk) s fun t => ∃ u, t = u.send (.trans a.req) ∧
      (u.port p).agentViol = bump (s.port p).agentViol ∧
      (u.port p).agentReqs = (s.port p).agentReqs.filter (fun b => !(b == a)) ∧
      Records (ev3 0x1041 (unitPort p) (arg1 p.val ++ arg4 ts ++ arg4 blk)) s u) ∧
  -- R243, R244, R250, R275, R447, R525: packets, HEARTBEATs and MARKs at a port.
  -- R250 step 1: a header that fails its check
  (∀ (s : State) (p : Port) (vc : BitVec 3) (l : List Byte), s.job.dev ≠ .exerciser → (s.port p).onWire = true → headerOk l = false →
    (∀ a ∈ (s.port p).arrivedPk, ¬ (a.vc = vc ∧ a.bytes = l)) →
    Completes (.packetReceive p vc l) s fun t =>
      t.chk = { s.chk with hdrFail := bump s.chk.hdrFail } ∧
      t.port p = { s.port p with hdrFails := bump (s.port p).hdrFails } ∧ t.route = s.route ∧
      Records (ev3 0x1020 (unitPort p) (arg1 p.val)) s t) ∧
  -- R255: a quarantined port keeps traffic of a job out
  (∀ (s : State) (p : Port) (vc : BitVec 3) (l : List Byte) (pk : Packet), s.job.dev ≠ .exerciser →
    (s.port p).st = .quarantine → headerOk l = true → packetForm vc l = some pk → vc ≠ 7 → isUntagged pk = false →
    (∀ a ∈ (s.port p).arrivedPk, ¬ (a.vc = vc ∧ a.bytes = l)) →
    Completes (.packetReceive p vc l) s fun t =>
      t.port p = { s.port p with quarDiscards := bump (s.port p).quarDiscards } ∧ t.route = s.route) ∧
  -- R275: a packet of an older epoch
  (∀ (s : State) (p : Port) (pk : Packet), isUntagged pk = false → s.job.dev = .run → pk.jt = s.job.jt → fenceKindOf pk ≠ 5 →
    pk.epoch.toNat < s.job.epoch.toNat →
    s.jobCheck p pk = (false,
      let t := s.setPort p fun q => { q with jtDiscards := bump q.jtDiscards }
      { t with route := { t.route with staleDiscards := bump t.route.staleDiscards } })) ∧
  -- R243, R394: a HEARTBEAT goes out while the watchdog is fed
  (∀ (s : State) (p : Port), s.mayBeat p = true → s.job.dev ≠ .standby → s.tele.tracePorts = 0 →
    (s.port p).ledgerFault = none → s.poolHeld + s.route.poolFree = poolCells →
    exec (.heartbeatSend p) s = .next (s.setPort p fun q =>
      { q with queue := q.queue ++ [⟨vcOfPacket (.trans (s.linkTrans p opHEARTBEAT [] [] [] [])),
        .trans (s.linkTrans p opHEARTBEAT [] [] [] []), none, none⟩] })) ∧
  (∀ (s : State) (p : Port), s.mayBeat p = false → exec (.heartbeatSend p) s = .next s) ∧
  -- R244: equal counts at both ends
  (∀ (s : State) (p : Port) (pk : Trans), (s.port p).st = .active → s.job.dev ≠ .safe → (s.port p).auditDiff pk = none →
    (s.port p).ledgerFault = none → s.poolHeld + s.route.poolFree = poolCells →
    Completes (.heartbeatReceive p pk) s fun t =>
      t.port p = { s.port p with
        hbCounts := ((s.port p).hbCounts.dropWhile (fun x => !(x.1 == pk))).drop 1
        lastHb := some s.time.now, agentLost := false } ∧ Quiet s t) ∧
  -- R244: counts that differ start a fresh training
  (∀ (s : State) (p : Port) (pk : Trans) (v : Nat) (a b : U32), 8 ≤ p.val → (s.port p).st = .active → s.job.dev ≠ .safe →
    s.job.dev ≠ .exerciser → (s.port p).auditDiff pk = some (v, a, b) →
    (s.port p).ledgerFault = none → s.poolHeld + s.route.poolFree = poolCells →
    Completes (.heartbeatReceive p pk) s fun t =>
      (t.port p).st = .training ∧ (t.port p).auditMism = bump (s.port p).auditMism ∧ (t.port p).offerResume = false ∧
      Records (ev3 0x1012 (unitPort p) (arg1 p.val ++ arg1 v ++ arg4 a ++ arg4 b)) s t) ∧
  -- R447: MARKs are numbered, and the peer's is kept with its time
  (∀ (s : State) (p : Port), (s.port p).st = .active →
    Completes (.markSend p) s fun t => (t.port p).markNo = (s.port p).markNo + 1 ∧
      ∃ m, (t.port p).queue = (s.port p).queue ++ [m]) ∧
  (∀ (s : State) (p : Port) (pk : Trans),
    Completes (.markReceive p pk) s fun t =>
      (t.port p).peerMark = pk.a32 0 ∧ (t.port p).peerMarkAt = s.ns (islandOfPort p) ∧ t.exer = s.exer) ∧
  (∀ (s : State), Completes .internalMark s fun t => t.tele.markInt = s.tele.markInt + 1) ∧
  -- R525: what an exerciser run counts of a late peer
  (∀ (s : State) (p : Port), s.exerRun p = true → (s.exPort p).counts[8] ≠ 0 →
    exec (.heartbeatLate p) s = .next (s.setExPort p fun x => { x with counts := addAt x.counts 8 1 })) ∧
  (∀ (s : State) (p : Port), s.exerRun p = true → (s.exPort p).counts[9] ≠ 0 →
    exec (.markLate p) s = .next (s.setExPort p fun x => { x with counts := addAt x.counts 9 1 })) ∧
  (∀ (s : State) (p : Port), s.exerRun p = true → (s.port p).nakWait = true → (s.exPort p).counts[4] ≠ 0 →
    exec (.replayLate p) s = .next (s.setExPort p fun x => { x with counts := addAt x.counts 4 1 }))

/-- R250 step 4, R265, R275: a packet of good form that is addressed to the device leaves its port buffer and reaches its unit;
one for another end point enters the switch pool and goes on. Where a clause rests on a choice of the model and not on a rule, log
entry 82 of notes/assumptions names it. -/
def Obligations.ReceivedPacketsReachTheirUnitOrTheSwitch : Prop :=
  (∀ (s : State) (p : Port) (vc : BitVec 3) (l : List Byte) (pk : Packet), s.job.dev ≠ .exerciser → (s.port p).st = .active →
    headerOk l = true → packetForm vc l = some pk → vc ≠ 7 → s.det.fenced.contains pk.src = false → s.addressed pk = true →
    (fenceKindOf pk = 0 ∨ fenceAllowed p (fenceKindOf pk) = true) → (fenceKindOf pk = 9 → (s.port p).version = 3) →
    (isUntagged pk = true ∨ (s.job.dev = .run ∧ pk.jt = s.job.jt ∧ pk.epoch = s.job.epoch)) →
    (match pk with
     | .block b => b.hdr.valid = true ∧ b.hdr.poison = false ∧ b.payOk = true
     | .trans t => t.body = [] ∨ t.bodyOk = true) →
    Completes (.packetReceive p vc l) s fun t =>
      t.route = { s.route with delivered := s.route.delivered ++ [⟨unitOfPacket vc pk, some p, pk⟩] } ∧
      t.port p = (s.takeArrived p vc l).port p ∧ t.mem = s.mem ∧ t.job = s.job) ∧
  (∀ (s : State) (p : Port) (vc : BitVec 3) (l : List Byte) (pk : Packet) (out : Port) (alt : Bool), s.job.dev ≠ .exerciser →
    (s.port p).st = .active → headerOk l = true → packetForm vc l = some pk → vc ≠ 7 → s.det.fenced.contains pk.src = false →
    s.addressed pk = false → isLinkLevel pk = false → (∀ t, pk = .trans t → t.op ≠ opOBJ_TUNNEL) →
    pk.cellCount ≤ s.route.poolFree → s.choose (s.substitute pk.dst) = .send out alt → out ≠ p →
    Completes (.packetReceive p vc l) s fun t =>
      t.route.poolFree = s.route.poolFree - pk.cellCount ∧ t.route.forwarded = bump s.route.forwarded ∧
      (t.port out).queue = (s.port out).queue ++ [⟨vc, pk, some p, some s.route.poolSeq⟩] ∧
      t.port p = (s.takeArrived p vc l).port p ∧ t.mem = s.mem) ∧
  -- with no room in the pool it waits in its port buffer (notes/assumptions/82.md)
  (∀ (s : State) (p : Port) (vc : BitVec 3) (l : List Byte) (pk : Packet), s.job.dev ≠ .exerciser →
    (s.port p).st = .active → headerOk l = true → packetForm vc l = some pk → vc ≠ 7 → s.det.fenced.contains pk.src = false →
    s.addressed pk = false → isLinkLevel pk = false → (∀ t, pk = .trans t → t.op ≠ opOBJ_TUNNEL) →
    s.route.poolFree < pk.cellCount → exec (.packetReceive p vc l) s = .next s)

/-- R264, R269, R270, R281: the wiring map, the banks and the substitution tables are taken whole or refused whole, and switched
together. R272, R273, R276 to R278: packets wait in the pool until a port trains or their time is over; circuits prepare, drain,
switch and release. Where a clause rests on a choice of the model and not on a rule, log entries 10, 21, 44 of notes/assumptions
names it. -/
def Obligations.RoutingTablesAreTakenWholeAndSwitchTogether : Prop :=
  (∀ (s : State) (l : List Byte) (ws : List WireEntry), s.job.dev = .standby → s.parseWires 0 [] (chunksOf 17 32 l) = .ok ws →
    ws.length = 16 →
    Completes (.wiringMapWrite l) s fun t =>
      (∀ i : Fin 16, t.route.wires[i] = ws.getD i.val {}) ∧ t.route.active = t.mapBank ∧ t.route.shadow = t.mapBank ∧ Quiet s t) ∧
  (∀ (s : State) (l : List Byte), s.job.dev ≠ .standby → exec (.wiringMapWrite l) s = .next s) ∧
  (∀ (s : State) (l : List Byte) (off : Nat), s.job.dev = .standby → s.parseWires 0 [] (chunksOf 17 32 l) = .error off →
    Completes (.wiringMapWrite l) s fun t =>
      t.route = { s.route with wireErr := BitVec.ofNat 32 off, refusals := bump s.route.refusals } ∧
      Records (ev3 0x1062 unitSwitch (arg4 (BitVec.ofNat 32 off))) s t) ∧
  (∀ (s : State) (l : List Byte) (b : List RouteEntry), s.parseBank 0 [] (chunksOf (bankCns + 1) 4 l) = .ok b →
    exec (.shadowBankWrite l) s = .next { s with route := { s.route with shadow := b } }) ∧
  (∀ (s : State) (l : List Byte) (off : Nat), s.parseBank 0 [] (chunksOf (bankCns + 1) 4 l) = .error off →
    Completes (.shadowBankWrite l) s fun t =>
      t.route = { s.route with routeErr := BitVec.ofNat 32 off, refusals := bump s.route.refusals } ∧
      Records (ev3 0x1060 unitSwitch []) s t) ∧
  -- R270: the swap exchanges the banks and the substitution tables
  (∀ (s : State), s.job.dev = .standby →
    Completes .bankSwitchNow s fun t =>
      t.route.active = s.route.shadow ∧ t.route.shadow = s.route.active ∧ t.route.substActive = s.route.substShadow ∧
      t.route.substShadow = s.route.substActive ∧ t.route.swaps = bump s.route.swaps ∧ t.route.pendingSwitch = none ∧
      t.det.fenced = s.det.fenced.filter (fun p => !(s.route.substShadow.any (·.1 == p)))) ∧
  (∀ (s : State), s.job.dev ≠ .standby →
    Completes .bankSwitchNow s fun t => t.route = { s.route with refusals := bump s.route.refusals }) ∧
  (∀ (s : State) (v : U32), v ≠ 0 → (s.job.dev = .opening ∨ s.job.dev = .run) → s.job.epoch.toNat < v.toNat →
    exec (.bankSwitchPending v) s = .next { s with route := { s.route with pendingSwitch := some v } }) ∧
  (∀ (s : State), exec (.bankSwitchPending 0) s = exec .bankSwitchNow s) ∧
  (∀ (s : State) (l : List Byte) (t : List (U32 × U32)),
    s.parseSubst ((chunksOf (l.length / 16 + 1) 16 l).map substOf) 0 [] (chunksOf (l.length / 16 + 1) 16 l) = .ok t →
    exec (.substitutionTableWrite l) s = .next { s with route := { s.route with substShadow := t } }) ∧
  (∀ (s : State) (l : List Byte) (off : Nat),
    s.parseSubst ((chunksOf (l.length / 16 + 1) 16 l).map substOf) 0 [] (chunksOf (l.length / 16 + 1) 16 l) = .error off →
    Completes (.substitutionTableWrite l) s fun t =>
      t.route = { s.route with substRefusals := bump s.route.substRefusals, substErr := BitVec.ofNat 32 off } ∧
      Records (ev3 0x1080 unitSwitch []) s t) ∧
  -- R272, R273, R276 to R278: packets wait in the pool until a port trains or their time is over; circuits prepare, drain, switch
  -- and release.
  (∀ (s : State) (p : Port), (∀ x ∈ s.route.pool, s.routesBy p x = false) → s.route.inWait = [] →
    exec (.forwardAfterWait p) s = .next s) ∧
  (∀ (s : State) (p : Port) (x : PoolPk), s.route.pool = [x] → s.routesBy p x = true → s.route.inWait = [] →
    exec (.forwardAfterWait p) s = .next ({ s with route := { s.route with pool := [] } }.switchPk x)) ∧
  -- R273: the packet longest in the pool leaves it, from where it waits or from the queue of its port
  (∀ (s : State) (n : Nat) (out : Option Port) (cells : Nat), s.oldest = some (n, out, cells) → s.route.inWait = [] →
    Completes .transitExpired s fun t =>
      t.route.pool = s.route.pool.filter (fun x => x.seq != n) ∧ t.route.poolFree = s.route.poolFree + cells ∧
      t.route.expiries = bump s.route.expiries ∧ t.route.active = s.route.active ∧
      (∀ p, out = some p → (t.port p).queue = (s.port p).queue.filter (fun x => x.seq != some n))) ∧
  (∀ (s : State), s.oldest = none → exec .transitExpired s = .next s) ∧
  -- R277: the circuit drains
  (∀ (s : State) (n : Circ) (l : List Byte), byteAt l 6 = 1 → l ∉ (s.circuit n).accepted → s.circuitBad n l = none →
    Completes (.circuitPrepare n l) s fun t =>
      (t.circuit n).state = 3 ∧ (t.circuit n).draining = true ∧ (t.circuit n).lastGrant = field32 l 0 ∧
      (t.port (portOfCirc n)).queue = (s.port (portOfCirc n)).queue.filter (fun x => x.seq.isNone) ∧ Quiet s t) ∧
  (∀ (s : State) (n : Circ) (l : List Byte) (why : Nat), byteAt l 6 = 1 → l ∉ (s.circuit n).accepted → s.circuitBad n l = some why →
    Completes (.circuitPrepare n l) s fun t =>
      t.route = { s.route with circRefusals := bump s.route.circRefusals } ∧
      Records (ev3 0x1070 (unitPort (portOfCirc n)) (arg1 (portOfCirc n).val ++ arg4 (field32 l 0) ++ arg1 why)) s t) ∧
  -- R278: a repetition of an accepted write of the sequence does nothing
  (∀ (s : State) (n : Circ) (l : List Byte), l ∈ (s.circuit n).accepted →
    exec (.circuitPrepare n l) s = .next s ∧ exec (.circuitSwitched n l) s = .next s ∧ exec (.circuitRelease n l) s = .next s) ∧
  (∀ (s : State) (n : Circ) (l : List Byte), byteAt l 6 = 2 → l ∉ (s.circuit n).accepted → s.circuitBad n l = none →
    Completes (.circuitSwitched n l) s fun t =>
      (t.circuit n).state = 4 ∧ t.route.changes = bump s.route.changes ∧ (t.port (portOfCirc n)).st = .training ∧
      (t.port (portOfCirc n)).offerResume = false ∧ Quiet s t) ∧
  (∀ (s : State) (n : Circ) (l : List Byte), byteAt l 6 = 3 → l ∉ (s.circuit n).accepted → s.circuitBad n l = none →
    Completes (.circuitRelease n l) s fun t =>
      (t.circuit n).releasing = true ∧ (t.circuit n).draining = true ∧ (t.circuit n).lastGrant = field32 l 0 ∧ Quiet s t) ∧
  (∀ (s : State) (n : Circ), (s.circuit n).draining = true → (s.circuit n).releasing = false →
    (s.port (portOfCirc n)).sentFrames = [] → (s.port (portOfCirc n)).outCells = [] →
    exec (.circuitDrained n) s = .next (s.setCircuit n { s.circuit n with draining := false, state := 1 })) ∧
  (∀ (s : State) (n : Circ), (s.circuit n).draining = true → (s.circuit n).releasing = true →
    (s.port (portOfCirc n)).sentFrames = [] → (s.port (portOfCirc n)).outCells = [] →
    Completes (.circuitDrained n) s fun t =>
      (t.port (portOfCirc n)).st = .disabled ∧ (t.circuit n).state = 0 ∧ (t.circuit n).serial = [] ∧
      Records (ev3 0x1073 unitSwitch []) s t) ∧
  (∀ (s : State) (n : Circ), (s.port (portOfCirc n)).sentFrames ≠ [] → exec (.circuitDrained n) s = .next s) ∧
  (∀ (s : State) (n : Circ), (s.circuit n).draining = true → (s.circuit n).releasing = false →
    Completes (.circuitDrainTimeout n) s fun t =>
      t.circuit n = { s.circuit n with draining := false, state := 1 } ∧ t.route.drainTimeouts = bump s.route.drainTimeouts ∧
      Records (ev3 0x1072 (unitPort (portOfCirc n)) (arg1 (portOfCirc n).val ++
        arg4 (BitVec.ofNat 32 (s.port (portOfCirc n)).sentFrames.length))) s t)

/-- R408, R415, R417, R258, R404: retirement, the clear and the reports of agents. R413, R418 to R423: a gambit is clamped,
refused or started; its phases follow one another; it ends with its result or an abort. Where a clause rests on a choice of the
model and not on a rule, log entries 9, 23, 45, 53 of notes/assumptions names it. -/
def Obligations.UnitsRetireAndHistoryClears : Prop :=
  (∀ (s : State) (u : U16), isUnit u = false → exec (.retireAction u) s = .next s) ∧
  (∀ (s : State) (u : U16), isUnit u = true → unitClass u = 7 →
    Completes (.retireAction u) s fun t => (t.port (portOfUnit u)).st = .disabled ∧ t.isRetired u.toNat = true) ∧
  -- a unit that waits for STANDBY stays in service, listed, with an alarm
  (∀ (s : State) (u : U16), isUnit u = true → unitClass u ≠ 1 → unitClass u ≠ 2 → unitClass u ≠ 7 → unitClass u ≠ 0x0B →
    Completes (.retireAction u) s fun t => u ∈ t.health.deferred ∧ t.isRetired u.toNat = true ∧ t.links = s.links ∧ t.upd = s.upd) ∧
  -- R417: one record, with the key's index and the number of records discarded; retirements stay
  (∀ (s : State) (key : U16), Completes (.clearHistory key) s fun t =>
      ∃ r, t.health.ring = [r] ∧ r.seq = s.health.newest + 1 ∧ r.path = 0 ∧ r.pattern = key ∧
        r.step = BitVec.ofNat 32 s.health.ring.length ∧ t.health.newest = r.seq ∧
        t.health.sums = (s.health.sums.filter (fun u => decide (u.st = .retired))).map (fun u => { unit := u.unit, st := .retired })) ∧
  -- R258: a report of an agent is counted; severity 0 charges nothing
  (∀ (s : State) (p : Port) (pk : Trans), p.val < 8 → pk.a8 6 = 0 → s.health.gambit.phase = 0 →
    Completes (.agentReportReceive p pk) s fun t =>
      t.port p = { s.port p with agentReports := bump (s.port p).agentReports } ∧ t.health = s.health ∧
      t.pwr.alertWait = s.pwr.alertWait.filter (· != p) ∧
      Records (ev3 0x1040 unitSwitch (le16 (pk.a16 4) ++ [pk.a8 6] ++ padTo 16 (pk.body.take 16))) s t) ∧
  (∀ (s : State) (p : Port) (pk : Trans), 8 ≤ p.val → exec (.agentReportReceive p pk) s = .next (s.takePk (.trans pk))) ∧
  -- R413, R418 to R423: a gambit is clamped, refused or started; its phases follow one another; it ends with its result or an abort.
  (∀ (s : State) (l : List Byte), (l.length ≠ 16 ∨ (gambitReq l).formed = false) → exec (.gambitAction l) s = .next s) ∧
  -- R419: refused, without a change to the unit
  (∀ (s : State) (l : List Byte) (n : Nat), l.length = 16 → (gambitReq l).formed = true →
    s.gambitRefusal (gambitReq l).clamp = some n →
    Completes (.gambitAction l) s fun t =>
      t.health.gRefused = bump s.health.gRefused ∧ t.health.gambit.state = 7 ∧ t.health.gambit.phase = s.health.gambit.phase ∧
      t.health.gLast = s.health.gLast ∧ t.upd = s.upd ∧ t.vec = s.vec ∧ t.pwr = s.pwr) ∧
  -- R418, R420: started with the values within the limits, for a unit that is no agent
  (∀ (s : State) (l : List Byte) (q : GambitReq), l.length = 16 → (gambitReq l).formed = true → q = (gambitReq l).clamp →
    s.gambitRefusal q = none → unitClass q.unit ≠ 0x0B →
    Completes (.gambitAction l) s fun t =>
      t.health.gambit.phase = 1 ∧ t.health.gambit.state = 1 ∧ t.health.gambit.unit = q.unit ∧ t.health.gambit.volt = q.volt ∧
      t.health.gambit.freq = q.freq ∧ t.health.gambit.duration = q.duration ∧ t.health.gLast = q.seq ∧
      t.health.gRun = bump s.health.gRun) ∧
  -- the clamps
  (∀ (q : GambitReq), -12 ≤ q.clamp.volt.toInt ∧ q.clamp.volt.toInt ≤ 8 ∧ 0 ≤ q.clamp.freq.toInt ∧ q.clamp.freq.toInt ≤ 16 ∧
    q.clamp.inlet.toNat ≤ 10) ∧
  (∀ (s : State) (temp : U16), s.health.gambit.phase = 1 → s.health.gambit.inlet = 0 →
    Completes (.gambitTempStable temp) s fun t => t.health.gambit.phase = 2 ∧ t.health.gambit.state = 2) ∧
  (∀ (s : State), s.health.gambit.phase = 2 →
    Completes .gambitRampDone s fun t => t.health.gambit = { s.health.gambit with phase := 3, state := 3 } ∧ Quiet s t) ∧
  (∀ (s : State), s.health.gambit.phase ≠ 2 → exec .gambitRampDone s = .next s) ∧
  -- R421: no errors: the gambit has passed and charges nothing
  (∀ (s : State), s.health.gambit.phase = 3 → unitClass s.health.gambit.unit ≠ 0x0B →
    Completes (.gambitDurationEnd 0) s fun t =>
      t.health.gambit = { s.health.gambit with errors := 0, state := 4, phase := 0 } ∧ t.health.ring = s.health.ring ∧
      t.health.gErrors = s.health.gErrors) ∧
  -- with errors: one fault is charged
  (∀ (s : State) (errors : U32), s.health.gambit.phase = 3 → unitClass s.health.gambit.unit ≠ 0x0B → errors ≠ 0 →
    Completes (.gambitDurationEnd errors) s fun t =>
      t.health.gambit.phase = 0 ∧ t.health.gErrors = bump s.health.gErrors ∧ t.health.charged = bump s.health.charged) ∧
  -- R422
  (∀ (s : State) (c : AbortCause), s.health.gambit.phase ≠ 0 → s.abortDue c = true →
    Completes (.gambitAbort c) s fun t =>
      t.health.gambit.phase = 0 ∧ t.health.gambit.state = 6 ∧ t.health.gAborted = bump s.health.gAborted) ∧
  (∀ (s : State) (c : AbortCause), s.abortDue c = false → exec (.gambitAbort c) s = .next s) ∧
  (∀ (s : State), s.exer.gambitSeq = none → s.health.gambit.phase = 3 → unitClass s.health.gambit.unit = 0x0B →
    Completes .gambitReplyTimeout s fun t =>
      t.health.gambit.phase = 0 ∧ t.health.gambit.state = 6 ∧ t.health.gAborted = bump s.health.gAborted) ∧
  -- R413: an armed retest of the bin at hand
  (∀ (s : State) (u : U16) (r : U16 × Bin), s.health.retests.find? (fun r => r.1 == u && r.2.tbin == s.tempBin (islandOfUnit u.toNat)) = some r →
    s.health.gambit.phase = 0 → (∀ b ∈ s.gambitBars (retestReq u r.2), b = false) → unitClass u ≠ 0x0B →
    Completes (.retestStart u) s fun t =>
      t.health.gambit.phase = 1 ∧ t.health.gambit.unit = u ∧ t.health.gambit.pattern = r.2.pattern ∧ t.health.gambit.flags = 1 ∧
      t.health.retests = s.health.retests.erase r ∧ t.health.gLast = s.health.gLast)

/-- R288, R289, R291, R295: partners pair by a request and its answer; class changes are armed or refused. R26, R298 to R302, R304
to R306, R311: what a partner does with replay blocks, records and mirrored blocks. Where a clause rests on a choice of the model
and not on a rule, log entries 10, 11, 44 of notes/assumptions names it. -/
def Obligations.PartnersPairAndChangeClass : Prop :=
  (∀ (s : State) (l : List Byte), l.length = 8 → s.loadable = true →
    exec (.partnerConfigWrite 3 l) s = .next { s with part := { s.part with delta := field64 l 0 } }) ∧
  (∀ (s : State) (l : List Byte), l.length = 8 → s.loadable = false → s.job.dev = .run →
    exec (.partnerConfigWrite 3 l) s = .next { s with part := { s.part with heldDelta := some (field64 l 0) } }) ∧
  (∀ (s : State) (l : List Byte), l.length = 4 → s.loadable = true → partnerValueOk (field32 l 0) = true →
    (field32 l 0).getLsbD 31 = false →
    Completes (.partnerConfigWrite 2 l) s fun t =>
      t.part.partner = cnOf (field32 l 0) ∧ t.part.named = false ∧ t.part.pair = .none_ ∧ Quiet s t) ∧
  (∀ (s : State) (l : List Byte), l.length = 64 → s.loadable = true →
    exec (.partnerConfigWrite 4 l) s =
      .next { s with part := { s.part with owners := ownersOf ((chunksOf 4 16 l).map ownerEntryOf) } }) ∧
  -- a request from a device that is no listed owner is refused, one from a listed owner accepted
  (∀ (s : State) (port : Port) (pk : Trans), s.ownerIx (cnOf pk.src) = none →
    exec (.pairReqReceive port pk) s =
      .next ((s.takePk (.trans pk)).sendTrans opDIGEST (cnOf pk.src) 0 [0, 0, 0, 0, 5] [] [] [])) ∧
  (∀ (s : State) (port : Port) (pk : Trans) (i : Fin 4), s.ownerIx (cnOf pk.src) = some i →
    Completes (.pairReqReceive port pk) s fun t => t.part = s.part ∧
      t.mem = { s.mem with regions := s.mem.regions.map (fun r => if r.kind == 2 then { r with jt := s.job.jt } else r) }) ∧
  (∀ (s : State) (port : Port) (pk : Trans), s.pairing (cnOf pk.src) = true →
    Completes (.pairAckReceive port pk) s fun t =>
      t.part = { s.part with
        partnerTags := pk.b, pair := if correlatedTags s.part.tags pk.b then .correlated else .paired
        asked := false
        toSync := s.ownedPaired.map TensorEntry.ts }) ∧
  (∀ (s : State) (port : Port) (pk : Trans), s.pairing (cnOf pk.src) = false →
    exec (.pairAckReceive port pk) s = .next (s.takePk (.trans pk))) ∧
  (∀ (s : State) (port : Port) (pk : Trans), s.pairing (cnOf pk.src) = true →
    Completes (.pairRefuseReceive port pk) s fun t => t.part.pair = .refused ∧ t.part.partner = s.part.partner) ∧
  -- a request, the first or a repeated one, without an answer
  (∀ (s : State), s.part.named = true → s.part.asked = true →
    Completes .pairTimeout s fun t => t.part.pair = .refused ∧ t.part.partner = s.part.partner ∧ t.part.asked = false) ∧
  (∀ (s : State), s.part.asked = false → exec .pairTimeout s = .next s) ∧
  (∀ (s : State), s.part.named = true → s.part.pair = .refused →
    exec .pairRetry s = .next (({ s with part := { s.part with asked := true } } : State).sendTrans opDIGEST s.part.partner 0
      [0, 0, 0, 0, 3] (le64 s.part.tags) [] [])) ∧
  (∀ (s : State), s.part.pair ≠ .refused → exec .pairRetry s = .next s) ∧
  (∀ (s : State) (l : List Byte) (e : TensorEntry), l.length = 12 → s.ownerOf (field32 l 0) = some e →
    s.changeRefused e (byteAt l 4) (field32 l 8) = false →
    exec (.classChangeAction l) s = .next { s with part := { s.part with
      clsStatus := 1, changes := s.part.changes ++ [⟨field32 l 0, byteAt l 4, field32 l 8⟩] } }) ∧
  (∀ (s : State) (l : List Byte), l.length = 12 →
    (∀ e, s.ownerOf (field32 l 0) = some e → s.changeRefused e (byteAt l 4) (field32 l 8) = true) →
    Completes (.classChangeAction l) s fun t =>
      t.part = { s.part with clsStatus := 4, clsRefusals := bump s.part.clsRefusals } ∧ Records (ev3 0x3020 unitCont []) s t) ∧
  -- R26, R298 to R302, R304 to R306, R311: what a partner does with replay blocks, records and mirrored blocks.
  -- R26
  (∀ (s : State) (port : Port) (b : Block), s.rolling (cnOf b.hdr.src) b.hdr.ts = false → s.aboveFailed b.hdr.step = true →
    Completes (.replayGReceive port b) s fun t => t.red = { s.red with stepRefusals := bump s.red.stepRefusals } ∧
      t.part = s.part ∧ t.mem = s.mem) ∧
  -- R301: from a device that is no listed owner
  (∀ (s : State) (port : Port) (b : Block), s.rolling (cnOf b.hdr.src) b.hdr.ts = false → s.aboveFailed b.hdr.step = false →
    s.ownerIx (cnOf b.hdr.src) = none →
    Completes (.replayGReceive port b) s fun t => t.part.refusals = bump s.part.refusals ∧ cnOf b.hdr.src ∈ t.part.seenSrc ∧
      t.mem = s.mem) ∧
  -- R311: a block that is taken goes into the log slot of its step and is acknowledged
  (∀ (s : State) (port : Port) (b : Block) (ix : Fin 4) (e : TensorEntry) (u : State),
    s.rolling (cnOf b.hdr.src) b.hdr.ts = false → s.aboveFailed b.hdr.step = false → s.ownerIx (cnOf b.hdr.src) = some ix →
    s.replicaOf b.hdr.ts = some e → e.replicaOwner ix = true → e.status ≠ .quarantined → s.dropped (cnOf b.hdr.src) b.hdr.ts = false →
    e.l.toNat < b.hdr.step.toNat → b.hdr.blk.toNat < e.gBlocks → (s.takePk (.block b)).openSlot ix b.hdr.step = some u →
    exec (.replayGReceive port b) s = .next (((u.putG ix b).ackReplay b.hdr).tryReplicas ix b.hdr.ts b.hdr.step) ∧
    (b.hdr.ts, b.hdr.step, b.hdr.blk) ∈ (u.putG ix b).part.loggedBlks) ∧
  -- R301: a block of a step that is already complete is acknowledged again
  (∀ (s : State) (port : Port) (b : Block) (ix : Fin 4) (e : TensorEntry),
    s.rolling (cnOf b.hdr.src) b.hdr.ts = false → s.aboveFailed b.hdr.step = false → s.ownerIx (cnOf b.hdr.src) = some ix →
    s.replicaOf b.hdr.ts = some e → e.replicaOwner ix = true → e.status ≠ .quarantined → s.dropped (cnOf b.hdr.src) b.hdr.ts = false →
    b.hdr.step.toNat ≤ e.l.toNat →
    Completes (.replayGReceive port b) s fun t => t.part = { s.part with duplicates := bump s.part.duplicates } ∧ t.mem = s.mem) ∧
  -- R302: the record of a settled window is acknowledged again; a new one opens its replica window
  (∀ (s : State) (port : Port) (pk : Trans) (ix : Fin 4) (e : TensorEntry) (q : ReplicaWin) (r : ReplicaWin), r = replicaOfRecord pk →
    s.rolling r.src r.ts = false →
    State.replayGate r.src r.ts r.step (fun s => s.ackRecord r.src r.step r.ts r.w) (s.takePk (.trans pk)) =
      (some (ix, e), s.takePk (.trans pk)) →
    s.replicaWin r.ts r.w r.step = some q → q.settled = true →
    exec (.windowRecordReceive port pk) s = .next ((s.takePk (.trans pk)).ackRecord r.src r.step r.ts r.w)) ∧
  (∀ (s : State) (port : Port) (pk : Trans) (ix : Fin 4) (e : TensorEntry) (u : State) (r : ReplicaWin), r = replicaOfRecord pk →
    s.rolling r.src r.ts = false →
    State.replayGate r.src r.ts r.step (fun s => s.ackRecord r.src r.step r.ts r.w) (s.takePk (.trans pk)) =
      (some (ix, e), s.takePk (.trans pk)) →
    s.replicaWin r.ts r.w r.step = none → (s.takePk (.trans pk)).openSlot ix r.step = some u →
    (∀ l ∈ u.part.logRecs, ¬ (l.ts = r.ts ∧ l.step = r.step)) →
    exec (.windowRecordReceive port pk) s = .next
      ((State.putRec ix { ts := r.ts, step := r.step, s0 := r.s0, s4 := r.s4, held := r.held }
        { u with part := { u.part with replicas := u.part.replicas ++ [r] } }).tryReplica ix r)) ∧
  -- R298: a SKIP record is logged
  (∀ (s : State) (port : Port) (pk : Trans) (ix : Fin 4) (e : TensorEntry) (u : State), s.rolling (cnOf pk.src) (pk.a32 0) = false →
    State.replayGate (cnOf pk.src) (pk.a32 0) pk.step (fun s => s.ackRecord (cnOf pk.src) pk.step (pk.a32 0) allOnes32)
      (s.takePk (.trans pk)) = (some (ix, e), s.takePk (.trans pk)) →
    (s.takePk (.trans pk)).openSlot ix pk.step = some u → u.skipLogged (pk.a32 0) pk.step = false →
    exec (.skipRecordReceive port pk) s = .next (State.recheckDigest (pk.a32 0) pk.step
      ((State.putRec ix { ts := pk.a32 0, step := pk.step, skipped := true } u).ackRecord (cnOf pk.src) pk.step (pk.a32 0) allOnes32))) ∧
  -- R296, R380: SYNC of a shard without a replica entry sets its mirror counters and takes it off the drop list
  (∀ (s : State) (port : Port) (pk : Trans) (ix : Fin 4), s.aboveFailed pk.step = false → s.ownerIx (cnOf pk.src) = some ix →
    s.replicaOf (pk.a32 0) = none →
    Completes (.syncRecordReceive port pk) s fun t =>
      ⟨cnOf pk.src, pk.a32 0, pk.a32 4, pk.a32 8⟩ ∈ t.job.mirrors ∧ t.part.drops = s.part.drops.filter
        (fun d => !(d.1 == cnOf pk.src && d.2.1 == pk.a32 0))) ∧
  (∀ (s : State) (port : Port) (pk : Trans) (ix : Fin 4), s.aboveFailed pk.step = false → s.ownerIx (cnOf pk.src) = some ix →
    s.replicaOf (pk.a32 0) = none → (∀ r ∈ s.part.replicas, r.ts ≠ pk.a32 0) → s.dropped (cnOf pk.src) (pk.a32 0) = false →
    s.part.drops.length < 256 →
    Completes (.dropRecordReceive port pk) s fun t =>
      t.part = { s.part with drops := s.part.drops ++ [(cnOf pk.src, pk.a32 0, pk.step)] } ∧ t.upd = s.upd) ∧
  -- R301, R305: a mirrored block outside a REPLICA region is refused; one inside is written as it stands
  (∀ (s : State) (port : Port) (b : Block), s.aboveFailed b.hdr.step = true → s.installing = false →
    Completes (.mirrorPReceive port b) s fun t =>
      t.red = { s.red with stepRefusals := bump s.red.stepRefusals } ∧ t.mem = s.mem ∧ t.part = s.part) ∧
  (∀ (s : State) (port : Port) (b : Block) (r : Region), s.aboveFailed b.hdr.step = false → s.installing = false →
    s.regionAt (offOf b.hdr.offset) = some r → r.kind ≠ 1 → s.ownerIx (cnOf b.hdr.src) = none →
    Completes (.mirrorPReceive port b) s fun t => t.part.refusals = bump s.part.refusals ∧ t.mem = s.mem) ∧
  (∀ (s : State) (port : Port) (b : Block) (r : Region) (ix : Fin 4) (e : TensorEntry), s.aboveFailed b.hdr.step = false →
    s.installing = false → s.regionAt (offOf b.hdr.offset) = some r → r.kind = 2 → s.ownerIx (cnOf b.hdr.src) = some ix →
    s.mirrorRegion 2 b.hdr = true → s.maskOutside b.hdr = false → State.isMask b.hdr = false →
    (∀ q ∈ s.part.replicas, q.repairing = false) → s.replicaOf b.hdr.ts = some e → e.status ≠ .quarantined →
    s.dropped (cnOf b.hdr.src) b.hdr.ts = false →
    exec (.mirrorPReceive port b) s = .next (((((s.takePk (.block b)).putMirror b).ackMirror b.hdr).foldTerm
      ⟨b.hdr.ts, b.hdr.step, true, 0, .w, BitVec.ofNat 32 (offOf b.hdr.offset / 4096), blockTerm b.hdr.blk.toNat b.pay⟩).recheckDigest
        b.hdr.ts b.hdr.step)) ∧
  -- R301: outside a synchronisation a quarantined shard's block is acknowledged and not written
  (∀ (s : State) (port : Port) (b : Block) (r : Region) (ix : Fin 4) (e : TensorEntry), s.aboveFailed b.hdr.step = false →
    s.installing = false → s.regionAt (offOf b.hdr.offset) = some r → r.kind = 2 → s.ownerIx (cnOf b.hdr.src) = some ix →
    s.mirrorRegion 2 b.hdr = true → s.maskOutside b.hdr = false → s.replicaOf b.hdr.ts = some e → e.status = .quarantined →
    s.partOfSync (cnOf b.hdr.src) b.hdr = false →
    exec (.mirrorPReceive port b) s = .next ((s.takePk (.block b)).refuseQuiet.ackMirror b.hdr))

/-- R300, R303, R304, R308, R309: retained items, verdicts and digests. Where a clause rests on a choice of the model and not on a
rule, log entries 10, 11 of notes/assumptions names it. -/
def Obligations.RetainedItemsVerdictsAndDigestsSettle : Prop :=
  (∀ (s : State) (port : Port) (pk : Trans) (b : Block), pk.a8 10 = opREPLAY_G → pk.a16 8 = 1 → pk.aNat 8 2 = 1 →
    b.hdr.mirror = false →
    isReplayItem (pk.a32 0) pk.step (cnOf pk.src) (pk.a32 4) (.block b) = true → s.part.retained = [⟨.block b⟩] →
    Completes (.partnerBlockAckReceive port pk) s fun t => t.part = { s.part with retained := [] } ∧ Quiet s t) ∧
  (∀ (s : State) (n : Nat), s.part.retained[n]? = none → exec (.partnerResend n) s = .next s) ∧
  (∀ (s : State) (n : Nat) (i : RetItem), s.part.retained[n]? = some i →
    Completes (.partnerResend n) s fun t =>
      t.part.resends = bump s.part.resends ∧ t.part.retained = s.part.retained.set n ⟨s.resent i.pk⟩) ∧
  -- R303: equal digests confirm the window
  (∀ (s : State) (ts w : U32) (p : Pipe) (x : PipeWin) (e : TensorEntry) (r : ReplicaWin) (u : State) (ws : List BlkWrite),
    s.replicaPipe ts w = some (p, x) → s.replicaOf ts = some e → s.replicaWin ts w x.win.step = some r →
    u = s.setPipe p (fun q => { q with queue := q.queue.erase x }) →
    ws = u.resultWrites e r.step (firstElem u x.win) x.res → x.res.poisonOut = false → x.win.poison = false →
    writesDigest ws = r.ownerDigest →
    exec (.replicaWindowSettle ts w) s = .next (State.recheckDigest ts r.step
      (State.settleReplica { r with firstPipe := some (BitVec.ofNat 8 p.val), firstDigest := writesDigest ws }
        (State.writeReplica p e x.win x.res ws { u with part := { u.part with confirmed := bump u.part.confirmed } })))) ∧
  (∀ (s : State) (ts w : U32), s.replicaPipe ts w = none → exec (.replicaWindowSettle ts w) s = .next s) ∧
  -- R303: an owner fault awaits its repair
  (∀ (s : State) (port : Port) (pk : Trans) (e : TensorEntry) (i : RetItem), s.aboveFailed pk.step = false → s.part.named = true →
    cnOf pk.src = s.part.partner → s.ownerOf (pk.a32 0) = some e →
    s.part.retained.find? (fun i => isWindowRecord (pk.a32 0) (pk.a32 4) pk.step i.pk) = some i → pk.bNat 5 1 = 2 →
    Completes (.verdictReceive port pk) s fun t =>
      t.part = { s.part with repairFor := s.part.repairFor ++ [(pk.a32 0, pk.a32 4, pk.step)] } ∧
      t.health.charged = bump s.health.charged) ∧
  (∀ (s : State) (port : Port) (pk : Trans), s.aboveFailed pk.step = false → (s.part.named = false ∨ cnOf pk.src ≠ s.part.partner) →
    Completes (.verdictReceive port pk) s fun t => t.part.refusals = bump s.part.refusals ∧ t.health = s.health) ∧
  -- R308: an owner's digest is kept, and answered when the partner's own equals it
  (∀ (s : State) (port : Port) (pk : Trans) (ix : Fin 4), s.aboveFailed pk.step = false → s.ownerIx (cnOf pk.src) = some ix →
    s.digestEqual (pk.a32 0) pk.step pk.b = false →
    (∀ o ∈ s.part.ownerDig, ¬ (o.2.1 = pk.a32 0 ∧ o.2.2.1 = pk.step)) →
    Completes (.ownerDigestReceive port pk) s fun t =>
      t.part = { s.part with
        ownerDig := s.part.ownerDig ++ [(cnOf pk.src, pk.a32 0, pk.step, pk.b)]
        ownerStep := s.part.ownerStep.filter (fun x => !(x.1 == cnOf pk.src && x.2.1 == pk.a32 0)) ++
          [(cnOf pk.src, pk.a32 0, pk.step)] } ∧ Quiet s t) ∧
  (∀ (s : State) (ts src step : U32) (v : U64), s.part.ownerDig.find? (fun o => o.2.1 == ts) = some (src, ts, step, v) →
    exec (.digestTimeout ts) s = .next (State.rejectShard src ts step (State.sendDigest src step ts 2 (s.shardDigest ts step true)
      { s with part := { s.part with ownerDig := s.part.ownerDig.erase (src, ts, step, v) } }))) ∧
  (∀ (s : State) (ts : U32), (∀ o ∈ s.part.ownerDig, o.2.1 ≠ ts) → exec (.digestTimeout ts) s = .next s) ∧
  -- R308: equal digests acknowledge the step
  (∀ (s : State) (port : Port) (pk : Trans) (e : TensorEntry), s.aboveFailed pk.step = false → s.paired = true →
    cnOf pk.src = s.part.partner → s.ownerOf (pk.a32 0) = some e → e.l = pk.step →
    s.part.ackedSteps.contains (pk.a32 0, pk.step) = false → (e.pclass = 1 ∨ e.pclass = 2) →
    s.shardDigest (pk.a32 0) pk.step false = pk.b →
    Completes (.replicaDigestReceive port pk) s fun t => t.part = { s.part with
      ackedSteps := s.part.ackedSteps ++ [(pk.a32 0, pk.step)], agreed := bump s.part.agreed } ∧ Quiet s t) ∧
  -- R309: digests that differ fail the step of the shard
  (∀ (s : State) (port : Port) (pk : Trans) (e : TensorEntry), s.aboveFailed pk.step = false → s.paired = true →
    cnOf pk.src = s.part.partner → s.ownerOf (pk.a32 0) = some e → e.l = pk.step →
    s.part.ackedSteps.contains (pk.a32 0, pk.step) = false → (e.pclass = 1 ∨ e.pclass = 2) →
    s.shardDigest (pk.a32 0) pk.step false ≠ pk.b →
    exec (.replicaDigestReceive port pk) s = .next (State.digestMismatch e pk.step pk.b (s.takePk (.trans pk))))

/-- R315, R319 to R322, R353: the periods, and the copying of a cut. R323, R327 to R332, R511: a chunk waits for power, then is
coded and programmed; the last one commits the point. Where a clause rests on a choice of the model and not on a rule, log entries
10, 58 of notes/assumptions names it. -/
def Obligations.CutsAreCopiedInOrder : Prop :=
  (∀ (s : State) (v : U32), v.toNat ≤ 10000 → s.loadable = true → periodsOk v s.adj.m = true →
    exec (.adjournmentConfigWrite 1 v) s = .next { s with adj := { s.adj with k := v } }) ∧
  (∀ (s : State) (v : U32), v.toNat ≤ 1000000 → s.loadable = true → periodsOk s.adj.k v = true →
    exec (.adjournmentConfigWrite 2 v) s = .next { s with adj := { s.adj with m := v } }) ∧
  (∀ (s : State) (v : U32), v.toNat ≤ 10000 → (s.loadable = false ∨ periodsOk v s.adj.m = false) →
    Completes (.adjournmentConfigWrite 1 v) s fun t =>
      t.adj = { s.adj with refusals := bump s.adj.refusals } ∧ Records (ev3 0x3240 unitCont ([1] ++ arg4 v)) s t) ∧
  -- R319: the cut at the head of the queue begins COPY with the next sequence once its move is sealed
  (∀ (s : State) (c : Cut) (rest : List Cut), s.adj.queue = c :: rest → (∀ d ∈ s.adj.queue, d.phase = .armed) →
    c.sealedMove = true → c.forced = false → s.upd.touchWait = [] →
    Completes .copyStart s fun t =>
      t.adj = { s.adj with queue := { c with phase := .copy, seq := s.adj.nextSeq } :: rest, nextSeq := s.adj.nextSeq + 1 } ∧
      Quiet s t) ∧
  (∀ (s : State) (c : Cut) (rest : List Cut), s.adj.queue = c :: rest → c.sealedMove = false → exec .copyStart s = .next s) ∧
  (∀ (s : State) (c : Cut), c ∈ s.adj.queue → c.phase ≠ .armed → exec .copyStart s = .next s) ∧
  -- R321: only a page that a writer waits for is copied ahead
  (∀ (s : State) (a : U64), BitVec.ofNat 64 (offOf a) ∈ s.upd.touchWait →
    exec (.pageCopyAhead a) s = .next (s.copyPage (offOf a))) ∧
  (∀ (s : State) (a : U64), BitVec.ofNat 64 (offOf a) ∉ s.upd.touchWait → exec (.pageCopyAhead a) s = .next s) ∧
  -- R322, R323: with every page copied the cut goes on to CODE, with the masks as they stand then
  (∀ (s : State) (c : Cut) (rest : List Cut), s.adj.queue = c :: rest → c.phase = .copy → (∀ p ∈ c.pages, p.copied = true) →
    Completes .copyEnd s fun t =>
      t.adj.queue = (s.masksOf c).2.adj.queue.map (fun d =>
        if d.phase = .copy then { d with phase := .code, masks := (s.masksOf c).1 } else d) ∧
      t.adj.nextSeq = s.adj.nextSeq ∧ t.mem = (s.masksOf c).2.mem) ∧
  (∀ (s : State) (c : Cut), (∀ e ∈ s.owned, e.has .k = false) → s.masksOf c = ([], s)) ∧
  (∀ (s : State), (∀ c ∈ s.adj.queue, c.phase ≠ .copy) → exec .copyEnd s = .next s) ∧
  -- R323, R327 to R332, R511: a chunk waits for power, then is coded and programmed; the last one commits the point.
  (∀ (s : State), s.adj.kept = none → (∀ c ∈ s.adj.queue, c.phase ≠ .code) → exec .chunkStart s = .next s) ∧
  (∀ (s : State), s.adj.kept = none → s.adj.chunkBusy.isSome = true → exec .chunkStart s = .next s) ∧
  -- R511: both reservoirs must be charged
  (∀ (s : State), s.adj.kept = none → s.pwr.bothCharged = false → exec .chunkStart s = .next s) ∧
  -- R327: a chunk that fits and whose reservation is granted is under way
  (∀ (s : State) (c : Cut) (acc : ChunkAcc) (u v : State) (l : List Byte), s.adj.kept = none →
    s.adj.queue.find? (fun c => c.phase == .code) = some c → s.adj.chunkBusy = none → s.pwr.bothCharged = true →
    s.nextChunk c = (acc, u) → l = chunkBytes s.job.jt c acc.bytes → l.length ≤ s.adj.free.toNat →
    s.reserve (chunkCost l.length) = (true, v) →
    Completes .chunkStart s fun t =>
      t.adj.chunkBusy = some l ∧ t.adj.chunkCost = BitVec.ofNat 32 (chunkCost l.length) ∧ t.pwr = v.pwr) ∧
  -- R332: a point that does not fit is abandoned
  (∀ (s : State) (c : Cut) (acc : ChunkAcc) (u : State), s.adj.kept = none →
    s.adj.queue.find? (fun c => c.phase == .code) = some c → s.adj.chunkBusy = none → s.pwr.bothCharged = true →
    s.nextChunk c = (acc, u) → s.adj.free.toNat < (chunkBytes s.job.jt c acc.bytes).length →
    exec .chunkStart s = .next (u.abandonPoint c)) ∧
  -- R329: a chunk that is not the last: the list, the pointer and the free space
  (∀ (s : State) (c : Cut) (l : List Byte), s.adj.kept = none → s.adj.chunkBusy = some l →
    s.adj.queue.find? (fun c => c.phase == .code) = some c → c.busyCoded < (s.codeItems c).length →
    Completes (.chunkProgrammed true) s fun t =>
      t.adj.chunkBusy = none ∧ t.adj.ptrSeq = c.seq ∧ t.adj.ptrChunks = BitVec.ofNat 32 (c.chunks + 1) ∧
      t.adj.ptrAddr = s.adj.ptrAddr + BitVec.ofNat 64 l.length ∧ t.adj.free = s.adj.free - BitVec.ofNat 64 l.length ∧
      t.adj.chunks = s.adj.chunks ++ [{ addr := s.adj.ptrAddr, seq := c.seq, num := BitVec.ofNat 32 c.chunks, bytes := l }] ∧
      t.adj.points = s.adj.points) ∧
  -- R330: a program failure moves the pointer on and keeps the chunk
  (∀ (s : State) (c : Cut) (l : List Byte), s.adj.kept = none → s.adj.chunkBusy = some l →
    s.adj.queue.find? (fun c => c.phase == .code) = some c →
    Completes (.chunkProgrammed false) s fun t =>
      t.adj = { s.adj with
        blocksRetired := bump s.adj.blocksRetired, reprogrammed := bump s.adj.reprogrammed
        ptrAddr := s.adj.ptrAddr + BitVec.ofNat 64 l.length } ∧ t.health.charged = bump s.health.charged) ∧
  -- R329: the point's record
  (∀ (s : State) (c : Cut), s.adj.points.length < 4096 → s.adj.drain = none → c.kind = .forced →
    (∃ p, (s.commitPoint c).adj.points = s.adj.points ++ [p] ∧ p.kind = c.kind ∧ p.seq = c.seq ∧ p.step = c.step ∧
      p.jt = s.job.jt ∧ p.len = BitVec.ofNat 64 c.length ∧ p.inTierS = false) ∧
    (s.commitPoint c).adj.pointsCommitted = bump s.adj.pointsCommitted)

/-- R333 to R339: parts and commits of a push, and the drain fences. Where a clause rests on a choice of the model and not on a
rule, log entries 10, 11 of notes/assumptions names it. -/
def Obligations.PushesAndDrainFencesSettle : Prop :=
  (∀ (s : State) (p : Push), s.frontPush = some p → p.committing = false → p.next.toNat < p.total.toNat →
    s.outstandingAt p p.next.toNat < 256 → (∀ x ∈ p.parts, x.unsent = false) →
    Completes .storePartSend s fun t =>
      t.adj.issued = bump s.adj.issued ∧ t.adj.sPtrObj = s.objectId p ∧ t.adj.sPtrParts = p.total ∧
      t.adj.pushes = s.adj.pushes.map (fun q => if q.seq == p.seq then { p with
        next := p.next + 1, issued := p.issued + 1, parts := p.parts ++ [{ num := p.next }] } else q)) ∧
  (∀ (s : State), s.frontPush = none → exec .storePartSend s = .next s) ∧
  -- R334: an acknowledged part
  (∀ (s : State) (port : Port) (pk : Trans) (p : Push) (x : PushPart), s.pushPart pk = some (p, x) → p.next.toNat < p.total.toNat →
    x.counted = false →
    Completes (.storePartAckReceive port pk) s fun t =>
      t.adj.succeeded = bump s.adj.succeeded ∧ t.adj.pushes = s.adj.pushes.map (fun q => if q.seq == p.seq then
        ({ p.setPart { x with acked := true } with ok := p.ok + 1 }).prune else q)) ∧
  -- R337: one that was counted before a reset is not counted again
  (∀ (s : State) (port : Port) (pk : Trans) (p : Push) (x : PushPart), s.pushPart pk = some (p, x) → p.next.toNat < p.total.toNat →
    x.counted = true →
    Completes (.storePartAckReceive port pk) s fun t =>
      t.adj.succeeded = s.adj.succeeded ∧ t.adj.pushes = s.adj.pushes.map (fun q => if q.seq == p.seq then
        ({ p.setPart { x with acked := true } with ok := p.ok }).prune else q)) ∧
  (∀ (s : State) (port : Port) (pk : Trans), s.pushPart pk = none →
    exec (.storePartAckReceive port pk) s = .next (s.takePk (.trans pk))) ∧
  -- R335: a refusal for want of room sends the part again, at most as often as OD 3310.04 says
  (∀ (s : State) (port : Port) (pk : Trans) (p : Push) (x : PushPart), s.pushPart pk = some (p, x) → pk.a8 11 = 6 →
    x.resends.toNat < s.adj.partResends.toNat →
    Completes (.storePartRefusalReceive port pk) s fun t =>
      t.adj.resent = bump s.adj.resent ∧ t.adj.pushes = s.adj.pushes.map (fun q => if q.seq == p.seq then
        p.setPart { x with resends := x.resends + 1 } else q)) ∧
  (∀ (s : State) (port : Port) (pk : Trans) (p : Push) (x : PushPart), s.pushPart pk = some (p, x) → pk.a8 11 = 7 →
    exec (.storePartRefusalReceive port pk) s = .next ((s.takePk (.trans pk)).failPart p)) ∧
  (∀ (s : State) (part : U32) (p : Push) (x : PushPart), s.frontPush = some p →
    p.parts.find? (fun x => x.num == part && !x.acked && !x.failed && !x.unsent) = some x → x.resends.toNat < s.adj.partResends.toNat →
    Completes (.storePartTimeout part) s fun t => t.adj.resent = bump s.adj.resent) ∧
  -- R336: the last answer commits the attempt; one failed answer is tried again
  (∀ (s : State) (port : Port) (pk : Trans) (p : Push) (i : Nat),
    s.adj.pushes.find? (fun p => s.objectId p == pk.a64 0 && p.committing) = some p →
    s.gateways.findIdx? (· == cnOf pk.src) = some i → pk.a8 12 = 0 → (∀ g ∈ s.gateways, g = cnOf pk.src) →
    exec (.storeCommitResponse port pk) s = .next ((s.takePk (.trans pk)).storeCommitted
      { p with answers := p.answers.filter (fun a => a.1 != cnOf pk.src) ++ [(cnOf pk.src, 0)] })) ∧
  (∀ (s : State) (p : Push), s.adj.drain = none → ((s.adj.points.find? (·.seq == p.seq)).map (·.kind)).getD .chain ≠ .full →
    (s.storeCommitted p).adj.sCommitted = bump s.adj.sCommitted ∧
    (s.storeCommitted p).adj.pushes = s.adj.pushes.filter (fun q => q.seq != p.seq) ∧
    (s.storeCommitted p).adj.points = s.adj.points.map (fun q => if q.seq == p.seq then { q with inTierS := true } else q)) ∧
  (∀ (s : State) (p : Push) (rest : List Push), s.adj.pushes = p :: rest → p.waiting = true → s.job.dev = .run → p.jt = s.job.jt →
    Completes .storeAttemptRetry s fun t => t.adj = { s.adj with pushes := s.adj.pushes.map (fun q => if q.seq == p.seq then
      { p with waiting := false, attempt := p.attempt + 1, next := 0, parts := [], issued := 0, ok := 0, bad := 0 } else q) }) ∧
  -- R338
  (∀ (s : State) (v : U64), (s.fence.sealedStep.toNat < (v.setWidth 32).toNat ∨ s.drainable (v.setWidth 32) (v.extractLsb' 32 2).toNat = false ∨
      s.adj.drain.isSome = true) →
    Completes (.drainFenceAction v) s fun t =>
      t.adj = { s.adj with drainStatus := 4, refusals := bump s.adj.refusals } ∧ Records (ev3 0x3230 unitCont []) s t) ∧
  (∀ (s : State) (v : U64), (v.extractLsb' 32 2 = 1#2 ∨ v.extractLsb' 32 2 = 2#2) → (v.setWidth 32).toNat ≤ s.fence.sealedStep.toNat →
    s.drainable (v.setWidth 32) (v.extractLsb' 32 2).toNat = true → s.adj.drain = none →
    (∀ k ∈ s.adj.drainIn, ¬ (k.1 = v.setWidth 32 ∧ k.2.1.toNat = (v.extractLsb' 32 2).toNat)) →
    (∀ p ∈ s.adj.points, p.step ≠ v.setWidth 32) →
    Completes (.drainFenceAction v) s fun t =>
      t.adj = { s.adj with drainStatus := 1, drain := some { step := v.setWidth 32, rung := BitVec.ofNat 8 (v.extractLsb' 32 2).toNat } } ∧
      Quiet s t) ∧
  -- R339: the result from above settles the fence and goes to the children
  (∀ (s : State) (port : Port) (pk : Trans), pk.a8 3 = 1 → pk.a8 2 = 1 →
    Completes (.drainFenceReceive port pk) s fun t => t.adj.drainStatus = 3 ∧ t.adj.drainedN = s.adj.drainedN ∧
      t.adj.drain = (if s.adj.drain.any (fun d => d.step == pk.a32 4 && d.rung == pk.a8 1) then none else s.adj.drain)) ∧
  (∀ (s : State) (port : Port) (pk : Trans), pk.a8 3 = 1 → pk.a8 2 = 0 → pk.a8 1 = 1 →
    Completes (.drainFenceReceive port pk) s fun t => t.adj.drainStatus = 2 ∧ t.adj.drainedN = pk.a32 4 ∧
      t.adj.drain = (if s.adj.drain.any (fun d => d.step == pk.a32 4 && d.rung == pk.a8 1) then none else s.adj.drain)) ∧
  -- a child's result for a fence that is not pending here waits for its write
  (∀ (s : State) (port : Port) (pk : Trans), pk.a8 3 ≠ 1 → s.adj.drain = none →
    Completes (.drainFenceReceive port pk) s fun t => t.adj = { s.adj with
      drainIn := s.adj.drainIn.filter (fun k => !(k.1 == pk.a32 4 && k.2.1 == pk.a8 1 && k.2.2.1 == cnOf pk.src)) ++
        [(pk.a32 4, pk.a8 1, cnOf pk.src, !(pk.a8 2 == 1), pk.a32 8)] }) ∧
  (∀ (s : State) (d : Drain) (up : U32), s.adj.drain = some d → d.own = none → d.sent = false →
    s.children = [] → s.parent = some up →
    Completes .drainFenceTimeout s fun t => t.adj.drain = some { d with own := some false, sent := true }) ∧
  (∀ (s : State), s.adj.drain = none → exec .drainFenceTimeout s = .next s)

/-- R345 to R352, R354: a mover's channel starts, pauses, ends its passes, and fails. R355 to R357: groups of channels, and the
byte equation. Where a clause rests on a choice of the model and not on a rule, log entries 10, 24 of notes/assumptions names it.
-/
def Obligations.MoverChannelsStartPauseAndEnd : Prop :=
  (∀ (s : State) (c : Chan), s.startRefused c = none → (s.chan c).paused = false → s.ownedChan c = false → (s.chan c).trigger ≠ 2 →
    min 4096 (s.chan c).len.toNat / 64 ≤ s.cellRoom c →
    Completes (.moverStart c) s fun t =>
      (t.chan c).passActive = true ∧ (t.chan c).status = 2 ∧ (t.chan c).pass = 0 ∧ (t.chan c).resume = 0 ∧ (t.chan c).fail = 0 ∧
      (t.chan c).issued = min 4096 (s.chan c).len.toNat ∧
      (t.chan c).cells = (s.chan c).cells + min 4096 (s.chan c).len.toNat / 64 ∧ t.mov.issued = bump s.mov.issued) ∧
  -- R345: with too few free cells its read waits
  (∀ (s : State) (c : Chan), s.startRefused c = none → (s.chan c).paused = false → s.ownedChan c = false → (s.chan c).trigger ≠ 2 →
    s.cellRoom c < min 4096 (s.chan c).len.toNat / 64 →
    Completes (.moverStart c) s fun t =>
      (t.chan c).passActive = true ∧ (t.chan c).wantRead = true ∧ (t.chan c).issued = 0 ∧ (t.chan c).cells = (s.chan c).cells ∧
      t.mov.issued = bump s.mov.issued) ∧
  (∀ (s : State) (c : Chan) (cause : Nat), s.startRefused c = some cause →
    Completes (.moverStart c) s fun t => t.mov.refusals = bump s.mov.refusals ∧ t.chan c = { s.chan c with status := 7 } ∧
      (∀ d, d ≠ c → t.chan d = s.chan d)) ∧
  (∀ (s : State) (c : Chan), (s.chan c).started = true → (s.chan c).group = 0 → (s.chan c).buffered = [] →
    Completes (.moverAbort c) s fun t => (t.chan c).status = 6 ∧ (t.chan c).passActive = false ∧ t.mov.failed = bump s.mov.failed) ∧
  -- R348: what has been read is written first
  (∀ (s : State) (c : Chan), (s.chan c).started = true → (s.chan c).buffered ≠ [] →
    Completes (.moverAbort c) s fun t => (t.chan c).ending = some (6, (s.chan c).fail, 0) ∧ (t.chan c).started = true ∧
      (t.chan c).buffered = (s.chan c).buffered ∧ t.mov.failed = s.mov.failed) ∧
  (∀ (s : State) (c : Chan), (s.chan c).started = false → exec (.moverAbort c) s = .next s) ∧
  (∀ (s : State) (c : Chan), Completes (.moverPause c) s fun t =>
      (t.chan c).paused = true ∧ (∀ d, d ≠ c → t.chan d = s.chan d) ∧ Quiet s t ∧
      ((s.chan c).passActive = true → (s.chan c).outstanding = 0 → (s.chan c).buffered = [] → (t.chan c).status = 3)) ∧
  (∀ (s : State) (c : Chan), (s.chan c).control.getLsbD 13 = true →
    Completes (.moverResume c) s fun t => (t.chan c).control = (s.chan c).control &&& ~~~ 0x1000#32 ∧ (∀ d, d ≠ c → t.chan d = s.chan d)) ∧
  -- R351: a tick while a pass runs is held once; the next ones are overruns
  (∀ (s : State) (c : Chan), (s.chan c).trigger = 1 → (s.chan c).started = true → (s.chan c).passActive = true →
    (s.chan c).heldStart = false →
    exec (.moverTimerTick c) s = .next (s.setChan c fun h => { h with heldStart := true })) ∧
  (∀ (s : State) (c : Chan), (s.chan c).trigger = 1 → (s.chan c).started = true → (s.chan c).passActive = true →
    (s.chan c).heldStart = true →
    exec (.moverTimerTick c) s = .next (s.setChan c fun h => { h with overruns := bump h.overruns })) ∧
  -- R349, R354: the answers of a remote end: to a READ, and to a WRITE, which carries no data
  (∀ (s : State) (c : Chan) (status : U8) (l : List Byte), (s.chan c).passActive = true → (s.chan c).sending = 0 →
    (s.chan c).outstanding ≠ 0 → s.ownAddr ((s.chan c).srcAt (s.chan c).pass.toNat) = false → status ≠ 0 → (s.chan c).group = 0 →
    Completes (.moverReadComplete c (.remote status l)) s fun t =>
      (t.chan c).status = 5 ∧ (t.chan c).fail = 2 ∧ (t.chan c).buffered = [] ∧ t.mov.failed = bump s.mov.failed ∧
      (t.chan c).discarded = bumpBy (s.chan c).discarded (s.chan c).buffered.length) ∧
  (∀ (s : State) (c : Chan) (l : List Byte), (s.chan c).passActive = true → (s.chan c).sending = 0 →
    (s.chan c).outstanding ≠ 0 → s.ownAddr ((s.chan c).srcAt (s.chan c).pass.toNat) = false →
    s.ownAddr ((s.chan c).dstAt (s.chan c).pass.toNat + (s.chan c).resume) = false →
    Completes (.moverReadComplete c (.remote 0 l)) s fun t =>
      (t.chan c).bytesRead = bumpBy (s.chan c).bytesRead (padTo (s.chan c).nextRead (l.take (s.chan c).nextRead)).length ∧
      (t.chan c).buffered = (s.chan c).buffered ++ padTo (s.chan c).nextRead (l.take (s.chan c).nextRead)) ∧
  (∀ (s : State) (c : Chan), (s.chan c).passActive = true → (s.chan c).sending ≠ 0 → (s.chan c).ending = none →
    Completes (.moverReadComplete c (.remote 0 [])) s fun t =>
      (t.chan c).bytesWritten = bumpBy (s.chan c).bytesWritten (s.chan c).sending ∧
      (t.chan c).buffered = (s.chan c).buffered.drop (s.chan c).sending ∧
      (t.chan c).resume = (s.chan c).resume + BitVec.ofNat 64 (s.chan c).sending) ∧
  -- R350: a swapped write of two bytes at a time
  (∀ a b : Byte, swapBytes 1 [a, b] = [b, a]) ∧
  (∀ a b c d : Byte, swapBytes 2 [a, b, c, d] = [d, c, b, a] ∧ swapBytes 4 [a, b, c, d] = [c, d, a, b]) ∧
  -- R351: the last pass ends the part
  (∀ (s : State) (c : Chan), (s.chan c).passActive = true → (s.chan c).resume = (s.chan c).len →
    (s.chan c).repeats ≠ 0 → (s.chan c).pass + 1 = (s.chan c).repeats → (s.chan c).group = 0 →
    (∀ d, ¬ ((s.chan d).trigger = 2 ∧ (s.chan d).trigChan = c.val)) →
    Completes (.moverPassEnd c) s fun t =>
      (t.chan c).status = 4 ∧ (t.chan c).passActive = false ∧ (t.chan c).pass = (s.chan c).pass + 1 ∧
      t.mov.succeeded = bump s.mov.succeeded) ∧
  (∀ (s : State) (c : Chan), (s.chan c).resume ≠ (s.chan c).len → exec (.moverPassEnd c) s = .next s) ∧
  -- R354
  (∀ (s : State) (c : Chan), (s.chan c).passActive = true → (s.chan c).group = 0 →
    ((s.chan c).sending ≠ 0 ∨ ((s.chan c).outstanding ≠ 0 ∧ s.ownAddr ((s.chan c).srcAt (s.chan c).pass.toNat) = false)) →
    Completes (.moverRemoteTimeout c) s fun t => (t.chan c).status = 5 ∧ (t.chan c).fail = 3 ∧ t.mov.failed = bump s.mov.failed) ∧
  -- R355 to R357: groups of channels, and the byte equation.
  (∀ (s : State) (g : U8), (g = 0 ∨ ∃ c ∈ s.groupChans g, (s.chan c).status ∉ [(0 : U8), 4, 5, 6]) →
    Completes (.groupStart g) s fun t => t.mov = { s.mov with refusals := bump s.mov.refusals } ∧ Records (ev3 0x3400 unitCC []) s t) ∧
  (∀ (s : State) (g : U8), g ≠ 0 → (∀ c ∈ s.groupChans g, (s.chan c).status ∈ [(0 : U8), 4, 5, 6]) →
    exec (.groupStart g) s = .next ((s.groupChans g).foldl (fun s c => moverStart c s) s)) ∧
  (∀ (s : State) (g : U8), g ≠ 0 → (s.mov.group g).state = 3 →
    exec (.groupRetry g) s =
      .next (((s.groupChans g).filter fun c => (s.chan c).lastOk == some false).foldl (fun s c => s.restartChan c) s)) ∧
  (∀ (s : State) (g : U8), (g = 0 ∨ (s.mov.group g).state ≠ 3) →
    Completes (.groupRetry g) s fun t => t.mov = { s.mov with refusals := bump s.mov.refusals } ∧ Records (ev3 0x3400 unitCC []) s t) ∧
  (∀ (s : State) (g : U8), g ≠ 0 → exec (.groupAbort g) s = .next ((s.groupChans g).foldl (fun s c => s.abortChan c) s)) ∧
  -- R357: a failing equation is a fatal error
  (∀ (s : State), (∀ c, (s.chan c).balanced = true) → s.cellsBalanced = true → exec .moverReconcile s = .next s) ∧
  (∀ (s : State) (c : Chan), (s.chan c).balanced = false →
    Completes .moverReconcile s fun t => t.job.dev = .safe ∧ t.mov = s.mov)

/-- R362 to R365, R387 to R389: a claim opens the job, its tree and anchors are taken, and a resignation ends it. Where a clause
rests on a choice of the model and not on a rule, log entries 11, 44 of notes/assumptions names it. -/
def Obligations.ClaimsAndResignationsOpenAndCloseTheJob : Prop :=
  (∀ (s : State) (l : List Byte), s.job.dev = .standby → (∀ t ∈ s.heldTags, t = field16 l 0) → claimFieldsOk l = true →
    Completes (.jobClaim l) s fun t =>
      t.job.dev = .opening ∧ t.job.openStatus = 1 ∧ t.job.jt = field16 l 0 ∧ t.job.epoch = field32 l 4 ∧ t.job.seq = field32 l 8 ∧
      t.job.members = field32 l 12 ∧ t.job.baseStep = field32 l 16 ∧ t.job.phase = none) ∧
  -- R363: reason 1 in any state but STANDBY; 2 while job data of another tag is held; 3 for a field value
  (∀ (s : State) (l : List Byte), s.job.dev ≠ .standby →
    Completes (.jobClaim l) s fun t => t.job = { s.job with refusals := bump s.job.refusals } ∧
      Records (ev3 0x2900 unitCC (le16 (field16 l 0) ++ arg1 1 ++ le16 ((s.heldTags.find? (· != field16 l 0)).getD 0))) s t) ∧
  (∀ (s : State) (l : List Byte) (x : U16), s.job.dev = .standby → s.heldTags.find? (· != field16 l 0) = some x →
    Completes (.jobClaim l) s fun t => t.job = { s.job with refusals := bump s.job.refusals } ∧
      Records (ev3 0x2900 unitCC (le16 (field16 l 0) ++ arg1 2 ++ le16 x)) s t) ∧
  (∀ (s : State) (l : List Byte), s.job.dev = .standby → (∀ t ∈ s.heldTags, t = field16 l 0) → claimFieldsOk l = false →
    Completes (.jobClaim l) s fun t => t.job = { s.job with refusals := bump s.job.refusals } ∧
      Records (ev3 0x2900 unitCC (le16 (field16 l 0) ++ arg1 3 ++ le16 0)) s t) ∧
  (∀ (s : State) (l : List Byte) (es : List (U32 × U32)), s.loadable = true →
    es = (chunksOf (l.length / 8) 8 l).map (fun r => (cnOf (field32 r 0), cnOf (field32 r 4))) → s.treeBad es l.length = none →
    exec (.openingTreeWrite l) s = .next { s with job := { s.job with tree := es } }) ∧
  (∀ (s : State) (l : List Byte) (off : Nat), s.loadable = true →
    s.treeBad ((chunksOf (l.length / 8) 8 l).map (fun r => (cnOf (field32 r 0), cnOf (field32 r 4)))) l.length = some off →
    Completes (.openingTreeWrite l) s fun t =>
      t.job = { s.job with treeErr := BitVec.ofNat 32 off, refusals := bump s.job.refusals } ∧
      Records (ev3 0x2905 unitCC (arg4 (BitVec.ofNat 32 off))) s t) ∧
  -- R365, R369: a segment is kept under its number, and goes to every child
  (∀ (s : State) (port : Port) (pk : Trans), pk.a32 4 = s.job.seq → pk.jt = s.job.jt → pk.body.length = 4096 →
    Completes (.anchorsReceive port pk) s fun t =>
      t.job.segSeq = s.job.seq ∧ t.job.dev = s.job.dev ∧
      ((pk.a32 8).setWidth 16, (List.range 2048).map (fun j => field16 pk.body (2 * j))) ∈ t.job.segs) ∧
  (∀ (s : State) (port : Port) (pk : Trans), (pk.a32 4).toNat < s.job.seq.toNat →
    Completes (.anchorsReceive port pk) s fun t => t.job = { s.job with duplicates := bump s.job.duplicates }) ∧
  -- R387: a resignation stops the job and frees its points
  (∀ (s : State) (jt : U16), jt ≠ 0 → jt = s.job.jt → (s.job.dev = .run ∨ s.job.dev = .fenced ∨ s.job.dev = .opening) →
    Completes (.resignationAction jt) s fun t =>
      t.job.dev = .resigning ∧ t.job.resignStatus = 1 ∧ t.job.phase = none ∧ t.job.jt = s.job.jt) ∧
  (∀ (s : State) (jt : U16), (jt = 0 ∨ jt ≠ s.job.jt) → s.job.dev ≠ .resigning →
    Completes (.resignationAction jt) s fun t =>
      t.job = { s.job with refusals := bump s.job.refusals, resignStatus := 4 } ∧ Records (ev3 0x2923 unitCC []) s t) ∧
  -- R389: a scrub that fails keeps the device in RESIGNING; a complete one clears the job and enters STANDBY
  (∀ (s : State), s.job.dev = .resigning → s.job.resignStatus = 1 →
    Completes (.resignScrubComplete false) s fun t =>
      t.job = { s.job with resignStatus := 5, scrubFails := bump s.job.scrubFails } ∧ t.mem = s.mem) ∧
  (∀ (s : State), s.job.dev = .resigning → s.job.resignStatus = 1 →
    Completes (.resignScrubComplete true) s fun t =>
      t.job.dev = .standby ∧ t.job.resignStatus = 2 ∧ t.job.jt = 0 ∧ t.job.epoch = 0 ∧ t.upd.table = [] ∧ t.red.trees = [] ∧
      t.job.resigns = bump s.job.resigns ∧ t.job.attest.isSome = true ∧ t.job.attestSeq = s.job.attestSeq + 1 ∧
      (∀ r ∈ t.mem.regions, r.jt = s.job.jt → r.jt = 0 ∨ r.flags.getLsbD 4 = true))

/-- R368 to R375, R384: the phases of an opening and a restore at the root and at a member. R367, R369, R374, R376, R378 to R383:
acknowledgements, checks, reach masks, pulls and image reads of an opening or a restore. Where a clause rests on a choice of the
model and not on a rule, log entries 11, 37, 44 of notes/assumptions names it. -/
def Obligations.OpeningPhasesAreGatedAndSettled : Prop :=
  -- R373: commands that do not fit are refused
  (∀ (s : State) (seq : U32), (seq ≠ s.job.seq ∨ s.isRoot = false ∨ s.job.dev ≠ .opening ∨ s.mayJoin = false ∨ s.job.openStatus ≠ 1) →
    Completes (.openingFresh seq) s fun t => t.job = { s.job with refusals := bump s.job.refusals } ∧
      Records (ev3 0x2901 unitCC ([0, 1] ++ arg4 s.adopted)) s t) ∧
  -- R366, R74: the fresh opening of the root
  (∀ (s : State), s.isRoot = true → s.job.dev = .opening → s.mayJoin = true → s.job.openStatus = 1 →
    ∃ u : State, u.job.segs = segsOfVector s.freshSegments s.freshVector ∧
      u.job.descr = some { mode := 1, usv := s.upd.semVersion, visa := s.vec.isaVersion, segments := BitVec.ofNat 16 s.freshSegments
                           start := s.job.baseStep + 1, members := s.job.members, digest := s.configDigest
                           anchorCrc := crc64 ((segsOfVector s.freshSegments s.freshVector).flatMap (fun x => segBytes x.2)), skips := 0 } ∧
      exec (.openingFresh s.job.seq) s = .next (State.settle (State.runPrepare (State.beginPhase .prepare none
        (u.phaseTrans .prepare 0 0 ((u.job.descr.map Descr.bytes).getD [])) u)))) ∧
  (∀ (s : State) (seq : U32), (s.isRoot = false ∨ s.job.dev ≠ .run ∨ seq.toNat ≤ s.job.seq.toNat) →
    Completes (.openingRestore seq) s fun t => t.job = { s.job with refusals := bump s.job.refusals } ∧
      Records (ev3 0x2901 unitCC ([0, 2] ++ arg4 s.adopted)) s t) ∧
  (∀ (s : State) (seq : U32) (u : State), s.isRoot = true → s.job.dev = .run → s.job.seq.toNat < seq.toNat →
    u = { s with job := s.job.fresh seq } →
    exec (.openingRestore seq) s = .next (State.settle (State.runSurvey (s.fence.committed + 1)
      (State.beginPhase .survey none (u.phaseTrans .survey 0 (s.fence.committed + 1) []) u)))) ∧
  (∀ (s : State) (p : PhaseSt) (t : Trans), s.job.phase = some p → p.pk = some t → s.isRoot = true → p.sender = none →
    exec (.openingResend s.job.seq) s = .next (s.resendPhase p t)) ∧
  (∀ (s : State) (seq : U32), (s.job.phase = none ∨ seq ≠ s.job.seq ∨ s.isRoot = false) →
    Completes (.openingResend seq) s fun t => t.job = { s.job with refusals := bump s.job.refusals }) ∧
  -- R11: the position in the epoch is not the one in which the device was fenced
  (∀ (s : State), s.mayJoin = false ↔ s.job.fencedAs = some (s.job.jt, s.job.epoch, s.adopted)) ∧
  -- R377: the command for a target step whose anchors the root does not hold
  (∀ (s : State) (seq target : U32), s.isRoot = true → s.job.dev = .run → s.job.seq.toNat < seq.toNat → s.vectorAt target = none →
    s.headsUnread = [] →
    Completes (.openingInstallCmd seq target) s fun t => t.job = { s.job with refusals := bump s.job.refusals } ∧
      Records (ev3 0x2901 unitCC ([9, 4] ++ arg4 s.adopted)) s t) ∧
  (∀ (s : State) (seq target : U32) (v : List (U32 × Int)), s.isRoot = true → s.job.dev = .run → s.job.seq.toNat < seq.toNat →
    s.vectorAt target = some v →
    exec (.openingInstallCmd seq target) s = .next (State.sendInstall (s.fence.committed + 1) target v
      (State.readyInstall { s with job := s.job.fresh seq }))) ∧
  -- R377: images whose heads the root has not read are read first
  (∀ (s : State) (seq target : U32), s.isRoot = true → s.job.dev = .run → s.job.seq.toNat < seq.toNat → s.vectorAt target = none →
    s.headsUnread ≠ [] → exec (.openingInstallCmd seq target) s = .next (s.awaitHeads seq target).tryInstall) ∧
  -- R373, R387: an abandon ends a restore as failed, and an opening by a resignation
  (∀ (s : State), s.job.dev = .run → s.restoring = true → s.isRoot = false →
    Completes (.openingAbandonCmd s.job.seq) s fun t => t.job.phase = none ∧ t.job.restStatus = 4 ∧ t.job.dev = .run) ∧
  (∀ (s : State) (seq : U32), seq ≠ s.job.seq →
    Completes (.openingAbandonCmd seq) s fun t => t.job = { s.job with refusals := bump s.job.refusals }) ∧
  (∀ (s : State) (port : Port) (pk : Trans), pk.a32 4 = s.job.seq → pk.jt = s.job.jt → s.job.dev = .opening →
    Completes (.abandonReceive port pk) s fun t => t.job.dev = .resigning ∧ t.job.resignStatus = 1) ∧
  (∀ (s : State) (port : Port) (pk : Trans), (pk.a32 4).toNat < s.job.seq.toNat →
    Completes (.abandonReceive port pk) s fun t => t.job = { s.job with duplicates := bump s.job.duplicates }) ∧
  -- R370: what a member does with a phase packet
  (∀ (s : State) (port : Port) (pk : Trans), exec (.prepareReceive port pk) s = .next
    (State.onPhase .prepare pk (fun s => (s.takeDescr pk).runPrepare) (s.takePk (.trans pk)))) ∧
  (∀ (s : State) (port : Port) (pk : Trans), exec (.surveyReceive port pk) s = .next
    (State.onPhase .survey pk (fun s => s.runSurvey (pk.a32 12)) (s.takePk (.trans pk)))) ∧
  (∀ (s : State) (port : Port) (pk : Trans), exec (.installReceive port pk) s = .next
    (State.onPhase .install pk (fun s => (State.readyInstall (State.takeDescr pk { s with
      job := { s.job with target := pk.a32 8, base := pk.a32 12 } })).runInstall) (s.takePk (.trans pk)))) ∧
  (∀ (s : State) (port : Port) (pk : Trans), exec (.commitReceive port pk) s = .next
    (State.onPhase .commit pk (fun s => s.runCommit.setOwn none) (s.takePk (.trans pk)))) ∧
  -- R9: SAFE serves management traffic only
  (∀ (s : State) (ph : OpPhase) (pk : Trans) (go : State → State), s.job.dev = .safe → s.onPhase ph pk go = s) ∧
  (∀ (s : State) (ph : OpPhase) (pk : Trans) (go : State → State), s.job.dev ≠ .safe → (pk.a32 4).toNat < s.job.seq.toNat →
    s.onPhase ph pk go = { s with job := { s.job with duplicates := bump s.job.duplicates } }) ∧
  (∀ (s : State) (ph : OpPhase) (pk : Trans) (go : State → State), s.job.dev ≠ .safe → pk.a32 4 = s.job.seq →
    pk.jt = s.job.jt → s.job.lastPhase = none → s.job.phase = none → s.startFits ph = true →
    s.onPhase ph pk go = State.settle (go (s.beginPhase ph (some (cnOf pk.src)) pk))) ∧
  (∀ (s : State) (ph : OpPhase) (pk : Trans) (go : State → State), s.job.dev ≠ .safe → s.job.seq.toNat ≤ (pk.a32 4).toNat →
    pk.jt ≠ s.job.jt →
    s.onPhase ph pk go = s.refusePhase ph pk) ∧
  -- R369: a phase that begins goes to each child and awaits it
  (∀ (s : State) (ph : OpPhase) (sender : Option U32) (t : Trans), (s.beginPhase ph sender t).job.phase =
    some { phase := ph, seq := s.job.seq, sender := sender, expect := s.children, pk := some t }) ∧
  -- R367, R369, R374, R376, R378 to R383: acknowledgements, checks, reach masks, pulls and image reads of an opening or a restore.
  -- R367: an expected acknowledgement is folded, any other counted
  (∀ (s : State) (port : Port) (pk : Trans) (p : PhaseSt), s.job.phase = some p → cnOf pk.src ∈ p.expect → pk.a8 1 = p.phase.code →
    pk.a32 4 = p.seq →
    exec (.openingAckReceive port pk) s = .next (((s.takePk (.trans pk)).setPhase (p.fold (cnOf pk.src) pk)).settle) ∧
    (p.fold (cnOf pk.src) pk).expect = p.expect.filter (· != cnOf pk.src) ∧
    (p.fold (cnOf pk.src) pk).readyCount = p.readyCount + pk.a32 8 ∧
    (p.refused = none → ackRefused pk = true → (p.fold (cnOf pk.src) pk).refused = some (pk.a8 3, cnOf (pk.b.setWidth 32)))) ∧
  (∀ (s : State) (port : Port) (pk : Trans), (∀ p, s.job.phase = some p → cnOf pk.src ∉ p.expect) →
    Completes (.openingAckReceive port pk) s fun t => t.job = { s.job with duplicates := bump s.job.duplicates }) ∧
  -- R369: a child that does not answer is missing, and its children are asked
  (∀ (s : State) (cn : U32) (p : PhaseSt) (t : Trans), s.job.phase = some p → cn ∈ p.expect → p.pk = some t →
    exec (.openingChildMissing cn) s = .next (s.phaseChildMissing cn p t)) ∧
  (∀ (s : State) (cn : U32) (p : PhaseSt) (t : Trans), s.job.phase = some p → p.phase = .commit → s.childrenOf cn = [] →
    p.own = none → s.job.adopted.contains cn = false →
    (s.phaseChildMissing cn p t).job = { s.job with
      adopted := cn :: s.job.adopted, adoptions := bump s.job.adoptions
      phase := some { p with expect := p.expect.filter (· != cn), missing := p.missing ++ [cn], missCount := p.missCount + 1 } }) ∧
  -- R379, R384
  (∀ (s : State), (∀ p, s.job.phase = some p → p.phase ≠ .install ∨ p.own.isSome = true) → exec .installComplete s = .next s) ∧
  (∀ (s : State) (p : PhaseSt), s.job.phase = some p → p.phase = .install → p.own = none → s.installFailed = false →
    s.installDone = true → exec .installComplete s = .next (s.completeInstall.setOwn none).settle) ∧
  (∀ (s : State) (p : PhaseSt), s.job.phase = some p → p.phase = .install → p.own = none → s.installFailed = true →
    exec .installComplete s = .next ((s.setOwn (some 9)).settle)) ∧
  -- R374, R376
  (∀ (s : State) (port : Port) (pk : Trans), s.job.phase = none →
    Completes (.streamCheckReceive port pk) s fun t => t.job = { s.job with
      streamChecks := s.job.streamChecks.filter (fun x => x.1 != cnOf pk.src) ++ [(cnOf pk.src, pk.b)] } ∧ Quiet s t) ∧
  (∀ (s : State) (port : Port) (pk : Trans), s.job.phase = none → s.part.named = true → cnOf pk.src = s.part.partner →
    Completes (.reachReceive port pk) s fun t => t.job = { s.job with
      reachIn := s.job.reachIn.filter (fun x => x.1 != pk.a32 0) ++ [(pk.a32 0, pk.b)] } ∧ Quiet s t) ∧
  (∀ (s : State) (port : Port) (pk : Trans), (s.part.named = false ∨ cnOf pk.src ≠ s.part.partner) →
    exec (.reachReceive port pk) s = .next (s.takePk (.trans pk))) ∧
  (∀ (s : State), s.surveying = false → exec .reachTimeout s = .next s) ∧
  (∀ (s : State), s.surveying = true → exec .reachTimeout s = .next (State.settle (State.finishSurvey { s with
    job := { s.job with gets := s.job.gets.map (fun g => if g.survey then { g with done := true } else g) } }))) ∧
  -- R381, R382: pulls at the partner and at the owner
  (∀ (s : State) (port : Port) (pk : Trans), s.ownerIx (cnOf pk.src) = none →
    Completes (.pullReqReceive port pk) s fun t => t.part.refusals = bump s.part.refusals ∧ t.mem = s.mem) ∧
  (∀ (s : State) (port : Port) (pk : Trans) (ix : Fin 4) (last : U32) (u : State), s.ownerIx (cnOf pk.src) = some ix →
    Stream.ofSel (pk.a8 5).toNat = some .g →
    State.sendSlots ix (cnOf pk.src) (pk.a32 0) (pk.a32 8) (pk.a32 12).toNat (s.takePk (.trans pk)) = (last, u) →
    exec (.pullReqReceive port pk) s = .next (u.pullDone (cnOf pk.src) (pk.a32 0) .g 0 last 0)) ∧
  (∀ (s : State) (port : Port) (pk : Trans) (p : Pull) (e : TensorEntry), s.pullOf (pk.a32 0) (pk.a8 5).toNat = some p →
    s.ownerOf (pk.a32 0) = some e → s.part.named = true → cnOf pk.src = s.part.partner → p.stream ≠ .g → p.digest = pk.b →
    (∃ x ∈ s.job.pulls, x ≠ p ∧ x.ts = pk.a32 0) →
    Completes (.pullDoneReceive port pk) s fun t => t.job = { s.job with pulls := s.job.pulls.filter (fun x => !(x == p)) } ∧ Quiet s t) ∧
  (∀ (s : State) (ts : U32) (sel : U8) (p : Pull), s.pullOf ts sel.toNat = some p → p.tries < 3 →
    Completes (.pullTimeout ts sel) s fun t => t.job = { s.job with
      pulls := s.job.pulls.map (fun x => if x == p then { p with tries := p.tries + 1, digest := 0 } else x) }) ∧
  (∀ (s : State) (ts : U32) (sel : U8), s.pullOf ts sel.toNat = none → exec (.pullTimeout ts sel) s = .next s) ∧
  -- R336, R377, R42, R61, R65: parts of an image, their header checked before the payload, a poisoned payload not verified
  (∀ (s : State) (port : Port) (pk : Trans) (g : StoreGet),
    s.job.gets.find? (fun g => g.obj == pk.a64 0 && !g.done && pk.b == BitVec.ofNat 64 g.data.length) = some g → pk.a8 12 = 0 →
    exec (.storeGetResponse port pk) s = .next (State.checkPart g (cnOf pk.src) (Block.ofBytes pk.body) (s.takePk (.trans pk)))) ∧
  (∀ (s : State) (g : StoreGet) (src : U32) (b : Block), b.hdr.crcOk = false →
    (s.checkPart g src b).chk = { s.chk with hdrFail := bump s.chk.hdrFail } ∧ (s.checkPart g src b).job = s.job) ∧
  (∀ (s : State) (g : StoreGet) (src : U32) (b : Block), b.hdr.crcOk = true → b.hdr.valid = false →
    (s.checkPart g src b).chk = { s.chk with invalid := bump s.chk.invalid } ∧ (s.checkPart g src b).job = s.job) ∧
  (∀ (s : State) (g : StoreGet) (src : U32) (b : Block), b.hdr.crcOk = true → b.hdr.valid = true → b.hdr.poison = true →
    s.checkPart g src b = State.takePart g b { s with chk := { s.chk with poisonedRecv := bump s.chk.poisonedRecv } }) ∧
  (∀ (s : State) (g : StoreGet) (src : U32) (b : Block), b.hdr.crcOk = true → b.hdr.valid = true → b.hdr.poison = false →
    b.payOk = true → s.checkPart g src b = State.takePart g b { s with chk := { s.chk with payChecks := bump s.chk.payChecks } }) ∧
  (∀ (s : State) (g : StoreGet) (src : U32) (b : Block), b.hdr.crcOk = true → b.hdr.valid = true → b.hdr.poison = false →
    b.payOk = false → (s.checkPart g src b).chk = { s.chk with payChecks := bump s.chk.payChecks, payRecv := bump s.chk.payRecv } ∧
      (s.checkPart g src b).job.gets = s.job.gets) ∧
  (∀ (s : State) (port : Port) (pk : Trans),
    s.job.gets.find? (fun g => g.obj == pk.a64 0 && !g.done && pk.b == BitVec.ofNat 64 g.data.length) = none →
    exec (.storeGetResponse port pk) s = .next (s.takePk (.trans pk)))

/-- R394 to R399, R403 to R405: watching, suspicion and arbitration. R400 to R402, R406, R407: declarations, epoch fences and
their installs. Where a clause rests on a choice of the model and not on a rule, log entries 9, 10, 38 to 42 of notes/assumptions
names it. -/
def Obligations.SuspicionsLeadToFlagFallsOrAreDismissed : Prop :=
  (∀ (s : State) (answers : Bool), exec (.watchdogFeed answers) s = .next { s with det := { s.det with
    watchdogFed := answers && s.job.dev != .safe && s.job.dev != .fenced } }) ∧
  -- R395: a job port suspects its peer once per epoch
  (∀ (s : State) (p : Port) (pos : U32), 8 ≤ p.val → s.jobPort p = true → s.exempt p = false → s.peerPosition p = some pos →
    pos ∉ s.det.sentFor →
    Completes (.suspicionTimeout p) s fun t => t.det = { s.det with sentFor := pos :: s.det.sentFor, suspSent := bump s.det.suspSent }) ∧
  (∀ (s : State) (p : Port), (p.val < 8 ∨ s.jobPort p = false ∨ s.exempt p = true) → exec (.suspicionTimeout p) s = .next s) ∧
  -- R403
  (∀ (s : State) (p : Port), s.job.dev = .run → p ∈ s.fabricJobPorts → s.exempt p = false →
    Completes .isolationTimeout s fun t => t.job = { s.job with dev := .fenced, fencedAs := some (s.job.jt, s.job.epoch, s.adopted) } ∧ t.tele = (s.record (ev1 0x4005 unitFault [])).tele) ∧
  (∀ (s : State), s.job.dev ≠ .run → exec .isolationTimeout s = .next s) ∧
  -- R404
  (∀ (s : State) (tl : Fin 8) (p : Port), p.val = tl.val → s.jobPort p = true → (s.port p).agentLost = false →
    Completes (.agentSilenceTimeout tl) s fun t =>
      t.det.agentLosses = bump s.det.agentLosses ∧ (t.port p).agentLost = true) ∧
  -- R397, R398: the first SUSPECT at an arbiter opens a record and probes; SELF is a flag fall at once
  (∀ (s : State) (port : Port) (pk : Trans), s.job.dev ≠ .fenced → s.job.dev ≠ .safe → s.arbiterRole ≠ 0 → s.job.epoch.toNat ≤ pk.epoch.toNat →
    cnOf pk.src ∉ s.det.fenced → cnOf (pk.a32 4) ∉ s.det.fenced → cnOf pk.src ≠ cnOf (pk.a32 4) → s.suspicion (cnOf (pk.a32 4)) = none →
    Completes (.suspectReceive port pk) s fun t => t.det = { s.det with
      suspRecv := bump s.det.suspRecv, probes := bump s.det.probes
      records := s.det.records ++ [{ pos := cnOf (pk.a32 4), watchers := [cnOf pk.src], probes := 1, firstAt := s.time.now }]
      planeOut := s.det.planeOut ++ [(cnOf (pk.a32 4), 0x4000, 0x11)] } ∧ Quiet s t) ∧
  (∀ (s : State) (port : Port) (pk : Trans), s.job.dev ≠ .fenced → s.job.dev ≠ .safe → s.arbiterRole = 0 → pk.epoch.toNat < s.job.epoch.toNat →
    Completes (.suspectReceive port pk) s fun t => t.det = { s.det with refusals := bump s.det.refusals } ∧ Quiet s t) ∧
  (∀ (s : State) (port : Port) (pk : Trans), (s.job.dev = .fenced ∨ s.job.dev = .safe) →
    exec (.suspectReceive port pk) s = .next (s.takePk (.trans pk))) ∧
  -- R9, R398: the answer of a probe, which SAFE does not serve
  (∀ (s : State) (pos : U32) (w : U64), s.job.dev = .safe →
    exec (.probeAnswer pos w) s = .next s ∧ exec (.probeTimeout pos) s = .next s) ∧
  (∀ (s : State) (pos : U32) (w : U64) (r : Suspicion), s.job.dev ≠ .safe → s.suspicion pos = some r → isolatedWord s.job.jt w = false →
    Completes (.probeAnswer pos w) s fun t => t.det = { s.det with
      records := s.det.records.filter (fun x => x.pos != pos), dismissed := bump s.det.dismissed } ∧
      Records (ev3 0x4001 unitFault []) s t) ∧
  (∀ (s : State) (pos : U32) (w : U64) (r : Suspicion), s.job.dev ≠ .safe → s.suspicion pos = some r → isolatedWord s.job.jt w = true →
    exec (.probeAnswer pos w) s = .next (s.flagFall pos 2 r.watchers.length)) ∧
  (∀ (s : State) (pos : U32) (r : Suspicion), s.job.dev ≠ .safe → s.suspicion pos = some r → r.watchers.length < s.det.quorum.toNat → r.probes < 3 →
    Completes (.probeTimeout pos) s fun t => t.det = { s.det with
      records := s.det.records.map (fun x => if x.pos == r.pos then { r with probes := r.probes + 1 } else x)
      probes := bump s.det.probes, planeOut := s.det.planeOut ++ [(pos, 0x4000, 0x11)] }) ∧
  (∀ (s : State) (pos : U32) (r : Suspicion), s.job.dev ≠ .safe → s.suspicion pos = some r → (s.det.quorum.toNat ≤ r.watchers.length ∨ 3 ≤ r.probes) →
    exec (.probeTimeout pos) s = .next (s.flagFall pos 1 r.watchers.length)) ∧
  -- R398, R401: a flag fall is counted, its record goes, and the position is fenced
  (∀ (s : State) (pos : U32) (cause : U8) (n : Nat), pos ≠ s.adopted → pos ∉ s.det.fenced →
    (s.flagFall pos cause n).det.flagFalls = bump s.det.flagFalls ∧ pos ∈ (s.flagFall pos cause n).det.fenced ∧
    (s.flagFall pos cause n).job = s.job) ∧
  (∀ (s : State) (cause : U8) (n : Nat), s.job.dev ≠ .safe → (s.flagFall s.adopted cause n).job = { s.job with
    dev := .fenced, fencedAs := some (s.job.jt, s.job.epoch, s.adopted) }) ∧
  -- R405
  (∀ (s : State) (pos reason : U32) (key : U16), (s.job.dev = .opening ∨ s.job.dev = .run) → cnOf pos ≠ s.adopted →
    s.isMember (cnOf pos) = true → cnOf pos ∉ s.det.fenced →
    Completes (.evictionAction pos reason key) s fun t =>
      t.det.flagFalls = bump s.det.flagFalls ∧ cnOf pos ∈ t.det.fenced ∧ t.job = s.job) ∧
  (∀ (s : State) (pos reason : U32) (key : U16), s.isMember (cnOf pos) = false →
    Completes (.evictionAction pos reason key) s fun t =>
      t.det = { s.det with refusals := bump s.det.refusals } ∧ Records (ev3 0x4008 unitFault []) s t) ∧
  -- R400 to R402, R406, R407: declarations, epoch fences and their installs.
  -- R402: the own position
  (∀ (s : State) (port : Port) (pk : Trans), s.job.dev ≠ .fenced → s.job.dev ≠ .safe → s.job.epoch.toNat ≤ pk.epoch.toNat →
    cnOf (pk.a32 4) = s.adopted →
    Completes (.declareReceive port pk) s fun t => t.job = { s.job with dev := .fenced, fencedAs := some (s.job.jt, s.job.epoch, s.adopted) } ∧
      t.tele = (s.record (ev3 0x4004 unitFault [])).tele) ∧
  -- R401: another position
  (∀ (s : State) (port : Port) (pk : Trans), s.job.dev ≠ .fenced → s.job.dev ≠ .safe → s.job.epoch.toNat ≤ pk.epoch.toNat →
    cnOf (pk.a32 4) ≠ s.adopted → cnOf (pk.a32 4) ∉ s.det.fenced →
    Completes (.declareReceive port pk) s fun t =>
      t.det.fenced = s.det.fenced ++ [cnOf (pk.a32 4)] ∧ t.det.fencedCount = bump s.det.fencedCount ∧ t.job = s.job) ∧
  -- R407: an older epoch
  (∀ (s : State) (port : Port) (pk : Trans), s.job.dev ≠ .fenced → s.job.dev ≠ .safe → pk.epoch.toNat < s.job.epoch.toNat →
    Completes (.declareReceive port pk) s fun t => t.det = { s.det with refusals := bump s.det.refusals } ∧ Quiet s t) ∧
  -- R9: SAFE serves management traffic only
  (∀ (s : State) (port : Port) (pk : Trans), (s.job.dev = .fenced ∨ s.job.dev = .safe) →
    exec (.declareReceive port pk) s = .next (s.takePk (.trans pk))) ∧
  -- R401 step 2: every port toward a fenced position is disabled
  (∀ (s : State) (pos : U32) (p : Port), s.peerPosition p = some pos →
    ((s.disableToward pos).port p).st = .disabled ∧ ((s.disableToward pos).port p).fencedOff = true) ∧
  (∀ (s : State) (pos : U32) (p : Port), s.peerPosition p ≠ some pos → (s.disableToward pos).port p = s.port p) ∧
  -- R406: the root installs a later epoch
  (∀ (s : State) (v : U32), s.root = some s.adopted → (s.job.dev = .opening ∨ s.job.dev = .run) → s.job.epoch.toNat < v.toNat →
    exec (.epochFenceAction v) s = .next (State.installEpoch v s.det.fenced none { s with det := { s.det with fenceStatus := 1 } })) ∧
  (∀ (s : State) (v : U32), (s.root ≠ some s.adopted ∨ v.toNat ≤ s.job.epoch.toNat) →
    Completes (.epochFenceAction v) s fun t =>
      t.det = { s.det with fenceStatus := 4 } ∧ t.job = s.job ∧ Records (ev3 0x4008 unitFault []) s t) ∧
  -- R406 step 3: the epoch is adopted, and the install awaits the children
  (∀ (s : State) (e : U32) (l : List U32) (sender : Option U32), (s.installEpoch e l sender).job.epoch = e ∧
    (s.installEpoch e l sender).fence.pending = false) ∧
  (∀ (s : State) (port : Port) (pk : Trans), (s.job.dev = .opening ∨ s.job.dev = .run) → s.job.epoch.toNat < (pk.a32 4).toNat →
    s.adopted ∉ installList pk →
    Completes (.epochInstallReceive port pk) s fun t => t.job.epoch = pk.a32 4 ∧ t.job.dev = s.job.dev) ∧
  (∀ (s : State) (port : Port) (pk : Trans), (s.job.dev = .opening ∨ s.job.dev = .run) → s.job.epoch.toNat < (pk.a32 4).toNat →
    s.adopted ∈ installList pk → Completes (.epochInstallReceive port pk) s fun t => t.job = { s.job with
      dev := .fenced, fencedAs := some (s.job.jt, s.job.epoch, s.adopted) }) ∧
  (∀ (s : State) (port : Port) (pk : Trans), (pk.a32 4).toNat ≤ s.job.epoch.toNat → s.det.lastInstalled = none →
    (s.job.dev = .opening ∨ s.job.dev = .run) →
    Completes (.epochInstallReceive port pk) s fun t => t.job = s.job ∧ t.det = { s.det with refusals := bump s.det.refusals }) ∧
  -- R406: INSTALLED of an expected child is folded
  (∀ (s : State) (port : Port) (pk : Trans) (i : InstallSt), s.det.install = some i → cnOf pk.src ∈ i.expect → pk.a32 4 = i.epoch →
    (∃ c ∈ i.expect, c ≠ cnOf pk.src) →
    Completes (.installedReceive port pk) s fun t => t.det = { s.det with install := some (i.fold (cnOf pk.src) pk) } ∧ Quiet s t) ∧
  (∀ (s : State) (port : Port) (pk : Trans), s.det.install = none → exec (.installedReceive port pk) s = .next (s.takePk (.trans pk)))

/-- R484 to R487, R490, R542: the start-up sequence, and the requests that lead to it. R514, R538 to R544: the loss of power, the
rails and the clock. Where a clause rests on a choice of the model and not on a rule, log entries 14, 16, 17, 18, 19, 54, 61, 84
of notes/assumptions names it. -/
def Obligations.StartupReachesStandbyOrSafe : Prop :=
  -- R487: while a reset pin is low, internal reset of the kind power-on is held
  (∀ (s : State) (w : BootWorld), s.pinHeld = true →
    Completes (.powerOn w) s fun t => t.boot.resetHeld = true ∧ t.boot.nextKind = 1 ∧ t.mem.h = [] ∧ t.mem.l = [] ∧ t.mem.marker = none ∧
      t.boot.keys = s.boot.keys ∧ t.boot.floor = s.boot.floor ∧ t.tele.slots = s.tele.slots) ∧
  (∀ (s : State) (w : BootWorld), s.pinHeld = false → w.romOk = false →
    Completes (.powerOn w) s fun t => t.job.dev = .safe ∧ t.boot.lastReset = 1 ∧ t.boot.resetHeld = false ∧
      t.time.cycles = s.time.cycles + 1) ∧
  (∀ (s : State) (w : BootWorld), s.pinHeld = false → w.romOk = true → w.identityOk = false →
    Completes (.powerOn w) s fun t => t.job.dev = .safe ∧ t.boot.identFailed = 1) ∧
  (∀ (s : State) (w : BootWorld), s.pinHeld = false → w.romOk = true → w.identityOk = true → w.trainFail = none → w.confirms = true →
    s.boot.trial = none → s.slotValid s.boot.activeB = true →
    Completes (.powerOn w) s fun t => t.job.dev = .standby ∧ t.boot.watchdog = false) ∧
  -- R487: a release runs the sequence of the kind held; one that is not held only shows the pins
  (∀ (s : State) (w : BootWorld), s.boot.resetHeld = false →
    exec (.resetRelease w) s = .next { s with pwr := { s.pwr with sysRstLow := false, wrstLow := false } }) ∧
  (∀ (s : State) (w : BootWorld), s.boot.resetHeld = true → w.romOk = false →
    Completes (.resetRelease w) s fun t => t.job.dev = .safe ∧ t.boot.lastReset = s.boot.nextKind ∧ t.boot.resetHeld = false ∧
      t.pwr.badRails = []) ∧
  (∀ (s : State) (w : BootWorld), s.boot.resetHeld = true → w.romOk = true → w.identityOk = true → w.trainFail = none →
    w.confirms = true → s.boot.trial = none → s.slotValid s.boot.activeB = true →
    Completes (.resetRelease w) s fun t => t.job.dev = .standby ∧ t.boot.watchdog = false) ∧
  -- R490: the slot of the boot record, or the other; with neither valid SAFE; the confirmed image reaches STANDBY
  (∀ (s : State) (kind : U8) (w : BootWorld) (r : State), w.romOk = true → w.identityOk = true → kind ≠ 1 →
    State.chooseImage { s with boot := { s.boot with lastReset := kind, resetHeld := false, nextKind := 0 } } = (none, r) →
    s.bootSequence kind w = r.enterSafe (ev0 0x7006 unitSec [])) ∧
  (∀ (s : State), s.boot.trial = none → s.slotValid s.boot.activeB = true → s.chooseImage = (some s.boot.activeB, s)) ∧
  (∀ (s : State), s.boot.trial = none → s.slotValid s.boot.activeB = false → s.slotValid (!s.boot.activeB) = true →
    s.chooseImage = (some (!s.boot.activeB), s.record (ev3 0x7001 unitSec []))) ∧
  (∀ (s : State), s.boot.trial = none → s.slotValid s.boot.activeB = false → s.slotValid (!s.boot.activeB) = false →
    s.chooseImage = (none, s)) ∧
  (∀ (s : State) (b : Bool), s.boot.trial = some b → s.boot.attempts.toNat < 2 → s.slotValid b = true →
    s.chooseImage = (some b, { s with boot := { s.boot with attempts := s.boot.attempts + 1 } })) ∧
  (∀ (s : State) (kind : U8) (w : BootWorld), s.job.dev ≠ .safe → w.trainFail = none → w.confirms = true →
    (s.bootLoad kind w).job.dev = .standby ∧ (s.bootLoad kind w).boot.watchdog = false) ∧
  (∀ (s : State) (kind : U8) (w : BootWorld) (t : Tier) (n : U8), w.trainFail = some (t, n) → (s.bootLoad kind w).job.dev = .safe) ∧
  -- R487, R490: the deadlines
  (∀ (s : State) (step : U8), 1 ≤ step.toNat → step.toNat ≤ 8 → exec (.bootLate step) s = .next (s.record (ev3 0x7007 unitSec [step]))) ∧
  (∀ (s : State), s.boot.watchdog = true → s.boot.resetHeld = false → s.job.dev ≠ .off →
    exec .bootWatchdogExpiry s = .next s.coldRequest) ∧
  (∀ (s : State), (s.boot.watchdog = false ∨ s.boot.resetHeld = true ∨ s.job.dev = .off) → exec .bootWatchdogExpiry s = .next s) ∧
  -- R485: a cold request
  (∀ (s : State), s.boot.resetHeld = false → s.coldRequest.boot.resetHeld = true ∧ s.coldRequest.boot.nextKind = 2 ∧
    s.coldRequest.mem.h = [] ∧ s.coldRequest.mem.l = [] ∧ s.coldRequest.mem.marker = none ∧ s.coldRequest.job.dev = .boot ∧
    s.coldRequest.boot.keys = s.boot.keys ∧ s.coldRequest.boot.floor = s.boot.floor) ∧
  (∀ (s : State), s.job.dev ≠ .off → exec .sysRstNFall s = .next (State.coldRequest { s with pwr := { s.pwr with sysRstLow := true } })) ∧
  (∀ (s : State), s.job.dev = .off → exec .sysRstNFall s = .next { s with pwr := { s.pwr with sysRstLow := true } }) ∧
  (∀ (s : State), s.boot.resetHeld = false → s.job.dev ≠ .boot → s.job.dev ≠ .off →
    Completes .resetActionCold s fun t => t.boot.resetHeld = true ∧ t.boot.nextKind = 2 ∧ t.mem.l = [] ∧ t.job.dev = .boot) ∧
  (∀ (s : State), (s.boot.resetHeld = true ∨ s.job.dev = .boot ∨ s.job.dev = .off) → exec .resetActionCold s = .next s) ∧
  -- R486, R225: a warm request keeps Tier L with its marker; it is ignored, and counted, in BOOT and under a reset
  (∀ (s : State) (late : Bool), s.boot.resetHeld = false → s.job.dev ≠ .boot → s.job.dev ≠ .off →
    let u := State.dropEarlyCuts 0x7050 { s with pwr := { s.pwr with wrstLow := true } }
    Completes (.wrstNFall late) s fun t => t.boot.resetHeld = true ∧ t.boot.nextKind = 3 ∧ t.pwr.wrstLow = true ∧ t.mem.h = [] ∧
      t.mem.l = u.mem.l ∧ t.mem.marker = (if late then none else some u.markerNow) ∧ t.job.dev = .boot) ∧
  (∀ (s : State) (late : Bool), s.boot.resetHeld = false → s.job.dev ≠ .boot → s.job.dev ≠ .off →
    let u := State.dropEarlyCuts 0x7050 (s.resetRequested 3)
    Completes (.resetActionWarm late) s fun t => t.boot.resetHeld = true ∧ t.boot.nextKind = 3 ∧ t.mem.h = [] ∧
      t.mem.l = u.mem.l ∧ t.mem.marker = (if late then none else some u.markerNow) ∧ t.job.dev = .boot) ∧
  -- the cuts dropped first change memory only by poison markings that waited for their pages
  (∀ (s : State) (cause : Nat), s.mem.marks = [] → (s.dropEarlyCuts cause).mem = s.mem) ∧
  (∀ (s : State) (late : Bool), (s.boot.resetHeld = true ∨ s.job.dev = .boot ∨ s.job.dev = .off) →
    exec (.resetActionWarm late) s = .next { s with boot := { s.boot with ignored := bump s.boot.ignored } } ∧
    exec (.wrstNFall late) s = .next { s with
      pwr := { s.pwr with wrstLow := true }, boot := { s.boot with ignored := bump s.boot.ignored } }) ∧
  -- R226: a marker that is missing, damaged, or of another power cycle loses Tier L; a good one keeps what lies in retained regions
  (∀ (s : State), s.mem.marker = none → s.retainedStep = s.loseRetained ∧ s.loseRetained.mem.l = [] ∧
    s.loseRetained.mem.retainedLost = bump s.mem.retainedLost) ∧
  (∀ (s : State) (m : Marker), s.mem.marker = some m → m.crcOk = false → s.retainedStep = s.loseRetained) ∧
  (∀ s : State, s.markerNow.crcOk = true) ∧
  (∀ (s : State) (m : Marker), s.mem.marker = some m → m.crcOk = true → m.cycles ≠ s.time.cycles → s.retainedStep = s.loseRetained) ∧
  (∀ (s : State) (m : Marker), s.mem.marker = some m → m.crcOk = true → m.cycles = s.time.cycles →
    s.retainedStep.mem.regions = retainedRegions s.ident.cn m.regions ∧ s.retainedStep.mem.poisonL = m.poisonL.filter (fun a => retainedOff (retainedRegions s.ident.cn m.regions) (offOf a)) ∧
    s.retainedStep.mem.l = s.mem.l.filter (fun c => retainedOff (retainedRegions s.ident.cn m.regions) c.1) ∧
    s.retainedStep.mem.marker = none) ∧
  -- R514, R538 to R544: the loss of power, the rails and the clock.
  (∀ (s : State), s.job.dev = .off → exec .powerLoss s = .next s) ∧
  (∀ (s : State), s.job.dev ≠ .off →
    Completes .powerLoss s fun t => t.job.dev = .off ∧ t.pwr.granting = false ∧ t.pwr.reservations = [] ∧ t.pwr.closing.isSome = true ∧
      (∀ i : Fin 2, (t.pwr.hu[i]).usable.toNat ≤ 100000) ∧ t.mem.marker = none ∧ t.mem.h = (s.cutShort 0x6020).mem.h ∧
      t.boot = s.boot) ∧
  (∀ (s : State) (cause : Nat), s.mem.marks = [] → (s.cutShort cause).mem = s.mem) ∧
  -- R514: the closing record of the last loss, at the next power-on
  (∀ (s : State) (a b : U32), s.pwr.closing = some (a, b) →
    s.closingEvent.pwr.closing = none ∧ s.closingEvent.tele = (s.record (ev3 0x6020 unitPwr (arg4 a ++ arg4 b))).tele) ∧
  (∀ (s : State), s.pwr.closing = none → s.closingEvent.tele = (s.record (ev3 0x6021 unitPwr [])).tele) ∧
  -- R540: VDD_KEEP, VIO_1V8 and VIO_MOD hold internal reset, every other rail enters SAFE
  (∀ (s : State) (rail : Rail) (mv : U16), s.job.dev ≠ .off → (rail = .vddKeep ∨ rail = .vio18 ∨ rail = .vioMod) →
    Completes (.railFault rail mv) s fun t => t.boot.resetHeld = true ∧ t.boot.nextKind = 1 ∧ t.mem.h = [] ∧ t.mem.l = [] ∧
      t.job.dev = .boot) ∧
  (∀ (s : State) (rail : Rail) (mv : U16), s.job.dev ≠ .off → s.boot.resetHeld = false → rail ≠ .vddKeep → rail ≠ .vio18 → rail ≠ .vioMod →
    Completes (.railFault rail mv) s fun t => t.job = { s.job with dev := .safe } ∧
      t.pwr = { s.pwr with railFaults := bump s.pwr.railFaults } ∧
      t.tele = (s.record (ev0 0x6051 unitPwr (arg1 (railNum rail) ++ le16 mv))).tele) ∧
  (∀ (s : State) (rail : Rail) (mv : U16), s.job.dev ≠ .off → s.boot.resetHeld = true → rail ≠ .vddKeep → rail ≠ .vio18 → rail ≠ .vioMod →
    Completes (.railFault rail mv) s fun t => rail ∈ t.pwr.badRails ∧ t.job = s.job ∧ Quiet s t) ∧
  (∀ (s : State) (rail : Rail) (mv : U16), s.job.dev = .off → exec (.railFault rail mv) s = .next s) ∧
  (∀ (s : State), s.pwr.badRails ≠ [] → s.lateRails.pwr = { s.pwr with railFaults := bump s.pwr.railFaults, badRails := [] } ∧
    Records (ev3 0x6050 unitPwr (s.pwr.badRails.map (fun r => BitVec.ofNat 8 (railNum r)))) s s.lateRails) ∧
  -- R544
  (∀ (s : State), s.job.dev ≠ .off → s.boot.resetHeld = false →
    Completes .sysclkLost s fun t => t.job = { s.job with dev := .safe } ∧ t.pwr = { s.pwr with sysclk := false } ∧
      t.tele = (s.record (ev0 0x6052 unitPwr [])).tele) ∧
  (∀ (s : State), (s.job.dev = .off ∨ s.boot.resetHeld = true) → exec .sysclkLost s = .next { s with pwr := { s.pwr with sysclk := false } })

/-- R458, R459, R462 to R471, R478: what a request meets, in the order of its checks, and the answer it gets. Where a clause rests
on a choice of the model and not on a rule, log entries 26, 27, 28, 31, 53 of notes/assumptions names it. -/
def Obligations.RequestsMeetTheirChecksInOrder : Prop :=
  -- R464, R465: what the server does with a message on any path
  (∀ (path : Path) (bytes : List Byte) (s : State), Msg.ofBytes bytes = none →
    serve path bytes s = (none, { s with acc := { s.acc with discarded := bump s.acc.discarded } })) ∧
  (∀ (path : Path) (bytes : List Byte) (s : State) (m : Msg) (d : DupEntry), Msg.ofBytes bytes = some m → s.acc.dupOf m = some d →
    d.crc = m.crc32 →
    serve path bytes s = (d.resp.map resent, { s with acc := { s.acc with dupAnswered := bump s.acc.dupAnswered } })) ∧
  (∀ (path : Path) (bytes : List Byte) (s : State) (m : Msg) (d : DupEntry), Msg.ofBytes bytes = some m → s.acc.dupOf m = some d →
    d.crc ≠ m.crc32 → (serve path bytes s).1 = some (m.answer { status := 8 }) ∧
      (serve path bytes s).2.acc.mismatches = bump s.acc.mismatches ∧ (serve path bytes s).2.acc.dups = s.acc.dups) ∧
  (∀ (path : Path) (bytes : List Byte) (s : State) (m : Msg), Msg.ofBytes bytes = some m → s.acc.dupOf m = none → m.kind = 1 →
    serve path bytes s = (some (m.answer (serveRead path m (obTaken path s))), keepResponse path m (serveRead path m (obTaken path s)).status
      (m.answer (serveRead path m (obTaken path s))) (obTaken path s))) ∧
  (∀ (path : Path) (bytes : List Byte) (s : State) (m : Msg), Msg.ofBytes bytes = some m → s.acc.dupOf m = none → m.kind ≠ 1 →
    (serve path bytes s).1 = some (m.answer { status := (if m.kind = 2 then serveWrite path m (obTaken path s)
      else serveSwrite path m (obTaken path s)).1 })) ∧
  -- R458, R459, R468: reads
  (∀ (path : Path) (m : Msg) (s : State), objectAt m.idx m.sub = none → (serveRead path m s).status = 1) ∧
  (∀ (path : Path) (m : Msg) (s : State) (r : Row), objectAt m.idx m.sub = some r → r.acc = .wo → (serveRead path m s).status = 2) ∧
  (∀ (path : Path) (m : Msg) (s : State) (r : Row), objectAt m.idx m.sub = some r → r.acc ≠ .wo → s.readable m.idx.toNat = false →
    (serveRead path m s).status = 3) ∧
  (∀ (path : Path) (m : Msg) (s : State) (r : Row), objectAt m.idx m.sub = some r → r.acc ≠ .wo → s.readable m.idx.toNat = true →
    r.ty.scalar = true → m.off = 0 → (serveRead path m s).status = 0 ∧ (serveRead path m s).data = leBytes r.ty.size (r.get s) ∧
      (serveRead path m s).total = (leBytes r.ty.size (r.get s)).length ∧ (serveRead path m s).gen = s.generation m.idx m.sub) ∧
  (∀ (path : Path) (m : Msg) (s : State) (r : Row), objectAt m.idx m.sub = some r → r.acc ≠ .wo → s.readable m.idx.toNat = true →
    r.ty.scalar = false → m.off ≤ (r.dom s).length → 48 + m.dlen ≤ pathLimit path →
    (serveRead path m s).status = 0 ∧ (serveRead path m s).data = ((r.dom s).drop m.off).take m.dlen ∧
      (serveRead path m s).total = (r.dom s).length) ∧
  -- R463: unsigned writes
  (∀ (path : Path) (m : Msg) (s : State), objectAt m.idx m.sub = none → serveWrite path m s = (1, s)) ∧
  (∀ (path : Path) (m : Msg) (s : State) (r : Row), objectAt m.idx m.sub = some r → r.acc ≠ .rw → r.acc ≠ .wo → serveWrite path m s = (2, s)) ∧
  (∀ (path : Path) (m : Msg) (s : State) (r : Row), objectAt m.idx m.sub = some r → s.writeGate path m.idx m.sub = 0 →
    r.ty.scalar = true → 48 + m.data.length ≤ pathLimit path → (m.off ≠ 0 ∨ m.data.length ≠ r.ty.size) → serveWrite path m s = (6, s)) ∧
  (∀ (path : Path) (m : Msg) (s : State) (r : Row), objectAt m.idx m.sub = some r → s.writeGate path m.idx m.sub = 0 →
    r.ty.scalar = true → 48 + m.data.length ≤ pathLimit path → m.off = 0 → m.data.length = r.ty.size →
    serveWrite path m s = noteWrite m.idx m.sub (ownWrite m.idx r m.data s)) ∧
  (∀ (idx : U16) (sub : U8) (s : State), (noteWrite idx sub (0, s)).2.generation idx sub = s.generation idx sub + 1) ∧
  (∀ (idx : U16) (sub : U8) (s : State) (i : U16) (b : U8), (i ≠ idx ∨ b ≠ sub) →
    (noteWrite idx sub (0, s)).2.generation i b = s.generation i b) ∧
  -- R467: a session gathers its segments in order
  (∀ (path : Path) (m : Msg) (s : State), m.first = true → m.off = 0 →
    (s.acc.dropSession ⟨m.client, m.idx, m.sub⟩).sessions.length < 8 →
    (s.acc.dropSession ⟨m.client, m.idx, m.sub⟩).pooled + m.data.length ≤ poolBytes →
    openSegment path m s = (.ok m.data, setAcc (fun a => { a with sessions := (a.dropSession ⟨m.client, m.idx, m.sub⟩).sessions ++
      [⟨⟨m.client, m.idx, m.sub⟩, path == .ring, m.data⟩] }) s)) ∧
  (∀ (path : Path) (m : Msg) (s : State) (x : Session), m.first = false →
    s.acc.sessions.find? (fun z => z.key == ⟨m.client, m.idx, m.sub⟩) = some x → m.off ≠ x.data.length →
    openSegment path m s = (.error 0x0A, s)) ∧
  (∀ (path : Path) (m : Msg) (s : State), m.first = false →
    s.acc.sessions.find? (fun z => z.key == ⟨m.client, m.idx, m.sub⟩) = none → openSegment path m s = (.error 0x0A, s)) ∧
  -- R469: signed writes
  (∀ (path : Path) (m : Msg) (s : State) (r : Row), objectAt m.idx m.sub = some r → r.acc ≠ .rws → serveSwrite path m s = (2, s)) ∧
  (∀ (path : Path) (m : Msg) (s : State) (r : Row), objectAt m.idx m.sub = some r → r.acc = .rws → s.writable m.idx.toNat r.sub = true →
    s.taking m.idx.toNat r.sub = true → (m.data.length < 148 ∨ m.off ≠ 0 ∨ pathLimit path < 48 + m.data.length) →
    serveSwrite path m s = (6, s)) ∧
  (∀ (path : Path) (m : Msg) (s : State) (r : Row), objectAt m.idx m.sub = some r → r.acc = .rws → s.writable m.idx.toNat r.sub = true →
    s.taking m.idx.toNat r.sub = true → 148 ≤ m.data.length → m.off = 0 → 48 + m.data.length ≤ pathLimit path → m.idx ≠ 0x7000 →
    s.signedOk m.idx m.sub (m.data.take (m.data.length - 148)) (m.data.drop (m.data.length - 148)) = false →
    (serveSwrite path m s).1 = 5 ∧ (serveSwrite path m s).2.acc = { s.acc with signRefused := bump s.acc.signRefused } ∧
      (serveSwrite path m s).2.boot = s.boot) ∧
  -- R487: nothing is answered without supplies or while internal reset is asserted
  (∀ (s : State), s.serverRuns = false ↔ s.boot.resetHeld = true ∨ s.job.dev = .off) ∧
  (∀ (s : State) (path : Path) (bytes : List Byte), s.serverRuns = false →
    exec (.objectRead path bytes) s = .next s ∧ exec (.objectWrite path bytes) s = .next s ∧ exec (.objectSwrite path bytes) s = .next s) ∧
  (∀ (s : State) (port : Port) (pk : Trans), s.serverRuns = false → exec (.objTunnelReceive port pk) s = .next (s.takePk (.trans pk))) ∧
  -- R471: a plane answers the address that asked, when the prefixes admit it
  (∀ (s : State) (bytes : List Byte), s.serverRuns = true → obRingIdle s → s.acc.admits (bytes.take 16) = false →
    exec (.objectRead .ma bytes) s = .next (setAcc (fun a => { a with discarded := bump a.discarded }) (obOnMa bytes s)) ∧
    exec (.objectWrite .ma bytes) s = .next (setAcc (fun a => { a with discarded := bump a.discarded }) (obOnMa bytes s)) ∧
    exec (.objectSwrite .ma bytes) s = .next (setAcc (fun a => { a with discarded := bump a.discarded }) (obOnMa bytes s))) ∧
  (∀ (s u : State) (bytes r : List Byte), s.serverRuns = true → s.acc.admits (bytes.take 16) = true → serve .ma (bytes.drop 16) (obOnMa bytes s) = (some r, u) →
    exec (.objectRead .ma bytes) s = .next (drainRing (setAcc (fun a => { a with responses := a.responses ++ [(.ma, bytes.take 16 ++ r)] })
      (u.countBytes 12 r.length))) ∧
    exec (.objectWrite .ma bytes) s = .next (drainRing (setAcc (fun a => { a with responses := a.responses ++ [(.ma, bytes.take 16 ++ r)] })
      (u.countBytes 12 r.length))) ∧
    exec (.objectSwrite .ma bytes) s = .next (drainRing (setAcc (fun a => { a with responses := a.responses ++ [(.ma, bytes.take 16 ++ r)] })
      (u.countBytes 12 r.length)))) ∧
  (∀ (s : State) (bytes : List Byte), s.serverRuns = true → exec (.objectRead .window bytes) s = .next { s with
    acc := { s.acc with responses := s.acc.responses ++ [(.window, windowRead s (field32 bytes 0).toNat)] }, tele := s.tele.countBytes 11 8 }) ∧
  -- R475: a message through the ring waits in its slot for the producer index
  (∀ (s : State) (bytes : List Byte), s.serverRuns = true → Completes (.objectWrite .ring bytes) s fun t => t.acc = { s.acc with reqRing := s.acc.reqRing ++
    [(s.acc.ringReqC + BitVec.ofNat 16 s.acc.reqRing.length, bytes)] }) ∧
  -- R478: a tunnelled request that R464 discards has no response
  (∀ (s : State) (port : Port) (pk : Trans), s.serverRuns = true → obRingIdle s → Msg.ofBytes pk.body = none →
    Completes (.objTunnelReceive port pk) s fun t => t.acc = { s.acc with discarded := bump s.acc.discarded } ∧ t.links = (s.takePk (.trans pk)).links) ∧
  (∀ (s u : State) (port : Port) (pk : Trans) (r : List Byte), s.serverRuns = true → serve (.tunnel port) pk.body (s.takePk (.trans pk)) = (some r, u) →
    exec (.objTunnelReceive port pk) s = .next (drainRing (State.sendOn port
      (.trans (State.mkTrans (setAcc (fun a => { a with responses := a.responses ++ [(.tunnel port, r)] }) u) opOBJ_TUNNEL pk.src 0 [] [] [] r))
      (setAcc (fun a => { a with responses := a.responses ++ [(.tunnel port, r)] }) u))))

/-- R467, R472 to R477, R479 to R481: sessions, window and ring writes, interrupts, host resets and the configuration store. Where
a clause rests on a choice of the model and not on a rule, log entries 29, 30, 32, 62 of notes/assumptions names it. -/
def Obligations.HostLinkWritesInterruptsAndTheStore : Prop :=
  -- R474: a refused write of the scalar window is counted and remembered
  (∀ (s : State) (idx : U16) (sub : U8) (l : List Byte), s.serverRuns = true → obRingIdle s → objectAt idx sub = none →
    Completes (.registerWrite .window idx sub l) s fun t =>
      t.acc = { s.acc with winRefused := bump s.acc.winRefused, winLast := le16 idx ++ [sub, 1] } ∧
      t.tele = s.tele.countBytes 10 l.length) ∧
  (∀ (s u : State) (idx : U16) (sub : U8) (l v : List Byte) (r : Row), s.serverRuns = true → objectAt idx sub = some r →
    (s.countBytes 10 l.length).writeGate .window idx sub = 0 → windowValue r l = some v → ownWrite idx r v (s.countBytes 10 l.length) = (0, u) →
    exec (.registerWrite .window idx sub l) s = .next (drainRing (noteWrite idx sub (0, u)).2)) ∧
  (∀ (s u : State) (path : Path) (idx : U16) (sub : U8) (l : List Byte) (r : Row), s.serverRuns = true → path ≠ .window →
    objectAt idx sub = some r →
    s.writeGate path idx sub = 0 → r.ty.scalar = true → l.length = r.ty.size → ownWrite idx r l s = (0, u) →
    exec (.registerWrite path idx sub l) s = .next (drainRing (noteWrite idx sub (0, u)).2)) ∧
  (∀ (s : State) (path : Path) (idx : U16) (sub : U8) (l : List Byte) (v : U16), s.serverRuns = false →
    exec (.registerWrite path idx sub l) s = .next s ∧ exec (.ringProduceWrite v) s = .next s ∧ exec (.ringConsumeWrite v) s = .next s) ∧
  (∀ (r : Row) (l : List Byte), r.ty.scalar = true → l.length = r.ty.size → windowValue r l = some l) ∧
  (∀ (s : State), exec .bar2Write s = .next { s with acc := { s.acc with winRefused := bump s.acc.winRefused } }) ∧
  -- R475: the rings
  (∀ (s : State) (v : U16), s.serverRuns = true → (s.countBytes 10 2).writeGate .window 0x1030 1 = 0 →
    exec (.ringProduceWrite v) s = .next (drainRing (noteWrite 0x1030 1
      (0, setAcc (fun a => { a with ringReqP := v }) (s.countBytes 10 2))).2)) ∧
  (∀ (s : State) (v : U16), s.serverRuns = true → (s.countBytes 10 2).writeGate .window 0x1030 4 = 0 →
    exec (.ringConsumeWrite v) s = .next (drainRing (noteWrite 0x1030 4
      (0, setAcc (fun a => { a with ringRspC := v }) (s.countBytes 10 2))).2)) ∧
  (∀ (s : State), (s.acc.ringReqC = s.acc.ringReqP ∨ s.acc.ringFull = true) → drainRing s = s) ∧
  (∀ (s : State), Msg.ofBytes (((s.acc.reqRing.find? (·.1 == s.acc.ringReqC)).map (·.2)).getD []) = none →
    (ringServe s).acc = { s.acc with
      reqRing := s.acc.reqRing.filter (·.1 != s.acc.ringReqC), ringReqC := s.acc.ringReqC + 1, discarded := bump s.acc.discarded }) ∧
  -- R476: an acknowledgement clears its sources, and the vectors of those left are sent again
  (∀ (s : State) (v : U32), Completes (.interruptAck v) s fun t => t.acc.irqPend = s.acc.irqPend &&& ~~~v ∧ Quiet s t ∧
    (∀ n, n < 8 → (s.acc.irqPend &&& ~~~v).getLsbD n = true → s.acc.irqMap[n]?.getD 0xFF ≠ 0xFF → s.acc.irqMap[n]?.getD 0xFF ∈ t.acc.msix)) ∧
  (∀ (s : State) (v : U32), s.acc.irqPend &&& ~~~v = 0 → exec (.interruptAck v) s = .next { s with acc := { s.acc with irqPend := 0 } }) ∧
  -- R477, R484: a reset of the host link
  (∀ (s : State), Completes .hostLinkReset s fun t => t.boot = { s.boot with lastReset := 4 } ∧
    t.acc.ringReqP = 0 ∧ t.acc.ringReqC = 0 ∧ t.acc.ringRspP = 0 ∧ t.acc.ringRspC = 0 ∧ t.acc.reqRing = [] ∧ t.acc.rspRing = [] ∧
    t.acc.sessions = s.acc.sessions.filter (fun x => !x.host) ∧ t.acc.dups = s.acc.dups ∧ t.tele = (s.record (ev3 0x8032 unitCC [])).tele) ∧
  -- R467, R465: expiry
  (∀ (s : State) (k : SessionKey), (∃ x ∈ s.acc.sessions, x.key = k) →
    exec (.sessionTimeout k) s = .next { s with acc := { s.acc with
      sessions := s.acc.sessions.filter (·.key != k), sessExpired := bump s.acc.sessExpired } }) ∧
  (∀ (s : State) (k : SessionKey), (∀ x ∈ s.acc.sessions, x.key ≠ k) → exec (.sessionTimeout k) s = .next s) ∧
  (∀ (s : State) (c r : U32), exec (.duplicateRetentionExpiry c r) s = .next { s with acc := { s.acc with
    dups := s.acc.dups.filter (fun d => !(d.client == c && d.req == r && d.resp.isSome)) } }) ∧
  -- R480: a save is written to the older copy; while one runs, or the ledger refuses, it is refused
  (∀ (s : State), s.acc.saving = none → (s.reserve saveCost).1 = true →
    Completes (.configSave 1) s fun t =>
      t.acc.saving = some (s.acc.olderIsB,
        { valid := true, gen := (max s.acc.cfgA.gen.toNat s.acc.cfgB.gen.toNat + 1 : Nat), entries := s.storeEntries }) ∧
      (if s.acc.olderIsB then t.acc.cfgB.valid = false ∧ t.acc.cfgA = s.acc.cfgA else t.acc.cfgA.valid = false ∧ t.acc.cfgB = s.acc.cfgB)) ∧
  (∀ (s : State), s.acc.saving.isSome = true → exec (.configSave 1) s = .next (s.record (ev3 0x8024 unitCC []))) ∧
  (∀ (s : State), s.acc.saving = none → (s.reserve saveCost).1 = false →
    exec (.configSave 1) s = .next ((s.reserve saveCost).2.record (ev3 0x8024 unitCC []))) ∧
  (∀ (s : State) (v : U8), v ≠ 1 → exec (.configSave v) s = .next s) ∧
  (∀ (s : State) (b : Bool) (c : CfgCopy), s.acc.saving = some (b, c) →
    Completes .configSaveComplete s fun t => (if b then t.acc.cfgB = c else t.acc.cfgA = c) ∧ t.acc.saving = none ∧ t.acc.cfgFallback = 0 ∧
      t.acc.cfgGen = c.gen ∧ t.tele = (s.record (ev3 0x8022 unitCC (arg1 (if b then 1 else 0) ++ arg4 c.gen))).tele) ∧
  (∀ (s : State), s.acc.saving = none → exec .configSaveComplete s = .next s) ∧
  -- R481: at boot the copy of the higher generation is loaded, the other when it alone is valid, and none with event 0x8021
  (∀ (s : State), s.acc.cfgA.valid = true → s.acc.cfgB.valid = true →
    s.loadConfig = (setCfg 0 s).loadCopy (if s.acc.cfgA.gen.toNat < s.acc.cfgB.gen.toNat then s.acc.cfgB else s.acc.cfgA)) ∧
  (∀ (s : State), s.acc.cfgA.valid = false → s.acc.cfgB.valid = false →
    s.loadConfig.acc.cfgWord = 3 ∧ s.loadConfig.acc.cfgFallback = 1 ∧ s.loadConfig.tele = (s.record (ev2 0x8021 unitCC [])).tele)

/-- R433, R435, R440, R441, R443, R446: the recorder, the samples, the trace control and the snapshots. R451 to R454: alarms wait,
leave by class under their tokens, and stay in the hold until they are acknowledged. Where a clause rests on a choice of the model
and not on a rule, log entries 8, 10, 34, 53 of notes/assumptions names it. -/
def Obligations.RecorderSamplesTracesAndSnapshots : Prop :=
  -- R433
  (∀ (s : State), s.tele.frozen = false →
    exec .recorderFreeze s = .next { s with tele := { s.tele with frozen := true, holdRefusedAt := s.tele.holdRefused } }) ∧
  (∀ (s : State), s.tele.frozen = true → exec .recorderFreeze s = .next s) ∧
  (∀ (s : State), s.tele.frozen = false → exec .recorderUnfreeze s = .next s ∧ exec .freezeTimeout s = .next s) ∧
  (∀ (s : State), s.tele.frozen = true → s.tele.holdRefused = s.tele.holdRefusedAt →
    Completes .recorderUnfreeze s fun t =>
      t.tele = { TeleState.appendAll s.time.cycles s.time.opMs s.tele.holding { s.tele with frozen := false, holding := [] } with
        holdRefusedAt := s.tele.holdRefused } ∧ t.acc = s.acc) ∧
  (∀ (s : State), s.tele.frozen = true → s.tele.holdRefused ≠ s.tele.holdRefusedAt →
    exec .recorderUnfreeze s = .next (State.record (ev3 0x8002 unitRec (arg4 ((s.tele.holdRefused - s.tele.holdRefusedAt).setWidth 32)))
      { s with tele := { TeleState.appendAll s.time.cycles s.time.opMs s.tele.holding { s.tele with frozen := false, holding := [] } with
        holdRefusedAt := s.tele.holdRefused } })) ∧
  (∀ (s u : State), s.tele.frozen = true → exec .recorderUnfreeze s = .next u →
    exec .freezeTimeout s = .next (u.record (ev3 0x8003 unitRec []))) ∧
  -- R435: a clear whose signature holds leaves its own event and what was held; one that does not is counted
  (∀ (s : State) (key : U16), s.tele.holding = [] → s.tele.holdRefused = s.tele.holdRefusedAt →
    Completes (.recorderClear key true) s fun t => t.tele = (State.record (ev3 0x8004 unitRec (le16 key ++ leBytes 4 s.tele.slotsUsed))
      { s with tele := { s.tele with frozen := false, holding := [], slots := [], full := none } }).tele) ∧
  (∀ (s : State) (key : U16), exec (.recorderClear key false) s = .next (State.record (ev3 0x8005 unitRec (le16 key))
    { s with tele := { s.tele with clearRefused := bump s.tele.clearRefused } })) ∧
  -- R443
  (∀ (s : State) (unit : U16) (loc : U32) (st ctx : U8) (b : Nat), sampleBit unit = some b → s.tele.sampEvery ≠ 0 →
    s.tele.sampUnits.getLsbD b = true → s.tele.samples.length < sampleSlots →
    Completes (.pcSample unit loc st ctx) s fun t =>
      t.tele.samples = s.tele.samples ++ [⟨s.ns (islandOfUnit unit.toNat) &&& 0xFFFFFFFFFFFF#64, unit, loc, st, ctx⟩] ∧
      t.tele.sampWritten = bump s.tele.sampWritten ∧ t.tele.sampOver = s.tele.sampOver ∧ t.tele.lfsr = stepLfsr unit s.tele.lfsr) ∧
  (∀ (s : State) (unit : U16) (loc : U32) (st ctx : U8) (b : Nat), sampleBit unit = some b → s.tele.sampEvery ≠ 0 →
    s.tele.sampUnits.getLsbD b = true → sampleSlots ≤ s.tele.samples.length →
    Completes (.pcSample unit loc st ctx) s fun t =>
      t.tele.samples = s.tele.samples.drop 1 ++ [⟨s.ns (islandOfUnit unit.toNat) &&& 0xFFFFFFFFFFFF#64, unit, loc, st, ctx⟩]) ∧
  (∀ (s : State) (unit : U16) (loc : U32) (st ctx : U8), (sampleBit unit = none ∨ s.tele.sampEvery = 0) →
    exec (.pcSample unit loc st ctx) s = .next s) ∧
  -- R446
  (∀ (s : State), exec .traceStart s = .next { s with tele := { s.tele with traceStatus := 1, traceRefused := false } } ∧
    exec .traceStop s = .next { s with tele := { s.tele with traceStatus := 0, traceRefused := false } }) ∧
  (∀ (s : State), s.tele.traceStatus ≠ 1 →
    exec .traceClear s = .next { s with tele := { s.tele with trace := [], traceStatus := 0, traceRefused := false } }) ∧
  (∀ (s : State), s.tele.traceStatus = 1 → exec .traceClear s = .next { s with tele := { s.tele with traceRefused := true } }) ∧
  -- R440, R441: a snapshot latches every counter of one instant; a second before it is written is refused
  (∀ (s : State), s.tele.snapBusy = none →
    exec .snapshot s = .next { s with tele := { s.tele with
      snapStatus := 1, snapNum := s.tele.snapNum + 1
      snapBusy := some { num := s.tele.snapNum + 1, action := 1, opMs := s.time.opMs, latches := (List.range 44).map s.ns
                         entries := s.latchAll false } } }) ∧
  (∀ (s : State), s.tele.snapBusy = none →
    exec .snapshotInterval s = .next { s with tele := { s.tele with
      snapStatus := 1, snapNum := s.tele.snapNum + 1, twins := Vector.replicate 14 0
      snapBusy := some { num := s.tele.snapNum + 1, action := 2, opMs := s.time.opMs, latches := (List.range 44).map s.ns
                         entries := s.latchAll true } } }) ∧
  (∀ (s : State), s.tele.snapBusy.isSome = true →
    exec .snapshot s = .next { s with tele := { s.tele with snapStatus := 4, snapRefused := bump s.tele.snapRefused } } ∧
    exec .snapshotInterval s = .next { s with tele := { s.tele with snapStatus := 4, snapRefused := bump s.tele.snapRefused } }) ∧
  -- R441, R476: a snapshot follows the one before in the ring of 32 MiB, and its end raises source 5
  (∀ (s : State) (x : Snap), s.tele.snapBusy = some x → x.size ≤ 33554432 →
    Completes .snapshotWritten s fun t => t.tele.snapBusy = none ∧ t.tele.snapStatus = 0 ∧ t.tele.snaps.getLast? = some x ∧
      (s.tele.snaps = [] → t.tele.snapOff = 0) ∧
      (∀ p, s.tele.snaps.getLast? = some p →
        t.tele.snapOff = BitVec.ofNat 32 ((s.tele.snapOff.toNat + p.size) % 33554432)) ∧ t.acc.irqPend.getLsbD 5 = true) ∧
  (∀ x : Snap, x.size = 64 + 352 + 16 * x.entries.length) ∧
  (∀ (s : State), s.tele.snapBusy = none → exec .snapshotWritten s = .next s) ∧
  -- R451 to R454: alarms wait, leave by class under their tokens, and stay in the hold until they are acknowledged.
  (∀ (s : State) (seq : U32), exec (.alarmCoalesceExpiry seq) s = .next { s with tele := { s.tele with
    planes := s.tele.planes.map (fun q => { q with
      queue := q.queue.map (fun a => if a.seq == seq then { a with waiting := false } else a) }) } }) ∧
  -- R452: no token, no message
  (∀ (s : State) (plane : Bool), (s.tele.planes[(if plane then 1 else 0 : Fin 2)]).tokensMilli < 1000 → exec (.alarmSend plane) s = .next s) ∧
  (∀ (s : State) (plane : Bool), (s.tele.planes[(if plane then 1 else 0 : Fin 2)]).nextOut = none → exec (.alarmSend plane) s = .next s) ∧
  (∀ (s : State) (plane : Bool) (i : Fin 2) (k : Nat) (a : Alarm), i = (if plane then 1 else 0) → 1000 ≤ (s.tele.planes[i]).tokensMilli →
    (s.tele.planes[i]).nextOut = some k → (s.tele.planes[i]).queue[k]? = some a →
    Completes (.alarmSend plane) s fun t => (t.tele.planes[i]).queue = (s.tele.planes[i]).queue.eraseIdx k ∧
      (t.tele.planes[i]).tokensMilli = (s.tele.planes[i]).tokensMilli - 1000) ∧
  -- R452: class 2 before 3 before 4
  (∀ (q : PlaneQ) (k : Nat) (a : Alarm), q.nextOut = some k → q.queue[k]? = some a →
    a.waiting = false ∧ (∀ b ∈ q.queue, b.waiting = false → (b.cls = 2 ∨ b.cls = 3 ∨ b.cls = 4) → a.cls.toNat ≤ b.cls.toNat)) ∧
  -- R453
  (∀ (s : State), s.tele.hold = [] → exec .alarmHoldResend s = .next s) ∧
  (∀ (s : State), Completes .alarmHoldResend s fun t => t.tele.hold = s.tele.hold ∧ t.tele.slots = s.tele.slots) ∧
  (∀ (s : State) (seq : U32) (a : Alarm), s.tele.hold.find? (fun x => x.seq == seq) = some a →
    Completes (.alarmAcknowledge seq) s fun t => t.tele.hold = s.tele.hold.erase a ∧ t.tele.holdFull = false ∧
      t.tele.holdDelivered = addAt (addAt s.tele.holdDelivered a.cls.toNat (a.represented.toNat - a.repOther.toNat))
        (if a.cls == 0 then 1 else 0) a.repOther.toNat) ∧
  (∀ (s : State) (seq : U32), (∀ a ∈ s.tele.hold, a.seq ≠ seq) → exec (.alarmAcknowledge seq) s = .next s)

/-- R503 to R515: the cap, the temperatures, the reservoirs, the ledger and the output pins. Where a clause rests on a choice of
the model and not on a rule, log entries 13, 48, 49, 51, 84 of notes/assumptions names it. -/
def Obligations.CapHeatReservoirsAndOutputs : Prop :=
  -- R503 to R505: the average is shown; above the cap a group steps down, and with none left the cap is unmet
  (∀ (s : State) (w : U16), Completes (.powerAverageTick w) s fun t => t.pwr.powerW = w ∧ t.pwr.capW = s.pwr.capW ∧
    t.pwr.belowMs = (if w.toNat * 100 ≤ s.pwr.capW.toNat * 95 then s.pwr.belowMs + 1 else 0)) ∧
  (∀ (s : State) (w : U16) (i : Nat), w.toNat ≤ s.pwr.capW.toNat → Completes (.powerAverageTick w) s fun t => s.pct i ≤ t.pct i) ∧
  (∀ (s : State) (w : U16) (i : Nat), s.pwr.capW.toNat < w.toNat → Completes (.powerAverageTick w) s fun t => t.pct i ≤ s.pct i) ∧
  (∀ (s : State) (w : U16), w.toNat * 100 ≤ s.pwr.capW.toNat * 95 → s.pwr.belowMs < 99 →
    Completes (.powerAverageTick w) s fun t => t.pwr.islandPct = s.pwr.islandPct ∧ Quiet s t) ∧
  (∀ (s : State) (i : Nat), i < 44 → s.throttleable i = true → 100 < s.pct i →
    (s.lower i).pct i = s.pct i - 1 ∧ (∀ j, j ≠ i → (s.lower i).pct j = s.pct j)) ∧
  (∀ (s : State) (i : Nat), (s.throttleable i = false ∨ s.pct i ≤ 100) → s.lower i = s) ∧
  (∀ (s : State), s.pwr.capUnmet = false → (∀ i, s.throttleable i = true → s.pct i ≤ 100) →
    s.stepDown = State.record (ev2 0x6031 unitPwr []) { s with pwr := { s.pwr with capUnmet := true } }) ∧
  -- R506, R507, R549
  (∀ (s : State) (l : List U16), l.length = 44 → Completes (.thermalSample l) s fun t => t.pwr.temps.toList = l) ∧
  (∀ (s : State) (i : Nat) (old v : U16), (s.pwr.temps[i]?).getD 0 = v → 10 * s.criticalC ≤ v.toInt → old.toInt < 10 * s.criticalC →
    s.checkCritical i old = State.enterSafe (ev0 0x6032 unitPwr (arg1 i ++ le16 v)) { s with pwr := { s.pwr with thermtrip := true } }) ∧
  (∀ (s : State) (i : Nat) (old v : U16), (s.pwr.temps[i]?).getD 0 = v → (v.toInt < 10 * s.criticalC ∨ 10 * s.criticalC ≤ old.toInt) →
    s.checkCritical i old = s) ∧
  (∀ (s : State), s.ident.lx = false → s.criticalC = 105) ∧ (∀ (s : State), s.ident.lx = true → s.criticalC = 115) ∧
  -- R509, R512: ceilings and charging
  (∀ (s : State) (i : Fin 2) (v : U32), (v.toNat < 1000000 ∨ 8000000 < v.toNat) → exec (.ceilingWrite i v) s = .next s) ∧
  (∀ (s : State) (i : Fin 2) (v : U32), 1000000 ≤ v.toNat → v.toNat ≤ 8000000 → v.toNat < (s.pwr.hu[i]).usable.toNat →
    Completes (.ceilingWrite i v) s fun t => t.pwr.hu = s.pwr.hu.set i { (s.pwr.hu[i]) with
      ceiling := v, spent := (s.pwr.hu[i]).spent + ((s.pwr.hu[i]).usable - v), usable := v }) ∧
  (∀ (s : State) (i : Fin 2) (v : U32), 1000000 ≤ v.toNat → v.toNat ≤ 8000000 → (s.pwr.hu[i]).usable.toNat < v.toNat →
    Completes (.ceilingWrite i v) s fun t => t.pwr.hu = s.pwr.hu.set i { (s.pwr.hu[i]) with
      ceiling := v, status := if (s.pwr.hu[i]).status = 2 then 1 else (s.pwr.hu[i]).status }) ∧
  (∀ (s : State), s.job.dev ≠ .boot → s.job.dev ≠ .off → (s.pwr.hu[(0 : Fin 2)]).status = 1 →
    Completes (.reservoirCharged 0) s fun t => (t.pwr.hu[(0 : Fin 2)]).status = 2 ∧
      (t.pwr.hu[(0 : Fin 2)]).usable = (s.pwr.hu[(0 : Fin 2)]).ceiling ∧ t.pwr.hu[(1 : Fin 2)] = s.pwr.hu[(1 : Fin 2)]) ∧
  (∀ (s : State), (s.pwr.hu[(0 : Fin 2)]).status = 1 → exec (.reservoirCharged 1) s = .next s) ∧
  -- R510
  (∀ (s : State) (i : Fin 2) (c : ResCause), (s.pwr.hu[i]).inService = true →
    Completes (.reservoirFault i c) s fun t => (t.pwr.hu[i]).status = (if c = .removed then 0 else 3) ∧
      (t.pwr.hu[i]).usable.toNat ≤ 100000 ∧ (t.pwr.hu[i]).usable.toNat ≤ (s.pwr.hu[i]).usable.toNat ∧
      (t.pwr.hu[i]).spent + (t.pwr.hu[i]).usable = (s.pwr.hu[i]).spent + (s.pwr.hu[i]).usable ∧
      (t.pwr.hu[i]).ceiling = (s.pwr.hu[i]).ceiling ∧ (∀ j, j ≠ i → t.pwr.hu[j] = s.pwr.hu[j])) ∧
  (∀ (s : State) (i : Fin 2) (c : ResCause), (s.pwr.hu[i]).inService = false → exec (.reservoirFault i c) s = .next s) ∧
  -- R511, R512: a grant needs the margin, the standing reservation and a free place; a refusal is counted
  (∀ (s : State) (cost : Nat), s.pwr.standingOk = true → s.pwr.granting = true → s.pwr.covers cost = true → s.pwr.reservations.length < 16 →
    (s.reserve cost).1 = true ∧ (s.reserve cost).2.pwr = { s.pwr with
      standingSeen := false, reservations := s.pwr.reservations ++ [BitVec.ofNat 32 cost], granted := bump s.pwr.granted }) ∧
  (∀ (s : State) (cost : Nat), (s.pwr.granting = false ∨ s.pwr.covers cost = false ∨ 16 ≤ s.pwr.reservations.length) →
    (s.reserve cost).1 = false ∧ (s.reserve cost).2.pwr.reservations = s.pwr.reservations ∧
      (s.reserve cost).2.pwr.refused = bump s.pwr.refused) ∧
  (∀ (s : State) (cost : U32), cost ∈ s.pwr.reservations → s.release cost = { s with pwr := { s.pwr with
    reservations := s.pwr.reservations.erase cost, released := bump s.pwr.released } }) ∧
  -- R513
  (∀ (s : State) (kind : U8) (cost : U32) (n : Nat), s.ledgerBalanced = true →
    (s.wipe kind).ledgerBalanced = true ∧ (s.release cost).ledgerBalanced = true ∧ (s.reserve n).2.ledgerBalanced = true) ∧
  (∀ (s : State) (l : List U32), s.ledgerBalanced = false →
    Completes (.ledgerReconcile l) s fun t => t.job = { s.job with dev := .safe } ∧ (∀ i : Fin 2, (t.pwr.hu[i]).inService = false)) ∧
  (∀ (s : State) (l : List U32) (i : Fin 2), s.ledgerBalanced = true → (s.pwr.hu[i]).fitted = true →
    (s.pwr.hu[i]).balanced (s.measuredOf l i) = false →
    Completes (.ledgerReconcile l) s fun t => t.job = { s.job with dev := .safe } ∧ (∀ i : Fin 2, (t.pwr.hu[i]).inService = false)) ∧
  (∀ (s : State) (l : List U32), s.ledgerBalanced = true →
    (∀ i : Fin 2, (s.pwr.hu[i]).fitted = true → (s.pwr.hu[i]).balanced (s.measuredOf l i) = true) →
    Completes (.ledgerReconcile l) s fun t => t.job = s.job ∧ (∀ i : Fin 2, t.pwr.hu[i] = { (s.pwr.hu[i]) with
      lastUsable := s.measuredOf l i, usable := s.measuredOf l i, charged := 0, spent := 0 })) ∧
  -- R515
  (∀ (s : State) (pin : U8), pin.toNat < 40 → pin ∉ s.pwr.latched →
    exec (.outputOvercurrent pin) s = .next (State.record (ev3 0x6040 unitPwr [pin]) { s with pwr := { s.pwr with
      latched := pin :: s.pwr.latched, overcurrents := bump s.pwr.overcurrents } })) ∧
  (∀ (s : State) (pin : U8), (40 ≤ pin.toNat ∨ pin ∈ s.pwr.latched) → exec (.outputOvercurrent pin) s = .next s) ∧
  (∀ (s : State) (v : U8), exec (.outputRelease v) s = .next { s with pwr := { s.pwr with latched := s.pwr.latched.filter (· != v) } })

/-- R546, R547: the sideband signals of the tray links. Where a clause rests on a choice of the model and not on a rule, log
entries 13, 51 of notes/assumptions names it. -/
def Obligations.SidebandSignalsOfTheTrayLinks : Prop :=
  -- R546
  (∀ (s : State) (v : U8), exec (.accResetReleaseWrite v) s = .next { s with pwr := { s.pwr with accRelease := v } }) ∧
  (∀ (s : State) (n : Fin 8), Completes (.accPwrgdRise n) s fun t => t.pwr.accPwrgd.getLsbD n.val = true ∧
    (∀ k, k ≠ n.val → t.pwr.accPwrgd.getLsbD k = s.pwr.accPwrgd.getLsbD k) ∧ t.accReleased n = (s.pwr.accRelease.getLsbD n.val && !s.rstLatched n)) ∧
  (∀ (s : State) (n : Fin 8), s.pwr.accPwrgd.getLsbD n.val = true → s.pwr.accRelease.getLsbD n.val = true →
    Completes (.accPwrgdFall n) s fun t => t.pwr.accPwrgd = s.pwr.accPwrgd &&& ~~~(1#8 <<< n.val) ∧
      t.pwr.pwrLosses = bump s.pwr.pwrLosses ∧ t.accReleased n = false) ∧
  (∀ (s : State) (n : Fin 8), s.pwr.accPwrgd.getLsbD n.val = true → s.pwr.accRelease.getLsbD n.val = false →
    exec (.accPwrgdFall n) s = .next { s with pwr := { s.pwr with accPwrgd := s.pwr.accPwrgd &&& ~~~(1#8 <<< n.val) } }) ∧
  (∀ (s : State) (n : Fin 8), s.pwr.accPwrgd.getLsbD n.val = false → exec (.accPwrgdFall n) s = .next s) ∧
  -- R547
  (∀ (s : State) (n : Fin 8), Completes (.accAlert n) s fun t =>
    t.pwr = { s.pwr with alerts := bump s.pwr.alerts, alertWait := s.pwr.alertWait ++ [trayPort n] } ∧
    Records (ev3 0x6041 unitPwr (arg1 n.val)) s t) ∧
  (∀ (s : State) (n : Fin 8), trayPort n ∈ s.pwr.alertWait →
    Completes (.accAlertNoReport n) s fun t => t.pwr = { s.pwr with alertWait := s.pwr.alertWait.erase (trayPort n) } ∧
      t.tele = s.tele.alarm s.time.now s.time.cycles s.time.opMs (ev2 0x6041 unitPwr (arg1 n.val))) ∧
  (∀ (s : State) (n : Fin 8), trayPort n ∉ s.pwr.alertWait → exec (.accAlertNoReport n) s = .next s) ∧
  (∀ (s : State) (n : Fin 8), Completes (.accTherm n) s fun t => t.pwr = { s.pwr with therms := bump s.pwr.therms } ∧
    Records (ev2 0x6042 unitPwr (arg1 n.val)) s t)

/-- R489 to R497: images, the key list, attestation and policy packages. Where a clause rests on a choice of the model and not on
a rule, log entries 14, 23, 50, 53, 54 of notes/assumptions names it. -/
def Obligations.ImagesKeysReportsAndPackagesAreChecked : Prop :=
  -- R489, R491: an accepted image is staged in the slot that is not active, and valid once it is written
  (∀ (s : State) (b : List Byte), s.job.dev ≠ .standby → exec (.imageStage b) s = .next s) ∧
  (∀ (s : State) (b : List Byte), s.job.dev = .standby → Completes (.imageStage b) s fun t =>
    if s.imageAccepted b then t.boot.staging = some (!s.boot.activeB, slotOfImage (b.take 512)) ∧
      t.slot (!s.boot.activeB) = { slotOfImage (b.take 512) with state := 1 } ∧ t.slot s.boot.activeB = s.slot s.boot.activeB ∧ Quiet s t
    else t = State.record (ev3 (if 512 ≤ b.length ∧ (hdrRollback b).toNat < s.boot.floor.toNat then 0x7005 else 0x7004) unitSec [])
      { s with boot := { s.boot with imgRefusals := bump s.boot.imgRefusals } }) ∧
  (∀ (s : State) (b : List Byte), ((hdrRollback (b.take 512)).toNat < s.boot.floor.toNat ∨ 64 < (hdrRollback (b.take 512)).toNat ∨
    sha512 (b.drop 512) ≠ sliceZ (b.take 512) 32 64 ∨ s.hdrSigned (b.take 512) = false) → s.imageAccepted b = false) ∧
  (∀ (s : State) (b : Bool) (x : ImageSlot), s.boot.staging = some (b, x) →
    Completes .imageSlotWritten s fun t => t.slot b = x ∧ t.slot (!b) = s.slot (!b) ∧ t.boot.staging = none) ∧
  (∀ (s : State), s.boot.staging = none → exec .imageSlotWritten s = .next s) ∧
  (∀ (s : State) (l : List Byte), s.activateOk l = true → byteAt l 1 = 0 →
    exec (.imageActivate l) s = .next { s with boot := { s.boot with trial := some (byteAt l 0 == 1), attempts := 0 } }) ∧
  (∀ (s : State) (l : List Byte), s.activateOk l = true → byteAt l 1 = 1 →
    exec (.imageActivate l) s = .next (resetActionWarm false
      { s with boot := { s.boot with trial := some (byteAt l 0 == 1), attempts := 0 } })) ∧
  (∀ (s : State) (l : List Byte), s.activateOk l = true → byteAt l 1 = 2 →
    exec (.imageActivate l) s = .next (resetActionCold
      { s with boot := { s.boot with trial := some (byteAt l 0 == 1), attempts := 0 } })) ∧
  (∀ (s : State) (l : List Byte), s.activateOk l = false → exec (.imageActivate l) s = .next s) ∧
  -- R490: the rollback floor rises to a confirmed image's index and never falls
  (∀ (s : State) (x : ImageSlot), (s.raiseFloor x).boot.floor.toNat = max s.boot.floor.toNat x.rollback.toNat) ∧
  -- R494, R495
  (∀ (s : State) (l : List Byte) (key : U16) (r i : Nat), l.length = 2304 → keyFault l = some (r, i) →
    exec (.keyListWrite l key) s = .next (State.record (ev3 0x7021 unitSec (le16 key ++ arg1 r ++ arg1 i))
      { s with boot := { s.boot with keyRefusals := bump s.boot.keyRefusals } })) ∧
  (∀ (s : State) (l : List Byte) (key : U16), l.length = 2304 → keyFault l = none →
    Completes (.keyListWrite l key) s fun t => t.boot.keys = (entriesOf 144 l).map KeyEntry.ofBytes ∧ Records (ev3 0x7020 unitSec (le16 key)) s t ∧
      (∀ k : Fin 16, t.boot.counters[k] =
        if (t.boot.keys.getD k.val {}).pub = (s.boot.keys.getD k.val {}).pub then s.boot.counters[k] else 0)) ∧
  (∀ (s : State) (l : List Byte) (key : U16), l.length ≠ 2304 → exec (.keyListWrite l key) s = .next s) ∧
  (∀ (l : List Byte), (∀ k ∈ (entriesOf 144 l).map KeyEntry.ofBytes, k.rights.getLsbD 2 = false) → keyFault l = some (1, 0xFF)) ∧
  -- R493: a report of the device, its nonce and the number of reports
  (∀ (s : State) (n : List Byte), n.length = 32 → Completes (.attestationRequest n) s fun t => t.boot.reports = bump s.boot.reports ∧
    (∃ sig, t.boot.report = some (s.reportBody n ++ sig)) ∧ Quiet s t) ∧
  (∀ (s : State) (n : List Byte), n.length ≠ 32 → exec (.attestationRequest n) s = .next s) ∧
  -- R496, R497
  (∀ (s : State) (b : List Byte), s.job.dev ≠ .standby → exec (.policyStage b) s = .next s) ∧
  (∀ (s : State) (b : List Byte), s.job.dev = .standby → exec (.policyStage b) s = .next (match s.packageOk b with
    | some es => State.record (ev3 0x7030 unitSec [])
        { s with boot := { s.boot with package := some (b.take 512, es), pkgVersion := hdrVersion (b.take 512) } }
    | none => State.record (ev3 0x7031 unitSec []) { s with boot := { s.boot with pkgRefusals := bump s.boot.pkgRefusals } })) ∧
  (∀ (s : State) (b : List Byte), (hdrVersion (b.take 512)).toNat < s.boot.pkgVersion.toNat → s.packageOk b = none) ∧
  (∀ (s : State) (h : List Byte) (es : List (U16 × U8 × List Byte)), s.boot.package = some (h, es) →
    exec (.policyRemoval (sha512 h)) s = .next (State.record (ev3 0x7032 unitSec []) { s with boot := { s.boot with package := none } })) ∧
  (∀ (s : State) (l : List Byte), s.removalOk l = false → exec (.policyRemoval l) s = .next s) ∧
  (∀ (s : State) (path : Path) (idx : U16) (sub : U8) (r : Row), objectAt idx sub = some r → s.inPackage idx sub = true →
    s.writeGate path idx sub = 2)

/-- R518 to R522, R526, R528: entering, running and leaving exerciser mode, and its injections. R529, R530: the actions of the
script on every agent peer. Where a clause rests on a choice of the model and not on a rule, log entries 20, 35, 60 of
notes/assumptions names it. -/
def Obligations.ExerciserRunsAndInjections : Prop :=
  (∀ (s : State), (s.job.dev ≠ .standby ∨ s.heldTags ≠ []) →
    exec .exerciserEnter s = .next (State.record (ev3 0x1092 unitSwitch [])
      { s with exer := { s.exer with status := 4, refusals := bump s.exer.refusals } })) ∧
  (∀ (s : State), s.job.dev = .standby → s.heldTags = [] →
    Completes .exerciserEnter s fun t => t.job = { s.job with dev := .exerciser } ∧ t.exer.status = 1 ∧
      t.tele = (s.record (ev3 0x1090 unitSwitch [])).tele ∧
      (∀ p : Port, t.exer.ports[p] = (s.exer.ports[p]).cleared)) ∧
  (∀ (s : State), s.job.dev = .exerciser →
    Completes .exerciserLeave s fun t => t.job = { s.job with dev := .standby } ∧ t.exer.status = 0) ∧
  (∀ (s : State), s.job.dev ≠ .exerciser → exec .exerciserLeave s = .next s) ∧
  -- R522
  (∀ (s : State), s.runBad = true → exec .exerciserRunStart s = .next (State.record (ev3 0x1092 unitSwitch [])
    { s with exer := { s.exer with status := 4, refusals := bump s.exer.refusals } })) ∧
  (∀ (s : State), s.runBad = false → Completes .exerciserRunStart s fun t =>
    t.exer.runNo = s.exer.runNo + 1 ∧ t.exer.status = 2 ∧ t.exer.pos = 0 ∧ (t.exer.jt, t.exer.epoch) = scriptTags s.exer.script ∧
    (∀ p : Port, t.exer.ports[p] = (s.exer.ports[p]).cleared) ∧ Quiet s t) ∧
  (∀ (s : State), (s.job.dev ≠ .exerciser ∨ s.exer.status = 2) → s.runBad = true) ∧
  (∀ (s : State) (p : Port), (s.exPort p).mode ≠ 0 → (s.port p).st ≠ .active → s.runBad = true) ∧
  (∀ (s : State) (p : Port), 8 ≤ p.val → (s.exPort p).mode = 3 → s.runBad = true) ∧
  (∀ (s : State), s.exer.status = 2 → s.neverResent = [] →
    exec .exerciserRunStop s = .next (State.record (ev3 0x1095 unitSwitch (arg4 s.exer.runNo))
      { s with exer := { s.exer with status := 3, expecting := none, gambitSeq := none } })) ∧
  (∀ (s : State), s.exer.status ≠ 2 → exec .exerciserRunStop s = .next s ∧ exec .runLengthExpiry s = .next s) ∧
  (∀ (s : State), s.exer.lengthMs = 0 → exec .runLengthExpiry s = .next s) ∧
  (∀ (s : State), s.exer.lengthMs ≠ 0 → exec .runLengthExpiry s = exec .exerciserRunStop s) ∧
  -- R526: an injection waits behind those of its port; a refused one is counted and recorded
  (∀ (s : State) (b : List Byte) (p : Port), (byteAt b 0).toNat = p.val → s.exer.status = 2 → s.job.dev = .exerciser → (s.exPort p).mode ≠ 0 →
    1 ≤ (byteAt b 1).toNat → (byteAt b 1).toNat ≤ 9 → byteAt b 3 ≠ 0 → (s.exPort p).injections.length < 16 →
    Completes (.injectionAction b) s fun t => (t.exPort p).injections = (s.exPort p).injections ++
      [(byteAt b 1, byteAt b 2, byteAt b 3, field32 b 4)] ∧ (∀ q, q ≠ p → t.exPort q = s.exPort q) ∧ Quiet s t) ∧
  (∀ (s : State) (b : List Byte), (24 ≤ (byteAt b 0).toNat ∨ s.exer.status ≠ 2 ∨ byteAt b 1 = 0 ∨ 9 < (byteAt b 1).toNat ∨ byteAt b 3 = 0) →
    exec (.injectionAction b) s = .next (State.record (ev3 0x1092 unitSwitch [])
      { s with exer := { s.exer with refusals := bump s.exer.refusals } })) ∧
  -- R528: a silent code passes at its deadline, any other fails with event 0x1094
  (∀ (s : State) (p : Port) (code : U8), code ∉ (s.exPort p).waitReact → exec (.reactionDeadline p code) s = .next s) ∧
  (∀ (s : State) (p : Port) (code : U8), code ∈ (s.exPort p).waitReact → (code = 6 ∨ code = 8 ∨ code = 9) →
    Completes (.reactionDeadline p code) s fun t => t.exer.passed = bump s.exer.passed ∧ t.exer.failed = s.exer.failed ∧
      (t.exPort p).waitReact.length + 1 = (s.exPort p).waitReact.length ∧ Quiet s t) ∧
  (∀ (s : State) (p : Port) (code : U8), code ∈ (s.exPort p).waitReact → code ≠ 6 → code ≠ 8 → code ≠ 9 →
    Completes (.reactionDeadline p code) s fun t => t.exer.failed = bump s.exer.failed ∧ t.exer.passed = s.exer.passed ∧
      (t.exPort p).waitReact.length + 1 = (s.exPort p).waitReact.length) ∧
  -- R529, R530: the actions of the script on every agent peer.
  -- an action runs when it is the entry at the position, in a run, with nothing expected
  (∀ (s : State) (e : ScriptEntry), s.exer.status = 2 → s.job.dev = .exerciser → s.exer.expecting = none →
    s.exer.script[s.exer.pos.toNat]? = some e → s.scriptOps e.act = some e.ops ∧ (∀ a, a ≠ e.act → s.scriptOps a = none)) ∧
  (∀ (s : State) (a : U8), (s.exer.status ≠ 2 ∨ s.job.dev ≠ .exerciser ∨ s.exer.expecting.isSome = true) → s.scriptOps a = none) ∧
  (∀ (s : State), s.scriptOps 1 = none → exec .scriptEpoch s = .next s) ∧
  (∀ (s : State), s.scriptOps 2 = none → exec .scriptStepOpen s = .next s) ∧
  (∀ (s : State), s.scriptOps 3 = none → exec .scriptStream s = .next s) ∧
  (∀ (s : State), s.scriptOps 4 = none → exec .scriptExpect s = .next s) ∧
  (∀ (s : State), s.scriptOps 5 = none → exec .scriptAckPolicy s = .next s) ∧
  (∀ (s : State), s.scriptOps 6 = none → exec .scriptResend s = .next s) ∧
  (∀ (s : State), s.scriptOps 7 = none → exec .scriptFail s = .next s) ∧
  (∀ (s : State), s.scriptOps 8 = none → exec .scriptGambit s = .next s) ∧
  (∀ (s : State), s.scriptOps 9 = none → exec .scriptEnd s = .next s) ∧
  -- with one agent peer, its transaction is sent
  (∀ (s : State) (ops : List Byte) (p : Port), s.scriptOps 1 = some ops → s.peerPorts = [p] →
    Completes .scriptEpoch s fun t => obMovesOn s t ∧
      t.links = (s.exerSend p opFENCE 0 ([5, 3, 0, 0] ++ le32 (field32 ops 2)) [] []).links) ∧
  (∀ (s : State) (ops : List Byte), s.scriptOps 2 = some ops →
    Completes .scriptStepOpen s fun t => obMovesOn s t ∧ t.exer.opened = s.exer.opened ++ [field32 ops 0]) ∧
  (∀ (s : State) (ops : List Byte) (p : Port), s.scriptOps 3 = some ops → s.peerPorts = [p] → field32 ops 0 = 1 →
    Completes .scriptStream s fun t => obMovesOn s t ∧
      t.links = (s.enqueue p 3 (.block (s.scriptWeight p (field32 ops 4) 0))).links) ∧
  (∀ (s : State) (ops : List Byte), s.scriptOps 4 = some ops →
    exec .scriptExpect s = .next { s with exer := { s.exer with
      pos := s.exer.pos + 1
      expecting := if (field32 ops 0).toNat = 0 then none else some (s.exer.opened.getLast?.getD 0, (field32 ops 0).toNat) } }) ∧
  (∀ (s : State) (ops : List Byte), s.scriptOps 5 = some ops →
    exec .scriptAckPolicy s = .next { s with exer := { s.exer with pos := s.exer.pos + 1, withhold := byteAt ops 0 == 1 } }) ∧
  (∀ (s : State) (ops : List Byte), s.scriptOps 6 = some ops → s.exer.held = [] →
    Completes .scriptResend s fun t => obMovesOn s t ∧ t.links = s.links) ∧
  (∀ (s : State) (ops : List Byte) (p : Port), s.scriptOps 7 = some ops → s.peerPorts = [p] →
    Completes .scriptFail s fun t => obMovesOn s t ∧ t.exer.failedSteps = s.exer.failedSteps ++ [field32 ops 0] ∧
      t.links = (s.exerSend p opFENCE (field32 ops 0) ([3, 0, 0, 0] ++ le16 (field16 ops 4)) [] []).links) ∧
  (∀ (s : State) (ops : List Byte) (p : Port), s.scriptOps 8 = some ops → s.peerPorts = [p] →
    Completes .scriptGambit s fun t => obMovesOn s t ∧ t.exer.gambitSeq = some (field32 ops 0) ∧
      t.links = (s.exerSend p opFENCE 0 ([10, 0, 0, 0] ++ padTo 12 ops) [] []).links) ∧
  (∀ (s : State) (ops : List Byte), s.scriptOps 9 = some ops → exec .scriptEnd s = exec .exerciserRunStop s) ∧
  -- R530: what did not come in time breaks the rule of the agent peers
  (∀ (s : State), s.exer.expecting = none → exec .expectTimeout s = .next s) ∧
  (∀ (s : State), s.exer.expecting.isSome = true →
    Completes .expectTimeout s fun t => t.exer.expecting = none ∧ t.exer.status = s.exer.status ∧ t.job = s.job) ∧
  (∀ (s : State) (p : Port) (hdr : List Byte), s.exerRun p = true → (s.exPort p).counts[16] = 0 →
    (State.exerCheck p 0x11 hdr s).tele = (s.record (ev3 0x1093 unitSwitch [])).tele ∧
    ((State.exerCheck p 0x11 hdr s).exPort p).counts[16] = 1)
end

