-- ==== Sys2Proof/Laws/Memory.lean ====
section
/-! SUPPORT. The memory operations: what a read gives after a write, and that every write keeps the canonical form. -/
namespace Sys2Proof.Machine
open Sys2Proof

/-- The byte at an offset; an unlisted byte is zero (R217). -/
def cellAt (m : List Host.Cell) (a : Nat) : Byte := ((m.find? (fun c => c.1 == a)).map (·.2)).getD 0

theorem cellAt_nil (a : Nat) : cellAt [] a = 0 := rfl
theorem cellAt_cons (c : Host.Cell) (m : List Host.Cell) (a : Nat) :
    cellAt (c :: m) a = if c.1 = a then c.2 else cellAt m a := by
  unfold cellAt; by_cases h : c.1 = a <;> simp [h]

theorem cellAt_of_not_mem {m : List Host.Cell} {a : Nat} (h : ∀ c ∈ m, c.1 ≠ a) : cellAt m a = 0 := by
  induction m with
  | nil => rfl
  | cons c m ih =>
    rw [cellAt_cons, if_neg (h c (by simp)), ih fun d hd => h d (by simp [hd])]

theorem cellAt_append (l m : List Host.Cell) (a : Nat) (h : ∀ c ∈ l, c.1 ≠ a) : cellAt (l ++ m) a = cellAt m a := by
  induction l with
  | nil => rfl
  | cons c l ih =>
    rw [List.cons_append, cellAt_cons, if_neg (h c (by simp)), ih fun d hd => h d (by simp [hd])]

theorem cellAt_append_right (l m : List Host.Cell) (a : Nat) (h : ∀ c ∈ m, c.1 ≠ a) : cellAt (l ++ m) a = cellAt l a := by
  induction l with
  | nil => exact cellAt_of_not_mem h
  | cons c l ih => rw [List.cons_append, cellAt_cons, cellAt_cons, ih]

theorem cellAt_filter (p : Host.Cell → Bool) (m : List Host.Cell) (a : Nat) (h : ∀ c ∈ m, c.1 = a → p c = true) :
    cellAt (m.filter p) a = cellAt m a := by
  induction m with
  | nil => rfl
  | cons c m ih =>
    have ih := ih fun d hd => h d (by simp [hd])
    by_cases hp : p c = true
    · rw [List.filter_cons_of_pos hp, cellAt_cons, cellAt_cons, ih]
    · rw [List.filter_cons_of_neg hp, ih, cellAt_cons, if_neg fun e => hp (h c (by simp) e)]

/-- A memory in canonical form: the offsets rise and no byte is zero. -/
theorem wf_iff (m : List Host.Cell) :
    Memory.wf m = true ↔ m.Pairwise (fun c d => c.1 < d.1) ∧ ∀ c ∈ m, c.2 ≠ 0 := by
  simp [Memory.wf]

theorem wf_nil : Memory.wf [] = true := rfl

theorem wf_filter {m : List Host.Cell} (p : Host.Cell → Bool) (h : Memory.wf m = true) : Memory.wf (m.filter p) = true := by
  rw [wf_iff] at h ⊢
  exact ⟨h.1.filter _, fun c hc => h.2 c (List.mem_filter.1 hc).1⟩

/-- The cells of a written list lie in its range and hold no zero byte. -/
theorem cellsOf_mem {l : List Byte} {a : Nat} {c : Host.Cell} (h : c ∈ cellsOf a l) :
    a ≤ c.1 ∧ c.1 < a + l.length ∧ c.2 ≠ 0 := by
  induction l generalizing a with
  | nil => simp [cellsOf] at h
  | cons b l ih =>
    by_cases hb : b = 0
    · rw [cellsOf, if_pos hb] at h
      have := ih h; simp only [List.length_cons]; exact ⟨by omega, by omega, this.2.2⟩
    · rw [cellsOf, if_neg hb] at h
      rcases List.mem_cons.1 h with rfl | h
      · exact ⟨le_refl _, by simp, hb⟩
      · have := ih h; simp only [List.length_cons]; exact ⟨by omega, by omega, this.2.2⟩

theorem cellsOf_pairwise (l : List Byte) (a : Nat) : (cellsOf a l).Pairwise (fun c d => c.1 < d.1) := by
  induction l generalizing a with
  | nil => simp [cellsOf]
  | cons b l ih =>
    by_cases hb : b = 0
    · rw [cellsOf, if_pos hb]; exact ih _
    · rw [cellsOf, if_neg hb]
      exact List.pairwise_cons.2 ⟨fun c hc => (cellsOf_mem hc).1, ih _⟩

theorem cellAt_cellsOf (l : List Byte) (a i : Nat) (h : i < l.length) : cellAt (cellsOf a l) (a + i) = l[i] := by
  induction l generalizing a i with
  | nil => simp at h
  | cons b l ih =>
    cases i with
    | zero =>
      by_cases hb : b = 0
      · rw [cellsOf, if_pos hb, cellAt_of_not_mem fun c hc => by have := (cellsOf_mem hc).1; omega]; simp [hb]
      · rw [cellsOf, if_neg hb, cellAt_cons]; simp
    | succ i =>
      have e : a + (i + 1) = a + 1 + i := by omega
      have := ih (a + 1) i (by simpa using h)
      by_cases hb : b = 0
      · rw [cellsOf, if_pos hb, e, this]; simp
      · rw [cellsOf, if_neg hb, cellAt_cons, if_neg (by simp only; omega), e, this]; simp

/-- A write keeps the canonical form. -/
theorem wf_cellsWrite {m : List Host.Cell} (a : Nat) (l : List Byte) (h : Memory.wf m = true) :
    Memory.wf (cellsWrite m a l) = true := by
  rw [wf_iff] at h ⊢
  refine ⟨?_, fun c hc => ?_⟩
  · rw [cellsWrite, List.pairwise_append, List.pairwise_append]
    refine ⟨⟨h.1.filter _, cellsOf_pairwise l a, fun c hc d hd => ?_⟩, h.1.filter _, fun c hc d hd => ?_⟩
    · have h1 := of_decide_eq_true (List.mem_filter.1 hc).2
      have h2 := (cellsOf_mem hd).1
      omega
    · have h2 := of_decide_eq_true (List.mem_filter.1 hd).2
      rcases List.mem_append.1 hc with hc | hc
      · have h1 := of_decide_eq_true (List.mem_filter.1 hc).2; omega
      · have h1 := (cellsOf_mem hc).2.1; omega
  · rw [cellsWrite, List.mem_append, List.mem_append] at hc
    rcases hc with (hc | hc) | hc
    · exact h.2 c (List.mem_filter.1 hc).1
    · exact (cellsOf_mem hc).2.2
    · exact h.2 c (List.mem_filter.1 hc).1

/-- A byte inside a written range reads as written. -/
theorem cellAt_write_in (m : List Host.Cell) (a : Nat) (l : List Byte) (i : Nat) (h : i < l.length) :
    cellAt (cellsWrite m a l) (a + i) = l[i] := by
  rw [cellsWrite, cellAt_append_right, cellAt_append, cellAt_cellsOf l a i h]
  · intro c hc; have := of_decide_eq_true (List.mem_filter.1 hc).2; omega
  · intro c hc; have := of_decide_eq_true (List.mem_filter.1 hc).2; omega

/-- A byte outside a written range reads as before. -/
theorem cellAt_write_out (m : List Host.Cell) (a : Nat) (l : List Byte) (b : Nat) (h : b < a ∨ a + l.length ≤ b) :
    cellAt (cellsWrite m a l) b = cellAt m b := by
  have hm : ∀ c ∈ cellsOf a l, c.1 ≠ b := fun c hc => by have := cellsOf_mem hc; omega
  rw [cellsWrite]
  rcases h with h | h
  · rw [List.append_assoc, cellAt_append_right, cellAt_filter]
    · intro c _ hc; simp [hc, h]
    · intro c hc
      rcases List.mem_append.1 hc with hc | hc
      · exact hm c hc
      · have := of_decide_eq_true (List.mem_filter.1 hc).2; omega
  · rw [cellAt_append, cellAt_filter]
    · intro c _ hc; simp [hc, h]
    · intro c hc
      rcases List.mem_append.1 hc with hc | hc
      · have := of_decide_eq_true (List.mem_filter.1 hc).2; omega
      · exact hm c hc

theorem cellsFill_eq (m : List Host.Cell) (n a : Nat) (hp : m.Pairwise (fun c d => c.1 < d.1)) (ha : ∀ c ∈ m, a ≤ c.1) :
    cellsFill n a m = (List.range n).map (fun i => cellAt m (a + i)) := by
  induction n generalizing a m with
  | zero => simp [cellsFill]
  | succ n ih =>
    rw [List.range_succ_eq_map, List.map_cons, List.map_map]
    have sh : ∀ k : List Host.Cell, (List.range n).map ((fun i => cellAt k (a + i)) ∘ Nat.succ) =
        (List.range n).map (fun i => cellAt k (a + 1 + i)) := fun k =>
      List.map_congr_left fun i _ => by simp only [Function.comp]; congr 1; omega
    cases m with
    | nil => rw [cellsFill, ih [] (a + 1) (by simp) (by simp), sh]; rfl
    | cons c m =>
      have hc := List.pairwise_cons.1 hp
      by_cases e : c.1 = a
      · rw [cellsFill, if_pos e, ih m (a + 1) hc.2 (fun d hd => by have := hc.1 d hd; omega), sh, cellAt_cons, if_pos (by omega)]
        congr 1
        refine List.map_congr_left fun i _ => ?_
        rw [cellAt_cons, if_neg (by omega)]
      · have hlt : a < c.1 := by have := ha c (by simp); omega
        rw [cellsFill, if_neg e, ih (c :: m) (a + 1) hp (fun d hd => by
          rcases List.mem_cons.1 hd with rfl | hd
          · omega
          · have := hc.1 d hd; omega), sh, cellAt_of_not_mem]
        intro d hd
        rcases List.mem_cons.1 hd with rfl | hd
        · omega
        · have := hc.1 d hd; omega

/-- A read of n bytes gives the byte at each offset. -/
theorem cellsRead_eq {m : List Host.Cell} (hm : Memory.wf m = true) (a n : Nat) :
    cellsRead m a n = (List.range n).map (fun i => cellAt m (a + i)) := by
  have hp := ((wf_iff m).1 hm).1
  have key : ∀ k : List Host.Cell, k.Pairwise (fun c d => c.1 < d.1) →
      (∀ c ∈ k.dropWhile (fun c => decide (c.1 < a)), a ≤ c.1) ∧
      ∀ b, a ≤ b → cellAt (k.dropWhile (fun c => decide (c.1 < a))) b = cellAt k b := by
    intro k hk
    induction k with
    | nil => simp
    | cons c k ih =>
      have hc := List.pairwise_cons.1 hk
      by_cases h : c.1 < a
      · rw [List.dropWhile_cons_of_pos (by simpa using h)]
        refine ⟨(ih hc.2).1, fun b hb => ?_⟩
        rw [(ih hc.2).2 b hb, cellAt_cons, if_neg (by omega)]
      · rw [List.dropWhile_cons_of_neg (by simpa using h)]
        refine ⟨fun d hd => ?_, fun _ _ => rfl⟩
        rcases List.mem_cons.1 hd with rfl | hd
        · omega
        · have := hc.1 d hd; omega
  have hk := key m hp
  rw [cellsRead, cellsFill_eq _ _ _ (hp.sublist (List.dropWhile_sublist _)) hk.1]
  exact List.map_congr_left fun i _ => hk.2 _ (by omega)

/-- A read of what was just written gives it. -/
theorem cellsRead_write {m : List Host.Cell} (hm : Memory.wf m = true) (a : Nat) (l : List Byte) :
    cellsRead (cellsWrite m a l) a l.length = l := by
  rw [cellsRead_eq (wf_cellsWrite a l hm)]
  refine List.ext_getElem (by simp) fun i h1 h2 => ?_
  simp only [List.getElem_map, List.getElem_range]
  exact cellAt_write_in m a l i h2

/-- Both tiers in canonical form. -/
def MemState.ok (m : MemState) : Bool := Memory.wf m.h && Memory.wf m.l

theorem MemState.ok_iff (m : MemState) : m.ok = true ↔ ∀ t, Memory.wf (m.cells t) = true := by
  simp only [MemState.ok, Bool.and_eq_true]
  exact ⟨fun h t => by cases t; exacts [h.1, h.2], fun h => ⟨h .h, h .l⟩⟩

theorem MemState.ok_setCells {m : MemState} (t : Tier) (c : List Host.Cell) (h : m.ok = true) (hc : Memory.wf c = true) :
    (m.setCells t c).ok = true := by
  simp only [MemState.ok, Bool.and_eq_true] at h ⊢
  cases t
  · exact ⟨hc, h.2⟩
  · exact ⟨h.1, hc⟩

/-- A stored write keeps the canonical form of both tiers. -/
theorem ok_setRaw (t : Tier) (off : Nat) (l : List Byte) (s : State) (h : s.mem.ok = true) :
    (s.setRaw t off l).mem.ok = true :=
  MemState.ok_setCells t _ h (wf_cellsWrite off l ((MemState.ok_iff _).1 h t))

@[simp] theorem MemState.ok_setPoisons (m : MemState) (t : Tier) (l : List U64) : (m.setPoisons t l).ok = m.ok := by
  cases t <;> rfl
@[simp] theorem MemState.ok_heal (m : MemState) (t : Tier) (sec n : Nat) : (m.heal t sec n).ok = m.ok := by
  cases t <;> rfl

theorem ok_reset : State.reset.mem.ok = true := rfl

end Sys2Proof.Machine
end

