-- ==== Sys2Proof/Laws/Keep.lean ====
section
/-! SUPPORT. The relation Keep: what a step of the device leaves as it was. -/
namespace Sys2Proof.Machine
open Sys2Proof

/-- From s to t no field outside the mask changes, the queue and the identity never; both tiers stay in canonical form; the
version floor does not fall. Bit n of the mask is field n of State. -/
structure Keep (M : Nat) (s t : State) : Prop where
  pending : t.pending = s.pending
  ident : t.ident = s.ident
  memOk : s.mem.ok = true → t.mem.ok = true
  floor : s.boot.floor.toNat ≤ t.boot.floor.toNat
  time : M.testBit 1 = false → t.time = s.time
  chk : M.testBit 3 = false → t.chk = s.chk
  fence : M.testBit 4 = false → t.fence = s.fence
  red : M.testBit 5 = false → t.red = s.red
  upd : M.testBit 6 = false → t.upd = s.upd
  vec : M.testBit 7 = false → t.vec = s.vec
  str : M.testBit 8 = false → t.str = s.str
  mem : M.testBit 9 = false → t.mem = s.mem
  links : M.testBit 10 = false → t.links = s.links
  route : M.testBit 11 = false → t.route = s.route
  part : M.testBit 12 = false → t.part = s.part
  adj : M.testBit 13 = false → t.adj = s.adj
  mov : M.testBit 14 = false → t.mov = s.mov
  job : M.testBit 15 = false → t.job = s.job
  det : M.testBit 16 = false → t.det = s.det
  health : M.testBit 17 = false → t.health = s.health
  tele : M.testBit 18 = false → t.tele = s.tele
  acc : M.testBit 19 = false → t.acc = s.acc
  boot : M.testBit 20 = false → t.boot = s.boot
  pwr : M.testBit 21 = false → t.pwr = s.pwr
  exer : M.testBit 22 = false → t.exer = s.exer
  freeCtr : M.testBit 23 = false → t.freeCtr = s.freeCtr

theorem Keep.refl (M : Nat) (s : State) : Keep M s s :=
  ⟨rfl, rfl, id, le_refl _, fun _ => rfl, fun _ => rfl, fun _ => rfl, fun _ => rfl, fun _ => rfl, fun _ => rfl, fun _ => rfl, fun _ => rfl, fun _ => rfl, fun _ => rfl, fun _ => rfl, fun _ => rfl, fun _ => rfl, fun _ => rfl, fun _ => rfl, fun _ => rfl, fun _ => rfl, fun _ => rfl, fun _ => rfl, fun _ => rfl, fun _ => rfl, fun _ => rfl⟩
theorem Keep.trans {M : Nat} {s t u : State} (h : Keep M s t) (k : Keep M t u) : Keep M s u :=
  ⟨k.1.trans h.1, k.2.trans h.2, k.3 ∘ h.3, le_trans h.4 k.4, fun b => (k.time b).trans (h.time b), fun b => (k.chk b).trans (h.chk b), fun b => (k.fence b).trans (h.fence b), fun b => (k.red b).trans (h.red b), fun b => (k.upd b).trans (h.upd b), fun b => (k.vec b).trans (h.vec b), fun b => (k.str b).trans (h.str b), fun b => (k.mem b).trans (h.mem b), fun b => (k.links b).trans (h.links b), fun b => (k.route b).trans (h.route b), fun b => (k.part b).trans (h.part b), fun b => (k.adj b).trans (h.adj b), fun b => (k.mov b).trans (h.mov b), fun b => (k.job b).trans (h.job b), fun b => (k.det b).trans (h.det b), fun b => (k.health b).trans (h.health b), fun b => (k.tele b).trans (h.tele b), fun b => (k.acc b).trans (h.acc b), fun b => (k.boot b).trans (h.boot b), fun b => (k.pwr b).trans (h.pwr b), fun b => (k.exer b).trans (h.exer b), fun b => (k.freeCtr b).trans (h.freeCtr b)⟩
theorem Keep.sub {M a b : Nat} (h : M &&& a = a) (k : a &&& b = b) : M &&& b = b := by
  rw [← k, ← Nat.land_assoc, h]
theorem Keep.bit {M a n : Nat} (h : M &&& a = a) (k : a.testBit n = true) : M.testBit n = true := by
  rw [← h, Nat.testBit_land, Bool.and_eq_true] at k; exact k.1
theorem Keep.upd_time {M : Nat} {s x : State} {a1} (hb : M.testBit 1 = true) (h : Keep M s x) : Keep M s ⟨x.pending, a1, x.ident, x.chk, x.fence, x.red, x.upd, x.vec, x.str, x.mem, x.links, x.route, x.part, x.adj, x.mov, x.job, x.det, x.health, x.tele, x.acc, x.boot, x.pwr, x.exer, x.freeCtr⟩ :=
  ⟨h.1, h.2, h.3, h.4, fun k => absurd (hb.symm.trans k) (by decide), h.chk, h.fence, h.red, h.upd, h.vec, h.str, h.mem, h.links, h.route, h.part, h.adj, h.mov, h.job, h.det, h.health, h.tele, h.acc, h.boot, h.pwr, h.exer, h.freeCtr⟩
theorem Keep.upd_chk {M : Nat} {s x : State} {a3} (hb : M.testBit 3 = true) (h : Keep M s x) : Keep M s ⟨x.pending, x.time, x.ident, a3, x.fence, x.red, x.upd, x.vec, x.str, x.mem, x.links, x.route, x.part, x.adj, x.mov, x.job, x.det, x.health, x.tele, x.acc, x.boot, x.pwr, x.exer, x.freeCtr⟩ :=
  ⟨h.1, h.2, h.3, h.4, h.time, fun k => absurd (hb.symm.trans k) (by decide), h.fence, h.red, h.upd, h.vec, h.str, h.mem, h.links, h.route, h.part, h.adj, h.mov, h.job, h.det, h.health, h.tele, h.acc, h.boot, h.pwr, h.exer, h.freeCtr⟩
theorem Keep.upd_fence {M : Nat} {s x : State} {a4} (hb : M.testBit 4 = true) (h : Keep M s x) : Keep M s ⟨x.pending, x.time, x.ident, x.chk, a4, x.red, x.upd, x.vec, x.str, x.mem, x.links, x.route, x.part, x.adj, x.mov, x.job, x.det, x.health, x.tele, x.acc, x.boot, x.pwr, x.exer, x.freeCtr⟩ :=
  ⟨h.1, h.2, h.3, h.4, h.time, h.chk, fun k => absurd (hb.symm.trans k) (by decide), h.red, h.upd, h.vec, h.str, h.mem, h.links, h.route, h.part, h.adj, h.mov, h.job, h.det, h.health, h.tele, h.acc, h.boot, h.pwr, h.exer, h.freeCtr⟩
theorem Keep.upd_red {M : Nat} {s x : State} {a5} (hb : M.testBit 5 = true) (h : Keep M s x) : Keep M s ⟨x.pending, x.time, x.ident, x.chk, x.fence, a5, x.upd, x.vec, x.str, x.mem, x.links, x.route, x.part, x.adj, x.mov, x.job, x.det, x.health, x.tele, x.acc, x.boot, x.pwr, x.exer, x.freeCtr⟩ :=
  ⟨h.1, h.2, h.3, h.4, h.time, h.chk, h.fence, fun k => absurd (hb.symm.trans k) (by decide), h.upd, h.vec, h.str, h.mem, h.links, h.route, h.part, h.adj, h.mov, h.job, h.det, h.health, h.tele, h.acc, h.boot, h.pwr, h.exer, h.freeCtr⟩
theorem Keep.upd_upd {M : Nat} {s x : State} {a6} (hb : M.testBit 6 = true) (h : Keep M s x) : Keep M s ⟨x.pending, x.time, x.ident, x.chk, x.fence, x.red, a6, x.vec, x.str, x.mem, x.links, x.route, x.part, x.adj, x.mov, x.job, x.det, x.health, x.tele, x.acc, x.boot, x.pwr, x.exer, x.freeCtr⟩ :=
  ⟨h.1, h.2, h.3, h.4, h.time, h.chk, h.fence, h.red, fun k => absurd (hb.symm.trans k) (by decide), h.vec, h.str, h.mem, h.links, h.route, h.part, h.adj, h.mov, h.job, h.det, h.health, h.tele, h.acc, h.boot, h.pwr, h.exer, h.freeCtr⟩
theorem Keep.upd_vec {M : Nat} {s x : State} {a7} (hb : M.testBit 7 = true) (h : Keep M s x) : Keep M s ⟨x.pending, x.time, x.ident, x.chk, x.fence, x.red, x.upd, a7, x.str, x.mem, x.links, x.route, x.part, x.adj, x.mov, x.job, x.det, x.health, x.tele, x.acc, x.boot, x.pwr, x.exer, x.freeCtr⟩ :=
  ⟨h.1, h.2, h.3, h.4, h.time, h.chk, h.fence, h.red, h.upd, fun k => absurd (hb.symm.trans k) (by decide), h.str, h.mem, h.links, h.route, h.part, h.adj, h.mov, h.job, h.det, h.health, h.tele, h.acc, h.boot, h.pwr, h.exer, h.freeCtr⟩
theorem Keep.upd_str {M : Nat} {s x : State} {a8} (hb : M.testBit 8 = true) (h : Keep M s x) : Keep M s ⟨x.pending, x.time, x.ident, x.chk, x.fence, x.red, x.upd, x.vec, a8, x.mem, x.links, x.route, x.part, x.adj, x.mov, x.job, x.det, x.health, x.tele, x.acc, x.boot, x.pwr, x.exer, x.freeCtr⟩ :=
  ⟨h.1, h.2, h.3, h.4, h.time, h.chk, h.fence, h.red, h.upd, h.vec, fun k => absurd (hb.symm.trans k) (by decide), h.mem, h.links, h.route, h.part, h.adj, h.mov, h.job, h.det, h.health, h.tele, h.acc, h.boot, h.pwr, h.exer, h.freeCtr⟩
theorem Keep.upd_mem {M : Nat} {s x : State} {a9} (hb : M.testBit 9 = true) (hm : a9.ok = x.mem.ok) (h : Keep M s x) : Keep M s ⟨x.pending, x.time, x.ident, x.chk, x.fence, x.red, x.upd, x.vec, x.str, a9, x.links, x.route, x.part, x.adj, x.mov, x.job, x.det, x.health, x.tele, x.acc, x.boot, x.pwr, x.exer, x.freeCtr⟩ :=
  ⟨h.1, h.2, fun k => hm.trans (h.3 k), h.4, h.time, h.chk, h.fence, h.red, h.upd, h.vec, h.str, fun k => absurd (hb.symm.trans k) (by decide), h.links, h.route, h.part, h.adj, h.mov, h.job, h.det, h.health, h.tele, h.acc, h.boot, h.pwr, h.exer, h.freeCtr⟩
theorem Keep.upd_links {M : Nat} {s x : State} {a10} (hb : M.testBit 10 = true) (h : Keep M s x) : Keep M s ⟨x.pending, x.time, x.ident, x.chk, x.fence, x.red, x.upd, x.vec, x.str, x.mem, a10, x.route, x.part, x.adj, x.mov, x.job, x.det, x.health, x.tele, x.acc, x.boot, x.pwr, x.exer, x.freeCtr⟩ :=
  ⟨h.1, h.2, h.3, h.4, h.time, h.chk, h.fence, h.red, h.upd, h.vec, h.str, h.mem, fun k => absurd (hb.symm.trans k) (by decide), h.route, h.part, h.adj, h.mov, h.job, h.det, h.health, h.tele, h.acc, h.boot, h.pwr, h.exer, h.freeCtr⟩
theorem Keep.upd_route {M : Nat} {s x : State} {a11} (hb : M.testBit 11 = true) (h : Keep M s x) : Keep M s ⟨x.pending, x.time, x.ident, x.chk, x.fence, x.red, x.upd, x.vec, x.str, x.mem, x.links, a11, x.part, x.adj, x.mov, x.job, x.det, x.health, x.tele, x.acc, x.boot, x.pwr, x.exer, x.freeCtr⟩ :=
  ⟨h.1, h.2, h.3, h.4, h.time, h.chk, h.fence, h.red, h.upd, h.vec, h.str, h.mem, h.links, fun k => absurd (hb.symm.trans k) (by decide), h.part, h.adj, h.mov, h.job, h.det, h.health, h.tele, h.acc, h.boot, h.pwr, h.exer, h.freeCtr⟩
theorem Keep.upd_part {M : Nat} {s x : State} {a12} (hb : M.testBit 12 = true) (h : Keep M s x) : Keep M s ⟨x.pending, x.time, x.ident, x.chk, x.fence, x.red, x.upd, x.vec, x.str, x.mem, x.links, x.route, a12, x.adj, x.mov, x.job, x.det, x.health, x.tele, x.acc, x.boot, x.pwr, x.exer, x.freeCtr⟩ :=
  ⟨h.1, h.2, h.3, h.4, h.time, h.chk, h.fence, h.red, h.upd, h.vec, h.str, h.mem, h.links, h.route, fun k => absurd (hb.symm.trans k) (by decide), h.adj, h.mov, h.job, h.det, h.health, h.tele, h.acc, h.boot, h.pwr, h.exer, h.freeCtr⟩
theorem Keep.upd_adj {M : Nat} {s x : State} {a13} (hb : M.testBit 13 = true) (h : Keep M s x) : Keep M s ⟨x.pending, x.time, x.ident, x.chk, x.fence, x.red, x.upd, x.vec, x.str, x.mem, x.links, x.route, x.part, a13, x.mov, x.job, x.det, x.health, x.tele, x.acc, x.boot, x.pwr, x.exer, x.freeCtr⟩ :=
  ⟨h.1, h.2, h.3, h.4, h.time, h.chk, h.fence, h.red, h.upd, h.vec, h.str, h.mem, h.links, h.route, h.part, fun k => absurd (hb.symm.trans k) (by decide), h.mov, h.job, h.det, h.health, h.tele, h.acc, h.boot, h.pwr, h.exer, h.freeCtr⟩
theorem Keep.upd_mov {M : Nat} {s x : State} {a14} (hb : M.testBit 14 = true) (h : Keep M s x) : Keep M s ⟨x.pending, x.time, x.ident, x.chk, x.fence, x.red, x.upd, x.vec, x.str, x.mem, x.links, x.route, x.part, x.adj, a14, x.job, x.det, x.health, x.tele, x.acc, x.boot, x.pwr, x.exer, x.freeCtr⟩ :=
  ⟨h.1, h.2, h.3, h.4, h.time, h.chk, h.fence, h.red, h.upd, h.vec, h.str, h.mem, h.links, h.route, h.part, h.adj, fun k => absurd (hb.symm.trans k) (by decide), h.job, h.det, h.health, h.tele, h.acc, h.boot, h.pwr, h.exer, h.freeCtr⟩
theorem Keep.upd_job {M : Nat} {s x : State} {a15} (hb : M.testBit 15 = true) (h : Keep M s x) : Keep M s ⟨x.pending, x.time, x.ident, x.chk, x.fence, x.red, x.upd, x.vec, x.str, x.mem, x.links, x.route, x.part, x.adj, x.mov, a15, x.det, x.health, x.tele, x.acc, x.boot, x.pwr, x.exer, x.freeCtr⟩ :=
  ⟨h.1, h.2, h.3, h.4, h.time, h.chk, h.fence, h.red, h.upd, h.vec, h.str, h.mem, h.links, h.route, h.part, h.adj, h.mov, fun k => absurd (hb.symm.trans k) (by decide), h.det, h.health, h.tele, h.acc, h.boot, h.pwr, h.exer, h.freeCtr⟩
theorem Keep.upd_det {M : Nat} {s x : State} {a16} (hb : M.testBit 16 = true) (h : Keep M s x) : Keep M s ⟨x.pending, x.time, x.ident, x.chk, x.fence, x.red, x.upd, x.vec, x.str, x.mem, x.links, x.route, x.part, x.adj, x.mov, x.job, a16, x.health, x.tele, x.acc, x.boot, x.pwr, x.exer, x.freeCtr⟩ :=
  ⟨h.1, h.2, h.3, h.4, h.time, h.chk, h.fence, h.red, h.upd, h.vec, h.str, h.mem, h.links, h.route, h.part, h.adj, h.mov, h.job, fun k => absurd (hb.symm.trans k) (by decide), h.health, h.tele, h.acc, h.boot, h.pwr, h.exer, h.freeCtr⟩
theorem Keep.upd_health {M : Nat} {s x : State} {a17} (hb : M.testBit 17 = true) (h : Keep M s x) : Keep M s ⟨x.pending, x.time, x.ident, x.chk, x.fence, x.red, x.upd, x.vec, x.str, x.mem, x.links, x.route, x.part, x.adj, x.mov, x.job, x.det, a17, x.tele, x.acc, x.boot, x.pwr, x.exer, x.freeCtr⟩ :=
  ⟨h.1, h.2, h.3, h.4, h.time, h.chk, h.fence, h.red, h.upd, h.vec, h.str, h.mem, h.links, h.route, h.part, h.adj, h.mov, h.job, h.det, fun k => absurd (hb.symm.trans k) (by decide), h.tele, h.acc, h.boot, h.pwr, h.exer, h.freeCtr⟩
theorem Keep.upd_tele {M : Nat} {s x : State} {a18} (hb : M.testBit 18 = true) (h : Keep M s x) : Keep M s ⟨x.pending, x.time, x.ident, x.chk, x.fence, x.red, x.upd, x.vec, x.str, x.mem, x.links, x.route, x.part, x.adj, x.mov, x.job, x.det, x.health, a18, x.acc, x.boot, x.pwr, x.exer, x.freeCtr⟩ :=
  ⟨h.1, h.2, h.3, h.4, h.time, h.chk, h.fence, h.red, h.upd, h.vec, h.str, h.mem, h.links, h.route, h.part, h.adj, h.mov, h.job, h.det, h.health, fun k => absurd (hb.symm.trans k) (by decide), h.acc, h.boot, h.pwr, h.exer, h.freeCtr⟩
theorem Keep.upd_acc {M : Nat} {s x : State} {a19} (hb : M.testBit 19 = true) (h : Keep M s x) : Keep M s ⟨x.pending, x.time, x.ident, x.chk, x.fence, x.red, x.upd, x.vec, x.str, x.mem, x.links, x.route, x.part, x.adj, x.mov, x.job, x.det, x.health, x.tele, a19, x.boot, x.pwr, x.exer, x.freeCtr⟩ :=
  ⟨h.1, h.2, h.3, h.4, h.time, h.chk, h.fence, h.red, h.upd, h.vec, h.str, h.mem, h.links, h.route, h.part, h.adj, h.mov, h.job, h.det, h.health, h.tele, fun k => absurd (hb.symm.trans k) (by decide), h.boot, h.pwr, h.exer, h.freeCtr⟩
theorem Keep.upd_boot {M : Nat} {s x : State} {a20} (hb : M.testBit 20 = true) (hf : a20.floor = x.boot.floor) (h : Keep M s x) : Keep M s ⟨x.pending, x.time, x.ident, x.chk, x.fence, x.red, x.upd, x.vec, x.str, x.mem, x.links, x.route, x.part, x.adj, x.mov, x.job, x.det, x.health, x.tele, x.acc, a20, x.pwr, x.exer, x.freeCtr⟩ :=
  ⟨h.1, h.2, h.3, hf ▸ h.4, h.time, h.chk, h.fence, h.red, h.upd, h.vec, h.str, h.mem, h.links, h.route, h.part, h.adj, h.mov, h.job, h.det, h.health, h.tele, h.acc, fun k => absurd (hb.symm.trans k) (by decide), h.pwr, h.exer, h.freeCtr⟩
theorem Keep.upd_pwr {M : Nat} {s x : State} {a21} (hb : M.testBit 21 = true) (h : Keep M s x) : Keep M s ⟨x.pending, x.time, x.ident, x.chk, x.fence, x.red, x.upd, x.vec, x.str, x.mem, x.links, x.route, x.part, x.adj, x.mov, x.job, x.det, x.health, x.tele, x.acc, x.boot, a21, x.exer, x.freeCtr⟩ :=
  ⟨h.1, h.2, h.3, h.4, h.time, h.chk, h.fence, h.red, h.upd, h.vec, h.str, h.mem, h.links, h.route, h.part, h.adj, h.mov, h.job, h.det, h.health, h.tele, h.acc, h.boot, fun k => absurd (hb.symm.trans k) (by decide), h.exer, h.freeCtr⟩
theorem Keep.upd_exer {M : Nat} {s x : State} {a22} (hb : M.testBit 22 = true) (h : Keep M s x) : Keep M s ⟨x.pending, x.time, x.ident, x.chk, x.fence, x.red, x.upd, x.vec, x.str, x.mem, x.links, x.route, x.part, x.adj, x.mov, x.job, x.det, x.health, x.tele, x.acc, x.boot, x.pwr, a22, x.freeCtr⟩ :=
  ⟨h.1, h.2, h.3, h.4, h.time, h.chk, h.fence, h.red, h.upd, h.vec, h.str, h.mem, h.links, h.route, h.part, h.adj, h.mov, h.job, h.det, h.health, h.tele, h.acc, h.boot, h.pwr, fun k => absurd (hb.symm.trans k) (by decide), h.freeCtr⟩
theorem Keep.upd_freeCtr {M : Nat} {s x : State} {a23} (hb : M.testBit 23 = true) (h : Keep M s x) : Keep M s ⟨x.pending, x.time, x.ident, x.chk, x.fence, x.red, x.upd, x.vec, x.str, x.mem, x.links, x.route, x.part, x.adj, x.mov, x.job, x.det, x.health, x.tele, x.acc, x.boot, x.pwr, x.exer, a23⟩ :=
  ⟨h.1, h.2, h.3, h.4, h.time, h.chk, h.fence, h.red, h.upd, h.vec, h.str, h.mem, h.links, h.route, h.part, h.adj, h.mov, h.job, h.det, h.health, h.tele, h.acc, h.boot, h.pwr, h.exer, fun k => absurd (hb.symm.trans k) (by decide)⟩
theorem Keep.upd_memHL {M : Nat} {s x : State} {a9} (hb : M.testBit 9 = true) (hh : a9.h = x.mem.h) (hl : a9.l = x.mem.l) (h : Keep M s x) :
    Keep M s ⟨x.pending, x.time, x.ident, x.chk, x.fence, x.red, x.upd, x.vec, x.str, a9, x.links, x.route, x.part, x.adj, x.mov, x.job, x.det, x.health, x.tele, x.acc, x.boot, x.pwr, x.exer, x.freeCtr⟩ := Keep.upd_mem hb (by rw [MemState.ok, MemState.ok, hh, hl]) h
theorem Keep.updOk {M : Nat} {s x : State} {a9} (hb : M.testBit 9 = true) (hm : x.mem.ok = true → a9.ok = true) (h : Keep M s x) : Keep M s ⟨x.pending, x.time, x.ident, x.chk, x.fence, x.red, x.upd, x.vec, x.str, a9, x.links, x.route, x.part, x.adj, x.mov, x.job, x.det, x.health, x.tele, x.acc, x.boot, x.pwr, x.exer, x.freeCtr⟩ :=
  ⟨h.1, h.2, hm ∘ h.3, h.4, h.time, h.chk, h.fence, h.red, h.upd, h.vec, h.str, fun k => absurd (hb.symm.trans k) (by decide), h.links, h.route, h.part, h.adj, h.mov, h.job, h.det, h.health, h.tele, h.acc, h.boot, h.pwr, h.exer, h.freeCtr⟩
theorem Keep.updAll {M : Nat} {s x : State} {a1 a3 a4 a5 a6 a7 a8 a9 a10 a11 a12 a13 a14 a15 a16 a17 a18 a19 a20 a21 a22 a23} (hh : a9.h = x.mem.h) (hl : a9.l = x.mem.l) (hf : a20.floor = x.boot.floor)
    (h1 : M.testBit 1 = false → a1 = x.time)
    (h3 : M.testBit 3 = false → a3 = x.chk)
    (h4 : M.testBit 4 = false → a4 = x.fence)
    (h5 : M.testBit 5 = false → a5 = x.red)
    (h6 : M.testBit 6 = false → a6 = x.upd)
    (h7 : M.testBit 7 = false → a7 = x.vec)
    (h8 : M.testBit 8 = false → a8 = x.str)
    (h9 : M.testBit 9 = false → a9 = x.mem)
    (h10 : M.testBit 10 = false → a10 = x.links)
    (h11 : M.testBit 11 = false → a11 = x.route)
    (h12 : M.testBit 12 = false → a12 = x.part)
    (h13 : M.testBit 13 = false → a13 = x.adj)
    (h14 : M.testBit 14 = false → a14 = x.mov)
    (h15 : M.testBit 15 = false → a15 = x.job)
    (h16 : M.testBit 16 = false → a16 = x.det)
    (h17 : M.testBit 17 = false → a17 = x.health)
    (h18 : M.testBit 18 = false → a18 = x.tele)
    (h19 : M.testBit 19 = false → a19 = x.acc)
    (h20 : M.testBit 20 = false → a20 = x.boot)
    (h21 : M.testBit 21 = false → a21 = x.pwr)
    (h22 : M.testBit 22 = false → a22 = x.exer)
    (h23 : M.testBit 23 = false → a23 = x.freeCtr)
    (h : Keep M s x) : Keep M s ⟨x.pending, a1, x.ident, a3, a4, a5, a6, a7, a8, a9, a10, a11, a12, a13, a14, a15, a16, a17, a18, a19, a20, a21, a22, a23⟩ :=
  ⟨h.1, h.2, fun k => by have := h.3 k; rw [MemState.ok] at this ⊢; rw [hh, hl]; exact this, hf ▸ h.4, fun b => (h1 b).trans (h.time b), fun b => (h3 b).trans (h.chk b), fun b => (h4 b).trans (h.fence b), fun b => (h5 b).trans (h.red b), fun b => (h6 b).trans (h.upd b), fun b => (h7 b).trans (h.vec b), fun b => (h8 b).trans (h.str b), fun b => (h9 b).trans (h.mem b), fun b => (h10 b).trans (h.links b), fun b => (h11 b).trans (h.route b), fun b => (h12 b).trans (h.part b), fun b => (h13 b).trans (h.adj b), fun b => (h14 b).trans (h.mov b), fun b => (h15 b).trans (h.job b), fun b => (h16 b).trans (h.det b), fun b => (h17 b).trans (h.health b), fun b => (h18 b).trans (h.tele b), fun b => (h19 b).trans (h.acc b), fun b => (h20 b).trans (h.boot b), fun b => (h21 b).trans (h.pwr b), fun b => (h22 b).trans (h.exer b), fun b => (h23 b).trans (h.freeCtr b)⟩
theorem Keep.snd {M : Nat} {α : Type} {s t : State} {p : α × State} {a : α} (e : p = (a, t)) (h : Keep M s p.2) : Keep M s t := by
  subst e; exact h
theorem Keep.getD {M : Nat} {o : Option State} {d s : State} (h : ∀ t, o = some t → Keep M d t) (k : Keep M s d) : Keep M s (o.getD d) := by
  cases o with
  | none => exact k
  | some t => exact k.trans (h t rfl)
theorem Keep.ite {M : Nat} {c : Prop} [Decidable c] {s a b : State} (ha : Keep M s a) (hb : Keep M s b) : Keep M s (if c then a else b) := by
  by_cases h : c
  · rw [if_pos h]; exact ha
  · rw [if_neg h]; exact hb
theorem Keep.foldl {M : Nat} {α : Type} {g : State → α → State} {l : List α} {s t : State} (h : Keep M s t) (k : ∀ x a, Keep M x (g x a)) :
    Keep M s (l.foldl g t) := by
  induction l generalizing t with
  | nil => exact h
  | cons a l ih => exact ih (h.trans (k t a))
theorem Keep.foldl2 {M : Nat} {α β : Type} {g : β × State → α → β × State} {l : List α} {s : State} {t : β × State} (h : Keep M s t.2)
    (k : ∀ x a, Keep M x.2 (g x a).2) : Keep M s (l.foldl g t).2 := by
  induction l generalizing t with
  | nil => exact h
  | cons a l ih => exact ih (h.trans (k t a))
theorem Keep.foldl3 {M : Nat} {α β γ : Type} {g : β × γ × State → α → β × γ × State} {l : List α} {s : State} {t : β × γ × State} (h : Keep M s t.2.2)
    (k : ∀ x a, Keep M x.2.2 (g x a).2.2) : Keep M s (l.foldl g t).2.2 := by
  induction l generalizing t with
  | nil => exact h
  | cons a l ih => exact ih (h.trans (k t a))


end Sys2Proof.Machine
end

