-- ==== Sys2Proof/Laws/KeepShared.lean ====
section
/-! SUPPORT. One lemma per operation: what it keeps, for the operations that every unit uses, the fence, the reduction and the update. -/
set_option linter.unreachableTactic false
set_option linter.unusedTactic false
set_option linter.unusedVariables false
namespace Sys2Proof.Machine
open Sys2Proof

theorem State.countBytes_keep {M : Nat} {z0 : State} (hM : M &&& 0x40000 = 0x40000) (k : Fin 14) (n : Nat) (s : State) (hk : Keep M z0 s) : Keep M z0 (State.countBytes k n s) := by
  refine hk.trans ?_
  have b_tele : M.testBit 18 = true := Keep.bit hM rfl
  unfold State.countBytes
  try dsimp only
  repeat' (first | (with_reducible exact Keep.refl _ _) | (fail_if_no_progress (with_reducible apply Keep.upd_tele b_tele)))

theorem State.trace_keep {M : Nat} {z0 : State} (hM : M &&& 0x40000 = 0x40000) (island kind unit port vc op : Nat) (data : List Byte) (s : State) (hk : Keep M z0 s) : Keep M z0 (State.trace island kind unit port vc op data s) := by
  refine hk.trans ?_
  have b_tele : M.testBit 18 = true := Keep.bit hM rfl
  unfold State.trace
  try dsimp only
  repeat' (first | (with_reducible exact Keep.refl _ _) | (fail_if_no_progress (with_reducible apply Keep.upd_tele b_tele)))

theorem State.raiseIrq_keep {M : Nat} {z0 : State} (hM : M &&& 0x80000 = 0x80000) (n : Nat) (s : State) (hk : Keep M z0 s) : Keep M z0 (State.raiseIrq n s) := by
  refine hk.trans ?_
  have b_acc : M.testBit 19 = true := Keep.bit hM rfl
  unfold State.raiseIrq
  try dsimp only
  repeat' (first | (with_reducible exact Keep.refl _ _) | (fail_if_no_progress (with_reducible apply Keep.upd_acc b_acc)) | (with_reducible apply Keep.ite) | split)

theorem State.record_keep {M : Nat} {z0 : State} (hM : M &&& 0xC0000 = 0xC0000) (e : Event) (s : State) (hk : Keep M z0 s) : Keep M z0 (State.record e s) := by
  refine hk.trans ?_
  have m0 : M &&& 0x80000 = 0x80000 := Keep.sub hM rfl
  have b_tele : M.testBit 18 = true := Keep.bit hM rfl
  unfold State.record
  try dsimp only
  repeat' (first | (with_reducible exact Keep.refl _ _) | (fail_if_no_progress (with_reducible apply Keep.upd_tele b_tele)) | (with_reducible apply State.raiseIrq_keep m0) | (with_reducible apply Keep.ite) | split)

theorem State.setDev_keep {M : Nat} {z0 : State} (hM : M &&& 0x88000 = 0x88000) (d : DevState) (s : State) (hk : Keep M z0 s) : Keep M z0 (State.setDev d s) := by
  refine hk.trans ?_
  have m0 : M &&& 0x80000 = 0x80000 := Keep.sub hM rfl
  have b_job : M.testBit 15 = true := Keep.bit hM rfl
  unfold State.setDev
  try dsimp only
  repeat' (first | (with_reducible exact Keep.refl _ _) | (fail_if_no_progress (with_reducible apply Keep.upd_job b_job)) | (with_reducible apply State.raiseIrq_keep m0) | (with_reducible apply Keep.ite) | split)

theorem State.enterSafe_keep {M : Nat} {z0 : State} (hM : M &&& 0xC8000 = 0xC8000) (e : Event) (s : State) (hk : Keep M z0 s) : Keep M z0 (State.enterSafe e s) := by
  refine hk.trans ?_
  have m0 : M &&& 0x88000 = 0x88000 := Keep.sub hM rfl
  have m1 : M &&& 0xC0000 = 0xC0000 := Keep.sub hM rfl
  unfold State.enterSafe
  try dsimp only
  repeat' (first | (with_reducible exact Keep.refl _ _) | (with_reducible apply State.setDev_keep m0) | (with_reducible apply State.record_keep m1))

theorem State.setOpenStatus_keep {M : Nat} {z0 : State} (hM : M &&& 0x88000 = 0x88000) (v : U8) (s : State) (hk : Keep M z0 s) : Keep M z0 (State.setOpenStatus v s) := by
  refine hk.trans ?_
  have m0 : M &&& 0x80000 = 0x80000 := Keep.sub hM rfl
  have b_job : M.testBit 15 = true := Keep.bit hM rfl
  unfold State.setOpenStatus
  try dsimp only
  repeat' (first | (with_reducible exact Keep.refl _ _) | (fail_if_no_progress (with_reducible apply Keep.upd_job b_job)) | (with_reducible apply State.raiseIrq_keep m0) | (with_reducible apply Keep.ite) | split)

theorem State.setRestStatus_keep {M : Nat} {z0 : State} (hM : M &&& 0x88000 = 0x88000) (v : U8) (s : State) (hk : Keep M z0 s) : Keep M z0 (State.setRestStatus v s) := by
  refine hk.trans ?_
  have m0 : M &&& 0x80000 = 0x80000 := Keep.sub hM rfl
  have b_job : M.testBit 15 = true := Keep.bit hM rfl
  unfold State.setRestStatus
  try dsimp only
  repeat' (first | (with_reducible exact Keep.refl _ _) | (fail_if_no_progress (with_reducible apply Keep.upd_job b_job)) | (with_reducible apply State.raiseIrq_keep m0) | (with_reducible apply Keep.ite) | split)

theorem State.updateCooling_keep {M : Nat} {z0 : State} (hM : M &&& 0x2C0000 = 0x2C0000) (s : State) (hk : Keep M z0 s) : Keep M z0 (State.updateCooling s) := by
  refine hk.trans ?_
  have m0 : M &&& 0xC0000 = 0xC0000 := Keep.sub hM rfl
  have b_tele : M.testBit 18 = true := Keep.bit hM rfl
  have b_pwr : M.testBit 21 = true := Keep.bit hM rfl
  unfold State.updateCooling
  try dsimp only
  repeat' (first | (with_reducible exact Keep.refl _ _) | (fail_if_no_progress (with_reducible apply Keep.upd_pwr b_pwr)) | (fail_if_no_progress (with_reducible apply Keep.upd_tele b_tele)) | (fail_if_no_progress ((with_reducible refine Keep.updAll ?_ ?_ ?_ ?_ ?_ ?_ ?_ ?_ ?_ ?_ ?_ ?_ ?_ ?_ ?_ ?_ ?_ ?_ ?_ ?_ ?_ ?_ ?_ ?_ ?_ ?_); iterate 25 (first | (with_reducible rfl) | (with_reducible exact fun _ => rfl) | (exact fun b => absurd (b.symm.trans (Keep.bit hM rfl)) (by decide))))) | (with_reducible apply State.record_keep m0) | (with_reducible apply Keep.ite) | split)

theorem State.charge_keep {M : Nat} {z0 : State} (hM : M &&& 0x2E0000 = 0x2E0000) (c : Charge) (s : State) (hk : Keep M z0 s) : Keep M z0 (State.charge c s) := by
  refine hk.trans ?_
  have m0 : M &&& 0x2C0000 = 0x2C0000 := Keep.sub hM rfl
  have m1 : M &&& 0xC0000 = 0xC0000 := Keep.sub hM rfl
  have m2 : M &&& 0x40000 = 0x40000 := Keep.sub hM rfl
  have b_health : M.testBit 17 = true := Keep.bit hM rfl
  unfold State.charge
  extract_lets r
  split
  extract_lets old rs st u a b s1 s2 s3
  have h1 : Keep M s s1 := by
    apply State.countBytes_keep m2
    exact Keep.upd_health b_health (Keep.refl _ _)
  have h2 : Keep M s s2 := by apply State.record_keep m1; exact h1
  have h3 : Keep M s s3 := by
    apply State.updateCooling_keep m0
    split
    · apply State.record_keep m1; exact h2
    · exact h2
  split
  · cases st
    · exact h3
    · exact h3
    · apply State.record_keep m1; exact h3
    · apply State.record_keep m1; exact h3
    · exact h3
  · exact h3

theorem State.setRaw_keep {M : Nat} {z0 : State} (hM : M &&& 0x200 = 0x200) (t : Tier) (off : Nat) (l : List Byte) (s : State) (hk : Keep M z0 s) : Keep M z0 (State.setRaw t off l s) := by
  refine hk.trans ?_
  have b_mem : M.testBit 9 = true := Keep.bit hM rfl
  exact Keep.trans (Keep.refl M s) ⟨rfl, rfl, fun h => ok_setRaw t off l s h, le_refl _, fun _ => rfl, fun _ => rfl, fun _ => rfl, fun _ => rfl, fun _ => rfl, fun _ => rfl, fun _ => rfl, fun k => absurd (b_mem.symm.trans k) (by decide), fun _ => rfl, fun _ => rfl, fun _ => rfl, fun _ => rfl, fun _ => rfl, fun _ => rfl, fun _ => rfl, fun _ => rfl, fun _ => rfl, fun _ => rfl, fun _ => rfl, fun _ => rfl, fun _ => rfl, fun _ => rfl⟩

theorem State.noteBusy_keep {M : Nat} {z0 : State} (hM : M &&& 0xC2000 = 0xC2000) (s : State) (hk : Keep M z0 s) : Keep M z0 (State.noteBusy s) := by
  refine hk.trans ?_
  have m0 : M &&& 0xC0000 = 0xC0000 := Keep.sub hM rfl
  have b_adj : M.testBit 13 = true := Keep.bit hM rfl
  unfold State.noteBusy
  try dsimp only
  repeat' (first | (with_reducible exact Keep.refl _ _) | (with_reducible assumption) | (fail_if_no_progress (with_reducible apply Keep.upd_adj b_adj)) | (with_reducible apply State.record_keep m0) | (with_reducible apply Keep.foldl) | (with_reducible apply Keep.foldl2) | (with_reducible apply Keep.foldl3) | (intro) | (with_reducible apply Keep.ite) | split | dsimp only)

theorem State.touchPage_keep {M : Nat} {z0 : State} (hM : M &&& 0xC2040 = 0xC2040) (off : Nat) (s : State) (hk : Keep M z0 s) : Keep M z0 (State.touchPage off s) := by
  refine hk.trans ?_
  have m0 : M &&& 0xC2000 = 0xC2000 := Keep.sub hM rfl
  have b_upd : M.testBit 6 = true := Keep.bit hM rfl
  unfold State.touchPage
  try dsimp only
  repeat' (first | (with_reducible exact Keep.refl _ _) | (fail_if_no_progress (with_reducible apply Keep.upd_upd b_upd)) | (with_reducible apply State.noteBusy_keep m0) | (with_reducible apply Keep.ite) | split)

theorem State.mustWait_keep {M : Nat} {z0 : State} (hM : M &&& 0xC2040 = 0xC2040) (offs : List Nat) (s : State) (hk : Keep M z0 s) : Keep M z0 (State.mustWait offs s).2 := by
  refine hk.trans ?_
  have m0 : M &&& 0xC2040 = 0xC2040 := Keep.sub hM rfl
  unfold State.mustWait
  try dsimp only
  repeat' (first | (with_reducible exact Keep.refl _ _) | (with_reducible assumption) | (with_reducible apply State.touchPage_keep m0) | (with_reducible apply Keep.foldl) | (with_reducible apply Keep.foldl2) | (with_reducible apply Keep.foldl3) | (intro) | dsimp only)

theorem State.touchDone_keep {M : Nat} {z0 : State} (hM : M &&& 0x2040 = 0x2040) (offs : List Nat) (s : State) (hk : Keep M z0 s) : Keep M z0 (State.touchDone offs s) := by
  refine hk.trans ?_
  have b_adj : M.testBit 13 = true := Keep.bit hM rfl
  have b_upd : M.testBit 6 = true := Keep.bit hM rfl
  unfold State.touchDone
  try dsimp only
  repeat' (first | (with_reducible exact Keep.refl _ _) | (with_reducible assumption) | (fail_if_no_progress (with_reducible apply Keep.upd_adj b_adj)) | (fail_if_no_progress (with_reducible apply Keep.upd_upd b_upd)) | (fail_if_no_progress ((with_reducible refine Keep.updAll ?_ ?_ ?_ ?_ ?_ ?_ ?_ ?_ ?_ ?_ ?_ ?_ ?_ ?_ ?_ ?_ ?_ ?_ ?_ ?_ ?_ ?_ ?_ ?_ ?_ ?_); iterate 25 (first | (with_reducible rfl) | (with_reducible exact fun _ => rfl) | (exact fun b => absurd (b.symm.trans (Keep.bit hM rfl)) (by decide))))) | dsimp only)

theorem State.putHeader_keep {M : Nat} {z0 : State} (hM : M &&& 0x200 = 0x200) (t : Tier) (r : Region) (off : Nat) (h : Header) (s : State) (hk : Keep M z0 s) : Keep M z0 (State.putHeader t r off h s) := by
  refine hk.trans ?_
  have m0 : M &&& 0x200 = 0x200 := Keep.sub hM rfl
  have b_mem : M.testBit 9 = true := Keep.bit hM rfl
  unfold State.putHeader
  dsimp only
  apply State.setRaw_keep m0
  exact Keep.upd_mem b_mem (MemState.ok_heal ..) (Keep.refl _ _)

theorem State.deferMark_keep {M : Nat} {z0 : State} (hM : M &&& 0xC2240 = 0xC2240) (off : Nat) (pair : Bool) (s : State) (hk : Keep M z0 s) : Keep M z0 (State.deferMark off pair s) := by
  refine hk.trans ?_
  have m0 : M &&& 0xC2040 = 0xC2040 := Keep.sub hM rfl
  have b_mem : M.testBit 9 = true := Keep.bit hM rfl
  unfold State.deferMark
  try dsimp only
  repeat' (first | (with_reducible exact Keep.refl _ _) | (fail_if_no_progress ((with_reducible refine Keep.upd_memHL b_mem ?_ ?_ ?_); (with_reducible rfl); (with_reducible rfl))) | (with_reducible apply State.touchPage_keep m0) | (with_reducible apply Keep.ite) | split)

theorem State.dropMarks_keep {M : Nat} {z0 : State} (hM : M &&& 0x200 = 0x200) (off : Nat) (s : State) (hk : Keep M z0 s) : Keep M z0 (State.dropMarks off s) := by
  refine hk.trans ?_
  have b_mem : M.testBit 9 = true := Keep.bit hM rfl
  unfold State.dropMarks
  try dsimp only
  repeat' (first | (with_reducible exact Keep.refl _ _) | (with_reducible assumption) | (fail_if_no_progress ((with_reducible refine Keep.upd_memHL b_mem ?_ ?_ ?_); (with_reducible rfl); (with_reducible rfl))) | dsimp only)

theorem State.markBlock_keep {M : Nat} {z0 : State} (hM : M &&& 0xC0208 = 0xC0208) (t : Tier) (r : Region) (off : Nat) (s : State) (hk : Keep M z0 s) : Keep M z0 (State.markBlock t r off s) := by
  refine hk.trans ?_
  have m0 : M &&& 0x200 = 0x200 := Keep.sub hM rfl
  have m1 : M &&& 0xC0000 = 0xC0000 := Keep.sub hM rfl
  have b_chk : M.testBit 3 = true := Keep.bit hM rfl
  have b_mem : M.testBit 9 = true := Keep.bit hM rfl
  unfold State.markBlock
  try dsimp only
  repeat' (first | (with_reducible exact Keep.refl _ _) | (with_reducible assumption) | (fail_if_no_progress (with_reducible apply Keep.upd_chk b_chk)) | (fail_if_no_progress ((with_reducible refine Keep.upd_memHL b_mem ?_ ?_ ?_); (with_reducible rfl); (with_reducible rfl))) | (fail_if_no_progress ((with_reducible refine Keep.updAll ?_ ?_ ?_ ?_ ?_ ?_ ?_ ?_ ?_ ?_ ?_ ?_ ?_ ?_ ?_ ?_ ?_ ?_ ?_ ?_ ?_ ?_ ?_ ?_ ?_ ?_); iterate 25 (first | (with_reducible rfl) | (with_reducible exact fun _ => rfl) | (exact fun b => absurd (b.symm.trans (Keep.bit hM rfl)) (by decide))))) | (with_reducible apply State.dropMarks_keep m0) | (with_reducible apply State.putHeader_keep m0) | (with_reducible apply State.setRaw_keep m0) | (with_reducible apply State.record_keep m1) | (with_reducible refine Keep.upd_mem b_mem (MemState.ok_heal ..) ?_) | (with_reducible apply Keep.foldl) | (with_reducible apply Keep.foldl2) | (with_reducible apply Keep.foldl3) | (intro) | (with_reducible apply Keep.ite) | split | dsimp only)

theorem State.markOther_keep {M : Nat} {z0 : State} (hM : M &&& 0xC2248 = 0xC2248) (t : Tier) (r : Region) (off : Nat) (s : State) (hk : Keep M z0 s) : Keep M z0 (State.markOther t r off s) := by
  refine hk.trans ?_
  have m0 : M &&& 0xC0208 = 0xC0208 := Keep.sub hM rfl
  have m1 : M &&& 0xC2240 = 0xC2240 := Keep.sub hM rfl
  unfold State.markOther
  try dsimp only
  repeat' (first | (with_reducible exact Keep.refl _ _) | (with_reducible apply State.markBlock_keep m0) | (with_reducible apply State.deferMark_keep m1) | (with_reducible apply Keep.ite) | split | (with_reducible refine Keep.snd (by with_reducible assumption) ?_))

theorem State.markStored_keep {M : Nat} {z0 : State} (hM : M &&& 0xC2248 = 0xC2248) (t : Tier) (r : Region) (off : Nat) (s : State) (hk : Keep M z0 s) : Keep M z0 (State.markStored t r off s) := by
  refine hk.trans ?_
  have m0 : M &&& 0xC2248 = 0xC2248 := Keep.sub hM rfl
  have m1 : M &&& 0xC0208 = 0xC0208 := Keep.sub hM rfl
  have m2 : M &&& 0xC2240 = 0xC2240 := Keep.sub hM rfl
  unfold State.markStored
  try dsimp only
  repeat' (first | (with_reducible exact Keep.refl _ _) | (with_reducible apply State.markOther_keep m0) | (with_reducible apply State.markBlock_keep m1) | (with_reducible apply State.deferMark_keep m2) | (with_reducible apply Keep.ite) | split)

theorem State.settleMarks_keep {M : Nat} {z0 : State} (hM : M &&& 0xC2248 = 0xC2248) (off : Nat) (s : State) (hk : Keep M z0 s) : Keep M z0 (State.settleMarks off s) := by
  refine hk.trans ?_
  have m0 : M &&& 0xC2248 = 0xC2248 := Keep.sub hM rfl
  have m1 : M &&& 0x200 = 0x200 := Keep.sub hM rfl
  have m2 : M &&& 0x2040 = 0x2040 := Keep.sub hM rfl
  unfold State.settleMarks
  try dsimp only
  repeat' (first | (with_reducible exact Keep.refl _ _) | (with_reducible apply State.markStored_keep m0) | (with_reducible apply State.dropMarks_keep m1) | (with_reducible apply State.touchDone_keep m2) | (with_reducible apply Keep.ite) | split | (with_reducible refine Keep.snd (by with_reducible assumption) ?_))

theorem State.settleAll_keep {M : Nat} {z0 : State} (hM : M &&& 0xC2248 = 0xC2248) (s : State) (hk : Keep M z0 s) : Keep M z0 (State.settleAll s) := by
  refine hk.trans ?_
  have m0 : M &&& 0xC2248 = 0xC2248 := Keep.sub hM rfl
  unfold State.settleAll
  try dsimp only
  repeat' (first | (with_reducible exact Keep.refl _ _) | (with_reducible assumption) | (with_reducible apply State.settleMarks_keep m0) | (with_reducible apply Keep.foldl) | (with_reducible apply Keep.foldl2) | (with_reducible apply Keep.foldl3) | (intro) | dsimp only)

theorem State.loseRecords_keep {M : Nat} {z0 : State} (hM : M &&& 0xC0000 = 0xC0000) (sec base : Nat) (s : State) (hk : Keep M z0 s) : Keep M z0 (State.loseRecords sec base s) := by
  refine hk.trans ?_
  have m0 : M &&& 0xC0000 = 0xC0000 := Keep.sub hM rfl
  have m1 : M &&& 0x40000 = 0x40000 := Keep.sub hM rfl
  have b_tele : M.testBit 18 = true := Keep.bit hM rfl
  unfold State.loseRecords
  try dsimp only
  repeat' (first | (with_reducible exact Keep.refl _ _) | (fail_if_no_progress (with_reducible apply Keep.upd_tele b_tele)) | (with_reducible apply State.record_keep m0) | (with_reducible apply State.trace_keep m1) | (with_reducible apply Keep.ite) | split)

theorem State.listPoison_keep {M : Nat} {z0 : State} (hM : M &&& 0xC0200 = 0xC0200) (t : Tier) (sec : Nat) (s : State) (hk : Keep M z0 s) : Keep M z0 (State.listPoison t sec s) := by
  refine hk.trans ?_
  have m0 : M &&& 0xC0000 = 0xC0000 := Keep.sub hM rfl
  have m1 : M &&& 0x40000 = 0x40000 := Keep.sub hM rfl
  have b_mem : M.testBit 9 = true := Keep.bit hM rfl
  unfold State.listPoison
  extract_lets clean
  split
  · exact Keep.refl _ s
  · split
    · apply State.countBytes_keep m1
      exact Keep.upd_mem b_mem (by cases t <;> rfl) (Keep.refl _ _)
    · apply State.record_keep m0
      exact Keep.upd_mem b_mem rfl (Keep.refl _ _)

theorem State.setSlot_keep {M : Nat} {z0 : State} (hM : M &&& 0x41000 = 0x41000) (l : LogSlot) (s : State) (hk : Keep M z0 s) : Keep M z0 (State.setSlot l s) := by
  refine hk.trans ?_
  have m0 : M &&& 0x40000 = 0x40000 := Keep.sub hM rfl
  have b_part : M.testBit 12 = true := Keep.bit hM rfl
  unfold State.setSlot
  try dsimp only
  repeat' (first | (with_reducible exact Keep.refl _ _) | (with_reducible assumption) | (fail_if_no_progress (with_reducible apply Keep.upd_part b_part)) | (with_reducible apply State.countBytes_keep m0) | dsimp only)

theorem State.poisonSlot_keep {M : Nat} {z0 : State} (hM : M &&& 0x41000 = 0x41000) (r : Region) (off : Nat) (s : State) (hk : Keep M z0 s) : Keep M z0 (State.poisonSlot r off s) := by
  refine hk.trans ?_
  have m0 : M &&& 0x41000 = 0x41000 := Keep.sub hM rfl
  unfold State.poisonSlot
  try dsimp only
  repeat' (first | (with_reducible exact Keep.refl _ _) | (with_reducible assumption) | (with_reducible apply State.setSlot_keep m0) | (with_reducible apply Keep.ite) | split | dsimp only | dsimp only [id] | (with_reducible refine Keep.snd (by with_reducible assumption) ?_))

theorem State.foundBad_keep {M : Nat} {z0 : State} (hM : M &&& 0xC3248 = 0xC3248) (t : Tier) (sec : Nat) (s : State) (hk : Keep M z0 s) : Keep M z0 (State.foundBad t sec s) := by
  refine hk.trans ?_
  have m0 : M &&& 0x41000 = 0x41000 := Keep.sub hM rfl
  have m1 : M &&& 0xC0200 = 0xC0200 := Keep.sub hM rfl
  have m2 : M &&& 0xC0000 = 0xC0000 := Keep.sub hM rfl
  have m3 : M &&& 0xC2248 = 0xC2248 := Keep.sub hM rfl
  have b_mem : M.testBit 9 = true := Keep.bit hM rfl
  unfold State.foundBad
  try dsimp only
  repeat' (first | (with_reducible exact Keep.refl _ _) | (fail_if_no_progress ((with_reducible refine Keep.upd_memHL b_mem ?_ ?_ ?_); (with_reducible rfl); (with_reducible rfl))) | (with_reducible apply State.poisonSlot_keep m0) | (with_reducible apply State.listPoison_keep m1) | (with_reducible apply State.loseRecords_keep m2) | (with_reducible apply State.markStored_keep m3) | (with_reducible apply State.record_keep m2) | (with_reducible apply Keep.ite) | split | dsimp only [id] | (with_reducible refine Keep.snd (by with_reducible assumption) ?_))

theorem State.spare_keep {M : Nat} {z0 : State} (hM : M &&& 0x2E3248 = 0x2E3248) (t : Tier) (page cause : Nat) (s : State) (hk : Keep M z0 s) : Keep M z0 (State.spare t page cause s) := by
  refine hk.trans ?_
  have m0 : M &&& 0xC3248 = 0xC3248 := Keep.sub hM rfl
  have m1 : M &&& 0x2E0000 = 0x2E0000 := Keep.sub hM rfl
  have m2 : M &&& 0xC0000 = 0xC0000 := Keep.sub hM rfl
  have b_mem : M.testBit 9 = true := Keep.bit hM rfl
  unfold State.spare
  dsimp only
  split
  · exact Keep.refl _ s
  · split
    · split
      · exact Keep.upd_mem b_mem rfl (Keep.refl _ _)
      · apply State.record_keep m2
        exact Keep.upd_mem b_mem rfl (Keep.refl _ _)
    · apply State.charge_keep m1
      apply State.record_keep m2
      refine Keep.upd_mem b_mem rfl (Keep.foldl (Keep.refl _ _) fun x a => ?_)
      apply State.foundBad_keep m0
      exact Keep.refl _ _

theorem State.corrected_keep {M : Nat} {z0 : State} (hM : M &&& 0x2E3248 = 0x2E3248) (t : Tier) (sec symbols : Nat) (s : State) (hk : Keep M z0 s) : Keep M z0 (State.corrected t sec symbols s) := by
  refine hk.trans ?_
  have m0 : M &&& 0x2E3248 = 0x2E3248 := Keep.sub hM rfl
  have b_mem : M.testBit 9 = true := Keep.bit hM rfl
  unfold State.corrected
  extract_lets page pg m m1 m2 m3 s1
  have h1 : m1.ok = s.mem.ok := by cases t <;> rfl
  have h2 : m2.ok = s.mem.ok := by rw [← h1]; unfold m2; split <;> rfl
  have h : Keep M s s1 := Keep.upd_mem b_mem h2 (Keep.refl _ _)
  split
  · apply State.spare_keep m0; exact h
  · exact h

theorem State.readSector_keep {M : Nat} {z0 : State} (hM : M &&& 0x2E3248 = 0x2E3248) (t : Tier) (sec : Nat) (s : State) (hk : Keep M z0 s) : Keep M z0 (State.readSector t sec s) := by
  refine hk.trans ?_
  have m0 : M &&& 0x2E3248 = 0x2E3248 := Keep.sub hM rfl
  have m1 : M &&& 0xC3248 = 0xC3248 := Keep.sub hM rfl
  unfold State.readSector
  try dsimp only
  repeat' (first | (with_reducible exact Keep.refl _ _) | (with_reducible apply State.corrected_keep m0) | (with_reducible apply State.spare_keep m0) | (with_reducible apply State.foundBad_keep m1) | (with_reducible apply Keep.ite) | split | (with_reducible refine Keep.snd (by with_reducible assumption) ?_))

theorem State.readRange_keep {M : Nat} {z0 : State} (hM : M &&& 0x2E3248 = 0x2E3248) (t : Tier) (off n : Nat) (s : State) (hk : Keep M z0 s) : Keep M z0 (State.readRange t off n s) := by
  refine hk.trans ?_
  have m0 : M &&& 0x2E3248 = 0x2E3248 := Keep.sub hM rfl
  unfold State.readRange
  try dsimp only
  repeat' (first | (with_reducible exact Keep.refl _ _) | (with_reducible assumption) | (with_reducible apply State.readSector_keep m0) | (with_reducible apply Keep.foldl) | (with_reducible apply Keep.foldl2) | (with_reducible apply Keep.foldl3) | (intro) | dsimp only)

theorem State.readMem_keep {M : Nat} {z0 : State} (hM : M &&& 0x2E3248 = 0x2E3248) (t : Tier) (off n : Nat) (s : State) (hk : Keep M z0 s) : Keep M z0 (State.readMem t off n s).2.2 := by
  refine hk.trans ?_
  have m0 : M &&& 0x2E3248 = 0x2E3248 := Keep.sub hM rfl
  have m1 : M &&& 0x40000 = 0x40000 := Keep.sub hM rfl
  unfold State.readMem
  try dsimp only
  repeat' (first | (with_reducible exact Keep.refl _ _) | (with_reducible assumption) | (with_reducible apply State.readRange_keep m0) | (with_reducible apply State.countBytes_keep m1) | dsimp only)

theorem State.writeMem_keep {M : Nat} {z0 : State} (hM : M &&& 0x2E3248 = 0x2E3248) (t : Tier) (off : Nat) (l : List Byte) (s : State) (hk : Keep M z0 s) : Keep M z0 (State.writeMem t off l s) := by
  refine hk.trans ?_
  have m0 : M &&& 0x2E3248 = 0x2E3248 := Keep.sub hM rfl
  have m1 : M &&& 0x40000 = 0x40000 := Keep.sub hM rfl
  have b_mem : M.testBit 9 = true := Keep.bit hM rfl
  unfold State.writeMem
  extract_lets n lo hi hd tl hb tb s1 s2 st sp kept e1 e2 gone s3
  have h1 : Keep M s s1 := by
    unfold s1
    split
    · apply State.readRange_keep m0; exact Keep.refl _ _
    · exact Keep.refl _ _
  have h2 : Keep M s s2 := by
    unfold s2
    split
    · apply State.readRange_keep m0; exact h1
    · exact h1
  refine State.countBytes_keep m1 _ _ _ (State.countBytes_keep m1 _ _ _ (Keep.updOk b_mem (fun h => ?_) h2))
  have hm : e2.ok = true := (MemState.ok_heal s2.mem t _ _).trans h
  exact MemState.ok_setCells t _ hm (wf_cellsWrite _ _ ((MemState.ok_iff _).1 hm t))

theorem State.storedCheckEvent_keep {M : Nat} {z0 : State} (hM : M &&& 0xC0000 = 0xC0000) (unit : Nat) (t : Tier) (r : Region) (h : Header) (s : State) (hk : Keep M z0 s) : Keep M z0 (State.storedCheckEvent unit t r h s) := by
  refine hk.trans ?_
  have m0 : M &&& 0xC0000 = 0xC0000 := Keep.sub hM rfl
  unfold State.storedCheckEvent
  try dsimp only
  repeat' (first | (with_reducible exact Keep.refl _ _) | (with_reducible apply State.record_keep m0) | dsimp only [id])

theorem State.checkStored_keep {M : Nat} {z0 : State} (hM : M &&& 0xC2248 = 0xC2248) (unit : Nat) (t : Tier) (r : Region) (off : Nat) (s : State) (hk : Keep M z0 s) : Keep M z0 (State.checkStored unit t r off s).2 := by
  refine hk.trans ?_
  have m0 : M &&& 0xC0000 = 0xC0000 := Keep.sub hM rfl
  have m1 : M &&& 0xC2248 = 0xC2248 := Keep.sub hM rfl
  have b_chk : M.testBit 3 = true := Keep.bit hM rfl
  unfold State.checkStored
  try dsimp only
  repeat' (first | (with_reducible exact Keep.refl _ _) | (fail_if_no_progress (with_reducible apply Keep.upd_chk b_chk)) | (with_reducible apply State.storedCheckEvent_keep m0) | (with_reducible apply State.markStored_keep m1) | (with_reducible apply State.record_keep m0) | (with_reducible apply Keep.ite) | split | dsimp only)

theorem State.readBlock_keep {M : Nat} {z0 : State} (hM : M &&& 0x2E3248 = 0x2E3248) (unit : Nat) (t : Tier) (off : Nat) (s : State) (hk : Keep M z0 s) : Keep M z0 (State.readBlock unit t off s).2 := by
  refine hk.trans ?_
  have m0 : M &&& 0xC2248 = 0xC2248 := Keep.sub hM rfl
  have m1 : M &&& 0x2E3248 = 0x2E3248 := Keep.sub hM rfl
  have m2 : M &&& 0x40000 = 0x40000 := Keep.sub hM rfl
  unfold State.readBlock
  try dsimp only
  repeat' (first | (with_reducible exact Keep.refl _ _) | (with_reducible assumption) | (with_reducible apply State.checkStored_keep m0) | (with_reducible apply State.readRange_keep m1) | (with_reducible apply State.settleMarks_keep m0) | (with_reducible apply State.countBytes_keep m2) | (with_reducible apply Keep.ite) | split | dsimp only | (with_reducible refine Keep.snd (by with_reducible assumption) ?_))

theorem State.readCarried_keep {M : Nat} {z0 : State} (hM : M &&& 0x2E3248 = 0x2E3248) (t : Tier) (off : Nat) (s : State) (hk : Keep M z0 s) : Keep M z0 (State.readCarried t off s).2.2 := by
  refine hk.trans ?_
  have m0 : M &&& 0xC0000 = 0xC0000 := Keep.sub hM rfl
  have m1 : M &&& 0x2E3248 = 0x2E3248 := Keep.sub hM rfl
  have m2 : M &&& 0xC2248 = 0xC2248 := Keep.sub hM rfl
  have m3 : M &&& 0x40000 = 0x40000 := Keep.sub hM rfl
  have b_chk : M.testBit 3 = true := Keep.bit hM rfl
  unfold State.readCarried
  try dsimp only
  repeat' (first | (with_reducible exact Keep.refl _ _) | (with_reducible assumption) | (fail_if_no_progress (with_reducible apply Keep.upd_chk b_chk)) | (with_reducible apply State.storedCheckEvent_keep m0) | (with_reducible apply State.readRange_keep m1) | (with_reducible apply State.settleMarks_keep m2) | (with_reducible apply State.markStored_keep m2) | (with_reducible apply State.countBytes_keep m3) | (with_reducible apply Keep.ite) | split | dsimp only | (with_reducible refine Keep.snd (by with_reducible assumption) ?_))

theorem State.writeBytes_keep {M : Nat} {z0 : State} (hM : M &&& 0x2E3248 = 0x2E3248) (t : Tier) (off : Nat) (hdr pay : List Byte) (s : State) (hk : Keep M z0 s) : Keep M z0 (State.writeBytes t off hdr pay s) := by
  refine hk.trans ?_
  have m0 : M &&& 0x2E3248 = 0x2E3248 := Keep.sub hM rfl
  have m1 : M &&& 0x200 = 0x200 := Keep.sub hM rfl
  unfold State.writeBytes
  try dsimp only
  repeat' (first | (with_reducible exact Keep.refl _ _) | (with_reducible apply State.writeMem_keep m0) | (with_reducible apply State.dropMarks_keep m1) | split | (with_reducible refine Keep.snd (by with_reducible assumption) ?_))

theorem State.writeCarried_keep {M : Nat} {z0 : State} (hM : M &&& 0x2E3248 = 0x2E3248) (t : Tier) (off : Nat) (b : Block) (s : State) (hk : Keep M z0 s) : Keep M z0 (State.writeCarried t off b s) := by
  refine hk.trans ?_
  have m0 : M &&& 0x2E3248 = 0x2E3248 := Keep.sub hM rfl
  unfold State.writeCarried
  try dsimp only
  repeat' (first | (with_reducible exact Keep.refl _ _) | (with_reducible apply State.writeBytes_keep m0))

theorem State.writeBlock_keep {M : Nat} {z0 : State} (hM : M &&& 0x2E3248 = 0x2E3248) (t : Tier) (off : Nat) (b : Block) (s : State) (hk : Keep M z0 s) : Keep M z0 (State.writeBlock t off b s) := by
  refine hk.trans ?_
  have m0 : M &&& 0x2E3248 = 0x2E3248 := Keep.sub hM rfl
  unfold State.writeBlock
  try dsimp only
  repeat' (first | (with_reducible exact Keep.refl _ _) | (with_reducible apply State.writeCarried_keep m0))

theorem State.copyPage_keep {M : Nat} {z0 : State} (hM : M &&& 0x2E3248 = 0x2E3248) (off : Nat) (s : State) (hk : Keep M z0 s) : Keep M z0 (State.copyPage off s) := by
  refine hk.trans ?_
  have m0 : M &&& 0x2E3248 = 0x2E3248 := Keep.sub hM rfl
  have m1 : M &&& 0xC2248 = 0xC2248 := Keep.sub hM rfl
  have b_adj : M.testBit 13 = true := Keep.bit hM rfl
  unfold State.copyPage
  try dsimp only
  repeat' (first | (with_reducible exact Keep.refl _ _) | (with_reducible assumption) | (fail_if_no_progress (with_reducible apply Keep.upd_adj b_adj)) | (with_reducible apply State.writeBytes_keep m0) | (with_reducible apply State.readCarried_keep m0) | (with_reducible apply State.settleMarks_keep m1) | (with_reducible apply Keep.foldl) | (with_reducible apply Keep.foldl2) | (with_reducible apply Keep.foldl3) | (intro) | (with_reducible apply Keep.ite) | split | dsimp only | (with_reducible refine Keep.snd (by with_reducible assumption) ?_))

theorem State.setPort_keep {M : Nat} {z0 : State} (hM : M &&& 0x400 = 0x400) (p : Port) (f : PortSt → PortSt) (s : State) (hk : Keep M z0 s) : Keep M z0 (State.setPort p f s) := by
  refine hk.trans ?_
  have b_links : M.testBit 10 = true := Keep.bit hM rfl
  unfold State.setPort
  try dsimp only
  repeat' (first | (with_reducible exact Keep.refl _ _) | (with_reducible assumption) | (fail_if_no_progress (with_reducible apply Keep.upd_links b_links)))

theorem State.deliver_keep {M : Nat} {z0 : State} (hM : M &&& 0x800 = 0x800) (port : Option Port) (vc : BitVec 3) (pk : Packet) (s : State) (hk : Keep M z0 s) : Keep M z0 (State.deliver port vc pk s) := by
  refine hk.trans ?_
  have b_route : M.testBit 11 = true := Keep.bit hM rfl
  unfold State.deliver
  try dsimp only
  repeat' (first | (with_reducible exact Keep.refl _ _) | (fail_if_no_progress (with_reducible apply Keep.upd_route b_route)))

theorem State.takePk_keep {M : Nat} {z0 : State} (hM : M &&& 0x800 = 0x800) (pk : Packet) (s : State) (hk : Keep M z0 s) : Keep M z0 (State.takePk pk s) := by
  refine hk.trans ?_
  have b_route : M.testBit 11 = true := Keep.bit hM rfl
  unfold State.takePk
  try dsimp only
  repeat' (first | (with_reducible exact Keep.refl _ _) | (with_reducible assumption) | (fail_if_no_progress (with_reducible apply Keep.upd_route b_route)) | split | dsimp only | (with_reducible refine Keep.snd (by with_reducible assumption) ?_))

theorem State.tracePk_keep {M : Nat} {z0 : State} (hM : M &&& 0x40000 = 0x40000) (kind : Nat) (p : Port) (vc : BitVec 3) (pk : Packet) (s : State) (hk : Keep M z0 s) : Keep M z0 (State.tracePk kind p vc pk s) := by
  refine hk.trans ?_
  have m0 : M &&& 0x40000 = 0x40000 := Keep.sub hM rfl
  unfold State.tracePk
  try dsimp only
  repeat' (first | (with_reducible exact Keep.refl _ _) | (with_reducible apply State.trace_keep m0) | (with_reducible apply Keep.ite) | split | (with_reducible refine Keep.snd (by with_reducible assumption) ?_))

theorem State.queueOn_keep {M : Nat} {z0 : State} (hM : M &&& 0x40400 = 0x40400) (p : Port) (x : Queued) (s : State) (hk : Keep M z0 s) : Keep M z0 (State.queueOn p x s) := by
  refine hk.trans ?_
  have m0 : M &&& 0x40000 = 0x40000 := Keep.sub hM rfl
  have m1 : M &&& 0x400 = 0x400 := Keep.sub hM rfl
  unfold State.queueOn
  try dsimp only
  repeat' (first | (with_reducible exact Keep.refl _ _) | (with_reducible assumption) | (with_reducible apply State.tracePk_keep m0) | (with_reducible apply State.setPort_keep m1) | dsimp only)

theorem State.freePool_keep {M : Nat} {z0 : State} (hM : M &&& 0x800 = 0x800) (n : Nat) (s : State) (hk : Keep M z0 s) : Keep M z0 (State.freePool n s) := by
  refine hk.trans ?_
  have b_route : M.testBit 11 = true := Keep.bit hM rfl
  unfold State.freePool
  try dsimp only
  repeat' (first | (with_reducible exact Keep.refl _ _) | (fail_if_no_progress (with_reducible apply Keep.upd_route b_route)))

theorem State.switchPk_keep {M : Nat} {z0 : State} (hM : M &&& 0xC0C00 = 0xC0C00) (x : PoolPk) (s : State) (hk : Keep M z0 s) : Keep M z0 (State.switchPk x s) := by
  refine hk.trans ?_
  have m0 : M &&& 0x800 = 0x800 := Keep.sub hM rfl
  have m1 : M &&& 0x40400 = 0x40400 := Keep.sub hM rfl
  have m2 : M &&& 0xC0000 = 0xC0000 := Keep.sub hM rfl
  have b_route : M.testBit 11 = true := Keep.bit hM rfl
  unfold State.switchPk
  try dsimp only
  repeat' (first | (with_reducible exact Keep.refl _ _) | (fail_if_no_progress (with_reducible apply Keep.upd_route b_route)) | (with_reducible apply State.freePool_keep m0) | (with_reducible apply State.queueOn_keep m1) | (with_reducible apply State.record_keep m2) | (with_reducible apply Keep.ite) | split | (with_reducible refine Keep.snd (by with_reducible assumption) ?_))

theorem State.enterPool_keep {M : Nat} {z0 : State} (hM : M &&& 0x800 = 0x800) (x : PoolPk) (go : PoolPk → State → State) (s : State) (hgo : ∀ y0 y1, Keep M y1 (go y0 y1)) (hk : Keep M z0 s) : Keep M z0 (State.enterPool x go s) := by
  refine hk.trans ?_
  have b_route : M.testBit 11 = true := Keep.bit hM rfl
  unfold State.enterPool
  try dsimp only
  repeat' (first | (with_reducible exact Keep.refl _ _) | (with_reducible assumption) | (fail_if_no_progress (with_reducible apply Keep.upd_route b_route)) | (with_reducible apply Keep.trans _ (hgo ..)) | (with_reducible apply Keep.ite) | split)

theorem State.enqueue_keep {M : Nat} {z0 : State} (hM : M &&& 0x40C00 = 0x40C00) (p : Port) (vc : BitVec 3) (pk : Packet) (s : State) (hk : Keep M z0 s) : Keep M z0 (State.enqueue p vc pk s) := by
  refine hk.trans ?_
  have m0 : M &&& 0x800 = 0x800 := Keep.sub hM rfl
  have m1 : M &&& 0x40400 = 0x40400 := Keep.sub hM rfl
  unfold State.enqueue
  try dsimp only
  repeat' (first | (with_reducible exact Keep.refl _ _) | (with_reducible assumption) | (with_reducible apply State.enterPool_keep m0) | (with_reducible apply State.queueOn_keep m1) | (intro) | (with_reducible apply Keep.ite) | split | dsimp only)

theorem State.forward_keep {M : Nat} {z0 : State} (hM : M &&& 0xC0C00 = 0xC0C00) (arr : Option Port) (vc : BitVec 3) (pk : Packet) (s : State) (hk : Keep M z0 s) : Keep M z0 (State.forward arr vc pk s) := by
  refine hk.trans ?_
  have m0 : M &&& 0x800 = 0x800 := Keep.sub hM rfl
  have m1 : M &&& 0xC0C00 = 0xC0C00 := Keep.sub hM rfl
  unfold State.forward
  try dsimp only
  repeat' (first | (with_reducible exact Keep.refl _ _) | (with_reducible apply State.enterPool_keep m0) | (with_reducible apply State.switchPk_keep m1) | (intro))

theorem State.admitWaiting_keep {M : Nat} {z0 : State} (hM : M &&& 0xC0C00 = 0xC0C00) (s : State) (hk : Keep M z0 s) : Keep M z0 (State.admitWaiting s) := by
  refine hk.trans ?_
  have m0 : M &&& 0xC0C00 = 0xC0C00 := Keep.sub hM rfl
  have m1 : M &&& 0x40C00 = 0x40C00 := Keep.sub hM rfl
  have b_route : M.testBit 11 = true := Keep.bit hM rfl
  unfold State.admitWaiting
  try dsimp only
  repeat' (first | (with_reducible exact Keep.refl _ _) | (with_reducible assumption) | (fail_if_no_progress (with_reducible apply Keep.upd_route b_route)) | (with_reducible apply State.forward_keep m0) | (with_reducible apply State.enqueue_keep m1) | (with_reducible apply Keep.foldl) | (with_reducible apply Keep.foldl2) | (with_reducible apply Keep.foldl3) | (intro) | split | dsimp only | (with_reducible refine Keep.snd (by with_reducible assumption) ?_))

theorem State.sendVc_keep {M : Nat} {z0 : State} (hM : M &&& 0xC0C00 = 0xC0C00) (vc : BitVec 3) (pk : Packet) (s : State) (hk : Keep M z0 s) : Keep M z0 (State.sendVc vc pk s) := by
  refine hk.trans ?_
  have m0 : M &&& 0xC0C00 = 0xC0C00 := Keep.sub hM rfl
  have m1 : M &&& 0x800 = 0x800 := Keep.sub hM rfl
  unfold State.sendVc
  try dsimp only
  repeat' (first | (with_reducible exact Keep.refl _ _) | (with_reducible apply State.forward_keep m0) | (with_reducible apply State.deliver_keep m1) | (with_reducible apply Keep.ite) | split)

theorem State.send_keep {M : Nat} {z0 : State} (hM : M &&& 0xC0C00 = 0xC0C00) (pk : Packet) (s : State) (hk : Keep M z0 s) : Keep M z0 (State.send pk s) := by
  refine hk.trans ?_
  have m0 : M &&& 0xC0C00 = 0xC0C00 := Keep.sub hM rfl
  unfold State.send
  try dsimp only
  repeat' (first | (with_reducible exact Keep.refl _ _) | (with_reducible apply State.sendVc_keep m0))

theorem State.sendOn_keep {M : Nat} {z0 : State} (hM : M &&& 0x40C00 = 0x40C00) (p : Port) (pk : Packet) (s : State) (hk : Keep M z0 s) : Keep M z0 (State.sendOn p pk s) := by
  refine hk.trans ?_
  have m0 : M &&& 0x40C00 = 0x40C00 := Keep.sub hM rfl
  unfold State.sendOn
  try dsimp only
  repeat' (first | (with_reducible exact Keep.refl _ _) | (with_reducible apply State.enqueue_keep m0))

theorem State.sendTrans_keep {M : Nat} {z0 : State} (hM : M &&& 0xC0C00 = 0xC0C00) (op : U8) (dst step : U32) (a b c body : List Byte) (s : State) (hk : Keep M z0 s) : Keep M z0 (State.sendTrans op dst step a b c body s) := by
  refine hk.trans ?_
  have m0 : M &&& 0xC0C00 = 0xC0C00 := Keep.sub hM rfl
  unfold State.sendTrans
  try dsimp only
  repeat' (first | (with_reducible exact Keep.refl _ _) | (with_reducible apply State.send_keep m0))

theorem State.sendBlock_keep {M : Nat} {z0 : State} (hM : M &&& 0xC0C00 = 0xC0C00) (b : Block) (s : State) (hk : Keep M z0 s) : Keep M z0 (State.sendBlock b s) := by
  refine hk.trans ?_
  have m0 : M &&& 0xC0C00 = 0xC0C00 := Keep.sub hM rfl
  unfold State.sendBlock
  try dsimp only
  repeat' (first | (with_reducible exact Keep.refl _ _) | (with_reducible apply State.send_keep m0))

theorem State.sendFence_keep {M : Nat} {z0 : State} (hM : M &&& 0xC0C00 = 0xC0C00) (dst step : U32) (kind : U8) (a : List Byte) (b c body : List Byte) (s : State) (hk : Keep M z0 s) : Keep M z0 (State.sendFence dst step kind a b c body s) := by
  refine hk.trans ?_
  have m0 : M &&& 0xC0C00 = 0xC0C00 := Keep.sub hM rfl
  have m1 : M &&& 0x40000 = 0x40000 := Keep.sub hM rfl
  unfold State.sendFence
  try dsimp only
  repeat' (first | (with_reducible exact Keep.refl _ _) | (with_reducible apply State.sendTrans_keep m0) | (with_reducible apply State.trace_keep m1))

theorem State.sendAck_keep {M : Nat} {z0 : State} (hM : M &&& 0xC0C00 = 0xC0C00) (dst step ts blk : U32) (count : Nat) (op code : U8) (contrib : U32) (s : State) (hk : Keep M z0 s) : Keep M z0 (State.sendAck dst step ts blk count op code contrib s) := by
  refine hk.trans ?_
  have m0 : M &&& 0xC0C00 = 0xC0C00 := Keep.sub hM rfl
  unfold State.sendAck
  try dsimp only
  repeat' (first | (with_reducible exact Keep.refl _ _) | (with_reducible apply State.sendTrans_keep m0))

theorem State.sendResend_keep {M : Nat} {z0 : State} (hM : M &&& 0xC0C00 = 0xC0C00) (dst step ts blk : U32) (count : Nat) (op reason : U8) (contrib : U32) (b : List Byte) (s : State) (hk : Keep M z0 s) : Keep M z0 (State.sendResend dst step ts blk count op reason contrib b s) := by
  refine hk.trans ?_
  have m0 : M &&& 0xC0C00 = 0xC0C00 := Keep.sub hM rfl
  unfold State.sendResend
  try dsimp only
  repeat' (first | (with_reducible exact Keep.refl _ _) | (with_reducible apply State.sendTrans_keep m0))

theorem State.free_keep {M : Nat} {z0 : State} (hM : M &&& 0x800000 = 0x800000) (s : State) (hk : Keep M z0 s) : Keep M z0 (State.free s).2 := by
  refine hk.trans ?_
  have b_freeCtr : M.testBit 23 = true := Keep.bit hM rfl
  unfold State.free
  try dsimp only
  repeat' (first | (with_reducible exact Keep.refl _ _) | (fail_if_no_progress (with_reducible apply Keep.upd_freeCtr b_freeCtr)) | dsimp only)

theorem State.setHu_keep {M : Nat} {z0 : State} (hM : M &&& 0x200000 = 0x200000) (i : Fin 2) (f : Reservoir → Reservoir) (s : State) (hk : Keep M z0 s) : Keep M z0 (State.setHu i f s) := by
  refine hk.trans ?_
  have b_pwr : M.testBit 21 = true := Keep.bit hM rfl
  unfold State.setHu
  try dsimp only
  repeat' (first | (with_reducible exact Keep.refl _ _) | (with_reducible assumption) | (fail_if_no_progress (with_reducible apply Keep.upd_pwr b_pwr)))

theorem State.bleed_keep {M : Nat} {z0 : State} (hM : M &&& 0xA00000 = 0xA00000) (i : Fin 2) (s : State) (hk : Keep M z0 s) : Keep M z0 (State.bleed i s) := by
  refine hk.trans ?_
  have m0 : M &&& 0x200000 = 0x200000 := Keep.sub hM rfl
  have m1 : M &&& 0x800000 = 0x800000 := Keep.sub hM rfl
  unfold State.bleed
  try dsimp only
  repeat' (first | (with_reducible exact Keep.refl _ _) | (with_reducible apply State.setHu_keep m0) | (with_reducible apply State.free_keep m1) | split | dsimp only | (with_reducible refine Keep.snd (by with_reducible assumption) ?_))

theorem State.checkStanding_keep {M : Nat} {z0 : State} (hM : M &&& 0x2C0000 = 0x2C0000) (s : State) (hk : Keep M z0 s) : Keep M z0 (State.checkStanding s) := by
  refine hk.trans ?_
  have m0 : M &&& 0xC0000 = 0xC0000 := Keep.sub hM rfl
  have b_pwr : M.testBit 21 = true := Keep.bit hM rfl
  unfold State.checkStanding
  try dsimp only
  repeat' (first | (with_reducible exact Keep.refl _ _) | (fail_if_no_progress (with_reducible apply Keep.upd_pwr b_pwr)) | (with_reducible apply State.record_keep m0) | (with_reducible apply Keep.ite) | split)

theorem State.reserve_keep {M : Nat} {z0 : State} (hM : M &&& 0x2C0000 = 0x2C0000) (cost : Nat) (s : State) (hk : Keep M z0 s) : Keep M z0 (State.reserve cost s).2 := by
  refine hk.trans ?_
  have m0 : M &&& 0x2C0000 = 0x2C0000 := Keep.sub hM rfl
  have b_pwr : M.testBit 21 = true := Keep.bit hM rfl
  unfold State.reserve
  try dsimp only
  repeat' (first | (with_reducible exact Keep.refl _ _) | (fail_if_no_progress (with_reducible apply Keep.upd_pwr b_pwr)) | (with_reducible apply State.checkStanding_keep m0) | (with_reducible apply Keep.ite) | split | dsimp only)

theorem State.release_keep {M : Nat} {z0 : State} (hM : M &&& 0x200000 = 0x200000) (cost : U32) (s : State) (hk : Keep M z0 s) : Keep M z0 (State.release cost s) := by
  refine hk.trans ?_
  have b_pwr : M.testBit 21 = true := Keep.bit hM rfl
  unfold State.release
  try dsimp only
  repeat' (first | (with_reducible exact Keep.refl _ _) | (fail_if_no_progress (with_reducible apply Keep.upd_pwr b_pwr)) | (with_reducible apply Keep.ite) | split)

theorem State.fenceUp_keep {M : Nat} {z0 : State} (hM : M &&& 0xC0C00 = 0xC0C00) (step : U32) (kind : U8) (a body : List Byte) (s : State) (hk : Keep M z0 s) : Keep M z0 (State.fenceUp step kind a body s) := by
  refine hk.trans ?_
  have m0 : M &&& 0xC0C00 = 0xC0C00 := Keep.sub hM rfl
  unfold State.fenceUp
  try dsimp only
  repeat' (first | (with_reducible exact Keep.refl _ _) | (with_reducible apply State.sendFence_keep m0) | split | (with_reducible refine Keep.snd (by with_reducible assumption) ?_))

theorem State.fenceDown_keep {M : Nat} {z0 : State} (hM : M &&& 0xC0C00 = 0xC0C00) (step : U32) (kind : U8) (a body : List Byte) (s : State) (hk : Keep M z0 s) : Keep M z0 (State.fenceDown step kind a body s) := by
  refine hk.trans ?_
  have m0 : M &&& 0xC0C00 = 0xC0C00 := Keep.sub hM rfl
  unfold State.fenceDown
  try dsimp only
  repeat' (first | (with_reducible exact Keep.refl _ _) | (with_reducible assumption) | (with_reducible apply State.sendFence_keep m0) | (with_reducible apply Keep.foldl) | (with_reducible apply Keep.foldl2) | (with_reducible apply Keep.foldl3) | (intro) | dsimp only)

theorem State.stepFailedUp_keep {M : Nat} {z0 : State} (hM : M &&& 0xC0C00 = 0xC0C00) (step : U32) (code : Nat) (s : State) (hk : Keep M z0 s) : Keep M z0 (State.stepFailedUp step code s) := by
  refine hk.trans ?_
  have m0 : M &&& 0xC0C00 = 0xC0C00 := Keep.sub hM rfl
  unfold State.stepFailedUp
  try dsimp only
  repeat' (first | (with_reducible exact Keep.refl _ _) | (with_reducible assumption) | (with_reducible apply State.fenceUp_keep m0) | (with_reducible apply State.sendFence_keep m0) | (with_reducible apply Keep.foldl) | (with_reducible apply Keep.foldl2) | (with_reducible apply Keep.foldl3) | (intro) | dsimp only)

theorem State.endPass_keep {M : Nat} {z0 : State} (hM : M &&& 0x80100 = 0x80100) (p : Pass) (s : State) (hk : Keep M z0 s) : Keep M z0 (State.endPass p s) := by
  refine hk.trans ?_
  have m0 : M &&& 0x80000 = 0x80000 := Keep.sub hM rfl
  have b_str : M.testBit 8 = true := Keep.bit hM rfl
  unfold State.endPass
  try dsimp only
  repeat' (first | (with_reducible exact Keep.refl _ _) | (fail_if_no_progress (with_reducible apply Keep.upd_str b_str)) | (with_reducible apply State.raiseIrq_keep m0))

theorem State.closePass_keep {M : Nat} {z0 : State} (hM : M &&& 0xC0100 = 0xC0100) (p : Pass) (s : State) (hk : Keep M z0 s) : Keep M z0 (State.closePass p s) := by
  refine hk.trans ?_
  have m0 : M &&& 0x80100 = 0x80100 := Keep.sub hM rfl
  have m1 : M &&& 0xC0000 = 0xC0000 := Keep.sub hM rfl
  have b_str : M.testBit 8 = true := Keep.bit hM rfl
  unfold State.closePass
  try dsimp only
  repeat' (first | (with_reducible exact Keep.refl _ _) | (fail_if_no_progress (with_reducible apply Keep.upd_str b_str)) | (with_reducible apply State.endPass_keep m0) | (with_reducible apply State.record_keep m1) | (with_reducible apply Keep.ite) | split)

theorem State.closePasses_keep {M : Nat} {z0 : State} (hM : M &&& 0xC0100 = 0xC0100) (f : Pass → Bool) (s : State) (hk : Keep M z0 s) : Keep M z0 (State.closePasses f s) := by
  refine hk.trans ?_
  have m0 : M &&& 0xC0100 = 0xC0100 := Keep.sub hM rfl
  unfold State.closePasses
  try dsimp only
  repeat' (first | (with_reducible exact Keep.refl _ _) | (with_reducible assumption) | (with_reducible apply State.closePass_keep m0) | (with_reducible apply Keep.foldl) | (with_reducible apply Keep.foldl2) | (with_reducible apply Keep.foldl3) | (intro) | dsimp only)

theorem State.protect_keep {M : Nat} {z0 : State} (hM : M &&& 0x2000 = 0x2000) (forced : Bool) (step : U32) (ps : List CutPage) (s : State) (hk : Keep M z0 s) : Keep M z0 (State.protect forced step ps s) := by
  refine hk.trans ?_
  have b_adj : M.testBit 13 = true := Keep.bit hM rfl
  unfold State.protect
  try dsimp only
  repeat' (first | (with_reducible exact Keep.refl _ _) | (with_reducible assumption) | (fail_if_no_progress (with_reducible apply Keep.upd_adj b_adj)) | (with_reducible apply Keep.ite) | split | dsimp only)

theorem State.protectShard_keep {M : Nat} {z0 : State} (hM : M &&& 0x2000 = 0x2000) (e : TensorEntry) (step : U32) (s : State) (hk : Keep M z0 s) : Keep M z0 (State.protectShard e step s) := by
  refine hk.trans ?_
  have m0 : M &&& 0x2000 = 0x2000 := Keep.sub hM rfl
  unfold State.protectShard
  try dsimp only
  repeat' (first | (with_reducible exact Keep.refl _ _) | (with_reducible assumption) | (with_reducible apply State.protect_keep m0) | (with_reducible apply Keep.ite) | split | dsimp only)

theorem State.abandonCut_keep {M : Nat} {z0 : State} (hM : M &&& 0xC2000 = 0xC2000) (code : Nat) (c : Cut) (s : State) (hk : Keep M z0 s) : Keep M z0 (State.abandonCut code c s) := by
  refine hk.trans ?_
  have m0 : M &&& 0xC0000 = 0xC0000 := Keep.sub hM rfl
  have b_adj : M.testBit 13 = true := Keep.bit hM rfl
  unfold State.abandonCut
  try dsimp only
  repeat' (first | (with_reducible exact Keep.refl _ _) | (with_reducible assumption) | (fail_if_no_progress (with_reducible apply Keep.upd_adj b_adj)) | (with_reducible apply State.record_keep m0) | dsimp only)

theorem State.abandonCuts_keep {M : Nat} {z0 : State} (hM : M &&& 0xC2248 = 0xC2248) (f : Cut → Bool) (code : Nat) (s : State) (hk : Keep M z0 s) : Keep M z0 (State.abandonCuts f code s) := by
  refine hk.trans ?_
  have m0 : M &&& 0xC2000 = 0xC2000 := Keep.sub hM rfl
  have m1 : M &&& 0xC2248 = 0xC2248 := Keep.sub hM rfl
  unfold State.abandonCuts
  try dsimp only
  repeat' (first | (with_reducible exact Keep.refl _ _) | (with_reducible assumption) | (with_reducible apply State.abandonCut_keep m0) | (with_reducible apply State.settleAll_keep m1) | (with_reducible apply Keep.foldl) | (with_reducible apply Keep.foldl2) | (with_reducible apply Keep.foldl3) | (intro) | dsimp only)

theorem State.freePoints_keep {M : Nat} {z0 : State} (hM : M &&& 0x802000 = 0x802000) (f : Point → Bool) (s : State) (hk : Keep M z0 s) : Keep M z0 (State.freePoints f s) := by
  refine hk.trans ?_
  have m0 : M &&& 0x800000 = 0x800000 := Keep.sub hM rfl
  have b_adj : M.testBit 13 = true := Keep.bit hM rfl
  unfold State.freePoints
  try dsimp only
  repeat' (first | (with_reducible exact Keep.refl _ _) | (with_reducible assumption) | (fail_if_no_progress (with_reducible apply Keep.upd_adj b_adj)) | (with_reducible apply State.free_keep m0) | dsimp only)

theorem State.setEntry_keep {M : Nat} {z0 : State} (hM : M &&& 0x40 = 0x40) (ts : U32) (role : U8) (f : TensorEntry → TensorEntry) (s : State) (hk : Keep M z0 s) : Keep M z0 (State.setEntry ts role f s) := by
  refine hk.trans ?_
  have b_upd : M.testBit 6 = true := Keep.bit hM rfl
  unfold State.setEntry
  try dsimp only
  repeat' (first | (with_reducible exact Keep.refl _ _) | (with_reducible assumption) | (fail_if_no_progress (with_reducible apply Keep.upd_upd b_upd)) | (with_reducible apply Keep.ite) | split | dsimp only)

theorem State.failStep_keep {M : Nat} {z0 : State} (hM : M &&& 0xC2F58 = 0xC2F58) (code : Nat) (evs : List Event) (s : State) (hk : Keep M z0 s) : Keep M z0 (State.failStep code evs s) := by
  refine hk.trans ?_
  have m0 : M &&& 0xC2248 = 0xC2248 := Keep.sub hM rfl
  have m1 : M &&& 0xC0100 = 0xC0100 := Keep.sub hM rfl
  have m2 : M &&& 0xC0C00 = 0xC0C00 := Keep.sub hM rfl
  have m3 : M &&& 0xC0000 = 0xC0000 := Keep.sub hM rfl
  have b_fence : M.testBit 4 = true := Keep.bit hM rfl
  unfold State.failStep
  try dsimp only
  repeat' (first | (with_reducible exact Keep.refl _ _) | (with_reducible assumption) | (fail_if_no_progress (with_reducible apply Keep.upd_fence b_fence)) | (with_reducible apply State.abandonCuts_keep m0) | (with_reducible apply State.closePasses_keep m1) | (with_reducible apply State.stepFailedUp_keep m2) | (with_reducible apply State.record_keep m3) | (with_reducible apply Keep.foldl) | (with_reducible apply Keep.foldl2) | (with_reducible apply Keep.foldl3) | (intro) | dsimp only)

theorem State.failIfReported_keep {M : Nat} {z0 : State} (hM : M &&& 0xC2F58 = 0xC2F58) (s : State) (hk : Keep M z0 s) : Keep M z0 (State.failIfReported s) := by
  refine hk.trans ?_
  have m0 : M &&& 0xC2F58 = 0xC2F58 := Keep.sub hM rfl
  unfold State.failIfReported
  try dsimp only
  repeat' (first | (with_reducible exact Keep.refl _ _) | (with_reducible assumption) | (with_reducible apply State.failStep_keep m0) | (with_reducible apply Keep.ite) | split | dsimp only | (with_reducible refine Keep.snd (by with_reducible assumption) ?_))

theorem State.failShard_keep {M : Nat} {z0 : State} (hM : M &&& 0xC2F58 = 0xC2F58) (ts step : U32) (code : Nat) (blk : U32) (s : State) (hk : Keep M z0 s) : Keep M z0 (State.failShard ts step code blk s) := by
  refine hk.trans ?_
  have m0 : M &&& 0xC2F58 = 0xC2F58 := Keep.sub hM rfl
  have b_fence : M.testBit 4 = true := Keep.bit hM rfl
  unfold State.failShard
  try dsimp only
  repeat' (first | (with_reducible exact Keep.refl _ _) | (with_reducible assumption) | (fail_if_no_progress (with_reducible apply Keep.upd_fence b_fence)) | (with_reducible apply State.failIfReported_keep m0) | (with_reducible apply Keep.ite) | split | dsimp only)

theorem State.quarantine_keep {M : Nat} {z0 : State} (hM : M &&& 0xC2F58 = 0xC2F58) (e : TensorEntry) (step : U32) (s : State) (hk : Keep M z0 s) : Keep M z0 (State.quarantine e step s) := by
  refine hk.trans ?_
  have m0 : M &&& 0xC2F58 = 0xC2F58 := Keep.sub hM rfl
  have m1 : M &&& 0x40 = 0x40 := Keep.sub hM rfl
  have m2 : M &&& 0xC0000 = 0xC0000 := Keep.sub hM rfl
  unfold State.quarantine
  try dsimp only
  repeat' (first | (with_reducible exact Keep.refl _ _) | (with_reducible assumption) | (with_reducible apply State.failIfReported_keep m0) | (with_reducible apply State.setEntry_keep m1) | (with_reducible apply State.record_keep m2) | dsimp only)

theorem State.noteAccepted_keep {M : Nat} {z0 : State} (hM : M &&& 0x10 = 0x10) (step : U32) (n : Nat) (s : State) (hk : Keep M z0 s) : Keep M z0 (State.noteAccepted step n s) := by
  refine hk.trans ?_
  have b_fence : M.testBit 4 = true := Keep.bit hM rfl
  unfold State.noteAccepted
  try dsimp only
  repeat' (first | (with_reducible exact Keep.refl _ _) | (fail_if_no_progress (with_reducible apply Keep.upd_fence b_fence)))

theorem State.noteDiscarded_keep {M : Nat} {z0 : State} (hM : M &&& 0x10 = 0x10) (step : U32) (n : Nat) (s : State) (hk : Keep M z0 s) : Keep M z0 (State.noteDiscarded step n s) := by
  refine hk.trans ?_
  have b_fence : M.testBit 4 = true := Keep.bit hM rfl
  unfold State.noteDiscarded
  try dsimp only
  repeat' (first | (with_reducible exact Keep.refl _ _) | (fail_if_no_progress (with_reducible apply Keep.upd_fence b_fence)))

theorem State.stepIrq_keep {M : Nat} {z0 : State} (hM : M &&& 0x80000 = 0x80000) (s : State) (hk : Keep M z0 s) : Keep M z0 (State.stepIrq s) := by
  refine hk.trans ?_
  have m0 : M &&& 0x80000 = 0x80000 := Keep.sub hM rfl
  unfold State.stepIrq
  try dsimp only
  repeat' (first | (with_reducible exact Keep.refl _ _) | (with_reducible apply State.raiseIrq_keep m0))

theorem State.uncheck_keep {M : Nat} {z0 : State} (hM : M &&& 0x80 = 0x80) (i : Invoc) (s : State) (hk : Keep M z0 s) : Keep M z0 (State.uncheck i s) := by
  refine hk.trans ?_
  have b_vec : M.testBit 7 = true := Keep.bit hM rfl
  unfold State.uncheck
  try dsimp only
  repeat' (first | (with_reducible exact Keep.refl _ _) | (with_reducible assumption) | (fail_if_no_progress (with_reducible apply Keep.upd_vec b_vec)) | (with_reducible apply Keep.ite) | split | dsimp only)

theorem State.discardWindows_keep {M : Nat} {z0 : State} (hM : M &&& 0xE0 = 0xE0) (s : State) (hk : Keep M z0 s) : Keep M z0 (State.discardWindows s) := by
  refine hk.trans ?_
  have m0 : M &&& 0x80 = 0x80 := Keep.sub hM rfl
  have b_upd : M.testBit 6 = true := Keep.bit hM rfl
  have b_vec : M.testBit 7 = true := Keep.bit hM rfl
  have b_red : M.testBit 5 = true := Keep.bit hM rfl
  unfold State.discardWindows
  try dsimp only
  repeat' (first | (with_reducible exact Keep.refl _ _) | (with_reducible assumption) | (fail_if_no_progress (with_reducible apply Keep.upd_red b_red)) | (fail_if_no_progress (with_reducible apply Keep.upd_upd b_upd)) | (fail_if_no_progress (with_reducible apply Keep.upd_vec b_vec)) | (fail_if_no_progress ((with_reducible refine Keep.updAll ?_ ?_ ?_ ?_ ?_ ?_ ?_ ?_ ?_ ?_ ?_ ?_ ?_ ?_ ?_ ?_ ?_ ?_ ?_ ?_ ?_ ?_ ?_ ?_ ?_ ?_); iterate 25 (first | (with_reducible rfl) | (with_reducible exact fun _ => rfl) | (exact fun b => absurd (b.symm.trans (Keep.bit hM rfl)) (by decide))))) | (with_reducible apply State.uncheck_keep m0) | (with_reducible apply Keep.foldl) | (with_reducible apply Keep.foldl2) | (with_reducible apply Keep.foldl3) | (intro) | (with_reducible apply Keep.ite) | split | dsimp only)

theorem State.setExPort_keep {M : Nat} {z0 : State} (hM : M &&& 0x400000 = 0x400000) (p : Port) (f : ExPort → ExPort) (s : State) (hk : Keep M z0 s) : Keep M z0 (State.setExPort p f s) := by
  refine hk.trans ?_
  have b_exer : M.testBit 22 = true := Keep.bit hM rfl
  unfold State.setExPort
  try dsimp only
  repeat' (first | (with_reducible exact Keep.refl _ _) | (with_reducible assumption) | (fail_if_no_progress (with_reducible apply Keep.upd_exer b_exer)))

theorem State.exerCheck_keep {M : Nat} {z0 : State} (hM : M &&& 0x4C0000 = 0x4C0000) (p : Port) (code : Nat) (hdr : List Byte) (s : State) (hk : Keep M z0 s) : Keep M z0 (State.exerCheck p code hdr s) := by
  refine hk.trans ?_
  have m0 : M &&& 0x400000 = 0x400000 := Keep.sub hM rfl
  have m1 : M &&& 0xC0000 = 0xC0000 := Keep.sub hM rfl
  unfold State.exerCheck
  try dsimp only
  repeat' (first | (with_reducible exact Keep.refl _ _) | (with_reducible assumption) | (with_reducible apply State.setExPort_keep m0) | (with_reducible apply State.record_keep m1) | (with_reducible apply Keep.ite) | split | dsimp only)

theorem State.generate_keep {M : Nat} {z0 : State} (hM : M &&& 0x440C00 = 0x440C00) (p : Port) (s : State) (hk : Keep M z0 s) : Keep M z0 (State.generate p s) := by
  refine hk.trans ?_
  have m0 : M &&& 0x400000 = 0x400000 := Keep.sub hM rfl
  have m1 : M &&& 0x40C00 = 0x40C00 := Keep.sub hM rfl
  unfold State.generate
  try dsimp only
  repeat' (first | (with_reducible exact Keep.refl _ _) | (with_reducible assumption) | (with_reducible apply State.setExPort_keep m0) | (with_reducible apply State.enqueue_keep m1) | (with_reducible apply Keep.ite) | split | dsimp only)

theorem State.checkBlock_keep {M : Nat} {z0 : State} (hM : M &&& 0x4C0000 = 0x4C0000) (p : Port) (b : Block) (s : State) (hk : Keep M z0 s) : Keep M z0 (State.checkBlock p b s) := by
  refine hk.trans ?_
  have m0 : M &&& 0x4C0000 = 0x4C0000 := Keep.sub hM rfl
  have m1 : M &&& 0x400000 = 0x400000 := Keep.sub hM rfl
  unfold State.checkBlock
  try dsimp only
  repeat' (first | (with_reducible exact Keep.refl _ _) | (with_reducible assumption) | (with_reducible apply State.exerCheck_keep m0) | (with_reducible apply State.setExPort_keep m1) | (with_reducible apply Keep.ite) | split | dsimp only | (with_reducible refine Keep.snd (by with_reducible assumption) ?_))

theorem State.injApplied_keep {M : Nat} {z0 : State} (hM : M &&& 0x400000 = 0x400000) (p : Port) (s : State) (hk : Keep M z0 s) : Keep M z0 (State.injApplied p s) := by
  refine hk.trans ?_
  have m0 : M &&& 0x400000 = 0x400000 := Keep.sub hM rfl
  have b_exer : M.testBit 22 = true := Keep.bit hM rfl
  unfold State.injApplied
  try dsimp only
  repeat' (first | (with_reducible exact Keep.refl _ _) | (with_reducible assumption) | (fail_if_no_progress (with_reducible apply Keep.upd_exer b_exer)) | (with_reducible apply State.setExPort_keep m0) | (with_reducible apply Keep.ite) | split | dsimp only | (with_reducible refine Keep.snd (by with_reducible assumption) ?_))

theorem State.injDeferred_keep {M : Nat} {z0 : State} (hM : M &&& 0x400000 = 0x400000) (p : Port) (s : State) (hk : Keep M z0 s) : Keep M z0 (State.injDeferred p s) := by
  refine hk.trans ?_
  have m0 : M &&& 0x400000 = 0x400000 := Keep.sub hM rfl
  have b_exer : M.testBit 22 = true := Keep.bit hM rfl
  unfold State.injDeferred
  try dsimp only
  repeat' (first | (with_reducible exact Keep.refl _ _) | (with_reducible assumption) | (fail_if_no_progress (with_reducible apply Keep.upd_exer b_exer)) | (with_reducible apply State.setExPort_keep m0) | (with_reducible apply Keep.ite) | split | dsimp only)

theorem State.reacted_keep {M : Nat} {z0 : State} (hM : M &&& 0x400000 = 0x400000) (p : Port) (codes : List Nat) (s : State) (hk : Keep M z0 s) : Keep M z0 (State.reacted p codes s) := by
  refine hk.trans ?_
  have m0 : M &&& 0x400000 = 0x400000 := Keep.sub hM rfl
  have b_exer : M.testBit 22 = true := Keep.bit hM rfl
  unfold State.reacted
  try dsimp only
  repeat' (first | (with_reducible exact Keep.refl _ _) | (with_reducible assumption) | (fail_if_no_progress (with_reducible apply Keep.upd_exer b_exer)) | (with_reducible apply State.setExPort_keep m0) | split | dsimp only | (with_reducible refine Keep.snd (by with_reducible assumption) ?_))

theorem State.exerSend_keep {M : Nat} {z0 : State} (hM : M &&& 0x40C00 = 0x40C00) (p : Port) (op : U8) (step : U32) (a b body : List Byte) (s : State) (hk : Keep M z0 s) : Keep M z0 (State.exerSend p op step a b body s) := by
  refine hk.trans ?_
  have m0 : M &&& 0x40C00 = 0x40C00 := Keep.sub hM rfl
  unfold State.exerSend
  try dsimp only
  repeat' (first | (with_reducible exact Keep.refl _ _) | (with_reducible apply State.sendOn_keep m0))

theorem State.exerAck_keep {M : Nat} {z0 : State} (hM : M &&& 0x40C00 = 0x40C00) (p : Port) (h : Header) (s : State) (hk : Keep M z0 s) : Keep M z0 (State.exerAck p h s) := by
  refine hk.trans ?_
  have m0 : M &&& 0x40C00 = 0x40C00 := Keep.sub hM rfl
  unfold State.exerAck
  try dsimp only
  repeat' (first | (with_reducible exact Keep.refl _ _) | (with_reducible apply State.exerSend_keep m0))

theorem State.exerContrib_keep {M : Nat} {z0 : State} (hM : M &&& 0x4C0C00 = 0x4C0C00) (p : Port) (b : Block) (s : State) (hk : Keep M z0 s) : Keep M z0 (State.exerContrib p b s) := by
  refine hk.trans ?_
  have m0 : M &&& 0x40C00 = 0x40C00 := Keep.sub hM rfl
  have m1 : M &&& 0x4C0000 = 0x4C0000 := Keep.sub hM rfl
  have b_exer : M.testBit 22 = true := Keep.bit hM rfl
  unfold State.exerContrib
  try dsimp only
  repeat' (first | (with_reducible exact Keep.refl _ _) | (fail_if_no_progress (with_reducible apply Keep.upd_exer b_exer)) | (with_reducible apply State.exerAck_keep m0) | (with_reducible apply State.exerCheck_keep m1) | (with_reducible apply Keep.ite) | split | (with_reducible refine Keep.snd (by with_reducible assumption) ?_))

theorem State.exerPacket_keep {M : Nat} {z0 : State} (hM : M &&& 0x4C0C00 = 0x4C0C00) (p : Port) (vc : BitVec 3) (pk : Packet) (s : State) (hk : Keep M z0 s) : Keep M z0 (State.exerPacket p vc pk s) := by
  refine hk.trans ?_
  have m0 : M &&& 0x4C0C00 = 0x4C0C00 := Keep.sub hM rfl
  have m1 : M &&& 0x400000 = 0x400000 := Keep.sub hM rfl
  have m2 : M &&& 0x4C0000 = 0x4C0000 := Keep.sub hM rfl
  have b_exer : M.testBit 22 = true := Keep.bit hM rfl
  unfold State.exerPacket
  try dsimp only
  repeat' (first | (with_reducible exact Keep.refl _ _) | (fail_if_no_progress (with_reducible apply Keep.upd_exer b_exer)) | (with_reducible apply State.exerContrib_keep m0) | (with_reducible apply State.reacted_keep m1) | (with_reducible apply State.checkBlock_keep m2) | (with_reducible apply State.exerCheck_keep m2) | (with_reducible apply Keep.ite) | split | (with_reducible refine Keep.snd (by with_reducible assumption) ?_))

theorem State.sendSuspect_keep {M : Nat} {z0 : State} (hM : M &&& 0xC0C00 = 0xC0C00) (pos : U32) (p : Port) (s : State) (hk : Keep M z0 s) : Keep M z0 (State.sendSuspect pos p s) := by
  refine hk.trans ?_
  have m0 : M &&& 0xC0C00 = 0xC0C00 := Keep.sub hM rfl
  unfold State.sendSuspect
  try dsimp only
  repeat' (first | (with_reducible exact Keep.refl _ _) | (with_reducible assumption) | (with_reducible apply State.sendFence_keep m0) | (with_reducible apply Keep.foldl) | (with_reducible apply Keep.foldl2) | (with_reducible apply Keep.foldl3) | (intro) | dsimp only)

theorem State.suspectPort_keep {M : Nat} {z0 : State} (hM : M &&& 0xD0C00 = 0xD0C00) (p : Port) (s : State) (hk : Keep M z0 s) : Keep M z0 (State.suspectPort p s) := by
  refine hk.trans ?_
  have m0 : M &&& 0xC0C00 = 0xC0C00 := Keep.sub hM rfl
  have m1 : M &&& 0xC0000 = 0xC0000 := Keep.sub hM rfl
  have b_det : M.testBit 16 = true := Keep.bit hM rfl
  unfold State.suspectPort
  try dsimp only
  repeat' (first | (with_reducible exact Keep.refl _ _) | (fail_if_no_progress (with_reducible apply Keep.upd_det b_det)) | (with_reducible apply State.sendSuspect_keep m0) | (with_reducible apply State.record_keep m1) | (with_reducible apply Keep.ite) | split | (with_reducible refine Keep.snd (by with_reducible assumption) ?_))

theorem State.loseAgent_keep {M : Nat} {z0 : State} (hM : M &&& 0xD0C00 = 0xD0C00) (p : Port) (s : State) (hk : Keep M z0 s) : Keep M z0 (State.loseAgent p s) := by
  refine hk.trans ?_
  have m0 : M &&& 0xC0C00 = 0xC0C00 := Keep.sub hM rfl
  have m1 : M &&& 0x400 = 0x400 := Keep.sub hM rfl
  have m2 : M &&& 0xC0000 = 0xC0000 := Keep.sub hM rfl
  have b_det : M.testBit 16 = true := Keep.bit hM rfl
  unfold State.loseAgent
  try dsimp only
  repeat' (first | (with_reducible exact Keep.refl _ _) | (with_reducible assumption) | (fail_if_no_progress (with_reducible apply Keep.upd_det b_det)) | (with_reducible apply State.sendSuspect_keep m0) | (with_reducible apply State.setPort_keep m1) | (with_reducible apply State.record_keep m2) | (with_reducible apply Keep.ite) | split | dsimp only)

theorem State.portGone_keep {M : Nat} {z0 : State} (hM : M &&& 0xD0C00 = 0xD0C00) (p : Port) (s : State) (hk : Keep M z0 s) : Keep M z0 (State.portGone p s) := by
  refine hk.trans ?_
  have m0 : M &&& 0xD0C00 = 0xD0C00 := Keep.sub hM rfl
  unfold State.portGone
  try dsimp only
  repeat' (first | (with_reducible exact Keep.refl _ _) | (with_reducible apply State.loseAgent_keep m0) | (with_reducible apply State.suspectPort_keep m0) | (with_reducible apply Keep.ite) | split)

theorem State.noteNoPartner_keep {M : Nat} {z0 : State} (hM : M &&& 0xC1000 = 0xC1000) (s : State) (hk : Keep M z0 s) : Keep M z0 (State.noteNoPartner s) := by
  refine hk.trans ?_
  have m0 : M &&& 0xC0000 = 0xC0000 := Keep.sub hM rfl
  have b_part : M.testBit 12 = true := Keep.bit hM rfl
  unfold State.noteNoPartner
  try dsimp only
  repeat' (first | (with_reducible exact Keep.refl _ _) | (with_reducible assumption) | (fail_if_no_progress (with_reducible apply Keep.upd_part b_part)) | (with_reducible apply State.record_keep m0) | (with_reducible apply Keep.ite) | split | dsimp only)

theorem State.sendRetained_keep {M : Nat} {z0 : State} (hM : M &&& 0xC1C00 = 0xC1C00) (pk : Packet) (s : State) (hk : Keep M z0 s) : Keep M z0 (State.sendRetained pk s) := by
  refine hk.trans ?_
  have m0 : M &&& 0xC0C00 = 0xC0C00 := Keep.sub hM rfl
  have b_part : M.testBit 12 = true := Keep.bit hM rfl
  unfold State.sendRetained
  try dsimp only
  repeat' (first | (with_reducible exact Keep.refl _ _) | (fail_if_no_progress (with_reducible apply Keep.upd_part b_part)) | (with_reducible apply State.send_keep m0))

theorem State.sendReplayG_keep {M : Nat} {z0 : State} (hM : M &&& 0xC1C00 = 0xC1C00) (d : DispWin) (first : Nat) (s : State) (hk : Keep M z0 s) : Keep M z0 (State.sendReplayG d first s) := by
  refine hk.trans ?_
  have m0 : M &&& 0xC1C00 = 0xC1C00 := Keep.sub hM rfl
  have b_part : M.testBit 12 = true := Keep.bit hM rfl
  unfold State.sendReplayG
  try dsimp only
  repeat' (first | (with_reducible exact Keep.refl _ _) | (with_reducible assumption) | (fail_if_no_progress (with_reducible apply Keep.upd_part b_part)) | (with_reducible apply State.sendRetained_keep m0) | (with_reducible apply Keep.foldl) | (with_reducible apply Keep.foldl2) | (with_reducible apply Keep.foldl3) | (intro) | dsimp only)

theorem State.sendRecord_keep {M : Nat} {z0 : State} (hM : M &&& 0xC1C00 = 0xC1C00) (step : U32) (r : RecArgs) (s : State) (hk : Keep M z0 s) : Keep M z0 (State.sendRecord step r s) := by
  refine hk.trans ?_
  have m0 : M &&& 0xC1C00 = 0xC1C00 := Keep.sub hM rfl
  unfold State.sendRecord
  try dsimp only
  repeat' (first | (with_reducible exact Keep.refl _ _) | (with_reducible apply State.sendRetained_keep m0))

theorem State.foldTerm_keep {M : Nat} {z0 : State} (hM : M &&& 0x1000 = 0x1000) (d : DigTerm) (s : State) (hk : Keep M z0 s) : Keep M z0 (State.foldTerm d s) := by
  refine hk.trans ?_
  have b_part : M.testBit 12 = true := Keep.bit hM rfl
  unfold State.foldTerm
  try dsimp only
  repeat' (first | (with_reducible exact Keep.refl _ _) | (with_reducible assumption) | (fail_if_no_progress (with_reducible apply Keep.upd_part b_part)) | dsimp only)

theorem State.sendDigest_keep {M : Nat} {z0 : State} (hM : M &&& 0xC0C00 = 0xC0C00) (dst step ts : U32) (role : U8) (v : U64) (s : State) (hk : Keep M z0 s) : Keep M z0 (State.sendDigest dst step ts role v s) := by
  refine hk.trans ?_
  have m0 : M &&& 0xC0C00 = 0xC0C00 := Keep.sub hM rfl
  unfold State.sendDigest
  try dsimp only
  repeat' (first | (with_reducible exact Keep.refl _ _) | (with_reducible apply State.sendTrans_keep m0))

theorem State.sendOwnerDigest_keep {M : Nat} {z0 : State} (hM : M &&& 0xC0C00 = 0xC0C00) (e : TensorEntry) (step : U32) (s : State) (hk : Keep M z0 s) : Keep M z0 (State.sendOwnerDigest e step s) := by
  refine hk.trans ?_
  have m0 : M &&& 0xC0C00 = 0xC0C00 := Keep.sub hM rfl
  unfold State.sendOwnerDigest
  try dsimp only
  repeat' (first | (with_reducible exact Keep.refl _ _) | (with_reducible apply State.sendDigest_keep m0) | (with_reducible apply Keep.ite) | split)

theorem State.countMirror_keep {M : Nat} {z0 : State} (hM : M &&& 0x1000 = 0x1000) (s : State) (pk : Packet) (hk : Keep M z0 s) : Keep M z0 (State.countMirror s pk) := by
  refine hk.trans ?_
  have b_part : M.testBit 12 = true := Keep.bit hM rfl
  unfold State.countMirror
  try dsimp only
  repeat' (first | (with_reducible exact Keep.refl _ _) | (fail_if_no_progress (with_reducible apply Keep.upd_part b_part)))

theorem State.sendMirror_keep {M : Nat} {z0 : State} (hM : M &&& 0x2E3E48 = 0x2E3E48) (off : Nat) (s : State) (hk : Keep M z0 s) : Keep M z0 (State.sendMirror off s) := by
  refine hk.trans ?_
  have m0 : M &&& 0x1000 = 0x1000 := Keep.sub hM rfl
  have m1 : M &&& 0xC1C00 = 0xC1C00 := Keep.sub hM rfl
  have m2 : M &&& 0x2E3248 = 0x2E3248 := Keep.sub hM rfl
  unfold State.sendMirror
  try dsimp only
  repeat' (first | (with_reducible exact Keep.refl _ _) | (with_reducible apply State.countMirror_keep m0) | (with_reducible apply State.sendRetained_keep m1) | (with_reducible apply State.readBlock_keep m2) | split | dsimp only | (with_reducible refine Keep.snd (by with_reducible assumption) ?_))

theorem State.sendMask_keep {M : Nat} {z0 : State} (hM : M &&& 0xC1C00 = 0xC1C00) (b : Block) (off : Nat) (step : U32) (s : State) (hk : Keep M z0 s) : Keep M z0 (State.sendMask b off step s) := by
  refine hk.trans ?_
  have m0 : M &&& 0x1000 = 0x1000 := Keep.sub hM rfl
  have m1 : M &&& 0xC1C00 = 0xC1C00 := Keep.sub hM rfl
  unfold State.sendMask
  try dsimp only
  repeat' (first | (with_reducible exact Keep.refl _ _) | (with_reducible apply State.countMirror_keep m0) | (with_reducible apply State.sendRetained_keep m1))

theorem State.startSync_keep {M : Nat} {z0 : State} (hM : M &&& 0x2E3E48 = 0x2E3E48) (e : TensorEntry) (step : U32) (s : State) (hk : Keep M z0 s) : Keep M z0 (State.startSync e step s) := by
  refine hk.trans ?_
  have m0 : M &&& 0xC1C00 = 0xC1C00 := Keep.sub hM rfl
  have m1 : M &&& 0x2E3E48 = 0x2E3E48 := Keep.sub hM rfl
  have m2 : M &&& 0x2E3248 = 0x2E3248 := Keep.sub hM rfl
  have b_part : M.testBit 12 = true := Keep.bit hM rfl
  unfold State.startSync
  try dsimp only
  repeat' (first | (with_reducible exact Keep.refl _ _) | (with_reducible assumption) | (fail_if_no_progress (with_reducible apply Keep.upd_part b_part)) | (with_reducible apply State.sendMask_keep m0) | (with_reducible apply State.sendMirror_keep m1) | (with_reducible apply State.readBlock_keep m2) | (with_reducible apply Keep.foldl) | (with_reducible apply Keep.foldl2) | (with_reducible apply Keep.foldl3) | (intro) | (with_reducible apply Keep.ite) | split | dsimp only | (with_reducible refine Keep.snd (by with_reducible assumption) ?_))

theorem State.freeLatches_keep {M : Nat} {z0 : State} (hM : M &&& 0x40 = 0x40) (s : State) (hk : Keep M z0 s) : Keep M z0 (State.freeLatches s) := by
  refine hk.trans ?_
  have b_upd : M.testBit 6 = true := Keep.bit hM rfl
  unfold State.freeLatches
  try dsimp only
  repeat' (first | (with_reducible exact Keep.refl _ _) | (with_reducible assumption) | (fail_if_no_progress (with_reducible apply Keep.upd_upd b_upd)) | dsimp only)

theorem State.traceWindow_keep {M : Nat} {z0 : State} (hM : M &&& 0x840000 = 0x840000) (unit : Nat) (ts w step : U32) (s : State) (hk : Keep M z0 s) : Keep M z0 (State.traceWindow unit ts w step s) := by
  refine hk.trans ?_
  have m0 : M &&& 0x800000 = 0x800000 := Keep.sub hM rfl
  have m1 : M &&& 0x40000 = 0x40000 := Keep.sub hM rfl
  unfold State.traceWindow
  try dsimp only
  repeat' (first | (with_reducible exact Keep.refl _ _) | (with_reducible apply State.free_keep m0) | (with_reducible apply State.trace_keep m1) | split | dsimp only | (with_reducible refine Keep.snd (by with_reducible assumption) ?_))

theorem State.writeHeld_keep {M : Nat} {z0 : State} (hM : M &&& 0x2E3248 = 0x2E3248) (e : TensorEntry) (d : DispWin) (s : State) (hk : Keep M z0 s) : Keep M z0 (State.writeHeld e d s) := by
  refine hk.trans ?_
  have m0 : M &&& 0x2E3248 = 0x2E3248 := Keep.sub hM rfl
  have b_part : M.testBit 12 = true := Keep.bit hM rfl
  unfold State.writeHeld
  try dsimp only
  repeat' (first | (with_reducible exact Keep.refl _ _) | (with_reducible assumption) | (fail_if_no_progress (with_reducible apply Keep.upd_part b_part)) | (with_reducible apply State.writeBlock_keep m0) | (with_reducible apply State.readBlock_keep m0) | (with_reducible apply Keep.foldl) | (with_reducible apply Keep.foldl2) | (with_reducible apply Keep.foldl3) | (intro) | (with_reducible apply Keep.ite) | split | dsimp only | (with_reducible refine Keep.snd (by with_reducible assumption) ?_))

theorem State.readHeld_keep {M : Nat} {z0 : State} (hM : M &&& 0x2E3248 = 0x2E3248) (e : TensorEntry) (w n : Nat) (s : State) (hk : Keep M z0 s) : Keep M z0 (State.readHeld e w n s).2.2 := by
  refine hk.trans ?_
  have m0 : M &&& 0x2E3248 = 0x2E3248 := Keep.sub hM rfl
  unfold State.readHeld
  try dsimp only
  repeat' (first | (with_reducible exact Keep.refl _ _) | (with_reducible assumption) | (with_reducible apply State.readBlock_keep m0) | (with_reducible apply Keep.foldl) | (with_reducible apply Keep.foldl2) | (with_reducible apply Keep.foldl3) | (intro) | (with_reducible apply Keep.ite) | split | dsimp only | (with_reducible refine Keep.snd (by with_reducible assumption) ?_))

theorem State.consumePoison_keep {M : Nat} {z0 : State} (hM : M &&& 0xC2F58 = 0xC2F58) (d : DispWin) (s : State) (hk : Keep M z0 s) : Keep M z0 (State.consumePoison d s) := by
  refine hk.trans ?_
  have m0 : M &&& 0xC2F58 = 0xC2F58 := Keep.sub hM rfl
  have b_upd : M.testBit 6 = true := Keep.bit hM rfl
  unfold State.consumePoison
  try dsimp only
  repeat' (first | (with_reducible exact Keep.refl _ _) | (fail_if_no_progress (with_reducible apply Keep.upd_upd b_upd)) | (with_reducible apply State.failShard_keep m0))

theorem State.refuseNonfinite_keep {M : Nat} {z0 : State} (hM : M &&& 0xC2F58 = 0xC2F58) (d : DispWin) (s : State) (hk : Keep M z0 s) : Keep M z0 (State.refuseNonfinite d s) := by
  refine hk.trans ?_
  have m0 : M &&& 0xC2F58 = 0xC2F58 := Keep.sub hM rfl
  have m1 : M &&& 0xC0000 = 0xC0000 := Keep.sub hM rfl
  have b_upd : M.testBit 6 = true := Keep.bit hM rfl
  unfold State.refuseNonfinite
  try dsimp only
  repeat' (first | (with_reducible exact Keep.refl _ _) | (fail_if_no_progress (with_reducible apply Keep.upd_upd b_upd)) | (with_reducible apply State.failShard_keep m0) | (with_reducible apply State.record_keep m1))

theorem State.accept_keep {M : Nat} {z0 : State} (hM : M &&& 0x2E3F58 = 0x2E3F58) (e : TensorEntry) (d : DispWin) (s : State) (hk : Keep M z0 s) : Keep M z0 (State.accept e d s) := by
  refine hk.trans ?_
  have m0 : M &&& 0xC2F58 = 0xC2F58 := Keep.sub hM rfl
  have m1 : M &&& 0x2E3248 = 0x2E3248 := Keep.sub hM rfl
  have m2 : M &&& 0x40 = 0x40 := Keep.sub hM rfl
  have b_upd : M.testBit 6 = true := Keep.bit hM rfl
  unfold State.accept
  try dsimp only
  repeat' (first | (with_reducible exact Keep.refl _ _) | (with_reducible assumption) | (fail_if_no_progress (with_reducible apply Keep.upd_upd b_upd)) | (with_reducible apply State.refuseNonfinite_keep m0) | (with_reducible apply State.consumePoison_keep m0) | (with_reducible apply State.writeHeld_keep m1) | (with_reducible apply State.setEntry_keep m2) | (with_reducible apply Keep.ite) | split | dsimp only)

theorem State.admitWin_keep {M : Nat} {z0 : State} (hM : M &&& 0x2E3F58 = 0x2E3F58) (d : DispWin) (s : State) (hk : Keep M z0 s) : Keep M z0 (State.admitWin d s) := by
  refine hk.trans ?_
  have m0 : M &&& 0x2E3F58 = 0x2E3F58 := Keep.sub hM rfl
  have m1 : M &&& 0xC2F58 = 0xC2F58 := Keep.sub hM rfl
  have m2 : M &&& 0x40 = 0x40 := Keep.sub hM rfl
  have b_upd : M.testBit 6 = true := Keep.bit hM rfl
  unfold State.admitWin
  try dsimp only
  repeat' (first | (with_reducible exact Keep.refl _ _) | (fail_if_no_progress (with_reducible apply Keep.upd_upd b_upd)) | (with_reducible apply State.accept_keep m0) | (with_reducible apply State.quarantine_keep m1) | (with_reducible apply State.setEntry_keep m2) | (with_reducible apply Keep.ite) | split | (with_reducible refine Keep.snd (by with_reducible assumption) ?_))

theorem State.readmit_keep {M : Nat} {z0 : State} (hM : M &&& 0x2E3F58 = 0x2E3F58) (ts : U32) (s : State) (hk : Keep M z0 s) : Keep M z0 (State.readmit ts s) := by
  refine hk.trans ?_
  have m0 : M &&& 0x2E3F58 = 0x2E3F58 := Keep.sub hM rfl
  have b_upd : M.testBit 6 = true := Keep.bit hM rfl
  unfold State.readmit
  try dsimp only
  repeat' (first | (with_reducible exact Keep.refl _ _) | (with_reducible assumption) | (fail_if_no_progress (with_reducible apply Keep.upd_upd b_upd)) | (with_reducible apply State.admitWin_keep m0) | (with_reducible apply Keep.foldl) | (with_reducible apply Keep.foldl2) | (with_reducible apply Keep.foldl3) | (intro) | dsimp only)

theorem State.completeShard_keep {M : Nat} {z0 : State} (hM : M &&& 0x2E3F58 = 0x2E3F58) (e : TensorEntry) (step : U32) (skipped : Bool) (s : State) (hk : Keep M z0 s) : Keep M z0 (State.completeShard e step skipped s) := by
  refine hk.trans ?_
  have m0 : M &&& 0x2E3F58 = 0x2E3F58 := Keep.sub hM rfl
  have m1 : M &&& 0x40 = 0x40 := Keep.sub hM rfl
  have m2 : M &&& 0xC0C00 = 0xC0C00 := Keep.sub hM rfl
  have m3 : M &&& 0x2000 = 0x2000 := Keep.sub hM rfl
  unfold State.completeShard
  try dsimp only
  repeat' (first | (with_reducible exact Keep.refl _ _) | (with_reducible assumption) | (with_reducible apply State.readmit_keep m0) | (with_reducible apply State.freeLatches_keep m1) | (with_reducible apply State.sendOwnerDigest_keep m2) | (with_reducible apply State.setEntry_keep m1) | (with_reducible apply State.protectShard_keep m3) | (with_reducible apply Keep.ite) | split | dsimp only)

theorem State.completeIfDone_keep {M : Nat} {z0 : State} (hM : M &&& 0x2E3F58 = 0x2E3F58) (ts : U32) (s : State) (hk : Keep M z0 s) : Keep M z0 (State.completeIfDone ts s) := by
  refine hk.trans ?_
  have m0 : M &&& 0x2E3F58 = 0x2E3F58 := Keep.sub hM rfl
  unfold State.completeIfDone
  try dsimp only
  repeat' (first | (with_reducible exact Keep.refl _ _) | (with_reducible apply State.completeShard_keep m0) | (with_reducible apply Keep.ite) | split | (with_reducible refine Keep.snd (by with_reducible assumption) ?_))

theorem State.completeAll_keep {M : Nat} {z0 : State} (hM : M &&& 0x2E3F58 = 0x2E3F58) (s : State) (hk : Keep M z0 s) : Keep M z0 (State.completeAll s) := by
  refine hk.trans ?_
  have m0 : M &&& 0x2E3F58 = 0x2E3F58 := Keep.sub hM rfl
  unfold State.completeAll
  try dsimp only
  repeat' (first | (with_reducible exact Keep.refl _ _) | (with_reducible assumption) | (with_reducible apply State.completeIfDone_keep m0) | (with_reducible apply Keep.foldl) | (with_reducible apply Keep.foldl2) | (with_reducible apply Keep.foldl3) | (intro) | dsimp only)

theorem State.countWritten_keep {M : Nat} {z0 : State} (hM : M &&& 0x2E3F58 = 0x2E3F58) (ts w step : U32) (s : State) (hk : Keep M z0 s) : Keep M z0 (State.countWritten ts w step s) := by
  refine hk.trans ?_
  have m0 : M &&& 0x2E3F58 = 0x2E3F58 := Keep.sub hM rfl
  have b_upd : M.testBit 6 = true := Keep.bit hM rfl
  unfold State.countWritten
  try dsimp only
  repeat' (first | (with_reducible exact Keep.refl _ _) | (fail_if_no_progress (with_reducible apply Keep.upd_upd b_upd)) | (with_reducible apply State.completeIfDone_keep m0) | (with_reducible apply Keep.ite) | split)

theorem State.handOff_keep {M : Nat} {z0 : State} (hM : M &&& 0xC1C00 = 0xC1C00) (e : TensorEntry) (d : DispWin) (s : State) (hk : Keep M z0 s) : Keep M z0 (State.handOff e d s).2 := by
  refine hk.trans ?_
  have m0 : M &&& 0xC1C00 = 0xC1C00 := Keep.sub hM rfl
  unfold State.handOff
  try dsimp only
  repeat' (first | (with_reducible exact Keep.refl _ _) | (with_reducible apply State.sendReplayG_keep m0) | (with_reducible apply Keep.ite) | split | dsimp only)

theorem State.handOverNow_keep {M : Nat} {z0 : State} (hM : M &&& 0x2EBF58 = 0x2EBF58) (d : DispWin) (s : State) (hk : Keep M z0 s) : Keep M z0 (State.handOverNow d s) := by
  refine hk.trans ?_
  have m0 : M &&& 0xC1C00 = 0xC1C00 := Keep.sub hM rfl
  have m1 : M &&& 0x2E3F58 = 0x2E3F58 := Keep.sub hM rfl
  have m2 : M &&& 0x40 = 0x40 := Keep.sub hM rfl
  have b_job : M.testBit 15 = true := Keep.bit hM rfl
  unfold State.handOverNow
  try dsimp only
  repeat' (first | (with_reducible exact Keep.refl _ _) | (fail_if_no_progress (with_reducible apply Keep.upd_job b_job)) | (with_reducible apply State.handOff_keep m0) | (with_reducible apply State.countWritten_keep m1) | (with_reducible apply State.admitWin_keep m1) | (with_reducible apply State.setEntry_keep m2) | (with_reducible apply Keep.ite) | split | dsimp only | (with_reducible refine Keep.snd (by with_reducible assumption) ?_))

theorem State.handOver_keep {M : Nat} {z0 : State} (hM : M &&& 0x2EBF58 = 0x2EBF58) (d : DispWin) (s : State) (hk : Keep M z0 s) : Keep M z0 (State.handOver d s) := by
  refine hk.trans ?_
  have m0 : M &&& 0x2EBF58 = 0x2EBF58 := Keep.sub hM rfl
  have b_upd : M.testBit 6 = true := Keep.bit hM rfl
  unfold State.handOver
  try dsimp only
  repeat' (first | (with_reducible exact Keep.refl _ _) | (fail_if_no_progress (with_reducible apply Keep.upd_upd b_upd)) | (with_reducible apply State.handOverNow_keep m0) | (with_reducible apply Keep.ite) | split)

theorem State.sendScalar_keep {M : Nat} {z0 : State} (hM : M &&& 0xC0C00 = 0xC0C00) (dst : U32) (slot op : U8) (step seg : U32) (v : ScalarVal) (down : Bool) (s : State) (hk : Keep M z0 s) : Keep M z0 (State.sendScalar dst slot op step seg v down s) := by
  refine hk.trans ?_
  have m0 : M &&& 0xC0C00 = 0xC0C00 := Keep.sub hM rfl
  unfold State.sendScalar
  try dsimp only
  repeat' (first | (with_reducible exact Keep.refl _ _) | (with_reducible apply State.sendTrans_keep m0))

theorem State.setRed_keep {M : Nat} {z0 : State} (hM : M &&& 0x20 = 0x20) (r : ScalarRed) (s : State) (hk : Keep M z0 s) : Keep M z0 (State.setRed r s) := by
  refine hk.trans ?_
  have b_red : M.testBit 5 = true := Keep.bit hM rfl
  unfold State.setRed
  try dsimp only
  repeat' (first | (with_reducible exact Keep.refl _ _) | (with_reducible assumption) | (fail_if_no_progress (with_reducible apply Keep.upd_red b_red)) | dsimp only)

theorem State.skipShard_keep {M : Nat} {z0 : State} (hM : M &&& 0x2E3F58 = 0x2E3F58) (e : TensorEntry) (step : U32) (s : State) (hk : Keep M z0 s) : Keep M z0 (State.skipShard e step s) := by
  refine hk.trans ?_
  have m0 : M &&& 0x2E3F58 = 0x2E3F58 := Keep.sub hM rfl
  have m1 : M &&& 0xC1C00 = 0xC1C00 := Keep.sub hM rfl
  have b_upd : M.testBit 6 = true := Keep.bit hM rfl
  unfold State.skipShard
  try dsimp only
  repeat' (first | (with_reducible exact Keep.refl _ _) | (with_reducible assumption) | (fail_if_no_progress (with_reducible apply Keep.upd_upd b_upd)) | (with_reducible apply State.completeShard_keep m0) | (with_reducible apply State.sendRecord_keep m1) | (with_reducible apply Keep.ite) | split | dsimp only)

theorem State.heldSkip_keep {M : Nat} {z0 : State} (hM : M &&& 0x2E3F58 = 0x2E3F58) (step : U32) (s : State) (hk : Keep M z0 s) : Keep M z0 (State.heldSkip step s) := by
  refine hk.trans ?_
  have m0 : M &&& 0x2E3F58 = 0x2E3F58 := Keep.sub hM rfl
  have m1 : M &&& 0xC0000 = 0xC0000 := Keep.sub hM rfl
  have b_upd : M.testBit 6 = true := Keep.bit hM rfl
  unfold State.heldSkip
  try dsimp only
  repeat' (first | (with_reducible exact Keep.refl _ _) | (with_reducible assumption) | (fail_if_no_progress (with_reducible apply Keep.upd_upd b_upd)) | (with_reducible apply State.skipShard_keep m0) | (with_reducible apply State.record_keep m1) | (with_reducible apply Keep.foldl) | (with_reducible apply Keep.foldl2) | (with_reducible apply Keep.foldl3) | (intro) | (with_reducible apply Keep.ite) | split | dsimp only)

theorem State.deliverScalar_keep {M : Nat} {z0 : State} (hM : M &&& 0x2E3F78 = 0x2E3F78) (slot op : U8) (step : U32) (v : ScalarVal) (s : State) (hk : Keep M z0 s) : Keep M z0 (State.deliverScalar slot op step v s) := by
  refine hk.trans ?_
  have m0 : M &&& 0x2E3F58 = 0x2E3F58 := Keep.sub hM rfl
  have m1 : M &&& 0x80000 = 0x80000 := Keep.sub hM rfl
  have b_red : M.testBit 5 = true := Keep.bit hM rfl
  unfold State.deliverScalar
  try dsimp only
  repeat' (first | (with_reducible exact Keep.refl _ _) | (with_reducible assumption) | (fail_if_no_progress (with_reducible apply Keep.upd_red b_red)) | (with_reducible apply State.heldSkip_keep m0) | (with_reducible apply State.stepIrq_keep m1) | (with_reducible apply Keep.ite) | split | dsimp only)

theorem State.sendDown_keep {M : Nat} {z0 : State} (hM : M &&& 0xC0C00 = 0xC0C00) (slot op : U8) (step seg : U32) (v : ScalarVal) (s : State) (hk : Keep M z0 s) : Keep M z0 (State.sendDown slot op step seg v s) := by
  refine hk.trans ?_
  have m0 : M &&& 0xC0C00 = 0xC0C00 := Keep.sub hM rfl
  unfold State.sendDown
  try dsimp only
  repeat' (first | (with_reducible exact Keep.refl _ _) | (with_reducible assumption) | (with_reducible apply State.sendScalar_keep m0) | (with_reducible apply Keep.foldl) | (with_reducible apply Keep.foldl2) | (with_reducible apply Keep.foldl3) | (intro) | dsimp only)

theorem State.installAnchors_keep {M : Nat} {z0 : State} (hM : M &&& 0x48060 = 0x48060) (step : U32) (s : State) (hk : Keep M z0 s) : Keep M z0 (State.installAnchors step s) := by
  refine hk.trans ?_
  have m0 : M &&& 0x40000 = 0x40000 := Keep.sub hM rfl
  have b_job : M.testBit 15 = true := Keep.bit hM rfl
  have b_red : M.testBit 5 = true := Keep.bit hM rfl
  have b_upd : M.testBit 6 = true := Keep.bit hM rfl
  unfold State.installAnchors
  try dsimp only
  repeat' (first | (with_reducible exact Keep.refl _ _) | (with_reducible assumption) | (fail_if_no_progress (with_reducible apply Keep.upd_job b_job)) | (fail_if_no_progress (with_reducible apply Keep.upd_red b_red)) | (fail_if_no_progress (with_reducible apply Keep.upd_upd b_upd)) | (fail_if_no_progress ((with_reducible refine Keep.updAll ?_ ?_ ?_ ?_ ?_ ?_ ?_ ?_ ?_ ?_ ?_ ?_ ?_ ?_ ?_ ?_ ?_ ?_ ?_ ?_ ?_ ?_ ?_ ?_ ?_ ?_); iterate 25 (first | (with_reducible rfl) | (with_reducible exact fun _ => rfl) | (exact fun b => absurd (b.symm.trans (Keep.bit hM rfl)) (by decide))))) | (with_reducible apply State.countBytes_keep m0) | (with_reducible apply Keep.ite) | split | dsimp only)

theorem State.takeSegment_keep {M : Nat} {z0 : State} (hM : M &&& 0x48060 = 0x48060) (step seg : U32) (v : ScalarVal) (s : State) (hk : Keep M z0 s) : Keep M z0 (State.takeSegment step seg v s) := by
  refine hk.trans ?_
  have m0 : M &&& 0x48060 = 0x48060 := Keep.sub hM rfl
  have b_red : M.testBit 5 = true := Keep.bit hM rfl
  unfold State.takeSegment
  try dsimp only
  repeat' (first | (with_reducible exact Keep.refl _ _) | (with_reducible assumption) | (fail_if_no_progress (with_reducible apply Keep.upd_red b_red)) | (with_reducible apply State.installAnchors_keep m0) | (with_reducible apply Keep.ite) | split | dsimp only)

theorem State.commitStep_keep {M : Nat} {z0 : State} (hM : M &&& 0xC8170 = 0xC8170) (step : U32) (s : State) (hk : Keep M z0 s) : Keep M z0 (State.commitStep step s) := by
  refine hk.trans ?_
  have m0 : M &&& 0x48060 = 0x48060 := Keep.sub hM rfl
  have m1 : M &&& 0xC0100 = 0xC0100 := Keep.sub hM rfl
  have b_fence : M.testBit 4 = true := Keep.bit hM rfl
  unfold State.commitStep
  try dsimp only
  repeat' (first | (with_reducible exact Keep.refl _ _) | (with_reducible assumption) | (fail_if_no_progress (with_reducible apply Keep.upd_fence b_fence)) | (with_reducible apply State.installAnchors_keep m0) | (with_reducible apply State.closePasses_keep m1) | dsimp only)

theorem State.rootCommit_keep {M : Nat} {z0 : State} (hM : M &&& 0xC8D70 = 0xC8D70) (step : U32) (s : State) (hk : Keep M z0 s) : Keep M z0 (State.rootCommit step s) := by
  refine hk.trans ?_
  have m0 : M &&& 0xC8170 = 0xC8170 := Keep.sub hM rfl
  have m1 : M &&& 0x48060 = 0x48060 := Keep.sub hM rfl
  have m2 : M &&& 0xC0C00 = 0xC0C00 := Keep.sub hM rfl
  have b_fence : M.testBit 4 = true := Keep.bit hM rfl
  have b_red : M.testBit 5 = true := Keep.bit hM rfl
  unfold State.rootCommit
  try dsimp only
  repeat' (first | (with_reducible exact Keep.refl _ _) | (with_reducible assumption) | (fail_if_no_progress (with_reducible apply Keep.upd_fence b_fence)) | (fail_if_no_progress (with_reducible apply Keep.upd_red b_red)) | (fail_if_no_progress ((with_reducible refine Keep.updAll ?_ ?_ ?_ ?_ ?_ ?_ ?_ ?_ ?_ ?_ ?_ ?_ ?_ ?_ ?_ ?_ ?_ ?_ ?_ ?_ ?_ ?_ ?_ ?_ ?_ ?_); iterate 25 (first | (with_reducible rfl) | (with_reducible exact fun _ => rfl) | (exact fun b => absurd (b.symm.trans (Keep.bit hM rfl)) (by decide))))) | (with_reducible apply State.commitStep_keep m0) | (with_reducible apply State.takeSegment_keep m1) | (with_reducible apply State.sendDown_keep m2) | (with_reducible apply State.fenceDown_keep m2) | (with_reducible apply Keep.foldl) | (with_reducible apply Keep.foldl2) | (with_reducible apply Keep.foldl3) | (intro) | (with_reducible apply Keep.ite) | split | dsimp only)

theorem State.maxvUp_keep {M : Nat} {z0 : State} (hM : M &&& 0xC0C20 = 0xC0C20) (step : U32) (q : Nat) (s : State) (hk : Keep M z0 s) : Keep M z0 (State.maxvUp step q s) := by
  refine hk.trans ?_
  have m0 : M &&& 0x20 = 0x20 := Keep.sub hM rfl
  have m1 : M &&& 0xC0C00 = 0xC0C00 := Keep.sub hM rfl
  unfold State.maxvUp
  try dsimp only
  repeat' (first | (with_reducible exact Keep.refl _ _) | (with_reducible apply State.setRed_keep m0) | (with_reducible apply State.sendScalar_keep m1) | (with_reducible apply Keep.ite) | split | (with_reducible refine Keep.snd (by with_reducible assumption) ?_))

theorem State.sendMaxv_keep {M : Nat} {z0 : State} (hM : M &&& 0xC0C20 = 0xC0C20) (step : U32) (s : State) (hk : Keep M z0 s) : Keep M z0 (State.sendMaxv step s) := by
  refine hk.trans ?_
  have m0 : M &&& 0xC0C20 = 0xC0C20 := Keep.sub hM rfl
  have m1 : M &&& 0x20 = 0x20 := Keep.sub hM rfl
  unfold State.sendMaxv
  try dsimp only
  repeat' (first | (with_reducible exact Keep.refl _ _) | (with_reducible assumption) | (with_reducible apply State.maxvUp_keep m0) | (with_reducible apply State.setRed_keep m1) | (with_reducible apply Keep.foldl) | (with_reducible apply Keep.foldl2) | (with_reducible apply Keep.foldl3) | (intro) | dsimp only)

theorem State.setWindow_keep {M : Nat} {z0 : State} (hM : M &&& 0x20 = 0x20) (x : Window) (s : State) (hk : Keep M z0 s) : Keep M z0 (State.setWindow x s) := by
  refine hk.trans ?_
  have b_red : M.testBit 5 = true := Keep.bit hM rfl
  unfold State.setWindow
  try dsimp only
  repeat' (first | (with_reducible exact Keep.refl _ _) | (with_reducible assumption) | (fail_if_no_progress (with_reducible apply Keep.upd_red b_red)) | (with_reducible apply Keep.ite) | split | dsimp only)

theorem State.dropWindow_keep {M : Nat} {z0 : State} (hM : M &&& 0x20 = 0x20) (x : Window) (s : State) (hk : Keep M z0 s) : Keep M z0 (State.dropWindow x s) := by
  refine hk.trans ?_
  have b_red : M.testBit 5 = true := Keep.bit hM rfl
  unfold State.dropWindow
  try dsimp only
  repeat' (first | (with_reducible exact Keep.refl _ _) | (with_reducible assumption) | (fail_if_no_progress (with_reducible apply Keep.upd_red b_red)) | dsimp only)

theorem State.setRaised_keep {M : Nat} {z0 : State} (hM : M &&& 0x20 = 0x20) (ts w step : U32) (a : Int) (s : State) (hk : Keep M z0 s) : Keep M z0 (State.setRaised ts w step a s) := by
  refine hk.trans ?_
  have b_red : M.testBit 5 = true := Keep.bit hM rfl
  unfold State.setRaised
  try dsimp only
  repeat' (first | (with_reducible exact Keep.refl _ _) | (with_reducible assumption) | (fail_if_no_progress (with_reducible apply Keep.upd_red b_red)) | dsimp only)

theorem State.countPark_keep {M : Nat} {z0 : State} (hM : M &&& 0x40020 = 0x40020) (n : Nat) (write : Bool) (s : State) (hk : Keep M z0 s) : Keep M z0 (State.countPark n write s) := by
  refine hk.trans ?_
  have m0 : M &&& 0x40000 = 0x40000 := Keep.sub hM rfl
  have b_red : M.testBit 5 = true := Keep.bit hM rfl
  unfold State.countPark
  try dsimp only
  repeat' (first | (with_reducible exact Keep.refl _ _) | (fail_if_no_progress (with_reducible apply Keep.upd_red b_red)) | (with_reducible apply State.countBytes_keep m0) | (with_reducible apply Keep.ite) | split)

theorem State.parkWrite_keep {M : Nat} {z0 : State} (hM : M &&& 0x200 = 0x200) (place n : Nat) (s : State) (hk : Keep M z0 s) : Keep M z0 (State.parkWrite place n s) := by
  refine hk.trans ?_
  have b_mem : M.testBit 9 = true := Keep.bit hM rfl
  unfold State.parkWrite
  try dsimp only
  repeat' (first | (with_reducible exact Keep.refl _ _) | (fail_if_no_progress ((with_reducible refine Keep.upd_memHL b_mem ?_ ?_ ?_); (with_reducible rfl); (with_reducible rfl))) | (with_reducible refine Keep.upd_mem b_mem (MemState.ok_heal ..) ?_) | split | (with_reducible refine Keep.snd (by with_reducible assumption) ?_))

theorem State.parkRead_keep {M : Nat} {z0 : State} (hM : M &&& 0x2E3248 = 0x2E3248) (place n : Nat) (s : State) (hk : Keep M z0 s) : Keep M z0 (State.parkRead place n s).2 := by
  refine hk.trans ?_
  have m0 : M &&& 0x2E3248 = 0x2E3248 := Keep.sub hM rfl
  unfold State.parkRead
  try dsimp only
  repeat' (first | (with_reducible exact Keep.refl _ _) | (with_reducible assumption) | (with_reducible apply State.readRange_keep m0) | split | dsimp only | (with_reducible refine Keep.snd (by with_reducible assumption) ?_))

theorem State.park_keep {M : Nat} {z0 : State} (hM : M &&& 0x40220 = 0x40220) (x : Window) (s : State) (hk : Keep M z0 s) : Keep M z0 (State.park x s) := by
  refine hk.trans ?_
  have m0 : M &&& 0x200 = 0x200 := Keep.sub hM rfl
  have m1 : M &&& 0x40020 = 0x40020 := Keep.sub hM rfl
  have m2 : M &&& 0x20 = 0x20 := Keep.sub hM rfl
  have b_red : M.testBit 5 = true := Keep.bit hM rfl
  unfold State.park
  try dsimp only
  repeat' (first | (with_reducible exact Keep.refl _ _) | (fail_if_no_progress (with_reducible apply Keep.upd_red b_red)) | (with_reducible apply State.parkWrite_keep m0) | (with_reducible apply State.countPark_keep m1) | (with_reducible apply State.dropWindow_keep m2))

theorem State.makeRoom_keep {M : Nat} {z0 t : State} (hM : M &&& 0x40220 = 0x40220) {step : U32} {s : State} (e : s.makeRoom step = some t) (hk : Keep M z0 s) : Keep M z0 t := by
  refine hk.trans ?_
  unfold State.makeRoom at e
  split at e
  · cases e; exact Keep.refl _ _
  · split at e
    · cases e
    · split at e
      · cases e; exact State.park_keep (Keep.sub hM rfl) _ _ (Keep.refl _ s)
      · cases e

theorem State.readParked_keep {M : Nat} {z0 : State} (hM : M &&& 0x2E3268 = 0x2E3268) (p : Parked) (s : State) (hk : Keep M z0 s) : Keep M z0 (State.readParked p s).2 := by
  refine hk.trans ?_
  have m0 : M &&& 0x2E3248 = 0x2E3248 := Keep.sub hM rfl
  have m1 : M &&& 0x40020 = 0x40020 := Keep.sub hM rfl
  have b_red : M.testBit 5 = true := Keep.bit hM rfl
  unfold State.readParked
  try dsimp only
  repeat' (first | (with_reducible exact Keep.refl _ _) | (with_reducible assumption) | (fail_if_no_progress (with_reducible apply Keep.upd_red b_red)) | (with_reducible apply State.parkRead_keep m0) | (with_reducible apply State.countPark_keep m1) | (with_reducible apply Keep.foldl) | (with_reducible apply Keep.foldl2) | (with_reducible apply Keep.foldl3) | (intro) | split | dsimp only | (with_reducible refine Keep.snd (by with_reducible assumption) ?_))

theorem State.unpark_keep {M : Nat} {z0 t : State} (hM : M &&& 0x2E3268 = 0x2E3268) {p : Parked} {s : State} {w : Window} (e : s.unpark p = some (w, t)) (hk : Keep M z0 s) : Keep M z0 t := by
  refine hk.trans ?_
  have b_red : M.testBit 5 = true := Keep.bit hM rfl
  unfold State.unpark at e
  split at e
  · cases e
  · next x hx =>
    split at e
    next y u hy =>
    cases e
    exact Keep.upd_red b_red (Keep.snd hy (State.readParked_keep (Keep.sub hM rfl) _ _ (State.makeRoom_keep (Keep.sub hM rfl) hx (Keep.refl _ s))))

theorem State.sizeArrived_keep {M : Nat} {z0 : State} (hM : M &&& 0x2EBF78 = 0x2EBF78) (step : U32) (s : State) (hk : Keep M z0 s) : Keep M z0 (State.sizeArrived step s) := by
  refine hk.trans ?_
  have m0 : M &&& 0x2E3268 = 0x2E3268 := Keep.sub hM rfl
  have m1 : M &&& 0x2EBF58 = 0x2EBF58 := Keep.sub hM rfl
  have b_upd : M.testBit 6 = true := Keep.bit hM rfl
  have b_red : M.testBit 5 = true := Keep.bit hM rfl
  unfold State.sizeArrived
  try dsimp only
  repeat' (first | (with_reducible exact Keep.refl _ _) | (with_reducible assumption) | (fail_if_no_progress (with_reducible apply Keep.upd_red b_red)) | (fail_if_no_progress (with_reducible apply Keep.upd_upd b_upd)) | (fail_if_no_progress ((with_reducible refine Keep.updAll ?_ ?_ ?_ ?_ ?_ ?_ ?_ ?_ ?_ ?_ ?_ ?_ ?_ ?_ ?_ ?_ ?_ ?_ ?_ ?_ ?_ ?_ ?_ ?_ ?_ ?_); iterate 25 (first | (with_reducible rfl) | (with_reducible exact fun _ => rfl) | (exact fun b => absurd (b.symm.trans (Keep.bit hM rfl)) (by decide))))) | (with_reducible apply State.readParked_keep m0) | (with_reducible apply State.handOverNow_keep m1) | (with_reducible apply Keep.foldl) | (with_reducible apply Keep.foldl2) | (with_reducible apply Keep.foldl3) | (intro) | (with_reducible apply Keep.ite) | split | dsimp only | (with_reducible refine Keep.snd (by with_reducible assumption) ?_))

theorem State.ackPiece_keep {M : Nat} {z0 : State} (hM : M &&& 0xC0C00 = 0xC0C00) (step ts : U32) (x : U32 × U32 × U8 × U8) (s : State) (hk : Keep M z0 s) : Keep M z0 (State.ackPiece step ts x s) := by
  refine hk.trans ?_
  have m0 : M &&& 0xC0C00 = 0xC0C00 := Keep.sub hM rfl
  unfold State.ackPiece
  try dsimp only
  repeat' (first | (with_reducible exact Keep.refl _ _) | (with_reducible apply State.sendAck_keep m0))

theorem State.ackPieces_keep {M : Nat} {z0 : State} (hM : M &&& 0xC0C00 = 0xC0C00) (x : Window) (s : State) (hk : Keep M z0 s) : Keep M z0 (State.ackPieces x s) := by
  refine hk.trans ?_
  have m0 : M &&& 0xC0C00 = 0xC0C00 := Keep.sub hM rfl
  unfold State.ackPieces
  try dsimp only
  repeat' (first | (with_reducible exact Keep.refl _ _) | (with_reducible assumption) | (with_reducible apply State.ackPiece_keep m0) | (with_reducible apply Keep.foldl) | (with_reducible apply Keep.foldl2) | (with_reducible apply Keep.foldl3) | (intro) | dsimp only)

theorem State.expectResend_keep {M : Nat} {z0 : State} (hM : M &&& 0x400 = 0x400) (dst ts blk : U32) (req : Trans) (s : State) (hk : Keep M z0 s) : Keep M z0 (State.expectResend dst ts blk req s) := by
  refine hk.trans ?_
  have m0 : M &&& 0x400 = 0x400 := Keep.sub hM rfl
  unfold State.expectResend
  try dsimp only
  repeat' (first | (with_reducible exact Keep.refl _ _) | (with_reducible assumption) | (with_reducible apply State.setPort_keep m0) | split | dsimp only | (with_reducible refine Keep.snd (by with_reducible assumption) ?_))

theorem State.askResend_keep {M : Nat} {z0 : State} (hM : M &&& 0xC0C00 = 0xC0C00) (dst step ts blk : U32) (count : Nat) (reason : U8) (contrib : U32) (anchor : Int) (fmt : Nat) (s : State) (hk : Keep M z0 s) : Keep M z0 (State.askResend dst step ts blk count reason contrib anchor fmt s) := by
  refine hk.trans ?_
  have m0 : M &&& 0x400 = 0x400 := Keep.sub hM rfl
  have m1 : M &&& 0xC0C00 = 0xC0C00 := Keep.sub hM rfl
  unfold State.askResend
  try dsimp only
  repeat' (first | (with_reducible exact Keep.refl _ _) | (with_reducible apply State.expectResend_keep m0) | (with_reducible apply State.send_keep m1) | (with_reducible apply Keep.ite) | split)

theorem State.askPiece_keep {M : Nat} {z0 : State} (hM : M &&& 0xC0C00 = 0xC0C00) (h : Header) (reason : U8) (anchor : Int) (s : State) (hk : Keep M z0 s) : Keep M z0 (State.askPiece h reason anchor s) := by
  refine hk.trans ?_
  have m0 : M &&& 0xC0C00 = 0xC0C00 := Keep.sub hM rfl
  unfold State.askPiece
  try dsimp only
  repeat' (first | (with_reducible exact Keep.refl _ _) | (with_reducible apply State.askResend_keep m0))

theorem State.askWindow_keep {M : Nat} {z0 : State} (hM : M &&& 0xC0C00 = 0xC0C00) (r : TreeRec) (x : Window) (onlyOpen : Bool) (s : State) (hk : Keep M z0 s) : Keep M z0 (State.askWindow r x onlyOpen s) := by
  refine hk.trans ?_
  have m0 : M &&& 0xC0C00 = 0xC0C00 := Keep.sub hM rfl
  unfold State.askWindow
  try dsimp only
  repeat' (first | (with_reducible exact Keep.refl _ _) | (with_reducible assumption) | (with_reducible apply State.askResend_keep m0) | (with_reducible apply Keep.foldl) | (with_reducible apply Keep.foldl2) | (with_reducible apply Keep.foldl3) | (intro) | (with_reducible apply Keep.ite) | split | dsimp only)

theorem State.countComplete_keep {M : Nat} {z0 : State} (hM : M &&& 0x840020 = 0x840020) (x : Window) (s : State) (hk : Keep M z0 s) : Keep M z0 (State.countComplete x s) := by
  refine hk.trans ?_
  have m0 : M &&& 0x840000 = 0x840000 := Keep.sub hM rfl
  have b_red : M.testBit 5 = true := Keep.bit hM rfl
  unfold State.countComplete
  try dsimp only
  repeat' (first | (with_reducible exact Keep.refl _ _) | (fail_if_no_progress (with_reducible apply Keep.upd_red b_red)) | (with_reducible apply State.traceWindow_keep m0) | (with_reducible apply Keep.ite) | split)

theorem State.addSums_keep {M : Nat} {z0 : State} (hM : M &&& 0x20 = 0x20) (x : Window) (g : List U32) (s : State) (hk : Keep M z0 s) : Keep M z0 (State.addSums x g s) := by
  refine hk.trans ?_
  have b_red : M.testBit 5 = true := Keep.bit hM rfl
  unfold State.addSums
  try dsimp only
  repeat' (first | (with_reducible exact Keep.refl _ _) | (with_reducible assumption) | (fail_if_no_progress (with_reducible apply Keep.upd_red b_red)) | (with_reducible apply Keep.ite) | split | dsimp only | dsimp only [id])

theorem State.completeOwner_keep {M : Nat} {z0 : State} (hM : M &&& 0xAEBF78 = 0xAEBF78) (x : Window) (s : State) (hk : Keep M z0 s) : Keep M z0 (State.completeOwner x s) := by
  refine hk.trans ?_
  have m0 : M &&& 0x20 = 0x20 := Keep.sub hM rfl
  have m1 : M &&& 0x840020 = 0x840020 := Keep.sub hM rfl
  have m2 : M &&& 0xC0C00 = 0xC0C00 := Keep.sub hM rfl
  have m3 : M &&& 0x2EBF58 = 0x2EBF58 := Keep.sub hM rfl
  have m4 : M &&& 0xC0000 = 0xC0000 := Keep.sub hM rfl
  have b_chk : M.testBit 3 = true := Keep.bit hM rfl
  have b_red : M.testBit 5 = true := Keep.bit hM rfl
  unfold State.completeOwner
  try dsimp only
  repeat' (first | (with_reducible exact Keep.refl _ _) | (with_reducible assumption) | (fail_if_no_progress (with_reducible apply Keep.upd_chk b_chk)) | (fail_if_no_progress (with_reducible apply Keep.upd_red b_red)) | (fail_if_no_progress ((with_reducible refine Keep.updAll ?_ ?_ ?_ ?_ ?_ ?_ ?_ ?_ ?_ ?_ ?_ ?_ ?_ ?_ ?_ ?_ ?_ ?_ ?_ ?_ ?_ ?_ ?_ ?_ ?_ ?_); iterate 25 (first | (with_reducible rfl) | (with_reducible exact fun _ => rfl) | (exact fun b => absurd (b.symm.trans (Keep.bit hM rfl)) (by decide))))) | (with_reducible apply State.addSums_keep m0) | (with_reducible apply State.countComplete_keep m1) | (with_reducible apply State.ackPieces_keep m2) | (with_reducible apply State.dropWindow_keep m0) | (with_reducible apply State.setWindow_keep m0) | (with_reducible apply State.handOver_keep m3) | (with_reducible apply State.record_keep m4) | (with_reducible apply Keep.ite) | split | dsimp only)

theorem State.sendOuts_keep {M : Nat} {z0 : State} (hM : M &&& 0xC0C00 = 0xC0C00) (bs : List Block) (s : State) (hk : Keep M z0 s) : Keep M z0 (State.sendOuts bs s) := by
  refine hk.trans ?_
  have m0 : M &&& 0xC0C00 = 0xC0C00 := Keep.sub hM rfl
  unfold State.sendOuts
  try dsimp only
  repeat' (first | (with_reducible exact Keep.refl _ _) | (with_reducible assumption) | (with_reducible apply State.send_keep m0) | (with_reducible apply Keep.foldl) | (with_reducible apply Keep.foldl2) | (with_reducible apply Keep.foldl3) | (intro) | dsimp only)

theorem State.completeInterior_keep {M : Nat} {z0 : State} (hM : M &&& 0x8C0E28 = 0x8C0E28) (r : TreeRec) (x : Window) (s : State) (hk : Keep M z0 s) : Keep M z0 (State.completeInterior r x s) := by
  refine hk.trans ?_
  have m0 : M &&& 0xC0C00 = 0xC0C00 := Keep.sub hM rfl
  have m1 : M &&& 0x840020 = 0x840020 := Keep.sub hM rfl
  have m2 : M &&& 0x200 = 0x200 := Keep.sub hM rfl
  have m3 : M &&& 0x40020 = 0x40020 := Keep.sub hM rfl
  have m4 : M &&& 0x20 = 0x20 := Keep.sub hM rfl
  have b_chk : M.testBit 3 = true := Keep.bit hM rfl
  have b_acc : M.testBit 19 = true := Keep.bit hM rfl
  have b_red : M.testBit 5 = true := Keep.bit hM rfl
  unfold State.completeInterior
  try dsimp only
  repeat' (first | (with_reducible exact Keep.refl _ _) | (with_reducible assumption) | (fail_if_no_progress (with_reducible apply Keep.upd_acc b_acc)) | (fail_if_no_progress (with_reducible apply Keep.upd_chk b_chk)) | (fail_if_no_progress (with_reducible apply Keep.upd_red b_red)) | (fail_if_no_progress ((with_reducible refine Keep.updAll ?_ ?_ ?_ ?_ ?_ ?_ ?_ ?_ ?_ ?_ ?_ ?_ ?_ ?_ ?_ ?_ ?_ ?_ ?_ ?_ ?_ ?_ ?_ ?_ ?_ ?_); iterate 25 (first | (with_reducible rfl) | (with_reducible exact fun _ => rfl) | (exact fun b => absurd (b.symm.trans (Keep.bit hM rfl)) (by decide))))) | (with_reducible apply State.sendOuts_keep m0) | (with_reducible apply State.countComplete_keep m1) | (with_reducible apply State.parkWrite_keep m2) | (with_reducible apply State.countPark_keep m3) | (with_reducible apply State.setWindow_keep m4) | (with_reducible apply Keep.foldl) | (with_reducible apply Keep.foldl2) | (with_reducible apply Keep.foldl3) | (intro) | split | dsimp only | (with_reducible refine Keep.snd (by with_reducible assumption) ?_))

theorem State.completeWindow_keep {M : Nat} {z0 : State} (hM : M &&& 0xAEBF78 = 0xAEBF78) (r : TreeRec) (x : Window) (s : State) (hk : Keep M z0 s) : Keep M z0 (State.completeWindow r x s) := by
  refine hk.trans ?_
  have m0 : M &&& 0x8C0E28 = 0x8C0E28 := Keep.sub hM rfl
  have m1 : M &&& 0xAEBF78 = 0xAEBF78 := Keep.sub hM rfl
  unfold State.completeWindow
  try dsimp only
  repeat' (first | (with_reducible exact Keep.refl _ _) | (with_reducible apply State.completeInterior_keep m0) | (with_reducible apply State.completeOwner_keep m1) | (with_reducible apply Keep.ite) | split)

theorem State.breachOwner_keep {M : Nat} {z0 : State} (hM : M &&& 0xAEBF78 = 0xAEBF78) (r : TreeRec) (x : Window) (s : State) (hk : Keep M z0 s) : Keep M z0 (State.breachOwner r x s) := by
  refine hk.trans ?_
  have m0 : M &&& 0xAEBF78 = 0xAEBF78 := Keep.sub hM rfl
  have m1 : M &&& 0xC0C00 = 0xC0C00 := Keep.sub hM rfl
  have m2 : M &&& 0x20 = 0x20 := Keep.sub hM rfl
  have m3 : M &&& 0xC0000 = 0xC0000 := Keep.sub hM rfl
  unfold State.breachOwner
  try dsimp only
  repeat' (first | (with_reducible exact Keep.refl _ _) | (with_reducible apply State.completeOwner_keep m0) | (with_reducible apply State.askWindow_keep m1) | (with_reducible apply State.setWindow_keep m2) | (with_reducible apply State.record_keep m3) | (with_reducible apply Keep.ite) | split)

theorem State.breachInterior_keep {M : Nat} {z0 : State} (hM : M &&& 0xC0C20 = 0xC0C20) (r : TreeRec) (x : Window) (s : State) (hk : Keep M z0 s) : Keep M z0 (State.breachInterior r x s) := by
  refine hk.trans ?_
  have m0 : M &&& 0xC0C00 = 0xC0C00 := Keep.sub hM rfl
  have m1 : M &&& 0x20 = 0x20 := Keep.sub hM rfl
  unfold State.breachInterior
  try dsimp only
  repeat' (first | (with_reducible exact Keep.refl _ _) | (with_reducible apply State.sendOuts_keep m0) | (with_reducible apply State.setWindow_keep m1))

theorem State.breach_keep {M : Nat} {z0 : State} (hM : M &&& 0xAEBF78 = 0xAEBF78) (r : TreeRec) (x : Window) (s : State) (hk : Keep M z0 s) : Keep M z0 (State.breach r x s) := by
  refine hk.trans ?_
  have m0 : M &&& 0xC0C20 = 0xC0C20 := Keep.sub hM rfl
  have m1 : M &&& 0xAEBF78 = 0xAEBF78 := Keep.sub hM rfl
  have m2 : M &&& 0x10 = 0x10 := Keep.sub hM rfl
  have b_red : M.testBit 5 = true := Keep.bit hM rfl
  unfold State.breach
  try dsimp only
  repeat' (first | (with_reducible exact Keep.refl _ _) | (fail_if_no_progress (with_reducible apply Keep.upd_red b_red)) | (with_reducible apply State.breachInterior_keep m0) | (with_reducible apply State.breachOwner_keep m1) | (with_reducible apply State.noteDiscarded_keep m2) | (with_reducible apply Keep.ite) | split)

theorem State.startPass_keep {M : Nat} {z0 : State} (hM : M &&& 0x100 = 0x100) (p : U8) (step : U32) (s : State) (hk : Keep M z0 s) : Keep M z0 (State.startPass p step s) := by
  refine hk.trans ?_
  have b_str : M.testBit 8 = true := Keep.bit hM rfl
  unfold State.startPass
  try dsimp only
  repeat' (first | (with_reducible exact Keep.refl _ _) | (fail_if_no_progress (with_reducible apply Keep.upd_str b_str)))

theorem State.startLatched_keep {M : Nat} {z0 : State} (hM : M &&& 0x100 = 0x100) (s : State) (hk : Keep M z0 s) : Keep M z0 (State.startLatched s) := by
  refine hk.trans ?_
  have m0 : M &&& 0x100 = 0x100 := Keep.sub hM rfl
  unfold State.startLatched
  try dsimp only
  repeat' (first | (with_reducible exact Keep.refl _ _) | (with_reducible assumption) | (with_reducible apply State.startPass_keep m0) | (with_reducible apply Keep.foldl) | (with_reducible apply Keep.foldl2) | (with_reducible apply Keep.foldl3) | (intro) | (with_reducible apply Keep.ite) | split | dsimp only)

theorem stepSizeWrite_keep {M : Nat} {z0 : State} (hM : M &&& 0x2EBF78 = 0x2EBF78) (v : U64) (s : State) (hk : Keep M z0 s) : Keep M z0 (stepSizeWrite v s) := by
  refine hk.trans ?_
  have m0 : M &&& 0x100 = 0x100 := Keep.sub hM rfl
  have m1 : M &&& 0x2EBF78 = 0x2EBF78 := Keep.sub hM rfl
  have m2 : M &&& 0xC0000 = 0xC0000 := Keep.sub hM rfl
  have b_upd : M.testBit 6 = true := Keep.bit hM rfl
  unfold stepSizeWrite
  try dsimp only
  repeat' (first | (with_reducible exact Keep.refl _ _) | (fail_if_no_progress (with_reducible apply Keep.upd_upd b_upd)) | (with_reducible apply State.startLatched_keep m0) | (with_reducible apply State.sizeArrived_keep m1) | (with_reducible apply State.record_keep m2) | split | (with_reducible refine Keep.snd (by with_reducible assumption) ?_))

theorem stepSizeLate_keep {M : Nat} {z0 : State} (hM : M &&& 0xC0040 = 0xC0040) (step : U32) (s : State) (hk : Keep M z0 s) : Keep M z0 (stepSizeLate step s) := by
  refine hk.trans ?_
  have m0 : M &&& 0xC0000 = 0xC0000 := Keep.sub hM rfl
  have b_upd : M.testBit 6 = true := Keep.bit hM rfl
  unfold stepSizeLate
  try dsimp only
  repeat' (first | (with_reducible exact Keep.refl _ _) | (fail_if_no_progress (with_reducible apply Keep.upd_upd b_upd)) | (with_reducible apply State.record_keep m0) | (with_reducible apply Keep.ite) | split)

theorem State.protectUntouched_keep {M : Nat} {z0 : State} (hM : M &&& 0x2000 = 0x2000) (s : State) (hk : Keep M z0 s) : Keep M z0 (State.protectUntouched s) := by
  refine hk.trans ?_
  have m0 : M &&& 0x2000 = 0x2000 := Keep.sub hM rfl
  unfold State.protectUntouched
  try dsimp only
  repeat' (first | (with_reducible exact Keep.refl _ _) | (with_reducible assumption) | (with_reducible apply State.protect_keep m0) | (with_reducible apply Keep.foldl) | (with_reducible apply Keep.foldl2) | (with_reducible apply Keep.foldl3) | (intro) | (with_reducible apply Keep.ite) | split | dsimp only)

theorem State.makePending_keep {M : Nat} {z0 : State} (hM : M &&& 0x2E3F58 = 0x2E3F58) (s : State) (hk : Keep M z0 s) : Keep M z0 (State.makePending s) := by
  refine hk.trans ?_
  have m0 : M &&& 0x2000 = 0x2000 := Keep.sub hM rfl
  have m1 : M &&& 0x2E3F58 = 0x2E3F58 := Keep.sub hM rfl
  have m2 : M &&& 0xC2F58 = 0xC2F58 := Keep.sub hM rfl
  have b_fence : M.testBit 4 = true := Keep.bit hM rfl
  unfold State.makePending
  try dsimp only
  repeat' (first | (with_reducible exact Keep.refl _ _) | (fail_if_no_progress (with_reducible apply Keep.upd_fence b_fence)) | (with_reducible apply State.protectUntouched_keep m0) | (with_reducible apply State.completeAll_keep m1) | (with_reducible apply State.failIfReported_keep m2))

theorem stepFenceWrite_keep {M : Nat} {z0 : State} (hM : M &&& 0x2E3F58 = 0x2E3F58) (v : U32) (s : State) (hk : Keep M z0 s) : Keep M z0 (stepFenceWrite v s) := by
  refine hk.trans ?_
  have m0 : M &&& 0x2E3F58 = 0x2E3F58 := Keep.sub hM rfl
  have m1 : M &&& 0xC0000 = 0xC0000 := Keep.sub hM rfl
  have b_fence : M.testBit 4 = true := Keep.bit hM rfl
  unfold stepFenceWrite
  try dsimp only
  repeat' (first | (with_reducible exact Keep.refl _ _) | (fail_if_no_progress (with_reducible apply Keep.upd_fence b_fence)) | (with_reducible apply State.makePending_keep m0) | (with_reducible apply State.record_keep m1) | (with_reducible apply Keep.ite) | split)

theorem fenceTimeout_keep {M : Nat} {z0 : State} (hM : M &&& 0xC2F58 = 0xC2F58) (s : State) (hk : Keep M z0 s) : Keep M z0 (fenceTimeout s) := by
  refine hk.trans ?_
  have m0 : M &&& 0xC2F58 = 0xC2F58 := Keep.sub hM rfl
  unfold fenceTimeout
  try dsimp only
  repeat' (first | (with_reducible exact Keep.refl _ _) | (with_reducible apply State.failStep_keep m0) | (with_reducible apply Keep.ite) | split)

theorem State.sealCuts_keep {M : Nat} {z0 : State} (hM : M &&& 0x3000 = 0x3000) (step : U32) (s : State) (hk : Keep M z0 s) : Keep M z0 (State.sealCuts step s) := by
  refine hk.trans ?_
  have m0 : M &&& 0x2000 = 0x2000 := Keep.sub hM rfl
  have b_adj : M.testBit 13 = true := Keep.bit hM rfl
  have b_part : M.testBit 12 = true := Keep.bit hM rfl
  unfold State.sealCuts
  try dsimp only
  repeat' (first | (with_reducible exact Keep.refl _ _) | (with_reducible assumption) | (fail_if_no_progress (with_reducible apply Keep.upd_adj b_adj)) | (fail_if_no_progress (with_reducible apply Keep.upd_part b_part)) | (fail_if_no_progress ((with_reducible refine Keep.updAll ?_ ?_ ?_ ?_ ?_ ?_ ?_ ?_ ?_ ?_ ?_ ?_ ?_ ?_ ?_ ?_ ?_ ?_ ?_ ?_ ?_ ?_ ?_ ?_ ?_ ?_); iterate 25 (first | (with_reducible rfl) | (with_reducible exact fun _ => rfl) | (exact fun b => absurd (b.symm.trans (Keep.bit hM rfl)) (by decide))))) | (with_reducible apply State.protect_keep m0) | (with_reducible apply Keep.ite) | split | dsimp only)

theorem State.sealPrune_keep {M : Nat} {z0 : State} (hM : M &&& 0x1050 = 0x1050) (step : U32) (s : State) (hk : Keep M z0 s) : Keep M z0 (State.sealPrune step s) := by
  refine hk.trans ?_
  have b_fence : M.testBit 4 = true := Keep.bit hM rfl
  have b_part : M.testBit 12 = true := Keep.bit hM rfl
  have b_upd : M.testBit 6 = true := Keep.bit hM rfl
  unfold State.sealPrune
  try dsimp only
  repeat' (first | (with_reducible exact Keep.refl _ _) | (with_reducible assumption) | (fail_if_no_progress (with_reducible apply Keep.upd_fence b_fence)) | (fail_if_no_progress (with_reducible apply Keep.upd_part b_part)) | (fail_if_no_progress (with_reducible apply Keep.upd_upd b_upd)) | (fail_if_no_progress ((with_reducible refine Keep.updAll ?_ ?_ ?_ ?_ ?_ ?_ ?_ ?_ ?_ ?_ ?_ ?_ ?_ ?_ ?_ ?_ ?_ ?_ ?_ ?_ ?_ ?_ ?_ ?_ ?_ ?_); iterate 25 (first | (with_reducible rfl) | (with_reducible exact fun _ => rfl) | (exact fun b => absurd (b.symm.trans (Keep.bit hM rfl)) (by decide))))) | dsimp only)

theorem State.seal_keep {M : Nat} {z0 : State} (hM : M &&& 0xAEBF78 = 0xAEBF78) (s : State) (hk : Keep M z0 s) : Keep M z0 (State.seal s) := by
  refine hk.trans ?_
  have m0 : M &&& 0x1050 = 0x1050 := Keep.sub hM rfl
  have m1 : M &&& 0x3000 = 0x3000 := Keep.sub hM rfl
  have m2 : M &&& 0x100 = 0x100 := Keep.sub hM rfl
  have m3 : M &&& 0xC0C20 = 0xC0C20 := Keep.sub hM rfl
  have m4 : M &&& 0xC8D70 = 0xC8D70 := Keep.sub hM rfl
  have m5 : M &&& 0x2E3F58 = 0x2E3F58 := Keep.sub hM rfl
  have m6 : M &&& 0x40 = 0x40 := Keep.sub hM rfl
  have m7 : M &&& 0xC1000 = 0xC1000 := Keep.sub hM rfl
  have m8 : M &&& 0x80000 = 0x80000 := Keep.sub hM rfl
  have m9 : M &&& 0x802000 = 0x802000 := Keep.sub hM rfl
  have m10 : M &&& 0xC0C00 = 0xC0C00 := Keep.sub hM rfl
  have m11 : M &&& 0xC2000 = 0xC2000 := Keep.sub hM rfl
  have m12 : M &&& 0x40000 = 0x40000 := Keep.sub hM rfl
  have b_fence : M.testBit 4 = true := Keep.bit hM rfl
  have b_upd : M.testBit 6 = true := Keep.bit hM rfl
  unfold State.seal
  try dsimp only
  repeat' (first | (with_reducible exact Keep.refl _ _) | (with_reducible assumption) | (fail_if_no_progress (with_reducible apply Keep.upd_fence b_fence)) | (fail_if_no_progress (with_reducible apply Keep.upd_upd b_upd)) | (fail_if_no_progress ((with_reducible refine Keep.updAll ?_ ?_ ?_ ?_ ?_ ?_ ?_ ?_ ?_ ?_ ?_ ?_ ?_ ?_ ?_ ?_ ?_ ?_ ?_ ?_ ?_ ?_ ?_ ?_ ?_ ?_); iterate 25 (first | (with_reducible rfl) | (with_reducible exact fun _ => rfl) | (exact fun b => absurd (b.symm.trans (Keep.bit hM rfl)) (by decide))))) | (with_reducible apply State.sealPrune_keep m0) | (with_reducible apply State.sealCuts_keep m1) | (with_reducible apply State.startLatched_keep m2) | (with_reducible apply State.sendMaxv_keep m3) | (with_reducible apply State.rootCommit_keep m4) | (with_reducible apply State.readmit_keep m5) | (with_reducible apply State.freeLatches_keep m6) | (with_reducible apply State.noteNoPartner_keep m7) | (with_reducible apply State.stepIrq_keep m8) | (with_reducible apply State.freePoints_keep m9) | (with_reducible apply State.fenceUp_keep m10) | (with_reducible apply State.noteBusy_keep m11) | (with_reducible apply State.countBytes_keep m12) | (with_reducible apply Keep.foldl) | (with_reducible apply Keep.foldl2) | (with_reducible apply Keep.foldl3) | (intro) | dsimp only)

theorem sealStep_keep {M : Nat} {z0 : State} (hM : M &&& 0xAEBF78 = 0xAEBF78) (s : State) (hk : Keep M z0 s) : Keep M z0 (sealStep s) := by
  refine hk.trans ?_
  have m0 : M &&& 0xAEBF78 = 0xAEBF78 := Keep.sub hM rfl
  have m1 : M &&& 0x2E3F58 = 0x2E3F58 := Keep.sub hM rfl
  unfold sealStep
  try dsimp only
  repeat' (first | (with_reducible exact Keep.refl _ _) | (with_reducible apply State.seal_keep m0) | (with_reducible apply State.completeAll_keep m1) | (with_reducible apply Keep.ite) | split)

theorem stepSealedReceive_keep {M : Nat} {z0 : State} (hM : M &&& 0xC8D70 = 0xC8D70) (pk : Trans) (s : State) (hk : Keep M z0 s) : Keep M z0 (stepSealedReceive pk s) := by
  refine hk.trans ?_
  have m0 : M &&& 0xC8D70 = 0xC8D70 := Keep.sub hM rfl
  have m1 : M &&& 0xC0C00 = 0xC0C00 := Keep.sub hM rfl
  have m2 : M &&& 0x800 = 0x800 := Keep.sub hM rfl
  have b_fence : M.testBit 4 = true := Keep.bit hM rfl
  unfold stepSealedReceive
  try dsimp only
  repeat' (first | (with_reducible exact Keep.refl _ _) | (fail_if_no_progress (with_reducible apply Keep.upd_fence b_fence)) | (with_reducible apply State.rootCommit_keep m0) | (with_reducible apply State.fenceUp_keep m1) | (with_reducible apply State.takePk_keep m2) | split | (with_reducible refine Keep.snd (by with_reducible assumption) ?_))

theorem stepFailedReceive_keep {M : Nat} {z0 : State} (hM : M &&& 0xC0C00 = 0xC0C00) (pk : Trans) (s : State) (hk : Keep M z0 s) : Keep M z0 (stepFailedReceive pk s) := by
  refine hk.trans ?_
  have m0 : M &&& 0xC0C00 = 0xC0C00 := Keep.sub hM rfl
  have m1 : M &&& 0x800 = 0x800 := Keep.sub hM rfl
  unfold stepFailedReceive
  try dsimp only
  repeat' (first | (with_reducible exact Keep.refl _ _) | (with_reducible apply State.fenceUp_keep m0) | (with_reducible apply State.takePk_keep m1))

theorem jobCommitReceive_keep {M : Nat} {z0 : State} (hM : M &&& 0xC8D70 = 0xC8D70) (pk : Trans) (s : State) (hk : Keep M z0 s) : Keep M z0 (jobCommitReceive pk s) := by
  refine hk.trans ?_
  have m0 : M &&& 0xC8170 = 0xC8170 := Keep.sub hM rfl
  have m1 : M &&& 0xC0C00 = 0xC0C00 := Keep.sub hM rfl
  have m2 : M &&& 0x800 = 0x800 := Keep.sub hM rfl
  have m3 : M &&& 0xC0000 = 0xC0000 := Keep.sub hM rfl
  have b_red : M.testBit 5 = true := Keep.bit hM rfl
  unfold jobCommitReceive
  try dsimp only
  repeat' (first | (with_reducible exact Keep.refl _ _) | (fail_if_no_progress (with_reducible apply Keep.upd_red b_red)) | (with_reducible apply State.commitStep_keep m0) | (with_reducible apply State.fenceDown_keep m1) | (with_reducible apply State.takePk_keep m2) | (with_reducible apply State.record_keep m3) | (with_reducible apply Keep.ite) | split)

theorem State.sendOpen_keep {M : Nat} {z0 : State} (hM : M &&& 0xC0C00 = 0xC0C00) (step size : U32) (cn : U32) (s : State) (hk : Keep M z0 s) : Keep M z0 (State.sendOpen step size cn s) := by
  refine hk.trans ?_
  have m0 : M &&& 0xC0C00 = 0xC0C00 := Keep.sub hM rfl
  unfold State.sendOpen
  try dsimp only
  repeat' (first | (with_reducible exact Keep.refl _ _) | (with_reducible assumption) | (with_reducible apply State.sendFence_keep m0) | (with_reducible apply Keep.foldl) | (with_reducible apply Keep.foldl2) | (with_reducible apply Keep.foldl3) | (intro) | dsimp only)

theorem stepOpenSend_keep {M : Nat} {z0 : State} (hM : M &&& 0xC0C20 = 0xC0C20) (s : State) (hk : Keep M z0 s) : Keep M z0 (stepOpenSend s) := by
  refine hk.trans ?_
  have m0 : M &&& 0xC0C00 = 0xC0C00 := Keep.sub hM rfl
  have b_red : M.testBit 5 = true := Keep.bit hM rfl
  unfold stepOpenSend
  try dsimp only
  repeat' (first | (with_reducible exact Keep.refl _ _) | (with_reducible assumption) | (fail_if_no_progress (with_reducible apply Keep.upd_red b_red)) | (with_reducible apply State.sendOpen_keep m0) | (with_reducible apply Keep.foldl) | (with_reducible apply Keep.foldl2) | (with_reducible apply Keep.foldl3) | (intro) | split | dsimp only | (with_reducible refine Keep.snd (by with_reducible assumption) ?_))

theorem anchorLate_keep {M : Nat} {z0 : State} (hM : M &&& 0xC0020 = 0xC0020) (step : U32) (s : State) (hk : Keep M z0 s) : Keep M z0 (anchorLate step s) := by
  refine hk.trans ?_
  have m0 : M &&& 0xC0000 = 0xC0000 := Keep.sub hM rfl
  have b_red : M.testBit 5 = true := Keep.bit hM rfl
  unfold anchorLate
  try dsimp only
  repeat' (first | (with_reducible exact Keep.refl _ _) | (fail_if_no_progress (with_reducible apply Keep.upd_red b_red)) | (with_reducible apply State.record_keep m0) | (with_reducible apply Keep.ite) | split)

theorem State.dropPiece_keep {M : Nat} {z0 : State} (hM : M &&& 0x10 = 0x10) (h : Header) (s : State) (hk : Keep M z0 s) : Keep M z0 (State.dropPiece h s) := by
  refine hk.trans ?_
  have m0 : M &&& 0x10 = 0x10 := Keep.sub hM rfl
  unfold State.dropPiece
  try dsimp only
  repeat' (first | (with_reducible exact Keep.refl _ _) | (with_reducible apply State.noteDiscarded_keep m0))

theorem State.putWindow_keep {M : Nat} {z0 : State} (hM : M &&& 0x20 = 0x20) (x : Window) (s : State) (hk : Keep M z0 s) : Keep M z0 (State.putWindow x s) := by
  refine hk.trans ?_
  have m0 : M &&& 0x20 = 0x20 := Keep.sub hM rfl
  have b_red : M.testBit 5 = true := Keep.bit hM rfl
  unfold State.putWindow
  try dsimp only
  repeat' (first | (with_reducible exact Keep.refl _ _) | (with_reducible assumption) | (fail_if_no_progress (with_reducible apply Keep.upd_red b_red)) | (with_reducible apply State.setWindow_keep m0) | (with_reducible apply Keep.ite) | split | dsimp only)

theorem State.dropDuplicate_keep {M : Nat} {z0 : State} (hM : M &&& 0x30 = 0x30) (h : Header) (s : State) (hk : Keep M z0 s) : Keep M z0 (State.dropDuplicate h s) := by
  refine hk.trans ?_
  have m0 : M &&& 0x10 = 0x10 := Keep.sub hM rfl
  have b_red : M.testBit 5 = true := Keep.bit hM rfl
  unfold State.dropDuplicate
  try dsimp only
  repeat' (first | (with_reducible exact Keep.refl _ _) | (fail_if_no_progress (with_reducible apply Keep.upd_red b_red)) | (with_reducible apply State.dropPiece_keep m0))

theorem State.badPiece_keep {M : Nat} {z0 : State} (hM : M &&& 0xC0020 = 0xC0020) (h : Header) (w : U32) (s : State) (hk : Keep M z0 s) : Keep M z0 (State.badPiece h w s) := by
  refine hk.trans ?_
  have m0 : M &&& 0xC0000 = 0xC0000 := Keep.sub hM rfl
  have b_red : M.testBit 5 = true := Keep.bit hM rfl
  unfold State.badPiece
  try dsimp only
  repeat' (first | (with_reducible exact Keep.refl _ _) | (fail_if_no_progress (with_reducible apply Keep.upd_red b_red)) | (with_reducible apply State.record_keep m0) | (with_reducible apply Keep.ite) | split)

theorem State.refuseFull_keep {M : Nat} {z0 : State} (hM : M &&& 0xC0C20 = 0xC0C20) (h : Header) (w : U32) (s : State) (hk : Keep M z0 s) : Keep M z0 (State.refuseFull h w s) := by
  refine hk.trans ?_
  have m0 : M &&& 0xC0C00 = 0xC0C00 := Keep.sub hM rfl
  have m1 : M &&& 0xC0000 = 0xC0000 := Keep.sub hM rfl
  have b_red : M.testBit 5 = true := Keep.bit hM rfl
  unfold State.refuseFull
  try dsimp only
  repeat' (first | (with_reducible exact Keep.refl _ _) | (fail_if_no_progress (with_reducible apply Keep.upd_red b_red)) | (with_reducible apply State.askPiece_keep m0) | (with_reducible apply State.record_keep m1) | (with_reducible apply Keep.ite) | split)

theorem State.anchorMismatch_keep {M : Nat} {z0 : State} (hM : M &&& 0xC0C30 = 0xC0C30) (h : Header) (w : U32) (a : Int) (s : State) (hk : Keep M z0 s) : Keep M z0 (State.anchorMismatch h w a s) := by
  refine hk.trans ?_
  have m0 : M &&& 0x10 = 0x10 := Keep.sub hM rfl
  have m1 : M &&& 0xC0C00 = 0xC0C00 := Keep.sub hM rfl
  have m2 : M &&& 0xC0000 = 0xC0000 := Keep.sub hM rfl
  have b_red : M.testBit 5 = true := Keep.bit hM rfl
  unfold State.anchorMismatch
  try dsimp only
  repeat' (first | (with_reducible exact Keep.refl _ _) | (with_reducible assumption) | (fail_if_no_progress (with_reducible apply Keep.upd_red b_red)) | (with_reducible apply State.dropPiece_keep m0) | (with_reducible apply State.askPiece_keep m1) | (with_reducible apply State.record_keep m2) | (with_reducible apply Keep.ite) | split | dsimp only)

theorem State.countPiece_keep {M : Nat} {z0 : State} (hM : M &&& 0x40030 = 0x40030) (h : Header) (k : PieceKind) (s : State) (hk : Keep M z0 s) : Keep M z0 (State.countPiece h k s) := by
  refine hk.trans ?_
  have m0 : M &&& 0x10 = 0x10 := Keep.sub hM rfl
  have m1 : M &&& 0x40000 = 0x40000 := Keep.sub hM rfl
  have b_red : M.testBit 5 = true := Keep.bit hM rfl
  unfold State.countPiece
  try dsimp only
  repeat' (first | (with_reducible exact Keep.refl _ _) | (fail_if_no_progress (with_reducible apply Keep.upd_red b_red)) | (with_reducible apply State.noteAccepted_keep m0) | (with_reducible apply State.countBytes_keep m1) | (with_reducible apply Keep.ite) | split)

theorem State.takeOpen_keep {M : Nat} {z0 : State} (hM : M &&& 0xAEBF78 = 0xAEBF78) (r : TreeRec) (b : Block) (k : PieceKind) (slot : Nat) (x : Window) (s : State) (hk : Keep M z0 s) : Keep M z0 (State.takeOpen r b k slot x s) := by
  refine hk.trans ?_
  have m0 : M &&& 0x40030 = 0x40030 := Keep.sub hM rfl
  have m1 : M &&& 0xAEBF78 = 0xAEBF78 := Keep.sub hM rfl
  have m2 : M &&& 0x20 = 0x20 := Keep.sub hM rfl
  unfold State.takeOpen
  try dsimp only
  repeat' (first | (with_reducible exact Keep.refl _ _) | (with_reducible apply State.countPiece_keep m0) | (with_reducible apply State.breach_keep m1) | (with_reducible apply State.completeWindow_keep m1) | (with_reducible apply State.setWindow_keep m2) | (with_reducible apply Keep.ite) | split)

theorem State.takeParked_keep {M : Nat} {z0 : State} (hM : M &&& 0xAEBF78 = 0xAEBF78) (r : TreeRec) (b : Block) (k : PieceKind) (slot : Nat) (p : Parked) (s : State) (hk : Keep M z0 s) : Keep M z0 (State.takeParked r b k slot p s) := by
  refine hk.trans ?_
  have m0 : M &&& 0xAEBF78 = 0xAEBF78 := Keep.sub hM rfl
  have m1 : M &&& 0x40030 = 0x40030 := Keep.sub hM rfl
  have m2 : M &&& 0xC0C20 = 0xC0C20 := Keep.sub hM rfl
  have m3 : M &&& 0x200 = 0x200 := Keep.sub hM rfl
  have m4 : M &&& 0x40020 = 0x40020 := Keep.sub hM rfl
  have b_red : M.testBit 5 = true := Keep.bit hM rfl
  unfold State.takeParked
  try dsimp only
  repeat' (first | (with_reducible exact Keep.refl _ _) | (with_reducible assumption) | (fail_if_no_progress (with_reducible apply Keep.upd_red b_red)) | (with_reducible apply State.takeOpen_keep m0) | (with_reducible apply State.countPiece_keep m1) | (with_reducible apply State.refuseFull_keep m2) | (with_reducible apply State.breach_keep m0) | (with_reducible apply State.completeWindow_keep m0) | (with_reducible apply State.parkWrite_keep m3) | (with_reducible apply State.countPark_keep m4) | (with_reducible refine State.unpark_keep (Keep.sub hM rfl) (by with_reducible assumption) ?_) | (with_reducible apply Keep.ite) | split | dsimp only | (with_reducible refine Keep.snd (by with_reducible assumption) ?_))

theorem State.takePiece_keep {M : Nat} {z0 : State} (hM : M &&& 0xAEBF78 = 0xAEBF78) (r : TreeRec) (b : Block) (k : PieceKind) (slot : Nat) (w : U32) (s : State) (hk : Keep M z0 s) : Keep M z0 (State.takePiece r b k slot w s) := by
  refine hk.trans ?_
  have m0 : M &&& 0xAEBF78 = 0xAEBF78 := Keep.sub hM rfl
  have m1 : M &&& 0xC0C20 = 0xC0C20 := Keep.sub hM rfl
  have b_red : M.testBit 5 = true := Keep.bit hM rfl
  unfold State.takePiece
  try dsimp only
  repeat' (first | (with_reducible exact Keep.refl _ _) | (fail_if_no_progress (with_reducible apply Keep.upd_red b_red)) | (with_reducible apply State.takeParked_keep m0) | (with_reducible apply State.takeOpen_keep m0) | (with_reducible apply State.refuseFull_keep m1) | (with_reducible refine State.makeRoom_keep (Keep.sub hM rfl) (by with_reducible assumption) ?_) | split | (with_reducible refine Keep.snd (by with_reducible assumption) ?_))

theorem State.pieceAnchor_keep {M : Nat} {z0 : State} (hM : M &&& 0xAEBF78 = 0xAEBF78) (r : TreeRec) (b : Block) (slot : Nat) (w : U32) (x : Option Window) (a : Int) (vs : List Fv) (s : State) (hk : Keep M z0 s) : Keep M z0 (State.pieceAnchor r b slot w x a vs s) := by
  refine hk.trans ?_
  have m0 : M &&& 0xAEBF78 = 0xAEBF78 := Keep.sub hM rfl
  have m1 : M &&& 0xC0C30 = 0xC0C30 := Keep.sub hM rfl
  unfold State.pieceAnchor
  try dsimp only
  repeat' (first | (with_reducible exact Keep.refl _ _) | (with_reducible apply State.takePiece_keep m0) | (with_reducible apply State.anchorMismatch_keep m1) | (with_reducible apply Keep.ite) | split | (with_reducible refine Keep.snd (by with_reducible assumption) ?_))

theorem State.pieceAtWindow_keep {M : Nat} {z0 : State} (hM : M &&& 0xAEBF78 = 0xAEBF78) (r : TreeRec) (b : Block) (slot : Nat) (w : U32) (s : State) (hk : Keep M z0 s) : Keep M z0 (State.pieceAtWindow r b slot w s) := by
  refine hk.trans ?_
  have m0 : M &&& 0xAEBF78 = 0xAEBF78 := Keep.sub hM rfl
  have m1 : M &&& 0xC0020 = 0xC0020 := Keep.sub hM rfl
  have m2 : M &&& 0x30 = 0x30 := Keep.sub hM rfl
  have m3 : M &&& 0x20 = 0x20 := Keep.sub hM rfl
  have m4 : M &&& 0x10 = 0x10 := Keep.sub hM rfl
  have m5 : M &&& 0xC0C00 = 0xC0C00 := Keep.sub hM rfl
  have b_red : M.testBit 5 = true := Keep.bit hM rfl
  unfold State.pieceAtWindow
  try dsimp only
  repeat' (first | (with_reducible exact Keep.refl _ _) | (fail_if_no_progress (with_reducible apply Keep.upd_red b_red)) | (with_reducible apply State.pieceAnchor_keep m0) | (with_reducible apply State.badPiece_keep m1) | (with_reducible apply State.dropDuplicate_keep m2) | (with_reducible apply State.putWindow_keep m3) | (with_reducible apply State.dropPiece_keep m4) | (with_reducible apply State.ackPiece_keep m5) | (with_reducible apply Keep.ite) | split | (with_reducible refine Keep.snd (by with_reducible assumption) ?_))

theorem State.answerAgent_keep {M : Nat} {z0 : State} (hM : M &&& 0x400 = 0x400) (port : Port) (h : Header) (w : U32) (s : State) (hk : Keep M z0 s) : Keep M z0 (State.answerAgent port h w s) := by
  refine hk.trans ?_
  have m0 : M &&& 0x400 = 0x400 := Keep.sub hM rfl
  unfold State.answerAgent
  try dsimp only
  repeat' (first | (with_reducible exact Keep.refl _ _) | (with_reducible assumption) | (with_reducible apply State.setPort_keep m0) | dsimp only)

theorem pieceArrival_keep {M : Nat} {z0 : State} (hM : M &&& 0xAEBF78 = 0xAEBF78) (port : Port) (b : Block) (s : State) (hk : Keep M z0 s) : Keep M z0 (pieceArrival port b s) := by
  refine hk.trans ?_
  have m0 : M &&& 0x400 = 0x400 := Keep.sub hM rfl
  have m1 : M &&& 0xAEBF78 = 0xAEBF78 := Keep.sub hM rfl
  have m2 : M &&& 0xC0020 = 0xC0020 := Keep.sub hM rfl
  have m3 : M &&& 0x30 = 0x30 := Keep.sub hM rfl
  have m4 : M &&& 0x10 = 0x10 := Keep.sub hM rfl
  have m5 : M &&& 0xC0C00 = 0xC0C00 := Keep.sub hM rfl
  have m6 : M &&& 0x800 = 0x800 := Keep.sub hM rfl
  have b_red : M.testBit 5 = true := Keep.bit hM rfl
  unfold pieceArrival
  try dsimp only
  repeat' (first | (with_reducible exact Keep.refl _ _) | (fail_if_no_progress (with_reducible apply Keep.upd_red b_red)) | (with_reducible apply State.answerAgent_keep m0) | (with_reducible apply State.pieceAtWindow_keep m1) | (with_reducible apply State.badPiece_keep m2) | (with_reducible apply State.dropDuplicate_keep m3) | (with_reducible apply State.dropPiece_keep m4) | (with_reducible apply State.askPiece_keep m5) | (with_reducible apply State.takePk_keep m6) | (with_reducible apply Keep.ite) | split | (with_reducible refine Keep.snd (by with_reducible assumption) ?_))

theorem windowUnpark_keep {M : Nat} {z0 : State} (hM : M &&& 0xAEBF78 = 0xAEBF78) (ts step w : U32) (s : State) (hk : Keep M z0 s) : Keep M z0 (windowUnpark ts step w s) := by
  refine hk.trans ?_
  have m0 : M &&& 0xAEBF78 = 0xAEBF78 := Keep.sub hM rfl
  unfold windowUnpark
  try dsimp only
  repeat' (first | (with_reducible exact Keep.refl _ _) | (with_reducible apply State.completeWindow_keep m0) | (with_reducible refine State.unpark_keep (Keep.sub hM rfl) (by with_reducible assumption) ?_) | (with_reducible apply Keep.ite) | split | (with_reducible refine Keep.snd (by with_reducible assumption) ?_))

theorem State.raiseWindow_keep {M : Nat} {z0 : State} (hM : M &&& 0x2E3E78 = 0x2E3E78) (r : TreeRec) (ts w step : U32) (a : Int) (s : State) (hk : Keep M z0 s) : Keep M z0 (State.raiseWindow r ts w step a s) := by
  refine hk.trans ?_
  have m0 : M &&& 0xC0C00 = 0xC0C00 := Keep.sub hM rfl
  have m1 : M &&& 0x2E3268 = 0x2E3268 := Keep.sub hM rfl
  have m2 : M &&& 0x20 = 0x20 := Keep.sub hM rfl
  have m3 : M &&& 0x10 = 0x10 := Keep.sub hM rfl
  unfold State.raiseWindow
  try dsimp only
  repeat' (first | (with_reducible exact Keep.refl _ _) | (with_reducible apply State.askWindow_keep m0) | (with_reducible apply State.readParked_keep m1) | (with_reducible apply State.setRaised_keep m2) | (with_reducible apply State.dropWindow_keep m2) | (with_reducible apply State.setWindow_keep m2) | (with_reducible apply State.noteDiscarded_keep m3) | (with_reducible apply Keep.ite) | split | dsimp only | (with_reducible refine Keep.snd (by with_reducible assumption) ?_))

theorem anchorResendReqReceive_keep {M : Nat} {z0 : State} (hM : M &&& 0x2E3E78 = 0x2E3E78) (pk : Trans) (s : State) (hk : Keep M z0 s) : Keep M z0 (anchorResendReqReceive pk s) := by
  refine hk.trans ?_
  have m0 : M &&& 0x2E3E78 = 0x2E3E78 := Keep.sub hM rfl
  have m1 : M &&& 0xC0C00 = 0xC0C00 := Keep.sub hM rfl
  have m2 : M &&& 0x800 = 0x800 := Keep.sub hM rfl
  unfold anchorResendReqReceive
  try dsimp only
  repeat' (first | (with_reducible exact Keep.refl _ _) | (with_reducible apply State.raiseWindow_keep m0) | (with_reducible apply State.askWindow_keep m1) | (with_reducible apply State.takePk_keep m2) | (with_reducible refine Keep.getD (fun t e => State.unpark_keep (Keep.sub hM rfl) e (Keep.refl _ _)) ?_) | (with_reducible apply Keep.ite) | split | (with_reducible refine Keep.snd (by with_reducible assumption) ?_))

theorem ackOutputs_keep {M : Nat} {z0 : State} (hM : M &&& 0xC0C20 = 0xC0C20) (pk : Trans) (x : Window) (s : State) (hk : Keep M z0 s) : Keep M z0 (ackOutputs pk x s) := by
  refine hk.trans ?_
  have m0 : M &&& 0xC0C00 = 0xC0C00 := Keep.sub hM rfl
  have m1 : M &&& 0x20 = 0x20 := Keep.sub hM rfl
  have b_red : M.testBit 5 = true := Keep.bit hM rfl
  unfold ackOutputs
  try dsimp only
  repeat' (first | (with_reducible exact Keep.refl _ _) | (with_reducible assumption) | (fail_if_no_progress (with_reducible apply Keep.upd_red b_red)) | (with_reducible apply State.ackPieces_keep m0) | (with_reducible apply State.dropWindow_keep m1) | (with_reducible apply State.setWindow_keep m1) | (with_reducible apply Keep.ite) | split | dsimp only)

theorem treeBlockAckReceive_keep {M : Nat} {z0 : State} (hM : M &&& 0xC0C20 = 0xC0C20) (pk : Trans) (s : State) (hk : Keep M z0 s) : Keep M z0 (treeBlockAckReceive pk s) := by
  refine hk.trans ?_
  have m0 : M &&& 0xC0C20 = 0xC0C20 := Keep.sub hM rfl
  have m1 : M &&& 0x800 = 0x800 := Keep.sub hM rfl
  unfold treeBlockAckReceive
  try dsimp only
  repeat' (first | (with_reducible exact Keep.refl _ _) | (with_reducible assumption) | (with_reducible apply ackOutputs_keep m0) | (with_reducible apply State.takePk_keep m1) | (with_reducible apply Keep.foldl) | (with_reducible apply Keep.foldl2) | (with_reducible apply Keep.foldl3) | (intro) | dsimp only)

theorem State.resendOut_keep {M : Nat} {z0 : State} (hM : M &&& 0xAEBF78 = 0xAEBF78) (b : Option Nat × Block) (s : State) (hk : Keep M z0 s) : Keep M z0 (State.resendOut b s) := by
  refine hk.trans ?_
  have m0 : M &&& 0xAEBF78 = 0xAEBF78 := Keep.sub hM rfl
  have m1 : M &&& 0x2E3248 = 0x2E3248 := Keep.sub hM rfl
  have m2 : M &&& 0x40020 = 0x40020 := Keep.sub hM rfl
  have m3 : M &&& 0xC0C00 = 0xC0C00 := Keep.sub hM rfl
  unfold State.resendOut
  try dsimp only
  repeat' (first | (with_reducible exact Keep.refl _ _) | (with_reducible apply State.seal_keep m0) | (with_reducible apply State.parkRead_keep m1) | (with_reducible apply State.countPark_keep m2) | (with_reducible apply State.send_keep m3) | split | dsimp only | (with_reducible refine Keep.snd (by with_reducible assumption) ?_))

theorem pieceResendReqReceive_keep {M : Nat} {z0 : State} (hM : M &&& 0xAEBF78 = 0xAEBF78) (pk : Trans) (s : State) (hk : Keep M z0 s) : Keep M z0 (pieceResendReqReceive pk s) := by
  refine hk.trans ?_
  have m0 : M &&& 0xAEBF78 = 0xAEBF78 := Keep.sub hM rfl
  have m1 : M &&& 0x800 = 0x800 := Keep.sub hM rfl
  unfold pieceResendReqReceive
  try dsimp only
  repeat' (first | (with_reducible exact Keep.refl _ _) | (with_reducible assumption) | (with_reducible apply State.resendOut_keep m0) | (with_reducible apply State.takePk_keep m1) | (with_reducible apply Keep.foldl) | (with_reducible apply Keep.foldl2) | (with_reducible apply Keep.foldl3) | (intro) | dsimp only)

theorem retentionResend_keep {M : Nat} {z0 : State} (hM : M &&& 0xAEBF78 = 0xAEBF78) (ts w : U32) (s : State) (hk : Keep M z0 s) : Keep M z0 (retentionResend ts w s) := by
  refine hk.trans ?_
  have m0 : M &&& 0xAEBF78 = 0xAEBF78 := Keep.sub hM rfl
  unfold retentionResend
  try dsimp only
  repeat' (first | (with_reducible exact Keep.refl _ _) | (with_reducible assumption) | (with_reducible apply State.resendOut_keep m0) | (with_reducible apply Keep.foldl) | (with_reducible apply Keep.foldl2) | (with_reducible apply Keep.foldl3) | (intro) | dsimp only)

theorem State.scalarRefused_keep {M : Nat} {z0 : State} (hM : M &&& 0xC0020 = 0xC0020) (src : Nat) (slot : U8) (step : U32) (epoch : U32) (cn : U32) (s : State) (hk : Keep M z0 s) : Keep M z0 (State.scalarRefused src slot step epoch cn s) := by
  refine hk.trans ?_
  have m0 : M &&& 0xC0000 = 0xC0000 := Keep.sub hM rfl
  have b_red : M.testBit 5 = true := Keep.bit hM rfl
  unfold State.scalarRefused
  try dsimp only
  repeat' (first | (with_reducible exact Keep.refl _ _) | (fail_if_no_progress (with_reducible apply Keep.upd_red b_red)) | (with_reducible apply State.record_keep m0))

theorem State.scalarUp_keep {M : Nat} {z0 : State} (hM : M &&& 0x2E3F78 = 0x2E3F78) (slot op : U8) (step : U32) (s : State) (hk : Keep M z0 s) : Keep M z0 (State.scalarUp slot op step s) := by
  refine hk.trans ?_
  have m0 : M &&& 0xC0C00 = 0xC0C00 := Keep.sub hM rfl
  have m1 : M &&& 0x2E3F78 = 0x2E3F78 := Keep.sub hM rfl
  have m2 : M &&& 0x20 = 0x20 := Keep.sub hM rfl
  unfold State.scalarUp
  try dsimp only
  repeat' (first | (with_reducible exact Keep.refl _ _) | (with_reducible apply State.sendDown_keep m0) | (with_reducible apply State.deliverScalar_keep m1) | (with_reducible apply State.setRed_keep m2) | (with_reducible apply State.sendScalar_keep m0) | (with_reducible apply Keep.ite) | split | (with_reducible refine Keep.snd (by with_reducible assumption) ?_))

theorem State.scalarTry_keep {M : Nat} {z0 : State} (hM : M &&& 0x2E3F78 = 0x2E3F78) (slot op : U8) (step : U32) (s : State) (hk : Keep M z0 s) : Keep M z0 (State.scalarTry slot op step s) := by
  refine hk.trans ?_
  have m0 : M &&& 0x2E3F78 = 0x2E3F78 := Keep.sub hM rfl
  have m1 : M &&& 0x20 = 0x20 := Keep.sub hM rfl
  unfold State.scalarTry
  try dsimp only
  repeat' (first | (with_reducible exact Keep.refl _ _) | (with_reducible apply State.scalarUp_keep m0) | (with_reducible apply State.setRed_keep m1) | (with_reducible apply Keep.ite) | split | (with_reducible refine Keep.snd (by with_reducible assumption) ?_))

theorem scalarFenceWrite_keep {M : Nat} {z0 : State} (hM : M &&& 0x2E3F78 = 0x2E3F78) (v : U64) (s : State) (hk : Keep M z0 s) : Keep M z0 (scalarFenceWrite v s) := by
  refine hk.trans ?_
  have m0 : M &&& 0x2E3F78 = 0x2E3F78 := Keep.sub hM rfl
  have m1 : M &&& 0xC0020 = 0xC0020 := Keep.sub hM rfl
  have m2 : M &&& 0x20 = 0x20 := Keep.sub hM rfl
  have b_red : M.testBit 5 = true := Keep.bit hM rfl
  unfold scalarFenceWrite
  try dsimp only
  repeat' (first | (with_reducible exact Keep.refl _ _) | (fail_if_no_progress (with_reducible apply Keep.upd_red b_red)) | (with_reducible apply State.scalarTry_keep m0) | (with_reducible apply State.scalarRefused_keep m1) | (with_reducible apply State.setRed_keep m2) | (with_reducible apply Keep.ite) | split)

theorem scalarSendUp_keep {M : Nat} {z0 : State} (hM : M &&& 0x2E3F78 = 0x2E3F78) (slot : U8) (s : State) (hk : Keep M z0 s) : Keep M z0 (scalarSendUp slot s) := by
  refine hk.trans ?_
  have m0 : M &&& 0x2E3F78 = 0x2E3F78 := Keep.sub hM rfl
  unfold scalarSendUp
  try dsimp only
  repeat' (first | (with_reducible exact Keep.refl _ _) | (with_reducible apply State.scalarTry_keep m0) | (with_reducible apply Keep.ite) | split)

theorem scalarReduceReceive_keep {M : Nat} {z0 : State} (hM : M &&& 0x2EBF78 = 0x2EBF78) (pk : Trans) (s : State) (hk : Keep M z0 s) : Keep M z0 (scalarReduceReceive pk s) := by
  refine hk.trans ?_
  have m0 : M &&& 0x2E3F78 = 0x2E3F78 := Keep.sub hM rfl
  have m1 : M &&& 0xC0020 = 0xC0020 := Keep.sub hM rfl
  have m2 : M &&& 0xC0C20 = 0xC0C20 := Keep.sub hM rfl
  have m3 : M &&& 0xC8D70 = 0xC8D70 := Keep.sub hM rfl
  have m4 : M &&& 0x48060 = 0x48060 := Keep.sub hM rfl
  have m5 : M &&& 0xC0C00 = 0xC0C00 := Keep.sub hM rfl
  have m6 : M &&& 0x20 = 0x20 := Keep.sub hM rfl
  have m7 : M &&& 0x800 = 0x800 := Keep.sub hM rfl
  unfold scalarReduceReceive
  try dsimp only
  repeat' (first | (with_reducible exact Keep.refl _ _) | (with_reducible apply State.scalarTry_keep m0) | (with_reducible apply State.scalarRefused_keep m1) | (with_reducible apply State.maxvUp_keep m2) | (with_reducible apply State.rootCommit_keep m3) | (with_reducible apply State.takeSegment_keep m4) | (with_reducible apply State.sendDown_keep m5) | (with_reducible apply State.deliverScalar_keep m0) | (with_reducible apply State.setRed_keep m6) | (with_reducible apply State.takePk_keep m7) | (with_reducible apply Keep.ite) | split)

theorem slotConfigWrite_keep {M : Nat} {z0 : State} (hM : M &&& 0xC0020 = 0xC0020) (bytes : List Byte) (s : State) (hk : Keep M z0 s) : Keep M z0 (slotConfigWrite bytes s) := by
  refine hk.trans ?_
  have m0 : M &&& 0xC0020 = 0xC0020 := Keep.sub hM rfl
  have b_red : M.testBit 5 = true := Keep.bit hM rfl
  unfold slotConfigWrite
  try dsimp only
  repeat' (first | (with_reducible exact Keep.refl _ _) | (with_reducible assumption) | (fail_if_no_progress (with_reducible apply Keep.upd_red b_red)) | (with_reducible apply State.scalarRefused_keep m0) | (with_reducible apply Keep.ite) | split | dsimp only)

theorem State.refuseTree_keep {M : Nat} {z0 : State} (hM : M &&& 0xC0020 = 0xC0020) (off : Nat) (s : State) (hk : Keep M z0 s) : Keep M z0 (State.refuseTree off s) := by
  refine hk.trans ?_
  have m0 : M &&& 0xC0000 = 0xC0000 := Keep.sub hM rfl
  have b_red : M.testBit 5 = true := Keep.bit hM rfl
  unfold State.refuseTree
  try dsimp only
  repeat' (first | (with_reducible exact Keep.refl _ _) | (fail_if_no_progress (with_reducible apply Keep.upd_red b_red)) | (with_reducible apply State.record_keep m0))

theorem treeTableWrite_keep {M : Nat} {z0 : State} (hM : M &&& 0xC0020 = 0xC0020) (bytes : List Byte) (s : State) (hk : Keep M z0 s) : Keep M z0 (treeTableWrite bytes s) := by
  refine hk.trans ?_
  have m0 : M &&& 0xC0020 = 0xC0020 := Keep.sub hM rfl
  have b_red : M.testBit 5 = true := Keep.bit hM rfl
  unfold treeTableWrite
  try dsimp only
  repeat' (first | (with_reducible exact Keep.refl _ _) | (fail_if_no_progress (with_reducible apply Keep.upd_red b_red)) | (with_reducible apply State.refuseTree_keep m0) | (with_reducible apply Keep.ite) | split | (with_reducible refine Keep.snd (by with_reducible assumption) ?_))

theorem heldSecondPass_keep {M : Nat} {z0 : State} (hM : M &&& 0x2E3F58 = 0x2E3F58) (ts w : U32) (s : State) (hk : Keep M z0 s) : Keep M z0 (heldSecondPass ts w s) := by
  refine hk.trans ?_
  have m0 : M &&& 0xC2F58 = 0xC2F58 := Keep.sub hM rfl
  have m1 : M &&& 0x2E3248 = 0x2E3248 := Keep.sub hM rfl
  have m2 : M &&& 0x40 = 0x40 := Keep.sub hM rfl
  have b_upd : M.testBit 6 = true := Keep.bit hM rfl
  unfold heldSecondPass
  try dsimp only
  repeat' (first | (with_reducible exact Keep.refl _ _) | (with_reducible assumption) | (fail_if_no_progress (with_reducible apply Keep.upd_upd b_upd)) | (with_reducible apply State.consumePoison_keep m0) | (with_reducible apply State.readHeld_keep m1) | (with_reducible apply State.setEntry_keep m2) | (with_reducible apply Keep.ite) | split | dsimp only | (with_reducible refine Keep.snd (by with_reducible assumption) ?_))

theorem State.readStream_keep {M : Nat} {z0 : State} (hM : M &&& 0x2E3248 = 0x2E3248) (unit : Nat) (e : TensorEntry) (st : Stream) (lo hi : Nat) (s : State) (hk : Keep M z0 s) : Keep M z0 (State.readStream unit e st lo hi s).2.2 := by
  refine hk.trans ?_
  have m0 : M &&& 0x2E3248 = 0x2E3248 := Keep.sub hM rfl
  unfold State.readStream
  try dsimp only
  repeat' (first | (with_reducible exact Keep.refl _ _) | (with_reducible assumption) | (with_reducible apply State.readBlock_keep m0) | (with_reducible apply Keep.foldl) | (with_reducible apply Keep.foldl2) | (with_reducible apply Keep.foldl3) | (intro) | (with_reducible apply Keep.ite) | split | dsimp only | (with_reducible refine Keep.snd (by with_reducible assumption) ?_))

theorem State.fetchMask_keep {M : Nat} {z0 : State} (hM : M &&& 0x2E3248 = 0x2E3248) (unit : Nat) (e : TensorEntry) (on due : Bool) (lo hi : Nat) (s : State) (hk : Keep M z0 s) : Keep M z0 (State.fetchMask unit e on due lo hi s).2 := by
  refine hk.trans ?_
  have m0 : M &&& 0x2E3248 = 0x2E3248 := Keep.sub hM rfl
  unfold State.fetchMask
  try dsimp only
  repeat' (first | (with_reducible exact Keep.refl _ _) | (with_reducible assumption) | (with_reducible apply State.readBlock_keep m0) | split | dsimp only | (with_reducible refine Keep.snd (by with_reducible assumption) ?_))

theorem State.readMask_keep {M : Nat} {z0 : State} (hM : M &&& 0x2E3248 = 0x2E3248) (unit : Nat) (e : TensorEntry) (ws : List U32) (lo hi : Nat) (s : State) (hk : Keep M z0 s) : Keep M z0 (State.readMask unit e ws lo hi s).2 := by
  refine hk.trans ?_
  have m0 : M &&& 0x2E3248 = 0x2E3248 := Keep.sub hM rfl
  unfold State.readMask
  try dsimp only
  repeat' (first | (with_reducible exact Keep.refl _ _) | (with_reducible apply State.fetchMask_keep m0) | dsimp only)

theorem State.readPairs_keep {M : Nat} {z0 : State} (hM : M &&& 0x2E3248 = 0x2E3248) (e : TensorEntry) (lo hi : Nat) (s : State) (hk : Keep M z0 s) : Keep M z0 (State.readPairs e lo hi s) := by
  refine hk.trans ?_
  have m0 : M &&& 0x2E3248 = 0x2E3248 := Keep.sub hM rfl
  unfold State.readPairs
  try dsimp only
  repeat' (first | (with_reducible exact Keep.refl _ _) | (with_reducible assumption) | (with_reducible apply State.readRange_keep m0) | (with_reducible apply Keep.foldl) | (with_reducible apply Keep.foldl2) | (with_reducible apply Keep.foldl3) | (intro) | split | dsimp only | (with_reducible refine Keep.snd (by with_reducible assumption) ?_))

theorem State.readWindow_keep {M : Nat} {z0 : State} (hM : M &&& 0x2E3248 = 0x2E3248) (unit : Nat) (e : TensorEntry) (ws : List U32) (lo hi : Nat) (s : State) (hk : Keep M z0 s) : Keep M z0 (State.readWindow unit e ws lo hi s).2 := by
  refine hk.trans ?_
  have m0 : M &&& 0x2E3248 = 0x2E3248 := Keep.sub hM rfl
  unfold State.readWindow
  try dsimp only
  repeat' (first | (with_reducible exact Keep.refl _ _) | (with_reducible assumption) | (with_reducible apply State.readPairs_keep m0) | (with_reducible apply State.readMask_keep m0) | (with_reducible apply State.readStream_keep m0) | (with_reducible apply Keep.foldl) | (with_reducible apply Keep.foldl2) | (with_reducible apply Keep.foldl3) | (intro) | (with_reducible apply Keep.ite) | split | dsimp only | (with_reducible refine Keep.snd (by with_reducible assumption) ?_))

theorem State.commitWrite_keep {M : Nat} {z0 : State} (hM : M &&& 0x2E3248 = 0x2E3248) (e : TensorEntry) (step w : U32) (x : BlkWrite) (s : State) (hk : Keep M z0 s) : Keep M z0 (State.commitWrite e step w x s) := by
  refine hk.trans ?_
  have m0 : M &&& 0x1000 = 0x1000 := Keep.sub hM rfl
  have m1 : M &&& 0x2E3248 = 0x2E3248 := Keep.sub hM rfl
  have b_part : M.testBit 12 = true := Keep.bit hM rfl
  unfold State.commitWrite
  try dsimp only
  repeat' (first | (with_reducible exact Keep.refl _ _) | (fail_if_no_progress (with_reducible apply Keep.upd_part b_part)) | (with_reducible apply State.foldTerm_keep m0) | (with_reducible apply State.writeBlock_keep m1) | (with_reducible apply Keep.ite) | split | (with_reducible refine Keep.snd (by with_reducible assumption) ?_))

theorem State.countFrozen_keep {M : Nat} {z0 : State} (hM : M &&& 0xC0040 = 0xC0040) (unit : Nat) (e : TensorEntry) (step : U32) (masked attempts : Nat) (trapAt : Option Nat) (s : State) (hk : Keep M z0 s) : Keep M z0 (State.countFrozen unit e step masked attempts trapAt s) := by
  refine hk.trans ?_
  have m0 : M &&& 0x40 = 0x40 := Keep.sub hM rfl
  have m1 : M &&& 0xC0000 = 0xC0000 := Keep.sub hM rfl
  have b_upd : M.testBit 6 = true := Keep.bit hM rfl
  unfold State.countFrozen
  try dsimp only
  repeat' (first | (with_reducible exact Keep.refl _ _) | (with_reducible assumption) | (fail_if_no_progress (with_reducible apply Keep.upd_upd b_upd)) | (with_reducible apply State.setEntry_keep m0) | (with_reducible apply State.record_keep m1) | (with_reducible apply Keep.ite) | split | dsimp only | (with_reducible refine Keep.snd (by with_reducible assumption) ?_))

theorem State.countNonfinite_keep {M : Nat} {z0 : State} (hM : M &&& 0xC0040 = 0xC0040) (unit : Nat) (e : TensorEntry) (step : U32) (s : State) (hk : Keep M z0 s) : Keep M z0 (State.countNonfinite unit e step s) := by
  refine hk.trans ?_
  have m0 : M &&& 0xC0000 = 0xC0000 := Keep.sub hM rfl
  have b_upd : M.testBit 6 = true := Keep.bit hM rfl
  unfold State.countNonfinite
  try dsimp only
  repeat' (first | (with_reducible exact Keep.refl _ _) | (fail_if_no_progress (with_reducible apply Keep.upd_upd b_upd)) | (with_reducible apply State.record_keep m0) | (with_reducible apply Keep.ite) | split)

theorem State.countConv_keep {M : Nat} {z0 : State} (hM : M &&& 0x8 = 0x8) (sat conv : Nat) (s : State) (hk : Keep M z0 s) : Keep M z0 (State.countConv sat conv s) := by
  refine hk.trans ?_
  have b_chk : M.testBit 3 = true := Keep.bit hM rfl
  unfold State.countConv
  try dsimp only
  repeat' (first | (with_reducible exact Keep.refl _ _) | (fail_if_no_progress (with_reducible apply Keep.upd_chk b_chk)))

theorem State.applyChange_keep {M : Nat} {z0 : State} (hM : M &&& 0x2E3E48 = 0x2E3E48) (e : TensorEntry) (c : ClassChange) (s : State) (hk : Keep M z0 s) : Keep M z0 (State.applyChange e c s) := by
  refine hk.trans ?_
  have m0 : M &&& 0x2E3E48 = 0x2E3E48 := Keep.sub hM rfl
  have m1 : M &&& 0xC1C00 = 0xC1C00 := Keep.sub hM rfl
  have m2 : M &&& 0x40 = 0x40 := Keep.sub hM rfl
  have m3 : M &&& 0xC0000 = 0xC0000 := Keep.sub hM rfl
  have b_part : M.testBit 12 = true := Keep.bit hM rfl
  unfold State.applyChange
  try dsimp only
  repeat' (first | (with_reducible exact Keep.refl _ _) | (with_reducible assumption) | (fail_if_no_progress (with_reducible apply Keep.upd_part b_part)) | (with_reducible apply State.startSync_keep m0) | (with_reducible apply State.sendRecord_keep m1) | (with_reducible apply State.setEntry_keep m2) | (with_reducible apply State.record_keep m3) | (with_reducible apply Keep.ite) | split | dsimp only)

theorem State.flagCovered_keep {M : Nat} {z0 : State} (hM : M &&& 0x200 = 0x200) (e : TensorEntry) (m : Block) (s : State) (hk : Keep M z0 s) : Keep M z0 (State.flagCovered e m s) := by
  refine hk.trans ?_
  have m0 : M &&& 0x200 = 0x200 := Keep.sub hM rfl
  unfold State.flagCovered
  try dsimp only
  repeat' (first | (with_reducible exact Keep.refl _ _) | (with_reducible assumption) | (with_reducible apply State.putHeader_keep m0) | (with_reducible apply Keep.foldl) | (with_reducible apply Keep.foldl2) | (with_reducible apply Keep.foldl3) | (intro) | split | dsimp only | (with_reducible refine Keep.snd (by with_reducible assumption) ?_))

theorem State.installMask_keep {M : Nat} {z0 : State} (hM : M &&& 0x2E3E48 = 0x2E3E48) (e : TensorEntry) (m : StagedMask) (s : State) (hk : Keep M z0 s) : Keep M z0 (State.installMask e m s) := by
  refine hk.trans ?_
  have m0 : M &&& 0x200 = 0x200 := Keep.sub hM rfl
  have m1 : M &&& 0xC1C00 = 0xC1C00 := Keep.sub hM rfl
  have m2 : M &&& 0x2E3248 = 0x2E3248 := Keep.sub hM rfl
  have b_upd : M.testBit 6 = true := Keep.bit hM rfl
  unfold State.installMask
  try dsimp only
  repeat' (first | (with_reducible exact Keep.refl _ _) | (with_reducible assumption) | (fail_if_no_progress (with_reducible apply Keep.upd_upd b_upd)) | (with_reducible apply State.flagCovered_keep m0) | (with_reducible apply State.sendMask_keep m1) | (with_reducible apply State.writeCarried_keep m2) | (with_reducible apply Keep.ite) | split | dsimp only | (with_reducible refine Keep.snd (by with_reducible assumption) ?_))

theorem State.beginStep_keep {M : Nat} {z0 : State} (hM : M &&& 0x2E3E48 = 0x2E3E48) (e : TensorEntry) (step : U32) (s : State) (hk : Keep M z0 s) : Keep M z0 (State.beginStep e step s).2 := by
  refine hk.trans ?_
  have m0 : M &&& 0x2E3E48 = 0x2E3E48 := Keep.sub hM rfl
  have m1 : M &&& 0x2040 = 0x2040 := Keep.sub hM rfl
  have m2 : M &&& 0xC2040 = 0xC2040 := Keep.sub hM rfl
  unfold State.beginStep
  try dsimp only
  repeat' (first | (with_reducible exact Keep.refl _ _) | (with_reducible assumption) | (with_reducible apply State.installMask_keep m0) | (with_reducible apply State.applyChange_keep m0) | (with_reducible apply State.startSync_keep m0) | (with_reducible apply State.touchDone_keep m1) | (with_reducible apply State.mustWait_keep m2) | (with_reducible apply Keep.foldl) | (with_reducible apply Keep.foldl2) | (with_reducible apply Keep.foldl3) | (intro) | (with_reducible apply Keep.ite) | split | dsimp only | (with_reducible refine Keep.snd (by with_reducible assumption) ?_))

theorem State.setPipe_keep {M : Nat} {z0 : State} (hM : M &&& 0x40 = 0x40) (p : Pipe) (f : PipeState → PipeState) (s : State) (hk : Keep M z0 s) : Keep M z0 (State.setPipe p f s) := by
  refine hk.trans ?_
  have b_upd : M.testBit 6 = true := Keep.bit hM rfl
  unfold State.setPipe
  try dsimp only
  repeat' (first | (with_reducible exact Keep.refl _ _) | (with_reducible assumption) | (fail_if_no_progress (with_reducible apply Keep.upd_upd b_upd)) | (with_reducible apply Keep.trans _ (hf ..)))

theorem State.drainPipe_keep {M : Nat} {z0 : State} (hM : M &&& 0x40 = 0x40) (p : Pipe) (s : State) (hk : Keep M z0 s) : Keep M z0 (State.drainPipe p s) := by
  refine hk.trans ?_
  have m0 : M &&& 0x40 = 0x40 := Keep.sub hM rfl
  have b_upd : M.testBit 6 = true := Keep.bit hM rfl
  unfold State.drainPipe
  try dsimp only
  repeat' (first | (with_reducible exact Keep.refl _ _) | (with_reducible assumption) | (fail_if_no_progress (with_reducible apply Keep.upd_upd b_upd)) | (with_reducible apply State.setPipe_keep m0) | (intro) | dsimp only)

theorem State.dropDisp_keep {M : Nat} {z0 : State} (hM : M &&& 0x40 = 0x40) (d : DispWin) (s : State) (hk : Keep M z0 s) : Keep M z0 (State.dropDisp d s) := by
  refine hk.trans ?_
  have b_upd : M.testBit 6 = true := Keep.bit hM rfl
  unfold State.dropDisp
  try dsimp only
  repeat' (first | (with_reducible exact Keep.refl _ _) | (fail_if_no_progress (with_reducible apply Keep.upd_upd b_upd)))

theorem State.runFor_keep {M : Nat} {z0 : State} (hM : M &&& 0x2E3248 = 0x2E3248) (unit : Nat) (e : TensorEntry) (d : DispWin) (s : State) (hk : Keep M z0 s) : Keep M z0 (State.runFor unit e d s).2.2 := by
  refine hk.trans ?_
  have m0 : M &&& 0x2E3248 = 0x2E3248 := Keep.sub hM rfl
  unfold State.runFor
  try dsimp only
  repeat' (first | (with_reducible exact Keep.refl _ _) | (with_reducible apply State.readWindow_keep m0) | split | dsimp only | (with_reducible refine Keep.snd (by with_reducible assumption) ?_))

theorem State.assign_keep {M : Nat} {z0 : State} (hM : M &&& 0x2E3F58 = 0x2E3F58) (p : Pipe) (e : TensorEntry) (d : DispWin) (s : State) (hk : Keep M z0 s) : Keep M z0 (State.assign p e d s) := by
  refine hk.trans ?_
  have m0 : M &&& 0x2E3248 = 0x2E3248 := Keep.sub hM rfl
  have m1 : M &&& 0x40 = 0x40 := Keep.sub hM rfl
  have m2 : M &&& 0xC2F58 = 0xC2F58 := Keep.sub hM rfl
  have b_part : M.testBit 12 = true := Keep.bit hM rfl
  unfold State.assign
  try dsimp only
  repeat' (first | (with_reducible exact Keep.refl _ _) | (with_reducible assumption) | (fail_if_no_progress (with_reducible apply Keep.upd_part b_part)) | (with_reducible apply State.runFor_keep m0) | (with_reducible apply State.setPipe_keep m1) | (with_reducible apply State.consumePoison_keep m2) | (intro) | (with_reducible apply Keep.ite) | split | dsimp only | (with_reducible refine Keep.snd (by with_reducible assumption) ?_))

theorem State.noPipe_keep {M : Nat} {z0 : State} (hM : M &&& 0xC0040 = 0xC0040) (s : State) (hk : Keep M z0 s) : Keep M z0 (State.noPipe s) := by
  refine hk.trans ?_
  have m0 : M &&& 0xC0000 = 0xC0000 := Keep.sub hM rfl
  have b_upd : M.testBit 6 = true := Keep.bit hM rfl
  unfold State.noPipe
  try dsimp only
  repeat' (first | (with_reducible exact Keep.refl _ _) | (fail_if_no_progress (with_reducible apply Keep.upd_upd b_upd)) | (with_reducible apply State.record_keep m0) | (with_reducible apply Keep.ite) | split)

theorem State.dispatchTo_keep {M : Nat} {z0 : State} (hM : M &&& 0x2E3F58 = 0x2E3F58) (e : TensorEntry) (d : DispWin) (s0 s4 : U32) (s : State) (hk : Keep M z0 s) : Keep M z0 (State.dispatchTo e d s0 s4 s) := by
  refine hk.trans ?_
  have m0 : M &&& 0xC0040 = 0xC0040 := Keep.sub hM rfl
  have m1 : M &&& 0x2E3F58 = 0x2E3F58 := Keep.sub hM rfl
  have m2 : M &&& 0x40 = 0x40 := Keep.sub hM rfl
  unfold State.dispatchTo
  try dsimp only
  repeat' (first | (with_reducible exact Keep.refl _ _) | (with_reducible apply State.noPipe_keep m0) | (with_reducible apply State.assign_keep m1) | (with_reducible apply State.dropDisp_keep m2) | (with_reducible apply Keep.ite) | split | (with_reducible refine Keep.snd (by with_reducible assumption) ?_))

theorem State.retryHandOff_keep {M : Nat} {z0 : State} (hM : M &&& 0xC1C40 = 0xC1C40) (e : TensorEntry) (d : DispWin) (s : State) (hk : Keep M z0 s) : Keep M z0 (State.retryHandOff e d s).2 := by
  refine hk.trans ?_
  have m0 : M &&& 0xC1C00 = 0xC1C00 := Keep.sub hM rfl
  have b_upd : M.testBit 6 = true := Keep.bit hM rfl
  unfold State.retryHandOff
  try dsimp only
  repeat' (first | (with_reducible exact Keep.refl _ _) | (with_reducible assumption) | (fail_if_no_progress (with_reducible apply Keep.upd_upd b_upd)) | (with_reducible apply State.handOff_keep m0) | (with_reducible apply Keep.ite) | split | dsimp only | (with_reducible refine Keep.snd (by with_reducible assumption) ?_))

theorem windowDispatch_keep {M : Nat} {z0 : State} (hM : M &&& 0x2E3F58 = 0x2E3F58) (ts w : U32) (replica : Bool) (s : State) (hk : Keep M z0 s) : Keep M z0 (windowDispatch ts w replica s) := by
  refine hk.trans ?_
  have m0 : M &&& 0xC1C40 = 0xC1C40 := Keep.sub hM rfl
  have m1 : M &&& 0x2E3F58 = 0x2E3F58 := Keep.sub hM rfl
  have m2 : M &&& 0x40 = 0x40 := Keep.sub hM rfl
  have m3 : M &&& 0x2E3E48 = 0x2E3E48 := Keep.sub hM rfl
  have b_upd : M.testBit 6 = true := Keep.bit hM rfl
  unfold windowDispatch
  try dsimp only
  repeat' (first | (with_reducible exact Keep.refl _ _) | (fail_if_no_progress (with_reducible apply Keep.upd_upd b_upd)) | (with_reducible apply State.retryHandOff_keep m0) | (with_reducible apply State.dispatchTo_keep m1) | (with_reducible apply State.dropDisp_keep m2) | (with_reducible apply State.beginStep_keep m3) | (with_reducible apply Keep.ite) | split | dsimp only | (with_reducible refine Keep.snd (by with_reducible assumption) ?_))

theorem State.countWindow_keep {M : Nat} {z0 : State} (hM : M &&& 0x8C0048 = 0x8C0048) (unit : Nat) (e : TensorEntry) (d : DispWin) (r : RunResult) (s : State) (hk : Keep M z0 s) : Keep M z0 (State.countWindow unit e d r s) := by
  refine hk.trans ?_
  have m0 : M &&& 0x8 = 0x8 := Keep.sub hM rfl
  have m1 : M &&& 0xC0040 = 0xC0040 := Keep.sub hM rfl
  have m2 : M &&& 0x840000 = 0x840000 := Keep.sub hM rfl
  have m3 : M &&& 0x40 = 0x40 := Keep.sub hM rfl
  have b_upd : M.testBit 6 = true := Keep.bit hM rfl
  unfold State.countWindow
  try dsimp only
  repeat' (first | (with_reducible exact Keep.refl _ _) | (with_reducible assumption) | (fail_if_no_progress (with_reducible apply Keep.upd_upd b_upd)) | (with_reducible apply State.countConv_keep m0) | (with_reducible apply State.countNonfinite_keep m1) | (with_reducible apply State.countFrozen_keep m1) | (with_reducible apply State.traceWindow_keep m2) | (with_reducible apply State.setEntry_keep m3) | (with_reducible apply Keep.ite) | split | dsimp only)

theorem State.tellPartner_keep {M : Nat} {z0 : State} (hM : M &&& 0x2E3E48 = 0x2E3E48) (p : Pipe) (e : TensorEntry) (d : DispWin) (ws : List BlkWrite) (s : State) (hk : Keep M z0 s) : Keep M z0 (State.tellPartner p e d ws s) := by
  refine hk.trans ?_
  have m0 : M &&& 0x2E3E48 = 0x2E3E48 := Keep.sub hM rfl
  have m1 : M &&& 0xC1C00 = 0xC1C00 := Keep.sub hM rfl
  unfold State.tellPartner
  try dsimp only
  repeat' (first | (with_reducible exact Keep.refl _ _) | (with_reducible assumption) | (with_reducible apply State.sendMirror_keep m0) | (with_reducible apply State.sendRecord_keep m1) | (with_reducible apply Keep.foldl) | (with_reducible apply Keep.foldl2) | (with_reducible apply Keep.foldl3) | (intro) | (with_reducible apply Keep.ite) | split | dsimp only)

theorem State.rolledWindow_keep {M : Nat} {z0 : State} (hM : M &&& 0x8040 = 0x8040) (e : TensorEntry) (d : DispWin) (s : State) (hk : Keep M z0 s) : Keep M z0 (State.rolledWindow e d s) := by
  refine hk.trans ?_
  have m0 : M &&& 0x40 = 0x40 := Keep.sub hM rfl
  have b_job : M.testBit 15 = true := Keep.bit hM rfl
  have b_upd : M.testBit 6 = true := Keep.bit hM rfl
  unfold State.rolledWindow
  try dsimp only
  repeat' (first | (with_reducible exact Keep.refl _ _) | (with_reducible assumption) | (fail_if_no_progress (with_reducible apply Keep.upd_job b_job)) | (fail_if_no_progress (with_reducible apply Keep.upd_upd b_upd)) | (fail_if_no_progress ((with_reducible refine Keep.updAll ?_ ?_ ?_ ?_ ?_ ?_ ?_ ?_ ?_ ?_ ?_ ?_ ?_ ?_ ?_ ?_ ?_ ?_ ?_ ?_ ?_ ?_ ?_ ?_ ?_ ?_); iterate 25 (first | (with_reducible rfl) | (with_reducible exact fun _ => rfl) | (exact fun b => absurd (b.symm.trans (Keep.bit hM rfl)) (by decide))))) | (with_reducible apply State.setEntry_keep m0) | (with_reducible apply Keep.ite) | split | dsimp only)

theorem State.finishWindow_keep {M : Nat} {z0 : State} (hM : M &&& 0x2EBF58 = 0x2EBF58) (e : TensorEntry) (d : DispWin) (s : State) (hk : Keep M z0 s) : Keep M z0 (State.finishWindow e d s) := by
  refine hk.trans ?_
  have m0 : M &&& 0x8040 = 0x8040 := Keep.sub hM rfl
  have m1 : M &&& 0x2E3F58 = 0x2E3F58 := Keep.sub hM rfl
  unfold State.finishWindow
  try dsimp only
  repeat' (first | (with_reducible exact Keep.refl _ _) | (with_reducible apply State.rolledWindow_keep m0) | (with_reducible apply State.countWritten_keep m1) | (with_reducible apply Keep.ite) | split)

theorem State.writeOwner_keep {M : Nat} {z0 : State} (hM : M &&& 0xAEBF58 = 0xAEBF58) (p : Pipe) (e : TensorEntry) (x : PipeWin) (s : State) (hk : Keep M z0 s) : Keep M z0 (State.writeOwner p e x s) := by
  refine hk.trans ?_
  have m0 : M &&& 0x2EBF58 = 0x2EBF58 := Keep.sub hM rfl
  have m1 : M &&& 0x2E3E48 = 0x2E3E48 := Keep.sub hM rfl
  have m2 : M &&& 0x8C0048 = 0x8C0048 := Keep.sub hM rfl
  have m3 : M &&& 0x40 = 0x40 := Keep.sub hM rfl
  have m4 : M &&& 0x2E3248 = 0x2E3248 := Keep.sub hM rfl
  have m5 : M &&& 0xC2F58 = 0xC2F58 := Keep.sub hM rfl
  have m6 : M &&& 0x2040 = 0x2040 := Keep.sub hM rfl
  have m7 : M &&& 0xC2040 = 0xC2040 := Keep.sub hM rfl
  unfold State.writeOwner
  try dsimp only
  repeat' (first | (with_reducible exact Keep.refl _ _) | (with_reducible assumption) | (with_reducible apply State.finishWindow_keep m0) | (with_reducible apply State.tellPartner_keep m1) | (with_reducible apply State.countWindow_keep m2) | (with_reducible apply State.setPipe_keep m3) | (with_reducible apply State.commitWrite_keep m4) | (with_reducible apply State.failShard_keep m5) | (with_reducible apply State.touchDone_keep m6) | (with_reducible apply State.mustWait_keep m7) | (with_reducible apply Keep.foldl) | (with_reducible apply Keep.foldl2) | (with_reducible apply Keep.foldl3) | (intro) | (with_reducible apply Keep.ite) | split | dsimp only | (with_reducible refine Keep.snd (by with_reducible assumption) ?_))

theorem windowWriteback_keep {M : Nat} {z0 : State} (hM : M &&& 0xAEBF58 = 0xAEBF58) (p : Pipe) (s : State) (hk : Keep M z0 s) : Keep M z0 (windowWriteback p s) := by
  refine hk.trans ?_
  have m0 : M &&& 0xAEBF58 = 0xAEBF58 := Keep.sub hM rfl
  have m1 : M &&& 0x40 = 0x40 := Keep.sub hM rfl
  have b_upd : M.testBit 6 = true := Keep.bit hM rfl
  unfold windowWriteback
  try dsimp only
  repeat' (first | (with_reducible exact Keep.refl _ _) | (with_reducible assumption) | (fail_if_no_progress (with_reducible apply Keep.upd_upd b_upd)) | (with_reducible apply State.writeOwner_keep m0) | (with_reducible apply State.setPipe_keep m1) | (intro) | (with_reducible apply Keep.ite) | split | dsimp only | (with_reducible refine Keep.snd (by with_reducible assumption) ?_))

theorem pipeParity_keep {M : Nat} {z0 : State} (hM : M &&& 0x2E3F58 = 0x2E3F58) (p : Pipe) (stage : U8) (s : State) (hk : Keep M z0 s) : Keep M z0 (pipeParity p stage s) := by
  refine hk.trans ?_
  have m0 : M &&& 0x2E3F58 = 0x2E3F58 := Keep.sub hM rfl
  have m1 : M &&& 0x40 = 0x40 := Keep.sub hM rfl
  have m2 : M &&& 0x2E0000 = 0x2E0000 := Keep.sub hM rfl
  have m3 : M &&& 0xC0000 = 0xC0000 := Keep.sub hM rfl
  have b_upd : M.testBit 6 = true := Keep.bit hM rfl
  unfold pipeParity
  try dsimp only
  repeat' (first | (with_reducible exact Keep.refl _ _) | (with_reducible assumption) | (fail_if_no_progress (with_reducible apply Keep.upd_upd b_upd)) | (with_reducible apply State.assign_keep m0) | (with_reducible apply State.setPipe_keep m1) | (with_reducible apply State.charge_keep m2) | (with_reducible apply State.record_keep m3) | (intro) | (with_reducible apply Keep.ite) | split | dsimp only | (with_reducible refine Keep.snd (by with_reducible assumption) ?_))

theorem State.loadRefused_keep {M : Nat} {z0 : State} (hM : M &&& 0x40 = 0x40) (s : State) (hk : Keep M z0 s) : Keep M z0 (State.loadRefused s) := by
  refine hk.trans ?_
  have b_upd : M.testBit 6 = true := Keep.bit hM rfl
  unfold State.loadRefused
  try dsimp only
  repeat' (first | (with_reducible exact Keep.refl _ _) | (fail_if_no_progress (with_reducible apply Keep.upd_upd b_upd)))

theorem haltReleaseWrite_keep {M : Nat} {z0 : State} (hM : M &&& 0x40 = 0x40) (v : U32) (s : State) (hk : Keep M z0 s) : Keep M z0 (haltReleaseWrite v s) := by
  refine hk.trans ?_
  have m0 : M &&& 0x40 = 0x40 := Keep.sub hM rfl
  have b_upd : M.testBit 6 = true := Keep.bit hM rfl
  unfold haltReleaseWrite
  try dsimp only
  repeat' (first | (with_reducible exact Keep.refl _ _) | (with_reducible assumption) | (fail_if_no_progress (with_reducible apply Keep.upd_upd b_upd)) | (with_reducible apply State.loadRefused_keep m0) | (with_reducible apply State.setEntry_keep m0) | (with_reducible apply Keep.ite) | split | dsimp only | (with_reducible refine Keep.snd (by with_reducible assumption) ?_))

theorem State.refuseMask_keep {M : Nat} {z0 : State} (hM : M &&& 0xC0040 = 0xC0040) (s : State) (hk : Keep M z0 s) : Keep M z0 (State.refuseMask s) := by
  refine hk.trans ?_
  have m0 : M &&& 0xC0000 = 0xC0000 := Keep.sub hM rfl
  have b_upd : M.testBit 6 = true := Keep.bit hM rfl
  unfold State.refuseMask
  try dsimp only
  repeat' (first | (with_reducible exact Keep.refl _ _) | (fail_if_no_progress (with_reducible apply Keep.upd_upd b_upd)) | (with_reducible apply State.record_keep m0))

theorem maskStageWrite_keep {M : Nat} {z0 : State} (hM : M &&& 0xC1C40 = 0xC1C40) (bytes : List Byte) (s : State) (hk : Keep M z0 s) : Keep M z0 (maskStageWrite bytes s) := by
  refine hk.trans ?_
  have m0 : M &&& 0xC0040 = 0xC0040 := Keep.sub hM rfl
  have m1 : M &&& 0xC1C00 = 0xC1C00 := Keep.sub hM rfl
  have b_upd : M.testBit 6 = true := Keep.bit hM rfl
  unfold maskStageWrite
  try dsimp only
  repeat' (first | (with_reducible exact Keep.refl _ _) | (fail_if_no_progress (with_reducible apply Keep.upd_upd b_upd)) | (with_reducible apply State.refuseMask_keep m0) | (with_reducible apply State.sendMask_keep m1) | (with_reducible apply Keep.ite) | split | (with_reducible refine Keep.snd (by with_reducible assumption) ?_))

theorem State.refuseProg_keep {M : Nat} {z0 : State} (hM : M &&& 0xC0040 = 0xC0040) (slot : Fin 16) (err : Nat) (s : State) (hk : Keep M z0 s) : Keep M z0 (State.refuseProg slot err s) := by
  refine hk.trans ?_
  have m0 : M &&& 0xC0000 = 0xC0000 := Keep.sub hM rfl
  have b_upd : M.testBit 6 = true := Keep.bit hM rfl
  unfold State.refuseProg
  try dsimp only
  repeat' (first | (with_reducible exact Keep.refl _ _) | (fail_if_no_progress (with_reducible apply Keep.upd_upd b_upd)) | (with_reducible apply State.record_keep m0))

theorem programSlotWrite_keep {M : Nat} {z0 : State} (hM : M &&& 0xC0040 = 0xC0040) (slot : Fin 16) (bytes : List Byte) (s : State) (hk : Keep M z0 s) : Keep M z0 (programSlotWrite slot bytes s) := by
  refine hk.trans ?_
  have m0 : M &&& 0xC0040 = 0xC0040 := Keep.sub hM rfl
  have b_upd : M.testBit 6 = true := Keep.bit hM rfl
  unfold programSlotWrite
  try dsimp only
  repeat' (first | (with_reducible exact Keep.refl _ _) | (fail_if_no_progress (with_reducible apply Keep.upd_upd b_upd)) | (with_reducible apply State.refuseProg_keep m0) | (with_reducible apply Keep.ite) | split | (with_reducible refine Keep.snd (by with_reducible assumption) ?_))

theorem State.refuseTable_keep {M : Nat} {z0 : State} (hM : M &&& 0xC0040 = 0xC0040) (off : Nat) (s : State) (hk : Keep M z0 s) : Keep M z0 (State.refuseTable off s) := by
  refine hk.trans ?_
  have m0 : M &&& 0x40 = 0x40 := Keep.sub hM rfl
  have m1 : M &&& 0xC0000 = 0xC0000 := Keep.sub hM rfl
  have b_upd : M.testBit 6 = true := Keep.bit hM rfl
  unfold State.refuseTable
  try dsimp only
  repeat' (first | (with_reducible exact Keep.refl _ _) | (fail_if_no_progress (with_reducible apply Keep.upd_upd b_upd)) | (with_reducible apply State.loadRefused_keep m0) | (with_reducible apply State.record_keep m1))

theorem tensorTableWrite_keep {M : Nat} {z0 : State} (hM : M &&& 0xC3040 = 0xC3040) (bytes : List Byte) (s : State) (hk : Keep M z0 s) : Keep M z0 (tensorTableWrite bytes s) := by
  refine hk.trans ?_
  have m0 : M &&& 0xC0040 = 0xC0040 := Keep.sub hM rfl
  have m1 : M &&& 0x2000 = 0x2000 := Keep.sub hM rfl
  have b_part : M.testBit 12 = true := Keep.bit hM rfl
  have b_upd : M.testBit 6 = true := Keep.bit hM rfl
  unfold tensorTableWrite
  try dsimp only
  repeat' (first | (with_reducible exact Keep.refl _ _) | (with_reducible assumption) | (fail_if_no_progress (with_reducible apply Keep.upd_part b_part)) | (fail_if_no_progress (with_reducible apply Keep.upd_upd b_upd)) | (fail_if_no_progress ((with_reducible refine Keep.updAll ?_ ?_ ?_ ?_ ?_ ?_ ?_ ?_ ?_ ?_ ?_ ?_ ?_ ?_ ?_ ?_ ?_ ?_ ?_ ?_ ?_ ?_ ?_ ?_ ?_ ?_); iterate 25 (first | (with_reducible rfl) | (with_reducible exact fun _ => rfl) | (exact fun b => absurd (b.symm.trans (Keep.bit hM rfl)) (by decide))))) | (with_reducible apply State.refuseTable_keep m0) | (with_reducible apply State.protect_keep m1) | (with_reducible apply Keep.ite) | split | dsimp only | (with_reducible refine Keep.snd (by with_reducible assumption) ?_))

end Sys2Proof.Machine
end

