-- ==== Sys2Proof/Laws/KeepCompute.lean ====
section
/-! SUPPORT. One lemma per operation: what it keeps, for the vector cores, the streams and the tiers. -/
set_option linter.unreachableTactic false
set_option linter.unusedTactic false
set_option linter.unusedVariables false
namespace Sys2Proof.Machine
open Sys2Proof

theorem State.setCore_keep {M : Nat} {z0 : State} (hM : M &&& 0x80 = 0x80) (c : Core) (k : CoreState) (s : State) (hk : Keep M z0 s) : Keep M z0 (State.setCore c k s) := by
  refine hk.trans ?_
  have b_vec : M.testBit 7 = true := Keep.bit hM rfl
  unfold State.setCore
  try dsimp only
  repeat' (first | (with_reducible exact Keep.refl _ _) | (fail_if_no_progress (with_reducible apply Keep.upd_vec b_vec)))

theorem State.regOp_keep {M : Nat} {z0 : State} (hM : M &&& 0x80 = 0x80) (c : Core) (rs : List RegRef) (f : CoreState → CoreState) (s : State) (hk : Keep M z0 s) : Keep M z0 (State.regOp c rs f s) := by
  refine hk.trans ?_
  have m0 : M &&& 0x80 = 0x80 := Keep.sub hM rfl
  unfold State.regOp
  try dsimp only
  repeat' (first | (with_reducible exact Keep.refl _ _) | (with_reducible assumption) | (with_reducible apply State.setCore_keep m0) | (with_reducible apply Keep.trans _ (hf ..)) | (with_reducible apply Keep.ite) | split)

theorem State.jumpOp_keep {M : Nat} {z0 : State} (hM : M &&& 0x80 = 0x80) (c : Core) (rs : List RegRef) (f : CoreState → CoreState) (s : State) (hk : Keep M z0 s) : Keep M z0 (State.jumpOp c rs f s) := by
  refine hk.trans ?_
  have m0 : M &&& 0x80 = 0x80 := Keep.sub hM rfl
  unfold State.jumpOp
  try dsimp only
  repeat' (first | (with_reducible exact Keep.refl _ _) | (with_reducible assumption) | (with_reducible apply State.setCore_keep m0) | (with_reducible apply Keep.trans _ (hf ..)) | (with_reducible apply Keep.ite) | split)

theorem State.convOp_keep {M : Nat} {z0 : State} (hM : M &&& 0x88 = 0x88) (c : Core) (rs : List RegRef) (f : CoreState → CoreState × List Rounded) (s : State) (hk : Keep M z0 s) : Keep M z0 (State.convOp c rs f s) := by
  refine hk.trans ?_
  have m0 : M &&& 0x80 = 0x80 := Keep.sub hM rfl
  have m1 : M &&& 0x8 = 0x8 := Keep.sub hM rfl
  unfold State.convOp
  try dsimp only
  repeat' (first | (with_reducible exact Keep.refl _ _) | (with_reducible assumption) | (with_reducible apply State.setCore_keep m0) | (with_reducible apply State.countConv_keep m1) | (with_reducible apply Keep.trans _ (hf ..)) | (with_reducible apply Keep.ite) | split | (with_reducible refine Keep.snd (by with_reducible assumption) ?_))

theorem State.startInvoc_keep {M : Nat} {z0 : State} (hM : M &&& 0x80 = 0x80) (c : Core) (i : Invoc) (s : State) (hk : Keep M z0 s) : Keep M z0 (State.startInvoc c i s) := by
  refine hk.trans ?_
  have m0 : M &&& 0x80 = 0x80 := Keep.sub hM rfl
  unfold State.startInvoc
  try dsimp only
  repeat' (first | (with_reducible exact Keep.refl _ _) | (with_reducible assumption) | (with_reducible apply State.setCore_keep m0) | (with_reducible apply Keep.ite) | split | dsimp only | (with_reducible refine Keep.snd (by with_reducible assumption) ?_))

theorem State.place_keep {M : Nat} {z0 : State} (hM : M &&& 0x80 = 0x80) (c : Core) (i : Invoc) (s : State) (hk : Keep M z0 s) : Keep M z0 (State.place c i s) := by
  refine hk.trans ?_
  have m0 : M &&& 0x80 = 0x80 := Keep.sub hM rfl
  unfold State.place
  try dsimp only
  repeat' (first | (with_reducible exact Keep.refl _ _) | (with_reducible apply State.startInvoc_keep m0) | (with_reducible apply State.setCore_keep m0) | (with_reducible apply Keep.ite) | split)

theorem State.placeAgain_keep {M : Nat} {z0 : State} (hM : M &&& 0x80 = 0x80) (s : State) (hk : Keep M z0 s) : Keep M z0 (State.placeAgain s) := by
  refine hk.trans ?_
  have m0 : M &&& 0x80 = 0x80 := Keep.sub hM rfl
  have b_vec : M.testBit 7 = true := Keep.bit hM rfl
  unfold State.placeAgain
  try dsimp only
  repeat' (first | (with_reducible exact Keep.refl _ _) | (with_reducible assumption) | (fail_if_no_progress (with_reducible apply Keep.upd_vec b_vec)) | (with_reducible apply State.place_keep m0) | (with_reducible apply Keep.foldl) | (with_reducible apply Keep.foldl2) | (with_reducible apply Keep.foldl3) | (intro) | (with_reducible apply Keep.ite) | split | dsimp only | (with_reducible refine Keep.snd (by with_reducible assumption) ?_))

theorem State.startNext_keep {M : Nat} {z0 : State} (hM : M &&& 0x80 = 0x80) (c : Core) (s : State) (hk : Keep M z0 s) : Keep M z0 (State.startNext c s) := by
  refine hk.trans ?_
  have m0 : M &&& 0x80 = 0x80 := Keep.sub hM rfl
  unfold State.startNext
  try dsimp only
  repeat' (first | (with_reducible exact Keep.refl _ _) | (with_reducible apply State.placeAgain_keep m0) | (with_reducible apply State.startInvoc_keep m0) | (with_reducible apply State.setCore_keep m0) | split | (with_reducible refine Keep.snd (by with_reducible assumption) ?_))

theorem State.endBad_keep {M : Nat} {z0 : State} (hM : M &&& 0xC2FD8 = 0xC2FD8) (c : Core) (i : Invoc) (pc : U32) (e : EndKind) (s : State) (hk : Keep M z0 s) : Keep M z0 (State.endBad c i pc e s) := by
  refine hk.trans ?_
  have m0 : M &&& 0xC2F58 = 0xC2F58 := Keep.sub hM rfl
  have m1 : M &&& 0xC0000 = 0xC0000 := Keep.sub hM rfl
  have b_vec : M.testBit 7 = true := Keep.bit hM rfl
  unfold State.endBad
  try dsimp only
  repeat' (first | (with_reducible exact Keep.refl _ _) | (fail_if_no_progress (with_reducible apply Keep.upd_vec b_vec)) | (with_reducible apply State.failShard_keep m0) | (with_reducible apply State.record_keep m1) | split | (with_reducible refine Keep.snd (by with_reducible assumption) ?_))

theorem State.endRun_keep {M : Nat} {z0 : State} (hM : M &&& 0xC2FD8 = 0xC2FD8) (c : Core) (pc : U32) (e : EndKind) (s : State) (hk : Keep M z0 s) : Keep M z0 (State.endRun c pc e s) := by
  refine hk.trans ?_
  have m0 : M &&& 0xC2FD8 = 0xC2FD8 := Keep.sub hM rfl
  have m1 : M &&& 0x80 = 0x80 := Keep.sub hM rfl
  unfold State.endRun
  try dsimp only
  repeat' (first | (with_reducible exact Keep.refl _ _) | (with_reducible apply State.endBad_keep m0) | (with_reducible apply State.startNext_keep m1) | (with_reducible apply State.setCore_keep m1) | (with_reducible apply Keep.ite) | split | (with_reducible refine Keep.snd (by with_reducible assumption) ?_))

theorem State.vcFault_keep {M : Nat} {z0 : State} (hM : M &&& 0xC2FD8 = 0xC2FD8) (c : Core) (code : U8) (addr : U64) (s : State) (hk : Keep M z0 s) : Keep M z0 (State.vcFault c code addr s) := by
  refine hk.trans ?_
  have m0 : M &&& 0xC2FD8 = 0xC2FD8 := Keep.sub hM rfl
  unfold State.vcFault
  try dsimp only
  repeat' (first | (with_reducible exact Keep.refl _ _) | (with_reducible apply State.endRun_keep m0))

theorem State.keptCodes_keep {M : Nat} {z0 : State} (hM : M &&& 0x2E3248 = 0x2E3248) (unit : Nat) (e : TensorEntry) (st : Stream) (idx : Nat) (s : State) (hk : Keep M z0 s) : Keep M z0 (State.keptCodes unit e st idx s).2.2 := by
  refine hk.trans ?_
  have m0 : M &&& 0x2E3248 = 0x2E3248 := Keep.sub hM rfl
  unfold State.keptCodes
  try dsimp only
  repeat' (first | (with_reducible exact Keep.refl _ _) | (with_reducible apply State.readStream_keep m0) | (with_reducible apply State.readBlock_keep m0) | (with_reducible apply Keep.ite) | split | dsimp only | (with_reducible refine Keep.snd (by with_reducible assumption) ?_))

theorem State.commitBlock_keep {M : Nat} {z0 : State} (hM : M &&& 0xAEBF78 = 0xAEBF78) (unit : Nat) (e : TensorEntry) (step : U32) (latch : Bool) (m : MaskRead) (lo : Nat) (b : StagedBlk) (s : State) (hk : Keep M z0 s) : Keep M z0 (State.commitBlock unit e step latch m lo b s).2 := by
  refine hk.trans ?_
  have m0 : M &&& 0x2E3248 = 0x2E3248 := Keep.sub hM rfl
  have m1 : M &&& 0xAEBF78 = 0xAEBF78 := Keep.sub hM rfl
  unfold State.commitBlock
  try dsimp only
  repeat' (first | (with_reducible exact Keep.refl _ _) | (with_reducible assumption) | (with_reducible apply State.keptCodes_keep m0) | (with_reducible apply State.seal_keep m1) | (with_reducible apply Keep.ite) | split | dsimp only | (with_reducible refine Keep.snd (by with_reducible assumption) ?_))

theorem State.commitBlocks_keep {M : Nat} {z0 : State} (hM : M &&& 0xAEBF78 = 0xAEBF78) (unit : Nat) (e : TensorEntry) (step : U32) (latch : Bool) (m : MaskRead) (lo : Nat) (bs : List StagedBlk) (s : State) (hk : Keep M z0 s) : Keep M z0 (State.commitBlocks unit e step latch m lo bs s).2 := by
  refine hk.trans ?_
  have m0 : M &&& 0xAEBF78 = 0xAEBF78 := Keep.sub hM rfl
  unfold State.commitBlocks
  try dsimp only
  repeat' (first | (with_reducible exact Keep.refl _ _) | (with_reducible assumption) | (with_reducible apply State.commitBlock_keep m0) | (with_reducible apply Keep.foldl) | (with_reducible apply Keep.foldl2) | (with_reducible apply Keep.foldl3) | (intro) | split | dsimp only | (with_reducible refine Keep.snd (by with_reducible assumption) ?_))

theorem State.commitMask_keep {M : Nat} {z0 : State} (hM : M &&& 0x2E3248 = 0x2E3248) (unit : Nat) (e : TensorEntry) (d : DispWin) (bs : List StagedBlk) (s : State) (hk : Keep M z0 s) : Keep M z0 (State.commitMask unit e d bs s).2 := by
  refine hk.trans ?_
  have m0 : M &&& 0x2E3248 = 0x2E3248 := Keep.sub hM rfl
  unfold State.commitMask
  try dsimp only
  repeat' (first | (with_reducible exact Keep.refl _ _) | (with_reducible apply State.fetchMask_keep m0) | dsimp only)

theorem State.stageWrite_keep {M : Nat} {z0 : State} (hM : M &&& 0x280 = 0x280) (c : Core) (place : Nat) (s : State) (hk : Keep M z0 s) : Keep M z0 (State.stageWrite c place s) := by
  refine hk.trans ?_
  have m0 : M &&& 0x80 = 0x80 := Keep.sub hM rfl
  have b_mem : M.testBit 9 = true := Keep.bit hM rfl
  unfold State.stageWrite
  try dsimp only
  repeat' (first | (with_reducible exact Keep.refl _ _) | (fail_if_no_progress ((with_reducible refine Keep.upd_memHL b_mem ?_ ?_ ?_); (with_reducible rfl); (with_reducible rfl))) | (with_reducible apply State.place_keep m0) | (with_reducible refine Keep.upd_mem b_mem (MemState.ok_heal ..) ?_) | split | (with_reducible refine Keep.snd (by with_reducible assumption) ?_))

theorem State.stageRead_keep {M : Nat} {z0 : State} (hM : M &&& 0x2E32C8 = 0x2E32C8) (c : Core) (bs : List StagedBlk) (s : State) (hk : Keep M z0 s) : Keep M z0 (State.stageRead c bs s).2 := by
  refine hk.trans ?_
  have m0 : M &&& 0x80 = 0x80 := Keep.sub hM rfl
  have m1 : M &&& 0x2E3248 = 0x2E3248 := Keep.sub hM rfl
  unfold State.stageRead
  try dsimp only
  repeat' (first | (with_reducible exact Keep.refl _ _) | (with_reducible assumption) | (with_reducible apply State.place_keep m0) | (with_reducible apply State.readRange_keep m1) | (with_reducible apply Keep.foldl) | (with_reducible apply Keep.foldl2) | (with_reducible apply Keep.foldl3) | (intro) | split | dsimp only | (with_reducible refine Keep.snd (by with_reducible assumption) ?_))

theorem State.dropFinished_keep {M : Nat} {z0 : State} (hM : M &&& 0x80 = 0x80) (r : RunOut) (s : State) (hk : Keep M z0 s) : Keep M z0 (State.dropFinished r s) := by
  refine hk.trans ?_
  have m0 : M &&& 0x80 = 0x80 := Keep.sub hM rfl
  unfold State.dropFinished
  try dsimp only
  repeat' (first | (with_reducible exact Keep.refl _ _) | (with_reducible apply State.setCore_keep m0))

theorem State.commitRun_keep {M : Nat} {z0 : State} (hM : M &&& 0xAEBFF8 = 0xAEBFF8) (e : TensorEntry) (r : RunOut) (s : State) (hk : Keep M z0 s) : Keep M z0 (State.commitRun e r s).1 := by
  refine hk.trans ?_
  have m0 : M &&& 0x80 = 0x80 := Keep.sub hM rfl
  have m1 : M &&& 0x2E32C8 = 0x2E32C8 := Keep.sub hM rfl
  have m2 : M &&& 0x2E3248 = 0x2E3248 := Keep.sub hM rfl
  have m3 : M &&& 0xAEBF78 = 0xAEBF78 := Keep.sub hM rfl
  have m4 : M &&& 0x8 = 0x8 := Keep.sub hM rfl
  have m5 : M &&& 0xC0040 = 0xC0040 := Keep.sub hM rfl
  have m6 : M &&& 0x2E3F58 = 0x2E3F58 := Keep.sub hM rfl
  have m7 : M &&& 0x840000 = 0x840000 := Keep.sub hM rfl
  have m8 : M &&& 0x2E3E48 = 0x2E3E48 := Keep.sub hM rfl
  have m9 : M &&& 0xC2F58 = 0xC2F58 := Keep.sub hM rfl
  have m10 : M &&& 0x40 = 0x40 := Keep.sub hM rfl
  have m11 : M &&& 0x2040 = 0x2040 := Keep.sub hM rfl
  have m12 : M &&& 0xC2040 = 0xC2040 := Keep.sub hM rfl
  have b_vec : M.testBit 7 = true := Keep.bit hM rfl
  have b_upd : M.testBit 6 = true := Keep.bit hM rfl
  unfold State.commitRun
  try dsimp only
  repeat' (first | (with_reducible exact Keep.refl _ _) | (with_reducible assumption) | (fail_if_no_progress (with_reducible apply Keep.upd_upd b_upd)) | (fail_if_no_progress (with_reducible apply Keep.upd_vec b_vec)) | (fail_if_no_progress ((with_reducible refine Keep.updAll ?_ ?_ ?_ ?_ ?_ ?_ ?_ ?_ ?_ ?_ ?_ ?_ ?_ ?_ ?_ ?_ ?_ ?_ ?_ ?_ ?_ ?_ ?_ ?_ ?_ ?_); iterate 25 (first | (with_reducible rfl) | (with_reducible exact fun _ => rfl) | (exact fun b => absurd (b.symm.trans (Keep.bit hM rfl)) (by decide))))) | (with_reducible apply State.dropFinished_keep m0) | (with_reducible apply State.stageRead_keep m1) | (with_reducible apply State.commitMask_keep m2) | (with_reducible apply State.commitBlocks_keep m3) | (with_reducible apply State.countConv_keep m4) | (with_reducible apply State.countNonfinite_keep m5) | (with_reducible apply State.countFrozen_keep m5) | (with_reducible apply State.commitWrite_keep m2) | (with_reducible apply State.countWritten_keep m6) | (with_reducible apply State.traceWindow_keep m7) | (with_reducible apply State.sendMirror_keep m8) | (with_reducible apply State.failShard_keep m9) | (with_reducible apply State.setEntry_keep m10) | (with_reducible apply State.touchDone_keep m11) | (with_reducible apply State.mustWait_keep m12) | (with_reducible apply Keep.foldl) | (with_reducible apply Keep.foldl2) | (with_reducible apply Keep.foldl3) | (intro) | (with_reducible apply Keep.ite) | split | dsimp only | (with_reducible refine Keep.snd (by with_reducible assumption) ?_))

theorem State.settleRun_keep {M : Nat} {z0 : State} (hM : M &&& 0xAEBFF8 = 0xAEBFF8) (r : RunOut) (s : State) (hk : Keep M z0 s) : Keep M z0 (State.settleRun r s).1 := by
  refine hk.trans ?_
  have m0 : M &&& 0xAEBFF8 = 0xAEBFF8 := Keep.sub hM rfl
  have m1 : M &&& 0x80 = 0x80 := Keep.sub hM rfl
  have m2 : M &&& 0xC2FD8 = 0xC2FD8 := Keep.sub hM rfl
  have b_upd : M.testBit 6 = true := Keep.bit hM rfl
  unfold State.settleRun
  try dsimp only
  repeat' (first | (with_reducible exact Keep.refl _ _) | (fail_if_no_progress (with_reducible apply Keep.upd_upd b_upd)) | (with_reducible apply State.commitRun_keep m0) | (with_reducible apply State.dropFinished_keep m1) | (with_reducible apply State.endBad_keep m2) | (with_reducible apply Keep.ite) | split | dsimp only | (with_reducible refine Keep.snd (by with_reducible assumption) ?_))

theorem State.redispatch_keep {M : Nat} {z0 : State} (hM : M &&& 0xC0 = 0xC0) (c : Core) (i : Invoc) (s : State) (hk : Keep M z0 s) : Keep M z0 (State.redispatch c i s) := by
  refine hk.trans ?_
  have m0 : M &&& 0x80 = 0x80 := Keep.sub hM rfl
  have b_vec : M.testBit 7 = true := Keep.bit hM rfl
  have b_upd : M.testBit 6 = true := Keep.bit hM rfl
  unfold State.redispatch
  try dsimp only
  repeat' (first | (with_reducible exact Keep.refl _ _) | (fail_if_no_progress (with_reducible apply Keep.upd_upd b_upd)) | (fail_if_no_progress (with_reducible apply Keep.upd_vec b_vec)) | (fail_if_no_progress ((with_reducible refine Keep.updAll ?_ ?_ ?_ ?_ ?_ ?_ ?_ ?_ ?_ ?_ ?_ ?_ ?_ ?_ ?_ ?_ ?_ ?_ ?_ ?_ ?_ ?_ ?_ ?_ ?_ ?_); iterate 25 (first | (with_reducible rfl) | (with_reducible exact fun _ => rfl) | (exact fun b => absurd (b.symm.trans (Keep.bit hM rfl)) (by decide))))) | (with_reducible apply State.place_keep m0) | (with_reducible apply State.uncheck_keep m0) | (with_reducible apply Keep.ite) | split | (with_reducible refine Keep.snd (by with_reducible assumption) ?_))

theorem State.drainCore_keep {M : Nat} {z0 : State} (hM : M &&& 0xC0 = 0xC0) (c : Core) (s : State) (hk : Keep M z0 s) : Keep M z0 (State.drainCore c s) := by
  refine hk.trans ?_
  have m0 : M &&& 0xC0 = 0xC0 := Keep.sub hM rfl
  have m1 : M &&& 0x80 = 0x80 := Keep.sub hM rfl
  unfold State.drainCore
  try dsimp only
  repeat' (first | (with_reducible exact Keep.refl _ _) | (with_reducible assumption) | (with_reducible apply State.redispatch_keep m0) | (with_reducible apply State.setCore_keep m1) | (with_reducible apply Keep.foldl) | (with_reducible apply Keep.foldl2) | (with_reducible apply Keep.foldl3) | (intro) | dsimp only)

theorem endOp_keep {M : Nat} {z0 : State} (hM : M &&& 0xC2FD8 = 0xC2FD8) (c : Core) (xa : BitVec 5) (s : State) (hk : Keep M z0 s) : Keep M z0 (endOp c xa s) := by
  refine hk.trans ?_
  have m0 : M &&& 0xC2FD8 = 0xC2FD8 := Keep.sub hM rfl
  have m1 : M &&& 0x80 = 0x80 := Keep.sub hM rfl
  unfold endOp
  try dsimp only
  repeat' (first | (with_reducible exact Keep.refl _ _) | (with_reducible apply State.endRun_keep m0) | (with_reducible apply State.setCore_keep m1) | (with_reducible apply Keep.ite) | split)

theorem faultOp_keep {M : Nat} {z0 : State} (hM : M &&& 0xC2FD8 = 0xC2FD8) (c : Core) (xa : BitVec 5) (s : State) (hk : Keep M z0 s) : Keep M z0 (faultOp c xa s) := by
  refine hk.trans ?_
  have m0 : M &&& 0xC2FD8 = 0xC2FD8 := Keep.sub hM rfl
  have m1 : M &&& 0x80 = 0x80 := Keep.sub hM rfl
  unfold faultOp
  try dsimp only
  repeat' (first | (with_reducible exact Keep.refl _ _) | (with_reducible apply State.vcFault_keep m0) | (with_reducible apply State.setCore_keep m1) | (with_reducible apply Keep.ite) | split)

theorem State.veOp_keep {M : Nat} {z0 : State} (hM : M &&& 0x80 = 0x80) (code : Nat) (c : Core) (a : VeArgs) (s : State) (hk : Keep M z0 s) : Keep M z0 (State.veOp code c a s) := by
  refine hk.trans ?_
  have m0 : M &&& 0x80 = 0x80 := Keep.sub hM rfl
  unfold State.veOp
  try dsimp only
  repeat' (first | (with_reducible exact Keep.refl _ _) | (with_reducible apply State.regOp_keep m0) | (intro))

theorem jalr_keep {M : Nat} {z0 : State} (hM : M &&& 0xC2FD8 = 0xC2FD8) (c : Core) (xd xa : BitVec 5) (s : State) (hk : Keep M z0 s) : Keep M z0 (jalr c xd xa s) := by
  refine hk.trans ?_
  have m0 : M &&& 0xC2FD8 = 0xC2FD8 := Keep.sub hM rfl
  have m1 : M &&& 0x80 = 0x80 := Keep.sub hM rfl
  unfold jalr
  try dsimp only
  repeat' (first | (with_reducible exact Keep.refl _ _) | (with_reducible apply State.vcFault_keep m0) | (with_reducible apply State.setCore_keep m1) | (with_reducible apply Keep.ite) | split)

theorem State.fopOp_keep {M : Nat} {z0 : State} (hM : M &&& 0x80 = 0x80) (code : Nat) (c : Core) (a : FopArgs) (s : State) (hk : Keep M z0 s) : Keep M z0 (State.fopOp code c a s) := by
  refine hk.trans ?_
  have m0 : M &&& 0x80 = 0x80 := Keep.sub hM rfl
  unfold State.fopOp
  try dsimp only
  repeat' (first | (with_reducible exact Keep.refl _ _) | (with_reducible apply State.regOp_keep m0) | (intro))

theorem State.storeGlobal_keep {M : Nat} {z0 : State} (hM : M &&& 0x2E3248 = 0x2E3248) (a : U64) (l : List Byte) (s : State) (hk : Keep M z0 s) : Keep M z0 (State.storeGlobal a l s) := by
  refine hk.trans ?_
  have m0 : M &&& 0x2E3248 = 0x2E3248 := Keep.sub hM rfl
  unfold State.storeGlobal
  try dsimp only
  repeat' (first | (with_reducible exact Keep.refl _ _) | (with_reducible apply State.writeMem_keep m0) | split | (with_reducible refine Keep.snd (by with_reducible assumption) ?_))

theorem State.storeAll_keep {M : Nat} {z0 t : State} (hM : M &&& 0x2E32C8 = 0x2E32C8) {c : Core} {g : Bool} {ws : List (U64 × List Byte)} {s : State} (e : s.storeAll c g ws = some t) (hk : Keep M z0 s) : Keep M z0 t := by
  refine hk.trans ?_
  unfold State.storeAll at e
  dsimp only at e
  split at e
  · split at e
    · cases e
    · cases e
      apply State.setCore_keep (Keep.sub hM rfl)
      apply Keep.foldl (Keep.refl _ _)
      intro x a
      apply State.storeGlobal_keep (Keep.sub hM rfl)
      exact Keep.refl _ _
  · split at e
    · cases e
    · cases e
      apply State.setCore_keep (Keep.sub hM rfl)
      exact Keep.refl _ _

theorem State.loadOp_keep {M : Nat} {z0 : State} (hM : M &&& 0xC2FD8 = 0xC2FD8) (c : Core) (rs : List RegRef) (g : Bool) (n : Nat) (d : LoadDest) (addrs : CoreState → List U64) (s : State) (hk : Keep M z0 s) : Keep M z0 (State.loadOp c rs g n d addrs s) := by
  refine hk.trans ?_
  have m0 : M &&& 0xC2FD8 = 0xC2FD8 := Keep.sub hM rfl
  have m1 : M &&& 0x80 = 0x80 := Keep.sub hM rfl
  have m2 : M &&& 0x800 = 0x800 := Keep.sub hM rfl
  unfold State.loadOp
  try dsimp only
  repeat' (first | (with_reducible exact Keep.refl _ _) | (with_reducible assumption) | (with_reducible apply State.vcFault_keep m0) | (with_reducible apply State.setCore_keep m1) | (with_reducible apply State.deliver_keep m2) | (with_reducible apply Keep.ite) | split | dsimp only | (with_reducible refine Keep.snd (by with_reducible assumption) ?_))

theorem State.storeOp_keep {M : Nat} {z0 : State} (hM : M &&& 0x2E3FD8 = 0x2E3FD8) (c : Core) (rs : List RegRef) (g : Bool) (n : Nat) (ws : CoreState → List (U64 × List Byte × Option Rounded)) (s : State) (hk : Keep M z0 s) : Keep M z0 (State.storeOp c rs g n ws s) := by
  refine hk.trans ?_
  have m0 : M &&& 0xC2FD8 = 0xC2FD8 := Keep.sub hM rfl
  have m1 : M &&& 0x80 = 0x80 := Keep.sub hM rfl
  have m2 : M &&& 0x8 = 0x8 := Keep.sub hM rfl
  unfold State.storeOp
  try dsimp only
  repeat' (first | (with_reducible exact Keep.refl _ _) | (with_reducible assumption) | (with_reducible apply State.vcFault_keep m0) | (with_reducible apply State.setCore_keep m1) | (with_reducible apply State.countConv_keep m2) | (with_reducible refine State.storeAll_keep (Keep.sub hM rfl) (by with_reducible assumption) ?_) | (with_reducible apply Keep.ite) | split | dsimp only | (with_reducible refine Keep.snd (by with_reducible assumption) ?_))

theorem State.vloadOp_keep {M : Nat} {z0 : State} (hM : M &&& 0xC2FD8 = 0xC2FD8) (c : Core) (a : VmemArgs) (rs : List RegRef) (f : CoreState → List (Fin 32 × U64)) (s : State) (hk : Keep M z0 s) : Keep M z0 (State.vloadOp c a rs f s) := by
  refine hk.trans ?_
  have m0 : M &&& 0xC2FD8 = 0xC2FD8 := Keep.sub hM rfl
  unfold State.vloadOp
  try dsimp only
  repeat' (first | (with_reducible exact Keep.refl _ _) | (with_reducible assumption) | (with_reducible apply State.loadOp_keep m0) | (intro) | (with_reducible apply Keep.ite) | split | dsimp only)

theorem State.vstoreOp_keep {M : Nat} {z0 : State} (hM : M &&& 0x2E3FD8 = 0x2E3FD8) (c : Core) (a : VmemArgs) (rs : List RegRef) (f : CoreState → List (Fin 32 × U64)) (s : State) (hk : Keep M z0 s) : Keep M z0 (State.vstoreOp c a rs f s) := by
  refine hk.trans ?_
  have m0 : M &&& 0x2E3FD8 = 0x2E3FD8 := Keep.sub hM rfl
  unfold State.vstoreOp
  try dsimp only
  repeat' (first | (with_reducible exact Keep.refl _ _) | (with_reducible assumption) | (with_reducible apply State.storeOp_keep m0) | (intro) | (with_reducible apply Keep.ite) | split | dsimp only)

theorem ldx_keep {M : Nat} {z0 : State} (hM : M &&& 0xC2FD8 = 0xC2FD8) (c : Core) (a : LsxArgs) (s : State) (hk : Keep M z0 s) : Keep M z0 (ldx c a s) := by
  refine hk.trans ?_
  have m0 : M &&& 0xC2FD8 = 0xC2FD8 := Keep.sub hM rfl
  unfold ldx
  try dsimp only
  repeat' (first | (with_reducible exact Keep.refl _ _) | (with_reducible assumption) | (with_reducible apply State.loadOp_keep m0) | (intro) | (with_reducible apply Keep.ite) | split | dsimp only)

theorem stx_keep {M : Nat} {z0 : State} (hM : M &&& 0x2E3FD8 = 0x2E3FD8) (c : Core) (a : LsxArgs) (s : State) (hk : Keep M z0 s) : Keep M z0 (stx c a s) := by
  refine hk.trans ?_
  have m0 : M &&& 0x2E3FD8 = 0x2E3FD8 := Keep.sub hM rfl
  unfold stx
  try dsimp only
  repeat' (first | (with_reducible exact Keep.refl _ _) | (with_reducible assumption) | (with_reducible apply State.storeOp_keep m0) | (intro) | (with_reducible apply Keep.ite) | split | dsimp only)

theorem ldf_keep {M : Nat} {z0 : State} (hM : M &&& 0xC2FD8 = 0xC2FD8) (c : Core) (a : LsfArgs) (s : State) (hk : Keep M z0 s) : Keep M z0 (ldf c a s) := by
  refine hk.trans ?_
  have m0 : M &&& 0xC2FD8 = 0xC2FD8 := Keep.sub hM rfl
  unfold ldf
  try dsimp only
  repeat' (first | (with_reducible exact Keep.refl _ _) | (with_reducible assumption) | (with_reducible apply State.loadOp_keep m0) | (intro) | (with_reducible apply Keep.ite) | split | dsimp only)

theorem stf_keep {M : Nat} {z0 : State} (hM : M &&& 0x2E3FD8 = 0x2E3FD8) (c : Core) (a : LsfArgs) (s : State) (hk : Keep M z0 s) : Keep M z0 (stf c a s) := by
  refine hk.trans ?_
  have m0 : M &&& 0x2E3FD8 = 0x2E3FD8 := Keep.sub hM rfl
  unfold stf
  try dsimp only
  repeat' (first | (with_reducible exact Keep.refl _ _) | (with_reducible assumption) | (with_reducible apply State.storeOp_keep m0) | (intro) | (with_reducible apply Keep.ite) | split | dsimp only)

theorem bldb_keep {M : Nat} {z0 : State} (hM : M &&& 0xC2FD8 = 0xC2FD8) (c : Core) (xd xa xs : BitVec 5) (sel : BitVec 4) (s : State) (hk : Keep M z0 s) : Keep M z0 (bldb c xd xa xs sel s) := by
  refine hk.trans ?_
  have m0 : M &&& 0xC2FD8 = 0xC2FD8 := Keep.sub hM rfl
  have m1 : M &&& 0x80 = 0x80 := Keep.sub hM rfl
  unfold bldb
  try dsimp only
  repeat' (first | (with_reducible exact Keep.refl _ _) | (with_reducible apply State.vcFault_keep m0) | (with_reducible apply State.setCore_keep m1) | (with_reducible apply Keep.ite) | split | (with_reducible refine Keep.snd (by with_reducible assumption) ?_))

theorem bstb_keep {M : Nat} {z0 : State} (hM : M &&& 0xC2FD8 = 0xC2FD8) (c : Core) (xa xs : BitVec 5) (sel : BitVec 4) (s : State) (hk : Keep M z0 s) : Keep M z0 (bstb c xa xs sel s) := by
  refine hk.trans ?_
  have m0 : M &&& 0x280 = 0x280 := Keep.sub hM rfl
  have m1 : M &&& 0xC2FD8 = 0xC2FD8 := Keep.sub hM rfl
  have m2 : M &&& 0x80 = 0x80 := Keep.sub hM rfl
  unfold bstb
  try dsimp only
  repeat' (first | (with_reducible exact Keep.refl _ _) | (with_reducible assumption) | (with_reducible apply State.stageWrite_keep m0) | (with_reducible apply State.vcFault_keep m1) | (with_reducible apply State.setCore_keep m2) | (with_reducible apply Keep.ite) | split | dsimp only | (with_reducible refine Keep.snd (by with_reducible assumption) ?_))

theorem State.noCore_keep {M : Nat} {z0 : State} (hM : M &&& 0xC0080 = 0xC0080) (s : State) (hk : Keep M z0 s) : Keep M z0 (State.noCore s) := by
  refine hk.trans ?_
  have m0 : M &&& 0xC0000 = 0xC0000 := Keep.sub hM rfl
  have b_vec : M.testBit 7 = true := Keep.bit hM rfl
  unfold State.noCore
  try dsimp only
  repeat' (first | (with_reducible exact Keep.refl _ _) | (fail_if_no_progress (with_reducible apply Keep.upd_vec b_vec)) | (with_reducible apply State.record_keep m0) | (with_reducible apply Keep.ite) | split)

theorem State.invoke_keep {M : Nat} {z0 : State} (hM : M &&& 0xC00C0 = 0xC00C0) (e : TensorEntry) (d : DispWin) (s0 s4 : U32) (s : State) (hk : Keep M z0 s) : Keep M z0 (State.invoke e d s0 s4 s) := by
  refine hk.trans ?_
  have m0 : M &&& 0xC0080 = 0xC0080 := Keep.sub hM rfl
  have m1 : M &&& 0x80 = 0x80 := Keep.sub hM rfl
  have m2 : M &&& 0x40 = 0x40 := Keep.sub hM rfl
  have b_vec : M.testBit 7 = true := Keep.bit hM rfl
  unfold State.invoke
  try dsimp only
  repeat' (first | (with_reducible exact Keep.refl _ _) | (fail_if_no_progress (with_reducible apply Keep.upd_vec b_vec)) | (with_reducible apply State.noCore_keep m0) | (with_reducible apply State.place_keep m1) | (with_reducible apply State.dropDisp_keep m2) | (with_reducible apply Keep.ite) | split | (with_reducible refine Keep.snd (by with_reducible assumption) ?_))

theorem invocationDispatch_keep {M : Nat} {z0 : State} (hM : M &&& 0x2E3EC8 = 0x2E3EC8) (ts w : U32) (s : State) (hk : Keep M z0 s) : Keep M z0 (invocationDispatch ts w s) := by
  refine hk.trans ?_
  have m0 : M &&& 0xC00C0 = 0xC00C0 := Keep.sub hM rfl
  have m1 : M &&& 0x40 = 0x40 := Keep.sub hM rfl
  have m2 : M &&& 0x2E3E48 = 0x2E3E48 := Keep.sub hM rfl
  have b_upd : M.testBit 6 = true := Keep.bit hM rfl
  unfold invocationDispatch
  try dsimp only
  repeat' (first | (with_reducible exact Keep.refl _ _) | (fail_if_no_progress (with_reducible apply Keep.upd_upd b_upd)) | (with_reducible apply State.invoke_keep m0) | (with_reducible apply State.dropDisp_keep m1) | (with_reducible apply State.beginStep_keep m2) | (with_reducible apply Keep.ite) | split | dsimp only | (with_reducible refine Keep.snd (by with_reducible assumption) ?_))

theorem invocationCommit_keep {M : Nat} {z0 : State} (hM : M &&& 0xAEBFF8 = 0xAEBFF8) (c : Core) (s : State) (hk : Keep M z0 s) : Keep M z0 (invocationCommit c s) := by
  refine hk.trans ?_
  have m0 : M &&& 0xAEBFF8 = 0xAEBFF8 := Keep.sub hM rfl
  unfold invocationCommit
  try dsimp only
  repeat' (first | (with_reducible exact Keep.refl _ _) | (with_reducible assumption) | (with_reducible apply State.settleRun_keep m0) | split | dsimp only | (with_reducible refine Keep.snd (by with_reducible assumption) ?_))

theorem vcParity_keep {M : Nat} {z0 : State} (hM : M &&& 0x2E00C0 = 0x2E00C0) (c : Core) (unit : U8) (s : State) (hk : Keep M z0 s) : Keep M z0 (vcParity c unit s) := by
  refine hk.trans ?_
  have m0 : M &&& 0xC0 = 0xC0 := Keep.sub hM rfl
  have m1 : M &&& 0x80 = 0x80 := Keep.sub hM rfl
  have m2 : M &&& 0x2E0000 = 0x2E0000 := Keep.sub hM rfl
  have m3 : M &&& 0xC0000 = 0xC0000 := Keep.sub hM rfl
  have b_vec : M.testBit 7 = true := Keep.bit hM rfl
  unfold vcParity
  try dsimp only
  repeat' (first | (with_reducible exact Keep.refl _ _) | (fail_if_no_progress (with_reducible apply Keep.upd_vec b_vec)) | (with_reducible apply State.redispatch_keep m0) | (with_reducible apply State.startNext_keep m1) | (with_reducible apply State.setCore_keep m1) | (with_reducible apply State.charge_keep m2) | (with_reducible apply State.record_keep m3) | split | (with_reducible refine Keep.snd (by with_reducible assumption) ?_))

theorem State.dropRuns_keep {M : Nat} {z0 : State} (hM : M &&& 0x80 = 0x80) (rs : List RunOut) (s : State) (hk : Keep M z0 s) : Keep M z0 (State.dropRuns rs s) := by
  refine hk.trans ?_
  have m0 : M &&& 0x80 = 0x80 := Keep.sub hM rfl
  unfold State.dropRuns
  try dsimp only
  repeat' (first | (with_reducible exact Keep.refl _ _) | (with_reducible assumption) | (with_reducible apply State.dropFinished_keep m0) | (with_reducible apply Keep.foldl) | (with_reducible apply Keep.foldl2) | (with_reducible apply Keep.foldl3) | (intro) | dsimp only)

theorem State.standsWith_keep {M : Nat} {z0 : State} (hM : M &&& 0xAEBFF8 = 0xAEBFF8) (r : RunOut) (others : List RunOut) (after : State → State) (s : State) (hafter : ∀ y0, Keep M y0 (after y0)) (hk : Keep M z0 s) : Keep M z0 (State.standsWith r others after s) := by
  refine hk.trans ?_
  have m0 : M &&& 0x80 = 0x80 := Keep.sub hM rfl
  have m1 : M &&& 0xAEBFF8 = 0xAEBFF8 := Keep.sub hM rfl
  unfold State.standsWith
  try dsimp only
  repeat' (first | (with_reducible exact Keep.refl _ _) | (with_reducible assumption) | (with_reducible apply State.dropRuns_keep m0) | (with_reducible apply State.settleRun_keep m1) | (with_reducible apply Keep.trans _ (hafter ..)) | (with_reducible apply Keep.ite) | split | dsimp only | (with_reducible refine Keep.snd (by with_reducible assumption) ?_))

theorem State.decide3_keep {M : Nat} {z0 : State} (hM : M &&& 0xAEBFF8 = 0xAEBFF8) (a b x : RunOut) (s : State) (hk : Keep M z0 s) : Keep M z0 (State.decide3 a b x s) := by
  refine hk.trans ?_
  have m0 : M &&& 0xAEBFF8 = 0xAEBFF8 := Keep.sub hM rfl
  have m1 : M &&& 0x80 = 0x80 := Keep.sub hM rfl
  have m2 : M &&& 0xC2F58 = 0xC2F58 := Keep.sub hM rfl
  have m3 : M &&& 0x2E0000 = 0x2E0000 := Keep.sub hM rfl
  have m4 : M &&& 0xC0000 = 0xC0000 := Keep.sub hM rfl
  have b_vec : M.testBit 7 = true := Keep.bit hM rfl
  unfold State.decide3
  try dsimp only
  repeat' (first | (with_reducible exact Keep.refl _ _) | (fail_if_no_progress (with_reducible apply Keep.upd_vec b_vec)) | (with_reducible apply State.standsWith_keep m0) | (with_reducible apply State.dropRuns_keep m1) | (with_reducible apply State.failShard_keep m2) | (with_reducible apply State.charge_keep m3) | (with_reducible apply State.record_keep m4) | (intro) | (with_reducible apply Keep.ite) | split)

theorem State.startThird_keep {M : Nat} {z0 : State} (hM : M &&& 0xAEBFF8 = 0xAEBFF8) (a b : RunOut) (s : State) (hk : Keep M z0 s) : Keep M z0 (State.startThird a b s) := by
  refine hk.trans ?_
  have m0 : M &&& 0xAEBFF8 = 0xAEBFF8 := Keep.sub hM rfl
  have m1 : M &&& 0x80 = 0x80 := Keep.sub hM rfl
  unfold State.startThird
  try dsimp only
  repeat' (first | (with_reducible exact Keep.refl _ _) | (with_reducible apply State.standsWith_keep m0) | (with_reducible apply State.place_keep m1) | (intro) | (with_reducible apply Keep.ite) | split | dsimp only [id] | (with_reducible refine Keep.snd (by with_reducible assumption) ?_))

theorem vcCheck_keep {M : Nat} {z0 : State} (hM : M &&& 0xAEBFF8 = 0xAEBFF8) (c : Core) (s : State) (hk : Keep M z0 s) : Keep M z0 (vcCheck c s) := by
  refine hk.trans ?_
  have m0 : M &&& 0xAEBFF8 = 0xAEBFF8 := Keep.sub hM rfl
  have b_vec : M.testBit 7 = true := Keep.bit hM rfl
  unfold vcCheck
  try dsimp only
  repeat' (first | (with_reducible exact Keep.refl _ _) | (with_reducible assumption) | (fail_if_no_progress (with_reducible apply Keep.upd_vec b_vec)) | (with_reducible apply State.startThird_keep m0) | (with_reducible apply State.decide3_keep m0) | (with_reducible apply State.standsWith_keep m0) | (intro) | (with_reducible apply Keep.ite) | split | dsimp only | (with_reducible refine Keep.snd (by with_reducible assumption) ?_))

theorem State.bldbDone_keep {M : Nat} {z0 : State} (hM : M &&& 0x2E32C8 = 0x2E32C8) (c : Core) (r : BitVec 5) (st : Stream) (idx scratch : U32) (s : State) (hk : Keep M z0 s) : Keep M z0 (State.bldbDone c r st idx scratch s) := by
  refine hk.trans ?_
  have m0 : M &&& 0x80 = 0x80 := Keep.sub hM rfl
  have m1 : M &&& 0x2E3248 = 0x2E3248 := Keep.sub hM rfl
  have b_vec : M.testBit 7 = true := Keep.bit hM rfl
  unfold State.bldbDone
  try dsimp only
  repeat' (first | (with_reducible exact Keep.refl _ _) | (fail_if_no_progress (with_reducible apply Keep.upd_vec b_vec)) | (with_reducible apply State.setCore_keep m0) | (with_reducible apply State.readBlock_keep m1) | split | dsimp only | (with_reducible refine Keep.snd (by with_reducible assumption) ?_))

theorem State.endIfDone_keep {M : Nat} {z0 : State} (hM : M &&& 0xC2FD8 = 0xC2FD8) (c : Core) (s : State) (hk : Keep M z0 s) : Keep M z0 (State.endIfDone c s) := by
  refine hk.trans ?_
  have m0 : M &&& 0xC2FD8 = 0xC2FD8 := Keep.sub hM rfl
  unfold State.endIfDone
  try dsimp only
  repeat' (first | (with_reducible exact Keep.refl _ _) | (with_reducible apply State.endRun_keep m0) | (with_reducible apply Keep.ite) | split | (with_reducible refine Keep.snd (by with_reducible assumption) ?_))

theorem State.readLanes_keep {M : Nat} {z0 : State} (hM : M &&& 0x2E3248 = 0x2E3248) (n : Nat) (as : List U64) (s : State) (hk : Keep M z0 s) : Keep M z0 (State.readLanes n as s).2.2 := by
  refine hk.trans ?_
  have m0 : M &&& 0x2E3248 = 0x2E3248 := Keep.sub hM rfl
  unfold State.readLanes
  try dsimp only
  repeat' (first | (with_reducible exact Keep.refl _ _) | (with_reducible assumption) | (with_reducible apply State.readMem_keep m0) | (with_reducible apply Keep.foldl) | (with_reducible apply Keep.foldl2) | (with_reducible apply Keep.foldl3) | (intro) | (with_reducible apply Keep.ite) | split | dsimp only | (with_reducible refine Keep.snd (by with_reducible assumption) ?_))

theorem vcLoadComplete_keep {M : Nat} {z0 : State} (hM : M &&& 0x2E3FD8 = 0x2E3FD8) (c : Core) (s : State) (hk : Keep M z0 s) : Keep M z0 (vcLoadComplete c s) := by
  refine hk.trans ?_
  have m0 : M &&& 0x2E3248 = 0x2E3248 := Keep.sub hM rfl
  have m1 : M &&& 0xC2FD8 = 0xC2FD8 := Keep.sub hM rfl
  have m2 : M &&& 0x2E32C8 = 0x2E32C8 := Keep.sub hM rfl
  have m3 : M &&& 0x80 = 0x80 := Keep.sub hM rfl
  have m4 : M &&& 0x800 = 0x800 := Keep.sub hM rfl
  unfold vcLoadComplete
  try dsimp only
  repeat' (first | (with_reducible exact Keep.refl _ _) | (with_reducible apply State.readLanes_keep m0) | (with_reducible apply State.endIfDone_keep m1) | (with_reducible apply State.bldbDone_keep m2) | (with_reducible apply State.endRun_keep m1) | (with_reducible apply State.setCore_keep m3) | (with_reducible apply State.deliver_keep m4) | split | dsimp only | (with_reducible refine Keep.snd (by with_reducible assumption) ?_))

theorem bstbCopyComplete_keep {M : Nat} {z0 : State} (hM : M &&& 0xC2FD8 = 0xC2FD8) (c : Core) (s : State) (hk : Keep M z0 s) : Keep M z0 (bstbCopyComplete c s) := by
  refine hk.trans ?_
  have m0 : M &&& 0xC2FD8 = 0xC2FD8 := Keep.sub hM rfl
  have m1 : M &&& 0x80 = 0x80 := Keep.sub hM rfl
  unfold bstbCopyComplete
  try dsimp only
  repeat' (first | (with_reducible exact Keep.refl _ _) | (with_reducible apply State.endIfDone_keep m0) | (with_reducible apply State.setCore_keep m1))

theorem State.refuseCode_keep {M : Nat} {z0 : State} (hM : M &&& 0xC0080 = 0xC0080) (slot : Fin 16) (err : Nat) (s : State) (hk : Keep M z0 s) : Keep M z0 (State.refuseCode slot err s) := by
  refine hk.trans ?_
  have m0 : M &&& 0xC0000 = 0xC0000 := Keep.sub hM rfl
  have b_vec : M.testBit 7 = true := Keep.bit hM rfl
  unfold State.refuseCode
  try dsimp only
  repeat' (first | (with_reducible exact Keep.refl _ _) | (fail_if_no_progress (with_reducible apply Keep.upd_vec b_vec)) | (with_reducible apply State.record_keep m0))

theorem codeSlotWrite_keep {M : Nat} {z0 : State} (hM : M &&& 0xC0080 = 0xC0080) (slot : Fin 16) (bytes : List Byte) (s : State) (hk : Keep M z0 s) : Keep M z0 (codeSlotWrite slot bytes s) := by
  refine hk.trans ?_
  have m0 : M &&& 0xC0080 = 0xC0080 := Keep.sub hM rfl
  have b_vec : M.testBit 7 = true := Keep.bit hM rfl
  unfold codeSlotWrite
  try dsimp only
  repeat' (first | (with_reducible exact Keep.refl _ _) | (fail_if_no_progress (with_reducible apply Keep.upd_vec b_vec)) | (with_reducible apply State.refuseCode_keep m0) | (with_reducible apply Keep.ite) | split | (with_reducible refine Keep.snd (by with_reducible assumption) ?_))

theorem State.refuseVec_keep {M : Nat} {z0 : State} (hM : M &&& 0xC0080 = 0xC0080) (off : Nat) (s : State) (hk : Keep M z0 s) : Keep M z0 (State.refuseVec off s) := by
  refine hk.trans ?_
  have m0 : M &&& 0xC0000 = 0xC0000 := Keep.sub hM rfl
  have b_vec : M.testBit 7 = true := Keep.bit hM rfl
  unfold State.refuseVec
  try dsimp only
  repeat' (first | (with_reducible exact Keep.refl _ _) | (fail_if_no_progress (with_reducible apply Keep.upd_vec b_vec)) | (with_reducible apply State.record_keep m0))

theorem vectorEntryWrite_keep {M : Nat} {z0 : State} (hM : M &&& 0xC0080 = 0xC0080) (bytes : List Byte) (s : State) (hk : Keep M z0 s) : Keep M z0 (vectorEntryWrite bytes s) := by
  refine hk.trans ?_
  have m0 : M &&& 0xC0080 = 0xC0080 := Keep.sub hM rfl
  have b_vec : M.testBit 7 = true := Keep.bit hM rfl
  unfold vectorEntryWrite
  try dsimp only
  repeat' (first | (with_reducible exact Keep.refl _ _) | (fail_if_no_progress (with_reducible apply Keep.upd_vec b_vec)) | (with_reducible apply State.refuseVec_keep m0) | (with_reducible apply Keep.ite) | split | (with_reducible refine Keep.snd (by with_reducible assumption) ?_))

theorem State.readC_keep {M : Nat} {z0 : State} (hM : M &&& 0x2E3348 = 0x2E3348) (e : TensorEntry) (step : U32) (seen again : Bool) (b : Nat) (r : CRead) (s : State) (hk : Keep M z0 s) : Keep M z0 (State.readC e step seen again b r s).2 := by
  refine hk.trans ?_
  have m0 : M &&& 0x2E3248 = 0x2E3248 := Keep.sub hM rfl
  have m1 : M &&& 0xC0000 = 0xC0000 := Keep.sub hM rfl
  have b_str : M.testBit 8 = true := Keep.bit hM rfl
  unfold State.readC
  try dsimp only
  repeat' (first | (with_reducible exact Keep.refl _ _) | (fail_if_no_progress (with_reducible apply Keep.upd_str b_str)) | (with_reducible apply State.readBlock_keep m0) | (with_reducible apply State.record_keep m1) | (with_reducible apply Keep.ite) | split | dsimp only | (with_reducible refine Keep.snd (by with_reducible assumption) ?_))

theorem State.weightBlock_keep {M : Nat} {z0 : State} (hM : M &&& 0xAEBF78 = 0xAEBF78) (e : TensorEntry) (g : Segment) (p : Pass) (b : Nat) (resend : Bool) (s : State) (hk : Keep M z0 s) : Keep M z0 (State.weightBlock e g p b resend s).2.2 := by
  refine hk.trans ?_
  have m0 : M &&& 0x2E3348 = 0x2E3348 := Keep.sub hM rfl
  have m1 : M &&& 0xAEBF78 = 0xAEBF78 := Keep.sub hM rfl
  have b_chk : M.testBit 3 = true := Keep.bit hM rfl
  unfold State.weightBlock
  try dsimp only
  repeat' (first | (with_reducible exact Keep.refl _ _) | (with_reducible assumption) | (fail_if_no_progress (with_reducible apply Keep.upd_chk b_chk)) | (with_reducible apply State.readC_keep m0) | (with_reducible apply State.seal_keep m1) | (with_reducible apply Keep.foldl) | (with_reducible apply Keep.foldl2) | (with_reducible apply Keep.foldl3) | (intro) | (with_reducible apply Keep.ite) | split | dsimp only | (with_reducible refine Keep.snd (by with_reducible assumption) ?_))

theorem countSent_keep {M : Nat} {z0 : State} (hM : M &&& 0x100 = 0x100) (s : State) (hk : Keep M z0 s) : Keep M z0 (countSent s) := by
  refine hk.trans ?_
  have b_str : M.testBit 8 = true := Keep.bit hM rfl
  unfold countSent
  try dsimp only
  repeat' (first | (with_reducible exact Keep.refl _ _) | (fail_if_no_progress (with_reducible apply Keep.upd_str b_str)))

theorem State.sendToLink_keep {M : Nat} {z0 : State} (hM : M &&& 0xAEBF78 = 0xAEBF78) (g : Segment) (b : Block) (p : Port) (s : State) (hk : Keep M z0 s) : Keep M z0 (State.sendToLink g b p s) := by
  refine hk.trans ?_
  have m0 : M &&& 0x100 = 0x100 := Keep.sub hM rfl
  have m1 : M &&& 0xAEBF78 = 0xAEBF78 := Keep.sub hM rfl
  have m2 : M &&& 0x40C00 = 0x40C00 := Keep.sub hM rfl
  unfold State.sendToLink
  try dsimp only
  repeat' (first | (with_reducible exact Keep.refl _ _) | (with_reducible apply countSent_keep m0) | (with_reducible apply State.seal_keep m1) | (with_reducible apply State.sendOn_keep m2))

theorem State.sendToDevice_keep {M : Nat} {z0 : State} (hM : M &&& 0xAEBF78 = 0xAEBF78) (b : Block) (d : U32) (s : State) (hk : Keep M z0 s) : Keep M z0 (State.sendToDevice b d s) := by
  refine hk.trans ?_
  have m0 : M &&& 0x100 = 0x100 := Keep.sub hM rfl
  have m1 : M &&& 0xAEBF78 = 0xAEBF78 := Keep.sub hM rfl
  have m2 : M &&& 0xC0C00 = 0xC0C00 := Keep.sub hM rfl
  unfold State.sendToDevice
  try dsimp only
  repeat' (first | (with_reducible exact Keep.refl _ _) | (with_reducible apply countSent_keep m0) | (with_reducible apply State.seal_keep m1) | (with_reducible apply State.send_keep m2))

theorem State.setPassState_keep {M : Nat} {z0 : State} (hM : M &&& 0x100 = 0x100) (p : Pass) (s : State) (hk : Keep M z0 s) : Keep M z0 (State.setPassState p s) := by
  refine hk.trans ?_
  have b_str : M.testBit 8 = true := Keep.bit hM rfl
  unfold State.setPassState
  try dsimp only
  repeat' (first | (with_reducible exact Keep.refl _ _) | (with_reducible assumption) | (fail_if_no_progress (with_reducible apply Keep.upd_str b_str)) | (with_reducible apply Keep.ite) | split | dsimp only)

theorem State.convertNext_keep {M : Nat} {z0 : State} (hM : M &&& 0xAEBF78 = 0xAEBF78) (p : Pass) (g : StreamProg) (s : State) (hk : Keep M z0 s) : Keep M z0 (State.convertNext p g s).2 := by
  refine hk.trans ?_
  have m0 : M &&& 0xAEBF78 = 0xAEBF78 := Keep.sub hM rfl
  unfold State.convertNext
  try dsimp only
  repeat' (first | (with_reducible exact Keep.refl _ _) | (with_reducible apply State.weightBlock_keep m0) | (with_reducible apply Keep.ite) | split | dsimp only | (with_reducible refine Keep.snd (by with_reducible assumption) ?_))

theorem State.sendNext_keep {M : Nat} {z0 : State} (hM : M &&& 0xAEBF78 = 0xAEBF78) (p : Pass) (g : StreamProg) (s : State) (hk : Keep M z0 s) : Keep M z0 (State.sendNext p g s) := by
  refine hk.trans ?_
  have m0 : M &&& 0x100 = 0x100 := Keep.sub hM rfl
  have m1 : M &&& 0xAEBF78 = 0xAEBF78 := Keep.sub hM rfl
  unfold State.sendNext
  try dsimp only
  repeat' (first | (with_reducible exact Keep.refl _ _) | (with_reducible assumption) | (with_reducible apply State.setPassState_keep m0) | (with_reducible apply State.sendToDevice_keep m1) | (with_reducible apply State.sendToLink_keep m1) | (with_reducible apply Keep.foldl) | (with_reducible apply Keep.foldl2) | (with_reducible apply Keep.foldl3) | (intro) | split | dsimp only | (with_reducible refine Keep.snd (by with_reducible assumption) ?_))

theorem weightBlockSend_keep {M : Nat} {z0 : State} (hM : M &&& 0xAEBF78 = 0xAEBF78) (prog : U8) (step : U32) (s : State) (hk : Keep M z0 s) : Keep M z0 (weightBlockSend prog step s) := by
  refine hk.trans ?_
  have m0 : M &&& 0xAEBF78 = 0xAEBF78 := Keep.sub hM rfl
  have m1 : M &&& 0x100 = 0x100 := Keep.sub hM rfl
  unfold weightBlockSend
  try dsimp only
  repeat' (first | (with_reducible exact Keep.refl _ _) | (with_reducible apply State.sendNext_keep m0) | (with_reducible apply State.convertNext_keep m0) | (with_reducible apply State.setPassState_keep m1) | (with_reducible apply Keep.ite) | split | dsimp only | (with_reducible refine Keep.snd (by with_reducible assumption) ?_))

theorem streamStall_keep {M : Nat} {z0 : State} (hM : M &&& 0xC0100 = 0xC0100) (prog : U8) (step : U32) (port : Port) (s : State) (hk : Keep M z0 s) : Keep M z0 (streamStall prog step port s) := by
  refine hk.trans ?_
  have m0 : M &&& 0x100 = 0x100 := Keep.sub hM rfl
  have m1 : M &&& 0xC0000 = 0xC0000 := Keep.sub hM rfl
  unfold streamStall
  try dsimp only
  repeat' (first | (with_reducible exact Keep.refl _ _) | (with_reducible apply State.setPassState_keep m0) | (with_reducible apply State.record_keep m1) | (with_reducible apply Keep.ite) | split | (with_reducible refine Keep.snd (by with_reducible assumption) ?_))

theorem passEnd_keep {M : Nat} {z0 : State} (hM : M &&& 0x80100 = 0x80100) (prog : U8) (step : U32) (s : State) (hk : Keep M z0 s) : Keep M z0 (passEnd prog step s) := by
  refine hk.trans ?_
  have m0 : M &&& 0x100 = 0x100 := Keep.sub hM rfl
  have m1 : M &&& 0x80100 = 0x80100 := Keep.sub hM rfl
  unfold passEnd
  try dsimp only
  repeat' (first | (with_reducible exact Keep.refl _ _) | (with_reducible assumption) | (with_reducible apply State.startPass_keep m0) | (with_reducible apply State.endPass_keep m1) | (with_reducible apply Keep.foldl) | (with_reducible apply Keep.foldl2) | (with_reducible apply Keep.foldl3) | (intro) | (with_reducible apply Keep.ite) | split | dsimp only | (with_reducible refine Keep.snd (by with_reducible assumption) ?_))

theorem State.refuseStart_keep {M : Nat} {z0 : State} (hM : M &&& 0xC0100 = 0xC0100) (p : U8) (step : U32) (s : State) (hk : Keep M z0 s) : Keep M z0 (State.refuseStart p step s) := by
  refine hk.trans ?_
  have m0 : M &&& 0xC0000 = 0xC0000 := Keep.sub hM rfl
  have b_str : M.testBit 8 = true := Keep.bit hM rfl
  unfold State.refuseStart
  try dsimp only
  repeat' (first | (with_reducible exact Keep.refl _ _) | (fail_if_no_progress (with_reducible apply Keep.upd_str b_str)) | (with_reducible apply State.record_keep m0))

theorem streamStartAction_keep {M : Nat} {z0 : State} (hM : M &&& 0xC0120 = 0xC0120) (v : U64) (s : State) (hk : Keep M z0 s) : Keep M z0 (streamStartAction v s) := by
  refine hk.trans ?_
  have m0 : M &&& 0xC0100 = 0xC0100 := Keep.sub hM rfl
  have m1 : M &&& 0x100 = 0x100 := Keep.sub hM rfl
  have b_red : M.testBit 5 = true := Keep.bit hM rfl
  unfold streamStartAction
  try dsimp only
  repeat' (first | (with_reducible exact Keep.refl _ _) | (fail_if_no_progress (with_reducible apply Keep.upd_red b_red)) | (with_reducible apply State.refuseStart_keep m0) | (with_reducible apply State.startPass_keep m1) | (with_reducible apply Keep.ite) | split | (with_reducible refine Keep.snd (by with_reducible assumption) ?_))

theorem State.resendWeight_keep {M : Nat} {z0 : State} (hM : M &&& 0xAEBF78 = 0xAEBF78) (p : Pass) (u : Unacked) (s : State) (hk : Keep M z0 s) : Keep M z0 (State.resendWeight p u s) := by
  refine hk.trans ?_
  have m0 : M &&& 0x100 = 0x100 := Keep.sub hM rfl
  have m1 : M &&& 0xAEBF78 = 0xAEBF78 := Keep.sub hM rfl
  unfold State.resendWeight
  try dsimp only
  repeat' (first | (with_reducible exact Keep.refl _ _) | (with_reducible apply State.setPassState_keep m0) | (with_reducible apply State.sendToDevice_keep m1) | (with_reducible apply State.weightBlock_keep m1) | split | dsimp only | (with_reducible refine Keep.snd (by with_reducible assumption) ?_))

theorem countResend_keep {M : Nat} {z0 : State} (hM : M &&& 0x100 = 0x100) (s : State) (hk : Keep M z0 s) : Keep M z0 (countResend s) := by
  refine hk.trans ?_
  have b_str : M.testBit 8 = true := Keep.bit hM rfl
  unfold countResend
  try dsimp only
  repeat' (first | (with_reducible exact Keep.refl _ _) | (fail_if_no_progress (with_reducible apply Keep.upd_str b_str)))

theorem weightAckTimeout_keep {M : Nat} {z0 : State} (hM : M &&& 0xAEBF78 = 0xAEBF78) (prog : U8) (step : U32) (u : Unacked) (s : State) (hk : Keep M z0 s) : Keep M z0 (weightAckTimeout prog step u s) := by
  refine hk.trans ?_
  have m0 : M &&& 0x100 = 0x100 := Keep.sub hM rfl
  have m1 : M &&& 0xAEBF78 = 0xAEBF78 := Keep.sub hM rfl
  unfold weightAckTimeout
  try dsimp only
  repeat' (first | (with_reducible exact Keep.refl _ _) | (with_reducible apply countResend_keep m0) | (with_reducible apply State.resendWeight_keep m1) | (with_reducible apply Keep.ite) | split | (with_reducible refine Keep.snd (by with_reducible assumption) ?_))

theorem weightBlockAckReceive_keep {M : Nat} {z0 : State} (hM : M &&& 0x900 = 0x900) (pk : Trans) (s : State) (hk : Keep M z0 s) : Keep M z0 (weightBlockAckReceive pk s) := by
  refine hk.trans ?_
  have m0 : M &&& 0x800 = 0x800 := Keep.sub hM rfl
  have b_str : M.testBit 8 = true := Keep.bit hM rfl
  unfold weightBlockAckReceive
  try dsimp only
  repeat' (first | (with_reducible exact Keep.refl _ _) | (with_reducible assumption) | (fail_if_no_progress (with_reducible apply Keep.upd_str b_str)) | (with_reducible apply State.takePk_keep m0) | split | dsimp only | (with_reducible refine Keep.snd (by with_reducible assumption) ?_))

theorem State.resendOne_keep {M : Nat} {z0 : State} (hM : M &&& 0xAEBF78 = 0xAEBF78) (pk : Trans) (s : State) (b : Nat) (hk : Keep M z0 s) : Keep M z0 (State.resendOne pk s b) := by
  refine hk.trans ?_
  have m0 : M &&& 0x100 = 0x100 := Keep.sub hM rfl
  have m1 : M &&& 0xAEBF78 = 0xAEBF78 := Keep.sub hM rfl
  have b_str : M.testBit 8 = true := Keep.bit hM rfl
  unfold State.resendOne
  try dsimp only
  repeat' (first | (with_reducible exact Keep.refl _ _) | (with_reducible assumption) | (fail_if_no_progress (with_reducible apply Keep.upd_str b_str)) | (with_reducible apply countResend_keep m0) | (with_reducible apply State.resendWeight_keep m1) | (with_reducible apply State.setPassState_keep m0) | (with_reducible apply State.sendToLink_keep m1) | (with_reducible apply State.weightBlock_keep m1) | (with_reducible apply Keep.ite) | split | dsimp only | (with_reducible refine Keep.snd (by with_reducible assumption) ?_))

theorem weightResendReqReceive_keep {M : Nat} {z0 : State} (hM : M &&& 0xAEBF78 = 0xAEBF78) (pk : Trans) (s : State) (hk : Keep M z0 s) : Keep M z0 (weightResendReqReceive pk s) := by
  refine hk.trans ?_
  have m0 : M &&& 0xAEBF78 = 0xAEBF78 := Keep.sub hM rfl
  have m1 : M &&& 0x100 = 0x100 := Keep.sub hM rfl
  have m2 : M &&& 0x800 = 0x800 := Keep.sub hM rfl
  unfold weightResendReqReceive
  try dsimp only
  repeat' (first | (with_reducible exact Keep.refl _ _) | (with_reducible assumption) | (with_reducible apply State.resendOne_keep m0) | (with_reducible apply countResend_keep m1) | (with_reducible apply State.takePk_keep m2) | (with_reducible apply Keep.foldl) | (with_reducible apply Keep.foldl2) | (with_reducible apply Keep.foldl3) | (intro) | (with_reducible apply Keep.ite) | split | dsimp only)

theorem relayRetry_keep {M : Nat} {z0 : State} (hM : M &&& 0xAEBF78 = 0xAEBF78) (prog : U8) (step : U32) (u : Unacked) (s : State) (hk : Keep M z0 s) : Keep M z0 (relayRetry prog step u s) := by
  refine hk.trans ?_
  have m0 : M &&& 0xAEBF78 = 0xAEBF78 := Keep.sub hM rfl
  have b_str : M.testBit 8 = true := Keep.bit hM rfl
  unfold relayRetry
  try dsimp only
  repeat' (first | (with_reducible exact Keep.refl _ _) | (with_reducible assumption) | (fail_if_no_progress (with_reducible apply Keep.upd_str b_str)) | (with_reducible apply State.resendWeight_keep m0) | (with_reducible apply Keep.ite) | split | dsimp only | (with_reducible refine Keep.snd (by with_reducible assumption) ?_))

theorem State.ackWeight_keep {M : Nat} {z0 : State} (hM : M &&& 0xC0C00 = 0xC0C00) (h : Header) (s : State) (hk : Keep M z0 s) : Keep M z0 (State.ackWeight h s) := by
  refine hk.trans ?_
  have m0 : M &&& 0xC0C00 = 0xC0C00 := Keep.sub hM rfl
  unfold State.ackWeight
  try dsimp only
  repeat' (first | (with_reducible exact Keep.refl _ _) | (with_reducible apply State.sendAck_keep m0))

theorem State.refuseRelay_keep {M : Nat} {z0 : State} (hM : M &&& 0xC0D00 = 0xC0D00) (h : Header) (s : State) (hk : Keep M z0 s) : Keep M z0 (State.refuseRelay h s) := by
  refine hk.trans ?_
  have m0 : M &&& 0xC0C00 = 0xC0C00 := Keep.sub hM rfl
  have b_str : M.testBit 8 = true := Keep.bit hM rfl
  unfold State.refuseRelay
  try dsimp only
  repeat' (first | (with_reducible exact Keep.refl _ _) | (fail_if_no_progress (with_reducible apply Keep.upd_str b_str)) | (with_reducible apply State.sendResend_keep m0))

theorem countDiscard_keep {M : Nat} {z0 : State} (hM : M &&& 0x100 = 0x100) (s : State) (hk : Keep M z0 s) : Keep M z0 (countDiscard s) := by
  refine hk.trans ?_
  have b_str : M.testBit 8 = true := Keep.bit hM rfl
  unfold countDiscard
  try dsimp only
  repeat' (first | (with_reducible exact Keep.refl _ _) | (fail_if_no_progress (with_reducible apply Keep.upd_str b_str)))

theorem State.relay_keep {M : Nat} {z0 : State} (hM : M &&& 0xAEBF78 = 0xAEBF78) (p : Pass) (g : StreamProg) (i : Nat) (sg : Segment) (b : Block) (s : State) (hk : Keep M z0 s) : Keep M z0 (State.relay p g i sg b s) := by
  refine hk.trans ?_
  have m0 : M &&& 0xC0C00 = 0xC0C00 := Keep.sub hM rfl
  have m1 : M &&& 0x100 = 0x100 := Keep.sub hM rfl
  have m2 : M &&& 0xAEBF78 = 0xAEBF78 := Keep.sub hM rfl
  have b_str : M.testBit 8 = true := Keep.bit hM rfl
  unfold State.relay
  try dsimp only
  repeat' (first | (with_reducible exact Keep.refl _ _) | (with_reducible assumption) | (fail_if_no_progress (with_reducible apply Keep.upd_str b_str)) | (with_reducible apply State.ackWeight_keep m0) | (with_reducible apply State.setPassState_keep m1) | (with_reducible apply State.sendToLink_keep m2) | (with_reducible apply Keep.foldl) | (with_reducible apply Keep.foldl2) | (with_reducible apply Keep.foldl3) | (intro) | dsimp only)

theorem weightRelay_keep {M : Nat} {z0 : State} (hM : M &&& 0xAEBF78 = 0xAEBF78) (b : Block) (s : State) (hk : Keep M z0 s) : Keep M z0 (weightRelay b s) := by
  refine hk.trans ?_
  have m0 : M &&& 0xAEBF78 = 0xAEBF78 := Keep.sub hM rfl
  have m1 : M &&& 0x100 = 0x100 := Keep.sub hM rfl
  have m2 : M &&& 0xC0D00 = 0xC0D00 := Keep.sub hM rfl
  have m3 : M &&& 0xC0C00 = 0xC0C00 := Keep.sub hM rfl
  have m4 : M &&& 0x800 = 0x800 := Keep.sub hM rfl
  unfold weightRelay
  try dsimp only
  repeat' (first | (with_reducible exact Keep.refl _ _) | (with_reducible assumption) | (with_reducible apply State.relay_keep m0) | (with_reducible apply countDiscard_keep m1) | (with_reducible apply State.refuseRelay_keep m2) | (with_reducible apply State.ackWeight_keep m3) | (with_reducible apply State.takePk_keep m4) | (with_reducible apply Keep.ite) | split | dsimp only | (with_reducible refine Keep.snd (by with_reducible assumption) ?_))

theorem State.refuseStream_keep {M : Nat} {z0 : State} (hM : M &&& 0xC0100 = 0xC0100) (f : StrState → StrState) (s : State) (hk : Keep M z0 s) : Keep M z0 (State.refuseStream f s) := by
  refine hk.trans ?_
  have m0 : M &&& 0xC0000 = 0xC0000 := Keep.sub hM rfl
  have b_str : M.testBit 8 = true := Keep.bit hM rfl
  unfold State.refuseStream
  try dsimp only
  repeat' (first | (with_reducible exact Keep.refl _ _) | (with_reducible assumption) | (fail_if_no_progress (with_reducible apply Keep.upd_str b_str)) | (with_reducible apply State.record_keep m0) | (with_reducible apply Keep.trans _ (hf ..)))

theorem streamProgramTableWrite_keep {M : Nat} {z0 : State} (hM : M &&& 0xC0100 = 0xC0100) (bytes : List Byte) (s : State) (hk : Keep M z0 s) : Keep M z0 (streamProgramTableWrite bytes s) := by
  refine hk.trans ?_
  have m0 : M &&& 0xC0100 = 0xC0100 := Keep.sub hM rfl
  have b_str : M.testBit 8 = true := Keep.bit hM rfl
  unfold streamProgramTableWrite
  try dsimp only
  repeat' (first | (with_reducible exact Keep.refl _ _) | (with_reducible assumption) | (fail_if_no_progress (with_reducible apply Keep.upd_str b_str)) | (with_reducible apply State.refuseStream_keep m0) | (intro) | (with_reducible apply Keep.ite) | split | dsimp only | (with_reducible refine Keep.snd (by with_reducible assumption) ?_))

theorem segmentTableWrite_keep {M : Nat} {z0 : State} (hM : M &&& 0xC0100 = 0xC0100) (bytes : List Byte) (s : State) (hk : Keep M z0 s) : Keep M z0 (segmentTableWrite bytes s) := by
  refine hk.trans ?_
  have m0 : M &&& 0xC0100 = 0xC0100 := Keep.sub hM rfl
  have m1 : M &&& 0xC0000 = 0xC0000 := Keep.sub hM rfl
  have b_str : M.testBit 8 = true := Keep.bit hM rfl
  unfold segmentTableWrite
  try dsimp only
  repeat' (first | (with_reducible exact Keep.refl _ _) | (with_reducible assumption) | (fail_if_no_progress (with_reducible apply Keep.upd_str b_str)) | (with_reducible apply State.refuseStream_keep m0) | (with_reducible apply State.record_keep m1) | (intro) | (with_reducible apply Keep.ite) | split | dsimp only | (with_reducible refine Keep.snd (by with_reducible assumption) ?_))

theorem State.readResp_keep {M : Nat} {z0 : State} (hM : M &&& 0xAEBF78 = 0xAEBF78) (pk : Trans) (status : U8) (body : List Byte) (s : State) (hk : Keep M z0 s) : Keep M z0 (State.readResp pk status body s) := by
  refine hk.trans ?_
  have m0 : M &&& 0xAEBF78 = 0xAEBF78 := Keep.sub hM rfl
  have m1 : M &&& 0xC0C00 = 0xC0C00 := Keep.sub hM rfl
  unfold State.readResp
  try dsimp only
  repeat' (first | (with_reducible exact Keep.refl _ _) | (with_reducible apply State.seal_keep m0) | (with_reducible apply State.send_keep m1) | (with_reducible apply Keep.ite) | split)

theorem State.countRefused_keep {M : Nat} {z0 : State} (hM : M &&& 0xC0200 = 0xC0200) (event : Bool) (pk : Trans) (s : State) (hk : Keep M z0 s) : Keep M z0 (State.countRefused event pk s) := by
  refine hk.trans ?_
  have m0 : M &&& 0xC0000 = 0xC0000 := Keep.sub hM rfl
  have b_mem : M.testBit 9 = true := Keep.bit hM rfl
  unfold State.countRefused
  try dsimp only
  repeat' (first | (with_reducible exact Keep.refl _ _) | (fail_if_no_progress ((with_reducible refine Keep.upd_memHL b_mem ?_ ?_ ?_); (with_reducible rfl); (with_reducible rfl))) | (with_reducible apply State.record_keep m0) | (with_reducible apply Keep.ite) | split)

theorem State.agentWrite_keep {M : Nat} {z0 : State} (hM : M &&& 0xC0100 = 0xC0100) (pk : Trans) (s : State) (hk : Keep M z0 s) : Keep M z0 (State.agentWrite pk s) := by
  refine hk.trans ?_
  have m0 : M &&& 0xC0000 = 0xC0000 := Keep.sub hM rfl
  have b_str : M.testBit 8 = true := Keep.bit hM rfl
  unfold State.agentWrite
  try dsimp only
  repeat' (first | (with_reducible exact Keep.refl _ _) | (fail_if_no_progress (with_reducible apply Keep.upd_str b_str)) | (with_reducible apply State.record_keep m0) | (with_reducible apply Keep.ite) | split)

theorem remoteWrite_keep {M : Nat} {z0 : State} (hM : M &&& 0xAEBF78 = 0xAEBF78) (pk : Trans) (s : State) (hk : Keep M z0 s) : Keep M z0 (remoteWrite pk s) := by
  refine hk.trans ?_
  have m0 : M &&& 0xC0100 = 0xC0100 := Keep.sub hM rfl
  have m1 : M &&& 0xC0200 = 0xC0200 := Keep.sub hM rfl
  have m2 : M &&& 0xAEBF78 = 0xAEBF78 := Keep.sub hM rfl
  have m3 : M &&& 0x800 = 0x800 := Keep.sub hM rfl
  have m4 : M &&& 0x2E3248 = 0x2E3248 := Keep.sub hM rfl
  unfold remoteWrite
  try dsimp only
  repeat' (first | (with_reducible exact Keep.refl _ _) | (with_reducible apply State.agentWrite_keep m0) | (with_reducible apply State.countRefused_keep m1) | (with_reducible apply State.readResp_keep m2) | (with_reducible apply State.takePk_keep m3) | (with_reducible apply State.writeMem_keep m4) | (with_reducible apply Keep.ite) | split | (with_reducible refine Keep.snd (by with_reducible assumption) ?_))

theorem remoteRead_keep {M : Nat} {z0 : State} (hM : M &&& 0xAEBF78 = 0xAEBF78) (pk : Trans) (s : State) (hk : Keep M z0 s) : Keep M z0 (remoteRead pk s) := by
  refine hk.trans ?_
  have m0 : M &&& 0xC0200 = 0xC0200 := Keep.sub hM rfl
  have m1 : M &&& 0xAEBF78 = 0xAEBF78 := Keep.sub hM rfl
  have m2 : M &&& 0x800 = 0x800 := Keep.sub hM rfl
  have m3 : M &&& 0x2E3248 = 0x2E3248 := Keep.sub hM rfl
  unfold remoteRead
  try dsimp only
  repeat' (first | (with_reducible exact Keep.refl _ _) | (with_reducible apply State.countRefused_keep m0) | (with_reducible apply State.readResp_keep m1) | (with_reducible apply State.takePk_keep m2) | (with_reducible apply State.readMem_keep m3) | (with_reducible apply Keep.ite) | split | dsimp only | (with_reducible refine Keep.snd (by with_reducible assumption) ?_))

theorem State.refuseRegions_keep {M : Nat} {z0 : State} (hM : M &&& 0xC0200 = 0xC0200) (off : Nat) (s : State) (hk : Keep M z0 s) : Keep M z0 (State.refuseRegions off s) := by
  refine hk.trans ?_
  have m0 : M &&& 0xC0000 = 0xC0000 := Keep.sub hM rfl
  have b_mem : M.testBit 9 = true := Keep.bit hM rfl
  unfold State.refuseRegions
  try dsimp only
  repeat' (first | (with_reducible exact Keep.refl _ _) | (fail_if_no_progress ((with_reducible refine Keep.upd_memHL b_mem ?_ ?_ ?_); (with_reducible rfl); (with_reducible rfl))) | (with_reducible apply State.record_keep m0))

theorem regionTableWrite_keep {M : Nat} {z0 : State} (hM : M &&& 0xC0200 = 0xC0200) (bytes : List Byte) (s : State) (hk : Keep M z0 s) : Keep M z0 (regionTableWrite bytes s) := by
  refine hk.trans ?_
  have m0 : M &&& 0xC0200 = 0xC0200 := Keep.sub hM rfl
  have b_mem : M.testBit 9 = true := Keep.bit hM rfl
  unfold regionTableWrite
  try dsimp only
  repeat' (first | (with_reducible exact Keep.refl _ _) | (fail_if_no_progress ((with_reducible refine Keep.upd_memHL b_mem ?_ ?_ ?_); (with_reducible rfl); (with_reducible rfl))) | (with_reducible apply State.refuseRegions_keep m0) | (with_reducible apply Keep.ite) | split | (with_reducible refine Keep.snd (by with_reducible assumption) ?_))

theorem patrolScrub_keep {M : Nat} {z0 : State} (hM : M &&& 0x2E3248 = 0x2E3248) (t : Tier) (errs : List (U64 × U8)) (s : State) (hk : Keep M z0 s) : Keep M z0 (patrolScrub t errs s) := by
  refine hk.trans ?_
  have m0 : M &&& 0x2E3248 = 0x2E3248 := Keep.sub hM rfl
  have m1 : M &&& 0x40000 = 0x40000 := Keep.sub hM rfl
  have b_mem : M.testBit 9 = true := Keep.bit hM rfl
  unfold patrolScrub
  extract_lets e1 page e2 s1 off s2 s3
  have h1 : e2.ok = s.mem.ok := by unfold e2; split <;> rfl
  have k1 : Keep M s s1 := Keep.upd_mem b_mem h1 (Keep.refl _ _)
  have k2 : Keep M s s2 := by apply State.readRange_keep m0; exact k1
  have k3 : Keep M s s3 := Keep.upd_mem b_mem (by cases t <;> rfl) k2
  apply State.countBytes_keep m1; exact k3

end Sys2Proof.Machine
end

