-- ==== Sys2Proof/Laws/KeepLinks.lean ====
section
/-! SUPPORT. One lemma per operation: what it keeps, for links, routing, partners, movers and adjournment. -/
set_option linter.unreachableTactic false
set_option linter.unusedTactic false
set_option linter.unusedVariables false
namespace Sys2Proof.Machine
open Sys2Proof

theorem State.startTraining_keep {M : Nat} {z0 : State} (hM : M &&& 0x400 = 0x400) (p : Port) (offer : Bool) (s : State) (hk : Keep M z0 s) : Keep M z0 (State.startTraining p offer s) := by
  refine hk.trans ?_
  have m0 : M &&& 0x400 = 0x400 := Keep.sub hM rfl
  unfold State.startTraining
  try dsimp only
  repeat' (first | (with_reducible exact Keep.refl _ _) | (with_reducible assumption) | (with_reducible apply State.setPort_keep m0) | (with_reducible apply Keep.ite) | split | dsimp only)

theorem State.agentViolation_keep {M : Nat} {z0 : State} (hM : M &&& 0x400 = 0x400) (p : Port) (s : State) (hk : Keep M z0 s) : Keep M z0 (State.agentViolation p s) := by
  refine hk.trans ?_
  have m0 : M &&& 0x400 = 0x400 := Keep.sub hM rfl
  unfold State.agentViolation
  try dsimp only
  repeat' (first | (with_reducible exact Keep.refl _ _) | (with_reducible assumption) | (with_reducible apply State.setPort_keep m0) | (with_reducible apply Keep.ite) | split | dsimp only)

theorem State.auditPort_keep {M : Nat} {z0 : State} (hM : M &&& 0xC8000 = 0xC8000) (p : Port) (s : State) (hk : Keep M z0 s) : Keep M z0 (State.auditPort p s) := by
  refine hk.trans ?_
  have m0 : M &&& 0xC8000 = 0xC8000 := Keep.sub hM rfl
  unfold State.auditPort
  try dsimp only
  repeat' (first | (with_reducible exact Keep.refl _ _) | (with_reducible apply State.enterSafe_keep m0) | (with_reducible apply Keep.ite) | split | (with_reducible refine Keep.snd (by with_reducible assumption) ?_))

theorem State.badForm_keep {M : Nat} {z0 : State} (hM : M &&& 0xC0400 = 0xC0400) (p : Port) (vc : BitVec 3) (b0 : Byte) (s : State) (hk : Keep M z0 s) : Keep M z0 (State.badForm p vc b0 s) := by
  refine hk.trans ?_
  have m0 : M &&& 0x400 = 0x400 := Keep.sub hM rfl
  have m1 : M &&& 0xC0000 = 0xC0000 := Keep.sub hM rfl
  unfold State.badForm
  try dsimp only
  repeat' (first | (with_reducible exact Keep.refl _ _) | (with_reducible assumption) | (with_reducible apply State.agentViolation_keep m0) | (with_reducible apply State.setPort_keep m0) | (with_reducible apply State.record_keep m1) | dsimp only)

theorem State.formFail_keep {M : Nat} {z0 : State} (hM : M &&& 0x4C0400 = 0x4C0400) (p : Port) (vc : BitVec 3) (b0 : Byte) (bytes : List Byte) (s : State) (hk : Keep M z0 s) : Keep M z0 (State.formFail p vc b0 bytes s) := by
  refine hk.trans ?_
  have m0 : M &&& 0xC0400 = 0xC0400 := Keep.sub hM rfl
  have m1 : M &&& 0x4C0000 = 0x4C0000 := Keep.sub hM rfl
  have m2 : M &&& 0x400 = 0x400 := Keep.sub hM rfl
  unfold State.formFail
  try dsimp only
  repeat' (first | (with_reducible exact Keep.refl _ _) | (with_reducible assumption) | (with_reducible apply State.badForm_keep m0) | (with_reducible apply State.exerCheck_keep m1) | (with_reducible apply State.setPort_keep m2) | (with_reducible apply Keep.ite) | split | dsimp only)

theorem State.takeCells_keep {M : Nat} {z0 : State} (hM : M &&& 0x4C0400 = 0x4C0400) (p : Port) (a0 : List (BitVec 3 × Bool × List Byte)) (a1 : State) (hk : Keep M z0 a1) : Keep M z0 (State.takeCells p a0 a1) := by
  refine hk.trans ?_
  have m0 : M &&& 0x4C0400 = 0x4C0400 := Keep.sub hM rfl
  have m1 : M &&& 0x400 = 0x400 := Keep.sub hM rfl
  have m2 : M &&& 0x4C0000 = 0x4C0000 := Keep.sub hM rfl
  have m3 : M &&& 0xC0000 = 0xC0000 := Keep.sub hM rfl
  clear hk
  induction a0 generalizing a1 with
  | nil => exact Keep.refl _ _
  | cons c rest ih =>
    obtain ⟨vc, start, cell⟩ := c
    rw [State.takeCells]
    dsimp only
    split
    · split
      · refine Keep.trans ?_ (ih _)
        apply State.exerCheck_keep m2
        apply State.setPort_keep m1
        exact Keep.refl _ _
      · apply State.startTraining_keep m1
        apply State.agentViolation_keep m1
        apply State.record_keep m3
        apply State.setPort_keep m1
        apply State.exerCheck_keep m2
        apply State.setPort_keep m1
        exact Keep.refl _ _
    · refine Keep.trans ?_ (ih _)
      apply State.setPort_keep m1
      split
      · apply State.formFail_keep m0
        apply State.setPort_keep m1
        exact Keep.refl _ _
      · exact Keep.refl _ _

theorem State.queueIdent_keep {M : Nat} {z0 : State} (hM : M &&& 0x40C00 = 0x40C00) (p : Port) (s : State) (hk : Keep M z0 s) : Keep M z0 (State.queueIdent p s) := by
  refine hk.trans ?_
  have m0 : M &&& 0x40C00 = 0x40C00 := Keep.sub hM rfl
  unfold State.queueIdent
  try dsimp only
  repeat' (first | (with_reducible exact Keep.refl _ _) | (with_reducible apply State.sendOn_keep m0))

theorem State.injectStep_keep {M : Nat} {z0 : State} (hM : M &&& 0xC00400 = 0xC00400) (p : Port) (a : FrameAcc) (s : State) (hk : Keep M z0 s) : Keep M z0 (State.injectStep p a s) := by
  refine hk.trans ?_
  have m0 : M &&& 0x400000 = 0x400000 := Keep.sub hM rfl
  have m1 : M &&& 0x800000 = 0x800000 := Keep.sub hM rfl
  have m2 : M &&& 0x400 = 0x400 := Keep.sub hM rfl
  unfold State.injectStep
  try dsimp only
  repeat' (first | (with_reducible exact Keep.refl _ _) | (with_reducible assumption) | (with_reducible apply State.injDeferred_keep m0) | (with_reducible apply State.injApplied_keep m0) | (with_reducible apply State.setExPort_keep m0) | (with_reducible apply State.free_keep m1) | (with_reducible apply State.setPort_keep m2) | (with_reducible apply Keep.ite) | split | dsimp only | (with_reducible refine Keep.snd (by with_reducible assumption) ?_))

theorem State.sendData_keep {M : Nat} {z0 : State} (hM : M &&& 0xCC0C00 = 0xCC0C00) (p : Port) (q : PortSt) (a : FrameAcc) (s : State) (hk : Keep M z0 s) : Keep M z0 (State.sendData p q a s) := by
  refine hk.trans ?_
  have m0 : M &&& 0xC00400 = 0xC00400 := Keep.sub hM rfl
  have m1 : M &&& 0x400000 = 0x400000 := Keep.sub hM rfl
  have m2 : M &&& 0xC0C00 = 0xC0C00 := Keep.sub hM rfl
  have m3 : M &&& 0x800 = 0x800 := Keep.sub hM rfl
  have m4 : M &&& 0x400 = 0x400 := Keep.sub hM rfl
  unfold State.sendData
  try dsimp only
  repeat' (first | (with_reducible exact Keep.refl _ _) | (with_reducible assumption) | (with_reducible apply State.injectStep_keep m0) | (with_reducible apply State.setExPort_keep m1) | (with_reducible apply State.admitWaiting_keep m2) | (with_reducible apply State.freePool_keep m3) | (with_reducible apply State.setPort_keep m4) | (with_reducible apply Keep.ite) | split | dsimp only | (with_reducible refine Keep.snd (by with_reducible assumption) ?_))

theorem frameSend_keep {M : Nat} {z0 : State} (hM : M &&& 0xCC0C00 = 0xCC0C00) (p : Port) (s : State) (hk : Keep M z0 s) : Keep M z0 (frameSend p s) := by
  refine hk.trans ?_
  have m0 : M &&& 0xCC0C00 = 0xCC0C00 := Keep.sub hM rfl
  have m1 : M &&& 0x440C00 = 0x440C00 := Keep.sub hM rfl
  have m2 : M &&& 0x400 = 0x400 := Keep.sub hM rfl
  unfold frameSend
  try dsimp only
  repeat' (first | (with_reducible exact Keep.refl _ _) | (with_reducible assumption) | (with_reducible apply State.sendData_keep m0) | (with_reducible apply State.generate_keep m1) | (with_reducible apply State.setPort_keep m2) | (with_reducible apply Keep.ite) | split | dsimp only | (with_reducible refine Keep.snd (by with_reducible assumption) ?_))

theorem State.wiringEvent_keep {M : Nat} {z0 : State} (hM : M &&& 0xC0000 = 0xC0000) (p : Port) (i : IdentBody) (s : State) (hk : Keep M z0 s) : Keep M z0 (State.wiringEvent p i s) := by
  refine hk.trans ?_
  have m0 : M &&& 0xC0000 = 0xC0000 := Keep.sub hM rfl
  unfold State.wiringEvent
  try dsimp only
  repeat' (first | (with_reducible exact Keep.refl _ _) | (with_reducible apply State.record_keep m0) | split | (with_reducible refine Keep.snd (by with_reducible assumption) ?_))

theorem State.circuitUp_keep {M : Nat} {z0 : State} (hM : M &&& 0xC0800 = 0xC0800) (p : Port) (cn : U32) (s : State) (hk : Keep M z0 s) : Keep M z0 (State.circuitUp p cn s) := by
  refine hk.trans ?_
  have m0 : M &&& 0xC0000 = 0xC0000 := Keep.sub hM rfl
  have b_route : M.testBit 11 = true := Keep.bit hM rfl
  unfold State.circuitUp
  try dsimp only
  repeat' (first | (with_reducible exact Keep.refl _ _) | (fail_if_no_progress (with_reducible apply Keep.upd_route b_route)) | (with_reducible apply State.record_keep m0) | (with_reducible apply Keep.ite) | split | (with_reducible refine Keep.snd (by with_reducible assumption) ?_))

theorem State.endTraining_keep {M : Nat} {z0 : State} (hM : M &&& 0x4D2F58 = 0x4D2F58) (p : Port) (i : IdentBody) (s : State) (hk : Keep M z0 s) : Keep M z0 (State.endTraining p i s) := by
  refine hk.trans ?_
  have m0 : M &&& 0xC0800 = 0xC0800 := Keep.sub hM rfl
  have m1 : M &&& 0xC0000 = 0xC0000 := Keep.sub hM rfl
  have m2 : M &&& 0xD0C00 = 0xD0C00 := Keep.sub hM rfl
  have m3 : M &&& 0x400000 = 0x400000 := Keep.sub hM rfl
  have m4 : M &&& 0xC2F58 = 0xC2F58 := Keep.sub hM rfl
  have m5 : M &&& 0x400 = 0x400 := Keep.sub hM rfl
  unfold State.endTraining
  try dsimp only
  repeat' (first | (with_reducible exact Keep.refl _ _) | (with_reducible assumption) | (with_reducible apply State.circuitUp_keep m0) | (with_reducible apply State.wiringEvent_keep m1) | (with_reducible apply State.suspectPort_keep m2) | (with_reducible apply State.reacted_keep m3) | (with_reducible apply State.quarantine_keep m4) | (with_reducible apply State.setPort_keep m5) | (with_reducible apply State.record_keep m1) | (with_reducible apply Keep.ite) | split | dsimp only | (with_reducible refine Keep.snd (by with_reducible assumption) ?_))

theorem State.badCheck_keep {M : Nat} {z0 : State} (hM : M &&& 0x4C0400 = 0x4C0400) (p : Port) (s : State) (hk : Keep M z0 s) : Keep M z0 (State.badCheck p s) := by
  refine hk.trans ?_
  have m0 : M &&& 0x4C0000 = 0x4C0000 := Keep.sub hM rfl
  have m1 : M &&& 0x400 = 0x400 := Keep.sub hM rfl
  unfold State.badCheck
  try dsimp only
  repeat' (first | (with_reducible exact Keep.refl _ _) | (with_reducible assumption) | (with_reducible apply State.exerCheck_keep m0) | (with_reducible apply State.setPort_keep m1) | (with_reducible apply Keep.ite) | split | dsimp only)

theorem State.badFrame_keep {M : Nat} {z0 : State} (hM : M &&& 0x4C0400 = 0x4C0400) (p : Port) (w : U64) (s : State) (hk : Keep M z0 s) : Keep M z0 (State.badFrame p w s) := by
  refine hk.trans ?_
  have m0 : M &&& 0x400 = 0x400 := Keep.sub hM rfl
  have m1 : M &&& 0x4C0000 = 0x4C0000 := Keep.sub hM rfl
  have m2 : M &&& 0xC0000 = 0xC0000 := Keep.sub hM rfl
  unfold State.badFrame
  try dsimp only
  repeat' (first | (with_reducible exact Keep.refl _ _) | (with_reducible assumption) | (with_reducible apply State.agentViolation_keep m0) | (with_reducible apply State.startTraining_keep m0) | (with_reducible apply State.exerCheck_keep m1) | (with_reducible apply State.setPort_keep m0) | (with_reducible apply State.record_keep m2) | (with_reducible apply Keep.ite) | split | dsimp only)

theorem State.countGood_keep {M : Nat} {z0 : State} (hM : M &&& 0x4D2F58 = 0x4D2F58) (p : Port) (s : State) (hk : Keep M z0 s) : Keep M z0 (State.countGood p s) := by
  refine hk.trans ?_
  have m0 : M &&& 0x4D2F58 = 0x4D2F58 := Keep.sub hM rfl
  have m1 : M &&& 0x40C00 = 0x40C00 := Keep.sub hM rfl
  have m2 : M &&& 0x400 = 0x400 := Keep.sub hM rfl
  unfold State.countGood
  try dsimp only
  repeat' (first | (with_reducible exact Keep.refl _ _) | (with_reducible assumption) | (with_reducible apply State.endTraining_keep m0) | (with_reducible apply State.queueIdent_keep m1) | (with_reducible apply State.setPort_keep m2) | (with_reducible apply Keep.ite) | split | dsimp only | (with_reducible refine Keep.snd (by with_reducible assumption) ?_))

theorem State.missing_keep {M : Nat} {z0 : State} (hM : M &&& 0x4C0400 = 0x4C0400) (p : Port) (s : State) (hk : Keep M z0 s) : Keep M z0 (State.missing p s) := by
  refine hk.trans ?_
  have m0 : M &&& 0x4C0000 = 0x4C0000 := Keep.sub hM rfl
  have m1 : M &&& 0x400 = 0x400 := Keep.sub hM rfl
  unfold State.missing
  try dsimp only
  repeat' (first | (with_reducible exact Keep.refl _ _) | (with_reducible apply State.exerCheck_keep m0) | (with_reducible apply State.setPort_keep m1) | (with_reducible apply Keep.ite) | split)

theorem State.takeFrame_keep {M : Nat} {z0 : State} (hM : M &&& 0x4C0400 = 0x4C0400) (p : Port) (l : Lcw) (cells : List (List Byte)) (s : State) (hk : Keep M z0 s) : Keep M z0 (State.takeFrame p l cells s) := by
  refine hk.trans ?_
  have m0 : M &&& 0x4C0400 = 0x4C0400 := Keep.sub hM rfl
  have m1 : M &&& 0x4C0000 = 0x4C0000 := Keep.sub hM rfl
  have m2 : M &&& 0x400 = 0x400 := Keep.sub hM rfl
  unfold State.takeFrame
  try dsimp only
  repeat' (first | (with_reducible exact Keep.refl _ _) | (with_reducible assumption) | (with_reducible apply State.missing_keep m0) | (with_reducible apply State.takeCells_keep m0) | (with_reducible apply State.exerCheck_keep m1) | (with_reducible apply State.setPort_keep m2) | (with_reducible apply Keep.ite) | split | dsimp only)

theorem frameReceive_keep {M : Nat} {z0 : State} (hM : M &&& 0x4D2F58 = 0x4D2F58) (p : Port) (bytes : List Byte) (s : State) (hk : Keep M z0 s) : Keep M z0 (frameReceive p bytes s) := by
  refine hk.trans ?_
  have m0 : M &&& 0x4C0400 = 0x4C0400 := Keep.sub hM rfl
  have m1 : M &&& 0x4D2F58 = 0x4D2F58 := Keep.sub hM rfl
  unfold frameReceive
  try dsimp only
  repeat' (first | (with_reducible exact Keep.refl _ _) | (with_reducible apply State.takeFrame_keep m0) | (with_reducible apply State.countGood_keep m1) | (with_reducible apply State.badFrame_keep m0) | (with_reducible apply State.badCheck_keep m0) | (with_reducible apply Keep.ite) | split)

theorem nakReceive_keep {M : Nat} {z0 : State} (hM : M &&& 0x4C0400 = 0x4C0400) (p : Port) (ack : BitVec 12) (s : State) (hk : Keep M z0 s) : Keep M z0 (nakReceive p ack s) := by
  refine hk.trans ?_
  have m0 : M &&& 0x400000 = 0x400000 := Keep.sub hM rfl
  have m1 : M &&& 0x4C0000 = 0x4C0000 := Keep.sub hM rfl
  have m2 : M &&& 0x400 = 0x400 := Keep.sub hM rfl
  unfold nakReceive
  try dsimp only
  repeat' (first | (with_reducible exact Keep.refl _ _) | (with_reducible assumption) | (with_reducible apply State.reacted_keep m0) | (with_reducible apply State.exerCheck_keep m1) | (with_reducible apply State.setPort_keep m2) | (with_reducible apply Keep.ite) | split | dsimp only)

theorem nakRepeat_keep {M : Nat} {z0 : State} (hM : M &&& 0x400 = 0x400) (p : Port) (s : State) (hk : Keep M z0 s) : Keep M z0 (nakRepeat p s) := by
  refine hk.trans ?_
  have m0 : M &&& 0x400 = 0x400 := Keep.sub hM rfl
  unfold nakRepeat
  try dsimp only
  repeat' (first | (with_reducible exact Keep.refl _ _) | (with_reducible assumption) | (with_reducible apply State.setPort_keep m0) | (with_reducible apply Keep.ite) | split | dsimp only)

theorem nakEscalation_keep {M : Nat} {z0 : State} (hM : M &&& 0xC0400 = 0xC0400) (p : Port) (s : State) (hk : Keep M z0 s) : Keep M z0 (nakEscalation p s) := by
  refine hk.trans ?_
  have m0 : M &&& 0x400 = 0x400 := Keep.sub hM rfl
  have m1 : M &&& 0xC0000 = 0xC0000 := Keep.sub hM rfl
  unfold nakEscalation
  try dsimp only
  repeat' (first | (with_reducible exact Keep.refl _ _) | (with_reducible assumption) | (with_reducible apply State.startTraining_keep m0) | (with_reducible apply State.setPort_keep m0) | (with_reducible apply State.record_keep m1) | (with_reducible apply Keep.ite) | split | dsimp only)

theorem linkFailed_keep {M : Nat} {z0 : State} (hM : M &&& 0x2F0C00 = 0x2F0C00) (p : Port) (s : State) (hk : Keep M z0 s) : Keep M z0 (linkFailed p s) := by
  refine hk.trans ?_
  have m0 : M &&& 0xD0C00 = 0xD0C00 := Keep.sub hM rfl
  have m1 : M &&& 0x400 = 0x400 := Keep.sub hM rfl
  have m2 : M &&& 0x2E0000 = 0x2E0000 := Keep.sub hM rfl
  have m3 : M &&& 0xC0000 = 0xC0000 := Keep.sub hM rfl
  unfold linkFailed
  try dsimp only
  repeat' (first | (with_reducible exact Keep.refl _ _) | (with_reducible assumption) | (with_reducible apply State.portGone_keep m0) | (with_reducible apply State.setPort_keep m1) | (with_reducible apply State.charge_keep m2) | (with_reducible apply State.record_keep m3) | (with_reducible apply Keep.ite) | split | dsimp only)

theorem fecLock_keep {M : Nat} {z0 : State} (hM : M &&& 0x400 = 0x400) (p : Port) (s : State) (hk : Keep M z0 s) : Keep M z0 (fecLock p s) := by
  refine hk.trans ?_
  have m0 : M &&& 0x400 = 0x400 := Keep.sub hM rfl
  unfold fecLock
  try dsimp only
  repeat' (first | (with_reducible exact Keep.refl _ _) | (with_reducible assumption) | (with_reducible apply State.setPort_keep m0) | (with_reducible apply Keep.ite) | split | dsimp only)

theorem trainingDeadlineMiss_keep {M : Nat} {z0 : State} (hM : M &&& 0x400 = 0x400) (p : Port) (s : State) (hk : Keep M z0 s) : Keep M z0 (trainingDeadlineMiss p s) := by
  refine hk.trans ?_
  have m0 : M &&& 0x400 = 0x400 := Keep.sub hM rfl
  unfold trainingDeadlineMiss
  try dsimp only
  repeat' (first | (with_reducible exact Keep.refl _ _) | (with_reducible apply State.startTraining_keep m0) | (with_reducible apply Keep.ite) | split)

theorem State.portAction_keep {M : Nat} {z0 : State} (hM : M &&& 0x400 = 0x400) (p : Port) (offer : Bool) (s : State) (hk : Keep M z0 s) : Keep M z0 (State.portAction p offer s) := by
  refine hk.trans ?_
  have m0 : M &&& 0x400 = 0x400 := Keep.sub hM rfl
  unfold State.portAction
  try dsimp only
  repeat' (first | (with_reducible exact Keep.refl _ _) | (with_reducible assumption) | (with_reducible apply State.setPort_keep m0) | dsimp only)

theorem portDisable_keep {M : Nat} {z0 : State} (hM : M &&& 0x400 = 0x400) (p : Port) (s : State) (hk : Keep M z0 s) : Keep M z0 (portDisable p s) := by
  refine hk.trans ?_
  have m0 : M &&& 0x400 = 0x400 := Keep.sub hM rfl
  unfold portDisable
  try dsimp only
  repeat' (first | (with_reducible exact Keep.refl _ _) | (with_reducible assumption) | (with_reducible apply State.setPort_keep m0) | dsimp only)

theorem State.takeArrived_keep {M : Nat} {z0 : State} (hM : M &&& 0x400 = 0x400) (p : Port) (vc : BitVec 3) (bytes : List Byte) (s : State) (hk : Keep M z0 s) : Keep M z0 (State.takeArrived p vc bytes s) := by
  refine hk.trans ?_
  have m0 : M &&& 0x400 = 0x400 := Keep.sub hM rfl
  unfold State.takeArrived
  try dsimp only
  repeat' (first | (with_reducible exact Keep.refl _ _) | (with_reducible assumption) | (with_reducible apply State.setPort_keep m0) | (with_reducible apply Keep.ite) | split | dsimp only | (with_reducible refine Keep.snd (by with_reducible assumption) ?_))

theorem State.jtDiscard_keep {M : Nat} {z0 : State} (hM : M &&& 0x400 = 0x400) (p : Port) (s : State) (hk : Keep M z0 s) : Keep M z0 (State.jtDiscard p s) := by
  refine hk.trans ?_
  have m0 : M &&& 0x400 = 0x400 := Keep.sub hM rfl
  unfold State.jtDiscard
  try dsimp only
  repeat' (first | (with_reducible exact Keep.refl _ _) | (with_reducible assumption) | (with_reducible apply State.setPort_keep m0) | dsimp only)

theorem State.tagDiscard_keep {M : Nat} {z0 : State} (hM : M &&& 0xC00 = 0xC00) (p : Port) (s : State) (hk : Keep M z0 s) : Keep M z0 (State.tagDiscard p s) := by
  refine hk.trans ?_
  have m0 : M &&& 0x400 = 0x400 := Keep.sub hM rfl
  have b_route : M.testBit 11 = true := Keep.bit hM rfl
  unfold State.tagDiscard
  try dsimp only
  repeat' (first | (with_reducible exact Keep.refl _ _) | (fail_if_no_progress (with_reducible apply Keep.upd_route b_route)) | (with_reducible apply State.jtDiscard_keep m0))

theorem State.jobCheck_keep {M : Nat} {z0 : State} (hM : M &&& 0xC0C00 = 0xC0C00) (p : Port) (pk : Packet) (s : State) (hk : Keep M z0 s) : Keep M z0 (State.jobCheck p pk s).2 := by
  refine hk.trans ?_
  have m0 : M &&& 0xC00 = 0xC00 := Keep.sub hM rfl
  have m1 : M &&& 0x400 = 0x400 := Keep.sub hM rfl
  have m2 : M &&& 0xC0000 = 0xC0000 := Keep.sub hM rfl
  have b_route : M.testBit 11 = true := Keep.bit hM rfl
  have h1 : Keep M s (s.tagDiscard p) := by apply State.tagDiscard_keep m0; exact Keep.refl _ _
  have h2 : Keep M s (s.jtDiscard p) := by apply State.jtDiscard_keep m1; exact Keep.refl _ _
  unfold State.jobCheck
  dsimp only
  simp only [apply_ite Prod.snd]
  repeat' (first | (with_reducible exact Keep.refl _ _) | (with_reducible exact h1) | (with_reducible exact h2) | (with_reducible exact Keep.upd_route b_route h2) | (with_reducible exact Keep.upd_route b_route h1) | (with_reducible apply State.record_keep m2) | (with_reducible apply Keep.ite))

theorem State.badPayload_keep {M : Nat} {z0 : State} (hM : M &&& 0xC0C08 = 0xC0C08) (p : Port) (vc : BitVec 3) (h : Header) (s : State) (hk : Keep M z0 s) : Keep M z0 (State.badPayload p vc h s) := by
  refine hk.trans ?_
  have m0 : M &&& 0xC0C00 = 0xC0C00 := Keep.sub hM rfl
  have m1 : M &&& 0xC0000 = 0xC0000 := Keep.sub hM rfl
  have b_chk : M.testBit 3 = true := Keep.bit hM rfl
  unfold State.badPayload
  try dsimp only
  repeat' (first | (with_reducible exact Keep.refl _ _) | (fail_if_no_progress (with_reducible apply Keep.upd_chk b_chk)) | (with_reducible apply State.askPiece_keep m0) | (with_reducible apply State.sendResend_keep m0) | (with_reducible apply State.record_keep m1) | (with_reducible apply Keep.ite) | split)

theorem State.payCheck_keep {M : Nat} {z0 : State} (hM : M &&& 0xC0C08 = 0xC0C08) (p : Port) (vc : BitVec 3) (pk : Packet) (s : State) (hk : Keep M z0 s) : Keep M z0 (State.payCheck p vc pk s).2 := by
  refine hk.trans ?_
  have m0 : M &&& 0xC0C08 = 0xC0C08 := Keep.sub hM rfl
  have m1 : M &&& 0xC0000 = 0xC0000 := Keep.sub hM rfl
  have b_chk : M.testBit 3 = true := Keep.bit hM rfl
  unfold State.payCheck
  try dsimp only
  repeat' (first | (with_reducible exact Keep.refl _ _) | (fail_if_no_progress (with_reducible apply Keep.upd_chk b_chk)) | (with_reducible apply State.badPayload_keep m0) | (with_reducible apply State.record_keep m1) | (with_reducible apply Keep.ite) | split | dsimp only | (with_reducible refine Keep.snd (by with_reducible assumption) ?_))

theorem State.receiveOwn_keep {M : Nat} {z0 : State} (hM : M &&& 0xC0C08 = 0xC0C08) (p : Port) (vc : BitVec 3) (b0 : Byte) (pk : Packet) (s : State) (hk : Keep M z0 s) : Keep M z0 (State.receiveOwn p vc b0 pk s) := by
  refine hk.trans ?_
  have m0 : M &&& 0xC0C08 = 0xC0C08 := Keep.sub hM rfl
  have m1 : M &&& 0xC0C00 = 0xC0C00 := Keep.sub hM rfl
  have m2 : M &&& 0xC0400 = 0xC0400 := Keep.sub hM rfl
  have m3 : M &&& 0x800 = 0x800 := Keep.sub hM rfl
  have m4 : M &&& 0xC0000 = 0xC0000 := Keep.sub hM rfl
  have b_chk : M.testBit 3 = true := Keep.bit hM rfl
  unfold State.receiveOwn
  try dsimp only
  repeat' (first | (with_reducible exact Keep.refl _ _) | (fail_if_no_progress (with_reducible apply Keep.upd_chk b_chk)) | (with_reducible apply State.payCheck_keep m0) | (with_reducible apply State.jobCheck_keep m1) | (with_reducible apply State.badForm_keep m2) | (with_reducible apply State.deliver_keep m3) | (with_reducible apply State.record_keep m4) | (with_reducible apply Keep.ite) | split | dsimp only | (with_reducible refine Keep.snd (by with_reducible assumption) ?_))

theorem packetReceive_keep {M : Nat} {z0 : State} (hM : M &&& 0x4D0C08 = 0x4D0C08) (p : Port) (vc : BitVec 3) (bytes : List Byte) (s0 : State) (hk : Keep M z0 s0) : Keep M z0 (packetReceive p vc bytes s0) := by
  refine hk.trans ?_
  have m0 : M &&& 0xC0C08 = 0xC0C08 := Keep.sub hM rfl
  have m1 : M &&& 0x400 = 0x400 := Keep.sub hM rfl
  have m2 : M &&& 0x4C0400 = 0x4C0400 := Keep.sub hM rfl
  have m3 : M &&& 0x4C0C00 = 0x4C0C00 := Keep.sub hM rfl
  have m4 : M &&& 0x4C0000 = 0x4C0000 := Keep.sub hM rfl
  have m5 : M &&& 0xC0C00 = 0xC0C00 := Keep.sub hM rfl
  have m6 : M &&& 0x40000 = 0x40000 := Keep.sub hM rfl
  have m7 : M &&& 0xC0000 = 0xC0000 := Keep.sub hM rfl
  have b_det : M.testBit 16 = true := Keep.bit hM rfl
  have b_chk : M.testBit 3 = true := Keep.bit hM rfl
  have b_route : M.testBit 11 = true := Keep.bit hM rfl
  unfold packetReceive
  try dsimp only
  repeat' (first | (with_reducible exact Keep.refl _ _) | (with_reducible assumption) | (fail_if_no_progress (with_reducible apply Keep.upd_chk b_chk)) | (fail_if_no_progress (with_reducible apply Keep.upd_det b_det)) | (fail_if_no_progress (with_reducible apply Keep.upd_route b_route)) | (fail_if_no_progress ((with_reducible refine Keep.updAll ?_ ?_ ?_ ?_ ?_ ?_ ?_ ?_ ?_ ?_ ?_ ?_ ?_ ?_ ?_ ?_ ?_ ?_ ?_ ?_ ?_ ?_ ?_ ?_ ?_ ?_); iterate 25 (first | (with_reducible rfl) | (with_reducible exact fun _ => rfl) | (exact fun b => absurd (b.symm.trans (Keep.bit hM rfl)) (by decide))))) | (with_reducible apply State.receiveOwn_keep m0) | (with_reducible apply State.takeArrived_keep m1) | (with_reducible apply State.formFail_keep m2) | (with_reducible apply State.exerPacket_keep m3) | (with_reducible apply State.exerCheck_keep m4) | (with_reducible apply State.forward_keep m5) | (with_reducible apply State.tracePk_keep m6) | (with_reducible apply State.setPort_keep m1) | (with_reducible apply State.record_keep m7) | (with_reducible apply Keep.ite) | split | dsimp only | (with_reducible refine Keep.snd (by with_reducible assumption) ?_))

theorem heartbeatSend_keep {M : Nat} {z0 : State} (hM : M &&& 0xC8C00 = 0xC8C00) (p : Port) (s : State) (hk : Keep M z0 s) : Keep M z0 (heartbeatSend p s) := by
  refine hk.trans ?_
  have m0 : M &&& 0xC8000 = 0xC8000 := Keep.sub hM rfl
  have m1 : M &&& 0x40C00 = 0x40C00 := Keep.sub hM rfl
  unfold heartbeatSend
  try dsimp only
  repeat' (first | (with_reducible exact Keep.refl _ _) | (with_reducible apply State.auditPort_keep m0) | (with_reducible apply State.sendOn_keep m1) | (with_reducible apply Keep.ite) | split)

theorem heartbeatReceive_keep {M : Nat} {z0 : State} (hM : M &&& 0x4C8C00 = 0x4C8C00) (p : Port) (pk : Trans) (s : State) (hk : Keep M z0 s) : Keep M z0 (heartbeatReceive p pk s) := by
  refine hk.trans ?_
  have m0 : M &&& 0xC8000 = 0xC8000 := Keep.sub hM rfl
  have m1 : M &&& 0x400 = 0x400 := Keep.sub hM rfl
  have m2 : M &&& 0x4C0000 = 0x4C0000 := Keep.sub hM rfl
  have m3 : M &&& 0x800 = 0x800 := Keep.sub hM rfl
  have m4 : M &&& 0xC0000 = 0xC0000 := Keep.sub hM rfl
  unfold heartbeatReceive
  try dsimp only
  repeat' (first | (with_reducible exact Keep.refl _ _) | (with_reducible assumption) | (with_reducible apply State.auditPort_keep m0) | (with_reducible apply State.agentViolation_keep m1) | (with_reducible apply State.startTraining_keep m1) | (with_reducible apply State.exerCheck_keep m2) | (with_reducible apply State.takePk_keep m3) | (with_reducible apply State.setPort_keep m1) | (with_reducible apply State.record_keep m4) | (with_reducible apply Keep.ite) | split | dsimp only | (with_reducible refine Keep.snd (by with_reducible assumption) ?_))

theorem replayLate_keep {M : Nat} {z0 : State} (hM : M &&& 0x4C0000 = 0x4C0000) (p : Port) (s : State) (hk : Keep M z0 s) : Keep M z0 (replayLate p s) := by
  refine hk.trans ?_
  have m0 : M &&& 0x4C0000 = 0x4C0000 := Keep.sub hM rfl
  unfold replayLate
  try dsimp only
  repeat' (first | (with_reducible exact Keep.refl _ _) | (with_reducible apply State.exerCheck_keep m0) | (with_reducible apply Keep.ite) | split)

theorem identReceive_keep {M : Nat} {z0 : State} (hM : M &&& 0x4D2F58 = 0x4D2F58) (p : Port) (pk : Trans) (s : State) (hk : Keep M z0 s) : Keep M z0 (identReceive p pk s) := by
  refine hk.trans ?_
  have m0 : M &&& 0x4D2F58 = 0x4D2F58 := Keep.sub hM rfl
  have m1 : M &&& 0x800 = 0x800 := Keep.sub hM rfl
  have m2 : M &&& 0x400 = 0x400 := Keep.sub hM rfl
  unfold identReceive
  try dsimp only
  repeat' (first | (with_reducible exact Keep.refl _ _) | (with_reducible assumption) | (with_reducible apply State.endTraining_keep m0) | (with_reducible apply State.takePk_keep m1) | (with_reducible apply State.setPort_keep m2) | (with_reducible apply Keep.ite) | split | dsimp only)

theorem agentNoResend_keep {M : Nat} {z0 : State} (hM : M &&& 0xC0C00 = 0xC0C00) (p : Port) (ts blk : U32) (s : State) (hk : Keep M z0 s) : Keep M z0 (agentNoResend p ts blk s) := by
  refine hk.trans ?_
  have m0 : M &&& 0x400 = 0x400 := Keep.sub hM rfl
  have m1 : M &&& 0xC0C00 = 0xC0C00 := Keep.sub hM rfl
  have m2 : M &&& 0xC0000 = 0xC0000 := Keep.sub hM rfl
  unfold agentNoResend
  try dsimp only
  repeat' (first | (with_reducible exact Keep.refl _ _) | (with_reducible assumption) | (with_reducible apply State.agentViolation_keep m0) | (with_reducible apply State.send_keep m1) | (with_reducible apply State.setPort_keep m0) | (with_reducible apply State.record_keep m2) | split | dsimp only | (with_reducible refine Keep.snd (by with_reducible assumption) ?_))

theorem agentQuarantine_keep {M : Nat} {z0 : State} (hM : M &&& 0xD2F58 = 0xD2F58) (p : Port) (s : State) (hk : Keep M z0 s) : Keep M z0 (agentQuarantine p s) := by
  refine hk.trans ?_
  have m0 : M &&& 0xD0C00 = 0xD0C00 := Keep.sub hM rfl
  have m1 : M &&& 0xC2F58 = 0xC2F58 := Keep.sub hM rfl
  have m2 : M &&& 0x400 = 0x400 := Keep.sub hM rfl
  have m3 : M &&& 0xC0000 = 0xC0000 := Keep.sub hM rfl
  unfold agentQuarantine
  try dsimp only
  repeat' (first | (with_reducible exact Keep.refl _ _) | (with_reducible assumption) | (with_reducible apply State.loseAgent_keep m0) | (with_reducible apply State.quarantine_keep m1) | (with_reducible apply State.setPort_keep m2) | (with_reducible apply State.record_keep m3) | (with_reducible apply Keep.ite) | split | dsimp only | (with_reducible refine Keep.snd (by with_reducible assumption) ?_))

theorem markSend_keep {M : Nat} {z0 : State} (hM : M &&& 0xC2F58 = 0xC2F58) (p : Port) (s : State) (hk : Keep M z0 s) : Keep M z0 (markSend p s) := by
  refine hk.trans ?_
  have m0 : M &&& 0xC2F58 = 0xC2F58 := Keep.sub hM rfl
  have m1 : M &&& 0x40C00 = 0x40C00 := Keep.sub hM rfl
  have m2 : M &&& 0x400 = 0x400 := Keep.sub hM rfl
  have m3 : M &&& 0x40000 = 0x40000 := Keep.sub hM rfl
  unfold markSend
  try dsimp only
  repeat' (first | (with_reducible exact Keep.refl _ _) | (with_reducible assumption) | (with_reducible apply State.quarantine_keep m0) | (with_reducible apply State.sendOn_keep m1) | (with_reducible apply State.setPort_keep m2) | (with_reducible apply State.trace_keep m3) | (with_reducible apply Keep.ite) | split | dsimp only)

theorem markReceive_keep {M : Nat} {z0 : State} (hM : M &&& 0x40C00 = 0x40C00) (p : Port) (pk : Trans) (s : State) (hk : Keep M z0 s) : Keep M z0 (markReceive p pk s) := by
  refine hk.trans ?_
  have m0 : M &&& 0x800 = 0x800 := Keep.sub hM rfl
  have m1 : M &&& 0x400 = 0x400 := Keep.sub hM rfl
  have m2 : M &&& 0x40000 = 0x40000 := Keep.sub hM rfl
  unfold markReceive
  try dsimp only
  repeat' (first | (with_reducible exact Keep.refl _ _) | (with_reducible assumption) | (with_reducible apply State.takePk_keep m0) | (with_reducible apply State.setPort_keep m1) | (with_reducible apply State.trace_keep m2) | dsimp only)

theorem internalMark_keep {M : Nat} {z0 : State} (hM : M &&& 0x40000 = 0x40000) (s : State) (hk : Keep M z0 s) : Keep M z0 (internalMark s) := by
  refine hk.trans ?_
  have m0 : M &&& 0x40000 = 0x40000 := Keep.sub hM rfl
  have b_tele : M.testBit 18 = true := Keep.bit hM rfl
  unfold internalMark
  try dsimp only
  repeat' (first | (with_reducible exact Keep.refl _ _) | (with_reducible assumption) | (fail_if_no_progress (with_reducible apply Keep.upd_tele b_tele)) | (with_reducible apply State.trace_keep m0) | (with_reducible apply Keep.foldl) | (with_reducible apply Keep.foldl2) | (with_reducible apply Keep.foldl3) | (intro) | dsimp only)

theorem State.refillBanks_keep {M : Nat} {z0 : State} (hM : M &&& 0x800 = 0x800) (s : State) (hk : Keep M z0 s) : Keep M z0 (State.refillBanks s) := by
  refine hk.trans ?_
  have b_route : M.testBit 11 = true := Keep.bit hM rfl
  unfold State.refillBanks
  try dsimp only
  repeat' (first | (with_reducible exact Keep.refl _ _) | (fail_if_no_progress (with_reducible apply Keep.upd_route b_route)))

theorem State.refuseWires_keep {M : Nat} {z0 : State} (hM : M &&& 0xC0800 = 0xC0800) (off : Nat) (s : State) (hk : Keep M z0 s) : Keep M z0 (State.refuseWires off s) := by
  refine hk.trans ?_
  have m0 : M &&& 0xC0000 = 0xC0000 := Keep.sub hM rfl
  have b_route : M.testBit 11 = true := Keep.bit hM rfl
  unfold State.refuseWires
  try dsimp only
  repeat' (first | (with_reducible exact Keep.refl _ _) | (fail_if_no_progress (with_reducible apply Keep.upd_route b_route)) | (with_reducible apply State.record_keep m0))

theorem wiringMapWrite_keep {M : Nat} {z0 : State} (hM : M &&& 0xC0800 = 0xC0800) (bytes : List Byte) (s : State) (hk : Keep M z0 s) : Keep M z0 (wiringMapWrite bytes s) := by
  refine hk.trans ?_
  have m0 : M &&& 0xC0800 = 0xC0800 := Keep.sub hM rfl
  have m1 : M &&& 0x800 = 0x800 := Keep.sub hM rfl
  have b_route : M.testBit 11 = true := Keep.bit hM rfl
  unfold wiringMapWrite
  try dsimp only
  repeat' (first | (with_reducible exact Keep.refl _ _) | (with_reducible assumption) | (fail_if_no_progress (with_reducible apply Keep.upd_route b_route)) | (with_reducible apply State.refuseWires_keep m0) | (with_reducible apply State.refillBanks_keep m1) | (with_reducible apply Keep.ite) | split | dsimp only | (with_reducible refine Keep.snd (by with_reducible assumption) ?_))

theorem State.refuseBank_keep {M : Nat} {z0 : State} (hM : M &&& 0xC0800 = 0xC0800) (s : State) (hk : Keep M z0 s) : Keep M z0 (State.refuseBank s) := by
  refine hk.trans ?_
  have m0 : M &&& 0xC0000 = 0xC0000 := Keep.sub hM rfl
  have b_route : M.testBit 11 = true := Keep.bit hM rfl
  unfold State.refuseBank
  try dsimp only
  repeat' (first | (with_reducible exact Keep.refl _ _) | (fail_if_no_progress (with_reducible apply Keep.upd_route b_route)) | (with_reducible apply State.record_keep m0))

theorem shadowBankWrite_keep {M : Nat} {z0 : State} (hM : M &&& 0xC0800 = 0xC0800) (bytes : List Byte) (s : State) (hk : Keep M z0 s) : Keep M z0 (shadowBankWrite bytes s) := by
  refine hk.trans ?_
  have m0 : M &&& 0xC0800 = 0xC0800 := Keep.sub hM rfl
  have b_route : M.testBit 11 = true := Keep.bit hM rfl
  unfold shadowBankWrite
  try dsimp only
  repeat' (first | (with_reducible exact Keep.refl _ _) | (fail_if_no_progress (with_reducible apply Keep.upd_route b_route)) | (with_reducible apply State.refuseBank_keep m0) | split | (with_reducible refine Keep.snd (by with_reducible assumption) ?_))

theorem State.swapBanks_keep {M : Nat} {z0 : State} (hM : M &&& 0xD0800 = 0xD0800) (epoch : U32) (s : State) (hk : Keep M z0 s) : Keep M z0 (State.swapBanks epoch s) := by
  refine hk.trans ?_
  have m0 : M &&& 0xC0000 = 0xC0000 := Keep.sub hM rfl
  have b_det : M.testBit 16 = true := Keep.bit hM rfl
  have b_route : M.testBit 11 = true := Keep.bit hM rfl
  unfold State.swapBanks
  try dsimp only
  repeat' (first | (with_reducible exact Keep.refl _ _) | (with_reducible assumption) | (fail_if_no_progress (with_reducible apply Keep.upd_det b_det)) | (fail_if_no_progress (with_reducible apply Keep.upd_route b_route)) | (fail_if_no_progress ((with_reducible refine Keep.updAll ?_ ?_ ?_ ?_ ?_ ?_ ?_ ?_ ?_ ?_ ?_ ?_ ?_ ?_ ?_ ?_ ?_ ?_ ?_ ?_ ?_ ?_ ?_ ?_ ?_ ?_); iterate 25 (first | (with_reducible rfl) | (with_reducible exact fun _ => rfl) | (exact fun b => absurd (b.symm.trans (Keep.bit hM rfl)) (by decide))))) | (with_reducible apply State.record_keep m0) | dsimp only)

theorem bankSwitchNow_keep {M : Nat} {z0 : State} (hM : M &&& 0xD0800 = 0xD0800) (s : State) (hk : Keep M z0 s) : Keep M z0 (bankSwitchNow s) := by
  refine hk.trans ?_
  have m0 : M &&& 0xD0800 = 0xD0800 := Keep.sub hM rfl
  have m1 : M &&& 0xC0800 = 0xC0800 := Keep.sub hM rfl
  unfold bankSwitchNow
  try dsimp only
  repeat' (first | (with_reducible exact Keep.refl _ _) | (with_reducible apply State.swapBanks_keep m0) | (with_reducible apply State.refuseBank_keep m1) | (with_reducible apply Keep.ite) | split)

theorem bankSwitchPending_keep {M : Nat} {z0 : State} (hM : M &&& 0xD0800 = 0xD0800) (v : U32) (s : State) (hk : Keep M z0 s) : Keep M z0 (bankSwitchPending v s) := by
  refine hk.trans ?_
  have m0 : M &&& 0xD0800 = 0xD0800 := Keep.sub hM rfl
  have m1 : M &&& 0xC0800 = 0xC0800 := Keep.sub hM rfl
  have b_route : M.testBit 11 = true := Keep.bit hM rfl
  unfold bankSwitchPending
  try dsimp only
  repeat' (first | (with_reducible exact Keep.refl _ _) | (fail_if_no_progress (with_reducible apply Keep.upd_route b_route)) | (with_reducible apply bankSwitchNow_keep m0) | (with_reducible apply State.refuseBank_keep m1) | (with_reducible apply Keep.ite) | split)

theorem substitutionTableWrite_keep {M : Nat} {z0 : State} (hM : M &&& 0xC0800 = 0xC0800) (bytes : List Byte) (s : State) (hk : Keep M z0 s) : Keep M z0 (substitutionTableWrite bytes s) := by
  refine hk.trans ?_
  have m0 : M &&& 0xC0000 = 0xC0000 := Keep.sub hM rfl
  have b_route : M.testBit 11 = true := Keep.bit hM rfl
  unfold substitutionTableWrite
  try dsimp only
  repeat' (first | (with_reducible exact Keep.refl _ _) | (fail_if_no_progress (with_reducible apply Keep.upd_route b_route)) | (with_reducible apply State.record_keep m0) | split | (with_reducible refine Keep.snd (by with_reducible assumption) ?_))

theorem State.lookAgain_keep {M : Nat} {z0 : State} (hM : M &&& 0xC0C00 = 0xC0C00) (p : Port) (s : State) (x : PoolPk) (hk : Keep M z0 s) : Keep M z0 (State.lookAgain p s x) := by
  refine hk.trans ?_
  have m0 : M &&& 0xC0C00 = 0xC0C00 := Keep.sub hM rfl
  have b_route : M.testBit 11 = true := Keep.bit hM rfl
  unfold State.lookAgain
  try dsimp only
  repeat' (first | (with_reducible exact Keep.refl _ _) | (fail_if_no_progress (with_reducible apply Keep.upd_route b_route)) | (with_reducible apply State.switchPk_keep m0) | (with_reducible apply Keep.ite) | split)

theorem forwardAfterWait_keep {M : Nat} {z0 : State} (hM : M &&& 0xC0C00 = 0xC0C00) (p : Port) (s : State) (hk : Keep M z0 s) : Keep M z0 (forwardAfterWait p s) := by
  refine hk.trans ?_
  have m0 : M &&& 0xC0C00 = 0xC0C00 := Keep.sub hM rfl
  have b_route : M.testBit 11 = true := Keep.bit hM rfl
  unfold forwardAfterWait
  try dsimp only
  repeat' (first | (with_reducible exact Keep.refl _ _) | (fail_if_no_progress (with_reducible apply Keep.upd_route b_route)) | (with_reducible apply State.lookAgain_keep m0) | (with_reducible apply State.admitWaiting_keep m0) | (with_reducible apply Keep.foldl) | (with_reducible apply Keep.foldl2) | (with_reducible apply Keep.foldl3) | (intro))

theorem State.dropPool_keep {M : Nat} {z0 : State} (hM : M &&& 0xC00 = 0xC00) (n : Nat) (out : Option Port) (s : State) (hk : Keep M z0 s) : Keep M z0 (State.dropPool n out s) := by
  refine hk.trans ?_
  have m0 : M &&& 0x400 = 0x400 := Keep.sub hM rfl
  have b_route : M.testBit 11 = true := Keep.bit hM rfl
  unfold State.dropPool
  try dsimp only
  repeat' (first | (with_reducible exact Keep.refl _ _) | (with_reducible assumption) | (fail_if_no_progress (with_reducible apply Keep.upd_route b_route)) | (with_reducible apply State.setPort_keep m0) | split | dsimp only | (with_reducible refine Keep.snd (by with_reducible assumption) ?_))

theorem transitExpired_keep {M : Nat} {z0 : State} (hM : M &&& 0xC0C00 = 0xC0C00) (s : State) (hk : Keep M z0 s) : Keep M z0 (transitExpired s) := by
  refine hk.trans ?_
  have m0 : M &&& 0xC00 = 0xC00 := Keep.sub hM rfl
  have m1 : M &&& 0xC0C00 = 0xC0C00 := Keep.sub hM rfl
  have m2 : M &&& 0x800 = 0x800 := Keep.sub hM rfl
  have m3 : M &&& 0xC0000 = 0xC0000 := Keep.sub hM rfl
  have b_route : M.testBit 11 = true := Keep.bit hM rfl
  unfold transitExpired
  try dsimp only
  repeat' (first | (with_reducible exact Keep.refl _ _) | (fail_if_no_progress (with_reducible apply Keep.upd_route b_route)) | (with_reducible apply State.dropPool_keep m0) | (with_reducible apply State.admitWaiting_keep m1) | (with_reducible apply State.freePool_keep m2) | (with_reducible apply State.record_keep m3) | (with_reducible apply Keep.ite) | split | (with_reducible refine Keep.snd (by with_reducible assumption) ?_))

theorem State.setCircuit_keep {M : Nat} {z0 : State} (hM : M &&& 0x800 = 0x800) (n : Circ) (c : CircuitSt) (s : State) (hk : Keep M z0 s) : Keep M z0 (State.setCircuit n c s) := by
  refine hk.trans ?_
  have b_route : M.testBit 11 = true := Keep.bit hM rfl
  unfold State.setCircuit
  try dsimp only
  repeat' (first | (with_reducible exact Keep.refl _ _) | (fail_if_no_progress (with_reducible apply Keep.upd_route b_route)))

theorem State.refuseCircuit_keep {M : Nat} {z0 : State} (hM : M &&& 0xC0800 = 0xC0800) (n : Circ) (g : U32) (why : Nat) (s : State) (hk : Keep M z0 s) : Keep M z0 (State.refuseCircuit n g why s) := by
  refine hk.trans ?_
  have m0 : M &&& 0xC0000 = 0xC0000 := Keep.sub hM rfl
  have b_route : M.testBit 11 = true := Keep.bit hM rfl
  unfold State.refuseCircuit
  try dsimp only
  repeat' (first | (with_reducible exact Keep.refl _ _) | (fail_if_no_progress (with_reducible apply Keep.upd_route b_route)) | (with_reducible apply State.record_keep m0))

theorem State.beginDrain_keep {M : Nat} {z0 : State} (hM : M &&& 0xC00 = 0xC00) (n : Circ) (s : State) (hk : Keep M z0 s) : Keep M z0 (State.beginDrain n s) := by
  refine hk.trans ?_
  have m0 : M &&& 0x400 = 0x400 := Keep.sub hM rfl
  have b_route : M.testBit 11 = true := Keep.bit hM rfl
  unfold State.beginDrain
  try dsimp only
  repeat' (first | (with_reducible exact Keep.refl _ _) | (with_reducible assumption) | (fail_if_no_progress (with_reducible apply Keep.upd_route b_route)) | (with_reducible apply State.setPort_keep m0) | dsimp only)

theorem State.circuitWrite_keep {M : Nat} {z0 : State} (hM : M &&& 0xC0800 = 0xC0800) (n : Circ) (bytes : List Byte) (go : CircuitSt → State → State) (s : State) (hgo : ∀ y0 y1, Keep M y1 (go y0 y1)) (hk : Keep M z0 s) : Keep M z0 (State.circuitWrite n bytes go s) := by
  refine hk.trans ?_
  have m0 : M &&& 0xC0800 = 0xC0800 := Keep.sub hM rfl
  unfold State.circuitWrite
  try dsimp only
  repeat' (first | (with_reducible exact Keep.refl _ _) | (with_reducible assumption) | (with_reducible apply State.refuseCircuit_keep m0) | (with_reducible apply Keep.trans _ (hgo ..)) | (with_reducible apply Keep.ite) | split | (with_reducible refine Keep.snd (by with_reducible assumption) ?_))

theorem circuitPrepare_keep {M : Nat} {z0 : State} (hM : M &&& 0xC0C00 = 0xC0C00) (n : Circ) (bytes : List Byte) (s : State) (hk : Keep M z0 s) : Keep M z0 (circuitPrepare n bytes s) := by
  refine hk.trans ?_
  have m0 : M &&& 0xC0800 = 0xC0800 := Keep.sub hM rfl
  have m1 : M &&& 0xC00 = 0xC00 := Keep.sub hM rfl
  have m2 : M &&& 0x800 = 0x800 := Keep.sub hM rfl
  unfold circuitPrepare
  try dsimp only
  repeat' (first | (with_reducible exact Keep.refl _ _) | (with_reducible assumption) | (with_reducible apply State.circuitWrite_keep m0) | (with_reducible apply State.beginDrain_keep m1) | (with_reducible apply State.setCircuit_keep m2) | (intro) | (with_reducible apply Keep.ite) | split | dsimp only)

theorem circuitSwitched_keep {M : Nat} {z0 : State} (hM : M &&& 0xC0C00 = 0xC0C00) (n : Circ) (bytes : List Byte) (s : State) (hk : Keep M z0 s) : Keep M z0 (circuitSwitched n bytes s) := by
  refine hk.trans ?_
  have m0 : M &&& 0xC0800 = 0xC0800 := Keep.sub hM rfl
  have m1 : M &&& 0x800 = 0x800 := Keep.sub hM rfl
  have m2 : M &&& 0x400 = 0x400 := Keep.sub hM rfl
  have b_route : M.testBit 11 = true := Keep.bit hM rfl
  unfold circuitSwitched
  try dsimp only
  repeat' (first | (with_reducible exact Keep.refl _ _) | (with_reducible assumption) | (fail_if_no_progress (with_reducible apply Keep.upd_route b_route)) | (with_reducible apply State.circuitWrite_keep m0) | (with_reducible apply State.setCircuit_keep m1) | (with_reducible apply State.portAction_keep m2) | (intro) | (with_reducible apply Keep.ite) | split | dsimp only)

theorem circuitRelease_keep {M : Nat} {z0 : State} (hM : M &&& 0xC0C00 = 0xC0C00) (n : Circ) (bytes : List Byte) (s : State) (hk : Keep M z0 s) : Keep M z0 (circuitRelease n bytes s) := by
  refine hk.trans ?_
  have m0 : M &&& 0xC0800 = 0xC0800 := Keep.sub hM rfl
  have m1 : M &&& 0xC00 = 0xC00 := Keep.sub hM rfl
  have m2 : M &&& 0x800 = 0x800 := Keep.sub hM rfl
  unfold circuitRelease
  try dsimp only
  repeat' (first | (with_reducible exact Keep.refl _ _) | (with_reducible assumption) | (with_reducible apply State.circuitWrite_keep m0) | (with_reducible apply State.beginDrain_keep m1) | (with_reducible apply State.setCircuit_keep m2) | (intro) | (with_reducible apply Keep.ite) | split | dsimp only)

theorem State.endDrain_keep {M : Nat} {z0 : State} (hM : M &&& 0xC0C00 = 0xC0C00) (n : Circ) (s : State) (hk : Keep M z0 s) : Keep M z0 (State.endDrain n s) := by
  refine hk.trans ?_
  have m0 : M &&& 0x800 = 0x800 := Keep.sub hM rfl
  have m1 : M &&& 0x400 = 0x400 := Keep.sub hM rfl
  have m2 : M &&& 0xC0000 = 0xC0000 := Keep.sub hM rfl
  unfold State.endDrain
  try dsimp only
  repeat' (first | (with_reducible exact Keep.refl _ _) | (with_reducible assumption) | (with_reducible apply State.setCircuit_keep m0) | (with_reducible apply State.setPort_keep m1) | (with_reducible apply State.record_keep m2) | (with_reducible apply Keep.ite) | split | dsimp only)

theorem circuitDrained_keep {M : Nat} {z0 : State} (hM : M &&& 0xC0C00 = 0xC0C00) (n : Circ) (s : State) (hk : Keep M z0 s) : Keep M z0 (circuitDrained n s) := by
  refine hk.trans ?_
  have m0 : M &&& 0xC0C00 = 0xC0C00 := Keep.sub hM rfl
  unfold circuitDrained
  try dsimp only
  repeat' (first | (with_reducible exact Keep.refl _ _) | (with_reducible apply State.endDrain_keep m0) | (with_reducible apply Keep.ite) | split)

theorem circuitDrainTimeout_keep {M : Nat} {z0 : State} (hM : M &&& 0xC0C00 = 0xC0C00) (n : Circ) (s : State) (hk : Keep M z0 s) : Keep M z0 (circuitDrainTimeout n s) := by
  refine hk.trans ?_
  have m0 : M &&& 0xC0C00 = 0xC0C00 := Keep.sub hM rfl
  have m1 : M &&& 0xC0000 = 0xC0000 := Keep.sub hM rfl
  have b_route : M.testBit 11 = true := Keep.bit hM rfl
  unfold circuitDrainTimeout
  try dsimp only
  repeat' (first | (with_reducible exact Keep.refl _ _) | (fail_if_no_progress (with_reducible apply Keep.upd_route b_route)) | (with_reducible apply State.endDrain_keep m0) | (with_reducible apply State.record_keep m1) | (with_reducible apply Keep.ite) | split)

theorem State.sendPairReq_keep {M : Nat} {z0 : State} (hM : M &&& 0xC1C00 = 0xC1C00) (s : State) (hk : Keep M z0 s) : Keep M z0 (State.sendPairReq s) := by
  refine hk.trans ?_
  have m0 : M &&& 0xC0C00 = 0xC0C00 := Keep.sub hM rfl
  have b_part : M.testBit 12 = true := Keep.bit hM rfl
  unfold State.sendPairReq
  try dsimp only
  repeat' (first | (with_reducible exact Keep.refl _ _) | (fail_if_no_progress (with_reducible apply Keep.upd_part b_part)) | (with_reducible apply State.sendTrans_keep m0))

theorem State.applyPartner_keep {M : Nat} {z0 : State} (hM : M &&& 0xC1C00 = 0xC1C00) (v : U32) (s : State) (hk : Keep M z0 s) : Keep M z0 (State.applyPartner v s) := by
  refine hk.trans ?_
  have m0 : M &&& 0xC1C00 = 0xC1C00 := Keep.sub hM rfl
  have b_part : M.testBit 12 = true := Keep.bit hM rfl
  unfold State.applyPartner
  try dsimp only
  repeat' (first | (with_reducible exact Keep.refl _ _) | (fail_if_no_progress (with_reducible apply Keep.upd_part b_part)) | (with_reducible apply State.sendPairReq_keep m0) | (with_reducible apply Keep.ite) | split)

theorem State.applyDelta_keep {M : Nat} {z0 : State} (hM : M &&& 0x1000 = 0x1000) (v : U64) (s : State) (hk : Keep M z0 s) : Keep M z0 (State.applyDelta v s) := by
  refine hk.trans ?_
  have b_part : M.testBit 12 = true := Keep.bit hM rfl
  unfold State.applyDelta
  try dsimp only
  repeat' (first | (with_reducible exact Keep.refl _ _) | (fail_if_no_progress (with_reducible apply Keep.upd_part b_part)))

theorem State.applyOwners_keep {M : Nat} {z0 : State} (hM : M &&& 0x1000 = 0x1000) (l : List OwnerEntry) (s : State) (hk : Keep M z0 s) : Keep M z0 (State.applyOwners l s) := by
  refine hk.trans ?_
  have b_part : M.testBit 12 = true := Keep.bit hM rfl
  unfold State.applyOwners
  try dsimp only
  repeat' (first | (with_reducible exact Keep.refl _ _) | (fail_if_no_progress (with_reducible apply Keep.upd_part b_part)))

theorem State.applyHeldPartner_keep {M : Nat} {z0 : State} (hM : M &&& 0xC1C00 = 0xC1C00) (s : State) (hk : Keep M z0 s) : Keep M z0 (State.applyHeldPartner s) := by
  refine hk.trans ?_
  have m0 : M &&& 0x1000 = 0x1000 := Keep.sub hM rfl
  have m1 : M &&& 0xC1C00 = 0xC1C00 := Keep.sub hM rfl
  have b_part : M.testBit 12 = true := Keep.bit hM rfl
  unfold State.applyHeldPartner
  try dsimp only
  repeat' (first | (with_reducible exact Keep.refl _ _) | (fail_if_no_progress (with_reducible apply Keep.upd_part b_part)) | (with_reducible apply State.applyOwners_keep m0) | (with_reducible apply State.applyDelta_keep m0) | (with_reducible apply State.applyPartner_keep m1) | (with_reducible apply Keep.ite) | split | (with_reducible refine Keep.snd (by with_reducible assumption) ?_))

theorem State.pairFailed_keep {M : Nat} {z0 : State} (hM : M &&& 0xC1000 = 0xC1000) (cause : Nat) (s : State) (hk : Keep M z0 s) : Keep M z0 (State.pairFailed cause s) := by
  refine hk.trans ?_
  have m0 : M &&& 0xC1000 = 0xC1000 := Keep.sub hM rfl
  have m1 : M &&& 0xC0000 = 0xC0000 := Keep.sub hM rfl
  have b_part : M.testBit 12 = true := Keep.bit hM rfl
  unfold State.pairFailed
  try dsimp only
  repeat' (first | (with_reducible exact Keep.refl _ _) | (fail_if_no_progress (with_reducible apply Keep.upd_part b_part)) | (with_reducible apply State.noteNoPartner_keep m0) | (with_reducible apply State.record_keep m1))

theorem State.pairOk_keep {M : Nat} {z0 : State} (hM : M &&& 0xC1000 = 0xC1000) (tags : U64) (s : State) (hk : Keep M z0 s) : Keep M z0 (State.pairOk tags s) := by
  refine hk.trans ?_
  have m0 : M &&& 0xC0000 = 0xC0000 := Keep.sub hM rfl
  have b_part : M.testBit 12 = true := Keep.bit hM rfl
  unfold State.pairOk
  try dsimp only
  repeat' (first | (with_reducible exact Keep.refl _ _) | (fail_if_no_progress (with_reducible apply Keep.upd_part b_part)) | (with_reducible apply State.record_keep m0) | (with_reducible apply Keep.ite) | split)

theorem State.openSlot_keep {M : Nat} {z0 t : State} (hM : M &&& 0x41000 = 0x41000) {ix : Fin 4} {step : U32} {s : State} (e : s.openSlot ix step = some t) (hk : Keep M z0 s) : Keep M z0 t := by
  refine hk.trans ?_
  have b_part : M.testBit 12 = true := Keep.bit hM rfl
  unfold State.openSlot at e
  dsimp only at e
  split at e
  · cases e; apply State.setSlot_keep (Keep.sub hM rfl); exact Keep.refl _ _
  · split at e
    · cases e; exact Keep.refl _ _
    · split at e
      · cases e; apply State.setSlot_keep (Keep.sub hM rfl); exact Keep.upd_part b_part (Keep.refl _ _)
      · cases e

theorem State.putRec_keep {M : Nat} {z0 : State} (hM : M &&& 0x2E3248 = 0x2E3248) (ix : Fin 4) (r : LogRec) (s : State) (hk : Keep M z0 s) : Keep M z0 (State.putRec ix r s) := by
  refine hk.trans ?_
  have m0 : M &&& 0x2E3248 = 0x2E3248 := Keep.sub hM rfl
  have b_part : M.testBit 12 = true := Keep.bit hM rfl
  unfold State.putRec
  try dsimp only
  repeat' (first | (with_reducible exact Keep.refl _ _) | (fail_if_no_progress (with_reducible apply Keep.upd_part b_part)) | (with_reducible apply State.writeBlock_keep m0) | (with_reducible apply State.readBlock_keep m0) | (with_reducible apply Keep.ite) | split | dsimp only | (with_reducible refine Keep.snd (by with_reducible assumption) ?_))

theorem State.putG_keep {M : Nat} {z0 : State} (hM : M &&& 0x2E3248 = 0x2E3248) (ix : Fin 4) (b : Block) (s : State) (hk : Keep M z0 s) : Keep M z0 (State.putG ix b s) := by
  refine hk.trans ?_
  have m0 : M &&& 0x2E3248 = 0x2E3248 := Keep.sub hM rfl
  have b_part : M.testBit 12 = true := Keep.bit hM rfl
  unfold State.putG
  try dsimp only
  repeat' (first | (with_reducible exact Keep.refl _ _) | (fail_if_no_progress (with_reducible apply Keep.upd_part b_part)) | (with_reducible apply State.writeCarried_keep m0) | (with_reducible apply Keep.ite) | split | (with_reducible refine Keep.snd (by with_reducible assumption) ?_))

theorem State.refuseSource_keep {M : Nat} {z0 : State} (hM : M &&& 0xC1000 = 0xC1000) (cn : U32) (s : State) (hk : Keep M z0 s) : Keep M z0 (State.refuseSource cn s) := by
  refine hk.trans ?_
  have m0 : M &&& 0xC0000 = 0xC0000 := Keep.sub hM rfl
  have b_part : M.testBit 12 = true := Keep.bit hM rfl
  unfold State.refuseSource
  try dsimp only
  repeat' (first | (with_reducible exact Keep.refl _ _) | (fail_if_no_progress (with_reducible apply Keep.upd_part b_part)) | (with_reducible apply State.record_keep m0) | (with_reducible apply Keep.ite) | split)

theorem State.refuseShard_keep {M : Nat} {z0 : State} (hM : M &&& 0xC1000 = 0xC1000) (ts : U32) (s : State) (hk : Keep M z0 s) : Keep M z0 (State.refuseShard ts s) := by
  refine hk.trans ?_
  have m0 : M &&& 0xC0000 = 0xC0000 := Keep.sub hM rfl
  have b_part : M.testBit 12 = true := Keep.bit hM rfl
  unfold State.refuseShard
  try dsimp only
  repeat' (first | (with_reducible exact Keep.refl _ _) | (fail_if_no_progress (with_reducible apply Keep.upd_part b_part)) | (with_reducible apply State.record_keep m0) | (with_reducible apply Keep.ite) | split)

theorem State.refuseQuiet_keep {M : Nat} {z0 : State} (hM : M &&& 0x1000 = 0x1000) (s : State) (hk : Keep M z0 s) : Keep M z0 (State.refuseQuiet s) := by
  refine hk.trans ?_
  have b_part : M.testBit 12 = true := Keep.bit hM rfl
  unfold State.refuseQuiet
  try dsimp only
  repeat' (first | (with_reducible exact Keep.refl _ _) | (fail_if_no_progress (with_reducible apply Keep.upd_part b_part)))

theorem State.refuseStep_keep {M : Nat} {z0 : State} (hM : M &&& 0x20 = 0x20) (s : State) (hk : Keep M z0 s) : Keep M z0 (State.refuseStep s) := by
  refine hk.trans ?_
  have b_red : M.testBit 5 = true := Keep.bit hM rfl
  unfold State.refuseStep
  try dsimp only
  repeat' (first | (with_reducible exact Keep.refl _ _) | (fail_if_no_progress (with_reducible apply Keep.upd_red b_red)))

theorem State.ackReplay_keep {M : Nat} {z0 : State} (hM : M &&& 0xC0C00 = 0xC0C00) (h : Header) (s : State) (hk : Keep M z0 s) : Keep M z0 (State.ackReplay h s) := by
  refine hk.trans ?_
  have m0 : M &&& 0xC0C00 = 0xC0C00 := Keep.sub hM rfl
  unfold State.ackReplay
  try dsimp only
  repeat' (first | (with_reducible exact Keep.refl _ _) | (with_reducible apply State.sendAck_keep m0))

theorem State.ackRecord_keep {M : Nat} {z0 : State} (hM : M &&& 0xC0C00 = 0xC0C00) (dst step ts w : U32) (s : State) (hk : Keep M z0 s) : Keep M z0 (State.ackRecord dst step ts w s) := by
  refine hk.trans ?_
  have m0 : M &&& 0xC0C00 = 0xC0C00 := Keep.sub hM rfl
  unfold State.ackRecord
  try dsimp only
  repeat' (first | (with_reducible exact Keep.refl _ _) | (with_reducible apply State.sendAck_keep m0))

theorem State.ackMirror_keep {M : Nat} {z0 : State} (hM : M &&& 0xC0C00 = 0xC0C00) (h : Header) (s : State) (hk : Keep M z0 s) : Keep M z0 (State.ackMirror h s) := by
  refine hk.trans ?_
  have m0 : M &&& 0xC0C00 = 0xC0C00 := Keep.sub hM rfl
  unfold State.ackMirror
  try dsimp only
  repeat' (first | (with_reducible exact Keep.refl _ _) | (with_reducible apply State.sendAck_keep m0))

theorem State.setReplica_keep {M : Nat} {z0 : State} (hM : M &&& 0x1000 = 0x1000) (r : ReplicaWin) (s : State) (hk : Keep M z0 s) : Keep M z0 (State.setReplica r s) := by
  refine hk.trans ?_
  have b_part : M.testBit 12 = true := Keep.bit hM rfl
  unfold State.setReplica
  try dsimp only
  repeat' (first | (with_reducible exact Keep.refl _ _) | (with_reducible assumption) | (fail_if_no_progress (with_reducible apply Keep.upd_part b_part)) | (with_reducible apply Keep.ite) | split | dsimp only)

theorem State.sendVerdict_keep {M : Nat} {z0 : State} (hM : M &&& 0xC0C00 = 0xC0C00) (dst step ts w : U32) (code pipe : U8) (digest : U64) (s : State) (hk : Keep M z0 s) : Keep M z0 (State.sendVerdict dst step ts w code pipe digest s) := by
  refine hk.trans ?_
  have m0 : M &&& 0xC0C00 = 0xC0C00 := Keep.sub hM rfl
  unfold State.sendVerdict
  try dsimp only
  repeat' (first | (with_reducible exact Keep.refl _ _) | (with_reducible apply State.send_keep m0))

theorem State.settleReplica_keep {M : Nat} {z0 : State} (hM : M &&& 0xC1C00 = 0xC1C00) (r : ReplicaWin) (s : State) (hk : Keep M z0 s) : Keep M z0 (State.settleReplica r s) := by
  refine hk.trans ?_
  have m0 : M &&& 0x1000 = 0x1000 := Keep.sub hM rfl
  have m1 : M &&& 0xC0C00 = 0xC0C00 := Keep.sub hM rfl
  unfold State.settleReplica
  try dsimp only
  repeat' (first | (with_reducible exact Keep.refl _ _) | (with_reducible apply State.setReplica_keep m0) | (with_reducible apply State.ackRecord_keep m1))

theorem State.quarantineReplica_keep {M : Nat} {z0 : State} (hM : M &&& 0xC1C40 = 0xC1C40) (ts : U32) (s : State) (hk : Keep M z0 s) : Keep M z0 (State.quarantineReplica ts s) := by
  refine hk.trans ?_
  have m0 : M &&& 0xC1C00 = 0xC1C00 := Keep.sub hM rfl
  have m1 : M &&& 0x40 = 0x40 := Keep.sub hM rfl
  have b_upd : M.testBit 6 = true := Keep.bit hM rfl
  unfold State.quarantineReplica
  try dsimp only
  repeat' (first | (with_reducible exact Keep.refl _ _) | (with_reducible assumption) | (fail_if_no_progress (with_reducible apply Keep.upd_upd b_upd)) | (with_reducible apply State.settleReplica_keep m0) | (with_reducible apply State.setEntry_keep m1) | (with_reducible apply Keep.foldl) | (with_reducible apply Keep.foldl2) | (with_reducible apply Keep.foldl3) | (intro) | dsimp only)

theorem State.replicaSkew_keep {M : Nat} {z0 : State} (hM : M &&& 0xC1C40 = 0xC1C40) (r : ReplicaWin) (s : State) (hk : Keep M z0 s) : Keep M z0 (State.replicaSkew r s) := by
  refine hk.trans ?_
  have m0 : M &&& 0xC1C40 = 0xC1C40 := Keep.sub hM rfl
  have m1 : M &&& 0xC0C00 = 0xC0C00 := Keep.sub hM rfl
  have m2 : M &&& 0xC0000 = 0xC0000 := Keep.sub hM rfl
  unfold State.replicaSkew
  try dsimp only
  repeat' (first | (with_reducible exact Keep.refl _ _) | (with_reducible apply State.quarantineReplica_keep m0) | (with_reducible apply State.sendVerdict_keep m1) | (with_reducible apply State.record_keep m2))

theorem State.readLog_keep {M : Nat} {z0 : State} (hM : M &&& 0x2E3248 = 0x2E3248) (ix : Fin 4) (e : TensorEntry) (step w : U32) (s : State) (hk : Keep M z0 s) : Keep M z0 (State.readLog ix e step w s).2.2 := by
  refine hk.trans ?_
  have m0 : M &&& 0x2E3248 = 0x2E3248 := Keep.sub hM rfl
  have m1 : M &&& 0x41000 = 0x41000 := Keep.sub hM rfl
  unfold State.readLog
  try dsimp only
  repeat' (first | (with_reducible exact Keep.refl _ _) | (with_reducible assumption) | (with_reducible apply State.readBlock_keep m0) | (with_reducible apply State.setSlot_keep m1) | (with_reducible apply Keep.foldl) | (with_reducible apply Keep.foldl2) | (with_reducible apply Keep.foldl3) | (intro) | (with_reducible apply Keep.ite) | split | dsimp only | (with_reducible refine Keep.snd (by with_reducible assumption) ?_))

theorem State.admitReplica_keep {M : Nat} {z0 : State} (hM : M &&& 0xC1C40 = 0xC1C40) (d : DispWin) (s : State) (hk : Keep M z0 s) : Keep M z0 (State.admitReplica d s) := by
  refine hk.trans ?_
  have m0 : M &&& 0xC1C40 = 0xC1C40 := Keep.sub hM rfl
  have m1 : M &&& 0x40 = 0x40 := Keep.sub hM rfl
  have m2 : M &&& 0xC0000 = 0xC0000 := Keep.sub hM rfl
  have b_upd : M.testBit 6 = true := Keep.bit hM rfl
  unfold State.admitReplica
  try dsimp only
  repeat' (first | (with_reducible exact Keep.refl _ _) | (with_reducible assumption) | (fail_if_no_progress (with_reducible apply Keep.upd_upd b_upd)) | (with_reducible apply State.replicaSkew_keep m0) | (with_reducible apply State.quarantineReplica_keep m0) | (with_reducible apply State.setEntry_keep m1) | (with_reducible apply State.record_keep m2) | (with_reducible apply Keep.ite) | split | dsimp only | (with_reducible refine Keep.snd (by with_reducible assumption) ?_))

theorem State.readmitReplica_keep {M : Nat} {z0 : State} (hM : M &&& 0xC1C40 = 0xC1C40) (ts : U32) (s : State) (hk : Keep M z0 s) : Keep M z0 (State.readmitReplica ts s) := by
  refine hk.trans ?_
  have m0 : M &&& 0xC1C40 = 0xC1C40 := Keep.sub hM rfl
  have b_upd : M.testBit 6 = true := Keep.bit hM rfl
  unfold State.readmitReplica
  try dsimp only
  repeat' (first | (with_reducible exact Keep.refl _ _) | (with_reducible assumption) | (fail_if_no_progress (with_reducible apply Keep.upd_upd b_upd)) | (with_reducible apply State.admitReplica_keep m0) | (with_reducible apply Keep.foldl) | (with_reducible apply Keep.foldl2) | (with_reducible apply Keep.foldl3) | (intro) | dsimp only)

theorem State.tryReplica_keep {M : Nat} {z0 : State} (hM : M &&& 0x2E3E48 = 0x2E3E48) (ix : Fin 4) (r : ReplicaWin) (s : State) (hk : Keep M z0 s) : Keep M z0 (State.tryReplica ix r s) := by
  refine hk.trans ?_
  have m0 : M &&& 0xC1C40 = 0xC1C40 := Keep.sub hM rfl
  have m1 : M &&& 0x2E3248 = 0x2E3248 := Keep.sub hM rfl
  unfold State.tryReplica
  try dsimp only
  repeat' (first | (with_reducible exact Keep.refl _ _) | (with_reducible assumption) | (with_reducible apply State.admitReplica_keep m0) | (with_reducible apply State.readLog_keep m1) | (with_reducible apply Keep.ite) | split | dsimp only | (with_reducible refine Keep.snd (by with_reducible assumption) ?_))

theorem State.tryReplicas_keep {M : Nat} {z0 : State} (hM : M &&& 0x2E3E48 = 0x2E3E48) (ix : Fin 4) (ts step : U32) (s : State) (hk : Keep M z0 s) : Keep M z0 (State.tryReplicas ix ts step s) := by
  refine hk.trans ?_
  have m0 : M &&& 0x2E3E48 = 0x2E3E48 := Keep.sub hM rfl
  unfold State.tryReplicas
  try dsimp only
  repeat' (first | (with_reducible exact Keep.refl _ _) | (with_reducible assumption) | (with_reducible apply State.tryReplica_keep m0) | (with_reducible apply Keep.foldl) | (with_reducible apply Keep.foldl2) | (with_reducible apply Keep.foldl3) | (intro) | dsimp only)

theorem State.completeSlot_keep {M : Nat} {z0 : State} (hM : M &&& 0x41000 = 0x41000) (ix : Fin 4) (step : U32) (s : State) (hk : Keep M z0 s) : Keep M z0 (State.completeSlot ix step s) := by
  refine hk.trans ?_
  have m0 : M &&& 0x41000 = 0x41000 := Keep.sub hM rfl
  unfold State.completeSlot
  try dsimp only
  repeat' (first | (with_reducible exact Keep.refl _ _) | (with_reducible assumption) | (with_reducible apply State.setSlot_keep m0) | (with_reducible apply Keep.ite) | split | dsimp only | (with_reducible refine Keep.snd (by with_reducible assumption) ?_))

theorem State.completeReplica_keep {M : Nat} {z0 : State} (hM : M &&& 0xC9C40 = 0xC9C40) (src ts step : U32) (s : State) (hk : Keep M z0 s) : Keep M z0 (State.completeReplica src ts step s) := by
  refine hk.trans ?_
  have m0 : M &&& 0x41000 = 0x41000 := Keep.sub hM rfl
  have m1 : M &&& 0xC1C40 = 0xC1C40 := Keep.sub hM rfl
  have m2 : M &&& 0x40 = 0x40 := Keep.sub hM rfl
  have b_job : M.testBit 15 = true := Keep.bit hM rfl
  have b_part : M.testBit 12 = true := Keep.bit hM rfl
  unfold State.completeReplica
  try dsimp only
  repeat' (first | (with_reducible exact Keep.refl _ _) | (with_reducible assumption) | (fail_if_no_progress (with_reducible apply Keep.upd_job b_job)) | (fail_if_no_progress (with_reducible apply Keep.upd_part b_part)) | (fail_if_no_progress ((with_reducible refine Keep.updAll ?_ ?_ ?_ ?_ ?_ ?_ ?_ ?_ ?_ ?_ ?_ ?_ ?_ ?_ ?_ ?_ ?_ ?_ ?_ ?_ ?_ ?_ ?_ ?_ ?_ ?_); iterate 25 (first | (with_reducible rfl) | (with_reducible exact fun _ => rfl) | (exact fun b => absurd (b.symm.trans (Keep.bit hM rfl)) (by decide))))) | (with_reducible apply State.completeSlot_keep m0) | (with_reducible apply State.readmitReplica_keep m1) | (with_reducible apply State.setEntry_keep m2) | (with_reducible apply Keep.ite) | split | dsimp only | (with_reducible refine Keep.snd (by with_reducible assumption) ?_))

theorem State.recheckDigest_keep {M : Nat} {z0 : State} (hM : M &&& 0xC9C40 = 0xC9C40) (ts step : U32) (s : State) (hk : Keep M z0 s) : Keep M z0 (State.recheckDigest ts step s) := by
  refine hk.trans ?_
  have m0 : M &&& 0xC9C40 = 0xC9C40 := Keep.sub hM rfl
  have m1 : M &&& 0xC0C00 = 0xC0C00 := Keep.sub hM rfl
  unfold State.recheckDigest
  try dsimp only
  repeat' (first | (with_reducible exact Keep.refl _ _) | (with_reducible assumption) | (with_reducible apply State.completeReplica_keep m0) | (with_reducible apply State.sendDigest_keep m1) | (with_reducible apply Keep.ite) | split | dsimp only | (with_reducible refine Keep.snd (by with_reducible assumption) ?_))

theorem State.dropShard_keep {M : Nat} {z0 : State} (hM : M &&& 0x1000 = 0x1000) (src ts step : U32) (s : State) (hk : Keep M z0 s) : Keep M z0 (State.dropShard src ts step s) := by
  refine hk.trans ?_
  have b_part : M.testBit 12 = true := Keep.bit hM rfl
  unfold State.dropShard
  try dsimp only
  repeat' (first | (with_reducible exact Keep.refl _ _) | (fail_if_no_progress (with_reducible apply Keep.upd_part b_part)) | (with_reducible apply Keep.ite) | split)

theorem State.rejectShard_keep {M : Nat} {z0 : State} (hM : M &&& 0xC1C40 = 0xC1C40) (src ts step : U32) (s : State) (hk : Keep M z0 s) : Keep M z0 (State.rejectShard src ts step s) := by
  refine hk.trans ?_
  have m0 : M &&& 0x1000 = 0x1000 := Keep.sub hM rfl
  have m1 : M &&& 0xC1C40 = 0xC1C40 := Keep.sub hM rfl
  unfold State.rejectShard
  try dsimp only
  repeat' (first | (with_reducible exact Keep.refl _ _) | (with_reducible apply State.dropShard_keep m0) | (with_reducible apply State.quarantineReplica_keep m1) | (with_reducible apply Keep.ite) | split)

theorem State.dropUncommittedPartner_keep {M : Nat} {z0 : State} (hM : M &&& 0x1040 = 0x1040) (s : State) (hk : Keep M z0 s) : Keep M z0 (State.dropUncommittedPartner s) := by
  refine hk.trans ?_
  have b_part : M.testBit 12 = true := Keep.bit hM rfl
  have b_upd : M.testBit 6 = true := Keep.bit hM rfl
  unfold State.dropUncommittedPartner
  try dsimp only
  repeat' (first | (with_reducible exact Keep.refl _ _) | (with_reducible assumption) | (fail_if_no_progress (with_reducible apply Keep.upd_part b_part)) | (fail_if_no_progress (with_reducible apply Keep.upd_upd b_upd)) | (fail_if_no_progress ((with_reducible refine Keep.updAll ?_ ?_ ?_ ?_ ?_ ?_ ?_ ?_ ?_ ?_ ?_ ?_ ?_ ?_ ?_ ?_ ?_ ?_ ?_ ?_ ?_ ?_ ?_ ?_ ?_ ?_); iterate 25 (first | (with_reducible rfl) | (with_reducible exact fun _ => rfl) | (exact fun b => absurd (b.symm.trans (Keep.bit hM rfl)) (by decide))))) | (with_reducible apply Keep.ite) | split | dsimp only)

theorem State.putMirror_keep {M : Nat} {z0 : State} (hM : M &&& 0x2E3248 = 0x2E3248) (b : Block) (s : State) (hk : Keep M z0 s) : Keep M z0 (State.putMirror b s) := by
  refine hk.trans ?_
  have m0 : M &&& 0x2E3248 = 0x2E3248 := Keep.sub hM rfl
  unfold State.putMirror
  try dsimp only
  repeat' (first | (with_reducible exact Keep.refl _ _) | (with_reducible apply State.writeCarried_keep m0) | split | (with_reducible refine Keep.snd (by with_reducible assumption) ?_))

theorem State.putMaskMirror_keep {M : Nat} {z0 : State} (hM : M &&& 0x2E3248 = 0x2E3248) (e : TensorEntry) (b : Block) (s : State) (hk : Keep M z0 s) : Keep M z0 (State.putMaskMirror e b s) := by
  refine hk.trans ?_
  have m0 : M &&& 0x2E3248 = 0x2E3248 := Keep.sub hM rfl
  unfold State.putMaskMirror
  try dsimp only
  repeat' (first | (with_reducible exact Keep.refl _ _) | (with_reducible apply State.writeCarried_keep m0) | split | (with_reducible refine Keep.snd (by with_reducible assumption) ?_))

theorem State.popRetained_keep {M : Nat} {z0 : State} (hM : M &&& 0x1000 = 0x1000) (f : Packet → Bool) (s : State) (hk : Keep M z0 s) : Keep M z0 (State.popRetained f s).2 := by
  refine hk.trans ?_
  have b_part : M.testBit 12 = true := Keep.bit hM rfl
  unfold State.popRetained
  try dsimp only
  repeat' (first | (with_reducible exact Keep.refl _ _) | (with_reducible assumption) | (fail_if_no_progress (with_reducible apply Keep.upd_part b_part)) | split | dsimp only | (with_reducible refine Keep.snd (by with_reducible assumption) ?_))

theorem partnerConfigWrite_keep {M : Nat} {z0 : State} (hM : M &&& 0xC1C00 = 0xC1C00) (sub : U8) (bytes : List Byte) (s : State) (hk : Keep M z0 s) : Keep M z0 (partnerConfigWrite sub bytes s) := by
  refine hk.trans ?_
  have m0 : M &&& 0x1000 = 0x1000 := Keep.sub hM rfl
  have m1 : M &&& 0xC1C00 = 0xC1C00 := Keep.sub hM rfl
  have b_part : M.testBit 12 = true := Keep.bit hM rfl
  unfold partnerConfigWrite
  try dsimp only
  repeat' (first | (with_reducible exact Keep.refl _ _) | (fail_if_no_progress (with_reducible apply Keep.upd_part b_part)) | (with_reducible apply State.applyOwners_keep m0) | (with_reducible apply State.applyDelta_keep m0) | (with_reducible apply State.applyPartner_keep m1) | (with_reducible apply Keep.ite) | split)

theorem State.tagReplicas_keep {M : Nat} {z0 : State} (hM : M &&& 0x200 = 0x200) (s : State) (hk : Keep M z0 s) : Keep M z0 (State.tagReplicas s) := by
  refine hk.trans ?_
  have b_mem : M.testBit 9 = true := Keep.bit hM rfl
  unfold State.tagReplicas
  try dsimp only
  repeat' (first | (with_reducible exact Keep.refl _ _) | (with_reducible assumption) | (fail_if_no_progress ((with_reducible refine Keep.upd_memHL b_mem ?_ ?_ ?_); (with_reducible rfl); (with_reducible rfl))) | (with_reducible apply Keep.ite) | split | dsimp only)

theorem pairReqReceive_keep {M : Nat} {z0 : State} (hM : M &&& 0xC0E00 = 0xC0E00) (pk : Trans) (s : State) (hk : Keep M z0 s) : Keep M z0 (pairReqReceive pk s) := by
  refine hk.trans ?_
  have m0 : M &&& 0x200 = 0x200 := Keep.sub hM rfl
  have m1 : M &&& 0xC0C00 = 0xC0C00 := Keep.sub hM rfl
  have m2 : M &&& 0x800 = 0x800 := Keep.sub hM rfl
  unfold pairReqReceive
  try dsimp only
  repeat' (first | (with_reducible exact Keep.refl _ _) | (with_reducible apply State.tagReplicas_keep m0) | (with_reducible apply State.sendTrans_keep m1) | (with_reducible apply State.takePk_keep m2) | split | (with_reducible refine Keep.snd (by with_reducible assumption) ?_))

theorem pairAckReceive_keep {M : Nat} {z0 : State} (hM : M &&& 0xC1800 = 0xC1800) (pk : Trans) (s : State) (hk : Keep M z0 s) : Keep M z0 (pairAckReceive pk s) := by
  refine hk.trans ?_
  have m0 : M &&& 0xC1000 = 0xC1000 := Keep.sub hM rfl
  have m1 : M &&& 0x800 = 0x800 := Keep.sub hM rfl
  unfold pairAckReceive
  try dsimp only
  repeat' (first | (with_reducible exact Keep.refl _ _) | (with_reducible apply State.pairOk_keep m0) | (with_reducible apply State.takePk_keep m1) | (with_reducible apply Keep.ite) | split)

theorem pairRefuseReceive_keep {M : Nat} {z0 : State} (hM : M &&& 0xC1800 = 0xC1800) (pk : Trans) (s : State) (hk : Keep M z0 s) : Keep M z0 (pairRefuseReceive pk s) := by
  refine hk.trans ?_
  have m0 : M &&& 0xC1000 = 0xC1000 := Keep.sub hM rfl
  have m1 : M &&& 0x800 = 0x800 := Keep.sub hM rfl
  unfold pairRefuseReceive
  try dsimp only
  repeat' (first | (with_reducible exact Keep.refl _ _) | (with_reducible apply State.pairFailed_keep m0) | (with_reducible apply State.takePk_keep m1) | (with_reducible apply Keep.ite) | split)

theorem pairTimeout_keep {M : Nat} {z0 : State} (hM : M &&& 0xC1000 = 0xC1000) (s : State) (hk : Keep M z0 s) : Keep M z0 (pairTimeout s) := by
  refine hk.trans ?_
  have m0 : M &&& 0xC1000 = 0xC1000 := Keep.sub hM rfl
  unfold pairTimeout
  try dsimp only
  repeat' (first | (with_reducible exact Keep.refl _ _) | (with_reducible apply State.pairFailed_keep m0) | (with_reducible apply Keep.ite) | split)

theorem pairRetry_keep {M : Nat} {z0 : State} (hM : M &&& 0xC1C00 = 0xC1C00) (s : State) (hk : Keep M z0 s) : Keep M z0 (pairRetry s) := by
  refine hk.trans ?_
  have m0 : M &&& 0xC1C00 = 0xC1C00 := Keep.sub hM rfl
  unfold pairRetry
  try dsimp only
  repeat' (first | (with_reducible exact Keep.refl _ _) | (with_reducible apply State.sendPairReq_keep m0) | (with_reducible apply Keep.ite) | split)

theorem State.refuseChange_keep {M : Nat} {z0 : State} (hM : M &&& 0xC1000 = 0xC1000) (s : State) (hk : Keep M z0 s) : Keep M z0 (State.refuseChange s) := by
  refine hk.trans ?_
  have m0 : M &&& 0xC0000 = 0xC0000 := Keep.sub hM rfl
  have b_part : M.testBit 12 = true := Keep.bit hM rfl
  unfold State.refuseChange
  try dsimp only
  repeat' (first | (with_reducible exact Keep.refl _ _) | (fail_if_no_progress (with_reducible apply Keep.upd_part b_part)) | (with_reducible apply State.record_keep m0))

theorem classChangeAction_keep {M : Nat} {z0 : State} (hM : M &&& 0xC1000 = 0xC1000) (bytes : List Byte) (s : State) (hk : Keep M z0 s) : Keep M z0 (classChangeAction bytes s) := by
  refine hk.trans ?_
  have m0 : M &&& 0xC1000 = 0xC1000 := Keep.sub hM rfl
  have b_part : M.testBit 12 = true := Keep.bit hM rfl
  unfold classChangeAction
  try dsimp only
  repeat' (first | (with_reducible exact Keep.refl _ _) | (fail_if_no_progress (with_reducible apply Keep.upd_part b_part)) | (with_reducible apply State.refuseChange_keep m0) | (with_reducible apply Keep.ite) | split | (with_reducible refine Keep.snd (by with_reducible assumption) ?_))

theorem State.setRoll_keep {M : Nat} {z0 : State} (hM : M &&& 0x8000 = 0x8000) (ts : U32) (f : Roll → Roll) (s : State) (hk : Keep M z0 s) : Keep M z0 (State.setRoll ts f s) := by
  refine hk.trans ?_
  have b_job : M.testBit 15 = true := Keep.bit hM rfl
  unfold State.setRoll
  try dsimp only
  repeat' (first | (with_reducible exact Keep.refl _ _) | (with_reducible assumption) | (fail_if_no_progress (with_reducible apply Keep.upd_job b_job)) | (with_reducible apply Keep.ite) | split | dsimp only)

theorem State.failRoll_keep {M : Nat} {z0 : State} (hM : M &&& 0xC8000 = 0xC8000) (ts : U32) (s : State) (hk : Keep M z0 s) : Keep M z0 (State.failRoll ts s) := by
  refine hk.trans ?_
  have m0 : M &&& 0x8000 = 0x8000 := Keep.sub hM rfl
  have m1 : M &&& 0xC0000 = 0xC0000 := Keep.sub hM rfl
  unfold State.failRoll
  try dsimp only
  repeat' (first | (with_reducible exact Keep.refl _ _) | (with_reducible assumption) | (with_reducible apply State.setRoll_keep m0) | (with_reducible apply State.record_keep m1) | dsimp only)

theorem State.rollBlock_keep {M : Nat} {z0 : State} (hM : M &&& 0xC8000 = 0xC8000) (b : Block) (s : State) (hk : Keep M z0 s) : Keep M z0 (State.rollBlock b s) := by
  refine hk.trans ?_
  have m0 : M &&& 0xC8000 = 0xC8000 := Keep.sub hM rfl
  have m1 : M &&& 0x8000 = 0x8000 := Keep.sub hM rfl
  unfold State.rollBlock
  try dsimp only
  repeat' (first | (with_reducible exact Keep.refl _ _) | (with_reducible assumption) | (with_reducible apply State.failRoll_keep m0) | (with_reducible apply State.setRoll_keep m1) | (with_reducible apply Keep.ite) | split | dsimp only)

theorem State.rollRecord_keep {M : Nat} {z0 : State} (hM : M &&& 0xC8040 = 0xC8040) (pk : Trans) (s : State) (hk : Keep M z0 s) : Keep M z0 (State.rollRecord pk s) := by
  refine hk.trans ?_
  have m0 : M &&& 0xC8000 = 0xC8000 := Keep.sub hM rfl
  have m1 : M &&& 0x8000 = 0x8000 := Keep.sub hM rfl
  have b_upd : M.testBit 6 = true := Keep.bit hM rfl
  unfold State.rollRecord
  try dsimp only
  repeat' (first | (with_reducible exact Keep.refl _ _) | (with_reducible assumption) | (fail_if_no_progress (with_reducible apply Keep.upd_upd b_upd)) | (with_reducible apply State.failRoll_keep m0) | (with_reducible apply State.setRoll_keep m1) | (with_reducible apply Keep.ite) | split | dsimp only | (with_reducible refine Keep.snd (by with_reducible assumption) ?_))

theorem State.rollSkip_keep {M : Nat} {z0 : State} (hM : M &&& 0x40 = 0x40) (pk : Trans) (s : State) (hk : Keep M z0 s) : Keep M z0 (State.rollSkip pk s) := by
  refine hk.trans ?_
  have m0 : M &&& 0x40 = 0x40 := Keep.sub hM rfl
  unfold State.rollSkip
  try dsimp only
  repeat' (first | (with_reducible exact Keep.refl _ _) | (with_reducible assumption) | (with_reducible apply State.setEntry_keep m0) | dsimp only)

theorem State.replayGate_keep {M : Nat} {z0 : State} (hM : M &&& 0xC1020 = 0xC1020) (src ts step : U32) (ack : State → State) (s : State) (hack : ∀ y0, Keep M y0 (ack y0)) (hk : Keep M z0 s) : Keep M z0 (State.replayGate src ts step ack s).2 := by
  refine hk.trans ?_
  have m0 : M &&& 0x20 = 0x20 := Keep.sub hM rfl
  have m1 : M &&& 0x1000 = 0x1000 := Keep.sub hM rfl
  have m2 : M &&& 0xC1000 = 0xC1000 := Keep.sub hM rfl
  have b_part : M.testBit 12 = true := Keep.bit hM rfl
  unfold State.replayGate
  try dsimp only
  repeat' (first | (with_reducible exact Keep.refl _ _) | (with_reducible assumption) | (fail_if_no_progress (with_reducible apply Keep.upd_part b_part)) | (with_reducible apply State.refuseStep_keep m0) | (with_reducible apply State.refuseQuiet_keep m1) | (with_reducible apply State.refuseShard_keep m2) | (with_reducible apply State.refuseSource_keep m2) | (with_reducible apply Keep.trans _ (hack ..)) | (with_reducible apply Keep.ite) | split | dsimp only | (with_reducible refine Keep.snd (by with_reducible assumption) ?_))

theorem State.refuseLog_keep {M : Nat} {z0 : State} (hM : M &&& 0x1000 = 0x1000) (s : State) (hk : Keep M z0 s) : Keep M z0 (State.refuseLog s) := by
  refine hk.trans ?_
  have b_part : M.testBit 12 = true := Keep.bit hM rfl
  unfold State.refuseLog
  try dsimp only
  repeat' (first | (with_reducible exact Keep.refl _ _) | (fail_if_no_progress (with_reducible apply Keep.upd_part b_part)))

theorem replayGReceive_keep {M : Nat} {z0 : State} (hM : M &&& 0x2EBE68 = 0x2EBE68) (b : Block) (s : State) (hk : Keep M z0 s) : Keep M z0 (replayGReceive b s) := by
  refine hk.trans ?_
  have m0 : M &&& 0x1000 = 0x1000 := Keep.sub hM rfl
  have m1 : M &&& 0xC1020 = 0xC1020 := Keep.sub hM rfl
  have m2 : M &&& 0xC8000 = 0xC8000 := Keep.sub hM rfl
  have m3 : M &&& 0x2E3E48 = 0x2E3E48 := Keep.sub hM rfl
  have m4 : M &&& 0xC0C00 = 0xC0C00 := Keep.sub hM rfl
  have m5 : M &&& 0x2E3248 = 0x2E3248 := Keep.sub hM rfl
  have m6 : M &&& 0x800 = 0x800 := Keep.sub hM rfl
  unfold replayGReceive
  try dsimp only
  repeat' (first | (with_reducible exact Keep.refl _ _) | (with_reducible assumption) | (with_reducible apply State.refuseLog_keep m0) | (with_reducible apply State.replayGate_keep m1) | (with_reducible apply State.rollBlock_keep m2) | (with_reducible apply State.tryReplicas_keep m3) | (with_reducible apply State.ackReplay_keep m4) | (with_reducible apply State.refuseQuiet_keep m0) | (with_reducible apply State.putG_keep m5) | (with_reducible apply State.takePk_keep m6) | (with_reducible refine State.openSlot_keep (Keep.sub hM rfl) (by with_reducible assumption) ?_) | (intro) | (with_reducible apply Keep.ite) | split | dsimp only | (with_reducible refine Keep.snd (by with_reducible assumption) ?_))

theorem State.newRecord_keep {M : Nat} {z0 : State} (hM : M &&& 0x2E3E48 = 0x2E3E48) (ix : Fin 4) (r : ReplicaWin) (s : State) (hk : Keep M z0 s) : Keep M z0 (State.newRecord ix r s) := by
  refine hk.trans ?_
  have m0 : M &&& 0x1000 = 0x1000 := Keep.sub hM rfl
  have m1 : M &&& 0x2E3E48 = 0x2E3E48 := Keep.sub hM rfl
  have m2 : M &&& 0xC1C40 = 0xC1C40 := Keep.sub hM rfl
  have m3 : M &&& 0x2E3248 = 0x2E3248 := Keep.sub hM rfl
  have b_part : M.testBit 12 = true := Keep.bit hM rfl
  unfold State.newRecord
  try dsimp only
  repeat' (first | (with_reducible exact Keep.refl _ _) | (with_reducible assumption) | (fail_if_no_progress (with_reducible apply Keep.upd_part b_part)) | (with_reducible apply State.refuseLog_keep m0) | (with_reducible apply State.tryReplica_keep m1) | (with_reducible apply State.replicaSkew_keep m2) | (with_reducible apply State.putRec_keep m3) | (with_reducible refine State.openSlot_keep (Keep.sub hM rfl) (by with_reducible assumption) ?_) | (with_reducible apply Keep.ite) | split | dsimp only | (with_reducible refine Keep.snd (by with_reducible assumption) ?_))

theorem windowRecordReceive_keep {M : Nat} {z0 : State} (hM : M &&& 0x2EBE68 = 0x2EBE68) (pk : Trans) (s : State) (hk : Keep M z0 s) : Keep M z0 (windowRecordReceive pk s) := by
  refine hk.trans ?_
  have m0 : M &&& 0x2E3E48 = 0x2E3E48 := Keep.sub hM rfl
  have m1 : M &&& 0xC1020 = 0xC1020 := Keep.sub hM rfl
  have m2 : M &&& 0xC8040 = 0xC8040 := Keep.sub hM rfl
  have m3 : M &&& 0xC0C00 = 0xC0C00 := Keep.sub hM rfl
  have m4 : M &&& 0x800 = 0x800 := Keep.sub hM rfl
  unfold windowRecordReceive
  try dsimp only
  repeat' (first | (with_reducible exact Keep.refl _ _) | (with_reducible assumption) | (with_reducible apply State.newRecord_keep m0) | (with_reducible apply State.replayGate_keep m1) | (with_reducible apply State.rollRecord_keep m2) | (with_reducible apply State.ackRecord_keep m3) | (with_reducible apply State.takePk_keep m4) | (intro) | (with_reducible apply Keep.ite) | split | dsimp only | (with_reducible refine Keep.snd (by with_reducible assumption) ?_))

theorem skipRecordReceive_keep {M : Nat} {z0 : State} (hM : M &&& 0x2EBE68 = 0x2EBE68) (pk : Trans) (s : State) (hk : Keep M z0 s) : Keep M z0 (skipRecordReceive pk s) := by
  refine hk.trans ?_
  have m0 : M &&& 0x1000 = 0x1000 := Keep.sub hM rfl
  have m1 : M &&& 0xC1020 = 0xC1020 := Keep.sub hM rfl
  have m2 : M &&& 0x40 = 0x40 := Keep.sub hM rfl
  have m3 : M &&& 0xC9C40 = 0xC9C40 := Keep.sub hM rfl
  have m4 : M &&& 0xC0C00 = 0xC0C00 := Keep.sub hM rfl
  have m5 : M &&& 0x2E3248 = 0x2E3248 := Keep.sub hM rfl
  have m6 : M &&& 0x800 = 0x800 := Keep.sub hM rfl
  unfold skipRecordReceive
  try dsimp only
  repeat' (first | (with_reducible exact Keep.refl _ _) | (with_reducible apply State.refuseLog_keep m0) | (with_reducible apply State.replayGate_keep m1) | (with_reducible apply State.rollSkip_keep m2) | (with_reducible apply State.recheckDigest_keep m3) | (with_reducible apply State.ackRecord_keep m4) | (with_reducible apply State.putRec_keep m5) | (with_reducible apply State.takePk_keep m6) | (with_reducible refine State.openSlot_keep (Keep.sub hM rfl) (by with_reducible assumption) ?_) | (intro) | (with_reducible apply Keep.ite) | split | dsimp only | (with_reducible refine Keep.snd (by with_reducible assumption) ?_))

theorem State.applySync_keep {M : Nat} {z0 : State} (hM : M &&& 0xC9C40 = 0xC9C40) (src ts step t l : U32) (s : State) (hk : Keep M z0 s) : Keep M z0 (State.applySync src ts step t l s) := by
  refine hk.trans ?_
  have m0 : M &&& 0xC1C40 = 0xC1C40 := Keep.sub hM rfl
  have m1 : M &&& 0x40 = 0x40 := Keep.sub hM rfl
  have b_job : M.testBit 15 = true := Keep.bit hM rfl
  have b_part : M.testBit 12 = true := Keep.bit hM rfl
  unfold State.applySync
  try dsimp only
  repeat' (first | (with_reducible exact Keep.refl _ _) | (with_reducible assumption) | (fail_if_no_progress (with_reducible apply Keep.upd_job b_job)) | (fail_if_no_progress (with_reducible apply Keep.upd_part b_part)) | (fail_if_no_progress ((with_reducible refine Keep.updAll ?_ ?_ ?_ ?_ ?_ ?_ ?_ ?_ ?_ ?_ ?_ ?_ ?_ ?_ ?_ ?_ ?_ ?_ ?_ ?_ ?_ ?_ ?_ ?_ ?_ ?_); iterate 25 (first | (with_reducible rfl) | (with_reducible exact fun _ => rfl) | (exact fun b => absurd (b.symm.trans (Keep.bit hM rfl)) (by decide))))) | (with_reducible apply State.readmitReplica_keep m0) | (with_reducible apply State.setEntry_keep m1) | (with_reducible apply Keep.ite) | split | dsimp only | (with_reducible refine Keep.snd (by with_reducible assumption) ?_))

theorem syncRecordReceive_keep {M : Nat} {z0 : State} (hM : M &&& 0xC9C60 = 0xC9C60) (pk : Trans) (s : State) (hk : Keep M z0 s) : Keep M z0 (syncRecordReceive pk s) := by
  refine hk.trans ?_
  have m0 : M &&& 0xC9C40 = 0xC9C40 := Keep.sub hM rfl
  have m1 : M &&& 0xC0C00 = 0xC0C00 := Keep.sub hM rfl
  have m2 : M &&& 0x20 = 0x20 := Keep.sub hM rfl
  have m3 : M &&& 0xC1000 = 0xC1000 := Keep.sub hM rfl
  have m4 : M &&& 0x800 = 0x800 := Keep.sub hM rfl
  unfold syncRecordReceive
  try dsimp only
  repeat' (first | (with_reducible exact Keep.refl _ _) | (with_reducible apply State.applySync_keep m0) | (with_reducible apply State.ackRecord_keep m1) | (with_reducible apply State.refuseStep_keep m2) | (with_reducible apply State.refuseShard_keep m3) | (with_reducible apply State.refuseSource_keep m3) | (with_reducible apply State.takePk_keep m4) | (with_reducible apply Keep.ite) | split | (with_reducible refine Keep.snd (by with_reducible assumption) ?_))

theorem dropRecordReceive_keep {M : Nat} {z0 : State} (hM : M &&& 0xC1C60 = 0xC1C60) (pk : Trans) (s : State) (hk : Keep M z0 s) : Keep M z0 (dropRecordReceive pk s) := by
  refine hk.trans ?_
  have m0 : M &&& 0x1000 = 0x1000 := Keep.sub hM rfl
  have m1 : M &&& 0xC1C40 = 0xC1C40 := Keep.sub hM rfl
  have m2 : M &&& 0xC0C00 = 0xC0C00 := Keep.sub hM rfl
  have m3 : M &&& 0x20 = 0x20 := Keep.sub hM rfl
  have m4 : M &&& 0xC1000 = 0xC1000 := Keep.sub hM rfl
  have m5 : M &&& 0x800 = 0x800 := Keep.sub hM rfl
  have b_part : M.testBit 12 = true := Keep.bit hM rfl
  unfold dropRecordReceive
  try dsimp only
  repeat' (first | (with_reducible exact Keep.refl _ _) | (with_reducible assumption) | (fail_if_no_progress (with_reducible apply Keep.upd_part b_part)) | (with_reducible apply State.dropShard_keep m0) | (with_reducible apply State.quarantineReplica_keep m1) | (with_reducible apply State.ackRecord_keep m2) | (with_reducible apply State.refuseStep_keep m3) | (with_reducible apply State.refuseQuiet_keep m0) | (with_reducible apply State.refuseShard_keep m4) | (with_reducible apply State.refuseSource_keep m4) | (with_reducible apply State.takePk_keep m5) | (with_reducible apply Keep.ite) | split | dsimp only | (with_reducible refine Keep.snd (by with_reducible assumption) ?_))

theorem State.writeReplica_keep {M : Nat} {z0 : State} (hM : M &&& 0xAE3248 = 0xAE3248) (p : Pipe) (e : TensorEntry) (d : DispWin) (res : RunResult) (ws : List BlkWrite) (s : State) (hk : Keep M z0 s) : Keep M z0 (State.writeReplica p e d res ws s) := by
  refine hk.trans ?_
  have m0 : M &&& 0x8C0048 = 0x8C0048 := Keep.sub hM rfl
  have m1 : M &&& 0x2E3248 = 0x2E3248 := Keep.sub hM rfl
  unfold State.writeReplica
  try dsimp only
  repeat' (first | (with_reducible exact Keep.refl _ _) | (with_reducible assumption) | (with_reducible apply State.countWindow_keep m0) | (with_reducible apply State.commitWrite_keep m1) | (with_reducible apply Keep.foldl) | (with_reducible apply Keep.foldl2) | (with_reducible apply Keep.foldl3) | (intro) | dsimp only)

theorem State.sendRepair_keep {M : Nat} {z0 : State} (hM : M &&& 0xC1C00 = 0xC1C00) (r : ReplicaWin) (ws : List BlkWrite) (s : State) (hk : Keep M z0 s) : Keep M z0 (State.sendRepair r ws s) := by
  refine hk.trans ?_
  have m0 : M &&& 0x1000 = 0x1000 := Keep.sub hM rfl
  have m1 : M &&& 0xC1C00 = 0xC1C00 := Keep.sub hM rfl
  unfold State.sendRepair
  try dsimp only
  repeat' (first | (with_reducible exact Keep.refl _ _) | (with_reducible assumption) | (with_reducible apply State.setReplica_keep m0) | (with_reducible apply State.countMirror_keep m0) | (with_reducible apply State.sendRetained_keep m1) | (with_reducible apply Keep.foldl) | (with_reducible apply Keep.foldl2) | (with_reducible apply Keep.foldl3) | (intro) | split | dsimp only | (with_reducible refine Keep.snd (by with_reducible assumption) ?_))

theorem State.countDecided_keep {M : Nat} {z0 : State} (hM : M &&& 0x1000 = 0x1000) (s : State) (hk : Keep M z0 s) : Keep M z0 (State.countDecided s) := by
  refine hk.trans ?_
  have b_part : M.testBit 12 = true := Keep.bit hM rfl
  unfold State.countDecided
  try dsimp only
  repeat' (first | (with_reducible exact Keep.refl _ _) | (fail_if_no_progress (with_reducible apply Keep.upd_part b_part)))

theorem State.thirdRun_keep {M : Nat} {z0 : State} (hM : M &&& 0xAEBE48 = 0xAEBE48) (p : Pipe) (e : TensorEntry) (x : PipeWin) (r : ReplicaWin) (ws : List BlkWrite) (mine : U64) (s : State) (hk : Keep M z0 s) : Keep M z0 (State.thirdRun p e x r ws mine s) := by
  refine hk.trans ?_
  have m0 : M &&& 0x1000 = 0x1000 := Keep.sub hM rfl
  have m1 : M &&& 0xC1C00 = 0xC1C00 := Keep.sub hM rfl
  have m2 : M &&& 0xAE3248 = 0xAE3248 := Keep.sub hM rfl
  have m3 : M &&& 0xC9C40 = 0xC9C40 := Keep.sub hM rfl
  have m4 : M &&& 0xC1C40 = 0xC1C40 := Keep.sub hM rfl
  have m5 : M &&& 0xC0C00 = 0xC0C00 := Keep.sub hM rfl
  have m6 : M &&& 0x2E3248 = 0x2E3248 := Keep.sub hM rfl
  have m7 : M &&& 0x2E0000 = 0x2E0000 := Keep.sub hM rfl
  have m8 : M &&& 0xC0000 = 0xC0000 := Keep.sub hM rfl
  have b_part : M.testBit 12 = true := Keep.bit hM rfl
  unfold State.thirdRun
  try dsimp only
  repeat' (first | (with_reducible exact Keep.refl _ _) | (fail_if_no_progress (with_reducible apply Keep.upd_part b_part)) | (with_reducible apply State.countDecided_keep m0) | (with_reducible apply State.sendRepair_keep m1) | (with_reducible apply State.writeReplica_keep m2) | (with_reducible apply State.recheckDigest_keep m3) | (with_reducible apply State.quarantineReplica_keep m4) | (with_reducible apply State.settleReplica_keep m1) | (with_reducible apply State.sendVerdict_keep m5) | (with_reducible apply State.runFor_keep m6) | (with_reducible apply State.charge_keep m7) | (with_reducible apply State.record_keep m8) | (with_reducible apply Keep.ite) | split | dsimp only | (with_reducible refine Keep.snd (by with_reducible assumption) ?_))

theorem replicaWindowSettle_keep {M : Nat} {z0 : State} (hM : M &&& 0xAEBE48 = 0xAEBE48) (ts w : U32) (s : State) (hk : Keep M z0 s) : Keep M z0 (replicaWindowSettle ts w s) := by
  refine hk.trans ?_
  have m0 : M &&& 0xAEBE48 = 0xAEBE48 := Keep.sub hM rfl
  have m1 : M &&& 0xAE3248 = 0xAE3248 := Keep.sub hM rfl
  have m2 : M &&& 0xC9C40 = 0xC9C40 := Keep.sub hM rfl
  have m3 : M &&& 0xC1C00 = 0xC1C00 := Keep.sub hM rfl
  have m4 : M &&& 0xC0C00 = 0xC0C00 := Keep.sub hM rfl
  have m5 : M &&& 0x1000 = 0x1000 := Keep.sub hM rfl
  have m6 : M &&& 0x40 = 0x40 := Keep.sub hM rfl
  have m7 : M &&& 0xC0000 = 0xC0000 := Keep.sub hM rfl
  have b_part : M.testBit 12 = true := Keep.bit hM rfl
  unfold replicaWindowSettle
  try dsimp only
  repeat' (first | (with_reducible exact Keep.refl _ _) | (with_reducible assumption) | (fail_if_no_progress (with_reducible apply Keep.upd_part b_part)) | (with_reducible apply State.thirdRun_keep m0) | (with_reducible apply State.writeReplica_keep m1) | (with_reducible apply State.recheckDigest_keep m2) | (with_reducible apply State.settleReplica_keep m3) | (with_reducible apply State.sendVerdict_keep m4) | (with_reducible apply State.setReplica_keep m5) | (with_reducible apply State.setPipe_keep m6) | (with_reducible apply State.record_keep m7) | (intro) | (with_reducible apply Keep.ite) | split | dsimp only | (with_reducible refine Keep.snd (by with_reducible assumption) ?_))

theorem State.repairPartner_keep {M : Nat} {z0 : State} (hM : M &&& 0x2E3E48 = 0x2E3E48) (e : TensorEntry) (w step : U32) (s : State) (hk : Keep M z0 s) : Keep M z0 (State.repairPartner e w step s) := by
  refine hk.trans ?_
  have m0 : M &&& 0x2E3E48 = 0x2E3E48 := Keep.sub hM rfl
  have m1 : M &&& 0xC1C00 = 0xC1C00 := Keep.sub hM rfl
  unfold State.repairPartner
  try dsimp only
  repeat' (first | (with_reducible exact Keep.refl _ _) | (with_reducible assumption) | (with_reducible apply State.sendMirror_keep m0) | (with_reducible apply State.sendRecord_keep m1) | (with_reducible apply Keep.foldl) | (with_reducible apply Keep.foldl2) | (with_reducible apply Keep.foldl3) | (intro) | (with_reducible apply Keep.ite) | split | dsimp only)

theorem verdictReceive_keep {M : Nat} {z0 : State} (hM : M &&& 0x2E3F78 = 0x2E3F78) (pk : Trans) (s : State) (hk : Keep M z0 s) : Keep M z0 (verdictReceive pk s) := by
  refine hk.trans ?_
  have m0 : M &&& 0x2E3E48 = 0x2E3E48 := Keep.sub hM rfl
  have m1 : M &&& 0x20 = 0x20 := Keep.sub hM rfl
  have m2 : M &&& 0xC1000 = 0xC1000 := Keep.sub hM rfl
  have m3 : M &&& 0x2E3F58 = 0x2E3F58 := Keep.sub hM rfl
  have m4 : M &&& 0xC2F58 = 0xC2F58 := Keep.sub hM rfl
  have m5 : M &&& 0x800 = 0x800 := Keep.sub hM rfl
  have m6 : M &&& 0x2E0000 = 0x2E0000 := Keep.sub hM rfl
  have b_part : M.testBit 12 = true := Keep.bit hM rfl
  unfold verdictReceive
  try dsimp only
  repeat' (first | (with_reducible exact Keep.refl _ _) | (with_reducible assumption) | (fail_if_no_progress (with_reducible apply Keep.upd_part b_part)) | (with_reducible apply State.repairPartner_keep m0) | (with_reducible apply State.refuseStep_keep m1) | (with_reducible apply State.refuseSource_keep m2) | (with_reducible apply State.countWritten_keep m3) | (with_reducible apply State.failShard_keep m4) | (with_reducible apply State.takePk_keep m5) | (with_reducible apply State.charge_keep m6) | (with_reducible apply Keep.ite) | split | dsimp only | (with_reducible refine Keep.snd (by with_reducible assumption) ?_))

theorem State.acceptPull_keep {M : Nat} {z0 : State} (hM : M &&& 0x2EB248 = 0x2EB248) (p : Pull) (c : Cover) (b : Block) (s : State) (hk : Keep M z0 s) : Keep M z0 (State.acceptPull p c b s) := by
  refine hk.trans ?_
  have m0 : M &&& 0x2E3248 = 0x2E3248 := Keep.sub hM rfl
  have b_job : M.testBit 15 = true := Keep.bit hM rfl
  unfold State.acceptPull
  try dsimp only
  repeat' (first | (with_reducible exact Keep.refl _ _) | (fail_if_no_progress (with_reducible apply Keep.upd_job b_job)) | (with_reducible apply State.putMaskMirror_keep m0) | (with_reducible apply State.putMirror_keep m0) | (with_reducible apply Keep.ite) | split)

theorem State.acceptRepair_keep {M : Nat} {z0 : State} (hM : M &&& 0x2E3E48 = 0x2E3E48) (r : U32 × U32 × U32) (c : Cover) (b : Block) (s : State) (hk : Keep M z0 s) : Keep M z0 (State.acceptRepair r c b s) := by
  refine hk.trans ?_
  have m0 : M &&& 0x2E3248 = 0x2E3248 := Keep.sub hM rfl
  have m1 : M &&& 0xC0C00 = 0xC0C00 := Keep.sub hM rfl
  have m2 : M &&& 0x1000 = 0x1000 := Keep.sub hM rfl
  unfold State.acceptRepair
  try dsimp only
  repeat' (first | (with_reducible exact Keep.refl _ _) | (with_reducible apply State.putMirror_keep m0) | (with_reducible apply State.ackMirror_keep m1) | (with_reducible apply State.foldTerm_keep m2))

theorem State.ownerMirror_keep {M : Nat} {z0 : State} (hM : M &&& 0x2EBE48 = 0x2EBE48) (b : Block) (s : State) (hk : Keep M z0 s) : Keep M z0 (State.ownerMirror b s) := by
  refine hk.trans ?_
  have m0 : M &&& 0x2E3E48 = 0x2E3E48 := Keep.sub hM rfl
  have m1 : M &&& 0x2EB248 = 0x2EB248 := Keep.sub hM rfl
  have m2 : M &&& 0xC1000 = 0xC1000 := Keep.sub hM rfl
  have m3 : M &&& 0x800 = 0x800 := Keep.sub hM rfl
  have m4 : M &&& 0x2040 = 0x2040 := Keep.sub hM rfl
  have m5 : M &&& 0xC2040 = 0xC2040 := Keep.sub hM rfl
  have b_job : M.testBit 15 = true := Keep.bit hM rfl
  unfold State.ownerMirror
  try dsimp only
  repeat' (first | (with_reducible exact Keep.refl _ _) | (fail_if_no_progress (with_reducible apply Keep.upd_job b_job)) | (with_reducible apply State.acceptRepair_keep m0) | (with_reducible apply State.acceptPull_keep m1) | (with_reducible apply State.refuseSource_keep m2) | (with_reducible apply State.takePk_keep m3) | (with_reducible apply State.touchDone_keep m4) | (with_reducible apply State.mustWait_keep m5) | (with_reducible apply Keep.ite) | split | dsimp only | (with_reducible refine Keep.snd (by with_reducible assumption) ?_))

theorem State.acceptReplicaRepair_keep {M : Nat} {z0 : State} (hM : M &&& 0x2EBE48 = 0x2EBE48) (r : ReplicaWin) (b : Block) (s : State) (hk : Keep M z0 s) : Keep M z0 (State.acceptReplicaRepair r b s) := by
  refine hk.trans ?_
  have m0 : M &&& 0x2E3248 = 0x2E3248 := Keep.sub hM rfl
  have m1 : M &&& 0xC9C40 = 0xC9C40 := Keep.sub hM rfl
  have m2 : M &&& 0xC1C00 = 0xC1C00 := Keep.sub hM rfl
  have m3 : M &&& 0x1000 = 0x1000 := Keep.sub hM rfl
  have m4 : M &&& 0xC0C00 = 0xC0C00 := Keep.sub hM rfl
  unfold State.acceptReplicaRepair
  try dsimp only
  repeat' (first | (with_reducible exact Keep.refl _ _) | (with_reducible assumption) | (with_reducible apply State.putMirror_keep m0) | (with_reducible apply State.recheckDigest_keep m1) | (with_reducible apply State.settleReplica_keep m2) | (with_reducible apply State.setReplica_keep m3) | (with_reducible apply State.ackMirror_keep m4) | (with_reducible apply State.foldTerm_keep m3) | (with_reducible apply Keep.ite) | split | dsimp only | (with_reducible refine Keep.snd (by with_reducible assumption) ?_))

theorem State.acceptMask_keep {M : Nat} {z0 : State} (hM : M &&& 0x2E3E48 = 0x2E3E48) (b : Block) (s : State) (hk : Keep M z0 s) : Keep M z0 (State.acceptMask b s) := by
  refine hk.trans ?_
  have m0 : M &&& 0x2E3248 = 0x2E3248 := Keep.sub hM rfl
  have m1 : M &&& 0xC0C00 = 0xC0C00 := Keep.sub hM rfl
  have b_upd : M.testBit 6 = true := Keep.bit hM rfl
  unfold State.acceptMask
  try dsimp only
  repeat' (first | (with_reducible exact Keep.refl _ _) | (fail_if_no_progress (with_reducible apply Keep.upd_upd b_upd)) | (with_reducible apply State.putMaskMirror_keep m0) | (with_reducible apply State.ackMirror_keep m1) | (with_reducible apply State.writeCarried_keep m0) | (with_reducible apply Keep.ite) | split | (with_reducible refine Keep.snd (by with_reducible assumption) ?_))

theorem State.acceptMirror_keep {M : Nat} {z0 : State} (hM : M &&& 0x2EBE48 = 0x2EBE48) (b : Block) (s : State) (hk : Keep M z0 s) : Keep M z0 (State.acceptMirror b s) := by
  refine hk.trans ?_
  have m0 : M &&& 0x2E3E48 = 0x2E3E48 := Keep.sub hM rfl
  have m1 : M &&& 0x2EBE48 = 0x2EBE48 := Keep.sub hM rfl
  have m2 : M &&& 0x2E3248 = 0x2E3248 := Keep.sub hM rfl
  have m3 : M &&& 0xC9C40 = 0xC9C40 := Keep.sub hM rfl
  have m4 : M &&& 0xC0C00 = 0xC0C00 := Keep.sub hM rfl
  have m5 : M &&& 0x1000 = 0x1000 := Keep.sub hM rfl
  unfold State.acceptMirror
  try dsimp only
  repeat' (first | (with_reducible exact Keep.refl _ _) | (with_reducible assumption) | (with_reducible apply State.acceptMask_keep m0) | (with_reducible apply State.acceptReplicaRepair_keep m1) | (with_reducible apply State.putMirror_keep m2) | (with_reducible apply State.recheckDigest_keep m3) | (with_reducible apply State.ackMirror_keep m4) | (with_reducible apply State.foldTerm_keep m5) | (with_reducible apply Keep.ite) | split | dsimp only | (with_reducible refine Keep.snd (by with_reducible assumption) ?_))

theorem State.partnerMirror_keep {M : Nat} {z0 : State} (hM : M &&& 0x2EBE48 = 0x2EBE48) (b : Block) (s : State) (hk : Keep M z0 s) : Keep M z0 (State.partnerMirror b s) := by
  refine hk.trans ?_
  have m0 : M &&& 0x2EBE48 = 0x2EBE48 := Keep.sub hM rfl
  have m1 : M &&& 0xC0C00 = 0xC0C00 := Keep.sub hM rfl
  have m2 : M &&& 0x1000 = 0x1000 := Keep.sub hM rfl
  have m3 : M &&& 0xC1000 = 0xC1000 := Keep.sub hM rfl
  have m4 : M &&& 0x800 = 0x800 := Keep.sub hM rfl
  unfold State.partnerMirror
  try dsimp only
  repeat' (first | (with_reducible exact Keep.refl _ _) | (with_reducible apply State.acceptMirror_keep m0) | (with_reducible apply State.ackMirror_keep m1) | (with_reducible apply State.refuseQuiet_keep m2) | (with_reducible apply State.refuseSource_keep m3) | (with_reducible apply State.takePk_keep m4) | (with_reducible apply Keep.ite) | split)

theorem mirrorPReceive_keep {M : Nat} {z0 : State} (hM : M &&& 0x2EBE68 = 0x2EBE68) (b : Block) (s : State) (hk : Keep M z0 s) : Keep M z0 (mirrorPReceive b s) := by
  refine hk.trans ?_
  have m0 : M &&& 0x2EBE48 = 0x2EBE48 := Keep.sub hM rfl
  have m1 : M &&& 0x20 = 0x20 := Keep.sub hM rfl
  have m2 : M &&& 0x800 = 0x800 := Keep.sub hM rfl
  unfold mirrorPReceive
  try dsimp only
  repeat' (first | (with_reducible exact Keep.refl _ _) | (with_reducible apply State.partnerMirror_keep m0) | (with_reducible apply State.ownerMirror_keep m0) | (with_reducible apply State.refuseStep_keep m1) | (with_reducible apply State.takePk_keep m2) | (with_reducible apply Keep.ite) | split | (with_reducible refine Keep.snd (by with_reducible assumption) ?_))

theorem State.syncReady_keep {M : Nat} {z0 : State} (hM : M &&& 0xC1C00 = 0xC1C00) (ts : U32) (s : State) (hk : Keep M z0 s) : Keep M z0 (State.syncReady ts s) := by
  refine hk.trans ?_
  have m0 : M &&& 0xC1C00 = 0xC1C00 := Keep.sub hM rfl
  unfold State.syncReady
  try dsimp only
  repeat' (first | (with_reducible exact Keep.refl _ _) | (with_reducible assumption) | (with_reducible apply State.sendRecord_keep m0) | (with_reducible apply Keep.ite) | split | dsimp only | (with_reducible refine Keep.snd (by with_reducible assumption) ?_))

theorem State.repairAcked_keep {M : Nat} {z0 : State} (hM : M &&& 0xC9C40 = 0xC9C40) (b : Block) (s : State) (hk : Keep M z0 s) : Keep M z0 (State.repairAcked b s) := by
  refine hk.trans ?_
  have m0 : M &&& 0xC9C40 = 0xC9C40 := Keep.sub hM rfl
  have m1 : M &&& 0xC1C00 = 0xC1C00 := Keep.sub hM rfl
  have m2 : M &&& 0x1000 = 0x1000 := Keep.sub hM rfl
  unfold State.repairAcked
  try dsimp only
  repeat' (first | (with_reducible exact Keep.refl _ _) | (with_reducible assumption) | (with_reducible apply State.recheckDigest_keep m0) | (with_reducible apply State.settleReplica_keep m1) | (with_reducible apply State.setReplica_keep m2) | (with_reducible apply Keep.ite) | split | dsimp only | (with_reducible refine Keep.snd (by with_reducible assumption) ?_))

theorem State.windowAcked_keep {M : Nat} {z0 : State} (hM : M &&& 0x2E3F58 = 0x2E3F58) (ts w step : U32) (s : State) (hk : Keep M z0 s) : Keep M z0 (State.windowAcked ts w step s) := by
  refine hk.trans ?_
  have m0 : M &&& 0x2E3F58 = 0x2E3F58 := Keep.sub hM rfl
  have m1 : M &&& 0xC0000 = 0xC0000 := Keep.sub hM rfl
  have b_part : M.testBit 12 = true := Keep.bit hM rfl
  unfold State.windowAcked
  try dsimp only
  repeat' (first | (with_reducible exact Keep.refl _ _) | (fail_if_no_progress (with_reducible apply Keep.upd_part b_part)) | (with_reducible apply State.countWritten_keep m0) | (with_reducible apply State.record_keep m1) | (with_reducible apply Keep.ite) | split)

theorem State.syncAcked_keep {M : Nat} {z0 : State} (hM : M &&& 0xC1000 = 0xC1000) (t : Trans) (s : State) (hk : Keep M z0 s) : Keep M z0 (State.syncAcked t s) := by
  refine hk.trans ?_
  have m0 : M &&& 0xC0000 = 0xC0000 := Keep.sub hM rfl
  have b_part : M.testBit 12 = true := Keep.bit hM rfl
  unfold State.syncAcked
  try dsimp only
  repeat' (first | (with_reducible exact Keep.refl _ _) | (with_reducible assumption) | (fail_if_no_progress (with_reducible apply Keep.upd_part b_part)) | (with_reducible apply State.record_keep m0) | dsimp only)

theorem State.itemAcked_keep {M : Nat} {z0 : State} (hM : M &&& 0x2EBF58 = 0x2EBF58) (pk : Trans) (i : Nat) (s : State) (hk : Keep M z0 s) : Keep M z0 (State.itemAcked pk i s) := by
  refine hk.trans ?_
  have m0 : M &&& 0xC1000 = 0xC1000 := Keep.sub hM rfl
  have m1 : M &&& 0x2E3F58 = 0x2E3F58 := Keep.sub hM rfl
  have m2 : M &&& 0xC9C40 = 0xC9C40 := Keep.sub hM rfl
  have m3 : M &&& 0xC1C00 = 0xC1C00 := Keep.sub hM rfl
  have m4 : M &&& 0x1000 = 0x1000 := Keep.sub hM rfl
  unfold State.itemAcked
  try dsimp only
  repeat' (first | (with_reducible exact Keep.refl _ _) | (with_reducible apply State.syncAcked_keep m0) | (with_reducible apply State.windowAcked_keep m1) | (with_reducible apply State.repairAcked_keep m2) | (with_reducible apply State.syncReady_keep m3) | (with_reducible apply State.popRetained_keep m4) | (with_reducible apply Keep.ite) | split | dsimp only | (with_reducible refine Keep.snd (by with_reducible assumption) ?_))

theorem partnerBlockAckReceive_keep {M : Nat} {z0 : State} (hM : M &&& 0x2EBF58 = 0x2EBF58) (pk : Trans) (s : State) (hk : Keep M z0 s) : Keep M z0 (partnerBlockAckReceive pk s) := by
  refine hk.trans ?_
  have m0 : M &&& 0x2EBF58 = 0x2EBF58 := Keep.sub hM rfl
  have m1 : M &&& 0x800 = 0x800 := Keep.sub hM rfl
  unfold partnerBlockAckReceive
  try dsimp only
  repeat' (first | (with_reducible exact Keep.refl _ _) | (with_reducible assumption) | (with_reducible apply State.itemAcked_keep m0) | (with_reducible apply State.takePk_keep m1) | (with_reducible apply Keep.foldl) | (with_reducible apply Keep.foldl2) | (with_reducible apply Keep.foldl3) | (intro) | dsimp only)

theorem partnerResend_keep {M : Nat} {z0 : State} (hM : M &&& 0xC1C00 = 0xC1C00) (n : Nat) (s : State) (hk : Keep M z0 s) : Keep M z0 (partnerResend n s) := by
  refine hk.trans ?_
  have m0 : M &&& 0xC0C00 = 0xC0C00 := Keep.sub hM rfl
  have b_part : M.testBit 12 = true := Keep.bit hM rfl
  unfold partnerResend
  try dsimp only
  repeat' (first | (with_reducible exact Keep.refl _ _) | (fail_if_no_progress (with_reducible apply Keep.upd_part b_part)) | (with_reducible apply State.send_keep m0) | (with_reducible apply Keep.ite) | split | (with_reducible refine Keep.snd (by with_reducible assumption) ?_))

theorem ownerDigestReceive_keep {M : Nat} {z0 : State} (hM : M &&& 0xC9C60 = 0xC9C60) (pk : Trans) (s : State) (hk : Keep M z0 s) : Keep M z0 (ownerDigestReceive pk s) := by
  refine hk.trans ?_
  have m0 : M &&& 0xC9C40 = 0xC9C40 := Keep.sub hM rfl
  have m1 : M &&& 0x20 = 0x20 := Keep.sub hM rfl
  have m2 : M &&& 0x800 = 0x800 := Keep.sub hM rfl
  have b_part : M.testBit 12 = true := Keep.bit hM rfl
  unfold ownerDigestReceive
  try dsimp only
  repeat' (first | (with_reducible exact Keep.refl _ _) | (with_reducible assumption) | (fail_if_no_progress (with_reducible apply Keep.upd_part b_part)) | (with_reducible apply State.recheckDigest_keep m0) | (with_reducible apply State.refuseStep_keep m1) | (with_reducible apply State.takePk_keep m2) | (with_reducible apply Keep.ite) | split | dsimp only)

theorem digestTimeout_keep {M : Nat} {z0 : State} (hM : M &&& 0xC1C40 = 0xC1C40) (ts : U32) (s : State) (hk : Keep M z0 s) : Keep M z0 (digestTimeout ts s) := by
  refine hk.trans ?_
  have m0 : M &&& 0xC1C40 = 0xC1C40 := Keep.sub hM rfl
  have m1 : M &&& 0xC0C00 = 0xC0C00 := Keep.sub hM rfl
  have b_part : M.testBit 12 = true := Keep.bit hM rfl
  unfold digestTimeout
  try dsimp only
  repeat' (first | (with_reducible exact Keep.refl _ _) | (with_reducible assumption) | (fail_if_no_progress (with_reducible apply Keep.upd_part b_part)) | (with_reducible apply State.rejectShard_keep m0) | (with_reducible apply State.sendDigest_keep m1) | split | dsimp only | (with_reducible refine Keep.snd (by with_reducible assumption) ?_))

theorem State.digestMismatch_keep {M : Nat} {z0 : State} (hM : M &&& 0xC3F58 = 0xC3F58) (e : TensorEntry) (step : U32) (theirs : U64) (s : State) (hk : Keep M z0 s) : Keep M z0 (State.digestMismatch e step theirs s) := by
  refine hk.trans ?_
  have m0 : M &&& 0xC2F58 = 0xC2F58 := Keep.sub hM rfl
  have m1 : M &&& 0xC0000 = 0xC0000 := Keep.sub hM rfl
  have b_part : M.testBit 12 = true := Keep.bit hM rfl
  unfold State.digestMismatch
  try dsimp only
  repeat' (first | (with_reducible exact Keep.refl _ _) | (fail_if_no_progress (with_reducible apply Keep.upd_part b_part)) | (with_reducible apply State.failShard_keep m0) | (with_reducible apply State.record_keep m1) | (with_reducible apply Keep.ite) | split | (with_reducible refine Keep.snd (by with_reducible assumption) ?_))

theorem replicaDigestReceive_keep {M : Nat} {z0 : State} (hM : M &&& 0xC3F78 = 0xC3F78) (pk : Trans) (s : State) (hk : Keep M z0 s) : Keep M z0 (replicaDigestReceive pk s) := by
  refine hk.trans ?_
  have m0 : M &&& 0xC3F58 = 0xC3F58 := Keep.sub hM rfl
  have m1 : M &&& 0x20 = 0x20 := Keep.sub hM rfl
  have m2 : M &&& 0x800 = 0x800 := Keep.sub hM rfl
  have b_part : M.testBit 12 = true := Keep.bit hM rfl
  unfold replicaDigestReceive
  try dsimp only
  repeat' (first | (with_reducible exact Keep.refl _ _) | (fail_if_no_progress (with_reducible apply Keep.upd_part b_part)) | (with_reducible apply State.digestMismatch_keep m0) | (with_reducible apply State.refuseStep_keep m1) | (with_reducible apply State.takePk_keep m2) | (with_reducible apply Keep.ite) | split | (with_reducible refine Keep.snd (by with_reducible assumption) ?_))

theorem State.setChan_keep {M : Nat} {z0 : State} (hM : M &&& 0x4000 = 0x4000) (c : Chan) (f : ChanState → ChanState) (s : State) (hk : Keep M z0 s) : Keep M z0 (State.setChan c f s) := by
  refine hk.trans ?_
  have b_mov : M.testBit 14 = true := Keep.bit hM rfl
  unfold State.setChan
  try dsimp only
  repeat' (first | (with_reducible exact Keep.refl _ _) | (with_reducible assumption) | (fail_if_no_progress (with_reducible apply Keep.upd_mov b_mov)) | (with_reducible apply Keep.trans _ (hf ..)))

theorem State.refuseChan_keep {M : Nat} {z0 : State} (hM : M &&& 0xC4000 = 0xC4000) (c : Chan) (sub cause : Nat) (s : State) (hk : Keep M z0 s) : Keep M z0 (State.refuseChan c sub cause s) := by
  refine hk.trans ?_
  have m0 : M &&& 0x4000 = 0x4000 := Keep.sub hM rfl
  have m1 : M &&& 0xC0000 = 0xC0000 := Keep.sub hM rfl
  have b_mov : M.testBit 14 = true := Keep.bit hM rfl
  unfold State.refuseChan
  try dsimp only
  repeat' (first | (with_reducible exact Keep.refl _ _) | (with_reducible assumption) | (fail_if_no_progress (with_reducible apply Keep.upd_mov b_mov)) | (with_reducible apply State.setChan_keep m0) | (with_reducible apply State.record_keep m1) | (intro) | dsimp only)

theorem State.setControl_keep {M : Nat} {z0 : State} (hM : M &&& 0xC4000 = 0xC4000) (c : Chan) (v : U32) (s : State) (hk : Keep M z0 s) : Keep M z0 (State.setControl c v s) := by
  refine hk.trans ?_
  have m0 : M &&& 0x4000 = 0x4000 := Keep.sub hM rfl
  have m1 : M &&& 0xC0000 = 0xC0000 := Keep.sub hM rfl
  have b_mov : M.testBit 14 = true := Keep.bit hM rfl
  unfold State.setControl
  try dsimp only
  repeat' (first | (with_reducible exact Keep.refl _ _) | (with_reducible assumption) | (fail_if_no_progress (with_reducible apply Keep.upd_mov b_mov)) | (with_reducible apply State.setChan_keep m0) | (with_reducible apply State.record_keep m1) | (intro) | (with_reducible apply Keep.ite) | split | dsimp only)

theorem State.issuePart_keep {M : Nat} {z0 : State} (hM : M &&& 0x4000 = 0x4000) (c : Chan) (s : State) (hk : Keep M z0 s) : Keep M z0 (State.issuePart c s) := by
  refine hk.trans ?_
  have b_mov : M.testBit 14 = true := Keep.bit hM rfl
  unfold State.issuePart
  try dsimp only
  repeat' (first | (with_reducible exact Keep.refl _ _) | (fail_if_no_progress (with_reducible apply Keep.upd_mov b_mov)) | (with_reducible apply Keep.ite) | split)

theorem State.groupEnd_keep {M : Nat} {z0 : State} (hM : M &&& 0xC4000 = 0xC4000) (g : U8) (s : State) (hk : Keep M z0 s) : Keep M z0 (State.groupEnd g s) := by
  refine hk.trans ?_
  have m0 : M &&& 0xC0000 = 0xC0000 := Keep.sub hM rfl
  have b_mov : M.testBit 14 = true := Keep.bit hM rfl
  unfold State.groupEnd
  try dsimp only
  repeat' (first | (with_reducible exact Keep.refl _ _) | (with_reducible assumption) | (fail_if_no_progress (with_reducible apply Keep.upd_mov b_mov)) | (with_reducible apply State.record_keep m0) | (with_reducible apply Keep.ite) | split | dsimp only)

theorem State.endPart_keep {M : Nat} {z0 : State} (hM : M &&& 0xC4000 = 0xC4000) (c : Chan) (status : U8) (s : State) (hk : Keep M z0 s) : Keep M z0 (State.endPart c status s) := by
  refine hk.trans ?_
  have m0 : M &&& 0xC4000 = 0xC4000 := Keep.sub hM rfl
  have m1 : M &&& 0x4000 = 0x4000 := Keep.sub hM rfl
  have b_mov : M.testBit 14 = true := Keep.bit hM rfl
  unfold State.endPart
  try dsimp only
  repeat' (first | (with_reducible exact Keep.refl _ _) | (with_reducible assumption) | (fail_if_no_progress (with_reducible apply Keep.upd_mov b_mov)) | (with_reducible apply State.groupEnd_keep m0) | (with_reducible apply State.setChan_keep m1) | (intro) | (with_reducible apply Keep.ite) | split | dsimp only)

theorem State.takeCellsOf_keep {M : Nat} {z0 : State} (hM : M &&& 0x4000 = 0x4000) (c : Chan) (n : Nat) (s : State) (hk : Keep M z0 s) : Keep M z0 (State.takeCellsOf c n s) := by
  refine hk.trans ?_
  have m0 : M &&& 0x4000 = 0x4000 := Keep.sub hM rfl
  have b_mov : M.testBit 14 = true := Keep.bit hM rfl
  unfold State.takeCellsOf
  try dsimp only
  repeat' (first | (with_reducible exact Keep.refl _ _) | (with_reducible assumption) | (fail_if_no_progress (with_reducible apply Keep.upd_mov b_mov)) | (with_reducible apply State.setChan_keep m0) | (intro) | dsimp only)

theorem State.freeCellsOf_keep {M : Nat} {z0 : State} (hM : M &&& 0x4000 = 0x4000) (c : Chan) (n : Nat) (s : State) (hk : Keep M z0 s) : Keep M z0 (State.freeCellsOf c n s) := by
  refine hk.trans ?_
  have m0 : M &&& 0x4000 = 0x4000 := Keep.sub hM rfl
  have b_mov : M.testBit 14 = true := Keep.bit hM rfl
  unfold State.freeCellsOf
  try dsimp only
  repeat' (first | (with_reducible exact Keep.refl _ _) | (with_reducible assumption) | (fail_if_no_progress (with_reducible apply Keep.upd_mov b_mov)) | (with_reducible apply State.setChan_keep m0) | (intro) | dsimp only)

theorem State.issueRead_keep {M : Nat} {z0 : State} (hM : M &&& 0xC4C00 = 0xC4C00) (c : Chan) (s : State) (hk : Keep M z0 s) : Keep M z0 (State.issueRead c s) := by
  refine hk.trans ?_
  have m0 : M &&& 0x4000 = 0x4000 := Keep.sub hM rfl
  have m1 : M &&& 0xC0C00 = 0xC0C00 := Keep.sub hM rfl
  unfold State.issueRead
  try dsimp only
  repeat' (first | (with_reducible exact Keep.refl _ _) | (with_reducible assumption) | (with_reducible apply State.takeCellsOf_keep m0) | (with_reducible apply State.setChan_keep m0) | (with_reducible apply State.sendTrans_keep m1) | (intro) | (with_reducible apply Keep.ite) | split | dsimp only)

theorem State.serveWaiting_keep {M : Nat} {z0 : State} (hM : M &&& 0xC4C00 = 0xC4C00) (s : State) (hk : Keep M z0 s) : Keep M z0 (State.serveWaiting s) := by
  refine hk.trans ?_
  have m0 : M &&& 0xC4C00 = 0xC4C00 := Keep.sub hM rfl
  have b_mov : M.testBit 14 = true := Keep.bit hM rfl
  unfold State.serveWaiting
  try dsimp only
  repeat' (first | (with_reducible exact Keep.refl _ _) | (with_reducible assumption) | (fail_if_no_progress (with_reducible apply Keep.upd_mov b_mov)) | (with_reducible apply State.issueRead_keep m0) | (with_reducible apply Keep.foldl) | (with_reducible apply Keep.foldl2) | (with_reducible apply Keep.foldl3) | (intro) | (with_reducible apply Keep.ite) | split | dsimp only)

theorem State.beginPass_keep {M : Nat} {z0 : State} (hM : M &&& 0xC4C00 = 0xC4C00) (c : Chan) (s : State) (hk : Keep M z0 s) : Keep M z0 (State.beginPass c s) := by
  refine hk.trans ?_
  have m0 : M &&& 0xC4C00 = 0xC4C00 := Keep.sub hM rfl
  have m1 : M &&& 0xC4000 = 0xC4000 := Keep.sub hM rfl
  have m2 : M &&& 0x4000 = 0x4000 := Keep.sub hM rfl
  unfold State.beginPass
  try dsimp only
  repeat' (first | (with_reducible exact Keep.refl _ _) | (with_reducible assumption) | (with_reducible apply State.issueRead_keep m0) | (with_reducible apply State.endPart_keep m1) | (with_reducible apply State.refuseChan_keep m1) | (with_reducible apply State.setChan_keep m2) | (intro) | (with_reducible apply Keep.ite) | split | dsimp only)

theorem State.startPassOf_keep {M : Nat} {z0 : State} (hM : M &&& 0xC4C00 = 0xC4C00) (c : Chan) (s : State) (hk : Keep M z0 s) : Keep M z0 (State.startPassOf c s) := by
  refine hk.trans ?_
  have m0 : M &&& 0xC4C00 = 0xC4C00 := Keep.sub hM rfl
  have m1 : M &&& 0x4000 = 0x4000 := Keep.sub hM rfl
  unfold State.startPassOf
  try dsimp only
  repeat' (first | (with_reducible exact Keep.refl _ _) | (with_reducible assumption) | (with_reducible apply State.beginPass_keep m0) | (with_reducible apply State.setChan_keep m1) | (intro) | (with_reducible apply Keep.ite) | split | dsimp only)

theorem State.dropData_keep {M : Nat} {z0 : State} (hM : M &&& 0x4000 = 0x4000) (c : Chan) (s : State) (hk : Keep M z0 s) : Keep M z0 (State.dropData c s) := by
  refine hk.trans ?_
  have m0 : M &&& 0x4000 = 0x4000 := Keep.sub hM rfl
  have b_mov : M.testBit 14 = true := Keep.bit hM rfl
  unfold State.dropData
  try dsimp only
  repeat' (first | (with_reducible exact Keep.refl _ _) | (with_reducible assumption) | (fail_if_no_progress (with_reducible apply Keep.upd_mov b_mov)) | (with_reducible apply State.freeCellsOf_keep m0) | (with_reducible apply State.setChan_keep m0) | (intro) | dsimp only)

theorem State.failChan_keep {M : Nat} {z0 : State} (hM : M &&& 0xC4C00 = 0xC4C00) (c : Chan) (code : U8) (engine : Nat) (s : State) (hk : Keep M z0 s) : Keep M z0 (State.failChan c code engine s) := by
  refine hk.trans ?_
  have m0 : M &&& 0x4000 = 0x4000 := Keep.sub hM rfl
  have m1 : M &&& 0xC4C00 = 0xC4C00 := Keep.sub hM rfl
  have m2 : M &&& 0xC4000 = 0xC4000 := Keep.sub hM rfl
  have m3 : M &&& 0xC0000 = 0xC0000 := Keep.sub hM rfl
  unfold State.failChan
  try dsimp only
  repeat' (first | (with_reducible exact Keep.refl _ _) | (with_reducible assumption) | (with_reducible apply State.dropData_keep m0) | (with_reducible apply State.serveWaiting_keep m1) | (with_reducible apply State.endPart_keep m2) | (with_reducible apply State.setChan_keep m0) | (with_reducible apply State.record_keep m3) | (intro) | dsimp only)

theorem State.endWhenWritten_keep {M : Nat} {z0 : State} (hM : M &&& 0xC4C00 = 0xC4C00) (c : Chan) (status code : U8) (engine : Nat) (s : State) (hk : Keep M z0 s) : Keep M z0 (State.endWhenWritten c status code engine s) := by
  refine hk.trans ?_
  have m0 : M &&& 0xC4C00 = 0xC4C00 := Keep.sub hM rfl
  have m1 : M &&& 0x4000 = 0x4000 := Keep.sub hM rfl
  have m2 : M &&& 0xC4000 = 0xC4000 := Keep.sub hM rfl
  unfold State.endWhenWritten
  try dsimp only
  repeat' (first | (with_reducible exact Keep.refl _ _) | (with_reducible assumption) | (with_reducible apply State.failChan_keep m0) | (with_reducible apply State.serveWaiting_keep m0) | (with_reducible apply State.freeCellsOf_keep m1) | (with_reducible apply State.endPart_keep m2) | (with_reducible apply State.setChan_keep m1) | (intro) | (with_reducible apply Keep.ite) | split | dsimp only)

theorem State.sendWrite_keep {M : Nat} {z0 : State} (hM : M &&& 0xC4C00 = 0xC4C00) (c : Chan) (s : State) (hk : Keep M z0 s) : Keep M z0 (State.sendWrite c s) := by
  refine hk.trans ?_
  have m0 : M &&& 0x4000 = 0x4000 := Keep.sub hM rfl
  have m1 : M &&& 0xC0C00 = 0xC0C00 := Keep.sub hM rfl
  unfold State.sendWrite
  try dsimp only
  repeat' (first | (with_reducible exact Keep.refl _ _) | (with_reducible assumption) | (with_reducible apply State.setChan_keep m0) | (with_reducible apply State.sendTrans_keep m1) | (intro) | (with_reducible apply Keep.ite) | split | dsimp only)

theorem State.wroteChan_keep {M : Nat} {z0 : State} (hM : M &&& 0xC4C00 = 0xC4C00) (c : Chan) (n : Nat) (s : State) (hk : Keep M z0 s) : Keep M z0 (State.wroteChan c n s) := by
  refine hk.trans ?_
  have m0 : M &&& 0xC4C00 = 0xC4C00 := Keep.sub hM rfl
  have m1 : M &&& 0x4000 = 0x4000 := Keep.sub hM rfl
  unfold State.wroteChan
  try dsimp only
  repeat' (first | (with_reducible exact Keep.refl _ _) | (with_reducible assumption) | (with_reducible apply State.sendWrite_keep m0) | (with_reducible apply State.endWhenWritten_keep m0) | (with_reducible apply State.serveWaiting_keep m0) | (with_reducible apply State.freeCellsOf_keep m1) | (with_reducible apply State.setChan_keep m1) | (intro) | (with_reducible apply Keep.ite) | split | dsimp only | (with_reducible refine Keep.snd (by with_reducible assumption) ?_))

theorem State.writeChan_keep {M : Nat} {z0 : State} (hM : M &&& 0x2E7E48 = 0x2E7E48) (c : Chan) (data : List Byte) (s : State) (hk : Keep M z0 s) : Keep M z0 (State.writeChan c data s) := by
  refine hk.trans ?_
  have m0 : M &&& 0xC4C00 = 0xC4C00 := Keep.sub hM rfl
  have m1 : M &&& 0x4000 = 0x4000 := Keep.sub hM rfl
  have m2 : M &&& 0x2E3248 = 0x2E3248 := Keep.sub hM rfl
  unfold State.writeChan
  try dsimp only
  repeat' (first | (with_reducible exact Keep.refl _ _) | (with_reducible assumption) | (with_reducible apply State.wroteChan_keep m0) | (with_reducible apply State.sendWrite_keep m0) | (with_reducible apply State.setChan_keep m1) | (with_reducible apply State.writeMem_keep m2) | (intro) | (with_reducible apply Keep.ite) | split | dsimp only | (with_reducible refine Keep.snd (by with_reducible assumption) ?_))

theorem State.readRaw_keep {M : Nat} {z0 : State} (hM : M &&& 0x2E7E48 = 0x2E7E48) (c : Chan) (s : State) (hk : Keep M z0 s) : Keep M z0 (State.readRaw c s) := by
  refine hk.trans ?_
  have m0 : M &&& 0x2E7E48 = 0x2E7E48 := Keep.sub hM rfl
  have m1 : M &&& 0xC4C00 = 0xC4C00 := Keep.sub hM rfl
  have m2 : M &&& 0x2E3248 = 0x2E3248 := Keep.sub hM rfl
  unfold State.readRaw
  try dsimp only
  repeat' (first | (with_reducible exact Keep.refl _ _) | (with_reducible assumption) | (with_reducible apply State.writeChan_keep m0) | (with_reducible apply State.endWhenWritten_keep m1) | (with_reducible apply State.issueRead_keep m1) | (with_reducible apply State.readMem_keep m2) | (with_reducible apply Keep.foldl) | (with_reducible apply Keep.foldl2) | (with_reducible apply Keep.foldl3) | (intro) | (with_reducible apply Keep.ite) | split | dsimp only | (with_reducible refine Keep.snd (by with_reducible assumption) ?_))

theorem State.readBlk_keep {M : Nat} {z0 : State} (hM : M &&& 0x2E7E48 = 0x2E7E48) (c : Chan) (s : State) (hk : Keep M z0 s) : Keep M z0 (State.readBlk c s) := by
  refine hk.trans ?_
  have m0 : M &&& 0xC4C00 = 0xC4C00 := Keep.sub hM rfl
  have m1 : M &&& 0x4000 = 0x4000 := Keep.sub hM rfl
  have m2 : M &&& 0x2E3248 = 0x2E3248 := Keep.sub hM rfl
  have m3 : M &&& 0x2040 = 0x2040 := Keep.sub hM rfl
  have m4 : M &&& 0xC2040 = 0xC2040 := Keep.sub hM rfl
  unfold State.readBlk
  try dsimp only
  repeat' (first | (with_reducible exact Keep.refl _ _) | (with_reducible assumption) | (with_reducible apply State.wroteChan_keep m0) | (with_reducible apply State.issueRead_keep m0) | (with_reducible apply State.setChan_keep m1) | (with_reducible apply State.writeBytes_keep m2) | (with_reducible apply State.readCarried_keep m2) | (with_reducible apply State.touchDone_keep m3) | (with_reducible apply State.mustWait_keep m4) | (intro) | (with_reducible apply Keep.ite) | split | dsimp only | (with_reducible refine Keep.snd (by with_reducible assumption) ?_))

theorem State.takeResp_keep {M : Nat} {z0 : State} (hM : M &&& 0x800 = 0x800) (tag : U32) (s : State) (hk : Keep M z0 s) : Keep M z0 (State.takeResp tag s) := by
  refine hk.trans ?_
  have m0 : M &&& 0x800 = 0x800 := Keep.sub hM rfl
  unfold State.takeResp
  try dsimp only
  repeat' (first | (with_reducible exact Keep.refl _ _) | (with_reducible assumption) | (with_reducible apply State.takePk_keep m0) | split | dsimp only | (with_reducible refine Keep.snd (by with_reducible assumption) ?_))

theorem State.respChan_keep {M : Nat} {z0 : State} (hM : M &&& 0x2E7E48 = 0x2E7E48) (c : Chan) (status : U8) (data : List Byte) (s : State) (hk : Keep M z0 s) : Keep M z0 (State.respChan c status data s) := by
  refine hk.trans ?_
  have m0 : M &&& 0x800 = 0x800 := Keep.sub hM rfl
  have m1 : M &&& 0x2E7E48 = 0x2E7E48 := Keep.sub hM rfl
  have m2 : M &&& 0xC4C00 = 0xC4C00 := Keep.sub hM rfl
  unfold State.respChan
  try dsimp only
  repeat' (first | (with_reducible exact Keep.refl _ _) | (with_reducible apply State.takeResp_keep m0) | (with_reducible apply State.writeChan_keep m1) | (with_reducible apply State.wroteChan_keep m2) | (with_reducible apply State.failChan_keep m2) | (with_reducible apply State.issueRead_keep m2) | (with_reducible apply Keep.ite) | split)

theorem State.pauseDevice_keep {M : Nat} {z0 : State} (hM : M &&& 0x4000 = 0x4000) (s : State) (hk : Keep M z0 s) : Keep M z0 (State.pauseDevice s) := by
  refine hk.trans ?_
  have m0 : M &&& 0x4000 = 0x4000 := Keep.sub hM rfl
  have b_mov : M.testBit 14 = true := Keep.bit hM rfl
  unfold State.pauseDevice
  try dsimp only
  repeat' (first | (with_reducible exact Keep.refl _ _) | (with_reducible assumption) | (fail_if_no_progress (with_reducible apply Keep.upd_mov b_mov)) | (with_reducible apply State.setChan_keep m0) | (with_reducible apply Keep.foldl) | (with_reducible apply Keep.foldl2) | (with_reducible apply Keep.foldl3) | (intro) | (with_reducible apply Keep.ite) | split | dsimp only)

theorem State.unpause_keep {M : Nat} {z0 : State} (hM : M &&& 0xC4C00 = 0xC4C00) (c : Chan) (s : State) (hk : Keep M z0 s) : Keep M z0 (State.unpause c s) := by
  refine hk.trans ?_
  have m0 : M &&& 0xC4C00 = 0xC4C00 := Keep.sub hM rfl
  unfold State.unpause
  try dsimp only
  repeat' (first | (with_reducible exact Keep.refl _ _) | (with_reducible apply State.beginPass_keep m0) | (with_reducible apply State.issueRead_keep m0) | (with_reducible apply Keep.ite) | split)

theorem State.resumeDevice_keep {M : Nat} {z0 : State} (hM : M &&& 0xC4C00 = 0xC4C00) (s : State) (hk : Keep M z0 s) : Keep M z0 (State.resumeDevice s) := by
  refine hk.trans ?_
  have m0 : M &&& 0xC4C00 = 0xC4C00 := Keep.sub hM rfl
  have m1 : M &&& 0x4000 = 0x4000 := Keep.sub hM rfl
  unfold State.resumeDevice
  try dsimp only
  repeat' (first | (with_reducible exact Keep.refl _ _) | (with_reducible assumption) | (with_reducible apply State.unpause_keep m0) | (with_reducible apply State.setChan_keep m1) | (with_reducible apply Keep.foldl) | (with_reducible apply Keep.foldl2) | (with_reducible apply Keep.foldl3) | (intro) | (with_reducible apply Keep.ite) | split | dsimp only)

theorem State.startChan_keep {M : Nat} {z0 : State} (hM : M &&& 0xC4C00 = 0xC4C00) (c : Chan) (s : State) (hk : Keep M z0 s) : Keep M z0 (State.startChan c s) := by
  refine hk.trans ?_
  have m0 : M &&& 0xC4C00 = 0xC4C00 := Keep.sub hM rfl
  have m1 : M &&& 0x4000 = 0x4000 := Keep.sub hM rfl
  unfold State.startChan
  try dsimp only
  repeat' (first | (with_reducible exact Keep.refl _ _) | (with_reducible assumption) | (with_reducible apply State.startPassOf_keep m0) | (with_reducible apply State.issuePart_keep m1) | (with_reducible apply State.setChan_keep m1) | (intro) | (with_reducible apply Keep.ite) | split | dsimp only)

theorem moverStart_keep {M : Nat} {z0 : State} (hM : M &&& 0xC4C00 = 0xC4C00) (c : Chan) (s : State) (hk : Keep M z0 s) : Keep M z0 (moverStart c s) := by
  refine hk.trans ?_
  have m0 : M &&& 0xC4C00 = 0xC4C00 := Keep.sub hM rfl
  have m1 : M &&& 0xC4000 = 0xC4000 := Keep.sub hM rfl
  unfold moverStart
  try dsimp only
  repeat' (first | (with_reducible exact Keep.refl _ _) | (with_reducible apply State.startChan_keep m0) | (with_reducible apply State.refuseChan_keep m1) | split | (with_reducible refine Keep.snd (by with_reducible assumption) ?_))

theorem State.abortChan_keep {M : Nat} {z0 : State} (hM : M &&& 0xC4C00 = 0xC4C00) (c : Chan) (s : State) (hk : Keep M z0 s) : Keep M z0 (State.abortChan c s) := by
  refine hk.trans ?_
  have m0 : M &&& 0xC4C00 = 0xC4C00 := Keep.sub hM rfl
  unfold State.abortChan
  try dsimp only
  repeat' (first | (with_reducible exact Keep.refl _ _) | (with_reducible apply State.endWhenWritten_keep m0) | (with_reducible apply Keep.ite) | split)

theorem moverPause_keep {M : Nat} {z0 : State} (hM : M &&& 0x4000 = 0x4000) (c : Chan) (s : State) (hk : Keep M z0 s) : Keep M z0 (moverPause c s) := by
  refine hk.trans ?_
  have m0 : M &&& 0x4000 = 0x4000 := Keep.sub hM rfl
  unfold moverPause
  try dsimp only
  repeat' (first | (with_reducible exact Keep.refl _ _) | (with_reducible assumption) | (with_reducible apply State.setChan_keep m0) | (intro) | (with_reducible apply Keep.ite) | split | dsimp only)

theorem moverResume_keep {M : Nat} {z0 : State} (hM : M &&& 0xC4C00 = 0xC4C00) (c : Chan) (s : State) (hk : Keep M z0 s) : Keep M z0 (moverResume c s) := by
  refine hk.trans ?_
  have m0 : M &&& 0xC4C00 = 0xC4C00 := Keep.sub hM rfl
  have m1 : M &&& 0x4000 = 0x4000 := Keep.sub hM rfl
  unfold moverResume
  try dsimp only
  repeat' (first | (with_reducible exact Keep.refl _ _) | (with_reducible assumption) | (with_reducible apply State.unpause_keep m0) | (with_reducible apply State.setChan_keep m1) | (intro) | (with_reducible apply Keep.ite) | split | dsimp only)

theorem moverTimerTick_keep {M : Nat} {z0 : State} (hM : M &&& 0xC4C00 = 0xC4C00) (c : Chan) (s : State) (hk : Keep M z0 s) : Keep M z0 (moverTimerTick c s) := by
  refine hk.trans ?_
  have m0 : M &&& 0xC4C00 = 0xC4C00 := Keep.sub hM rfl
  unfold moverTimerTick
  try dsimp only
  repeat' (first | (with_reducible exact Keep.refl _ _) | (with_reducible apply State.startPassOf_keep m0) | (with_reducible apply Keep.ite) | split)

theorem moverReadComplete_keep {M : Nat} {z0 : State} (hM : M &&& 0x2E7E48 = 0x2E7E48) (c : Chan) (r : MoverRead) (s : State) (hk : Keep M z0 s) : Keep M z0 (moverReadComplete c r s) := by
  refine hk.trans ?_
  have m0 : M &&& 0x2E7E48 = 0x2E7E48 := Keep.sub hM rfl
  unfold moverReadComplete
  try dsimp only
  repeat' (first | (with_reducible exact Keep.refl _ _) | (with_reducible apply State.respChan_keep m0) | (with_reducible apply State.readBlk_keep m0) | (with_reducible apply State.readRaw_keep m0) | (with_reducible apply Keep.ite) | split | (with_reducible refine Keep.snd (by with_reducible assumption) ?_))

theorem State.afterPass_keep {M : Nat} {z0 : State} (hM : M &&& 0xC4C00 = 0xC4C00) (c : Chan) (s : State) (hk : Keep M z0 s) : Keep M z0 (State.afterPass c s) := by
  refine hk.trans ?_
  have m0 : M &&& 0xC4C00 = 0xC4C00 := Keep.sub hM rfl
  have m1 : M &&& 0xC4000 = 0xC4000 := Keep.sub hM rfl
  have m2 : M &&& 0x4000 = 0x4000 := Keep.sub hM rfl
  unfold State.afterPass
  try dsimp only
  repeat' (first | (with_reducible exact Keep.refl _ _) | (with_reducible assumption) | (with_reducible apply State.startPassOf_keep m0) | (with_reducible apply State.beginPass_keep m0) | (with_reducible apply State.endPart_keep m1) | (with_reducible apply State.setChan_keep m2) | (intro) | (with_reducible apply Keep.ite) | split | dsimp only)

theorem moverPassEnd_keep {M : Nat} {z0 : State} (hM : M &&& 0xC4C00 = 0xC4C00) (c : Chan) (s : State) (hk : Keep M z0 s) : Keep M z0 (moverPassEnd c s) := by
  refine hk.trans ?_
  have m0 : M &&& 0xC4C00 = 0xC4C00 := Keep.sub hM rfl
  have m1 : M &&& 0x4000 = 0x4000 := Keep.sub hM rfl
  unfold moverPassEnd
  try dsimp only
  repeat' (first | (with_reducible exact Keep.refl _ _) | (with_reducible assumption) | (with_reducible apply State.afterPass_keep m0) | (with_reducible apply State.startPassOf_keep m0) | (with_reducible apply State.setChan_keep m1) | (with_reducible apply Keep.foldl) | (with_reducible apply Keep.foldl2) | (with_reducible apply Keep.foldl3) | (intro) | (with_reducible apply Keep.ite) | split | dsimp only)

theorem moverRemoteTimeout_keep {M : Nat} {z0 : State} (hM : M &&& 0xC4C00 = 0xC4C00) (c : Chan) (s : State) (hk : Keep M z0 s) : Keep M z0 (moverRemoteTimeout c s) := by
  refine hk.trans ?_
  have m0 : M &&& 0xC4C00 = 0xC4C00 := Keep.sub hM rfl
  unfold moverRemoteTimeout
  try dsimp only
  repeat' (first | (with_reducible exact Keep.refl _ _) | (with_reducible apply State.failChan_keep m0) | (with_reducible apply Keep.ite) | split)

theorem State.refuseGroup_keep {M : Nat} {z0 : State} (hM : M &&& 0xC4000 = 0xC4000) (s : State) (hk : Keep M z0 s) : Keep M z0 (State.refuseGroup s) := by
  refine hk.trans ?_
  have m0 : M &&& 0xC0000 = 0xC0000 := Keep.sub hM rfl
  have b_mov : M.testBit 14 = true := Keep.bit hM rfl
  unfold State.refuseGroup
  try dsimp only
  repeat' (first | (with_reducible exact Keep.refl _ _) | (fail_if_no_progress (with_reducible apply Keep.upd_mov b_mov)) | (with_reducible apply State.record_keep m0))

theorem groupStart_keep {M : Nat} {z0 : State} (hM : M &&& 0xC4C00 = 0xC4C00) (g : U8) (s : State) (hk : Keep M z0 s) : Keep M z0 (groupStart g s) := by
  refine hk.trans ?_
  have m0 : M &&& 0xC4000 = 0xC4000 := Keep.sub hM rfl
  have m1 : M &&& 0xC4C00 = 0xC4C00 := Keep.sub hM rfl
  unfold groupStart
  try dsimp only
  repeat' (first | (with_reducible exact Keep.refl _ _) | (with_reducible assumption) | (with_reducible apply State.refuseGroup_keep m0) | (with_reducible apply moverStart_keep m1) | (with_reducible apply Keep.foldl) | (with_reducible apply Keep.foldl2) | (with_reducible apply Keep.foldl3) | (intro) | (with_reducible apply Keep.ite) | split | dsimp only)

theorem State.restartChan_keep {M : Nat} {z0 : State} (hM : M &&& 0xC4C00 = 0xC4C00) (c : Chan) (s : State) (hk : Keep M z0 s) : Keep M z0 (State.restartChan c s) := by
  refine hk.trans ?_
  have m0 : M &&& 0xC4C00 = 0xC4C00 := Keep.sub hM rfl
  have m1 : M &&& 0x4000 = 0x4000 := Keep.sub hM rfl
  unfold State.restartChan
  try dsimp only
  repeat' (first | (with_reducible exact Keep.refl _ _) | (with_reducible assumption) | (with_reducible apply State.startPassOf_keep m0) | (with_reducible apply State.issuePart_keep m1) | (with_reducible apply State.setChan_keep m1) | (intro) | (with_reducible apply Keep.ite) | split | dsimp only)

theorem groupRetry_keep {M : Nat} {z0 : State} (hM : M &&& 0xC4C00 = 0xC4C00) (g : U8) (s : State) (hk : Keep M z0 s) : Keep M z0 (groupRetry g s) := by
  refine hk.trans ?_
  have m0 : M &&& 0xC4C00 = 0xC4C00 := Keep.sub hM rfl
  have m1 : M &&& 0xC4000 = 0xC4000 := Keep.sub hM rfl
  unfold groupRetry
  try dsimp only
  repeat' (first | (with_reducible exact Keep.refl _ _) | (with_reducible assumption) | (with_reducible apply State.restartChan_keep m0) | (with_reducible apply State.refuseGroup_keep m1) | (with_reducible apply Keep.foldl) | (with_reducible apply Keep.foldl2) | (with_reducible apply Keep.foldl3) | (intro) | (with_reducible apply Keep.ite) | split | dsimp only)

theorem groupAbort_keep {M : Nat} {z0 : State} (hM : M &&& 0xC4C00 = 0xC4C00) (g : U8) (s : State) (hk : Keep M z0 s) : Keep M z0 (groupAbort g s) := by
  refine hk.trans ?_
  have m0 : M &&& 0xC4000 = 0xC4000 := Keep.sub hM rfl
  have m1 : M &&& 0xC4C00 = 0xC4C00 := Keep.sub hM rfl
  unfold groupAbort
  try dsimp only
  repeat' (first | (with_reducible exact Keep.refl _ _) | (with_reducible assumption) | (with_reducible apply State.refuseGroup_keep m0) | (with_reducible apply State.abortChan_keep m1) | (with_reducible apply Keep.foldl) | (with_reducible apply Keep.foldl2) | (with_reducible apply Keep.foldl3) | (intro) | (with_reducible apply Keep.ite) | split | dsimp only)

theorem moverReconcile_keep {M : Nat} {z0 : State} (hM : M &&& 0xC8000 = 0xC8000) (s : State) (hk : Keep M z0 s) : Keep M z0 (moverReconcile s) := by
  refine hk.trans ?_
  have m0 : M &&& 0xC8000 = 0xC8000 := Keep.sub hM rfl
  unfold moverReconcile
  try dsimp only
  repeat' (first | (with_reducible exact Keep.refl _ _) | (with_reducible assumption) | (with_reducible apply State.enterSafe_keep m0) | (with_reducible apply Keep.ite) | split | dsimp only | (with_reducible refine Keep.snd (by with_reducible assumption) ?_))

theorem State.codePage_keep {M : Nat} {z0 : State} (hM : M &&& 0x2E3248 = 0x2E3248) (kind : PointKind) (p : CutPage) (s : State) (hk : Keep M z0 s) : Keep M z0 (State.codePage kind p s).2 := by
  refine hk.trans ?_
  have m0 : M &&& 0x2E3248 = 0x2E3248 := Keep.sub hM rfl
  unfold State.codePage
  try dsimp only
  repeat' (first | (with_reducible exact Keep.refl _ _) | (with_reducible apply State.readBlock_keep m0) | (with_reducible apply Keep.ite) | split | dsimp only | (with_reducible refine Keep.snd (by with_reducible assumption) ?_))

theorem State.masksOf_keep {M : Nat} {z0 : State} (hM : M &&& 0x2E3248 = 0x2E3248) (c : Cut) (s : State) (hk : Keep M z0 s) : Keep M z0 (State.masksOf c s).2 := by
  refine hk.trans ?_
  have m0 : M &&& 0x2E3248 = 0x2E3248 := Keep.sub hM rfl
  unfold State.masksOf
  try dsimp only
  repeat' (first | (with_reducible exact Keep.refl _ _) | (with_reducible assumption) | (with_reducible apply State.readBlock_keep m0) | (with_reducible apply Keep.foldl) | (with_reducible apply Keep.foldl2) | (with_reducible apply Keep.foldl3) | (intro) | (with_reducible apply Keep.ite) | split | dsimp only | (with_reducible refine Keep.snd (by with_reducible assumption) ?_))

theorem State.codeItem_keep {M : Nat} {z0 : State} (hM : M &&& 0x2E3248 = 0x2E3248) (c : Cut) (i : CodeItem) (s : State) (hk : Keep M z0 s) : Keep M z0 (State.codeItem c i s).2.2 := by
  refine hk.trans ?_
  have m0 : M &&& 0x2E3248 = 0x2E3248 := Keep.sub hM rfl
  unfold State.codeItem
  try dsimp only
  repeat' (first | (with_reducible exact Keep.refl _ _) | (with_reducible apply State.codePage_keep m0) | split | dsimp only | (with_reducible refine Keep.snd (by with_reducible assumption) ?_))

theorem State.addItem_keep {M : Nat} {z0 : State} (hM : M &&& 0x2E3248 = 0x2E3248) (c : Cut) (acc : ChunkAcc × State) (i : CodeItem) (hk : Keep M z0 acc.2) : Keep M z0 (State.addItem c acc i).2 := by
  refine hk.trans ?_
  have m0 : M &&& 0x2E3248 = 0x2E3248 := Keep.sub hM rfl
  have b_adj : M.testBit 13 = true := Keep.bit hM rfl
  unfold State.addItem
  try dsimp only
  repeat' (first | (with_reducible exact Keep.refl _ _) | (fail_if_no_progress (with_reducible apply Keep.upd_adj b_adj)) | (with_reducible apply State.codeItem_keep m0) | (with_reducible apply Keep.ite) | split | dsimp only | (with_reducible refine Keep.snd (by with_reducible assumption) ?_))

theorem State.nextChunk_keep {M : Nat} {z0 : State} (hM : M &&& 0x2E3248 = 0x2E3248) (c : Cut) (s : State) (hk : Keep M z0 s) : Keep M z0 (State.nextChunk c s).2 := by
  refine hk.trans ?_
  have m0 : M &&& 0x2E3248 = 0x2E3248 := Keep.sub hM rfl
  unfold State.nextChunk
  try dsimp only
  repeat' (first | (with_reducible exact Keep.refl _ _) | (with_reducible apply State.addItem_keep m0) | (with_reducible apply Keep.foldl) | (with_reducible apply Keep.foldl2) | (with_reducible apply Keep.foldl3) | (intro) | dsimp only)

theorem State.withKept_keep {M : Nat} {z0 : State} (hM : M &&& 0xA060 = 0xA060) (f : State → State) (s : State) (hf : ∀ y0, Keep M y0 (f y0)) (hk : Keep M z0 s) : Keep M z0 (State.withKept f s) := by
  refine hk.trans ?_
  have b_adj : M.testBit 13 = true := Keep.bit hM rfl
  have b_red : M.testBit 5 = true := Keep.bit hM rfl
  have b_job : M.testBit 15 = true := Keep.bit hM rfl
  have b_upd : M.testBit 6 = true := Keep.bit hM rfl
  unfold State.withKept
  try dsimp only
  repeat' (first | (with_reducible exact Keep.refl _ _) | (with_reducible assumption) | (fail_if_no_progress (with_reducible apply Keep.upd_adj b_adj)) | (fail_if_no_progress (with_reducible apply Keep.upd_job b_job)) | (fail_if_no_progress (with_reducible apply Keep.upd_red b_red)) | (fail_if_no_progress (with_reducible apply Keep.upd_upd b_upd)) | (fail_if_no_progress ((with_reducible refine Keep.updAll ?_ ?_ ?_ ?_ ?_ ?_ ?_ ?_ ?_ ?_ ?_ ?_ ?_ ?_ ?_ ?_ ?_ ?_ ?_ ?_ ?_ ?_ ?_ ?_ ?_ ?_); iterate 25 (first | (with_reducible rfl) | (with_reducible exact fun _ => rfl) | (exact fun b => absurd (b.symm.trans (Keep.bit hM rfl)) (by decide))))) | (with_reducible apply Keep.trans _ (hf ..)) | (with_reducible apply Keep.ite) | split | dsimp only | (with_reducible refine Keep.snd (by with_reducible assumption) ?_))

theorem State.readImage_keep {M : Nat} {z0 : State} (hM : M &&& 0x8C2000 = 0x8C2000) (seq : U32) (lo n : Nat) (s : State) (hk : Keep M z0 s) : Keep M z0 (State.readImage seq lo n s) := by
  refine hk.trans ?_
  have m0 : M &&& 0xC0000 = 0xC0000 := Keep.sub hM rfl
  have b_adj : M.testBit 13 = true := Keep.bit hM rfl
  have b_freeCtr : M.testBit 23 = true := Keep.bit hM rfl
  unfold State.readImage
  try dsimp only
  repeat' (first | (with_reducible exact Keep.refl _ _) | (with_reducible assumption) | (fail_if_no_progress (with_reducible apply Keep.upd_adj b_adj)) | (fail_if_no_progress (with_reducible apply Keep.upd_freeCtr b_freeCtr)) | (fail_if_no_progress ((with_reducible refine Keep.updAll ?_ ?_ ?_ ?_ ?_ ?_ ?_ ?_ ?_ ?_ ?_ ?_ ?_ ?_ ?_ ?_ ?_ ?_ ?_ ?_ ?_ ?_ ?_ ?_ ?_ ?_); iterate 25 (first | (with_reducible rfl) | (with_reducible exact fun _ => rfl) | (exact fun b => absurd (b.symm.trans (Keep.bit hM rfl)) (by decide))))) | (with_reducible apply State.record_keep m0) | (with_reducible apply Keep.ite) | split | dsimp only)

theorem State.sendPart_keep {M : Nat} {z0 : State} (hM : M &&& 0x8C2C00 = 0x8C2C00) (p : Push) (n : Nat) (resend : Bool) (s : State) (hk : Keep M z0 s) : Keep M z0 (State.sendPart p n resend s) := by
  refine hk.trans ?_
  have m0 : M &&& 0x8C2000 = 0x8C2000 := Keep.sub hM rfl
  have m1 : M &&& 0xC0C00 = 0xC0C00 := Keep.sub hM rfl
  have m2 : M &&& 0x40000 = 0x40000 := Keep.sub hM rfl
  unfold State.sendPart
  try dsimp only
  repeat' (first | (with_reducible exact Keep.refl _ _) | (with_reducible apply State.readImage_keep m0) | (with_reducible apply State.send_keep m1) | (with_reducible apply State.countBytes_keep m2))

theorem State.setPush_keep {M : Nat} {z0 : State} (hM : M &&& 0x2000 = 0x2000) (p : Push) (s : State) (hk : Keep M z0 s) : Keep M z0 (State.setPush p s) := by
  refine hk.trans ?_
  have b_adj : M.testBit 13 = true := Keep.bit hM rfl
  unfold State.setPush
  try dsimp only
  repeat' (first | (with_reducible exact Keep.refl _ _) | (with_reducible assumption) | (fail_if_no_progress (with_reducible apply Keep.upd_adj b_adj)) | (with_reducible apply Keep.ite) | split | dsimp only)

theorem State.dropPush_keep {M : Nat} {z0 : State} (hM : M &&& 0x2000 = 0x2000) (p : Push) (s : State) (hk : Keep M z0 s) : Keep M z0 (State.dropPush p s) := by
  refine hk.trans ?_
  have b_adj : M.testBit 13 = true := Keep.bit hM rfl
  unfold State.dropPush
  try dsimp only
  repeat' (first | (with_reducible exact Keep.refl _ _) | (with_reducible assumption) | (fail_if_no_progress (with_reducible apply Keep.upd_adj b_adj)) | dsimp only)

theorem State.setPointer_keep {M : Nat} {z0 : State} (hM : M &&& 0x42000 = 0x42000) (p : Push) (s : State) (hk : Keep M z0 s) : Keep M z0 (State.setPointer p s) := by
  refine hk.trans ?_
  have m0 : M &&& 0x40000 = 0x40000 := Keep.sub hM rfl
  have b_adj : M.testBit 13 = true := Keep.bit hM rfl
  unfold State.setPointer
  try dsimp only
  repeat' (first | (with_reducible exact Keep.refl _ _) | (with_reducible assumption) | (fail_if_no_progress (with_reducible apply Keep.upd_adj b_adj)) | (with_reducible apply State.countBytes_keep m0) | (with_reducible apply Keep.foldl) | (with_reducible apply Keep.foldl2) | (with_reducible apply Keep.foldl3) | (intro) | dsimp only)

theorem State.drainResult_keep {M : Nat} {z0 : State} (hM : M &&& 0xC2C00 = 0xC2C00) (d : Drain) (bad : Bool) (s : State) (hk : Keep M z0 s) : Keep M z0 (State.drainResult d bad s) := by
  refine hk.trans ?_
  have m0 : M &&& 0x80000 = 0x80000 := Keep.sub hM rfl
  have m1 : M &&& 0xC0C00 = 0xC0C00 := Keep.sub hM rfl
  have b_adj : M.testBit 13 = true := Keep.bit hM rfl
  unfold State.drainResult
  try dsimp only
  repeat' (first | (with_reducible exact Keep.refl _ _) | (with_reducible assumption) | (fail_if_no_progress (with_reducible apply Keep.upd_adj b_adj)) | (with_reducible apply State.stepIrq_keep m0) | (with_reducible apply State.sendFence_keep m1) | (with_reducible apply Keep.foldl) | (with_reducible apply Keep.foldl2) | (with_reducible apply Keep.foldl3) | (intro) | (with_reducible apply Keep.ite) | split | dsimp only)

theorem State.drainFold_keep {M : Nat} {z0 : State} (hM : M &&& 0xC2C00 = 0xC2C00) (s : State) (hk : Keep M z0 s) : Keep M z0 (State.drainFold s) := by
  refine hk.trans ?_
  have m0 : M &&& 0xC2C00 = 0xC2C00 := Keep.sub hM rfl
  have m1 : M &&& 0xC0C00 = 0xC0C00 := Keep.sub hM rfl
  have b_adj : M.testBit 13 = true := Keep.bit hM rfl
  unfold State.drainFold
  try dsimp only
  repeat' (first | (with_reducible exact Keep.refl _ _) | (with_reducible assumption) | (fail_if_no_progress (with_reducible apply Keep.upd_adj b_adj)) | (with_reducible apply State.drainResult_keep m0) | (with_reducible apply State.sendFence_keep m1) | (with_reducible apply Keep.ite) | split | dsimp only | (with_reducible refine Keep.snd (by with_reducible assumption) ?_))

theorem State.drainOwn_keep {M : Nat} {z0 : State} (hM : M &&& 0xC2C00 = 0xC2C00) (ok : Bool) (code : Nat) (s : State) (hk : Keep M z0 s) : Keep M z0 (State.drainOwn ok code s) := by
  refine hk.trans ?_
  have m0 : M &&& 0xC2C00 = 0xC2C00 := Keep.sub hM rfl
  have m1 : M &&& 0xC0000 = 0xC0000 := Keep.sub hM rfl
  have b_adj : M.testBit 13 = true := Keep.bit hM rfl
  unfold State.drainOwn
  try dsimp only
  repeat' (first | (with_reducible exact Keep.refl _ _) | (fail_if_no_progress (with_reducible apply Keep.upd_adj b_adj)) | (with_reducible apply State.drainFold_keep m0) | (with_reducible apply State.record_keep m1) | (with_reducible apply Keep.ite) | split | (with_reducible refine Keep.snd (by with_reducible assumption) ?_))

theorem State.drainCheck_keep {M : Nat} {z0 : State} (hM : M &&& 0xC2C00 = 0xC2C00) (s : State) (hk : Keep M z0 s) : Keep M z0 (State.drainCheck s) := by
  refine hk.trans ?_
  have m0 : M &&& 0xC2C00 = 0xC2C00 := Keep.sub hM rfl
  unfold State.drainCheck
  try dsimp only
  repeat' (first | (with_reducible exact Keep.refl _ _) | (with_reducible apply State.drainOwn_keep m0) | (with_reducible apply Keep.ite) | split | (with_reducible refine Keep.snd (by with_reducible assumption) ?_))

theorem State.drainFail_keep {M : Nat} {z0 : State} (hM : M &&& 0xC2C00 = 0xC2C00) (step : U32) (code : Nat) (s : State) (hk : Keep M z0 s) : Keep M z0 (State.drainFail step code s) := by
  refine hk.trans ?_
  have m0 : M &&& 0xC2C00 = 0xC2C00 := Keep.sub hM rfl
  unfold State.drainFail
  try dsimp only
  repeat' (first | (with_reducible exact Keep.refl _ _) | (with_reducible apply State.drainOwn_keep m0) | (with_reducible apply Keep.ite) | split | (with_reducible refine Keep.snd (by with_reducible assumption) ?_))

theorem State.refuseAdj_keep {M : Nat} {z0 : State} (hM : M &&& 0xC2000 = 0xC2000) (sub : U8) (v : U32) (s : State) (hk : Keep M z0 s) : Keep M z0 (State.refuseAdj sub v s) := by
  refine hk.trans ?_
  have m0 : M &&& 0xC0000 = 0xC0000 := Keep.sub hM rfl
  have b_adj : M.testBit 13 = true := Keep.bit hM rfl
  unfold State.refuseAdj
  try dsimp only
  repeat' (first | (with_reducible exact Keep.refl _ _) | (fail_if_no_progress (with_reducible apply Keep.upd_adj b_adj)) | (with_reducible apply State.record_keep m0))

theorem adjournmentConfigWrite_keep {M : Nat} {z0 : State} (hM : M &&& 0xC2000 = 0xC2000) (sub : U8) (v : U32) (s : State) (hk : Keep M z0 s) : Keep M z0 (adjournmentConfigWrite sub v s) := by
  refine hk.trans ?_
  have m0 : M &&& 0xC2000 = 0xC2000 := Keep.sub hM rfl
  have b_adj : M.testBit 13 = true := Keep.bit hM rfl
  unfold adjournmentConfigWrite
  try dsimp only
  repeat' (first | (with_reducible exact Keep.refl _ _) | (fail_if_no_progress (with_reducible apply Keep.upd_adj b_adj)) | (with_reducible apply State.refuseAdj_keep m0) | (with_reducible apply Keep.ite) | split)

theorem copyStart_keep {M : Nat} {z0 : State} (hM : M &&& 0xC6000 = 0xC6000) (s : State) (hk : Keep M z0 s) : Keep M z0 (copyStart s) := by
  refine hk.trans ?_
  have m0 : M &&& 0x4000 = 0x4000 := Keep.sub hM rfl
  have m1 : M &&& 0xC2000 = 0xC2000 := Keep.sub hM rfl
  have b_adj : M.testBit 13 = true := Keep.bit hM rfl
  unfold copyStart
  try dsimp only
  repeat' (first | (with_reducible exact Keep.refl _ _) | (with_reducible assumption) | (fail_if_no_progress (with_reducible apply Keep.upd_adj b_adj)) | (with_reducible apply State.pauseDevice_keep m0) | (with_reducible apply State.noteBusy_keep m1) | (with_reducible apply Keep.ite) | split | dsimp only | (with_reducible refine Keep.snd (by with_reducible assumption) ?_))

theorem pageCopyAhead_keep {M : Nat} {z0 : State} (hM : M &&& 0x2E3248 = 0x2E3248) (addr : U64) (s : State) (hk : Keep M z0 s) : Keep M z0 (pageCopyAhead addr s) := by
  refine hk.trans ?_
  have m0 : M &&& 0x2E3248 = 0x2E3248 := Keep.sub hM rfl
  unfold pageCopyAhead
  try dsimp only
  repeat' (first | (with_reducible exact Keep.refl _ _) | (with_reducible apply State.copyPage_keep m0) | (with_reducible apply Keep.ite) | split)

theorem copyEnd_keep {M : Nat} {z0 : State} (hM : M &&& 0x2E7E48 = 0x2E7E48) (s : State) (hk : Keep M z0 s) : Keep M z0 (copyEnd s) := by
  refine hk.trans ?_
  have m0 : M &&& 0x2E3248 = 0x2E3248 := Keep.sub hM rfl
  have m1 : M &&& 0xC4C00 = 0xC4C00 := Keep.sub hM rfl
  have b_adj : M.testBit 13 = true := Keep.bit hM rfl
  unfold copyEnd
  try dsimp only
  repeat' (first | (with_reducible exact Keep.refl _ _) | (with_reducible assumption) | (fail_if_no_progress (with_reducible apply Keep.upd_adj b_adj)) | (with_reducible apply State.masksOf_keep m0) | (with_reducible apply State.resumeDevice_keep m1) | (with_reducible apply State.copyPage_keep m0) | (with_reducible apply Keep.foldl) | (with_reducible apply Keep.foldl2) | (with_reducible apply Keep.foldl3) | (intro) | (with_reducible apply Keep.ite) | split | dsimp only | (with_reducible refine Keep.snd (by with_reducible assumption) ?_))

theorem State.abandonPoint_keep {M : Nat} {z0 : State} (hM : M &&& 0x8C2C00 = 0x8C2C00) (c : Cut) (s : State) (hk : Keep M z0 s) : Keep M z0 (State.abandonPoint c s) := by
  refine hk.trans ?_
  have m0 : M &&& 0xC2C00 = 0xC2C00 := Keep.sub hM rfl
  have m1 : M &&& 0x800000 = 0x800000 := Keep.sub hM rfl
  have m2 : M &&& 0xC0000 = 0xC0000 := Keep.sub hM rfl
  have b_adj : M.testBit 13 = true := Keep.bit hM rfl
  unfold State.abandonPoint
  try dsimp only
  repeat' (first | (with_reducible exact Keep.refl _ _) | (with_reducible assumption) | (fail_if_no_progress (with_reducible apply Keep.upd_adj b_adj)) | (with_reducible apply State.drainFail_keep m0) | (with_reducible apply State.free_keep m1) | (with_reducible apply State.record_keep m2) | dsimp only)

theorem State.startChunk_keep {M : Nat} {z0 : State} (hM : M &&& 0xAE3E48 = 0xAE3E48) (s : State) (hk : Keep M z0 s) : Keep M z0 (State.startChunk s) := by
  refine hk.trans ?_
  have m0 : M &&& 0x8C2C00 = 0x8C2C00 := Keep.sub hM rfl
  have m1 : M &&& 0x2E3248 = 0x2E3248 := Keep.sub hM rfl
  have m2 : M &&& 0x2C0000 = 0x2C0000 := Keep.sub hM rfl
  have m3 : M &&& 0x800000 = 0x800000 := Keep.sub hM rfl
  have b_adj : M.testBit 13 = true := Keep.bit hM rfl
  have b_pwr : M.testBit 21 = true := Keep.bit hM rfl
  unfold State.startChunk
  try dsimp only
  repeat' (first | (with_reducible exact Keep.refl _ _) | (with_reducible assumption) | (fail_if_no_progress (with_reducible apply Keep.upd_adj b_adj)) | (fail_if_no_progress (with_reducible apply Keep.upd_pwr b_pwr)) | (fail_if_no_progress ((with_reducible refine Keep.updAll ?_ ?_ ?_ ?_ ?_ ?_ ?_ ?_ ?_ ?_ ?_ ?_ ?_ ?_ ?_ ?_ ?_ ?_ ?_ ?_ ?_ ?_ ?_ ?_ ?_ ?_); iterate 25 (first | (with_reducible rfl) | (with_reducible exact fun _ => rfl) | (exact fun b => absurd (b.symm.trans (Keep.bit hM rfl)) (by decide))))) | (with_reducible apply State.abandonPoint_keep m0) | (with_reducible apply State.nextChunk_keep m1) | (with_reducible apply State.reserve_keep m2) | (with_reducible apply State.free_keep m3) | (with_reducible apply Keep.ite) | split | dsimp only | (with_reducible refine Keep.snd (by with_reducible assumption) ?_))

theorem chunkStart_keep {M : Nat} {z0 : State} (hM : M &&& 0xAEBE68 = 0xAEBE68) (s : State) (hk : Keep M z0 s) : Keep M z0 (chunkStart s) := by
  refine hk.trans ?_
  have m0 : M &&& 0xAE3E48 = 0xAE3E48 := Keep.sub hM rfl
  have m1 : M &&& 0xA060 = 0xA060 := Keep.sub hM rfl
  unfold chunkStart
  try dsimp only
  repeat' (first | (with_reducible exact Keep.refl _ _) | (with_reducible apply State.startChunk_keep m0) | (with_reducible apply State.withKept_keep m1) | (intro))

theorem State.programFail_keep {M : Nat} {z0 : State} (hM : M &&& 0xAE2000 = 0xAE2000) (bytes : List Byte) (s : State) (hk : Keep M z0 s) : Keep M z0 (State.programFail bytes s) := by
  refine hk.trans ?_
  have m0 : M &&& 0x800000 = 0x800000 := Keep.sub hM rfl
  have m1 : M &&& 0x2E0000 = 0x2E0000 := Keep.sub hM rfl
  have m2 : M &&& 0xC0000 = 0xC0000 := Keep.sub hM rfl
  have b_adj : M.testBit 13 = true := Keep.bit hM rfl
  unfold State.programFail
  try dsimp only
  repeat' (first | (with_reducible exact Keep.refl _ _) | (fail_if_no_progress (with_reducible apply Keep.upd_adj b_adj)) | (with_reducible apply State.free_keep m0) | (with_reducible apply State.charge_keep m1) | (with_reducible apply State.record_keep m2) | split | dsimp only | (with_reducible refine Keep.snd (by with_reducible assumption) ?_))

theorem State.freeEarlier_keep {M : Nat} {z0 : State} (hM : M &&& 0x802000 = 0x802000) (kind : PointKind) (seq : U32) (jt : U16) (inS : Bool) (s : State) (hk : Keep M z0 s) : Keep M z0 (State.freeEarlier kind seq jt inS s) := by
  refine hk.trans ?_
  have m0 : M &&& 0x802000 = 0x802000 := Keep.sub hM rfl
  unfold State.freeEarlier
  try dsimp only
  repeat' (first | (with_reducible exact Keep.refl _ _) | (with_reducible assumption) | (with_reducible apply State.freePoints_keep m0) | (with_reducible apply Keep.ite) | split | dsimp only)

theorem State.commitPoint_keep {M : Nat} {z0 : State} (hM : M &&& 0x8C2C00 = 0x8C2C00) (c : Cut) (s : State) (hk : Keep M z0 s) : Keep M z0 (State.commitPoint c s) := by
  refine hk.trans ?_
  have m0 : M &&& 0x802000 = 0x802000 := Keep.sub hM rfl
  have m1 : M &&& 0xC2C00 = 0xC2C00 := Keep.sub hM rfl
  have m2 : M &&& 0xC0000 = 0xC0000 := Keep.sub hM rfl
  have m3 : M &&& 0x40000 = 0x40000 := Keep.sub hM rfl
  have b_adj : M.testBit 13 = true := Keep.bit hM rfl
  unfold State.commitPoint
  try dsimp only
  repeat' (first | (with_reducible exact Keep.refl _ _) | (with_reducible assumption) | (fail_if_no_progress (with_reducible apply Keep.upd_adj b_adj)) | (with_reducible apply State.freeEarlier_keep m0) | (with_reducible apply State.drainCheck_keep m1) | (with_reducible apply State.record_keep m2) | (with_reducible apply State.countBytes_keep m3) | (with_reducible apply Keep.ite) | split | dsimp only | (with_reducible refine Keep.snd (by with_reducible assumption) ?_))

theorem State.endChunk_keep {M : Nat} {z0 : State} (hM : M &&& 0xAE2C00 = 0xAE2C00) (ok : Bool) (s : State) (hk : Keep M z0 s) : Keep M z0 (State.endChunk ok s) := by
  refine hk.trans ?_
  have m0 : M &&& 0x8C2C00 = 0x8C2C00 := Keep.sub hM rfl
  have m1 : M &&& 0xAE2000 = 0xAE2000 := Keep.sub hM rfl
  have m2 : M &&& 0x200000 = 0x200000 := Keep.sub hM rfl
  have m3 : M &&& 0x800000 = 0x800000 := Keep.sub hM rfl
  have m4 : M &&& 0x40000 = 0x40000 := Keep.sub hM rfl
  have b_adj : M.testBit 13 = true := Keep.bit hM rfl
  unfold State.endChunk
  try dsimp only
  repeat' (first | (with_reducible exact Keep.refl _ _) | (with_reducible assumption) | (fail_if_no_progress (with_reducible apply Keep.upd_adj b_adj)) | (with_reducible apply State.commitPoint_keep m0) | (with_reducible apply State.programFail_keep m1) | (with_reducible apply State.release_keep m2) | (with_reducible apply State.free_keep m3) | (with_reducible apply State.countBytes_keep m4) | (with_reducible apply Keep.ite) | split | dsimp only | (with_reducible refine Keep.snd (by with_reducible assumption) ?_))

theorem chunkProgrammed_keep {M : Nat} {z0 : State} (hM : M &&& 0xAEAC60 = 0xAEAC60) (ok : Bool) (s : State) (hk : Keep M z0 s) : Keep M z0 (chunkProgrammed ok s) := by
  refine hk.trans ?_
  have m0 : M &&& 0xAE2C00 = 0xAE2C00 := Keep.sub hM rfl
  have m1 : M &&& 0xA060 = 0xA060 := Keep.sub hM rfl
  unfold chunkProgrammed
  try dsimp only
  repeat' (first | (with_reducible exact Keep.refl _ _) | (with_reducible apply State.endChunk_keep m0) | (with_reducible apply State.withKept_keep m1) | (intro))

theorem State.sendCommits_keep {M : Nat} {z0 : State} (hM : M &&& 0xC2C00 = 0xC2C00) (p : Push) (s : State) (hk : Keep M z0 s) : Keep M z0 (State.sendCommits p s) := by
  refine hk.trans ?_
  have m0 : M &&& 0x2000 = 0x2000 := Keep.sub hM rfl
  have m1 : M &&& 0xC0C00 = 0xC0C00 := Keep.sub hM rfl
  unfold State.sendCommits
  try dsimp only
  repeat' (first | (with_reducible exact Keep.refl _ _) | (with_reducible assumption) | (with_reducible apply State.setPush_keep m0) | (with_reducible apply State.send_keep m1) | (with_reducible apply Keep.foldl) | (with_reducible apply Keep.foldl2) | (with_reducible apply Keep.foldl3) | (intro) | dsimp only)

theorem storePartSend_keep {M : Nat} {z0 : State} (hM : M &&& 0x8C2C00 = 0x8C2C00) (s : State) (hk : Keep M z0 s) : Keep M z0 (storePartSend s) := by
  refine hk.trans ?_
  have m0 : M &&& 0xC2C00 = 0xC2C00 := Keep.sub hM rfl
  have m1 : M &&& 0x42000 = 0x42000 := Keep.sub hM rfl
  have m2 : M &&& 0x2000 = 0x2000 := Keep.sub hM rfl
  have m3 : M &&& 0x8C2C00 = 0x8C2C00 := Keep.sub hM rfl
  have b_adj : M.testBit 13 = true := Keep.bit hM rfl
  unfold storePartSend
  try dsimp only
  repeat' (first | (with_reducible exact Keep.refl _ _) | (fail_if_no_progress (with_reducible apply Keep.upd_adj b_adj)) | (with_reducible apply State.sendCommits_keep m0) | (with_reducible apply State.setPointer_keep m1) | (with_reducible apply State.setPush_keep m2) | (with_reducible apply State.sendPart_keep m3) | (with_reducible apply Keep.ite) | split | (with_reducible refine Keep.snd (by with_reducible assumption) ?_))

theorem State.failAttempt_keep {M : Nat} {z0 : State} (hM : M &&& 0xC2C00 = 0xC2C00) (p : Push) (s : State) (hk : Keep M z0 s) : Keep M z0 (State.failAttempt p s) := by
  refine hk.trans ?_
  have m0 : M &&& 0xC2C00 = 0xC2C00 := Keep.sub hM rfl
  have m1 : M &&& 0x2000 = 0x2000 := Keep.sub hM rfl
  have m2 : M &&& 0xC0000 = 0xC0000 := Keep.sub hM rfl
  have b_adj : M.testBit 13 = true := Keep.bit hM rfl
  unfold State.failAttempt
  try dsimp only
  repeat' (first | (with_reducible exact Keep.refl _ _) | (fail_if_no_progress (with_reducible apply Keep.upd_adj b_adj)) | (with_reducible apply State.drainFail_keep m0) | (with_reducible apply State.dropPush_keep m1) | (with_reducible apply State.setPush_keep m1) | (with_reducible apply State.record_keep m2) | (with_reducible apply Keep.ite) | split)

theorem storePartAckReceive_keep {M : Nat} {z0 : State} (hM : M &&& 0xC2C00 = 0xC2C00) (pk : Trans) (s : State) (hk : Keep M z0 s) : Keep M z0 (storePartAckReceive pk s) := by
  refine hk.trans ?_
  have m0 : M &&& 0xC2C00 = 0xC2C00 := Keep.sub hM rfl
  have m1 : M &&& 0x42000 = 0x42000 := Keep.sub hM rfl
  have m2 : M &&& 0x2000 = 0x2000 := Keep.sub hM rfl
  have m3 : M &&& 0x800 = 0x800 := Keep.sub hM rfl
  have b_adj : M.testBit 13 = true := Keep.bit hM rfl
  unfold storePartAckReceive
  try dsimp only
  repeat' (first | (with_reducible exact Keep.refl _ _) | (fail_if_no_progress (with_reducible apply Keep.upd_adj b_adj)) | (with_reducible apply State.sendCommits_keep m0) | (with_reducible apply State.setPointer_keep m1) | (with_reducible apply State.setPush_keep m2) | (with_reducible apply State.takePk_keep m3) | (with_reducible apply Keep.ite) | split | (with_reducible refine Keep.snd (by with_reducible assumption) ?_))

theorem State.failPart_keep {M : Nat} {z0 : State} (hM : M &&& 0xC2C00 = 0xC2C00) (p : Push) (s : State) (hk : Keep M z0 s) : Keep M z0 (State.failPart p s) := by
  refine hk.trans ?_
  have m0 : M &&& 0xC2C00 = 0xC2C00 := Keep.sub hM rfl
  have b_adj : M.testBit 13 = true := Keep.bit hM rfl
  unfold State.failPart
  try dsimp only
  repeat' (first | (with_reducible exact Keep.refl _ _) | (fail_if_no_progress (with_reducible apply Keep.upd_adj b_adj)) | (with_reducible apply State.failAttempt_keep m0))

theorem State.resendPart_keep {M : Nat} {z0 : State} (hM : M &&& 0x8C2C00 = 0x8C2C00) (p : Push) (x : PushPart) (s : State) (hk : Keep M z0 s) : Keep M z0 (State.resendPart p x s) := by
  refine hk.trans ?_
  have m0 : M &&& 0xC2C00 = 0xC2C00 := Keep.sub hM rfl
  have m1 : M &&& 0x2000 = 0x2000 := Keep.sub hM rfl
  have m2 : M &&& 0x8C2C00 = 0x8C2C00 := Keep.sub hM rfl
  have b_adj : M.testBit 13 = true := Keep.bit hM rfl
  unfold State.resendPart
  try dsimp only
  repeat' (first | (with_reducible exact Keep.refl _ _) | (fail_if_no_progress (with_reducible apply Keep.upd_adj b_adj)) | (with_reducible apply State.failPart_keep m0) | (with_reducible apply State.setPush_keep m1) | (with_reducible apply State.sendPart_keep m2) | (with_reducible apply Keep.ite) | split)

theorem storePartRefusalReceive_keep {M : Nat} {z0 : State} (hM : M &&& 0x8C2C00 = 0x8C2C00) (pk : Trans) (s : State) (hk : Keep M z0 s) : Keep M z0 (storePartRefusalReceive pk s) := by
  refine hk.trans ?_
  have m0 : M &&& 0x8C2C00 = 0x8C2C00 := Keep.sub hM rfl
  have m1 : M &&& 0xC2C00 = 0xC2C00 := Keep.sub hM rfl
  have m2 : M &&& 0x800 = 0x800 := Keep.sub hM rfl
  unfold storePartRefusalReceive
  try dsimp only
  repeat' (first | (with_reducible exact Keep.refl _ _) | (with_reducible apply State.resendPart_keep m0) | (with_reducible apply State.failPart_keep m1) | (with_reducible apply State.takePk_keep m2) | (with_reducible apply Keep.ite) | split | (with_reducible refine Keep.snd (by with_reducible assumption) ?_))

theorem storePartTimeout_keep {M : Nat} {z0 : State} (hM : M &&& 0x8C2C00 = 0x8C2C00) (part : U32) (s : State) (hk : Keep M z0 s) : Keep M z0 (storePartTimeout part s) := by
  refine hk.trans ?_
  have m0 : M &&& 0x8C2C00 = 0x8C2C00 := Keep.sub hM rfl
  unfold storePartTimeout
  try dsimp only
  repeat' (first | (with_reducible exact Keep.refl _ _) | (with_reducible assumption) | (with_reducible apply State.resendPart_keep m0) | split | dsimp only | (with_reducible refine Keep.snd (by with_reducible assumption) ?_))

theorem State.storeCommitted_keep {M : Nat} {z0 : State} (hM : M &&& 0x8C2C00 = 0x8C2C00) (p : Push) (s : State) (hk : Keep M z0 s) : Keep M z0 (State.storeCommitted p s) := by
  refine hk.trans ?_
  have m0 : M &&& 0x802000 = 0x802000 := Keep.sub hM rfl
  have m1 : M &&& 0xC2C00 = 0xC2C00 := Keep.sub hM rfl
  have m2 : M &&& 0x2000 = 0x2000 := Keep.sub hM rfl
  have m3 : M &&& 0xC0000 = 0xC0000 := Keep.sub hM rfl
  have m4 : M &&& 0x40000 = 0x40000 := Keep.sub hM rfl
  have b_adj : M.testBit 13 = true := Keep.bit hM rfl
  unfold State.storeCommitted
  try dsimp only
  repeat' (first | (with_reducible exact Keep.refl _ _) | (fail_if_no_progress (with_reducible apply Keep.upd_adj b_adj)) | (with_reducible apply State.freeEarlier_keep m0) | (with_reducible apply State.drainCheck_keep m1) | (with_reducible apply State.dropPush_keep m2) | (with_reducible apply State.record_keep m3) | (with_reducible apply State.countBytes_keep m4) | (with_reducible apply Keep.ite) | split)

theorem storeCommitResponse_keep {M : Nat} {z0 : State} (hM : M &&& 0x8C2C00 = 0x8C2C00) (pk : Trans) (s : State) (hk : Keep M z0 s) : Keep M z0 (storeCommitResponse pk s) := by
  refine hk.trans ?_
  have m0 : M &&& 0x8C2C00 = 0x8C2C00 := Keep.sub hM rfl
  have m1 : M &&& 0xC2C00 = 0xC2C00 := Keep.sub hM rfl
  have m2 : M &&& 0x2000 = 0x2000 := Keep.sub hM rfl
  have m3 : M &&& 0xC0C00 = 0xC0C00 := Keep.sub hM rfl
  have m4 : M &&& 0x800 = 0x800 := Keep.sub hM rfl
  unfold storeCommitResponse
  try dsimp only
  repeat' (first | (with_reducible exact Keep.refl _ _) | (with_reducible assumption) | (with_reducible apply State.storeCommitted_keep m0) | (with_reducible apply State.failAttempt_keep m1) | (with_reducible apply State.setPush_keep m2) | (with_reducible apply State.send_keep m3) | (with_reducible apply State.takePk_keep m4) | (with_reducible apply Keep.ite) | split | dsimp only | (with_reducible refine Keep.snd (by with_reducible assumption) ?_))

theorem storeAttemptRetry_keep {M : Nat} {z0 : State} (hM : M &&& 0x2000 = 0x2000) (s : State) (hk : Keep M z0 s) : Keep M z0 (storeAttemptRetry s) := by
  refine hk.trans ?_
  have m0 : M &&& 0x2000 = 0x2000 := Keep.sub hM rfl
  unfold storeAttemptRetry
  try dsimp only
  repeat' (first | (with_reducible exact Keep.refl _ _) | (with_reducible apply State.setPush_keep m0) | (with_reducible apply Keep.ite) | split | (with_reducible refine Keep.snd (by with_reducible assumption) ?_))

theorem drainFenceAction_keep {M : Nat} {z0 : State} (hM : M &&& 0xC2C00 = 0xC2C00) (v : U64) (s : State) (hk : Keep M z0 s) : Keep M z0 (drainFenceAction v s) := by
  refine hk.trans ?_
  have m0 : M &&& 0xC2C00 = 0xC2C00 := Keep.sub hM rfl
  have m1 : M &&& 0xC0000 = 0xC0000 := Keep.sub hM rfl
  have b_adj : M.testBit 13 = true := Keep.bit hM rfl
  unfold drainFenceAction
  try dsimp only
  repeat' (first | (with_reducible exact Keep.refl _ _) | (with_reducible assumption) | (fail_if_no_progress (with_reducible apply Keep.upd_adj b_adj)) | (with_reducible apply State.drainCheck_keep m0) | (with_reducible apply State.record_keep m1) | (with_reducible apply Keep.ite) | split | dsimp only)

theorem State.earlyDrain_keep {M : Nat} {z0 : State} (hM : M &&& 0x2000 = 0x2000) (step : U32) (rung : U8) (src : U32) (bad : Bool) (n : U32) (s : State) (hk : Keep M z0 s) : Keep M z0 (State.earlyDrain step rung src bad n s) := by
  refine hk.trans ?_
  have b_adj : M.testBit 13 = true := Keep.bit hM rfl
  unfold State.earlyDrain
  try dsimp only
  repeat' (first | (with_reducible exact Keep.refl _ _) | (fail_if_no_progress (with_reducible apply Keep.upd_adj b_adj)))

theorem drainFenceReceive_keep {M : Nat} {z0 : State} (hM : M &&& 0xC2C00 = 0xC2C00) (pk : Trans) (s : State) (hk : Keep M z0 s) : Keep M z0 (drainFenceReceive pk s) := by
  refine hk.trans ?_
  have m0 : M &&& 0x2000 = 0x2000 := Keep.sub hM rfl
  have m1 : M &&& 0xC2C00 = 0xC2C00 := Keep.sub hM rfl
  have m2 : M &&& 0x800 = 0x800 := Keep.sub hM rfl
  have b_adj : M.testBit 13 = true := Keep.bit hM rfl
  unfold drainFenceReceive
  try dsimp only
  repeat' (first | (with_reducible exact Keep.refl _ _) | (with_reducible assumption) | (fail_if_no_progress (with_reducible apply Keep.upd_adj b_adj)) | (with_reducible apply State.earlyDrain_keep m0) | (with_reducible apply State.drainFold_keep m1) | (with_reducible apply State.drainResult_keep m1) | (with_reducible apply State.takePk_keep m2) | (with_reducible apply Keep.ite) | split | dsimp only | (with_reducible refine Keep.snd (by with_reducible assumption) ?_))

end Sys2Proof.Machine
end

