-- ==== Sys2Proof/Laws/KeepJobs.lean ====
section
/-! SUPPORT. One lemma per operation: what it keeps, for jobs, detection, health, power, pins, recorder and exerciser. -/
set_option linter.unreachableTactic false
set_option linter.unusedTactic false
set_option linter.unusedVariables false
namespace Sys2Proof.Machine
open Sys2Proof

theorem State.serviceAtStandby_keep {M : Nat} {z0 : State} (hM : M &&& 0xE0000 = 0xE0000) (s : State) (hk : Keep M z0 s) : Keep M z0 (State.serviceAtStandby s) := by
  refine hk.trans ?_
  have m0 : M &&& 0xC0000 = 0xC0000 := Keep.sub hM rfl
  have b_health : M.testBit 17 = true := Keep.bit hM rfl
  unfold State.serviceAtStandby
  try dsimp only
  repeat' (first | (with_reducible exact Keep.refl _ _) | (with_reducible assumption) | (fail_if_no_progress (with_reducible apply Keep.upd_health b_health)) | (with_reducible apply State.record_keep m0) | (with_reducible apply Keep.ite) | split | dsimp only)

theorem State.enterStandby_keep {M : Nat} {z0 : State} (hM : M &&& 0x2E8000 = 0x2E8000) (s : State) (hk : Keep M z0 s) : Keep M z0 (State.enterStandby s) := by
  refine hk.trans ?_
  have m0 : M &&& 0xE0000 = 0xE0000 := Keep.sub hM rfl
  have m1 : M &&& 0x88000 = 0x88000 := Keep.sub hM rfl
  have b_pwr : M.testBit 21 = true := Keep.bit hM rfl
  unfold State.enterStandby
  try dsimp only
  repeat' (first | (with_reducible exact Keep.refl _ _) | (fail_if_no_progress (with_reducible apply Keep.upd_pwr b_pwr)) | (with_reducible apply State.serviceAtStandby_keep m0) | (with_reducible apply State.setDev_keep m1))

theorem State.retireAtEpoch_keep {M : Nat} {z0 : State} (hM : M &&& 0x20020 = 0x20020) (s : State) (hk : Keep M z0 s) : Keep M z0 (State.retireAtEpoch s) := by
  refine hk.trans ?_
  have b_red : M.testBit 5 = true := Keep.bit hM rfl
  have b_health : M.testBit 17 = true := Keep.bit hM rfl
  unfold State.retireAtEpoch
  try dsimp only
  repeat' (first | (with_reducible exact Keep.refl _ _) | (with_reducible assumption) | (fail_if_no_progress (with_reducible apply Keep.upd_health b_health)) | (fail_if_no_progress (with_reducible apply Keep.upd_red b_red)) | (fail_if_no_progress ((with_reducible refine Keep.updAll ?_ ?_ ?_ ?_ ?_ ?_ ?_ ?_ ?_ ?_ ?_ ?_ ?_ ?_ ?_ ?_ ?_ ?_ ?_ ?_ ?_ ?_ ?_ ?_ ?_ ?_); iterate 25 (first | (with_reducible rfl) | (with_reducible exact fun _ => rfl) | (exact fun b => absurd (b.symm.trans (Keep.bit hM rfl)) (by decide))))) | dsimp only)

theorem State.sendPhase_keep {M : Nat} {z0 : State} (hM : M &&& 0xC0C00 = 0xC0C00) (dst : U32) (t : Trans) (s : State) (hk : Keep M z0 s) : Keep M z0 (State.sendPhase dst t s) := by
  refine hk.trans ?_
  have m0 : M &&& 0xC0C00 = 0xC0C00 := Keep.sub hM rfl
  unfold State.sendPhase
  try dsimp only
  repeat' (first | (with_reducible exact Keep.refl _ _) | (with_reducible apply State.sendFence_keep m0))

theorem State.sendSegs_keep {M : Nat} {z0 : State} (hM : M &&& 0xC0C00 = 0xC0C00) (dst : U32) (s : State) (hk : Keep M z0 s) : Keep M z0 (State.sendSegs dst s) := by
  refine hk.trans ?_
  have m0 : M &&& 0xC0C00 = 0xC0C00 := Keep.sub hM rfl
  unfold State.sendSegs
  try dsimp only
  repeat' (first | (with_reducible exact Keep.refl _ _) | (with_reducible assumption) | (with_reducible apply State.sendPhase_keep m0) | (with_reducible apply Keep.foldl) | (with_reducible apply Keep.foldl2) | (with_reducible apply Keep.foldl3) | (intro) | dsimp only)

theorem State.sendStreamChecks_keep {M : Nat} {z0 : State} (hM : M &&& 0xC0C00 = 0xC0C00) (s : State) (hk : Keep M z0 s) : Keep M z0 (State.sendStreamChecks s) := by
  refine hk.trans ?_
  have m0 : M &&& 0xC0C00 = 0xC0C00 := Keep.sub hM rfl
  unfold State.sendStreamChecks
  try dsimp only
  repeat' (first | (with_reducible exact Keep.refl _ _) | (with_reducible assumption) | (with_reducible apply State.sendTrans_keep m0) | (with_reducible apply Keep.foldl) | (with_reducible apply Keep.foldl2) | (with_reducible apply Keep.foldl3) | (intro) | dsimp only)

theorem State.openRefused_keep {M : Nat} {z0 : State} (hM : M &&& 0xC0000 = 0xC0000) (reason phase : U8) (cn : U32) (s : State) (hk : Keep M z0 s) : Keep M z0 (State.openRefused reason phase cn s) := by
  refine hk.trans ?_
  have m0 : M &&& 0xC0000 = 0xC0000 := Keep.sub hM rfl
  unfold State.openRefused
  try dsimp only
  repeat' (first | (with_reducible exact Keep.refl _ _) | (with_reducible apply State.record_keep m0))

theorem State.setPhase_keep {M : Nat} {z0 : State} (hM : M &&& 0x8000 = 0x8000) (p : PhaseSt) (s : State) (hk : Keep M z0 s) : Keep M z0 (State.setPhase p s) := by
  refine hk.trans ?_
  have b_job : M.testBit 15 = true := Keep.bit hM rfl
  unfold State.setPhase
  try dsimp only
  repeat' (first | (with_reducible exact Keep.refl _ _) | (fail_if_no_progress (with_reducible apply Keep.upd_job b_job)))

theorem State.beginPhase_keep {M : Nat} {z0 : State} (hM : M &&& 0xC8C00 = 0xC8C00) (ph : OpPhase) (sender : Option U32) (t : Trans) (s : State) (hk : Keep M z0 s) : Keep M z0 (State.beginPhase ph sender t s) := by
  refine hk.trans ?_
  have m0 : M &&& 0x8000 = 0x8000 := Keep.sub hM rfl
  have m1 : M &&& 0xC0C00 = 0xC0C00 := Keep.sub hM rfl
  unfold State.beginPhase
  try dsimp only
  repeat' (first | (with_reducible exact Keep.refl _ _) | (with_reducible assumption) | (with_reducible apply State.setPhase_keep m0) | (with_reducible apply State.sendPhase_keep m1) | (with_reducible apply Keep.foldl) | (with_reducible apply Keep.foldl2) | (with_reducible apply Keep.foldl3) | (intro) | dsimp only)

theorem State.setOwn_keep {M : Nat} {z0 : State} (hM : M &&& 0xC8000 = 0xC8000) (reason : Option U8) (s : State) (hk : Keep M z0 s) : Keep M z0 (State.setOwn reason s) := by
  refine hk.trans ?_
  have m0 : M &&& 0x8000 = 0x8000 := Keep.sub hM rfl
  have m1 : M &&& 0xC0000 = 0xC0000 := Keep.sub hM rfl
  unfold State.setOwn
  try dsimp only
  repeat' (first | (with_reducible exact Keep.refl _ _) | (with_reducible apply State.setPhase_keep m0) | (with_reducible apply State.openRefused_keep m1) | (with_reducible apply Keep.ite) | split | (with_reducible refine Keep.snd (by with_reducible assumption) ?_))

theorem State.sendAckTo_keep {M : Nat} {z0 : State} (hM : M &&& 0xC0C00 = 0xC0C00) (dst : U32) (t : Trans) (s : State) (hk : Keep M z0 s) : Keep M z0 (State.sendAckTo dst t s) := by
  refine hk.trans ?_
  have m0 : M &&& 0xC0C00 = 0xC0C00 := Keep.sub hM rfl
  unfold State.sendAckTo
  try dsimp only
  repeat' (first | (with_reducible exact Keep.refl _ _) | (with_reducible apply State.sendFence_keep m0))

theorem State.ackUp_keep {M : Nat} {z0 : State} (hM : M &&& 0xC8C00 = 0xC8C00) (p : PhaseSt) (dst : U32) (s : State) (hk : Keep M z0 s) : Keep M z0 (State.ackUp p dst s) := by
  refine hk.trans ?_
  have m0 : M &&& 0xC0C00 = 0xC0C00 := Keep.sub hM rfl
  have m1 : M &&& 0x8000 = 0x8000 := Keep.sub hM rfl
  have b_job : M.testBit 15 = true := Keep.bit hM rfl
  unfold State.ackUp
  try dsimp only
  repeat' (first | (with_reducible exact Keep.refl _ _) | (fail_if_no_progress (with_reducible apply Keep.upd_job b_job)) | (with_reducible apply State.sendAckTo_keep m0) | (with_reducible apply State.setPhase_keep m1))

theorem State.noteTorn_keep {M : Nat} {z0 : State} (hM : M &&& 0xC8000 = 0xC8000) (s : State) (hk : Keep M z0 s) : Keep M z0 (State.noteTorn s) := by
  refine hk.trans ?_
  have m0 : M &&& 0xC0000 = 0xC0000 := Keep.sub hM rfl
  have b_job : M.testBit 15 = true := Keep.bit hM rfl
  unfold State.noteTorn
  try dsimp only
  repeat' (first | (with_reducible exact Keep.refl _ _) | (fail_if_no_progress (with_reducible apply Keep.upd_job b_job)) | (with_reducible apply State.record_keep m0))

theorem State.copyMask_keep {M : Nat} {z0 : State} (hM : M &&& 0xC8000 = 0xC8000) (base : U32) (e : TensorEntry) (s : State) (hk : Keep M z0 s) : Keep M z0 (State.copyMask base e s).2 := by
  refine hk.trans ?_
  have m0 : M &&& 0xC8000 = 0xC8000 := Keep.sub hM rfl
  unfold State.copyMask
  try dsimp only
  repeat' (first | (with_reducible exact Keep.refl _ _) | (with_reducible apply State.noteTorn_keep m0) | (with_reducible apply Keep.ite) | split | dsimp only)

theorem State.sendReach_keep {M : Nat} {z0 : State} (hM : M &&& 0xC0C00 = 0xC0C00) (dst ts : U32) (v : U64) (s : State) (hk : Keep M z0 s) : Keep M z0 (State.sendReach dst ts v s) := by
  refine hk.trans ?_
  have m0 : M &&& 0xC0C00 = 0xC0C00 := Keep.sub hM rfl
  unfold State.sendReach
  try dsimp only
  repeat' (first | (with_reducible exact Keep.refl _ _) | (with_reducible apply State.sendTrans_keep m0))

theorem State.sendReaches_keep {M : Nat} {z0 : State} (hM : M &&& 0xC8C00 = 0xC8C00) (base : U32) (s : State) (hk : Keep M z0 s) : Keep M z0 (State.sendReaches base s) := by
  refine hk.trans ?_
  have m0 : M &&& 0xC0C00 = 0xC0C00 := Keep.sub hM rfl
  have m1 : M &&& 0xC8000 = 0xC8000 := Keep.sub hM rfl
  unfold State.sendReaches
  try dsimp only
  repeat' (first | (with_reducible exact Keep.refl _ _) | (with_reducible assumption) | (with_reducible apply State.sendReach_keep m0) | (with_reducible apply State.copyMask_keep m1) | (with_reducible apply Keep.foldl) | (with_reducible apply Keep.foldl2) | (with_reducible apply Keep.foldl3) | (intro) | (with_reducible apply Keep.ite) | split | dsimp only | (with_reducible refine Keep.snd (by with_reducible assumption) ?_))

theorem State.shardMask_keep {M : Nat} {z0 : State} (hM : M &&& 0xC8000 = 0xC8000) (base : U32) (e : TensorEntry) (s : State) (hk : Keep M z0 s) : Keep M z0 (State.shardMask base e s).2 := by
  refine hk.trans ?_
  have m0 : M &&& 0xC8000 = 0xC8000 := Keep.sub hM rfl
  unfold State.shardMask
  try dsimp only
  repeat' (first | (with_reducible exact Keep.refl _ _) | (with_reducible assumption) | (with_reducible apply State.copyMask_keep m0) | (with_reducible apply Keep.foldl) | (with_reducible apply Keep.foldl2) | (with_reducible apply Keep.foldl3) | (intro) | (with_reducible apply Keep.ite) | split | dsimp only | (with_reducible refine Keep.snd (by with_reducible assumption) ?_))

theorem State.sendGet_keep {M : Nat} {z0 : State} (hM : M &&& 0xC0C00 = 0xC0C00) (obj : U64) (off : Nat) (s : State) (hk : Keep M z0 s) : Keep M z0 (State.sendGet obj off s) := by
  refine hk.trans ?_
  have m0 : M &&& 0xC0C00 = 0xC0C00 := Keep.sub hM rfl
  unfold State.sendGet
  try dsimp only
  repeat' (first | (with_reducible exact Keep.refl _ _) | (with_reducible apply State.sendTrans_keep m0) | split | (with_reducible refine Keep.snd (by with_reducible assumption) ?_))

theorem State.startGet_keep {M : Nat} {z0 : State} (hM : M &&& 0xC8C00 = 0xC8C00) (g : StoreGet) (s : State) (hk : Keep M z0 s) : Keep M z0 (State.startGet g s) := by
  refine hk.trans ?_
  have m0 : M &&& 0xC0C00 = 0xC0C00 := Keep.sub hM rfl
  have b_job : M.testBit 15 = true := Keep.bit hM rfl
  unfold State.startGet
  try dsimp only
  repeat' (first | (with_reducible exact Keep.refl _ _) | (fail_if_no_progress (with_reducible apply Keep.upd_job b_job)) | (with_reducible apply State.sendGet_keep m0))

theorem State.setGet_keep {M : Nat} {z0 : State} (hM : M &&& 0x8000 = 0x8000) (g : StoreGet) (s : State) (hk : Keep M z0 s) : Keep M z0 (State.setGet g s) := by
  refine hk.trans ?_
  have b_job : M.testBit 15 = true := Keep.bit hM rfl
  unfold State.setGet
  try dsimp only
  repeat' (first | (with_reducible exact Keep.refl _ _) | (with_reducible assumption) | (fail_if_no_progress (with_reducible apply Keep.upd_job b_job)) | (with_reducible apply Keep.ite) | split | dsimp only)

theorem State.getHead_keep {M : Nat} {z0 : State} (hM : M &&& 0x8000 = 0x8000) (g : StoreGet) (s : State) (hk : Keep M z0 s) : Keep M z0 (State.getHead g s) := by
  refine hk.trans ?_
  have b_job : M.testBit 15 = true := Keep.bit hM rfl
  unfold State.getHead
  try dsimp only
  repeat' (first | (with_reducible exact Keep.refl _ _) | (with_reducible assumption) | (fail_if_no_progress (with_reducible apply Keep.upd_job b_job)) | (with_reducible apply Keep.ite) | split | dsimp only)

theorem State.entryFailed_keep {M : Nat} {z0 : State} (hM : M &&& 0xC0008 = 0xC0008) (t : Tier) (r : Region) (h : Header) (s : State) (hk : Keep M z0 s) : Keep M z0 (State.entryFailed t r h s) := by
  refine hk.trans ?_
  have m0 : M &&& 0xC0000 = 0xC0000 := Keep.sub hM rfl
  have b_chk : M.testBit 3 = true := Keep.bit hM rfl
  unfold State.entryFailed
  try dsimp only
  repeat' (first | (with_reducible exact Keep.refl _ _) | (fail_if_no_progress (with_reducible apply Keep.upd_chk b_chk)) | (with_reducible apply State.storedCheckEvent_keep m0))

theorem State.installEntry_keep {M : Nat} {z0 : State} (hM : M &&& 0x2E3248 = 0x2E3248) (shards : List U32) (damaged : Bool) (l : List Byte) (s : State) (hk : Keep M z0 s) : Keep M z0 (State.installEntry shards damaged l s) := by
  refine hk.trans ?_
  have m0 : M &&& 0xC0008 = 0xC0008 := Keep.sub hM rfl
  have m1 : M &&& 0x2E3248 = 0x2E3248 := Keep.sub hM rfl
  have b_chk : M.testBit 3 = true := Keep.bit hM rfl
  unfold State.installEntry
  try dsimp only
  repeat' (first | (with_reducible exact Keep.refl _ _) | (fail_if_no_progress (with_reducible apply Keep.upd_chk b_chk)) | (with_reducible apply State.entryFailed_keep m0) | (with_reducible apply State.writeCarried_keep m1) | (with_reducible apply State.readBlock_keep m1) | (with_reducible apply Keep.ite) | split | dsimp only | (with_reducible refine Keep.snd (by with_reducible assumption) ?_))

theorem State.installEntries_keep {M : Nat} {z0 : State} (hM : M &&& 0x2E3248 = 0x2E3248) (shards : List U32) (bad : Nat → Nat → Bool) (a0 : Nat) (a1 : Nat) (a2 : List Byte) (a3 : State) (hk : Keep M z0 a3) : Keep M z0 (State.installEntries shards bad a0 a1 a2 a3) := by
  refine hk.trans ?_
  have m0 : M &&& 0x2E3248 = 0x2E3248 := Keep.sub hM rfl
  clear hk
  induction a0 generalizing a1 a2 a3 with
  | zero => exact Keep.refl _ _
  | succ n ih =>
    rw [State.installEntries]
    dsimp only
    split
    · exact Keep.refl _ _
    · refine Keep.trans ?_ (ih _ _ _)
      apply State.installEntry_keep m0
      exact Keep.refl _ _

theorem State.installImage_keep {M : Nat} {z0 : State} (hM : M &&& 0x2E3248 = 0x2E3248) (shards : List U32) (bad : Nat → Nat → Bool) (a0 : Nat) (a1 : Nat) (a2 : List Byte) (a3 : State) (hk : Keep M z0 a3) : Keep M z0 (State.installImage shards bad a0 a1 a2 a3) := by
  refine hk.trans ?_
  have m0 : M &&& 0x2E3248 = 0x2E3248 := Keep.sub hM rfl
  clear hk
  induction a0 generalizing a1 a2 a3 with
  | zero => exact Keep.refl _ _
  | succ n ih =>
    rw [State.installImage]
    dsimp only
    split
    · exact Keep.refl _ _
    · refine Keep.trans ?_ (ih _ _ _)
      apply State.installEntries_keep m0
      exact Keep.refl _ _

theorem State.decodeImage_keep {M : Nat} {z0 : State} (hM : M &&& 0x2E3248 = 0x2E3248) (shards : List U32) (bad : Nat → Nat → Bool) (l : List Byte) (s : State) (hk : Keep M z0 s) : Keep M z0 (State.decodeImage shards bad l s) := by
  refine hk.trans ?_
  have m0 : M &&& 0x2E3248 = 0x2E3248 := Keep.sub hM rfl
  unfold State.decodeImage
  try dsimp only
  repeat' (first | (with_reducible exact Keep.refl _ _) | (with_reducible assumption) | (with_reducible apply State.installImage_keep m0))

theorem State.checkChunks_keep {M : Nat} {z0 : State} (hM : M &&& 0xC2000 = 0xC2000) (seq : U32) (s : State) (hk : Keep M z0 s) : Keep M z0 (State.checkChunks seq s) := by
  refine hk.trans ?_
  have m0 : M &&& 0xC0000 = 0xC0000 := Keep.sub hM rfl
  have b_adj : M.testBit 13 = true := Keep.bit hM rfl
  unfold State.checkChunks
  try dsimp only
  repeat' (first | (with_reducible exact Keep.refl _ _) | (with_reducible assumption) | (fail_if_no_progress (with_reducible apply Keep.upd_adj b_adj)) | (with_reducible apply State.record_keep m0) | (with_reducible apply Keep.foldl) | (with_reducible apply Keep.foldl2) | (with_reducible apply Keep.foldl3) | (intro) | (with_reducible apply Keep.ite) | split | dsimp only)

theorem State.installPoint_keep {M : Nat} {z0 : State} (hM : M &&& 0xAE3248 = 0xAE3248) (e : TensorEntry) (p : Point) (s : State) (hk : Keep M z0 s) : Keep M z0 (State.installPoint e p s) := by
  refine hk.trans ?_
  have m0 : M &&& 0xC2000 = 0xC2000 := Keep.sub hM rfl
  have m1 : M &&& 0x2E3248 = 0x2E3248 := Keep.sub hM rfl
  have m2 : M &&& 0x8C2000 = 0x8C2000 := Keep.sub hM rfl
  have m3 : M &&& 0x40 = 0x40 := Keep.sub hM rfl
  have m4 : M &&& 0x40000 = 0x40000 := Keep.sub hM rfl
  unfold State.installPoint
  try dsimp only
  repeat' (first | (with_reducible exact Keep.refl _ _) | (with_reducible assumption) | (with_reducible apply State.checkChunks_keep m0) | (with_reducible apply State.decodeImage_keep m1) | (with_reducible apply State.readImage_keep m2) | (with_reducible apply State.setEntry_keep m3) | (with_reducible apply State.countBytes_keep m4) | (with_reducible apply Keep.foldl) | (with_reducible apply Keep.foldl2) | (with_reducible apply Keep.foldl3) | (intro) | dsimp only)

theorem State.installCut_keep {M : Nat} {z0 : State} (hM : M &&& 0x2E3248 = 0x2E3248) (e : TensorEntry) (c : Cut) (s : State) (hk : Keep M z0 s) : Keep M z0 (State.installCut e c s) := by
  refine hk.trans ?_
  have m0 : M &&& 0x40 = 0x40 := Keep.sub hM rfl
  have m1 : M &&& 0x2E3248 = 0x2E3248 := Keep.sub hM rfl
  unfold State.installCut
  try dsimp only
  repeat' (first | (with_reducible exact Keep.refl _ _) | (with_reducible assumption) | (with_reducible apply State.setEntry_keep m0) | (with_reducible apply State.writeCarried_keep m1) | (with_reducible apply State.readBlock_keep m1) | (with_reducible apply Keep.foldl) | (with_reducible apply Keep.foldl2) | (with_reducible apply Keep.foldl3) | (intro) | (with_reducible apply Keep.ite) | split | dsimp only | (with_reducible refine Keep.snd (by with_reducible assumption) ?_))

theorem State.sendPull_keep {M : Nat} {z0 : State} (hM : M &&& 0xC0C00 = 0xC0C00) (p : Pull) (s : State) (hk : Keep M z0 s) : Keep M z0 (State.sendPull p s) := by
  refine hk.trans ?_
  have m0 : M &&& 0xC0C00 = 0xC0C00 := Keep.sub hM rfl
  unfold State.sendPull
  try dsimp only
  repeat' (first | (with_reducible exact Keep.refl _ _) | (with_reducible apply State.sendTrans_keep m0))

theorem State.addPull_keep {M : Nat} {z0 : State} (hM : M &&& 0xC8C00 = 0xC8C00) (p : Pull) (s : State) (hk : Keep M z0 s) : Keep M z0 (State.addPull p s) := by
  refine hk.trans ?_
  have m0 : M &&& 0xC0C00 = 0xC0C00 := Keep.sub hM rfl
  have b_job : M.testBit 15 = true := Keep.bit hM rfl
  unfold State.addPull
  try dsimp only
  repeat' (first | (with_reducible exact Keep.refl _ _) | (fail_if_no_progress (with_reducible apply Keep.upd_job b_job)) | (with_reducible apply State.sendPull_keep m0))

theorem State.startPulls_keep {M : Nat} {z0 : State} (hM : M &&& 0xC8C00 = 0xC8C00) (e : TensorEntry) (s : State) (hk : Keep M z0 s) : Keep M z0 (State.startPulls e s) := by
  refine hk.trans ?_
  have m0 : M &&& 0xC8C00 = 0xC8C00 := Keep.sub hM rfl
  unfold State.startPulls
  try dsimp only
  repeat' (first | (with_reducible exact Keep.refl _ _) | (with_reducible assumption) | (with_reducible apply State.addPull_keep m0) | (with_reducible apply Keep.foldl) | (with_reducible apply Keep.foldl2) | (with_reducible apply Keep.foldl3) | (intro) | dsimp only)

theorem State.startRoll_keep {M : Nat} {z0 : State} (hM : M &&& 0xC8C00 = 0xC8C00) (e : TensorEntry) (p : U32) (s : State) (hk : Keep M z0 s) : Keep M z0 (State.startRoll e p s) := by
  refine hk.trans ?_
  have m0 : M &&& 0xC8C00 = 0xC8C00 := Keep.sub hM rfl
  have b_job : M.testBit 15 = true := Keep.bit hM rfl
  unfold State.startRoll
  try dsimp only
  repeat' (first | (with_reducible exact Keep.refl _ _) | (fail_if_no_progress (with_reducible apply Keep.upd_job b_job)) | (with_reducible apply State.addPull_keep m0))

theorem State.copyReaches_keep {M : Nat} {z0 : State} (hM : M &&& 0xC8000 = 0xC8000) (e : TensorEntry) (target : U32) (s : State) (hk : Keep M z0 s) : Keep M z0 (State.copyReaches e target s).2 := by
  refine hk.trans ?_
  have m0 : M &&& 0xC8000 = 0xC8000 := Keep.sub hM rfl
  unfold State.copyReaches
  try dsimp only
  repeat' (first | (with_reducible exact Keep.refl _ _) | (with_reducible apply State.noteTorn_keep m0) | (with_reducible apply Keep.ite) | split | dsimp only)

theorem State.pickSource_keep {M : Nat} {z0 : State} (hM : M &&& 0xC8000 = 0xC8000) (e : TensorEntry) (target : U32) (s : State) (hk : Keep M z0 s) : Keep M z0 (State.pickSource e target s).2 := by
  refine hk.trans ?_
  have m0 : M &&& 0xC8000 = 0xC8000 := Keep.sub hM rfl
  unfold State.pickSource
  try dsimp only
  repeat' (first | (with_reducible exact Keep.refl _ _) | (with_reducible apply State.copyReaches_keep m0) | (with_reducible apply Keep.ite) | split | dsimp only | (with_reducible refine Keep.snd (by with_reducible assumption) ?_))

theorem State.noteSource_keep {M : Nat} {z0 : State} (hM : M &&& 0x8000 = 0x8000) (order : Nat) (rolled p : U32) (s : State) (hk : Keep M z0 s) : Keep M z0 (State.noteSource order rolled p s) := by
  refine hk.trans ?_
  have b_job : M.testBit 15 = true := Keep.bit hM rfl
  unfold State.noteSource
  try dsimp only
  repeat' (first | (with_reducible exact Keep.refl _ _) | (fail_if_no_progress (with_reducible apply Keep.upd_job b_job)))

theorem State.markAhead_keep {M : Nat} {z0 : State} (hM : M &&& 0x8000 = 0x8000) (e : TensorEntry) (target : U32) (s : State) (hk : Keep M z0 s) : Keep M z0 (State.markAhead e target s) := by
  refine hk.trans ?_
  have b_job : M.testBit 15 = true := Keep.bit hM rfl
  unfold State.markAhead
  try dsimp only
  repeat' (first | (with_reducible exact Keep.refl _ _) | (with_reducible assumption) | (fail_if_no_progress (with_reducible apply Keep.upd_job b_job)) | dsimp only)

theorem State.rollIfBelow_keep {M : Nat} {z0 : State} (hM : M &&& 0xC8C00 = 0xC8C00) (e : TensorEntry) (p : U32) (s : State) (hk : Keep M z0 s) : Keep M z0 (State.rollIfBelow e p s) := by
  refine hk.trans ?_
  have m0 : M &&& 0xC8C00 = 0xC8C00 := Keep.sub hM rfl
  unfold State.rollIfBelow
  try dsimp only
  repeat' (first | (with_reducible exact Keep.refl _ _) | (with_reducible apply State.startRoll_keep m0) | (with_reducible apply Keep.ite) | split)

theorem State.installShard_keep {M : Nat} {z0 : State} (hM : M &&& 0xAEBE48 = 0xAEBE48) (e : TensorEntry) (s : State) (hk : Keep M z0 s) : Keep M z0 (State.installShard e s).2 := by
  refine hk.trans ?_
  have m0 : M &&& 0xC8C00 = 0xC8C00 := Keep.sub hM rfl
  have m1 : M &&& 0x8000 = 0x8000 := Keep.sub hM rfl
  have m2 : M &&& 0xC8000 = 0xC8000 := Keep.sub hM rfl
  have m3 : M &&& 0x2E3248 = 0x2E3248 := Keep.sub hM rfl
  have m4 : M &&& 0xAE3248 = 0xAE3248 := Keep.sub hM rfl
  have m5 : M &&& 0x40 = 0x40 := Keep.sub hM rfl
  unfold State.installShard
  try dsimp only
  repeat' (first | (with_reducible exact Keep.refl _ _) | (with_reducible assumption) | (with_reducible apply State.rollIfBelow_keep m0) | (with_reducible apply State.markAhead_keep m1) | (with_reducible apply State.noteSource_keep m1) | (with_reducible apply State.pickSource_keep m2) | (with_reducible apply State.startPulls_keep m0) | (with_reducible apply State.installCut_keep m3) | (with_reducible apply State.installPoint_keep m4) | (with_reducible apply State.startGet_keep m0) | (with_reducible apply State.setEntry_keep m5) | (with_reducible apply Keep.foldl) | (with_reducible apply Keep.foldl2) | (with_reducible apply Keep.foldl3) | (intro) | (with_reducible apply Keep.ite) | split | dsimp only | (with_reducible refine Keep.snd (by with_reducible assumption) ?_))

theorem State.installShards_keep {M : Nat} {z0 : State} (hM : M &&& 0xAEBE48 = 0xAEBE48) (s : State) (hk : Keep M z0 s) : Keep M z0 (State.installShards s).2 := by
  refine hk.trans ?_
  have m0 : M &&& 0xAEBE48 = 0xAEBE48 := Keep.sub hM rfl
  have b_job : M.testBit 15 = true := Keep.bit hM rfl
  unfold State.installShards
  try dsimp only
  repeat' (first | (with_reducible exact Keep.refl _ _) | (with_reducible assumption) | (fail_if_no_progress (with_reducible apply Keep.upd_job b_job)) | (with_reducible apply State.installShard_keep m0) | (with_reducible apply Keep.foldl) | (with_reducible apply Keep.foldl2) | (with_reducible apply Keep.foldl3) | (intro) | split | dsimp only | (with_reducible refine Keep.snd (by with_reducible assumption) ?_))

theorem State.installTier_keep {M : Nat} {z0 : State} (hM : M &&& 0x2EBE48 = 0x2EBE48) (k : Nat) (s : State) (hk : Keep M z0 s) : Keep M z0 (State.installTier k s) := by
  refine hk.trans ?_
  have m0 : M &&& 0xC8C00 = 0xC8C00 := Keep.sub hM rfl
  have m1 : M &&& 0x2E3248 = 0x2E3248 := Keep.sub hM rfl
  have m2 : M &&& 0x40 = 0x40 := Keep.sub hM rfl
  have b_job : M.testBit 15 = true := Keep.bit hM rfl
  unfold State.installTier
  try dsimp only
  repeat' (first | (with_reducible exact Keep.refl _ _) | (with_reducible assumption) | (fail_if_no_progress (with_reducible apply Keep.upd_job b_job)) | (with_reducible apply State.rollIfBelow_keep m0) | (with_reducible apply State.decodeImage_keep m1) | (with_reducible apply State.setEntry_keep m2) | (with_reducible apply Keep.foldl) | (with_reducible apply Keep.foldl2) | (with_reducible apply Keep.foldl3) | (intro) | (with_reducible apply Keep.ite) | split | dsimp only | (with_reducible refine Keep.snd (by with_reducible assumption) ?_))

theorem State.finishRound_keep {M : Nat} {z0 : State} (hM : M &&& 0xAEBF58 = 0xAEBF58) (s : State) (hk : Keep M z0 s) : Keep M z0 (State.finishRound s) := by
  refine hk.trans ?_
  have m0 : M &&& 0xAEBF58 = 0xAEBF58 := Keep.sub hM rfl
  unfold State.finishRound
  try dsimp only
  repeat' (first | (with_reducible exact Keep.refl _ _) | (with_reducible assumption) | (with_reducible apply windowWriteback_keep m0) | (with_reducible apply Keep.foldl) | (with_reducible apply Keep.foldl2) | (with_reducible apply Keep.foldl3) | (intro) | dsimp only)

theorem State.finishPipes_keep {M : Nat} {z0 : State} (hM : M &&& 0xAEBF58 = 0xAEBF58) (s : State) (hk : Keep M z0 s) : Keep M z0 (State.finishPipes s) := by
  refine hk.trans ?_
  have m0 : M &&& 0xAEBF58 = 0xAEBF58 := Keep.sub hM rfl
  have m1 : M &&& 0x2E3248 = 0x2E3248 := Keep.sub hM rfl
  unfold State.finishPipes
  try dsimp only
  repeat' (first | (with_reducible exact Keep.refl _ _) | (with_reducible assumption) | (with_reducible apply State.finishRound_keep m0) | (with_reducible apply State.copyPage_keep m1) | (with_reducible apply Keep.foldl) | (with_reducible apply Keep.foldl2) | (with_reducible apply Keep.foldl3) | (intro) | dsimp only)

theorem State.endActivity_keep {M : Nat} {z0 : State} (hM : M &&& 0xAEBFF8 = 0xAEBFF8) (newEpoch : U32) (s : State) (hk : Keep M z0 s) : Keep M z0 (State.endActivity newEpoch s) := by
  refine hk.trans ?_
  have m0 : M &&& 0xAEBF58 = 0xAEBF58 := Keep.sub hM rfl
  have m1 : M &&& 0x1040 = 0x1040 := Keep.sub hM rfl
  have m2 : M &&& 0xE0 = 0xE0 := Keep.sub hM rfl
  have m3 : M &&& 0xC2248 = 0xC2248 := Keep.sub hM rfl
  have m4 : M &&& 0xC0100 = 0xC0100 := Keep.sub hM rfl
  have m5 : M &&& 0xC0000 = 0xC0000 := Keep.sub hM rfl
  have b_fence : M.testBit 4 = true := Keep.bit hM rfl
  unfold State.endActivity
  try dsimp only
  repeat' (first | (with_reducible exact Keep.refl _ _) | (with_reducible assumption) | (fail_if_no_progress (with_reducible apply Keep.upd_fence b_fence)) | (with_reducible apply State.finishPipes_keep m0) | (with_reducible apply State.dropUncommittedPartner_keep m1) | (with_reducible apply State.discardWindows_keep m2) | (with_reducible apply State.abandonCuts_keep m3) | (with_reducible apply State.closePasses_keep m4) | (with_reducible apply State.record_keep m5) | (with_reducible apply Keep.ite) | split | dsimp only)

theorem State.forgetAbove_keep {M : Nat} {z0 : State} (hM : M &&& 0xC1170 = 0xC1170) (step : U32) (s : State) (hk : Keep M z0 s) : Keep M z0 (State.forgetAbove step s) := by
  refine hk.trans ?_
  have m0 : M &&& 0xC0020 = 0xC0020 := Keep.sub hM rfl
  have b_red : M.testBit 5 = true := Keep.bit hM rfl
  have b_fence : M.testBit 4 = true := Keep.bit hM rfl
  have b_str : M.testBit 8 = true := Keep.bit hM rfl
  have b_upd : M.testBit 6 = true := Keep.bit hM rfl
  have b_part : M.testBit 12 = true := Keep.bit hM rfl
  unfold State.forgetAbove
  try dsimp only
  repeat' (first | (with_reducible exact Keep.refl _ _) | (with_reducible assumption) | (fail_if_no_progress (with_reducible apply Keep.upd_fence b_fence)) | (fail_if_no_progress (with_reducible apply Keep.upd_part b_part)) | (fail_if_no_progress (with_reducible apply Keep.upd_red b_red)) | (fail_if_no_progress (with_reducible apply Keep.upd_str b_str)) | (fail_if_no_progress (with_reducible apply Keep.upd_upd b_upd)) | (fail_if_no_progress ((with_reducible refine Keep.updAll ?_ ?_ ?_ ?_ ?_ ?_ ?_ ?_ ?_ ?_ ?_ ?_ ?_ ?_ ?_ ?_ ?_ ?_ ?_ ?_ ?_ ?_ ?_ ?_ ?_ ?_); iterate 25 (first | (with_reducible rfl) | (with_reducible exact fun _ => rfl) | (exact fun b => absurd (b.symm.trans (Keep.bit hM rfl)) (by decide))))) | (with_reducible apply anchorLate_keep m0) | dsimp only)

theorem State.installSegs_keep {M : Nat} {z0 : State} (hM : M &&& 0x8060 = 0x8060) (step : U32) (n : U16) (s : State) (hk : Keep M z0 s) : Keep M z0 (State.installSegs step n s) := by
  refine hk.trans ?_
  have b_red : M.testBit 5 = true := Keep.bit hM rfl
  have b_job : M.testBit 15 = true := Keep.bit hM rfl
  have b_upd : M.testBit 6 = true := Keep.bit hM rfl
  unfold State.installSegs
  try dsimp only
  repeat' (first | (with_reducible exact Keep.refl _ _) | (with_reducible assumption) | (fail_if_no_progress (with_reducible apply Keep.upd_job b_job)) | (fail_if_no_progress (with_reducible apply Keep.upd_red b_red)) | (fail_if_no_progress (with_reducible apply Keep.upd_upd b_upd)) | (fail_if_no_progress ((with_reducible refine Keep.updAll ?_ ?_ ?_ ?_ ?_ ?_ ?_ ?_ ?_ ?_ ?_ ?_ ?_ ?_ ?_ ?_ ?_ ?_ ?_ ?_ ?_ ?_ ?_ ?_ ?_ ?_); iterate 25 (first | (with_reducible rfl) | (with_reducible exact fun _ => rfl) | (exact fun b => absurd (b.symm.trans (Keep.bit hM rfl)) (by decide))))) | dsimp only)

theorem State.levelPairs_keep {M : Nat} {z0 : State} (hM : M &&& 0x2E3248 = 0x2E3248) (pick : TensorEntry → Nat → State → Nat) (step : U32) (e : TensorEntry) (s : State) (hk : Keep M z0 s) : Keep M z0 (State.levelPairs pick step e s) := by
  refine hk.trans ?_
  have m0 : M &&& 0x2E3248 = 0x2E3248 := Keep.sub hM rfl
  unfold State.levelPairs
  try dsimp only
  repeat' (first | (with_reducible exact Keep.refl _ _) | (with_reducible assumption) | (with_reducible apply State.writeCarried_keep m0) | (with_reducible apply State.readBlock_keep m0) | (with_reducible apply Keep.foldl) | (with_reducible apply Keep.foldl2) | (with_reducible apply Keep.foldl3) | (intro) | (with_reducible apply Keep.ite) | split | dsimp only | (with_reducible refine Keep.snd (by with_reducible assumption) ?_))

theorem State.commitFresh_keep {M : Nat} {z0 : State} (hM : M &&& 0x2EB378 = 0x2EB378) (d : Descr) (s : State) (hk : Keep M z0 s) : Keep M z0 (State.commitFresh d s) := by
  refine hk.trans ?_
  have m0 : M &&& 0x2E3248 = 0x2E3248 := Keep.sub hM rfl
  have m1 : M &&& 0x8060 = 0x8060 := Keep.sub hM rfl
  have m2 : M &&& 0xC1170 = 0xC1170 := Keep.sub hM rfl
  have m3 : M &&& 0x100 = 0x100 := Keep.sub hM rfl
  have m4 : M &&& 0x88000 = 0x88000 := Keep.sub hM rfl
  have b_red : M.testBit 5 = true := Keep.bit hM rfl
  have b_job : M.testBit 15 = true := Keep.bit hM rfl
  have b_fence : M.testBit 4 = true := Keep.bit hM rfl
  have b_adj : M.testBit 13 = true := Keep.bit hM rfl
  have b_str : M.testBit 8 = true := Keep.bit hM rfl
  have b_upd : M.testBit 6 = true := Keep.bit hM rfl
  have b_part : M.testBit 12 = true := Keep.bit hM rfl
  unfold State.commitFresh
  try dsimp only
  repeat' (first | (with_reducible exact Keep.refl _ _) | (with_reducible assumption) | (fail_if_no_progress (with_reducible apply Keep.upd_adj b_adj)) | (fail_if_no_progress (with_reducible apply Keep.upd_fence b_fence)) | (fail_if_no_progress (with_reducible apply Keep.upd_job b_job)) | (fail_if_no_progress (with_reducible apply Keep.upd_part b_part)) | (fail_if_no_progress (with_reducible apply Keep.upd_red b_red)) | (fail_if_no_progress (with_reducible apply Keep.upd_str b_str)) | (fail_if_no_progress (with_reducible apply Keep.upd_upd b_upd)) | (fail_if_no_progress ((with_reducible refine Keep.updAll ?_ ?_ ?_ ?_ ?_ ?_ ?_ ?_ ?_ ?_ ?_ ?_ ?_ ?_ ?_ ?_ ?_ ?_ ?_ ?_ ?_ ?_ ?_ ?_ ?_ ?_); iterate 25 (first | (with_reducible rfl) | (with_reducible exact fun _ => rfl) | (exact fun b => absurd (b.symm.trans (Keep.bit hM rfl)) (by decide))))) | (with_reducible apply State.levelPairs_keep m0) | (with_reducible apply State.installSegs_keep m1) | (with_reducible apply State.forgetAbove_keep m2) | (with_reducible apply State.startLatched_keep m3) | (with_reducible apply State.setOpenStatus_keep m4) | (with_reducible apply State.setDev_keep m4) | (with_reducible apply Keep.foldl) | (with_reducible apply Keep.foldl2) | (with_reducible apply Keep.foldl3) | (intro) | dsimp only)

theorem State.commitRestore_keep {M : Nat} {z0 : State} (hM : M &&& 0x8B120 = 0x8B120) (target : U32) (s : State) (hk : Keep M z0 s) : Keep M z0 (State.commitRestore target s) := by
  refine hk.trans ?_
  have m0 : M &&& 0x100 = 0x100 := Keep.sub hM rfl
  have m1 : M &&& 0x88000 = 0x88000 := Keep.sub hM rfl
  have b_job : M.testBit 15 = true := Keep.bit hM rfl
  have b_adj : M.testBit 13 = true := Keep.bit hM rfl
  have b_red : M.testBit 5 = true := Keep.bit hM rfl
  have b_part : M.testBit 12 = true := Keep.bit hM rfl
  unfold State.commitRestore
  try dsimp only
  repeat' (first | (with_reducible exact Keep.refl _ _) | (fail_if_no_progress (with_reducible apply Keep.upd_adj b_adj)) | (fail_if_no_progress (with_reducible apply Keep.upd_job b_job)) | (fail_if_no_progress (with_reducible apply Keep.upd_part b_part)) | (fail_if_no_progress (with_reducible apply Keep.upd_red b_red)) | (fail_if_no_progress ((with_reducible refine Keep.updAll ?_ ?_ ?_ ?_ ?_ ?_ ?_ ?_ ?_ ?_ ?_ ?_ ?_ ?_ ?_ ?_ ?_ ?_ ?_ ?_ ?_ ?_ ?_ ?_ ?_ ?_); iterate 25 (first | (with_reducible rfl) | (with_reducible exact fun _ => rfl) | (exact fun b => absurd (b.symm.trans (Keep.bit hM rfl)) (by decide))))) | (with_reducible apply State.startLatched_keep m0) | (with_reducible apply State.setRestStatus_keep m1) | (with_reducible apply State.setOpenStatus_keep m1) | (with_reducible apply State.setDev_keep m1) | (with_reducible apply Keep.ite) | split)

theorem State.runCommit_keep {M : Nat} {z0 : State} (hM : M &&& 0x2EB378 = 0x2EB378) (s : State) (hk : Keep M z0 s) : Keep M z0 (State.runCommit s) := by
  refine hk.trans ?_
  have m0 : M &&& 0x8B120 = 0x8B120 := Keep.sub hM rfl
  have m1 : M &&& 0x2EB378 = 0x2EB378 := Keep.sub hM rfl
  unfold State.runCommit
  try dsimp only
  repeat' (first | (with_reducible exact Keep.refl _ _) | (with_reducible apply State.commitRestore_keep m0) | (with_reducible apply State.commitFresh_keep m1) | (with_reducible apply Keep.ite) | split | (with_reducible refine Keep.snd (by with_reducible assumption) ?_))

theorem State.commitPhase_keep {M : Nat} {z0 : State} (hM : M &&& 0x2EBF78 = 0x2EBF78) (s : State) (hk : Keep M z0 s) : Keep M z0 (State.commitPhase s) := by
  refine hk.trans ?_
  have m0 : M &&& 0x2EB378 = 0x2EB378 := Keep.sub hM rfl
  have m1 : M &&& 0xC8000 = 0xC8000 := Keep.sub hM rfl
  have m2 : M &&& 0xC8C00 = 0xC8C00 := Keep.sub hM rfl
  have m3 : M &&& 0xC0000 = 0xC0000 := Keep.sub hM rfl
  unfold State.commitPhase
  try dsimp only
  repeat' (first | (with_reducible exact Keep.refl _ _) | (with_reducible apply State.runCommit_keep m0) | (with_reducible apply State.setOwn_keep m1) | (with_reducible apply State.beginPhase_keep m2) | (with_reducible apply State.record_keep m3) | (with_reducible apply Keep.ite) | split | (with_reducible refine Keep.snd (by with_reducible assumption) ?_))

theorem State.phaseFailed_keep {M : Nat} {z0 : State} (hM : M &&& 0x88000 = 0x88000) (p : PhaseSt) (s : State) (hk : Keep M z0 s) : Keep M z0 (State.phaseFailed p s) := by
  refine hk.trans ?_
  have m0 : M &&& 0x88000 = 0x88000 := Keep.sub hM rfl
  unfold State.phaseFailed
  try dsimp only
  repeat' (first | (with_reducible exact Keep.refl _ _) | (with_reducible apply State.setRestStatus_keep m0) | (with_reducible apply Keep.ite) | split)

theorem State.rootRefused_keep {M : Nat} {z0 : State} (hM : M &&& 0xC8000 = 0xC8000) (p : PhaseSt) (reason : U8) (cn : U32) (s : State) (hk : Keep M z0 s) : Keep M z0 (State.rootRefused p reason cn s) := by
  refine hk.trans ?_
  have m0 : M &&& 0x88000 = 0x88000 := Keep.sub hM rfl
  have m1 : M &&& 0xC0000 = 0xC0000 := Keep.sub hM rfl
  have b_job : M.testBit 15 = true := Keep.bit hM rfl
  unfold State.rootRefused
  try dsimp only
  repeat' (first | (with_reducible exact Keep.refl _ _) | (fail_if_no_progress (with_reducible apply Keep.upd_job b_job)) | (with_reducible apply State.phaseFailed_keep m0) | (with_reducible apply State.openRefused_keep m1) | (with_reducible apply State.setOpenStatus_keep m0))

theorem State.rootMissing_keep {M : Nat} {z0 : State} (hM : M &&& 0x4C8400 = 0x4C8400) (p : PhaseSt) (s : State) (hk : Keep M z0 s) : Keep M z0 (State.rootMissing p s) := by
  refine hk.trans ?_
  have m0 : M &&& 0x4C0400 = 0x4C0400 := Keep.sub hM rfl
  have m1 : M &&& 0x88000 = 0x88000 := Keep.sub hM rfl
  have m2 : M &&& 0xC0000 = 0xC0000 := Keep.sub hM rfl
  have b_job : M.testBit 15 = true := Keep.bit hM rfl
  unfold State.rootMissing
  try dsimp only
  repeat' (first | (with_reducible exact Keep.refl _ _) | (fail_if_no_progress (with_reducible apply Keep.upd_job b_job)) | (with_reducible apply State.missing_keep m0) | (with_reducible apply State.setOpenStatus_keep m1) | (with_reducible apply State.record_keep m2))

theorem State.rootDecide_keep {M : Nat} {z0 : State} (hM : M &&& 0x4C8400 = 0x4C8400) (p : PhaseSt) (go : State → State) (s : State) (hgo : ∀ y0, Keep M y0 (go y0)) (hk : Keep M z0 s) : Keep M z0 (State.rootDecide p go s) := by
  refine hk.trans ?_
  have m0 : M &&& 0x4C8400 = 0x4C8400 := Keep.sub hM rfl
  have m1 : M &&& 0xC8000 = 0xC8000 := Keep.sub hM rfl
  have m2 : M &&& 0x8000 = 0x8000 := Keep.sub hM rfl
  unfold State.rootDecide
  try dsimp only
  repeat' (first | (with_reducible exact Keep.refl _ _) | (with_reducible assumption) | (with_reducible apply State.rootMissing_keep m0) | (with_reducible apply State.rootRefused_keep m1) | (with_reducible apply State.setPhase_keep m2) | (with_reducible apply Keep.trans _ (hgo ..)) | (with_reducible apply Keep.ite) | split | (with_reducible refine Keep.snd (by with_reducible assumption) ?_))

theorem State.settleCommit_keep {M : Nat} {z0 : State} (hM : M &&& 0x4C8C00 = 0x4C8C00) (s : State) (hk : Keep M z0 s) : Keep M z0 (State.settleCommit s) := by
  refine hk.trans ?_
  have m0 : M &&& 0x4C8400 = 0x4C8400 := Keep.sub hM rfl
  have m1 : M &&& 0xC8C00 = 0xC8C00 := Keep.sub hM rfl
  unfold State.settleCommit
  try dsimp only
  repeat' (first | (with_reducible exact Keep.refl _ _) | (with_reducible assumption) | (with_reducible apply State.rootDecide_keep m0) | (with_reducible apply State.ackUp_keep m1) | (intro) | (with_reducible apply Keep.ite) | split | dsimp only | (with_reducible refine Keep.snd (by with_reducible assumption) ?_))

theorem State.answered_keep {M : Nat} {z0 : State} (hM : M &&& 0x88000 = 0x88000) (p : PhaseSt) (s : State) (hk : Keep M z0 s) : Keep M z0 (State.answered p s) := by
  refine hk.trans ?_
  have m0 : M &&& 0x88000 = 0x88000 := Keep.sub hM rfl
  unfold State.answered
  try dsimp only
  repeat' (first | (with_reducible exact Keep.refl _ _) | (with_reducible apply State.setRestStatus_keep m0) | (with_reducible apply State.setOpenStatus_keep m0) | (with_reducible apply Keep.ite) | split | (with_reducible refine Keep.snd (by with_reducible assumption) ?_))

theorem State.settleReady_keep {M : Nat} {z0 : State} (hM : M &&& 0x6EBF78 = 0x6EBF78) (s : State) (hk : Keep M z0 s) : Keep M z0 (State.settleReady s) := by
  refine hk.trans ?_
  have m0 : M &&& 0x88000 = 0x88000 := Keep.sub hM rfl
  have m1 : M &&& 0x4C8C00 = 0x4C8C00 := Keep.sub hM rfl
  have m2 : M &&& 0x4C8400 = 0x4C8400 := Keep.sub hM rfl
  have m3 : M &&& 0x2EBF78 = 0x2EBF78 := Keep.sub hM rfl
  have m4 : M &&& 0xC8C00 = 0xC8C00 := Keep.sub hM rfl
  unfold State.settleReady
  try dsimp only
  repeat' (first | (with_reducible exact Keep.refl _ _) | (with_reducible assumption) | (with_reducible apply State.answered_keep m0) | (with_reducible apply State.settleCommit_keep m1) | (with_reducible apply State.rootDecide_keep m2) | (with_reducible apply State.commitPhase_keep m3) | (with_reducible apply State.ackUp_keep m4) | (with_reducible apply State.setRestStatus_keep m0) | (with_reducible apply State.setOpenStatus_keep m0) | (intro) | (with_reducible apply Keep.ite) | split | dsimp only | (with_reducible refine Keep.snd (by with_reducible assumption) ?_))

theorem State.runInstall_keep {M : Nat} {z0 : State} (hM : M &&& 0xAEBE48 = 0xAEBE48) (s : State) (hk : Keep M z0 s) : Keep M z0 (State.runInstall s) := by
  refine hk.trans ?_
  have m0 : M &&& 0xAEBE48 = 0xAEBE48 := Keep.sub hM rfl
  have m1 : M &&& 0xC8000 = 0xC8000 := Keep.sub hM rfl
  have m2 : M &&& 0x88000 = 0x88000 := Keep.sub hM rfl
  unfold State.runInstall
  try dsimp only
  repeat' (first | (with_reducible exact Keep.refl _ _) | (with_reducible apply State.installShards_keep m0) | (with_reducible apply State.setOwn_keep m1) | (with_reducible apply State.setRestStatus_keep m2) | (with_reducible apply Keep.ite) | split | dsimp only | (with_reducible refine Keep.snd (by with_reducible assumption) ?_))

theorem State.sendInstall_keep {M : Nat} {z0 : State} (hM : M &&& 0xEEBF78 = 0xEEBF78) (base target : U32) (v : List (U32 × Int)) (s : State) (hk : Keep M z0 s) : Keep M z0 (State.sendInstall base target v s) := by
  refine hk.trans ?_
  have m0 : M &&& 0xAEBE48 = 0xAEBE48 := Keep.sub hM rfl
  have m1 : M &&& 0x6EBF78 = 0x6EBF78 := Keep.sub hM rfl
  have m2 : M &&& 0xC8C00 = 0xC8C00 := Keep.sub hM rfl
  have m3 : M &&& 0xC0C00 = 0xC0C00 := Keep.sub hM rfl
  have b_job : M.testBit 15 = true := Keep.bit hM rfl
  unfold State.sendInstall
  try dsimp only
  repeat' (first | (with_reducible exact Keep.refl _ _) | (with_reducible assumption) | (fail_if_no_progress (with_reducible apply Keep.upd_job b_job)) | (with_reducible apply State.runInstall_keep m0) | (with_reducible apply State.settleReady_keep m1) | (with_reducible apply State.beginPhase_keep m2) | (with_reducible apply State.sendSegs_keep m3) | (with_reducible apply Keep.foldl) | (with_reducible apply Keep.foldl2) | (with_reducible apply Keep.foldl3) | (intro) | dsimp only)

theorem State.noVector_keep {M : Nat} {z0 : State} (hM : M &&& 0xC8000 = 0xC8000) (cmd : U8) (s : State) (hk : Keep M z0 s) : Keep M z0 (State.noVector cmd s) := by
  refine hk.trans ?_
  have m0 : M &&& 0xC0000 = 0xC0000 := Keep.sub hM rfl
  have b_job : M.testBit 15 = true := Keep.bit hM rfl
  unfold State.noVector
  try dsimp only
  repeat' (first | (with_reducible exact Keep.refl _ _) | (fail_if_no_progress (with_reducible apply Keep.upd_job b_job)) | (with_reducible apply State.openRefused_keep m0))

theorem State.chooseTarget_keep {M : Nat} {z0 : State} (hM : M &&& 0xEEBF78 = 0xEEBF78) (mask : U64) (s : State) (hk : Keep M z0 s) : Keep M z0 (State.chooseTarget mask s) := by
  refine hk.trans ?_
  have m0 : M &&& 0xC8000 = 0xC8000 := Keep.sub hM rfl
  have m1 : M &&& 0xEEBF78 = 0xEEBF78 := Keep.sub hM rfl
  have m2 : M &&& 0x88000 = 0x88000 := Keep.sub hM rfl
  have m3 : M &&& 0xC0000 = 0xC0000 := Keep.sub hM rfl
  have b_job : M.testBit 15 = true := Keep.bit hM rfl
  unfold State.chooseTarget
  try dsimp only
  repeat' (first | (with_reducible exact Keep.refl _ _) | (fail_if_no_progress (with_reducible apply Keep.upd_job b_job)) | (with_reducible apply State.noVector_keep m0) | (with_reducible apply State.sendInstall_keep m1) | (with_reducible apply State.setRestStatus_keep m2) | (with_reducible apply State.record_keep m3) | split | (with_reducible refine Keep.snd (by with_reducible assumption) ?_))

theorem State.settleSurvey_keep {M : Nat} {z0 : State} (hM : M &&& 0xEEBF78 = 0xEEBF78) (s : State) (hk : Keep M z0 s) : Keep M z0 (State.settleSurvey s) := by
  refine hk.trans ?_
  have m0 : M &&& 0xEEBF78 = 0xEEBF78 := Keep.sub hM rfl
  have m1 : M &&& 0x4C8400 = 0x4C8400 := Keep.sub hM rfl
  have m2 : M &&& 0xC8C00 = 0xC8C00 := Keep.sub hM rfl
  unfold State.settleSurvey
  try dsimp only
  repeat' (first | (with_reducible exact Keep.refl _ _) | (with_reducible assumption) | (with_reducible apply State.chooseTarget_keep m0) | (with_reducible apply State.rootDecide_keep m1) | (with_reducible apply State.ackUp_keep m2) | (intro) | (with_reducible apply Keep.ite) | split | dsimp only | (with_reducible refine Keep.snd (by with_reducible assumption) ?_))

theorem State.settle_keep {M : Nat} {z0 : State} (hM : M &&& 0xEEBF78 = 0xEEBF78) (s : State) (hk : Keep M z0 s) : Keep M z0 (State.settle s) := by
  refine hk.trans ?_
  have m0 : M &&& 0xEEBF78 = 0xEEBF78 := Keep.sub hM rfl
  have m1 : M &&& 0x6EBF78 = 0x6EBF78 := Keep.sub hM rfl
  have m2 : M &&& 0x4C8C00 = 0x4C8C00 := Keep.sub hM rfl
  unfold State.settle
  try dsimp only
  repeat' (first | (with_reducible exact Keep.refl _ _) | (with_reducible apply State.settleSurvey_keep m0) | (with_reducible apply State.settleReady_keep m1) | (with_reducible apply State.settleCommit_keep m2) | split | (with_reducible refine Keep.snd (by with_reducible assumption) ?_))

theorem State.finishSurvey_keep {M : Nat} {z0 : State} (hM : M &&& 0xC8000 = 0xC8000) (s : State) (hk : Keep M z0 s) : Keep M z0 (State.finishSurvey s) := by
  refine hk.trans ?_
  have m0 : M &&& 0xC8000 = 0xC8000 := Keep.sub hM rfl
  have m1 : M &&& 0x8000 = 0x8000 := Keep.sub hM rfl
  have b_job : M.testBit 15 = true := Keep.bit hM rfl
  unfold State.finishSurvey
  try dsimp only
  repeat' (first | (with_reducible exact Keep.refl _ _) | (with_reducible assumption) | (fail_if_no_progress (with_reducible apply Keep.upd_job b_job)) | (with_reducible apply State.shardMask_keep m0) | (with_reducible apply State.setOwn_keep m0) | (with_reducible apply State.setPhase_keep m1) | (with_reducible apply Keep.foldl) | (with_reducible apply Keep.foldl2) | (with_reducible apply Keep.foldl3) | (intro) | split | dsimp only | (with_reducible refine Keep.snd (by with_reducible assumption) ?_))

theorem State.trySurvey_keep {M : Nat} {z0 : State} (hM : M &&& 0xC8000 = 0xC8000) (s : State) (hk : Keep M z0 s) : Keep M z0 (State.trySurvey s) := by
  refine hk.trans ?_
  have m0 : M &&& 0xC8000 = 0xC8000 := Keep.sub hM rfl
  unfold State.trySurvey
  try dsimp only
  repeat' (first | (with_reducible exact Keep.refl _ _) | (with_reducible apply State.finishSurvey_keep m0) | (with_reducible apply Keep.ite) | split)

theorem State.runSurvey_keep {M : Nat} {z0 : State} (hM : M &&& 0xAEBFF8 = 0xAEBFF8) (base : U32) (s : State) (hk : Keep M z0 s) : Keep M z0 (State.runSurvey base s) := by
  refine hk.trans ?_
  have m0 : M &&& 0xC8000 = 0xC8000 := Keep.sub hM rfl
  have m1 : M &&& 0xAEBFF8 = 0xAEBFF8 := Keep.sub hM rfl
  have m2 : M &&& 0xC8C00 = 0xC8C00 := Keep.sub hM rfl
  have m3 : M &&& 0x88000 = 0x88000 := Keep.sub hM rfl
  have b_job : M.testBit 15 = true := Keep.bit hM rfl
  unfold State.runSurvey
  try dsimp only
  repeat' (first | (with_reducible exact Keep.refl _ _) | (with_reducible assumption) | (fail_if_no_progress (with_reducible apply Keep.upd_job b_job)) | (with_reducible apply State.trySurvey_keep m0) | (with_reducible apply State.endActivity_keep m1) | (with_reducible apply State.startGet_keep m2) | (with_reducible apply State.sendReaches_keep m2) | (with_reducible apply State.setRestStatus_keep m3) | (with_reducible apply Keep.foldl) | (with_reducible apply Keep.foldl2) | (with_reducible apply Keep.foldl3) | (intro) | (with_reducible apply Keep.ite) | split | dsimp only)

theorem State.sendAhead_keep {M : Nat} {z0 : State} (hM : M &&& 0x2EBE48 = 0x2EBE48) (e : TensorEntry) (s : State) (hk : Keep M z0 s) : Keep M z0 (State.sendAhead e s) := by
  refine hk.trans ?_
  have m0 : M &&& 0x2E3E48 = 0x2E3E48 := Keep.sub hM rfl
  have b_job : M.testBit 15 = true := Keep.bit hM rfl
  unfold State.sendAhead
  try dsimp only
  repeat' (first | (with_reducible exact Keep.refl _ _) | (with_reducible assumption) | (fail_if_no_progress (with_reducible apply Keep.upd_job b_job)) | (with_reducible apply State.sendMirror_keep m0) | (with_reducible apply Keep.foldl) | (with_reducible apply Keep.foldl2) | (with_reducible apply Keep.foldl3) | (intro) | (with_reducible apply Keep.ite) | split | dsimp only)

theorem State.finishShard_keep {M : Nat} {z0 : State} (hM : M &&& 0x2EBE48 = 0x2EBE48) (target : U32) (x : TensorEntry × (U8 × U16 × U32)) (s : State) (hk : Keep M z0 s) : Keep M z0 (State.finishShard target x s) := by
  refine hk.trans ?_
  have m0 : M &&& 0x2EBE48 = 0x2EBE48 := Keep.sub hM rfl
  have m1 : M &&& 0x2E3248 = 0x2E3248 := Keep.sub hM rfl
  have m2 : M &&& 0x40 = 0x40 := Keep.sub hM rfl
  have b_part : M.testBit 12 = true := Keep.bit hM rfl
  unfold State.finishShard
  try dsimp only
  repeat' (first | (with_reducible exact Keep.refl _ _) | (with_reducible assumption) | (fail_if_no_progress (with_reducible apply Keep.upd_part b_part)) | (with_reducible apply State.sendAhead_keep m0) | (with_reducible apply State.levelPairs_keep m1) | (with_reducible apply State.setEntry_keep m2) | (intro) | (with_reducible apply Keep.ite) | split | dsimp only)

theorem State.completeInstall_keep {M : Nat} {z0 : State} (hM : M &&& 0x2EBF78 = 0x2EBF78) (s : State) (hk : Keep M z0 s) : Keep M z0 (State.completeInstall s) := by
  refine hk.trans ?_
  have m0 : M &&& 0x2EBE48 = 0x2EBE48 := Keep.sub hM rfl
  have m1 : M &&& 0x8060 = 0x8060 := Keep.sub hM rfl
  have m2 : M &&& 0xC1170 = 0xC1170 := Keep.sub hM rfl
  have m3 : M &&& 0xC2248 = 0xC2248 := Keep.sub hM rfl
  have b_job : M.testBit 15 = true := Keep.bit hM rfl
  have b_fence : M.testBit 4 = true := Keep.bit hM rfl
  have b_adj : M.testBit 13 = true := Keep.bit hM rfl
  have b_upd : M.testBit 6 = true := Keep.bit hM rfl
  have b_part : M.testBit 12 = true := Keep.bit hM rfl
  unfold State.completeInstall
  extract_lets target s1 n s2 s3 keep
  have h1 : Keep M s s1 := by
    apply Keep.foldl (Keep.refl _ _)
    intro x a
    apply State.finishShard_keep m0; exact Keep.refl _ _
  have h2 : Keep M s s2 := by apply State.abandonCuts_keep m3; exact h1
  have h3 : Keep M s s3 := by
    apply State.installSegs_keep m1
    apply State.forgetAbove_keep m2; exact h2
  clear_value s3 n
  refine h3.trans ?_
  refine ⟨rfl, rfl, id, le_refl _, ?_, ?_, ?_, ?_, ?_, ?_, ?_, ?_, ?_, ?_, ?_, ?_, ?_, ?_, ?_, ?_, ?_, ?_, ?_, ?_, ?_, ?_⟩
  all_goals (first | exact fun b => absurd (b.symm.trans (Keep.bit hM rfl)) (by decide) | exact fun _ => rfl)

theorem State.releaseCircuits_keep {M : Nat} {z0 : State} (hM : M &&& 0xC00 = 0xC00) (s : State) (hk : Keep M z0 s) : Keep M z0 (State.releaseCircuits s) := by
  refine hk.trans ?_
  have m0 : M &&& 0xC00 = 0xC00 := Keep.sub hM rfl
  have m1 : M &&& 0x800 = 0x800 := Keep.sub hM rfl
  unfold State.releaseCircuits
  try dsimp only
  repeat' (first | (with_reducible exact Keep.refl _ _) | (with_reducible assumption) | (with_reducible apply State.beginDrain_keep m0) | (with_reducible apply State.setCircuit_keep m1) | (with_reducible apply Keep.foldl) | (with_reducible apply Keep.foldl2) | (with_reducible apply Keep.foldl3) | (intro) | (with_reducible apply Keep.ite) | split | dsimp only)

theorem State.abandonAll_keep {M : Nat} {z0 : State} (hM : M &&& 0xAC6E48 = 0xAC6E48) (s : State) (hk : Keep M z0 s) : Keep M z0 (State.abandonAll s) := by
  refine hk.trans ?_
  have m0 : M &&& 0xC4C00 = 0xC4C00 := Keep.sub hM rfl
  have m1 : M &&& 0xC2248 = 0xC2248 := Keep.sub hM rfl
  have m2 : M &&& 0x200000 = 0x200000 := Keep.sub hM rfl
  have m3 : M &&& 0x800000 = 0x800000 := Keep.sub hM rfl
  have b_adj : M.testBit 13 = true := Keep.bit hM rfl
  unfold State.abandonAll
  try dsimp only
  repeat' (first | (with_reducible exact Keep.refl _ _) | (with_reducible assumption) | (fail_if_no_progress (with_reducible apply Keep.upd_adj b_adj)) | (with_reducible apply State.resumeDevice_keep m0) | (with_reducible apply State.abandonCuts_keep m1) | (with_reducible apply State.release_keep m2) | (with_reducible apply State.free_keep m3) | (with_reducible apply Keep.ite) | split | dsimp only | (with_reducible refine Keep.snd (by with_reducible assumption) ?_))

theorem State.startResign_keep {M : Nat} {z0 : State} (hM : M &&& 0xAEFFF8 = 0xAEFFF8) (s : State) (hk : Keep M z0 s) : Keep M z0 (State.startResign s) := by
  refine hk.trans ?_
  have m0 : M &&& 0xAC6E48 = 0xAC6E48 := Keep.sub hM rfl
  have m1 : M &&& 0xC00 = 0xC00 := Keep.sub hM rfl
  have m2 : M &&& 0xAEBFF8 = 0xAEBFF8 := Keep.sub hM rfl
  have m3 : M &&& 0x802000 = 0x802000 := Keep.sub hM rfl
  have m4 : M &&& 0x88000 = 0x88000 := Keep.sub hM rfl
  have m5 : M &&& 0xC0000 = 0xC0000 := Keep.sub hM rfl
  have b_adj : M.testBit 13 = true := Keep.bit hM rfl
  have b_job : M.testBit 15 = true := Keep.bit hM rfl
  unfold State.startResign
  try dsimp only
  repeat' (first | (with_reducible exact Keep.refl _ _) | (with_reducible assumption) | (fail_if_no_progress (with_reducible apply Keep.upd_adj b_adj)) | (fail_if_no_progress (with_reducible apply Keep.upd_job b_job)) | (fail_if_no_progress ((with_reducible refine Keep.updAll ?_ ?_ ?_ ?_ ?_ ?_ ?_ ?_ ?_ ?_ ?_ ?_ ?_ ?_ ?_ ?_ ?_ ?_ ?_ ?_ ?_ ?_ ?_ ?_ ?_ ?_); iterate 25 (first | (with_reducible rfl) | (with_reducible exact fun _ => rfl) | (exact fun b => absurd (b.symm.trans (Keep.bit hM rfl)) (by decide))))) | (with_reducible apply State.abandonAll_keep m0) | (with_reducible apply State.releaseCircuits_keep m1) | (with_reducible apply State.endActivity_keep m2) | (with_reducible apply State.freePoints_keep m3) | (with_reducible apply State.setDev_keep m4) | (with_reducible apply State.record_keep m5) | (with_reducible apply Keep.ite) | split | dsimp only)

theorem State.detRefuse_keep {M : Nat} {z0 : State} (hM : M &&& 0x10000 = 0x10000) (s : State) (hk : Keep M z0 s) : Keep M z0 (State.detRefuse s) := by
  refine hk.trans ?_
  have b_det : M.testBit 16 = true := Keep.bit hM rfl
  unfold State.detRefuse
  try dsimp only
  repeat' (first | (with_reducible exact Keep.refl _ _) | (fail_if_no_progress (with_reducible apply Keep.upd_det b_det)))

theorem State.disableToward_keep {M : Nat} {z0 : State} (hM : M &&& 0x400 = 0x400) (pos : U32) (s : State) (hk : Keep M z0 s) : Keep M z0 (State.disableToward pos s) := by
  refine hk.trans ?_
  have m0 : M &&& 0x400 = 0x400 := Keep.sub hM rfl
  unfold State.disableToward
  try dsimp only
  repeat' (first | (with_reducible exact Keep.refl _ _) | (with_reducible assumption) | (with_reducible apply State.setPort_keep m0) | (with_reducible apply Keep.foldl) | (with_reducible apply Keep.foldl2) | (with_reducible apply Keep.foldl3) | (intro) | (with_reducible apply Keep.ite) | split | dsimp only)

theorem State.fencePosition_keep {M : Nat} {z0 : State} (hM : M &&& 0xD1400 = 0xD1400) (pos : U32) (cause : U8) (s : State) (hk : Keep M z0 s) : Keep M z0 (State.fencePosition pos cause s) := by
  refine hk.trans ?_
  have m0 : M &&& 0x400 = 0x400 := Keep.sub hM rfl
  have m1 : M &&& 0xC1000 = 0xC1000 := Keep.sub hM rfl
  have m2 : M &&& 0xC0000 = 0xC0000 := Keep.sub hM rfl
  have b_part : M.testBit 12 = true := Keep.bit hM rfl
  have b_det : M.testBit 16 = true := Keep.bit hM rfl
  unfold State.fencePosition
  try dsimp only
  repeat' (first | (with_reducible exact Keep.refl _ _) | (fail_if_no_progress (with_reducible apply Keep.upd_det b_det)) | (fail_if_no_progress (with_reducible apply Keep.upd_part b_part)) | (fail_if_no_progress ((with_reducible refine Keep.updAll ?_ ?_ ?_ ?_ ?_ ?_ ?_ ?_ ?_ ?_ ?_ ?_ ?_ ?_ ?_ ?_ ?_ ?_ ?_ ?_ ?_ ?_ ?_ ?_ ?_ ?_); iterate 25 (first | (with_reducible rfl) | (with_reducible exact fun _ => rfl) | (exact fun b => absurd (b.symm.trans (Keep.bit hM rfl)) (by decide))))) | (with_reducible apply State.disableToward_keep m0) | (with_reducible apply State.noteNoPartner_keep m1) | (with_reducible apply State.record_keep m2) | (with_reducible apply Keep.ite) | split)

theorem State.enterFenced_keep {M : Nat} {z0 : State} (hM : M &&& 0x88000 = 0x88000) (s : State) (hk : Keep M z0 s) : Keep M z0 (State.enterFenced s) := by
  refine hk.trans ?_
  have m0 : M &&& 0x88000 = 0x88000 := Keep.sub hM rfl
  have b_job : M.testBit 15 = true := Keep.bit hM rfl
  unfold State.enterFenced
  try dsimp only
  repeat' (first | (with_reducible exact Keep.refl _ _) | (fail_if_no_progress (with_reducible apply Keep.upd_job b_job)) | (with_reducible apply State.setDev_keep m0))

theorem State.selfFence_keep {M : Nat} {z0 : State} (hM : M &&& 0xC8000 = 0xC8000) (s : State) (hk : Keep M z0 s) : Keep M z0 (State.selfFence s) := by
  refine hk.trans ?_
  have m0 : M &&& 0x88000 = 0x88000 := Keep.sub hM rfl
  have m1 : M &&& 0xC0000 = 0xC0000 := Keep.sub hM rfl
  unfold State.selfFence
  try dsimp only
  repeat' (first | (with_reducible exact Keep.refl _ _) | (with_reducible apply State.enterFenced_keep m0) | (with_reducible apply State.record_keep m1))

theorem State.passDeclare_keep {M : Nat} {z0 : State} (hM : M &&& 0xC0C00 = 0xC0C00) (pos : U32) (cause : U8) (by_ : U32) (s : State) (hk : Keep M z0 s) : Keep M z0 (State.passDeclare pos cause by_ s) := by
  refine hk.trans ?_
  have m0 : M &&& 0xC0C00 = 0xC0C00 := Keep.sub hM rfl
  unfold State.passDeclare
  try dsimp only
  repeat' (first | (with_reducible exact Keep.refl _ _) | (with_reducible assumption) | (with_reducible apply State.sendFence_keep m0) | (with_reducible apply Keep.foldl) | (with_reducible apply Keep.foldl2) | (with_reducible apply Keep.foldl3) | (intro) | dsimp only)

theorem State.flagFall_keep {M : Nat} {z0 : State} (hM : M &&& 0xD9C00 = 0xD9C00) (pos : U32) (cause : U8) (watchers : Nat) (s : State) (hk : Keep M z0 s) : Keep M z0 (State.flagFall pos cause watchers s) := by
  refine hk.trans ?_
  have m0 : M &&& 0xC0C00 = 0xC0C00 := Keep.sub hM rfl
  have m1 : M &&& 0xC8000 = 0xC8000 := Keep.sub hM rfl
  have m2 : M &&& 0xD1400 = 0xD1400 := Keep.sub hM rfl
  have m3 : M &&& 0xC0000 = 0xC0000 := Keep.sub hM rfl
  have b_det : M.testBit 16 = true := Keep.bit hM rfl
  unfold State.flagFall
  try dsimp only
  repeat' (first | (with_reducible exact Keep.refl _ _) | (with_reducible assumption) | (fail_if_no_progress (with_reducible apply Keep.upd_det b_det)) | (with_reducible apply State.passDeclare_keep m0) | (with_reducible apply State.selfFence_keep m1) | (with_reducible apply State.fencePosition_keep m2) | (with_reducible apply State.sendFence_keep m0) | (with_reducible apply State.record_keep m3) | (with_reducible apply Keep.foldl) | (with_reducible apply Keep.foldl2) | (with_reducible apply Keep.foldl3) | (intro) | (with_reducible apply Keep.ite) | split | dsimp only)

theorem State.settleInstall_keep {M : Nat} {z0 : State} (hM : M &&& 0x4D8C00 = 0x4D8C00) (s : State) (hk : Keep M z0 s) : Keep M z0 (State.settleInstall s) := by
  refine hk.trans ?_
  have m0 : M &&& 0x4C0400 = 0x4C0400 := Keep.sub hM rfl
  have m1 : M &&& 0xC0C00 = 0xC0C00 := Keep.sub hM rfl
  have b_job : M.testBit 15 = true := Keep.bit hM rfl
  have b_det : M.testBit 16 = true := Keep.bit hM rfl
  unfold State.settleInstall
  try dsimp only
  repeat' (first | (with_reducible exact Keep.refl _ _) | (fail_if_no_progress (with_reducible apply Keep.upd_det b_det)) | (fail_if_no_progress (with_reducible apply Keep.upd_job b_job)) | (fail_if_no_progress ((with_reducible refine Keep.updAll ?_ ?_ ?_ ?_ ?_ ?_ ?_ ?_ ?_ ?_ ?_ ?_ ?_ ?_ ?_ ?_ ?_ ?_ ?_ ?_ ?_ ?_ ?_ ?_ ?_ ?_); iterate 25 (first | (with_reducible rfl) | (with_reducible exact fun _ => rfl) | (exact fun b => absurd (b.symm.trans (Keep.bit hM rfl)) (by decide))))) | (with_reducible apply State.missing_keep m0) | (with_reducible apply State.sendFence_keep m1) | (with_reducible apply Keep.ite) | split | (with_reducible refine Keep.snd (by with_reducible assumption) ?_))

theorem State.sendInstallTo_keep {M : Nat} {z0 : State} (hM : M &&& 0xC0C00 = 0xC0C00) (dst : U32) (e : U32) (l : List U32) (s : State) (hk : Keep M z0 s) : Keep M z0 (State.sendInstallTo dst e l s) := by
  refine hk.trans ?_
  have m0 : M &&& 0xC0C00 = 0xC0C00 := Keep.sub hM rfl
  unfold State.sendInstallTo
  try dsimp only
  repeat' (first | (with_reducible exact Keep.refl _ _) | (with_reducible apply State.sendFence_keep m0))

theorem State.installChildMissing_keep {M : Nat} {z0 : State} (hM : M &&& 0x4D8C00 = 0x4D8C00) (cn : U32) (s : State) (hk : Keep M z0 s) : Keep M z0 (State.installChildMissing cn s) := by
  refine hk.trans ?_
  have m0 : M &&& 0xC0C00 = 0xC0C00 := Keep.sub hM rfl
  have m1 : M &&& 0x4D8C00 = 0x4D8C00 := Keep.sub hM rfl
  have m2 : M &&& 0x4C0400 = 0x4C0400 := Keep.sub hM rfl
  have m3 : M &&& 0xC0000 = 0xC0000 := Keep.sub hM rfl
  have b_job : M.testBit 15 = true := Keep.bit hM rfl
  have b_det : M.testBit 16 = true := Keep.bit hM rfl
  unfold State.installChildMissing
  try dsimp only
  repeat' (first | (with_reducible exact Keep.refl _ _) | (with_reducible assumption) | (fail_if_no_progress (with_reducible apply Keep.upd_det b_det)) | (fail_if_no_progress (with_reducible apply Keep.upd_job b_job)) | (fail_if_no_progress ((with_reducible refine Keep.updAll ?_ ?_ ?_ ?_ ?_ ?_ ?_ ?_ ?_ ?_ ?_ ?_ ?_ ?_ ?_ ?_ ?_ ?_ ?_ ?_ ?_ ?_ ?_ ?_ ?_ ?_); iterate 25 (first | (with_reducible rfl) | (with_reducible exact fun _ => rfl) | (exact fun b => absurd (b.symm.trans (Keep.bit hM rfl)) (by decide))))) | (with_reducible apply State.sendInstallTo_keep m0) | (with_reducible apply State.settleInstall_keep m1) | (with_reducible apply State.missing_keep m2) | (with_reducible apply State.record_keep m3) | (with_reducible apply Keep.foldl) | (with_reducible apply Keep.foldl2) | (with_reducible apply Keep.foldl3) | (intro) | (with_reducible apply Keep.ite) | split | dsimp only | (with_reducible refine Keep.snd (by with_reducible assumption) ?_))

theorem State.mergeFences_keep {M : Nat} {z0 : State} (hM : M &&& 0xD1400 = 0xD1400) (l : List U32) (s : State) (hk : Keep M z0 s) : Keep M z0 (State.mergeFences l s) := by
  refine hk.trans ?_
  have m0 : M &&& 0xD1400 = 0xD1400 := Keep.sub hM rfl
  unfold State.mergeFences
  try dsimp only
  repeat' (first | (with_reducible exact Keep.refl _ _) | (with_reducible assumption) | (with_reducible apply State.fencePosition_keep m0) | (with_reducible apply Keep.foldl) | (with_reducible apply Keep.foldl2) | (with_reducible apply Keep.foldl3) | (intro) | (with_reducible apply Keep.ite) | split | dsimp only)

theorem State.rePair_keep {M : Nat} {z0 : State} (hM : M &&& 0xC1C00 = 0xC1C00) (old : List (U32 × U32)) (s : State) (hk : Keep M z0 s) : Keep M z0 (State.rePair old s) := by
  refine hk.trans ?_
  have m0 : M &&& 0xC1C00 = 0xC1C00 := Keep.sub hM rfl
  have b_part : M.testBit 12 = true := Keep.bit hM rfl
  unfold State.rePair
  try dsimp only
  repeat' (first | (with_reducible exact Keep.refl _ _) | (with_reducible assumption) | (fail_if_no_progress (with_reducible apply Keep.upd_part b_part)) | (with_reducible apply State.sendPairReq_keep m0) | (with_reducible apply Keep.ite) | split | dsimp only)

theorem State.clearPerEpoch_keep {M : Nat} {z0 : State} (hM : M &&& 0x11810 = 0x11810) (s : State) (hk : Keep M z0 s) : Keep M z0 (State.clearPerEpoch s) := by
  refine hk.trans ?_
  have b_det : M.testBit 16 = true := Keep.bit hM rfl
  have b_route : M.testBit 11 = true := Keep.bit hM rfl
  have b_part : M.testBit 12 = true := Keep.bit hM rfl
  have b_fence : M.testBit 4 = true := Keep.bit hM rfl
  unfold State.clearPerEpoch
  try dsimp only
  repeat' (first | (with_reducible exact Keep.refl _ _) | (fail_if_no_progress (with_reducible apply Keep.upd_det b_det)) | (fail_if_no_progress (with_reducible apply Keep.upd_fence b_fence)) | (fail_if_no_progress (with_reducible apply Keep.upd_part b_part)) | (fail_if_no_progress (with_reducible apply Keep.upd_route b_route)) | (fail_if_no_progress ((with_reducible refine Keep.updAll ?_ ?_ ?_ ?_ ?_ ?_ ?_ ?_ ?_ ?_ ?_ ?_ ?_ ?_ ?_ ?_ ?_ ?_ ?_ ?_ ?_ ?_ ?_ ?_ ?_ ?_); iterate 25 (first | (with_reducible rfl) | (with_reducible exact fun _ => rfl) | (exact fun b => absurd (b.symm.trans (Keep.bit hM rfl)) (by decide))))))

theorem State.swapAtEpoch_keep {M : Nat} {z0 : State} (hM : M &&& 0xD2F78 = 0xD2F78) (e : U32) (s : State) (hk : Keep M z0 s) : Keep M z0 (State.swapAtEpoch e s) := by
  refine hk.trans ?_
  have m0 : M &&& 0xD0800 = 0xD0800 := Keep.sub hM rfl
  have m1 : M &&& 0xC2F58 = 0xC2F58 := Keep.sub hM rfl
  have b_red : M.testBit 5 = true := Keep.bit hM rfl
  have b_upd : M.testBit 6 = true := Keep.bit hM rfl
  unfold State.swapAtEpoch
  try dsimp only
  repeat' (first | (with_reducible exact Keep.refl _ _) | (with_reducible assumption) | (fail_if_no_progress (with_reducible apply Keep.upd_red b_red)) | (fail_if_no_progress (with_reducible apply Keep.upd_upd b_upd)) | (fail_if_no_progress ((with_reducible refine Keep.updAll ?_ ?_ ?_ ?_ ?_ ?_ ?_ ?_ ?_ ?_ ?_ ?_ ?_ ?_ ?_ ?_ ?_ ?_ ?_ ?_ ?_ ?_ ?_ ?_ ?_ ?_); iterate 25 (first | (with_reducible rfl) | (with_reducible exact fun _ => rfl) | (exact fun b => absurd (b.symm.trans (Keep.bit hM rfl)) (by decide))))) | (with_reducible apply State.swapBanks_keep m0) | (with_reducible apply State.quarantine_keep m1) | (with_reducible apply Keep.ite) | split | dsimp only | (with_reducible refine Keep.snd (by with_reducible assumption) ?_))

theorem State.installEpoch_keep {M : Nat} {z0 : State} (hM : M &&& 0xEFBFF8 = 0xEFBFF8) (e : U32) (l : List U32) (sender : Option U32) (s : State) (hk : Keep M z0 s) : Keep M z0 (State.installEpoch e l sender s) := by
  refine hk.trans ?_
  have m0 : M &&& 0xD2F78 = 0xD2F78 := Keep.sub hM rfl
  have m1 : M &&& 0x11810 = 0x11810 := Keep.sub hM rfl
  have m2 : M &&& 0xC1C00 = 0xC1C00 := Keep.sub hM rfl
  have m3 : M &&& 0xD1400 = 0xD1400 := Keep.sub hM rfl
  have m4 : M &&& 0xC0C00 = 0xC0C00 := Keep.sub hM rfl
  have m5 : M &&& 0x4D8C00 = 0x4D8C00 := Keep.sub hM rfl
  have m6 : M &&& 0xAEBFF8 = 0xAEBFF8 := Keep.sub hM rfl
  have m7 : M &&& 0x20020 = 0x20020 := Keep.sub hM rfl
  have m8 : M &&& 0xC0000 = 0xC0000 := Keep.sub hM rfl
  have m9 : M &&& 0x80000 = 0x80000 := Keep.sub hM rfl
  have b_job : M.testBit 15 = true := Keep.bit hM rfl
  have b_det : M.testBit 16 = true := Keep.bit hM rfl
  unfold State.installEpoch
  try dsimp only
  repeat' (first | (with_reducible exact Keep.refl _ _) | (with_reducible assumption) | (fail_if_no_progress (with_reducible apply Keep.upd_det b_det)) | (fail_if_no_progress (with_reducible apply Keep.upd_job b_job)) | (fail_if_no_progress ((with_reducible refine Keep.updAll ?_ ?_ ?_ ?_ ?_ ?_ ?_ ?_ ?_ ?_ ?_ ?_ ?_ ?_ ?_ ?_ ?_ ?_ ?_ ?_ ?_ ?_ ?_ ?_ ?_ ?_); iterate 25 (first | (with_reducible rfl) | (with_reducible exact fun _ => rfl) | (exact fun b => absurd (b.symm.trans (Keep.bit hM rfl)) (by decide))))) | (with_reducible apply State.swapAtEpoch_keep m0) | (with_reducible apply State.clearPerEpoch_keep m1) | (with_reducible apply State.rePair_keep m2) | (with_reducible apply State.mergeFences_keep m3) | (with_reducible apply State.sendInstallTo_keep m4) | (with_reducible apply State.settleInstall_keep m5) | (with_reducible apply State.endActivity_keep m6) | (with_reducible apply State.retireAtEpoch_keep m7) | (with_reducible apply State.applyHeldPartner_keep m2) | (with_reducible apply State.record_keep m8) | (with_reducible apply State.raiseIrq_keep m9) | (with_reducible apply Keep.foldl) | (with_reducible apply Keep.foldl2) | (with_reducible apply Keep.foldl3) | (intro) | dsimp only)

theorem State.refuseClaim_keep {M : Nat} {z0 : State} (hM : M &&& 0xC8000 = 0xC8000) (jt : U16) (why : Nat) (held : U16) (s : State) (hk : Keep M z0 s) : Keep M z0 (State.refuseClaim jt why held s) := by
  refine hk.trans ?_
  have m0 : M &&& 0xC0000 = 0xC0000 := Keep.sub hM rfl
  have b_job : M.testBit 15 = true := Keep.bit hM rfl
  unfold State.refuseClaim
  try dsimp only
  repeat' (first | (with_reducible exact Keep.refl _ _) | (fail_if_no_progress (with_reducible apply Keep.upd_job b_job)) | (with_reducible apply State.record_keep m0))

theorem jobClaim_keep {M : Nat} {z0 : State} (hM : M &&& 0xD9810 = 0xD9810) (bytes : List Byte) (s : State) (hk : Keep M z0 s) : Keep M z0 (jobClaim bytes s) := by
  refine hk.trans ?_
  have m0 : M &&& 0xC8000 = 0xC8000 := Keep.sub hM rfl
  have m1 : M &&& 0x11810 = 0x11810 := Keep.sub hM rfl
  have m2 : M &&& 0x88000 = 0x88000 := Keep.sub hM rfl
  have b_job : M.testBit 15 = true := Keep.bit hM rfl
  unfold jobClaim
  try dsimp only
  repeat' (first | (with_reducible exact Keep.refl _ _) | (fail_if_no_progress (with_reducible apply Keep.upd_job b_job)) | (with_reducible apply State.refuseClaim_keep m0) | (with_reducible apply State.clearPerEpoch_keep m1) | (with_reducible apply State.setOpenStatus_keep m2) | (with_reducible apply State.setDev_keep m2) | (with_reducible apply Keep.ite) | split)

theorem openingTreeWrite_keep {M : Nat} {z0 : State} (hM : M &&& 0xC8000 = 0xC8000) (bytes : List Byte) (s : State) (hk : Keep M z0 s) : Keep M z0 (openingTreeWrite bytes s) := by
  refine hk.trans ?_
  have m0 : M &&& 0xC0000 = 0xC0000 := Keep.sub hM rfl
  have b_job : M.testBit 15 = true := Keep.bit hM rfl
  unfold openingTreeWrite
  try dsimp only
  repeat' (first | (with_reducible exact Keep.refl _ _) | (with_reducible assumption) | (fail_if_no_progress (with_reducible apply Keep.upd_job b_job)) | (with_reducible apply State.record_keep m0) | (with_reducible apply Keep.ite) | split | dsimp only | (with_reducible refine Keep.snd (by with_reducible assumption) ?_))

theorem State.refuseCommand_keep {M : Nat} {z0 : State} (hM : M &&& 0xC8000 = 0xC8000) (cmd : U8) (s : State) (hk : Keep M z0 s) : Keep M z0 (State.refuseCommand cmd s) := by
  refine hk.trans ?_
  have m0 : M &&& 0xC0000 = 0xC0000 := Keep.sub hM rfl
  have b_job : M.testBit 15 = true := Keep.bit hM rfl
  unfold State.refuseCommand
  try dsimp only
  repeat' (first | (with_reducible exact Keep.refl _ _) | (fail_if_no_progress (with_reducible apply Keep.upd_job b_job)) | (with_reducible apply State.openRefused_keep m0))

theorem State.tagRegions_keep {M : Nat} {z0 : State} (hM : M &&& 0x200 = 0x200) (s : State) (hk : Keep M z0 s) : Keep M z0 (State.tagRegions s) := by
  refine hk.trans ?_
  have b_mem : M.testBit 9 = true := Keep.bit hM rfl
  unfold State.tagRegions
  try dsimp only
  repeat' (first | (with_reducible exact Keep.refl _ _) | (with_reducible assumption) | (fail_if_no_progress ((with_reducible refine Keep.upd_memHL b_mem ?_ ?_ ?_); (with_reducible rfl); (with_reducible rfl))) | (with_reducible apply Keep.ite) | split | dsimp only)

theorem State.runPrepare_keep {M : Nat} {z0 : State} (hM : M &&& 0xC8E00 = 0xC8E00) (s : State) (hk : Keep M z0 s) : Keep M z0 (State.runPrepare s) := by
  refine hk.trans ?_
  have m0 : M &&& 0x200 = 0x200 := Keep.sub hM rfl
  have m1 : M &&& 0xC8000 = 0xC8000 := Keep.sub hM rfl
  have m2 : M &&& 0xC0C00 = 0xC0C00 := Keep.sub hM rfl
  have m3 : M &&& 0x88000 = 0x88000 := Keep.sub hM rfl
  unfold State.runPrepare
  try dsimp only
  repeat' (first | (with_reducible exact Keep.refl _ _) | (with_reducible apply State.tagRegions_keep m0) | (with_reducible apply State.setOwn_keep m1) | (with_reducible apply State.sendStreamChecks_keep m2) | (with_reducible apply State.setOpenStatus_keep m3) | (with_reducible apply Keep.ite) | split | (with_reducible refine Keep.snd (by with_reducible assumption) ?_))

theorem openingFresh_keep {M : Nat} {z0 : State} (hM : M &&& 0xEEBF78 = 0xEEBF78) (seq : U32) (s : State) (hk : Keep M z0 s) : Keep M z0 (openingFresh seq s) := by
  refine hk.trans ?_
  have m0 : M &&& 0xC8E00 = 0xC8E00 := Keep.sub hM rfl
  have m1 : M &&& 0xC8000 = 0xC8000 := Keep.sub hM rfl
  have m2 : M &&& 0xEEBF78 = 0xEEBF78 := Keep.sub hM rfl
  have m3 : M &&& 0xC8C00 = 0xC8C00 := Keep.sub hM rfl
  have m4 : M &&& 0xC0C00 = 0xC0C00 := Keep.sub hM rfl
  have b_job : M.testBit 15 = true := Keep.bit hM rfl
  unfold openingFresh
  try dsimp only
  repeat' (first | (with_reducible exact Keep.refl _ _) | (with_reducible assumption) | (fail_if_no_progress (with_reducible apply Keep.upd_job b_job)) | (with_reducible apply State.runPrepare_keep m0) | (with_reducible apply State.refuseCommand_keep m1) | (with_reducible apply State.settle_keep m2) | (with_reducible apply State.beginPhase_keep m3) | (with_reducible apply State.sendSegs_keep m4) | (with_reducible apply Keep.foldl) | (with_reducible apply Keep.foldl2) | (with_reducible apply Keep.foldl3) | (intro) | (with_reducible apply Keep.ite) | split | dsimp only)

theorem openingRestore_keep {M : Nat} {z0 : State} (hM : M &&& 0xEEBFF8 = 0xEEBFF8) (seq : U32) (s : State) (hk : Keep M z0 s) : Keep M z0 (openingRestore seq s) := by
  refine hk.trans ?_
  have m0 : M &&& 0xC8000 = 0xC8000 := Keep.sub hM rfl
  have m1 : M &&& 0xAEBFF8 = 0xAEBFF8 := Keep.sub hM rfl
  have m2 : M &&& 0xEEBF78 = 0xEEBF78 := Keep.sub hM rfl
  have m3 : M &&& 0xC8C00 = 0xC8C00 := Keep.sub hM rfl
  have b_job : M.testBit 15 = true := Keep.bit hM rfl
  unfold openingRestore
  try dsimp only
  repeat' (first | (with_reducible exact Keep.refl _ _) | (fail_if_no_progress (with_reducible apply Keep.upd_job b_job)) | (with_reducible apply State.refuseCommand_keep m0) | (with_reducible apply State.runSurvey_keep m1) | (with_reducible apply State.settle_keep m2) | (with_reducible apply State.beginPhase_keep m3) | (with_reducible apply Keep.ite) | split)

theorem State.resendPhase_keep {M : Nat} {z0 : State} (hM : M &&& 0xEEBF78 = 0xEEBF78) (p : PhaseSt) (t : Trans) (s : State) (hk : Keep M z0 s) : Keep M z0 (State.resendPhase p t s) := by
  refine hk.trans ?_
  have m0 : M &&& 0xC8E00 = 0xC8E00 := Keep.sub hM rfl
  have m1 : M &&& 0xEEBF78 = 0xEEBF78 := Keep.sub hM rfl
  have m2 : M &&& 0xAEBE48 = 0xAEBE48 := Keep.sub hM rfl
  have m3 : M &&& 0xC8000 = 0xC8000 := Keep.sub hM rfl
  have m4 : M &&& 0x8000 = 0x8000 := Keep.sub hM rfl
  have m5 : M &&& 0xC0C00 = 0xC0C00 := Keep.sub hM rfl
  have m6 : M &&& 0x4C0400 = 0x4C0400 := Keep.sub hM rfl
  unfold State.resendPhase
  try dsimp only
  repeat' (first | (with_reducible exact Keep.refl _ _) | (with_reducible apply State.runPrepare_keep m0) | (with_reducible apply State.settle_keep m1) | (with_reducible apply State.runInstall_keep m2) | (with_reducible apply State.setOwn_keep m3) | (with_reducible apply State.setPhase_keep m4) | (with_reducible apply State.sendSegs_keep m5) | (with_reducible apply State.sendPhase_keep m5) | (with_reducible apply State.missing_keep m6) | (with_reducible apply State.send_keep m5) | (with_reducible apply Keep.foldl) | (with_reducible apply Keep.foldl2) | (with_reducible apply Keep.foldl3) | (intro) | (with_reducible apply Keep.ite) | split | (with_reducible refine Keep.snd (by with_reducible assumption) ?_))

theorem openingResend_keep {M : Nat} {z0 : State} (hM : M &&& 0xEEBF78 = 0xEEBF78) (seq : U32) (s : State) (hk : Keep M z0 s) : Keep M z0 (openingResend seq s) := by
  refine hk.trans ?_
  have m0 : M &&& 0xEEBF78 = 0xEEBF78 := Keep.sub hM rfl
  have m1 : M &&& 0xC8000 = 0xC8000 := Keep.sub hM rfl
  unfold openingResend
  try dsimp only
  repeat' (first | (with_reducible exact Keep.refl _ _) | (with_reducible apply State.resendPhase_keep m0) | (with_reducible apply State.refuseCommand_keep m1) | (with_reducible apply Keep.ite) | split | (with_reducible refine Keep.snd (by with_reducible assumption) ?_))

theorem State.readyInstall_keep {M : Nat} {z0 : State} (hM : M &&& 0xAEBFF8 = 0xAEBFF8) (s : State) (hk : Keep M z0 s) : Keep M z0 (State.readyInstall s) := by
  refine hk.trans ?_
  have m0 : M &&& 0x200 = 0x200 := Keep.sub hM rfl
  have m1 : M &&& 0xAEBFF8 = 0xAEBFF8 := Keep.sub hM rfl
  have b_job : M.testBit 15 = true := Keep.bit hM rfl
  unfold State.readyInstall
  try dsimp only
  repeat' (first | (with_reducible exact Keep.refl _ _) | (fail_if_no_progress (with_reducible apply Keep.upd_job b_job)) | (with_reducible apply State.tagRegions_keep m0) | (with_reducible apply State.endActivity_keep m1) | (with_reducible apply Keep.ite) | split)

theorem State.awaitHeads_keep {M : Nat} {z0 : State} (hM : M &&& 0xC8C00 = 0xC8C00) (seq target : U32) (s : State) (hk : Keep M z0 s) : Keep M z0 (State.awaitHeads seq target s) := by
  refine hk.trans ?_
  have m0 : M &&& 0xC8C00 = 0xC8C00 := Keep.sub hM rfl
  have b_job : M.testBit 15 = true := Keep.bit hM rfl
  unfold State.awaitHeads
  try dsimp only
  repeat' (first | (with_reducible exact Keep.refl _ _) | (with_reducible assumption) | (fail_if_no_progress (with_reducible apply Keep.upd_job b_job)) | (with_reducible apply State.startGet_keep m0) | (with_reducible apply Keep.foldl) | (with_reducible apply Keep.foldl2) | (with_reducible apply Keep.foldl3) | (intro) | dsimp only)

theorem State.commandInstall_keep {M : Nat} {z0 : State} (hM : M &&& 0xEEBFF8 = 0xEEBFF8) (seq target : U32) (s : State) (hk : Keep M z0 s) : Keep M z0 (State.commandInstall seq target s) := by
  refine hk.trans ?_
  have m0 : M &&& 0xAEBFF8 = 0xAEBFF8 := Keep.sub hM rfl
  have m1 : M &&& 0xC8000 = 0xC8000 := Keep.sub hM rfl
  have m2 : M &&& 0xEEBF78 = 0xEEBF78 := Keep.sub hM rfl
  have b_job : M.testBit 15 = true := Keep.bit hM rfl
  unfold State.commandInstall
  try dsimp only
  repeat' (first | (with_reducible exact Keep.refl _ _) | (fail_if_no_progress (with_reducible apply Keep.upd_job b_job)) | (with_reducible apply State.readyInstall_keep m0) | (with_reducible apply State.noVector_keep m1) | (with_reducible apply State.sendInstall_keep m2) | (with_reducible apply Keep.ite) | split | (with_reducible refine Keep.snd (by with_reducible assumption) ?_))

theorem State.tryInstall_keep {M : Nat} {z0 : State} (hM : M &&& 0xEEBFF8 = 0xEEBFF8) (s : State) (hk : Keep M z0 s) : Keep M z0 (State.tryInstall s) := by
  refine hk.trans ?_
  have m0 : M &&& 0xEEBFF8 = 0xEEBFF8 := Keep.sub hM rfl
  have m1 : M &&& 0xC8000 = 0xC8000 := Keep.sub hM rfl
  have b_job : M.testBit 15 = true := Keep.bit hM rfl
  unfold State.tryInstall
  try dsimp only
  repeat' (first | (with_reducible exact Keep.refl _ _) | (with_reducible assumption) | (fail_if_no_progress (with_reducible apply Keep.upd_job b_job)) | (with_reducible apply State.commandInstall_keep m0) | (with_reducible apply State.refuseCommand_keep m1) | (with_reducible apply Keep.ite) | split | dsimp only | (with_reducible refine Keep.snd (by with_reducible assumption) ?_))

theorem openingInstallCmd_keep {M : Nat} {z0 : State} (hM : M &&& 0xEEBFF8 = 0xEEBFF8) (seq target : U32) (s : State) (hk : Keep M z0 s) : Keep M z0 (openingInstallCmd seq target s) := by
  refine hk.trans ?_
  have m0 : M &&& 0xEEBFF8 = 0xEEBFF8 := Keep.sub hM rfl
  have m1 : M &&& 0xC8C00 = 0xC8C00 := Keep.sub hM rfl
  have m2 : M &&& 0xC8000 = 0xC8000 := Keep.sub hM rfl
  unfold openingInstallCmd
  try dsimp only
  repeat' (first | (with_reducible exact Keep.refl _ _) | (with_reducible apply State.tryInstall_keep m0) | (with_reducible apply State.commandInstall_keep m0) | (with_reducible apply State.awaitHeads_keep m1) | (with_reducible apply State.refuseCommand_keep m2) | (with_reducible apply Keep.ite) | split)

theorem State.abandonOpening_keep {M : Nat} {z0 : State} (hM : M &&& 0xAEFFF8 = 0xAEFFF8) (s : State) (hk : Keep M z0 s) : Keep M z0 (State.abandonOpening s) := by
  refine hk.trans ?_
  have m0 : M &&& 0xAEFFF8 = 0xAEFFF8 := Keep.sub hM rfl
  have m1 : M &&& 0x88000 = 0x88000 := Keep.sub hM rfl
  have m2 : M &&& 0xC0000 = 0xC0000 := Keep.sub hM rfl
  unfold State.abandonOpening
  try dsimp only
  repeat' (first | (with_reducible exact Keep.refl _ _) | (with_reducible apply State.startResign_keep m0) | (with_reducible apply State.setOpenStatus_keep m1) | (with_reducible apply State.record_keep m2))

theorem State.abandonRestore_keep {M : Nat} {z0 : State} (hM : M &&& 0x88000 = 0x88000) (s : State) (hk : Keep M z0 s) : Keep M z0 (State.abandonRestore s) := by
  refine hk.trans ?_
  have m0 : M &&& 0x88000 = 0x88000 := Keep.sub hM rfl
  have b_job : M.testBit 15 = true := Keep.bit hM rfl
  unfold State.abandonRestore
  try dsimp only
  repeat' (first | (with_reducible exact Keep.refl _ _) | (fail_if_no_progress (with_reducible apply Keep.upd_job b_job)) | (with_reducible apply State.setRestStatus_keep m0))

theorem openingAbandonCmd_keep {M : Nat} {z0 : State} (hM : M &&& 0xEEFFF8 = 0xEEFFF8) (seq : U32) (s : State) (hk : Keep M z0 s) : Keep M z0 (openingAbandonCmd seq s) := by
  refine hk.trans ?_
  have m0 : M &&& 0x88000 = 0x88000 := Keep.sub hM rfl
  have m1 : M &&& 0xAEFFF8 = 0xAEFFF8 := Keep.sub hM rfl
  have m2 : M &&& 0xC8000 = 0xC8000 := Keep.sub hM rfl
  have m3 : M &&& 0xEEBF78 = 0xEEBF78 := Keep.sub hM rfl
  have m4 : M &&& 0xC8C00 = 0xC8C00 := Keep.sub hM rfl
  have m5 : M &&& 0xC0C00 = 0xC0C00 := Keep.sub hM rfl
  have b_job : M.testBit 15 = true := Keep.bit hM rfl
  unfold openingAbandonCmd
  try dsimp only
  repeat' (first | (with_reducible exact Keep.refl _ _) | (with_reducible assumption) | (fail_if_no_progress (with_reducible apply Keep.upd_job b_job)) | (with_reducible apply State.abandonRestore_keep m0) | (with_reducible apply State.abandonOpening_keep m1) | (with_reducible apply State.refuseCommand_keep m2) | (with_reducible apply State.settle_keep m3) | (with_reducible apply State.setOwn_keep m2) | (with_reducible apply State.beginPhase_keep m4) | (with_reducible apply State.sendPhase_keep m5) | (with_reducible apply Keep.foldl) | (with_reducible apply Keep.foldl2) | (with_reducible apply Keep.foldl3) | (intro) | (with_reducible apply Keep.ite) | split | dsimp only)

theorem State.countDup_keep {M : Nat} {z0 : State} (hM : M &&& 0x8000 = 0x8000) (s : State) (hk : Keep M z0 s) : Keep M z0 (State.countDup s) := by
  refine hk.trans ?_
  have b_job : M.testBit 15 = true := Keep.bit hM rfl
  unfold State.countDup
  try dsimp only
  repeat' (first | (with_reducible exact Keep.refl _ _) | (fail_if_no_progress (with_reducible apply Keep.upd_job b_job)))

theorem State.refusePhase_keep {M : Nat} {z0 : State} (hM : M &&& 0xAEBF78 = 0xAEBF78) (ph : OpPhase) (pk : Trans) (s : State) (hk : Keep M z0 s) : Keep M z0 (State.refusePhase ph pk s) := by
  refine hk.trans ?_
  have m0 : M &&& 0xC0000 = 0xC0000 := Keep.sub hM rfl
  have m1 : M &&& 0xAEBF78 = 0xAEBF78 := Keep.sub hM rfl
  have m2 : M &&& 0xC0C00 = 0xC0C00 := Keep.sub hM rfl
  unfold State.refusePhase
  try dsimp only
  repeat' (first | (with_reducible exact Keep.refl _ _) | (with_reducible apply State.openRefused_keep m0) | (with_reducible apply State.seal_keep m1) | (with_reducible apply State.send_keep m2))

theorem State.onPhase_keep {M : Nat} {z0 : State} (hM : M &&& 0xEEBF78 = 0xEEBF78) (ph : OpPhase) (pk : Trans) (go : State → State) (s : State) (hgo : ∀ y0, Keep M y0 (go y0)) (hk : Keep M z0 s) : Keep M z0 (State.onPhase ph pk go s) := by
  refine hk.trans ?_
  have m0 : M &&& 0xAEBF78 = 0xAEBF78 := Keep.sub hM rfl
  have m1 : M &&& 0x8000 = 0x8000 := Keep.sub hM rfl
  have m2 : M &&& 0xEEBF78 = 0xEEBF78 := Keep.sub hM rfl
  have m3 : M &&& 0xC0C00 = 0xC0C00 := Keep.sub hM rfl
  have m4 : M &&& 0xC8C00 = 0xC8C00 := Keep.sub hM rfl
  have b_job : M.testBit 15 = true := Keep.bit hM rfl
  unfold State.onPhase
  try dsimp only
  repeat' (first | (with_reducible exact Keep.refl _ _) | (with_reducible assumption) | (fail_if_no_progress (with_reducible apply Keep.upd_job b_job)) | (with_reducible apply State.refusePhase_keep m0) | (with_reducible apply State.countDup_keep m1) | (with_reducible apply State.settle_keep m2) | (with_reducible apply State.sendAckTo_keep m3) | (with_reducible apply State.beginPhase_keep m4) | (with_reducible apply State.setPhase_keep m1) | (with_reducible apply Keep.trans _ (hgo ..)) | (with_reducible apply Keep.ite) | split | (with_reducible refine Keep.snd (by with_reducible assumption) ?_))

theorem anchorsReceive_keep {M : Nat} {z0 : State} (hM : M &&& 0xC8C00 = 0xC8C00) (pk : Trans) (s : State) (hk : Keep M z0 s) : Keep M z0 (anchorsReceive pk s) := by
  refine hk.trans ?_
  have m0 : M &&& 0x8000 = 0x8000 := Keep.sub hM rfl
  have m1 : M &&& 0xC0C00 = 0xC0C00 := Keep.sub hM rfl
  have m2 : M &&& 0x800 = 0x800 := Keep.sub hM rfl
  have b_job : M.testBit 15 = true := Keep.bit hM rfl
  unfold anchorsReceive
  try dsimp only
  repeat' (first | (with_reducible exact Keep.refl _ _) | (with_reducible assumption) | (fail_if_no_progress (with_reducible apply Keep.upd_job b_job)) | (with_reducible apply State.countDup_keep m0) | (with_reducible apply State.sendPhase_keep m1) | (with_reducible apply State.takePk_keep m2) | (with_reducible apply Keep.foldl) | (with_reducible apply Keep.foldl2) | (with_reducible apply Keep.foldl3) | (intro) | (with_reducible apply Keep.ite) | split | dsimp only)

theorem State.takeDescr_keep {M : Nat} {z0 : State} (hM : M &&& 0x8000 = 0x8000) (pk : Trans) (s : State) (hk : Keep M z0 s) : Keep M z0 (State.takeDescr pk s) := by
  refine hk.trans ?_
  have b_job : M.testBit 15 = true := Keep.bit hM rfl
  unfold State.takeDescr
  try dsimp only
  repeat' (first | (with_reducible exact Keep.refl _ _) | (fail_if_no_progress (with_reducible apply Keep.upd_job b_job)))

theorem prepareReceive_keep {M : Nat} {z0 : State} (hM : M &&& 0xEEBF78 = 0xEEBF78) (pk : Trans) (s : State) (hk : Keep M z0 s) : Keep M z0 (prepareReceive pk s) := by
  refine hk.trans ?_
  have m0 : M &&& 0x8000 = 0x8000 := Keep.sub hM rfl
  have m1 : M &&& 0xEEBF78 = 0xEEBF78 := Keep.sub hM rfl
  have m2 : M &&& 0xC8E00 = 0xC8E00 := Keep.sub hM rfl
  have m3 : M &&& 0x800 = 0x800 := Keep.sub hM rfl
  unfold prepareReceive
  try dsimp only
  repeat' (first | (with_reducible exact Keep.refl _ _) | (with_reducible assumption) | (with_reducible apply State.takeDescr_keep m0) | (with_reducible apply State.onPhase_keep m1) | (with_reducible apply State.runPrepare_keep m2) | (with_reducible apply State.takePk_keep m3) | (intro) | dsimp only)

theorem surveyReceive_keep {M : Nat} {z0 : State} (hM : M &&& 0xEEBFF8 = 0xEEBFF8) (pk : Trans) (s : State) (hk : Keep M z0 s) : Keep M z0 (surveyReceive pk s) := by
  refine hk.trans ?_
  have m0 : M &&& 0xEEBF78 = 0xEEBF78 := Keep.sub hM rfl
  have m1 : M &&& 0xAEBFF8 = 0xAEBFF8 := Keep.sub hM rfl
  have m2 : M &&& 0x800 = 0x800 := Keep.sub hM rfl
  unfold surveyReceive
  try dsimp only
  repeat' (first | (with_reducible exact Keep.refl _ _) | (with_reducible assumption) | (with_reducible apply State.onPhase_keep m0) | (with_reducible apply State.runSurvey_keep m1) | (with_reducible apply State.takePk_keep m2) | (intro) | dsimp only)

theorem installReceive_keep {M : Nat} {z0 : State} (hM : M &&& 0xEEBFF8 = 0xEEBFF8) (pk : Trans) (s : State) (hk : Keep M z0 s) : Keep M z0 (installReceive pk s) := by
  refine hk.trans ?_
  have m0 : M &&& 0x8000 = 0x8000 := Keep.sub hM rfl
  have m1 : M &&& 0xEEBF78 = 0xEEBF78 := Keep.sub hM rfl
  have m2 : M &&& 0xAEBFF8 = 0xAEBFF8 := Keep.sub hM rfl
  have m3 : M &&& 0xAEBE48 = 0xAEBE48 := Keep.sub hM rfl
  have m4 : M &&& 0x800 = 0x800 := Keep.sub hM rfl
  have b_job : M.testBit 15 = true := Keep.bit hM rfl
  unfold installReceive
  try dsimp only
  repeat' (first | (with_reducible exact Keep.refl _ _) | (with_reducible assumption) | (fail_if_no_progress (with_reducible apply Keep.upd_job b_job)) | (with_reducible apply State.takeDescr_keep m0) | (with_reducible apply State.onPhase_keep m1) | (with_reducible apply State.readyInstall_keep m2) | (with_reducible apply State.runInstall_keep m3) | (with_reducible apply State.takePk_keep m4) | (intro) | dsimp only)

theorem installComplete_keep {M : Nat} {z0 : State} (hM : M &&& 0xEEBF78 = 0xEEBF78) (s : State) (hk : Keep M z0 s) : Keep M z0 (installComplete s) := by
  refine hk.trans ?_
  have m0 : M &&& 0x2EBF78 = 0x2EBF78 := Keep.sub hM rfl
  have m1 : M &&& 0xEEBF78 = 0xEEBF78 := Keep.sub hM rfl
  have m2 : M &&& 0xC8000 = 0xC8000 := Keep.sub hM rfl
  unfold installComplete
  try dsimp only
  repeat' (first | (with_reducible exact Keep.refl _ _) | (with_reducible assumption) | (with_reducible apply State.completeInstall_keep m0) | (with_reducible apply State.settle_keep m1) | (with_reducible apply State.setOwn_keep m2) | (with_reducible apply Keep.ite) | split | dsimp only)

theorem commitReceive_keep {M : Nat} {z0 : State} (hM : M &&& 0xEEBF78 = 0xEEBF78) (pk : Trans) (s : State) (hk : Keep M z0 s) : Keep M z0 (commitReceive pk s) := by
  refine hk.trans ?_
  have m0 : M &&& 0xEEBF78 = 0xEEBF78 := Keep.sub hM rfl
  have m1 : M &&& 0x2EB378 = 0x2EB378 := Keep.sub hM rfl
  have m2 : M &&& 0xC8000 = 0xC8000 := Keep.sub hM rfl
  have m3 : M &&& 0x800 = 0x800 := Keep.sub hM rfl
  unfold commitReceive
  try dsimp only
  repeat' (first | (with_reducible exact Keep.refl _ _) | (with_reducible assumption) | (with_reducible apply State.onPhase_keep m0) | (with_reducible apply State.runCommit_keep m1) | (with_reducible apply State.setOwn_keep m2) | (with_reducible apply State.takePk_keep m3) | (intro) | dsimp only)

theorem abandonReceive_keep {M : Nat} {z0 : State} (hM : M &&& 0xEEFFF8 = 0xEEFFF8) (pk : Trans) (s : State) (hk : Keep M z0 s) : Keep M z0 (abandonReceive pk s) := by
  refine hk.trans ?_
  have m0 : M &&& 0xEEBF78 = 0xEEBF78 := Keep.sub hM rfl
  have m1 : M &&& 0x8000 = 0x8000 := Keep.sub hM rfl
  have m2 : M &&& 0x88000 = 0x88000 := Keep.sub hM rfl
  have m3 : M &&& 0xAEFFF8 = 0xAEFFF8 := Keep.sub hM rfl
  have m4 : M &&& 0xC8000 = 0xC8000 := Keep.sub hM rfl
  have m5 : M &&& 0xC0C00 = 0xC0C00 := Keep.sub hM rfl
  have m6 : M &&& 0x800 = 0x800 := Keep.sub hM rfl
  unfold abandonReceive
  try dsimp only
  repeat' (first | (with_reducible exact Keep.refl _ _) | (with_reducible assumption) | (with_reducible apply State.onPhase_keep m0) | (with_reducible apply State.countDup_keep m1) | (with_reducible apply State.abandonRestore_keep m2) | (with_reducible apply State.abandonOpening_keep m3) | (with_reducible apply State.setOwn_keep m4) | (with_reducible apply State.sendPhase_keep m5) | (with_reducible apply State.takePk_keep m6) | (with_reducible apply Keep.foldl) | (with_reducible apply Keep.foldl2) | (with_reducible apply Keep.foldl3) | (intro) | (with_reducible apply Keep.ite) | split | dsimp only)

theorem openingAckReceive_keep {M : Nat} {z0 : State} (hM : M &&& 0xEEBF78 = 0xEEBF78) (pk : Trans) (s : State) (hk : Keep M z0 s) : Keep M z0 (openingAckReceive pk s) := by
  refine hk.trans ?_
  have m0 : M &&& 0x8000 = 0x8000 := Keep.sub hM rfl
  have m1 : M &&& 0xEEBF78 = 0xEEBF78 := Keep.sub hM rfl
  have m2 : M &&& 0x800 = 0x800 := Keep.sub hM rfl
  unfold openingAckReceive
  try dsimp only
  repeat' (first | (with_reducible exact Keep.refl _ _) | (with_reducible apply State.countDup_keep m0) | (with_reducible apply State.settle_keep m1) | (with_reducible apply State.setPhase_keep m0) | (with_reducible apply State.takePk_keep m2) | (with_reducible apply Keep.ite) | split | (with_reducible refine Keep.snd (by with_reducible assumption) ?_))

theorem State.phaseChildMissing_keep {M : Nat} {z0 : State} (hM : M &&& 0xEEBF78 = 0xEEBF78) (cn : U32) (p : PhaseSt) (t : Trans) (s : State) (hk : Keep M z0 s) : Keep M z0 (State.phaseChildMissing cn p t s) := by
  refine hk.trans ?_
  have m0 : M &&& 0xEEBF78 = 0xEEBF78 := Keep.sub hM rfl
  have m1 : M &&& 0x8000 = 0x8000 := Keep.sub hM rfl
  have m2 : M &&& 0xC0C00 = 0xC0C00 := Keep.sub hM rfl
  have m3 : M &&& 0x4C0400 = 0x4C0400 := Keep.sub hM rfl
  have m4 : M &&& 0xC0000 = 0xC0000 := Keep.sub hM rfl
  have b_job : M.testBit 15 = true := Keep.bit hM rfl
  unfold State.phaseChildMissing
  try dsimp only
  repeat' (first | (with_reducible exact Keep.refl _ _) | (with_reducible assumption) | (fail_if_no_progress (with_reducible apply Keep.upd_job b_job)) | (with_reducible apply State.settle_keep m0) | (with_reducible apply State.setPhase_keep m1) | (with_reducible apply State.sendSegs_keep m2) | (with_reducible apply State.sendPhase_keep m2) | (with_reducible apply State.missing_keep m3) | (with_reducible apply State.record_keep m4) | (with_reducible apply Keep.foldl) | (with_reducible apply Keep.foldl2) | (with_reducible apply Keep.foldl3) | (intro) | (with_reducible apply Keep.ite) | split | dsimp only)

theorem openingChildMissing_keep {M : Nat} {z0 : State} (hM : M &&& 0xEFBF78 = 0xEFBF78) (cn : U32) (s : State) (hk : Keep M z0 s) : Keep M z0 (openingChildMissing cn s) := by
  refine hk.trans ?_
  have m0 : M &&& 0xEEBF78 = 0xEEBF78 := Keep.sub hM rfl
  have m1 : M &&& 0x4D8C00 = 0x4D8C00 := Keep.sub hM rfl
  unfold openingChildMissing
  try dsimp only
  repeat' (first | (with_reducible exact Keep.refl _ _) | (with_reducible assumption) | (with_reducible apply State.phaseChildMissing_keep m0) | (with_reducible apply State.installChildMissing_keep m1) | split | dsimp only | (with_reducible refine Keep.snd (by with_reducible assumption) ?_))

theorem streamCheckReceive_keep {M : Nat} {z0 : State} (hM : M &&& 0xEEBF78 = 0xEEBF78) (pk : Trans) (s : State) (hk : Keep M z0 s) : Keep M z0 (streamCheckReceive pk s) := by
  refine hk.trans ?_
  have m0 : M &&& 0xEEBF78 = 0xEEBF78 := Keep.sub hM rfl
  have m1 : M &&& 0xC8000 = 0xC8000 := Keep.sub hM rfl
  have m2 : M &&& 0x800 = 0x800 := Keep.sub hM rfl
  have b_job : M.testBit 15 = true := Keep.bit hM rfl
  unfold streamCheckReceive
  try dsimp only
  repeat' (first | (with_reducible exact Keep.refl _ _) | (with_reducible assumption) | (fail_if_no_progress (with_reducible apply Keep.upd_job b_job)) | (with_reducible apply State.settle_keep m0) | (with_reducible apply State.setOwn_keep m1) | (with_reducible apply State.takePk_keep m2) | (with_reducible apply Keep.ite) | split | dsimp only)

theorem reachReceive_keep {M : Nat} {z0 : State} (hM : M &&& 0xEEBF78 = 0xEEBF78) (pk : Trans) (s : State) (hk : Keep M z0 s) : Keep M z0 (reachReceive pk s) := by
  refine hk.trans ?_
  have m0 : M &&& 0xC8000 = 0xC8000 := Keep.sub hM rfl
  have m1 : M &&& 0xEEBF78 = 0xEEBF78 := Keep.sub hM rfl
  have m2 : M &&& 0x800 = 0x800 := Keep.sub hM rfl
  have b_job : M.testBit 15 = true := Keep.bit hM rfl
  unfold reachReceive
  try dsimp only
  repeat' (first | (with_reducible exact Keep.refl _ _) | (with_reducible assumption) | (fail_if_no_progress (with_reducible apply Keep.upd_job b_job)) | (with_reducible apply State.trySurvey_keep m0) | (with_reducible apply State.settle_keep m1) | (with_reducible apply State.takePk_keep m2) | (with_reducible apply Keep.ite) | split | dsimp only)

theorem reachTimeout_keep {M : Nat} {z0 : State} (hM : M &&& 0xEEBF78 = 0xEEBF78) (s : State) (hk : Keep M z0 s) : Keep M z0 (reachTimeout s) := by
  refine hk.trans ?_
  have m0 : M &&& 0xC8000 = 0xC8000 := Keep.sub hM rfl
  have m1 : M &&& 0xEEBF78 = 0xEEBF78 := Keep.sub hM rfl
  have b_job : M.testBit 15 = true := Keep.bit hM rfl
  unfold reachTimeout
  try dsimp only
  repeat' (first | (with_reducible exact Keep.refl _ _) | (with_reducible assumption) | (fail_if_no_progress (with_reducible apply Keep.upd_job b_job)) | (with_reducible apply State.finishSurvey_keep m0) | (with_reducible apply State.settle_keep m1) | (with_reducible apply Keep.ite) | split | dsimp only)

theorem State.pullBlock_keep {M : Nat} {z0 : State} (hM : M &&& 0x2E3E48 = 0x2E3E48) (dst : U32) (delta : U64) (st : Stream) (x : Nat × Nat) (s : State) (hk : Keep M z0 s) : Keep M z0 (State.pullBlock dst delta st x s).2 := by
  refine hk.trans ?_
  have m0 : M &&& 0x1000 = 0x1000 := Keep.sub hM rfl
  have m1 : M &&& 0xC0C00 = 0xC0C00 := Keep.sub hM rfl
  have m2 : M &&& 0x2E3248 = 0x2E3248 := Keep.sub hM rfl
  unfold State.pullBlock
  try dsimp only
  repeat' (first | (with_reducible exact Keep.refl _ _) | (with_reducible apply State.countMirror_keep m0) | (with_reducible apply State.send_keep m1) | (with_reducible apply State.readBlock_keep m2) | (with_reducible apply Keep.ite) | split | dsimp only | (with_reducible refine Keep.snd (by with_reducible assumption) ?_))

theorem State.pullDone_keep {M : Nat} {z0 : State} (hM : M &&& 0xC0C00 = 0xC0C00) (dst ts : U32) (st : Stream) (t l : U32) (v : U64) (s : State) (hk : Keep M z0 s) : Keep M z0 (State.pullDone dst ts st t l v s) := by
  refine hk.trans ?_
  have m0 : M &&& 0xC0C00 = 0xC0C00 := Keep.sub hM rfl
  unfold State.pullDone
  try dsimp only
  repeat' (first | (with_reducible exact Keep.refl _ _) | (with_reducible apply State.sendTrans_keep m0))

theorem State.readSlot_keep {M : Nat} {z0 : State} (hM : M &&& 0x2E3248 = 0x2E3248) (ix : Fin 4) (e : TensorEntry) (step : U32) (s : State) (hk : Keep M z0 s) : Keep M z0 (State.readSlot ix e step s).2.2 := by
  refine hk.trans ?_
  have m0 : M &&& 0x2E3248 = 0x2E3248 := Keep.sub hM rfl
  unfold State.readSlot
  try dsimp only
  repeat' (first | (with_reducible exact Keep.refl _ _) | (with_reducible assumption) | (with_reducible apply State.readLog_keep m0) | (with_reducible apply Keep.foldl) | (with_reducible apply Keep.foldl2) | (with_reducible apply Keep.foldl3) | (intro) | split | dsimp only | (with_reducible refine Keep.snd (by with_reducible assumption) ?_))

theorem State.rollReplicaStep_keep {M : Nat} {z0 : State} (hM : M &&& 0x2EB248 = 0x2EB248) (ix : Fin 4) (ts step : U32) (s : State) (hk : Keep M z0 s) : Keep M z0 (State.rollReplicaStep ix ts step s) := by
  refine hk.trans ?_
  have m0 : M &&& 0x2E3248 = 0x2E3248 := Keep.sub hM rfl
  have m1 : M &&& 0x40 = 0x40 := Keep.sub hM rfl
  have b_job : M.testBit 15 = true := Keep.bit hM rfl
  unfold State.rollReplicaStep
  try dsimp only
  repeat' (first | (with_reducible exact Keep.refl _ _) | (with_reducible assumption) | (fail_if_no_progress (with_reducible apply Keep.upd_job b_job)) | (with_reducible apply State.readSlot_keep m0) | (with_reducible apply State.runFor_keep m0) | (with_reducible apply State.setEntry_keep m1) | (with_reducible apply State.writeBlock_keep m0) | (with_reducible apply Keep.foldl) | (with_reducible apply Keep.foldl2) | (with_reducible apply Keep.foldl3) | (intro) | (with_reducible apply Keep.ite) | split | dsimp only | (with_reducible refine Keep.snd (by with_reducible assumption) ?_))

theorem State.rollReplica_keep {M : Nat} {z0 : State} (hM : M &&& 0x2EB248 = 0x2EB248) (ix : Fin 4) (ts target : U32) (s : State) (hk : Keep M z0 s) : Keep M z0 (State.rollReplica ix ts target s) := by
  refine hk.trans ?_
  have m0 : M &&& 0x2EB248 = 0x2EB248 := Keep.sub hM rfl
  unfold State.rollReplica
  try dsimp only
  repeat' (first | (with_reducible exact Keep.refl _ _) | (with_reducible assumption) | (with_reducible apply State.rollReplicaStep_keep m0) | (with_reducible apply Keep.foldl) | (with_reducible apply Keep.foldl2) | (with_reducible apply Keep.foldl3) | (intro) | (with_reducible apply Keep.ite) | split | dsimp only | (with_reducible refine Keep.snd (by with_reducible assumption) ?_))

theorem State.sendSlot_keep {M : Nat} {z0 : State} (hM : M &&& 0xAEBF78 = 0xAEBF78) (ix : Fin 4) (dst ts step : U32) (s : State) (hk : Keep M z0 s) : Keep M z0 (State.sendSlot ix dst ts step s) := by
  refine hk.trans ?_
  have m0 : M &&& 0xAEBF78 = 0xAEBF78 := Keep.sub hM rfl
  have m1 : M &&& 0xC0C00 = 0xC0C00 := Keep.sub hM rfl
  have m2 : M &&& 0x2E3248 = 0x2E3248 := Keep.sub hM rfl
  have b_part : M.testBit 12 = true := Keep.bit hM rfl
  unfold State.sendSlot
  try dsimp only
  repeat' (first | (with_reducible exact Keep.refl _ _) | (with_reducible assumption) | (fail_if_no_progress (with_reducible apply Keep.upd_part b_part)) | (with_reducible apply State.seal_keep m0) | (with_reducible apply State.send_keep m1) | (with_reducible apply State.readBlock_keep m2) | (with_reducible apply Keep.foldl) | (with_reducible apply Keep.foldl2) | (with_reducible apply Keep.foldl3) | (intro) | (with_reducible apply Keep.ite) | split | dsimp only | (with_reducible refine Keep.snd (by with_reducible assumption) ?_))

theorem State.sendSlots_keep {M : Nat} {z0 : State} (hM : M &&& 0xAEBF78 = 0xAEBF78) (ix : Fin 4) (dst ts first : U32) (n : Nat) (s : State) (hk : Keep M z0 s) : Keep M z0 (State.sendSlots ix dst ts first n s).2 := by
  refine hk.trans ?_
  have m0 : M &&& 0xAEBF78 = 0xAEBF78 := Keep.sub hM rfl
  unfold State.sendSlots
  try dsimp only
  repeat' (first | (with_reducible exact Keep.refl _ _) | (with_reducible assumption) | (with_reducible apply State.sendSlot_keep m0) | (with_reducible apply Keep.foldl) | (with_reducible apply Keep.foldl2) | (with_reducible apply Keep.foldl3) | (intro) | dsimp only)

theorem pullReqReceive_keep {M : Nat} {z0 : State} (hM : M &&& 0xAEBF78 = 0xAEBF78) (pk : Trans) (s : State) (hk : Keep M z0 s) : Keep M z0 (pullReqReceive pk s) := by
  refine hk.trans ?_
  have m0 : M &&& 0xAEBF78 = 0xAEBF78 := Keep.sub hM rfl
  have m1 : M &&& 0x2EB248 = 0x2EB248 := Keep.sub hM rfl
  have m2 : M &&& 0xC0C00 = 0xC0C00 := Keep.sub hM rfl
  have m3 : M &&& 0x2E3E48 = 0x2E3E48 := Keep.sub hM rfl
  have m4 : M &&& 0xC1000 = 0xC1000 := Keep.sub hM rfl
  have m5 : M &&& 0x800 = 0x800 := Keep.sub hM rfl
  unfold pullReqReceive
  try dsimp only
  repeat' (first | (with_reducible exact Keep.refl _ _) | (with_reducible assumption) | (with_reducible apply State.sendSlots_keep m0) | (with_reducible apply State.rollReplica_keep m1) | (with_reducible apply State.pullDone_keep m2) | (with_reducible apply State.pullBlock_keep m3) | (with_reducible apply State.refuseSource_keep m4) | (with_reducible apply State.takePk_keep m5) | (with_reducible apply Keep.foldl) | (with_reducible apply Keep.foldl2) | (with_reducible apply Keep.foldl3) | (intro) | split | dsimp only | (with_reducible refine Keep.snd (by with_reducible assumption) ?_))

theorem State.setPull_keep {M : Nat} {z0 : State} (hM : M &&& 0x8000 = 0x8000) (p q : Pull) (s : State) (hk : Keep M z0 s) : Keep M z0 (State.setPull p q s) := by
  refine hk.trans ?_
  have b_job : M.testBit 15 = true := Keep.bit hM rfl
  unfold State.setPull
  try dsimp only
  repeat' (first | (with_reducible exact Keep.refl _ _) | (with_reducible assumption) | (fail_if_no_progress (with_reducible apply Keep.upd_job b_job)) | (with_reducible apply Keep.ite) | split | dsimp only)

theorem State.dropPull_keep {M : Nat} {z0 : State} (hM : M &&& 0x8000 = 0x8000) (p : Pull) (s : State) (hk : Keep M z0 s) : Keep M z0 (State.dropPull p s) := by
  refine hk.trans ?_
  have b_job : M.testBit 15 = true := Keep.bit hM rfl
  unfold State.dropPull
  try dsimp only
  repeat' (first | (with_reducible exact Keep.refl _ _) | (with_reducible assumption) | (fail_if_no_progress (with_reducible apply Keep.upd_job b_job)) | dsimp only)

theorem State.retryPull_keep {M : Nat} {z0 : State} (hM : M &&& 0xEEBF78 = 0xEEBF78) (p : Pull) (s : State) (hk : Keep M z0 s) : Keep M z0 (State.retryPull p s) := by
  refine hk.trans ?_
  have m0 : M &&& 0x8000 = 0x8000 := Keep.sub hM rfl
  have m1 : M &&& 0xEEBF78 = 0xEEBF78 := Keep.sub hM rfl
  have m2 : M &&& 0xC0C00 = 0xC0C00 := Keep.sub hM rfl
  have m3 : M &&& 0xC8000 = 0xC8000 := Keep.sub hM rfl
  have m4 : M &&& 0xC0000 = 0xC0000 := Keep.sub hM rfl
  unfold State.retryPull
  try dsimp only
  repeat' (first | (with_reducible exact Keep.refl _ _) | (with_reducible apply State.dropPull_keep m0) | (with_reducible apply State.setPull_keep m0) | (with_reducible apply State.settle_keep m1) | (with_reducible apply State.sendPull_keep m2) | (with_reducible apply State.setOwn_keep m3) | (with_reducible apply State.record_keep m4) | (with_reducible apply Keep.ite) | split)

theorem State.pulledShard_keep {M : Nat} {z0 : State} (hM : M &&& 0xEEBF78 = 0xEEBF78) (e : TensorEntry) (t : U32) (s : State) (hk : Keep M z0 s) : Keep M z0 (State.pulledShard e t s) := by
  refine hk.trans ?_
  have m0 : M &&& 0xEEBF78 = 0xEEBF78 := Keep.sub hM rfl
  have m1 : M &&& 0x8000 = 0x8000 := Keep.sub hM rfl
  have m2 : M &&& 0xC8000 = 0xC8000 := Keep.sub hM rfl
  have m3 : M &&& 0x40 = 0x40 := Keep.sub hM rfl
  unfold State.pulledShard
  try dsimp only
  repeat' (first | (with_reducible exact Keep.refl _ _) | (with_reducible apply State.settle_keep m0) | (with_reducible apply State.markAhead_keep m1) | (with_reducible apply State.noteTorn_keep m2) | (with_reducible apply State.setOwn_keep m2) | (with_reducible apply State.setEntry_keep m3) | (with_reducible apply Keep.ite) | split)

theorem pullDoneReceive_keep {M : Nat} {z0 : State} (hM : M &&& 0xEEBF78 = 0xEEBF78) (pk : Trans) (s : State) (hk : Keep M z0 s) : Keep M z0 (pullDoneReceive pk s) := by
  refine hk.trans ?_
  have m0 : M &&& 0xEEBF78 = 0xEEBF78 := Keep.sub hM rfl
  have m1 : M &&& 0x8000 = 0x8000 := Keep.sub hM rfl
  have m2 : M &&& 0xC8000 = 0xC8000 := Keep.sub hM rfl
  have m3 : M &&& 0x800 = 0x800 := Keep.sub hM rfl
  unfold pullDoneReceive
  try dsimp only
  repeat' (first | (with_reducible exact Keep.refl _ _) | (with_reducible apply State.pulledShard_keep m0) | (with_reducible apply State.retryPull_keep m0) | (with_reducible apply State.dropPull_keep m1) | (with_reducible apply State.failRoll_keep m2) | (with_reducible apply State.takePk_keep m3) | (with_reducible apply Keep.ite) | split | (with_reducible refine Keep.snd (by with_reducible assumption) ?_))

theorem pullTimeout_keep {M : Nat} {z0 : State} (hM : M &&& 0xEEBF78 = 0xEEBF78) (ts : U32) (sel : U8) (s : State) (hk : Keep M z0 s) : Keep M z0 (pullTimeout ts sel s) := by
  refine hk.trans ?_
  have m0 : M &&& 0xEEBF78 = 0xEEBF78 := Keep.sub hM rfl
  unfold pullTimeout
  try dsimp only
  repeat' (first | (with_reducible exact Keep.refl _ _) | (with_reducible apply State.retryPull_keep m0) | split | (with_reducible refine Keep.snd (by with_reducible assumption) ?_))

theorem State.getDone_keep {M : Nat} {z0 : State} (hM : M &&& 0xEEBFF8 = 0xEEBFF8) (g : StoreGet) (s : State) (hk : Keep M z0 s) : Keep M z0 (State.getDone g s) := by
  refine hk.trans ?_
  have m0 : M &&& 0xEEBFF8 = 0xEEBFF8 := Keep.sub hM rfl
  have m1 : M &&& 0xC8000 = 0xC8000 := Keep.sub hM rfl
  have m2 : M &&& 0xEEBF78 = 0xEEBF78 := Keep.sub hM rfl
  have m3 : M &&& 0x2EBE48 = 0x2EBE48 := Keep.sub hM rfl
  have m4 : M &&& 0x8000 = 0x8000 := Keep.sub hM rfl
  unfold State.getDone
  try dsimp only
  repeat' (first | (with_reducible exact Keep.refl _ _) | (with_reducible assumption) | (with_reducible apply State.tryInstall_keep m0) | (with_reducible apply State.trySurvey_keep m1) | (with_reducible apply State.settle_keep m2) | (with_reducible apply State.installTier_keep m3) | (with_reducible apply State.getHead_keep m4) | (with_reducible apply State.setGet_keep m4) | (with_reducible apply Keep.ite) | split | dsimp only)

theorem State.takePart_keep {M : Nat} {z0 : State} (hM : M &&& 0xEEBFF8 = 0xEEBFF8) (g : StoreGet) (b : Block) (s : State) (hk : Keep M z0 s) : Keep M z0 (State.takePart g b s) := by
  refine hk.trans ?_
  have m0 : M &&& 0xEEBFF8 = 0xEEBFF8 := Keep.sub hM rfl
  have m1 : M &&& 0x8000 = 0x8000 := Keep.sub hM rfl
  have m2 : M &&& 0xC0C00 = 0xC0C00 := Keep.sub hM rfl
  have m3 : M &&& 0x40000 = 0x40000 := Keep.sub hM rfl
  unfold State.takePart
  try dsimp only
  repeat' (first | (with_reducible exact Keep.refl _ _) | (with_reducible apply State.getDone_keep m0) | (with_reducible apply State.setGet_keep m1) | (with_reducible apply State.sendGet_keep m2) | (with_reducible apply State.countBytes_keep m3) | (with_reducible apply Keep.ite) | split)

theorem State.partFailed_keep {M : Nat} {z0 : State} (hM : M &&& 0xC0C08 = 0xC0C08) (g : StoreGet) (src : U32) (s : State) (hk : Keep M z0 s) : Keep M z0 (State.partFailed g src s) := by
  refine hk.trans ?_
  have m0 : M &&& 0xC0C00 = 0xC0C00 := Keep.sub hM rfl
  have m1 : M &&& 0xC0000 = 0xC0000 := Keep.sub hM rfl
  have b_chk : M.testBit 3 = true := Keep.bit hM rfl
  unfold State.partFailed
  try dsimp only
  repeat' (first | (with_reducible exact Keep.refl _ _) | (fail_if_no_progress (with_reducible apply Keep.upd_chk b_chk)) | (with_reducible apply State.sendResend_keep m0) | (with_reducible apply State.record_keep m1))

theorem State.checkPart_keep {M : Nat} {z0 : State} (hM : M &&& 0xEEBFF8 = 0xEEBFF8) (g : StoreGet) (src : U32) (b : Block) (s : State) (hk : Keep M z0 s) : Keep M z0 (State.checkPart g src b s) := by
  refine hk.trans ?_
  have m0 : M &&& 0xC0C08 = 0xC0C08 := Keep.sub hM rfl
  have m1 : M &&& 0xEEBFF8 = 0xEEBFF8 := Keep.sub hM rfl
  have m2 : M &&& 0xC0000 = 0xC0000 := Keep.sub hM rfl
  have b_chk : M.testBit 3 = true := Keep.bit hM rfl
  unfold State.checkPart
  try dsimp only
  repeat' (first | (with_reducible exact Keep.refl _ _) | (fail_if_no_progress (with_reducible apply Keep.upd_chk b_chk)) | (with_reducible apply State.partFailed_keep m0) | (with_reducible apply State.takePart_keep m1) | (with_reducible apply State.record_keep m2) | (with_reducible apply Keep.ite) | split)

theorem storeGetResponse_keep {M : Nat} {z0 : State} (hM : M &&& 0xEEBFF8 = 0xEEBFF8) (pk : Trans) (s : State) (hk : Keep M z0 s) : Keep M z0 (storeGetResponse pk s) := by
  refine hk.trans ?_
  have m0 : M &&& 0xEEBFF8 = 0xEEBFF8 := Keep.sub hM rfl
  have m1 : M &&& 0xC0C00 = 0xC0C00 := Keep.sub hM rfl
  have m2 : M &&& 0x800 = 0x800 := Keep.sub hM rfl
  unfold storeGetResponse
  try dsimp only
  repeat' (first | (with_reducible exact Keep.refl _ _) | (with_reducible assumption) | (with_reducible apply State.checkPart_keep m0) | (with_reducible apply State.getDone_keep m0) | (with_reducible apply State.sendGet_keep m1) | (with_reducible apply State.takePk_keep m2) | (with_reducible apply Keep.ite) | split | dsimp only | (with_reducible refine Keep.snd (by with_reducible assumption) ?_))

theorem resignationAction_keep {M : Nat} {z0 : State} (hM : M &&& 0xAEFFF8 = 0xAEFFF8) (jt : U16) (s : State) (hk : Keep M z0 s) : Keep M z0 (resignationAction jt s) := by
  refine hk.trans ?_
  have m0 : M &&& 0xAEFFF8 = 0xAEFFF8 := Keep.sub hM rfl
  have m1 : M &&& 0xC0000 = 0xC0000 := Keep.sub hM rfl
  have b_job : M.testBit 15 = true := Keep.bit hM rfl
  unfold resignationAction
  try dsimp only
  repeat' (first | (with_reducible exact Keep.refl _ _) | (fail_if_no_progress (with_reducible apply Keep.upd_job b_job)) | (with_reducible apply State.startResign_keep m0) | (with_reducible apply State.record_keep m1) | (with_reducible apply Keep.ite) | split)

theorem ok_zero (t : Tier) (off n : Nat) (m : MemState) (h : m.ok = true) : (m.zero t off n).ok = true := by
  have h1 : (m.heal t off n).ok = true := (MemState.ok_heal ..).trans h
  exact MemState.ok_setCells t _ h1 (wf_filter _ ((MemState.ok_iff _).1 h1 t))
theorem ok_scrub (r : Region) (m : MemState) (h : m.ok = true) : (r.scrub m).ok = true := by
  unfold Region.scrub
  split
  · exact h
  · dsimp only
    split
    · exact ok_zero _ _ _ _ (ok_zero _ _ _ _ h)
    · exact ok_zero _ _ _ _ h
theorem ok_scrubs (l : List Region) (m : MemState) (h : m.ok = true) : (l.foldl (fun m r => r.scrub m) m).ok = true := by
  induction l generalizing m with
  | nil => exact h
  | cons r l ih => exact ih _ (ok_scrub r m h)

theorem State.scrubRegions_keep {M : Nat} {z0 : State} (hM : M &&& 0x200 = 0x200) (s : State) (hk : Keep M z0 s) : Keep M z0 (State.scrubRegions s) := by
  refine hk.trans ?_
  have b_mem : M.testBit 9 = true := Keep.bit hM rfl
  unfold State.scrubRegions
  dsimp only
  exact Keep.updOk b_mem (fun h => ok_scrubs _ _ h) (Keep.refl _ _)

theorem State.sign_keep {M : Nat} {z0 : State} (hM : M &&& 0x800000 = 0x800000) (s : State) (hk : Keep M z0 s) : Keep M z0 (State.sign s).2 := by
  refine hk.trans ?_
  have b_freeCtr : M.testBit 23 = true := Keep.bit hM rfl
  unfold State.sign
  try dsimp only
  repeat' (first | (with_reducible exact Keep.refl _ _) | (fail_if_no_progress (with_reducible apply Keep.upd_freeCtr b_freeCtr)) | dsimp only)

theorem State.clearJob_keep {M : Nat} {z0 : State} (hM : M &&& 0x1BBF0 = 0x1BBF0) (s : State) (hk : Keep M z0 s) : Keep M z0 (State.clearJob s) := by
  refine hk.trans ?_
  have m0 : M &&& 0x200 = 0x200 := Keep.sub hM rfl
  have m1 : M &&& 0x11810 = 0x11810 := Keep.sub hM rfl
  have m2 : M &&& 0x800 = 0x800 := Keep.sub hM rfl
  have b_red : M.testBit 5 = true := Keep.bit hM rfl
  have b_job : M.testBit 15 = true := Keep.bit hM rfl
  have b_route : M.testBit 11 = true := Keep.bit hM rfl
  have b_det : M.testBit 16 = true := Keep.bit hM rfl
  have b_fence : M.testBit 4 = true := Keep.bit hM rfl
  have b_vec : M.testBit 7 = true := Keep.bit hM rfl
  have b_adj : M.testBit 13 = true := Keep.bit hM rfl
  have b_str : M.testBit 8 = true := Keep.bit hM rfl
  have b_upd : M.testBit 6 = true := Keep.bit hM rfl
  have b_part : M.testBit 12 = true := Keep.bit hM rfl
  unfold State.clearJob
  try dsimp only
  repeat' (first | (with_reducible exact Keep.refl _ _) | (with_reducible assumption) | (fail_if_no_progress (with_reducible apply Keep.upd_adj b_adj)) | (fail_if_no_progress (with_reducible apply Keep.upd_det b_det)) | (fail_if_no_progress (with_reducible apply Keep.upd_fence b_fence)) | (fail_if_no_progress (with_reducible apply Keep.upd_job b_job)) | (fail_if_no_progress (with_reducible apply Keep.upd_part b_part)) | (fail_if_no_progress (with_reducible apply Keep.upd_red b_red)) | (fail_if_no_progress (with_reducible apply Keep.upd_route b_route)) | (fail_if_no_progress (with_reducible apply Keep.upd_str b_str)) | (fail_if_no_progress (with_reducible apply Keep.upd_upd b_upd)) | (fail_if_no_progress (with_reducible apply Keep.upd_vec b_vec)) | (fail_if_no_progress ((with_reducible refine Keep.updAll ?_ ?_ ?_ ?_ ?_ ?_ ?_ ?_ ?_ ?_ ?_ ?_ ?_ ?_ ?_ ?_ ?_ ?_ ?_ ?_ ?_ ?_ ?_ ?_ ?_ ?_); iterate 25 (first | (with_reducible rfl) | (with_reducible exact fun _ => rfl) | (exact fun b => absurd (b.symm.trans (Keep.bit hM rfl)) (by decide))))) | (with_reducible apply State.scrubRegions_keep m0) | (with_reducible apply State.clearPerEpoch_keep m1) | (with_reducible apply State.refillBanks_keep m2) | dsimp only)

theorem State.alarm3_keep {M : Nat} {z0 : State} (hM : M &&& 0x40000 = 0x40000) (e : Event) (s : State) (hk : Keep M z0 s) : Keep M z0 (State.alarm3 e s) := by
  refine hk.trans ?_
  have b_tele : M.testBit 18 = true := Keep.bit hM rfl
  unfold State.alarm3
  try dsimp only
  repeat' (first | (with_reducible exact Keep.refl _ _) | (fail_if_no_progress (with_reducible apply Keep.upd_tele b_tele)) | (with_reducible apply Keep.ite) | split)

theorem resignScrubComplete_keep {M : Nat} {z0 : State} (hM : M &&& 0xAFBFF0 = 0xAFBFF0) (ok : Bool) (s : State) (hk : Keep M z0 s) : Keep M z0 (resignScrubComplete ok s) := by
  refine hk.trans ?_
  have m0 : M &&& 0x40000 = 0x40000 := Keep.sub hM rfl
  have m1 : M &&& 0x1BBF0 = 0x1BBF0 := Keep.sub hM rfl
  have m2 : M &&& 0x800000 = 0x800000 := Keep.sub hM rfl
  have m3 : M &&& 0x2E8000 = 0x2E8000 := Keep.sub hM rfl
  have m4 : M &&& 0xC0C00 = 0xC0C00 := Keep.sub hM rfl
  have m5 : M &&& 0x80000 = 0x80000 := Keep.sub hM rfl
  have m6 : M &&& 0xC0000 = 0xC0000 := Keep.sub hM rfl
  have b_job : M.testBit 15 = true := Keep.bit hM rfl
  unfold resignScrubComplete
  try dsimp only
  repeat' (first | (with_reducible exact Keep.refl _ _) | (with_reducible assumption) | (fail_if_no_progress (with_reducible apply Keep.upd_job b_job)) | (with_reducible apply State.alarm3_keep m0) | (with_reducible apply State.clearJob_keep m1) | (with_reducible apply State.sign_keep m2) | (with_reducible apply State.enterStandby_keep m3) | (with_reducible apply circuitDrainTimeout_keep m4) | (with_reducible apply circuitDrained_keep m4) | (with_reducible apply State.stepIrq_keep m5) | (with_reducible apply State.free_keep m2) | (with_reducible apply State.record_keep m6) | (with_reducible apply Keep.foldl) | (with_reducible apply Keep.foldl2) | (with_reducible apply Keep.foldl3) | (intro) | (with_reducible apply Keep.ite) | split | dsimp only | (with_reducible refine Keep.snd (by with_reducible assumption) ?_))

theorem watchdogFeed_keep {M : Nat} {z0 : State} (hM : M &&& 0x10000 = 0x10000) (answers : Bool) (s : State) (hk : Keep M z0 s) : Keep M z0 (watchdogFeed answers s) := by
  refine hk.trans ?_
  have b_det : M.testBit 16 = true := Keep.bit hM rfl
  unfold watchdogFeed
  try dsimp only
  repeat' (first | (with_reducible exact Keep.refl _ _) | (fail_if_no_progress (with_reducible apply Keep.upd_det b_det)))

theorem isolationTimeout_keep {M : Nat} {z0 : State} (hM : M &&& 0xC8000 = 0xC8000) (s : State) (hk : Keep M z0 s) : Keep M z0 (isolationTimeout s) := by
  refine hk.trans ?_
  have m0 : M &&& 0x88000 = 0x88000 := Keep.sub hM rfl
  have m1 : M &&& 0xC0000 = 0xC0000 := Keep.sub hM rfl
  unfold isolationTimeout
  try dsimp only
  repeat' (first | (with_reducible exact Keep.refl _ _) | (with_reducible assumption) | (with_reducible apply State.enterFenced_keep m0) | (with_reducible apply State.record_keep m1) | (with_reducible apply Keep.ite) | split | dsimp only)

theorem State.probe_keep {M : Nat} {z0 : State} (hM : M &&& 0x10000 = 0x10000) (pos : U32) (s : State) (hk : Keep M z0 s) : Keep M z0 (State.probe pos s) := by
  refine hk.trans ?_
  have b_det : M.testBit 16 = true := Keep.bit hM rfl
  unfold State.probe
  try dsimp only
  repeat' (first | (with_reducible exact Keep.refl _ _) | (fail_if_no_progress (with_reducible apply Keep.upd_det b_det)))

theorem State.setSuspicion_keep {M : Nat} {z0 : State} (hM : M &&& 0x10000 = 0x10000) (r : Suspicion) (s : State) (hk : Keep M z0 s) : Keep M z0 (State.setSuspicion r s) := by
  refine hk.trans ?_
  have b_det : M.testBit 16 = true := Keep.bit hM rfl
  unfold State.setSuspicion
  try dsimp only
  repeat' (first | (with_reducible exact Keep.refl _ _) | (with_reducible assumption) | (fail_if_no_progress (with_reducible apply Keep.upd_det b_det)) | (with_reducible apply Keep.ite) | split | dsimp only)

theorem State.dropSuspicion_keep {M : Nat} {z0 : State} (hM : M &&& 0x10000 = 0x10000) (pos : U32) (s : State) (hk : Keep M z0 s) : Keep M z0 (State.dropSuspicion pos s) := by
  refine hk.trans ?_
  have b_det : M.testBit 16 = true := Keep.bit hM rfl
  unfold State.dropSuspicion
  try dsimp only
  repeat' (first | (with_reducible exact Keep.refl _ _) | (with_reducible assumption) | (fail_if_no_progress (with_reducible apply Keep.upd_det b_det)) | dsimp only)

theorem State.arbitrate_keep {M : Nat} {z0 : State} (hM : M &&& 0xD9C00 = 0xD9C00) (src pos : U32) (s : State) (hk : Keep M z0 s) : Keep M z0 (State.arbitrate src pos s) := by
  refine hk.trans ?_
  have m0 : M &&& 0x10000 = 0x10000 := Keep.sub hM rfl
  have m1 : M &&& 0xD9C00 = 0xD9C00 := Keep.sub hM rfl
  have b_det : M.testBit 16 = true := Keep.bit hM rfl
  unfold State.arbitrate
  try dsimp only
  repeat' (first | (with_reducible exact Keep.refl _ _) | (fail_if_no_progress (with_reducible apply Keep.upd_det b_det)) | (with_reducible apply State.setSuspicion_keep m0) | (with_reducible apply State.probe_keep m0) | (with_reducible apply State.flagFall_keep m1) | (with_reducible apply Keep.ite) | split | (with_reducible refine Keep.snd (by with_reducible assumption) ?_))

theorem suspectReceive_keep {M : Nat} {z0 : State} (hM : M &&& 0xD9C00 = 0xD9C00) (pk : Trans) (s : State) (hk : Keep M z0 s) : Keep M z0 (suspectReceive pk s) := by
  refine hk.trans ?_
  have m0 : M &&& 0xD9C00 = 0xD9C00 := Keep.sub hM rfl
  have m1 : M &&& 0x10000 = 0x10000 := Keep.sub hM rfl
  have m2 : M &&& 0x800 = 0x800 := Keep.sub hM rfl
  have b_det : M.testBit 16 = true := Keep.bit hM rfl
  unfold suspectReceive
  try dsimp only
  repeat' (first | (with_reducible exact Keep.refl _ _) | (fail_if_no_progress (with_reducible apply Keep.upd_det b_det)) | (with_reducible apply State.arbitrate_keep m0) | (with_reducible apply State.detRefuse_keep m1) | (with_reducible apply State.takePk_keep m2) | (with_reducible apply Keep.ite) | split)

theorem probeAnswer_keep {M : Nat} {z0 : State} (hM : M &&& 0xD9C00 = 0xD9C00) (pos : U32) (word : U64) (s : State) (hk : Keep M z0 s) : Keep M z0 (probeAnswer pos word s) := by
  refine hk.trans ?_
  have m0 : M &&& 0x10000 = 0x10000 := Keep.sub hM rfl
  have m1 : M &&& 0xD9C00 = 0xD9C00 := Keep.sub hM rfl
  have m2 : M &&& 0xC0000 = 0xC0000 := Keep.sub hM rfl
  have b_det : M.testBit 16 = true := Keep.bit hM rfl
  unfold probeAnswer
  try dsimp only
  repeat' (first | (with_reducible exact Keep.refl _ _) | (fail_if_no_progress (with_reducible apply Keep.upd_det b_det)) | (with_reducible apply State.dropSuspicion_keep m0) | (with_reducible apply State.flagFall_keep m1) | (with_reducible apply State.record_keep m2) | (with_reducible apply Keep.ite) | split | (with_reducible refine Keep.snd (by with_reducible assumption) ?_))

theorem probeTimeout_keep {M : Nat} {z0 : State} (hM : M &&& 0xD9C00 = 0xD9C00) (pos : U32) (s : State) (hk : Keep M z0 s) : Keep M z0 (probeTimeout pos s) := by
  refine hk.trans ?_
  have m0 : M &&& 0x10000 = 0x10000 := Keep.sub hM rfl
  have m1 : M &&& 0xD9C00 = 0xD9C00 := Keep.sub hM rfl
  unfold probeTimeout
  try dsimp only
  repeat' (first | (with_reducible exact Keep.refl _ _) | (with_reducible apply State.setSuspicion_keep m0) | (with_reducible apply State.probe_keep m0) | (with_reducible apply State.flagFall_keep m1) | (with_reducible apply Keep.ite) | split | (with_reducible refine Keep.snd (by with_reducible assumption) ?_))

theorem declareReceive_keep {M : Nat} {z0 : State} (hM : M &&& 0xD9C00 = 0xD9C00) (pk : Trans) (s : State) (hk : Keep M z0 s) : Keep M z0 (declareReceive pk s) := by
  refine hk.trans ?_
  have m0 : M &&& 0x10000 = 0x10000 := Keep.sub hM rfl
  have m1 : M &&& 0xC0C00 = 0xC0C00 := Keep.sub hM rfl
  have m2 : M &&& 0xC8000 = 0xC8000 := Keep.sub hM rfl
  have m3 : M &&& 0xD1400 = 0xD1400 := Keep.sub hM rfl
  have m4 : M &&& 0x800 = 0x800 := Keep.sub hM rfl
  have b_det : M.testBit 16 = true := Keep.bit hM rfl
  unfold declareReceive
  try dsimp only
  repeat' (first | (with_reducible exact Keep.refl _ _) | (fail_if_no_progress (with_reducible apply Keep.upd_det b_det)) | (with_reducible apply State.dropSuspicion_keep m0) | (with_reducible apply State.passDeclare_keep m1) | (with_reducible apply State.selfFence_keep m2) | (with_reducible apply State.fencePosition_keep m3) | (with_reducible apply State.detRefuse_keep m0) | (with_reducible apply State.takePk_keep m4) | (with_reducible apply Keep.ite) | split)

theorem evictionAction_keep {M : Nat} {z0 : State} (hM : M &&& 0xD9C00 = 0xD9C00) (pos : U32) (_reason : U32) (key : U16) (s : State) (hk : Keep M z0 s) : Keep M z0 (evictionAction pos _reason key s) := by
  refine hk.trans ?_
  have m0 : M &&& 0xD9C00 = 0xD9C00 := Keep.sub hM rfl
  have m1 : M &&& 0x10000 = 0x10000 := Keep.sub hM rfl
  have m2 : M &&& 0xC0000 = 0xC0000 := Keep.sub hM rfl
  unfold evictionAction
  try dsimp only
  repeat' (first | (with_reducible exact Keep.refl _ _) | (with_reducible apply State.flagFall_keep m0) | (with_reducible apply State.detRefuse_keep m1) | (with_reducible apply State.record_keep m2) | (with_reducible apply Keep.ite) | split)

theorem epochFenceAction_keep {M : Nat} {z0 : State} (hM : M &&& 0xEFBFF8 = 0xEFBFF8) (v : U32) (s : State) (hk : Keep M z0 s) : Keep M z0 (epochFenceAction v s) := by
  refine hk.trans ?_
  have m0 : M &&& 0xEFBFF8 = 0xEFBFF8 := Keep.sub hM rfl
  have m1 : M &&& 0xC0000 = 0xC0000 := Keep.sub hM rfl
  have b_det : M.testBit 16 = true := Keep.bit hM rfl
  unfold epochFenceAction
  try dsimp only
  repeat' (first | (with_reducible exact Keep.refl _ _) | (fail_if_no_progress (with_reducible apply Keep.upd_det b_det)) | (with_reducible apply State.installEpoch_keep m0) | (with_reducible apply State.record_keep m1) | (with_reducible apply Keep.ite) | split)

theorem epochInstallReceive_keep {M : Nat} {z0 : State} (hM : M &&& 0xEFBFF8 = 0xEFBFF8) (pk : Trans) (s : State) (hk : Keep M z0 s) : Keep M z0 (epochInstallReceive pk s) := by
  refine hk.trans ?_
  have m0 : M &&& 0xEFBFF8 = 0xEFBFF8 := Keep.sub hM rfl
  have m1 : M &&& 0xC8000 = 0xC8000 := Keep.sub hM rfl
  have m2 : M &&& 0x10000 = 0x10000 := Keep.sub hM rfl
  have m3 : M &&& 0xC0C00 = 0xC0C00 := Keep.sub hM rfl
  have m4 : M &&& 0x800 = 0x800 := Keep.sub hM rfl
  unfold epochInstallReceive
  try dsimp only
  repeat' (first | (with_reducible exact Keep.refl _ _) | (with_reducible apply State.installEpoch_keep m0) | (with_reducible apply State.selfFence_keep m1) | (with_reducible apply State.detRefuse_keep m2) | (with_reducible apply State.sendFence_keep m3) | (with_reducible apply State.takePk_keep m4) | (with_reducible apply Keep.ite) | split | (with_reducible refine Keep.snd (by with_reducible assumption) ?_))

theorem installedReceive_keep {M : Nat} {z0 : State} (hM : M &&& 0x4D8C00 = 0x4D8C00) (pk : Trans) (s : State) (hk : Keep M z0 s) : Keep M z0 (installedReceive pk s) := by
  refine hk.trans ?_
  have m0 : M &&& 0x4D8C00 = 0x4D8C00 := Keep.sub hM rfl
  have m1 : M &&& 0x800 = 0x800 := Keep.sub hM rfl
  have b_det : M.testBit 16 = true := Keep.bit hM rfl
  unfold installedReceive
  try dsimp only
  repeat' (first | (with_reducible exact Keep.refl _ _) | (fail_if_no_progress (with_reducible apply Keep.upd_det b_det)) | (with_reducible apply State.settleInstall_keep m0) | (with_reducible apply State.takePk_keep m1) | (with_reducible apply Keep.ite) | split | (with_reducible refine Keep.snd (by with_reducible assumption) ?_))

theorem State.unitOff_keep {M : Nat} {z0 : State} (hM : M &&& 0xC00C0 = 0xC00C0) (u : U16) (s : State) (hk : Keep M z0 s) : Keep M z0 (State.unitOff u s) := by
  refine hk.trans ?_
  have m0 : M &&& 0xC0 = 0xC0 := Keep.sub hM rfl
  have m1 : M &&& 0xC0040 = 0xC0040 := Keep.sub hM rfl
  have m2 : M &&& 0x40 = 0x40 := Keep.sub hM rfl
  have b_upd : M.testBit 6 = true := Keep.bit hM rfl
  have b_vec : M.testBit 7 = true := Keep.bit hM rfl
  unfold State.unitOff
  try dsimp only
  repeat' (first | (with_reducible exact Keep.refl _ _) | (fail_if_no_progress (with_reducible apply Keep.upd_upd b_upd)) | (fail_if_no_progress (with_reducible apply Keep.upd_vec b_vec)) | (fail_if_no_progress ((with_reducible refine Keep.updAll ?_ ?_ ?_ ?_ ?_ ?_ ?_ ?_ ?_ ?_ ?_ ?_ ?_ ?_ ?_ ?_ ?_ ?_ ?_ ?_ ?_ ?_ ?_ ?_ ?_ ?_); iterate 25 (first | (with_reducible rfl) | (with_reducible exact fun _ => rfl) | (exact fun b => absurd (b.symm.trans (Keep.bit hM rfl)) (by decide))))) | (with_reducible apply State.drainCore_keep m0) | (with_reducible apply State.noPipe_keep m1) | (with_reducible apply State.drainPipe_keep m2) | (with_reducible apply Keep.ite) | split)

theorem State.unitOn_keep {M : Nat} {z0 : State} (hM : M &&& 0xC0 = 0xC0) (u : U16) (s : State) (hk : Keep M z0 s) : Keep M z0 (State.unitOn u s) := by
  refine hk.trans ?_
  have b_upd : M.testBit 6 = true := Keep.bit hM rfl
  have b_vec : M.testBit 7 = true := Keep.bit hM rfl
  unfold State.unitOn
  try dsimp only
  repeat' (first | (with_reducible exact Keep.refl _ _) | (fail_if_no_progress (with_reducible apply Keep.upd_upd b_upd)) | (fail_if_no_progress (with_reducible apply Keep.upd_vec b_vec)) | (fail_if_no_progress ((with_reducible refine Keep.updAll ?_ ?_ ?_ ?_ ?_ ?_ ?_ ?_ ?_ ?_ ?_ ?_ ?_ ?_ ?_ ?_ ?_ ?_ ?_ ?_ ?_ ?_ ?_ ?_ ?_ ?_); iterate 25 (first | (with_reducible rfl) | (with_reducible exact fun _ => rfl) | (exact fun b => absurd (b.symm.trans (Keep.bit hM rfl)) (by decide))))) | (with_reducible apply Keep.ite) | split)

theorem State.setRetired_keep {M : Nat} {z0 : State} (hM : M &&& 0x20000 = 0x20000) (u : U16) (s : State) (hk : Keep M z0 s) : Keep M z0 (State.setRetired u s) := by
  refine hk.trans ?_
  have b_health : M.testBit 17 = true := Keep.bit hM rfl
  unfold State.setRetired
  try dsimp only
  repeat' (first | (with_reducible exact Keep.refl _ _) | (fail_if_no_progress (with_reducible apply Keep.upd_health b_health)))

theorem State.retireEffect_keep {M : Nat} {z0 : State} (hM : M &&& 0xF0CC0 = 0xF0CC0) (u : U16) (s : State) (hk : Keep M z0 s) : Keep M z0 (State.retireEffect u s) := by
  refine hk.trans ?_
  have m0 : M &&& 0xC00C0 = 0xC00C0 := Keep.sub hM rfl
  have m1 : M &&& 0x400 = 0x400 := Keep.sub hM rfl
  have m2 : M &&& 0xD0C00 = 0xD0C00 := Keep.sub hM rfl
  have b_health : M.testBit 17 = true := Keep.bit hM rfl
  unfold State.retireEffect
  try dsimp only
  repeat' (first | (with_reducible exact Keep.refl _ _) | (fail_if_no_progress (with_reducible apply Keep.upd_health b_health)) | (with_reducible apply State.unitOff_keep m0) | (with_reducible apply portDisable_keep m1) | (with_reducible apply State.loseAgent_keep m2) | (with_reducible apply Keep.ite) | split)

theorem retireAction_keep {M : Nat} {z0 : State} (hM : M &&& 0x2F0CC0 = 0x2F0CC0) (u : U16) (s : State) (hk : Keep M z0 s) : Keep M z0 (retireAction u s) := by
  refine hk.trans ?_
  have m0 : M &&& 0xF0CC0 = 0xF0CC0 := Keep.sub hM rfl
  have m1 : M &&& 0x20000 = 0x20000 := Keep.sub hM rfl
  have m2 : M &&& 0x2C0000 = 0x2C0000 := Keep.sub hM rfl
  have m3 : M &&& 0xC0000 = 0xC0000 := Keep.sub hM rfl
  unfold retireAction
  try dsimp only
  repeat' (first | (with_reducible exact Keep.refl _ _) | (with_reducible apply State.retireEffect_keep m0) | (with_reducible apply State.setRetired_keep m1) | (with_reducible apply State.updateCooling_keep m2) | (with_reducible apply State.record_keep m3) | (with_reducible apply Keep.ite) | split)

theorem State.clearRec_keep {M : Nat} {z0 : State} (hM : M &&& 0x800000 = 0x800000) (s : State) (key : U16) (n : Nat) (hk : Keep M z0 s) : Keep M z0 (State.clearRec s key n).2 := by
  refine hk.trans ?_
  have m0 : M &&& 0x800000 = 0x800000 := Keep.sub hM rfl
  unfold State.clearRec
  try dsimp only
  repeat' (first | (with_reducible exact Keep.refl _ _) | (with_reducible apply State.free_keep m0) | split | dsimp only | (with_reducible refine Keep.snd (by with_reducible assumption) ?_))

theorem clearHistory_keep {M : Nat} {z0 : State} (hM : M &&& 0xAE0000 = 0xAE0000) (key : U16) (s : State) (hk : Keep M z0 s) : Keep M z0 (clearHistory key s) := by
  refine hk.trans ?_
  have m0 : M &&& 0x800000 = 0x800000 := Keep.sub hM rfl
  have m1 : M &&& 0x2C0000 = 0x2C0000 := Keep.sub hM rfl
  have m2 : M &&& 0xC0000 = 0xC0000 := Keep.sub hM rfl
  have m3 : M &&& 0x40000 = 0x40000 := Keep.sub hM rfl
  have b_health : M.testBit 17 = true := Keep.bit hM rfl
  unfold clearHistory
  try dsimp only
  repeat' (first | (with_reducible exact Keep.refl _ _) | (with_reducible assumption) | (fail_if_no_progress (with_reducible apply Keep.upd_health b_health)) | (with_reducible apply State.clearRec_keep m0) | (with_reducible apply State.updateCooling_keep m1) | (with_reducible apply State.record_keep m2) | (with_reducible apply State.countBytes_keep m3) | split | dsimp only | (with_reducible refine Keep.snd (by with_reducible assumption) ?_))

theorem State.setGambit_keep {M : Nat} {z0 : State} (hM : M &&& 0x20000 = 0x20000) (f : Gambit → Gambit) (s : State) (hk : Keep M z0 s) : Keep M z0 (State.setGambit f s) := by
  refine hk.trans ?_
  have b_health : M.testBit 17 = true := Keep.bit hM rfl
  unfold State.setGambit
  try dsimp only
  repeat' (first | (with_reducible exact Keep.refl _ _) | (with_reducible assumption) | (fail_if_no_progress (with_reducible apply Keep.upd_health b_health)))

theorem State.sendGambit_keep {M : Nat} {z0 : State} (hM : M &&& 0xC0C00 = 0xC0C00) (p : Port) (q : GambitReq) (s : State) (hk : Keep M z0 s) : Keep M z0 (State.sendGambit p q s) := by
  refine hk.trans ?_
  have m0 : M &&& 0xC0C00 = 0xC0C00 := Keep.sub hM rfl
  unfold State.sendGambit
  try dsimp only
  repeat' (first | (with_reducible exact Keep.refl _ _) | (with_reducible apply State.sendFence_keep m0) | (with_reducible apply Keep.ite) | split | (with_reducible refine Keep.snd (by with_reducible assumption) ?_))

theorem State.startGambit_keep {M : Nat} {z0 : State} (hM : M &&& 0x2E0CC0 = 0x2E0CC0) (q : GambitReq) (seq : U32) (fired : Bool) (s : State) (hk : Keep M z0 s) : Keep M z0 (State.startGambit q seq fired s) := by
  refine hk.trans ?_
  have m0 : M &&& 0xC0C00 = 0xC0C00 := Keep.sub hM rfl
  have m1 : M &&& 0xC00C0 = 0xC00C0 := Keep.sub hM rfl
  have m2 : M &&& 0x2C0000 = 0x2C0000 := Keep.sub hM rfl
  have b_health : M.testBit 17 = true := Keep.bit hM rfl
  unfold State.startGambit
  try dsimp only
  repeat' (first | (with_reducible exact Keep.refl _ _) | (fail_if_no_progress (with_reducible apply Keep.upd_health b_health)) | (with_reducible apply State.sendGambit_keep m0) | (with_reducible apply State.unitOff_keep m1) | (with_reducible apply State.updateCooling_keep m2) | (with_reducible apply Keep.ite) | split)

theorem gambitAction_keep {M : Nat} {z0 : State} (hM : M &&& 0x2E0CC0 = 0x2E0CC0) (bytes : List Byte) (s : State) (hk : Keep M z0 s) : Keep M z0 (gambitAction bytes s) := by
  refine hk.trans ?_
  have m0 : M &&& 0x2E0CC0 = 0x2E0CC0 := Keep.sub hM rfl
  have m1 : M &&& 0x20000 = 0x20000 := Keep.sub hM rfl
  have m2 : M &&& 0xC0000 = 0xC0000 := Keep.sub hM rfl
  have b_health : M.testBit 17 = true := Keep.bit hM rfl
  unfold gambitAction
  try dsimp only
  repeat' (first | (with_reducible exact Keep.refl _ _) | (with_reducible assumption) | (fail_if_no_progress (with_reducible apply Keep.upd_health b_health)) | (with_reducible apply State.startGambit_keep m0) | (with_reducible apply State.setGambit_keep m1) | (with_reducible apply State.record_keep m2) | (with_reducible apply Keep.ite) | split | dsimp only | (with_reducible refine Keep.snd (by with_reducible assumption) ?_))

theorem State.setTemp_keep {M : Nat} {z0 : State} (hM : M &&& 0x200000 = 0x200000) (i : Nat) (t : U16) (s : State) (hk : Keep M z0 s) : Keep M z0 (State.setTemp i t s) := by
  refine hk.trans ?_
  have b_pwr : M.testBit 21 = true := Keep.bit hM rfl
  unfold State.setTemp
  try dsimp only
  repeat' (first | (with_reducible exact Keep.refl _ _) | (fail_if_no_progress (with_reducible apply Keep.upd_pwr b_pwr)) | (with_reducible apply Keep.ite) | split)

theorem State.setPct_keep {M : Nat} {z0 : State} (hM : M &&& 0x200000 = 0x200000) (i : Nat) (v : Nat) (s : State) (hk : Keep M z0 s) : Keep M z0 (State.setPct i v s) := by
  refine hk.trans ?_
  have b_pwr : M.testBit 21 = true := Keep.bit hM rfl
  unfold State.setPct
  try dsimp only
  repeat' (first | (with_reducible exact Keep.refl _ _) | (fail_if_no_progress (with_reducible apply Keep.upd_pwr b_pwr)) | (with_reducible apply Keep.ite) | split)

theorem gambitTempStable_keep {M : Nat} {z0 : State} (hM : M &&& 0x2E0000 = 0x2E0000) (temp : U16) (s : State) (hk : Keep M z0 s) : Keep M z0 (gambitTempStable temp s) := by
  refine hk.trans ?_
  have m0 : M &&& 0x200000 = 0x200000 := Keep.sub hM rfl
  have m1 : M &&& 0x20000 = 0x20000 := Keep.sub hM rfl
  have m2 : M &&& 0x2C0000 = 0x2C0000 := Keep.sub hM rfl
  unfold gambitTempStable
  try dsimp only
  repeat' (first | (with_reducible exact Keep.refl _ _) | (with_reducible assumption) | (with_reducible apply State.setTemp_keep m0) | (with_reducible apply State.setGambit_keep m1) | (with_reducible apply State.updateCooling_keep m2) | (with_reducible apply Keep.ite) | split | dsimp only)

theorem gambitRampDone_keep {M : Nat} {z0 : State} (hM : M &&& 0x220000 = 0x220000) (s : State) (hk : Keep M z0 s) : Keep M z0 (gambitRampDone s) := by
  refine hk.trans ?_
  have m0 : M &&& 0x200000 = 0x200000 := Keep.sub hM rfl
  have m1 : M &&& 0x20000 = 0x20000 := Keep.sub hM rfl
  unfold gambitRampDone
  try dsimp only
  repeat' (first | (with_reducible exact Keep.refl _ _) | (with_reducible assumption) | (with_reducible apply State.setPct_keep m0) | (with_reducible apply State.setGambit_keep m1) | (with_reducible apply Keep.ite) | split | dsimp only)

theorem State.endGambit_keep {M : Nat} {z0 : State} (hM : M &&& 0x2E00C0 = 0x2E00C0) (s : State) (hk : Keep M z0 s) : Keep M z0 (State.endGambit s) := by
  refine hk.trans ?_
  have m0 : M &&& 0x200000 = 0x200000 := Keep.sub hM rfl
  have m1 : M &&& 0x20000 = 0x20000 := Keep.sub hM rfl
  have m2 : M &&& 0xC0 = 0xC0 := Keep.sub hM rfl
  have m3 : M &&& 0x2C0000 = 0x2C0000 := Keep.sub hM rfl
  unfold State.endGambit
  try dsimp only
  repeat' (first | (with_reducible exact Keep.refl _ _) | (with_reducible assumption) | (with_reducible apply State.setPct_keep m0) | (with_reducible apply State.setGambit_keep m1) | (with_reducible apply State.unitOn_keep m2) | (with_reducible apply State.updateCooling_keep m3) | (with_reducible apply Keep.ite) | split | dsimp only)

theorem State.gambitResult_keep {M : Nat} {z0 : State} (hM : M &&& 0x2E0000 = 0x2E0000) (errors : U32) (s : State) (hk : Keep M z0 s) : Keep M z0 (State.gambitResult errors s) := by
  refine hk.trans ?_
  have m0 : M &&& 0x20000 = 0x20000 := Keep.sub hM rfl
  have m1 : M &&& 0x2E0000 = 0x2E0000 := Keep.sub hM rfl
  have m2 : M &&& 0xC0000 = 0xC0000 := Keep.sub hM rfl
  have b_health : M.testBit 17 = true := Keep.bit hM rfl
  unfold State.gambitResult
  try dsimp only
  repeat' (first | (with_reducible exact Keep.refl _ _) | (with_reducible assumption) | (fail_if_no_progress (with_reducible apply Keep.upd_health b_health)) | (with_reducible apply State.setGambit_keep m0) | (with_reducible apply State.charge_keep m1) | (with_reducible apply State.record_keep m2) | (with_reducible apply Keep.ite) | split | dsimp only)

theorem State.finishGambit_keep {M : Nat} {z0 : State} (hM : M &&& 0x2E00C0 = 0x2E00C0) (errors : U32) (s : State) (hk : Keep M z0 s) : Keep M z0 (State.finishGambit errors s) := by
  refine hk.trans ?_
  have m0 : M &&& 0x2E0000 = 0x2E0000 := Keep.sub hM rfl
  have m1 : M &&& 0x2E00C0 = 0x2E00C0 := Keep.sub hM rfl
  have m2 : M &&& 0xC0000 = 0xC0000 := Keep.sub hM rfl
  unfold State.finishGambit
  try dsimp only
  repeat' (first | (with_reducible exact Keep.refl _ _) | (with_reducible apply State.gambitResult_keep m0) | (with_reducible apply State.endGambit_keep m1) | (with_reducible apply State.record_keep m2))

theorem gambitDurationEnd_keep {M : Nat} {z0 : State} (hM : M &&& 0x2E00C0 = 0x2E00C0) (errors : U32) (s : State) (hk : Keep M z0 s) : Keep M z0 (gambitDurationEnd errors s) := by
  refine hk.trans ?_
  have m0 : M &&& 0x2E00C0 = 0x2E00C0 := Keep.sub hM rfl
  unfold gambitDurationEnd
  try dsimp only
  repeat' (first | (with_reducible exact Keep.refl _ _) | (with_reducible apply State.finishGambit_keep m0) | (with_reducible apply Keep.ite) | split)

theorem State.abortGambit_keep {M : Nat} {z0 : State} (hM : M &&& 0x2E00C0 = 0x2E00C0) (n : Nat) (s : State) (hk : Keep M z0 s) : Keep M z0 (State.abortGambit n s) := by
  refine hk.trans ?_
  have m0 : M &&& 0x2E00C0 = 0x2E00C0 := Keep.sub hM rfl
  have m1 : M &&& 0x20000 = 0x20000 := Keep.sub hM rfl
  have m2 : M &&& 0xC0000 = 0xC0000 := Keep.sub hM rfl
  have b_health : M.testBit 17 = true := Keep.bit hM rfl
  unfold State.abortGambit
  try dsimp only
  repeat' (first | (with_reducible exact Keep.refl _ _) | (with_reducible assumption) | (fail_if_no_progress (with_reducible apply Keep.upd_health b_health)) | (with_reducible apply State.endGambit_keep m0) | (with_reducible apply State.setGambit_keep m1) | (with_reducible apply State.record_keep m2) | dsimp only)

theorem gambitAbort_keep {M : Nat} {z0 : State} (hM : M &&& 0x2E00C0 = 0x2E00C0) (c : AbortCause) (s : State) (hk : Keep M z0 s) : Keep M z0 (gambitAbort c s) := by
  refine hk.trans ?_
  have m0 : M &&& 0x2E00C0 = 0x2E00C0 := Keep.sub hM rfl
  unfold gambitAbort
  try dsimp only
  repeat' (first | (with_reducible exact Keep.refl _ _) | (with_reducible apply State.abortGambit_keep m0) | (with_reducible apply Keep.ite) | split)

theorem gambitReplyTimeout_keep {M : Nat} {z0 : State} (hM : M &&& 0x6E00C0 = 0x6E00C0) (s : State) (hk : Keep M z0 s) : Keep M z0 (gambitReplyTimeout s) := by
  refine hk.trans ?_
  have m0 : M &&& 0x2E00C0 = 0x2E00C0 := Keep.sub hM rfl
  have m1 : M &&& 0x4C0000 = 0x4C0000 := Keep.sub hM rfl
  have b_exer : M.testBit 22 = true := Keep.bit hM rfl
  unfold gambitReplyTimeout
  try dsimp only
  repeat' (first | (with_reducible exact Keep.refl _ _) | (with_reducible assumption) | (fail_if_no_progress (with_reducible apply Keep.upd_exer b_exer)) | (with_reducible apply State.abortGambit_keep m0) | (with_reducible apply State.exerCheck_keep m1) | (with_reducible apply Keep.foldl) | (with_reducible apply Keep.foldl2) | (with_reducible apply Keep.foldl3) | (intro) | (with_reducible apply Keep.ite) | split | dsimp only)

theorem retestStart_keep {M : Nat} {z0 : State} (hM : M &&& 0x2E0CC0 = 0x2E0CC0) (u : U16) (s : State) (hk : Keep M z0 s) : Keep M z0 (retestStart u s) := by
  refine hk.trans ?_
  have m0 : M &&& 0x2E0CC0 = 0x2E0CC0 := Keep.sub hM rfl
  have b_health : M.testBit 17 = true := Keep.bit hM rfl
  unfold retestStart
  try dsimp only
  repeat' (first | (with_reducible exact Keep.refl _ _) | (with_reducible assumption) | (fail_if_no_progress (with_reducible apply Keep.upd_health b_health)) | (with_reducible apply State.startGambit_keep m0) | (with_reducible apply Keep.ite) | split | dsimp only | (with_reducible refine Keep.snd (by with_reducible assumption) ?_))

theorem agentReportReceive_keep {M : Nat} {z0 : State} (hM : M &&& 0x2F0CC0 = 0x2F0CC0) (p : Port) (pk : Trans) (s : State) (hk : Keep M z0 s) : Keep M z0 (agentReportReceive p pk s) := by
  refine hk.trans ?_
  have m0 : M &&& 0x2E00C0 = 0x2E00C0 := Keep.sub hM rfl
  have m1 : M &&& 0x20000 = 0x20000 := Keep.sub hM rfl
  have m2 : M &&& 0xD0C00 = 0xD0C00 := Keep.sub hM rfl
  have m3 : M &&& 0x800 = 0x800 := Keep.sub hM rfl
  have m4 : M &&& 0x400 = 0x400 := Keep.sub hM rfl
  have m5 : M &&& 0x2E0000 = 0x2E0000 := Keep.sub hM rfl
  have m6 : M &&& 0xC0000 = 0xC0000 := Keep.sub hM rfl
  have b_pwr : M.testBit 21 = true := Keep.bit hM rfl
  unfold agentReportReceive
  try dsimp only
  repeat' (first | (with_reducible exact Keep.refl _ _) | (with_reducible assumption) | (fail_if_no_progress (with_reducible apply Keep.upd_pwr b_pwr)) | (with_reducible apply State.finishGambit_keep m0) | (with_reducible apply State.setGambit_keep m1) | (with_reducible apply State.loseAgent_keep m2) | (with_reducible apply State.takePk_keep m3) | (with_reducible apply State.setPort_keep m4) | (with_reducible apply State.charge_keep m5) | (with_reducible apply State.record_keep m6) | (with_reducible apply Keep.ite) | split | dsimp only)

theorem State.lower_keep {M : Nat} {z0 : State} (hM : M &&& 0x200000 = 0x200000) (i : Nat) (s : State) (hk : Keep M z0 s) : Keep M z0 (State.lower i s) := by
  refine hk.trans ?_
  have m0 : M &&& 0x200000 = 0x200000 := Keep.sub hM rfl
  unfold State.lower
  try dsimp only
  repeat' (first | (with_reducible exact Keep.refl _ _) | (with_reducible apply State.setPct_keep m0) | (with_reducible apply Keep.ite) | split)

theorem State.raise_keep {M : Nat} {z0 : State} (hM : M &&& 0x200000 = 0x200000) (i : Nat) (s : State) (hk : Keep M z0 s) : Keep M z0 (State.raise i s) := by
  refine hk.trans ?_
  have m0 : M &&& 0x200000 = 0x200000 := Keep.sub hM rfl
  unfold State.raise
  try dsimp only
  repeat' (first | (with_reducible exact Keep.refl _ _) | (with_reducible apply State.setPct_keep m0) | (with_reducible apply Keep.ite) | split)

theorem State.recordAlarm3_keep {M : Nat} {z0 : State} (hM : M &&& 0xC0000 = 0xC0000) (e : Event) (s : State) (hk : Keep M z0 s) : Keep M z0 (State.recordAlarm3 e s) := by
  refine hk.trans ?_
  have m0 : M &&& 0xC0000 = 0xC0000 := Keep.sub hM rfl
  have b_tele : M.testBit 18 = true := Keep.bit hM rfl
  unfold State.recordAlarm3
  try dsimp only
  repeat' (first | (with_reducible exact Keep.refl _ _) | (fail_if_no_progress (with_reducible apply Keep.upd_tele b_tele)) | (with_reducible apply State.record_keep m0) | (with_reducible apply Keep.ite) | split)

theorem State.noteThrottle_keep {M : Nat} {z0 : State} (hM : M &&& 0x2C0000 = 0x2C0000) (s : State) (hk : Keep M z0 s) : Keep M z0 (State.noteThrottle s) := by
  refine hk.trans ?_
  have m0 : M &&& 0xC0000 = 0xC0000 := Keep.sub hM rfl
  have b_pwr : M.testBit 21 = true := Keep.bit hM rfl
  unfold State.noteThrottle
  try dsimp only
  repeat' (first | (with_reducible exact Keep.refl _ _) | (fail_if_no_progress (with_reducible apply Keep.upd_pwr b_pwr)) | (with_reducible apply State.recordAlarm3_keep m0) | (with_reducible apply Keep.ite) | split)

theorem State.stepDown_keep {M : Nat} {z0 : State} (hM : M &&& 0x2C0000 = 0x2C0000) (s : State) (hk : Keep M z0 s) : Keep M z0 (State.stepDown s) := by
  refine hk.trans ?_
  have m0 : M &&& 0x2C0000 = 0x2C0000 := Keep.sub hM rfl
  have m1 : M &&& 0x200000 = 0x200000 := Keep.sub hM rfl
  have m2 : M &&& 0xC0000 = 0xC0000 := Keep.sub hM rfl
  have b_pwr : M.testBit 21 = true := Keep.bit hM rfl
  unfold State.stepDown
  try dsimp only
  repeat' (first | (with_reducible exact Keep.refl _ _) | (with_reducible assumption) | (fail_if_no_progress (with_reducible apply Keep.upd_pwr b_pwr)) | (with_reducible apply State.noteThrottle_keep m0) | (with_reducible apply State.lower_keep m1) | (with_reducible apply State.record_keep m2) | (with_reducible apply Keep.foldl) | (with_reducible apply Keep.foldl2) | (with_reducible apply Keep.foldl3) | (intro) | (with_reducible apply Keep.ite) | split | dsimp only | (with_reducible refine Keep.snd (by with_reducible assumption) ?_))

theorem State.stepUp_keep {M : Nat} {z0 : State} (hM : M &&& 0x200000 = 0x200000) (s : State) (hk : Keep M z0 s) : Keep M z0 (State.stepUp s) := by
  refine hk.trans ?_
  have m0 : M &&& 0x200000 = 0x200000 := Keep.sub hM rfl
  unfold State.stepUp
  try dsimp only
  repeat' (first | (with_reducible exact Keep.refl _ _) | (with_reducible assumption) | (with_reducible apply State.raise_keep m0) | (with_reducible apply Keep.foldl) | (with_reducible apply Keep.foldl2) | (with_reducible apply Keep.foldl3) | (intro) | split | dsimp only | (with_reducible refine Keep.snd (by with_reducible assumption) ?_))

theorem powerAverageTick_keep {M : Nat} {z0 : State} (hM : M &&& 0x2C0000 = 0x2C0000) (watts : U16) (s : State) (hk : Keep M z0 s) : Keep M z0 (powerAverageTick watts s) := by
  refine hk.trans ?_
  have m0 : M &&& 0x200000 = 0x200000 := Keep.sub hM rfl
  have m1 : M &&& 0x2C0000 = 0x2C0000 := Keep.sub hM rfl
  have b_pwr : M.testBit 21 = true := Keep.bit hM rfl
  unfold powerAverageTick
  try dsimp only
  repeat' (first | (with_reducible exact Keep.refl _ _) | (fail_if_no_progress (with_reducible apply Keep.upd_pwr b_pwr)) | (with_reducible apply State.stepUp_keep m0) | (with_reducible apply State.stepDown_keep m1) | (with_reducible apply Keep.ite) | split)

theorem State.checkCritical_keep {M : Nat} {z0 : State} (hM : M &&& 0x2C8000 = 0x2C8000) (i : Nat) (old : U16) (s : State) (hk : Keep M z0 s) : Keep M z0 (State.checkCritical i old s) := by
  refine hk.trans ?_
  have m0 : M &&& 0xC8000 = 0xC8000 := Keep.sub hM rfl
  have b_pwr : M.testBit 21 = true := Keep.bit hM rfl
  unfold State.checkCritical
  try dsimp only
  repeat' (first | (with_reducible exact Keep.refl _ _) | (fail_if_no_progress (with_reducible apply Keep.upd_pwr b_pwr)) | (with_reducible apply State.enterSafe_keep m0) | (with_reducible apply Keep.ite) | split)

theorem thermalSample_keep {M : Nat} {z0 : State} (hM : M &&& 0x2C8000 = 0x2C8000) (temps : List U16) (s : State) (hk : Keep M z0 s) : Keep M z0 (thermalSample temps s) := by
  refine hk.trans ?_
  have m0 : M &&& 0x2C8000 = 0x2C8000 := Keep.sub hM rfl
  have m1 : M &&& 0x2C0000 = 0x2C0000 := Keep.sub hM rfl
  have m2 : M &&& 0x200000 = 0x200000 := Keep.sub hM rfl
  unfold thermalSample
  try dsimp only
  repeat' (first | (with_reducible exact Keep.refl _ _) | (with_reducible assumption) | (with_reducible apply State.checkCritical_keep m0) | (with_reducible apply State.noteThrottle_keep m1) | (with_reducible apply State.lower_keep m2) | (with_reducible apply State.setTemp_keep m2) | (with_reducible apply State.updateCooling_keep m1) | (with_reducible apply Keep.foldl) | (with_reducible apply Keep.foldl2) | (with_reducible apply Keep.foldl3) | (intro) | (with_reducible apply Keep.ite) | split | dsimp only | (with_reducible refine Keep.snd (by with_reducible assumption) ?_))

theorem State.reservoirOut_keep {M : Nat} {z0 : State} (hM : M &&& 0xAC0000 = 0xAC0000) (i : Fin 2) (c : ResCause) (s : State) (hk : Keep M z0 s) : Keep M z0 (State.reservoirOut i c s) := by
  refine hk.trans ?_
  have m0 : M &&& 0x2C0000 = 0x2C0000 := Keep.sub hM rfl
  have m1 : M &&& 0xA00000 = 0xA00000 := Keep.sub hM rfl
  have m2 : M &&& 0x200000 = 0x200000 := Keep.sub hM rfl
  have m3 : M &&& 0xC0000 = 0xC0000 := Keep.sub hM rfl
  unfold State.reservoirOut
  try dsimp only
  repeat' (first | (with_reducible exact Keep.refl _ _) | (with_reducible assumption) | (with_reducible apply State.checkStanding_keep m0) | (with_reducible apply State.bleed_keep m1) | (with_reducible apply State.setHu_keep m2) | (with_reducible apply State.record_keep m3) | (with_reducible apply Keep.ite) | split | dsimp only)

theorem reservoirCharged_keep {M : Nat} {z0 : State} (hM : M &&& 0x2C0000 = 0x2C0000) (i : Fin 2) (s : State) (hk : Keep M z0 s) : Keep M z0 (reservoirCharged i s) := by
  refine hk.trans ?_
  have m0 : M &&& 0x2C0000 = 0x2C0000 := Keep.sub hM rfl
  have m1 : M &&& 0x200000 = 0x200000 := Keep.sub hM rfl
  have b_pwr : M.testBit 21 = true := Keep.bit hM rfl
  unfold reservoirCharged
  try dsimp only
  repeat' (first | (with_reducible exact Keep.refl _ _) | (with_reducible assumption) | (fail_if_no_progress (with_reducible apply Keep.upd_pwr b_pwr)) | (with_reducible apply State.checkStanding_keep m0) | (with_reducible apply State.setHu_keep m1) | (with_reducible apply Keep.ite) | split | dsimp only)

theorem marginWrite_keep {M : Nat} {z0 : State} (hM : M &&& 0x2C0000 = 0x2C0000) (v : U32) (s : State) (hk : Keep M z0 s) : Keep M z0 (marginWrite v s) := by
  refine hk.trans ?_
  have m0 : M &&& 0x2C0000 = 0x2C0000 := Keep.sub hM rfl
  have b_pwr : M.testBit 21 = true := Keep.bit hM rfl
  unfold marginWrite
  try dsimp only
  repeat' (first | (with_reducible exact Keep.refl _ _) | (fail_if_no_progress (with_reducible apply Keep.upd_pwr b_pwr)) | (with_reducible apply State.checkStanding_keep m0))

theorem ceilingWrite_keep {M : Nat} {z0 : State} (hM : M &&& 0x2C0000 = 0x2C0000) (i : Fin 2) (v : U32) (s : State) (hk : Keep M z0 s) : Keep M z0 (ceilingWrite i v s) := by
  refine hk.trans ?_
  have m0 : M &&& 0x2C0000 = 0x2C0000 := Keep.sub hM rfl
  have m1 : M &&& 0x200000 = 0x200000 := Keep.sub hM rfl
  unfold ceilingWrite
  try dsimp only
  repeat' (first | (with_reducible exact Keep.refl _ _) | (with_reducible assumption) | (with_reducible apply State.checkStanding_keep m0) | (with_reducible apply State.setHu_keep m1) | (with_reducible apply Keep.ite) | split | dsimp only)

theorem State.ledgerFault_keep {M : Nat} {z0 : State} (hM : M &&& 0xAC8000 = 0xAC8000) (args : List Byte) (s : State) (hk : Keep M z0 s) : Keep M z0 (State.ledgerFault args s) := by
  refine hk.trans ?_
  have m0 : M &&& 0xAC0000 = 0xAC0000 := Keep.sub hM rfl
  have m1 : M &&& 0x88000 = 0x88000 := Keep.sub hM rfl
  have m2 : M &&& 0xC0000 = 0xC0000 := Keep.sub hM rfl
  unfold State.ledgerFault
  try dsimp only
  repeat' (first | (with_reducible exact Keep.refl _ _) | (with_reducible apply State.reservoirOut_keep m0) | (with_reducible apply State.setDev_keep m1) | (with_reducible apply State.record_keep m2))

theorem ledgerReconcile_keep {M : Nat} {z0 : State} (hM : M &&& 0xAC8000 = 0xAC8000) (measured : List U32) (s : State) (hk : Keep M z0 s) : Keep M z0 (ledgerReconcile measured s) := by
  refine hk.trans ?_
  have m0 : M &&& 0xAC8000 = 0xAC8000 := Keep.sub hM rfl
  have m1 : M &&& 0x2C0000 = 0x2C0000 := Keep.sub hM rfl
  have m2 : M &&& 0x200000 = 0x200000 := Keep.sub hM rfl
  unfold ledgerReconcile
  try dsimp only
  repeat' (first | (with_reducible exact Keep.refl _ _) | (with_reducible assumption) | (with_reducible apply State.ledgerFault_keep m0) | (with_reducible apply State.checkStanding_keep m1) | (with_reducible apply State.setHu_keep m2) | (with_reducible apply Keep.ite) | split | dsimp only | (with_reducible refine Keep.snd (by with_reducible assumption) ?_))

theorem outputOvercurrent_keep {M : Nat} {z0 : State} (hM : M &&& 0x2C0000 = 0x2C0000) (pin : U8) (s : State) (hk : Keep M z0 s) : Keep M z0 (outputOvercurrent pin s) := by
  refine hk.trans ?_
  have m0 : M &&& 0xC0000 = 0xC0000 := Keep.sub hM rfl
  have b_pwr : M.testBit 21 = true := Keep.bit hM rfl
  unfold outputOvercurrent
  try dsimp only
  repeat' (first | (with_reducible exact Keep.refl _ _) | (fail_if_no_progress (with_reducible apply Keep.upd_pwr b_pwr)) | (with_reducible apply State.record_keep m0) | (with_reducible apply Keep.ite) | split)

theorem outputRelease_keep {M : Nat} {z0 : State} (hM : M &&& 0x200000 = 0x200000) (v : U8) (s : State) (hk : Keep M z0 s) : Keep M z0 (outputRelease v s) := by
  refine hk.trans ?_
  have b_pwr : M.testBit 21 = true := Keep.bit hM rfl
  unfold outputRelease
  try dsimp only
  repeat' (first | (with_reducible exact Keep.refl _ _) | (fail_if_no_progress (with_reducible apply Keep.upd_pwr b_pwr)))

theorem accResetReleaseWrite_keep {M : Nat} {z0 : State} (hM : M &&& 0x200000 = 0x200000) (v : U8) (s : State) (hk : Keep M z0 s) : Keep M z0 (accResetReleaseWrite v s) := by
  refine hk.trans ?_
  have b_pwr : M.testBit 21 = true := Keep.bit hM rfl
  unfold accResetReleaseWrite
  try dsimp only
  repeat' (first | (with_reducible exact Keep.refl _ _) | (fail_if_no_progress (with_reducible apply Keep.upd_pwr b_pwr)))

theorem accPwrgdFall_keep {M : Nat} {z0 : State} (hM : M &&& 0x2D0C00 = 0x2D0C00) (n : Fin 8) (s : State) (hk : Keep M z0 s) : Keep M z0 (accPwrgdFall n s) := by
  refine hk.trans ?_
  have m0 : M &&& 0xD0C00 = 0xD0C00 := Keep.sub hM rfl
  have m1 : M &&& 0xC0000 = 0xC0000 := Keep.sub hM rfl
  have b_pwr : M.testBit 21 = true := Keep.bit hM rfl
  unfold accPwrgdFall
  try dsimp only
  repeat' (first | (with_reducible exact Keep.refl _ _) | (fail_if_no_progress (with_reducible apply Keep.upd_pwr b_pwr)) | (with_reducible apply State.loseAgent_keep m0) | (with_reducible apply State.record_keep m1) | (with_reducible apply Keep.ite) | split)

theorem accPwrgdRise_keep {M : Nat} {z0 : State} (hM : M &&& 0x200000 = 0x200000) (n : Fin 8) (s : State) (hk : Keep M z0 s) : Keep M z0 (accPwrgdRise n s) := by
  refine hk.trans ?_
  have b_pwr : M.testBit 21 = true := Keep.bit hM rfl
  unfold accPwrgdRise
  try dsimp only
  repeat' (first | (with_reducible exact Keep.refl _ _) | (fail_if_no_progress (with_reducible apply Keep.upd_pwr b_pwr)))

theorem accAlert_keep {M : Nat} {z0 : State} (hM : M &&& 0x2C0000 = 0x2C0000) (n : Fin 8) (s : State) (hk : Keep M z0 s) : Keep M z0 (accAlert n s) := by
  refine hk.trans ?_
  have m0 : M &&& 0xC0000 = 0xC0000 := Keep.sub hM rfl
  have b_pwr : M.testBit 21 = true := Keep.bit hM rfl
  unfold accAlert
  try dsimp only
  repeat' (first | (with_reducible exact Keep.refl _ _) | (fail_if_no_progress (with_reducible apply Keep.upd_pwr b_pwr)) | (with_reducible apply State.record_keep m0))

theorem accAlertNoReport_keep {M : Nat} {z0 : State} (hM : M &&& 0x240000 = 0x240000) (n : Fin 8) (s : State) (hk : Keep M z0 s) : Keep M z0 (accAlertNoReport n s) := by
  refine hk.trans ?_
  have b_pwr : M.testBit 21 = true := Keep.bit hM rfl
  have b_tele : M.testBit 18 = true := Keep.bit hM rfl
  unfold accAlertNoReport
  try dsimp only
  repeat' (first | (with_reducible exact Keep.refl _ _) | (fail_if_no_progress (with_reducible apply Keep.upd_pwr b_pwr)) | (fail_if_no_progress (with_reducible apply Keep.upd_tele b_tele)) | (fail_if_no_progress ((with_reducible refine Keep.updAll ?_ ?_ ?_ ?_ ?_ ?_ ?_ ?_ ?_ ?_ ?_ ?_ ?_ ?_ ?_ ?_ ?_ ?_ ?_ ?_ ?_ ?_ ?_ ?_ ?_ ?_); iterate 25 (first | (with_reducible rfl) | (with_reducible exact fun _ => rfl) | (exact fun b => absurd (b.symm.trans (Keep.bit hM rfl)) (by decide))))) | (with_reducible apply Keep.ite) | split)

theorem accTherm_keep {M : Nat} {z0 : State} (hM : M &&& 0x2C0000 = 0x2C0000) (n : Fin 8) (s : State) (hk : Keep M z0 s) : Keep M z0 (accTherm n s) := by
  refine hk.trans ?_
  have m0 : M &&& 0xC0000 = 0xC0000 := Keep.sub hM rfl
  have b_pwr : M.testBit 21 = true := Keep.bit hM rfl
  unfold accTherm
  try dsimp only
  repeat' (first | (with_reducible exact Keep.refl _ _) | (fail_if_no_progress (with_reducible apply Keep.upd_pwr b_pwr)) | (with_reducible apply State.record_keep m0))

theorem ppsEdge_keep {M : Nat} {z0 : State} (hM : M &&& 0x240000 = 0x240000) (sec : U64) (s : State) (hk : Keep M z0 s) : Keep M z0 (ppsEdge sec s) := by
  refine hk.trans ?_
  have m0 : M &&& 0x40000 = 0x40000 := Keep.sub hM rfl
  have b_pwr : M.testBit 21 = true := Keep.bit hM rfl
  unfold ppsEdge
  try dsimp only
  repeat' (first | (with_reducible exact Keep.refl _ _) | (fail_if_no_progress (with_reducible apply Keep.upd_pwr b_pwr)) | (with_reducible apply State.trace_keep m0) | (with_reducible apply Keep.ite) | split)

theorem State.setTele_keep {M : Nat} {z0 : State} (hM : M &&& 0x40000 = 0x40000) (f : TeleState → TeleState) (s : State) (hk : Keep M z0 s) : Keep M z0 (State.setTele f s) := by
  refine hk.trans ?_
  have b_tele : M.testBit 18 = true := Keep.bit hM rfl
  unfold State.setTele
  try dsimp only
  repeat' (first | (with_reducible exact Keep.refl _ _) | (with_reducible assumption) | (fail_if_no_progress (with_reducible apply Keep.upd_tele b_tele)) | (with_reducible apply Keep.trans _ (hf ..)))

theorem State.drainHolding_keep {M : Nat} {z0 : State} (hM : M &&& 0xC0000 = 0xC0000) (l : List EventRec) (s : State) (hk : Keep M z0 s) : Keep M z0 (State.drainHolding l s) := by
  refine hk.trans ?_
  have m0 : M &&& 0x40000 = 0x40000 := Keep.sub hM rfl
  have m1 : M &&& 0xC0000 = 0xC0000 := Keep.sub hM rfl
  unfold State.drainHolding
  try dsimp only
  repeat' (first | (with_reducible exact Keep.refl _ _) | (with_reducible assumption) | (with_reducible apply State.setTele_keep m0) | (with_reducible apply State.record_keep m1) | (intro) | (with_reducible apply Keep.ite) | split | dsimp only)

theorem State.unfreeze_keep {M : Nat} {z0 : State} (hM : M &&& 0xC0000 = 0xC0000) (s : State) (hk : Keep M z0 s) : Keep M z0 (State.unfreeze s) := by
  refine hk.trans ?_
  have m0 : M &&& 0xC0000 = 0xC0000 := Keep.sub hM rfl
  have m1 : M &&& 0x40000 = 0x40000 := Keep.sub hM rfl
  unfold State.unfreeze
  try dsimp only
  repeat' (first | (with_reducible exact Keep.refl _ _) | (with_reducible assumption) | (with_reducible apply State.drainHolding_keep m0) | (with_reducible apply State.setTele_keep m1) | (intro) | dsimp only)

theorem recorderFreeze_keep {M : Nat} {z0 : State} (hM : M &&& 0x40000 = 0x40000) (s : State) (hk : Keep M z0 s) : Keep M z0 (recorderFreeze s) := by
  refine hk.trans ?_
  have m0 : M &&& 0x40000 = 0x40000 := Keep.sub hM rfl
  unfold recorderFreeze
  try dsimp only
  repeat' (first | (with_reducible exact Keep.refl _ _) | (with_reducible assumption) | (with_reducible apply State.setTele_keep m0) | (intro) | (with_reducible apply Keep.ite) | split | dsimp only)

theorem recorderUnfreeze_keep {M : Nat} {z0 : State} (hM : M &&& 0xC0000 = 0xC0000) (s : State) (hk : Keep M z0 s) : Keep M z0 (recorderUnfreeze s) := by
  refine hk.trans ?_
  have m0 : M &&& 0xC0000 = 0xC0000 := Keep.sub hM rfl
  unfold recorderUnfreeze
  try dsimp only
  repeat' (first | (with_reducible exact Keep.refl _ _) | (with_reducible apply State.unfreeze_keep m0) | (with_reducible apply Keep.ite) | split)

theorem recorderFreezeWrite_keep {M : Nat} {z0 : State} (hM : M &&& 0xC0000 = 0xC0000) (v : U8) (s : State) (hk : Keep M z0 s) : Keep M z0 (recorderFreezeWrite v s) := by
  refine hk.trans ?_
  have m0 : M &&& 0xC0000 = 0xC0000 := Keep.sub hM rfl
  have m1 : M &&& 0x40000 = 0x40000 := Keep.sub hM rfl
  unfold recorderFreezeWrite
  try dsimp only
  repeat' (first | (with_reducible exact Keep.refl _ _) | (with_reducible apply recorderUnfreeze_keep m0) | (with_reducible apply recorderFreeze_keep m1) | (with_reducible apply Keep.ite) | split)

theorem freezeTimeout_keep {M : Nat} {z0 : State} (hM : M &&& 0xC0000 = 0xC0000) (s : State) (hk : Keep M z0 s) : Keep M z0 (freezeTimeout s) := by
  refine hk.trans ?_
  have m0 : M &&& 0xC0000 = 0xC0000 := Keep.sub hM rfl
  unfold freezeTimeout
  try dsimp only
  repeat' (first | (with_reducible exact Keep.refl _ _) | (with_reducible apply State.unfreeze_keep m0) | (with_reducible apply State.record_keep m0) | (with_reducible apply Keep.ite) | split)

theorem State.clearRecorder_keep {M : Nat} {z0 : State} (hM : M &&& 0xC0000 = 0xC0000) (key : U16) (s : State) (hk : Keep M z0 s) : Keep M z0 (State.clearRecorder key s) := by
  refine hk.trans ?_
  have m0 : M &&& 0xC0000 = 0xC0000 := Keep.sub hM rfl
  have m1 : M &&& 0x40000 = 0x40000 := Keep.sub hM rfl
  unfold State.clearRecorder
  try dsimp only
  repeat' (first | (with_reducible exact Keep.refl _ _) | (with_reducible assumption) | (with_reducible apply State.drainHolding_keep m0) | (with_reducible apply State.setTele_keep m1) | (with_reducible apply State.record_keep m0) | (intro) | dsimp only)

theorem State.refuseClear_keep {M : Nat} {z0 : State} (hM : M &&& 0xC0000 = 0xC0000) (key : U16) (s : State) (hk : Keep M z0 s) : Keep M z0 (State.refuseClear key s) := by
  refine hk.trans ?_
  have m0 : M &&& 0x40000 = 0x40000 := Keep.sub hM rfl
  have m1 : M &&& 0xC0000 = 0xC0000 := Keep.sub hM rfl
  unfold State.refuseClear
  try dsimp only
  repeat' (first | (with_reducible exact Keep.refl _ _) | (with_reducible assumption) | (with_reducible apply State.setTele_keep m0) | (with_reducible apply State.record_keep m1) | (intro) | dsimp only)

theorem recorderClear_keep {M : Nat} {z0 : State} (hM : M &&& 0xC0000 = 0xC0000) (key : U16) (holds : Bool) (s : State) (hk : Keep M z0 s) : Keep M z0 (recorderClear key holds s) := by
  refine hk.trans ?_
  have m0 : M &&& 0xC0000 = 0xC0000 := Keep.sub hM rfl
  unfold recorderClear
  try dsimp only
  repeat' (first | (with_reducible exact Keep.refl _ _) | (with_reducible apply State.refuseClear_keep m0) | (with_reducible apply State.clearRecorder_keep m0) | (with_reducible apply Keep.ite) | split)

theorem pcSample_keep {M : Nat} {z0 : State} (hM : M &&& 0x40000 = 0x40000) (unit : U16) (loc : U32) (st ctx : U8) (s : State) (hk : Keep M z0 s) : Keep M z0 (pcSample unit loc st ctx s) := by
  refine hk.trans ?_
  have m0 : M &&& 0x40000 = 0x40000 := Keep.sub hM rfl
  unfold pcSample
  try dsimp only
  repeat' (first | (with_reducible exact Keep.refl _ _) | (with_reducible assumption) | (with_reducible apply State.setTele_keep m0) | (with_reducible apply State.countBytes_keep m0) | (intro) | (with_reducible apply Keep.ite) | split | dsimp only | (with_reducible refine Keep.snd (by with_reducible assumption) ?_))

theorem traceStart_keep {M : Nat} {z0 : State} (hM : M &&& 0x40000 = 0x40000) (s : State) (hk : Keep M z0 s) : Keep M z0 (traceStart s) := by
  refine hk.trans ?_
  have m0 : M &&& 0x40000 = 0x40000 := Keep.sub hM rfl
  unfold traceStart
  try dsimp only
  repeat' (first | (with_reducible exact Keep.refl _ _) | (with_reducible assumption) | (with_reducible apply State.setTele_keep m0) | (intro) | dsimp only)

theorem traceStop_keep {M : Nat} {z0 : State} (hM : M &&& 0x40000 = 0x40000) (s : State) (hk : Keep M z0 s) : Keep M z0 (traceStop s) := by
  refine hk.trans ?_
  have m0 : M &&& 0x40000 = 0x40000 := Keep.sub hM rfl
  unfold traceStop
  try dsimp only
  repeat' (first | (with_reducible exact Keep.refl _ _) | (with_reducible assumption) | (with_reducible apply State.setTele_keep m0) | (intro) | dsimp only)

theorem traceClear_keep {M : Nat} {z0 : State} (hM : M &&& 0x40000 = 0x40000) (s : State) (hk : Keep M z0 s) : Keep M z0 (traceClear s) := by
  refine hk.trans ?_
  have m0 : M &&& 0x40000 = 0x40000 := Keep.sub hM rfl
  unfold traceClear
  try dsimp only
  repeat' (first | (with_reducible exact Keep.refl _ _) | (with_reducible assumption) | (with_reducible apply State.setTele_keep m0) | (with_reducible apply State.trace_keep m0) | (intro) | (with_reducible apply Keep.ite) | split | dsimp only)

theorem alarmCoalesceExpiry_keep {M : Nat} {z0 : State} (hM : M &&& 0x40000 = 0x40000) (seq : U32) (s : State) (hk : Keep M z0 s) : Keep M z0 (alarmCoalesceExpiry seq s) := by
  refine hk.trans ?_
  have m0 : M &&& 0x40000 = 0x40000 := Keep.sub hM rfl
  unfold alarmCoalesceExpiry
  try dsimp only
  repeat' (first | (with_reducible exact Keep.refl _ _) | (with_reducible assumption) | (with_reducible apply State.setTele_keep m0) | (intro) | dsimp only)

theorem alarmSend_keep {M : Nat} {z0 : State} (hM : M &&& 0x40000 = 0x40000) (i : Fin 2) (s : State) (hk : Keep M z0 s) : Keep M z0 (alarmSend i s) := by
  refine hk.trans ?_
  have m0 : M &&& 0x40000 = 0x40000 := Keep.sub hM rfl
  unfold alarmSend
  try dsimp only
  repeat' (first | (with_reducible exact Keep.refl _ _) | (with_reducible assumption) | (with_reducible apply State.setTele_keep m0) | (intro) | (with_reducible apply Keep.ite) | split | dsimp only | (with_reducible refine Keep.snd (by with_reducible assumption) ?_))

theorem alarmHoldResend_keep {M : Nat} {z0 : State} (hM : M &&& 0xC0C00 = 0xC0C00) (s : State) (hk : Keep M z0 s) : Keep M z0 (alarmHoldResend s) := by
  refine hk.trans ?_
  have m0 : M &&& 0x40000 = 0x40000 := Keep.sub hM rfl
  have m1 : M &&& 0xC0C00 = 0xC0C00 := Keep.sub hM rfl
  unfold alarmHoldResend
  try dsimp only
  repeat' (first | (with_reducible exact Keep.refl _ _) | (with_reducible assumption) | (with_reducible apply State.setTele_keep m0) | (with_reducible apply State.send_keep m1) | (with_reducible apply Keep.foldl) | (with_reducible apply Keep.foldl2) | (with_reducible apply Keep.foldl3) | (intro) | dsimp only)

theorem alarmAcknowledge_keep {M : Nat} {z0 : State} (hM : M &&& 0x40000 = 0x40000) (seq : U32) (s : State) (hk : Keep M z0 s) : Keep M z0 (alarmAcknowledge seq s) := by
  refine hk.trans ?_
  have m0 : M &&& 0x40000 = 0x40000 := Keep.sub hM rfl
  unfold alarmAcknowledge
  try dsimp only
  repeat' (first | (with_reducible exact Keep.refl _ _) | (with_reducible assumption) | (with_reducible apply State.setTele_keep m0) | (intro) | split | dsimp only | (with_reducible refine Keep.snd (by with_reducible assumption) ?_))

theorem State.setExer_keep {M : Nat} {z0 : State} (hM : M &&& 0x400000 = 0x400000) (f : ExState → ExState) (s : State) (hk : Keep M z0 s) : Keep M z0 (State.setExer f s) := by
  refine hk.trans ?_
  have b_exer : M.testBit 22 = true := Keep.bit hM rfl
  unfold State.setExer
  try dsimp only
  repeat' (first | (with_reducible exact Keep.refl _ _) | (with_reducible assumption) | (fail_if_no_progress (with_reducible apply Keep.upd_exer b_exer)) | (with_reducible apply Keep.trans _ (hf ..)))

theorem State.refuseExer_keep {M : Nat} {z0 : State} (hM : M &&& 0x4C0000 = 0x4C0000) (show_ : Bool) (s : State) (hk : Keep M z0 s) : Keep M z0 (State.refuseExer show_ s) := by
  refine hk.trans ?_
  have m0 : M &&& 0x400000 = 0x400000 := Keep.sub hM rfl
  have m1 : M &&& 0xC0000 = 0xC0000 := Keep.sub hM rfl
  unfold State.refuseExer
  try dsimp only
  repeat' (first | (with_reducible exact Keep.refl _ _) | (with_reducible assumption) | (with_reducible apply State.setExer_keep m0) | (with_reducible apply State.record_keep m1) | (intro) | (with_reducible apply Keep.ite) | split | dsimp only)

theorem State.trainAll_keep {M : Nat} {z0 : State} (hM : M &&& 0x400 = 0x400) (s : State) (hk : Keep M z0 s) : Keep M z0 (State.trainAll s) := by
  refine hk.trans ?_
  have m0 : M &&& 0x400 = 0x400 := Keep.sub hM rfl
  unfold State.trainAll
  try dsimp only
  repeat' (first | (with_reducible exact Keep.refl _ _) | (with_reducible assumption) | (with_reducible apply State.startTraining_keep m0) | (with_reducible apply Keep.foldl) | (with_reducible apply Keep.foldl2) | (with_reducible apply Keep.foldl3) | (intro) | dsimp only)

theorem exerciserEnter_keep {M : Nat} {z0 : State} (hM : M &&& 0x4C8400 = 0x4C8400) (s : State) (hk : Keep M z0 s) : Keep M z0 (exerciserEnter s) := by
  refine hk.trans ?_
  have m0 : M &&& 0x400 = 0x400 := Keep.sub hM rfl
  have m1 : M &&& 0x4C0000 = 0x4C0000 := Keep.sub hM rfl
  have m2 : M &&& 0x400000 = 0x400000 := Keep.sub hM rfl
  have m3 : M &&& 0x88000 = 0x88000 := Keep.sub hM rfl
  have m4 : M &&& 0xC0000 = 0xC0000 := Keep.sub hM rfl
  unfold exerciserEnter
  try dsimp only
  repeat' (first | (with_reducible exact Keep.refl _ _) | (with_reducible assumption) | (with_reducible apply State.trainAll_keep m0) | (with_reducible apply State.refuseExer_keep m1) | (with_reducible apply State.setExer_keep m2) | (with_reducible apply State.setDev_keep m3) | (with_reducible apply State.record_keep m4) | (intro) | (with_reducible apply Keep.ite) | split | dsimp only)

theorem State.breakAgent_keep {M : Nat} {z0 : State} (hM : M &&& 0x4C0000 = 0x4C0000) (s : State) (hk : Keep M z0 s) : Keep M z0 (State.breakAgent s) := by
  refine hk.trans ?_
  have m0 : M &&& 0x4C0000 = 0x4C0000 := Keep.sub hM rfl
  unfold State.breakAgent
  try dsimp only
  repeat' (first | (with_reducible exact Keep.refl _ _) | (with_reducible assumption) | (with_reducible apply State.exerCheck_keep m0) | (with_reducible apply Keep.foldl) | (with_reducible apply Keep.foldl2) | (with_reducible apply Keep.foldl3) | (intro) | dsimp only)

theorem State.endExRun_keep {M : Nat} {z0 : State} (hM : M &&& 0x4C0000 = 0x4C0000) (s : State) (hk : Keep M z0 s) : Keep M z0 (State.endExRun s) := by
  refine hk.trans ?_
  have m0 : M &&& 0x4C0000 = 0x4C0000 := Keep.sub hM rfl
  have m1 : M &&& 0x400000 = 0x400000 := Keep.sub hM rfl
  have m2 : M &&& 0xC0000 = 0xC0000 := Keep.sub hM rfl
  unfold State.endExRun
  try dsimp only
  repeat' (first | (with_reducible exact Keep.refl _ _) | (with_reducible assumption) | (with_reducible apply State.breakAgent_keep m0) | (with_reducible apply State.setExer_keep m1) | (with_reducible apply State.record_keep m2) | (with_reducible apply Keep.foldl) | (with_reducible apply Keep.foldl2) | (with_reducible apply Keep.foldl3) | (intro) | (with_reducible apply Keep.ite) | split | dsimp only)

theorem exerciserLeave_keep {M : Nat} {z0 : State} (hM : M &&& 0x6E8400 = 0x6E8400) (s : State) (hk : Keep M z0 s) : Keep M z0 (exerciserLeave s) := by
  refine hk.trans ?_
  have m0 : M &&& 0x4C0000 = 0x4C0000 := Keep.sub hM rfl
  have m1 : M &&& 0x400 = 0x400 := Keep.sub hM rfl
  have m2 : M &&& 0x400000 = 0x400000 := Keep.sub hM rfl
  have m3 : M &&& 0x2E8000 = 0x2E8000 := Keep.sub hM rfl
  have m4 : M &&& 0xC0000 = 0xC0000 := Keep.sub hM rfl
  unfold exerciserLeave
  try dsimp only
  repeat' (first | (with_reducible exact Keep.refl _ _) | (with_reducible assumption) | (with_reducible apply State.endExRun_keep m0) | (with_reducible apply State.trainAll_keep m1) | (with_reducible apply State.setExer_keep m2) | (with_reducible apply State.enterStandby_keep m3) | (with_reducible apply State.record_keep m4) | (intro) | (with_reducible apply Keep.ite) | split | dsimp only)

theorem exerciserRunStart_keep {M : Nat} {z0 : State} (hM : M &&& 0x4C0000 = 0x4C0000) (s : State) (hk : Keep M z0 s) : Keep M z0 (exerciserRunStart s) := by
  refine hk.trans ?_
  have m0 : M &&& 0x4C0000 = 0x4C0000 := Keep.sub hM rfl
  have m1 : M &&& 0x400000 = 0x400000 := Keep.sub hM rfl
  unfold exerciserRunStart
  try dsimp only
  repeat' (first | (with_reducible exact Keep.refl _ _) | (with_reducible assumption) | (with_reducible apply State.refuseExer_keep m0) | (with_reducible apply State.setExer_keep m1) | (intro) | (with_reducible apply Keep.ite) | split | dsimp only | (with_reducible refine Keep.snd (by with_reducible assumption) ?_))

theorem exerciserRunStop_keep {M : Nat} {z0 : State} (hM : M &&& 0x4C0000 = 0x4C0000) (s : State) (hk : Keep M z0 s) : Keep M z0 (exerciserRunStop s) := by
  refine hk.trans ?_
  have m0 : M &&& 0x4C0000 = 0x4C0000 := Keep.sub hM rfl
  unfold exerciserRunStop
  try dsimp only
  repeat' (first | (with_reducible exact Keep.refl _ _) | (with_reducible apply State.endExRun_keep m0))

theorem runLengthExpiry_keep {M : Nat} {z0 : State} (hM : M &&& 0x4C0000 = 0x4C0000) (s : State) (hk : Keep M z0 s) : Keep M z0 (runLengthExpiry s) := by
  refine hk.trans ?_
  have m0 : M &&& 0x4C0000 = 0x4C0000 := Keep.sub hM rfl
  unfold runLengthExpiry
  try dsimp only
  repeat' (first | (with_reducible exact Keep.refl _ _) | (with_reducible apply State.endExRun_keep m0) | (with_reducible apply Keep.ite) | split)

theorem injectionAction_keep {M : Nat} {z0 : State} (hM : M &&& 0x4C0000 = 0x4C0000) (bytes : List Byte) (s : State) (hk : Keep M z0 s) : Keep M z0 (injectionAction bytes s) := by
  refine hk.trans ?_
  have m0 : M &&& 0x4C0000 = 0x4C0000 := Keep.sub hM rfl
  have m1 : M &&& 0x400000 = 0x400000 := Keep.sub hM rfl
  unfold injectionAction
  try dsimp only
  repeat' (first | (with_reducible exact Keep.refl _ _) | (with_reducible assumption) | (with_reducible apply State.refuseExer_keep m0) | (with_reducible apply State.setExPort_keep m1) | (with_reducible apply Keep.ite) | split | dsimp only | (with_reducible refine Keep.snd (by with_reducible assumption) ?_))

theorem reactionDeadline_keep {M : Nat} {z0 : State} (hM : M &&& 0x4C0000 = 0x4C0000) (p : Port) (code : U8) (s : State) (hk : Keep M z0 s) : Keep M z0 (reactionDeadline p code s) := by
  refine hk.trans ?_
  have m0 : M &&& 0x400000 = 0x400000 := Keep.sub hM rfl
  have m1 : M &&& 0x4C0000 = 0x4C0000 := Keep.sub hM rfl
  have m2 : M &&& 0xC0000 = 0xC0000 := Keep.sub hM rfl
  unfold reactionDeadline
  try dsimp only
  repeat' (first | (with_reducible exact Keep.refl _ _) | (with_reducible assumption) | (with_reducible apply State.setExer_keep m0) | (with_reducible apply State.exerCheck_keep m1) | (with_reducible apply State.setExPort_keep m0) | (with_reducible apply State.record_keep m2) | (intro) | (with_reducible apply Keep.ite) | split | dsimp only | (with_reducible refine Keep.snd (by with_reducible assumption) ?_))

theorem State.scriptRun_keep {M : Nat} {z0 : State} (hM : M &&& 0x400000 = 0x400000) (act : U8) (f : List Byte → State → State) (s : State) (hf : ∀ y0 y1, Keep M y1 (f y0 y1)) (hk : Keep M z0 s) : Keep M z0 (State.scriptRun act f s) := by
  refine hk.trans ?_
  have m0 : M &&& 0x400000 = 0x400000 := Keep.sub hM rfl
  unfold State.scriptRun
  try dsimp only
  repeat' (first | (with_reducible exact Keep.refl _ _) | (with_reducible assumption) | (with_reducible apply State.setExer_keep m0) | (with_reducible apply Keep.trans _ (hf ..)) | (intro) | split | dsimp only | (with_reducible refine Keep.snd (by with_reducible assumption) ?_))

theorem State.toPeers_keep {M : Nat} {z0 : State} (hM : M &&& 0x0 = 0x0) (f : Port → State → State) (s : State) (hf : ∀ y0 y1, Keep M y1 (f y0 y1)) (hk : Keep M z0 s) : Keep M z0 (State.toPeers f s) := by
  refine hk.trans ?_
  unfold State.toPeers
  try dsimp only
  repeat' (first | (with_reducible exact Keep.refl _ _) | (with_reducible assumption) | (with_reducible apply Keep.trans _ (hf ..)) | (with_reducible apply Keep.foldl) | (with_reducible apply Keep.foldl2) | (with_reducible apply Keep.foldl3) | (intro) | dsimp only)

theorem scriptEpoch_keep {M : Nat} {z0 : State} (hM : M &&& 0x440C00 = 0x440C00) (s : State) (hk : Keep M z0 s) : Keep M z0 (scriptEpoch s) := by
  refine hk.trans ?_
  have m0 : M &&& 0x0 = 0x0 := Keep.sub hM rfl
  have m1 : M &&& 0x400000 = 0x400000 := Keep.sub hM rfl
  have m2 : M &&& 0x40C00 = 0x40C00 := Keep.sub hM rfl
  unfold scriptEpoch
  try dsimp only
  repeat' (first | (with_reducible exact Keep.refl _ _) | (with_reducible assumption) | (with_reducible apply State.toPeers_keep m0) | (with_reducible apply State.scriptRun_keep m1) | (with_reducible apply State.exerSend_keep m2) | (intro) | dsimp only)

theorem scriptStepOpen_keep {M : Nat} {z0 : State} (hM : M &&& 0x440C00 = 0x440C00) (s : State) (hk : Keep M z0 s) : Keep M z0 (scriptStepOpen s) := by
  refine hk.trans ?_
  have m0 : M &&& 0x0 = 0x0 := Keep.sub hM rfl
  have m1 : M &&& 0x400000 = 0x400000 := Keep.sub hM rfl
  have m2 : M &&& 0x40C00 = 0x40C00 := Keep.sub hM rfl
  unfold scriptStepOpen
  try dsimp only
  repeat' (first | (with_reducible exact Keep.refl _ _) | (with_reducible assumption) | (with_reducible apply State.toPeers_keep m0) | (with_reducible apply State.scriptRun_keep m1) | (with_reducible apply State.setExer_keep m1) | (with_reducible apply State.exerSend_keep m2) | (with_reducible apply Keep.foldl) | (with_reducible apply Keep.foldl2) | (with_reducible apply Keep.foldl3) | (intro) | dsimp only)

theorem scriptStream_keep {M : Nat} {z0 : State} (hM : M &&& 0x440C00 = 0x440C00) (s : State) (hk : Keep M z0 s) : Keep M z0 (scriptStream s) := by
  refine hk.trans ?_
  have m0 : M &&& 0x0 = 0x0 := Keep.sub hM rfl
  have m1 : M &&& 0x400000 = 0x400000 := Keep.sub hM rfl
  have m2 : M &&& 0x40C00 = 0x40C00 := Keep.sub hM rfl
  unfold scriptStream
  try dsimp only
  repeat' (first | (with_reducible exact Keep.refl _ _) | (with_reducible assumption) | (with_reducible apply State.toPeers_keep m0) | (with_reducible apply State.scriptRun_keep m1) | (with_reducible apply State.enqueue_keep m2) | (with_reducible apply Keep.foldl) | (with_reducible apply Keep.foldl2) | (with_reducible apply Keep.foldl3) | (intro) | dsimp only)

theorem scriptExpect_keep {M : Nat} {z0 : State} (hM : M &&& 0x400000 = 0x400000) (s : State) (hk : Keep M z0 s) : Keep M z0 (scriptExpect s) := by
  refine hk.trans ?_
  have m0 : M &&& 0x400000 = 0x400000 := Keep.sub hM rfl
  unfold scriptExpect
  try dsimp only
  repeat' (first | (with_reducible exact Keep.refl _ _) | (with_reducible assumption) | (with_reducible apply State.scriptRun_keep m0) | (with_reducible apply State.setExer_keep m0) | (intro) | (with_reducible apply Keep.ite) | split | dsimp only)

theorem expectTimeout_keep {M : Nat} {z0 : State} (hM : M &&& 0x4C0000 = 0x4C0000) (s : State) (hk : Keep M z0 s) : Keep M z0 (expectTimeout s) := by
  refine hk.trans ?_
  have m0 : M &&& 0x4C0000 = 0x4C0000 := Keep.sub hM rfl
  have m1 : M &&& 0x400000 = 0x400000 := Keep.sub hM rfl
  unfold expectTimeout
  try dsimp only
  repeat' (first | (with_reducible exact Keep.refl _ _) | (with_reducible assumption) | (with_reducible apply State.breakAgent_keep m0) | (with_reducible apply State.setExer_keep m1) | (intro) | (with_reducible apply Keep.ite) | split | dsimp only)

theorem scriptAckPolicy_keep {M : Nat} {z0 : State} (hM : M &&& 0x400000 = 0x400000) (s : State) (hk : Keep M z0 s) : Keep M z0 (scriptAckPolicy s) := by
  refine hk.trans ?_
  have m0 : M &&& 0x400000 = 0x400000 := Keep.sub hM rfl
  unfold scriptAckPolicy
  try dsimp only
  repeat' (first | (with_reducible exact Keep.refl _ _) | (with_reducible assumption) | (with_reducible apply State.scriptRun_keep m0) | (with_reducible apply State.setExer_keep m0) | (intro) | dsimp only)

theorem scriptResend_keep {M : Nat} {z0 : State} (hM : M &&& 0x440C00 = 0x440C00) (s : State) (hk : Keep M z0 s) : Keep M z0 (scriptResend s) := by
  refine hk.trans ?_
  have m0 : M &&& 0x0 = 0x0 := Keep.sub hM rfl
  have m1 : M &&& 0x400000 = 0x400000 := Keep.sub hM rfl
  have m2 : M &&& 0x40C00 = 0x40C00 := Keep.sub hM rfl
  unfold scriptResend
  try dsimp only
  repeat' (first | (with_reducible exact Keep.refl _ _) | (with_reducible assumption) | (with_reducible apply State.toPeers_keep m0) | (with_reducible apply State.scriptRun_keep m1) | (with_reducible apply State.setExer_keep m1) | (with_reducible apply State.exerSend_keep m2) | (with_reducible apply Keep.foldl) | (with_reducible apply Keep.foldl2) | (with_reducible apply Keep.foldl3) | (intro) | (with_reducible apply Keep.ite) | split | dsimp only)

theorem scriptFail_keep {M : Nat} {z0 : State} (hM : M &&& 0x440C00 = 0x440C00) (s : State) (hk : Keep M z0 s) : Keep M z0 (scriptFail s) := by
  refine hk.trans ?_
  have m0 : M &&& 0x0 = 0x0 := Keep.sub hM rfl
  have m1 : M &&& 0x400000 = 0x400000 := Keep.sub hM rfl
  have m2 : M &&& 0x40C00 = 0x40C00 := Keep.sub hM rfl
  unfold scriptFail
  try dsimp only
  repeat' (first | (with_reducible exact Keep.refl _ _) | (with_reducible assumption) | (with_reducible apply State.toPeers_keep m0) | (with_reducible apply State.scriptRun_keep m1) | (with_reducible apply State.setExer_keep m1) | (with_reducible apply State.exerSend_keep m2) | (intro) | dsimp only)

theorem scriptGambit_keep {M : Nat} {z0 : State} (hM : M &&& 0x440C00 = 0x440C00) (s : State) (hk : Keep M z0 s) : Keep M z0 (scriptGambit s) := by
  refine hk.trans ?_
  have m0 : M &&& 0x0 = 0x0 := Keep.sub hM rfl
  have m1 : M &&& 0x400000 = 0x400000 := Keep.sub hM rfl
  have m2 : M &&& 0x40C00 = 0x40C00 := Keep.sub hM rfl
  unfold scriptGambit
  try dsimp only
  repeat' (first | (with_reducible exact Keep.refl _ _) | (with_reducible assumption) | (with_reducible apply State.toPeers_keep m0) | (with_reducible apply State.scriptRun_keep m1) | (with_reducible apply State.setExer_keep m1) | (with_reducible apply State.exerSend_keep m2) | (intro) | dsimp only)

theorem scriptEnd_keep {M : Nat} {z0 : State} (hM : M &&& 0x4C0000 = 0x4C0000) (s : State) (hk : Keep M z0 s) : Keep M z0 (scriptEnd s) := by
  refine hk.trans ?_
  have m0 : M &&& 0x4C0000 = 0x4C0000 := Keep.sub hM rfl
  unfold scriptEnd
  try dsimp only
  repeat' (first | (with_reducible exact Keep.refl _ _) | (with_reducible apply State.endExRun_keep m0) | split | (with_reducible refine Keep.snd (by with_reducible assumption) ?_))

end Sys2Proof.Machine
end

