-- ==== Sys2Proof/Laws/KeepObjects.lean ====
section
/-! SUPPORT. One lemma per operation: what it keeps, for the object dictionary, start-up, trust, the access paths and the clock. -/
set_option linter.unreachableTactic false
set_option linter.unusedTactic false
set_option linter.unusedVariables false
namespace Sys2Proof.Machine
open Sys2Proof

theorem State.takeSnapshot_keep {M : Nat} {z0 : State} (hM : M &&& 0x40000 = 0x40000) (action : U8) (s : State) (hk : Keep M z0 s) : Keep M z0 (State.takeSnapshot action s) := by
  refine hk.trans ?_
  have m0 : M &&& 0x40000 = 0x40000 := Keep.sub hM rfl
  unfold State.takeSnapshot
  try dsimp only
  repeat' (first | (with_reducible exact Keep.refl _ _) | (with_reducible assumption) | (with_reducible apply State.setTele_keep m0) | (intro) | (with_reducible apply Keep.ite) | split | dsimp only)

theorem snapshotWritten_keep {M : Nat} {z0 : State} (hM : M &&& 0xC0000 = 0xC0000) (s : State) (hk : Keep M z0 s) : Keep M z0 (snapshotWritten s) := by
  refine hk.trans ?_
  have m0 : M &&& 0x40000 = 0x40000 := Keep.sub hM rfl
  have m1 : M &&& 0x80000 = 0x80000 := Keep.sub hM rfl
  unfold snapshotWritten
  try dsimp only
  repeat' (first | (with_reducible exact Keep.refl _ _) | (with_reducible assumption) | (with_reducible apply State.setTele_keep m0) | (with_reducible apply State.raiseIrq_keep m1) | (with_reducible apply State.countBytes_keep m0) | (intro) | split | dsimp only | (with_reducible refine Keep.snd (by with_reducible assumption) ?_))

theorem judged_keep {M : Nat} {z0 : State} (hM : M &&& 0x0 = 0x0) (f : State → State) (s : State) (hf : ∀ y0, Keep M y0 (f y0)) (hk : Keep M z0 s) : Keep M z0 (judged f s).2 := by
  refine hk.trans ?_
  unfold judged
  try dsimp only
  repeat' (first | (with_reducible exact Keep.refl _ _) | (with_reducible assumption) | (with_reducible apply Keep.trans _ (hf ..)) | (with_reducible apply Keep.ite) | split | dsimp only)

theorem plain_keep {M : Nat} {z0 : State} (hM : M &&& 0x0 = 0x0) (ok : Bool) (f : State → State) (s : State) (hf : ∀ y0, Keep M y0 (f y0)) (hk : Keep M z0 s) : Keep M z0 (plain ok f s).2 := by
  refine hk.trans ?_
  unfold plain
  try dsimp only
  repeat' (first | (with_reducible exact Keep.refl _ _) | (with_reducible assumption) | (with_reducible apply Keep.trans _ (hf ..)) | (with_reducible apply Keep.ite) | split | dsimp only)

theorem setAcc_keep {M : Nat} {z0 : State} (hM : M &&& 0x80000 = 0x80000) (f : AccState → AccState) (s : State) (hk : Keep M z0 s) : Keep M z0 (setAcc f s) := by
  refine hk.trans ?_
  have b_acc : M.testBit 19 = true := Keep.bit hM rfl
  unfold setAcc
  try dsimp only
  repeat' (first | (with_reducible exact Keep.refl _ _) | (with_reducible assumption) | (fail_if_no_progress (with_reducible apply Keep.upd_acc b_acc)) | (with_reducible apply Keep.trans _ (hf ..)))

theorem circuitEntryWrite_keep {M : Nat} {z0 : State} (hM : M &&& 0xC0C00 = 0xC0C00) (n : Circ) (l : List Byte) (s : State) (hk : Keep M z0 s) : Keep M z0 (circuitEntryWrite n l s).2 := by
  refine hk.trans ?_
  have m0 : M &&& 0x0 = 0x0 := Keep.sub hM rfl
  have m1 : M &&& 0xC0C00 = 0xC0C00 := Keep.sub hM rfl
  have m2 : M &&& 0xC0800 = 0xC0800 := Keep.sub hM rfl
  unfold circuitEntryWrite
  try dsimp only
  repeat' (first | (with_reducible exact Keep.refl _ _) | (with_reducible assumption) | (with_reducible apply judged_keep m0) | (with_reducible apply circuitRelease_keep m1) | (with_reducible apply circuitSwitched_keep m1) | (with_reducible apply circuitPrepare_keep m1) | (with_reducible apply State.circuitWrite_keep m2) | (intro) | (with_reducible apply Keep.ite) | split | dsimp only | (with_reducible refine Keep.snd (by with_reducible assumption) ?_))

theorem domainWrite_keep {M : Nat} {z0 : State} (hM : M &&& 0x4DBFE0 = 0x4DBFE0) (idx sub : Nat) (l : List Byte) (s : State) (hk : Keep M z0 s) : Keep M z0 (domainWrite idx sub l s).2 := by
  refine hk.trans ?_
  have m0 : M &&& 0xC0C00 = 0xC0C00 := Keep.sub hM rfl
  have m1 : M &&& 0x80000 = 0x80000 := Keep.sub hM rfl
  have m2 : M &&& 0x0 = 0x0 := Keep.sub hM rfl
  have m3 : M &&& 0x400000 = 0x400000 := Keep.sub hM rfl
  have m4 : M &&& 0x40000 = 0x40000 := Keep.sub hM rfl
  have m5 : M &&& 0xC8000 = 0xC8000 := Keep.sub hM rfl
  have m6 : M &&& 0xC1C00 = 0xC1C00 := Keep.sub hM rfl
  have m7 : M &&& 0xC0800 = 0xC0800 := Keep.sub hM rfl
  have m8 : M &&& 0xC0200 = 0xC0200 := Keep.sub hM rfl
  have m9 : M &&& 0xC0100 = 0xC0100 := Keep.sub hM rfl
  have m10 : M &&& 0xC0080 = 0xC0080 := Keep.sub hM rfl
  have m11 : M &&& 0xC3040 = 0xC3040 := Keep.sub hM rfl
  have m12 : M &&& 0xC0040 = 0xC0040 := Keep.sub hM rfl
  have m13 : M &&& 0xC0020 = 0xC0020 := Keep.sub hM rfl
  have m14 : M &&& 0x400 = 0x400 := Keep.sub hM rfl
  have b_job : M.testBit 15 = true := Keep.bit hM rfl
  have b_det : M.testBit 16 = true := Keep.bit hM rfl
  have b_adj : M.testBit 13 = true := Keep.bit hM rfl
  unfold domainWrite
  try dsimp only
  repeat' (first | (with_reducible exact Keep.refl _ _) | (with_reducible assumption) | (fail_if_no_progress (with_reducible apply Keep.upd_adj b_adj)) | (fail_if_no_progress (with_reducible apply Keep.upd_det b_det)) | (fail_if_no_progress (with_reducible apply Keep.upd_job b_job)) | (fail_if_no_progress ((with_reducible refine Keep.updAll ?_ ?_ ?_ ?_ ?_ ?_ ?_ ?_ ?_ ?_ ?_ ?_ ?_ ?_ ?_ ?_ ?_ ?_ ?_ ?_ ?_ ?_ ?_ ?_ ?_ ?_); iterate 25 (first | (with_reducible rfl) | (with_reducible exact fun _ => rfl) | (exact fun b => absurd (b.symm.trans (Keep.bit hM rfl)) (by decide))))) | (with_reducible apply circuitEntryWrite_keep m0) | (with_reducible apply setAcc_keep m1) | (with_reducible apply plain_keep m2) | (with_reducible apply judged_keep m2) | (with_reducible apply State.setExer_keep m3) | (with_reducible apply State.setTele_keep m4) | (with_reducible apply openingTreeWrite_keep m5) | (with_reducible apply partnerConfigWrite_keep m6) | (with_reducible apply substitutionTableWrite_keep m7) | (with_reducible apply shadowBankWrite_keep m7) | (with_reducible apply wiringMapWrite_keep m7) | (with_reducible apply regionTableWrite_keep m8) | (with_reducible apply segmentTableWrite_keep m9) | (with_reducible apply streamProgramTableWrite_keep m9) | (with_reducible apply vectorEntryWrite_keep m10) | (with_reducible apply codeSlotWrite_keep m10) | (with_reducible apply tensorTableWrite_keep m11) | (with_reducible apply programSlotWrite_keep m12) | (with_reducible apply treeTableWrite_keep m13) | (with_reducible apply slotConfigWrite_keep m13) | (with_reducible apply State.setExPort_keep m3) | (with_reducible apply State.forward_keep m0) | (with_reducible apply State.setPort_keep m14) | (intro) | (with_reducible apply Keep.ite) | split | dsimp only | (with_reducible refine Keep.snd (by with_reducible assumption) ?_))

theorem moverWrite_keep {M : Nat} {z0 : State} (hM : M &&& 0xC4C00 = 0xC4C00) (c : Chan) (sub n : Nat) (put : State → State) (s : State) (hput : ∀ y0, Keep M y0 (put y0)) (hk : Keep M z0 s) : Keep M z0 (moverWrite c sub n put s).2 := by
  refine hk.trans ?_
  have m0 : M &&& 0xC4C00 = 0xC4C00 := Keep.sub hM rfl
  have m1 : M &&& 0x4000 = 0x4000 := Keep.sub hM rfl
  have m2 : M &&& 0xC4000 = 0xC4000 := Keep.sub hM rfl
  unfold moverWrite
  try dsimp only
  repeat' (first | (with_reducible exact Keep.refl _ _) | (with_reducible assumption) | (with_reducible apply moverResume_keep m0) | (with_reducible apply moverPause_keep m1) | (with_reducible apply State.refuseChan_keep m2) | (with_reducible apply Keep.trans _ (hput ..)) | (with_reducible apply Keep.ite) | split | dsimp only)

theorem rows1018_keep {M : Nat} (hM : M &&& 0xFFFFFA = 0xFFFFFA) : ∀ r ∈ rows1018, ∀ n y, Keep M y (r.put n y) := by

  unfold rows1018
  repeat' (first | (with_reducible exact List.forall_mem_nil _) | (with_reducible refine List.forall_mem_cons.2 ⟨?_, ?_⟩))
  all_goals (intro n y; dsimp only [w8, wi8, w16, w32, w64, wi64, wd, act, sw, o8, oi8, o16, o32, o64, c64, c32, od, os, cd]; repeat' (first | (with_reducible exact Keep.refl _ _) | split | (with_reducible exact Keep.refl _ _)))

theorem rows1020_keep {M : Nat} (hM : M &&& 0xFFFFFA = 0xFFFFFA) : ∀ r ∈ rows1020, ∀ n y, Keep M y (r.put n y) := by
  have b_acc : M.testBit 19 = true := Keep.bit hM rfl
  unfold rows1020
  repeat' (first | (with_reducible exact List.forall_mem_nil _) | (with_reducible refine List.forall_mem_cons.2 ⟨?_, ?_⟩))
  all_goals (intro n y; dsimp only [w8, wi8, w16, w32, w64, wi64, wd, act, sw, o8, oi8, o16, o32, o64, c64, c32, od, os, cd]; repeat' (first | (with_reducible exact Keep.refl _ _) | (with_reducible exact Keep.upd_acc b_acc (Keep.refl _ _)) | split | (with_reducible exact Keep.refl _ _)))

theorem rows1021_keep {M : Nat} (hM : M &&& 0xFFFFFA = 0xFFFFFA) : ∀ r ∈ rows1021, ∀ n y, Keep M y (r.put n y) := by
  have b_acc : M.testBit 19 = true := Keep.bit hM rfl
  unfold rows1021
  repeat' (first | (with_reducible exact List.forall_mem_nil _) | (with_reducible refine List.forall_mem_cons.2 ⟨?_, ?_⟩))
  all_goals (intro n y; dsimp only [w8, wi8, w16, w32, w64, wi64, wd, act, sw, o8, oi8, o16, o32, o64, c64, c32, od, os, cd]; repeat' (first | (with_reducible exact Keep.refl _ _) | (with_reducible exact Keep.upd_acc b_acc (Keep.refl _ _)) | split | (with_reducible exact Keep.refl _ _)))

theorem rows1030_keep {M : Nat} (hM : M &&& 0xFFFFFA = 0xFFFFFA) : ∀ r ∈ rows1030, ∀ n y, Keep M y (r.put n y) := by

  unfold rows1030
  repeat' (first | (with_reducible exact List.forall_mem_nil _) | (with_reducible refine List.forall_mem_cons.2 ⟨?_, ?_⟩))
  all_goals (intro n y; dsimp only [w8, wi8, w16, w32, w64, wi64, wd, act, sw, o8, oi8, o16, o32, o64, c64, c32, od, os, cd]; repeat' (first | (with_reducible exact Keep.refl _ _) | split | (with_reducible exact Keep.refl _ _)))

theorem rows1040_keep {M : Nat} (hM : M &&& 0xFFFFFA = 0xFFFFFA) : ∀ r ∈ rows1040, ∀ n y, Keep M y (r.put n y) := by

  unfold rows1040
  repeat' (first | (with_reducible exact List.forall_mem_nil _) | (with_reducible refine List.forall_mem_cons.2 ⟨?_, ?_⟩))
  all_goals (intro n y; dsimp only [w8, wi8, w16, w32, w64, wi64, wd, act, sw, o8, oi8, o16, o32, o64, c64, c32, od, os, cd]; repeat' (first | (with_reducible exact Keep.refl _ _) | split | (with_reducible exact Keep.refl _ _)))

theorem rows1F00_keep {M : Nat} (hM : M &&& 0xFFFFFA = 0xFFFFFA) : ∀ r ∈ rows1F00, ∀ n y, Keep M y (r.put n y) := by

  unfold rows1F00
  repeat' (first | (with_reducible exact List.forall_mem_nil _) | (with_reducible refine List.forall_mem_cons.2 ⟨?_, ?_⟩))
  all_goals (intro n y; dsimp only [w8, wi8, w16, w32, w64, wi64, wd, act, sw, o8, oi8, o16, o32, o64, c64, c32, od, os, cd]; repeat' (first | (with_reducible exact Keep.refl _ _) | split | (with_reducible exact Keep.refl _ _)))

theorem rows1F10_keep {M : Nat} (hM : M &&& 0xFFFFFA = 0xFFFFFA) : ∀ r ∈ rows1F10, ∀ n y, Keep M y (r.put n y) := by

  unfold rows1F10
  repeat' (first | (with_reducible exact List.forall_mem_nil _) | (with_reducible refine List.forall_mem_cons.2 ⟨?_, ?_⟩))
  all_goals (intro n y; dsimp only [w8, wi8, w16, w32, w64, wi64, wd, act, sw, o8, oi8, o16, o32, o64, c64, c32, od, os, cd]; repeat' (first | (with_reducible exact Keep.refl _ _) | split | (with_reducible exact Keep.refl _ _)))

theorem rows2000_keep {M : Nat} (hM : M &&& 0xFFFFFA = 0xFFFFFA) : ∀ r ∈ rows2000, ∀ n y, Keep M y (r.put n y) := by

  unfold rows2000
  repeat' (first | (with_reducible exact List.forall_mem_nil _) | (with_reducible refine List.forall_mem_cons.2 ⟨?_, ?_⟩))
  all_goals (intro n y; dsimp only [w8, wi8, w16, w32, w64, wi64, wd, act, sw, o8, oi8, o16, o32, o64, c64, c32, od, os, cd]; repeat' (first | (with_reducible exact Keep.refl _ _) | split | (with_reducible exact Keep.refl _ _)))

theorem rows2010_keep {M : Nat} (hM : M &&& 0xFFFFFA = 0xFFFFFA) : ∀ r ∈ rows2010, ∀ n y, Keep M y (r.put n y) := by
  have b_job : M.testBit 15 = true := Keep.bit hM rfl
  unfold rows2010
  repeat' (first | (with_reducible exact List.forall_mem_nil _) | (with_reducible refine List.forall_mem_cons.2 ⟨?_, ?_⟩))
  all_goals (intro n y; dsimp only [w8, wi8, w16, w32, w64, wi64, wd, act, sw, o8, oi8, o16, o32, o64, c64, c32, od, os, cd]; repeat' (first | (with_reducible exact Keep.refl _ _) | (with_reducible exact Keep.upd_job b_job (Keep.refl _ _)) | (with_reducible apply State.missing_keep (Keep.sub hM rfl)) | split | (with_reducible exact Keep.refl _ _)))

theorem rows2020_keep {M : Nat} (hM : M &&& 0xFFFFFA = 0xFFFFFA) : ∀ r ∈ rows2020, ∀ n y, Keep M y (r.put n y) := by
  have b_job : M.testBit 15 = true := Keep.bit hM rfl
  unfold rows2020
  repeat' (first | (with_reducible exact List.forall_mem_nil _) | (with_reducible refine List.forall_mem_cons.2 ⟨?_, ?_⟩))
  all_goals (intro n y; dsimp only [w8, wi8, w16, w32, w64, wi64, wd, act, sw, o8, oi8, o16, o32, o64, c64, c32, od, os, cd]; repeat' (first | (with_reducible exact Keep.refl _ _) | (with_reducible exact Keep.upd_job b_job (Keep.refl _ _)) | split | (with_reducible exact Keep.refl _ _)))

theorem rows2030_keep {M : Nat} (hM : M &&& 0xFFFFFA = 0xFFFFFA) : ∀ r ∈ rows2030, ∀ n y, Keep M y (r.put n y) := by

  unfold rows2030
  repeat' (first | (with_reducible exact List.forall_mem_nil _) | (with_reducible refine List.forall_mem_cons.2 ⟨?_, ?_⟩))
  all_goals (intro n y; dsimp only [w8, wi8, w16, w32, w64, wi64, wd, act, sw, o8, oi8, o16, o32, o64, c64, c32, od, os, cd]; repeat' (first | (with_reducible exact Keep.refl _ _) | split | (with_reducible exact Keep.refl _ _)))

theorem rows2100_keep {M : Nat} (hM : M &&& 0xFFFFFA = 0xFFFFFA) : ∀ r ∈ rows2100, ∀ n y, Keep M y (r.put n y) := by
  have b_fence : M.testBit 4 = true := Keep.bit hM rfl
  unfold rows2100
  repeat' (first | (with_reducible exact List.forall_mem_nil _) | (with_reducible refine List.forall_mem_cons.2 ⟨?_, ?_⟩))
  all_goals (intro n y; dsimp only [w8, wi8, w16, w32, w64, wi64, wd, act, sw, o8, oi8, o16, o32, o64, c64, c32, od, os, cd]; repeat' (first | (with_reducible exact Keep.refl _ _) | (with_reducible exact Keep.upd_fence b_fence (Keep.refl _ _)) | split | (with_reducible exact Keep.refl _ _)))

theorem rows2200_keep {M : Nat} (hM : M &&& 0xFFFFFA = 0xFFFFFA) : ∀ r ∈ rows2200, ∀ n y, Keep M y (r.put n y) := by
  have b_upd : M.testBit 6 = true := Keep.bit hM rfl
  unfold rows2200
  repeat' (first | (with_reducible exact List.forall_mem_nil _) | (with_reducible refine List.forall_mem_cons.2 ⟨?_, ?_⟩))
  all_goals (intro n y; dsimp only [w8, wi8, w16, w32, w64, wi64, wd, act, sw, o8, oi8, o16, o32, o64, c64, c32, od, os, cd]; repeat' (first | (with_reducible exact Keep.refl _ _) | (with_reducible exact Keep.upd_upd b_upd (Keep.refl _ _)) | (with_reducible apply stepSizeWrite_keep (Keep.sub hM rfl)) | split | (with_reducible exact Keep.refl _ _)))

theorem rows2300_keep {M : Nat} (hM : M &&& 0xFFFFFA = 0xFFFFFA) : ∀ r ∈ rows2300, ∀ n y, Keep M y (r.put n y) := by
  have b_red : M.testBit 5 = true := Keep.bit hM rfl
  unfold rows2300
  repeat' (first | (with_reducible exact List.forall_mem_nil _) | (with_reducible refine List.forall_mem_cons.2 ⟨?_, ?_⟩))
  all_goals (intro n y; dsimp only [w8, wi8, w16, w32, w64, wi64, wd, act, sw, o8, oi8, o16, o32, o64, c64, c32, od, os, cd]; repeat' (first | (with_reducible exact Keep.refl _ _) | (with_reducible exact Keep.upd_red b_red (Keep.refl _ _)) | split | (with_reducible exact Keep.refl _ _)))

theorem rows2310_keep {M : Nat} (hM : M &&& 0xFFFFFA = 0xFFFFFA) : ∀ r ∈ rows2310, ∀ n y, Keep M y (r.put n y) := by

  unfold rows2310
  repeat' (first | (with_reducible exact List.forall_mem_nil _) | (with_reducible refine List.forall_mem_cons.2 ⟨?_, ?_⟩))
  all_goals (intro n y; dsimp only [w8, wi8, w16, w32, w64, wi64, wd, act, sw, o8, oi8, o16, o32, o64, c64, c32, od, os, cd]; repeat' (first | (with_reducible exact Keep.refl _ _) | split | (with_reducible exact Keep.refl _ _)))

theorem rows2320_keep {M : Nat} (hM : M &&& 0xFFFFFA = 0xFFFFFA) : ∀ r ∈ rows2320, ∀ n y, Keep M y (r.put n y) := by

  unfold rows2320
  repeat' (first | (with_reducible exact List.forall_mem_nil _) | (with_reducible refine List.forall_mem_cons.2 ⟨?_, ?_⟩))
  all_goals (intro n y; dsimp only [w8, wi8, w16, w32, w64, wi64, wd, act, sw, o8, oi8, o16, o32, o64, c64, c32, od, os, cd]; repeat' (first | (with_reducible exact Keep.refl _ _) | split | (with_reducible exact Keep.refl _ _)))

theorem rows240n_keep {M : Nat} (hM : M &&& 0xFFFFFA = 0xFFFFFA) (i : Fin 16) : ∀ r ∈ rows240n i, ∀ n y, Keep M y (r.put n y) := by

  unfold rows240n
  repeat' (first | (with_reducible exact List.forall_mem_nil _) | (with_reducible refine List.forall_mem_cons.2 ⟨?_, ?_⟩))
  all_goals (intro n y; dsimp only [w8, wi8, w16, w32, w64, wi64, wd, act, sw, o8, oi8, o16, o32, o64, c64, c32, od, os, cd]; repeat' (first | (with_reducible exact Keep.refl _ _) | split | (with_reducible exact Keep.refl _ _)))

theorem rows2500_keep {M : Nat} (hM : M &&& 0xFFFFFA = 0xFFFFFA) : ∀ r ∈ rows2500, ∀ n y, Keep M y (r.put n y) := by

  unfold rows2500
  repeat' (first | (with_reducible exact List.forall_mem_nil _) | (with_reducible refine List.forall_mem_cons.2 ⟨?_, ?_⟩))
  all_goals (intro n y; dsimp only [w8, wi8, w16, w32, w64, wi64, wd, act, sw, o8, oi8, o16, o32, o64, c64, c32, od, os, cd]; repeat' (first | (with_reducible exact Keep.refl _ _) | split | (with_reducible exact Keep.refl _ _)))

theorem rows2600_keep {M : Nat} (hM : M &&& 0xFFFFFA = 0xFFFFFA) : ∀ r ∈ rows2600, ∀ n y, Keep M y (r.put n y) := by

  unfold rows2600
  repeat' (first | (with_reducible exact List.forall_mem_nil _) | (with_reducible refine List.forall_mem_cons.2 ⟨?_, ?_⟩))
  all_goals (intro n y; dsimp only [w8, wi8, w16, w32, w64, wi64, wd, act, sw, o8, oi8, o16, o32, o64, c64, c32, od, os, cd]; repeat' (first | (with_reducible exact Keep.refl _ _) | split | (with_reducible exact Keep.refl _ _)))

theorem rows2610_keep {M : Nat} (hM : M &&& 0xFFFFFA = 0xFFFFFA) : ∀ r ∈ rows2610, ∀ n y, Keep M y (r.put n y) := by

  unfold rows2610
  repeat' (first | (with_reducible exact List.forall_mem_nil _) | (with_reducible refine List.forall_mem_cons.2 ⟨?_, ?_⟩))
  all_goals (intro n y; dsimp only [w8, wi8, w16, w32, w64, wi64, wd, act, sw, o8, oi8, o16, o32, o64, c64, c32, od, os, cd]; repeat' (first | (with_reducible exact Keep.refl _ _) | split | (with_reducible exact Keep.refl _ _)))

theorem rows2700_keep {M : Nat} (hM : M &&& 0xFFFFFA = 0xFFFFFA) : ∀ r ∈ rows2700, ∀ n y, Keep M y (r.put n y) := by
  have b_vec : M.testBit 7 = true := Keep.bit hM rfl
  unfold rows2700
  repeat' (first | (with_reducible exact List.forall_mem_nil _) | (with_reducible refine List.forall_mem_cons.2 ⟨?_, ?_⟩))
  all_goals (intro n y; dsimp only [w8, wi8, w16, w32, w64, wi64, wd, act, sw, o8, oi8, o16, o32, o64, c64, c32, od, os, cd]; repeat' (first | (with_reducible exact Keep.refl _ _) | (with_reducible exact Keep.upd_vec b_vec (Keep.refl _ _)) | split | (with_reducible exact Keep.refl _ _)))

theorem rows271n_keep {M : Nat} (hM : M &&& 0xFFFFFA = 0xFFFFFA) (i : Fin 16) : ∀ r ∈ rows271n i, ∀ n y, Keep M y (r.put n y) := by

  unfold rows271n
  repeat' (first | (with_reducible exact List.forall_mem_nil _) | (with_reducible refine List.forall_mem_cons.2 ⟨?_, ?_⟩))
  all_goals (intro n y; dsimp only [w8, wi8, w16, w32, w64, wi64, wd, act, sw, o8, oi8, o16, o32, o64, c64, c32, od, os, cd]; repeat' (first | (with_reducible exact Keep.refl _ _) | split | (with_reducible exact Keep.refl _ _)))

theorem rows2720_keep {M : Nat} (hM : M &&& 0xFFFFFA = 0xFFFFFA) : ∀ r ∈ rows2720, ∀ n y, Keep M y (r.put n y) := by

  unfold rows2720
  repeat' (first | (with_reducible exact List.forall_mem_nil _) | (with_reducible refine List.forall_mem_cons.2 ⟨?_, ?_⟩))
  all_goals (intro n y; dsimp only [w8, wi8, w16, w32, w64, wi64, wd, act, sw, o8, oi8, o16, o32, o64, c64, c32, od, os, cd]; repeat' (first | (with_reducible exact Keep.refl _ _) | split | (with_reducible exact Keep.refl _ _)))

theorem rows2800_keep {M : Nat} (hM : M &&& 0xFFFFFA = 0xFFFFFA) : ∀ r ∈ rows2800, ∀ n y, Keep M y (r.put n y) := by
  have b_str : M.testBit 8 = true := Keep.bit hM rfl
  unfold rows2800
  repeat' (first | (with_reducible exact List.forall_mem_nil _) | (with_reducible refine List.forall_mem_cons.2 ⟨?_, ?_⟩))
  all_goals (intro n y; dsimp only [w8, wi8, w16, w32, w64, wi64, wd, act, sw, o8, oi8, o16, o32, o64, c64, c32, od, os, cd]; repeat' (first | (with_reducible exact Keep.refl _ _) | (with_reducible exact Keep.upd_str b_str (Keep.refl _ _)) | split | (with_reducible exact Keep.refl _ _)))

theorem rows2810_keep {M : Nat} (hM : M &&& 0xFFFFFA = 0xFFFFFA) : ∀ r ∈ rows2810, ∀ n y, Keep M y (r.put n y) := by

  unfold rows2810
  repeat' (first | (with_reducible exact List.forall_mem_nil _) | (with_reducible refine List.forall_mem_cons.2 ⟨?_, ?_⟩))
  all_goals (intro n y; dsimp only [w8, wi8, w16, w32, w64, wi64, wd, act, sw, o8, oi8, o16, o32, o64, c64, c32, od, os, cd]; repeat' (first | (with_reducible exact Keep.refl _ _) | split | (with_reducible exact Keep.refl _ _)))

theorem rows2820_keep {M : Nat} (hM : M &&& 0xFFFFFA = 0xFFFFFA) : ∀ r ∈ rows2820, ∀ n y, Keep M y (r.put n y) := by

  unfold rows2820
  repeat' (first | (with_reducible exact List.forall_mem_nil _) | (with_reducible refine List.forall_mem_cons.2 ⟨?_, ?_⟩))
  all_goals (intro n y; dsimp only [w8, wi8, w16, w32, w64, wi64, wd, act, sw, o8, oi8, o16, o32, o64, c64, c32, od, os, cd]; repeat' (first | (with_reducible exact Keep.refl _ _) | split | (with_reducible exact Keep.refl _ _)))

theorem rows3000_keep {M : Nat} (hM : M &&& 0xFFFFFA = 0xFFFFFA) : ∀ r ∈ rows3000, ∀ n y, Keep M y (r.put n y) := by
  have b_part : M.testBit 12 = true := Keep.bit hM rfl
  unfold rows3000
  repeat' (first | (with_reducible exact List.forall_mem_nil _) | (with_reducible refine List.forall_mem_cons.2 ⟨?_, ?_⟩))
  all_goals (intro n y; dsimp only [w8, wi8, w16, w32, w64, wi64, wd, act, sw, o8, oi8, o16, o32, o64, c64, c32, od, os, cd]; repeat' (first | (with_reducible exact Keep.refl _ _) | (with_reducible exact Keep.upd_part b_part (Keep.refl _ _)) | (with_reducible apply partnerConfigWrite_keep (Keep.sub hM rfl)) | split | (with_reducible exact Keep.refl _ _)))

theorem rows3100_keep {M : Nat} (hM : M &&& 0xFFFFFA = 0xFFFFFA) : ∀ r ∈ rows3100, ∀ n y, Keep M y (r.put n y) := by
  have b_part : M.testBit 12 = true := Keep.bit hM rfl
  unfold rows3100
  repeat' (first | (with_reducible exact List.forall_mem_nil _) | (with_reducible refine List.forall_mem_cons.2 ⟨?_, ?_⟩))
  all_goals (intro n y; dsimp only [w8, wi8, w16, w32, w64, wi64, wd, act, sw, o8, oi8, o16, o32, o64, c64, c32, od, os, cd]; repeat' (first | (with_reducible exact Keep.refl _ _) | (with_reducible exact Keep.upd_part b_part (Keep.refl _ _)) | split | (with_reducible exact Keep.refl _ _)))

theorem rows3200_keep {M : Nat} (hM : M &&& 0xFFFFFA = 0xFFFFFA) : ∀ r ∈ rows3200, ∀ n y, Keep M y (r.put n y) := by
  have b_adj : M.testBit 13 = true := Keep.bit hM rfl
  unfold rows3200
  repeat' (first | (with_reducible exact List.forall_mem_nil _) | (with_reducible refine List.forall_mem_cons.2 ⟨?_, ?_⟩))
  all_goals (intro n y; dsimp only [w8, wi8, w16, w32, w64, wi64, wd, act, sw, o8, oi8, o16, o32, o64, c64, c32, od, os, cd]; repeat' (first | (with_reducible exact Keep.refl _ _) | (with_reducible exact Keep.upd_adj b_adj (Keep.refl _ _)) | (with_reducible apply adjournmentConfigWrite_keep (Keep.sub hM rfl)) | split | (with_reducible exact Keep.refl _ _)))

theorem rows3300_keep {M : Nat} (hM : M &&& 0xFFFFFA = 0xFFFFFA) : ∀ r ∈ rows3300, ∀ n y, Keep M y (r.put n y) := by

  unfold rows3300
  repeat' (first | (with_reducible exact List.forall_mem_nil _) | (with_reducible refine List.forall_mem_cons.2 ⟨?_, ?_⟩))
  all_goals (intro n y; dsimp only [w8, wi8, w16, w32, w64, wi64, wd, act, sw, o8, oi8, o16, o32, o64, c64, c32, od, os, cd]; repeat' (first | (with_reducible exact Keep.refl _ _) | (with_reducible apply State.free_keep (Keep.sub hM rfl)) | split | (with_reducible exact Keep.refl _ _)))

theorem rows3310_keep {M : Nat} (hM : M &&& 0xFFFFFA = 0xFFFFFA) : ∀ r ∈ rows3310, ∀ n y, Keep M y (r.put n y) := by
  have b_adj : M.testBit 13 = true := Keep.bit hM rfl
  unfold rows3310
  repeat' (first | (with_reducible exact List.forall_mem_nil _) | (with_reducible refine List.forall_mem_cons.2 ⟨?_, ?_⟩))
  all_goals (intro n y; dsimp only [w8, wi8, w16, w32, w64, wi64, wd, act, sw, o8, oi8, o16, o32, o64, c64, c32, od, os, cd]; repeat' (first | (with_reducible exact Keep.refl _ _) | (with_reducible exact Keep.upd_adj b_adj (Keep.refl _ _)) | split | (with_reducible exact Keep.refl _ _)))

theorem rows34cc_keep {M : Nat} (hM : M &&& 0xFFFFFA = 0xFFFFFA) (c : Chan) : ∀ r ∈ rows34cc c, ∀ n y, Keep M y (r.put n y) := by

  unfold rows34cc
  repeat' (first | (with_reducible exact List.forall_mem_nil _) | (with_reducible refine List.forall_mem_cons.2 ⟨?_, ?_⟩))
  all_goals (intro n y; dsimp only [w8, wi8, w16, w32, w64, wi64, wd, act, sw, o8, oi8, o16, o32, o64, c64, c32, od, os, cd]; repeat' (first | (with_reducible exact Keep.refl _ _) | (with_reducible apply State.setChan_keep (Keep.sub hM rfl)) | (with_reducible apply State.setControl_keep (Keep.sub hM rfl)) | split | (with_reducible exact Keep.refl _ _)))

theorem rows3440_keep {M : Nat} (hM : M &&& 0xFFFFFA = 0xFFFFFA) : ∀ r ∈ rows3440, ∀ n y, Keep M y (r.put n y) := by
  have b_mov : M.testBit 14 = true := Keep.bit hM rfl
  unfold rows3440
  repeat' (first | (with_reducible exact List.forall_mem_nil _) | (with_reducible refine List.forall_mem_cons.2 ⟨?_, ?_⟩))
  all_goals (intro n y; dsimp only [w8, wi8, w16, w32, w64, wi64, wd, act, sw, o8, oi8, o16, o32, o64, c64, c32, od, os, cd]; repeat' (first | (with_reducible exact Keep.refl _ _) | (with_reducible exact Keep.upd_mov b_mov (Keep.refl _ _)) | split | (with_reducible exact Keep.refl _ _)))

theorem rows3500_keep {M : Nat} (hM : M &&& 0xFFFFFA = 0xFFFFFA) : ∀ r ∈ rows3500, ∀ n y, Keep M y (r.put n y) := by
  have b_mem : M.testBit 9 = true := Keep.bit hM rfl
  unfold rows3500
  repeat' (first | (with_reducible exact List.forall_mem_nil _) | (with_reducible refine List.forall_mem_cons.2 ⟨?_, ?_⟩))
  all_goals (intro n y; dsimp only [w8, wi8, w16, w32, w64, wi64, wd, act, sw, o8, oi8, o16, o32, o64, c64, c32, od, os, cd]; repeat' (first | (with_reducible exact Keep.refl _ _) | (exact Keep.upd_mem b_mem rfl (Keep.refl _ _)) | split | (with_reducible exact Keep.refl _ _)))

theorem rows3510_keep {M : Nat} (hM : M &&& 0xFFFFFA = 0xFFFFFA) : ∀ r ∈ rows3510, ∀ n y, Keep M y (r.put n y) := by

  unfold rows3510
  repeat' (first | (with_reducible exact List.forall_mem_nil _) | (with_reducible refine List.forall_mem_cons.2 ⟨?_, ?_⟩))
  all_goals (intro n y; dsimp only [w8, wi8, w16, w32, w64, wi64, wd, act, sw, o8, oi8, o16, o32, o64, c64, c32, od, os, cd]; repeat' (first | (with_reducible exact Keep.refl _ _) | split | (with_reducible exact Keep.refl _ _)))

theorem rows4000_keep {M : Nat} (hM : M &&& 0xFFFFFA = 0xFFFFFA) : ∀ r ∈ rows4000, ∀ n y, Keep M y (r.put n y) := by
  have b_det : M.testBit 16 = true := Keep.bit hM rfl
  unfold rows4000
  repeat' (first | (with_reducible exact List.forall_mem_nil _) | (with_reducible refine List.forall_mem_cons.2 ⟨?_, ?_⟩))
  all_goals (intro n y; dsimp only [w8, wi8, w16, w32, w64, wi64, wd, act, sw, o8, oi8, o16, o32, o64, c64, c32, od, os, cd]; repeat' (first | (with_reducible exact Keep.refl _ _) | (with_reducible exact Keep.upd_det b_det (Keep.refl _ _)) | split | (with_reducible exact Keep.refl _ _)))

theorem rows4010_keep {M : Nat} (hM : M &&& 0xFFFFFA = 0xFFFFFA) : ∀ r ∈ rows4010, ∀ n y, Keep M y (r.put n y) := by

  unfold rows4010
  repeat' (first | (with_reducible exact List.forall_mem_nil _) | (with_reducible refine List.forall_mem_cons.2 ⟨?_, ?_⟩))
  all_goals (intro n y; dsimp only [w8, wi8, w16, w32, w64, wi64, wd, act, sw, o8, oi8, o16, o32, o64, c64, c32, od, os, cd]; repeat' (first | (with_reducible exact Keep.refl _ _) | split | (with_reducible exact Keep.refl _ _)))

theorem rows4100_keep {M : Nat} (hM : M &&& 0xFFFFFA = 0xFFFFFA) : ∀ r ∈ rows4100, ∀ n y, Keep M y (r.put n y) := by
  have b_health : M.testBit 17 = true := Keep.bit hM rfl
  unfold rows4100
  repeat' (first | (with_reducible exact List.forall_mem_nil _) | (with_reducible refine List.forall_mem_cons.2 ⟨?_, ?_⟩))
  all_goals (intro n y; dsimp only [w8, wi8, w16, w32, w64, wi64, wd, act, sw, o8, oi8, o16, o32, o64, c64, c32, od, os, cd]; repeat' (first | (with_reducible exact Keep.refl _ _) | (with_reducible exact Keep.upd_health b_health (Keep.refl _ _)) | split | (with_reducible exact Keep.refl _ _)))

theorem rows4200_keep {M : Nat} (hM : M &&& 0xFFFFFA = 0xFFFFFA) : ∀ r ∈ rows4200, ∀ n y, Keep M y (r.put n y) := by
  have b_health : M.testBit 17 = true := Keep.bit hM rfl
  unfold rows4200
  repeat' (first | (with_reducible exact List.forall_mem_nil _) | (with_reducible refine List.forall_mem_cons.2 ⟨?_, ?_⟩))
  all_goals (intro n y; dsimp only [w8, wi8, w16, w32, w64, wi64, wd, act, sw, o8, oi8, o16, o32, o64, c64, c32, od, os, cd]; repeat' (first | (with_reducible exact Keep.refl _ _) | (with_reducible exact Keep.upd_health b_health (Keep.refl _ _)) | split | (with_reducible exact Keep.refl _ _)))

theorem rows5020_keep {M : Nat} (hM : M &&& 0xFFFFFA = 0xFFFFFA) : ∀ r ∈ rows5020, ∀ n y, Keep M y (r.put n y) := by
  have b_links : M.testBit 10 = true := Keep.bit hM rfl
  unfold rows5020
  repeat' (first | (with_reducible exact List.forall_mem_nil _) | (with_reducible refine List.forall_mem_cons.2 ⟨?_, ?_⟩))
  all_goals (intro n y; dsimp only [w8, wi8, w16, w32, w64, wi64, wd, act, sw, o8, oi8, o16, o32, o64, c64, c32, od, os, cd]; repeat' (first | (with_reducible exact Keep.refl _ _) | (with_reducible exact Keep.upd_links b_links (Keep.refl _ _)) | split | (with_reducible exact Keep.refl _ _)))

theorem rows50pp_keep {M : Nat} (hM : M &&& 0xFFFFFA = 0xFFFFFA) (p : Port) : ∀ r ∈ rows50pp p, ∀ n y, Keep M y (r.put n y) := by

  unfold rows50pp
  repeat' (first | (with_reducible exact List.forall_mem_nil _) | (with_reducible refine List.forall_mem_cons.2 ⟨?_, ?_⟩))
  all_goals (intro n y; dsimp only [w8, wi8, w16, w32, w64, wi64, wd, act, sw, o8, oi8, o16, o32, o64, c64, c32, od, os, cd]; repeat' (first | (with_reducible exact Keep.refl _ _) | (with_reducible apply State.setPort_keep (Keep.sub hM rfl)) | split | (with_reducible exact Keep.refl _ _)))

theorem rows5100_keep {M : Nat} (hM : M &&& 0xFFFFFA = 0xFFFFFA) : ∀ r ∈ rows5100, ∀ n y, Keep M y (r.put n y) := by
  have b_route : M.testBit 11 = true := Keep.bit hM rfl
  unfold rows5100
  repeat' (first | (with_reducible exact List.forall_mem_nil _) | (with_reducible refine List.forall_mem_cons.2 ⟨?_, ?_⟩))
  all_goals (intro n y; dsimp only [w8, wi8, w16, w32, w64, wi64, wd, act, sw, o8, oi8, o16, o32, o64, c64, c32, od, os, cd]; repeat' (first | (with_reducible exact Keep.refl _ _) | (with_reducible exact Keep.upd_route b_route (Keep.refl _ _)) | split | (with_reducible exact Keep.refl _ _)))

theorem rows5200_keep {M : Nat} (hM : M &&& 0xFFFFFA = 0xFFFFFA) : ∀ r ∈ rows5200, ∀ n y, Keep M y (r.put n y) := by
  have b_route : M.testBit 11 = true := Keep.bit hM rfl
  unfold rows5200
  repeat' (first | (with_reducible exact List.forall_mem_nil _) | (with_reducible refine List.forall_mem_cons.2 ⟨?_, ?_⟩))
  all_goals (intro n y; dsimp only [w8, wi8, w16, w32, w64, wi64, wd, act, sw, o8, oi8, o16, o32, o64, c64, c32, od, os, cd]; repeat' (first | (with_reducible exact Keep.refl _ _) | (with_reducible exact Keep.upd_route b_route (Keep.refl _ _)) | split | (with_reducible exact Keep.refl _ _)))

theorem rows5210_keep {M : Nat} (hM : M &&& 0xFFFFFA = 0xFFFFFA) : ∀ r ∈ rows5210, ∀ n y, Keep M y (r.put n y) := by

  unfold rows5210
  repeat' (first | (with_reducible exact List.forall_mem_nil _) | (with_reducible refine List.forall_mem_cons.2 ⟨?_, ?_⟩))
  all_goals (intro n y; dsimp only [w8, wi8, w16, w32, w64, wi64, wd, act, sw, o8, oi8, o16, o32, o64, c64, c32, od, os, cd]; repeat' (first | (with_reducible exact Keep.refl _ _) | split | (with_reducible exact Keep.refl _ _)))

theorem rows5300_keep {M : Nat} (hM : M &&& 0xFFFFFA = 0xFFFFFA) : ∀ r ∈ rows5300, ∀ n y, Keep M y (r.put n y) := by
  have b_route : M.testBit 11 = true := Keep.bit hM rfl
  unfold rows5300
  repeat' (first | (with_reducible exact List.forall_mem_nil _) | (with_reducible refine List.forall_mem_cons.2 ⟨?_, ?_⟩))
  all_goals (intro n y; dsimp only [w8, wi8, w16, w32, w64, wi64, wd, act, sw, o8, oi8, o16, o32, o64, c64, c32, od, os, cd]; repeat' (first | (with_reducible exact Keep.refl _ _) | (with_reducible exact Keep.upd_route b_route (Keep.refl _ _)) | split | (with_reducible exact Keep.refl _ _)))

theorem rows6010_keep {M : Nat} (hM : M &&& 0xFFFFFA = 0xFFFFFA) : ∀ r ∈ rows6010, ∀ n y, Keep M y (r.put n y) := by

  unfold rows6010
  repeat' (first | (with_reducible exact List.forall_mem_nil _) | (with_reducible refine List.forall_mem_cons.2 ⟨?_, ?_⟩))
  all_goals (intro n y; dsimp only [w8, wi8, w16, w32, w64, wi64, wd, act, sw, o8, oi8, o16, o32, o64, c64, c32, od, os, cd]; repeat' (first | (with_reducible exact Keep.refl _ _) | split | (with_reducible exact Keep.refl _ _)))

theorem rows6020_keep {M : Nat} (hM : M &&& 0xFFFFFA = 0xFFFFFA) : ∀ r ∈ rows6020, ∀ n y, Keep M y (r.put n y) := by

  unfold rows6020
  repeat' (first | (with_reducible exact List.forall_mem_nil _) | (with_reducible refine List.forall_mem_cons.2 ⟨?_, ?_⟩))
  all_goals (intro n y; dsimp only [w8, wi8, w16, w32, w64, wi64, wd, act, sw, o8, oi8, o16, o32, o64, c64, c32, od, os, cd]; repeat' (first | (with_reducible exact Keep.refl _ _) | split | (with_reducible exact Keep.refl _ _)))

theorem rows6100_keep {M : Nat} (hM : M &&& 0xFFFFFA = 0xFFFFFA) : ∀ r ∈ rows6100, ∀ n y, Keep M y (r.put n y) := by

  unfold rows6100
  repeat' (first | (with_reducible exact List.forall_mem_nil _) | (with_reducible refine List.forall_mem_cons.2 ⟨?_, ?_⟩))
  all_goals (intro n y; dsimp only [w8, wi8, w16, w32, w64, wi64, wd, act, sw, o8, oi8, o16, o32, o64, c64, c32, od, os, cd]; repeat' (first | (with_reducible exact Keep.refl _ _) | split | (with_reducible exact Keep.refl _ _)))

theorem rows6400_keep {M : Nat} (hM : M &&& 0xFFFFFA = 0xFFFFFA) : ∀ r ∈ rows6400, ∀ n y, Keep M y (r.put n y) := by
  have b_tele : M.testBit 18 = true := Keep.bit hM rfl
  unfold rows6400
  repeat' (first | (with_reducible exact List.forall_mem_nil _) | (with_reducible refine List.forall_mem_cons.2 ⟨?_, ?_⟩))
  all_goals (intro n y; dsimp only [w8, wi8, w16, w32, w64, wi64, wd, act, sw, o8, oi8, o16, o32, o64, c64, c32, od, os, cd]; repeat' (first | (with_reducible exact Keep.refl _ _) | (with_reducible exact Keep.upd_tele b_tele (Keep.refl _ _)) | split | (with_reducible exact Keep.refl _ _)))

theorem rows6500_keep {M : Nat} (hM : M &&& 0xFFFFFA = 0xFFFFFA) : ∀ r ∈ rows6500, ∀ n y, Keep M y (r.put n y) := by
  have b_tele : M.testBit 18 = true := Keep.bit hM rfl
  unfold rows6500
  repeat' (first | (with_reducible exact List.forall_mem_nil _) | (with_reducible refine List.forall_mem_cons.2 ⟨?_, ?_⟩))
  all_goals (intro n y; dsimp only [w8, wi8, w16, w32, w64, wi64, wd, act, sw, o8, oi8, o16, o32, o64, c64, c32, od, os, cd]; repeat' (first | (with_reducible exact Keep.refl _ _) | (with_reducible exact Keep.upd_tele b_tele (Keep.refl _ _)) | split | (with_reducible exact Keep.refl _ _)))

theorem rows7000_keep {M : Nat} (hM : M &&& 0xFFFFFA = 0xFFFFFA) : ∀ r ∈ rows7000, ∀ n y, Keep M y (r.put n y) := by
  have b_tele : M.testBit 18 = true := Keep.bit hM rfl
  unfold rows7000
  repeat' (first | (with_reducible exact List.forall_mem_nil _) | (with_reducible refine List.forall_mem_cons.2 ⟨?_, ?_⟩))
  all_goals (intro n y; dsimp only [w8, wi8, w16, w32, w64, wi64, wd, act, sw, o8, oi8, o16, o32, o64, c64, c32, od, os, cd]; repeat' (first | (with_reducible exact Keep.refl _ _) | (with_reducible exact Keep.upd_tele b_tele (Keep.refl _ _)) | (with_reducible apply recorderFreezeWrite_keep (Keep.sub hM rfl)) | split | (with_reducible exact Keep.refl _ _)))

theorem rows7100_keep {M : Nat} (hM : M &&& 0xFFFFFA = 0xFFFFFA) : ∀ r ∈ rows7100, ∀ n y, Keep M y (r.put n y) := by
  have b_tele : M.testBit 18 = true := Keep.bit hM rfl
  unfold rows7100
  repeat' (first | (with_reducible exact List.forall_mem_nil _) | (with_reducible refine List.forall_mem_cons.2 ⟨?_, ?_⟩))
  all_goals (intro n y; dsimp only [w8, wi8, w16, w32, w64, wi64, wd, act, sw, o8, oi8, o16, o32, o64, c64, c32, od, os, cd]; repeat' (first | (with_reducible exact Keep.refl _ _) | (with_reducible exact Keep.upd_tele b_tele (Keep.refl _ _)) | (with_reducible apply State.forward_keep (Keep.sub hM rfl)) | split | (with_reducible exact Keep.refl _ _)))

theorem rows8000_keep {M : Nat} (hM : M &&& 0xFFFFFA = 0xFFFFFA) : ∀ r ∈ rows8000, ∀ n y, Keep M y (r.put n y) := by
  have b_pwr : M.testBit 21 = true := Keep.bit hM rfl
  unfold rows8000
  repeat' (first | (with_reducible exact List.forall_mem_nil _) | (with_reducible refine List.forall_mem_cons.2 ⟨?_, ?_⟩))
  all_goals (intro n y; dsimp only [w8, wi8, w16, w32, w64, wi64, wd, act, sw, o8, oi8, o16, o32, o64, c64, c32, od, os, cd]; repeat' (first | (with_reducible exact Keep.refl _ _) | (with_reducible exact Keep.upd_pwr b_pwr (Keep.refl _ _)) | (with_reducible apply marginWrite_keep (Keep.sub hM rfl)) | split | (with_reducible exact Keep.refl _ _)))

theorem rows8020_keep {M : Nat} (hM : M &&& 0xFFFFFA = 0xFFFFFA) : ∀ r ∈ rows8020, ∀ n y, Keep M y (r.put n y) := by
  have b_pwr : M.testBit 21 = true := Keep.bit hM rfl
  unfold rows8020
  repeat' (first | (with_reducible exact List.forall_mem_nil _) | (with_reducible refine List.forall_mem_cons.2 ⟨?_, ?_⟩))
  all_goals (intro n y; dsimp only [w8, wi8, w16, w32, w64, wi64, wd, act, sw, o8, oi8, o16, o32, o64, c64, c32, od, os, cd]; repeat' (first | (with_reducible exact Keep.refl _ _) | (with_reducible exact Keep.upd_pwr b_pwr (Keep.refl _ _)) | (with_reducible apply ceilingWrite_keep (Keep.sub hM rfl)) | split | (with_reducible exact Keep.refl _ _)))

theorem rows8100_keep {M : Nat} (hM : M &&& 0xFFFFFA = 0xFFFFFA) : ∀ r ∈ rows8100, ∀ n y, Keep M y (r.put n y) := by
  have b_pwr : M.testBit 21 = true := Keep.bit hM rfl
  unfold rows8100
  repeat' (first | (with_reducible exact List.forall_mem_nil _) | (with_reducible refine List.forall_mem_cons.2 ⟨?_, ?_⟩))
  all_goals (intro n y; dsimp only [w8, wi8, w16, w32, w64, wi64, wd, act, sw, o8, oi8, o16, o32, o64, c64, c32, od, os, cd]; repeat' (first | (with_reducible exact Keep.refl _ _) | (with_reducible exact Keep.upd_pwr b_pwr (Keep.refl _ _)) | split | (with_reducible exact Keep.refl _ _)))

theorem rows8200_keep {M : Nat} (hM : M &&& 0xFFFFFA = 0xFFFFFA) : ∀ r ∈ rows8200, ∀ n y, Keep M y (r.put n y) := by

  unfold rows8200
  repeat' (first | (with_reducible exact List.forall_mem_nil _) | (with_reducible refine List.forall_mem_cons.2 ⟨?_, ?_⟩))
  all_goals (intro n y; dsimp only [w8, wi8, w16, w32, w64, wi64, wd, act, sw, o8, oi8, o16, o32, o64, c64, c32, od, os, cd]; repeat' (first | (with_reducible exact Keep.refl _ _) | split | (with_reducible exact Keep.refl _ _)))

theorem rows8300_keep {M : Nat} (hM : M &&& 0xFFFFFA = 0xFFFFFA) : ∀ r ∈ rows8300, ∀ n y, Keep M y (r.put n y) := by
  have b_pwr : M.testBit 21 = true := Keep.bit hM rfl
  unfold rows8300
  repeat' (first | (with_reducible exact List.forall_mem_nil _) | (with_reducible refine List.forall_mem_cons.2 ⟨?_, ?_⟩))
  all_goals (intro n y; dsimp only [w8, wi8, w16, w32, w64, wi64, wd, act, sw, o8, oi8, o16, o32, o64, c64, c32, od, os, cd]; repeat' (first | (with_reducible exact Keep.refl _ _) | (with_reducible exact Keep.upd_pwr b_pwr (Keep.refl _ _)) | split | (with_reducible exact Keep.refl _ _)))

theorem rows8310_keep {M : Nat} (hM : M &&& 0xFFFFFA = 0xFFFFFA) : ∀ r ∈ rows8310, ∀ n y, Keep M y (r.put n y) := by
  have b_pwr : M.testBit 21 = true := Keep.bit hM rfl
  unfold rows8310
  repeat' (first | (with_reducible exact List.forall_mem_nil _) | (with_reducible refine List.forall_mem_cons.2 ⟨?_, ?_⟩))
  all_goals (intro n y; dsimp only [w8, wi8, w16, w32, w64, wi64, wd, act, sw, o8, oi8, o16, o32, o64, c64, c32, od, os, cd]; repeat' (first | (with_reducible exact Keep.refl _ _) | (with_reducible exact Keep.upd_pwr b_pwr (Keep.refl _ _)) | split | (with_reducible exact Keep.refl _ _)))

theorem rows8400_keep {M : Nat} (hM : M &&& 0xFFFFFA = 0xFFFFFA) : ∀ r ∈ rows8400, ∀ n y, Keep M y (r.put n y) := by
  have b_pwr : M.testBit 21 = true := Keep.bit hM rfl
  unfold rows8400
  repeat' (first | (with_reducible exact List.forall_mem_nil _) | (with_reducible refine List.forall_mem_cons.2 ⟨?_, ?_⟩))
  all_goals (intro n y; dsimp only [w8, wi8, w16, w32, w64, wi64, wd, act, sw, o8, oi8, o16, o32, o64, c64, c32, od, os, cd]; repeat' (first | (with_reducible exact Keep.refl _ _) | (with_reducible exact Keep.upd_pwr b_pwr (Keep.refl _ _)) | (with_reducible apply accResetReleaseWrite_keep (Keep.sub hM rfl)) | split | (with_reducible exact Keep.refl _ _)))

theorem rows9000_keep {M : Nat} (hM : M &&& 0xFFFFFA = 0xFFFFFA) : ∀ r ∈ rows9000, ∀ n y, Keep M y (r.put n y) := by

  unfold rows9000
  repeat' (first | (with_reducible exact List.forall_mem_nil _) | (with_reducible refine List.forall_mem_cons.2 ⟨?_, ?_⟩))
  all_goals (intro n y; dsimp only [w8, wi8, w16, w32, w64, wi64, wd, act, sw, o8, oi8, o16, o32, o64, c64, c32, od, os, cd]; repeat' (first | (with_reducible exact Keep.refl _ _) | split | (with_reducible exact Keep.refl _ _)))

theorem rows9010_keep {M : Nat} (hM : M &&& 0xFFFFFA = 0xFFFFFA) : ∀ r ∈ rows9010, ∀ n y, Keep M y (r.put n y) := by

  unfold rows9010
  repeat' (first | (with_reducible exact List.forall_mem_nil _) | (with_reducible refine List.forall_mem_cons.2 ⟨?_, ?_⟩))
  all_goals (intro n y; dsimp only [w8, wi8, w16, w32, w64, wi64, wd, act, sw, o8, oi8, o16, o32, o64, c64, c32, od, os, cd]; repeat' (first | (with_reducible exact Keep.refl _ _) | split | (with_reducible exact Keep.refl _ _)))

theorem rows9030_keep {M : Nat} (hM : M &&& 0xFFFFFA = 0xFFFFFA) : ∀ r ∈ rows9030, ∀ n y, Keep M y (r.put n y) := by

  unfold rows9030
  repeat' (first | (with_reducible exact List.forall_mem_nil _) | (with_reducible refine List.forall_mem_cons.2 ⟨?_, ?_⟩))
  all_goals (intro n y; dsimp only [w8, wi8, w16, w32, w64, wi64, wd, act, sw, o8, oi8, o16, o32, o64, c64, c32, od, os, cd]; repeat' (first | (with_reducible exact Keep.refl _ _) | split | (with_reducible exact Keep.refl _ _)))

theorem rows9040_keep {M : Nat} (hM : M &&& 0xFFFFFA = 0xFFFFFA) : ∀ r ∈ rows9040, ∀ n y, Keep M y (r.put n y) := by

  unfold rows9040
  repeat' (first | (with_reducible exact List.forall_mem_nil _) | (with_reducible refine List.forall_mem_cons.2 ⟨?_, ?_⟩))
  all_goals (intro n y; dsimp only [w8, wi8, w16, w32, w64, wi64, wd, act, sw, o8, oi8, o16, o32, o64, c64, c32, od, os, cd]; repeat' (first | (with_reducible exact Keep.refl _ _) | split | (with_reducible exact Keep.refl _ _)))

theorem rowsA000_keep {M : Nat} (hM : M &&& 0xFFFFFA = 0xFFFFFA) : ∀ r ∈ rowsA000, ∀ n y, Keep M y (r.put n y) := by
  have b_exer : M.testBit 22 = true := Keep.bit hM rfl
  unfold rowsA000
  repeat' (first | (with_reducible exact List.forall_mem_nil _) | (with_reducible refine List.forall_mem_cons.2 ⟨?_, ?_⟩))
  all_goals (intro n y; dsimp only [w8, wi8, w16, w32, w64, wi64, wd, act, sw, o8, oi8, o16, o32, o64, c64, c32, od, os, cd]; repeat' (first | (with_reducible exact Keep.refl _ _) | (with_reducible exact Keep.upd_exer b_exer (Keep.refl _ _)) | split | (with_reducible exact Keep.refl _ _)))

theorem rowsA1pp_keep {M : Nat} (hM : M &&& 0xFFFFFA = 0xFFFFFA) (p : Port) : ∀ r ∈ rowsA1pp p, ∀ n y, Keep M y (r.put n y) := by

  unfold rowsA1pp
  repeat' (first | (with_reducible exact List.forall_mem_nil _) | (with_reducible refine List.forall_mem_cons.2 ⟨?_, ?_⟩))
  all_goals (intro n y; dsimp only [w8, wi8, w16, w32, w64, wi64, wd, act, sw, o8, oi8, o16, o32, o64, c64, c32, od, os, cd]; repeat' (first | (with_reducible exact Keep.refl _ _) | (with_reducible apply State.setExPort_keep (Keep.sub hM rfl)) | split | (with_reducible exact Keep.refl _ _)))

theorem rowsA2pp_keep {M : Nat} (hM : M &&& 0xFFFFFA = 0xFFFFFA) (p : Port) : ∀ r ∈ rowsA2pp p, ∀ n y, Keep M y (r.put n y) := by

  unfold rowsA2pp
  repeat' (first | (with_reducible exact List.forall_mem_nil _) | (with_reducible refine List.forall_mem_cons.2 ⟨?_, ?_⟩))
  all_goals (intro n y; dsimp only [w8, wi8, w16, w32, w64, wi64, wd, act, sw, o8, oi8, o16, o32, o64, c64, c32, od, os, cd]; repeat' (first | (with_reducible exact Keep.refl _ _) | split | (with_reducible exact Keep.refl _ _)))

theorem rowsA300_keep {M : Nat} (hM : M &&& 0xFFFFFA = 0xFFFFFA) : ∀ r ∈ rowsA300, ∀ n y, Keep M y (r.put n y) := by

  unfold rowsA300
  repeat' (first | (with_reducible exact List.forall_mem_nil _) | (with_reducible refine List.forall_mem_cons.2 ⟨?_, ?_⟩))
  all_goals (intro n y; dsimp only [w8, wi8, w16, w32, w64, wi64, wd, act, sw, o8, oi8, o16, o32, o64, c64, c32, od, os, cd]; repeat' (first | (with_reducible exact Keep.refl _ _) | split | (with_reducible exact Keep.refl _ _)))

theorem rowsA400_keep {M : Nat} (hM : M &&& 0xFFFFFA = 0xFFFFFA) : ∀ r ∈ rowsA400, ∀ n y, Keep M y (r.put n y) := by

  unfold rowsA400
  repeat' (first | (with_reducible exact List.forall_mem_nil _) | (with_reducible refine List.forall_mem_cons.2 ⟨?_, ?_⟩))
  all_goals (intro n y; dsimp only [w8, wi8, w16, w32, w64, wi64, wd, act, sw, o8, oi8, o16, o32, o64, c64, c32, od, os, cd]; repeat' (first | (with_reducible exact Keep.refl _ _) | split | (with_reducible exact Keep.refl _ _)))

theorem counterRun_keep {M : Nat} (hM : M &&& 0xFFFFFA = 0xFFFFFA) (first m : Nat) (f : State → Nat → U64) : ∀ r ∈ counterRun first m f, ∀ n y, Keep M y (r.put n y) := by
  intro r hr n y
  obtain ⟨k, _, rfl⟩ := List.mem_map.1 hr
  exact Keep.refl _ _

theorem rowsSlots_keep {M : Nat} (hM : M &&& 0xFFFFFA = 0xFFFFFA) : ∀ r ∈ rowsSlots, ∀ n y, Keep M y (r.put n y) := by
  intro r hr n y
  rcases List.mem_append.1 hr with hr | hr <;> (obtain ⟨k, _, rfl⟩ := List.mem_map.1 hr; exact Keep.refl _ _)

theorem rows6000_keep {M : Nat} (hM : M &&& 0xFFFFFA = 0xFFFFFA) : ∀ r ∈ rows6000, ∀ n y, Keep M y (r.put n y) := by
  intro r hr n y
  rcases List.mem_append.1 hr with hr | hr
  · simp only [List.mem_cons, List.not_mem_nil, or_false] at hr
    rcases hr with rfl | rfl <;> exact Keep.refl _ _
  · exact counterRun_keep hM 3 14 _ r hr n y

theorem rows6040_keep {M : Nat} (hM : M &&& 0xFFFFFA = 0xFFFFFA) : ∀ r ∈ rows6040, ∀ n y, Keep M y (r.put n y) := by
  exact counterRun_keep hM 3 14 _

theorem rows251p_keep {M : Nat} (hM : M &&& 0xFFFFFA = 0xFFFFFA) (p : Pipe) : ∀ r ∈ rows251p p, ∀ n y, Keep M y (r.put n y) := by
  exact counterRun_keep hM 1 9 _

theorem rows273c_keep {M : Nat} (hM : M &&& 0xFFFFFA = 0xFFFFFA) (c : Core) : ∀ r ∈ rows273c c, ∀ n y, Keep M y (r.put n y) := by
  exact counterRun_keep hM 1 8 _

theorem rowsCircuits_keep {M : Nat} (hM : M &&& 0xFFFFFA = 0xFFFFFA) : ∀ r ∈ rowsCircuits, ∀ n y, Keep M y (r.put n y) := by
  intro r hr n y
  obtain ⟨k, _, rfl⟩ := List.mem_map.1 hr
  exact Keep.refl _ _

theorem objectList1_keep {M : Nat} (hM : M &&& 0xFFFFFA = 0xFFFFFA) : ∀ p ∈ objectList1, ∀ r ∈ p.2, ∀ n y, Keep M y (r.put n y) :=
  List.forall_mem_cons.2 ⟨rows1018_keep hM,
    List.forall_mem_cons.2 ⟨rows1020_keep hM,
    List.forall_mem_cons.2 ⟨rows1021_keep hM,
    List.forall_mem_cons.2 ⟨rows1030_keep hM,
    List.forall_mem_cons.2 ⟨rows1040_keep hM,
    List.forall_mem_cons.2 ⟨rows1F00_keep hM,
    List.forall_mem_cons.2 ⟨rows1F10_keep hM,
    List.forall_mem_cons.2 ⟨rows2000_keep hM,
    List.forall_mem_cons.2 ⟨rows2010_keep hM,
    List.forall_mem_cons.2 ⟨rows2020_keep hM,
    List.forall_mem_cons.2 ⟨rows2030_keep hM,
    List.forall_mem_cons.2 ⟨rows2100_keep hM,
    List.forall_mem_cons.2 ⟨rows2200_keep hM,
    List.forall_mem_cons.2 ⟨rows2300_keep hM,
    List.forall_mem_cons.2 ⟨fun r hr => (List.mem_append.1 hr).elim (rows2310_keep hM r) (rowsSlots_keep hM r),
    List.forall_mem_cons.2 ⟨rows2320_keep hM,
    List.forall_mem_cons.2 ⟨rows2500_keep hM,
    List.forall_mem_cons.2 ⟨rows2600_keep hM,
    List.forall_mem_cons.2 ⟨rows2610_keep hM,
    List.forall_mem_cons.2 ⟨rows2700_keep hM,
    List.forall_mem_cons.2 ⟨rows2720_keep hM,
    List.forall_mem_cons.2 ⟨rows2800_keep hM,
    List.forall_mem_nil _⟩⟩⟩⟩⟩⟩⟩⟩⟩⟩⟩⟩⟩⟩⟩⟩⟩⟩⟩⟩⟩⟩

theorem objectList2_keep {M : Nat} (hM : M &&& 0xFFFFFA = 0xFFFFFA) : ∀ p ∈ objectList2, ∀ r ∈ p.2, ∀ n y, Keep M y (r.put n y) :=
  List.forall_mem_cons.2 ⟨rows2810_keep hM,
    List.forall_mem_cons.2 ⟨rows2820_keep hM,
    List.forall_mem_cons.2 ⟨rows3000_keep hM,
    List.forall_mem_cons.2 ⟨rows3100_keep hM,
    List.forall_mem_cons.2 ⟨rows3200_keep hM,
    List.forall_mem_cons.2 ⟨rows3300_keep hM,
    List.forall_mem_cons.2 ⟨rows3310_keep hM,
    List.forall_mem_cons.2 ⟨rows3440_keep hM,
    List.forall_mem_cons.2 ⟨rows3500_keep hM,
    List.forall_mem_cons.2 ⟨rows3510_keep hM,
    List.forall_mem_cons.2 ⟨rows4000_keep hM,
    List.forall_mem_cons.2 ⟨rows4010_keep hM,
    List.forall_mem_cons.2 ⟨rows4100_keep hM,
    List.forall_mem_cons.2 ⟨rows4200_keep hM,
    List.forall_mem_cons.2 ⟨rows5020_keep hM,
    List.forall_mem_cons.2 ⟨rows5100_keep hM,
    List.forall_mem_cons.2 ⟨rows5200_keep hM,
    List.forall_mem_cons.2 ⟨rows5210_keep hM,
    List.forall_mem_cons.2 ⟨fun r hr => (List.mem_append.1 hr).elim (rowsCircuits_keep hM r) (rows5300_keep hM r),
    List.forall_mem_cons.2 ⟨rows6000_keep hM,
    List.forall_mem_cons.2 ⟨rows6010_keep hM,
    List.forall_mem_cons.2 ⟨rows6020_keep hM,
    List.forall_mem_nil _⟩⟩⟩⟩⟩⟩⟩⟩⟩⟩⟩⟩⟩⟩⟩⟩⟩⟩⟩⟩⟩⟩

theorem objectList3_keep {M : Nat} (hM : M &&& 0xFFFFFA = 0xFFFFFA) : ∀ p ∈ objectList3, ∀ r ∈ p.2, ∀ n y, Keep M y (r.put n y) :=
  List.forall_mem_cons.2 ⟨rows6040_keep hM,
    List.forall_mem_cons.2 ⟨rows6100_keep hM,
    List.forall_mem_cons.2 ⟨rows6400_keep hM,
    List.forall_mem_cons.2 ⟨rows6500_keep hM,
    List.forall_mem_cons.2 ⟨rows7000_keep hM,
    List.forall_mem_cons.2 ⟨rows7100_keep hM,
    List.forall_mem_cons.2 ⟨rows8000_keep hM,
    List.forall_mem_cons.2 ⟨rows8020_keep hM,
    List.forall_mem_cons.2 ⟨rows8100_keep hM,
    List.forall_mem_cons.2 ⟨rows8200_keep hM,
    List.forall_mem_cons.2 ⟨rows8300_keep hM,
    List.forall_mem_cons.2 ⟨rows8310_keep hM,
    List.forall_mem_cons.2 ⟨rows8400_keep hM,
    List.forall_mem_cons.2 ⟨rows9000_keep hM,
    List.forall_mem_cons.2 ⟨rows9010_keep hM,
    List.forall_mem_cons.2 ⟨rows9030_keep hM,
    List.forall_mem_cons.2 ⟨rows9040_keep hM,
    List.forall_mem_cons.2 ⟨rowsA000_keep hM,
    List.forall_mem_cons.2 ⟨rowsA300_keep hM,
    List.forall_mem_cons.2 ⟨rowsA400_keep hM,
    List.forall_mem_cons.2 ⟨counterRun_keep hM 1 5 (fun s k => s.tele.stallRed.toList.getD k 0),
    List.forall_mem_cons.2 ⟨counterRun_keep hM 1 5 (fun s k => s.tele.stallStr.toList.getD k 0),
    List.forall_mem_nil _⟩⟩⟩⟩⟩⟩⟩⟩⟩⟩⟩⟩⟩⟩⟩⟩⟩⟩⟩⟩⟩⟩

theorem objectList4_keep {M : Nat} (hM : M &&& 0xFFFFFA = 0xFFFFFA) : ∀ p ∈ objectList4, ∀ r ∈ p.2, ∀ n y, Keep M y (r.put n y) :=
  List.forall_mem_cons.2 ⟨counterRun_keep hM 1 5 (fun s k => s.tele.stallCod.toList.getD k 0),
    List.forall_mem_cons.2 ⟨counterRun_keep hM 1 4 (fun s k => s.tele.stallMvR.toList.getD k 0),
    List.forall_mem_cons.2 ⟨counterRun_keep hM 1 4 (fun s k => s.tele.stallMvW.toList.getD k 0),
    List.forall_mem_nil _⟩⟩⟩

theorem objectList_keep {M : Nat} (hM : M &&& 0xFFFFFA = 0xFFFFFA) : ∀ p ∈ objectList, ∀ r ∈ p.2, ∀ n y, Keep M y (r.put n y) := fun p hp =>
  (fun h => (List.mem_append.1 h).elim (fun h => (List.mem_append.1 h).elim (fun h => (List.mem_append.1 h).elim (fun h => objectList1_keep hM p h) (objectList2_keep hM p)) (objectList3_keep hM p)) (objectList4_keep hM p)) hp

theorem rowsOf_keep {M : Nat} (hM : M &&& 0xFFFFFA = 0xFFFFFA) (idx : Nat) (r : Row) (hr : r ∈ rowsOf idx) (n : Nat) (y : State) : Keep M y (r.put n y) := by
  unfold rowsOf at hr
  split at hr
  · exact rows240n_keep hM _ r hr n y
  split at hr
  · exact rows251p_keep hM _ r hr n y
  split at hr
  · exact rows271n_keep hM _ r hr n y
  split at hr
  · exact rows273c_keep hM _ r hr n y
  split at hr
  · exact rows34cc_keep hM _ r hr n y
  split at hr
  · exact rows50pp_keep hM _ r hr n y
  split at hr
  · exact rowsA1pp_keep hM _ r hr n y
  split at hr
  · exact rowsA2pp_keep hM _ r hr n y
  cases h : objectList.find? (·.1 == idx) with
  | none => rw [h] at hr; exact absurd hr List.not_mem_nil
  | some p => rw [h] at hr; exact objectList_keep hM p (List.mem_of_find?_eq_some h) r hr n y

theorem objectAt_keep {M : Nat} (hM : M &&& 0xFFFFFA = 0xFFFFFA) {idx : U16} {sub : U8} {r : Row} (e : objectAt idx sub = some r) (n : Nat) (y : State) : Keep M y (r.put n y) :=
  rowsOf_keep hM idx.toNat r (List.mem_of_find?_eq_some e) n y

theorem scalarWrite_keep {M : Nat} {z0 : State} (hM : M &&& 0xFFFFFA = 0xFFFFFA) (idx : Nat) (r : Row) (n : Nat) (s : State) (hrow : ∀ n y, Keep M y (r.put n y)) (hk : Keep M z0 s) : Keep M z0 (scalarWrite idx r n s).2 := by
  refine hk.trans ?_
  have m0 : M &&& 0xC4C00 = 0xC4C00 := Keep.sub hM rfl
  have m1 : M &&& 0x0 = 0x0 := Keep.sub hM rfl
  unfold scalarWrite
  try dsimp only
  repeat' (first | (with_reducible exact Keep.refl _ _) | (with_reducible apply moverWrite_keep m0) | (with_reducible apply judged_keep m1) | (with_reducible exact hrow ..) | (with_reducible apply hrow) | (intro) | (with_reducible apply Keep.ite) | split | (with_reducible assumption) | dsimp only)

theorem rwWrite_keep {M : Nat} {z0 : State} (hM : M &&& 0xFFFFFA = 0xFFFFFA) (idx : Nat) (r : Row) (l : List Byte) (s : State) (hrow : ∀ n y, Keep M y (r.put n y)) (hk : Keep M z0 s) : Keep M z0 (rwWrite idx r l s).2 := by
  refine hk.trans ?_
  have m0 : M &&& 0xFFFFFA = 0xFFFFFA := Keep.sub hM rfl
  have m1 : M &&& 0x4DBFE0 = 0x4DBFE0 := Keep.sub hM rfl
  unfold rwWrite
  try dsimp only
  repeat' (first | (with_reducible exact Keep.refl _ _) | (with_reducible apply scalarWrite_keep m0) | (with_reducible apply domainWrite_keep m1) | (with_reducible exact hrow ..) | (with_reducible apply Keep.ite) | split | (with_reducible assumption) | dsimp only)

theorem State.submitEntry_keep {M : Nat} {z0 : State} (hM : M &&& 0xFFFFFA = 0xFFFFFA) (e : U16 × U8 × List Byte) (s : State) (hk : Keep M z0 s) : Keep M z0 (State.submitEntry e s).2 := by
  refine hk.trans ?_
  have m0 : M &&& 0xFFFFFA = 0xFFFFFA := Keep.sub hM rfl
  have b_job : M.testBit 15 = true := Keep.bit hM rfl
  unfold State.submitEntry
  try dsimp only
  repeat' (first | (with_reducible exact Keep.refl _ _) | (fail_if_no_progress (with_reducible apply Keep.upd_job b_job)) | (with_reducible apply rwWrite_keep m0) | (exact objectAt_keep (Keep.sub hM rfl) (by with_reducible assumption)) | (with_reducible apply Keep.ite) | split | dsimp only | (with_reducible refine Keep.snd (by with_reducible assumption) ?_))

theorem ok_afterReset (cn : CN) (kind : U8) (m : MemState) (h : m.ok = true) : (m.afterReset cn kind).ok = true := by
  rw [MemState.ok, Bool.and_eq_true] at h
  unfold MemState.afterReset MemState.counted
  rw [MemState.ok, Bool.and_eq_true]
  refine ⟨?_, ?_⟩
  · dsimp only
    split <;> rfl
  · dsimp only
    split
    · exact h.2
    · rfl
theorem ok_clearL {m : MemState} {a b} (h : m.ok = true) : ({ m with l := [], bad := a, marker := b } : MemState).ok = true := by
  rw [MemState.ok, Bool.and_eq_true] at h ⊢
  exact ⟨h.1, rfl⟩

theorem State.wipe_keep {M : Nat} {z0 : State} (hM : M &&& 0xFFFFFA = 0xFFFFFA) (kind : U8) (s : State) (hk : Keep M z0 s) : Keep M z0 (State.wipe kind s) := by
  refine hk.trans ?_
  have b_part : M.testBit 12 = true := Keep.bit hM rfl
  have b_fence : M.testBit 4 = true := Keep.bit hM rfl
  have b_freeCtr : M.testBit 23 = true := Keep.bit hM rfl
  have b_route : M.testBit 11 = true := Keep.bit hM rfl
  have b_health : M.testBit 17 = true := Keep.bit hM rfl
  have b_job : M.testBit 15 = true := Keep.bit hM rfl
  have b_acc : M.testBit 19 = true := Keep.bit hM rfl
  have b_time : M.testBit 1 = true := Keep.bit hM rfl
  have b_boot : M.testBit 20 = true := Keep.bit hM rfl
  have b_mem : M.testBit 9 = true := Keep.bit hM rfl
  have b_mov : M.testBit 14 = true := Keep.bit hM rfl
  have b_tele : M.testBit 18 = true := Keep.bit hM rfl
  have b_adj : M.testBit 13 = true := Keep.bit hM rfl
  have b_pwr : M.testBit 21 = true := Keep.bit hM rfl
  unfold State.wipe
  refine ⟨rfl, rfl, ok_afterReset _ _ _, le_refl _, ?_, ?_, ?_, ?_, ?_, ?_, ?_, ?_, ?_, ?_, ?_, ?_, ?_, ?_, ?_, ?_, ?_, ?_, ?_, ?_, ?_, ?_⟩
  all_goals (first | exact fun _ => rfl | exact fun b => absurd (b.symm.trans (Keep.bit hM rfl)) (by decide))

theorem State.flushRecords_keep {M : Nat} {z0 : State} (hM : M &&& 0xC0000 = 0xC0000) (s : State) (hk : Keep M z0 s) : Keep M z0 (State.flushRecords s) := by
  refine hk.trans ?_
  have m0 : M &&& 0xC0000 = 0xC0000 := Keep.sub hM rfl
  unfold State.flushRecords
  try dsimp only
  repeat' (first | (with_reducible exact Keep.refl _ _) | (with_reducible apply State.unfreeze_keep m0) | (with_reducible apply Keep.ite) | split)

theorem State.dropEarlyCuts_keep {M : Nat} {z0 : State} (hM : M &&& 0xC2248 = 0xC2248) (cause : Nat) (s : State) (hk : Keep M z0 s) : Keep M z0 (State.dropEarlyCuts cause s) := by
  refine hk.trans ?_
  have m0 : M &&& 0xC2248 = 0xC2248 := Keep.sub hM rfl
  unfold State.dropEarlyCuts
  try dsimp only
  repeat' (first | (with_reducible exact Keep.refl _ _) | (with_reducible assumption) | (with_reducible apply State.abandonCuts_keep m0) | dsimp only)

theorem State.cutShort_keep {M : Nat} {z0 : State} (hM : M &&& 0xAEAE68 = 0xAEAE68) (cause : Nat) (s : State) (hk : Keep M z0 s) : Keep M z0 (State.cutShort cause s) := by
  refine hk.trans ?_
  have m0 : M &&& 0xC2248 = 0xC2248 := Keep.sub hM rfl
  have m1 : M &&& 0xAEAC60 = 0xAEAC60 := Keep.sub hM rfl
  have b_adj : M.testBit 13 = true := Keep.bit hM rfl
  unfold State.cutShort
  try dsimp only
  repeat' (first | (with_reducible exact Keep.refl _ _) | (fail_if_no_progress (with_reducible apply Keep.upd_adj b_adj)) | (with_reducible apply State.dropEarlyCuts_keep m0) | (with_reducible apply chunkProgrammed_keep m1))

theorem State.saveMovers_keep {M : Nat} {z0 : State} (hM : M &&& 0x4000 = 0x4000) (s : State) (hk : Keep M z0 s) : Keep M z0 (State.saveMovers s) := by
  refine hk.trans ?_
  have m0 : M &&& 0x4000 = 0x4000 := Keep.sub hM rfl
  have b_mov : M.testBit 14 = true := Keep.bit hM rfl
  unfold State.saveMovers
  try dsimp only
  repeat' (first | (with_reducible exact Keep.refl _ _) | (with_reducible assumption) | (fail_if_no_progress (with_reducible apply Keep.upd_mov b_mov)) | (with_reducible apply State.dropData_keep m0) | (with_reducible apply Keep.foldl) | (with_reducible apply Keep.foldl2) | (with_reducible apply Keep.foldl3) | (intro) | (with_reducible apply Keep.ite) | split | dsimp only)

theorem State.coldRequest_keep {M : Nat} {z0 : State} (hM : M &&& 0xFFFFFA = 0xFFFFFA) (s : State) (hk : Keep M z0 s) : Keep M z0 (State.coldRequest s) := by
  refine hk.trans ?_
  have m0 : M &&& 0x4000 = 0x4000 := Keep.sub hM rfl
  have m1 : M &&& 0xAEAE68 = 0xAEAE68 := Keep.sub hM rfl
  have m2 : M &&& 0xC0000 = 0xC0000 := Keep.sub hM rfl
  have m3 : M &&& 0xFFFFFA = 0xFFFFFA := Keep.sub hM rfl
  have b_mem : M.testBit 9 = true := Keep.bit hM rfl
  have b_boot : M.testBit 20 = true := Keep.bit hM rfl
  have b_adj : M.testBit 13 = true := Keep.bit hM rfl
  have b_part : M.testBit 12 = true := Keep.bit hM rfl
  unfold State.coldRequest
  split
  · refine ⟨rfl, rfl, ok_clearL, le_refl _, ?_, ?_, ?_, ?_, ?_, ?_, ?_, ?_, ?_, ?_, ?_, ?_, ?_, ?_, ?_, ?_, ?_, ?_, ?_, ?_, ?_, ?_⟩
    all_goals (first | exact fun _ => rfl | exact fun b => absurd (b.symm.trans (Keep.bit hM rfl)) (by decide))
  · apply State.wipe_keep m3
    apply State.flushRecords_keep m2
    apply State.saveMovers_keep m0
    apply State.cutShort_keep m1
    exact Keep.refl _ _

theorem State.keepCode_keep {M : Nat} {z0 : State} (hM : M &&& 0x2000 = 0x2000) (s : State) (hk : Keep M z0 s) : Keep M z0 (State.keepCode s) := by
  refine hk.trans ?_
  have b_adj : M.testBit 13 = true := Keep.bit hM rfl
  unfold State.keepCode
  try dsimp only
  repeat' (first | (with_reducible exact Keep.refl _ _) | (fail_if_no_progress (with_reducible apply Keep.upd_adj b_adj)) | (with_reducible apply Keep.ite) | split)

theorem State.warmRequest_keep {M : Nat} {z0 : State} (hM : M &&& 0xFFFFFA = 0xFFFFFA) (late : Bool) (s : State) (hk : Keep M z0 s) : Keep M z0 (State.warmRequest late s) := by
  refine hk.trans ?_
  have m0 : M &&& 0x2000 = 0x2000 := Keep.sub hM rfl
  have m1 : M &&& 0x4000 = 0x4000 := Keep.sub hM rfl
  have m2 : M &&& 0xC2248 = 0xC2248 := Keep.sub hM rfl
  have m3 : M &&& 0xC0000 = 0xC0000 := Keep.sub hM rfl
  have m4 : M &&& 0xFFFFFA = 0xFFFFFA := Keep.sub hM rfl
  have b_mem : M.testBit 9 = true := Keep.bit hM rfl
  have b_boot : M.testBit 20 = true := Keep.bit hM rfl
  unfold State.warmRequest
  try dsimp only
  repeat' (first | (with_reducible exact Keep.refl _ _) | (fail_if_no_progress ((with_reducible refine Keep.upd_boot b_boot ?_ ?_); (with_reducible rfl))) | (fail_if_no_progress ((with_reducible refine Keep.upd_memHL b_mem ?_ ?_ ?_); (with_reducible rfl); (with_reducible rfl))) | (fail_if_no_progress ((with_reducible refine Keep.updAll ?_ ?_ ?_ ?_ ?_ ?_ ?_ ?_ ?_ ?_ ?_ ?_ ?_ ?_ ?_ ?_ ?_ ?_ ?_ ?_ ?_ ?_ ?_ ?_ ?_ ?_); iterate 25 (first | (with_reducible rfl) | (with_reducible exact fun _ => rfl) | (exact fun b => absurd (b.symm.trans (Keep.bit hM rfl)) (by decide))))) | (with_reducible apply State.keepCode_keep m0) | (with_reducible apply State.saveMovers_keep m1) | (with_reducible apply State.dropEarlyCuts_keep m2) | (with_reducible apply State.flushRecords_keep m3) | (with_reducible apply State.wipe_keep m4) | (with_reducible apply Keep.ite) | split)

theorem State.putImage_keep {M : Nat} {z0 : State} (hM : M &&& 0x100000 = 0x100000) (b : Bool) (x : ImageSlot) (s : State) (hk : Keep M z0 s) : Keep M z0 (State.putImage b x s) := by
  refine hk.trans ?_
  have b_boot : M.testBit 20 = true := Keep.bit hM rfl
  unfold State.putImage
  try dsimp only
  repeat' (first | (with_reducible exact Keep.refl _ _) | (fail_if_no_progress ((with_reducible refine Keep.upd_boot b_boot ?_ ?_); (with_reducible rfl))) | (with_reducible apply Keep.ite) | split)

theorem State.chosenSlot_keep {M : Nat} {z0 : State} (hM : M &&& 0x1C0000 = 0x1C0000) (s : State) (hk : Keep M z0 s) : Keep M z0 (State.chosenSlot s).2 := by
  refine hk.trans ?_
  have m0 : M &&& 0x100000 = 0x100000 := Keep.sub hM rfl
  have m1 : M &&& 0xC0000 = 0xC0000 := Keep.sub hM rfl
  have b_boot : M.testBit 20 = true := Keep.bit hM rfl
  unfold State.chosenSlot
  try dsimp only
  repeat' (first | (with_reducible exact Keep.refl _ _) | (fail_if_no_progress ((with_reducible refine Keep.upd_boot b_boot ?_ ?_); (with_reducible rfl))) | (with_reducible apply State.putImage_keep m0) | (with_reducible apply State.record_keep m1) | (with_reducible apply Keep.ite) | split | dsimp only | (with_reducible refine Keep.snd (by with_reducible assumption) ?_))

theorem State.chooseImage_keep {M : Nat} {z0 : State} (hM : M &&& 0x1C0000 = 0x1C0000) (s : State) (hk : Keep M z0 s) : Keep M z0 (State.chooseImage s).2 := by
  refine hk.trans ?_
  have m0 : M &&& 0x1C0000 = 0x1C0000 := Keep.sub hM rfl
  have m1 : M &&& 0xC0000 = 0xC0000 := Keep.sub hM rfl
  unfold State.chooseImage
  try dsimp only
  repeat' (first | (with_reducible exact Keep.refl _ _) | (with_reducible apply State.chosenSlot_keep m0) | (with_reducible apply State.record_keep m1) | (with_reducible apply Keep.ite) | split | dsimp only | (with_reducible refine Keep.snd (by with_reducible assumption) ?_))

theorem State.raiseFloor_keep {M : Nat} {z0 : State} (hM : M &&& 0x100000 = 0x100000) (x : ImageSlot) (s : State) (hk : Keep M z0 s) : Keep M z0 (State.raiseFloor x s) := by
  refine hk.trans ?_
  have b_boot : M.testBit 20 = true := Keep.bit hM rfl
  unfold State.raiseFloor
  split
  · refine ⟨rfl, rfl, id, by dsimp only; omega, ?_, ?_, ?_, ?_, ?_, ?_, ?_, ?_, ?_, ?_, ?_, ?_, ?_, ?_, ?_, ?_, ?_, ?_, ?_, ?_, ?_, ?_⟩
    all_goals (first | exact fun _ => rfl | exact fun b => absurd (b.symm.trans (Keep.bit hM rfl)) (by decide))
  · exact Keep.refl _ _

theorem State.runImage_keep {M : Nat} {z0 : State} (hM : M &&& 0x1000C0 = 0x1000C0) (b : Bool) (s : State) (hk : Keep M z0 s) : Keep M z0 (State.runImage b s) := by
  refine hk.trans ?_
  have m0 : M &&& 0x100000 = 0x100000 := Keep.sub hM rfl
  have b_vec : M.testBit 7 = true := Keep.bit hM rfl
  have b_boot : M.testBit 20 = true := Keep.bit hM rfl
  have b_upd : M.testBit 6 = true := Keep.bit hM rfl
  unfold State.runImage
  try dsimp only
  repeat' (first | (with_reducible exact Keep.refl _ _) | (fail_if_no_progress ((with_reducible refine Keep.upd_boot b_boot ?_ ?_); (with_reducible rfl))) | (fail_if_no_progress (with_reducible apply Keep.upd_upd b_upd)) | (fail_if_no_progress (with_reducible apply Keep.upd_vec b_vec)) | (fail_if_no_progress ((with_reducible refine Keep.updAll ?_ ?_ ?_ ?_ ?_ ?_ ?_ ?_ ?_ ?_ ?_ ?_ ?_ ?_ ?_ ?_ ?_ ?_ ?_ ?_ ?_ ?_ ?_ ?_ ?_ ?_); iterate 25 (first | (with_reducible rfl) | (with_reducible exact fun _ => rfl) | (exact fun b => absurd (b.symm.trans (Keep.bit hM rfl)) (by decide))))) | (with_reducible apply State.raiseFloor_keep m0) | (with_reducible apply Keep.ite) | split)

theorem State.confirmImage_keep {M : Nat} {z0 : State} (hM : M &&& 0x1C0000 = 0x1C0000) (s : State) (hk : Keep M z0 s) : Keep M z0 (State.confirmImage s) := by
  refine hk.trans ?_
  have m0 : M &&& 0x100000 = 0x100000 := Keep.sub hM rfl
  have m1 : M &&& 0xC0000 = 0xC0000 := Keep.sub hM rfl
  have b_boot : M.testBit 20 = true := Keep.bit hM rfl
  unfold State.confirmImage
  try dsimp only
  repeat' (first | (with_reducible exact Keep.refl _ _) | (fail_if_no_progress ((with_reducible refine Keep.upd_boot b_boot ?_ ?_); (with_reducible rfl))) | (with_reducible apply State.raiseFloor_keep m0) | (with_reducible apply State.record_keep m1) | (with_reducible apply Keep.ite) | split)

theorem loadEntry_keep {M : Nat} {z0 : State} (hM : M &&& 0xFFFFFA = 0xFFFFFA) (acc : Option (U16 × U8) × State) (e : U16 × U8 × List Byte) (hk : Keep M z0 acc.2) : Keep M z0 (loadEntry acc e).2 := by
  refine hk.trans ?_
  have m0 : M &&& 0xFFFFFA = 0xFFFFFA := Keep.sub hM rfl
  have b_acc : M.testBit 19 = true := Keep.bit hM rfl
  unfold loadEntry
  try dsimp only
  repeat' (first | (with_reducible exact Keep.refl _ _) | (fail_if_no_progress (with_reducible apply Keep.upd_acc b_acc)) | (with_reducible apply State.submitEntry_keep m0) | (with_reducible apply Keep.ite) | split | dsimp only | (with_reducible refine Keep.snd (by with_reducible assumption) ?_))

theorem State.loadCopy_keep {M : Nat} {z0 : State} (hM : M &&& 0xFFFFFA = 0xFFFFFA) (c : CfgCopy) (s : State) (hk : Keep M z0 s) : Keep M z0 (State.loadCopy c s) := by
  refine hk.trans ?_
  have m0 : M &&& 0xFFFFFA = 0xFFFFFA := Keep.sub hM rfl
  have m1 : M &&& 0xC0000 = 0xC0000 := Keep.sub hM rfl
  have b_acc : M.testBit 19 = true := Keep.bit hM rfl
  unfold State.loadCopy
  try dsimp only
  repeat' (first | (with_reducible exact Keep.refl _ _) | (fail_if_no_progress (with_reducible apply Keep.upd_acc b_acc)) | (with_reducible apply loadEntry_keep m0) | (with_reducible apply State.record_keep m1) | (with_reducible apply Keep.foldl) | (with_reducible apply Keep.foldl2) | (with_reducible apply Keep.foldl3) | (intro) | split | dsimp only | (with_reducible refine Keep.snd (by with_reducible assumption) ?_))

theorem setCfg_keep {M : Nat} {z0 : State} (hM : M &&& 0x80000 = 0x80000) (word : U8) (s : State) (hk : Keep M z0 s) : Keep M z0 (setCfg word s) := by
  refine hk.trans ?_
  have b_acc : M.testBit 19 = true := Keep.bit hM rfl
  unfold setCfg
  try dsimp only
  repeat' (first | (with_reducible exact Keep.refl _ _) | (fail_if_no_progress (with_reducible apply Keep.upd_acc b_acc)))

theorem State.loadConfig_keep {M : Nat} {z0 : State} (hM : M &&& 0xFFFFFA = 0xFFFFFA) (s : State) (hk : Keep M z0 s) : Keep M z0 (State.loadConfig s) := by
  refine hk.trans ?_
  have m0 : M &&& 0x80000 = 0x80000 := Keep.sub hM rfl
  have m1 : M &&& 0xFFFFFA = 0xFFFFFA := Keep.sub hM rfl
  have m2 : M &&& 0xC0000 = 0xC0000 := Keep.sub hM rfl
  have b_acc : M.testBit 19 = true := Keep.bit hM rfl
  unfold State.loadConfig
  try dsimp only
  repeat' (first | (with_reducible exact Keep.refl _ _) | (fail_if_no_progress (with_reducible apply Keep.upd_acc b_acc)) | (with_reducible apply setCfg_keep m0) | (with_reducible apply State.loadCopy_keep m1) | (with_reducible apply State.record_keep m2) | (with_reducible apply Keep.ite) | split)

theorem State.finishSave_keep {M : Nat} {z0 : State} (hM : M &&& 0x2C0000 = 0x2C0000) (s : State) (hk : Keep M z0 s) : Keep M z0 (State.finishSave s) := by
  refine hk.trans ?_
  have m0 : M &&& 0x200000 = 0x200000 := Keep.sub hM rfl
  have m1 : M &&& 0xC0000 = 0xC0000 := Keep.sub hM rfl
  have b_acc : M.testBit 19 = true := Keep.bit hM rfl
  unfold State.finishSave
  try dsimp only
  repeat' (first | (with_reducible exact Keep.refl _ _) | (fail_if_no_progress (with_reducible apply Keep.upd_acc b_acc)) | (with_reducible apply State.release_keep m0) | (with_reducible apply State.record_keep m1) | (with_reducible apply Keep.ite) | split | (with_reducible refine Keep.snd (by with_reducible assumption) ?_))

theorem State.returnMovers_keep {M : Nat} {z0 : State} (hM : M &&& 0xC4000 = 0xC4000) (keep : Bool) (s : State) (hk : Keep M z0 s) : Keep M z0 (State.returnMovers keep s) := by
  refine hk.trans ?_
  have m0 : M &&& 0xC4000 = 0xC4000 := Keep.sub hM rfl
  have m1 : M &&& 0x4000 = 0x4000 := Keep.sub hM rfl
  have m2 : M &&& 0xC0000 = 0xC0000 := Keep.sub hM rfl
  have b_mov : M.testBit 14 = true := Keep.bit hM rfl
  unfold State.returnMovers
  try dsimp only
  repeat' (first | (with_reducible exact Keep.refl _ _) | (with_reducible assumption) | (fail_if_no_progress (with_reducible apply Keep.upd_mov b_mov)) | (with_reducible apply State.endPart_keep m0) | (with_reducible apply State.setChan_keep m1) | (with_reducible apply State.record_keep m2) | (with_reducible apply Keep.foldl) | (with_reducible apply Keep.foldl2) | (with_reducible apply Keep.foldl3) | (intro) | (with_reducible apply Keep.ite) | split | dsimp only | (with_reducible refine Keep.snd (by with_reducible assumption) ?_))

theorem State.discardPoint_keep {M : Nat} {z0 : State} (hM : M &&& 0x8C2000 = 0x8C2000) (s : State) (hk : Keep M z0 s) : Keep M z0 (State.discardPoint s) := by
  refine hk.trans ?_
  have m0 : M &&& 0x800000 = 0x800000 := Keep.sub hM rfl
  have m1 : M &&& 0xC0000 = 0xC0000 := Keep.sub hM rfl
  have b_adj : M.testBit 13 = true := Keep.bit hM rfl
  unfold State.discardPoint
  try dsimp only
  repeat' (first | (with_reducible exact Keep.refl _ _) | (with_reducible assumption) | (fail_if_no_progress (with_reducible apply Keep.upd_adj b_adj)) | (with_reducible apply State.free_keep m0) | (with_reducible apply State.record_keep m1) | (with_reducible apply Keep.ite) | split | dsimp only)

theorem State.loseRetained_keep {M : Nat} {z0 : State} (hM : M &&& 0x8C7200 = 0x8C7200) (s : State) (hk : Keep M z0 s) : Keep M z0 (State.loseRetained s) := by
  refine hk.trans ?_
  have m0 : M &&& 0x8C2000 = 0x8C2000 := Keep.sub hM rfl
  have m1 : M &&& 0xC4000 = 0xC4000 := Keep.sub hM rfl
  have m2 : M &&& 0xC0000 = 0xC0000 := Keep.sub hM rfl
  have b_mem : M.testBit 9 = true := Keep.bit hM rfl
  have b_adj : M.testBit 13 = true := Keep.bit hM rfl
  have b_part : M.testBit 12 = true := Keep.bit hM rfl
  unfold State.loseRetained
  dsimp only
  apply State.returnMovers_keep m1
  apply State.discardPoint_keep m0
  apply State.record_keep m2
  refine ⟨rfl, rfl, fun h => by rw [MemState.ok, Bool.and_eq_true] at h ⊢; exact ⟨h.1, rfl⟩, le_refl _, ?_, ?_, ?_, ?_, ?_, ?_, ?_, ?_, ?_, ?_, ?_, ?_, ?_, ?_, ?_, ?_, ?_, ?_, ?_, ?_, ?_, ?_⟩
  all_goals (first | exact fun b => absurd (b.symm.trans (Keep.bit hM rfl)) (by decide) | exact fun _ => rfl)

theorem State.retainedStep_keep {M : Nat} {z0 : State} (hM : M &&& 0x8C7200 = 0x8C7200) (s : State) (hk : Keep M z0 s) : Keep M z0 (State.retainedStep s) := by
  refine hk.trans ?_
  have m0 : M &&& 0x8C7200 = 0x8C7200 := Keep.sub hM rfl
  have m1 : M &&& 0xC4000 = 0xC4000 := Keep.sub hM rfl
  have b_mem : M.testBit 9 = true := Keep.bit hM rfl
  unfold State.retainedStep
  split
  · split
    · dsimp only
      apply State.returnMovers_keep m1
      exact Keep.updOk b_mem (fun h => by rw [MemState.ok, Bool.and_eq_true] at h ⊢; exact ⟨h.1, wf_filter _ h.2⟩) (Keep.refl _ _)
    · apply State.loseRetained_keep m0; exact Keep.refl _ _
  · apply State.loseRetained_keep m0; exact Keep.refl _ _

theorem State.closingEvent_keep {M : Nat} {z0 : State} (hM : M &&& 0x2C0000 = 0x2C0000) (s : State) (hk : Keep M z0 s) : Keep M z0 (State.closingEvent s) := by
  refine hk.trans ?_
  have m0 : M &&& 0xC0000 = 0xC0000 := Keep.sub hM rfl
  have b_pwr : M.testBit 21 = true := Keep.bit hM rfl
  unfold State.closingEvent
  try dsimp only
  repeat' (first | (with_reducible exact Keep.refl _ _) | (fail_if_no_progress (with_reducible apply Keep.upd_pwr b_pwr)) | (with_reducible apply State.record_keep m0) | split | (with_reducible refine Keep.snd (by with_reducible assumption) ?_))

theorem State.outOfService_keep {M : Nat} {z0 : State} (hM : M &&& 0x4C0 = 0x4C0) (s : State) (hk : Keep M z0 s) : Keep M z0 (State.outOfService s) := by
  refine hk.trans ?_
  have m0 : M &&& 0x400 = 0x400 := Keep.sub hM rfl
  have b_vec : M.testBit 7 = true := Keep.bit hM rfl
  have b_upd : M.testBit 6 = true := Keep.bit hM rfl
  unfold State.outOfService
  try dsimp only
  repeat' (first | (with_reducible exact Keep.refl _ _) | (with_reducible assumption) | (fail_if_no_progress (with_reducible apply Keep.upd_upd b_upd)) | (fail_if_no_progress (with_reducible apply Keep.upd_vec b_vec)) | (fail_if_no_progress ((with_reducible refine Keep.updAll ?_ ?_ ?_ ?_ ?_ ?_ ?_ ?_ ?_ ?_ ?_ ?_ ?_ ?_ ?_ ?_ ?_ ?_ ?_ ?_ ?_ ?_ ?_ ?_ ?_ ?_); iterate 25 (first | (with_reducible rfl) | (with_reducible exact fun _ => rfl) | (exact fun b => absurd (b.symm.trans (Keep.bit hM rfl)) (by decide))))) | (with_reducible apply portDisable_keep m0) | (with_reducible apply Keep.foldl) | (with_reducible apply Keep.foldl2) | (with_reducible apply Keep.foldl3) | (intro) | (with_reducible apply Keep.ite) | split | dsimp only)

theorem State.applyPackage_keep {M : Nat} {z0 : State} (hM : M &&& 0xFFFFFA = 0xFFFFFA) (s : State) (hk : Keep M z0 s) : Keep M z0 (State.applyPackage s) := by
  refine hk.trans ?_
  have m0 : M &&& 0xFFFFFA = 0xFFFFFA := Keep.sub hM rfl
  unfold State.applyPackage
  try dsimp only
  repeat' (first | (with_reducible exact Keep.refl _ _) | (with_reducible assumption) | (with_reducible apply State.submitEntry_keep m0) | (with_reducible apply Keep.foldl) | (with_reducible apply Keep.foldl2) | (with_reducible apply Keep.foldl3) | (intro) | split | dsimp only | (with_reducible refine Keep.snd (by with_reducible assumption) ?_))

theorem State.bootLoad_keep {M : Nat} {z0 : State} (hM : M &&& 0xFFFFFA = 0xFFFFFA) (kind : U8) (w : BootWorld) (s : State) (hk : Keep M z0 s) : Keep M z0 (State.bootLoad kind w s) := by
  refine hk.trans ?_
  have m0 : M &&& 0xFFFFFA = 0xFFFFFA := Keep.sub hM rfl
  have m1 : M &&& 0x4C0 = 0x4C0 := Keep.sub hM rfl
  have m2 : M &&& 0x8C7200 = 0x8C7200 := Keep.sub hM rfl
  have m3 : M &&& 0x8C2000 = 0x8C2000 := Keep.sub hM rfl
  have m4 : M &&& 0xC4000 = 0xC4000 := Keep.sub hM rfl
  have m5 : M &&& 0x1C0000 = 0x1C0000 := Keep.sub hM rfl
  have m6 : M &&& 0x400 = 0x400 := Keep.sub hM rfl
  have m7 : M &&& 0x2E8000 = 0x2E8000 := Keep.sub hM rfl
  have m8 : M &&& 0xC8000 = 0xC8000 := Keep.sub hM rfl
  unfold State.bootLoad
  try dsimp only
  repeat' (first | (with_reducible exact Keep.refl _ _) | (with_reducible apply State.applyPackage_keep m0) | (with_reducible apply State.outOfService_keep m1) | (with_reducible apply State.retainedStep_keep m2) | (with_reducible apply State.discardPoint_keep m3) | (with_reducible apply State.returnMovers_keep m4) | (with_reducible apply State.loadConfig_keep m0) | (with_reducible apply State.confirmImage_keep m5) | (with_reducible apply State.trainAll_keep m6) | (with_reducible apply State.enterStandby_keep m7) | (with_reducible apply State.enterSafe_keep m8) | (with_reducible apply Keep.ite) | split | (with_reducible refine Keep.snd (by with_reducible assumption) ?_))

theorem State.bootSequence_keep {M : Nat} {z0 : State} (hM : M &&& 0xFFFFFA = 0xFFFFFA) (kind : U8) (w : BootWorld) (s : State) (hk : Keep M z0 s) : Keep M z0 (State.bootSequence kind w s) := by
  refine hk.trans ?_
  have m0 : M &&& 0xFFFFFA = 0xFFFFFA := Keep.sub hM rfl
  have m1 : M &&& 0x2C0000 = 0x2C0000 := Keep.sub hM rfl
  have m2 : M &&& 0x1000C0 = 0x1000C0 := Keep.sub hM rfl
  have m3 : M &&& 0x1C0000 = 0x1C0000 := Keep.sub hM rfl
  have m4 : M &&& 0xC8000 = 0xC8000 := Keep.sub hM rfl
  have m5 : M &&& 0x88000 = 0x88000 := Keep.sub hM rfl
  have b_boot : M.testBit 20 = true := Keep.bit hM rfl
  have b_time : M.testBit 1 = true := Keep.bit hM rfl
  unfold State.bootSequence
  try dsimp only
  repeat' (first | (with_reducible exact Keep.refl _ _) | (fail_if_no_progress ((with_reducible refine Keep.upd_boot b_boot ?_ ?_); (with_reducible rfl))) | (fail_if_no_progress (with_reducible apply Keep.upd_time b_time)) | (fail_if_no_progress ((with_reducible refine Keep.updAll ?_ ?_ ?_ ?_ ?_ ?_ ?_ ?_ ?_ ?_ ?_ ?_ ?_ ?_ ?_ ?_ ?_ ?_ ?_ ?_ ?_ ?_ ?_ ?_ ?_ ?_); iterate 25 (first | (with_reducible rfl) | (with_reducible exact fun _ => rfl) | (exact fun b => absurd (b.symm.trans (Keep.bit hM rfl)) (by decide))))) | (with_reducible apply State.bootLoad_keep m0) | (with_reducible apply State.closingEvent_keep m1) | (with_reducible apply State.runImage_keep m2) | (with_reducible apply State.chooseImage_keep m3) | (with_reducible apply State.enterSafe_keep m4) | (with_reducible apply State.setDev_keep m5) | (with_reducible apply Keep.ite) | split | dsimp only | (with_reducible refine Keep.snd (by with_reducible assumption) ?_))

theorem powerOn_keep {M : Nat} {z0 : State} (hM : M &&& 0xFFFFFA = 0xFFFFFA) (w : BootWorld) (s : State) (hk : Keep M z0 s) : Keep M z0 (powerOn w s) := by
  refine hk.trans ?_
  have m0 : M &&& 0xFFFFFA = 0xFFFFFA := Keep.sub hM rfl
  have b_adj : M.testBit 13 = true := Keep.bit hM rfl
  unfold powerOn
  try dsimp only
  repeat' (first | (with_reducible exact Keep.refl _ _) | (fail_if_no_progress (with_reducible apply Keep.upd_adj b_adj)) | (with_reducible apply State.bootSequence_keep m0) | (with_reducible apply State.wipe_keep m0) | (with_reducible apply Keep.ite) | split)

theorem bootLate_keep {M : Nat} {z0 : State} (hM : M &&& 0xC0000 = 0xC0000) (step : U8) (s : State) (hk : Keep M z0 s) : Keep M z0 (bootLate step s) := by
  refine hk.trans ?_
  have m0 : M &&& 0xC0000 = 0xC0000 := Keep.sub hM rfl
  unfold bootLate
  try dsimp only
  repeat' (first | (with_reducible exact Keep.refl _ _) | (with_reducible apply State.record_keep m0) | (with_reducible apply Keep.ite) | split)

theorem bootWatchdogExpiry_keep {M : Nat} {z0 : State} (hM : M &&& 0xFFFFFA = 0xFFFFFA) (s : State) (hk : Keep M z0 s) : Keep M z0 (bootWatchdogExpiry s) := by
  refine hk.trans ?_
  have m0 : M &&& 0xFFFFFA = 0xFFFFFA := Keep.sub hM rfl
  unfold bootWatchdogExpiry
  try dsimp only
  repeat' (first | (with_reducible exact Keep.refl _ _) | (with_reducible apply State.coldRequest_keep m0) | (with_reducible apply Keep.ite) | split)

theorem sysRstNFall_keep {M : Nat} {z0 : State} (hM : M &&& 0xFFFFFA = 0xFFFFFA) (s : State) (hk : Keep M z0 s) : Keep M z0 (sysRstNFall s) := by
  refine hk.trans ?_
  have m0 : M &&& 0xFFFFFA = 0xFFFFFA := Keep.sub hM rfl
  have b_pwr : M.testBit 21 = true := Keep.bit hM rfl
  unfold sysRstNFall
  try dsimp only
  repeat' (first | (with_reducible exact Keep.refl _ _) | (fail_if_no_progress (with_reducible apply Keep.upd_pwr b_pwr)) | (with_reducible apply State.coldRequest_keep m0) | (with_reducible apply Keep.ite) | split)

theorem wrstNFall_keep {M : Nat} {z0 : State} (hM : M &&& 0xFFFFFA = 0xFFFFFA) (late : Bool) (s : State) (hk : Keep M z0 s) : Keep M z0 (wrstNFall late s) := by
  refine hk.trans ?_
  have m0 : M &&& 0xFFFFFA = 0xFFFFFA := Keep.sub hM rfl
  have b_pwr : M.testBit 21 = true := Keep.bit hM rfl
  unfold wrstNFall
  try dsimp only
  repeat' (first | (with_reducible exact Keep.refl _ _) | (fail_if_no_progress (with_reducible apply Keep.upd_pwr b_pwr)) | (with_reducible apply State.warmRequest_keep m0))

theorem State.resetRequested_keep {M : Nat} {z0 : State} (hM : M &&& 0xC0000 = 0xC0000) (kind : Byte) (s : State) (hk : Keep M z0 s) : Keep M z0 (State.resetRequested kind s) := by
  refine hk.trans ?_
  have m0 : M &&& 0xC0000 = 0xC0000 := Keep.sub hM rfl
  unfold State.resetRequested
  try dsimp only
  repeat' (first | (with_reducible exact Keep.refl _ _) | (with_reducible apply State.record_keep m0))

theorem resetActionWarm_keep {M : Nat} {z0 : State} (hM : M &&& 0xFFFFFA = 0xFFFFFA) (late : Bool) (s : State) (hk : Keep M z0 s) : Keep M z0 (resetActionWarm late s) := by
  refine hk.trans ?_
  have m0 : M &&& 0xC0000 = 0xC0000 := Keep.sub hM rfl
  have m1 : M &&& 0xFFFFFA = 0xFFFFFA := Keep.sub hM rfl
  unfold resetActionWarm
  try dsimp only
  repeat' (first | (with_reducible exact Keep.refl _ _) | (with_reducible apply State.resetRequested_keep m0) | (with_reducible apply State.warmRequest_keep m1) | (with_reducible apply Keep.ite) | split)

theorem resetActionCold_keep {M : Nat} {z0 : State} (hM : M &&& 0xFFFFFA = 0xFFFFFA) (s : State) (hk : Keep M z0 s) : Keep M z0 (resetActionCold s) := by
  refine hk.trans ?_
  have m0 : M &&& 0xC0000 = 0xC0000 := Keep.sub hM rfl
  have m1 : M &&& 0xFFFFFA = 0xFFFFFA := Keep.sub hM rfl
  unfold resetActionCold
  try dsimp only
  repeat' (first | (with_reducible exact Keep.refl _ _) | (with_reducible apply State.resetRequested_keep m0) | (with_reducible apply State.coldRequest_keep m1) | (with_reducible apply Keep.ite) | split)

theorem State.spendHeld_keep {M : Nat} {z0 : State} (hM : M &&& 0xA00000 = 0xA00000) (i : Fin 2) (s : State) (hk : Keep M z0 s) : Keep M z0 (State.spendHeld i s) := by
  refine hk.trans ?_
  have m0 : M &&& 0x200000 = 0x200000 := Keep.sub hM rfl
  have m1 : M &&& 0x800000 = 0x800000 := Keep.sub hM rfl
  unfold State.spendHeld
  try dsimp only
  repeat' (first | (with_reducible exact Keep.refl _ _) | (with_reducible apply State.setHu_keep m0) | (with_reducible apply State.free_keep m1) | split | dsimp only | (with_reducible refine Keep.snd (by with_reducible assumption) ?_))

theorem powerLoss_keep {M : Nat} {z0 : State} (hM : M &&& 0xAEAE68 = 0xAEAE68) (s : State) (hk : Keep M z0 s) : Keep M z0 (powerLoss s) := by
  refine hk.trans ?_
  have m0 : M &&& 0xA00000 = 0xA00000 := Keep.sub hM rfl
  have m1 : M &&& 0x2C0000 = 0x2C0000 := Keep.sub hM rfl
  have m2 : M &&& 0xAEAE68 = 0xAEAE68 := Keep.sub hM rfl
  have m3 : M &&& 0xC0000 = 0xC0000 := Keep.sub hM rfl
  have b_job : M.testBit 15 = true := Keep.bit hM rfl
  have b_mem : M.testBit 9 = true := Keep.bit hM rfl
  have b_pwr : M.testBit 21 = true := Keep.bit hM rfl
  unfold powerLoss
  try dsimp only
  repeat' (first | (with_reducible exact Keep.refl _ _) | (fail_if_no_progress (with_reducible apply Keep.upd_job b_job)) | (fail_if_no_progress ((with_reducible refine Keep.upd_memHL b_mem ?_ ?_ ?_); (with_reducible rfl); (with_reducible rfl))) | (fail_if_no_progress (with_reducible apply Keep.upd_pwr b_pwr)) | (fail_if_no_progress ((with_reducible refine Keep.updAll ?_ ?_ ?_ ?_ ?_ ?_ ?_ ?_ ?_ ?_ ?_ ?_ ?_ ?_ ?_ ?_ ?_ ?_ ?_ ?_ ?_ ?_ ?_ ?_ ?_ ?_); iterate 25 (first | (with_reducible rfl) | (with_reducible exact fun _ => rfl) | (exact fun b => absurd (b.symm.trans (Keep.bit hM rfl)) (by decide))))) | (with_reducible apply State.spendHeld_keep m0) | (with_reducible apply State.finishSave_keep m1) | (with_reducible apply State.cutShort_keep m2) | (with_reducible apply State.flushRecords_keep m3) | (with_reducible apply State.bleed_keep m0) | (with_reducible apply Keep.ite) | split)

theorem railFault_keep {M : Nat} {z0 : State} (hM : M &&& 0xFFFFFA = 0xFFFFFA) (rail : Rail) (mv : U16) (s : State) (hk : Keep M z0 s) : Keep M z0 (railFault rail mv s) := by
  refine hk.trans ?_
  have m0 : M &&& 0xFFFFFA = 0xFFFFFA := Keep.sub hM rfl
  have m1 : M &&& 0xC8000 = 0xC8000 := Keep.sub hM rfl
  have b_adj : M.testBit 13 = true := Keep.bit hM rfl
  have b_pwr : M.testBit 21 = true := Keep.bit hM rfl
  unfold railFault
  try dsimp only
  repeat' (first | (with_reducible exact Keep.refl _ _) | (fail_if_no_progress (with_reducible apply Keep.upd_adj b_adj)) | (fail_if_no_progress (with_reducible apply Keep.upd_pwr b_pwr)) | (fail_if_no_progress ((with_reducible refine Keep.updAll ?_ ?_ ?_ ?_ ?_ ?_ ?_ ?_ ?_ ?_ ?_ ?_ ?_ ?_ ?_ ?_ ?_ ?_ ?_ ?_ ?_ ?_ ?_ ?_ ?_ ?_); iterate 25 (first | (with_reducible rfl) | (with_reducible exact fun _ => rfl) | (exact fun b => absurd (b.symm.trans (Keep.bit hM rfl)) (by decide))))) | (with_reducible apply State.wipe_keep m0) | (with_reducible apply State.enterSafe_keep m1) | (with_reducible apply Keep.ite) | split)

theorem sysclkLost_keep {M : Nat} {z0 : State} (hM : M &&& 0x2C8000 = 0x2C8000) (s : State) (hk : Keep M z0 s) : Keep M z0 (sysclkLost s) := by
  refine hk.trans ?_
  have m0 : M &&& 0xC8000 = 0xC8000 := Keep.sub hM rfl
  have b_pwr : M.testBit 21 = true := Keep.bit hM rfl
  unfold sysclkLost
  try dsimp only
  repeat' (first | (with_reducible exact Keep.refl _ _) | (fail_if_no_progress (with_reducible apply Keep.upd_pwr b_pwr)) | (with_reducible apply State.enterSafe_keep m0) | (with_reducible apply Keep.ite) | split)

theorem State.lateRails_keep {M : Nat} {z0 : State} (hM : M &&& 0x2C0000 = 0x2C0000) (s : State) (hk : Keep M z0 s) : Keep M z0 (State.lateRails s) := by
  refine hk.trans ?_
  have m0 : M &&& 0xC0000 = 0xC0000 := Keep.sub hM rfl
  have b_pwr : M.testBit 21 = true := Keep.bit hM rfl
  unfold State.lateRails
  try dsimp only
  repeat' (first | (with_reducible exact Keep.refl _ _) | (with_reducible assumption) | (fail_if_no_progress (with_reducible apply Keep.upd_pwr b_pwr)) | (with_reducible apply State.record_keep m0) | (with_reducible apply Keep.ite) | split | dsimp only)

theorem resetRelease_keep {M : Nat} {z0 : State} (hM : M &&& 0xFFFFFA = 0xFFFFFA) (w : BootWorld) (s : State) (hk : Keep M z0 s) : Keep M z0 (resetRelease w s) := by
  refine hk.trans ?_
  have m0 : M &&& 0x2C0000 = 0x2C0000 := Keep.sub hM rfl
  have m1 : M &&& 0xFFFFFA = 0xFFFFFA := Keep.sub hM rfl
  have b_pwr : M.testBit 21 = true := Keep.bit hM rfl
  unfold resetRelease
  try dsimp only
  repeat' (first | (with_reducible exact Keep.refl _ _) | (fail_if_no_progress (with_reducible apply Keep.upd_pwr b_pwr)) | (with_reducible apply State.lateRails_keep m0) | (with_reducible apply State.bootSequence_keep m1) | (with_reducible apply Keep.ite) | split)

theorem imageStage_keep {M : Nat} {z0 : State} (hM : M &&& 0x1C0000 = 0x1C0000) (bytes : List Byte) (s : State) (hk : Keep M z0 s) : Keep M z0 (imageStage bytes s) := by
  refine hk.trans ?_
  have m0 : M &&& 0x100000 = 0x100000 := Keep.sub hM rfl
  have m1 : M &&& 0xC0000 = 0xC0000 := Keep.sub hM rfl
  have b_boot : M.testBit 20 = true := Keep.bit hM rfl
  unfold imageStage
  try dsimp only
  repeat' (first | (with_reducible exact Keep.refl _ _) | (fail_if_no_progress ((with_reducible refine Keep.upd_boot b_boot ?_ ?_); (with_reducible rfl))) | (with_reducible apply State.putImage_keep m0) | (with_reducible apply State.record_keep m1) | (with_reducible apply Keep.ite) | split)

theorem imageSlotWritten_keep {M : Nat} {z0 : State} (hM : M &&& 0x100000 = 0x100000) (s : State) (hk : Keep M z0 s) : Keep M z0 (imageSlotWritten s) := by
  refine hk.trans ?_
  have m0 : M &&& 0x100000 = 0x100000 := Keep.sub hM rfl
  have b_boot : M.testBit 20 = true := Keep.bit hM rfl
  unfold imageSlotWritten
  try dsimp only
  repeat' (first | (with_reducible exact Keep.refl _ _) | (fail_if_no_progress ((with_reducible refine Keep.upd_boot b_boot ?_ ?_); (with_reducible rfl))) | (with_reducible apply State.putImage_keep m0) | split | (with_reducible refine Keep.snd (by with_reducible assumption) ?_))

theorem imageActivate_keep {M : Nat} {z0 : State} (hM : M &&& 0xFFFFFA = 0xFFFFFA) (bytes : List Byte) (s : State) (hk : Keep M z0 s) : Keep M z0 (imageActivate bytes s) := by
  refine hk.trans ?_
  have m0 : M &&& 0xFFFFFA = 0xFFFFFA := Keep.sub hM rfl
  have b_boot : M.testBit 20 = true := Keep.bit hM rfl
  unfold imageActivate
  try dsimp only
  repeat' (first | (with_reducible exact Keep.refl _ _) | (fail_if_no_progress ((with_reducible refine Keep.upd_boot b_boot ?_ ?_); (with_reducible rfl))) | (with_reducible apply resetActionCold_keep m0) | (with_reducible apply resetActionWarm_keep m0) | (with_reducible apply Keep.ite) | split | (with_reducible refine Keep.snd (by with_reducible assumption) ?_))

theorem keyListWrite_keep {M : Nat} {z0 : State} (hM : M &&& 0x1C0000 = 0x1C0000) (bytes : List Byte) (key : U16) (s : State) (hk : Keep M z0 s) : Keep M z0 (keyListWrite bytes key s) := by
  refine hk.trans ?_
  have m0 : M &&& 0xC0000 = 0xC0000 := Keep.sub hM rfl
  have b_boot : M.testBit 20 = true := Keep.bit hM rfl
  unfold keyListWrite
  try dsimp only
  repeat' (first | (with_reducible exact Keep.refl _ _) | (with_reducible assumption) | (fail_if_no_progress ((with_reducible refine Keep.upd_boot b_boot ?_ ?_); (with_reducible rfl))) | (with_reducible apply State.record_keep m0) | (with_reducible apply Keep.ite) | split | dsimp only | (with_reducible refine Keep.snd (by with_reducible assumption) ?_))

theorem attestationRequest_keep {M : Nat} {z0 : State} (hM : M &&& 0x900000 = 0x900000) (bytes : List Byte) (s : State) (hk : Keep M z0 s) : Keep M z0 (attestationRequest bytes s) := by
  refine hk.trans ?_
  have m0 : M &&& 0x800000 = 0x800000 := Keep.sub hM rfl
  have b_boot : M.testBit 20 = true := Keep.bit hM rfl
  unfold attestationRequest
  try dsimp only
  repeat' (first | (with_reducible exact Keep.refl _ _) | (fail_if_no_progress ((with_reducible refine Keep.upd_boot b_boot ?_ ?_); (with_reducible rfl))) | (with_reducible apply State.sign_keep m0) | (with_reducible apply Keep.ite) | split | dsimp only | (with_reducible refine Keep.snd (by with_reducible assumption) ?_))

theorem policyStage_keep {M : Nat} {z0 : State} (hM : M &&& 0x1C0000 = 0x1C0000) (bytes : List Byte) (s : State) (hk : Keep M z0 s) : Keep M z0 (policyStage bytes s) := by
  refine hk.trans ?_
  have m0 : M &&& 0xC0000 = 0xC0000 := Keep.sub hM rfl
  have b_boot : M.testBit 20 = true := Keep.bit hM rfl
  unfold policyStage
  try dsimp only
  repeat' (first | (with_reducible exact Keep.refl _ _) | (fail_if_no_progress ((with_reducible refine Keep.upd_boot b_boot ?_ ?_); (with_reducible rfl))) | (with_reducible apply State.record_keep m0) | (with_reducible apply Keep.ite) | split | (with_reducible refine Keep.snd (by with_reducible assumption) ?_))

theorem policyRemoval_keep {M : Nat} {z0 : State} (hM : M &&& 0x1C0000 = 0x1C0000) (bytes : List Byte) (s : State) (hk : Keep M z0 s) : Keep M z0 (policyRemoval bytes s) := by
  refine hk.trans ?_
  have m0 : M &&& 0xC0000 = 0xC0000 := Keep.sub hM rfl
  have b_boot : M.testBit 20 = true := Keep.bit hM rfl
  unfold policyRemoval
  try dsimp only
  repeat' (first | (with_reducible exact Keep.refl _ _) | (fail_if_no_progress ((with_reducible refine Keep.upd_boot b_boot ?_ ?_); (with_reducible rfl))) | (with_reducible apply State.record_keep m0) | (with_reducible apply Keep.ite) | split)

theorem counted_keep {M : Nat} {z0 : State} (hM : M &&& 0x0 = 0x0) (f : State → State) (s : State) (hf : ∀ y0, Keep M y0 (f y0)) (hk : Keep M z0 s) : Keep M z0 (counted f s).2 := by
  refine hk.trans ?_
  unfold counted
  try dsimp only
  repeat' (first | (with_reducible exact Keep.refl _ _) | (with_reducible assumption) | (with_reducible apply Keep.trans _ (hf ..)) | (with_reducible apply Keep.ite) | split | dsimp only)

theorem openingAction_keep {M : Nat} {z0 : State} (hM : M &&& 0xEEFFF8 = 0xEEFFF8) (l : List Byte) (s : State) (hk : Keep M z0 s) : Keep M z0 (openingAction l s).2 := by
  refine hk.trans ?_
  have m0 : M &&& 0x0 = 0x0 := Keep.sub hM rfl
  have m1 : M &&& 0xEEFFF8 = 0xEEFFF8 := Keep.sub hM rfl
  have m2 : M &&& 0xEEBFF8 = 0xEEBFF8 := Keep.sub hM rfl
  have m3 : M &&& 0xEEBF78 = 0xEEBF78 := Keep.sub hM rfl
  have m4 : M &&& 0xC8000 = 0xC8000 := Keep.sub hM rfl
  unfold openingAction
  try dsimp only
  repeat' (first | (with_reducible exact Keep.refl _ _) | (with_reducible assumption) | (with_reducible apply judged_keep m0) | (with_reducible apply openingAbandonCmd_keep m1) | (with_reducible apply openingInstallCmd_keep m2) | (with_reducible apply openingResend_keep m3) | (with_reducible apply openingRestore_keep m2) | (with_reducible apply openingFresh_keep m3) | (with_reducible apply State.refuseCommand_keep m4) | (intro) | (with_reducible apply Keep.ite) | split | dsimp only | (with_reducible refine Keep.snd (by with_reducible assumption) ?_))

theorem groupAction_keep {M : Nat} {z0 : State} (hM : M &&& 0xC4C00 = 0xC4C00) (n : Nat) (s : State) (hk : Keep M z0 s) : Keep M z0 (groupAction n s).2 := by
  refine hk.trans ?_
  have m0 : M &&& 0x0 = 0x0 := Keep.sub hM rfl
  have m1 : M &&& 0xC4C00 = 0xC4C00 := Keep.sub hM rfl
  have m2 : M &&& 0xC4000 = 0xC4000 := Keep.sub hM rfl
  unfold groupAction
  try dsimp only
  repeat' (first | (with_reducible exact Keep.refl _ _) | (with_reducible apply judged_keep m0) | (with_reducible apply groupAbort_keep m1) | (with_reducible apply groupRetry_keep m1) | (with_reducible apply groupStart_keep m1) | (with_reducible apply State.refuseGroup_keep m2) | (intro) | split | dsimp only | (with_reducible refine Keep.snd (by with_reducible assumption) ?_))

theorem portActionWrite_keep {M : Nat} {z0 : State} (hM : M &&& 0x400 = 0x400) (p : Port) (n : Nat) (s : State) (hk : Keep M z0 s) : Keep M z0 (portActionWrite p n s).2 := by
  refine hk.trans ?_
  have m0 : M &&& 0x400 = 0x400 := Keep.sub hM rfl
  unfold portActionWrite
  try dsimp only
  repeat' (first | (with_reducible exact Keep.refl _ _) | (with_reducible apply portDisable_keep m0) | (with_reducible apply State.portAction_keep m0) | split | dsimp only | (with_reducible refine Keep.snd (by with_reducible assumption) ?_))

theorem configSave_keep {M : Nat} {z0 : State} (hM : M &&& 0x2C0000 = 0x2C0000) (v : U8) (s : State) (hk : Keep M z0 s) : Keep M z0 (configSave v s) := by
  refine hk.trans ?_
  have m0 : M &&& 0x2C0000 = 0x2C0000 := Keep.sub hM rfl
  have m1 : M &&& 0xC0000 = 0xC0000 := Keep.sub hM rfl
  have b_acc : M.testBit 19 = true := Keep.bit hM rfl
  unfold configSave
  try dsimp only
  repeat' (first | (with_reducible exact Keep.refl _ _) | (fail_if_no_progress (with_reducible apply Keep.upd_acc b_acc)) | (with_reducible apply State.reserve_keep m0) | (with_reducible apply State.record_keep m1) | (with_reducible apply Keep.ite) | split | dsimp only | (with_reducible refine Keep.snd (by with_reducible assumption) ?_))

theorem saveAction_keep {M : Nat} {z0 : State} (hM : M &&& 0x2C0000 = 0x2C0000) (n : Nat) (s : State) (hk : Keep M z0 s) : Keep M z0 (saveAction n s).2 := by
  refine hk.trans ?_
  have m0 : M &&& 0x2C0000 = 0x2C0000 := Keep.sub hM rfl
  unfold saveAction
  try dsimp only
  repeat' (first | (with_reducible exact Keep.refl _ _) | (with_reducible apply configSave_keep m0) | (with_reducible apply Keep.ite) | split | dsimp only)

theorem interruptAck_keep {M : Nat} {z0 : State} (hM : M &&& 0x80000 = 0x80000) (v : U32) (s : State) (hk : Keep M z0 s) : Keep M z0 (interruptAck v s) := by
  refine hk.trans ?_
  have b_acc : M.testBit 19 = true := Keep.bit hM rfl
  unfold interruptAck
  try dsimp only
  repeat' (first | (with_reducible exact Keep.refl _ _) | (with_reducible assumption) | (fail_if_no_progress (with_reducible apply Keep.upd_acc b_acc)) | dsimp only)

theorem woWrite_keep {M : Nat} {z0 : State} (hM : M &&& 0xFFFFF8 = 0xFFFFF8) (idx sub : Nat) (l : List Byte) (s : State) (hk : Keep M z0 s) : Keep M z0 (woWrite idx sub l s).2 := by
  refine hk.trans ?_
  have m0 : M &&& 0x80000 = 0x80000 := Keep.sub hM rfl
  have m1 : M &&& 0x2C0000 = 0x2C0000 := Keep.sub hM rfl
  have m2 : M &&& 0x400 = 0x400 := Keep.sub hM rfl
  have m3 : M &&& 0xC4C00 = 0xC4C00 := Keep.sub hM rfl
  have m4 : M &&& 0xEEFFF8 = 0xEEFFF8 := Keep.sub hM rfl
  have m5 : M &&& 0x0 = 0x0 := Keep.sub hM rfl
  have m6 : M &&& 0x1C0000 = 0x1C0000 := Keep.sub hM rfl
  have m7 : M &&& 0x900000 = 0x900000 := Keep.sub hM rfl
  have m8 : M &&& 0x40000 = 0x40000 := Keep.sub hM rfl
  have m9 : M &&& 0x4C0000 = 0x4C0000 := Keep.sub hM rfl
  have m10 : M &&& 0x6E8400 = 0x6E8400 := Keep.sub hM rfl
  have m11 : M &&& 0x4C8400 = 0x4C8400 := Keep.sub hM rfl
  have m12 : M &&& 0x200000 = 0x200000 := Keep.sub hM rfl
  have m13 : M &&& 0x2E0CC0 = 0x2E0CC0 := Keep.sub hM rfl
  have m14 : M &&& 0x2F0CC0 = 0x2F0CC0 := Keep.sub hM rfl
  have m15 : M &&& 0xEFBFF8 = 0xEFBFF8 := Keep.sub hM rfl
  have m16 : M &&& 0xAEFFF8 = 0xAEFFF8 := Keep.sub hM rfl
  have m17 : M &&& 0xC2C00 = 0xC2C00 := Keep.sub hM rfl
  have m18 : M &&& 0xC4000 = 0xC4000 := Keep.sub hM rfl
  have m19 : M &&& 0xC1000 = 0xC1000 := Keep.sub hM rfl
  have m20 : M &&& 0xD0800 = 0xD0800 := Keep.sub hM rfl
  have m21 : M &&& 0xC0120 = 0xC0120 := Keep.sub hM rfl
  have m22 : M &&& 0xC1C40 = 0xC1C40 := Keep.sub hM rfl
  have m23 : M &&& 0x40 = 0x40 := Keep.sub hM rfl
  have m24 : M &&& 0x2E3F78 = 0x2E3F78 := Keep.sub hM rfl
  have m25 : M &&& 0x2E3F58 = 0x2E3F58 := Keep.sub hM rfl
  have b_red : M.testBit 5 = true := Keep.bit hM rfl
  unfold woWrite
  try dsimp only
  repeat' (first | (with_reducible exact Keep.refl _ _) | (with_reducible assumption) | (fail_if_no_progress (with_reducible apply Keep.upd_red b_red)) | (with_reducible apply interruptAck_keep m0) | (with_reducible apply saveAction_keep m1) | (with_reducible apply portActionWrite_keep m2) | (with_reducible apply groupAction_keep m3) | (with_reducible apply openingAction_keep m4) | (with_reducible apply counted_keep m5) | (with_reducible apply policyStage_keep m6) | (with_reducible apply attestationRequest_keep m7) | (with_reducible apply imageStage_keep m6) | (with_reducible apply setAcc_keep m0) | (with_reducible apply judged_keep m5) | (with_reducible apply State.takeSnapshot_keep m8) | (with_reducible apply injectionAction_keep m9) | (with_reducible apply exerciserRunStop_keep m9) | (with_reducible apply exerciserRunStart_keep m9) | (with_reducible apply exerciserLeave_keep m10) | (with_reducible apply exerciserEnter_keep m11) | (with_reducible apply alarmAcknowledge_keep m8) | (with_reducible apply traceClear_keep m8) | (with_reducible apply traceStop_keep m8) | (with_reducible apply traceStart_keep m8) | (with_reducible apply outputRelease_keep m12) | (with_reducible apply gambitAction_keep m13) | (with_reducible apply retireAction_keep m14) | (with_reducible apply epochFenceAction_keep m15) | (with_reducible apply resignationAction_keep m16) | (with_reducible apply drainFenceAction_keep m17) | (with_reducible apply State.abortChan_keep m3) | (with_reducible apply moverStart_keep m3) | (with_reducible apply State.refuseChan_keep m18) | (with_reducible apply classChangeAction_keep m19) | (with_reducible apply bankSwitchPending_keep m20) | (with_reducible apply streamStartAction_keep m21) | (with_reducible apply maskStageWrite_keep m22) | (with_reducible apply haltReleaseWrite_keep m23) | (with_reducible apply scalarFenceWrite_keep m24) | (with_reducible apply stepFenceWrite_keep m25) | (intro) | (with_reducible apply Keep.ite) | split | dsimp only | (with_reducible refine Keep.snd (by with_reducible assumption) ?_))

theorem resetAction_keep {M : Nat} {z0 : State} (hM : M &&& 0xFFFFFA = 0xFFFFFA) (l : List Byte) (s : State) (hk : Keep M z0 s) : Keep M z0 (resetAction l s).2 := by
  refine hk.trans ?_
  have m0 : M &&& 0xFFFFFA = 0xFFFFFA := Keep.sub hM rfl
  unfold resetAction
  try dsimp only
  repeat' (first | (with_reducible exact Keep.refl _ _) | (with_reducible apply resetActionCold_keep m0) | (with_reducible apply resetActionWarm_keep m0) | (with_reducible apply Keep.ite) | split | dsimp only | (with_reducible refine Keep.snd (by with_reducible assumption) ?_))

theorem rwsWrite_keep {M : Nat} {z0 : State} (hM : M &&& 0xFFFFFA = 0xFFFFFA) (idx sub : Nat) (l : List Byte) (key : U16) (s : State) (hk : Keep M z0 s) : Keep M z0 (rwsWrite idx sub l key s).2 := by
  refine hk.trans ?_
  have m0 : M &&& 0xFFFFFA = 0xFFFFFA := Keep.sub hM rfl
  have m1 : M &&& 0x1C0000 = 0x1C0000 := Keep.sub hM rfl
  have m2 : M &&& 0x0 = 0x0 := Keep.sub hM rfl
  have m3 : M &&& 0xC0000 = 0xC0000 := Keep.sub hM rfl
  have m4 : M &&& 0xAE0000 = 0xAE0000 := Keep.sub hM rfl
  have m5 : M &&& 0xD9C00 = 0xD9C00 := Keep.sub hM rfl
  have m6 : M &&& 0xD9810 = 0xD9810 := Keep.sub hM rfl
  unfold rwsWrite
  try dsimp only
  repeat' (first | (with_reducible exact Keep.refl _ _) | (with_reducible apply resetAction_keep m0) | (with_reducible apply policyRemoval_keep m1) | (with_reducible apply keyListWrite_keep m1) | (with_reducible apply imageActivate_keep m0) | (with_reducible apply judged_keep m2) | (with_reducible apply State.clearRecorder_keep m3) | (with_reducible apply clearHistory_keep m4) | (with_reducible apply evictionAction_keep m5) | (with_reducible apply jobClaim_keep m6) | (intro) | (with_reducible apply Keep.ite) | split | dsimp only | (with_reducible refine Keep.snd (by with_reducible assumption) ?_))

theorem ownWrite_keep {M : Nat} {z0 : State} (hM : M &&& 0xFFFFFA = 0xFFFFFA) (idx : U16) (r : Row) (l : List Byte) (s : State) (hrow : ∀ n y, Keep M y (r.put n y)) (hk : Keep M z0 s) : Keep M z0 (ownWrite idx r l s).2 := by
  refine hk.trans ?_
  have m0 : M &&& 0xFFFFF8 = 0xFFFFF8 := Keep.sub hM rfl
  have m1 : M &&& 0xFFFFFA = 0xFFFFFA := Keep.sub hM rfl
  unfold ownWrite
  try dsimp only
  repeat' (first | (with_reducible exact Keep.refl _ _) | (with_reducible apply woWrite_keep m0) | (with_reducible apply rwWrite_keep m1) | (with_reducible exact hrow ..) | (with_reducible apply Keep.ite) | split | (with_reducible assumption) | dsimp only)

theorem noteWrite_keep {M : Nat} {z0 : State} (hM : M &&& 0x80000 = 0x80000) (idx : U16) (sub : U8) (a : U8 × State) (hk : Keep M z0 a.2) : Keep M z0 (noteWrite idx sub a).2 := by
  refine hk.trans ?_
  have m0 : M &&& 0x80000 = 0x80000 := Keep.sub hM rfl
  unfold noteWrite
  try dsimp only
  repeat' (first | (with_reducible exact Keep.refl _ _) | (with_reducible assumption) | (with_reducible apply setAcc_keep m0) | (intro) | (with_reducible apply Keep.ite) | split | dsimp only)

theorem ownRefusal_keep {M : Nat} {z0 : State} (hM : M &&& 0xFFFFFA = 0xFFFFFA) (idx : U16) (r : Row) (l : List Byte) (s : State) (hrow : ∀ n y, Keep M y (r.put n y)) (hk : Keep M z0 s) : Keep M z0 (ownRefusal idx r l s) := by
  refine hk.trans ?_
  have m0 : M &&& 0xFFFFFA = 0xFFFFFA := Keep.sub hM rfl
  unfold ownRefusal
  try dsimp only
  repeat' (first | (with_reducible exact Keep.refl _ _) | (with_reducible apply ownWrite_keep m0) | (with_reducible exact hrow ..) | (with_reducible apply Keep.ite) | split | (with_reducible assumption) | dsimp only)

theorem openSegment_keep {M : Nat} {z0 : State} (hM : M &&& 0x80000 = 0x80000) (path : Path) (m : Msg) (s : State) (hk : Keep M z0 s) : Keep M z0 (openSegment path m s).2 := by
  refine hk.trans ?_
  have m0 : M &&& 0x80000 = 0x80000 := Keep.sub hM rfl
  unfold openSegment
  try dsimp only
  repeat' (first | (with_reducible exact Keep.refl _ _) | (with_reducible assumption) | (with_reducible apply setAcc_keep m0) | (intro) | (with_reducible apply Keep.ite) | split | dsimp only | (with_reducible refine Keep.snd (by with_reducible assumption) ?_))

theorem serveSegment_keep {M : Nat} {z0 : State} (hM : M &&& 0xFFFFFA = 0xFFFFFA) (path : Path) (m : Msg) (r : Row) (s : State) (hrow : ∀ n y, Keep M y (r.put n y)) (hk : Keep M z0 s) : Keep M z0 (serveSegment path m r s).2 := by
  refine hk.trans ?_
  have m0 : M &&& 0x80000 = 0x80000 := Keep.sub hM rfl
  have m1 : M &&& 0xFFFFFA = 0xFFFFFA := Keep.sub hM rfl
  unfold serveSegment
  try dsimp only
  repeat' (first | (with_reducible exact Keep.refl _ _) | (with_reducible apply openSegment_keep m0) | (with_reducible apply ownWrite_keep m1) | (with_reducible apply setAcc_keep m0) | (with_reducible exact hrow ..) | (intro) | (with_reducible apply Keep.ite) | split | (with_reducible assumption) | dsimp only | (with_reducible refine Keep.snd (by with_reducible assumption) ?_))

theorem serveWrite_keep {M : Nat} {z0 : State} (hM : M &&& 0xFFFFFA = 0xFFFFFA) (path : Path) (m : Msg) (s : State) (hk : Keep M z0 s) : Keep M z0 (serveWrite path m s).2 := by
  refine hk.trans ?_
  have m0 : M &&& 0xFFFFFA = 0xFFFFFA := Keep.sub hM rfl
  have m1 : M &&& 0x80000 = 0x80000 := Keep.sub hM rfl
  unfold serveWrite
  try dsimp only
  repeat' (first | (with_reducible exact Keep.refl _ _) | (with_reducible apply serveSegment_keep m0) | (with_reducible apply ownRefusal_keep m0) | (with_reducible apply noteWrite_keep m1) | (with_reducible apply ownWrite_keep m0) | (exact objectAt_keep (Keep.sub hM rfl) (by with_reducible assumption)) | (with_reducible apply Keep.ite) | split | dsimp only | (with_reducible refine Keep.snd (by with_reducible assumption) ?_))

theorem signedRefused_keep {M : Nat} {z0 : State} (hM : M &&& 0xC0000 = 0xC0000) (idx : U16) (sub : U8) (key : U16) (s : State) (hk : Keep M z0 s) : Keep M z0 (signedRefused idx sub key s) := by
  refine hk.trans ?_
  have m0 : M &&& 0x80000 = 0x80000 := Keep.sub hM rfl
  have m1 : M &&& 0xC0000 = 0xC0000 := Keep.sub hM rfl
  unfold signedRefused
  try dsimp only
  repeat' (first | (with_reducible exact Keep.refl _ _) | (with_reducible assumption) | (with_reducible apply setAcc_keep m0) | (with_reducible apply State.refuseClear_keep m1) | (with_reducible apply State.record_keep m1) | (intro) | (with_reducible apply Keep.ite) | split | dsimp only)

theorem storeCounter_keep {M : Nat} {z0 : State} (hM : M &&& 0x100000 = 0x100000) (key : U16) (c : U64) (s : State) (hk : Keep M z0 s) : Keep M z0 (storeCounter key c s) := by
  refine hk.trans ?_
  have b_boot : M.testBit 20 = true := Keep.bit hM rfl
  unfold storeCounter
  try dsimp only
  repeat' (first | (with_reducible exact Keep.refl _ _) | (fail_if_no_progress ((with_reducible refine Keep.upd_boot b_boot ?_ ?_); (with_reducible rfl))) | (with_reducible apply Keep.ite) | split)

theorem serveSwrite_keep {M : Nat} {z0 : State} (hM : M &&& 0xFFFFFA = 0xFFFFFA) (path : Path) (m : Msg) (s : State) (hk : Keep M z0 s) : Keep M z0 (serveSwrite path m s).2 := by
  refine hk.trans ?_
  have m0 : M &&& 0x100000 = 0x100000 := Keep.sub hM rfl
  have m1 : M &&& 0xC0000 = 0xC0000 := Keep.sub hM rfl
  have m2 : M &&& 0x80000 = 0x80000 := Keep.sub hM rfl
  have m3 : M &&& 0xFFFFFA = 0xFFFFFA := Keep.sub hM rfl
  unfold serveSwrite
  try dsimp only
  repeat' (first | (with_reducible exact Keep.refl _ _) | (with_reducible apply storeCounter_keep m0) | (with_reducible apply signedRefused_keep m1) | (with_reducible apply noteWrite_keep m2) | (with_reducible apply rwsWrite_keep m3) | (exact objectAt_keep (Keep.sub hM rfl) (by with_reducible assumption)) | (with_reducible apply Keep.ite) | split | dsimp only | (with_reducible refine Keep.snd (by with_reducible assumption) ?_))

theorem settleMsg_keep {M : Nat} {z0 : State} (hM : M &&& 0xFFFFFA = 0xFFFFFA) (path : Path) (m : Msg) (s : State) (hk : Keep M z0 s) : Keep M z0 (settleMsg path m s).2 := by
  refine hk.trans ?_
  have m0 : M &&& 0xFFFFFA = 0xFFFFFA := Keep.sub hM rfl
  unfold settleMsg
  try dsimp only
  repeat' (first | (with_reducible exact Keep.refl _ _) | (with_reducible apply serveSwrite_keep m0) | (with_reducible apply serveWrite_keep m0) | (with_reducible apply Keep.ite) | split | dsimp only | (with_reducible refine Keep.snd (by with_reducible assumption) ?_))

theorem keepResponse_keep {M : Nat} {z0 : State} (hM : M &&& 0x80000 = 0x80000) (path : Path) (m : Msg) (st : U8) (resp : List Byte) (s : State) (hk : Keep M z0 s) : Keep M z0 (keepResponse path m st resp s) := by
  refine hk.trans ?_
  have m0 : M &&& 0x80000 = 0x80000 := Keep.sub hM rfl
  unfold keepResponse
  try dsimp only
  repeat' (first | (with_reducible exact Keep.refl _ _) | (with_reducible assumption) | (with_reducible apply setAcc_keep m0) | (intro) | (with_reducible apply Keep.ite) | split | dsimp only)

theorem mismatch_keep {M : Nat} {z0 : State} (hM : M &&& 0xC0000 = 0xC0000) (path : Path) (m : Msg) (s : State) (hk : Keep M z0 s) : Keep M z0 (mismatch path m s) := by
  refine hk.trans ?_
  have m0 : M &&& 0x80000 = 0x80000 := Keep.sub hM rfl
  have m1 : M &&& 0xC0000 = 0xC0000 := Keep.sub hM rfl
  unfold mismatch
  try dsimp only
  repeat' (first | (with_reducible exact Keep.refl _ _) | (with_reducible assumption) | (with_reducible apply setAcc_keep m0) | (with_reducible apply State.record_keep m1) | (intro) | (with_reducible apply Keep.ite) | split | dsimp only | (with_reducible refine Keep.snd (by with_reducible assumption) ?_))

theorem serve_keep {M : Nat} {z0 : State} (hM : M &&& 0xFFFFFA = 0xFFFFFA) (path : Path) (bytes : List Byte) (s : State) (hk : Keep M z0 s) : Keep M z0 (serve path bytes s).2 := by
  refine hk.trans ?_
  have m0 : M &&& 0xC0000 = 0xC0000 := Keep.sub hM rfl
  have m1 : M &&& 0x80000 = 0x80000 := Keep.sub hM rfl
  have m2 : M &&& 0xFFFFFA = 0xFFFFFA := Keep.sub hM rfl
  unfold serve
  try dsimp only
  repeat' (first | (with_reducible exact Keep.refl _ _) | (with_reducible assumption) | (with_reducible apply mismatch_keep m0) | (with_reducible apply keepResponse_keep m1) | (with_reducible apply settleMsg_keep m2) | (with_reducible apply setAcc_keep m1) | (intro) | (with_reducible apply Keep.ite) | split | dsimp only | (with_reducible refine Keep.snd (by with_reducible assumption) ?_))

theorem planeServe_keep {M : Nat} {z0 : State} (hM : M &&& 0xFFFFFA = 0xFFFFFA) (i : Fin 2) (bytes : List Byte) (s : State) (hk : Keep M z0 s) : Keep M z0 (planeServe i bytes s) := by
  refine hk.trans ?_
  have m0 : M &&& 0xFFFFFA = 0xFFFFFA := Keep.sub hM rfl
  have m1 : M &&& 0x80000 = 0x80000 := Keep.sub hM rfl
  have m2 : M &&& 0x40000 = 0x40000 := Keep.sub hM rfl
  unfold planeServe
  try dsimp only
  repeat' (first | (with_reducible exact Keep.refl _ _) | (with_reducible assumption) | (with_reducible apply serve_keep m0) | (with_reducible apply setAcc_keep m1) | (with_reducible apply State.countBytes_keep m2) | (intro) | (with_reducible apply Keep.ite) | split | dsimp only | (with_reducible refine Keep.snd (by with_reducible assumption) ?_))

theorem tunnelServe_keep {M : Nat} {z0 : State} (hM : M &&& 0xFFFFFA = 0xFFFFFA) (p : Port) (dst : U32) (bytes : List Byte) (s : State) (hk : Keep M z0 s) : Keep M z0 (tunnelServe p dst bytes s) := by
  refine hk.trans ?_
  have m0 : M &&& 0xFFFFFA = 0xFFFFFA := Keep.sub hM rfl
  have m1 : M &&& 0x80000 = 0x80000 := Keep.sub hM rfl
  have m2 : M &&& 0x40C00 = 0x40C00 := Keep.sub hM rfl
  unfold tunnelServe
  try dsimp only
  repeat' (first | (with_reducible exact Keep.refl _ _) | (with_reducible assumption) | (with_reducible apply serve_keep m0) | (with_reducible apply setAcc_keep m1) | (with_reducible apply State.sendOn_keep m2) | (intro) | split | dsimp only | (with_reducible refine Keep.snd (by with_reducible assumption) ?_))

theorem ringServe_keep {M : Nat} {z0 : State} (hM : M &&& 0xFFFFFA = 0xFFFFFA) (s : State) (hk : Keep M z0 s) : Keep M z0 (ringServe s) := by
  refine hk.trans ?_
  have m0 : M &&& 0xFFFFFA = 0xFFFFFA := Keep.sub hM rfl
  have m1 : M &&& 0x80000 = 0x80000 := Keep.sub hM rfl
  have m2 : M &&& 0x40000 = 0x40000 := Keep.sub hM rfl
  unfold ringServe
  try dsimp only
  repeat' (first | (with_reducible exact Keep.refl _ _) | (with_reducible assumption) | (with_reducible apply serve_keep m0) | (with_reducible apply setAcc_keep m1) | (with_reducible apply State.raiseIrq_keep m1) | (with_reducible apply State.countBytes_keep m2) | (intro) | split | dsimp only | (with_reducible refine Keep.snd (by with_reducible assumption) ?_))

theorem consumeRing_keep {M : Nat} {z0 : State} (hM : M &&& 0xFFFFFA = 0xFFFFFA)  (a0 : Nat) (a1 : State) (hk : Keep M z0 a1) : Keep M z0 (consumeRing a0 a1) := by
  refine hk.trans ?_
  have m0 : M &&& 0xFFFFFA = 0xFFFFFA := Keep.sub hM rfl
  clear hk
  induction a0 generalizing a1 with
  | zero => exact Keep.refl _ _
  | succ n ih =>
    rw [consumeRing]
    split
    · exact Keep.refl _ _
    · refine Keep.trans ?_ (ih _)
      apply ringServe_keep m0
      exact Keep.refl _ _

theorem drainRing_keep {M : Nat} {z0 : State} (hM : M &&& 0xFFFFFA = 0xFFFFFA) (s : State) (hk : Keep M z0 s) : Keep M z0 (drainRing s) := by
  refine hk.trans ?_
  have m0 : M &&& 0xFFFFFA = 0xFFFFFA := Keep.sub hM rfl
  unfold drainRing
  try dsimp only
  repeat' (first | (with_reducible exact Keep.refl _ _) | (with_reducible apply consumeRing_keep m0))

theorem windowRefused_keep {M : Nat} {z0 : State} (hM : M &&& 0x80000 = 0x80000) (idx : U16) (sub st : U8) (s : State) (hk : Keep M z0 s) : Keep M z0 (windowRefused idx sub st s) := by
  refine hk.trans ?_
  have m0 : M &&& 0x80000 = 0x80000 := Keep.sub hM rfl
  unfold windowRefused
  try dsimp only
  repeat' (first | (with_reducible exact Keep.refl _ _) | (with_reducible assumption) | (with_reducible apply setAcc_keep m0) | (intro) | dsimp only)

theorem windowStatus_keep {M : Nat} {z0 : State} (hM : M &&& 0xFFFFFA = 0xFFFFFA) (idx : U16) (sub : U8) (l : List Byte) (s : State) (hk : Keep M z0 s) : Keep M z0 (windowStatus idx sub l s).2 := by
  refine hk.trans ?_
  have m0 : M &&& 0xFFFFFA = 0xFFFFFA := Keep.sub hM rfl
  have m1 : M &&& 0x80000 = 0x80000 := Keep.sub hM rfl
  unfold windowStatus
  try dsimp only
  repeat' (first | (with_reducible exact Keep.refl _ _) | (with_reducible apply ownRefusal_keep m0) | (with_reducible apply noteWrite_keep m1) | (with_reducible apply ownWrite_keep m0) | (exact objectAt_keep (Keep.sub hM rfl) (by with_reducible assumption)) | (with_reducible apply Keep.ite) | split | dsimp only | (with_reducible refine Keep.snd (by with_reducible assumption) ?_))

theorem windowWrite_keep {M : Nat} {z0 : State} (hM : M &&& 0xFFFFFA = 0xFFFFFA) (idx : U16) (sub : U8) (l : List Byte) (s : State) (hk : Keep M z0 s) : Keep M z0 (windowWrite idx sub l s) := by
  refine hk.trans ?_
  have m0 : M &&& 0xFFFFFA = 0xFFFFFA := Keep.sub hM rfl
  have m1 : M &&& 0x80000 = 0x80000 := Keep.sub hM rfl
  have m2 : M &&& 0x40000 = 0x40000 := Keep.sub hM rfl
  unfold windowWrite
  try dsimp only
  repeat' (first | (with_reducible exact Keep.refl _ _) | (with_reducible apply windowStatus_keep m0) | (with_reducible apply windowRefused_keep m1) | (with_reducible apply State.countBytes_keep m2) | (with_reducible apply Keep.ite) | split | dsimp only | (with_reducible refine Keep.snd (by with_reducible assumption) ?_))

theorem messageArrives_keep {M : Nat} {z0 : State} (hM : M &&& 0xFFFFFA = 0xFFFFFA) (path : Path) (bytes : List Byte) (s : State) (hk : Keep M z0 s) : Keep M z0 (messageArrives path bytes s) := by
  refine hk.trans ?_
  have m0 : M &&& 0xFFFFFA = 0xFFFFFA := Keep.sub hM rfl
  have m1 : M &&& 0x80000 = 0x80000 := Keep.sub hM rfl
  have m2 : M &&& 0x40000 = 0x40000 := Keep.sub hM rfl
  unfold messageArrives
  try dsimp only
  repeat' (first | (with_reducible exact Keep.refl _ _) | (with_reducible assumption) | (with_reducible apply drainRing_keep m0) | (with_reducible apply tunnelServe_keep m0) | (with_reducible apply planeServe_keep m0) | (with_reducible apply setAcc_keep m1) | (with_reducible apply State.countBytes_keep m2) | (intro) | (with_reducible apply Keep.ite) | split | dsimp only | (with_reducible refine Keep.snd (by with_reducible assumption) ?_))

theorem windowReads_keep {M : Nat} {z0 : State} (hM : M &&& 0xC0000 = 0xC0000) (bytes : List Byte) (s : State) (hk : Keep M z0 s) : Keep M z0 (windowReads bytes s) := by
  refine hk.trans ?_
  have m0 : M &&& 0x80000 = 0x80000 := Keep.sub hM rfl
  have m1 : M &&& 0x40000 = 0x40000 := Keep.sub hM rfl
  unfold windowReads
  try dsimp only
  repeat' (first | (with_reducible exact Keep.refl _ _) | (with_reducible assumption) | (with_reducible apply setAcc_keep m0) | (with_reducible apply State.countBytes_keep m1) | (intro) | dsimp only)

theorem objectRead_keep {M : Nat} {z0 : State} (hM : M &&& 0xFFFFFA = 0xFFFFFA) (path : Path) (bytes : List Byte) (s : State) (hk : Keep M z0 s) : Keep M z0 (objectRead path bytes s) := by
  refine hk.trans ?_
  have m0 : M &&& 0xC0000 = 0xC0000 := Keep.sub hM rfl
  have m1 : M &&& 0xFFFFFA = 0xFFFFFA := Keep.sub hM rfl
  unfold objectRead
  try dsimp only
  repeat' (first | (with_reducible exact Keep.refl _ _) | (with_reducible apply windowReads_keep m0) | (with_reducible apply messageArrives_keep m1) | (with_reducible apply Keep.ite) | split)

theorem objectWrite_keep {M : Nat} {z0 : State} (hM : M &&& 0xFFFFFA = 0xFFFFFA) (path : Path) (bytes : List Byte) (s : State) (hk : Keep M z0 s) : Keep M z0 (objectWrite path bytes s) := by
  refine hk.trans ?_
  have m0 : M &&& 0xFFFFFA = 0xFFFFFA := Keep.sub hM rfl
  unfold objectWrite
  try dsimp only
  repeat' (first | (with_reducible exact Keep.refl _ _) | (with_reducible apply messageArrives_keep m0))

theorem objectSwrite_keep {M : Nat} {z0 : State} (hM : M &&& 0xFFFFFA = 0xFFFFFA) (path : Path) (bytes : List Byte) (s : State) (hk : Keep M z0 s) : Keep M z0 (objectSwrite path bytes s) := by
  refine hk.trans ?_
  have m0 : M &&& 0xFFFFFA = 0xFFFFFA := Keep.sub hM rfl
  unfold objectSwrite
  try dsimp only
  repeat' (first | (with_reducible exact Keep.refl _ _) | (with_reducible apply messageArrives_keep m0))

theorem objTunnelReceive_keep {M : Nat} {z0 : State} (hM : M &&& 0xFFFFFA = 0xFFFFFA) (port : Port) (pk : Trans) (s : State) (hk : Keep M z0 s) : Keep M z0 (objTunnelReceive port pk s) := by
  refine hk.trans ?_
  have m0 : M &&& 0xFFFFFA = 0xFFFFFA := Keep.sub hM rfl
  have m1 : M &&& 0x800 = 0x800 := Keep.sub hM rfl
  unfold objTunnelReceive
  try dsimp only
  repeat' (first | (with_reducible exact Keep.refl _ _) | (with_reducible apply drainRing_keep m0) | (with_reducible apply tunnelServe_keep m0) | (with_reducible apply State.takePk_keep m1) | (with_reducible apply Keep.ite) | split)

theorem sessionTimeout_keep {M : Nat} {z0 : State} (hM : M &&& 0x80000 = 0x80000) (key : SessionKey) (s : State) (hk : Keep M z0 s) : Keep M z0 (sessionTimeout key s) := by
  refine hk.trans ?_
  have m0 : M &&& 0x80000 = 0x80000 := Keep.sub hM rfl
  unfold sessionTimeout
  try dsimp only
  repeat' (first | (with_reducible exact Keep.refl _ _) | (with_reducible assumption) | (with_reducible apply setAcc_keep m0) | (intro) | (with_reducible apply Keep.ite) | split | dsimp only)

theorem duplicateRetentionExpiry_keep {M : Nat} {z0 : State} (hM : M &&& 0x80000 = 0x80000) (client req : U32) (s : State) (hk : Keep M z0 s) : Keep M z0 (duplicateRetentionExpiry client req s) := by
  refine hk.trans ?_
  have m0 : M &&& 0x80000 = 0x80000 := Keep.sub hM rfl
  unfold duplicateRetentionExpiry
  try dsimp only
  repeat' (first | (with_reducible exact Keep.refl _ _) | (with_reducible assumption) | (with_reducible apply setAcc_keep m0) | (intro) | dsimp only)

theorem pathWrite_keep {M : Nat} {z0 : State} (hM : M &&& 0xFFFFFA = 0xFFFFFA) (path : Path) (idx : U16) (sub : U8) (l : List Byte) (s : State) (hk : Keep M z0 s) : Keep M z0 (pathWrite path idx sub l s) := by
  refine hk.trans ?_
  have m0 : M &&& 0xFFFFFA = 0xFFFFFA := Keep.sub hM rfl
  have m1 : M &&& 0x80000 = 0x80000 := Keep.sub hM rfl
  unfold pathWrite
  try dsimp only
  repeat' (first | (with_reducible exact Keep.refl _ _) | (with_reducible apply ownRefusal_keep m0) | (with_reducible apply noteWrite_keep m1) | (with_reducible apply ownWrite_keep m0) | (exact objectAt_keep (Keep.sub hM rfl) (by with_reducible assumption)) | (with_reducible apply Keep.ite) | split | dsimp only | (with_reducible refine Keep.snd (by with_reducible assumption) ?_))

theorem registerWrite_keep {M : Nat} {z0 : State} (hM : M &&& 0xFFFFFA = 0xFFFFFA) (path : Path) (idx : U16) (sub : U8) (bytes : List Byte) (s : State) (hk : Keep M z0 s) : Keep M z0 (registerWrite path idx sub bytes s) := by
  refine hk.trans ?_
  have m0 : M &&& 0xFFFFFA = 0xFFFFFA := Keep.sub hM rfl
  unfold registerWrite
  try dsimp only
  repeat' (first | (with_reducible exact Keep.refl _ _) | (with_reducible apply pathWrite_keep m0) | (with_reducible apply windowWrite_keep m0) | (with_reducible apply drainRing_keep m0) | (with_reducible apply Keep.ite) | split)

theorem bar2Write_keep {M : Nat} {z0 : State} (hM : M &&& 0x80000 = 0x80000) (s : State) (hk : Keep M z0 s) : Keep M z0 (bar2Write s) := by
  refine hk.trans ?_
  have m0 : M &&& 0x80000 = 0x80000 := Keep.sub hM rfl
  unfold bar2Write
  try dsimp only
  repeat' (first | (with_reducible exact Keep.refl _ _) | (with_reducible assumption) | (with_reducible apply setAcc_keep m0) | (intro) | dsimp only)

theorem ringProduceWrite_keep {M : Nat} {z0 : State} (hM : M &&& 0xFFFFFA = 0xFFFFFA) (v : U16) (s : State) (hk : Keep M z0 s) : Keep M z0 (ringProduceWrite v s) := by
  refine hk.trans ?_
  have m0 : M &&& 0xFFFFFA = 0xFFFFFA := Keep.sub hM rfl
  unfold ringProduceWrite
  try dsimp only
  repeat' (first | (with_reducible exact Keep.refl _ _) | (with_reducible apply windowWrite_keep m0) | (with_reducible apply drainRing_keep m0) | (with_reducible apply Keep.ite) | split)

theorem ringConsumeWrite_keep {M : Nat} {z0 : State} (hM : M &&& 0xFFFFFA = 0xFFFFFA) (v : U16) (s : State) (hk : Keep M z0 s) : Keep M z0 (ringConsumeWrite v s) := by
  refine hk.trans ?_
  have m0 : M &&& 0xFFFFFA = 0xFFFFFA := Keep.sub hM rfl
  unfold ringConsumeWrite
  try dsimp only
  repeat' (first | (with_reducible exact Keep.refl _ _) | (with_reducible apply windowWrite_keep m0) | (with_reducible apply drainRing_keep m0) | (with_reducible apply Keep.ite) | split)

theorem hostLinkReset_keep {M : Nat} {z0 : State} (hM : M &&& 0x1C0000 = 0x1C0000) (s : State) (hk : Keep M z0 s) : Keep M z0 (hostLinkReset s) := by
  refine hk.trans ?_
  have m0 : M &&& 0x80000 = 0x80000 := Keep.sub hM rfl
  have m1 : M &&& 0xC0000 = 0xC0000 := Keep.sub hM rfl
  have b_boot : M.testBit 20 = true := Keep.bit hM rfl
  unfold hostLinkReset
  try dsimp only
  repeat' (first | (with_reducible exact Keep.refl _ _) | (with_reducible assumption) | (fail_if_no_progress ((with_reducible refine Keep.upd_boot b_boot ?_ ?_); (with_reducible rfl))) | (with_reducible apply setAcc_keep m0) | (with_reducible apply State.record_keep m1) | (intro) | dsimp only)

theorem State.flushDrops_keep {M : Nat} {z0 : State} (hM : M &&& 0xC0000 = 0xC0000) (i : Fin 2) (s : State) (hk : Keep M z0 s) : Keep M z0 (State.flushDrops i s) := by
  refine hk.trans ?_
  have m0 : M &&& 0xC0000 = 0xC0000 := Keep.sub hM rfl
  have b_tele : M.testBit 18 = true := Keep.bit hM rfl
  unfold State.flushDrops
  try dsimp only
  repeat' (first | (with_reducible exact Keep.refl _ _) | (fail_if_no_progress (with_reducible apply Keep.upd_tele b_tele)) | (with_reducible apply State.record_keep m0) | (with_reducible apply Keep.ite) | split | (with_reducible refine Keep.snd (by with_reducible assumption) ?_))

theorem State.tick_keep {M : Nat} {z0 : State} (hM : M &&& 0xC04C2 = 0xC04C2) (s : State) (hk : Keep M z0 s) : Keep M z0 (State.tick s) := by
  refine hk.trans ?_
  have m0 : M &&& 0xC0000 = 0xC0000 := Keep.sub hM rfl
  have b_vec : M.testBit 7 = true := Keep.bit hM rfl
  have b_time : M.testBit 1 = true := Keep.bit hM rfl
  have b_links : M.testBit 10 = true := Keep.bit hM rfl
  have b_tele : M.testBit 18 = true := Keep.bit hM rfl
  have b_upd : M.testBit 6 = true := Keep.bit hM rfl
  unfold State.tick
  extract_lets now tele src s1
  have h1 : Keep M s s1 := by
    unfold s1
    clear_value src tele now
    refine ⟨rfl, rfl, id, le_refl _, ?_, ?_, ?_, ?_, ?_, ?_, ?_, ?_, ?_, ?_, ?_, ?_, ?_, ?_, ?_, ?_, ?_, ?_, ?_, ?_, ?_, ?_⟩
    all_goals (first | exact fun b => absurd (b.symm.trans (Keep.bit hM rfl)) (by decide) | exact fun _ => rfl)
  split
  · exact Keep.upd_time b_time (Keep.refl _ _)
  · apply State.flushDrops_keep m0
    apply State.flushDrops_keep m0
    exact h1

end Sys2Proof.Machine
end

