-- ==== Sys2Proof/Laws/KeepCommands.lean ====
section
/-! SUPPORT. One lemma per command: it answers a next state, and what it keeps. -/
set_option linter.unreachableTactic false
set_option linter.unusedTactic false
namespace Sys2Proof.Machine
open Sys2Proof

theorem execStepSizeWrite_keep (v : U64) (s : State) : ∃ t, execStepSizeWrite v s = .next t ∧ Keep 0x2EBF78 s t := by
  have m0 : 0x2EBF78 &&& 0x2EBF78 = 0x2EBF78 := rfl
  refine ⟨_, rfl, ?_⟩
  repeat' (first | (with_reducible exact Keep.refl _ _) | (with_reducible apply stepSizeWrite_keep m0) | dsimp only)

theorem execStepSizeLate_keep (step : U32) (s : State) : ∃ t, execStepSizeLate step s = .next t ∧ Keep 0xC0040 s t := by
  have m0 : 0xC0040 &&& 0xC0040 = 0xC0040 := rfl
  refine ⟨_, rfl, ?_⟩
  repeat' (first | (with_reducible exact Keep.refl _ _) | (with_reducible apply stepSizeLate_keep m0) | dsimp only)

theorem execStepFenceWrite_keep (v : U32) (s : State) : ∃ t, execStepFenceWrite v s = .next t ∧ Keep 0x2E3F58 s t := by
  have m0 : 0x2E3F58 &&& 0x2E3F58 = 0x2E3F58 := rfl
  refine ⟨_, rfl, ?_⟩
  repeat' (first | (with_reducible exact Keep.refl _ _) | (with_reducible apply stepFenceWrite_keep m0) | dsimp only)

theorem execFenceTimeout_keep (s : State) : ∃ t, execFenceTimeout s = .next t ∧ Keep 0xC2F58 s t := by
  have m0 : 0xC2F58 &&& 0xC2F58 = 0xC2F58 := rfl
  refine ⟨_, rfl, ?_⟩
  repeat' (first | (with_reducible exact Keep.refl _ _) | (with_reducible apply fenceTimeout_keep m0) | dsimp only)

theorem execSealStep_keep (s : State) : ∃ t, execSealStep s = .next t ∧ Keep 0xAEBF78 s t := by
  have m0 : 0xAEBF78 &&& 0xAEBF78 = 0xAEBF78 := rfl
  refine ⟨_, rfl, ?_⟩
  repeat' (first | (with_reducible exact Keep.refl _ _) | (with_reducible apply sealStep_keep m0) | dsimp only)

theorem execStepSealedReceive_keep (port : Port) (pk : Trans) (s : State) : ∃ t, execStepSealedReceive port pk s = .next t ∧ Keep 0xC8D70 s t := by
  have m0 : 0xC8D70 &&& 0xC8D70 = 0xC8D70 := rfl
  refine ⟨_, rfl, ?_⟩
  repeat' (first | (with_reducible exact Keep.refl _ _) | (with_reducible apply stepSealedReceive_keep m0) | dsimp only)

theorem execStepFailedReceive_keep (port : Port) (pk : Trans) (s : State) : ∃ t, execStepFailedReceive port pk s = .next t ∧ Keep 0xC0C00 s t := by
  have m0 : 0xC0C00 &&& 0xC0C00 = 0xC0C00 := rfl
  refine ⟨_, rfl, ?_⟩
  repeat' (first | (with_reducible exact Keep.refl _ _) | (with_reducible apply stepFailedReceive_keep m0) | dsimp only)

theorem execJobCommitReceive_keep (port : Port) (pk : Trans) (s : State) : ∃ t, execJobCommitReceive port pk s = .next t ∧ Keep 0xC8D70 s t := by
  have m0 : 0xC8D70 &&& 0xC8D70 = 0xC8D70 := rfl
  refine ⟨_, rfl, ?_⟩
  repeat' (first | (with_reducible exact Keep.refl _ _) | (with_reducible apply jobCommitReceive_keep m0) | dsimp only)

theorem execStepOpenSend_keep (s : State) : ∃ t, execStepOpenSend s = .next t ∧ Keep 0xC0C20 s t := by
  have m0 : 0xC0C20 &&& 0xC0C20 = 0xC0C20 := rfl
  refine ⟨_, rfl, ?_⟩
  repeat' (first | (with_reducible exact Keep.refl _ _) | (with_reducible apply stepOpenSend_keep m0) | dsimp only)

theorem execAnchorLate_keep (step : U32) (s : State) : ∃ t, execAnchorLate step s = .next t ∧ Keep 0xC0020 s t := by
  have m0 : 0xC0020 &&& 0xC0020 = 0xC0020 := rfl
  refine ⟨_, rfl, ?_⟩
  repeat' (first | (with_reducible exact Keep.refl _ _) | (with_reducible apply anchorLate_keep m0) | dsimp only)

theorem execPieceArrival_keep (port : Port) (blk : Block) (s : State) : ∃ t, execPieceArrival port blk s = .next t ∧ Keep 0xAEBF78 s t := by
  have m0 : 0xAEBF78 &&& 0xAEBF78 = 0xAEBF78 := rfl
  refine ⟨_, rfl, ?_⟩
  repeat' (first | (with_reducible exact Keep.refl _ _) | (with_reducible apply pieceArrival_keep m0) | dsimp only)

theorem execWindowUnpark_keep (ts step w : U32) (s : State) : ∃ t, execWindowUnpark ts step w s = .next t ∧ Keep 0xAEBF78 s t := by
  have m0 : 0xAEBF78 &&& 0xAEBF78 = 0xAEBF78 := rfl
  refine ⟨_, rfl, ?_⟩
  repeat' (first | (with_reducible exact Keep.refl _ _) | (with_reducible apply windowUnpark_keep m0) | dsimp only)

theorem execAnchorResendReqReceive_keep (port : Port) (pk : Trans) (s : State) : ∃ t, execAnchorResendReqReceive port pk s = .next t ∧ Keep 0x2E3E78 s t := by
  have m0 : 0x2E3E78 &&& 0x2E3E78 = 0x2E3E78 := rfl
  refine ⟨_, rfl, ?_⟩
  repeat' (first | (with_reducible exact Keep.refl _ _) | (with_reducible apply anchorResendReqReceive_keep m0) | dsimp only)

theorem execTreeBlockAckReceive_keep (port : Port) (pk : Trans) (s : State) : ∃ t, execTreeBlockAckReceive port pk s = .next t ∧ Keep 0xC0C20 s t := by
  have m0 : 0xC0C20 &&& 0xC0C20 = 0xC0C20 := rfl
  refine ⟨_, rfl, ?_⟩
  repeat' (first | (with_reducible exact Keep.refl _ _) | (with_reducible apply treeBlockAckReceive_keep m0) | dsimp only)

theorem execPieceResendReqReceive_keep (port : Port) (pk : Trans) (s : State) : ∃ t, execPieceResendReqReceive port pk s = .next t ∧ Keep 0xAEBF78 s t := by
  have m0 : 0xAEBF78 &&& 0xAEBF78 = 0xAEBF78 := rfl
  refine ⟨_, rfl, ?_⟩
  repeat' (first | (with_reducible exact Keep.refl _ _) | (with_reducible apply pieceResendReqReceive_keep m0) | dsimp only)

theorem execRetentionResend_keep (ts w : U32) (s : State) : ∃ t, execRetentionResend ts w s = .next t ∧ Keep 0xAEBF78 s t := by
  have m0 : 0xAEBF78 &&& 0xAEBF78 = 0xAEBF78 := rfl
  refine ⟨_, rfl, ?_⟩
  repeat' (first | (with_reducible exact Keep.refl _ _) | (with_reducible apply retentionResend_keep m0) | dsimp only)

theorem execScalarFenceWrite_keep (v : U64) (s : State) : ∃ t, execScalarFenceWrite v s = .next t ∧ Keep 0x2E3F78 s t := by
  have m0 : 0x2E3F78 &&& 0x2E3F78 = 0x2E3F78 := rfl
  refine ⟨_, rfl, ?_⟩
  repeat' (first | (with_reducible exact Keep.refl _ _) | (with_reducible apply scalarFenceWrite_keep m0) | dsimp only)

theorem execScalarSendUp_keep (slot : U8) (s : State) : ∃ t, execScalarSendUp slot s = .next t ∧ Keep 0x2E3F78 s t := by
  have m0 : 0x2E3F78 &&& 0x2E3F78 = 0x2E3F78 := rfl
  refine ⟨_, rfl, ?_⟩
  repeat' (first | (with_reducible exact Keep.refl _ _) | (with_reducible apply scalarSendUp_keep m0) | dsimp only)

theorem execScalarReduceReceive_keep (port : Port) (pk : Trans) (s : State) : ∃ t, execScalarReduceReceive port pk s = .next t ∧ Keep 0x2EBF78 s t := by
  have m0 : 0x2EBF78 &&& 0x2EBF78 = 0x2EBF78 := rfl
  refine ⟨_, rfl, ?_⟩
  repeat' (first | (with_reducible exact Keep.refl _ _) | (with_reducible apply scalarReduceReceive_keep m0) | dsimp only)

theorem execSlotConfigWrite_keep (bytes : List Byte) (s : State) : ∃ t, execSlotConfigWrite bytes s = .next t ∧ Keep 0xC0020 s t := by
  have m0 : 0xC0020 &&& 0xC0020 = 0xC0020 := rfl
  refine ⟨_, rfl, ?_⟩
  repeat' (first | (with_reducible exact Keep.refl _ _) | (with_reducible apply slotConfigWrite_keep m0) | dsimp only)

theorem execTreeTableWrite_keep (bytes : List Byte) (s : State) : ∃ t, execTreeTableWrite bytes s = .next t ∧ Keep 0xC0020 s t := by
  have m0 : 0xC0020 &&& 0xC0020 = 0xC0020 := rfl
  refine ⟨_, rfl, ?_⟩
  repeat' (first | (with_reducible exact Keep.refl _ _) | (with_reducible apply treeTableWrite_keep m0) | dsimp only)

theorem execHeldSecondPass_keep (ts w : U32) (s : State) : ∃ t, execHeldSecondPass ts w s = .next t ∧ Keep 0x2E3F58 s t := by
  have m0 : 0x2E3F58 &&& 0x2E3F58 = 0x2E3F58 := rfl
  refine ⟨_, rfl, ?_⟩
  repeat' (first | (with_reducible exact Keep.refl _ _) | (with_reducible apply heldSecondPass_keep m0) | dsimp only)

theorem execWindowDispatch_keep (ts w : U32) (replica : Bool) (s : State) : ∃ t, execWindowDispatch ts w replica s = .next t ∧ Keep 0x2E3F58 s t := by
  have m0 : 0x2E3F58 &&& 0x2E3F58 = 0x2E3F58 := rfl
  refine ⟨_, rfl, ?_⟩
  repeat' (first | (with_reducible exact Keep.refl _ _) | (with_reducible apply windowDispatch_keep m0) | dsimp only)

theorem execWindowWriteback_keep (pipe : Pipe) (s : State) : ∃ t, execWindowWriteback pipe s = .next t ∧ Keep 0xAEBF58 s t := by
  have m0 : 0xAEBF58 &&& 0xAEBF58 = 0xAEBF58 := rfl
  refine ⟨_, rfl, ?_⟩
  repeat' (first | (with_reducible exact Keep.refl _ _) | (with_reducible apply windowWriteback_keep m0) | dsimp only)

theorem execPipeParity_keep (pipe : Pipe) (stage : U8) (s : State) : ∃ t, execPipeParity pipe stage s = .next t ∧ Keep 0x2E3F58 s t := by
  have m0 : 0x2E3F58 &&& 0x2E3F58 = 0x2E3F58 := rfl
  refine ⟨_, rfl, ?_⟩
  repeat' (first | (with_reducible exact Keep.refl _ _) | (with_reducible apply pipeParity_keep m0) | dsimp only)

theorem execHaltReleaseWrite_keep (v : U32) (s : State) : ∃ t, execHaltReleaseWrite v s = .next t ∧ Keep 0x40 s t := by
  have m0 : 0x40 &&& 0x40 = 0x40 := rfl
  refine ⟨_, rfl, ?_⟩
  repeat' (first | (with_reducible exact Keep.refl _ _) | (with_reducible apply haltReleaseWrite_keep m0) | dsimp only)

theorem execMaskStageWrite_keep (bytes : List Byte) (s : State) : ∃ t, execMaskStageWrite bytes s = .next t ∧ Keep 0xC1C40 s t := by
  have m0 : 0xC1C40 &&& 0xC1C40 = 0xC1C40 := rfl
  refine ⟨_, rfl, ?_⟩
  repeat' (first | (with_reducible exact Keep.refl _ _) | (with_reducible apply maskStageWrite_keep m0) | dsimp only)

theorem execProgramSlotWrite_keep (slot : Fin 16) (bytes : List Byte) (s : State) : ∃ t, execProgramSlotWrite slot bytes s = .next t ∧ Keep 0xC0040 s t := by
  have m0 : 0xC0040 &&& 0xC0040 = 0xC0040 := rfl
  refine ⟨_, rfl, ?_⟩
  repeat' (first | (with_reducible exact Keep.refl _ _) | (with_reducible apply programSlotWrite_keep m0) | dsimp only)

theorem execTensorTableWrite_keep (bytes : List Byte) (s : State) : ∃ t, execTensorTableWrite bytes s = .next t ∧ Keep 0xC3040 s t := by
  have m0 : 0xC3040 &&& 0xC3040 = 0xC3040 := rfl
  refine ⟨_, rfl, ?_⟩
  repeat' (first | (with_reducible exact Keep.refl _ _) | (with_reducible apply tensorTableWrite_keep m0) | dsimp only)

theorem execSysNop_keep (c : Core) (s : State) : ∃ t, execSysNop c s = .next t ∧ Keep 0x80 s t := by
  have m0 : 0x80 &&& 0x80 = 0x80 := rfl
  refine ⟨_, rfl, ?_⟩
  repeat' (first | (with_reducible exact Keep.refl _ _) | (with_reducible apply State.regOp_keep m0) | dsimp only)

theorem execEndOp_keep (c : Core) (xa : BitVec 5) (s : State) : ∃ t, execEndOp c xa s = .next t ∧ Keep 0xC2FD8 s t := by
  have m0 : 0xC2FD8 &&& 0xC2FD8 = 0xC2FD8 := rfl
  refine ⟨_, rfl, ?_⟩
  repeat' (first | (with_reducible exact Keep.refl _ _) | (with_reducible apply endOp_keep m0) | dsimp only)

theorem execFaultOp_keep (c : Core) (xa : BitVec 5) (s : State) : ∃ t, execFaultOp c xa s = .next t ∧ Keep 0xC2FD8 s t := by
  have m0 : 0xC2FD8 &&& 0xC2FD8 = 0xC2FD8 := rfl
  refine ⟨_, rfl, ?_⟩
  repeat' (first | (with_reducible exact Keep.refl _ _) | (with_reducible apply faultOp_keep m0) | dsimp only)

theorem execVeNop_keep (c : Core) (a : VeArgs) (s : State) : ∃ t, execVeNop c a s = .next t ∧ Keep 0x80 s t := by
  have m0 : 0x80 &&& 0x80 = 0x80 := rfl
  refine ⟨_, rfl, ?_⟩
  repeat' (first | (with_reducible exact Keep.refl _ _) | (with_reducible apply State.regOp_keep m0) | dsimp only)

theorem execVeMov_keep (c : Core) (a : VeArgs) (s : State) : ∃ t, execVeMov c a s = .next t ∧ Keep 0x80 s t := by
  have m0 : 0x80 &&& 0x80 = 0x80 := rfl
  refine ⟨_, rfl, ?_⟩
  repeat' (first | (with_reducible exact Keep.refl _ _) | (with_reducible apply State.veOp_keep m0) | dsimp only)

theorem execVeAdd_keep (c : Core) (a : VeArgs) (s : State) : ∃ t, execVeAdd c a s = .next t ∧ Keep 0x80 s t := by
  have m0 : 0x80 &&& 0x80 = 0x80 := rfl
  refine ⟨_, rfl, ?_⟩
  repeat' (first | (with_reducible exact Keep.refl _ _) | (with_reducible apply State.veOp_keep m0) | dsimp only)

theorem execVeSub_keep (c : Core) (a : VeArgs) (s : State) : ∃ t, execVeSub c a s = .next t ∧ Keep 0x80 s t := by
  have m0 : 0x80 &&& 0x80 = 0x80 := rfl
  refine ⟨_, rfl, ?_⟩
  repeat' (first | (with_reducible exact Keep.refl _ _) | (with_reducible apply State.veOp_keep m0) | dsimp only)

theorem execVeMul_keep (c : Core) (a : VeArgs) (s : State) : ∃ t, execVeMul c a s = .next t ∧ Keep 0x80 s t := by
  have m0 : 0x80 &&& 0x80 = 0x80 := rfl
  refine ⟨_, rfl, ?_⟩
  repeat' (first | (with_reducible exact Keep.refl _ _) | (with_reducible apply State.veOp_keep m0) | dsimp only)

theorem execVeFma_keep (c : Core) (a : VeArgs) (s : State) : ∃ t, execVeFma c a s = .next t ∧ Keep 0x80 s t := by
  have m0 : 0x80 &&& 0x80 = 0x80 := rfl
  refine ⟨_, rfl, ?_⟩
  repeat' (first | (with_reducible exact Keep.refl _ _) | (with_reducible apply State.veOp_keep m0) | dsimp only)

theorem execVeFms_keep (c : Core) (a : VeArgs) (s : State) : ∃ t, execVeFms c a s = .next t ∧ Keep 0x80 s t := by
  have m0 : 0x80 &&& 0x80 = 0x80 := rfl
  refine ⟨_, rfl, ?_⟩
  repeat' (first | (with_reducible exact Keep.refl _ _) | (with_reducible apply State.veOp_keep m0) | dsimp only)

theorem execVeDiv_keep (c : Core) (a : VeArgs) (s : State) : ∃ t, execVeDiv c a s = .next t ∧ Keep 0x80 s t := by
  have m0 : 0x80 &&& 0x80 = 0x80 := rfl
  refine ⟨_, rfl, ?_⟩
  repeat' (first | (with_reducible exact Keep.refl _ _) | (with_reducible apply State.veOp_keep m0) | dsimp only)

theorem execVeSqrt_keep (c : Core) (a : VeArgs) (s : State) : ∃ t, execVeSqrt c a s = .next t ∧ Keep 0x80 s t := by
  have m0 : 0x80 &&& 0x80 = 0x80 := rfl
  refine ⟨_, rfl, ?_⟩
  repeat' (first | (with_reducible exact Keep.refl _ _) | (with_reducible apply State.veOp_keep m0) | dsimp only)

theorem execVeRsqrt_keep (c : Core) (a : VeArgs) (s : State) : ∃ t, execVeRsqrt c a s = .next t ∧ Keep 0x80 s t := by
  have m0 : 0x80 &&& 0x80 = 0x80 := rfl
  refine ⟨_, rfl, ?_⟩
  repeat' (first | (with_reducible exact Keep.refl _ _) | (with_reducible apply State.veOp_keep m0) | dsimp only)

theorem execVeRcp_keep (c : Core) (a : VeArgs) (s : State) : ∃ t, execVeRcp c a s = .next t ∧ Keep 0x80 s t := by
  have m0 : 0x80 &&& 0x80 = 0x80 := rfl
  refine ⟨_, rfl, ?_⟩
  repeat' (first | (with_reducible exact Keep.refl _ _) | (with_reducible apply State.veOp_keep m0) | dsimp only)

theorem execVeMax_keep (c : Core) (a : VeArgs) (s : State) : ∃ t, execVeMax c a s = .next t ∧ Keep 0x80 s t := by
  have m0 : 0x80 &&& 0x80 = 0x80 := rfl
  refine ⟨_, rfl, ?_⟩
  repeat' (first | (with_reducible exact Keep.refl _ _) | (with_reducible apply State.veOp_keep m0) | dsimp only)

theorem execVeMin_keep (c : Core) (a : VeArgs) (s : State) : ∃ t, execVeMin c a s = .next t ∧ Keep 0x80 s t := by
  have m0 : 0x80 &&& 0x80 = 0x80 := rfl
  refine ⟨_, rfl, ?_⟩
  repeat' (first | (with_reducible exact Keep.refl _ _) | (with_reducible apply State.veOp_keep m0) | dsimp only)

theorem execVeAbs_keep (c : Core) (a : VeArgs) (s : State) : ∃ t, execVeAbs c a s = .next t ∧ Keep 0x80 s t := by
  have m0 : 0x80 &&& 0x80 = 0x80 := rfl
  refine ⟨_, rfl, ?_⟩
  repeat' (first | (with_reducible exact Keep.refl _ _) | (with_reducible apply State.veOp_keep m0) | dsimp only)

theorem execVeNeg_keep (c : Core) (a : VeArgs) (s : State) : ∃ t, execVeNeg c a s = .next t ∧ Keep 0x80 s t := by
  have m0 : 0x80 &&& 0x80 = 0x80 := rfl
  refine ⟨_, rfl, ?_⟩
  repeat' (first | (with_reducible exact Keep.refl _ _) | (with_reducible apply State.veOp_keep m0) | dsimp only)

theorem execVeSign_keep (c : Core) (a : VeArgs) (s : State) : ∃ t, execVeSign c a s = .next t ∧ Keep 0x80 s t := by
  have m0 : 0x80 &&& 0x80 = 0x80 := rfl
  refine ⟨_, rfl, ?_⟩
  repeat' (first | (with_reducible exact Keep.refl _ _) | (with_reducible apply State.veOp_keep m0) | dsimp only)

theorem execVeSel_keep (c : Core) (a : VeArgs) (s : State) : ∃ t, execVeSel c a s = .next t ∧ Keep 0x80 s t := by
  have m0 : 0x80 &&& 0x80 = 0x80 := rfl
  refine ⟨_, rfl, ?_⟩
  repeat' (first | (with_reducible exact Keep.refl _ _) | (with_reducible apply State.veOp_keep m0) | dsimp only)

theorem execVeCmplt_keep (c : Core) (a : VeArgs) (s : State) : ∃ t, execVeCmplt c a s = .next t ∧ Keep 0x80 s t := by
  have m0 : 0x80 &&& 0x80 = 0x80 := rfl
  refine ⟨_, rfl, ?_⟩
  repeat' (first | (with_reducible exact Keep.refl _ _) | (with_reducible apply State.veOp_keep m0) | dsimp only)

theorem execVeCmple_keep (c : Core) (a : VeArgs) (s : State) : ∃ t, execVeCmple c a s = .next t ∧ Keep 0x80 s t := by
  have m0 : 0x80 &&& 0x80 = 0x80 := rfl
  refine ⟨_, rfl, ?_⟩
  repeat' (first | (with_reducible exact Keep.refl _ _) | (with_reducible apply State.veOp_keep m0) | dsimp only)

theorem execVeCmpeq_keep (c : Core) (a : VeArgs) (s : State) : ∃ t, execVeCmpeq c a s = .next t ∧ Keep 0x80 s t := by
  have m0 : 0x80 &&& 0x80 = 0x80 := rfl
  refine ⟨_, rfl, ?_⟩
  repeat' (first | (with_reducible exact Keep.refl _ _) | (with_reducible apply State.veOp_keep m0) | dsimp only)

theorem execVeClamp_keep (c : Core) (a : VeArgs) (s : State) : ∃ t, execVeClamp c a s = .next t ∧ Keep 0x80 s t := by
  have m0 : 0x80 &&& 0x80 = 0x80 := rfl
  refine ⟨_, rfl, ?_⟩
  repeat' (first | (with_reducible exact Keep.refl _ _) | (with_reducible apply State.veOp_keep m0) | dsimp only)

theorem execVeCvt_keep (c : Core) (a : VeArgs) (s : State) : ∃ t, execVeCvt c a s = .next t ∧ Keep 0x88 s t := by
  have m0 : 0x88 &&& 0x88 = 0x88 := rfl
  refine ⟨_, rfl, ?_⟩
  repeat' (first | (with_reducible exact Keep.refl _ _) | (with_reducible apply State.convOp_keep m0) | dsimp only)

theorem execTest_keep (c : Core) (a : VcArgs) (s : State) : ∃ t, execTest c a s = .next t ∧ Keep 0x80 s t := by
  have m0 : 0x80 &&& 0x80 = 0x80 := rfl
  refine ⟨_, rfl, ?_⟩
  repeat' (first | (with_reducible exact Keep.refl _ _) | (with_reducible apply State.regOp_keep m0) | dsimp only)

theorem execVcCmplt_keep (c : Core) (a : VcArgs) (s : State) : ∃ t, execVcCmplt c a s = .next t ∧ Keep 0x80 s t := by
  have m0 : 0x80 &&& 0x80 = 0x80 := rfl
  refine ⟨_, rfl, ?_⟩
  repeat' (first | (with_reducible exact Keep.refl _ _) | (with_reducible apply State.regOp_keep m0) | dsimp only)

theorem execVcCmple_keep (c : Core) (a : VcArgs) (s : State) : ∃ t, execVcCmple c a s = .next t ∧ Keep 0x80 s t := by
  have m0 : 0x80 &&& 0x80 = 0x80 := rfl
  refine ⟨_, rfl, ?_⟩
  repeat' (first | (with_reducible exact Keep.refl _ _) | (with_reducible apply State.regOp_keep m0) | dsimp only)

theorem execVcCmpeq_keep (c : Core) (a : VcArgs) (s : State) : ∃ t, execVcCmpeq c a s = .next t ∧ Keep 0x80 s t := by
  have m0 : 0x80 &&& 0x80 = 0x80 := rfl
  refine ⟨_, rfl, ?_⟩
  repeat' (first | (with_reducible exact Keep.refl _ _) | (with_reducible apply State.regOp_keep m0) | dsimp only)

theorem execIadd_keep (c : Core) (a : ViArgs) (s : State) : ∃ t, execIadd c a s = .next t ∧ Keep 0x80 s t := by
  have m0 : 0x80 &&& 0x80 = 0x80 := rfl
  refine ⟨_, rfl, ?_⟩
  repeat' (first | (with_reducible exact Keep.refl _ _) | (with_reducible apply State.regOp_keep m0) | dsimp only)

theorem execIsub_keep (c : Core) (a : ViArgs) (s : State) : ∃ t, execIsub c a s = .next t ∧ Keep 0x80 s t := by
  have m0 : 0x80 &&& 0x80 = 0x80 := rfl
  refine ⟨_, rfl, ?_⟩
  repeat' (first | (with_reducible exact Keep.refl _ _) | (with_reducible apply State.regOp_keep m0) | dsimp only)

theorem execImul_keep (c : Core) (a : ViArgs) (s : State) : ∃ t, execImul c a s = .next t ∧ Keep 0x80 s t := by
  have m0 : 0x80 &&& 0x80 = 0x80 := rfl
  refine ⟨_, rfl, ?_⟩
  repeat' (first | (with_reducible exact Keep.refl _ _) | (with_reducible apply State.regOp_keep m0) | dsimp only)

theorem execIand_keep (c : Core) (a : ViArgs) (s : State) : ∃ t, execIand c a s = .next t ∧ Keep 0x80 s t := by
  have m0 : 0x80 &&& 0x80 = 0x80 := rfl
  refine ⟨_, rfl, ?_⟩
  repeat' (first | (with_reducible exact Keep.refl _ _) | (with_reducible apply State.regOp_keep m0) | dsimp only)

theorem execIor_keep (c : Core) (a : ViArgs) (s : State) : ∃ t, execIor c a s = .next t ∧ Keep 0x80 s t := by
  have m0 : 0x80 &&& 0x80 = 0x80 := rfl
  refine ⟨_, rfl, ?_⟩
  repeat' (first | (with_reducible exact Keep.refl _ _) | (with_reducible apply State.regOp_keep m0) | dsimp only)

theorem execIxor_keep (c : Core) (a : ViArgs) (s : State) : ∃ t, execIxor c a s = .next t ∧ Keep 0x80 s t := by
  have m0 : 0x80 &&& 0x80 = 0x80 := rfl
  refine ⟨_, rfl, ?_⟩
  repeat' (first | (with_reducible exact Keep.refl _ _) | (with_reducible apply State.regOp_keep m0) | dsimp only)

theorem execIshl_keep (c : Core) (a : ViArgs) (s : State) : ∃ t, execIshl c a s = .next t ∧ Keep 0x80 s t := by
  have m0 : 0x80 &&& 0x80 = 0x80 := rfl
  refine ⟨_, rfl, ?_⟩
  repeat' (first | (with_reducible exact Keep.refl _ _) | (with_reducible apply State.regOp_keep m0) | dsimp only)

theorem execIshr_keep (c : Core) (a : ViArgs) (s : State) : ∃ t, execIshr c a s = .next t ∧ Keep 0x80 s t := by
  have m0 : 0x80 &&& 0x80 = 0x80 := rfl
  refine ⟨_, rfl, ?_⟩
  repeat' (first | (with_reducible exact Keep.refl _ _) | (with_reducible apply State.regOp_keep m0) | dsimp only)

theorem execIsra_keep (c : Core) (a : ViArgs) (s : State) : ∃ t, execIsra c a s = .next t ∧ Keep 0x80 s t := by
  have m0 : 0x80 &&& 0x80 = 0x80 := rfl
  refine ⟨_, rfl, ?_⟩
  repeat' (first | (with_reducible exact Keep.refl _ _) | (with_reducible apply State.regOp_keep m0) | dsimp only)

theorem execIminu_keep (c : Core) (a : ViArgs) (s : State) : ∃ t, execIminu c a s = .next t ∧ Keep 0x80 s t := by
  have m0 : 0x80 &&& 0x80 = 0x80 := rfl
  refine ⟨_, rfl, ?_⟩
  repeat' (first | (with_reducible exact Keep.refl _ _) | (with_reducible apply State.regOp_keep m0) | (with_reducible apply Keep.ite) | split | dsimp only)

theorem execImaxu_keep (c : Core) (a : ViArgs) (s : State) : ∃ t, execImaxu c a s = .next t ∧ Keep 0x80 s t := by
  have m0 : 0x80 &&& 0x80 = 0x80 := rfl
  refine ⟨_, rfl, ?_⟩
  repeat' (first | (with_reducible exact Keep.refl _ _) | (with_reducible apply State.regOp_keep m0) | (with_reducible apply Keep.ite) | split | dsimp only)

theorem execF2i_keep (c : Core) (a : ViArgs) (s : State) : ∃ t, execF2i c a s = .next t ∧ Keep 0x88 s t := by
  have m0 : 0x88 &&& 0x88 = 0x88 := rfl
  refine ⟨_, rfl, ?_⟩
  repeat' (first | (with_reducible exact Keep.refl _ _) | (with_reducible apply State.convOp_keep m0) | dsimp only)

theorem execI2f_keep (c : Core) (a : ViArgs) (s : State) : ∃ t, execI2f c a s = .next t ∧ Keep 0x80 s t := by
  have m0 : 0x80 &&& 0x80 = 0x80 := rfl
  refine ⟨_, rfl, ?_⟩
  repeat' (first | (with_reducible exact Keep.refl _ _) | (with_reducible apply State.regOp_keep m0) | dsimp only)

theorem execIidx_keep (c : Core) (a : ViArgs) (s : State) : ∃ t, execIidx c a s = .next t ∧ Keep 0x80 s t := by
  have m0 : 0x80 &&& 0x80 = 0x80 := rfl
  refine ⟨_, rfl, ?_⟩
  repeat' (first | (with_reducible exact Keep.refl _ _) | (with_reducible apply State.regOp_keep m0) | dsimp only)

theorem execVredAdd_keep (c : Core) (a : VredArgs) (s : State) : ∃ t, execVredAdd c a s = .next t ∧ Keep 0x80 s t := by
  have m0 : 0x80 &&& 0x80 = 0x80 := rfl
  refine ⟨_, rfl, ?_⟩
  repeat' (first | (with_reducible exact Keep.refl _ _) | (with_reducible apply State.regOp_keep m0) | dsimp only)

theorem execVredMax_keep (c : Core) (a : VredArgs) (s : State) : ∃ t, execVredMax c a s = .next t ∧ Keep 0x80 s t := by
  have m0 : 0x80 &&& 0x80 = 0x80 := rfl
  refine ⟨_, rfl, ?_⟩
  repeat' (first | (with_reducible exact Keep.refl _ _) | (with_reducible apply State.regOp_keep m0) | dsimp only)

theorem execVredMin_keep (c : Core) (a : VredArgs) (s : State) : ∃ t, execVredMin c a s = .next t ∧ Keep 0x80 s t := by
  have m0 : 0x80 &&& 0x80 = 0x80 := rfl
  refine ⟨_, rfl, ?_⟩
  repeat' (first | (with_reducible exact Keep.refl _ _) | (with_reducible apply State.regOp_keep m0) | dsimp only)

theorem execVbcast_keep (c : Core) (a : VmovArgs) (s : State) : ∃ t, execVbcast c a s = .next t ∧ Keep 0x80 s t := by
  have m0 : 0x80 &&& 0x80 = 0x80 := rfl
  refine ⟨_, rfl, ?_⟩
  repeat' (first | (with_reducible exact Keep.refl _ _) | (with_reducible apply State.regOp_keep m0) | dsimp only)

theorem execVbcastx_keep (c : Core) (a : VmovArgs) (s : State) : ∃ t, execVbcastx c a s = .next t ∧ Keep 0x80 s t := by
  have m0 : 0x80 &&& 0x80 = 0x80 := rfl
  refine ⟨_, rfl, ?_⟩
  repeat' (first | (with_reducible exact Keep.refl _ _) | (with_reducible apply State.regOp_keep m0) | dsimp only)

theorem execVext_keep (c : Core) (a : VmovArgs) (s : State) : ∃ t, execVext c a s = .next t ∧ Keep 0x80 s t := by
  have m0 : 0x80 &&& 0x80 = 0x80 := rfl
  refine ⟨_, rfl, ?_⟩
  repeat' (first | (with_reducible exact Keep.refl _ _) | (with_reducible apply State.regOp_keep m0) | dsimp only)

theorem execVins_keep (c : Core) (a : VmovArgs) (s : State) : ∃ t, execVins c a s = .next t ∧ Keep 0x80 s t := by
  have m0 : 0x80 &&& 0x80 = 0x80 := rfl
  refine ⟨_, rfl, ?_⟩
  repeat' (first | (with_reducible exact Keep.refl _ _) | (with_reducible apply State.regOp_keep m0) | dsimp only)

theorem execVmovr_keep (c : Core) (a : VmovArgs) (s : State) : ∃ t, execVmovr c a s = .next t ∧ Keep 0x80 s t := by
  have m0 : 0x80 &&& 0x80 = 0x80 := rfl
  refine ⟨_, rfl, ?_⟩
  repeat' (first | (with_reducible exact Keep.refl _ _) | (with_reducible apply State.regOp_keep m0) | dsimp only)

theorem execVperm_keep (c : Core) (a : VmovArgs) (s : State) : ∃ t, execVperm c a s = .next t ∧ Keep 0x80 s t := by
  have m0 : 0x80 &&& 0x80 = 0x80 := rfl
  refine ⟨_, rfl, ?_⟩
  repeat' (first | (with_reducible exact Keep.refl _ _) | (with_reducible apply State.regOp_keep m0) | dsimp only)

theorem execPand_keep (c : Core) (a : PrArgs) (s : State) : ∃ t, execPand c a s = .next t ∧ Keep 0x80 s t := by
  have m0 : 0x80 &&& 0x80 = 0x80 := rfl
  refine ⟨_, rfl, ?_⟩
  repeat' (first | (with_reducible exact Keep.refl _ _) | (with_reducible apply State.regOp_keep m0) | dsimp only)

theorem execPor_keep (c : Core) (a : PrArgs) (s : State) : ∃ t, execPor c a s = .next t ∧ Keep 0x80 s t := by
  have m0 : 0x80 &&& 0x80 = 0x80 := rfl
  refine ⟨_, rfl, ?_⟩
  repeat' (first | (with_reducible exact Keep.refl _ _) | (with_reducible apply State.regOp_keep m0) | dsimp only)

theorem execPxor_keep (c : Core) (a : PrArgs) (s : State) : ∃ t, execPxor c a s = .next t ∧ Keep 0x80 s t := by
  have m0 : 0x80 &&& 0x80 = 0x80 := rfl
  refine ⟨_, rfl, ?_⟩
  repeat' (first | (with_reducible exact Keep.refl _ _) | (with_reducible apply State.regOp_keep m0) | dsimp only)

theorem execPandn_keep (c : Core) (a : PrArgs) (s : State) : ∃ t, execPandn c a s = .next t ∧ Keep 0x80 s t := by
  have m0 : 0x80 &&& 0x80 = 0x80 := rfl
  refine ⟨_, rfl, ?_⟩
  repeat' (first | (with_reducible exact Keep.refl _ _) | (with_reducible apply State.regOp_keep m0) | dsimp only)

theorem execPnot_keep (c : Core) (a : PrArgs) (s : State) : ∃ t, execPnot c a s = .next t ∧ Keep 0x80 s t := by
  have m0 : 0x80 &&& 0x80 = 0x80 := rfl
  refine ⟨_, rfl, ?_⟩
  repeat' (first | (with_reducible exact Keep.refl _ _) | (with_reducible apply State.regOp_keep m0) | dsimp only)

theorem execPset_keep (c : Core) (a : PrArgs) (s : State) : ∃ t, execPset c a s = .next t ∧ Keep 0x80 s t := by
  have m0 : 0x80 &&& 0x80 = 0x80 := rfl
  refine ⟨_, rfl, ?_⟩
  repeat' (first | (with_reducible exact Keep.refl _ _) | (with_reducible apply State.regOp_keep m0) | dsimp only)

theorem execPclr_keep (c : Core) (a : PrArgs) (s : State) : ∃ t, execPclr c a s = .next t ∧ Keep 0x80 s t := by
  have m0 : 0x80 &&& 0x80 = 0x80 := rfl
  refine ⟨_, rfl, ?_⟩
  repeat' (first | (with_reducible exact Keep.refl _ _) | (with_reducible apply State.regOp_keep m0) | dsimp only)

theorem execPcount_keep (c : Core) (a : PrArgs) (s : State) : ∃ t, execPcount c a s = .next t ∧ Keep 0x80 s t := by
  have m0 : 0x80 &&& 0x80 = 0x80 := rfl
  refine ⟨_, rfl, ?_⟩
  repeat' (first | (with_reducible exact Keep.refl _ _) | (with_reducible apply State.regOp_keep m0) | dsimp only)

theorem execPtox_keep (c : Core) (a : PrArgs) (s : State) : ∃ t, execPtox c a s = .next t ∧ Keep 0x80 s t := by
  have m0 : 0x80 &&& 0x80 = 0x80 := rfl
  refine ⟨_, rfl, ?_⟩
  repeat' (first | (with_reducible exact Keep.refl _ _) | (with_reducible apply State.regOp_keep m0) | dsimp only)

theorem execPfromx_keep (c : Core) (a : PrArgs) (s : State) : ∃ t, execPfromx c a s = .next t ∧ Keep 0x80 s t := by
  have m0 : 0x80 &&& 0x80 = 0x80 := rfl
  refine ⟨_, rfl, ?_⟩
  repeat' (first | (with_reducible exact Keep.refl _ _) | (with_reducible apply State.regOp_keep m0) | dsimp only)

theorem execPfirst_keep (c : Core) (a : PrArgs) (s : State) : ∃ t, execPfirst c a s = .next t ∧ Keep 0x80 s t := by
  have m0 : 0x80 &&& 0x80 = 0x80 := rfl
  refine ⟨_, rfl, ?_⟩
  repeat' (first | (with_reducible exact Keep.refl _ _) | (with_reducible apply State.regOp_keep m0) | dsimp only)

theorem execPlt_keep (c : Core) (a : PrArgs) (s : State) : ∃ t, execPlt c a s = .next t ∧ Keep 0x80 s t := by
  have m0 : 0x80 &&& 0x80 = 0x80 := rfl
  refine ⟨_, rfl, ?_⟩
  repeat' (first | (with_reducible exact Keep.refl _ _) | (with_reducible apply State.regOp_keep m0) | dsimp only)

theorem execXrAdd_keep (c : Core) (a : XrArgs) (s : State) : ∃ t, execXrAdd c a s = .next t ∧ Keep 0x80 s t := by
  have m0 : 0x80 &&& 0x80 = 0x80 := rfl
  refine ⟨_, rfl, ?_⟩
  repeat' (first | (with_reducible exact Keep.refl _ _) | (with_reducible apply State.regOp_keep m0) | dsimp only)

theorem execXrSub_keep (c : Core) (a : XrArgs) (s : State) : ∃ t, execXrSub c a s = .next t ∧ Keep 0x80 s t := by
  have m0 : 0x80 &&& 0x80 = 0x80 := rfl
  refine ⟨_, rfl, ?_⟩
  repeat' (first | (with_reducible exact Keep.refl _ _) | (with_reducible apply State.regOp_keep m0) | dsimp only)

theorem execXrMul_keep (c : Core) (a : XrArgs) (s : State) : ∃ t, execXrMul c a s = .next t ∧ Keep 0x80 s t := by
  have m0 : 0x80 &&& 0x80 = 0x80 := rfl
  refine ⟨_, rfl, ?_⟩
  repeat' (first | (with_reducible exact Keep.refl _ _) | (with_reducible apply State.regOp_keep m0) | dsimp only)

theorem execMulhu_keep (c : Core) (a : XrArgs) (s : State) : ∃ t, execMulhu c a s = .next t ∧ Keep 0x80 s t := by
  have m0 : 0x80 &&& 0x80 = 0x80 := rfl
  refine ⟨_, rfl, ?_⟩
  repeat' (first | (with_reducible exact Keep.refl _ _) | (with_reducible apply State.regOp_keep m0) | dsimp only)

theorem execDivu_keep (c : Core) (a : XrArgs) (s : State) : ∃ t, execDivu c a s = .next t ∧ Keep 0x80 s t := by
  have m0 : 0x80 &&& 0x80 = 0x80 := rfl
  refine ⟨_, rfl, ?_⟩
  repeat' (first | (with_reducible exact Keep.refl _ _) | (with_reducible apply State.regOp_keep m0) | (with_reducible apply Keep.ite) | split | dsimp only)

theorem execRemu_keep (c : Core) (a : XrArgs) (s : State) : ∃ t, execRemu c a s = .next t ∧ Keep 0x80 s t := by
  have m0 : 0x80 &&& 0x80 = 0x80 := rfl
  refine ⟨_, rfl, ?_⟩
  repeat' (first | (with_reducible exact Keep.refl _ _) | (with_reducible apply State.regOp_keep m0) | (with_reducible apply Keep.ite) | split | dsimp only)

theorem execXrAnd_keep (c : Core) (a : XrArgs) (s : State) : ∃ t, execXrAnd c a s = .next t ∧ Keep 0x80 s t := by
  have m0 : 0x80 &&& 0x80 = 0x80 := rfl
  refine ⟨_, rfl, ?_⟩
  repeat' (first | (with_reducible exact Keep.refl _ _) | (with_reducible apply State.regOp_keep m0) | dsimp only)

theorem execXrOr_keep (c : Core) (a : XrArgs) (s : State) : ∃ t, execXrOr c a s = .next t ∧ Keep 0x80 s t := by
  have m0 : 0x80 &&& 0x80 = 0x80 := rfl
  refine ⟨_, rfl, ?_⟩
  repeat' (first | (with_reducible exact Keep.refl _ _) | (with_reducible apply State.regOp_keep m0) | dsimp only)

theorem execXrXor_keep (c : Core) (a : XrArgs) (s : State) : ∃ t, execXrXor c a s = .next t ∧ Keep 0x80 s t := by
  have m0 : 0x80 &&& 0x80 = 0x80 := rfl
  refine ⟨_, rfl, ?_⟩
  repeat' (first | (with_reducible exact Keep.refl _ _) | (with_reducible apply State.regOp_keep m0) | dsimp only)

theorem execSll_keep (c : Core) (a : XrArgs) (s : State) : ∃ t, execSll c a s = .next t ∧ Keep 0x80 s t := by
  have m0 : 0x80 &&& 0x80 = 0x80 := rfl
  refine ⟨_, rfl, ?_⟩
  repeat' (first | (with_reducible exact Keep.refl _ _) | (with_reducible apply State.regOp_keep m0) | dsimp only)

theorem execSrl_keep (c : Core) (a : XrArgs) (s : State) : ∃ t, execSrl c a s = .next t ∧ Keep 0x80 s t := by
  have m0 : 0x80 &&& 0x80 = 0x80 := rfl
  refine ⟨_, rfl, ?_⟩
  repeat' (first | (with_reducible exact Keep.refl _ _) | (with_reducible apply State.regOp_keep m0) | dsimp only)

theorem execSra_keep (c : Core) (a : XrArgs) (s : State) : ∃ t, execSra c a s = .next t ∧ Keep 0x80 s t := by
  have m0 : 0x80 &&& 0x80 = 0x80 := rfl
  refine ⟨_, rfl, ?_⟩
  repeat' (first | (with_reducible exact Keep.refl _ _) | (with_reducible apply State.regOp_keep m0) | dsimp only)

theorem execSlt_keep (c : Core) (a : XrArgs) (s : State) : ∃ t, execSlt c a s = .next t ∧ Keep 0x80 s t := by
  have m0 : 0x80 &&& 0x80 = 0x80 := rfl
  refine ⟨_, rfl, ?_⟩
  repeat' (first | (with_reducible exact Keep.refl _ _) | (with_reducible apply State.regOp_keep m0) | (with_reducible apply Keep.ite) | split | dsimp only)

theorem execSltu_keep (c : Core) (a : XrArgs) (s : State) : ∃ t, execSltu c a s = .next t ∧ Keep 0x80 s t := by
  have m0 : 0x80 &&& 0x80 = 0x80 := rfl
  refine ⟨_, rfl, ?_⟩
  repeat' (first | (with_reducible exact Keep.refl _ _) | (with_reducible apply State.regOp_keep m0) | (with_reducible apply Keep.ite) | split | dsimp only)

theorem execMinu_keep (c : Core) (a : XrArgs) (s : State) : ∃ t, execMinu c a s = .next t ∧ Keep 0x80 s t := by
  have m0 : 0x80 &&& 0x80 = 0x80 := rfl
  refine ⟨_, rfl, ?_⟩
  repeat' (first | (with_reducible exact Keep.refl _ _) | (with_reducible apply State.regOp_keep m0) | (with_reducible apply Keep.ite) | split | dsimp only)

theorem execMaxu_keep (c : Core) (a : XrArgs) (s : State) : ∃ t, execMaxu c a s = .next t ∧ Keep 0x80 s t := by
  have m0 : 0x80 &&& 0x80 = 0x80 := rfl
  refine ⟨_, rfl, ?_⟩
  repeat' (first | (with_reducible exact Keep.refl _ _) | (with_reducible apply State.regOp_keep m0) | (with_reducible apply Keep.ite) | split | dsimp only)

theorem execAddi_keep (c : Core) (a : XiArgs) (s : State) : ∃ t, execAddi c a s = .next t ∧ Keep 0x80 s t := by
  have m0 : 0x80 &&& 0x80 = 0x80 := rfl
  refine ⟨_, rfl, ?_⟩
  repeat' (first | (with_reducible exact Keep.refl _ _) | (with_reducible apply State.regOp_keep m0) | dsimp only)

theorem execAndi_keep (c : Core) (a : XiArgs) (s : State) : ∃ t, execAndi c a s = .next t ∧ Keep 0x80 s t := by
  have m0 : 0x80 &&& 0x80 = 0x80 := rfl
  refine ⟨_, rfl, ?_⟩
  repeat' (first | (with_reducible exact Keep.refl _ _) | (with_reducible apply State.regOp_keep m0) | dsimp only)

theorem execOri_keep (c : Core) (a : XiArgs) (s : State) : ∃ t, execOri c a s = .next t ∧ Keep 0x80 s t := by
  have m0 : 0x80 &&& 0x80 = 0x80 := rfl
  refine ⟨_, rfl, ?_⟩
  repeat' (first | (with_reducible exact Keep.refl _ _) | (with_reducible apply State.regOp_keep m0) | dsimp only)

theorem execXori_keep (c : Core) (a : XiArgs) (s : State) : ∃ t, execXori c a s = .next t ∧ Keep 0x80 s t := by
  have m0 : 0x80 &&& 0x80 = 0x80 := rfl
  refine ⟨_, rfl, ?_⟩
  repeat' (first | (with_reducible exact Keep.refl _ _) | (with_reducible apply State.regOp_keep m0) | dsimp only)

theorem execSlti_keep (c : Core) (a : XiArgs) (s : State) : ∃ t, execSlti c a s = .next t ∧ Keep 0x80 s t := by
  have m0 : 0x80 &&& 0x80 = 0x80 := rfl
  refine ⟨_, rfl, ?_⟩
  repeat' (first | (with_reducible exact Keep.refl _ _) | (with_reducible apply State.regOp_keep m0) | (with_reducible apply Keep.ite) | split | dsimp only)

theorem execSltiu_keep (c : Core) (a : XiArgs) (s : State) : ∃ t, execSltiu c a s = .next t ∧ Keep 0x80 s t := by
  have m0 : 0x80 &&& 0x80 = 0x80 := rfl
  refine ⟨_, rfl, ?_⟩
  repeat' (first | (with_reducible exact Keep.refl _ _) | (with_reducible apply State.regOp_keep m0) | (with_reducible apply Keep.ite) | split | dsimp only)

theorem execSlli_keep (c : Core) (a : XiArgs) (s : State) : ∃ t, execSlli c a s = .next t ∧ Keep 0x80 s t := by
  have m0 : 0x80 &&& 0x80 = 0x80 := rfl
  refine ⟨_, rfl, ?_⟩
  repeat' (first | (with_reducible exact Keep.refl _ _) | (with_reducible apply State.regOp_keep m0) | dsimp only)

theorem execSrli_keep (c : Core) (a : XiArgs) (s : State) : ∃ t, execSrli c a s = .next t ∧ Keep 0x80 s t := by
  have m0 : 0x80 &&& 0x80 = 0x80 := rfl
  refine ⟨_, rfl, ?_⟩
  repeat' (first | (with_reducible exact Keep.refl _ _) | (with_reducible apply State.regOp_keep m0) | dsimp only)

theorem execSrai_keep (c : Core) (a : XiArgs) (s : State) : ∃ t, execSrai c a s = .next t ∧ Keep 0x80 s t := by
  have m0 : 0x80 &&& 0x80 = 0x80 := rfl
  refine ⟨_, rfl, ?_⟩
  repeat' (first | (with_reducible exact Keep.refl _ _) | (with_reducible apply State.regOp_keep m0) | dsimp only)

theorem execLui_keep (c : Core) (xd : BitVec 5) (imm : BitVec 21) (s : State) : ∃ t, execLui c xd imm s = .next t ∧ Keep 0x80 s t := by
  have m0 : 0x80 &&& 0x80 = 0x80 := rfl
  refine ⟨_, rfl, ?_⟩
  repeat' (first | (with_reducible exact Keep.refl _ _) | (with_reducible apply State.regOp_keep m0) | dsimp only)

theorem execBr_keep (c : Core) (xa xb : BitVec 5) (cond : BitVec 3) (off : BitVec 13) (s : State) : ∃ t, execBr c xa xb cond off s = .next t ∧ Keep 0x80 s t := by
  have m0 : 0x80 &&& 0x80 = 0x80 := rfl
  refine ⟨_, rfl, ?_⟩
  repeat' (first | (with_reducible exact Keep.refl _ _) | (with_reducible apply State.jumpOp_keep m0) | (with_reducible apply Keep.ite) | split | dsimp only)

theorem execJal_keep (c : Core) (xd : BitVec 5) (off : BitVec 21) (s : State) : ∃ t, execJal c xd off s = .next t ∧ Keep 0x80 s t := by
  have m0 : 0x80 &&& 0x80 = 0x80 := rfl
  refine ⟨_, rfl, ?_⟩
  repeat' (first | (with_reducible exact Keep.refl _ _) | (with_reducible apply State.jumpOp_keep m0) | dsimp only)

theorem execJalr_keep (c : Core) (xd xa : BitVec 5) (s : State) : ∃ t, execJalr c xd xa s = .next t ∧ Keep 0xC2FD8 s t := by
  have m0 : 0xC2FD8 &&& 0xC2FD8 = 0xC2FD8 := rfl
  refine ⟨_, rfl, ?_⟩
  repeat' (first | (with_reducible exact Keep.refl _ _) | (with_reducible apply jalr_keep m0) | dsimp only)

theorem execBp_keep (c : Core) (pn : BitVec 3) (cond : BitVec 2) (off : BitVec 21) (s : State) : ∃ t, execBp c pn cond off s = .next t ∧ Keep 0x80 s t := by
  have m0 : 0x80 &&& 0x80 = 0x80 := rfl
  refine ⟨_, rfl, ?_⟩
  repeat' (first | (with_reducible exact Keep.refl _ _) | (with_reducible apply State.jumpOp_keep m0) | (with_reducible apply Keep.ite) | split | dsimp only)

theorem execFopNop_keep (c : Core) (a : FopArgs) (s : State) : ∃ t, execFopNop c a s = .next t ∧ Keep 0x80 s t := by
  have m0 : 0x80 &&& 0x80 = 0x80 := rfl
  refine ⟨_, rfl, ?_⟩
  repeat' (first | (with_reducible exact Keep.refl _ _) | (with_reducible apply State.regOp_keep m0) | dsimp only)

theorem execFopMov_keep (c : Core) (a : FopArgs) (s : State) : ∃ t, execFopMov c a s = .next t ∧ Keep 0x80 s t := by
  have m0 : 0x80 &&& 0x80 = 0x80 := rfl
  refine ⟨_, rfl, ?_⟩
  repeat' (first | (with_reducible exact Keep.refl _ _) | (with_reducible apply State.fopOp_keep m0) | dsimp only)

theorem execFopAdd_keep (c : Core) (a : FopArgs) (s : State) : ∃ t, execFopAdd c a s = .next t ∧ Keep 0x80 s t := by
  have m0 : 0x80 &&& 0x80 = 0x80 := rfl
  refine ⟨_, rfl, ?_⟩
  repeat' (first | (with_reducible exact Keep.refl _ _) | (with_reducible apply State.fopOp_keep m0) | dsimp only)

theorem execFopSub_keep (c : Core) (a : FopArgs) (s : State) : ∃ t, execFopSub c a s = .next t ∧ Keep 0x80 s t := by
  have m0 : 0x80 &&& 0x80 = 0x80 := rfl
  refine ⟨_, rfl, ?_⟩
  repeat' (first | (with_reducible exact Keep.refl _ _) | (with_reducible apply State.fopOp_keep m0) | dsimp only)

theorem execFopMul_keep (c : Core) (a : FopArgs) (s : State) : ∃ t, execFopMul c a s = .next t ∧ Keep 0x80 s t := by
  have m0 : 0x80 &&& 0x80 = 0x80 := rfl
  refine ⟨_, rfl, ?_⟩
  repeat' (first | (with_reducible exact Keep.refl _ _) | (with_reducible apply State.fopOp_keep m0) | dsimp only)

theorem execFopFma_keep (c : Core) (a : FopArgs) (s : State) : ∃ t, execFopFma c a s = .next t ∧ Keep 0x80 s t := by
  have m0 : 0x80 &&& 0x80 = 0x80 := rfl
  refine ⟨_, rfl, ?_⟩
  repeat' (first | (with_reducible exact Keep.refl _ _) | (with_reducible apply State.fopOp_keep m0) | dsimp only)

theorem execFopFms_keep (c : Core) (a : FopArgs) (s : State) : ∃ t, execFopFms c a s = .next t ∧ Keep 0x80 s t := by
  have m0 : 0x80 &&& 0x80 = 0x80 := rfl
  refine ⟨_, rfl, ?_⟩
  repeat' (first | (with_reducible exact Keep.refl _ _) | (with_reducible apply State.fopOp_keep m0) | dsimp only)

theorem execFopDiv_keep (c : Core) (a : FopArgs) (s : State) : ∃ t, execFopDiv c a s = .next t ∧ Keep 0x80 s t := by
  have m0 : 0x80 &&& 0x80 = 0x80 := rfl
  refine ⟨_, rfl, ?_⟩
  repeat' (first | (with_reducible exact Keep.refl _ _) | (with_reducible apply State.fopOp_keep m0) | dsimp only)

theorem execFopSqrt_keep (c : Core) (a : FopArgs) (s : State) : ∃ t, execFopSqrt c a s = .next t ∧ Keep 0x80 s t := by
  have m0 : 0x80 &&& 0x80 = 0x80 := rfl
  refine ⟨_, rfl, ?_⟩
  repeat' (first | (with_reducible exact Keep.refl _ _) | (with_reducible apply State.fopOp_keep m0) | dsimp only)

theorem execFopRsqrt_keep (c : Core) (a : FopArgs) (s : State) : ∃ t, execFopRsqrt c a s = .next t ∧ Keep 0x80 s t := by
  have m0 : 0x80 &&& 0x80 = 0x80 := rfl
  refine ⟨_, rfl, ?_⟩
  repeat' (first | (with_reducible exact Keep.refl _ _) | (with_reducible apply State.fopOp_keep m0) | dsimp only)

theorem execFopRcp_keep (c : Core) (a : FopArgs) (s : State) : ∃ t, execFopRcp c a s = .next t ∧ Keep 0x80 s t := by
  have m0 : 0x80 &&& 0x80 = 0x80 := rfl
  refine ⟨_, rfl, ?_⟩
  repeat' (first | (with_reducible exact Keep.refl _ _) | (with_reducible apply State.fopOp_keep m0) | dsimp only)

theorem execFopMax_keep (c : Core) (a : FopArgs) (s : State) : ∃ t, execFopMax c a s = .next t ∧ Keep 0x80 s t := by
  have m0 : 0x80 &&& 0x80 = 0x80 := rfl
  refine ⟨_, rfl, ?_⟩
  repeat' (first | (with_reducible exact Keep.refl _ _) | (with_reducible apply State.fopOp_keep m0) | dsimp only)

theorem execFopMin_keep (c : Core) (a : FopArgs) (s : State) : ∃ t, execFopMin c a s = .next t ∧ Keep 0x80 s t := by
  have m0 : 0x80 &&& 0x80 = 0x80 := rfl
  refine ⟨_, rfl, ?_⟩
  repeat' (first | (with_reducible exact Keep.refl _ _) | (with_reducible apply State.fopOp_keep m0) | dsimp only)

theorem execFopAbs_keep (c : Core) (a : FopArgs) (s : State) : ∃ t, execFopAbs c a s = .next t ∧ Keep 0x80 s t := by
  have m0 : 0x80 &&& 0x80 = 0x80 := rfl
  refine ⟨_, rfl, ?_⟩
  repeat' (first | (with_reducible exact Keep.refl _ _) | (with_reducible apply State.fopOp_keep m0) | dsimp only)

theorem execFopNeg_keep (c : Core) (a : FopArgs) (s : State) : ∃ t, execFopNeg c a s = .next t ∧ Keep 0x80 s t := by
  have m0 : 0x80 &&& 0x80 = 0x80 := rfl
  refine ⟨_, rfl, ?_⟩
  repeat' (first | (with_reducible exact Keep.refl _ _) | (with_reducible apply State.fopOp_keep m0) | dsimp only)

theorem execFopSign_keep (c : Core) (a : FopArgs) (s : State) : ∃ t, execFopSign c a s = .next t ∧ Keep 0x80 s t := by
  have m0 : 0x80 &&& 0x80 = 0x80 := rfl
  refine ⟨_, rfl, ?_⟩
  repeat' (first | (with_reducible exact Keep.refl _ _) | (with_reducible apply State.fopOp_keep m0) | dsimp only)

theorem execFopSel_keep (c : Core) (a : FopArgs) (s : State) : ∃ t, execFopSel c a s = .next t ∧ Keep 0x80 s t := by
  have m0 : 0x80 &&& 0x80 = 0x80 := rfl
  refine ⟨_, rfl, ?_⟩
  repeat' (first | (with_reducible exact Keep.refl _ _) | (with_reducible apply State.fopOp_keep m0) | dsimp only)

theorem execFopCmplt_keep (c : Core) (a : FopArgs) (s : State) : ∃ t, execFopCmplt c a s = .next t ∧ Keep 0x80 s t := by
  have m0 : 0x80 &&& 0x80 = 0x80 := rfl
  refine ⟨_, rfl, ?_⟩
  repeat' (first | (with_reducible exact Keep.refl _ _) | (with_reducible apply State.fopOp_keep m0) | dsimp only)

theorem execFopCmple_keep (c : Core) (a : FopArgs) (s : State) : ∃ t, execFopCmple c a s = .next t ∧ Keep 0x80 s t := by
  have m0 : 0x80 &&& 0x80 = 0x80 := rfl
  refine ⟨_, rfl, ?_⟩
  repeat' (first | (with_reducible exact Keep.refl _ _) | (with_reducible apply State.fopOp_keep m0) | dsimp only)

theorem execFopCmpeq_keep (c : Core) (a : FopArgs) (s : State) : ∃ t, execFopCmpeq c a s = .next t ∧ Keep 0x80 s t := by
  have m0 : 0x80 &&& 0x80 = 0x80 := rfl
  refine ⟨_, rfl, ?_⟩
  repeat' (first | (with_reducible exact Keep.refl _ _) | (with_reducible apply State.fopOp_keep m0) | dsimp only)

theorem execFopClamp_keep (c : Core) (a : FopArgs) (s : State) : ∃ t, execFopClamp c a s = .next t ∧ Keep 0x80 s t := by
  have m0 : 0x80 &&& 0x80 = 0x80 := rfl
  refine ⟨_, rfl, ?_⟩
  repeat' (first | (with_reducible exact Keep.refl _ _) | (with_reducible apply State.fopOp_keep m0) | dsimp only)

theorem execFopCvt_keep (c : Core) (a : FopArgs) (s : State) : ∃ t, execFopCvt c a s = .next t ∧ Keep 0x88 s t := by
  have m0 : 0x88 &&& 0x88 = 0x88 := rfl
  refine ⟨_, rfl, ?_⟩
  repeat' (first | (with_reducible exact Keep.refl _ _) | (with_reducible apply State.convOp_keep m0) | dsimp only)

theorem execFmvxf_keep (c : Core) (d a : BitVec 5) (s : State) : ∃ t, execFmvxf c d a s = .next t ∧ Keep 0x80 s t := by
  have m0 : 0x80 &&& 0x80 = 0x80 := rfl
  refine ⟨_, rfl, ?_⟩
  repeat' (first | (with_reducible exact Keep.refl _ _) | (with_reducible apply State.regOp_keep m0) | dsimp only)

theorem execFmvfx_keep (c : Core) (d a : BitVec 5) (s : State) : ∃ t, execFmvfx c d a s = .next t ∧ Keep 0x80 s t := by
  have m0 : 0x80 &&& 0x80 = 0x80 := rfl
  refine ⟨_, rfl, ?_⟩
  repeat' (first | (with_reducible exact Keep.refl _ _) | (with_reducible apply State.regOp_keep m0) | dsimp only)

theorem execFcvtxf_keep (c : Core) (d a : BitVec 5) (s : State) : ∃ t, execFcvtxf c d a s = .next t ∧ Keep 0x88 s t := by
  have m0 : 0x88 &&& 0x88 = 0x88 := rfl
  refine ⟨_, rfl, ?_⟩
  repeat' (first | (with_reducible exact Keep.refl _ _) | (with_reducible apply State.convOp_keep m0) | dsimp only)

theorem execFcvtfx_keep (c : Core) (d a : BitVec 5) (s : State) : ∃ t, execFcvtfx c d a s = .next t ∧ Keep 0x80 s t := by
  have m0 : 0x80 &&& 0x80 = 0x80 := rfl
  refine ⟨_, rfl, ?_⟩
  repeat' (first | (with_reducible exact Keep.refl _ _) | (with_reducible apply State.regOp_keep m0) | dsimp only)

theorem execLdx_keep (c : Core) (a : LsxArgs) (s : State) : ∃ t, execLdx c a s = .next t ∧ Keep 0xC2FD8 s t := by
  have m0 : 0xC2FD8 &&& 0xC2FD8 = 0xC2FD8 := rfl
  refine ⟨_, rfl, ?_⟩
  repeat' (first | (with_reducible exact Keep.refl _ _) | (with_reducible apply ldx_keep m0) | dsimp only)

theorem execStx_keep (c : Core) (a : LsxArgs) (s : State) : ∃ t, execStx c a s = .next t ∧ Keep 0x2E3FD8 s t := by
  have m0 : 0x2E3FD8 &&& 0x2E3FD8 = 0x2E3FD8 := rfl
  refine ⟨_, rfl, ?_⟩
  repeat' (first | (with_reducible exact Keep.refl _ _) | (with_reducible apply stx_keep m0) | dsimp only)

theorem execLdf_keep (c : Core) (a : LsfArgs) (s : State) : ∃ t, execLdf c a s = .next t ∧ Keep 0xC2FD8 s t := by
  have m0 : 0xC2FD8 &&& 0xC2FD8 = 0xC2FD8 := rfl
  refine ⟨_, rfl, ?_⟩
  repeat' (first | (with_reducible exact Keep.refl _ _) | (with_reducible apply ldf_keep m0) | dsimp only)

theorem execStf_keep (c : Core) (a : LsfArgs) (s : State) : ∃ t, execStf c a s = .next t ∧ Keep 0x2E3FD8 s t := by
  have m0 : 0x2E3FD8 &&& 0x2E3FD8 = 0x2E3FD8 := rfl
  refine ⟨_, rfl, ?_⟩
  repeat' (first | (with_reducible exact Keep.refl _ _) | (with_reducible apply stf_keep m0) | dsimp only)

theorem execVld_keep (c : Core) (a : VmemArgs) (s : State) : ∃ t, execVld c a s = .next t ∧ Keep 0xC2FD8 s t := by
  have m0 : 0xC2FD8 &&& 0xC2FD8 = 0xC2FD8 := rfl
  refine ⟨_, rfl, ?_⟩
  repeat' (first | (with_reducible exact Keep.refl _ _) | (with_reducible apply State.vloadOp_keep m0) | dsimp only)

theorem execVst_keep (c : Core) (a : VmemArgs) (s : State) : ∃ t, execVst c a s = .next t ∧ Keep 0x2E3FD8 s t := by
  have m0 : 0x2E3FD8 &&& 0x2E3FD8 = 0x2E3FD8 := rfl
  refine ⟨_, rfl, ?_⟩
  repeat' (first | (with_reducible exact Keep.refl _ _) | (with_reducible apply State.vstoreOp_keep m0) | dsimp only)

theorem execVgath_keep (c : Core) (a : VmemArgs) (s : State) : ∃ t, execVgath c a s = .next t ∧ Keep 0xC2FD8 s t := by
  have m0 : 0xC2FD8 &&& 0xC2FD8 = 0xC2FD8 := rfl
  refine ⟨_, rfl, ?_⟩
  repeat' (first | (with_reducible exact Keep.refl _ _) | (with_reducible apply State.vloadOp_keep m0) | dsimp only)

theorem execVscat_keep (c : Core) (a : VmemArgs) (s : State) : ∃ t, execVscat c a s = .next t ∧ Keep 0x2E3FD8 s t := by
  have m0 : 0x2E3FD8 &&& 0x2E3FD8 = 0x2E3FD8 := rfl
  refine ⟨_, rfl, ?_⟩
  repeat' (first | (with_reducible exact Keep.refl _ _) | (with_reducible apply State.vstoreOp_keep m0) | dsimp only)

theorem execBldb_keep (c : Core) (xd xa xs : BitVec 5) (sel : BitVec 4) (s : State) : ∃ t, execBldb c xd xa xs sel s = .next t ∧ Keep 0xC2FD8 s t := by
  have m0 : 0xC2FD8 &&& 0xC2FD8 = 0xC2FD8 := rfl
  refine ⟨_, rfl, ?_⟩
  repeat' (first | (with_reducible exact Keep.refl _ _) | (with_reducible apply bldb_keep m0) | dsimp only)

theorem execBstb_keep (c : Core) (xa xs : BitVec 5) (sel : BitVec 4) (s : State) : ∃ t, execBstb c xa xs sel s = .next t ∧ Keep 0xC2FD8 s t := by
  have m0 : 0xC2FD8 &&& 0xC2FD8 = 0xC2FD8 := rfl
  refine ⟨_, rfl, ?_⟩
  repeat' (first | (with_reducible exact Keep.refl _ _) | (with_reducible apply bstb_keep m0) | dsimp only)

theorem execInvocationDispatch_keep (ts w : U32) (s : State) : ∃ t, execInvocationDispatch ts w s = .next t ∧ Keep 0x2E3EC8 s t := by
  have m0 : 0x2E3EC8 &&& 0x2E3EC8 = 0x2E3EC8 := rfl
  refine ⟨_, rfl, ?_⟩
  repeat' (first | (with_reducible exact Keep.refl _ _) | (with_reducible apply invocationDispatch_keep m0) | dsimp only)

theorem execInvocationCommit_keep (c : Core) (s : State) : ∃ t, execInvocationCommit c s = .next t ∧ Keep 0xAEBFF8 s t := by
  have m0 : 0xAEBFF8 &&& 0xAEBFF8 = 0xAEBFF8 := rfl
  refine ⟨_, rfl, ?_⟩
  repeat' (first | (with_reducible exact Keep.refl _ _) | (with_reducible apply invocationCommit_keep m0) | dsimp only)

theorem execVcBudget_keep (c : Core) (s : State) : ∃ t, execVcBudget c s = .next t ∧ Keep 0xC2FD8 s t := by
  have m0 : 0xC2FD8 &&& 0xC2FD8 = 0xC2FD8 := rfl
  refine ⟨_, rfl, ?_⟩
  repeat' (first | (with_reducible exact Keep.refl _ _) | (with_reducible apply State.endRun_keep m0) | dsimp only)

theorem execVcParity_keep (c : Core) (unit : U8) (s : State) : ∃ t, execVcParity c unit s = .next t ∧ Keep 0x2E00C0 s t := by
  have m0 : 0x2E00C0 &&& 0x2E00C0 = 0x2E00C0 := rfl
  refine ⟨_, rfl, ?_⟩
  repeat' (first | (with_reducible exact Keep.refl _ _) | (with_reducible apply vcParity_keep m0) | dsimp only)

theorem execVcCheck_keep (c : Core) (s : State) : ∃ t, execVcCheck c s = .next t ∧ Keep 0xAEBFF8 s t := by
  have m0 : 0xAEBFF8 &&& 0xAEBFF8 = 0xAEBFF8 := rfl
  refine ⟨_, rfl, ?_⟩
  repeat' (first | (with_reducible exact Keep.refl _ _) | (with_reducible apply vcCheck_keep m0) | dsimp only)

theorem execVcLoadComplete_keep (c : Core) (s : State) : ∃ t, execVcLoadComplete c s = .next t ∧ Keep 0x2E3FD8 s t := by
  have m0 : 0x2E3FD8 &&& 0x2E3FD8 = 0x2E3FD8 := rfl
  refine ⟨_, rfl, ?_⟩
  repeat' (first | (with_reducible exact Keep.refl _ _) | (with_reducible apply vcLoadComplete_keep m0) | dsimp only)

theorem execBstbCopyComplete_keep (c : Core) (s : State) : ∃ t, execBstbCopyComplete c s = .next t ∧ Keep 0xC2FD8 s t := by
  have m0 : 0xC2FD8 &&& 0xC2FD8 = 0xC2FD8 := rfl
  refine ⟨_, rfl, ?_⟩
  repeat' (first | (with_reducible exact Keep.refl _ _) | (with_reducible apply bstbCopyComplete_keep m0) | dsimp only)

theorem execCodeSlotWrite_keep (slot : Fin 16) (bytes : List Byte) (s : State) : ∃ t, execCodeSlotWrite slot bytes s = .next t ∧ Keep 0xC0080 s t := by
  have m0 : 0xC0080 &&& 0xC0080 = 0xC0080 := rfl
  refine ⟨_, rfl, ?_⟩
  repeat' (first | (with_reducible exact Keep.refl _ _) | (with_reducible apply codeSlotWrite_keep m0) | dsimp only)

theorem execVectorEntryWrite_keep (bytes : List Byte) (s : State) : ∃ t, execVectorEntryWrite bytes s = .next t ∧ Keep 0xC0080 s t := by
  have m0 : 0xC0080 &&& 0xC0080 = 0xC0080 := rfl
  refine ⟨_, rfl, ?_⟩
  repeat' (first | (with_reducible exact Keep.refl _ _) | (with_reducible apply vectorEntryWrite_keep m0) | dsimp only)

theorem execWeightBlockSend_keep (prog : U8) (step : U32) (s : State) : ∃ t, execWeightBlockSend prog step s = .next t ∧ Keep 0xAEBF78 s t := by
  have m0 : 0xAEBF78 &&& 0xAEBF78 = 0xAEBF78 := rfl
  refine ⟨_, rfl, ?_⟩
  repeat' (first | (with_reducible exact Keep.refl _ _) | (with_reducible apply weightBlockSend_keep m0) | dsimp only)

theorem execStreamStall_keep (prog : U8) (step : U32) (port : Port) (s : State) : ∃ t, execStreamStall prog step port s = .next t ∧ Keep 0xC0100 s t := by
  have m0 : 0xC0100 &&& 0xC0100 = 0xC0100 := rfl
  refine ⟨_, rfl, ?_⟩
  repeat' (first | (with_reducible exact Keep.refl _ _) | (with_reducible apply streamStall_keep m0) | dsimp only)

theorem execPassEnd_keep (prog : U8) (step : U32) (s : State) : ∃ t, execPassEnd prog step s = .next t ∧ Keep 0x80100 s t := by
  have m0 : 0x80100 &&& 0x80100 = 0x80100 := rfl
  refine ⟨_, rfl, ?_⟩
  repeat' (first | (with_reducible exact Keep.refl _ _) | (with_reducible apply passEnd_keep m0) | dsimp only)

theorem execStreamStartAction_keep (v : U64) (s : State) : ∃ t, execStreamStartAction v s = .next t ∧ Keep 0xC0120 s t := by
  have m0 : 0xC0120 &&& 0xC0120 = 0xC0120 := rfl
  refine ⟨_, rfl, ?_⟩
  repeat' (first | (with_reducible exact Keep.refl _ _) | (with_reducible apply streamStartAction_keep m0) | dsimp only)

theorem execWeightAckTimeout_keep (prog : U8) (step : U32) (seg : U16) (blk : U32) (dest : U32) (s : State) : ∃ t, execWeightAckTimeout prog step seg blk dest s = .next t ∧ Keep 0xAEBF78 s t := by
  have m0 : 0xAEBF78 &&& 0xAEBF78 = 0xAEBF78 := rfl
  refine ⟨_, rfl, ?_⟩
  repeat' (first | (with_reducible exact Keep.refl _ _) | (with_reducible apply weightAckTimeout_keep m0) | dsimp only)

theorem execWeightBlockAckReceive_keep (port : Port) (pk : Trans) (s : State) : ∃ t, execWeightBlockAckReceive port pk s = .next t ∧ Keep 0x900 s t := by
  have m0 : 0x900 &&& 0x900 = 0x900 := rfl
  refine ⟨_, rfl, ?_⟩
  repeat' (first | (with_reducible exact Keep.refl _ _) | (with_reducible apply weightBlockAckReceive_keep m0) | dsimp only)

theorem execWeightResendReqReceive_keep (port : Port) (pk : Trans) (s : State) : ∃ t, execWeightResendReqReceive port pk s = .next t ∧ Keep 0xAEBF78 s t := by
  have m0 : 0xAEBF78 &&& 0xAEBF78 = 0xAEBF78 := rfl
  refine ⟨_, rfl, ?_⟩
  repeat' (first | (with_reducible exact Keep.refl _ _) | (with_reducible apply weightResendReqReceive_keep m0) | dsimp only)

theorem execRelayRetry_keep (prog : U8) (step : U32) (seg : U16) (blk : U32) (dest : U32) (s : State) : ∃ t, execRelayRetry prog step seg blk dest s = .next t ∧ Keep 0xAEBF78 s t := by
  have m0 : 0xAEBF78 &&& 0xAEBF78 = 0xAEBF78 := rfl
  refine ⟨_, rfl, ?_⟩
  repeat' (first | (with_reducible exact Keep.refl _ _) | (with_reducible apply relayRetry_keep m0) | dsimp only)

theorem execWeightRelay_keep (port : Port) (blk : Block) (s : State) : ∃ t, execWeightRelay port blk s = .next t ∧ Keep 0xAEBF78 s t := by
  have m0 : 0xAEBF78 &&& 0xAEBF78 = 0xAEBF78 := rfl
  refine ⟨_, rfl, ?_⟩
  repeat' (first | (with_reducible exact Keep.refl _ _) | (with_reducible apply weightRelay_keep m0) | dsimp only)

theorem execStreamProgramTableWrite_keep (bytes : List Byte) (s : State) : ∃ t, execStreamProgramTableWrite bytes s = .next t ∧ Keep 0xC0100 s t := by
  have m0 : 0xC0100 &&& 0xC0100 = 0xC0100 := rfl
  refine ⟨_, rfl, ?_⟩
  repeat' (first | (with_reducible exact Keep.refl _ _) | (with_reducible apply streamProgramTableWrite_keep m0) | dsimp only)

theorem execSegmentTableWrite_keep (bytes : List Byte) (s : State) : ∃ t, execSegmentTableWrite bytes s = .next t ∧ Keep 0xC0100 s t := by
  have m0 : 0xC0100 &&& 0xC0100 = 0xC0100 := rfl
  refine ⟨_, rfl, ?_⟩
  repeat' (first | (with_reducible exact Keep.refl _ _) | (with_reducible apply segmentTableWrite_keep m0) | dsimp only)

theorem execRemoteWrite_keep (port : Port) (pk : Trans) (s : State) : ∃ t, execRemoteWrite port pk s = .next t ∧ Keep 0xAEBF78 s t := by
  have m0 : 0xAEBF78 &&& 0xAEBF78 = 0xAEBF78 := rfl
  refine ⟨_, rfl, ?_⟩
  repeat' (first | (with_reducible exact Keep.refl _ _) | (with_reducible apply remoteWrite_keep m0) | dsimp only)

theorem execRemoteRead_keep (port : Port) (pk : Trans) (s : State) : ∃ t, execRemoteRead port pk s = .next t ∧ Keep 0xAEBF78 s t := by
  have m0 : 0xAEBF78 &&& 0xAEBF78 = 0xAEBF78 := rfl
  refine ⟨_, rfl, ?_⟩
  repeat' (first | (with_reducible exact Keep.refl _ _) | (with_reducible apply remoteRead_keep m0) | dsimp only)

theorem execRegionTableWrite_keep (bytes : List Byte) (s : State) : ∃ t, execRegionTableWrite bytes s = .next t ∧ Keep 0xC0200 s t := by
  have m0 : 0xC0200 &&& 0xC0200 = 0xC0200 := rfl
  refine ⟨_, rfl, ?_⟩
  repeat' (first | (with_reducible exact Keep.refl _ _) | (with_reducible apply regionTableWrite_keep m0) | dsimp only)

theorem execPatrolScrub_keep (tier : Tier) (errs : List (U64 × U8)) (s : State) : ∃ t, execPatrolScrub tier errs s = .next t ∧ Keep 0x2E3248 s t := by
  have m0 : 0x2E3248 &&& 0x2E3248 = 0x2E3248 := rfl
  refine ⟨_, rfl, ?_⟩
  repeat' (first | (with_reducible exact Keep.refl _ _) | (with_reducible apply patrolScrub_keep m0) | dsimp only)

theorem execFrameSend_keep (p : Port) (s : State) : ∃ t, execFrameSend p s = .next t ∧ Keep 0xCC0C00 s t := by
  have m0 : 0xCC0C00 &&& 0xCC0C00 = 0xCC0C00 := rfl
  refine ⟨_, rfl, ?_⟩
  repeat' (first | (with_reducible exact Keep.refl _ _) | (with_reducible apply frameSend_keep m0) | dsimp only)

theorem execFrameReceive_keep (p : Port) (bytes : List Byte) (s : State) : ∃ t, execFrameReceive p bytes s = .next t ∧ Keep 0x4D2F58 s t := by
  have m0 : 0x4D2F58 &&& 0x4D2F58 = 0x4D2F58 := rfl
  refine ⟨_, rfl, ?_⟩
  repeat' (first | (with_reducible exact Keep.refl _ _) | (with_reducible apply frameReceive_keep m0) | dsimp only)

theorem execNakReceive_keep (p : Port) (ack : BitVec 12) (s : State) : ∃ t, execNakReceive p ack s = .next t ∧ Keep 0x4C0400 s t := by
  have m0 : 0x4C0400 &&& 0x4C0400 = 0x4C0400 := rfl
  refine ⟨_, rfl, ?_⟩
  repeat' (first | (with_reducible exact Keep.refl _ _) | (with_reducible apply nakReceive_keep m0) | dsimp only)

theorem execNakRepeat_keep (p : Port) (s : State) : ∃ t, execNakRepeat p s = .next t ∧ Keep 0x400 s t := by
  have m0 : 0x400 &&& 0x400 = 0x400 := rfl
  refine ⟨_, rfl, ?_⟩
  repeat' (first | (with_reducible exact Keep.refl _ _) | (with_reducible apply nakRepeat_keep m0) | dsimp only)

theorem execNakEscalation_keep (p : Port) (s : State) : ∃ t, execNakEscalation p s = .next t ∧ Keep 0xC0400 s t := by
  have m0 : 0xC0400 &&& 0xC0400 = 0xC0400 := rfl
  refine ⟨_, rfl, ?_⟩
  repeat' (first | (with_reducible exact Keep.refl _ _) | (with_reducible apply nakEscalation_keep m0) | dsimp only)

theorem execLinkFailed_keep (p : Port) (s : State) : ∃ t, execLinkFailed p s = .next t ∧ Keep 0x2F0C00 s t := by
  have m0 : 0x2F0C00 &&& 0x2F0C00 = 0x2F0C00 := rfl
  refine ⟨_, rfl, ?_⟩
  repeat' (first | (with_reducible exact Keep.refl _ _) | (with_reducible apply linkFailed_keep m0) | dsimp only)

theorem execFecLock_keep (p : Port) (s : State) : ∃ t, execFecLock p s = .next t ∧ Keep 0x400 s t := by
  have m0 : 0x400 &&& 0x400 = 0x400 := rfl
  refine ⟨_, rfl, ?_⟩
  repeat' (first | (with_reducible exact Keep.refl _ _) | (with_reducible apply fecLock_keep m0) | dsimp only)

theorem execTrainingDeadlineMiss_keep (p : Port) (s : State) : ∃ t, execTrainingDeadlineMiss p s = .next t ∧ Keep 0x400 s t := by
  have m0 : 0x400 &&& 0x400 = 0x400 := rfl
  refine ⟨_, rfl, ?_⟩
  repeat' (first | (with_reducible exact Keep.refl _ _) | (with_reducible apply trainingDeadlineMiss_keep m0) | dsimp only)

theorem execPortResumeRetrain_keep (p : Port) (s : State) : ∃ t, execPortResumeRetrain p s = .next t ∧ Keep 0x400 s t := by
  have m0 : 0x400 &&& 0x400 = 0x400 := rfl
  refine ⟨_, rfl, ?_⟩
  repeat' (first | (with_reducible exact Keep.refl _ _) | (with_reducible apply State.portAction_keep m0) | dsimp only)

theorem execPortFreshTraining_keep (p : Port) (s : State) : ∃ t, execPortFreshTraining p s = .next t ∧ Keep 0x400 s t := by
  have m0 : 0x400 &&& 0x400 = 0x400 := rfl
  refine ⟨_, rfl, ?_⟩
  repeat' (first | (with_reducible exact Keep.refl _ _) | (with_reducible apply State.portAction_keep m0) | dsimp only)

theorem execPortEnable_keep (p : Port) (s : State) : ∃ t, execPortEnable p s = .next t ∧ Keep 0x400 s t := by
  have m0 : 0x400 &&& 0x400 = 0x400 := rfl
  refine ⟨_, rfl, ?_⟩
  repeat' (first | (with_reducible exact Keep.refl _ _) | (with_reducible apply State.portAction_keep m0) | dsimp only)

theorem execPortDisable_keep (p : Port) (s : State) : ∃ t, execPortDisable p s = .next t ∧ Keep 0x400 s t := by
  have m0 : 0x400 &&& 0x400 = 0x400 := rfl
  refine ⟨_, rfl, ?_⟩
  repeat' (first | (with_reducible exact Keep.refl _ _) | (with_reducible apply portDisable_keep m0) | dsimp only)

theorem execPacketReceive_keep (p : Port) (vc : BitVec 3) (bytes : List Byte) (s : State) : ∃ t, execPacketReceive p vc bytes s = .next t ∧ Keep 0x4D0C08 s t := by
  have m0 : 0x4D0C08 &&& 0x4D0C08 = 0x4D0C08 := rfl
  refine ⟨_, rfl, ?_⟩
  repeat' (first | (with_reducible exact Keep.refl _ _) | (with_reducible apply packetReceive_keep m0) | dsimp only)

theorem execHeartbeatSend_keep (p : Port) (s : State) : ∃ t, execHeartbeatSend p s = .next t ∧ Keep 0xC8C00 s t := by
  have m0 : 0xC8C00 &&& 0xC8C00 = 0xC8C00 := rfl
  refine ⟨_, rfl, ?_⟩
  repeat' (first | (with_reducible exact Keep.refl _ _) | (with_reducible apply heartbeatSend_keep m0) | dsimp only)

theorem execHeartbeatReceive_keep (p : Port) (pk : Trans) (s : State) : ∃ t, execHeartbeatReceive p pk s = .next t ∧ Keep 0x4C8C00 s t := by
  have m0 : 0x4C8C00 &&& 0x4C8C00 = 0x4C8C00 := rfl
  refine ⟨_, rfl, ?_⟩
  repeat' (first | (with_reducible exact Keep.refl _ _) | (with_reducible apply heartbeatReceive_keep m0) | dsimp only)

theorem execHeartbeatLate_keep (p : Port) (s : State) : ∃ t, execHeartbeatLate p s = .next t ∧ Keep 0x4C0000 s t := by
  have m0 : 0x4C0000 &&& 0x4C0000 = 0x4C0000 := rfl
  refine ⟨_, rfl, ?_⟩
  repeat' (first | (with_reducible exact Keep.refl _ _) | (with_reducible apply State.exerCheck_keep m0) | dsimp only)

theorem execMarkLate_keep (p : Port) (s : State) : ∃ t, execMarkLate p s = .next t ∧ Keep 0x4C0000 s t := by
  have m0 : 0x4C0000 &&& 0x4C0000 = 0x4C0000 := rfl
  refine ⟨_, rfl, ?_⟩
  repeat' (first | (with_reducible exact Keep.refl _ _) | (with_reducible apply State.exerCheck_keep m0) | dsimp only)

theorem execReplayLate_keep (p : Port) (s : State) : ∃ t, execReplayLate p s = .next t ∧ Keep 0x4C0000 s t := by
  have m0 : 0x4C0000 &&& 0x4C0000 = 0x4C0000 := rfl
  refine ⟨_, rfl, ?_⟩
  repeat' (first | (with_reducible exact Keep.refl _ _) | (with_reducible apply replayLate_keep m0) | dsimp only)

theorem execIdentReceive_keep (p : Port) (pk : Trans) (s : State) : ∃ t, execIdentReceive p pk s = .next t ∧ Keep 0x4D2F58 s t := by
  have m0 : 0x4D2F58 &&& 0x4D2F58 = 0x4D2F58 := rfl
  refine ⟨_, rfl, ?_⟩
  repeat' (first | (with_reducible exact Keep.refl _ _) | (with_reducible apply identReceive_keep m0) | dsimp only)

theorem execAgentNoResend_keep (p : Port) (ts blk : U32) (s : State) : ∃ t, execAgentNoResend p ts blk s = .next t ∧ Keep 0xC0C00 s t := by
  have m0 : 0xC0C00 &&& 0xC0C00 = 0xC0C00 := rfl
  refine ⟨_, rfl, ?_⟩
  repeat' (first | (with_reducible exact Keep.refl _ _) | (with_reducible apply agentNoResend_keep m0) | dsimp only)

theorem execAgentQuarantine_keep (p : Port) (s : State) : ∃ t, execAgentQuarantine p s = .next t ∧ Keep 0xD2F58 s t := by
  have m0 : 0xD2F58 &&& 0xD2F58 = 0xD2F58 := rfl
  refine ⟨_, rfl, ?_⟩
  repeat' (first | (with_reducible exact Keep.refl _ _) | (with_reducible apply agentQuarantine_keep m0) | dsimp only)

theorem execMarkSend_keep (p : Port) (s : State) : ∃ t, execMarkSend p s = .next t ∧ Keep 0xC2F58 s t := by
  have m0 : 0xC2F58 &&& 0xC2F58 = 0xC2F58 := rfl
  refine ⟨_, rfl, ?_⟩
  repeat' (first | (with_reducible exact Keep.refl _ _) | (with_reducible apply markSend_keep m0) | dsimp only)

theorem execMarkReceive_keep (port : Port) (pk : Trans) (s : State) : ∃ t, execMarkReceive port pk s = .next t ∧ Keep 0x40C00 s t := by
  have m0 : 0x40C00 &&& 0x40C00 = 0x40C00 := rfl
  refine ⟨_, rfl, ?_⟩
  repeat' (first | (with_reducible exact Keep.refl _ _) | (with_reducible apply markReceive_keep m0) | dsimp only)

theorem execInternalMark_keep (s : State) : ∃ t, execInternalMark s = .next t ∧ Keep 0x40000 s t := by
  have m0 : 0x40000 &&& 0x40000 = 0x40000 := rfl
  refine ⟨_, rfl, ?_⟩
  repeat' (first | (with_reducible exact Keep.refl _ _) | (with_reducible apply internalMark_keep m0) | dsimp only)

theorem execWiringMapWrite_keep (bytes : List Byte) (s : State) : ∃ t, execWiringMapWrite bytes s = .next t ∧ Keep 0xC0800 s t := by
  have m0 : 0xC0800 &&& 0xC0800 = 0xC0800 := rfl
  refine ⟨_, rfl, ?_⟩
  repeat' (first | (with_reducible exact Keep.refl _ _) | (with_reducible apply wiringMapWrite_keep m0) | dsimp only)

theorem execShadowBankWrite_keep (bytes : List Byte) (s : State) : ∃ t, execShadowBankWrite bytes s = .next t ∧ Keep 0xC0800 s t := by
  have m0 : 0xC0800 &&& 0xC0800 = 0xC0800 := rfl
  refine ⟨_, rfl, ?_⟩
  repeat' (first | (with_reducible exact Keep.refl _ _) | (with_reducible apply shadowBankWrite_keep m0) | dsimp only)

theorem execBankSwitchNow_keep (s : State) : ∃ t, execBankSwitchNow s = .next t ∧ Keep 0xD0800 s t := by
  have m0 : 0xD0800 &&& 0xD0800 = 0xD0800 := rfl
  refine ⟨_, rfl, ?_⟩
  repeat' (first | (with_reducible exact Keep.refl _ _) | (with_reducible apply bankSwitchNow_keep m0) | dsimp only)

theorem execBankSwitchPending_keep (v : U32) (s : State) : ∃ t, execBankSwitchPending v s = .next t ∧ Keep 0xD0800 s t := by
  have m0 : 0xD0800 &&& 0xD0800 = 0xD0800 := rfl
  refine ⟨_, rfl, ?_⟩
  repeat' (first | (with_reducible exact Keep.refl _ _) | (with_reducible apply bankSwitchPending_keep m0) | dsimp only)

theorem execSubstitutionTableWrite_keep (bytes : List Byte) (s : State) : ∃ t, execSubstitutionTableWrite bytes s = .next t ∧ Keep 0xC0800 s t := by
  have m0 : 0xC0800 &&& 0xC0800 = 0xC0800 := rfl
  refine ⟨_, rfl, ?_⟩
  repeat' (first | (with_reducible exact Keep.refl _ _) | (with_reducible apply substitutionTableWrite_keep m0) | dsimp only)

theorem execForwardAfterWait_keep (p : Port) (s : State) : ∃ t, execForwardAfterWait p s = .next t ∧ Keep 0xC0C00 s t := by
  have m0 : 0xC0C00 &&& 0xC0C00 = 0xC0C00 := rfl
  refine ⟨_, rfl, ?_⟩
  repeat' (first | (with_reducible exact Keep.refl _ _) | (with_reducible apply forwardAfterWait_keep m0) | dsimp only)

theorem execTransitExpired_keep (s : State) : ∃ t, execTransitExpired s = .next t ∧ Keep 0xC0C00 s t := by
  have m0 : 0xC0C00 &&& 0xC0C00 = 0xC0C00 := rfl
  refine ⟨_, rfl, ?_⟩
  repeat' (first | (with_reducible exact Keep.refl _ _) | (with_reducible apply transitExpired_keep m0) | dsimp only)

theorem execCircuitPrepare_keep (n : Circ) (bytes : List Byte) (s : State) : ∃ t, execCircuitPrepare n bytes s = .next t ∧ Keep 0xC0C00 s t := by
  have m0 : 0xC0C00 &&& 0xC0C00 = 0xC0C00 := rfl
  refine ⟨_, rfl, ?_⟩
  repeat' (first | (with_reducible exact Keep.refl _ _) | (with_reducible apply circuitPrepare_keep m0) | dsimp only)

theorem execCircuitSwitched_keep (n : Circ) (bytes : List Byte) (s : State) : ∃ t, execCircuitSwitched n bytes s = .next t ∧ Keep 0xC0C00 s t := by
  have m0 : 0xC0C00 &&& 0xC0C00 = 0xC0C00 := rfl
  refine ⟨_, rfl, ?_⟩
  repeat' (first | (with_reducible exact Keep.refl _ _) | (with_reducible apply circuitSwitched_keep m0) | dsimp only)

theorem execCircuitRelease_keep (n : Circ) (bytes : List Byte) (s : State) : ∃ t, execCircuitRelease n bytes s = .next t ∧ Keep 0xC0C00 s t := by
  have m0 : 0xC0C00 &&& 0xC0C00 = 0xC0C00 := rfl
  refine ⟨_, rfl, ?_⟩
  repeat' (first | (with_reducible exact Keep.refl _ _) | (with_reducible apply circuitRelease_keep m0) | dsimp only)

theorem execCircuitDrained_keep (n : Circ) (s : State) : ∃ t, execCircuitDrained n s = .next t ∧ Keep 0xC0C00 s t := by
  have m0 : 0xC0C00 &&& 0xC0C00 = 0xC0C00 := rfl
  refine ⟨_, rfl, ?_⟩
  repeat' (first | (with_reducible exact Keep.refl _ _) | (with_reducible apply circuitDrained_keep m0) | dsimp only)

theorem execCircuitDrainTimeout_keep (n : Circ) (s : State) : ∃ t, execCircuitDrainTimeout n s = .next t ∧ Keep 0xC0C00 s t := by
  have m0 : 0xC0C00 &&& 0xC0C00 = 0xC0C00 := rfl
  refine ⟨_, rfl, ?_⟩
  repeat' (first | (with_reducible exact Keep.refl _ _) | (with_reducible apply circuitDrainTimeout_keep m0) | dsimp only)

theorem execPartnerConfigWrite_keep (sub : U8) (bytes : List Byte) (s : State) : ∃ t, execPartnerConfigWrite sub bytes s = .next t ∧ Keep 0xC1C00 s t := by
  have m0 : 0xC1C00 &&& 0xC1C00 = 0xC1C00 := rfl
  refine ⟨_, rfl, ?_⟩
  repeat' (first | (with_reducible exact Keep.refl _ _) | (with_reducible apply partnerConfigWrite_keep m0) | dsimp only)

theorem execPairReqReceive_keep (port : Port) (pk : Trans) (s : State) : ∃ t, execPairReqReceive port pk s = .next t ∧ Keep 0xC0E00 s t := by
  have m0 : 0xC0E00 &&& 0xC0E00 = 0xC0E00 := rfl
  refine ⟨_, rfl, ?_⟩
  repeat' (first | (with_reducible exact Keep.refl _ _) | (with_reducible apply pairReqReceive_keep m0) | dsimp only)

theorem execPairAckReceive_keep (port : Port) (pk : Trans) (s : State) : ∃ t, execPairAckReceive port pk s = .next t ∧ Keep 0xC1800 s t := by
  have m0 : 0xC1800 &&& 0xC1800 = 0xC1800 := rfl
  refine ⟨_, rfl, ?_⟩
  repeat' (first | (with_reducible exact Keep.refl _ _) | (with_reducible apply pairAckReceive_keep m0) | dsimp only)

theorem execPairRefuseReceive_keep (port : Port) (pk : Trans) (s : State) : ∃ t, execPairRefuseReceive port pk s = .next t ∧ Keep 0xC1800 s t := by
  have m0 : 0xC1800 &&& 0xC1800 = 0xC1800 := rfl
  refine ⟨_, rfl, ?_⟩
  repeat' (first | (with_reducible exact Keep.refl _ _) | (with_reducible apply pairRefuseReceive_keep m0) | dsimp only)

theorem execPairTimeout_keep (s : State) : ∃ t, execPairTimeout s = .next t ∧ Keep 0xC1000 s t := by
  have m0 : 0xC1000 &&& 0xC1000 = 0xC1000 := rfl
  refine ⟨_, rfl, ?_⟩
  repeat' (first | (with_reducible exact Keep.refl _ _) | (with_reducible apply pairTimeout_keep m0) | dsimp only)

theorem execPairRetry_keep (s : State) : ∃ t, execPairRetry s = .next t ∧ Keep 0xC1C00 s t := by
  have m0 : 0xC1C00 &&& 0xC1C00 = 0xC1C00 := rfl
  refine ⟨_, rfl, ?_⟩
  repeat' (first | (with_reducible exact Keep.refl _ _) | (with_reducible apply pairRetry_keep m0) | dsimp only)

theorem execClassChangeAction_keep (bytes : List Byte) (s : State) : ∃ t, execClassChangeAction bytes s = .next t ∧ Keep 0xC1000 s t := by
  have m0 : 0xC1000 &&& 0xC1000 = 0xC1000 := rfl
  refine ⟨_, rfl, ?_⟩
  repeat' (first | (with_reducible exact Keep.refl _ _) | (with_reducible apply classChangeAction_keep m0) | dsimp only)

theorem execReplayGReceive_keep (port : Port) (blk : Block) (s : State) : ∃ t, execReplayGReceive port blk s = .next t ∧ Keep 0x2EBE68 s t := by
  have m0 : 0x2EBE68 &&& 0x2EBE68 = 0x2EBE68 := rfl
  refine ⟨_, rfl, ?_⟩
  repeat' (first | (with_reducible exact Keep.refl _ _) | (with_reducible apply replayGReceive_keep m0) | dsimp only)

theorem execWindowRecordReceive_keep (port : Port) (pk : Trans) (s : State) : ∃ t, execWindowRecordReceive port pk s = .next t ∧ Keep 0x2EBE68 s t := by
  have m0 : 0x2EBE68 &&& 0x2EBE68 = 0x2EBE68 := rfl
  refine ⟨_, rfl, ?_⟩
  repeat' (first | (with_reducible exact Keep.refl _ _) | (with_reducible apply windowRecordReceive_keep m0) | dsimp only)

theorem execSkipRecordReceive_keep (port : Port) (pk : Trans) (s : State) : ∃ t, execSkipRecordReceive port pk s = .next t ∧ Keep 0x2EBE68 s t := by
  have m0 : 0x2EBE68 &&& 0x2EBE68 = 0x2EBE68 := rfl
  refine ⟨_, rfl, ?_⟩
  repeat' (first | (with_reducible exact Keep.refl _ _) | (with_reducible apply skipRecordReceive_keep m0) | dsimp only)

theorem execSyncRecordReceive_keep (port : Port) (pk : Trans) (s : State) : ∃ t, execSyncRecordReceive port pk s = .next t ∧ Keep 0xC9C60 s t := by
  have m0 : 0xC9C60 &&& 0xC9C60 = 0xC9C60 := rfl
  refine ⟨_, rfl, ?_⟩
  repeat' (first | (with_reducible exact Keep.refl _ _) | (with_reducible apply syncRecordReceive_keep m0) | dsimp only)

theorem execDropRecordReceive_keep (port : Port) (pk : Trans) (s : State) : ∃ t, execDropRecordReceive port pk s = .next t ∧ Keep 0xC1C60 s t := by
  have m0 : 0xC1C60 &&& 0xC1C60 = 0xC1C60 := rfl
  refine ⟨_, rfl, ?_⟩
  repeat' (first | (with_reducible exact Keep.refl _ _) | (with_reducible apply dropRecordReceive_keep m0) | dsimp only)

theorem execReplicaWindowSettle_keep (ts : U32) (w : U32) (s : State) : ∃ t, execReplicaWindowSettle ts w s = .next t ∧ Keep 0xAEBE48 s t := by
  have m0 : 0xAEBE48 &&& 0xAEBE48 = 0xAEBE48 := rfl
  refine ⟨_, rfl, ?_⟩
  repeat' (first | (with_reducible exact Keep.refl _ _) | (with_reducible apply replicaWindowSettle_keep m0) | dsimp only)

theorem execVerdictReceive_keep (port : Port) (pk : Trans) (s : State) : ∃ t, execVerdictReceive port pk s = .next t ∧ Keep 0x2E3F78 s t := by
  have m0 : 0x2E3F78 &&& 0x2E3F78 = 0x2E3F78 := rfl
  refine ⟨_, rfl, ?_⟩
  repeat' (first | (with_reducible exact Keep.refl _ _) | (with_reducible apply verdictReceive_keep m0) | dsimp only)

theorem execMirrorPReceive_keep (port : Port) (blk : Block) (s : State) : ∃ t, execMirrorPReceive port blk s = .next t ∧ Keep 0x2EBE68 s t := by
  have m0 : 0x2EBE68 &&& 0x2EBE68 = 0x2EBE68 := rfl
  refine ⟨_, rfl, ?_⟩
  repeat' (first | (with_reducible exact Keep.refl _ _) | (with_reducible apply mirrorPReceive_keep m0) | dsimp only)

theorem execPartnerBlockAckReceive_keep (port : Port) (pk : Trans) (s : State) : ∃ t, execPartnerBlockAckReceive port pk s = .next t ∧ Keep 0x2EBF58 s t := by
  have m0 : 0x2EBF58 &&& 0x2EBF58 = 0x2EBF58 := rfl
  refine ⟨_, rfl, ?_⟩
  repeat' (first | (with_reducible exact Keep.refl _ _) | (with_reducible apply partnerBlockAckReceive_keep m0) | dsimp only)

theorem execPartnerResend_keep (n : Nat) (s : State) : ∃ t, execPartnerResend n s = .next t ∧ Keep 0xC1C00 s t := by
  have m0 : 0xC1C00 &&& 0xC1C00 = 0xC1C00 := rfl
  refine ⟨_, rfl, ?_⟩
  repeat' (first | (with_reducible exact Keep.refl _ _) | (with_reducible apply partnerResend_keep m0) | dsimp only)

theorem execOwnerDigestReceive_keep (port : Port) (pk : Trans) (s : State) : ∃ t, execOwnerDigestReceive port pk s = .next t ∧ Keep 0xC9C60 s t := by
  have m0 : 0xC9C60 &&& 0xC9C60 = 0xC9C60 := rfl
  refine ⟨_, rfl, ?_⟩
  repeat' (first | (with_reducible exact Keep.refl _ _) | (with_reducible apply ownerDigestReceive_keep m0) | dsimp only)

theorem execDigestTimeout_keep (ts : U32) (s : State) : ∃ t, execDigestTimeout ts s = .next t ∧ Keep 0xC1C40 s t := by
  have m0 : 0xC1C40 &&& 0xC1C40 = 0xC1C40 := rfl
  refine ⟨_, rfl, ?_⟩
  repeat' (first | (with_reducible exact Keep.refl _ _) | (with_reducible apply digestTimeout_keep m0) | dsimp only)

theorem execReplicaDigestReceive_keep (port : Port) (pk : Trans) (s : State) : ∃ t, execReplicaDigestReceive port pk s = .next t ∧ Keep 0xC3F78 s t := by
  have m0 : 0xC3F78 &&& 0xC3F78 = 0xC3F78 := rfl
  refine ⟨_, rfl, ?_⟩
  repeat' (first | (with_reducible exact Keep.refl _ _) | (with_reducible apply replicaDigestReceive_keep m0) | dsimp only)

theorem execMoverStart_keep (c : Chan) (s : State) : ∃ t, execMoverStart c s = .next t ∧ Keep 0xC4C00 s t := by
  have m0 : 0xC4C00 &&& 0xC4C00 = 0xC4C00 := rfl
  refine ⟨_, rfl, ?_⟩
  repeat' (first | (with_reducible exact Keep.refl _ _) | (with_reducible apply moverStart_keep m0) | dsimp only)

theorem execMoverAbort_keep (c : Chan) (s : State) : ∃ t, execMoverAbort c s = .next t ∧ Keep 0xC4C00 s t := by
  have m0 : 0xC4C00 &&& 0xC4C00 = 0xC4C00 := rfl
  refine ⟨_, rfl, ?_⟩
  repeat' (first | (with_reducible exact Keep.refl _ _) | (with_reducible apply State.abortChan_keep m0) | dsimp only)

theorem execMoverPause_keep (c : Chan) (s : State) : ∃ t, execMoverPause c s = .next t ∧ Keep 0x4000 s t := by
  have m0 : 0x4000 &&& 0x4000 = 0x4000 := rfl
  refine ⟨_, rfl, ?_⟩
  repeat' (first | (with_reducible exact Keep.refl _ _) | (with_reducible apply moverPause_keep m0) | dsimp only)

theorem execMoverResume_keep (c : Chan) (s : State) : ∃ t, execMoverResume c s = .next t ∧ Keep 0xC4C00 s t := by
  have m0 : 0xC4C00 &&& 0xC4C00 = 0xC4C00 := rfl
  refine ⟨_, rfl, ?_⟩
  repeat' (first | (with_reducible exact Keep.refl _ _) | (with_reducible apply moverResume_keep m0) | dsimp only)

theorem execMoverTimerTick_keep (c : Chan) (s : State) : ∃ t, execMoverTimerTick c s = .next t ∧ Keep 0xC4C00 s t := by
  have m0 : 0xC4C00 &&& 0xC4C00 = 0xC4C00 := rfl
  refine ⟨_, rfl, ?_⟩
  repeat' (first | (with_reducible exact Keep.refl _ _) | (with_reducible apply moverTimerTick_keep m0) | dsimp only)

theorem execMoverReadComplete_keep (c : Chan) (r : MoverRead) (s : State) : ∃ t, execMoverReadComplete c r s = .next t ∧ Keep 0x2E7E48 s t := by
  have m0 : 0x2E7E48 &&& 0x2E7E48 = 0x2E7E48 := rfl
  refine ⟨_, rfl, ?_⟩
  repeat' (first | (with_reducible exact Keep.refl _ _) | (with_reducible apply moverReadComplete_keep m0) | dsimp only)

theorem execMoverPassEnd_keep (c : Chan) (s : State) : ∃ t, execMoverPassEnd c s = .next t ∧ Keep 0xC4C00 s t := by
  have m0 : 0xC4C00 &&& 0xC4C00 = 0xC4C00 := rfl
  refine ⟨_, rfl, ?_⟩
  repeat' (first | (with_reducible exact Keep.refl _ _) | (with_reducible apply moverPassEnd_keep m0) | dsimp only)

theorem execMoverRemoteTimeout_keep (c : Chan) (s : State) : ∃ t, execMoverRemoteTimeout c s = .next t ∧ Keep 0xC4C00 s t := by
  have m0 : 0xC4C00 &&& 0xC4C00 = 0xC4C00 := rfl
  refine ⟨_, rfl, ?_⟩
  repeat' (first | (with_reducible exact Keep.refl _ _) | (with_reducible apply moverRemoteTimeout_keep m0) | dsimp only)

theorem execGroupStart_keep (g : U8) (s : State) : ∃ t, execGroupStart g s = .next t ∧ Keep 0xC4C00 s t := by
  have m0 : 0xC4C00 &&& 0xC4C00 = 0xC4C00 := rfl
  refine ⟨_, rfl, ?_⟩
  repeat' (first | (with_reducible exact Keep.refl _ _) | (with_reducible apply groupStart_keep m0) | dsimp only)

theorem execGroupRetry_keep (g : U8) (s : State) : ∃ t, execGroupRetry g s = .next t ∧ Keep 0xC4C00 s t := by
  have m0 : 0xC4C00 &&& 0xC4C00 = 0xC4C00 := rfl
  refine ⟨_, rfl, ?_⟩
  repeat' (first | (with_reducible exact Keep.refl _ _) | (with_reducible apply groupRetry_keep m0) | dsimp only)

theorem execGroupAbort_keep (g : U8) (s : State) : ∃ t, execGroupAbort g s = .next t ∧ Keep 0xC4C00 s t := by
  have m0 : 0xC4C00 &&& 0xC4C00 = 0xC4C00 := rfl
  refine ⟨_, rfl, ?_⟩
  repeat' (first | (with_reducible exact Keep.refl _ _) | (with_reducible apply groupAbort_keep m0) | dsimp only)

theorem execMoverReconcile_keep (s : State) : ∃ t, execMoverReconcile s = .next t ∧ Keep 0xC8000 s t := by
  have m0 : 0xC8000 &&& 0xC8000 = 0xC8000 := rfl
  refine ⟨_, rfl, ?_⟩
  repeat' (first | (with_reducible exact Keep.refl _ _) | (with_reducible apply moverReconcile_keep m0) | dsimp only)

theorem execAdjournmentConfigWrite_keep (sub : U8) (v : U32) (s : State) : ∃ t, execAdjournmentConfigWrite sub v s = .next t ∧ Keep 0xC2000 s t := by
  have m0 : 0xC2000 &&& 0xC2000 = 0xC2000 := rfl
  refine ⟨_, rfl, ?_⟩
  repeat' (first | (with_reducible exact Keep.refl _ _) | (with_reducible apply adjournmentConfigWrite_keep m0) | dsimp only)

theorem execCopyStart_keep (s : State) : ∃ t, execCopyStart s = .next t ∧ Keep 0xC6000 s t := by
  have m0 : 0xC6000 &&& 0xC6000 = 0xC6000 := rfl
  refine ⟨_, rfl, ?_⟩
  repeat' (first | (with_reducible exact Keep.refl _ _) | (with_reducible apply copyStart_keep m0) | dsimp only)

theorem execPageCopyAhead_keep (addr : U64) (s : State) : ∃ t, execPageCopyAhead addr s = .next t ∧ Keep 0x2E3248 s t := by
  have m0 : 0x2E3248 &&& 0x2E3248 = 0x2E3248 := rfl
  refine ⟨_, rfl, ?_⟩
  repeat' (first | (with_reducible exact Keep.refl _ _) | (with_reducible apply pageCopyAhead_keep m0) | dsimp only)

theorem execCopyEnd_keep (s : State) : ∃ t, execCopyEnd s = .next t ∧ Keep 0x2E7E48 s t := by
  have m0 : 0x2E7E48 &&& 0x2E7E48 = 0x2E7E48 := rfl
  refine ⟨_, rfl, ?_⟩
  repeat' (first | (with_reducible exact Keep.refl _ _) | (with_reducible apply copyEnd_keep m0) | dsimp only)

theorem execChunkStart_keep (s : State) : ∃ t, execChunkStart s = .next t ∧ Keep 0xAEBE68 s t := by
  have m0 : 0xAEBE68 &&& 0xAEBE68 = 0xAEBE68 := rfl
  refine ⟨_, rfl, ?_⟩
  repeat' (first | (with_reducible exact Keep.refl _ _) | (with_reducible apply chunkStart_keep m0) | dsimp only)

theorem execChunkProgrammed_keep (ok : Bool) (s : State) : ∃ t, execChunkProgrammed ok s = .next t ∧ Keep 0xAEAC60 s t := by
  have m0 : 0xAEAC60 &&& 0xAEAC60 = 0xAEAC60 := rfl
  refine ⟨_, rfl, ?_⟩
  repeat' (first | (with_reducible exact Keep.refl _ _) | (with_reducible apply chunkProgrammed_keep m0) | dsimp only)

theorem execStorePartSend_keep (s : State) : ∃ t, execStorePartSend s = .next t ∧ Keep 0x8C2C00 s t := by
  have m0 : 0x8C2C00 &&& 0x8C2C00 = 0x8C2C00 := rfl
  refine ⟨_, rfl, ?_⟩
  repeat' (first | (with_reducible exact Keep.refl _ _) | (with_reducible apply storePartSend_keep m0) | dsimp only)

theorem execStorePartAckReceive_keep (port : Port) (pk : Trans) (s : State) : ∃ t, execStorePartAckReceive port pk s = .next t ∧ Keep 0xC2C00 s t := by
  have m0 : 0xC2C00 &&& 0xC2C00 = 0xC2C00 := rfl
  refine ⟨_, rfl, ?_⟩
  repeat' (first | (with_reducible exact Keep.refl _ _) | (with_reducible apply storePartAckReceive_keep m0) | dsimp only)

theorem execStorePartRefusalReceive_keep (port : Port) (pk : Trans) (s : State) : ∃ t, execStorePartRefusalReceive port pk s = .next t ∧ Keep 0x8C2C00 s t := by
  have m0 : 0x8C2C00 &&& 0x8C2C00 = 0x8C2C00 := rfl
  refine ⟨_, rfl, ?_⟩
  repeat' (first | (with_reducible exact Keep.refl _ _) | (with_reducible apply storePartRefusalReceive_keep m0) | dsimp only)

theorem execStorePartTimeout_keep (part : U32) (s : State) : ∃ t, execStorePartTimeout part s = .next t ∧ Keep 0x8C2C00 s t := by
  have m0 : 0x8C2C00 &&& 0x8C2C00 = 0x8C2C00 := rfl
  refine ⟨_, rfl, ?_⟩
  repeat' (first | (with_reducible exact Keep.refl _ _) | (with_reducible apply storePartTimeout_keep m0) | dsimp only)

theorem execStoreCommitResponse_keep (port : Port) (pk : Trans) (s : State) : ∃ t, execStoreCommitResponse port pk s = .next t ∧ Keep 0x8C2C00 s t := by
  have m0 : 0x8C2C00 &&& 0x8C2C00 = 0x8C2C00 := rfl
  refine ⟨_, rfl, ?_⟩
  repeat' (first | (with_reducible exact Keep.refl _ _) | (with_reducible apply storeCommitResponse_keep m0) | dsimp only)

theorem execStoreAttemptRetry_keep (s : State) : ∃ t, execStoreAttemptRetry s = .next t ∧ Keep 0x2000 s t := by
  have m0 : 0x2000 &&& 0x2000 = 0x2000 := rfl
  refine ⟨_, rfl, ?_⟩
  repeat' (first | (with_reducible exact Keep.refl _ _) | (with_reducible apply storeAttemptRetry_keep m0) | dsimp only)

theorem execDrainFenceAction_keep (v : U64) (s : State) : ∃ t, execDrainFenceAction v s = .next t ∧ Keep 0xC2C00 s t := by
  have m0 : 0xC2C00 &&& 0xC2C00 = 0xC2C00 := rfl
  refine ⟨_, rfl, ?_⟩
  repeat' (first | (with_reducible exact Keep.refl _ _) | (with_reducible apply drainFenceAction_keep m0) | dsimp only)

theorem execDrainFenceReceive_keep (port : Port) (pk : Trans) (s : State) : ∃ t, execDrainFenceReceive port pk s = .next t ∧ Keep 0xC2C00 s t := by
  have m0 : 0xC2C00 &&& 0xC2C00 = 0xC2C00 := rfl
  refine ⟨_, rfl, ?_⟩
  repeat' (first | (with_reducible exact Keep.refl _ _) | (with_reducible apply drainFenceReceive_keep m0) | dsimp only)

theorem execDrainFenceTimeout_keep (s : State) : ∃ t, execDrainFenceTimeout s = .next t ∧ Keep 0xC2C00 s t := by
  have m0 : 0xC2C00 &&& 0xC2C00 = 0xC2C00 := rfl
  refine ⟨_, rfl, ?_⟩
  repeat' (first | (with_reducible exact Keep.refl _ _) | (with_reducible apply State.drainOwn_keep m0) | dsimp only)

theorem execJobClaim_keep (bytes : List Byte) (s : State) : ∃ t, execJobClaim bytes s = .next t ∧ Keep 0xD9810 s t := by
  have m0 : 0xD9810 &&& 0xD9810 = 0xD9810 := rfl
  refine ⟨_, rfl, ?_⟩
  repeat' (first | (with_reducible exact Keep.refl _ _) | (with_reducible apply jobClaim_keep m0) | dsimp only)

theorem execOpeningTreeWrite_keep (bytes : List Byte) (s : State) : ∃ t, execOpeningTreeWrite bytes s = .next t ∧ Keep 0xC8000 s t := by
  have m0 : 0xC8000 &&& 0xC8000 = 0xC8000 := rfl
  refine ⟨_, rfl, ?_⟩
  repeat' (first | (with_reducible exact Keep.refl _ _) | (with_reducible apply openingTreeWrite_keep m0) | dsimp only)

theorem execOpeningFresh_keep (seq : U32) (s : State) : ∃ t, execOpeningFresh seq s = .next t ∧ Keep 0xEEBF78 s t := by
  have m0 : 0xEEBF78 &&& 0xEEBF78 = 0xEEBF78 := rfl
  refine ⟨_, rfl, ?_⟩
  repeat' (first | (with_reducible exact Keep.refl _ _) | (with_reducible apply openingFresh_keep m0) | dsimp only)

theorem execOpeningRestore_keep (seq : U32) (s : State) : ∃ t, execOpeningRestore seq s = .next t ∧ Keep 0xEEBFF8 s t := by
  have m0 : 0xEEBFF8 &&& 0xEEBFF8 = 0xEEBFF8 := rfl
  refine ⟨_, rfl, ?_⟩
  repeat' (first | (with_reducible exact Keep.refl _ _) | (with_reducible apply openingRestore_keep m0) | dsimp only)

theorem execOpeningResend_keep (seq : U32) (s : State) : ∃ t, execOpeningResend seq s = .next t ∧ Keep 0xEEBF78 s t := by
  have m0 : 0xEEBF78 &&& 0xEEBF78 = 0xEEBF78 := rfl
  refine ⟨_, rfl, ?_⟩
  repeat' (first | (with_reducible exact Keep.refl _ _) | (with_reducible apply openingResend_keep m0) | dsimp only)

theorem execOpeningInstallCmd_keep (seq : U32) (target : U32) (s : State) : ∃ t, execOpeningInstallCmd seq target s = .next t ∧ Keep 0xEEBFF8 s t := by
  have m0 : 0xEEBFF8 &&& 0xEEBFF8 = 0xEEBFF8 := rfl
  refine ⟨_, rfl, ?_⟩
  repeat' (first | (with_reducible exact Keep.refl _ _) | (with_reducible apply openingInstallCmd_keep m0) | dsimp only)

theorem execOpeningAbandonCmd_keep (seq : U32) (s : State) : ∃ t, execOpeningAbandonCmd seq s = .next t ∧ Keep 0xEEFFF8 s t := by
  have m0 : 0xEEFFF8 &&& 0xEEFFF8 = 0xEEFFF8 := rfl
  refine ⟨_, rfl, ?_⟩
  repeat' (first | (with_reducible exact Keep.refl _ _) | (with_reducible apply openingAbandonCmd_keep m0) | dsimp only)

theorem execAnchorsReceive_keep (port : Port) (pk : Trans) (s : State) : ∃ t, execAnchorsReceive port pk s = .next t ∧ Keep 0xC8C00 s t := by
  have m0 : 0xC8C00 &&& 0xC8C00 = 0xC8C00 := rfl
  refine ⟨_, rfl, ?_⟩
  repeat' (first | (with_reducible exact Keep.refl _ _) | (with_reducible apply anchorsReceive_keep m0) | dsimp only)

theorem execPrepareReceive_keep (port : Port) (pk : Trans) (s : State) : ∃ t, execPrepareReceive port pk s = .next t ∧ Keep 0xEEBF78 s t := by
  have m0 : 0xEEBF78 &&& 0xEEBF78 = 0xEEBF78 := rfl
  refine ⟨_, rfl, ?_⟩
  repeat' (first | (with_reducible exact Keep.refl _ _) | (with_reducible apply prepareReceive_keep m0) | dsimp only)

theorem execSurveyReceive_keep (port : Port) (pk : Trans) (s : State) : ∃ t, execSurveyReceive port pk s = .next t ∧ Keep 0xEEBFF8 s t := by
  have m0 : 0xEEBFF8 &&& 0xEEBFF8 = 0xEEBFF8 := rfl
  refine ⟨_, rfl, ?_⟩
  repeat' (first | (with_reducible exact Keep.refl _ _) | (with_reducible apply surveyReceive_keep m0) | dsimp only)

theorem execInstallReceive_keep (port : Port) (pk : Trans) (s : State) : ∃ t, execInstallReceive port pk s = .next t ∧ Keep 0xEEBFF8 s t := by
  have m0 : 0xEEBFF8 &&& 0xEEBFF8 = 0xEEBFF8 := rfl
  refine ⟨_, rfl, ?_⟩
  repeat' (first | (with_reducible exact Keep.refl _ _) | (with_reducible apply installReceive_keep m0) | dsimp only)

theorem execInstallComplete_keep (s : State) : ∃ t, execInstallComplete s = .next t ∧ Keep 0xEEBF78 s t := by
  have m0 : 0xEEBF78 &&& 0xEEBF78 = 0xEEBF78 := rfl
  refine ⟨_, rfl, ?_⟩
  repeat' (first | (with_reducible exact Keep.refl _ _) | (with_reducible apply installComplete_keep m0) | dsimp only)

theorem execCommitReceive_keep (port : Port) (pk : Trans) (s : State) : ∃ t, execCommitReceive port pk s = .next t ∧ Keep 0xEEBF78 s t := by
  have m0 : 0xEEBF78 &&& 0xEEBF78 = 0xEEBF78 := rfl
  refine ⟨_, rfl, ?_⟩
  repeat' (first | (with_reducible exact Keep.refl _ _) | (with_reducible apply commitReceive_keep m0) | dsimp only)

theorem execAbandonReceive_keep (port : Port) (pk : Trans) (s : State) : ∃ t, execAbandonReceive port pk s = .next t ∧ Keep 0xEEFFF8 s t := by
  have m0 : 0xEEFFF8 &&& 0xEEFFF8 = 0xEEFFF8 := rfl
  refine ⟨_, rfl, ?_⟩
  repeat' (first | (with_reducible exact Keep.refl _ _) | (with_reducible apply abandonReceive_keep m0) | dsimp only)

theorem execOpeningAckReceive_keep (port : Port) (pk : Trans) (s : State) : ∃ t, execOpeningAckReceive port pk s = .next t ∧ Keep 0xEEBF78 s t := by
  have m0 : 0xEEBF78 &&& 0xEEBF78 = 0xEEBF78 := rfl
  refine ⟨_, rfl, ?_⟩
  repeat' (first | (with_reducible exact Keep.refl _ _) | (with_reducible apply openingAckReceive_keep m0) | dsimp only)

theorem execOpeningChildMissing_keep (cn : U32) (s : State) : ∃ t, execOpeningChildMissing cn s = .next t ∧ Keep 0xEFBF78 s t := by
  have m0 : 0xEFBF78 &&& 0xEFBF78 = 0xEFBF78 := rfl
  refine ⟨_, rfl, ?_⟩
  repeat' (first | (with_reducible exact Keep.refl _ _) | (with_reducible apply openingChildMissing_keep m0) | dsimp only)

theorem execStreamCheckReceive_keep (port : Port) (pk : Trans) (s : State) : ∃ t, execStreamCheckReceive port pk s = .next t ∧ Keep 0xEEBF78 s t := by
  have m0 : 0xEEBF78 &&& 0xEEBF78 = 0xEEBF78 := rfl
  refine ⟨_, rfl, ?_⟩
  repeat' (first | (with_reducible exact Keep.refl _ _) | (with_reducible apply streamCheckReceive_keep m0) | dsimp only)

theorem execReachReceive_keep (port : Port) (pk : Trans) (s : State) : ∃ t, execReachReceive port pk s = .next t ∧ Keep 0xEEBF78 s t := by
  have m0 : 0xEEBF78 &&& 0xEEBF78 = 0xEEBF78 := rfl
  refine ⟨_, rfl, ?_⟩
  repeat' (first | (with_reducible exact Keep.refl _ _) | (with_reducible apply reachReceive_keep m0) | dsimp only)

theorem execReachTimeout_keep (s : State) : ∃ t, execReachTimeout s = .next t ∧ Keep 0xEEBF78 s t := by
  have m0 : 0xEEBF78 &&& 0xEEBF78 = 0xEEBF78 := rfl
  refine ⟨_, rfl, ?_⟩
  repeat' (first | (with_reducible exact Keep.refl _ _) | (with_reducible apply reachTimeout_keep m0) | dsimp only)

theorem execPullReqReceive_keep (port : Port) (pk : Trans) (s : State) : ∃ t, execPullReqReceive port pk s = .next t ∧ Keep 0xAEBF78 s t := by
  have m0 : 0xAEBF78 &&& 0xAEBF78 = 0xAEBF78 := rfl
  refine ⟨_, rfl, ?_⟩
  repeat' (first | (with_reducible exact Keep.refl _ _) | (with_reducible apply pullReqReceive_keep m0) | dsimp only)

theorem execPullDoneReceive_keep (port : Port) (pk : Trans) (s : State) : ∃ t, execPullDoneReceive port pk s = .next t ∧ Keep 0xEEBF78 s t := by
  have m0 : 0xEEBF78 &&& 0xEEBF78 = 0xEEBF78 := rfl
  refine ⟨_, rfl, ?_⟩
  repeat' (first | (with_reducible exact Keep.refl _ _) | (with_reducible apply pullDoneReceive_keep m0) | dsimp only)

theorem execPullTimeout_keep (ts : U32) (stream : U8) (s : State) : ∃ t, execPullTimeout ts stream s = .next t ∧ Keep 0xEEBF78 s t := by
  have m0 : 0xEEBF78 &&& 0xEEBF78 = 0xEEBF78 := rfl
  refine ⟨_, rfl, ?_⟩
  repeat' (first | (with_reducible exact Keep.refl _ _) | (with_reducible apply pullTimeout_keep m0) | dsimp only)

theorem execStoreGetResponse_keep (port : Port) (pk : Trans) (s : State) : ∃ t, execStoreGetResponse port pk s = .next t ∧ Keep 0xEEBFF8 s t := by
  have m0 : 0xEEBFF8 &&& 0xEEBFF8 = 0xEEBFF8 := rfl
  refine ⟨_, rfl, ?_⟩
  repeat' (first | (with_reducible exact Keep.refl _ _) | (with_reducible apply storeGetResponse_keep m0) | dsimp only)

theorem execResignationAction_keep (jt : U16) (s : State) : ∃ t, execResignationAction jt s = .next t ∧ Keep 0xAEFFF8 s t := by
  have m0 : 0xAEFFF8 &&& 0xAEFFF8 = 0xAEFFF8 := rfl
  refine ⟨_, rfl, ?_⟩
  repeat' (first | (with_reducible exact Keep.refl _ _) | (with_reducible apply resignationAction_keep m0) | dsimp only)

theorem execResignScrubComplete_keep (ok : Bool) (s : State) : ∃ t, execResignScrubComplete ok s = .next t ∧ Keep 0xAFBFF0 s t := by
  have m0 : 0xAFBFF0 &&& 0xAFBFF0 = 0xAFBFF0 := rfl
  refine ⟨_, rfl, ?_⟩
  repeat' (first | (with_reducible exact Keep.refl _ _) | (with_reducible apply resignScrubComplete_keep m0) | dsimp only)

theorem execWatchdogFeed_keep (answers : Bool) (s : State) : ∃ t, execWatchdogFeed answers s = .next t ∧ Keep 0x10000 s t := by
  have m0 : 0x10000 &&& 0x10000 = 0x10000 := rfl
  refine ⟨_, rfl, ?_⟩
  repeat' (first | (with_reducible exact Keep.refl _ _) | (with_reducible apply watchdogFeed_keep m0) | dsimp only)

theorem execSuspicionTimeout_keep (p : Port) (s : State) : ∃ t, execSuspicionTimeout p s = .next t ∧ Keep 0xD0C00 s t := by
  have m0 : 0xD0C00 &&& 0xD0C00 = 0xD0C00 := rfl
  refine ⟨_, rfl, ?_⟩
  repeat' (first | (with_reducible exact Keep.refl _ _) | (with_reducible apply State.suspectPort_keep m0) | dsimp only)

theorem execIsolationTimeout_keep (s : State) : ∃ t, execIsolationTimeout s = .next t ∧ Keep 0xC8000 s t := by
  have m0 : 0xC8000 &&& 0xC8000 = 0xC8000 := rfl
  refine ⟨_, rfl, ?_⟩
  repeat' (first | (with_reducible exact Keep.refl _ _) | (with_reducible apply isolationTimeout_keep m0) | dsimp only)

theorem execAgentSilenceTimeout_keep (tl : Fin 8) (s : State) : ∃ t, execAgentSilenceTimeout tl s = .next t ∧ Keep 0xD0C00 s t := by
  have m0 : 0xD0C00 &&& 0xD0C00 = 0xD0C00 := rfl
  refine ⟨_, rfl, ?_⟩
  repeat' (first | (with_reducible exact Keep.refl _ _) | (with_reducible apply State.loseAgent_keep m0) | dsimp only)

theorem execSuspectReceive_keep (port : Port) (pk : Trans) (s : State) : ∃ t, execSuspectReceive port pk s = .next t ∧ Keep 0xD9C00 s t := by
  have m0 : 0xD9C00 &&& 0xD9C00 = 0xD9C00 := rfl
  refine ⟨_, rfl, ?_⟩
  repeat' (first | (with_reducible exact Keep.refl _ _) | (with_reducible apply suspectReceive_keep m0) | dsimp only)

theorem execProbeAnswer_keep (pos : U32) (word : U64) (s : State) : ∃ t, execProbeAnswer pos word s = .next t ∧ Keep 0xD9C00 s t := by
  have m0 : 0xD9C00 &&& 0xD9C00 = 0xD9C00 := rfl
  refine ⟨_, rfl, ?_⟩
  repeat' (first | (with_reducible exact Keep.refl _ _) | (with_reducible apply probeAnswer_keep m0) | dsimp only)

theorem execProbeTimeout_keep (pos : U32) (s : State) : ∃ t, execProbeTimeout pos s = .next t ∧ Keep 0xD9C00 s t := by
  have m0 : 0xD9C00 &&& 0xD9C00 = 0xD9C00 := rfl
  refine ⟨_, rfl, ?_⟩
  repeat' (first | (with_reducible exact Keep.refl _ _) | (with_reducible apply probeTimeout_keep m0) | dsimp only)

theorem execDeclareReceive_keep (port : Port) (pk : Trans) (s : State) : ∃ t, execDeclareReceive port pk s = .next t ∧ Keep 0xD9C00 s t := by
  have m0 : 0xD9C00 &&& 0xD9C00 = 0xD9C00 := rfl
  refine ⟨_, rfl, ?_⟩
  repeat' (first | (with_reducible exact Keep.refl _ _) | (with_reducible apply declareReceive_keep m0) | dsimp only)

theorem execEvictionAction_keep (pos reason : U32) (key : U16) (s : State) : ∃ t, execEvictionAction pos reason key s = .next t ∧ Keep 0xD9C00 s t := by
  have m0 : 0xD9C00 &&& 0xD9C00 = 0xD9C00 := rfl
  refine ⟨_, rfl, ?_⟩
  repeat' (first | (with_reducible exact Keep.refl _ _) | (with_reducible apply evictionAction_keep m0) | dsimp only)

theorem execEpochFenceAction_keep (v : U32) (s : State) : ∃ t, execEpochFenceAction v s = .next t ∧ Keep 0xEFBFF8 s t := by
  have m0 : 0xEFBFF8 &&& 0xEFBFF8 = 0xEFBFF8 := rfl
  refine ⟨_, rfl, ?_⟩
  repeat' (first | (with_reducible exact Keep.refl _ _) | (with_reducible apply epochFenceAction_keep m0) | dsimp only)

theorem execEpochInstallReceive_keep (port : Port) (pk : Trans) (s : State) : ∃ t, execEpochInstallReceive port pk s = .next t ∧ Keep 0xEFBFF8 s t := by
  have m0 : 0xEFBFF8 &&& 0xEFBFF8 = 0xEFBFF8 := rfl
  refine ⟨_, rfl, ?_⟩
  repeat' (first | (with_reducible exact Keep.refl _ _) | (with_reducible apply epochInstallReceive_keep m0) | dsimp only)

theorem execInstalledReceive_keep (port : Port) (pk : Trans) (s : State) : ∃ t, execInstalledReceive port pk s = .next t ∧ Keep 0x4D8C00 s t := by
  have m0 : 0x4D8C00 &&& 0x4D8C00 = 0x4D8C00 := rfl
  refine ⟨_, rfl, ?_⟩
  repeat' (first | (with_reducible exact Keep.refl _ _) | (with_reducible apply installedReceive_keep m0) | dsimp only)

theorem execRetireAction_keep (unit : U16) (s : State) : ∃ t, execRetireAction unit s = .next t ∧ Keep 0x2F0CC0 s t := by
  have m0 : 0x2F0CC0 &&& 0x2F0CC0 = 0x2F0CC0 := rfl
  refine ⟨_, rfl, ?_⟩
  repeat' (first | (with_reducible exact Keep.refl _ _) | (with_reducible apply retireAction_keep m0) | dsimp only)

theorem execClearHistory_keep (key : U16) (s : State) : ∃ t, execClearHistory key s = .next t ∧ Keep 0xAE0000 s t := by
  have m0 : 0xAE0000 &&& 0xAE0000 = 0xAE0000 := rfl
  refine ⟨_, rfl, ?_⟩
  repeat' (first | (with_reducible exact Keep.refl _ _) | (with_reducible apply clearHistory_keep m0) | dsimp only)

theorem execGambitAction_keep (bytes : List Byte) (s : State) : ∃ t, execGambitAction bytes s = .next t ∧ Keep 0x2E0CC0 s t := by
  have m0 : 0x2E0CC0 &&& 0x2E0CC0 = 0x2E0CC0 := rfl
  refine ⟨_, rfl, ?_⟩
  repeat' (first | (with_reducible exact Keep.refl _ _) | (with_reducible apply gambitAction_keep m0) | dsimp only)

theorem execGambitTempStable_keep (temp : U16) (s : State) : ∃ t, execGambitTempStable temp s = .next t ∧ Keep 0x2E0000 s t := by
  have m0 : 0x2E0000 &&& 0x2E0000 = 0x2E0000 := rfl
  refine ⟨_, rfl, ?_⟩
  repeat' (first | (with_reducible exact Keep.refl _ _) | (with_reducible apply gambitTempStable_keep m0) | dsimp only)

theorem execGambitRampDone_keep (s : State) : ∃ t, execGambitRampDone s = .next t ∧ Keep 0x220000 s t := by
  have m0 : 0x220000 &&& 0x220000 = 0x220000 := rfl
  refine ⟨_, rfl, ?_⟩
  repeat' (first | (with_reducible exact Keep.refl _ _) | (with_reducible apply gambitRampDone_keep m0) | dsimp only)

theorem execGambitDurationEnd_keep (errors : U32) (s : State) : ∃ t, execGambitDurationEnd errors s = .next t ∧ Keep 0x2E00C0 s t := by
  have m0 : 0x2E00C0 &&& 0x2E00C0 = 0x2E00C0 := rfl
  refine ⟨_, rfl, ?_⟩
  repeat' (first | (with_reducible exact Keep.refl _ _) | (with_reducible apply gambitDurationEnd_keep m0) | dsimp only)

theorem execGambitAbort_keep (cause : AbortCause) (s : State) : ∃ t, execGambitAbort cause s = .next t ∧ Keep 0x2E00C0 s t := by
  have m0 : 0x2E00C0 &&& 0x2E00C0 = 0x2E00C0 := rfl
  refine ⟨_, rfl, ?_⟩
  repeat' (first | (with_reducible exact Keep.refl _ _) | (with_reducible apply gambitAbort_keep m0) | dsimp only)

theorem execGambitReplyTimeout_keep (s : State) : ∃ t, execGambitReplyTimeout s = .next t ∧ Keep 0x6E00C0 s t := by
  have m0 : 0x6E00C0 &&& 0x6E00C0 = 0x6E00C0 := rfl
  refine ⟨_, rfl, ?_⟩
  repeat' (first | (with_reducible exact Keep.refl _ _) | (with_reducible apply gambitReplyTimeout_keep m0) | dsimp only)

theorem execRetestStart_keep (unit : U16) (s : State) : ∃ t, execRetestStart unit s = .next t ∧ Keep 0x2E0CC0 s t := by
  have m0 : 0x2E0CC0 &&& 0x2E0CC0 = 0x2E0CC0 := rfl
  refine ⟨_, rfl, ?_⟩
  repeat' (first | (with_reducible exact Keep.refl _ _) | (with_reducible apply retestStart_keep m0) | dsimp only)

theorem execAgentReportReceive_keep (port : Port) (pk : Trans) (s : State) : ∃ t, execAgentReportReceive port pk s = .next t ∧ Keep 0x2F0CC0 s t := by
  have m0 : 0x2F0CC0 &&& 0x2F0CC0 = 0x2F0CC0 := rfl
  have m1 : 0x2F0CC0 &&& 0x800 = 0x800 := rfl
  refine ⟨_, rfl, ?_⟩
  repeat' (first | (with_reducible exact Keep.refl _ _) | (with_reducible apply agentReportReceive_keep m0) | (with_reducible apply State.takePk_keep m1) | (with_reducible apply Keep.ite) | split | dsimp only)

theorem execPowerAverageTick_keep (watts : U16) (s : State) : ∃ t, execPowerAverageTick watts s = .next t ∧ Keep 0x2C0000 s t := by
  have m0 : 0x2C0000 &&& 0x2C0000 = 0x2C0000 := rfl
  refine ⟨_, rfl, ?_⟩
  repeat' (first | (with_reducible exact Keep.refl _ _) | (with_reducible apply powerAverageTick_keep m0) | dsimp only)

theorem execThermalSample_keep (temps : List U16) (s : State) : ∃ t, execThermalSample temps s = .next t ∧ Keep 0x2C8000 s t := by
  have m0 : 0x2C8000 &&& 0x2C8000 = 0x2C8000 := rfl
  refine ⟨_, rfl, ?_⟩
  repeat' (first | (with_reducible exact Keep.refl _ _) | (with_reducible apply thermalSample_keep m0) | dsimp only)

theorem execReservoirFault_keep (hu : Fin 2) (cause : ResCause) (s : State) : ∃ t, execReservoirFault hu cause s = .next t ∧ Keep 0xAC0000 s t := by
  have m0 : 0xAC0000 &&& 0xAC0000 = 0xAC0000 := rfl
  refine ⟨_, rfl, ?_⟩
  repeat' (first | (with_reducible exact Keep.refl _ _) | (with_reducible apply State.reservoirOut_keep m0) | dsimp only)

theorem execReservoirCharged_keep (hu : Fin 2) (s : State) : ∃ t, execReservoirCharged hu s = .next t ∧ Keep 0x2C0000 s t := by
  have m0 : 0x2C0000 &&& 0x2C0000 = 0x2C0000 := rfl
  refine ⟨_, rfl, ?_⟩
  repeat' (first | (with_reducible exact Keep.refl _ _) | (with_reducible apply reservoirCharged_keep m0) | dsimp only)

theorem execCeilingWrite_keep (hu : Fin 2) (v : U32) (s : State) : ∃ t, execCeilingWrite hu v s = .next t ∧ Keep 0x2C0000 s t := by
  have m0 : 0x2C0000 &&& 0x2C0000 = 0x2C0000 := rfl
  refine ⟨_, rfl, ?_⟩
  repeat' (first | (with_reducible exact Keep.refl _ _) | (with_reducible apply ceilingWrite_keep m0) | dsimp only)

theorem execLedgerReconcile_keep (measured : List U32) (s : State) : ∃ t, execLedgerReconcile measured s = .next t ∧ Keep 0xAC8000 s t := by
  have m0 : 0xAC8000 &&& 0xAC8000 = 0xAC8000 := rfl
  refine ⟨_, rfl, ?_⟩
  repeat' (first | (with_reducible exact Keep.refl _ _) | (with_reducible apply ledgerReconcile_keep m0) | dsimp only)

theorem execOutputOvercurrent_keep (pin : U8) (s : State) : ∃ t, execOutputOvercurrent pin s = .next t ∧ Keep 0x2C0000 s t := by
  have m0 : 0x2C0000 &&& 0x2C0000 = 0x2C0000 := rfl
  refine ⟨_, rfl, ?_⟩
  repeat' (first | (with_reducible exact Keep.refl _ _) | (with_reducible apply outputOvercurrent_keep m0) | dsimp only)

theorem execOutputRelease_keep (v : U8) (s : State) : ∃ t, execOutputRelease v s = .next t ∧ Keep 0x200000 s t := by
  have m0 : 0x200000 &&& 0x200000 = 0x200000 := rfl
  refine ⟨_, rfl, ?_⟩
  repeat' (first | (with_reducible exact Keep.refl _ _) | (with_reducible apply outputRelease_keep m0) | dsimp only)

theorem execAccResetReleaseWrite_keep (v : U8) (s : State) : ∃ t, execAccResetReleaseWrite v s = .next t ∧ Keep 0x200000 s t := by
  have m0 : 0x200000 &&& 0x200000 = 0x200000 := rfl
  refine ⟨_, rfl, ?_⟩
  repeat' (first | (with_reducible exact Keep.refl _ _) | (with_reducible apply accResetReleaseWrite_keep m0) | dsimp only)

theorem execAccPwrgdFall_keep (tl : Fin 8) (s : State) : ∃ t, execAccPwrgdFall tl s = .next t ∧ Keep 0x2D0C00 s t := by
  have m0 : 0x2D0C00 &&& 0x2D0C00 = 0x2D0C00 := rfl
  refine ⟨_, rfl, ?_⟩
  repeat' (first | (with_reducible exact Keep.refl _ _) | (with_reducible apply accPwrgdFall_keep m0) | dsimp only)

theorem execAccPwrgdRise_keep (tl : Fin 8) (s : State) : ∃ t, execAccPwrgdRise tl s = .next t ∧ Keep 0x200000 s t := by
  have m0 : 0x200000 &&& 0x200000 = 0x200000 := rfl
  refine ⟨_, rfl, ?_⟩
  repeat' (first | (with_reducible exact Keep.refl _ _) | (with_reducible apply accPwrgdRise_keep m0) | dsimp only)

theorem execAccAlert_keep (tl : Fin 8) (s : State) : ∃ t, execAccAlert tl s = .next t ∧ Keep 0x2C0000 s t := by
  have m0 : 0x2C0000 &&& 0x2C0000 = 0x2C0000 := rfl
  refine ⟨_, rfl, ?_⟩
  repeat' (first | (with_reducible exact Keep.refl _ _) | (with_reducible apply accAlert_keep m0) | dsimp only)

theorem execAccAlertNoReport_keep (tl : Fin 8) (s : State) : ∃ t, execAccAlertNoReport tl s = .next t ∧ Keep 0x240000 s t := by
  have m0 : 0x240000 &&& 0x240000 = 0x240000 := rfl
  refine ⟨_, rfl, ?_⟩
  repeat' (first | (with_reducible exact Keep.refl _ _) | (with_reducible apply accAlertNoReport_keep m0) | dsimp only)

theorem execAccTherm_keep (tl : Fin 8) (s : State) : ∃ t, execAccTherm tl s = .next t ∧ Keep 0x2C0000 s t := by
  have m0 : 0x2C0000 &&& 0x2C0000 = 0x2C0000 := rfl
  refine ⟨_, rfl, ?_⟩
  repeat' (first | (with_reducible exact Keep.refl _ _) | (with_reducible apply accTherm_keep m0) | dsimp only)

theorem execPpsEdge_keep (sec : U64) (s : State) : ∃ t, execPpsEdge sec s = .next t ∧ Keep 0x240000 s t := by
  have m0 : 0x240000 &&& 0x240000 = 0x240000 := rfl
  refine ⟨_, rfl, ?_⟩
  repeat' (first | (with_reducible exact Keep.refl _ _) | (with_reducible apply ppsEdge_keep m0) | dsimp only)

theorem execRecorderFreeze_keep (s : State) : ∃ t, execRecorderFreeze s = .next t ∧ Keep 0x40000 s t := by
  have m0 : 0x40000 &&& 0x40000 = 0x40000 := rfl
  refine ⟨_, rfl, ?_⟩
  repeat' (first | (with_reducible exact Keep.refl _ _) | (with_reducible apply recorderFreeze_keep m0) | dsimp only)

theorem execRecorderUnfreeze_keep (s : State) : ∃ t, execRecorderUnfreeze s = .next t ∧ Keep 0xC0000 s t := by
  have m0 : 0xC0000 &&& 0xC0000 = 0xC0000 := rfl
  refine ⟨_, rfl, ?_⟩
  repeat' (first | (with_reducible exact Keep.refl _ _) | (with_reducible apply recorderUnfreeze_keep m0) | dsimp only)

theorem execFreezeTimeout_keep (s : State) : ∃ t, execFreezeTimeout s = .next t ∧ Keep 0xC0000 s t := by
  have m0 : 0xC0000 &&& 0xC0000 = 0xC0000 := rfl
  refine ⟨_, rfl, ?_⟩
  repeat' (first | (with_reducible exact Keep.refl _ _) | (with_reducible apply freezeTimeout_keep m0) | dsimp only)

theorem execRecorderClear_keep (key : U16) (holds : Bool) (s : State) : ∃ t, execRecorderClear key holds s = .next t ∧ Keep 0xC0000 s t := by
  have m0 : 0xC0000 &&& 0xC0000 = 0xC0000 := rfl
  refine ⟨_, rfl, ?_⟩
  repeat' (first | (with_reducible exact Keep.refl _ _) | (with_reducible apply recorderClear_keep m0) | dsimp only)

theorem execPcSample_keep (unit : U16) (loc : U32) (st : U8) (ctx : U8) (s : State) : ∃ t, execPcSample unit loc st ctx s = .next t ∧ Keep 0x40000 s t := by
  have m0 : 0x40000 &&& 0x40000 = 0x40000 := rfl
  refine ⟨_, rfl, ?_⟩
  repeat' (first | (with_reducible exact Keep.refl _ _) | (with_reducible apply pcSample_keep m0) | dsimp only)

theorem execTraceStart_keep (s : State) : ∃ t, execTraceStart s = .next t ∧ Keep 0x40000 s t := by
  have m0 : 0x40000 &&& 0x40000 = 0x40000 := rfl
  refine ⟨_, rfl, ?_⟩
  repeat' (first | (with_reducible exact Keep.refl _ _) | (with_reducible apply traceStart_keep m0) | dsimp only)

theorem execTraceStop_keep (s : State) : ∃ t, execTraceStop s = .next t ∧ Keep 0x40000 s t := by
  have m0 : 0x40000 &&& 0x40000 = 0x40000 := rfl
  refine ⟨_, rfl, ?_⟩
  repeat' (first | (with_reducible exact Keep.refl _ _) | (with_reducible apply traceStop_keep m0) | dsimp only)

theorem execTraceClear_keep (s : State) : ∃ t, execTraceClear s = .next t ∧ Keep 0x40000 s t := by
  have m0 : 0x40000 &&& 0x40000 = 0x40000 := rfl
  refine ⟨_, rfl, ?_⟩
  repeat' (first | (with_reducible exact Keep.refl _ _) | (with_reducible apply traceClear_keep m0) | dsimp only)

theorem execAlarmCoalesceExpiry_keep (seq : U32) (s : State) : ∃ t, execAlarmCoalesceExpiry seq s = .next t ∧ Keep 0x40000 s t := by
  have m0 : 0x40000 &&& 0x40000 = 0x40000 := rfl
  refine ⟨_, rfl, ?_⟩
  repeat' (first | (with_reducible exact Keep.refl _ _) | (with_reducible apply alarmCoalesceExpiry_keep m0) | dsimp only)

theorem execAlarmSend_keep (plane : Bool) (s : State) : ∃ t, execAlarmSend plane s = .next t ∧ Keep 0x40000 s t := by
  have m0 : 0x40000 &&& 0x40000 = 0x40000 := rfl
  refine ⟨_, rfl, ?_⟩
  repeat' (first | (with_reducible exact Keep.refl _ _) | (with_reducible apply alarmSend_keep m0) | (with_reducible apply Keep.ite) | split | dsimp only)

theorem execAlarmHoldResend_keep (s : State) : ∃ t, execAlarmHoldResend s = .next t ∧ Keep 0xC0C00 s t := by
  have m0 : 0xC0C00 &&& 0xC0C00 = 0xC0C00 := rfl
  refine ⟨_, rfl, ?_⟩
  repeat' (first | (with_reducible exact Keep.refl _ _) | (with_reducible apply alarmHoldResend_keep m0) | dsimp only)

theorem execAlarmAcknowledge_keep (seq : U32) (s : State) : ∃ t, execAlarmAcknowledge seq s = .next t ∧ Keep 0x40000 s t := by
  have m0 : 0x40000 &&& 0x40000 = 0x40000 := rfl
  refine ⟨_, rfl, ?_⟩
  repeat' (first | (with_reducible exact Keep.refl _ _) | (with_reducible apply alarmAcknowledge_keep m0) | dsimp only)

theorem execExerciserEnter_keep (s : State) : ∃ t, execExerciserEnter s = .next t ∧ Keep 0x4C8400 s t := by
  have m0 : 0x4C8400 &&& 0x4C8400 = 0x4C8400 := rfl
  refine ⟨_, rfl, ?_⟩
  repeat' (first | (with_reducible exact Keep.refl _ _) | (with_reducible apply exerciserEnter_keep m0) | dsimp only)

theorem execExerciserLeave_keep (s : State) : ∃ t, execExerciserLeave s = .next t ∧ Keep 0x6E8400 s t := by
  have m0 : 0x6E8400 &&& 0x6E8400 = 0x6E8400 := rfl
  refine ⟨_, rfl, ?_⟩
  repeat' (first | (with_reducible exact Keep.refl _ _) | (with_reducible apply exerciserLeave_keep m0) | dsimp only)

theorem execExerciserRunStart_keep (s : State) : ∃ t, execExerciserRunStart s = .next t ∧ Keep 0x4C0000 s t := by
  have m0 : 0x4C0000 &&& 0x4C0000 = 0x4C0000 := rfl
  refine ⟨_, rfl, ?_⟩
  repeat' (first | (with_reducible exact Keep.refl _ _) | (with_reducible apply exerciserRunStart_keep m0) | dsimp only)

theorem execExerciserRunStop_keep (s : State) : ∃ t, execExerciserRunStop s = .next t ∧ Keep 0x4C0000 s t := by
  have m0 : 0x4C0000 &&& 0x4C0000 = 0x4C0000 := rfl
  refine ⟨_, rfl, ?_⟩
  repeat' (first | (with_reducible exact Keep.refl _ _) | (with_reducible apply exerciserRunStop_keep m0) | dsimp only)

theorem execRunLengthExpiry_keep (s : State) : ∃ t, execRunLengthExpiry s = .next t ∧ Keep 0x4C0000 s t := by
  have m0 : 0x4C0000 &&& 0x4C0000 = 0x4C0000 := rfl
  refine ⟨_, rfl, ?_⟩
  repeat' (first | (with_reducible exact Keep.refl _ _) | (with_reducible apply runLengthExpiry_keep m0) | dsimp only)

theorem execInjectionAction_keep (bytes : List Byte) (s : State) : ∃ t, execInjectionAction bytes s = .next t ∧ Keep 0x4C0000 s t := by
  have m0 : 0x4C0000 &&& 0x4C0000 = 0x4C0000 := rfl
  refine ⟨_, rfl, ?_⟩
  repeat' (first | (with_reducible exact Keep.refl _ _) | (with_reducible apply injectionAction_keep m0) | dsimp only)

theorem execReactionDeadline_keep (p : Port) (code : U8) (s : State) : ∃ t, execReactionDeadline p code s = .next t ∧ Keep 0x4C0000 s t := by
  have m0 : 0x4C0000 &&& 0x4C0000 = 0x4C0000 := rfl
  refine ⟨_, rfl, ?_⟩
  repeat' (first | (with_reducible exact Keep.refl _ _) | (with_reducible apply reactionDeadline_keep m0) | dsimp only)

theorem execScriptEpoch_keep (s : State) : ∃ t, execScriptEpoch s = .next t ∧ Keep 0x440C00 s t := by
  have m0 : 0x440C00 &&& 0x440C00 = 0x440C00 := rfl
  refine ⟨_, rfl, ?_⟩
  repeat' (first | (with_reducible exact Keep.refl _ _) | (with_reducible apply scriptEpoch_keep m0) | dsimp only)

theorem execScriptStepOpen_keep (s : State) : ∃ t, execScriptStepOpen s = .next t ∧ Keep 0x440C00 s t := by
  have m0 : 0x440C00 &&& 0x440C00 = 0x440C00 := rfl
  refine ⟨_, rfl, ?_⟩
  repeat' (first | (with_reducible exact Keep.refl _ _) | (with_reducible apply scriptStepOpen_keep m0) | dsimp only)

theorem execScriptStream_keep (s : State) : ∃ t, execScriptStream s = .next t ∧ Keep 0x440C00 s t := by
  have m0 : 0x440C00 &&& 0x440C00 = 0x440C00 := rfl
  refine ⟨_, rfl, ?_⟩
  repeat' (first | (with_reducible exact Keep.refl _ _) | (with_reducible apply scriptStream_keep m0) | dsimp only)

theorem execScriptExpect_keep (s : State) : ∃ t, execScriptExpect s = .next t ∧ Keep 0x400000 s t := by
  have m0 : 0x400000 &&& 0x400000 = 0x400000 := rfl
  refine ⟨_, rfl, ?_⟩
  repeat' (first | (with_reducible exact Keep.refl _ _) | (with_reducible apply scriptExpect_keep m0) | dsimp only)

theorem execExpectTimeout_keep (s : State) : ∃ t, execExpectTimeout s = .next t ∧ Keep 0x4C0000 s t := by
  have m0 : 0x4C0000 &&& 0x4C0000 = 0x4C0000 := rfl
  refine ⟨_, rfl, ?_⟩
  repeat' (first | (with_reducible exact Keep.refl _ _) | (with_reducible apply expectTimeout_keep m0) | dsimp only)

theorem execScriptAckPolicy_keep (s : State) : ∃ t, execScriptAckPolicy s = .next t ∧ Keep 0x400000 s t := by
  have m0 : 0x400000 &&& 0x400000 = 0x400000 := rfl
  refine ⟨_, rfl, ?_⟩
  repeat' (first | (with_reducible exact Keep.refl _ _) | (with_reducible apply scriptAckPolicy_keep m0) | dsimp only)

theorem execScriptResend_keep (s : State) : ∃ t, execScriptResend s = .next t ∧ Keep 0x440C00 s t := by
  have m0 : 0x440C00 &&& 0x440C00 = 0x440C00 := rfl
  refine ⟨_, rfl, ?_⟩
  repeat' (first | (with_reducible exact Keep.refl _ _) | (with_reducible apply scriptResend_keep m0) | dsimp only)

theorem execScriptFail_keep (s : State) : ∃ t, execScriptFail s = .next t ∧ Keep 0x440C00 s t := by
  have m0 : 0x440C00 &&& 0x440C00 = 0x440C00 := rfl
  refine ⟨_, rfl, ?_⟩
  repeat' (first | (with_reducible exact Keep.refl _ _) | (with_reducible apply scriptFail_keep m0) | dsimp only)

theorem execScriptGambit_keep (s : State) : ∃ t, execScriptGambit s = .next t ∧ Keep 0x440C00 s t := by
  have m0 : 0x440C00 &&& 0x440C00 = 0x440C00 := rfl
  refine ⟨_, rfl, ?_⟩
  repeat' (first | (with_reducible exact Keep.refl _ _) | (with_reducible apply scriptGambit_keep m0) | dsimp only)

theorem execScriptEnd_keep (s : State) : ∃ t, execScriptEnd s = .next t ∧ Keep 0x4C0000 s t := by
  have m0 : 0x4C0000 &&& 0x4C0000 = 0x4C0000 := rfl
  refine ⟨_, rfl, ?_⟩
  repeat' (first | (with_reducible exact Keep.refl _ _) | (with_reducible apply scriptEnd_keep m0) | dsimp only)

theorem execSnapshot_keep (s : State) : ∃ t, execSnapshot s = .next t ∧ Keep 0x40000 s t := by
  have m0 : 0x40000 &&& 0x40000 = 0x40000 := rfl
  refine ⟨_, rfl, ?_⟩
  repeat' (first | (with_reducible exact Keep.refl _ _) | (with_reducible apply State.takeSnapshot_keep m0) | dsimp only)

theorem execSnapshotInterval_keep (s : State) : ∃ t, execSnapshotInterval s = .next t ∧ Keep 0x40000 s t := by
  have m0 : 0x40000 &&& 0x40000 = 0x40000 := rfl
  refine ⟨_, rfl, ?_⟩
  repeat' (first | (with_reducible exact Keep.refl _ _) | (with_reducible apply State.takeSnapshot_keep m0) | dsimp only)

theorem execSnapshotWritten_keep (s : State) : ∃ t, execSnapshotWritten s = .next t ∧ Keep 0xC0000 s t := by
  have m0 : 0xC0000 &&& 0xC0000 = 0xC0000 := rfl
  refine ⟨_, rfl, ?_⟩
  repeat' (first | (with_reducible exact Keep.refl _ _) | (with_reducible apply snapshotWritten_keep m0) | dsimp only)

theorem execPowerOn_keep (w : BootWorld) (s : State) : ∃ t, execPowerOn w s = .next t ∧ Keep 0xFFFFFA s t := by
  have m0 : 0xFFFFFA &&& 0xFFFFFA = 0xFFFFFA := rfl
  refine ⟨_, rfl, ?_⟩
  repeat' (first | (with_reducible exact Keep.refl _ _) | (with_reducible apply powerOn_keep m0) | dsimp only)

theorem execBootLate_keep (step : U8) (s : State) : ∃ t, execBootLate step s = .next t ∧ Keep 0xC0000 s t := by
  have m0 : 0xC0000 &&& 0xC0000 = 0xC0000 := rfl
  refine ⟨_, rfl, ?_⟩
  repeat' (first | (with_reducible exact Keep.refl _ _) | (with_reducible apply bootLate_keep m0) | dsimp only)

theorem execBootWatchdogExpiry_keep (s : State) : ∃ t, execBootWatchdogExpiry s = .next t ∧ Keep 0xFFFFFA s t := by
  have m0 : 0xFFFFFA &&& 0xFFFFFA = 0xFFFFFA := rfl
  refine ⟨_, rfl, ?_⟩
  repeat' (first | (with_reducible exact Keep.refl _ _) | (with_reducible apply bootWatchdogExpiry_keep m0) | dsimp only)

theorem execSysRstNFall_keep (s : State) : ∃ t, execSysRstNFall s = .next t ∧ Keep 0xFFFFFA s t := by
  have m0 : 0xFFFFFA &&& 0xFFFFFA = 0xFFFFFA := rfl
  refine ⟨_, rfl, ?_⟩
  repeat' (first | (with_reducible exact Keep.refl _ _) | (with_reducible apply sysRstNFall_keep m0) | dsimp only)

theorem execWrstNFall_keep (late : Bool) (s : State) : ∃ t, execWrstNFall late s = .next t ∧ Keep 0xFFFFFA s t := by
  have m0 : 0xFFFFFA &&& 0xFFFFFA = 0xFFFFFA := rfl
  refine ⟨_, rfl, ?_⟩
  repeat' (first | (with_reducible exact Keep.refl _ _) | (with_reducible apply wrstNFall_keep m0) | dsimp only)

theorem execResetActionWarm_keep (late : Bool) (s : State) : ∃ t, execResetActionWarm late s = .next t ∧ Keep 0xFFFFFA s t := by
  have m0 : 0xFFFFFA &&& 0xFFFFFA = 0xFFFFFA := rfl
  refine ⟨_, rfl, ?_⟩
  repeat' (first | (with_reducible exact Keep.refl _ _) | (with_reducible apply resetActionWarm_keep m0) | dsimp only)

theorem execResetActionCold_keep (s : State) : ∃ t, execResetActionCold s = .next t ∧ Keep 0xFFFFFA s t := by
  have m0 : 0xFFFFFA &&& 0xFFFFFA = 0xFFFFFA := rfl
  refine ⟨_, rfl, ?_⟩
  repeat' (first | (with_reducible exact Keep.refl _ _) | (with_reducible apply resetActionCold_keep m0) | dsimp only)

theorem execPowerLoss_keep (s : State) : ∃ t, execPowerLoss s = .next t ∧ Keep 0xAEAE68 s t := by
  have m0 : 0xAEAE68 &&& 0xAEAE68 = 0xAEAE68 := rfl
  refine ⟨_, rfl, ?_⟩
  repeat' (first | (with_reducible exact Keep.refl _ _) | (with_reducible apply powerLoss_keep m0) | dsimp only)

theorem execRailFault_keep (rail : Rail) (mv : U16) (s : State) : ∃ t, execRailFault rail mv s = .next t ∧ Keep 0xFFFFFA s t := by
  have m0 : 0xFFFFFA &&& 0xFFFFFA = 0xFFFFFA := rfl
  refine ⟨_, rfl, ?_⟩
  repeat' (first | (with_reducible exact Keep.refl _ _) | (with_reducible apply railFault_keep m0) | dsimp only)

theorem execSysclkLost_keep (s : State) : ∃ t, execSysclkLost s = .next t ∧ Keep 0x2C8000 s t := by
  have m0 : 0x2C8000 &&& 0x2C8000 = 0x2C8000 := rfl
  refine ⟨_, rfl, ?_⟩
  repeat' (first | (with_reducible exact Keep.refl _ _) | (with_reducible apply sysclkLost_keep m0) | dsimp only)

theorem execResetRelease_keep (w : BootWorld) (s : State) : ∃ t, execResetRelease w s = .next t ∧ Keep 0xFFFFFA s t := by
  have m0 : 0xFFFFFA &&& 0xFFFFFA = 0xFFFFFA := rfl
  refine ⟨_, rfl, ?_⟩
  repeat' (first | (with_reducible exact Keep.refl _ _) | (with_reducible apply resetRelease_keep m0) | dsimp only)

theorem execImageStage_keep (bytes : List Byte) (s : State) : ∃ t, execImageStage bytes s = .next t ∧ Keep 0x1C0000 s t := by
  have m0 : 0x1C0000 &&& 0x1C0000 = 0x1C0000 := rfl
  refine ⟨_, rfl, ?_⟩
  repeat' (first | (with_reducible exact Keep.refl _ _) | (with_reducible apply imageStage_keep m0) | dsimp only)

theorem execImageSlotWritten_keep (s : State) : ∃ t, execImageSlotWritten s = .next t ∧ Keep 0x100000 s t := by
  have m0 : 0x100000 &&& 0x100000 = 0x100000 := rfl
  refine ⟨_, rfl, ?_⟩
  repeat' (first | (with_reducible exact Keep.refl _ _) | (with_reducible apply imageSlotWritten_keep m0) | dsimp only)

theorem execImageActivate_keep (bytes : List Byte) (s : State) : ∃ t, execImageActivate bytes s = .next t ∧ Keep 0xFFFFFA s t := by
  have m0 : 0xFFFFFA &&& 0xFFFFFA = 0xFFFFFA := rfl
  refine ⟨_, rfl, ?_⟩
  repeat' (first | (with_reducible exact Keep.refl _ _) | (with_reducible apply imageActivate_keep m0) | dsimp only)

theorem execKeyListWrite_keep (bytes : List Byte) (key : U16) (s : State) : ∃ t, execKeyListWrite bytes key s = .next t ∧ Keep 0x1C0000 s t := by
  have m0 : 0x1C0000 &&& 0x1C0000 = 0x1C0000 := rfl
  refine ⟨_, rfl, ?_⟩
  repeat' (first | (with_reducible exact Keep.refl _ _) | (with_reducible apply keyListWrite_keep m0) | dsimp only)

theorem execAttestationRequest_keep (bytes : List Byte) (s : State) : ∃ t, execAttestationRequest bytes s = .next t ∧ Keep 0x900000 s t := by
  have m0 : 0x900000 &&& 0x900000 = 0x900000 := rfl
  refine ⟨_, rfl, ?_⟩
  repeat' (first | (with_reducible exact Keep.refl _ _) | (with_reducible apply attestationRequest_keep m0) | dsimp only)

theorem execPolicyStage_keep (bytes : List Byte) (s : State) : ∃ t, execPolicyStage bytes s = .next t ∧ Keep 0x1C0000 s t := by
  have m0 : 0x1C0000 &&& 0x1C0000 = 0x1C0000 := rfl
  refine ⟨_, rfl, ?_⟩
  repeat' (first | (with_reducible exact Keep.refl _ _) | (with_reducible apply policyStage_keep m0) | dsimp only)

theorem execPolicyRemoval_keep (bytes : List Byte) (s : State) : ∃ t, execPolicyRemoval bytes s = .next t ∧ Keep 0x1C0000 s t := by
  have m0 : 0x1C0000 &&& 0x1C0000 = 0x1C0000 := rfl
  refine ⟨_, rfl, ?_⟩
  repeat' (first | (with_reducible exact Keep.refl _ _) | (with_reducible apply policyRemoval_keep m0) | dsimp only)

theorem execObjectRead_keep (path : Path) (bytes : List Byte) (s : State) : ∃ t, execObjectRead path bytes s = .next t ∧ Keep 0xFFFFFA s t := by
  have m0 : 0xFFFFFA &&& 0xFFFFFA = 0xFFFFFA := rfl
  refine ⟨_, rfl, ?_⟩
  repeat' (first | (with_reducible exact Keep.refl _ _) | (with_reducible apply objectRead_keep m0) | dsimp only)

theorem execObjectWrite_keep (path : Path) (bytes : List Byte) (s : State) : ∃ t, execObjectWrite path bytes s = .next t ∧ Keep 0xFFFFFA s t := by
  have m0 : 0xFFFFFA &&& 0xFFFFFA = 0xFFFFFA := rfl
  refine ⟨_, rfl, ?_⟩
  repeat' (first | (with_reducible exact Keep.refl _ _) | (with_reducible apply objectWrite_keep m0) | dsimp only)

theorem execObjectSwrite_keep (path : Path) (bytes : List Byte) (s : State) : ∃ t, execObjectSwrite path bytes s = .next t ∧ Keep 0xFFFFFA s t := by
  have m0 : 0xFFFFFA &&& 0xFFFFFA = 0xFFFFFA := rfl
  refine ⟨_, rfl, ?_⟩
  repeat' (first | (with_reducible exact Keep.refl _ _) | (with_reducible apply objectSwrite_keep m0) | dsimp only)

theorem execObjTunnelReceive_keep (port : Port) (pk : Trans) (s : State) : ∃ t, execObjTunnelReceive port pk s = .next t ∧ Keep 0xFFFFFA s t := by
  have m0 : 0xFFFFFA &&& 0xFFFFFA = 0xFFFFFA := rfl
  refine ⟨_, rfl, ?_⟩
  repeat' (first | (with_reducible exact Keep.refl _ _) | (with_reducible apply objTunnelReceive_keep m0) | dsimp only)

theorem execSessionTimeout_keep (key : SessionKey) (s : State) : ∃ t, execSessionTimeout key s = .next t ∧ Keep 0x80000 s t := by
  have m0 : 0x80000 &&& 0x80000 = 0x80000 := rfl
  refine ⟨_, rfl, ?_⟩
  repeat' (first | (with_reducible exact Keep.refl _ _) | (with_reducible apply sessionTimeout_keep m0) | dsimp only)

theorem execDuplicateRetentionExpiry_keep (client : U32) (req : U32) (s : State) : ∃ t, execDuplicateRetentionExpiry client req s = .next t ∧ Keep 0x80000 s t := by
  have m0 : 0x80000 &&& 0x80000 = 0x80000 := rfl
  refine ⟨_, rfl, ?_⟩
  repeat' (first | (with_reducible exact Keep.refl _ _) | (with_reducible apply duplicateRetentionExpiry_keep m0) | dsimp only)

theorem execRegisterWrite_keep (path : Path) (idx : U16) (sub : U8) (bytes : List Byte) (s : State) : ∃ t, execRegisterWrite path idx sub bytes s = .next t ∧ Keep 0xFFFFFA s t := by
  have m0 : 0xFFFFFA &&& 0xFFFFFA = 0xFFFFFA := rfl
  refine ⟨_, rfl, ?_⟩
  repeat' (first | (with_reducible exact Keep.refl _ _) | (with_reducible apply registerWrite_keep m0) | dsimp only)

theorem execBar2Write_keep (s : State) : ∃ t, execBar2Write s = .next t ∧ Keep 0x80000 s t := by
  have m0 : 0x80000 &&& 0x80000 = 0x80000 := rfl
  refine ⟨_, rfl, ?_⟩
  repeat' (first | (with_reducible exact Keep.refl _ _) | (with_reducible apply bar2Write_keep m0) | dsimp only)

theorem execRingProduceWrite_keep (v : U16) (s : State) : ∃ t, execRingProduceWrite v s = .next t ∧ Keep 0xFFFFFA s t := by
  have m0 : 0xFFFFFA &&& 0xFFFFFA = 0xFFFFFA := rfl
  refine ⟨_, rfl, ?_⟩
  repeat' (first | (with_reducible exact Keep.refl _ _) | (with_reducible apply ringProduceWrite_keep m0) | dsimp only)

theorem execRingConsumeWrite_keep (v : U16) (s : State) : ∃ t, execRingConsumeWrite v s = .next t ∧ Keep 0xFFFFFA s t := by
  have m0 : 0xFFFFFA &&& 0xFFFFFA = 0xFFFFFA := rfl
  refine ⟨_, rfl, ?_⟩
  repeat' (first | (with_reducible exact Keep.refl _ _) | (with_reducible apply ringConsumeWrite_keep m0) | dsimp only)

theorem execInterruptAck_keep (v : U32) (s : State) : ∃ t, execInterruptAck v s = .next t ∧ Keep 0x80000 s t := by
  have m0 : 0x80000 &&& 0x80000 = 0x80000 := rfl
  refine ⟨_, rfl, ?_⟩
  repeat' (first | (with_reducible exact Keep.refl _ _) | (with_reducible apply interruptAck_keep m0) | dsimp only)

theorem execHostLinkReset_keep (s : State) : ∃ t, execHostLinkReset s = .next t ∧ Keep 0x1C0000 s t := by
  have m0 : 0x1C0000 &&& 0x1C0000 = 0x1C0000 := rfl
  refine ⟨_, rfl, ?_⟩
  repeat' (first | (with_reducible exact Keep.refl _ _) | (with_reducible apply hostLinkReset_keep m0) | dsimp only)

theorem execConfigSave_keep (v : U8) (s : State) : ∃ t, execConfigSave v s = .next t ∧ Keep 0x2C0000 s t := by
  have m0 : 0x2C0000 &&& 0x2C0000 = 0x2C0000 := rfl
  refine ⟨_, rfl, ?_⟩
  repeat' (first | (with_reducible exact Keep.refl _ _) | (with_reducible apply configSave_keep m0) | dsimp only)

theorem execConfigSaveComplete_keep (s : State) : ∃ t, execConfigSaveComplete s = .next t ∧ Keep 0x2C0000 s t := by
  have m0 : 0x2C0000 &&& 0x2C0000 = 0x2C0000 := rfl
  refine ⟨_, rfl, ?_⟩
  repeat' (first | (with_reducible exact Keep.refl _ _) | (with_reducible apply State.finishSave_keep m0) | dsimp only)

end Sys2Proof.Machine
end

