-- ==== Sys2Proof/Laws/Fence.lean ====
section
/-! SUPPORT. What the operations of a step do to the step fence: they may fail the pending step, and nothing else. -/
namespace Sys2Proof.Machine
open Sys2Proof

/-- The sealed steps stay, and the pending step is as it was or has failed (R21, R25). -/
structure FenceKeep (s t : State) : Prop where
  cur : t.fence.cur = s.fence.cur
  sealed : t.fence.sealedStep = s.fence.sealedStep
  move : t.fence.lastMove = s.fence.lastMove
  count : t.fence.stepsSealed = s.fence.stepsSealed
  committed : t.fence.committed = s.fence.committed
  moves : t.fence.mramMoves = s.fence.mramMoves
  pend : t.fence.pending = s.fence.pending ∧ t.fence.status = s.fence.status ∨
    s.fence.pending = true ∧ t.fence.pending = false ∧ t.fence.status = 3

theorem FenceKeep.of {s t : State} (h : t.fence = s.fence) : FenceKeep s t :=
  ⟨by rw [h], by rw [h], by rw [h], by rw [h], by rw [h], by rw [h], .inl ⟨by rw [h], by rw [h]⟩⟩
theorem FenceKeep.trans {s t u : State} (h : FenceKeep s t) (k : FenceKeep t u) : FenceKeep s u := by
  refine ⟨k.cur.trans h.cur, k.sealed.trans h.sealed, k.move.trans h.move, k.count.trans h.count, k.committed.trans h.committed,
    k.moves.trans h.moves, ?_⟩
  rcases k.pend with ⟨a, b⟩ | ⟨a, b, c⟩
  · rcases h.pend with ⟨d, e⟩ | ⟨d, e, f⟩
    · exact .inl ⟨a.trans d, b.trans e⟩
    · exact .inr ⟨d, a.trans e, b.trans f⟩
  · rcases h.pend with ⟨d, e⟩ | ⟨d, e, f⟩
    · exact .inr ⟨d ▸ a, b, c⟩
    · rw [e] at a; cases a
theorem FenceKeep.foldl {α : Type} {g : State → α → State} (k : ∀ x a, FenceKeep x (g x a)) (l : List α) (s : State) :
    FenceKeep s (l.foldl g s) := by
  induction l generalizing s with
  | nil => exact .of rfl
  | cons a l ih => exact (k s a).trans (ih _)

/-- A failed step: the fence's record of it (R24, R25). -/
theorem State.failStep_fence (code : Nat) (evs : List Event) (s : State) :
    (s.failStep code evs).fence = { s.fence with
      status := 3, stepsFailed := s.fence.stepsFailed + 1, pending := false, failedStep := some s.fence.cur } := by
  unfold State.failStep
  dsimp only
  rw [(State.stepFailedUp_keep (M := 0xC0C00) rfl _ _ _ (Keep.refl _ _)).fence rfl,
    (State.abandonCuts_keep (M := 0xC2248) rfl _ _ _ (Keep.refl _ _)).fence rfl,
    (State.closePasses_keep (M := 0xC0100) rfl _ _ (Keep.refl _ _)).fence rfl,
    (Keep.foldl (M := 0xC0000) (Keep.refl _ _) (fun x (e : Event) => State.record_keep rfl e x (Keep.refl _ _))).fence rfl]

theorem State.failStep_fenceKeep (code : Nat) (evs : List Event) (s : State) (h : s.fence.pending = true) :
    FenceKeep s (s.failStep code evs) := by
  constructor <;> rw [State.failStep_fence]
  exact .inr ⟨h, rfl, rfl⟩

theorem State.failIfReported_fenceKeep (s : State) : FenceKeep s s.failIfReported := by
  unfold State.failIfReported
  split
  · exact .of rfl
  · rename_i h
    split
    · exact State.failStep_fenceKeep _ _ s (by simpa using h)
    · exact .of rfl

theorem State.failShard_fenceKeep (ts step : U32) (code : Nat) (blk : U32) (s : State) : FenceKeep s (s.failShard ts step code blk) := by
  unfold State.failShard
  split
  · exact .of rfl
  · refine FenceKeep.trans ?_ (State.failIfReported_fenceKeep _)
    exact ⟨rfl, rfl, rfl, rfl, rfl, rfl, .inl ⟨rfl, rfl⟩⟩

theorem State.quarantine_fenceKeep (e : TensorEntry) (step : U32) (s : State) : FenceKeep s (s.quarantine e step) := by
  unfold State.quarantine
  refine FenceKeep.trans ?_ (State.failIfReported_fenceKeep _)
  exact .of (((State.record_keep (M := 0xC0000) rfl _ _ (Keep.refl _ _)).fence rfl).trans
    ((State.setEntry_keep (M := 0x40) rfl _ _ _ _ (Keep.refl _ _)).fence rfl))

theorem State.accept_fenceKeep (e : TensorEntry) (d : DispWin) (s : State) : FenceKeep s (s.accept e d) := by
  unfold State.accept State.consumePoison State.refuseNonfinite
  split
  · exact .of ((State.writeHeld_keep (M := 0x2E3248) rfl e d s (Keep.refl _ _)).fence rfl)
  · split
    · refine FenceKeep.trans ?_ (State.failShard_fenceKeep _ _ _ _ _)
      exact .of rfl
    · split
      · refine FenceKeep.trans ?_ (State.failShard_fenceKeep _ _ _ _ _)
        exact .of ((State.record_keep (M := 0xC0000) rfl _ _ (Keep.refl _ _)).fence rfl)
      · exact .of rfl

theorem State.admitWin_fenceKeep (d : DispWin) (s : State) : FenceKeep s (s.admitWin d) := by
  unfold State.admitWin
  split
  · exact .of rfl
  · split
    · exact .of rfl
    · exact .of rfl
    · exact .of rfl
    · refine FenceKeep.trans ?_ (State.quarantine_fenceKeep _ _ _)
      exact .of rfl
    · refine FenceKeep.trans ?_ (State.accept_fenceKeep _ _ _)
      split
      · exact .of ((State.setEntry_keep (M := 0x40) rfl _ _ _ _ (Keep.refl _ _)).fence rfl)
      · exact .of rfl

theorem State.readmit_fenceKeep (ts : U32) (s : State) : FenceKeep s (s.readmit ts) := by
  unfold State.readmit
  refine FenceKeep.trans ?_ (FenceKeep.foldl (fun x d => State.admitWin_fenceKeep d x) _ _)
  exact .of rfl

theorem State.completeShard_fenceKeep (e : TensorEntry) (step : U32) (skipped : Bool) (s : State) :
    FenceKeep s (s.completeShard e step skipped) := by
  unfold State.completeShard
  refine FenceKeep.trans ?_ (State.readmit_fenceKeep _ _)
  exact .of (((State.freeLatches_keep (M := 0x40) rfl _ (Keep.refl _ _)).fence rfl).trans
    (((State.sendOwnerDigest_keep (M := 0xC0C00) rfl _ _ _ (Keep.refl _ _)).fence rfl).trans
    (((State.setEntry_keep (M := 0x40) rfl _ _ _ _ (Keep.refl _ _)).fence rfl).trans
    ((State.protectShard_keep (M := 0x2000) rfl _ _ _ (Keep.refl _ _)).fence rfl))))

theorem State.completeIfDone_fenceKeep (ts : U32) (s : State) : FenceKeep s (s.completeIfDone ts) := by
  unfold State.completeIfDone
  split
  · exact .of rfl
  · split
    · exact .of rfl
    · split
      · exact State.completeShard_fenceKeep _ _ _ _
      · exact .of rfl

theorem State.completeAll_fenceKeep (s : State) : FenceKeep s s.completeAll := by
  unfold State.completeAll
  exact FenceKeep.foldl (fun x (e : TensorEntry) => State.completeIfDone_fenceKeep e.ts x) _ _

end Sys2Proof.Machine
end

