-- ==== Sys2Proof/Laws/State.lean ====
section
/-! SUPPORT. What the shared operations leave unchanged, field by field, as simp lemmas. -/
namespace Sys2Proof.Machine
open Sys2Proof

@[simp] theorem State.countBytes_frame (k : Fin 14) (n : Nat) (s : State) :
    (State.countBytes k n s).pending = s.pending ∧ (State.countBytes k n s).time = s.time ∧ (State.countBytes k n s).ident = s.ident ∧ (State.countBytes k n s).chk = s.chk ∧ (State.countBytes k n s).fence = s.fence ∧ (State.countBytes k n s).red = s.red ∧ (State.countBytes k n s).upd = s.upd ∧ (State.countBytes k n s).vec = s.vec ∧ (State.countBytes k n s).str = s.str ∧ (State.countBytes k n s).mem = s.mem ∧ (State.countBytes k n s).links = s.links ∧ (State.countBytes k n s).route = s.route ∧ (State.countBytes k n s).part = s.part ∧ (State.countBytes k n s).adj = s.adj ∧ (State.countBytes k n s).mov = s.mov ∧ (State.countBytes k n s).job = s.job ∧ (State.countBytes k n s).det = s.det ∧ (State.countBytes k n s).health = s.health ∧ (State.countBytes k n s).acc = s.acc ∧ (State.countBytes k n s).boot = s.boot ∧ (State.countBytes k n s).pwr = s.pwr ∧ (State.countBytes k n s).exer = s.exer ∧ (State.countBytes k n s).freeCtr = s.freeCtr := by
  have h := State.countBytes_keep (M := 0x40000) rfl k n s (Keep.refl _ s)
  exact ⟨h.pending, h.time rfl, h.ident, h.chk rfl, h.fence rfl, h.red rfl, h.upd rfl, h.vec rfl, h.str rfl, h.mem rfl, h.links rfl, h.route rfl, h.part rfl, h.adj rfl, h.mov rfl, h.job rfl, h.det rfl, h.health rfl, h.acc rfl, h.boot rfl, h.pwr rfl, h.exer rfl, h.freeCtr rfl⟩
@[simp] theorem State.trace_frame (island kind unit port vc op : Nat) (data : List Byte) (s : State) :
    (State.trace island kind unit port vc op data s).pending = s.pending ∧ (State.trace island kind unit port vc op data s).time = s.time ∧ (State.trace island kind unit port vc op data s).ident = s.ident ∧ (State.trace island kind unit port vc op data s).chk = s.chk ∧ (State.trace island kind unit port vc op data s).fence = s.fence ∧ (State.trace island kind unit port vc op data s).red = s.red ∧ (State.trace island kind unit port vc op data s).upd = s.upd ∧ (State.trace island kind unit port vc op data s).vec = s.vec ∧ (State.trace island kind unit port vc op data s).str = s.str ∧ (State.trace island kind unit port vc op data s).mem = s.mem ∧ (State.trace island kind unit port vc op data s).links = s.links ∧ (State.trace island kind unit port vc op data s).route = s.route ∧ (State.trace island kind unit port vc op data s).part = s.part ∧ (State.trace island kind unit port vc op data s).adj = s.adj ∧ (State.trace island kind unit port vc op data s).mov = s.mov ∧ (State.trace island kind unit port vc op data s).job = s.job ∧ (State.trace island kind unit port vc op data s).det = s.det ∧ (State.trace island kind unit port vc op data s).health = s.health ∧ (State.trace island kind unit port vc op data s).acc = s.acc ∧ (State.trace island kind unit port vc op data s).boot = s.boot ∧ (State.trace island kind unit port vc op data s).pwr = s.pwr ∧ (State.trace island kind unit port vc op data s).exer = s.exer ∧ (State.trace island kind unit port vc op data s).freeCtr = s.freeCtr := by
  have h := State.trace_keep (M := 0x40000) rfl island kind unit port vc op data s (Keep.refl _ s)
  exact ⟨h.pending, h.time rfl, h.ident, h.chk rfl, h.fence rfl, h.red rfl, h.upd rfl, h.vec rfl, h.str rfl, h.mem rfl, h.links rfl, h.route rfl, h.part rfl, h.adj rfl, h.mov rfl, h.job rfl, h.det rfl, h.health rfl, h.acc rfl, h.boot rfl, h.pwr rfl, h.exer rfl, h.freeCtr rfl⟩
@[simp] theorem State.raiseIrq_frame (n : Nat) (s : State) :
    (State.raiseIrq n s).pending = s.pending ∧ (State.raiseIrq n s).time = s.time ∧ (State.raiseIrq n s).ident = s.ident ∧ (State.raiseIrq n s).chk = s.chk ∧ (State.raiseIrq n s).fence = s.fence ∧ (State.raiseIrq n s).red = s.red ∧ (State.raiseIrq n s).upd = s.upd ∧ (State.raiseIrq n s).vec = s.vec ∧ (State.raiseIrq n s).str = s.str ∧ (State.raiseIrq n s).mem = s.mem ∧ (State.raiseIrq n s).links = s.links ∧ (State.raiseIrq n s).route = s.route ∧ (State.raiseIrq n s).part = s.part ∧ (State.raiseIrq n s).adj = s.adj ∧ (State.raiseIrq n s).mov = s.mov ∧ (State.raiseIrq n s).job = s.job ∧ (State.raiseIrq n s).det = s.det ∧ (State.raiseIrq n s).health = s.health ∧ (State.raiseIrq n s).tele = s.tele ∧ (State.raiseIrq n s).boot = s.boot ∧ (State.raiseIrq n s).pwr = s.pwr ∧ (State.raiseIrq n s).exer = s.exer ∧ (State.raiseIrq n s).freeCtr = s.freeCtr := by
  have h := State.raiseIrq_keep (M := 0x80000) rfl n s (Keep.refl _ s)
  exact ⟨h.pending, h.time rfl, h.ident, h.chk rfl, h.fence rfl, h.red rfl, h.upd rfl, h.vec rfl, h.str rfl, h.mem rfl, h.links rfl, h.route rfl, h.part rfl, h.adj rfl, h.mov rfl, h.job rfl, h.det rfl, h.health rfl, h.tele rfl, h.boot rfl, h.pwr rfl, h.exer rfl, h.freeCtr rfl⟩
@[simp] theorem State.record_frame (e : Event) (s : State) :
    (State.record e s).pending = s.pending ∧ (State.record e s).time = s.time ∧ (State.record e s).ident = s.ident ∧ (State.record e s).chk = s.chk ∧ (State.record e s).fence = s.fence ∧ (State.record e s).red = s.red ∧ (State.record e s).upd = s.upd ∧ (State.record e s).vec = s.vec ∧ (State.record e s).str = s.str ∧ (State.record e s).mem = s.mem ∧ (State.record e s).links = s.links ∧ (State.record e s).route = s.route ∧ (State.record e s).part = s.part ∧ (State.record e s).adj = s.adj ∧ (State.record e s).mov = s.mov ∧ (State.record e s).job = s.job ∧ (State.record e s).det = s.det ∧ (State.record e s).health = s.health ∧ (State.record e s).boot = s.boot ∧ (State.record e s).pwr = s.pwr ∧ (State.record e s).exer = s.exer ∧ (State.record e s).freeCtr = s.freeCtr := by
  have h := State.record_keep (M := 0xC0000) rfl e s (Keep.refl _ s)
  exact ⟨h.pending, h.time rfl, h.ident, h.chk rfl, h.fence rfl, h.red rfl, h.upd rfl, h.vec rfl, h.str rfl, h.mem rfl, h.links rfl, h.route rfl, h.part rfl, h.adj rfl, h.mov rfl, h.job rfl, h.det rfl, h.health rfl, h.boot rfl, h.pwr rfl, h.exer rfl, h.freeCtr rfl⟩
@[simp] theorem State.setDev_frame (d : DevState) (s : State) :
    (State.setDev d s).pending = s.pending ∧ (State.setDev d s).time = s.time ∧ (State.setDev d s).ident = s.ident ∧ (State.setDev d s).chk = s.chk ∧ (State.setDev d s).fence = s.fence ∧ (State.setDev d s).red = s.red ∧ (State.setDev d s).upd = s.upd ∧ (State.setDev d s).vec = s.vec ∧ (State.setDev d s).str = s.str ∧ (State.setDev d s).mem = s.mem ∧ (State.setDev d s).links = s.links ∧ (State.setDev d s).route = s.route ∧ (State.setDev d s).part = s.part ∧ (State.setDev d s).adj = s.adj ∧ (State.setDev d s).mov = s.mov ∧ (State.setDev d s).det = s.det ∧ (State.setDev d s).health = s.health ∧ (State.setDev d s).tele = s.tele ∧ (State.setDev d s).boot = s.boot ∧ (State.setDev d s).pwr = s.pwr ∧ (State.setDev d s).exer = s.exer ∧ (State.setDev d s).freeCtr = s.freeCtr := by
  have h := State.setDev_keep (M := 0x88000) rfl d s (Keep.refl _ s)
  exact ⟨h.pending, h.time rfl, h.ident, h.chk rfl, h.fence rfl, h.red rfl, h.upd rfl, h.vec rfl, h.str rfl, h.mem rfl, h.links rfl, h.route rfl, h.part rfl, h.adj rfl, h.mov rfl, h.det rfl, h.health rfl, h.tele rfl, h.boot rfl, h.pwr rfl, h.exer rfl, h.freeCtr rfl⟩
@[simp] theorem State.enterSafe_frame (e : Event) (s : State) :
    (State.enterSafe e s).pending = s.pending ∧ (State.enterSafe e s).time = s.time ∧ (State.enterSafe e s).ident = s.ident ∧ (State.enterSafe e s).chk = s.chk ∧ (State.enterSafe e s).fence = s.fence ∧ (State.enterSafe e s).red = s.red ∧ (State.enterSafe e s).upd = s.upd ∧ (State.enterSafe e s).vec = s.vec ∧ (State.enterSafe e s).str = s.str ∧ (State.enterSafe e s).mem = s.mem ∧ (State.enterSafe e s).links = s.links ∧ (State.enterSafe e s).route = s.route ∧ (State.enterSafe e s).part = s.part ∧ (State.enterSafe e s).adj = s.adj ∧ (State.enterSafe e s).mov = s.mov ∧ (State.enterSafe e s).det = s.det ∧ (State.enterSafe e s).health = s.health ∧ (State.enterSafe e s).boot = s.boot ∧ (State.enterSafe e s).pwr = s.pwr ∧ (State.enterSafe e s).exer = s.exer ∧ (State.enterSafe e s).freeCtr = s.freeCtr := by
  have h := State.enterSafe_keep (M := 0xC8000) rfl e s (Keep.refl _ s)
  exact ⟨h.pending, h.time rfl, h.ident, h.chk rfl, h.fence rfl, h.red rfl, h.upd rfl, h.vec rfl, h.str rfl, h.mem rfl, h.links rfl, h.route rfl, h.part rfl, h.adj rfl, h.mov rfl, h.det rfl, h.health rfl, h.boot rfl, h.pwr rfl, h.exer rfl, h.freeCtr rfl⟩
@[simp] theorem State.setOpenStatus_frame (v : U8) (s : State) :
    (State.setOpenStatus v s).pending = s.pending ∧ (State.setOpenStatus v s).time = s.time ∧ (State.setOpenStatus v s).ident = s.ident ∧ (State.setOpenStatus v s).chk = s.chk ∧ (State.setOpenStatus v s).fence = s.fence ∧ (State.setOpenStatus v s).red = s.red ∧ (State.setOpenStatus v s).upd = s.upd ∧ (State.setOpenStatus v s).vec = s.vec ∧ (State.setOpenStatus v s).str = s.str ∧ (State.setOpenStatus v s).mem = s.mem ∧ (State.setOpenStatus v s).links = s.links ∧ (State.setOpenStatus v s).route = s.route ∧ (State.setOpenStatus v s).part = s.part ∧ (State.setOpenStatus v s).adj = s.adj ∧ (State.setOpenStatus v s).mov = s.mov ∧ (State.setOpenStatus v s).det = s.det ∧ (State.setOpenStatus v s).health = s.health ∧ (State.setOpenStatus v s).tele = s.tele ∧ (State.setOpenStatus v s).boot = s.boot ∧ (State.setOpenStatus v s).pwr = s.pwr ∧ (State.setOpenStatus v s).exer = s.exer ∧ (State.setOpenStatus v s).freeCtr = s.freeCtr := by
  have h := State.setOpenStatus_keep (M := 0x88000) rfl v s (Keep.refl _ s)
  exact ⟨h.pending, h.time rfl, h.ident, h.chk rfl, h.fence rfl, h.red rfl, h.upd rfl, h.vec rfl, h.str rfl, h.mem rfl, h.links rfl, h.route rfl, h.part rfl, h.adj rfl, h.mov rfl, h.det rfl, h.health rfl, h.tele rfl, h.boot rfl, h.pwr rfl, h.exer rfl, h.freeCtr rfl⟩
@[simp] theorem State.setRestStatus_frame (v : U8) (s : State) :
    (State.setRestStatus v s).pending = s.pending ∧ (State.setRestStatus v s).time = s.time ∧ (State.setRestStatus v s).ident = s.ident ∧ (State.setRestStatus v s).chk = s.chk ∧ (State.setRestStatus v s).fence = s.fence ∧ (State.setRestStatus v s).red = s.red ∧ (State.setRestStatus v s).upd = s.upd ∧ (State.setRestStatus v s).vec = s.vec ∧ (State.setRestStatus v s).str = s.str ∧ (State.setRestStatus v s).mem = s.mem ∧ (State.setRestStatus v s).links = s.links ∧ (State.setRestStatus v s).route = s.route ∧ (State.setRestStatus v s).part = s.part ∧ (State.setRestStatus v s).adj = s.adj ∧ (State.setRestStatus v s).mov = s.mov ∧ (State.setRestStatus v s).det = s.det ∧ (State.setRestStatus v s).health = s.health ∧ (State.setRestStatus v s).tele = s.tele ∧ (State.setRestStatus v s).boot = s.boot ∧ (State.setRestStatus v s).pwr = s.pwr ∧ (State.setRestStatus v s).exer = s.exer ∧ (State.setRestStatus v s).freeCtr = s.freeCtr := by
  have h := State.setRestStatus_keep (M := 0x88000) rfl v s (Keep.refl _ s)
  exact ⟨h.pending, h.time rfl, h.ident, h.chk rfl, h.fence rfl, h.red rfl, h.upd rfl, h.vec rfl, h.str rfl, h.mem rfl, h.links rfl, h.route rfl, h.part rfl, h.adj rfl, h.mov rfl, h.det rfl, h.health rfl, h.tele rfl, h.boot rfl, h.pwr rfl, h.exer rfl, h.freeCtr rfl⟩
@[simp] theorem State.updateCooling_frame (s : State) :
    (State.updateCooling s).pending = s.pending ∧ (State.updateCooling s).time = s.time ∧ (State.updateCooling s).ident = s.ident ∧ (State.updateCooling s).chk = s.chk ∧ (State.updateCooling s).fence = s.fence ∧ (State.updateCooling s).red = s.red ∧ (State.updateCooling s).upd = s.upd ∧ (State.updateCooling s).vec = s.vec ∧ (State.updateCooling s).str = s.str ∧ (State.updateCooling s).mem = s.mem ∧ (State.updateCooling s).links = s.links ∧ (State.updateCooling s).route = s.route ∧ (State.updateCooling s).part = s.part ∧ (State.updateCooling s).adj = s.adj ∧ (State.updateCooling s).mov = s.mov ∧ (State.updateCooling s).job = s.job ∧ (State.updateCooling s).det = s.det ∧ (State.updateCooling s).health = s.health ∧ (State.updateCooling s).boot = s.boot ∧ (State.updateCooling s).exer = s.exer ∧ (State.updateCooling s).freeCtr = s.freeCtr := by
  have h := State.updateCooling_keep (M := 0x2C0000) rfl s (Keep.refl _ s)
  exact ⟨h.pending, h.time rfl, h.ident, h.chk rfl, h.fence rfl, h.red rfl, h.upd rfl, h.vec rfl, h.str rfl, h.mem rfl, h.links rfl, h.route rfl, h.part rfl, h.adj rfl, h.mov rfl, h.job rfl, h.det rfl, h.health rfl, h.boot rfl, h.exer rfl, h.freeCtr rfl⟩
@[simp] theorem State.charge_frame (c : Charge) (s : State) :
    (State.charge c s).pending = s.pending ∧ (State.charge c s).time = s.time ∧ (State.charge c s).ident = s.ident ∧ (State.charge c s).chk = s.chk ∧ (State.charge c s).fence = s.fence ∧ (State.charge c s).red = s.red ∧ (State.charge c s).upd = s.upd ∧ (State.charge c s).vec = s.vec ∧ (State.charge c s).str = s.str ∧ (State.charge c s).mem = s.mem ∧ (State.charge c s).links = s.links ∧ (State.charge c s).route = s.route ∧ (State.charge c s).part = s.part ∧ (State.charge c s).adj = s.adj ∧ (State.charge c s).mov = s.mov ∧ (State.charge c s).job = s.job ∧ (State.charge c s).det = s.det ∧ (State.charge c s).boot = s.boot ∧ (State.charge c s).exer = s.exer ∧ (State.charge c s).freeCtr = s.freeCtr := by
  have h := State.charge_keep (M := 0x2E0000) rfl c s (Keep.refl _ s)
  exact ⟨h.pending, h.time rfl, h.ident, h.chk rfl, h.fence rfl, h.red rfl, h.upd rfl, h.vec rfl, h.str rfl, h.mem rfl, h.links rfl, h.route rfl, h.part rfl, h.adj rfl, h.mov rfl, h.job rfl, h.det rfl, h.boot rfl, h.exer rfl, h.freeCtr rfl⟩
@[simp] theorem State.setRaw_frame (t : Tier) (off : Nat) (l : List Byte) (s : State) :
    (State.setRaw t off l s).pending = s.pending ∧ (State.setRaw t off l s).time = s.time ∧ (State.setRaw t off l s).ident = s.ident ∧ (State.setRaw t off l s).chk = s.chk ∧ (State.setRaw t off l s).fence = s.fence ∧ (State.setRaw t off l s).red = s.red ∧ (State.setRaw t off l s).upd = s.upd ∧ (State.setRaw t off l s).vec = s.vec ∧ (State.setRaw t off l s).str = s.str ∧ (State.setRaw t off l s).links = s.links ∧ (State.setRaw t off l s).route = s.route ∧ (State.setRaw t off l s).part = s.part ∧ (State.setRaw t off l s).adj = s.adj ∧ (State.setRaw t off l s).mov = s.mov ∧ (State.setRaw t off l s).job = s.job ∧ (State.setRaw t off l s).det = s.det ∧ (State.setRaw t off l s).health = s.health ∧ (State.setRaw t off l s).tele = s.tele ∧ (State.setRaw t off l s).acc = s.acc ∧ (State.setRaw t off l s).boot = s.boot ∧ (State.setRaw t off l s).pwr = s.pwr ∧ (State.setRaw t off l s).exer = s.exer ∧ (State.setRaw t off l s).freeCtr = s.freeCtr := by
  have h := State.setRaw_keep (M := 0x200) rfl t off l s (Keep.refl _ s)
  exact ⟨h.pending, h.time rfl, h.ident, h.chk rfl, h.fence rfl, h.red rfl, h.upd rfl, h.vec rfl, h.str rfl, h.links rfl, h.route rfl, h.part rfl, h.adj rfl, h.mov rfl, h.job rfl, h.det rfl, h.health rfl, h.tele rfl, h.acc rfl, h.boot rfl, h.pwr rfl, h.exer rfl, h.freeCtr rfl⟩
@[simp] theorem State.noteBusy_frame (s : State) :
    (State.noteBusy s).pending = s.pending ∧ (State.noteBusy s).time = s.time ∧ (State.noteBusy s).ident = s.ident ∧ (State.noteBusy s).chk = s.chk ∧ (State.noteBusy s).fence = s.fence ∧ (State.noteBusy s).red = s.red ∧ (State.noteBusy s).upd = s.upd ∧ (State.noteBusy s).vec = s.vec ∧ (State.noteBusy s).str = s.str ∧ (State.noteBusy s).mem = s.mem ∧ (State.noteBusy s).links = s.links ∧ (State.noteBusy s).route = s.route ∧ (State.noteBusy s).part = s.part ∧ (State.noteBusy s).mov = s.mov ∧ (State.noteBusy s).job = s.job ∧ (State.noteBusy s).det = s.det ∧ (State.noteBusy s).health = s.health ∧ (State.noteBusy s).boot = s.boot ∧ (State.noteBusy s).pwr = s.pwr ∧ (State.noteBusy s).exer = s.exer ∧ (State.noteBusy s).freeCtr = s.freeCtr := by
  have h := State.noteBusy_keep (M := 0xC2000) rfl s (Keep.refl _ s)
  exact ⟨h.pending, h.time rfl, h.ident, h.chk rfl, h.fence rfl, h.red rfl, h.upd rfl, h.vec rfl, h.str rfl, h.mem rfl, h.links rfl, h.route rfl, h.part rfl, h.mov rfl, h.job rfl, h.det rfl, h.health rfl, h.boot rfl, h.pwr rfl, h.exer rfl, h.freeCtr rfl⟩
@[simp] theorem State.touchPage_frame (off : Nat) (s : State) :
    (State.touchPage off s).pending = s.pending ∧ (State.touchPage off s).time = s.time ∧ (State.touchPage off s).ident = s.ident ∧ (State.touchPage off s).chk = s.chk ∧ (State.touchPage off s).fence = s.fence ∧ (State.touchPage off s).red = s.red ∧ (State.touchPage off s).vec = s.vec ∧ (State.touchPage off s).str = s.str ∧ (State.touchPage off s).mem = s.mem ∧ (State.touchPage off s).links = s.links ∧ (State.touchPage off s).route = s.route ∧ (State.touchPage off s).part = s.part ∧ (State.touchPage off s).mov = s.mov ∧ (State.touchPage off s).job = s.job ∧ (State.touchPage off s).det = s.det ∧ (State.touchPage off s).health = s.health ∧ (State.touchPage off s).boot = s.boot ∧ (State.touchPage off s).pwr = s.pwr ∧ (State.touchPage off s).exer = s.exer ∧ (State.touchPage off s).freeCtr = s.freeCtr := by
  have h := State.touchPage_keep (M := 0xC2040) rfl off s (Keep.refl _ s)
  exact ⟨h.pending, h.time rfl, h.ident, h.chk rfl, h.fence rfl, h.red rfl, h.vec rfl, h.str rfl, h.mem rfl, h.links rfl, h.route rfl, h.part rfl, h.mov rfl, h.job rfl, h.det rfl, h.health rfl, h.boot rfl, h.pwr rfl, h.exer rfl, h.freeCtr rfl⟩
@[simp] theorem State.mustWait_frame (offs : List Nat) (s : State) :
    (State.mustWait offs s).2.pending = s.pending ∧ (State.mustWait offs s).2.time = s.time ∧ (State.mustWait offs s).2.ident = s.ident ∧ (State.mustWait offs s).2.chk = s.chk ∧ (State.mustWait offs s).2.fence = s.fence ∧ (State.mustWait offs s).2.red = s.red ∧ (State.mustWait offs s).2.vec = s.vec ∧ (State.mustWait offs s).2.str = s.str ∧ (State.mustWait offs s).2.mem = s.mem ∧ (State.mustWait offs s).2.links = s.links ∧ (State.mustWait offs s).2.route = s.route ∧ (State.mustWait offs s).2.part = s.part ∧ (State.mustWait offs s).2.mov = s.mov ∧ (State.mustWait offs s).2.job = s.job ∧ (State.mustWait offs s).2.det = s.det ∧ (State.mustWait offs s).2.health = s.health ∧ (State.mustWait offs s).2.boot = s.boot ∧ (State.mustWait offs s).2.pwr = s.pwr ∧ (State.mustWait offs s).2.exer = s.exer ∧ (State.mustWait offs s).2.freeCtr = s.freeCtr := by
  have h := State.mustWait_keep (M := 0xC2040) rfl offs s (Keep.refl _ s)
  exact ⟨h.pending, h.time rfl, h.ident, h.chk rfl, h.fence rfl, h.red rfl, h.vec rfl, h.str rfl, h.mem rfl, h.links rfl, h.route rfl, h.part rfl, h.mov rfl, h.job rfl, h.det rfl, h.health rfl, h.boot rfl, h.pwr rfl, h.exer rfl, h.freeCtr rfl⟩
@[simp] theorem State.touchDone_frame (offs : List Nat) (s : State) :
    (State.touchDone offs s).pending = s.pending ∧ (State.touchDone offs s).time = s.time ∧ (State.touchDone offs s).ident = s.ident ∧ (State.touchDone offs s).chk = s.chk ∧ (State.touchDone offs s).fence = s.fence ∧ (State.touchDone offs s).red = s.red ∧ (State.touchDone offs s).vec = s.vec ∧ (State.touchDone offs s).str = s.str ∧ (State.touchDone offs s).mem = s.mem ∧ (State.touchDone offs s).links = s.links ∧ (State.touchDone offs s).route = s.route ∧ (State.touchDone offs s).part = s.part ∧ (State.touchDone offs s).mov = s.mov ∧ (State.touchDone offs s).job = s.job ∧ (State.touchDone offs s).det = s.det ∧ (State.touchDone offs s).health = s.health ∧ (State.touchDone offs s).tele = s.tele ∧ (State.touchDone offs s).acc = s.acc ∧ (State.touchDone offs s).boot = s.boot ∧ (State.touchDone offs s).pwr = s.pwr ∧ (State.touchDone offs s).exer = s.exer ∧ (State.touchDone offs s).freeCtr = s.freeCtr := by
  have h := State.touchDone_keep (M := 0x2040) rfl offs s (Keep.refl _ s)
  exact ⟨h.pending, h.time rfl, h.ident, h.chk rfl, h.fence rfl, h.red rfl, h.vec rfl, h.str rfl, h.mem rfl, h.links rfl, h.route rfl, h.part rfl, h.mov rfl, h.job rfl, h.det rfl, h.health rfl, h.tele rfl, h.acc rfl, h.boot rfl, h.pwr rfl, h.exer rfl, h.freeCtr rfl⟩
@[simp] theorem State.putHeader_frame (t : Tier) (r : Region) (off : Nat) (h : Header) (s : State) :
    (State.putHeader t r off h s).pending = s.pending ∧ (State.putHeader t r off h s).time = s.time ∧ (State.putHeader t r off h s).ident = s.ident ∧ (State.putHeader t r off h s).chk = s.chk ∧ (State.putHeader t r off h s).fence = s.fence ∧ (State.putHeader t r off h s).red = s.red ∧ (State.putHeader t r off h s).upd = s.upd ∧ (State.putHeader t r off h s).vec = s.vec ∧ (State.putHeader t r off h s).str = s.str ∧ (State.putHeader t r off h s).links = s.links ∧ (State.putHeader t r off h s).route = s.route ∧ (State.putHeader t r off h s).part = s.part ∧ (State.putHeader t r off h s).adj = s.adj ∧ (State.putHeader t r off h s).mov = s.mov ∧ (State.putHeader t r off h s).job = s.job ∧ (State.putHeader t r off h s).det = s.det ∧ (State.putHeader t r off h s).health = s.health ∧ (State.putHeader t r off h s).tele = s.tele ∧ (State.putHeader t r off h s).acc = s.acc ∧ (State.putHeader t r off h s).boot = s.boot ∧ (State.putHeader t r off h s).pwr = s.pwr ∧ (State.putHeader t r off h s).exer = s.exer ∧ (State.putHeader t r off h s).freeCtr = s.freeCtr := by
  have h := State.putHeader_keep (M := 0x200) rfl t r off h s (Keep.refl _ s)
  exact ⟨h.pending, h.time rfl, h.ident, h.chk rfl, h.fence rfl, h.red rfl, h.upd rfl, h.vec rfl, h.str rfl, h.links rfl, h.route rfl, h.part rfl, h.adj rfl, h.mov rfl, h.job rfl, h.det rfl, h.health rfl, h.tele rfl, h.acc rfl, h.boot rfl, h.pwr rfl, h.exer rfl, h.freeCtr rfl⟩
@[simp] theorem State.deferMark_frame (off : Nat) (pair : Bool) (s : State) :
    (State.deferMark off pair s).pending = s.pending ∧ (State.deferMark off pair s).time = s.time ∧ (State.deferMark off pair s).ident = s.ident ∧ (State.deferMark off pair s).chk = s.chk ∧ (State.deferMark off pair s).fence = s.fence ∧ (State.deferMark off pair s).red = s.red ∧ (State.deferMark off pair s).vec = s.vec ∧ (State.deferMark off pair s).str = s.str ∧ (State.deferMark off pair s).links = s.links ∧ (State.deferMark off pair s).route = s.route ∧ (State.deferMark off pair s).part = s.part ∧ (State.deferMark off pair s).mov = s.mov ∧ (State.deferMark off pair s).job = s.job ∧ (State.deferMark off pair s).det = s.det ∧ (State.deferMark off pair s).health = s.health ∧ (State.deferMark off pair s).boot = s.boot ∧ (State.deferMark off pair s).pwr = s.pwr ∧ (State.deferMark off pair s).exer = s.exer ∧ (State.deferMark off pair s).freeCtr = s.freeCtr := by
  have h := State.deferMark_keep (M := 0xC2240) rfl off pair s (Keep.refl _ s)
  exact ⟨h.pending, h.time rfl, h.ident, h.chk rfl, h.fence rfl, h.red rfl, h.vec rfl, h.str rfl, h.links rfl, h.route rfl, h.part rfl, h.mov rfl, h.job rfl, h.det rfl, h.health rfl, h.boot rfl, h.pwr rfl, h.exer rfl, h.freeCtr rfl⟩
@[simp] theorem State.dropMarks_frame (off : Nat) (s : State) :
    (State.dropMarks off s).pending = s.pending ∧ (State.dropMarks off s).time = s.time ∧ (State.dropMarks off s).ident = s.ident ∧ (State.dropMarks off s).chk = s.chk ∧ (State.dropMarks off s).fence = s.fence ∧ (State.dropMarks off s).red = s.red ∧ (State.dropMarks off s).upd = s.upd ∧ (State.dropMarks off s).vec = s.vec ∧ (State.dropMarks off s).str = s.str ∧ (State.dropMarks off s).links = s.links ∧ (State.dropMarks off s).route = s.route ∧ (State.dropMarks off s).part = s.part ∧ (State.dropMarks off s).adj = s.adj ∧ (State.dropMarks off s).mov = s.mov ∧ (State.dropMarks off s).job = s.job ∧ (State.dropMarks off s).det = s.det ∧ (State.dropMarks off s).health = s.health ∧ (State.dropMarks off s).tele = s.tele ∧ (State.dropMarks off s).acc = s.acc ∧ (State.dropMarks off s).boot = s.boot ∧ (State.dropMarks off s).pwr = s.pwr ∧ (State.dropMarks off s).exer = s.exer ∧ (State.dropMarks off s).freeCtr = s.freeCtr := by
  have h := State.dropMarks_keep (M := 0x200) rfl off s (Keep.refl _ s)
  exact ⟨h.pending, h.time rfl, h.ident, h.chk rfl, h.fence rfl, h.red rfl, h.upd rfl, h.vec rfl, h.str rfl, h.links rfl, h.route rfl, h.part rfl, h.adj rfl, h.mov rfl, h.job rfl, h.det rfl, h.health rfl, h.tele rfl, h.acc rfl, h.boot rfl, h.pwr rfl, h.exer rfl, h.freeCtr rfl⟩
@[simp] theorem State.markBlock_frame (t : Tier) (r : Region) (off : Nat) (s : State) :
    (State.markBlock t r off s).pending = s.pending ∧ (State.markBlock t r off s).time = s.time ∧ (State.markBlock t r off s).ident = s.ident ∧ (State.markBlock t r off s).fence = s.fence ∧ (State.markBlock t r off s).red = s.red ∧ (State.markBlock t r off s).upd = s.upd ∧ (State.markBlock t r off s).vec = s.vec ∧ (State.markBlock t r off s).str = s.str ∧ (State.markBlock t r off s).links = s.links ∧ (State.markBlock t r off s).route = s.route ∧ (State.markBlock t r off s).part = s.part ∧ (State.markBlock t r off s).adj = s.adj ∧ (State.markBlock t r off s).mov = s.mov ∧ (State.markBlock t r off s).job = s.job ∧ (State.markBlock t r off s).det = s.det ∧ (State.markBlock t r off s).health = s.health ∧ (State.markBlock t r off s).boot = s.boot ∧ (State.markBlock t r off s).pwr = s.pwr ∧ (State.markBlock t r off s).exer = s.exer ∧ (State.markBlock t r off s).freeCtr = s.freeCtr := by
  have h := State.markBlock_keep (M := 0xC0208) rfl t r off s (Keep.refl _ s)
  exact ⟨h.pending, h.time rfl, h.ident, h.fence rfl, h.red rfl, h.upd rfl, h.vec rfl, h.str rfl, h.links rfl, h.route rfl, h.part rfl, h.adj rfl, h.mov rfl, h.job rfl, h.det rfl, h.health rfl, h.boot rfl, h.pwr rfl, h.exer rfl, h.freeCtr rfl⟩
@[simp] theorem State.markOther_frame (t : Tier) (r : Region) (off : Nat) (s : State) :
    (State.markOther t r off s).pending = s.pending ∧ (State.markOther t r off s).time = s.time ∧ (State.markOther t r off s).ident = s.ident ∧ (State.markOther t r off s).fence = s.fence ∧ (State.markOther t r off s).red = s.red ∧ (State.markOther t r off s).vec = s.vec ∧ (State.markOther t r off s).str = s.str ∧ (State.markOther t r off s).links = s.links ∧ (State.markOther t r off s).route = s.route ∧ (State.markOther t r off s).part = s.part ∧ (State.markOther t r off s).mov = s.mov ∧ (State.markOther t r off s).job = s.job ∧ (State.markOther t r off s).det = s.det ∧ (State.markOther t r off s).health = s.health ∧ (State.markOther t r off s).boot = s.boot ∧ (State.markOther t r off s).pwr = s.pwr ∧ (State.markOther t r off s).exer = s.exer ∧ (State.markOther t r off s).freeCtr = s.freeCtr := by
  have h := State.markOther_keep (M := 0xC2248) rfl t r off s (Keep.refl _ s)
  exact ⟨h.pending, h.time rfl, h.ident, h.fence rfl, h.red rfl, h.vec rfl, h.str rfl, h.links rfl, h.route rfl, h.part rfl, h.mov rfl, h.job rfl, h.det rfl, h.health rfl, h.boot rfl, h.pwr rfl, h.exer rfl, h.freeCtr rfl⟩
@[simp] theorem State.markStored_frame (t : Tier) (r : Region) (off : Nat) (s : State) :
    (State.markStored t r off s).pending = s.pending ∧ (State.markStored t r off s).time = s.time ∧ (State.markStored t r off s).ident = s.ident ∧ (State.markStored t r off s).fence = s.fence ∧ (State.markStored t r off s).red = s.red ∧ (State.markStored t r off s).vec = s.vec ∧ (State.markStored t r off s).str = s.str ∧ (State.markStored t r off s).links = s.links ∧ (State.markStored t r off s).route = s.route ∧ (State.markStored t r off s).part = s.part ∧ (State.markStored t r off s).mov = s.mov ∧ (State.markStored t r off s).job = s.job ∧ (State.markStored t r off s).det = s.det ∧ (State.markStored t r off s).health = s.health ∧ (State.markStored t r off s).boot = s.boot ∧ (State.markStored t r off s).pwr = s.pwr ∧ (State.markStored t r off s).exer = s.exer ∧ (State.markStored t r off s).freeCtr = s.freeCtr := by
  have h := State.markStored_keep (M := 0xC2248) rfl t r off s (Keep.refl _ s)
  exact ⟨h.pending, h.time rfl, h.ident, h.fence rfl, h.red rfl, h.vec rfl, h.str rfl, h.links rfl, h.route rfl, h.part rfl, h.mov rfl, h.job rfl, h.det rfl, h.health rfl, h.boot rfl, h.pwr rfl, h.exer rfl, h.freeCtr rfl⟩
@[simp] theorem State.settleMarks_frame (off : Nat) (s : State) :
    (State.settleMarks off s).pending = s.pending ∧ (State.settleMarks off s).time = s.time ∧ (State.settleMarks off s).ident = s.ident ∧ (State.settleMarks off s).fence = s.fence ∧ (State.settleMarks off s).red = s.red ∧ (State.settleMarks off s).vec = s.vec ∧ (State.settleMarks off s).str = s.str ∧ (State.settleMarks off s).links = s.links ∧ (State.settleMarks off s).route = s.route ∧ (State.settleMarks off s).part = s.part ∧ (State.settleMarks off s).mov = s.mov ∧ (State.settleMarks off s).job = s.job ∧ (State.settleMarks off s).det = s.det ∧ (State.settleMarks off s).health = s.health ∧ (State.settleMarks off s).boot = s.boot ∧ (State.settleMarks off s).pwr = s.pwr ∧ (State.settleMarks off s).exer = s.exer ∧ (State.settleMarks off s).freeCtr = s.freeCtr := by
  have h := State.settleMarks_keep (M := 0xC2248) rfl off s (Keep.refl _ s)
  exact ⟨h.pending, h.time rfl, h.ident, h.fence rfl, h.red rfl, h.vec rfl, h.str rfl, h.links rfl, h.route rfl, h.part rfl, h.mov rfl, h.job rfl, h.det rfl, h.health rfl, h.boot rfl, h.pwr rfl, h.exer rfl, h.freeCtr rfl⟩
@[simp] theorem State.settleAll_frame (s : State) :
    (State.settleAll s).pending = s.pending ∧ (State.settleAll s).time = s.time ∧ (State.settleAll s).ident = s.ident ∧ (State.settleAll s).fence = s.fence ∧ (State.settleAll s).red = s.red ∧ (State.settleAll s).vec = s.vec ∧ (State.settleAll s).str = s.str ∧ (State.settleAll s).links = s.links ∧ (State.settleAll s).route = s.route ∧ (State.settleAll s).part = s.part ∧ (State.settleAll s).mov = s.mov ∧ (State.settleAll s).job = s.job ∧ (State.settleAll s).det = s.det ∧ (State.settleAll s).health = s.health ∧ (State.settleAll s).boot = s.boot ∧ (State.settleAll s).pwr = s.pwr ∧ (State.settleAll s).exer = s.exer ∧ (State.settleAll s).freeCtr = s.freeCtr := by
  have h := State.settleAll_keep (M := 0xC2248) rfl s (Keep.refl _ s)
  exact ⟨h.pending, h.time rfl, h.ident, h.fence rfl, h.red rfl, h.vec rfl, h.str rfl, h.links rfl, h.route rfl, h.part rfl, h.mov rfl, h.job rfl, h.det rfl, h.health rfl, h.boot rfl, h.pwr rfl, h.exer rfl, h.freeCtr rfl⟩
@[simp] theorem State.loseRecords_frame (sec base : Nat) (s : State) :
    (State.loseRecords sec base s).pending = s.pending ∧ (State.loseRecords sec base s).time = s.time ∧ (State.loseRecords sec base s).ident = s.ident ∧ (State.loseRecords sec base s).chk = s.chk ∧ (State.loseRecords sec base s).fence = s.fence ∧ (State.loseRecords sec base s).red = s.red ∧ (State.loseRecords sec base s).upd = s.upd ∧ (State.loseRecords sec base s).vec = s.vec ∧ (State.loseRecords sec base s).str = s.str ∧ (State.loseRecords sec base s).mem = s.mem ∧ (State.loseRecords sec base s).links = s.links ∧ (State.loseRecords sec base s).route = s.route ∧ (State.loseRecords sec base s).part = s.part ∧ (State.loseRecords sec base s).adj = s.adj ∧ (State.loseRecords sec base s).mov = s.mov ∧ (State.loseRecords sec base s).job = s.job ∧ (State.loseRecords sec base s).det = s.det ∧ (State.loseRecords sec base s).health = s.health ∧ (State.loseRecords sec base s).boot = s.boot ∧ (State.loseRecords sec base s).pwr = s.pwr ∧ (State.loseRecords sec base s).exer = s.exer ∧ (State.loseRecords sec base s).freeCtr = s.freeCtr := by
  have h := State.loseRecords_keep (M := 0xC0000) rfl sec base s (Keep.refl _ s)
  exact ⟨h.pending, h.time rfl, h.ident, h.chk rfl, h.fence rfl, h.red rfl, h.upd rfl, h.vec rfl, h.str rfl, h.mem rfl, h.links rfl, h.route rfl, h.part rfl, h.adj rfl, h.mov rfl, h.job rfl, h.det rfl, h.health rfl, h.boot rfl, h.pwr rfl, h.exer rfl, h.freeCtr rfl⟩
@[simp] theorem State.listPoison_frame (t : Tier) (sec : Nat) (s : State) :
    (State.listPoison t sec s).pending = s.pending ∧ (State.listPoison t sec s).time = s.time ∧ (State.listPoison t sec s).ident = s.ident ∧ (State.listPoison t sec s).chk = s.chk ∧ (State.listPoison t sec s).fence = s.fence ∧ (State.listPoison t sec s).red = s.red ∧ (State.listPoison t sec s).upd = s.upd ∧ (State.listPoison t sec s).vec = s.vec ∧ (State.listPoison t sec s).str = s.str ∧ (State.listPoison t sec s).links = s.links ∧ (State.listPoison t sec s).route = s.route ∧ (State.listPoison t sec s).part = s.part ∧ (State.listPoison t sec s).adj = s.adj ∧ (State.listPoison t sec s).mov = s.mov ∧ (State.listPoison t sec s).job = s.job ∧ (State.listPoison t sec s).det = s.det ∧ (State.listPoison t sec s).health = s.health ∧ (State.listPoison t sec s).boot = s.boot ∧ (State.listPoison t sec s).pwr = s.pwr ∧ (State.listPoison t sec s).exer = s.exer ∧ (State.listPoison t sec s).freeCtr = s.freeCtr := by
  have h := State.listPoison_keep (M := 0xC0200) rfl t sec s (Keep.refl _ s)
  exact ⟨h.pending, h.time rfl, h.ident, h.chk rfl, h.fence rfl, h.red rfl, h.upd rfl, h.vec rfl, h.str rfl, h.links rfl, h.route rfl, h.part rfl, h.adj rfl, h.mov rfl, h.job rfl, h.det rfl, h.health rfl, h.boot rfl, h.pwr rfl, h.exer rfl, h.freeCtr rfl⟩
@[simp] theorem State.setSlot_frame (l : LogSlot) (s : State) :
    (State.setSlot l s).pending = s.pending ∧ (State.setSlot l s).time = s.time ∧ (State.setSlot l s).ident = s.ident ∧ (State.setSlot l s).chk = s.chk ∧ (State.setSlot l s).fence = s.fence ∧ (State.setSlot l s).red = s.red ∧ (State.setSlot l s).upd = s.upd ∧ (State.setSlot l s).vec = s.vec ∧ (State.setSlot l s).str = s.str ∧ (State.setSlot l s).mem = s.mem ∧ (State.setSlot l s).links = s.links ∧ (State.setSlot l s).route = s.route ∧ (State.setSlot l s).adj = s.adj ∧ (State.setSlot l s).mov = s.mov ∧ (State.setSlot l s).job = s.job ∧ (State.setSlot l s).det = s.det ∧ (State.setSlot l s).health = s.health ∧ (State.setSlot l s).acc = s.acc ∧ (State.setSlot l s).boot = s.boot ∧ (State.setSlot l s).pwr = s.pwr ∧ (State.setSlot l s).exer = s.exer ∧ (State.setSlot l s).freeCtr = s.freeCtr := by
  have h := State.setSlot_keep (M := 0x41000) rfl l s (Keep.refl _ s)
  exact ⟨h.pending, h.time rfl, h.ident, h.chk rfl, h.fence rfl, h.red rfl, h.upd rfl, h.vec rfl, h.str rfl, h.mem rfl, h.links rfl, h.route rfl, h.adj rfl, h.mov rfl, h.job rfl, h.det rfl, h.health rfl, h.acc rfl, h.boot rfl, h.pwr rfl, h.exer rfl, h.freeCtr rfl⟩
@[simp] theorem State.poisonSlot_frame (r : Region) (off : Nat) (s : State) :
    (State.poisonSlot r off s).pending = s.pending ∧ (State.poisonSlot r off s).time = s.time ∧ (State.poisonSlot r off s).ident = s.ident ∧ (State.poisonSlot r off s).chk = s.chk ∧ (State.poisonSlot r off s).fence = s.fence ∧ (State.poisonSlot r off s).red = s.red ∧ (State.poisonSlot r off s).upd = s.upd ∧ (State.poisonSlot r off s).vec = s.vec ∧ (State.poisonSlot r off s).str = s.str ∧ (State.poisonSlot r off s).mem = s.mem ∧ (State.poisonSlot r off s).links = s.links ∧ (State.poisonSlot r off s).route = s.route ∧ (State.poisonSlot r off s).adj = s.adj ∧ (State.poisonSlot r off s).mov = s.mov ∧ (State.poisonSlot r off s).job = s.job ∧ (State.poisonSlot r off s).det = s.det ∧ (State.poisonSlot r off s).health = s.health ∧ (State.poisonSlot r off s).acc = s.acc ∧ (State.poisonSlot r off s).boot = s.boot ∧ (State.poisonSlot r off s).pwr = s.pwr ∧ (State.poisonSlot r off s).exer = s.exer ∧ (State.poisonSlot r off s).freeCtr = s.freeCtr := by
  have h := State.poisonSlot_keep (M := 0x41000) rfl r off s (Keep.refl _ s)
  exact ⟨h.pending, h.time rfl, h.ident, h.chk rfl, h.fence rfl, h.red rfl, h.upd rfl, h.vec rfl, h.str rfl, h.mem rfl, h.links rfl, h.route rfl, h.adj rfl, h.mov rfl, h.job rfl, h.det rfl, h.health rfl, h.acc rfl, h.boot rfl, h.pwr rfl, h.exer rfl, h.freeCtr rfl⟩
@[simp] theorem State.foundBad_frame (t : Tier) (sec : Nat) (s : State) :
    (State.foundBad t sec s).pending = s.pending ∧ (State.foundBad t sec s).time = s.time ∧ (State.foundBad t sec s).ident = s.ident ∧ (State.foundBad t sec s).fence = s.fence ∧ (State.foundBad t sec s).red = s.red ∧ (State.foundBad t sec s).vec = s.vec ∧ (State.foundBad t sec s).str = s.str ∧ (State.foundBad t sec s).links = s.links ∧ (State.foundBad t sec s).route = s.route ∧ (State.foundBad t sec s).mov = s.mov ∧ (State.foundBad t sec s).job = s.job ∧ (State.foundBad t sec s).det = s.det ∧ (State.foundBad t sec s).health = s.health ∧ (State.foundBad t sec s).boot = s.boot ∧ (State.foundBad t sec s).pwr = s.pwr ∧ (State.foundBad t sec s).exer = s.exer ∧ (State.foundBad t sec s).freeCtr = s.freeCtr := by
  have h := State.foundBad_keep (M := 0xC3248) rfl t sec s (Keep.refl _ s)
  exact ⟨h.pending, h.time rfl, h.ident, h.fence rfl, h.red rfl, h.vec rfl, h.str rfl, h.links rfl, h.route rfl, h.mov rfl, h.job rfl, h.det rfl, h.health rfl, h.boot rfl, h.pwr rfl, h.exer rfl, h.freeCtr rfl⟩
@[simp] theorem State.spare_frame (t : Tier) (page cause : Nat) (s : State) :
    (State.spare t page cause s).pending = s.pending ∧ (State.spare t page cause s).time = s.time ∧ (State.spare t page cause s).ident = s.ident ∧ (State.spare t page cause s).fence = s.fence ∧ (State.spare t page cause s).red = s.red ∧ (State.spare t page cause s).vec = s.vec ∧ (State.spare t page cause s).str = s.str ∧ (State.spare t page cause s).links = s.links ∧ (State.spare t page cause s).route = s.route ∧ (State.spare t page cause s).mov = s.mov ∧ (State.spare t page cause s).job = s.job ∧ (State.spare t page cause s).det = s.det ∧ (State.spare t page cause s).boot = s.boot ∧ (State.spare t page cause s).exer = s.exer ∧ (State.spare t page cause s).freeCtr = s.freeCtr := by
  have h := State.spare_keep (M := 0x2E3248) rfl t page cause s (Keep.refl _ s)
  exact ⟨h.pending, h.time rfl, h.ident, h.fence rfl, h.red rfl, h.vec rfl, h.str rfl, h.links rfl, h.route rfl, h.mov rfl, h.job rfl, h.det rfl, h.boot rfl, h.exer rfl, h.freeCtr rfl⟩
@[simp] theorem State.corrected_frame (t : Tier) (sec symbols : Nat) (s : State) :
    (State.corrected t sec symbols s).pending = s.pending ∧ (State.corrected t sec symbols s).time = s.time ∧ (State.corrected t sec symbols s).ident = s.ident ∧ (State.corrected t sec symbols s).fence = s.fence ∧ (State.corrected t sec symbols s).red = s.red ∧ (State.corrected t sec symbols s).vec = s.vec ∧ (State.corrected t sec symbols s).str = s.str ∧ (State.corrected t sec symbols s).links = s.links ∧ (State.corrected t sec symbols s).route = s.route ∧ (State.corrected t sec symbols s).mov = s.mov ∧ (State.corrected t sec symbols s).job = s.job ∧ (State.corrected t sec symbols s).det = s.det ∧ (State.corrected t sec symbols s).boot = s.boot ∧ (State.corrected t sec symbols s).exer = s.exer ∧ (State.corrected t sec symbols s).freeCtr = s.freeCtr := by
  have h := State.corrected_keep (M := 0x2E3248) rfl t sec symbols s (Keep.refl _ s)
  exact ⟨h.pending, h.time rfl, h.ident, h.fence rfl, h.red rfl, h.vec rfl, h.str rfl, h.links rfl, h.route rfl, h.mov rfl, h.job rfl, h.det rfl, h.boot rfl, h.exer rfl, h.freeCtr rfl⟩
@[simp] theorem State.readSector_frame (t : Tier) (sec : Nat) (s : State) :
    (State.readSector t sec s).pending = s.pending ∧ (State.readSector t sec s).time = s.time ∧ (State.readSector t sec s).ident = s.ident ∧ (State.readSector t sec s).fence = s.fence ∧ (State.readSector t sec s).red = s.red ∧ (State.readSector t sec s).vec = s.vec ∧ (State.readSector t sec s).str = s.str ∧ (State.readSector t sec s).links = s.links ∧ (State.readSector t sec s).route = s.route ∧ (State.readSector t sec s).mov = s.mov ∧ (State.readSector t sec s).job = s.job ∧ (State.readSector t sec s).det = s.det ∧ (State.readSector t sec s).boot = s.boot ∧ (State.readSector t sec s).exer = s.exer ∧ (State.readSector t sec s).freeCtr = s.freeCtr := by
  have h := State.readSector_keep (M := 0x2E3248) rfl t sec s (Keep.refl _ s)
  exact ⟨h.pending, h.time rfl, h.ident, h.fence rfl, h.red rfl, h.vec rfl, h.str rfl, h.links rfl, h.route rfl, h.mov rfl, h.job rfl, h.det rfl, h.boot rfl, h.exer rfl, h.freeCtr rfl⟩
@[simp] theorem State.readRange_frame (t : Tier) (off n : Nat) (s : State) :
    (State.readRange t off n s).pending = s.pending ∧ (State.readRange t off n s).time = s.time ∧ (State.readRange t off n s).ident = s.ident ∧ (State.readRange t off n s).fence = s.fence ∧ (State.readRange t off n s).red = s.red ∧ (State.readRange t off n s).vec = s.vec ∧ (State.readRange t off n s).str = s.str ∧ (State.readRange t off n s).links = s.links ∧ (State.readRange t off n s).route = s.route ∧ (State.readRange t off n s).mov = s.mov ∧ (State.readRange t off n s).job = s.job ∧ (State.readRange t off n s).det = s.det ∧ (State.readRange t off n s).boot = s.boot ∧ (State.readRange t off n s).exer = s.exer ∧ (State.readRange t off n s).freeCtr = s.freeCtr := by
  have h := State.readRange_keep (M := 0x2E3248) rfl t off n s (Keep.refl _ s)
  exact ⟨h.pending, h.time rfl, h.ident, h.fence rfl, h.red rfl, h.vec rfl, h.str rfl, h.links rfl, h.route rfl, h.mov rfl, h.job rfl, h.det rfl, h.boot rfl, h.exer rfl, h.freeCtr rfl⟩
@[simp] theorem State.readMem_frame (t : Tier) (off n : Nat) (s : State) :
    (State.readMem t off n s).2.2.pending = s.pending ∧ (State.readMem t off n s).2.2.time = s.time ∧ (State.readMem t off n s).2.2.ident = s.ident ∧ (State.readMem t off n s).2.2.fence = s.fence ∧ (State.readMem t off n s).2.2.red = s.red ∧ (State.readMem t off n s).2.2.vec = s.vec ∧ (State.readMem t off n s).2.2.str = s.str ∧ (State.readMem t off n s).2.2.links = s.links ∧ (State.readMem t off n s).2.2.route = s.route ∧ (State.readMem t off n s).2.2.mov = s.mov ∧ (State.readMem t off n s).2.2.job = s.job ∧ (State.readMem t off n s).2.2.det = s.det ∧ (State.readMem t off n s).2.2.boot = s.boot ∧ (State.readMem t off n s).2.2.exer = s.exer ∧ (State.readMem t off n s).2.2.freeCtr = s.freeCtr := by
  have h := State.readMem_keep (M := 0x2E3248) rfl t off n s (Keep.refl _ s)
  exact ⟨h.pending, h.time rfl, h.ident, h.fence rfl, h.red rfl, h.vec rfl, h.str rfl, h.links rfl, h.route rfl, h.mov rfl, h.job rfl, h.det rfl, h.boot rfl, h.exer rfl, h.freeCtr rfl⟩
@[simp] theorem State.writeMem_frame (t : Tier) (off : Nat) (l : List Byte) (s : State) :
    (State.writeMem t off l s).pending = s.pending ∧ (State.writeMem t off l s).time = s.time ∧ (State.writeMem t off l s).ident = s.ident ∧ (State.writeMem t off l s).fence = s.fence ∧ (State.writeMem t off l s).red = s.red ∧ (State.writeMem t off l s).vec = s.vec ∧ (State.writeMem t off l s).str = s.str ∧ (State.writeMem t off l s).links = s.links ∧ (State.writeMem t off l s).route = s.route ∧ (State.writeMem t off l s).mov = s.mov ∧ (State.writeMem t off l s).job = s.job ∧ (State.writeMem t off l s).det = s.det ∧ (State.writeMem t off l s).boot = s.boot ∧ (State.writeMem t off l s).exer = s.exer ∧ (State.writeMem t off l s).freeCtr = s.freeCtr := by
  have h := State.writeMem_keep (M := 0x2E3248) rfl t off l s (Keep.refl _ s)
  exact ⟨h.pending, h.time rfl, h.ident, h.fence rfl, h.red rfl, h.vec rfl, h.str rfl, h.links rfl, h.route rfl, h.mov rfl, h.job rfl, h.det rfl, h.boot rfl, h.exer rfl, h.freeCtr rfl⟩
@[simp] theorem State.storedCheckEvent_frame (unit : Nat) (t : Tier) (r : Region) (h : Header) (s : State) :
    (State.storedCheckEvent unit t r h s).pending = s.pending ∧ (State.storedCheckEvent unit t r h s).time = s.time ∧ (State.storedCheckEvent unit t r h s).ident = s.ident ∧ (State.storedCheckEvent unit t r h s).chk = s.chk ∧ (State.storedCheckEvent unit t r h s).fence = s.fence ∧ (State.storedCheckEvent unit t r h s).red = s.red ∧ (State.storedCheckEvent unit t r h s).upd = s.upd ∧ (State.storedCheckEvent unit t r h s).vec = s.vec ∧ (State.storedCheckEvent unit t r h s).str = s.str ∧ (State.storedCheckEvent unit t r h s).mem = s.mem ∧ (State.storedCheckEvent unit t r h s).links = s.links ∧ (State.storedCheckEvent unit t r h s).route = s.route ∧ (State.storedCheckEvent unit t r h s).part = s.part ∧ (State.storedCheckEvent unit t r h s).adj = s.adj ∧ (State.storedCheckEvent unit t r h s).mov = s.mov ∧ (State.storedCheckEvent unit t r h s).job = s.job ∧ (State.storedCheckEvent unit t r h s).det = s.det ∧ (State.storedCheckEvent unit t r h s).health = s.health ∧ (State.storedCheckEvent unit t r h s).boot = s.boot ∧ (State.storedCheckEvent unit t r h s).pwr = s.pwr ∧ (State.storedCheckEvent unit t r h s).exer = s.exer ∧ (State.storedCheckEvent unit t r h s).freeCtr = s.freeCtr := by
  have h := State.storedCheckEvent_keep (M := 0xC0000) rfl unit t r h s (Keep.refl _ s)
  exact ⟨h.pending, h.time rfl, h.ident, h.chk rfl, h.fence rfl, h.red rfl, h.upd rfl, h.vec rfl, h.str rfl, h.mem rfl, h.links rfl, h.route rfl, h.part rfl, h.adj rfl, h.mov rfl, h.job rfl, h.det rfl, h.health rfl, h.boot rfl, h.pwr rfl, h.exer rfl, h.freeCtr rfl⟩
@[simp] theorem State.checkStored_frame (unit : Nat) (t : Tier) (r : Region) (off : Nat) (s : State) :
    (State.checkStored unit t r off s).2.pending = s.pending ∧ (State.checkStored unit t r off s).2.time = s.time ∧ (State.checkStored unit t r off s).2.ident = s.ident ∧ (State.checkStored unit t r off s).2.fence = s.fence ∧ (State.checkStored unit t r off s).2.red = s.red ∧ (State.checkStored unit t r off s).2.vec = s.vec ∧ (State.checkStored unit t r off s).2.str = s.str ∧ (State.checkStored unit t r off s).2.links = s.links ∧ (State.checkStored unit t r off s).2.route = s.route ∧ (State.checkStored unit t r off s).2.part = s.part ∧ (State.checkStored unit t r off s).2.mov = s.mov ∧ (State.checkStored unit t r off s).2.job = s.job ∧ (State.checkStored unit t r off s).2.det = s.det ∧ (State.checkStored unit t r off s).2.health = s.health ∧ (State.checkStored unit t r off s).2.boot = s.boot ∧ (State.checkStored unit t r off s).2.pwr = s.pwr ∧ (State.checkStored unit t r off s).2.exer = s.exer ∧ (State.checkStored unit t r off s).2.freeCtr = s.freeCtr := by
  have h := State.checkStored_keep (M := 0xC2248) rfl unit t r off s (Keep.refl _ s)
  exact ⟨h.pending, h.time rfl, h.ident, h.fence rfl, h.red rfl, h.vec rfl, h.str rfl, h.links rfl, h.route rfl, h.part rfl, h.mov rfl, h.job rfl, h.det rfl, h.health rfl, h.boot rfl, h.pwr rfl, h.exer rfl, h.freeCtr rfl⟩
@[simp] theorem State.readBlock_frame (unit : Nat) (t : Tier) (off : Nat) (s : State) :
    (State.readBlock unit t off s).2.pending = s.pending ∧ (State.readBlock unit t off s).2.time = s.time ∧ (State.readBlock unit t off s).2.ident = s.ident ∧ (State.readBlock unit t off s).2.fence = s.fence ∧ (State.readBlock unit t off s).2.red = s.red ∧ (State.readBlock unit t off s).2.vec = s.vec ∧ (State.readBlock unit t off s).2.str = s.str ∧ (State.readBlock unit t off s).2.links = s.links ∧ (State.readBlock unit t off s).2.route = s.route ∧ (State.readBlock unit t off s).2.mov = s.mov ∧ (State.readBlock unit t off s).2.job = s.job ∧ (State.readBlock unit t off s).2.det = s.det ∧ (State.readBlock unit t off s).2.boot = s.boot ∧ (State.readBlock unit t off s).2.exer = s.exer ∧ (State.readBlock unit t off s).2.freeCtr = s.freeCtr := by
  have h := State.readBlock_keep (M := 0x2E3248) rfl unit t off s (Keep.refl _ s)
  exact ⟨h.pending, h.time rfl, h.ident, h.fence rfl, h.red rfl, h.vec rfl, h.str rfl, h.links rfl, h.route rfl, h.mov rfl, h.job rfl, h.det rfl, h.boot rfl, h.exer rfl, h.freeCtr rfl⟩
@[simp] theorem State.readCarried_frame (t : Tier) (off : Nat) (s : State) :
    (State.readCarried t off s).2.2.pending = s.pending ∧ (State.readCarried t off s).2.2.time = s.time ∧ (State.readCarried t off s).2.2.ident = s.ident ∧ (State.readCarried t off s).2.2.fence = s.fence ∧ (State.readCarried t off s).2.2.red = s.red ∧ (State.readCarried t off s).2.2.vec = s.vec ∧ (State.readCarried t off s).2.2.str = s.str ∧ (State.readCarried t off s).2.2.links = s.links ∧ (State.readCarried t off s).2.2.route = s.route ∧ (State.readCarried t off s).2.2.mov = s.mov ∧ (State.readCarried t off s).2.2.job = s.job ∧ (State.readCarried t off s).2.2.det = s.det ∧ (State.readCarried t off s).2.2.boot = s.boot ∧ (State.readCarried t off s).2.2.exer = s.exer ∧ (State.readCarried t off s).2.2.freeCtr = s.freeCtr := by
  have h := State.readCarried_keep (M := 0x2E3248) rfl t off s (Keep.refl _ s)
  exact ⟨h.pending, h.time rfl, h.ident, h.fence rfl, h.red rfl, h.vec rfl, h.str rfl, h.links rfl, h.route rfl, h.mov rfl, h.job rfl, h.det rfl, h.boot rfl, h.exer rfl, h.freeCtr rfl⟩
@[simp] theorem State.writeBytes_frame (t : Tier) (off : Nat) (hdr pay : List Byte) (s : State) :
    (State.writeBytes t off hdr pay s).pending = s.pending ∧ (State.writeBytes t off hdr pay s).time = s.time ∧ (State.writeBytes t off hdr pay s).ident = s.ident ∧ (State.writeBytes t off hdr pay s).fence = s.fence ∧ (State.writeBytes t off hdr pay s).red = s.red ∧ (State.writeBytes t off hdr pay s).vec = s.vec ∧ (State.writeBytes t off hdr pay s).str = s.str ∧ (State.writeBytes t off hdr pay s).links = s.links ∧ (State.writeBytes t off hdr pay s).route = s.route ∧ (State.writeBytes t off hdr pay s).mov = s.mov ∧ (State.writeBytes t off hdr pay s).job = s.job ∧ (State.writeBytes t off hdr pay s).det = s.det ∧ (State.writeBytes t off hdr pay s).boot = s.boot ∧ (State.writeBytes t off hdr pay s).exer = s.exer ∧ (State.writeBytes t off hdr pay s).freeCtr = s.freeCtr := by
  have h := State.writeBytes_keep (M := 0x2E3248) rfl t off hdr pay s (Keep.refl _ s)
  exact ⟨h.pending, h.time rfl, h.ident, h.fence rfl, h.red rfl, h.vec rfl, h.str rfl, h.links rfl, h.route rfl, h.mov rfl, h.job rfl, h.det rfl, h.boot rfl, h.exer rfl, h.freeCtr rfl⟩
@[simp] theorem State.writeCarried_frame (t : Tier) (off : Nat) (b : Block) (s : State) :
    (State.writeCarried t off b s).pending = s.pending ∧ (State.writeCarried t off b s).time = s.time ∧ (State.writeCarried t off b s).ident = s.ident ∧ (State.writeCarried t off b s).fence = s.fence ∧ (State.writeCarried t off b s).red = s.red ∧ (State.writeCarried t off b s).vec = s.vec ∧ (State.writeCarried t off b s).str = s.str ∧ (State.writeCarried t off b s).links = s.links ∧ (State.writeCarried t off b s).route = s.route ∧ (State.writeCarried t off b s).mov = s.mov ∧ (State.writeCarried t off b s).job = s.job ∧ (State.writeCarried t off b s).det = s.det ∧ (State.writeCarried t off b s).boot = s.boot ∧ (State.writeCarried t off b s).exer = s.exer ∧ (State.writeCarried t off b s).freeCtr = s.freeCtr := by
  have h := State.writeCarried_keep (M := 0x2E3248) rfl t off b s (Keep.refl _ s)
  exact ⟨h.pending, h.time rfl, h.ident, h.fence rfl, h.red rfl, h.vec rfl, h.str rfl, h.links rfl, h.route rfl, h.mov rfl, h.job rfl, h.det rfl, h.boot rfl, h.exer rfl, h.freeCtr rfl⟩
@[simp] theorem State.writeBlock_frame (t : Tier) (off : Nat) (b : Block) (s : State) :
    (State.writeBlock t off b s).pending = s.pending ∧ (State.writeBlock t off b s).time = s.time ∧ (State.writeBlock t off b s).ident = s.ident ∧ (State.writeBlock t off b s).fence = s.fence ∧ (State.writeBlock t off b s).red = s.red ∧ (State.writeBlock t off b s).vec = s.vec ∧ (State.writeBlock t off b s).str = s.str ∧ (State.writeBlock t off b s).links = s.links ∧ (State.writeBlock t off b s).route = s.route ∧ (State.writeBlock t off b s).mov = s.mov ∧ (State.writeBlock t off b s).job = s.job ∧ (State.writeBlock t off b s).det = s.det ∧ (State.writeBlock t off b s).boot = s.boot ∧ (State.writeBlock t off b s).exer = s.exer ∧ (State.writeBlock t off b s).freeCtr = s.freeCtr := by
  have h := State.writeBlock_keep (M := 0x2E3248) rfl t off b s (Keep.refl _ s)
  exact ⟨h.pending, h.time rfl, h.ident, h.fence rfl, h.red rfl, h.vec rfl, h.str rfl, h.links rfl, h.route rfl, h.mov rfl, h.job rfl, h.det rfl, h.boot rfl, h.exer rfl, h.freeCtr rfl⟩
@[simp] theorem State.copyPage_frame (off : Nat) (s : State) :
    (State.copyPage off s).pending = s.pending ∧ (State.copyPage off s).time = s.time ∧ (State.copyPage off s).ident = s.ident ∧ (State.copyPage off s).fence = s.fence ∧ (State.copyPage off s).red = s.red ∧ (State.copyPage off s).vec = s.vec ∧ (State.copyPage off s).str = s.str ∧ (State.copyPage off s).links = s.links ∧ (State.copyPage off s).route = s.route ∧ (State.copyPage off s).mov = s.mov ∧ (State.copyPage off s).job = s.job ∧ (State.copyPage off s).det = s.det ∧ (State.copyPage off s).boot = s.boot ∧ (State.copyPage off s).exer = s.exer ∧ (State.copyPage off s).freeCtr = s.freeCtr := by
  have h := State.copyPage_keep (M := 0x2E3248) rfl off s (Keep.refl _ s)
  exact ⟨h.pending, h.time rfl, h.ident, h.fence rfl, h.red rfl, h.vec rfl, h.str rfl, h.links rfl, h.route rfl, h.mov rfl, h.job rfl, h.det rfl, h.boot rfl, h.exer rfl, h.freeCtr rfl⟩
@[simp] theorem State.setPort_frame (p : Port) (f : PortSt → PortSt) (s : State) :
    (State.setPort p f s).pending = s.pending ∧ (State.setPort p f s).time = s.time ∧ (State.setPort p f s).ident = s.ident ∧ (State.setPort p f s).chk = s.chk ∧ (State.setPort p f s).fence = s.fence ∧ (State.setPort p f s).red = s.red ∧ (State.setPort p f s).upd = s.upd ∧ (State.setPort p f s).vec = s.vec ∧ (State.setPort p f s).str = s.str ∧ (State.setPort p f s).mem = s.mem ∧ (State.setPort p f s).route = s.route ∧ (State.setPort p f s).part = s.part ∧ (State.setPort p f s).adj = s.adj ∧ (State.setPort p f s).mov = s.mov ∧ (State.setPort p f s).job = s.job ∧ (State.setPort p f s).det = s.det ∧ (State.setPort p f s).health = s.health ∧ (State.setPort p f s).tele = s.tele ∧ (State.setPort p f s).acc = s.acc ∧ (State.setPort p f s).boot = s.boot ∧ (State.setPort p f s).pwr = s.pwr ∧ (State.setPort p f s).exer = s.exer ∧ (State.setPort p f s).freeCtr = s.freeCtr := by
  have h := State.setPort_keep (M := 0x400) rfl p f s (Keep.refl _ s)
  exact ⟨h.pending, h.time rfl, h.ident, h.chk rfl, h.fence rfl, h.red rfl, h.upd rfl, h.vec rfl, h.str rfl, h.mem rfl, h.route rfl, h.part rfl, h.adj rfl, h.mov rfl, h.job rfl, h.det rfl, h.health rfl, h.tele rfl, h.acc rfl, h.boot rfl, h.pwr rfl, h.exer rfl, h.freeCtr rfl⟩
@[simp] theorem State.deliver_frame (port : Option Port) (vc : BitVec 3) (pk : Packet) (s : State) :
    (State.deliver port vc pk s).pending = s.pending ∧ (State.deliver port vc pk s).time = s.time ∧ (State.deliver port vc pk s).ident = s.ident ∧ (State.deliver port vc pk s).chk = s.chk ∧ (State.deliver port vc pk s).fence = s.fence ∧ (State.deliver port vc pk s).red = s.red ∧ (State.deliver port vc pk s).upd = s.upd ∧ (State.deliver port vc pk s).vec = s.vec ∧ (State.deliver port vc pk s).str = s.str ∧ (State.deliver port vc pk s).mem = s.mem ∧ (State.deliver port vc pk s).links = s.links ∧ (State.deliver port vc pk s).part = s.part ∧ (State.deliver port vc pk s).adj = s.adj ∧ (State.deliver port vc pk s).mov = s.mov ∧ (State.deliver port vc pk s).job = s.job ∧ (State.deliver port vc pk s).det = s.det ∧ (State.deliver port vc pk s).health = s.health ∧ (State.deliver port vc pk s).tele = s.tele ∧ (State.deliver port vc pk s).acc = s.acc ∧ (State.deliver port vc pk s).boot = s.boot ∧ (State.deliver port vc pk s).pwr = s.pwr ∧ (State.deliver port vc pk s).exer = s.exer ∧ (State.deliver port vc pk s).freeCtr = s.freeCtr := by
  have h := State.deliver_keep (M := 0x800) rfl port vc pk s (Keep.refl _ s)
  exact ⟨h.pending, h.time rfl, h.ident, h.chk rfl, h.fence rfl, h.red rfl, h.upd rfl, h.vec rfl, h.str rfl, h.mem rfl, h.links rfl, h.part rfl, h.adj rfl, h.mov rfl, h.job rfl, h.det rfl, h.health rfl, h.tele rfl, h.acc rfl, h.boot rfl, h.pwr rfl, h.exer rfl, h.freeCtr rfl⟩
@[simp] theorem State.takePk_frame (pk : Packet) (s : State) :
    (State.takePk pk s).pending = s.pending ∧ (State.takePk pk s).time = s.time ∧ (State.takePk pk s).ident = s.ident ∧ (State.takePk pk s).chk = s.chk ∧ (State.takePk pk s).fence = s.fence ∧ (State.takePk pk s).red = s.red ∧ (State.takePk pk s).upd = s.upd ∧ (State.takePk pk s).vec = s.vec ∧ (State.takePk pk s).str = s.str ∧ (State.takePk pk s).mem = s.mem ∧ (State.takePk pk s).links = s.links ∧ (State.takePk pk s).part = s.part ∧ (State.takePk pk s).adj = s.adj ∧ (State.takePk pk s).mov = s.mov ∧ (State.takePk pk s).job = s.job ∧ (State.takePk pk s).det = s.det ∧ (State.takePk pk s).health = s.health ∧ (State.takePk pk s).tele = s.tele ∧ (State.takePk pk s).acc = s.acc ∧ (State.takePk pk s).boot = s.boot ∧ (State.takePk pk s).pwr = s.pwr ∧ (State.takePk pk s).exer = s.exer ∧ (State.takePk pk s).freeCtr = s.freeCtr := by
  have h := State.takePk_keep (M := 0x800) rfl pk s (Keep.refl _ s)
  exact ⟨h.pending, h.time rfl, h.ident, h.chk rfl, h.fence rfl, h.red rfl, h.upd rfl, h.vec rfl, h.str rfl, h.mem rfl, h.links rfl, h.part rfl, h.adj rfl, h.mov rfl, h.job rfl, h.det rfl, h.health rfl, h.tele rfl, h.acc rfl, h.boot rfl, h.pwr rfl, h.exer rfl, h.freeCtr rfl⟩
@[simp] theorem State.tracePk_frame (kind : Nat) (p : Port) (vc : BitVec 3) (pk : Packet) (s : State) :
    (State.tracePk kind p vc pk s).pending = s.pending ∧ (State.tracePk kind p vc pk s).time = s.time ∧ (State.tracePk kind p vc pk s).ident = s.ident ∧ (State.tracePk kind p vc pk s).chk = s.chk ∧ (State.tracePk kind p vc pk s).fence = s.fence ∧ (State.tracePk kind p vc pk s).red = s.red ∧ (State.tracePk kind p vc pk s).upd = s.upd ∧ (State.tracePk kind p vc pk s).vec = s.vec ∧ (State.tracePk kind p vc pk s).str = s.str ∧ (State.tracePk kind p vc pk s).mem = s.mem ∧ (State.tracePk kind p vc pk s).links = s.links ∧ (State.tracePk kind p vc pk s).route = s.route ∧ (State.tracePk kind p vc pk s).part = s.part ∧ (State.tracePk kind p vc pk s).adj = s.adj ∧ (State.tracePk kind p vc pk s).mov = s.mov ∧ (State.tracePk kind p vc pk s).job = s.job ∧ (State.tracePk kind p vc pk s).det = s.det ∧ (State.tracePk kind p vc pk s).health = s.health ∧ (State.tracePk kind p vc pk s).acc = s.acc ∧ (State.tracePk kind p vc pk s).boot = s.boot ∧ (State.tracePk kind p vc pk s).pwr = s.pwr ∧ (State.tracePk kind p vc pk s).exer = s.exer ∧ (State.tracePk kind p vc pk s).freeCtr = s.freeCtr := by
  have h := State.tracePk_keep (M := 0x40000) rfl kind p vc pk s (Keep.refl _ s)
  exact ⟨h.pending, h.time rfl, h.ident, h.chk rfl, h.fence rfl, h.red rfl, h.upd rfl, h.vec rfl, h.str rfl, h.mem rfl, h.links rfl, h.route rfl, h.part rfl, h.adj rfl, h.mov rfl, h.job rfl, h.det rfl, h.health rfl, h.acc rfl, h.boot rfl, h.pwr rfl, h.exer rfl, h.freeCtr rfl⟩
@[simp] theorem State.queueOn_frame (p : Port) (x : Queued) (s : State) :
    (State.queueOn p x s).pending = s.pending ∧ (State.queueOn p x s).time = s.time ∧ (State.queueOn p x s).ident = s.ident ∧ (State.queueOn p x s).chk = s.chk ∧ (State.queueOn p x s).fence = s.fence ∧ (State.queueOn p x s).red = s.red ∧ (State.queueOn p x s).upd = s.upd ∧ (State.queueOn p x s).vec = s.vec ∧ (State.queueOn p x s).str = s.str ∧ (State.queueOn p x s).mem = s.mem ∧ (State.queueOn p x s).route = s.route ∧ (State.queueOn p x s).part = s.part ∧ (State.queueOn p x s).adj = s.adj ∧ (State.queueOn p x s).mov = s.mov ∧ (State.queueOn p x s).job = s.job ∧ (State.queueOn p x s).det = s.det ∧ (State.queueOn p x s).health = s.health ∧ (State.queueOn p x s).acc = s.acc ∧ (State.queueOn p x s).boot = s.boot ∧ (State.queueOn p x s).pwr = s.pwr ∧ (State.queueOn p x s).exer = s.exer ∧ (State.queueOn p x s).freeCtr = s.freeCtr := by
  have h := State.queueOn_keep (M := 0x40400) rfl p x s (Keep.refl _ s)
  exact ⟨h.pending, h.time rfl, h.ident, h.chk rfl, h.fence rfl, h.red rfl, h.upd rfl, h.vec rfl, h.str rfl, h.mem rfl, h.route rfl, h.part rfl, h.adj rfl, h.mov rfl, h.job rfl, h.det rfl, h.health rfl, h.acc rfl, h.boot rfl, h.pwr rfl, h.exer rfl, h.freeCtr rfl⟩
@[simp] theorem State.freePool_frame (n : Nat) (s : State) :
    (State.freePool n s).pending = s.pending ∧ (State.freePool n s).time = s.time ∧ (State.freePool n s).ident = s.ident ∧ (State.freePool n s).chk = s.chk ∧ (State.freePool n s).fence = s.fence ∧ (State.freePool n s).red = s.red ∧ (State.freePool n s).upd = s.upd ∧ (State.freePool n s).vec = s.vec ∧ (State.freePool n s).str = s.str ∧ (State.freePool n s).mem = s.mem ∧ (State.freePool n s).links = s.links ∧ (State.freePool n s).part = s.part ∧ (State.freePool n s).adj = s.adj ∧ (State.freePool n s).mov = s.mov ∧ (State.freePool n s).job = s.job ∧ (State.freePool n s).det = s.det ∧ (State.freePool n s).health = s.health ∧ (State.freePool n s).tele = s.tele ∧ (State.freePool n s).acc = s.acc ∧ (State.freePool n s).boot = s.boot ∧ (State.freePool n s).pwr = s.pwr ∧ (State.freePool n s).exer = s.exer ∧ (State.freePool n s).freeCtr = s.freeCtr := by
  have h := State.freePool_keep (M := 0x800) rfl n s (Keep.refl _ s)
  exact ⟨h.pending, h.time rfl, h.ident, h.chk rfl, h.fence rfl, h.red rfl, h.upd rfl, h.vec rfl, h.str rfl, h.mem rfl, h.links rfl, h.part rfl, h.adj rfl, h.mov rfl, h.job rfl, h.det rfl, h.health rfl, h.tele rfl, h.acc rfl, h.boot rfl, h.pwr rfl, h.exer rfl, h.freeCtr rfl⟩
@[simp] theorem State.switchPk_frame (x : PoolPk) (s : State) :
    (State.switchPk x s).pending = s.pending ∧ (State.switchPk x s).time = s.time ∧ (State.switchPk x s).ident = s.ident ∧ (State.switchPk x s).chk = s.chk ∧ (State.switchPk x s).fence = s.fence ∧ (State.switchPk x s).red = s.red ∧ (State.switchPk x s).upd = s.upd ∧ (State.switchPk x s).vec = s.vec ∧ (State.switchPk x s).str = s.str ∧ (State.switchPk x s).mem = s.mem ∧ (State.switchPk x s).part = s.part ∧ (State.switchPk x s).adj = s.adj ∧ (State.switchPk x s).mov = s.mov ∧ (State.switchPk x s).job = s.job ∧ (State.switchPk x s).det = s.det ∧ (State.switchPk x s).health = s.health ∧ (State.switchPk x s).boot = s.boot ∧ (State.switchPk x s).pwr = s.pwr ∧ (State.switchPk x s).exer = s.exer ∧ (State.switchPk x s).freeCtr = s.freeCtr := by
  have h := State.switchPk_keep (M := 0xC0C00) rfl x s (Keep.refl _ s)
  exact ⟨h.pending, h.time rfl, h.ident, h.chk rfl, h.fence rfl, h.red rfl, h.upd rfl, h.vec rfl, h.str rfl, h.mem rfl, h.part rfl, h.adj rfl, h.mov rfl, h.job rfl, h.det rfl, h.health rfl, h.boot rfl, h.pwr rfl, h.exer rfl, h.freeCtr rfl⟩
@[simp] theorem State.enqueue_frame (p : Port) (vc : BitVec 3) (pk : Packet) (s : State) :
    (State.enqueue p vc pk s).pending = s.pending ∧ (State.enqueue p vc pk s).time = s.time ∧ (State.enqueue p vc pk s).ident = s.ident ∧ (State.enqueue p vc pk s).chk = s.chk ∧ (State.enqueue p vc pk s).fence = s.fence ∧ (State.enqueue p vc pk s).red = s.red ∧ (State.enqueue p vc pk s).upd = s.upd ∧ (State.enqueue p vc pk s).vec = s.vec ∧ (State.enqueue p vc pk s).str = s.str ∧ (State.enqueue p vc pk s).mem = s.mem ∧ (State.enqueue p vc pk s).part = s.part ∧ (State.enqueue p vc pk s).adj = s.adj ∧ (State.enqueue p vc pk s).mov = s.mov ∧ (State.enqueue p vc pk s).job = s.job ∧ (State.enqueue p vc pk s).det = s.det ∧ (State.enqueue p vc pk s).health = s.health ∧ (State.enqueue p vc pk s).acc = s.acc ∧ (State.enqueue p vc pk s).boot = s.boot ∧ (State.enqueue p vc pk s).pwr = s.pwr ∧ (State.enqueue p vc pk s).exer = s.exer ∧ (State.enqueue p vc pk s).freeCtr = s.freeCtr := by
  have h := State.enqueue_keep (M := 0x40C00) rfl p vc pk s (Keep.refl _ s)
  exact ⟨h.pending, h.time rfl, h.ident, h.chk rfl, h.fence rfl, h.red rfl, h.upd rfl, h.vec rfl, h.str rfl, h.mem rfl, h.part rfl, h.adj rfl, h.mov rfl, h.job rfl, h.det rfl, h.health rfl, h.acc rfl, h.boot rfl, h.pwr rfl, h.exer rfl, h.freeCtr rfl⟩
@[simp] theorem State.forward_frame (arr : Option Port) (vc : BitVec 3) (pk : Packet) (s : State) :
    (State.forward arr vc pk s).pending = s.pending ∧ (State.forward arr vc pk s).time = s.time ∧ (State.forward arr vc pk s).ident = s.ident ∧ (State.forward arr vc pk s).chk = s.chk ∧ (State.forward arr vc pk s).fence = s.fence ∧ (State.forward arr vc pk s).red = s.red ∧ (State.forward arr vc pk s).upd = s.upd ∧ (State.forward arr vc pk s).vec = s.vec ∧ (State.forward arr vc pk s).str = s.str ∧ (State.forward arr vc pk s).mem = s.mem ∧ (State.forward arr vc pk s).part = s.part ∧ (State.forward arr vc pk s).adj = s.adj ∧ (State.forward arr vc pk s).mov = s.mov ∧ (State.forward arr vc pk s).job = s.job ∧ (State.forward arr vc pk s).det = s.det ∧ (State.forward arr vc pk s).health = s.health ∧ (State.forward arr vc pk s).boot = s.boot ∧ (State.forward arr vc pk s).pwr = s.pwr ∧ (State.forward arr vc pk s).exer = s.exer ∧ (State.forward arr vc pk s).freeCtr = s.freeCtr := by
  have h := State.forward_keep (M := 0xC0C00) rfl arr vc pk s (Keep.refl _ s)
  exact ⟨h.pending, h.time rfl, h.ident, h.chk rfl, h.fence rfl, h.red rfl, h.upd rfl, h.vec rfl, h.str rfl, h.mem rfl, h.part rfl, h.adj rfl, h.mov rfl, h.job rfl, h.det rfl, h.health rfl, h.boot rfl, h.pwr rfl, h.exer rfl, h.freeCtr rfl⟩
@[simp] theorem State.admitWaiting_frame (s : State) :
    (State.admitWaiting s).pending = s.pending ∧ (State.admitWaiting s).time = s.time ∧ (State.admitWaiting s).ident = s.ident ∧ (State.admitWaiting s).chk = s.chk ∧ (State.admitWaiting s).fence = s.fence ∧ (State.admitWaiting s).red = s.red ∧ (State.admitWaiting s).upd = s.upd ∧ (State.admitWaiting s).vec = s.vec ∧ (State.admitWaiting s).str = s.str ∧ (State.admitWaiting s).mem = s.mem ∧ (State.admitWaiting s).part = s.part ∧ (State.admitWaiting s).adj = s.adj ∧ (State.admitWaiting s).mov = s.mov ∧ (State.admitWaiting s).job = s.job ∧ (State.admitWaiting s).det = s.det ∧ (State.admitWaiting s).health = s.health ∧ (State.admitWaiting s).boot = s.boot ∧ (State.admitWaiting s).pwr = s.pwr ∧ (State.admitWaiting s).exer = s.exer ∧ (State.admitWaiting s).freeCtr = s.freeCtr := by
  have h := State.admitWaiting_keep (M := 0xC0C00) rfl s (Keep.refl _ s)
  exact ⟨h.pending, h.time rfl, h.ident, h.chk rfl, h.fence rfl, h.red rfl, h.upd rfl, h.vec rfl, h.str rfl, h.mem rfl, h.part rfl, h.adj rfl, h.mov rfl, h.job rfl, h.det rfl, h.health rfl, h.boot rfl, h.pwr rfl, h.exer rfl, h.freeCtr rfl⟩
@[simp] theorem State.sendVc_frame (vc : BitVec 3) (pk : Packet) (s : State) :
    (State.sendVc vc pk s).pending = s.pending ∧ (State.sendVc vc pk s).time = s.time ∧ (State.sendVc vc pk s).ident = s.ident ∧ (State.sendVc vc pk s).chk = s.chk ∧ (State.sendVc vc pk s).fence = s.fence ∧ (State.sendVc vc pk s).red = s.red ∧ (State.sendVc vc pk s).upd = s.upd ∧ (State.sendVc vc pk s).vec = s.vec ∧ (State.sendVc vc pk s).str = s.str ∧ (State.sendVc vc pk s).mem = s.mem ∧ (State.sendVc vc pk s).part = s.part ∧ (State.sendVc vc pk s).adj = s.adj ∧ (State.sendVc vc pk s).mov = s.mov ∧ (State.sendVc vc pk s).job = s.job ∧ (State.sendVc vc pk s).det = s.det ∧ (State.sendVc vc pk s).health = s.health ∧ (State.sendVc vc pk s).boot = s.boot ∧ (State.sendVc vc pk s).pwr = s.pwr ∧ (State.sendVc vc pk s).exer = s.exer ∧ (State.sendVc vc pk s).freeCtr = s.freeCtr := by
  have h := State.sendVc_keep (M := 0xC0C00) rfl vc pk s (Keep.refl _ s)
  exact ⟨h.pending, h.time rfl, h.ident, h.chk rfl, h.fence rfl, h.red rfl, h.upd rfl, h.vec rfl, h.str rfl, h.mem rfl, h.part rfl, h.adj rfl, h.mov rfl, h.job rfl, h.det rfl, h.health rfl, h.boot rfl, h.pwr rfl, h.exer rfl, h.freeCtr rfl⟩
@[simp] theorem State.send_frame (pk : Packet) (s : State) :
    (State.send pk s).pending = s.pending ∧ (State.send pk s).time = s.time ∧ (State.send pk s).ident = s.ident ∧ (State.send pk s).chk = s.chk ∧ (State.send pk s).fence = s.fence ∧ (State.send pk s).red = s.red ∧ (State.send pk s).upd = s.upd ∧ (State.send pk s).vec = s.vec ∧ (State.send pk s).str = s.str ∧ (State.send pk s).mem = s.mem ∧ (State.send pk s).part = s.part ∧ (State.send pk s).adj = s.adj ∧ (State.send pk s).mov = s.mov ∧ (State.send pk s).job = s.job ∧ (State.send pk s).det = s.det ∧ (State.send pk s).health = s.health ∧ (State.send pk s).boot = s.boot ∧ (State.send pk s).pwr = s.pwr ∧ (State.send pk s).exer = s.exer ∧ (State.send pk s).freeCtr = s.freeCtr := by
  have h := State.send_keep (M := 0xC0C00) rfl pk s (Keep.refl _ s)
  exact ⟨h.pending, h.time rfl, h.ident, h.chk rfl, h.fence rfl, h.red rfl, h.upd rfl, h.vec rfl, h.str rfl, h.mem rfl, h.part rfl, h.adj rfl, h.mov rfl, h.job rfl, h.det rfl, h.health rfl, h.boot rfl, h.pwr rfl, h.exer rfl, h.freeCtr rfl⟩
@[simp] theorem State.sendOn_frame (p : Port) (pk : Packet) (s : State) :
    (State.sendOn p pk s).pending = s.pending ∧ (State.sendOn p pk s).time = s.time ∧ (State.sendOn p pk s).ident = s.ident ∧ (State.sendOn p pk s).chk = s.chk ∧ (State.sendOn p pk s).fence = s.fence ∧ (State.sendOn p pk s).red = s.red ∧ (State.sendOn p pk s).upd = s.upd ∧ (State.sendOn p pk s).vec = s.vec ∧ (State.sendOn p pk s).str = s.str ∧ (State.sendOn p pk s).mem = s.mem ∧ (State.sendOn p pk s).part = s.part ∧ (State.sendOn p pk s).adj = s.adj ∧ (State.sendOn p pk s).mov = s.mov ∧ (State.sendOn p pk s).job = s.job ∧ (State.sendOn p pk s).det = s.det ∧ (State.sendOn p pk s).health = s.health ∧ (State.sendOn p pk s).acc = s.acc ∧ (State.sendOn p pk s).boot = s.boot ∧ (State.sendOn p pk s).pwr = s.pwr ∧ (State.sendOn p pk s).exer = s.exer ∧ (State.sendOn p pk s).freeCtr = s.freeCtr := by
  have h := State.sendOn_keep (M := 0x40C00) rfl p pk s (Keep.refl _ s)
  exact ⟨h.pending, h.time rfl, h.ident, h.chk rfl, h.fence rfl, h.red rfl, h.upd rfl, h.vec rfl, h.str rfl, h.mem rfl, h.part rfl, h.adj rfl, h.mov rfl, h.job rfl, h.det rfl, h.health rfl, h.acc rfl, h.boot rfl, h.pwr rfl, h.exer rfl, h.freeCtr rfl⟩
@[simp] theorem State.sendTrans_frame (op : U8) (dst step : U32) (a b c body : List Byte) (s : State) :
    (State.sendTrans op dst step a b c body s).pending = s.pending ∧ (State.sendTrans op dst step a b c body s).time = s.time ∧ (State.sendTrans op dst step a b c body s).ident = s.ident ∧ (State.sendTrans op dst step a b c body s).chk = s.chk ∧ (State.sendTrans op dst step a b c body s).fence = s.fence ∧ (State.sendTrans op dst step a b c body s).red = s.red ∧ (State.sendTrans op dst step a b c body s).upd = s.upd ∧ (State.sendTrans op dst step a b c body s).vec = s.vec ∧ (State.sendTrans op dst step a b c body s).str = s.str ∧ (State.sendTrans op dst step a b c body s).mem = s.mem ∧ (State.sendTrans op dst step a b c body s).part = s.part ∧ (State.sendTrans op dst step a b c body s).adj = s.adj ∧ (State.sendTrans op dst step a b c body s).mov = s.mov ∧ (State.sendTrans op dst step a b c body s).job = s.job ∧ (State.sendTrans op dst step a b c body s).det = s.det ∧ (State.sendTrans op dst step a b c body s).health = s.health ∧ (State.sendTrans op dst step a b c body s).boot = s.boot ∧ (State.sendTrans op dst step a b c body s).pwr = s.pwr ∧ (State.sendTrans op dst step a b c body s).exer = s.exer ∧ (State.sendTrans op dst step a b c body s).freeCtr = s.freeCtr := by
  have h := State.sendTrans_keep (M := 0xC0C00) rfl op dst step a b c body s (Keep.refl _ s)
  exact ⟨h.pending, h.time rfl, h.ident, h.chk rfl, h.fence rfl, h.red rfl, h.upd rfl, h.vec rfl, h.str rfl, h.mem rfl, h.part rfl, h.adj rfl, h.mov rfl, h.job rfl, h.det rfl, h.health rfl, h.boot rfl, h.pwr rfl, h.exer rfl, h.freeCtr rfl⟩
@[simp] theorem State.sendBlock_frame (b : Block) (s : State) :
    (State.sendBlock b s).pending = s.pending ∧ (State.sendBlock b s).time = s.time ∧ (State.sendBlock b s).ident = s.ident ∧ (State.sendBlock b s).chk = s.chk ∧ (State.sendBlock b s).fence = s.fence ∧ (State.sendBlock b s).red = s.red ∧ (State.sendBlock b s).upd = s.upd ∧ (State.sendBlock b s).vec = s.vec ∧ (State.sendBlock b s).str = s.str ∧ (State.sendBlock b s).mem = s.mem ∧ (State.sendBlock b s).part = s.part ∧ (State.sendBlock b s).adj = s.adj ∧ (State.sendBlock b s).mov = s.mov ∧ (State.sendBlock b s).job = s.job ∧ (State.sendBlock b s).det = s.det ∧ (State.sendBlock b s).health = s.health ∧ (State.sendBlock b s).boot = s.boot ∧ (State.sendBlock b s).pwr = s.pwr ∧ (State.sendBlock b s).exer = s.exer ∧ (State.sendBlock b s).freeCtr = s.freeCtr := by
  have h := State.sendBlock_keep (M := 0xC0C00) rfl b s (Keep.refl _ s)
  exact ⟨h.pending, h.time rfl, h.ident, h.chk rfl, h.fence rfl, h.red rfl, h.upd rfl, h.vec rfl, h.str rfl, h.mem rfl, h.part rfl, h.adj rfl, h.mov rfl, h.job rfl, h.det rfl, h.health rfl, h.boot rfl, h.pwr rfl, h.exer rfl, h.freeCtr rfl⟩
@[simp] theorem State.sendFence_frame (dst step : U32) (kind : U8) (a : List Byte) (b c body : List Byte) (s : State) :
    (State.sendFence dst step kind a b c body s).pending = s.pending ∧ (State.sendFence dst step kind a b c body s).time = s.time ∧ (State.sendFence dst step kind a b c body s).ident = s.ident ∧ (State.sendFence dst step kind a b c body s).chk = s.chk ∧ (State.sendFence dst step kind a b c body s).fence = s.fence ∧ (State.sendFence dst step kind a b c body s).red = s.red ∧ (State.sendFence dst step kind a b c body s).upd = s.upd ∧ (State.sendFence dst step kind a b c body s).vec = s.vec ∧ (State.sendFence dst step kind a b c body s).str = s.str ∧ (State.sendFence dst step kind a b c body s).mem = s.mem ∧ (State.sendFence dst step kind a b c body s).part = s.part ∧ (State.sendFence dst step kind a b c body s).adj = s.adj ∧ (State.sendFence dst step kind a b c body s).mov = s.mov ∧ (State.sendFence dst step kind a b c body s).job = s.job ∧ (State.sendFence dst step kind a b c body s).det = s.det ∧ (State.sendFence dst step kind a b c body s).health = s.health ∧ (State.sendFence dst step kind a b c body s).boot = s.boot ∧ (State.sendFence dst step kind a b c body s).pwr = s.pwr ∧ (State.sendFence dst step kind a b c body s).exer = s.exer ∧ (State.sendFence dst step kind a b c body s).freeCtr = s.freeCtr := by
  have h := State.sendFence_keep (M := 0xC0C00) rfl dst step kind a b c body s (Keep.refl _ s)
  exact ⟨h.pending, h.time rfl, h.ident, h.chk rfl, h.fence rfl, h.red rfl, h.upd rfl, h.vec rfl, h.str rfl, h.mem rfl, h.part rfl, h.adj rfl, h.mov rfl, h.job rfl, h.det rfl, h.health rfl, h.boot rfl, h.pwr rfl, h.exer rfl, h.freeCtr rfl⟩
@[simp] theorem State.sendAck_frame (dst step ts blk : U32) (count : Nat) (op code : U8) (contrib : U32) (s : State) :
    (State.sendAck dst step ts blk count op code contrib s).pending = s.pending ∧ (State.sendAck dst step ts blk count op code contrib s).time = s.time ∧ (State.sendAck dst step ts blk count op code contrib s).ident = s.ident ∧ (State.sendAck dst step ts blk count op code contrib s).chk = s.chk ∧ (State.sendAck dst step ts blk count op code contrib s).fence = s.fence ∧ (State.sendAck dst step ts blk count op code contrib s).red = s.red ∧ (State.sendAck dst step ts blk count op code contrib s).upd = s.upd ∧ (State.sendAck dst step ts blk count op code contrib s).vec = s.vec ∧ (State.sendAck dst step ts blk count op code contrib s).str = s.str ∧ (State.sendAck dst step ts blk count op code contrib s).mem = s.mem ∧ (State.sendAck dst step ts blk count op code contrib s).part = s.part ∧ (State.sendAck dst step ts blk count op code contrib s).adj = s.adj ∧ (State.sendAck dst step ts blk count op code contrib s).mov = s.mov ∧ (State.sendAck dst step ts blk count op code contrib s).job = s.job ∧ (State.sendAck dst step ts blk count op code contrib s).det = s.det ∧ (State.sendAck dst step ts blk count op code contrib s).health = s.health ∧ (State.sendAck dst step ts blk count op code contrib s).boot = s.boot ∧ (State.sendAck dst step ts blk count op code contrib s).pwr = s.pwr ∧ (State.sendAck dst step ts blk count op code contrib s).exer = s.exer ∧ (State.sendAck dst step ts blk count op code contrib s).freeCtr = s.freeCtr := by
  have h := State.sendAck_keep (M := 0xC0C00) rfl dst step ts blk count op code contrib s (Keep.refl _ s)
  exact ⟨h.pending, h.time rfl, h.ident, h.chk rfl, h.fence rfl, h.red rfl, h.upd rfl, h.vec rfl, h.str rfl, h.mem rfl, h.part rfl, h.adj rfl, h.mov rfl, h.job rfl, h.det rfl, h.health rfl, h.boot rfl, h.pwr rfl, h.exer rfl, h.freeCtr rfl⟩
@[simp] theorem State.sendResend_frame (dst step ts blk : U32) (count : Nat) (op reason : U8) (contrib : U32) (b : List Byte) (s : State) :
    (State.sendResend dst step ts blk count op reason contrib b s).pending = s.pending ∧ (State.sendResend dst step ts blk count op reason contrib b s).time = s.time ∧ (State.sendResend dst step ts blk count op reason contrib b s).ident = s.ident ∧ (State.sendResend dst step ts blk count op reason contrib b s).chk = s.chk ∧ (State.sendResend dst step ts blk count op reason contrib b s).fence = s.fence ∧ (State.sendResend dst step ts blk count op reason contrib b s).red = s.red ∧ (State.sendResend dst step ts blk count op reason contrib b s).upd = s.upd ∧ (State.sendResend dst step ts blk count op reason contrib b s).vec = s.vec ∧ (State.sendResend dst step ts blk count op reason contrib b s).str = s.str ∧ (State.sendResend dst step ts blk count op reason contrib b s).mem = s.mem ∧ (State.sendResend dst step ts blk count op reason contrib b s).part = s.part ∧ (State.sendResend dst step ts blk count op reason contrib b s).adj = s.adj ∧ (State.sendResend dst step ts blk count op reason contrib b s).mov = s.mov ∧ (State.sendResend dst step ts blk count op reason contrib b s).job = s.job ∧ (State.sendResend dst step ts blk count op reason contrib b s).det = s.det ∧ (State.sendResend dst step ts blk count op reason contrib b s).health = s.health ∧ (State.sendResend dst step ts blk count op reason contrib b s).boot = s.boot ∧ (State.sendResend dst step ts blk count op reason contrib b s).pwr = s.pwr ∧ (State.sendResend dst step ts blk count op reason contrib b s).exer = s.exer ∧ (State.sendResend dst step ts blk count op reason contrib b s).freeCtr = s.freeCtr := by
  have h := State.sendResend_keep (M := 0xC0C00) rfl dst step ts blk count op reason contrib b s (Keep.refl _ s)
  exact ⟨h.pending, h.time rfl, h.ident, h.chk rfl, h.fence rfl, h.red rfl, h.upd rfl, h.vec rfl, h.str rfl, h.mem rfl, h.part rfl, h.adj rfl, h.mov rfl, h.job rfl, h.det rfl, h.health rfl, h.boot rfl, h.pwr rfl, h.exer rfl, h.freeCtr rfl⟩
@[simp] theorem State.free_frame (s : State) :
    (State.free s).2.pending = s.pending ∧ (State.free s).2.time = s.time ∧ (State.free s).2.ident = s.ident ∧ (State.free s).2.chk = s.chk ∧ (State.free s).2.fence = s.fence ∧ (State.free s).2.red = s.red ∧ (State.free s).2.upd = s.upd ∧ (State.free s).2.vec = s.vec ∧ (State.free s).2.str = s.str ∧ (State.free s).2.mem = s.mem ∧ (State.free s).2.links = s.links ∧ (State.free s).2.route = s.route ∧ (State.free s).2.part = s.part ∧ (State.free s).2.adj = s.adj ∧ (State.free s).2.mov = s.mov ∧ (State.free s).2.job = s.job ∧ (State.free s).2.det = s.det ∧ (State.free s).2.health = s.health ∧ (State.free s).2.tele = s.tele ∧ (State.free s).2.acc = s.acc ∧ (State.free s).2.boot = s.boot ∧ (State.free s).2.pwr = s.pwr ∧ (State.free s).2.exer = s.exer := by
  have h := State.free_keep (M := 0x800000) rfl s (Keep.refl _ s)
  exact ⟨h.pending, h.time rfl, h.ident, h.chk rfl, h.fence rfl, h.red rfl, h.upd rfl, h.vec rfl, h.str rfl, h.mem rfl, h.links rfl, h.route rfl, h.part rfl, h.adj rfl, h.mov rfl, h.job rfl, h.det rfl, h.health rfl, h.tele rfl, h.acc rfl, h.boot rfl, h.pwr rfl, h.exer rfl⟩
@[simp] theorem State.checkStanding_frame (s : State) :
    (State.checkStanding s).pending = s.pending ∧ (State.checkStanding s).time = s.time ∧ (State.checkStanding s).ident = s.ident ∧ (State.checkStanding s).chk = s.chk ∧ (State.checkStanding s).fence = s.fence ∧ (State.checkStanding s).red = s.red ∧ (State.checkStanding s).upd = s.upd ∧ (State.checkStanding s).vec = s.vec ∧ (State.checkStanding s).str = s.str ∧ (State.checkStanding s).mem = s.mem ∧ (State.checkStanding s).links = s.links ∧ (State.checkStanding s).route = s.route ∧ (State.checkStanding s).part = s.part ∧ (State.checkStanding s).adj = s.adj ∧ (State.checkStanding s).mov = s.mov ∧ (State.checkStanding s).job = s.job ∧ (State.checkStanding s).det = s.det ∧ (State.checkStanding s).health = s.health ∧ (State.checkStanding s).boot = s.boot ∧ (State.checkStanding s).exer = s.exer ∧ (State.checkStanding s).freeCtr = s.freeCtr := by
  have h := State.checkStanding_keep (M := 0x2C0000) rfl s (Keep.refl _ s)
  exact ⟨h.pending, h.time rfl, h.ident, h.chk rfl, h.fence rfl, h.red rfl, h.upd rfl, h.vec rfl, h.str rfl, h.mem rfl, h.links rfl, h.route rfl, h.part rfl, h.adj rfl, h.mov rfl, h.job rfl, h.det rfl, h.health rfl, h.boot rfl, h.exer rfl, h.freeCtr rfl⟩
@[simp] theorem State.reserve_frame (cost : Nat) (s : State) :
    (State.reserve cost s).2.pending = s.pending ∧ (State.reserve cost s).2.time = s.time ∧ (State.reserve cost s).2.ident = s.ident ∧ (State.reserve cost s).2.chk = s.chk ∧ (State.reserve cost s).2.fence = s.fence ∧ (State.reserve cost s).2.red = s.red ∧ (State.reserve cost s).2.upd = s.upd ∧ (State.reserve cost s).2.vec = s.vec ∧ (State.reserve cost s).2.str = s.str ∧ (State.reserve cost s).2.mem = s.mem ∧ (State.reserve cost s).2.links = s.links ∧ (State.reserve cost s).2.route = s.route ∧ (State.reserve cost s).2.part = s.part ∧ (State.reserve cost s).2.adj = s.adj ∧ (State.reserve cost s).2.mov = s.mov ∧ (State.reserve cost s).2.job = s.job ∧ (State.reserve cost s).2.det = s.det ∧ (State.reserve cost s).2.health = s.health ∧ (State.reserve cost s).2.boot = s.boot ∧ (State.reserve cost s).2.exer = s.exer ∧ (State.reserve cost s).2.freeCtr = s.freeCtr := by
  have h := State.reserve_keep (M := 0x2C0000) rfl cost s (Keep.refl _ s)
  exact ⟨h.pending, h.time rfl, h.ident, h.chk rfl, h.fence rfl, h.red rfl, h.upd rfl, h.vec rfl, h.str rfl, h.mem rfl, h.links rfl, h.route rfl, h.part rfl, h.adj rfl, h.mov rfl, h.job rfl, h.det rfl, h.health rfl, h.boot rfl, h.exer rfl, h.freeCtr rfl⟩
@[simp] theorem State.release_frame (cost : U32) (s : State) :
    (State.release cost s).pending = s.pending ∧ (State.release cost s).time = s.time ∧ (State.release cost s).ident = s.ident ∧ (State.release cost s).chk = s.chk ∧ (State.release cost s).fence = s.fence ∧ (State.release cost s).red = s.red ∧ (State.release cost s).upd = s.upd ∧ (State.release cost s).vec = s.vec ∧ (State.release cost s).str = s.str ∧ (State.release cost s).mem = s.mem ∧ (State.release cost s).links = s.links ∧ (State.release cost s).route = s.route ∧ (State.release cost s).part = s.part ∧ (State.release cost s).adj = s.adj ∧ (State.release cost s).mov = s.mov ∧ (State.release cost s).job = s.job ∧ (State.release cost s).det = s.det ∧ (State.release cost s).health = s.health ∧ (State.release cost s).tele = s.tele ∧ (State.release cost s).acc = s.acc ∧ (State.release cost s).boot = s.boot ∧ (State.release cost s).exer = s.exer ∧ (State.release cost s).freeCtr = s.freeCtr := by
  have h := State.release_keep (M := 0x200000) rfl cost s (Keep.refl _ s)
  exact ⟨h.pending, h.time rfl, h.ident, h.chk rfl, h.fence rfl, h.red rfl, h.upd rfl, h.vec rfl, h.str rfl, h.mem rfl, h.links rfl, h.route rfl, h.part rfl, h.adj rfl, h.mov rfl, h.job rfl, h.det rfl, h.health rfl, h.tele rfl, h.acc rfl, h.boot rfl, h.exer rfl, h.freeCtr rfl⟩
@[simp] theorem State.fenceUp_frame (step : U32) (kind : U8) (a body : List Byte) (s : State) :
    (State.fenceUp step kind a body s).pending = s.pending ∧ (State.fenceUp step kind a body s).time = s.time ∧ (State.fenceUp step kind a body s).ident = s.ident ∧ (State.fenceUp step kind a body s).chk = s.chk ∧ (State.fenceUp step kind a body s).fence = s.fence ∧ (State.fenceUp step kind a body s).red = s.red ∧ (State.fenceUp step kind a body s).upd = s.upd ∧ (State.fenceUp step kind a body s).vec = s.vec ∧ (State.fenceUp step kind a body s).str = s.str ∧ (State.fenceUp step kind a body s).mem = s.mem ∧ (State.fenceUp step kind a body s).part = s.part ∧ (State.fenceUp step kind a body s).adj = s.adj ∧ (State.fenceUp step kind a body s).mov = s.mov ∧ (State.fenceUp step kind a body s).job = s.job ∧ (State.fenceUp step kind a body s).det = s.det ∧ (State.fenceUp step kind a body s).health = s.health ∧ (State.fenceUp step kind a body s).boot = s.boot ∧ (State.fenceUp step kind a body s).pwr = s.pwr ∧ (State.fenceUp step kind a body s).exer = s.exer ∧ (State.fenceUp step kind a body s).freeCtr = s.freeCtr := by
  have h := State.fenceUp_keep (M := 0xC0C00) rfl step kind a body s (Keep.refl _ s)
  exact ⟨h.pending, h.time rfl, h.ident, h.chk rfl, h.fence rfl, h.red rfl, h.upd rfl, h.vec rfl, h.str rfl, h.mem rfl, h.part rfl, h.adj rfl, h.mov rfl, h.job rfl, h.det rfl, h.health rfl, h.boot rfl, h.pwr rfl, h.exer rfl, h.freeCtr rfl⟩
@[simp] theorem State.fenceDown_frame (step : U32) (kind : U8) (a body : List Byte) (s : State) :
    (State.fenceDown step kind a body s).pending = s.pending ∧ (State.fenceDown step kind a body s).time = s.time ∧ (State.fenceDown step kind a body s).ident = s.ident ∧ (State.fenceDown step kind a body s).chk = s.chk ∧ (State.fenceDown step kind a body s).fence = s.fence ∧ (State.fenceDown step kind a body s).red = s.red ∧ (State.fenceDown step kind a body s).upd = s.upd ∧ (State.fenceDown step kind a body s).vec = s.vec ∧ (State.fenceDown step kind a body s).str = s.str ∧ (State.fenceDown step kind a body s).mem = s.mem ∧ (State.fenceDown step kind a body s).part = s.part ∧ (State.fenceDown step kind a body s).adj = s.adj ∧ (State.fenceDown step kind a body s).mov = s.mov ∧ (State.fenceDown step kind a body s).job = s.job ∧ (State.fenceDown step kind a body s).det = s.det ∧ (State.fenceDown step kind a body s).health = s.health ∧ (State.fenceDown step kind a body s).boot = s.boot ∧ (State.fenceDown step kind a body s).pwr = s.pwr ∧ (State.fenceDown step kind a body s).exer = s.exer ∧ (State.fenceDown step kind a body s).freeCtr = s.freeCtr := by
  have h := State.fenceDown_keep (M := 0xC0C00) rfl step kind a body s (Keep.refl _ s)
  exact ⟨h.pending, h.time rfl, h.ident, h.chk rfl, h.fence rfl, h.red rfl, h.upd rfl, h.vec rfl, h.str rfl, h.mem rfl, h.part rfl, h.adj rfl, h.mov rfl, h.job rfl, h.det rfl, h.health rfl, h.boot rfl, h.pwr rfl, h.exer rfl, h.freeCtr rfl⟩
@[simp] theorem State.stepFailedUp_frame (step : U32) (code : Nat) (s : State) :
    (State.stepFailedUp step code s).pending = s.pending ∧ (State.stepFailedUp step code s).time = s.time ∧ (State.stepFailedUp step code s).ident = s.ident ∧ (State.stepFailedUp step code s).chk = s.chk ∧ (State.stepFailedUp step code s).fence = s.fence ∧ (State.stepFailedUp step code s).red = s.red ∧ (State.stepFailedUp step code s).upd = s.upd ∧ (State.stepFailedUp step code s).vec = s.vec ∧ (State.stepFailedUp step code s).str = s.str ∧ (State.stepFailedUp step code s).mem = s.mem ∧ (State.stepFailedUp step code s).part = s.part ∧ (State.stepFailedUp step code s).adj = s.adj ∧ (State.stepFailedUp step code s).mov = s.mov ∧ (State.stepFailedUp step code s).job = s.job ∧ (State.stepFailedUp step code s).det = s.det ∧ (State.stepFailedUp step code s).health = s.health ∧ (State.stepFailedUp step code s).boot = s.boot ∧ (State.stepFailedUp step code s).pwr = s.pwr ∧ (State.stepFailedUp step code s).exer = s.exer ∧ (State.stepFailedUp step code s).freeCtr = s.freeCtr := by
  have h := State.stepFailedUp_keep (M := 0xC0C00) rfl step code s (Keep.refl _ s)
  exact ⟨h.pending, h.time rfl, h.ident, h.chk rfl, h.fence rfl, h.red rfl, h.upd rfl, h.vec rfl, h.str rfl, h.mem rfl, h.part rfl, h.adj rfl, h.mov rfl, h.job rfl, h.det rfl, h.health rfl, h.boot rfl, h.pwr rfl, h.exer rfl, h.freeCtr rfl⟩
@[simp] theorem State.endPass_frame (p : Pass) (s : State) :
    (State.endPass p s).pending = s.pending ∧ (State.endPass p s).time = s.time ∧ (State.endPass p s).ident = s.ident ∧ (State.endPass p s).chk = s.chk ∧ (State.endPass p s).fence = s.fence ∧ (State.endPass p s).red = s.red ∧ (State.endPass p s).upd = s.upd ∧ (State.endPass p s).vec = s.vec ∧ (State.endPass p s).mem = s.mem ∧ (State.endPass p s).links = s.links ∧ (State.endPass p s).route = s.route ∧ (State.endPass p s).part = s.part ∧ (State.endPass p s).adj = s.adj ∧ (State.endPass p s).mov = s.mov ∧ (State.endPass p s).job = s.job ∧ (State.endPass p s).det = s.det ∧ (State.endPass p s).health = s.health ∧ (State.endPass p s).tele = s.tele ∧ (State.endPass p s).boot = s.boot ∧ (State.endPass p s).pwr = s.pwr ∧ (State.endPass p s).exer = s.exer ∧ (State.endPass p s).freeCtr = s.freeCtr := by
  have h := State.endPass_keep (M := 0x80100) rfl p s (Keep.refl _ s)
  exact ⟨h.pending, h.time rfl, h.ident, h.chk rfl, h.fence rfl, h.red rfl, h.upd rfl, h.vec rfl, h.mem rfl, h.links rfl, h.route rfl, h.part rfl, h.adj rfl, h.mov rfl, h.job rfl, h.det rfl, h.health rfl, h.tele rfl, h.boot rfl, h.pwr rfl, h.exer rfl, h.freeCtr rfl⟩
@[simp] theorem State.closePass_frame (p : Pass) (s : State) :
    (State.closePass p s).pending = s.pending ∧ (State.closePass p s).time = s.time ∧ (State.closePass p s).ident = s.ident ∧ (State.closePass p s).chk = s.chk ∧ (State.closePass p s).fence = s.fence ∧ (State.closePass p s).red = s.red ∧ (State.closePass p s).upd = s.upd ∧ (State.closePass p s).vec = s.vec ∧ (State.closePass p s).mem = s.mem ∧ (State.closePass p s).links = s.links ∧ (State.closePass p s).route = s.route ∧ (State.closePass p s).part = s.part ∧ (State.closePass p s).adj = s.adj ∧ (State.closePass p s).mov = s.mov ∧ (State.closePass p s).job = s.job ∧ (State.closePass p s).det = s.det ∧ (State.closePass p s).health = s.health ∧ (State.closePass p s).boot = s.boot ∧ (State.closePass p s).pwr = s.pwr ∧ (State.closePass p s).exer = s.exer ∧ (State.closePass p s).freeCtr = s.freeCtr := by
  have h := State.closePass_keep (M := 0xC0100) rfl p s (Keep.refl _ s)
  exact ⟨h.pending, h.time rfl, h.ident, h.chk rfl, h.fence rfl, h.red rfl, h.upd rfl, h.vec rfl, h.mem rfl, h.links rfl, h.route rfl, h.part rfl, h.adj rfl, h.mov rfl, h.job rfl, h.det rfl, h.health rfl, h.boot rfl, h.pwr rfl, h.exer rfl, h.freeCtr rfl⟩
@[simp] theorem State.closePasses_frame (f : Pass → Bool) (s : State) :
    (State.closePasses f s).pending = s.pending ∧ (State.closePasses f s).time = s.time ∧ (State.closePasses f s).ident = s.ident ∧ (State.closePasses f s).chk = s.chk ∧ (State.closePasses f s).fence = s.fence ∧ (State.closePasses f s).red = s.red ∧ (State.closePasses f s).upd = s.upd ∧ (State.closePasses f s).vec = s.vec ∧ (State.closePasses f s).mem = s.mem ∧ (State.closePasses f s).links = s.links ∧ (State.closePasses f s).route = s.route ∧ (State.closePasses f s).part = s.part ∧ (State.closePasses f s).adj = s.adj ∧ (State.closePasses f s).mov = s.mov ∧ (State.closePasses f s).job = s.job ∧ (State.closePasses f s).det = s.det ∧ (State.closePasses f s).health = s.health ∧ (State.closePasses f s).boot = s.boot ∧ (State.closePasses f s).pwr = s.pwr ∧ (State.closePasses f s).exer = s.exer ∧ (State.closePasses f s).freeCtr = s.freeCtr := by
  have h := State.closePasses_keep (M := 0xC0100) rfl f s (Keep.refl _ s)
  exact ⟨h.pending, h.time rfl, h.ident, h.chk rfl, h.fence rfl, h.red rfl, h.upd rfl, h.vec rfl, h.mem rfl, h.links rfl, h.route rfl, h.part rfl, h.adj rfl, h.mov rfl, h.job rfl, h.det rfl, h.health rfl, h.boot rfl, h.pwr rfl, h.exer rfl, h.freeCtr rfl⟩
@[simp] theorem State.protect_frame (forced : Bool) (step : U32) (ps : List CutPage) (s : State) :
    (State.protect forced step ps s).pending = s.pending ∧ (State.protect forced step ps s).time = s.time ∧ (State.protect forced step ps s).ident = s.ident ∧ (State.protect forced step ps s).chk = s.chk ∧ (State.protect forced step ps s).fence = s.fence ∧ (State.protect forced step ps s).red = s.red ∧ (State.protect forced step ps s).upd = s.upd ∧ (State.protect forced step ps s).vec = s.vec ∧ (State.protect forced step ps s).str = s.str ∧ (State.protect forced step ps s).mem = s.mem ∧ (State.protect forced step ps s).links = s.links ∧ (State.protect forced step ps s).route = s.route ∧ (State.protect forced step ps s).part = s.part ∧ (State.protect forced step ps s).mov = s.mov ∧ (State.protect forced step ps s).job = s.job ∧ (State.protect forced step ps s).det = s.det ∧ (State.protect forced step ps s).health = s.health ∧ (State.protect forced step ps s).tele = s.tele ∧ (State.protect forced step ps s).acc = s.acc ∧ (State.protect forced step ps s).boot = s.boot ∧ (State.protect forced step ps s).pwr = s.pwr ∧ (State.protect forced step ps s).exer = s.exer ∧ (State.protect forced step ps s).freeCtr = s.freeCtr := by
  have h := State.protect_keep (M := 0x2000) rfl forced step ps s (Keep.refl _ s)
  exact ⟨h.pending, h.time rfl, h.ident, h.chk rfl, h.fence rfl, h.red rfl, h.upd rfl, h.vec rfl, h.str rfl, h.mem rfl, h.links rfl, h.route rfl, h.part rfl, h.mov rfl, h.job rfl, h.det rfl, h.health rfl, h.tele rfl, h.acc rfl, h.boot rfl, h.pwr rfl, h.exer rfl, h.freeCtr rfl⟩
@[simp] theorem State.protectShard_frame (e : TensorEntry) (step : U32) (s : State) :
    (State.protectShard e step s).pending = s.pending ∧ (State.protectShard e step s).time = s.time ∧ (State.protectShard e step s).ident = s.ident ∧ (State.protectShard e step s).chk = s.chk ∧ (State.protectShard e step s).fence = s.fence ∧ (State.protectShard e step s).red = s.red ∧ (State.protectShard e step s).upd = s.upd ∧ (State.protectShard e step s).vec = s.vec ∧ (State.protectShard e step s).str = s.str ∧ (State.protectShard e step s).mem = s.mem ∧ (State.protectShard e step s).links = s.links ∧ (State.protectShard e step s).route = s.route ∧ (State.protectShard e step s).part = s.part ∧ (State.protectShard e step s).mov = s.mov ∧ (State.protectShard e step s).job = s.job ∧ (State.protectShard e step s).det = s.det ∧ (State.protectShard e step s).health = s.health ∧ (State.protectShard e step s).tele = s.tele ∧ (State.protectShard e step s).acc = s.acc ∧ (State.protectShard e step s).boot = s.boot ∧ (State.protectShard e step s).pwr = s.pwr ∧ (State.protectShard e step s).exer = s.exer ∧ (State.protectShard e step s).freeCtr = s.freeCtr := by
  have h := State.protectShard_keep (M := 0x2000) rfl e step s (Keep.refl _ s)
  exact ⟨h.pending, h.time rfl, h.ident, h.chk rfl, h.fence rfl, h.red rfl, h.upd rfl, h.vec rfl, h.str rfl, h.mem rfl, h.links rfl, h.route rfl, h.part rfl, h.mov rfl, h.job rfl, h.det rfl, h.health rfl, h.tele rfl, h.acc rfl, h.boot rfl, h.pwr rfl, h.exer rfl, h.freeCtr rfl⟩
@[simp] theorem State.abandonCut_frame (code : Nat) (c : Cut) (s : State) :
    (State.abandonCut code c s).pending = s.pending ∧ (State.abandonCut code c s).time = s.time ∧ (State.abandonCut code c s).ident = s.ident ∧ (State.abandonCut code c s).chk = s.chk ∧ (State.abandonCut code c s).fence = s.fence ∧ (State.abandonCut code c s).red = s.red ∧ (State.abandonCut code c s).upd = s.upd ∧ (State.abandonCut code c s).vec = s.vec ∧ (State.abandonCut code c s).str = s.str ∧ (State.abandonCut code c s).mem = s.mem ∧ (State.abandonCut code c s).links = s.links ∧ (State.abandonCut code c s).route = s.route ∧ (State.abandonCut code c s).part = s.part ∧ (State.abandonCut code c s).mov = s.mov ∧ (State.abandonCut code c s).job = s.job ∧ (State.abandonCut code c s).det = s.det ∧ (State.abandonCut code c s).health = s.health ∧ (State.abandonCut code c s).boot = s.boot ∧ (State.abandonCut code c s).pwr = s.pwr ∧ (State.abandonCut code c s).exer = s.exer ∧ (State.abandonCut code c s).freeCtr = s.freeCtr := by
  have h := State.abandonCut_keep (M := 0xC2000) rfl code c s (Keep.refl _ s)
  exact ⟨h.pending, h.time rfl, h.ident, h.chk rfl, h.fence rfl, h.red rfl, h.upd rfl, h.vec rfl, h.str rfl, h.mem rfl, h.links rfl, h.route rfl, h.part rfl, h.mov rfl, h.job rfl, h.det rfl, h.health rfl, h.boot rfl, h.pwr rfl, h.exer rfl, h.freeCtr rfl⟩
@[simp] theorem State.abandonCuts_frame (f : Cut → Bool) (code : Nat) (s : State) :
    (State.abandonCuts f code s).pending = s.pending ∧ (State.abandonCuts f code s).time = s.time ∧ (State.abandonCuts f code s).ident = s.ident ∧ (State.abandonCuts f code s).fence = s.fence ∧ (State.abandonCuts f code s).red = s.red ∧ (State.abandonCuts f code s).vec = s.vec ∧ (State.abandonCuts f code s).str = s.str ∧ (State.abandonCuts f code s).links = s.links ∧ (State.abandonCuts f code s).route = s.route ∧ (State.abandonCuts f code s).part = s.part ∧ (State.abandonCuts f code s).mov = s.mov ∧ (State.abandonCuts f code s).job = s.job ∧ (State.abandonCuts f code s).det = s.det ∧ (State.abandonCuts f code s).health = s.health ∧ (State.abandonCuts f code s).boot = s.boot ∧ (State.abandonCuts f code s).pwr = s.pwr ∧ (State.abandonCuts f code s).exer = s.exer ∧ (State.abandonCuts f code s).freeCtr = s.freeCtr := by
  have h := State.abandonCuts_keep (M := 0xC2248) rfl f code s (Keep.refl _ s)
  exact ⟨h.pending, h.time rfl, h.ident, h.fence rfl, h.red rfl, h.vec rfl, h.str rfl, h.links rfl, h.route rfl, h.part rfl, h.mov rfl, h.job rfl, h.det rfl, h.health rfl, h.boot rfl, h.pwr rfl, h.exer rfl, h.freeCtr rfl⟩
@[simp] theorem State.freePoints_frame (f : Point → Bool) (s : State) :
    (State.freePoints f s).pending = s.pending ∧ (State.freePoints f s).time = s.time ∧ (State.freePoints f s).ident = s.ident ∧ (State.freePoints f s).chk = s.chk ∧ (State.freePoints f s).fence = s.fence ∧ (State.freePoints f s).red = s.red ∧ (State.freePoints f s).upd = s.upd ∧ (State.freePoints f s).vec = s.vec ∧ (State.freePoints f s).str = s.str ∧ (State.freePoints f s).mem = s.mem ∧ (State.freePoints f s).links = s.links ∧ (State.freePoints f s).route = s.route ∧ (State.freePoints f s).part = s.part ∧ (State.freePoints f s).mov = s.mov ∧ (State.freePoints f s).job = s.job ∧ (State.freePoints f s).det = s.det ∧ (State.freePoints f s).health = s.health ∧ (State.freePoints f s).tele = s.tele ∧ (State.freePoints f s).acc = s.acc ∧ (State.freePoints f s).boot = s.boot ∧ (State.freePoints f s).pwr = s.pwr ∧ (State.freePoints f s).exer = s.exer := by
  have h := State.freePoints_keep (M := 0x802000) rfl f s (Keep.refl _ s)
  exact ⟨h.pending, h.time rfl, h.ident, h.chk rfl, h.fence rfl, h.red rfl, h.upd rfl, h.vec rfl, h.str rfl, h.mem rfl, h.links rfl, h.route rfl, h.part rfl, h.mov rfl, h.job rfl, h.det rfl, h.health rfl, h.tele rfl, h.acc rfl, h.boot rfl, h.pwr rfl, h.exer rfl⟩
@[simp] theorem State.setEntry_frame (ts : U32) (role : U8) (f : TensorEntry → TensorEntry) (s : State) :
    (State.setEntry ts role f s).pending = s.pending ∧ (State.setEntry ts role f s).time = s.time ∧ (State.setEntry ts role f s).ident = s.ident ∧ (State.setEntry ts role f s).chk = s.chk ∧ (State.setEntry ts role f s).fence = s.fence ∧ (State.setEntry ts role f s).red = s.red ∧ (State.setEntry ts role f s).vec = s.vec ∧ (State.setEntry ts role f s).str = s.str ∧ (State.setEntry ts role f s).mem = s.mem ∧ (State.setEntry ts role f s).links = s.links ∧ (State.setEntry ts role f s).route = s.route ∧ (State.setEntry ts role f s).part = s.part ∧ (State.setEntry ts role f s).adj = s.adj ∧ (State.setEntry ts role f s).mov = s.mov ∧ (State.setEntry ts role f s).job = s.job ∧ (State.setEntry ts role f s).det = s.det ∧ (State.setEntry ts role f s).health = s.health ∧ (State.setEntry ts role f s).tele = s.tele ∧ (State.setEntry ts role f s).acc = s.acc ∧ (State.setEntry ts role f s).boot = s.boot ∧ (State.setEntry ts role f s).pwr = s.pwr ∧ (State.setEntry ts role f s).exer = s.exer ∧ (State.setEntry ts role f s).freeCtr = s.freeCtr := by
  have h := State.setEntry_keep (M := 0x40) rfl ts role f s (Keep.refl _ s)
  exact ⟨h.pending, h.time rfl, h.ident, h.chk rfl, h.fence rfl, h.red rfl, h.vec rfl, h.str rfl, h.mem rfl, h.links rfl, h.route rfl, h.part rfl, h.adj rfl, h.mov rfl, h.job rfl, h.det rfl, h.health rfl, h.tele rfl, h.acc rfl, h.boot rfl, h.pwr rfl, h.exer rfl, h.freeCtr rfl⟩
@[simp] theorem State.failStep_frame (code : Nat) (evs : List Event) (s : State) :
    (State.failStep code evs s).pending = s.pending ∧ (State.failStep code evs s).time = s.time ∧ (State.failStep code evs s).ident = s.ident ∧ (State.failStep code evs s).red = s.red ∧ (State.failStep code evs s).vec = s.vec ∧ (State.failStep code evs s).part = s.part ∧ (State.failStep code evs s).mov = s.mov ∧ (State.failStep code evs s).job = s.job ∧ (State.failStep code evs s).det = s.det ∧ (State.failStep code evs s).health = s.health ∧ (State.failStep code evs s).boot = s.boot ∧ (State.failStep code evs s).pwr = s.pwr ∧ (State.failStep code evs s).exer = s.exer ∧ (State.failStep code evs s).freeCtr = s.freeCtr := by
  have h := State.failStep_keep (M := 0xC2F58) rfl code evs s (Keep.refl _ s)
  exact ⟨h.pending, h.time rfl, h.ident, h.red rfl, h.vec rfl, h.part rfl, h.mov rfl, h.job rfl, h.det rfl, h.health rfl, h.boot rfl, h.pwr rfl, h.exer rfl, h.freeCtr rfl⟩
@[simp] theorem State.failIfReported_frame (s : State) :
    (State.failIfReported s).pending = s.pending ∧ (State.failIfReported s).time = s.time ∧ (State.failIfReported s).ident = s.ident ∧ (State.failIfReported s).red = s.red ∧ (State.failIfReported s).vec = s.vec ∧ (State.failIfReported s).part = s.part ∧ (State.failIfReported s).mov = s.mov ∧ (State.failIfReported s).job = s.job ∧ (State.failIfReported s).det = s.det ∧ (State.failIfReported s).health = s.health ∧ (State.failIfReported s).boot = s.boot ∧ (State.failIfReported s).pwr = s.pwr ∧ (State.failIfReported s).exer = s.exer ∧ (State.failIfReported s).freeCtr = s.freeCtr := by
  have h := State.failIfReported_keep (M := 0xC2F58) rfl s (Keep.refl _ s)
  exact ⟨h.pending, h.time rfl, h.ident, h.red rfl, h.vec rfl, h.part rfl, h.mov rfl, h.job rfl, h.det rfl, h.health rfl, h.boot rfl, h.pwr rfl, h.exer rfl, h.freeCtr rfl⟩
@[simp] theorem State.failShard_frame (ts step : U32) (code : Nat) (blk : U32) (s : State) :
    (State.failShard ts step code blk s).pending = s.pending ∧ (State.failShard ts step code blk s).time = s.time ∧ (State.failShard ts step code blk s).ident = s.ident ∧ (State.failShard ts step code blk s).red = s.red ∧ (State.failShard ts step code blk s).vec = s.vec ∧ (State.failShard ts step code blk s).part = s.part ∧ (State.failShard ts step code blk s).mov = s.mov ∧ (State.failShard ts step code blk s).job = s.job ∧ (State.failShard ts step code blk s).det = s.det ∧ (State.failShard ts step code blk s).health = s.health ∧ (State.failShard ts step code blk s).boot = s.boot ∧ (State.failShard ts step code blk s).pwr = s.pwr ∧ (State.failShard ts step code blk s).exer = s.exer ∧ (State.failShard ts step code blk s).freeCtr = s.freeCtr := by
  have h := State.failShard_keep (M := 0xC2F58) rfl ts step code blk s (Keep.refl _ s)
  exact ⟨h.pending, h.time rfl, h.ident, h.red rfl, h.vec rfl, h.part rfl, h.mov rfl, h.job rfl, h.det rfl, h.health rfl, h.boot rfl, h.pwr rfl, h.exer rfl, h.freeCtr rfl⟩

end Sys2Proof.Machine
end

