-- ==== Sys2Proof/Laws/Ports.lean ====
section
/-! SUPPORT. The state of one port after a write of a port, and what the exerciser's hooks do while the device is no exerciser. -/
namespace Sys2Proof.Machine
open Sys2Proof

@[simp] theorem State.port_setPort_self (p : Port) (f : PortSt → PortSt) (s : State) : (s.setPort p f).port p = f (s.port p) := by
  simp [State.setPort, State.port]

theorem State.port_setPort_ne {p q : Port} (h : q ≠ p) (f : PortSt → PortSt) (s : State) : (s.setPort p f).port q = s.port q := by
  have hv : p.val ≠ q.val := fun e => h (Fin.ext e.symm)
  simp [State.setPort, State.port, hv]

/-- The state of a port is read from the links alone. -/
theorem State.port_congr {s t : State} (h : t.links = s.links) (p : Port) : t.port p = s.port p := by
  unfold State.port; rw [h]

@[simp] theorem State.port_record (e : Event) (s : State) (p : Port) : (s.record e).port p = s.port p :=
  State.port_congr (by simp) p

theorem State.exerOn_of_dev {s : State} (h : s.job.dev ≠ .exerciser) (p : Port) : s.exerOn p = false := by
  simp [State.exerOn, h]

theorem State.exerRun_of_dev {s : State} (h : s.job.dev ≠ .exerciser) (p : Port) : s.exerRun p = false := by
  simp [State.exerRun, State.exerOn_of_dev h]

theorem State.exerLax_of_dev {s : State} (h : s.job.dev ≠ .exerciser) (p : Port) : s.exerLax p = false := by
  simp [State.exerLax, State.exerOn_of_dev h]

/-- Outside the exerciser state no conformance check is counted. -/
theorem State.exerCheck_of_dev {s : State} (h : s.job.dev ≠ .exerciser) (p : Port) (code : Nat) (hdr : List Byte) :
    s.exerCheck p code hdr = s := by
  simp [State.exerCheck, State.exerRun_of_dev h]

/-- From s to t no port changes, but for the packets that wait to be sent on it. -/
structure OnlyQueues (s t : State) : Prop where
  port : ∀ p, ∃ l, t.port p = { s.port p with queue := l }

theorem OnlyQueues.of {s t : State} (h : t.links = s.links) : OnlyQueues s t :=
  ⟨fun p => ⟨(s.port p).queue, by rw [State.port_congr h]⟩⟩
theorem OnlyQueues.trans {s t u : State} (h : OnlyQueues s t) (k : OnlyQueues t u) : OnlyQueues s u := ⟨fun p => by
  obtain ⟨l, hl⟩ := h.port p
  obtain ⟨m, hm⟩ := k.port p
  exact ⟨m, by rw [hm, hl]⟩⟩
theorem OnlyQueues.foldl {α : Type} {g : State → α → State} (k : ∀ x a, OnlyQueues x (g x a)) (l : List α) (s : State) :
    OnlyQueues s (l.foldl g s) := by
  induction l generalizing s with
  | nil => exact .of rfl
  | cons a l ih => exact (k s a).trans (ih _)

theorem State.queueOn_onlyQueues (p : Port) (x : Queued) (s : State) : OnlyQueues s (s.queueOn p x) := by
  refine OnlyQueues.trans (t := s.setPort p fun q => { q with queue := q.queue ++ [x] }) ⟨fun q => ?_⟩ (.of (by simp [State.queueOn]))
  by_cases h : q = p
  · subst h; exact ⟨_, State.port_setPort_self q _ s⟩
  · exact ⟨(s.port q).queue, State.port_setPort_ne h _ s⟩
theorem State.enterPool_onlyQueues (x : PoolPk) (go : PoolPk → State → State) (s : State) (h : ∀ x t, OnlyQueues t (go x t)) :
    OnlyQueues s (s.enterPool x go) := by
  unfold State.enterPool
  dsimp only
  split
  · exact .of rfl
  · refine OnlyQueues.trans ?_ (h _ _); exact .of rfl
theorem State.switchPk_onlyQueues (x : PoolPk) (s : State) : OnlyQueues s (s.switchPk x) := by
  unfold State.switchPk
  dsimp only
  split
  · split
    · split <;> exact .of (by simp [State.freePool])
    · refine OnlyQueues.trans ?_ (State.queueOn_onlyQueues ..); exact .of rfl
  · exact .of rfl
  · split <;> exact .of (by simp [State.freePool])
theorem State.enqueue_onlyQueues (p : Port) (vc : BitVec 3) (pk : Packet) (s : State) : OnlyQueues s (s.enqueue p vc pk) := by
  unfold State.enqueue
  split
  · exact State.queueOn_onlyQueues ..
  · exact State.enterPool_onlyQueues _ _ _ fun x t => State.queueOn_onlyQueues ..
theorem State.forward_onlyQueues (arr : Option Port) (vc : BitVec 3) (pk : Packet) (s : State) : OnlyQueues s (s.forward arr vc pk) :=
  State.enterPool_onlyQueues _ _ _ State.switchPk_onlyQueues
theorem State.send_onlyQueues (pk : Packet) (s : State) : OnlyQueues s (s.send pk) := by
  unfold State.send State.sendVc
  split
  · exact .of (by simp)
  · exact State.forward_onlyQueues ..
theorem State.sendFence_onlyQueues (dst step : U32) (kind : U8) (a b c body : List Byte) (s : State) :
    OnlyQueues s (s.sendFence dst step kind a b c body) :=
  (State.send_onlyQueues (.trans (s.mkTrans opFENCE dst step ([kind] ++ a) b c body)) s).trans
    (.of (by simp [State.sendFence, State.sendTrans]))
theorem State.sendSuspect_onlyQueues (pos : U32) (p : Port) (s : State) : OnlyQueues s (s.sendSuspect pos p) :=
  .foldl (fun _ _ => State.sendFence_onlyQueues ..) _ _

end Sys2Proof.Machine
end

