-- ==== Sys2Proof/Laws/Signals.lean ====
section
/-! SUPPORT. What an event leaves: the recorder reads only the telemetry, the time and the interrupt bits of a state. -/
namespace Sys2Proof.Machine
open Sys2Proof

theorem State.record_tele (e : Event) (s : State) : (s.record e).tele = s.recordTele e := by
  unfold State.record
  split
  · rw [(State.raiseIrq_keep (M := 0x80000) rfl 3 { s with tele := s.recordTele e } (Keep.refl _ _)).tele rfl]
  · rfl

theorem State.raiseIrq_acc {n : Nat} {s t : State} (h : s.acc = t.acc) : (s.raiseIrq n).acc = (t.raiseIrq n).acc := by
  unfold State.raiseIrq
  rw [h]
  split
  · exact h
  · rfl

theorem State.record_acc {e : Event} {s t : State} (h : s.acc = t.acc) : (s.record e).acc = (t.record e).acc := by
  unfold State.record
  dsimp only
  split
  · exact State.raiseIrq_acc h
  · exact h

theorem State.recordTele_congr {e : Event} {s t : State} (h : s.tele = t.tele) (k : s.time = t.time) :
    s.recordTele e = t.recordTele e := by
  unfold State.recordTele State.ns
  rw [h, k]

/-- A state that differs from s in nothing that the recorder reads takes the event as s does. -/
theorem Records.of {e : Event} {s t : State} (h : t.tele = s.tele) (k : t.time = s.time) (a : t.acc = s.acc) :
    Records e s (t.record e) :=
  ⟨by rw [State.record_tele, State.record_tele, State.recordTele_congr h k], State.record_acc a⟩

theorem Quiet.of {s t : State} (h : t.tele = s.tele) : Quiet s t := h

end Sys2Proof.Machine
end

