-- ==== Sys2Proof/Laws/Touch.lean ====
section
/-! SUPPORT. What reads and writes of memory do to the update engine: they may count copies of pages, and nothing else. -/
namespace Sys2Proof.Machine
open Sys2Proof

/-- The update engine is as it was but for the counted page copies and the pages that are waited for (R143). -/
def Touches (s t : State) : Prop :=
  ∃ a b c, t.upd = { s.upd with touchPages := a, stepTouches := b, touchWait := c }

theorem Touches.of {s t : State} (h : t.upd = s.upd) : Touches s t := ⟨_, _, _, h⟩
theorem Touches.trans {s t u : State} (h : Touches s t) (k : Touches t u) : Touches s u := by
  obtain ⟨a, b, c, h⟩ := h
  obtain ⟨d, e, f, k⟩ := k
  exact ⟨d, e, f, by rw [k, h]⟩
theorem Touches.step {s t u : State} (h : Touches s t) (k : u.upd = t.upd) : Touches s u := h.trans (.of k)
theorem Touches.foldl {α : Type} {g : State → α → State} (k : ∀ x a, Touches x (g x a)) (l : List α) (s : State) : Touches s (l.foldl g s) := by
  induction l generalizing s with
  | nil => exact .of rfl
  | cons a l ih => exact (k s a).trans (ih _)

theorem State.touchPage_touches (off : Nat) (s : State) : Touches s (s.touchPage off) := by
  unfold State.touchPage
  refine Touches.step ?_ ((State.noteBusy_keep (M := 0xC2000) rfl _ (Keep.refl _ _)).upd rfl)
  dsimp only
  split
  · exact .of rfl
  · exact ⟨_, _, _, rfl⟩
theorem State.touchDone_touches (l : List Nat) (s : State) : Touches s (s.touchDone l) := ⟨_, _, _, rfl⟩
theorem State.deferMark_touches (off : Nat) (p : Bool) (s : State) : Touches s (s.deferMark off p) := by
  unfold State.deferMark
  split
  · exact .of rfl
  · exact Touches.trans (.of rfl) (State.touchPage_touches off _)
theorem State.markBlock_touches (t : Tier) (r : Region) (off : Nat) (s : State) : Touches s (s.markBlock t r off) :=
  .of ((State.markBlock_keep (M := 0xC0208) rfl t r off s (Keep.refl _ _)).upd rfl)
theorem State.markOther_touches (t : Tier) (r : Region) (off : Nat) (s : State) : Touches s (s.markOther t r off) := by
  unfold State.markOther
  split
  · split
    · dsimp only
      split
      · exact .of rfl
      · split
        · exact State.deferMark_touches ..
        · exact State.markBlock_touches ..
    · exact .of rfl
  · exact .of rfl
theorem State.markStored_touches (t : Tier) (r : Region) (off : Nat) (s : State) : Touches s (s.markStored t r off) := by
  unfold State.markStored
  split
  · exact State.deferMark_touches ..
  · dsimp only
    split
    · exact (State.markBlock_touches ..).trans (State.markOther_touches ..)
    · exact State.markBlock_touches ..
theorem State.settleMarks_touches (off : Nat) (s : State) : Touches s (s.settleMarks off) := by
  have h : Touches s ((s.dropMarks off).touchDone [off]) := Touches.trans (.of rfl) (State.touchDone_touches ..)
  unfold State.settleMarks
  split
  · exact .of rfl
  · dsimp only
    split
    · exact h.trans (State.markStored_touches ..)
    · exact h
theorem State.settleAll_touches (s : State) : Touches s s.settleAll := Touches.foldl (fun x a => State.settleMarks_touches a x) _ _
theorem State.foundBad_touches (t : Tier) (sec : Nat) (s : State) : Touches s (s.foundBad t sec) := by
  unfold State.foundBad
  extract_lets w src m page rg args s1 s2
  have h1 : Touches s s1 := .of ((State.record_keep (M := 0xC0000) rfl _ _ (Keep.refl _ _)).upd rfl)
  have h2 : Touches s s2 := by
    unfold s2
    split
    · split
      · exact h1.step ((State.loseRecords_keep (M := 0xC0000) rfl _ _ _ (Keep.refl _ _)).upd rfl)
      · exact h1
    · exact h1
  split
  · exact h2
  · split
    · split
      · exact (h2.trans (State.markStored_touches ..)).step ((State.poisonSlot_keep (M := 0x41000) rfl _ _ _ (Keep.refl _ _)).upd rfl)
      · exact h2.trans (State.markStored_touches ..)
    · exact h2.step ((State.listPoison_keep (M := 0xC0200) rfl _ _ _ (Keep.refl _ _)).upd rfl)
theorem State.spare_touches (t : Tier) (page cause : Nat) (s : State) : Touches s (s.spare t page cause) := by
  unfold State.spare
  dsimp only
  split
  · exact .of rfl
  · split
    · split
      · exact .of rfl
      · exact .of ((State.record_keep (M := 0xC0000) rfl _ _ (Keep.refl _ _)).upd rfl)
    · refine Touches.step (Touches.step ?_ ((State.record_keep (M := 0xC0000) rfl _ _ (Keep.refl _ _)).upd rfl))
        ((State.charge_keep (M := 0x2E0000) rfl _ _ (Keep.refl _ _)).upd rfl)
      exact (Touches.foldl (fun x a => State.foundBad_touches t a x) _ s).step rfl
theorem State.corrected_touches (t : Tier) (sec n : Nat) (s : State) : Touches s (s.corrected t sec n) := by
  unfold State.corrected
  extract_lets page pg m m1 m2 m3 s1
  have h1 : Touches s s1 := .of rfl
  split
  · exact h1.trans (State.spare_touches ..)
  · exact h1
theorem State.readSector_touches (t : Tier) (sec : Nat) (s : State) : Touches s (s.readSector t sec) := by
  unfold State.readSector
  extract_lets w
  split
  · split
    · exact (State.foundBad_touches ..).trans (State.spare_touches ..)
    · exact State.foundBad_touches ..
  · split
    · exact .of rfl
    · exact State.corrected_touches ..
theorem State.readRange_touches (t : Tier) (off n : Nat) (s : State) : Touches s (s.readRange t off n) :=
  Touches.foldl (fun x a => State.readSector_touches t a x) _ _
theorem State.readMem_touches (t : Tier) (off n : Nat) (s : State) : Touches s (s.readMem t off n).2.2 :=
  (State.readRange_touches t off n s).step rfl
theorem State.writeMem_touches (t : Tier) (off : Nat) (l : List Byte) (s : State) : Touches s (s.writeMem t off l) := by
  unfold State.writeMem
  extract_lets n lo hi hd tl hb tb s1 s2 st sp kept e1 e2 gone s3
  have h1 : Touches s s1 := by
    unfold s1
    split
    · exact State.readRange_touches ..
    · exact .of rfl
  have h2 : Touches s s2 := by
    unfold s2
    split
    · exact h1.trans (State.readRange_touches ..)
    · exact h1
  exact h2.step rfl
theorem State.checkStored_touches (unit : Nat) (t : Tier) (r : Region) (off : Nat) (s : State) :
    Touches s (s.checkStored unit t r off).2 := by
  have k : ∀ (h : Header) (v : State), v.upd = s.upd → Touches s ((v.markStored t r off).storedCheckEvent unit t r h) := fun h v e =>
    ((Touches.of e).trans (State.markStored_touches ..)).step
      ((State.storedCheckEvent_keep (M := 0xC0000) rfl _ _ _ _ _ (Keep.refl _ _)).upd rfl)
  unfold State.checkStored
  dsimp only
  split
  · exact .of rfl
  · split
    · exact k _ _ rfl
    · split
      · exact .of rfl
      · split
        · exact .of ((State.record_keep (M := 0xC0000) rfl _ _ (Keep.refl _ _)).upd rfl)
        · split
          · exact .of rfl
          · exact k _ _ rfl
theorem State.readBlock_touches (unit : Nat) (t : Tier) (off : Nat) (s : State) : Touches s (s.readBlock unit t off).2 := by
  unfold State.readBlock
  split
  · exact .of rfl
  · extract_lets s1 lost b s2
    have h2 : Touches s s2 := Touches.step (t := (s1.readRange t off 4096).readRange t (Region.headerOf _ off) 64) ((State.settleMarks_touches off s).trans ((State.readRange_touches ..).trans (State.readRange_touches ..)))
      ((State.countBytes_keep (M := 0x40000) rfl _ _ _ (Keep.refl _ _)).upd rfl)
    split
    · exact h2
    · exact h2.trans (State.checkStored_touches ..)
theorem State.writeBytes_touches (t : Tier) (off : Nat) (h p : List Byte) (s : State) : Touches s (s.writeBytes t off h p) := by
  unfold State.writeBytes
  split
  · exact .of rfl
  · exact Touches.trans (t := s.dropMarks off) (.of rfl) ((State.writeMem_touches ..).trans (State.writeMem_touches ..))
theorem State.writeBlock_touches (t : Tier) (off : Nat) (b : Block) (s : State) : Touches s (s.writeBlock t off b) :=
  State.writeBytes_touches ..
theorem Touches.foldl3 {α β γ : Type} {g : β × γ × State → α → β × γ × State} (k : ∀ x a, Touches x.2.2 (g x a).2.2) (l : List α)
    (p : β × γ × State) : Touches p.2.2 (l.foldl g p).2.2 := by
  induction l generalizing p with
  | nil => exact .of rfl
  | cons a l ih => exact (k p a).trans (ih _)
theorem State.readHeld_touches (e : TensorEntry) (w n : Nat) (s : State) : Touches s (s.readHeld e w n).2.2 := by
  unfold State.readHeld
  refine Touches.foldl3 (fun x a => ?_) _ ([], false, s)
  dsimp only
  split
  · exact .of rfl
  · split
    · exact .of rfl
    · exact State.readBlock_touches ..

theorem Touches.foldl2 {α β : Type} {g : β × State → α → β × State} (k : ∀ x a, Touches x.2 (g x a).2) (l : List α)
    (p : β × State) : Touches p.2 (l.foldl g p).2 := by
  induction l generalizing p with
  | nil => exact .of rfl
  | cons a l ih => exact (k p a).trans (ih _)
theorem State.readStream_touches (unit : Nat) (e : TensorEntry) (st : Stream) (lo hi : Nat) (s : State) :
    Touches s (s.readStream unit e st lo hi).2.2 := by
  unfold State.readStream
  dsimp only
  split
  · exact .of rfl
  · refine Touches.foldl3 (fun x a => ?_) _ ([], false, s)
    split
    · exact .of rfl
    · exact State.readBlock_touches ..
theorem State.readMask_touches (unit : Nat) (e : TensorEntry) (ws : List U32) (lo hi : Nat) (s : State) :
    Touches s (s.readMask unit e ws lo hi).2 := by
  unfold State.readMask State.fetchMask
  dsimp only
  split
  · exact State.readBlock_touches ..
  · exact .of rfl
theorem State.readPairs_touches (e : TensorEntry) (lo hi : Nat) (s : State) : Touches s (s.readPairs e lo hi) :=
  Touches.foldl (fun x a => by
    split
    · exact State.readRange_touches ..
    · exact .of rfl) _ _
theorem State.readWindow_touches (unit : Nat) (e : TensorEntry) (ws : List U32) (lo hi : Nat) (s : State) :
    Touches s (s.readWindow unit e ws lo hi).2 := by
  unfold State.readWindow
  dsimp only
  refine Touches.trans ?_ (Touches.foldl2 (fun x a => ?_) _ (_, _))
  rotate_left
  · exact State.readStream_touches unit e a lo hi x.2
  refine Touches.trans ?_ (State.readMask_touches ..)
  split
  · exact State.readPairs_touches ..
  · exact .of rfl
theorem State.runFor_touches (unit : Nat) (e : TensorEntry) (d : DispWin) (s : State) : Touches s (s.runFor unit e d).2.2 :=
  State.readWindow_touches ..

end Sys2Proof.Machine
end

