-- ==== Sys2Proof/Tests/Slice0.lean ====
section
/-! SUPPORT. Tests: ill-formed terms that WellFormed refuses, worked examples of the manual, and for every statement the states and
operands that meet the hypotheses of its clauses. -/
namespace Sys2Proof.Tests
open Sys2Proof Sys2Proof.Machine Sys2Proof.Statements
set_option linter.unusedVariables false
set_option Elab.async false

/-! ## Small terms -/

def trn : Trans := { op := 0, flags := 0, jt := 0, epoch := 0, step := 0, a := 0, src := 0, dst := 0, b := 0, c := 0, hdrCrc := 0, body := [] }
def tree : TreeRec := { ts := 256, role := 2, wire := 0, span := 10, parent := 0, leaves := 1, count := 1024, children := [7] }
def win : Window := { ts := 256, w := 0, step := 1, acc := [], masks := [0], anchor := 0 }
def ent : TensorEntry := {
  ts := 256, role := 1, cls := 0, slot := 0, mode := 0, count := 1024, fmtM := 11, fmtV := 11, fmtA := 0, fmtC := 0, heldSlot := 0
  heldReg := 0, pclass := 0, owner := 0, anchor := 0, initAnchor := 0, baseW := 0x1000000, baseM := 0, baseV := 0, baseA := 0
  baseC := 0, baseK := 0, baseH := 0, beta1 := 0, beta2 := 0, consts := [], initT := 0, t := 0, l := 0 }
/-- Block 0 of a shard from contributor 7 in FP32, with its header fields. -/
def piece (step : U32) : Block := ⟨{ Header.zero with typ := 3, fmt := 2, step := step, ts := 256, contrib := 7, count := 1024 }, []⟩
/-- A complete window of step 1 at the dispatcher, its shard's entry, and a state that holds both with the step's size latched. -/
def dwin : DispWin := { ts := 256, w := 0, step := 1, ready := true }
def sDisp (e : TensorEntry) : State := { upd := { latches := [(1, 0x3F800000)], table := [e], disp := [dwin] } }
/-- A window in a pipeline's queue with the entry of its shard. -/
def pwin : PipeWin := { win := dwin, res := {} }
def sPipe (e : TensorEntry) (r : List (Stream × List Nat)) (adj : AdjState := {}) : State :=
  { adj := adj, upd := { table := [e], pipes := (Vector.replicate 8 {}).set 2 { queue := [{ pwin with res := { stores := r } }] } } }
def inv : Invoc := { win := dwin, entry := 0 }
def sCore (k : CoreState) : State := { vec := { cores := (Vector.replicate 16 {}).set 3 k }, upd := { table := [{ ent with cls := 2 }] } }
def sRuns : State := sCore { running := some inv, pc := 8 }
def ventry : VecEntry := { slot := 0, off := 0, budget := 1000, args := [], regions := [] }
def rout (check : Bool) (n : Nat) (e : EndKind) : RunOut := {
  core := 3, pc := 8, inv := { inv with check := check, runNo := n }, staged := [], latch := false, ending := e }
/-- A block as it comes over a link: type 2, step 1, shard 256, one element, of payload zeros. -/
def maskHdr : Header := { Header.zero with typ := 2, step := 1, ts := 256, count := 1 }
def maskBytes : List Byte := maskHdr.seal.bytes ++ List.replicate 4096 0
theorem sealed_crcOk (h : Header) : h.seal.crcOk = true := beq_self_eq_true h.crc
theorem sealed_payOk (b : Block) : b.seal.payOk = true := beq_self_eq_true (crc64 b.pay)
theorem succ_ne (c : U64) : c + 1 ≠ c := by
  intro h
  have e : (c.toNat + 1) % 2 ^ 64 = c.toNat := congrArg BitVec.toNat h
  have := c.isLt
  omega
theorem wrong_payOk (h : Header) (l : List Byte) :
    Block.payOk ⟨{ h with payCrc := crc64 (padTo 4096 l) + 1 }.seal, l⟩ = false := by
  show (crc64 (padTo 4096 l) + 1 == crc64 (padTo 4096 l)) = false
  generalize crc64 (padTo 4096 l) = c
  exact beq_eq_false_iff_ne.mpr (succ_ne c)
def cut1 : Cut := { step := 1, forced := false, pages := [{ addr := 0, slotIx := 0, step := 1, copied := false }] }
def sPipe2 : State := sPipe ent [(.m, [0, 1])] { queue := [cut1] }
def sLoad : State := sCore { running := some inv, loads := [⟨0, .x 5 3, [0x1000]⟩] }
def sLoadBad : State := { sLoad with mem := { poisonH := [0x1000] } }
theorem one_mem {α : Type} {P : α → Prop} {x : α} (h : P x) : ∀ a ∈ [x], P a := by simpa using h
theorem none_mem {α : Type} {P : α → Prop} {l : List α} (h : l = []) : ∀ a ∈ l, P a := by subst h; simp
theorem ok_of {α : Type} {x : Except Nat α} {v : α} (h : x.toOption = some v) : x = .ok v := by cases x <;> simp_all [Except.toOption]
def sVec (r : List WorkRegion) (x1 : U64) (k : CoreState := {}) : State := {
  vec := { cores := (Vector.replicate 16 {}).set 3 { k with running := some inv, x := (Vector.replicate 32 0).set 1 x1 }, entries := [{ ventry with regions := r }]
           slots := (Vector.replicate 16 {}).set 0 { words := [0, 0] } }
  upd := { table := [{ ent with cls := 2 }] } }
def area : WorkRegion := { base := 0x3000000, len := 64, wr := true, rd := true }
def prog0 : StreamProg := { num := 0, trigger := 0, chained := 0, tlMask := 1, firstSeg := 0, segCount := 1, dests := [] }
def seg0 : Segment := { ts := 256, kind := 1, fmt := 2, first := 0, count := 1, src := 0, dstOff := 0 }
def pass0 : Pass := { prog := 0, step := 0, nextSeg := 0, nextBlk := 0 }
def sStr (p : Pass) (credit : Nat := 65) (seg : Segment := seg0) (r : List (U8 × U32 × Unacked) := []) : State := {
  job := { dev := .run }, str := { progs := [prog0], segs := [seg], passes := [p], retries := r }
  links := { ports := (Vector.ofFn PortSt.reset).set 0 { PortSt.reset 0 with st := .active, credit := Vector.replicate 8 credit } }
  upd := { table := [ent] } }
def relaySegm : Segment := { seg0 with kind := 2, src := 8 }
def relayBlk : Block := ⟨{ (piece 0).hdr with src := 8 }, []⟩
/-- 1,008 relayed blocks wait for their tray link. -/
def sFullRelay : State := { (sStr pass0 65 relaySegm) with
  links := { ports := (Vector.ofFn PortSt.reset).set 0 { PortSt.reset 0 with queue := (List.range 1008).map fun n =>
    ⟨3, .block ⟨{ Header.zero with src := 8, blk := BitVec.ofNat 32 n }, []⟩, none, none⟩ } } }
theorem dups_nodup {α : Type} [BEq α] [LawfulBEq α] {l : List α} (h : l.Nodup) : l.eraseDups = l := by
  induction l with
  | nil => rfl
  | cons a as ih =>
    have hn := List.nodup_cons.mp h
    rw [List.eraseDups_cons, List.filter_eq_self.mpr, ih hn.2]
    intro b hb
    simp only [Bool.not_eq_true', beq_eq_false_iff_ne, ne_eq]
    rintro rfl
    exact hn.1 hb
def relayKeys : List (U32 × U32 × U32 × U8 × U32) := (List.range 1008).map fun n => (8, 0, 0, 0, BitVec.ofNat 32 n)
theorem relayKeys_nodup : relayKeys.Nodup := by
  refine List.pairwise_map.mpr (List.pairwise_lt_range.imp_of_mem ?_)
  intro a b ha hb h e
  have e' : BitVec.ofNat 32 a = BitVec.ofNat 32 b := congrArg (fun x => x.2.2.2.2) e
  have := congrArg BitVec.toNat e'
  simp only [BitVec.toNat_ofNat, List.mem_range] at this ha hb
  omega
def relayList (s : State) : List (U32 × U32 × U32 × U8 × U32) :=
  ((List.finRange 24).filter (fun p => decide (p.val < 8))).flatMap (fun p => (s.port p).queue.filterMap (fun x =>
    match x.pk with
    | .block b => if x.vc == 3 && x.from_.isNone && cnOf b.hdr.src != s.adopted && cnOf b.hdr.src != s.own then
        some (b.hdr.src, b.hdr.step, b.hdr.ts, b.hdr.fmt, b.hdr.blk) else none
    | .trans _ => none))
theorem relayStaged_eq (s : State) : s.relayStaged = (relayList s).eraseDups.length := rfl
theorem full_relay : sFullRelay.relayFull = true := by
  have h : relayList sFullRelay = relayKeys := by decide +kernel
  rw [State.relayFull, relayStaged_eq, h, dups_nodup relayKeys_nodup]
  decide +kernel
def remoteRegion : Region := { id := 1, kind := 3, flags := 0xC, jt := 0, base := 0x1000000, size := 0x10000, hbase := 0 }
def sRemote : State := { mem := { regions := [remoteRegion] } }
def regionRow : List Byte := [1, 0, 3, 0, 0, 0, 0, 0, 0, 0, 0, 1, 0, 0, 0, 0, 0, 0x10, 0, 0, 0, 0, 0, 0] ++ List.replicate 24 0
def sPort (p : Port) (q : PortSt) (dev : DevState := .boot) : State := { links := { ports := (Vector.ofFn PortSt.reset).set p q }, job := { dev := dev } }
def sent5 : SentFrame := { seq := 5, cells := [], runA := 0, runB := 0, runBStart := 0, starts := 0 }
def q8 : PortSt := { PortSt.reset 8 with st := .active }
def lcw1 : Lcw := { seq := 0, ack := 0, kind := 1, count := 0, runA := 0, runB := 0, runBStart := 0, creditVc := 0, creditTotal := 0, starts := 0 }
def lcw0 : Lcw := { lcw1 with seq := 1, kind := 0, count := 1, starts := 1 }
def readReq : Trans := { trn with op := 2 }
def fwdReq : Trans := { trn with op := 2, dst := 5 }
/-- Ports 8 and 9 active, the pool with so many free cells, and CN 5 by port 9. -/
def sSwitch (free : Nat) : State := {
  links := { ports := ((Vector.ofFn PortSt.reset).set 8 q8).set 9 { PortSt.reset 9 with st := .active } }
  route := { poolFree := free, active := [⟨5, 9, 0x1F⟩] }, job := { dev := .run } }
def identBytes : List Byte :=
  [3, 0, 2, 0, 2, 0, 0, 0, 1] ++ List.replicate 15 0 ++ [7, 0, 0, 0, 2, 0, 1, 0] ++ [66, 0, 66, 0, 66, 0, 66, 0, 66, 0, 66, 0, 66, 0, 66, 0] ++ List.replicate 16 0
def sIdent : State := { (sPort 0 { PortSt.reset 0 with st := .training, trainStep := 3 }) with
  route := { wires := (Vector.replicate 16 {}).set 0 { serial := 1 :: List.replicate 15 0, cn := 7, kind := 2 } } }
def sExer (p : Port) (x : ExPort) (q : PortSt) : State := { (sPort p q .exerciser) with
  exer := { status := 2, ports := (Vector.replicate 24 {}).set p { x with mode := 1 } } }
def circRow (grant action : Byte) : List Byte := [grant, 0, 0, 0, 0, 0, action, 0] ++ List.replicate 17 0 ++ [1] ++ List.replicate 38 0
def sCirc (c : CircuitSt) : State := { route := { circuits := (Vector.replicate 8 {}).set 7 c } }
def poolPk : PoolPk := { from_ := none, vc := 6, pk := .trans trn }
def gambitRow (unit seq : Byte) : List Byte := [0, unit, 1, 0, 0, 0, 0, 0, 1, 0, 0, 0, seq, 0, 0, 0]
def sGambit (g : Gambit) (dev : DevState := .boot) : State := { job := { dev := dev }, health := { gambit := g } }
theorem err_of {α : Type} {x : Except Nat α} {n : Nat} (h : (match x with | .error k => some k | .ok _ => none) = some n) : x = .error n := by
  cases x <;> simp_all
theorem leNat_leBytes (n v : Nat) : leNat (leBytes n v) = v % 256 ^ n := by
  induction n generalizing v with
  | zero => simp [leBytes, leNat, Nat.mod_one]
  | succ n ih =>
    simp only [leBytes, leNat, ih, BitVec.toNat_ofNat]
    rw [show 256 ^ (n + 1) = 256 * 256 ^ n from by rw [Nat.pow_succ, Nat.mul_comm], Nat.mod_mul]
theorem frame_checks (cells : List (List Byte)) (l : Lcw) : frameCheckOk (frameBytes cells l) = true := by
  have hl : ∀ x n, (leBytes n x).length = n := by intro x n; induction n generalizing x <;> simp_all [leBytes]
  have hp : (padTo 512 (cells.flatMap (padTo 64))).length = 512 := by simp [padTo, sliceZ]
  simp only [frameCheckOk, frameBytes]
  generalize hc : crc64 _ = c
  generalize hf : padTo 512 (cells.flatMap (padTo 64)) ++ le64 l.word = front at hc ⊢
  have h520 : front.length = 520 := by rw [← hf]; simp [hp, le64, hl]
  have htake : List.take 520 (front ++ le64 c) = front := by rw [← h520]; simp
  have hdrop : field64 (front ++ le64 c) 520 = c := by
    have h8 : (le64 c).length = 8 := by simp [le64, hl]
    have : sliceZ (front ++ le64 c) 520 8 = le64 c := by
      rw [← h520]; simp [sliceZ, h8]
    simp only [field64, fieldNat, this]
    apply BitVec.eq_of_toNat_eq
    simp [le64, leNat_leBytes]
    omega
  rw [htake, hc, hdrop]
  simp [h520, le64, hl]
theorem all_mem {α : Type} {P : α → Prop} [DecidablePred P] {l : List α} (h : l.all (fun x => decide (P x)) = true) : ∀ x ∈ l, P x := by
  simpa using h
/-- A routing bank in which no CN but the device's own has a route. -/
def bankOf131072 : List Byte := [0xFE, 3, 0, 0] ++ (List.replicate 131071 [0xFF, 3, 0, 0]).flatten
theorem chunks_replicate (k fuel : Nat) (h : k < fuel) (r : List Byte) (hr : r.length = 4) :
    chunksOf fuel 4 (List.replicate k r).flatten = List.replicate k r := by
  induction k generalizing fuel with
  | zero => cases fuel <;> simp [chunksOf]
  | succ k ih =>
    cases fuel with
    | zero => omega
    | succ fuel =>
      have hne : ((r ++ (List.replicate k r).flatten).isEmpty) = false := by cases r <;> simp_all
      simp only [List.replicate_succ, List.flatten_cons, chunksOf, hne]
      rw [List.take_left' hr, List.drop_left' hr, ih fuel (by omega)]
      simp
theorem no_route_ok (s : State) (ho : s.own = 0) (ht : ∀ f, s.trayCn f = none) (c : Nat) (h1 : 1 ≤ c) (h2 : c < 131072) :
    s.routeOk (routeEntryAt c [0xFF, 3, 0, 0]) = true := by
  have e : routeEntryAt c [0xFF, 3, 0, 0] = ⟨BitVec.ofNat 32 c, 0x1F, 0x1F⟩ := by
    have a : (field32 [0xFF, 3, 0, 0] 0).setWidth 5 = (0x1F : BitVec 5) := by decide
    have b : (field32 [0xFF, 3, 0, 0] 0 >>> 5).setWidth 5 = (0x1F : BitVec 5) := by decide
    simp only [routeEntryAt, a, b]
  have hc : ¬ BitVec.ofNat 32 c = 0#32 := by
    intro h
    have := congrArg BitVec.toNat h
    simp at this
    omega
  rw [e]
  simp [State.routeOk, ht, ho, hc]
theorem bank_rest (s : State) (ho : s.own = 0) (ht : ∀ f, s.trayCn f = none) (k c : Nat) (h : c + k = 131072) (h1 : 1 ≤ c)
    (acc : List RouteEntry) : s.parseBank c acc (List.replicate k [0xFF, 3, 0, 0]) = .ok acc.reverse := by
  induction k generalizing c acc with
  | zero =>
    have h : c = bankCns := by unfold bankCns; omega
    simp [State.parseBank, h]
  | succ k ih =>
    have e : ((routeEntryAt c [0xFF, 3, 0, 0]).prim == 0x1F && (routeEntryAt c [0xFF, 3, 0, 0]).alt == 0x1F) = true := by
      simp only [routeEntryAt]; decide
    have r := no_route_ok s ho ht c h1 (by omega)
    rw [List.replicate_succ, State.parseBank]
    simp only [r, e, if_true]
    rw [if_pos ⟨by unfold bankCns; omega, rfl, trivial⟩]
    exact ih (c + 1) (by omega) (by omega) acc
theorem bank_parsed : ({} : State).parseBank 0 [] (chunksOf (bankCns + 1) 4 bankOf131072) = .ok [{ cn := 0, prim := 0x1E, alt := 0x1F }] := by
  have h : chunksOf (bankCns + 1) 4 bankOf131072 = [0xFE, 3, 0, 0] :: List.replicate 131071 [0xFF, 3, 0, 0] := by
    rw [show bankCns + 1 = 131072 + 1 from rfl]
    unfold bankOf131072
    rw [chunksOf, if_neg (by exact Bool.false_ne_true), List.take_left' (show ([0xFE, 3, 0, 0] : List Byte).length = 4 from rfl),
      List.drop_left' (show ([0xFE, 3, 0, 0] : List Byte).length = 4 from rfl), chunks_replicate _ _ (by decide) _ rfl]
  rw [h]
  have e : routeEntryAt 0 [0xFE, 3, 0, 0] = { cn := 0, prim := 0x1E, alt := 0x1F } := by decide
  have ok : ({} : State).routeOk { cn := 0, prim := 0x1E, alt := 0x1F } = true := by decide +kernel
  rw [State.parseBank]
  simp only [e, ok]
  rw [if_pos ⟨by decide, rfl, trivial⟩]
  refine bank_rest _ rfl (fun f => ?_) 131071 1 rfl (by omega) _
  unfold State.trayCn; split
  · rw [if_neg]; simp [WireEntry.wired]
  · rfl
theorem gate_same {src ts step : U32} {ack : State → State} {s : State} {x : Fin 4 × TensorEntry}
    (h : (State.replayGate src ts step ack s).1 = some x) : State.replayGate src ts step ack s = (some x, s) := by
  revert h
  unfold State.replayGate
  repeat' split
  all_goals simp_all
/-- A replica shard of owner 9, step 1 of it, and a state that knows both. -/
def rent : TensorEntry := { ent with role := 2, pclass := 1, owner := 0 }
def rblk : Block := ⟨{ (piece 1).hdr with typ := 4, src := 9 }, []⟩
def rpk (a : U128) (b : U64 := 0) : Trans := { trn with step := 1, src := 9, a := a, b := b }
def sRep (e : TensorEntry) (p : PartState := {}) (j : JobState := {}) : State := {
  job := j, part := { p with owners := (Vector.replicate 4 {}).set 0 { cn := 9, valid := true } }, upd := { table := [e] } }
def sPair (e : TensorEntry) (p : PairStatus := .paired) (l : List RetItem := []) : State := {
  part := { named := true, partner := 9, pair := p, retained := l }, upd := { table := [e] } }
def rwin : ReplicaWin := { ts := 256, w := 0, step := 1, s0 := 0, s4 := 0, held := none, ownerPipe := 0, ownerDigest := 0, src := 9 }
def winRecord : Trans := { trn with op := opREPLAY_G, step := 1, a := 256, b := 0x100000000 }
def retBlk : Block := ⟨{ rblk.hdr with dst := 5 }, []⟩
def mirrorRg : Region := { id := 2, kind := 2, flags := 2, jt := 0, base := 0x2000000, size := 0x10000, hbase := 0x3000000 }
def sRepPipe : State := { (sRep rent { replicas := [rwin] }) with
  upd := { table := [rent], pipes := (Vector.replicate 8 {}).set 2 { queue := [{ win := { dwin with replica := true }, res := {} }] } } }
def sAdj (a : AdjState) (p : PwrState := {}) (dev : DevState := .run) : State := { adj := a, pwr := p, job := { dev := dev }, red := { segments := 1 } }
def codeCut : Cut := { step := 1, forced := false, kind := .full, phase := .code }
def charged : PwrState := { bothCharged := true, hu := Vector.replicate 2 { status := 2, usable := 8000000 } }
def push0 : Push := { seq := 1, jt := 0, step := 1, total := 4 }
def part0 : PushPart := { num := 3, resends := 0, acked := false, failed := false }
def sPush (p : Push) : State := sAdj { pushes := [p], gateways := [5, 0, 0, 0] }
/-- An answer to part 3 of push0 (object identifier 0x200000000). -/
def partPk (reason : U128) : Trans := { trn with src := 5, a := 0x2000000000000000300000000 ||| (reason <<< 88) }
def sChan (h : ChanState) (c : Chan := 63) (q : List Cut := []) : State := {
  mov := { chans := (Vector.replicate 64 {}).set c h }, adj := { queue := q }, mem := { regions := [remoteRegion] } }
def chanOk : ChanState := { src := 0x1000000, dst := 0x1008000, len := 64 }
/-- A running channel whose two ends lie in the device of CN 1. -/
def chanAway : ChanState := { src := 0x800001000000, dst := 0x800001008000, len := 64, partOn := true, passActive := true }
/-- A claim of job 1 by 2 members. -/
def claimRow : List Byte := [1, 0, 0, 0, 1, 0, 0, 0, 0, 0, 0, 0, 2, 0, 0, 0, 0, 0, 0, 0, 0, 0, 0, 0]
def phase0 : PhaseSt := { phase := .commit, seq := 0, sender := none, expect := [5], pk := some trn }
def sJob (j : JobState) : State := { job := j }
/-- A job of which the device (CN 0) is the root, with member 5. -/
def rootJob : JobState := { dev := .run, members := 2, tree := [(0, 0), (5, 0)] }
def aPk (a : U128) (src : U32 := 5) : Trans := { trn with a := a, src := src }
def pull0 : Pull := { ts := 256, stream := .w, first := 0, count := 1, tries := 0, digest := 0 }
def sPull (l : List Pull) : State := { (sPair ent) with job := { pulls := l } }
def get0 : StoreGet := { obj := 1 }
/-- FL0 is wired to CN 5, a member of the job. -/
def sWired (d : DetState := {}) (j : JobState := rootJob) : State := {
  job := j, det := d
  route := { wires := ((Vector.replicate 16 {}).set 8 { serial := [1], cn := 5, kind := 1, port := 8 }).set 2 { serial := [1], cn := 6, kind := 2 } } }
def susp (w : List U32) (n : Nat) : Suspicion := { pos := 5, watchers := w, probes := n, firstAt := 0 }
def inst0 : InstallSt := { epoch := 1, list := [], expect := [5, 6] }
/-- A block of this payload with its payload check, the other header fields zero. -/
def checkedBlock (p : List Byte) : List Byte := List.replicate 46 0 ++ le64 (crc64 p) ++ List.replicate 10 0 ++ p
theorem checked_block_ok (p : List Byte) (hp : p.length = 4096) : (Block.ofBytes (checkedBlock p)).payOk = true := by
  unfold checkedBlock
  generalize hc : crc64 p = c
  have h8 : (le64 c).length = 8 := rfl
  have h64 : (List.replicate 46 (0 : Byte) ++ le64 c ++ List.replicate 10 0).length = 64 := by
    simp only [List.length_append, List.length_replicate, h8]
  have ht := List.take_left' (l₂ := p) h64
  have hd := List.drop_left' (l₂ := p) h64
  have hs : sliceZ (List.replicate 46 (0 : Byte) ++ le64 c ++ List.replicate 10 0) 46 8 = le64 c := by
    unfold sliceZ
    rw [List.append_assoc, List.drop_left' (List.length_replicate ..), List.take_left' h8, h8]
    simp only [Nat.sub_self, List.replicate_zero, List.append_nil]
  have hf : field64 (List.replicate 46 (0 : Byte) ++ le64 c ++ List.replicate 10 0) 46 = c := by
    unfold field64 fieldNat
    rw [hs]
    unfold le64
    rw [leNat_leBytes]
    exact BitVec.eq_of_toNat_eq (by have := c.isLt; simp; omega)
  have ht2 : p.take 4096 = p := List.take_of_length_le (by omega)
  have hq : padTo 4096 p = p := by
    unfold padTo sliceZ
    rw [List.drop_zero, ht2, hp]
    simp only [Nat.sub_self, List.replicate_zero, List.append_nil]
  unfold Block.payOk Block.pay Block.ofBytes Header.ofBytes
  dsimp only
  rw [ht, hd, hf, ht2, hq, hc]
  exact beq_self_eq_true c
theorem reserved {s : State} {n : Nat} (h : (s.reserve n).1 = true) : s.reserve n = (true, (s.reserve n).2) := Prod.ext h rfl
def goodWorld : BootWorld := { romOk := true, identityOk := true, trainFail := none, confirms := true }
def sBoot (b : BootState) (dev : DevState := .standby) (p : PwrState := {}) : State := { boot := b, job := { dev := dev }, pwr := p }
def marker0 (n : U32) : Marker := { regions := [], poisonL := [], cycles := n, crc := crc32c (le32 n) }
/-- The row of an object of the dictionary. -/
def rowOf (idx : U16) (sub : U8) (h : (objectAt idx sub).isSome = true := by decide +kernel) : Row := Option.get _ h
theorem rowOf_eq {idx : U16} {sub : U8} {h : (objectAt idx sub).isSome = true} : objectAt idx sub = some (rowOf idx sub h) := (Option.some_get h).symm
theorem fst_some {α β : Type} {x : Option α × β} (h : x.1.isSome = true) : x = (some (x.1.get h), x.2) := Prod.ext (Option.some_get h).symm rfl
/-- A READ of OD 1018.01 by client 1, with its check word, and the same as a message. -/
def readBytes : List Byte :=
  [86, 75, 1, 1, 1, 0, 0, 0, 1, 0, 0, 0, 24, 16, 1, 0, 0, 0, 0, 0, 0, 0, 0, 0, 0, 0, 0, 0, 0, 0, 0, 0, 0, 0, 0, 0, 0, 0, 0, 0, 168, 213, 149, 215, 0, 0, 0, 0]
def writeBytes : List Byte :=
  [86, 75, 1, 2, 1, 0, 0, 0, 1, 0, 0, 0, 0, 16, 1, 0, 0, 0, 4, 0, 0, 0, 0, 0, 0, 0, 0, 0, 0, 0, 0, 0, 0, 0, 0, 0, 0, 0, 0, 0, 251, 174, 164, 223, 0, 0, 0, 0, 1, 0, 0, 0]
def msg (kind : U8) (idx : U16) (sub : U8) (data : List Byte := []) (flags : U8 := 0) (off : Nat := 0) : Msg := {
  kind := kind, client := 1, req := 1, idx := idx, sub := sub, flags := flags, dlen := data.length, off := off, total := 0, crc64 := 0, crc32 := 0, data := data }
def readMsg : Msg := { msg 1 0x1018 1 with crc32 := 0xd795d5a8 }
def writeMsg : Msg := { msg 2 0x1000 1 [1, 0, 0, 0] with crc32 := 0xdfa4aefb }
def sAcc (a : AccState) (dev : DevState := .standby) (p : PwrState := {}) : State := { acc := a, job := { dev := dev }, pwr := p }
def dup0 (crc : U32) : DupEntry := { client := 1, req := 1, crc := crc, resp := none, owner := .ma }
def sTele (t : TeleState) : State := { tele := t }
def snap0 : Snap := { num := 0, action := 1, opMs := 0, latches := [], entries := [] }
def alarm0 : Alarm := { seq := 5, cls := 2, resent := false, coalesced := false, represented := 0, first := 0, last := 0, ev := ⟨0x6041, 0, 2, []⟩, waiting := false }
def sPwr (p : PwrState) (dev : DevState := .standby) (lx : Bool := false) : State := { pwr := p, job := { dev := dev }, ident := { lx := lx } }
def sample0 : Sample := { time := 0, unit := 0x0100, loc := 0, st := 0, ctx := 0 }
theorem throttled_island {s : State} {i : Nat} (h : s.throttleable i = true) : i < 36 := by
  unfold State.throttleable at h
  simp only [Bool.and_eq_true, decide_eq_true_eq] at h
  omega
/-- A key list whose first entry is the base point of the curve with every right, the rest empty. -/
def keyList : List Byte :=
  [7] ++ List.replicate 7 0 ++ [4] ++ beBytes 66 p521gx ++ beBytes 66 p521gy ++ List.replicate 3 0 ++ List.replicate 2160 0
def sEx (x : ExState) : State := { exer := x, job := { dev := .exerciser } }
/-- TL7 plays the peer agent of a running script. -/
def sScript (act : U8) (ops : List Byte := [1, 0, 0, 0]) : State := sEx {
  status := 2, script := [⟨act, 0, ops⟩], ports := (Vector.replicate 24 {}).set 7 { mode := 3 } }
def ev3000 : Event := ⟨0x3000, 0, 3, []⟩
def rec3000 : EventRec := { seq := 1, cycles := 0, first := 0, code := 0x3000, unit := 0, repeats := 0, last := 0, cls := 3, cut := false, args := List.replicate 34 0 }
theorem reset_readable (t : Tier) (sec : Nat) : ({} : State).uncorrectable t sec = false := by
  have h : ∀ r ∈ ({} : State).mem.regions, r.poisoned = false := all_mem (by decide +kernel)
  have hw : ({} : State).mem.wrong t sec = 0 := rfl
  have hl : ({} : State).mem.listed t sec = false := by cases t <;> rfl
  unfold State.uncorrectable
  rw [hw, hl]
  cases hr : ({} : State).regionAt sec with
  | none => rfl
  | some r => exact h r (List.mem_of_find?_eq_some hr)

/-! ## WellFormed refuses an ill-formed term of each check -/

def opened (op : U8) (a0 a1 : U8) (rest : List Byte := []) (a10 : List Byte := [0, 0]) : Trans := {
  op := op, flags := 0, jt := 0, epoch := 0, step := 0, a := BitVec.ofNat 128 (leNat ([a0, a1, 0, 0, 0, 0, 0, 0, 0, 0] ++ a10)), src := 0, dst := 0, b := 0, c := 0, hdrCrc := 0, body := rest }
def tooLong : Block := ⟨Header.zero, List.replicate 4097 0⟩
def ve0 : VeArgs := ⟨0, 0, 0, false, false, false, 0⟩
def vc0 : VcArgs := ⟨0, 0, 0, 0, false, false, false, 0⟩
def vi0 : ViArgs := ⟨0, 0, 0, false, 0⟩
def vm0 : VmovArgs := ⟨0, 0, 0, 0⟩
def pr0 : PrArgs := ⟨0, 0, 0, 0⟩
def fop0 : FopArgs := ⟨0, 0, 0, false, false, false⟩
def mem0 : VmemArgs := ⟨0, 0, 0, 1, false, 0⟩

/-- The opcode of a received packet, its body of whole cells, and at most 65 of them (R247, R248). -/
theorem test_ill_formed_packet :
    (Instr.remoteWrite 0 (opened 2 0 0)).wellFormed = false ∧ (Instr.remoteWrite 0 (opened 1 0 0 [0])).wellFormed = false ∧
    (Instr.remoteWrite 0 (opened 1 0 0 (List.replicate 4224 0))).wellFormed = false ∧
    (Instr.remoteWrite 0 (opened 1 0 0)).wellFormed = true := by decide +kernel
/-- The kind and phase of a fence, the opcode an acknowledgement names and its reason, the role of a digest (R251, R248, R309). -/
theorem test_ill_formed_kind :
    (Instr.stepSealedReceive 0 (opened 8 3 0)).wellFormed = false ∧ (Instr.anchorsReceive 0 (opened 8 7 5)).wellFormed = false ∧
    (Instr.treeBlockAckReceive 0 (opened 5 0 0 [] [5, 0])).wellFormed = false ∧
    (Instr.anchorResendReqReceive 0 (opened 6 0 0 [] [4, 1])).wellFormed = false ∧
    (Instr.partnerBlockAckReceive 0 (opened 5 0 0 [] [4, 0])).wellFormed = false ∧
    (Instr.pairReqReceive 0 (opened 0x0D 0 0)).wellFormed = false := by decide +kernel
/-- The type of an arriving block and its 4,096 bytes (R36). -/
theorem test_ill_formed_block :
    (Instr.pieceArrival 0 ⟨{ Header.zero with typ := 5 }, []⟩).wellFormed = false ∧ (Instr.pieceArrival 0 tooLong).wellFormed = false ∧
    (Instr.weightRelay 0 ⟨Header.zero, []⟩).wellFormed = false ∧ (Instr.replayGReceive 0 tooLong).wellFormed = false ∧
    (Instr.mirrorPReceive 0 ⟨Header.zero, []⟩).wellFormed = false := by decide +kernel
/-- The eight boot steps and the sixteen scalar slots. -/
theorem test_ill_formed_index :
    (Instr.bootLate 0).wellFormed = false ∧ (Instr.bootLate 9).wellFormed = false ∧ (Instr.scalarSendUp 16).wellFormed = false := by
  decide +kernel
/-- Fields that an element or scalar operation leaves zero, and the targets of a conversion (R169 to R171). -/
theorem test_ill_formed_ops :
    (Instr.veMov 0 { ve0 with vb := 1 }).wellFormed = false ∧ (Instr.veNop 0 { ve0 with vd := 1 }).wellFormed = false ∧
    (Instr.veCvt 0 { ve0 with vb := 2 }).wellFormed = false ∧ (Instr.test 0 { vc0 with vb := 1 }).wellFormed = false ∧
    (Instr.fopMov 0 { fop0 with negb := true }).wellFormed = false ∧ (Instr.fopNop 0 { fop0 with w := true }).wellFormed = false ∧
    (Instr.fopRsqrt 0 { fop0 with w := true }).wellFormed = false ∧ (Instr.fopRcp 0 { fop0 with w := true }).wellFormed = false ∧
    (Instr.fopCvt 0 { fop0 with fb := 2 }).wellFormed = false ∧ (Instr.fopCvt 0 { fop0 with fb := 1, w := true }).wellFormed = false ∧
    (Instr.f2i 0 { vi0 with vb := 1 }).wellFormed = false ∧ (Instr.i2f 0 { vi0 with s := true }).wellFormed = false ∧
    (Instr.iidx 0 { vi0 with va := 1 }).wellFormed = false := by decide +kernel
/-- Fields that a move or a predicate operation leaves zero. -/
theorem test_ill_formed_moves :
    (Instr.vbcast 0 { vm0 with b := 1 }).wellFormed = false ∧ (Instr.vbcastx 0 { vm0 with b := 1 }).wellFormed = false ∧
    (Instr.vmovr 0 { vm0 with b := 1 }).wellFormed = false ∧ (Instr.vext 0 { vm0 with pg := 1 }).wellFormed = false ∧
    (Instr.vins 0 { vm0 with pg := 1 }).wellFormed = false ∧ (Instr.pand 0 { pr0 with x := 1 }).wellFormed = false ∧
    (Instr.pnot 0 { pr0 with pb := 1 }).wellFormed = false ∧ (Instr.pset 0 { pr0 with pa := 1 }).wellFormed = false ∧
    (Instr.pcount 0 { pr0 with pd := 1 }).wellFormed = false ∧ (Instr.pfromx 0 { pr0 with pa := 1 }).wellFormed = false ∧
    (Instr.pfirst 0 { pr0 with pd := 1 }).wellFormed = false ∧ (Instr.plt 0 { pr0 with pb := 1 }).wellFormed = false := by decide +kernel
/-- Shift amounts, branch conditions, access sizes, formats and block selectors (R171 to R173). -/
theorem test_ill_formed_fields :
    (Instr.slli 0 ⟨0, 0, 64⟩).wellFormed = false ∧ (Instr.srli 0 ⟨0, 0, 64⟩).wellFormed = false ∧
    (Instr.srai 0 ⟨0, 0, 64⟩).wellFormed = false ∧ (Instr.br 0 0 0 6 0).wellFormed = false ∧
    (Instr.ldx 0 ⟨0, 0, 7, false, 0⟩).wellFormed = false ∧ (Instr.stx 0 ⟨0, 0, 4, false, 0⟩).wellFormed = false ∧
    (Instr.vld 0 mem0).wellFormed = false ∧ (Instr.vst 0 { mem0 with fmt := 7 }).wellFormed = false ∧
    (Instr.vgath 0 { mem0 with fmt := 0xC }).wellFormed = false ∧ (Instr.vscat 0 mem0).wellFormed = false ∧
    (Instr.bldb 0 0 0 0 7).wellFormed = false ∧ (Instr.bstb 0 0 0 7).wellFormed = false := by decide +kernel

/-! ## Worked examples of the manual -/

/-- R57, R59: the check values over the ASCII bytes 123456789. -/
theorem test_check_values :
    let l : List Byte := [0x31, 0x32, 0x33, 0x34, 0x35, 0x36, 0x37, 0x38, 0x39]
    crc64 l = 0x995DC9BBDF1939FA ∧ crc32c l = 0xE3069283 := by decide +kernel
/-- Chapter 02: W = 0x3C8A8000 is a tie of two BF16 values, and the even one is taken. -/
theorem test_bf16_tie : (convertTo 4 (v32 0x3C8A8000)).bits = 0x3C8A ∧ (convertTo 4 (v32 0x3C88ADEE)).bits = 0x3C89 := by decide +kernel
/-- Chapter 02: the contribution 0xB8D2 under anchor −5 is stored as eight zero bytes and 00 00 E0 F2 FF FF FF FF, and reads back exactly. -/
theorem test_contribution_into_as128 :
    let n := toAS128 (-5) (bf16.decode 0xB8D2)
    leBytes 16 (BitVec.ofInt 128 n).toNat = List.replicate 8 0 ++ [0x00, 0x00, 0xE0, 0xF2, 0xFF, 0xFF, 0xFF, 0xFF] ∧
    r32 (ofAS128 (-5) n) = 0xB8D20000 := by decide +kernel
/-- Chapter 03: the sum 2^72 leaves as 0x2F000000, the owned window's total as 0x39E3A000, and 0x3DCD breaches the anchor. -/
theorem test_reduced_values :
    r32 (ofAS128 (-5) (2 ^ 72)) = 0x2F000000 ∧ r32 (ofAS128 (-5) (1821 * 2 ^ 83)) = 0x39E3A000 ∧
    breaches (-5) (bf16.decode 0x3DCD) = true ∧ breaches (-5) (bf16.decode 0xB8D2) = false := by decide +kernel

def adamW : List U32 := [
  0x04000018, 0x04400008, 0x04800010, 0x04C00000, 0x18014000, 0x19035000, 0x1C416200, 0x19400000, 0x19857000, 0x1C8B8300, 0x25C32000,
  0x26053000, 0x2A100000, 0x12119000, 0x25CE8000, 0x1DC7A380, 0x19CF0000, 0x14C67000, 0x08060000, 0x08020008, 0x08040010, 0x08060030]
def adamS : List U32 := [
  0x391D4952, 0x44960000, 0x3F800000, 0x3F800000, 0x3D000000, 0x3F600000, 0x3E000000, 0x3F7C0000, 0x3C800000, 0x30800000, 0x3C000000]
def adamLoads : Stream → U32
  | .g => 0x39E3A000
  | .m => 0x35800000
  | .v => 0x292E0000
  | .w => 0x3C8A8000
  | _ => 0
/-- Chapter 04: one element of the standard AdamW program; C is converted to BF16 when it is packed. -/
theorem test_adamw_element :
    (runElem adamW adamS adamLoads).stores = [(.w, 0x3C88ADEE), (.m, 0x3629D000), (.v, 0x2C4D1244), (.c, 0x3C88ADEE)] := by decide +kernel
/-- Chapter 04: the program's words pass the checks of a program slot. -/
theorem test_adamw_program : progError adamW = none := by decide +kernel
/-- Chapter 04: the bias correction terms at t′ = 1 and at t′ = 1,200, and S4 of 32 leaves. -/
theorem test_bias_terms :
    biasTerm 0x3FEC000000000000 1 = 0x3E000000 ∧ biasTerm 0x3FEF800000000000 1 = 0x3C800000 ∧
    biasTerm 0x3FEC000000000000 1200 = 0x3F800000 ∧ biasTerm 0x3FEF800000000000 1200 = 0x3F800000 ∧
    leafScale 32 = 0x3D000000 := by decide +kernel
/-- Chapter 05: m′ and w′ of the norm gain element. -/
theorem test_norm_gain_element :
    elem32 0x07 false false 0x3B800000 0x3F600000 0x3A800000 = some 0x3B900000 ∧
    elem32 0x07 false true 0x3C480000 0x391D4952 0x3F800000 = some 0x3F7FFFE1 := by decide +kernel
/-- Chapter 05: the words of the norm gain loop, beside the instructions that the table gives them. -/
theorem test_norm_gain_words :
    [0x702B0100, 0x704D0100, 0x706C0100, 0x042229E0, 0x742D0100, 0x042331E0, 0x046101F0, 0x746E0200,
      0x256B0080, 0x25CE0040, 0x316F3FF3].map (vectorInstr 0) =
    [some (.vld 0 ⟨1, 11, 0, 2, false, 0⟩), some (.vld 0 ⟨2, 13, 0, 2, false, 0⟩), some (.vld 0 ⟨3, 12, 0, 2, false, 0⟩),
      some (.veFma 0 ⟨1, 2, 5, true, false, false, 0⟩), some (.vst 0 ⟨1, 13, 0, 2, false, 0⟩),
      some (.veFma 0 ⟨1, 3, 6, true, false, false, 0⟩), some (.veFma 0 ⟨3, 1, 0, true, true, false, 0⟩),
      some (.vst 0 ⟨3, 14, 0, 4, false, 0⟩), some (.addi 0 ⟨11, 11, 128⟩), some (.addi 0 ⟨14, 14, 64⟩),
      some (.br 0 11 15 1 0x1FF3)] := by decide +kernel
/-- Chapter 06: the block that the passes of 1,198 to 1,201 read, the C pair as the table gives it. -/
theorem test_c_pair_reads :
    pickC 0xFFFFFFFF 1197 1197 = some 1 ∧ pickC 0xFFFFFFFF 1198 1197 = some 0 ∧ pickC 0xFFFFFFFF 1198 1199 = some 1 ∧
    pickC 0xFFFFFFFF 1200 1199 = some 0 := by decide +kernel
/-- Chapter 08: the link control word of frame 5, and frame bytes 512 to 519. -/
theorem test_lcw_word :
    let l : Lcw := ⟨5, 0x4D2, 0, 8, 2, 0, 0, 3, 0x3A7C, 2⟩
    l.word = 0x02E9F180A04D2005 ∧ le64 l.word = [0x05, 0x20, 0x4D, 0xA0, 0x80, 0xF1, 0xE9, 0x02] ∧ Lcw.ofWord l.word = l := by
  decide +kernel
/-- Chapter 09: the eight neighbours of 0x5B, and n_6(0x39). -/
theorem test_cube_neighbours :
    (List.range 8).map (fun d => cubeNeighbour d 0x5B) = [0x5A, 0x59, 0x5D, 0x51, 0x49, 0x79, 0x39, 0xF9] ∧
    cubeNeighbour 6 0x39 = 0x5B := by decide +kernel
/-- Chapter 09: the routing entry with primary FL8 and no alternate. -/
theorem test_route_entry : (RouteEntry.mk 0x1F012 16 0x1F).word = 0x3F0 := by decide +kernel
/-- Chapter 11: one word through the coder, 23 bits. -/
theorem test_coder_word :
    let x := 0x3C8A8000 ^^^ 0x3C88ADEE
    x = 0x00022DEE ∧ literalBits x = true :: [false, true, true, true, false] ++ bitsLsb 17 0x02DEE ∧ (literalBits x).length = 23 := by
  decide +kernel
/-- Chapter 12: SWAP32 of a big-endian word. -/
theorem test_swap32 : swapBytes 2 [0x3C, 0x8A, 0x80, 0x00] = [0x00, 0x80, 0x8A, 0x3C] := by decide +kernel
/-- Chapter 13: the masks of the example: 1,200 is bit 1 and 1,150 bit 51 from B = 1,201. -/
theorem test_reach_masks : copyBits 1201 1200 true ||| stepBit 1201 1150 = 0x0008000000000002 := by decide +kernel
/-- Chapter 14: 71.3 °C is bin 22. -/
theorem test_temperature_bin : State.tempBin { pwr := { temps := Vector.replicate 44 713 } } 3 = 22 := by decide +kernel
/-- Chapter 16: the window offsets 0x01080010 and 0x01100008 are OD 2100.02 and OD 2200.01. -/
theorem test_window_offsets :
    0x01080010 / 2048 = 0x2100 ∧ 0x01080010 % 2048 / 8 = 2 ∧ 0x01100008 / 2048 = 0x2200 ∧ 0x01100008 % 2048 / 8 = 1 := by decide +kernel
/-- Chapter 16: the 8 bytes of the step size of step 1,201 by the window latch that step size. -/
theorem test_step_size_write :
    let t := windowWrite 0x2200 1 [0xB1, 0x04, 0x00, 0x00, 0x52, 0x49, 0x1D, 0x39] { job := { dev := .run }, fence := { cur := 1200, sealedStep := 1199 } }
    t.upd.latches = [(1201, 0x391D4952)] := by decide +kernel
/-- Chapter 18: the reservations in µJ: standing 0.1124 J and a chunk of 64 MiB 0.1491 J. -/
theorem test_reservations : standingCost = 112429 ∧ chunkCost 67108864 = 149131 := by decide +kernel
/-- Chapter 05: X0 reads as zero whatever its slot holds. -/
theorem test_x0_discards : ((sCore { x := Vector.replicate 32 7 }).core 3).xr 0 = 0 := by decide +kernel

/-! ## For every statement, states and operands that meet its hypotheses -/

theorem test_witness_StepSizeLatchesSameValueOrIsRefused :
    (∃ (s : State) (v : U64) (step x : U32), step = v.setWidth 32 ∧ x = (v >>> 32).setWidth 32 ∧ ((step = s.fence.cur ∨ step = s.fence.cur + 1)) ∧ nonfinite32 x = false ∧ (∀ l ∈ s.upd.latches, l.1 ≠ step) ∧ (∀ d ∈ s.upd.noSize, d.step ≠ step) ∧ ((∀ p ∈ s.red.parked, p.win.phase = .waiting → p.win.step ≠ step))) ∧
    (∃ (s : State) (v : U64) (step x : U32), step = v.setWidth 32 ∧ x = (v >>> 32).setWidth 32 ∧ ((step = s.fence.cur ∨ step = s.fence.cur + 1)) ∧ nonfinite32 x = false ∧ (∀ l ∈ s.upd.latches, l.1 ≠ step)) ∧
    (∃ (s : State) (v : U64), s.upd.latches.find? (·.1 == v.setWidth 32) = some (v.setWidth 32, (v >>> 32).setWidth 32)) ∧
    (∃ (s : State) (v : U64) (step x : U32), step = v.setWidth 32 ∧ x = (v >>> 32).setWidth 32 ∧ (((step ≠ s.fence.cur ∧ step ≠ s.fence.cur + 1) ∧ (∀ l ∈ s.upd.latches, l.1 ≠ step) ∨ nonfinite32 x = true ∧ (∀ l ∈ s.upd.latches, l.1 ≠ step) ∨ ∃ y, s.upd.latches.find? (·.1 == step) = some (step, y) ∧ y ≠ x))) ∧
    (∃ (s : State) (step : U32), s.sizeAwaited step = true ∧ step ∉ s.upd.sizeLateAt ∧ s.afterFailed step = false) :=
   by
   refine ⟨?_, ?_, ?_, ?_, ?_⟩
   · exact ⟨{}, 0x3F80000000000000, 0, 0x3F800000, by decide +kernel, by decide +kernel, by decide +kernel, by decide +kernel, by simp, by simp, by simp⟩
   · exact ⟨{ upd := { noSize := [{ ts := 256, w := 0, step := 0, ready := true }] } }, 0x3F80000000000000, 0, 0x3F800000, by decide +kernel, by decide +kernel, by decide +kernel, by decide +kernel, by simp⟩
   · exact ⟨{ upd := { latches := [(0, 0x3F800000)] } }, 0x3F80000000000000, by decide +kernel⟩
   · exact ⟨{}, 5, 5, 0, by decide +kernel, by decide +kernel, .inl ⟨by decide +kernel, by simp⟩⟩
   · exact ⟨{ upd := { noSize := [{ ts := 256, w := 0, step := 0, ready := true }] } }, 0, by decide +kernel, by decide +kernel, by decide +kernel⟩

theorem test_witness_StepFenceWritesFailuresAndCommitsAct :
    (∃ (s : State) (v : U32), v = s.fence.sealedStep ∧ v ≠ s.fence.cur) ∧
    (∃ (s : State) (v : U32), v = s.fence.cur ∧ s.fence.pending = true) ∧
    (∃ (s : State) (v : U32), v ≠ s.fence.sealedStep ∧ v ≠ s.fence.cur) ∧
    (∃ (s : State), s.fence.pending = false ∧ s.owned = []) ∧
    (∃ (s : State), s.fence.pending = false) ∧
    (∃ (s : State), s.fence.pending = true) ∧
    (∃ (s : State) (p : Port) (pk : Trans) (up : U32), s.parent = some up) ∧
    (∃ (s : State) (p : Port) (pk : Trans), ((pk.step.toNat > s.fence.sealedStep.toNat ∨ pk.epoch ≠ s.job.epoch))) ∧
    (∃ (s : State) (p : Port) (pk : Trans), pk.step.toNat ≤ s.fence.sealedStep.toNat ∧ pk.epoch = s.job.epoch) ∧
    (∃ (s : State) (step : U32), (s.latchOf step).isSome = true ∧ s.red.anchorStep.toNat < step.toNat ∧ s.red.anchorLate ≠ some step) ∧
    (∃ (s : State), (s.latchOf s.red.anchorStep).isSome = true ∧ s.job.dev = .run ∧ s.red.opened ≠ some s.red.anchorStep) :=
   by
   refine ⟨?_, ?_, ?_, ?_, ?_, ?_, ?_, ?_, ?_, ?_, ?_⟩
   · exact ⟨{ fence := { cur := 1 } }, 0, by decide +kernel, by decide +kernel⟩
   · exact ⟨{ fence := { cur := 1, pending := true } }, 1, by decide +kernel, by decide +kernel⟩
   · exact ⟨{ fence := { cur := 1 } }, 7, by decide +kernel, by decide +kernel⟩
   · exact ⟨{ fence := { cur := 1 } }, by decide +kernel, by decide +kernel⟩
   · exact ⟨{ fence := { cur := 1 }, upd := { table := [ent] } }, by decide +kernel⟩
   · exact ⟨{ fence := { cur := 1, pending := true } }, by decide +kernel⟩
   · exact ⟨{ job := { tree := [(0, 5)] } }, 8, trn, 5, by decide +kernel⟩
   · exact ⟨{}, 8, { trn with step := 1 }, .inl (by decide +kernel)⟩
   · exact ⟨{}, 8, trn, by decide +kernel, by decide +kernel⟩
   · exact ⟨{ upd := { latches := [(1, 0)] } }, 1, by decide +kernel, by decide +kernel, by decide +kernel⟩
   · exact ⟨{ upd := { latches := [(0, 0)] }, job := { dev := .run } }, by decide +kernel, by decide +kernel, by decide +kernel⟩

theorem test_witness_SealedMoveAdvancesTheStepByOne :
    (∃ (s : State), (if s.fence.pending then s.completeAll else s).mayseal = true) ∧
    (∃ (s : State), s.fence.pending = false) ∧
    (∃ (s : State), (if s.fence.pending then s.completeAll else s).mayseal = false) :=
   by
   refine ⟨?_, ?_, ?_⟩
   · exact ⟨{ fence := { cur := 1, pending := true } }, by decide +kernel⟩
   · exact ⟨{}, by decide +kernel⟩
   · exact ⟨{ fence := { cur := 2, pending := true } }, by decide +kernel⟩

theorem test_witness_StepFenceWritesFailuresAndCommitsAct_SealedMovesTravelToTheRoot :
    (∃ (s : State) (p : Port) (pk : Trans) (up : U32), s.parent = some up) ∧
    (∃ (s : State) (p : Port) (pk : Trans), s.parent = none) :=
   by
   refine ⟨?_, ?_⟩
   · exact ⟨{ job := { tree := [(0, 5)] } }, 8, trn, 5, by decide +kernel⟩
   · exact ⟨{}, 8, trn, by decide +kernel⟩

theorem test_witness_PiecesOfWrongStepShardOrSenderAreRefused :
    (∃ (s : State) (p : Port) (b : Block), ((b.hdr.step.toNat > s.fence.cur.toNat + 1 ∨ s.afterFailed b.hdr.step = true))) ∧
    (∃ (s : State) (p : Port) (b : Block), b.hdr.step.toNat ≤ s.fence.cur.toNat + 1 ∧ s.afterFailed b.hdr.step = false ∧ b.hdr.step.toNat ≤ s.fence.sealedStep.toNat) ∧
    (∃ (s : State) (p : Port) (b : Block), b.hdr.step.toNat ≤ s.fence.cur.toNat + 1 ∧ s.afterFailed b.hdr.step = false ∧ b.hdr.step.toNat > s.fence.sealedStep.toNat ∧ b.hdr.step.toNat ≤ s.red.anchorStep.toNat ∧ ((s.treeOf b.hdr.ts = none ∨ ∃ r, s.treeOf b.hdr.ts = some r ∧ b.hdr.contrib ∉ r.children))) ∧
    (∃ (s : State) (p : Port) (b : Block) (r : TreeRec) (slot : Nat), PieceReaches s b r slot ∧ b.hdr.malformed r ((s.anyWindow b.hdr.ts (BitVec.ofNat 32 (b.hdr.winOf r)) b.hdr.step).map (·.anchor) |>.getD (s.anchorFor b.hdr.ts (BitVec.ofNat 32 (b.hdr.winOf r)) b.hdr.step)) (pieceValues b) = true) :=
   by
   refine ⟨?_, ?_, ?_, ?_⟩
   · exact ⟨{}, 8, piece 2, .inl (by decide +kernel)⟩
   · exact ⟨{ fence := { cur := 1 } }, 8, piece 0, by decide +kernel, by decide +kernel, by decide +kernel⟩
   · exact ⟨{ fence := { cur := 1 }, red := { anchorStep := 1 } }, 8, piece 1, by decide +kernel, by decide +kernel, by decide +kernel, by decide +kernel, .inl (by decide +kernel)⟩
   · exact ⟨{ fence := { cur := 1 }, red := { anchorStep := 1, trees := [tree] } }, 8, { (piece 1) with hdr := { (piece 1).hdr with count := 3 } }, tree, 0, by unfold PieceReaches; decide +kernel, by decide +kernel⟩

theorem test_witness_AcceptedPieceIsAddedToItsWindowOnly :
    (∃ (s : State) (p : Port) (b : Block) (r : TreeRec) (slot : Nat) (x : Window), PieceReaches s b r slot ∧ s.windowAt b.hdr.ts (BitVec.ofNat 32 (b.hdr.winOf r)) b.hdr.step = some x ∧ x.phase = .opened ∧ b.hdr.malformed r x.anchor (pieceValues b) = false ∧ (b.hdr.ts, BitVec.ofNat 32 (b.hdr.winOf r), b.hdr.step) ∉ s.red.acked ∧ ((x.masks[slot]?).getD 0 &&& b.hdr.granules r) = 0 ∧ b.hdr.contrib ∉ x.lastFrom ∧ (if b.hdr.code == 15 then 0 ≤ signed16 b.hdr.anchor - x.anchor ∧ signed16 b.hdr.anchor - x.anchor ≤ 64 else signed16 b.hdr.anchor = x.anchor) ∧ pieceKind b.hdr x.anchor (pieceValues b) x.nonfinite = .add ∧ (x.take r b.hdr b.pay .add slot (s.red.arrivals + 1)).whole r = false) :=
   ⟨{ fence := { cur := 1 }, red := { anchorStep := 1, trees := [{ tree with count := 1, children := [7, 8] }], windows := [{ win with masks := [0, 0] }] } }, 8, { (piece 1) with hdr := { (piece 1).hdr with count := 1 }, payload := [0, 0, 0, 0] }, { tree with count := 1, children := [7, 8] }, 0, { win with masks := [0, 0] }, by unfold PieceReaches; decide +kernel, by decide +kernel, by decide +kernel, by decide +kernel, by decide +kernel, by decide +kernel, by decide +kernel, by decide +kernel, by decide +kernel, by decide +kernel⟩

theorem test_witness_WindowsUnparkResendAndAreAcknowledged :
    (∃ (s : State) (ts step w : U32) (q : Parked) (r : TreeRec), s.parkedAt ts w step = some q ∧ s.treeOf ts = some r ∧ (s.readParked q).1.whole r = false ∧ s.freeWindow q.win.step = true) ∧
    (∃ (s : State) (p : Port) (pk : Trans) (r : TreeRec) (x : Window), s.treeOf (pk.a32 0) = some r ∧ r.role = 2 ∧ s.parkedAt (pk.a32 0) (reqWindow r pk) pk.step = none ∧ (pk.a32 0, reqWindow r pk, pk.step) ∉ s.red.acked ∧ s.windowAt (pk.a32 0) (reqWindow r pk) pk.step = some x ∧ signed16 (BitVec.ofNat 16 (pk.bNat 0 2)) > x.anchor ∧ x.phase = .opened) ∧
    (∃ (s : State) (p : Port) (pk : Trans) (r : TreeRec) (x : Window), s.treeOf (pk.a32 0) = some r ∧ r.role = 2 ∧ (pk.a32 0, reqWindow r pk, pk.step) ∉ s.red.acked ∧ s.windowAt (pk.a32 0) (reqWindow r pk) pk.step = some x ∧ signed16 (BitVec.ofNat 16 (pk.bNat 0 2)) > x.anchor ∧ x.phase ≠ .opened) ∧
    (∃ (s : State) (p : Port) (pk : Trans) (x : Window), s.red.windows.filter (fun x => x.ts == pk.a32 0 && x.step == pk.step && x.phase != .opened) = [x] ∧ x.outs ≠ [] ∧ (∀ b ∈ x.outs, names pk (pk.aNat 11 1) b = true)) :=
   by
   refine ⟨?_, ?_, ?_, ?_⟩
   · exact ⟨{ red := { trees := [tree], parked := [{ win := win, stored := [] }] } }, 256, 1, 0, { win := win, stored := [] }, tree, by decide +kernel, by decide +kernel, by decide +kernel, by decide +kernel⟩
   · exact ⟨{ red := { trees := [tree], windows := [win] } }, 8, { trn with step := 1, a := 256, b := 3 }, tree, win, by decide +kernel, by decide +kernel, by decide +kernel, by decide +kernel, by decide +kernel, by decide +kernel, by decide +kernel⟩
   · exact ⟨{ red := { trees := [tree], windows := [{ win with phase := .retained }] } }, 8, { trn with step := 1, a := 256, b := 3 }, tree, { win with phase := .retained }, by decide +kernel, by decide +kernel, by decide +kernel, by decide +kernel, by decide +kernel, by decide +kernel⟩
   · exact ⟨{ red := { windows := [{ win with phase := .retained, outs := [⟨{ Header.zero with ts := 256, fmt := 11 }, []⟩] }] } }, 8, { trn with step := 1, a := 0x0B0000010000000000000100 }, { win with phase := .retained, outs := [⟨{ Header.zero with ts := 256, fmt := 11 }, []⟩] }, by decide +kernel, by decide +kernel, by decide +kernel⟩

theorem test_witness_ScalarServiceArmsFoldsAndRefuses :
    (∃ (s : State) (v : U64) (slot : U8) (step : U32), step = v.setWidth 32 ∧ slot = ((v >>> 32) &&& 0xF#64).setWidth 8 ∧ ((step ≠ s.fence.cur ∨ (slotMembers slot s).enabled = false))) ∧
    (∃ (s : State) (v : U64) (slot : U8), s.fence.cur = v.setWidth 32 ∧ slot = ((v >>> 32) &&& 0xF#64).setWidth 8 ∧ (slotMembers slot s).enabled = true ∧ s.red.scalars = [] ∧ s.localInput slot (slotMembers slot s).op s.fence.cur = none) ∧
    (∃ (s : State) (slot : U8) (r : ScalarRed) (v : ScalarVal) (up : U32), (slotMembers slot s).enabled = true ∧ s.red.scalars.find? (ScalarRed.sameAs slot s.fence.cur 0) = some r ∧ r.own = some v ∧ r.sent = false ∧ s.children = [] ∧ s.parent = some up) ∧
    (∃ (s : State) (p : Port) (pk : Trans), ((s.scalarOk pk = false ∨ ¬ (if (pk.a16 2).getLsbD 2 then s.parent = some (cnOf pk.src) else cnOf pk.src ∈ s.children)))) ∧
    (∃ (s : State) (p : Port) (pk : Trans), s.scalarOk pk = true ∧ (pk.a16 2).getLsbD 2 = true ∧ s.parent = some (cnOf pk.src) ∧ pk.a8 0 ≠ slotMaxv ∧ pk.a8 0 ≠ 0 ∧ (∀ x ∈ s.red.resultsAt, ¬ (x.1 = pk.a8 0 ∧ x.2.1 = pk.a32 4))) ∧
    (∃ (s : State) (l : List Byte), l.length = 64 ∧ (∀ x ∈ (chunksOf 16 4 l).zipIdx, slotOk x.2 x.1 = true)) ∧
    (∃ (s : State) (l : List Byte), ((l.length ≠ 64 ∨ ∃ x ∈ (chunksOf 16 4 l).zipIdx, slotOk x.2 x.1 = false))) :=
   by
   refine ⟨?_, ?_, ?_, ?_, ?_, ?_, ?_⟩
   · exact ⟨{}, 5, 0, 5, by decide +kernel, by decide +kernel, .inl (by decide +kernel)⟩
   · exact ⟨{ upd := { table := [{ ent with mode := 3 }] } }, 0, 0, by decide +kernel, by decide +kernel, by decide +kernel, by decide +kernel, by decide +kernel⟩
   · exact ⟨{ job := { tree := [(0, 5)] }, red := { scalars := [{ slot := 0, step := 0, own := some {} }] } }, 0, { slot := 0, step := 0, own := some {} }, {}, 5, by decide +kernel, by decide +kernel, by decide +kernel, by decide +kernel, by decide +kernel, by decide +kernel⟩
   · exact ⟨{}, 8, { trn with step := 1 }, .inl (by decide +kernel)⟩
   · exact ⟨{ job := { tree := [(0, 5)] }, red := { slots := (Vector.replicate 16 {}).set 3 { op := 2, enabled := true } } }, 8, { trn with src := 5, a := 0x40203 }, by decide +kernel, by decide +kernel, by decide +kernel, by decide +kernel, by decide +kernel, by simp⟩
   · exact ⟨{}, [5, 1] ++ List.replicate 62 0, by decide +kernel, by decide +kernel⟩
   · exact ⟨{}, [], .inl (by decide +kernel)⟩

theorem test_witness_TreeTableIsTakenWholeOrRefusedWhole :
    (∃ (s : State) (l : List Byte) (rs : List TreeRec), parseTrees (l.length / 24 + 1) 0 [] l = .ok rs ∧ ((s.job.dev = .standby ∨ s.job.dev = .opening))) ∧
    (∃ (s : State) (l : List Byte) (rs : List TreeRec), parseTrees (l.length / 24 + 1) 0 [] l = .ok rs ∧ s.job.dev = .run) ∧
    (∃ (s : State) (l : List Byte) (off : Nat), (((s.job.dev = .standby ∨ s.job.dev = .opening ∨ s.job.dev = .run) ∧ parseTrees (l.length / 24 + 1) 0 [] l = .error off ∨ s.job.dev ≠ .standby ∧ s.job.dev ≠ .opening ∧ s.job.dev ≠ .run ∧ off = 0xFFFFFFFF))) :=
   by
   refine ⟨?_, ?_, ?_⟩
   · exact ⟨{ job := { dev := .standby } }, [], [], rfl, .inl rfl⟩
   · exact ⟨{ job := { dev := .run } }, [], [], rfl, rfl⟩
   · exact ⟨{ job := { dev := .run } }, [0], 0, .inl ⟨.inr (.inr rfl), rfl⟩⟩

theorem test_witness_ReadyWindowGoesToThePickedPipeline_HeldWindowTakesItsSecondPass :
    (∃ (s : State) (ts w : U32) (h : HeldWin) (e : TensorEntry) (v0 : U64 × Bool), s.upd.heldArea.find? (fun h => h.ts == ts && h.w == w) = some h ∧ s.ownerOf ts = some e ∧ s.resultAt 0 h.step = some v0 ∧ ((e.heldSlot = 0 ∨ (s.resultAt e.heldSlot h.step).isSome = true)) ∧ h.poison = false ∧ (s.readHeld e w.toNat (winElems (s.winSpan ts) e.count.toNat w.toNat)).2.1 = false) ∧
    (∃ (s : State) (ts w : U32) (h : HeldWin), s.upd.heldArea.find? (fun h => h.ts == ts && h.w == w) = some h ∧ s.resultAt 0 h.step = none) :=
   by
   refine ⟨?_, ?_⟩
   · exact ⟨{ red := { trees := [tree], resultsAt := [(0, 1, 0, false)] }, upd := { table := [{ ent with count := 1, baseH := 0x300000000000 }], heldArea := [{ ts := 256, w := 0, step := 1, poison := false, nonfinite := false }] } }, 256, 0, { ts := 256, w := 0, step := 1, poison := false, nonfinite := false }, { ent with count := 1, baseH := 0x300000000000 }, (0, false), by decide +kernel, by decide +kernel, by decide +kernel, .inl rfl, by decide +kernel, by decide +kernel⟩
   · exact ⟨{ upd := { heldArea := [{ ts := 256, w := 0, step := 1, poison := false, nonfinite := false }] } }, 256, 0, { ts := 256, w := 0, step := 1, poison := false, nonfinite := false }, by decide +kernel, by decide +kernel⟩

theorem test_witness_ReadyWindowGoesToThePickedPipeline :
    (∃ (s s1 : State) (ts w : U32) (rep : Bool) (d d1 : DispWin) (e e1 : TensorEntry) (s0 s4 : U32) (p : Pipe), s.readyWindow ts w rep 1 = some (d, e) ∧ e.status ≠ .quarantined ∧ e.status ≠ .halted ∧ d.handed = true ∧ s.sizeFor d = some (s0, s4) ∧ (if d.roll then (d.step == e.l + 1, s) else s.beginStep e d.step) = (true, s1) ∧ (if rep then s1.replicaOf ts else s1.ownerOf ts) = some e1 ∧ s1.pickPipe (patternOf e1) [] = some p ∧ (s1.upd.pipes[p]).queue.length < 4 ∧ d1 = { d with s0 := s0, s4 := s4, tPrime := e1.t + 1 } ∧ ((s1.dropDisp d).runFor (unitPipe p) e1 d1).2.1 = false) ∧
    (∃ (s : State) (ts w : U32) (rep : Bool) (d : DispWin) (e : TensorEntry), s.readyWindow ts w rep 1 = some (d, e) ∧ e.status = .quarantined) ∧
    (∃ (s : State) (ts w : U32) (rep : Bool) (d : DispWin) (e : TensorEntry), s.readyWindow ts w rep 1 = some (d, e) ∧ e.status = .halted) ∧
    (∃ (s : State) (ts w : U32) (rep : Bool) (d : DispWin) (e : TensorEntry), s.readyWindow ts w rep 1 = some (d, e) ∧ e.status ≠ .quarantined ∧ e.status ≠ .halted ∧ d.handed = true ∧ s.sizeFor d = none) :=
   by
   refine ⟨?_, ?_, ?_, ?_⟩
   · exact ⟨sDisp { ent with cls := 1 }, ((sDisp { ent with cls := 1 }).beginStep { ent with cls := 1 } 1).2, 256, 0, false, dwin, { dwin with s0 := 0x3F800000, s4 := leafScale 1, tPrime := 1 }, { ent with cls := 1 }, { ent with cls := 1 }, 0x3F800000, leafScale 1, 0, by decide +kernel, by decide +kernel, by decide +kernel, rfl, by decide +kernel, by rw [if_neg (by decide)]; exact Prod.ext (by decide +kernel) rfl, by decide +kernel, by decide +kernel, by decide +kernel, rfl, by decide +kernel⟩
   · exact ⟨sDisp { ent with cls := 1, status := .quarantined }, 256, 0, false, dwin, { ent with cls := 1, status := .quarantined }, by decide +kernel, by decide +kernel⟩
   · exact ⟨sDisp { ent with cls := 1, status := .halted }, 256, 0, false, dwin, { ent with cls := 1, status := .halted }, by decide +kernel, by decide +kernel⟩
   · exact ⟨{ (sDisp { ent with cls := 1 }) with upd := { table := [{ ent with cls := 1 }], disp := [dwin] } }, 256, 0, false, dwin, { ent with cls := 1 }, by decide +kernel, by decide +kernel, by decide +kernel, by decide +kernel, by decide +kernel⟩

theorem test_witness_WriteBackWritesTheBlocksOfTheResult :
    (∃ (s s1 : State) (p : Pipe) (x : PipeWin) (e : TensorEntry) (ws : List BlkWrite), (s.upd.pipes[p]).queue.find? (fun x => !x.win.replica) = some x ∧ s.ownerOf x.win.ts = some e ∧ e.status ≠ .quarantined ∧ e.status ≠ .halted ∧ ws = s.resultWrites e x.win.step (firstElem s x.win) x.res ∧ s.mustWait (ws.map (·.off)) = (false, s1) ∧ x.res.poisonOut = false) ∧
    (∃ (s s1 : State) (p : Pipe) (x : PipeWin) (e : TensorEntry), (s.upd.pipes[p]).queue.find? (fun x => !x.win.replica) = some x ∧ s.ownerOf x.win.ts = some e ∧ e.status ≠ .quarantined ∧ e.status ≠ .halted ∧ s.mustWait ((s.resultWrites e x.win.step (firstElem s x.win) x.res).map (·.off)) = (true, s1)) ∧
    (∃ (s : State) (p : Pipe) (x : PipeWin) (e : TensorEntry), (s.upd.pipes[p]).queue.find? (fun x => !x.win.replica) = some x ∧ s.ownerOf x.win.ts = some e ∧ e.status = .quarantined) ∧
    (∃ (s : State) (p : Pipe) (x : PipeWin) (e : TensorEntry), (s.upd.pipes[p]).queue.find? (fun x => !x.win.replica) = some x ∧ s.ownerOf x.win.ts = some e ∧ e.status = .halted) ∧
    (∃ (s : State) (p : Pipe) (stage : U8) (x : PipeWin) (e : TensorEntry), (s.upd.pipes[p]).queue.getLast? = some x ∧ (if x.win.replica then s.replicaOf x.win.ts else s.ownerOf x.win.ts) = some e) :=
   by
   refine ⟨?_, ?_, ?_, ?_, ?_⟩
   · exact ⟨sPipe ent [(.m, [0, 1])], ((sPipe ent [(.m, [0, 1])]).mustWait []).2, 2, { pwin with res := { stores := [(.m, [0, 1])] } }, ent, (sPipe ent [(.m, [0, 1])]).resultWrites ent 1 (firstElem (sPipe ent [(.m, [0, 1])]) dwin) { stores := [(.m, [0, 1])] }, by decide +kernel, by decide +kernel, by decide +kernel, by decide +kernel, rfl, Prod.ext (by decide +kernel) rfl, rfl⟩
   · exact ⟨sPipe2, (sPipe2.mustWait ((sPipe2.resultWrites ent 1 (firstElem sPipe2 dwin) { stores := [(.m, [0, 1])] }).map (·.off))).2, 2, { pwin with res := { stores := [(.m, [0, 1])] } }, ent, by decide +kernel, by decide +kernel, by decide +kernel, by decide +kernel, Prod.ext (by decide +kernel) rfl⟩
   · exact ⟨sPipe { ent with status := .quarantined } [], 2, pwin, { ent with status := .quarantined }, by decide +kernel, by decide +kernel, by decide +kernel⟩
   · exact ⟨sPipe { ent with status := .halted } [], 2, pwin, { ent with status := .halted }, by decide +kernel, by decide +kernel, by decide +kernel⟩
   · exact ⟨sPipe ent [], 2, 3, pwin, ent, by decide +kernel, by decide +kernel⟩

theorem test_witness_HaltsMasksProgramsAndTableAreWritten :
    (∃ (s : State) (v : U32) (e : TensorEntry), s.ownerOf v = some e ∧ e.status = .halted) ∧
    (∃ (s : State) (v : U32) (e : TensorEntry), s.ownerOf v = some e ∧ e.status = .haltPending) ∧
    (∃ (s : State) (v : U32), s.ownerOf v = none) ∧
    (∃ (s : State) (l : List Byte) (e : TensorEntry), l.length = 4160 ∧ s.ownerOf (Block.ofBytes l).hdr.ts = some e ∧ s.maskStageOk e (Block.ofBytes l) = true) ∧
    (∃ (s : State) (l : List Byte), ((s.ownerOf (Block.ofBytes l).hdr.ts = none ∨ ∃ e, s.ownerOf (Block.ofBytes l).hdr.ts = some e ∧ (l.length ≠ 4160 ∨ s.maskStageOk e (Block.ofBytes l) = false)))) ∧
    (∃ (s : State) (n : Fin 16) (l : List Byte), s.loadable = true ∧ slotError l = none) ∧
    (∃ (s : State) (n : Fin 16) (l : List Byte) (err : Nat), ((s.loadable = true ∧ slotError l = some err ∨ s.loadable = false ∧ err = 0xFF))) ∧
    (∃ (s : State) (l : List Byte) (es : List TensorEntry), s.loadable = true ∧ s.parseTable 0 [] (chunksOf (l.length / 256 + 1) 256 l) = .ok es) ∧
    (∃ (s : State) (l : List Byte) (off : Nat), ((s.loadable = true ∧ s.parseTable 0 [] (chunksOf (l.length / 256 + 1) 256 l) = .error off ∨ s.loadable = false ∧ off = 0xFFFFFFFF))) :=
   by
   refine ⟨?_, ?_, ?_, ?_, ?_, ?_, ?_, ?_, ?_⟩
   · exact ⟨{ upd := { table := [{ ent with status := .halted }] } }, 256, { ent with status := .halted }, by decide +kernel, by decide +kernel⟩
   · exact ⟨{ upd := { table := [{ ent with status := .haltPending }] } }, 256, { ent with status := .haltPending }, by decide +kernel, by decide +kernel⟩
   · exact ⟨{}, 0xFFFFFFFF, by decide +kernel⟩
   · exact ⟨{ upd := { table := [{ ent with baseK := 0x2000000 }] } }, maskBytes, { ent with baseK := 0x2000000 }, by decide +kernel, by decide +kernel, by decide +kernel⟩
   · exact ⟨{}, [], .inl (by decide +kernel)⟩
   · exact ⟨{ job := { dev := .opening } }, 15, [0, 0, 0, 0], by decide +kernel, by decide +kernel⟩
   · exact ⟨{ job := { dev := .standby } }, 0, [0, 0, 0, 0xFF], 0, .inl (by decide +kernel)⟩
   · exact ⟨{ job := { dev := .standby } }, [], [], by decide +kernel, rfl⟩
   · exact ⟨{}, [], 0xFFFFFFFF, .inr (by decide +kernel)⟩

theorem test_witness_VectorWindowBecomesAnInvocation :
    (∃ (s s1 : State) (ts w : U32) (d d1 : DispWin) (e e1 : TensorEntry) (v : VecEntry) (s0 s4 : U32) (c : Core), s.readyWindow ts w false 2 = some (d, e) ∧ e.status ≠ .quarantined ∧ e.status ≠ .halted ∧ s.sizeFor d = some (s0, s4) ∧ s.beginStep e d.step = (true, s1) ∧ s1.ownerOf ts = some e1 ∧ s1.pickCore (patternOf e1) [] = some c ∧ (s1.core c).running = none ∧ (s1.core c).queue = none ∧ s1.checkCore (patternOf e1) c = none ∧ d1 = { d with s0 := s0, s4 := s4, tPrime := e1.t + 1 } ∧ s1.ownerOf d.ts = some e1 ∧ s1.entryAt e1.slot = some v) ∧
    (∃ (s : State) (ts w : U32) (d : DispWin) (e : TensorEntry), s.readyWindow ts w false 2 = some (d, e) ∧ e.status = .quarantined) ∧
    (∃ (s : State) (ts w : U32) (d : DispWin) (e : TensorEntry), s.readyWindow ts w false 2 = some (d, e) ∧ e.status = .halted) :=
   by
   refine ⟨?_, ?_, ?_⟩
   · exact ⟨{ (sDisp { ent with cls := 2 }) with vec := { entries := [ventry] } }, (State.beginStep { ent with cls := 2 } 1 { (sDisp { ent with cls := 2 }) with vec := { entries := [ventry] } }).2, 256, 0, dwin, { dwin with s0 := 0x3F800000, s4 := leafScale 1, tPrime := 1 }, { ent with cls := 2 }, { ent with cls := 2 }, ventry, 0x3F800000, leafScale 1, 0, by decide +kernel, by decide +kernel, by decide +kernel, rfl, Prod.ext (by decide +kernel) rfl, by decide +kernel, by decide +kernel, by decide +kernel, by decide +kernel, by decide +kernel, rfl, by decide +kernel, by decide +kernel⟩
   · exact ⟨sDisp { ent with cls := 2, status := .quarantined }, 256, 0, dwin, { ent with cls := 2, status := .quarantined }, by decide +kernel, by decide +kernel⟩
   · exact ⟨sDisp { ent with cls := 2, status := .halted }, 256, 0, dwin, { ent with cls := 2, status := .halted }, by decide +kernel, by decide +kernel⟩

theorem test_witness_VectorRunsEndCompareAndCommit :
    (∃ (s : State) (c : Core) (i : Invoc), (s.core c).running = some i ∧ i.check = false ∧ (s.core c).queue = none ∧ s.vec.again = []) ∧
    (∃ (s : State) (c : Core), (s.core c).running = none) ∧
    (∃ (s : State) (c : Core) (unit : U8) (i : Invoc), (s.core c).running = some i) ∧
    (∃ (s : State) (c : Core) (r : RunOut) (e : TensorEntry), (s.core c).finished.find? (fun r => !r.inv.check) = some r ∧ s.ownerOf r.inv.win.ts = some e ∧ r.ending.good = true ∧ e.status ≠ .quarantined ∧ e.status ≠ .halted) ∧
    (∃ (s : State) (c : Core) (r : RunOut) (e : TensorEntry), (s.core c).finished.find? (fun r => !r.inv.check) = some r ∧ s.ownerOf r.inv.win.ts = some e ∧ r.ending.good = true ∧ e.status = .quarantined) ∧
    (∃ (s : State) (c b : Core) (a r x : RunOut), (s.core c).finished.find? (fun r => r.inv.check) = some x ∧ s.checkRuns x.inv = [a, r] ∧ a.inv.runNo = 0 ∧ r.inv.runNo = 1 ∧ a.agrees r = false ∧ s.thirdRuns x.inv = false ∧ s.pickCore (0x8100 + a.inv.entry.toNat) [a.core, r.core] = some b ∧ (s.core b).load < 2) ∧
    (∃ (s : State) (c : Core) (a r x : RunOut), (s.core c).finished.find? (fun r => r.inv.check) = some x ∧ s.checkRuns x.inv = [a, r] ∧ a.inv.runNo = 0 ∧ r.inv.runNo = 1 ∧ a.agrees r = true) ∧
    (∃ (s : State) (c : Core) (l : PendLoad) (rest : List PendLoad) (r : BitVec 5) (size : BitVec 3) (a : U64) (bs : List Byte) (u : State)
      (tier : Tier), (s.core c).loads = l :: rest ∧ l.dest = .x r size ∧ l.addrs = [a] ∧ tierOf (offOf a) = some tier ∧ (s.setCore c { s.core c with loads := rest }).readMem tier (offOf a) l.bytes = (bs, false, u)) ∧
    (∃ (s : State) (c : Core) (l : PendLoad) (rest : List PendLoad) (r : BitVec 5) (size : BitVec 3) (a : U64) (bs : List Byte) (u : State)
      (tier : Tier), (s.core c).loads = l :: rest ∧ l.dest = .x r size ∧ l.addrs = [a] ∧ tierOf (offOf a) = some tier ∧ (s.setCore c { s.core c with loads := rest }).readMem tier (offOf a) l.bytes = (bs, true, u)) ∧
    (∃ (s : State) (c : Core), (s.core c).endWait = none) ∧
    (∃ (s : State) (c : Core) (v : U8) (a : U32), (s.core c).endWait = some v ∧ (s.core c).copies = [a] ∧ CoreState.copying { s.core c with copies := [] } = false) :=
   by
   refine ⟨?_, ?_, ?_, ?_, ?_, ?_, ?_, ?_, ?_, ?_, ?_⟩
   · exact ⟨sRuns, 3, inv, by decide +kernel, by decide +kernel, by decide +kernel, by decide +kernel⟩
   · exact ⟨{}, 15, by decide +kernel⟩
   · exact ⟨sRuns, 3, 0, inv, by decide +kernel⟩
   · exact ⟨sCore { finished := [rout false 0 (.status 0)] }, 3, rout false 0 (.status 0), { ent with cls := 2 }, by decide +kernel, by decide +kernel, by decide +kernel, by decide +kernel, by decide +kernel⟩
   · exact ⟨{ (sCore { finished := [rout false 0 (.status 0)] }) with upd := { table := [{ ent with status := .quarantined }] } }, 3, rout false 0 (.status 0), { ent with status := .quarantined }, by decide +kernel, by decide +kernel, by decide +kernel, by decide +kernel⟩
   · exact ⟨sCore { finished := [rout true 0 (.status 0), rout true 1 (.status 1)] }, 3, 0, rout true 0 (.status 0), rout true 1 (.status 1), rout true 0 (.status 0), by decide +kernel, by decide +kernel, by decide +kernel, by decide +kernel, by decide +kernel, by decide +kernel, by decide +kernel, by decide +kernel⟩
   · exact ⟨sCore { finished := [rout true 0 (.status 0), rout true 1 (.status 0)] }, 3, rout true 0 (.status 0), rout true 1 (.status 0), rout true 0 (.status 0), by decide +kernel, by decide +kernel, by decide +kernel, by decide +kernel, by decide +kernel⟩
   · exact ⟨sLoad, 3, ⟨0, .x 5 3, [0x1000]⟩, [], 5, 3, 0x1000, List.replicate 8 0, ((sLoad.setCore 3 { sLoad.core 3 with loads := [] }).readMem .h 0x1000 8).2.2, .h, by decide +kernel, rfl, rfl, by decide +kernel, Prod.ext (by decide +kernel) (Prod.ext (by decide +kernel) rfl)⟩
   · exact ⟨sLoadBad, 3, ⟨0, .x 5 3, [0x1000]⟩, [], 5, 3, 0x1000, ((sLoadBad.setCore 3 { sLoadBad.core 3 with loads := [] }).readMem .h 0x1000 8).1, ((sLoadBad.setCore 3 { sLoadBad.core 3 with loads := [] }).readMem .h 0x1000 8).2.2, .h, by decide +kernel, rfl, rfl, by decide +kernel, Prod.ext rfl (Prod.ext (by decide +kernel) rfl)⟩
   · exact ⟨{}, 0, by decide +kernel⟩
   · exact ⟨sCore { endWait := some 0, copies := [64] }, 3, 0, 64, by decide +kernel, by decide +kernel, by decide +kernel⟩

theorem test_witness_VectorRunsEndCompareAndCommit_VectorCodeAndEntriesLoadWholeOrNotAtAll :
    (∃ (s : State) (n : Fin 16) (l : List Byte), s.loadable = true ∧ l ≠ [] ∧ codeSlotError (totalWords - s.otherWords n) l = none) ∧
    (∃ (s : State) (n : Fin 16) (l : List Byte) (err : Nat), ((s.loadable = true ∧ l ≠ [] ∧ codeSlotError (totalWords - s.otherWords n) l = some err ∨ (s.loadable = false ∨ l = []) ∧ err = 0xFFFF))) ∧
    (∃ (s : State) (l : List Byte) (vs : List VecEntry), s.loadable = true ∧ s.parseVec 0 [] (chunksOf (l.length / 128 + 1) 128 l) = .ok vs) ∧
    (∃ (s : State) (l : List Byte) (off : Nat), ((s.loadable = true ∧ s.parseVec 0 [] (chunksOf (l.length / 128 + 1) 128 l) = .error off ∨ s.loadable = false ∧ off = 0xFFFFFFFF))) :=
   by
   refine ⟨?_, ?_, ?_, ?_⟩
   · exact ⟨{ job := { dev := .standby } }, 0, [0, 0, 0, 0], by decide +kernel, by decide +kernel, by decide +kernel⟩
   · exact ⟨{ job := { dev := .standby } }, 0, [0, 0, 0, 0xFF], 0, .inl (by decide +kernel)⟩
   · exact ⟨{ job := { dev := .opening } }, [], [], by decide +kernel, rfl⟩
   · exact ⟨{}, [], 0xFFFFFFFF, .inr (by decide +kernel)⟩

theorem test_witness_VectorElementInstructionsComputeEveryGuardedLane :
    (∃ (s : State) (c : Core), Issues s c []) ∧
    (∃ (s : State) (c : Core) (a : VeArgs), Issues s c (refsVe a)) :=
   by
   refine ⟨?_, ?_⟩
   · exact ⟨sRuns, 3, by unfold Issues; decide +kernel⟩
   · exact ⟨sRuns, 3, ⟨31, 1, 2, false, true, true, 7⟩, by unfold Issues; decide +kernel⟩

theorem test_witness_ScalarFloatInstructionsRoundOnceAtTheirWidth :
    (∃ (s : State) (c : Core) (a : FopArgs), Issues s c (refsFop a)) ∧
    (∃ (s : State) (c : Core) (a : FopArgs), a.w = false ∧ Issues s c (refsFop a)) :=
   by
   refine ⟨?_, ?_⟩
   · exact ⟨sRuns, 3, ⟨31, 1, 2, false, true, false⟩, by unfold Issues; decide +kernel⟩
   · exact ⟨sRuns, 3, ⟨31, 1, 2, false, true, false⟩, by decide +kernel, by unfold Issues; decide +kernel⟩

theorem test_witness_IntegerLanesAndComparesWriteWhatTheTableSays :
    (∃ (s : State) (c : Core) (a : ViArgs), Issues s c (refsVi a)) ∧
    (∃ (s : State) (c : Core) (a : ViArgs), Issues s c [.v a.vd.toNat]) ∧
    (∃ (s : State) (c : Core) (a : VcArgs), Issues s c (refsVc a)) :=
   by
   refine ⟨?_, ?_, ?_⟩
   · exact ⟨sRuns, 3, ⟨31, 1, 2, false, 7⟩, by unfold Issues; decide +kernel⟩
   · exact ⟨sRuns, 3, ⟨31, 1, 2, false, 7⟩, by unfold Issues; decide +kernel⟩
   · exact ⟨sRuns, 3, ⟨7, 1, 2, 3, false, true, true, 6⟩, by unfold Issues; decide +kernel⟩

theorem test_witness_ReductionsMovesAndPredicatesWriteOneRegister :
    (∃ (s : State) (c : Core) (a : VredArgs) (l : List Fv), Issues s c (refsVred a) ∧ l = (((List.finRange 32).filter (fun i => ((s.core c).pr a.pg).getLsbD i.val)).map (fun i => v32 ((s.core c).vr a.va)[i]))) ∧
    (∃ (s : State) (c : Core) (a : VmovArgs), Issues s c [.v a.d.toNat, .f a.a.toNat]) ∧
    (∃ (s : State) (c : Core) (a : VmovArgs), Issues s c [.v a.d.toNat, .x a.a.toNat]) ∧
    (∃ (s : State) (c : Core) (a : VmovArgs), Issues s c [.f a.d.toNat, .v a.a.toNat, .x a.b.toNat]) ∧
    (∃ (s : State) (c : Core) (a : VmovArgs), Issues s c [.v a.d.toNat, .f a.a.toNat, .x a.b.toNat]) ∧
    (∃ (s : State) (c : Core) (a : VmovArgs), Issues s c [.v a.d.toNat, .v a.a.toNat]) ∧
    (∃ (s : State) (c : Core) (a : VmovArgs), Issues s c [.v a.d.toNat, .v a.a.toNat, .v a.b.toNat]) ∧
    (∃ (s : State) (c : Core) (a : PrArgs), Issues s c []) ∧
    (∃ (s : State) (c : Core) (a : PrArgs), Issues s c [.x a.x.toNat]) :=
   by
   refine ⟨?_, ?_, ?_, ?_, ?_, ?_, ?_, ?_, ?_⟩
   · exact ⟨sRuns, 3, ⟨31, 1, 7⟩, [], by unfold Issues; decide +kernel, by decide +kernel⟩
   · exact ⟨sRuns, 3, ⟨31, 1, 2, 7⟩, by unfold Issues; decide +kernel⟩
   · exact ⟨sRuns, 3, ⟨31, 1, 2, 7⟩, by unfold Issues; decide +kernel⟩
   · exact ⟨sRuns, 3, ⟨31, 1, 2, 7⟩, by unfold Issues; decide +kernel⟩
   · exact ⟨sRuns, 3, ⟨31, 1, 2, 7⟩, by unfold Issues; decide +kernel⟩
   · exact ⟨sRuns, 3, ⟨31, 1, 2, 7⟩, by unfold Issues; decide +kernel⟩
   · exact ⟨sRuns, 3, ⟨31, 1, 2, 7⟩, by unfold Issues; decide +kernel⟩
   · exact ⟨sRuns, 3, ⟨7, 1, 2, 0⟩, by unfold Issues; decide +kernel⟩
   · exact ⟨sRuns, 3, ⟨7, 1, 2, 31⟩, by unfold Issues; decide +kernel⟩

theorem test_witness_ScalarIntegerInstructionsWriteOneXRegister :
    (∃ (s : State) (c : Core) (a : XrArgs) (x y : U64), Issues s c (refsXr a) ∧ x = (s.core c).xr a.xa ∧ y = (s.core c).xr a.xb) ∧
    (∃ (s : State) (c : Core) (a : XiArgs) (x y : U64), Issues s c (refsXi a) ∧ x = (s.core c).xr a.xa ∧ y = a.imm.signExtend 64) ∧
    (∃ (s : State) (c : Core) (xd : BitVec 5) (imm : BitVec 21), Issues s c [.x xd.toNat]) ∧
    (∃ (k : CoreState) (r : BitVec 5) (v : U64), r ≠ 0) ∧
    (∃ (k : CoreState) (r : BitVec 3) (v : U32), r ≠ 0) :=
   by
   refine ⟨?_, ?_, ?_, ?_, ?_⟩
   · exact ⟨sRuns, 3, ⟨31, 1, 2⟩, 0, 0, by unfold Issues; decide +kernel, by decide +kernel, by decide +kernel⟩
   · exact ⟨sRuns, 3, ⟨31, 1, 0x800⟩, 0, 0xFFFFFFFFFFFFF800, by unfold Issues; decide +kernel, by decide +kernel, by decide +kernel⟩
   · exact ⟨sRuns, 3, 31, 0, by unfold Issues; decide +kernel⟩
   · exact ⟨{}, 31, 0, by decide +kernel⟩
   · exact ⟨{}, 7, 0, by decide +kernel⟩

theorem test_witness_ConversionsRoundCountAndMovesKeepBits :
    (∃ (s : State) (c : Core) (a : VeArgs) (one : Fin 32 → Rounded), Issues s c (refsVe a) ∧ (∀ i, one i = convertTo (a.vb.toNat % 16) (v32 (if a.absa then r32 (v32 ((s.core c).vr a.va)[i]).absV else ((s.core c).vr a.va)[i])))) ∧
    (∃ (s : State) (c : Core) (a : ViArgs) (one : Fin 32 → Rounded), Issues s c (refsVi a) ∧ (∀ i, one i = roundInt 32 (-2147483648) 2147483647 (v32 ((s.core c).vr a.va)[i]))) ∧
    (∃ (s : State) (c : Core) (a : FopArgs), Issues s c (refsFop a) ∧ a.w = false ∧ a.fb.toNat % 16 = 1) ∧
    (∃ (s : State) (c : Core) (a : FopArgs) (r : Rounded) (x : Fv), Issues s c (refsFop a) ∧ ((a.w = true ∨ a.fb.toNat % 16 ≠ 1)) ∧ x = (if a.w then v64 ((s.core c).fr a.fa) else v32 ((s.core c).fr32 a.fa)) ∧ r = convertTo (a.fb.toNat % 16) (if a.absa then x.absV else x)) ∧
    (∃ (s : State) (c : Core) (d a : BitVec 5) (r : Rounded), Issues s c [.x d.toNat, .f a.toNat] ∧ r = roundInt 64 (-(2 ^ 63)) (2 ^ 63 - 1) (v64 ((s.core c).fr a))) ∧
    (∃ (s : State) (c : Core) (d a : BitVec 5), Issues s c [.f d.toNat, .x a.toNat]) ∧
    (∃ (s : State) (c : Core) (d a : BitVec 5), Issues s c [.x d.toNat, .f a.toNat]) :=
   by
   refine ⟨?_, ?_, ?_, ?_, ?_, ?_, ?_⟩
   · exact ⟨sRuns, 3, ⟨31, 1, 3, false, false, true, 7⟩, (fun i => convertTo 3 (v32 (if true then r32 (v32 ((sRuns.core 3).vr 1)[i]).absV else ((sRuns.core 3).vr 1)[i]))), by unfold Issues; decide +kernel, fun _ => rfl⟩
   · exact ⟨sRuns, 3, ⟨31, 1, 0, false, 7⟩, (fun i => roundInt 32 (-2147483648) 2147483647 (v32 ((sRuns.core 3).vr 1)[i])), by unfold Issues; decide +kernel, fun _ => rfl⟩
   · exact ⟨sRuns, 3, ⟨31, 1, 1, false, false, true⟩, by unfold Issues; decide +kernel, by decide +kernel, by decide +kernel⟩
   · exact ⟨sRuns, 3, ⟨31, 1, 1, true, false, true⟩, convertTo 1 (v64 ((sRuns.core 3).fr 1)).absV, v64 ((sRuns.core 3).fr 1), by unfold Issues; decide +kernel, .inl rfl, rfl, rfl⟩
   · exact ⟨sRuns, 3, 31, 1, roundInt 64 (-(2 ^ 63)) (2 ^ 63 - 1) (v64 ((sRuns.core 3).fr 1)), by unfold Issues; decide +kernel, rfl⟩
   · exact ⟨sRuns, 3, 31, 1, by unfold Issues; decide +kernel⟩
   · exact ⟨sRuns, 3, 31, 1, by unfold Issues; decide +kernel⟩

theorem test_witness_ControlFlowSetsTheProgramCounterOrEndsTheRun :
    (∃ (s : State) (c : Core) (xa xb : BitVec 5) (cond : BitVec 3) (off : BitVec 13) (x y : U64), Issues s c [.x xa.toNat, .x xb.toNat] ∧ x = (s.core c).xr xa ∧ y = (s.core c).xr xb) ∧
    (∃ (s : State) (c : Core) (pn : BitVec 3) (cond : BitVec 2) (off : BitVec 21) (p : U32), Issues s c [] ∧ p = (s.core c).pr pn) ∧
    (∃ (s : State) (c : Core) (xd : BitVec 5) (off : BitVec 21), Issues s c [.x xd.toNat]) ∧
    (∃ (s : State) (c : Core) (xd xa : BitVec 5), Issues s c [.x xd.toNat, .x xa.toNat] ∧ ((s.core c).xr xa).toNat % 4 = 0 ∧ ((s.core c).xr xa).toNat < s.slotBytes (s.core c)) ∧
    (∃ (s : State) (c : Core) (xd xa : BitVec 5), Issues s c [.x xd.toNat, .x xa.toNat] ∧ ((s.core c).xr xa).toNat % 4 ≠ 0) ∧
    (∃ (s : State) (c : Core) (xd xa : BitVec 5), Issues s c [.x xd.toNat, .x xa.toNat] ∧ ((s.core c).xr xa).toNat % 4 = 0 ∧ s.slotBytes (s.core c) ≤ ((s.core c).xr xa).toNat) ∧
    (∃ (s : State) (c : Core) (xa : BitVec 5) (i : Invoc), Issues s c [.x xa.toNat] ∧ (s.core c).copying = false ∧ s.vec.again = [] ∧ (s.core c).running = some i ∧ (s.core c).queue = none ∧ ((s.core c).xr xa).setWidth 8 = (0 : U8)) ∧
    (∃ (s : State) (c : Core) (xa : BitVec 5), Issues s c [.x xa.toNat] ∧ (s.core c).copying = true) ∧
    (∃ (s : State) (c : Core) (xa : BitVec 5), Issues s c [.x xa.toNat]) ∧
    (∃ (s : State) (c : Core) (pc : U32) (code : U8) (addr : U64) (i : Invoc), (s.core c).running = some i ∧ i.check = false ∧ (s.core c).queue = none ∧ s.vec.again = []) :=
   by
   refine ⟨?_, ?_, ?_, ?_, ?_, ?_, ?_, ?_, ?_, ?_⟩
   · exact ⟨sRuns, 3, 1, 2, 5, 0x1000, 0, 0, by unfold Issues; decide +kernel, by decide +kernel, by decide +kernel⟩
   · exact ⟨sRuns, 3, 7, 2, 0x100000, 0, by unfold Issues; decide +kernel, by decide +kernel⟩
   · exact ⟨sRuns, 3, 31, 0x100000, by unfold Issues; decide +kernel⟩
   · exact ⟨sVec [] 4, 3, 31, 1, by unfold Issues; decide +kernel, by decide +kernel, by decide +kernel⟩
   · exact ⟨sVec [] 3, 3, 31, 1, by unfold Issues; decide +kernel, by decide +kernel⟩
   · exact ⟨sVec [] 8, 3, 31, 1, by unfold Issues; decide +kernel, by decide +kernel, by decide +kernel⟩
   · exact ⟨sRuns, 3, 1, inv, by unfold Issues; decide +kernel, by decide +kernel, by decide +kernel, by decide +kernel, by decide +kernel, by decide +kernel⟩
   · exact ⟨sVec [] 0 { copies := [64] }, 3, 1, by unfold Issues; decide +kernel, by decide +kernel⟩
   · exact ⟨sRuns, 3, 1, by unfold Issues; decide +kernel⟩
   · exact ⟨sRuns, 3, 8, 4, 0, inv, by decide +kernel, by decide +kernel, by decide +kernel, by decide +kernel⟩

theorem test_witness_LoadsAreIssuedOrDeliverFromScratch :
    (∃ (s : State) (c : Core) (rs : List RegRef) (n : Nat) (d : LoadDest) (f : CoreState → List U64), Issues s c rs ∧ Granted s c true false n (f (s.core c))) ∧
    (∃ (s : State) (c : Core) (rs : List RegRef) (n : Nat) (d : LoadDest) (f : CoreState → List U64), Issues s c rs ∧ Granted s c false false n (f (s.core c)) ∧ (∀ a ∈ f (s.core c), (s.core c).bldbInto a.toNat n = false)) ∧
    (∃ (s : State) (c : Core) (rs : List RegRef) (g : Bool) (n : Nat) (d : LoadDest) (f : CoreState → List U64) (code : U8) (a : U64), Issues s c rs ∧ s.firstFault (s.core c) g false n (f (s.core c)) = some (code, a)) ∧
    (∃ (s : State) (c : Core) (a : LsxArgs), a.size.toNat ≤ 6) ∧
    (∃ (s : State) (c : Core) (a : VmemArgs), vmemOk a = true) ∧
    (∃ (s : State) (c : Core) (xd xa xs : BitVec 5) (sel : BitVec 4) (e : TensorEntry) (st : Stream), Issues s c [.x xd.toNat, .x xa.toNat, .x xs.toNat] ∧ s.blockArg (s.core c) sel false ((s.core c).xr xa) = some (e, st) ∧ ((s.core c).xr xs).toNat % 64 = 0 ∧ ((s.core c).xr xs).toNat + 4096 ≤ 0x40000 ∧ (s.core c).bstbFrom ((s.core c).xr xs).toNat 4096 = false) :=
   by
   refine ⟨?_, ?_, ?_, ?_, ?_, ?_⟩
   · exact ⟨sVec [area] 0, 3, [.x 5], 8, .x 5 3, (fun _ => [0x3000038]), by unfold Issues; decide +kernel, one_mem (by decide +kernel)⟩
   · exact ⟨sRuns, 3, [.x 5], 8, .x 5 3, (fun _ => [0x3FFF8]), by unfold Issues; decide +kernel, one_mem (by decide +kernel), one_mem (by decide +kernel)⟩
   · exact ⟨sRuns, 3, [.x 5], true, 8, .x 5 3, (fun _ => [0x3000038]), 4, 0x3000038, by unfold Issues; decide +kernel, by decide +kernel⟩
   · exact ⟨{}, 3, ⟨31, 1, 6, true, 0x800⟩, by decide +kernel⟩
   · exact ⟨{}, 3, ⟨31, 1, 2, 11, true, 7⟩, by decide +kernel⟩
   · exact ⟨sVec [] 0, 3, 1, 2, 3, 0, { ent with cls := 2 }, .w, by unfold Issues; decide +kernel, by decide +kernel, by decide +kernel, by decide +kernel, by decide +kernel⟩

theorem test_witness_StoresWriteTheirBytesOnly :
    (∃ (s : State) (c : Core) (rs : List RegRef) (n : Nat) (a : U64) (l : List Byte), Issues s c rs ∧ Granted s c false true n [a] ∧ (s.core c).bstbFrom a.toNat l.length = false ∧ (s.core c).bldbInto a.toNat l.length = false) ∧
    (∃ (m : List Host.Cell) (o b : Nat) (l : List Byte), Memory.wf m = true ∧ ((b + 1 ≤ o ∨ o + l.length ≤ b))) ∧
    (∃ (m : List Host.Cell) (o : Nat) (l : List Byte), Memory.wf m = true) ∧
    (∃ (s : State) (c : Core) (rs : List RegRef) (n : Nat) (a : U64) (l : List Byte) (t : Tier), Issues s c rs ∧ Granted s c true true n [a] ∧ (s.core c).loadsFrom a l.length = false ∧ tierOf (offOf a) = some t) ∧
    (∃ (s : State) (c : Core) (a : LsxArgs), a.size.toNat ≤ 3) ∧
    (∃ (s : State) (c : Core) (a : VmemArgs), vmemOk a = true) ∧
    (∃ (s : State) (c : Core) (rs : List RegRef) (g : Bool) (n : Nat) (f : CoreState → List (U64 × List Byte × Option Rounded))
      (code : U8) (a : U64), Issues s c rs ∧ s.firstFault (s.core c) g true n ((f (s.core c)).map (·.1)) = some (code, a)) ∧
    (∃ (s : State) (c : Core) (xa xs : BitVec 5) (sel : BitVec 4) (e : TensorEntry) (st : Stream), Issues s c [.x xa.toNat, .x xs.toNat] ∧ s.blockArg (s.core c) sel true ((s.core c).xr xa) = some (e, st) ∧ ((s.core c).xr xs).toNat % 64 = 0 ∧ ((s.core c).xr xs).toNat + 4096 ≤ 0x40000 ∧ (∀ b ∈ (s.core c).staged, ¬ (b.stream = st ∧ b.idx = ((s.core c).xr xa).setWidth 32)) ∧ (s.core c).staged.length < 64 ∧ (s.core c).bldbInto ((s.core c).xr xs).toNat 4096 = false ∧ (s.core c).stagedCount < 128) ∧
    (∃ (s : State) (c : Core) (xa xs : BitVec 5) (sel : BitVec 4) (e : TensorEntry) (st : Stream), Issues s c [.x xa.toNat, .x xs.toNat] ∧ s.blockArg (s.core c) sel true ((s.core c).xr xa) = some (e, st) ∧ ((s.core c).xr xs).toNat % 64 = 0 ∧ ((s.core c).xr xs).toNat + 4096 ≤ 0x40000 ∧ (((∃ b ∈ (s.core c).staged, b.stream = st ∧ b.idx = ((s.core c).xr xa).setWidth 32) ∨ 64 ≤ (s.core c).staged.length))) :=
   by
   refine ⟨?_, ?_, ?_, ?_, ?_, ?_, ?_, ?_, ?_⟩
   · exact ⟨sRuns, 3, [.x 5], 8, 0x3FFF8, [1, 2, 3, 4, 5, 6, 7, 8], by unfold Issues; decide +kernel, one_mem (by decide +kernel), by decide +kernel⟩
   · exact ⟨[(5, 1)], 6, 5, [2, 3], by decide +kernel, .inl (by decide +kernel)⟩
   · exact ⟨[(5, 1)], 6, [2, 3], by decide +kernel⟩
   · exact ⟨sVec [area] 0, 3, [.x 5], 8, 0x3000038, [1, 2, 3, 4, 5, 6, 7, 8], .h, by unfold Issues; decide +kernel, one_mem (by decide +kernel), by decide +kernel, by decide +kernel⟩
   · exact ⟨{}, 3, ⟨31, 1, 3, true, 0x7FF⟩, by decide +kernel⟩
   · exact ⟨{}, 3, ⟨31, 1, 2, 2, true, 7⟩, by decide +kernel⟩
   · exact ⟨sRuns, 3, [.x 5], false, 8, (fun _ => [(0x40000, [], none)]), 3, 0x40000, by unfold Issues; decide +kernel, by decide +kernel⟩
   · exact ⟨sVec [] 0, 3, 2, 3, 0, { ent with cls := 2 }, .w, by unfold Issues; decide +kernel, by decide +kernel, by decide +kernel, by decide +kernel, none_mem (by decide +kernel), by decide +kernel, by decide +kernel, by decide +kernel⟩
   · exact ⟨sVec [] 0 { staged := [{ stream := .w, idx := 0, data := [] }] }, 3, 2, 3, 0, { ent with cls := 2 }, .w, by unfold Issues; decide +kernel, by decide +kernel, by decide +kernel, by decide +kernel, .inl ⟨{ stream := .w, idx := 0, data := [] }, by decide +kernel, by decide +kernel, by decide +kernel⟩⟩

theorem test_witness_StreamTablesAreTakenWholeOrRefusedWhole :
    (∃ (s : State) (l : List Byte) (rows : List (List Byte)), rows = chunksOf (l.length / 64 + 1) 64 l ∧ s.loadable = true ∧ (∀ x ∈ rows.zipIdx, progRowOk s.str.segs (rows.map streamProgOf) x.2 x.1 = true)) ∧
    (∃ (s : State) (l : List Byte), s.loadable = false) ∧
    (∃ (s : State) (l : List Byte) (rows : List (List Byte)) (n : Nat), rows = chunksOf (l.length / 64 + 1) 64 l ∧ s.loadable = true ∧ rows.zipIdx.findIdx? (fun x => !progRowOk s.str.segs (rows.map streamProgOf) x.2 x.1) = some n) ∧
    (∃ (s : State) (l : List Byte) (rows : List (List Byte)), rows = chunksOf (l.length / 32 + 1) 32 l ∧ s.loadable = true ∧ (∀ x ∈ rows.zipIdx, segRowOk s x.2 x.1 = true) ∧ (∀ p ∈ s.str.progs, progFits (rows.map segmentOf) p = true)) ∧
    (∃ (s : State) (l : List Byte) (rows : List (List Byte)) (n : Nat), rows = chunksOf (l.length / 32 + 1) 32 l ∧ s.loadable = true ∧ rows.zipIdx.findIdx? (fun x => !segRowOk s x.2 x.1) = some n) :=
   by
   refine ⟨?_, ?_, ?_, ?_, ?_⟩
   · exact ⟨{ job := { dev := .standby }, str := { segs := [seg0] } }, [0, 0, 0, 1, 0, 0, 1, 0] ++ List.replicate 56 0, [[0, 0, 0, 1, 0, 0, 1, 0] ++ List.replicate 56 0], by decide +kernel, by decide +kernel, one_mem (by decide +kernel)⟩
   · exact ⟨{}, [], by decide +kernel⟩
   · exact ⟨{ job := { dev := .standby } }, [1], [[1]], 0, by decide +kernel, by decide +kernel, by decide +kernel⟩
   · exact ⟨{ job := { dev := .standby }, str := { segs := [], progs := [] } }, [0, 1, 0, 0, 2, 2, 0, 0, 0, 0, 0, 0, 1, 0, 0, 0, 8, 0, 0, 0, 0, 0, 0, 0, 0, 0, 0, 0, 0, 0, 0, 0], [[0, 1, 0, 0, 2, 2, 0, 0, 0, 0, 0, 0, 1, 0, 0, 0, 8, 0, 0, 0, 0, 0, 0, 0, 0, 0, 0, 0, 0, 0, 0, 0]], by decide +kernel, by decide +kernel, one_mem (by decide +kernel), none_mem (by decide +kernel)⟩
   · exact ⟨{ job := { dev := .standby } }, [1], [[1]], 0, by decide +kernel, by decide +kernel, by decide +kernel⟩

theorem test_witness_StreamTablesAreTakenWholeOrRefusedWhole_PassesStartStallAndEnd :
    (∃ (s : State) (v : U64) (step : U32) (p : U8) (g : StreamProg), step = v.setWidth 32 ∧ p = ((v >>> 32) &&& 0xF#64).setWidth 8 ∧ s.aboveFailed step = false ∧ s.progOf p = some g ∧ g.trigger = 0 ∧ s.passMayStart p step = true) ∧
    (∃ (s : State) (v : U64) (step : U32) (p : U8), step = v.setWidth 32 ∧ p = ((v >>> 32) &&& 0xF#64).setWidth 8 ∧ ((∀ g, s.progOf p = some g → g.trigger ≠ 0 ∨ s.passMayStart p step = false))) ∧
    (∃ (s : State) (v : U64), s.aboveFailed (v.setWidth 32) = true ∧ ((∀ g, s.progOf (((v >>> 32) &&& 0xF#64).setWidth 8) = some g → g.trigger ≠ 0 ∨ s.passMayStart (((v >>> 32) &&& 0xF#64).setWidth 8) (v.setWidth 32) = false))) ∧
    (∃ (s : State) (prog : U8) (step : U32) (p : Pass), s.passAt prog step = some p ∧ s.passLeft p = 0 ∧ (∀ g ∈ s.str.progs, ¬ (g.trigger = 2 ∧ g.chained = prog))) ∧
    (∃ (s : State) (prog : U8) (step : U32) (p : Pass), s.passAt prog step = some p ∧ s.passLeft p ≠ 0) ∧
    (∃ (s : State) (prog : U8) (step : U32) (port : Port) (p : Pass) (g : StreamProg), s.passAt prog step = some p ∧ s.progOf prog = some g ∧ p.stallSeen = false ∧ some port ∈ s.passPorts g ∧ (s.port port).weightRoom ((s.passPorts g).count (some port)) = false) :=
   by
   refine ⟨?_, ?_, ?_, ?_, ?_, ?_⟩
   · exact ⟨{ (sStr pass0) with str := { progs := [prog0], segs := [seg0] } }, 0, 0, 0, prog0, by decide +kernel, by decide +kernel, by decide +kernel, by decide +kernel, by decide +kernel, by decide +kernel⟩
   · exact ⟨{}, 0, 0, 0, by decide +kernel, by decide +kernel, fun g h => by cases h⟩
   · exact ⟨{ job := { stepStopped := true } }, 0, by decide +kernel, fun g h => by cases h⟩
   · exact ⟨{ str := { progs := [], passes := [pass0] } }, 0, 0, pass0, by decide +kernel, by decide +kernel, none_mem (by decide +kernel)⟩
   · exact ⟨sStr pass0, 0, 0, pass0, by decide +kernel, by decide +kernel⟩
   · exact ⟨sStr pass0 64, 0, 0, 0, pass0, prog0, by decide +kernel, by decide +kernel, by decide +kernel, by decide +kernel, by decide +kernel⟩

theorem test_witness_WeightBlocksGoToEveryDestination :
    (∃ (s : State) (prog : U8) (step : U32) (p : Pass) (g : StreamProg) (i : Nat) (sg : Segment) (sent : Nat) (e : TensorEntry), s.passAt prog step = some p ∧ s.progOf prog = some g ∧ p.ahead = [] ∧ s.str.aheadBytes + 4160 ≤ aheadMost ∧ nextLocal (s.segsOf g) p.nextSeg.toNat p.nextBlk.toNat = some (i, sg, sent) ∧ s.ownerOf sg.ts = some e ∧ s.passRoom g = true) ∧
    (∃ (s : State) (prog : U8) (step : U32) (p : Pass) (g : StreamProg), s.passAt prog step = some p ∧ s.progOf prog = some g ∧ s.passRoom g = false) ∧
    (∃ (s : State) (e : TensorEntry) (step : U32) (seen again : Bool) (b : Nat) (r : CRead), s.pairPick e (step - 1) b = none) ∧
    (∃ (s : State) (prog : U8) (step : U32) (seg : U16) (blk dest : U32) (p : Pass), s.passAt prog step = some p ∧ ⟨seg, blk, dest⟩ ∈ p.unacked) ∧
    (∃ (s : State) (prog : U8) (step : U32) (seg : U16) (blk dest : U32) (p : Pass), s.passAt prog step = some p ∧ ⟨seg, blk, dest⟩ ∉ p.unacked) ∧
    (∃ (s : State) (port : Port) (pk : Trans) (p : Pass) (g : StreamProg) (i : Nat) (sg : Segment), s.passOfReq pk (pk.aNat 4 4) = some (p, g, i, sg) ∧ pk.aNat 8 2 ≤ 1 ∧ pk.a8 11 = 5 ∧ (p.prog, p.step, ⟨BitVec.ofNat 16 i, BitVec.ofNat 32 (pk.aNat 4 4), cnOf pk.src⟩) ∉ s.str.retries) ∧
    (∃ (s : State) (port : Port) (pk : Trans), ((pk.a8 11 = 1 ∨ pk.a8 11 = 5)) ∧ (∀ b ∈ namedBlocks pk, s.passOfReq pk b = none)) ∧
    (∃ (s : State) (prog : U8) (step : U32) (seg : U16) (blk dest : U32) (p : Pass), s.passAt prog step = some p ∧ (prog, step, ⟨seg, blk, dest⟩) ∈ s.str.retries) :=
   by
   refine ⟨?_, ?_, ?_, ?_, ?_, ?_, ?_, ?_⟩
   · exact ⟨sStr pass0, 0, 0, pass0, prog0, 0, seg0, 0, ent, by decide +kernel, by decide +kernel, by decide +kernel, by decide +kernel, by decide +kernel, by decide +kernel, by decide +kernel⟩
   · exact ⟨sStr pass0 64, 0, 0, pass0, prog0, by decide +kernel, by decide +kernel, by decide +kernel⟩
   · exact ⟨{ mem := { h := [(0x80000A, 1), (0x80004A, 1)] } }, { ent with baseC := 0 }, 1, true, false, 0, {}, by decide +kernel⟩
   · exact ⟨sStr { pass0 with unacked := [⟨0, 0, 9⟩] }, 0, 0, 0, 0, 9, { pass0 with unacked := [⟨0, 0, 9⟩] }, by decide +kernel, by decide +kernel⟩
   · exact ⟨sStr pass0, 0, 0, 0, 0, 9, pass0, by decide +kernel, by decide +kernel⟩
   · exact ⟨sStr pass0, 0, { trn with a := 0x050000000000000000000100 }, pass0, prog0, 0, seg0, by decide +kernel, by decide +kernel, by decide +kernel, by decide +kernel⟩
   · exact ⟨{}, 0, { trn with a := 0x010000000000000000000000 }, .inl (by decide +kernel), by decide +kernel⟩
   · exact ⟨sStr pass0 65 seg0 [(0, 0, ⟨0, 0, 9⟩)], 0, 0, 0, 0, 9, pass0, by decide +kernel, by decide +kernel⟩

theorem test_witness_RelaysAndRemoteAccessesAreGuarded :
    (∃ (s : State) (port : Port) (b : Block), (∀ p ∈ s.str.passes, s.relaySeg p b.hdr = none) ∧ ((b.hdr.step = s.fence.cur ∨ b.hdr.step = s.fence.cur + 1))) ∧
    (∃ (s : State) (port : Port) (b : Block), (∀ p ∈ s.str.passes, s.relaySeg p b.hdr = none) ∧ b.hdr.step ≠ s.fence.cur ∧ b.hdr.step ≠ s.fence.cur + 1) ∧
    (∃ (s : State) (port : Port) (b : Block) (p : Pass) (g : StreamProg) (i : Nat) (sg : Segment), s.str.passes = [p] ∧ s.relaySeg p b.hdr = some (g, i, sg) ∧ (BitVec.ofNat 16 i, b.hdr.blk) ∉ p.relayed ∧ s.relayFull = false) ∧
    (∃ (s : State) (port : Port) (b : Block) (p : Pass) (g : StreamProg) (i : Nat) (sg : Segment), s.str.passes = [p] ∧ s.relaySeg p b.hdr = some (g, i, sg) ∧ (BitVec.ofNat 16 i, b.hdr.blk) ∉ p.relayed ∧ s.relayFull = true) ∧
    (∃ (s : State) (port : Port) (b : Block) (p : Pass) (g : StreamProg) (i : Nat) (sg : Segment), s.str.passes = [p] ∧ s.relaySeg p b.hdr = some (g, i, sg) ∧ (BitVec.ofNat 16 i, b.hdr.blk) ∈ p.relayed) ∧
    (∃ (s : State) (port : Port) (pk : Trans) (t : Tier), (∀ a ∈ s.agents, a.2 ≠ cnOf pk.src) ∧ s.accessRow pk true (64 * pk.cells) = .grant t) ∧
    (∃ (s : State) (port : Port) (pk : Trans), (∀ a ∈ s.agents, a.2 ≠ cnOf pk.src) ∧ s.accessRow pk true (64 * pk.cells) = .job) ∧
    (∃ (s : State) (port : Port) (pk : Trans) (a : Port × U32), a ∈ s.agents ∧ a.2 = cnOf pk.src) ∧
    (∃ (s : State) (port : Port) (pk : Trans), ((s.accessRow pk false (64 * (pk.a8 4).toNat) = .region ∨ (pk.a8 4).toNat = 0 ∨ 64 < (pk.a8 4).toNat))) ∧
    (∃ (s : State) (port : Port) (pk : Trans) (t : Tier) (l : List Byte) (bad : Bool) (u : State), 1 ≤ (pk.a8 4).toNat ∧ (pk.a8 4).toNat ≤ 64 ∧ s.accessRow pk false (64 * (pk.a8 4).toNat) = .grant t ∧ State.readMem t (offOf pk.b) (64 * (pk.a8 4).toNat) (s.takePk (.trans pk)) = (l, bad, u)) :=
   by
   refine ⟨?_, ?_, ?_, ?_, ?_, ?_, ?_, ?_, ?_, ?_⟩
   · exact ⟨{}, 8, piece 1, none_mem (by decide +kernel), .inr (by decide +kernel)⟩
   · exact ⟨{}, 8, piece 2, none_mem (by decide +kernel), by decide +kernel, by decide +kernel⟩
   · exact ⟨sStr pass0 65 relaySegm, 8, relayBlk, pass0, prog0, 0, relaySegm, by decide +kernel, by decide +kernel, by decide +kernel, by decide +kernel⟩
   · exact ⟨sFullRelay, 8, relayBlk, pass0, prog0, 0, relaySegm, by decide +kernel, by decide +kernel, by decide +kernel, full_relay⟩
   · exact ⟨sStr { pass0 with relayed := [(0, 0)] } 65 relaySegm, 8, relayBlk, { pass0 with relayed := [(0, 0)] }, prog0, 0, relaySegm, by decide +kernel, by decide +kernel, by decide +kernel⟩
   · exact ⟨sRemote, 8, { trn with b := 0x100FFC0, body := List.replicate 64 0 }, .h, none_mem (by decide +kernel), by decide +kernel⟩
   · exact ⟨sRemote, 8, { trn with jt := 1, b := 0x1000000 }, none_mem (by decide +kernel), by decide +kernel⟩
   · exact ⟨{ route := { wires := (Vector.replicate 16 {}).set 2 { kind := 2, cn := 5 } } }, 2, { trn with src := 5 }, (2, 5), by decide +kernel, by decide +kernel⟩
   · exact ⟨{}, 8, trn, .inr (.inl (by decide +kernel))⟩
   · exact ⟨sRemote, 8, { trn with b := 0x100FFC0, a := 0x100000000 }, .h, (State.readMem .h 0x100FFC0 64 (sRemote.takePk (.trans { trn with b := 0x100FFC0, a := 0x100000000 }))).1, (State.readMem .h 0x100FFC0 64 (sRemote.takePk (.trans { trn with b := 0x100FFC0, a := 0x100000000 }))).2.1, (State.readMem .h 0x100FFC0 64 (sRemote.takePk (.trans { trn with b := 0x100FFC0, a := 0x100000000 }))).2.2, by decide +kernel, by decide +kernel, by decide +kernel, rfl⟩

theorem test_witness_RelaysAndRemoteAccessesAreGuarded_RegionTableAndPatrolScrub :
    (∃ (s : State) (l : List Byte) (rs : List Region), s.loadable = true ∧ s.parseRegions 0 [] (chunksOf (l.length / 48 + 1) 48 l) = .ok rs ∧ ((∃ r ∈ rs, r.kind = 3))) ∧
    (∃ (s : State) (l : List Byte) (off : Nat), s.loadable = true ∧ s.parseRegions 0 [] (chunksOf (l.length / 48 + 1) 48 l) = .error off) ∧
    (∃ (s : State) (l : List Byte), s.loadable = false) ∧
    (∃ (s : State) (t : Tier) (errs : List (U64 × U8)), (∀ e ∈ errs, e.2 = 0) ∧ (s.suspects t (pageOff t (s.mem.scrubPos t).toNat) 4096) = []) :=
   by
   refine ⟨?_, ?_, ?_, ?_⟩
   · exact ⟨{ job := { dev := .standby } }, regionRow, [regionOf [] regionRow], by decide +kernel, ok_of (by decide +kernel), ⟨regionOf [] regionRow, by decide +kernel, by decide +kernel⟩⟩
   · exact ⟨{ job := { dev := .standby } }, [1], 0, by decide +kernel, err_of (by decide +kernel)⟩
   · exact ⟨{}, [], by decide +kernel⟩
   · exact ⟨{}, .h, [(0, 0)], one_mem (by decide +kernel), by decide +kernel⟩

theorem test_witness_FramesAreSentCheckedAndReplayed :
    (∃ (s : State) (p : Port), (s.port p).onWire = false) ∧
    (∃ (s : State) (p : Port), (s.port p).st = .training ∧ (s.port p).trainStep = 2) ∧
    (∃ (s : State) (p : Port), (s.port p).onWire = true ∧ ¬ ((s.port p).st = .training ∧ (s.port p).trainStep = 2) ∧ (s.port p).nakPending = true) ∧
    (∃ (s : State) (p : Port) (f : SentFrame), (s.port p).onWire = true ∧ ¬ ((s.port p).st = .training ∧ (s.port p).trainStep = 2) ∧ (s.port p).nakPending = false ∧ (s.port p).replayNext = some f) ∧
    (∃ (s : State) (p : Port), (s.port p).onWire = true ∧ ¬ ((s.port p).st = .training ∧ (s.port p).trainStep = 2) ∧ (s.port p).nakPending = false ∧ (s.port p).replayNext = none ∧ 2048 ≤ (s.port p).sentFrames.length) ∧
    (∃ (s : State) (p : Port) (l : List Byte), s.job.dev ≠ .exerciser ∧ (s.port p).onWire = true ∧ (s.port p).st ≠ .training ∧ frameCheckOk l = false) ∧
    (∃ (s : State) (p : Port) (l : List Byte) (w : Lcw), s.job.dev ≠ .exerciser ∧ (s.port p).onWire = true ∧ (s.port p).st ≠ .training ∧ frameCheckOk l = true ∧ frameWellFormed l = true ∧ w = Lcw.ofWord (field64 l 512) ∧ w.kind ≠ 0 ∧ w.seq = (s.port p).expect) ∧
    (∃ (s : State) (p : Port) (l : List Byte) (w : Lcw), s.job.dev ≠ .exerciser ∧ (s.port p).onWire = true ∧ (s.port p).st ≠ .training ∧ frameCheckOk l = true ∧ frameWellFormed l = true ∧ w = Lcw.ofWord (field64 l 512) ∧ w.kind = 0 ∧ w.seq ≠ (s.port p).expect) ∧
    (∃ (s : State) (p : Port) (a : BitVec 12), (s.port p).onWire = true ∧ (s.port p).ackKnown a = true ∧ (s.port p).st ≠ .training) ∧
    (∃ (s : State) (p : Port) (a : BitVec 12), s.job.dev ≠ .exerciser ∧ (s.port p).onWire = true ∧ (s.port p).ackKnown a = false) ∧
    (∃ (s : State) (p : Port), (s.port p).nakWait = true ∧ (s.port p).onWire = true) ∧
    (∃ (s : State) (p : Port), s.job.dev ≠ .exerciser ∧ (s.port p).onWire = true ∧ s.links.nakLimit.toNat ≤ (s.port p).nakRow) ∧
    (∃ (s : State) (p : Port), (s.port p).nakRow < s.links.nakLimit.toNat) :=
   by
   refine ⟨?_, ?_, ?_, ?_, ?_, ?_, ?_, ?_, ?_, ?_, ?_, ?_, ?_⟩
   · exact ⟨{}, 23, by decide +kernel⟩
   · exact ⟨sPort 8 { q8 with st := .training, trainStep := 2 }, 8, by decide +kernel, by decide +kernel⟩
   · exact ⟨sPort 8 { q8 with nakPending := true }, 8, by decide +kernel, by decide +kernel, by decide +kernel⟩
   · exact ⟨sPort 8 { q8 with replayFrom := some 5, sentFrames := [sent5] }, 8, sent5, by decide +kernel, by decide +kernel, by decide +kernel, by decide +kernel⟩
   · exact ⟨sPort 8 { q8 with sentFrames := List.replicate 2048 sent5 }, 8, by decide +kernel, by decide +kernel, by decide +kernel, by decide +kernel, by decide +kernel⟩
   · exact ⟨sPort 8 q8, 8, [], by decide +kernel, by decide +kernel, by decide +kernel, by decide +kernel⟩
   · exact ⟨sPort 8 q8, 8, frameBytes [] lcw1, Lcw.ofWord (field64 (frameBytes [] lcw1) 512), by decide +kernel, by decide +kernel, by decide +kernel, frame_checks _ _, by decide +kernel, rfl, by decide +kernel, by decide +kernel⟩
   · exact ⟨sPort 8 q8, 8, frameBytes [] lcw0, Lcw.ofWord (field64 (frameBytes [] lcw0) 512), by decide +kernel, by decide +kernel, by decide +kernel, frame_checks _ _, by decide +kernel, rfl, by decide +kernel, by decide +kernel⟩
   · exact ⟨sPort 8 { q8 with sentFrames := [sent5] }, 8, 5, by decide +kernel, by decide +kernel, by decide +kernel⟩
   · exact ⟨sPort 8 q8, 8, 5, by decide +kernel, by decide +kernel, by decide +kernel⟩
   · exact ⟨sPort 8 { q8 with nakWait := true }, 8, by decide +kernel, by decide +kernel⟩
   · exact ⟨sPort 8 { q8 with nakRow := 16 }, 8, by decide +kernel, by decide +kernel, by decide +kernel⟩
   · exact ⟨sPort 8 { q8 with nakRow := 15 }, 8, by decide +kernel⟩

theorem test_witness_PortsTrainRetrainAndFail :
    (∃ (s : State) (p : Port), s.job.dev ≠ .exerciser ∧ (s.port p).st ≠ .failed ∧ (s.port p).st ≠ .disabled ∧ s.links.retrainLimit.toNat ≤ s.retrainsNow p) ∧
    (∃ (s : State) (p : Port), s.retrainsNow p < s.links.retrainLimit.toNat) ∧
    (∃ (s : State) (p : Port), (s.port p).st = .training ∧ (s.port p).trainStep = 1) ∧
    (∃ (s : State) (p : Port), (s.port p).st = .training ∧ (s.port p).trainStep ≠ 0) ∧
    (∃ (s : State) (p : Port), (s.port p).st = .disabled) ∧
    (∃ (s : State) (p : Port) (pk : Trans), (((s.port p).st = .disabled ∨ (s.port p).st = .failed))) ∧
    (∃ (s : State) (p : Port) (pk : Trans), (s.port p).st = .training ∧ (s.port p).trainStep ≠ 3) ∧
    (∃ (s : State) (p : Port) (pk : Trans) (i : IdentBody) (v : U16), i = identOf pk.body ∧ (s.port p).st = .training ∧ (s.port p).trainStep = 3 ∧ (s.port p).violQuar = false ∧ commonVersion (s.offered p) (i.highest, i.lowest) = some v ∧ identMatches i (s.wanted p) = true ∧ (∀ g ∈ i.grants, 66 ≤ g.toNat)) ∧
    (∃ (s : State) (p : Port) (pk : Trans) (i : IdentBody), i = identOf pk.body ∧ (s.port p).st = .training ∧ (s.port p).trainStep = 3 ∧ identMatches i (s.wanted p) = false) ∧
    (∃ (s : State) (p : Port), p.val < 8 ∧ s.job.dev ≠ .exerciser ∧ (s.port p).st = .active ∧ (s.port p).violQuar = false ∧ s.links.violLimit.toNat ≤ s.violationsNow p) ∧
    (∃ (s : State) (p : Port), p.val < 8 ∧ s.job.dev ≠ .exerciser ∧ (s.port p).st = .training ∧ (s.port p).violQuar = false ∧ s.links.violLimit.toNat ≤ s.violationsNow p) ∧
    (∃ (s : State) (p : Port) (ts blk : U32) (a : AgentReq), p.val < 8 ∧ (s.port p).agentReqs.find? (fun a => a.ts == ts && a.blk == blk) = some a) :=
   by
   refine ⟨?_, ?_, ?_, ?_, ?_, ?_, ?_, ?_, ?_, ?_, ?_, ?_⟩
   · exact ⟨sPort 8 { q8 with retrainAt := [0, 0, 0] }, 8, by decide +kernel, by decide +kernel, by decide +kernel, by decide +kernel⟩
   · exact ⟨sPort 8 { q8 with retrainAt := [0, 0] }, 8, by decide +kernel⟩
   · exact ⟨sPort 8 { q8 with st := .training, trainStep := 1 }, 8, by decide +kernel, by decide +kernel⟩
   · exact ⟨sPort 8 { q8 with st := .training, trainStep := 1 }, 8, by decide +kernel, by decide +kernel⟩
   · exact ⟨sPort 23 { q8 with st := .disabled }, 23, by decide +kernel⟩
   · exact ⟨sPort 0 { q8 with st := .disabled }, 0, trn, .inl (by decide +kernel)⟩
   · exact ⟨sPort 8 { q8 with st := .training, trainStep := 1 }, 8, trn, by decide +kernel, by decide +kernel⟩
   · exact ⟨sIdent, 0, { trn with body := identBytes }, identOf identBytes, 3, by decide +kernel, by decide +kernel, by decide +kernel, by decide +kernel, by decide +kernel, by decide +kernel, all_mem (by decide +kernel)⟩
   · exact ⟨sIdent, 0, trn, identOf [], by decide +kernel, by decide +kernel, by decide +kernel, by decide +kernel⟩
   · exact ⟨sPort 7 { q8 with violAt := List.replicate 64 0 }, 7, by decide +kernel, by decide +kernel, by decide +kernel, by decide +kernel, by decide +kernel⟩
   · exact ⟨sPort 7 { q8 with st := .training, violAt := List.replicate 64 0 }, 7, by decide +kernel, by decide +kernel, by decide +kernel, by decide +kernel, by decide +kernel⟩
   · exact ⟨sPort 7 { q8 with agentReqs := [⟨256, 0, trn, false⟩] }, 7, 256, 0, ⟨256, 0, trn, false⟩, by decide +kernel, by decide +kernel⟩

theorem test_witness_PortsTrainRetrainAndFail_PacketsHeartbeatsAndMarksAreChecked :
    (∃ (s : State) (p : Port) (vc : BitVec 3) (l : List Byte), s.job.dev ≠ .exerciser ∧ (s.port p).onWire = true ∧ headerOk l = false ∧ (∀ a ∈ (s.port p).arrivedPk, ¬ (a.vc = vc ∧ a.bytes = l))) ∧
    (∃ (s : State) (p : Port) (vc : BitVec 3) (l : List Byte) (pk : Packet), s.job.dev ≠ .exerciser ∧ (s.port p).st = .quarantine ∧ headerOk l = true ∧ packetForm vc l = some pk ∧ vc ≠ 7 ∧ isUntagged pk = false ∧ (∀ a ∈ (s.port p).arrivedPk, ¬ (a.vc = vc ∧ a.bytes = l))) ∧
    (∃ (s : State) (p : Port) (pk : Packet), isUntagged pk = false ∧ s.job.dev = .run ∧ pk.jt = s.job.jt ∧ fenceKindOf pk ≠ 5 ∧ pk.epoch.toNat < s.job.epoch.toNat) ∧
    (∃ (s : State) (p : Port), s.mayBeat p = true ∧ s.job.dev ≠ .standby ∧ s.tele.tracePorts = 0 ∧ (s.port p).ledgerFault = none ∧ s.poolHeld + s.route.poolFree = poolCells) ∧
    (∃ (s : State) (p : Port), s.mayBeat p = false) ∧
    (∃ (s : State) (p : Port) (pk : Trans), (s.port p).st = .active ∧ s.job.dev ≠ .safe ∧ (s.port p).auditDiff pk = none ∧ (s.port p).ledgerFault = none ∧ s.poolHeld + s.route.poolFree = poolCells) ∧
    (∃ (s : State) (p : Port) (pk : Trans) (v : Nat) (a b : U32), 8 ≤ p.val ∧ (s.port p).st = .active ∧ s.job.dev ≠ .safe ∧ s.job.dev ≠ .exerciser ∧ (s.port p).auditDiff pk = some (v, a, b) ∧ (s.port p).ledgerFault = none ∧ s.poolHeld + s.route.poolFree = poolCells) ∧
    (∃ (s : State) (p : Port), (s.port p).st = .active) ∧
    (∃ (s : State) (p : Port), s.exerRun p = true ∧ (s.exPort p).counts[8] ≠ 0) ∧
    (∃ (s : State) (p : Port), s.exerRun p = true ∧ (s.exPort p).counts[9] ≠ 0) ∧
    (∃ (s : State) (p : Port), s.exerRun p = true ∧ (s.port p).nakWait = true ∧ (s.exPort p).counts[4] ≠ 0) :=
   by
   refine ⟨?_, ?_, ?_, ?_, ?_, ?_, ?_, ?_, ?_, ?_, ?_⟩
   · exact ⟨sPort 8 q8, 8, 6, List.replicate 64 1, by decide +kernel, by decide +kernel, by decide +kernel, none_mem (by decide +kernel)⟩
   · exact ⟨sPort 8 { q8 with st := .quarantine }, 8, 6, readReq.seal.bytes, .trans readReq.seal, by decide +kernel, by decide +kernel, by decide +kernel, by decide +kernel, by decide +kernel, by decide +kernel, none_mem (by decide +kernel)⟩
   · exact ⟨{ job := { dev := .run, epoch := 1 } }, 8, .trans readReq, by decide +kernel, by decide +kernel, by decide +kernel, by decide +kernel, by decide +kernel⟩
   · exact ⟨{ (sPort 8 q8 .opening) with tele := { tracePorts := 0 } }, 8, by decide +kernel, by decide +kernel, by decide +kernel, by decide +kernel, by decide +kernel⟩
   · exact ⟨{}, 8, by decide +kernel⟩
   · exact ⟨sPort 8 q8, 8, trn, by decide +kernel, by decide +kernel, by decide +kernel, by decide +kernel, by decide +kernel⟩
   · exact ⟨sPort 8 q8, 8, { trn with a := 1 }, 0, 1, 0, by decide +kernel, by decide +kernel, by decide +kernel, by decide +kernel, by decide +kernel, by decide +kernel, by decide +kernel⟩
   · exact ⟨sPort 8 q8, 8, by decide +kernel⟩
   · exact ⟨sExer 3 { counts := (Vector.replicate 32 0).set 8 1 } q8, 3, by decide +kernel, by decide +kernel⟩
   · exact ⟨sExer 3 { counts := (Vector.replicate 32 0).set 9 1 } q8, 3, by decide +kernel, by decide +kernel⟩
   · exact ⟨sExer 3 { counts := (Vector.replicate 32 0).set 4 1 } { q8 with nakWait := true }, 3, by decide +kernel, by decide +kernel, by decide +kernel⟩

theorem test_witness_ReceivedPacketsReachTheirUnitOrTheSwitch :
    (∃ (s : State) (p : Port) (vc : BitVec 3) (l : List Byte) (pk : Packet), s.job.dev ≠ .exerciser ∧ (s.port p).st = .active ∧ headerOk l = true ∧ packetForm vc l = some pk ∧ vc ≠ 7 ∧ s.det.fenced.contains pk.src = false ∧ s.addressed pk = true ∧ ((fenceKindOf pk = 0 ∨ fenceAllowed p (fenceKindOf pk) = true)) ∧ ((fenceKindOf pk = 9 → (s.port p).version = 3)) ∧ ((isUntagged pk = true ∨ (s.job.dev = .run ∧ pk.jt = s.job.jt ∧ pk.epoch = s.job.epoch))) ∧ ((match pk with | .block b => b.hdr.valid = true ∧ b.hdr.poison = false ∧ b.payOk = true | .trans t => t.body = [] ∨ t.bodyOk = true))) ∧
    (∃ (s : State) (p : Port) (vc : BitVec 3) (l : List Byte) (pk : Packet) (out : Port) (alt : Bool), s.job.dev ≠ .exerciser ∧ (s.port p).st = .active ∧ headerOk l = true ∧ packetForm vc l = some pk ∧ vc ≠ 7 ∧ s.det.fenced.contains pk.src = false ∧ s.addressed pk = false ∧ isLinkLevel pk = false ∧ ((∀ t, pk = .trans t → t.op ≠ opOBJ_TUNNEL)) ∧ pk.cellCount ≤ s.route.poolFree ∧ s.choose (s.substitute pk.dst) = .send out alt ∧ out ≠ p) ∧
    (∃ (s : State) (p : Port) (vc : BitVec 3) (l : List Byte) (pk : Packet), s.job.dev ≠ .exerciser ∧ (s.port p).st = .active ∧ headerOk l = true ∧ packetForm vc l = some pk ∧ vc ≠ 7 ∧ s.det.fenced.contains pk.src = false ∧ s.addressed pk = false ∧ isLinkLevel pk = false ∧ ((∀ t, pk = .trans t → t.op ≠ opOBJ_TUNNEL)) ∧ s.route.poolFree < pk.cellCount) :=
   by
   refine ⟨?_, ?_, ?_⟩
   · exact ⟨sPort 8 q8 .run, 8, 6, readReq.seal.bytes, .trans readReq.seal, by decide +kernel, by decide +kernel, by decide +kernel, by decide +kernel, by decide +kernel, by decide +kernel, by decide +kernel, .inl (by decide +kernel), by decide +kernel, .inr (by decide +kernel), Or.inl (a := readReq.seal.body = []) rfl⟩
   · exact ⟨sSwitch 262144, 8, 6, fwdReq.seal.bytes, .trans fwdReq.seal, 9, false, by decide +kernel, by decide +kernel, by decide +kernel, by decide +kernel, by decide +kernel, by decide +kernel, by decide +kernel, by decide +kernel, fun t h => by cases h; decide +kernel, by decide +kernel, by decide +kernel, by decide +kernel⟩
   · exact ⟨sSwitch 0, 8, 6, fwdReq.seal.bytes, .trans fwdReq.seal, by decide +kernel, by decide +kernel, by decide +kernel, by decide +kernel, by decide +kernel, by decide +kernel, by decide +kernel, by decide +kernel, fun t h => by cases h; decide +kernel, by decide +kernel⟩

theorem test_witness_RoutingTablesAreTakenWholeAndSwitchTogether :
    (∃ (s : State) (l : List Byte) (ws : List WireEntry), s.job.dev = .standby ∧ s.parseWires 0 [] (chunksOf 17 32 l) = .ok ws ∧ ws.length = 16) ∧
    (∃ (s : State) (l : List Byte), s.job.dev ≠ .standby) ∧
    (∃ (s : State) (l : List Byte) (off : Nat), s.job.dev = .standby ∧ s.parseWires 0 [] (chunksOf 17 32 l) = .error off) ∧
    (∃ (s : State) (l : List Byte) (b : List RouteEntry), s.parseBank 0 [] (chunksOf (bankCns + 1) 4 l) = .ok b) ∧
    (∃ (s : State) (l : List Byte) (off : Nat), s.parseBank 0 [] (chunksOf (bankCns + 1) 4 l) = .error off) ∧
    (∃ (s : State), s.job.dev = .standby) ∧
    (∃ (s : State), s.job.dev ≠ .standby) ∧
    (∃ (s : State) (v : U32), v ≠ 0 ∧ ((s.job.dev = .opening ∨ s.job.dev = .run)) ∧ s.job.epoch.toNat < v.toNat) ∧
    (∃ (s : State) (l : List Byte) (t : List (U32 × U32)), s.parseSubst ((chunksOf (l.length / 16 + 1) 16 l).map substOf) 0 [] (chunksOf (l.length / 16 + 1) 16 l) = .ok t) ∧
    (∃ (s : State) (l : List Byte) (off : Nat), s.parseSubst ((chunksOf (l.length / 16 + 1) 16 l).map substOf) 0 [] (chunksOf (l.length / 16 + 1) 16 l) = .error off) :=
   by
   refine ⟨?_, ?_, ?_, ?_, ?_, ?_, ?_, ?_, ?_, ?_⟩
   · exact ⟨{ job := { dev := .standby } }, List.replicate 512 0, List.replicate 16 {}, by decide +kernel, ok_of (by decide +kernel), by decide +kernel⟩
   · exact ⟨{}, [], by decide +kernel⟩
   · exact ⟨{ job := { dev := .standby } }, [1], 0, by decide +kernel, err_of (by decide +kernel)⟩
   · exact ⟨{}, bankOf131072, [{ cn := 0, prim := 0x1E, alt := 0x1F }], bank_parsed⟩
   · exact ⟨{}, [], 0, err_of (by decide +kernel)⟩
   · exact ⟨{ job := { dev := .standby } }, by decide +kernel⟩
   · exact ⟨{}, by decide +kernel⟩
   · exact ⟨{ job := { dev := .opening } }, 1, by decide +kernel, .inl (by decide +kernel), by decide +kernel⟩
   · exact ⟨{}, [5, 0, 0, 0, 6, 0, 0, 0, 0, 0, 0, 0, 0, 0, 0, 0], [(5, 6)], ok_of (by decide +kernel)⟩
   · exact ⟨{}, [1], 0, err_of (by decide +kernel)⟩

theorem test_witness_RoutingTablesAreTakenWholeAndSwitchTogether_PoolAndCircuitsDrainAndSwitch :
    (∃ (s : State) (p : Port), (∀ x ∈ s.route.pool, s.routesBy p x = false) ∧ s.route.inWait = []) ∧
    (∃ (s : State) (p : Port) (x : PoolPk), s.route.pool = [x] ∧ s.routesBy p x = true ∧ s.route.inWait = []) ∧
    (∃ (s : State) (n : Nat) (out : Option Port) (cells : Nat), s.oldest = some (n, out, cells) ∧ s.route.inWait = []) ∧
    (∃ (s : State), s.oldest = none) ∧
    (∃ (s : State) (n : Circ) (l : List Byte), byteAt l 6 = 1 ∧ l ∉ (s.circuit n).accepted ∧ s.circuitBad n l = none) ∧
    (∃ (s : State) (n : Circ) (l : List Byte) (why : Nat), byteAt l 6 = 1 ∧ l ∉ (s.circuit n).accepted ∧ s.circuitBad n l = some why) ∧
    (∃ (s : State) (n : Circ) (l : List Byte), l ∈ (s.circuit n).accepted) ∧
    (∃ (s : State) (n : Circ) (l : List Byte), byteAt l 6 = 2 ∧ l ∉ (s.circuit n).accepted ∧ s.circuitBad n l = none) ∧
    (∃ (s : State) (n : Circ) (l : List Byte), byteAt l 6 = 3 ∧ l ∉ (s.circuit n).accepted ∧ s.circuitBad n l = none) ∧
    (∃ (s : State) (n : Circ), (s.circuit n).draining = true ∧ (s.circuit n).releasing = false ∧ (s.port (portOfCirc n)).sentFrames = [] ∧ (s.port (portOfCirc n)).outCells = []) ∧
    (∃ (s : State) (n : Circ), (s.circuit n).draining = true ∧ (s.circuit n).releasing = true ∧ (s.port (portOfCirc n)).sentFrames = [] ∧ (s.port (portOfCirc n)).outCells = []) ∧
    (∃ (s : State) (n : Circ), (s.port (portOfCirc n)).sentFrames ≠ []) ∧
    (∃ (s : State) (n : Circ), (s.circuit n).draining = true ∧ (s.circuit n).releasing = false) :=
   by
   refine ⟨?_, ?_, ?_, ?_, ?_, ?_, ?_, ?_, ?_, ?_, ?_, ?_, ?_⟩
   · exact ⟨{ route := { pool := [poolPk] } }, 8, one_mem (by decide +kernel), by decide +kernel⟩
   · exact ⟨{ route := { pool := [poolPk], active := [{ cn := 0, prim := 8, alt := 0x1F }] } }, 8, poolPk, by decide +kernel, by decide +kernel, by decide +kernel⟩
   · exact ⟨{ route := { pool := [poolPk] } }, 0, none, 1, by decide +kernel, by decide +kernel⟩
   · exact ⟨{}, by decide +kernel⟩
   · exact ⟨{}, 7, circRow 1 1, by decide +kernel, by decide +kernel, by decide +kernel⟩
   · exact ⟨{}, 7, circRow 0 1, 1, by decide +kernel, by decide +kernel, by decide +kernel⟩
   · exact ⟨sCirc { accepted := [circRow 1 1] }, 7, circRow 1 1, by decide +kernel⟩
   · exact ⟨sCirc { action := 1, grant := 1, state := 1 }, 7, circRow 1 2, by decide +kernel, by decide +kernel, by decide +kernel⟩
   · exact ⟨{}, 7, circRow 1 3, by decide +kernel, by decide +kernel, by decide +kernel⟩
   · exact ⟨sCirc { draining := true }, 7, by decide +kernel, by decide +kernel, by decide +kernel, by decide +kernel⟩
   · exact ⟨sCirc { draining := true, releasing := true }, 7, by decide +kernel, by decide +kernel, by decide +kernel, by decide +kernel⟩
   · exact ⟨sPort 23 { q8 with sentFrames := [sent5] }, 7, by decide +kernel⟩
   · exact ⟨sCirc { draining := true }, 7, by decide +kernel, by decide +kernel⟩

theorem test_witness_UnitsRetireAndHistoryClears :
    (∃ (s : State) (u : U16), isUnit u = false) ∧
    (∃ (s : State) (u : U16), isUnit u = true ∧ unitClass u = 7) ∧
    (∃ (s : State) (u : U16), isUnit u = true ∧ unitClass u ≠ 1 ∧ unitClass u ≠ 2 ∧ unitClass u ≠ 7 ∧ unitClass u ≠ 0x0B) ∧
    (∃ (s : State) (p : Port) (pk : Trans), p.val < 8 ∧ pk.a8 6 = 0 ∧ s.health.gambit.phase = 0) ∧
    (∃ (s : State) (p : Port) (pk : Trans), 8 ≤ p.val) :=
   by
   refine ⟨?_, ?_, ?_, ?_, ?_⟩
   · exact ⟨{}, 0x0108, by decide +kernel⟩
   · exact ⟨{}, 0x0717, by decide +kernel, by decide +kernel⟩
   · exact ⟨{}, 0x031F, by decide +kernel, by decide +kernel, by decide +kernel, by decide +kernel, by decide +kernel⟩
   · exact ⟨{}, 7, trn, by decide +kernel, by decide +kernel, by decide +kernel⟩
   · exact ⟨{}, 8, trn, by decide +kernel⟩

theorem test_witness_UnitsRetireAndHistoryClears_GambitsRunInPhasesAndReturnTheUnit :
    (∃ (s : State) (l : List Byte), ((l.length ≠ 16 ∨ (gambitReq l).formed = false))) ∧
    (∃ (s : State) (l : List Byte) (n : Nat), l.length = 16 ∧ (gambitReq l).formed = true ∧ s.gambitRefusal (gambitReq l).clamp = some n) ∧
    (∃ (s : State) (l : List Byte) (q : GambitReq), l.length = 16 ∧ (gambitReq l).formed = true ∧ q = (gambitReq l).clamp ∧ s.gambitRefusal q = none ∧ unitClass q.unit ≠ 0x0B) ∧
    (∃ (s : State) (temp : U16), s.health.gambit.phase = 1 ∧ s.health.gambit.inlet = 0) ∧
    (∃ (s : State), s.health.gambit.phase = 2) ∧
    (∃ (s : State), s.health.gambit.phase ≠ 2) ∧
    (∃ (s : State), s.health.gambit.phase = 3 ∧ unitClass s.health.gambit.unit ≠ 0x0B) ∧
    (∃ (s : State) (errors : U32), s.health.gambit.phase = 3 ∧ unitClass s.health.gambit.unit ≠ 0x0B ∧ errors ≠ 0) ∧
    (∃ (s : State) (c : AbortCause), s.health.gambit.phase ≠ 0 ∧ s.abortDue c = true) ∧
    (∃ (s : State) (c : AbortCause), s.abortDue c = false) ∧
    (∃ (s : State), s.exer.gambitSeq = none ∧ s.health.gambit.phase = 3 ∧ unitClass s.health.gambit.unit = 0x0B) ∧
    (∃ (s : State) (u : U16) (r : U16 × Bin), s.health.retests.find? (fun r => r.1 == u && r.2.tbin == s.tempBin (islandOfUnit u.toNat)) = some r ∧ s.health.gambit.phase = 0 ∧ (∀ b ∈ s.gambitBars (retestReq u r.2), b = false) ∧ unitClass u ≠ 0x0B) :=
   by
   refine ⟨?_, ?_, ?_, ?_, ?_, ?_, ?_, ?_, ?_, ?_, ?_, ?_⟩
   · exact ⟨{}, [], .inl (by decide +kernel)⟩
   · exact ⟨{}, gambitRow 1 0, 1, by decide +kernel, by decide +kernel, by decide +kernel⟩
   · exact ⟨{ job := { dev := .standby } }, gambitRow 1 1, (gambitReq (gambitRow 1 1)).clamp, by decide +kernel, by decide +kernel, by decide +kernel, by decide +kernel, by decide +kernel⟩
   · exact ⟨sGambit { phase := 1 }, 0, by decide +kernel, by decide +kernel⟩
   · exact ⟨sGambit { phase := 2 }, by decide +kernel⟩
   · exact ⟨sGambit { phase := 1 }, by decide +kernel⟩
   · exact ⟨sGambit { phase := 3, unit := 0x0107 }, by decide +kernel, by decide +kernel⟩
   · exact ⟨sGambit { phase := 3, unit := 0x0107 }, 1, by decide +kernel, by decide +kernel, by decide +kernel⟩
   · exact ⟨sGambit { phase := 1 }, .state, by decide +kernel, by decide +kernel⟩
   · exact ⟨sGambit { phase := 1 } .standby, .state, by decide +kernel⟩
   · exact ⟨sGambit { phase := 3, unit := 0x0B07 }, by decide +kernel, by decide +kernel, by decide +kernel⟩
   · exact ⟨{ job := { dev := .standby }, health := { retests := [(0x0100, ⟨8, 0, 0, 1⟩)] } }, 0x0100, (0x0100, ⟨8, 0, 0, 1⟩), by decide +kernel, by decide +kernel, by decide +kernel, by decide +kernel⟩

theorem test_witness_PartnersPairAndChangeClass :
    (∃ (s : State) (l : List Byte), l.length = 8 ∧ s.loadable = true) ∧
    (∃ (s : State) (l : List Byte), l.length = 8 ∧ s.loadable = false ∧ s.job.dev = .run) ∧
    (∃ (s : State) (l : List Byte), l.length = 4 ∧ s.loadable = true ∧ partnerValueOk (field32 l 0) = true ∧ (field32 l 0).getLsbD 31 = false) ∧
    (∃ (s : State) (l : List Byte), l.length = 64 ∧ s.loadable = true) ∧
    (∃ (s : State) (port : Port) (pk : Trans), s.ownerIx (cnOf pk.src) = none) ∧
    (∃ (s : State) (port : Port) (pk : Trans) (i : Fin 4), s.ownerIx (cnOf pk.src) = some i) ∧
    (∃ (s : State) (port : Port) (pk : Trans), s.pairing (cnOf pk.src) = true) ∧
    (∃ (s : State) (port : Port) (pk : Trans), s.pairing (cnOf pk.src) = false) ∧
    (∃ (s : State), s.part.named = true ∧ s.part.asked = true) ∧
    (∃ (s : State), s.part.asked = false) ∧
    (∃ (s : State), s.part.named = true ∧ s.part.pair = .refused) ∧
    (∃ (s : State), s.part.pair ≠ .refused) ∧
    (∃ (s : State) (l : List Byte) (e : TensorEntry), l.length = 12 ∧ s.ownerOf (field32 l 0) = some e ∧ s.changeRefused e (byteAt l 4) (field32 l 8) = false) ∧
    (∃ (s : State) (l : List Byte), l.length = 12 ∧ ((∀ e, s.ownerOf (field32 l 0) = some e → s.changeRefused e (byteAt l 4) (field32 l 8) = true))) :=
   by
   refine ⟨?_, ?_, ?_, ?_, ?_, ?_, ?_, ?_, ?_, ?_, ?_, ?_, ?_, ?_⟩
   · exact ⟨{ job := { dev := .standby } }, List.replicate 8 0, by decide +kernel, by decide +kernel⟩
   · exact ⟨{ job := { dev := .run } }, List.replicate 8 0, by decide +kernel, by decide +kernel, by decide +kernel⟩
   · exact ⟨{ job := { dev := .opening } }, [255, 255, 1, 0], by decide +kernel, by decide +kernel, by decide +kernel, by decide +kernel⟩
   · exact ⟨{ job := { dev := .opening } }, List.replicate 64 0, by decide +kernel, by decide +kernel⟩
   · exact ⟨{}, 8, trn, by decide +kernel⟩
   · exact ⟨sRep rent, 8, rpk 0, 0, by decide +kernel⟩
   · exact ⟨sPair ent .requesting, 8, rpk 0, by decide +kernel⟩
   · exact ⟨{}, 8, trn, by decide +kernel⟩
   · exact ⟨{ (sPair ent .requesting) with part := { named := true, pair := .requesting, asked := true } }, by decide +kernel, by decide +kernel⟩
   · exact ⟨{}, by decide +kernel⟩
   · exact ⟨sPair ent .refused, by decide +kernel, by decide +kernel⟩
   · exact ⟨{}, by decide +kernel⟩
   · exact ⟨{ job := { dev := .run }, upd := { table := [ent] } }, [0, 1, 0, 0, 2, 0, 0, 0, 1, 0, 0, 0], ent, by decide +kernel, by decide +kernel, by decide +kernel⟩
   · exact ⟨{}, List.replicate 12 0, by decide +kernel, fun e h => by rw [show ({} : State).ownerOf (field32 (List.replicate 12 0) 0) = none from by decide +kernel] at h; cases h⟩

theorem test_witness_PartnersPairAndChangeClass_ReplayAndMirrorPacketsAreTakenOrRefused :
    (∃ (s : State) (port : Port) (b : Block), s.rolling (cnOf b.hdr.src) b.hdr.ts = false ∧ s.aboveFailed b.hdr.step = true) ∧
    (∃ (s : State) (port : Port) (b : Block), s.rolling (cnOf b.hdr.src) b.hdr.ts = false ∧ s.aboveFailed b.hdr.step = false ∧ s.ownerIx (cnOf b.hdr.src) = none) ∧
    (∃ (s : State) (port : Port) (b : Block) (ix : Fin 4) (e : TensorEntry) (u : State), s.rolling (cnOf b.hdr.src) b.hdr.ts = false ∧ s.aboveFailed b.hdr.step = false ∧ s.ownerIx (cnOf b.hdr.src) = some ix ∧ s.replicaOf b.hdr.ts = some e ∧ e.replicaOwner ix = true ∧ e.status ≠ .quarantined ∧ s.dropped (cnOf b.hdr.src) b.hdr.ts = false ∧ e.l.toNat < b.hdr.step.toNat ∧ b.hdr.blk.toNat < e.gBlocks ∧ (s.takePk (.block b)).openSlot ix b.hdr.step = some u) ∧
    (∃ (s : State) (port : Port) (b : Block) (ix : Fin 4) (e : TensorEntry), s.rolling (cnOf b.hdr.src) b.hdr.ts = false ∧ s.aboveFailed b.hdr.step = false ∧ s.ownerIx (cnOf b.hdr.src) = some ix ∧ s.replicaOf b.hdr.ts = some e ∧ e.replicaOwner ix = true ∧ e.status ≠ .quarantined ∧ s.dropped (cnOf b.hdr.src) b.hdr.ts = false ∧ b.hdr.step.toNat ≤ e.l.toNat) ∧
    (∃ (s : State) (port : Port) (pk : Trans) (ix : Fin 4) (e : TensorEntry) (q : ReplicaWin) (r : ReplicaWin), r = replicaOfRecord pk ∧ s.rolling r.src r.ts = false ∧ State.replayGate r.src r.ts r.step (fun s => s.ackRecord r.src r.step r.ts r.w) (s.takePk (.trans pk)) = (some (ix, e), s.takePk (.trans pk)) ∧ s.replicaWin r.ts r.w r.step = some q ∧ q.settled = true) ∧
    (∃ (s : State) (port : Port) (pk : Trans) (ix : Fin 4) (e : TensorEntry) (u : State) (r : ReplicaWin), r = replicaOfRecord pk ∧ s.rolling r.src r.ts = false ∧ State.replayGate r.src r.ts r.step (fun s => s.ackRecord r.src r.step r.ts r.w) (s.takePk (.trans pk)) = (some (ix, e), s.takePk (.trans pk)) ∧ s.replicaWin r.ts r.w r.step = none ∧ (s.takePk (.trans pk)).openSlot ix r.step = some u ∧ (∀ l ∈ u.part.logRecs, ¬ (l.ts = r.ts ∧ l.step = r.step))) ∧
    (∃ (s : State) (port : Port) (pk : Trans) (ix : Fin 4) (e : TensorEntry) (u : State), s.rolling (cnOf pk.src) (pk.a32 0) = false ∧ State.replayGate (cnOf pk.src) (pk.a32 0) pk.step (fun s => s.ackRecord (cnOf pk.src) pk.step (pk.a32 0) allOnes32) (s.takePk (.trans pk)) = (some (ix, e), s.takePk (.trans pk)) ∧ (s.takePk (.trans pk)).openSlot ix pk.step = some u ∧ u.skipLogged (pk.a32 0) pk.step = false) ∧
    (∃ (s : State) (port : Port) (pk : Trans) (ix : Fin 4), s.aboveFailed pk.step = false ∧ s.ownerIx (cnOf pk.src) = some ix ∧ s.replicaOf (pk.a32 0) = none) ∧
    (∃ (s : State) (port : Port) (pk : Trans) (ix : Fin 4), s.aboveFailed pk.step = false ∧ s.ownerIx (cnOf pk.src) = some ix ∧ s.replicaOf (pk.a32 0) = none ∧ (∀ r ∈ s.part.replicas, r.ts ≠ pk.a32 0) ∧ s.dropped (cnOf pk.src) (pk.a32 0) = false ∧ s.part.drops.length < 256) ∧
    (∃ (s : State) (port : Port) (b : Block), s.aboveFailed b.hdr.step = true ∧ s.installing = false) ∧
    (∃ (s : State) (port : Port) (b : Block) (r : Region), s.aboveFailed b.hdr.step = false ∧ s.installing = false ∧ s.regionAt (offOf b.hdr.offset) = some r ∧ r.kind ≠ 1 ∧ s.ownerIx (cnOf b.hdr.src) = none) ∧
    (∃ (s : State) (port : Port) (b : Block) (r : Region) (ix : Fin 4) (e : TensorEntry), s.aboveFailed b.hdr.step = false ∧ s.installing = false ∧ s.regionAt (offOf b.hdr.offset) = some r ∧ r.kind = 2 ∧ s.ownerIx (cnOf b.hdr.src) = some ix ∧ s.mirrorRegion 2 b.hdr = true ∧ s.maskOutside b.hdr = false ∧ State.isMask b.hdr = false ∧ (∀ q ∈ s.part.replicas, q.repairing = false) ∧ s.replicaOf b.hdr.ts = some e ∧ e.status ≠ .quarantined ∧ s.dropped (cnOf b.hdr.src) b.hdr.ts = false) ∧
    (∃ (s : State) (port : Port) (b : Block) (r : Region) (ix : Fin 4) (e : TensorEntry), s.aboveFailed b.hdr.step = false ∧ s.installing = false ∧ s.regionAt (offOf b.hdr.offset) = some r ∧ r.kind = 2 ∧ s.ownerIx (cnOf b.hdr.src) = some ix ∧ s.mirrorRegion 2 b.hdr = true ∧ s.maskOutside b.hdr = false ∧ s.replicaOf b.hdr.ts = some e ∧ e.status = .quarantined ∧ s.partOfSync (cnOf b.hdr.src) b.hdr = false) :=
   by
   refine ⟨?_, ?_, ?_, ?_, ?_, ?_, ?_, ?_, ?_, ?_, ?_, ?_, ?_⟩
   · exact ⟨{ job := { stepStopped := true } }, 8, rblk, by decide +kernel, by decide +kernel⟩
   · exact ⟨{}, 8, rblk, by decide +kernel, by decide +kernel, by decide +kernel⟩
   · exact ⟨sRep rent, 8, rblk, 0, rent, Option.get (((sRep rent).takePk (.block rblk)).openSlot 0 1) (by decide +kernel), by decide +kernel, by decide +kernel, by decide +kernel, by decide +kernel, by decide +kernel, by decide +kernel, by decide +kernel, by decide +kernel, by decide +kernel, (Option.some_get _).symm⟩
   · exact ⟨sRep { rent with l := 1 }, 8, rblk, 0, { rent with l := 1 }, by decide +kernel, by decide +kernel, by decide +kernel, by decide +kernel, by decide +kernel, by decide +kernel, by decide +kernel, by decide +kernel⟩
   · exact ⟨sRep rent { replicas := [{ rwin with settled := true }] }, 8, rpk 256, 0, rent, { rwin with settled := true }, replicaOfRecord (rpk 256), rfl, by decide +kernel, gate_same (by decide +kernel), by decide +kernel, by decide +kernel⟩
   · exact ⟨sRep rent, 8, rpk 256, 0, rent, Option.get (((sRep rent).takePk (.trans (rpk 256))).openSlot 0 1) (by decide +kernel), replicaOfRecord (rpk 256), rfl, by decide +kernel, gate_same (by decide +kernel), by decide +kernel, (Option.some_get _).symm, none_mem (by decide +kernel)⟩
   · exact ⟨sRep rent, 8, rpk 256, 0, rent, Option.get (((sRep rent).takePk (.trans (rpk 256))).openSlot 0 1) (by decide +kernel), by decide +kernel, gate_same (by decide +kernel), (Option.some_get _).symm, by decide +kernel⟩
   · exact ⟨sRep ent, 8, rpk 256, 0, by decide +kernel, by decide +kernel, by decide +kernel⟩
   · exact ⟨sRep ent, 8, rpk 256, 0, by decide +kernel, by decide +kernel, by decide +kernel, none_mem (by decide +kernel), by decide +kernel, by decide +kernel⟩
   · exact ⟨{ job := { stepStopped := true } }, 8, rblk, by decide +kernel, by decide +kernel⟩
   · exact ⟨{}, 8, rblk, { id := 0xFFFE, kind := 4, flags := 0x12, jt := 0, base := 0, size := 0x800000, hbase := 0x800000 }, by decide +kernel, by decide +kernel, by decide +kernel, by decide +kernel, by decide +kernel⟩
   · exact ⟨{ (sRep rent) with mem := { regions := [mirrorRg] } }, 8, ⟨{ rblk.hdr with offset := 0x2000000 }, []⟩, mirrorRg, 0, rent, by decide +kernel, by decide +kernel, by decide +kernel, by decide +kernel, by decide +kernel, by decide +kernel, by decide +kernel, by decide +kernel, none_mem (by decide +kernel), by decide +kernel, by decide +kernel, by decide +kernel⟩
   · exact ⟨{ (sRep { rent with status := .quarantined }) with mem := { regions := [mirrorRg] } }, 8, ⟨{ rblk.hdr with offset := 0x2000000 }, []⟩, mirrorRg, 0, { rent with status := .quarantined }, by decide +kernel, by decide +kernel, by decide +kernel, by decide +kernel, by decide +kernel, by decide +kernel, by decide +kernel, by decide +kernel, by decide +kernel, by decide +kernel⟩

theorem test_witness_RetainedItemsVerdictsAndDigestsSettle :
    (∃ (s : State) (port : Port) (pk : Trans) (b : Block), pk.a8 10 = opREPLAY_G ∧ pk.a16 8 = 1 ∧ pk.aNat 8 2 = 1 ∧ b.hdr.mirror = false ∧ isReplayItem (pk.a32 0) pk.step (cnOf pk.src) (pk.a32 4) (.block b) = true ∧ s.part.retained = [⟨.block b⟩]) ∧
    (∃ (s : State) (n : Nat), s.part.retained[n]? = none) ∧
    (∃ (s : State) (n : Nat) (i : RetItem), s.part.retained[n]? = some i) ∧
    (∃ (s : State) (ts w : U32) (p : Pipe) (x : PipeWin) (e : TensorEntry) (r : ReplicaWin) (u : State) (ws : List BlkWrite), s.replicaPipe ts w = some (p, x) ∧ s.replicaOf ts = some e ∧ s.replicaWin ts w x.win.step = some r ∧ u = s.setPipe p (fun q => { q with queue := q.queue.erase x }) ∧ ws = u.resultWrites e r.step (firstElem u x.win) x.res ∧ x.res.poisonOut = false ∧ x.win.poison = false ∧ writesDigest ws = r.ownerDigest) ∧
    (∃ (s : State) (ts w : U32), s.replicaPipe ts w = none) ∧
    (∃ (s : State) (port : Port) (pk : Trans) (e : TensorEntry) (i : RetItem), s.aboveFailed pk.step = false ∧ s.part.named = true ∧ cnOf pk.src = s.part.partner ∧ s.ownerOf (pk.a32 0) = some e ∧ s.part.retained.find? (fun i => isWindowRecord (pk.a32 0) (pk.a32 4) pk.step i.pk) = some i ∧ pk.bNat 5 1 = 2) ∧
    (∃ (s : State) (port : Port) (pk : Trans), s.aboveFailed pk.step = false ∧ ((s.part.named = false ∨ cnOf pk.src ≠ s.part.partner))) ∧
    (∃ (s : State) (port : Port) (pk : Trans) (ix : Fin 4), s.aboveFailed pk.step = false ∧ s.ownerIx (cnOf pk.src) = some ix ∧ s.digestEqual (pk.a32 0) pk.step pk.b = false ∧ (∀ o ∈ s.part.ownerDig, ¬ (o.2.1 = pk.a32 0 ∧ o.2.2.1 = pk.step))) ∧
    (∃ (s : State) (ts src step : U32) (v : U64), s.part.ownerDig.find? (fun o => o.2.1 == ts) = some (src, ts, step, v)) ∧
    (∃ (s : State) (ts : U32), (∀ o ∈ s.part.ownerDig, o.2.1 ≠ ts)) ∧
    (∃ (s : State) (port : Port) (pk : Trans) (e : TensorEntry), s.aboveFailed pk.step = false ∧ s.paired = true ∧ cnOf pk.src = s.part.partner ∧ s.ownerOf (pk.a32 0) = some e ∧ e.l = pk.step ∧ s.part.ackedSteps.contains (pk.a32 0, pk.step) = false ∧ ((e.pclass = 1 ∨ e.pclass = 2)) ∧ s.shardDigest (pk.a32 0) pk.step false = pk.b) ∧
    (∃ (s : State) (port : Port) (pk : Trans) (e : TensorEntry), s.aboveFailed pk.step = false ∧ s.paired = true ∧ cnOf pk.src = s.part.partner ∧ s.ownerOf (pk.a32 0) = some e ∧ e.l = pk.step ∧ s.part.ackedSteps.contains (pk.a32 0, pk.step) = false ∧ ((e.pclass = 1 ∨ e.pclass = 2)) ∧ s.shardDigest (pk.a32 0) pk.step false ≠ pk.b) :=
   by
   refine ⟨?_, ?_, ?_, ?_, ?_, ?_, ?_, ?_, ?_, ?_, ?_, ?_⟩
   · exact ⟨sPair ent .paired [⟨.block retBlk⟩], 8, { trn with step := 1, src := 5, a := (opREPLAY_G.setWidth 128 <<< 80) ||| 0x10000000000000100 }, retBlk, by decide +kernel, by decide +kernel, by decide +kernel, by decide +kernel, by decide +kernel, by decide +kernel⟩
   · exact ⟨{}, 0, by decide +kernel⟩
   · exact ⟨sPair ent .paired [⟨.block retBlk⟩], 0, ⟨.block retBlk⟩, by decide +kernel⟩
   · exact ⟨sRepPipe, 256, 0, 2, { win := { dwin with replica := true }, res := {} }, rent, rwin, sRepPipe.setPipe 2 (fun q => { q with queue := q.queue.erase { win := { dwin with replica := true }, res := {} } }), [], by decide +kernel, by decide +kernel, by decide +kernel, rfl, by decide +kernel, by decide +kernel, by decide +kernel, by decide +kernel⟩
   · exact ⟨{}, 256, 0, by decide +kernel⟩
   · exact ⟨sPair ent .paired [⟨.trans winRecord⟩], 8, rpk 256 0x20000000000, ent, ⟨.trans winRecord⟩, by decide +kernel, by decide +kernel, by decide +kernel, by decide +kernel, by decide +kernel, by decide +kernel⟩
   · exact ⟨{}, 8, trn, by decide +kernel, .inl (by decide +kernel)⟩
   · exact ⟨sRep rent, 8, rpk 256 1, 0, by decide +kernel, by decide +kernel, by decide +kernel, none_mem (by decide +kernel)⟩
   · exact ⟨sRep rent { ownerDig := [(9, 256, 1, 7)] }, 256, 9, 1, 7, by decide +kernel⟩
   · exact ⟨{}, 256, none_mem (by decide +kernel)⟩
   · exact ⟨sPair { ent with pclass := 1, l := 1 }, 8, rpk 256, { ent with pclass := 1, l := 1 }, by decide +kernel, by decide +kernel, by decide +kernel, by decide +kernel, by decide +kernel, by decide +kernel, .inl (by decide +kernel), by decide +kernel⟩
   · exact ⟨sPair { ent with pclass := 2, l := 1 }, 8, rpk 256 1, { ent with pclass := 2, l := 1 }, by decide +kernel, by decide +kernel, by decide +kernel, by decide +kernel, by decide +kernel, by decide +kernel, .inr (by decide +kernel), by decide +kernel⟩

theorem test_witness_CutsAreCopiedInOrder :
    (∃ (s : State) (v : U32), v.toNat ≤ 10000 ∧ s.loadable = true ∧ periodsOk v s.adj.m = true) ∧
    (∃ (s : State) (v : U32), v.toNat ≤ 1000000 ∧ s.loadable = true ∧ periodsOk s.adj.k v = true) ∧
    (∃ (s : State) (v : U32), v.toNat ≤ 10000 ∧ ((s.loadable = false ∨ periodsOk v s.adj.m = false))) ∧
    (∃ (s : State) (c : Cut) (rest : List Cut), s.adj.queue = c :: rest ∧ (∀ d ∈ s.adj.queue, d.phase = .armed) ∧ c.sealedMove = true ∧ c.forced = false ∧ s.upd.touchWait = []) ∧
    (∃ (s : State) (c : Cut) (rest : List Cut), s.adj.queue = c :: rest ∧ c.sealedMove = false) ∧
    (∃ (s : State) (c : Cut), c ∈ s.adj.queue ∧ c.phase ≠ .armed) ∧
    (∃ (s : State) (a : U64), BitVec.ofNat 64 (offOf a) ∈ s.upd.touchWait) ∧
    (∃ (s : State) (a : U64), BitVec.ofNat 64 (offOf a) ∉ s.upd.touchWait) ∧
    (∃ (s : State) (c : Cut) (rest : List Cut), s.adj.queue = c :: rest ∧ c.phase = .copy ∧ (∀ p ∈ c.pages, p.copied = true)) ∧
    (∃ (s : State) (c : Cut), (∀ e ∈ s.owned, e.has .k = false)) ∧
    (∃ (s : State), (∀ c ∈ s.adj.queue, c.phase ≠ .copy)) :=
   by
   refine ⟨?_, ?_, ?_, ?_, ?_, ?_, ?_, ?_, ?_, ?_, ?_⟩
   · exact ⟨sAdj {} {} .standby, 50, by decide +kernel, by decide +kernel, by decide +kernel⟩
   · exact ⟨sAdj {} {} .standby, 1000000, by decide +kernel, by decide +kernel, by decide +kernel⟩
   · exact ⟨{}, 10000, by decide +kernel, .inl (by decide +kernel)⟩
   · exact ⟨sAdj { queue := [{ cut1 with sealedMove := true }] }, { cut1 with sealedMove := true }, [], by decide +kernel, one_mem (by decide +kernel), by decide +kernel, by decide +kernel⟩
   · exact ⟨sAdj { queue := [cut1] }, cut1, [], by decide +kernel, by decide +kernel⟩
   · exact ⟨sAdj { queue := [codeCut] }, codeCut, by decide +kernel, by decide +kernel⟩
   · exact ⟨{ upd := { touchWait := [0x1000] } }, 0x1000, by decide +kernel⟩
   · exact ⟨{}, 0x1000, by decide +kernel⟩
   · exact ⟨sAdj { queue := [{ cut1 with phase := .copy, pages := [{ addr := 0, slotIx := 0, step := 1, copied := true }] }, cut1] }, { cut1 with phase := .copy, pages := [{ addr := 0, slotIx := 0, step := 1, copied := true }] }, [cut1], by decide +kernel, by decide +kernel, one_mem (by decide +kernel)⟩
   · exact ⟨{}, codeCut, none_mem (by decide +kernel)⟩
   · exact ⟨sAdj { queue := [codeCut] }, one_mem (by decide +kernel)⟩

theorem test_witness_CutsAreCopiedInOrder_ChunksAreProgrammedAndCommitThePoint :
    (∃ (s : State), s.adj.kept = none ∧ (∀ c ∈ s.adj.queue, c.phase ≠ .code)) ∧
    (∃ (s : State), s.adj.kept = none ∧ s.adj.chunkBusy.isSome = true) ∧
    (∃ (s : State), s.adj.kept = none ∧ s.pwr.bothCharged = false) ∧
    (∃ (s : State) (c : Cut) (acc : ChunkAcc) (u v : State) (l : List Byte), s.adj.kept = none ∧ s.adj.queue.find? (fun c => c.phase == .code) = some c ∧ s.adj.chunkBusy = none ∧ s.pwr.bothCharged = true ∧ s.nextChunk c = (acc, u) ∧ l = chunkBytes s.job.jt c acc.bytes ∧ l.length ≤ s.adj.free.toNat ∧ s.reserve (chunkCost l.length) = (true, v)) ∧
    (∃ (s : State) (c : Cut) (acc : ChunkAcc) (u : State), s.adj.kept = none ∧ s.adj.queue.find? (fun c => c.phase == .code) = some c ∧ s.adj.chunkBusy = none ∧ s.pwr.bothCharged = true ∧ s.nextChunk c = (acc, u) ∧ s.adj.free.toNat < (chunkBytes s.job.jt c acc.bytes).length) ∧
    (∃ (s : State) (c : Cut) (l : List Byte), s.adj.kept = none ∧ s.adj.chunkBusy = some l ∧ s.adj.queue.find? (fun c => c.phase == .code) = some c ∧ c.busyCoded < (s.codeItems c).length) ∧
    (∃ (s : State) (c : Cut) (l : List Byte), s.adj.kept = none ∧ s.adj.chunkBusy = some l ∧ s.adj.queue.find? (fun c => c.phase == .code) = some c) ∧
    (∃ (s : State) (c : Cut), s.adj.points.length < 4096 ∧ s.adj.drain = none ∧ c.kind = .forced) :=
   by
   refine ⟨?_, ?_, ?_, ?_, ?_, ?_, ?_, ?_⟩
   · exact ⟨sAdj { queue := [cut1] }, by decide +kernel, one_mem (by decide +kernel)⟩
   · exact ⟨sAdj { queue := [codeCut], chunkBusy := some [] }, by decide +kernel, by decide +kernel⟩
   · exact ⟨sAdj { queue := [codeCut] }, by decide +kernel, by decide +kernel⟩
   · exact ⟨sAdj { queue := [codeCut] } charged, codeCut, ((sAdj { queue := [codeCut] } charged).nextChunk codeCut).1, ((sAdj { queue := [codeCut] } charged).nextChunk codeCut).2, ((sAdj { queue := [codeCut] } charged).reserve (chunkCost (chunkBytes (sAdj { queue := [codeCut] } charged).job.jt codeCut ((sAdj { queue := [codeCut] } charged).nextChunk codeCut).1.bytes).length)).2, chunkBytes (sAdj { queue := [codeCut] } charged).job.jt codeCut ((sAdj { queue := [codeCut] } charged).nextChunk codeCut).1.bytes, by decide +kernel, by decide +kernel, by decide +kernel, by decide +kernel, Prod.ext rfl rfl, rfl, by decide +kernel, reserved (by decide +kernel)⟩
   · exact ⟨sAdj { queue := [codeCut], free := 0 } charged, codeCut, ((sAdj { queue := [codeCut], free := 0 } charged).nextChunk codeCut).1, ((sAdj { queue := [codeCut], free := 0 } charged).nextChunk codeCut).2, by decide +kernel, by decide +kernel, by decide +kernel, by decide +kernel, Prod.ext rfl rfl, by decide +kernel⟩
   · exact ⟨sAdj { queue := [codeCut], chunkBusy := some [] }, codeCut, [], by decide +kernel, by decide +kernel, by decide +kernel, by decide +kernel⟩
   · exact ⟨sAdj { queue := [codeCut], chunkBusy := some [] }, codeCut, [], by decide +kernel, by decide +kernel, by decide +kernel⟩
   · exact ⟨{}, { codeCut with kind := .forced }, by decide +kernel, by decide +kernel, by decide +kernel⟩

theorem test_witness_PushesAndDrainFencesSettle :
    (∃ (s : State) (p : Push), s.frontPush = some p ∧ p.committing = false ∧ p.next.toNat < p.total.toNat ∧ s.outstandingAt p p.next.toNat < 256 ∧ (∀ x ∈ p.parts, x.unsent = false)) ∧
    (∃ (s : State), s.frontPush = none) ∧
    (∃ (s : State) (port : Port) (pk : Trans) (p : Push) (x : PushPart), s.pushPart pk = some (p, x) ∧ p.next.toNat < p.total.toNat ∧ x.counted = false) ∧
    (∃ (s : State) (port : Port) (pk : Trans) (p : Push) (x : PushPart), s.pushPart pk = some (p, x) ∧ p.next.toNat < p.total.toNat ∧ x.counted = true) ∧
    (∃ (s : State) (port : Port) (pk : Trans), s.pushPart pk = none) ∧
    (∃ (s : State) (port : Port) (pk : Trans) (p : Push) (x : PushPart), s.pushPart pk = some (p, x) ∧ pk.a8 11 = 6 ∧ x.resends.toNat < s.adj.partResends.toNat) ∧
    (∃ (s : State) (port : Port) (pk : Trans) (p : Push) (x : PushPart), s.pushPart pk = some (p, x) ∧ pk.a8 11 = 7) ∧
    (∃ (s : State) (part : U32) (p : Push) (x : PushPart), s.frontPush = some p ∧ p.parts.find? (fun x => x.num == part && !x.acked && !x.failed && !x.unsent) = some x ∧ x.resends.toNat < s.adj.partResends.toNat) ∧
    (∃ (s : State) (port : Port) (pk : Trans) (p : Push) (i : Nat), s.adj.pushes.find? (fun p => s.objectId p == pk.a64 0 && p.committing) = some p ∧ s.gateways.findIdx? (· == cnOf pk.src) = some i ∧ pk.a8 12 = 0 ∧ (∀ g ∈ s.gateways, g = cnOf pk.src)) ∧
    (∃ (s : State) (p : Push), s.adj.drain = none ∧ ((s.adj.points.find? (·.seq == p.seq)).map (·.kind)).getD .chain ≠ .full) ∧
    (∃ (s : State) (p : Push) (rest : List Push), s.adj.pushes = p :: rest ∧ p.waiting = true ∧ s.job.dev = .run ∧ p.jt = s.job.jt) ∧
    (∃ (s : State) (v : U64), ((s.fence.sealedStep.toNat < (v.setWidth 32).toNat ∨ s.drainable (v.setWidth 32) (v.extractLsb' 32 2).toNat = false ∨ s.adj.drain.isSome = true))) ∧
    (∃ (s : State) (v : U64), ((v.extractLsb' 32 2 = 1#2 ∨ v.extractLsb' 32 2 = 2#2)) ∧ (v.setWidth 32).toNat ≤ s.fence.sealedStep.toNat ∧ s.drainable (v.setWidth 32) (v.extractLsb' 32 2).toNat = true ∧ s.adj.drain = none ∧ (∀ k ∈ s.adj.drainIn, ¬ (k.1 = v.setWidth 32 ∧ k.2.1.toNat = (v.extractLsb' 32 2).toNat)) ∧ (∀ p ∈ s.adj.points, p.step ≠ v.setWidth 32)) ∧
    (∃ (s : State) (port : Port) (pk : Trans), pk.a8 3 = 1 ∧ pk.a8 2 = 1) ∧
    (∃ (s : State) (port : Port) (pk : Trans), pk.a8 3 = 1 ∧ pk.a8 2 = 0 ∧ pk.a8 1 = 1) ∧
    (∃ (s : State) (port : Port) (pk : Trans), pk.a8 3 ≠ 1 ∧ s.adj.drain = none) ∧
    (∃ (s : State) (d : Drain) (up : U32), s.adj.drain = some d ∧ d.own = none ∧ d.sent = false ∧ s.children = [] ∧ s.parent = some up) ∧
    (∃ (s : State), s.adj.drain = none) :=
   by
   refine ⟨?_, ?_, ?_, ?_, ?_, ?_, ?_, ?_, ?_, ?_, ?_, ?_, ?_, ?_, ?_, ?_, ?_, ?_⟩
   · exact ⟨sPush push0, push0, by decide +kernel, by decide +kernel, by decide +kernel, by decide +kernel, none_mem (by decide +kernel)⟩
   · exact ⟨{}, by decide +kernel⟩
   · exact ⟨sPush { push0 with parts := [part0] }, 8, partPk 0, { push0 with parts := [part0] }, part0, by decide +kernel, by decide +kernel, by decide +kernel⟩
   · exact ⟨sPush { push0 with parts := [{ part0 with counted := true }] }, 8, partPk 0, { push0 with parts := [{ part0 with counted := true }] }, { part0 with counted := true }, by decide +kernel, by decide +kernel, by decide +kernel⟩
   · exact ⟨{}, 8, trn, by decide +kernel⟩
   · exact ⟨sPush { push0 with parts := [{ part0 with resends := 7 }] }, 8, partPk 6, { push0 with parts := [{ part0 with resends := 7 }] }, { part0 with resends := 7 }, by decide +kernel, by decide +kernel, by decide +kernel⟩
   · exact ⟨sPush { push0 with parts := [part0] }, 8, partPk 7, { push0 with parts := [part0] }, part0, by decide +kernel, by decide +kernel⟩
   · exact ⟨sPush { push0 with parts := [{ part0 with resends := 7 }] }, 3, { push0 with parts := [{ part0 with resends := 7 }] }, { part0 with resends := 7 }, by decide +kernel, by decide +kernel, by decide +kernel⟩
   · exact ⟨sPush { push0 with committing := true }, 8, { trn with src := 5, a := 0x200000000 }, { push0 with committing := true }, 0, by decide +kernel, by decide +kernel, by decide +kernel, all_mem (by decide +kernel)⟩
   · exact ⟨{}, push0, by decide +kernel, by decide +kernel⟩
   · exact ⟨sPush { push0 with waiting := true }, { push0 with waiting := true }, [], by decide +kernel, by decide +kernel, by decide +kernel, by decide +kernel⟩
   · exact ⟨{}, 1, .inl (by decide +kernel)⟩
   · exact ⟨sAdj { queue := [{ cut1 with step := 0, sealedMove := true }] }, 0x100000000, .inl (by decide +kernel), by decide +kernel, by decide +kernel, by decide +kernel, none_mem (by decide +kernel), none_mem (by decide +kernel)⟩
   · exact ⟨{}, 8, { trn with a := 0x01010000 }, by decide +kernel, by decide +kernel⟩
   · exact ⟨{}, 8, { trn with a := 0x01000100 }, by decide +kernel, by decide +kernel, by decide +kernel⟩
   · exact ⟨{}, 8, trn, by decide +kernel, by decide +kernel⟩
   · exact ⟨{ adj := { drain := some { step := 1, rung := 1 }, drainStatus := 1 }, job := { tree := [(0, 5)] } }, { step := 1, rung := 1 }, 5, by decide +kernel, by decide +kernel, by decide +kernel, by decide +kernel, by decide +kernel⟩
   · exact ⟨{}, by decide +kernel⟩

theorem test_witness_MoverChannelsStartPauseAndEnd :
    (∃ (s : State) (c : Chan), s.startRefused c = none ∧ (s.chan c).paused = false ∧ s.ownedChan c = false ∧ (s.chan c).trigger ≠ 2 ∧ min 4096 (s.chan c).len.toNat / 64 ≤ s.cellRoom c) ∧
    (∃ (s : State) (c : Chan), s.startRefused c = none ∧ (s.chan c).paused = false ∧ s.ownedChan c = false ∧ (s.chan c).trigger ≠ 2 ∧ s.cellRoom c < min 4096 (s.chan c).len.toNat / 64) ∧
    (∃ (s : State) (c : Chan) (cause : Nat), s.startRefused c = some cause) ∧
    (∃ (s : State) (c : Chan), (s.chan c).started = true ∧ (s.chan c).group = 0 ∧ (s.chan c).buffered = []) ∧
    (∃ (s : State) (c : Chan), (s.chan c).started = true ∧ (s.chan c).buffered ≠ []) ∧
    (∃ (s : State) (c : Chan), (s.chan c).started = false) ∧
    (∃ (s : State) (c : Chan), (s.chan c).control.getLsbD 13 = true) ∧
    (∃ (s : State) (c : Chan), (s.chan c).trigger = 1 ∧ (s.chan c).started = true ∧ (s.chan c).passActive = true ∧ (s.chan c).heldStart = false) ∧
    (∃ (s : State) (c : Chan), (s.chan c).trigger = 1 ∧ (s.chan c).started = true ∧ (s.chan c).passActive = true ∧ (s.chan c).heldStart = true) ∧
    (∃ (s : State) (c : Chan) (status : U8) (l : List Byte), (s.chan c).passActive = true ∧ (s.chan c).sending = 0 ∧ (s.chan c).outstanding ≠ 0 ∧ s.ownAddr ((s.chan c).srcAt (s.chan c).pass.toNat) = false ∧ status ≠ 0 ∧ (s.chan c).group = 0) ∧
    (∃ (s : State) (c : Chan) (l : List Byte), (s.chan c).passActive = true ∧ (s.chan c).sending = 0 ∧ (s.chan c).outstanding ≠ 0 ∧ s.ownAddr ((s.chan c).srcAt (s.chan c).pass.toNat) = false ∧ s.ownAddr ((s.chan c).dstAt (s.chan c).pass.toNat + (s.chan c).resume) = false) ∧
    (∃ (s : State) (c : Chan), (s.chan c).passActive = true ∧ (s.chan c).sending ≠ 0 ∧ (s.chan c).ending = none) ∧
    (∃ (s : State) (c : Chan), (s.chan c).passActive = true ∧ (s.chan c).resume = (s.chan c).len ∧ (s.chan c).repeats ≠ 0 ∧ (s.chan c).pass + 1 = (s.chan c).repeats ∧ (s.chan c).group = 0 ∧ (∀ d, ¬ ((s.chan d).trigger = 2 ∧ (s.chan d).trigChan = c.val))) ∧
    (∃ (s : State) (c : Chan), (s.chan c).resume ≠ (s.chan c).len) ∧
    (∃ (s : State) (c : Chan), (s.chan c).passActive = true ∧ (s.chan c).group = 0 ∧ (((s.chan c).sending ≠ 0 ∨ ((s.chan c).outstanding ≠ 0 ∧ s.ownAddr ((s.chan c).srcAt (s.chan c).pass.toNat) = false)))) :=
   by
   refine ⟨?_, ?_, ?_, ?_, ?_, ?_, ?_, ?_, ?_, ?_, ?_, ?_, ?_, ?_, ?_⟩
   · exact ⟨sChan chanOk, 63, by decide +kernel, by decide +kernel, by decide +kernel, by decide +kernel, by decide +kernel⟩
   · exact ⟨sChan { chanOk with cells := 4096 }, 63, by decide +kernel, by decide +kernel, by decide +kernel, by decide +kernel, by decide +kernel⟩
   · exact ⟨sChan { chanOk with partOn := true }, 63, 1, by decide +kernel⟩
   · exact ⟨sChan { chanOk with partOn := true }, 63, by decide +kernel, by decide +kernel, by decide +kernel⟩
   · exact ⟨sChan { chanOk with partOn := true, passActive := true, buffered := [0] }, 63, by decide +kernel, by decide +kernel⟩
   · exact ⟨{}, 0, by decide +kernel⟩
   · exact ⟨sChan { chanOk with control := 0x2000 }, 63, by decide +kernel⟩
   · exact ⟨sChan { chanOk with control := 1, partOn := true, passActive := true }, 63, by decide +kernel, by decide +kernel, by decide +kernel, by decide +kernel⟩
   · exact ⟨sChan { chanOk with control := 1, partOn := true, passActive := true, heldStart := true }, 63, by decide +kernel, by decide +kernel, by decide +kernel, by decide +kernel⟩
   · exact ⟨sChan { chanAway with issued := 64 }, 63, 1, [], by decide +kernel, by decide +kernel, by decide +kernel, by decide +kernel, by decide +kernel, by decide +kernel⟩
   · exact ⟨sChan { chanAway with issued := 64 }, 63, [], by decide +kernel, by decide +kernel, by decide +kernel, by decide +kernel, by decide +kernel⟩
   · exact ⟨sChan { chanAway with buffered := [0], sending := 1 }, 63, by decide +kernel, by decide +kernel, by decide +kernel⟩
   · exact ⟨sChan { chanOk with status := 2, passActive := true, resume := 64 }, 63, by decide +kernel, by decide +kernel, by decide +kernel, by decide +kernel, by decide +kernel, by decide +kernel⟩
   · exact ⟨sChan chanOk, 63, by decide +kernel⟩
   · exact ⟨sChan { chanAway with buffered := [0], sending := 1 }, 63, by decide +kernel, by decide +kernel, .inl (by decide +kernel)⟩

theorem test_witness_MoverChannelsStartPauseAndEnd_MoverGroupsAndConservation :
    (∃ (s : State) (g : U8), ((g = 0 ∨ ∃ c ∈ s.groupChans g, (s.chan c).status ∉ [(0 : U8), 4, 5, 6]))) ∧
    (∃ (s : State) (g : U8), g ≠ 0 ∧ (∀ c ∈ s.groupChans g, (s.chan c).status ∈ [(0 : U8), 4, 5, 6])) ∧
    (∃ (s : State) (g : U8), g ≠ 0 ∧ (s.mov.group g).state = 3) ∧
    (∃ (s : State) (g : U8), ((g = 0 ∨ (s.mov.group g).state ≠ 3))) ∧
    (∃ (s : State) (g : U8), g ≠ 0) ∧
    (∃ (s : State), (∀ c, (s.chan c).balanced = true) ∧ s.cellsBalanced = true) ∧
    (∃ (s : State) (c : Chan), (s.chan c).balanced = false) :=
   by
   refine ⟨?_, ?_, ?_, ?_, ?_, ?_, ?_⟩
   · exact ⟨{}, 0, .inl rfl⟩
   · exact ⟨sChan { chanOk with control := 0x4000 }, 1, by decide +kernel, by decide +kernel⟩
   · exact ⟨{ mov := { groups := [(1, { state := 3 })] } }, 1, by decide +kernel, by decide +kernel⟩
   · exact ⟨{}, 0, .inl rfl⟩
   · exact ⟨{}, 0xFF, by decide +kernel⟩
   · exact ⟨{}, by decide +kernel, by decide +kernel⟩
   · exact ⟨sChan { chanOk with bytesRead := 64 }, 63, by decide +kernel⟩

theorem test_witness_ClaimsAndResignationsOpenAndCloseTheJob :
    (∃ (s : State) (l : List Byte), s.job.dev = .standby ∧ (∀ t ∈ s.heldTags, t = field16 l 0) ∧ claimFieldsOk l = true) ∧
    (∃ (s : State) (l : List Byte), s.job.dev ≠ .standby) ∧
    (∃ (s : State) (l : List Byte) (x : U16), s.job.dev = .standby ∧ s.heldTags.find? (· != field16 l 0) = some x) ∧
    (∃ (s : State) (l : List Byte), s.job.dev = .standby ∧ (∀ t ∈ s.heldTags, t = field16 l 0) ∧ claimFieldsOk l = false) ∧
    (∃ (s : State) (l : List Byte) (es : List (U32 × U32)), s.loadable = true ∧ es = (chunksOf (l.length / 8) 8 l).map (fun r => (cnOf (field32 r 0), cnOf (field32 r 4))) ∧ s.treeBad es l.length = none) ∧
    (∃ (s : State) (l : List Byte) (off : Nat), s.loadable = true ∧ s.treeBad ((chunksOf (l.length / 8) 8 l).map (fun r => (cnOf (field32 r 0), cnOf (field32 r 4)))) l.length = some off) ∧
    (∃ (s : State) (port : Port) (pk : Trans), pk.a32 4 = s.job.seq ∧ pk.jt = s.job.jt ∧ pk.body.length = 4096) ∧
    (∃ (s : State) (port : Port) (pk : Trans), (pk.a32 4).toNat < s.job.seq.toNat) ∧
    (∃ (s : State) (jt : U16), jt ≠ 0 ∧ jt = s.job.jt ∧ ((s.job.dev = .run ∨ s.job.dev = .fenced ∨ s.job.dev = .opening))) ∧
    (∃ (s : State) (jt : U16), ((jt = 0 ∨ jt ≠ s.job.jt)) ∧ s.job.dev ≠ .resigning) ∧
    (∃ (s : State), s.job.dev = .resigning ∧ s.job.resignStatus = 1) :=
   by
   refine ⟨?_, ?_, ?_, ?_, ?_, ?_, ?_, ?_, ?_, ?_, ?_⟩
   · exact ⟨sJob { dev := .standby }, claimRow, by decide +kernel, none_mem (by decide +kernel), by decide +kernel⟩
   · exact ⟨{}, [], by decide +kernel⟩
   · exact ⟨{ job := { dev := .standby }, adj := { points := [{ kind := .full, jt := 2, seq := 0, step := 0, addr := 0, len := 0, fullSeq := 0, inTierS := false }] } }, claimRow, 2, by decide +kernel, by decide +kernel⟩
   · exact ⟨sJob { dev := .standby }, [], by decide +kernel, none_mem (by decide +kernel), by decide +kernel⟩
   · exact ⟨sJob { dev := .opening, members := 2 }, [0, 0, 0, 0, 0, 0, 0, 0, 5, 0, 0, 0, 0, 0, 0, 0], [(0, 0), (5, 0)], by decide +kernel, by decide +kernel, by decide +kernel⟩
   · exact ⟨sJob { dev := .opening, members := 2 }, [], 0, by decide +kernel, by decide +kernel⟩
   · exact ⟨{}, 8, { trn with body := List.replicate 4096 0 }, by decide +kernel, by decide +kernel, by decide +kernel⟩
   · exact ⟨sJob { seq := 1 }, 8, trn, by decide +kernel⟩
   · exact ⟨sJob { dev := .fenced, jt := 1 }, 1, by decide +kernel, by decide +kernel, .inr (.inl rfl)⟩
   · exact ⟨{}, 0, .inl rfl, by decide +kernel⟩
   · exact ⟨sJob { dev := .resigning, resignStatus := 1 }, by decide +kernel, by decide +kernel⟩

theorem test_witness_OpeningPhasesAreGatedAndSettled :
    (∃ (s : State) (seq : U32), ((seq ≠ s.job.seq ∨ s.isRoot = false ∨ s.job.dev ≠ .opening ∨ s.mayJoin = false ∨ s.job.openStatus ≠ 1))) ∧
    (∃ (s : State), s.isRoot = true ∧ s.job.dev = .opening ∧ s.mayJoin = true ∧ s.job.openStatus = 1) ∧
    (∃ (s : State) (seq : U32), ((s.isRoot = false ∨ s.job.dev ≠ .run ∨ seq.toNat ≤ s.job.seq.toNat))) ∧
    (∃ (s : State) (seq : U32) (u : State), s.isRoot = true ∧ s.job.dev = .run ∧ s.job.seq.toNat < seq.toNat ∧ u = { s with job := s.job.fresh seq }) ∧
    (∃ (s : State) (p : PhaseSt) (t : Trans), s.job.phase = some p ∧ p.pk = some t ∧ s.isRoot = true ∧ p.sender = none) ∧
    (∃ (s : State) (seq : U32), ((s.job.phase = none ∨ seq ≠ s.job.seq ∨ s.isRoot = false))) ∧
    (∃ (s : State) (seq target : U32), s.isRoot = true ∧ s.job.dev = .run ∧ s.job.seq.toNat < seq.toNat ∧ s.vectorAt target = none ∧ s.headsUnread = []) ∧
    (∃ (s : State) (seq target : U32) (v : List (U32 × Int)), s.isRoot = true ∧ s.job.dev = .run ∧ s.job.seq.toNat < seq.toNat ∧ s.vectorAt target = some v) ∧
    (∃ (s : State) (seq target : U32), s.isRoot = true ∧ s.job.dev = .run ∧ s.job.seq.toNat < seq.toNat ∧ s.vectorAt target = none ∧ s.headsUnread ≠ []) ∧
    (∃ (s : State), s.job.dev = .run ∧ s.restoring = true ∧ s.isRoot = false) ∧
    (∃ (s : State) (seq : U32), seq ≠ s.job.seq) ∧
    (∃ (s : State) (port : Port) (pk : Trans), pk.a32 4 = s.job.seq ∧ pk.jt = s.job.jt ∧ s.job.dev = .opening) ∧
    (∃ (s : State) (port : Port) (pk : Trans), (pk.a32 4).toNat < s.job.seq.toNat) ∧
    (∃ (s : State) (ph : OpPhase) (pk : Trans) (go : State → State), s.job.dev = .safe) ∧
    (∃ (s : State) (ph : OpPhase) (pk : Trans) (go : State → State), s.job.dev ≠ .safe ∧ (pk.a32 4).toNat < s.job.seq.toNat) ∧
    (∃ (s : State) (ph : OpPhase) (pk : Trans) (go : State → State), s.job.dev ≠ .safe ∧ pk.a32 4 = s.job.seq ∧ pk.jt = s.job.jt ∧ s.job.lastPhase = none ∧ s.job.phase = none ∧ s.startFits ph = true) ∧
    (∃ (s : State) (ph : OpPhase) (pk : Trans) (go : State → State), s.job.dev ≠ .safe ∧ s.job.seq.toNat ≤ (pk.a32 4).toNat ∧ pk.jt ≠ s.job.jt) :=
   by
   refine ⟨?_, ?_, ?_, ?_, ?_, ?_, ?_, ?_, ?_, ?_, ?_, ?_, ?_, ?_, ?_, ?_, ?_⟩
   · exact ⟨{}, 1, .inl (by decide +kernel)⟩
   · exact ⟨sJob { rootJob with dev := .opening, openStatus := 1 }, by decide +kernel, by decide +kernel, by decide +kernel, by decide +kernel⟩
   · exact ⟨{}, 0, .inl (by decide +kernel)⟩
   · exact ⟨sJob rootJob, 1, { (sJob rootJob) with job := (sJob rootJob).job.fresh 1 }, by decide +kernel, by decide +kernel, by decide +kernel, rfl⟩
   · exact ⟨sJob { rootJob with phase := some phase0 }, phase0, trn, by decide +kernel, by decide +kernel, by decide +kernel, by decide +kernel⟩
   · exact ⟨{}, 0, .inl rfl⟩
   · exact ⟨sJob rootJob, 1, 7, by decide +kernel, by decide +kernel, by decide +kernel, by decide +kernel, by decide +kernel⟩
   · exact ⟨sJob { rootJob with vectors := [(7, [(0, 3)])] }, 1, 7, [(0, 3)], by decide +kernel, by decide +kernel, by decide +kernel, by decide +kernel⟩
   · exact ⟨sJob { rootJob with tierS := [[9]] }, 1, 7, by decide +kernel, by decide +kernel, by decide +kernel, by decide +kernel, by decide +kernel⟩
   · exact ⟨sJob { dev := .run, phase := some { phase0 with phase := .install } }, by decide +kernel, by decide +kernel, by decide +kernel⟩
   · exact ⟨{}, 1, by decide +kernel⟩
   · exact ⟨sJob { dev := .opening }, 8, trn, by decide +kernel, by decide +kernel, by decide +kernel⟩
   · exact ⟨sJob { seq := 1 }, 8, trn, by decide +kernel⟩
   · exact ⟨sJob { dev := .safe }, .install, trn, id, by decide +kernel⟩
   · exact ⟨sJob { seq := 1 }, .install, trn, id, by decide +kernel, by decide +kernel⟩
   · exact ⟨sJob { dev := .opening }, .prepare, trn, id, by decide +kernel, by decide +kernel, by decide +kernel, by decide +kernel, by decide +kernel, by decide +kernel⟩
   · exact ⟨{}, .prepare, { trn with jt := 1 }, id, by decide +kernel, by decide +kernel, by decide +kernel⟩

theorem test_witness_OpeningPhasesAreGatedAndSettled_AnswersOfAnOpeningAreFolded :
    (∃ (s : State) (port : Port) (pk : Trans) (p : PhaseSt), s.job.phase = some p ∧ cnOf pk.src ∈ p.expect ∧ pk.a8 1 = p.phase.code ∧ pk.a32 4 = p.seq) ∧
    (∃ (s : State) (port : Port) (pk : Trans), ((∀ p, s.job.phase = some p → cnOf pk.src ∉ p.expect))) ∧
    (∃ (s : State) (cn : U32) (p : PhaseSt) (t : Trans), s.job.phase = some p ∧ cn ∈ p.expect ∧ p.pk = some t) ∧
    (∃ (s : State) (cn : U32) (p : PhaseSt) (t : Trans), s.job.phase = some p ∧ p.phase = .commit ∧ s.childrenOf cn = [] ∧ p.own = none ∧ s.job.adopted.contains cn = false) ∧
    (∃ (s : State), ((∀ p, s.job.phase = some p → p.phase ≠ .install ∨ p.own.isSome = true))) ∧
    (∃ (s : State) (p : PhaseSt), s.job.phase = some p ∧ p.phase = .install ∧ p.own = none ∧ s.installFailed = false ∧ s.installDone = true) ∧
    (∃ (s : State) (p : PhaseSt), s.job.phase = some p ∧ p.phase = .install ∧ p.own = none ∧ s.installFailed = true) ∧
    (∃ (s : State) (port : Port) (pk : Trans), s.job.phase = none) ∧
    (∃ (s : State) (port : Port) (pk : Trans), s.job.phase = none ∧ s.part.named = true ∧ cnOf pk.src = s.part.partner) ∧
    (∃ (s : State) (port : Port) (pk : Trans), ((s.part.named = false ∨ cnOf pk.src ≠ s.part.partner))) ∧
    (∃ (s : State), s.surveying = false) ∧
    (∃ (s : State), s.surveying = true) ∧
    (∃ (s : State) (port : Port) (pk : Trans), s.ownerIx (cnOf pk.src) = none) ∧
    (∃ (s : State) (port : Port) (pk : Trans) (ix : Fin 4) (last : U32) (u : State), s.ownerIx (cnOf pk.src) = some ix ∧ Stream.ofSel (pk.a8 5).toNat = some .g ∧ State.sendSlots ix (cnOf pk.src) (pk.a32 0) (pk.a32 8) (pk.a32 12).toNat (s.takePk (.trans pk)) = (last, u)) ∧
    (∃ (s : State) (port : Port) (pk : Trans) (p : Pull) (e : TensorEntry), s.pullOf (pk.a32 0) (pk.a8 5).toNat = some p ∧ s.ownerOf (pk.a32 0) = some e ∧ s.part.named = true ∧ cnOf pk.src = s.part.partner ∧ p.stream ≠ .g ∧ p.digest = pk.b ∧ ((∃ x ∈ s.job.pulls, x ≠ p ∧ x.ts = pk.a32 0))) ∧
    (∃ (s : State) (ts : U32) (sel : U8) (p : Pull), s.pullOf ts sel.toNat = some p ∧ p.tries < 3) ∧
    (∃ (s : State) (ts : U32) (sel : U8), s.pullOf ts sel.toNat = none) ∧
    (∃ (s : State) (port : Port) (pk : Trans) (g : StoreGet), s.job.gets.find? (fun g => g.obj == pk.a64 0 && !g.done && pk.b == BitVec.ofNat 64 g.data.length) = some g ∧ pk.a8 12 = 0) ∧
    (∃ (s : State) (g : StoreGet) (src : U32) (b : Block), b.hdr.crcOk = false) ∧
    (∃ (s : State) (g : StoreGet) (src : U32) (b : Block), b.hdr.crcOk = true ∧ b.hdr.valid = false) ∧
    (∃ (s : State) (g : StoreGet) (src : U32) (b : Block), b.hdr.crcOk = true ∧ b.hdr.valid = true ∧ b.hdr.poison = true) ∧
    (∃ (s : State) (g : StoreGet) (src : U32) (b : Block), b.hdr.crcOk = true ∧ b.hdr.valid = true ∧ b.hdr.poison = false ∧ b.payOk = true) ∧
    (∃ (s : State) (g : StoreGet) (src : U32) (b : Block), b.hdr.crcOk = true ∧ b.hdr.valid = true ∧ b.hdr.poison = false ∧ b.payOk = false) ∧
    (∃ (s : State) (port : Port) (pk : Trans), s.job.gets.find? (fun g => g.obj == pk.a64 0 && !g.done && pk.b == BitVec.ofNat 64 g.data.length) = none) :=
   by
   refine ⟨?_, ?_, ?_, ?_, ?_, ?_, ?_, ?_, ?_, ?_, ?_, ?_, ?_, ?_, ?_, ?_, ?_, ?_, ?_, ?_, ?_, ?_, ?_, ?_⟩
   · exact ⟨sJob { phase := some phase0 }, 8, aPk 0x400, phase0, by decide +kernel, by decide +kernel, by decide +kernel, by decide +kernel⟩
   · exact ⟨sJob { phase := some phase0 }, 8, aPk 0x400 6, fun p h => by cases h; decide +kernel⟩
   · exact ⟨sJob { phase := some phase0 }, 5, phase0, trn, by decide +kernel, by decide +kernel, by decide +kernel⟩
   · exact ⟨sJob { phase := some phase0 }, 5, phase0, trn, by decide +kernel, by decide +kernel, by decide +kernel, by decide +kernel, by decide +kernel⟩
   · exact ⟨sJob { phase := some phase0 }, fun p h => by cases h; exact .inl (by decide +kernel)⟩
   · exact ⟨sJob { phase := some { phase0 with phase := .install } }, { phase0 with phase := .install }, by decide +kernel, by decide +kernel, by decide +kernel, by decide +kernel, by decide +kernel⟩
   · exact ⟨sJob { phase := some { phase0 with phase := .install }, rolls := [{ ts := 256, target := 1, failed := true }] }, { phase0 with phase := .install }, by decide +kernel, by decide +kernel, by decide +kernel, by decide +kernel⟩
   · exact ⟨{}, 8, trn, by decide +kernel⟩
   · exact ⟨sPair ent, 8, rpk 0, by decide +kernel, by decide +kernel, by decide +kernel⟩
   · exact ⟨{}, 8, trn, .inl (by decide +kernel)⟩
   · exact ⟨{}, by decide +kernel⟩
   · exact ⟨sJob { phase := some { phase0 with phase := .survey } }, by decide +kernel⟩
   · exact ⟨{}, 8, trn, by decide +kernel⟩
   · exact ⟨sRep rent, 8, rpk 0x00000001000000010000030000000100, 0, (State.sendSlots 0 9 256 1 1 ((sRep rent).takePk (.trans (rpk 0x00000001000000010000030000000100)))).1, (State.sendSlots 0 9 256 1 1 ((sRep rent).takePk (.trans (rpk 0x00000001000000010000030000000100)))).2, by decide +kernel, by decide +kernel, Prod.ext rfl rfl⟩
   · exact ⟨sPull [pull0, { pull0 with stream := .m }], 8, rpk 256, pull0, ent, by decide +kernel, by decide +kernel, by decide +kernel, by decide +kernel, by decide +kernel, by decide +kernel, ⟨{ pull0 with stream := .m }, by decide +kernel, by decide +kernel, by decide +kernel⟩⟩
   · exact ⟨sPull [{ pull0 with tries := 2 }], 256, 0, { pull0 with tries := 2 }, by decide +kernel, by decide +kernel⟩
   · exact ⟨{}, 256, 0, by decide +kernel⟩
   · exact ⟨sJob { gets := [get0] }, 8, { (aPk 1) with body := checkedBlock (List.replicate 4096 0) }, get0, by decide +kernel, by decide +kernel⟩
   · exact ⟨{}, get0, 5, piece 1, by decide +kernel⟩
   · exact ⟨{}, get0, 5, ⟨{ Header.zero with typ := 0 }.seal, []⟩, by decide +kernel, by decide +kernel⟩
   · exact ⟨{}, get0, 5, ⟨maskHdr.setPoison.seal, []⟩, by decide +kernel, by decide +kernel, by decide +kernel⟩
   · exact ⟨{}, get0, 5, Block.seal ⟨maskHdr, []⟩, sealed_crcOk _, by decide +kernel, by decide +kernel, sealed_payOk _⟩
   · exact ⟨{}, get0, 5, ⟨{ maskHdr with payCrc := crc64 (padTo 4096 []) + 1 }.seal, []⟩, sealed_crcOk _, by decide +kernel, by decide +kernel, wrong_payOk _ _⟩
   · exact ⟨{}, 8, trn, by decide +kernel⟩

theorem test_witness_SuspicionsLeadToFlagFallsOrAreDismissed :
    (∃ (s : State) (p : Port) (pos : U32), 8 ≤ p.val ∧ s.jobPort p = true ∧ s.exempt p = false ∧ s.peerPosition p = some pos ∧ pos ∉ s.det.sentFor) ∧
    (∃ (s : State) (p : Port), ((p.val < 8 ∨ s.jobPort p = false ∨ s.exempt p = true))) ∧
    (∃ (s : State) (p : Port), s.job.dev = .run ∧ p ∈ s.fabricJobPorts ∧ s.exempt p = false) ∧
    (∃ (s : State), s.job.dev ≠ .run) ∧
    (∃ (s : State) (tl : Fin 8) (p : Port), p.val = tl.val ∧ s.jobPort p = true ∧ (s.port p).agentLost = false) ∧
    (∃ (s : State) (port : Port) (pk : Trans), s.job.dev ≠ .fenced ∧ s.job.dev ≠ .safe ∧ s.arbiterRole ≠ 0 ∧ s.job.epoch.toNat ≤ pk.epoch.toNat ∧ cnOf pk.src ∉ s.det.fenced ∧ cnOf (pk.a32 4) ∉ s.det.fenced ∧ cnOf pk.src ≠ cnOf (pk.a32 4) ∧ s.suspicion (cnOf (pk.a32 4)) = none) ∧
    (∃ (s : State) (port : Port) (pk : Trans), s.job.dev ≠ .fenced ∧ s.job.dev ≠ .safe ∧ s.arbiterRole = 0 ∧ pk.epoch.toNat < s.job.epoch.toNat) ∧
    (∃ (s : State) (port : Port) (pk : Trans), ((s.job.dev = .fenced ∨ s.job.dev = .safe))) ∧
    (∃ (s : State) (pos : U32) (w : U64), s.job.dev = .safe) ∧
    (∃ (s : State) (pos : U32) (w : U64) (r : Suspicion), s.job.dev ≠ .safe ∧ s.suspicion pos = some r ∧ isolatedWord s.job.jt w = false) ∧
    (∃ (s : State) (pos : U32) (w : U64) (r : Suspicion), s.job.dev ≠ .safe ∧ s.suspicion pos = some r ∧ isolatedWord s.job.jt w = true) ∧
    (∃ (s : State) (pos : U32) (r : Suspicion), s.job.dev ≠ .safe ∧ s.suspicion pos = some r ∧ r.watchers.length < s.det.quorum.toNat ∧ r.probes < 3) ∧
    (∃ (s : State) (pos : U32) (r : Suspicion), s.job.dev ≠ .safe ∧ s.suspicion pos = some r ∧ ((s.det.quorum.toNat ≤ r.watchers.length ∨ 3 ≤ r.probes))) ∧
    (∃ (s : State) (pos : U32) (cause : U8) (n : Nat), pos ≠ s.adopted ∧ pos ∉ s.det.fenced) ∧
    (∃ (s : State) (cause : U8) (n : Nat), s.job.dev ≠ .safe) ∧
    (∃ (s : State) (pos reason : U32) (key : U16), ((s.job.dev = .opening ∨ s.job.dev = .run)) ∧ cnOf pos ≠ s.adopted ∧ s.isMember (cnOf pos) = true ∧ cnOf pos ∉ s.det.fenced) ∧
    (∃ (s : State) (pos reason : U32) (key : U16), s.isMember (cnOf pos) = false) :=
   by
   refine ⟨?_, ?_, ?_, ?_, ?_, ?_, ?_, ?_, ?_, ?_, ?_, ?_, ?_, ?_, ?_, ?_, ?_⟩
   · exact ⟨sWired, 8, 5, by decide +kernel, by decide +kernel, by decide +kernel, by decide +kernel, by decide +kernel⟩
   · exact ⟨{}, 7, .inl (by decide +kernel)⟩
   · exact ⟨sWired, 8, by decide +kernel, by decide +kernel, by decide +kernel⟩
   · exact ⟨{}, by decide +kernel⟩
   · exact ⟨sWired, 2, 2, by decide +kernel, by decide +kernel, by decide +kernel⟩
   · exact ⟨sWired {} { rootJob with tree := [(0, 0), (5, 0), (6, 0)] }, 8, aPk 0x500000000 6, by decide +kernel, by decide +kernel, by decide +kernel, by decide +kernel, by decide +kernel, by decide +kernel, by decide +kernel, by decide +kernel⟩
   · exact ⟨{ job := { epoch := 1 } }, 8, trn, by decide +kernel, by decide +kernel, by decide +kernel, by decide +kernel⟩
   · exact ⟨sJob { dev := .fenced }, 8, trn, by decide +kernel⟩
   · exact ⟨sJob { dev := .safe }, 5, 0, by decide +kernel⟩
   · exact ⟨sWired { records := [susp [6] 0] }, 5, 0x0000000203040000, susp [6] 0, by decide +kernel, by decide +kernel, by decide +kernel⟩
   · exact ⟨sWired { records := [susp [6] 0] }, 5, 1, susp [6] 0, by decide +kernel, by decide +kernel, by decide +kernel⟩
   · exact ⟨sWired { records := [susp [6] 2] }, 5, susp [6] 2, by decide +kernel, by decide +kernel, by decide +kernel, by decide +kernel⟩
   · exact ⟨sWired { records := [susp [6, 7] 0] }, 5, susp [6, 7] 0, by decide +kernel, by decide +kernel, .inl (by decide +kernel)⟩
   · exact ⟨sWired, 5, 1, 0, by decide +kernel, by decide +kernel⟩
   · exact ⟨{}, 0, 0, by decide +kernel⟩
   · exact ⟨sWired, 5, 0, 0, .inr (by decide +kernel), by decide +kernel, by decide +kernel, by decide +kernel⟩
   · exact ⟨{}, 5, 0, 0, by decide +kernel⟩

theorem test_witness_SuspicionsLeadToFlagFallsOrAreDismissed_DeclarationsFenceAndEpochsInstall :
    (∃ (s : State) (port : Port) (pk : Trans), s.job.dev ≠ .fenced ∧ s.job.dev ≠ .safe ∧ s.job.epoch.toNat ≤ pk.epoch.toNat ∧ cnOf (pk.a32 4) = s.adopted) ∧
    (∃ (s : State) (port : Port) (pk : Trans), s.job.dev ≠ .fenced ∧ s.job.dev ≠ .safe ∧ s.job.epoch.toNat ≤ pk.epoch.toNat ∧ cnOf (pk.a32 4) ≠ s.adopted ∧ cnOf (pk.a32 4) ∉ s.det.fenced) ∧
    (∃ (s : State) (port : Port) (pk : Trans), s.job.dev ≠ .fenced ∧ s.job.dev ≠ .safe ∧ pk.epoch.toNat < s.job.epoch.toNat) ∧
    (∃ (s : State) (port : Port) (pk : Trans), ((s.job.dev = .fenced ∨ s.job.dev = .safe))) ∧
    (∃ (s : State) (pos : U32) (p : Port), s.peerPosition p = some pos) ∧
    (∃ (s : State) (pos : U32) (p : Port), s.peerPosition p ≠ some pos) ∧
    (∃ (s : State) (v : U32), s.root = some s.adopted ∧ ((s.job.dev = .opening ∨ s.job.dev = .run)) ∧ s.job.epoch.toNat < v.toNat) ∧
    (∃ (s : State) (v : U32), ((s.root ≠ some s.adopted ∨ v.toNat ≤ s.job.epoch.toNat))) ∧
    (∃ (s : State) (port : Port) (pk : Trans), ((s.job.dev = .opening ∨ s.job.dev = .run)) ∧ s.job.epoch.toNat < (pk.a32 4).toNat ∧ s.adopted ∉ installList pk) ∧
    (∃ (s : State) (port : Port) (pk : Trans), ((s.job.dev = .opening ∨ s.job.dev = .run)) ∧ s.job.epoch.toNat < (pk.a32 4).toNat ∧ s.adopted ∈ installList pk) ∧
    (∃ (s : State) (port : Port) (pk : Trans), (pk.a32 4).toNat ≤ s.job.epoch.toNat ∧ s.det.lastInstalled = none ∧ ((s.job.dev = .opening ∨ s.job.dev = .run))) ∧
    (∃ (s : State) (port : Port) (pk : Trans) (i : InstallSt), s.det.install = some i ∧ cnOf pk.src ∈ i.expect ∧ pk.a32 4 = i.epoch ∧ ((∃ c ∈ i.expect, c ≠ cnOf pk.src))) ∧
    (∃ (s : State) (port : Port) (pk : Trans), s.det.install = none) :=
   by
   refine ⟨?_, ?_, ?_, ?_, ?_, ?_, ?_, ?_, ?_, ?_, ?_, ?_, ?_⟩
   · exact ⟨{}, 8, trn, by decide +kernel, by decide +kernel, by decide +kernel, by decide +kernel⟩
   · exact ⟨{}, 8, aPk 0x500000000, by decide +kernel, by decide +kernel, by decide +kernel, by decide +kernel, by decide +kernel⟩
   · exact ⟨{ job := { epoch := 1 } }, 8, trn, by decide +kernel, by decide +kernel, by decide +kernel⟩
   · exact ⟨sJob { dev := .safe }, 8, trn, .inr (by decide +kernel)⟩
   · exact ⟨sWired, 5, 8, by decide +kernel⟩
   · exact ⟨{}, 5, 8, by decide +kernel⟩
   · exact ⟨sWired, 1, by decide +kernel, .inr (by decide +kernel), by decide +kernel⟩
   · exact ⟨{}, 0, .inl (by decide +kernel)⟩
   · exact ⟨sWired, 8, aPk 0x100000000, .inr (by decide +kernel), by decide +kernel, by decide +kernel⟩
   · exact ⟨sWired, 8, { (aPk 0x00010000000100000000) with body := [0, 0, 0, 0] }, .inr (by decide +kernel), by decide +kernel, by decide +kernel⟩
   · exact ⟨sWired, 8, aPk 0, by decide +kernel, by decide +kernel, .inr (by decide +kernel)⟩
   · exact ⟨sWired { install := some inst0 }, 8, aPk 0x100000000, inst0, by decide +kernel, by decide +kernel, by decide +kernel, ⟨6, by decide +kernel, by decide +kernel⟩⟩
   · exact ⟨{}, 8, trn, by decide +kernel⟩

theorem test_witness_StartupReachesStandbyOrSafe :
    (∃ (s : State) (w : BootWorld), s.pinHeld = true) ∧
    (∃ (s : State) (w : BootWorld), s.pinHeld = false ∧ w.romOk = false) ∧
    (∃ (s : State) (w : BootWorld), s.pinHeld = false ∧ w.romOk = true ∧ w.identityOk = false) ∧
    (∃ (s : State) (w : BootWorld), s.pinHeld = false ∧ w.romOk = true ∧ w.identityOk = true ∧ w.trainFail = none ∧ w.confirms = true ∧ s.boot.trial = none ∧ s.slotValid s.boot.activeB = true) ∧
    (∃ (s : State) (w : BootWorld), s.boot.resetHeld = false) ∧
    (∃ (s : State) (w : BootWorld), s.boot.resetHeld = true ∧ w.romOk = false) ∧
    (∃ (s : State) (w : BootWorld), s.boot.resetHeld = true ∧ w.romOk = true ∧ w.identityOk = true ∧ w.trainFail = none ∧ w.confirms = true ∧ s.boot.trial = none ∧ s.slotValid s.boot.activeB = true) ∧
    (∃ (s : State) (kind : U8) (w : BootWorld) (r : State), w.romOk = true ∧ w.identityOk = true ∧ kind ≠ 1 ∧ State.chooseImage { s with boot := { s.boot with lastReset := kind, resetHeld := false, nextKind := 0 } } = (none, r)) ∧
    (∃ (s : State), s.boot.trial = none ∧ s.slotValid s.boot.activeB = true) ∧
    (∃ (s : State), s.boot.trial = none ∧ s.slotValid s.boot.activeB = false ∧ s.slotValid (!s.boot.activeB) = true) ∧
    (∃ (s : State), s.boot.trial = none ∧ s.slotValid s.boot.activeB = false ∧ s.slotValid (!s.boot.activeB) = false) ∧
    (∃ (s : State) (b : Bool), s.boot.trial = some b ∧ s.boot.attempts.toNat < 2 ∧ s.slotValid b = true) ∧
    (∃ (s : State) (kind : U8) (w : BootWorld), s.job.dev ≠ .safe ∧ w.trainFail = none ∧ w.confirms = true) ∧
    (∃ (s : State) (kind : U8) (w : BootWorld) (t : Tier) (n : U8), w.trainFail = some (t, n)) ∧
    (∃ (s : State) (step : U8), 1 ≤ step.toNat ∧ step.toNat ≤ 8) ∧
    (∃ (s : State), s.boot.watchdog = true ∧ s.boot.resetHeld = false ∧ s.job.dev ≠ .off) ∧
    (∃ (s : State), ((s.boot.watchdog = false ∨ s.boot.resetHeld = true ∨ s.job.dev = .off))) ∧
    (∃ (s : State), s.boot.resetHeld = false) ∧
    (∃ (s : State), s.job.dev ≠ .off) ∧
    (∃ (s : State), s.job.dev = .off) ∧
    (∃ (s : State), s.boot.resetHeld = false ∧ s.job.dev ≠ .boot ∧ s.job.dev ≠ .off) ∧
    (∃ (s : State), ((s.boot.resetHeld = true ∨ s.job.dev = .boot ∨ s.job.dev = .off))) ∧
    (∃ (s : State) (late : Bool), s.boot.resetHeld = false ∧ s.job.dev ≠ .boot ∧ s.job.dev ≠ .off) ∧
    (∃ (s : State) (cause : Nat), s.mem.marks = []) ∧
    (∃ (s : State) (late : Bool), ((s.boot.resetHeld = true ∨ s.job.dev = .boot ∨ s.job.dev = .off))) ∧
    (∃ (s : State), s.mem.marker = none) ∧
    (∃ (s : State) (m : Marker), s.mem.marker = some m ∧ m.crcOk = false) ∧
    (∃ (s : State) (m : Marker), s.mem.marker = some m ∧ m.crcOk = true ∧ m.cycles ≠ s.time.cycles) ∧
    (∃ (s : State) (m : Marker), s.mem.marker = some m ∧ m.crcOk = true ∧ m.cycles = s.time.cycles) :=
   by
   refine ⟨?_, ?_, ?_, ?_, ?_, ?_, ?_, ?_, ?_, ?_, ?_, ?_, ?_, ?_, ?_, ?_, ?_, ?_, ?_, ?_, ?_, ?_, ?_, ?_, ?_, ?_, ?_, ?_, ?_⟩
   · exact ⟨sBoot {} .boot { wrstLow := true }, goodWorld, by decide +kernel⟩
   · exact ⟨{}, { goodWorld with romOk := false }, by decide +kernel, by decide +kernel⟩
   · exact ⟨{}, { goodWorld with identityOk := false }, by decide +kernel, by decide +kernel, by decide +kernel⟩
   · exact ⟨{}, goodWorld, by decide +kernel, by decide +kernel, by decide +kernel, by decide +kernel, by decide +kernel, by decide +kernel, by decide +kernel⟩
   · exact ⟨{}, goodWorld, by decide +kernel⟩
   · exact ⟨sBoot { resetHeld := true }, { goodWorld with romOk := false }, by decide +kernel, by decide +kernel⟩
   · exact ⟨sBoot { resetHeld := true }, goodWorld, by decide +kernel, by decide +kernel, by decide +kernel, by decide +kernel, by decide +kernel, by decide +kernel, by decide +kernel⟩
   · exact ⟨sBoot { imageA := {} }, 2, goodWorld, (State.chooseImage (sBoot { imageA := {}, lastReset := 2, resetHeld := false, nextKind := 0 })).2, by decide +kernel, by decide +kernel, by decide +kernel, Prod.ext (by decide +kernel) rfl⟩
   · exact ⟨{}, by decide +kernel, by decide +kernel⟩
   · exact ⟨sBoot { imageA := {}, imageB := { state := 2 } }, by decide +kernel, by decide +kernel, by decide +kernel⟩
   · exact ⟨sBoot { imageA := {} }, by decide +kernel, by decide +kernel, by decide +kernel⟩
   · exact ⟨sBoot { trial := some true, attempts := 1, imageB := { state := 2 } }, true, by decide +kernel, by decide +kernel, by decide +kernel⟩
   · exact ⟨{}, 2, goodWorld, by decide +kernel, by decide +kernel, by decide +kernel⟩
   · exact ⟨{}, 2, { goodWorld with trainFail := some (.l, 3) }, .l, 3, by decide +kernel⟩
   · exact ⟨{}, 8, by decide +kernel, by decide +kernel⟩
   · exact ⟨sBoot { watchdog := true } .boot, by decide +kernel, by decide +kernel, by decide +kernel⟩
   · exact ⟨{}, .inl rfl⟩
   · exact ⟨{}, by decide +kernel⟩
   · exact ⟨{}, by decide +kernel⟩
   · exact ⟨sBoot {} .off, by decide +kernel⟩
   · exact ⟨sBoot {}, by decide +kernel, by decide +kernel, by decide +kernel⟩
   · exact ⟨{}, .inr (.inl rfl)⟩
   · exact ⟨sBoot {}, true, by decide +kernel, by decide +kernel, by decide +kernel⟩
   · exact ⟨{}, 0, by decide +kernel⟩
   · exact ⟨{}, true, .inr (.inl rfl)⟩
   · exact ⟨{}, by decide +kernel⟩
   · exact ⟨{ mem := { marker := some { marker0 0 with crc := 0 } } }, { marker0 0 with crc := 0 }, by decide +kernel, by decide +kernel⟩
   · exact ⟨{ mem := { marker := some (marker0 1) } }, marker0 1, by decide +kernel, by decide +kernel, by decide +kernel⟩
   · exact ⟨{ mem := { marker := some (marker0 0) } }, marker0 0, by decide +kernel, by decide +kernel, by decide +kernel⟩

theorem test_witness_StartupReachesStandbyOrSafe_SupplyFaultsEndInOffResetOrSafe :
    (∃ (s : State), s.job.dev = .off) ∧
    (∃ (s : State), s.job.dev ≠ .off) ∧
    (∃ (s : State) (cause : Nat), s.mem.marks = []) ∧
    (∃ (s : State) (a b : U32), s.pwr.closing = some (a, b)) ∧
    (∃ (s : State), s.pwr.closing = none) ∧
    (∃ (s : State) (rail : Rail) (mv : U16), s.job.dev ≠ .off ∧ ((rail = .vddKeep ∨ rail = .vio18 ∨ rail = .vioMod))) ∧
    (∃ (s : State) (rail : Rail) (mv : U16), s.job.dev ≠ .off ∧ s.boot.resetHeld = false ∧ rail ≠ .vddKeep ∧ rail ≠ .vio18 ∧ rail ≠ .vioMod) ∧
    (∃ (s : State) (rail : Rail) (mv : U16), s.job.dev ≠ .off ∧ s.boot.resetHeld = true ∧ rail ≠ .vddKeep ∧ rail ≠ .vio18 ∧ rail ≠ .vioMod) ∧
    (∃ (s : State) (rail : Rail) (mv : U16), s.job.dev = .off) ∧
    (∃ (s : State), s.pwr.badRails ≠ []) ∧
    (∃ (s : State), s.job.dev ≠ .off ∧ s.boot.resetHeld = false) ∧
    (∃ (s : State), ((s.job.dev = .off ∨ s.boot.resetHeld = true))) :=
   by
   refine ⟨?_, ?_, ?_, ?_, ?_, ?_, ?_, ?_, ?_, ?_, ?_, ?_⟩
   · exact ⟨sBoot {} .off, by decide +kernel⟩
   · exact ⟨{}, by decide +kernel⟩
   · exact ⟨{}, 0, by decide +kernel⟩
   · exact ⟨sBoot {} .standby { closing := some (1, 2) }, 1, 2, by decide +kernel⟩
   · exact ⟨{}, by decide +kernel⟩
   · exact ⟨{}, .vioMod, 0, by decide +kernel, .inr (.inr rfl)⟩
   · exact ⟨{}, .vinCore, 0, by decide +kernel, by decide +kernel, by decide +kernel, by decide +kernel, by decide +kernel⟩
   · exact ⟨sBoot { resetHeld := true }, .vinCore, 0, by decide +kernel, by decide +kernel, by decide +kernel, by decide +kernel, by decide +kernel⟩
   · exact ⟨sBoot {} .off, .vinCore, 0, by decide +kernel⟩
   · exact ⟨sBoot {} .standby { badRails := [.vinCore] }, by decide +kernel⟩
   · exact ⟨{}, by decide +kernel, by decide +kernel⟩
   · exact ⟨sBoot {} .off, .inl rfl⟩

theorem test_witness_RequestsMeetTheirChecksInOrder :
    (∃ (path : Path) (bytes : List Byte) (s : State), Msg.ofBytes bytes = none) ∧
    (∃ (path : Path) (bytes : List Byte) (s : State) (m : Msg) (d : DupEntry), Msg.ofBytes bytes = some m ∧ s.acc.dupOf m = some d ∧ d.crc = m.crc32) ∧
    (∃ (path : Path) (bytes : List Byte) (s : State) (m : Msg) (d : DupEntry), Msg.ofBytes bytes = some m ∧ s.acc.dupOf m = some d ∧ d.crc ≠ m.crc32) ∧
    (∃ (path : Path) (bytes : List Byte) (s : State) (m : Msg), Msg.ofBytes bytes = some m ∧ s.acc.dupOf m = none ∧ m.kind = 1) ∧
    (∃ (path : Path) (bytes : List Byte) (s : State) (m : Msg), Msg.ofBytes bytes = some m ∧ s.acc.dupOf m = none ∧ m.kind ≠ 1) ∧
    (∃ (path : Path) (m : Msg) (s : State), objectAt m.idx m.sub = none) ∧
    (∃ (path : Path) (m : Msg) (s : State) (r : Row), objectAt m.idx m.sub = some r ∧ r.acc = .wo) ∧
    (∃ (path : Path) (m : Msg) (s : State) (r : Row), objectAt m.idx m.sub = some r ∧ r.acc ≠ .wo ∧ s.readable m.idx.toNat = false) ∧
    (∃ (path : Path) (m : Msg) (s : State) (r : Row), objectAt m.idx m.sub = some r ∧ r.acc ≠ .wo ∧ s.readable m.idx.toNat = true ∧ r.ty.scalar = true ∧ m.off = 0) ∧
    (∃ (path : Path) (m : Msg) (s : State) (r : Row), objectAt m.idx m.sub = some r ∧ r.acc ≠ .wo ∧ s.readable m.idx.toNat = true ∧ r.ty.scalar = false ∧ m.off ≤ (r.dom s).length ∧ 48 + m.dlen ≤ pathLimit path) ∧
    (∃ (path : Path) (m : Msg) (s : State) (r : Row), objectAt m.idx m.sub = some r ∧ r.acc ≠ .rw ∧ r.acc ≠ .wo) ∧
    (∃ (path : Path) (m : Msg) (s : State) (r : Row), objectAt m.idx m.sub = some r ∧ s.writeGate path m.idx m.sub = 0 ∧ r.ty.scalar = true ∧ 48 + m.data.length ≤ pathLimit path ∧ ((m.off ≠ 0 ∨ m.data.length ≠ r.ty.size))) ∧
    (∃ (path : Path) (m : Msg) (s : State) (r : Row), objectAt m.idx m.sub = some r ∧ s.writeGate path m.idx m.sub = 0 ∧ r.ty.scalar = true ∧ 48 + m.data.length ≤ pathLimit path ∧ m.off = 0 ∧ m.data.length = r.ty.size) ∧
    (∃ (idx : U16) (sub : U8) (s : State) (i : U16) (b : U8), ((i ≠ idx ∨ b ≠ sub))) ∧
    (∃ (path : Path) (m : Msg) (s : State), m.first = true ∧ m.off = 0 ∧ (s.acc.dropSession ⟨m.client, m.idx, m.sub⟩).sessions.length < 8 ∧ (s.acc.dropSession ⟨m.client, m.idx, m.sub⟩).pooled + m.data.length ≤ poolBytes) ∧
    (∃ (path : Path) (m : Msg) (s : State) (x : Session), m.first = false ∧ s.acc.sessions.find? (fun z => z.key == ⟨m.client, m.idx, m.sub⟩) = some x ∧ m.off ≠ x.data.length) ∧
    (∃ (path : Path) (m : Msg) (s : State), m.first = false ∧ s.acc.sessions.find? (fun z => z.key == ⟨m.client, m.idx, m.sub⟩) = none) ∧
    (∃ (path : Path) (m : Msg) (s : State) (r : Row), objectAt m.idx m.sub = some r ∧ r.acc ≠ .rws) ∧
    (∃ (path : Path) (m : Msg) (s : State) (r : Row), objectAt m.idx m.sub = some r ∧ r.acc = .rws ∧ s.writable m.idx.toNat r.sub = true ∧ s.taking m.idx.toNat r.sub = true ∧ ((m.data.length < 148 ∨ m.off ≠ 0 ∨ pathLimit path < 48 + m.data.length))) ∧
    (∃ (path : Path) (m : Msg) (s : State) (r : Row), objectAt m.idx m.sub = some r ∧ r.acc = .rws ∧ s.writable m.idx.toNat r.sub = true ∧ s.taking m.idx.toNat r.sub = true ∧ 148 ≤ m.data.length ∧ m.off = 0 ∧ 48 + m.data.length ≤ pathLimit path ∧ m.idx ≠ 0x7000 ∧ s.signedOk m.idx m.sub (m.data.take (m.data.length - 148)) (m.data.drop (m.data.length - 148)) = false) ∧
    (∃ (s : State) (path : Path) (bytes : List Byte), s.serverRuns = false) ∧
    (∃ (s : State) (port : Port) (pk : Trans), s.serverRuns = false) ∧
    (∃ (s : State) (bytes : List Byte), s.serverRuns = true ∧ obRingIdle s ∧ s.acc.admits (bytes.take 16) = false) ∧
    (∃ (s u : State) (bytes r : List Byte), s.serverRuns = true ∧ s.acc.admits (bytes.take 16) = true ∧ serve .ma (bytes.drop 16) (obOnMa bytes s) = (some r, u)) ∧
    (∃ (s : State) (bytes : List Byte), s.serverRuns = true) ∧
    (∃ (s : State) (port : Port) (pk : Trans), s.serverRuns = true ∧ obRingIdle s ∧ Msg.ofBytes pk.body = none) ∧
    (∃ (s u : State) (port : Port) (pk : Trans) (r : List Byte), s.serverRuns = true ∧ serve (.tunnel port) pk.body (s.takePk (.trans pk)) = (some r, u)) :=
   by
   refine ⟨?_, ?_, ?_, ?_, ?_, ?_, ?_, ?_, ?_, ?_, ?_, ?_, ?_, ?_, ?_, ?_, ?_, ?_, ?_, ?_, ?_, ?_, ?_, ?_, ?_, ?_, ?_⟩
   · exact ⟨.window, [], {}, by decide +kernel⟩
   · exact ⟨.ma, readBytes, sAcc { dups := [dup0 0xd795d5a8] }, readMsg, dup0 0xd795d5a8, by decide +kernel, by decide +kernel, by decide +kernel⟩
   · exact ⟨.ma, readBytes, sAcc { dups := [dup0 0] }, readMsg, dup0 0, by decide +kernel, by decide +kernel, by decide +kernel⟩
   · exact ⟨.mb, readBytes, sAcc {}, readMsg, by decide +kernel, by decide +kernel, by decide +kernel⟩
   · exact ⟨.tunnel 23, writeBytes, sAcc {}, writeMsg, by decide +kernel, by decide +kernel, by decide +kernel⟩
   · exact ⟨.ring, msg 1 0x1000 1, {}, by decide +kernel⟩
   · exact ⟨.ring, msg 1 0x1030 1, {}, rowOf 0x1030 1, rowOf_eq, by decide +kernel⟩
   · exact ⟨.ring, msg 1 0x2300 1, {}, rowOf 0x2300 1, rowOf_eq, by decide +kernel, by decide +kernel⟩
   · exact ⟨.ring, msg 1 0x1018 1, {}, rowOf 0x1018 1, rowOf_eq, by decide +kernel, by decide +kernel, by decide +kernel, by decide +kernel⟩
   · exact ⟨.ring, msg 1 0x1030 17, sAcc {}, rowOf 0x1030 17, rowOf_eq, by decide +kernel, by decide +kernel, by decide +kernel, by decide +kernel, by decide +kernel⟩
   · exact ⟨.ring, msg 2 0x1018 1, {}, rowOf 0x1018 1, rowOf_eq, by decide +kernel, by decide +kernel⟩
   · exact ⟨.ring, msg 2 0x2300 1 [1], sAcc {}, rowOf 0x2300 1, rowOf_eq, by decide +kernel, by decide +kernel, by decide +kernel, .inr (by decide +kernel)⟩
   · exact ⟨.ring, msg 2 0x2300 1 [1, 0, 0, 0], sAcc {}, rowOf 0x2300 1, rowOf_eq, by decide +kernel, by decide +kernel, by decide +kernel, by decide +kernel, by decide +kernel⟩
   · exact ⟨0x2300, 1, {}, 0x2300, 2, .inr (by decide +kernel)⟩
   · exact ⟨.ring, msg 2 0x2010 2 [1] 1, {}, by decide +kernel, by decide +kernel, by decide +kernel, by decide +kernel⟩
   · exact ⟨.ring, msg 2 0x2010 2 [1] 0 2, sAcc { sessions := [⟨⟨1, 0x2010, 2⟩, true, [0]⟩] }, ⟨⟨1, 0x2010, 2⟩, true, [0]⟩, by decide +kernel, by decide +kernel, by decide +kernel⟩
   · exact ⟨.ring, msg 2 0x2010 2 [1], {}, by decide +kernel, by decide +kernel⟩
   · exact ⟨.ring, msg 3 0x2010 2, {}, rowOf 0x2010 2, rowOf_eq, by decide +kernel⟩
   · exact ⟨.ring, msg 3 0x2010 1, sAcc {}, rowOf 0x2010 1, rowOf_eq, by decide +kernel, by decide +kernel, by decide +kernel, .inl (by decide +kernel)⟩
   · exact ⟨.ring, msg 3 0x2010 1 (List.replicate 148 0), sAcc {}, rowOf 0x2010 1, rowOf_eq, by decide +kernel, by decide +kernel, by decide +kernel, by decide +kernel, by decide +kernel, by decide +kernel, by decide +kernel, by decide +kernel⟩
   · exact ⟨sBoot {} .off, .ma, [], by decide +kernel⟩
   · exact ⟨sBoot {} .off, 8, trn, by decide +kernel⟩
   · exact ⟨sAcc { prefixes := [128] ++ List.replicate 16 1 }, List.replicate 16 0, by decide +kernel, rfl, by decide +kernel⟩
   · exact ⟨sAcc {}, (serve .ma (List.drop 16 (List.replicate 16 0 ++ readBytes)) (obOnMa (List.replicate 16 0 ++ readBytes) (sAcc {}))).2, List.replicate 16 0 ++ readBytes, Option.get (serve .ma (List.drop 16 (List.replicate 16 0 ++ readBytes)) (obOnMa (List.replicate 16 0 ++ readBytes) (sAcc {}))).1 (by decide +kernel), by decide +kernel, by decide +kernel, fst_some (by decide +kernel)⟩
   · exact ⟨{}, [], by decide +kernel⟩
   · exact ⟨{}, 8, trn, by decide +kernel, rfl, by decide +kernel⟩
   · exact ⟨sAcc {}, (serve (.tunnel 8) readBytes ((sAcc {}).takePk (.trans { trn with body := readBytes }))).2, 8, { trn with body := readBytes }, Option.get (serve (.tunnel 8) readBytes ((sAcc {}).takePk (.trans { trn with body := readBytes }))).1 (by decide +kernel), by decide +kernel, fst_some (by decide +kernel)⟩

theorem test_witness_HostLinkWritesInterruptsAndTheStore :
    (∃ (s : State) (idx : U16) (sub : U8) (l : List Byte), s.serverRuns = true ∧ obRingIdle s ∧ objectAt idx sub = none) ∧
    (∃ (s u : State) (idx : U16) (sub : U8) (l v : List Byte) (r : Row), s.serverRuns = true ∧ objectAt idx sub = some r ∧ (s.countBytes 10 l.length).writeGate .window idx sub = 0 ∧ windowValue r l = some v ∧ ownWrite idx r v (s.countBytes 10 l.length) = (0, u)) ∧
    (∃ (s u : State) (path : Path) (idx : U16) (sub : U8) (l : List Byte) (r : Row), s.serverRuns = true ∧ path ≠ .window ∧ objectAt idx sub = some r ∧ s.writeGate path idx sub = 0 ∧ r.ty.scalar = true ∧ l.length = r.ty.size ∧ ownWrite idx r l s = (0, u)) ∧
    (∃ (s : State) (path : Path) (idx : U16) (sub : U8) (l : List Byte) (v : U16), s.serverRuns = false) ∧
    (∃ (r : Row) (l : List Byte), r.ty.scalar = true ∧ l.length = r.ty.size) ∧
    (∃ (s : State) (v : U16), s.serverRuns = true ∧ (s.countBytes 10 2).writeGate .window 0x1030 1 = 0) ∧
    (∃ (s : State) (v : U16), s.serverRuns = true ∧ (s.countBytes 10 2).writeGate .window 0x1030 4 = 0) ∧
    (∃ (s : State), ((s.acc.ringReqC = s.acc.ringReqP ∨ s.acc.ringFull = true))) ∧
    (∃ (s : State), Msg.ofBytes (((s.acc.reqRing.find? (·.1 == s.acc.ringReqC)).map (·.2)).getD []) = none) ∧
    (∃ (s : State) (v : U32), s.acc.irqPend &&& ~~~v = 0) ∧
    (∃ (s : State) (k : SessionKey), ((∃ x ∈ s.acc.sessions, x.key = k))) ∧
    (∃ (s : State) (k : SessionKey), (∀ x ∈ s.acc.sessions, x.key ≠ k)) ∧
    (∃ (s : State), s.acc.saving = none ∧ (s.reserve saveCost).1 = true) ∧
    (∃ (s : State), s.acc.saving.isSome = true) ∧
    (∃ (s : State), s.acc.saving = none ∧ (s.reserve saveCost).1 = false) ∧
    (∃ (s : State) (v : U8), v ≠ 1) ∧
    (∃ (s : State) (b : Bool) (c : CfgCopy), s.acc.saving = some (b, c)) ∧
    (∃ (s : State), s.acc.saving = none) ∧
    (∃ (s : State), s.acc.cfgA.valid = true ∧ s.acc.cfgB.valid = true) ∧
    (∃ (s : State), s.acc.cfgA.valid = false ∧ s.acc.cfgB.valid = false) :=
   by
   refine ⟨?_, ?_, ?_, ?_, ?_, ?_, ?_, ?_, ?_, ?_, ?_, ?_, ?_, ?_, ?_, ?_, ?_, ?_, ?_, ?_⟩
   · exact ⟨{}, 0x1000, 1, [], by decide +kernel, rfl, by decide +kernel⟩
   · exact ⟨sAcc {}, (ownWrite 0x2300 (rowOf 0x2300 1) [0, 32, 0, 0] ((sAcc {}).countBytes 10 8)).2, 0x2300, 1, [0, 32, 0, 0, 0, 0, 0, 0], [0, 32, 0, 0], rowOf 0x2300 1, by decide +kernel, rowOf_eq, by decide +kernel, by decide +kernel, Prod.ext (by decide +kernel) rfl⟩
   · exact ⟨sAcc {}, (ownWrite 0x2300 (rowOf 0x2300 1) [0, 32, 0, 0] (sAcc {})).2, .ma, 0x2300, 1, [0, 32, 0, 0], rowOf 0x2300 1, by decide +kernel, by decide +kernel, rowOf_eq, by decide +kernel, by decide +kernel, by decide +kernel, Prod.ext (by decide +kernel) rfl⟩
   · exact ⟨sBoot {} .off, .ma, 0, 0, [], 0, by decide +kernel⟩
   · exact ⟨rowOf 0x2300 1, [0, 32, 0, 0], by decide +kernel, by decide +kernel⟩
   · exact ⟨sAcc {}, 1, by decide +kernel, by decide +kernel⟩
   · exact ⟨sAcc {}, 1, by decide +kernel, by decide +kernel⟩
   · exact ⟨{}, .inl rfl⟩
   · exact ⟨{}, by decide +kernel⟩
   · exact ⟨sAcc { irqPend := 6 }, 6, by decide +kernel⟩
   · exact ⟨sAcc { sessions := [⟨⟨1, 0x2010, 2⟩, true, [0]⟩] }, ⟨1, 0x2010, 2⟩, ⟨⟨⟨1, 0x2010, 2⟩, true, [0]⟩, by decide +kernel, rfl⟩⟩
   · exact ⟨{}, ⟨1, 0x2010, 2⟩, none_mem (by decide +kernel)⟩
   · exact ⟨sAcc {} .standby charged, by decide +kernel, by decide +kernel⟩
   · exact ⟨sAcc { saving := some (true, {}) }, by decide +kernel⟩
   · exact ⟨{}, by decide +kernel, by decide +kernel⟩
   · exact ⟨{}, 2, by decide +kernel⟩
   · exact ⟨sAcc { saving := some (true, {}) }, true, {}, by decide +kernel⟩
   · exact ⟨{}, by decide +kernel⟩
   · exact ⟨sAcc { cfgA := { valid := true }, cfgB := { valid := true } }, by decide +kernel, by decide +kernel⟩
   · exact ⟨{}, by decide +kernel, by decide +kernel⟩

theorem test_witness_RecorderSamplesTracesAndSnapshots :
    (∃ (s : State), s.tele.frozen = false) ∧
    (∃ (s : State), s.tele.frozen = true) ∧
    (∃ (s : State), s.tele.frozen = true ∧ s.tele.holdRefused = s.tele.holdRefusedAt) ∧
    (∃ (s : State), s.tele.frozen = true ∧ s.tele.holdRefused ≠ s.tele.holdRefusedAt) ∧
    (∃ (s u : State), s.tele.frozen = true ∧ exec .recorderUnfreeze s = .next u) ∧
    (∃ (s : State) (key : U16), s.tele.holding = [] ∧ s.tele.holdRefused = s.tele.holdRefusedAt) ∧
    (∃ (s : State) (unit : U16) (loc : U32) (st ctx : U8) (b : Nat), sampleBit unit = some b ∧ s.tele.sampEvery ≠ 0 ∧ s.tele.sampUnits.getLsbD b = true ∧ s.tele.samples.length < sampleSlots) ∧
    (∃ (s : State) (unit : U16) (loc : U32) (st ctx : U8) (b : Nat), sampleBit unit = some b ∧ s.tele.sampEvery ≠ 0 ∧ s.tele.sampUnits.getLsbD b = true ∧ sampleSlots ≤ s.tele.samples.length) ∧
    (∃ (s : State) (unit : U16) (loc : U32) (st ctx : U8), ((sampleBit unit = none ∨ s.tele.sampEvery = 0))) ∧
    (∃ (s : State), s.tele.traceStatus ≠ 1) ∧
    (∃ (s : State), s.tele.traceStatus = 1) ∧
    (∃ (s : State), s.tele.snapBusy = none) ∧
    (∃ (s : State), s.tele.snapBusy.isSome = true) ∧
    (∃ (s : State) (x : Snap), s.tele.snapBusy = some x ∧ x.size ≤ 33554432) :=
   by
   refine ⟨?_, ?_, ?_, ?_, ?_, ?_, ?_, ?_, ?_, ?_, ?_, ?_, ?_, ?_⟩
   · exact ⟨{}, by decide +kernel⟩
   · exact ⟨sTele { frozen := true }, by decide +kernel⟩
   · exact ⟨sTele { frozen := true }, by decide +kernel, by decide +kernel⟩
   · exact ⟨sTele { frozen := true, holdRefused := 1 }, by decide +kernel, by decide +kernel⟩
   · exact ⟨sTele { frozen := true }, recorderUnfreeze (sTele { frozen := true }), by decide +kernel, rfl⟩
   · exact ⟨{}, 0, by decide +kernel, by decide +kernel⟩
   · exact ⟨sTele { sampEvery := 1, sampUnits := 0x8000000 }, 0x0107, 0, 0, 0, 27, by decide +kernel, by decide +kernel, by decide +kernel, by decide +kernel⟩
   · exact ⟨sTele { sampEvery := 1, sampUnits := 0x8000000, samples := List.replicate sampleSlots sample0 }, 0x0107, 0, 0, 0, 27, by decide +kernel, by decide +kernel, by decide +kernel, Nat.le_of_eq (List.length_replicate ..).symm⟩
   · exact ⟨{}, 0x0108, 0, 0, 0, .inl (by decide +kernel)⟩
   · exact ⟨{}, by decide +kernel⟩
   · exact ⟨sTele { traceStatus := 1 }, by decide +kernel⟩
   · exact ⟨{}, by decide +kernel⟩
   · exact ⟨sTele { snapBusy := some snap0 }, by decide +kernel⟩
   · exact ⟨sTele { snapBusy := some snap0 }, snap0, by decide +kernel, by decide +kernel⟩

theorem test_witness_RecorderSamplesTracesAndSnapshots_AlarmsLeaveByClassAndAreHeld :
    (∃ (s : State) (plane : Bool), (s.tele.planes[(if plane then 1 else 0 : Fin 2)]).tokensMilli < 1000) ∧
    (∃ (s : State) (plane : Bool), (s.tele.planes[(if plane then 1 else 0 : Fin 2)]).nextOut = none) ∧
    (∃ (s : State) (plane : Bool) (i : Fin 2) (k : Nat) (a : Alarm), i = (if plane then 1 else 0) ∧ 1000 ≤ (s.tele.planes[i]).tokensMilli ∧ (s.tele.planes[i]).nextOut = some k ∧ (s.tele.planes[i]).queue[k]? = some a) ∧
    (∃ (q : PlaneQ) (k : Nat) (a : Alarm), q.nextOut = some k ∧ q.queue[k]? = some a) ∧
    (∃ (s : State), s.tele.hold = []) ∧
    (∃ (s : State) (seq : U32) (a : Alarm), s.tele.hold.find? (fun x => x.seq == seq) = some a) ∧
    (∃ (s : State) (seq : U32), (∀ a ∈ s.tele.hold, a.seq ≠ seq)) :=
   by
   refine ⟨?_, ?_, ?_, ?_, ?_, ?_, ?_⟩
   · exact ⟨sTele { planes := Vector.replicate 2 { tokensMilli := 999 } }, true, by decide +kernel⟩
   · exact ⟨{}, true, by decide +kernel⟩
   · exact ⟨sTele { planes := Vector.replicate 2 { tokensMilli := 1000, queue := [{ alarm0 with cls := 3 }, alarm0] } }, true, 1, 1, alarm0, by decide +kernel, by decide +kernel, by decide +kernel, by decide +kernel⟩
   · exact ⟨{ queue := [{ alarm0 with cls := 4 }, alarm0] }, 1, alarm0, by decide +kernel, by decide +kernel⟩
   · exact ⟨{}, by decide +kernel⟩
   · exact ⟨sTele { hold := [alarm0] }, 5, alarm0, by decide +kernel⟩
   · exact ⟨sTele { hold := [alarm0] }, 6, one_mem (by decide +kernel)⟩

theorem test_witness_CapHeatReservoirsAndOutputs :
    (∃ (s : State) (w : U16) (i : Nat), w.toNat ≤ s.pwr.capW.toNat) ∧
    (∃ (s : State) (w : U16) (i : Nat), s.pwr.capW.toNat < w.toNat) ∧
    (∃ (s : State) (w : U16), w.toNat * 100 ≤ s.pwr.capW.toNat * 95 ∧ s.pwr.belowMs < 99) ∧
    (∃ (s : State) (i : Nat), i < 44 ∧ s.throttleable i = true ∧ 100 < s.pct i) ∧
    (∃ (s : State) (i : Nat), ((s.throttleable i = false ∨ s.pct i ≤ 100))) ∧
    (∃ (s : State), s.pwr.capUnmet = false ∧ ((∀ i, s.throttleable i = true → s.pct i ≤ 100))) ∧
    (∃ (s : State) (l : List U16), l.length = 44) ∧
    (∃ (s : State) (i : Nat) (old v : U16), (s.pwr.temps[i]?).getD 0 = v ∧ 10 * s.criticalC ≤ v.toInt ∧ old.toInt < 10 * s.criticalC) ∧
    (∃ (s : State) (i : Nat) (old v : U16), (s.pwr.temps[i]?).getD 0 = v ∧ ((v.toInt < 10 * s.criticalC ∨ 10 * s.criticalC ≤ old.toInt))) ∧
    (∃ (s : State), s.ident.lx = false) ∧
    (∃ (s : State), s.ident.lx = true) ∧
    (∃ (s : State) (i : Fin 2) (v : U32), ((v.toNat < 1000000 ∨ 8000000 < v.toNat))) ∧
    (∃ (s : State) (i : Fin 2) (v : U32), 1000000 ≤ v.toNat ∧ v.toNat ≤ 8000000 ∧ v.toNat < (s.pwr.hu[i]).usable.toNat) ∧
    (∃ (s : State) (i : Fin 2) (v : U32), 1000000 ≤ v.toNat ∧ v.toNat ≤ 8000000 ∧ (s.pwr.hu[i]).usable.toNat < v.toNat) ∧
    (∃ (s : State), s.job.dev ≠ .boot ∧ s.job.dev ≠ .off ∧ (s.pwr.hu[(0 : Fin 2)]).status = 1) ∧
    (∃ (s : State), (s.pwr.hu[(0 : Fin 2)]).status = 1) ∧
    (∃ (s : State) (i : Fin 2) (c : ResCause), (s.pwr.hu[i]).inService = true) ∧
    (∃ (s : State) (i : Fin 2) (c : ResCause), (s.pwr.hu[i]).inService = false) ∧
    (∃ (s : State) (cost : Nat), s.pwr.standingOk = true ∧ s.pwr.granting = true ∧ s.pwr.covers cost = true ∧ s.pwr.reservations.length < 16) ∧
    (∃ (s : State) (cost : Nat), ((s.pwr.granting = false ∨ s.pwr.covers cost = false ∨ 16 ≤ s.pwr.reservations.length))) ∧
    (∃ (s : State) (cost : U32), cost ∈ s.pwr.reservations) ∧
    (∃ (s : State) (kind : U8) (cost : U32) (n : Nat), s.ledgerBalanced = true) ∧
    (∃ (s : State) (l : List U32), s.ledgerBalanced = false) ∧
    (∃ (s : State) (l : List U32) (i : Fin 2), s.ledgerBalanced = true ∧ (s.pwr.hu[i]).fitted = true ∧ (s.pwr.hu[i]).balanced (s.measuredOf l i) = false) ∧
    (∃ (s : State) (l : List U32), s.ledgerBalanced = true ∧ ((∀ i : Fin 2, (s.pwr.hu[i]).fitted = true → (s.pwr.hu[i]).balanced (s.measuredOf l i) = true))) ∧
    (∃ (s : State) (pin : U8), pin.toNat < 40 ∧ pin ∉ s.pwr.latched) ∧
    (∃ (s : State) (pin : U8), ((40 ≤ pin.toNat ∨ pin ∈ s.pwr.latched))) :=
   by
   refine ⟨?_, ?_, ?_, ?_, ?_, ?_, ?_, ?_, ?_, ?_, ?_, ?_, ?_, ?_, ?_, ?_, ?_, ?_, ?_, ?_, ?_, ?_, ?_, ?_, ?_, ?_, ?_⟩
   · exact ⟨{}, 560, 0, by decide +kernel⟩
   · exact ⟨{}, 561, 0, by decide +kernel⟩
   · exact ⟨{}, 532, by decide +kernel, by decide +kernel⟩
   · exact ⟨{}, 35, by decide +kernel, by decide +kernel, by decide +kernel⟩
   · exact ⟨{}, 36, .inl (by decide +kernel)⟩
   · exact ⟨sPwr { islandPct := Vector.replicate 44 100 }, by decide +kernel, fun i h => (by decide +kernel : ∀ i : Fin 36, (sPwr { islandPct := Vector.replicate 44 100 }).pct i ≤ 100) ⟨i, throttled_island h⟩⟩
   · exact ⟨{}, List.replicate 44 0, by decide +kernel⟩
   · exact ⟨sPwr { temps := Vector.replicate 44 1050 }, 43, 1049, 1050, by decide +kernel, by decide +kernel, by decide +kernel⟩
   · exact ⟨sPwr { temps := Vector.replicate 44 1049 }, 43, 1050, 1049, by decide +kernel, .inl (by decide +kernel)⟩
   · exact ⟨{}, by decide +kernel⟩
   · exact ⟨sPwr {} .standby true, by decide +kernel⟩
   · exact ⟨{}, 1, 999999, .inl (by decide +kernel)⟩
   · exact ⟨sPwr charged, 1, 1000000, by decide +kernel, by decide +kernel, by decide +kernel⟩
   · exact ⟨sPwr {}, 1, 8000000, by decide +kernel, by decide +kernel, by decide +kernel⟩
   · exact ⟨sPwr {}, by decide +kernel, by decide +kernel, by decide +kernel⟩
   · exact ⟨{}, by decide +kernel⟩
   · exact ⟨{}, 1, .ledger, by decide +kernel⟩
   · exact ⟨sPwr { hu := Vector.replicate 2 { status := 3 } }, 1, .ledger, by decide +kernel⟩
   · exact ⟨sPwr charged, 209716, by decide +kernel, by decide +kernel, by decide +kernel, by decide +kernel⟩
   · exact ⟨{}, 0, .inr (.inl (by decide +kernel))⟩
   · exact ⟨sPwr { reservations := [5] }, 5, by decide +kernel⟩
   · exact ⟨sPwr { granted := 1, reservations := [5] }, 0, 5, 0, by decide +kernel⟩
   · exact ⟨sPwr { granted := 1 }, [], by decide +kernel⟩
   · exact ⟨sPwr { hu := Vector.replicate 2 { lastUsable := 700001 } }, [50000], 0, by decide +kernel, by decide +kernel, by decide +kernel⟩
   · exact ⟨sPwr { hu := Vector.replicate 2 { lastUsable := 650000 } }, [], by decide +kernel, by decide +kernel⟩
   · exact ⟨{}, 39, by decide +kernel, by decide +kernel⟩
   · exact ⟨{}, 40, .inl (by decide +kernel)⟩

theorem test_witness_SidebandSignalsOfTheTrayLinks :
    (∃ (s : State) (n : Fin 8), s.pwr.accPwrgd.getLsbD n.val = true ∧ s.pwr.accRelease.getLsbD n.val = true) ∧
    (∃ (s : State) (n : Fin 8), s.pwr.accPwrgd.getLsbD n.val = true ∧ s.pwr.accRelease.getLsbD n.val = false) ∧
    (∃ (s : State) (n : Fin 8), s.pwr.accPwrgd.getLsbD n.val = false) ∧
    (∃ (s : State) (n : Fin 8), trayPort n ∈ s.pwr.alertWait) ∧
    (∃ (s : State) (n : Fin 8), trayPort n ∉ s.pwr.alertWait) :=
   by
   refine ⟨?_, ?_, ?_, ?_, ?_⟩
   · exact ⟨sPwr { accPwrgd := 0x80, accRelease := 0x80 }, 7, by decide +kernel, by decide +kernel⟩
   · exact ⟨sPwr { accPwrgd := 0x80 }, 7, by decide +kernel, by decide +kernel⟩
   · exact ⟨{}, 7, by decide +kernel⟩
   · exact ⟨sPwr { alertWait := [7] }, 7, by decide +kernel⟩
   · exact ⟨{}, 7, by decide +kernel⟩

theorem test_witness_ImagesKeysReportsAndPackagesAreChecked :
    (∃ (s : State) (b : List Byte), s.job.dev ≠ .standby) ∧
    (∃ (s : State) (b : List Byte), s.job.dev = .standby) ∧
    (∃ (s : State) (b : List Byte), (((hdrRollback (b.take 512)).toNat < s.boot.floor.toNat ∨ 64 < (hdrRollback (b.take 512)).toNat ∨ sha512 (b.drop 512) ≠ sliceZ (b.take 512) 32 64 ∨ s.hdrSigned (b.take 512) = false))) ∧
    (∃ (s : State) (b : Bool) (x : ImageSlot), s.boot.staging = some (b, x)) ∧
    (∃ (s : State), s.boot.staging = none) ∧
    (∃ (s : State) (l : List Byte), s.activateOk l = true ∧ byteAt l 1 = 0) ∧
    (∃ (s : State) (l : List Byte), s.activateOk l = true ∧ byteAt l 1 = 1) ∧
    (∃ (s : State) (l : List Byte), s.activateOk l = true ∧ byteAt l 1 = 2) ∧
    (∃ (s : State) (l : List Byte), s.activateOk l = false) ∧
    (∃ (s : State) (l : List Byte) (key : U16) (r i : Nat), l.length = 2304 ∧ keyFault l = some (r, i)) ∧
    (∃ (s : State) (l : List Byte) (key : U16), l.length = 2304 ∧ keyFault l = none) ∧
    (∃ (s : State) (l : List Byte) (key : U16), l.length ≠ 2304) ∧
    (∃ (l : List Byte), (∀ k ∈ (entriesOf 144 l).map KeyEntry.ofBytes, k.rights.getLsbD 2 = false)) ∧
    (∃ (s : State) (n : List Byte), n.length = 32) ∧
    (∃ (s : State) (n : List Byte), n.length ≠ 32) ∧
    (∃ (s : State) (b : List Byte), (hdrVersion (b.take 512)).toNat < s.boot.pkgVersion.toNat) ∧
    (∃ (s : State) (h : List Byte) (es : List (U16 × U8 × List Byte)), s.boot.package = some (h, es)) ∧
    (∃ (s : State) (l : List Byte), s.removalOk l = false) ∧
    (∃ (s : State) (path : Path) (idx : U16) (sub : U8) (r : Row), objectAt idx sub = some r ∧ s.inPackage idx sub = true) :=
   by
   refine ⟨?_, ?_, ?_, ?_, ?_, ?_, ?_, ?_, ?_, ?_, ?_, ?_, ?_, ?_, ?_, ?_, ?_, ?_, ?_⟩
   · exact ⟨{}, [], by decide +kernel⟩
   · exact ⟨sBoot {}, [], by decide +kernel⟩
   · exact ⟨sBoot { floor := 1 }, [], .inl (by decide +kernel)⟩
   · exact ⟨sBoot { staging := some (true, {}) }, true, {}, by decide +kernel⟩
   · exact ⟨{}, by decide +kernel⟩
   · exact ⟨sBoot { imageB := { state := 2 } }, [1, 0, 0, 0], by decide +kernel, by decide +kernel⟩
   · exact ⟨sBoot { imageB := { state := 2 } }, [1, 1, 0, 0], by decide +kernel, by decide +kernel⟩
   · exact ⟨sBoot { imageB := { state := 2 } }, [1, 2, 0, 0], by decide +kernel, by decide +kernel⟩
   · exact ⟨{}, [0, 0, 0, 0], by decide +kernel⟩
   · exact ⟨{}, List.replicate 2304 0, 0, 1, 0xFF, by decide +kernel, by decide +kernel⟩
   · exact ⟨{}, keyList, 0, by decide +kernel, by decide +kernel⟩
   · exact ⟨{}, [], 0, by decide +kernel⟩
   · exact ⟨List.replicate 2304 0, all_mem (by decide +kernel)⟩
   · exact ⟨{}, List.replicate 32 0, by decide +kernel⟩
   · exact ⟨{}, [], by decide +kernel⟩
   · exact ⟨sBoot { pkgVersion := 1 }, [], by decide +kernel⟩
   · exact ⟨sBoot { package := some ([], []) }, [], [], by decide +kernel⟩
   · exact ⟨{}, [], by decide +kernel⟩
   · exact ⟨sBoot { package := some ([], [(0x3000, 7, [])]) }, .ring, 0x3000, 7, rowOf 0x3000 7, rowOf_eq, by decide +kernel⟩

theorem test_witness_ExerciserRunsAndInjections :
    (∃ (s : State), ((s.job.dev ≠ .standby ∨ s.heldTags ≠ []))) ∧
    (∃ (s : State), s.job.dev = .standby ∧ s.heldTags = []) ∧
    (∃ (s : State), s.job.dev = .exerciser) ∧
    (∃ (s : State), s.job.dev ≠ .exerciser) ∧
    (∃ (s : State), s.runBad = true) ∧
    (∃ (s : State), s.runBad = false) ∧
    (∃ (s : State), ((s.job.dev ≠ .exerciser ∨ s.exer.status = 2))) ∧
    (∃ (s : State) (p : Port), (s.exPort p).mode ≠ 0 ∧ (s.port p).st ≠ .active) ∧
    (∃ (s : State) (p : Port), 8 ≤ p.val ∧ (s.exPort p).mode = 3) ∧
    (∃ (s : State), s.exer.status = 2 ∧ s.neverResent = []) ∧
    (∃ (s : State), s.exer.status ≠ 2) ∧
    (∃ (s : State), s.exer.lengthMs = 0) ∧
    (∃ (s : State), s.exer.lengthMs ≠ 0) ∧
    (∃ (s : State) (b : List Byte) (p : Port), (byteAt b 0).toNat = p.val ∧ s.exer.status = 2 ∧ s.job.dev = .exerciser ∧ (s.exPort p).mode ≠ 0 ∧ 1 ≤ (byteAt b 1).toNat ∧ (byteAt b 1).toNat ≤ 9 ∧ byteAt b 3 ≠ 0 ∧ (s.exPort p).injections.length < 16) ∧
    (∃ (s : State) (b : List Byte), ((24 ≤ (byteAt b 0).toNat ∨ s.exer.status ≠ 2 ∨ byteAt b 1 = 0 ∨ 9 < (byteAt b 1).toNat ∨ byteAt b 3 = 0))) ∧
    (∃ (s : State) (p : Port) (code : U8), code ∉ (s.exPort p).waitReact) ∧
    (∃ (s : State) (p : Port) (code : U8), code ∈ (s.exPort p).waitReact ∧ ((code = 6 ∨ code = 8 ∨ code = 9))) ∧
    (∃ (s : State) (p : Port) (code : U8), code ∈ (s.exPort p).waitReact ∧ code ≠ 6 ∧ code ≠ 8 ∧ code ≠ 9) :=
   by
   refine ⟨?_, ?_, ?_, ?_, ?_, ?_, ?_, ?_, ?_, ?_, ?_, ?_, ?_, ?_, ?_, ?_, ?_, ?_⟩
   · exact ⟨{}, .inl (by decide +kernel)⟩
   · exact ⟨sBoot {}, by decide +kernel, by decide +kernel⟩
   · exact ⟨sEx {}, by decide +kernel⟩
   · exact ⟨{}, by decide +kernel⟩
   · exact ⟨{}, by decide +kernel⟩
   · exact ⟨sEx {}, by decide +kernel⟩
   · exact ⟨{}, .inl (by decide +kernel)⟩
   · exact ⟨sEx { ports := (Vector.replicate 24 {}).set 7 { mode := 1 } }, 7, by decide +kernel, by decide +kernel⟩
   · exact ⟨sEx { ports := (Vector.replicate 24 {}).set 8 { mode := 3 } }, 8, by decide +kernel, by decide +kernel⟩
   · exact ⟨sEx { status := 2 }, by decide +kernel, by decide +kernel⟩
   · exact ⟨{}, by decide +kernel⟩
   · exact ⟨sEx { lengthMs := 0 }, by decide +kernel⟩
   · exact ⟨{}, by decide +kernel⟩
   · exact ⟨sExer 3 {} q8, [3, 9, 0, 1], 3, by decide +kernel, by decide +kernel, by decide +kernel, by decide +kernel, by decide +kernel, by decide +kernel, by decide +kernel, by decide +kernel⟩
   · exact ⟨{}, [24], .inl (by decide +kernel)⟩
   · exact ⟨{}, 3, 6, by decide +kernel⟩
   · exact ⟨sEx { ports := (Vector.replicate 24 {}).set 3 { waitReact := [9] } }, 3, 9, by decide +kernel, .inr (.inr (by decide +kernel))⟩
   · exact ⟨sEx { ports := (Vector.replicate 24 {}).set 3 { waitReact := [7] } }, 3, 7, by decide +kernel, by decide +kernel, by decide +kernel, by decide +kernel⟩

theorem test_witness_ExerciserRunsAndInjections_ScriptActionsRunInOrder :
    (∃ (s : State) (e : ScriptEntry), s.exer.status = 2 ∧ s.job.dev = .exerciser ∧ s.exer.expecting = none ∧ s.exer.script[s.exer.pos.toNat]? = some e) ∧
    (∃ (s : State) (a : U8), ((s.exer.status ≠ 2 ∨ s.job.dev ≠ .exerciser ∨ s.exer.expecting.isSome = true))) ∧
    (∃ (s : State), s.scriptOps 1 = none) ∧
    (∃ (s : State), s.scriptOps 2 = none) ∧
    (∃ (s : State), s.scriptOps 3 = none) ∧
    (∃ (s : State), s.scriptOps 4 = none) ∧
    (∃ (s : State), s.scriptOps 5 = none) ∧
    (∃ (s : State), s.scriptOps 6 = none) ∧
    (∃ (s : State), s.scriptOps 7 = none) ∧
    (∃ (s : State), s.scriptOps 8 = none) ∧
    (∃ (s : State), s.scriptOps 9 = none) ∧
    (∃ (s : State) (ops : List Byte) (p : Port), s.scriptOps 1 = some ops ∧ s.peerPorts = [p]) ∧
    (∃ (s : State) (ops : List Byte), s.scriptOps 2 = some ops) ∧
    (∃ (s : State) (ops : List Byte) (p : Port), s.scriptOps 3 = some ops ∧ s.peerPorts = [p] ∧ field32 ops 0 = 1) ∧
    (∃ (s : State) (ops : List Byte), s.scriptOps 4 = some ops) ∧
    (∃ (s : State) (ops : List Byte), s.scriptOps 5 = some ops) ∧
    (∃ (s : State) (ops : List Byte), s.scriptOps 6 = some ops ∧ s.exer.held = []) ∧
    (∃ (s : State) (ops : List Byte) (p : Port), s.scriptOps 7 = some ops ∧ s.peerPorts = [p]) ∧
    (∃ (s : State) (ops : List Byte) (p : Port), s.scriptOps 8 = some ops ∧ s.peerPorts = [p]) ∧
    (∃ (s : State) (ops : List Byte), s.scriptOps 9 = some ops) ∧
    (∃ (s : State), s.exer.expecting = none) ∧
    (∃ (s : State), s.exer.expecting.isSome = true) ∧
    (∃ (s : State) (p : Port) (hdr : List Byte), s.exerRun p = true ∧ (s.exPort p).counts[16] = 0) :=
   by
   refine ⟨?_, ?_, ?_, ?_, ?_, ?_, ?_, ?_, ?_, ?_, ?_, ?_, ?_, ?_, ?_, ?_, ?_, ?_, ?_, ?_, ?_, ?_, ?_⟩
   · exact ⟨sScript 9, ⟨9, 0, [1, 0, 0, 0]⟩, by decide +kernel, by decide +kernel, by decide +kernel, by decide +kernel⟩
   · exact ⟨{}, 1, .inl (by decide +kernel)⟩
   · exact ⟨{}, by decide +kernel⟩
   · exact ⟨{}, by decide +kernel⟩
   · exact ⟨{}, by decide +kernel⟩
   · exact ⟨{}, by decide +kernel⟩
   · exact ⟨{}, by decide +kernel⟩
   · exact ⟨{}, by decide +kernel⟩
   · exact ⟨{}, by decide +kernel⟩
   · exact ⟨{}, by decide +kernel⟩
   · exact ⟨{}, by decide +kernel⟩
   · exact ⟨sScript 1, [1, 0, 0, 0], 7, by decide +kernel, by decide +kernel⟩
   · exact ⟨sScript 2, [1, 0, 0, 0], by decide +kernel⟩
   · exact ⟨sScript 3, [1, 0, 0, 0], 7, by decide +kernel, by decide +kernel, by decide +kernel⟩
   · exact ⟨sScript 4, [1, 0, 0, 0], by decide +kernel⟩
   · exact ⟨sScript 5, [1, 0, 0, 0], by decide +kernel⟩
   · exact ⟨sScript 6, [1, 0, 0, 0], by decide +kernel, by decide +kernel⟩
   · exact ⟨sScript 7, [1, 0, 0, 0], 7, by decide +kernel, by decide +kernel⟩
   · exact ⟨sScript 8, [1, 0, 0, 0], 7, by decide +kernel, by decide +kernel⟩
   · exact ⟨sScript 9, [1, 0, 0, 0], by decide +kernel⟩
   · exact ⟨{}, by decide +kernel⟩
   · exact ⟨sEx { expecting := some (1, 1) }, by decide +kernel⟩
   · exact ⟨sExer 3 {} q8, 3, [], by decide +kernel, by decide +kernel⟩

theorem test_witness_EmptyQueueStepIsOneMillisecond :
    (∃ (s : State), s.pending = [] ∧ s.job.dev ≠ .off) ∧
    (∃ (s : State), s.pending = [] ∧ s.job.dev = .off) :=
   by
   refine ⟨?_, ?_⟩
   · exact ⟨{}, by decide +kernel, by decide +kernel⟩
   · exact ⟨sBoot {} .off, by decide +kernel, by decide +kernel⟩

theorem test_witness_EveryStepKeepsTheMemoryForm :
    (∃ (s t : State), s.memOk ∧ step s = .next t) :=
   ⟨{}, State.tick {}, ⟨rfl, rfl⟩, rfl⟩

theorem test_witness_RollbackFloorAndIdentityLast :
    (∃ (s t : State), step s = .next t) :=
   ⟨{}, State.tick {}, rfl⟩

theorem test_witness_RecorderTakesAnEventInOrder :
    (∃ (s : State) (e : Event), e.cls = 3 ∧ s.tele.forwarded e.code = none ∧ s.tele.frozen = false ∧ s.tele.full = none ∧ findRepeat s.tele.repeatMs s.time.opMs e 256 s.tele.slots = none ∧ s.tele.slots.length + 1 < recorderSlots) ∧
    (∃ (s : State) (e : Event) (i : Nat), e.cls = 3 ∧ s.tele.forwarded e.code = none ∧ s.tele.frozen = false ∧ findRepeat s.tele.repeatMs s.time.opMs e 256 s.tele.slots = some i) ∧
    (∃ (s : State) (e : Event) (f : FullRec), e.cls = 3 ∧ s.tele.forwarded e.code = none ∧ s.tele.frozen = false ∧ s.tele.full = some f ∧ findRepeat s.tele.repeatMs s.time.opMs e 256 s.tele.slots = none) ∧
    (∃ (s : State) (e : Event), e.cls = 3 ∧ s.tele.forwarded e.code = none ∧ s.tele.frozen = true ∧ findRepeat s.tele.repeatMs s.time.opMs e s.tele.holding.length s.tele.holding = none) ∧
    (∃ (s : State) (e : Event), e.cls.toNat ≤ 1) :=
   by
   refine ⟨?_, ?_, ?_, ?_, ?_⟩
   · exact ⟨{}, ev3000, by decide +kernel, by decide +kernel, by decide +kernel, by decide +kernel, by decide +kernel, by decide +kernel⟩
   · exact ⟨sTele { slots := [rec3000] }, ev3000, 0, by decide +kernel, by decide +kernel, by decide +kernel, by decide +kernel⟩
   · exact ⟨sTele { full := some { rec_ := rec3000, counts := [], lastMs := 0 } }, ev3000, { rec_ := rec3000, counts := [], lastMs := 0 }, by decide +kernel, by decide +kernel, by decide +kernel, by decide +kernel, by decide +kernel⟩
   · exact ⟨sTele { frozen := true }, ev3000, by decide +kernel, by decide +kernel, by decide +kernel, by decide +kernel⟩
   · exact ⟨{}, ⟨0x5000, 0, 1, []⟩, by decide +kernel⟩

theorem test_witness_MemoryWritesReachTheirBytesOnly :
    (∃ (s : State) (t : Tier) (off : Nat) (l : List Byte) (i : Nat), s.memOk ∧ (∀ sec, s.uncorrectable t sec = false) ∧ i < l.length) ∧
    (∃ (s : State) (t : Tier) (off a : Nat) (l : List Byte), s.memOk ∧ ((obNoneBad s ∨ off % 64 = 0 ∧ l.length % 64 = 0)) ∧ ((a < off ∨ off + l.length ≤ a))) ∧
    (∃ (s : State) (t u : Tier) (off a : Nat) (l : List Byte), u ≠ t ∧ ((obNoneBad s ∨ off % 64 = 0 ∧ l.length % 64 = 0))) ∧
    (∃ (s : State) (t u : Tier) (off a : Nat) (l : List Byte), 0 < l.length ∧ off % 64 + l.length < 64 ∧ s.uncorrectable t (off / 64 * 64) = true) ∧
    (∃ (s : State) (t u : Tier) (off a : Nat) (l : List Byte), 0 < l.length ∧ off % 64 + l.length < 64 ∧ s.uncorrectable t (off / 64 * 64) = true ∧ s.blockOfSector (off / 64 * 64) = none ∧ (∀ b ∈ s.mem.bad, b.2.1.toNat = off / 64 * 64)) :=
   by
   refine ⟨?_, ?_, ?_, ?_, ?_⟩
   · exact ⟨{}, .h, 0x3F, [1, 2], 1, ⟨rfl, rfl⟩, reset_readable _, by decide +kernel⟩
   · exact ⟨{}, .h, 0x3F, 0x41, [1, 2], ⟨rfl, rfl⟩, .inl ⟨none_mem rfl, reset_readable⟩, .inr (by decide +kernel)⟩
   · exact ⟨{}, .h, .l, 0x3F, 0x3F, [1, 2], by decide +kernel, .inl ⟨none_mem rfl, reset_readable⟩⟩
   · exact ⟨{ mem := { poisonH := [0x40] } }, .h, .l, 0x40, 0, List.replicate 63 1, by decide +kernel, by decide +kernel, by decide +kernel⟩
   · exact ⟨{ mem := { poisonH := [0x2000040] } }, .h, .h, 0x2000040, 0x41, List.replicate 63 1, by decide +kernel, by decide +kernel, by decide +kernel, by decide +kernel, none_mem rfl⟩

theorem test_witness_MalformedMessagesAreDiscarded :
    (∃ (path : Path) (bytes : List Byte) (s : State), ((field16 bytes 0 ≠ 0x4B56 ∨ byteAt bytes 2 ≠ 1 ∨ crc32c (unchecked (bytes.take (msgLength bytes))) ≠ field32 (bytes.take (msgLength bytes)) 40))) ∧
    (∃ (bytes : List Byte) (s : State), obRingIdle s ∧ s.serverRuns = true ∧ s.acc.admits (bytes.take 16) = true ∧ ((field16 (bytes.drop 16) 0 ≠ 0x4B56 ∨ byteAt (bytes.drop 16) 2 ≠ 1 ∨ crc32c (unchecked ((bytes.drop 16).take (msgLength (bytes.drop 16)))) ≠ field32 ((bytes.drop 16).take (msgLength (bytes.drop 16))) 40))) :=
   by
   refine ⟨?_, ?_⟩
   · exact ⟨.window, [], {}, .inl (by decide +kernel)⟩
   · exact ⟨List.replicate 16 0, {}, rfl, by decide +kernel, by decide +kernel, .inl (by decide +kernel)⟩

theorem test_witness_SecondEdgesOutOfRangeAreRejected :
    (∃ (s : State) (sec : U64) (last : Nat), s.pwr.ppsLast = some last ∧ ((s.time.now - last < 900 ∨ 1100 < s.time.now - last))) ∧
    (∃ (s : State) (sec : U64), s.pwr.ppsLast = none) ∧
    (∃ (s : State) (sec : U64) (last : Nat), s.pwr.ppsLast = some last ∧ 900 ≤ s.time.now - last ∧ s.time.now - last ≤ 1100) ∧
    (∃ (s : State) (sec : U64), s.pwr.ppsLast = none ∧ s.acc.todPlane = 0) ∧
    (∃ (s : State) (sec : U64), s.pwr.ppsLast = none ∧ s.acc.todPlane ≠ 0 ∧ s.tele.kinds.getLsbD 5 = true ∧ s.tele.traceStatus = 1 ∧ s.tele.trace.length < traceCapacity) :=
   by
   refine ⟨?_, ?_, ?_, ?_, ?_⟩
   · exact ⟨{ time := { now := 899 }, pwr := { ppsLast := some 0 } }, 0, 0, by decide +kernel, .inl (by decide +kernel)⟩
   · exact ⟨{}, 0, by decide +kernel⟩
   · exact ⟨{ time := { now := 1100 }, pwr := { ppsLast := some 0 } }, 0, 0, by decide +kernel, by decide +kernel, by decide +kernel⟩
   · exact ⟨{}, 0, by decide +kernel, by decide +kernel⟩
   · exact ⟨{ acc := { todPlane := 1 }, tele := { kinds := 0x20, traceStatus := 1 } }, 0, by decide +kernel, by decide +kernel, by decide +kernel, by decide +kernel, by decide +kernel⟩

theorem test_witness_RecorderClearEmptiesEverySlot :
    (∃ (s u : State) (key : U16), u = State.record (ev3 0x8004 unitRec (le16 key ++ leBytes 4 s.tele.slotsUsed)) { s with tele := { s.tele with frozen := false, holding := [], slots := [], full := none } }) :=
   ⟨{}, State.record (ev3 0x8004 unitRec (le16 0 ++ leBytes 4 ({} : State).tele.slotsUsed)) { ({} : State) with tele := { ({} : State).tele with frozen := false, holding := [], slots := [], full := none } }, 0, rfl⟩

theorem test_witness_IsolatedDeviceFencesItself :
    (∃ (s : State) (p : Port), s.job.dev = .run ∧ p ∈ s.fabricJobPorts ∧ s.exempt p = false) ∧
    (∃ (s : State), (∀ p ∈ s.fabricJobPorts, s.exempt p = true)) ∧
    (∃ (s : State), s.job.dev ≠ .run) :=
   by
   refine ⟨?_, ?_, ?_⟩
   · exact ⟨sWired, 8, by decide +kernel, by decide +kernel, by decide +kernel⟩
   · exact ⟨sJob { dev := .run }, none_mem (by decide +kernel)⟩
   · exact ⟨{}, by decide +kernel⟩

theorem test_witness_VectorWordsSpellTheirCommands :
    (∃ (c : Core) (w : U32), wordOk w = false) ∧
    (∃ (c : Core) (w : U32), wordOk w = true) ∧
    (∃ (c : Core) (a b : BitVec 5) (k : BitVec 3) (off : BitVec 13), k.toNat ≤ 5) ∧
    (∃ (c : Core) (x a : BitVec 5) (size : BitVec 3) (g : Bool) (off : BitVec 12), size.toNat ≤ 6) ∧
    (∃ (c : Core) (v a b : BitVec 5) (fmt : BitVec 4) (g : Bool) (pg : BitVec 3), fmt.toNat ∈ [2, 3, 4, 5, 6, 10, 11]) :=
   by
   refine ⟨?_, ?_, ?_, ?_, ?_⟩
   · exact ⟨0, 0x1C000000, by decide +kernel⟩
   · exact ⟨0, 0, by decide +kernel⟩
   · exact ⟨0, 1, 2, 5, 0x1FFF, by decide +kernel⟩
   · exact ⟨0, 1, 2, 6, true, 0xFFF, by decide +kernel⟩
   · exact ⟨0, 1, 2, 3, 11, true, 7, by decide +kernel⟩


theorem test_witness_EveryCommandStaysWithinItsParts :
    ∃ (c : Instr) (s t : State) (p : Part), exec c s = .next t ∧ p ∉ partsOf c :=
  ⟨.recorderFreeze, {}, recorderFreeze {}, .links, rfl, by decide⟩

end Sys2Proof.Tests
end

section
/-! SUPPORT. How an alarm of class 0 or 1 reaches the planes (R449, R453), what a device that enters FENCED keeps (R11), and the
isolation timeout (R403). -/
namespace Sys2Proof.Machine
open Sys2Proof

/-! ## The planes under the recorder's operations -/

@[simp] theorem TeleState.planes_countBytes (k : Fin 14) (n : Nat) (t : TeleState) : (t.countBytes k n).planes = t.planes := rfl

@[simp] theorem TeleState.planes_append (cyc : U32) (op : U64) (r : EventRec) (t : TeleState) :
    (t.append cyc op r).1.planes = t.planes := by
  unfold TeleState.append
  split
  · rfl
  · dsimp only
    split <;> rfl

@[simp] theorem TeleState.planes_recordPlain (cyc : U32) (op : U64) (e : Event) (t : TeleState) :
    (t.recordPlain cyc op e).1.planes = t.planes := by
  unfold TeleState.recordPlain
  split
  · split
    · rfl
    · split <;> rfl
  · split
    · rfl
    · exact TeleState.planes_append ..

@[simp] theorem TeleState.planes_holdAlarm (op : U64) (a : Alarm) (t : TeleState) : (t.holdAlarm op a).1.planes = t.planes := by
  unfold TeleState.holdAlarm
  dsimp only
  split <;> rfl

/-! ## The outbox of a plane -/

/-- A message that is sent on a plane stands last in that plane's outbox; the other plane's outbox stays. -/
theorem TeleState.outbox_planeSend (i j : Fin 2) (resent : Bool) (a : Alarm) (t : TeleState) :
    ((t.planeSend i resent a).planes[j]).outbox =
      if i = j then t.planes[j].outbox ++ [(resent, a)] else t.planes[j].outbox := by
  simp only [TeleState.planeSend, TeleState.planes_countBytes, Fin.getElem_fin, Vector.getElem_set, Fin.val_inj]
  split
  case isTrue h => subst h; rfl
  case isFalse => rfl

/-- A message that is sent on one plane and then on the other stands in the outbox of each. -/
theorem TeleState.mem_outbox_planeSend_both (resent : Bool) (a : Alarm) (t : TeleState) (i : Fin 2) :
    (resent, a) ∈ (((t.planeSend 0 resent a).planeSend 1 resent a).planes[i]).outbox := by
  rw [TeleState.outbox_planeSend, TeleState.outbox_planeSend]
  match i with
  | 0 => simp
  | 1 => simp

/-- An alarm of class 0 or 1 is sent on plane 0 and on plane 1, after the hold has taken it; the event 0x8006 of a filled hold
changes no plane (R449, R453). -/
theorem TeleState.planes_alarm {e : Event} (h : e.cls.toNat ≤ 1) (now : Nat) (cyc : U32) (op : U64) (t : TeleState) :
    ∃ held : TeleState, held.planes = t.planes ∧ (t.alarm now cyc op e).planes =
      ((held.planeSend 0 false (alarmOf t.alarmSeq op e)).planeSend 1 false (alarmOf t.alarmSeq op e)).planes := by
  refine ⟨_, TeleState.planes_holdAlarm op (alarmOf t.alarmSeq op e) { t with alarmSeq := t.alarmSeq + 1 }, ?_⟩
  unfold TeleState.alarm
  dsimp only
  rw [if_pos h]
  split
  · exact TeleState.planes_recordPlain ..
  · rfl

/-- An event of class 0 or 1 raises its alarm after the recorder and the trace have taken it, whatever the forwarding map
says (R451). -/
theorem State.recordTele_raises_alarm {e : Event} (h : e.cls.toNat ≤ 1) (s : State) :
    ∃ t : TeleState, s.recordTele e = t.alarm s.time.now s.time.cycles s.time.opMs e := by
  have h3 : (e.cls == 3) = false := beq_false_of_ne fun k => absurd (k ▸ h) (by decide)
  unfold State.recordTele
  simp only [bne, h3, Bool.not_false, Bool.true_or, Bool.false_eq_true, if_true, if_false]
  exact ⟨_, rfl⟩

/-- The alarm of a recorded event of class 0 or 1 leaves on both planes at once, under one alarm sequence. -/
theorem State.record_leaves_on_both_planes {e : Event} (h : e.cls.toNat ≤ 1) (s : State) :
    ∃ seq, ∀ i : Fin 2, (false, alarmOf seq s.time.opMs e) ∈ ((s.record e).tele.planes[i]).outbox := by
  obtain ⟨t, ht⟩ := State.recordTele_raises_alarm h s
  obtain ⟨held, -, hplanes⟩ := TeleState.planes_alarm h s.time.now s.time.cycles s.time.opMs t
  refine ⟨t.alarmSeq, fun i => ?_⟩
  rw [State.record_tele, ht, hplanes]
  exact TeleState.mem_outbox_planeSend_both ..

/-! ## FENCED -/

/-- Out of every state but SAFE the device enters the state given. -/
theorem State.job_setDev {s : State} (h : s.job.dev ≠ .safe) (d : DevState) : (s.setDev d).job = { s.job with dev := d } := by
  unfold State.setDev
  split
  case isTrue hd =>
    obtain rfl := hd.resolve_right h
    rfl
  case isFalse => simp

/-- Out of every state but SAFE the device enters FENCED, and keeps the position and epoch it may not join again (R11). -/
theorem State.job_enterFenced {s : State} (h : s.job.dev ≠ .safe) :
    s.enterFenced.job = { s.job with dev := .fenced, fencedAs := some (s.job.jt, s.job.epoch, s.adopted) } :=
  State.job_setDev (s := { s with job := { s.job with fencedAs := some (s.job.jt, s.job.epoch, s.adopted) } }) h .fenced

@[simp] theorem State.tele_enterFenced (s : State) : s.enterFenced.tele = s.tele := by
  simp [State.enterFenced]

@[simp] theorem State.adopted_record (e : Event) (s : State) : (s.record e).adopted = s.adopted := by
  simp [State.adopted, State.own]

/-! ## The isolation timeout -/

theorem exec_isolationTimeout (s : State) : exec .isolationTimeout s = .next (isolationTimeout s) := rfl

theorem isolationTimeout_of_isolated {s : State} {p : Port} (hrun : s.job.dev = .run) (hp : p ∈ s.fabricJobPorts)
    (hex : s.exempt p = false) : isolationTimeout s = (s.record (ev1 0x4005 unitFault [])).enterFenced :=
  if_pos ⟨hrun, List.any_eq_true.2 ⟨p, hp, by simp [hex]⟩⟩

theorem isolationTimeout_of_exempt {s : State} (h : ∀ p ∈ s.fabricJobPorts, s.exempt p = true) : isolationTimeout s = s :=
  if_neg fun ⟨_, hany⟩ => by
    obtain ⟨p, hp, hex⟩ := List.any_eq_true.1 hany
    simp [h p hp] at hex

theorem isolationTimeout_of_not_run {s : State} (h : s.job.dev ≠ .run) : isolationTimeout s = s :=
  if_neg fun ⟨hrun, _⟩ => h hrun

/-- Settles O13: the timeout fences a device in RUN with a fabric job port that counts, and does nothing to any other device; the
alarm of its event is of class 1, and so leaves on both planes. That the position and epoch are kept is R11 as log entry 76 reads it;
that the alarm stands in the outbox at once is log entry 8's. -/
theorem isolatedDeviceFencesItself : Obligations.IsolatedDeviceFencesItself := by
  refine ⟨fun s p hrun hp hex => ?fenced, fun s i => ?alarm, fun s h => ?exempt, fun s h => ?notRun⟩
  case fenced =>
    have hsafe : (s.record (ev1 0x4005 unitFault [])).job.dev ≠ .safe := by simp [hrun]
    refine ⟨_, exec_isolationTimeout s, ?_⟩
    rw [isolationTimeout_of_isolated hrun hp hex]
    exact ⟨by rw [State.job_enterFenced hsafe]; simp, State.tele_enterFenced _⟩
  case alarm =>
    obtain ⟨seq, hleaves⟩ := State.record_leaves_on_both_planes (e := ev1 0x4005 unitFault []) (by decide) s
    exact ⟨_, hleaves i, rfl, rfl⟩
  case exempt => rw [exec_isolationTimeout, isolationTimeout_of_exempt h]
  case notRun => rw [exec_isolationTimeout, isolationTimeout_of_not_run h]

end Sys2Proof.Machine
end

section
/-! SUPPORT. The clear of the recorder (R435): what an event that is recorded in an empty recorder leaves in slot 0 and in the
refusal counters, with the trace record and the alarm that the event may raise beside it (R430 to R433, R445, R449 to R453). -/
namespace Sys2Proof.Machine
open Sys2Proof

/-! ## The recorder's part of the telemetry -/

/-- The recorder without its holding queue, with the counters of what it refused (R432, R433, R435). -/
structure RecorderView where
  slots : List EventRec
  full : Option FullRec
  frozen : Bool
  refused : Vector U64 4
  clearRefused : U64
  holdRefused : U64

def TeleState.recorder (t : TeleState) : RecorderView :=
  ⟨t.slots, t.full, t.frozen, t.refused, t.clearRefused, t.holdRefused⟩

@[simp] theorem TeleState.recorder_holdAlarm (op : U64) (a : Alarm) (t : TeleState) :
    (t.holdAlarm op a).1.recorder = t.recorder := by
  unfold TeleState.holdAlarm
  dsimp only
  split <;> rfl

@[simp] theorem TeleState.recorder_traceAdd (now : Nat) (op : U64) (r : TraceRec) (t : TeleState) :
    (t.traceAdd now op r).recorder = t.recorder := by
  unfold TeleState.traceAdd
  dsimp only
  repeat' split
  all_goals rfl

/-- An alarm leaves the recorder as it was, or records in it that the hold has filled (event 0x8006, R453). -/
theorem TeleState.alarm_recorder_or_holdFilled (now : Nat) (cyc : U32) (op : U64) (e : Event) (t : TeleState) :
    ∃ u : TeleState, u.recorder = t.recorder ∧
      (t.alarm now cyc op e = u ∨ t.alarm now cyc op e = (u.recordPlain cyc op (ev3 0x8006 unitRec [])).1) := by
  unfold TeleState.alarm
  dsimp only
  split
  case isTrue =>
    have hheld := TeleState.recorder_holdAlarm op (alarmOf t.alarmSeq op e) { t with alarmSeq := t.alarmSeq + 1 }
    split
    · refine ⟨_, ?_, .inr rfl⟩
      exact hheld
    · refine ⟨_, ?_, .inl rfl⟩
      exact hheld
  case isFalse =>
    refine ⟨_, ?_, .inl rfl⟩
    rfl

/-! ## What slot 0 tells and what was refused -/

/-- What a record tells of its event (R427): a repeat changes neither (R431). -/
def EventRec.content (r : EventRec) : U16 × List Byte := (r.code, r.args)

/-- The record in slot 0 keeps its content when any record of the list takes a repeat. -/
theorem EventRec.content_head_modify_repeatRec (op : U64) (i : Nat) (l : List EventRec) :
    ((l.modify i (repeatRec op)).head?).map EventRec.content = (l.head?).map EventRec.content := by
  cases l with
  | nil => cases i <;> rfl
  | cons r l => cases i <;> rfl

/-- From t to u the record in slot 0 tells the same event, and nothing more was refused. -/
structure KeepsFirst (t u : TeleState) : Prop where
  first : (u.slots.head?).map EventRec.content = (t.slots.head?).map EventRec.content
  refused : u.refused = t.refused
  clearRefused : u.clearRefused = t.clearRefused
  holdRefused : u.holdRefused = t.holdRefused

theorem KeepsFirst.of_recorder {t u : TeleState} (h : u.recorder = t.recorder) : KeepsFirst t u := by
  simp only [TeleState.recorder, RecorderView.mk.injEq] at h
  obtain ⟨hslots, -, -, hrefused, hclear, hhold⟩ := h
  exact ⟨by rw [hslots], hrefused, hclear, hhold⟩

theorem KeepsFirst.trans {t u v : TeleState} (h : KeepsFirst t u) (k : KeepsFirst u v) : KeepsFirst t v :=
  ⟨k.first.trans h.first, k.refused.trans h.refused, k.clearRefused.trans h.clearRefused, k.holdRefused.trans h.holdRefused⟩

/-- The recorder takes records, and has taken one since it was last cleared (R430, R432, R433). -/
structure TeleState.Open (t : TeleState) : Prop where
  frozen : t.frozen = false
  full : t.full = none
  slots : t.slots ≠ []

theorem TeleState.Open.of_recorder {t u : TeleState} (h : u.recorder = t.recorder) (ht : t.Open) : u.Open := by
  simp only [TeleState.recorder, RecorderView.mk.injEq] at h
  obtain ⟨hslots, hfull, hfrozen, -⟩ := h
  exact ⟨hfrozen.trans ht.frozen, hfull.trans ht.full, hslots ▸ ht.slots⟩

theorem TeleState.Open.append_keepsFirst {t : TeleState} (ht : t.Open) (cyc : U32) (op : U64) (r : EventRec) :
    KeepsFirst t (t.append cyc op r).1 := by
  have hfirst (q : EventRec) : ((t.slots ++ [q]).head?).map EventRec.content = (t.slots.head?).map EventRec.content := by
    rw [List.head?_append_of_ne_nil _ ht.slots]
  unfold TeleState.append
  rw [ht.full]
  dsimp only
  split
  · exact ⟨hfirst _, rfl, rfl, rfl⟩
  · exact ⟨hfirst _, rfl, rfl, rfl⟩

/-- An event that such a recorder takes, as a repeat or as a record of its own, stands behind slot 0 or repeats it. -/
theorem TeleState.Open.recordPlain_keepsFirst {t : TeleState} (ht : t.Open) (cyc : U32) (op : U64) (e : Event) :
    KeepsFirst t (t.recordPlain cyc op e).1 := by
  unfold TeleState.recordPlain
  rw [if_neg (by rw [ht.frozen]; exact Bool.false_ne_true)]
  split
  case h_1 i _ => exact ⟨EventRec.content_head_modify_repeatRec op i t.slots, rfl, rfl, rfl⟩
  case h_2 => exact ht.append_keepsFirst ..

theorem TeleState.Open.alarm_keepsFirst {t : TeleState} (ht : t.Open) (now : Nat) (cyc : U32) (op : U64) (e : Event) :
    KeepsFirst t (t.alarm now cyc op e) := by
  obtain ⟨u, hu, halarm | halarm⟩ := TeleState.alarm_recorder_or_holdFilled now cyc op e t
  · rw [halarm]
    exact .of_recorder hu
  · rw [halarm]
    exact (KeepsFirst.of_recorder hu).trans ((ht.of_recorder hu).recordPlain_keepsFirst ..)

/-! ## An event that an empty recorder takes -/

/-- The record of the first event stands alone in slot 0, and nothing was refused. -/
theorem TeleState.recordPlain_of_empty {t : TeleState} (hfrozen : t.frozen = false) (hslots : t.slots = [])
    (hfull : t.full = none) (cyc : U32) (op : U64) (e : Event) :
    (t.recordPlain cyc op e).1.recorder =
      { t.recorder with slots := [{ newRec 0 cyc op e with seq := t.nextSeq }] } := by
  have hnone : findRepeat t.repeatMs op e 256 t.slots = none := by
    rw [hslots]
    rfl
  have hroom (r : EventRec) : ¬[r].length ≥ recorderSlots := by
    rw [List.length_singleton]
    decide
  unfold TeleState.recordPlain
  rw [if_neg (by rw [hfrozen]; exact Bool.false_ne_true), hnone]
  simp only [TeleState.append, hfull, hslots, List.nil_append, if_neg (hroom _)]
  simp [TeleState.recorder, TeleState.countBytes, hfull]

/-- A recorded event reaches the recorder first, under the class the forwarding map gives it; what follows, the trace record and
an alarm, keeps slot 0 and the counters (R430, R445, R451). -/
theorem State.recordTele_keepsFirst {e : Event} {s : State}
    (h : ∀ cls, (s.tele.recordPlain s.time.cycles s.time.opMs { e with cls := cls }).1.Open) :
    ∃ cls, KeepsFirst (s.tele.recordPlain s.time.cycles s.time.opMs { e with cls := cls }).1 (s.recordTele e) := by
  unfold State.recordTele
  dsimp only
  generalize (if e.cls == 3 then (s.tele.forwarded e.code).getD 3 else e.cls) = cls
  refine ⟨cls, ?_⟩
  have htrace := TeleState.recorder_traceAdd s.time.now s.time.opMs
  split
  · exact (KeepsFirst.of_recorder (htrace _ _)).trans (((h cls).of_recorder (htrace _ _)).alarm_keepsFirst ..)
  · exact .of_recorder (htrace _ _)

/-- What slot 0 and the counters tell once an empty recorder has taken an event, whatever class the forwarding map gives it and
whatever its alarm does. -/
theorem State.record_in_empty {s : State} (hfrozen : s.tele.frozen = false) (hslots : s.tele.slots = [])
    (hfull : s.tele.full = none) (e : Event) :
    ((s.record e).tele.slots.head?).map EventRec.content = some (e.code, padTo 34 (e.args.take 34)) ∧
      (s.record e).tele.refused = s.tele.refused ∧ (s.record e).tele.clearRefused = s.tele.clearRefused ∧
      (s.record e).tele.holdRefused = s.tele.holdRefused := by
  have htaken (cls) := TeleState.recordPlain_of_empty hfrozen hslots hfull s.time.cycles s.time.opMs { e with cls := cls }
  simp only [TeleState.recorder, RecorderView.mk.injEq, hfrozen, hfull] at htaken
  obtain ⟨cls, hkeeps⟩ := State.recordTele_keepsFirst (e := e) (s := s) fun cls => by
    obtain ⟨htslots, htfull, htfrozen, -⟩ := htaken cls
    exact ⟨htfrozen, htfull, by rw [htslots]; exact List.cons_ne_nil _ _⟩
  obtain ⟨htslots, -, -, hrefused, hclear, hhold⟩ := htaken cls
  rw [State.record_tele]
  refine ⟨hkeeps.first.trans ?_, hkeeps.refused.trans hrefused, hkeeps.clearRefused.trans hclear,
    hkeeps.holdRefused.trans hhold⟩
  rw [htslots]
  rfl

/-! ## The clear -/

theorem exec_recorderClear (key : U16) (holds : Bool) (s : State) :
    exec (.recorderClear key holds) s = .next (recorderClear key holds s) := rfl

theorem recorderClear_of_holds (key : U16) (s : State) : recorderClear key true s = s.clearRecorder key := if_pos rfl

theorem recorderClear_of_refused (key : U16) (s : State) : recorderClear key false s = s.refuseClear key :=
  if_neg Bool.false_ne_true

/-- The arguments of a record begin with those of its event (R429). -/
theorem take_padTo {k n : Nat} {l : List Byte} (hl : l.length = k) (hk : k ≤ n) : (padTo n (l.take n)).take k = l := by
  subst hl
  simp [padTo, sliceZ, List.take_of_length_le hk]

/-- Settles O12: a clear that holds and one that fails are the two branches of the command. The event of a clear that holds is
recorded in an empty recorder, so it stands in slot 0 and no refusal counter moves. That the operand holds stands for the check of
the signature and of the key list is the model's choice (log entry 53). -/
theorem recorderClearEmptiesEverySlot : Obligations.RecorderClearEmptiesEverySlot := by
  refine ⟨fun s key => ?holds, fun s u key hu => ?cleared, fun s => ?used, fun s key => ?fails⟩
  case holds =>
    rw [exec_recorderClear, recorderClear_of_holds]
    rfl
  case cleared =>
    subst hu
    obtain ⟨hfirst, hcounts⟩ := State.record_in_empty
      (s := { s with tele := { s.tele with frozen := false, holding := [], slots := [], full := none } }) rfl rfl rfl
      (ev3 0x8004 unitRec (le16 key ++ leBytes 4 s.tele.slotsUsed))
    obtain ⟨r, hr, hcontent⟩ := Option.map_eq_some_iff.1 hfirst
    obtain ⟨hcode, hargs⟩ := Prod.mk.inj hcontent
    rw [hr]
    have hbegin : r.args.take 6 = le16 key ++ leBytes 4 s.tele.slotsUsed :=
      (congrArg (List.take 6) hargs).trans (take_padTo rfl (by decide))
    exact ⟨congrArg some hcode, congrArg some hbegin, hcounts⟩
  case used => rfl
  case fails =>
    rw [exec_recorderClear, recorderClear_of_refused]
    rfl

end Sys2Proof.Machine
end

section
/-! SUPPORT. The message that the server discards (R464), on any path and in a datagram on plane MA, and the request ring that has
nothing to take (R475). -/
namespace Sys2Proof.Machine
open Sys2Proof Sys2Proof.Statements

/-! ## Fields of a list that is cut behind them -/

theorem sliceZ_take {i n m : Nat} (h : i + n ≤ m) (l : List Byte) : sliceZ (l.take m) i n = sliceZ l i n := by
  have hslice : ((l.take m).drop i).take n = (l.drop i).take n := by
    rw [List.drop_take, List.take_take, Nat.min_eq_left (by omega)]
  simp only [sliceZ, hslice]

theorem byteAt_take {i m : Nat} (h : i < m) (l : List Byte) : byteAt (l.take m) i = byteAt l i := by
  simp only [byteAt, List.getD_eq_getElem?_getD, List.getElem?_take_of_lt h]

theorem field16_take {i m : Nat} (h : i + 2 ≤ m) (l : List Byte) : field16 (l.take m) i = field16 l i := by
  simp only [field16, fieldNat, sliceZ_take h]

/-! ## A message with a wrong magic, version or check word -/

/-- What R464 names: the magic, the version or the message CRC-32C is wrong. -/
def Malformed (bytes : List Byte) : Prop :=
  field16 bytes 0 ≠ 0x4B56 ∨ byteAt bytes 2 ≠ 1 ∨
    crc32c (unchecked (bytes.take (msgLength bytes))) ≠ field32 (bytes.take (msgLength bytes)) 40

/-- A message holds its header at least (R462). -/
theorem header_le_msgLength (bytes : List Byte) : 48 ≤ msgLength bytes := by
  unfold msgLength
  split <;> omega

/-- The magic and the version stand in the header, so the cut at the message's length keeps them; each of the three faults is a
check of its own. -/
theorem Msg.ofBytes_of_malformed {bytes : List Byte} (h : Malformed bytes) : Msg.ofBytes bytes = none := by
  have hlen := header_le_msgLength bytes
  have hmagic := field16_take (i := 0) (by omega) bytes (m := msgLength bytes)
  have hversion := byteAt_take (i := 2) (by omega) bytes (m := msgLength bytes)
  unfold Msg.ofBytes
  refine if_pos ?_
  simp only [hmagic, hversion, Bool.or_eq_true, bne_iff_ne]
  obtain h | h | h := h
  · exact .inl (.inl (.inl (.inr h)))
  · exact .inl (.inl (.inr h))
  · exact .inl (.inr h)

/-- The count of discarded messages, OD 1020.16. -/
def State.discard (s : State) : State := { s with acc := { s.acc with discarded := bump s.acc.discarded } }

theorem serve_of_malformed {bytes : List Byte} (h : Malformed bytes) (path : Path) (s : State) :
    serve path bytes s = (none, s.discard) := by
  unfold serve
  rw [Msg.ofBytes_of_malformed h]
  rfl

/-! ## A datagram on plane MA -/

/-- The server takes nothing from a ring whose two request indices agree (R475). -/
theorem consumeRing_of_idle {s : State} (h : obRingIdle s) (n : Nat) : consumeRing n s = s := by
  have hstop : (s.acc.ringReqC == s.acc.ringReqP || s.acc.ringFull || s.boot.resetHeld) = true := by
    rw [beq_iff_eq.2 h, Bool.true_or, Bool.true_or]
  cases n with
  | zero => rfl
  | succ n => exact if_pos hstop

theorem drainRing_of_idle {s : State} (h : obRingIdle s) : drainRing s = s := consumeRing_of_idle h 65536

/-- Plane MA hands the message of an admitted datagram to the server, and sends nothing where the server answers nothing. -/
theorem planeServe_ma_of_unanswered {bytes : List Byte} {s t : State} (hadmits : s.acc.admits (bytes.take 16) = true)
    (h : serve .ma (bytes.drop 16) (obOnMa bytes s) = (none, t)) : planeServe 0 bytes s = t := by
  have hadmits' : ¬(!(obOnMa bytes s).acc.admits (bytes.take 16)) = true := by
    rw [show (obOnMa bytes s).acc.admits (bytes.take 16) = true from hadmits]
    exact Bool.false_ne_true
  refine (if_neg hadmits').trans ?_
  rw [if_pos rfl]
  split
  case h_1 u hserve => exact (Prod.mk.inj (hserve.symm.trans h)).2
  case h_2 r u hserve => exact absurd (Prod.mk.inj (hserve.symm.trans h)).1 (Option.some_ne_none r)

theorem objectWrite_ma {s : State} (hruns : s.serverRuns = true) (bytes : List Byte) :
    objectWrite .ma bytes s = drainRing (planeServe 0 bytes s) := by
  unfold objectWrite messageArrives
  rw [hruns, Bool.not_true, if_neg Bool.false_ne_true]

theorem exec_objectWrite (path : Path) (bytes : List Byte) (s : State) :
    exec (.objectWrite path bytes) s = .next (objectWrite path bytes s) := rfl

/-- While the ring is idle, an admitted datagram on plane MA whose message R464 discards is counted on its plane and as discarded,
and does nothing else. -/
theorem objectWrite_ma_of_malformed {bytes : List Byte} {s : State} (hidle : obRingIdle s) (hruns : s.serverRuns = true)
    (hadmits : s.acc.admits (bytes.take 16) = true) (h : Malformed (bytes.drop 16)) :
    objectWrite .ma bytes s = (obOnMa bytes s).discard := by
  have hidle' : obRingIdle (obOnMa bytes s).discard := hidle
  rw [objectWrite_ma hruns, planeServe_ma_of_unanswered hadmits (serve_of_malformed h .ma _), drainRing_of_idle hidle']

/-- Settles O10: each of the three faults fails a check of the message's reading, so the server answers nothing and counts it; on
plane MA only the byte count and the mark of the plane change beside it, and an idle ring gives the server nothing more to take.
That the operand begins with the datagram's source address is the model's layout (log entry 26). -/
theorem malformedMessagesAreDiscarded : Obligations.MalformedMessagesAreDiscarded := by
  refine ⟨fun path bytes s h => ?anyPath, fun bytes s hidle hruns hadmits h => ?planeMa⟩
  case anyPath => exact serve_of_malformed h path s
  case planeMa =>
    refine ⟨_, exec_objectWrite .ma bytes s, ?_⟩
    rw [objectWrite_ma_of_malformed hidle hruns hadmits h]
    exact ⟨rfl, rfl, rfl, rfl, rfl⟩

end Sys2Proof.Machine
end

section
/-! SUPPORT. The edges of the 1PPS input (R545) and the TIME record of an accepted one (R448), with what the trace holds after a
record that it takes (R445, R446). -/
namespace Sys2Proof.Machine
open Sys2Proof

/-! ## A trace record that is taken -/

/-- A running trace with room takes a record of a kind that is enabled at its end, and streaming does not change what it holds
(R445, R446, R450). -/
theorem TeleState.trace_traceAdd {t : TeleState} {r : TraceRec} (hkind : r.kind ≠ 0)
    (henabled : t.kinds.getLsbD (r.kind.toNat - 1) = true) (hruns : t.traceStatus = 1)
    (hroom : t.trace.length < traceCapacity) (now : Nat) (op : U64) :
    (t.traceAdd now op r).trace = t.trace ++ [r] := by
  have hkept : ¬(!t.kinds.getLsbD (r.kind.toNat - 1) || r.kind == 0) = true := by
    rw [henabled, beq_false_of_ne hkind]
    decide
  have hnotFull : ¬(t.traceStatus == 2) = true := by rw [hruns]; decide
  have hnotOff : ¬(t.traceStatus != 1) = true := by rw [hruns]; decide
  unfold TeleState.traceAdd
  rw [if_neg hkept, if_neg hnotFull, if_neg hnotOff]
  simp only [if_pos hroom]
  split
  · rfl
  · rfl

/-- The data of a trace record begin with those that are given first. -/
theorem take_padTo_append {k n : Nat} {l : List Byte} (hl : l.length = k) (hk : k ≤ n) (r : List Byte) :
    (padTo n (l ++ r)).take k = l := by
  subst hl
  simp [padTo, sliceZ, List.take_append, hk]

/-! ## The edge -/

/-- The edge is counted in OD 8400.14, and the last accepted edge is forgotten. -/
def State.rejectEdge (s : State) : State :=
  { s with pwr := { s.pwr with ppsRejected := bump s.pwr.ppsRejected, ppsLast := none } }

/-- The edge is the last accepted one. -/
def State.acceptEdge (s : State) : State := { s with pwr := { s.pwr with ppsLast := some s.time.now } }

/-- The TIME record of the second that an accepted edge marks (R448). -/
def State.traceSecond (sec : U64) (s : State) : State :=
  s.trace 0 6 unitCC 0xFF 0xFF 0 (leBytes 6 sec.toNat ++ le32 s.tele.markInt ++ List.replicate 6 0)

theorem exec_ppsEdge (sec : U64) (s : State) : exec (.ppsEdge sec) s = .next (ppsEdge sec s) := rfl

theorem State.ppsBad_of_first {s : State} (h : s.pwr.ppsLast = none) : s.ppsBad = false := by
  simp [State.ppsBad, h]

theorem State.ppsBad_iff {s : State} {last : Nat} (h : s.pwr.ppsLast = some last) :
    s.ppsBad = true ↔ s.time.now - last < 900 ∨ 1100 < s.time.now - last := by
  simp [State.ppsBad, h]

theorem State.ppsBad_of_inRange {s : State} {last : Nat} (h : s.pwr.ppsLast = some last) (hmin : 900 ≤ s.time.now - last)
    (hmax : s.time.now - last ≤ 1100) : s.ppsBad = false :=
  Bool.eq_false_iff.2 fun hbad => by have := (State.ppsBad_iff h).1 hbad; omega

theorem ppsEdge_of_bad {s : State} (h : s.ppsBad = true) (sec : U64) : ppsEdge sec s = s.rejectEdge := if_pos h

/-- An accepted edge leaves a TIME record where a plane gives the time of day, and none elsewhere. -/
theorem ppsEdge_of_good {s : State} (h : s.ppsBad = false) (sec : U64) :
    ppsEdge sec s = if s.acc.todPlane = 0 then s.acceptEdge else s.acceptEdge.traceSecond sec := by
  refine (if_neg (by rw [h]; exact Bool.false_ne_true)).trans ?_
  simp only [beq_iff_eq]
  rfl

/-- The TIME record leaves the power unit's state alone. -/
theorem pwr_ppsEdge_of_good {s : State} (h : s.ppsBad = false) (sec : U64) :
    (ppsEdge sec s).pwr = { s.pwr with ppsLast := some s.time.now } := by
  rw [ppsEdge_of_good h]
  split
  case isTrue => rfl
  case isFalse => simp [State.traceSecond, State.acceptEdge]

/-- The TIME record is of kind 6, and its data begin with the second. -/
theorem State.trace_traceSecond {s : State} (henabled : s.tele.kinds.getLsbD 5 = true) (hruns : s.tele.traceStatus = 1)
    (hroom : s.tele.trace.length < traceCapacity) (sec : U64) :
    ∃ r, (s.traceSecond sec).tele.trace = s.tele.trace ++ [r] ∧ r.kind = 6 ∧ r.data.take 6 = leBytes 6 sec.toNat := by
  refine ⟨_, TeleState.trace_traceAdd (by decide : (6 : Byte) ≠ 0) henabled hruns hroom _ _, rfl, ?_⟩
  rw [List.append_assoc]
  exact take_padTo_append (k := 6) (n := 16) rfl (by decide) _

/-- Settles O11: the edge is judged by the time since the last accepted one, which the first edge has not; a bad edge is counted and
forgets it, a good one is kept, and with a plane for the time of day it leaves the TIME record of R448. That the edge is judged by
the millisecond is log entry 51's. -/
theorem secondEdgesOutOfRangeAreRejected : Obligations.SecondEdgesOutOfRangeAreRejected := by
  refine ⟨fun s sec last hlast hout => ?rejected, fun s sec hfirst => ?first, fun s sec last hlast hmin hmax => ?inRange,
    fun s sec hfirst htod => ?noTimeOfDay, fun s sec hfirst htod henabled hruns hroom => ?timeOfDay⟩
  case rejected =>
    rw [exec_ppsEdge, ppsEdge_of_bad ((State.ppsBad_iff hlast).2 hout)]
    rfl
  case first => exact ⟨_, exec_ppsEdge sec s, pwr_ppsEdge_of_good (State.ppsBad_of_first hfirst) sec⟩
  case inRange => exact ⟨_, exec_ppsEdge sec s, pwr_ppsEdge_of_good (State.ppsBad_of_inRange hlast hmin hmax) sec⟩
  case noTimeOfDay =>
    refine ⟨_, exec_ppsEdge sec s, ?_⟩
    rw [ppsEdge_of_good (State.ppsBad_of_first hfirst), if_pos htod]
    rfl
  case timeOfDay =>
    refine ⟨_, exec_ppsEdge sec s, ?_⟩
    rw [ppsEdge_of_good (State.ppsBad_of_first hfirst), if_neg htod]
    exact State.trace_traceSecond (s := s.acceptEdge) henabled hruns hroom sec

end Sys2Proof.Machine
end

section
/-! SUPPORT. What every command and every step keeps: each command stays within the parts that the table names for it; one millisecond. -/
namespace Sys2Proof.Machine
open Sys2Proof

/-- The field of State that a part is, as the bit that Keep names it by. -/
def Part.bit : Part → Nat
  | .time => 1 | .chk => 3 | .fence => 4 | .red => 5 | .upd => 6 | .vec => 7 | .str => 8 | .mem => 9 | .links => 10 | .route => 11
  | .part => 12 | .adj => 13 | .mov => 14 | .job => 15 | .det => 16 | .health => 17 | .tele => 18 | .acc => 19 | .boot => 20
  | .pwr => 21 | .exer => 22 | .freeCtr => 23

/-- The mask of a list of parts, as Keep takes it. -/
def maskOfParts : List Part → Nat
  | [] => 0
  | p :: ps => 2 ^ p.bit ||| maskOfParts ps

theorem Part.bit_injective : ∀ p q : Part, p.bit = q.bit → p = q := by
  intro p q; cases p <;> cases q <;> decide

theorem testBit_maskOfParts {p : Part} {ps : List Part} (h : p ∉ ps) : (maskOfParts ps).testBit p.bit = false := by
  induction ps with
  | nil => exact Nat.zero_testBit _
  | cons q ps ih =>
    obtain ⟨hq, hps⟩ := not_or.1 (List.mem_cons.not.1 h)
    rw [maskOfParts, Nat.testBit_or, ih hps, Nat.testBit_two_pow_of_ne fun e => hq (Part.bit_injective _ _ e.symm)]
    rfl

/-- A part whose bit is not in the mask is the same in both states. -/
theorem Keep.same {M : Nat} {s t : State} (h : Keep M s t) : ∀ p : Part, M.testBit p.bit = false → p.same s t
  | .time => h.time | .chk => h.chk | .fence => h.fence | .red => h.red | .upd => h.upd | .vec => h.vec | .str => h.str
  | .mem => h.mem | .links => h.links | .route => h.route | .part => h.part | .adj => h.adj | .mov => h.mov | .job => h.job
  | .det => h.det | .health => h.health | .tele => h.tele | .acc => h.acc | .boot => h.boot | .pwr => h.pwr | .exer => h.exer
  | .freeCtr => h.freeCtr

/-- Every command answers a next state and keeps every part that the table does not name for it. -/
theorem exec_keep : (c : Instr) → (s : State) → ∃ t, exec c s = .next t ∧ Keep (maskOfParts (partsOf c)) s t
  | .powerOn w, s => execPowerOn_keep w s
  | .bootLate step, s => execBootLate_keep step s
  | .bootWatchdogExpiry, s => execBootWatchdogExpiry_keep s
  | .sysRstNFall, s => execSysRstNFall_keep s
  | .wrstNFall late, s => execWrstNFall_keep late s
  | .resetActionWarm late, s => execResetActionWarm_keep late s
  | .resetActionCold, s => execResetActionCold_keep s
  | .powerLoss, s => execPowerLoss_keep s
  | .railFault rail mv, s => execRailFault_keep rail mv s
  | .sysclkLost, s => execSysclkLost_keep s
  | .hostLinkReset, s => execHostLinkReset_keep s
  | .stepSizeWrite v, s => execStepSizeWrite_keep v s
  | .stepSizeLate step, s => execStepSizeLate_keep step s
  | .stepFenceWrite v, s => execStepFenceWrite_keep v s
  | .fenceTimeout, s => execFenceTimeout_keep s
  | .sealStep, s => execSealStep_keep s
  | .stepSealedReceive port pk, s => execStepSealedReceive_keep port pk s
  | .stepFailedReceive port pk, s => execStepFailedReceive_keep port pk s
  | .jobCommitReceive port pk, s => execJobCommitReceive_keep port pk s
  | .stepOpenSend, s => execStepOpenSend_keep s
  | .anchorLate step, s => execAnchorLate_keep step s
  | .pieceArrival port blk, s => execPieceArrival_keep port blk s
  | .windowUnpark ts step w, s => execWindowUnpark_keep ts step w s
  | .anchorResendReqReceive port pk, s => execAnchorResendReqReceive_keep port pk s
  | .treeBlockAckReceive port pk, s => execTreeBlockAckReceive_keep port pk s
  | .scalarFenceWrite v, s => execScalarFenceWrite_keep v s
  | .scalarSendUp slot, s => execScalarSendUp_keep slot s
  | .scalarReduceReceive port pk, s => execScalarReduceReceive_keep port pk s
  | .slotConfigWrite bytes, s => execSlotConfigWrite_keep bytes s
  | .treeTableWrite bytes, s => execTreeTableWrite_keep bytes s
  | .heldSecondPass ts w, s => execHeldSecondPass_keep ts w s
  | .windowDispatch ts w replica, s => execWindowDispatch_keep ts w replica s
  | .windowWriteback pipe, s => execWindowWriteback_keep pipe s
  | .pipeParity pipe stage, s => execPipeParity_keep pipe stage s
  | .haltReleaseWrite v, s => execHaltReleaseWrite_keep v s
  | .maskStageWrite bytes, s => execMaskStageWrite_keep bytes s
  | .programSlotWrite slot bytes, s => execProgramSlotWrite_keep slot bytes s
  | .tensorTableWrite bytes, s => execTensorTableWrite_keep bytes s
  | .invocationDispatch ts w, s => execInvocationDispatch_keep ts w s
  | .invocationCommit c, s => execInvocationCommit_keep c s
  | .vcBudget c, s => execVcBudget_keep c s
  | .vcParity c unit, s => execVcParity_keep c unit s
  | .vcCheck c, s => execVcCheck_keep c s
  | .vcLoadComplete c, s => execVcLoadComplete_keep c s
  | .codeSlotWrite slot bytes, s => execCodeSlotWrite_keep slot bytes s
  | .vectorEntryWrite bytes, s => execVectorEntryWrite_keep bytes s
  | .sysNop c, s => execSysNop_keep c s
  | .endOp c xa, s => execEndOp_keep c xa s
  | .faultOp c xa, s => execFaultOp_keep c xa s
  | .veNop c a, s => execVeNop_keep c a s
  | .veMov c a, s => execVeMov_keep c a s
  | .veAdd c a, s => execVeAdd_keep c a s
  | .veSub c a, s => execVeSub_keep c a s
  | .veMul c a, s => execVeMul_keep c a s
  | .veFma c a, s => execVeFma_keep c a s
  | .veFms c a, s => execVeFms_keep c a s
  | .veDiv c a, s => execVeDiv_keep c a s
  | .veSqrt c a, s => execVeSqrt_keep c a s
  | .veRsqrt c a, s => execVeRsqrt_keep c a s
  | .veRcp c a, s => execVeRcp_keep c a s
  | .veMax c a, s => execVeMax_keep c a s
  | .veMin c a, s => execVeMin_keep c a s
  | .veAbs c a, s => execVeAbs_keep c a s
  | .veNeg c a, s => execVeNeg_keep c a s
  | .veSign c a, s => execVeSign_keep c a s
  | .veSel c a, s => execVeSel_keep c a s
  | .veCmplt c a, s => execVeCmplt_keep c a s
  | .veCmple c a, s => execVeCmple_keep c a s
  | .veCmpeq c a, s => execVeCmpeq_keep c a s
  | .veClamp c a, s => execVeClamp_keep c a s
  | .veCvt c a, s => execVeCvt_keep c a s
  | .test c a, s => execTest_keep c a s
  | .vcCmplt c a, s => execVcCmplt_keep c a s
  | .vcCmple c a, s => execVcCmple_keep c a s
  | .vcCmpeq c a, s => execVcCmpeq_keep c a s
  | .iadd c a, s => execIadd_keep c a s
  | .isub c a, s => execIsub_keep c a s
  | .imul c a, s => execImul_keep c a s
  | .iand c a, s => execIand_keep c a s
  | .ior c a, s => execIor_keep c a s
  | .ixor c a, s => execIxor_keep c a s
  | .ishl c a, s => execIshl_keep c a s
  | .ishr c a, s => execIshr_keep c a s
  | .isra c a, s => execIsra_keep c a s
  | .iminu c a, s => execIminu_keep c a s
  | .imaxu c a, s => execImaxu_keep c a s
  | .f2i c a, s => execF2i_keep c a s
  | .i2f c a, s => execI2f_keep c a s
  | .iidx c a, s => execIidx_keep c a s
  | .vredAdd c a, s => execVredAdd_keep c a s
  | .vredMax c a, s => execVredMax_keep c a s
  | .vredMin c a, s => execVredMin_keep c a s
  | .vbcast c a, s => execVbcast_keep c a s
  | .vbcastx c a, s => execVbcastx_keep c a s
  | .vext c a, s => execVext_keep c a s
  | .vins c a, s => execVins_keep c a s
  | .vmovr c a, s => execVmovr_keep c a s
  | .vperm c a, s => execVperm_keep c a s
  | .pand c a, s => execPand_keep c a s
  | .por c a, s => execPor_keep c a s
  | .pxor c a, s => execPxor_keep c a s
  | .pandn c a, s => execPandn_keep c a s
  | .pnot c a, s => execPnot_keep c a s
  | .pset c a, s => execPset_keep c a s
  | .pclr c a, s => execPclr_keep c a s
  | .pcount c a, s => execPcount_keep c a s
  | .ptox c a, s => execPtox_keep c a s
  | .pfromx c a, s => execPfromx_keep c a s
  | .pfirst c a, s => execPfirst_keep c a s
  | .plt c a, s => execPlt_keep c a s
  | .xrAdd c a, s => execXrAdd_keep c a s
  | .xrSub c a, s => execXrSub_keep c a s
  | .xrMul c a, s => execXrMul_keep c a s
  | .mulhu c a, s => execMulhu_keep c a s
  | .divu c a, s => execDivu_keep c a s
  | .remu c a, s => execRemu_keep c a s
  | .xrAnd c a, s => execXrAnd_keep c a s
  | .xrOr c a, s => execXrOr_keep c a s
  | .xrXor c a, s => execXrXor_keep c a s
  | .sll c a, s => execSll_keep c a s
  | .srl c a, s => execSrl_keep c a s
  | .sra c a, s => execSra_keep c a s
  | .slt c a, s => execSlt_keep c a s
  | .sltu c a, s => execSltu_keep c a s
  | .minu c a, s => execMinu_keep c a s
  | .maxu c a, s => execMaxu_keep c a s
  | .addi c a, s => execAddi_keep c a s
  | .andi c a, s => execAndi_keep c a s
  | .ori c a, s => execOri_keep c a s
  | .xori c a, s => execXori_keep c a s
  | .slti c a, s => execSlti_keep c a s
  | .sltiu c a, s => execSltiu_keep c a s
  | .slli c a, s => execSlli_keep c a s
  | .srli c a, s => execSrli_keep c a s
  | .srai c a, s => execSrai_keep c a s
  | .lui c xd imm, s => execLui_keep c xd imm s
  | .br c xa xb cond off, s => execBr_keep c xa xb cond off s
  | .jal c xd off, s => execJal_keep c xd off s
  | .jalr c xd xa, s => execJalr_keep c xd xa s
  | .bp c pn cond off, s => execBp_keep c pn cond off s
  | .fopNop c a, s => execFopNop_keep c a s
  | .fopMov c a, s => execFopMov_keep c a s
  | .fopAdd c a, s => execFopAdd_keep c a s
  | .fopSub c a, s => execFopSub_keep c a s
  | .fopMul c a, s => execFopMul_keep c a s
  | .fopFma c a, s => execFopFma_keep c a s
  | .fopFms c a, s => execFopFms_keep c a s
  | .fopDiv c a, s => execFopDiv_keep c a s
  | .fopSqrt c a, s => execFopSqrt_keep c a s
  | .fopRsqrt c a, s => execFopRsqrt_keep c a s
  | .fopRcp c a, s => execFopRcp_keep c a s
  | .fopMax c a, s => execFopMax_keep c a s
  | .fopMin c a, s => execFopMin_keep c a s
  | .fopAbs c a, s => execFopAbs_keep c a s
  | .fopNeg c a, s => execFopNeg_keep c a s
  | .fopSign c a, s => execFopSign_keep c a s
  | .fopSel c a, s => execFopSel_keep c a s
  | .fopCmplt c a, s => execFopCmplt_keep c a s
  | .fopCmple c a, s => execFopCmple_keep c a s
  | .fopCmpeq c a, s => execFopCmpeq_keep c a s
  | .fopClamp c a, s => execFopClamp_keep c a s
  | .fopCvt c a, s => execFopCvt_keep c a s
  | .fmvxf c d a, s => execFmvxf_keep c d a s
  | .fmvfx c d a, s => execFmvfx_keep c d a s
  | .fcvtxf c d a, s => execFcvtxf_keep c d a s
  | .fcvtfx c d a, s => execFcvtfx_keep c d a s
  | .ldx c a, s => execLdx_keep c a s
  | .stx c a, s => execStx_keep c a s
  | .ldf c a, s => execLdf_keep c a s
  | .stf c a, s => execStf_keep c a s
  | .vld c a, s => execVld_keep c a s
  | .vst c a, s => execVst_keep c a s
  | .vgath c a, s => execVgath_keep c a s
  | .vscat c a, s => execVscat_keep c a s
  | .bldb c xd xa xs sel, s => execBldb_keep c xd xa xs sel s
  | .bstb c xa xs sel, s => execBstb_keep c xa xs sel s
  | .streamProgramTableWrite bytes, s => execStreamProgramTableWrite_keep bytes s
  | .segmentTableWrite bytes, s => execSegmentTableWrite_keep bytes s
  | .streamStartAction v, s => execStreamStartAction_keep v s
  | .passEnd prog step, s => execPassEnd_keep prog step s
  | .weightBlockSend prog step, s => execWeightBlockSend_keep prog step s
  | .streamStall prog step port, s => execStreamStall_keep prog step port s
  | .weightAckTimeout prog step seg blk dest, s => execWeightAckTimeout_keep prog step seg blk dest s
  | .weightBlockAckReceive port pk, s => execWeightBlockAckReceive_keep port pk s
  | .weightResendReqReceive port pk, s => execWeightResendReqReceive_keep port pk s
  | .weightRelay port blk, s => execWeightRelay_keep port blk s
  | .remoteWrite port pk, s => execRemoteWrite_keep port pk s
  | .remoteRead port pk, s => execRemoteRead_keep port pk s
  | .regionTableWrite bytes, s => execRegionTableWrite_keep bytes s
  | .patrolScrub tier errs, s => execPatrolScrub_keep tier errs s
  | .frameSend p, s => execFrameSend_keep p s
  | .frameReceive p bytes, s => execFrameReceive_keep p bytes s
  | .nakReceive p ack, s => execNakReceive_keep p ack s
  | .nakRepeat p, s => execNakRepeat_keep p s
  | .nakEscalation p, s => execNakEscalation_keep p s
  | .linkFailed p, s => execLinkFailed_keep p s
  | .packetReceive p vc bytes, s => execPacketReceive_keep p vc bytes s
  | .forwardAfterWait p, s => execForwardAfterWait_keep p s
  | .transitExpired, s => execTransitExpired_keep s
  | .heartbeatSend p, s => execHeartbeatSend_keep p s
  | .heartbeatReceive p pk, s => execHeartbeatReceive_keep p pk s
  | .identReceive p pk, s => execIdentReceive_keep p pk s
  | .trainingDeadlineMiss p, s => execTrainingDeadlineMiss_keep p s
  | .portResumeRetrain p, s => execPortResumeRetrain_keep p s
  | .portFreshTraining p, s => execPortFreshTraining_keep p s
  | .portDisable p, s => execPortDisable_keep p s
  | .portEnable p, s => execPortEnable_keep p s
  | .agentReportReceive port pk, s => execAgentReportReceive_keep port pk s
  | .agentNoResend p ts blk, s => execAgentNoResend_keep p ts blk s
  | .agentQuarantine p, s => execAgentQuarantine_keep p s
  | .markReceive port pk, s => execMarkReceive_keep port pk s
  | .internalMark, s => execInternalMark_keep s
  | .objTunnelReceive port pk, s => execObjTunnelReceive_keep port pk s
  | .wiringMapWrite bytes, s => execWiringMapWrite_keep bytes s
  | .shadowBankWrite bytes, s => execShadowBankWrite_keep bytes s
  | .bankSwitchNow, s => execBankSwitchNow_keep s
  | .bankSwitchPending v, s => execBankSwitchPending_keep v s
  | .substitutionTableWrite bytes, s => execSubstitutionTableWrite_keep bytes s
  | .circuitPrepare n bytes, s => execCircuitPrepare_keep n bytes s
  | .circuitSwitched n bytes, s => execCircuitSwitched_keep n bytes s
  | .circuitRelease n bytes, s => execCircuitRelease_keep n bytes s
  | .circuitDrained n, s => execCircuitDrained_keep n s
  | .circuitDrainTimeout n, s => execCircuitDrainTimeout_keep n s
  | .partnerConfigWrite sub bytes, s => execPartnerConfigWrite_keep sub bytes s
  | .pairReqReceive port pk, s => execPairReqReceive_keep port pk s
  | .pairAckReceive port pk, s => execPairAckReceive_keep port pk s
  | .pairRefuseReceive port pk, s => execPairRefuseReceive_keep port pk s
  | .pairTimeout, s => execPairTimeout_keep s
  | .pairRetry, s => execPairRetry_keep s
  | .classChangeAction bytes, s => execClassChangeAction_keep bytes s
  | .replayGReceive port blk, s => execReplayGReceive_keep port blk s
  | .windowRecordReceive port pk, s => execWindowRecordReceive_keep port pk s
  | .skipRecordReceive port pk, s => execSkipRecordReceive_keep port pk s
  | .syncRecordReceive port pk, s => execSyncRecordReceive_keep port pk s
  | .dropRecordReceive port pk, s => execDropRecordReceive_keep port pk s
  | .verdictReceive port pk, s => execVerdictReceive_keep port pk s
  | .mirrorPReceive port blk, s => execMirrorPReceive_keep port blk s
  | .partnerBlockAckReceive port pk, s => execPartnerBlockAckReceive_keep port pk s
  | .partnerResend n, s => execPartnerResend_keep n s
  | .replicaWindowSettle ts w, s => execReplicaWindowSettle_keep ts w s
  | .ownerDigestReceive port pk, s => execOwnerDigestReceive_keep port pk s
  | .digestTimeout ts, s => execDigestTimeout_keep ts s
  | .replicaDigestReceive port pk, s => execReplicaDigestReceive_keep port pk s
  | .adjournmentConfigWrite sub v, s => execAdjournmentConfigWrite_keep sub v s
  | .copyStart, s => execCopyStart_keep s
  | .pageCopyAhead addr, s => execPageCopyAhead_keep addr s
  | .copyEnd, s => execCopyEnd_keep s
  | .chunkStart, s => execChunkStart_keep s
  | .chunkProgrammed ok, s => execChunkProgrammed_keep ok s
  | .storePartSend, s => execStorePartSend_keep s
  | .storePartAckReceive port pk, s => execStorePartAckReceive_keep port pk s
  | .storePartRefusalReceive port pk, s => execStorePartRefusalReceive_keep port pk s
  | .storePartTimeout part, s => execStorePartTimeout_keep part s
  | .storeCommitResponse port pk, s => execStoreCommitResponse_keep port pk s
  | .storeAttemptRetry, s => execStoreAttemptRetry_keep s
  | .storeGetResponse port pk, s => execStoreGetResponse_keep port pk s
  | .drainFenceAction v, s => execDrainFenceAction_keep v s
  | .drainFenceReceive port pk, s => execDrainFenceReceive_keep port pk s
  | .drainFenceTimeout, s => execDrainFenceTimeout_keep s
  | .moverStart c, s => execMoverStart_keep c s
  | .moverAbort c, s => execMoverAbort_keep c s
  | .moverPause c, s => execMoverPause_keep c s
  | .moverResume c, s => execMoverResume_keep c s
  | .moverTimerTick c, s => execMoverTimerTick_keep c s
  | .moverReadComplete c r, s => execMoverReadComplete_keep c r s
  | .moverPassEnd c, s => execMoverPassEnd_keep c s
  | .moverRemoteTimeout c, s => execMoverRemoteTimeout_keep c s
  | .groupStart g, s => execGroupStart_keep g s
  | .groupRetry g, s => execGroupRetry_keep g s
  | .groupAbort g, s => execGroupAbort_keep g s
  | .moverReconcile, s => execMoverReconcile_keep s
  | .jobClaim bytes, s => execJobClaim_keep bytes s
  | .openingTreeWrite bytes, s => execOpeningTreeWrite_keep bytes s
  | .openingFresh seq, s => execOpeningFresh_keep seq s
  | .openingRestore seq, s => execOpeningRestore_keep seq s
  | .openingResend seq, s => execOpeningResend_keep seq s
  | .openingInstallCmd seq target, s => execOpeningInstallCmd_keep seq target s
  | .openingAbandonCmd seq, s => execOpeningAbandonCmd_keep seq s
  | .anchorsReceive port pk, s => execAnchorsReceive_keep port pk s
  | .prepareReceive port pk, s => execPrepareReceive_keep port pk s
  | .surveyReceive port pk, s => execSurveyReceive_keep port pk s
  | .installReceive port pk, s => execInstallReceive_keep port pk s
  | .installComplete, s => execInstallComplete_keep s
  | .commitReceive port pk, s => execCommitReceive_keep port pk s
  | .abandonReceive port pk, s => execAbandonReceive_keep port pk s
  | .openingAckReceive port pk, s => execOpeningAckReceive_keep port pk s
  | .openingChildMissing cn, s => execOpeningChildMissing_keep cn s
  | .streamCheckReceive port pk, s => execStreamCheckReceive_keep port pk s
  | .reachReceive port pk, s => execReachReceive_keep port pk s
  | .reachTimeout, s => execReachTimeout_keep s
  | .pullReqReceive port pk, s => execPullReqReceive_keep port pk s
  | .pullDoneReceive port pk, s => execPullDoneReceive_keep port pk s
  | .pullTimeout ts stream, s => execPullTimeout_keep ts stream s
  | .resignationAction jt, s => execResignationAction_keep jt s
  | .resignScrubComplete ok, s => execResignScrubComplete_keep ok s
  | .watchdogFeed answers, s => execWatchdogFeed_keep answers s
  | .suspicionTimeout p, s => execSuspicionTimeout_keep p s
  | .suspectReceive port pk, s => execSuspectReceive_keep port pk s
  | .probeAnswer pos word, s => execProbeAnswer_keep pos word s
  | .probeTimeout pos, s => execProbeTimeout_keep pos s
  | .declareReceive port pk, s => execDeclareReceive_keep port pk s
  | .isolationTimeout, s => execIsolationTimeout_keep s
  | .agentSilenceTimeout tl, s => execAgentSilenceTimeout_keep tl s
  | .evictionAction pos reason key, s => execEvictionAction_keep pos reason key s
  | .epochFenceAction v, s => execEpochFenceAction_keep v s
  | .epochInstallReceive port pk, s => execEpochInstallReceive_keep port pk s
  | .installedReceive port pk, s => execInstalledReceive_keep port pk s
  | .retireAction unit, s => execRetireAction_keep unit s
  | .clearHistory key, s => execClearHistory_keep key s
  | .gambitAction bytes, s => execGambitAction_keep bytes s
  | .gambitTempStable temp, s => execGambitTempStable_keep temp s
  | .gambitRampDone, s => execGambitRampDone_keep s
  | .gambitDurationEnd errors, s => execGambitDurationEnd_keep errors s
  | .gambitAbort cause, s => execGambitAbort_keep cause s
  | .gambitReplyTimeout, s => execGambitReplyTimeout_keep s
  | .retestStart unit, s => execRetestStart_keep unit s
  | .recorderFreeze, s => execRecorderFreeze_keep s
  | .recorderUnfreeze, s => execRecorderUnfreeze_keep s
  | .freezeTimeout, s => execFreezeTimeout_keep s
  | .recorderClear key holds, s => execRecorderClear_keep key holds s
  | .snapshot, s => execSnapshot_keep s
  | .snapshotInterval, s => execSnapshotInterval_keep s
  | .pcSample unit loc st ctx, s => execPcSample_keep unit loc st ctx s
  | .traceStart, s => execTraceStart_keep s
  | .traceStop, s => execTraceStop_keep s
  | .traceClear, s => execTraceClear_keep s
  | .ppsEdge sec, s => execPpsEdge_keep sec s
  | .alarmCoalesceExpiry seq, s => execAlarmCoalesceExpiry_keep seq s
  | .alarmSend plane, s => execAlarmSend_keep plane s
  | .alarmHoldResend, s => execAlarmHoldResend_keep s
  | .alarmAcknowledge seq, s => execAlarmAcknowledge_keep seq s
  | .objectRead path bytes, s => execObjectRead_keep path bytes s
  | .objectWrite path bytes, s => execObjectWrite_keep path bytes s
  | .objectSwrite path bytes, s => execObjectSwrite_keep path bytes s
  | .sessionTimeout key, s => execSessionTimeout_keep key s
  | .registerWrite path idx sub bytes, s => execRegisterWrite_keep path idx sub bytes s
  | .bar2Write, s => execBar2Write_keep s
  | .ringProduceWrite v, s => execRingProduceWrite_keep v s
  | .ringConsumeWrite v, s => execRingConsumeWrite_keep v s
  | .interruptAck v, s => execInterruptAck_keep v s
  | .configSave v, s => execConfigSave_keep v s
  | .configSaveComplete, s => execConfigSaveComplete_keep s
  | .imageStage bytes, s => execImageStage_keep bytes s
  | .imageActivate bytes, s => execImageActivate_keep bytes s
  | .keyListWrite bytes key, s => execKeyListWrite_keep bytes key s
  | .attestationRequest bytes, s => execAttestationRequest_keep bytes s
  | .policyStage bytes, s => execPolicyStage_keep bytes s
  | .policyRemoval bytes, s => execPolicyRemoval_keep bytes s
  | .powerAverageTick watts, s => execPowerAverageTick_keep watts s
  | .thermalSample temps, s => execThermalSample_keep temps s
  | .reservoirFault hu cause, s => execReservoirFault_keep hu cause s
  | .ledgerReconcile measured, s => execLedgerReconcile_keep measured s
  | .ceilingWrite hu v, s => execCeilingWrite_keep hu v s
  | .outputOvercurrent pin, s => execOutputOvercurrent_keep pin s
  | .outputRelease v, s => execOutputRelease_keep v s
  | .accResetReleaseWrite v, s => execAccResetReleaseWrite_keep v s
  | .accPwrgdFall tl, s => execAccPwrgdFall_keep tl s
  | .accAlert tl, s => execAccAlert_keep tl s
  | .accAlertNoReport tl, s => execAccAlertNoReport_keep tl s
  | .accTherm tl, s => execAccTherm_keep tl s
  | .exerciserEnter, s => execExerciserEnter_keep s
  | .exerciserLeave, s => execExerciserLeave_keep s
  | .exerciserRunStart, s => execExerciserRunStart_keep s
  | .exerciserRunStop, s => execExerciserRunStop_keep s
  | .runLengthExpiry, s => execRunLengthExpiry_keep s
  | .injectionAction bytes, s => execInjectionAction_keep bytes s
  | .reactionDeadline p code, s => execReactionDeadline_keep p code s
  | .scriptEpoch, s => execScriptEpoch_keep s
  | .scriptStepOpen, s => execScriptStepOpen_keep s
  | .scriptStream, s => execScriptStream_keep s
  | .scriptExpect, s => execScriptExpect_keep s
  | .expectTimeout, s => execExpectTimeout_keep s
  | .scriptAckPolicy, s => execScriptAckPolicy_keep s
  | .scriptResend, s => execScriptResend_keep s
  | .scriptFail, s => execScriptFail_keep s
  | .scriptGambit, s => execScriptGambit_keep s
  | .scriptEnd, s => execScriptEnd_keep s
  | .resetRelease w, s => execResetRelease_keep w s
  | .fecLock p, s => execFecLock_keep p s
  | .markSend p, s => execMarkSend_keep p s
  | .pieceResendReqReceive port pk, s => execPieceResendReqReceive_keep port pk s
  | .retentionResend ts w, s => execRetentionResend_keep ts w s
  | .relayRetry prog step seg blk dest, s => execRelayRetry_keep prog step seg blk dest s
  | .bstbCopyComplete c, s => execBstbCopyComplete_keep c s
  | .snapshotWritten, s => execSnapshotWritten_keep s
  | .imageSlotWritten, s => execImageSlotWritten_keep s
  | .duplicateRetentionExpiry client req, s => execDuplicateRetentionExpiry_keep client req s
  | .reservoirCharged hu, s => execReservoirCharged_keep hu s
  | .accPwrgdRise tl, s => execAccPwrgdRise_keep tl s
  | .heartbeatLate p, s => execHeartbeatLate_keep p s
  | .markLate p, s => execMarkLate_keep p s
  | .replayLate p, s => execReplayLate_keep p s

/-- The state that a command answers keeps what the table does not name. -/
theorem Keep.of_exec {c : Instr} {s t : State} (h : exec c s = .next t) : Keep (maskOfParts (partsOf c)) s t := by
  obtain ⟨u, hu, hkeep⟩ := exec_keep c s
  rw [hu] at h
  cases h
  exact hkeep

theorem step_of_nil {s : State} (h : s.pending = []) : step s = .next s.tick := by
  unfold step; rw [h]

theorem step_of_cons {s : State} {c : Instr} {rest : List Instr} (h : s.pending = c :: rest) :
    step s = exec c { s with pending := rest } := by
  unfold step; rw [h]

/-- What every step keeps: the canonical form of both tiers, the floor and the identity. -/
structure StepKeeps (s t : State) : Prop where
  memOk : s.mem.ok = true → t.mem.ok = true
  floor : s.boot.floor.toNat ≤ t.boot.floor.toNat
  ident : t.ident = s.ident

/-- A step is a command or a millisecond, and both keep these. -/
theorem StepKeeps.of_step {s t : State} (h : step s = .next t) : StepKeeps s t := by
  cases hp : s.pending with
  | nil =>
    rw [step_of_nil hp] at h
    cases h
    have hkeep := State.tick_keep (M := 0xC04C2) rfl s (Keep.refl _ s)
    exact ⟨hkeep.memOk, hkeep.floor, hkeep.ident⟩
  | cons c rest =>
    rw [step_of_cons hp] at h
    have hkeep := Keep.of_exec h
    exact ⟨hkeep.memOk, hkeep.floor, hkeep.ident⟩

theorem State.memOk_iff (s : State) : s.memOk ↔ s.mem.ok = true := by
  rw [State.memOk, MemState.ok, Bool.and_eq_true]

/-- Settles O4: a command keeps the canonical form of both tiers, and a millisecond changes neither. That storage errors are not
written by the passing of time is log entry 6's. -/
theorem everyStepKeepsTheMemoryForm : Obligations.EveryStepKeepsTheMemoryForm := fun s t hok h =>
  (State.memOk_iff t).2 ((StepKeeps.of_step h).memOk ((State.memOk_iff s).1 hok))

/-- Settles O5: the mask that a command keeps is made of the parts that the table names for it. -/
theorem everyCommandStaysWithinItsParts : Obligations.EveryCommandStaysWithinItsParts := fun _ _ _ h =>
  have hkeep := Keep.of_exec h
  ⟨hkeep.pending, hkeep.ident, fun p hp => hkeep.same p (testBit_maskOfParts hp)⟩

/-- Settles O6: neither a command nor a millisecond lowers the floor or changes the identity. That the identity is the part's own
from reset is log entry 2's, and that no reset changes either is log entry 61's. -/
theorem rollbackFloorAndIdentityLast : Obligations.RollbackFloorAndIdentityLast := fun _ _ h =>
  ⟨(StepKeeps.of_step h).floor, (StepKeeps.of_step h).ident⟩

/-- Settles O1. -/
theorem stepRunsTheFrontCommand : Obligations.StepRunsTheFrontCommand := fun _ _ _ => step_of_cons rfl

/-- Settles O3: a command answers a next state by what it keeps, and a step with no command waiting answers the next millisecond. -/
theorem everyCommandCompletes : Obligations.EveryCommandCompletes := by
  have hexec (c : Instr) (s : State) : ∃ t, exec c s = .next t := (exec_keep c s).imp fun _ h => h.1
  refine ⟨hexec, fun s => ?_⟩
  cases hp : s.pending with
  | nil => exact ⟨_, step_of_nil hp⟩
  | cons c rest =>
    obtain ⟨t, ht⟩ := hexec c { s with pending := rest }
    exact ⟨t, (step_of_cons hp).trans ht⟩

/-! ## One millisecond -/

theorem State.tick_of_off {s : State} (h : s.job.dev = .off) : s.tick = { s with time := { s.time with now := s.time.now + 1 } } := by
  unfold State.tick; exact if_pos h

/-- The drop events of a second that has ended touch the telemetry and the interrupts alone. -/
theorem State.flushDrops_keep' (i : Fin 2) (s : State) : Keep 0xC0000 s (s.flushDrops i) := by
  unfold State.flushDrops
  dsimp only
  split
  · split
    · exact Keep.refl _ _
    · exact State.record_keep rfl _ _ (Keep.upd_tele rfl (Keep.refl _ _))
  · exact Keep.refl _ _

/-- A millisecond while the supplies are there: the clocks count, the counters of waiting cycles and of FEC codewords gain, and the
rest is telemetry. -/
theorem State.tick_of_on {s : State} (h : s.job.dev ≠ .off) :
    ∃ u v te, Keep 0xC0000 { s with
      time := { s.time with now := s.time.now + 1, opMs := s.time.opMs + 1 }, upd := u, vec := v,
      links := s.links.fecTick (s.time.now + 1), tele := te } s.tick := by
  unfold State.tick
  dsimp only
  rw [if_neg h]
  exact ⟨_, _, _, (State.flushDrops_keep' 0 _).trans (State.flushDrops_keep' 1 _)⟩

theorem LinkState.ports_fecTick (now : Nat) (l : LinkState) (p : Port) :
    ∃ c u, (l.fecTick now).ports[p] = { l.ports[p] with fecCorr := c, fecUncorr := u } := by
  simp only [LinkState.fecTick, Fin.getElem_fin, Vector.getElem_ofFn]
  split
  · exact ⟨_, _, rfl⟩
  · exact ⟨_, _, rfl⟩

theorem LinkState.ports_fecTick_of_dark {now : Nat} {l : LinkState} {p : Port} (h1 : l.ports[p].st ≠ .training)
    (h2 : l.ports[p].st ≠ .active) (h3 : l.ports[p].st ≠ .quarantine) : (l.fecTick now).ports[p] = l.ports[p] := by
  simp only [LinkState.fecTick, Fin.getElem_fin, Vector.getElem_ofFn]
  exact if_neg fun h => h.elim h1 fun h => h.elim h2 h3

/-- Settles O2: a millisecond is the model's choice of log entry 4, its FEC counters those of log entry 80. -/
theorem emptyQueueStepIsOneMillisecond : Obligations.EmptyQueueStepIsOneMillisecond := by
  refine ⟨fun s hp hon => ⟨_, step_of_nil hp, ?_⟩, fun s hp hoff => by rw [step_of_nil hp, State.tick_of_off hoff],
    fun _ _ _ => rfl⟩
  obtain ⟨u, v, te, hkeep⟩ := State.tick_of_on hon
  have hport : ∀ p, s.tick.port p = (s.links.fecTick (s.time.now + 1)).ports[p] := fun p => by rw [State.port, hkeep.links rfl]
  refine ⟨hkeep.time rfl, hkeep.pending.trans hp, hkeep.mem rfl, hkeep.job rfl, hkeep.fence rfl, hkeep.boot rfl,
    fun p => ?moves, fun p h1 h2 h3 => ?dark⟩
  case moves =>
    obtain ⟨c, w, h⟩ := LinkState.ports_fecTick (s.time.now + 1) s.links p
    rw [hport p, h]
    rfl
  case dark => rw [hport p]; exact LinkState.ports_fecTick_of_dark h1 h2 h3

/-- Settles O7: the reset state is the structure's defaults. That the registers of a step and of the job start at zero is log
entry 1's, and the part's environment log entry 2's. -/
theorem resetShowsTheDefaults : Obligations.ResetShowsTheDefaults := by
  refine ⟨rfl, rfl, rfl, rfl, ⟨rfl, rfl⟩, rfl, rfl, rfl, rfl, rfl, rfl, rfl, rfl, rfl, rfl, rfl, rfl, rfl, rfl, rfl, rfl, rfl,
    fun c => ⟨?_, ?_⟩⟩
  · rfl
  · rfl
end Sys2Proof.Machine
end

section
/-! SUPPORT. What an event of class 3 does to the recorder (R427, R430 to R433), and the interrupt of an alarm (R476). -/
namespace Sys2Proof.Machine
open Sys2Proof

/-! ## An event of class 3 that the forwarding map does not name -/

/-- A trace record changes the trace, its counts and what streaming raises, and no record of the recorder (R445, R446). -/
theorem TeleState.traceAdd_fields (now : Nat) (op : U64) (r : TraceRec) (t : TeleState) :
    (t.traceAdd now op r).slots = t.slots ∧ (t.traceAdd now op r).nextSeq = t.nextSeq ∧
      (t.traceAdd now op r).holding = t.holding ∧ (t.traceAdd now op r).refused = t.refused ∧
      (t.traceAdd now op r).holdRefused = t.holdRefused := by
  unfold TeleState.traceAdd
  dsimp only
  repeat' split
  all_goals exact ⟨rfl, rfl, rfl, rfl, rfl⟩

/-- The recorder takes such an event under its own class and raises no alarm for it. -/
theorem State.record_of_plain {s : State} {e : Event} (hcls : e.cls = 3) (hfwd : s.tele.forwarded e.code = none) :
    ∃ r, s.record e = { s with
      tele := (s.tele.recordPlain s.time.cycles s.time.opMs e).1.traceAdd s.time.now s.time.opMs r } := by
  have he : { e with cls := 3 } = e := by rw [← hcls]
  unfold State.record State.recordTele
  simp only [hcls, hfwd, beq_self_eq_true, if_true, Option.getD_none, he]
  exact ⟨_, rfl⟩

/-- What the recorder holds after such an event is what it holds when it has taken it. -/
theorem State.record_of_plain_fields {s : State} {e : Event} (hcls : e.cls = 3) (hfwd : s.tele.forwarded e.code = none) :
    (s.record e).acc = s.acc ∧
      ∀ t, (s.tele.recordPlain s.time.cycles s.time.opMs e).1 = t → (s.record e).tele.slots = t.slots ∧
        (s.record e).tele.nextSeq = t.nextSeq ∧ (s.record e).tele.holding = t.holding ∧
        (s.record e).tele.refused = t.refused ∧ (s.record e).tele.holdRefused = t.holdRefused := by
  obtain ⟨r, hr⟩ := State.record_of_plain hcls hfwd
  rw [hr]
  exact ⟨rfl, fun t ht => ht ▸ TeleState.traceAdd_fields ..⟩

/-! ## The recorder that takes it -/

theorem TeleState.recordPlain_of_repeat {t : TeleState} {cyc : U32} {op : U64} {e : Event} {i : Nat} (hfrozen : t.frozen = false)
    (hrep : findRepeat t.repeatMs op e 256 t.slots = some i) :
    (t.recordPlain cyc op e).1 = ({ t with slots := t.slots.modify i (repeatRec op) }).countBytes 6 64 := by
  unfold TeleState.recordPlain
  rw [hfrozen, if_neg Bool.false_ne_true, hrep]

theorem TeleState.recordPlain_of_new {t : TeleState} {cyc : U32} {op : U64} {e : Event} (hfrozen : t.frozen = false)
    (hrep : findRepeat t.repeatMs op e 256 t.slots = none) : t.recordPlain cyc op e = t.append cyc op (newRec 0 cyc op e) := by
  unfold TeleState.recordPlain
  rw [hfrozen, if_neg Bool.false_ne_true, hrep]

theorem TeleState.append_of_room {t : TeleState} (cyc : U32) (op : U64) (r : EventRec) (hfull : t.full = none)
    (hroom : t.slots.length + 1 < recorderSlots) :
    (t.append cyc op r).1 =
      ({ t with slots := t.slots ++ [{ r with seq := t.nextSeq }], nextSeq := t.nextSeq + 1 } : TeleState).countBytes 6 64 := by
  have hlen : ¬ (t.slots ++ [{ r with seq := t.nextSeq }]).length ≥ recorderSlots := by
    rw [List.length_append, List.length_singleton]; exact not_le_of_gt hroom
  unfold TeleState.append
  rw [hfull]
  dsimp only
  rw [if_neg hlen]

theorem TeleState.append_of_full {t : TeleState} {f : FullRec} (cyc : U32) (op : U64) (r : EventRec) (hfull : t.full = some f) :
    (t.append cyc op r).1.slots = t.slots ∧ (t.append cyc op r).1.refused = addAt t.refused r.cls.toNat 1 ∧
      (t.append cyc op r).1.nextSeq = t.nextSeq := by
  unfold TeleState.append
  rw [hfull]
  exact ⟨rfl, rfl, rfl⟩

theorem TeleState.recordPlain_of_frozen {t : TeleState} {cyc : U32} {op : U64} {e : Event} (hfrozen : t.frozen = true)
    (hrep : findRepeat t.repeatMs op e t.holding.length t.holding = none) :
    (t.recordPlain cyc op e).1 = if t.holding.length < 4096 then { t with holding := t.holding ++ [newRec 0 cyc op e] }
      else { t with holdRefused := bump t.holdRefused } := by
  unfold TeleState.recordPlain
  rw [hfrozen, if_pos rfl, hrep]
  dsimp only
  split <;> rfl

/-! ## Interrupts -/

theorem State.irqPend_raiseIrq {n : Nat} (hn : n < 32) (s : State) : (s.raiseIrq n).acc.irqPend.getLsbD n = true := by
  unfold State.raiseIrq
  split
  case isTrue h => exact h
  case isFalse => simp [hn]

theorem State.record_of_alarm {s : State} {e : Event} (h : e.cls.toNat ≤ 1) :
    s.record e = ({ s with tele := s.recordTele e } : State).raiseIrq 3 := if_pos h

/-- Settles O8: an event that is not forwarded reaches the recorder alone, and there it is a repeat, a record of its own, or refused;
an event of class 0 or 1 ends with the interrupt. -/
theorem recorderTakesAnEventInOrder : Obligations.RecorderTakesAnEventInOrder := by
  refine ⟨fun s e hcls hfwd hfrozen hfull hrep hroom => ?next, fun s e i hcls hfwd hfrozen hrep => ?repeated,
    fun s e f hcls hfwd hfrozen hfull hrep => ?full, fun s e hcls hfwd hfrozen hrep => ?frozen, fun s e hcls => ?alarm⟩
  case next =>
    obtain ⟨hacc, hfields⟩ := State.record_of_plain_fields hcls hfwd
    obtain ⟨hslots, hseq, -⟩ := hfields _ ((congrArg Prod.fst (TeleState.recordPlain_of_new hfrozen hrep)).trans
      (TeleState.append_of_room _ _ _ hfull hroom))
    exact ⟨hslots, hseq, hacc⟩
  case repeated =>
    obtain ⟨-, hfields⟩ := State.record_of_plain_fields hcls hfwd
    obtain ⟨hslots, hseq, -⟩ := hfields _ (TeleState.recordPlain_of_repeat hfrozen hrep)
    exact ⟨hslots, hseq⟩
  case full =>
    obtain ⟨-, hfields⟩ := State.record_of_plain_fields hcls hfwd
    obtain ⟨hslots, hseq, -, hrefused, -⟩ := hfields _ (congrArg Prod.fst (TeleState.recordPlain_of_new hfrozen hrep))
    obtain ⟨kslots, krefused, kseq⟩ := TeleState.append_of_full s.time.cycles s.time.opMs
      (newRec 0 s.time.cycles s.time.opMs e) hfull
    refine ⟨hslots.trans kslots, hrefused.trans (krefused.trans ?_), hseq.trans kseq⟩
    rw [newRec, hcls]
    rfl
  case frozen =>
    obtain ⟨-, hfields⟩ := State.record_of_plain_fields hcls hfwd
    have htaken := TeleState.recordPlain_of_frozen (cyc := s.time.cycles) hfrozen hrep
    by_cases hroom : s.tele.holding.length < 4096
    · obtain ⟨hslots, -, hholding, -⟩ := hfields _ (htaken.trans (if_pos hroom))
      exact ⟨hslots, fun _ => hholding, fun h => absurd hroom (not_lt_of_ge h)⟩
    · obtain ⟨hslots, -, hholding, -, hrefused⟩ := hfields _ (htaken.trans (if_neg hroom))
      exact ⟨hslots, fun h => absurd h hroom, fun _ => ⟨hholding, hrefused⟩⟩
  case alarm =>
    rw [State.record_of_alarm hcls]
    exact State.irqPend_raiseIrq (by decide) _
end Sys2Proof.Machine
end

section
/-! SUPPORT. A partial write that is dropped, in a tier that is not in canonical form. -/
namespace Sys2Proof.Machine
open Sys2Proof

/-- Tier H with two bytes listed against the canonical order of their offsets, in a sector of the poison list. -/
def unorderedTier : State := { mem := { h := [(100, 1), (65, 2)], poisonH := [64] } }

theorem unorderedTier_not_memOk : ¬ unorderedTier.memOk := by unfold State.memOk; decide

/-- A write of byte 65 is a partial write to the sector at 64, which reads uncorrectable. -/
theorem unorderedTier_uncorrectable : unorderedTier.uncorrectable .h (65 / 64 * 64) = true := by decide

/-- The read of the sector leaves the list as it stands, in which a read of byte 65 meets the cell of byte 100 first. -/
theorem unorderedTier_byteOf_read : (unorderedTier.readRange .h (65 / 64 * 64) 64).byteOf .h 65 = 0 := by decide

/-- The dropped write puts the cells below its end in front of the others, and byte 65 is found. -/
theorem unorderedTier_byteOf_write : (unorderedTier.writeMem .h 65 [7]).byteOf .h 65 = 2 := by decide

/-- Refutes O9: the clause on a partial write to an uncorrectable sector has no premise that the tiers are in canonical form, as
the clauses before it have. In a tier whose cells are out of order the dropped write still sorts the cells about its end, so that a
byte reads otherwise than after the read of the sector. (That the tiers are as that read leaves them is log entry 70's choice.) -/
theorem not_memoryWritesReachTheirBytesOnly : ¬ Obligations.MemoryWritesReachTheirBytesOnly := by
  rintro ⟨-, -, -, hpartial, -⟩
  have hread := (hpartial unorderedTier .h .h 65 65 [7] (by decide) (by decide) unorderedTier_uncorrectable).1
  rw [unorderedTier_byteOf_write, unorderedTier_byteOf_read] at hread
  exact absurd hread (by decide)
end Sys2Proof.Machine
end

section
/-! SUPPORT. The issue of an instruction that changes registers only (R170, R171, R174, R180): the operations on each kind of
register leave the program counter and the counters, so the state after it is the one with those registers, gone on by one. -/
namespace Sys2Proof.Machine
open Sys2Proof Sys2Proof.Statements

/-! ## Registers -/

/-- An operation on registers leaves the program counter, the counters and the mark of a conversion. -/
structure RegsOnly (k k' : CoreState) : Prop where
  pc : k'.pc = k.pc
  counters : k'.counters = k.counters
  conv : k'.conv = k.conv

theorem RegsOnly.refl (k : CoreState) : RegsOnly k k := ⟨rfl, rfl, rfl⟩

theorem RegsOnly.setX (r : BitVec 5) (v : U64) (k : CoreState) : RegsOnly k (k.setX r v) := by
  unfold CoreState.setX
  split
  · exact .refl k
  · exact ⟨rfl, rfl, rfl⟩

theorem RegsOnly.setP (r : BitVec 3) (v : U32) (k : CoreState) : RegsOnly k (k.setP r v) := by
  unfold CoreState.setP
  split
  · exact .refl k
  · exact ⟨rfl, rfl, rfl⟩

theorem RegsOnly.setF (r : BitVec 5) (v : U64) (k : CoreState) : RegsOnly k (k.setF r v) := ⟨rfl, rfl, rfl⟩
theorem RegsOnly.setF32 (r : BitVec 5) (v : U32) (k : CoreState) : RegsOnly k (k.setF32 r v) := ⟨rfl, rfl, rfl⟩
theorem RegsOnly.setV (r : BitVec 5) (v : Vector U32 32) (k : CoreState) : RegsOnly k (k.setV r v) := ⟨rfl, rfl, rfl⟩
theorem RegsOnly.mapV (vd : BitVec 5) (pg : BitVec 3) (f : Fin 32 → U32) (k : CoreState) : RegsOnly k (k.mapV vd pg f) :=
  .setV ..

theorem CoreState.mapV_eq_guardedLanes (vd : BitVec 5) (pg : BitVec 3) (f : Fin 32 → U32) (k : CoreState) :
    k.mapV vd pg f = guardedLanes k vd pg f := rfl

/-! ## The issue -/

theorem State.core_issues {s : State} {c : Core} {rs : List RegRef} (h : Issues s c rs) : (s.core c).issues rs = true := h

theorem State.regOp_of_issues {s : State} {c : Core} {rs : List RegRef} {f : CoreState → CoreState} (h : Issues s c rs)
    (hf : RegsOnly (s.core c) (f (s.core c))) : s.regOp c rs f = goneOn s c (f (s.core c)) := by
  unfold State.regOp
  dsimp only
  rw [if_pos (State.core_issues h), goneOn, countsOf, CoreState.next, CoreState.issued, hf.pc, hf.counters]

theorem State.convOp_of_issues {s : State} {c : Core} {rs : List RegRef} {f : CoreState → CoreState × List Rounded}
    (h : Issues s c rs) (hf : RegsOnly (s.core c) (f (s.core c)).1) :
    s.convOp c rs f = converted s c (f (s.core c)).1 (f (s.core c)).2 := by
  unfold State.convOp
  dsimp only
  rw [if_pos (State.core_issues h), converted, convCounted, goneOn, countsOf, CoreState.next, CoreState.issued, hf.pc, hf.counters, hf.conv]

/-! ## Values of a lane -/

@[simp] theorem truth_boolV (b : Bool) : (boolV b).truth = b := by cases b <;> rfl

/-- An element operation whose value is f of its sources writes that value, rounded once, in every guarded lane. -/
theorem State.veOp_of_issues {s : State} {c : Core} {a : VeArgs} {code : Nat} {f : Fv → Fv → Fv → Fv} (h : Issues s c (refsVe a))
    (hop : ∀ x y z, elemOp code x y z = some (f x y z)) : s.veOp code c a = laneResult s c a f := by
  unfold State.veOp
  rw [State.regOp_of_issues (f := CoreState.ve code a) h (.mapV ..), laneResult, CoreState.ve, CoreState.mapV_eq_guardedLanes]
  simp only [elem32, hop, Option.map_some, Option.getD_some]

/-- A scalar element operation writes its value at the word's width; the two that have no width 1 are asked at width 0. -/
theorem State.fopOp_of_issues {s : State} {c : Core} {a : FopArgs} {code : Nat} {f : Fv → Fv → Fv → Fv} (h : Issues s c (refsFop a))
    (hwidth : a.w = true → code ≠ 0x0B ∧ code ≠ 0x0C) (hop : ∀ x y z, elemOp code x y z = some (f x y z)) :
    s.fopOp code c a = scalarResult s c a f := by
  have hfop : (s.core c).fop code a = { s.core c with f := (s.core c).f.set a.fd.toFin (
      if a.w then r64 (f (if a.absa then (v64 ((s.core c).fr a.fa)).absV else v64 ((s.core c).fr a.fa))
        (if a.negb then (v64 ((s.core c).fr a.fb)).negate else v64 ((s.core c).fr a.fb)) (v64 ((s.core c).fr a.fd)))
      else (r32 (f (if a.absa then (v32 ((s.core c).fr32 a.fa)).absV else v32 ((s.core c).fr32 a.fa))
        (if a.negb then (v32 ((s.core c).fr32 a.fb)).negate else v32 ((s.core c).fr32 a.fb))
        (v32 ((s.core c).fr32 a.fd)))).setWidth 64) } := by
    unfold CoreState.fop
    cases hw : a.w
    case true =>
      obtain ⟨h1, h2⟩ := hwidth hw
      simp only [if_true, elem64, hop, Option.map_some, h1, h2, or_self, if_false]
      rfl
    case false =>
      simp only [Bool.false_eq_true, if_false, elem32, hop, Option.map_some]
      rfl
  unfold State.fopOp
  rw [State.regOp_of_issues (f := CoreState.fop code a) h (by rw [hfop]; exact ⟨rfl, rfl, rfl⟩), hfop, scalarResult]
  cases a.w <;> rfl

/-- An integer operation writes its value in every guarded lane. -/
theorem State.viOp_of_issues {s : State} {c : Core} {a : ViArgs} (f : U32 → U32 → U32) (h : Issues s c (refsVi a)) :
    s.regOp c (refsVi a) (CoreState.vi f a) = intLanes s c a f := State.regOp_of_issues h (.mapV ..)

/-- A compare whose verdict on a lane is f combines the guarded lanes into its predicate. -/
theorem State.vcOp_of_issues {s : State} {c : Core} {a : VcArgs} {code : Nat} {f : Fv → Fv → Bool} (h : Issues s c (refsVc a))
    (hop : ∀ x y : U32, vcLane code a.absa a.negb x y =
      f (if a.absa then (v32 x).absV else v32 x) (if a.negb then (v32 y).negate else v32 y)) :
    s.regOp c (refsVc a) (CoreState.vc code a) = comparePredicate s c a f := by
  rw [State.regOp_of_issues (f := CoreState.vc code a) h (.setP ..), comparePredicate, CoreState.vc]
  simp only [hop]
  rfl

end Sys2Proof.Machine
end

section
/-! SUPPORT. The VE instructions (R114, R117, R118, R170). -/
namespace Sys2Proof.Machine
open Sys2Proof Sys2Proof.Statements

/-- Settles O27: an instruction that issues applies the operation that its code names to every guarded lane. The value of a
saturated or non-finite result is the rounding's, its free values log entry 3's; the core's issue is log entry 55's. -/
theorem vectorElementInstructionsComputeEveryGuardedLane : Obligations.VectorElementInstructionsComputeEveryGuardedLane := by
  refine ⟨?sysNop, ?veNop, ?veMov, ?veAdd, ?veSub, ?veMul, ?veFma, ?veFms, ?veDiv, ?veSqrt, ?veRsqrt, ?veRcp, ?veMax, ?veMin, ?veAbs, ?veNeg, ?veSign, ?veSel, ?veCmplt, ?veCmple, ?veCmpeq, ?veClamp⟩
  case sysNop => exact fun s c h => congrArg Host.Outcome.next (State.regOp_of_issues (f := id) h (.refl _))
  case veNop => exact fun s c a h => congrArg Host.Outcome.next (State.regOp_of_issues (f := id) h (.refl _))
  case veMov => exact fun s c a h => congrArg Host.Outcome.next (State.veOp_of_issues h fun _ _ _ => rfl)
  case veAdd => exact fun s c a h => congrArg Host.Outcome.next (State.veOp_of_issues h fun _ _ _ => rfl)
  case veSub => exact fun s c a h => congrArg Host.Outcome.next (State.veOp_of_issues h fun _ _ _ => rfl)
  case veMul => exact fun s c a h => congrArg Host.Outcome.next (State.veOp_of_issues h fun _ _ _ => rfl)
  case veFma => exact fun s c a h => congrArg Host.Outcome.next (State.veOp_of_issues h fun _ _ _ => rfl)
  case veFms => exact fun s c a h => congrArg Host.Outcome.next (State.veOp_of_issues h fun _ _ _ => rfl)
  case veDiv => exact fun s c a h => congrArg Host.Outcome.next (State.veOp_of_issues h fun _ _ _ => rfl)
  case veSqrt => exact fun s c a h => congrArg Host.Outcome.next (State.veOp_of_issues h fun _ _ _ => rfl)
  case veRsqrt => exact fun s c a h => congrArg Host.Outcome.next (State.veOp_of_issues h fun _ _ _ => rfl)
  case veRcp => exact fun s c a h => congrArg Host.Outcome.next (State.veOp_of_issues h fun _ _ _ => rfl)
  case veMax => exact fun s c a h => congrArg Host.Outcome.next (State.veOp_of_issues h fun _ _ _ => rfl)
  case veMin => exact fun s c a h => congrArg Host.Outcome.next (State.veOp_of_issues h fun _ _ _ => rfl)
  case veAbs => exact fun s c a h => congrArg Host.Outcome.next (State.veOp_of_issues h fun _ _ _ => rfl)
  case veNeg => exact fun s c a h => congrArg Host.Outcome.next (State.veOp_of_issues h fun _ _ _ => rfl)
  case veSign => exact fun s c a h => congrArg Host.Outcome.next (State.veOp_of_issues h fun _ _ _ => rfl)
  case veSel => exact fun s c a h => congrArg Host.Outcome.next (State.veOp_of_issues h fun _ _ _ => rfl)
  case veCmplt => exact fun s c a h => congrArg Host.Outcome.next (State.veOp_of_issues h fun _ _ _ => rfl)
  case veCmple => exact fun s c a h => congrArg Host.Outcome.next (State.veOp_of_issues h fun _ _ _ => rfl)
  case veCmpeq => exact fun s c a h => congrArg Host.Outcome.next (State.veOp_of_issues h fun _ _ _ => rfl)
  case veClamp => exact fun s c a h => congrArg Host.Outcome.next (State.veOp_of_issues h fun _ _ _ => rfl)

end Sys2Proof.Machine
end

section
/-! SUPPORT. The FOP instructions (R117, R118, R171). -/
namespace Sys2Proof.Machine
open Sys2Proof Sys2Proof.Statements

/-- Settles O28: an instruction that issues applies the operation that its code names at the word's width. The free values of a
rounding are log entry 3's; the core's issue is log entry 55's. -/
theorem scalarFloatInstructionsRoundOnceAtTheirWidth : Obligations.ScalarFloatInstructionsRoundOnceAtTheirWidth := by
  have hone (a : FopArgs) (hw : a.w = false) (code : Nat) : a.w = true → code ≠ 0x0B ∧ code ≠ 0x0C := fun h => by
    rw [hw] at h; cases h
  refine ⟨?fopMov, ?fopAdd, ?fopSub, ?fopMul, ?fopFma, ?fopFms, ?fopDiv, ?fopSqrt, ?fopRsqrt, ?fopRcp, ?fopMax, ?fopMin, ?fopAbs, ?fopNeg, ?fopSign, ?fopSel, ?fopCmplt, ?fopCmple, ?fopCmpeq, ?fopClamp, ?fopNop⟩
  case fopMov => exact fun s c a h => congrArg Host.Outcome.next (State.fopOp_of_issues h (fun _ => by decide) fun _ _ _ => rfl)
  case fopAdd => exact fun s c a h => congrArg Host.Outcome.next (State.fopOp_of_issues h (fun _ => by decide) fun _ _ _ => rfl)
  case fopSub => exact fun s c a h => congrArg Host.Outcome.next (State.fopOp_of_issues h (fun _ => by decide) fun _ _ _ => rfl)
  case fopMul => exact fun s c a h => congrArg Host.Outcome.next (State.fopOp_of_issues h (fun _ => by decide) fun _ _ _ => rfl)
  case fopFma => exact fun s c a h => congrArg Host.Outcome.next (State.fopOp_of_issues h (fun _ => by decide) fun _ _ _ => rfl)
  case fopFms => exact fun s c a h => congrArg Host.Outcome.next (State.fopOp_of_issues h (fun _ => by decide) fun _ _ _ => rfl)
  case fopDiv => exact fun s c a h => congrArg Host.Outcome.next (State.fopOp_of_issues h (fun _ => by decide) fun _ _ _ => rfl)
  case fopSqrt => exact fun s c a h => congrArg Host.Outcome.next (State.fopOp_of_issues h (fun _ => by decide) fun _ _ _ => rfl)
  case fopRsqrt => exact fun s c a hw h => congrArg Host.Outcome.next (State.fopOp_of_issues h (hone a hw _) fun _ _ _ => rfl)
  case fopRcp => exact fun s c a hw h => congrArg Host.Outcome.next (State.fopOp_of_issues h (hone a hw _) fun _ _ _ => rfl)
  case fopMax => exact fun s c a h => congrArg Host.Outcome.next (State.fopOp_of_issues h (fun _ => by decide) fun _ _ _ => rfl)
  case fopMin => exact fun s c a h => congrArg Host.Outcome.next (State.fopOp_of_issues h (fun _ => by decide) fun _ _ _ => rfl)
  case fopAbs => exact fun s c a h => congrArg Host.Outcome.next (State.fopOp_of_issues h (fun _ => by decide) fun _ _ _ => rfl)
  case fopNeg => exact fun s c a h => congrArg Host.Outcome.next (State.fopOp_of_issues h (fun _ => by decide) fun _ _ _ => rfl)
  case fopSign => exact fun s c a h => congrArg Host.Outcome.next (State.fopOp_of_issues h (fun _ => by decide) fun _ _ _ => rfl)
  case fopSel => exact fun s c a h => congrArg Host.Outcome.next (State.fopOp_of_issues h (fun _ => by decide) fun _ _ _ => rfl)
  case fopCmplt => exact fun s c a h => congrArg Host.Outcome.next (State.fopOp_of_issues h (fun _ => by decide) fun _ _ _ => rfl)
  case fopCmple => exact fun s c a h => congrArg Host.Outcome.next (State.fopOp_of_issues h (fun _ => by decide) fun _ _ _ => rfl)
  case fopCmpeq => exact fun s c a h => congrArg Host.Outcome.next (State.fopOp_of_issues h (fun _ => by decide) fun _ _ _ => rfl)
  case fopClamp => exact fun s c a h => congrArg Host.Outcome.next (State.fopOp_of_issues h (fun _ => by decide) fun _ _ _ => rfl)
  case fopNop => exact fun s c a h => congrArg Host.Outcome.next (State.regOp_of_issues (f := id) h (.refl _))

end Sys2Proof.Machine
end

section
/-! SUPPORT. The VI and VC instructions (R171). -/
namespace Sys2Proof.Machine
open Sys2Proof Sys2Proof.Statements

/-- Settles O29: an instruction that issues writes the operation's value in every guarded lane, or combines the verdicts of a
compare into its predicate. The core's issue is log entry 55's. -/
theorem integerLanesAndComparesWriteWhatTheTableSays : Obligations.IntegerLanesAndComparesWriteWhatTheTableSays := by
  refine ⟨?iadd, ?isub, ?imul, ?iand, ?ior, ?ixor, ?ishl, ?ishr, ?isra, ?iminu, ?imaxu, ?i2f, ?iidx, ?test, ?vcCmplt, ?vcCmple, ?vcCmpeq⟩
  case iadd => exact fun s c a h => congrArg Host.Outcome.next (State.viOp_of_issues _ h)
  case isub => exact fun s c a h => congrArg Host.Outcome.next (State.viOp_of_issues _ h)
  case imul => exact fun s c a h => congrArg Host.Outcome.next (State.viOp_of_issues _ h)
  case iand => exact fun s c a h => congrArg Host.Outcome.next (State.viOp_of_issues _ h)
  case ior => exact fun s c a h => congrArg Host.Outcome.next (State.viOp_of_issues _ h)
  case ixor => exact fun s c a h => congrArg Host.Outcome.next (State.viOp_of_issues _ h)
  case ishl => exact fun s c a h => congrArg Host.Outcome.next (State.viOp_of_issues _ h)
  case ishr => exact fun s c a h => congrArg Host.Outcome.next (State.viOp_of_issues _ h)
  case isra => exact fun s c a h => congrArg Host.Outcome.next (State.viOp_of_issues _ h)
  case iminu => exact fun s c a h => congrArg Host.Outcome.next (State.viOp_of_issues _ h)
  case imaxu => exact fun s c a h => congrArg Host.Outcome.next (State.viOp_of_issues _ h)
  case i2f => exact fun s c a h => congrArg Host.Outcome.next (State.viOp_of_issues _ h)
  case iidx => exact fun s c a h => congrArg Host.Outcome.next (State.regOp_of_issues h (.mapV ..))
  case test => exact fun s c a h => congrArg Host.Outcome.next (State.vcOp_of_issues h fun _ _ => rfl)
  case vcCmplt => exact fun s c a h => congrArg Host.Outcome.next (State.vcOp_of_issues h fun _ _ => truth_boolV _)
  case vcCmple => exact fun s c a h => congrArg Host.Outcome.next (State.vcOp_of_issues h fun _ _ => truth_boolV _)
  case vcCmpeq => exact fun s c a h => congrArg Host.Outcome.next (State.vcOp_of_issues h fun _ _ => truth_boolV _)

end Sys2Proof.Machine
end

section
/-! SUPPORT. The VRED, VMOV and PR instructions (R171). -/
namespace Sys2Proof.Machine
open Sys2Proof Sys2Proof.Statements

/-- Settles O30: an instruction that issues writes the one register that it names. The free values of a rounding are log entry 3's;
the core's issue is log entry 55's. -/
theorem reductionsMovesAndPredicatesWriteOneRegister : Obligations.ReductionsMovesAndPredicatesWriteOneRegister := by
  refine ⟨?vredAdd, ?vredMax, ?vredMin, ?vbcast, ?vbcastx, ?vext, ?vins, ?vmovr, ?vperm, ?pand, ?por, ?pxor, ?pandn, ?pnot, ?pset, ?pclr, ?pcount, ?ptox, ?pfromx, ?pfirst, ?plt⟩
  case vredAdd =>
    rintro s c a _ h rfl
    exact congrArg Host.Outcome.next (State.regOp_of_issues (f := CoreState.vred addV (.fin false 0 0) a) h (.setF32 ..))
  case vredMax =>
    rintro s c a _ h rfl
    exact congrArg Host.Outcome.next (State.regOp_of_issues (f := CoreState.vred maxV (.inf true) a) h (.setF32 ..))
  case vredMin =>
    rintro s c a _ h rfl
    exact congrArg Host.Outcome.next (State.regOp_of_issues (f := CoreState.vred minV (.inf false) a) h (.setF32 ..))
  case vbcast => exact fun s c a h => congrArg Host.Outcome.next (State.regOp_of_issues h (.mapV ..))
  case vbcastx => exact fun s c a h => congrArg Host.Outcome.next (State.regOp_of_issues h (.mapV ..))
  case vext => exact fun s c a h => congrArg Host.Outcome.next (State.regOp_of_issues h (.setF32 ..))
  case vins => exact fun s c a h => congrArg Host.Outcome.next (State.regOp_of_issues h (.setV ..))
  case vmovr => exact fun s c a h => congrArg Host.Outcome.next (State.regOp_of_issues h (.mapV ..))
  case vperm => exact fun s c a h => congrArg Host.Outcome.next (State.regOp_of_issues h (.mapV ..))
  case pand => exact fun s c a h => congrArg Host.Outcome.next (State.regOp_of_issues h (.setP ..))
  case por => exact fun s c a h => congrArg Host.Outcome.next (State.regOp_of_issues h (.setP ..))
  case pxor => exact fun s c a h => congrArg Host.Outcome.next (State.regOp_of_issues h (.setP ..))
  case pandn => exact fun s c a h => congrArg Host.Outcome.next (State.regOp_of_issues h (.setP ..))
  case pnot => exact fun s c a h => congrArg Host.Outcome.next (State.regOp_of_issues h (.setP ..))
  case pset => exact fun s c a h => congrArg Host.Outcome.next (State.regOp_of_issues h (.setP ..))
  case pclr => exact fun s c a h => congrArg Host.Outcome.next (State.regOp_of_issues h (.setP ..))
  case pcount => exact fun s c a h => congrArg Host.Outcome.next (State.regOp_of_issues h (.setX ..))
  case ptox => exact fun s c a h => congrArg Host.Outcome.next (State.regOp_of_issues h (.setX ..))
  case pfromx => exact fun s c a h => congrArg Host.Outcome.next (State.regOp_of_issues h (.setP ..))
  case pfirst => exact fun s c a h => congrArg Host.Outcome.next (State.regOp_of_issues h (.setX ..))
  case plt => exact fun s c a h => congrArg Host.Outcome.next (State.regOp_of_issues h (.setP ..))

end Sys2Proof.Machine
end

section
/-! SUPPORT. The XR, XI and LUI instructions, and the registers X0 and P0 (R159, R171). -/
namespace Sys2Proof.Machine
open Sys2Proof Sys2Proof.Statements

theorem State.xrOp_of_issues {s : State} {c : Core} {a : XrArgs} {x y : U64} (f : U64 → U64 → U64) (h : Issues s c (refsXr a))
    (hx : x = (s.core c).xr a.xa) (hy : y = (s.core c).xr a.xb) :
    s.regOp c (refsXr a) (CoreState.xr2 f a) = goneOn s c ((s.core c).setX a.xd (f x y)) := by
  subst hx hy
  exact State.regOp_of_issues h (.setX ..)

theorem State.xiOp_of_issues {s : State} {c : Core} {a : XiArgs} {x y : U64} (f : U64 → U64 → U64) (h : Issues s c (refsXi a))
    (hx : x = (s.core c).xr a.xa) (hy : y = a.imm.signExtend 64) :
    s.regOp c (refsXi a) (CoreState.xi2 f a) = goneOn s c ((s.core c).setX a.xd (f x y)) := by
  subst hx hy
  exact State.regOp_of_issues h (.setX ..)

/-! ## What a register reads after a write -/

theorem CoreState.setX_zero (k : CoreState) (v : U64) : k.setX 0 v = k := rfl
theorem CoreState.setP_zero (k : CoreState) (v : U32) : k.setP 0 v = k := rfl

theorem BitVec.toFin_ne {n : Nat} {q r : BitVec n} (h : q ≠ r) : r.toFin.val ≠ q.toFin.val := fun e =>
  h (BitVec.eq_of_toNat_eq e.symm)

theorem CoreState.xr_setX {r : BitVec 5} (hr : r ≠ 0) (v : U64) (k : CoreState) (q : BitVec 5) :
    (k.setX r v).xr q = if q = r then v else k.xr q := by
  have hr' : ¬ (r == 0) = true := by simpa using hr
  rw [CoreState.setX, if_neg hr']
  by_cases hq : q = r
  · subst hq
    simp only [CoreState.xr, if_neg hr', if_pos, Fin.getElem_fin, Vector.getElem_set_self]
  · simp only [CoreState.xr, if_neg hq, Fin.getElem_fin, Vector.getElem_set_ne _ _ (BitVec.toFin_ne hq)]

theorem CoreState.pr_setP {r : BitVec 3} (hr : r ≠ 0) (v : U32) (k : CoreState) (q : BitVec 3) :
    (k.setP r v).pr q = if q = r then v else k.pr q := by
  have hr' : ¬ (r == 0) = true := by simpa using hr
  rw [CoreState.setP, if_neg hr']
  by_cases hq : q = r
  · subst hq
    simp only [CoreState.pr, if_neg hr', if_pos, Fin.getElem_fin, Vector.getElem_set_self]
  · simp only [CoreState.pr, if_neg hq, Fin.getElem_fin, Vector.getElem_set_ne _ _ (BitVec.toFin_ne hq)]

/-- Settles O31: an instruction that issues writes its value to its X register; a register reads what was last written to it, but
for X0 and P0. The core's issue is log entry 55's. -/
theorem scalarIntegerInstructionsWriteOneXRegister : Obligations.ScalarIntegerInstructionsWriteOneXRegister := by
  refine ⟨?xrAdd, ?xrSub, ?xrMul, ?mulhu, ?divu, ?remu, ?xrAnd, ?xrOr, ?xrXor, ?sll, ?srl, ?sra, ?slt, ?sltu, ?minu, ?maxu, ?addi, ?andi, ?ori, ?xori, ?slti, ?sltiu, ?slli, ?srli, ?srai, ?lui, ?zeroX, ?setX, ?onesP, ?setP⟩
  case xrAdd => exact fun s c a x y h hx hy => congrArg Host.Outcome.next (State.xrOp_of_issues _ h hx hy)
  case xrSub => exact fun s c a x y h hx hy => congrArg Host.Outcome.next (State.xrOp_of_issues _ h hx hy)
  case xrMul => exact fun s c a x y h hx hy => congrArg Host.Outcome.next (State.xrOp_of_issues _ h hx hy)
  case mulhu => exact fun s c a x y h hx hy => congrArg Host.Outcome.next (State.xrOp_of_issues _ h hx hy)
  case divu => exact fun s c a x y h hx hy => congrArg Host.Outcome.next (State.xrOp_of_issues _ h hx hy)
  case remu => exact fun s c a x y h hx hy => congrArg Host.Outcome.next (State.xrOp_of_issues _ h hx hy)
  case xrAnd => exact fun s c a x y h hx hy => congrArg Host.Outcome.next (State.xrOp_of_issues _ h hx hy)
  case xrOr => exact fun s c a x y h hx hy => congrArg Host.Outcome.next (State.xrOp_of_issues _ h hx hy)
  case xrXor => exact fun s c a x y h hx hy => congrArg Host.Outcome.next (State.xrOp_of_issues _ h hx hy)
  case sll => exact fun s c a x y h hx hy => congrArg Host.Outcome.next (State.xrOp_of_issues _ h hx hy)
  case srl => exact fun s c a x y h hx hy => congrArg Host.Outcome.next (State.xrOp_of_issues _ h hx hy)
  case sra => exact fun s c a x y h hx hy => congrArg Host.Outcome.next (State.xrOp_of_issues _ h hx hy)
  case slt => exact fun s c a x y h hx hy => congrArg Host.Outcome.next (State.xrOp_of_issues _ h hx hy)
  case sltu => exact fun s c a x y h hx hy => congrArg Host.Outcome.next (State.xrOp_of_issues _ h hx hy)
  case minu => exact fun s c a x y h hx hy => congrArg Host.Outcome.next (State.xrOp_of_issues _ h hx hy)
  case maxu => exact fun s c a x y h hx hy => congrArg Host.Outcome.next (State.xrOp_of_issues _ h hx hy)
  case addi => exact fun s c a x y h hx hy => congrArg Host.Outcome.next (State.xiOp_of_issues _ h hx hy)
  case andi => exact fun s c a x y h hx hy => congrArg Host.Outcome.next (State.xiOp_of_issues _ h hx hy)
  case ori => exact fun s c a x y h hx hy => congrArg Host.Outcome.next (State.xiOp_of_issues _ h hx hy)
  case xori => exact fun s c a x y h hx hy => congrArg Host.Outcome.next (State.xiOp_of_issues _ h hx hy)
  case slti => exact fun s c a x y h hx hy => congrArg Host.Outcome.next (State.xiOp_of_issues _ h hx hy)
  case sltiu => exact fun s c a x y h hx hy => congrArg Host.Outcome.next (State.xiOp_of_issues _ h hx hy)
  case slli => exact fun s c a x y h hx hy => congrArg Host.Outcome.next (State.xiOp_of_issues _ h hx hy)
  case srli => exact fun s c a x y h hx hy => congrArg Host.Outcome.next (State.xiOp_of_issues _ h hx hy)
  case srai => exact fun s c a x y h hx hy => congrArg Host.Outcome.next (State.xiOp_of_issues _ h hx hy)
  case lui => exact fun s c xd imm h => congrArg Host.Outcome.next (State.regOp_of_issues h (.setX ..))
  case zeroX => exact fun k v => ⟨rfl, k.setX_zero v⟩
  case setX => exact fun k r v hr => ⟨(CoreState.xr_setX hr v k r).trans (if_pos rfl), fun q hq => (CoreState.xr_setX hr v k q).trans (if_neg hq)⟩
  case onesP => exact fun k v => ⟨rfl, k.setP_zero v⟩
  case setP => exact fun k r v hr => ⟨(CoreState.pr_setP hr v k r).trans (if_pos rfl), fun q hq => (CoreState.pr_setP hr v k q).trans (if_neg hq)⟩

end Sys2Proof.Machine
end

section
/-! SUPPORT. The conversions and raw moves (R49 to R53, R170, R171). -/
namespace Sys2Proof.Machine
open Sys2Proof Sys2Proof.Statements

/-- The state that a conversion with these values leaves, for any list that names its roundings. -/
theorem State.convOp_eq {s : State} {c : Core} {rs : List RegRef} {f : CoreState → CoreState × List Rounded} {k : CoreState}
    {l : List Rounded} (h : Issues s c rs) (hf : f (s.core c) = (k, l)) (hk : RegsOnly (s.core c) k) :
    s.convOp c rs f = converted s c k l := by
  rw [State.convOp_of_issues h (by rw [hf]; exact hk), hf]

theorem CoreState.fopCvt_widen {a : FopArgs} (hw : a.w = false) (ht : a.fb.toNat % 16 = 1) (k : CoreState) :
    k.fopCvt a = (k.setF a.fd (r64 (if a.absa then (v32 (k.fr32 a.fa)).absV else v32 (k.fr32 a.fa))), []) := by
  simp [CoreState.fopCvt, hw, ht]

theorem CoreState.fopCvt_round {a : FopArgs} (h : a.w = true ∨ a.fb.toNat % 16 ≠ 1) (k : CoreState) {x : Fv}
    (hx : x = if a.w then v64 (k.fr a.fa) else v32 (k.fr32 a.fa)) :
    k.fopCvt a = (k.setF32 a.fd (r32 (valueOf (a.fb.toNat % 16) (convertTo (a.fb.toNat % 16) (if a.absa then x.absV else x)).bits)),
      [convertTo (a.fb.toNat % 16) (if a.absa then x.absV else x)]) := by
  have hcond : (!a.w && a.fb.toNat % 16 == 1) = false := by
    rcases h with h | h
    · simp [h]
    · simp [h]
  subst hx
  simp only [CoreState.fopCvt, hcond, Bool.false_eq_true, if_false]

theorem bumpBy_zero (n : U64) : bumpBy n 0 = n := by simp [bumpBy]

theorem State.countConv_zero (s : State) : s.countConv 0 0 = s := by
  rw [State.countConv, bumpBy_zero, bumpBy_zero]

/-- With no rounding to count a conversion leaves what a register operation leaves. -/
theorem converted_nil (s : State) (c : Core) (k : CoreState) (hk : k.conv = (s.core c).conv) :
    converted s c k [] = goneOn s c k := by
  rw [converted, convCounted, List.any_nil, Bool.or_false, ← hk]
  exact State.countConv_zero _

/-- Settles O32: a conversion that issues delivers its roundings and counts them, and the mark of a non-finite one stays with the
invocation, which is log entry 79's choice; a raw move counts nothing. The core's issue is log entry 55's. -/
theorem conversionsRoundCountAndMovesKeepBits : Obligations.ConversionsRoundCountAndMovesKeepBits := by
  refine ⟨fun s c a one h hone => ?veCvt, fun s c a one h hone => ?f2i, fun s c a h hw ht => ?widen, fun s c a r x h hwt hx hr => ?fopCvt,
    fun s c d a r h hr => ?fcvtxf, ?fcvtfx, ?fmvxf, ?fmvfx⟩
  case veCvt =>
    obtain rfl : one = fun i => convertTo (a.vb.toNat % 16) (v32 (if a.absa then r32 (v32 ((s.core c).vr a.va)[i]).absV
      else ((s.core c).vr a.va)[i])) := funext hone
    exact congrArg Host.Outcome.next (State.convOp_eq h rfl (.mapV ..))
  case f2i =>
    obtain rfl : one = fun i => roundInt 32 (-2147483648) 2147483647 (v32 ((s.core c).vr a.va)[i]) := funext hone
    exact congrArg Host.Outcome.next (State.convOp_eq h rfl (.mapV ..))
  case widen =>
    refine congrArg Host.Outcome.next ?_
    rw [State.convOp_eq h (CoreState.fopCvt_widen hw ht _) (.setF ..)]
    exact converted_nil s c _ rfl
  case fopCvt =>
    subst hr
    exact congrArg Host.Outcome.next (State.convOp_eq h (CoreState.fopCvt_round hwt _ hx) (.setF32 ..))
  case fcvtxf =>
    subst hr
    exact congrArg Host.Outcome.next (State.convOp_eq h rfl (.setX ..))
  case fcvtfx => exact fun s c d a h => congrArg Host.Outcome.next (State.regOp_of_issues h (.setF ..))
  case fmvxf => exact fun s c d a h => congrArg Host.Outcome.next (State.regOp_of_issues h (.setX ..))
  case fmvfx => exact fun s c d a h => congrArg Host.Outcome.next (State.regOp_of_issues h (.setF ..))

end Sys2Proof.Machine
end

section
/-! SUPPORT. Branches, jumps, END, FAULT and the end of a run (R160, R161, R164, R169, R171). -/
namespace Sys2Proof.Machine
open Sys2Proof Sys2Proof.Statements

/-! ## The cores -/

@[simp] theorem State.core_setCore (c : Core) (k : CoreState) (s : State) : (s.setCore c k).core c = k := by
  simp [State.core, State.setCore]

@[simp] theorem State.setCore_setCore (c : Core) (k l : CoreState) (s : State) : (s.setCore c k).setCore c l = s.setCore c l := by
  simp [State.setCore]

theorem State.vec_setCore (c : Core) (k : CoreState) (s : State) : (s.setCore c k).vec = { s.vec with cores := s.vec.cores.set c k } := rfl

/-! ## Branches and jumps -/

theorem State.jumpOp_of_issues {s : State} {c : Core} {rs : List RegRef} {f : CoreState → CoreState} (h : Issues s c rs) :
    s.jumpOp c rs f = s.setCore c (f (s.core c).issued) := if_pos h

theorem CoreState.xr_issued (k : CoreState) (r : BitVec 5) : k.issued.xr r = k.xr r := rfl
theorem CoreState.pr_issued (k : CoreState) (r : BitVec 3) : k.issued.pr r = k.pr r := rfl

theorem BitVec.values3 : ∀ k : BitVec 3, k = 0 ∨ k = 1 ∨ k = 2 ∨ k = 3 ∨ k = 4 ∨ k = 5 ∨ k = 6 ∨ k = 7 := by decide
theorem BitVec.values2 : ∀ k : BitVec 2, k = 0 ∨ k = 1 ∨ k = 2 ∨ k = 3 := by decide

/-- The conditions of BR (R171). -/
theorem brTaken_iff (cond : BitVec 3) (x y : U64) : brTaken cond x y = true ↔
    (cond = 0 ∧ x = y) ∨ (cond = 1 ∧ x ≠ y) ∨ (cond = 2 ∧ x.toInt < y.toInt) ∨ (cond = 3 ∧ y.toInt ≤ x.toInt) ∨
      (cond = 4 ∧ x.toNat < y.toNat) ∨ (cond = 5 ∧ y.toNat ≤ x.toNat) := by
  rcases BitVec.values3 cond with rfl | rfl | rfl | rfl | rfl | rfl | rfl | rfl <;>
    simp [brTaken, BitVec.slt, BitVec.lt_def, BitVec.le_def]

/-- The conditions of BP (R171). -/
theorem bpTaken_iff (cond : BitVec 2) (p : U32) : bpTaken cond p = true ↔
    (cond = 0 ∧ p ≠ 0) ∨ (cond = 1 ∧ p = 0) ∨ (cond = 2 ∧ p = 0xFFFFFFFF) ∨ (cond = 3 ∧ p ≠ 0xFFFFFFFF) := by
  rcases BitVec.values2 cond with rfl | rfl | rfl | rfl <;> simp [bpTaken]

/-- A link register takes its value as the instruction is counted and the program counter set. -/
theorem CoreState.setX_issued (r : BitVec 5) (v : U64) (k : CoreState) (pc : U32) :
    { k.issued.setX r v with pc := pc } = { k.setX r v with counters := k.issued.counters, pc := pc } := by
  unfold CoreState.setX
  split <;> rfl

theorem jalr_of_issues {s : State} {c : Core} {xd xa : BitVec 5} (h : Issues s c [.x xd.toNat, .x xa.toNat]) :
    jalr c xd xa s =
      if ((s.core c).xr xa).toNat % 4 ≠ 0 then s.vcFault c 1 ((s.core c).xr xa)
      else if ((s.core c).xr xa).toNat ≥ s.slotBytes (s.core c) then s.vcFault c 5 ((s.core c).xr xa)
      else s.setCore c { (s.core c).issued.setX xd (((s.core c).pc + 4).setWidth 64) with
        pc := ((s.core c).xr xa).setWidth 32 } := by
  have hi : ¬ (!(s.core c).issues [.x xd.toNat, .x xa.toNat]) = true := by rw [State.core_issues h]; decide
  unfold jalr
  dsimp only
  rw [if_neg hi]

/-! ## The end of a run -/

theorem State.placeAgain_of_none {s : State} (ha : s.vec.again = []) : s.placeAgain = s := by
  unfold State.placeAgain
  rw [ha]
  rfl

/-- A core that has nothing queued starts nothing, and with no invocation waiting for a place none is placed. -/
theorem State.startNext_of_idle {s : State} {c : Core} (hq : (s.core c).queue = none) (ha : s.vec.again = []) :
    s.startNext c = s := by
  unfold State.startNext
  dsimp only
  split
  case h_1 hqueue => rw [hq] at hqueue; cases hqueue
  case h_2 => exact State.placeAgain_of_none ha

/-- The state of a core whose run has ended and whose queue is empty. -/
theorem State.endRun_of_good {s : State} {c : Core} {i : Invoc} {e : EndKind} (hrun : (s.core c).running = some i)
    (hq : (s.core c).queue = none) (ha : s.vec.again = []) (he : (e.good || i.check) = true) (pc : U32) :
    s.endRun c pc e = s.setCore c { (s.core c).stop with
      finished := (s.core c).finished ++ [⟨c, pc, i, (s.core c).staged, (s.core c).latch, e⟩] } := by
  unfold State.endRun
  simp only [hrun, he, if_true]
  exact State.startNext_of_idle (by rw [State.core_setCore]; exact hq) ha

/-- A run that ends badly and is no check keeps no record of its end. -/
theorem State.endRun_of_bad {s : State} {c : Core} {i : Invoc} {e : EndKind} (hrun : (s.core c).running = some i)
    (hq : (s.core c).queue = none) (ha : s.vec.again = []) (he : e.good = false) (hc : i.check = false) (pc : U32) :
    s.endRun c pc e = (s.setCore c (s.core c).stop).endBad c i pc e := by
  unfold State.endRun
  simp only [hrun, he, hc, Bool.or_self, Bool.false_eq_true, if_false]
  exact congrArg (State.endBad c i pc e) (State.startNext_of_idle (by rw [State.core_setCore]; exact hq) ha)

/-- A fault counts once in the vector unit; its event and its shard's failure leave that unit's state (R160). -/
theorem State.vec_endBad_fault (c : Core) (i : Invoc) (pc : U32) (code : U8) (addr : U64) (s : State) :
    (s.endBad c i pc (.fault code addr)).vec = { s.vec with faults := bump s.vec.faults } := by
  simp [State.endBad]

theorem endOp_of_issues {s : State} {c : Core} {xa : BitVec 5} (h : Issues s c [.x xa.toNat]) :
    endOp c xa s = if (s.core c).copying then s.setCore c { (s.core c).issued with endWait := some (((s.core c).xr xa).setWidth 8) }
      else (s.setCore c (s.core c).issued).endRun c (s.core c).pc (.status (((s.core c).xr xa).setWidth 8)) := by
  have hi : ¬ (!(s.core c).issues [.x xa.toNat]) = true := by rw [State.core_issues h]; decide
  unfold endOp
  dsimp only
  rw [if_neg hi]

theorem faultOp_of_issues {s : State} {c : Core} {xa : BitVec 5} (h : Issues s c [.x xa.toNat]) :
    faultOp c xa s = (s.setCore c (s.core c).issued).vcFault c 8 ((s.core c).xr xa &&& 0xFFFF#64) := if_pos h

/-- Settles O33: a jump sets the program counter of a core that issues it, and END and FAULT end its run by endRun. The core's issue
is log entry 55's. -/
theorem controlFlowSetsTheProgramCounterOrEndsTheRun : Obligations.ControlFlowSetsTheProgramCounterOrEndsTheRun := by
  refine ⟨fun s c xa xb cond off x y h hx hy => ?br, fun s c pn cond off p h hp => ?bp, fun s c xd off h => ?jal,
    fun s c xd xa h hal hin => ?jalr, fun s c xd xa h hal => ?jalrUnaligned, fun s c xd xa h hal hout => ?jalrBeyond,
    fun s c xa i h hcopy ha hrun hq hv => ?endGood, fun s c xa h hcopy => ?endWaits, fun s c xa h => ?fault,
    fun s c pc code addr i hrun hcheck hq ha => ?counted⟩
  case br =>
    subst hx hy
    refine congrArg Host.Outcome.next ((State.jumpOp_of_issues h).trans (congrArg (State.setCore c · s) ?_))
    simp only [CoreState.xr_issued, brTaken_iff]
    split <;> rfl
  case bp =>
    subst hp
    refine congrArg Host.Outcome.next ((State.jumpOp_of_issues h).trans (congrArg (State.setCore c · s) ?_))
    simp only [CoreState.pr_issued, bpTaken_iff]
    split <;> rfl
  case jal =>
    refine congrArg Host.Outcome.next ((State.jumpOp_of_issues h).trans (congrArg (State.setCore c · s) ?_))
    exact CoreState.setX_issued ..
  case jalr =>
    refine congrArg Host.Outcome.next ((jalr_of_issues h).trans ?_)
    rw [if_neg (not_not.2 hal), if_neg (not_le_of_gt hin), CoreState.setX_issued]
    rfl
  case jalrUnaligned => exact congrArg Host.Outcome.next ((jalr_of_issues h).trans (if_pos hal))
  case jalrBeyond =>
    exact congrArg Host.Outcome.next ((jalr_of_issues h).trans ((if_neg (not_not.2 hal)).trans (if_pos hout)))
  case endGood =>
    refine congrArg Host.Outcome.next ((endOp_of_issues h).trans ?_)
    have hcore : (s.setCore c (s.core c).issued).core c = (s.core c).issued := State.core_setCore ..
    rw [if_neg (by rw [hcopy]; decide), hv, State.endRun_of_good (s := s.setCore c (s.core c).issued) (e := .status 0)
      (by rw [hcore]; exact hrun) (by rw [hcore]; exact hq) ha rfl, State.setCore_setCore, hcore]
    rfl
  case endWaits => exact congrArg Host.Outcome.next ((endOp_of_issues h).trans (if_pos hcopy))
  case fault =>
    refine congrArg Host.Outcome.next ((faultOp_of_issues h).trans ?_)
    rw [State.vcFault, State.core_setCore]
    rfl
  case counted =>
    rw [State.endRun_of_bad hrun hq ha rfl hcheck, State.vec_endBad_fault]
    rfl
end Sys2Proof.Machine
end

section
/-! SUPPORT. The loads of a vector core (R161, R172 to R175). -/
namespace Sys2Proof.Machine
open Sys2Proof Sys2Proof.Statements

/-- An instruction that issues is not turned away at its first check. -/
theorem State.not_not_issues {s : State} {c : Core} {rs : List RegRef} (h : Issues s c rs) : ¬ (!(s.core c).issues rs) = true := by
  rw [State.core_issues h]
  decide

theorem State.firstFault_of_granted {s : State} {c : Core} {g wr : Bool} {n : Nat} {as : List U64} (h : Granted s c g wr n as) :
    s.firstFault (s.core c) g wr n as = none := by
  refine List.findSome?_eq_none_iff.2 fun a ha => ?_
  rw [h a ha]
  rfl

/-! ## Register loads -/

theorem State.loadOp_of_global {s : State} {c : Core} {rs : List RegRef} {n : Nat} {d : LoadDest} {f : CoreState → List U64}
    (h : Issues s c rs) (hg : Granted s c true false n (f (s.core c))) :
    s.loadOp c rs true n d f = s.setCore c { (s.core c).next with loads := (s.core c).loads ++ [⟨(s.core c).pc, d, f (s.core c)⟩] } := by
  unfold State.loadOp
  dsimp only
  rw [if_neg (State.not_not_issues h), State.firstFault_of_granted hg]
  rfl

theorem State.loadOp_of_scratch {s : State} {c : Core} {rs : List RegRef} {n : Nat} {d : LoadDest} {f : CoreState → List U64}
    (h : Issues s c rs) (hg : Granted s c false false n (f (s.core c)))
    (hfree : ∀ a ∈ f (s.core c), (s.core c).bldbInto a.toNat n = false) :
    s.loadOp c rs false n d f = s.setCore c ((s.core c).next.deliver d
      ((f (s.core c)).map fun a => cellsRead (s.core c).scratch a.toNat n)) := by
  have hany : ¬ (f (s.core c)).any (fun a => (s.core c).bldbInto a.toNat n) = true := by
    rw [List.any_eq_true]
    rintro ⟨a, ha, hinto⟩
    rw [hfree a ha] at hinto
    cases hinto
  unfold State.loadOp
  dsimp only
  rw [if_neg (State.not_not_issues h), State.firstFault_of_granted hg]
  dsimp only
  rw [if_neg Bool.false_ne_true, if_neg hany]

theorem State.loadOp_of_fault {s : State} {c : Core} {rs : List RegRef} {g : Bool} {n : Nat} {d : LoadDest} {f : CoreState → List U64}
    {code : U8} {a : U64} (h : Issues s c rs) (hf : s.firstFault (s.core c) g false n (f (s.core c)) = some (code, a)) :
    s.loadOp c rs g n d f = s.vcFault c code a := by
  unfold State.loadOp
  dsimp only
  rw [if_neg (State.not_not_issues h), hf]

/-- The lane addresses of a strided access (R173). -/
theorem CoreState.map_strided (a : VmemArgs) (k : CoreState) : (k.strided a).map (·.2) = (k.guarded a.pg).map fun i =>
    k.xr a.xa + (if a.xb = 0 then BitVec.ofNat 64 (fmtBits a.fmt.toNat / 8) else k.xr a.xb) * BitVec.ofNat 64 i.val := by
  simp only [CoreState.strided, List.map_map, beq_iff_eq]
  rfl

/-- The lane addresses of a gather or scatter (R173). -/
theorem CoreState.map_indexed (a : VmemArgs) (k : CoreState) : (k.indexed a).map (·.2) = (k.guarded a.pg).map fun i =>
    k.xr a.xa + ((k.vr a.xb)[i]).setWidth 64 * BitVec.ofNat 64 (fmtBits a.fmt.toNat / 8) := by
  simp only [CoreState.indexed, List.map_map]
  rfl

theorem State.vloadOp_of_ok {a : VmemArgs} (h : vmemOk a = true) (c : Core) (rs : List RegRef)
    {f : CoreState → List (Fin 32 × U64)} {g : CoreState → List U64} (hg : ∀ k, (f k).map (·.2) = g k) (s : State) :
    s.vloadOp c a rs f = s.loadOp c rs a.g (fmtBits a.fmt.toNat / 8) (.v a.v a.fmt ((s.core c).pr a.pg)) g := by
  unfold State.vloadOp
  rw [if_pos h, show (fun k => (f k).map (·.2)) = g from funext hg]
  rfl

/-! ## Whole blocks -/

theorem State.blockFault_of_arg {s : State} {k : CoreState} {sel : BitVec 4} {wr : Bool} {idx a : U64} {x : TensorEntry × Stream}
    (hx : s.blockArg k sel wr idx = some x) (hal : a.toNat % 64 = 0) (hin : a.toNat + 4096 ≤ 0x40000) :
    s.blockFault k sel wr idx a = none := by
  unfold State.blockFault
  rw [hx, if_neg (by simp), if_neg (not_not.2 hal), if_neg (not_lt_of_ge hin)]

theorem bldb_of_arg {s : State} {c : Core} {xd xa xs : BitVec 5} {sel : BitVec 4} {e : TensorEntry} {st : Stream}
    (h : Issues s c [.x xd.toNat, .x xa.toNat, .x xs.toNat]) (hx : s.blockArg (s.core c) sel false ((s.core c).xr xa) = some (e, st))
    (hal : ((s.core c).xr xs).toNat % 64 = 0) (hin : ((s.core c).xr xs).toNat + 4096 ≤ 0x40000)
    (hfree : (s.core c).bstbFrom ((s.core c).xr xs).toNat 4096 = false) :
    bldb c xd xa xs sel s = s.setCore c { (s.core c).next with loads := (s.core c).loads ++
      [⟨(s.core c).pc, .blk xd st (((s.core c).xr xa).setWidth 32) (((s.core c).xr xs).setWidth 32), []⟩] } := by
  unfold bldb
  dsimp only
  rw [if_neg (State.not_not_issues h), State.blockFault_of_arg hx hal hin, hx]
  dsimp only
  rw [if_neg (by rw [hfree]; decide)]

/-- Settles O34: a load that issues goes out, delivers or faults as loadOp says, and each load instruction is loadOp of its fields.
The core's issue is log entry 55's. -/
theorem loadsAreIssuedOrDeliverFromScratch : Obligations.LoadsAreIssuedOrDeliverFromScratch := by
  refine ⟨fun s c rs n d f h hg => State.loadOp_of_global h hg, fun s c rs n d f h hg hfree => State.loadOp_of_scratch h hg hfree,
    fun s c rs g n d f code a h hf => State.loadOp_of_fault h hf, fun s c a hsize => ?ldx, fun s c a => rfl,
    fun s c a hok => ?vld, fun s c a hok => ?vgath, fun s c xd xa xs sel e st h hx hal hin hfree => ?bldb⟩
  case ldx => exact congrArg Host.Outcome.next (if_pos hsize)
  case vld => exact congrArg Host.Outcome.next (State.vloadOp_of_ok hok c _ (CoreState.map_strided a) s)
  case vgath => exact congrArg Host.Outcome.next (State.vloadOp_of_ok hok c _ (CoreState.map_indexed a) s)
  case bldb => exact congrArg Host.Outcome.next (bldb_of_arg h hx hal hin hfree)
end Sys2Proof.Machine
end

section
/-! SUPPORT. The stores of a vector core (R161, R172 to R174). -/
namespace Sys2Proof.Machine
open Sys2Proof Sys2Proof.Statements

/-! ## Register stores -/

theorem State.storeOp_of_fault {s : State} {c : Core} {rs : List RegRef} {g : Bool} {n : Nat}
    {f : CoreState → List (U64 × List Byte × Option Rounded)} {code : U8} {a : U64} (h : Issues s c rs)
    (hf : s.firstFault (s.core c) g true n ((f (s.core c)).map (·.1)) = some (code, a)) : s.storeOp c rs g n f = s.vcFault c code a := by
  unfold State.storeOp
  dsimp only
  rw [if_neg (State.not_not_issues h), hf]

/-- A granted store of one range without a conversion: what storeAll leaves, with nothing counted. -/
theorem State.storeOp_of_one {s t : State} {c : Core} {rs : List RegRef} {g : Bool} {n : Nat} {a : U64} {l : List Byte}
    (h : Issues s c rs) (hg : Granted s c g true n [a]) (ht : s.storeAll c g [(a, l)] = some t) :
    s.storeOp c rs g n (fun _ => [(a, l, none)]) = (t.setCore c (t.core c)).countConv 0 0 := by
  unfold State.storeOp
  simp only [List.map_cons, List.map_nil]
  rw [if_neg (State.not_not_issues h), State.firstFault_of_granted hg]
  dsimp only
  rw [ht]
  simp

theorem State.storeAll_of_scratch {s : State} {c : Core} {a : U64} {l : List Byte}
    (hcopy : (s.core c).bstbFrom a.toNat l.length = false) (hload : (s.core c).bldbInto a.toNat l.length = false) :
    s.storeAll c false [(a, l)] =
      some (s.setCore c { (s.core c).next with scratch := cellsWrite (s.core c).scratch a.toNat l }) := by
  unfold State.storeAll
  simp [hcopy, hload]

theorem State.storeAll_of_global {s : State} {c : Core} {a : U64} {l : List Byte} {t : Tier}
    (hload : (s.core c).loadsFrom a l.length = false) (ht : tierOf (offOf a) = some t) :
    s.storeAll c true [(a, l)] = some ((s.writeMem t (offOf a) l).setCore c (s.core c).next) := by
  unfold State.storeAll State.storeGlobal
  simp [hload, ht]

/-- The lanes of a vector store, their addresses given. -/
theorem State.vstoreOp_of_ok {a : VmemArgs} (h : vmemOk a = true) (c : Core) (rs : List RegRef) (s : State)
    {f : CoreState → List (Fin 32 × U64)} {g : CoreState → Fin 32 → U64} (hf : ∀ k, f k = (k.guarded a.pg).map fun i => (i, g k i)) :
    s.vstoreOp c a rs f = s.storeOp c rs a.g (fmtBits a.fmt.toNat / 8)
      (fun k => (k.guarded a.pg).map fun i => (g k i, storeLane a.fmt.toNat (k.vr a.v)[i])) := by
  unfold State.vstoreOp
  simp only [hf, List.map_map]
  exact if_pos h

/-! ## Whole blocks -/

theorem State.vec_stageWrite (c : Core) (place : Nat) (s : State) : (s.stageWrite c place).vec = s.vec := by
  unfold State.stageWrite
  split <;> rfl

/-- Whether a block is staged already, or no place for it is left in its run (R161). -/
theorem CoreState.stagingFull_iff (k : CoreState) (st : Stream) (idx : U32) :
    (k.staged.any (fun b => b.stream == st && b.idx == idx) || decide (k.staged.length ≥ 64)) = true ↔
      (∃ b ∈ k.staged, b.stream = st ∧ b.idx = idx) ∨ 64 ≤ k.staged.length := by
  simp

theorem bstb_of_arg {s : State} {c : Core} {xa xs : BitVec 5} {sel : BitVec 4} {e : TensorEntry} {st : Stream}
    (h : Issues s c [.x xa.toNat, .x xs.toNat]) (hx : s.blockArg (s.core c) sel true ((s.core c).xr xa) = some (e, st))
    (hal : ((s.core c).xr xs).toNat % 64 = 0) (hin : ((s.core c).xr xs).toNat + 4096 ≤ 0x40000) :
    bstb c xa xs sel s =
      if (s.core c).staged.any (fun b => b.stream == st && b.idx == ((s.core c).xr xa).setWidth 32) ||
          decide ((s.core c).staged.length ≥ 64) then s.vcFault c 7 ((s.core c).xr xs)
      else if (s.core c).bldbInto ((s.core c).xr xs).toNat 4096 || decide ((s.core c).stagedCount ≥ 128) then s
      else (s.stageWrite c (s.core c).freePlace).setCore c { (s.core c).next with
        staged := (s.core c).staged ++ [⟨st, ((s.core c).xr xa).setWidth 32,
          cellsRead (s.core c).scratch ((s.core c).xr xs).toNat 4096, (s.core c).freePlace, (s.core c).conv⟩]
        copies := (s.core c).copies ++ [((s.core c).xr xs).setWidth 32] } := by
  unfold bstb
  dsimp only
  rw [if_neg (State.not_not_issues h), State.blockFault_of_arg hx hal hin, hx]

/-- Settles O35: a store that issues writes, waits or faults as storeOp says, and each store instruction is storeOp of its fields.
Where BSTB puts a block, what mark it carries and what it waits for are log entry 79's choices; the core's issue is log entry 55's. -/
theorem storesWriteTheirBytesOnly : Obligations.StoresWriteTheirBytesOnly := by
  refine ⟨fun s c rs n a l h hg hcopy hload => ?scratch, fun m o b l hm hout => ?outside, fun m o l hm => cellsRead_write hm o l,
    fun s c rs n a l t h hg hload ht => ?global, fun s c a hsize => ?stx, fun s c a => rfl, fun s c a hok => ?vst,
    fun s c a hok => ?vscat, fun s c rs g n f code a h hf => State.storeOp_of_fault h hf,
    fun s c xa xs sel e st h hx hal hin hnew hroom hload hcount => ?bstb, fun s c xa xs sel e st h hx hal hin hfull => ?bstbFault⟩
  case scratch =>
    rw [State.storeOp_of_one h hg (State.storeAll_of_scratch hcopy hload), State.core_setCore, State.setCore_setCore]
    rfl
  case outside =>
    rw [cellsRead_eq (wf_cellsWrite o l hm), cellsRead_eq hm]
    simp only [List.range_one, List.map_cons, List.map_nil, Nat.add_zero]
    rw [cellAt_write_out m o l b (hout.imp_left Nat.lt_of_succ_le)]
  case global =>
    rw [State.storeOp_of_one h hg (State.storeAll_of_global hload ht), State.core_setCore, State.setCore_setCore]
    rfl
  case stx => exact congrArg Host.Outcome.next (if_pos hsize)
  case vst => exact congrArg Host.Outcome.next (State.vstoreOp_of_ok hok c _ s fun k => by simp only [CoreState.strided, beq_iff_eq]; rfl)
  case vscat => exact congrArg Host.Outcome.next (State.vstoreOp_of_ok hok c _ s fun k => rfl)
  case bstb =>
    have hnew' : ¬ ((∃ b ∈ (s.core c).staged, b.stream = st ∧ b.idx = ((s.core c).xr xa).setWidth 32) ∨
        64 ≤ (s.core c).staged.length) := not_or.2 ⟨fun ⟨b, hb, hsame⟩ => hnew b hb hsame, not_le_of_gt hroom⟩
    refine congrArg Host.Outcome.next ((bstb_of_arg h hx hal hin).trans ?_)
    rw [if_neg (mt (CoreState.stagingFull_iff ..).1 hnew'), if_neg (by simp [hload, hcount])]
    simp only [goneOn, countsOf, State.core, State.vec_stageWrite]
    rfl
  case bstbFault =>
    exact congrArg Host.Outcome.next ((bstb_of_arg h hx hal hin).trans (if_pos ((CoreState.stagingFull_iff ..).2 hfull)))
end Sys2Proof.Machine
end

section
/-! SUPPORT. The words of vector code (R169 to R171, R176): what a field of a word laid out field by field is, and that every valid
word spells a command. -/
namespace Sys2Proof.Machine
open Sys2Proof Sys2Proof.Statements

/-! ## Fields of a word -/

/-- A field of a word or of a part of one: k bits from bit lo. -/
def fieldOf {n : Nat} (w : BitVec n) (lo k : Nat) : BitVec k := w.extractLsb' lo k

theorem bitsOf_eq (w : U32) (lo k : Nat) : bitsOf w lo k = (fieldOf w lo k).toNat := rfl
theorem fld5_eq (w : U32) (lo : Nat) : fld5 w lo = fieldOf w lo 5 := rfl
theorem fld3_eq (w : U32) (lo : Nat) : fld3 w lo = fieldOf w lo 3 := rfl
theorem extract_eq (w : U32) (lo k : Nat) : w.extractLsb' lo k = fieldOf w lo k := rfl
theorem bit_eq (w : U32) (i : Nat) : w.getLsbD i = (fieldOf w i 1).getLsbD 0 := by simp [fieldOf]

/-- A field above the last part lies in the parts before it. -/
theorem fieldOf_append_high {n m lo k : Nat} {x : BitVec n} {y : BitVec m} (h : m ≤ lo) :
    fieldOf (x ++ y) lo k = fieldOf x (lo - m) k := BitVec.extractLsb'_append_eq_of_le h
/-- A field that ends within the last part lies in it. -/
theorem fieldOf_append_low {n m lo k : Nat} {x : BitVec n} {y : BitVec m} (h : lo + k ≤ m) :
    fieldOf (x ++ y) lo k = fieldOf y lo k := BitVec.extractLsb'_append_eq_of_add_le h
theorem fieldOf_self {n : Nat} (x : BitVec n) : fieldOf x 0 n = x := BitVec.extractLsb'_eq_self
theorem bit_ofBool (b : Bool) : (BitVec.ofBool b).getLsbD 0 = b := by cases b <;> rfl

/-! ## Valid words -/

/-- A code within a list of operations picks one. -/
theorem pick_of_lt {α : Type} (c : Core) (ops : List (Core → α → Instr)) (a : α) {code : Nat} (h : code < ops.length) :
    ∃ i, (ops[code]?).map (fun f => f c a) = some i := by
  rw [List.getElem?_eq_getElem h]
  exact ⟨_, rfl⟩

theorem fmvPick_of_lt (c : Core) (d a : BitVec 5) {code : Nat} (h : code < fmvOps.length) :
    ∃ i, (fmvOps[code]?).map (fun f => f c d a) = some i := by
  rw [List.getElem?_eq_getElem h]
  exact ⟨_, rfl⟩

theorem vectorInstr_of_invalid {w : U32} (h : wordOk w = false) (c : Core) : vectorInstr c w = none :=
  if_neg (by rw [h]; exact Bool.false_ne_true)

/-- A valid word's op or function lies in the list of its major code (R176). -/
theorem vectorInstr_of_valid {w : U32} (h : wordOk w = true) (c : Core) : ∃ i, vectorInstr c w = some i := by
  unfold vectorInstr
  dsimp only
  rw [if_pos h]
  unfold wordOk at h
  dsimp only at h
  generalize bitsOf w 26 6 = major at h ⊢
  split at h
  case h_1 =>
    by_cases h0 : bitsOf w 0 6 = 0
    · exact ⟨_, if_pos h0⟩
    by_cases h1 : bitsOf w 0 6 = 1
    · exact ⟨_, (if_neg h0).trans (if_pos h1)⟩
    · exact ⟨_, (if_neg h0).trans (if_neg h1)⟩
  case h_2 =>
    simp only [Bool.and_eq_true, decide_eq_true_eq] at h
    by_cases h0 : bitsOf w 6 5 = 0
    · exact ⟨_, if_pos h0⟩
    · obtain ⟨i, hi⟩ := pick_of_lt c veOps (veArgs w) (code := bitsOf w 6 5 - 3) (by change _ < 21; omega)
      exact ⟨i, (if_neg h0).trans hi⟩
  case h_3 =>
    simp only [Bool.and_eq_true, decide_eq_true_eq] at h
    exact pick_of_lt c vcOps (vcArgs w) (code := bitsOf w 6 5 - 0x12) (by change _ < 4; omega)
  case h_4 =>
    simp only [Bool.and_eq_true, decide_eq_true_eq] at h
    exact pick_of_lt c viOps (viArgs w) (code := bitsOf w 6 5) (by change _ < 14; omega)
  case h_5 => exact ⟨_, rfl⟩
  case h_6 =>
    simp only [Bool.and_eq_true, decide_eq_true_eq] at h
    exact pick_of_lt c vmovOps (vmovArgs w) (code := bitsOf w 6 5) (by change _ < 6; omega)
  case h_7 =>
    simp only [Bool.and_eq_true, decide_eq_true_eq] at h
    exact pick_of_lt c prOps (prArgs w) (code := bitsOf w 0 6) (by change _ < 12; omega)
  case h_8 =>
    simp only [Bool.and_eq_true, decide_eq_true_eq] at h
    exact pick_of_lt c xrOps (xrArgs w) (code := bitsOf w 5 6) (by change _ < 16; omega)
  case h_9 =>
    simp only [Bool.and_eq_true, decide_eq_true_eq] at h
    exact pick_of_lt c xiOps (xiArgs w) (code := bitsOf w 12 4) (by change _ < 9; omega)
  case h_15 =>
    simp only [Bool.and_eq_true, decide_eq_true_eq] at h
    by_cases h0 : bitsOf w 6 5 = 0
    · exact ⟨_, if_pos h0⟩
    · obtain ⟨i, hi⟩ := pick_of_lt c fopOps (fopArgs w) (code := bitsOf w 6 5 - 3) (by change _ < 21; omega)
      exact ⟨i, (if_neg h0).trans hi⟩
  case h_16 =>
    simp only [Bool.and_eq_true, decide_eq_true_eq] at h
    exact fmvPick_of_lt c (fld5 w 21) (fld5 w 16) (code := bitsOf w 6 5) (by change _ < 4; omega)
  case h_27 => cases h
  all_goals exact ⟨_, rfl⟩

/-- Settles O36: every valid word spells a command, and a word laid out field by field has those fields, so that the table of its
major code names its command. -/
theorem vectorWordsSpellTheirCommands : Obligations.VectorWordsSpellTheirCommands := by
  refine ⟨fun c w h => vectorInstr_of_invalid h c, fun c w h => vectorInstr_of_valid h c, ?sys, ?ve, ?vc, ?vi, ?vred, ?vmov, ?pr, ?xr,
    ?xi, ?lui, ?br, ?jal, ?jalr, ?bp, ?fop, ?fmv, ?ldx, ?stf, ?vld, ?bldb, ?bstb⟩
  case br =>
    intro c a b k off hk
    simp (disch := decide) only [vectorInstr, wordOk, bitsOf_eq, fld5_eq, fld3_eq, extract_eq, fieldOf_append_high, fieldOf_append_low,
      Nat.reduceSub, fieldOf_self, BitVec.reduceToNat, hk, decide_true, if_true]
  case ldx =>
    intro c x a size g off hsize
    simp (disch := decide) only [vectorInstr, wordOk, bitsOf_eq, fld5_eq, fld3_eq, extract_eq, bit_eq, lsxArgs, fieldOf_append_high,
      fieldOf_append_low, Nat.reduceSub, fieldOf_self, bit_ofBool, BitVec.reduceToNat, hsize, decide_true, if_true]
  case vld =>
    intro c v a b fmt g pg hfmt
    simp (disch := decide) only [vectorInstr, wordOk, bitsOf_eq, fld5_eq, fld3_eq, extract_eq, bit_eq, vmemArgs, fieldOf_append_high,
      fieldOf_append_low, Nat.reduceSub, fieldOf_self, bit_ofBool, BitVec.reduceToNat, List.contains_iff_mem.2 hfmt, beq_self_eq_true,
      Bool.and_self, if_true]
  case sys =>
    intro c x
    refine ⟨rfl, ?_, ?_⟩
    all_goals
      simp (disch := decide) only [vectorInstr, wordOk, bitsOf_eq, fld5_eq, fieldOf_append_high, fieldOf_append_low, Nat.reduceSub,
        fieldOf_self, BitVec.reduceToNat]
      rfl
  case fop =>
    intro c d a b w n m
    simp (disch := decide) only [vectorInstr, wordOk, bitsOf_eq, fld5_eq, bit_eq, fopArgs, elemFieldsOk, sourcesOf, fieldOf_append_high,
      fieldOf_append_low, Nat.reduceSub, fieldOf_self, bit_ofBool, BitVec.reduceToNat]
    cases w <;> rfl
  all_goals
    intros
    simp (disch := decide) only [vectorInstr, wordOk, bitsOf_eq, fld5_eq, fld3_eq, extract_eq, bit_eq, veArgs, vcArgs, viArgs, vredArgs,
      vmovArgs, prArgs, xrArgs, xiArgs, lsfArgs, elemFieldsOk, sourcesOf, fieldOf_append_high, fieldOf_append_low,
      Nat.reduceSub, fieldOf_self, bit_ofBool, BitVec.reduceToNat]
    rfl
end Sys2Proof.Machine
end

section
/-! SUPPORT. The step sizes: the decision about a write, and a size that no window waits for. -/
namespace Sys2Proof.Machine
open Sys2Proof

theorem sizeDecision_of_none {cur : U32} {l : List (U32 × U32)} {v : U64} (h : ∀ x ∈ l, x.1 ≠ v.setWidth 32) :
    sizeDecision cur l v = if (v.setWidth 32 = cur ∨ v.setWidth 32 = cur + 1) ∧ ¬ nonfinite32 ((v >>> 32).setWidth 32)
      then .latch else .refuse := by
  have h : l.find? (·.1 == v.setWidth 32) = none := List.find?_eq_none.2 (fun x m => by simpa using h x m)
  simp only [sizeDecision, h]

theorem sizeDecision_of_some {cur : U32} {l : List (U32 × U32)} {v : U64} {x : U32 × U32}
    (h : l.find? (·.1 == v.setWidth 32) = some x) :
    sizeDecision cur l v = if x.2 = (v >>> 32).setWidth 32 then .same else .refuse := by
  simp only [sizeDecision, h]

/-- A size that no window waits for only takes the waiting windows of its step, of which there are none with elements, off the
window memory. -/
theorem State.sizeArrived_of_none {step : U32} {s : State} (hd : ∀ d ∈ s.upd.noSize, d.step ≠ step)
    (hp : ∀ p ∈ s.red.parked, p.win.phase = .waiting → p.win.step ≠ step) :
    s.sizeArrived step = { s with
      red := { s.red with windows := s.red.windows.filter (fun w => !(w.phase == .waiting && w.step == step)) } } := by
  have hparked : s.red.parked.filter (fun p => p.win.phase == .waiting && p.win.step == step) = [] :=
    List.filter_eq_nil_iff.2 (fun p m => by simpa using hp p m)
  have hdue : s.upd.noSize.filter (fun d => d.step == step) = [] := List.filter_eq_nil_iff.2 (fun d m => by simpa using hd d m)
  have hrest : s.upd.noSize.filter (fun d => d.step != step) = s.upd.noSize := List.filter_eq_self.2 (fun d m => by simpa using hd d m)
  unfold State.sizeArrived
  simp only [hparked, List.foldl_nil, hdue, hrest]

theorem stepSizeWrite_of_latch {s : State} {v : U64} (h : sizeDecision s.fence.cur s.upd.latches v = .latch) :
    stepSizeWrite v s = (({ s with upd := { s.upd with
      latches := s.upd.latches ++ [(v.setWidth 32, (v >>> 32).setWidth 32)], sizeLast := v, sizeRefused := false } } :
      State).sizeArrived (v.setWidth 32)).startLatched := by
  simp only [stepSizeWrite, h]

theorem stepSizeWrite_of_refuse {s : State} {v : U64} (h : sizeDecision s.fence.cur s.upd.latches v = .refuse) :
    stepSizeWrite v s = ({ s with upd := { s.upd with
      sizeRefusals := bump s.upd.sizeRefusals, sizeRefused := true } } : State).record
        (ev3 0x2402 unitCC (arg8 v ++ arg4 s.fence.cur)) := by
  simp only [stepSizeWrite, h]

/-- Settles O14. A write of OD 2200.01 is one of three by the latches; the windows that wait for the size go on with it (log 73,
the model's choice), and the deadline's command is the event of a late size (log 10). -/
theorem stepSizeLatchesSameValueOrIsRefused : Obligations.StepSizeLatchesSameValueOrIsRefused := by
  refine ⟨?latched, ?handed, ?same, ?refused, ?late⟩
  case latched =>
    rintro s v _ _ rfl rfl hcur hfin hnew hsize hparked
    have h := (sizeDecision_of_none hnew).trans (if_pos ⟨hcur, by simp [hfin]⟩)
    refine ⟨_, congrArg Host.Outcome.next (stepSizeWrite_of_latch h), ?_⟩
    rw [State.sizeArrived_of_none (by exact hsize) (by exact hparked)]
    have k (x : State) := State.startLatched_keep (M := 0x100) rfl x (Keep.refl _ x)
    exact ⟨(k _).upd rfl, (k _).tele rfl, (k _).acc rfl⟩
  case handed =>
    rintro s v _ _ rfl rfl hcur hfin hnew
    exact congrArg Host.Outcome.next (stepSizeWrite_of_latch ((sizeDecision_of_none hnew).trans (if_pos ⟨hcur, by simp [hfin]⟩)))
  case same =>
    intro s v h
    have h := (sizeDecision_of_some (cur := s.fence.cur) h).trans (if_pos rfl)
    exact congrArg Host.Outcome.next (by simp only [stepSizeWrite, h])
  case refused =>
    rintro s v _ _ rfl rfl hbad
    have h : sizeDecision s.fence.cur s.upd.latches v = .refuse := by
      rcases hbad with ⟨hcur, hnew⟩ | ⟨hnf, hnew⟩ | ⟨y, hy, hne⟩
      · exact (sizeDecision_of_none hnew).trans (if_neg fun k => k.1.elim hcur.1 hcur.2)
      · exact (sizeDecision_of_none hnew).trans (if_neg fun k => k.2 hnf)
      · exact (sizeDecision_of_some hy).trans (if_neg hne)
    refine ⟨_, congrArg Host.Outcome.next (stepSizeWrite_of_refuse h), by simp, Records.of rfl rfl rfl⟩
  case late =>
    intro s step hwait hnew hrun
    refine ⟨_, congrArg Host.Outcome.next (if_pos (by simp [hwait, hnew, hrun])), by simp, Records.of rfl rfl rfl⟩

end Sys2Proof.Machine
end

section
/-! SUPPORT. The step fence's commands: the fence that waits for no shard, the commit, and what the root keeps of a sealed move. -/
namespace Sys2Proof.Machine
open Sys2Proof

/-- What every step of a fold leaves as it is, the fold does. -/
theorem eq_foldl_of_eq {α β : Type} (f : State → β) {g : State → α → State} (h : ∀ s a, f (g s a) = f s) (l : List α) (s : State) :
    f (l.foldl g s) = f s := by
  induction l generalizing s with
  | nil => rfl
  | cons a l ih => exact (ih _).trans (h s a)

/-! ## A fence becomes pending -/

theorem State.protectUntouched_fence (s : State) : s.protectUntouched.fence = s.fence :=
  (State.protectUntouched_keep (M := 0x2000) rfl s (Keep.refl _ s)).fence rfl

theorem State.completeAll_of_noShard {s : State} (h : s.owned = []) : s.completeAll = s := by
  simp only [State.completeAll, h, List.foldl_nil]
theorem State.protectUntouched_of_noShard {s : State} (h : s.owned = []) : s.protectUntouched = s := by
  simp [State.protectUntouched, State.standings, h]
theorem State.failIfReported_of_noShard {s : State} (h : s.owned = []) : s.failIfReported = s := by
  simp [State.failIfReported, State.standings, h]

theorem State.makePending_of_noShard {s : State} (h : s.owned = []) :
    s.makePending = { s with fence := { s.fence with pending := true, status := 1 } } := by
  unfold State.makePending
  dsimp only
  rw [State.completeAll_of_noShard (by exact h), State.protectUntouched_of_noShard (by exact h),
    State.failIfReported_of_noShard (by exact h)]

/-- A fence that becomes pending can only fail at once: nothing else happens to the fence. -/
theorem State.makePending_fence (s : State) :
    FenceKeep { s with fence := { s.fence with pending := true, status := 1 } } s.makePending :=
  (State.completeAll_fenceKeep _).trans ((FenceKeep.of (State.protectUntouched_fence _)).trans (State.failIfReported_fenceKeep _))

/-! ## The commit -/

theorem State.closePasses_fence (f : Pass → Bool) (s : State) : (s.closePasses f).fence = s.fence :=
  (State.closePasses_keep (M := 0xC0100) rfl f s (Keep.refl _ s)).fence rfl
theorem State.installAnchors_fence (step : U32) (s : State) : (s.installAnchors step).fence = s.fence :=
  (State.installAnchors_keep (M := 0x48060) rfl step s (Keep.refl _ s)).fence rfl
theorem State.takeSegment_fence (step seg : U32) (v : ScalarVal) (s : State) : (s.takeSegment step seg v).fence = s.fence :=
  (State.takeSegment_keep (M := 0x48060) rfl step seg v s (Keep.refl _ s)).fence rfl
theorem State.fenceDown_fence (step : U32) (kind : U8) (a body : List Byte) (s : State) :
    (s.fenceDown step kind a body).fence = s.fence :=
  (State.fenceDown_keep (M := 0xC0C00) rfl step kind a body s (Keep.refl _ s)).fence rfl
theorem State.sendDown_fence (slot op : U8) (step seg : U32) (v : ScalarVal) (s : State) :
    (s.sendDown slot op step seg v).fence = s.fence :=
  (State.sendDown_keep (M := 0xC0C00) rfl slot op step seg v s (Keep.refl _ s)).fence rfl

theorem State.commitStep_fence (step : U32) (s : State) : (s.commitStep step).fence = { s.fence with committed := step } := by
  simp only [State.commitStep, State.installAnchors_fence, State.closePasses_fence]


/-- What the root's commit of a step does to the fence. -/
theorem State.rootCommit_fence (step : U32) (s : State) :
    (s.rootCommit step).fence = if s.rootReady step = true then { s.fence with
        rootSealed := s.fence.rootSealed ++ [step], kidMoves := s.fence.kidMoves.filter (fun k => k.2.1 != step), committed := step }
      else s.fence := by
  unfold State.rootCommit
  split
  · dsimp only
    rw [eq_foldl_of_eq State.fence (fun s x => State.takeSegment_fence ..), State.commitStep_fence,
      eq_foldl_of_eq State.fence (fun s x => State.sendDown_fence ..), State.fenceDown_fence]
  · rfl

/-! ## The fence tree -/

theorem State.parent_takePk (pk : Packet) (s : State) : (s.takePk pk).parent = s.parent := by
  unfold State.takePk
  split <;> rfl

theorem State.fenceUp_of_parent {s : State} {up : U32} (h : s.parent = some up) (step : U32) (kind : U8) (a body : List Byte) :
    s.fenceUp step kind a body = s.sendFence up step kind a [] [] body := by
  simp only [State.fenceUp, h]

theorem stepSealedReceive_of_parent {s : State} {pk : Trans} {up : U32} (h : s.parent = some up) :
    stepSealedReceive pk s = (s.takePk (.trans pk)).sendFence up pk.step 2 [] [] [] pk.body := by
  have h : (s.takePk (.trans pk)).parent = some up := (State.parent_takePk ..).trans h
  simp only [stepSealedReceive, h, State.fenceUp_of_parent h]

theorem stepSealedReceive_of_root {s : State} {pk : Trans} (h : s.parent = none) :
    stepSealedReceive pk s = State.rootCommit (field32 pk.body 8) { s.takePk (.trans pk) with fence := { s.fence with
      kidMoves := s.fence.kidMoves ++ [(cnOf (field32 pk.body 12), field32 pk.body 8, 1)] } } := by
  have h : (s.takePk (.trans pk)).parent = none := (State.parent_takePk ..).trans h
  simp only [stepSealedReceive, h, State.takePk_frame]

theorem jobCommitReceive_of_late {s : State} {pk : Trans} (h : pk.step.toNat > s.fence.sealedStep.toNat ∨ pk.epoch ≠ s.job.epoch) :
    jobCommitReceive pk s = { s.takePk (.trans pk) with red := { s.red with treeRefusals := bump s.red.treeRefusals } }.record
      (ev3 0x2104 unitCC (arg4 pk.step ++ arg4 pk.epoch ++ arg4 s.fence.sealedStep)) := by
  simp only [jobCommitReceive, State.takePk_frame, if_pos h]

theorem jobCommitReceive_of_sealed {s : State} {pk : Trans} (h : pk.step.toNat ≤ s.fence.sealedStep.toNat) (k : pk.epoch = s.job.epoch) :
    jobCommitReceive pk s = ((s.takePk (.trans pk)).fenceDown pk.step 4 [] []).commitStep pk.step := by
  simp only [jobCommitReceive, State.takePk_frame]
  exact if_neg (not_or.2 ⟨Nat.not_lt.2 h, not_not.2 k⟩)

theorem State.openable_of_run {s : State} (h : (s.latchOf s.red.anchorStep).isSome = true) (k : s.job.dev = .run)
    (o : s.red.opened ≠ some s.red.anchorStep) : ∃ x, s.openable = some (s.red.anchorStep, x) := by
  obtain ⟨x, hx⟩ := Option.isSome_iff_exists.1 h
  exact ⟨x, by simp only [State.openable, hx]; exact if_pos ⟨k, o⟩⟩

theorem stepOpenSend_of_openable {s : State} {step x : U32} (h : s.openable = some (step, x)) :
    stepOpenSend s = s.agents.foldl (fun s e => s.sendOpen step x e.2) { s with red := { s.red with opened := some step } } := by
  simp only [stepOpenSend, h]

/-- Settles O15. The write of the fence has its four rows; a pending fence fails only through a shard or its time (log 10: the
time's command is the event); a sealed move climbs to the root, which commits when it holds every child's. -/
theorem stepFenceWritesFailuresAndCommitsAct : Obligations.StepFenceWritesFailuresAndCommitsAct := by
  refine ⟨?again, ?pending, ?refused, ?noShard, ?anyShard, ?timeout, ?failed, ?commitLate, ?commit, ?anchor, ?opens, ?sealedUp,
    ?sealedRoot⟩
  case again => exact fun s v h k => congrArg Host.Outcome.next ((if_neg k).trans (if_pos h))
  case pending => exact fun s v h k => congrArg Host.Outcome.next ((if_pos h).trans (if_pos k))
  case refused =>
    intro s v h k
    exact ⟨_, congrArg Host.Outcome.next ((if_neg k).trans (if_neg h)), by simp, Records.of rfl rfl rfl⟩
  case noShard =>
    intro s h k
    exact congrArg Host.Outcome.next (((if_pos rfl).trans (if_neg (by simp [h]))).trans (State.makePending_of_noShard k))
  case anyShard =>
    intro s h
    obtain ⟨hcur, hsealed, -, -, -, -, hpend⟩ := State.makePending_fence s
    refine ⟨_, congrArg Host.Outcome.next ((if_pos rfl).trans (if_neg (by simp [h]))), hcur, hsealed, ?_⟩
    exact hpend.imp id And.right
  case timeout => exact fun s h => ⟨_, congrArg Host.Outcome.next (if_pos h), State.failStep_fence ..⟩
  case failed =>
    intro s p pk up h
    exact congrArg Host.Outcome.next (State.fenceUp_of_parent ((State.parent_takePk ..).trans h) ..)
  case commitLate =>
    intro s p pk h
    refine ⟨_, congrArg Host.Outcome.next (jobCommitReceive_of_late h), by simp, by simp, ?_⟩
    exact Records.of (by simp) (by simp) (by simp)
  case commit =>
    intro s p pk h k
    exact ⟨_, congrArg Host.Outcome.next (jobCommitReceive_of_sealed h k), congrArg (·.committed) (State.commitStep_fence ..)⟩
  case anchor =>
    intro s step h k new
    exact ⟨_, congrArg Host.Outcome.next (if_pos ⟨h, k, new⟩), by simp, Records.of rfl rfl rfl⟩
  case opens =>
    intro s h k new
    obtain ⟨x, hx⟩ := State.openable_of_run h k new
    have hsend (y : State) (e : Port × U32) : (y.sendOpen s.red.anchorStep x e.2).red = y.red :=
      (State.sendOpen_keep (M := 0xC0C00) rfl _ _ _ y (Keep.refl _ y)).red rfl
    refine ⟨_, congrArg Host.Outcome.next (stepOpenSend_of_openable hx), ?_⟩
    exact eq_foldl_of_eq State.red hsend ..
  case sealedUp => exact fun s p pk up h => congrArg Host.Outcome.next (stepSealedReceive_of_parent h)
  case sealedRoot =>
    intro s p pk h
    refine ⟨_, congrArg Host.Outcome.next (stepSealedReceive_of_root h), ?_⟩
    dsimp only
    rw [State.rootCommit_fence]
    split
    · exact ⟨rfl, .inr ⟨by simp, rfl⟩⟩
    · exact ⟨rfl, .inl (by simp)⟩

end Sys2Proof.Machine
end

section
/-! SUPPORT. The sealed move: what the move writes, and that nothing after it in the step's order touches the fence. -/
namespace Sys2Proof.Machine
open Sys2Proof

theorem FenceKeep.of_keep {M : Nat} {s t : State} (h : Keep M s t) (k : M.testBit 4 = false) : FenceKeep s t := .of (h.fence k)

/-- The fence once the move is written: the record, the steps, the status and the count. -/
def State.sealedFence (m : SealedMove) (s : State) : State :=
  { s with fence := { s.fence with
      mramMoves := s.fence.mramMoves.filter (fun (r : SealedMove) => decide (r.step.toNat < s.fence.cur.toNat)) ++ [m]
      lastMove := some m, sealedStep := s.fence.cur, cur := s.fence.cur + 1, status := 2, pending := false
      stepsSealed := s.fence.stepsSealed + 1 } }

/-- What follows the move in the order of R29, up to the root's commit. -/
def State.afterMove (step : U32) (m : SealedMove) (s : State) : State :=
  let s := (s.freePoints (fun p => p.readOnly)).countBytes 6 64
  let s := (s.fenceUp step 2 [] m.bytes).stepIrq
  let s := { s with upd := { s.upd with table := s.upd.table.map (TensorEntry.seal step s.upd.releasing) } }
  let s := ((s.sealPrune step).noteNoPartner.freeLatches).sendMaxv step
  (s.owned.foldl (fun (s : State) e => s.readmit e.ts) s).startLatched

theorem State.sealCuts_fence (step : U32) (s : State) : (s.sealCuts step).fence = s.fence :=
  (State.sealCuts_keep (M := 0x3000) rfl step s (Keep.refl _ s)).fence rfl

theorem State.seal_eq (s : State) :
    s.seal = ((((s.sealCuts s.fence.cur).noteBusy).sealedFence s.sealRecord).afterMove s.fence.cur s.sealRecord).rootCommit
      s.fence.cur := by
  unfold State.seal State.afterMove State.sealedFence
  simp only [State.noteBusy_frame, State.sealCuts_fence]

theorem State.sealPrune_fenceKeep (step : U32) (s : State) : FenceKeep s (s.sealPrune step) :=
  ⟨rfl, rfl, rfl, rfl, rfl, rfl, .inl ⟨rfl, rfl⟩⟩

theorem State.afterMove_fenceKeep (step : U32) (m : SealedMove) (s : State) : FenceKeep s (s.afterMove step m) := by
  unfold State.afterMove
  refine FenceKeep.trans ?_ (.of_keep (State.startLatched_keep (M := 0x100) rfl _ (Keep.refl _ _)) rfl)
  refine FenceKeep.trans ?_ (FenceKeep.foldl (fun x (e : TensorEntry) => State.readmit_fenceKeep e.ts x) _ _)
  refine FenceKeep.trans ?_ (.of_keep (State.sendMaxv_keep (M := 0xC0C20) rfl _ _ (Keep.refl _ _)) rfl)
  refine FenceKeep.trans ?_ (.of_keep (State.freeLatches_keep (M := 0x40) rfl _ (Keep.refl _ _)) rfl)
  refine FenceKeep.trans ?_ (.of_keep (State.noteNoPartner_keep (M := 0xC1000) rfl _ (Keep.refl _ _)) rfl)
  refine FenceKeep.trans (FenceKeep.of ?_) (State.sealPrune_fenceKeep step _)
  have hfree : (s.freePoints (fun p => p.readOnly)).fence = s.fence := rfl
  have hup (x : State) : (x.fenceUp step 2 [] m.bytes).fence = x.fence :=
    (State.fenceUp_keep (M := 0xC0C00) rfl _ _ _ _ x (Keep.refl _ x)).fence rfl
  have hirq (x : State) : x.stepIrq.fence = x.fence := (State.stepIrq_keep (M := 0x80000) rfl x (Keep.refl _ x)).fence rfl
  simp only [hirq, hup, State.countBytes_frame, hfree]

/-- The root's commit writes neither the steps nor the move. -/
theorem State.rootCommit_move (step : U32) (s : State) :
    (s.rootCommit step).fence.cur = s.fence.cur ∧ (s.rootCommit step).fence.sealedStep = s.fence.sealedStep ∧
    (s.rootCommit step).fence.lastMove = s.fence.lastMove ∧ (s.rootCommit step).fence.stepsSealed = s.fence.stepsSealed ∧
    (s.rootCommit step).fence.mramMoves = s.fence.mramMoves ∧ (s.rootCommit step).fence.pending = s.fence.pending ∧
    (s.rootCommit step).fence.status = s.fence.status := by
  rw [State.rootCommit_fence]
  split <;> exact ⟨rfl, rfl, rfl, rfl, rfl, rfl, rfl⟩

theorem State.cur_of_mayseal {s : State} (h : s.mayseal = true) : s.fence.cur = s.fence.sealedStep + 1 := by
  simp only [State.mayseal, Bool.and_eq_true, beq_iff_eq] at h
  exact h.1.1.2

/-- The move that a step writes, on the fence. -/
theorem State.seal_fence (s : State) :
    s.seal.fence.sealedStep = s.fence.cur ∧ s.seal.fence.cur = s.fence.cur + 1 ∧
    s.seal.fence.stepsSealed = s.fence.stepsSealed + 1 ∧ s.seal.fence.pending = false ∧ s.seal.fence.status = 2 ∧
    s.seal.fence.lastMove = some s.sealRecord ∧ s.sealRecord ∈ s.seal.fence.mramMoves := by
  obtain ⟨kcur, kseal, kmove, kcount, -, kmoves, kpend⟩ :=
    State.afterMove_fenceKeep s.fence.cur s.sealRecord (((s.sealCuts s.fence.cur).noteBusy).sealedFence s.sealRecord)
  obtain ⟨rcur, rseal, rmove, rcount, rmoves, rpend, rstatus⟩ := State.rootCommit_move s.fence.cur
    ((((s.sealCuts s.fence.cur).noteBusy).sealedFence s.sealRecord).afterMove s.fence.cur s.sealRecord)
  rw [State.seal_eq, rcur, rseal, rmove, rcount, rmoves, rpend, rstatus, kcur, kseal, kmove, kcount, kmoves]
  have hpend := kpend.resolve_right (fun k => Bool.false_ne_true k.1)
  rw [hpend.1, hpend.2]
  simp [State.sealedFence, State.sealCuts_fence]

/-- The state in which the move is judged: the completed shards of a pending fence folded in (R20). -/
theorem sealStep_eq (s : State) : sealStep s = if (if s.fence.pending then s.completeAll else s).mayseal
    then (if s.fence.pending then s.completeAll else s).seal else if s.fence.pending then s.completeAll else s := rfl

theorem State.folded_fenceKeep (s : State) : FenceKeep s (if s.fence.pending then s.completeAll else s) := by
  split
  · exact State.completeAll_fenceKeep s
  · exact .of rfl

theorem State.folded_keep (s : State) : Keep 0x2E3F58 s (if s.fence.pending then s.completeAll else s) := by
  split
  · exact State.completeAll_keep rfl s (Keep.refl _ s)
  · exact Keep.refl _ s

/-- Settles O16. The move is written from the state with the completed shards folded in, which keeps the steps and the job, and
nothing that follows it in R29's order writes the steps, the status or the record again. -/
theorem sealedMoveAdvancesTheStepByOne : Obligations.SealedMoveAdvancesTheStepByOne := by
  refine ⟨?moves, ?none_, ?waits⟩
  case moves =>
    intro s h
    obtain ⟨fcur, fseal, -, fcount, -⟩ := State.folded_fenceKeep s
    have k := State.folded_keep s
    obtain ⟨hseal, hcur, hcount, hpend, hstatus, hmove, hmem⟩ := State.seal_fence (if s.fence.pending then s.completeAll else s)
    have hone := State.cur_of_mayseal h
    rw [fcur, fseal] at hone
    refine ⟨_, congrArg Host.Outcome.next ((sealStep_eq s).trans (if_pos h)), hseal.trans fcur, hone, ?_, ?_, hpend, hstatus, _, hmove,
      hmem, fcur, ?_, ?_, ?_, ?_⟩
    · rw [hcur, fcur]
    · rw [hcount, fcount]
    · exact congrArg JobState.jt (k.job rfl)
    · exact congrArg JobState.epoch (k.job rfl)
    · exact congrArg Ident.cn k.ident
    · exact congrArg TimeState.opMs (k.time rfl)
  case none_ =>
    intro s h
    have hno : s.mayseal = false := by simp [State.mayseal, h]
    exact congrArg Host.Outcome.next (by rw [sealStep_eq]; simp [h, hno])
  case waits =>
    intro s h
    have k := State.folded_fenceKeep s
    exact ⟨_, congrArg Host.Outcome.next ((sealStep_eq s).trans (if_neg (by rw [h]; decide))), k.sealed, k.move⟩

end Sys2Proof.Machine
end

section
/-! SUPPORT. Pieces (R84): the checks before the window as equations, and a piece that its window takes. -/
namespace Sys2Proof.Machine
open Sys2Proof Sys2Proof.Statements

/-! ## The checks before the window -/

theorem State.answerAgent_keep_refl (p : Port) (h : Header) (w : U32) (s : State) : Keep 0x400 s (s.answerAgent p h w) :=
  State.answerAgent_keep rfl p h w s (Keep.refl _ s)
theorem State.badPiece_keep_refl (h : Header) (w : U32) (s : State) : Keep 0xC0020 s (s.badPiece h w) :=
  State.badPiece_keep rfl h w s (Keep.refl _ s)

/-- The event of a bad piece is the only other thing that such a piece leaves on the reduction engine. -/
theorem State.badPiece_red (h : Header) (w : U32) (s : State) :
    (s.badPiece h w).red = { s.red with badFirst := (s.badPiece h w).red.badFirst } := by
  unfold State.badPiece
  dsimp only
  split
  · rfl
  · simp

theorem State.afterFailed_takePk (pk : Packet) (step : U32) (s : State) : (s.takePk pk).afterFailed step = s.afterFailed step := by
  simp [State.afterFailed]

theorem State.treeOf_takePk (pk : Packet) (ts : U32) (s : State) : (s.takePk pk).treeOf ts = s.treeOf ts := by
  simp [State.treeOf]

section
variable {s : State} {b : Block} (p : Port)

theorem pieceArrival_of_wrongStep (h : b.hdr.step.toNat > s.fence.cur.toNat + 1 ∨ s.afterFailed b.hdr.step = true) :
    pieceArrival p b s = { (s.takePk (.block b)).dropPiece b.hdr with
      red := { s.red with stepRefusals := bump s.red.stepRefusals } } := by
  simp only [pieceArrival, State.takePk_frame, State.afterFailed_takePk]
  exact if_pos (by simpa using h)

section
variable (hstep : b.hdr.step.toNat ≤ s.fence.cur.toNat + 1) (hfail : s.afterFailed b.hdr.step = false)
include hstep hfail

theorem pieceArrival_of_sealed (h : b.hdr.step.toNat ≤ s.fence.sealedStep.toNat) :
    pieceArrival p b s = (s.takePk (.block b)).dropDuplicate b.hdr := by
  simp only [pieceArrival, State.takePk_frame, State.afterFailed_takePk]
  exact (if_neg (by simp [hstep, hfail])).trans (if_pos h)

variable (hopen : b.hdr.step.toNat > s.fence.sealedStep.toNat) (hanchor : b.hdr.step.toNat ≤ s.red.anchorStep.toNat)
include hopen hanchor

/-- The lookup in the tree table that a piece of an open step reaches. -/
theorem pieceArrival_of_open : pieceArrival p b s =
    match s.treeOf b.hdr.ts with
    | none => ({ (s.takePk (.block b)).dropPiece b.hdr with red := { s.red with unknown := bump s.red.unknown } }).badPiece b.hdr b.hdr.blk
    | some r =>
      match r.children.findIdx? (· == b.hdr.contrib) with
      | none => ({ (s.takePk (.block b)).dropPiece b.hdr with red := { s.red with unknown := bump s.red.unknown } }).badPiece b.hdr
          (BitVec.ofNat 32 (b.hdr.winOf r))
      | some slot => ((s.takePk (.block b)).answerAgent p b.hdr (BitVec.ofNat 32 (b.hdr.winOf r))).pieceAtWindow r b slot
          (BitVec.ofNat 32 (b.hdr.winOf r)) := by
  simp only [pieceArrival, State.takePk_frame, State.afterFailed_takePk, State.treeOf_takePk]
  refine (if_neg (by simp [hstep, hfail])).trans ((if_neg (Nat.not_le.2 hopen)).trans ((if_neg (Nat.not_lt.2 hanchor)).trans ?_))
  simp only [State.dropPiece, State.noteDiscarded, State.takePk_frame] <;> rfl

/-- A piece of no shard of the tree table, or of no child, counts as unknown. -/
theorem pieceArrival_of_unknown
    (h : s.treeOf b.hdr.ts = none ∨ ∃ r, s.treeOf b.hdr.ts = some r ∧ b.hdr.contrib ∉ r.children) :
    ∃ w, pieceArrival p b s =
      ({ (s.takePk (.block b)).dropPiece b.hdr with red := { s.red with unknown := bump s.red.unknown } }).badPiece b.hdr w := by
  rw [pieceArrival_of_open p hstep hfail hopen hanchor]
  rcases h with h | ⟨r, h, hchild⟩
  · exact ⟨_, by rw [h]⟩
  · have hnone : r.children.findIdx? (· == b.hdr.contrib) = none := by
      rw [List.findIdx?_eq_none_iff]
      exact fun c hc => beq_eq_false_iff_ne.2 (fun k => hchild (k ▸ hc))
    exact ⟨_, by rw [h]; dsimp only; rw [hnone]⟩
end

theorem pieceArrival_of_reaches {r : TreeRec} {slot : Nat} (h : PieceReaches s b r slot) : pieceArrival p b s =
    ((s.takePk (.block b)).answerAgent p b.hdr (BitVec.ofNat 32 (b.hdr.winOf r))).pieceAtWindow r b slot
      (BitVec.ofNat 32 (b.hdr.winOf r)) := by
  obtain ⟨hstep, hfail, hopen, hanchor, htree, hslot⟩ := h
  rw [pieceArrival_of_open p hstep hfail hopen hanchor, htree]
  dsimp only
  rw [hslot]
end

/-! ## At the window -/

theorem State.anyWindow_congr {s t : State} (h : t.red = s.red) (ts w step : U32) : t.anyWindow ts w step = s.anyWindow ts w step := by
  simp only [State.anyWindow, State.windowAt, State.parkedAt, h]
theorem State.windowAt_congr {s t : State} (h : t.red = s.red) (ts w step : U32) : t.windowAt ts w step = s.windowAt ts w step := by
  simp only [State.windowAt, h]

/-- What a piece finds as it reaches its window: the reduction engine, the anchors and the fence as they were. -/
theorem State.reach_keep (p : Port) (b : Block) (w : U32) (s : State) :
    Keep 0xC00 s ((s.takePk (.block b)).answerAgent p b.hdr w) :=
  State.answerAgent_keep rfl p b.hdr w _ (State.takePk_keep rfl _ s (Keep.refl _ s))

/-- The anchor that a piece is held against: its window's, else the one in force. -/
def State.pieceBase (s : State) (h : Header) (w : U32) : Int :=
  ((s.anyWindow h.ts w h.step).map (·.anchor)).getD (s.anchorFor h.ts w h.step)

theorem State.anchorFor_congr {s t : State} (hr : t.red = s.red) (hu : t.upd = s.upd) (hj : t.job = s.job) (ts w step : U32) :
    t.anchorFor ts w step = s.anchorFor ts w step := by
  simp only [State.anchorFor, State.anchorOf, State.lastVector, hr, hu, hj]

theorem State.pieceAtWindow_of_malformed {s : State} {r : TreeRec} {b : Block} {slot : Nat} {w : U32}
    (h : b.hdr.malformed r (s.pieceBase b.hdr w) (pieceValues b) = true) :
    s.pieceAtWindow r b slot w =
      ({ s.dropPiece b.hdr with red := { s.red with malformed := bump s.red.malformed } }).badPiece b.hdr w :=
  if_pos h

/-- Settles O17. Each row of R84 before the window is one equation of the piece's arrival; what it leaves on the engine is its count
and, at most, the note that its event has been given. -/
theorem piecesOfWrongStepShardOrSenderAreRefused : Obligations.PiecesOfWrongStepShardOrSenderAreRefused := by
  refine ⟨?step, ?sealed_, ?unknown, ?malformed⟩
  case step =>
    intro s p b h
    refine ⟨_, congrArg Host.Outcome.next (pieceArrival_of_wrongStep p h), rfl, ?_, ?_⟩
    · simp [State.dropPiece, State.noteDiscarded]
    · exact Quiet.of (by simp [State.dropPiece, State.noteDiscarded])
  case sealed_ =>
    intro s p b hstep hfail h
    refine ⟨_, congrArg Host.Outcome.next (pieceArrival_of_sealed p hstep hfail h), ?_, ?_, ?_⟩
    · simp [State.dropDuplicate]
    · simp [State.dropDuplicate, State.dropPiece, State.noteDiscarded]
    · exact Quiet.of (by simp [State.dropDuplicate, State.dropPiece, State.noteDiscarded])
  case unknown =>
    intro s p b hstep hfail hopen hanchor h
    obtain ⟨w, e⟩ := pieceArrival_of_unknown p hstep hfail hopen hanchor h
    refine ⟨_, congrArg Host.Outcome.next e, ?_, ?_, ?_, ?_⟩
    · rw [State.badPiece_red]
    · rw [State.badPiece_red]
    · rw [State.badPiece_red]
    · rw [(State.badPiece_keep_refl ..).fence rfl]
      simp [State.dropPiece, State.noteDiscarded]
  case malformed =>
    intro s p b r slot hreach h
    have k := State.reach_keep p b (BitVec.ofNat 32 (b.hdr.winOf r)) s
    have hbase := (State.pieceAtWindow_of_malformed (slot := slot) (w := BitVec.ofNat 32 (b.hdr.winOf r))
      (s := (s.takePk (.block b)).answerAgent p b.hdr (BitVec.ofNat 32 (b.hdr.winOf r))) (r := r) (b := b)
      (by rw [State.pieceBase, State.anyWindow_congr (k.red rfl), State.anchorFor_congr (k.red rfl) (k.upd rfl) (k.job rfl)]; exact h))
    refine ⟨_, congrArg Host.Outcome.next ((pieceArrival_of_reaches p hreach).trans hbase), ?_, ?_, ?_⟩
    all_goals rw [State.badPiece_red, k.red rfl]

end Sys2Proof.Machine
end

section
/-! SUPPORT. A piece that its open window takes (R77, R83, R84). -/
namespace Sys2Proof.Machine
open Sys2Proof Sys2Proof.Statements

/-- The anchor row of R84: the piece is under the window's anchor, or, of format 15, up to 64 above it. -/
def Header.fitsAnchor (h : Header) (a : Int) : Prop :=
  if h.code == 15 then 0 ≤ signed16 h.anchor - a ∧ signed16 h.anchor - a ≤ 64 else signed16 h.anchor = a

theorem State.pieceAnchor_of_fits {s : State} {r : TreeRec} {b : Block} {slot : Nat} {w : U32} {x : Option Window} {a : Int}
    {vs : List Fv} (h : Header.fitsAnchor b.hdr a) :
    s.pieceAnchor r b slot w x a vs = s.takePiece r b (pieceKind b.hdr a vs ((x.map (·.nonfinite)).getD false)) slot w := by
  unfold State.pieceAnchor
  refine if_neg ?_
  unfold Header.fitsAnchor at h
  split at h <;> rename_i hcode
  · rw [if_pos hcode]
    simp
    omega
  · rw [if_neg hcode]
    simp [h]

section
variable {s : State} {r : TreeRec} {b : Block} {slot : Nat} {w : U32} {x : Window}

theorem State.anyWindow_of_windowAt {ts step : U32} (h : s.windowAt ts w step = some x) : s.anyWindow ts w step = some x := by
  simp only [State.anyWindow, h]

/-- A piece that every row of R84 lets pass reaches its open window. -/
theorem State.pieceAtWindow_of_fits (hwin : s.windowAt b.hdr.ts w b.hdr.step = some x) (hphase : x.phase = .opened)
    (hform : b.hdr.malformed r x.anchor (pieceValues b) = false) (hack : (b.hdr.ts, w, b.hdr.step) ∉ s.red.acked)
    (hgran : ((x.masks[slot]?).getD 0 &&& b.hdr.granules r) = 0) (hlast : b.hdr.contrib ∉ x.lastFrom)
    (hanchor : Header.fitsAnchor b.hdr x.anchor) :
    s.pieceAtWindow r b slot w = s.takeOpen r b (pieceKind b.hdr x.anchor (pieceValues b) x.nonfinite) slot x := by
  unfold State.pieceAtWindow
  simp only [State.anyWindow_of_windowAt hwin, Option.map_some, Option.getD_some]
  refine (if_neg (by rw [← pieceValues, hform]; exact Bool.false_ne_true)).trans ?_
  refine (if_neg (by simpa using hack)).trans ((if_neg (by simp [hphase])).trans ((if_neg (by rw [hgran]; decide)).trans
    ((if_neg (by simpa using hlast)).trans ((State.pieceAnchor_of_fits hanchor).trans ?_))))
  simp only [State.takePiece, hwin, Option.map_some, Option.getD_some, pieceValues]

/-- A piece that is added and does not complete its window changes the window, the counts and the fence's count. -/
theorem State.takeOpen_of_add (h : (x.take r b.hdr b.pay .add slot (s.red.arrivals + 1)).whole r = false) :
    s.takeOpen r b .add slot x = (s.countPiece b.hdr .add).setWindow (x.take r b.hdr b.pay .add slot (s.red.arrivals + 1)) := by
  have harr : (s.countPiece b.hdr .add).red.arrivals = s.red.arrivals + 1 := by simp [State.countPiece, State.noteAccepted]
  unfold State.takeOpen
  refine (if_neg (by decide)).trans ?_
  simp only [harr]
  exact if_neg (by simp [h])

theorem Window.take_add : x.take r b.hdr b.pay .add slot (s.red.arrivals + 1) = withPiece s b r slot x := by
  simp [Window.take, withPiece]

end

theorem Window.isKey_iff (ts w step : U32) (y : Window) : y.isKey ts w step = true ↔ y.ts = ts ∧ y.w = w ∧ y.step = step := by
  simp [Window.isKey, and_assoc]

/-- Settles O18. A piece that every row of R84 lets pass is added to its window; the window's key stays, so that no other window
takes the new value. -/
theorem acceptedPieceIsAddedToItsWindowOnly : Obligations.AcceptedPieceIsAddedToItsWindowOnly := by
  intro s p b r slot x hreach hwin hphase hform hack hgran hlast hanchor hkind hwhole
  have k := State.reach_keep p b (BitVec.ofNat 32 (b.hdr.winOf r)) s
  have hred := k.red rfl
  generalize hs1 : (s.takePk (.block b)).answerAgent p b.hdr (BitVec.ofNat 32 (b.hdr.winOf r)) = s1 at k hred
  have hfits := State.pieceAtWindow_of_fits (s := s1) (slot := slot) ((State.windowAt_congr hred ..).trans hwin) hphase hform
    (by rw [hred]; exact hack) hgran hlast hanchor
  rw [hkind, State.takeOpen_of_add (by rw [hred]; exact hwhole)] at hfits
  have htake : x.take r b.hdr b.pay .add slot (s1.red.arrivals + 1) = withPiece s b r slot x := by
    rw [hred]; exact Window.take_add
  rw [htake] at hfits
  have harrive : pieceArrival p b s = (s1.countPiece b.hdr .add).setWindow (withPiece s b r slot x) := by
    rw [pieceArrival_of_reaches p hreach, hs1, hfits]
  refine ⟨_, congrArg Host.Outcome.next harrive, ?_, ?_⟩
  · have hkey (y : Window) : y.isKey (withPiece s b r slot x).ts (withPiece s b r slot x).w (withPiece s b r slot x).step = true ↔
        y.ts = x.ts ∧ y.w = x.w ∧ y.step = x.step := Window.isKey_iff ..
    simp [State.setWindow, State.countPiece, State.noteAccepted, hred, hkey]
  · simp [State.setWindow, State.countPiece, State.noteAccepted, k.fence rfl]

end Sys2Proof.Machine
end

section
/-! SUPPORT. Windows that come back from the park, are cleared for a higher anchor, or whose outputs are freed or sent again. -/
namespace Sys2Proof.Machine
open Sys2Proof

theorem State.parkRead_keep_refl (place n : Nat) (s : State) : Keep 0x2E3248 s (s.parkRead place n).2 :=
  State.parkRead_keep rfl place n s (Keep.refl _ s)

/-! ## Unparking (R85, R223) -/

/-- The reads of a record's stored pieces, after its own: whether a sector was lost, and the state. -/
def State.readStored (p : Parked) (acc : Bool × State) : Bool × State :=
  p.storedAt.foldl (fun (acc : Bool × State) a => (acc.1 || (acc.2.parkRead a 4160).1, (acc.2.parkRead a 4160).2)) acc

theorem State.readParked_eq (p : Parked) (s : State) : s.readParked p =
    let r := State.readStored p (s.parkRead p.place (s.winParkBytes p.win))
    let t := { r.2 with red := { r.2.red with
      parked := r.2.red.parked.filter (fun q => !q.win.isKey p.win.ts p.win.w p.win.step), unparks := bump r.2.red.unparks } }
    ({ p.win with poison := p.win.poison || r.1 }, t.countPark (t.winParkBytes p.win + 4160 * p.stored.length) false) := rfl

theorem State.readStored_red (p : Parked) (acc : Bool × State) : (State.readStored p acc).2.red = acc.2.red :=
  (Keep.foldl2 (M := 0x2E3248) (g := fun (acc : Bool × State) a => (acc.1 || (acc.2.parkRead a 4160).1, (acc.2.parkRead a 4160).2))
    (Keep.refl _ acc.2) (fun x a => State.parkRead_keep_refl a 4160 x.2)).red rfl

/-- A lost sector stays lost through the reads that follow. -/
theorem State.readStored_bad (p : Parked) (s : State) : (State.readStored p (true, s)).1 = true := by
  unfold State.readStored
  generalize p.storedAt = l
  induction l generalizing s with
  | nil => rfl
  | cons a l ih => exact ih _

theorem State.parkRead_of_noRegion {s : State} (h : s.regionOfKind 3 = none) (place n : Nat) : s.parkRead place n = (false, s) := by
  simp only [State.parkRead, h]

theorem State.readStored_of_noRegion {s : State} (h : s.regionOfKind 3 = none) (p : Parked) :
    State.readStored p (false, s) = (false, s) := by
  unfold State.readStored
  generalize p.storedAt = l
  induction l with
  | nil => rfl
  | cons a l ih => simp only [List.foldl_cons, State.parkRead_of_noRegion h, Bool.or_false, ih]

theorem State.readParked_poison {p : Parked} {s : State} (h : (s.parkRead p.place (s.winParkBytes p.win)).1 = true) :
    (s.readParked p).1 = { p.win with poison := true } := by
  have hb : (State.readStored p (s.parkRead p.place (s.winParkBytes p.win))).1 = true := by
    rw [show s.parkRead p.place (s.winParkBytes p.win) = (true, (s.parkRead p.place (s.winParkBytes p.win)).2) from Prod.ext h rfl]
    exact State.readStored_bad ..
  rw [State.readParked_eq]
  simp only [hb, Bool.or_true]

theorem State.readParked_of_noRegion {p : Parked} {s : State} (h : s.regionOfKind 3 = none) : (s.readParked p).1 = p.win := by
  rw [State.readParked_eq]
  simp only [State.parkRead_of_noRegion h, State.readStored_of_noRegion h, Bool.or_false]

theorem State.winParkBytes_congr {s t : State} (h : t.red.trees = s.red.trees) (x : Window) : t.winParkBytes x = s.winParkBytes x := by
  simp only [State.winParkBytes, State.treeOf, h]

/-- What reading a record back does to the reduction engine. -/
theorem State.readParked_red (p : Parked) (s : State) : (s.readParked p).2.red = { s.red with
    parked := s.red.parked.filter (fun z => !z.win.isKey p.win.ts p.win.w p.win.step), unparks := bump s.red.unparks
    parkBytes := bumpBy s.red.parkBytes (s.winParkBytes p.win + 4160 * p.stored.length) } := by
  have hred : (State.readStored p (s.parkRead p.place (s.winParkBytes p.win))).2.red = s.red :=
    (State.readStored_red ..).trans ((State.parkRead_keep_refl ..).red rfl)
  have hbytes (t : State) (h : t.red.trees = s.red.trees) := State.winParkBytes_congr h p.win
  rw [State.readParked_eq]
  simp only [State.countPark, State.countBytes_frame, hred, hbytes]

theorem State.unpark_of_free {p : Parked} {s : State} (h : s.freeWindow p.win.step = true) :
    s.unpark p = some ((s.readParked p).1, { (s.readParked p).2 with red := { (s.readParked p).2.red with
      windows := (s.readParked p).2.red.windows ++ [(s.readParked p).1] } }) := by
  simp only [State.unpark, State.makeRoom, h, if_true]

theorem windowUnpark_of_free {s : State} {ts step w : U32} {p : Parked} {r : TreeRec} (hp : s.parkedAt ts w step = some p)
    (hr : s.treeOf ts = some r) (hw : (s.readParked p).1.whole r = false) (hfree : s.freeWindow p.win.step = true) :
    windowUnpark ts step w s = { (s.readParked p).2 with red := { (s.readParked p).2.red with
      windows := (s.readParked p).2.red.windows ++ [(s.readParked p).1] } } := by
  simp only [windowUnpark, hp, State.unpark_of_free hfree, hr, hw, Bool.false_eq_true, if_false]

/-! ## A higher anchor (R91) -/

theorem State.askWindow_keep_refl (r : TreeRec) (x : Window) (o : Bool) (s : State) : Keep 0xC0C00 s (s.askWindow r x o) :=
  State.askWindow_keep rfl r x o s (Keep.refl _ s)

theorem State.anchorFor_raised {s : State} {ts w step : U32} {a : Int} {l : List ((U32 × U32 × U32) × Int)}
    (h : s.red.raised = l.filter (fun x => x.1 != (ts, w, step)) ++ [((ts, w, step), a)]) : s.anchorFor ts w step = a := by
  have hfind : s.red.raised.find? (fun x => x.1 == (ts, w, step)) = some ((ts, w, step), a) := by
    rw [h, List.find?_append, List.find?_eq_none.2 (fun x hx => by simpa using (List.mem_filter.1 hx).2)]
    simp
  simp only [State.anchorFor, hfind]

theorem Window.isKey_of_windowAt {s : State} {ts w step : U32} {x : Window} (h : s.windowAt ts w step = some x) :
    x.ts = ts ∧ x.w = w ∧ x.step = step := (Window.isKey_iff ..).1 (List.find?_some h)

section
variable {s : State} {pk : Trans} {r : TreeRec} {x : Window}

/-- A request above the anchor of a window that is held, at an interior node, raises the window. -/
theorem anchorResendReqReceive_of_higher (hr : s.treeOf (pk.a32 0) = some r) (hrole : r.role = 2)
    (hack : (pk.a32 0, reqWindow r pk, pk.step) ∉ s.red.acked) (hx : s.windowAt (pk.a32 0) (reqWindow r pk) pk.step = some x)
    (ha : signed16 (BitVec.ofNat 16 (pk.bNat 0 2)) > x.anchor) :
    anchorResendReqReceive pk s = (s.takePk (.trans pk)).raiseWindow r (pk.a32 0) (reqWindow r pk) pk.step
      (signed16 (BitVec.ofNat 16 (pk.bNat 0 2))) := by
  have hany : (s.takePk (.trans pk)).anyWindow (pk.a32 0) (reqWindow r pk) pk.step = some x :=
    State.anyWindow_of_windowAt ((State.windowAt_congr (by simp) ..).trans hx)
  simp only [anchorResendReqReceive, State.treeOf_takePk, hr, State.takePk_frame, hany, Option.map_some, Option.getD_some, ha, if_true]
  refine (if_neg (by simp [hrole])).trans (if_neg (by simpa using hack))

theorem State.raiseWindow_of_opened {ts w step : U32} {a : Int} (hx : s.windowAt ts w step = some x) (ho : x.phase = .opened) :
    s.raiseWindow r ts w step a =
      ((s.noteDiscarded step x.taken).setWindow (x.clear a .opened)).askWindow r (r.newWindow w step a) false := by
  simp only [State.raiseWindow, hx]
  exact if_pos ho

theorem State.raiseWindow_of_closed {ts w step : U32} {a : Int} (hx : s.windowAt ts w step = some x) (ho : x.phase ≠ .opened) :
    s.raiseWindow r ts w step a =
      (((s.noteDiscarded step x.taken).dropWindow x).setRaised ts w step a).askWindow r (r.newWindow w step a) false := by
  simp only [State.raiseWindow, hx]
  exact if_neg ho

end

/-! ## Outputs (R86, R87) -/

theorem ackPieces_red (x : Window) (s : State) : (s.ackPieces x).red = s.red :=
  (Keep.foldl (M := 0xC0C00) (Keep.refl _ s) (fun y a => State.ackPiece_keep rfl _ _ a y (Keep.refl _ y))).red rfl

/-- An acknowledgement of every retained output of a window frees it and keeps it as acknowledged. -/
theorem ackOutputs_of_all {pk : Trans} {x : Window} {s : State} (hne : x.outs ≠ [])
    (hall : ∀ b ∈ x.outs, names pk (pk.aNat 11 1) b = true) :
    ackOutputs pk x s = State.ackPieces x { s.dropWindow x with red := { (s.dropWindow x).red with
      acked := s.red.acked ++ [(x.ts, x.w, x.step)] } } := by
  have hkept : x.heldOuts.filter (fun b => !names pk (pk.aNat 11 1) b.2) = [] := by
    refine List.filter_eq_nil_iff.2 (fun b hb => ?_)
    simp only [Window.heldOuts, List.mem_map] at hb
    obtain ⟨c, hc, rfl⟩ := hb
    rw [hall _ (List.fst_mem_of_mem_zipIdx hc)]
    decide
  simp only [ackOutputs, hkept, List.map_nil, List.length_nil, List.isEmpty_nil, if_true]
  exact if_neg (fun k => hne (List.length_eq_zero_iff.1 k.symm))

theorem treeBlockAckReceive_of_one {pk : Trans} {x : Window} {s : State}
    (h : s.red.windows.filter (fun x => x.ts == pk.a32 0 && x.step == pk.step && x.phase != .opened) = [x]) :
    treeBlockAckReceive pk s = ackOutputs pk x (s.takePk (.trans pk)) := by
  simp only [treeBlockAckReceive, State.takePk_frame, h, List.foldl_cons, List.foldl_nil]

theorem State.resendOut_red (b : Option Nat × Block) (s : State) :
    (s.resendOut b).red = { s.red with parkBytes := bumpBy s.red.parkBytes 4160 } := by
  unfold State.resendOut
  cases b.1 with
  | none => simp [State.countPark]
  | some a => simp [State.countPark, (State.parkRead_keep_refl a 4160 s).red rfl]

theorem resendOuts_red (l : List (Option Nat × Block)) (s : State) : (l.foldl (fun s b => s.resendOut b) s).red =
    { s.red with parkBytes := l.foldl (fun n _ => bumpBy n 4160) s.red.parkBytes } := by
  induction l generalizing s with
  | nil => rfl
  | cons b l ih => simp only [List.foldl_cons, ih, State.resendOut_red]

/-- Settles O19. Each command is one equation of the window it concerns: its record read back, its contents cleared, its outputs freed
or sent again; the packets that go out leave the reduction engine alone. -/
theorem windowsUnparkResendAndAreAcknowledged : Obligations.WindowsUnparkResendAndAreAcknowledged := by
  refine ⟨?unpark, ?opened, ?closed, ?acked, ?resend, ?timer⟩
  case unpark =>
    intro s ts step w p r hp hr hw hfree
    refine ⟨_, congrArg Host.Outcome.next (windowUnpark_of_free hp hr hw hfree), ?_, State.readParked_poison,
      State.readParked_of_noRegion⟩
    simp only [State.readParked_red]
  case opened =>
    intro s p pk r x hr hrole _ hack hx ha ho
    have hx' := (State.windowAt_congr (t := s.takePk (.trans pk)) (by simp) ..).trans hx
    refine ⟨_, congrArg Host.Outcome.next ((anchorResendReqReceive_of_higher hr hrole hack hx ha).trans
      (State.raiseWindow_of_opened hx' ho)), ?_⟩
    refine (congrArg RedState.windows ((State.askWindow_keep_refl ..).red rfl)).trans ?_
    simp only [State.setWindow, State.noteDiscarded, State.takePk_frame]
    rfl
  case closed =>
    intro s p pk r x hr hrole hack hx ha ho
    have hx' := (State.windowAt_congr (t := s.takePk (.trans pk)) (by simp) ..).trans hx
    refine ⟨_, congrArg Host.Outcome.next ((anchorResendReqReceive_of_higher hr hrole hack hx ha).trans
      (State.raiseWindow_of_closed hx' ho)), ?_, ?_⟩
    · simp only [(State.askWindow_keep_refl ..).red rfl, State.setRaised, State.dropWindow, State.noteDiscarded, State.takePk_frame]
    · exact State.anchorFor_raised (by rw [(State.askWindow_keep_refl ..).red rfl]; rfl)
  case acked =>
    intro s p pk x hx hne hall
    refine ⟨_, congrArg Host.Outcome.next ((treeBlockAckReceive_of_one hx).trans (ackOutputs_of_all hne hall)),
      (ackPieces_red ..).trans ?_⟩
    simp only [State.dropWindow, State.takePk_frame]
  case resend =>
    intro s p pk
    refine ⟨_, rfl, (resendOuts_red _ _).trans ?_⟩
    simp only [State.takePk_frame]
  case timer => exact fun s ts w => ⟨_, rfl, resendOuts_red _ _⟩

end Sys2Proof.Machine
end

section
/-! SUPPORT. The scalar service (R97, R100, R101) and the tree table (R80, R81). -/
namespace Sys2Proof.Machine
open Sys2Proof

/-! ## What taking a packet leaves -/

theorem State.children_takePk (pk : Packet) (s : State) : (s.takePk pk).children = s.children := by
  unfold State.takePk
  split <;> rfl
theorem State.scalarOk_takePk (q : Packet) (pk : Trans) (s : State) : (s.takePk q).scalarOk pk = s.scalarOk pk := by
  unfold State.takePk
  split <;> rfl

/-! ## The scalar fence -/

theorem ScalarRed.sameAs_self (r : ScalarRed) : r.sameAs r.slot r.step r.seg = true := by
  simp [ScalarRed.sameAs]

theorem scalarFenceWrite_of_refused {s : State} {v : U64}
    (h : v.setWidth 32 ≠ s.fence.cur ∨ (slotMembers (((v >>> 32) &&& 0xF#64).setWidth 8) s).enabled = false) :
    scalarFenceWrite v s = ({ s with red := { s.red with scalarStatus := 4 } } : State).scalarRefused 0
      (((v >>> 32) &&& 0xF#64).setWidth 8) (v.setWidth 32) s.job.epoch 0 :=
  if_pos (by simpa [bne_iff_ne] using h)

/-- An armed reduction with no input stays as it is. -/
theorem State.scalarTry_of_noInput {s : State} {slot op : U8} {step : U32} (hin : s.localInput slot op step = none)
    (hown : (s.redOf slot step 0).own = none) : s.scalarTry slot op step = s := by
  have hup : s.scalarUp slot op step = s := by simp only [State.scalarUp, State.foldedRed, hown]
  simp only [State.scalarTry, hin, hup, ite_self]

/-- The first reduction of a slot, armed by the fence without its input. -/
theorem scalarFenceWrite_of_noInput {s : State} {v : U64} {slot : U8} (hstep : s.fence.cur = v.setWidth 32)
    (hslot : slot = ((v >>> 32) &&& 0xF#64).setWidth 8) (hon : (slotMembers slot s).enabled = true) (hnone : s.red.scalars = [])
    (hin : s.localInput slot (slotMembers slot s).op s.fence.cur = none) :
    scalarFenceWrite v s = { s with red := { s.red with
      scalarStatus := 1, scalars := [{ slot := slot, step := s.fence.cur, armed := true }] } } := by
  have hred : s.redOf slot s.fence.cur 0 = { slot := slot, step := s.fence.cur, seg := 0 } := by simp [State.redOf, hnone]
  unfold scalarFenceWrite
  simp only [← hslot, ← hstep]
  refine (if_neg (by simp [hon])).trans ?_
  simp only [hred, hin, State.setRed, hnone, List.filter_nil, List.nil_append, Option.isSome_none, Bool.false_eq_true, ite_self]
  exact State.scalarTry_of_noInput hin (by simp [State.redOf, ScalarRed.sameAs])

/-! ## Packets of the tree -/

/-- A node without children that holds its own value sends it to its parent. -/
theorem State.scalarTry_of_own {s : State} {slot op : U8} {step up : U32} {r : ScalarRed} {v : ScalarVal}
    (hr : s.red.scalars.find? (ScalarRed.sameAs slot step 0) = some r) (hown : r.own = some v) (hsent : r.sent = false)
    (hkids : s.children = []) (hup : s.parent = some up) :
    s.scalarTry slot op step = (s.setRed { r with sent := true }).sendScalar up slot op step 0 v false := by
  have hred : s.redOf slot step 0 = r := by simp only [State.redOf, hr, Option.getD_some]
  have hfold : s.foldedRed op r = some v := by simp [State.foldedRed, hown, hkids]
  have hparent (q : ScalarRed) : (s.setRed q).parent = some up := hup
  simp only [State.scalarTry, State.scalarUp, hred, hown, hfold, hsent, hparent, Option.isNone_some, Bool.and_false,
    Bool.false_eq_true, if_false]

theorem scalarReduceReceive_of_refused {s : State} {pk : Trans}
    (h : s.scalarOk pk = false ∨ ¬ (if (pk.a16 2).getLsbD 2 then s.parent = some (cnOf pk.src) else cnOf pk.src ∈ s.children)) :
    scalarReduceReceive pk s = (s.takePk (.trans pk)).scalarRefused 1 (pk.a8 0) (pk.a32 4) pk.epoch (cnOf pk.src) := by
  unfold scalarReduceReceive
  simp only [State.scalarOk_takePk, State.parent_takePk, State.children_takePk]
  refine if_pos ?_
  rcases h with h | h
  · simp [h]
  · cases hdown : (pk.a16 2).getLsbD 2 with
    | true => rw [hdown] at h; simpa using .inr h
    | false => rw [hdown] at h; simpa using .inr h

theorem scalarReduceReceive_of_down {s : State} {pk : Trans} (hok : s.scalarOk pk = true) (hdown : (pk.a16 2).getLsbD 2 = true)
    (hparent : s.parent = some (cnOf pk.src)) (hslot : pk.a8 0 ≠ slotMaxv) :
    scalarReduceReceive pk s = ((s.takePk (.trans pk)).sendDown (pk.a8 0) (pk.a8 1) (pk.a32 4) (pk.a32 12)
      (scalarOf pk)).deliverScalar (pk.a8 0) (pk.a8 1) (pk.a32 4) (scalarOf pk) := by
  unfold scalarReduceReceive
  simp only [State.scalarOk_takePk, State.parent_takePk, State.children_takePk, hok, hdown, hparent]
  exact (if_neg (by simp)).trans ((if_pos trivial).trans (if_neg (by simpa using hslot)))

/-- The first result of a slot other than 0 is written and nothing is skipped. -/
theorem State.deliverScalar_of_new {s : State} {slot op : U8} {step : U32} {v : ScalarVal} (hslot : slot ≠ 0)
    (hnew : ∀ x ∈ s.red.resultsAt, ¬ (x.1 = slot ∧ x.2.1 = step)) (h : slot.toNat < 16) :
    (s.deliverScalar slot op step v).red.results = s.red.results.set slot.toNat (v.result op) ∧
    (s.deliverScalar slot op step v).red.scalarStatus = 2 := by
  have hno : s.red.resultsAt.any (fun x => x.1 == slot && x.2.1 == step) = false :=
    List.any_eq_false.2 (fun x hx => by simpa using hnew x hx)
  have hzero : (slot == 0) = false := beq_false_of_ne hslot
  simp only [State.deliverScalar, hno, hzero, Bool.false_and, Bool.false_eq_true, if_false, dif_pos h, State.stepIrq,
    State.raiseIrq_frame, and_self]

/-! ## The tree table -/

theorem State.refuseTree_red (off : Nat) (s : State) : (s.refuseTree off).red =
    { s.red with treeErr := BitVec.ofNat 32 off, treeTableRefusals := bump s.red.treeTableRefusals } := by
  simp [State.refuseTree]

theorem treeTableWrite_of_state {s : State} (l : List Byte) (h : s.job.dev = .standby ∨ s.job.dev = .opening ∨ s.job.dev = .run) :
    treeTableWrite l s = match parseTrees (l.length / 24 + 1) 0 [] l with
      | .error off => s.refuseTree off
      | .ok rs => if s.job.dev = .run then { s with red := { s.red with held := some rs } }
        else { s with red := { s.red with trees := rs } } := by
  unfold treeTableWrite
  exact if_neg (by rcases h with h | h | h <;> rw [h] <;> decide)

/-- Settles O20. A fence write, a packet and a configuration each meet their checks once. That a packet of a disabled slot, of another
operation or from no neighbour is refused as one of another step is the model's choice (log 77). -/
theorem scalarServiceArmsFoldsAndRefuses : Obligations.ScalarServiceArmsFoldsAndRefuses := by
  refine ⟨?refused, ?armed, ?up, ?packet, ?result, ?slots, ?badSlots⟩
  case refused =>
    rintro s v _ _ rfl rfl h
    refine ⟨_, congrArg Host.Outcome.next (scalarFenceWrite_of_refused h), ?_, Records.of rfl rfl rfl⟩
    simp [State.scalarRefused]
  case armed =>
    intro s v slot hstep hslot hon hnone hin
    exact ⟨_, congrArg Host.Outcome.next (scalarFenceWrite_of_noInput hstep hslot hon hnone hin), rfl, Quiet.of rfl⟩
  case up =>
    intro s slot r v up hon hr hown hsent hkids hup
    exact congrArg Host.Outcome.next ((if_pos hon).trans (State.scalarTry_of_own hr hown hsent hkids hup))
  case packet =>
    intro s p pk h
    refine ⟨_, congrArg Host.Outcome.next (scalarReduceReceive_of_refused h), ?_, Records.of ?_ ?_ ?_⟩
    all_goals simp [State.scalarRefused]
  case result =>
    intro s p pk hok hdown hparent hmax hslot hnew h
    have hred : ((s.takePk (.trans pk)).sendDown (pk.a8 0) (pk.a8 1) (pk.a32 4) (pk.a32 12) (scalarOf pk)).red = s.red := by
      rw [(State.sendDown_keep (M := 0xC0C00) rfl _ _ _ _ _ _ (Keep.refl _ _)).red rfl]
      simp
    have hdeliver := State.deliverScalar_of_new (v := scalarOf pk) (op := pk.a8 1) hslot (by rw [hred]; exact hnew) h
    rw [hred] at hdeliver
    exact ⟨_, congrArg Host.Outcome.next (scalarReduceReceive_of_down hok hdown hparent hmax), hdeliver⟩
  case slots =>
    intro s l hlen hok
    exact congrArg Host.Outcome.next (if_pos ⟨hlen, List.all_eq_true.2 hok⟩)
  case badSlots =>
    intro s l hbad
    have hno : ¬ (l.length = 64 ∧ (chunksOf 16 4 l).zipIdx.all (fun x => slotOk x.2 x.1) = true) := by
      rintro ⟨hlen, hok⟩
      rcases hbad with h | ⟨x, hx, h⟩
      · exact h hlen
      · exact Bool.false_ne_true (h.symm.trans (List.all_eq_true.1 hok x hx))
    refine ⟨_, congrArg Host.Outcome.next (if_neg hno), ?_, Records.of rfl rfl rfl⟩
    simp [State.scalarRefused]

/-- Settles O21. In the three states that take a table the parser decides; outside them the table is refused at 0xFFFFFFFF. -/
theorem treeTableIsTakenWholeOrRefusedWhole : Obligations.TreeTableIsTakenWholeOrRefusedWhole := by
  refine ⟨?taken, ?held, ?refused⟩
  case taken =>
    intro s l rs h hdev
    have hrun : s.job.dev ≠ .run := by rcases hdev with k | k <;> rw [k] <;> decide
    refine congrArg Host.Outcome.next ((treeTableWrite_of_state l (hdev.imp_right .inl)).trans ?_)
    rw [h]
    exact if_neg hrun
  case held =>
    intro s l rs h hdev
    refine congrArg Host.Outcome.next ((treeTableWrite_of_state l (.inr (.inr hdev))).trans ?_)
    rw [h]
    exact if_pos hdev
  case refused =>
    intro s l off h
    have href : treeTableWrite l s = s.refuseTree off := by
      rcases h with ⟨hdev, h⟩ | ⟨hs, ho, hr, rfl⟩
      · rw [treeTableWrite_of_state l hdev, h]
      · exact if_pos (by simp [hs, ho, hr])
    exact ⟨_, congrArg Host.Outcome.next href, State.refuseTree_red off s, Records.of rfl rfl rfl⟩

end Sys2Proof.Machine
end

section
/-! SUPPORT. Dispatch to a pipeline (R112), the second pass of held mode (R136), and the write-back (R141). -/
namespace Sys2Proof.Machine
open Sys2Proof Sys2Proof.Statements

/-! ## Dispatch -/

section
variable {s : State} {ts w : U32} {rep : Bool} {d : DispWin} {e : TensorEntry}

theorem windowDispatch_of_quarantined (hready : s.readyWindow ts w rep 1 = some (d, e)) (h : e.status = .quarantined) :
    windowDispatch ts w rep s =
      { s.dropDisp d with upd := { (s.dropDisp d).upd with skewRefusals := bump s.upd.skewRefusals } } := by
  simp only [windowDispatch, hready]
  exact if_pos h

theorem windowDispatch_of_halted (hready : s.readyWindow ts w rep 1 = some (d, e)) (h : e.status = .halted) :
    windowDispatch ts w rep s =
      { s.dropDisp d with upd := { (s.dropDisp d).upd with haltedWins := bump s.upd.haltedWins } } := by
  simp only [windowDispatch, hready]
  exact (if_neg (by rw [h]; decide)).trans (if_pos h)

/-- A window of a working shard, handed over: its size decides. -/
theorem windowDispatch_of_handed (hready : s.readyWindow ts w rep 1 = some (d, e)) (hq : e.status ≠ .quarantined)
    (hh : e.status ≠ .halted) (hand : d.handed = true) : windowDispatch ts w rep s =
      match s.sizeFor d with
      | none => s
      | some (s0, s4) =>
        let (ok, t) := if d.roll then (d.step == e.l + 1, s) else s.beginStep e d.step
        if ok then t.dispatchTo (((if rep then t.replicaOf ts else t.ownerOf ts)).getD e) d s0 s4 else t := by
  simp only [windowDispatch, hready]
  refine (if_neg hq).trans ((if_neg hh).trans ?_)
  simp only [State.retryHandOff, hand, if_true, Bool.not_true, Bool.false_eq_true, if_false] <;> rfl

end

/-- A window that a pipeline takes with its mask good: the update unit after it. -/
theorem State.assign_upd {s : State} {p : Pipe} {e : TensorEntry} {d : DispWin} (h : (s.runFor (unitPipe p) e d).2.1 = false) :
    (s.assign p e d).upd = { (s.runFor (unitPipe p) e d).2.2.upd with
      pipes := (s.runFor (unitPipe p) e d).2.2.upd.pipes.set p { (s.runFor (unitPipe p) e d).2.2.upd.pipes[p] with
        queue := ((s.runFor (unitPipe p) e d).2.2.upd.pipes[p]).queue ++ [⟨d, (s.runFor (unitPipe p) e d).1⟩] } } := by
  simp only [State.assign, h, Bool.false_and, Bool.false_eq_true, if_false]
  split <;> rfl

/-- The pages that the run of a window touches are all that its reads leave on the update unit (R143). -/
theorem State.assign_touches {s : State} {p : Pipe} {e : TensorEntry} {d : DispWin} (h : (s.runFor (unitPipe p) e d).2.1 = false) :
    ∃ n k l, (s.assign p e d).upd = { s.upd with
      touchPages := n, stepTouches := k, touchWait := l
      pipes := s.upd.pipes.set p { s.upd.pipes[p] with
        queue := (s.upd.pipes[p]).queue ++ [⟨d, (s.runFor (unitPipe p) e d).1⟩] } } := by
  obtain ⟨n, k, l, ht⟩ := State.runFor_touches (unitPipe p) e d s
  exact ⟨n, k, l, by rw [State.assign_upd h, ht]⟩

theorem State.dispatchTo_of_room {s : State} {e : TensorEntry} {d : DispWin} {s0 s4 : U32} {p : Pipe}
    (hpick : s.pickPipe (patternOf e) [] = some p) (hroom : (s.upd.pipes[p]).queue.length < 4) :
    s.dispatchTo e d s0 s4 = (s.dropDisp d).assign p e { d with s0 := s0, s4 := s4, tPrime := e.t + 1 } := by
  simp only [State.dispatchTo, hpick]
  exact if_neg (Nat.not_le.2 hroom)

/-! ## The second pass -/

/-- The slot's result of a held window, as the second pass takes it: none for slot 0. -/
def heldResult (s : State) (e : TensorEntry) (step : U32) : Option (U64 × Bool) :=
  if e.heldSlot = 0 then none else s.resultAt e.heldSlot step

/-- A held window with its results there becomes a window of the second pass. -/
theorem heldSecondPass_of_results {s : State} {ts w : U32} {h : HeldWin} {e : TensorEntry} {v : U64 × Bool}
    (hheld : s.upd.heldArea.find? (fun h => h.ts == ts && h.w == w) = some h) (hown : s.ownerOf ts = some e)
    (hzero : s.resultAt 0 h.step = some v) (hres : e.heldSlot = 0 ∨ (s.resultAt e.heldSlot h.step).isSome = true)
    (hgood : h.poison = false) (hread : (s.readHeld e w.toNat (winElems (s.winSpan ts) e.count.toNat w.toNat)).2.1 = false) :
    let r := s.readHeld e w.toNat (winElems (s.winSpan ts) e.count.toNat w.toNat)
    let d : DispWin := { ts := ts, w := w, step := h.step, second := true, g := r.1, poison := false
                         nonfinite := h.nonfinite, anchor := h.anchor, handed := h.handed, ready := true, tPrime := e.t + 1
                         heldVal := (heldResult s e h.step).map (fun x => heldValue x.1 x.2) }
    (heldSecondPass ts w s).upd.heldArea = r.2.2.upd.heldArea.filter (fun x => !(x.ts == ts && x.w == w && x.step == h.step)) ∧
    (heldSecondPass ts w s).upd.disp = r.2.2.upd.disp ++ [d] := by
  have hval : (if (e.heldSlot == 0) = true then some none else (s.resultAt e.heldSlot h.step).map some) =
      some (heldResult s e h.step) := by
    unfold heldResult
    by_cases k : e.heldSlot = 0
    · simp [k]
    · obtain ⟨y, hy⟩ := Option.isSome_iff_exists.1 (hres.resolve_left k)
      rw [if_neg (by simpa using k), if_neg k, hy]
      rfl
  simp only [heldSecondPass, hheld, hown, hzero, hval, hread, hgood, Bool.or_self, Bool.false_eq_true, if_false]
  exact ⟨rfl, rfl⟩

/-- Settles O22. The ready window of R112 passes its checks in order; the reads of its run leave only page counts on the update unit,
so that the pipeline's queue is the one that was there with the window behind it. -/
theorem readyWindowGoesToThePickedPipeline : Obligations.ReadyWindowGoesToThePickedPipeline := by
  refine ⟨?dispatch, ?quarantined, ?halted, ?waits, ?second, ?missing⟩
  case dispatch =>
    intro s s1 ts w rep d d1 e e1 s0 s4 p hready hq hh hand hsize hbegin hentry hpick hroom hd1 hmask
    subst hd1
    have hgo : windowDispatch ts w rep s = s1.dispatchTo e1 d s0 s4 := by
      rw [windowDispatch_of_handed hready hq hh hand, hsize]
      dsimp only
      rw [hbegin]
      simp only [if_true, hentry, Option.getD_some]
    rw [State.dispatchTo_of_room hpick hroom] at hgo
    obtain ⟨n, k, l, h⟩ := State.assign_touches hmask
    exact ⟨_, congrArg Host.Outcome.next hgo, n, k, l, h⟩
  case quarantined => exact fun s ts w rep d e hready h => congrArg Host.Outcome.next (windowDispatch_of_quarantined hready h)
  case halted => exact fun s ts w rep d e hready h => congrArg Host.Outcome.next (windowDispatch_of_halted hready h)
  case waits =>
    intro s ts w rep d e hready hq hh hand hsize
    exact congrArg Host.Outcome.next (by rw [windowDispatch_of_handed hready hq hh hand, hsize])
  case second =>
    intro s ts w h e v hheld hown hzero hres hgood hread
    obtain ⟨harea, hdisp⟩ := heldSecondPass_of_results hheld hown hzero hres hgood hread
    obtain ⟨a, b, c, ht⟩ := State.readHeld_touches e w.toNat (winElems (s.winSpan ts) e.count.toNat w.toNat) s
    rw [ht] at harea hdisp
    refine ⟨_, rfl, harea, _, hdisp, rfl, rfl, rfl, rfl, rfl, rfl, ?_⟩
    simp only [heldResult]
    split <;> rfl
  case missing =>
    intro s ts w h hheld hzero
    refine congrArg Host.Outcome.next ?_
    unfold heldSecondPass
    rw [hheld]
    cases s.ownerOf ts with
    | none => rfl
    | some e => simp only [hzero]

/-! ## The write-back -/

section
variable {s : State} {p : Pipe} {x : PipeWin} {e : TensorEntry}
  (hx : (s.upd.pipes[p]).queue.find? (fun x => !x.win.replica) = some x) (he : s.ownerOf x.win.ts = some e)
include hx he

theorem windowWriteback_of_quarantined (h : e.status = .quarantined) : windowWriteback p s =
    let gone := s.setPipe p (fun q => { q with queue := q.queue.erase x })
    { gone with upd := { gone.upd with skewRefusals := bump gone.upd.skewRefusals } } := by
  simp only [windowWriteback, hx, he]
  exact if_pos h

theorem windowWriteback_of_halted (h : e.status = .halted) : windowWriteback p s =
    let gone := s.setPipe p (fun q => { q with queue := q.queue.erase x })
    { gone with upd := { gone.upd with haltedWins := bump gone.upd.haltedWins } } := by
  simp only [windowWriteback, hx, he]
  exact (if_neg (by rw [h]; decide)).trans (if_pos h)

theorem windowWriteback_of_working (hq : e.status ≠ .quarantined) (hh : e.status ≠ .halted) :
    windowWriteback p s = s.writeOwner p e x := by
  simp only [windowWriteback, hx, he]
  exact (if_neg hq).trans (if_neg hh)

end

theorem State.writeOwner_of_wait {s t : State} {p : Pipe} {x : PipeWin} {e : TensorEntry}
    (h : s.mustWait ((s.resultWrites e x.win.step (firstElem s x.win) x.res).map (·.off)) = (true, t)) :
    s.writeOwner p e x = t := by
  simp only [State.writeOwner, h, if_true]

theorem State.writeOwner_of_ready {s t : State} {p : Pipe} {x : PipeWin} {e : TensorEntry}
    (h : s.mustWait ((s.resultWrites e x.win.step (firstElem s x.win) x.res).map (·.off)) = (false, t)) (hgood : x.res.poisonOut = false) :
    s.writeOwner p e x =
      (((blocksWritten t p e x (s.resultWrites e x.win.step (firstElem s x.win) x.res)).countWindow (unitPipe p) e x.win
        x.res).tellPartner p e x.win (s.resultWrites e x.win.step (firstElem s x.win) x.res)).finishWindow e x.win := by
  simp only [State.writeOwner, h, hgood, Bool.false_eq_true, if_false]
  rfl

/-- A parity error on a window, before its second execution: the window off the pipeline, the count, the event and the charge. -/
def State.parityNoted (p : Pipe) (stage : U8) (x : PipeWin) (e : TensorEntry) (s : State) : State :=
  let s := s.setPipe p (fun q => { q with queue := q.queue.dropLast })
  let s := { s with upd := { s.upd with reexec := bump s.upd.reexec } }
  let s := s.record (ev3 0x240A (unitPipe p) (arg1 p.val ++ [stage] ++ arg4 x.win.w))
  s.charge { unit := unitPipe p, code := 0x240A, path := 1, pattern := patternOf e }

theorem pipeParity_of_window {s : State} {p : Pipe} {stage : U8} {x : PipeWin} {e : TensorEntry}
    (hx : (s.upd.pipes[p]).queue.getLast? = some x)
    (he : (if x.win.replica then s.replicaOf x.win.ts else s.ownerOf x.win.ts) = some e) :
    pipeParity p stage s = (s.parityNoted p stage x e).assign
      (((s.parityNoted p stage x e).pickPipe (patternOf e) [p]).getD p) e x.win := by
  simp only [pipeParity, hx, he]
  rfl

/-- Settles O23. The oldest owner's window is written, waits or is refused by its shard; that a parity error hits the youngest window
of the pipeline is the model's choice (log 71). -/
theorem writeBackWritesTheBlocksOfTheResult : Obligations.WriteBackWritesTheBlocksOfTheResult := by
  refine ⟨?written, ?waits, ?quarantined, ?halted, ?parity⟩
  case written =>
    rintro s s1 p x e ws hx he hq hh rfl hwait hgood
    exact congrArg Host.Outcome.next ((windowWriteback_of_working hx he hq hh).trans (State.writeOwner_of_ready hwait hgood))
  case waits =>
    intro s s1 p x e hx he hq hh hwait
    exact congrArg Host.Outcome.next ((windowWriteback_of_working hx he hq hh).trans (State.writeOwner_of_wait hwait))
  case quarantined =>
    intro s p x e hx he h
    exact ⟨_, congrArg Host.Outcome.next (windowWriteback_of_quarantined hx he h), rfl, rfl⟩
  case halted =>
    intro s p x e hx he h
    exact ⟨_, congrArg Host.Outcome.next (windowWriteback_of_halted hx he h), rfl, rfl⟩
  case parity =>
    intro s p stage x e hx he
    refine ⟨s.parityNoted p stage x e, ?_, ?_, congrArg Host.Outcome.next (pipeParity_of_window hx he)⟩
    · simp [State.parityNoted, State.setPipe]
    · simp [State.parityNoted, State.setPipe]

end Sys2Proof.Machine
end

section
/-! SUPPORT. What is written to the update unit: halt releases, staged masks, program slots and the tensor table. -/
namespace Sys2Proof.Machine
open Sys2Proof

theorem haltReleaseWrite_of_owner {s : State} {v : U32} {e : TensorEntry} (h : s.ownerOf v = some e) :
    haltReleaseWrite v s = match e.status with
      | .haltPending => s.setEntry v 1 (fun e => { e with status := if e.p.isSome then .running else .idle })
      | .halted => { s with upd := { s.upd with releasing := v :: s.upd.releasing } }
      | _ => s := by
  simp only [haltReleaseWrite, h] <;> rfl

/-- A mask block of an owned shard that passes the checks is staged; a paired RPL shard's goes to the partner too. -/
theorem maskStageWrite_of_ok {s : State} {l : List Byte} {e : TensorEntry} (hlen : l.length = 4160)
    (hown : s.ownerOf (Block.ofBytes l).hdr.ts = some e) (hok : s.maskStageOk e (Block.ofBytes l) = true) :
    (maskStageWrite l s).upd =
      { s.upd with staged := s.upd.staged ++ [⟨e.ts, (Block.ofBytes l).hdr.step, false, Block.ofBytes l⟩] } := by
  simp only [maskStageWrite, hown, hlen, hok, and_self, if_true]
  split
  · exact (State.sendMask_keep (M := 0xC1C00) rfl _ _ _ _ (Keep.refl _ _)).upd rfl
  · rfl

theorem maskStageWrite_of_bad {s : State} {l : List Byte} (h : s.ownerOf (Block.ofBytes l).hdr.ts = none ∨
      ∃ e, s.ownerOf (Block.ofBytes l).hdr.ts = some e ∧ (l.length ≠ 4160 ∨ s.maskStageOk e (Block.ofBytes l) = false)) :
    maskStageWrite l s = s.refuseMask := by
  unfold maskStageWrite
  rcases h with h | ⟨e, h, hbad⟩
  · simp only [h]
  · simp only [h]
    refine if_neg ?_
    rintro ⟨hlen, hok⟩
    exact hbad.elim (fun k => k hlen) (fun k => Bool.false_ne_true (k.symm.trans hok))

theorem programSlotWrite_of_bad {s : State} {n : Fin 16} {l : List Byte} {err : Nat}
    (h : s.loadable = true ∧ slotError l = some err ∨ s.loadable = false ∧ err = 0xFF) :
    programSlotWrite n l s = s.refuseProg n err := by
  unfold programSlotWrite
  rcases h with ⟨hload, h⟩ | ⟨hload, rfl⟩
  · simp only [hload, h, Bool.not_true, Bool.false_eq_true, if_false]
  · simp only [hload, Bool.not_false, if_true]

theorem tensorTableWrite_of_bad {s : State} {l : List Byte} {off : Nat} (h : s.loadable = true ∧
      s.parseTable 0 [] (chunksOf (l.length / 256 + 1) 256 l) = .error off ∨ s.loadable = false ∧ off = 0xFFFFFFFF) :
    tensorTableWrite l s = s.refuseTable off := by
  unfold tensorTableWrite
  rcases h with ⟨hload, h⟩ | ⟨hload, rfl⟩
  · simp only [hload, h, Bool.not_true, Bool.false_eq_true, if_false]
  · simp only [hload, Bool.not_false, if_true]

/-- Settles O24. Each write is taken whole or refused by its unit's checks. That a mask block whose header is not a valid one of the
shard's mask stream is refused (log 71), that a word cut short and a table outside its states have the offsets they have (log 69),
and that a new owner shard of a pair is synchronised (log 78) are the model's choices. -/
theorem haltsMasksProgramsAndTableAreWritten : Obligations.HaltsMasksProgramsAndTableAreWritten := by
  refine ⟨?halted, ?pending, ?unowned, ?mask, ?badMask, ?slot, ?badSlot, ?table, ?badTable⟩
  case halted => exact fun s v e h k => congrArg Host.Outcome.next (by rw [haltReleaseWrite_of_owner h, k])
  case pending => exact fun s v e h k => congrArg Host.Outcome.next (by rw [haltReleaseWrite_of_owner h, k])
  case unowned => exact fun s v h => congrArg Host.Outcome.next (by simp only [haltReleaseWrite, h]; rfl)
  case mask => exact fun s l e hlen hown hok => ⟨_, rfl, maskStageWrite_of_ok hlen hown hok⟩
  case badMask =>
    intro s l h
    refine ⟨_, congrArg Host.Outcome.next (maskStageWrite_of_bad h), ?_, Records.of rfl rfl rfl⟩
    simp [State.refuseMask]
  case slot =>
    intro s n l hload h
    exact congrArg Host.Outcome.next (by
      simp only [programSlotWrite, hload, h, Bool.not_true, Bool.false_eq_true, if_false])
  case badSlot =>
    intro s n l err h
    refine ⟨_, congrArg Host.Outcome.next (programSlotWrite_of_bad h), ?_, ?_, ?_, ?_, Records.of rfl rfl rfl⟩
    all_goals simp [State.refuseProg]
  case table =>
    intro s l es hload h
    exact congrArg Host.Outcome.next (by
      simp only [tensorTableWrite, hload, h, Bool.not_true, Bool.false_eq_true, if_false])
  case badTable =>
    intro s l off h
    refine ⟨_, congrArg Host.Outcome.next (tensorTableWrite_of_bad h), ?_, Records.of rfl rfl rfl⟩
    simp [State.refuseTable, State.loadRefused]

end Sys2Proof.Machine
end

section
/-! SUPPORT. The vector cores apart from their instructions: dispatch, the end of runs, checks, completions and what is loaded. -/
namespace Sys2Proof.Machine
open Sys2Proof

/-! ## Dispatch (R157 to R159) -/

section
variable {s : State} {ts w : U32} {d : DispWin} {e : TensorEntry}

theorem invocationDispatch_of_quarantined (hready : s.readyWindow ts w false 2 = some (d, e)) (h : e.status = .quarantined) :
    invocationDispatch ts w s =
      { s.dropDisp d with upd := { (s.dropDisp d).upd with skewRefusals := bump s.upd.skewRefusals } } := by
  simp only [invocationDispatch, hready]
  exact if_pos h

theorem invocationDispatch_of_halted (hready : s.readyWindow ts w false 2 = some (d, e)) (h : e.status = .halted) :
    invocationDispatch ts w s =
      { s.dropDisp d with upd := { (s.dropDisp d).upd with haltedWins := bump s.upd.haltedWins } } := by
  simp only [invocationDispatch, hready]
  exact (if_neg (by rw [h]; decide)).trans (if_pos h)

/-- A window of a working shard with its size, whose step is begun, is invoked. -/
theorem invocationDispatch_of_sized {s1 : State} {s0 s4 : U32} {e1 : TensorEntry} (hready : s.readyWindow ts w false 2 = some (d, e))
    (hq : e.status ≠ .quarantined) (hh : e.status ≠ .halted) (hsize : s.sizeFor d = some (s0, s4))
    (hbegin : s.beginStep e d.step = (true, s1)) (hown : s1.ownerOf ts = some e1) :
    invocationDispatch ts w s = s1.invoke e1 d s0 s4 := by
  simp only [invocationDispatch, hready]
  refine (if_neg hq).trans ((if_neg hh).trans ?_)
  simp only [hsize, hbegin, if_true, hown, Option.getD_some]

end

/-- What an invocation that is dispatched leaves before it is placed: the window off the dispatcher, the count. -/
def State.dispatched (d : DispWin) (s : State) : State :=
  { s.dropDisp d with vec := { s.vec with dispatched := bump s.vec.dispatched } }

theorem State.invoke_of_idle {s : State} {e : TensorEntry} {d : DispWin} {s0 s4 : U32} {c : Core}
    (hpick : s.pickCore (patternOf e) [] = some c) (hrun : (s.core c).running = none) (hq : (s.core c).queue = none)
    (hcheck : s.checkCore (patternOf e) c = none) :
    s.invoke e d s0 s4 = (s.dispatched d).startInvoc c
      { win := { d with s0 := s0, s4 := s4, tPrime := e.t + 1 }, entry := e.slot } := by
  have hload : (s.core c).load = 0 := by simp [CoreState.load, hrun, hq]
  have hidle : ((s.dispatched d).core c).running.isNone = true := by
    rw [show ((s.dispatched d).core c).running = none from hrun]; rfl
  simp only [State.invoke, hpick, hload, hcheck]
  exact (if_neg (by decide)).trans (if_pos hidle)

/-- A core as an invocation starts on it (R159). -/
def CoreState.started (s : State) (i : Invoc) (e : TensorEntry) (v : VecEntry) (k : CoreState) : CoreState :=
  { k with
    x := startX i.win (firstElem s i.win) v
    f := Vector.ofFn fun (j : Fin 32) =>
      if j.val < 16 then ((scalarRegs e i.win.tPrime i.win.s0 i.win.s4 i.win.heldVal).getD j.val 0).setWidth 64 else 0
    v := Vector.replicate 32 (Vector.replicate 32 0), p := Vector.replicate 8 0
    scratch := cellsWrite k.scratch 0 (padTo (4 * s.winSpan i.win.ts) (i.win.g.flatMap le32)), pc := v.off
    running := some i, staged := [], latch := false, conv := false, loads := [], copies := [], endWait := none }

theorem State.startInvoc_of_entry {s : State} {c : Core} {i : Invoc} {e : TensorEntry} {v : VecEntry}
    (he : s.ownerOf i.win.ts = some e) (hv : s.entryAt i.entry = some v) :
    s.startInvoc c i = s.setCore c ((s.core c).started s i e v) := by
  simp only [State.startInvoc, he, hv, CoreState.started]

/-- Settles O25. A window of the vector class passes its checks in order and starts on the idle core that is picked. -/
theorem vectorWindowBecomesAnInvocation : Obligations.VectorWindowBecomesAnInvocation := by
  refine ⟨?starts, ?quarantined, ?halted⟩
  case starts =>
    intro s s1 ts w d d1 e e1 v s0 s4 c hready hq hh hsize hbegin hown hpick hrun hqueue hcheck hd1 hown' hentry
    subst hd1
    have hstart := State.startInvoc_of_entry (s := s1.dispatched d) (c := c)
      (i := { win := { d with s0 := s0, s4 := s4, tPrime := e1.t + 1 }, entry := e1.slot }) (e := e1) (v := v) hown' hentry
    refine ⟨_, congrArg Host.Outcome.next ((invocationDispatch_of_sized hready hq hh hsize hbegin hown).trans
      ((State.invoke_of_idle hpick hrun hqueue hcheck).trans hstart)), ?_⟩
    dsimp only
    rw [State.core_setCore]
    refine ⟨rfl, rfl, rfl, rfl, ?_, ?_, ?_, ?_, ?_, rfl, rfl, rfl, rfl, rfl, rfl⟩
    all_goals simp [CoreState.started, startX]
    rfl
  case quarantined => exact fun s ts w d e hready h => congrArg Host.Outcome.next (invocationDispatch_of_quarantined hready h)
  case halted => exact fun s ts w d e hready h => congrArg Host.Outcome.next (invocationDispatch_of_halted hready h)

end Sys2Proof.Machine
end

section
/-! SUPPORT. The ends of vector runs, their checks and completions, code slots and the entry table. -/
namespace Sys2Proof.Machine
open Sys2Proof

/-! ## Budget and parity (R165, R166) -/

theorem State.endRun_of_idle {s : State} {c : Core} (h : (s.core c).running = none) (pc : U32) (e : EndKind) :
    s.endRun c pc e = s := by
  simp only [State.endRun, h]

theorem State.vec_endBad_budget (c : Core) (i : Invoc) (pc : U32) (s : State) :
    (s.endBad c i pc .budget).vec = { s.vec with budgetAborts := bump s.vec.budgetAborts } := by
  simp [State.endBad]

/-- A parity error on a core, before the invocation runs again: the core stopped, the count, the event and the charge. -/
def State.coreParityNoted (c : Core) (unit : U8) (i : Invoc) (s : State) : State :=
  let s := s.setCore c (s.core c).stop
  let s := { s with vec := { s.vec with reexec := bump s.vec.reexec } }
  let s := s.record (ev3 0x2505 (unitCore c) (arg1 c.val ++ [unit]))
  s.charge { unit := unitCore c, code := 0x2505, path := 1, pattern := 0x8100 + i.entry.toNat }

theorem vcParity_of_running {s : State} {c : Core} {unit : U8} {i : Invoc} (h : (s.core c).running = some i) :
    vcParity c unit s = ((s.coreParityNoted c unit i).redispatch c i).startNext c := by
  simp only [vcParity, h]
  rfl

/-! ## Commit (R126, R133, R162) -/

section
variable {s : State} {r : RunOut} {e : TensorEntry} (he : s.ownerOf r.inv.win.ts = some e) (hgood : r.ending.good = true)
include he hgood

theorem State.settleRun_of_working (hq : e.status ≠ .quarantined) (hh : e.status ≠ .halted) : s.settleRun r = s.commitRun e r := by
  simp only [State.settleRun, he]
  exact (if_neg (by simp [hgood])).trans ((if_neg hq).trans (if_neg hh))

theorem State.settleRun_of_quarantined (h : e.status = .quarantined) :
    s.settleRun r = ({ s.dropFinished r with upd := { s.upd with skewRefusals := bump s.upd.skewRefusals } }, true) := by
  simp only [State.settleRun, he]
  exact (if_neg (by simp [hgood])).trans (if_pos h)

end

theorem invocationCommit_of_ended {s : State} {c : Core} {r : RunOut} (h : (s.core c).finished.find? (fun r => !r.inv.check) = some r) :
    invocationCommit c s = (s.settleRun r).1 := by
  simp only [invocationCommit, h]

/-! ## Checks (R168) -/

/-- The first two runs of a check have ended. -/
theorem vcCheck_of_two {s : State} {c : Core} {a b x : RunOut} (hx : (s.core c).finished.find? (fun r => r.inv.check) = some x)
    (hruns : s.checkRuns x.inv = [a, b]) (ha : a.inv.runNo = 0) (hb : b.inv.runNo = 1) :
    vcCheck c s = if a.agrees b then s.standsWith a [b] (fun s => { s with vec := countAgreed s.vec })
      else if s.thirdRuns x.inv then s else s.startThird a b := by
  simp only [vcCheck, hx, hruns]
  exact if_neg (by simp [ha, hb])

theorem State.startThird_of_room {s : State} {a r : RunOut} {b : Core}
    (hpick : s.pickCore (0x8100 + a.inv.entry.toNat) [a.core, r.core] = some b) (hroom : (s.core b).load < 2) :
    s.startThird a r = s.place b { a.inv with runNo := 2 } := by
  simp only [State.startThird, hpick, hroom, if_true]

/-! ## Completions (R161, R175) -/

/-- A load of one address reads it once. -/
theorem State.readLanes_one {s u : State} {n : Nat} {a : U64} {t : Tier} {l : List Byte} {bad : Bool}
    (ht : tierOf (offOf a) = some t) (h : s.readMem t (offOf a) n = (l, bad, u)) :
    s.readLanes n [a] = ([l], if bad then some a else none, u) := by
  simp only [State.readLanes, List.foldl_cons, List.foldl_nil, ht, h, List.nil_append, Option.isNone_none, Bool.and_true]

theorem vcLoadComplete_of_scalar {s u : State} {c : Core} {l : PendLoad} {rest : List PendLoad} {r : BitVec 5} {size : BitVec 3} {a : U64}
    {bs : List Byte} {bad : Bool} {t : Tier} (hl : (s.core c).loads = l :: rest) (hd : l.dest = .x r size) (ha : l.addrs = [a])
    (ht : tierOf (offOf a) = some t) (h : (s.setCore c { s.core c with loads := rest }).readMem t (offOf a) l.bytes = (bs, bad, u)) :
    vcLoadComplete c s = if bad then u.endRun c l.pc (.fault 9 a) else u.setCore c ((u.core c).deliver (.x r size) [bs]) := by
  simp only [vcLoadComplete, hl, hd, ha, State.readLanes_one ht h]
  cases bad <;> rfl

theorem bstbCopyComplete_eq (s : State) (c : Core) : bstbCopyComplete c s =
    (s.setCore c { s.core c with copies := (s.core c).copies.drop 1 }).endIfDone c := rfl

theorem State.endIfDone_of_none {s : State} {c : Core} (h : (s.core c).endWait = none) : s.endIfDone c = s := by
  simp only [State.endIfDone, h]

theorem State.endIfDone_of_done {s : State} {c : Core} {v : U8} (h : (s.core c).endWait = some v) (hc : (s.core c).copying = false) :
    s.endIfDone c = s.endRun c (s.core c).pc (.status v) := by
  simp only [State.endIfDone, h, hc, Bool.false_eq_true, if_false]

/-! ## What is loaded (R176, R177) -/

theorem codeSlotWrite_of_bad {s : State} {n : Fin 16} {l : List Byte} {err : Nat}
    (h : s.loadable = true ∧ l ≠ [] ∧ codeSlotError (totalWords - s.otherWords n) l = some err ∨
      (s.loadable = false ∨ l = []) ∧ err = 0xFFFF) : codeSlotWrite n l s = s.refuseCode n err := by
  unfold codeSlotWrite
  rcases h with ⟨hload, hne, h⟩ | ⟨hno, rfl⟩
  · simp only [hload, List.isEmpty_eq_false_iff.2 hne, h, Bool.not_true, Bool.or_self, Bool.false_eq_true, if_false]
  · refine if_pos ?_
    rcases hno with hload | rfl
    · simp [hload]
    · simp

theorem vectorEntryWrite_of_bad {s : State} {l : List Byte} {off : Nat} (h : s.loadable = true ∧
      s.parseVec 0 [] (chunksOf (l.length / 128 + 1) 128 l) = .error off ∨ s.loadable = false ∧ off = 0xFFFFFFFF) :
    vectorEntryWrite l s = s.refuseVec off := by
  unfold vectorEntryWrite
  rcases h with ⟨hload, h⟩ | ⟨hload, rfl⟩
  · simp only [hload, h, Bool.not_true, Bool.false_eq_true, if_false]
  · simp only [hload, Bool.not_false, if_true]

/-- Settles O26. The ends of runs follow endRun and settleRun, a check its two runs, a completion the oldest load or copy. The offset of
an entry table written outside its states is the model's choice (logs 69, 71), as is that an invocation dispatched again waits for a
place (log 79). -/
theorem vectorRunsEndCompareAndCommit : Obligations.VectorRunsEndCompareAndCommit := by
  refine ⟨?budget, ?idle, ?parity, ?commit, ?quarantined, ?third, ?agree, ?load, ?poisoned, ?copy, ?last, ?code, ?badCode, ?entries,
    ?badEntries⟩
  case budget =>
    intro s c i hrun hcheck hq hagain
    refine ⟨_, congrArg Host.Outcome.next (State.endRun_of_bad (e := .budget) hrun hq hagain rfl hcheck _), ?_⟩
    exact State.vec_endBad_budget ..
  case idle => exact fun s c h => congrArg Host.Outcome.next (State.endRun_of_idle h ..)
  case parity =>
    intro s c unit i h
    refine ⟨s.coreParityNoted c unit i, ?_, congrArg Host.Outcome.next (vcParity_of_running h)⟩
    simp [State.coreParityNoted, State.setCore, CoreState.stop, State.core]
  case commit =>
    intro s c r e hr he hgood hq hh
    exact congrArg Host.Outcome.next ((invocationCommit_of_ended hr).trans
      (congrArg Prod.fst (State.settleRun_of_working he hgood hq hh)))
  case quarantined =>
    intro s c r e hr he hgood h
    exact ⟨_, congrArg Host.Outcome.next ((invocationCommit_of_ended hr).trans
      (congrArg Prod.fst (State.settleRun_of_quarantined he hgood h))), rfl, rfl⟩
  case third =>
    intro s c b a r x hx hruns ha hr hdiff hthird hpick hroom
    refine congrArg Host.Outcome.next ((vcCheck_of_two hx hruns ha hr).trans ?_)
    rw [if_neg (by rw [hdiff]; decide), if_neg (by rw [hthird]; decide), State.startThird_of_room hpick hroom]
  case agree =>
    intro s c a r x hx hruns ha hr hagree
    exact congrArg Host.Outcome.next ((vcCheck_of_two hx hruns ha hr).trans (if_pos hagree))
  case load =>
    intro s c l rest r size a bs u t hl hd ha ht h
    exact congrArg Host.Outcome.next ((vcLoadComplete_of_scalar hl hd ha ht h).trans (if_neg Bool.false_ne_true))
  case poisoned =>
    intro s c l rest r size a bs u t hl hd ha ht h
    exact congrArg Host.Outcome.next ((vcLoadComplete_of_scalar hl hd ha ht h).trans (if_pos rfl))
  case copy =>
    intro s c h
    exact congrArg Host.Outcome.next ((bstbCopyComplete_eq s c).trans
      (State.endIfDone_of_none (by rw [State.core_setCore]; exact h)))
  case last =>
    intro s c v a hv hcopies hdone
    have hdrop : (s.core c).copies.drop 1 = [] := by rw [hcopies]; rfl
    refine congrArg Host.Outcome.next ((bstbCopyComplete_eq s c).trans ?_)
    rw [hdrop, State.endIfDone_of_done (v := v) (by rw [State.core_setCore]; exact hv) (by rw [State.core_setCore]; exact hdone),
      State.core_setCore]
  case code =>
    intro s n l hload hne h
    refine congrArg Host.Outcome.next ?_
    simp only [codeSlotWrite, hload, List.isEmpty_eq_false_iff.2 hne, h, Bool.not_true, Bool.or_self, Bool.false_eq_true, if_false]
  case badCode =>
    intro s n l err h
    refine ⟨_, congrArg Host.Outcome.next (codeSlotWrite_of_bad h), ?_, Records.of rfl rfl rfl⟩
    simp [State.refuseCode]
  case entries =>
    intro s l vs hload h
    refine congrArg Host.Outcome.next ?_
    simp only [vectorEntryWrite, hload, h, Bool.not_true, Bool.false_eq_true, if_false]
  case badEntries =>
    intro s l off h
    refine ⟨_, congrArg Host.Outcome.next (vectorEntryWrite_of_bad h), ?_, Records.of rfl rfl rfl⟩
    simp [State.refuseVec]

end Sys2Proof.Machine
end

section
/-! SUPPORT. The streamer's tables and the start, end and stall of a pass (R182 to R187, R192). -/
namespace Sys2Proof.Machine
open Sys2Proof

/-! ## The tables -/

theorem State.refuseStream_str (f : StrState → StrState) (s : State) :
    (s.refuseStream f).str = { f s.str with refusals := bump s.str.refusals } := by
  simp [State.refuseStream]

theorem State.refuseStream_records (f : StrState → StrState) (s : State) : Records (ev3 0x2600 unitStr []) s (s.refuseStream f) :=
  Records.of rfl rfl rfl

section
variable {s : State} {l : List Byte}

theorem streamProgramTableWrite_of_state (h : s.loadable = false) :
    streamProgramTableWrite l s = s.refuseStream (fun t => { t with progErr := 0xFFFFFFFF }) := by
  simp only [streamProgramTableWrite, h, Bool.not_false, if_true]

theorem streamProgramTableWrite_of_loadable (h : s.loadable = true) : streamProgramTableWrite l s =
    match (chunksOf (l.length / 64 + 1) 64 l).zipIdx.findIdx? (fun x =>
      !progRowOk s.str.segs ((chunksOf (l.length / 64 + 1) 64 l).map streamProgOf) x.2 x.1) with
    | some n => s.refuseStream (fun t => { t with progErr := BitVec.ofNat 32 (64 * n) })
    | none => { s with str := { s.str with progs := (chunksOf (l.length / 64 + 1) 64 l).map streamProgOf } } := by
  simp only [streamProgramTableWrite, h, Bool.not_true, Bool.false_eq_true, if_false] <;> rfl

theorem segmentTableWrite_of_state (h : s.loadable = false) :
    segmentTableWrite l s = s.refuseStream (fun t => { t with segErr := 0xFFFFFFFF }) := by
  simp only [segmentTableWrite, h, Bool.not_false, if_true]

theorem segmentTableWrite_of_loadable (h : s.loadable = true) : segmentTableWrite l s =
    match ((chunksOf (l.length / 32 + 1) 32 l).zipIdx.findIdx? (fun x => !segRowOk s x.2 x.1)).or
      (if s.str.progs.all (progFits ((chunksOf (l.length / 32 + 1) 32 l).map segmentOf)) then none
        else some ((chunksOf (l.length / 32 + 1) 32 l).map segmentOf).length) with
    | some n => s.refuseStream (fun t => { t with segErr := BitVec.ofNat 32 (32 * n) })
    | none => { s with str := { s.str with segs := (chunksOf (l.length / 32 + 1) 32 l).map segmentOf } } := by
  simp only [segmentTableWrite, h, Bool.not_true, Bool.false_eq_true, if_false] <;> rfl

/-- A table without a bad row has no first bad row. -/
theorem findIdx?_eq_none_of_all {α : Type} {l : List α} {f : α → Bool} (h : ∀ x ∈ l, f x = true) :
    l.findIdx? (fun x => !f x) = none :=
  List.findIdx?_eq_none_iff.2 (fun x hx => by rw [h x hx]; rfl)

end

/-! ## The start of a pass -/

/-- The state in which a start is judged: above a failed step the refusal is counted as a step refusal too (R26). -/
def State.startNoted (step : U32) (s : State) : State :=
  if s.aboveFailed step then { s with red := { s.red with stepRefusals := bump s.red.stepRefusals } } else s

section
variable {s : State} {v : U64} {step : U32} {p : U8}

theorem State.startNoted_frame (s : State) (step : U32) : (s.startNoted step).str = s.str ∧ (s.startNoted step).tele = s.tele ∧
    (s.startNoted step).time = s.time ∧ (s.startNoted step).acc = s.acc ∧ (s.startNoted step).fence = s.fence ∧
    (s.startNoted step).job = s.job := by
  unfold State.startNoted
  split <;> exact ⟨rfl, rfl, rfl, rfl, rfl, rfl⟩

theorem State.progOf_startNoted (s : State) (step : U32) (p : U8) : (s.startNoted step).progOf p = s.progOf p := by
  simp only [State.progOf, State.startNoted_frame]
theorem State.passMayStart_startNoted (s : State) (step : U32) (p : U8) :
    (s.startNoted step).passMayStart p step = s.passMayStart p step := by
  simp only [State.passMayStart, State.afterFailed, State.startNoted_frame]

theorem streamStartAction_of_granted {g : StreamProg} (hstep : step = v.setWidth 32) (hp : p = ((v >>> 32) &&& 0xF#64).setWidth 8)
    (hrun : s.aboveFailed step = false) (hg : s.progOf p = some g) (htrigger : g.trigger = 0)
    (hmay : s.passMayStart p step = true) : streamStartAction v s = s.startPass p step := by
  simp only [streamStartAction, ← hstep, ← hp, hrun, Bool.false_eq_true, if_false, hg, htrigger, hmay, beq_self_eq_true,
    Bool.and_self, if_true]

theorem streamStartAction_of_refused (hstep : step = v.setWidth 32) (hp : p = ((v >>> 32) &&& 0xF#64).setWidth 8)
    (h : ∀ g, s.progOf p = some g → g.trigger ≠ 0 ∨ s.passMayStart p step = false) :
    streamStartAction v s = (s.startNoted step).refuseStart p step := by
  unfold streamStartAction
  simp only [← hstep, ← hp]
  change (match (s.startNoted step).progOf p with
    | some g => if g.trigger == 0 && (s.startNoted step).passMayStart p step then (s.startNoted step).startPass p step
      else (s.startNoted step).refuseStart p step
    | none => (s.startNoted step).refuseStart p step) = _
  rw [State.progOf_startNoted, State.passMayStart_startNoted]
  cases hg : s.progOf p with
  | none => rfl
  | some g => exact if_neg (by simpa using fun ht => (h g hg).resolve_left (not_not.2 ht))

end

/-! ## The end and the stall of a pass -/

theorem passEnd_of_done {s : State} {prog : U8} {step : U32} {p : Pass} (hp : s.passAt prog step = some p) (hleft : s.passLeft p = 0)
    (hchain : ∀ g ∈ s.str.progs, ¬ (g.trigger = 2 ∧ g.chained = prog)) : passEnd prog step s = s.endPass p := by
  have hprogs : (s.endPass p).str.progs = s.str.progs := by simp [State.endPass, StrState.dropPass]
  have hnone : s.str.progs.filter (fun g => g.trigger == 2 && g.chained == prog) = [] :=
    List.filter_eq_nil_iff.2 (fun g hg => by simpa using hchain g hg)
  simp only [passEnd, hp]
  refine (if_neg (not_not.2 hleft)).trans ?_
  rw [hprogs, hnone]
  rfl

theorem streamStall_of_noCredit {s : State} {prog : U8} {step : U32} {port : Port} {p : Pass} {g : StreamProg}
    (hp : s.passAt prog step = some p) (hg : s.progOf prog = some g) (hseen : p.stallSeen = false)
    (hport : some port ∈ s.passPorts g) (hroom : (s.port port).weightRoom ((s.passPorts g).count (some port)) = false) :
    streamStall prog step port s =
      (s.setPassState { p with stallSeen := true }).record (ev3 0x2603 unitStr (arg1 port.val ++ arg4 step)) := by
  simp only [streamStall, hp, hg]
  exact if_pos (by simp [hseen, hport, hroom])

/-- Settles O37. A table's first bad row decides, and a start its conditions. The offset 0xFFFFFFFF outside STANDBY and OPENING
(log 69) and the start above a failed step that is counted under R26 and refused under R185 (log 82) are the model's choices. -/
theorem streamTablesAreTakenWholeOrRefusedWhole : Obligations.StreamTablesAreTakenWholeOrRefusedWhole := by
  refine ⟨?progs, ?progState, ?progRow, ?segs, ?segState, ?segRow, ?starts, ?refused, ?stepRefusal, ?ends, ?left, ?stall⟩
  case progs =>
    rintro s l _ rfl hload hok
    refine congrArg Host.Outcome.next ((streamProgramTableWrite_of_loadable hload).trans ?_)
    rw [findIdx?_eq_none_of_all hok]
  case progState =>
    intro s l h
    exact ⟨_, congrArg Host.Outcome.next (streamProgramTableWrite_of_state h), State.refuseStream_str .., State.refuseStream_records ..⟩
  case progRow =>
    rintro s l _ n rfl hload hbad
    refine ⟨_, congrArg Host.Outcome.next ((streamProgramTableWrite_of_loadable hload).trans (by rw [hbad])),
      State.refuseStream_str .., State.refuseStream_records ..⟩
  case segs =>
    rintro s l _ rfl hload hok hfits
    refine congrArg Host.Outcome.next ((segmentTableWrite_of_loadable hload).trans ?_)
    rw [findIdx?_eq_none_of_all hok, if_pos (List.all_eq_true.2 hfits), Option.or_none]
  case segState =>
    intro s l h
    exact ⟨_, congrArg Host.Outcome.next (segmentTableWrite_of_state h), State.refuseStream_str .., State.refuseStream_records ..⟩
  case segRow =>
    rintro s l _ n rfl hload hbad
    refine ⟨_, congrArg Host.Outcome.next ((segmentTableWrite_of_loadable hload).trans (by rw [hbad, Option.some_or])),
      State.refuseStream_str .., State.refuseStream_records ..⟩
  case starts =>
    intro s v step p g hstep hp hrun hg htrigger hmay
    exact congrArg Host.Outcome.next (streamStartAction_of_granted hstep hp hrun hg htrigger hmay)
  case refused =>
    intro s v step p hstep hp h
    obtain ⟨hstr, htele, htime, hacc, hfence, -⟩ := State.startNoted_frame s step
    refine ⟨_, congrArg Host.Outcome.next (streamStartAction_of_refused hstep hp h), ?_, ?_⟩
    · simp [State.refuseStart, hstr]
    · unfold State.refuseStart
      rw [hfence]
      exact Records.of htele htime hacc
  case stepRefusal =>
    intro s v hfail h
    refine ⟨_, congrArg Host.Outcome.next (streamStartAction_of_refused rfl rfl h), ?_⟩
    simp [State.refuseStart, State.startNoted, hfail]
  case ends =>
    intro s prog step p hp hleft hchain
    refine ⟨_, congrArg Host.Outcome.next (passEnd_of_done hp hleft hchain), ?_, ?_, ?_, Quiet.of ?_⟩
    all_goals simp [State.endPass, StrState.dropPass]
  case left =>
    intro s prog step p hp hleft
    refine congrArg Host.Outcome.next ?_
    simp only [passEnd, hp]
    exact if_pos hleft
  case stall =>
    intro s prog step port p g hp hg hseen hport hroom
    refine ⟨_, congrArg Host.Outcome.next (streamStall_of_noCredit hp hg hseen hport hroom), ?_, Records.of rfl rfl rfl⟩
    simp [State.setPassState]

end Sys2Proof.Machine
end

section
/-! SUPPORT. Weight blocks (R188 to R193): what reading C counts, the block that goes out, acknowledgements and requests. -/
namespace Sys2Proof.Machine
open Sys2Proof

/-! ## What reading C leaves on the streamer -/

/-- The streamer is as it was but for the counts of what it has read of C (R189). -/
def CountsReads (s t : State) : Prop := ∃ a b c, t.str = { s.str with noC := a, cBytes := b, cRead := c }

theorem CountsReads.of {s t : State} (h : t.str = s.str) : CountsReads s t := ⟨_, _, _, h⟩
theorem CountsReads.trans {s t u : State} (h : CountsReads s t) (k : CountsReads t u) : CountsReads s u := by
  obtain ⟨a, b, c, h⟩ := h
  obtain ⟨d, e, f, k⟩ := k
  exact ⟨d, e, f, by rw [k, h]⟩

theorem State.readBlock_str (unit : Nat) (t : Tier) (off : Nat) (s : State) : (s.readBlock unit t off).2.str = s.str :=
  (State.readBlock_keep (M := 0x2E3248) rfl unit t off s (Keep.refl _ s)).str rfl

theorem State.readC_counts (e : TensorEntry) (step : U32) (seen again : Bool) (b : Nat) (r : CRead) (s : State) :
    CountsReads s (s.readC e step seen again b r).2 := by
  unfold State.readC
  split
  · split
    · exact .of rfl
    · exact ⟨bump s.str.noC, s.str.cBytes, s.str.cRead, by simp⟩
  · dsimp only
    split
    · exact .of rfl
    · split
      · exact ⟨_, _, _, by rw [State.readBlock_str]⟩
      · exact .of rfl

/-- The C blocks under a WEIGHT block are read. -/
def State.readCs (e : TensorEntry) (p : Pass) (resend : Bool) (ids : List Nat) (s : State) : CRead × State :=
  ids.foldl (fun (acc : CRead × State) i => acc.2.readC e p.step (p.cSeen.contains (e.ts, i)) resend i acc.1) ({}, s)

theorem State.readCs_keep (e : TensorEntry) (p : Pass) (resend : Bool) (ids : List Nat) (s : State) :
    Keep 0x2E3348 s (s.readCs e p resend ids).2 :=
  Keep.foldl2 (g := fun (acc : CRead × State) i => acc.2.readC e p.step (p.cSeen.contains (e.ts, i)) resend i acc.1)
    (Keep.refl _ s) (fun x _ => State.readC_keep rfl _ _ _ _ _ _ _ (Keep.refl _ x.2))

theorem State.readCs_counts (e : TensorEntry) (p : Pass) (resend : Bool) (ids : List Nat) (s : State) :
    CountsReads s (s.readCs e p resend ids).2 := by
  have h : ∀ (l : List Nat) (acc : CRead × State), CountsReads acc.2
      (l.foldl (fun (acc : CRead × State) i => acc.2.readC e p.step (p.cSeen.contains (e.ts, i)) resend i acc.1) acc).2 := by
    intro l
    induction l with
    | nil => exact fun acc => .of rfl
    | cons i l ih => exact fun acc => (State.readC_counts ..).trans (ih _)
  exact h ids ({}, s)

/-! ## The WEIGHT block -/

/-- The state after a block is read and converted: the C blocks read, the conversions counted. -/
theorem State.weightBlock_state (e : TensorEntry) (g : Segment) (p : Pass) (b : Nat) (resend : Bool) (s : State) :
    ∃ ids c, (s.weightBlock e g p b resend).2.2 = { (s.readCs e p resend ids).2 with chk := c } := by
  unfold State.weightBlock
  dsimp only
  split
  · exact ⟨_, _, rfl⟩
  · exact ⟨_, _, rfl⟩

theorem State.weightBlock_pass (e : TensorEntry) (g : Segment) (p : Pass) (b : Nat) (resend : Bool) (s : State) :
    (s.weightBlock e g p b resend).2.1 = { p with cSeen := (s.weightBlock e g p b resend).2.1.cSeen } := rfl

theorem State.weightBlock_blk (e : TensorEntry) (g : Segment) (p : Pass) (b : Nat) (resend : Bool) (s : State) :
    (s.weightBlock e g p b resend).1.hdr.blk = BitVec.ofNat 32 b := by
  unfold State.weightBlock
  dsimp only
  split
  · rfl
  · split <;> rfl

/-- A block that is converted leaves the streamer as it was but for its read counts, and the links, the routing and the job. -/
theorem State.weightBlock_frame (e : TensorEntry) (g : Segment) (p : Pass) (b : Nat) (resend : Bool) (s : State) :
    CountsReads s (s.weightBlock e g p b resend).2.2 ∧ (s.weightBlock e g p b resend).2.2.links = s.links ∧
    (s.weightBlock e g p b resend).2.2.route = s.route := by
  obtain ⟨ids, c, h⟩ := State.weightBlock_state e g p b resend s
  have k := State.readCs_keep e p resend ids s
  rw [h]
  exact ⟨State.readCs_counts e p resend ids s, k.links rfl, k.route rfl⟩

/-! ## Credit -/

theorem State.passRoom_congr {s t : State} (hl : t.links = s.links) (hr : t.route = s.route) (g : StreamProg) :
    t.passRoom g = s.passRoom g := by
  have hport (p : Port) : t.port p = s.port p := congrArg (fun l : LinkState => l.ports[p]) hl
  have hprep (p : Port) : t.circuitPrep p = s.circuitPrep p := by simp only [State.circuitPrep, hr]
  have huse (f : BitVec 5) : t.fieldUse f = s.fieldUse f := by simp only [State.fieldUse, State.portUse, hprep, hport]
  have hchoose (cn : U32) : t.choose cn = s.choose cn := by simp only [State.choose, State.routeOf, huse, hr]
  have hexit (cn : U32) : t.exitPort cn = s.exitPort cn := by simp only [State.exitPort, State.substitute, hchoose, hr]
  simp only [State.passRoom, State.passPorts, hexit, hport]

/-! ## Sending -/

theorem bumpBy_bump (n : U64) (k : Nat) : bumpBy (bump n) k = bumpBy n (k + 1) := by
  simp only [bumpBy, bump]
  bv_omega

theorem bumpBy_add (n : U64) (j k : Nat) : bumpBy (bumpBy n j) k = bumpBy n (j + k) := by
  simp only [bumpBy]
  bv_omega

/-- A send to a link or a device counts one block and leaves the rest of the streamer. -/
theorem State.sendToLink_str (g : Segment) (b : Block) (p : Port) (s : State) :
    (s.sendToLink g b p).str = { s.str with sent := bump s.str.sent } := by
  simp only [State.sendToLink, countSent]
  rw [(State.sendOn_keep (M := 0x40C00) rfl _ _ s (Keep.refl _ s)).str rfl]
theorem State.sendToDevice_str (b : Block) (d : U32) (s : State) :
    (s.sendToDevice b d).str = { s.str with sent := bump s.str.sent } := by
  simp [State.sendToDevice, countSent]

/-- A fold of sends counts one block for each. -/
theorem sends_str {α : Type} {f : State → α → State} (h : ∀ s a, (f s a).str = { s.str with sent := bump s.str.sent }) (l : List α)
    (s : State) : (l.foldl f s).str = { s.str with sent := bumpBy s.str.sent l.length } := by
  induction l generalizing s with
  | nil => simp [bumpBy_zero]
  | cons a l ih => simp only [List.foldl_cons, ih, h, bumpBy_bump, List.length_cons]

/-- The place of a local segment that is next in a program lies within it. -/
theorem nextLocal_get {segs : List Segment} {seg blk i sent : Nat} {g : Segment} (h : nextLocal segs seg blk = some (i, g, sent)) :
    segs[i]? = some g := by
  simp only [nextLocal, Option.map_eq_some_iff] at h
  obtain ⟨x, hx, he⟩ := h
  obtain ⟨rfl, rfl, -⟩ : x.2 = i ∧ x.1 = g ∧ _ = sent := by simpa using he
  exact List.mem_zipIdx_iff_getElem?.1 (List.mem_of_mem_drop (List.mem_of_find?_eq_some hx))

theorem segsOf_length_lt (s : State) (g : StreamProg) : (s.segsOf g).length < 65536 :=
  lt_of_le_of_lt (List.length_take_le _ _) g.segCount.isLt

section
variable {s : State} {prog : U8} {step : U32} {p : Pass} {g : StreamProg} {i : Nat} {sg : Segment} {sent : Nat} {e : TensorEntry}

theorem State.convertNext_of_next (hroom : s.str.aheadBytes + 4160 ≤ aheadMost)
    (hnext : nextLocal (s.segsOf g) p.nextSeg.toNat p.nextBlk.toNat = some (i, sg, sent)) (hown : s.ownerOf sg.ts = some e) :
    s.convertNext p g =
      let w := s.weightBlock e sg p (sg.first.toNat + sent) false
      ({ w.2.1.advance i sg sent with ahead := w.2.1.ahead ++ [⟨BitVec.ofNat 16 i, w.1⟩] }, w.2.2) := by
  simp only [State.convertNext, hnext, hown]
  exact if_neg (Nat.not_lt.2 hroom)

theorem Pass.advance_cSeen (p : Pass) (c : List (U32 × Nat)) :
    Pass.advance i sg sent { p with cSeen := c } = { p.advance i sg sent with cSeen := c } := by
  unfold Pass.advance
  split <;> rfl

end

theorem Pass.advance_frame (i : Nat) (sg : Segment) (sent : Nat) (p : Pass) : (p.advance i sg sent).prog = p.prog ∧
    (p.advance i sg sent).step = p.step ∧ (p.advance i sg sent).unacked = p.unacked ∧ (p.advance i sg sent).ahead = p.ahead := by
  unfold Pass.advance
  split <;> exact ⟨rfl, rfl, rfl, rfl⟩

/-- A block that is converted ahead leaves the links, the routing and the count of sent blocks. -/
theorem State.convertNext_frame (p : Pass) (g : StreamProg) (s : State) : (s.convertNext p g).2.links = s.links ∧
    (s.convertNext p g).2.route = s.route ∧ (s.convertNext p g).2.str.sent = s.str.sent := by
  unfold State.convertNext
  split
  · exact ⟨rfl, rfl, rfl⟩
  · split
    · exact ⟨rfl, rfl, rfl⟩
    · split
      · exact ⟨rfl, rfl, rfl⟩
      · obtain ⟨⟨a, b, c, hstr⟩, hlinks, hroute⟩ := State.weightBlock_frame _ _ p _ false s
        have hsent := congrArg StrState.sent hstr
        exact ⟨hlinks, hroute, hsent⟩

/-- The oldest block held ahead is sent to every link and destination and is then waited for. -/
theorem State.sendNext_str {s : State} {p : Pass} {g : StreamProg} {x : AheadBlk} {rest : List AheadBlk} {sg : Segment}
    (ha : p.ahead = x :: rest) (hs : (s.segsOf g)[x.seg.toNat]? = some sg) :
    (s.sendNext p g).str.sent = bumpBy s.str.sent (g.links.length + g.dests.length) ∧
    (s.sendNext p g).str.passes = s.str.passes.map (fun q => if q.prog == p.prog && q.step == p.step then
      { p with ahead := rest, unacked := p.unacked ++ g.dests.map (fun d => ⟨x.seg, x.blk.hdr.blk, cnOf d⟩) } else q) := by
  have hstr : (g.dests.foldl (fun s d => s.sendToDevice x.blk d) (g.links.foldl (fun (s : State) l => s.sendToLink sg x.blk l) s)).str =
      { s.str with sent := bumpBy s.str.sent (g.links.length + g.dests.length) } := by
    rw [sends_str (fun s d => State.sendToDevice_str x.blk d s), sends_str (fun s l => State.sendToLink_str sg x.blk l s)]
    simp only [bumpBy_add]
  simp only [State.sendNext, ha, hs, State.setPassState, hstr, and_self]

/-! ## Acknowledgements and requests -/

theorem State.str_takePk (pk : Packet) (s : State) : (s.takePk pk).str = s.str := by simp

theorem State.acksUnit_takePk (q : Packet) (s : State) (g : StreamProg) (pk : Trans) (u : Unacked) :
    (s.takePk q).acksUnit g pk u = s.acksUnit g pk u := by
  simp only [State.acksUnit, State.segsOf, State.str_takePk]
theorem State.progOf_takePk (q : Packet) (s : State) (p : U8) : (s.takePk q).progOf p = s.progOf p := by
  simp only [State.progOf, State.str_takePk]
theorem State.passOfReq_takePk (q : Packet) (s : State) (pk : Trans) (b : Nat) : (s.takePk q).passOfReq pk b = s.passOfReq pk b := by
  simp only [State.passOfReq, State.progOf, State.segsOf, State.str_takePk]

theorem namedBlocks_of_one {pk : Trans} (h : pk.aNat 8 2 ≤ 1) : namedBlocks pk = [pk.aNat 4 4] := by
  simp [namedBlocks, Nat.max_eq_left h]

/-- A request of reason 5 for one block of an open pass arms its retry. -/
theorem weightResendReqReceive_of_retry {s : State} {pk : Trans} {p : Pass} {g : StreamProg} {i : Nat} {sg : Segment}
    (hreq : s.passOfReq pk (pk.aNat 4 4) = some (p, g, i, sg)) (hone : pk.aNat 8 2 ≤ 1) (hreason : pk.a8 11 = 5)
    (hnew : (p.prog, p.step, ⟨BitVec.ofNat 16 i, BitVec.ofNat 32 (pk.aNat 4 4), cnOf pk.src⟩) ∉ s.str.retries) :
    weightResendReqReceive pk s = { s.takePk (.trans pk) with str := { s.str with
      retries := s.str.retries ++ [(p.prog, p.step, ⟨BitVec.ofNat 16 i, BitVec.ofNat 32 (pk.aNat 4 4), cnOf pk.src⟩)] } } := by
  unfold weightResendReqReceive
  simp only [namedBlocks_of_one hone, List.all_cons, List.all_nil, State.passOfReq_takePk, hreq, List.foldl_cons, List.foldl_nil]
  refine (if_neg (by simp [hreason])).trans ((if_neg (by simp)).trans ?_)
  simp only [State.resendOne, State.passOfReq_takePk, hreq, State.str_takePk, hreason, beq_self_eq_true, if_true]
  exact if_neg (by simpa using hnew)

theorem weightResendReqReceive_of_none {s : State} {pk : Trans} (hreason : pk.a8 11 = 1 ∨ pk.a8 11 = 5)
    (hnone : ∀ b ∈ namedBlocks pk, s.passOfReq pk b = none) :
    weightResendReqReceive pk s = countResend (s.takePk (.trans pk)) := by
  unfold weightResendReqReceive
  refine (if_neg ?_).trans (if_pos ?_)
  · rcases hreason with h | h <;> simp [h]
  · exact List.all_eq_true.2 (fun b hb => by rw [State.passOfReq_takePk, hnone b hb]; rfl)

/-- Settles O38. Reading C changes only counts of the streamer, so that the pass that goes on is the one that was there, moved past the
block, and its sends count one for each link and destination. -/
theorem weightBlocksGoToEveryDestination : Obligations.WeightBlocksGoToEveryDestination := by
  refine ⟨?sends, ?noCredit, ?missing, ?timeout, ?covered, ?acked, ?retryArmed, ?closed, ?retry⟩
  case sends =>
    intro s prog step p g i sg sent e hp hg hahead hbytes hnext hown hroom
    obtain ⟨⟨a, b, c, hstr⟩, hlinks, hroute⟩ := State.weightBlock_frame e sg p (sg.first.toNat + sent) false s
    have hgo : weightBlockSend prog step s = State.sendNext
        { (s.weightBlock e sg p (sg.first.toNat + sent) false).2.1.advance i sg sent with
          ahead := (s.weightBlock e sg p (sg.first.toNat + sent) false).2.1.ahead ++
            [⟨BitVec.ofNat 16 i, (s.weightBlock e sg p (sg.first.toNat + sent) false).1⟩] } g
        (s.weightBlock e sg p (sg.first.toNat + sent) false).2.2 := by
      simp only [weightBlockSend, hp, hg, State.convertNext_of_next hbytes hnext hown]
      exact if_pos ((State.passRoom_congr hlinks hroute g).trans hroom)
    have hlt : i < 65536 := by
      obtain ⟨h, -⟩ := List.getElem?_eq_some_iff.1 (nextLocal_get hnext)
      exact h.trans (segsOf_length_lt s g)
    have hseg : ((s.weightBlock e sg p (sg.first.toNat + sent) false).2.2.segsOf g)[(BitVec.ofNat 16 i).toNat]? = some sg := by
      have hsegs : (s.weightBlock e sg p (sg.first.toNat + sent) false).2.2.segsOf g = s.segsOf g := by simp only [State.segsOf, hstr]
      rw [hsegs, BitVec.toNat_ofNat, Nat.mod_eq_of_lt hlt]
      exact nextLocal_get hnext
    obtain ⟨hsent, hpasses⟩ := State.sendNext_str (p := { (s.weightBlock e sg p (sg.first.toNat + sent) false).2.1.advance i sg sent with
        ahead := (s.weightBlock e sg p (sg.first.toNat + sent) false).2.1.ahead ++
          [⟨BitVec.ofNat 16 i, (s.weightBlock e sg p (sg.first.toNat + sent) false).1⟩] })
      (x := ⟨BitVec.ofNat 16 i, (s.weightBlock e sg p (sg.first.toNat + sent) false).1⟩) (rest := [])
      (by rw [State.weightBlock_pass]; simp [hahead]) hseg
    refine ⟨_, congrArg Host.Outcome.next hgo, ?_, ?_⟩
    · rw [hsent, hstr]
    · rw [hpasses, hstr, State.weightBlock_blk, State.weightBlock_pass, Pass.advance_cSeen]
      obtain ⟨hprog, hstep, hun, hnone⟩ := Pass.advance_frame i sg sent p
      simp only [hprog, hstep, hun, hnone, hahead]
  case noCredit =>
    intro s prog step p g hp hg hroom
    obtain ⟨hlinks, hroute, hsent⟩ := State.convertNext_frame p g s
    have hgo : weightBlockSend prog step s = (s.convertNext p g).2.setPassState (s.convertNext p g).1 := by
      simp only [weightBlockSend, hp, hg]
      exact if_neg (by rw [State.passRoom_congr hlinks hroute, hroom]; exact Bool.false_ne_true)
    exact ⟨_, congrArg Host.Outcome.next hgo, hlinks, hroute, hsent⟩
  case missing =>
    intro s e step seen again b r h
    refine ⟨?_, ?_⟩
    · simp only [State.readC, h]
    · simp only [State.readC, h]
      split
      · rfl
      · simp
  case timeout =>
    intro s prog step seg blk dest p hp hu
    refine congrArg Host.Outcome.next ?_
    simp only [weightAckTimeout, hp]
    exact if_pos (by simpa using hu)
  case covered =>
    intro s prog step seg blk dest p hp hu
    refine congrArg Host.Outcome.next ?_
    simp only [weightAckTimeout, hp]
    exact if_neg (by simpa using hu)
  case acked =>
    intro s port pk
    refine ⟨_, rfl, ?_, Quiet.of (by simp [weightBlockAckReceive])⟩
    simp only [weightBlockAckReceive, State.str_takePk, State.progOf_takePk, State.acksUnit_takePk] <;> rfl
  case retryArmed =>
    intro s port pk p g i sg hreq hone hreason hnew
    exact ⟨_, congrArg Host.Outcome.next (weightResendReqReceive_of_retry hreq hone hreason hnew), rfl, Quiet.of (by simp)⟩
  case closed =>
    intro s port pk hreason hnone
    refine ⟨_, congrArg Host.Outcome.next (weightResendReqReceive_of_none hreason hnone), ?_, Quiet.of ?_⟩
    all_goals simp [countResend]
  case retry =>
    intro s prog step seg blk dest p hp hu
    refine congrArg Host.Outcome.next ((if_pos (by simpa using hu)).trans ?_)
    have hpass : State.passAt { s with str := { s.str with retries := s.str.retries.filter (fun r =>
        !(r == (prog, step, ⟨seg, blk, dest⟩))) } } prog step = some p := hp
    simp only [hpass]

end Sys2Proof.Machine
end

section
/-! SUPPORT. Relays (R194), remote accesses (R205, R197), the region table (R206 to R208) and the patrol scrub (R218). -/
namespace Sys2Proof.Machine
open Sys2Proof

/-! ## Relays -/

theorem State.relaySeg_takePk (q : Packet) (s : State) (p : Pass) (h : Header) : (s.takePk q).relaySeg p h = s.relaySeg p h := by
  simp only [State.relaySeg, State.progOf, State.segsOf, State.str_takePk]
theorem State.relayFull_takePk (q : Packet) (s : State) : (s.takePk q).relayFull = s.relayFull := by
  unfold State.takePk
  split <;> rfl

theorem State.ackWeight_str (h : Header) (s : State) : (s.ackWeight h).str = s.str := by
  simp [State.ackWeight]
theorem State.refuseRelay_str (h : Header) (s : State) :
    (s.refuseRelay h).str = { s.str with relayRefusals := bump s.str.relayRefusals } := by
  simp [State.refuseRelay]

/-- The passes that hold a relay segment of a block. -/
def State.relaysOf (s : State) (h : Header) : List (Pass × StreamProg × Nat × Segment) :=
  s.str.passes.filterMap (fun p => (s.relaySeg p h).map (fun x => (p, x)))

theorem weightRelay_eq (b : Block) (s : State) : weightRelay b s =
    match (s.relaysOf b.hdr).find? (fun x => !(x.1.relayed.contains (BitVec.ofNat 16 x.2.2.1, b.hdr.blk))), s.relaysOf b.hdr with
    | some (p, g, i, sg), _ =>
      if s.relayFull then (s.takePk (.block b)).refuseRelay b.hdr else (s.takePk (.block b)).relay p g i sg b
    | none, _ :: _ => (countDiscard (s.takePk (.block b))).ackWeight b.hdr
    | none, [] => if b.hdr.step == s.fence.cur || b.hdr.step == s.fence.cur + 1 then (s.takePk (.block b)).refuseRelay b.hdr
      else countDiscard (s.takePk (.block b)) := by
  simp only [weightRelay, State.relaysOf, State.relaySeg_takePk, State.relayFull_takePk, State.takePk_frame] <;> rfl

theorem State.relaysOf_of_none {s : State} {h : Header} (hno : ∀ p ∈ s.str.passes, s.relaySeg p h = none) : s.relaysOf h = [] := by
  refine List.filterMap_eq_nil_iff.2 (fun p hp => ?_)
  rw [hno p hp]
  rfl
theorem State.relaysOf_of_one {s : State} {h : Header} {p : Pass} {x : StreamProg × Nat × Segment} (hp : s.str.passes = [p])
    (hx : s.relaySeg p h = some x) : s.relaysOf h = [(p, x)] := by
  simp [State.relaysOf, hp, hx]

section
variable {s : State} {b : Block}

theorem weightRelay_of_none (hno : ∀ p ∈ s.str.passes, s.relaySeg p b.hdr = none) : weightRelay b s =
    if b.hdr.step == s.fence.cur || b.hdr.step == s.fence.cur + 1 then (s.takePk (.block b)).refuseRelay b.hdr
      else countDiscard (s.takePk (.block b)) := by
  rw [weightRelay_eq, State.relaysOf_of_none hno]
  rfl

variable {p : Pass} {g : StreamProg} {i : Nat} {sg : Segment} (hp : s.str.passes = [p]) (hx : s.relaySeg p b.hdr = some (g, i, sg))
include hp hx

theorem weightRelay_of_first (hnew : (BitVec.ofNat 16 i, b.hdr.blk) ∉ p.relayed) : weightRelay b s =
    if s.relayFull then (s.takePk (.block b)).refuseRelay b.hdr else (s.takePk (.block b)).relay p g i sg b := by
  have hfind : ([(p, g, i, sg)] : List (Pass × StreamProg × Nat × Segment)).find? (fun x =>
      !(x.1.relayed.contains (BitVec.ofNat 16 x.2.2.1, b.hdr.blk))) = some (p, g, i, sg) := by simp [hnew]
  rw [weightRelay_eq, State.relaysOf_of_one hp hx, hfind]

theorem weightRelay_of_later (hold : (BitVec.ofNat 16 i, b.hdr.blk) ∈ p.relayed) :
    weightRelay b s = (countDiscard (s.takePk (.block b))).ackWeight b.hdr := by
  have hfind : ([(p, g, i, sg)] : List (Pass × StreamProg × Nat × Segment)).find? (fun x =>
      !(x.1.relayed.contains (BitVec.ofNat 16 x.2.2.1, b.hdr.blk))) = none := by simp [hold]
  rw [weightRelay_eq, State.relaysOf_of_one hp hx, hfind]

end

/-- A relayed block goes to every link of its program and is remembered by its pass. -/
theorem State.relay_str (p : Pass) (g : StreamProg) (i : Nat) (sg : Segment) (b : Block) (s : State) :
    (s.relay p g i sg b).str = { s.str with
      sent := bumpBy s.str.sent g.links.length, relayed := bump s.str.relayed
      passes := s.str.passes.map (fun q => if q.prog == p.prog && q.step == p.step then
        { p with relayed := p.relayed ++ [(BitVec.ofNat 16 i, b.hdr.blk)] } else q) } := by
  simp only [State.relay, State.ackWeight_str, State.setPassState, sends_str (fun s l => State.sendToLink_str sg b l s)]

/-! ## Remote accesses -/

theorem State.agents_takePk (q : Packet) (s : State) : (s.takePk q).agents = s.agents := by
  unfold State.takePk
  split <;> rfl
theorem State.accessRow_takePk (q : Packet) (s : State) (pk : Trans) (w : Bool) (n : Nat) :
    (s.takePk q).accessRow pk w n = s.accessRow pk w n := by
  unfold State.takePk
  split <;> rfl

theorem State.readResp_mem (pk : Trans) (status : U8) (body : List Byte) (s : State) :
    (s.readResp pk status body).mem = s.mem ∧ (s.readResp pk status body).str = s.str := by
  simp [State.readResp]

/-- A write that is no agent's meets the rows of R205. -/
theorem remoteWrite_of_member {s : State} {pk : Trans} (h : ∀ a ∈ s.agents, a.2 ≠ cnOf pk.src) : remoteWrite pk s =
    match s.accessRow pk true (64 * pk.cells) with
    | .region => ((s.takePk (.trans pk)).countRefused true pk).readResp pk 1 []
    | .job => ((s.takePk (.trans pk)).countRefused false pk).readResp pk 1 []
    | .grant t => ((s.takePk (.trans pk)).writeMem t (offOf pk.b) pk.paddedBody).readResp pk 0 [] := by
  unfold remoteWrite
  simp only [State.agents_takePk, State.accessRow_takePk]
  exact if_neg (by simpa using fun a hab => h (a, cnOf pk.src) hab rfl)

theorem remoteWrite_of_agent {s : State} {pk : Trans} {a : Port × U32} (h : a ∈ s.agents) (ha : a.2 = cnOf pk.src) :
    remoteWrite pk s = ((s.takePk (.trans pk)).agentWrite pk).readResp pk 1 [] := by
  unfold remoteWrite
  simp only [State.agents_takePk]
  exact if_pos (List.any_eq_true.2 ⟨a, h, by simp [ha]⟩)

/-- An agent's write is counted and its step noted. -/
theorem State.agentWrite_frame (pk : Trans) (s : State) : (s.agentWrite pk).mem = s.mem ∧
    (s.agentWrite pk).str.agentWrites = bump s.str.agentWrites ∧ (s.agentWrite pk).str.agentWriteStep = some s.fence.cur := by
  unfold State.agentWrite
  dsimp only
  split
  case isTrue h => exact ⟨rfl, rfl, h⟩
  case isFalse => simp

/-- A refused access is counted and its source remembered; no byte changes. -/
theorem State.countRefused_frame (pk : Trans) (s : State) : (s.countRefused true pk).mem.accessRefused = bump s.mem.accessRefused ∧
    (s.countRefused true pk).mem.h = s.mem.h ∧ (s.countRefused true pk).mem.l = s.mem.l ∧
    (cnOf pk.src, s.job.epoch) ∈ (s.countRefused true pk).mem.refusedSrc := by
  unfold State.countRefused
  dsimp only
  split
  case isTrue h => exact ⟨rfl, rfl, rfl, by simpa using h⟩
  case isFalse => simp

theorem remoteRead_of_refused {s : State} {pk : Trans}
    (h : s.accessRow pk false (64 * (pk.a8 4).toNat) = .region ∨ (pk.a8 4).toNat = 0 ∨ 64 < (pk.a8 4).toNat) :
    remoteRead pk s = ((s.takePk (.trans pk)).countRefused true pk).readResp pk 1 [] := by
  have hrow : (if 1 ≤ 64 * (pk.a8 4).toNat ∧ 64 * (pk.a8 4).toNat ≤ 4096 then s.accessRow pk false (64 * (pk.a8 4).toNat)
      else .region) = .region := by
    rcases h with h | h | h
    · rw [h, ite_self]
    · exact if_neg (by omega)
    · exact if_neg (by omega)
  simp only [remoteRead, State.accessRow_takePk, hrow]

theorem remoteRead_of_grant {s u : State} {pk : Trans} {t : Tier} {l : List Byte} {bad : Bool} (hlo : 1 ≤ (pk.a8 4).toNat)
    (hhi : (pk.a8 4).toNat ≤ 64) (hrow : s.accessRow pk false (64 * (pk.a8 4).toNat) = .grant t)
    (hread : State.readMem t (offOf pk.b) (64 * (pk.a8 4).toNat) (s.takePk (.trans pk)) = (l, bad, u)) :
    remoteRead pk s = u.readResp pk (if bad then 2 else 0) l := by
  have hok : 1 ≤ 64 * (pk.a8 4).toNat ∧ 64 * (pk.a8 4).toNat ≤ 4096 := by omega
  simp only [remoteRead, State.accessRow_takePk, if_pos hok, hrow, hread]

/-! ## The patrol scrub -/

/-- Struck codewords of no wrong symbol leave the memory as it is. -/
theorem MemState.addErrors_of_zero {t : Tier} {errs : List (U64 × U8)} {m : MemState} (h : ∀ e ∈ errs, e.2 = 0) :
    m.addErrors t errs = m := by
  have hgood : errs.filter (fun e => tierOf e.1.toNat == some t && e.1.toNat % 64 == 0 && e.2 != 0) = [] :=
    List.filter_eq_nil_iff.2 (fun e he => by simp [h e he])
  simp only [MemState.addErrors, hgood, List.any_nil, Bool.and_false, Bool.not_false, List.filter_true, List.map_nil,
    List.eraseDups_nil, List.append_nil]

/-- The memory as a scrub of the page at its position reads it: a new pass restarts the corrected counts. -/
def MemState.scrubbing (t : Tier) (m : MemState) : MemState :=
  if (m.scrubPos t).toNat = 0 then { m with corrected := m.corrected.filter (fun e => e.1 != t) } else m

theorem State.suspects_scrubbing (s : State) (t u : Tier) (off n : Nat) :
    State.suspects { s with mem := s.mem.scrubbing t } u off n = s.suspects u off n := by
  unfold MemState.scrubbing
  split <;> rfl

theorem MemState.scrubbing_frame (t : Tier) (m : MemState) : (m.scrubbing t).h = m.h ∧ (m.scrubbing t).l = m.l := by
  unfold MemState.scrubbing
  split <;> exact ⟨rfl, rfl⟩

theorem MemState.setScrubPos_frame (m : MemState) (t : Tier) (p : U64) : (m.setScrubPos t p).scrubPos t = p ∧
    (m.setScrubPos t p).h = m.h ∧ (m.setScrubPos t p).l = m.l := by
  cases t <;> exact ⟨rfl, rfl, rfl⟩

/-- A page without a suspect sector is read and left. -/
theorem patrolScrub_of_clean {s : State} {t : Tier} {errs : List (U64 × U8)} (herr : ∀ e ∈ errs, e.2 = 0)
    (hclean : s.suspects t (pageOff t (s.mem.scrubPos t).toNat) 4096 = []) : patrolScrub t errs s =
      State.countBytes (tierRead t) 4096 { s with
        mem := (s.mem.scrubbing t).setScrubPos t (BitVec.ofNat 64 (((s.mem.scrubPos t).toNat + 1) % tierPages t)) } := by
  have hread : State.readRange t (pageOff t (s.mem.scrubPos t).toNat) 4096 { s with mem := s.mem.scrubbing t } =
      { s with mem := s.mem.scrubbing t } := by
    simp only [State.readRange, State.suspects_scrubbing, hclean, List.foldl_nil]
  unfold patrolScrub
  rw [MemState.addErrors_of_zero herr]
  dsimp only
  rw [← MemState.scrubbing, hread]

/-- Settles O39. A relayed block is found once among the passes; a remote access meets R205's rows; a table is taken whole; a clean page
only moves the scrub. The read of no cell or of more than 64 (log 82) and the region table outside its states (log 69) are the
model's choices. The region of kind 3 that a table must have is R207's PARK region. -/
theorem relaysAndRemoteAccessesAreGuarded : Obligations.RelaysAndRemoteAccessesAreGuarded := by
  refine ⟨?refused, ?discarded, ?first, ?full, ?later, ?write, ?job, ?agent, ?badRead, ?read, ?table, ?badTable, ?tableState, ?scrub⟩
  case refused =>
    intro s port b hno hstep
    refine ⟨_, congrArg Host.Outcome.next ((weightRelay_of_none hno).trans (if_pos (by simpa using hstep))),
      (State.refuseRelay_str ..).trans ?_⟩
    rw [State.str_takePk]
  case discarded =>
    intro s port b hno hcur hnext
    refine ⟨_, congrArg Host.Outcome.next ((weightRelay_of_none hno).trans (if_neg (by simpa using ⟨hcur, hnext⟩))), ?_, Quiet.of ?_⟩
    all_goals simp [countDiscard]
  case first =>
    intro s port b p g i sg hp hx hnew hroom
    refine ⟨_, congrArg Host.Outcome.next ((weightRelay_of_first hp hx hnew).trans (if_neg (by rw [hroom]; decide))), ?_, ?_, ?_⟩
    all_goals simp [State.relay_str, hp]
  case full =>
    intro s port b p g i sg hp hx hnew hfull
    refine ⟨_, congrArg Host.Outcome.next ((weightRelay_of_first hp hx hnew).trans (if_pos hfull)),
      (State.refuseRelay_str ..).trans ?_⟩
    rw [State.str_takePk]
  case later =>
    intro s port b p g i sg hp hx hold
    refine ⟨_, congrArg Host.Outcome.next (weightRelay_of_later hp hx hold), (State.ackWeight_str ..).trans ?_⟩
    simp [countDiscard]
  case write => exact fun s port pk t h hrow => congrArg Host.Outcome.next (by rw [remoteWrite_of_member h, hrow])
  case job =>
    intro s port pk h hrow
    refine ⟨_, congrArg Host.Outcome.next ((remoteWrite_of_member h).trans (by rw [hrow])),
      (State.readResp_mem ..).1.trans ?_⟩
    simp [State.countRefused]
  case agent =>
    intro s port pk a ha hsrc
    obtain ⟨hmem, hcount, hstep⟩ := State.agentWrite_frame pk (s.takePk (.trans pk))
    refine ⟨_, congrArg Host.Outcome.next (remoteWrite_of_agent ha hsrc), ?_⟩
    dsimp only
    rw [(State.readResp_mem ..).1, (State.readResp_mem ..).2, hmem, hcount, hstep]
    simp
  case badRead =>
    intro s port pk h
    refine ⟨_, congrArg Host.Outcome.next (remoteRead_of_refused h), ?_⟩
    dsimp only
    rw [(State.readResp_mem ..).1]
    simpa using State.countRefused_frame pk (s.takePk (.trans pk))
  case read => exact fun s port pk t l bad u hlo hhi hrow hread => congrArg Host.Outcome.next (remoteRead_of_grant hlo hhi hrow hread)
  case table =>
    intro s l rs hload h hpark
    have hany : rs.any (·.kind == 3) = true := List.any_eq_true.2 (hpark.imp (fun r hr => ⟨hr.1, by simp [hr.2]⟩))
    refine congrArg Host.Outcome.next ?_
    simp only [regionTableWrite, hload, h, hany, Bool.not_true, Bool.false_eq_true, if_false, if_true]
  case badTable =>
    intro s l off hload h
    have hbad : regionTableWrite l s = s.refuseRegions off := by
      simp only [regionTableWrite, hload, h, Bool.not_true, Bool.false_eq_true, if_false]
    refine ⟨_, congrArg Host.Outcome.next hbad, ?_, Records.of rfl rfl rfl⟩
    simp [State.refuseRegions]
  case tableState => exact fun s l h => congrArg Host.Outcome.next (if_pos (by simp [h]))
  case scrub =>
    intro s t errs herr hclean
    obtain ⟨hpos, hh, hl⟩ := MemState.setScrubPos_frame (s.mem.scrubbing t) t
      (BitVec.ofNat 64 (((s.mem.scrubPos t).toNat + 1) % tierPages t))
    obtain ⟨kh, kl⟩ := MemState.scrubbing_frame t s.mem
    refine ⟨_, congrArg Host.Outcome.next (patrolScrub_of_clean herr hclean), ?_, ?_, ?_, ?_⟩
    · simpa using hpos
    · simpa using hh.trans kh
    · simpa using hl.trans kl
    · simp [State.countBytes, TeleState.countBytes]

end Sys2Proof.Machine
end

section
/-! SUPPORT. Frames (R230 to R237): what a port sends, and the frame that it takes, outside exerciser mode. -/
namespace Sys2Proof.Machine
open Sys2Proof

/-- A write of a port is known by its value there. -/
theorem State.setPort_congr {p : Port} {f g : PortSt → PortSt} {s : State} (h : f (s.port p) = g (s.port p)) :
    s.setPort p f = s.setPort p g := by
  unfold State.setPort
  rw [show f s.links.ports[p] = g s.links.ports[p] from h]

theorem State.setPort_setPort (p : Port) (f g : PortSt → PortSt) (s : State) :
    (s.setPort p f).setPort p g = s.setPort p (fun q => g (f q)) := by
  simp [State.setPort]

theorem State.dev_setPort (p : Port) (f : PortSt → PortSt) (s : State) : (s.setPort p f).job.dev = s.job.dev := rfl

/-! ## Frames sent -/

theorem PortSt.sendNull_frame (q : PortSt) : q.sendNull.sentFrames = q.sentFrames ∧ q.sendNull.nextSeq = q.nextSeq ∧
    q.sendNull.nakPending = q.nakPending ∧ ∃ l : Lcw, q.sendNull.wire = Sys2Proof.frameBytes [] l ∧ l.kind = 1 ∧ l.seq = q.nextData :=
  ⟨rfl, rfl, rfl, _, rfl, rfl, rfl⟩

theorem PortSt.sendNak_frame (q : PortSt) : q.sendNak.nakPending = false ∧ q.sendNak.naksSent = bump q.naksSent ∧
    q.sendNak.sentFrames = q.sentFrames ∧ q.sendNak.nextSeq = q.nextSeq ∧
    ∃ l : Lcw, q.sendNak.wire = Sys2Proof.frameBytes [] l ∧ l.kind = 2 ∧ l.ack = q.ackSend ∧ l.count = 0 :=
  ⟨rfl, rfl, rfl, rfl, _, rfl, rfl, rfl, rfl⟩

theorem PortSt.sendReplay_frame (f : SentFrame) (q : PortSt) : (q.sendReplay f).replayed = bump q.replayed ∧
    (q.sendReplay f).sentFrames = q.sentFrames ∧
    ∃ l : Lcw, (q.sendReplay f).wire = Sys2Proof.frameBytes f.cells l ∧ l.kind = 0 ∧ l.seq = f.seq ∧ l.ack = q.ackSend :=
  ⟨rfl, rfl, _, rfl, rfl, rfl, rfl⟩

section
variable {s : State} {p : Port}

theorem frameSend_of_training (hst : (s.port p).st = .training) (hstep : (s.port p).trainStep = 2) :
    frameSend p s = s.setPort p PortSt.sendNull := by
  have hwire : (s.port p).onWire = true := by simp [PortSt.onWire, hst, hstep]
  exact (if_neg (by simp [hwire])).trans (if_pos ⟨hst, hstep⟩)

variable (hwire : (s.port p).onWire = true) (hstep : ¬ ((s.port p).st = .training ∧ (s.port p).trainStep = 2))
include hwire hstep

theorem frameSend_of_nak (hnak : (s.port p).nakPending = true) : frameSend p s = s.setPort p PortSt.sendNak :=
  (if_neg (by simp [hwire])).trans ((if_neg hstep).trans (if_pos hnak))

theorem frameSend_of_replay {f : SentFrame} (hnak : (s.port p).nakPending = false) (hf : (s.port p).replayNext = some f) :
    frameSend p s = s.setPort p (PortSt.sendReplay f) := by
  refine (if_neg (by simp [hwire])).trans ((if_neg hstep).trans ((if_neg (by simp [hnak])).trans ?_))
  simp only [hf]

theorem frameSend_of_full (hnak : (s.port p).nakPending = false) (hf : (s.port p).replayNext = none)
    (hfull : 2048 ≤ (s.port p).sentFrames.length) : frameSend p s = s.setPort p PortSt.sendNull := by
  refine (if_neg (by simp [hwire])).trans ((if_neg hstep).trans ((if_neg (by simp [hnak])).trans ?_))
  simp only [hf]
  exact if_pos hfull

end

/-! ## Frames received -/

theorem PortSt.takeAck_frame (a : BitVec 12) (q : PortSt) : (q.takeAck a).st = q.st ∧ (q.takeAck a).expect = q.expect ∧
    (q.takeAck a).afterNak = q.afterNak ∧ (q.takeAck a).recvFresh = q.recvFresh ∧ (q.takeAck a).arrivedPk = q.arrivedPk ∧
    (q.takeAck a).nakWait = q.nakWait := by
  unfold PortSt.takeAck
  split <;> exact ⟨rfl, rfl, rfl, rfl, rfl, rfl⟩

/-- The port after a frame is counted and its ack and credit report are taken (R233, R234, R241). -/
def PortSt.tookFrame (w : Lcw) (q : PortSt) : PortSt :=
  (PortSt.takeAck w.ack { q with
    goodFrames := q.goodFrames + 1, frameBytes := setAt q.frameBytes 1 (bumpBy · 528) }).takeCredit w.creditVc w.creditTotal

theorem PortSt.tookFrame_frame (w : Lcw) (q : PortSt) : (q.tookFrame w).st = q.st ∧ (q.tookFrame w).expect = q.expect ∧
    (q.tookFrame w).afterNak = q.afterNak ∧ (q.tookFrame w).recvFresh = q.recvFresh ∧ (q.tookFrame w).arrivedPk = q.arrivedPk ∧
    (q.tookFrame w).nakWait = q.nakWait :=
  PortSt.takeAck_frame w.ack { q with goodFrames := q.goodFrames + 1, frameBytes := setAt q.frameBytes 1 (bumpBy · 528) }

/-- What the kind and the sequence of a frame decide, once its ack and credit are taken; e is the sequence expected (R235). -/
def State.bySequence (p : Port) (w : Lcw) (cells : List (List Byte)) (e : BitVec 12) (t : State) : State :=
  if w.kind == 0 then
    if w.seq == e then (t.setPort p (fun q => { q with expect := e + 1, ackSend := e, nakWait := false })).takeCells p (lcwCells w cells)
    else (t.setPort p (fun q => { q with afterNak := bump q.afterNak })).missing p
  else if 1 ≤ (w.seq - e).toNat ∧ (w.seq - e).toNat < 2048 then t.missing p else t

section
variable {s : State} {p : Port} {l : List Byte} (hdev : s.job.dev ≠ .exerciser)
include hdev

theorem State.exerCheck_setPort (f : PortSt → PortSt) (code : Nat) (hdr : List Byte) :
    (s.setPort p f).exerCheck p code hdr = s.setPort p f := State.exerCheck_of_dev (s := s.setPort p f) hdev ..

theorem State.badCheck_of_dev (hst : (s.port p).st ≠ .training) : s.badCheck p = s.setPort p fun q =>
    { q with frameFails := bump q.frameFails, goodFrames := 0, nakPending := true, nakWait := true } := by
  unfold State.badCheck
  rw [State.exerCheck_setPort hdev]
  exact State.setPort_congr (if_neg hst)

theorem State.missing_of_dev : s.missing p =
    if (s.port p).nakWait ∨ (s.port p).st = .training then s else s.setPort p PortSt.wantNak := by
  unfold State.missing
  rw [State.exerCheck_setPort hdev]

theorem State.takeFrame_of_dev (w : Lcw) (cells : List (List Byte)) : s.takeFrame p w cells =
    (s.setPort p fun q => (q.takeAck w.ack).takeCredit w.creditVc w.creditTotal).bySequence p w cells (s.port p).expect := by
  unfold State.takeFrame State.bySequence
  simp only [State.exerCheck_of_dev hdev, ite_self, State.port_setPort_self]
  rw [show (((s.port p).takeAck w.ack).takeCredit w.creditVc w.creditTotal).expect = (s.port p).expect from
    (PortSt.takeAck_frame w.ack (s.port p)).2.1]

/-- A well-formed frame with a good check, at a trained port: its ack and credit are taken, and its sequence decides. -/
theorem frameReceive_of_good {w : Lcw} (hwire : (s.port p).onWire = true) (hst : (s.port p).st ≠ .training)
    (hcheck : frameCheckOk l = true) (hform : frameWellFormed l = true) (hw : w = Lcw.ofWord (field64 l 512)) :
    frameReceive p l s = (s.setPort p (PortSt.tookFrame w)).bySequence p w (frameCells l) (s.port p).expect := by
  have hcount : s.countGood p = s.setPort p (fun q =>
      { q with goodFrames := q.goodFrames + 1, frameBytes := setAt q.frameBytes 1 (bumpBy · 528) }) := by
    unfold State.countGood
    exact if_neg (by simp [hst])
  unfold frameReceive
  rw [if_neg (by simp [hwire]), if_neg (by simp [hcheck]), hcount]
  dsimp only
  rw [if_neg (by simp [hform]), ← hw, State.takeFrame_of_dev (by exact hdev), State.setPort_setPort, State.port_setPort_self]
  rfl

end

/-! ## Replay -/

theorem State.links_reacted (p : Port) (codes : List Nat) (s : State) : (s.reacted p codes).links = s.links :=
  (State.reacted_keep (M := 0x400000) rfl p codes s (Keep.refl _ s)).links rfl

/-- A port on the wire is neither disabled nor failed. -/
theorem PortSt.trains_of_onWire {q : PortSt} (h : q.onWire = true) : ¬ (q.st = .disabled ∨ q.st = .failed) := by
  rintro (k | k) <;> simp [PortSt.onWire, k] at h

/-- Settles O40. A port sends by the order of R234 to R236, and a frame with a good check is taken by its kind and sequence; outside
exerciser mode no conformance check counts (log 56), and the times of R235 and R237 are events (log 10). -/
theorem framesAreSentCheckedAndReplayed : Obligations.FramesAreSentCheckedAndReplayed := by
  refine ⟨?off, ?train, ?nak, ?replay, ?full, ?bad, ?null, ?data, ?naked, ?unknown, ?repeat_, ?escalate, ?below⟩
  case off => exact fun s p h => congrArg Host.Outcome.next (if_pos (by simp [h]))
  case train =>
    intro s p hst hstep
    refine ⟨_, congrArg Host.Outcome.next (frameSend_of_training hst hstep), ?_⟩
    simp only [State.port_setPort_self]
    exact PortSt.sendNull_frame _
  case nak =>
    intro s p hwire hstep hnak
    refine ⟨_, congrArg Host.Outcome.next (frameSend_of_nak hwire hstep hnak), ?_⟩
    simp only [State.port_setPort_self]
    exact PortSt.sendNak_frame _
  case replay =>
    intro s p f hwire hstep hnak hf
    refine ⟨_, congrArg Host.Outcome.next (frameSend_of_replay hwire hstep hnak hf), ?_⟩
    simp only [State.port_setPort_self]
    exact PortSt.sendReplay_frame _ _
  case full =>
    intro s p hwire hstep hnak hf hfull
    refine ⟨_, congrArg Host.Outcome.next (frameSend_of_full hwire hstep hnak hf hfull), ?_⟩
    simp only [State.port_setPort_self]
    obtain ⟨hsent, hseq, -, hl⟩ := PortSt.sendNull_frame (s.port p)
    exact ⟨hsent, hseq, hl⟩
  case bad =>
    intro s p l hdev hwire hst hcheck
    exact congrArg Host.Outcome.next ((if_neg (by simp [hwire])).trans ((if_pos (by simp [hcheck])).trans
      (State.badCheck_of_dev hdev hst)))
  case null =>
    intro s p l w hdev hwire hst hcheck hform hw hkind hseq
    refine congrArg Host.Outcome.next ((frameReceive_of_good hdev hwire hst hcheck hform hw).trans ?_)
    exact (if_neg (by simpa using hkind)).trans (if_neg (by simp [hseq]))
  case data =>
    intro s p l w hdev hwire hst hcheck hform hw hkind hseq
    have hgo := (frameReceive_of_good hdev hwire hst hcheck hform hw).trans
      ((if_pos (by simp [hkind])).trans (if_neg (by simpa using hseq)))
    rw [State.setPort_setPort, State.missing_of_dev (by exact hdev)] at hgo
    obtain ⟨kst, kexp, kafter, krecv, karr, kwait⟩ := PortSt.tookFrame_frame w (s.port p)
    refine ⟨_, congrArg Host.Outcome.next hgo, ?_⟩
    dsimp only
    split
    case isTrue h =>
      rw [State.port_setPort_self] at h ⊢
      exact ⟨kexp, by rw [kafter], krecv, karr, h.resolve_right (fun k => hst (kst.symm.trans k))⟩
    case isFalse h =>
      rw [State.port_setPort_self, State.port_setPort_self]
      exact ⟨kexp, by simp only [PortSt.wantNak, kafter], krecv, karr, rfl⟩
  case naked =>
    intro s p a hwire hknown hst
    refine ⟨_, congrArg Host.Outcome.next ((if_neg (by simp [hwire])).trans (if_neg (by simp [hknown]))), ?_⟩
    dsimp only
    rw [State.port_congr (State.links_reacted ..), State.port_setPort_self]
    exact if_neg (by rw [(PortSt.takeAck_frame a (s.port p)).1]; exact hst)
  case unknown =>
    intro s p a hdev hwire hknown
    refine congrArg Host.Outcome.next ((if_neg (by simp [hwire])).trans ((if_pos (by simp [hknown])).trans ?_))
    exact State.exerCheck_setPort hdev ..
  case repeat_ =>
    intro s p hwait hwire
    refine ⟨_, rfl, (State.port_setPort_self ..).trans (if_pos (by simp [hwait, hwire]))⟩
  case escalate =>
    intro s p hdev hwire hlimit
    have hgo : nakEscalation p s = (s.record (ev3 0x1010 (unitPort p) (arg1 p.val ++ le16 ((s.port p).acked.setWidth 16)))).startTraining
        p true := by
      unfold nakEscalation
      rw [if_neg (by simp [hwire, hlimit]), if_neg]
      rw [State.exerLax_of_dev (by simpa using hdev)]
      exact Bool.false_ne_true
    refine ⟨_, congrArg Host.Outcome.next hgo, ?_, rfl, rfl⟩
    refine (State.port_setPort_self ..).trans ?_
    rw [State.port_record]
    simp only [State.record_frame]
    exact if_neg (PortSt.trains_of_onWire hwire)
  case below => exact fun s p h => congrArg Host.Outcome.next (if_pos (by simp [h]))

end Sys2Proof.Machine
end

section
/-! SUPPORT. Training, HEARTBEAT, IDENT and the packets of a port (R237, R243, R250 to R258), outside exerciser mode. -/
namespace Sys2Proof.Machine
open Sys2Proof Sys2Proof.Statements

/-- A command completes with what holds of the state that it answers. -/
theorem completes_of {c : Instr} {s t : State} {P : State → Prop} (h : exec c s = .next t) (hP : P t) : Completes c s P := ⟨t, h, hP⟩

/-! ## A port that is lost -/

/-- The port is as it was but for the packets that wait on it and for the note that its agent is lost. -/
def PortSt.sameLine (q r : PortSt) : Prop := ∃ l b, r = { q with queue := l, agentLost := b }

theorem State.suspectPort_onlyQueues (p : Port) (s : State) : OnlyQueues s (s.suspectPort p) := by
  unfold State.suspectPort
  split
  · exact .of rfl
  · split
    · exact .of rfl
    · dsimp only
      split
      · exact .of rfl
      · exact OnlyQueues.trans (.of (by simp)) (State.sendSuspect_onlyQueues ..)

/-- The loss of an agent is noted at its port and counted. -/
def State.agentGone (p : Port) (s : State) : State :=
  { s.setPort p (fun q => { q with agentLost := true }) with det := { s.det with agentLosses := bump s.det.agentLosses } }

theorem State.loseAgent_eq (p : Port) (s : State) : s.loseAgent p =
    if !(decide (p.val < 8)) || !s.jobPort p || (s.port p).agentLost then s
    else if (s.agentGone p).det.agentAction == 0 then
      ((s.agentGone p).record (ev3 0x4009 unitFault (arg1 p.val))).sendSuspect (s.agentGone p).adopted p
    else (s.agentGone p).record (ev1 0x4009 unitFault (arg1 p.val)) := rfl

theorem State.port_agentGone (p : Port) (s : State) : (s.agentGone p).port p = { s.port p with agentLost := true } :=
  (State.port_congr (s := s.setPort p fun q => { q with agentLost := true }) rfl p).trans (State.port_setPort_self ..)

theorem State.loseAgent_port (p : Port) (s : State) : (s.port p).sameLine ((s.loseAgent p).port p) := by
  rw [State.loseAgent_eq]
  split
  · exact ⟨_, _, rfl⟩
  · split
    · obtain ⟨l, hl⟩ := (State.sendSuspect_onlyQueues (s.agentGone p).adopted p
        ((s.agentGone p).record (ev3 0x4009 unitFault (arg1 p.val)))).port p
      exact ⟨l, true, hl.trans (by rw [State.port_record, State.port_agentGone])⟩
    · exact ⟨_, true, by rw [State.port_record, State.port_agentGone]⟩

theorem State.portGone_port (p : Port) (s : State) : (s.port p).sameLine ((s.portGone p).port p) := by
  unfold State.portGone
  split
  · exact State.loseAgent_port p s
  · obtain ⟨l, hl⟩ := (State.suspectPort_onlyQueues p s).port p
    exact ⟨l, _, hl⟩

/-- The failure of a link is noted at its port, recorded and charged. -/
def State.linkNoted (p : Port) (s : State) : State :=
  ((s.setPort p fun q => { q with st := .failed, trainStep := 0 }).record (ev3 0x1002 unitSwitch [])).charge
    { unit := 0x0700 + p.val, code := 0x1002, path := 5 }

theorem State.port_linkNoted (p : Port) (s : State) : (s.linkNoted p).port p = { s.port p with st := .failed, trainStep := 0 } :=
  (State.port_congr (s := s.setPort p fun q => { q with st := .failed, trainStep := 0 }) (by simp [State.linkNoted]) p).trans
    (State.port_setPort_self ..)

theorem linkFailed_of_limit {p : Port} {s : State} (hdev : s.job.dev ≠ .exerciser) (hf : (s.port p).st ≠ .failed)
    (hd : (s.port p).st ≠ .disabled) (hl : s.links.retrainLimit.toNat ≤ s.retrainsNow p) :
    linkFailed p s = (s.linkNoted p).portGone p := if_neg (by simp [hf, hd, State.exerLax_of_dev hdev, hl])

/-! ## Training -/

theorem State.port_startTraining {p : Port} {s : State} (h : (s.port p).st ≠ .disabled) (k : (s.port p).st ≠ .failed) (offer : Bool) :
    (s.startTraining p offer).port p = (s.port p).train s.time.now offer :=
  (State.port_setPort_self ..).trans (if_neg (by simp [h, k]))

/-- A trained port is quarantined: without a common version, with a peer or credits that do not fit, or after violations. -/
def State.quarantines (s : State) (p : Port) (i : IdentBody) : Bool :=
  (commonVersion (s.offered p) (i.highest, i.lowest)).isNone ||
    !(identMatches i (s.wanted p) && i.grants.all (fun g => decide (g.toNat ≥ 66))) || (s.port p).violQuar

theorem PortSt.takeAck_peer (a : BitVec 12) (q : PortSt) : (q.takeAck a).peer = q.peer := by
  unfold PortSt.takeAck
  split <;> rfl

theorem State.links_circuitUp (p : Port) (cn : U32) (s : State) : (s.circuitUp p cn).links = s.links := by
  unfold State.circuitUp
  split
  · rfl
  · dsimp only
    split <;> simp

theorem State.endTraining_port (p : Port) (i : IdentBody) (s : State) :
    ((s.endTraining p i).port p).st = (if s.quarantines p i then .quarantine else .active) ∧
    ((s.endTraining p i).port p).trainStep = 0 ∧ ((s.endTraining p i).port p).peer = (s.port p).peer ∧
    ((s.endTraining p i).port p).version = (commonVersion (s.offered p) (i.highest, i.lowest)).getD 0 := by
  have hend (x : State) (b : Bool) : ∃ l, (if b then x.suspectPort p else x.circuitUp p i.cn).port p = { x.port p with queue := l } := by
    cases b
    · exact ⟨_, (State.port_congr (State.links_circuitUp ..) p).trans rfl⟩
    · exact (State.suspectPort_onlyQueues p x).port p
  have hreact (b : Bool) (x : State) : (if b then x else x.reacted p [4, 5]).port p = x.port p := by
    cases b
    · exact State.port_congr (State.links_reacted ..) p
    · rfl
  have hrec (b : Bool) (x y : State) (h : y.links = x.links) : (if b then y else x).port p = x.port p := by
    cases b
    · rfl
    · exact State.port_congr h p
  unfold State.endTraining
  extract_lets q version idOk same resume quar s1 s2 s3
  obtain ⟨l, hl⟩ := hend (if resume then (s3.record _) else (s3.record _).reacted p [4, 5]) quar
  have hs2 : s2.port p = s.port p := by
    have h1 : s1.port p = s.port p := hrec _ _ _ (by simp)
    have h2 : s2.links = s1.links := by
      simp only [s2]
      split
      · rfl
      · unfold State.wiringEvent
        simp
    rw [State.port_congr h2, h1]
  rw [hl, hreact, State.port_record]
  simp only [s3, State.port_setPort_self, hs2]
  refine ⟨rfl, trivial, ?_, rfl⟩
  cases resume
  · rfl
  · exact PortSt.takeAck_peer _ _

/-! ## IDENT -/

theorem State.wanted_takePk (pk : Packet) (s : State) (p : Port) : (s.takePk pk).wanted p = s.wanted p := by
  unfold State.takePk
  split <;> rfl

theorem State.port_takePk (pk : Packet) (s : State) (p : Port) : (s.takePk pk).port p = s.port p := State.port_congr (by simp) p

/-- The peer's identity is noted at the port. -/
def State.peerNoted (p : Port) (pk : Trans) (s : State) : State := (s.takePk (.trans pk)).setPort p fun q =>
  { q with peer := some (identOf pk.body), peerRaw := padTo 128 (pk.body.take 128) }

theorem State.port_peerNoted (p : Port) (pk : Trans) (s : State) : (s.peerNoted p pk).port p =
    { s.port p with peer := some (identOf pk.body), peerRaw := padTo 128 (pk.body.take 128) } := by
  unfold State.peerNoted
  rw [State.port_setPort_self, State.port_takePk]

theorem State.quarantines_peerNoted (p : Port) (pk : Trans) (s : State) (i : IdentBody) :
    (s.peerNoted p pk).quarantines p i = s.quarantines p i := by
  have hw : (s.peerNoted p pk).wanted p = s.wanted p := State.wanted_takePk (.trans pk) s p
  have ho : (s.peerNoted p pk).offered p = s.offered p := by
    unfold State.offered State.exPort
    simp [State.peerNoted]
  unfold State.quarantines
  rw [hw, ho, State.port_peerNoted]

theorem State.offered_peerNoted (p : Port) (pk : Trans) (s : State) : (s.peerNoted p pk).offered p = s.offered p := by
  unfold State.offered State.exPort
  simp [State.peerNoted]

theorem identReceive_of_off {p : Port} {pk : Trans} {s : State} (h : (s.port p).st = .disabled ∨ (s.port p).st = .failed) :
    identReceive p pk s = s.takePk (.trans pk) := if_pos (by rw [State.port_takePk]; exact h)

theorem identReceive_of_early {p : Port} {pk : Trans} {s : State} (h : (s.port p).st = .training) (k : (s.port p).trainStep ≠ 3) :
    identReceive p pk s = (s.peerNoted p pk).setPort p fun q =>
      if q.st = .training then { q with identIn := some (identOf pk.body) } else q :=
  (if_neg (by rw [State.port_takePk]; simp [h])).trans (if_neg (by rw [State.port_takePk]; simp [k]))

theorem identReceive_of_step3 {p : Port} {pk : Trans} {s : State} (h : (s.port p).st = .training) (k : (s.port p).trainStep = 3) :
    identReceive p pk s = (s.peerNoted p pk).endTraining p (identOf pk.body) :=
  (if_neg (by rw [State.port_takePk]; simp [h])).trans (if_pos (by rw [State.port_takePk]; simp [h, k]))

/-! ## Violations -/

/-- The quarantine of an agent is noted at its port. -/
def PortSt.quarantined (q : PortSt) : PortSt := { q with
  st := if q.st = .training then .training else .quarantine
  violQuar := true, wasQuar := true, violAt := [], agentViol := bump q.agentViol }

theorem agentQuarantine_port {p : Port} {s : State} (hp : p.val < 8) (hdev : s.job.dev ≠ .exerciser)
    (hst : (s.port p).st = .active ∨ (s.port p).st = .quarantine ∨ (s.port p).st = .training) (hq : (s.port p).violQuar = false)
    (hl : s.links.violLimit.toNat ≤ s.violationsNow p) : (s.port p).quarantined.sameLine ((agentQuarantine p s).port p) := by
  unfold agentQuarantine
  rw [if_neg (by simp [hst, hq, State.exerLax_of_dev hdev]; omega)]
  dsimp only
  have h := State.loseAgent_port p ((s.setPort p PortSt.quarantined).record
    (ev2 0x1042 (unitPort p) (arg1 p.val ++ (match (s.port p).peer with | some i => i.serial | none => List.replicate 16 0))))
  rw [State.port_record, State.port_setPort_self] at h
  exact h

theorem State.agentViolation_of_agent {p : Port} (h : p.val < 8) (s : State) : s.agentViolation p =
    s.setPort p fun q => { q with agentViol := bump q.agentViol, violAt := lastSecond s.time.now q.violAt ++ [s.time.now] } :=
  if_pos h

theorem State.agentViolation_of_fabric {p : Port} (h : 8 ≤ p.val) (s : State) : s.agentViolation p = s := if_neg (by omega)

theorem agentNoResend_of_request {p : Port} {ts blk : U32} {a : AgentReq} {s : State}
    (h : (s.port p).agentReqs.find? (fun a => a.ts == ts && a.blk == blk) = some a) : agentNoResend p ts blk s =
    (((s.setPort p fun q => { q with agentReqs := q.agentReqs.filter (fun b => !(b == a)) }).agentViolation p).record
      (ev3 0x1041 (unitPort p) (arg1 p.val ++ arg4 ts ++ arg4 blk))).send (.trans a.req) := by
  simp only [agentNoResend, h]

/-! ## Packets -/

theorem State.takeArrived_of_none {p : Port} {vc : BitVec 3} {l : List Byte} {s : State}
    (h : ∀ a ∈ (s.port p).arrivedPk, ¬ (a.vc = vc ∧ a.bytes = l)) : s.takeArrived p vc l = s := by
  unfold State.takeArrived
  rw [List.findIdx?_eq_none_iff.mpr (by simpa using h)]

theorem packetReceive_of_badHeader {p : Port} {vc : BitVec 3} {l : List Byte} {s : State} (hdev : s.job.dev ≠ .exerciser)
    (hwire : (s.port p).onWire = true) (hhdr : headerOk l = false)
    (hno : ∀ a ∈ (s.port p).arrivedPk, ¬ (a.vc = vc ∧ a.bytes = l)) : packetReceive p vc l s =
    (({ s with chk := { s.chk with hdrFail := bump s.chk.hdrFail } } : State).setPort p
      fun q => { q with hdrFails := bump q.hdrFails }).record (ev3 0x1020 (unitPort p) (arg1 p.val)) := by
  unfold packetReceive
  rw [State.takeArrived_of_none hno]
  dsimp only
  rw [if_neg (by simp [hwire]), if_pos (by simp [hhdr])]
  exact State.exerCheck_of_dev (by simpa using hdev) ..

theorem packetReceive_of_quarantine {p : Port} {vc : BitVec 3} {l : List Byte} {pk : Packet} {s : State} (hdev : s.job.dev ≠ .exerciser)
    (hst : (s.port p).st = .quarantine) (hhdr : headerOk l = true) (hform : packetForm vc l = some pk) (hvc : vc ≠ 7)
    (htag : isUntagged pk = false) (hno : ∀ a ∈ (s.port p).arrivedPk, ¬ (a.vc = vc ∧ a.bytes = l)) : packetReceive p vc l s =
    (s.tracePk 2 p vc pk).setPort p fun q => { q with quarDiscards := bump q.quarDiscards } := by
  have hon : (s.tracePk 2 p vc pk).exerOn p = false := State.exerOn_of_dev (by simpa using hdev) p
  unfold packetReceive
  rw [State.takeArrived_of_none hno]
  dsimp only
  rw [if_neg (by simp [PortSt.onWire, hst]), if_neg (by simp [hhdr]), hform]
  dsimp only
  rw [if_neg (by simp [hon]), if_neg (by simpa using hvc), if_pos (by simp [hst, htag])]

/-! ## HEARTBEAT -/

theorem State.tracePk_of_untraced {s : State} (h : s.tele.tracePorts = 0) (kind : Nat) (p : Port) (vc : BitVec 3) (pk : Packet) :
    s.tracePk kind p vc pk = s := if_pos (by simp [h])

theorem State.auditPort_of_balanced {p : Port} {s : State} (hl : (s.port p).ledgerFault = none)
    (hpool : s.poolHeld + s.route.poolFree = poolCells) : s.auditPort p = s := by
  unfold State.auditPort
  rw [hl]
  exact if_pos hpool

/-- The cells of the switch that wait on a port. -/
def PortSt.switchCells (q : PortSt) : Nat := ((q.queue.filter (·.seq.isSome)).map (·.pk.cellCount)).sum

/-- A write of a port that leaves its switched packets leaves the cells that the pool holds. -/
theorem State.poolHeld_setPort {p : Port} {f : PortSt → PortSt} {s : State} (h : (f (s.port p)).switchCells = (s.port p).switchCells) :
    (s.setPort p f).poolHeld = s.poolHeld := by
  have hp : ((s.setPort p f).links.ports.toList.map PortSt.switchCells) = s.links.ports.toList.map PortSt.switchCells := by
    apply List.ext_getElem (by simp)
    intro i hi hi'
    by_cases he : p.val = i
    · subst he
      simpa [State.setPort, State.port] using h
    · simp [State.setPort, he]
  unfold State.poolHeld
  exact congrArg (fun l : List Nat => (s.route.pool.map (·.pk.cellCount)).sum + l.sum) hp

theorem State.auditPort_setPort {p : Port} {f : PortSt → PortSt} {s : State} (hl : (s.port p).ledgerFault = none)
    (hpool : s.poolHeld + s.route.poolFree = poolCells) (hf : (f (s.port p)).ledgerFault = (s.port p).ledgerFault)
    (hc : (f (s.port p)).switchCells = (s.port p).switchCells) : (s.setPort p f).auditPort p = s.setPort p f :=
  State.auditPort_of_balanced (by rw [State.port_setPort_self, hf, hl]) (by rw [State.poolHeld_setPort hc]; exact hpool)

theorem State.sendOn_of_linkLevel {pk : Packet} (h : isLinkLevel pk = true) (p : Port) (s : State) :
    s.sendOn p pk = (s.setPort p fun q => { q with queue := q.queue ++ [⟨vcOfPacket pk, pk, none, none⟩] }).tracePk 1 p (vcOfPacket pk) pk :=
  if_pos h

theorem State.poolHeld_takePk (pk : Packet) (s : State) : (s.takePk pk).poolHeld = s.poolHeld := by
  unfold State.takePk
  split <;> rfl

/-- The counts of a HEARTBEAT leave the port. -/
def State.beatTaken (p : Port) (pk : Trans) (s : State) : State := (s.takePk (.trans pk)).setPort p fun q =>
  { q with hbCounts := (q.hbCounts.dropWhile (fun x => !(x.1 == pk))).drop 1 }

theorem State.port_beatTaken (p : Port) (pk : Trans) (s : State) : (s.beatTaken p pk).port p =
    { s.port p with hbCounts := ((s.port p).hbCounts.dropWhile (fun x => !(x.1 == pk))).drop 1 } := by
  unfold State.beatTaken
  rw [State.port_setPort_self, State.port_takePk]

theorem State.auditPort_beatTaken {p : Port} {pk : Trans} {s : State} (hl : (s.port p).ledgerFault = none)
    (hpool : s.poolHeld + s.route.poolFree = poolCells) : (s.beatTaken p pk).auditPort p = s.beatTaken p pk := by
  refine State.auditPort_setPort ?_ ?_ rfl rfl
  · rw [State.port_takePk]
    exact hl
  · rw [State.poolHeld_takePk]
    unfold State.takePk
    split <;> exact hpool

theorem heartbeatReceive_of_equal {p : Port} {pk : Trans} {s : State} (hsafe : s.job.dev ≠ .safe) (hd : (s.port p).auditDiff pk = none)
    (hl : (s.port p).ledgerFault = none) (hpool : s.poolHeld + s.route.poolFree = poolCells) : heartbeatReceive p pk s =
    (s.beatTaken p pk).setPort p fun q =>
      { q with lastHb := if q.st == .active then some (s.takePk (.trans pk)).time.now else q.lastHb, agentLost := false } := by
  have haudit := State.auditPort_beatTaken (pk := pk) hl hpool
  have hdev : ¬ (s.beatTaken p pk).job.dev = .safe := by simpa [State.beatTaken] using hsafe
  unfold State.beatTaken at haudit hdev ⊢
  simp only [heartbeatReceive, State.port_takePk, hd, haudit]
  exact if_neg hdev

theorem heartbeatReceive_of_differ {p : Port} {pk : Trans} {s : State} {v : Nat} {a b : U32} (hp : 8 ≤ p.val) (hsafe : s.job.dev ≠ .safe)
    (hdev : s.job.dev ≠ .exerciser) (hd : (s.port p).auditDiff pk = some (v, a, b)) (hl : (s.port p).ledgerFault = none)
    (hpool : s.poolHeld + s.route.poolFree = poolCells) : heartbeatReceive p pk s =
    (((s.beatTaken p pk).setPort p fun q => { q with auditMism := bump q.auditMism }).record
      (ev3 0x1012 (unitPort p) (arg1 p.val ++ arg1 v ++ arg4 a ++ arg4 b))).startTraining p false := by
  have haudit := State.auditPort_beatTaken (pk := pk) hl hpool
  have hsafe' : ¬ (s.beatTaken p pk).job.dev = .safe := by simpa [State.beatTaken] using hsafe
  have hdev' : (s.beatTaken p pk).job.dev ≠ .exerciser := by simpa [State.beatTaken] using hdev
  have hcheck := State.exerCheck_of_dev hdev' p 8 []
  have hlax := State.exerLax_of_dev hdev' p
  unfold State.beatTaken at haudit hsafe' hcheck hlax ⊢
  simp only [heartbeatReceive, State.port_takePk, hd, haudit, hcheck, hlax, State.agentViolation_of_fabric hp]
  exact (if_neg hsafe').trans (if_neg Bool.false_ne_true)

/-! ## MARK -/

theorem TeleState.traceAdd_markInt (now : Nat) (op : U64) (r : TraceRec) (t : TeleState) : (t.traceAdd now op r).markInt = t.markInt := by
  unfold TeleState.traceAdd
  split
  · rfl
  · split
    · rfl
    · split
      · rfl
      · dsimp only
        split <;> split <;> (try split) <;> rfl

theorem State.trace_markInt (island kind unit port vc op : Nat) (data : List Byte) (s : State) :
    (s.trace island kind unit port vc op data).tele.markInt = s.tele.markInt := TeleState.traceAdd_markInt ..

theorem State.port_trace (island kind unit port vc op : Nat) (data : List Byte) (s : State) (p : Port) :
    (s.trace island kind unit port vc op data).port p = s.port p := State.port_congr (by simp) p

/-- The peer's MARK is noted at the port with the time of its island. -/
def State.markNoted (p : Port) (pk : Trans) (s : State) : State := (s.takePk (.trans pk)).setPort p fun q =>
  { q with peerMark := pk.a32 0, peerMarkAt := (s.takePk (.trans pk)).ns (islandOfPort p) }

theorem markReceive_eq (p : Port) (pk : Trans) (s : State) : markReceive p pk s = (s.markNoted p pk).trace (islandOfPort p) 4
    (unitPort p) p.val 0 0x0E (le32 (pk.a32 4) ++ leBytes 6 pk.b.toNat ++ leBytes 6 pk.c.toNat) := rfl

/-- Late traffic of the peer counts in a run. -/
theorem State.exerCheck_of_counted {p : Port} {s : State} {code : Nat} {hdr : List Byte} (hrun : s.exerRun p = true)
    (hcount : (s.exPort p).counts.toList.getD (code - 1) 0 ≠ 0) :
    s.exerCheck p code hdr = s.setExPort p fun x => { x with counts := addAt x.counts (code - 1) 1 } := by
  have hfirst : (((s.exPort p).counts.toList.getD (code - 1) 0) == 0) = false := by simpa using hcount
  unfold State.exerCheck
  rw [if_neg (by simp [hrun])]
  dsimp only
  rw [hfirst, if_neg (by simp)]
  simp

/-- Settles O41. A port trains, beats and takes packets by R237 to R258 and R447; outside exerciser mode no conformance check
counts, and the deadlines and losses are events (logs 9, 10, 13). -/
theorem portsTrainRetrainAndFail : Obligations.PortsTrainRetrainAndFail := by
  refine ⟨?failed, ?below, ?lock, ?miss, ?resume, ?fresh, ?enable, ?disable, ?identOff, ?identEarly, ?identActive, ?identQuar,
    ?quarActive, ?quarTraining, ?noResend, ?badHeader, ?quarPacket, ?oldEpoch, ?beat, ?noBeat, ?beatEqual, ?beatDiffer,
    ?markSend, ?markReceive, ?markInternal, ?hbLate, ?mkLate, ?rpLate⟩
  case failed =>
    intro s p hdev hf hd hl
    refine completes_of (congrArg Host.Outcome.next (linkFailed_of_limit hdev hf hd hl)) ?_
    obtain ⟨l, b, hp⟩ := State.portGone_port p (s.linkNoted p)
    rw [State.port_linkNoted] at hp
    exact ⟨(congrArg PortSt.st hp).trans rfl, (congrArg PortSt.trainStep hp).trans rfl⟩
  case below => exact fun s p h => congrArg Host.Outcome.next (if_pos (by simp [h]))
  case lock =>
    intro s p hst hstep
    exact congrArg Host.Outcome.next (State.setPort_congr (if_pos ⟨hst, hstep⟩))
  case miss =>
    intro s p hst hstep
    refine ⟨_, congrArg Host.Outcome.next (if_pos ⟨hst, hstep⟩), ?_, fun q hq => State.port_setPort_ne hq ..⟩
    exact State.port_startTraining (by simp [hst]) (by simp [hst]) _
  case resume =>
    intro s p
    refine ⟨_, rfl, ?_, ?_, ?_, ?_, fun q hq => State.port_setPort_ne hq ..⟩ <;>
      exact (congrArg _ (State.port_setPort_self ..)).trans rfl
  case fresh =>
    intro s p
    refine ⟨_, rfl, ?_, ?_, ?_, fun q hq => State.port_setPort_ne hq ..⟩ <;>
      exact (congrArg _ (State.port_setPort_self ..)).trans rfl
  case enable =>
    intro s p hst
    refine ⟨_, rfl, ?_, ?_, ?_, ?_⟩
    · exact (congrArg PortSt.st (State.port_setPort_self ..)).trans rfl
    · exact (congrArg PortSt.trainStep (State.port_setPort_self ..)).trans rfl
    · exact (congrArg PortSt.retrains (State.port_setPort_self ..)).trans (if_pos (by simp [hst]))
    · exact (congrArg PortSt.fencedOff (State.port_setPort_self ..)).trans rfl
  case disable => exact fun s p => ⟨_, rfl, State.port_setPort_self .., fun q hq => State.port_setPort_ne hq ..⟩
  case identOff => exact fun s p pk h => congrArg Host.Outcome.next (identReceive_of_off h)
  case identEarly =>
    intro s p pk hst hstep
    refine completes_of (congrArg Host.Outcome.next (identReceive_of_early hst hstep)) ?_
    rw [State.port_setPort_self, State.port_peerNoted, if_pos hst]
    exact ⟨hst, rfl, rfl⟩
  case identActive =>
    intro s p pk i v hi hst hstep hviol hver hmatch hgrants
    subst hi
    refine completes_of (congrArg Host.Outcome.next (identReceive_of_step3 hst hstep)) ?_
    obtain ⟨kst, kstep, kpeer, kver⟩ := State.endTraining_port p (identOf pk.body) (s.peerNoted p pk)
    have hquar : s.quarantines p (identOf pk.body) = false := by
      simp only [State.quarantines, hver, hmatch, hviol, Option.isNone_some, Bool.true_and, Bool.false_or, Bool.or_false]
      simpa using hgrants
    rw [State.quarantines_peerNoted, hquar] at kst
    rw [State.offered_peerNoted, hver] at kver
    exact ⟨kst, kver, kpeer.trans (by rw [State.port_peerNoted]), kstep⟩
  case identQuar =>
    intro s p pk i hi hst hstep hmatch
    subst hi
    refine completes_of (congrArg Host.Outcome.next (identReceive_of_step3 hst hstep)) ?_
    obtain ⟨kst, -, kpeer, -⟩ := State.endTraining_port p (identOf pk.body) (s.peerNoted p pk)
    rw [State.quarantines_peerNoted, show s.quarantines p (identOf pk.body) = true by simp [State.quarantines, hmatch]] at kst
    exact ⟨kst, kpeer.trans (by rw [State.port_peerNoted])⟩
  case quarActive =>
    intro s p hp hdev hst hq hl
    obtain ⟨l, b, k⟩ := agentQuarantine_port hp hdev (.inl hst) hq hl
    refine completes_of rfl ?_
    rw [k]
    exact ⟨if_neg (by simp [hst]), rfl, rfl, rfl⟩
  case quarTraining =>
    intro s p hp hdev hst hq hl
    obtain ⟨l, b, k⟩ := agentQuarantine_port hp hdev (.inr (.inr hst)) hq hl
    refine completes_of rfl ?_
    rw [k]
    exact ⟨if_pos hst, rfl, rfl⟩
  case noResend =>
    intro s p ts blk a hp ha
    refine ⟨_, congrArg Host.Outcome.next (agentNoResend_of_request ha), _, rfl, ?_⟩
    rw [State.port_record, State.agentViolation_of_agent hp, State.port_setPort_self, State.port_setPort_self]
    exact ⟨rfl, rfl, Records.of rfl rfl rfl⟩
  case badHeader =>
    intro s p vc l hdev hwire hhdr hno
    refine ⟨_, congrArg Host.Outcome.next (packetReceive_of_badHeader hdev hwire hhdr hno), by simp, ?_, by simp, Records.of rfl rfl rfl⟩
    rw [State.port_record, State.port_setPort_self]
    rfl
  case quarPacket =>
    intro s p vc l pk hdev hst hhdr hform hvc htag hno
    refine ⟨_, congrArg Host.Outcome.next (packetReceive_of_quarantine hdev hst hhdr hform hvc htag hno), ?_, by simp⟩
    rw [State.port_setPort_self, State.port_congr (s := s) (by simp)]
  case oldEpoch =>
    intro s p pk htag hrun hjt hfence hold
    exact (if_neg (by simp [htag])).trans ((if_neg (by simp [hrun])).trans ((if_neg (by simp [hrun])).trans
      ((if_neg (by simp [hjt])).trans ((if_neg (by simp [hfence])).trans ((if_neg (by simp [hrun])).trans (if_pos hold))))))
  case beat =>
    intro s p hmay hstandby htrace hl hpool
    refine congrArg Host.Outcome.next ((if_pos hmay).trans ?_)
    rw [State.sendOn_of_linkLevel (by rfl), State.tracePk_of_untraced (by exact htrace)]
    exact State.auditPort_setPort hl hpool rfl (by simp [PortSt.switchCells])
  case noBeat => exact fun s p h => congrArg Host.Outcome.next (if_neg (by simp [h]))
  case beatEqual =>
    intro s p pk hst hsafe hd hl hpool
    refine ⟨_, congrArg Host.Outcome.next (heartbeatReceive_of_equal hsafe hd hl hpool), ?_, Quiet.of (by simp [State.beatTaken])⟩
    rw [State.port_setPort_self, State.port_beatTaken]
    simp [hst]
  case beatDiffer =>
    intro s p pk v a b hp hst hsafe hdev hd hl hpool
    refine completes_of (congrArg Host.Outcome.next (heartbeatReceive_of_differ hp hsafe hdev hd hl hpool)) ?_
    rw [State.port_startTraining (by simp [State.port_beatTaken, hst]) (by simp [State.port_beatTaken, hst]), State.port_record,
      State.port_setPort_self, State.port_beatTaken]
    exact ⟨rfl, rfl, rfl, Records.of (by simp [State.beatTaken]) (by simp [State.beatTaken]) (by simp [State.beatTaken])⟩
  case markSend =>
    intro s p hst
    refine completes_of (congrArg Host.Outcome.next (if_neg (by simp [hst]))) ?_
    rw [State.sendOn_of_linkLevel (by rfl), State.port_congr (State.tracePk_frame ..).2.2.2.2.2.2.2.2.2.2.1, State.port_setPort_self]
    rw [State.port_trace, State.port_setPort_self]
    exact ⟨rfl, _, rfl⟩
  case markReceive =>
    intro s p pk
    refine completes_of (congrArg Host.Outcome.next (markReceive_eq p pk s)) ?_
    rw [State.port_trace, State.markNoted, State.port_setPort_self]
    exact ⟨rfl, by simp [State.ns], by simp⟩
  case markInternal =>
    intro s
    exact ⟨_, rfl, eq_foldl_of_eq (fun t => t.tele.markInt) (fun t i => State.trace_markInt ..) _ _⟩
  case hbLate => exact fun s p hrun hc => congrArg Host.Outcome.next (State.exerCheck_of_counted hrun (by simpa using hc))
  case mkLate => exact fun s p hrun hc => congrArg Host.Outcome.next (State.exerCheck_of_counted hrun (by simpa using hc))
  case rpLate =>
    intro s p hrun hnak hc
    exact congrArg Host.Outcome.next ((if_pos hnak).trans (State.exerCheck_of_counted hrun (by simpa using hc)))

end Sys2Proof.Machine
end

section
/-! SUPPORT. The receipt of a packet (R250 step 4, R265, R275): its port buffer, its checks, its unit or the switch. -/
namespace Sys2Proof.Machine
open Sys2Proof Sys2Proof.Statements

/-- A packet that leaves its port buffer changes nothing of the port's line. -/
theorem State.takeArrived_eq (p : Port) (vc : BitVec 3) (l : List Byte) (s : State) : ∃ f, s.takeArrived p vc l = s.setPort p f ∧
    (f (s.port p)).st = (s.port p).st ∧ (f (s.port p)).version = (s.port p).version ∧ (f (s.port p)).queue = (s.port p).queue := by
  unfold State.takeArrived
  split
  · exact ⟨id, by simp [State.setPort], rfl, rfl, rfl⟩
  · refine ⟨_, rfl, ?_⟩
    dsimp only
    split <;> exact ⟨rfl, rfl, rfl⟩

/-- The state in which a packet that left its port buffer is looked at. -/
def State.taken (p : Port) (vc : BitVec 3) (l : List Byte) (pk : Packet) (s : State) : State := (s.takeArrived p vc l).tracePk 2 p vc pk

section
variable {s : State} {p : Port} {vc : BitVec 3} {l : List Byte} {pk : Packet}

theorem State.taken_keep : Keep 0x40400 s (s.taken p vc l pk) :=
  State.tracePk_keep (M := 0x40400) rfl 2 p vc pk _ (State.takeArrived_keep (M := 0x40400) rfl p vc l s (Keep.refl _ s))

theorem State.port_taken (q : Port) : (s.taken p vc l pk).port q = (s.takeArrived p vc l).port q :=
  State.port_congr (by simp [State.taken]) q

theorem State.port_taken_line (q : Port) : ((s.taken p vc l pk).port q).st = (s.port q).st ∧
    ((s.taken p vc l pk).port q).version = (s.port q).version ∧ ((s.taken p vc l pk).port q).queue = (s.port q).queue := by
  obtain ⟨f, hf, hst, hver, hqueue⟩ := State.takeArrived_eq p vc l s
  rw [State.port_taken, hf]
  by_cases h : q = p
  · subst h
    rw [State.port_setPort_self]
    exact ⟨hst, hver, hqueue⟩
  · rw [State.port_setPort_ne h]
    exact ⟨rfl, rfl, rfl⟩

theorem State.addressed_taken (x : Packet) : (s.taken p vc l pk).addressed x = s.addressed x := by
  have k := State.taken_keep (s := s) (p := p) (vc := vc) (l := l) (pk := pk)
  unfold State.addressed State.isLocal State.adopted State.own
  rw [k.route rfl, k.ident]

section
variable (hdev : s.job.dev ≠ .exerciser) (hst : (s.port p).st = .active) (hhdr : headerOk l = true)
  (hform : packetForm vc l = some pk) (hvc : vc ≠ 7) (hfence : s.det.fenced.contains pk.src = false)
include hdev hst hhdr hform hvc hfence

/-- A packet of good form from no fenced source, at an active port: its address decides. -/
theorem packetReceive_of_good : packetReceive p vc l s =
    if s.addressed pk || (isLinkLevel pk && (s.port p).st == .training) then
      (s.taken p vc l pk).receiveOwn p vc (byteAt l 0) pk
    else if (match pk with | .trans t => t.op == opOBJ_TUNNEL | .block _ => false) then
      { s.taken p vc l pk with route := { s.route with routeDiscards := bump s.route.routeDiscards } }
    else if s.route.poolFree < pk.cellCount then s
    else (s.taken p vc l pk).forward (some p) vc pk := by
  have k := State.taken_keep (s := s) (p := p) (vc := vc) (l := l) (pk := pk)
  obtain ⟨kst, -, -⟩ := State.port_taken_line (s := s) (p := p) (vc := vc) (l := l) (pk := pk) p
  rw [State.port_taken] at kst
  have hon : (s.taken p vc l pk).exerOn p = false := State.exerOn_of_dev (by rw [k.job rfl]; exact hdev) p
  have haddr := State.addressed_taken (s := s) (p := p) (vc := vc) (l := l) (pk := pk) pk
  have hroute := k.route rfl
  have hdet := k.det rfl
  unfold State.taken at hon haddr hroute hdet ⊢
  unfold packetReceive
  dsimp only
  rw [if_neg (by simp [PortSt.onWire, kst, hst]), if_neg (by simp [hhdr]), hform]
  dsimp only
  rw [if_neg (by simp [hon]), if_neg (by simpa using hvc), if_neg (by simp [kst, hst]),
    if_neg (by rw [hdet, hfence]; exact Bool.false_ne_true), haddr, kst, hroute] <;> rfl

theorem packetReceive_of_own (ha : s.addressed pk = true) : packetReceive p vc l s =
    (s.taken p vc l pk).receiveOwn p vc (byteAt l 0) pk :=
  (packetReceive_of_good hdev hst hhdr hform hvc hfence).trans (if_pos (by simp [ha]))

theorem packetReceive_of_other (ha : s.addressed pk = false) (hlink : isLinkLevel pk = false)
    (htunnel : ∀ t, pk = .trans t → t.op ≠ opOBJ_TUNNEL) : packetReceive p vc l s =
    if s.route.poolFree < pk.cellCount then s else (s.taken p vc l pk).forward (some p) vc pk := by
  refine (packetReceive_of_good hdev hst hhdr hform hvc hfence).trans ((if_neg (by simp [ha, hlink])).trans (if_neg ?_))
  cases pk with
  | block b => exact Bool.false_ne_true
  | trans t => simpa using htunnel t rfl

end

/-! ## Packets addressed to the device -/

theorem State.jobCheck_of_fits (h : isUntagged pk = true ∨ (s.job.dev = .run ∧ pk.jt = s.job.jt ∧ pk.epoch = s.job.epoch)) :
    s.jobCheck p pk = (true, s) := by
  by_cases htag : isUntagged pk = true
  · exact if_pos htag
  · obtain ⟨hrun, hjt, hepoch⟩ := h.resolve_left htag
    refine (if_neg htag).trans ((if_neg (by simp [hrun])).trans ((if_neg (by simp [hrun])).trans ((if_neg (by simp [hjt])).trans ?_)))
    by_cases hfence : fenceKindOf pk = 5
    · exact if_pos (by simp [hfence])
    · exact (if_neg (by simp [hfence])).trans ((if_neg (by simp [hrun])).trans ((if_neg (by simp [hepoch])).trans
        (if_neg (by simp [hepoch]))))

/-- What a packet needs to pass the form and payload checks at the device's own end point. -/
def payloadFits : Packet → Prop
  | .block b => b.hdr.valid = true ∧ b.hdr.poison = false ∧ b.payOk = true
  | .trans t => t.body = [] ∨ t.bodyOk = true

theorem State.payCheck_of_fits (h : payloadFits pk) : ∃ k : CheckState, s.payCheck p vc pk = (true, { s with chk := k }) := by
  cases pk with
  | block b =>
    obtain ⟨-, hpoison, hpay⟩ := h
    exact ⟨_, (if_neg (by simp [hpoison])).trans (if_pos hpay)⟩
  | trans t =>
    by_cases he : t.body = []
    · exact ⟨s.chk, if_pos (by simp [he])⟩
    · exact ⟨_, (if_neg (fun k => he (List.isEmpty_iff.mp k))).trans (if_pos (h.resolve_left he))⟩

theorem State.receiveOwn_of_fits {b0 : Byte} (hf : fenceKindOf pk = 0 ∨ fenceAllowed p (fenceKindOf pk) = true)
    (hv : fenceKindOf pk = 9 → (s.port p).version = 3)
    (hj : isUntagged pk = true ∨ (s.job.dev = .run ∧ pk.jt = s.job.jt ∧ pk.epoch = s.job.epoch)) (hp : payloadFits pk) :
    ∃ k : CheckState, s.receiveOwn p vc b0 pk = ({ s with chk := k } : State).deliver (some p) vc pk := by
  obtain ⟨k, hk⟩ := State.payCheck_of_fits (s := s) (p := p) (vc := vc) hp
  refine ⟨k, ?_⟩
  refine (if_neg (by rcases hf with h | h <;> simp [h])).trans ((if_neg (by simpa using hv)).trans ((if_neg ?valid).trans ?rest))
  case valid =>
    cases pk with
    | block b => simp [hp.1]
    | trans t => exact Bool.false_ne_true
  case rest =>
    rw [State.jobCheck_of_fits hj]
    dsimp only
    rw [if_neg (by decide), hk]
    rfl

end

/-! ## Packets for the switch -/

/-- The choice of a port reads the bank, the circuits and the state of the ports alone. -/
theorem State.choose_congr {s t : State} (hactive : t.route.active = s.route.active) (hcirc : t.route.circuits = s.route.circuits)
    (hst : ∀ p, (t.port p).st = (s.port p).st) (cn : U32) : t.choose cn = s.choose cn := by
  have huse (p : Port) : t.portUse p = s.portUse p := by
    unfold State.portUse State.circuitPrep
    rw [hcirc, hst]
  have hfield (f : BitVec 5) : t.fieldUse f = s.fieldUse f := by
    unfold State.fieldUse
    split
    · exact huse _
    · rfl
  unfold State.choose State.routeOf
  rw [hactive]
  simp only [hfield]

theorem State.substitute_congr {s t : State} (h : t.route.substActive = s.route.substActive) (cn : U32) :
    t.substitute cn = s.substitute cn := by
  unfold State.substitute
  rw [h]

/-- A packet takes its cells of the pool and its order of entry. -/
def State.inPool (n : Nat) (s : State) : State :=
  { s with route := { s.route with poolFree := s.route.poolFree - n, poolSeq := s.route.poolSeq + 1 } }

/-- The switch counts a packet that it sends on. -/
def State.forwardCounted (alt : Bool) (s : State) : State := { s with route := { s.route with
  forwarded := bump s.route.forwarded, altUses := if alt then bump s.route.altUses else s.route.altUses } }

theorem State.forward_of_send {s : State} {arr : Option Port} {vc : BitVec 3} {pk : Packet} {out : Port} {alt : Bool}
    (hroom : pk.cellCount ≤ s.route.poolFree) (hgo : s.choose (s.substitute pk.dst) = .send out alt) (hout : arr ≠ some out) :
    s.forward arr vc pk = ((s.inPool pk.cellCount).forwardCounted alt).queueOn out ⟨vc, pk, arr, some s.route.poolSeq⟩ := by
  have hchoose : (s.inPool pk.cellCount).choose ((s.inPool pk.cellCount).substitute pk.dst) = .send out alt := by
    rw [State.substitute_congr (s := s) (t := s.inPool _) rfl, State.choose_congr (s := s) (t := s.inPool _) rfl rfl fun _ => rfl, hgo]
  refine (if_neg (by omega : ¬ s.route.poolFree < pk.cellCount)).trans ?_
  refine (show State.switchPk _ (s.inPool pk.cellCount) = _ from ?_)
  simp only [State.switchPk, hchoose]
  exact if_neg hout

/-- Settles O42. A packet of good form leaves its port buffer for its unit, or for the pool and the port that the route chooses;
without room in the pool it stays (log 82). -/
theorem receivedPacketsReachTheirUnitOrTheSwitch : Obligations.ReceivedPacketsReachTheirUnitOrTheSwitch := by
  refine ⟨?own, ?switched, ?waits⟩
  case own =>
    intro s p vc l pk hdev hst hhdr hform hvc hfence haddr hkind hver hjob hpay
    have keep := State.taken_keep (s := s) (p := p) (vc := vc) (l := l) (pk := pk)
    obtain ⟨k, hk⟩ := State.receiveOwn_of_fits (s := s.taken p vc l pk) (vc := vc) (b0 := byteAt l 0) hkind
      (by rw [(State.port_taken_line p).2.1]; exact hver) (by rw [keep.job rfl]; exact hjob)
      (show payloadFits pk by cases pk <;> exact hpay)
    refine completes_of (congrArg Host.Outcome.next ((packetReceive_of_own hdev hst hhdr hform hvc hfence haddr).trans hk)) ?_
    refine ⟨?_, State.port_taken p, keep.mem rfl, keep.job rfl⟩
    simp only [State.deliver, keep.route rfl]
  case switched =>
    intro s p vc l pk out alt hdev hst hhdr hform hvc hfence haddr hlink htunnel hroom hgo hout
    have keep := State.taken_keep (s := s) (p := p) (vc := vc) (l := l) (pk := pk)
    have hline := State.port_taken_line (s := s) (p := p) (vc := vc) (l := l) (pk := pk)
    have hfwd := State.forward_of_send (s := s.taken p vc l pk) (arr := some p) (vc := vc) (pk := pk) (out := out) (alt := alt)
      (by rw [keep.route rfl]; exact hroom)
      (by rw [State.substitute_congr (s := s) (by rw [keep.route rfl]),
            State.choose_congr (s := s) (by rw [keep.route rfl]) (by rw [keep.route rfl]) fun q => (hline q).1, hgo])
      (by simpa using hout.symm)
    refine completes_of (congrArg Host.Outcome.next
      ((packetReceive_of_other hdev hst hhdr hform hvc hfence haddr hlink htunnel).trans ((if_neg (by omega)).trans hfwd))) ?_
    have hport (q : Port) (x : State) (y : Queued) : (x.queueOn out y).port q =
        (x.setPort out fun r => { r with queue := r.queue ++ [y] }).port q := State.port_congr (by simp [State.queueOn]) q
    rw [hport, hport, State.port_setPort_self, State.port_setPort_ne hout.symm]
    refine ⟨?_, ?_, ?_, State.port_taken p, by simpa [State.queueOn, State.forwardCounted, State.inPool] using keep.mem rfl⟩
    · simp [State.queueOn, State.forwardCounted, State.inPool, keep.route rfl]
    · simp [State.queueOn, State.forwardCounted, State.inPool, keep.route rfl]
    · exact congrArg₂ (· ++ ·) (hline out).2.2 (by rw [keep.route rfl])
  case waits =>
    intro s p vc l pk hdev hst hhdr hform hvc hfence haddr hlink htunnel hroom
    exact congrArg Host.Outcome.next ((packetReceive_of_other hdev hst hhdr hform hvc hfence haddr hlink htunnel).trans (if_pos hroom))

end Sys2Proof.Machine
end

section
/-! SUPPORT. Routing tables, the waiting pool and circuits (R264 to R281). -/
namespace Sys2Proof.Machine
open Sys2Proof Sys2Proof.Statements

/-! ## Tables -/

theorem wiringMapWrite_of_standby {l : List Byte} {s : State} (h : s.job.dev = .standby) : wiringMapWrite l s =
    (match s.parseWires 0 [] (chunksOf 17 32 l) with
    | .error off => s.refuseWires off
    | .ok ws => if ws.length < 16 then s.refuseWires (32 * ws.length)
      else ({ s with route := { s.route with wires := Vector.ofFn (fun i => ws.getD i.val {}) } }).refillBanks) :=
  (if_neg (by simp [h])).trans rfl

theorem wiringMapWrite_of_error {l : List Byte} {s : State} {off : Nat} (h : s.job.dev = .standby)
    (hl : s.parseWires 0 [] (chunksOf 17 32 l) = .error off) : wiringMapWrite l s = s.refuseWires off := by
  rw [wiringMapWrite_of_standby h, hl]

theorem wiringMapWrite_of_map {l : List Byte} {s : State} {ws : List WireEntry} (h : s.job.dev = .standby)
    (hl : s.parseWires 0 [] (chunksOf 17 32 l) = .ok ws) (hn : ws.length = 16) : wiringMapWrite l s =
    ({ s with route := { s.route with wires := Vector.ofFn (fun i => ws.getD i.val {}) } } : State).refillBanks := by
  rw [wiringMapWrite_of_standby h, hl]
  exact if_neg (by omega)

theorem shadowBankWrite_of_ok {l : List Byte} {s : State} {b : List RouteEntry}
    (h : s.parseBank 0 [] (chunksOf (bankCns + 1) 4 l) = .ok b) :
    shadowBankWrite l s = { s with route := { s.route with shadow := b } } := by
  simp only [shadowBankWrite, h]

theorem shadowBankWrite_of_error {l : List Byte} {s : State} {off : Nat}
    (h : s.parseBank 0 [] (chunksOf (bankCns + 1) 4 l) = .error off) :
    shadowBankWrite l s = ({ s with route := { s.route with routeErr := BitVec.ofNat 32 off } } : State).refuseBank := by
  simp only [shadowBankWrite, h]

theorem substitutionTableWrite_of_ok {l : List Byte} {s : State} {t : List (U32 × U32)}
    (h : s.parseSubst ((chunksOf (l.length / 16 + 1) 16 l).map substOf) 0 [] (chunksOf (l.length / 16 + 1) 16 l) = .ok t) :
    substitutionTableWrite l s = { s with route := { s.route with substShadow := t } } := by
  simp only [substitutionTableWrite, h]

theorem substitutionTableWrite_of_error {l : List Byte} {s : State} {off : Nat}
    (h : s.parseSubst ((chunksOf (l.length / 16 + 1) 16 l).map substOf) 0 [] (chunksOf (l.length / 16 + 1) 16 l) = .error off) :
    substitutionTableWrite l s = ({ s with route := { s.route with
      substRefusals := bump s.route.substRefusals, substErr := BitVec.ofNat 32 off } } : State).record (ev3 0x1080 unitSwitch []) := by
  simp only [substitutionTableWrite, h]

/-! ## The pool -/

theorem State.admitWaiting_of_none {s : State} (h : s.route.inWait = []) : s.admitWaiting = s := by
  unfold State.admitWaiting
  rw [h]
  show { s with route := { s.route with inWait := [] } } = s
  rw [← h]

theorem State.switchPk_inWait (x : PoolPk) (s : State) : (s.switchPk x).route.inWait = s.route.inWait := by
  unfold State.switchPk
  dsimp only
  split
  · split
    · split <;> simp [State.freePool]
    · simp [State.queueOn]
  · rfl
  · split <;> simp [State.freePool]

/-- Packets that no entry sends to the port go back to the pool in their order. -/
theorem State.lookAgain_of_none (p : Port) (s : State) (l : List PoolPk) (acc : List PoolPk)
    (h : ∀ x ∈ l, s.routesBy p x = false) : l.foldl (State.lookAgain p) { s with route := { s.route with pool := acc } } =
      { s with route := { s.route with pool := acc ++ l } } := by
  induction l generalizing acc with
  | nil => simp
  | cons x l ih =>
    have hx : State.routesBy { s with route := { s.route with pool := acc } } p x = false := h x (by simp)
    rw [List.foldl_cons, State.lookAgain, if_neg (by rw [hx]; exact Bool.false_ne_true)]
    rw [ih (acc ++ [x]) fun y hy => h y (by simp [hy])]
    simp

/-- The packet longest in the pool leaves it, its cells come free, and it is counted. -/
def State.expired (n : Nat) (out : Option Port) (cells : Nat) (s : State) : State :=
  let t := (s.dropPool n out).freePool cells
  { t with route := { t.route with expiries := bump s.route.expiries } }

theorem State.dropPool_frame (n : Nat) (out : Option Port) (s : State) : (s.dropPool n out).route =
    { s.route with pool := s.route.pool.filter (fun x => x.seq != n) } := by
  unfold State.dropPool
  cases out <;> rfl

/-- An expiry, whether it is recorded or only counted. -/
theorem transitExpired_of_oldest {s : State} {n : Nat} {out : Option Port} {cells : Nat} (h : s.oldest = some (n, out, cells))
    (hw : s.route.inWait = []) : (transitExpired s).links = (s.expired n out cells).links ∧
    ∃ l, (transitExpired s).route = { (s.expired n out cells).route with seenExpired := l } := by
  have hroute : ((s.dropPool n out).freePool cells).route = { s.route with
      pool := s.route.pool.filter (fun x => x.seq != n), poolFree := s.route.poolFree + cells } := by
    unfold State.freePool
    rw [State.dropPool_frame]
  have hgo : (((s.dropPool n out).freePool cells).admitWaiting) = (s.dropPool n out).freePool cells :=
    State.admitWaiting_of_none (by rw [hroute]; exact hw)
  have hexp : ((s.dropPool n out).freePool cells).route.expiries = s.route.expiries := by rw [hroute]
  simp only [transitExpired, h, hgo, State.expired, hexp]
  split
  · exact ⟨rfl, _, rfl⟩
  · exact ⟨by simp, _, by simp; rfl⟩

/-! ## Circuits -/

theorem State.circuit_setCircuit (n : Circ) (c : CircuitSt) (s : State) : (s.setCircuit n c).circuit n = c := by
  simp [State.setCircuit, State.circuit]

theorem State.port_setCircuit (n : Circ) (c : CircuitSt) (s : State) (p : Port) : (s.setCircuit n c).port p = s.port p := rfl

section
variable {s : State} {n : Circ} {l : List Byte} {go : CircuitSt → State → State}

theorem State.circuitWrite_of_repeated (h : l ∈ (s.circuit n).accepted) : s.circuitWrite n l go = s :=
  if_pos (by simpa using h)

theorem State.circuitWrite_of_bad {why : Nat} (h : l ∉ (s.circuit n).accepted) (hbad : s.circuitBad n l = some why) :
    s.circuitWrite n l go = s.refuseCircuit n (field32 l 0) why := by
  unfold State.circuitWrite
  dsimp only
  rw [if_neg (by simpa using h), hbad]

/-- The entry that a circuit write sets before its action. -/
def State.circuitEntry (s : State) (n : Circ) (l : List Byte) : CircuitSt :=
  { circuitOf l with
    raw := l, accepted := (if (circuitOf l).grant == (s.circuit n).grant then (s.circuit n).accepted else []) ++ [l]
    state := (s.circuit n).state, lastGrant := (s.circuit n).lastGrant }

theorem State.circuitWrite_of_ok (h : l ∉ (s.circuit n).accepted) (hok : s.circuitBad n l = none) :
    s.circuitWrite n l go = go (s.circuitEntry n l) s := by
  unfold State.circuitWrite
  dsimp only
  rw [if_neg (by simpa using h), hok]
  rfl

theorem circuitWrites_of_repeated (h : l ∈ (s.circuit n).accepted) :
    circuitPrepare n l s = s ∧ circuitSwitched n l s = s ∧ circuitRelease n l s = s := by
  unfold circuitPrepare circuitSwitched circuitRelease
  simp only [State.circuitWrite_of_repeated h, ite_self, and_self]

theorem State.beginDrain_frame : (s.beginDrain n).circuit n = s.circuit n ∧ (s.beginDrain n).tele = s.tele ∧
    ((s.beginDrain n).port (portOfCirc n)).queue = (s.port (portOfCirc n)).queue.filter (fun x => x.seq.isNone) :=
  ⟨rfl, rfl, congrArg PortSt.queue (State.port_setPort_self (portOfCirc n)
    (fun q => { q with queue := q.queue.filter (fun x => x.seq.isNone), trainStep := 0, identIn := none }) s)⟩

end

/-- Settles O43. The tables are taken or refused whole (log 44) and switched together; the times of the pool and of a drain are
events (log 10), and a circuit entry is refused for the first reason in order (log 21). -/
theorem routingTablesAreTakenWholeAndSwitchTogether : Obligations.RoutingTablesAreTakenWholeAndSwitchTogether := by
  refine ⟨?map, ?mapState, ?mapBad, ?bank, ?bankBad, ?swap, ?swapState, ?pending, ?now, ?subst, ?substBad, ?none_, ?one, ?expired,
    ?empty, ?prepare, ?prepareBad, ?repeated, ?switched, ?release, ?drained, ?released, ?left, ?timeout⟩
  case map =>
    intro s l ws hst hl hn
    refine completes_of (congrArg Host.Outcome.next (wiringMapWrite_of_map hst hl hn)) ⟨fun i => ?_, rfl, rfl, rfl⟩
    exact Vector.getElem_ofFn i.isLt
  case mapState => exact fun s l h => congrArg Host.Outcome.next (if_pos h)
  case mapBad =>
    intro s l off hst hl
    exact completes_of (congrArg Host.Outcome.next (wiringMapWrite_of_error hst hl)) ⟨by simp [State.refuseWires], Records.of rfl rfl rfl⟩
  case bank => exact fun s l b h => congrArg Host.Outcome.next (shadowBankWrite_of_ok h)
  case bankBad =>
    intro s l off h
    exact completes_of (congrArg Host.Outcome.next (shadowBankWrite_of_error h)) ⟨by simp [State.refuseBank], Records.of rfl rfl rfl⟩
  case swap =>
    intro s h
    refine completes_of (congrArg Host.Outcome.next (if_pos h)) ?_
    simp [State.swapBanks]
  case swapState =>
    intro s h
    exact completes_of (congrArg Host.Outcome.next (if_neg h)) (by simp [State.refuseBank])
  case pending =>
    intro s v hv hdev hepoch
    exact congrArg Host.Outcome.next ((if_neg (by simpa using hv)).trans (if_pos ⟨hdev, hepoch⟩))
  case now => exact fun s => rfl
  case subst => exact fun s l t h => congrArg Host.Outcome.next (substitutionTableWrite_of_ok h)
  case substBad =>
    intro s l off h
    exact completes_of (congrArg Host.Outcome.next (substitutionTableWrite_of_error h)) ⟨by simp, Records.of rfl rfl rfl⟩
  case none_ =>
    intro s p h hw
    refine congrArg Host.Outcome.next ?_
    unfold forwardAfterWait
    rw [State.lookAgain_of_none p s s.route.pool [] h]
    exact State.admitWaiting_of_none hw
  case one =>
    intro s p x hx hr hw
    refine congrArg Host.Outcome.next ?_
    unfold forwardAfterWait
    rw [hx, List.foldl_cons, List.foldl_nil, State.lookAgain, if_pos (by exact hr)]
    exact State.admitWaiting_of_none ((State.switchPk_inWait ..).trans hw)
  case expired =>
    intro s n out cells h hw
    obtain ⟨hlinks, l, hroute⟩ := transitExpired_of_oldest h hw
    refine completes_of rfl ?_
    rw [hroute]
    refine ⟨?_, ?_, ?_, ?_, fun p hp => ?_⟩
    · simp [State.expired, State.freePool, State.dropPool_frame]
    · simp [State.expired, State.freePool, State.dropPool_frame]
    · simp [State.expired]
    · simp [State.expired, State.freePool, State.dropPool_frame]
    · subst hp
      rw [State.port_congr hlinks]
      exact congrArg PortSt.queue (State.port_setPort_self p (fun q => { q with queue := q.queue.filter (fun x => x.seq != some n) })
        { s with route := { s.route with pool := s.route.pool.filter (fun x => x.seq != n) } })
  case empty =>
    intro s h
    refine congrArg Host.Outcome.next ?_
    simp only [transitExpired, h]
  case prepare =>
    intro s n l ha hl hok
    refine completes_of (congrArg Host.Outcome.next ((if_neg (by simp [ha])).trans (State.circuitWrite_of_ok hl hok))) ?_
    obtain ⟨hcirc, htele, hqueue⟩ := State.beginDrain_frame (n := n)
      (s := s.setCircuit n { s.circuitEntry n l with state := 3, lastGrant := (s.circuitEntry n l).grant, draining := true })
    rw [hcirc, State.circuit_setCircuit]
    exact ⟨rfl, rfl, rfl, hqueue, htele⟩
  case prepareBad =>
    intro s n l why ha hl hbad
    exact completes_of (congrArg Host.Outcome.next ((if_neg (by simp [ha])).trans (State.circuitWrite_of_bad hl hbad)))
      ⟨by simp [State.refuseCircuit], Records.of rfl rfl rfl⟩
  case repeated =>
    intro s n l h
    obtain ⟨hp, hs, hr⟩ := circuitWrites_of_repeated h
    exact ⟨congrArg Host.Outcome.next hp, congrArg Host.Outcome.next hs, congrArg Host.Outcome.next hr⟩
  case switched =>
    intro s n l ha hl hok
    refine completes_of (congrArg Host.Outcome.next ((if_neg (by simp [ha])).trans (State.circuitWrite_of_ok hl hok))) ?_
    refine ⟨congrArg CircuitSt.state (State.circuit_setCircuit n _ s), rfl, ?_, ?_, rfl⟩
    · exact (congrArg PortSt.st (State.port_setPort_self ..)).trans rfl
    · exact (congrArg PortSt.offerResume (State.port_setPort_self ..)).trans rfl
  case release =>
    intro s n l ha hl hok
    refine completes_of (congrArg Host.Outcome.next ((if_neg (by simp [ha])).trans (State.circuitWrite_of_ok hl hok))) ?_
    obtain ⟨hcirc, htele, -⟩ := State.beginDrain_frame (n := n)
      (s := s.setCircuit n { s.circuitEntry n l with lastGrant := (s.circuitEntry n l).grant, draining := true, releasing := true })
    rw [hcirc, State.circuit_setCircuit]
    exact ⟨rfl, rfl, rfl, htele⟩
  case drained =>
    intro s n hd hr hs ho
    exact congrArg Host.Outcome.next ((if_pos (by simp [hd, hs, ho])).trans (if_neg (by simp [hr])))
  case released =>
    intro s n hd hr hs ho
    refine completes_of (congrArg Host.Outcome.next ((if_pos (by simp [hd, hs, ho])).trans (if_pos hr))) ?_
    rw [State.port_record, State.port_setCircuit, State.port_setPort_self]
    have hcirc (e : Event) (x : State) : (x.record e).circuit n = x.circuit n := by simp [State.circuit]
    rw [hcirc, State.circuit_setCircuit]
    exact ⟨rfl, rfl, rfl, Records.of rfl rfl rfl⟩
  case left =>
    intro s n h
    exact congrArg Host.Outcome.next (if_neg (by simp [h]))
  case timeout =>
    intro s n hd hr
    refine completes_of (congrArg Host.Outcome.next ((if_pos hd).trans (if_neg (by simp [State.circuit] at hr ⊢; exact hr)))) ?_
    rw [State.circuit_setCircuit]
    exact ⟨by simp [State.circuit], by simp [State.setCircuit], Records.of rfl rfl rfl⟩

end Sys2Proof.Machine
end

section
/-! SUPPORT. Retirement, the health history and gambits (R408 to R423). -/
namespace Sys2Proof.Machine
open Sys2Proof Sys2Proof.Statements

/-! ## Unit summaries -/

theorem HealthState.sumOf_setSum (h : HealthState) (u : UnitSum) : (h.setSum u).sumOf u.unit = u := by
  have hmap (l : List UnitSum) (k : l.any (·.unit == u.unit) = true) :
      (l.map (fun v => if v.unit == u.unit then u else v)).find? (·.unit == u.unit) = some u := by
    induction l with
    | nil => simp at k
    | cons v l ih =>
      by_cases hv : v.unit = u.unit
      · simp [hv]
      · simp only [List.any_cons, beq_iff_eq, hv, Bool.or_eq_true, false_or] at k
        simp only [List.map_cons, beq_iff_eq, hv, if_false]
        rw [List.find?_cons_of_neg (by simpa using hv)]
        simpa using ih k
  have happ (l : List UnitSum) (k : l.any (·.unit == u.unit) = false) :
      (l ++ [u]).find? (·.unit == u.unit) = some u := by
    rw [List.find?_append, List.find?_eq_none.mpr (by simpa using k)]
    simp
  unfold HealthState.setSum HealthState.sumOf
  split
  case isTrue k => rw [hmap _ k]; rfl
  case isFalse k => rw [happ _ (by simpa using k)]; rfl

theorem HealthState.unit_sumOf (h : HealthState) (u : U16) : (h.sumOf u).unit = u := by
  unfold HealthState.sumOf
  cases hf : h.sums.find? (·.unit == u) with
  | none => rfl
  | some v => simpa using List.find?_some hf

theorem HealthState.setSum_frame (h : HealthState) (u : UnitSum) : (h.setSum u).gambit = h.gambit ∧ (h.setSum u).ring = h.ring ∧
    (h.setSum u).gErrors = h.gErrors ∧ (h.setSum u).charged = h.charged := by
  unfold HealthState.setSum
  split <;> exact ⟨rfl, rfl, rfl, rfl⟩

theorem HealthState.push_frame (h : HealthState) (r : HealthRec) : (h.push r).1.gambit = h.gambit ∧
    (h.push r).1.gErrors = h.gErrors ∧ (h.push r).1.charged = h.charged := by
  unfold HealthState.push
  split <;> exact ⟨rfl, rfl, rfl⟩

theorem HealthState.ageOut_frame (op : U64) (u : U16) (h : HealthState) : (h.ageOut op u).gambit = h.gambit ∧
    (h.ageOut op u).ring = h.ring ∧ (h.ageOut op u).gErrors = h.gErrors := by
  unfold HealthState.ageOut
  split
  · obtain ⟨hg, hr, he, -⟩ := HealthState.setSum_frame h { h.sumOf u with st := .clean, faults := 0, keepOut := [] }
    exact ⟨hg, hr, he⟩
  · exact ⟨rfl, rfl, rfl⟩

theorem State.isRetired_of_sum {s : State} {u : U16} (h : (s.health.sumOf u).st = .retired) : s.isRetired u.toNat = true := by
  unfold State.isRetired
  rw [show BitVec.ofNat 16 u.toNat = u by simp, h]
  rfl

theorem State.sumOf_setRetired (u : U16) (s : State) : ((s.setRetired u).health.sumOf u).st = .retired := by
  have h := HealthState.sumOf_setSum s.health { s.health.sumOf u with st := .retired }
  rw [show ({ s.health.sumOf u with st := .retired } : UnitSum).unit = u from HealthState.unit_sumOf ..] at h
  unfold State.setRetired
  rw [h]

/-! ## Charges -/

/-- A charge counts one fault and leaves the gambit. -/
theorem State.charge_health (c : Charge) (s : State) : (s.charge c).health.gambit = s.health.gambit ∧
    (s.charge c).health.gErrors = s.health.gErrors ∧ (s.charge c).health.charged = bump s.health.charged := by
  have hrec (b : Bool) (e : Event) (x : State) : (if b then x.record e else x).health = x.health := by
    cases b <;> simp
  have hpush := HealthState.push_frame s.health (s.chargeRec c)
  unfold State.charge
  dsimp only
  generalize s.health.push (s.chargeRec c) = hw at hpush ⊢
  obtain ⟨h, wrapped⟩ := hw
  obtain ⟨hg, he, hc⟩ := hpush
  dsimp only at hg he hc ⊢
  have hset (u : UnitSum) := HealthState.setSum_frame h u
  generalize (if (h.sumOf (s.chargeRec c).unit).st = .retired then UnitState.retired else
    h.classify (h.within s.time.opMs (s.chargeRec c).unit) ((s.chargeRec c).flags.getLsbD 0)) = st
  split
  case isFalse => simp [hrec, hset, hg, he, hc]
  case isTrue => split <;> simp [hrec, hset, hg, he, hc]

/-! ## Gambits -/

theorem State.health_of_keep {M : Nat} {s t : State} (h : Keep M s t) (k : M.testBit 17 = false) : t.health = s.health := h.health k

theorem State.unitOff_health (u : U16) (s : State) : (s.unitOff u).health = s.health :=
  (State.unitOff_keep (M := 0xC00C0) rfl u s (Keep.refl _ s)).health rfl

theorem State.unitOn_health (u : U16) (s : State) : (s.unitOn u).health = s.health :=
  (State.unitOn_keep (M := 0xC0) rfl u s (Keep.refl _ s)).health rfl

theorem State.setPct_health (i v : Nat) (s : State) : (s.setPct i v).health = s.health :=
  (State.setPct_keep (M := 0x200000) rfl i v s (Keep.refl _ s)).health rfl

theorem State.setTemp_health (i : Nat) (t : U16) (s : State) : (s.setTemp i t).health = s.health :=
  (State.setTemp_keep (M := 0x200000) rfl i t s (Keep.refl _ s)).health rfl

/-- A gambit that begins on a unit that is no agent. -/
theorem State.startGambit_health {q : GambitReq} (h : unitClass q.unit ≠ 0x0B) (seq : U32) (fired : Bool) (s : State) :
    ∃ g : Gambit, (s.startGambit q seq fired).health = { s.health with gambit := g, gRun := bump s.health.gRun } ∧
      g.phase = 1 ∧ g.state = 1 ∧ g.unit = q.unit ∧ g.volt = q.volt ∧ g.freq = q.freq ∧ g.duration = q.duration ∧
      g.pattern = q.pattern ∧ g.flags = q.flags := by
  have hagent : (unitClass q.unit == 0x0B) = false := by simpa using h
  unfold State.startGambit
  simp only [hagent, Bool.false_eq_true, if_false, State.updateCooling_frame, State.unitOff_health]
  exact ⟨_, rfl, rfl, rfl, rfl, rfl, rfl, rfl, rfl, rfl⟩

theorem State.endGambit_health (s : State) : s.endGambit.health =
    { s.health with gambit := { s.health.gambit with phase := 0 } } := by
  have hpct (b : Bool) (i v : Nat) (x : State) : (if b then x else x.setPct i v).health = x.health := by
    cases b
    · exact State.setPct_health ..
    · rfl
  have hon (b : Bool) (u : U16) (x : State) : (if b then x.unitOn u else x).health = x.health := by
    cases b
    · rfl
    · exact State.unitOn_health ..
  unfold State.endGambit
  simp only [State.updateCooling_frame, hon, State.setGambit, hpct]

/-- A gambit without errors. -/
theorem State.gambitResult_none (s : State) : (s.gambitResult 0).health.gambit = { s.health.gambit with errors := 0, state := 4 } ∧
    (s.gambitResult 0).health.ring = s.health.ring ∧ (s.gambitResult 0).health.gErrors = s.health.gErrors :=
  HealthState.ageOut_frame ..

/-- A gambit with errors. -/
theorem State.gambitResult_some {errors : U32} (h : errors ≠ 0) (s : State) :
    (s.gambitResult errors).health.gErrors = bump s.health.gErrors ∧
    (s.gambitResult errors).health.charged = bump s.health.charged := by
  have he : (errors == 0) = false := by simpa using h
  unfold State.gambitResult
  simp only [he, Bool.false_eq_true, if_false]
  obtain ⟨-, hg, hc⟩ := State.charge_health _ _
  exact ⟨hg.trans (by simp [State.setGambit]), hc.trans (by simp [State.setGambit])⟩

theorem gambitDurationEnd_of_phase3 {s : State} {errors : U32} (h : s.health.gambit.phase = 3)
    (k : unitClass s.health.gambit.unit ≠ 0x0B) : gambitDurationEnd errors s = s.finishGambit errors :=
  if_neg (by simp [h, k])

theorem State.finishGambit_health (errors : U32) (s : State) : (s.finishGambit errors).health =
    { (s.gambitResult errors).health with gambit := { (s.gambitResult errors).health.gambit with phase := 0 } } := by
  unfold State.finishGambit
  simp only [State.record_frame, State.endGambit_health]

theorem State.abortGambit_health (n : Nat) (s : State) : (s.abortGambit n).health.gambit.phase = 0 ∧
    (s.abortGambit n).health.gambit.state = 6 ∧ (s.abortGambit n).health.gAborted = bump s.health.gAborted := by
  unfold State.abortGambit
  simp [State.setGambit, State.endGambit_health]

/-- A clamp keeps a value within its limits. -/
theorem clampTo_within {lo hi : Int} (b : U8) (h1 : -128 ≤ lo) (h2 : lo ≤ hi) (h3 : hi ≤ 127) :
    lo ≤ (clampTo lo hi b).toInt ∧ (clampTo lo hi b).toInt ≤ hi := by
  unfold clampTo
  rw [BitVec.toInt_ofInt, Int.bmod_eq_of_le (by omega) (by omega)]
  omega

theorem gambitAction_of_formed {s : State} {l : List Byte} (hl : l.length = 16) (hf : (gambitReq l).formed = true) : gambitAction l s =
    (match s.gambitRefusal (gambitReq l).clamp with
    | some n =>
      let c := Config.causeCode (0x4200 * 256 + n)
      let s := s.setGambit (fun g => { g with state := 7, cause := c })
      ({ s with health := { s.health with gRefused := bump s.health.gRefused } }).record (ev3 0x4200 unitFault [c])
    | none =>
      let s := { s with health := { s.health with gLast := (gambitReq l).clamp.seq } }
      let s := if (gambitReq l).clamp == gambitReq l then s
        else ({ s with health := { s.health with gClamps := bump s.health.gClamps } }).record (ev3 0x4204 unitFault [])
      s.startGambit (gambitReq l).clamp (gambitReq l).clamp.seq false) :=
  (if_neg (by simp [hl, hf])).trans rfl

/-! ## The clear and the reports of agents -/

theorem State.clearRec_frame (s : State) (key : U16) (n : Nat) : (s.clearRec key n).1.seq = s.health.newest + 1 ∧
    (s.clearRec key n).1.path = 0 ∧ (s.clearRec key n).1.pattern = key ∧ (s.clearRec key n).1.step = BitVec.ofNat 32 n ∧
    (s.clearRec key n).2.health = s.health :=
  ⟨by simp [State.clearRec], rfl, rfl, rfl, by simp [State.clearRec]⟩

theorem clearHistory_health (key : U16) (s : State) : (clearHistory key s).health = { s.health with
    ring := [(s.clearRec key s.health.ring.length).1], newest := (s.clearRec key s.health.ring.length).1.seq
    sums := (s.health.sums.filter (fun u => decide (u.st = .retired))).map (fun u => { unit := u.unit, st := .retired })
    lap := 0 } := by
  obtain ⟨-, -, -, -, hh⟩ := State.clearRec_frame s key s.health.ring.length
  unfold clearHistory
  simp only [State.updateCooling_frame, State.record_frame, State.countBytes_frame, hh]

/-- A report is noted at its port, and the wait for it is over. -/
def State.reported (p : Port) (pk : Trans) (s : State) : State :=
  let t := (s.takePk (.trans pk)).setPort p fun q => { q with agentReports := bump q.agentReports }
  { t with pwr := { t.pwr with alertWait := t.pwr.alertWait.filter (· != p) } }

theorem agentReportReceive_of_quiet {p : Port} {pk : Trans} {s : State} (hsev : pk.a8 6 = 0) (hphase : s.health.gambit.phase = 0) :
    agentReportReceive p pk s = (s.reported p pk).record
      (ev3 0x1040 unitSwitch (le16 (pk.a16 4) ++ [pk.a8 6] ++ padTo 16 (pk.body.take 16))) := by
  have hreply : (s.reported p pk).gambitReply p pk = false := by
    have hh : (s.reported p pk).health = s.health := by simp [State.reported]
    simp [State.gambitReply, hh, hphase]
  unfold State.reported at hreply ⊢
  unfold agentReportReceive
  simp only [hreply, hsev]
  rfl

/-- Settles O44. A unit is retired by its class, a clear leaves one record, and a gambit is refused, clamped or started, and ends by
its phases (logs 9, 23, 45, 53). -/
theorem unitsRetireAndHistoryClears : Obligations.UnitsRetireAndHistoryClears := by
  refine ⟨?noUnit, ?port, ?deferred, ?clear, ?report, ?fabric, ?malformed, ?refused, ?started, ?clamps, ?stable, ?ramp, ?noRamp,
    ?passed, ?failed, ?abort, ?noAbort, ?noReply, ?retest⟩
  case noUnit => exact fun s u h => congrArg Host.Outcome.next (if_pos (by simp [h]))
  case port =>
    intro s u hu hc
    refine completes_of (congrArg Host.Outcome.next (if_neg (by simp [hu]))) ?_
    have heff : (s.setRetired u).retireEffect u = portDisable (portOfUnit u) (s.setRetired u) :=
      (if_neg (by simp [hc])).trans (if_pos hc)
    have hrec (x : State) : (if waitsStandby u then x.record (ev2 0x4103 unitFault []) else
        x.record (ev3 0x4103 unitFault [])).updateCooling.links = x.links ∧ (if waitsStandby u then x.record (ev2 0x4103 unitFault []) else
        x.record (ev3 0x4103 unitFault [])).updateCooling.health = x.health := by
      split <;> simp
    obtain ⟨hlinks, hhealth⟩ := hrec (portDisable (portOfUnit u) (s.setRetired u))
    rw [heff]
    refine ⟨?_, State.isRetired_of_sum ?_⟩
    · rw [State.port_congr hlinks]
      exact congrArg PortSt.st (State.port_setPort_self (portOfUnit u) (fun q => { q with st := .disabled, trainStep := 0, violQuar := false })
        (s.setRetired u))
    · rw [hhealth]
      exact State.sumOf_setRetired u s
  case deferred =>
    intro s u hu h1 h2 h7 hb
    refine completes_of (congrArg Host.Outcome.next (if_neg (by simp [hu]))) ?_
    have heff : (s.setRetired u).retireEffect u = { s.setRetired u with health := { (s.setRetired u).health with
        deferred := if (s.setRetired u).health.deferred.contains u then (s.setRetired u).health.deferred
          else (s.setRetired u).health.deferred ++ [u] } } :=
      (if_neg (by simp [h1, h2])).trans ((if_neg h7).trans (if_neg hb))
    have hrec (x : State) : (if waitsStandby u then x.record (ev2 0x4103 unitFault []) else
        x.record (ev3 0x4103 unitFault [])).updateCooling.links = x.links ∧ (if waitsStandby u then x.record (ev2 0x4103 unitFault []) else
        x.record (ev3 0x4103 unitFault [])).updateCooling.health = x.health ∧ (if waitsStandby u then x.record (ev2 0x4103 unitFault []) else
        x.record (ev3 0x4103 unitFault [])).updateCooling.upd = x.upd := by
      split <;> simp
    obtain ⟨hlinks, hhealth, hupd⟩ := hrec ((s.setRetired u).retireEffect u)
    refine ⟨?_, State.isRetired_of_sum ?_, ?_, ?_⟩
    · rw [hhealth, heff]
      dsimp only
      split
      case isTrue k => simpa using k
      case isFalse k => simp
    · rw [hhealth, heff]
      exact State.sumOf_setRetired u s
    · rw [hlinks, heff]
      rfl
    · rw [hupd, heff]
      rfl
  case clear =>
    intro s key
    refine completes_of rfl ?_
    obtain ⟨hseq, hpath, hpattern, hstep, -⟩ := State.clearRec_frame s key s.health.ring.length
    rw [clearHistory_health]
    exact ⟨_, rfl, hseq, hpath, hpattern, hstep, rfl, rfl⟩
  case report =>
    intro s p pk hp hsev hphase
    refine completes_of (congrArg Host.Outcome.next ((if_pos hp).trans (agentReportReceive_of_quiet hsev hphase))) ⟨?_, ?_, ?_, ?_⟩
    · rw [State.port_record]
      refine (State.port_setPort_self p (fun q => { q with agentReports := bump q.agentReports }) (s.takePk (.trans pk))).trans ?_
      rw [State.port_takePk]
    · simp [State.reported]
    · simp [State.reported]
    · exact Records.of (by simp [State.reported]) (by simp [State.reported]) (by simp [State.reported])
  case fabric => exact fun s p pk h => congrArg Host.Outcome.next (if_neg (by omega))
  case malformed =>
    intro s l h
    exact congrArg Host.Outcome.next (if_pos (by simpa using h))
  case refused =>
    intro s l n hl hf hn
    refine completes_of (congrArg Host.Outcome.next (gambitAction_of_formed hl hf)) ?_
    simp only [hn]
    simp [State.setGambit]
  case started =>
    intro s l q hl hf hq hn hu
    subst hq
    refine completes_of (congrArg Host.Outcome.next (gambitAction_of_formed hl hf)) ?_
    simp only [hn]
    obtain ⟨g, hg, hphase, hstate, hunit, hvolt, hfreq, hdur, -, -⟩ := State.startGambit_health hu (gambitReq l).clamp.seq false
      (if (gambitReq l).clamp == gambitReq l then { s with health := { s.health with gLast := (gambitReq l).clamp.seq } }
        else ({ s with health := { s.health with gLast := (gambitReq l).clamp.seq, gClamps := bump s.health.gClamps } } : State).record
          (ev3 0x4204 unitFault []))
    rw [hg]
    refine ⟨hphase, hstate, hunit, hvolt, hfreq, hdur, ?_, ?_⟩ <;> (dsimp only; split <;> simp)
  case clamps =>
    intro q
    have hvolt := clampTo_within (lo := -12) (hi := 8) q.volt (by omega) (by omega) (by omega)
    have hfreq := clampTo_within (lo := 0) (hi := 16) q.freq (by omega) (by omega) (by omega)
    have hin : q.clamp.inlet.toNat ≤ 10 := by
      simp only [GambitReq.clamp]
      split
      · decide
      · omega
    unfold GambitReq.clamp at hin ⊢
    dsimp only
    split
    · exact ⟨by decide, by decide, by decide, by decide, hin⟩
    · exact ⟨hvolt.1, hvolt.2, hfreq.1, hfreq.2, hin⟩
  case stable =>
    intro s temp hphase hinlet
    refine completes_of (congrArg Host.Outcome.next ((if_neg (by simp [hphase])).trans (if_neg (by simp [hinlet])))) ?_
    exact ⟨rfl, rfl⟩
  case ramp =>
    intro s hphase
    refine completes_of (congrArg Host.Outcome.next (if_neg (by simp [hphase]))) ⟨?_, ?_⟩
    · simp [State.setGambit, State.setPct_health]
    · exact (State.setPct_keep (M := 0x200000) rfl _ _ s (Keep.refl _ s)).tele rfl
  case noRamp => exact fun s h => congrArg Host.Outcome.next (if_pos (by simpa using h))
  case passed =>
    intro s hphase hu
    refine completes_of (congrArg Host.Outcome.next (gambitDurationEnd_of_phase3 hphase hu)) ?_
    obtain ⟨hg, hr, he⟩ := State.gambitResult_none s
    rw [State.finishGambit_health, hg]
    exact ⟨rfl, hr, he⟩
  case failed =>
    intro s errors hphase hu he
    refine completes_of (congrArg Host.Outcome.next (gambitDurationEnd_of_phase3 hphase hu)) ?_
    obtain ⟨hg, hc⟩ := State.gambitResult_some he s
    rw [State.finishGambit_health]
    exact ⟨rfl, hg, hc⟩
  case abort =>
    intro s c hphase hdue
    exact completes_of (congrArg Host.Outcome.next (if_neg (by simpa [hdue] using hphase))) (State.abortGambit_health ..)
  case noAbort => exact fun s c h => congrArg Host.Outcome.next (if_pos (by simp [h]))
  case noReply =>
    intro s hseq hphase hu
    exact completes_of (congrArg Host.Outcome.next ((if_neg (by simp [hseq])).trans (if_pos (by simp [hphase, hu]))))
      (State.abortGambit_health ..)
  case retest =>
    intro s u r hr hphase hbars hu
    have hgo : retestStart u s = State.startGambit (retestReq u r.2) s.health.gLast true
        { s with health := { s.health with retests := s.health.retests.erase r } } := by
      unfold retestStart
      rw [hr]
      refine if_neg ?_
      simp only [hphase, bne_self_eq_false, Bool.false_or, List.any_eq_true, not_exists, not_and, Bool.not_eq_true]
      exact fun b hb => hbars b hb
    refine completes_of (congrArg Host.Outcome.next hgo) ?_
    obtain ⟨g, hg, kphase, -, kunit, -, -, -, kpattern, kflags⟩ := State.startGambit_health (q := retestReq u r.2) hu s.health.gLast true
      { s with health := { s.health with retests := s.health.retests.erase r } }
    rw [hg]
    exact ⟨kphase, kunit, kpattern, kflags, rfl, rfl⟩

end Sys2Proof.Machine
end

section
/-! SUPPORT. Partners (R288 to R306): the rules about packets taken and about the replay log, and the commands by their rows. -/
namespace Sys2Proof.Machine
open Sys2Proof Sys2Proof.Statements

/-! ## Memory and the partner's state: only the slots of the replay log may be flagged (R312) -/

/-- The partner's state is as it was but for the slots of the replay log. -/
def SlotsOnly (s t : State) : Prop := ∃ l, t.part = { s.part with logSlots := l }

theorem SlotsOnly.of {s t : State} (h : t.part = s.part) : SlotsOnly s t := ⟨_, h⟩
theorem SlotsOnly.trans {s t u : State} (h : SlotsOnly s t) (k : SlotsOnly t u) : SlotsOnly s u := by
  obtain ⟨a, h⟩ := h
  obtain ⟨b, k⟩ := k
  exact ⟨b, by rw [k, h]⟩
theorem SlotsOnly.foldl {α : Type} {g : State → α → State} (k : ∀ x a, SlotsOnly x (g x a)) (l : List α) (s : State) :
    SlotsOnly s (l.foldl g s) := by
  induction l generalizing s with
  | nil => exact .of rfl
  | cons a l ih => exact (k s a).trans (ih _)

theorem State.poisonSlot_slotsOnly (r : Region) (off : Nat) (s : State) : SlotsOnly s (s.poisonSlot r off) := by
  unfold State.poisonSlot
  split
  · exact .of rfl
  · dsimp only
    split
    · split
      · exact .of rfl
      · exact ⟨_, by simp [State.setSlot]; rfl⟩
    · exact .of rfl

theorem State.markStored_slotsOnly (t : Tier) (r : Region) (off : Nat) (s : State) : SlotsOnly s (s.markStored t r off) :=
  .of ((State.markStored_keep (M := 0xC2248) rfl t r off s (Keep.refl _ s)).part rfl)

theorem State.foundBad_slotsOnly (t : Tier) (sec : Nat) (s : State) : SlotsOnly s (s.foundBad t sec) := by
  unfold State.foundBad
  extract_lets w src m page rg args s1 s2
  have h1 : SlotsOnly s s1 := .of ((State.record_keep (M := 0xC0000) rfl _ _ (Keep.refl _ _)).part rfl)
  have h2 : SlotsOnly s s2 := by
    unfold s2
    split
    · split
      · exact h1.trans (.of ((State.loseRecords_keep (M := 0xC0000) rfl _ _ _ (Keep.refl _ _)).part rfl))
      · exact h1
    · exact h1
  split
  · exact h2
  · split
    · split
      · exact h2.trans ((State.markStored_slotsOnly ..).trans (State.poisonSlot_slotsOnly ..))
      · exact h2.trans (State.markStored_slotsOnly ..)
    · exact h2.trans (.of ((State.listPoison_keep (M := 0xC0200) rfl _ _ _ (Keep.refl _ _)).part rfl))

theorem State.spare_slotsOnly (t : Tier) (page cause : Nat) (s : State) : SlotsOnly s (s.spare t page cause) := by
  unfold State.spare
  dsimp only
  split
  · exact .of rfl
  · split
    · split
      · exact .of rfl
      · exact .of ((State.record_keep (M := 0xC0000) rfl _ _ (Keep.refl _ _)).part rfl)
    · exact (SlotsOnly.foldl (fun x a => State.foundBad_slotsOnly t a x) (s.badOnPage t page) s).trans (.of (by simp))

theorem State.corrected_slotsOnly (t : Tier) (sec n : Nat) (s : State) : SlotsOnly s (s.corrected t sec n) := by
  unfold State.corrected
  extract_lets page pg m m1 m2 m3 s1
  have h1 : SlotsOnly s s1 := .of rfl
  split
  · exact h1.trans (State.spare_slotsOnly ..)
  · exact h1

theorem State.readSector_slotsOnly (t : Tier) (sec : Nat) (s : State) : SlotsOnly s (s.readSector t sec) := by
  unfold State.readSector
  extract_lets w
  split
  · split
    · exact (State.foundBad_slotsOnly ..).trans (State.spare_slotsOnly ..)
    · exact State.foundBad_slotsOnly ..
  · split
    · exact .of rfl
    · exact State.corrected_slotsOnly ..

theorem State.readRange_slotsOnly (t : Tier) (off n : Nat) (s : State) : SlotsOnly s (s.readRange t off n) :=
  SlotsOnly.foldl (fun x a => State.readSector_slotsOnly t a x) _ s

theorem State.writeMem_slotsOnly (t : Tier) (off : Nat) (l : List Byte) (s : State) : SlotsOnly s (s.writeMem t off l) := by
  have hread (b : Bool) (o : Nat) (x : State) : SlotsOnly x (if b then x.readRange t o 64 else x) := by
    cases b
    · exact .of rfl
    · exact State.readRange_slotsOnly ..
  unfold State.writeMem
  extract_lets n lo hi head tail headBad tailBad s1 s2 start stop kept m m1 gone s3
  exact (hread head lo s).trans ((hread tail hi s1).trans (show SlotsOnly s2 _ from .of (by simp [s3])))

theorem State.writeCarried_slotsOnly (t : Tier) (off : Nat) (b : Block) (s : State) : SlotsOnly s (s.writeCarried t off b) := by
  unfold State.writeCarried State.writeBytes
  split
  · exact .of rfl
  · exact SlotsOnly.trans (.of (by simp)) ((State.writeMem_slotsOnly ..).trans (State.writeMem_slotsOnly ..))

/-- A replay block that is taken is listed in the log. -/
theorem State.putG_logged (ix : Fin 4) (b : Block) (s : State) : (b.hdr.ts, b.hdr.step, b.hdr.blk) ∈ (s.putG ix b).part.loggedBlks := by
  have hk : (b.hdr.ts, b.hdr.step, b.hdr.blk) ∈ (if s.part.loggedBlks.contains (b.hdr.ts, b.hdr.step, b.hdr.blk) then s.part.loggedBlks
      else s.part.loggedBlks ++ [(b.hdr.ts, b.hdr.step, b.hdr.blk)]) := by
    split
    case isTrue h => simpa using h
    case isFalse h => simp
  unfold State.putG
  dsimp only
  split
  · exact hk
  · split
    · exact hk
    · next off _ _ t _ =>
      obtain ⟨l, hl⟩ := State.writeCarried_slotsOnly t off b { s with part := { s.part with
        loggedBlks := if s.part.loggedBlks.contains (b.hdr.ts, b.hdr.step, b.hdr.blk) then s.part.loggedBlks
          else s.part.loggedBlks ++ [(b.hdr.ts, b.hdr.step, b.hdr.blk)] } }
      rw [hl]
      exact hk

/-! ## What the partner's rows read is not of the internal ports -/

section
variable (q : Packet) (s : State)

theorem State.ownerIx_takePk (cn : U32) : (s.takePk q).ownerIx cn = s.ownerIx cn := by
  unfold State.takePk; split <;> rfl
theorem State.pairing_takePk (cn : U32) : (s.takePk q).pairing cn = s.pairing cn := by
  unfold State.takePk; split <;> rfl
theorem State.rolling_takePk (cn ts : U32) : (s.takePk q).rolling cn ts = s.rolling cn ts := by
  unfold State.takePk; split <;> rfl
theorem State.aboveFailed_takePk (step : U32) : (s.takePk q).aboveFailed step = s.aboveFailed step := by
  unfold State.takePk; split <;> rfl
theorem State.replicaOf_takePk (ts : U32) : (s.takePk q).replicaOf ts = s.replicaOf ts := by
  unfold State.takePk; split <;> rfl
theorem State.dropped_takePk (cn ts : U32) : (s.takePk q).dropped cn ts = s.dropped cn ts := by
  unfold State.takePk; split <;> rfl
theorem State.replicaWin_takePk (ts w step : U32) : (s.takePk q).replicaWin ts w step = s.replicaWin ts w step := by
  unfold State.takePk; split <;> rfl
theorem State.mirrorRegion_takePk (k : U8) (h : Header) : (s.takePk q).mirrorRegion k h = s.mirrorRegion k h := by
  unfold State.takePk; split <;> rfl
theorem State.maskOutside_takePk (h : Header) : (s.takePk q).maskOutside h = s.maskOutside h := by
  unfold State.takePk; split <;> rfl
theorem State.partOfSync_takePk (cn : U32) (h : Header) : (s.takePk q).partOfSync cn h = s.partOfSync cn h := by
  unfold State.takePk; split <;> rfl
theorem State.ownedPaired_takePk : (s.takePk q).ownedPaired = s.ownedPaired := by
  unfold State.takePk; split <;> rfl

end

/-! ## Refusals and acknowledgements -/

theorem State.refuseSource_frame (cn : U32) (s : State) : (s.refuseSource cn).part.refusals = bump s.part.refusals ∧
    cn ∈ (s.refuseSource cn).part.seenSrc ∧ (s.refuseSource cn).mem = s.mem ∧ (s.refuseSource cn).health = s.health := by
  unfold State.refuseSource
  dsimp only
  split
  case isTrue h => exact ⟨rfl, by simpa using h, rfl, rfl⟩
  case isFalse h => simp

/-! ## Configuration and pairing -/

section
variable {s : State} {l : List Byte}

theorem partnerConfigWrite_partner (hl : l.length = 4) (hv : partnerValueOk (field32 l 0) = true) (h : s.loadable = true) :
    partnerConfigWrite 2 l s = s.applyPartner (field32 l 0) := by
  simp [partnerConfigWrite, hl, hv, h]

theorem partnerConfigWrite_delay (hl : l.length = 8) : partnerConfigWrite 3 l s =
    if s.loadable then s.applyDelta (field64 l 0)
    else if s.job.dev == .run then { s with part := { s.part with heldDelta := some (field64 l 0) } } else s := by
  simp [partnerConfigWrite, hl]

theorem partnerConfigWrite_owners (hl : l.length = 64) (h : s.loadable = true) :
    partnerConfigWrite 4 l s = s.applyOwners ((chunksOf 4 16 l).map ownerEntryOf) := by
  simp [partnerConfigWrite, hl, h]

end

theorem pairReqReceive_of_unlisted {pk : Trans} {s : State} (h : s.ownerIx (cnOf pk.src) = none) : pairReqReceive pk s =
    (s.takePk (.trans pk)).sendTrans opDIGEST (cnOf pk.src) 0 [0, 0, 0, 0, 5] [] [] [] := by
  simp only [pairReqReceive, State.ownerIx_takePk, h]

theorem pairReqReceive_of_listed {pk : Trans} {s : State} {i : Fin 4} (h : s.ownerIx (cnOf pk.src) = some i) : pairReqReceive pk s =
    (s.takePk (.trans pk)).tagReplicas.sendTrans opDIGEST (cnOf pk.src) 0 [0, 0, 0, 0, 4] (le64 (s.takePk (.trans pk)).part.tags) [] [] := by
  simp only [pairReqReceive, State.ownerIx_takePk, h]

theorem State.pairOk_part (tags : U64) (s : State) : (s.pairOk tags).part = { s.part with
    partnerTags := tags, pair := if correlatedTags s.part.tags tags then .correlated else .paired
    asked := false, toSync := s.ownedPaired.map TensorEntry.ts } := by
  unfold State.pairOk
  dsimp only
  split <;> simp

theorem State.pairFailed_part (cause : Nat) (s : State) : (s.pairFailed cause).part.pair = .refused ∧
    (s.pairFailed cause).part.partner = s.part.partner ∧ (s.pairFailed cause).part.asked = false := by
  unfold State.pairFailed State.noteNoPartner
  dsimp only
  split <;> simp

theorem classChangeAction_of_refused {s : State} {l : List Byte} (hl : l.length = 12)
    (h : ∀ e, s.ownerOf (field32 l 0) = some e → s.changeRefused e (byteAt l 4) (field32 l 8) = true) :
    classChangeAction l s = s.refuseChange := by
  unfold classChangeAction
  dsimp only
  rw [if_neg (by simp [hl])]
  cases ho : s.ownerOf (field32 l 0) with
  | none => rfl
  | some e => exact if_pos (h e ho)

theorem classChangeAction_of_armed {s : State} {l : List Byte} {e : TensorEntry} (hl : l.length = 12)
    (ho : s.ownerOf (field32 l 0) = some e) (h : s.changeRefused e (byteAt l 4) (field32 l 8) = false) : classChangeAction l s =
    { s with part := { s.part with clsStatus := 1, changes := s.part.changes ++ [⟨field32 l 0, byteAt l 4, field32 l 8⟩] } } := by
  unfold classChangeAction
  dsimp only
  rw [if_neg (by simp [hl]), ho]
  exact if_neg (by simp [h])

/-! ## The rows of R301 -/

section
variable {s : State} {src ts step : U32} {ack : State → State}

theorem State.replayGate_of_failed (h : s.aboveFailed step = true) : s.replayGate src ts step ack = (none, s.refuseStep) := if_pos h

theorem State.replayGate_of_unlisted (h : s.aboveFailed step = false) (ho : s.ownerIx src = none) :
    s.replayGate src ts step ack = (none, s.refuseSource src) := by
  simp [State.replayGate, h, ho]

section
variable {ix : Fin 4} {e : TensorEntry} (hf : s.aboveFailed step = false) (ho : s.ownerIx src = some ix)
  (he : s.replicaOf ts = some e) (hr : e.replicaOwner ix = true) (hq : e.status ≠ .quarantined) (hd : s.dropped src ts = false)
include hf ho he hr hq hd

theorem State.replayGate_of_shard : s.replayGate src ts step ack =
    if step.toNat ≤ e.l.toNat then (none, ack { s with part := { s.part with duplicates := bump s.part.duplicates } })
    else (some (ix, e), s) := by
  simp [State.replayGate, hf, ho, he, hr, hq, hd]

end

end

section
variable {s : State} {b : Block} (hroll : s.rolling (cnOf b.hdr.src) b.hdr.ts = false)
include hroll

/-- A replay block that the gate deals with. -/
theorem replayGReceive_of_dealt {t : State} (h : (s.takePk (.block b)).replayGate (cnOf b.hdr.src) b.hdr.ts b.hdr.step
    (fun s => s.ackReplay b.hdr) = (none, t)) : replayGReceive b s = t := by
  unfold replayGReceive
  dsimp only
  rw [State.rolling_takePk, hroll, h]
  rfl

theorem replayGReceive_of_taken {ix : Fin 4} {e : TensorEntry} {u : State} (h : (s.takePk (.block b)).replayGate (cnOf b.hdr.src)
    b.hdr.ts b.hdr.step (fun s => s.ackReplay b.hdr) = (some (ix, e), s.takePk (.block b))) (hb : b.hdr.blk.toNat < e.gBlocks)
    (hu : (s.takePk (.block b)).openSlot ix b.hdr.step = some u) : replayGReceive b s =
    ((u.putG ix b).ackReplay b.hdr).tryReplicas ix b.hdr.ts b.hdr.step := by
  unfold replayGReceive
  dsimp only
  rw [State.rolling_takePk, hroll, h]
  dsimp only
  rw [if_neg (by decide), if_neg (by omega), hu]

end

section
variable {s : State} {pk : Trans} {ix : Fin 4} {e : TensorEntry}

section
variable {r : ReplicaWin} (hr : r = replicaOfRecord pk) (hroll : s.rolling r.src r.ts = false)
  (hgate : State.replayGate r.src r.ts r.step (fun s => s.ackRecord r.src r.step r.ts r.w) (s.takePk (.trans pk)) =
    (some (ix, e), s.takePk (.trans pk)))
include hr hroll hgate

theorem windowRecordReceive_of_settled {q : ReplicaWin} (hq : s.replicaWin r.ts r.w r.step = some q) (hs : q.settled = true) :
    windowRecordReceive pk s = (s.takePk (.trans pk)).ackRecord r.src r.step r.ts r.w := by
  subst hr
  unfold windowRecordReceive
  dsimp only
  rw [State.rolling_takePk, hroll, hgate]
  dsimp only
  rw [if_neg (by decide), State.replicaWin_takePk, hq]
  exact if_pos hs

theorem windowRecordReceive_of_new (hq : s.replicaWin r.ts r.w r.step = none) :
    windowRecordReceive pk s = (s.takePk (.trans pk)).newRecord ix r := by
  subst hr
  unfold windowRecordReceive
  dsimp only
  rw [State.rolling_takePk, hroll, hgate]
  dsimp only
  rw [if_neg (by decide), State.replicaWin_takePk, hq]

end

theorem State.newRecord_of_new {r : ReplicaWin} {u : State} (hu : s.openSlot ix r.step = some u)
    (hnew : ∀ l ∈ u.part.logRecs, ¬ (l.ts = r.ts ∧ l.step = r.step)) : s.newRecord ix r =
      (State.putRec ix { ts := r.ts, step := r.step, s0 := r.s0, s4 := r.s4, held := r.held }
        { u with part := { u.part with replicas := u.part.replicas ++ [r] } }).tryReplica ix r := by
  have hnone : u.part.logRecs.find? (fun l => l.ts == r.ts && l.step == r.step) = none := List.find?_eq_none.mpr (by simpa using hnew)
  simp only [State.newRecord, hu, hnone]

theorem skipRecordReceive_of_new {u : State} (hroll : s.rolling (cnOf pk.src) (pk.a32 0) = false)
    (hgate : State.replayGate (cnOf pk.src) (pk.a32 0) pk.step (fun s => s.ackRecord (cnOf pk.src) pk.step (pk.a32 0) allOnes32)
      (s.takePk (.trans pk)) = (some (ix, e), s.takePk (.trans pk)))
    (hu : (s.takePk (.trans pk)).openSlot ix pk.step = some u) (hskip : u.skipLogged (pk.a32 0) pk.step = false) :
    skipRecordReceive pk s = State.recheckDigest (pk.a32 0) pk.step
      ((State.putRec ix { ts := pk.a32 0, step := pk.step, skipped := true } u).ackRecord (cnOf pk.src) pk.step (pk.a32 0) allOnes32) := by
  unfold skipRecordReceive
  dsimp only
  rw [State.rolling_takePk, hroll, hgate]
  dsimp only
  rw [if_neg (by decide), hu]
  dsimp only
  rw [hskip]
  rfl

/-! ## SYNC and DROP -/

section
variable (hf : s.aboveFailed pk.step = false) (ho : s.ownerIx (cnOf pk.src) = some ix) (hno : s.replicaOf (pk.a32 0) = none)
include hf ho hno

theorem syncRecordReceive_of_mirrored : syncRecordReceive pk s =
    ((s.takePk (.trans pk)).applySync (cnOf pk.src) (pk.a32 0) pk.step (pk.a32 4) (pk.a32 8)).ackRecord (cnOf pk.src) pk.step
      (pk.a32 0) allOnes32 := by
  simp [syncRecordReceive, State.aboveFailed_takePk, State.ownerIx_takePk, State.foreignReplica, State.replicaOf_takePk, hf, ho, hno]

theorem dropRecordReceive_of_mirrored (hd : s.dropped (cnOf pk.src) (pk.a32 0) = false) (hw : ∀ r ∈ s.part.replicas, r.ts ≠ pk.a32 0) :
    dropRecordReceive pk s = ((s.takePk (.trans pk)).dropShard (cnOf pk.src) (pk.a32 0) pk.step).ackRecord (cnOf pk.src) pk.step
      (pk.a32 0) allOnes32 := by
  have hrep : (s.takePk (.trans pk)).part.replicas.any (fun r => r.ts == pk.a32 0 && r.repairing && !r.settled) = false := by
    rw [List.any_eq_false]
    intro r hr
    simp [hw r (by simpa using hr)]
  unfold dropRecordReceive
  dsimp only
  rw [State.aboveFailed_takePk, hf, if_neg (by decide), State.ownerIx_takePk, ho]
  dsimp only
  rw [State.foreignReplica, State.replicaOf_takePk, hno, State.dropped_takePk, hd, hrep]
  rfl

end

end

theorem State.applySync_of_mirrored {s : State} {src ts step t l : U32} (h : s.replicaOf ts = none) :
    ⟨src, ts, t, l⟩ ∈ (s.applySync src ts step t l).job.mirrors ∧
    (s.applySync src ts step t l).part.drops = s.part.drops.filter (fun d => !(d.1 == src && d.2.1 == ts)) := by
  unfold State.applySync
  dsimp only
  split
  · next e he => exact absurd ((show s.replicaOf ts = some e from he).symm.trans h) (by simp)
  · exact ⟨by simp, rfl⟩

/-! ## Mirrored blocks -/

section
variable {s : State} {b : Block} {r : Region} (hf : s.aboveFailed b.hdr.step = false)
  (hr : s.regionAt (offOf b.hdr.offset) = some r) (hk : r.kind ≠ 1)
include hf hr hk

theorem mirrorPReceive_of_partner : mirrorPReceive b s = s.partnerMirror b := by
  unfold mirrorPReceive
  rw [if_neg (by simp [hf]), hr]
  exact if_neg (by simpa using hk)

theorem mirrorPReceive_of_unlisted (ho : s.ownerIx (cnOf b.hdr.src) = none) :
    mirrorPReceive b s = (s.takePk (.block b)).refuseSource (cnOf b.hdr.src) :=
  (mirrorPReceive_of_partner hf hr hk).trans (if_pos (by rw [State.ownerIx_takePk, ho]; rfl))

section
variable {ix : Fin 4} (ho : s.ownerIx (cnOf b.hdr.src) = some ix) (hm : s.mirrorRegion 2 b.hdr = true) (hmask : s.maskOutside b.hdr = false)
include ho hm hmask

theorem mirrorPReceive_of_listed : mirrorPReceive b s =
    if ((s.replicaOf b.hdr.ts).any (·.status == .quarantined) || s.dropped (cnOf b.hdr.src) b.hdr.ts) &&
        !(s.partOfSync (cnOf b.hdr.src) b.hdr) then
      (s.takePk (.block b)).refuseQuiet.ackMirror b.hdr
    else (s.takePk (.block b)).acceptMirror b := by
  refine (mirrorPReceive_of_partner hf hr hk).trans ((if_neg (by rw [State.ownerIx_takePk, ho]; simp)).trans ((if_neg ?_).trans ?_))
  · rw [State.mirrorRegion_takePk, State.maskOutside_takePk, hm, hmask]
    decide
  · rw [State.replicaOf_takePk, State.dropped_takePk, State.partOfSync_takePk]

end

end

theorem State.acceptMirror_of_new {s : State} {b : Block} (hmask : State.isMask b.hdr = false) (hi : s.installing = false)
    (hrep : ∀ q ∈ s.part.replicas, q.repairing = false) : s.acceptMirror b =
    (((s.putMirror b).ackMirror b.hdr).foldTerm ⟨b.hdr.ts, b.hdr.step, true, 0, .w, BitVec.ofNat 32 (offOf b.hdr.offset / 4096),
      blockTerm b.hdr.blk.toNat b.pay⟩).recheckDigest b.hdr.ts b.hdr.step := by
  have hnone : s.part.replicas.find? (fun r => r.ts == b.hdr.ts && r.step == b.hdr.step && r.repairing &&
      r.repairLeft.any (fun a => a.toNat == offOf b.hdr.offset)) = none :=
    List.find?_eq_none.mpr fun q hq => by simp [hrep q hq]
  have hjob : ((s.putMirror b).ackMirror b.hdr).job = s.job :=
    (State.ackMirror_keep (M := 0x2E3E48) rfl b.hdr _ (State.putMirror_keep (M := 0x2E3E48) rfl b s (Keep.refl _ s))).job rfl
  have hi' : ((s.putMirror b).ackMirror b.hdr).installing = false := by
    unfold State.installing at hi ⊢
    rw [hjob]
    exact hi
  unfold State.acceptMirror
  dsimp only
  rw [if_neg (by simp [hmask]), hnone]
  exact if_neg (by simp [hi'])

/-- Settles O45. The rows of R288 to R306 in order. That a SYNC or DROP of a shard without a replica entry is taken, and how a block
is known as part of a synchronisation, are the model's choices (log 78); see also logs 10, 11, 44. -/
theorem partnersPairAndChangeClass : Obligations.PartnersPairAndChangeClass := by
  refine ⟨?delay, ?delayHeld, ?partner, ?owners, ?unlisted, ?listed, ?ack, ?ackOther, ?refuse, ?timeout, ?noTimeout, ?retry, ?noRetry,
    ?armed, ?changeRefused, ?gFailed, ?gUnlisted, ?gTaken, ?gDuplicate, ?settled, ?newWindow, ?skip, ?sync, ?drop, ?mFailed, ?mUnlisted,
    ?mTaken, ?mQuarantined⟩
  case delay => exact fun s l hl hs => congrArg Host.Outcome.next ((partnerConfigWrite_delay hl).trans (if_pos hs))
  case delayHeld =>
    intro s l hl hs hrun
    exact congrArg Host.Outcome.next ((partnerConfigWrite_delay hl).trans ((if_neg (by simp [hs])).trans (if_pos (by simp [hrun]))))
  case partner =>
    intro s l hl hs hv hn
    refine completes_of (congrArg Host.Outcome.next ((partnerConfigWrite_partner hl hv hs).trans
      (if_pos (congrArg not hn)))) ?_
    exact ⟨rfl, hn, rfl, rfl⟩
  case owners => exact fun s l hl hs => congrArg Host.Outcome.next (partnerConfigWrite_owners hl hs)
  case unlisted => exact fun s port pk h => congrArg Host.Outcome.next (pairReqReceive_of_unlisted h)
  case listed =>
    intro s port pk i h
    refine completes_of (congrArg Host.Outcome.next (pairReqReceive_of_listed h)) ?_
    simp [State.tagReplicas]
  case ack =>
    intro s port pk h
    refine completes_of (congrArg Host.Outcome.next (if_pos (by rw [State.pairing_takePk]; exact h))) ?_
    rw [State.pairOk_part, State.ownedPaired_takePk]
    simp
  case ackOther =>
    intro s port pk h
    exact congrArg Host.Outcome.next (if_neg (by rw [State.pairing_takePk, h]; exact Bool.false_ne_true))
  case refuse =>
    intro s port pk h
    refine completes_of (congrArg Host.Outcome.next (if_pos (by rw [State.pairing_takePk]; exact h))) ?_
    obtain ⟨hpair, hpartner, -⟩ := State.pairFailed_part 1 (s.takePk (.trans pk))
    exact ⟨hpair, hpartner.trans (by simp)⟩
  case timeout =>
    intro s hn ha
    exact completes_of (congrArg Host.Outcome.next (if_pos (by simp [hn, ha]))) (State.pairFailed_part 2 s)
  case noTimeout => exact fun s h => congrArg Host.Outcome.next (if_neg (by simp [h]))
  case retry => exact fun s hn hp => congrArg Host.Outcome.next (if_pos (by simp [hn, hp]))
  case noRetry => exact fun s h => congrArg Host.Outcome.next (if_neg (by simp [h]))
  case armed => exact fun s l e hl ho h => congrArg Host.Outcome.next (classChangeAction_of_armed hl ho h)
  case changeRefused =>
    intro s l hl h
    exact completes_of (congrArg Host.Outcome.next (classChangeAction_of_refused hl h)) ⟨by simp [State.refuseChange], Records.of rfl rfl rfl⟩
  case gFailed =>
    intro s port b hroll hf
    refine completes_of (congrArg Host.Outcome.next (replayGReceive_of_dealt hroll
      (State.replayGate_of_failed (by rw [State.aboveFailed_takePk]; exact hf)))) ?_
    simp [State.refuseStep]
  case gUnlisted =>
    intro s port b hroll hf ho
    refine completes_of (congrArg Host.Outcome.next (replayGReceive_of_dealt hroll
      (State.replayGate_of_unlisted (by rw [State.aboveFailed_takePk]; exact hf) (by rw [State.ownerIx_takePk]; exact ho)))) ?_
    obtain ⟨hn, hsrc, hmem, -⟩ := State.refuseSource_frame (cnOf b.hdr.src) (s.takePk (.block b))
    exact ⟨hn.trans (by simp), hsrc, hmem.trans (by simp)⟩
  case gTaken =>
    intro s port b ix e u hroll hf ho he hr hq hd hstep hblk hu
    have hgate := State.replayGate_of_shard (s := s.takePk (.block b)) (ack := fun s => s.ackReplay b.hdr)
      (by rw [State.aboveFailed_takePk]; exact hf) (by rw [State.ownerIx_takePk]; exact ho) (by rw [State.replicaOf_takePk]; exact he)
      hr hq (by rw [State.dropped_takePk]; exact hd)
    rw [if_neg (by omega)] at hgate
    exact ⟨congrArg Host.Outcome.next (replayGReceive_of_taken hroll hgate hblk hu), State.putG_logged ix b u⟩
  case gDuplicate =>
    intro s port b ix e hroll hf ho he hr hq hd hstep
    have hgate := State.replayGate_of_shard (s := s.takePk (.block b)) (ack := fun s => s.ackReplay b.hdr)
      (by rw [State.aboveFailed_takePk]; exact hf) (by rw [State.ownerIx_takePk]; exact ho) (by rw [State.replicaOf_takePk]; exact he)
      hr hq (by rw [State.dropped_takePk]; exact hd)
    rw [if_pos hstep] at hgate
    refine completes_of (congrArg Host.Outcome.next (replayGReceive_of_dealt hroll hgate)) ?_
    simp [State.ackReplay]
  case settled =>
    intro s port pk ix e q r hr hroll hgate hq hs
    exact congrArg Host.Outcome.next (windowRecordReceive_of_settled hr hroll hgate hq hs)
  case newWindow =>
    intro s port pk ix e u r hr hroll hgate hq hu hnew
    exact congrArg Host.Outcome.next ((windowRecordReceive_of_new hr hroll hgate hq).trans (State.newRecord_of_new hu hnew))
  case skip =>
    intro s port pk ix e u hroll hgate hu hskip
    exact congrArg Host.Outcome.next (skipRecordReceive_of_new hroll hgate hu hskip)
  case sync =>
    intro s port pk ix hf ho hno
    refine completes_of (congrArg Host.Outcome.next (syncRecordReceive_of_mirrored hf ho hno)) ?_
    obtain ⟨hm, hd⟩ := State.applySync_of_mirrored (s := s.takePk (.trans pk)) (src := cnOf pk.src) (step := pk.step) (t := pk.a32 4)
      (l := pk.a32 8) (by rw [State.replicaOf_takePk]; exact hno)
    simp only [State.ackRecord, State.sendAck_frame]
    exact ⟨hm, hd.trans (by simp)⟩
  case drop =>
    intro s port pk ix hf ho hno hw hd hlen
    refine completes_of (congrArg Host.Outcome.next (dropRecordReceive_of_mirrored hf ho hno hd hw)) ?_
    have hgo : (s.takePk (.trans pk)).dropShard (cnOf pk.src) (pk.a32 0) pk.step = { s.takePk (.trans pk) with part := { s.part with
        drops := s.part.drops ++ [(cnOf pk.src, pk.a32 0, pk.step)] } } := by
      refine (if_neg ?_).trans (by simp)
      rw [State.dropped_takePk, hd]
      simp
      omega
    rw [hgo]
    simp [State.ackRecord]
  case mFailed =>
    intro s port b hf hi
    refine completes_of (congrArg Host.Outcome.next (if_pos (by simp [hf, hi]))) ?_
    simp [State.refuseStep]
  case mUnlisted =>
    intro s port b r hf hi hr hk ho
    refine completes_of (congrArg Host.Outcome.next (mirrorPReceive_of_unlisted hf hr hk ho)) ?_
    obtain ⟨hn, -, hmem, -⟩ := State.refuseSource_frame (cnOf b.hdr.src) (s.takePk (.block b))
    exact ⟨hn.trans (by simp), hmem.trans (by simp)⟩
  case mTaken =>
    intro s port b r ix e hf hi hr hk ho hm hmask hno hrep he hq hd
    refine congrArg Host.Outcome.next ((mirrorPReceive_of_listed hf hr (by simp [hk]) ho hm hmask).trans ((if_neg ?_).trans ?_))
    · simp [he, hq, hd]
    · exact State.acceptMirror_of_new hno (by unfold State.installing at hi ⊢; simpa using hi) (by simpa using hrep)
  case mQuarantined =>
    intro s port b r ix e hf hi hr hk ho hm hmask he hq hsync
    exact congrArg Host.Outcome.next ((mirrorPReceive_of_listed hf hr (by simp [hk]) ho hm hmask).trans (if_pos (by simp [he, hq, hsync])))

end Sys2Proof.Machine
end

section
/-! SUPPORT. Retained items, verdicts and digests (R300 to R309). -/
namespace Sys2Proof.Machine
open Sys2Proof Sys2Proof.Statements

/-- An acknowledged replay block of which one item is retained leaves it. -/
theorem partnerBlockAckReceive_of_one {pk : Trans} {b : Block} {s : State} (hop : pk.a8 10 = opREPLAY_G) (hk : pk.a16 8 = 1)
    (hn : pk.aNat 8 2 = 1) (hm : b.hdr.mirror = false)
    (hitem : isReplayItem (pk.a32 0) pk.step (cnOf pk.src) (pk.a32 4) (.block b) = true) (hr : s.part.retained = [⟨.block b⟩]) :
    partnerBlockAckReceive pk s = { s.takePk (.trans pk) with part := { s.part with retained := [] } } := by
  have hacked : ackedItem pk 0 (.block b) = true := by
    unfold ackedItem
    rw [hop, hk, if_neg (by decide), if_pos (by decide), if_neg (by decide)]
    simpa using hitem
  have hpop : (s.takePk (.trans pk)).popRetained (ackedItem pk 0) =
      (some (.block b), { s.takePk (.trans pk) with part := { s.part with retained := [] } }) := by
    unfold State.popRetained
    rw [show (s.takePk (.trans pk)).part = s.part by simp, hr]
    simp [hacked]
  unfold partnerBlockAckReceive
  rw [hn]
  show State.itemAcked pk 0 (s.takePk (.trans pk)) = _
  unfold State.itemAcked
  dsimp only
  rw [hpop]
  exact if_neg (by simp [hm])

theorem partnerResend_of_item {n : Nat} {i : RetItem} {s : State} (h : s.part.retained[n]? = some i) :
    (partnerResend n s).part.resends = bump s.part.resends ∧ (partnerResend n s).part.retained = s.part.retained.set n ⟨s.resent i.pk⟩ := by
  unfold partnerResend
  rw [h]
  simp only [State.send_frame]
  cases s.resent i.pk with
  | trans t => exact ⟨rfl, rfl⟩
  | block b =>
    dsimp only
    split <;> exact ⟨rfl, rfl⟩

/-! ## Verdicts -/

section
variable {pk : Trans} {s : State} (hf : s.aboveFailed pk.step = false)
include hf

theorem verdictReceive_of_stranger (h : s.part.named = false ∨ cnOf pk.src ≠ s.part.partner) :
    verdictReceive pk s = (s.takePk (.trans pk)).refuseSource (cnOf pk.src) := by
  refine (if_neg (by rw [State.aboveFailed_takePk, hf]; exact Bool.false_ne_true)).trans (if_pos ?_)
  rcases h with h | h <;> simp [h]

omit hf in
theorem State.charge_part (c : Charge) : ((s.takePk (.trans pk)).charge c).part = s.part := by simp

theorem verdictReceive_of_ownerFault {e : TensorEntry} {i : RetItem} (hn : s.part.named = true) (hp : cnOf pk.src = s.part.partner)
    (he : s.ownerOf (pk.a32 0) = some e)
    (hi : s.part.retained.find? (fun i => isWindowRecord (pk.a32 0) (pk.a32 4) pk.step i.pk) = some i) (hc : pk.bNat 5 1 = 2) :
    ∃ c : Charge, verdictReceive pk s = { (s.takePk (.trans pk)).charge c with
      part := { s.part with repairFor := s.part.repairFor ++ [(pk.a32 0, pk.a32 4, pk.step)] } } := by
  have he' : (s.takePk (.trans pk)).ownerOf (pk.a32 0) = some e := by
    unfold State.ownerOf at he ⊢
    simpa using he
  have hpart : (s.takePk (.trans pk)).part = s.part := by simp
  unfold verdictReceive
  dsimp only
  rw [State.aboveFailed_takePk, hf, if_neg (by decide), if_neg (by simp [hn, hp]), he', hpart, hi]
  dsimp only
  rw [if_pos (by simp [hc]), State.charge_part]
  exact ⟨_, rfl⟩

end

/-! ## Digests -/

theorem State.recheckDigest_of_unequal {s : State} {ts step src : U32} {v : U64}
    (h : s.part.ownerDig.find? (fun o => o.2.1 == ts && o.2.2.1 == step) = some (src, ts, step, v))
    (hd : s.digestEqual ts step v = false) : s.recheckDigest ts step = s := by
  unfold State.recheckDigest
  rw [h]
  exact if_neg (by simp [hd])

/-- An owner's digest is kept with the step that it stands for. -/
def State.digestKept (pk : Trans) (s : State) : State := { s.takePk (.trans pk) with part := { s.part with
  ownerDig := s.part.ownerDig ++ [(cnOf pk.src, pk.a32 0, pk.step, pk.b)]
  ownerStep := s.part.ownerStep.filter (fun x => !(x.1 == cnOf pk.src && x.2.1 == pk.a32 0)) ++ [(cnOf pk.src, pk.a32 0, pk.step)] } }

theorem ownerDigestReceive_of_new {pk : Trans} {ix : Fin 4} {s : State} (hf : s.aboveFailed pk.step = false)
    (ho : s.ownerIx (cnOf pk.src) = some ix) (hd : s.digestEqual (pk.a32 0) pk.step pk.b = false)
    (hnew : ∀ o ∈ s.part.ownerDig, ¬ (o.2.1 = pk.a32 0 ∧ o.2.2.1 = pk.step)) : ownerDigestReceive pk s = s.digestKept pk := by
  have hpart : (s.takePk (.trans pk)).part = s.part := by simp
  have hrest : s.part.ownerDig.filter (fun o => !(o.1 == cnOf pk.src && o.2.1 == pk.a32 0 && o.2.2.1 == pk.step)) = s.part.ownerDig := by
    rw [List.filter_eq_self]
    intro o ho
    have := hnew o ho
    simp only [Bool.not_eq_true', Bool.and_eq_false_iff, beq_eq_false_iff_ne]
    tauto
  have hfind : (s.digestKept pk).part.ownerDig.find? (fun o => o.2.1 == pk.a32 0 && o.2.2.1 == pk.step) =
      some (cnOf pk.src, pk.a32 0, pk.step, pk.b) := by
    have hnone : s.part.ownerDig.find? (fun o => o.2.1 == pk.a32 0 && o.2.2.1 == pk.step) = none :=
      List.find?_eq_none.mpr (by simpa using hnew)
    unfold State.digestKept
    dsimp only
    rw [List.find?_append, hnone]
    simp
  have hequal : (s.digestKept pk).digestEqual (pk.a32 0) pk.step pk.b = false := by
    unfold State.digestEqual State.replicaOf at hd ⊢
    unfold State.digestKept
    simp only [State.takePk_frame]
    exact hd
  refine (if_neg (by rw [State.aboveFailed_takePk, hf]; exact Bool.false_ne_true)).trans
    ((if_neg (by rw [State.ownerIx_takePk, ho]; exact Bool.false_ne_true)).trans ?_)
  rw [hpart, hrest]
  exact State.recheckDigest_of_unequal hfind hequal

theorem replicaDigestReceive_of_step {pk : Trans} {e : TensorEntry} {s : State} (hf : s.aboveFailed pk.step = false)
    (hp : s.paired = true) (hsrc : cnOf pk.src = s.part.partner) (he : s.ownerOf (pk.a32 0) = some e) (hl : e.l = pk.step)
    (ha : s.part.ackedSteps.contains (pk.a32 0, pk.step) = false) (hc : e.pclass = 1 ∨ e.pclass = 2) : replicaDigestReceive pk s =
    if s.shardDigest (pk.a32 0) pk.step false == pk.b then
      { s.takePk (.trans pk) with part := { s.part with
        ackedSteps := s.part.ackedSteps ++ [(pk.a32 0, pk.step)], agreed := bump s.part.agreed } }
    else (s.takePk (.trans pk)).digestMismatch e pk.step pk.b := by
  have hpart : (s.takePk (.trans pk)).part = s.part := by simp
  have he' : (s.takePk (.trans pk)).ownerOf (pk.a32 0) = some e := by
    unfold State.ownerOf at he ⊢
    simpa using he
  have hd : (s.takePk (.trans pk)).shardDigest (pk.a32 0) pk.step false = s.shardDigest (pk.a32 0) pk.step false := by
    unfold State.shardDigest
    rw [hpart]
  have hp' : (s.takePk (.trans pk)).paired = true := by
    unfold State.paired at hp ⊢
    rw [hpart]
    exact hp
  refine (if_neg (by rw [State.aboveFailed_takePk, hf]; exact Bool.false_ne_true)).trans ((if_neg (by simp [hp', hsrc])).trans ?_)
  rw [he']
  dsimp only
  rw [hpart, ha, hd, if_neg (by rcases hc with hc | hc <;> simp [hl, hc])]

/-- Settles O46. Retained items leave with their acknowledgement, and verdicts and digests settle by R303, R308 and R309 (logs 10, 11). -/
theorem retainedItemsVerdictsAndDigestsSettle : Obligations.RetainedItemsVerdictsAndDigestsSettle := by
  refine ⟨?acked, ?noItem, ?resend, ?equal, ?noWindow, ?fault, ?stranger, ?kept, ?timeout, ?noDigest, ?agreed, ?mismatch⟩
  case acked =>
    intro s port pk b hop hk hn hm hitem hr
    exact completes_of (congrArg Host.Outcome.next (partnerBlockAckReceive_of_one hop hk hn hm hitem hr))
      ⟨rfl, Quiet.of (State.takePk_frame ..).2.2.2.2.2.2.2.2.2.2.2.2.2.2.2.2.2.1⟩
  case noItem =>
    intro s n h
    refine congrArg Host.Outcome.next ?_
    simp only [partnerResend, h]
  case resend => exact fun s n i h => completes_of rfl (partnerResend_of_item h)
  case equal =>
    intro s ts w p x e r u ws hp he hr hu hws hout hwin hd
    refine congrArg Host.Outcome.next ?_
    unfold replicaWindowSettle
    rw [hp]
    dsimp only
    rw [he, hr]
    dsimp only
    rw [← hu, ← hws]
    simp only [hout, hwin, Bool.or_self, Bool.false_eq_true, if_false]
    exact if_pos (by simp [hd])
  case noWindow =>
    intro s ts w h
    refine congrArg Host.Outcome.next ?_
    simp only [replicaWindowSettle, h]
  case fault =>
    intro s port pk e i hf hn hp he hi hc
    obtain ⟨c, hgo⟩ := verdictReceive_of_ownerFault hf hn hp he hi hc
    refine completes_of (congrArg Host.Outcome.next hgo) ⟨rfl, ?_⟩
    exact (State.charge_health c (s.takePk (.trans pk))).2.2.trans (by simp)
  case stranger =>
    intro s port pk hf h
    refine completes_of (congrArg Host.Outcome.next (verdictReceive_of_stranger hf h)) ?_
    obtain ⟨hn, -, -, hh⟩ := State.refuseSource_frame (cnOf pk.src) (s.takePk (.trans pk))
    exact ⟨hn.trans (by simp), hh.trans (by simp)⟩
  case kept =>
    intro s port pk ix hf ho hd hnew
    exact completes_of (congrArg Host.Outcome.next (ownerDigestReceive_of_new hf ho hd hnew)) ⟨rfl, by simp [Quiet, State.digestKept]⟩
  case timeout =>
    intro s ts src step v h
    refine congrArg Host.Outcome.next ?_
    simp only [digestTimeout, h]
    rfl
  case noDigest =>
    intro s ts h
    refine congrArg Host.Outcome.next ?_
    have hnone : s.part.ownerDig.find? (fun o => o.2.1 == ts) = none := List.find?_eq_none.mpr (by simpa using h)
    simp only [digestTimeout, hnone]
  case agreed =>
    intro s port pk e hf hp hsrc he hl ha hc hd
    exact completes_of (congrArg Host.Outcome.next ((replicaDigestReceive_of_step hf hp hsrc he hl ha hc).trans (if_pos (by simp [hd]))))
      ⟨rfl, by simp [Quiet]⟩
  case mismatch =>
    intro s port pk e hf hp hsrc he hl ha hc hd
    exact congrArg Host.Outcome.next ((replicaDigestReceive_of_step hf hp hsrc he hl ha hc).trans (if_neg (by simpa using hd)))

end Sys2Proof.Machine
end

section
/-! SUPPORT. Cuts and chunks (R315 to R332): the reads of stored blocks, the walk, and the coder's chunk. -/
namespace Sys2Proof.Machine
open Sys2Proof Sys2Proof.Statements

/-! ## What a read of a stored block may change of the update engine, the adjournment and the partner's state -/

/-- A relation of states that reads the update engine, the adjournment and the partner's state alone and holds of the three steps by
which a read of memory changes them: a page is waited for, its waits are over, a slot of the replay log is flagged. -/
structure ReadStable (R : State → State → Prop) : Prop where
  of : ∀ {s t : State}, t.upd = s.upd → t.adj = s.adj → t.part = s.part → R s t
  trans : ∀ {s t u}, R s t → R t u → R s u
  touchPage : ∀ off s, R s (s.touchPage off)
  touchDone : ∀ l s, R s (s.touchDone l)
  setSlot : ∀ l s, R s (s.setSlot l)

section
variable {R : State → State → Prop} (h : ReadStable R)
include h

theorem ReadStable.refl (s : State) : R s s := h.of rfl rfl rfl

theorem ReadStable.keep {M : Nat} {s t : State} (k : Keep M s t) (h6 : M.testBit 6 = false) (h13 : M.testBit 13 = false)
    (h12 : M.testBit 12 = false) : R s t := h.of (k.upd h6) (k.adj h13) (k.part h12)

theorem ReadStable.foldl {α : Type} {g : State → α → State} (k : ∀ x a, R x (g x a)) (l : List α) (s : State) : R s (l.foldl g s) := by
  induction l generalizing s with
  | nil => exact h.refl s
  | cons a l ih => exact h.trans (k s a) (ih _)

theorem ReadStable.deferMark (off : Nat) (p : Bool) (s : State) : R s (s.deferMark off p) := by
  unfold State.deferMark
  split
  · exact h.refl s
  · exact h.trans (h.of (t := { s with mem := { s.mem with marks := s.mem.marks ++ [⟨off, p⟩] } }) rfl rfl rfl) (h.touchPage off _)

theorem ReadStable.markBlock (t : Tier) (r : Region) (off : Nat) (s : State) : R s (s.markBlock t r off) :=
  h.keep (State.markBlock_keep (M := 0xC0208) rfl t r off s (Keep.refl _ s)) rfl rfl rfl

theorem ReadStable.markOther (t : Tier) (r : Region) (off : Nat) (s : State) : R s (s.markOther t r off) := by
  unfold State.markOther
  split
  · split
    · dsimp only
      split
      · exact h.refl s
      · split
        · exact h.deferMark ..
        · exact h.markBlock ..
    · exact h.refl s
  · exact h.refl s

theorem ReadStable.markStored (t : Tier) (r : Region) (off : Nat) (s : State) : R s (s.markStored t r off) := by
  unfold State.markStored
  split
  · exact h.deferMark ..
  · dsimp only
    split
    · exact h.trans (h.markBlock ..) (h.markOther ..)
    · exact h.markBlock ..

theorem ReadStable.settleMarks (off : Nat) (s : State) : R s (s.settleMarks off) := by
  have hdone : R s ((s.dropMarks off).touchDone [off]) := h.trans (t := s.dropMarks off) (h.of rfl rfl rfl) (h.touchDone ..)
  unfold State.settleMarks
  split
  · exact h.refl s
  · dsimp only
    split
    · exact h.trans hdone (h.markStored ..)
    · exact hdone

theorem ReadStable.poisonSlot (r : Region) (off : Nat) (s : State) : R s (s.poisonSlot r off) := by
  unfold State.poisonSlot
  split
  · exact h.refl s
  · dsimp only
    split
    · split
      · exact h.refl s
      · exact h.setSlot ..
    · exact h.refl s

theorem ReadStable.foundBad (t : Tier) (sec : Nat) (s : State) : R s (s.foundBad t sec) := by
  unfold State.foundBad
  extract_lets w src m page rg args s1 s2
  have h1 : R s s1 := h.of (by simp [s1]) (by simp [s1]) (by simp [s1])
  have h2 : R s s2 := by
    unfold s2
    split
    · split
      · exact h.trans h1 (h.keep (State.loseRecords_keep (M := 0xC0000) rfl _ _ _ (Keep.refl _ _)) rfl rfl rfl)
      · exact h1
    · exact h1
  split
  · exact h2
  · split
    · split
      · exact h.trans h2 (h.trans (h.markStored ..) (h.poisonSlot ..))
      · exact h.trans h2 (h.markStored ..)
    · exact h.trans h2 (h.keep (State.listPoison_keep (M := 0xC0200) rfl _ _ _ (Keep.refl _ _)) rfl rfl rfl)

theorem ReadStable.spare (t : Tier) (page cause : Nat) (s : State) : R s (s.spare t page cause) := by
  unfold State.spare
  dsimp only
  split
  · exact h.refl s
  · split
    · split
      · exact h.of rfl rfl rfl
      · exact h.of (by simp) (by simp) (by simp)
    · refine h.trans (h.foldl (fun x a => h.foundBad t a x) (s.badOnPage t page) s) (h.of ?_ ?_ ?_) <;> simp

theorem ReadStable.corrected (t : Tier) (sec n : Nat) (s : State) : R s (s.corrected t sec n) := by
  unfold State.corrected
  extract_lets page pg m m1 m2 m3 s1
  have h1 : R s s1 := h.of rfl rfl rfl
  split
  · exact h.trans h1 (h.spare ..)
  · exact h1

theorem ReadStable.readSector (t : Tier) (sec : Nat) (s : State) : R s (s.readSector t sec) := by
  unfold State.readSector
  extract_lets w
  split
  · split
    · exact h.trans (h.foundBad ..) (h.spare ..)
    · exact h.foundBad ..
  · split
    · exact h.refl s
    · exact h.corrected ..

theorem ReadStable.readRange (t : Tier) (off n : Nat) (s : State) : R s (s.readRange t off n) :=
  h.foldl (fun x a => h.readSector t a x) _ s

theorem ReadStable.checkStored (unit : Nat) (t : Tier) (r : Region) (off : Nat) (s : State) : R s (s.checkStored unit t r off).2 := by
  have hmark (b : Header) (v : State) (e6 : v.upd = s.upd) (e13 : v.adj = s.adj) (e12 : v.part = s.part) :
      R s ((v.markStored t r off).storedCheckEvent unit t r b) :=
    h.trans (h.of e6 e13 e12) (h.trans (h.markStored t r off v)
      (h.keep (State.storedCheckEvent_keep (M := 0xC0000) rfl unit t r b (v.markStored t r off) (Keep.refl _ _)) rfl rfl rfl))
  unfold State.checkStored
  dsimp only
  split
  · exact h.refl s
  · split
    · exact hmark _ _ rfl rfl rfl
    · split
      · exact h.of rfl rfl rfl
      · split
        · exact h.of (by simp) (by simp) (by simp)
        · split
          · exact h.of rfl rfl rfl
          · exact hmark _ _ rfl rfl rfl

theorem ReadStable.readBlock (unit : Nat) (t : Tier) (off : Nat) (s : State) : R s (s.readBlock unit t off).2 := by
  unfold State.readBlock
  split
  · exact h.refl s
  · extract_lets s1 lost b s2
    have h2 : R s s2 := h.trans (h.settleMarks off s) (h.trans (h.readRange t off 4096 s1)
      (h.trans (h.readRange t (Region.headerOf _ off) 64 (s1.readRange t off 4096))
        (h.keep (State.countBytes_keep (M := 0x40000) rfl _ _ _ (Keep.refl _ _)) rfl rfl rfl)))
    split
    · exact h2
    · exact h.trans h2 (h.checkStored ..)

end

/-- Reads change nothing of the adjournment but the waits for busy pages and their marks on the cuts. -/
def BusyOnly (s t : State) : Prop := ∃ a b q, t.adj = { s.adj with busyWaits := a, busyPages := b, queue := q }

theorem BusyOnly.of {s t : State} (h : t.adj = s.adj) : BusyOnly s t := ⟨_, _, _, h⟩
theorem BusyOnly.trans {s t u : State} (h : BusyOnly s t) (k : BusyOnly t u) : BusyOnly s u := by
  obtain ⟨a, b, c, h⟩ := h
  obtain ⟨d, e, f, k⟩ := k
  exact ⟨d, e, f, by rw [k, h]⟩

theorem BusyOnly.nextSeq {s t : State} : BusyOnly s t → t.adj.nextSeq = s.adj.nextSeq := fun ⟨_, _, _, h⟩ => by rw [h]

theorem State.noteBusy_busyOnly (s : State) : BusyOnly s s.noteBusy := by
  unfold State.noteBusy
  split
  · exact .of rfl
  · dsimp only
    exact ⟨_, _, _, eq_foldl_of_eq (fun x : State => x.adj) (fun x a => by simp) _ _⟩

theorem BusyOnly.readStable : ReadStable BusyOnly where
  of := fun _ h _ => .of h
  trans := .trans
  touchPage := fun off s => by
    unfold State.touchPage
    refine BusyOnly.trans (.of ?_) (State.noteBusy_busyOnly _)
    dsimp only
    split <;> rfl
  touchDone := fun l s => ⟨_, _, _, rfl⟩
  setSlot := fun l s => .of (by simp [State.setSlot])

theorem BusyOnly.foldl_snd {α β : Type} {g : β × State → α → β × State} (k : ∀ acc a, BusyOnly acc.2 (g acc a).2) (l : List α)
    (acc : β × State) : BusyOnly acc.2 (l.foldl g acc).2 := by
  induction l generalizing acc with
  | nil => exact .of rfl
  | cons a l ih => exact (k acc a).trans (ih _)

theorem State.masksOf_busyOnly (c : Cut) (s : State) : BusyOnly s (s.masksOf c).2 := by
  unfold State.masksOf
  dsimp only
  refine BusyOnly.foldl_snd (fun acc off => ?_) _ ([], s)
  split
  · exact .of rfl
  · exact BusyOnly.readStable.readBlock ..

/-! ## Periods -/

theorem adjournmentConfigWrite_k (v : U32) (s : State) (hv : v.toNat ≤ 10000) : adjournmentConfigWrite 1 v s =
    if !s.loadable || !(periodsOk v s.adj.m) then s.refuseAdj 1 v else { s with adj := { s.adj with k := v } } :=
  if_neg (Nat.not_lt.2 hv)

theorem adjournmentConfigWrite_m (v : U32) (s : State) (hv : v.toNat ≤ 1000000) : adjournmentConfigWrite 2 v s =
    if !s.loadable || !(periodsOk s.adj.k v) then s.refuseAdj 2 v else { s with adj := { s.adj with m := v } } :=
  if_neg (Nat.not_lt.2 hv)

/-! ## The copy of a cut -/

/-- With no writer waiting for a page, no wait for a busy page is counted. -/
theorem State.noteBusy_of_noWait (s : State) (h : s.upd.touchWait = []) : s.noteBusy = s := by
  unfold State.noteBusy
  split
  · rfl
  · simp [h, bumpBy_zero]

theorem any_notArmed_iff (l : List Cut) : l.any (fun c => c.phase != .armed) = false ↔ ∀ c ∈ l, c.phase = .armed := by simp

/-- What the beginning of COPY makes of the adjournment's state. -/
def copyBegun (c : Cut) (rest : List Cut) (a : AdjState) : AdjState :=
  { a with queue := { c with phase := .copy, seq := a.nextSeq } :: rest, nextSeq := a.nextSeq + 1 }

theorem copyStart_of_sealed (c : Cut) (rest : List Cut) (s : State) (hq : s.adj.queue = c :: rest)
    (harmed : ∀ d ∈ s.adj.queue, d.phase = .armed) (hsealed : c.sealedMove = true) (hf : c.forced = false)
    (hw : s.upd.touchWait = []) : copyStart s = ({ s with adj := copyBegun c rest s.adj } : State).pauseDevice := by
  rw [copyStart, if_neg (by simp [(any_notArmed_iff _).2 harmed]), hq]
  simp only [hsealed, hf, Bool.not_true, Bool.false_eq_true, if_false]
  exact congrArg State.pauseDevice (State.noteBusy_of_noWait _ hw)

theorem copyStart_of_unsealed (c : Cut) (rest : List Cut) (s : State) (hq : s.adj.queue = c :: rest)
    (hsealed : c.sealedMove = false) : copyStart s = s := by
  unfold copyStart
  split
  · rfl
  · rw [hq]
    exact if_pos (by rw [hsealed]; rfl)

theorem copyStart_of_busy (c : Cut) (s : State) (hc : c ∈ s.adj.queue) (hp : c.phase ≠ .armed) : copyStart s = s :=
  if_pos (List.any_eq_true.2 ⟨c, hc, by simpa using hp⟩)

theorem pageCopyAhead_of_waited (a : U64) (s : State) (h : BitVec.ofNat 64 (offOf a) ∈ s.upd.touchWait) :
    pageCopyAhead a s = s.copyPage (offOf a) := if_pos (List.contains_iff_mem.2 h)

theorem pageCopyAhead_of_unwaited (a : U64) (s : State) (h : BitVec.ofNat 64 (offOf a) ∉ s.upd.touchWait) : pageCopyAhead a s = s :=
  if_neg (mt List.contains_iff_mem.1 h)

/-- A cut in COPY goes on to CODE with the masks. -/
def Cut.toCode (ms : List (Nat × Block)) (d : Cut) : Cut := if d.phase = .copy then { d with phase := .code, masks := ms } else d

theorem copyEnd_of_copied (c : Cut) (rest : List Cut) (s : State) (hq : s.adj.queue = c :: rest) (hp : c.phase = .copy)
    (hall : ∀ p ∈ c.pages, p.copied = true) : copyEnd s = State.resumeDevice { (s.masksOf c).2 with
      adj := { (s.masksOf c).2.adj with queue := (s.masksOf c).2.adj.queue.map (Cut.toCode (s.masksOf c).1) } } := by
  have hfind : s.adj.queue.find? (fun c => c.phase == .copy) = some c := by rw [hq]; simp [hp]
  have hnone : c.pages.filter (fun p => !p.copied) = [] := List.filter_eq_nil_iff.2 fun p hp => by simp [hall p hp]
  rw [copyEnd, hfind]
  dsimp only
  rw [hnone, List.mergeSort_nil]
  rfl

theorem State.masksOf_of_noMask (c : Cut) (s : State) (h : ∀ e ∈ s.owned, e.has .k = false) : s.masksOf c = ([], s) := by
  have hnone : s.owned.filter (fun e => e.has .k && s.codesMasks c e) = [] :=
    List.filter_eq_nil_iff.2 fun e he => by simp [h e he]
  rw [State.masksOf, hnone]
  rfl

theorem copyEnd_of_noCopy (s : State) (h : ∀ c ∈ s.adj.queue, c.phase ≠ .copy) : copyEnd s = s := by
  rw [copyEnd, List.find?_eq_none.2 fun c hc => by simpa using h c hc]

/-! ## The chunks of a point -/

theorem State.withKept_of_none (f : State → State) (s : State) (h : s.adj.kept = none) : s.withKept f = f s := by
  rw [State.withKept, h]

theorem State.startChunk_of_noCode (s : State) (h : ∀ c ∈ s.adj.queue, c.phase ≠ .code) : s.startChunk = s := by
  rw [State.startChunk, List.find?_eq_none.2 fun c hc => by simpa using h c hc]

/-- No chunk starts while one is under way or a reservoir is not charged (R511). -/
theorem State.startChunk_of_waiting (s : State) (h : (s.adj.chunkBusy.isSome || !s.pwr.bothCharged) = true) : s.startChunk = s := by
  unfold State.startChunk
  split
  · rfl
  · exact if_pos h

/-- A chunk under way, with its cost and the reservation that was granted. -/
def chunkUnderWay (l : List Byte) (mark : Cut → Cut) (p : PwrState) (u : State) : State :=
  { u with pwr := p, adj := { u.adj with
    queue := u.adj.queue.map mark, chunkBusy := some l, chunkCost := BitVec.ofNat 32 (chunkCost l.length) } }

section
variable (s : State) (c : Cut) (acc : ChunkAcc) (u : State) (hfind : s.adj.queue.find? (fun c => c.phase == .code) = some c)
  (hbusy : s.adj.chunkBusy = none) (hch : s.pwr.bothCharged = true) (hnext : s.nextChunk c = (acc, u))
include hfind hbusy hch hnext

theorem State.startChunk_of_granted (v : State) (hfit : (chunkBytes s.job.jt c acc.bytes).length ≤ s.adj.free.toNat)
    (hres : s.reserve (chunkCost (chunkBytes s.job.jt c acc.bytes).length) = (true, v)) :
    ∃ mark, s.startChunk = chunkUnderWay (chunkBytes s.job.jt c acc.bytes) mark v.pwr u := by
  have hgo : ¬(s.adj.chunkBusy.isSome || !s.pwr.bothCharged) = true := by simp [hbusy, hch]
  rw [State.startChunk, hfind]
  dsimp only
  rw [if_neg hgo, hnext]
  dsimp only
  rw [if_neg (Nat.not_lt.2 hfit), hres]
  exact ⟨_, rfl⟩

theorem State.startChunk_of_tooLong (hlong : s.adj.free.toNat < (chunkBytes s.job.jt c acc.bytes).length) :
    s.startChunk = u.abandonPoint c := by
  have hgo : ¬(s.adj.chunkBusy.isSome || !s.pwr.bothCharged) = true := by simp [hbusy, hch]
  rw [State.startChunk, hfind]
  dsimp only
  rw [if_neg hgo, hnext]
  exact if_pos hlong

end

/-- A programmed chunk in the list: the pointer moves on by its length. -/
def chunkListed (c : Cut) (l : List Byte) (put : Cut → Cut) (a : AdjState) : AdjState :=
  { a with
    chunkBusy := none, chunkCost := 0, queue := a.queue.map put
    chunks := a.chunks ++ [{ addr := a.ptrAddr, seq := c.seq, num := BitVec.ofNat 32 c.chunks, bytes := l }]
    ptrSeq := c.seq, ptrChunks := BitVec.ofNat 32 (c.chunks + 1), ptrAddr := a.ptrAddr + BitVec.ofNat 64 l.length
    free := a.free - BitVec.ofNat 64 l.length }

theorem State.endChunk_of_more (s : State) (c : Cut) (l : List Byte) (hbusy : s.adj.chunkBusy = some l)
    (hfind : s.adj.queue.find? (fun c => c.phase == .code) = some c) (hmore : c.busyCoded < (s.codeItems c).length) :
    ∃ put, (State.endChunk true s).adj = chunkListed c l put s.adj := by
  rw [State.endChunk, hbusy, hfind]
  dsimp only
  rw [if_neg (by simp), if_neg (Nat.not_le.2 hmore)]
  simp only [State.countBytes_frame, State.release_frame]
  exact ⟨_, rfl⟩

theorem State.endChunk_of_failed (s : State) (c : Cut) (l : List Byte) (hbusy : s.adj.chunkBusy = some l)
    (hfind : s.adj.queue.find? (fun c => c.phase == .code) = some c) : State.endChunk false s = s.programFail l := by
  rw [State.endChunk, hbusy, hfind]
  rfl

theorem State.programFail_frame (l : List Byte) (s : State) : (s.programFail l).adj = { s.adj with
      blocksRetired := bump s.adj.blocksRetired, reprogrammed := bump s.adj.reprogrammed
      ptrAddr := s.adj.ptrAddr + BitVec.ofNat 64 l.length } ∧
    (s.programFail l).health.charged = bump s.health.charged := by
  unfold State.programFail
  dsimp only
  refine ⟨by simp, ?_⟩
  rw [(State.charge_health _ _).2.2]
  simp

/-- A committed FORCED point joins the list of the points. -/
theorem State.commitPoint_of_forced (s : State) (c : Cut) (hlen : s.adj.points.length < 4096) (hd : s.adj.drain = none)
    (hk : c.kind = .forced) : ∃ p, (s.commitPoint c).adj.points = s.adj.points ++ [p] ∧
      (p.kind = c.kind ∧ p.seq = c.seq ∧ p.step = c.step ∧ p.jt = s.job.jt ∧ p.len = BitVec.ofNat 64 c.length ∧ p.inTierS = false) ∧
      (s.commitPoint c).adj.pointsCommitted = bump s.adj.pointsCommitted := by
  have hroom : s.adj.points.length + 1 - 4096 = 0 := by omega
  refine ⟨{ kind := c.kind, jt := s.job.jt, seq := c.seq, step := c.step, addr := c.addr, len := BitVec.ofNat 64 c.length
            fullSeq := s.fullOf c, inTierS := false, anchors := s.vectorOf c.step, counters := c.counters },
    ?_, ⟨rfl, rfl, rfl, rfl, rfl, rfl⟩, ?_⟩ <;>
    simp [State.commitPoint, hk, hroom, hd, State.freeEarlier, State.drainCheck]

/-- Settles O47. With every page copied the cut takes the masks as they stand when CODE begins (log 81), read by `masksOf`, which
changes nothing of the adjournment but the waits for busy pages; logs 10 and 58 say which commands name a cut or a chunk. -/
theorem cutsAreCopiedInOrder : Obligations.CutsAreCopiedInOrder := by
  unfold Obligations.CutsAreCopiedInOrder
  refine ⟨?setK, ?setM, ?refused, ?copy, ?unsealed, ?busy, ?ahead, ?noWriter, ?copied, ?noMask, ?noCopy, ?noCode, ?underWay, ?uncharged,
    ?granted, ?tooLong, ?programmed, ?failed, ?committed⟩
  case setK =>
    intro s v hv hl hp
    exact congrArg Host.Outcome.next ((adjournmentConfigWrite_k v s hv).trans (if_neg (by simp [hl, hp])))
  case setM =>
    intro s v hv hl hp
    exact congrArg Host.Outcome.next ((adjournmentConfigWrite_m v s hv).trans (if_neg (by simp [hl, hp])))
  case refused =>
    intro s v hv hbad
    have h : adjournmentConfigWrite 1 v s = s.refuseAdj 1 v :=
      (adjournmentConfigWrite_k v s hv).trans (if_pos (by rcases hbad with h | h <;> simp [h]))
    refine completes_of (congrArg Host.Outcome.next h) ?_
    exact ⟨by simp [State.refuseAdj], Records.of rfl rfl rfl⟩
  case copy =>
    intro s c rest hq harmed hsealed hf hw
    refine completes_of (congrArg Host.Outcome.next (copyStart_of_sealed c rest s hq harmed hsealed hf hw)) ?_
    have k := State.pauseDevice_keep (M := 0x4000) rfl ({ s with adj := copyBegun c rest s.adj }) (Keep.refl _ _)
    exact ⟨k.adj rfl, k.tele rfl⟩
  case unsealed =>
    intro s c rest hq hsealed
    exact congrArg Host.Outcome.next (copyStart_of_unsealed c rest s hq hsealed)
  case busy =>
    intro s c hc hp
    exact congrArg Host.Outcome.next (copyStart_of_busy c s hc hp)
  case ahead =>
    intro s a h
    exact congrArg Host.Outcome.next (pageCopyAhead_of_waited a s h)
  case noWriter =>
    intro s a h
    exact congrArg Host.Outcome.next (pageCopyAhead_of_unwaited a s h)
  case copied =>
    intro s c rest hq hp hall
    refine completes_of (congrArg Host.Outcome.next (copyEnd_of_copied c rest s hq hp hall)) ?_
    have k := State.resumeDevice_keep (M := 0xC4C00) rfl ({ (s.masksOf c).2 with
      adj := { (s.masksOf c).2.adj with queue := (s.masksOf c).2.adj.queue.map (Cut.toCode (s.masksOf c).1) } }) (Keep.refl _ _)
    exact ⟨congrArg AdjState.queue (k.adj rfl),
      (congrArg AdjState.nextSeq (k.adj rfl)).trans (State.masksOf_busyOnly c s).nextSeq, k.mem rfl⟩
  case noMask =>
    intro s c h
    exact State.masksOf_of_noMask c s h
  case noCopy =>
    intro s h
    exact congrArg Host.Outcome.next (copyEnd_of_noCopy s h)
  case noCode =>
    intro s hkept h
    exact congrArg Host.Outcome.next ((State.withKept_of_none _ s hkept).trans (State.startChunk_of_noCode s h))
  case underWay =>
    intro s hkept h
    exact congrArg Host.Outcome.next ((State.withKept_of_none _ s hkept).trans (State.startChunk_of_waiting s (by simp [h])))
  case uncharged =>
    intro s hkept h
    exact congrArg Host.Outcome.next ((State.withKept_of_none _ s hkept).trans (State.startChunk_of_waiting s (by simp [h])))
  case granted =>
    rintro s c acc u v _ hkept hfind hbusy hch hnext rfl hfit hres
    obtain ⟨mark, h⟩ := State.startChunk_of_granted s c acc u hfind hbusy hch hnext v hfit hres
    exact completes_of (congrArg Host.Outcome.next ((State.withKept_of_none _ s hkept).trans h)) ⟨rfl, rfl, rfl⟩
  case tooLong =>
    intro s c acc u hkept hfind hbusy hch hnext hlong
    exact congrArg Host.Outcome.next
      ((State.withKept_of_none _ s hkept).trans (State.startChunk_of_tooLong s c acc u hfind hbusy hch hnext hlong))
  case programmed =>
    intro s c l hkept hbusy hfind hmore
    obtain ⟨put, h⟩ := State.endChunk_of_more s c l hbusy hfind hmore
    refine completes_of (congrArg Host.Outcome.next (State.withKept_of_none (State.endChunk true) s hkept)) ?_
    rw [h]
    exact ⟨rfl, rfl, rfl, rfl, rfl, rfl, rfl⟩
  case failed =>
    intro s c l hkept hbusy hfind
    exact completes_of (congrArg Host.Outcome.next
      ((State.withKept_of_none _ s hkept).trans (State.endChunk_of_failed s c l hbusy hfind))) (State.programFail_frame l s)
  case committed =>
    intro s c hlen hd hk
    obtain ⟨p, hpoints, hrec, hcount⟩ := State.commitPoint_of_forced s c hlen hd hk
    exact ⟨⟨p, hpoints, hrec⟩, hcount⟩

end Sys2Proof.Machine
end

section
/-! SUPPORT. Pushes to Tier S and drain fences (R333 to R339). -/
namespace Sys2Proof.Machine
open Sys2Proof Sys2Proof.Statements

/-! ## A push and its parts -/

/-- The counts that a read of a point's image in Tier N moves. -/
theorem State.readImage_adj (seq : U32) (lo n : Nat) (s : State) : ∃ d u, (s.readImage seq lo n).adj = { s.adj with damage := d, uncReads := u } := by
  unfold State.readImage
  dsimp only
  split
  · exact ⟨_, _, (State.record_frame _ _).2.2.2.2.2.2.2.2.2.2.2.2.2.1⟩
  · exact ⟨_, _, rfl⟩

/-- A part that is sent reads the image and changes nothing else of the adjournment. -/
theorem State.sendPart_adj (p : Push) (n : Nat) (resend : Bool) (s : State) :
    ∃ d u, (s.sendPart p n resend).adj = { s.adj with damage := d, uncReads := u } := by
  obtain ⟨d, u, h⟩ := State.readImage_adj p.seq (4096 * n) (s.partLen p n) ((s.countBytes 5 (s.partLen p n)).countBytes 7 (s.partLen p n))
  refine ⟨d, u, ?_⟩
  simp only [State.sendPart, State.send_frame, h, State.countBytes_frame]

/-- The replacement of a push in the list. -/
def setPushIn (p : Push) (l : List Push) : List Push := l.map (fun q => if q.seq == p.seq then p else q)

theorem State.setPush_adj (p : Push) (s : State) : (s.setPush p).adj = { s.adj with pushes := setPushIn p s.adj.pushes } := rfl

theorem State.setPointer_adj (p : Push) (s : State) : ∃ low, (s.setPointer p).adj =
    { s.adj with sPtrObj := s.objectId p, sPtrParts := p.total, sPtrLow := low } :=
  ⟨_, (State.countBytes_frame ..).2.2.2.2.2.2.2.2.2.2.2.2.2.1⟩

/-- The next part of a push on its way, listed among its parts. -/
def Push.issue (p : Push) : Push := { p with next := p.next + 1, issued := p.issued + 1, parts := p.parts ++ [{ num := p.next }] }

/-- The pointer set for a push in the list. -/
def State.pushListed (p : Push) (s : State) : State := (s.setPush p).setPointer p

theorem State.pushListed_adj (p : Push) (s : State) : ∃ low, (s.pushListed p).adj =
    { s.adj with pushes := setPushIn p s.adj.pushes, sPtrObj := s.objectId p, sPtrParts := p.total, sPtrLow := low } :=
  State.setPointer_adj p (s.setPush p)

def State.countIssued (s : State) : State := { s with adj := { s.adj with issued := bump s.adj.issued } }
def State.countResent (s : State) : State := { s with adj := { s.adj with resent := bump s.adj.resent } }

theorem storePartSend_of_fresh (s : State) (p : Push) (hp : s.frontPush = some p) (hc : p.committing = false)
    (hn : p.next.toNat < p.total.toNat) (ho : s.outstandingAt p p.next.toNat < 256) (hu : ∀ x ∈ p.parts, x.unsent = false) :
    storePartSend s = (s.pushListed p.issue).countIssued.sendPart p p.next.toNat false := by
  have hfind : p.parts.find? (·.unsent) = none := List.find?_eq_none.2 fun x hx => by simp [hu x hx]
  rw [storePartSend, hp]
  dsimp only
  rw [if_neg (by simp [hc]), hfind]
  dsimp only
  rw [if_neg (by simpa using hn), if_neg (Nat.not_le.2 ho)]
  rfl

theorem storePartSend_of_none (s : State) (h : s.frontPush = none) : storePartSend s = s := by
  rw [storePartSend, h]

theorem State.pushPart_takePk (q : Packet) (pk : Trans) (s : State) : (s.takePk q).pushPart pk = s.pushPart pk := by
  unfold State.takePk
  split <;> rfl

/-- A push with one part acknowledged, `ok` of them counted. -/
def Push.acked (x : PushPart) (ok : U32) (p : Push) : Push := ({ p.setPart { x with acked := true } with ok := ok }).prune

/-- An acknowledged part counts unless it was counted before. -/
def State.countAcked (x : PushPart) (s : State) : State :=
  if x.counted then s else { s with adj := { s.adj with succeeded := bump s.adj.succeeded } }

theorem storePartAckReceive_of_more (s : State) (pk : Trans) (p : Push) (x : PushPart) (h : s.pushPart pk = some (p, x))
    (hn : p.next.toNat < p.total.toNat) : storePartAckReceive pk s =
      ((s.takePk (.trans pk)).countAcked x).pushListed (p.acked x (if x.counted then p.ok else p.ok + 1)) := by
  have hmore : p.next ≠ p.total := fun e => by simp [e] at hn
  unfold storePartAckReceive
  dsimp only
  rw [State.pushPart_takePk, h]
  exact if_neg fun e => hmore (beq_iff_eq.1 (Bool.and_eq_true_iff.1 e).1)

theorem storePartAckReceive_adj (s : State) (pk : Trans) (p : Push) (x : PushPart) (h : s.pushPart pk = some (p, x))
    (hn : p.next.toNat < p.total.toNat) :
    (storePartAckReceive pk s).adj.succeeded = (if x.counted then s.adj.succeeded else bump s.adj.succeeded) ∧
    (storePartAckReceive pk s).adj.pushes =
      setPushIn (p.acked x (if x.counted then p.ok else p.ok + 1)) s.adj.pushes := by
  obtain ⟨low, hadj⟩ := State.pushListed_adj (p.acked x (if x.counted then p.ok else p.ok + 1)) ((s.takePk (.trans pk)).countAcked x)
  rw [storePartAckReceive_of_more s pk p x h hn, hadj, State.countAcked]
  cases x.counted <;> simp

theorem storePartAckReceive_of_none (s : State) (pk : Trans) (h : s.pushPart pk = none) :
    storePartAckReceive pk s = s.takePk (.trans pk) := by
  rw [storePartAckReceive, State.pushPart_takePk, h]

/-- A part that is sent again, counted, with one resend more. -/
theorem State.resendPart_adj (s : State) (p : Push) (x : PushPart) (h : x.resends.toNat < s.adj.partResends.toNat) :
    (s.resendPart p x).adj.resent = bump s.adj.resent ∧
    (s.resendPart p x).adj.pushes = setPushIn (p.setPart { x with resends := x.resends + 1 }) s.adj.pushes := by
  rw [State.resendPart, if_neg (Nat.not_le.2 h)]
  obtain ⟨d, u, hadj⟩ := State.sendPart_adj p x.num.toNat true (s.setPush (p.setPart { x with resends := x.resends + 1 })).countResent
  exact ⟨congrArg AdjState.resent hadj, congrArg AdjState.pushes hadj⟩

theorem storePartRefusalReceive_of_room (s : State) (pk : Trans) (p : Push) (x : PushPart) (h : s.pushPart pk = some (p, x))
    (h6 : pk.a8 11 = 6) : storePartRefusalReceive pk s = (s.takePk (.trans pk)).resendPart p x := by
  simp [storePartRefusalReceive, State.pushPart_takePk, h, h6]

theorem storePartRefusalReceive_of_final (s : State) (pk : Trans) (p : Push) (x : PushPart) (h : s.pushPart pk = some (p, x))
    (h7 : pk.a8 11 = 7) : storePartRefusalReceive pk s = (s.takePk (.trans pk)).failPart p := by
  simp [storePartRefusalReceive, State.pushPart_takePk, h, h7]

theorem storePartTimeout_of_part (s : State) (part : U32) (p : Push) (x : PushPart) (hp : s.frontPush = some p)
    (hx : p.parts.find? (fun x => x.num == part && !x.acked && !x.failed && !x.unsent) = some x) :
    storePartTimeout part s = s.resendPart p x := by
  rw [storePartTimeout, hp]
  dsimp only
  rw [hx]

/-! ## Commits of a push -/

/-- A push with a gateway's good answer. -/
def Push.answered (g : U32) (p : Push) : Push := { p with answers := p.answers.filter (fun a => a.1 != g) ++ [(g, 0)] }

theorem State.committingPush_takePk (q : Packet) (id : U64) (s : State) :
    (s.takePk q).adj.pushes.find? (fun p => (s.takePk q).objectId p == id && p.committing) =
      s.adj.pushes.find? (fun p => s.objectId p == id && p.committing) := by
  unfold State.takePk
  split <;> rfl

theorem State.gateways_takePk (q : Packet) (s : State) : (s.takePk q).gateways = s.gateways := by
  simp [State.gateways]

theorem storeCommitResponse_of_only (s : State) (pk : Trans) (p : Push) (i : Nat)
    (hp : s.adj.pushes.find? (fun p => s.objectId p == pk.a64 0 && p.committing) = some p)
    (hi : s.gateways.findIdx? (· == cnOf pk.src) = some i) (hst : pk.a8 12 = 0) (hall : ∀ g ∈ s.gateways, g = cnOf pk.src) :
    storeCommitResponse pk s = (s.takePk (.trans pk)).storeCommitted (p.answered (cnOf pk.src)) := by
  have hans : s.gateways.all (fun h => (p.answered (cnOf pk.src)).answers.any (·.1 == h)) = true :=
    List.all_eq_true.2 fun g hg => by simp [Push.answered, hall g hg]
  unfold storeCommitResponse
  dsimp only
  rw [State.committingPush_takePk, State.gateways_takePk, hp, hi]
  dsimp only
  rw [if_pos (beq_iff_eq.2 hst)]
  exact if_pos hans

/-- A committed push that is not of a FULL point: counted, gone from the list, its point held in Tier S. -/
theorem State.storeCommitted_adj (s : State) (p : Push) (hd : s.adj.drain = none)
    (hk : ((s.adj.points.find? (·.seq == p.seq)).map (·.kind)).getD .chain ≠ .full) : (s.storeCommitted p).adj = { s.adj with
      sCommitted := bump s.adj.sCommitted, pushes := s.adj.pushes.filter (fun q => q.seq != p.seq)
      points := s.adj.points.map (fun q => if q.seq == p.seq then { q with inTierS := true } else q) } := by
  have hk' : ¬(((s.dropPush p).adj.points.find? (·.seq == p.seq)).map (·.kind)).getD .chain = .full := hk
  rw [State.storeCommitted]
  dsimp only
  rw [if_neg hk']
  simp [State.drainCheck, State.dropPush, hd]

theorem storeAttemptRetry_of_waiting (s : State) (p : Push) (rest : List Push) (h : s.adj.pushes = p :: rest) (hw : p.waiting = true)
    (hrun : s.job.dev = .run) (hj : p.jt = s.job.jt) : storeAttemptRetry s = s.setPush
      { p with waiting := false, attempt := p.attempt + 1, next := 0, parts := [], issued := 0, ok := 0, bad := 0 } := by
  rw [storeAttemptRetry, h]
  exact if_pos (by simp [hw, hrun, hj])

/-! ## Drain fences -/

theorem drainFenceAction_of_bad (s : State) (v : U64)
    (h : s.fence.sealedStep.toNat < (v.setWidth 32).toNat ∨ s.drainable (v.setWidth 32) (v.extractLsb' 32 2).toNat = false ∨
      s.adj.drain.isSome = true) : drainFenceAction v s = State.record (ev3 0x3230 unitCont [])
        { s with adj := { s.adj with drainStatus := 4, refusals := bump s.adj.refusals } } :=
  if_pos (by
    rcases h with h | h | h
    · simp only [decide_eq_true h, Bool.or_true, Bool.true_or]
    · simp only [h, Bool.not_false, Bool.or_true, Bool.true_or]
    · simp only [h, Bool.or_true])

/-- The drain fence of a step and rung begins. -/
def fenceBegun (step : U32) (rung : U8) (a : AdjState) : AdjState :=
  { a with drainStatus := 1, drain := some { step := step, rung := rung } }

theorem State.drainCheck_of_noPoint (s : State) (h : ∀ d ∈ s.adj.drain, ∀ p ∈ s.adj.points, p.step ≠ d.step) : s.drainCheck = s := by
  unfold State.drainCheck
  split
  · rename_i d hd
    have hno : s.drained d = false := List.any_eq_false.2 fun p hp => by simp [h d hd p hp]
    rw [if_neg (by simp [hno])]
  · rfl

theorem drainFenceAction_of_good (s : State) (v : U64) (hr : v.extractLsb' 32 2 = 1#2 ∨ v.extractLsb' 32 2 = 2#2)
    (hs : (v.setWidth 32).toNat ≤ s.fence.sealedStep.toNat)
    (hd : s.drainable (v.setWidth 32) (v.extractLsb' 32 2).toNat = true) (hn : s.adj.drain = none)
    (hin : ∀ k ∈ s.adj.drainIn, ¬(k.1 = v.setWidth 32 ∧ k.2.1.toNat = (v.extractLsb' 32 2).toNat))
    (hp : ∀ p ∈ s.adj.points, p.step ≠ v.setWidth 32) : drainFenceAction v s =
      { s with adj := fenceBegun (v.setWidth 32) (BitVec.ofNat 8 (v.extractLsb' 32 2).toNat) s.adj } := by
  have hrung : ((v.extractLsb' 32 2).toNat == 1 || (v.extractLsb' 32 2).toNat == 2) = true := by rcases hr with h | h <;> simp [h]
  have hnone : ∀ k ∈ s.adj.drainIn, (k.1 == v.setWidth 32 && k.2.1.toNat == (v.extractLsb' 32 2).toNat) = false := fun k hk =>
    Bool.eq_false_iff.2 fun e => hin k hk (by simpa only [Bool.and_eq_true, beq_iff_eq] using e)
  have hmine : s.adj.drainIn.filter (fun k => k.1 == v.setWidth 32 && k.2.1.toNat == (v.extractLsb' 32 2).toNat) = [] :=
    List.filter_eq_nil_iff.2 fun k hk => by simp only [hnone k hk, Bool.false_eq_true, not_false_iff]
  have hother : s.adj.drainIn.filter (fun k => !(k.1 == v.setWidth 32 && k.2.1.toNat == (v.extractLsb' 32 2).toNat)) = s.adj.drainIn :=
    List.filter_eq_self.2 fun k hk => by simp only [hnone k hk, Bool.not_false]
  unfold drainFenceAction
  dsimp only
  rw [hrung, hd, hn, decide_eq_false (Nat.not_lt.2 hs), if_neg (by decide), hmine, hother]
  exact State.drainCheck_of_noPoint _ fun d h => by
    obtain rfl : _ = d := Option.some.inj h
    exact hp

/-- What the result of a fence from above leaves of the adjournment. -/
theorem State.drainResult_adj (s : State) (d : Drain) (bad : Bool) :
    (s.drainResult d bad).adj.drainStatus = (if bad then 3 else 2) ∧
    (s.drainResult d bad).adj.drain = (if s.adj.drain.any (fun x => x.step == d.step && x.rung == d.rung) then none else s.adj.drain) ∧
    (s.drainResult d bad).adj.drainedN = (if !bad && d.rung == 1 then d.step else s.adj.drainedN) := by
  unfold State.drainResult
  extract_lets a mine a1 a2 s1
  have k : ((s1.children.foldl (fun s c => s.sendFence c d.step 6 (drainA d bad true 0) [] [] []) s1).stepIrq).adj = a2 := by
    refine (State.stepIrq_keep (M := 0x80000) rfl _ (Keep.refl _ _)).adj rfl |>.trans ?_
    exact eq_foldl_of_eq (fun x : State => x.adj) (fun x c => by simp) _ s1
  rw [k]
  cases bad
  · cases hr : d.rung == 1 <;> simp only [a2, hr, Bool.false_eq_true, if_false, if_true] <;> exact ⟨rfl, rfl, rfl⟩
  · exact ⟨rfl, rfl, rfl⟩

theorem drainFenceReceive_of_result (s : State) (pk : Trans) (h : pk.a8 3 = 1) : drainFenceReceive pk s =
    (s.takePk (.trans pk)).drainResult { step := pk.a32 4, rung := pk.a8 1 } (pk.a8 2 == 1) := if_pos (beq_iff_eq.2 h)

theorem drainFenceReceive_of_early (s : State) (pk : Trans) (h : pk.a8 3 ≠ 1) (hd : s.adj.drain = none) : drainFenceReceive pk s =
    (s.takePk (.trans pk)).earlyDrain (pk.a32 4) (pk.a8 1) (cnOf pk.src) (pk.a8 2 == 1) (pk.a32 8) := by
  have hd' : (s.takePk (.trans pk)).adj.drain = none := by simpa using hd
  refine (if_neg (mt beq_iff_eq.1 h)).trans ?_
  dsimp only
  rw [hd']

theorem State.children_record (e : Event) (s : State) : (s.record e).children = s.children := by
  simp [State.children, State.childrenOf]
theorem State.parent_record (e : Event) (s : State) : (s.record e).parent = s.parent := by simp [State.parent]

/-- A device without children answers its parent as soon as its own result stands. -/
theorem State.drainFold_of_leaf (s : State) (d : Drain) (ok : Bool) (up : U32) (hd : s.adj.drain = some d) (hown : d.own = some ok)
    (hsent : d.sent = false) (hkids : s.children = []) (hup : s.parent = some up) :
    s.drainFold.adj.drain = some { d with sent := true } := by
  rw [State.drainFold, hd]
  dsimp only
  rw [hkids, hown]
  dsimp only
  rw [if_neg (by simp [hsent]), hup]
  simp

/-- Settles O48. An early result of a child waits for the fence's write, and a part counted before a reset is not counted again, as
log 81 chooses; logs 10 and 11 say which deadlines and packets are commands of their own. -/
theorem pushesAndDrainFencesSettle : Obligations.PushesAndDrainFencesSettle := by
  unfold Obligations.PushesAndDrainFencesSettle
  refine ⟨?fresh, ?noPush, ?acked, ?ackedBefore, ?noPart, ?noRoom, ?final, ?timeout, ?commit, ?committed, ?retry, ?badFence, ?goodFence,
    ?failedAbove, ?drainedAbove, ?early, ?leaf, ?noFence⟩
  case fresh =>
    intro s p hp hc hn ho hu
    refine completes_of (congrArg Host.Outcome.next (storePartSend_of_fresh s p hp hc hn ho hu)) ?_
    obtain ⟨d, u, hsend⟩ := State.sendPart_adj p p.next.toNat false (s.pushListed p.issue).countIssued
    obtain ⟨low, hadj⟩ := State.pushListed_adj p.issue s
    rw [hsend, State.countIssued, hadj]
    exact ⟨rfl, rfl, rfl, rfl⟩
  case noPush =>
    intro s h
    exact congrArg Host.Outcome.next (storePartSend_of_none s h)
  case acked =>
    intro s port pk p x h hn hx
    obtain ⟨hcount, hpushes⟩ := storePartAckReceive_adj s pk p x h hn
    rw [hx] at hcount hpushes
    exact completes_of rfl ⟨hcount, hpushes⟩
  case ackedBefore =>
    intro s port pk p x h hn hx
    obtain ⟨hcount, hpushes⟩ := storePartAckReceive_adj s pk p x h hn
    rw [hx] at hcount hpushes
    exact completes_of rfl ⟨hcount, hpushes⟩
  case noPart =>
    intro s port pk h
    exact congrArg Host.Outcome.next (storePartAckReceive_of_none s pk h)
  case noRoom =>
    intro s port pk p x h h6 hres
    refine completes_of (congrArg Host.Outcome.next (storePartRefusalReceive_of_room s pk p x h h6)) ?_
    obtain ⟨hresent, hpushes⟩ := State.resendPart_adj (s.takePk (.trans pk)) p x (by simpa using hres)
    exact ⟨by simpa using hresent, hpushes.trans (congrArg (setPushIn _) (by simp))⟩
  case final =>
    intro s port pk p x h h7
    exact congrArg Host.Outcome.next (storePartRefusalReceive_of_final s pk p x h h7)
  case timeout =>
    intro s part p x hp hx hres
    exact completes_of (congrArg Host.Outcome.next (storePartTimeout_of_part s part p x hp hx)) (State.resendPart_adj s p x hres).1
  case commit =>
    intro s port pk p i hp hi hst hall
    exact congrArg Host.Outcome.next (storeCommitResponse_of_only s pk p i hp hi hst hall)
  case committed =>
    intro s p hd hk
    rw [State.storeCommitted_adj s p hd hk]
    exact ⟨rfl, rfl, rfl⟩
  case retry =>
    intro s p rest h hw hrun hj
    exact completes_of (congrArg Host.Outcome.next (storeAttemptRetry_of_waiting s p rest h hw hrun hj)) rfl
  case badFence =>
    intro s v h
    refine completes_of (congrArg Host.Outcome.next (drainFenceAction_of_bad s v h)) ?_
    exact ⟨by simp, Records.of rfl rfl rfl⟩
  case goodFence =>
    intro s v hr hs hd hn hin hp
    exact completes_of (congrArg Host.Outcome.next (drainFenceAction_of_good s v hr hs hd hn hin hp)) ⟨rfl, rfl⟩
  case failedAbove =>
    intro s port pk h3 h2
    refine completes_of (congrArg Host.Outcome.next (drainFenceReceive_of_result s pk h3)) ?_
    obtain ⟨hst, hdr, hn⟩ := State.drainResult_adj (s.takePk (.trans pk)) { step := pk.a32 4, rung := pk.a8 1 } (pk.a8 2 == 1)
    rw [hst, hdr, hn]
    simp [h2]
  case drainedAbove =>
    intro s port pk h3 h2 h1
    refine completes_of (congrArg Host.Outcome.next (drainFenceReceive_of_result s pk h3)) ?_
    obtain ⟨hst, hdr, hn⟩ := State.drainResult_adj (s.takePk (.trans pk)) { step := pk.a32 4, rung := pk.a8 1 } (pk.a8 2 == 1)
    rw [hst, hdr, hn]
    simp [h2, h1]
  case early =>
    intro s port pk h3 hd
    refine completes_of (congrArg Host.Outcome.next (drainFenceReceive_of_early s pk h3 hd)) ?_
    simp [State.earlyDrain]
  case leaf =>
    intro s d up hd hown hsent hkids hup
    refine completes_of (t := s.drainOwn false 0x3231) rfl ?_
    rw [State.drainOwn, hd]
    dsimp only
    rw [if_neg (by simp [hown]), if_neg Bool.false_ne_true]
    exact State.drainFold_of_leaf _ { d with own := some false } false up (by simp) rfl hsent
      ((State.children_record ..).trans hkids) ((State.parent_record ..).trans hup)
  case noFence =>
    intro s hd
    exact congrArg Host.Outcome.next (by rw [State.drainOwn, hd])

end Sys2Proof.Machine
end

section
/-! SUPPORT. A start of a mover's channel whose record still holds the end of an earlier part. -/
namespace Sys2Proof.Machine
open Sys2Proof

/-- A channel of one 64-byte pass between two remote ends, at rest, whose record still says how an earlier part is to end. -/
def endingChan : ChanState := { src := 0x800000000000, dst := 0x800000001000, len := 64, ending := some (6, 0, 0) }

/-- The reset state with that channel as MV0. -/
def endingState : State := { mov := { chans := (Vector.replicate 64 {}).set 0 endingChan } }

/-- The channel after its start was taken and counted. -/
def endingStarted : State := endingState.startChan 0

/-- Nothing refuses the start: the fields are in range and neither end is an own tier. -/
theorem endingState_startRefused : endingState.startRefused 0 = none := by decide

theorem endingState_cellRoom : min 4096 (endingState.chan 0).len.toNat / 64 ≤ endingState.cellRoom 0 := by decide

theorem moverStart_endingState : moverStart 0 endingState = endingStarted := by
  rw [moverStart, endingState_startRefused]
  rfl

/-- No read of the pass is issued while an end is pending. -/
theorem endingStarted_issued : (endingStarted.chan 0).issued = 0 := by decide

/-- Refutes O49: the clauses on a start that nothing refuses have no premise that the channel's record holds no pending end of an
earlier part. The model issues no read for a channel that is ending (R348), so on such a record the start is taken and counted, its
pass begins, and nothing of it is read. (A part that ends clears that field, so a run from reset does not come there; the statement
speaks of every state.) -/
theorem not_moverChannelsStartPauseAndEnd : ¬ Obligations.MoverChannelsStartPauseAndEnd := by
  rintro ⟨hstart, -⟩
  obtain ⟨t, hexec, -, -, -, -, -, hissued, -⟩ :=
    hstart endingState 0 endingState_startRefused (by decide) (by decide) (by decide) endingState_cellRoom
  obtain rfl : endingStarted = t := moverStart_endingState ▸ Host.Outcome.next.inj hexec
  rw [endingStarted_issued] at hissued
  exact absurd hissued (by decide)

end Sys2Proof.Machine
end

section
/-! SUPPORT. Claims and resignations (R362 to R365, R387 to R389). -/
namespace Sys2Proof.Machine
open Sys2Proof Sys2Proof.Statements

/-! ## The opening status -/

theorem State.setOpenStatus_job (v : U8) (s : State) : (s.setOpenStatus v).job = { s.job with openStatus := v } := by
  unfold State.setOpenStatus
  split
  · rename_i hsame
    rw [← beq_iff_eq.1 hsame]
  · simp

/-! ## Claims -/

theorem jobClaim_of_state (l : List Byte) (s : State) (h : s.job.dev ≠ .standby) :
    jobClaim l s = s.refuseClaim (field16 l 0) 1 ((s.heldTags.find? (· != field16 l 0)).getD 0) := if_pos (by simp [h])

theorem jobClaim_of_held (l : List Byte) (s : State) (x : U16) (h : s.job.dev = .standby)
    (hx : s.heldTags.find? (· != field16 l 0) = some x) : jobClaim l s = s.refuseClaim (field16 l 0) 2 x := by
  have hany : s.heldTags.any (· != field16 l 0) = true :=
    List.any_eq_true.2 ⟨x, List.mem_of_find?_eq_some hx, by simpa using List.find?_some hx⟩
  unfold jobClaim
  dsimp only
  rw [if_neg (by simp [h]), if_pos hany, hx]
  rfl

/-- A device in STANDBY without job data of another tag looks at the fields of the claim. -/
theorem jobClaim_of_clean (l : List Byte) (s : State) (h : s.job.dev = .standby) (hclean : ∀ t ∈ s.heldTags, t = field16 l 0) :
    jobClaim l s = if !claimFieldsOk l then s.refuseClaim (field16 l 0) 3 0
      else (({ s with job := { s.job.fresh (field32 l 8) with
        jt := field16 l 0, epoch := field32 l 4, members := field32 l 12, baseStep := field32 l 16
        streamChecks := [], reachIn := [], descr := none, stepStopped := false } } : State).clearPerEpoch.setDev .opening).setOpenStatus 1 := by
  have hnone : s.heldTags.find? (· != field16 l 0) = none := List.find?_eq_none.2 fun t ht => by simp [hclean t ht]
  have hany : s.heldTags.any (· != field16 l 0) = false := List.any_eq_false.2 fun t ht => by simp [hclean t ht]
  unfold jobClaim
  dsimp only
  rw [if_neg (by simp [h]), if_neg (by simp [hany]), hnone]
  rfl

theorem State.refuseClaim_frame (jt : U16) (why : Nat) (held : U16) (s : State) :
    (s.refuseClaim jt why held).job = { s.job with refusals := bump s.job.refusals } ∧
    Records (ev3 0x2900 unitCC (le16 jt ++ arg1 why ++ le16 held)) s (s.refuseClaim jt why held) :=
  ⟨by simp [State.refuseClaim], Records.of rfl rfl rfl⟩

/-! ## Opening trees and anchors -/

/-- The records of an opening tree. -/
def treeRecords (l : List Byte) : List (U32 × U32) :=
  (chunksOf (l.length / 8) 8 l).map (fun r => (cnOf (field32 r 0), cnOf (field32 r 4)))

theorem openingTreeWrite_of_good (l : List Byte) (s : State) (h : s.loadable = true)
    (hgood : s.treeBad (treeRecords l) l.length = none) : openingTreeWrite l s = { s with job := { s.job with tree := treeRecords l } } := by
  unfold openingTreeWrite
  rw [if_neg (by simp [h])]
  dsimp only
  rw [← treeRecords, hgood]

/-- A refused opening tree. -/
def State.treeRefused (off : Nat) (s : State) : State :=
  State.record (ev3 0x2905 unitCC (arg4 (BitVec.ofNat 32 off)))
    { s with job := { s.job with treeErr := BitVec.ofNat 32 off, refusals := bump s.job.refusals } }

theorem openingTreeWrite_of_bad (l : List Byte) (s : State) (off : Nat) (h : s.loadable = true)
    (hbad : s.treeBad (treeRecords l) l.length = some off) : openingTreeWrite l s = s.treeRefused off := by
  unfold openingTreeWrite
  rw [if_neg (by simp [h])]
  dsimp only
  rw [← treeRecords, hbad]
  rfl

/-- A list of segments with one of them replaced, in order. -/
def putSeg (q : U16) (seg : List U16) (l : List (U16 × List U16)) : List (U16 × List U16) :=
  (l.filter (fun x => x.1 != q) ++ [(q, seg)]).mergeSort (fun a b => decide (a.1.toNat ≤ b.1.toNat))

theorem mem_putSeg (q : U16) (seg : List U16) (l : List (U16 × List U16)) : (q, seg) ∈ putSeg q seg l :=
  List.mem_mergeSort.2 (List.mem_append_right _ (List.mem_singleton.2 rfl))

/-- The kept segments with the one of a packet of the sequence. -/
def State.segKept (pk : Trans) (s : State) : State :=
  { s with job := { s.job with
    segSeq := s.job.seq
    segs := putSeg ((pk.a32 8).setWidth 16) ((List.range 2048).map (fun j => field16 pk.body (2 * j)))
      (if s.job.segSeq == s.job.seq then s.job.segs else []) } }

theorem anchorsReceive_of_fit (pk : Trans) (s : State) (hseq : pk.a32 4 = s.job.seq) (hjt : pk.jt = s.job.jt)
    (hlen : pk.body.length = 4096) : anchorsReceive pk s =
      ((s.takePk (.trans pk)).segKept pk).children.foldl (fun s c => s.sendPhase c pk) ((s.takePk (.trans pk)).segKept pk) := by
  have hjob : (s.takePk (.trans pk)).job = s.job := by simp
  unfold anchorsReceive State.segKept
  dsimp only
  rw [hjob, hseq, if_neg (Nat.lt_irrefl _), if_neg (by simp [hjt, hlen])]
  rfl

/-- A segment of the sequence is kept and goes to every child. -/
theorem anchorsReceive_job (pk : Trans) (s : State) (hseq : pk.a32 4 = s.job.seq) (hjt : pk.jt = s.job.jt)
    (hlen : pk.body.length = 4096) : (anchorsReceive pk s).job = ((s.takePk (.trans pk)).segKept pk).job := by
  rw [anchorsReceive_of_fit pk s hseq hjt hlen]
  exact eq_foldl_of_eq (fun x : State => x.job) (fun x c => (State.sendPhase_keep (M := 0xC0C00) rfl c pk x (Keep.refl _ x)).job rfl) _ _

theorem anchorsReceive_of_old (pk : Trans) (s : State) (h : (pk.a32 4).toNat < s.job.seq.toNat) :
    anchorsReceive pk s = (s.takePk (.trans pk)).countDup := if_pos (by simpa using h)

/-! ## The end of step activity and the start of a resignation -/

/-- A relation of states that reads the job's state and the step fence alone and holds of the three operations by which the
write-back of a window changes them: its shard fails, it is counted as written, or it is counted as rolled. -/
structure WritebackStable (R : State → State → Prop) : Prop where
  of : ∀ {s t : State}, t.job = s.job → t.fence = s.fence → R s t
  trans : ∀ {s t u}, R s t → R t u → R s u
  failShard : ∀ ts step code blk s, R s (s.failShard ts step code blk)
  countWritten : ∀ ts w step s, R s (s.countWritten ts w step)
  rolledWindow : ∀ e d s, R s (s.rolledWindow e d)

section
variable {R : State → State → Prop} (h : WritebackStable R)
include h

theorem WritebackStable.foldl {α : Type} {g : State → α → State} (k : ∀ x a, R x (g x a)) (l : List α) (s : State) :
    R s (l.foldl g s) := by
  induction l generalizing s with
  | nil => exact h.of rfl rfl
  | cons a l ih => exact h.trans (k s a) (ih _)

theorem WritebackStable.finishWindow (e : TensorEntry) (d : DispWin) (s : State) : R s (s.finishWindow e d) := by
  unfold State.finishWindow
  split
  · exact h.rolledWindow e d s
  · split
    · exact h.of rfl rfl
    · exact h.countWritten ..

theorem WritebackStable.keep {M : Nat} {s t : State} (k : Keep M s t) (h15 : M.testBit 15 = false) (h4 : M.testBit 4 = false) : R s t :=
  h.of (k.job h15) (k.fence h4)

theorem WritebackStable.mustWait (offs : List Nat) (s : State) : R s (s.mustWait offs).2 :=
  h.keep (State.mustWait_keep (M := 0xC2040) rfl offs s (Keep.refl _ s)) rfl rfl

/-- The blocks of a window are written, the window is counted, and the partner is told. -/
theorem WritebackStable.writeResult (p : Pipe) (e : TensorEntry) (d : DispWin) (r : RunResult) (ws : List BlkWrite) (s : State) :
    R s ((((ws.foldl (fun s b => s.commitWrite e d.step d.w b) s).touchDone (ws.map (·.off))).countWindow (unitPipe p) e d r).tellPartner
      p e d ws) := by
  have hcommits : R s (ws.foldl (fun s b => s.commitWrite e d.step d.w b) s) :=
    h.foldl (fun x b => h.keep (State.commitWrite_keep (M := 0x2E3248) rfl e d.step d.w b x (Keep.refl _ x)) rfl rfl) ws s
  have hdone (x : State) : R x (x.touchDone (ws.map (·.off))) := h.of rfl rfl
  refine h.trans (h.trans hcommits (hdone _)) (h.trans
    (h.keep (State.countWindow_keep (M := 0x8C0048) rfl _ e d r _ (Keep.refl _ _)) rfl rfl)
    (h.keep (State.tellPartner_keep (M := 0x2E3E48) rfl p e d ws _ (Keep.refl _ _)) rfl rfl))

theorem WritebackStable.setPipe (p : Pipe) (f : PipeState → PipeState) (s : State) : R s (s.setPipe p f) := h.of rfl rfl

theorem WritebackStable.writeOwner (p : Pipe) (e : TensorEntry) (x : PipeWin) (s : State) : R s (s.writeOwner p e x) := by
  have hwait := h.mustWait ((s.resultWrites e x.win.step (firstElem s x.win) x.res).map (·.off)) s
  unfold State.writeOwner
  extract_lets d ws
  generalize hm : s.mustWait (ws.map (·.off)) = m
  rw [hm] at hwait
  obtain ⟨w, t⟩ := m
  dsimp only
  split
  · exact hwait
  · refine h.trans (h.trans hwait (h.trans (h.setPipe p (fun q => { q with queue := q.queue.erase x }) t)
      (h.writeResult p e d x.res ws _))) (h.trans ?_ (h.finishWindow e d _))
    split
    · exact h.failShard ..
    · exact h.of rfl rfl

theorem WritebackStable.windowWriteback (p : Pipe) (s : State) : R s (windowWriteback p s) := by
  unfold Machine.windowWriteback
  split
  · exact h.of rfl rfl
  · dsimp only
    split
    · exact h.setPipe ..
    · split
      · exact h.of rfl rfl
      · split
        · exact h.of rfl rfl
        · exact h.writeOwner ..

theorem WritebackStable.finishRound (s : State) : R s s.finishRound :=
  h.foldl (fun x p => h.foldl (fun y _ => h.windowWriteback p y) _ x) _ s

theorem WritebackStable.finishPipes (s : State) : R s s.finishPipes := by
  refine h.trans (h.foldl (fun x _ => ?_) _ s) (h.finishRound _)
  exact h.trans (h.finishRound x) (h.foldl (fun y a =>
    h.keep (State.copyPage_keep (M := 0x2E3248) rfl _ y (Keep.refl _ y)) rfl rfl) _ _)

end

/-- Of the job's state the rolled windows are counted, and nothing else changes. -/
def RolledOnly (s t : State) : Prop := ∃ n, t.job = { s.job with rolled := n }

theorem RolledOnly.of {s t : State} (h : t.job = s.job) : RolledOnly s t := ⟨_, h⟩
theorem RolledOnly.trans {s t u : State} (h : RolledOnly s t) (k : RolledOnly t u) : RolledOnly s u := by
  obtain ⟨_, h⟩ := h
  obtain ⟨n, k⟩ := k
  exact ⟨n, by rw [k, h]⟩

theorem RolledOnly.stable : WritebackStable RolledOnly where
  of := fun h _ => .of h
  trans := .trans
  failShard := fun ts step code blk s => .of ((State.failShard_keep (M := 0xC2F58) rfl ts step code blk s (Keep.refl _ s)).job rfl)
  countWritten := fun ts w step s => .of ((State.countWritten_keep (M := 0x2E3F58) rfl ts w step s (Keep.refl _ s)).job rfl)
  rolledWindow := fun e d s => by
    unfold State.rolledWindow
    dsimp only
    split
    · exact ⟨_, (State.setEntry_keep (M := 0x40) rfl _ _ _ _ (Keep.refl _ _)).job rfl⟩
    · exact ⟨_, rfl⟩

/-- A pending step fence is abandoned. -/
def State.fenceAbandoned (newEpoch : U32) (s : State) : State :=
  if s.fence.pending then
    ({ s with fence := { s.fence with pending := false, status := 3, stepsFailed := s.fence.stepsFailed + 1 } }).record
      (ev3 0x2103 unitCC (arg4 s.job.epoch ++ arg4 newEpoch))
  else s

theorem State.fenceAbandoned_job (newEpoch : U32) (s : State) : (s.fenceAbandoned newEpoch).job = s.job := by
  unfold State.fenceAbandoned
  split
  · simp
  · rfl

/-- The records of steps after the sealed one go. -/
def State.fenceTrimmed (s : State) : State :=
  let keep (k : U32) : Bool := decide (k.toNat ≤ s.fence.sealedStep.toNat)
  { s with fence := { s.fence with
    accepted := s.fence.accepted.filter (fun x => keep x.1), discarded := s.fence.discarded.filter (fun x => keep x.1)
    reports := s.fence.reports.filter (fun r => keep r.step) } }

theorem State.fenceTrimmed_job (s : State) : s.fenceTrimmed.job = s.job := rfl

/-- Open windows, passes and unsealed cuts go. -/
def State.activityDropped (s : State) : State :=
  (s.discardWindows.closePasses (fun _ => true)).abandonCuts (fun c => !c.sealedMove) 0x2103

theorem State.activityDropped_job (s : State) : s.activityDropped.job = s.job :=
  ((State.abandonCuts_keep (M := 0xC2248) rfl _ _ _ (Keep.refl _ _)).job rfl).trans
    (((State.closePasses_keep (M := 0xC0100) rfl _ _ (Keep.refl _ _)).job rfl).trans
      ((State.discardWindows_keep (M := 0xE0) rfl s (Keep.refl _ _)).job rfl))

theorem State.endActivity_eq (newEpoch : U32) (s : State) : s.endActivity newEpoch =
    (s.finishPipes.fenceAbandoned newEpoch).fenceTrimmed.activityDropped.finishPipes.dropUncommittedPartner := by
  unfold State.endActivity State.fenceAbandoned State.fenceTrimmed State.activityDropped
  rfl

theorem State.endActivity_rolledOnly (newEpoch : U32) (s : State) : RolledOnly s (s.endActivity newEpoch) := by
  have hfence : RolledOnly s (s.finishPipes.fenceAbandoned newEpoch).fenceTrimmed.activityDropped :=
    (RolledOnly.stable.finishPipes s).trans (.of ((State.activityDropped_job _).trans ((State.fenceTrimmed_job _).trans (State.fenceAbandoned_job ..))))
  rw [State.endActivity_eq]
  exact hfence.trans ((RolledOnly.stable.finishPipes _).trans
    (.of ((State.dropUncommittedPartner_keep (M := 0x1040) rfl _ (Keep.refl _ _)).job rfl)))

/-- The pushes of the job are abandoned, and counted. -/
def State.pushesAbandoned (s : State) : State :=
  let n := (s.adj.pushes.filter (fun p => p.jt == s.job.jt)).length
  if n = 0 then s
  else ({ s with adj := { s.adj with
      pushes := s.adj.pushes.filter (fun p => p.jt != s.job.jt), pushAbandoned := bumpBy s.adj.pushAbandoned n } }).record
    (ev3 0x3224 unitCont [])

theorem State.pushesAbandoned_job (s : State) : s.pushesAbandoned.job = s.job := by
  unfold State.pushesAbandoned
  dsimp only
  split
  · rfl
  · simp

/-- The points of the job are freed, and the resignation's status is set. -/
def State.pointsResigned (s : State) : State :=
  let bytes := ((s.adj.points.filter (fun p => p.jt == s.job.jt)).map (·.len.toNat)).sum
  let s := s.freePoints (fun p => p.jt == s.job.jt)
  { s with job := { s.job with
    resignStatus := 1, phase := none
    resign := { circuitsReleased := true, pointsFreed := true, pushesAbandoned := true, nBytes := bytes } } }

theorem State.pointsResigned_job (s : State) : s.pointsResigned.job.dev = s.job.dev ∧ s.pointsResigned.job.resignStatus = 1 ∧
    s.pointsResigned.job.phase = none ∧ s.pointsResigned.job.jt = s.job.jt := ⟨rfl, rfl, rfl, rfl⟩

theorem State.startResign_eq (s : State) : s.startResign =
    (((s.setDev .resigning).endActivity (s.setDev .resigning).job.epoch).abandonAll.pushesAbandoned.pointsResigned).releaseCircuits := by
  simp only [State.startResign, State.pushesAbandoned, State.pointsResigned]

/-- A resignation that starts: the device is RESIGNING with status 1, without a phase, and keeps its tag. -/
theorem State.startResign_job (s : State) (h : s.job.dev ≠ .safe) : s.startResign.job.dev = .resigning ∧
    s.startResign.job.resignStatus = 1 ∧ s.startResign.job.phase = none ∧ s.startResign.job.jt = s.job.jt := by
  obtain ⟨m, hend⟩ := State.endActivity_rolledOnly (s.setDev .resigning).job.epoch (s.setDev .resigning)
  have hkept : ((s.setDev .resigning).endActivity (s.setDev .resigning).job.epoch).abandonAll.pushesAbandoned.job =
      { s.job with dev := .resigning, rolled := m } := by
    rw [State.pushesAbandoned_job, (State.abandonAll_keep (M := 0xAC6E48) rfl _ (Keep.refl _ _)).job rfl, hend,
      State.job_setDev h .resigning]
  rw [State.startResign_eq, (State.releaseCircuits_keep (M := 0xC00) rfl _ (Keep.refl _ _)).job rfl]
  obtain ⟨hdev, hstatus, hphase, hjt⟩ := State.pointsResigned_job
    ((s.setDev .resigning).endActivity (s.setDev .resigning).job.epoch).abandonAll.pushesAbandoned
  exact ⟨hdev.trans (by rw [hkept]), hstatus, hphase, hjt.trans (by rw [hkept])⟩

theorem resignationAction_of_job (jt : U16) (s : State) (h0 : jt ≠ 0) (hj : jt = s.job.jt)
    (hd : s.job.dev = .run ∨ s.job.dev = .fenced ∨ s.job.dev = .opening) :
    resignationAction jt s = (s.record (ev3 0x2920 unitCC [])).startResign :=
  if_pos (by rw [← hj, bne_iff_ne.2 h0]; rcases hd with h | h | h <;> simp [h])

theorem resignationAction_of_other (jt : U16) (s : State) (h : jt = 0 ∨ jt ≠ s.job.jt) (hd : s.job.dev ≠ .resigning) :
    resignationAction jt s = State.record (ev3 0x2923 unitCC [])
      { s with job := { s.job with refusals := bump s.job.refusals, resignStatus := 4 } } := by
  have hno : (jt != 0 && jt == s.job.jt) = false := by rcases h with h | h <;> simp [h]
  unfold resignationAction
  dsimp only
  rw [hno, if_neg (by simp), if_neg (by simp), if_neg (by simp [hd])]

/-! ## The scrub -/

/-- Circuits that are releasing end their drain. -/
def State.circuitsEnded (s : State) : State :=
  (List.finRange 8).foldl (fun s n => if (s.circuit n).releasing then circuitDrainTimeout n (circuitDrained n s) else s) s

theorem State.circuitsEnded_job (s : State) : s.circuitsEnded.job = s.job :=
  eq_foldl_of_eq (fun x : State => x.job) (fun x n => by
    split
    · exact ((circuitDrainTimeout_keep (M := 0xC0C00) rfl n _ (Keep.refl _ _)).job rfl).trans
        ((circuitDrained_keep (M := 0xC0C00) rfl n x (Keep.refl _ _)).job rfl)
    · rfl) _ s

/-- The job's data and tables cleared, with the attestation signed. -/
def State.attested (s : State) : State :=
  let bytes := s.jobBytes .h + s.jobBytes .l + s.job.resign.nBytes
  let body := s.attestBody (s.job.attestSeq + 1) (s.jobBytes .h) (s.jobBytes .l) s.job.resign.nBytes
  let (sig, t) := s.clearJob.sign
  { t with job := { t.job with
      attest := some (body ++ sig), attestSeq := s.job.attestSeq + 1, resigns := bump t.job.resigns
      resignStatus := 2, scrubbed := BitVec.ofNat 64 bytes, resign := {} } }

theorem resignScrubComplete_of_complete (s : State) (hd : s.job.dev = .resigning) (hr : s.job.resignStatus = 1) :
    resignScrubComplete true s =
      ((s.circuitsEnded.attested.record (ev3 0x2922 unitCC [])).enterStandby.stepIrq).alarm3 (ev3 0x2922 unitCC []) := by
  unfold resignScrubComplete
  rw [if_neg (by simp [hd, hr]), if_neg (by simp)]
  simp only [State.circuitsEnded, State.attested]

/-- A scrub that fails. -/
theorem resignScrubComplete_of_failed (s : State) (hd : s.job.dev = .resigning) (hr : s.job.resignStatus = 1) :
    (resignScrubComplete false s).job = { s.job with resignStatus := 5, scrubFails := bump s.job.scrubFails } ∧
    (resignScrubComplete false s).mem = s.mem := by
  unfold resignScrubComplete
  rw [if_neg (by simp [hd, hr]), if_pos (by decide : (!false) = true)]
  dsimp only
  constructor <;> simp [State.free]

/-- A region of the job is cleared of its tag unless its flag 4 keeps it. -/
theorem State.scrubRegions_tags (s : State) (r : Region) (hr : r ∈ s.scrubRegions.mem.regions) (hj : r.jt = s.job.jt) :
    r.jt = 0 ∨ r.flags.getLsbD 4 = true := by
  obtain ⟨r0, -, rfl⟩ := List.mem_map.1 hr
  by_cases hmine : (r0.jt == s.job.jt && !r0.flags.getLsbD 4) = true
  · rw [if_pos hmine]
    exact .inl rfl
  · rw [if_neg hmine] at hj ⊢
    exact .inr (by simpa [hj] using hmine)

/-- What a cleared job leaves: no tag, no epoch, no table, no trees, the regions scrubbed, and its attestation. -/
theorem State.attested_frame (s : State) : s.attested.job.dev = s.job.dev ∧ s.attested.job.resignStatus = 2 ∧
    s.attested.job.jt = 0 ∧ s.attested.job.epoch = 0 ∧ s.attested.upd.table = [] ∧ s.attested.red.trees = [] ∧
    s.attested.job.resigns = bump s.job.resigns ∧ s.attested.job.attest.isSome = true ∧
    s.attested.job.attestSeq = s.job.attestSeq + 1 ∧ s.attested.mem = s.scrubRegions.mem :=
  ⟨rfl, rfl, rfl, rfl, rfl, rfl, rfl, rfl, rfl, rfl⟩

/-- STANDBY is entered, with the job's state but for the device's, and without a change of the memory and the job's tables. -/
theorem State.enterStandby_frame (s : State) (h : s.job.dev ≠ .safe) : s.enterStandby.job = { s.job with dev := .standby } ∧
    s.enterStandby.mem = s.mem ∧ s.enterStandby.upd = s.upd ∧ s.enterStandby.red = s.red := by
  have k := State.enterStandby_keep (M := 0x2E8000) rfl s (Keep.refl _ _)
  refine ⟨?_, k.mem rfl, k.upd rfl, k.red rfl⟩
  exact ((State.serviceAtStandby_keep (M := 0xE0000) rfl _ (Keep.refl _ _)).job rfl).trans (State.job_setDev h _)

/-- The memory, the job and the job's tables of a resignation's last state. -/
theorem resignScrubComplete_frame (s : State) (hd : s.job.dev = .resigning) (hr : s.job.resignStatus = 1) :
    (resignScrubComplete true s).job = { s.circuitsEnded.attested.job with dev := .standby } ∧
    (resignScrubComplete true s).mem = s.circuitsEnded.attested.mem ∧ (resignScrubComplete true s).upd = s.circuitsEnded.attested.upd ∧
    (resignScrubComplete true s).red = s.circuitsEnded.attested.red := by
  have hdev : s.circuitsEnded.attested.job.dev = .resigning := by
    rw [(State.attested_frame _).1, s.circuitsEnded_job]
    exact hd
  obtain ⟨hjob, hmem, hupd, hred⟩ := State.enterStandby_frame (s.circuitsEnded.attested.record (ev3 0x2922 unitCC []))
    (by simp [hdev])
  rw [resignScrubComplete_of_complete s hd hr]
  have k := State.alarm3_keep (M := 0xC0000) rfl (ev3 0x2922 unitCC []) _ (State.stepIrq_keep (M := 0xC0000) rfl
    (s.circuitsEnded.attested.record (ev3 0x2922 unitCC [])).enterStandby (Keep.refl _ _))
  exact ⟨(k.job rfl).trans (hjob.trans (by simp)), (k.mem rfl).trans (hmem.trans (by simp)), (k.upd rfl).trans (hupd.trans (by simp)),
    (k.red rfl).trans (hred.trans (by simp))⟩

/-- Settles O50. Logs 11 and 44 say which packets and commands these are; the order of a claim's refusals is R363's. -/
theorem claimsAndResignationsOpenAndCloseTheJob : Obligations.ClaimsAndResignationsOpenAndCloseTheJob := by
  unfold Obligations.ClaimsAndResignationsOpenAndCloseTheJob
  refine ⟨?claim, ?badState, ?unclean, ?badFields, ?tree, ?badTree, ?segment, ?oldSegment, ?resign, ?badResign, ?failed, ?complete⟩
  case claim =>
    intro s l hd hclean hok
    refine completes_of (congrArg Host.Outcome.next ((jobClaim_of_clean l s hd hclean).trans (if_neg (by simp [hok])))) ?_
    rw [State.setOpenStatus_job, State.job_setDev (by simp [State.clearPerEpoch, JobState.fresh, hd])]
    exact ⟨rfl, rfl, rfl, rfl, rfl, rfl, rfl, rfl⟩
  case badState =>
    intro s l h
    exact completes_of (congrArg Host.Outcome.next (jobClaim_of_state l s h)) (State.refuseClaim_frame ..)
  case unclean =>
    intro s l x h hx
    exact completes_of (congrArg Host.Outcome.next (jobClaim_of_held l s x h hx)) (State.refuseClaim_frame ..)
  case badFields =>
    intro s l hd hclean hbad
    exact completes_of (congrArg Host.Outcome.next ((jobClaim_of_clean l s hd hclean).trans (if_pos (by simp [hbad]))))
      (State.refuseClaim_frame ..)
  case tree =>
    rintro s l _ h rfl hgood
    exact congrArg Host.Outcome.next (openingTreeWrite_of_good l s h hgood)
  case badTree =>
    intro s l off h hbad
    refine completes_of (congrArg Host.Outcome.next (openingTreeWrite_of_bad l s off h hbad)) ?_
    exact ⟨by simp [State.treeRefused], Records.of rfl rfl rfl⟩
  case segment =>
    intro s port pk hseq hjt hlen
    refine completes_of (t := anchorsReceive pk s) rfl ?_
    rw [anchorsReceive_job pk s hseq hjt hlen]
    exact ⟨by simp [State.segKept], by simp [State.segKept], mem_putSeg ..⟩
  case oldSegment =>
    intro s port pk h
    exact completes_of (congrArg Host.Outcome.next (anchorsReceive_of_old pk s h)) (by simp [State.countDup])
  case resign =>
    intro s jt h0 hj hd
    refine completes_of (congrArg Host.Outcome.next (resignationAction_of_job jt s h0 hj hd)) ?_
    have hsafe : s.job.dev ≠ .safe := by rcases hd with h | h | h <;> simp [h]
    simpa using State.startResign_job (s.record (ev3 0x2920 unitCC [])) (by simpa using hsafe)
  case badResign =>
    intro s jt h hd
    refine completes_of (congrArg Host.Outcome.next (resignationAction_of_other jt s h hd)) ?_
    exact ⟨by simp, Records.of rfl rfl rfl⟩
  case failed =>
    intro s hd hr
    exact completes_of (t := resignScrubComplete false s) rfl (resignScrubComplete_of_failed s hd hr)
  case complete =>
    intro s hd hr
    refine completes_of (t := resignScrubComplete true s) rfl ?_
    obtain ⟨hjob, hmem, hupd, hred⟩ := resignScrubComplete_frame s hd hr
    obtain ⟨-, hstatus, hjt, hepoch, htable, htrees, hresigns, hattest, hseq, hscrub⟩ := State.attested_frame s.circuitsEnded
    rw [s.circuitsEnded_job] at hresigns hseq
    rw [hjob, hmem, hupd, hred]
    refine ⟨rfl, hstatus, hjt, hepoch, htable, htrees, hresigns, hattest, hseq, ?_⟩
    intro r hr hj
    rw [hscrub] at hr
    exact State.scrubRegions_tags s.circuitsEnded r hr (by rw [s.circuitsEnded_job]; exact hj)

end Sys2Proof.Machine
end

section
/-! SUPPORT. The phases of an opening or a restore and the answers to them (R365 to R384). -/
namespace Sys2Proof.Machine
open Sys2Proof Sys2Proof.Statements

/-! ## Packets of a phase -/

theorem State.sendPhase_job (dst : U32) (t : Trans) (s : State) : (s.sendPhase dst t).job = s.job :=
  (State.sendPhase_keep (M := 0xC0C00) rfl dst t s (Keep.refl _ s)).job rfl

theorem State.sendPhases_job (l : List U32) (t : Trans) (s : State) : (l.foldl (fun s c => s.sendPhase c t) s).job = s.job :=
  eq_foldl_of_eq (fun x : State => x.job) (fun x c => State.sendPhase_job c t x) l s

theorem State.sendSegsTo_job (l : List U32) (s : State) : (l.foldl (fun s c => s.sendSegs c) s).job = s.job :=
  eq_foldl_of_eq (fun x : State => x.job) (fun x c => (State.sendSegs_keep (M := 0xC0C00) rfl c x (Keep.refl _ x)).job rfl) l s

theorem State.beginPhase_phase (ph : OpPhase) (sender : Option U32) (t : Trans) (s : State) : (s.beginPhase ph sender t).job.phase =
    some { phase := ph, seq := s.job.seq, sender := sender, expect := s.children, pk := some t } :=
  congrArg JobState.phase (State.sendPhases_job _ t _)

theorem State.setRestStatus_job (v : U8) (s : State) : (s.setRestStatus v).job = { s.job with restStatus := v } := by
  unfold State.setRestStatus
  split
  · rename_i hsame
    rw [← beq_iff_eq.1 hsame]
  · simp

/-! ## Commands at the root -/

/-- A refused command is counted and recorded with the code of the command. -/
theorem State.refuseCommand_frame (cmd : U8) (s : State) : (s.refuseCommand cmd).job = { s.job with refusals := bump s.job.refusals } ∧
    Records (ev3 0x2901 unitCC ([0, cmd] ++ arg4 s.adopted)) s (s.refuseCommand cmd) :=
  ⟨by simp [State.refuseCommand, State.openRefused], Records.of rfl rfl rfl⟩

theorem State.noVector_frame (cmd : U8) (s : State) : (s.noVector cmd).job = { s.job with refusals := bump s.job.refusals } ∧
    Records (ev3 0x2901 unitCC ([9, cmd] ++ arg4 s.adopted)) s (s.noVector cmd) :=
  ⟨by simp [State.noVector, State.openRefused], Records.of rfl rfl rfl⟩

theorem openingFresh_of_unfit (seq : U32) (s : State) (h : seq ≠ s.job.seq ∨ s.isRoot = false ∨ s.job.dev ≠ .opening ∨
    s.mayJoin = false ∨ s.job.openStatus ≠ 1) : openingFresh seq s = s.refuseCommand 1 :=
  if_neg (by
    simp only [Bool.and_eq_true, beq_iff_eq]
    rintro ⟨⟨⟨⟨hseq, hroot⟩, hdev⟩, hjoin⟩, hstatus⟩
    rcases h with h | h | h | h | h
    · exact h hseq
    · exact Bool.false_ne_true (h.symm.trans hroot)
    · exact h hdev
    · exact Bool.false_ne_true (h.symm.trans hjoin)
    · exact h hstatus)

/-- The descriptor of a fresh opening. -/
def State.freshDescr (s : State) : Descr :=
  { mode := 1, usv := s.upd.semVersion, visa := s.vec.isaVersion, segments := BitVec.ofNat 16 s.freshSegments
    start := s.job.baseStep + 1, members := s.job.members, digest := s.configDigest
    anchorCrc := crc64 ((segsOfVector s.freshSegments s.freshVector).flatMap (fun x => segBytes x.2)), skips := 0 }

/-- The root of a fresh opening holds the segments and the descriptor. -/
def State.freshHeld (s : State) : State :=
  { s with job := { s.job with
    segs := segsOfVector s.freshSegments s.freshVector, segSeq := s.job.seq, descr := some s.freshDescr } }

/-- The segments have gone to every child. -/
def State.freshSent (s : State) : State := s.freshHeld.children.foldl (fun s c => s.sendSegs c) s.freshHeld

theorem openingFresh_of_fit (s : State) (hroot : s.isRoot = true) (hdev : s.job.dev = .opening) (hjoin : s.mayJoin = true)
    (hstatus : s.job.openStatus = 1) : openingFresh s.job.seq s =
      ((s.freshSent.beginPhase .prepare none (s.freshSent.phaseTrans .prepare 0 0 s.freshDescr.bytes)).runPrepare).settle :=
  if_pos (by simp [hroot, hdev, hjoin, hstatus])

theorem openingRestore_of_unfit (seq : U32) (s : State) (h : s.isRoot = false ∨ s.job.dev ≠ .run ∨ seq.toNat ≤ s.job.seq.toNat) :
    openingRestore seq s = s.refuseCommand 2 :=
  if_neg (by
    simp only [Bool.and_eq_true, beq_iff_eq, decide_eq_true_eq]
    rintro ⟨⟨hroot, hdev⟩, hseq⟩
    rcases h with h | h | h
    · exact Bool.false_ne_true (h.symm.trans hroot)
    · exact h hdev
    · omega)

theorem openingResend_of_phase (s : State) (p : PhaseSt) (t : Trans) (hp : s.job.phase = some p) (ht : p.pk = some t)
    (hroot : s.isRoot = true) (hs : p.sender = none) : openingResend s.job.seq s = s.resendPhase p t := by
  rw [openingResend, hp]
  dsimp only
  rw [ht]
  exact if_pos (by simp [hroot, hs])

theorem openingResend_of_unfit (s : State) (seq : U32) (h : s.job.phase = none ∨ seq ≠ s.job.seq ∨ s.isRoot = false) :
    openingResend seq s = s.refuseCommand 3 := by
  unfold openingResend
  split
  · rename_i p hp
    split
    · refine if_neg ?_
      rcases h with h | h | h
      · rw [hp] at h; cases h
      · simp [h]
      · simp [h]
    · rfl
  · rfl

theorem State.mayJoin_false_iff (s : State) : s.mayJoin = false ↔ s.job.fencedAs = some (s.job.jt, s.job.epoch, s.adopted) :=
  bne_eq_false_iff_eq

section
variable (s : State) (seq target : U32) (hroot : s.isRoot = true) (hdev : s.job.dev = .run) (hseq : s.job.seq.toNat < seq.toNat)
include hroot hdev hseq

theorem openingInstallCmd_of_later : openingInstallCmd seq target s =
    if (s.vectorAt target).isNone && !s.headsUnread.isEmpty then (s.awaitHeads seq target).tryInstall else s.commandInstall seq target :=
  if_neg (by simp [State.installFits, hroot, hdev, hseq])

theorem openingInstallCmd_of_noVector (hv : s.vectorAt target = none) (hheads : s.headsUnread = []) :
    openingInstallCmd seq target s = s.noVector 4 := by
  rw [openingInstallCmd_of_later s seq target hroot hdev hseq, if_neg (by simp [hheads]), State.commandInstall, hv]

theorem openingInstallCmd_of_vector (v : List (U32 × Int)) (hv : s.vectorAt target = some v) : openingInstallCmd seq target s =
    State.sendInstall (s.fence.committed + 1) target v (State.readyInstall { s with job := s.job.fresh seq }) := by
  have hne : (seq == s.job.seq) = false := beq_false_of_ne fun e => by simp [e] at hseq
  rw [openingInstallCmd_of_later s seq target hroot hdev hseq, if_neg (by simp [hv]), State.commandInstall, hv]
  dsimp only
  rw [hne]
  rfl

theorem openingInstallCmd_of_unread (hv : s.vectorAt target = none) (hheads : s.headsUnread ≠ []) :
    openingInstallCmd seq target s = (s.awaitHeads seq target).tryInstall := by
  rw [openingInstallCmd_of_later s seq target hroot hdev hseq, if_pos (by simp [hv, hheads])]

end

/-! ## Abandoning -/

theorem openingAbandonCmd_of_restore (s : State) (hdev : s.job.dev = .run) (hr : s.restoring = true) (hroot : s.isRoot = false) :
    openingAbandonCmd s.job.seq s = { s.abandonRestore with job := { s.abandonRestore.job with phase := none } } := by
  unfold openingAbandonCmd
  dsimp only
  rw [if_neg (by simp [hdev]), if_pos (by simp [hdev, hr]), if_neg (by simp [hroot])]

theorem openingAbandonCmd_of_other (s : State) (seq : U32) (h : seq ≠ s.job.seq) : openingAbandonCmd seq s = s.refuseCommand 5 :=
  (if_neg (by simp [h])).trans (if_neg (by simp [h]))

theorem State.abandonRestore_job (s : State) : s.abandonRestore.job = { s.job with
    reachIn := [], pulls := [], rolls := [], gets := [], waitInstall := none, restStatus := 4 } :=
  State.setRestStatus_job 4 _

/-- A claimed device that abandons its opening is RESIGNING. -/
theorem State.abandonOpening_job (s : State) (h : s.job.dev ≠ .safe) : s.abandonOpening.job.dev = .resigning ∧
    s.abandonOpening.job.resignStatus = 1 := by
  unfold State.abandonOpening
  dsimp only
  generalize hu : ((s.setOpenStatus 7).record (ev3 0x2904 unitCC [])).record (ev3 0x2920 unitCC []) = u
  have hdev : u.job.dev ≠ .safe := by
    rw [← hu]
    simpa [State.setOpenStatus_job] using h
  obtain ⟨hresigning, hstatus, -, -⟩ := State.startResign_job u hdev
  exact ⟨hresigning, hstatus⟩

theorem abandonReceive_of_opening (s : State) (pk : Trans) (hseq : pk.a32 4 = s.job.seq) (hjt : pk.jt = s.job.jt)
    (hdev : s.job.dev = .opening) : abandonReceive pk s =
      ((s.takePk (.trans pk)).children.foldl (fun s c => s.sendPhase c pk) (s.takePk (.trans pk))).abandonOpening := by
  have hjob : (s.takePk (.trans pk)).job = s.job := by simp
  unfold abandonReceive
  dsimp only
  rw [hjob, if_neg (by simp [hdev]), if_neg (by simp [hseq]), if_neg (by simp [hseq, hjt, hdev])]

/-! ## Phase packets at a member -/

section
variable (s : State) (ph : OpPhase) (pk : Trans) (go : State → State)

theorem State.onPhase_of_safe (h : s.job.dev = .safe) : s.onPhase ph pk go = s := if_pos h

theorem State.onPhase_of_old (h : s.job.dev ≠ .safe) (hold : (pk.a32 4).toNat < s.job.seq.toNat) : s.onPhase ph pk go = s.countDup := by
  have hgate : s.gate ph pk = .discard := if_pos hold
  unfold State.onPhase
  rw [if_neg h, hgate]

theorem State.onPhase_of_otherTag (h : s.job.dev ≠ .safe) (hseq : s.job.seq.toNat ≤ (pk.a32 4).toNat) (hjt : pk.jt ≠ s.job.jt) :
    s.onPhase ph pk go = s.refusePhase ph pk := by
  have hgate : s.gate ph pk = .bad := (if_neg (Nat.not_lt.2 hseq)).trans (if_pos (bne_iff_ne.2 hjt))
  unfold State.onPhase
  rw [if_neg h, hgate]

theorem State.onPhase_of_first (h : s.job.dev ≠ .safe) (hseq : pk.a32 4 = s.job.seq) (hjt : pk.jt = s.job.jt)
    (hlast : s.job.lastPhase = none) (hphase : s.job.phase = none) (hfit : s.startFits ph = true) :
    s.onPhase ph pk go = State.settle (go (s.beginPhase ph (some (cnOf pk.src)) pk)) := by
  have hgate : s.gate ph pk = .start := by
    unfold State.gate
    dsimp only
    rw [if_neg (by simp [hseq]), if_neg (by simp [hjt]), if_neg (by simp [hseq]), hlast, hphase]
    exact if_pos hfit
  unfold State.onPhase
  rw [if_neg h, hgate]
  dsimp only
  rw [if_pos (by simp [hseq])]

end

/-- A packet of an older sequence is counted, in every state of the device. -/
theorem abandonReceive_of_old (s : State) (pk : Trans) (h : (pk.a32 4).toNat < s.job.seq.toNat) :
    abandonReceive pk s = (s.takePk (.trans pk)).countDup := by
  have hjob : (s.takePk (.trans pk)).job = s.job := by simp
  unfold abandonReceive
  dsimp only
  split
  · rename_i hrun
    exact State.onPhase_of_old _ _ _ _ (by rw [beq_iff_eq.1 hrun]; decide) (by rw [hjob]; exact h)
  · rw [hjob, if_pos h]

/-! ## Acknowledgements -/

theorem openingAckReceive_of_expected (s : State) (pk : Trans) (p : PhaseSt) (hp : s.job.phase = some p) (hsrc : cnOf pk.src ∈ p.expect)
    (hph : pk.a8 1 = p.phase.code) (hseq : pk.a32 4 = p.seq) :
    openingAckReceive pk s = ((s.takePk (.trans pk)).setPhase (p.fold (cnOf pk.src) pk)).settle := by
  have hp' : (s.takePk (.trans pk)).job.phase = some p := by simpa using hp
  unfold openingAckReceive
  dsimp only
  rw [hp']
  exact if_pos (by simp [hsrc, hph, hseq])

theorem openingAckReceive_of_unexpected (s : State) (pk : Trans) (h : ∀ p, s.job.phase = some p → cnOf pk.src ∉ p.expect) :
    openingAckReceive pk s = (s.takePk (.trans pk)).countDup := by
  unfold openingAckReceive
  dsimp only
  split
  · rfl
  · rename_i p hp
    exact if_neg (by simp [h p (by simpa using hp)])

theorem openingChildMissing_of_expected (s : State) (cn : U32) (p : PhaseSt) (t : Trans) (hp : s.job.phase = some p)
    (hcn : cn ∈ p.expect) (ht : p.pk = some t) : openingChildMissing cn s = s.phaseChildMissing cn p t := by
  have hfilter : s.job.phase.filter (fun p => p.expect.contains cn) = some p := by simp [hp, hcn]
  unfold openingChildMissing
  rw [hfilter]
  dsimp only
  rw [ht]

theorem State.settle_of_idle (s : State) (h : s.job.phase = none) : s.settle = s := by
  rw [State.settle, h]

/-- A COMMIT whose own part is not done is not settled. -/
theorem State.settle_of_openCommit (s : State) (p : PhaseSt) (hp : s.job.phase = some p) (hc : p.phase = .commit) (ho : p.own = none) :
    s.settle = s := by
  rw [State.settle, hp]
  dsimp only
  rw [hc]
  dsimp only
  rw [State.settleCommit, hp]
  exact if_pos (by simp [PhaseSt.settled, ho])

/-- A phase with a child that is missing and has no children of its own. -/
def PhaseSt.without (cn : U32) (p : PhaseSt) : PhaseSt :=
  { p with expect := p.expect.filter (· != cn), missing := p.missing ++ [cn], missCount := p.missCount + 1 }

/-- The child of a COMMIT that is missing is adopted, and as it has no children nothing is sent. -/
theorem State.phaseChildMissing_of_leaf (s : State) (cn : U32) (p : PhaseSt) (t : Trans) (hc : p.phase = .commit)
    (hkids : s.childrenOf cn = []) (ho : p.own = none) (hadopt : s.job.adopted.contains cn = false) :
    (s.phaseChildMissing cn p t).job =
      { s.job with adopted := cn :: s.job.adopted, adoptions := bump s.job.adoptions, phase := some (p.without cn) } := by
  have hrec (e : Event) (j : JobState) (hj : j.phase = some (p.without cn)) :
      (({ s with job := j } : State).record e).settle = ({ s with job := j } : State).record e :=
    State.settle_of_openCommit _ (p.without cn) (by simp [hj]) hc ho
  unfold State.phaseChildMissing
  simp only [hkids, List.filter_nil, List.append_nil, List.foldl_nil, State.setPhase, hadopt, Bool.false_eq_true, if_false]
  rw [hrec _ _ rfl]
  simp [PhaseSt.without]

/-! ## The end of an INSTALL, and what a survey hears -/

/-- An INSTALL whose own part is not done. -/
theorem any_openInstall {o : Option PhaseSt} {p : PhaseSt} (hp : o = some p) (hi : p.phase = .install) (ho : p.own = none) :
    o.any (fun p => p.phase == .install && p.own.isNone) = true := by simp [hp, hi, ho]

theorem installComplete_of_noInstall (s : State) (h : ∀ p, s.job.phase = some p → p.phase ≠ .install ∨ p.own.isSome = true) :
    installComplete s = s := by
  refine if_pos ?_
  cases hp : s.job.phase with
  | none => rfl
  | some p => rcases h p hp with h | h <;> simp [h]

theorem installComplete_of_failed (s : State) (p : PhaseSt) (hp : s.job.phase = some p) (hi : p.phase = .install) (ho : p.own = none)
    (hf : s.installFailed = true) : installComplete s = (s.setOwn (some 9)).settle :=
  (if_neg (by rw [any_openInstall hp hi ho]; decide)).trans (if_pos hf)

theorem installComplete_of_done (s : State) (p : PhaseSt) (hp : s.job.phase = some p) (hi : p.phase = .install) (ho : p.own = none)
    (hf : s.installFailed = false) (hd : s.installDone = true) : installComplete s = (s.completeInstall.setOwn none).settle :=
  (if_neg (by rw [any_openInstall hp hi ho]; decide)).trans ((if_neg (by simp [hf])).trans (if_pos hd))

/-- A stream check that came. -/
def State.streamHeard (pk : Trans) (s : State) : State :=
  { s with job := { s.job with streamChecks := s.job.streamChecks.filter (fun x => x.1 != cnOf pk.src) ++ [(cnOf pk.src, pk.b)] } }

theorem streamCheckReceive_of_idle (s : State) (pk : Trans) (h : s.job.phase = none) :
    streamCheckReceive pk s = (s.takePk (.trans pk)).streamHeard pk := if_neg (by simp [h])

/-- The partner's reach of a shard that came. -/
def State.reachHeard (pk : Trans) (s : State) : State :=
  { s with job := { s.job with reachIn := s.job.reachIn.filter (fun x => x.1 != pk.a32 0) ++ [(pk.a32 0, pk.b)] } }

theorem State.trySurvey_of_idle (s : State) (h : s.job.phase = none) : s.trySurvey = s := if_neg (by simp [State.surveying, h])

theorem reachReceive_of_partner (s : State) (pk : Trans) (h : s.job.phase = none) (hn : s.part.named = true)
    (hsrc : cnOf pk.src = s.part.partner) : reachReceive pk s = (s.takePk (.trans pk)).reachHeard pk := by
  have hidle : ((s.takePk (.trans pk)).reachHeard pk).job.phase = none := by simpa [State.reachHeard] using h
  have htry := State.trySurvey_of_idle _ hidle
  have hsettle := State.settle_of_idle _ hidle
  refine (if_neg (by simp [hn, hsrc])).trans ?_
  exact (congrArg State.settle htry).trans hsettle

theorem reachReceive_of_other (s : State) (pk : Trans) (h : s.part.named = false ∨ cnOf pk.src ≠ s.part.partner) :
    reachReceive pk s = s.takePk (.trans pk) := if_pos (by rcases h with h | h <;> simp [h])

/-! ## Pulls -/

theorem pullReqReceive_of_noOwner (s : State) (pk : Trans) (h : s.ownerIx (cnOf pk.src) = none) :
    pullReqReceive pk s = (s.takePk (.trans pk)).refuseSource (cnOf pk.src) := by
  unfold pullReqReceive
  dsimp only
  rw [State.ownerIx_takePk, h]

theorem pullReqReceive_of_slots (s : State) (pk : Trans) (ix : Fin 4) (last : U32) (u : State) (h : s.ownerIx (cnOf pk.src) = some ix)
    (hg : Stream.ofSel (pk.a8 5).toNat = some .g)
    (hsent : State.sendSlots ix (cnOf pk.src) (pk.a32 0) (pk.a32 8) (pk.a32 12).toNat (s.takePk (.trans pk)) = (last, u)) :
    pullReqReceive pk s = u.pullDone (cnOf pk.src) (pk.a32 0) .g 0 last 0 := by
  unfold pullReqReceive
  dsimp only
  rw [State.ownerIx_takePk, h, hg]
  dsimp only
  rw [hsent]

theorem State.pullOf_takePk (q : Packet) (ts : U32) (sel : Nat) (s : State) : (s.takePk q).pullOf ts sel = s.pullOf ts sel := by
  unfold State.takePk
  split <;> rfl
theorem State.ownerOf_takePk (q : Packet) (ts : U32) (s : State) : (s.takePk q).ownerOf ts = s.ownerOf ts := by
  unfold State.takePk
  split <;> rfl

theorem pullDoneReceive_of_more (s : State) (pk : Trans) (p : Pull) (e : TensorEntry) (hp : s.pullOf (pk.a32 0) (pk.a8 5).toNat = some p)
    (he : s.ownerOf (pk.a32 0) = some e) (hn : s.part.named = true) (hsrc : cnOf pk.src = s.part.partner) (hg : p.stream ≠ .g)
    (hd : p.digest = pk.b) (hmore : ∃ x ∈ s.job.pulls, x ≠ p ∧ x.ts = pk.a32 0) :
    pullDoneReceive pk s = (s.takePk (.trans pk)).dropPull p := by
  obtain ⟨x, hx, hne, hts⟩ := hmore
  have hleft : ((s.takePk (.trans pk)).dropPull p).job.pulls.any (·.ts == pk.a32 0) = true :=
    List.any_eq_true.2 ⟨x, List.mem_filter.2 ⟨by simpa using hx, by simpa using hne⟩, beq_iff_eq.2 hts⟩
  unfold pullDoneReceive
  dsimp only
  rw [State.pullOf_takePk, State.ownerOf_takePk, hp, he]
  dsimp only
  rw [if_neg (by simp [hn, hsrc]), if_neg hg, if_pos (beq_iff_eq.2 hd), if_pos hleft]

theorem pullTimeout_of_pull (s : State) (ts : U32) (sel : U8) (p : Pull) (hp : s.pullOf ts sel.toNat = some p) (ht : p.tries < 3) :
    pullTimeout ts sel s = State.sendPull { p with tries := p.tries + 1, digest := 0 }
      (s.setPull p { p with tries := p.tries + 1, digest := 0 }) := by
  rw [pullTimeout, hp]
  exact if_pos ht

theorem pullTimeout_of_none (s : State) (ts : U32) (sel : U8) (hp : s.pullOf ts sel.toNat = none) : pullTimeout ts sel s = s := by
  rw [pullTimeout, hp]

/-! ## Parts of an image -/

/-- The read of an image that a response answers. -/
def State.getOf (pk : Trans) (s : State) : Option StoreGet :=
  s.job.gets.find? (fun g => g.obj == pk.a64 0 && !g.done && pk.b == BitVec.ofNat 64 g.data.length)

theorem State.getOf_takePk (q : Packet) (pk : Trans) (s : State) : (s.takePk q).getOf pk = s.getOf pk := by
  simp [State.getOf]

theorem storeGetResponse_of_part (s : State) (pk : Trans) (g : StoreGet) (h : s.getOf pk = some g) (h0 : pk.a8 12 = 0) :
    storeGetResponse pk s = State.checkPart g (cnOf pk.src) (Block.ofBytes pk.body) (s.takePk (.trans pk)) := by
  unfold storeGetResponse
  dsimp only
  rw [← State.getOf, State.getOf_takePk, h]
  exact if_pos (by simp [h0])

theorem storeGetResponse_of_none (s : State) (pk : Trans) (h : s.getOf pk = none) : storeGetResponse pk s = s.takePk (.trans pk) := by
  unfold storeGetResponse
  dsimp only
  rw [← State.getOf, State.getOf_takePk, h]

section
variable (s : State) (g : StoreGet) (src : U32) (b : Block)

theorem State.checkPart_of_badCrc (h : b.hdr.crcOk = false) : (s.checkPart g src b).chk = { s.chk with hdrFail := bump s.chk.hdrFail } ∧
    (s.checkPart g src b).job = s.job := by
  constructor <;> simp [State.checkPart, h]

theorem State.checkPart_of_badForm (hc : b.hdr.crcOk = true) (h : b.hdr.valid = false) :
    (s.checkPart g src b).chk = { s.chk with invalid := bump s.chk.invalid } ∧ (s.checkPart g src b).job = s.job := by
  constructor <;> simp [State.checkPart, hc, h]

variable (hc : b.hdr.crcOk = true) (hv : b.hdr.valid = true)
include hc hv

theorem State.checkPart_of_poison (h : b.hdr.poison = true) : s.checkPart g src b =
    State.takePart g b { s with chk := { s.chk with poisonedRecv := bump s.chk.poisonedRecv } } := by
  simp [State.checkPart, hc, hv, h]

theorem State.checkPart_of_good (h : b.hdr.poison = false) (hpay : b.payOk = true) : s.checkPart g src b =
    State.takePart g b { s with chk := { s.chk with payChecks := bump s.chk.payChecks } } := by
  simp [State.checkPart, hc, hv, h, hpay]

/-- A part whose payload fails its check is counted and asked for again. -/
theorem State.checkPart_of_badPay (h : b.hdr.poison = false) (hpay : b.payOk = false) : s.checkPart g src b =
    State.partFailed g src { s with chk := { s.chk with payChecks := bump s.chk.payChecks } } := by
  simp [State.checkPart, hc, hv, h, hpay]

end

theorem State.partFailed_frame (g : StoreGet) (src : U32) (s : State) :
    (s.partFailed g src).chk = { s.chk with payRecv := bump s.chk.payRecv } ∧ (s.partFailed g src).job = s.job := by
  unfold State.partFailed
  dsimp only
  constructor
  · exact ((State.sendResend_keep (M := 0xC0C00) rfl _ _ _ _ _ _ _ _ _ _ (Keep.refl _ _)).chk rfl).trans (by simp)
  · exact ((State.sendResend_keep (M := 0xC0C00) rfl _ _ _ _ _ _ _ _ _ _ (Keep.refl _ _)).job rfl).trans (by simp)

/-- Settles O51. The model's choices among its clauses are log 83 (an INSTALL command waits for heads that are not read), log 25
(selector G asks for the slots of a roll-forward), log 81 (a part whose header fails stays asked for) and log 76 (`mayJoin` and
`fencedAs`, R11). -/
theorem openingPhasesAreGatedAndSettled : Obligations.OpeningPhasesAreGatedAndSettled := by
  unfold Obligations.OpeningPhasesAreGatedAndSettled
  refine ⟨?freshUnfit, ?fresh, ?restoreUnfit, ?restore, ?resend, ?resendUnfit, ?mayJoin, ?noVector, ?install, ?unread, ?abandon,
    ?abandonOther, ?abandonOpening, ?abandonOld, ?prepare, ?survey, ?installPk, ?commit, ?safe, ?old, ?first, ?otherTag, ?begins,
    ?ack, ?ackOther, ?missing, ?adopted, ?noInstall, ?installDone, ?installFailed, ?streamCheck, ?reach, ?reachOther, ?noSurvey,
    ?surveyEnds, ?noOwner, ?slots, ?pulled, ?repeated, ?noPull, ?part, ?badCrc, ?badForm, ?poison, ?good, ?badPay, ?noGet⟩
  case freshUnfit =>
    intro s seq h
    exact completes_of (congrArg Host.Outcome.next (openingFresh_of_unfit seq s h)) (State.refuseCommand_frame 1 s)
  case fresh =>
    intro s hroot hdev hjoin hstatus
    have hjob : s.freshSent.job = s.freshHeld.job := State.sendSegsTo_job _ _
    refine ⟨s.freshSent, congrArg JobState.segs hjob, congrArg JobState.descr hjob, ?_⟩
    rw [show s.freshSent.job.descr = some s.freshDescr from congrArg JobState.descr hjob]
    exact congrArg Host.Outcome.next (openingFresh_of_fit s hroot hdev hjoin hstatus)
  case restoreUnfit =>
    intro s seq h
    exact completes_of (congrArg Host.Outcome.next (openingRestore_of_unfit seq s h)) (State.refuseCommand_frame 2 s)
  case restore =>
    rintro s seq _ hroot hdev hseq rfl
    exact congrArg Host.Outcome.next (if_pos (by simp [hroot, hdev, hseq]))
  case resend =>
    intro s p t hp ht hroot hs
    exact congrArg Host.Outcome.next (openingResend_of_phase s p t hp ht hroot hs)
  case resendUnfit =>
    intro s seq h
    exact completes_of (congrArg Host.Outcome.next (openingResend_of_unfit s seq h)) (State.refuseCommand_frame 3 s).1
  case mayJoin => exact State.mayJoin_false_iff
  case noVector =>
    intro s seq target hroot hdev hseq hv hheads
    exact completes_of (congrArg Host.Outcome.next (openingInstallCmd_of_noVector s seq target hroot hdev hseq hv hheads))
      (State.noVector_frame 4 s)
  case install =>
    intro s seq target v hroot hdev hseq hv
    exact congrArg Host.Outcome.next (openingInstallCmd_of_vector s seq target hroot hdev hseq v hv)
  case unread =>
    intro s seq target hroot hdev hseq hv hheads
    exact congrArg Host.Outcome.next (openingInstallCmd_of_unread s seq target hroot hdev hseq hv hheads)
  case abandon =>
    intro s hdev hr hroot
    refine completes_of (congrArg Host.Outcome.next (openingAbandonCmd_of_restore s hdev hr hroot)) ?_
    rw [State.abandonRestore_job]
    exact ⟨rfl, rfl, hdev⟩
  case abandonOther =>
    intro s seq h
    exact completes_of (congrArg Host.Outcome.next (openingAbandonCmd_of_other s seq h)) (State.refuseCommand_frame 5 s).1
  case abandonOpening =>
    intro s port pk hseq hjt hdev
    refine completes_of (congrArg Host.Outcome.next (abandonReceive_of_opening s pk hseq hjt hdev)) ?_
    exact State.abandonOpening_job _ (by rw [State.sendPhases_job]; simp [hdev])
  case abandonOld =>
    intro s port pk h
    exact completes_of (congrArg Host.Outcome.next (abandonReceive_of_old s pk h)) (by simp [State.countDup])
  case prepare => exact fun _ _ _ => rfl
  case survey => exact fun _ _ _ => rfl
  case installPk => exact fun _ _ _ => rfl
  case commit => exact fun _ _ _ => rfl
  case safe => exact fun s ph pk go h => s.onPhase_of_safe ph pk go h
  case old => exact fun s ph pk go h hold => s.onPhase_of_old ph pk go h hold
  case first => exact fun s ph pk go h hseq hjt hlast hphase hfit => s.onPhase_of_first ph pk go h hseq hjt hlast hphase hfit
  case otherTag => exact fun s ph pk go h hseq hjt => s.onPhase_of_otherTag ph pk go h hseq hjt
  case begins => exact fun s ph sender t => s.beginPhase_phase ph sender t
  case ack =>
    intro s port pk p hp hsrc hph hseq
    refine ⟨congrArg Host.Outcome.next (openingAckReceive_of_expected s pk p hp hsrc hph hseq), rfl, rfl, ?_⟩
    intro hnone href
    simp [PhaseSt.fold, hnone, href]
  case ackOther =>
    intro s port pk h
    exact completes_of (congrArg Host.Outcome.next (openingAckReceive_of_unexpected s pk h)) (by simp [State.countDup])
  case missing =>
    intro s cn p t hp hcn ht
    exact congrArg Host.Outcome.next (openingChildMissing_of_expected s cn p t hp hcn ht)
  case adopted =>
    intro s cn p t hp hc hkids ho hadopt
    exact s.phaseChildMissing_of_leaf cn p t hc hkids ho hadopt
  case noInstall =>
    intro s h
    exact congrArg Host.Outcome.next (installComplete_of_noInstall s h)
  case installDone =>
    intro s p hp hi ho hf hd
    exact congrArg Host.Outcome.next (installComplete_of_done s p hp hi ho hf hd)
  case installFailed =>
    intro s p hp hi ho hf
    exact congrArg Host.Outcome.next (installComplete_of_failed s p hp hi ho hf)
  case streamCheck =>
    intro s port pk h
    refine completes_of (congrArg Host.Outcome.next (streamCheckReceive_of_idle s pk h)) ?_
    exact ⟨by simp [State.streamHeard], Quiet.of (by simp [State.streamHeard])⟩
  case reach =>
    intro s port pk h hn hsrc
    refine completes_of (congrArg Host.Outcome.next (reachReceive_of_partner s pk h hn hsrc)) ?_
    exact ⟨by simp [State.reachHeard], Quiet.of (by simp [State.reachHeard])⟩
  case reachOther =>
    intro s port pk h
    exact congrArg Host.Outcome.next (reachReceive_of_other s pk h)
  case noSurvey => exact fun s h => congrArg Host.Outcome.next (if_neg (by simp [h]))
  case surveyEnds => exact fun s h => congrArg Host.Outcome.next (if_pos h)
  case noOwner =>
    intro s port pk h
    refine completes_of (congrArg Host.Outcome.next (pullReqReceive_of_noOwner s pk h)) ?_
    obtain ⟨hrefusals, -, hmem, -⟩ := State.refuseSource_frame (cnOf pk.src) (s.takePk (.trans pk))
    exact ⟨by simpa using hrefusals, by simpa using hmem⟩
  case slots =>
    intro s port pk ix last u h hg hsent
    exact congrArg Host.Outcome.next (pullReqReceive_of_slots s pk ix last u h hg hsent)
  case pulled =>
    intro s port pk p e hp he hn hsrc hg hd hmore
    refine completes_of (congrArg Host.Outcome.next (pullDoneReceive_of_more s pk p e hp he hn hsrc hg hd hmore)) ?_
    exact ⟨by simp [State.dropPull], Quiet.of (by simp [State.dropPull])⟩
  case repeated =>
    intro s ts sel p hp ht
    refine completes_of (congrArg Host.Outcome.next (pullTimeout_of_pull s ts sel p hp ht)) ?_
    exact (State.sendPull_keep (M := 0xC0C00) rfl _ _ (Keep.refl _ _)).job rfl
  case noPull =>
    intro s ts sel hp
    exact congrArg Host.Outcome.next (pullTimeout_of_none s ts sel hp)
  case part =>
    intro s port pk g h h0
    exact congrArg Host.Outcome.next (storeGetResponse_of_part s pk g h h0)
  case badCrc => exact fun s g src b h => s.checkPart_of_badCrc g src b h
  case badForm => exact fun s g src b hc h => s.checkPart_of_badForm g src b hc h
  case poison => exact fun s g src b hc hv h => s.checkPart_of_poison g src b hc hv h
  case good => exact fun s g src b hc hv h hpay => s.checkPart_of_good g src b hc hv h hpay
  case badPay =>
    intro s g src b hc hv h hpay
    obtain ⟨hchk, hjob⟩ := State.partFailed_frame g src { s with chk := { s.chk with payChecks := bump s.chk.payChecks } }
    rw [s.checkPart_of_badPay g src b hc hv h hpay]
    exact ⟨hchk, congrArg JobState.gets hjob⟩
  case noGet =>
    intro s port pk h
    exact congrArg Host.Outcome.next (storeGetResponse_of_none s pk h)

end Sys2Proof.Machine
end

section
/-! SUPPORT. Suspicion, arbitration, declarations and epoch fences (R394 to R407). -/
namespace Sys2Proof.Machine
open Sys2Proof Sys2Proof.Statements

/-! ## The adopted position -/

theorem State.adopted_congr {s t : State} (h : t.route.substActive = s.route.substActive) (k : t.ident = s.ident) :
    t.adopted = s.adopted := by simp only [State.adopted, State.own, h, k]

theorem State.adopted_takePk (q : Packet) (s : State) : (s.takePk q).adopted = s.adopted := by
  unfold State.takePk
  split <;> rfl

theorem State.switchPk_substActive (x : PoolPk) (s : State) : (s.switchPk x).route.substActive = s.route.substActive := by
  unfold State.switchPk
  dsimp only
  split
  · split
    · split
      · rfl
      · simp [State.freePool]
    · simp
  · rfl
  · split
    · rfl
    · simp [State.freePool]

theorem State.send_substActive (pk : Packet) (s : State) : (s.send pk).route.substActive = s.route.substActive := by
  unfold State.send State.sendVc State.forward State.enterPool
  split
  · rfl
  · dsimp only
    split
    · rfl
    · exact State.switchPk_substActive ..

/-- A fence that is sent leaves the position the device has adopted. -/
theorem State.adopted_sendFence (dst step : U32) (kind : U8) (a b c body : List Byte) (s : State) :
    (s.sendFence dst step kind a b c body).adopted = s.adopted := by
  refine State.adopted_congr ?_ (by simp)
  exact (congrArg RouteState.substActive (by simp [State.sendFence, State.sendTrans])).trans
    (State.send_substActive (.trans (s.mkTrans opFENCE dst step ([kind] ++ a) b c body)) s)

/-! ## Suspicion of a port's peer -/

theorem suspectPort_of_first (p : Port) (pos : U32) (s : State) (h8 : 8 ≤ p.val) (hj : s.jobPort p = true) (hx : s.exempt p = false)
    (hp : s.peerPosition p = some pos) (hn : pos ∉ s.det.sentFor) : (s.suspectPort p).det =
      { s.det with sentFor := pos :: s.det.sentFor, suspSent := bump s.det.suspSent } := by
  unfold State.suspectPort
  rw [if_neg (by simp [hj, hx, Nat.not_lt.2 h8]), hp]
  dsimp only
  rw [if_neg (by simp [hn])]
  exact ((State.sendSuspect_keep (M := 0xC0C00) rfl pos p _ (Keep.refl _ _)).det rfl).trans (by simp)

theorem suspectPort_of_other (p : Port) (s : State) (h : p.val < 8 ∨ s.jobPort p = false ∨ s.exempt p = true) : s.suspectPort p = s :=
  if_pos (by rcases h with h | h | h <;> simp [h])

/-- An agent that is lost for the first time is counted, and its port says so. -/
theorem State.loseAgent_of_first (p : Port) (s : State) (h8 : p.val < 8) (hj : s.jobPort p = true) (hl : (s.port p).agentLost = false) :
    (s.loseAgent p).det.agentLosses = bump s.det.agentLosses ∧ ((s.loseAgent p).port p).agentLost = true := by
  have hgone : (s.agentGone p).det.agentLosses = bump s.det.agentLosses := rfl
  have hport : ((s.agentGone p).port p).agentLost = true := congrArg PortSt.agentLost (State.port_agentGone p s)
  rw [State.loseAgent_eq, if_neg (by simp [h8, hj, hl])]
  split
  · have hdet := (State.sendSuspect_keep (M := 0xC0C00) rfl (s.agentGone p).adopted p
      ((s.agentGone p).record (ev3 0x4009 unitFault (arg1 p.val))) (Keep.refl _ _)).det rfl
    obtain ⟨q, hq⟩ := (State.sendSuspect_onlyQueues (s.agentGone p).adopted p
      ((s.agentGone p).record (ev3 0x4009 unitFault (arg1 p.val)))).port p
    exact ⟨by rw [hdet]; simpa using hgone, by rw [hq]; simpa using hport⟩
  · exact ⟨by simpa using hgone, by simpa using hport⟩

/-! ## Arbitration -/

theorem State.arbiterRole_takePk (q : Packet) (s : State) : (s.takePk q).arbiterRole = s.arbiterRole := by
  unfold State.takePk
  split <;> rfl
theorem State.suspicion_takePk (q : Packet) (pos : U32) (s : State) : (s.takePk q).suspicion pos = s.suspicion pos := by
  unfold State.takePk
  split <;> rfl

/-- A SUSPECT counted at an arbiter. -/
def State.suspCounted (s : State) : State := { s with det := { s.det with suspRecv := bump s.det.suspRecv } }

/-- A new suspicion of a position, with its first probe. -/
def State.suspected (src pos : U32) (s : State) : State :=
  State.probe pos { s with det := { s.det with
    records := s.det.records ++ [{ pos := pos, watchers := [src], probes := 1, firstAt := s.time.now }] } }

theorem State.arbitrate_of_first (src pos : U32) (s : State) (hne : src ≠ pos) (hnone : s.suspicion pos = none) :
    s.arbitrate src pos = s.suspected src pos := by
  unfold State.arbitrate
  rw [if_neg (by simp [hne]), hnone]
  rfl

theorem suspectReceive_of_first (s : State) (pk : Trans) (hf : s.job.dev ≠ .fenced) (hs : s.job.dev ≠ .safe) (ha : s.arbiterRole ≠ 0)
    (he : s.job.epoch.toNat ≤ pk.epoch.toNat) (hsrc : cnOf pk.src ∉ s.det.fenced) (hpos : cnOf (pk.a32 4) ∉ s.det.fenced)
    (hne : cnOf pk.src ≠ cnOf (pk.a32 4)) (hnone : s.suspicion (cnOf (pk.a32 4)) = none) :
    suspectReceive pk s = (s.takePk (.trans pk)).suspCounted.suspected (cnOf pk.src) (cnOf (pk.a32 4)) := by
  have hnone' : (s.takePk (.trans pk)).suspCounted.suspicion (cnOf (pk.a32 4)) = none := (State.suspicion_takePk ..).trans hnone
  have harb : ((s.takePk (.trans pk)).arbiterRole != 0) = true := by rw [State.arbiterRole_takePk]; exact bne_iff_ne.2 ha
  rw [← State.arbitrate_of_first _ _ _ hne hnone']
  unfold suspectReceive
  dsimp only
  rw [harb, if_neg (by simp [hf, hs]), if_pos rfl, if_neg (by simp [hsrc, hpos, he]), if_pos rfl]
  rfl

theorem suspectReceive_of_noArbiter (s : State) (pk : Trans) (hf : s.job.dev ≠ .fenced) (hs : s.job.dev ≠ .safe) (ha : s.arbiterRole = 0)
    (he : pk.epoch.toNat < s.job.epoch.toNat) : suspectReceive pk s = (s.takePk (.trans pk)).detRefuse := by
  have harb : ((s.takePk (.trans pk)).arbiterRole != 0) = false := by rw [State.arbiterRole_takePk, ha]; rfl
  unfold suspectReceive
  dsimp only
  rw [harb, if_neg (by simp [hf, hs]), if_neg Bool.false_ne_true, if_pos (by simp [he])]

theorem suspectReceive_of_out (s : State) (pk : Trans) (h : s.job.dev = .fenced ∨ s.job.dev = .safe) :
    suspectReceive pk s = s.takePk (.trans pk) := if_pos (by simpa using h)

/-! ## Probes -/

theorem State.probed_of_safe (s : State) (pos : U32) (h : s.job.dev = .safe) : s.probed pos = none := if_pos h

theorem State.probed_of_record (s : State) (pos : U32) (r : Suspicion) (h : s.job.dev ≠ .safe) (hr : s.suspicion pos = some r) :
    s.probed pos = some r := (if_neg h).trans hr

theorem probeAnswer_of_record (s : State) (pos : U32) (w : U64) (r : Suspicion) (h : s.probed pos = some r) :
    probeAnswer pos w s = if isolatedWord s.job.jt w then s.flagFall pos 2 r.watchers.length
      else State.record (ev3 0x4001 unitFault []) { s with det := { s.det with
        records := s.det.records.filter (fun x => x.pos != pos), dismissed := bump s.det.dismissed } } := by
  rw [probeAnswer, h]
  rfl

theorem probeTimeout_of_record (s : State) (pos : U32) (r : Suspicion) (h : s.probed pos = some r) : probeTimeout pos s =
    if r.watchers.length ≥ s.det.quorum.toNat ∨ r.probes ≥ 3 then s.flagFall pos 1 r.watchers.length
    else (s.setSuspicion { r with probes := r.probes + 1 }).probe pos := by
  rw [probeTimeout, h]

/-! ## Fencing a position -/

/-- What becomes of a port whose peer is fenced. -/
def PortSt.fenceOff (q : PortSt) : PortSt := { q with st := .disabled, trainStep := 0, fencedOff := true }

theorem State.peerPosition_congr {s t : State} (h : t.route = s.route) (p : Port) : t.peerPosition p = s.peerPosition p := by
  simp only [State.peerPosition, State.expectedPeer, State.wireOf, State.positionOf, h]

/-- The port is disabled when its peer is the position. -/
def State.disableAt (pos : U32) (s : State) (p : Port) : State := if s.peerPosition p == some pos then s.setPort p PortSt.fenceOff else s

theorem State.disableAt_route (pos : U32) (s : State) (p : Port) : (s.disableAt pos p).route = s.route := by
  unfold State.disableAt
  split <;> rfl

theorem State.disableAll_route (pos : U32) (l : List Port) (s : State) : (l.foldl (State.disableAt pos) s).route = s.route :=
  eq_foldl_of_eq (fun x : State => x.route) (State.disableAt_route pos) l s

theorem State.disableAt_port_of_ne (pos : U32) (s : State) {p q : Port} (h : q ≠ p) : (s.disableAt pos p).port q = s.port q := by
  unfold State.disableAt
  split
  · exact State.port_setPort_ne h _ s
  · rfl

/-- A port whose peer is another is left alone. -/
theorem State.disableAll_port_of_other (pos : U32) (p : Port) (l : List Port) (s : State) (h : s.peerPosition p ≠ some pos) :
    (l.foldl (State.disableAt pos) s).port p = s.port p := by
  induction l generalizing s with
  | nil => rfl
  | cons q l ih =>
    have hroute := State.disableAt_route pos s q
    refine (ih _ (by rw [State.peerPosition_congr hroute]; exact h)).trans ?_
    by_cases hq : p = q
    · subst hq
      rw [State.disableAt, if_neg (by simpa using h)]
    · exact State.disableAt_port_of_ne pos s hq

/-- A port that is fenced off stays so. -/
theorem State.disableAt_keeps (pos : U32) (s : State) (p q : Port) (h : (s.port q).st = .disabled ∧ (s.port q).fencedOff = true) :
    ((s.disableAt pos p).port q).st = .disabled ∧ ((s.disableAt pos p).port q).fencedOff = true := by
  by_cases hq : q = p
  · subst hq
    unfold State.disableAt
    split
    · rw [State.port_setPort_self]
      exact ⟨rfl, rfl⟩
    · exact h
  · rw [State.disableAt_port_of_ne pos s hq]
    exact h

theorem State.disableAll_keeps (pos : U32) (q : Port) (l : List Port) (s : State)
    (h : (s.port q).st = .disabled ∧ (s.port q).fencedOff = true) :
    ((l.foldl (State.disableAt pos) s).port q).st = .disabled ∧ ((l.foldl (State.disableAt pos) s).port q).fencedOff = true := by
  induction l generalizing s with
  | nil => exact h
  | cons p l ih => exact ih _ (State.disableAt_keeps pos s p q h)

/-- Every port of the list toward the position is disabled and fenced off. -/
theorem State.disableAll_port_of_peer (pos : U32) (p : Port) (l : List Port) (s : State) (hp : p ∈ l) (h : s.peerPosition p = some pos) :
    ((l.foldl (State.disableAt pos) s).port p).st = .disabled ∧ ((l.foldl (State.disableAt pos) s).port p).fencedOff = true := by
  induction l generalizing s with
  | nil => cases hp
  | cons q l ih =>
    by_cases hq : p = q
    · subst hq
      refine State.disableAll_keeps pos p l _ ?_
      rw [State.disableAt, if_pos (beq_iff_eq.2 h), State.port_setPort_self]
      exact ⟨rfl, rfl⟩
    · exact ih _ ((List.mem_cons.1 hp).resolve_left hq) (by rw [State.peerPosition_congr (State.disableAt_route pos s q)]; exact h)

theorem State.disableToward_eq (pos : U32) (s : State) : s.disableToward pos = (List.finRange 24).foldl (State.disableAt pos) s := rfl

/-- A position on the list of the fenced ones. -/
def DetState.listFenced (pos : U32) (d : DetState) : DetState := { d with fenced := d.fenced ++ [pos], fencedCount := bump d.fencedCount }

/-- Another position that is fenced joins the list, and is counted. -/
theorem State.fencePosition_frame (pos : U32) (cause : U8) (s : State) : (s.fencePosition pos cause).det = s.det.listFenced pos ∧
    (s.fencePosition pos cause).job = s.job := by
  unfold State.fencePosition
  extract_lets d s1 s2 p s3
  have k2 : Keep 0x400 s1 s2 := State.disableToward_keep rfl pos s1 (Keep.refl _ s1)
  clear_value s2
  have h3 : s3.det = s2.det ∧ s3.job = s2.job := by
    unfold s3
    split
    · exact ⟨(State.noteNoPartner_keep (M := 0xC1000) rfl _ (Keep.refl _ _)).det rfl,
        (State.noteNoPartner_keep (M := 0xC1000) rfl _ (Keep.refl _ _)).job rfl⟩
    · exact ⟨rfl, rfl⟩
  have kr := State.record_keep (M := 0xC0000) rfl (ev3 0x4003 unitFault (arg4 pos ++ [cause])) s3 (Keep.refl _ s3)
  exact ⟨(kr.det rfl).trans (h3.1.trans (k2.det rfl)), (kr.job rfl).trans (h3.2.trans (k2.job rfl))⟩

/-! ## Flag falls -/

/-- The detector, the job and the adopted position are as before. -/
structure SendsOnly (s t : State) : Prop where
  det : t.det = s.det
  job : t.job = s.job
  adopted : t.adopted = s.adopted

theorem SendsOnly.refl (s : State) : SendsOnly s s := ⟨rfl, rfl, rfl⟩
theorem SendsOnly.trans {s t u : State} (h : SendsOnly s t) (k : SendsOnly t u) : SendsOnly s u :=
  ⟨k.det.trans h.det, k.job.trans h.job, k.adopted.trans h.adopted⟩
theorem SendsOnly.foldl {α : Type} {g : State → α → State} (k : ∀ x a, SendsOnly x (g x a)) (l : List α) (s : State) :
    SendsOnly s (l.foldl g s) := by
  induction l generalizing s with
  | nil => exact .refl s
  | cons a l ih => exact (k s a).trans (ih _)

theorem State.sendFence_sendsOnly (dst step : U32) (kind : U8) (a b c body : List Byte) (s : State) :
    SendsOnly s (s.sendFence dst step kind a b c body) := ⟨by simp, by simp, State.adopted_sendFence ..⟩

theorem State.passDeclare_sendsOnly (pos : U32) (cause : U8) (by_ : U32) (s : State) : SendsOnly s (s.passDeclare pos cause by_) :=
  .foldl (fun _ _ => State.sendFence_sendsOnly ..) _ s

/-- A flag fall is counted and recorded. -/
def State.fallCounted (pos : U32) (cause : U8) (watchers : Nat) (s : State) : State :=
  State.record (ev1 0x4002 unitFault (arg4 pos ++ [cause] ++ arg4 (BitVec.ofNat 32 watchers)))
    { s with det := { s.det with flagFalls := bump s.det.flagFalls, records := s.det.records.filter (fun r => r.pos != pos) } }

/-- The declaration of a position enters the tree. -/
def State.declareDown (pos : U32) (cause : U8) (s : State) : State :=
  if (s.declareTop pos).contains s.adopted then s.passDeclare pos cause s.adopted
  else (s.declareTop pos).foldl (fun t c => t.sendFence c 0 5 (declareA pos cause t.adopted) [] [] []) s

theorem State.declareDown_sendsOnly (pos : U32) (cause : U8) (s : State) : SendsOnly s (s.declareDown pos cause) := by
  unfold State.declareDown
  split
  · exact State.passDeclare_sendsOnly ..
  · exact .foldl (fun _ _ => State.sendFence_sendsOnly ..) _ s

/-- The declaration goes to the position too. -/
def State.fallDeclared (pos : U32) (cause : U8) (s : State) : State :=
  (s.declareDown pos cause).sendFence pos 0 5 (declareA pos cause (s.declareDown pos cause).adopted) [] [] []

theorem State.fallDeclared_sendsOnly (pos : U32) (cause : U8) (s : State) : SendsOnly s (s.fallDeclared pos cause) :=
  (State.declareDown_sendsOnly pos cause s).trans (State.sendFence_sendsOnly ..)

theorem State.flagFall_eq (pos : U32) (cause : U8) (n : Nat) (s : State) : s.flagFall pos cause n =
    (let t := (s.fallCounted pos cause n).fallDeclared pos cause
     if pos == t.adopted then t.selfFence else if t.det.fenced.contains pos then t else t.fencePosition pos cause) := rfl

theorem State.fallCounted_adopted (pos : U32) (cause : U8) (n : Nat) (s : State) : (s.fallCounted pos cause n).adopted = s.adopted :=
  State.adopted_record ..

/-- The fall of another position. -/
theorem State.flagFall_of_other (pos : U32) (cause : U8) (n : Nat) (s : State) (hpos : pos ≠ s.adopted) (hf : pos ∉ s.det.fenced) :
    s.flagFall pos cause n = ((s.fallCounted pos cause n).fallDeclared pos cause).fencePosition pos cause := by
  have k := State.fallDeclared_sendsOnly pos cause (s.fallCounted pos cause n)
  have hself : ¬(pos == ((s.fallCounted pos cause n).fallDeclared pos cause).adopted) = true := by
    rw [k.adopted, State.fallCounted_adopted]
    simpa using hpos
  have hlisted : ¬((s.fallCounted pos cause n).fallDeclared pos cause).det.fenced.contains pos = true := by
    rw [k.det]
    simpa [State.fallCounted] using hf
  rw [State.flagFall_eq]
  dsimp only
  rw [if_neg hself, if_neg hlisted]

theorem State.flagFall_frame (pos : U32) (cause : U8) (n : Nat) (s : State) (hpos : pos ≠ s.adopted) (hf : pos ∉ s.det.fenced) :
    (s.flagFall pos cause n).det.flagFalls = bump s.det.flagFalls ∧ pos ∈ (s.flagFall pos cause n).det.fenced ∧
    (s.flagFall pos cause n).job = s.job := by
  have k := State.fallDeclared_sendsOnly pos cause (s.fallCounted pos cause n)
  obtain ⟨hdet, hjob⟩ := State.fencePosition_frame pos cause ((s.fallCounted pos cause n).fallDeclared pos cause)
  rw [State.flagFall_of_other pos cause n s hpos hf, hdet, hjob, k.job]
  refine ⟨?_, ?_, by simp [State.fallCounted]⟩
  · exact (congrArg DetState.flagFalls k.det).trans (by simp [State.fallCounted])
  · simp [DetState.listFenced]

/-- A device that falls itself is fenced, and keeps the position and epoch. -/
theorem State.selfFence_frame (s : State) (h : s.job.dev ≠ .safe) : s.selfFence.job =
      { s.job with dev := .fenced, fencedAs := some (s.job.jt, s.job.epoch, s.adopted) } ∧
    s.selfFence.tele = (s.record (ev3 0x4004 unitFault [])).tele := by
  refine ⟨?_, State.tele_enterFenced _⟩
  rw [State.selfFence, State.job_enterFenced (by simpa using h)]
  simp

theorem State.flagFall_of_self (cause : U8) (n : Nat) (s : State) (h : s.job.dev ≠ .safe) : (s.flagFall s.adopted cause n).job =
    { s.job with dev := .fenced, fencedAs := some (s.job.jt, s.job.epoch, s.adopted) } := by
  have k := State.fallDeclared_sendsOnly s.adopted cause (s.fallCounted s.adopted cause n)
  have hjob : (s.fallCounted s.adopted cause n).job = s.job := by simp [State.fallCounted]
  have hself : (s.adopted == ((s.fallCounted s.adopted cause n).fallDeclared s.adopted cause).adopted) = true := by
    rw [k.adopted, State.fallCounted_adopted]
    exact beq_self_eq_true _
  rw [State.flagFall_eq]
  dsimp only
  rw [if_pos hself, (State.selfFence_frame _ (by rw [k.job, hjob]; exact h)).1, k.job, k.adopted, State.fallCounted_adopted, hjob]

/-! ## Evictions and declarations -/

theorem State.isMember_record (e : Event) (pos : U32) (s : State) : (s.record e).isMember pos = s.isMember pos := by
  simp [State.isMember]

theorem evictionAction_of_member (pos reason : U32) (key : U16) (s : State) (hd : s.job.dev = .opening ∨ s.job.dev = .run)
    (ha : cnOf pos ≠ s.adopted) (hm : s.isMember (cnOf pos) = true) (hf : cnOf pos ∉ s.det.fenced) :
    evictionAction pos reason key s = (s.record (ev3 0x4006 unitFault (le16 key))).flagFall (cnOf pos) 4 0 :=
  if_neg (by rcases hd with h | h <;> simp [h, ha, hm, hf])

theorem evictionAction_of_stranger (pos reason : U32) (key : U16) (s : State) (hm : s.isMember (cnOf pos) = false) :
    evictionAction pos reason key s = s.detRefuse.record (ev3 0x4008 unitFault []) := if_pos (by simp [hm])

section
variable (s : State) (pk : Trans)

theorem declareReceive_of_out (h : s.job.dev = .fenced ∨ s.job.dev = .safe) : declareReceive pk s = s.takePk (.trans pk) :=
  if_pos (by simpa using h)

variable (hf : s.job.dev ≠ .fenced) (hs : s.job.dev ≠ .safe)
include hf hs

theorem declareReceive_of_old (he : pk.epoch.toNat < s.job.epoch.toNat) : declareReceive pk s = (s.takePk (.trans pk)).detRefuse :=
  (if_neg (by simp [hf, hs])).trans (if_pos (by simpa using he))

variable (he : s.job.epoch.toNat ≤ pk.epoch.toNat)
include he

theorem declareReceive_of_self (ha : cnOf (pk.a32 4) = s.adopted) : declareReceive pk s = (s.takePk (.trans pk)).selfFence := by
  have hself : (cnOf (pk.a32 4) == (s.takePk (.trans pk)).adopted) = true := by
    rw [State.adopted_takePk]
    exact beq_iff_eq.2 ha
  unfold declareReceive
  dsimp only
  rw [if_neg (by simp [hf, hs]), if_neg (by simpa using he), if_pos hself]

theorem declareReceive_of_other (ha : cnOf (pk.a32 4) ≠ s.adopted) (hl : cnOf (pk.a32 4) ∉ s.det.fenced) : declareReceive pk s =
    (((s.takePk (.trans pk)).dropSuspicion (cnOf (pk.a32 4))).fencePosition (cnOf (pk.a32 4)) (pk.a8 8)).passDeclare (cnOf (pk.a32 4))
      (pk.a8 8) (cnOf (pk.a32 12)) := by
  have hself : ¬(cnOf (pk.a32 4) == (s.takePk (.trans pk)).adopted) = true := by
    rw [State.adopted_takePk]
    simpa using ha
  unfold declareReceive
  dsimp only
  rw [if_neg (by simp [hf, hs]), if_neg (by simpa using he), if_neg hself, if_neg (by simpa using hl)]

end

/-! ## The install of an epoch -/

theorem State.countWritten_fenceKeep (ts w step : U32) (s : State) : FenceKeep s (s.countWritten ts w step) := by
  unfold State.countWritten
  split
  · exact .of rfl
  · exact FenceKeep.trans (.of (t := { s with upd := { s.upd with written := s.upd.written ++ [(ts, w, step)] } }) rfl)
      (State.completeIfDone_fenceKeep ts _)

theorem FenceKeep.stable : WritebackStable FenceKeep where
  of := fun _ h => .of h
  trans := .trans
  failShard := State.failShard_fenceKeep
  countWritten := State.countWritten_fenceKeep
  rolledWindow := fun e d s => .of ((State.rolledWindow_keep (M := 0x8040) rfl e d s (Keep.refl _ s)).fence rfl)

/-- A fence that is not pending does not become pending. -/
theorem FenceKeep.pending_false {s t : State} (h : FenceKeep s t) (k : s.fence.pending = false) : t.fence.pending = false := by
  rcases h.pend with ⟨hp, -⟩ | ⟨hp, -, -⟩
  · exact hp.trans k
  · rw [k] at hp
    cases hp

theorem State.fenceAbandoned_pending (newEpoch : U32) (s : State) : (s.fenceAbandoned newEpoch).fence.pending = false := by
  unfold State.fenceAbandoned
  split
  · simp
  · rename_i h
    simpa using h

theorem State.fenceTrimmed_pending (s : State) : s.fenceTrimmed.fence.pending = s.fence.pending := rfl

theorem State.activityDropped_fence (s : State) : s.activityDropped.fence = s.fence :=
  ((State.abandonCuts_keep (M := 0xC2248) rfl _ _ _ (Keep.refl _ _)).fence rfl).trans
    (((State.closePasses_keep (M := 0xC0100) rfl _ _ (Keep.refl _ _)).fence rfl).trans
      ((State.discardWindows_keep (M := 0xE0) rfl s (Keep.refl _ _)).fence rfl))

theorem State.endActivity_pending (newEpoch : U32) (s : State) : (s.endActivity newEpoch).fence.pending = false := by
  have hdropped : (s.finishPipes.fenceAbandoned newEpoch).fenceTrimmed.activityDropped.fence.pending = false := by
    rw [State.activityDropped_fence, State.fenceTrimmed_pending, State.fenceAbandoned_pending]
  rw [State.endActivity_eq, (State.dropUncommittedPartner_keep (M := 0x1040) rfl _ (Keep.refl _ _)).fence rfl]
  exact (FenceKeep.stable.finishPipes _).pending_false hdropped

/-- The device is of an epoch. -/
def State.epochSet (e : U32) (s : State) : State := { s with job := { s.job with epoch := e } }

/-- The epoch is adopted once step activity has ended. -/
def State.epochTaken (e : U32) (s : State) : State := ((s.swapAtEpoch e).endActivity e).epochSet e

/-- What the manual notes once per epoch, the partner and the retired units follow. -/
def State.epochFollowed (subst : List (U32 × U32)) (s : State) : State := ((s.clearPerEpoch.applyHeldPartner).rePair subst).retireAtEpoch

/-- INSTALL goes to the children and to the agents. -/
def State.installPassed (e : U32) (l : List U32) (s : State) : State :=
  let t := s.children.foldl (fun s c => s.sendInstallTo c e l) s
  t.agents.foldl (fun s a => s.sendInstallTo a.2 e l) t

/-- The install is counted, and awaits the children. -/
def State.installAwaited (e : U32) (l : List U32) (sender : Option U32) (s : State) : State :=
  { s.installPassed e l with det := { (s.installPassed e l).det with
    installs := bump (s.installPassed e l).det.installs
    install := some { epoch := e, list := l, expect := s.children, sender := sender } } }

theorem State.installEpoch_eq (e : U32) (l : List U32) (sender : Option U32) (s : State) : s.installEpoch e l sender =
    ((((((s.mergeFences l).epochTaken e).epochFollowed (s.mergeFences l).route.substActive).installAwaited e l sender).record
      (ev3 0x4007 unitFault (arg4 e ++ arg4 (s.mergeFences l).job.epoch ++ arg2 (s.mergeFences l).det.fenced.length))).raiseIrq 6).settleInstall := by
  simp only [State.installEpoch, State.epochTaken, State.epochSet, State.epochFollowed, State.installAwaited, State.installPassed]

theorem State.epochSet_frame (e : U32) (s : State) : (s.epochSet e).job = { s.job with epoch := e } ∧ (s.epochSet e).fence = s.fence :=
  ⟨rfl, rfl⟩

theorem State.epochTaken_frame (e : U32) (s : State) : (∃ n, (s.epochTaken e).job = { s.job with epoch := e, rolled := n }) ∧
    (s.epochTaken e).fence.pending = false := by
  obtain ⟨n, h⟩ := State.endActivity_rolledOnly e (s.swapAtEpoch e)
  rw [(State.swapAtEpoch_keep (M := 0xD2F78) rfl e s (Keep.refl _ s)).job rfl] at h
  rw [State.epochTaken, (State.epochSet_frame ..).1, (State.epochSet_frame ..).2, h]
  exact ⟨⟨n, rfl⟩, State.endActivity_pending e (s.swapAtEpoch e)⟩

theorem State.epochFollowed_frame (subst : List (U32 × U32)) (s : State) : (s.epochFollowed subst).job = s.job ∧
    (s.epochFollowed subst).fence.pending = s.fence.pending := by
  have k : Keep 0xE1C20 s.clearPerEpoch (s.epochFollowed subst) :=
    State.retireAtEpoch_keep rfl _ (State.rePair_keep rfl subst _ (State.applyHeldPartner_keep rfl _ (Keep.refl _ _)))
  exact ⟨k.job rfl, (congrArg FenceState.pending (k.fence rfl)).trans rfl⟩

theorem State.installPassed_keep (e : U32) (l : List U32) (s : State) : Keep 0xC0C00 s (s.installPassed e l) :=
  Keep.foldl (Keep.foldl (Keep.refl _ s) fun x c => State.sendInstallTo_keep rfl c e l x (Keep.refl _ x))
    fun x a => State.sendInstallTo_keep rfl a.2 e l x (Keep.refl _ x)

theorem State.settleInstall_frame (s : State) : (∃ m, s.settleInstall.job = { s.job with missing := m }) ∧
    s.settleInstall.fence = s.fence := by
  refine ⟨?_, (State.settleInstall_keep (M := 0x4D8C00) rfl s (Keep.refl _ s)).fence rfl⟩
  unfold State.settleInstall
  split
  · exact ⟨_, rfl⟩
  · split
    · exact ⟨_, rfl⟩
    · dsimp only
      split
      · split
        · exact ⟨_, rfl⟩
        · exact ⟨_, rfl⟩
      · exact ⟨s.job.missing, by simp⟩

/-- The epoch that is installed is the device's, the fence is not pending, and of the job little else has changed. -/
theorem State.installEpoch_frame (e : U32) (l : List U32) (sender : Option U32) (s : State) :
    (∃ n m, (s.installEpoch e l sender).job = { s.job with epoch := e, rolled := n, missing := m }) ∧
    (s.installEpoch e l sender).fence.pending = false := by
  obtain ⟨⟨n, htaken⟩, hpending⟩ := State.epochTaken_frame e (s.mergeFences l)
  obtain ⟨hjob, hfence⟩ := State.epochFollowed_frame (s.mergeFences l).route.substActive ((s.mergeFences l).epochTaken e)
  rw [State.installEpoch_eq]
  generalize ((s.mergeFences l).epochTaken e).epochFollowed (s.mergeFences l).route.substActive = t at hjob hfence ⊢
  have hmerged := (State.mergeFences_keep (M := 0xD1400) rfl l s (Keep.refl _ s)).job rfl
  have k := State.installPassed_keep e l t
  obtain ⟨⟨m, hm⟩, hsettled⟩ := State.settleInstall_frame (((t.installAwaited e l sender).record
    (ev3 0x4007 unitFault (arg4 e ++ arg4 (s.mergeFences l).job.epoch ++ arg2 (s.mergeFences l).det.fenced.length))).raiseIrq 6)
  have hawaited : (t.installAwaited e l sender).job = { s.job with epoch := e, rolled := n } :=
    (k.job rfl).trans (hjob.trans (htaken.trans (by rw [hmerged])))
  refine ⟨⟨n, m, hm.trans (by simp [hawaited])⟩, ?_⟩
  rw [hsettled]
  have hkept : (t.installAwaited e l sender).fence.pending = false :=
    (congrArg FenceState.pending (k.fence rfl)).trans (hfence.trans hpending)
  simpa using hkept

theorem epochFenceAction_of_unfit (v : U32) (s : State) (h : s.root ≠ some s.adopted ∨ v.toNat ≤ s.job.epoch.toNat) :
    epochFenceAction v s = State.record (ev3 0x4008 unitFault []) { s with det := { s.det with fenceStatus := 4 } } :=
  if_neg (by
    simp only [Bool.and_eq_true, beq_iff_eq, decide_eq_true_eq]
    rintro ⟨⟨hroot, -⟩, hv⟩
    rcases h with h | h
    · exact h hroot
    · omega)

section
variable (s : State) (pk : Trans) (hd : s.job.dev = .opening ∨ s.job.dev = .run)
include hd

/-- An INSTALL packet at a device in OPENING or RUN. -/
theorem epochInstallReceive_of_job : epochInstallReceive pk s =
    (if (pk.a32 4).toNat ≤ s.job.epoch.toNat then
      match s.det.lastInstalled with
      | some t => (s.takePk (.trans pk)).detRefuse.sendFence (cnOf pk.src) 0 5 (leBytes 15 (t.a.toNat / 256)) [] [] t.body
      | none => (s.takePk (.trans pk)).detRefuse
    else if (installList pk).contains s.adopted then (s.takePk (.trans pk)).selfFence
    else (s.takePk (.trans pk)).installEpoch (pk.a32 4) (installList pk) (some (cnOf pk.src))) := by
  have hepoch : (s.takePk (.trans pk)).job.epoch = s.job.epoch := by simp
  have hlast : (s.takePk (.trans pk)).det.lastInstalled = s.det.lastInstalled := by simp
  unfold epochInstallReceive
  dsimp only
  rw [if_neg (by rcases hd with h | h <;> simp [h]), hepoch, hlast, State.adopted_takePk] <;> rfl

theorem epochInstallReceive_of_later (he : s.job.epoch.toNat < (pk.a32 4).toNat) (ha : s.adopted ∉ installList pk) :
    epochInstallReceive pk s = (s.takePk (.trans pk)).installEpoch (pk.a32 4) (installList pk) (some (cnOf pk.src)) :=
  (epochInstallReceive_of_job s pk hd).trans ((if_neg (Nat.not_le.2 he)).trans (if_neg (by simpa using ha)))

theorem epochInstallReceive_of_listed (he : s.job.epoch.toNat < (pk.a32 4).toNat) (ha : s.adopted ∈ installList pk) :
    epochInstallReceive pk s = (s.takePk (.trans pk)).selfFence :=
  (epochInstallReceive_of_job s pk hd).trans ((if_neg (Nat.not_le.2 he)).trans (if_pos (by simpa using ha)))

theorem epochInstallReceive_of_old (he : (pk.a32 4).toNat ≤ s.job.epoch.toNat) (hl : s.det.lastInstalled = none) :
    epochInstallReceive pk s = (s.takePk (.trans pk)).detRefuse :=
  (epochInstallReceive_of_job s pk hd).trans ((if_pos he).trans (by rw [hl]))

end

/-- An install with a child still awaited is not settled. -/
theorem State.settleInstall_of_awaited (s : State) (i : InstallSt) (hi : s.det.install = some i) (c : U32) (hc : c ∈ i.expect) :
    s.settleInstall = s := by
  rw [State.settleInstall, hi]
  exact if_pos (by cases h : i.expect <;> simp_all)

/-- The install with a child's answer folded in. -/
def State.installFolded (i : InstallSt) (pk : Trans) (s : State) : State :=
  { s with det := { s.det with install := some (i.fold (cnOf pk.src) pk) } }

theorem installedReceive_of_expected (s : State) (pk : Trans) (i : InstallSt) (hi : s.det.install = some i) (hsrc : cnOf pk.src ∈ i.expect)
    (he : pk.a32 4 = i.epoch) (hmore : ∃ c ∈ i.expect, c ≠ cnOf pk.src) :
    installedReceive pk s = (s.takePk (.trans pk)).installFolded i pk := by
  obtain ⟨c, hc, hne⟩ := hmore
  have hi' : (s.takePk (.trans pk)).det.install = some i := by simpa using hi
  have hleft : c ∈ (i.fold (cnOf pk.src) pk).expect := List.mem_filter.2 ⟨hc, bne_iff_ne.2 hne⟩
  unfold installedReceive
  dsimp only
  rw [hi']
  dsimp only
  rw [if_pos (by simp [hsrc, he])]
  exact State.settleInstall_of_awaited ((s.takePk (.trans pk)).installFolded i pk) _ rfl c hleft

/-- Settles O52. That a device keeps the position and epoch in which it was fenced (`fencedAs`) is the model's reading of R11, log 76;
logs 9, 10 and 38 to 42 say which deadlines and packets these commands are. -/
theorem suspicionsLeadToFlagFallsOrAreDismissed : Obligations.SuspicionsLeadToFlagFallsOrAreDismissed := by
  unfold Obligations.SuspicionsLeadToFlagFallsOrAreDismissed
  refine ⟨fun _ _ => rfl, ?suspects, ?noSuspicion, ?isolated, ?notRun, ?agent, ?suspect, ?noArbiter, ?suspectOut, ?probeSafe, ?dismissed,
    ?answerFalls, ?probeAgain, ?timeoutFalls, ?falls, ?fallsSelf, ?evicted, ?stranger, ?declaredSelf, ?declared, ?declaredOld,
    ?declaredOut, ?disabled, ?untouched, ?fence, ?badFence, ?install, ?installed, ?listed, ?oldInstall, ?folded, ?noInstall⟩
  case suspects =>
    intro s p pos h8 hj hx hp hn
    exact completes_of (t := s.suspectPort p) rfl (suspectPort_of_first p pos s h8 hj hx hp hn)
  case noSuspicion =>
    intro s p h
    exact congrArg Host.Outcome.next (suspectPort_of_other p s h)
  case isolated =>
    intro s p hrun hp hx
    refine completes_of (congrArg Host.Outcome.next (isolationTimeout_of_isolated hrun hp hx)) ?_
    exact ⟨by rw [State.job_enterFenced (by simp [hrun])]; simp, State.tele_enterFenced _⟩
  case notRun =>
    intro s h
    exact congrArg Host.Outcome.next (isolationTimeout_of_not_run h)
  case agent =>
    rintro s tl ⟨_, hlt⟩ rfl hj hl
    exact completes_of (t := s.loseAgent ⟨tl.val, hlt⟩) rfl (State.loseAgent_of_first _ s tl.isLt hj hl)
  case suspect =>
    intro s port pk hf hs ha he hsrc hpos hne hnone
    refine completes_of (congrArg Host.Outcome.next (suspectReceive_of_first s pk hf hs ha he hsrc hpos hne hnone)) ?_
    exact ⟨by simp [State.suspected, State.probe, State.suspCounted],
      Quiet.of (by simp [State.suspected, State.probe, State.suspCounted])⟩
  case noArbiter =>
    intro s port pk hf hs ha he
    refine completes_of (congrArg Host.Outcome.next (suspectReceive_of_noArbiter s pk hf hs ha he)) ?_
    exact ⟨by simp [State.detRefuse], Quiet.of (by simp [State.detRefuse])⟩
  case suspectOut =>
    intro s port pk h
    exact congrArg Host.Outcome.next (suspectReceive_of_out s pk h)
  case probeSafe =>
    intro s pos w h
    have hnone := s.probed_of_safe pos h
    exact ⟨congrArg Host.Outcome.next (by rw [probeAnswer, hnone]), congrArg Host.Outcome.next (by rw [probeTimeout, hnone])⟩
  case dismissed =>
    intro s pos w r h hr hw
    refine completes_of (congrArg Host.Outcome.next
      ((probeAnswer_of_record s pos w r (s.probed_of_record pos r h hr)).trans (if_neg (by simp [hw])))) ?_
    exact ⟨by simp, Records.of rfl rfl rfl⟩
  case answerFalls =>
    intro s pos w r h hr hw
    exact congrArg Host.Outcome.next ((probeAnswer_of_record s pos w r (s.probed_of_record pos r h hr)).trans (if_pos hw))
  case probeAgain =>
    intro s pos r h hr hq h3
    exact completes_of (congrArg Host.Outcome.next
      ((probeTimeout_of_record s pos r (s.probed_of_record pos r h hr)).trans (if_neg (by omega)))) rfl
  case timeoutFalls =>
    intro s pos r h hr hq
    exact congrArg Host.Outcome.next ((probeTimeout_of_record s pos r (s.probed_of_record pos r h hr)).trans (if_pos hq))
  case falls => exact fun s pos cause n hpos hf => s.flagFall_frame pos cause n hpos hf
  case fallsSelf => exact fun s cause n h => s.flagFall_of_self cause n h
  case evicted =>
    intro s pos reason key hd ha hm hf
    refine completes_of (congrArg Host.Outcome.next (evictionAction_of_member pos reason key s hd ha hm hf)) ?_
    simpa using State.flagFall_frame (cnOf pos) 4 0 (s.record (ev3 0x4006 unitFault (le16 key))) (by simpa using ha) (by simpa using hf)
  case stranger =>
    intro s pos reason key hm
    refine completes_of (congrArg Host.Outcome.next (evictionAction_of_stranger pos reason key s hm)) ?_
    exact ⟨by simp [State.detRefuse], Records.of rfl rfl rfl⟩
  case declaredSelf =>
    intro s port pk hf hs he ha
    refine completes_of (congrArg Host.Outcome.next (declareReceive_of_self s pk hf hs he ha)) ?_
    obtain ⟨hjob, htele⟩ := State.selfFence_frame (s.takePk (.trans pk)) (by simpa using hs)
    refine ⟨hjob.trans (by rw [State.adopted_takePk]; simp), htele.trans ?_⟩
    exact (Records.of (e := ev3 0x4004 unitFault []) (s := s) (t := s.takePk (.trans pk)) (by simp) (by simp) (by simp)).1
  case declared =>
    intro s port pk hf hs he ha hl
    refine completes_of (congrArg Host.Outcome.next (declareReceive_of_other s pk hf hs he ha hl)) ?_
    have k := State.passDeclare_sendsOnly (cnOf (pk.a32 4)) (pk.a8 8) (cnOf (pk.a32 12))
      (((s.takePk (.trans pk)).dropSuspicion (cnOf (pk.a32 4))).fencePosition (cnOf (pk.a32 4)) (pk.a8 8))
    obtain ⟨hdet, hjob⟩ := State.fencePosition_frame (cnOf (pk.a32 4)) (pk.a8 8)
      ((s.takePk (.trans pk)).dropSuspicion (cnOf (pk.a32 4)))
    rw [k.det, k.job, hdet, hjob]
    simp [DetState.listFenced, State.dropSuspicion]
  case declaredOld =>
    intro s port pk hf hs he
    refine completes_of (congrArg Host.Outcome.next (declareReceive_of_old s pk hf hs he)) ?_
    exact ⟨by simp [State.detRefuse], Quiet.of (by simp [State.detRefuse])⟩
  case declaredOut =>
    intro s port pk h
    exact congrArg Host.Outcome.next (declareReceive_of_out s pk h)
  case disabled =>
    intro s pos p h
    rw [State.disableToward_eq]
    exact State.disableAll_port_of_peer pos p _ s (List.mem_finRange p) h
  case untouched =>
    intro s pos p h
    rw [State.disableToward_eq]
    exact State.disableAll_port_of_other pos p _ s h
  case fence =>
    intro s v hroot hd he
    exact congrArg Host.Outcome.next (if_pos (by rcases hd with h | h <;> simp [hroot, h, he]))
  case badFence =>
    intro s v h
    refine completes_of (congrArg Host.Outcome.next (epochFenceAction_of_unfit v s h)) ?_
    exact ⟨by simp, by simp, Records.of rfl rfl rfl⟩
  case install =>
    intro s e l sender
    obtain ⟨⟨n, m, hjob⟩, hpending⟩ := s.installEpoch_frame e l sender
    exact ⟨congrArg JobState.epoch hjob, hpending⟩
  case installed =>
    intro s port pk hd he ha
    refine completes_of (congrArg Host.Outcome.next (epochInstallReceive_of_later s pk hd he ha)) ?_
    obtain ⟨⟨n, m, hjob⟩, -⟩ := (s.takePk (.trans pk)).installEpoch_frame (pk.a32 4) (installList pk) (some (cnOf pk.src))
    exact ⟨congrArg JobState.epoch hjob, (congrArg JobState.dev hjob).trans (by simp)⟩
  case listed =>
    intro s port pk hd he ha
    refine completes_of (congrArg Host.Outcome.next (epochInstallReceive_of_listed s pk hd he ha)) ?_
    have hs : (s.takePk (.trans pk)).job.dev ≠ .safe := by rcases hd with h | h <;> simp [h]
    rw [(State.selfFence_frame _ hs).1, State.adopted_takePk]
    simp
  case oldInstall =>
    intro s port pk he hl hd
    exact completes_of (congrArg Host.Outcome.next (epochInstallReceive_of_old s pk hd he hl)) ⟨by simp [State.detRefuse], by simp [State.detRefuse]⟩
  case folded =>
    intro s port pk i hi hsrc he hmore
    refine completes_of (congrArg Host.Outcome.next (installedReceive_of_expected s pk i hi hsrc he hmore)) ?_
    exact ⟨by simp [State.installFolded], Quiet.of (by simp [State.installFolded])⟩
  case noInstall =>
    intro s port pk h
    have h' : (s.takePk (.trans pk)).det.install = none := by simpa using h
    exact congrArg Host.Outcome.next (by rw [installedReceive]; dsimp only; rw [h'])

end Sys2Proof.Machine
end

section
/-! SUPPORT. A release of internal reset in a state whose device is already SAFE. -/
namespace Sys2Proof.Machine
open Sys2Proof

/-- A valid image in slot A, internal reset held for a cold reset, and the device SAFE. -/
def safeUnderReset : State :=
  { job := { dev := .safe }
    boot := { resetHeld := true, nextKind := 2, imageA := { state := 2 } } }

/-- Everything passes: the ROM, the identity, the memory training, and the confirmation. -/
def soundBoot : BootWorld := { romOk := true, identityOk := true, trainFail := none, confirms := true }

theorem resetRelease_safeUnderReset_dev : (resetRelease soundBoot safeUnderReset).job.dev = .safe := by decide

/-- Refutes O53: the clause on a release of internal reset that ends in STANDBY has no premise that the device is not SAFE. The
start-up sequence does not leave SAFE (R10), so a state that is SAFE with internal reset held stays SAFE through a sequence in which
everything passes. (A reset puts the device in BOOT; a thermal sample that crosses the critical temperature while the reset is held,
R506, enters SAFE and leaves such a state.) -/
theorem not_startupReachesStandbyOrSafe : ¬ Obligations.StartupReachesStandbyOrSafe := by
  rintro ⟨-, -, -, -, -, -, hrelease, -⟩
  obtain ⟨t, hexec, hstandby, -⟩ := hrelease safeUnderReset soundBoot rfl rfl rfl rfl rfl rfl (by decide)
  obtain rfl : resetRelease soundBoot safeUnderReset = t := Host.Outcome.next.inj hexec
  rw [resetRelease_safeUnderReset_dev] at hstandby
  exact absurd hstandby (by decide)

end Sys2Proof.Machine
end

section
/-! SUPPORT. Requests and the order of their checks (R458 to R478). -/
namespace Sys2Proof.Machine
open Sys2Proof Sys2Proof.Statements

/-! ## Events above class 1 -/

/-- An event above class 1 raises no interrupt (R476): it changes the recorder alone. -/
theorem State.record_of_quietClass {e : Event} (h : ¬ e.cls.toNat ≤ 1) (s : State) :
    s.record e = { s with tele := s.recordTele e } := if_neg h

theorem State.acc_record_ev3 (code unit : Nat) (args : List Byte) (s : State) : (s.record (ev3 code unit args)).acc = s.acc := by
  rw [State.record_of_quietClass (by simp [ev3])]

theorem State.acc_record_ev2 (code unit : Nat) (args : List Byte) (s : State) : (s.record (ev2 code unit args)).acc = s.acc := by
  rw [State.record_of_quietClass (by simp [ev2])]

/-! ## One message (R463 to R465) -/

theorem serve_of_unparsed {bytes : List Byte} (h : Msg.ofBytes bytes = none) (path : Path) (s : State) :
    serve path bytes s = (none, s.discard) := by
  unfold serve
  rw [h]
  rfl

theorem serve_of_duplicate {bytes : List Byte} {s : State} {m : Msg} {d : DupEntry} (hm : Msg.ofBytes bytes = some m)
    (hd : s.acc.dupOf m = some d) (path : Path) : serve path bytes s =
      if d.crc == m.crc32 then (d.resp.map resent, setAcc (fun a => { a with dupAnswered := bump a.dupAnswered }) s)
      else (some (m.answer { status := 8 }), mismatch path m s) := by
  unfold serve
  rw [hm]
  dsimp only
  rw [hd]

theorem serve_of_new {bytes : List Byte} {s : State} {m : Msg} (hm : Msg.ofBytes bytes = some m) (hd : s.acc.dupOf m = none)
    (path : Path) : serve path bytes s =
      (some (m.answer (settleMsg path m (obTaken path s)).1),
        keepResponse path m (settleMsg path m (obTaken path s)).1.status (m.answer (settleMsg path m (obTaken path s)).1)
          (settleMsg path m (obTaken path s)).2) := by
  unfold serve
  rw [hm]
  dsimp only
  rw [hd]
  rfl

theorem settleMsg_of_read {m : Msg} (h : m.kind = 1) (path : Path) (s : State) : settleMsg path m s = (serveRead path m s, s) :=
  if_pos (beq_iff_eq.2 h)

/-- The status of a request that is no read is that of its write, signed or not. -/
theorem settleMsg_of_write {m : Msg} (h : m.kind ≠ 1) (path : Path) (s : State) :
    (settleMsg path m s).1 = { status := (if m.kind = 2 then serveWrite path m s else serveSwrite path m s).1 } := by
  have hk : ¬ (m.kind == kREAD) = true := fun e => h (beq_iff_eq.1 e)
  have h2 : (m.kind == kWRITE) = decide (m.kind = 2) := by rw [Bool.eq_iff_iff]; simp [kWRITE]
  unfold settleMsg
  rw [if_neg hk, h2]
  by_cases hw : m.kind = 2 <;> simp [hw]

/-- A mismatch counts, and the event that it may leave is of class 3. -/
theorem mismatch_acc (path : Path) (m : Msg) (s : State) :
    (mismatch path m s).acc.mismatches = bump s.acc.mismatches ∧ (mismatch path m s).acc.dups = s.acc.dups := by
  unfold mismatch
  dsimp only
  split
  · exact ⟨rfl, rfl⟩
  · rw [State.acc_record_ev3]
    exact ⟨rfl, rfl⟩

/-! ## Reads (R458, R459, R468) -/

section
variable {m : Msg} {s : State} {r : Row} (path : Path)

theorem serveRead_of_noObject (h : objectAt m.idx m.sub = none) : serveRead path m s = { status := 1 } := by
  unfold serveRead
  rw [h]

theorem serveRead_of_writeOnly (h : objectAt m.idx m.sub = some r) (ha : r.acc = .wo) : serveRead path m s = { status := 2 } := by
  unfold serveRead
  rw [h]
  exact if_pos ha

theorem serveRead_of_unreadable (h : objectAt m.idx m.sub = some r) (ha : r.acc ≠ .wo) (hr : s.readable m.idx.toNat = false) :
    serveRead path m s = { status := 3 } := by
  unfold serveRead
  rw [h]
  exact (if_neg ha).trans (if_pos (by rw [hr]; rfl))

theorem serveRead_of_scalar (h : objectAt m.idx m.sub = some r) (ha : r.acc ≠ .wo) (hr : s.readable m.idx.toNat = true)
    (ht : r.ty.scalar = true) (ho : m.off = 0) : serveRead path m s =
      { status := 0, data := leBytes r.ty.size (r.get s), total := (leBytes r.ty.size (r.get s)).length
        gen := s.generation m.idx m.sub } := by
  unfold serveRead
  rw [h]
  dsimp only
  rw [if_neg ha, hr, if_neg (by decide), if_pos ht, if_neg (by simp [ho]), show r.value s = leBytes r.ty.size (r.get s) from if_pos ht]

theorem serveRead_of_domain (h : objectAt m.idx m.sub = some r) (ha : r.acc ≠ .wo) (hr : s.readable m.idx.toNat = true)
    (ht : r.ty.scalar = false) (ho : m.off ≤ (r.dom s).length) (hl : 48 + m.dlen ≤ pathLimit path) : serveRead path m s =
      { status := 0, data := ((r.dom s).drop m.off).take m.dlen, total := (r.dom s).length, gen := s.generation m.idx m.sub } := by
  unfold serveRead
  rw [h]
  dsimp only
  have hfits : ¬ (decide (m.off > (r.dom s).length) || decide (48 + m.dlen > pathLimit path)) = true := by
    simp only [Bool.or_eq_true, decide_eq_true_eq]
    omega
  rw [if_neg ha, hr, if_neg (by decide), if_neg (by rw [ht]; decide), show r.value s = r.dom s from if_neg (by rw [ht]; decide),
    if_neg hfits]

/-! ## Unsigned writes (R463) -/

theorem serveWrite_of_noObject (h : objectAt m.idx m.sub = none) : serveWrite path m s = (1, s) := by
  unfold serveWrite
  rw [h]

/-- The access of the object is looked at before anything of the state. -/
theorem State.writeGate_of_access {idx : U16} {sub : U8} (h : objectAt idx sub = some r) (hrw : r.acc ≠ .rw) (hwo : r.acc ≠ .wo) :
    s.writeGate path idx sub = 2 := by
  unfold State.writeGate
  rw [h]
  refine if_pos ?_
  simp [hrw, hwo]

theorem serveWrite_of_refused (h : objectAt m.idx m.sub = some r) {g : U8} (hg : s.writeGate path m.idx m.sub = g) (h3 : g ≠ 3)
    (h0 : g ≠ 0) : serveWrite path m s = (g, s) := by
  unfold serveWrite
  rw [h]
  dsimp only
  rw [hg, beq_false_of_ne h3, Bool.false_and, if_neg (by decide), if_pos (bne_iff_ne.2 h0)]

/-- A scalar that the gate lets through and the path can carry has to come whole. -/
theorem serveWrite_of_scalar (h : objectAt m.idx m.sub = some r) (hg : s.writeGate path m.idx m.sub = 0) (ht : r.ty.scalar = true)
    (hl : 48 + m.data.length ≤ pathLimit path) : serveWrite path m s =
      if m.off ≠ 0 || m.data.length ≠ r.ty.size then (6, s) else noteWrite m.idx m.sub (ownWrite m.idx r m.data s) := by
  unfold serveWrite
  rw [h]
  dsimp only
  rw [hg, if_neg (by simp), if_neg (by decide), if_neg (by omega), if_pos ht]
end

/-! ## Write generations (R468) -/

theorem noteWrite_taken (idx : U16) (sub : U8) (s : State) : (noteWrite idx sub (0, s)).2.acc.gens =
    s.acc.gens.filter (fun x => !(x.1 == idx && x.2.1 == sub)) ++ [(idx, sub, s.generation idx sub + 1)] := rfl

theorem generation_noteWrite_self (idx : U16) (sub : U8) (s : State) :
    (noteWrite idx sub (0, s)).2.generation idx sub = s.generation idx sub + 1 := by
  have hnone : (s.acc.gens.filter (fun x => !(x.1 == idx && x.2.1 == sub))).find? (fun g => g.1 == idx && g.2.1 == sub) = none := by
    rw [List.find?_eq_none]
    intro x hx
    simpa only [Bool.not_eq_true, Bool.not_eq_eq_eq_not, Bool.not_true] using (List.mem_filter.1 hx).2
  unfold State.generation
  rw [noteWrite_taken, List.find?_append, hnone]
  simp [State.generation]

theorem generation_noteWrite_ne {idx i : U16} {sub b : U8} (h : i ≠ idx ∨ b ≠ sub) (s : State) :
    (noteWrite idx sub (0, s)).2.generation i b = s.generation i b := by
  have hother : ∀ x : U16 × U8 × U32, (!(x.1 == idx && x.2.1 == sub) && (x.1 == i && x.2.1 == b)) = (x.1 == i && x.2.1 == b) := by
    intro x
    by_cases hx : x.1 = i ∧ x.2.1 = b
    · obtain ⟨rfl, rfl⟩ := hx
      rcases h with h | h <;> simp [h]
    · rw [show (x.1 == i && x.2.1 == b) = false by simpa using hx, Bool.and_false]
  have hlast : ([(idx, sub, s.generation idx sub + 1)] : List (U16 × U8 × U32)).find? (fun g => g.1 == i && g.2.1 == b) = none := by
    rw [List.find?_eq_none]
    rcases h with h | h <;> simp [Ne.symm h]
  unfold State.generation
  rw [noteWrite_taken, List.find?_append, hlast, List.find?_filter, Option.or_none]
  simp only [← Bool.and_eq_true, hother, Bool.decide_eq_true]

/-! ## Sessions (R467) -/

theorem openSegment_of_first {m : Msg} {s : State} (path : Path) (hf : m.first = true) (ho : m.off = 0)
    (hn : (s.acc.dropSession ⟨m.client, m.idx, m.sub⟩).sessions.length < 8)
    (hp : (s.acc.dropSession ⟨m.client, m.idx, m.sub⟩).pooled + m.data.length ≤ poolBytes) :
    openSegment path m s = (.ok m.data, setAcc (fun a => { a with sessions :=
      (a.dropSession ⟨m.client, m.idx, m.sub⟩).sessions ++ [⟨⟨m.client, m.idx, m.sub⟩, path == .ring, m.data⟩] }) s) := by
  have hroom : ¬ (decide ((s.acc.dropSession ⟨m.client, m.idx, m.sub⟩).sessions.length ≥ 8) ||
      decide ((s.acc.dropSession ⟨m.client, m.idx, m.sub⟩).pooled + m.data.length > poolBytes)) = true := by
    simp only [Bool.or_eq_true, decide_eq_true_eq]
    omega
  unfold openSegment
  dsimp only
  rw [if_pos hf, if_neg (by simp [ho])]
  exact if_neg hroom

theorem openSegment_of_noSession {m : Msg} {s : State} (path : Path) (hf : m.first = false)
    (hx : s.acc.sessions.find? (fun z => z.key == ⟨m.client, m.idx, m.sub⟩) = none) : openSegment path m s = (.error 0x0A, s) := by
  unfold openSegment
  dsimp only
  rw [if_neg (by rw [hf]; decide), hx]

theorem openSegment_of_gap {m : Msg} {s : State} {x : Session} (path : Path) (hf : m.first = false)
    (hx : s.acc.sessions.find? (fun z => z.key == ⟨m.client, m.idx, m.sub⟩) = some x) (ho : m.off ≠ x.data.length) :
    openSegment path m s = (.error 0x0A, s) := by
  unfold openSegment
  dsimp only
  rw [if_neg (by rw [hf]; decide), hx]
  exact if_pos ho

/-! ## Signed writes (R469) -/

section
variable {m : Msg} {s : State} {r : Row} (path : Path)

theorem serveSwrite_of_access (h : objectAt m.idx m.sub = some r) (ha : r.acc ≠ .rws) : serveSwrite path m s = (2, s) := by
  unfold serveSwrite
  rw [h]
  exact if_pos ha

/-- A signed write that the state admits has to come whole, with its trailer. -/
theorem serveSwrite_of_admitted (h : objectAt m.idx m.sub = some r) (ha : r.acc = .rws) (hw : s.writable m.idx.toNat r.sub = true)
    (ht : s.taking m.idx.toNat r.sub = true) : serveSwrite path m s =
      if m.data.length < 148 || m.off ≠ 0 || 48 + m.data.length > pathLimit path then (6, s)
      else if !s.signedOk m.idx m.sub (m.data.take (m.data.length - 148)) (m.data.drop (m.data.length - 148)) then
        (5, signedRefused m.idx m.sub (field16 (m.data.drop (m.data.length - 148)) 0) s)
      else noteWrite m.idx m.sub (rwsWrite m.idx.toNat r.sub (m.data.take (m.data.length - 148))
        (field16 (m.data.drop (m.data.length - 148)) 0)
        (storeCounter (field16 (m.data.drop (m.data.length - 148)) 0) (field64 (m.data.drop (m.data.length - 148)) 8) s)) := by
  unfold serveSwrite
  rw [h]
  dsimp only
  rw [if_neg (by simp [ha]), if_neg (by rw [hw]; decide), if_neg (by rw [ht]; decide)]

/-- The refusal of a signature at any object but the recorder's clear. -/
theorem signedRefused_of_other {idx : U16} (h : idx ≠ 0x7000) (sub : U8) (key : U16) (s : State) :
    (signedRefused idx sub key s).acc = { s.acc with signRefused := bump s.acc.signRefused } ∧
      (signedRefused idx sub key s).boot = s.boot := by
  have hidx : ¬ (idx == 0x7000 && sub == 5) = true := by rw [beq_false_of_ne h]; exact Bool.false_ne_true
  unfold signedRefused
  dsimp only
  simp only [if_neg hidx, State.acc_record_ev3, State.record_frame]
  exact ⟨rfl, rfl⟩
end

/-! ## The server's state and the planes (R471, R475, R487) -/

theorem State.serverRuns_eq_false {s : State} : s.serverRuns = false ↔ s.boot.resetHeld = true ∨ s.job.dev = .off := by
  unfold State.serverRuns
  rw [Bool.and_eq_false_iff, Bool.not_eq_false', bne_eq_false_iff_eq]

theorem messageArrives_of_stopped {s : State} (h : s.serverRuns = false) (path : Path) (bytes : List Byte) :
    messageArrives path bytes s = s := if_pos (by rw [h]; rfl)

theorem objectRead_of_stopped {s : State} (h : s.serverRuns = false) (path : Path) (bytes : List Byte) :
    objectRead path bytes s = s :=
  (if_neg (by simp [h])).trans (messageArrives_of_stopped h path bytes)

theorem messageArrives_ma {s : State} (h : s.serverRuns = true) (bytes : List Byte) :
    messageArrives .ma bytes s = drainRing (planeServe 0 bytes s) := if_neg (by rw [h]; decide)

theorem objectRead_ma (s : State) (bytes : List Byte) : objectRead .ma bytes s = messageArrives .ma bytes s :=
  if_neg (by simp)

theorem planeServe_ma_of_barred {bytes : List Byte} {s : State} (h : s.acc.admits (bytes.take 16) = false) :
    planeServe 0 bytes s = (obOnMa bytes s).discard := by
  have hbarred : (!(obOnMa bytes s).acc.admits (bytes.take 16)) = true := by
    rw [show (obOnMa bytes s).acc.admits (bytes.take 16) = false from h]
    rfl
  exact if_pos hbarred

/-- The answer of plane MA goes to the address that asked, and its bytes count. -/
def State.answerMa (addr r : List Byte) (u : State) : State :=
  setAcc (fun a => { a with responses := a.responses ++ [(.ma, addr ++ r)] }) (u.countBytes 12 r.length)

theorem planeServe_ma_of_answered {bytes r : List Byte} {s u : State} (h : s.acc.admits (bytes.take 16) = true)
    (hs : serve .ma (bytes.drop 16) (obOnMa bytes s) = (some r, u)) : planeServe 0 bytes s = u.answerMa (bytes.take 16) r := by
  have hadmits : ¬(!(obOnMa bytes s).acc.admits (bytes.take 16)) = true := by
    rw [show (obOnMa bytes s).acc.admits (bytes.take 16) = true from h]
    exact Bool.false_ne_true
  refine (if_neg hadmits).trans ?_
  rw [if_pos rfl]
  split
  case h_1 v hserve => exact absurd (Prod.mk.inj (hserve.symm.trans hs)).1 (Option.some_ne_none r).symm
  case h_2 r' v hserve =>
    obtain ⟨hr, rfl⟩ := Prod.mk.inj (hserve.symm.trans hs)
    obtain rfl := Option.some.inj hr
    rfl

/-- The three message commands hand plane MA the same datagram. -/
theorem exec_onMa {s t : State} (h : s.serverRuns = true) {bytes : List Byte} (ht : drainRing (planeServe 0 bytes s) = t) :
    exec (.objectRead .ma bytes) s = .next t ∧ exec (.objectWrite .ma bytes) s = .next t ∧
      exec (.objectSwrite .ma bytes) s = .next t := by
  have harrives := (messageArrives_ma h bytes).trans ht
  exact ⟨congrArg Host.Outcome.next ((objectRead_ma s bytes).trans harrives), congrArg Host.Outcome.next harrives,
    congrArg Host.Outcome.next harrives⟩

theorem objectRead_of_window {s : State} (h : s.serverRuns = true) (bytes : List Byte) :
    objectRead .window bytes s = windowReads bytes s := if_pos (by rw [h]; rfl)

/-- A message through the ring is placed in the next request slot. -/
def State.placeRequest (bytes : List Byte) (s : State) : State :=
  setAcc (fun a => { a with reqRing := a.reqRing ++ [(s.acc.ringReqC + BitVec.ofNat 16 s.acc.reqRing.length, bytes)] }) s

theorem messageArrives_ring {s : State} (h : s.serverRuns = true) (bytes : List Byte) :
    messageArrives .ring bytes s = (s.placeRequest bytes).countBytes 10 bytes.length := if_neg (by rw [h]; decide)

/-! ## Tunnels (R478) -/

theorem State.serverRuns_takePk (q : Packet) (s : State) : (s.takePk q).serverRuns = s.serverRuns := by
  simp [State.serverRuns]

theorem objTunnelReceive_of_stopped {s : State} (h : s.serverRuns = false) (port : Port) (pk : Trans) :
    objTunnelReceive port pk s = s.takePk (.trans pk) :=
  if_neg (by rw [State.serverRuns_takePk, h]; decide)

theorem objTunnelReceive_of_running {s : State} (h : s.serverRuns = true) (port : Port) (pk : Trans) :
    objTunnelReceive port pk s = drainRing (tunnelServe port pk.src pk.body (s.takePk (.trans pk))) :=
  if_pos (by rw [State.serverRuns_takePk, h])

theorem tunnelServe_of_unanswered {p : Port} {dst : U32} {bytes : List Byte} {s u : State}
    (h : serve (.tunnel p) bytes s = (none, u)) : tunnelServe p dst bytes s = u := by
  unfold tunnelServe
  rw [h]

/-- The response stands among the responses, and goes back on its port. -/
def State.answerTunnel (p : Port) (dst : U32) (r : List Byte) (u : State) : State :=
  State.sendOn p (.trans (State.mkTrans (setAcc (fun a => { a with responses := a.responses ++ [(.tunnel p, r)] }) u)
    opOBJ_TUNNEL dst 0 [] [] [] r)) (setAcc (fun a => { a with responses := a.responses ++ [(.tunnel p, r)] }) u)

theorem tunnelServe_of_answered {p : Port} {dst : U32} {bytes r : List Byte} {s u : State}
    (h : serve (.tunnel p) bytes s = (some r, u)) : tunnelServe p dst bytes s = u.answerTunnel p dst r := by
  unfold tunnelServe
  rw [h]
  rfl

/-- Settles O54: each check that a request meets is one equation of the server, and the paths hand their message to it. That the
server answers nothing under a reset and in OFF is log entry 15's, that the request ring is served after each message log entry
30's. -/
theorem requestsMeetTheirChecksInOrder : Obligations.RequestsMeetTheirChecksInOrder := by
  unfold Obligations.RequestsMeetTheirChecksInOrder
  refine ⟨fun path bytes s h => serve_of_unparsed h path s, ?repeated, ?mismatched, ?read, ?write, ?noObject, ?writeOnly, ?unreadable,
    ?scalar, ?domain, fun path m s h => serveWrite_of_noObject path h, ?notWritable, ?wrongForm, ?taken,
    generation_noteWrite_self, fun idx sub s i b h => generation_noteWrite_ne h s,
    fun path m s hf ho hn hp => openSegment_of_first path hf ho hn hp, fun path m s x hf hx ho => openSegment_of_gap path hf hx ho,
    fun path m s hf hx => openSegment_of_noSession path hf hx, fun path m s r h ha => serveSwrite_of_access path h ha,
    ?signedForm, ?badSignature, fun s => State.serverRuns_eq_false, ?stopped, ?tunnelStopped, ?barred, ?answered, ?window, ?ring,
    ?tunnelDiscarded, ?tunnelAnswered⟩
  case repeated =>
    intro path bytes s m d hm hd hc
    rw [serve_of_duplicate hm hd, if_pos (beq_iff_eq.2 hc)]
    rfl
  case mismatched =>
    intro path bytes s m d hm hd hc
    rw [serve_of_duplicate hm hd, if_neg (by simp [hc])]
    exact ⟨rfl, mismatch_acc path m s⟩
  case read =>
    intro path bytes s m hm hd hk
    rw [serve_of_new hm hd, settleMsg_of_read hk]
  case write =>
    intro path bytes s m hm hd hk
    rw [serve_of_new hm hd, settleMsg_of_write hk]
  case noObject =>
    intro path m s h
    rw [serveRead_of_noObject path h]
  case writeOnly =>
    intro path m s r h ha
    rw [serveRead_of_writeOnly path h ha]
  case unreadable =>
    intro path m s r h ha hr
    rw [serveRead_of_unreadable path h ha hr]
  case scalar =>
    intro path m s r h ha hr ht ho
    rw [serveRead_of_scalar path h ha hr ht ho]
    exact ⟨rfl, rfl, rfl, rfl⟩
  case domain =>
    intro path m s r h ha hr ht ho hl
    rw [serveRead_of_domain path h ha hr ht ho hl]
    exact ⟨rfl, rfl, rfl⟩
  case notWritable =>
    intro path m s r h hrw hwo
    exact serveWrite_of_refused path h (State.writeGate_of_access path h hrw hwo) (by decide) (by decide)
  case wrongForm =>
    intro path m s r h hg ht hl hform
    rw [serveWrite_of_scalar path h hg ht hl]
    exact if_pos (by simpa using hform)
  case taken =>
    intro path m s r h hg ht hl ho hn
    rw [serveWrite_of_scalar path h hg ht hl]
    exact if_neg (by simp [ho, hn])
  case signedForm =>
    intro path m s r h ha hw ht hform
    rw [serveSwrite_of_admitted path h ha hw ht]
    exact if_pos (by simpa [or_assoc] using hform)
  case badSignature =>
    intro path m s r h ha hw ht hn ho hl hidx hsig
    rw [serveSwrite_of_admitted path h ha hw ht, if_neg (by simp [ho]; omega), hsig, if_pos (by decide)]
    exact ⟨rfl, signedRefused_of_other hidx m.sub _ s⟩
  case stopped =>
    intro s path bytes h
    have harrives := messageArrives_of_stopped h path bytes
    exact ⟨congrArg Host.Outcome.next (objectRead_of_stopped h path bytes), congrArg Host.Outcome.next harrives,
      congrArg Host.Outcome.next harrives⟩
  case tunnelStopped =>
    intro s port pk h
    exact congrArg Host.Outcome.next (objTunnelReceive_of_stopped h port pk)
  case barred =>
    intro s bytes h hidle hbarred
    have hidle' : obRingIdle (obOnMa bytes s).discard := hidle
    exact exec_onMa h ((congrArg drainRing (planeServe_ma_of_barred hbarred)).trans (drainRing_of_idle hidle'))
  case answered =>
    intro s u bytes r h hadmits hserve
    exact exec_onMa h (congrArg drainRing (planeServe_ma_of_answered hadmits hserve))
  case window =>
    intro s bytes h
    exact congrArg Host.Outcome.next (objectRead_of_window h bytes)
  case ring =>
    intro s bytes h
    refine completes_of (congrArg Host.Outcome.next (messageArrives_ring h bytes)) ?_
    simp only [State.countBytes_frame]
    rfl
  case tunnelDiscarded =>
    intro s port pk h hidle hparse
    refine completes_of (congrArg Host.Outcome.next (objTunnelReceive_of_running h port pk)) ?_
    have hacc : (s.takePk (.trans pk)).acc = s.acc := by simp
    have hidle' : obRingIdle (s.takePk (.trans pk)).discard := by
      unfold obRingIdle State.discard
      rw [hacc]
      exact hidle
    rw [tunnelServe_of_unanswered (serve_of_unparsed hparse _ _), drainRing_of_idle hidle', State.discard, hacc]
    exact ⟨rfl, rfl⟩
  case tunnelAnswered =>
    intro s u port pk r h hserve
    refine congrArg Host.Outcome.next ((objTunnelReceive_of_running h port pk).trans ?_)
    rw [tunnelServe_of_answered hserve]
    rfl

end Sys2Proof.Machine
end

section
/-! SUPPORT. Writes without a message, the rings, interrupts, the reset of the host link, and the configuration store (R467, R472 to
R481). -/
namespace Sys2Proof.Machine
open Sys2Proof Sys2Proof.Statements

/-! ## Writes of whole values (R463, R474) -/

theorem windowStatus_of_noObject {idx : U16} {sub : U8} (h : objectAt idx sub = none) (l : List Byte) (s : State) :
    windowStatus idx sub l s = (1, s) := by
  unfold windowStatus
  rw [h]

theorem windowStatus_of_open {idx : U16} {sub : U8} {r : Row} {s : State} (h : objectAt idx sub = some r)
    (hg : s.writeGate .window idx sub = 0) {l v : List Byte} (hv : windowValue r l = some v) :
    windowStatus idx sub l s = noteWrite idx sub (ownWrite idx r v s) := by
  unfold windowStatus
  rw [h]
  dsimp only
  rw [hv, hg]
  exact (if_neg (by decide)).trans (if_neg (by decide))

/-- A write of the window that the gate and the object's rule take. -/
theorem windowWrite_of_taken {idx : U16} {sub : U8} {r : Row} {s u : State} {l v : List Byte} (h : objectAt idx sub = some r)
    (hg : (s.countBytes 10 l.length).writeGate .window idx sub = 0) (hv : windowValue r l = some v)
    (hown : ownWrite idx r v (s.countBytes 10 l.length) = (0, u)) :
    windowWrite idx sub l s = (noteWrite idx sub (0, u)).2 := by
  unfold windowWrite
  rw [windowStatus_of_open h hg hv, hown]
  exact if_pos rfl

theorem windowWrite_of_noObject {idx : U16} {sub : U8} (h : objectAt idx sub = none) (l : List Byte) (s : State) :
    windowWrite idx sub l s = windowRefused idx sub 1 (s.countBytes 10 l.length) := by
  unfold windowWrite
  rw [windowStatus_of_noObject h]
  exact if_neg (by decide)

theorem pathWrite_of_taken {path : Path} {idx : U16} {sub : U8} {r : Row} {s u : State} {l : List Byte}
    (h : objectAt idx sub = some r) (hg : s.writeGate path idx sub = 0) (hl : l.length = r.ty.size)
    (hown : ownWrite idx r l s = (0, u)) : pathWrite path idx sub l s = (noteWrite idx sub (0, u)).2 := by
  unfold pathWrite
  rw [h]
  dsimp only
  rw [hg, if_neg (by decide), if_neg (by simp [hl]), hown]

theorem windowValue_of_exact {r : Row} {l : List Byte} (ht : r.ty.scalar = true) (hl : l.length = r.ty.size) :
    windowValue r l = some l := if_pos (by simp [ht, hl])

theorem registerWrite_of_stopped {s : State} (h : s.serverRuns = false) (path : Path) (idx : U16) (sub : U8) (l : List Byte) :
    registerWrite path idx sub l s = s := if_pos (by rw [h]; rfl)

theorem registerWrite_of_window {s : State} (h : s.serverRuns = true) (idx : U16) (sub : U8) (l : List Byte) :
    registerWrite .window idx sub l s = drainRing (windowWrite idx sub l s) := if_neg (by rw [h]; decide)

theorem registerWrite_of_path {s : State} (h : s.serverRuns = true) {path : Path} (hp : path ≠ .window) (idx : U16) (sub : U8)
    (l : List Byte) : registerWrite path idx sub l s = drainRing (pathWrite path idx sub l s) := by
  unfold registerWrite
  rw [if_neg (by rw [h]; decide), if_neg (by simp [hp])]

/-! ## The rings (R475) -/

theorem objectAt_ringProduce : objectAt 0x1030 1 = some (act 0x01 .u16) := rfl

theorem objectAt_ringConsume : objectAt 0x1030 4 = some (act 0x04 .u16) := rfl

/-- A 16-bit value is read back from its bytes. -/
theorem ofNat_leNat_le16 (v : U16) : BitVec.ofNat 16 (leNat (le16 v)) = v := by
  have hv := v.isLt
  refine BitVec.eq_of_toNat_eq ?_
  simp only [le16, leBytes, leNat, BitVec.toNat_ofNat]
  omega

theorem ownWrite_ringProduce (v : U16) (s : State) : ownWrite 0x1030 (act 0x01 .u16) (le16 v) s =
    (0, setAcc (fun a => { a with ringReqP := v }) s) := by
  have hwo : ownWrite 0x1030 (act 0x01 .u16) (le16 v) s =
      (0, setAcc (fun a => { a with ringReqP := BitVec.ofNat 16 (leNat (le16 v)) }) s) := rfl
  rw [hwo, ofNat_leNat_le16]

theorem ownWrite_ringConsume (v : U16) (s : State) : ownWrite 0x1030 (act 0x04 .u16) (le16 v) s =
    (0, setAcc (fun a => { a with ringRspC := v }) s) := by
  have hwo : ownWrite 0x1030 (act 0x04 .u16) (le16 v) s =
      (0, setAcc (fun a => { a with ringRspC := BitVec.ofNat 16 (leNat (le16 v)) }) s) := rfl
  rw [hwo, ofNat_leNat_le16]

theorem ringProduceWrite_of_open {s : State} (h : s.serverRuns = true) {v : U16}
    (hg : (s.countBytes 10 2).writeGate .window 0x1030 1 = 0) : ringProduceWrite v s =
      drainRing (noteWrite 0x1030 1 (0, setAcc (fun a => { a with ringReqP := v }) (s.countBytes 10 2))).2 := by
  refine (if_pos h).trans (congrArg drainRing ?_)
  exact windowWrite_of_taken (l := le16 v) objectAt_ringProduce hg (windowValue_of_exact rfl rfl) (ownWrite_ringProduce v _)

theorem ringConsumeWrite_of_open {s : State} (h : s.serverRuns = true) {v : U16}
    (hg : (s.countBytes 10 2).writeGate .window 0x1030 4 = 0) : ringConsumeWrite v s =
      drainRing (noteWrite 0x1030 4 (0, setAcc (fun a => { a with ringRspC := v }) (s.countBytes 10 2))).2 := by
  refine (if_pos h).trans (congrArg drainRing ?_)
  exact windowWrite_of_taken (l := le16 v) objectAt_ringConsume hg (windowValue_of_exact rfl rfl) (ownWrite_ringConsume v _)

/-- The server takes nothing while the response ring has no room. -/
theorem drainRing_of_full {s : State} (h : s.acc.ringFull = true) : drainRing s = s := by
  unfold drainRing
  rw [consumeRing]
  exact if_pos (by rw [h]; simp)

/-- The request slot is consumed before its message is looked at. -/
def State.consumeSlot (s : State) : State :=
  setAcc (fun a => { a with reqRing := a.reqRing.filter (·.1 != s.acc.ringReqC), ringReqC := a.ringReqC + 1 }) s

theorem ringServe_of_unparsed {s : State}
    (h : Msg.ofBytes (((s.acc.reqRing.find? (·.1 == s.acc.ringReqC)).map (·.2)).getD []) = none) :
    ringServe s = s.consumeSlot.discard := by
  unfold ringServe
  dsimp only
  rw [serve_of_unparsed h]
  rfl

/-! ## Interrupts (R476) -/

/-- The sources that are left after an acknowledgement send their vectors again. -/
theorem vector_mem_interruptAck {s : State} {v : U32} {n : Nat} (hn : n < 8) (hleft : (s.acc.irqPend &&& ~~~v).getLsbD n = true)
    (hmap : s.acc.irqMap[n]?.getD 0xFF ≠ 0xFF) : s.acc.irqMap[n]?.getD 0xFF ∈ (interruptAck v s).acc.msix := by
  refine List.mem_append_left _ (List.mem_eraseDups.2 (List.mem_filter.2 ⟨List.mem_map.2 ⟨n, ?_, rfl⟩, by simpa using hmap⟩))
  exact List.mem_filter.2 ⟨List.mem_range.2 hn, hleft⟩

theorem interruptAck_of_noneLeft {s : State} {v : U32} (h : s.acc.irqPend &&& ~~~v = 0) :
    interruptAck v s = { s with acc := { s.acc with irqPend := 0 } } := by
  unfold interruptAck
  simp [h]

/-! ## The reset of the host link (R477) -/

/-- The host's rings, interrupts and sessions are as after power-on. -/
def AccState.hostLost (a : AccState) : AccState :=
  { a with ringReqP := 0, ringReqC := 0, ringRspP := 0, ringRspC := 0, reqRing := [], rspRing := [], irqPend := 0, msix := []
           sessions := a.sessions.filter (fun x => !x.host) }

theorem hostLinkReset_eq (s : State) : hostLinkReset s =
    ({ s with acc := s.acc.hostLost, boot := { s.boot with lastReset := 4 } } : State).record (ev3 0x8032 unitCC []) := rfl

/-! ## Sessions that expire (R467) -/

theorem sessionTimeout_of_open {s : State} {k : SessionKey} (h : ∃ x ∈ s.acc.sessions, x.key = k) :
    sessionTimeout k s = { s with acc := { s.acc with
      sessions := s.acc.sessions.filter (·.key != k), sessExpired := bump s.acc.sessExpired } } :=
  if_pos (by simpa using h)

theorem sessionTimeout_of_none {s : State} {k : SessionKey} (h : ∀ x ∈ s.acc.sessions, x.key ≠ k) : sessionTimeout k s = s :=
  if_neg (by simpa using h)

/-! ## The configuration store (R480, R481) -/

theorem State.checkStanding_acc (s : State) : s.checkStanding.acc = s.acc := by
  unfold State.checkStanding
  split
  · rfl
  · split
    · rfl
    · exact State.acc_record_ev2 ..

/-- The ledger's answer and its event 0x6002 leave the access unit alone. -/
theorem State.reserve_acc (cost : Nat) (s : State) : (s.reserve cost).2.acc = s.acc := by
  unfold State.reserve
  dsimp only
  split <;> exact s.checkStanding_acc

/-- The copy that a save writes: its content, with the next generation. -/
def State.savedCopy (s : State) : CfgCopy :=
  { valid := true, gen := (max s.acc.cfgA.gen.toNat s.acc.cfgB.gen.toNat + 1 : Nat), entries := s.storeEntries }

/-- A save under way: its copy is invalid until it is whole. -/
def State.saveStarted (s s' : State) : State :=
  { s' with acc := { (s'.acc.setCopy s.acc.olderIsB { valid := false, gen := s.savedCopy.gen }) with
    saving := some (s.acc.olderIsB, s.savedCopy) } }

theorem configSave_of_idle {s : State} (h : s.acc.saving = none) : configSave 1 s =
    if !(s.reserve saveCost).1 then (s.reserve saveCost).2.record (ev3 0x8024 unitCC []) else s.saveStarted (s.reserve saveCost).2 := by
  unfold configSave
  dsimp only
  rw [if_neg (by decide), if_neg (by rw [h]; decide)]
  rfl

theorem configSave_of_busy {s : State} (h : s.acc.saving.isSome = true) : configSave 1 s = s.record (ev3 0x8024 unitCC []) := by
  unfold configSave
  dsimp only
  rw [if_neg (by decide), if_pos h]

theorem configSave_of_other {v : U8} (h : v ≠ 1) (s : State) : configSave v s = s := if_pos (bne_iff_ne.2 h)

/-- The older copy is invalid while the save is under way, and the other as it was. -/
theorem State.saveStarted_copies {s s' : State} (h : s'.acc = s.acc) :
    if s.acc.olderIsB then (s.saveStarted s').acc.cfgB.valid = false ∧ (s.saveStarted s').acc.cfgA = s.acc.cfgA
    else (s.saveStarted s').acc.cfgA.valid = false ∧ (s.saveStarted s').acc.cfgB = s.acc.cfgB := by
  unfold State.saveStarted AccState.setCopy
  rw [h]
  cases s.acc.olderIsB <;> exact ⟨rfl, rfl⟩

/-- The copy of a save that ends is whole. -/
def State.saveEnded (b : Bool) (c : CfgCopy) (s : State) : State :=
  { s with acc := { (s.acc.setCopy b c) with saving := none, cfgFallback := 0, cfgGen := c.gen } }

theorem State.finishSave_of_saving {s : State} {b : Bool} {c : CfgCopy} (h : s.acc.saving = some (b, c)) : s.finishSave =
    ((s.release (BitVec.ofNat 32 saveCost)).saveEnded b c).record (ev3 0x8022 unitCC (arg1 (if b then 1 else 0) ++ arg4 c.gen)) := by
  unfold State.finishSave
  rw [h]
  rfl

theorem State.finishSave_of_none {s : State} (h : s.acc.saving = none) : s.finishSave = s := by
  unfold State.finishSave
  rw [h]

theorem State.loadConfig_of_both {s : State} (ha : s.acc.cfgA.valid = true) (hb : s.acc.cfgB.valid = true) : s.loadConfig =
    (setCfg 0 s).loadCopy (if s.acc.cfgA.gen.toNat < s.acc.cfgB.gen.toNat then s.acc.cfgB else s.acc.cfgA) := by
  unfold State.loadConfig
  simp [ha, hb]

/-- With no valid copy the status says so, and the fall-back is noted. -/
def State.configMissing (s : State) : State := { s with acc := { s.acc with cfgWord := 3, cfgFallback := 1 } }

theorem State.loadConfig_of_neither {s : State} (ha : s.acc.cfgA.valid = false) (hb : s.acc.cfgB.valid = false) : s.loadConfig =
    s.configMissing.record (ev2 0x8021 unitCC []) := by
  unfold State.loadConfig
  dsimp only
  rw [if_neg (by simp [ha]), if_neg (by simp [ha, hb])]
  rfl

/-- Settles O55: each path's write is the write of the object's rule once the gate and the form let it pass, and the rest is one equation
of each command. That nothing is taken without a running server is log entry 15's. -/
theorem hostLinkWritesInterruptsAndTheStore : Obligations.HostLinkWritesInterruptsAndTheStore := by
  unfold Obligations.HostLinkWritesInterruptsAndTheStore
  refine ⟨?noObject, ?window, ?path, ?stopped, fun r l ht hl => windowValue_of_exact ht hl, fun s => rfl, ?produce, ?consume, ?idle,
    ?unparsed, ?ack, ?ackAll, ?hostReset, ?expires, ?notOpen, fun s c r => rfl, ?save, ?saving, ?noGrant, ?otherValue, ?ends, ?noSave,
    fun s ha hb => State.loadConfig_of_both ha hb, ?noCopy⟩
  case noObject =>
    intro s idx sub l h hidle hobj
    refine completes_of (congrArg Host.Outcome.next (registerWrite_of_window h idx sub l)) ?_
    have hidle' : obRingIdle (windowRefused idx sub 1 (s.countBytes 10 l.length)) := hidle
    rw [windowWrite_of_noObject hobj, drainRing_of_idle hidle']
    exact ⟨rfl, rfl⟩
  case window =>
    intro s u idx sub l v r h hobj hg hv hown
    refine congrArg Host.Outcome.next ((registerWrite_of_window h idx sub l).trans (congrArg drainRing ?_))
    exact windowWrite_of_taken hobj hg hv hown
  case path =>
    intro s u path idx sub l r h hp hobj hg _ hl hown
    refine congrArg Host.Outcome.next ((registerWrite_of_path h hp idx sub l).trans (congrArg drainRing ?_))
    exact pathWrite_of_taken hobj hg hl hown
  case stopped =>
    intro s path idx sub l v h
    have hnot : ¬ s.serverRuns = true := by rw [h]; decide
    exact ⟨congrArg Host.Outcome.next (registerWrite_of_stopped h path idx sub l), congrArg Host.Outcome.next (if_neg hnot),
      congrArg Host.Outcome.next (if_neg hnot)⟩
  case produce =>
    intro s v h hg
    exact congrArg Host.Outcome.next (ringProduceWrite_of_open h hg)
  case consume =>
    intro s v h hg
    exact congrArg Host.Outcome.next (ringConsumeWrite_of_open h hg)
  case idle =>
    rintro s (h | h)
    · exact drainRing_of_idle h
    · exact drainRing_of_full h
  case unparsed =>
    intro s h
    rw [ringServe_of_unparsed h]
    rfl
  case ack =>
    intro s v
    exact completes_of rfl ⟨rfl, rfl, fun n hn hleft hmap => vector_mem_interruptAck hn hleft hmap⟩
  case ackAll =>
    intro s v h
    exact congrArg Host.Outcome.next (interruptAck_of_noneLeft h)
  case hostReset =>
    intro s
    refine completes_of (congrArg Host.Outcome.next (hostLinkReset_eq s)) ?_
    rw [State.acc_record_ev3, State.record_tele, State.record_tele]
    exact ⟨by simp, rfl, rfl, rfl, rfl, rfl, rfl, rfl, rfl, State.recordTele_congr rfl rfl⟩
  case expires =>
    intro s k h
    exact congrArg Host.Outcome.next (sessionTimeout_of_open h)
  case notOpen =>
    intro s k h
    exact congrArg Host.Outcome.next (sessionTimeout_of_none h)
  case save =>
    intro s h hgrant
    refine completes_of (t := s.saveStarted (s.reserve saveCost).2) (congrArg Host.Outcome.next ?_) ⟨rfl, ?_⟩
    · rw [configSave_of_idle h, hgrant]
      rfl
    · exact State.saveStarted_copies (s.reserve_acc saveCost)
  case saving =>
    intro s h
    exact congrArg Host.Outcome.next (configSave_of_busy h)
  case noGrant =>
    intro s h hgrant
    exact congrArg Host.Outcome.next ((configSave_of_idle h).trans (if_pos (by rw [hgrant]; rfl)))
  case otherValue =>
    intro s v h
    exact congrArg Host.Outcome.next (configSave_of_other h s)
  case ends =>
    intro s b c h
    refine completes_of (congrArg Host.Outcome.next (State.finishSave_of_saving h)) ?_
    rw [State.acc_record_ev3, State.record_tele, State.record_tele]
    refine ⟨by cases b <;> rfl, rfl, rfl, rfl, State.recordTele_congr ?_ ?_⟩ <;> simp [State.saveEnded]
  case noSave =>
    intro s h
    exact congrArg Host.Outcome.next (State.finishSave_of_none h)
  case noCopy =>
    intro s ha hb
    rw [State.loadConfig_of_neither ha hb, State.acc_record_ev2, State.record_tele, State.record_tele]
    exact ⟨rfl, rfl, State.recordTele_congr rfl rfl⟩

end Sys2Proof.Machine
end

section
/-! SUPPORT. The recorder's freeze and clear, the samples, the traces, the snapshots and the alarms (R433 to R454). -/
namespace Sys2Proof.Machine
open Sys2Proof Sys2Proof.Statements

/-! ## The freeze (R433) -/

/-- The recorder after a freeze: what was held is appended, and the count of refusals is taken as seen. -/
def State.thawed (s : State) : TeleState :=
  { TeleState.appendAll s.time.cycles s.time.opMs s.tele.holding { s.tele with frozen := false, holding := [] } with
    holdRefusedAt := s.tele.holdRefused }

theorem State.unfreeze_of_noneLost {s : State} (h : s.tele.holdRefused = s.tele.holdRefusedAt) :
    s.unfreeze = { s with tele := s.thawed } := by
  have hlost : (s.tele.holdRefused - s.tele.holdRefusedAt == 0) = true := by simp [h]
  exact if_pos hlost

theorem State.unfreeze_of_lost {s : State} (h : s.tele.holdRefused ≠ s.tele.holdRefusedAt) : s.unfreeze =
    ({ s with tele := s.thawed } : State).record
      (ev3 0x8002 unitRec (arg4 ((s.tele.holdRefused - s.tele.holdRefusedAt).setWidth 32))) := by
  have hlost : ¬ (s.tele.holdRefused - s.tele.holdRefusedAt == 0) = true := by
    rw [beq_iff_eq]
    exact fun e => h (BitVec.sub_eq_iff_eq_add.1 e |>.trans (by simp))
  exact if_neg hlost

theorem recorderUnfreeze_of_frozen {s : State} (h : s.tele.frozen = true) : recorderUnfreeze s = s.unfreeze := if_pos h

/-! ## The clear (R435) -/

section
variable (cyc : U32) (op : U64)

/-- The mark of the refusals seen at the start of a freeze is written by the freeze alone. -/
theorem TeleState.holdRefusedAt_append (r : EventRec) (t : TeleState) : (t.append cyc op r).1.holdRefusedAt = t.holdRefusedAt := by
  unfold TeleState.append
  split
  · rfl
  · dsimp only
    split <;> rfl

theorem TeleState.holdRefusedAt_recordPlain (e : Event) (t : TeleState) :
    (t.recordPlain cyc op e).1.holdRefusedAt = t.holdRefusedAt := by
  unfold TeleState.recordPlain
  split
  · split
    · rfl
    · split <;> rfl
  · split
    · rfl
    · exact TeleState.holdRefusedAt_append ..

theorem TeleState.holdRefusedAt_holdAlarm (a : Alarm) (t : TeleState) : (t.holdAlarm op a).1.holdRefusedAt = t.holdRefusedAt := by
  unfold TeleState.holdAlarm
  dsimp only
  split <;> rfl

theorem TeleState.holdRefusedAt_traceAdd (now : Nat) (r : TraceRec) (t : TeleState) :
    (t.traceAdd now op r).holdRefusedAt = t.holdRefusedAt := by
  unfold TeleState.traceAdd
  dsimp only
  repeat' split
  all_goals rfl

theorem TeleState.holdRefusedAt_alarm (now : Nat) (e : Event) (t : TeleState) :
    (t.alarm now cyc op e).holdRefusedAt = t.holdRefusedAt := by
  unfold TeleState.alarm
  dsimp only
  split
  · split
    · rw [TeleState.holdRefusedAt_recordPlain]
      exact TeleState.holdRefusedAt_holdAlarm op _ { t with alarmSeq := t.alarmSeq + 1 }
    · exact TeleState.holdRefusedAt_holdAlarm op _ { t with alarmSeq := t.alarmSeq + 1 }
  · rfl
end

theorem State.holdRefusedAt_recordTele (e : Event) (s : State) : (s.recordTele e).holdRefusedAt = s.tele.holdRefusedAt := by
  unfold State.recordTele
  dsimp only
  generalize (if e.cls == 3 then (s.tele.forwarded e.code).getD 3 else e.cls) = cls
  split
  · rw [TeleState.holdRefusedAt_alarm, TeleState.holdRefusedAt_traceAdd, TeleState.holdRefusedAt_recordPlain]
  · rw [TeleState.holdRefusedAt_traceAdd, TeleState.holdRefusedAt_recordPlain]

/-- With nothing held and nothing refused there is nothing to append. -/
theorem State.tele_drainHolding_nil {s : State} (h : s.tele.holdRefused = s.tele.holdRefusedAt) :
    (s.drainHolding []).tele = s.tele := by
  have hlost : (s.tele.holdRefused - s.tele.holdRefusedAt == 0) = true := by simp [h]
  have hdrained : s.drainHolding [] = { s with tele := { s.tele with holdRefusedAt := s.tele.holdRefused } } := if_pos hlost
  rw [hdrained, h]

/-- The recorder with nothing in it, its counters as they were. -/
def State.emptied (s : State) : State := { s with tele := { s.tele with frozen := false, holding := [], slots := [], full := none } }

theorem State.tele_clearRecorder {s : State} (hheld : s.tele.holding = []) (hlost : s.tele.holdRefused = s.tele.holdRefusedAt)
    (key : U16) : (s.clearRecorder key).tele =
      (s.emptied.record (ev3 0x8004 unitRec (le16 key ++ leBytes 4 s.tele.slotsUsed))).tele := by
  have hcleared : s.clearRecorder key =
      (s.emptied.record (ev3 0x8004 unitRec (le16 key ++ leBytes 4 s.tele.slotsUsed))).drainHolding s.tele.holding := rfl
  rw [hcleared, hheld]
  refine State.tele_drainHolding_nil ?_
  obtain ⟨-, -, -, hrefused⟩ := State.record_in_empty (s := s.emptied) rfl rfl rfl
    (ev3 0x8004 unitRec (le16 key ++ leBytes 4 s.tele.slotsUsed))
  rw [hrefused, State.record_tele, State.holdRefusedAt_recordTele]
  exact hlost

/-! ## Samples (R443) -/

/-- The sample that the unit leaves now. -/
def State.sampleNow (unit : U16) (loc : U32) (st ctx : U8) (s : State) : Sample :=
  ⟨s.ns (islandOfUnit unit.toNat) &&& 0xFFFFFFFFFFFF#64, unit, loc, st, ctx⟩

section
variable {s : State} {unit : U16} {b : Nat} (loc : U32) (st ctx : U8)

theorem pcSample_of_off (h : sampleBit unit = none ∨ s.tele.sampEvery = 0) : pcSample unit loc st ctx s = s := by
  unfold pcSample
  split
  case h_1 => rfl
  case h_2 b hb =>
    obtain h | h := h
    · simp [h] at hb
    · exact if_pos (by simp [h])

/-- A sample is counted, the unit's jitter register goes on, and a full ring loses its oldest. -/
theorem pcSample_of_on (hb : sampleBit unit = some b) (he : s.tele.sampEvery ≠ 0) (hu : s.tele.sampUnits.getLsbD b = true) :
    let t := (pcSample unit loc st ctx s).tele
    let full := decide (s.tele.samples.length ≥ sampleSlots)
    t.samples = (if full then s.tele.samples.drop 1 else s.tele.samples) ++ [s.sampleNow unit loc st ctx] ∧
      t.sampWritten = bump s.tele.sampWritten ∧
      t.sampOver = (if full && decide (s.tele.sampRead.toNat ≤ s.tele.sampWritten.toNat - sampleSlots) then bump s.tele.sampOver
        else s.tele.sampOver) ∧
      t.lfsr = stepLfsr unit s.tele.lfsr := by
  have hon : ¬ (s.tele.sampEvery == 0 || !(s.tele.sampUnits.getLsbD b)) = true := by
    rw [beq_false_of_ne he, hu]
    decide
  unfold pcSample
  rw [hb]
  dsimp only
  rw [if_neg hon]
  exact ⟨rfl, rfl, rfl, rfl⟩
end

/-! ## Traces (R446) -/

theorem traceClear_of_running {s : State} (h : s.tele.traceStatus = 1) :
    traceClear s = { s with tele := { s.tele with traceRefused := true } } :=
  congrArg (fun t => { s with tele := t }) (if_pos (beq_iff_eq.2 h))

theorem traceClear_of_stopped {s : State} (h : s.tele.traceStatus ≠ 1) :
    traceClear s = { s with tele := { s.tele with trace := [], traceStatus := 0, traceRefused := false } } :=
  congrArg (fun t => { s with tele := t }) (if_neg (by rw [beq_iff_eq]; exact h))

/-! ## Snapshots (R440, R441) -/

theorem State.takeSnapshot_of_busy {s : State} (h : s.tele.snapBusy.isSome = true) (action : U8) : s.takeSnapshot action =
    { s with tele := { s.tele with snapStatus := 4, snapRefused := bump s.tele.snapRefused } } := if_pos h

theorem State.takeSnapshot_of_free {s : State} (h : s.tele.snapBusy = none) (action : U8) : s.takeSnapshot action =
    { s with tele := { s.tele with
      snapStatus := 1, snapNum := s.tele.snapNum + 1
      snapBusy := some { num := s.tele.snapNum + 1, action := action, opMs := s.time.opMs, latches := (List.range 44).map s.ns
                         entries := s.latchAll (action == 2) }
      twins := if action == 2 then Vector.replicate 14 0 else s.tele.twins } } := if_neg (by rw [h]; decide)

/-- Where the snapshot that is written begins in the ring: behind the last one. -/
def TeleState.nextSnapOff (t : TeleState) : Nat :=
  match t.snaps.getLast? with
  | some p => (t.snapOff.toNat + p.size) % snapRing
  | none => 0

/-- The snapshots of the ring once another is written. -/
def TeleState.snapsWith (x : Snap) (t : TeleState) : List Snap := (fitRing (t.snaps ++ [x]).reverse snapRing).reverse

theorem snapshotWritten_of_busy {s : State} {x : Snap} (h : s.tele.snapBusy = some x) : snapshotWritten s =
    ({ s with tele := { s.tele.countBytes 3 x.size with
      snaps := s.tele.snapsWith x, snapBusy := none, snapStatus := 0, snapOff := BitVec.ofNat 32 s.tele.nextSnapOff } } : State).raiseIrq 5 := by
  unfold snapshotWritten
  rw [h]
  rfl

theorem snapshotWritten_of_none {s : State} (h : s.tele.snapBusy = none) : snapshotWritten s = s := by
  unfold snapshotWritten
  rw [h]

/-- The newest snapshot stays in the ring when it fits. -/
theorem TeleState.getLast?_snapsWith {x : Snap} (h : x.size ≤ snapRing) (t : TeleState) : (t.snapsWith x).getLast? = some x := by
  unfold TeleState.snapsWith
  rw [List.reverse_append, List.reverse_singleton, List.singleton_append, fitRing, if_pos h, List.getLast?_reverse]
  rfl

/-! ## Alarms (R451 to R454) -/

theorem alarmSend_of_noToken {s : State} {i : Fin 2} (h : (s.tele.planes[i]).tokensMilli < 1000) : alarmSend i s = s := if_pos h

theorem alarmSend_of_nothing {s : State} {i : Fin 2} (h : (s.tele.planes[i]).nextOut = none) : alarmSend i s = s := by
  unfold alarmSend
  dsimp only
  rw [h, ite_id]

/-- The plane without the message that leaves, which takes a token and counts as delivered. -/
def PlaneQ.sent (k : Nat) (a : Alarm) (q : PlaneQ) : PlaneQ :=
  { q with queue := q.queue.eraseIdx k, tokensMilli := q.tokensMilli - 1000
           delivered := addAt q.delivered a.cls.toNat a.represented.toNat }

/-- The telemetry once a plane has sent the message. -/
def TeleState.sentOn (i : Fin 2) (k : Nat) (a : Alarm) (t : TeleState) : TeleState :=
  ({ t with planes := t.planes.set i ((t.planes[i]).sent k a) }).planeSend i false a

theorem alarmSend_of_next {s : State} {i : Fin 2} {k : Nat} {a : Alarm} (ht : 1000 ≤ (s.tele.planes[i]).tokensMilli)
    (hk : (s.tele.planes[i]).nextOut = some k) (ha : (s.tele.planes[i]).queue[k]? = some a) : alarmSend i s =
      { s with tele := s.tele.sentOn i k a } := by
  unfold alarmSend
  dsimp only
  rw [if_neg (by omega), hk]
  dsimp only
  rw [ha]
  rfl

/-- A NOTIFY changes its plane's outbox, and nothing else of any plane. -/
theorem TeleState.planeSend_queue (i j : Fin 2) (resent : Bool) (a : Alarm) (t : TeleState) :
    ((t.planeSend i resent a).planes[j]).queue = (t.planes[j]).queue ∧
      ((t.planeSend i resent a).planes[j]).tokensMilli = (t.planes[j]).tokensMilli := by
  simp only [TeleState.planeSend, TeleState.planes_countBytes, Fin.getElem_fin, Vector.getElem_set, Fin.val_inj]
  split
  case isTrue h =>
    subst h
    exact ⟨rfl, rfl⟩
  case isFalse => exact ⟨rfl, rfl⟩

theorem TeleState.sentOn_queue (i : Fin 2) (k : Nat) (a : Alarm) (t : TeleState) :
    ((t.sentOn i k a).planes[i]).queue = (t.planes[i]).queue.eraseIdx k ∧
      ((t.sentOn i k a).planes[i]).tokensMilli = (t.planes[i]).tokensMilli - 1000 := by
  obtain ⟨hqueue, htokens⟩ := TeleState.planeSend_queue i i false a { t with planes := t.planes.set i ((t.planes[i]).sent k a) }
  unfold TeleState.sentOn
  rw [hqueue, htokens]
  simp [PlaneQ.sent]

/-- The first of a class that does not wait: it is of the class, and while there is none, none of the class can leave. -/
theorem PlaneQ.findIdx_of_class {q : PlaneQ} {c : U8} {k : Nat} {a : Alarm}
    (h : q.queue.findIdx? (fun a => a.cls == c && !a.waiting) = some k) (ha : q.queue[k]? = some a) :
    a.cls = c ∧ a.waiting = false := by
  obtain ⟨hk, hp, -⟩ := List.findIdx?_eq_some_iff_getElem.1 h
  obtain ⟨_, rfl⟩ := List.getElem?_eq_some_iff.1 ha
  simpa using hp

theorem PlaneQ.waiting_of_noneOf {q : PlaneQ} {c : U8} (h : q.queue.findIdx? (fun a => a.cls == c && !a.waiting) = none)
    {b : Alarm} (hb : b ∈ q.queue) (hw : b.waiting = false) : b.cls ≠ c := by
  intro hc
  have hnot := List.findIdx?_eq_none_iff.1 h b hb
  simp [hc, hw] at hnot

theorem PlaneQ.nextOut_lowest {q : PlaneQ} {k : Nat} {a : Alarm} (h : q.nextOut = some k) (ha : q.queue[k]? = some a) :
    a.waiting = false ∧
      ∀ b ∈ q.queue, b.waiting = false → (b.cls = 2 ∨ b.cls = 3 ∨ b.cls = 4) → a.cls.toNat ≤ b.cls.toNat := by
  unfold PlaneQ.nextOut at h
  dsimp only at h
  rcases h2 : q.queue.findIdx? (fun a => a.cls == 2 && !a.waiting) with _ | k2
  · rw [h2, Option.none_or] at h
    rcases h3 : q.queue.findIdx? (fun a => a.cls == 3 && !a.waiting) with _ | k3
    · rw [h3, Option.none_or] at h
      obtain ⟨hc, hw⟩ := PlaneQ.findIdx_of_class h ha
      refine ⟨hw, fun b hb hbw hbc => ?_⟩
      obtain hbc | hbc | hbc := hbc
      · exact absurd hbc (PlaneQ.waiting_of_noneOf h2 hb hbw)
      · exact absurd hbc (PlaneQ.waiting_of_noneOf h3 hb hbw)
      · rw [hc, hbc]
    · rw [h3, Option.some_or, Option.some.injEq] at h
      obtain ⟨hc, hw⟩ := PlaneQ.findIdx_of_class (h ▸ h3) ha
      refine ⟨hw, fun b hb hbw hbc => ?_⟩
      obtain hbc | hbc | hbc := hbc
      · exact absurd hbc (PlaneQ.waiting_of_noneOf h2 hb hbw)
      · rw [hc, hbc]
      · rw [hc, hbc]
        decide
  · rw [h2, Option.some_or, Option.some.injEq] at h
    obtain ⟨hc, hw⟩ := PlaneQ.findIdx_of_class (h ▸ h2) ha
    refine ⟨hw, fun b hb hbw hbc => ?_⟩
    obtain hbc | hbc | hbc := hbc <;> rw [hc, hbc] <;> decide

/-- An entry of the hold sent again on both planes. -/
def TeleState.resendHeld (t : TeleState) (a : Alarm) : TeleState :=
  (t.planeSend 0 true { a with resent := true }).planeSend 1 true { a with resent := true }

theorem alarmHoldResend_eq (s : State) : alarmHoldResend s = { s with tele := s.tele.hold.foldl TeleState.resendHeld s.tele } := rfl

theorem TeleState.foldl_resendHeld (l : List Alarm) (t : TeleState) :
    (l.foldl TeleState.resendHeld t).hold = t.hold ∧ (l.foldl TeleState.resendHeld t).slots = t.slots := by
  induction l generalizing t with
  | nil => exact ⟨rfl, rfl⟩
  | cons a l ih => exact ih (t.resendHeld a)

theorem alarmAcknowledge_of_held {s : State} {seq : U32} {a : Alarm} (h : s.tele.hold.find? (fun x => x.seq == seq) = some a) :
    alarmAcknowledge seq s =
      { s with tele := { (s.tele.deliverHeld a) with hold := s.tele.hold.erase a, holdFull := false } } := by
  unfold alarmAcknowledge
  rw [h]
  rfl

theorem alarmAcknowledge_of_unknown {s : State} {seq : U32} (h : ∀ a ∈ s.tele.hold, a.seq ≠ seq) : alarmAcknowledge seq s = s := by
  have hnone : s.tele.hold.find? (fun x => x.seq == seq) = none := List.find?_eq_none.2 (by simpa using h)
  unfold alarmAcknowledge
  rw [hnone]

/-- Settles O56: each command is one equation of its state; the next message of a plane is the first of the lowest class of which one
does not wait. That a snapshot follows the one before it in the ring is log entry 83's. -/
theorem recorderSamplesTracesAndSnapshots : Obligations.RecorderSamplesTracesAndSnapshots := by
  unfold Obligations.RecorderSamplesTracesAndSnapshots
  refine ⟨?freeze, ?frozen, ?notFrozen, ?noneLost, ?lost, ?timeout, ?clear, fun s key => rfl, ?sampled, ?oldest, ?sampleOff,
    fun s => ⟨rfl, rfl⟩, ?traceStopped, ?traceRunning, ?snapshot, ?interval, ?snapBusy, ?written, fun x => rfl, ?noSnapshot,
    fun s seq => rfl, ?noToken, ?nothing, ?sends, fun q k a h ha => PlaneQ.nextOut_lowest h ha, ?emptyHold, ?resend, ?acknowledged,
    ?unknown⟩
  case freeze =>
    intro s h
    exact congrArg Host.Outcome.next (if_neg (by rw [h]; decide))
  case frozen =>
    intro s h
    exact congrArg Host.Outcome.next (if_pos h)
  case notFrozen =>
    intro s h
    have hnot : ¬ s.tele.frozen = true := by rw [h]; decide
    exact ⟨congrArg Host.Outcome.next (if_neg hnot), congrArg Host.Outcome.next (if_neg hnot)⟩
  case noneLost =>
    intro s h hlost
    exact completes_of (congrArg Host.Outcome.next ((recorderUnfreeze_of_frozen h).trans (State.unfreeze_of_noneLost hlost))) ⟨rfl, rfl⟩
  case lost =>
    intro s h hlost
    exact congrArg Host.Outcome.next ((recorderUnfreeze_of_frozen h).trans (State.unfreeze_of_lost hlost))
  case timeout =>
    intro s u h hu
    obtain rfl : s.unfreeze = u := (recorderUnfreeze_of_frozen h).symm.trans (Host.Outcome.next.inj hu)
    exact congrArg Host.Outcome.next (if_pos h)
  case clear =>
    intro s key hheld hlost
    exact completes_of (congrArg Host.Outcome.next (recorderClear_of_holds key s)) (State.tele_clearRecorder hheld hlost key)
  case sampled =>
    intro s unit loc st ctx b hb he hu hroom
    refine completes_of rfl ?_
    obtain ⟨hsamples, hwritten, hover, hlfsr⟩ := pcSample_of_on loc st ctx hb he hu
    have hfull : decide (s.tele.samples.length ≥ sampleSlots) = false := decide_eq_false (by omega)
    rw [hfull] at hsamples hover
    exact ⟨hsamples, hwritten, hover, hlfsr⟩
  case oldest =>
    intro s unit loc st ctx b hb he hu hfull
    refine completes_of rfl ?_
    obtain ⟨hsamples, -⟩ := pcSample_of_on loc st ctx hb he hu
    rwa [if_pos (decide_eq_true hfull)] at hsamples
  case sampleOff =>
    intro s unit loc st ctx h
    exact congrArg Host.Outcome.next (pcSample_of_off loc st ctx h)
  case traceStopped =>
    intro s h
    exact congrArg Host.Outcome.next (traceClear_of_stopped h)
  case traceRunning =>
    intro s h
    exact congrArg Host.Outcome.next (traceClear_of_running h)
  case snapshot =>
    intro s h
    exact congrArg Host.Outcome.next (State.takeSnapshot_of_free h 1)
  case interval =>
    intro s h
    exact congrArg Host.Outcome.next (State.takeSnapshot_of_free h 2)
  case snapBusy =>
    intro s h
    exact ⟨congrArg Host.Outcome.next (State.takeSnapshot_of_busy h 1), congrArg Host.Outcome.next (State.takeSnapshot_of_busy h 2)⟩
  case written =>
    intro s x h hfits
    refine completes_of (congrArg Host.Outcome.next (snapshotWritten_of_busy h)) ?_
    simp only [State.raiseIrq_frame]
    refine ⟨trivial, trivial, TeleState.getLast?_snapsWith hfits s.tele, fun hnil => ?_, fun p hp => ?_,
      State.irqPend_raiseIrq (by decide) _⟩
    · rw [TeleState.nextSnapOff, hnil]
      rfl
    · rw [TeleState.nextSnapOff, hp]
      rfl
  case noSnapshot =>
    intro s h
    exact congrArg Host.Outcome.next (snapshotWritten_of_none h)
  case noToken =>
    intro s plane h
    exact congrArg Host.Outcome.next (alarmSend_of_noToken h)
  case nothing =>
    intro s plane h
    exact congrArg Host.Outcome.next (alarmSend_of_nothing h)
  case sends =>
    intro s plane i k a hi ht hk ha
    subst hi
    exact completes_of (congrArg Host.Outcome.next (alarmSend_of_next ht hk ha)) (TeleState.sentOn_queue _ k a s.tele)
  case emptyHold =>
    intro s h
    refine congrArg Host.Outcome.next ((alarmHoldResend_eq s).trans ?_)
    rw [h]
    rfl
  case resend =>
    intro s
    exact completes_of (congrArg Host.Outcome.next (alarmHoldResend_eq s)) (TeleState.foldl_resendHeld s.tele.hold s.tele)
  case acknowledged =>
    intro s seq a h
    exact completes_of (congrArg Host.Outcome.next (alarmAcknowledge_of_held h)) ⟨rfl, rfl, rfl⟩
  case unknown =>
    intro s seq h
    exact congrArg Host.Outcome.next (alarmAcknowledge_of_unknown h)

end Sys2Proof.Machine
end

section
/-! SUPPORT. The power cap, the temperatures, the reservoirs, the ledger and the output pins (R503 to R515). -/
namespace Sys2Proof.Machine
open Sys2Proof Sys2Proof.Statements

/-! ## The clocks of the islands (R503 to R505) -/

theorem State.pct_congr {s t : State} (h : t.pwr.islandPct = s.pwr.islandPct) (i : Nat) : t.pct i = s.pct i := by
  simp only [State.pct, h]

theorem State.pct_setPct_self {i : Nat} (hi : i < 44) (v : Nat) (s : State) : (s.setPct i v).pct i = v := by
  simp [State.pct, State.setPct, hi]

theorem State.pct_setPct_ne {i j : Nat} (h : j ≠ i) (v : Nat) (s : State) : (s.setPct i v).pct j = s.pct j := by
  unfold State.setPct
  split
  case isTrue hi => simp [State.pct, Vector.getElem?_set_ne hi (Ne.symm h)]
  case isFalse => rfl

/-- A throttleable island is one of the 44. -/
theorem State.lt_of_throttleable {s : State} {i : Nat} (h : s.throttleable i = true) : i < 44 := by
  simp only [State.throttleable, Bool.and_eq_true, decide_eq_true_eq] at h
  omega

theorem State.lower_of_on {s : State} {i : Nat} (ht : s.throttleable i = true) (hp : 100 < s.pct i) :
    s.lower i = s.setPct i (s.pct i - 1) := if_pos (by simp [ht, hp])

theorem State.lower_of_off {s : State} {i : Nat} (h : s.throttleable i = false ∨ s.pct i ≤ 100) : s.lower i = s := by
  refine if_neg ?_
  rcases h with h | h
  · simp [h]
  · simp [Nat.not_lt.2 h]

theorem State.pct_lower_le (i j : Nat) (s : State) : (s.lower i).pct j ≤ s.pct j := by
  unfold State.lower
  split
  case isTrue h =>
    by_cases hj : j = i
    · have hi : i < 44 := State.lt_of_throttleable (by simp only [Bool.and_eq_true] at h; exact h.2)
      rw [hj, State.pct_setPct_self hi]
      omega
    · rw [State.pct_setPct_ne hj]
  case isFalse => exact Nat.le_refl _

theorem State.le_pct_raise (i j : Nat) (s : State) : s.pct j ≤ (s.raise i).pct j := by
  unfold State.raise
  split
  case isTrue h =>
    by_cases hj : j = i
    · have hi : i < 44 := State.lt_of_throttleable (by simp only [Bool.and_eq_true] at h; exact h.1.2)
      rw [hj, State.pct_setPct_self hi]
      omega
    · rw [State.pct_setPct_ne hj]
  case isFalse => exact Nat.le_refl _

theorem State.pct_foldl_lower_le (l : List Nat) (j : Nat) (s : State) : (l.foldl (fun s i => s.lower i) s).pct j ≤ s.pct j := by
  induction l generalizing s with
  | nil => exact Nat.le_refl _
  | cons i l ih => exact (ih (s.lower i)).trans (s.pct_lower_le i j)

theorem State.le_pct_foldl_raise (l : List Nat) (j : Nat) (s : State) : s.pct j ≤ (l.foldl (fun s i => s.raise i) s).pct j := by
  induction l generalizing s with
  | nil => exact Nat.le_refl _
  | cons i l ih => exact (s.le_pct_raise i j).trans (ih (s.raise i))

/-! ## What a step of the clocks writes -/

/-- Of the power unit, only the clocks and what has been recorded of them differ. -/
def ClocksOnly (s t : State) : Prop :=
  ∃ pct minute unmet, t.pwr = { s.pwr with islandPct := pct, throttleMin := minute, capUnmet := unmet }

theorem ClocksOnly.refl (s : State) : ClocksOnly s s := ⟨_, _, _, rfl⟩

theorem ClocksOnly.of {s t u : State} (h : ClocksOnly s t) {pct minute unmet}
    (hu : u.pwr = { t.pwr with islandPct := pct, throttleMin := minute, capUnmet := unmet }) : ClocksOnly s u := by
  obtain ⟨a, b, c, ht⟩ := h
  exact ⟨pct, minute, unmet, by rw [hu, ht]⟩

theorem State.setPct_clocksOnly {s t : State} (h : ClocksOnly s t) (i v : Nat) : ClocksOnly s (t.setPct i v) := by
  unfold State.setPct
  split
  · exact h.of rfl
  · exact h

theorem State.lower_clocksOnly {s t : State} (h : ClocksOnly s t) (i : Nat) : ClocksOnly s (t.lower i) := by
  unfold State.lower
  split
  · exact State.setPct_clocksOnly h i _
  · exact h

theorem State.raise_clocksOnly {s t : State} (h : ClocksOnly s t) (i : Nat) : ClocksOnly s (t.raise i) := by
  unfold State.raise
  split
  · exact State.setPct_clocksOnly h i _
  · exact h

theorem State.foldl_lower_clocksOnly (l : List Nat) {s t : State} (h : ClocksOnly s t) :
    ClocksOnly s (l.foldl (fun s i => s.lower i) t) := by
  induction l generalizing t with
  | nil => exact h
  | cons i l ih => exact ih (State.lower_clocksOnly h i)

theorem State.foldl_raise_clocksOnly (l : List Nat) {s t : State} (h : ClocksOnly s t) :
    ClocksOnly s (l.foldl (fun s i => s.raise i) t) := by
  induction l generalizing t with
  | nil => exact h
  | cons i l ih => exact ih (State.raise_clocksOnly h i)

theorem State.recordAlarm3_pwr (e : Event) (s : State) : (s.recordAlarm3 e).pwr = s.pwr :=
  (State.recordAlarm3_keep (M := 0xC0000) rfl e s (Keep.refl _ s)).pwr rfl

theorem State.noteThrottle_pwr (s : State) : ∃ minute, s.noteThrottle.pwr = { s.pwr with throttleMin := minute } := by
  unfold State.noteThrottle
  dsimp only
  split
  · exact ⟨_, rfl⟩
  · exact ⟨_, State.recordAlarm3_pwr _ _⟩

theorem State.noteThrottle_clocksOnly {s t : State} (h : ClocksOnly s t) : ClocksOnly s t.noteThrottle := by
  obtain ⟨minute, hpwr⟩ := t.noteThrottle_pwr
  exact h.of (pct := t.pwr.islandPct) (unmet := t.pwr.capUnmet) hpwr

theorem State.pct_noteThrottle (s : State) (i : Nat) : s.noteThrottle.pct i = s.pct i := by
  obtain ⟨minute, hpwr⟩ := s.noteThrottle_pwr
  exact State.pct_congr (by rw [hpwr]) i

/-- The clocks after the cap is found unmet are as before. -/
theorem State.capUnmet_pwr (s : State) (e : Event) :
    (State.record e { s with pwr := { s.pwr with capUnmet := true } }).pwr = { s.pwr with capUnmet := true } := by
  simp only [State.record_frame]

theorem State.stepDown_clocksOnly (s : State) : ClocksOnly s s.stepDown := by
  unfold State.stepDown
  split
  · exact (State.noteThrottle_clocksOnly (State.foldl_lower_clocksOnly _ (.refl s)))
  · split
    · exact .refl s
    · exact (ClocksOnly.refl s).of (s.capUnmet_pwr _)

theorem State.stepUp_clocksOnly (s : State) : ClocksOnly s s.stepUp := by
  unfold State.stepUp
  split
  · exact State.foldl_raise_clocksOnly _ (.refl s)
  · exact .refl s

theorem State.pct_stepDown_le (s : State) (i : Nat) : s.stepDown.pct i ≤ s.pct i := by
  unfold State.stepDown
  split
  · rw [State.pct_noteThrottle]
    exact State.pct_foldl_lower_le _ i s
  · split
    · exact Nat.le_refl _
    · exact (State.pct_congr (by rw [State.capUnmet_pwr]) i).le

theorem State.le_pct_stepUp (s : State) (i : Nat) : s.pct i ≤ s.stepUp.pct i := by
  unfold State.stepUp
  split
  · exact State.le_pct_foldl_raise _ i s
  · exact Nat.le_refl _

theorem State.stepDown_of_lowest {s : State} (hunmet : s.pwr.capUnmet = false)
    (h : ∀ i, s.throttleable i = true → s.pct i ≤ 100) :
    s.stepDown = State.record (ev2 0x6031 unitPwr []) { s with pwr := { s.pwr with capUnmet := true } } := by
  have hnone : throttleGroups.find? (fun g => g.any (fun i => s.throttleable i && decide (s.pct i > 100))) = none := by
    rw [List.find?_eq_none]
    intro g _
    rw [List.any_eq_true]
    rintro ⟨i, -, hi⟩
    simp only [Bool.and_eq_true, decide_eq_true_eq] at hi
    exact absurd (h i hi.1) (by omega)
  unfold State.stepDown
  rw [hnone]
  exact if_neg (by rw [hunmet]; decide)

/-! ## The power average (R503) -/

/-- The reading is shown, the time below 95 % of the cap goes on or starts again, and a cap that is met is not unmet. -/
def State.averaged (w : U16) (s : State) : State :=
  { s with pwr := { s.pwr with
    powerW := w, belowMs := if decide (w.toNat * 100 ≤ s.pwr.capW.toNat * 95) then s.pwr.belowMs + 1 else 0
    capUnmet := s.pwr.capUnmet && decide (w.toNat > s.pwr.capW.toNat) } }

/-- The step that the reading asks for. -/
def State.capStep (w : U16) (s : State) : State :=
  if w.toNat > s.pwr.capW.toNat then (s.averaged w).stepDown
  else if (s.averaged w).pwr.belowMs ≥ 100 then (s.averaged w).stepUp else s.averaged w

/-- Throttled time counts. -/
def State.countThrottled (s : State) : State :=
  if s.isThrottled then { s with pwr := { s.pwr with throttledMs := bump s.pwr.throttledMs } } else s

theorem powerAverageTick_eq (w : U16) (s : State) : powerAverageTick w s = (s.capStep w).countThrottled := rfl

theorem State.countThrottled_pwr (s : State) : ∃ n, s.countThrottled.pwr = { s.pwr with throttledMs := n } := by
  unfold State.countThrottled
  split
  · exact ⟨_, rfl⟩
  · exact ⟨_, rfl⟩

theorem State.countThrottled_tele (s : State) : s.countThrottled.tele = s.tele := by
  unfold State.countThrottled
  split <;> rfl

theorem State.pct_countThrottled (s : State) (i : Nat) : s.countThrottled.pct i = s.pct i := by
  obtain ⟨n, hpwr⟩ := s.countThrottled_pwr
  exact State.pct_congr (by rw [hpwr]) i

theorem State.capStep_clocksOnly (w : U16) (s : State) : ClocksOnly (s.averaged w) (s.capStep w) := by
  unfold State.capStep
  split
  · exact State.stepDown_clocksOnly _
  · split
    · exact State.stepUp_clocksOnly _
    · exact .refl _

theorem State.pct_averaged (w : U16) (s : State) (i : Nat) : (s.averaged w).pct i = s.pct i := rfl

theorem State.le_pct_capStep {w : U16} {s : State} (h : w.toNat ≤ s.pwr.capW.toNat) (i : Nat) : s.pct i ≤ (s.capStep w).pct i := by
  unfold State.capStep
  rw [if_neg (by omega)]
  split
  · exact State.le_pct_stepUp (s.averaged w) i
  · exact Nat.le_refl _

theorem State.pct_capStep_le {w : U16} {s : State} (h : s.pwr.capW.toNat < w.toNat) (i : Nat) : (s.capStep w).pct i ≤ s.pct i := by
  unfold State.capStep
  rw [if_pos h]
  exact State.pct_stepDown_le (s.averaged w) i

theorem State.capStep_of_early {w : U16} {s : State} (h : w.toNat * 100 ≤ s.pwr.capW.toNat * 95) (hms : s.pwr.belowMs < 99) :
    s.capStep w = s.averaged w := by
  have hbelow : (s.averaged w).pwr.belowMs = s.pwr.belowMs + 1 := if_pos (decide_eq_true h)
  unfold State.capStep
  rw [if_neg (by omega), if_neg (by omega)]

/-! ## Temperatures (R506, R507) -/

/-- An island's temperature from a sample that has one for it. -/
def State.takeTemp (l : List U16) (s : State) (i : Nat) : State :=
  match l[i]? with
  | some t => s.setTemp i t
  | none => s

theorem State.temps_takeTemp (l : List U16) (s : State) (i : Nat) {j : Nat} (hj : j < 44) :
    (s.takeTemp l i).pwr.temps[j] = if j = i then (l[j]?).getD (s.pwr.temps[j]) else s.pwr.temps[j] := by
  unfold State.takeTemp
  split
  case h_1 t ht =>
    by_cases hji : j = i
    · subst hji
      rw [if_pos rfl, ht]
      simp [State.setTemp, hj]
    · rw [if_neg hji]
      unfold State.setTemp
      split
      · simp [Ne.symm hji]
      · rfl
  case h_2 hnone =>
    split
    case isTrue hji =>
      subst hji
      rw [hnone]
      rfl
    case isFalse => rfl

theorem State.temps_foldl_takeTemp (l : List U16) (is : List Nat) (s : State) {j : Nat} (hj : j < 44) :
    (is.foldl (State.takeTemp l) s).pwr.temps[j] = if j ∈ is then (l[j]?).getD (s.pwr.temps[j]) else s.pwr.temps[j] := by
  induction is generalizing s with
  | nil => rfl
  | cons i is ih =>
    rw [List.foldl_cons, ih, State.temps_takeTemp l s i hj]
    by_cases hji : j = i
    · subst hji
      cases l[j]? <;> simp
    · simp [hji]

theorem State.checkCritical_temps (i : Nat) (old : U16) (s : State) : (s.checkCritical i old).pwr.temps = s.pwr.temps := by
  unfold State.checkCritical
  dsimp only
  split
  · simp [State.enterSafe]
  · rfl

theorem State.foldl_checkCritical_temps (s : State) (old : Vector U16 44) (is : List Nat) :
    (is.foldl (fun s i => s.checkCritical i ((old[i]?).getD 0)) s).pwr.temps = s.pwr.temps := by
  induction is generalizing s with
  | nil => rfl
  | cons i is ih => exact (ih _).trans (s.checkCritical_temps i _)

theorem ClocksOnly.temps {s t : State} (h : ClocksOnly s t) : t.pwr.temps = s.pwr.temps := by
  obtain ⟨a, b, c, hpwr⟩ := h
  rw [hpwr]

theorem State.updateCooling_temps (s : State) : s.updateCooling.pwr.temps = s.pwr.temps := by
  unfold State.updateCooling
  dsimp only
  split
  · rfl
  · split <;> simp

/-- The islands that are hot are slowed, and a first throttle is recorded. -/
def State.slowHot (hot : List Nat) (s : State) : State :=
  if hot.isEmpty then s else (hot.foldl (fun s i => s.lower i) s).noteThrottle

theorem State.slowHot_clocksOnly (hot : List Nat) (s : State) : ClocksOnly s (s.slowHot hot) := by
  unfold State.slowHot
  split
  · exact .refl s
  · exact State.noteThrottle_clocksOnly (State.foldl_lower_clocksOnly hot (.refl s))

/-- Every island takes its temperature of the sample. -/
def State.sampled (l : List U16) (s : State) : State := (List.range 44).foldl (State.takeTemp l) s

/-- Every island is looked at for a crossing of its critical temperature. -/
def State.checkAll (old : Vector U16 44) (s : State) : State :=
  (List.range 44).foldl (fun s i => s.checkCritical i ((old[i]?).getD 0)) s

theorem State.checkAll_temps (old : Vector U16 44) (s : State) : (s.checkAll old).pwr.temps = s.pwr.temps := by
  unfold State.checkAll
  exact s.foldl_checkCritical_temps old (List.range 44)

theorem State.temps_sampled {l : List U16} (s : State) {j : Nat} (hj : j < l.length) (h44 : j < 44) :
    (s.sampled l).pwr.temps[j] = l[j] := by
  unfold State.sampled
  rw [State.temps_foldl_takeTemp l _ s h44, if_pos (List.mem_range.2 h44), List.getElem?_eq_getElem hj]
  rfl

/-- The islands that are hot and can be slowed. -/
def State.hotIslands (s : State) : List Nat := (List.range 44).filter (fun i => s.throttleable i && s.islandHot i)

theorem thermalSample_eq (l : List U16) (s : State) : thermalSample l s =
    (((s.sampled l).checkAll s.pwr.temps).slowHot ((s.sampled l).checkAll s.pwr.temps).hotIslands).updateCooling := by
  unfold thermalSample
  rfl

/-- The temperatures are those of the sample; what follows reads them. -/
theorem thermalSample_temps (l : List U16) (s : State) : (thermalSample l s).pwr.temps = (s.sampled l).pwr.temps := by
  rw [thermalSample_eq, State.updateCooling_temps, (State.slowHot_clocksOnly _ _).temps, State.checkAll_temps]

theorem thermalSample_toList {l : List U16} (hl : l.length = 44) (s : State) : (thermalSample l s).pwr.temps.toList = l := by
  rw [thermalSample_temps]
  refine List.ext_getElem (by simp [hl]) fun j hj hj' => ?_
  rw [Vector.getElem_toList, State.temps_sampled s hj']

theorem State.checkCritical_of_crossing {s : State} {i : Nat} {old v : U16} (hv : (s.pwr.temps[i]?).getD 0 = v)
    (h : 10 * s.criticalC ≤ v.toInt) (hold : old.toInt < 10 * s.criticalC) : s.checkCritical i old =
      State.enterSafe (ev0 0x6032 unitPwr (arg1 i ++ le16 v)) { s with pwr := { s.pwr with thermtrip := true } } := by
  subst hv
  exact if_pos ⟨h, hold⟩

theorem State.checkCritical_of_none {s : State} {i : Nat} {old v : U16} (hv : (s.pwr.temps[i]?).getD 0 = v)
    (h : v.toInt < 10 * s.criticalC ∨ 10 * s.criticalC ≤ old.toInt) : s.checkCritical i old = s := by
  subst hv
  exact if_neg (by omega)

/-! ## The reservoirs (R508 to R510) -/

theorem State.checkStanding_pwr (s : State) : ∃ seen, s.checkStanding.pwr = { s.pwr with standingSeen := seen } := by
  unfold State.checkStanding
  split
  · exact ⟨_, rfl⟩
  · split
    · exact ⟨_, rfl⟩
    · exact ⟨true, by simp only [State.record_frame]⟩

theorem State.checkStanding_hu (s : State) : s.checkStanding.pwr.hu = s.pwr.hu := by
  obtain ⟨seen, hpwr⟩ := s.checkStanding_pwr
  rw [hpwr]

theorem State.checkStanding_of_ok {s : State} (h : s.pwr.standingOk = true) :
    s.checkStanding = { s with pwr := { s.pwr with standingSeen := false } } := if_pos h

/-- What a new ceiling makes of a reservoir. -/
def Reservoir.capped (v : U32) (r : Reservoir) : Reservoir :=
  if r.usable.toNat > v.toNat then { r with ceiling := v, spent := r.spent + (r.usable - v), usable := v }
  else { r with ceiling := v, status := if r.status == 2 && decide (r.usable.toNat < v.toNat) then 1 else r.status }

theorem ceilingWrite_of_bad {v : U32} (h : v.toNat < 1000000 ∨ 8000000 < v.toNat) (i : Fin 2) (s : State) : ceilingWrite i v s = s := by
  refine if_pos ?_
  simp only [ceilingOk, Bool.not_eq_true', Bool.and_eq_false_iff, decide_eq_false_iff_not]
  omega

theorem ceilingWrite_of_good {v : U32} (h1 : 1000000 ≤ v.toNat) (h8 : v.toNat ≤ 8000000) (i : Fin 2) (s : State) :
    ceilingWrite i v s = (s.setHu i (Reservoir.capped v)).checkStanding :=
  if_neg (by simp [ceilingOk, h1, h8])

theorem reservoirCharged_of_first {s : State} (hb : s.job.dev ≠ .boot) (ho : s.job.dev ≠ .off)
    (h : (s.pwr.hu[(0 : Fin 2)]).status = 1) : (reservoirCharged 0 s).pwr.hu = s.pwr.hu.set 0
      { (s.pwr.hu[(0 : Fin 2)]) with
        status := 2, usable := (s.pwr.hu[(0 : Fin 2)]).ceiling
        charged := (s.pwr.hu[(0 : Fin 2)]).charged + ((s.pwr.hu[(0 : Fin 2)]).ceiling - (s.pwr.hu[(0 : Fin 2)]).usable) } := by
  unfold reservoirCharged
  dsimp only
  rw [if_neg (by rw [h, beq_false_of_ne hb, beq_false_of_ne ho]; decide), State.checkStanding_hu]
  rfl

/-- The second reservoir waits for the first. -/
theorem reservoirCharged_of_second {s : State} (h : (s.pwr.hu[(0 : Fin 2)]).status = 1) : reservoirCharged 1 s = s := by
  unfold reservoirCharged
  dsimp only
  rw [h]
  exact if_pos (by simp)

/-- A reservoir as a bleed and the loss of its service leave it. -/
def State.outOf (i : Fin 2) (c : ResCause) (s : State) : Reservoir :=
  { ((s.pwr.hu[i]).down ((Config.freeWord s.freeCtr).toNat % 100001)) with status := if c = .removed then 0 else 3 }

theorem State.reservoirOut_hu {s : State} {i : Fin 2} (h : (s.pwr.hu[i]).inService = true) (c : ResCause) :
    (s.reservoirOut i c).pwr.hu = s.pwr.hu.set i (s.outOf i c) := by
  unfold State.reservoirOut
  rw [if_neg (by rw [h]; decide)]
  dsimp only
  rw [State.checkStanding_hu]
  simp [State.setHu, State.bleed, State.free, State.outOf]

theorem State.reservoirOut_of_off {s : State} {i : Fin 2} (h : (s.pwr.hu[i]).inService = false) (c : ResCause) :
    s.reservoirOut i c = s := if_pos (by rw [h]; rfl)

/-- A bleed leaves what it bounds, and what it takes is spent. -/
theorem Reservoir.down_frame (rest : Nat) (r : Reservoir) : (r.down rest).usable.toNat = min r.usable.toNat rest ∧
    (r.down rest).spent + (r.down rest).usable = r.spent + r.usable ∧ (r.down rest).ceiling = r.ceiling := by
  have husable : (r.down rest).usable.toNat = min r.usable.toNat rest := by
    have hlt := r.usable.isLt
    simp only [Reservoir.down, BitVec.toNat_ofNat]
    omega
  refine ⟨husable, ?_, rfl⟩
  simp only [Reservoir.down]
  bv_omega

/-! ## The ledger (R511 to R513) -/

theorem State.reserve_of_covered {s : State} {cost : Nat} (hok : s.pwr.standingOk = true) (hg : s.pwr.granting = true)
    (hc : s.pwr.covers cost = true) (hn : s.pwr.reservations.length < 16) : s.reserve cost =
      (true, { s with pwr := { s.pwr with
        standingSeen := false, reservations := s.pwr.reservations ++ [BitVec.ofNat 32 cost], granted := bump s.pwr.granted } }) := by
  unfold State.reserve
  dsimp only
  rw [State.checkStanding_of_ok hok]
  have hgrant : (s.pwr.granting && PwrState.standingOk { s.pwr with standingSeen := false } &&
      PwrState.covers { s.pwr with standingSeen := false } cost && decide (s.pwr.reservations.length < 16)) = true := by
    rw [show PwrState.standingOk { s.pwr with standingSeen := false } = true from hok,
      show PwrState.covers { s.pwr with standingSeen := false } cost = true from hc, hg, decide_eq_true hn]
    rfl
  exact if_pos hgrant

theorem State.reserve_of_uncovered {s : State} {cost : Nat}
    (h : s.pwr.granting = false ∨ s.pwr.covers cost = false ∨ 16 ≤ s.pwr.reservations.length) : (s.reserve cost).1 = false ∧
      ∃ seen, (s.reserve cost).2.pwr = { s.pwr with standingSeen := seen, refused := bump s.pwr.refused } := by
  obtain ⟨seen, hpwr⟩ := s.checkStanding_pwr
  have hrefuse : ¬ (s.checkStanding.pwr.granting && s.checkStanding.pwr.standingOk && s.checkStanding.pwr.covers cost &&
      decide (s.checkStanding.pwr.reservations.length < 16)) = true := by
    rw [hpwr]
    intro hall
    simp only [Bool.and_eq_true, decide_eq_true_eq] at hall
    obtain ⟨⟨⟨hg, -⟩, hc⟩, hn⟩ := hall
    rcases h with h | h | h
    · exact absurd (h.symm.trans hg) (by decide)
    · exact absurd (h.symm.trans hc) (by decide)
    · omega
  have hreserve : s.reserve cost =
      (false, { s.checkStanding with pwr := { s.checkStanding.pwr with refused := bump s.checkStanding.pwr.refused } }) :=
    if_neg hrefuse
  rw [hreserve]
  exact ⟨rfl, seen, by rw [hpwr]⟩

theorem State.release_of_mem {s : State} {cost : U32} (h : cost ∈ s.pwr.reservations) : s.release cost =
    { s with pwr := { s.pwr with reservations := s.pwr.reservations.erase cost, released := bump s.pwr.released } } :=
  if_pos (by simpa using h)

theorem State.ledgerBalanced_iff {s : State} :
    s.ledgerBalanced = true ↔ s.pwr.granted = s.pwr.released + BitVec.ofNat 64 s.pwr.reservations.length := beq_iff_eq

/-- A reset counts what was outstanding as released, and a power-on starts the ledger anew. -/
theorem State.ledgerBalanced_wipe {s : State} (h : s.ledgerBalanced = true) (kind : U8) : (s.wipe kind).ledgerBalanced = true := by
  rw [State.ledgerBalanced_iff] at h ⊢
  change (s.pwr.afterReset kind s.ident.lx).granted = (s.pwr.afterReset kind s.ident.lx).released +
    BitVec.ofNat 64 (s.pwr.afterReset kind s.ident.lx).reservations.length
  unfold PwrState.afterReset
  dsimp only
  split
  · rfl
  · exact h.trans (BitVec.add_zero _).symm

theorem ofNat_length_erase {l : List U32} {a : U32} (h : a ∈ l) (c : U64) :
    bump c + BitVec.ofNat 64 (l.erase a).length = c + BitVec.ofNat 64 l.length := by
  rw [List.length_erase_of_mem h, bump, BitVec.add_assoc]
  have hpos := List.length_pos_of_mem h
  congr 1
  change BitVec.ofNat 64 1 + BitVec.ofNat 64 (l.length - 1) = BitVec.ofNat 64 l.length
  rw [← BitVec.ofNat_add, Nat.add_sub_cancel' hpos]

theorem State.ledgerBalanced_release {s : State} (h : s.ledgerBalanced = true) (cost : U32) :
    (s.release cost).ledgerBalanced = true := by
  by_cases hmem : cost ∈ s.pwr.reservations
  · rw [State.ledgerBalanced_iff] at h ⊢
    rw [State.release_of_mem hmem]
    exact h.trans (ofNat_length_erase hmem _).symm
  · rw [State.release, if_neg (by simpa using hmem)]
    exact h

theorem State.ledgerBalanced_reserve {s : State} (h : s.ledgerBalanced = true) (n : Nat) : (s.reserve n).2.ledgerBalanced = true := by
  obtain ⟨seen, hpwr⟩ := s.checkStanding_pwr
  rw [State.ledgerBalanced_iff] at h ⊢
  unfold State.reserve
  dsimp only
  split
  · simp only [hpwr, List.length_append, List.length_singleton, BitVec.ofNat_add, bump, h, BitVec.add_assoc]
    rfl
  · simp only [hpwr]
    exact h

/-- A reservoir that a fault takes out is out of service, and the other is as it was. -/
theorem State.inService_reservoirOut (i : Fin 2) (s : State) :
    (((s.reservoirOut i .ledger).pwr.hu[i]).inService = false) ∧
      ∀ j, j ≠ i → (s.reservoirOut i .ledger).pwr.hu[j] = s.pwr.hu[j] := by
  by_cases h : (s.pwr.hu[i]).inService = true
  · rw [State.reservoirOut_hu h]
    refine ⟨?_, fun j hj => ?_⟩
    · simp [State.outOf, Reservoir.inService]
    · exact Vector.getElem_set_ne _ _ (fun e => hj (Fin.ext e.symm))
  · have hoff : (s.pwr.hu[i]).inService = false := by simpa using h
    rw [State.reservoirOut_of_off hoff]
    exact ⟨hoff, fun j _ => rfl⟩

theorem State.reservoirOut_job (i : Fin 2) (c : ResCause) (s : State) : (s.reservoirOut i c).job = s.job :=
  (State.reservoirOut_keep (M := 0xAC0000) rfl i c s (Keep.refl _ s)).job rfl

theorem State.job_setDev_safe (s : State) : (s.setDev .safe).job = { s.job with dev := .safe } := by
  by_cases h : s.job.dev = .safe
  · rw [State.setDev, if_pos (.inl h), ← h]
  · exact State.job_setDev h .safe

theorem State.ledgerFault_frame (args : List Byte) (s : State) : (s.ledgerFault args).job = { s.job with dev := .safe } ∧
    ∀ i : Fin 2, ((s.ledgerFault args).pwr.hu[i]).inService = false := by
  unfold State.ledgerFault
  dsimp only
  generalize hu : s.record (ev0 0x6001 unitPwr args) = u
  have hjob : u.job = s.job := by rw [← hu]; simp
  obtain ⟨h0, -⟩ := u.inService_reservoirOut 0
  obtain ⟨h1, hother⟩ := (u.reservoirOut 0 .ledger).inService_reservoirOut 1
  refine ⟨by rw [State.job_setDev_safe, State.reservoirOut_job, State.reservoirOut_job, hjob], fun i => ?_⟩
  simp only [State.setDev_frame]
  match i with
  | 0 =>
    rw [hother 0 (by decide)]
    exact h0
  | 1 => exact h1

theorem ledgerReconcile_of_unbalanced {s : State} (h : s.ledgerBalanced = false) (l : List U32) :
    ∃ args, ledgerReconcile l s = s.ledgerFault args := ⟨_, if_pos (by rw [h]; rfl)⟩

/-- The first of the two reservoirs that is there and does not balance. -/
def State.unbalancedOf (l : List U32) (s : State) : Option (Fin 2) :=
  ([0, 1] : List (Fin 2)).find? (fun i => (s.pwr.hu[i]).fitted && !((s.pwr.hu[i]).balanced (s.measuredOf l i)))

theorem ledgerReconcile_of_fault {s : State} {l : List U32} {i : Fin 2} (h : s.ledgerBalanced = true)
    (hi : s.unbalancedOf l = some i) : ∃ args, ledgerReconcile l s = s.ledgerFault args := by
  unfold State.unbalancedOf at hi
  unfold ledgerReconcile
  rw [if_neg (by rw [h]; decide), hi]
  exact ⟨_, rfl⟩

theorem State.unbalancedOf_isSome {s : State} {l : List U32} {i : Fin 2} (hf : (s.pwr.hu[i]).fitted = true)
    (hb : (s.pwr.hu[i]).balanced (s.measuredOf l i) = false) : ∃ j, s.unbalancedOf l = some j := by
  refine Option.isSome_iff_exists.1 (List.find?_isSome.2 ⟨i, ?_, by rw [hf, hb]; rfl⟩)
  match i with
  | 0 => simp
  | 1 => simp

theorem State.unbalancedOf_none {s : State} {l : List U32}
    (h : ∀ i : Fin 2, (s.pwr.hu[i]).fitted = true → (s.pwr.hu[i]).balanced (s.measuredOf l i) = true) : s.unbalancedOf l = none := by
  refine List.find?_eq_none.2 fun i _ hi => ?_
  simp only [Bool.and_eq_true, Bool.not_eq_true'] at hi
  exact absurd ((h i hi.1).symm.trans hi.2) (by decide)

/-- The measured energy starts the reservoir's account anew. -/
def State.measure (l : List U32) (i : Fin 2) (s : State) : State :=
  s.setHu i (fun r => { r with lastUsable := s.measuredOf l i, usable := s.measuredOf l i, charged := 0, spent := 0 })

theorem ledgerReconcile_of_balanced {s : State} {l : List U32} (h : s.ledgerBalanced = true) (hn : s.unbalancedOf l = none) :
    ledgerReconcile l s = ((s.measure l 0).measure l 1).checkStanding := by
  unfold State.unbalancedOf at hn
  unfold ledgerReconcile
  rw [if_neg (by rw [h]; decide), hn]
  rfl

theorem State.hu_measure_both (l : List U32) (s : State) (i : Fin 2) : ((s.measure l 0).measure l 1).pwr.hu[i] =
    { (s.pwr.hu[i]) with lastUsable := s.measuredOf l i, usable := s.measuredOf l i, charged := 0, spent := 0 } := by
  have hmeasured : (s.measure l 0).measuredOf l 1 = s.measuredOf l 1 := by
    simp [State.measuredOf, State.measure, State.setHu]
  match i with
  | 0 => simp [State.measure, State.setHu]
  | 1 =>
    rw [State.measure, hmeasured]
    simp [State.measure, State.setHu]

/-! ## Output pins (R515) -/

theorem outputOvercurrent_of_new {s : State} {pin : U8} (h : pin.toNat < 40) (hl : pin ∉ s.pwr.latched) :
    outputOvercurrent pin s = State.record (ev3 0x6040 unitPwr [pin]) { s with pwr := { s.pwr with
      latched := pin :: s.pwr.latched, overcurrents := bump s.pwr.overcurrents } } :=
  if_neg (by simp [hl]; omega)

theorem outputOvercurrent_of_none {s : State} {pin : U8} (h : 40 ≤ pin.toNat ∨ pin ∈ s.pwr.latched) :
    outputOvercurrent pin s = s := if_pos (by simpa using h)

/-- Settles O57: each command is one equation of the power unit; the steps of the clocks move in one direction, the checks that follow
a change of a reservoir write no reservoir, and every change of the ledger moves both of its sides. -/
theorem capHeatReservoirsAndOutputs : Obligations.CapHeatReservoirsAndOutputs := by
  unfold Obligations.CapHeatReservoirsAndOutputs
  refine ⟨?average, ?below, ?above, ?early, ?lowered, fun s i h => State.lower_of_off h, fun s hu h => State.stepDown_of_lowest hu h,
    ?temps, fun s i old v hv h ho => State.checkCritical_of_crossing hv h ho, fun s i old v hv h => State.checkCritical_of_none hv h,
    ?criticalC, ?criticalLx, ?badCeiling, ?lowerCeiling, ?higherCeiling, ?charged, ?second, ?fault, ?faultOff, ?granted, ?refused,
    fun s cost h => State.release_of_mem h, ?balanced, ?ledger, ?reservoir, ?reconciled, ?overcurrent, ?latched, fun s v => rfl⟩
  case average =>
    intro s w
    refine completes_of (congrArg Host.Outcome.next (powerAverageTick_eq w s)) ?_
    obtain ⟨n, hcount⟩ := (s.capStep w).countThrottled_pwr
    obtain ⟨a, b, c, hstep⟩ := s.capStep_clocksOnly w
    rw [hcount, hstep]
    exact ⟨rfl, rfl, by simp [State.averaged]⟩
  case below =>
    intro s w i h
    refine completes_of (congrArg Host.Outcome.next (powerAverageTick_eq w s)) ?_
    rw [State.pct_countThrottled]
    exact State.le_pct_capStep h i
  case above =>
    intro s w i h
    refine completes_of (congrArg Host.Outcome.next (powerAverageTick_eq w s)) ?_
    rw [State.pct_countThrottled]
    exact State.pct_capStep_le h i
  case early =>
    intro s w h hms
    refine completes_of (congrArg Host.Outcome.next (powerAverageTick_eq w s)) ?_
    rw [State.capStep_of_early h hms]
    obtain ⟨n, hcount⟩ := (s.averaged w).countThrottled_pwr
    exact ⟨by rw [hcount]; rfl, Quiet.of (State.countThrottled_tele _)⟩
  case lowered =>
    intro s i hi ht hp
    rw [State.lower_of_on ht hp]
    exact ⟨State.pct_setPct_self hi _ s, fun j hj => State.pct_setPct_ne hj _ s⟩
  case temps =>
    intro s l hl
    exact completes_of rfl (thermalSample_toList hl s)
  case criticalC =>
    intro s h
    exact if_neg (by rw [h]; decide)
  case criticalLx =>
    intro s h
    exact if_pos h
  case badCeiling =>
    intro s i v h
    exact congrArg Host.Outcome.next (ceilingWrite_of_bad h i s)
  case lowerCeiling =>
    intro s i v h1 h8 hv
    refine completes_of (congrArg Host.Outcome.next (ceilingWrite_of_good h1 h8 i s)) ?_
    rw [State.checkStanding_hu, State.setHu, Reservoir.capped, if_pos hv]
  case higherCeiling =>
    intro s i v h1 h8 hv
    refine completes_of (congrArg Host.Outcome.next (ceilingWrite_of_good h1 h8 i s)) ?_
    rw [State.checkStanding_hu, State.setHu, Reservoir.capped, if_neg (by omega), decide_eq_true hv]
    simp
  case charged =>
    intro s hb ho h
    refine completes_of rfl ?_
    rw [reservoirCharged_of_first hb ho h]
    exact ⟨by simp, by simp, by simp⟩
  case second =>
    intro s h
    exact congrArg Host.Outcome.next (reservoirCharged_of_second h)
  case fault =>
    intro s i c h
    refine completes_of rfl ?_
    rw [State.reservoirOut_hu h]
    obtain ⟨husable, hspent, hceiling⟩ := Reservoir.down_frame ((Config.freeWord s.freeCtr).toNat % 100001) (s.pwr.hu[i])
    have hself : (s.pwr.hu.set i (s.outOf i c))[i] = s.outOf i c := Vector.getElem_set_self _
    rw [hself]
    have hle : (s.outOf i c).usable.toNat = min (s.pwr.hu[i]).usable.toNat ((Config.freeWord s.freeCtr).toNat % 100001) := husable
    refine ⟨rfl, ?_, ?_, hspent, hceiling, fun j hj => Vector.getElem_set_ne _ _ (fun e => hj (Fin.ext e.symm))⟩
    · omega
    · omega
  case faultOff =>
    intro s i c h
    exact congrArg Host.Outcome.next (State.reservoirOut_of_off h c)
  case granted =>
    intro s cost hok hg hc hn
    rw [State.reserve_of_covered hok hg hc hn]
    exact ⟨rfl, rfl⟩
  case refused =>
    intro s cost h
    obtain ⟨hfirst, seen, hpwr⟩ := State.reserve_of_uncovered h
    rw [hpwr]
    exact ⟨hfirst, rfl, rfl⟩
  case balanced =>
    intro s kind cost n h
    exact ⟨State.ledgerBalanced_wipe h kind, State.ledgerBalanced_release h cost, State.ledgerBalanced_reserve h n⟩
  case ledger =>
    intro s l h
    obtain ⟨args, hfault⟩ := ledgerReconcile_of_unbalanced h l
    exact completes_of (congrArg Host.Outcome.next hfault) (s.ledgerFault_frame args)
  case reservoir =>
    intro s l i h hf hb
    obtain ⟨j, hj⟩ := State.unbalancedOf_isSome hf hb
    obtain ⟨args, hfault⟩ := ledgerReconcile_of_fault h hj
    exact completes_of (congrArg Host.Outcome.next hfault) (s.ledgerFault_frame args)
  case reconciled =>
    intro s l h hall
    refine completes_of (congrArg Host.Outcome.next (ledgerReconcile_of_balanced h (State.unbalancedOf_none hall))) ?_
    refine ⟨by simp only [State.checkStanding_frame]; rfl, fun i => ?_⟩
    rw [State.checkStanding_hu]
    exact s.hu_measure_both l i
  case overcurrent =>
    intro s pin h hl
    exact congrArg Host.Outcome.next (outputOvercurrent_of_new h hl)
  case latched =>
    intro s pin h
    exact congrArg Host.Outcome.next (outputOvercurrent_of_none h)

end Sys2Proof.Machine
end

section
/-! SUPPORT. The sideband signals of the tray links (R546, R547). -/
namespace Sys2Proof.Machine
open Sys2Proof Sys2Proof.Statements

/-! ## A bit for each tray link -/

theorem getLsbD_bit8 (n : Fin 8) (k : Nat) : (1#8 <<< n.val).getLsbD k = decide (k = n.val) := by
  have hn := n.isLt
  rw [BitVec.getLsbD_shiftLeft, BitVec.getLsbD_one, Bool.eq_iff_iff]
  simp only [Bool.and_eq_true, Bool.not_eq_true', decide_eq_true_eq, decide_eq_false_iff_not]
  omega

theorem getLsbD_set_self (v : U8) (n : Fin 8) : (v ||| (1#8 <<< n.val)).getLsbD n.val = true := by
  rw [BitVec.getLsbD_or, getLsbD_bit8, decide_eq_true rfl, Bool.or_true]

theorem getLsbD_set_ne {n : Fin 8} {k : Nat} (h : k ≠ n.val) (v : U8) : (v ||| (1#8 <<< n.val)).getLsbD k = v.getLsbD k := by
  rw [BitVec.getLsbD_or, getLsbD_bit8, decide_eq_false h, Bool.or_false]

theorem getLsbD_clear_self (v : U8) (n : Fin 8) : (v &&& ~~~(1#8 <<< n.val)).getLsbD n.val = false := by
  rw [BitVec.getLsbD_and, BitVec.getLsbD_not, getLsbD_bit8, decide_eq_true rfl, Bool.not_true, Bool.and_false, Bool.and_false]

/-! ## Power good (R546) -/

theorem State.loseAgent_pwr (p : Port) (s : State) : (s.loseAgent p).pwr = s.pwr :=
  (State.loseAgent_keep (M := 0xD0C00) rfl p s (Keep.refl _ s)).pwr rfl

/-- The power of a tray link is no longer good. -/
def State.pwrgdCleared (n : Fin 8) (s : State) : State :=
  { s with pwr := { s.pwr with accPwrgd := s.pwr.accPwrgd &&& ~~~(1#8 <<< n.val) } }

/-- The loss of a released accelerator's power is counted. -/
def State.pwrLost (n : Fin 8) (s : State) : State :=
  { s with pwr := { s.pwr with
    accPwrgd := s.pwr.accPwrgd &&& ~~~(1#8 <<< n.val), pwrLosses := bump s.pwr.pwrLosses } }

section
variable {s : State} {n : Fin 8}

theorem accPwrgdFall_of_released (hg : s.pwr.accPwrgd.getLsbD n.val = true) (hr : s.pwr.accRelease.getLsbD n.val = true) :
    accPwrgdFall n s = ((s.pwrLost n).record (ev3 0x6043 unitPwr (arg1 n.val))).loseAgent (trayPort n) := by
  have hgood : ¬ (!s.pwrgd n) = true := by rw [State.pwrgd, hg]; decide
  exact (if_neg hgood).trans (if_neg (by rw [hr]; decide))

theorem accPwrgdFall_of_held (hg : s.pwr.accPwrgd.getLsbD n.val = true) (hr : s.pwr.accRelease.getLsbD n.val = false) :
    accPwrgdFall n s = s.pwrgdCleared n := by
  have hgood : ¬ (!s.pwrgd n) = true := by rw [State.pwrgd, hg]; decide
  exact (if_neg hgood).trans (if_pos (by rw [hr]; rfl))

theorem accPwrgdFall_of_bad (hg : s.pwr.accPwrgd.getLsbD n.val = false) : accPwrgdFall n s = s :=
  if_pos (by rw [State.pwrgd, hg]; rfl)

/-- An accelerator whose power is not good is not released. -/
theorem State.accReleased_of_bad (hg : s.pwr.accPwrgd.getLsbD n.val = false) : s.accReleased n = false := by
  rw [State.accReleased, State.pwrgd, hg, Bool.and_false, Bool.false_and]

/-! ## Alerts (R547) -/

theorem accAlertNoReport_of_awaited (h : trayPort n ∈ s.pwr.alertWait) : accAlertNoReport n s =
    { s with
      pwr := { s.pwr with alertWait := s.pwr.alertWait.erase (trayPort n) }
      tele := s.tele.alarm s.time.now s.time.cycles s.time.opMs (ev2 0x6041 unitPwr (arg1 n.val)) } :=
  if_neg (by simpa using h)

theorem accAlertNoReport_of_none (h : trayPort n ∉ s.pwr.alertWait) : accAlertNoReport n s = s := if_pos (by simpa using h)
end

/-- Settles O58: each signal is one equation of the power unit; the loss of an agent writes nothing of it. -/
theorem sidebandSignalsOfTheTrayLinks : Obligations.SidebandSignalsOfTheTrayLinks := by
  unfold Obligations.SidebandSignalsOfTheTrayLinks
  refine ⟨fun s v => rfl, ?rise, ?fall, ?fallHeld, ?fallBad, ?alert, ?noReport, ?notAwaited, ?therm⟩
  case rise =>
    intro s n
    refine completes_of rfl ⟨getLsbD_set_self _ n, fun k hk => getLsbD_set_ne hk _, ?_⟩
    rw [State.accReleased, State.pwrgd, show (accPwrgdRise n s).pwr.accPwrgd.getLsbD n.val = true from getLsbD_set_self _ n,
      Bool.and_true]
    rfl
  case fall =>
    intro s n hg hr
    refine completes_of (congrArg Host.Outcome.next (accPwrgdFall_of_released hg hr)) ?_
    have hpwr : (((s.pwrLost n).record (ev3 0x6043 unitPwr (arg1 n.val))).loseAgent (trayPort n)).pwr = (s.pwrLost n).pwr := by
      rw [State.loseAgent_pwr]
      simp only [State.record_frame]
    refine ⟨by rw [hpwr]; rfl, by rw [hpwr]; rfl, State.accReleased_of_bad ?_⟩
    rw [hpwr]
    exact getLsbD_clear_self _ n
  case fallHeld =>
    intro s n hg hr
    exact congrArg Host.Outcome.next (accPwrgdFall_of_held hg hr)
  case fallBad =>
    intro s n hg
    exact congrArg Host.Outcome.next (accPwrgdFall_of_bad hg)
  case alert =>
    intro s n
    refine completes_of rfl ⟨?_, Records.of rfl rfl rfl⟩
    rw [accAlert]
    simp only [State.record_frame]
  case noReport =>
    intro s n h
    exact completes_of (congrArg Host.Outcome.next (accAlertNoReport_of_awaited h)) ⟨rfl, rfl⟩
  case notAwaited =>
    intro s n h
    exact congrArg Host.Outcome.next (accAlertNoReport_of_none h)
  case therm =>
    intro s n
    refine completes_of rfl ⟨?_, Records.of rfl rfl rfl⟩
    rw [accTherm]
    simp only [State.record_frame]

end Sys2Proof.Machine
end

section
/-! SUPPORT. Images, the key list, attestation and policy packages (R489 to R497). -/
namespace Sys2Proof.Machine
open Sys2Proof Sys2Proof.Statements

/-! ## Images (R489, R491) -/

/-- An image that is refused. -/
def State.imageRefused (s : State) : State := { s with boot := { s.boot with imgRefusals := bump s.boot.imgRefusals } }

/-- An accepted image on its way into the slot that is not active. -/
def State.imageStaged (b : List Byte) (s : State) : State :=
  let u := s.putImage (!s.boot.activeB) { slotOfImage (b.take 512) with state := 1 }
  { u with boot := { u.boot with staging := some (!s.boot.activeB, slotOfImage (b.take 512)) } }

theorem imageStage_of_otherState {s : State} (h : s.job.dev ≠ .standby) (b : List Byte) : imageStage b s = s :=
  if_pos (bne_iff_ne.2 h)

theorem imageStage_of_accepted {s : State} {b : List Byte} (h : s.job.dev = .standby) (ha : s.imageAccepted b = true) :
    imageStage b s = s.imageStaged b := by
  refine (if_neg (by rw [h]; decide)).trans (if_neg ?_)
  rw [ha]
  decide

theorem imageStage_of_refused {s : State} {b : List Byte} (h : s.job.dev = .standby) (ha : s.imageAccepted b = false) :
    imageStage b s = s.imageRefused.record
      (ev3 (if 512 ≤ b.length ∧ (hdrRollback b).toNat < s.boot.floor.toNat then 0x7005 else 0x7004) unitSec []) := by
  refine (if_neg (by rw [h]; decide)).trans ((if_pos (by rw [ha]; rfl)).trans ?_)
  simp only [Bool.and_eq_true, decide_eq_true_eq]
  rfl

theorem State.slot_putImage_self (b : Bool) (x : ImageSlot) (s : State) : (s.putImage b x).slot b = x := by cases b <;> rfl

theorem State.slot_putImage_other (b : Bool) (x : ImageSlot) (s : State) : (s.putImage b x).slot (!b) = s.slot (!b) := by
  cases b <;> rfl

/-- What is staged is noted beside the slots. -/
theorem State.slot_imageStaged (b : List Byte) (s : State) (c : Bool) : (s.imageStaged b).slot c =
    (s.putImage (!s.boot.activeB) { slotOfImage (b.take 512) with state := 1 }).slot c := rfl

theorem State.imageAccepted_of_fault {s : State} {b : List Byte} (h : (hdrRollback (b.take 512)).toNat < s.boot.floor.toNat ∨
    64 < (hdrRollback (b.take 512)).toNat ∨ sha512 (b.drop 512) ≠ sliceZ (b.take 512) 32 64 ∨ s.hdrSigned (b.take 512) = false) :
    s.imageAccepted b = false := by
  refine Bool.eq_false_iff.2 fun hall => ?_
  simp only [State.imageAccepted, State.imageOk, hdrForm, Bool.and_eq_true, decide_eq_true_eq, beq_iff_eq] at hall
  obtain ⟨-, ⟨⟨⟨⟨⟨⟨⟨-, hrollback⟩, -⟩, -⟩, hsigned⟩, -⟩, hhash⟩, hfloor⟩, -⟩ := hall
  rcases h with h | h | h | h
  · omega
  · omega
  · exact h hhash
  · exact absurd (h.symm.trans hsigned) (by decide)

theorem imageSlotWritten_of_staging {s : State} {b : Bool} {x : ImageSlot} (h : s.boot.staging = some (b, x)) :
    imageSlotWritten s = { (s.putImage b x) with boot := { (s.putImage b x).boot with staging := none } } := by
  unfold imageSlotWritten
  rw [h]

theorem imageSlotWritten_of_none {s : State} (h : s.boot.staging = none) : imageSlotWritten s = s := by
  unfold imageSlotWritten
  rw [h]

/-- The trial of a slot is armed. -/
def State.trialArmed (l : List Byte) (s : State) : State :=
  { s with boot := { s.boot with trial := some (byteAt l 0 == 1), attempts := 0 } }

theorem imageActivate_of_ok {s : State} {l : List Byte} (h : s.activateOk l = true) : imageActivate l s =
    match (byteAt l 1).toNat with
    | 1 => resetActionWarm false (s.trialArmed l)
    | 2 => resetActionCold (s.trialArmed l)
    | _ => s.trialArmed l := by
  refine (if_neg (by rw [h]; decide)).trans ?_
  rfl

theorem State.raiseFloor_floor (x : ImageSlot) (s : State) :
    (s.raiseFloor x).boot.floor.toNat = max s.boot.floor.toNat x.rollback.toNat := by
  unfold State.raiseFloor
  split
  case isTrue h => exact (Nat.max_eq_right h.le).symm
  case isFalse h => exact (Nat.max_eq_left (Nat.not_lt.1 h)).symm

/-! ## The key list (R494, R495) -/

theorem keyListWrite_of_length {l : List Byte} (h : l.length ≠ 2304) (key : U16) (s : State) : keyListWrite l key s = s := if_pos h

theorem keyListWrite_of_fault {l : List Byte} {r i : Nat} (h : l.length = 2304) (hf : keyFault l = some (r, i)) (key : U16)
    (s : State) : keyListWrite l key s = State.record (ev3 0x7021 unitSec (le16 key ++ arg1 r ++ arg1 i))
      { s with boot := { s.boot with keyRefusals := bump s.boot.keyRefusals } } := by
  refine (if_neg (not_not_intro h)).trans ?_
  rw [hf]

/-- The counter of a key that stays at its index goes on; a new key's starts at 0. -/
def State.keysTaken (l : List Byte) (s : State) : State :=
  { s with boot := { s.boot with
    keys := (entriesOf 144 l).map KeyEntry.ofBytes
    counters := Vector.ofFn (fun i => if (((entriesOf 144 l).map KeyEntry.ofBytes).getD i.val {}).pub == (s.boot.keys.getD i.val {}).pub
      then s.boot.counters[i] else 0) } }

theorem keyListWrite_of_good {l : List Byte} (h : l.length = 2304) (hf : keyFault l = none) (key : U16) (s : State) :
    keyListWrite l key s = (s.keysTaken l).record (ev3 0x7020 unitSec (le16 key)) := by
  refine (if_neg (not_not_intro h)).trans ?_
  rw [hf]
  rfl

theorem keyFault_of_noOperator {l : List Byte} (h : ∀ k ∈ (entriesOf 144 l).map KeyEntry.ofBytes, k.rights.getLsbD 2 = false) :
    keyFault l = some (1, 0xFF) := by
  refine if_pos ?_
  rw [Bool.not_eq_true', List.any_eq_false]
  exact fun k hk => by rw [h k hk]; decide

/-! ## Attestation (R493) -/

theorem attestationRequest_of_length {n : List Byte} (h : n.length ≠ 32) (s : State) : attestationRequest n s = s := if_pos h

theorem attestationRequest_of_nonce {n : List Byte} (h : n.length = 32) (s : State) : attestationRequest n s =
    { s.sign.2 with boot := { s.sign.2.boot with
      report := some (s.reportBody n ++ s.sign.1), reports := bump s.sign.2.boot.reports } } :=
  if_neg (not_not_intro h)

/-! ## Policy packages (R496, R497) -/

theorem policyStage_of_otherState {s : State} (h : s.job.dev ≠ .standby) (b : List Byte) : policyStage b s = s :=
  if_pos (bne_iff_ne.2 h)

theorem policyStage_of_standby {s : State} (h : s.job.dev = .standby) (b : List Byte) : policyStage b s = match s.packageOk b with
    | some es => State.record (ev3 0x7030 unitSec [])
        { s with boot := { s.boot with package := some (b.take 512, es), pkgVersion := hdrVersion (b.take 512) } }
    | none => State.record (ev3 0x7031 unitSec []) { s with boot := { s.boot with pkgRefusals := bump s.boot.pkgRefusals } } := by
  refine (if_neg (by rw [h]; decide)).trans ?_
  cases s.packageOk b <;> rfl

theorem State.packageOk_of_older {s : State} {b : List Byte} (h : (hdrVersion (b.take 512)).toNat < s.boot.pkgVersion.toNat) :
    s.packageOk b = none := by
  refine if_pos ?_
  rw [Bool.not_eq_true']
  refine Bool.and_eq_false_iff.2 (.inr (decide_eq_false ?_))
  exact Nat.not_le.2 h

theorem policyRemoval_of_named {s : State} {h : List Byte} {es : List (U16 × U8 × List Byte)} (hp : s.boot.package = some (h, es)) :
    policyRemoval (sha512 h) s = State.record (ev3 0x7032 unitSec []) { s with boot := { s.boot with package := none } } := by
  refine if_pos ?_
  unfold State.removalOk
  rw [hp]
  exact beq_self_eq_true _

theorem policyRemoval_of_other {s : State} {l : List Byte} (h : s.removalOk l = false) : policyRemoval l s = s :=
  if_neg (by rw [h]; decide)

theorem State.writeGate_of_inPackage {s : State} {idx : U16} {sub : U8} {r : Row} (h : objectAt idx sub = some r)
    (hp : s.inPackage idx sub = true) (path : Path) : s.writeGate path idx sub = 2 := by
  unfold State.writeGate
  rw [h]
  refine if_pos ?_
  rw [hp, Bool.or_true]

/-- Settles O59: each action is its branch once its rule's check is known, and each single fault fails the check. -/
theorem imagesKeysReportsAndPackagesAreChecked : Obligations.ImagesKeysReportsAndPackagesAreChecked := by
  unfold Obligations.ImagesKeysReportsAndPackagesAreChecked
  refine ⟨?otherState, ?stage, fun s b h => State.imageAccepted_of_fault h, ?written, ?notStaged, ?noReset, ?warm, ?cold, ?notOk,
    fun s x => s.raiseFloor_floor x, ?keyFault, ?keysTaken, ?keyLength, fun l h => keyFault_of_noOperator h, ?report, ?nonceLength,
    ?policyState, ?policy, fun s b h => State.packageOk_of_older h, ?removed, ?notRemoved,
    fun s path idx sub r h hp => State.writeGate_of_inPackage h hp path⟩
  case otherState =>
    intro s b h
    exact congrArg Host.Outcome.next (imageStage_of_otherState h b)
  case stage =>
    intro s b h
    by_cases ha : s.imageAccepted b = true
    · refine completes_of (congrArg Host.Outcome.next (imageStage_of_accepted h ha)) ?_
      rw [if_pos ha, State.slot_imageStaged, State.slot_imageStaged, State.slot_putImage_self]
      refine ⟨rfl, rfl, ?_, Quiet.of rfl⟩
      have hother := s.slot_putImage_other (!s.boot.activeB) { slotOfImage (b.take 512) with state := 1 }
      rwa [Bool.not_not] at hother
    · refine completes_of (congrArg Host.Outcome.next (imageStage_of_refused h (Bool.eq_false_iff.2 ha))) ?_
      rw [if_neg ha]
      rfl
  case written =>
    intro s b x h
    refine completes_of (congrArg Host.Outcome.next (imageSlotWritten_of_staging h)) ?_
    exact ⟨s.slot_putImage_self b x, s.slot_putImage_other b x, rfl⟩
  case notStaged =>
    intro s h
    exact congrArg Host.Outcome.next (imageSlotWritten_of_none h)
  case noReset =>
    intro s l h h1
    refine congrArg Host.Outcome.next ((imageActivate_of_ok h).trans ?_)
    rw [h1]
    rfl
  case warm =>
    intro s l h h1
    refine congrArg Host.Outcome.next ((imageActivate_of_ok h).trans ?_)
    rw [h1]
    rfl
  case cold =>
    intro s l h h1
    refine congrArg Host.Outcome.next ((imageActivate_of_ok h).trans ?_)
    rw [h1]
    rfl
  case notOk =>
    intro s l h
    exact congrArg Host.Outcome.next (if_pos (by rw [h]; rfl))
  case keyFault =>
    intro s l key r i h hf
    exact congrArg Host.Outcome.next (keyListWrite_of_fault h hf key s)
  case keysTaken =>
    intro s l key h hf
    refine completes_of (congrArg Host.Outcome.next (keyListWrite_of_good h hf key s)) ?_
    refine ⟨by simp only [State.record_frame]; rfl, Records.of rfl rfl rfl, fun k => ?_⟩
    simp only [State.record_frame]
    simp [State.keysTaken]
  case keyLength =>
    intro s l key h
    exact congrArg Host.Outcome.next (keyListWrite_of_length h key s)
  case report =>
    intro s n h
    exact completes_of (congrArg Host.Outcome.next (attestationRequest_of_nonce h s)) ⟨rfl, ⟨_, rfl⟩, Quiet.of rfl⟩
  case nonceLength =>
    intro s n h
    exact congrArg Host.Outcome.next (attestationRequest_of_length h s)
  case policyState =>
    intro s b h
    exact congrArg Host.Outcome.next (policyStage_of_otherState h b)
  case policy =>
    intro s b h
    exact congrArg Host.Outcome.next (policyStage_of_standby h b)
  case removed =>
    intro s h es hp
    exact congrArg Host.Outcome.next (policyRemoval_of_named hp)
  case notRemoved =>
    intro s l h
    exact congrArg Host.Outcome.next (policyRemoval_of_other h)

end Sys2Proof.Machine
end

section
/-! SUPPORT. Exerciser mode: its runs, its injections and its script (R518 to R530). -/
namespace Sys2Proof.Machine
open Sys2Proof Sys2Proof.Statements

/-! ## The ports of the exerciser -/

theorem State.exPort_setExPort_self (p : Port) (f : ExPort → ExPort) (s : State) : (s.setExPort p f).exPort p = f (s.exPort p) := by
  simp [State.setExPort, State.exPort]

theorem State.exPort_setExPort_ne {p q : Port} (h : q ≠ p) (f : ExPort → ExPort) (s : State) :
    (s.setExPort p f).exPort q = s.exPort q := by
  have hv : p.val ≠ q.val := fun e => h (Fin.ext e.symm)
  simp [State.setExPort, State.exPort, hv]

theorem State.exPort_record (e : Event) (s : State) (p : Port) : (s.record e).exPort p = s.exPort p := by
  simp [State.exPort]

/-- The exerciser without the results of its ports. -/
def State.exerRest (s : State) : ExState := { s.exer with ports := Vector.replicate 24 {} }

theorem State.exerRest_record (e : Event) (s : State) : (s.record e).exerRest = s.exerRest := by
  simp [State.exerRest]

theorem State.exerCheck_exerRest (p : Port) (code : Nat) (hdr : List Byte) (s : State) : (s.exerCheck p code hdr).exerRest = s.exerRest := by
  unfold State.exerCheck
  split
  · rfl
  · dsimp only
    split
    · rw [State.exerRest_record]
      rfl
    · rfl

/-- A violation changes neither the awaited reactions nor the injections of any port. -/
theorem State.exerCheck_waitReact (p : Port) (code : Nat) (hdr : List Byte) (s : State) (q : Port) :
    ((s.exerCheck p code hdr).exPort q).waitReact = (s.exPort q).waitReact := by
  have hset (f : ExPort → ExPort) (hf : ∀ x, (f x).waitReact = x.waitReact) :
      ((s.setExPort p f).exPort q).waitReact = (s.exPort q).waitReact := by
    by_cases hq : q = p
    · rw [hq, State.exPort_setExPort_self, hf]
    · rw [State.exPort_setExPort_ne hq]
  unfold State.exerCheck
  split
  · rfl
  · dsimp only
    split
    · rw [State.exPort_record]
      exact hset _ fun x => rfl
    · exact hset _ fun x => rfl

/-- The first violation of a code in a run is captured and recorded. -/
theorem State.exerCheck_of_first {p : Port} {s : State} {code : Nat} (hrun : s.exerRun p = true)
    (hcount : (s.exPort p).counts.toList.getD (code - 1) 0 = 0) (hdr : List Byte) :
    ∃ noted : ExPort → ExPort, s.exerCheck p code hdr = (s.setExPort p noted).record (ev3 0x1093 unitSwitch []) ∧
      ∀ x, (noted x).counts = addAt x.counts (code - 1) 1 := by
  have hfirst : (((s.exPort p).counts.toList.getD (code - 1) 0) == 0) = true := beq_iff_eq.2 hcount
  refine ⟨_, (if_neg (by rw [hrun]; decide)).trans (if_pos hfirst), fun x => rfl⟩

theorem State.breakAgent_exerRest (s : State) : s.breakAgent.exerRest = s.exerRest :=
  eq_foldl_of_eq State.exerRest (fun t p => t.exerCheck_exerRest p 0x11 []) s.peerPorts s

/-! ## Entering and leaving (R518, R520) -/

/-- A refusal that OD A000.02 shows, and one that only counts. -/
theorem State.refuseExer_shown (s : State) : s.refuseExer true = State.record (ev3 0x1092 unitSwitch [])
    { s with exer := { s.exer with status := 4, refusals := bump s.exer.refusals } } := rfl

theorem State.refuseExer_counted (s : State) : s.refuseExer false = State.record (ev3 0x1092 unitSwitch [])
    { s with exer := { s.exer with refusals := bump s.exer.refusals } } := rfl

theorem State.trainAll_frame (s : State) : s.trainAll.job = s.job ∧ s.trainAll.exer = s.exer ∧ s.trainAll.tele = s.tele := by
  have k := State.trainAll_keep (M := 0x400) rfl s (Keep.refl _ s)
  exact ⟨k.job rfl, k.exer rfl, k.tele rfl⟩

theorem exerciserEnter_of_refused {s : State} (h : s.job.dev ≠ .standby ∨ s.heldTags ≠ []) : exerciserEnter s = s.refuseExer true := by
  refine if_pos ?_
  rw [Bool.or_eq_true, bne_iff_ne, Bool.not_eq_true', List.isEmpty_eq_false_iff]
  exact h

/-- The mode with every port's results cleared. -/
def State.exerEntered (s : State) : State :=
  (s.record (ev3 0x1090 unitSwitch [])).setExer (fun x => { x with ports := x.ports.map ExPort.cleared, status := 1 })

theorem exerciserEnter_of_idle {s : State} (h : s.job.dev = .standby) (ht : s.heldTags = []) :
    exerciserEnter s = (s.exerEntered.setDev .exerciser).trainAll := if_neg (by simp [h, ht])

theorem State.exerEntered_exer (s : State) :
    s.exerEntered.exer = { s.exer with ports := s.exer.ports.map ExPort.cleared, status := 1 } := by
  simp only [State.exerEntered, State.setExer, State.record_frame]

/-- A run ends when the mode is left, and the ports train again. -/
def State.exerLeft (s : State) : State := (s.endExRun.setExer (fun x => { x with status := 0 })).trainAll

theorem exerciserLeave_of_exerciser {s : State} (h : s.job.dev = .exerciser) :
    exerciserLeave s = s.exerLeft.enterStandby.record (ev3 0x1091 unitSwitch []) := if_neg (by simp [h])

theorem State.exerLeft_frame (s : State) : s.exerLeft.job = s.job ∧ s.exerLeft.exer.status = 0 := by
  obtain ⟨hjob, hexer, -⟩ := State.trainAll_frame (s.endExRun.setExer (fun x => { x with status := 0 }))
  have hrun : s.endExRun.job = s.job := (State.endExRun_keep (M := 0x4C0000) rfl s (Keep.refl _ s)).job rfl
  exact ⟨hjob.trans hrun, congrArg ExState.status hexer⟩

theorem State.enterStandby_exer (s : State) : s.enterStandby.exer = s.exer :=
  (State.enterStandby_keep (M := 0x2E8000) rfl s (Keep.refl _ s)).exer rfl

/-! ## Runs (R522) -/

section
variable {s : State}

theorem exerciserRunStart_of_bad (h : s.runBad = true) : exerciserRunStart s = s.refuseExer true := if_pos h

theorem exerciserRunStart_of_good (h : s.runBad = false) : exerciserRunStart s = s.setExer (fun x => { x with
      runNo := x.runNo + 1, status := 2, ports := x.ports.map ExPort.cleared, pos := 0, jt := (scriptTags s.exer.script).1
      epoch := (scriptTags s.exer.script).2, withhold := false, held := [], opened := [], failedSteps := [], seenPieces := []
      expecting := none, gambitSeq := none }) := if_neg (by rw [h]; decide)

theorem State.runBad_of_state (h : s.job.dev ≠ .exerciser ∨ s.exer.status = 2) : s.runBad = true := by
  unfold State.runBad
  rcases h with h | h
  · rw [bne_iff_ne.2 h]
    rfl
  · rw [beq_iff_eq.2 h, Bool.or_true]
    rfl

theorem mem_allPorts (p : Port) : p ∈ allPorts := List.mem_finRange p

theorem State.runBad_of_inactive {p : Port} (hm : (s.exPort p).mode ≠ 0) (hst : (s.port p).st ≠ .active) : s.runBad = true := by
  unfold State.runBad
  rw [Bool.or_eq_true]
  exact .inr (List.any_eq_true.2 ⟨p, mem_allPorts p, Bool.and_eq_true _ _ ▸ ⟨bne_iff_ne.2 hm, bne_iff_ne.2 hst⟩⟩)

theorem State.runBad_of_fabricPeer {p : Port} (hp : 8 ≤ p.val) (hm : (s.exPort p).mode = 3) : s.runBad = true := by
  have hany : allPorts.any (fun p => decide (8 ≤ p.val) && (s.exPort p).mode == 3) = true :=
    List.any_eq_true.2 ⟨p, mem_allPorts p, by simp [hp, hm]⟩
  unfold State.runBad
  rw [hany, Bool.or_true]
  rfl

theorem State.endExRun_of_idle (h : s.exer.status ≠ 2) : s.endExRun = s := if_pos (bne_iff_ne.2 h)

theorem State.endExRun_of_allResent (h : s.exer.status = 2) (hn : s.neverResent = []) :
    s.endExRun = State.record (ev3 0x1095 unitSwitch (arg4 s.exer.runNo))
      { s with exer := { s.exer with status := 3, expecting := none, gambitSeq := none } } := by
  unfold State.endExRun
  rw [if_neg (by simp [h]), hn]
  rfl

/-! ## Injections (R526, R528) -/

/-- The port that an injection names. -/
theorem portOfField_of_lt {p : Port} {n : Nat} (h : n = p.val) : portOfField (BitVec.ofNat 5 (min 31 n)) = some p := by
  have hp := p.isLt
  have hn : (BitVec.ofNat 5 (min 31 n)).toNat = p.val := by
    rw [BitVec.toNat_ofNat]
    omega
  unfold portOfField
  rw [dif_pos (by omega)]
  exact congrArg some (Fin.ext hn)

theorem portOfField_of_ge {n : Nat} (h : 24 ≤ n) : portOfField (BitVec.ofNat 5 (min 31 n)) = none := by
  have hn : (BitVec.ofNat 5 (min 31 n)).toNat = min 31 n := by
    rw [BitVec.toNat_ofNat]
    omega
  unfold portOfField
  rw [dif_neg (by omega)]

theorem injectionAction_of_good {b : List Byte} {p : Port} (hp : (byteAt b 0).toNat = p.val) (hst : s.exer.status = 2)
    (hdev : s.job.dev = .exerciser) (hm : (s.exPort p).mode ≠ 0) (h1 : 1 ≤ (byteAt b 1).toNat) (h9 : (byteAt b 1).toNat ≤ 9)
    (h3 : byteAt b 3 ≠ 0) (hroom : (s.exPort p).injections.length < 16) : injectionAction b s = s.setExPort p (fun x =>
      { x with injections := x.injections ++ [(byteAt b 1, byteAt b 2, byteAt b 3, field32 b 4)] }) := by
  have hcode : (byteAt b 1 == 0) = false := beq_false_of_ne fun e => by simp [e] at h1
  unfold injectionAction
  dsimp only
  rw [portOfField_of_lt hp]
  refine if_neg ?_
  rw [hst, hdev, beq_false_of_ne hm, hcode, decide_eq_false (by omega), beq_false_of_ne h3, decide_eq_false (by omega)]
  decide

theorem injectionAction_of_bad {b : List Byte} (h : 24 ≤ (byteAt b 0).toNat ∨ s.exer.status ≠ 2 ∨ byteAt b 1 = 0 ∨
    9 < (byteAt b 1).toNat ∨ byteAt b 3 = 0) : injectionAction b s = s.refuseExer false := by
  unfold injectionAction
  dsimp only
  split
  · rfl
  case h_2 p hp =>
    have hport : ¬ 24 ≤ (byteAt b 0).toNat := fun hge => by
      rw [portOfField_of_ge hge] at hp
      exact absurd hp (by simp)
    refine if_pos ?_
    simp only [Bool.or_eq_true, bne_iff_ne, beq_iff_eq, decide_eq_true_eq]
    tauto

/-- The oldest injection of a code that the port awaits. -/
theorem findIdx_of_awaited {code : U8} {l : List U8} (h : code ∈ l) : ∃ i, i < l.length ∧ l.findIdx? (· == code) = some i := by
  obtain ⟨i, hi⟩ := Option.isSome_iff_exists.1 ((List.findIdx?_isSome (p := (· == code))).trans (List.any_eq_true.2 ⟨code, h, beq_self_eq_true code⟩))
  exact ⟨i, (List.findIdx?_eq_some_iff_getElem.1 hi).1, hi⟩

theorem reactionDeadline_of_none {p : Port} {code : U8} (h : code ∉ (s.exPort p).waitReact) : reactionDeadline p code s = s := by
  have hnone : (s.exPort p).waitReact.findIdx? (· == code) = none :=
    List.findIdx?_eq_none_iff.2 fun c hc => beq_false_of_ne fun e => h (e ▸ hc)
  unfold reactionDeadline
  rw [hnone]

/-- The port awaits the injection at an index no longer. -/
def State.settledAt (p : Port) (i : Nat) (s : State) : State :=
  s.setExPort p (fun x => { x with waitReact := x.waitReact.eraseIdx i })

theorem State.settledAt_length {p : Port} {i : Nat} (h : i < (s.exPort p).waitReact.length) :
    ((s.settledAt p i).exPort p).waitReact.length + 1 = (s.exPort p).waitReact.length := by
  rw [State.settledAt, State.exPort_setExPort_self]
  exact List.length_eraseIdx_add_one h

theorem reactionDeadline_of_awaited {p : Port} {code : U8} {i : Nat} (h : (s.exPort p).waitReact.findIdx? (· == code) = some i) :
    reactionDeadline p code s =
      if silentCode code then (s.settledAt p i).setExer (fun x => { x with passed := bump x.passed })
      else (((s.settledAt p i).setExer (fun x => { x with failed := bump x.failed })).exerCheck p 0x10 []).record
        (ev3 0x1094 unitSwitch (arg1 p.val ++ [code])) := by
  unfold reactionDeadline
  rw [h]
  rfl

/-! ## The script (R529) -/

theorem State.scriptOps_of_run {e : ScriptEntry} (hst : s.exer.status = 2) (hdev : s.job.dev = .exerciser)
    (hx : s.exer.expecting = none) (he : s.exer.script[s.exer.pos.toNat]? = some e) (a : U8) :
    s.scriptOps a = if e.act == a then some e.ops else none := by
  unfold State.scriptOps
  rw [if_neg (by simp [hst, hdev, hx]), he]

theorem State.scriptOps_of_stopped (h : s.exer.status ≠ 2 ∨ s.job.dev ≠ .exerciser ∨ s.exer.expecting.isSome = true) (a : U8) :
    s.scriptOps a = none := by
  refine if_pos ?_
  simp only [Bool.or_eq_true, bne_iff_ne, or_assoc]
  exact h

theorem State.scriptRun_of_none {act : U8} (h : s.scriptOps act = none) (f : List Byte → State → State) :
    s.scriptRun act f = s := by
  unfold State.scriptRun
  rw [h]

/-- An action that is not the next one does nothing. -/
theorem State.next_scriptRun_of_none {act : U8} (h : s.scriptOps act = none) (f : List Byte → State → State) :
    (.next (s.scriptRun act f) : Host.Outcome State Fault Refusal) = .next s :=
  congrArg Host.Outcome.next (State.scriptRun_of_none h f)

theorem State.scriptRun_of_ops {act : U8} {ops : List Byte} (h : s.scriptOps act = some ops) (f : List Byte → State → State) :
    s.scriptRun act f = (f ops s).setExer (fun x => { x with pos := x.pos + 1 }) := by
  unfold State.scriptRun
  rw [h]

theorem State.toPeers_of_one {p : Port} (h : s.peerPorts = [p]) (f : Port → State → State) : s.toPeers f = f p s := by
  unfold State.toPeers
  rw [h]
  rfl

theorem State.exer_setExer (f : ExState → ExState) (s : State) : (s.setExer f).exer = f s.exer := rfl

theorem State.links_setExer (f : ExState → ExState) (s : State) : (s.setExer f).links = s.links := rfl

theorem State.exerSend_exer (p : Port) (op : U8) (step : U32) (a b body : List Byte) (s : State) :
    (s.exerSend p op step a b body).exer = s.exer :=
  (State.exerSend_keep (M := 0x40C00) rfl p op step a b body s (Keep.refl _ s)).exer rfl

theorem foldl_of_fixed {α : Type} {f : State → α → State} {s : State} (h : ∀ a, f s a = s) (l : List α) : l.foldl f s = s := by
  induction l with
  | nil => rfl
  | cons a l ih => rw [List.foldl_cons, h, ih]

/-- The segments of the tensor table that a STEP_OPEN carries to a peer. -/
def openSegments (ops : List Byte) (p : Port) (s : State) : State :=
  s.tableSegments.foldl (fun s q =>
    s.exerSend p opFENCE (field32 ops 0) ([1, 0, 0, 0] ++ le32 (field32 ops 4) ++ leBytes 4 q) [] (s.tableSegment q)) s

theorem scriptStepOpen_of_ops {ops : List Byte} (h : s.scriptOps 2 = some ops) : scriptStepOpen s =
    ((s.toPeers (openSegments ops)).setExer (fun x => { x with opened := x.opened ++ [field32 ops 0] })).setExer
      (fun x => { x with pos := x.pos + 1 }) := State.scriptRun_of_ops h _

theorem State.toPeers_openSegments_exer (ops : List Byte) (s : State) : (s.toPeers (openSegments ops)).exer = s.exer :=
  eq_foldl_of_eq State.exer (fun t _ => eq_foldl_of_eq State.exer (fun u _ => u.exerSend_exer ..) _ t) s.peerPorts s

/-- With nothing held there is nothing to ask for again. -/
theorem scriptResend_of_noneHeld {ops : List Byte} (h : s.scriptOps 6 = some ops) (hheld : s.exer.held = []) :
    scriptResend s = (s.setExer (fun x => { x with seenPieces := x.seenPieces.filter (fun k =>
      !(x.held.any (fun h => k.1 == h.1 && k.2.1 == h.2.1 && k.2.2.1 == h.2.2.1))) })).setExer (fun x => { x with pos := x.pos + 1 }) := by
  refine (State.scriptRun_of_ops h _).trans (congrArg (State.setExer _) (congrArg (State.setExer _) ?_))
  refine foldl_of_fixed (fun p => ?_) s.peerPorts
  dsimp only
  rw [hheld]
  rfl
end

/-- Settles O60: each command of the mode is its branch, and the script's actions run what they say on the one peer and move the
position on. -/
theorem exerciserRunsAndInjections : Obligations.ExerciserRunsAndInjections := by
  unfold Obligations.ExerciserRunsAndInjections
  refine ⟨?refused, ?entered, ?left, ?notLeft, ?badRun, ?run, fun s h => State.runBad_of_state h,
    fun s p hm hst => State.runBad_of_inactive hm hst, fun s p hp hm => State.runBad_of_fabricPeer hp hm, ?stop, ?noRun, ?noLength,
    ?length, ?injection, ?badInjection, ?noReaction, ?silent, ?failed, ?scriptOps, fun s a h => State.scriptOps_of_stopped h a,
    fun s h => State.next_scriptRun_of_none h _, fun s h => State.next_scriptRun_of_none h _,
    fun s h => State.next_scriptRun_of_none h _, fun s h => State.next_scriptRun_of_none h _,
    fun s h => State.next_scriptRun_of_none h _, fun s h => State.next_scriptRun_of_none h _,
    fun s h => State.next_scriptRun_of_none h _, fun s h => State.next_scriptRun_of_none h _,
    ?noEnd, ?epoch, ?stepOpen, ?stream, ?expect, ?ackPolicy, ?resend, ?fail, ?gambit, ?ends, ?noExpect, ?expectTimeout, ?breach⟩
  case refused =>
    intro s h
    exact congrArg Host.Outcome.next ((exerciserEnter_of_refused h).trans s.refuseExer_shown)
  case entered =>
    intro s h ht
    refine completes_of (congrArg Host.Outcome.next (exerciserEnter_of_idle h ht)) ?_
    obtain ⟨hjob, hexer, htele⟩ := State.trainAll_frame (s.exerEntered.setDev .exerciser)
    have hbefore : s.exerEntered.job = s.job := by simp [State.exerEntered, State.setExer]
    have hports : (s.exerEntered.setDev .exerciser).trainAll.exer =
        { s.exer with ports := s.exer.ports.map ExPort.cleared, status := 1 } := by
      rw [hexer, ← State.exerEntered_exer]
      simp only [State.setDev_frame]
    refine ⟨?_, by rw [hports], ?_, fun p => ?_⟩
    · rw [hjob, State.job_setDev (by rw [hbefore, h]; decide), hbefore]
    · rw [htele]
      simp only [State.setDev_frame]
      rfl
    · rw [hports]
      simp
  case left =>
    intro s h
    refine completes_of (congrArg Host.Outcome.next (exerciserLeave_of_exerciser h)) ?_
    obtain ⟨hjob, hstatus⟩ := s.exerLeft_frame
    obtain ⟨hstandby, -⟩ := s.exerLeft.enterStandby_frame (by rw [hjob, h]; decide)
    simp only [State.record_frame]
    exact ⟨by rw [hstandby, hjob], by rw [State.enterStandby_exer, hstatus]⟩
  case notLeft =>
    intro s h
    exact congrArg Host.Outcome.next (if_pos (bne_iff_ne.2 h))
  case badRun =>
    intro s h
    exact congrArg Host.Outcome.next ((exerciserRunStart_of_bad h).trans s.refuseExer_shown)
  case run =>
    intro s h
    exact completes_of (congrArg Host.Outcome.next (exerciserRunStart_of_good h))
      ⟨rfl, rfl, rfl, rfl, fun p => by simp [State.setExer], Quiet.of rfl⟩
  case stop =>
    intro s h hn
    exact congrArg Host.Outcome.next (State.endExRun_of_allResent h hn)
  case noRun =>
    intro s h
    refine ⟨congrArg Host.Outcome.next (State.endExRun_of_idle h), congrArg Host.Outcome.next ?_⟩
    unfold runLengthExpiry
    rw [State.endExRun_of_idle h, ite_self]
  case noLength =>
    intro s h
    exact congrArg Host.Outcome.next (if_pos (beq_iff_eq.2 h))
  case length =>
    intro s h
    exact congrArg Host.Outcome.next (if_neg (fun e => h (beq_iff_eq.1 e)))
  case injection =>
    intro s b p hp hst hdev hm h1 h9 h3 hroom
    refine completes_of (congrArg Host.Outcome.next (injectionAction_of_good hp hst hdev hm h1 h9 h3 hroom)) ?_
    exact ⟨by rw [State.exPort_setExPort_self], fun q hq => State.exPort_setExPort_ne hq _ s, Quiet.of rfl⟩
  case badInjection =>
    intro s b h
    exact congrArg Host.Outcome.next ((injectionAction_of_bad h).trans s.refuseExer_counted)
  case noReaction =>
    intro s p code h
    exact congrArg Host.Outcome.next (reactionDeadline_of_none h)
  case silent =>
    intro s p code h hcode
    obtain ⟨i, hi, hfind⟩ := findIdx_of_awaited h
    have hsilent : silentCode code = true := by rcases hcode with rfl | rfl | rfl <;> rfl
    refine completes_of (congrArg Host.Outcome.next ((reactionDeadline_of_awaited hfind).trans (if_pos hsilent))) ?_
    exact ⟨rfl, rfl, State.settledAt_length hi, Quiet.of rfl⟩
  case failed =>
    intro s p code h h6 h8 h9
    obtain ⟨i, hi, hfind⟩ := findIdx_of_awaited h
    have hloud : ¬ silentCode code = true := by
      rw [silentCode, beq_false_of_ne h6, beq_false_of_ne h8, beq_false_of_ne h9]
      decide
    refine completes_of (congrArg Host.Outcome.next ((reactionDeadline_of_awaited hfind).trans (if_neg hloud))) ?_
    have hrest := State.exerCheck_exerRest p 0x10 [] ((s.settledAt p i).setExer (fun x => { x with failed := bump x.failed }))
    refine ⟨?_, ?_, ?_⟩
    · simp only [State.record_frame]
      exact (congrArg ExState.failed hrest :)
    · simp only [State.record_frame]
      exact (congrArg ExState.passed hrest :)
    · rw [State.exPort_record, State.exerCheck_waitReact]
      exact State.settledAt_length hi
  case scriptOps =>
    intro s e hst hdev hx he
    refine ⟨?_, fun a ha => ?_⟩
    · rw [State.scriptOps_of_run hst hdev hx he, if_pos (beq_self_eq_true _)]
    · rw [State.scriptOps_of_run hst hdev hx he, if_neg (fun h => ha (beq_iff_eq.1 h).symm)]
  case noEnd =>
    intro s h
    refine congrArg Host.Outcome.next ?_
    unfold scriptEnd
    rw [h]
  case epoch =>
    intro s ops p h hp
    refine completes_of (congrArg Host.Outcome.next (State.scriptRun_of_ops h _)) ?_
    simp only [obMovesOn, State.toPeers_of_one hp, State.exer_setExer, State.links_setExer, State.exerSend_exer, and_self]
  case stepOpen =>
    intro s ops h
    refine completes_of (congrArg Host.Outcome.next (scriptStepOpen_of_ops h)) ?_
    simp only [obMovesOn, State.exer_setExer, s.toPeers_openSegments_exer ops, and_self]
  case stream =>
    intro s ops p h hp h1
    refine completes_of (congrArg Host.Outcome.next (State.scriptRun_of_ops h _)) ?_
    have hone : List.range (1 : U32).toNat = [0] := rfl
    simp only [obMovesOn, State.toPeers_of_one hp, State.exer_setExer, State.links_setExer, h1, hone, List.foldl_cons, List.foldl_nil,
      State.enqueue_frame, and_self]
  case expect =>
    intro s ops h
    exact congrArg Host.Outcome.next (State.scriptRun_of_ops h _)
  case ackPolicy =>
    intro s ops h
    exact congrArg Host.Outcome.next (State.scriptRun_of_ops h _)
  case resend =>
    intro s ops h hheld
    exact completes_of (congrArg Host.Outcome.next (scriptResend_of_noneHeld h hheld)) ⟨rfl, rfl⟩
  case fail =>
    intro s ops p h hp
    refine completes_of (congrArg Host.Outcome.next (State.scriptRun_of_ops h _)) ?_
    simp only [obMovesOn, State.toPeers_of_one hp, State.exer_setExer, State.links_setExer, State.exerSend_exer, and_self]
  case gambit =>
    intro s ops p h hp
    refine completes_of (congrArg Host.Outcome.next (State.scriptRun_of_ops h _)) ?_
    simp only [obMovesOn, State.toPeers_of_one hp, State.exer_setExer, State.links_setExer, State.exerSend_exer, and_self]
  case ends =>
    intro s ops h
    refine congrArg Host.Outcome.next ?_
    unfold scriptEnd
    rw [h]
    rfl
  case noExpect =>
    intro s h
    exact congrArg Host.Outcome.next (if_pos (by rw [h]; rfl))
  case expectTimeout =>
    intro s h
    obtain ⟨x, hx⟩ := Option.isSome_iff_exists.1 h
    refine completes_of (congrArg Host.Outcome.next (if_neg (by simp [hx]))) ⟨rfl, ?_, ?_⟩
    · exact (congrArg ExState.status s.breakAgent_exerRest :)
    · exact (State.breakAgent_keep (M := 0x4C0000) rfl s (Keep.refl _ s)).job rfl
  case breach =>
    intro s p hdr hrun hcount
    obtain ⟨noted, hcheck, hcounts⟩ := State.exerCheck_of_first (hdr := hdr) (code := 0x11) hrun (by simpa using hcount)
    rw [hcheck, State.exPort_record, State.exPort_setExPort_self, hcounts, State.record_tele, State.record_tele]
    refine ⟨State.recordTele_congr rfl rfl, ?_⟩
    simp [addAt, hcount, bumpBy]

end Sys2Proof.Machine
end
